-- ==== Sys2Proof/Word.lean ====
section
/-! DEFINITION. The words of the device: 32-bit registers (R7) and bytes. -/

namespace Sys2Proof

/-- A register or memory word: 32 bits, little-endian (R7). -/
abbrev Word := BitVec 32

/-- One byte of buffer memory. -/
abbrev Byte := BitVec 8

end Sys2Proof
end

