-- ==== Sys2Proof/Syntax.lean ====
section
/-! DEFINITION. The commands of the device: one constructor of Instr for each row of spec/opcode_table.json, with the
operands that the row's rule takes from outside. A command that is an event asserts that its event occurs now. -/

namespace Sys2Proof.Machine

/-- Whoever makes a register access: an owner through BAR0 (R576), a sequencer core or Camellia (R577), or the debug
port (R542). Each has shadows and snapshots of its own (R44, R125, R341). -/
inductive Rq where
  | od (n : Fin 4)
  | ms (n : Fin 4)
  | camellia
  | dbg
  deriving DecidableEq, Repr

/-- A cell of *The four levels*. Field channels are numbered FI0–FI31, FQ0–FQ23 at 32, FX0–FX7 at 56, BS0–BS15 at 64. -/
inductive Cell where
  | axis (n : Fin 16)
  | aux (n : Fin 24)
  | can (n : Fin 4)
  | dma (n : Fin 32)
  | field (k : Fin 80)
  | capture (k : Fin 64)
  deriving DecidableEq, Repr

/-- A cluster of *The four levels*. -/
inductive Cluster where
  | axisPair (n : Fin 8)
  | aux (c : Fin 4)
  | can
  | dma
  deriving DecidableEq, Repr

/-- The contents of a received announce message that the best master clock algorithm and R48 use. -/
structure Announce where
  gm : Nat
  priority1 : Nat
  clockClass : Nat
  accuracy : Nat
  variance : Nat
  priority2 : Nat
  stepsRemoved : Nat
  utcValid : Bool
  utcOffset : Nat
  leap61 : Bool
  leap59 : Bool
  port : Fin 2
  intervalNs : Nat
  domain : BitVec 8
  deriving DecidableEq, Repr

/-- The master's time that a sync gives: a one-step sync carries its origin timestamp and a correction; with a two-step sync the
origin timestamp comes with the follow-up, and both messages bring a correction (R49); in units of 2^-16 ns.
[DEDUCED, unsafe, log 142] -/
inductive SyncTime where
  | oneStep (origin : Nat) (corr : Int)
  | twoStep (corr : Int) (origin : Nat) (followCorr : Int)
  deriving DecidableEq, Repr

/-- A clock as one port knows it (R601). -/
structure PortClock where
  port : Fin 2
  gm : Nat
  deriving DecidableEq, Repr

/-- A clock within a domain of the time protocols (R49). -/
structure DomainClock where
  domain : BitVec 8
  gm : Nat
  deriving DecidableEq, Repr

/-- Bytes that have moved from a source, and how many of its words the reading corrected (R347). -/
structure Moved where
  data : List Byte
  fixed : Nat
  deriving DecidableEq, Repr

/-- A link that comes up: its rate as in ETHn_STATUS, and the position of the word alignment measured then, in units of
2^-10 ns (R52). -/
structure LinkUp where
  rate : Fin 3
  align : Fin 65536
  deriving DecidableEq, Repr

/-- The PTP messages that the time base sends by itself (R52). -/
inductive PtpMsg where
  | sync | followUp | announce | delayReq | delayResp | pdelayReq | pdelayResp | pdelayRespFollowUp
  deriving DecidableEq, Repr

/-- What Camellia finds in an image or a signed policy that it reads (R534, *Image checks*): the hash of the header's
key, whether the signature and the component hashes verify, the security version, the version, and whether the image's
Camellia or Hollyhock components differ from those that run (R538). -/
structure Image where
  keyHash : Nat
  sigOk : Bool
  hashesOk : Bool
  svn : Nat
  version : Nat
  size : Nat
  changesCore : Bool
  deriving DecidableEq, Repr

/-- A data address of an engine's memory command (*Y-slot formats*): [Pn + off], [Pn] with Pn += off, or absolute. -/
inductive EAddr where
  | off (p : Fin 8) (words : BitVec 10)
  | post (p : Fin 8) (words : BitVec 10)
  | abs (word : BitVec 15)
  deriving DecidableEq, Repr

/-- What program stands at a slot's entry point: one whose bundles issue as commands of their own, or one of the three
library programs of *The library cascade*, which runs whole. -/
inductive AeProg where
  | bundles | current | outer | supervision
  deriving DecidableEq, Repr

/-- What an autotune stage identifies by the time it ends (R221): the conditions of the stage met or not, the fit
residual, and the three identified words of the stage. -/
structure AtResult where
  ok : Bool
  fit : Word
  w0 : Word
  w1 : Word
  w2 : Word
  deriving DecidableEq, Repr

/-- A Lanyo SEGMENT as received (*SEGMENT payload*). -/
structure SegMsg where
  shaft : BitVec 8
  priority : BitVec 8
  seq : Word
  sec : BitVec 16
  ns : Word
  frac : BitVec 16
  valid : Word
  p0 : BitVec 64
  v0 : BitVec 64
  a0 : Word
  j0 : Word
  deriving DecidableEq, Repr

/-- A Lanyo JOIN as received: the sender's cycle, the shafts it publishes and its roles, two bits per shaft. -/
structure JoinMsg where
  cycle : BitVec 8
  published : BitVec 8
  roles : BitVec 16
  deriving DecidableEq, Repr

/-- A store of the line-shaft unit (R283). -/
inductive ShaftStore where
  | cam (t : Fin 64)
  | follower (k : Fin 168)
  | segment (h : Fin 8)
  deriving DecidableEq, Repr

/-- A descriptor beside its opcode (*Descriptor header*): class byte, flags, tag, target, the reserved word and the
48 payload bytes. -/
structure Desc where
  cls : BitVec 8
  flags : BitVec 16
  tag : Word
  target : Word
  reserved : Word
  payload : List Byte
  deriving DecidableEq, Repr

/-- How a copy segment ends (R360, R362): written out, with the bytes that the host answered for a COPY_IN; a host
completion error or timeout; or an uncorrectable error of the buffer or the staging buffer. -/
inductive SegEnd where
  | done (x : Moved)
  | hostError
  | dataError
  deriving DecidableEq, Repr

/-- What a conversion of a cluster ADC is for (*ADC request classes*): an AUX_SAMPLE with its input, the reference of
R292, a bridge current, and a peak or valley of a coil. -/
inductive AdcUse where
  | sample (input : Nat)
  | reference
  | current
  | peak (coil : Nat)
  | valley (coil : Nat)
  deriving DecidableEq, Repr

/-- The SecTAG of a received frame as the port sees it (R402, R403, R405): the receive channel that its SCI names, if any,
the association number, the packet number, whether it is encrypted, and whether its ICV verifies. -/
structure SecTag where
  rxsc : Option (Fin 8)
  an : Fin 4
  pn : Word
  enc : Bool
  icv : Bool
  deriving DecidableEq, Repr

/-- A frame as received at a port: its cleartext from the destination address up to the FCS, its length on the wire from
destination address through FCS, its SecTAG, and whether its FCS is good and the packet buffer keeps it sound (R388, R406).
[DEDUCED, unsafe, log 202] -/
structure RxFrame where
  bytes : List Byte
  wire : Nat
  sec : Option SecTag
  good : Bool
  deriving DecidableEq, Repr

/-- An error of a CAN frame as the controller detects it (ISO 11898-1), in the order of CANn_ERRCNT.LEC from 1. -/
inductive CanErrKind where
  | stuff | form | ack | bit1 | bit0 | crc
  deriving DecidableEq, Repr

/-- A CAN error, and whether it is one that the standard counts differently: a transmit error that does not count, or a
receive error that counts 8. -/
structure CanErr where
  kind : CanErrKind
  special : Bool
  deriving DecidableEq, Repr

/-- A CAN frame: identifier, extended identifier, remote frame, error state indicator, data length code, bit-rate switch,
FD format, and its data bytes. -/
structure CanFrame where
  id : BitVec 29
  xtd : Bool
  rtr : Bool
  esi : Bool
  dlc : BitVec 4
  brs : Bool
  fdf : Bool
  data : List Byte
  deriving DecidableEq, Repr

/-- What the two safety channels find at the start of a safety cycle (R449): the raw levels of SI0A to SI7A and SI0B to
SI7B and of SRESET, the groups whose gate or pin readback disagrees with the command (R461), whether the channels'
results differ, a channel's own copy of the set in force fails its check (R481), or a Foxglove register differs from it
(R474), and the STO pins that their channel fails to re-arm in the cycle, STOg_EN0 at bit 2g and STOg_EN1 at bit 2g + 1
(R459). -/
structure SafIn where
  a : BitVec 8
  b : BitVec 8
  sreset : Bool
  readback : BitVec 4
  disagree : Bool
  copyBad : Bool
  fxgBad : Bool
  unarmed : BitVec 8
  deriving DecidableEq, Repr

/-- A wake source of *Wake sources*; a field input by its FI channel. -/
inductive WakeSrc where
  | network
  | host
  | fieldInput (k : Fin 32)
  | safeInput
  | timer
  | wakeN
  deriving DecidableEq, Repr

/-- What the policy in force gives to one initiator (R3, R60, R69, R189, R354, R396, R434). -/
inductive Obj where
  | axis (n : Nat)
  | aux (n : Nat)
  | nax (n : Nat)
  | session (n : Nat)
  | can (n : Nat)
  | queue (n : Nat)
  | dma (n : Nat)
  | slot (port k : Nat)
  | fieldOut (j : Nat)
  | engine (n : Nat)
  | event (k : Nat)
  | probe (k : Nat)
  | capChan (k : Nat)
  | tb | glb | clk | lsp | lsh | lshShaft | lshCam | lshReg | lshCsw | mem | eth | fio | auxCl | evt | rst | dbgGrant
  deriving DecidableEq, Repr

/-- The initiators of the device (R69, *POOL_LAST_INFO*). -/
inductive Init where
  | od (n : Nat)
  | larkspur
  | lineShaft
  | camellia
  | lupin
  | none
  deriving DecidableEq, Repr

/-- The owner roles of R315. -/
inductive Role where
  | operator | maintainer | safety | observer
  deriving DecidableEq, Repr

/-- The policy in force: who holds which object (an object that the list does not name belongs to OD0), the role of
each owner, the pool quotas and class B weights, and the subsystem identity of each function (R313, R315). -/
structure Policy where
  holders : List (Obj × Init)
  roles : List Role
  version : Nat
  svn : Nat
  subsystemIds : List Nat
  quotas : List Nat
  weights : List Nat
  deriving DecidableEq, Repr

/-- What a management sensor reads (*Management sensors*): a temperature in units of 1/16 °C, a voltage in mV, the slack of
a critical-path delay monitor in ps. -/
inductive SensorRead where
  | temperature (i : Fin 12) (v : BitVec 16)
  | voltage (i : Fin 16) (mv : BitVec 16)
  | delay (i : Fin 24) (ps : BitVec 16)
  deriving DecidableEq, Repr

/-- A debug certificate as shifted in (*Debug certificate*): FORMAT, PERMIT, IDENTITY, CHALLENGE, NOT_BEFORE, NOT_AFTER,
the SHA-384 hash of KEY, and whether SIGNATURE verifies with KEY. -/
structure Cert where
  format : BitVec 16
  permit : BitVec 16
  identity : BitVec 128
  challenge : BitVec 384
  notBefore : BitVec 48
  notAfter : BitVec 48
  keyHash : Nat
  sigOk : Bool
  deriving DecidableEq, Repr

end Sys2Proof.Machine

namespace Sys2Proof

open Machine

/-- The commands: one constructor per row of the opcode table, in the table's order. -/
inductive Instr where
  | registerWrite (rq : Rq) (addr : Nat) (value : Word)
  | cellFault (cell : Cell)
  | cellSafeStateTimeout (cell : Cell)
  | clusterFault (cl : Cluster)
  | clusterFenceTimeout (cl : Cluster)
  | regionFault (r : Fin 7)
  | isolationConfirmTimeout (r : Fin 7)
  | topFabricTimeout
  | chipLevelFault (cause : Fin 8) (r : Fin 7)
  | tbCtrlWrite (rq : Rq) (value : Word)
  | servoEn (rq : Rq) (on : Bool)
  | tickSrcChange (rq : Rq) (net : Bool)
  | tbTimeShadowFill (rq : Rq)
  | tbShadowRead (rq : Rq) (part : Fin 3)
  | announceReceived (a : Announce)
  | announceTimeout (lost : PortClock)
  | syncReceived (port : Fin 2) (src : DomainClock) (rx : Nat) (master : SyncTime) (delay : Int) (intervalNs : Nat)
  | gmSwitchTimeout
  | gmHoldoffEnd
  | holdoverEntry
  | timeStep
  | tbSet (rq : Rq)
  | tbStep (rq : Rq)
  | gmSwitch (rq : Rq)
  | tbAdjWrite (rq : Rq) (value : Word)
  | lqPush (rq : Rq) (q : Fin 16)
  | lqFlush (rq : Rq) (q : Fin 16)
  | lqCancel (rq : Rq) (q : Fin 16) (value : Word)
  | launchDelivery (q : Fin 16)
  | queueParityError (q : Fin 16)
  | axisOff (n : Fin 16)
  | auxOff (n : Fin 24)
  | fieldOff (j : Fin 32)
  | axisSample (n : Fin 16)
  | dclinkSample (g : Fin 4)
  | auxSample (n : Fin 24)
  | captureSample (c : Fin 4)
  | pwmPeriod (n : Fin 16)
  | commutate (n : Fin 16)
  | fieldWrite (j : Fin 32)
  | ethLaunch (p : Fin 2)
  | canLaunch (c : Fin 4) (idle : Bool)
  | swEvent (e : Fin 64)
  | captureTrigger (c : Fin 4)
  | pwmArm (rq : Rq) (n : Fin 16)
  | pwmDisarm (rq : Rq) (n : Fin 16)
  | pwmStart (rq : Rq) (n : Fin 16)
  | outEn (rq : Rq) (n : Fin 16)
  | pwmFaultClr (rq : Rq) (n : Fin 16)
  | pwmUpdatePoint (n : Fin 16) (zero : Bool)
  | pwmCompareCrossing (n : Fin 16) (value : Nat) (up : Bool)
  | pwmDeadTimeEnd (n : Fin 16) (sw : Fin 6) (pos : Nat) (up : Bool)
  | switchingNodeTransition (n : Fin 16) (phase : Fin 3) (rise : Bool) (delay : Nat)
  | deadTimeFallback (n : Fin 16) (dir : Fin 6)
  | alignEvent (n : Fin 16)
  | pwmMaskWrite (rq : Rq) (n : Fin 16) (i : Fin 8) (value : Word)
  | pwmMaskCfgWrite (rq : Rq) (n : Fin 16) (value : Word)
  | pwmAlignWrite (rq : Rq) (n : Fin 16) (value : Word)
  | pwmCfgWrite (rq : Rq) (n : Fin 16) (value : Word)
  | pwmDtCfgWrite (rq : Rq) (n : Fin 16) (value : Word)
  | pwmEvtCfgWrite (rq : Rq) (n : Fin 16) (value : Word)
  | bchWindowStart (g : Fin 4)
  | bchDutyLimit (g : Fin 4)
  | bchMinTimeEnd (g : Fin 4)
  | sinc3Result (n : Fin 16) (rawA rawB : Nat)
  | fastResult (n : Fin 16) (rawA rawB : Nat)
  | currentInputStuck (n : Fin 16) (b : Bool)
  | dclinkFreeResult (g : Fin 4) (raw : Nat)
  | dclinkSampleResult (g : Fin 4) (raw : Nat)
  | dclinkStuck (g : Fin 4)
  | dlCfgWrite (rq : Rq) (g : Fin 4) (value : Word)
  | sdclkFreqApply (k : Fin 4)
  | csCfgWrite (rq : Rq) (n : Fin 16) (value : Word)
  | csStampRead (rq : Rq) (n : Fin 16)
  | tlmStampRead (rq : Rq) (n : Fin 16)
  | tlmFrame (n : Fin 16) (offset : Fin 160) (frame : Nat)
  | tlmCfgWrite (rq : Rq) (n : Fin 16) (value : Word)
  | fbCfgWrite (rq : Rq) (n : Fin 16) (value : Word)
  | fbSampleReady (n : Fin 16)
  | encoderEdge (n : Fin 16) (up both : Bool)
  | encoderLineLoss (n : Fin 16)
  | indexEdge (n : Fin 16)
  | sincosConversion (n : Fin 16) (a b quads : Int)
  | rideExpiry (n : Fin 16)
  | ssiTransferDone (n : Fin 16) (startHigh : Bool) (frame : Nat)
  | ssiIdleEnd (n : Fin 16)
  | hallTransition (n : Fin 16) (st : Fin 8)
  | fbLoad (rq : Rq) (n : Fin 16)
  | fbFaultClr (rq : Rq) (n : Fin 16)
  | zArm (rq : Rq) (n : Fin 16)
  | softLimitWrite (rq : Rq) (n : Fin 16) (max : Bool) (value : Word)
  | fbStampRead (rq : Rq) (n : Fin 16)
  | probeEdge (k : Fin 8) (falling : Bool) (sub : Fin 4)
  | probePop (rq : Rq) (k : Fin 8)
  | probeCfgWrite (rq : Rq) (k : Fin 8) (value : Word)
  | basePeriodStart (n : Fin 8)
  | slotStart (n : Fin 8) (k : Fin 32) (prog : AeProg)
  | slotOverrun (n : Fin 8)
  | slotWindowEnd (n : Fin 8)
  | bgYield (n : Fin 8) (k : Fin 32)
  | aeCommit (rq : Rq) (n : Fin 8)
  | aeDiscardPending (rq : Rq) (n : Fin 8)
  | aeRun (rq : Rq) (n : Fin 8) (on : Bool)
  | aeBgEn (rq : Rq) (n : Fin 8) (on : Bool)
  | aeFaultClr (rq : Rq) (n : Fin 8)
  | programMemoryWrite (rq : Rq) (n : Fin 8) (i : Fin 16384) (value : Word)
  | axisStateWrite (rq : Rq) (m : Fin 16) (i : Fin 4096) (burst : List Word)
  | engineEccError (n : Fin 8) (mem : Fin 4) (fatal : Bool)
  | xNop (n : Fin 8)
  | add (n : Fin 8) (rd ra rb : Fin 16)
  | sub (n : Fin 8) (rd ra rb : Fin 16)
  | adds (n : Fin 8) (rd ra rb : Fin 16)
  | subs (n : Fin 8) (rd ra rb : Fin 16)
  | and (n : Fin 8) (rd ra rb : Fin 16)
  | or (n : Fin 8) (rd ra rb : Fin 16)
  | xor (n : Fin 8) (rd ra rb : Fin 16)
  | shl (n : Fin 8) (rd ra : Fin 16) (sh : Fin 64)
  | shr (n : Fin 8) (rd ra : Fin 16) (sh : Fin 64)
  | shra (n : Fin 8) (rd ra : Fin 16) (sh : Fin 64)
  | min (n : Fin 8) (rd ra rb : Fin 16)
  | max (n : Fin 8) (rd ra rb : Fin 16)
  | abs (n : Fin 8) (rd ra : Fin 16)
  | neg (n : Fin 8) (rd ra : Fin 16)
  | movi (n : Fin 8) (rd : Fin 16) (imm : BitVec 16)
  | movhi (n : Fin 8) (rd : Fin 16) (imm : BitVec 16)
  | cmp (n : Fin 8) (ra rb : Fin 16)
  | mul (n : Fin 8) (acc : Fin 2) (ra rb : Fin 16)
  | mac (n : Fin 8) (acc : Fin 2) (ra rb : Fin 16)
  | msu (n : Fin 8) (acc : Fin 2) (ra rb : Fin 16)
  | mullo (n : Fin 8) (rd ra rb : Fin 16)
  | ald (n : Fin 8) (acc : Fin 2) (ra : Fin 16) (sh : Fin 64)
  | aadd (n : Fin 8) (acc : Fin 2) (ra : Fin 16) (sh : Fin 64)
  | asub (n : Fin 8) (acc : Fin 2) (ra : Fin 16) (sh : Fin 64)
  | amov (n : Fin 8) (acc : Fin 2) (ra rb : Fin 16)
  | ext (n : Fin 8) (rd : Fin 16) (acc : Fin 2) (sh : Fin 64)
  | extl (n : Fin 8) (rd : Fin 16) (acc : Fin 2)
  | divs (n : Fin 8) (acc : Fin 2) (rb : Fin 16) (first : Bool)
  | tsin (n : Fin 8) (rd ra : Fin 16)
  | tcos (n : Fin 8) (rd ra : Fin 16)
  | rsq (n : Fin 8) (rd ra : Fin 16)
  | yNop (n : Fin 8)
  | ld (n : Fin 8) (rd : Fin 16) (addr : EAddr)
  | st (n : Fin 8) (rs : Fin 16) (addr : EAddr)
  | ldd (n : Fin 8) (rd : Fin 16) (addr : EAddr)
  | std (n : Fin 8) (rs : Fin 16) (addr : EAddr)
  | lds (n : Fin 8) (pair : Fin 13) (word : BitVec 15)
  | sts (n : Fin 8) (pair : Fin 13) (word : BitVec 15)
  | mfs (n : Fin 8) (rd : Fin 16) (spr : Fin 21)
  | mts (n : Fin 8) (spr : Fin 21) (rs : Fin 16)
  | jmp (n : Fin 8) (target : BitVec 13)
  | brcc (n : Fin 8) (cond : Fin 11) (target : BitVec 13)
  | loop (n : Fin 8) (l : Fin 2) (count : Fin 4096) (last : BitVec 13)
  | loopr (n : Fin 8) (l : Fin 2) (rs : Fin 16) (last : BitVec 13)
  | end_ (n : Fin 8)
  | wait (n : Fin 8)
  | retb (n : Fin 8)
  | illegalBundle (n : Fin 8)
  | tsStart (rq : Rq) (m : Fin 16) (seq : BitVec 8) (ticket : BitVec 16)
  | tsAbort (rq : Rq) (m : Fin 16) (seq : BitVec 8)
  | obsReset (rq : Rq) (m : Fin 16)
  | supFaultClr (rq : Rq) (m : Fin 16)
  | supScan (m : Fin 16)
  | atCurrentPlant (rq : Rq) (m : Fin 16) (seq : BitVec 8) (ticket : BitVec 16)
  | atMechanics (rq : Rq) (m : Fin 16) (seq : BitVec 8) (ticket : BitVec 16)
  | atResonance (rq : Rq) (m : Fin 16) (seq : BitVec 8) (ticket : BitVec 16)
  | atApply (rq : Rq) (m : Fin 16) (seq : BitVec 8) (number : BitVec 16)
  | atUndo (rq : Rq) (m : Fin 16) (seq : BitVec 8)
  | atAbort (rq : Rq) (m : Fin 16) (seq : BitVec 8)
  | atStageDone (m : Fin 16) (result : AtResult)
  | lspCfgWrite (rq : Rq) (k : Fin 168) (value : Word)
  | moveAbsolute (rq : Rq) (k : Fin 168) (queue startAt : Bool)
  | moveRelative (rq : Rq) (k : Fin 168) (queue startAt : Bool)
  | velocityMove (rq : Rq) (k : Fin 168) (queue startAt : Bool)
  | stop (rq : Rq) (k : Fin 168)
  | quickStop (rq : Rq) (k : Fin 168)
  | home (rq : Rq) (k : Fin 168)
  | applyLimits (rq : Rq) (k : Fin 168)
  | flushQueue (rq : Rq) (k : Fin 168)
  | clearFault (rq : Rq) (k : Fin 168)
  | holdEntry (k : Fin 16)
  | stopTimeout (k : Fin 168)
  | homeLoad (k : Fin 40)
  | homeTimeout (k : Fin 168)
  | groupAbsolute (rq : Rq) (g : Fin 16) (startAt : Bool)
  | groupRelative (rq : Rq) (g : Fin 16) (startAt : Bool)
  | groupStop (rq : Rq) (g : Fin 16)
  | groupQuickStop (rq : Rq) (g : Fin 16)
  | sequencerCoreFault (c : Fin 4)
  | planEccError (k : Fin 168)
  | enReq (rq : Rq) (hi : Bool) (value : Word)
  | staggerEnable (g : Fin 4)
  | lshCfgWrite (rq : Rq) (value : Word)
  | segmentReceived (domain : BitVec 16) (member : BitVec 8) (seg : SegMsg)
  | lineShaftCycleStart
  | regWindowTimeout (r : Fin 16)
  | engage (rq : Rq) (k : Fin 168) (startAt : Bool)
  | applyRatio (rq : Rq) (k : Fin 168)
  | disengage (rq : Rq) (k : Fin 168)
  | nextTable (rq : Rq) (k : Fin 168)
  | camCommit (rq : Rq) (t : Fin 64)
  | camComputeDone (t : Fin 64)
  | camRelease (rq : Rq) (t : Fin 64)
  | lshStorageError (store : ShaftStore)
  | joinReceived (src : BitVec 48) (domain : BitVec 16) (member : BitVec 8) (join : JoinMsg)
  | statusReceived (domain : BitVec 16) (member : BitVec 8)
  | statusSend
  | memberTimeout (m : Fin 256)
  | membershipComplete
  | auxCfgWrite (rq : Rq) (c : Fin 24) (offset : Nat) (value : Word)
  | auxOutEn (rq : Rq) (c : Fin 24)
  | auxFaultClr (rq : Rq) (c : Fin 24)
  | adcConversionDone (cl : Fin 4) (code : BitVec 12)
  | adcRequestDiscard (cl : Fin 4) (ch : Fin 6) (use : AdcUse)
  | adcReferenceCheck (cl : Fin 4)
  | auxEvalInterval (c : Fin 24)
  | microstep (c : Fin 24)
  | chopperCrossing (c : Fin 24) (coil : Fin 2) (seen : Fin 3)
  | chopperBlankEnd (c : Fin 24) (coil : Fin 2)
  | decayMinEnd (c : Fin 24) (coil : Fin 2)
  | standstillReduction (c : Fin 24)
  | openCoil (c : Fin 24) (coil : Fin 2)
  | bldcAlignEnd (c : Fin 24)
  | bldcPwmPeriod (c : Fin 24) (above : Bool)
  | bldcCommutation (c : Fin 24)
  | missedSector (c : Fin 24)
  | bldcCoastEnd (c : Fin 24)
  | bldcRetryRefill (c : Fin 24)
  | configRequest (n : Fin 4)
  | hifEnable (rq : Rq) (n : Fin 4) (value : Word)
  | sqCfgWrite (rq : Rq) (n : Fin 4) (k : Fin 8) (value : Word)
  | cqCfgWrite (rq : Rq) (n : Fin 4) (k : Fin 9) (value : Word)
  | doorbellPoll (n : Fin 4) (tails heads rest : List Word)
  | nop (n : Fin 4) (k : Fin 8) (d : Desc)
  | setpoint (n : Fin 4) (k : Fin 8) (d : Desc)
  | launchPush (n : Fin 4) (k : Fin 8) (d : Desc)
  | launchCancel (n : Fin 4) (k : Fin 8) (d : Desc)
  | axisCmd (n : Fin 4) (k : Fin 8) (d : Desc)
  | regBlock (n : Fin 4) (k : Fin 8) (d : Desc) (data : List Word)
  | copyIn (n : Fin 4) (k : Fin 8) (d : Desc)
  | copyOut (n : Fin 4) (k : Fin 8) (d : Desc)
  | poolAlloc (n : Fin 4) (k : Fin 8) (d : Desc)
  | poolFree (n : Fin 4) (k : Fin 8) (d : Desc)
  | heartbeat (n : Fin 4)
  | heartbeatReadback (n : Fin 4) (k : Fin 9) (error : Bool) (data : List Byte)
  | heartbeatTimeout (n : Fin 4) (k : Fin 9)
  | irqHoldEnd (n : Fin 4) (k : Fin 9)
  | wideReadLo (rq : Rq) (addr : Nat)
  | wideReadHi (rq : Rq) (addr : Nat)
  | hifTornWrite (rq : Rq) (value : Word)
  | functionLevelReset (n : Fin 4)
  | poolCountWrite (rq : Rq) (c : Fin 4) (value : Word)
  | memSegWrite (rq : Rq) (value : Word)
  | dmaStart (rq : Rq) (n : Fin 28)
  | dmaResume (rq : Rq) (n : Fin 28)
  | dmaAbort (rq : Rq) (n : Fin 28)
  | dmaDone (n : Fin 28) (x : Moved)
  | dmaHalt (n : Fin 28) (reason : Fin 16) (write : Bool) (addr : BitVec 64) (moved : Nat) (x : Moved)
  | copySegmentDone (c : Fin 4) (res : SegEnd)
  | patrolScrub (ipm : Bool) (word : Nat) (corrected poisoned : Bool)
  | stagingFault (c : Fin 4)
  | capBindWrite (rq : Rq) (k : Fin 64) (value : Word)
  | captureArm (rq : Rq) (c : Fin 4)
  | captureStop (rq : Rq) (c : Fin 4)
  | captureForce (rq : Rq) (c : Fin 4)
  | captureUnload (rq : Rq) (c : Fin 4)
  | captureRowLatch (c : Fin 4)
  | envCommit (rq : Rq) (k : Fin 64)
  | envLoadDone (k : Fin 64) (ok : Bool)
  | unloadDone (c : Fin 4) (halt : Option (Fin 16 × BitVec 64))
  | captureChannelFault (k : Fin 64)
  | ethCfgWrite (rq : Rq) (p : Fin 2) (value : Word)
  | ethLinkChange (p : Fin 2) (up : Bool) (link : LinkUp)
  | frameReceived (p : Fin 2) (f : RxFrame)
  | strangerHoldEnd (p : Fin 2)
  | fdbAgeing (mac : BitVec 48)
  | frameTransmitted (p : Fin 3)
  | gateConfigChange (rq : Rq) (p : Fin 3)
  | gateListTakeover (p : Fin 3)
  | gateEntryEnd (p : Fin 3)
  | launchFrameStart (p : Fin 2)
  | preemptVerifyDone (p : Fin 2) (ok : Bool)
  | saInstall (rq : Rq) (p : Fin 2) (an : Fin 4) (rxsc : Fin 8) (transmit : Bool)
  | transmitAreaWrite (rq : Rq) (p : Fin 2) (offset : BitVec 16) (value : Word)
  | mdioGo (rq : Rq)
  | mdioDone (data : BitVec 16)
  | ethPortFault (p : Fin 3)
  | canInitExit (rq : Rq) (c : Fin 4) (idle : Bool)
  | canInitEnter (rq : Rq) (c : Fin 4)
  | txbReq (rq : Rq) (c : Fin 4) (bufs : Word) (idle : Bool)
  | txbCancel (rq : Rq) (c : Fin 4) (bufs : Word)
  | canFrameSent (c : Fin 4)
  | canTxFailure (c : Fin 4) (err : Option CanErr)
  | busOffRecovery (c : Fin 4)
  | canFrameReceived (c : Fin 4) (f : CanFrame) (sof : Word) (err : Option CanErr)
  | ttEnable (rq : Rq) (c : Fin 4)
  | ttDisable (rq : Rq) (c : Fin 4)
  | canBasicCycle (c : Fin 4)
  | canWindowStart (c : Fin 4) (idle : Bool)
  | exclusiveWindowMissed (c : Fin 4)
  | rxElementLock (rq : Rq) (c : Fin 4) (q : Fin 2) (i : Fin 64)
  | rxElementRelease (rq : Rq) (c : Fin 4) (q : Fin 2) (i : Fin 64)
  | lockTimeout (c : Fin 4) (q : Fin 2)
  | rxqAck (rq : Rq) (c : Fin 4) (q : Fin 2) (n : Fin 128)
  | newClear (rq : Rq) (c : Fin 4) (q : Fin 2) (i : Fin 64)
  | canCellFault (c : Fin 4)
  | fieldInputChange (k : Fin 80) (level : Bool)
  | fioChCfgWrite (rq : Rq) (k : Fin 80) (value : Word)
  | wireBreak (k : Fin 64)
  | wireWhole (k : Fin 64)
  | fioOut (rq : Rq) (levels : Word)
  | fioOutSet (rq : Rq) (outputs : Word)
  | fioOutClr (rq : Rq) (outputs : Word)
  | fioOutFclr (rq : Rq) (outputs : Word) (hot : Word)
  | outputOvercurrent (j : Fin 32) (thermal : Bool)
  | readbackMismatch (j : Fin 32)
  | fxModeWrite (rq : Rq) (x : Fin 8) (mode : Fin 4)
  | vfieldLow
  | vfieldRecovered
  | bridgeHeartbeatLost
  | safetyCycle (i : SafIn)
  | discrepancyFault (p : Fin 8)
  | ss1Expiry (g : Fin 4)
  | sresetPulse
  | sresetStuck
  | channelClockLost
  | darkTest (n : Fin 16)
  | darkTestTimeout (n : Fin 16)
  | btStart (rq : Rq) (n : Fin 16) (ticket : BitVec 16)
  | btAbort (rq : Rq)
  | btSettleEnd
  | btPass
  | btCurrentTimeout
  | btDue (n : Fin 16)
  | btBlock (n : Fin 16)
  | safUnlock (rq : Rq) (value : Word)
  | unlockExpiry
  | psetLoad (rq : Rq)
  | psetCheckDone (agree : Bool)
  | psetDiscard (rq : Rq)
  | psetLapse
  -- Events (chapter 20)
  | eventDetected
  | eventRingDrain (n : Fin 4)
  | evtRouteWrite (rq : Rq) (k : Fin 2048) (value : Word)
  -- Clocks, resets and power states (chapter 21)
  | referenceReady (r : Fin 3)
  | referenceLost (r : Fin 3)
  | pllReady (p : Fin 3)
  | refSwitchTimeout
  | refHoldoffEnd
  | refSwitch (rq : Rq)
  | return_ (rq : Rq)
  | clkDomSelWrite (rq : Rq) (value : Word)
  | missingClockTrip
  | marigoldReady
  | marigoldTimeout
  | snowdropStop
  | snowdropTrim
  | marigoldTrimBurst
  | netpllLoss
  | mempllLoss
  | mempllTimeout
  | powerOnReset
  | brownOutReset
  | pinReset
  | watchdogReset
  | watchdogKick (rq : Rq)
  | softwareReset (rq : Rq) (scope : Fin 8)
  | camelliaLockup
  | pcieFundamentalReset
  | domainRelease
  | doze (rq : Rq)
  | dormant (rq : Rq)
  | wake (src : WakeSrc)
  | runReached
  -- Management, ageing and service life (chapter 22)
  | sensorSample (x : SensorRead)
  | flashFault
  | flashRecovered
  | ledgerAcquire (n : Fin 4) (seq : BitVec 16) (activity : Byte) (object : BitVec 16)
  | ledgerRelease (n : Fin 4) (seq ticket : BitVec 16)
  | ledgerList (n : Fin 4) (seq first : BitVec 16)
  | ledgerWithdraw (ticket : BitVec 16)
  | imageStage (n : Fin 4) (found : Image)
  | imageActivate (n : Fin 4) (seq : BitVec 16) (mode : Byte)
  | imageConfirm (n : Fin 4) (seq : BitVec 16)
  | policyStage (n : Fin 4) (found : Image) (policy : Policy)
  | journalRead (n : Fin 4) (seq : BitVec 16) (first : BitVec 64) (count handle : Word)
  | lifeRead (n : Fin 4) (seq first : BitVec 16)
  | sensorRead (n : Fin 4) (seq : BitVec 16)
  | planList (n : Fin 4) (seq first : BitVec 16)
  | vcoreAdjust (avsOk : Bool)
  | sramMarginTest (failing : List (BitVec 16))
  | trimDriftCheck
  | flashRefresh
  | otpRefresh
  | thermalModelUpdate
  | replan
  | lifeCounterSave
  | calendarSet
  | testLogicReset (trst : Bool)
  | extest
  | idcode
  | samplePreload (cells : Nat)
  | clamp
  | highz
  | bypass (code : BitVec 8)
  | dbgChal
  | dbgCert (c : Cert)
  | dbgStatus
  | dbgLock
  | dbgAccess (write : Bool) (offset data : Word)
  | coreHalt (core : Fin 8)
  | coreResume (core : Fin 8)
  | coreSingleStep (core : Fin 8)
  | coreReadRegister (core : Fin 8) (reg : BitVec 24)
  | coreWriteRegister (core : Fin 8) (reg : BitVec 24) (data : Word)
  | coreReadMemory (core : Fin 8) (addr : BitVec 24)
  | coreWriteMemory (core : Fin 8) (addr : BitVec 24) (data : Word)
  | dbgReset
  | debugSessionExpiry
  | debugRefusalPeriodEnd
  -- Rows that stand last in the table
  | registerRead (rq : Rq) (addr : Nat)
  | ptpTransmit (port : Fin 2) (m : PtpMsg)
  | pcieLinkChange (speed : Fin 4) (width : Fin 3) (l1 : Bool)
  | mgtMsg (n : Fin 4) (k : Fin 8) (d : Desc) (msg : List Byte) (found : Image) (policy : Policy)
  | badOpcodeDescriptor (n : Fin 4) (k : Fin 8) (opcode : BitVec 8) (d : Desc)
  | badTypeMessage (n : Fin 4) (seq type : BitVec 16)
  | fwVerified
  | psetLoaded (ok : Bool)
  | memReady
  | logCompaction
  deriving DecidableEq, Repr

end Sys2Proof
end

