-- ==== Sys2Proof/Decode.lean ====
section
/-! DEFINITION. The commands that a word spells. spec/opcode_table.json gives no row any bits: a command reaches this block
as an access, an event or a record of the outside, never as an instruction word, and so no word spells a command of the
table. The slots of an engine's bundle do have an encoding (*X-slot formats*, *Y-slot formats*): decodeX and decodeY read the
operation that a slot of a bundle spells, or none where R194 makes the bundle illegal. -/

namespace Sys2Proof

/-- The command that a word spells by the table's bits: none, since the table gives no row bits.
[DESIGN CHOICE, safe, log 1] -/
def decodeTableWord (_nbits _w : Nat) : Option Instr := none

/-- The field of width `w` at bit `lo` of a slot. -/
def slotBits (x lo w : Nat) : Nat := x / 2 ^ lo % 2 ^ w

def fin8 (x : Nat) : Fin 8 := ⟨x % 8, Nat.mod_lt x (by decide)⟩
def fin16 (x : Nat) : Fin 16 := ⟨x % 16, Nat.mod_lt x (by decide)⟩
def fin64 (x : Nat) : Fin 64 := ⟨x % 64, Nat.mod_lt x (by decide)⟩
def fin2 (x : Nat) : Fin 2 := ⟨x % 2, Nat.mod_lt x (by decide)⟩

/-- The operation of a register-format X slot: `i` is given when every field that the operation does not use is 0 (R194).
The flags say whether it uses rd, ra, rb, acc and sh. -/
def regForm (x : Nat) (rd ra rb acc sh : Bool) (i : Instr) : Option Instr :=
  if (rd || slotBits x 22 4 == 0) && (ra || slotBits x 18 4 == 0) && (rb || slotBits x 14 4 == 0) &&
    (acc || slotBits x 13 1 == 0) && (sh || slotBits x 7 6 == 0) && slotBits x 0 7 == 0 then some i else none

/-- The operation of an immediate-format X slot. -/
def immForm (x : Nat) (i : Instr) : Option Instr := if slotBits x 16 6 = 0 then some i else none

/-- The X-slot operation that bits [31:0] of a bundle spell for engine `n` (*X-slot formats*, *X-slot operations*); none
where they make the bundle illegal (R194). [DEDUCED, safe, log 159] -/
def decodeX (n : Fin 8) (x : Nat) : Option Instr :=
  let rd := fin16 (slotBits x 22 4)
  let ra := fin16 (slotBits x 18 4)
  let rb := fin16 (slotBits x 14 4)
  let a := fin2 (slotBits x 13 1)
  let sh := fin64 (slotBits x 7 6)
  let imm := BitVec.ofNat 16 x
  match slotBits x 26 6 with
  | 0x00 => regForm x false false false false false (.xNop n)
  | 0x01 => regForm x true true true false false (.add n rd ra rb)
  | 0x02 => regForm x true true true false false (.sub n rd ra rb)
  | 0x03 => regForm x true true true false false (.adds n rd ra rb)
  | 0x04 => regForm x true true true false false (.subs n rd ra rb)
  | 0x05 => regForm x true true true false false (.and n rd ra rb)
  | 0x06 => regForm x true true true false false (.or n rd ra rb)
  | 0x07 => regForm x true true true false false (.xor n rd ra rb)
  | 0x08 => regForm x true true false false true (.shl n rd ra sh)
  | 0x09 => regForm x true true false false true (.shr n rd ra sh)
  | 0x0A => regForm x true true false false true (.shra n rd ra sh)
  | 0x0B => regForm x true true true false false (.min n rd ra rb)
  | 0x0C => regForm x true true true false false (.max n rd ra rb)
  | 0x0D => regForm x true true false false false (.abs n rd ra)
  | 0x0E => regForm x true true false false false (.neg n rd ra)
  | 0x0F => immForm x (.movi n rd imm)
  | 0x10 => immForm x (.movhi n rd imm)
  | 0x11 => regForm x false true true false false (.cmp n ra rb)
  | 0x20 => regForm x false true true true false (.mul n a ra rb)
  | 0x21 => regForm x false true true true false (.mac n a ra rb)
  | 0x22 => regForm x false true true true false (.msu n a ra rb)
  | 0x23 => regForm x true true true false false (.mullo n rd ra rb)
  | 0x24 => regForm x false true false true true (.ald n a ra sh)
  | 0x25 => regForm x false true false true true (.aadd n a ra sh)
  | 0x26 => regForm x false true false true true (.asub n a ra sh)
  | 0x27 => regForm x false true true true false (.amov n a ra rb)
  | 0x28 => regForm x true false false true true (.ext n rd a sh)
  | 0x29 => regForm x true false false true false (.extl n rd a)
  | 0x2A => if sh.val ≤ 1 then regForm x false false true true true (.divs n a rb (sh.val == 1)) else none
  | 0x2B => regForm x true true false false false (.tsin n rd ra)
  | 0x2C => regForm x true true false false false (.tcos n rd ra)
  | 0x2D => regForm x true true false false false (.rsq n rd ra)
  | _ => none

/-- The address that a memory operation of the Y slot spells, none for the reserved mode or a field that is not used and
not 0. -/
def decodeAddr (y : Nat) : Option Machine.EAddr :=
  let p := fin8 (slotBits y 19 3)
  match slotBits y 17 2 with
  | 0 => if slotBits y 10 7 = 0 then some (.off p (BitVec.ofNat 10 y)) else none
  | 1 => if slotBits y 10 7 = 0 then some (.post p (BitVec.ofNat 10 y)) else none
  | 2 => if slotBits y 15 2 = 0 ∧ p.val = 0 then some (.abs (BitVec.ofNat 15 y)) else none
  | _ => none

/-- A memory operation on an even pair of registers (R194). -/
def evenReg (r : Fin 16) (i : Option Instr) : Option Instr := if r.val % 2 = 0 then i else none

/-- An operation on a special pair: absolute mode and a pair number that is not reserved (R194). -/
def pairForm (y : Nat) (k : Fin 13 → BitVec 15 → Instr) : Option Instr :=
  match decodeAddr y with
  | some (.abs w) => if h : slotBits y 22 4 < 13 then some (k ⟨slotBits y 22 4, h⟩ w) else none
  | _ => none

/-- A special move: a special register number that is not reserved (R194). -/
def sprForm (y : Nat) (k : Fin 21 → Instr) : Option Instr :=
  if slotBits y 0 17 = 0 then if h : slotBits y 17 5 < 21 then some (k ⟨slotBits y 17 5, h⟩) else none else none

/-- The Y-slot operation that bits [63:32] of a bundle spell for engine `n` (*Y-slot formats*, *Y-slot operations*); none
where they make the bundle illegal (R194). [DEDUCED, safe, log 159] -/
def decodeY (n : Fin 8) (y : Nat) : Option Instr :=
  let r := fin16 (slotBits y 22 4)
  let t := BitVec.ofNat 13 y
  let l := fin2 (slotBits y 25 1)
  match slotBits y 26 6 with
  | 0x00 => if slotBits y 0 26 = 0 then some (.yNop n) else none
  | 0x01 => (decodeAddr y).map (.ld n r)
  | 0x02 => (decodeAddr y).map (.st n r)
  | 0x03 => evenReg r ((decodeAddr y).map (.ldd n r))
  | 0x04 => evenReg r ((decodeAddr y).map (.std n r))
  | 0x05 => pairForm y (.lds n)
  | 0x06 => pairForm y (.sts n)
  | 0x07 => sprForm y (.mfs n r)
  | 0x08 => sprForm y fun k => .mts n k r
  | 0x10 => if slotBits y 13 13 = 0 then some (.jmp n t) else none
  | 0x11 =>
    if h : slotBits y 22 4 < 11 then if slotBits y 13 9 = 0 then some (.brcc n ⟨slotBits y 22 4, h⟩ t) else none else none
  | 0x12 => some (.loop n l ⟨slotBits y 13 12, Nat.mod_lt _ (by decide)⟩ t)
  | 0x13 => if slotBits y 13 8 = 0 then some (.loopr n l (fin16 (slotBits y 21 4)) t) else none
  | 0x18 => if slotBits y 0 26 = 0 then some (.end_ n) else none
  | 0x19 => if slotBits y 0 26 = 0 then some (.wait n) else none
  | 0x1A => if slotBits y 0 26 = 0 then some (.retb n) else none
  | _ => none

end Sys2Proof
end

