-- ==== Sys2Proof/Config.lean ====
section
/-! DEFINITION. What one device fixes and the spec does not give (constants without a body: no proof can see their
values), and the free values: `freeWord` and `freeBits` are applied to a plain counter of the state, so that each open
value is a fresh one. notes/assumptions/ names each. -/

namespace Sys2Proof.Config

/-- A word that the spec leaves open, one for each number the model's counter has reached. -/
opaque freeWord : Nat → Word

/-- A truth value that the spec leaves open. -/
opaque freeBool : Nat → Bool

/-- The fixed severity of each event number (R490, *Event record*): the spec gives no table of them.
[DESIGN CHOICE, safe, log 114] -/
opaque severity : Nat → BitVec 2

/-- This device's clock identity, from its OTP (R51). -/
opaque clockIdentity : BitVec 64

/-- The clock variance of this device's own data set (R51 names none). -/
opaque clockVariance : BitVec 16

/-- The code by which the posted-write fault log and the journal name the debug port, which *Registers* of the chapters
on memory and events do not list. -/
opaque debugInitiator : Nat

/-- The device identity in the OTP, 16 bytes (R533). -/
opaque deviceIdentity : BitVec 128

/-- Opvelan's JEP106 manufacturer identity, bits [11:1] of IDCODE (R539). -/
opaque jep106 : BitVec 11

/-- What a byte of in-package memory reads as under a key that did not write its 16-byte block (R344, R346): by byte
address, the reader's key, the writer's key (0 for a block that nobody has written) and the bytes stored in the block. -/
opaque wrongKeyByte : Nat → Nat → Nat → List Byte → Byte

/-- The challenge that Camellia's random source draws, by draw number (R540). -/
opaque challenge : Nat → BitVec 384

/-- The factory trims of Snowdrop and Marigold in the OTP (R533, R547). -/
opaque factoryTrimSnowdrop : BitVec 10
opaque factoryTrimMarigold : BitVec 10

/-- The device's own MAC address, the source of the frames it builds (R389, R400). -/
opaque macAddress : BitVec 48

/-- The bit rate of the internal switch port ETHI in Mbit/s, which the spec does not give (R386, R393). -/
opaque ethiRate : Nat

/-- The share in bytes of each queue of an egress port in the packet buffer of 128 KiB (R386): port and class. -/
opaque queueShare : Nat → Nat → Nat

/-- GCM-AES-256 (R402, IEEE 802.1AE): key words, SCI, packet number, the bytes authenticated only and the bytes encrypted
give the ciphertext followed by the 16 bytes of the ICV. -/
opaque gcmAes256 : List Word → List Byte → Nat → List Byte → List Byte → List Byte

end Sys2Proof.Config
end

