-- ==== Sys2Proof/Machine/Regs.lean ====
section
/-! DEFINITION. The register map: the address and the fields of every register the spec names (R7 to R11, R572,
R578), with the table that says of each its reset value, the access codes of R10 and the range a value must lie in
(R599). A register's name is the spec's with the instance digits dropped and given as arguments: AX3_PWM_CTL is
R.AX_PWM_CTL 3, and its field ARM is F.AX_PWM_CTL_ARM 3. -/

namespace Sys2Proof

/-- The access codes of R10. -/
inductive Acc where
  | rw | ro | wo | w1c | w1s | rc | rws
  deriving DecidableEq, Repr

/-- One field of a register description: its lowest bit, its width, its access code and the smallest and largest value
that R599 lets a write place there. -/
structure FieldDesc where
  lo : Nat
  w : Nat
  acc : Acc
  min : Nat
  max : Nat
  deriving DecidableEq, Repr

/-- A field that takes every value of its width. -/
abbrev FieldDesc.f (lo w : Nat) (acc : Acc) : FieldDesc := ⟨lo, w, acc, 0, 2 ^ w - 1⟩

/-- A field whose description states a range or reserved values. -/
abbrev FieldDesc.r (lo w : Nat) (acc : Acc) (min max : Nat) : FieldDesc := ⟨lo, w, acc, min, max⟩

/-- One register description: its instance 0 lies at `base`; `n1` instances lie `s1` apart and, in each, `n2`
sub-instances `s2` apart (R578). -/
structure RegRow where
  name : String
  base : Nat
  s1 : Nat
  n1 : Nat
  s2 : Nat
  n2 : Nat
  reset : Word
  fields : List FieldDesc
  deriving DecidableEq, Repr

/-- A field of one register: the register's address, the field's lowest bit and its width. -/
structure Fld where
  addr : Nat
  lo : Nat
  w : Nat
  deriving DecidableEq, Repr

namespace R
def GLB_REGION_STATE : Nat := 0x00000100
def GLB_CHIP_FAULT : Nat := 0x00000104
def TB_CTRL : Nat := 0x00200000
def TB_STATUS : Nat := 0x00200004
def TB_INCR_FRAC : Nat := 0x00200008
def TB_INCR_INT : Nat := 0x0020000C
def TB_ADJ : Nat := 0x00200010
def TB_NOW_FRAC : Nat := 0x00200020
def TB_NOW_NS : Nat := 0x00200024
def TB_NOW_SEC_LO : Nat := 0x00200028
def TB_NOW_SEC_HI : Nat := 0x0020002C
def TB_SHORT : Nat := 0x00200030
def TB_SET_NS : Nat := 0x00200040
def TB_SET_SEC_LO : Nat := 0x00200044
def TB_SET_SEC_HI : Nat := 0x00200048
def TB_CMD : Nat := 0x0020004C
def TB_STEP_OFS : Nat := 0x00200050
def TB_OFFSET : Nat := 0x00200054
def TB_SERVO_KP : Nat := 0x00200060
def TB_SERVO_KI : Nat := 0x00200064
def TB_STEP_THR : Nat := 0x00200068
def TB_LOCK : Nat := 0x0020006C
def TB_HOLDOVER : Nat := 0x00200070
def TB_UTC : Nat := 0x00200080
def TB_GM_CTRL : Nat := 0x00200090
def TB_GM_LOG_OLD_LO : Nat := 0x002000A0
def TB_GM_LOG_OLD_HI : Nat := 0x002000A4
def TB_GM_LOG_NEW_LO : Nat := 0x002000A8
def TB_GM_LOG_NEW_HI : Nat := 0x002000AC
def TB_GM_LOG_INFO : Nat := 0x002000B0
def TB_GM_LOG_END : Nat := 0x002000B4
def TB_ASYM_ETH (n : Nat) : Nat := 0x002000C0 + n * 0x4
def TB_PHYLAT_ETH (n : Nat) : Nat := 0x002000C8 + n * 0x4
def TB_BMCA : Nat := 0x002000D0
def LQ_CFG (n : Nat) : Nat := 0x00201000 + n * 0x40
def LQ_STATUS (n : Nat) : Nat := 0x00201004 + n * 0x40
def LQ_PERIOD_NS (n : Nat) : Nat := 0x00201008 + n * 0x40
def LQ_PERIOD_FRAC (n : Nat) : Nat := 0x0020100C + n * 0x40
def LQ_ENT_TIME (n : Nat) : Nat := 0x00201010 + n * 0x40
def LQ_ENT_NS (n : Nat) : Nat := 0x00201014 + n * 0x40
def LQ_ENT_CTL (n : Nat) : Nat := 0x00201018 + n * 0x40
def LQ_ENT_ARG (n : Nat) : Nat := 0x0020101C + n * 0x40
def LQ_ENT_TAG (n : Nat) : Nat := 0x00201020 + n * 0x40
def LQ_PUSH (n : Nat) : Nat := 0x00201024 + n * 0x40
def LQ_CANCEL (n : Nat) : Nat := 0x00201028 + n * 0x40
def LQ_CANCEL_CNT (n : Nat) : Nat := 0x0020102C + n * 0x40
def LQ_LATE_CNT (n : Nat) : Nat := 0x00201030 + n * 0x40
def LQ_LAST_LATE (n : Nat) : Nat := 0x00201034 + n * 0x40
def LQ_HEAD_NS (n : Nat) : Nat := 0x00201038 + n * 0x40
def AX_PWM_CTL (n : Nat) : Nat := 0x00400000 + n * 0x10000
def AX_PWM_CFG (n : Nat) : Nat := 0x00400004 + n * 0x10000
def AX_PWM_PERIOD (n : Nat) : Nat := 0x00400008 + n * 0x10000
def AX_PWM_CMPA (n : Nat) : Nat := 0x0040000C + n * 0x10000
def AX_PWM_CMPB (n : Nat) : Nat := 0x00400010 + n * 0x10000
def AX_PWM_CMPC (n : Nat) : Nat := 0x00400014 + n * 0x10000
def AX_PWM_SHADOW (n : Nat) : Nat := 0x00400018 + n * 0x10000
def AX_PWM_OVR (n : Nat) : Nat := 0x0040001C + n * 0x10000
def AX_PWM_DT_CFG (n : Nat) : Nat := 0x00400020 + n * 0x10000
def AX_PWM_DT_GUARD (n : Nat) : Nat := 0x00400024 + n * 0x10000
def AX_PWM_DT_U (n : Nat) : Nat := 0x00400028 + n * 0x10000
def AX_PWM_DT_V (n : Nat) : Nat := 0x0040002C + n * 0x10000
def AX_PWM_DT_W (n : Nat) : Nat := 0x00400030 + n * 0x10000
def AX_PWM_MEAS_U (n : Nat) : Nat := 0x00400034 + n * 0x10000
def AX_PWM_MEAS_V (n : Nat) : Nat := 0x00400038 + n * 0x10000
def AX_PWM_MEAS_W (n : Nat) : Nat := 0x0040003C + n * 0x10000
def AX_PWM_EVT_CFG (n : Nat) : Nat := 0x00400040 + n * 0x10000
def AX_PWM_MASK (n : Nat) (k : Nat) : Nat := 0x00400050 + n * 0x10000 + k * 0x4
def AX_PWM_MASK_CFG (n : Nat) : Nat := 0x00400070 + n * 0x10000
def AX_PWM_ALIGN (n : Nat) : Nat := 0x00400074 + n * 0x10000
def AX_PWM_STATUS (n : Nat) : Nat := 0x00400078 + n * 0x10000
def AX_PWM_PHASE (n : Nat) : Nat := 0x0040007C + n * 0x10000
def GLB_BCH_CTL (n : Nat) : Nat := 0x00000200 + n * 0x10
def GLB_BCH_THR (n : Nat) : Nat := 0x00000204 + n * 0x10
def GLB_BCH_STATUS (n : Nat) : Nat := 0x00000208 + n * 0x10
def GLB_SDCLK_CFG : Nat := 0x00000240
def GLB_SDCLK_STATUS : Nat := 0x00000244
def GLB_DL_CFG (n : Nat) : Nat := 0x00000280 + n * 0x20
def GLB_DL_FREE (n : Nat) : Nat := 0x00000284 + n * 0x20
def GLB_DL_SAMPLE (n : Nat) : Nat := 0x00000288 + n * 0x20
def GLB_DL_STAMP (n : Nat) : Nat := 0x0000028C + n * 0x20
def GLB_DL_STATUS (n : Nat) : Nat := 0x00000290 + n * 0x20
def AX_CS_CFG (n : Nat) : Nat := 0x00400100 + n * 0x10000
def AX_CS_FAST (n : Nat) : Nat := 0x00400104 + n * 0x10000
def AX_CS_DLY (n : Nat) : Nat := 0x00400108 + n * 0x10000
def AX_CS_OFS_A (n : Nat) : Nat := 0x0040010C + n * 0x10000
def AX_CS_OFS_B (n : Nat) : Nat := 0x00400110 + n * 0x10000
def AX_CS_GAIN_A (n : Nat) : Nat := 0x00400114 + n * 0x10000
def AX_CS_GAIN_B (n : Nat) : Nat := 0x00400118 + n * 0x10000
def AX_CS_RAW_A (n : Nat) : Nat := 0x0040011C + n * 0x10000
def AX_CS_RAW_B (n : Nat) : Nat := 0x00400120 + n * 0x10000
def AX_CS_IU (n : Nat) : Nat := 0x00400124 + n * 0x10000
def AX_CS_IV (n : Nat) : Nat := 0x00400128 + n * 0x10000
def AX_CS_IW (n : Nat) : Nat := 0x0040012C + n * 0x10000
def AX_CS_FAST_A (n : Nat) : Nat := 0x00400130 + n * 0x10000
def AX_CS_FAST_B (n : Nat) : Nat := 0x00400134 + n * 0x10000
def AX_CS_STAMP (n : Nat) : Nat := 0x00400138 + n * 0x10000
def AX_CS_STATUS (n : Nat) : Nat := 0x0040013C + n * 0x10000
def AX_TLM_CFG (n : Nat) : Nat := 0x00400180 + n * 0x10000
def AX_TLM_STATUS (n : Nat) : Nat := 0x00400184 + n * 0x10000
def AX_TLM_TEMP_UV (n : Nat) : Nat := 0x00400188 + n * 0x10000
def AX_TLM_TEMP_W (n : Nat) : Nat := 0x0040018C + n * 0x10000
def AX_TLM_GD_VDC (n : Nat) : Nat := 0x00400190 + n * 0x10000
def AX_TLM_AUX (n : Nat) : Nat := 0x00400194 + n * 0x10000
def AX_TLM_STAMP (n : Nat) : Nat := 0x00400198 + n * 0x10000
def AX_TLM_COUNT (n : Nat) : Nat := 0x0040019C + n * 0x10000
def AX_FB_CFG (n : Nat) : Nat := 0x00400200 + n * 0x10000
def AX_FB_LINES (n : Nat) : Nat := 0x00400204 + n * 0x10000
def AX_FB_CMD (n : Nat) : Nat := 0x00400208 + n * 0x10000
def AX_FB_VCFG (n : Nat) : Nat := 0x0040020C + n * 0x10000
def AX_FB_POS_LO (n : Nat) : Nat := 0x00400210 + n * 0x10000
def AX_FB_POS_HI (n : Nat) : Nat := 0x00400214 + n * 0x10000
def AX_FB_POS2_LO (n : Nat) : Nat := 0x00400220 + n * 0x10000
def AX_FB_POS2_HI (n : Nat) : Nat := 0x00400224 + n * 0x10000
def AX_FB_ZLAT_LO (n : Nat) : Nat := 0x00400240 + n * 0x10000
def AX_FB_ZLAT_HI (n : Nat) : Nat := 0x00400244 + n * 0x10000
def AX_FB_VEL (n : Nat) : Nat := 0x00400218 + n * 0x10000
def AX_FB_STAMP (n : Nat) : Nat := 0x0040021C + n * 0x10000
def AX_FB_ZLAT_STAMP (n : Nat) : Nat := 0x00400248 + n * 0x10000
def AX_FB_SOFT_MIN_LO (n : Nat) : Nat := 0x00400228 + n * 0x10000
def AX_FB_SOFT_MIN_HI (n : Nat) : Nat := 0x0040022C + n * 0x10000
def AX_FB_SOFT_MAX_LO (n : Nat) : Nat := 0x00400230 + n * 0x10000
def AX_FB_SOFT_MAX_HI (n : Nat) : Nat := 0x00400234 + n * 0x10000
def AX_FB_LOAD_LO (n : Nat) : Nat := 0x00400238 + n * 0x10000
def AX_FB_LOAD_HI (n : Nat) : Nat := 0x0040023C + n * 0x10000
def AX_FB_FAIL (n : Nat) : Nat := 0x0040024C + n * 0x10000
def AX_FB_SC_ADC (n : Nat) : Nat := 0x00400250 + n * 0x10000
def AX_FB_SC_OFS (n : Nat) : Nat := 0x00400254 + n * 0x10000
def AX_FB_SC_GP (n : Nat) : Nat := 0x00400258 + n * 0x10000
def AX_FB_SC_AMP (n : Nat) : Nat := 0x0040025C + n * 0x10000
def AX_FB_SSI_CFG (n : Nat) : Nat := 0x00400260 + n * 0x10000
def AX_FB_SSI_CLK (n : Nat) : Nat := 0x00400264 + n * 0x10000
def AX_FB_SSI_CRC (n : Nat) : Nat := 0x00400268 + n * 0x10000
def AX_FB_SSI_CHECK (n : Nat) : Nat := 0x0040026C + n * 0x10000
def AX_FB_SSI_RAW_LO (n : Nat) : Nat := 0x00400270 + n * 0x10000
def AX_FB_SSI_RAW_HI (n : Nat) : Nat := 0x00400274 + n * 0x10000
def AX_FB_HALL_CFG (n : Nat) : Nat := 0x00400278 + n * 0x10000
def AX_FB_STATUS (n : Nat) : Nat := 0x0040027C + n * 0x10000
def AX_FB_COUNT (n : Nat) : Nat := 0x00400280 + n * 0x10000
def GLB_PRB_CFG (n : Nat) : Nat := 0x00000300 + n * 0x20
def GLB_PRB_STATUS (n : Nat) : Nat := 0x00000304 + n * 0x20
def GLB_PRB_POP (n : Nat) : Nat := 0x00000308 + n * 0x20
def GLB_PRB_STAMP (n : Nat) : Nat := 0x0000030C + n * 0x20
def GLB_PRB_POS_LO (n : Nat) : Nat := 0x00000310 + n * 0x20
def GLB_PRB_POS_HI (n : Nat) : Nat := 0x00000314 + n * 0x20
def GLB_PRB_FLAGS (n : Nat) : Nat := 0x00000318 + n * 0x20
def AE_CTL (n : Nat) : Nat := 0x00600000 + n * 0x1000
def AE_SCHED (n : Nat) : Nat := 0x00600004 + n * 0x1000
def AE_BASE_OFS (n : Nat) : Nat := 0x00600008 + n * 0x1000
def AE_PHASE (n : Nat) : Nat := 0x0060000C + n * 0x1000
def AE_COMMIT_STATUS (n : Nat) : Nat := 0x00600010 + n * 0x1000
def AE_TABLE_INFO (n : Nat) : Nat := 0x00600014 + n * 0x1000
def AE_STATUS (n : Nat) : Nat := 0x00600018 + n * 0x1000
def AE_PERIOD_CNT (n : Nat) : Nat := 0x0060001C + n * 0x1000
def AE_BG_VEC (n : Nat) : Nat := 0x00600020 + n * 0x1000
def AE_BG_VEC2 (n : Nat) : Nat := 0x00600024 + n * 0x1000
def AE_BG_STAT (n : Nat) : Nat := 0x00600028 + n * 0x1000
def AE_BUDGET (n : Nat) : Nat := 0x0060002C + n * 0x1000
def AE_NBASE (n : Nat) : Nat := 0x00600030 + n * 0x1000
def AE_ECC (n : Nat) : Nat := 0x00600034 + n * 0x1000
def AE_DM_PAGE (n : Nat) : Nat := 0x00600038 + n * 0x1000
def AE_SLOT_TIME (n : Nat) (k : Nat) : Nat := 0x00600100 + n * 0x1000 + k * 0x10
def AE_SLOT_CTL (n : Nat) (k : Nat) : Nat := 0x00600104 + n * 0x1000 + k * 0x10
def AE_SLOT_ENTRY (n : Nat) (k : Nat) : Nat := 0x00600108 + n * 0x1000 + k * 0x10
def AE_SLOT_STAT (n : Nat) (k : Nat) : Nat := 0x0060010C + n * 0x1000 + k * 0x10
def SUP_CTL (n : Nat) : Nat := 0x00680200 + n * 0x4000
def SUP_STATUS (n : Nat) : Nat := 0x00680204 + n * 0x4000
def TS_CMD (n : Nat) : Nat := 0x0068025C + n * 0x4000
def AT_CMD (n : Nat) : Nat := 0x00680280 + n * 0x4000
def TS_STATUS (n : Nat) : Nat := 0x00680260 + n * 0x4000
def AT_STATUS (n : Nat) : Nat := 0x00680284 + n * 0x4000
def LSP_STATUS : Nat := 0x00800000
def LSP_DL_DECEL (n : Nat) : Nat := 0x00800100 + n * 0x10
def LSP_DL_STATUS (n : Nat) : Nat := 0x00800104 + n * 0x10
def LSP_CH_CFG (n : Nat) : Nat := 0x00801000 + n * 0x80
def LSP_CH_CMD (n : Nat) : Nat := 0x00801004 + n * 0x80
def LSP_CH_TARGET_LO (n : Nat) : Nat := 0x00801008 + n * 0x80
def LSP_CH_TARGET_HI (n : Nat) : Nat := 0x0080100C + n * 0x80
def LSP_CH_VMAX (n : Nat) : Nat := 0x00801010 + n * 0x80
def LSP_CH_AMAX (n : Nat) : Nat := 0x00801014 + n * 0x80
def LSP_CH_DMAX (n : Nat) : Nat := 0x00801018 + n * 0x80
def LSP_CH_JMAX (n : Nat) : Nat := 0x0080101C + n * 0x80
def LSP_CH_START (n : Nat) : Nat := 0x00801020 + n * 0x80
def LSP_CH_STOP_DEC (n : Nat) : Nat := 0x00801024 + n * 0x80
def LSP_CH_STOP_JERK (n : Nat) : Nat := 0x00801028 + n * 0x80
def LSP_CH_QS_DEC (n : Nat) : Nat := 0x0080102C + n * 0x80
def LSP_CH_STATUS (n : Nat) : Nat := 0x00801030 + n * 0x80
def LSP_CH_PREF_LO (n : Nat) : Nat := 0x00801034 + n * 0x80
def LSP_CH_PREF_HI (n : Nat) : Nat := 0x00801038 + n * 0x80
def LSP_CH_VREF (n : Nat) : Nat := 0x0080103C + n * 0x80
def LSP_CH_AREF (n : Nat) : Nat := 0x00801040 + n * 0x80
def LSP_CH_HOME_CFG (n : Nat) : Nat := 0x00801044 + n * 0x80
def LSP_CH_HOME_FAST (n : Nat) : Nat := 0x00801048 + n * 0x80
def LSP_CH_HOME_CREEP (n : Nat) : Nat := 0x0080104C + n * 0x80
def LSP_CH_HOME_POS_LO (n : Nat) : Nat := 0x00801050 + n * 0x80
def LSP_CH_HOME_POS_HI (n : Nat) : Nat := 0x00801054 + n * 0x80
def LSP_CH_HOME_TRAVEL (n : Nat) : Nat := 0x00801058 + n * 0x80
def LSP_CH_HOME_I (n : Nat) : Nat := 0x0080105C + n * 0x80
def LSP_CH_HOME_ILIM (n : Nat) : Nat := 0x00801060 + n * 0x80
def LSP_CH_HOLD_CFG (n : Nat) : Nat := 0x00801064 + n * 0x80
def LSP_CH_SS_CFG (n : Nat) : Nat := 0x00801068 + n * 0x80
def LSP_CH_TMO (n : Nat) : Nat := 0x0080106C + n * 0x80
def LSP_CH_HOLD_WIN (n : Nat) : Nat := 0x00801070 + n * 0x80
def LSP_GRP_CMD (n : Nat) : Nat := 0x00807000 + n * 0x10
def LSP_GRP_STATUS (n : Nat) : Nat := 0x00807004 + n * 0x10
def LSP_GRP_START (n : Nat) : Nat := 0x00807008 + n * 0x10
def LSH_CFG : Nat := 0x00880000
def LSH_DOMAIN : Nat := 0x00880004
def LSH_STATUS : Nat := 0x00880008
def LSH_SH_CFG (n : Nat) : Nat := 0x00880100 + n * 0x40
def LSH_SH_STATUS (n : Nat) : Nat := 0x00880104 + n * 0x40
def LSH_SH_SEQ (n : Nat) : Nat := 0x00880108 + n * 0x40
def LSH_SH_POS_LO (n : Nat) : Nat := 0x0088010C + n * 0x40
def LSH_SH_POS_HI (n : Nat) : Nat := 0x00880110 + n * 0x40
def LSH_SH_VEL (n : Nat) : Nat := 0x00880114 + n * 0x40
def LSH_SH_COUNT (n : Nat) : Nat := 0x00880118 + n * 0x40
def LSH_SH_PUB (n : Nat) : Nat := 0x0088011C + n * 0x40
def LSH_FOL_CFG (n : Nat) : Nat := 0x00881000 + n * 0x40
def LSH_FOL_CMD (n : Nat) : Nat := 0x00881004 + n * 0x40
def LSH_FOL_STATUS (n : Nat) : Nat := 0x00881008 + n * 0x40
def LSH_FOL_NUM (n : Nat) : Nat := 0x0088100C + n * 0x40
def LSH_FOL_DEN (n : Nat) : Nat := 0x00881010 + n * 0x40
def LSH_FOL_M_ORG_LO (n : Nat) : Nat := 0x00881014 + n * 0x40
def LSH_FOL_M_ORG_HI (n : Nat) : Nat := 0x00881018 + n * 0x40
def LSH_FOL_X_ORG_LO (n : Nat) : Nat := 0x0088101C + n * 0x40
def LSH_FOL_X_ORG_HI (n : Nat) : Nat := 0x00881020 + n * 0x40
def LSH_FOL_F_ORG_LO (n : Nat) : Nat := 0x00881024 + n * 0x40
def LSH_FOL_F_ORG_HI (n : Nat) : Nat := 0x00881028 + n * 0x40
def LSH_FOL_PHASE (n : Nat) : Nat := 0x0088102C + n * 0x40
def LSH_FOL_PH (n : Nat) : Nat := 0x00881038 + n * 0x40
def LSH_FOL_PH_RATE (n : Nat) : Nat := 0x00881030 + n * 0x40
def LSH_FOL_SYNC_DIST (n : Nat) : Nat := 0x00881034 + n * 0x40
def LSH_FOL_REG_CORR (n : Nat) : Nat := 0x0088103C + n * 0x40
def LSH_CAM_HANDLE (n : Nat) : Nat := 0x00884000 + n * 0x20
def LSH_CAM_LIFT (n : Nat) : Nat := 0x00884008 + n * 0x20
def LSH_CAM_N (n : Nat) : Nat := 0x00884004 + n * 0x20
def LSH_CAM_CMD (n : Nat) : Nat := 0x0088400C + n * 0x20
def LSH_CAM_STATUS (n : Nat) : Nat := 0x00884010 + n * 0x20
def LSH_REG_CFG (n : Nat) : Nat := 0x00884800 + n * 0x40
def LSH_REG_LEN (n : Nat) : Nat := 0x00884804 + n * 0x40
def LSH_REG_WIN_OPEN (n : Nat) : Nat := 0x00884808 + n * 0x40
def LSH_REG_WIN_CLOSE (n : Nat) : Nat := 0x0088480C + n * 0x40
def LSH_REG_EXP (n : Nat) : Nat := 0x00884810 + n * 0x40
def LSH_REG_STEP (n : Nat) : Nat := 0x00884818 + n * 0x40
def LSH_REG_MAX (n : Nat) : Nat := 0x0088481C + n * 0x40
def LSH_REG_GAIN (n : Nat) : Nat := 0x00884814 + n * 0x40
def LSH_REG_TMO (n : Nat) : Nat := 0x00884820 + n * 0x40
def LSH_REG_VMIN (n : Nat) : Nat := 0x00884824 + n * 0x40
def LSH_REG_STATUS (n : Nat) : Nat := 0x00884828 + n * 0x40
def LSH_REG_ERR (n : Nat) : Nat := 0x0088482C + n * 0x40
def LSH_REG_PEND (n : Nat) : Nat := 0x00884838 + n * 0x40
def LSH_REG_MLAT_LO (n : Nat) : Nat := 0x00884830 + n * 0x40
def LSH_REG_MLAT_HI (n : Nat) : Nat := 0x00884834 + n * 0x40
def LSH_CSW_CFG (n : Nat) : Nat := 0x00885000 + n * 0x20
def LSH_CSW_LEN (n : Nat) : Nat := 0x00885004 + n * 0x20
def LSH_CSW_ON (n : Nat) : Nat := 0x00885008 + n * 0x20
def LSH_CSW_OFF (n : Nat) : Nat := 0x0088500C + n * 0x20
def LSH_CSW_HYST (n : Nat) : Nat := 0x00885010 + n * 0x20
def LSH_CSW_LEAD (n : Nat) : Nat := 0x00885014 + n * 0x20
def LSH_CSW_STATUS (n : Nat) : Nat := 0x00885018 + n * 0x20
def AUX_CFG (n : Nat) : Nat := 0x00500000 + n * 0x4000
def AUX_CTL (n : Nat) : Nat := 0x00500004 + n * 0x4000
def AUX_STATUS (n : Nat) : Nat := 0x00500008 + n * 0x4000
def AUX_POS_LO (n : Nat) : Nat := 0x00500010 + n * 0x4000
def AUX_POS_HI (n : Nat) : Nat := 0x00500014 + n * 0x4000
def AUX_VEL (n : Nat) : Nat := 0x00500018 + n * 0x4000
def AUX_ADC_RES (n : Nat) : Nat := 0x0050001C + n * 0x4000
def AUX_ADC_STAMP (n : Nat) : Nat := 0x00500020 + n * 0x4000
def AUX_STP_CFG (n : Nat) : Nat := 0x00500100 + n * 0x4000
def AUX_STP_CUR (n : Nat) : Nat := 0x00500104 + n * 0x4000
def AUX_STP_CHOP (n : Nat) : Nat := 0x00500108 + n * 0x4000
def AUX_STP_SS (n : Nat) : Nat := 0x0050010C + n * 0x4000
def AUX_STP_OFS (n : Nat) : Nat := 0x00500110 + n * 0x4000
def AUX_STP_STATUS (n : Nat) : Nat := 0x00500114 + n * 0x4000
def AUX_STP_COUNT (n : Nat) : Nat := 0x00500118 + n * 0x4000
def AUX_BL_PWM (n : Nat) : Nat := 0x00500200 + n * 0x4000
def AUX_BL_START (n : Nat) : Nat := 0x00500204 + n * 0x4000
def AUX_BL_RAMP_V (n : Nat) : Nat := 0x00500208 + n * 0x4000
def AUX_BL_RAMP_ACC (n : Nat) : Nat := 0x0050020C + n * 0x4000
def AUX_BL_HO (n : Nat) : Nat := 0x00500210 + n * 0x4000
def AUX_BL_ZC (n : Nat) : Nat := 0x00500214 + n * 0x4000
def AUX_BL_SPD (n : Nat) : Nat := 0x00500218 + n * 0x4000
def AUX_BL_ILIM (n : Nat) : Nat := 0x0050021C + n * 0x4000
def AUX_BL_COAST (n : Nat) : Nat := 0x00500220 + n * 0x4000
def AUX_BL_STATUS (n : Nat) : Nat := 0x00500224 + n * 0x4000
def AUX_BL_T60 (n : Nat) : Nat := 0x00500228 + n * 0x4000
def AUX_BL_DUTY (n : Nat) : Nat := 0x0050022C + n * 0x4000
def AUX_CL_ADC_STATUS (n : Nat) : Nat := 0x00560000 + n * 0x100
def AUX_CL_ADC_COUNT (n : Nat) : Nat := 0x00560004 + n * 0x100
def HIF_OD_CTL (n : Nat) : Nat := 0x00B00000 + n * 0x1000
def HIF_OD_STATUS (n : Nat) : Nat := 0x00B00004 + n * 0x1000
def HIF_OD_DB_LO (n : Nat) : Nat := 0x00B00008 + n * 0x1000
def HIF_OD_DB_HI (n : Nat) : Nat := 0x00B0000C + n * 0x1000
def HIF_OD_POLL (n : Nat) : Nat := 0x00B00010 + n * 0x1000
def HIF_OD_HB (n : Nat) : Nat := 0x00B00014 + n * 0x1000
def HIF_OD_LOST_CPL (n : Nat) : Nat := 0x00B00018 + n * 0x1000
def HIF_OD_SQ_BASE_LO (n : Nat) (k : Nat) : Nat := 0x00B00100 + n * 0x1000 + k * 0x20
def HIF_OD_SQ_BASE_HI (n : Nat) (k : Nat) : Nat := 0x00B00104 + n * 0x1000 + k * 0x20
def HIF_OD_CQ_BASE_LO (n : Nat) (k : Nat) : Nat := 0x00B00200 + n * 0x1000 + k * 0x20
def HIF_OD_CQ_BASE_HI (n : Nat) (k : Nat) : Nat := 0x00B00204 + n * 0x1000 + k * 0x20
def HIF_OD_EVQ_BASE_LO (n : Nat) : Nat := 0x00B00300 + n * 0x1000
def HIF_OD_EVQ_BASE_HI (n : Nat) : Nat := 0x00B00304 + n * 0x1000
def HIF_OD_SQ_CFG (n : Nat) (k : Nat) : Nat := 0x00B00108 + n * 0x1000 + k * 0x20
def HIF_OD_SQ_STATUS (n : Nat) (k : Nat) : Nat := 0x00B0010C + n * 0x1000 + k * 0x20
def HIF_OD_CQ_CFG (n : Nat) (k : Nat) : Nat := 0x00B00208 + n * 0x1000 + k * 0x20
def HIF_OD_EVQ_CFG (n : Nat) : Nat := 0x00B00308 + n * 0x1000
def HIF_OD_CQ_STATUS (n : Nat) (k : Nat) : Nat := 0x00B0020C + n * 0x1000 + k * 0x20
def HIF_OD_EVQ_STATUS (n : Nat) : Nat := 0x00B0030C + n * 0x1000
def HIF_OD_CQ_SEQ (n : Nat) (k : Nat) : Nat := 0x00B00210 + n * 0x1000 + k * 0x20
def HIF_OD_EVQ_SEQ (n : Nat) : Nat := 0x00B00310 + n * 0x1000
def HIF_TORN : Nat := 0x00B08000
def HIF_LINK : Nat := 0x00B08004
def HIF_CLASS_B_WEIGHT : Nat := 0x00B08008
def MEM_CTL : Nat := 0x00C00000
def MEM_LAYOUT : Nat := 0x00C00004
def MEM_STATUS : Nat := 0x00C00008
def MEM_ECC_CNT : Nat := 0x00C0000C
def MEM_SCRUB : Nat := 0x00C00010
def MEM_STAGE : Nat := 0x00C00020
def POOL_C_CFG (n : Nat) : Nat := 0x00C00100 + n * 0x10
def POOL_C_STATUS (n : Nat) : Nat := 0x00C00104 + n * 0x10
def POOL_OD_QUOTA01 (n : Nat) : Nat := 0x00C00200 + n * 0x10
def POOL_OD_QUOTA23 (n : Nat) : Nat := 0x00C00204 + n * 0x10
def POOL_OD_USE01 (n : Nat) : Nat := 0x00C00208 + n * 0x10
def POOL_OD_USE23 (n : Nat) : Nat := 0x00C0020C + n * 0x10
def POOL_LAST_REFUSED : Nat := 0x00C00300
def POOL_LAST_INFO : Nat := 0x00C00304
def DMA_SRC_LO (n : Nat) : Nat := 0x00C80000 + n * 0x40
def DMA_SRC_HI (n : Nat) : Nat := 0x00C80004 + n * 0x40
def DMA_DST_LO (n : Nat) : Nat := 0x00C80008 + n * 0x40
def DMA_DST_HI (n : Nat) : Nat := 0x00C8000C + n * 0x40
def DMA_COUNT (n : Nat) : Nat := 0x00C80010 + n * 0x40
def DMA_CTL (n : Nat) : Nat := 0x00C80014 + n * 0x40
def DMA_STATUS (n : Nat) : Nat := 0x00C80018 + n * 0x40
def DMA_DONE_BYTES (n : Nat) : Nat := 0x00C8001C + n * 0x40
def DMA_CSUM (n : Nat) : Nat := 0x00C80020 + n * 0x40
def DMA_ERR_ADDR_LO (n : Nat) : Nat := 0x00C80024 + n * 0x40
def DMA_ERR_ADDR_HI (n : Nat) : Nat := 0x00C80028 + n * 0x40
def CS_CFG (n : Nat) : Nat := 0x00A00000 + n * 0x100
def CS_BUF_BASE (n : Nat) : Nat := 0x00A00004 + n * 0x100
def CS_BUF_SIZE (n : Nat) : Nat := 0x00A00008 + n * 0x100
def CS_POST (n : Nat) : Nat := 0x00A0000C + n * 0x100
def CS_PRE_MIN (n : Nat) : Nat := 0x00A00010 + n * 0x100
def CS_CMD (n : Nat) : Nat := 0x00A00014 + n * 0x100
def CS_STATUS (n : Nat) : Nat := 0x00A00018 + n * 0x100
def CS_DEPTH (n : Nat) : Nat := 0x00A0001C + n * 0x100
def CS_ROWS (n : Nat) : Nat := 0x00A00020 + n * 0x100
def CS_TRIG (n : Nat) : Nat := 0x00A00024 + n * 0x100
def CS_TRIG_STAMP (n : Nat) : Nat := 0x00A00028 + n * 0x100
def CS_COUNT (n : Nat) : Nat := 0x00A0002C + n * 0x100
def CS_OUT_HANDLE (n : Nat) : Nat := 0x00A00030 + n * 0x100
def CS_OUT_OFS (n : Nat) : Nat := 0x00A00034 + n * 0x100
def CS_UNLOAD_CRC (n : Nat) : Nat := 0x00A00038 + n * 0x100
def CS_TRG_CFG (n : Nat) (k : Nat) : Nat := 0x00A00040 + n * 0x100 + k * 0x8
def CS_TRG_LEVEL (n : Nat) (k : Nat) : Nat := 0x00A00044 + n * 0x100 + k * 0x8
def CAP_BIND (n : Nat) : Nat := 0x00A01000 + n * 0x10
def CAP_ENV (n : Nat) : Nat := 0x00A01004 + n * 0x10
def CAP_ENV_HANDLE (n : Nat) : Nat := 0x00A01008 + n * 0x10
def CAP_STATUS (n : Nat) : Nat := 0x00A0100C + n * 0x10
def ETH_CFG (n : Nat) : Nat := 0x00D00000 + n * 0x1000
def ETH_STATUS (n : Nat) : Nat := 0x00D00004 + n * 0x1000
def ETH_COUNT_A (n : Nat) : Nat := 0x00D00008 + n * 0x1000
def ETH_COUNT_B (n : Nat) : Nat := 0x00D0000C + n * 0x1000
def ETH_SLOT_CFG (n : Nat) (k : Nat) : Nat := 0x00D00400 + n * 0x1000 + k * 0x10
def ETH_SLOT_BUF (n : Nat) (k : Nat) : Nat := 0x00D00404 + n * 0x1000 + k * 0x10
def ETH_SLOT_STATUS (n : Nat) (k : Nat) : Nat := 0x00D00408 + n * 0x1000 + k * 0x10
def ETH_SLOT_STAMP (n : Nat) (k : Nat) : Nat := 0x00D0040C + n * 0x1000 + k * 0x10
def ETH_SW_CFG : Nat := 0x00D08000
def ETH_MDIO : Nat := 0x00D08004
def ETH_LANYO : Nat := 0x00D08008
def ETH_LANYO_MAC_LO : Nat := 0x00D0800C
def ETH_LANYO_MAC_HI : Nat := 0x00D08010
def ETH_TC_MAP : Nat := 0x00D08014
def TSN_CTL (n : Nat) : Nat := 0x00D40000 + n * 0x2000
def TSN_BASE_NS (n : Nat) : Nat := 0x00D40004 + n * 0x2000
def TSN_BASE_SEC_LO (n : Nat) : Nat := 0x00D40008 + n * 0x2000
def TSN_BASE_SEC_HI (n : Nat) : Nat := 0x00D4000C + n * 0x2000
def TSN_CYCLE (n : Nat) : Nat := 0x00D40010 + n * 0x2000
def TSN_CYCLE_EXT (n : Nat) : Nat := 0x00D40014 + n * 0x2000
def TSN_STATUS (n : Nat) : Nat := 0x00D40018 + n * 0x2000
def TSN_COUNT (n : Nat) : Nat := 0x00D4001C + n * 0x2000
def TSN_PREEMPT (n : Nat) : Nat := 0x00D40020 + n * 0x2000
def TSN_ADMIN_CTL (n : Nat) (k : Nat) : Nat := 0x00D40800 + n * 0x2000 + k * 0x8
def TSN_ADMIN_INTERVAL (n : Nat) (k : Nat) : Nat := 0x00D40804 + n * 0x2000 + k * 0x8
def MSEC_CFG (n : Nat) : Nat := 0x00D60000 + n * 0x100
def MSEC_SAK (n : Nat) (k : Nat) : Nat := 0x00D60010 + n * 0x100 + k * 0x4
def MSEC_SA_CTL (n : Nat) : Nat := 0x00D60030 + n * 0x100
def MSEC_STRANGER (n : Nat) : Nat := 0x00D60034 + n * 0x100
def MSEC_STRANGER_SRC_LO (n : Nat) : Nat := 0x00D60038 + n * 0x100
def MSEC_STRANGER_SRC_HI (n : Nat) : Nat := 0x00D6003C + n * 0x100
def CAN_CTL (n : Nat) : Nat := 0x00E00000 + n * 0x1000
def CAN_ARBIT (n : Nat) : Nat := 0x00E00004 + n * 0x1000
def CAN_DATABIT (n : Nat) : Nat := 0x00E00008 + n * 0x1000
def CAN_STATUS (n : Nat) : Nat := 0x00E0000C + n * 0x1000
def CAN_ERRCNT (n : Nat) : Nat := 0x00E00010 + n * 0x1000
def CAN_FLT_CFG (n : Nat) : Nat := 0x00E00014 + n * 0x1000
def CAN_TXB_REQ (n : Nat) : Nat := 0x00E00020 + n * 0x1000
def CAN_TXB_CANCEL (n : Nat) : Nat := 0x00E00024 + n * 0x1000
def CAN_TXB_DONE (n : Nat) : Nat := 0x00E00028 + n * 0x1000
def CAN_TXB_ABANDON (n : Nat) : Nat := 0x00E0002C + n * 0x1000
def CAN_TT_CFG (n : Nat) : Nat := 0x00E00030 + n * 0x1000
def CAN_TT_CYCLE (n : Nat) : Nat := 0x00E00034 + n * 0x1000
def CAN_TT_STATUS (n : Nat) : Nat := 0x00E00038 + n * 0x1000
def CAN_RXQ_CFG (n : Nat) (k : Nat) : Nat := 0x00E00040 + n * 0x1000 + k * 0x10
def CAN_RXQ_STATUS (n : Nat) (k : Nat) : Nat := 0x00E00044 + n * 0x1000 + k * 0x10
def CAN_RXQ_ACK (n : Nat) (k : Nat) : Nat := 0x00E00048 + n * 0x1000 + k * 0x10
def CAN_COUNT (n : Nat) : Nat := 0x00E00060 + n * 0x1000
def FIO_STATUS : Nat := 0x00F00000
def FIO_VFIELD : Nat := 0x00F00004
def FIO_FI_LEVEL : Nat := 0x00F00010
def FIO_FI_VALID : Nat := 0x00F00014
def FIO_FI_WB : Nat := 0x00F00018
def FIO_FX_IN : Nat := 0x00F0001C
def FIO_OUT : Nat := 0x00F00020
def FIO_OUT_SET : Nat := 0x00F00024
def FIO_OUT_CLR : Nat := 0x00F00028
def FIO_OUT_RB : Nat := 0x00F0002C
def FIO_OUT_FAULT : Nat := 0x00F00030
def FIO_OUT_LOFF : Nat := 0x00F00034
def FIO_OUT_FCLR : Nat := 0x00F00038
def FIO_SAFE_LEVEL : Nat := 0x00F00040
def FIO_BS_LEVEL : Nat := 0x00F00044
def FIO_CH_CFG (n : Nat) : Nat := 0x00F00100 + n * 0x8
def FIO_BS_CFG (n : Nat) : Nat := 0x00F00300 + n * 0x8
def FIO_CH_STATUS (n : Nat) : Nat := 0x00F00104 + n * 0x8
def SAF_LOCK : Nat := 0x01100000
def SAF_UNLOCK : Nat := 0x01100004
def SAF_STO : Nat := 0x01100008
def SAF_SI_STATUS : Nat := 0x0110000C
def SAF_SS1_T (n : Nat) : Nat := 0x01100010 + n * 0x4
def SAF_BT_CMD : Nat := 0x01100030
def SAF_BT_RESULT : Nat := 0x01100034
def SAF_BT_CFG : Nat := 0x01100038
def SAF_BT_I : Nat := 0x0110003C
def SAF_BT_WIN : Nat := 0x01100040
def SAF_PSET_HANDLE : Nat := 0x01100050
def SAF_PSET_CMD : Nat := 0x01100054
def SAF_PSET_STATUS : Nat := 0x01100058
def SAF_PSET_SEQ : Nat := 0x0110005C
def SAF_PSET_CRC : Nat := 0x01100060
def SAF_SI_CFG (n : Nat) : Nat := 0x01100100 + n * 0x4
def SAF_BRK_CFG (n : Nat) : Nat := 0x01100200 + n * 0x8
def SAF_BRK_STATUS (n : Nat) : Nat := 0x01100204 + n * 0x8
def FXG_AX_CFG (n : Nat) : Nat := 0x01110000 + n * 0x40
def FXG_AX_I_PEAK (n : Nat) : Nat := 0x01110004 + n * 0x40
def FXG_AX_DUTY (n : Nat) : Nat := 0x01110008 + n * 0x40
def FXG_AX_VMIN (n : Nat) : Nat := 0x0111000C + n * 0x40
def FXG_AX_VMAX (n : Nat) : Nat := 0x01110010 + n * 0x40
def FXG_AX_PMIN_LO (n : Nat) : Nat := 0x01110014 + n * 0x40
def FXG_AX_PMIN_HI (n : Nat) : Nat := 0x01110018 + n * 0x40
def FXG_AX_PMAX_LO (n : Nat) : Nat := 0x0111001C + n * 0x40
def FXG_AX_PMAX_HI (n : Nat) : Nat := 0x01110020 + n * 0x40
def FXG_AX_STATUS (n : Nat) : Nat := 0x01110024 + n * 0x40
def FXG_DL_WIN (n : Nat) : Nat := 0x01110400 + n * 0x10
def FXG_DL_CHECK (n : Nat) : Nat := 0x01110404 + n * 0x10
def FXG_DL_STATUS (n : Nat) : Nat := 0x01110408 + n * 0x10
def EVT_ROUTE (n : Nat) : Nat := 0x01000000 + n * 0x4
def EVT_OD_CFG (n : Nat) : Nat := 0x01002000 + n * 0x20
def EVT_OD_STATUS (n : Nat) : Nat := 0x01002004 + n * 0x20
def EVT_OD_COUNT (n : Nat) : Nat := 0x01002008 + n * 0x20
def EVT_OD_OVF_MAP (n : Nat) (k : Nat) : Nat := 0x01002800 + n * 0x100 + k * 0x4
def EVT_LT_CTL (n : Nat) : Nat := 0x01003000 + n * 0x10
def EVT_LT_ARG (n : Nat) : Nat := 0x01003004 + n * 0x10
def EVT_LT_DELAY (n : Nat) : Nat := 0x01003008 + n * 0x10
def EVT_LT_TAG (n : Nat) : Nat := 0x0100300C + n * 0x10
def EVT_PWF_ADDR (n : Nat) : Nat := 0x01003100 + n * 0x10
def EVT_PWF_STAMP (n : Nat) : Nat := 0x01003104 + n * 0x10
def EVT_PWF_INFO (n : Nat) : Nat := 0x01003108 + n * 0x10
def EVT_PWF_STATUS : Nat := 0x01003200
def CLK_REF_CFG : Nat := 0x00100000
def CLK_REF_HOLDOFF : Nat := 0x00100004
def CLK_CMD : Nat := 0x00100008
def CLK_STATUS : Nat := 0x0010000C
def CLK_DOM_SEL : Nat := 0x00100010
def CLK_DIV : Nat := 0x00100014
def CLK_TRIM : Nat := 0x00100018
def CLK_MG_TRIM : Nat := 0x0010001C
def CLK_MG_TRIM_PER : Nat := 0x00100020
def CLK_REF_LOG : Nat := 0x00100024
def CLK_REF_LOG_END : Nat := 0x00100028
def RST_CAUSE : Nat := 0x00100400
def RST_CMD : Nat := 0x00100404
def RST_WDOG : Nat := 0x00100408
def RST_LOCKUP : Nat := 0x0010040C
def PWR_CMD : Nat := 0x00100800
def PWR_STATUS : Nat := 0x00100804
def PWR_WAKE_CFG : Nat := 0x00100808
def PWR_WAKE_FI : Nat := 0x0010080C
def PWR_WAKE_TIME_LO : Nat := 0x00100810
def PWR_WAKE_TIME_HI : Nat := 0x00100814
def MGT_STATUS : Nat := 0x01200000
def MGT_CFG : Nat := 0x01200004
def MGT_OD_MB_CTL (n : Nat) : Nat := 0x01201000 + n * 0x200
def MGT_OD_MB_DATA (n : Nat) (k : Nat) : Nat := 0x01201100 + n * 0x200 + k * 0x4
def MGT_AX_BOUND (n : Nat) : Nat := 0x01202000 + n * 0x8
def MGT_AX_F_MIN (n : Nat) : Nat := 0x01202004 + n * 0x8
def MGT_DL_BOUND (n : Nat) : Nat := 0x01202100 + n * 0x4
def GLB_READY : Nat := 0x00000010
def LSH_JOIN_CFG : Nat := 0x00880010
def LSH_JOIN_STATUS : Nat := 0x00880014
def LSH_MEMBERS (n : Nat) : Nat := 0x00880020 + n * 0x4
def LSH_PRESENT (n : Nat) : Nat := 0x00880040 + n * 0x4
def LSH_JOIN_TIME : Nat := 0x00880060
def LSP_EN_REQ0 : Nat := 0x00800020
def LSP_EN_REQ1 : Nat := 0x00800024
def LSP_EN_CFG : Nat := 0x00800028
def LSP_EN_STATUS : Nat := 0x0080002C
def TSN_OPER_CTL (n : Nat) (k : Nat) : Nat := 0x00D41000 + n * 0x2000 + k * 0x8
def TSN_OPER_INTERVAL (n : Nat) (k : Nat) : Nat := 0x00D41004 + n * 0x2000 + k * 0x8
def MGT_NF (n : Nat) : Nat := 0x01203400 + n * 0x4
def MGT_AX_TH_I_RATED (n : Nat) : Nat := 0x01203000 + n * 0x40
def MGT_AX_TH_V0 (n : Nat) : Nat := 0x01203004 + n * 0x40
def MGT_AX_TH_R_ON (n : Nat) : Nat := 0x01203008 + n * 0x40
def MGT_AX_TH_E_SW (n : Nat) : Nat := 0x0120300C + n * 0x40
def MGT_AX_TH_I_REF (n : Nat) : Nat := 0x01203010 + n * 0x40
def MGT_AX_TH_V_REF (n : Nat) : Nat := 0x01203014 + n * 0x40
def MGT_AX_TH_ZTH (n : Nat) : Nat := 0x01203018 + n * 0x40
def MGT_AX_TH_TAU (n : Nat) : Nat := 0x0120301C + n * 0x40
def MGT_AX_TH_TAMB_SUB (n : Nat) : Nat := 0x01203020 + n * 0x40
def MGT_AX_TH_P_BASE (n : Nat) : Nat := 0x01203024 + n * 0x40
def MGT_AX_TH_TJ_PLAN (n : Nat) : Nat := 0x01203028 + n * 0x40
def MGT_AX_TH_LIFE_BUDGET (n : Nat) : Nat := 0x0120302C + n * 0x40
def MGT_AX_TH_TJ (n : Nat) : Nat := 0x01203030 + n * 0x40
def MGT_AX_TH_TJ_PEAK_H (n : Nat) : Nat := 0x01203034 + n * 0x40
def MGT_AX_TH_LIFE_USED (n : Nat) : Nat := 0x01203038 + n * 0x40
def MGT_AX_TH_PLAN_STATE (n : Nat) : Nat := 0x0120303C + n * 0x40

end R

namespace F
def GLB_REGION_STATE_ISOLATED : Fld := ⟨R.GLB_REGION_STATE, 0, 7⟩
def GLB_REGION_STATE_REGION_FAULT : Fld := ⟨R.GLB_REGION_STATE, 8, 7⟩
def GLB_REGION_STATE_CLUSTER_FAULT_SEEN : Fld := ⟨R.GLB_REGION_STATE, 16, 7⟩
def GLB_CHIP_FAULT_CAUSE : Fld := ⟨R.GLB_CHIP_FAULT, 0, 4⟩
def GLB_CHIP_FAULT_REGION : Fld := ⟨R.GLB_CHIP_FAULT, 4, 3⟩
def GLB_CHIP_FAULT_TIME_HI : Fld := ⟨R.GLB_CHIP_FAULT, 8, 24⟩
def TB_CTRL_SERVO_EN : Fld := ⟨R.TB_CTRL, 0, 1⟩
def TB_CTRL_PROTOCOL : Fld := ⟨R.TB_CTRL, 1, 3⟩
def TB_CTRL_ROLE : Fld := ⟨R.TB_CTRL, 4, 2⟩
def TB_CTRL_TICK_SRC : Fld := ⟨R.TB_CTRL, 6, 1⟩
def TB_CTRL_STEP_MODE : Fld := ⟨R.TB_CTRL, 7, 2⟩
def TB_CTRL_GM_POLICY : Fld := ⟨R.TB_CTRL, 9, 1⟩
def TB_CTRL_TRANSPORT : Fld := ⟨R.TB_CTRL, 10, 1⟩
def TB_STATUS_SERVO_STATE : Fld := ⟨R.TB_STATUS, 0, 2⟩
def TB_STATUS_TIME_VALID : Fld := ⟨R.TB_STATUS, 2, 1⟩
def TB_STATUS_SWITCHING : Fld := ⟨R.TB_STATUS, 3, 1⟩
def TB_STATUS_HOLDOFF : Fld := ⟨R.TB_STATUS, 4, 1⟩
def TB_STATUS_BETTER_GM_PENDING : Fld := ⟨R.TB_STATUS, 5, 1⟩
def TB_STATUS_ADJ_CLAMPED : Fld := ⟨R.TB_STATUS, 6, 1⟩
def TB_STATUS_STEPPED : Fld := ⟨R.TB_STATUS, 7, 1⟩
def TB_STATUS_CMD_REFUSED : Fld := ⟨R.TB_STATUS, 8, 1⟩
def TB_STATUS_TORN : Fld := ⟨R.TB_STATUS, 9, 1⟩
def TB_STATUS_TICK_SRC_REFUSED : Fld := ⟨R.TB_STATUS, 10, 1⟩
def TB_INCR_FRAC_FRAC : Fld := ⟨R.TB_INCR_FRAC, 0, 32⟩
def TB_INCR_INT_INT : Fld := ⟨R.TB_INCR_INT, 0, 8⟩
def TB_ADJ_ADJ : Fld := ⟨R.TB_ADJ, 0, 32⟩
def TB_NOW_FRAC_FRAC : Fld := ⟨R.TB_NOW_FRAC, 0, 16⟩
def TB_NOW_NS_NS : Fld := ⟨R.TB_NOW_NS, 0, 32⟩
def TB_NOW_SEC_LO_SEC : Fld := ⟨R.TB_NOW_SEC_LO, 0, 32⟩
def TB_NOW_SEC_HI_SEC : Fld := ⟨R.TB_NOW_SEC_HI, 0, 16⟩
def TB_SHORT_SHORT : Fld := ⟨R.TB_SHORT, 0, 32⟩
def TB_SET_NS_NS : Fld := ⟨R.TB_SET_NS, 0, 32⟩
def TB_SET_SEC_LO_SEC : Fld := ⟨R.TB_SET_SEC_LO, 0, 32⟩
def TB_SET_SEC_HI_SEC : Fld := ⟨R.TB_SET_SEC_HI, 0, 16⟩
def TB_CMD_SET : Fld := ⟨R.TB_CMD, 0, 1⟩
def TB_CMD_STEP : Fld := ⟨R.TB_CMD, 1, 1⟩
def TB_CMD_GM_SWITCH : Fld := ⟨R.TB_CMD, 2, 1⟩
def TB_STEP_OFS_OFS : Fld := ⟨R.TB_STEP_OFS, 0, 32⟩
def TB_OFFSET_E : Fld := ⟨R.TB_OFFSET, 0, 32⟩
def TB_SERVO_KP_KP : Fld := ⟨R.TB_SERVO_KP, 0, 32⟩
def TB_SERVO_KI_KI : Fld := ⟨R.TB_SERVO_KI, 0, 32⟩
def TB_STEP_THR_THR : Fld := ⟨R.TB_STEP_THR, 0, 32⟩
def TB_LOCK_LOCK_WIN : Fld := ⟨R.TB_LOCK, 0, 16⟩
def TB_LOCK_UNLOCK_WIN : Fld := ⟨R.TB_LOCK, 16, 16⟩
def TB_HOLDOVER_SYNC_LOSS : Fld := ⟨R.TB_HOLDOVER, 0, 4⟩
def TB_UTC_OFFSET : Fld := ⟨R.TB_UTC, 0, 16⟩
def TB_UTC_VALID : Fld := ⟨R.TB_UTC, 16, 1⟩
def TB_UTC_LEAP61 : Fld := ⟨R.TB_UTC, 17, 1⟩
def TB_UTC_LEAP59 : Fld := ⟨R.TB_UTC, 18, 1⟩
def TB_UTC_FROM_ANNOUNCE : Fld := ⟨R.TB_UTC, 19, 1⟩
def TB_GM_CTRL_HOLDOFF : Fld := ⟨R.TB_GM_CTRL, 0, 16⟩
def TB_GM_CTRL_SWITCH_TMO : Fld := ⟨R.TB_GM_CTRL, 16, 8⟩
def TB_GM_LOG_OLD_LO_ID : Fld := ⟨R.TB_GM_LOG_OLD_LO, 0, 32⟩
def TB_GM_LOG_OLD_HI_ID : Fld := ⟨R.TB_GM_LOG_OLD_HI, 0, 32⟩
def TB_GM_LOG_NEW_LO_ID : Fld := ⟨R.TB_GM_LOG_NEW_LO, 0, 32⟩
def TB_GM_LOG_NEW_HI_ID : Fld := ⟨R.TB_GM_LOG_NEW_HI, 0, 32⟩
def TB_GM_LOG_INFO_CAUSE : Fld := ⟨R.TB_GM_LOG_INFO, 0, 2⟩
def TB_GM_LOG_INFO_TIMED_OUT : Fld := ⟨R.TB_GM_LOG_INFO, 2, 1⟩
def TB_GM_LOG_INFO_DURATION : Fld := ⟨R.TB_GM_LOG_INFO, 16, 16⟩
def TB_GM_LOG_END_END : Fld := ⟨R.TB_GM_LOG_END, 0, 32⟩
def TB_ASYM_ETH_ASYM (n : Nat) : Fld := ⟨R.TB_ASYM_ETH n, 0, 32⟩
def TB_PHYLAT_ETH_RX_LAT (n : Nat) : Fld := ⟨R.TB_PHYLAT_ETH n, 0, 16⟩
def TB_PHYLAT_ETH_TX_LAT (n : Nat) : Fld := ⟨R.TB_PHYLAT_ETH n, 16, 16⟩
def TB_BMCA_PRIORITY1 : Fld := ⟨R.TB_BMCA, 0, 8⟩
def TB_BMCA_PRIORITY2 : Fld := ⟨R.TB_BMCA, 8, 8⟩
def TB_BMCA_CLOCK_CLASS : Fld := ⟨R.TB_BMCA, 16, 8⟩
def TB_BMCA_CLOCK_ACCURACY : Fld := ⟨R.TB_BMCA, 24, 8⟩
def LQ_CFG_EN (n : Nat) : Fld := ⟨R.LQ_CFG n, 0, 1⟩
def LQ_CFG_LATE_POLICY (n : Nat) : Fld := ⟨R.LQ_CFG n, 1, 1⟩
def LQ_CFG_STEP_SHIFT (n : Nat) : Fld := ⟨R.LQ_CFG n, 2, 1⟩
def LQ_CFG_OWNER (n : Nat) : Fld := ⟨R.LQ_CFG n, 4, 3⟩
def LQ_STATUS_COUNT (n : Nat) : Fld := ⟨R.LQ_STATUS n, 0, 7⟩
def LQ_STATUS_LATE (n : Nat) : Fld := ⟨R.LQ_STATUS n, 7, 1⟩
def LQ_STATUS_DISCARDED (n : Nat) : Fld := ⟨R.LQ_STATUS n, 8, 1⟩
def LQ_STATUS_ORDER_ERR (n : Nat) : Fld := ⟨R.LQ_STATUS n, 9, 1⟩
def LQ_STATUS_OVERFLOW (n : Nat) : Fld := ⟨R.LQ_STATUS n, 10, 1⟩
def LQ_STATUS_CODE_ERR (n : Nat) : Fld := ⟨R.LQ_STATUS n, 11, 1⟩
def LQ_STATUS_TARGET_REFUSED (n : Nat) : Fld := ⟨R.LQ_STATUS n, 12, 1⟩
def LQ_STATUS_PARITY (n : Nat) : Fld := ⟨R.LQ_STATUS n, 13, 1⟩
def LQ_PERIOD_NS_NS (n : Nat) : Fld := ⟨R.LQ_PERIOD_NS n, 0, 32⟩
def LQ_PERIOD_FRAC_FRAC (n : Nat) : Fld := ⟨R.LQ_PERIOD_FRAC n, 0, 16⟩
def LQ_ENT_TIME_FRAC (n : Nat) : Fld := ⟨R.LQ_ENT_TIME n, 0, 16⟩
def LQ_ENT_TIME_SEC (n : Nat) : Fld := ⟨R.LQ_ENT_TIME n, 16, 16⟩
def LQ_ENT_NS_NS (n : Nat) : Fld := ⟨R.LQ_ENT_NS n, 0, 32⟩
def LQ_ENT_CTL_CODE (n : Nat) : Fld := ⟨R.LQ_ENT_CTL n, 0, 8⟩
def LQ_ENT_CTL_REPEAT (n : Nat) : Fld := ⟨R.LQ_ENT_CTL n, 8, 1⟩
def LQ_ENT_CTL_TARGET (n : Nat) : Fld := ⟨R.LQ_ENT_CTL n, 16, 16⟩
def LQ_ENT_ARG_ARG (n : Nat) : Fld := ⟨R.LQ_ENT_ARG n, 0, 32⟩
def LQ_ENT_TAG_TAG (n : Nat) : Fld := ⟨R.LQ_ENT_TAG n, 0, 16⟩
def LQ_PUSH_PUSH (n : Nat) : Fld := ⟨R.LQ_PUSH n, 0, 1⟩
def LQ_PUSH_FLUSH (n : Nat) : Fld := ⟨R.LQ_PUSH n, 1, 1⟩
def LQ_CANCEL_TAG (n : Nat) : Fld := ⟨R.LQ_CANCEL n, 0, 16⟩
def LQ_CANCEL_MASK (n : Nat) : Fld := ⟨R.LQ_CANCEL n, 16, 16⟩
def LQ_CANCEL_CNT_COUNT (n : Nat) : Fld := ⟨R.LQ_CANCEL_CNT n, 0, 7⟩
def LQ_LATE_CNT_LATE (n : Nat) : Fld := ⟨R.LQ_LATE_CNT n, 0, 16⟩
def LQ_LATE_CNT_DISCARDED (n : Nat) : Fld := ⟨R.LQ_LATE_CNT n, 16, 16⟩
def LQ_LAST_LATE_TAG (n : Nat) : Fld := ⟨R.LQ_LAST_LATE n, 0, 16⟩
def LQ_LAST_LATE_CODE (n : Nat) : Fld := ⟨R.LQ_LAST_LATE n, 16, 8⟩
def LQ_HEAD_NS_NS (n : Nat) : Fld := ⟨R.LQ_HEAD_NS n, 0, 32⟩
def AX_PWM_CTL_ARM (n : Nat) : Fld := ⟨R.AX_PWM_CTL n, 0, 1⟩
def AX_PWM_CTL_OUT_EN (n : Nat) : Fld := ⟨R.AX_PWM_CTL n, 1, 1⟩
def AX_PWM_CTL_START (n : Nat) : Fld := ⟨R.AX_PWM_CTL n, 2, 1⟩
def AX_PWM_CTL_MODE_SEL (n : Nat) : Fld := ⟨R.AX_PWM_CTL n, 3, 1⟩
def AX_PWM_CTL_FAULT_CLR (n : Nat) : Fld := ⟨R.AX_PWM_CTL n, 4, 1⟩
def AX_PWM_CFG_CNT_MODE (n : Nat) : Fld := ⟨R.AX_PWM_CFG n, 0, 2⟩
def AX_PWM_CFG_LOAD (n : Nat) : Fld := ⟨R.AX_PWM_CFG n, 2, 2⟩
def AX_PWM_CFG_DL_GROUP (n : Nat) : Fld := ⟨R.AX_PWM_CFG n, 4, 2⟩
def AX_PWM_CFG_ADAPT_EN (n : Nat) : Fld := ⟨R.AX_PWM_CFG n, 6, 1⟩
def AX_PWM_PERIOD_PERIOD (n : Nat) : Fld := ⟨R.AX_PWM_PERIOD n, 0, 24⟩
def AX_PWM_CMPA_CMP (n : Nat) : Fld := ⟨R.AX_PWM_CMPA n, 0, 24⟩
def AX_PWM_CMPB_CMP (n : Nat) : Fld := ⟨R.AX_PWM_CMPB n, 0, 24⟩
def AX_PWM_CMPC_CMP (n : Nat) : Fld := ⟨R.AX_PWM_CMPC n, 0, 24⟩
def AX_PWM_SHADOW_HOLD (n : Nat) : Fld := ⟨R.AX_PWM_SHADOW n, 0, 1⟩
def AX_PWM_SHADOW_SKIPPED (n : Nat) : Fld := ⟨R.AX_PWM_SHADOW n, 16, 16⟩
def AX_PWM_OVR_SWAP (n : Nat) : Fld := ⟨R.AX_PWM_OVR n, 0, 2⟩
def AX_PWM_OVR_INV_U (n : Nat) : Fld := ⟨R.AX_PWM_OVR n, 2, 1⟩
def AX_PWM_OVR_INV_V (n : Nat) : Fld := ⟨R.AX_PWM_OVR n, 3, 1⟩
def AX_PWM_OVR_INV_W (n : Nat) : Fld := ⟨R.AX_PWM_OVR n, 4, 1⟩
def AX_PWM_DT_CFG_DT_MIN (n : Nat) : Fld := ⟨R.AX_PWM_DT_CFG n, 0, 9⟩
def AX_PWM_DT_CFG_DT_MAX (n : Nat) : Fld := ⟨R.AX_PWM_DT_CFG n, 16, 9⟩
def AX_PWM_DT_GUARD_GUARD (n : Nat) : Fld := ⟨R.AX_PWM_DT_GUARD n, 0, 6⟩
def AX_PWM_DT_GUARD_MIN_PULSE (n : Nat) : Fld := ⟨R.AX_PWM_DT_GUARD n, 8, 6⟩
def AX_PWM_DT_U_DT_RISE (n : Nat) : Fld := ⟨R.AX_PWM_DT_U n, 0, 9⟩
def AX_PWM_DT_U_DT_FALL (n : Nat) : Fld := ⟨R.AX_PWM_DT_U n, 16, 9⟩
def AX_PWM_DT_V_DT_RISE (n : Nat) : Fld := ⟨R.AX_PWM_DT_V n, 0, 9⟩
def AX_PWM_DT_V_DT_FALL (n : Nat) : Fld := ⟨R.AX_PWM_DT_V n, 16, 9⟩
def AX_PWM_DT_W_DT_RISE (n : Nat) : Fld := ⟨R.AX_PWM_DT_W n, 0, 9⟩
def AX_PWM_DT_W_DT_FALL (n : Nat) : Fld := ⟨R.AX_PWM_DT_W n, 16, 9⟩
def AX_PWM_MEAS_U_DELAY_RISE (n : Nat) : Fld := ⟨R.AX_PWM_MEAS_U n, 0, 16⟩
def AX_PWM_MEAS_U_DELAY_FALL (n : Nat) : Fld := ⟨R.AX_PWM_MEAS_U n, 16, 16⟩
def AX_PWM_MEAS_V_DELAY_RISE (n : Nat) : Fld := ⟨R.AX_PWM_MEAS_V n, 0, 16⟩
def AX_PWM_MEAS_V_DELAY_FALL (n : Nat) : Fld := ⟨R.AX_PWM_MEAS_V n, 16, 16⟩
def AX_PWM_MEAS_W_DELAY_RISE (n : Nat) : Fld := ⟨R.AX_PWM_MEAS_W n, 0, 16⟩
def AX_PWM_MEAS_W_DELAY_FALL (n : Nat) : Fld := ⟨R.AX_PWM_MEAS_W n, 16, 16⟩
def AX_PWM_EVT_CFG_ZERO_N (n : Nat) : Fld := ⟨R.AX_PWM_EVT_CFG n, 0, 4⟩
def AX_PWM_EVT_CFG_PER_N (n : Nat) : Fld := ⟨R.AX_PWM_EVT_CFG n, 4, 4⟩
def AX_PWM_EVT_CFG_CMPA_N (n : Nat) : Fld := ⟨R.AX_PWM_EVT_CFG n, 8, 4⟩
def AX_PWM_EVT_CFG_CMPB_N (n : Nat) : Fld := ⟨R.AX_PWM_EVT_CFG n, 12, 4⟩
def AX_PWM_EVT_CFG_CMPC_N (n : Nat) : Fld := ⟨R.AX_PWM_EVT_CFG n, 16, 4⟩
def AX_PWM_EVT_CFG_CMP_EDGE (n : Nat) : Fld := ⟨R.AX_PWM_EVT_CFG n, 20, 2⟩
def AX_PWM_EVT_CFG_EN (n : Nat) : Fld := ⟨R.AX_PWM_EVT_CFG n, 22, 5⟩
def AX_PWM_MASK_MASK (n : Nat) (k : Nat) : Fld := ⟨R.AX_PWM_MASK n k, 0, 6⟩
def AX_PWM_MASK_CFG_LENGTH (n : Nat) : Fld := ⟨R.AX_PWM_MASK_CFG n, 0, 4⟩
def AX_PWM_MASK_CFG_START_IDX (n : Nat) : Fld := ⟨R.AX_PWM_MASK_CFG n, 4, 3⟩
def AX_PWM_MASK_CFG_DIR (n : Nat) : Fld := ⟨R.AX_PWM_MASK_CFG n, 7, 1⟩
def AX_PWM_MASK_CFG_SRC (n : Nat) : Fld := ⟨R.AX_PWM_MASK_CFG n, 8, 2⟩
def AX_PWM_ALIGN_INTERVAL (n : Nat) : Fld := ⟨R.AX_PWM_ALIGN n, 0, 16⟩
def AX_PWM_ALIGN_COUNT (n : Nat) : Fld := ⟨R.AX_PWM_ALIGN n, 16, 8⟩
def AX_PWM_STATUS_STATE (n : Nat) : Fld := ⟨R.AX_PWM_STATUS n, 0, 2⟩
def AX_PWM_STATUS_OUT_ACTIVE (n : Nat) : Fld := ⟨R.AX_PWM_STATUS n, 2, 1⟩
def AX_PWM_STATUS_ALIGN_SLEW (n : Nat) : Fld := ⟨R.AX_PWM_STATUS n, 3, 1⟩
def AX_PWM_STATUS_MASK_IDX (n : Nat) : Fld := ⟨R.AX_PWM_STATUS n, 4, 3⟩
def AX_PWM_STATUS_FAULT (n : Nat) : Fld := ⟨R.AX_PWM_STATUS n, 7, 1⟩
def AX_PWM_STATUS_LAUNCH_OFF (n : Nat) : Fld := ⟨R.AX_PWM_STATUS n, 8, 1⟩
def AX_PWM_STATUS_PERIOD_IGNORED (n : Nat) : Fld := ⟨R.AX_PWM_STATUS n, 9, 1⟩
def AX_PWM_STATUS_CFG_REFUSED (n : Nat) : Fld := ⟨R.AX_PWM_STATUS n, 10, 1⟩
def AX_PWM_STATUS_PERIOD_RANGE (n : Nat) : Fld := ⟨R.AX_PWM_STATUS n, 11, 1⟩
def AX_PWM_STATUS_DT_FALLBACK (n : Nat) : Fld := ⟨R.AX_PWM_STATUS n, 12, 6⟩
def AX_PWM_STATUS_HALL_INVALID (n : Nat) : Fld := ⟨R.AX_PWM_STATUS n, 18, 1⟩
def AX_PWM_STATUS_COMM_IGNORED (n : Nat) : Fld := ⟨R.AX_PWM_STATUS n, 19, 1⟩
def AX_PWM_STATUS_STO_GATED (n : Nat) : Fld := ⟨R.AX_PWM_STATUS n, 20, 1⟩
def AX_PWM_STATUS_FXG_OFF (n : Nat) : Fld := ⟨R.AX_PWM_STATUS n, 21, 1⟩
def AX_PWM_STATUS_ALIGN_DONE (n : Nat) : Fld := ⟨R.AX_PWM_STATUS n, 22, 1⟩
def AX_PWM_PHASE_PHI (n : Nat) : Fld := ⟨R.AX_PWM_PHASE n, 0, 32⟩
def GLB_BCH_CTL_EN (n : Nat) : Fld := ⟨R.GLB_BCH_CTL n, 0, 1⟩
def GLB_BCH_CTL_MAX_DUTY (n : Nat) : Fld := ⟨R.GLB_BCH_CTL n, 8, 8⟩
def GLB_BCH_CTL_MIN_TIME (n : Nat) : Fld := ⟨R.GLB_BCH_CTL n, 16, 8⟩
def GLB_BCH_THR_V_CHOP (n : Nat) : Fld := ⟨R.GLB_BCH_THR n, 0, 16⟩
def GLB_BCH_THR_V_HYST (n : Nat) : Fld := ⟨R.GLB_BCH_THR n, 16, 16⟩
def GLB_BCH_STATUS_ON (n : Nat) : Fld := ⟨R.GLB_BCH_STATUS n, 0, 1⟩
def GLB_BCH_STATUS_LIMIT (n : Nat) : Fld := ⟨R.GLB_BCH_STATUS n, 1, 1⟩
def GLB_BCH_STATUS_LIMIT_SEEN (n : Nat) : Fld := ⟨R.GLB_BCH_STATUS n, 2, 1⟩
def GLB_BCH_STATUS_ON_TIME (n : Nat) : Fld := ⟨R.GLB_BCH_STATUS n, 16, 16⟩
def GLB_SDCLK_CFG_FREQ : Fld := ⟨R.GLB_SDCLK_CFG, 0, 8⟩
def GLB_SDCLK_CFG_EN : Fld := ⟨R.GLB_SDCLK_CFG, 8, 4⟩
def GLB_SDCLK_STATUS_RUNNING : Fld := ⟨R.GLB_SDCLK_STATUS, 0, 4⟩
def GLB_SDCLK_STATUS_FREQ_PENDING : Fld := ⟨R.GLB_SDCLK_STATUS, 4, 4⟩
def GLB_SDCLK_STATUS_REALIGN : Fld := ⟨R.GLB_SDCLK_STATUS, 8, 4⟩
def GLB_DL_CFG_EN (n : Nat) : Fld := ⟨R.GLB_DL_CFG n, 0, 1⟩
def GLB_DL_CFG_OSR (n : Nat) : Fld := ⟨R.GLB_DL_CFG n, 1, 9⟩
def GLB_DL_CFG_DLY (n : Nat) : Fld := ⟨R.GLB_DL_CFG n, 10, 5⟩
def GLB_DL_CFG_STUCK_LIM (n : Nat) : Fld := ⟨R.GLB_DL_CFG n, 16, 8⟩
def GLB_DL_FREE_Q (n : Nat) : Fld := ⟨R.GLB_DL_FREE n, 0, 24⟩
def GLB_DL_SAMPLE_Q (n : Nat) : Fld := ⟨R.GLB_DL_SAMPLE n, 0, 24⟩
def GLB_DL_STAMP_STAMP (n : Nat) : Fld := ⟨R.GLB_DL_STAMP n, 0, 32⟩
def GLB_DL_STATUS_VALID (n : Nat) : Fld := ⟨R.GLB_DL_STATUS n, 0, 1⟩
def GLB_DL_STATUS_STUCK (n : Nat) : Fld := ⟨R.GLB_DL_STATUS n, 1, 1⟩
def GLB_DL_STATUS_SAT (n : Nat) : Fld := ⟨R.GLB_DL_STATUS n, 2, 1⟩
def GLB_DL_STATUS_OVERLAP (n : Nat) : Fld := ⟨R.GLB_DL_STATUS n, 3, 1⟩
def AX_CS_CFG_EN (n : Nat) : Fld := ⟨R.AX_CS_CFG n, 0, 1⟩
def AX_CS_CFG_MEAS_PAIR (n : Nat) : Fld := ⟨R.AX_CS_CFG n, 1, 2⟩
def AX_CS_CFG_OSR (n : Nat) : Fld := ⟨R.AX_CS_CFG n, 4, 9⟩
def AX_CS_CFG_STUCK_LIM (n : Nat) : Fld := ⟨R.AX_CS_CFG n, 16, 8⟩
def AX_CS_FAST_FAST_OSR (n : Nat) : Fld := ⟨R.AX_CS_FAST n, 0, 6⟩
def AX_CS_DLY_DLY_A (n : Nat) : Fld := ⟨R.AX_CS_DLY n, 0, 5⟩
def AX_CS_DLY_DLY_B (n : Nat) : Fld := ⟨R.AX_CS_DLY n, 8, 5⟩
def AX_CS_OFS_A_OFS (n : Nat) : Fld := ⟨R.AX_CS_OFS_A n, 0, 24⟩
def AX_CS_OFS_B_OFS (n : Nat) : Fld := ⟨R.AX_CS_OFS_B n, 0, 24⟩
def AX_CS_GAIN_A_GAIN (n : Nat) : Fld := ⟨R.AX_CS_GAIN_A n, 0, 32⟩
def AX_CS_GAIN_B_GAIN (n : Nat) : Fld := ⟨R.AX_CS_GAIN_B n, 0, 32⟩
def AX_CS_RAW_A_Q (n : Nat) : Fld := ⟨R.AX_CS_RAW_A n, 0, 24⟩
def AX_CS_RAW_B_Q (n : Nat) : Fld := ⟨R.AX_CS_RAW_B n, 0, 24⟩
def AX_CS_IU_I (n : Nat) : Fld := ⟨R.AX_CS_IU n, 0, 32⟩
def AX_CS_IV_I (n : Nat) : Fld := ⟨R.AX_CS_IV n, 0, 32⟩
def AX_CS_IW_I (n : Nat) : Fld := ⟨R.AX_CS_IW n, 0, 32⟩
def AX_CS_FAST_A_Q2 (n : Nat) : Fld := ⟨R.AX_CS_FAST_A n, 0, 24⟩
def AX_CS_FAST_B_Q2 (n : Nat) : Fld := ⟨R.AX_CS_FAST_B n, 0, 24⟩
def AX_CS_STAMP_STAMP (n : Nat) : Fld := ⟨R.AX_CS_STAMP n, 0, 32⟩
def AX_CS_STATUS_VALID (n : Nat) : Fld := ⟨R.AX_CS_STATUS n, 0, 1⟩
def AX_CS_STATUS_STUCK_A (n : Nat) : Fld := ⟨R.AX_CS_STATUS n, 1, 1⟩
def AX_CS_STATUS_STUCK_B (n : Nat) : Fld := ⟨R.AX_CS_STATUS n, 2, 1⟩
def AX_CS_STATUS_SAT_A (n : Nat) : Fld := ⟨R.AX_CS_STATUS n, 3, 1⟩
def AX_CS_STATUS_SAT_B (n : Nat) : Fld := ⟨R.AX_CS_STATUS n, 4, 1⟩
def AX_CS_STATUS_OVERLAP (n : Nat) : Fld := ⟨R.AX_CS_STATUS n, 5, 1⟩
def AX_CS_STATUS_CFG_REFUSED (n : Nat) : Fld := ⟨R.AX_CS_STATUS n, 6, 1⟩
def AX_CS_STATUS_ISAT (n : Nat) : Fld := ⟨R.AX_CS_STATUS n, 7, 1⟩
def AX_CS_STATUS_DELTA (n : Nat) : Fld := ⟨R.AX_CS_STATUS n, 16, 16⟩
def AX_TLM_CFG_EN (n : Nat) : Fld := ⟨R.AX_TLM_CFG n, 0, 1⟩
def AX_TLM_CFG_GD_FAULT_MASK (n : Nat) : Fld := ⟨R.AX_TLM_CFG n, 16, 16⟩
def AX_TLM_STATUS_STATE (n : Nat) : Fld := ⟨R.AX_TLM_STATUS n, 0, 2⟩
def AX_TLM_STATUS_STALE (n : Nat) : Fld := ⟨R.AX_TLM_STATUS n, 2, 1⟩
def AX_TLM_STATUS_LOST (n : Nat) : Fld := ⟨R.AX_TLM_STATUS n, 3, 1⟩
def AX_TLM_STATUS_CRC_ERR (n : Nat) : Fld := ⟨R.AX_TLM_STATUS n, 4, 1⟩
def AX_TLM_STATUS_SEQ_GAP (n : Nat) : Fld := ⟨R.AX_TLM_STATUS n, 5, 1⟩
def AX_TLM_STATUS_GD_FAULT (n : Nat) : Fld := ⟨R.AX_TLM_STATUS n, 6, 1⟩
def AX_TLM_STATUS_OFFSET (n : Nat) : Fld := ⟨R.AX_TLM_STATUS n, 8, 8⟩
def AX_TLM_STATUS_SEQ (n : Nat) : Fld := ⟨R.AX_TLM_STATUS n, 16, 8⟩
def AX_TLM_TEMP_UV_TEMP_U (n : Nat) : Fld := ⟨R.AX_TLM_TEMP_UV n, 0, 16⟩
def AX_TLM_TEMP_UV_TEMP_V (n : Nat) : Fld := ⟨R.AX_TLM_TEMP_UV n, 16, 16⟩
def AX_TLM_TEMP_W_TEMP_W (n : Nat) : Fld := ⟨R.AX_TLM_TEMP_W n, 0, 16⟩
def AX_TLM_GD_VDC_GD (n : Nat) : Fld := ⟨R.AX_TLM_GD_VDC n, 0, 16⟩
def AX_TLM_GD_VDC_VDC (n : Nat) : Fld := ⟨R.AX_TLM_GD_VDC n, 16, 16⟩
def AX_TLM_AUX_AUX (n : Nat) : Fld := ⟨R.AX_TLM_AUX n, 0, 32⟩
def AX_TLM_STAMP_STAMP (n : Nat) : Fld := ⟨R.AX_TLM_STAMP n, 0, 32⟩
def AX_TLM_COUNT_CRC_FAIL (n : Nat) : Fld := ⟨R.AX_TLM_COUNT n, 0, 16⟩
def AX_TLM_COUNT_LOSS (n : Nat) : Fld := ⟨R.AX_TLM_COUNT n, 16, 16⟩
def AX_FB_CFG_EN (n : Nat) : Fld := ⟨R.AX_FB_CFG n, 0, 1⟩
def AX_FB_CFG_INC_MODE (n : Nat) : Fld := ⟨R.AX_FB_CFG n, 1, 2⟩
def AX_FB_CFG_SSI_EN (n : Nat) : Fld := ⟨R.AX_FB_CFG n, 3, 1⟩
def AX_FB_CFG_HALL_EN (n : Nat) : Fld := ⟨R.AX_FB_CFG n, 4, 1⟩
def AX_FB_CFG_PRIMARY (n : Nat) : Fld := ⟨R.AX_FB_CFG n, 5, 2⟩
def AX_FB_CFG_DIR (n : Nat) : Fld := ⟨R.AX_FB_CFG n, 7, 1⟩
def AX_FB_CFG_WRAP (n : Nat) : Fld := ⟨R.AX_FB_CFG n, 8, 1⟩
def AX_FB_CFG_SOFT_EN (n : Nat) : Fld := ⟨R.AX_FB_CFG n, 9, 1⟩
def AX_FB_CFG_FILT (n : Nat) : Fld := ⟨R.AX_FB_CFG n, 10, 2⟩
def AX_FB_CFG_VEL_FILT (n : Nat) : Fld := ⟨R.AX_FB_CFG n, 12, 3⟩
def AX_FB_CFG_ZMODE (n : Nat) : Fld := ⟨R.AX_FB_CFG n, 16, 2⟩
def AX_FB_CFG_SEC_SRC (n : Nat) : Fld := ⟨R.AX_FB_CFG n, 18, 2⟩
def AX_FB_CFG_SEC_CH (n : Nat) : Fld := ⟨R.AX_FB_CFG n, 20, 4⟩
def AX_FB_LINES_LINES (n : Nat) : Fld := ⟨R.AX_FB_LINES n, 0, 30⟩
def AX_FB_CMD_LOAD (n : Nat) : Fld := ⟨R.AX_FB_CMD n, 0, 1⟩
def AX_FB_CMD_FAULT_CLR (n : Nat) : Fld := ⟨R.AX_FB_CMD n, 1, 1⟩
def AX_FB_CMD_Z_ARM (n : Nat) : Fld := ⟨R.AX_FB_CMD n, 2, 1⟩
def AX_FB_VCFG_ZERO_TMO (n : Nat) : Fld := ⟨R.AX_FB_VCFG n, 0, 16⟩
def AX_FB_POS_LO_POS (n : Nat) : Fld := ⟨R.AX_FB_POS_LO n, 0, 32⟩
def AX_FB_POS_HI_POS (n : Nat) : Fld := ⟨R.AX_FB_POS_HI n, 0, 32⟩
def AX_FB_POS2_LO_POS (n : Nat) : Fld := ⟨R.AX_FB_POS2_LO n, 0, 32⟩
def AX_FB_POS2_HI_POS (n : Nat) : Fld := ⟨R.AX_FB_POS2_HI n, 0, 32⟩
def AX_FB_ZLAT_LO_POS (n : Nat) : Fld := ⟨R.AX_FB_ZLAT_LO n, 0, 32⟩
def AX_FB_ZLAT_HI_POS (n : Nat) : Fld := ⟨R.AX_FB_ZLAT_HI n, 0, 32⟩
def AX_FB_VEL_VEL (n : Nat) : Fld := ⟨R.AX_FB_VEL n, 0, 32⟩
def AX_FB_STAMP_STAMP (n : Nat) : Fld := ⟨R.AX_FB_STAMP n, 0, 32⟩
def AX_FB_ZLAT_STAMP_STAMP (n : Nat) : Fld := ⟨R.AX_FB_ZLAT_STAMP n, 0, 32⟩
def AX_FB_SOFT_MIN_LO_LIM (n : Nat) : Fld := ⟨R.AX_FB_SOFT_MIN_LO n, 0, 32⟩
def AX_FB_SOFT_MIN_HI_LIM (n : Nat) : Fld := ⟨R.AX_FB_SOFT_MIN_HI n, 0, 32⟩
def AX_FB_SOFT_MAX_LO_LIM (n : Nat) : Fld := ⟨R.AX_FB_SOFT_MAX_LO n, 0, 32⟩
def AX_FB_SOFT_MAX_HI_LIM (n : Nat) : Fld := ⟨R.AX_FB_SOFT_MAX_HI n, 0, 32⟩
def AX_FB_LOAD_LO_LOAD (n : Nat) : Fld := ⟨R.AX_FB_LOAD_LO n, 0, 32⟩
def AX_FB_LOAD_HI_LOAD (n : Nat) : Fld := ⟨R.AX_FB_LOAD_HI n, 0, 32⟩
def AX_FB_FAIL_CONFIRM (n : Nat) : Fld := ⟨R.AX_FB_FAIL n, 0, 4⟩
def AX_FB_FAIL_RIDE (n : Nat) : Fld := ⟨R.AX_FB_FAIL n, 4, 10⟩
def AX_FB_SC_ADC_A (n : Nat) : Fld := ⟨R.AX_FB_SC_ADC n, 0, 14⟩
def AX_FB_SC_ADC_B (n : Nat) : Fld := ⟨R.AX_FB_SC_ADC n, 16, 14⟩
def AX_FB_SC_OFS_OFS_A (n : Nat) : Fld := ⟨R.AX_FB_SC_OFS n, 0, 16⟩
def AX_FB_SC_OFS_OFS_B (n : Nat) : Fld := ⟨R.AX_FB_SC_OFS n, 16, 16⟩
def AX_FB_SC_GP_GAIN_B (n : Nat) : Fld := ⟨R.AX_FB_SC_GP n, 0, 16⟩
def AX_FB_SC_GP_PHASE (n : Nat) : Fld := ⟨R.AX_FB_SC_GP n, 16, 16⟩
def AX_FB_SC_AMP_AMP_NOM (n : Nat) : Fld := ⟨R.AX_FB_SC_AMP n, 0, 14⟩
def AX_FB_SC_AMP_WIN_LO (n : Nat) : Fld := ⟨R.AX_FB_SC_AMP n, 14, 8⟩
def AX_FB_SC_AMP_WIN_HI (n : Nat) : Fld := ⟨R.AX_FB_SC_AMP n, 22, 8⟩
def AX_FB_SC_AMP_ADAPT_EN (n : Nat) : Fld := ⟨R.AX_FB_SC_AMP n, 30, 1⟩
def AX_FB_SSI_CFG_DATA_BITS (n : Nat) : Fld := ⟨R.AX_FB_SSI_CFG n, 0, 6⟩
def AX_FB_SSI_CFG_ST_BITS (n : Nat) : Fld := ⟨R.AX_FB_SSI_CFG n, 6, 6⟩
def AX_FB_SSI_CFG_START_BITS (n : Nat) : Fld := ⟨R.AX_FB_SSI_CFG n, 12, 3⟩
def AX_FB_SSI_CFG_STATUS_BITS (n : Nat) : Fld := ⟨R.AX_FB_SSI_CFG n, 15, 3⟩
def AX_FB_SSI_CFG_CRC_LEN (n : Nat) : Fld := ⟨R.AX_FB_SSI_CFG n, 18, 4⟩
def AX_FB_SSI_CFG_GRAY (n : Nat) : Fld := ⟨R.AX_FB_SSI_CFG n, 22, 1⟩
def AX_FB_SSI_CFG_ERR_MASK (n : Nat) : Fld := ⟨R.AX_FB_SSI_CFG n, 24, 4⟩
def AX_FB_SSI_CLK_DIV (n : Nat) : Fld := ⟨R.AX_FB_SSI_CLK n, 0, 12⟩
def AX_FB_SSI_CLK_TM (n : Nat) : Fld := ⟨R.AX_FB_SSI_CLK n, 16, 8⟩
def AX_FB_SSI_CLK_CABLE_DLY (n : Nat) : Fld := ⟨R.AX_FB_SSI_CLK n, 24, 8⟩
def AX_FB_SSI_CRC_POLY (n : Nat) : Fld := ⟨R.AX_FB_SSI_CRC n, 0, 8⟩
def AX_FB_SSI_CRC_INIT (n : Nat) : Fld := ⟨R.AX_FB_SSI_CRC n, 8, 8⟩
def AX_FB_SSI_CRC_CRC_INV (n : Nat) : Fld := ⟨R.AX_FB_SSI_CRC n, 16, 1⟩
def AX_FB_SSI_CHECK_EVERY (n : Nat) : Fld := ⟨R.AX_FB_SSI_CHECK n, 0, 8⟩
def AX_FB_SSI_CHECK_TOL (n : Nat) : Fld := ⟨R.AX_FB_SSI_CHECK n, 8, 24⟩
def AX_FB_SSI_RAW_LO_DATA (n : Nat) : Fld := ⟨R.AX_FB_SSI_RAW_LO n, 0, 32⟩
def AX_FB_SSI_RAW_HI_DATA (n : Nat) : Fld := ⟨R.AX_FB_SSI_RAW_HI n, 0, 32⟩
def AX_FB_HALL_CFG_SHIFT (n : Nat) : Fld := ⟨R.AX_FB_HALL_CFG n, 0, 3⟩
def AX_FB_HALL_CFG_INV (n : Nat) : Fld := ⟨R.AX_FB_HALL_CFG n, 3, 1⟩
def AX_FB_HALL_CFG_POLE_PAIRS (n : Nat) : Fld := ⟨R.AX_FB_HALL_CFG n, 4, 7⟩
def AX_FB_HALL_CFG_FILT (n : Nat) : Fld := ⟨R.AX_FB_HALL_CFG n, 11, 5⟩
def AX_FB_STATUS_VALID (n : Nat) : Fld := ⟨R.AX_FB_STATUS n, 0, 1⟩
def AX_FB_STATUS_SAT_MIN (n : Nat) : Fld := ⟨R.AX_FB_STATUS n, 1, 1⟩
def AX_FB_STATUS_SAT_MAX (n : Nat) : Fld := ⟨R.AX_FB_STATUS n, 2, 1⟩
def AX_FB_STATUS_SAT_SEEN (n : Nat) : Fld := ⟨R.AX_FB_STATUS n, 3, 1⟩
def AX_FB_STATUS_WRAPPED (n : Nat) : Fld := ⟨R.AX_FB_STATUS n, 4, 1⟩
def AX_FB_STATUS_EXTRAP (n : Nat) : Fld := ⟨R.AX_FB_STATUS n, 5, 1⟩
def AX_FB_STATUS_FAULT (n : Nat) : Fld := ⟨R.AX_FB_STATUS n, 6, 1⟩
def AX_FB_STATUS_LINE_ERR (n : Nat) : Fld := ⟨R.AX_FB_STATUS n, 7, 1⟩
def AX_FB_STATUS_QUAD_ERR (n : Nat) : Fld := ⟨R.AX_FB_STATUS n, 8, 1⟩
def AX_FB_STATUS_AMP_LOW (n : Nat) : Fld := ⟨R.AX_FB_STATUS n, 9, 1⟩
def AX_FB_STATUS_AMP_HIGH (n : Nat) : Fld := ⟨R.AX_FB_STATUS n, 10, 1⟩
def AX_FB_STATUS_AMP_FAULT (n : Nat) : Fld := ⟨R.AX_FB_STATUS n, 11, 1⟩
def AX_FB_STATUS_SYNC_ERR (n : Nat) : Fld := ⟨R.AX_FB_STATUS n, 12, 1⟩
def AX_FB_STATUS_SSI_FAIL (n : Nat) : Fld := ⟨R.AX_FB_STATUS n, 13, 1⟩
def AX_FB_STATUS_SSI_BUSY (n : Nat) : Fld := ⟨R.AX_FB_STATUS n, 14, 1⟩
def AX_FB_STATUS_CHECK_ERR (n : Nat) : Fld := ⟨R.AX_FB_STATUS n, 15, 1⟩
def AX_FB_STATUS_HALL_STATE (n : Nat) : Fld := ⟨R.AX_FB_STATUS n, 16, 3⟩
def AX_FB_STATUS_HALL_SKIP (n : Nat) : Fld := ⟨R.AX_FB_STATUS n, 19, 1⟩
def AX_FB_STATUS_HALL_AMBIG (n : Nat) : Fld := ⟨R.AX_FB_STATUS n, 20, 1⟩
def AX_FB_STATUS_Z_SEEN (n : Nat) : Fld := ⟨R.AX_FB_STATUS n, 21, 1⟩
def AX_FB_STATUS_REV_HOLD (n : Nat) : Fld := ⟨R.AX_FB_STATUS n, 22, 1⟩
def AX_FB_STATUS_POS2_VALID (n : Nat) : Fld := ⟨R.AX_FB_STATUS n, 23, 1⟩
def AX_FB_STATUS_CFG_REFUSED (n : Nat) : Fld := ⟨R.AX_FB_STATUS n, 24, 1⟩
def AX_FB_STATUS_LENT (n : Nat) : Fld := ⟨R.AX_FB_STATUS n, 25, 1⟩
def AX_FB_COUNT_GLITCH (n : Nat) : Fld := ⟨R.AX_FB_COUNT n, 0, 16⟩
def AX_FB_COUNT_SSI_FAIL (n : Nat) : Fld := ⟨R.AX_FB_COUNT n, 16, 16⟩
def GLB_PRB_CFG_ARM (n : Nat) : Fld := ⟨R.GLB_PRB_CFG n, 0, 1⟩
def GLB_PRB_CFG_CONT (n : Nat) : Fld := ⟨R.GLB_PRB_CFG n, 1, 1⟩
def GLB_PRB_CFG_EDGE (n : Nat) : Fld := ⟨R.GLB_PRB_CFG n, 2, 2⟩
def GLB_PRB_CFG_AXIS (n : Nat) : Fld := ⟨R.GLB_PRB_CFG n, 4, 4⟩
def GLB_PRB_CFG_SHAFT (n : Nat) : Fld := ⟨R.GLB_PRB_CFG n, 8, 1⟩
def GLB_PRB_CFG_FILT (n : Nat) : Fld := ⟨R.GLB_PRB_CFG n, 9, 4⟩
def GLB_PRB_CFG_AUX (n : Nat) : Fld := ⟨R.GLB_PRB_CFG n, 13, 1⟩
def GLB_PRB_CFG_AUX_CH (n : Nat) : Fld := ⟨R.GLB_PRB_CFG n, 14, 5⟩
def GLB_PRB_STATUS_LEVEL (n : Nat) : Fld := ⟨R.GLB_PRB_STATUS n, 0, 3⟩
def GLB_PRB_STATUS_OVERFLOW (n : Nat) : Fld := ⟨R.GLB_PRB_STATUS n, 3, 1⟩
def GLB_PRB_STATUS_CFG_REFUSED (n : Nat) : Fld := ⟨R.GLB_PRB_STATUS n, 4, 1⟩
def GLB_PRB_STATUS_INPUT (n : Nat) : Fld := ⟨R.GLB_PRB_STATUS n, 5, 1⟩
def GLB_PRB_POP_POP (n : Nat) : Fld := ⟨R.GLB_PRB_POP n, 0, 1⟩
def GLB_PRB_STAMP_STAMP (n : Nat) : Fld := ⟨R.GLB_PRB_STAMP n, 0, 32⟩
def GLB_PRB_POS_LO_POS (n : Nat) : Fld := ⟨R.GLB_PRB_POS_LO n, 0, 32⟩
def GLB_PRB_POS_HI_POS (n : Nat) : Fld := ⟨R.GLB_PRB_POS_HI n, 0, 32⟩
def GLB_PRB_FLAGS_EDGE (n : Nat) : Fld := ⟨R.GLB_PRB_FLAGS n, 0, 1⟩
def GLB_PRB_FLAGS_POS_VALID (n : Nat) : Fld := ⟨R.GLB_PRB_FLAGS n, 1, 1⟩
def GLB_PRB_FLAGS_EXTRAP (n : Nat) : Fld := ⟨R.GLB_PRB_FLAGS n, 2, 1⟩
def AE_CTL_RUN (n : Nat) : Fld := ⟨R.AE_CTL n, 0, 1⟩
def AE_CTL_BG_EN (n : Nat) : Fld := ⟨R.AE_CTL n, 1, 1⟩
def AE_CTL_COMMIT (n : Nat) : Fld := ⟨R.AE_CTL n, 2, 1⟩
def AE_CTL_FAULT_CLR (n : Nat) : Fld := ⟨R.AE_CTL n, 3, 1⟩
def AE_CTL_DISCARD_PENDING (n : Nat) : Fld := ⟨R.AE_CTL n, 4, 1⟩
def AE_SCHED_REF_AXIS (n : Nat) : Fld := ⟨R.AE_SCHED n, 0, 1⟩
def AE_SCHED_MISS_LIMIT (n : Nat) : Fld := ⟨R.AE_SCHED n, 1, 2⟩
def AE_SCHED_YIELD_LEAD (n : Nat) : Fld := ⟨R.AE_SCHED n, 8, 8⟩
def AE_SCHED_RESUME_MIN (n : Nat) : Fld := ⟨R.AE_SCHED n, 16, 8⟩
def AE_BASE_OFS_OFS (n : Nat) : Fld := ⟨R.AE_BASE_OFS n, 0, 21⟩
def AE_PHASE_OFS (n : Nat) : Fld := ⟨R.AE_PHASE n, 0, 21⟩
def AE_COMMIT_STATUS_STATE (n : Nat) : Fld := ⟨R.AE_COMMIT_STATUS n, 0, 2⟩
def AE_COMMIT_STATUS_REASON (n : Nat) : Fld := ⟨R.AE_COMMIT_STATUS n, 2, 4⟩
def AE_COMMIT_STATUS_SLOT (n : Nat) : Fld := ⟨R.AE_COMMIT_STATUS n, 6, 5⟩
def AE_COMMIT_STATUS_OTHER (n : Nat) : Fld := ⟨R.AE_COMMIT_STATUS n, 11, 5⟩
def AE_COMMIT_STATUS_SHORTFALL (n : Nat) : Fld := ⟨R.AE_COMMIT_STATUS n, 16, 16⟩
def AE_TABLE_INFO_T_LOOP (n : Nat) : Fld := ⟨R.AE_TABLE_INFO n, 0, 21⟩
def AE_STATUS_RUNNING (n : Nat) : Fld := ⟨R.AE_STATUS n, 0, 1⟩
def AE_STATUS_BG_ACTIVE (n : Nat) : Fld := ⟨R.AE_STATUS n, 1, 1⟩
def AE_STATUS_REF_USED (n : Nat) : Fld := ⟨R.AE_STATUS n, 2, 1⟩
def AE_STATUS_OVERRUN (n : Nat) : Fld := ⟨R.AE_STATUS n, 3, 1⟩
def AE_STATUS_INPUT_LATE (n : Nat) : Fld := ⟨R.AE_STATUS n, 4, 1⟩
def AE_STATUS_SAMPLE_MISPLACED (n : Nat) : Fld := ⟨R.AE_STATUS n, 5, 1⟩
def AE_STATUS_PHASE_MISMATCH (n : Nat) : Fld := ⟨R.AE_STATUS n, 6, 1⟩
def AE_STATUS_PERIOD_MISMATCH (n : Nat) : Fld := ⟨R.AE_STATUS n, 7, 1⟩
def AE_STATUS_BG_SAVE_LATE (n : Nat) : Fld := ⟨R.AE_STATUS n, 8, 1⟩
def AE_STATUS_ECC_CORR (n : Nat) : Fld := ⟨R.AE_STATUS n, 9, 1⟩
def AE_STATUS_ECC_FATAL (n : Nat) : Fld := ⟨R.AE_STATUS n, 10, 1⟩
def AE_STATUS_PM_WRITE_REFUSED (n : Nat) : Fld := ⟨R.AE_STATUS n, 11, 1⟩
def AE_STATUS_CTL_REFUSED (n : Nat) : Fld := ⟨R.AE_STATUS n, 12, 1⟩
def AE_STATUS_FAULT_SLOT (n : Nat) : Fld := ⟨R.AE_STATUS n, 14, 5⟩
def AE_STATUS_MISS_A (n : Nat) : Fld := ⟨R.AE_STATUS n, 19, 2⟩
def AE_STATUS_MISS_B (n : Nat) : Fld := ⟨R.AE_STATUS n, 21, 2⟩
def AE_PERIOD_CNT_COUNT (n : Nat) : Fld := ⟨R.AE_PERIOD_CNT n, 0, 20⟩
def AE_BG_VEC_ENTRY (n : Nat) : Fld := ⟨R.AE_BG_VEC n, 0, 13⟩
def AE_BG_VEC_SAVE (n : Nat) : Fld := ⟨R.AE_BG_VEC n, 16, 13⟩
def AE_BG_VEC2_RESTORE (n : Nat) : Fld := ⟨R.AE_BG_VEC2 n, 0, 13⟩
def AE_BG_STAT_PC (n : Nat) : Fld := ⟨R.AE_BG_STAT n, 0, 13⟩
def AE_BG_STAT_RESTARTS (n : Nat) : Fld := ⟨R.AE_BG_STAT n, 16, 16⟩
def AE_BUDGET_CYCLES (n : Nat) : Fld := ⟨R.AE_BUDGET n, 0, 20⟩
def AE_NBASE_CYCLES (n : Nat) : Fld := ⟨R.AE_NBASE n, 0, 20⟩
def AE_ECC_CORR (n : Nat) : Fld := ⟨R.AE_ECC n, 0, 16⟩
def AE_DM_PAGE_PAGE (n : Nat) : Fld := ⟨R.AE_DM_PAGE n, 0, 1⟩
def AE_SLOT_TIME_START (n : Nat) (k : Nat) : Fld := ⟨R.AE_SLOT_TIME n k, 0, 20⟩
def AE_SLOT_CTL_LEN (n : Nat) (k : Nat) : Fld := ⟨R.AE_SLOT_CTL n k, 0, 16⟩
def AE_SLOT_CTL_EN (n : Nat) (k : Nat) : Fld := ⟨R.AE_SLOT_CTL n k, 16, 1⟩
def AE_SLOT_CTL_AXIS (n : Nat) (k : Nat) : Fld := ⟨R.AE_SLOT_CTL n k, 17, 2⟩
def AE_SLOT_CTL_APPLY (n : Nat) (k : Nat) : Fld := ⟨R.AE_SLOT_CTL n k, 19, 1⟩
def AE_SLOT_CTL_DIV (n : Nat) (k : Nat) : Fld := ⟨R.AE_SLOT_CTL n k, 20, 4⟩
def AE_SLOT_CTL_PHASE (n : Nat) (k : Nat) : Fld := ⟨R.AE_SLOT_CTL n k, 24, 4⟩
def AE_SLOT_CTL_INPUTS (n : Nat) (k : Nat) : Fld := ⟨R.AE_SLOT_CTL n k, 28, 3⟩
def AE_SLOT_ENTRY_ENTRY (n : Nat) (k : Nat) : Fld := ⟨R.AE_SLOT_ENTRY n k, 0, 13⟩
def AE_SLOT_STAT_MAX_USED (n : Nat) (k : Nat) : Fld := ⟨R.AE_SLOT_STAT n k, 0, 16⟩
def AE_SLOT_STAT_OVERRUNS (n : Nat) (k : Nat) : Fld := ⟨R.AE_SLOT_STAT n k, 16, 16⟩
def SUP_CTL_RES_EN (n : Nat) : Fld := ⟨R.SUP_CTL n, 0, 1⟩
def SUP_CTL_RES_ACTION (n : Nat) : Fld := ⟨R.SUP_CTL n, 1, 2⟩
def SUP_CTL_RES_CNT (n : Nat) : Fld := ⟨R.SUP_CTL n, 3, 4⟩
def SUP_CTL_OBS_RESET (n : Nat) : Fld := ⟨R.SUP_CTL n, 7, 1⟩
def SUP_CTL_FAULT_CLR (n : Nat) : Fld := ⟨R.SUP_CTL n, 8, 1⟩
def SUP_STATUS_OBS_VALID (n : Nat) : Fld := ⟨R.SUP_STATUS n, 0, 1⟩
def SUP_STATUS_OBS_CLAMPED (n : Nat) : Fld := ⟨R.SUP_STATUS n, 1, 1⟩
def SUP_STATUS_R_P_OUT (n : Nat) : Fld := ⟨R.SUP_STATUS n, 2, 1⟩
def SUP_STATUS_R_V_OUT (n : Nat) : Fld := ⟨R.SUP_STATUS n, 3, 1⟩
def SUP_STATUS_RES_FAULT (n : Nat) : Fld := ⟨R.SUP_STATUS n, 4, 1⟩
def TS_CMD_OP (n : Nat) : Fld := ⟨R.TS_CMD n, 0, 3⟩
def TS_CMD_SEQ (n : Nat) : Fld := ⟨R.TS_CMD n, 8, 8⟩
def TS_CMD_ARG (n : Nat) : Fld := ⟨R.TS_CMD n, 16, 16⟩
def AT_CMD_OP (n : Nat) : Fld := ⟨R.AT_CMD n, 0, 3⟩
def AT_CMD_SEQ (n : Nat) : Fld := ⟨R.AT_CMD n, 8, 8⟩
def AT_CMD_ARG (n : Nat) : Fld := ⟨R.AT_CMD n, 16, 16⟩
def TS_STATUS_STATE (n : Nat) : Fld := ⟨R.TS_STATUS n, 0, 3⟩
def TS_STATUS_FLAG (n : Nat) : Fld := ⟨R.TS_STATUS n, 3, 1⟩
def TS_STATUS_REASON (n : Nat) : Fld := ⟨R.TS_STATUS n, 4, 4⟩
def TS_STATUS_ACK_SEQ (n : Nat) : Fld := ⟨R.TS_STATUS n, 8, 8⟩
def TS_STATUS_STEP (n : Nat) : Fld := ⟨R.TS_STATUS n, 16, 8⟩
def AT_STATUS_STATE (n : Nat) : Fld := ⟨R.AT_STATUS n, 0, 3⟩
def AT_STATUS_FLAG (n : Nat) : Fld := ⟨R.AT_STATUS n, 3, 1⟩
def AT_STATUS_REASON (n : Nat) : Fld := ⟨R.AT_STATUS n, 4, 4⟩
def AT_STATUS_ACK_SEQ (n : Nat) : Fld := ⟨R.AT_STATUS n, 8, 8⟩
def AT_STATUS_STEP (n : Nat) : Fld := ⟨R.AT_STATUS n, 16, 8⟩
def LSP_STATUS_RUNNING : Fld := ⟨R.LSP_STATUS, 0, 4⟩
def LSP_STATUS_FAULT : Fld := ⟨R.LSP_STATUS, 4, 4⟩
def LSP_DL_DECEL_V_DECEL (n : Nat) : Fld := ⟨R.LSP_DL_DECEL n, 0, 16⟩
def LSP_DL_DECEL_S_MIN (n : Nat) : Fld := ⟨R.LSP_DL_DECEL n, 16, 8⟩
def LSP_DL_STATUS_S (n : Nat) : Fld := ⟨R.LSP_DL_STATUS n, 0, 9⟩
def LSP_CH_CFG_SRC (n : Nat) : Fld := ⟨R.LSP_CH_CFG n, 0, 2⟩
def LSP_CH_CFG_GROUP (n : Nat) : Fld := ⟨R.LSP_CH_CFG n, 2, 4⟩
def LSP_CH_CFG_GROUP_EN (n : Nat) : Fld := ⟨R.LSP_CH_CFG n, 6, 1⟩
def LSP_CH_CFG_HOLD_EN (n : Nat) : Fld := ⟨R.LSP_CH_CFG n, 7, 1⟩
def LSP_CH_CFG_STOP_KIND (n : Nat) : Fld := ⟨R.LSP_CH_CFG n, 10, 2⟩
def LSP_CH_CFG_LIM_POS_SEL (n : Nat) : Fld := ⟨R.LSP_CH_CFG n, 16, 6⟩
def LSP_CH_CFG_LIM_NEG_SEL (n : Nat) : Fld := ⟨R.LSP_CH_CFG n, 22, 6⟩
def LSP_CH_CFG_LIM_HARD (n : Nat) : Fld := ⟨R.LSP_CH_CFG n, 28, 1⟩
def LSP_CH_CMD_OP (n : Nat) : Fld := ⟨R.LSP_CH_CMD n, 0, 4⟩
def LSP_CH_CMD_QUEUE (n : Nat) : Fld := ⟨R.LSP_CH_CMD n, 4, 1⟩
def LSP_CH_CMD_START_AT (n : Nat) : Fld := ⟨R.LSP_CH_CMD n, 5, 1⟩
def LSP_CH_TARGET_LO_TARGET (n : Nat) : Fld := ⟨R.LSP_CH_TARGET_LO n, 0, 32⟩
def LSP_CH_TARGET_HI_TARGET (n : Nat) : Fld := ⟨R.LSP_CH_TARGET_HI n, 0, 32⟩
def LSP_CH_VMAX_LIMIT (n : Nat) : Fld := ⟨R.LSP_CH_VMAX n, 0, 32⟩
def LSP_CH_AMAX_LIMIT (n : Nat) : Fld := ⟨R.LSP_CH_AMAX n, 0, 32⟩
def LSP_CH_DMAX_LIMIT (n : Nat) : Fld := ⟨R.LSP_CH_DMAX n, 0, 32⟩
def LSP_CH_JMAX_LIMIT (n : Nat) : Fld := ⟨R.LSP_CH_JMAX n, 0, 32⟩
def LSP_CH_START_START (n : Nat) : Fld := ⟨R.LSP_CH_START n, 0, 32⟩
def LSP_CH_STOP_DEC_VALUE (n : Nat) : Fld := ⟨R.LSP_CH_STOP_DEC n, 0, 32⟩
def LSP_CH_STOP_JERK_VALUE (n : Nat) : Fld := ⟨R.LSP_CH_STOP_JERK n, 0, 32⟩
def LSP_CH_QS_DEC_VALUE (n : Nat) : Fld := ⟨R.LSP_CH_QS_DEC n, 0, 32⟩
def LSP_CH_STATUS_STATE (n : Nat) : Fld := ⟨R.LSP_CH_STATUS n, 0, 3⟩
def LSP_CH_STATUS_QLEVEL (n : Nat) : Fld := ⟨R.LSP_CH_STATUS n, 3, 3⟩
def LSP_CH_STATUS_STANDSTILL (n : Nat) : Fld := ⟨R.LSP_CH_STATUS n, 6, 1⟩
def LSP_CH_STATUS_HOLD (n : Nat) : Fld := ⟨R.LSP_CH_STATUS n, 7, 1⟩
def LSP_CH_STATUS_AT_TARGET (n : Nat) : Fld := ⟨R.LSP_CH_STATUS n, 8, 1⟩
def LSP_CH_STATUS_STRETCHED (n : Nat) : Fld := ⟨R.LSP_CH_STATUS n, 9, 1⟩
def LSP_CH_STATUS_LIM_POS (n : Nat) : Fld := ⟨R.LSP_CH_STATUS n, 10, 1⟩
def LSP_CH_STATUS_LIM_NEG (n : Nat) : Fld := ⟨R.LSP_CH_STATUS n, 11, 1⟩
def LSP_CH_STATUS_HOMED (n : Nat) : Fld := ⟨R.LSP_CH_STATUS n, 12, 1⟩
def LSP_CH_STATUS_DECEL_KEPT (n : Nat) : Fld := ⟨R.LSP_CH_STATUS n, 13, 1⟩
def LSP_CH_STATUS_LIM_BOTH (n : Nat) : Fld := ⟨R.LSP_CH_STATUS n, 14, 1⟩
def LSP_CH_STATUS_CMD_REFUSED (n : Nat) : Fld := ⟨R.LSP_CH_STATUS n, 15, 1⟩
def LSP_CH_STATUS_QUEUE_FULL (n : Nat) : Fld := ⟨R.LSP_CH_STATUS n, 16, 1⟩
def LSP_CH_STATUS_START_LATE (n : Nat) : Fld := ⟨R.LSP_CH_STATUS n, 17, 1⟩
def LSP_CH_STATUS_STOP_TMO (n : Nat) : Fld := ⟨R.LSP_CH_STATUS n, 18, 1⟩
def LSP_CH_STATUS_HOME_FAIL (n : Nat) : Fld := ⟨R.LSP_CH_STATUS n, 19, 1⟩
def LSP_CH_STATUS_HOME_REASON (n : Nat) : Fld := ⟨R.LSP_CH_STATUS n, 20, 4⟩
def LSP_CH_PREF_LO_P_REF (n : Nat) : Fld := ⟨R.LSP_CH_PREF_LO n, 0, 32⟩
def LSP_CH_PREF_HI_P_REF (n : Nat) : Fld := ⟨R.LSP_CH_PREF_HI n, 0, 32⟩
def LSP_CH_VREF_REF (n : Nat) : Fld := ⟨R.LSP_CH_VREF n, 0, 32⟩
def LSP_CH_AREF_REF (n : Nat) : Fld := ⟨R.LSP_CH_AREF n, 0, 32⟩
def LSP_CH_HOME_CFG_TYPE (n : Nat) : Fld := ⟨R.LSP_CH_HOME_CFG n, 0, 4⟩
def LSP_CH_HOME_CFG_PROBE (n : Nat) : Fld := ⟨R.LSP_CH_HOME_CFG n, 4, 3⟩
def LSP_CH_HOME_CFG_I_TIME (n : Nat) : Fld := ⟨R.LSP_CH_HOME_CFG n, 8, 8⟩
def LSP_CH_HOME_FAST_VEL (n : Nat) : Fld := ⟨R.LSP_CH_HOME_FAST n, 0, 32⟩
def LSP_CH_HOME_CREEP_VEL (n : Nat) : Fld := ⟨R.LSP_CH_HOME_CREEP n, 0, 32⟩
def LSP_CH_HOME_POS_LO_POS (n : Nat) : Fld := ⟨R.LSP_CH_HOME_POS_LO n, 0, 32⟩
def LSP_CH_HOME_POS_HI_POS (n : Nat) : Fld := ⟨R.LSP_CH_HOME_POS_HI n, 0, 32⟩
def LSP_CH_HOME_TRAVEL_TRAVEL (n : Nat) : Fld := ⟨R.LSP_CH_HOME_TRAVEL n, 0, 32⟩
def LSP_CH_HOME_I_I (n : Nat) : Fld := ⟨R.LSP_CH_HOME_I n, 0, 32⟩
def LSP_CH_HOME_ILIM_I (n : Nat) : Fld := ⟨R.LSP_CH_HOME_ILIM n, 0, 32⟩
def LSP_CH_HOLD_CFG_HOLD_SCALE (n : Nat) : Fld := ⟨R.LSP_CH_HOLD_CFG n, 0, 16⟩
def LSP_CH_HOLD_CFG_HOLD_DELAY (n : Nat) : Fld := ⟨R.LSP_CH_HOLD_CFG n, 16, 16⟩
def LSP_CH_SS_CFG_SS_VEL (n : Nat) : Fld := ⟨R.LSP_CH_SS_CFG n, 0, 16⟩
def LSP_CH_SS_CFG_SS_TIME (n : Nat) : Fld := ⟨R.LSP_CH_SS_CFG n, 16, 16⟩
def LSP_CH_TMO_STOP_TMO (n : Nat) : Fld := ⟨R.LSP_CH_TMO n, 0, 16⟩
def LSP_CH_TMO_HOME_TMO (n : Nat) : Fld := ⟨R.LSP_CH_TMO n, 16, 16⟩
def LSP_CH_HOLD_WIN_WIN (n : Nat) : Fld := ⟨R.LSP_CH_HOLD_WIN n, 0, 32⟩
def LSP_GRP_CMD_OP (n : Nat) : Fld := ⟨R.LSP_GRP_CMD n, 0, 3⟩
def LSP_GRP_CMD_START_AT (n : Nat) : Fld := ⟨R.LSP_GRP_CMD n, 3, 1⟩
def LSP_GRP_STATUS_LEADER (n : Nat) : Fld := ⟨R.LSP_GRP_STATUS n, 0, 8⟩
def LSP_GRP_STATUS_MEMBERS (n : Nat) : Fld := ⟨R.LSP_GRP_STATUS n, 8, 5⟩
def LSP_GRP_STATUS_STATE (n : Nat) : Fld := ⟨R.LSP_GRP_STATUS n, 13, 2⟩
def LSP_GRP_STATUS_GROUP_LIMITED (n : Nat) : Fld := ⟨R.LSP_GRP_STATUS n, 15, 1⟩
def LSP_GRP_STATUS_PATH_BROKEN (n : Nat) : Fld := ⟨R.LSP_GRP_STATUS n, 16, 1⟩
def LSP_GRP_STATUS_CMD_REFUSED (n : Nat) : Fld := ⟨R.LSP_GRP_STATUS n, 17, 1⟩
def LSP_GRP_START_START (n : Nat) : Fld := ⟨R.LSP_GRP_START n, 0, 32⟩
def LSH_CFG_CYCLE : Fld := ⟨R.LSH_CFG, 0, 3⟩
def LSH_CFG_EN : Fld := ⟨R.LSH_CFG, 3, 1⟩
def LSH_CFG_HOLD_CYC : Fld := ⟨R.LSH_CFG, 4, 4⟩
def LSH_CFG_VALID_CYC : Fld := ⟨R.LSH_CFG, 8, 4⟩
def LSH_CFG_MEMBER : Fld := ⟨R.LSH_CFG, 16, 8⟩
def LSH_DOMAIN_DOMAIN : Fld := ⟨R.LSH_DOMAIN, 0, 16⟩
def LSH_STATUS_LOST : Fld := ⟨R.LSH_STATUS, 0, 8⟩
def LSH_STATUS_LOST_SEEN : Fld := ⟨R.LSH_STATUS, 8, 8⟩
def LSH_STATUS_CFG_REFUSED : Fld := ⟨R.LSH_STATUS, 16, 1⟩
def LSH_STATUS_STEP_LOST : Fld := ⟨R.LSH_STATUS, 17, 1⟩
def LSH_SH_CFG_EN (n : Nat) : Fld := ⟨R.LSH_SH_CFG n, 0, 1⟩
def LSH_SH_CFG_ROLE (n : Nat) : Fld := ⟨R.LSH_SH_CFG n, 1, 2⟩
def LSH_SH_CFG_SRC_CH (n : Nat) : Fld := ⟨R.LSH_SH_CFG n, 3, 8⟩
def LSH_SH_CFG_PRIORITY (n : Nat) : Fld := ⟨R.LSH_SH_CFG n, 11, 8⟩
def LSH_SH_STATUS_STATE (n : Nat) : Fld := ⟨R.LSH_SH_STATUS n, 0, 2⟩
def LSH_SH_STATUS_MISSING (n : Nat) : Fld := ⟨R.LSH_SH_STATUS n, 2, 4⟩
def LSH_SH_STATUS_USED_MASTER (n : Nat) : Fld := ⟨R.LSH_SH_STATUS n, 6, 8⟩
def LSH_SH_STATUS_DIVERGE (n : Nat) : Fld := ⟨R.LSH_SH_STATUS n, 14, 1⟩
def LSH_SH_STATUS_LATE_SEG (n : Nat) : Fld := ⟨R.LSH_SH_STATUS n, 15, 1⟩
def LSH_SH_STATUS_SWITCHED (n : Nat) : Fld := ⟨R.LSH_SH_STATUS n, 16, 1⟩
def LSH_SH_STATUS_FIT_LIMIT (n : Nat) : Fld := ⟨R.LSH_SH_STATUS n, 17, 1⟩
def LSH_SH_SEQ_SEQ (n : Nat) : Fld := ⟨R.LSH_SH_SEQ n, 0, 32⟩
def LSH_SH_POS_LO_POS (n : Nat) : Fld := ⟨R.LSH_SH_POS_LO n, 0, 32⟩
def LSH_SH_POS_HI_POS (n : Nat) : Fld := ⟨R.LSH_SH_POS_HI n, 0, 32⟩
def LSH_SH_VEL_VEL (n : Nat) : Fld := ⟨R.LSH_SH_VEL n, 0, 32⟩
def LSH_SH_COUNT_DROPPED (n : Nat) : Fld := ⟨R.LSH_SH_COUNT n, 0, 16⟩
def LSH_SH_COUNT_DIVERGED (n : Nat) : Fld := ⟨R.LSH_SH_COUNT n, 16, 16⟩
def LSH_SH_PUB_PUB_OFS (n : Nat) : Fld := ⟨R.LSH_SH_PUB n, 0, 22⟩
def LSH_FOL_CFG_SHAFT (n : Nat) : Fld := ⟨R.LSH_FOL_CFG n, 0, 3⟩
def LSH_FOL_CFG_CAM_EN (n : Nat) : Fld := ⟨R.LSH_FOL_CFG n, 3, 1⟩
def LSH_FOL_CFG_TABLE (n : Nat) : Fld := ⟨R.LSH_FOL_CFG n, 4, 6⟩
def LSH_FOL_CFG_NEXT (n : Nat) : Fld := ⟨R.LSH_FOL_CFG n, 10, 6⟩
def LSH_FOL_CFG_ABS (n : Nat) : Fld := ⟨R.LSH_FOL_CFG n, 16, 1⟩
def LSH_FOL_CFG_BLEND (n : Nat) : Fld := ⟨R.LSH_FOL_CFG n, 17, 1⟩
def LSH_FOL_CMD_OP (n : Nat) : Fld := ⟨R.LSH_FOL_CMD n, 0, 3⟩
def LSH_FOL_CMD_START_AT (n : Nat) : Fld := ⟨R.LSH_FOL_CMD n, 3, 1⟩
def LSH_FOL_STATUS_STATE (n : Nat) : Fld := ⟨R.LSH_FOL_STATUS n, 0, 2⟩
def LSH_FOL_STATUS_PH_MOVING (n : Nat) : Fld := ⟨R.LSH_FOL_STATUS n, 2, 1⟩
def LSH_FOL_STATUS_CMD_REFUSED (n : Nat) : Fld := ⟨R.LSH_FOL_STATUS n, 3, 1⟩
def LSH_FOL_STATUS_CAM_MISMATCH (n : Nat) : Fld := ⟨R.LSH_FOL_STATUS n, 4, 1⟩
def LSH_FOL_STATUS_CAM_SWITCHED (n : Nat) : Fld := ⟨R.LSH_FOL_STATUS n, 5, 1⟩
def LSH_FOL_NUM_VALUE (n : Nat) : Fld := ⟨R.LSH_FOL_NUM n, 0, 32⟩
def LSH_FOL_DEN_VALUE (n : Nat) : Fld := ⟨R.LSH_FOL_DEN n, 0, 32⟩
def LSH_FOL_M_ORG_LO_POS (n : Nat) : Fld := ⟨R.LSH_FOL_M_ORG_LO n, 0, 32⟩
def LSH_FOL_M_ORG_HI_POS (n : Nat) : Fld := ⟨R.LSH_FOL_M_ORG_HI n, 0, 32⟩
def LSH_FOL_X_ORG_LO_POS (n : Nat) : Fld := ⟨R.LSH_FOL_X_ORG_LO n, 0, 32⟩
def LSH_FOL_X_ORG_HI_POS (n : Nat) : Fld := ⟨R.LSH_FOL_X_ORG_HI n, 0, 32⟩
def LSH_FOL_F_ORG_LO_POS (n : Nat) : Fld := ⟨R.LSH_FOL_F_ORG_LO n, 0, 32⟩
def LSH_FOL_F_ORG_HI_POS (n : Nat) : Fld := ⟨R.LSH_FOL_F_ORG_HI n, 0, 32⟩
def LSH_FOL_PHASE_PHASE (n : Nat) : Fld := ⟨R.LSH_FOL_PHASE n, 0, 32⟩
def LSH_FOL_PH_PHASE (n : Nat) : Fld := ⟨R.LSH_FOL_PH n, 0, 32⟩
def LSH_FOL_PH_RATE_RATE (n : Nat) : Fld := ⟨R.LSH_FOL_PH_RATE n, 0, 32⟩
def LSH_FOL_SYNC_DIST_DIST (n : Nat) : Fld := ⟨R.LSH_FOL_SYNC_DIST n, 0, 32⟩
def LSH_FOL_REG_CORR_CORR (n : Nat) : Fld := ⟨R.LSH_FOL_REG_CORR n, 0, 32⟩
def LSH_CAM_HANDLE_VALUE (n : Nat) : Fld := ⟨R.LSH_CAM_HANDLE n, 0, 32⟩
def LSH_CAM_LIFT_VALUE (n : Nat) : Fld := ⟨R.LSH_CAM_LIFT n, 0, 32⟩
def LSH_CAM_N_N (n : Nat) : Fld := ⟨R.LSH_CAM_N n, 0, 17⟩
def LSH_CAM_CMD_COMMIT (n : Nat) : Fld := ⟨R.LSH_CAM_CMD n, 0, 1⟩
def LSH_CAM_CMD_RELEASE (n : Nat) : Fld := ⟨R.LSH_CAM_CMD n, 1, 1⟩
def LSH_CAM_STATUS_STATE (n : Nat) : Fld := ⟨R.LSH_CAM_STATUS n, 0, 2⟩
def LSH_CAM_STATUS_ERR (n : Nat) : Fld := ⟨R.LSH_CAM_STATUS n, 2, 3⟩
def LSH_CAM_STATUS_IN_USE (n : Nat) : Fld := ⟨R.LSH_CAM_STATUS n, 8, 8⟩
def LSH_REG_CFG_EN (n : Nat) : Fld := ⟨R.LSH_REG_CFG n, 0, 1⟩
def LSH_REG_CFG_PROBE (n : Nat) : Fld := ⟨R.LSH_REG_CFG n, 1, 3⟩
def LSH_REG_CFG_SHAFT (n : Nat) : Fld := ⟨R.LSH_REG_CFG n, 4, 3⟩
def LSH_REG_CFG_FOL (n : Nat) : Fld := ⟨R.LSH_REG_CFG n, 7, 8⟩
def LSH_REG_CFG_AUTO (n : Nat) : Fld := ⟨R.LSH_REG_CFG n, 15, 1⟩
def LSH_REG_LEN_VALUE (n : Nat) : Fld := ⟨R.LSH_REG_LEN n, 0, 32⟩
def LSH_REG_WIN_OPEN_VALUE (n : Nat) : Fld := ⟨R.LSH_REG_WIN_OPEN n, 0, 32⟩
def LSH_REG_WIN_CLOSE_VALUE (n : Nat) : Fld := ⟨R.LSH_REG_WIN_CLOSE n, 0, 32⟩
def LSH_REG_EXP_VALUE (n : Nat) : Fld := ⟨R.LSH_REG_EXP n, 0, 32⟩
def LSH_REG_STEP_VALUE (n : Nat) : Fld := ⟨R.LSH_REG_STEP n, 0, 32⟩
def LSH_REG_MAX_VALUE (n : Nat) : Fld := ⟨R.LSH_REG_MAX n, 0, 32⟩
def LSH_REG_GAIN_GAIN (n : Nat) : Fld := ⟨R.LSH_REG_GAIN n, 0, 17⟩
def LSH_REG_TMO_TMO (n : Nat) : Fld := ⟨R.LSH_REG_TMO n, 0, 16⟩
def LSH_REG_VMIN_VMIN (n : Nat) : Fld := ⟨R.LSH_REG_VMIN n, 0, 32⟩
def LSH_REG_STATUS_OPEN (n : Nat) : Fld := ⟨R.LSH_REG_STATUS n, 0, 1⟩
def LSH_REG_STATUS_RESULT (n : Nat) : Fld := ⟨R.LSH_REG_STATUS n, 1, 3⟩
def LSH_REG_STATUS_NEW (n : Nat) : Fld := ⟨R.LSH_REG_STATUS n, 4, 1⟩
def LSH_REG_STATUS_EXTRA (n : Nat) : Fld := ⟨R.LSH_REG_STATUS n, 16, 16⟩
def LSH_REG_ERR_VALUE (n : Nat) : Fld := ⟨R.LSH_REG_ERR n, 0, 32⟩
def LSH_REG_PEND_VALUE (n : Nat) : Fld := ⟨R.LSH_REG_PEND n, 0, 32⟩
def LSH_REG_MLAT_LO_POS (n : Nat) : Fld := ⟨R.LSH_REG_MLAT_LO n, 0, 32⟩
def LSH_REG_MLAT_HI_POS (n : Nat) : Fld := ⟨R.LSH_REG_MLAT_HI n, 0, 32⟩
def LSH_CSW_CFG_EN (n : Nat) : Fld := ⟨R.LSH_CSW_CFG n, 0, 1⟩
def LSH_CSW_CFG_SHAFT (n : Nat) : Fld := ⟨R.LSH_CSW_CFG n, 1, 3⟩
def LSH_CSW_CFG_ACTION (n : Nat) : Fld := ⟨R.LSH_CSW_CFG n, 4, 2⟩
def LSH_CSW_CFG_TARGET (n : Nat) : Fld := ⟨R.LSH_CSW_CFG n, 8, 8⟩
def LSH_CSW_CFG_LQ (n : Nat) : Fld := ⟨R.LSH_CSW_CFG n, 16, 4⟩
def LSH_CSW_LEN_VALUE (n : Nat) : Fld := ⟨R.LSH_CSW_LEN n, 0, 32⟩
def LSH_CSW_ON_VALUE (n : Nat) : Fld := ⟨R.LSH_CSW_ON n, 0, 32⟩
def LSH_CSW_OFF_VALUE (n : Nat) : Fld := ⟨R.LSH_CSW_OFF n, 0, 32⟩
def LSH_CSW_HYST_VALUE (n : Nat) : Fld := ⟨R.LSH_CSW_HYST n, 0, 32⟩
def LSH_CSW_LEAD_LEAD (n : Nat) : Fld := ⟨R.LSH_CSW_LEAD n, 0, 22⟩
def LSH_CSW_STATUS_STATE (n : Nat) : Fld := ⟨R.LSH_CSW_STATUS n, 0, 1⟩
def LSH_CSW_STATUS_CANCELLED (n : Nat) : Fld := ⟨R.LSH_CSW_STATUS n, 1, 1⟩
def LSH_CSW_STATUS_REVERSED (n : Nat) : Fld := ⟨R.LSH_CSW_STATUS n, 2, 1⟩
def AUX_CFG_EN (n : Nat) : Fld := ⟨R.AUX_CFG n, 0, 1⟩
def AUX_CFG_MODE (n : Nat) : Fld := ⟨R.AUX_CFG n, 1, 2⟩
def AUX_CFG_DL_GROUP (n : Nat) : Fld := ⟨R.AUX_CFG n, 3, 2⟩
def AUX_CFG_EVAL_SRC (n : Nat) : Fld := ⟨R.AUX_CFG n, 5, 1⟩
def AUX_CFG_INTERVAL (n : Nat) : Fld := ⟨R.AUX_CFG n, 6, 10⟩
def AUX_CFG_ADC_SEL (n : Nat) : Fld := ⟨R.AUX_CFG n, 16, 2⟩
def AUX_CTL_OUT_EN (n : Nat) : Fld := ⟨R.AUX_CTL n, 0, 1⟩
def AUX_CTL_FAULT_CLR (n : Nat) : Fld := ⟨R.AUX_CTL n, 1, 1⟩
def AUX_STATUS_STATE (n : Nat) : Fld := ⟨R.AUX_STATUS n, 0, 2⟩
def AUX_STATUS_FAULT (n : Nat) : Fld := ⟨R.AUX_STATUS n, 2, 1⟩
def AUX_STATUS_LAUNCH_OFF (n : Nat) : Fld := ⟨R.AUX_STATUS n, 3, 1⟩
def AUX_STATUS_STO_GATED (n : Nat) : Fld := ⟨R.AUX_STATUS n, 4, 1⟩
def AUX_STATUS_CFG_REFUSED (n : Nat) : Fld := ⟨R.AUX_STATUS n, 5, 1⟩
def AUX_POS_LO_POS (n : Nat) : Fld := ⟨R.AUX_POS_LO n, 0, 32⟩
def AUX_POS_HI_POS (n : Nat) : Fld := ⟨R.AUX_POS_HI n, 0, 32⟩
def AUX_VEL_VEL (n : Nat) : Fld := ⟨R.AUX_VEL n, 0, 32⟩
def AUX_ADC_RES_RESULT (n : Nat) : Fld := ⟨R.AUX_ADC_RES n, 0, 12⟩
def AUX_ADC_STAMP_STAMP (n : Nat) : Fld := ⟨R.AUX_ADC_STAMP n, 0, 32⟩
def AUX_STP_CFG_STEPS_REV (n : Nat) : Fld := ⟨R.AUX_STP_CFG n, 0, 16⟩
def AUX_STP_CFG_MICRO (n : Nat) : Fld := ⟨R.AUX_STP_CFG n, 16, 4⟩
def AUX_STP_CFG_DECAY (n : Nat) : Fld := ⟨R.AUX_STP_CFG n, 20, 1⟩
def AUX_STP_CFG_DIR (n : Nat) : Fld := ⟨R.AUX_STP_CFG n, 21, 1⟩
def AUX_STP_CFG_ADAPT_EN (n : Nat) : Fld := ⟨R.AUX_STP_CFG n, 22, 1⟩
def AUX_STP_CUR_I_RUN (n : Nat) : Fld := ⟨R.AUX_STP_CUR n, 0, 8⟩
def AUX_STP_CUR_HYST (n : Nat) : Fld := ⟨R.AUX_STP_CUR n, 8, 8⟩
def AUX_STP_CUR_HOLD_FRAC (n : Nat) : Fld := ⟨R.AUX_STP_CUR n, 16, 8⟩
def AUX_STP_CHOP_BLANK (n : Nat) : Fld := ⟨R.AUX_STP_CHOP n, 0, 8⟩
def AUX_STP_CHOP_TOFF_MIN (n : Nat) : Fld := ⟨R.AUX_STP_CHOP n, 8, 8⟩
def AUX_STP_SS_SS_DELAY (n : Nat) : Fld := ⟨R.AUX_STP_SS n, 0, 14⟩
def AUX_STP_SS_RAMP (n : Nat) : Fld := ⟨R.AUX_STP_SS n, 16, 8⟩
def AUX_STP_OFS_OFS_A (n : Nat) : Fld := ⟨R.AUX_STP_OFS n, 0, 8⟩
def AUX_STP_OFS_OFS_B (n : Nat) : Fld := ⟨R.AUX_STP_OFS n, 8, 8⟩
def AUX_STP_STATUS_INDEX (n : Nat) : Fld := ⟨R.AUX_STP_STATUS n, 0, 10⟩
def AUX_STP_STATUS_REDUCED (n : Nat) : Fld := ⟨R.AUX_STP_STATUS n, 10, 1⟩
def AUX_STP_STATUS_REDUCING (n : Nat) : Fld := ⟨R.AUX_STP_STATUS n, 11, 1⟩
def AUX_STP_STATUS_STEP_SAT (n : Nat) : Fld := ⟨R.AUX_STP_STATUS n, 12, 1⟩
def AUX_STP_STATUS_OPEN_A (n : Nat) : Fld := ⟨R.AUX_STP_STATUS n, 13, 1⟩
def AUX_STP_STATUS_OPEN_B (n : Nat) : Fld := ⟨R.AUX_STP_STATUS n, 14, 1⟩
def AUX_STP_STATUS_FACTOR (n : Nat) : Fld := ⟨R.AUX_STP_STATUS n, 16, 9⟩
def AUX_STP_COUNT_ADAPT_SKIPPED (n : Nat) : Fld := ⟨R.AUX_STP_COUNT n, 0, 16⟩
def AUX_STP_COUNT_DROPPED (n : Nat) : Fld := ⟨R.AUX_STP_COUNT n, 16, 16⟩
def AUX_BL_PWM_PERIOD (n : Nat) : Fld := ⟨R.AUX_BL_PWM n, 0, 15⟩
def AUX_BL_START_ALIGN_DUTY (n : Nat) : Fld := ⟨R.AUX_BL_START n, 0, 8⟩
def AUX_BL_START_RAMP_DUTY0 (n : Nat) : Fld := ⟨R.AUX_BL_START n, 8, 8⟩
def AUX_BL_START_RAMP_DUTY1 (n : Nat) : Fld := ⟨R.AUX_BL_START n, 16, 8⟩
def AUX_BL_START_ALIGN_TIME (n : Nat) : Fld := ⟨R.AUX_BL_START n, 24, 8⟩
def AUX_BL_RAMP_V_V0 (n : Nat) : Fld := ⟨R.AUX_BL_RAMP_V n, 0, 16⟩
def AUX_BL_RAMP_V_V_HO (n : Nat) : Fld := ⟨R.AUX_BL_RAMP_V n, 16, 16⟩
def AUX_BL_RAMP_ACC_ACC (n : Nat) : Fld := ⟨R.AUX_BL_RAMP_ACC n, 0, 24⟩
def AUX_BL_HO_N_ZC (n : Nat) : Fld := ⟨R.AUX_BL_HO n, 0, 4⟩
def AUX_BL_HO_RETRY (n : Nat) : Fld := ⟨R.AUX_BL_HO n, 4, 4⟩
def AUX_BL_HO_POLE_PAIRS (n : Nat) : Fld := ⟨R.AUX_BL_HO n, 8, 7⟩
def AUX_BL_HO_ALIGN_SECTOR (n : Nat) : Fld := ⟨R.AUX_BL_HO n, 16, 3⟩
def AUX_BL_ZC_BLANK (n : Nat) : Fld := ⟨R.AUX_BL_ZC n, 0, 8⟩
def AUX_BL_ZC_ADVANCE (n : Nat) : Fld := ⟨R.AUX_BL_ZC n, 8, 8⟩
def AUX_BL_ZC_SETTLE (n : Nat) : Fld := ⟨R.AUX_BL_ZC n, 16, 8⟩
def AUX_BL_ZC_LOSS_CNT (n : Nat) : Fld := ⟨R.AUX_BL_ZC n, 24, 4⟩
def AUX_BL_SPD_KP (n : Nat) : Fld := ⟨R.AUX_BL_SPD n, 0, 16⟩
def AUX_BL_SPD_KI (n : Nat) : Fld := ⟨R.AUX_BL_SPD n, 16, 16⟩
def AUX_BL_ILIM_I_LIM (n : Nat) : Fld := ⟨R.AUX_BL_ILIM n, 0, 12⟩
def AUX_BL_ILIM_I_TRIP (n : Nat) : Fld := ⟨R.AUX_BL_ILIM n, 16, 12⟩
def AUX_BL_COAST_COAST_TIME (n : Nat) : Fld := ⟨R.AUX_BL_COAST n, 0, 16⟩
def AUX_BL_STATUS_PHASE (n : Nat) : Fld := ⟨R.AUX_BL_STATUS n, 0, 3⟩
def AUX_BL_STATUS_SECTOR (n : Nat) : Fld := ⟨R.AUX_BL_STATUS n, 3, 3⟩
def AUX_BL_STATUS_DIRN (n : Nat) : Fld := ⟨R.AUX_BL_STATUS n, 6, 1⟩
def AUX_BL_STATUS_ZC_RUN (n : Nat) : Fld := ⟨R.AUX_BL_STATUS n, 7, 4⟩
def AUX_BL_STATUS_RESTARTS (n : Nat) : Fld := ⟨R.AUX_BL_STATUS n, 11, 4⟩
def AUX_BL_STATUS_START_FAIL (n : Nat) : Fld := ⟨R.AUX_BL_STATUS n, 15, 1⟩
def AUX_BL_STATUS_LOST (n : Nat) : Fld := ⟨R.AUX_BL_STATUS n, 16, 1⟩
def AUX_BL_STATUS_WRONG_DIR (n : Nat) : Fld := ⟨R.AUX_BL_STATUS n, 17, 1⟩
def AUX_BL_STATUS_I_LIMITED (n : Nat) : Fld := ⟨R.AUX_BL_STATUS n, 18, 1⟩
def AUX_BL_STATUS_I_TRIP (n : Nat) : Fld := ⟨R.AUX_BL_STATUS n, 19, 1⟩
def AUX_BL_STATUS_ADC_STARVED (n : Nat) : Fld := ⟨R.AUX_BL_STATUS n, 20, 1⟩
def AUX_BL_T60_T60 (n : Nat) : Fld := ⟨R.AUX_BL_T60 n, 0, 32⟩
def AUX_BL_DUTY_DUTY (n : Nat) : Fld := ⟨R.AUX_BL_DUTY n, 0, 16⟩
def AUX_CL_ADC_STATUS_FAULT (n : Nat) : Fld := ⟨R.AUX_CL_ADC_STATUS n, 0, 1⟩
def AUX_CL_ADC_STATUS_BUSY (n : Nat) : Fld := ⟨R.AUX_CL_ADC_STATUS n, 1, 1⟩
def AUX_CL_ADC_STATUS_REF (n : Nat) : Fld := ⟨R.AUX_CL_ADC_STATUS n, 2, 12⟩
def AUX_CL_ADC_COUNT_DROPPED (n : Nat) : Fld := ⟨R.AUX_CL_ADC_COUNT n, 0, 16⟩
def AUX_CL_ADC_COUNT_MAX_WAIT (n : Nat) : Fld := ⟨R.AUX_CL_ADC_COUNT n, 16, 16⟩
def HIF_OD_CTL_EN (n : Nat) : Fld := ⟨R.HIF_OD_CTL n, 0, 1⟩
def HIF_OD_STATUS_ROLE (n : Nat) : Fld := ⟨R.HIF_OD_STATUS n, 0, 2⟩
def HIF_OD_STATUS_FLR_BUSY (n : Nat) : Fld := ⟨R.HIF_OD_STATUS n, 2, 1⟩
def HIF_OD_STATUS_CFG_REFUSED (n : Nat) : Fld := ⟨R.HIF_OD_STATUS n, 3, 1⟩
def HIF_OD_STATUS_BROKEN (n : Nat) : Fld := ⟨R.HIF_OD_STATUS n, 4, 8⟩
def HIF_OD_STATUS_EVQ_BROKEN (n : Nat) : Fld := ⟨R.HIF_OD_STATUS n, 12, 1⟩
def HIF_OD_DB_LO_ADDR (n : Nat) : Fld := ⟨R.HIF_OD_DB_LO n, 0, 32⟩
def HIF_OD_DB_HI_ADDR (n : Nat) : Fld := ⟨R.HIF_OD_DB_HI n, 0, 32⟩
def HIF_OD_POLL_PERIOD (n : Nat) : Fld := ⟨R.HIF_OD_POLL n, 0, 12⟩
def HIF_OD_POLL_OFS (n : Nat) : Fld := ⟨R.HIF_OD_POLL n, 12, 12⟩
def HIF_OD_HB_HB_PERIOD (n : Nat) : Fld := ⟨R.HIF_OD_HB n, 0, 10⟩
def HIF_OD_HB_HB_TMO (n : Nat) : Fld := ⟨R.HIF_OD_HB n, 16, 10⟩
def HIF_OD_LOST_CPL_COUNT (n : Nat) : Fld := ⟨R.HIF_OD_LOST_CPL n, 0, 16⟩
def HIF_OD_SQ_BASE_LO_ADDR (n : Nat) (k : Nat) : Fld := ⟨R.HIF_OD_SQ_BASE_LO n k, 0, 32⟩
def HIF_OD_SQ_BASE_HI_ADDR (n : Nat) (k : Nat) : Fld := ⟨R.HIF_OD_SQ_BASE_HI n k, 0, 32⟩
def HIF_OD_CQ_BASE_LO_ADDR (n : Nat) (k : Nat) : Fld := ⟨R.HIF_OD_CQ_BASE_LO n k, 0, 32⟩
def HIF_OD_CQ_BASE_HI_ADDR (n : Nat) (k : Nat) : Fld := ⟨R.HIF_OD_CQ_BASE_HI n k, 0, 32⟩
def HIF_OD_EVQ_BASE_LO_ADDR (n : Nat) : Fld := ⟨R.HIF_OD_EVQ_BASE_LO n, 0, 32⟩
def HIF_OD_EVQ_BASE_HI_ADDR (n : Nat) : Fld := ⟨R.HIF_OD_EVQ_BASE_HI n, 0, 32⟩
def HIF_OD_SQ_CFG_LOG2_DEPTH (n : Nat) (k : Nat) : Fld := ⟨R.HIF_OD_SQ_CFG n k, 0, 5⟩
def HIF_OD_SQ_CFG_EN (n : Nat) (k : Nat) : Fld := ⟨R.HIF_OD_SQ_CFG n k, 5, 1⟩
def HIF_OD_SQ_CFG_CLASS (n : Nat) (k : Nat) : Fld := ⟨R.HIF_OD_SQ_CFG n k, 6, 1⟩
def HIF_OD_SQ_CFG_CQ (n : Nat) (k : Nat) : Fld := ⟨R.HIF_OD_SQ_CFG n k, 7, 3⟩
def HIF_OD_SQ_CFG_FETCH (n : Nat) (k : Nat) : Fld := ⟨R.HIF_OD_SQ_CFG n k, 10, 7⟩
def HIF_OD_SQ_STATUS_HEAD (n : Nat) (k : Nat) : Fld := ⟨R.HIF_OD_SQ_STATUS n k, 0, 16⟩
def HIF_OD_SQ_STATUS_RUNNING (n : Nat) (k : Nat) : Fld := ⟨R.HIF_OD_SQ_STATUS n k, 16, 1⟩
def HIF_OD_SQ_STATUS_TAIL_ERR (n : Nat) (k : Nat) : Fld := ⟨R.HIF_OD_SQ_STATUS n k, 17, 1⟩
def HIF_OD_CQ_CFG_LOG2_DEPTH (n : Nat) (k : Nat) : Fld := ⟨R.HIF_OD_CQ_CFG n k, 0, 5⟩
def HIF_OD_CQ_CFG_EN (n : Nat) (k : Nat) : Fld := ⟨R.HIF_OD_CQ_CFG n k, 5, 1⟩
def HIF_OD_CQ_CFG_VECTOR (n : Nat) (k : Nat) : Fld := ⟨R.HIF_OD_CQ_CFG n k, 6, 6⟩
def HIF_OD_CQ_CFG_IRQ_HOLD (n : Nat) (k : Nat) : Fld := ⟨R.HIF_OD_CQ_CFG n k, 12, 10⟩
def HIF_OD_EVQ_CFG_LOG2_DEPTH (n : Nat) : Fld := ⟨R.HIF_OD_EVQ_CFG n, 0, 5⟩
def HIF_OD_EVQ_CFG_EN (n : Nat) : Fld := ⟨R.HIF_OD_EVQ_CFG n, 5, 1⟩
def HIF_OD_EVQ_CFG_VECTOR (n : Nat) : Fld := ⟨R.HIF_OD_EVQ_CFG n, 6, 6⟩
def HIF_OD_EVQ_CFG_IRQ_HOLD (n : Nat) : Fld := ⟨R.HIF_OD_EVQ_CFG n, 12, 10⟩
def HIF_OD_CQ_STATUS_TAIL (n : Nat) (k : Nat) : Fld := ⟨R.HIF_OD_CQ_STATUS n k, 0, 16⟩
def HIF_OD_CQ_STATUS_RUNNING (n : Nat) (k : Nat) : Fld := ⟨R.HIF_OD_CQ_STATUS n k, 16, 1⟩
def HIF_OD_CQ_STATUS_BROKEN (n : Nat) (k : Nat) : Fld := ⟨R.HIF_OD_CQ_STATUS n k, 17, 1⟩
def HIF_OD_CQ_STATUS_BROKEN_WHY (n : Nat) (k : Nat) : Fld := ⟨R.HIF_OD_CQ_STATUS n k, 18, 2⟩
def HIF_OD_CQ_STATUS_FULL (n : Nat) (k : Nat) : Fld := ⟨R.HIF_OD_CQ_STATUS n k, 20, 1⟩
def HIF_OD_EVQ_STATUS_TAIL (n : Nat) : Fld := ⟨R.HIF_OD_EVQ_STATUS n, 0, 16⟩
def HIF_OD_EVQ_STATUS_RUNNING (n : Nat) : Fld := ⟨R.HIF_OD_EVQ_STATUS n, 16, 1⟩
def HIF_OD_EVQ_STATUS_BROKEN (n : Nat) : Fld := ⟨R.HIF_OD_EVQ_STATUS n, 17, 1⟩
def HIF_OD_EVQ_STATUS_BROKEN_WHY (n : Nat) : Fld := ⟨R.HIF_OD_EVQ_STATUS n, 18, 2⟩
def HIF_OD_EVQ_STATUS_FULL (n : Nat) : Fld := ⟨R.HIF_OD_EVQ_STATUS n, 20, 1⟩
def HIF_OD_CQ_SEQ_SEQ (n : Nat) (k : Nat) : Fld := ⟨R.HIF_OD_CQ_SEQ n k, 0, 32⟩
def HIF_OD_EVQ_SEQ_SEQ (n : Nat) : Fld := ⟨R.HIF_OD_EVQ_SEQ n, 0, 32⟩
def HIF_TORN_OWNER : Fld := ⟨R.HIF_TORN, 0, 4⟩
def HIF_TORN_CORE : Fld := ⟨R.HIF_TORN, 4, 4⟩
def HIF_TORN_CAMELLIA : Fld := ⟨R.HIF_TORN, 8, 1⟩
def HIF_LINK_SPEED : Fld := ⟨R.HIF_LINK, 0, 2⟩
def HIF_LINK_WIDTH : Fld := ⟨R.HIF_LINK, 2, 3⟩
def HIF_LINK_L1 : Fld := ⟨R.HIF_LINK, 5, 1⟩
def HIF_CLASS_B_WEIGHT_WEIGHT : Fld := ⟨R.HIF_CLASS_B_WEIGHT, 0, 16⟩
def MEM_CTL_POOL_EN : Fld := ⟨R.MEM_CTL, 0, 1⟩
def MEM_CTL_SCRUB_EN : Fld := ⟨R.MEM_CTL, 1, 1⟩
def MEM_LAYOUT_CAP_AREA : Fld := ⟨R.MEM_LAYOUT, 0, 6⟩
def MEM_STATUS_CFG_REFUSED : Fld := ⟨R.MEM_STATUS, 0, 1⟩
def MEM_STATUS_SRAM_CORR : Fld := ⟨R.MEM_STATUS, 1, 1⟩
def MEM_STATUS_IPM_CORR : Fld := ⟨R.MEM_STATUS, 2, 1⟩
def MEM_STATUS_POISONED : Fld := ⟨R.MEM_STATUS, 3, 1⟩
def MEM_STATUS_STAGE_FAULT : Fld := ⟨R.MEM_STATUS, 4, 1⟩
def MEM_ECC_CNT_SRAM : Fld := ⟨R.MEM_ECC_CNT, 0, 16⟩
def MEM_ECC_CNT_IPM : Fld := ⟨R.MEM_ECC_CNT, 16, 16⟩
def MEM_SCRUB_PERIOD : Fld := ⟨R.MEM_SCRUB, 0, 8⟩
def MEM_STAGE_SEG : Fld := ⟨R.MEM_STAGE, 0, 3⟩
def MEM_STAGE_SOUND : Fld := ⟨R.MEM_STAGE, 3, 4⟩
def POOL_C_CFG_COUNT (n : Nat) : Fld := ⟨R.POOL_C_CFG n, 0, 22⟩
def POOL_C_STATUS_FREE (n : Nat) : Fld := ⟨R.POOL_C_STATUS n, 0, 22⟩
def POOL_OD_QUOTA01_CLASS_LO (n : Nat) : Fld := ⟨R.POOL_OD_QUOTA01 n, 0, 16⟩
def POOL_OD_QUOTA01_CLASS_HI (n : Nat) : Fld := ⟨R.POOL_OD_QUOTA01 n, 16, 16⟩
def POOL_OD_QUOTA23_CLASS_LO (n : Nat) : Fld := ⟨R.POOL_OD_QUOTA23 n, 0, 16⟩
def POOL_OD_QUOTA23_CLASS_HI (n : Nat) : Fld := ⟨R.POOL_OD_QUOTA23 n, 16, 16⟩
def POOL_OD_USE01_CLASS_LO (n : Nat) : Fld := ⟨R.POOL_OD_USE01 n, 0, 16⟩
def POOL_OD_USE01_CLASS_HI (n : Nat) : Fld := ⟨R.POOL_OD_USE01 n, 16, 16⟩
def POOL_OD_USE23_CLASS_LO (n : Nat) : Fld := ⟨R.POOL_OD_USE23 n, 0, 16⟩
def POOL_OD_USE23_CLASS_HI (n : Nat) : Fld := ⟨R.POOL_OD_USE23 n, 16, 16⟩
def POOL_LAST_REFUSED_HANDLE : Fld := ⟨R.POOL_LAST_REFUSED, 0, 32⟩
def POOL_LAST_INFO_STATUS : Fld := ⟨R.POOL_LAST_INFO, 0, 4⟩
def POOL_LAST_INFO_OWNER : Fld := ⟨R.POOL_LAST_INFO, 4, 3⟩
def POOL_LAST_INFO_HOLDER : Fld := ⟨R.POOL_LAST_INFO, 7, 3⟩
def DMA_SRC_LO_ADDR (n : Nat) : Fld := ⟨R.DMA_SRC_LO n, 0, 32⟩
def DMA_SRC_HI_ADDR (n : Nat) : Fld := ⟨R.DMA_SRC_HI n, 0, 32⟩
def DMA_DST_LO_ADDR (n : Nat) : Fld := ⟨R.DMA_DST_LO n, 0, 32⟩
def DMA_DST_HI_ADDR (n : Nat) : Fld := ⟨R.DMA_DST_HI n, 0, 32⟩
def DMA_COUNT_COUNT (n : Nat) : Fld := ⟨R.DMA_COUNT n, 0, 32⟩
def DMA_CTL_START (n : Nat) : Fld := ⟨R.DMA_CTL n, 0, 1⟩
def DMA_CTL_RESUME (n : Nat) : Fld := ⟨R.DMA_CTL n, 1, 1⟩
def DMA_CTL_ABORT (n : Nat) : Fld := ⟨R.DMA_CTL n, 2, 1⟩
def DMA_CTL_SRC_SPACE (n : Nat) : Fld := ⟨R.DMA_CTL n, 3, 2⟩
def DMA_CTL_DST_SPACE (n : Nat) : Fld := ⟨R.DMA_CTL n, 5, 2⟩
def DMA_CTL_CSUM (n : Nat) : Fld := ⟨R.DMA_CTL n, 7, 2⟩
def DMA_CTL_APPEND (n : Nat) : Fld := ⟨R.DMA_CTL n, 9, 1⟩
def DMA_CTL_IRQ (n : Nat) : Fld := ⟨R.DMA_CTL n, 10, 1⟩
def DMA_STATUS_BUSY (n : Nat) : Fld := ⟨R.DMA_STATUS n, 0, 1⟩
def DMA_STATUS_DONE (n : Nat) : Fld := ⟨R.DMA_STATUS n, 1, 1⟩
def DMA_STATUS_HALTED (n : Nat) : Fld := ⟨R.DMA_STATUS n, 2, 1⟩
def DMA_STATUS_REASON (n : Nat) : Fld := ⟨R.DMA_STATUS n, 3, 4⟩
def DMA_STATUS_ERR_DIR (n : Nat) : Fld := ⟨R.DMA_STATUS n, 7, 1⟩
def DMA_STATUS_CFG_REFUSED (n : Nat) : Fld := ⟨R.DMA_STATUS n, 8, 1⟩
def DMA_STATUS_OWNER (n : Nat) : Fld := ⟨R.DMA_STATUS n, 9, 3⟩
def DMA_DONE_BYTES_DONE (n : Nat) : Fld := ⟨R.DMA_DONE_BYTES n, 0, 32⟩
def DMA_CSUM_CSUM (n : Nat) : Fld := ⟨R.DMA_CSUM n, 0, 32⟩
def DMA_ERR_ADDR_LO_ADDR (n : Nat) : Fld := ⟨R.DMA_ERR_ADDR_LO n, 0, 32⟩
def DMA_ERR_ADDR_HI_ADDR (n : Nat) : Fld := ⟨R.DMA_ERR_ADDR_HI n, 0, 32⟩
def CS_CFG_MODE (n : Nat) : Fld := ⟨R.CS_CFG n, 0, 1⟩
def CS_CFG_SRC (n : Nat) : Fld := ⟨R.CS_CFG n, 1, 2⟩
def CS_CFG_AXIS (n : Nat) : Fld := ⟨R.CS_CFG n, 3, 4⟩
def CS_CFG_DIV (n : Nat) : Fld := ⟨R.CS_CFG n, 7, 8⟩
def CS_CFG_PWM_EVT (n : Nat) : Fld := ⟨R.CS_CFG n, 15, 3⟩
def CS_CFG_AUTO_UNLOAD (n : Nat) : Fld := ⟨R.CS_CFG n, 18, 1⟩
def CS_CFG_DMA (n : Nat) : Fld := ⟨R.CS_CFG n, 19, 5⟩
def CS_BUF_BASE_PAGES (n : Nat) : Fld := ⟨R.CS_BUF_BASE n, 0, 17⟩
def CS_BUF_SIZE_PAGES (n : Nat) : Fld := ⟨R.CS_BUF_SIZE n, 0, 17⟩
def CS_POST_ROWS (n : Nat) : Fld := ⟨R.CS_POST n, 0, 32⟩
def CS_PRE_MIN_ROWS (n : Nat) : Fld := ⟨R.CS_PRE_MIN n, 0, 32⟩
def CS_CMD_ARM (n : Nat) : Fld := ⟨R.CS_CMD n, 0, 1⟩
def CS_CMD_STOP (n : Nat) : Fld := ⟨R.CS_CMD n, 1, 1⟩
def CS_CMD_FORCE (n : Nat) : Fld := ⟨R.CS_CMD n, 2, 1⟩
def CS_CMD_UNLOAD (n : Nat) : Fld := ⟨R.CS_CMD n, 3, 1⟩
def CS_STATUS_STATE (n : Nat) : Fld := ⟨R.CS_STATUS n, 0, 3⟩
def CS_STATUS_CLIPPED (n : Nat) : Fld := ⟨R.CS_STATUS n, 3, 1⟩
def CS_STATUS_MASK_STOP (n : Nat) : Fld := ⟨R.CS_STATUS n, 4, 1⟩
def CS_STATUS_STOPPED (n : Nat) : Fld := ⟨R.CS_STATUS n, 5, 1⟩
def CS_STATUS_GAP (n : Nat) : Fld := ⟨R.CS_STATUS n, 6, 1⟩
def CS_STATUS_UNLOADED (n : Nat) : Fld := ⟨R.CS_STATUS n, 7, 1⟩
def CS_STATUS_CFG_REFUSED (n : Nat) : Fld := ⟨R.CS_STATUS n, 8, 1⟩
def CS_STATUS_ARM_ERR (n : Nat) : Fld := ⟨R.CS_STATUS n, 9, 3⟩
def CS_STATUS_UNLOAD_ERR (n : Nat) : Fld := ⟨R.CS_STATUS n, 12, 2⟩
def CS_DEPTH_ROWS (n : Nat) : Fld := ⟨R.CS_DEPTH n, 0, 32⟩
def CS_ROWS_ROWS (n : Nat) : Fld := ⟨R.CS_ROWS n, 0, 32⟩
def CS_TRIG_HITS (n : Nat) : Fld := ⟨R.CS_TRIG n, 0, 9⟩
def CS_TRIG_PRIMARY (n : Nat) : Fld := ⟨R.CS_TRIG n, 12, 4⟩
def CS_TRIG_STAMP_STAMP (n : Nat) : Fld := ⟨R.CS_TRIG_STAMP n, 0, 32⟩
def CS_COUNT_SKIPPED (n : Nat) : Fld := ⟨R.CS_COUNT n, 0, 16⟩
def CS_COUNT_EXTRA_TRIG (n : Nat) : Fld := ⟨R.CS_COUNT n, 16, 16⟩
def CS_OUT_HANDLE_VALUE (n : Nat) : Fld := ⟨R.CS_OUT_HANDLE n, 0, 32⟩
def CS_OUT_OFS_VALUE (n : Nat) : Fld := ⟨R.CS_OUT_OFS n, 0, 32⟩
def CS_UNLOAD_CRC_VALUE (n : Nat) : Fld := ⟨R.CS_UNLOAD_CRC n, 0, 32⟩
def CS_TRG_CFG_KIND (n : Nat) (k : Nat) : Fld := ⟨R.CS_TRG_CFG n k, 0, 3⟩
def CS_TRG_CFG_CH (n : Nat) (k : Nat) : Fld := ⟨R.CS_TRG_CFG n k, 3, 6⟩
def CS_TRG_CFG_EVT (n : Nat) (k : Nat) : Fld := ⟨R.CS_TRG_CFG n k, 9, 11⟩
def CS_TRG_LEVEL_LEVEL (n : Nat) (k : Nat) : Fld := ⟨R.CS_TRG_LEVEL n k, 0, 32⟩
def CAP_BIND_EN (n : Nat) : Fld := ⟨R.CAP_BIND n, 0, 1⟩
def CAP_BIND_SESSION (n : Nat) : Fld := ⟨R.CAP_BIND n, 1, 2⟩
def CAP_BIND_SRC (n : Nat) : Fld := ⟨R.CAP_BIND n, 3, 4⟩
def CAP_BIND_INST (n : Nat) : Fld := ⟨R.CAP_BIND n, 7, 8⟩
def CAP_BIND_SEL (n : Nat) : Fld := ⟨R.CAP_BIND n, 15, 12⟩
def CAP_ENV_MASK_EN (n : Nat) : Fld := ⟨R.CAP_ENV n, 0, 1⟩
def CAP_ENV_ALIGN (n : Nat) : Fld := ⟨R.CAP_ENV n, 1, 1⟩
def CAP_ENV_SHAFT (n : Nat) : Fld := ⟨R.CAP_ENV n, 2, 3⟩
def CAP_ENV_N (n : Nat) : Fld := ⟨R.CAP_ENV n, 5, 13⟩
def CAP_ENV_STEP (n : Nat) : Fld := ⟨R.CAP_ENV n, 18, 8⟩
def CAP_ENV_COMMIT (n : Nat) : Fld := ⟨R.CAP_ENV n, 26, 1⟩
def CAP_ENV_HANDLE_HANDLE (n : Nat) : Fld := ⟨R.CAP_ENV_HANDLE n, 0, 32⟩
def CAP_STATUS_ENV_STATE (n : Nat) : Fld := ⟨R.CAP_STATUS n, 0, 2⟩
def CAP_STATUS_ENV_ERR (n : Nat) : Fld := ⟨R.CAP_STATUS n, 2, 3⟩
def CAP_STATUS_FAULT (n : Nat) : Fld := ⟨R.CAP_STATUS n, 5, 1⟩
def CAP_STATUS_VIOLATED (n : Nat) : Fld := ⟨R.CAP_STATUS n, 6, 1⟩
def CAP_STATUS_CFG_REFUSED (n : Nat) : Fld := ⟨R.CAP_STATUS n, 7, 1⟩
def ETH_CFG_EN (n : Nat) : Fld := ⟨R.ETH_CFG n, 0, 1⟩
def ETH_CFG_MODE (n : Nat) : Fld := ⟨R.ETH_CFG n, 1, 2⟩
def ETH_CFG_SPEED (n : Nat) : Fld := ⟨R.ETH_CFG n, 3, 1⟩
def ETH_CFG_AN_EN (n : Nat) : Fld := ⟨R.ETH_CFG n, 4, 1⟩
def ETH_CFG_MACSEC_EN (n : Nat) : Fld := ⟨R.ETH_CFG n, 5, 1⟩
def ETH_CFG_STRANGER_HOLD (n : Nat) : Fld := ⟨R.ETH_CFG n, 8, 16⟩
def ETH_STATUS_LINK (n : Nat) : Fld := ⟨R.ETH_STATUS n, 0, 1⟩
def ETH_STATUS_RATE (n : Nat) : Fld := ⟨R.ETH_STATUS n, 1, 2⟩
def ETH_STATUS_VERIFY (n : Nat) : Fld := ⟨R.ETH_STATUS n, 3, 2⟩
def ETH_STATUS_LAUNCH_OVF (n : Nat) : Fld := ⟨R.ETH_STATUS n, 5, 1⟩
def ETH_STATUS_CFG_REFUSED (n : Nat) : Fld := ⟨R.ETH_STATUS n, 6, 1⟩
def ETH_STATUS_FAULT (n : Nat) : Fld := ⟨R.ETH_STATUS n, 7, 1⟩
def ETH_COUNT_A_LO (n : Nat) : Fld := ⟨R.ETH_COUNT_A n, 0, 16⟩
def ETH_COUNT_A_HI (n : Nat) : Fld := ⟨R.ETH_COUNT_A n, 16, 16⟩
def ETH_COUNT_B_LO (n : Nat) : Fld := ⟨R.ETH_COUNT_B n, 0, 16⟩
def ETH_COUNT_B_HI (n : Nat) : Fld := ⟨R.ETH_COUNT_B n, 16, 16⟩
def ETH_SLOT_CFG_SRC (n : Nat) (k : Nat) : Fld := ⟨R.ETH_SLOT_CFG n k, 0, 2⟩
def ETH_SLOT_CFG_TC (n : Nat) (k : Nat) : Fld := ⟨R.ETH_SLOT_CFG n k, 2, 3⟩
def ETH_SLOT_CFG_SEL (n : Nat) (k : Nat) : Fld := ⟨R.ETH_SLOT_CFG n k, 5, 7⟩
def ETH_SLOT_CFG_COUNT (n : Nat) (k : Nat) : Fld := ⟨R.ETH_SLOT_CFG n k, 12, 5⟩
def ETH_SLOT_CFG_OWNER (n : Nat) (k : Nat) : Fld := ⟨R.ETH_SLOT_CFG n k, 17, 3⟩
def ETH_SLOT_BUF_OFS (n : Nat) (k : Nat) : Fld := ⟨R.ETH_SLOT_BUF n k, 0, 16⟩
def ETH_SLOT_BUF_LEN (n : Nat) (k : Nat) : Fld := ⟨R.ETH_SLOT_BUF n k, 16, 11⟩
def ETH_SLOT_STATUS_LATE (n : Nat) (k : Nat) : Fld := ⟨R.ETH_SLOT_STATUS n k, 0, 1⟩
def ETH_SLOT_STATUS_LINK_DOWN_DROP (n : Nat) (k : Nat) : Fld := ⟨R.ETH_SLOT_STATUS n k, 1, 1⟩
def ETH_SLOT_STATUS_DELAY (n : Nat) (k : Nat) : Fld := ⟨R.ETH_SLOT_STATUS n k, 16, 16⟩
def ETH_SLOT_STAMP_STAMP (n : Nat) (k : Nat) : Fld := ⟨R.ETH_SLOT_STAMP n k, 0, 32⟩
def ETH_SW_CFG_AGE : Fld := ⟨R.ETH_SW_CFG, 0, 16⟩
def ETH_SW_CFG_MDIO_GO : Fld := ⟨R.ETH_SW_CFG, 16, 1⟩
def ETH_MDIO_DATA : Fld := ⟨R.ETH_MDIO, 0, 16⟩
def ETH_MDIO_REG : Fld := ⟨R.ETH_MDIO, 16, 5⟩
def ETH_MDIO_PHY : Fld := ⟨R.ETH_MDIO, 21, 5⟩
def ETH_MDIO_OP : Fld := ⟨R.ETH_MDIO, 26, 2⟩
def ETH_MDIO_BUSY : Fld := ⟨R.ETH_MDIO, 28, 1⟩
def ETH_LANYO_ETHERTYPE : Fld := ⟨R.ETH_LANYO, 0, 16⟩
def ETH_LANYO_VID : Fld := ⟨R.ETH_LANYO, 16, 12⟩
def ETH_LANYO_MAC_LO_MAC : Fld := ⟨R.ETH_LANYO_MAC_LO, 0, 32⟩
def ETH_LANYO_MAC_HI_MAC : Fld := ⟨R.ETH_LANYO_MAC_HI, 0, 32⟩
def ETH_TC_MAP_PCP_TC : Fld := ⟨R.ETH_TC_MAP, 0, 24⟩
def ETH_TC_MAP_CT : Fld := ⟨R.ETH_TC_MAP, 24, 8⟩
def TSN_CTL_CONFIG_CHANGE (n : Nat) : Fld := ⟨R.TSN_CTL n, 0, 1⟩
def TSN_CTL_LEN (n : Nat) : Fld := ⟨R.TSN_CTL n, 1, 9⟩
def TSN_BASE_NS_VALUE (n : Nat) : Fld := ⟨R.TSN_BASE_NS n, 0, 32⟩
def TSN_BASE_SEC_LO_VALUE (n : Nat) : Fld := ⟨R.TSN_BASE_SEC_LO n, 0, 32⟩
def TSN_BASE_SEC_HI_VALUE (n : Nat) : Fld := ⟨R.TSN_BASE_SEC_HI n, 0, 32⟩
def TSN_CYCLE_VALUE (n : Nat) : Fld := ⟨R.TSN_CYCLE n, 0, 32⟩
def TSN_CYCLE_EXT_VALUE (n : Nat) : Fld := ⟨R.TSN_CYCLE_EXT n, 0, 32⟩
def TSN_STATUS_PENDING (n : Nat) : Fld := ⟨R.TSN_STATUS n, 0, 1⟩
def TSN_STATUS_OPER_ACTIVE (n : Nat) : Fld := ⟨R.TSN_STATUS n, 1, 1⟩
def TSN_STATUS_CONFIG_ERR (n : Nat) : Fld := ⟨R.TSN_STATUS n, 2, 1⟩
def TSN_STATUS_STEP_RESYNC (n : Nat) : Fld := ⟨R.TSN_STATUS n, 3, 1⟩
def TSN_STATUS_OPER_LEN (n : Nat) : Fld := ⟨R.TSN_STATUS n, 4, 9⟩
def TSN_COUNT_TOO_LONG (n : Nat) : Fld := ⟨R.TSN_COUNT n, 0, 16⟩
def TSN_PREEMPT_PREEMPTABLE (n : Nat) : Fld := ⟨R.TSN_PREEMPT n, 0, 8⟩
def TSN_PREEMPT_EN (n : Nat) : Fld := ⟨R.TSN_PREEMPT n, 8, 1⟩
def TSN_PREEMPT_VERIFY_EN (n : Nat) : Fld := ⟨R.TSN_PREEMPT n, 9, 1⟩
def TSN_PREEMPT_ADD_FRAG (n : Nat) : Fld := ⟨R.TSN_PREEMPT n, 10, 2⟩
def TSN_ADMIN_CTL_GATES (n : Nat) (k : Nat) : Fld := ⟨R.TSN_ADMIN_CTL n k, 0, 8⟩
def TSN_ADMIN_CTL_OP (n : Nat) (k : Nat) : Fld := ⟨R.TSN_ADMIN_CTL n k, 8, 2⟩
def TSN_ADMIN_INTERVAL_INTERVAL (n : Nat) (k : Nat) : Fld := ⟨R.TSN_ADMIN_INTERVAL n k, 0, 32⟩
def MSEC_CFG_SCI_EXPLICIT (n : Nat) : Fld := ⟨R.MSEC_CFG n, 0, 1⟩
def MSEC_CFG_ALLOW_EN (n : Nat) : Fld := ⟨R.MSEC_CFG n, 1, 1⟩
def MSEC_CFG_INTEG_ONLY (n : Nat) : Fld := ⟨R.MSEC_CFG n, 8, 8⟩
def MSEC_CFG_REPLAY_WIN (n : Nat) : Fld := ⟨R.MSEC_CFG n, 16, 16⟩
def MSEC_SAK_KEY (n : Nat) (k : Nat) : Fld := ⟨R.MSEC_SAK n k, 0, 32⟩
def MSEC_SA_CTL_AN (n : Nat) : Fld := ⟨R.MSEC_SA_CTL n, 0, 2⟩
def MSEC_SA_CTL_RXSC (n : Nat) : Fld := ⟨R.MSEC_SA_CTL n, 2, 3⟩
def MSEC_SA_CTL_DIR (n : Nat) : Fld := ⟨R.MSEC_SA_CTL n, 5, 1⟩
def MSEC_SA_CTL_INSTALL (n : Nat) : Fld := ⟨R.MSEC_SA_CTL n, 6, 1⟩
def MSEC_STRANGER_COUNT (n : Nat) : Fld := ⟨R.MSEC_STRANGER n, 0, 24⟩
def MSEC_STRANGER_REASON (n : Nat) : Fld := ⟨R.MSEC_STRANGER n, 24, 3⟩
def MSEC_STRANGER_SRC_LO_MAC (n : Nat) : Fld := ⟨R.MSEC_STRANGER_SRC_LO n, 0, 32⟩
def MSEC_STRANGER_SRC_HI_MAC (n : Nat) : Fld := ⟨R.MSEC_STRANGER_SRC_HI n, 0, 32⟩
def CAN_CTL_INIT (n : Nat) : Fld := ⟨R.CAN_CTL n, 0, 1⟩
def CAN_CTL_FD_EN (n : Nat) : Fld := ⟨R.CAN_CTL n, 1, 1⟩
def CAN_CTL_LOOP (n : Nat) : Fld := ⟨R.CAN_CTL n, 2, 2⟩
def CAN_CTL_AUTO_RECOVER (n : Nat) : Fld := ⟨R.CAN_CTL n, 4, 1⟩
def CAN_CTL_RETRY (n : Nat) : Fld := ⟨R.CAN_CTL n, 5, 4⟩
def CAN_CTL_TT_EN (n : Nat) : Fld := ⟨R.CAN_CTL n, 9, 1⟩
def CAN_ARBIT_N_QBEFORE (n : Nat) : Fld := ⟨R.CAN_ARBIT n, 0, 8⟩
def CAN_ARBIT_N_QAFTER (n : Nat) : Fld := ⟨R.CAN_ARBIT n, 8, 7⟩
def CAN_ARBIT_TRIPLE (n : Nat) : Fld := ⟨R.CAN_ARBIT n, 15, 1⟩
def CAN_ARBIT_N_RJW (n : Nat) : Fld := ⟨R.CAN_ARBIT n, 16, 7⟩
def CAN_ARBIT_N_QPRE (n : Nat) : Fld := ⟨R.CAN_ARBIT n, 23, 5⟩
def CAN_DATABIT_D_QBEFORE (n : Nat) : Fld := ⟨R.CAN_DATABIT n, 0, 6⟩
def CAN_DATABIT_D_QAFTER (n : Nat) : Fld := ⟨R.CAN_DATABIT n, 6, 4⟩
def CAN_DATABIT_D_RJW (n : Nat) : Fld := ⟨R.CAN_DATABIT n, 10, 4⟩
def CAN_DATABIT_D_QPRE (n : Nat) : Fld := ⟨R.CAN_DATABIT n, 14, 5⟩
def CAN_DATABIT_SSP_EN (n : Nat) : Fld := ⟨R.CAN_DATABIT n, 19, 1⟩
def CAN_DATABIT_SSP_OFS (n : Nat) : Fld := ⟨R.CAN_DATABIT n, 20, 7⟩
def CAN_STATUS_STATE (n : Nat) : Fld := ⟨R.CAN_STATUS n, 0, 2⟩
def CAN_STATUS_TRIPLE_IGNORED (n : Nat) : Fld := ⟨R.CAN_STATUS n, 2, 1⟩
def CAN_STATUS_CFG_REFUSED (n : Nat) : Fld := ⟨R.CAN_STATUS n, 3, 1⟩
def CAN_STATUS_FAULT (n : Nat) : Fld := ⟨R.CAN_STATUS n, 4, 1⟩
def CAN_STATUS_BUS_OFF_SEEN (n : Nat) : Fld := ⟨R.CAN_STATUS n, 5, 1⟩
def CAN_STATUS_LOCK_TMO_SEEN (n : Nat) : Fld := ⟨R.CAN_STATUS n, 6, 1⟩
def CAN_STATUS_LAUNCH_MERGED (n : Nat) : Fld := ⟨R.CAN_STATUS n, 7, 1⟩
def CAN_ERRCNT_TEC (n : Nat) : Fld := ⟨R.CAN_ERRCNT n, 0, 8⟩
def CAN_ERRCNT_REC (n : Nat) : Fld := ⟨R.CAN_ERRCNT n, 8, 7⟩
def CAN_ERRCNT_RP (n : Nat) : Fld := ⟨R.CAN_ERRCNT n, 15, 1⟩
def CAN_ERRCNT_LEC (n : Nat) : Fld := ⟨R.CAN_ERRCNT n, 16, 3⟩
def CAN_FLT_CFG_NOMATCH (n : Nat) : Fld := ⟨R.CAN_FLT_CFG n, 0, 2⟩
def CAN_TXB_REQ_BUF (n : Nat) : Fld := ⟨R.CAN_TXB_REQ n, 0, 32⟩
def CAN_TXB_CANCEL_BUF (n : Nat) : Fld := ⟨R.CAN_TXB_CANCEL n, 0, 32⟩
def CAN_TXB_DONE_BUF (n : Nat) : Fld := ⟨R.CAN_TXB_DONE n, 0, 32⟩
def CAN_TXB_ABANDON_BUF (n : Nat) : Fld := ⟨R.CAN_TXB_ABANDON n, 0, 32⟩
def CAN_TT_CFG_WIN_N (n : Nat) : Fld := ⟨R.CAN_TT_CFG n, 0, 5⟩
def CAN_TT_CFG_LOG2_CYCLES (n : Nat) : Fld := ⟨R.CAN_TT_CFG n, 5, 3⟩
def CAN_TT_CFG_REF_EN (n : Nat) : Fld := ⟨R.CAN_TT_CFG n, 8, 1⟩
def CAN_TT_CFG_REF_ID (n : Nat) : Fld := ⟨R.CAN_TT_CFG n, 9, 11⟩
def CAN_TT_CFG_TXEN (n : Nat) : Fld := ⟨R.CAN_TT_CFG n, 20, 4⟩
def CAN_TT_CYCLE_CYCLE (n : Nat) : Fld := ⟨R.CAN_TT_CYCLE n, 0, 30⟩
def CAN_TT_STATUS_CYCLE_CNT (n : Nat) : Fld := ⟨R.CAN_TT_STATUS n, 0, 6⟩
def CAN_TT_STATUS_WINDOW (n : Nat) : Fld := ⟨R.CAN_TT_STATUS n, 6, 5⟩
def CAN_TT_STATUS_RUNNING (n : Nat) : Fld := ⟨R.CAN_TT_STATUS n, 11, 1⟩
def CAN_TT_STATUS_TT_ERR (n : Nat) : Fld := ⟨R.CAN_TT_STATUS n, 12, 1⟩
def CAN_TT_STATUS_MISSED (n : Nat) : Fld := ⟨R.CAN_TT_STATUS n, 16, 16⟩
def CAN_RXQ_CFG_SIZE (n : Nat) (k : Nat) : Fld := ⟨R.CAN_RXQ_CFG n k, 0, 2⟩
def CAN_RXQ_CFG_OVERWRITE (n : Nat) (k : Nat) : Fld := ⟨R.CAN_RXQ_CFG n k, 2, 1⟩
def CAN_RXQ_CFG_LOCK_TMO (n : Nat) (k : Nat) : Fld := ⟨R.CAN_RXQ_CFG n k, 8, 8⟩
def CAN_RXQ_STATUS_GET (n : Nat) (k : Nat) : Fld := ⟨R.CAN_RXQ_STATUS n k, 0, 6⟩
def CAN_RXQ_STATUS_PUT (n : Nat) (k : Nat) : Fld := ⟨R.CAN_RXQ_STATUS n k, 8, 6⟩
def CAN_RXQ_STATUS_LEVEL (n : Nat) (k : Nat) : Fld := ⟨R.CAN_RXQ_STATUS n k, 16, 7⟩
def CAN_RXQ_STATUS_LOCKED (n : Nat) (k : Nat) : Fld := ⟨R.CAN_RXQ_STATUS n k, 23, 1⟩
def CAN_RXQ_STATUS_LOCK_IDX (n : Nat) (k : Nat) : Fld := ⟨R.CAN_RXQ_STATUS n k, 24, 6⟩
def CAN_RXQ_ACK_COUNT (n : Nat) (k : Nat) : Fld := ⟨R.CAN_RXQ_ACK n k, 0, 7⟩
def CAN_COUNT_TOO_LONG (n : Nat) : Fld := ⟨R.CAN_COUNT n, 0, 16⟩
def CAN_COUNT_LOST (n : Nat) : Fld := ⟨R.CAN_COUNT n, 16, 16⟩
def FIO_STATUS_VF_LOW : Fld := ⟨R.FIO_STATUS, 0, 1⟩
def FIO_STATUS_VF_LOW_SEEN : Fld := ⟨R.FIO_STATUS, 1, 1⟩
def FIO_STATUS_BRIDGE_OK : Fld := ⟨R.FIO_STATUS, 2, 1⟩
def FIO_STATUS_CFG_REFUSED : Fld := ⟨R.FIO_STATUS, 3, 1⟩
def FIO_VFIELD_V : Fld := ⟨R.FIO_VFIELD, 0, 12⟩
def FIO_FI_LEVEL_FI : Fld := ⟨R.FIO_FI_LEVEL, 0, 32⟩
def FIO_FI_VALID_FI : Fld := ⟨R.FIO_FI_VALID, 0, 32⟩
def FIO_FI_WB_FI : Fld := ⟨R.FIO_FI_WB, 0, 32⟩
def FIO_FX_IN_LEVEL : Fld := ⟨R.FIO_FX_IN, 0, 8⟩
def FIO_FX_IN_VALID : Fld := ⟨R.FIO_FX_IN, 8, 8⟩
def FIO_FX_IN_WB : Fld := ⟨R.FIO_FX_IN, 16, 8⟩
def FIO_OUT_FQ : Fld := ⟨R.FIO_OUT, 0, 24⟩
def FIO_OUT_FX : Fld := ⟨R.FIO_OUT, 24, 8⟩
def FIO_OUT_SET_FQ : Fld := ⟨R.FIO_OUT_SET, 0, 24⟩
def FIO_OUT_SET_FX : Fld := ⟨R.FIO_OUT_SET, 24, 8⟩
def FIO_OUT_CLR_FQ : Fld := ⟨R.FIO_OUT_CLR, 0, 24⟩
def FIO_OUT_CLR_FX : Fld := ⟨R.FIO_OUT_CLR, 24, 8⟩
def FIO_OUT_RB_OUT : Fld := ⟨R.FIO_OUT_RB, 0, 32⟩
def FIO_OUT_FAULT_OUT : Fld := ⟨R.FIO_OUT_FAULT, 0, 32⟩
def FIO_OUT_LOFF_OUT : Fld := ⟨R.FIO_OUT_LOFF, 0, 32⟩
def FIO_OUT_FCLR_OUT : Fld := ⟨R.FIO_OUT_FCLR, 0, 32⟩
def FIO_SAFE_LEVEL_SI : Fld := ⟨R.FIO_SAFE_LEVEL, 0, 16⟩
def FIO_SAFE_LEVEL_SRESET : Fld := ⟨R.FIO_SAFE_LEVEL, 16, 1⟩
def FIO_BS_LEVEL_BS : Fld := ⟨R.FIO_BS_LEVEL, 0, 16⟩
def FIO_CH_CFG_TICK (n : Nat) : Fld := ⟨R.FIO_CH_CFG n, 0, 10⟩
def FIO_CH_CFG_EVT_EN (n : Nat) : Fld := ⟨R.FIO_CH_CFG n, 10, 1⟩
def FIO_CH_CFG_WB_EN (n : Nat) : Fld := ⟨R.FIO_CH_CFG n, 11, 1⟩
def FIO_CH_CFG_MAX (n : Nat) : Fld := ⟨R.FIO_CH_CFG n, 12, 8⟩
def FIO_CH_CFG_WB_TIME (n : Nat) : Fld := ⟨R.FIO_CH_CFG n, 20, 8⟩
def FIO_CH_CFG_FX_MODE (n : Nat) : Fld := ⟨R.FIO_CH_CFG n, 28, 2⟩
def FIO_BS_CFG_TICK (n : Nat) : Fld := ⟨R.FIO_BS_CFG n, 0, 10⟩
def FIO_BS_CFG_EVT_EN (n : Nat) : Fld := ⟨R.FIO_BS_CFG n, 10, 1⟩
def FIO_BS_CFG_WB_EN (n : Nat) : Fld := ⟨R.FIO_BS_CFG n, 11, 1⟩
def FIO_BS_CFG_MAX (n : Nat) : Fld := ⟨R.FIO_BS_CFG n, 12, 8⟩
def FIO_BS_CFG_WB_TIME (n : Nat) : Fld := ⟨R.FIO_BS_CFG n, 20, 8⟩
def FIO_BS_CFG_FX_MODE (n : Nat) : Fld := ⟨R.FIO_BS_CFG n, 28, 2⟩
def FIO_CH_STATUS_LEVEL (n : Nat) : Fld := ⟨R.FIO_CH_STATUS n, 0, 1⟩
def FIO_CH_STATUS_VALID (n : Nat) : Fld := ⟨R.FIO_CH_STATUS n, 1, 1⟩
def FIO_CH_STATUS_WB (n : Nat) : Fld := ⟨R.FIO_CH_STATUS n, 2, 1⟩
def FIO_CH_STATUS_WB_SEEN (n : Nat) : Fld := ⟨R.FIO_CH_STATUS n, 3, 1⟩
def FIO_CH_STATUS_FAULT (n : Nat) : Fld := ⟨R.FIO_CH_STATUS n, 4, 1⟩
def FIO_CH_STATUS_REASON (n : Nat) : Fld := ⟨R.FIO_CH_STATUS n, 5, 2⟩
def FIO_CH_STATUS_LAUNCH_OFF (n : Nat) : Fld := ⟨R.FIO_CH_STATUS n, 7, 1⟩
def FIO_CH_STATUS_CNT (n : Nat) : Fld := ⟨R.FIO_CH_STATUS n, 8, 8⟩
def FIO_CH_STATUS_CHANGES (n : Nat) : Fld := ⟨R.FIO_CH_STATUS n, 16, 16⟩
def SAF_LOCK_DEVICE : Fld := ⟨R.SAF_LOCK, 0, 1⟩
def SAF_LOCK_CAUSE : Fld := ⟨R.SAF_LOCK, 1, 4⟩
def SAF_LOCK_CAUSE_ACTIVE : Fld := ⟨R.SAF_LOCK, 5, 1⟩
def SAF_LOCK_UNLOCK_WAIT : Fld := ⟨R.SAF_LOCK, 6, 1⟩
def SAF_LOCK_UNLOCK_REFUSED : Fld := ⟨R.SAF_LOCK, 7, 1⟩
def SAF_LOCK_UNLOCK_EXPIRED : Fld := ⟨R.SAF_LOCK, 8, 1⟩
def SAF_LOCK_AXIS : Fld := ⟨R.SAF_LOCK, 16, 16⟩
def SAF_UNLOCK_KEY : Fld := ⟨R.SAF_UNLOCK, 0, 16⟩
def SAF_UNLOCK_SCOPE : Fld := ⟨R.SAF_UNLOCK, 16, 1⟩
def SAF_UNLOCK_AXIS : Fld := ⟨R.SAF_UNLOCK, 17, 4⟩
def SAF_STO_ASSERTED : Fld := ⟨R.SAF_STO, 0, 4⟩
def SAF_STO_DEMAND : Fld := ⟨R.SAF_STO, 4, 4⟩
def SAF_STO_SS1_RUN : Fld := ⟨R.SAF_STO, 8, 4⟩
def SAF_STO_RESTART_WAIT : Fld := ⟨R.SAF_STO, 12, 4⟩
def SAF_SI_STATUS_DEMAND : Fld := ⟨R.SAF_SI_STATUS, 0, 8⟩
def SAF_SI_STATUS_DISC_RUN : Fld := ⟨R.SAF_SI_STATUS, 8, 8⟩
def SAF_SI_STATUS_DISC_FAULT : Fld := ⟨R.SAF_SI_STATUS, 16, 8⟩
def SAF_SI_STATUS_SRESET : Fld := ⟨R.SAF_SI_STATUS, 24, 1⟩
def SAF_SI_STATUS_SRESET_STUCK : Fld := ⟨R.SAF_SI_STATUS, 25, 1⟩
def SAF_SS1_T_T_SS1 (n : Nat) : Fld := ⟨R.SAF_SS1_T n, 0, 15⟩
def SAF_BT_CMD_AXIS : Fld := ⟨R.SAF_BT_CMD, 0, 4⟩
def SAF_BT_CMD_START : Fld := ⟨R.SAF_BT_CMD, 4, 1⟩
def SAF_BT_CMD_ABORT : Fld := ⟨R.SAF_BT_CMD, 5, 1⟩
def SAF_BT_CMD_TICKET : Fld := ⟨R.SAF_BT_CMD, 16, 16⟩
def SAF_BT_RESULT_STATE : Fld := ⟨R.SAF_BT_RESULT, 0, 2⟩
def SAF_BT_RESULT_RESULT : Fld := ⟨R.SAF_BT_RESULT, 2, 2⟩
def SAF_BT_RESULT_AXIS : Fld := ⟨R.SAF_BT_RESULT, 4, 4⟩
def SAF_BT_RESULT_REASON : Fld := ⟨R.SAF_BT_RESULT, 8, 4⟩
def SAF_BT_RESULT_MOVED : Fld := ⟨R.SAF_BT_RESULT, 12, 20⟩
def SAF_BT_CFG_BT_SETTLE : Fld := ⟨R.SAF_BT_CFG, 0, 8⟩
def SAF_BT_CFG_BT_TIME : Fld := ⟨R.SAF_BT_CFG, 8, 16⟩
def SAF_BT_I_VALUE : Fld := ⟨R.SAF_BT_I, 0, 32⟩
def SAF_BT_WIN_VALUE : Fld := ⟨R.SAF_BT_WIN, 0, 32⟩
def SAF_PSET_HANDLE_HANDLE : Fld := ⟨R.SAF_PSET_HANDLE, 0, 32⟩
def SAF_PSET_CMD_LOAD : Fld := ⟨R.SAF_PSET_CMD, 0, 1⟩
def SAF_PSET_CMD_DISCARD : Fld := ⟨R.SAF_PSET_CMD, 1, 1⟩
def SAF_PSET_STATUS_STATE : Fld := ⟨R.SAF_PSET_STATUS, 0, 3⟩
def SAF_PSET_STATUS_REASON : Fld := ⟨R.SAF_PSET_STATUS, 3, 4⟩
def SAF_PSET_STATUS_RECORDS : Fld := ⟨R.SAF_PSET_STATUS, 16, 16⟩
def SAF_PSET_SEQ_VALUE : Fld := ⟨R.SAF_PSET_SEQ, 0, 32⟩
def SAF_PSET_CRC_VALUE : Fld := ⟨R.SAF_PSET_CRC, 0, 32⟩
def SAF_SI_CFG_FUNC (n : Nat) : Fld := ⟨R.SAF_SI_CFG n, 0, 2⟩
def SAF_SI_CFG_GROUPS (n : Nat) : Fld := ⟨R.SAF_SI_CFG n, 2, 4⟩
def SAF_SI_CFG_MODE (n : Nat) : Fld := ⟨R.SAF_SI_CFG n, 6, 1⟩
def SAF_SI_CFG_RESTART (n : Nat) : Fld := ⟨R.SAF_SI_CFG n, 7, 1⟩
def SAF_SI_CFG_FILT (n : Nat) : Fld := ⟨R.SAF_SI_CFG n, 8, 5⟩
def SAF_SI_CFG_DISC (n : Nat) : Fld := ⟨R.SAF_SI_CFG n, 13, 11⟩
def SAF_BRK_CFG_EN (n : Nat) : Fld := ⟨R.SAF_BRK_CFG n, 0, 1⟩
def SAF_BRK_CFG_DT_PERIOD (n : Nat) : Fld := ⟨R.SAF_BRK_CFG n, 1, 8⟩
def SAF_BRK_CFG_BT_INTERVAL (n : Nat) : Fld := ⟨R.SAF_BRK_CFG n, 9, 14⟩
def SAF_BRK_CFG_ENFORCE (n : Nat) : Fld := ⟨R.SAF_BRK_CFG n, 23, 1⟩
def SAF_BRK_CFG_BS_OFF (n : Nat) : Fld := ⟨R.SAF_BRK_CFG n, 24, 8⟩
def SAF_BRK_STATUS_RELEASED (n : Nat) : Fld := ⟨R.SAF_BRK_STATUS n, 0, 1⟩
def SAF_BRK_STATUS_BS (n : Nat) : Fld := ⟨R.SAF_BRK_STATUS n, 1, 1⟩
def SAF_BRK_STATUS_FAULT (n : Nat) : Fld := ⟨R.SAF_BRK_STATUS n, 2, 1⟩
def SAF_BRK_STATUS_FAULT_WHY (n : Nat) : Fld := ⟨R.SAF_BRK_STATUS n, 3, 2⟩
def SAF_BRK_STATUS_BT_DUE (n : Nat) : Fld := ⟨R.SAF_BRK_STATUS n, 5, 1⟩
def SAF_BRK_STATUS_BT_BLOCKED (n : Nat) : Fld := ⟨R.SAF_BRK_STATUS n, 6, 1⟩
def FXG_AX_CFG_I_EN (n : Nat) : Fld := ⟨R.FXG_AX_CFG n, 0, 1⟩
def FXG_AX_CFG_DUTY_EN (n : Nat) : Fld := ⟨R.FXG_AX_CFG n, 1, 1⟩
def FXG_AX_CFG_V_EN (n : Nat) : Fld := ⟨R.FXG_AX_CFG n, 2, 1⟩
def FXG_AX_CFG_P_EN (n : Nat) : Fld := ⟨R.FXG_AX_CFG n, 3, 1⟩
def FXG_AX_CFG_SAT_TRIP (n : Nat) : Fld := ⟨R.FXG_AX_CFG n, 4, 1⟩
def FXG_AX_CFG_POL_B (n : Nat) : Fld := ⟨R.FXG_AX_CFG n, 5, 1⟩
def FXG_AX_I_PEAK_I_PEAK (n : Nat) : Fld := ⟨R.FXG_AX_I_PEAK n, 0, 23⟩
def FXG_AX_DUTY_DUTY_MIN (n : Nat) : Fld := ⟨R.FXG_AX_DUTY n, 0, 9⟩
def FXG_AX_DUTY_DUTY_MAX (n : Nat) : Fld := ⟨R.FXG_AX_DUTY n, 16, 9⟩
def FXG_AX_VMIN_V (n : Nat) : Fld := ⟨R.FXG_AX_VMIN n, 0, 32⟩
def FXG_AX_VMAX_V (n : Nat) : Fld := ⟨R.FXG_AX_VMAX n, 0, 32⟩
def FXG_AX_PMIN_LO_P (n : Nat) : Fld := ⟨R.FXG_AX_PMIN_LO n, 0, 32⟩
def FXG_AX_PMIN_HI_P (n : Nat) : Fld := ⟨R.FXG_AX_PMIN_HI n, 0, 32⟩
def FXG_AX_PMAX_LO_P (n : Nat) : Fld := ⟨R.FXG_AX_PMAX_LO n, 0, 32⟩
def FXG_AX_PMAX_HI_P (n : Nat) : Fld := ⟨R.FXG_AX_PMAX_HI n, 0, 32⟩
def FXG_AX_STATUS_HOLD (n : Nat) : Fld := ⟨R.FXG_AX_STATUS n, 0, 1⟩
def FXG_AX_STATUS_CAUSE (n : Nat) : Fld := ⟨R.FXG_AX_STATUS n, 1, 4⟩
def FXG_AX_STATUS_TRIPS (n : Nat) : Fld := ⟨R.FXG_AX_STATUS n, 16, 16⟩
def FXG_DL_WIN_MIN (n : Nat) : Fld := ⟨R.FXG_DL_WIN n, 0, 16⟩
def FXG_DL_WIN_MAX (n : Nat) : Fld := ⟨R.FXG_DL_WIN n, 16, 16⟩
def FXG_DL_CHECK_DL_SCALE (n : Nat) : Fld := ⟨R.FXG_DL_CHECK n, 0, 16⟩
def FXG_DL_CHECK_DL_AGREE (n : Nat) : Fld := ⟨R.FXG_DL_CHECK n, 16, 16⟩
def FXG_DL_STATUS_CHECKED (n : Nat) : Fld := ⟨R.FXG_DL_STATUS n, 0, 1⟩
def FXG_DL_STATUS_V (n : Nat) : Fld := ⟨R.FXG_DL_STATUS n, 16, 16⟩
def EVT_ROUTE_RING (n : Nat) : Fld := ⟨R.EVT_ROUTE n, 0, 1⟩
def EVT_ROUTE_VEC_SEL (n : Nat) : Fld := ⟨R.EVT_ROUTE n, 1, 2⟩
def EVT_ROUTE_VECTOR (n : Nat) : Fld := ⟨R.EVT_ROUTE n, 3, 6⟩
def EVT_ROUTE_CAMELLIA (n : Nat) : Fld := ⟨R.EVT_ROUTE n, 9, 1⟩
def EVT_ROUTE_LUPIN (n : Nat) : Fld := ⟨R.EVT_ROUTE n, 10, 1⟩
def EVT_ROUTE_LT_EN (n : Nat) : Fld := ⟨R.EVT_ROUTE n, 11, 1⟩
def EVT_ROUTE_LT (n : Nat) : Fld := ⟨R.EVT_ROUTE n, 12, 3⟩
def EVT_ROUTE_NOMERGE (n : Nat) : Fld := ⟨R.EVT_ROUTE n, 15, 1⟩
def EVT_ROUTE_HOLLYHOCK (n : Nat) : Fld := ⟨R.EVT_ROUTE n, 16, 1⟩
def EVT_ROUTE_SEV (n : Nat) : Fld := ⟨R.EVT_ROUTE n, 17, 2⟩
def EVT_ROUTE_OWNER (n : Nat) : Fld := ⟨R.EVT_ROUTE n, 19, 3⟩
def EVT_OD_CFG_COAL_LEVEL (n : Nat) : Fld := ⟨R.EVT_OD_CFG n, 0, 10⟩
def EVT_OD_STATUS_LEVEL (n : Nat) : Fld := ⟨R.EVT_OD_STATUS n, 0, 10⟩
def EVT_OD_STATUS_MERGING (n : Nat) : Fld := ⟨R.EVT_OD_STATUS n, 10, 1⟩
def EVT_OD_STATUS_OVERFLOW (n : Nat) : Fld := ⟨R.EVT_OD_STATUS n, 11, 1⟩
def EVT_OD_COUNT_COALESCED (n : Nat) : Fld := ⟨R.EVT_OD_COUNT n, 0, 16⟩
def EVT_OD_COUNT_LOST (n : Nat) : Fld := ⟨R.EVT_OD_COUNT n, 16, 16⟩
def EVT_OD_OVF_MAP_EV (n : Nat) (k : Nat) : Fld := ⟨R.EVT_OD_OVF_MAP n k, 0, 32⟩
def EVT_LT_CTL_LQ (n : Nat) : Fld := ⟨R.EVT_LT_CTL n, 0, 4⟩
def EVT_LT_CTL_CODE (n : Nat) : Fld := ⟨R.EVT_LT_CTL n, 4, 8⟩
def EVT_LT_CTL_TARGET (n : Nat) : Fld := ⟨R.EVT_LT_CTL n, 12, 16⟩
def EVT_LT_CTL_LT_REFUSED (n : Nat) : Fld := ⟨R.EVT_LT_CTL n, 28, 1⟩
def EVT_LT_ARG_VALUE (n : Nat) : Fld := ⟨R.EVT_LT_ARG n, 0, 32⟩
def EVT_LT_DELAY_VALUE (n : Nat) : Fld := ⟨R.EVT_LT_DELAY n, 0, 32⟩
def EVT_LT_TAG_VALUE (n : Nat) : Fld := ⟨R.EVT_LT_TAG n, 0, 32⟩
def EVT_PWF_ADDR_VALUE (n : Nat) : Fld := ⟨R.EVT_PWF_ADDR n, 0, 32⟩
def EVT_PWF_STAMP_VALUE (n : Nat) : Fld := ⟨R.EVT_PWF_STAMP n, 0, 32⟩
def EVT_PWF_INFO_INITIATOR (n : Nat) : Fld := ⟨R.EVT_PWF_INFO n, 0, 3⟩
def EVT_PWF_INFO_REASON (n : Nat) : Fld := ⟨R.EVT_PWF_INFO n, 3, 2⟩
def EVT_PWF_STATUS_NEWEST : Fld := ⟨R.EVT_PWF_STATUS, 0, 4⟩
def EVT_PWF_STATUS_COUNT : Fld := ⟨R.EVT_PWF_STATUS, 16, 16⟩
def CLK_REF_CFG_PRIO0 : Fld := ⟨R.CLK_REF_CFG, 0, 2⟩
def CLK_REF_CFG_PRIO1 : Fld := ⟨R.CLK_REF_CFG, 2, 2⟩
def CLK_REF_CFG_PRIO2 : Fld := ⟨R.CLK_REF_CFG, 4, 2⟩
def CLK_REF_CFG_POLICY : Fld := ⟨R.CLK_REF_CFG, 6, 1⟩
def CLK_REF_CFG_RCLK0_FREQ : Fld := ⟨R.CLK_REF_CFG, 7, 1⟩
def CLK_REF_CFG_RCLK1_FREQ : Fld := ⟨R.CLK_REF_CFG, 8, 1⟩
def CLK_REF_CFG_NET_REF : Fld := ⟨R.CLK_REF_CFG, 9, 2⟩
def CLK_REF_HOLDOFF_HOLDOFF : Fld := ⟨R.CLK_REF_HOLDOFF, 0, 10⟩
def CLK_REF_HOLDOFF_SWITCH_TMO : Fld := ⟨R.CLK_REF_HOLDOFF, 16, 8⟩
def CLK_CMD_REF_SWITCH : Fld := ⟨R.CLK_CMD, 0, 1⟩
def CLK_CMD_RETURN : Fld := ⟨R.CLK_CMD, 1, 1⟩
def CLK_STATUS_REF_IN_USE : Fld := ⟨R.CLK_STATUS, 0, 2⟩
def CLK_STATUS_SWITCHING : Fld := ⟨R.CLK_STATUS, 2, 1⟩
def CLK_STATUS_HOLDOFF : Fld := ⟨R.CLK_STATUS, 3, 1⟩
def CLK_STATUS_BETTER_PENDING : Fld := ⟨R.CLK_STATUS, 4, 1⟩
def CLK_STATUS_DEGRADED : Fld := ⟨R.CLK_STATUS, 5, 1⟩
def CLK_STATUS_SWITCH_REFUSED : Fld := ⟨R.CLK_STATUS, 6, 1⟩
def CLK_STATUS_CMD_REFUSED : Fld := ⟨R.CLK_STATUS, 7, 1⟩
def CLK_STATUS_REF_READY : Fld := ⟨R.CLK_STATUS, 8, 3⟩
def CLK_STATUS_PLL_READY : Fld := ⟨R.CLK_STATUS, 11, 3⟩
def CLK_STATUS_MG_READY : Fld := ⟨R.CLK_STATUS, 14, 1⟩
def CLK_STATUS_SD_TRIMMED : Fld := ⟨R.CLK_STATUS, 15, 1⟩
def CLK_STATUS_TRIP_SEEN : Fld := ⟨R.CLK_STATUS, 16, 1⟩
def CLK_DOM_SEL_SRC : Fld := ⟨R.CLK_DOM_SEL, 0, 6⟩
def CLK_DIV_ENG_DIV : Fld := ⟨R.CLK_DIV, 0, 4⟩
def CLK_DIV_FAB_DIV : Fld := ⟨R.CLK_DIV, 4, 4⟩
def CLK_DIV_PER_DIV : Fld := ⟨R.CLK_DIV, 8, 4⟩
def CLK_DIV_CAN_DIV : Fld := ⟨R.CLK_DIV, 12, 6⟩
def CLK_TRIM_SD_TRIM : Fld := ⟨R.CLK_TRIM, 0, 10⟩
def CLK_TRIM_MG_TRIM : Fld := ⟨R.CLK_TRIM, 16, 10⟩
def CLK_MG_TRIM_TRIM_SRC : Fld := ⟨R.CLK_MG_TRIM, 0, 2⟩
def CLK_MG_TRIM_SHAFT : Fld := ⟨R.CLK_MG_TRIM, 2, 3⟩
def CLK_MG_TRIM_CAN : Fld := ⟨R.CLK_MG_TRIM, 5, 2⟩
def CLK_MG_TRIM_TRIM_ID : Fld := ⟨R.CLK_MG_TRIM, 7, 11⟩
def CLK_MG_TRIM_PER_PERIOD : Fld := ⟨R.CLK_MG_TRIM_PER, 0, 20⟩
def CLK_REF_LOG_OLD : Fld := ⟨R.CLK_REF_LOG, 0, 2⟩
def CLK_REF_LOG_NEW : Fld := ⟨R.CLK_REF_LOG, 2, 2⟩
def CLK_REF_LOG_CAUSE : Fld := ⟨R.CLK_REF_LOG, 4, 2⟩
def CLK_REF_LOG_TIMED_OUT : Fld := ⟨R.CLK_REF_LOG, 6, 1⟩
def CLK_REF_LOG_DURATION : Fld := ⟨R.CLK_REF_LOG, 16, 16⟩
def CLK_REF_LOG_END_END : Fld := ⟨R.CLK_REF_LOG_END, 0, 32⟩
def RST_CAUSE_SRC : Fld := ⟨R.RST_CAUSE, 0, 9⟩
def RST_CAUSE_LAST : Fld := ⟨R.RST_CAUSE, 9, 4⟩
def RST_CMD_KEY : Fld := ⟨R.RST_CMD, 0, 16⟩
def RST_CMD_SCOPE : Fld := ⟨R.RST_CMD, 16, 3⟩
def RST_WDOG_TIMEOUT : Fld := ⟨R.RST_WDOG, 0, 16⟩
def RST_WDOG_KICK : Fld := ⟨R.RST_WDOG, 16, 1⟩
def RST_LOCKUP_CORE : Fld := ⟨R.RST_LOCKUP, 0, 4⟩
def RST_LOCKUP_CAMELLIA : Fld := ⟨R.RST_LOCKUP, 4, 1⟩
def PWR_CMD_DOZE : Fld := ⟨R.PWR_CMD, 0, 1⟩
def PWR_CMD_DORMANT : Fld := ⟨R.PWR_CMD, 1, 1⟩
def PWR_STATUS_ENTRY_REFUSED : Fld := ⟨R.PWR_STATUS, 0, 1⟩
def PWR_STATUS_REASON : Fld := ⟨R.PWR_STATUS, 1, 3⟩
def PWR_STATUS_WAKE_SRC : Fld := ⟨R.PWR_STATUS, 4, 3⟩
def PWR_STATUS_FROM_DORMANT : Fld := ⟨R.PWR_STATUS, 7, 1⟩
def PWR_WAKE_CFG_EN : Fld := ⟨R.PWR_WAKE_CFG, 0, 6⟩
def PWR_WAKE_FI_MASK : Fld := ⟨R.PWR_WAKE_FI, 0, 32⟩
def PWR_WAKE_TIME_LO_SEC : Fld := ⟨R.PWR_WAKE_TIME_LO, 0, 32⟩
def PWR_WAKE_TIME_HI_SEC : Fld := ⟨R.PWR_WAKE_TIME_HI, 0, 32⟩
def MGT_STATUS_RECOVERY : Fld := ⟨R.MGT_STATUS, 0, 1⟩
def MGT_STATUS_SLOT : Fld := ⟨R.MGT_STATUS, 1, 1⟩
def MGT_STATUS_TRIAL : Fld := ⟨R.MGT_STATUS, 2, 1⟩
def MGT_STATUS_FLASH_FAULT : Fld := ⟨R.MGT_STATUS, 3, 1⟩
def MGT_STATUS_AVS_FAULT : Fld := ⟨R.MGT_STATUS, 4, 1⟩
def MGT_STATUS_MARGIN_DUE : Fld := ⟨R.MGT_STATUS, 5, 1⟩
def MGT_STATUS_VCORE : Fld := ⟨R.MGT_STATUS, 16, 12⟩
def MGT_CFG_TJ_WARN : Fld := ⟨R.MGT_CFG, 0, 8⟩
def MGT_CFG_SLACK_LO : Fld := ⟨R.MGT_CFG, 8, 8⟩
def MGT_CFG_SLACK_HI : Fld := ⟨R.MGT_CFG, 16, 8⟩
def MGT_CFG_CONFIRM_TMO : Fld := ⟨R.MGT_CFG, 24, 8⟩
def MGT_OD_MB_CTL_GO (n : Nat) : Fld := ⟨R.MGT_OD_MB_CTL n, 0, 1⟩
def MGT_OD_MB_CTL_BUSY (n : Nat) : Fld := ⟨R.MGT_OD_MB_CTL n, 1, 1⟩
def MGT_OD_MB_CTL_DONE (n : Nat) : Fld := ⟨R.MGT_OD_MB_CTL n, 2, 1⟩
def MGT_OD_MB_DATA_DATA (n : Nat) (k : Nat) : Fld := ⟨R.MGT_OD_MB_DATA n k, 0, 32⟩
def MGT_AX_BOUND_CAP_MIN (n : Nat) : Fld := ⟨R.MGT_AX_BOUND n, 0, 7⟩
def MGT_AX_BOUND_GUARD_MAX (n : Nat) : Fld := ⟨R.MGT_AX_BOUND n, 8, 6⟩
def MGT_AX_F_MIN_PERIOD_MAX (n : Nat) : Fld := ⟨R.MGT_AX_F_MIN n, 0, 24⟩
def MGT_DL_BOUND_MAX_DUTY_MIN (n : Nat) : Fld := ⟨R.MGT_DL_BOUND n, 0, 8⟩
def MGT_DL_BOUND_BCH_PLAN (n : Nat) : Fld := ⟨R.MGT_DL_BOUND n, 8, 8⟩
def GLB_READY_HOST_READY : Fld := ⟨R.GLB_READY, 0, 1⟩
def GLB_READY_MEM_READY : Fld := ⟨R.GLB_READY, 1, 1⟩
def GLB_READY_FW_VERIFIED : Fld := ⟨R.GLB_READY, 2, 1⟩
def GLB_READY_PSET_LOADED : Fld := ⟨R.GLB_READY, 3, 1⟩
def GLB_READY_MOTION_READY : Fld := ⟨R.GLB_READY, 4, 1⟩
def GLB_READY_READY_MS : Fld := ⟨R.GLB_READY, 16, 16⟩
def LSH_JOIN_CFG_EN : Fld := ⟨R.LSH_JOIN_CFG, 0, 1⟩
def LSH_JOIN_CFG_LQ : Fld := ⟨R.LSH_JOIN_CFG, 1, 4⟩
def LSH_JOIN_CFG_JSLOT : Fld := ⟨R.LSH_JOIN_CFG, 5, 5⟩
def LSH_JOIN_CFG_GUARD : Fld := ⟨R.LSH_JOIN_CFG, 10, 10⟩
def LSH_JOIN_STATUS_JOINING : Fld := ⟨R.LSH_JOIN_STATUS, 0, 1⟩
def LSH_JOIN_STATUS_COMPLETE : Fld := ⟨R.LSH_JOIN_STATUS, 1, 1⟩
def LSH_JOIN_STATUS_LOST_MEMBER : Fld := ⟨R.LSH_JOIN_STATUS, 2, 1⟩
def LSH_JOIN_STATUS_CYCLE_MISMATCH : Fld := ⟨R.LSH_JOIN_STATUS, 3, 1⟩
def LSH_JOIN_STATUS_DUPLICATE : Fld := ⟨R.LSH_JOIN_STATUS, 4, 1⟩
def LSH_JOIN_STATUS_ROLE_CONFLICT : Fld := ⟨R.LSH_JOIN_STATUS, 5, 1⟩
def LSH_JOIN_STATUS_UNEXPECTED : Fld := ⟨R.LSH_JOIN_STATUS, 6, 1⟩
def LSH_JOIN_STATUS_PRESENT : Fld := ⟨R.LSH_JOIN_STATUS, 16, 9⟩
def LSH_MEMBERS_MAP (n : Nat) : Fld := ⟨R.LSH_MEMBERS n, 0, 32⟩
def LSH_PRESENT_MAP (n : Nat) : Fld := ⟨R.LSH_PRESENT n, 0, 32⟩
def LSH_JOIN_TIME_STAMP : Fld := ⟨R.LSH_JOIN_TIME, 0, 32⟩
def LSP_EN_REQ0_CH : Fld := ⟨R.LSP_EN_REQ0, 0, 32⟩
def LSP_EN_REQ1_CH : Fld := ⟨R.LSP_EN_REQ1, 0, 32⟩
def LSP_EN_CFG_STAGGER : Fld := ⟨R.LSP_EN_CFG, 0, 8⟩
def LSP_EN_STATUS_BUSY : Fld := ⟨R.LSP_EN_STATUS, 0, 4⟩
def LSP_EN_STATUS_SKIPPED : Fld := ⟨R.LSP_EN_STATUS, 4, 1⟩
def LSP_EN_STATUS_CANCELLED : Fld := ⟨R.LSP_EN_STATUS, 5, 1⟩
def LSP_EN_STATUS_LAST : Fld := ⟨R.LSP_EN_STATUS, 8, 6⟩
def TSN_OPER_CTL_GATES (n : Nat) (k : Nat) : Fld := ⟨R.TSN_OPER_CTL n k, 0, 8⟩
def TSN_OPER_CTL_OP (n : Nat) (k : Nat) : Fld := ⟨R.TSN_OPER_CTL n k, 8, 2⟩
def TSN_OPER_INTERVAL_INTERVAL (n : Nat) (k : Nat) : Fld := ⟨R.TSN_OPER_INTERVAL n k, 0, 32⟩
def MGT_NF_NF (n : Nat) : Fld := ⟨R.MGT_NF n, 0, 32⟩
def MGT_AX_TH_I_RATED_I_RATED (n : Nat) : Fld := ⟨R.MGT_AX_TH_I_RATED n, 0, 32⟩
def MGT_AX_TH_V0_V0 (n : Nat) : Fld := ⟨R.MGT_AX_TH_V0 n, 0, 32⟩
def MGT_AX_TH_R_ON_R_ON (n : Nat) : Fld := ⟨R.MGT_AX_TH_R_ON n, 0, 32⟩
def MGT_AX_TH_E_SW_E_SW (n : Nat) : Fld := ⟨R.MGT_AX_TH_E_SW n, 0, 32⟩
def MGT_AX_TH_I_REF_I_REF (n : Nat) : Fld := ⟨R.MGT_AX_TH_I_REF n, 0, 32⟩
def MGT_AX_TH_V_REF_V_REF (n : Nat) : Fld := ⟨R.MGT_AX_TH_V_REF n, 0, 32⟩
def MGT_AX_TH_ZTH_ZTH (n : Nat) : Fld := ⟨R.MGT_AX_TH_ZTH n, 0, 32⟩
def MGT_AX_TH_TAU_TAU (n : Nat) : Fld := ⟨R.MGT_AX_TH_TAU n, 0, 32⟩
def MGT_AX_TH_TAMB_SUB_TAMB_SUB (n : Nat) : Fld := ⟨R.MGT_AX_TH_TAMB_SUB n, 0, 32⟩
def MGT_AX_TH_P_BASE_P_BASE (n : Nat) : Fld := ⟨R.MGT_AX_TH_P_BASE n, 0, 32⟩
def MGT_AX_TH_TJ_PLAN_TJ_PLAN (n : Nat) : Fld := ⟨R.MGT_AX_TH_TJ_PLAN n, 0, 32⟩
def MGT_AX_TH_LIFE_BUDGET_LIFE_BUDGET (n : Nat) : Fld := ⟨R.MGT_AX_TH_LIFE_BUDGET n, 0, 32⟩
def MGT_AX_TH_TJ_TJ (n : Nat) : Fld := ⟨R.MGT_AX_TH_TJ n, 0, 32⟩
def MGT_AX_TH_TJ_PEAK_H_TJ_PEAK_H (n : Nat) : Fld := ⟨R.MGT_AX_TH_TJ_PEAK_H n, 0, 32⟩
def MGT_AX_TH_LIFE_USED_LIFE_USED (n : Nat) : Fld := ⟨R.MGT_AX_TH_LIFE_USED n, 0, 32⟩
def MGT_AX_TH_PLAN_STATE_CAP_STEPS (n : Nat) : Fld := ⟨R.MGT_AX_TH_PLAN_STATE n, 0, 6⟩
def MGT_AX_TH_PLAN_STATE_GUARD_STEPS (n : Nat) : Fld := ⟨R.MGT_AX_TH_PLAN_STATE n, 6, 6⟩
def MGT_AX_TH_PLAN_STATE_FREQ_STEPS (n : Nat) : Fld := ⟨R.MGT_AX_TH_PLAN_STATE n, 12, 4⟩
def MGT_AX_TH_PLAN_STATE_FREQ_CHANGED (n : Nat) : Fld := ⟨R.MGT_AX_TH_PLAN_STATE n, 16, 1⟩
def MGT_AX_TH_PLAN_STATE_PROPOSAL_OPEN (n : Nat) : Fld := ⟨R.MGT_AX_TH_PLAN_STATE n, 17, 1⟩

end F

/-- The registers of region 0x000x_xxxx of the window, part 0. -/
def regTable00_0 : List RegRow := [
  ⟨"GLB_REGION_STATE", 0x00000100, 0x0, 1, 0x0, 1, 0x00000000, [.f 0 7 .ro, .f 8 7 .w1c, .f 16 7 .w1c]⟩,
  ⟨"GLB_CHIP_FAULT", 0x00000104, 0x0, 1, 0x0, 1, 0x00000000, [.r 0 4 .w1c 0 7, .f 4 3 .ro, .f 8 24 .ro]⟩,
  ⟨"GLB_BCH_CTL", 0x00000200, 0x10, 4, 0x0, 1, 0x00044000, [.f 0 1 .rw, .f 8 8 .rw, .r 16 8 .rw 1 255]⟩,
  ⟨"GLB_BCH_THR", 0x00000204, 0x10, 4, 0x0, 1, 0x00000000, [.f 0 16 .rw, .f 16 16 .rw]⟩,
  ⟨"GLB_BCH_STATUS", 0x00000208, 0x10, 4, 0x0, 1, 0x00000000, [.f 0 1 .ro, .f 1 1 .ro, .f 2 1 .w1c, .f 16 16 .ro]⟩,
  ⟨"GLB_SDCLK_CFG", 0x00000240, 0x0, 1, 0x0, 1, 0x000000AA, [.f 0 8 .rws, .f 8 4 .rw]⟩,
  ⟨"GLB_SDCLK_STATUS", 0x00000244, 0x0, 1, 0x0, 1, 0x00000000, [.f 0 4 .ro, .f 4 4 .ro, .f 8 4 .ro]⟩,
  ⟨"GLB_DL_CFG", 0x00000280, 0x20, 4, 0x0, 1, 0x00400080, [.f 0 1 .rw, .r 1 9 .rws 16 256, .f 10 5 .rw, .r 16 8 .rw 16 255]⟩,
  ⟨"GLB_DL_FREE", 0x00000284, 0x20, 4, 0x0, 1, 0x00000000, [.f 0 24 .ro]⟩,
  ⟨"GLB_DL_SAMPLE", 0x00000288, 0x20, 4, 0x0, 1, 0x00000000, [.f 0 24 .ro]⟩,
  ⟨"GLB_DL_STAMP", 0x0000028C, 0x20, 4, 0x0, 1, 0x00000000, [.f 0 32 .ro]⟩,
  ⟨"GLB_DL_STATUS", 0x00000290, 0x20, 4, 0x0, 1, 0x00000000, [.f 0 1 .ro, .f 1 1 .w1c, .f 2 1 .w1c, .f 3 1 .w1c]⟩,
  ⟨"GLB_PRB_CFG", 0x00000300, 0x20, 8, 0x0, 1, 0x00000000, [.f 0 1 .rw, .f 1 1 .rw, .r 2 2 .rw 0 2, .f 4 4 .rw, .f 8 1 .rw, .f 9 4 .rw, .f 13 1 .rw, .r 14 5 .rw 0 23]⟩,
  ⟨"GLB_PRB_STATUS", 0x00000304, 0x20, 8, 0x0, 1, 0x00000000, [.r 0 3 .ro 0 4, .f 3 1 .w1c, .f 4 1 .w1c, .f 5 1 .ro]⟩,
  ⟨"GLB_PRB_POP", 0x00000308, 0x20, 8, 0x0, 1, 0x00000000, [.f 0 1 .wo]⟩,
  ⟨"GLB_PRB_STAMP", 0x0000030C, 0x20, 8, 0x0, 1, 0x00000000, [.f 0 32 .ro]⟩,
  ⟨"GLB_PRB_POS_LO", 0x00000310, 0x20, 8, 0x0, 1, 0x00000000, [.f 0 32 .ro]⟩,
  ⟨"GLB_PRB_POS_HI", 0x00000314, 0x20, 8, 0x0, 1, 0x00000000, [.f 0 32 .ro]⟩,
  ⟨"GLB_PRB_FLAGS", 0x00000318, 0x20, 8, 0x0, 1, 0x00000000, [.f 0 1 .ro, .f 1 1 .ro, .f 2 1 .ro]⟩,
  ⟨"GLB_READY", 0x00000010, 0x0, 1, 0x0, 1, 0x00000000, [.f 0 1 .ro, .f 1 1 .ro, .f 2 1 .ro, .f 3 1 .ro, .f 4 1 .ro, .f 16 16 .ro]⟩]

/-- The registers of region 0x001x_xxxx of the window, part 0. -/
def regTable01_0 : List RegRow := [
  ⟨"CLK_REF_CFG", 0x00100000, 0x0, 1, 0x0, 1, 0x00000024, [.f 0 2 .rw, .f 2 2 .rw, .f 4 2 .rw, .f 6 1 .rw, .f 7 1 .rw, .f 8 1 .rw, .r 9 2 .rw 0 2]⟩,
  ⟨"CLK_REF_HOLDOFF", 0x00100004, 0x0, 1, 0x0, 1, 0x00320014, [.f 0 10 .rw, .f 16 8 .rw]⟩,
  ⟨"CLK_CMD", 0x00100008, 0x0, 1, 0x0, 1, 0x00000000, [.f 0 1 .wo, .f 1 1 .wo]⟩,
  ⟨"CLK_STATUS", 0x0010000C, 0x0, 1, 0x0, 1, 0x00000003, [.f 0 2 .ro, .f 2 1 .ro, .f 3 1 .ro, .f 4 1 .ro, .f 5 1 .ro, .f 6 1 .w1c, .f 7 1 .w1c, .f 8 3 .ro, .f 11 3 .ro, .f 14 1 .ro, .f 15 1 .ro, .f 16 1 .w1c]⟩,
  ⟨"CLK_DOM_SEL", 0x00100010, 0x0, 1, 0x0, 1, 0x0000003E, [.f 0 6 .rw]⟩,
  ⟨"CLK_DIV", 0x00100014, 0x0, 1, 0x0, 1, 0x00014842, [.f 0 4 .rw, .f 4 4 .rw, .f 8 4 .rw, .f 12 6 .rw]⟩,
  ⟨"CLK_TRIM", 0x00100018, 0x0, 1, 0x0, 1, 0x00000000, [.f 0 10 .ro, .f 16 10 .ro]⟩,
  ⟨"CLK_MG_TRIM", 0x0010001C, 0x0, 1, 0x0, 1, 0x00000000, [.r 0 2 .rw 0 2, .f 2 3 .rw, .f 5 2 .rw, .f 7 11 .rw]⟩,
  ⟨"CLK_MG_TRIM_PER", 0x00100020, 0x0, 1, 0x0, 1, 0x00000000, [.r 0 20 .rw 100 1000000]⟩,
  ⟨"CLK_REF_LOG", 0x00100024, 0x0, 1, 0x0, 1, 0x00000000, [.f 0 2 .ro, .f 2 2 .ro, .f 4 2 .ro, .f 6 1 .ro, .f 16 16 .ro]⟩,
  ⟨"CLK_REF_LOG_END", 0x00100028, 0x0, 1, 0x0, 1, 0x00000000, [.f 0 32 .ro]⟩,
  ⟨"RST_CAUSE", 0x00100400, 0x0, 1, 0x0, 1, 0x00000001, [.f 0 9 .w1c, .r 9 4 .ro 0 8]⟩,
  ⟨"RST_CMD", 0x00100404, 0x0, 1, 0x0, 1, 0x00000000, [.f 0 16 .wo, .r 16 3 .wo 0 4]⟩,
  ⟨"RST_WDOG", 0x00100408, 0x0, 1, 0x0, 1, 0x000003E8, [.r 0 16 .rw 10 65535, .f 16 1 .wo]⟩,
  ⟨"RST_LOCKUP", 0x0010040C, 0x0, 1, 0x0, 1, 0x00000000, [.f 0 4 .w1c, .f 4 1 .w1c]⟩,
  ⟨"PWR_CMD", 0x00100800, 0x0, 1, 0x0, 1, 0x00000000, [.f 0 1 .wo, .f 1 1 .wo]⟩,
  ⟨"PWR_STATUS", 0x00100804, 0x0, 1, 0x0, 1, 0x00000000, [.f 0 1 .w1c, .f 1 3 .ro, .f 4 3 .ro, .f 7 1 .w1c]⟩,
  ⟨"PWR_WAKE_CFG", 0x00100808, 0x0, 1, 0x0, 1, 0x0000003A, [.f 0 6 .rw]⟩,
  ⟨"PWR_WAKE_FI", 0x0010080C, 0x0, 1, 0x0, 1, 0x00000000, [.f 0 32 .rw]⟩,
  ⟨"PWR_WAKE_TIME_LO", 0x00100810, 0x0, 1, 0x0, 1, 0x00000000, [.f 0 32 .rw]⟩,
  ⟨"PWR_WAKE_TIME_HI", 0x00100814, 0x0, 1, 0x0, 1, 0x00000000, [.f 0 32 .rw]⟩]

/-- The registers of region 0x002x_xxxx of the window, part 0. -/
def regTable02_0 : List RegRow := [
  ⟨"TB_CTRL", 0x00200000, 0x0, 1, 0x0, 1, 0x00000080, [.f 0 1 .rw, .r 1 3 .rw 0 4, .r 4 2 .rw 0 2, .f 6 1 .rw, .r 7 2 .rw 0 2, .f 9 1 .rw, .f 10 1 .rw]⟩,
  ⟨"TB_STATUS", 0x00200004, 0x0, 1, 0x0, 1, 0x00000000, [.f 0 2 .ro, .f 2 1 .ro, .f 3 1 .ro, .f 4 1 .ro, .f 5 1 .ro, .f 6 1 .ro, .f 7 1 .w1c, .f 8 1 .w1c, .f 9 1 .w1c, .f 10 1 .w1c]⟩,
  ⟨"TB_INCR_FRAC", 0x00200008, 0x0, 1, 0x0, 1, 0x00000000, [.f 0 32 .rw]⟩,
  ⟨"TB_INCR_INT", 0x0020000C, 0x0, 1, 0x0, 1, 0x00000004, [.f 0 8 .rw]⟩,
  ⟨"TB_ADJ", 0x00200010, 0x0, 1, 0x0, 1, 0x00000000, [.f 0 32 .rw]⟩,
  ⟨"TB_NOW_FRAC", 0x00200020, 0x0, 1, 0x0, 1, 0x00000000, [.f 0 16 .ro]⟩,
  ⟨"TB_NOW_NS", 0x00200024, 0x0, 1, 0x0, 1, 0x00000000, [.r 0 32 .ro 0 999999]⟩,
  ⟨"TB_NOW_SEC_LO", 0x00200028, 0x0, 1, 0x0, 1, 0x00000000, [.f 0 32 .ro]⟩,
  ⟨"TB_NOW_SEC_HI", 0x0020002C, 0x0, 1, 0x0, 1, 0x00000000, [.f 0 16 .ro]⟩,
  ⟨"TB_SHORT", 0x00200030, 0x0, 1, 0x0, 1, 0x00000000, [.f 0 32 .ro]⟩,
  ⟨"TB_SET_NS", 0x00200040, 0x0, 1, 0x0, 1, 0x00000000, [.f 0 32 .rw]⟩,
  ⟨"TB_SET_SEC_LO", 0x00200044, 0x0, 1, 0x0, 1, 0x00000000, [.f 0 32 .rw]⟩,
  ⟨"TB_SET_SEC_HI", 0x00200048, 0x0, 1, 0x0, 1, 0x00000000, [.f 0 16 .rw]⟩,
  ⟨"TB_CMD", 0x0020004C, 0x0, 1, 0x0, 1, 0x00000000, [.f 0 1 .wo, .f 1 1 .wo, .f 2 1 .wo]⟩,
  ⟨"TB_STEP_OFS", 0x00200050, 0x0, 1, 0x0, 1, 0x00000000, [.f 0 32 .rw]⟩,
  ⟨"TB_OFFSET", 0x00200054, 0x0, 1, 0x0, 1, 0x00000000, [.f 0 32 .ro]⟩,
  ⟨"TB_SERVO_KP", 0x00200060, 0x0, 1, 0x0, 1, 0x01800000, [.f 0 32 .rw]⟩,
  ⟨"TB_SERVO_KI", 0x00200064, 0x0, 1, 0x0, 1, 0x00180000, [.f 0 32 .rw]⟩,
  ⟨"TB_STEP_THR", 0x00200068, 0x0, 1, 0x0, 1, 0x000003E8, [.f 0 32 .rw]⟩,
  ⟨"TB_LOCK", 0x0020006C, 0x0, 1, 0x0, 1, 0x00FA0032, [.f 0 16 .rw, .f 16 16 .rw]⟩,
  ⟨"TB_HOLDOVER", 0x00200070, 0x0, 1, 0x0, 1, 0x00000003, [.f 0 4 .rw]⟩,
  ⟨"TB_UTC", 0x00200080, 0x0, 1, 0x0, 1, 0x00080000, [.f 0 16 .rw, .f 16 1 .ro, .f 17 1 .ro, .f 18 1 .ro, .f 19 1 .rw]⟩,
  ⟨"TB_GM_CTRL", 0x00200090, 0x0, 1, 0x0, 1, 0x00500014, [.f 0 16 .rw, .r 16 8 .rw 1 255]⟩,
  ⟨"TB_GM_LOG_OLD_LO", 0x002000A0, 0x0, 1, 0x0, 1, 0x00000000, [.f 0 32 .ro]⟩,
  ⟨"TB_GM_LOG_OLD_HI", 0x002000A4, 0x0, 1, 0x0, 1, 0x00000000, [.f 0 32 .ro]⟩,
  ⟨"TB_GM_LOG_NEW_LO", 0x002000A8, 0x0, 1, 0x0, 1, 0x00000000, [.f 0 32 .ro]⟩,
  ⟨"TB_GM_LOG_NEW_HI", 0x002000AC, 0x0, 1, 0x0, 1, 0x00000000, [.f 0 32 .ro]⟩,
  ⟨"TB_GM_LOG_INFO", 0x002000B0, 0x0, 1, 0x0, 1, 0x00000000, [.f 0 2 .ro, .f 2 1 .ro, .f 16 16 .ro]⟩,
  ⟨"TB_GM_LOG_END", 0x002000B4, 0x0, 1, 0x0, 1, 0x00000000, [.f 0 32 .ro]⟩,
  ⟨"TB_ASYM_ETH", 0x002000C0, 0x4, 2, 0x0, 1, 0x00000000, [.f 0 32 .rw]⟩,
  ⟨"TB_PHYLAT_ETH", 0x002000C8, 0x4, 2, 0x0, 1, 0x00000000, [.f 0 16 .rw, .f 16 16 .rw]⟩,
  ⟨"TB_BMCA", 0x002000D0, 0x0, 1, 0x0, 1, 0xFEF8F8FF, [.f 0 8 .rw, .f 8 8 .rw, .f 16 8 .rw, .f 24 8 .rw]⟩,
  ⟨"LQ_CFG", 0x00201000, 0x40, 16, 0x0, 1, 0x00000000, [.f 0 1 .rw, .f 1 1 .rw, .f 2 1 .rw, .r 4 3 .ro 0 3]⟩,
  ⟨"LQ_STATUS", 0x00201004, 0x40, 16, 0x0, 1, 0x00000000, [.r 0 7 .ro 0 64, .f 7 1 .w1c, .f 8 1 .w1c, .f 9 1 .w1c, .f 10 1 .w1c, .f 11 1 .w1c, .f 12 1 .w1c, .f 13 1 .w1c]⟩,
  ⟨"LQ_PERIOD_NS", 0x00201008, 0x40, 16, 0x0, 1, 0x00000000, [.r 0 32 .rw 0 999999999]⟩,
  ⟨"LQ_PERIOD_FRAC", 0x0020100C, 0x40, 16, 0x0, 1, 0x00000000, [.f 0 16 .rw]⟩,
  ⟨"LQ_ENT_TIME", 0x00201010, 0x40, 16, 0x0, 1, 0x00000000, [.f 0 16 .rw, .f 16 16 .rw]⟩,
  ⟨"LQ_ENT_NS", 0x00201014, 0x40, 16, 0x0, 1, 0x00000000, [.f 0 32 .rw]⟩,
  ⟨"LQ_ENT_CTL", 0x00201018, 0x40, 16, 0x0, 1, 0x00000000, [.f 0 8 .rw, .f 8 1 .rw, .f 16 16 .rw]⟩,
  ⟨"LQ_ENT_ARG", 0x0020101C, 0x40, 16, 0x0, 1, 0x00000000, [.f 0 32 .rw]⟩]

/-- The registers of region 0x002x_xxxx of the window, part 1. -/
def regTable02_1 : List RegRow := [
  ⟨"LQ_ENT_TAG", 0x00201020, 0x40, 16, 0x0, 1, 0x00000000, [.f 0 16 .rw]⟩,
  ⟨"LQ_PUSH", 0x00201024, 0x40, 16, 0x0, 1, 0x00000000, [.f 0 1 .wo, .f 1 1 .wo]⟩,
  ⟨"LQ_CANCEL", 0x00201028, 0x40, 16, 0x0, 1, 0x00000000, [.f 0 16 .wo, .f 16 16 .wo]⟩,
  ⟨"LQ_CANCEL_CNT", 0x0020102C, 0x40, 16, 0x0, 1, 0x00000000, [.f 0 7 .ro]⟩,
  ⟨"LQ_LATE_CNT", 0x00201030, 0x40, 16, 0x0, 1, 0x00000000, [.f 0 16 .rc, .f 16 16 .rc]⟩,
  ⟨"LQ_LAST_LATE", 0x00201034, 0x40, 16, 0x0, 1, 0x00000000, [.f 0 16 .ro, .f 16 8 .ro]⟩,
  ⟨"LQ_HEAD_NS", 0x00201038, 0x40, 16, 0x0, 1, 0x00000000, [.f 0 32 .ro]⟩]

/-- The registers of region 0x004x_xxxx of the window, part 0. -/
def regTable04_0 : List RegRow := [
  ⟨"AX_PWM_CTL", 0x00400000, 0x10000, 16, 0x0, 1, 0x00000000, [.f 0 1 .rw, .f 1 1 .rw, .f 2 1 .wo, .f 3 1 .rw, .f 4 1 .wo]⟩,
  ⟨"AX_PWM_CFG", 0x00400004, 0x10000, 16, 0x0, 1, 0x00000040, [.r 0 2 .rw 0 2, .r 2 2 .rw 0 2, .f 4 2 .rw, .f 6 1 .rw]⟩,
  ⟨"AX_PWM_PERIOD", 0x00400008, 0x10000, 16, 0x0, 1, 0x0001E848, [.f 0 24 .rw]⟩,
  ⟨"AX_PWM_CMPA", 0x0040000C, 0x10000, 16, 0x0, 1, 0x00000000, [.f 0 24 .rw]⟩,
  ⟨"AX_PWM_CMPB", 0x00400010, 0x10000, 16, 0x0, 1, 0x00000000, [.f 0 24 .rw]⟩,
  ⟨"AX_PWM_CMPC", 0x00400014, 0x10000, 16, 0x0, 1, 0x00000000, [.f 0 24 .rw]⟩,
  ⟨"AX_PWM_SHADOW", 0x00400018, 0x10000, 16, 0x0, 1, 0x00000000, [.f 0 1 .rw, .f 16 16 .rc]⟩,
  ⟨"AX_PWM_OVR", 0x0040001C, 0x10000, 16, 0x0, 1, 0x00000000, [.f 0 2 .rw, .f 2 1 .rw, .f 3 1 .rw, .f 4 1 .rw]⟩,
  ⟨"AX_PWM_DT_CFG", 0x00400020, 0x10000, 16, 0x0, 1, 0x01F40032, [.f 0 9 .rw, .f 16 9 .rw]⟩,
  ⟨"AX_PWM_DT_GUARD", 0x00400024, 0x10000, 16, 0x0, 1, 0x0000190A, [.f 0 6 .rw, .f 8 6 .rw]⟩,
  ⟨"AX_PWM_DT_U", 0x00400028, 0x10000, 16, 0x0, 1, 0x01F401F4, [.f 0 9 .ro, .f 16 9 .ro]⟩,
  ⟨"AX_PWM_DT_V", 0x0040002C, 0x10000, 16, 0x0, 1, 0x01F401F4, [.f 0 9 .ro, .f 16 9 .ro]⟩,
  ⟨"AX_PWM_DT_W", 0x00400030, 0x10000, 16, 0x0, 1, 0x01F401F4, [.f 0 9 .ro, .f 16 9 .ro]⟩,
  ⟨"AX_PWM_MEAS_U", 0x00400034, 0x10000, 16, 0x0, 1, 0x00000000, [.f 0 16 .ro, .f 16 16 .ro]⟩,
  ⟨"AX_PWM_MEAS_V", 0x00400038, 0x10000, 16, 0x0, 1, 0x00000000, [.f 0 16 .ro, .f 16 16 .ro]⟩,
  ⟨"AX_PWM_MEAS_W", 0x0040003C, 0x10000, 16, 0x0, 1, 0x00000000, [.f 0 16 .ro, .f 16 16 .ro]⟩,
  ⟨"AX_PWM_EVT_CFG", 0x00400040, 0x10000, 16, 0x0, 1, 0x00000000, [.f 0 4 .rw, .f 4 4 .rw, .f 8 4 .rw, .f 12 4 .rw, .f 16 4 .rw, .r 20 2 .rw 0 2, .f 22 5 .rw]⟩,
  ⟨"AX_PWM_MASK", 0x00400050, 0x10000, 16, 0x4, 8, 0x00000000, [.f 0 6 .rw]⟩,
  ⟨"AX_PWM_MASK_CFG", 0x00400070, 0x10000, 16, 0x0, 1, 0x00000006, [.f 0 4 .rw, .f 4 3 .rw, .f 7 1 .rw, .r 8 2 .rw 0 2]⟩,
  ⟨"AX_PWM_ALIGN", 0x00400074, 0x10000, 16, 0x0, 1, 0x00000000, [.f 0 16 .rw, .f 16 8 .rw]⟩,
  ⟨"AX_PWM_STATUS", 0x00400078, 0x10000, 16, 0x0, 1, 0x00000000, [.r 0 2 .ro 0 2, .r 2 1 .ro 1 1, .f 3 1 .ro, .f 4 3 .ro, .f 7 1 .ro, .f 8 1 .ro, .f 9 1 .w1c, .f 10 1 .w1c, .f 11 1 .w1c, .f 12 6 .ro, .f 18 1 .w1c, .f 19 1 .w1c, .f 20 1 .ro, .f 21 1 .ro, .f 22 1 .w1c]⟩,
  ⟨"AX_PWM_PHASE", 0x0040007C, 0x10000, 16, 0x0, 1, 0x00000000, [.f 0 32 .ro]⟩,
  ⟨"AX_CS_CFG", 0x00400100, 0x10000, 16, 0x0, 1, 0x00400200, [.f 0 1 .rw, .r 1 2 .rw 0 2, .r 4 9 .rw 16 256, .r 16 8 .rw 16 255]⟩,
  ⟨"AX_CS_FAST", 0x00400104, 0x10000, 16, 0x0, 1, 0x00000008, [.r 0 6 .rws 4 32]⟩,
  ⟨"AX_CS_DLY", 0x00400108, 0x10000, 16, 0x0, 1, 0x00000000, [.f 0 5 .rw, .f 8 5 .rw]⟩,
  ⟨"AX_CS_OFS_A", 0x0040010C, 0x10000, 16, 0x0, 1, 0x00000000, [.f 0 24 .rw]⟩,
  ⟨"AX_CS_OFS_B", 0x00400110, 0x10000, 16, 0x0, 1, 0x00000000, [.f 0 24 .rw]⟩,
  ⟨"AX_CS_GAIN_A", 0x00400114, 0x10000, 16, 0x0, 1, 0x02000000, [.f 0 32 .rw]⟩,
  ⟨"AX_CS_GAIN_B", 0x00400118, 0x10000, 16, 0x0, 1, 0x02000000, [.f 0 32 .rw]⟩,
  ⟨"AX_CS_RAW_A", 0x0040011C, 0x10000, 16, 0x0, 1, 0x00000000, [.f 0 24 .ro]⟩,
  ⟨"AX_CS_RAW_B", 0x00400120, 0x10000, 16, 0x0, 1, 0x00000000, [.f 0 24 .ro]⟩,
  ⟨"AX_CS_IU", 0x00400124, 0x10000, 16, 0x0, 1, 0x00000000, [.f 0 32 .ro]⟩,
  ⟨"AX_CS_IV", 0x00400128, 0x10000, 16, 0x0, 1, 0x00000000, [.f 0 32 .ro]⟩,
  ⟨"AX_CS_IW", 0x0040012C, 0x10000, 16, 0x0, 1, 0x00000000, [.f 0 32 .ro]⟩,
  ⟨"AX_CS_FAST_A", 0x00400130, 0x10000, 16, 0x0, 1, 0x00000000, [.f 0 24 .ro]⟩,
  ⟨"AX_CS_FAST_B", 0x00400134, 0x10000, 16, 0x0, 1, 0x00000000, [.f 0 24 .ro]⟩,
  ⟨"AX_CS_STAMP", 0x00400138, 0x10000, 16, 0x0, 1, 0x00000000, [.f 0 32 .ro]⟩,
  ⟨"AX_CS_STATUS", 0x0040013C, 0x10000, 16, 0x0, 1, 0x00000000, [.f 0 1 .ro, .f 1 1 .w1c, .f 2 1 .w1c, .f 3 1 .w1c, .f 4 1 .w1c, .f 5 1 .w1c, .f 6 1 .w1c, .f 7 1 .w1c, .f 16 16 .ro]⟩,
  ⟨"AX_TLM_CFG", 0x00400180, 0x10000, 16, 0x0, 1, 0x05FF0000, [.f 0 1 .rw, .f 16 16 .rw]⟩,
  ⟨"AX_TLM_STATUS", 0x00400184, 0x10000, 16, 0x0, 1, 0x00000004, [.r 0 2 .ro 0 2, .f 2 1 .ro, .f 3 1 .w1c, .f 4 1 .w1c, .f 5 1 .w1c, .f 6 1 .w1c, .r 8 8 .ro 0 159, .f 16 8 .ro]⟩]

/-- The registers of region 0x004x_xxxx of the window, part 1. -/
def regTable04_1 : List RegRow := [
  ⟨"AX_TLM_TEMP_UV", 0x00400188, 0x10000, 16, 0x0, 1, 0x00000000, [.f 0 16 .ro, .f 16 16 .ro]⟩,
  ⟨"AX_TLM_TEMP_W", 0x0040018C, 0x10000, 16, 0x0, 1, 0x00000000, [.f 0 16 .ro]⟩,
  ⟨"AX_TLM_GD_VDC", 0x00400190, 0x10000, 16, 0x0, 1, 0x00000000, [.f 0 16 .ro, .f 16 16 .ro]⟩,
  ⟨"AX_TLM_AUX", 0x00400194, 0x10000, 16, 0x0, 1, 0x00000000, [.f 0 32 .ro]⟩,
  ⟨"AX_TLM_STAMP", 0x00400198, 0x10000, 16, 0x0, 1, 0x00000000, [.f 0 32 .ro]⟩,
  ⟨"AX_TLM_COUNT", 0x0040019C, 0x10000, 16, 0x0, 1, 0x00000000, [.f 0 16 .rc, .f 16 16 .rc]⟩,
  ⟨"AX_FB_CFG", 0x00400200, 0x10000, 16, 0x0, 1, 0x00000200, [.f 0 1 .rw, .r 1 2 .rw 0 2, .f 3 1 .rw, .f 4 1 .rw, .r 5 2 .rw 0 2, .f 7 1 .rw, .f 8 1 .rw, .f 9 1 .rw, .f 10 2 .rw, .f 12 3 .rw, .r 16 2 .rw 0 2, .r 18 2 .rw 0 2, .f 20 4 .rw]⟩,
  ⟨"AX_FB_LINES", 0x00400204, 0x10000, 16, 0x0, 1, 0x00000400, [.f 0 30 .rw]⟩,
  ⟨"AX_FB_CMD", 0x00400208, 0x10000, 16, 0x0, 1, 0x00000000, [.f 0 1 .wo, .f 1 1 .wo, .f 2 1 .wo]⟩,
  ⟨"AX_FB_VCFG", 0x0040020C, 0x10000, 16, 0x0, 1, 0x00002710, [.f 0 16 .rw]⟩,
  ⟨"AX_FB_POS_LO", 0x00400210, 0x10000, 16, 0x0, 1, 0x00000000, [.f 0 32 .ro]⟩,
  ⟨"AX_FB_POS_HI", 0x00400214, 0x10000, 16, 0x0, 1, 0x00000000, [.f 0 32 .ro]⟩,
  ⟨"AX_FB_POS2_LO", 0x00400220, 0x10000, 16, 0x0, 1, 0x00000000, [.f 0 32 .ro]⟩,
  ⟨"AX_FB_POS2_HI", 0x00400224, 0x10000, 16, 0x0, 1, 0x00000000, [.f 0 32 .ro]⟩,
  ⟨"AX_FB_ZLAT_LO", 0x00400240, 0x10000, 16, 0x0, 1, 0x00000000, [.f 0 32 .ro]⟩,
  ⟨"AX_FB_ZLAT_HI", 0x00400244, 0x10000, 16, 0x0, 1, 0x00000000, [.f 0 32 .ro]⟩,
  ⟨"AX_FB_VEL", 0x00400218, 0x10000, 16, 0x0, 1, 0x00000000, [.f 0 32 .ro]⟩,
  ⟨"AX_FB_STAMP", 0x0040021C, 0x10000, 16, 0x0, 1, 0x00000000, [.f 0 32 .ro]⟩,
  ⟨"AX_FB_ZLAT_STAMP", 0x00400248, 0x10000, 16, 0x0, 1, 0x00000000, [.f 0 32 .ro]⟩,
  ⟨"AX_FB_SOFT_MIN_LO", 0x00400228, 0x10000, 16, 0x0, 1, 0x00000000, [.f 0 32 .rw]⟩,
  ⟨"AX_FB_SOFT_MIN_HI", 0x0040022C, 0x10000, 16, 0x0, 1, 0x80000000, [.f 0 32 .rw]⟩,
  ⟨"AX_FB_SOFT_MAX_LO", 0x00400230, 0x10000, 16, 0x0, 1, 0xFFFFFFFF, [.f 0 32 .rw]⟩,
  ⟨"AX_FB_SOFT_MAX_HI", 0x00400234, 0x10000, 16, 0x0, 1, 0x7FFFFFFF, [.f 0 32 .rw]⟩,
  ⟨"AX_FB_LOAD_LO", 0x00400238, 0x10000, 16, 0x0, 1, 0x00000000, [.f 0 32 .rw]⟩,
  ⟨"AX_FB_LOAD_HI", 0x0040023C, 0x10000, 16, 0x0, 1, 0x00000000, [.f 0 32 .rw]⟩,
  ⟨"AX_FB_FAIL", 0x0040024C, 0x10000, 16, 0x0, 1, 0x00000102, [.f 0 4 .rw, .f 4 10 .rw]⟩,
  ⟨"AX_FB_SC_ADC", 0x00400250, 0x10000, 16, 0x0, 1, 0x00000000, [.f 0 14 .ro, .f 16 14 .ro]⟩,
  ⟨"AX_FB_SC_OFS", 0x00400254, 0x10000, 16, 0x0, 1, 0x00000000, [.f 0 16 .rw, .f 16 16 .rw]⟩,
  ⟨"AX_FB_SC_GP", 0x00400258, 0x10000, 16, 0x0, 1, 0x00004000, [.f 0 16 .rw, .f 16 16 .rw]⟩,
  ⟨"AX_FB_SC_AMP", 0x0040025C, 0x10000, 16, 0x0, 1, 0x640C5388, [.f 0 14 .rw, .f 14 8 .rw, .f 22 8 .rw, .f 30 1 .rw]⟩,
  ⟨"AX_FB_SSI_CFG", 0x00400260, 0x10000, 16, 0x0, 1, 0x00400359, [.r 0 6 .rw 8 48, .r 6 6 .rw 1 32, .f 12 3 .rw, .r 15 3 .rw 0 4, .r 18 4 .rw 0 8, .f 22 1 .rw, .f 24 4 .rw]⟩,
  ⟨"AX_FB_SSI_CLK", 0x00400264, 0x10000, 16, 0x0, 1, 0x001400FA, [.r 0 12 .rw 25 2500, .r 16 8 .rw 1 255, .f 24 8 .rw]⟩,
  ⟨"AX_FB_SSI_CRC", 0x00400268, 0x10000, 16, 0x0, 1, 0x00000000, [.f 0 8 .rw, .f 8 8 .rw, .f 16 1 .rw]⟩,
  ⟨"AX_FB_SSI_CHECK", 0x0040026C, 0x10000, 16, 0x0, 1, 0x00010000, [.f 0 8 .rw, .f 8 24 .rw]⟩,
  ⟨"AX_FB_SSI_RAW_LO", 0x00400270, 0x10000, 16, 0x0, 1, 0x00000000, [.f 0 32 .ro]⟩,
  ⟨"AX_FB_SSI_RAW_HI", 0x00400274, 0x10000, 16, 0x0, 1, 0x00000000, [.f 0 32 .ro]⟩,
  ⟨"AX_FB_HALL_CFG", 0x00400278, 0x10000, 16, 0x0, 1, 0x00001040, [.r 0 3 .rw 0 5, .f 3 1 .rw, .f 4 7 .rw, .f 11 5 .rw]⟩,
  ⟨"AX_FB_STATUS", 0x0040027C, 0x10000, 16, 0x0, 1, 0x00000000, [.f 0 1 .ro, .f 1 1 .ro, .f 2 1 .ro, .f 3 1 .w1c, .f 4 1 .w1c, .f 5 1 .ro, .f 6 1 .ro, .f 7 1 .w1c, .f 8 1 .w1c, .f 9 1 .w1c, .f 10 1 .w1c, .f 11 1 .w1c, .f 12 1 .w1c, .f 13 1 .w1c, .f 14 1 .w1c, .f 15 1 .w1c, .f 16 3 .ro, .f 19 1 .w1c, .f 20 1 .w1c, .f 21 1 .w1c, .f 22 1 .ro, .f 23 1 .ro, .f 24 1 .w1c, .f 25 1 .ro]⟩,
  ⟨"AX_FB_COUNT", 0x00400280, 0x10000, 16, 0x0, 1, 0x00000000, [.f 0 16 .rc, .f 16 16 .rc]⟩]

/-- The registers of region 0x005x_xxxx of the window, part 0. -/
def regTable05_0 : List RegRow := [
  ⟨"AUX_CFG", 0x00500000, 0x4000, 24, 0x0, 1, 0x0000FA00, [.f 0 1 .rw, .r 1 2 .rw 0 2, .f 3 2 .rw, .f 5 1 .rw, .r 6 10 .rw 8 1000, .f 16 2 .rw]⟩,
  ⟨"AUX_CTL", 0x00500004, 0x4000, 24, 0x0, 1, 0x00000000, [.f 0 1 .rw, .f 1 1 .wo]⟩,
  ⟨"AUX_STATUS", 0x00500008, 0x4000, 24, 0x0, 1, 0x00000000, [.r 0 2 .ro 0 2, .f 2 1 .ro, .f 3 1 .ro, .f 4 1 .ro, .f 5 1 .w1c]⟩,
  ⟨"AUX_POS_LO", 0x00500010, 0x4000, 24, 0x0, 1, 0x00000000, [.f 0 32 .ro]⟩,
  ⟨"AUX_POS_HI", 0x00500014, 0x4000, 24, 0x0, 1, 0x00000000, [.f 0 32 .ro]⟩,
  ⟨"AUX_VEL", 0x00500018, 0x4000, 24, 0x0, 1, 0x00000000, [.f 0 32 .ro]⟩,
  ⟨"AUX_ADC_RES", 0x0050001C, 0x4000, 24, 0x0, 1, 0x00000000, [.f 0 12 .ro]⟩,
  ⟨"AUX_ADC_STAMP", 0x00500020, 0x4000, 24, 0x0, 1, 0x00000000, [.f 0 32 .ro]⟩,
  ⟨"AUX_STP_CFG", 0x00500100, 0x4000, 24, 0x0, 1, 0x004800C8, [.r 0 16 .rw 1 65535, .r 16 4 .rw 0 8, .f 20 1 .rw, .f 21 1 .rw, .f 22 1 .rw]⟩,
  ⟨"AUX_STP_CUR", 0x00500104, 0x4000, 24, 0x0, 1, 0x00800400, [.f 0 8 .rw, .f 8 8 .rw, .f 16 8 .rw]⟩,
  ⟨"AUX_STP_CHOP", 0x00500108, 0x4000, 24, 0x0, 1, 0x00000A32, [.f 0 8 .rw, .f 8 8 .rw]⟩,
  ⟨"AUX_STP_SS", 0x0050010C, 0x4000, 24, 0x0, 1, 0x006401F4, [.r 0 14 .rw 1 16000, .f 16 8 .rw]⟩,
  ⟨"AUX_STP_OFS", 0x00500110, 0x4000, 24, 0x0, 1, 0x00000000, [.f 0 8 .rw, .f 8 8 .rw]⟩,
  ⟨"AUX_STP_STATUS", 0x00500114, 0x4000, 24, 0x0, 1, 0x01000000, [.f 0 10 .ro, .f 10 1 .ro, .f 11 1 .ro, .f 12 1 .w1c, .f 13 1 .w1c, .f 14 1 .w1c, .f 16 9 .ro]⟩,
  ⟨"AUX_STP_COUNT", 0x00500118, 0x4000, 24, 0x0, 1, 0x00000000, [.f 0 16 .rc, .f 16 16 .rc]⟩,
  ⟨"AUX_BL_PWM", 0x00500200, 0x4000, 24, 0x0, 1, 0x000030D4, [.r 0 15 .rw 5000 31250]⟩,
  ⟨"AUX_BL_START", 0x00500204, 0x4000, 24, 0x0, 1, 0x00000000, [.f 0 8 .rw, .f 8 8 .rw, .f 16 8 .rw, .f 24 8 .rw]⟩,
  ⟨"AUX_BL_RAMP_V", 0x00500208, 0x4000, 24, 0x0, 1, 0x00000000, [.f 0 16 .rw, .f 16 16 .rw]⟩,
  ⟨"AUX_BL_RAMP_ACC", 0x0050020C, 0x4000, 24, 0x0, 1, 0x00000000, [.f 0 24 .rw]⟩,
  ⟨"AUX_BL_HO", 0x00500210, 0x4000, 24, 0x0, 1, 0x00000436, [.f 0 4 .rw, .f 4 4 .rw, .r 8 7 .rw 1 127, .r 16 3 .rw 0 5]⟩,
  ⟨"AUX_BL_ZC", 0x00500214, 0x4000, 24, 0x0, 1, 0x03640040, [.f 0 8 .rw, .r 8 8 .rw 0 64, .f 16 8 .rw, .f 24 4 .rw]⟩,
  ⟨"AUX_BL_SPD", 0x00500218, 0x4000, 24, 0x0, 1, 0x00000000, [.f 0 16 .rw, .f 16 16 .rw]⟩,
  ⟨"AUX_BL_ILIM", 0x0050021C, 0x4000, 24, 0x0, 1, 0x0FFF0FFF, [.f 0 12 .rw, .f 16 12 .rw]⟩,
  ⟨"AUX_BL_COAST", 0x00500220, 0x4000, 24, 0x0, 1, 0x000001F4, [.f 0 16 .rw]⟩,
  ⟨"AUX_BL_STATUS", 0x00500224, 0x4000, 24, 0x0, 1, 0x00000000, [.r 0 3 .ro 0 4, .f 3 3 .ro, .f 6 1 .ro, .f 7 4 .ro, .f 11 4 .ro, .f 15 1 .w1c, .f 16 1 .w1c, .f 17 1 .w1c, .f 18 1 .ro, .f 19 1 .w1c, .f 20 1 .w1c]⟩,
  ⟨"AUX_BL_T60", 0x00500228, 0x4000, 24, 0x0, 1, 0x00000000, [.f 0 32 .ro]⟩,
  ⟨"AUX_BL_DUTY", 0x0050022C, 0x4000, 24, 0x0, 1, 0x00000000, [.f 0 16 .ro]⟩,
  ⟨"AUX_CL_ADC_STATUS", 0x00560000, 0x100, 4, 0x0, 1, 0x00000000, [.f 0 1 .ro, .f 1 1 .ro, .f 2 12 .ro]⟩,
  ⟨"AUX_CL_ADC_COUNT", 0x00560004, 0x100, 4, 0x0, 1, 0x00000000, [.f 0 16 .rc, .f 16 16 .rc]⟩]

/-- The registers of region 0x006x_xxxx of the window, part 0. -/
def regTable06_0 : List RegRow := [
  ⟨"AE_CTL", 0x00600000, 0x1000, 8, 0x0, 1, 0x00000000, [.f 0 1 .rw, .f 1 1 .rw, .f 2 1 .wo, .f 3 1 .wo, .f 4 1 .wo]⟩,
  ⟨"AE_SCHED", 0x00600004, 0x1000, 8, 0x0, 1, 0x00402000, [.f 0 1 .rw, .f 1 2 .rw, .f 8 8 .rw, .f 16 8 .rw]⟩,
  ⟨"AE_BASE_OFS", 0x00600008, 0x1000, 8, 0x0, 1, 0x00000000, [.f 0 21 .rw]⟩,
  ⟨"AE_PHASE", 0x0060000C, 0x1000, 8, 0x0, 1, 0x00000000, [.f 0 21 .rw]⟩,
  ⟨"AE_COMMIT_STATUS", 0x00600010, 0x1000, 8, 0x0, 1, 0x00000000, [.f 0 2 .ro, .f 2 4 .ro, .f 6 5 .ro, .f 11 5 .ro, .f 16 16 .ro]⟩,
  ⟨"AE_TABLE_INFO", 0x00600014, 0x1000, 8, 0x0, 1, 0x00000000, [.f 0 21 .ro]⟩,
  ⟨"AE_STATUS", 0x00600018, 0x1000, 8, 0x0, 1, 0x00000000, [.f 0 1 .ro, .f 1 1 .ro, .f 2 1 .ro, .f 3 1 .w1c, .f 4 1 .w1c, .f 5 1 .w1c, .f 6 1 .w1c, .f 7 1 .w1c, .f 8 1 .w1c, .f 9 1 .w1c, .f 10 1 .w1c, .f 11 1 .w1c, .f 12 1 .w1c, .f 14 5 .ro, .f 19 2 .ro, .f 21 2 .ro]⟩,
  ⟨"AE_PERIOD_CNT", 0x0060001C, 0x1000, 8, 0x0, 1, 0x00000000, [.r 0 20 .ro 0 720719]⟩,
  ⟨"AE_BG_VEC", 0x00600020, 0x1000, 8, 0x0, 1, 0x00000000, [.f 0 13 .rw, .f 16 13 .rw]⟩,
  ⟨"AE_BG_VEC2", 0x00600024, 0x1000, 8, 0x0, 1, 0x00000000, [.f 0 13 .rw]⟩,
  ⟨"AE_BG_STAT", 0x00600028, 0x1000, 8, 0x0, 1, 0x00000000, [.f 0 13 .ro, .f 16 16 .rc]⟩,
  ⟨"AE_BUDGET", 0x0060002C, 0x1000, 8, 0x0, 1, 0x00000000, [.f 0 20 .rc]⟩,
  ⟨"AE_NBASE", 0x00600030, 0x1000, 8, 0x0, 1, 0x00000000, [.f 0 20 .ro]⟩,
  ⟨"AE_ECC", 0x00600034, 0x1000, 8, 0x0, 1, 0x00000000, [.f 0 16 .rc]⟩,
  ⟨"AE_DM_PAGE", 0x00600038, 0x1000, 8, 0x0, 1, 0x00000000, [.f 0 1 .rw]⟩,
  ⟨"AE_SLOT_TIME", 0x00600100, 0x1000, 8, 0x10, 32, 0x00000000, [.f 0 20 .rw]⟩,
  ⟨"AE_SLOT_CTL", 0x00600104, 0x1000, 8, 0x10, 32, 0x00000000, [.r 0 16 .rw 16 65535, .f 16 1 .rw, .f 17 2 .rw, .f 19 1 .rw, .f 20 4 .rw, .f 24 4 .rw, .f 28 3 .rw]⟩,
  ⟨"AE_SLOT_ENTRY", 0x00600108, 0x1000, 8, 0x10, 32, 0x00000000, [.f 0 13 .rw]⟩,
  ⟨"AE_SLOT_STAT", 0x0060010C, 0x1000, 8, 0x10, 32, 0x00000000, [.f 0 16 .rc, .f 16 16 .rc]⟩,
  ⟨"SUP_CTL", 0x00680200, 0x4000, 16, 0x0, 1, 0x00000023, [.f 0 1 .rw, .f 1 2 .rw, .f 3 4 .rw, .f 7 1 .w1s, .f 8 1 .w1s]⟩,
  ⟨"SUP_STATUS", 0x00680204, 0x4000, 16, 0x0, 1, 0x00000000, [.f 0 1 .ro, .f 1 1 .ro, .f 2 1 .ro, .f 3 1 .ro, .f 4 1 .ro]⟩,
  ⟨"TS_CMD", 0x0068025C, 0x4000, 16, 0x0, 1, 0x00000000, [.f 0 3 .rw, .f 8 8 .rw, .f 16 16 .rw]⟩,
  ⟨"AT_CMD", 0x00680280, 0x4000, 16, 0x0, 1, 0x00000000, [.f 0 3 .rw, .f 8 8 .rw, .f 16 16 .rw]⟩,
  ⟨"TS_STATUS", 0x00680260, 0x4000, 16, 0x0, 1, 0x00000000, [.f 0 3 .ro, .f 3 1 .ro, .f 4 4 .ro, .f 8 8 .ro, .f 16 8 .ro]⟩,
  ⟨"AT_STATUS", 0x00680284, 0x4000, 16, 0x0, 1, 0x00000000, [.f 0 3 .ro, .f 3 1 .ro, .f 4 4 .ro, .f 8 8 .ro, .f 16 8 .ro]⟩]

/-- The registers of region 0x008x_xxxx of the window, part 0. -/
def regTable08_0 : List RegRow := [
  ⟨"LSP_STATUS", 0x00800000, 0x0, 1, 0x0, 1, 0x00000000, [.f 0 4 .ro, .f 4 4 .w1c]⟩,
  ⟨"LSP_DL_DECEL", 0x00800100, 0x10, 4, 0x0, 1, 0x0020FFFF, [.f 0 16 .rw, .f 16 8 .rw]⟩,
  ⟨"LSP_DL_STATUS", 0x00800104, 0x10, 4, 0x0, 1, 0x00000100, [.f 0 9 .ro]⟩,
  ⟨"LSP_CH_CFG", 0x00801000, 0x80, 168, 0x0, 1, 0x0FFF0400, [.r 0 2 .rw 0 2, .f 2 4 .rw, .f 6 1 .rw, .f 7 1 .rw, .r 10 2 .rw 0 2, .f 16 6 .rw, .f 22 6 .rw, .f 28 1 .rw]⟩,
  ⟨"LSP_CH_CMD", 0x00801004, 0x80, 168, 0x0, 1, 0x00000000, [.r 0 4 .wo 0 9, .f 4 1 .wo, .f 5 1 .wo]⟩,
  ⟨"LSP_CH_TARGET_LO", 0x00801008, 0x80, 168, 0x0, 1, 0x00000000, [.f 0 32 .rw]⟩,
  ⟨"LSP_CH_TARGET_HI", 0x0080100C, 0x80, 168, 0x0, 1, 0x00000000, [.f 0 32 .rw]⟩,
  ⟨"LSP_CH_VMAX", 0x00801010, 0x80, 168, 0x0, 1, 0x00000000, [.f 0 32 .rw]⟩,
  ⟨"LSP_CH_AMAX", 0x00801014, 0x80, 168, 0x0, 1, 0x00000000, [.f 0 32 .rw]⟩,
  ⟨"LSP_CH_DMAX", 0x00801018, 0x80, 168, 0x0, 1, 0x00000000, [.f 0 32 .rw]⟩,
  ⟨"LSP_CH_JMAX", 0x0080101C, 0x80, 168, 0x0, 1, 0x00000000, [.f 0 32 .rw]⟩,
  ⟨"LSP_CH_START", 0x00801020, 0x80, 168, 0x0, 1, 0x00000000, [.f 0 32 .rw]⟩,
  ⟨"LSP_CH_STOP_DEC", 0x00801024, 0x80, 168, 0x0, 1, 0x00000A00, [.f 0 32 .rw]⟩,
  ⟨"LSP_CH_STOP_JERK", 0x00801028, 0x80, 168, 0x0, 1, 0x00000000, [.f 0 32 .rw]⟩,
  ⟨"LSP_CH_QS_DEC", 0x0080102C, 0x80, 168, 0x0, 1, 0x00000A00, [.f 0 32 .rw]⟩,
  ⟨"LSP_CH_STATUS", 0x00801030, 0x80, 168, 0x0, 1, 0x00000000, [.f 0 3 .ro, .r 3 3 .ro 0 4, .f 6 1 .ro, .f 7 1 .ro, .f 8 1 .ro, .f 9 1 .ro, .f 10 1 .ro, .f 11 1 .ro, .f 12 1 .ro, .f 13 1 .w1c, .f 14 1 .w1c, .f 15 1 .w1c, .f 16 1 .w1c, .f 17 1 .w1c, .f 18 1 .w1c, .f 19 1 .w1c, .f 20 4 .ro]⟩,
  ⟨"LSP_CH_PREF_LO", 0x00801034, 0x80, 168, 0x0, 1, 0x00000000, [.f 0 32 .ro]⟩,
  ⟨"LSP_CH_PREF_HI", 0x00801038, 0x80, 168, 0x0, 1, 0x00000000, [.f 0 32 .ro]⟩,
  ⟨"LSP_CH_VREF", 0x0080103C, 0x80, 168, 0x0, 1, 0x00000000, [.f 0 32 .ro]⟩,
  ⟨"LSP_CH_AREF", 0x00801040, 0x80, 168, 0x0, 1, 0x00000000, [.f 0 32 .ro]⟩,
  ⟨"LSP_CH_HOME_CFG", 0x00801044, 0x80, 168, 0x0, 1, 0x00003200, [.r 0 4 .rw 0 12, .f 4 3 .rw, .r 8 8 .rw 1 255]⟩,
  ⟨"LSP_CH_HOME_FAST", 0x00801048, 0x80, 168, 0x0, 1, 0x00000000, [.f 0 32 .rw]⟩,
  ⟨"LSP_CH_HOME_CREEP", 0x0080104C, 0x80, 168, 0x0, 1, 0x00000000, [.f 0 32 .rw]⟩,
  ⟨"LSP_CH_HOME_POS_LO", 0x00801050, 0x80, 168, 0x0, 1, 0x00000000, [.f 0 32 .rw]⟩,
  ⟨"LSP_CH_HOME_POS_HI", 0x00801054, 0x80, 168, 0x0, 1, 0x00000000, [.f 0 32 .rw]⟩,
  ⟨"LSP_CH_HOME_TRAVEL", 0x00801058, 0x80, 168, 0x0, 1, 0x00000000, [.f 0 32 .rw]⟩,
  ⟨"LSP_CH_HOME_I", 0x0080105C, 0x80, 168, 0x0, 1, 0x00000000, [.f 0 32 .rw]⟩,
  ⟨"LSP_CH_HOME_ILIM", 0x00801060, 0x80, 168, 0x0, 1, 0x00000000, [.f 0 32 .rw]⟩,
  ⟨"LSP_CH_HOLD_CFG", 0x00801064, 0x80, 168, 0x0, 1, 0x01F44000, [.f 0 16 .rw, .f 16 16 .rw]⟩,
  ⟨"LSP_CH_SS_CFG", 0x00801068, 0x80, 168, 0x0, 1, 0x000A0290, [.f 0 16 .rw, .f 16 16 .rw]⟩,
  ⟨"LSP_CH_TMO", 0x0080106C, 0x80, 168, 0x0, 1, 0x02581388, [.f 0 16 .rw, .f 16 16 .rw]⟩,
  ⟨"LSP_CH_HOLD_WIN", 0x00801070, 0x80, 168, 0x0, 1, 0x00000290, [.f 0 32 .rw]⟩,
  ⟨"LSP_GRP_CMD", 0x00807000, 0x10, 16, 0x0, 1, 0x00000000, [.r 0 3 .wo 0 5, .f 3 1 .wo]⟩,
  ⟨"LSP_GRP_STATUS", 0x00807004, 0x10, 16, 0x0, 1, 0x00000000, [.f 0 8 .ro, .r 8 5 .ro 0 16, .r 13 2 .ro 0 2, .f 15 1 .w1c, .f 16 1 .w1c, .f 17 1 .w1c]⟩,
  ⟨"LSP_GRP_START", 0x00807008, 0x10, 16, 0x0, 1, 0x00000000, [.f 0 32 .rw]⟩,
  ⟨"LSH_CFG", 0x00880000, 0x0, 1, 0x0, 1, 0x00000581, [.r 0 3 .rw 0 5, .f 3 1 .rw, .r 4 4 .rw 0 8, .r 8 4 .rw 1 8, .f 16 8 .rw]⟩,
  ⟨"LSH_DOMAIN", 0x00880004, 0x0, 1, 0x0, 1, 0x00000000, [.f 0 16 .rw]⟩,
  ⟨"LSH_STATUS", 0x00880008, 0x0, 1, 0x0, 1, 0x00000000, [.f 0 8 .ro, .f 8 8 .w1c, .f 16 1 .w1c, .f 17 1 .w1c]⟩,
  ⟨"LSH_SH_CFG", 0x00880100, 0x40, 8, 0x0, 1, 0x00040000, [.f 0 1 .rw, .r 1 2 .rw 0 2, .f 3 8 .rw, .f 11 8 .rw]⟩,
  ⟨"LSH_SH_STATUS", 0x00880104, 0x40, 8, 0x0, 1, 0x00000000, [.f 0 2 .ro, .r 2 4 .ro 0 8, .f 6 8 .ro, .f 14 1 .w1c, .f 15 1 .w1c, .f 16 1 .w1c, .f 17 1 .w1c]⟩]

/-- The registers of region 0x008x_xxxx of the window, part 1. -/
def regTable08_1 : List RegRow := [
  ⟨"LSH_SH_SEQ", 0x00880108, 0x40, 8, 0x0, 1, 0x00000000, [.f 0 32 .ro]⟩,
  ⟨"LSH_SH_POS_LO", 0x0088010C, 0x40, 8, 0x0, 1, 0x00000000, [.f 0 32 .ro]⟩,
  ⟨"LSH_SH_POS_HI", 0x00880110, 0x40, 8, 0x0, 1, 0x00000000, [.f 0 32 .ro]⟩,
  ⟨"LSH_SH_VEL", 0x00880114, 0x40, 8, 0x0, 1, 0x00000000, [.f 0 32 .ro]⟩,
  ⟨"LSH_SH_COUNT", 0x00880118, 0x40, 8, 0x0, 1, 0x00000000, [.f 0 16 .rc, .f 16 16 .rc]⟩,
  ⟨"LSH_SH_PUB", 0x0088011C, 0x40, 8, 0x0, 1, 0x00000000, [.f 0 22 .rw]⟩,
  ⟨"LSH_FOL_CFG", 0x00881000, 0x40, 168, 0x0, 1, 0x00020000, [.f 0 3 .rw, .f 3 1 .rw, .f 4 6 .rw, .f 10 6 .rw, .f 16 1 .rw, .f 17 1 .rw]⟩,
  ⟨"LSH_FOL_CMD", 0x00881004, 0x40, 168, 0x0, 1, 0x00000000, [.r 0 3 .wo 0 4, .f 3 1 .wo]⟩,
  ⟨"LSH_FOL_STATUS", 0x00881008, 0x40, 168, 0x0, 1, 0x00000000, [.f 0 2 .ro, .f 2 1 .ro, .f 3 1 .w1c, .f 4 1 .w1c, .f 5 1 .w1c]⟩,
  ⟨"LSH_FOL_NUM", 0x0088100C, 0x40, 168, 0x0, 1, 0x00000001, [.f 0 32 .rw]⟩,
  ⟨"LSH_FOL_DEN", 0x00881010, 0x40, 168, 0x0, 1, 0x00000001, [.f 0 32 .rw]⟩,
  ⟨"LSH_FOL_M_ORG_LO", 0x00881014, 0x40, 168, 0x0, 1, 0x00000000, [.f 0 32 .rw]⟩,
  ⟨"LSH_FOL_M_ORG_HI", 0x00881018, 0x40, 168, 0x0, 1, 0x00000000, [.f 0 32 .rw]⟩,
  ⟨"LSH_FOL_X_ORG_LO", 0x0088101C, 0x40, 168, 0x0, 1, 0x00000000, [.f 0 32 .rw]⟩,
  ⟨"LSH_FOL_X_ORG_HI", 0x00881020, 0x40, 168, 0x0, 1, 0x00000000, [.f 0 32 .rw]⟩,
  ⟨"LSH_FOL_F_ORG_LO", 0x00881024, 0x40, 168, 0x0, 1, 0x00000000, [.f 0 32 .rw]⟩,
  ⟨"LSH_FOL_F_ORG_HI", 0x00881028, 0x40, 168, 0x0, 1, 0x00000000, [.f 0 32 .rw]⟩,
  ⟨"LSH_FOL_PHASE", 0x0088102C, 0x40, 168, 0x0, 1, 0x00000000, [.f 0 32 .rw]⟩,
  ⟨"LSH_FOL_PH", 0x00881038, 0x40, 168, 0x0, 1, 0x00000000, [.f 0 32 .ro]⟩,
  ⟨"LSH_FOL_PH_RATE", 0x00881030, 0x40, 168, 0x0, 1, 0x00000000, [.f 0 32 .rw]⟩,
  ⟨"LSH_FOL_SYNC_DIST", 0x00881034, 0x40, 168, 0x0, 1, 0x00010000, [.f 0 32 .rw]⟩,
  ⟨"LSH_FOL_REG_CORR", 0x0088103C, 0x40, 168, 0x0, 1, 0x00000000, [.f 0 32 .ro]⟩,
  ⟨"LSH_CAM_HANDLE", 0x00884000, 0x20, 64, 0x0, 1, 0x00000000, [.f 0 32 .rw]⟩,
  ⟨"LSH_CAM_LIFT", 0x00884008, 0x20, 64, 0x0, 1, 0x00000000, [.f 0 32 .rw]⟩,
  ⟨"LSH_CAM_N", 0x00884004, 0x20, 64, 0x0, 1, 0x00000000, [.r 0 17 .rw 4 65536]⟩,
  ⟨"LSH_CAM_CMD", 0x0088400C, 0x20, 64, 0x0, 1, 0x00000000, [.f 0 1 .wo, .f 1 1 .wo]⟩,
  ⟨"LSH_CAM_STATUS", 0x00884010, 0x20, 64, 0x0, 1, 0x00000000, [.f 0 2 .ro, .f 2 3 .ro, .f 8 8 .ro]⟩,
  ⟨"LSH_REG_CFG", 0x00884800, 0x40, 16, 0x0, 1, 0x00000000, [.f 0 1 .rw, .f 1 3 .rw, .f 4 3 .rw, .f 7 8 .rw, .f 15 1 .rw]⟩,
  ⟨"LSH_REG_LEN", 0x00884804, 0x40, 16, 0x0, 1, 0x00010000, [.f 0 32 .rw]⟩,
  ⟨"LSH_REG_WIN_OPEN", 0x00884808, 0x40, 16, 0x0, 1, 0x00000000, [.f 0 32 .rw]⟩,
  ⟨"LSH_REG_WIN_CLOSE", 0x0088480C, 0x40, 16, 0x0, 1, 0x00000000, [.f 0 32 .rw]⟩,
  ⟨"LSH_REG_EXP", 0x00884810, 0x40, 16, 0x0, 1, 0x00000000, [.f 0 32 .rw]⟩,
  ⟨"LSH_REG_STEP", 0x00884818, 0x40, 16, 0x0, 1, 0x00000010, [.f 0 32 .rw]⟩,
  ⟨"LSH_REG_MAX", 0x0088481C, 0x40, 16, 0x0, 1, 0x0000028F, [.f 0 32 .rw]⟩,
  ⟨"LSH_REG_GAIN", 0x00884814, 0x40, 16, 0x0, 1, 0x00008000, [.r 0 17 .rw 0 65536]⟩,
  ⟨"LSH_REG_TMO", 0x00884820, 0x40, 16, 0x0, 1, 0x000003E8, [.f 0 16 .rw]⟩,
  ⟨"LSH_REG_VMIN", 0x00884824, 0x40, 16, 0x0, 1, 0x00000290, [.f 0 32 .rw]⟩,
  ⟨"LSH_REG_STATUS", 0x00884828, 0x40, 16, 0x0, 1, 0x00000000, [.f 0 1 .ro, .f 1 3 .ro, .f 4 1 .w1c, .f 16 16 .rc]⟩,
  ⟨"LSH_REG_ERR", 0x0088482C, 0x40, 16, 0x0, 1, 0x00000000, [.f 0 32 .ro]⟩,
  ⟨"LSH_REG_PEND", 0x00884838, 0x40, 16, 0x0, 1, 0x00000000, [.f 0 32 .ro]⟩]

/-- The registers of region 0x008x_xxxx of the window, part 2. -/
def regTable08_2 : List RegRow := [
  ⟨"LSH_REG_MLAT_LO", 0x00884830, 0x40, 16, 0x0, 1, 0x00000000, [.f 0 32 .ro]⟩,
  ⟨"LSH_REG_MLAT_HI", 0x00884834, 0x40, 16, 0x0, 1, 0x00000000, [.f 0 32 .ro]⟩,
  ⟨"LSH_CSW_CFG", 0x00885000, 0x20, 32, 0x0, 1, 0x00000000, [.f 0 1 .rw, .f 1 3 .rw, .r 4 2 .rw 0 2, .f 8 8 .rw, .f 16 4 .rw]⟩,
  ⟨"LSH_CSW_LEN", 0x00885004, 0x20, 32, 0x0, 1, 0x00010000, [.f 0 32 .rw]⟩,
  ⟨"LSH_CSW_ON", 0x00885008, 0x20, 32, 0x0, 1, 0x00000000, [.f 0 32 .rw]⟩,
  ⟨"LSH_CSW_OFF", 0x0088500C, 0x20, 32, 0x0, 1, 0x00000000, [.f 0 32 .rw]⟩,
  ⟨"LSH_CSW_HYST", 0x00885010, 0x20, 32, 0x0, 1, 0x00000000, [.f 0 32 .rw]⟩,
  ⟨"LSH_CSW_LEAD", 0x00885014, 0x20, 32, 0x0, 1, 0x00000000, [.f 0 22 .rw]⟩,
  ⟨"LSH_CSW_STATUS", 0x00885018, 0x20, 32, 0x0, 1, 0x00000000, [.f 0 1 .ro, .f 1 1 .w1c, .f 2 1 .w1c]⟩,
  ⟨"LSH_JOIN_CFG", 0x00880010, 0x0, 1, 0x0, 1, 0x00002800, [.f 0 1 .rw, .f 1 4 .rw, .f 5 5 .rw, .r 10 10 .rw 0 100]⟩,
  ⟨"LSH_JOIN_STATUS", 0x00880014, 0x0, 1, 0x0, 1, 0x00000000, [.f 0 1 .ro, .f 1 1 .ro, .f 2 1 .w1c, .f 3 1 .w1c, .f 4 1 .w1c, .f 5 1 .w1c, .f 6 1 .w1c, .r 16 9 .ro 0 256]⟩,
  ⟨"LSH_MEMBERS", 0x00880020, 0x4, 8, 0x0, 1, 0x00000000, [.f 0 32 .rw]⟩,
  ⟨"LSH_PRESENT", 0x00880040, 0x4, 8, 0x0, 1, 0x00000000, [.f 0 32 .ro]⟩,
  ⟨"LSH_JOIN_TIME", 0x00880060, 0x0, 1, 0x0, 1, 0x00000000, [.f 0 32 .ro]⟩,
  ⟨"LSP_EN_REQ0", 0x00800020, 0x0, 1, 0x0, 1, 0x00000000, [.r 0 32 .w1s 0 31]⟩,
  ⟨"LSP_EN_REQ1", 0x00800024, 0x0, 1, 0x0, 1, 0x00000000, [.r 0 32 .w1s 0 31]⟩,
  ⟨"LSP_EN_CFG", 0x00800028, 0x0, 1, 0x0, 1, 0x00000002, [.f 0 8 .rw]⟩,
  ⟨"LSP_EN_STATUS", 0x0080002C, 0x0, 1, 0x0, 1, 0x00000000, [.f 0 4 .ro, .f 4 1 .w1c, .f 5 1 .w1c, .r 8 6 .ro 0 39]⟩]

/-- The registers of region 0x00Ax_xxxx of the window, part 0. -/
def regTable0A_0 : List RegRow := [
  ⟨"CS_CFG", 0x00A00000, 0x100, 4, 0x0, 1, 0x00000000, [.f 0 1 .rw, .r 1 2 .rw 0 2, .f 3 4 .rw, .f 7 8 .rw, .r 15 3 .rw 0 4, .f 18 1 .rw, .r 19 5 .rw 0 27]⟩,
  ⟨"CS_BUF_BASE", 0x00A00004, 0x100, 4, 0x0, 1, 0x00000000, [.f 0 17 .rw]⟩,
  ⟨"CS_BUF_SIZE", 0x00A00008, 0x100, 4, 0x0, 1, 0x00000001, [.f 0 17 .rw]⟩,
  ⟨"CS_POST", 0x00A0000C, 0x100, 4, 0x0, 1, 0x00000000, [.f 0 32 .rw]⟩,
  ⟨"CS_PRE_MIN", 0x00A00010, 0x100, 4, 0x0, 1, 0x00000000, [.f 0 32 .rw]⟩,
  ⟨"CS_CMD", 0x00A00014, 0x100, 4, 0x0, 1, 0x00000000, [.f 0 1 .wo, .f 1 1 .wo, .f 2 1 .wo, .f 3 1 .wo]⟩,
  ⟨"CS_STATUS", 0x00A00018, 0x100, 4, 0x0, 1, 0x00000000, [.f 0 3 .ro, .f 3 1 .ro, .f 4 1 .ro, .f 5 1 .ro, .f 6 1 .w1c, .f 7 1 .w1c, .f 8 1 .w1c, .f 9 3 .ro, .f 12 2 .ro]⟩,
  ⟨"CS_DEPTH", 0x00A0001C, 0x100, 4, 0x0, 1, 0x00000000, [.f 0 32 .ro]⟩,
  ⟨"CS_ROWS", 0x00A00020, 0x100, 4, 0x0, 1, 0x00000000, [.f 0 32 .ro]⟩,
  ⟨"CS_TRIG", 0x00A00024, 0x100, 4, 0x0, 1, 0x0000F000, [.f 0 9 .ro, .r 12 4 .ro 0 8]⟩,
  ⟨"CS_TRIG_STAMP", 0x00A00028, 0x100, 4, 0x0, 1, 0x00000000, [.f 0 32 .ro]⟩,
  ⟨"CS_COUNT", 0x00A0002C, 0x100, 4, 0x0, 1, 0x00000000, [.f 0 16 .rc, .f 16 16 .rc]⟩,
  ⟨"CS_OUT_HANDLE", 0x00A00030, 0x100, 4, 0x0, 1, 0x00000000, [.f 0 32 .rw]⟩,
  ⟨"CS_OUT_OFS", 0x00A00034, 0x100, 4, 0x0, 1, 0x00000000, [.f 0 32 .rw]⟩,
  ⟨"CS_UNLOAD_CRC", 0x00A00038, 0x100, 4, 0x0, 1, 0x00000000, [.f 0 32 .ro]⟩,
  ⟨"CS_TRG_CFG", 0x00A00040, 0x100, 4, 0x8, 8, 0x00000000, [.f 0 3 .rw, .f 3 6 .rw, .f 9 11 .rw]⟩,
  ⟨"CS_TRG_LEVEL", 0x00A00044, 0x100, 4, 0x8, 8, 0x00000000, [.f 0 32 .rw]⟩,
  ⟨"CAP_BIND", 0x00A01000, 0x10, 64, 0x0, 1, 0x00000000, [.f 0 1 .rw, .f 1 2 .rw, .f 3 4 .rw, .f 7 8 .rw, .f 15 12 .rw]⟩,
  ⟨"CAP_ENV", 0x00A01004, 0x10, 64, 0x0, 1, 0x00000000, [.f 0 1 .rw, .f 1 1 .rw, .f 2 3 .rw, .r 5 13 .rw 2 4096, .f 18 8 .rw, .f 26 1 .wo]⟩,
  ⟨"CAP_ENV_HANDLE", 0x00A01008, 0x10, 64, 0x0, 1, 0x00000000, [.f 0 32 .rw]⟩,
  ⟨"CAP_STATUS", 0x00A0100C, 0x10, 64, 0x0, 1, 0x00000000, [.f 0 2 .ro, .f 2 3 .ro, .f 5 1 .w1c, .f 6 1 .w1c, .f 7 1 .w1c]⟩]

/-- The registers of region 0x00Bx_xxxx of the window, part 0. -/
def regTable0B_0 : List RegRow := [
  ⟨"HIF_OD_CTL", 0x00B00000, 0x1000, 4, 0x0, 1, 0x00000000, [.f 0 1 .rw]⟩,
  ⟨"HIF_OD_STATUS", 0x00B00004, 0x1000, 4, 0x0, 1, 0x00000000, [.f 0 2 .ro, .f 2 1 .ro, .f 3 1 .w1c, .f 4 8 .ro, .f 12 1 .ro]⟩,
  ⟨"HIF_OD_DB_LO", 0x00B00008, 0x1000, 4, 0x0, 1, 0x00000000, [.f 0 32 .rw]⟩,
  ⟨"HIF_OD_DB_HI", 0x00B0000C, 0x1000, 4, 0x0, 1, 0x00000000, [.f 0 32 .rw]⟩,
  ⟨"HIF_OD_POLL", 0x00B00010, 0x1000, 4, 0x0, 1, 0x00000190, [.r 0 12 .rw 8 4000, .f 12 12 .rw]⟩,
  ⟨"HIF_OD_HB", 0x00B00014, 0x1000, 4, 0x0, 1, 0x0064000A, [.r 0 10 .rw 0 1000, .r 16 10 .rw 10 1000]⟩,
  ⟨"HIF_OD_LOST_CPL", 0x00B00018, 0x1000, 4, 0x0, 1, 0x00000000, [.f 0 16 .rc]⟩,
  ⟨"HIF_OD_SQ_BASE_LO", 0x00B00100, 0x1000, 4, 0x20, 8, 0x00000000, [.f 0 32 .rw]⟩,
  ⟨"HIF_OD_SQ_BASE_HI", 0x00B00104, 0x1000, 4, 0x20, 8, 0x00000000, [.f 0 32 .rw]⟩,
  ⟨"HIF_OD_CQ_BASE_LO", 0x00B00200, 0x1000, 4, 0x20, 8, 0x00000000, [.f 0 32 .rw]⟩,
  ⟨"HIF_OD_CQ_BASE_HI", 0x00B00204, 0x1000, 4, 0x20, 8, 0x00000000, [.f 0 32 .rw]⟩,
  ⟨"HIF_OD_EVQ_BASE_LO", 0x00B00300, 0x1000, 4, 0x0, 1, 0x00000000, [.f 0 32 .rw]⟩,
  ⟨"HIF_OD_EVQ_BASE_HI", 0x00B00304, 0x1000, 4, 0x0, 1, 0x00000000, [.f 0 32 .rw]⟩,
  ⟨"HIF_OD_SQ_CFG", 0x00B00108, 0x1000, 4, 0x20, 8, 0x00000404, [.r 0 5 .rw 4 16, .f 5 1 .rw, .f 6 1 .rw, .f 7 3 .rw, .r 10 7 .rw 0 64]⟩,
  ⟨"HIF_OD_SQ_STATUS", 0x00B0010C, 0x1000, 4, 0x20, 8, 0x00000000, [.f 0 16 .ro, .f 16 1 .ro, .f 17 1 .w1c]⟩,
  ⟨"HIF_OD_CQ_CFG", 0x00B00208, 0x1000, 4, 0x20, 8, 0x00000004, [.r 0 5 .rw 4 16, .f 5 1 .rw, .f 6 6 .rw, .f 12 10 .rw]⟩,
  ⟨"HIF_OD_EVQ_CFG", 0x00B00308, 0x1000, 4, 0x0, 1, 0x00000004, [.r 0 5 .rw 4 16, .f 5 1 .rw, .f 6 6 .rw, .f 12 10 .rw]⟩,
  ⟨"HIF_OD_CQ_STATUS", 0x00B0020C, 0x1000, 4, 0x20, 8, 0x00000000, [.f 0 16 .ro, .f 16 1 .ro, .f 17 1 .ro, .f 18 2 .ro, .f 20 1 .ro]⟩,
  ⟨"HIF_OD_EVQ_STATUS", 0x00B0030C, 0x1000, 4, 0x0, 1, 0x00000000, [.f 0 16 .ro, .f 16 1 .ro, .f 17 1 .ro, .f 18 2 .ro, .f 20 1 .ro]⟩,
  ⟨"HIF_OD_CQ_SEQ", 0x00B00210, 0x1000, 4, 0x20, 8, 0x00000000, [.f 0 32 .ro]⟩,
  ⟨"HIF_OD_EVQ_SEQ", 0x00B00310, 0x1000, 4, 0x0, 1, 0x00000000, [.f 0 32 .ro]⟩,
  ⟨"HIF_TORN", 0x00B08000, 0x0, 1, 0x0, 1, 0x00000000, [.f 0 4 .w1c, .f 4 4 .w1c, .f 8 1 .w1c]⟩,
  ⟨"HIF_LINK", 0x00B08004, 0x0, 1, 0x0, 1, 0x00000000, [.f 0 2 .ro, .f 2 3 .ro, .f 5 1 .ro]⟩,
  ⟨"HIF_CLASS_B_WEIGHT", 0x00B08008, 0x0, 1, 0x0, 1, 0x00001111, [.r 0 16 .ro 1 8]⟩]

/-- The registers of region 0x00Cx_xxxx of the window, part 0. -/
def regTable0C_0 : List RegRow := [
  ⟨"MEM_CTL", 0x00C00000, 0x0, 1, 0x0, 1, 0x00000002, [.f 0 1 .rw, .f 1 1 .rw]⟩,
  ⟨"MEM_LAYOUT", 0x00C00004, 0x0, 1, 0x0, 1, 0x00000010, [.r 0 6 .rw 0 32]⟩,
  ⟨"MEM_STATUS", 0x00C00008, 0x0, 1, 0x0, 1, 0x00000000, [.f 0 1 .w1c, .f 1 1 .w1c, .f 2 1 .w1c, .f 3 1 .w1c, .f 4 1 .ro]⟩,
  ⟨"MEM_ECC_CNT", 0x00C0000C, 0x0, 1, 0x0, 1, 0x00000000, [.f 0 16 .rc, .f 16 16 .rc]⟩,
  ⟨"MEM_SCRUB", 0x00C00010, 0x0, 1, 0x0, 1, 0x00000018, [.f 0 8 .rw]⟩,
  ⟨"MEM_STAGE", 0x00C00020, 0x0, 1, 0x0, 1, 0x0000007C, [.r 0 3 .rw 0 4, .f 3 4 .ro]⟩,
  ⟨"POOL_C_CFG", 0x00C00100, 0x0, 1, 0x0, 1, 0x00001000, [.f 0 22 .rw]⟩,
  ⟨"POOL_C1_CFG", 0x00C00110, 0x0, 1, 0x0, 1, 0x00000400, [.f 0 22 .rw]⟩,
  ⟨"POOL_C2_CFG", 0x00C00120, 0x0, 1, 0x0, 1, 0x000000F0, [.f 0 22 .rw]⟩,
  ⟨"POOL_C3_CFG", 0x00C00130, 0x0, 1, 0x0, 1, 0x00000010, [.f 0 22 .rw]⟩,
  ⟨"POOL_C_STATUS", 0x00C00104, 0x10, 4, 0x0, 1, 0x00000000, [.f 0 22 .ro]⟩,
  ⟨"POOL_OD_QUOTA01", 0x00C00200, 0x10, 4, 0x0, 1, 0x00000000, [.f 0 16 .ro, .f 16 16 .ro]⟩,
  ⟨"POOL_OD_QUOTA23", 0x00C00204, 0x10, 4, 0x0, 1, 0x00000000, [.f 0 16 .ro, .f 16 16 .ro]⟩,
  ⟨"POOL_OD_USE01", 0x00C00208, 0x10, 4, 0x0, 1, 0x00000000, [.f 0 16 .ro, .f 16 16 .ro]⟩,
  ⟨"POOL_OD_USE23", 0x00C0020C, 0x10, 4, 0x0, 1, 0x00000000, [.f 0 16 .ro, .f 16 16 .ro]⟩,
  ⟨"POOL_LAST_REFUSED", 0x00C00300, 0x0, 1, 0x0, 1, 0x00000000, [.f 0 32 .ro]⟩,
  ⟨"POOL_LAST_INFO", 0x00C00304, 0x0, 1, 0x0, 1, 0x00000000, [.f 0 4 .ro, .r 4 3 .ro 0 3, .f 7 3 .ro]⟩,
  ⟨"DMA_SRC_LO", 0x00C80000, 0x40, 32, 0x0, 1, 0x00000000, [.f 0 32 .rw]⟩,
  ⟨"DMA_SRC_HI", 0x00C80004, 0x40, 32, 0x0, 1, 0x00000000, [.f 0 32 .rw]⟩,
  ⟨"DMA_DST_LO", 0x00C80008, 0x40, 32, 0x0, 1, 0x00000000, [.f 0 32 .rw]⟩,
  ⟨"DMA_DST_HI", 0x00C8000C, 0x40, 32, 0x0, 1, 0x00000000, [.f 0 32 .rw]⟩,
  ⟨"DMA_COUNT", 0x00C80010, 0x40, 32, 0x0, 1, 0x00000000, [.f 0 32 .rw]⟩,
  ⟨"DMA_CTL", 0x00C80014, 0x40, 32, 0x0, 1, 0x00000000, [.f 0 1 .wo, .f 1 1 .wo, .f 2 1 .wo, .r 3 2 .rw 0 2, .f 5 2 .rw, .r 7 2 .rw 0 2, .f 9 1 .rw, .f 10 1 .rw]⟩,
  ⟨"DMA_STATUS", 0x00C80018, 0x40, 32, 0x0, 1, 0x00000000, [.f 0 1 .ro, .f 1 1 .w1c, .f 2 1 .ro, .f 3 4 .ro, .f 7 1 .ro, .f 8 1 .w1c, .f 9 3 .ro]⟩,
  ⟨"DMA_DONE_BYTES", 0x00C8001C, 0x40, 32, 0x0, 1, 0x00000000, [.f 0 32 .ro]⟩,
  ⟨"DMA_CSUM", 0x00C80020, 0x40, 32, 0x0, 1, 0x00000000, [.f 0 32 .ro]⟩,
  ⟨"DMA_ERR_ADDR_LO", 0x00C80024, 0x40, 32, 0x0, 1, 0x00000000, [.f 0 32 .ro]⟩,
  ⟨"DMA_ERR_ADDR_HI", 0x00C80028, 0x40, 32, 0x0, 1, 0x00000000, [.f 0 32 .ro]⟩]

/-- The registers of region 0x00Dx_xxxx of the window, part 0. -/
def regTable0D_0 : List RegRow := [
  ⟨"ETH_CFG", 0x00D00000, 0x1000, 2, 0x0, 1, 0x0003E810, [.f 0 1 .rw, .r 1 2 .rw 0 2, .f 3 1 .rw, .f 4 1 .rw, .f 5 1 .rw, .r 8 16 .rw 1 10000]⟩,
  ⟨"ETH_STATUS", 0x00D00004, 0x1000, 2, 0x0, 1, 0x00000000, [.f 0 1 .ro, .f 1 2 .ro, .f 3 2 .ro, .f 5 1 .w1c, .f 6 1 .w1c, .f 7 1 .ro]⟩,
  ⟨"ETH_COUNT_A", 0x00D00008, 0x1000, 2, 0x0, 1, 0x00000000, [.f 0 16 .rc, .f 16 16 .rc]⟩,
  ⟨"ETH_COUNT_B", 0x00D0000C, 0x1000, 2, 0x0, 1, 0x00000000, [.f 0 16 .rc, .f 16 16 .rc]⟩,
  ⟨"ETH_SLOT_CFG", 0x00D00400, 0x1000, 2, 0x10, 32, 0x000E1000, [.r 0 2 .rw 0 2, .f 2 3 .rw, .f 5 7 .rw, .r 12 5 .rw 0 16, .r 17 3 .ro 0 3]⟩,
  ⟨"ETH_SLOT_BUF", 0x00D00404, 0x1000, 2, 0x10, 32, 0x00000000, [.f 0 16 .rw, .r 16 11 .rw 14 1996]⟩,
  ⟨"ETH_SLOT_STATUS", 0x00D00408, 0x1000, 2, 0x10, 32, 0x00000000, [.f 0 1 .w1c, .f 1 1 .w1c, .f 16 16 .ro]⟩,
  ⟨"ETH_SLOT_STAMP", 0x00D0040C, 0x1000, 2, 0x10, 32, 0x00000000, [.f 0 32 .ro]⟩,
  ⟨"ETH_SW_CFG", 0x00D08000, 0x0, 1, 0x0, 1, 0x0000012C, [.f 0 16 .rw, .f 16 1 .wo]⟩,
  ⟨"ETH_MDIO", 0x00D08004, 0x0, 1, 0x0, 1, 0x00000000, [.f 0 16 .rw, .f 16 5 .rw, .f 21 5 .rw, .f 26 2 .rw, .f 28 1 .ro]⟩,
  ⟨"ETH_LANYO", 0x00D08008, 0x0, 1, 0x0, 1, 0x000088B5, [.f 0 16 .rw, .f 16 12 .rw]⟩,
  ⟨"ETH_LANYO_MAC_LO", 0x00D0800C, 0x0, 1, 0x0, 1, 0x594C0003, [.f 0 32 .rw]⟩,
  ⟨"ETH_LANYO_MAC_HI", 0x00D08010, 0x0, 1, 0x0, 1, 0x00000000, [.f 0 32 .rw]⟩,
  ⟨"ETH_TC_MAP", 0x00D08014, 0x0, 1, 0x0, 1, 0x80924688, [.f 0 24 .rw, .f 24 8 .rw]⟩,
  ⟨"TSN_CTL", 0x00D40000, 0x2000, 3, 0x0, 1, 0x00000000, [.f 0 1 .wo, .r 1 9 .rw 1 256]⟩,
  ⟨"TSN_BASE_NS", 0x00D40004, 0x2000, 3, 0x0, 1, 0x00000000, [.f 0 32 .rw]⟩,
  ⟨"TSN_BASE_SEC_LO", 0x00D40008, 0x2000, 3, 0x0, 1, 0x00000000, [.f 0 32 .rw]⟩,
  ⟨"TSN_BASE_SEC_HI", 0x00D4000C, 0x2000, 3, 0x0, 1, 0x00000000, [.f 0 32 .rw]⟩,
  ⟨"TSN_CYCLE", 0x00D40010, 0x2000, 3, 0x0, 1, 0x00000000, [.f 0 32 .rw]⟩,
  ⟨"TSN_CYCLE_EXT", 0x00D40014, 0x2000, 3, 0x0, 1, 0x00000000, [.f 0 32 .rw]⟩,
  ⟨"TSN_STATUS", 0x00D40018, 0x2000, 3, 0x0, 1, 0x00000000, [.f 0 1 .ro, .f 1 1 .ro, .f 2 1 .w1c, .f 3 1 .w1c, .f 4 9 .ro]⟩,
  ⟨"TSN_COUNT", 0x00D4001C, 0x2000, 3, 0x0, 1, 0x00000000, [.f 0 16 .rc]⟩,
  ⟨"TSN_PREEMPT", 0x00D40020, 0x2000, 3, 0x0, 1, 0x0000021F, [.r 0 8 .rw 0 31, .f 8 1 .rw, .f 9 1 .rw, .f 10 2 .rw]⟩,
  ⟨"TSN_ADMIN_CTL", 0x00D40800, 0x2000, 3, 0x8, 256, 0x00000000, [.f 0 8 .rw, .r 8 2 .rw 0 2]⟩,
  ⟨"TSN_ADMIN_INTERVAL", 0x00D40804, 0x2000, 3, 0x8, 256, 0x00000000, [.f 0 32 .rw]⟩,
  ⟨"MSEC_CFG", 0x00D60000, 0x100, 2, 0x0, 1, 0x00008000, [.f 0 1 .rw, .f 1 1 .rw, .f 8 8 .rw, .f 16 16 .rw]⟩,
  ⟨"MSEC_SAK", 0x00D60010, 0x100, 2, 0x4, 8, 0x00000000, [.f 0 32 .wo]⟩,
  ⟨"MSEC_SA_CTL", 0x00D60030, 0x100, 2, 0x0, 1, 0x00000000, [.f 0 2 .rw, .f 2 3 .rw, .f 5 1 .rw, .f 6 1 .wo]⟩,
  ⟨"MSEC_STRANGER", 0x00D60034, 0x100, 2, 0x0, 1, 0x00000000, [.f 0 24 .rc, .f 24 3 .ro]⟩,
  ⟨"MSEC_STRANGER_SRC_LO", 0x00D60038, 0x100, 2, 0x0, 1, 0x00000000, [.f 0 32 .ro]⟩,
  ⟨"MSEC_STRANGER_SRC_HI", 0x00D6003C, 0x100, 2, 0x0, 1, 0x00000000, [.f 0 32 .ro]⟩,
  ⟨"TSN_OPER_CTL", 0x00D41000, 0x2000, 3, 0x8, 256, 0x00000000, [.f 0 8 .ro, .r 8 2 .ro 0 2]⟩,
  ⟨"TSN_OPER_INTERVAL", 0x00D41004, 0x2000, 3, 0x8, 256, 0x00000000, [.f 0 32 .ro]⟩]

/-- The registers of region 0x00Ex_xxxx of the window, part 0. -/
def regTable0E_0 : List RegRow := [
  ⟨"CAN_CTL", 0x00E00000, 0x1000, 4, 0x0, 1, 0x00000001, [.f 0 1 .rw, .f 1 1 .rw, .r 2 2 .rw 0 2, .f 4 1 .rw, .f 5 4 .rw, .f 9 1 .rw]⟩,
  ⟨"CAN_ARBIT", 0x00E00004, 0x1000, 4, 0x0, 1, 0x001F1F7E, [.f 0 8 .rw, .f 8 7 .rw, .f 15 1 .rw, .f 16 7 .rw, .f 23 5 .rw]⟩,
  ⟨"CAN_DATABIT", 0x00E00008, 0x1000, 4, 0x0, 1, 0x02081DDE, [.f 0 6 .rw, .f 6 4 .rw, .f 10 4 .rw, .f 14 5 .rw, .f 19 1 .rw, .f 20 7 .rw]⟩,
  ⟨"CAN_STATUS", 0x00E0000C, 0x1000, 4, 0x0, 1, 0x00000000, [.f 0 2 .ro, .f 2 1 .w1c, .f 3 1 .w1c, .f 4 1 .ro, .f 5 1 .w1c, .f 6 1 .w1c, .f 7 1 .w1c]⟩,
  ⟨"CAN_ERRCNT", 0x00E00010, 0x1000, 4, 0x0, 1, 0x00000000, [.f 0 8 .ro, .f 8 7 .ro, .f 15 1 .ro, .r 16 3 .ro 0 6]⟩,
  ⟨"CAN_FLT_CFG", 0x00E00014, 0x1000, 4, 0x0, 1, 0x00000002, [.r 0 2 .rw 0 2]⟩,
  ⟨"CAN_TXB_REQ", 0x00E00020, 0x1000, 4, 0x0, 1, 0x00000000, [.f 0 32 .w1s]⟩,
  ⟨"CAN_TXB_CANCEL", 0x00E00024, 0x1000, 4, 0x0, 1, 0x00000000, [.f 0 32 .w1s]⟩,
  ⟨"CAN_TXB_DONE", 0x00E00028, 0x1000, 4, 0x0, 1, 0x00000000, [.f 0 32 .w1c]⟩,
  ⟨"CAN_TXB_ABANDON", 0x00E0002C, 0x1000, 4, 0x0, 1, 0x00000000, [.f 0 32 .w1c]⟩,
  ⟨"CAN_TT_CFG", 0x00E00030, 0x1000, 4, 0x0, 1, 0x00000000, [.f 0 5 .rw, .r 5 3 .rw 0 6, .f 8 1 .rw, .f 9 11 .rw, .f 20 4 .rw]⟩,
  ⟨"CAN_TT_CYCLE", 0x00E00034, 0x1000, 4, 0x0, 1, 0x000F4240, [.f 0 30 .rw]⟩,
  ⟨"CAN_TT_STATUS", 0x00E00038, 0x1000, 4, 0x0, 1, 0x00000000, [.f 0 6 .ro, .f 6 5 .ro, .f 11 1 .ro, .f 12 1 .w1c, .f 16 16 .rc]⟩,
  ⟨"CAN_RXQ_CFG", 0x00E00040, 0x1000, 4, 0x10, 2, 0x00000A00, [.f 0 2 .rw, .f 2 1 .rw, .f 8 8 .rw]⟩,
  ⟨"CAN_RXQ_STATUS", 0x00E00044, 0x1000, 4, 0x10, 2, 0x00000000, [.f 0 6 .ro, .f 8 6 .ro, .r 16 7 .ro 0 64, .f 23 1 .ro, .f 24 6 .ro]⟩,
  ⟨"CAN_RXQ_ACK", 0x00E00048, 0x1000, 4, 0x10, 2, 0x00000000, [.f 0 7 .wo]⟩,
  ⟨"CAN_COUNT", 0x00E00060, 0x1000, 4, 0x0, 1, 0x00000000, [.f 0 16 .rc, .f 16 16 .rc]⟩]

/-- The registers of region 0x00Fx_xxxx of the window, part 0. -/
def regTable0F_0 : List RegRow := [
  ⟨"FIO_STATUS", 0x00F00000, 0x0, 1, 0x0, 1, 0x00000000, [.f 0 1 .ro, .f 1 1 .w1c, .f 2 1 .ro, .f 3 1 .w1c]⟩,
  ⟨"FIO_VFIELD", 0x00F00004, 0x0, 1, 0x0, 1, 0x00000000, [.f 0 12 .ro]⟩,
  ⟨"FIO_FI_LEVEL", 0x00F00010, 0x0, 1, 0x0, 1, 0x00000000, [.f 0 32 .ro]⟩,
  ⟨"FIO_FI_VALID", 0x00F00014, 0x0, 1, 0x0, 1, 0x00000000, [.f 0 32 .ro]⟩,
  ⟨"FIO_FI_WB", 0x00F00018, 0x0, 1, 0x0, 1, 0x00000000, [.f 0 32 .ro]⟩,
  ⟨"FIO_FX_IN", 0x00F0001C, 0x0, 1, 0x0, 1, 0x00000000, [.f 0 8 .ro, .f 8 8 .ro, .f 16 8 .ro]⟩,
  ⟨"FIO_OUT", 0x00F00020, 0x0, 1, 0x0, 1, 0x00000000, [.f 0 24 .rw, .f 24 8 .rw]⟩,
  ⟨"FIO_OUT_SET", 0x00F00024, 0x0, 1, 0x0, 1, 0x00000000, [.f 0 24 .w1s, .f 24 8 .w1s]⟩,
  ⟨"FIO_OUT_CLR", 0x00F00028, 0x0, 1, 0x0, 1, 0x00000000, [.f 0 24 .w1c, .f 24 8 .w1c]⟩,
  ⟨"FIO_OUT_RB", 0x00F0002C, 0x0, 1, 0x0, 1, 0x00000000, [.f 0 32 .ro]⟩,
  ⟨"FIO_OUT_FAULT", 0x00F00030, 0x0, 1, 0x0, 1, 0x00000000, [.f 0 32 .ro]⟩,
  ⟨"FIO_OUT_LOFF", 0x00F00034, 0x0, 1, 0x0, 1, 0x00000000, [.f 0 32 .ro]⟩,
  ⟨"FIO_OUT_FCLR", 0x00F00038, 0x0, 1, 0x0, 1, 0x00000000, [.f 0 32 .wo]⟩,
  ⟨"FIO_SAFE_LEVEL", 0x00F00040, 0x0, 1, 0x0, 1, 0x00000000, [.f 0 16 .ro, .f 16 1 .ro]⟩,
  ⟨"FIO_BS_LEVEL", 0x00F00044, 0x0, 1, 0x0, 1, 0x00000000, [.f 0 16 .ro]⟩,
  ⟨"FIO_CH_CFG", 0x00F00100, 0x8, 64, 0x0, 1, 0x0005080A, [.r 0 10 .rw 0 1000, .f 10 1 .rw, .f 11 1 .rw, .f 12 8 .rw, .f 20 8 .rw, .r 28 2 .rw 0 2]⟩,
  ⟨"FIO_BS_CFG", 0x00F00300, 0x8, 16, 0x0, 1, 0x0005080A, [.r 0 10 .rws 0 1000, .f 10 1 .rws, .f 11 1 .rw, .f 12 8 .rws, .f 20 8 .rw, .r 28 2 .rw 0 2]⟩,
  ⟨"FIO_CH_STATUS", 0x00F00104, 0x8, 80, 0x0, 1, 0x00000000, [.f 0 1 .ro, .f 1 1 .ro, .f 2 1 .ro, .f 3 1 .w1c, .f 4 1 .ro, .f 5 2 .ro, .f 7 1 .ro, .f 8 8 .ro, .f 16 16 .rc]⟩]

/-- The registers of region 0x010x_xxxx of the window, part 0. -/
def regTable10_0 : List RegRow := [
  ⟨"EVT_ROUTE", 0x01000000, 0x4, 2048, 0x0, 1, 0x00000003, [.f 0 1 .rw, .f 1 2 .rw, .f 3 6 .rw, .f 9 1 .rw, .f 10 1 .rw, .f 11 1 .rw, .f 12 3 .rw, .f 15 1 .rw, .f 16 1 .ro, .f 17 2 .ro, .r 19 3 .ro 0 3]⟩,
  ⟨"EVT_OD_CFG", 0x01002000, 0x20, 4, 0x0, 1, 0x00000180, [.f 0 10 .rw]⟩,
  ⟨"EVT_OD_STATUS", 0x01002004, 0x20, 4, 0x0, 1, 0x00000000, [.r 0 10 .ro 0 512, .f 10 1 .ro, .f 11 1 .w1c]⟩,
  ⟨"EVT_OD_COUNT", 0x01002008, 0x20, 4, 0x0, 1, 0x00000000, [.f 0 16 .rc, .f 16 16 .rc]⟩,
  ⟨"EVT_OD_OVF_MAP", 0x01002800, 0x100, 4, 0x4, 64, 0x00000000, [.f 0 32 .rc]⟩,
  ⟨"EVT_LT_CTL", 0x01003000, 0x10, 8, 0x0, 1, 0x00000000, [.f 0 4 .rw, .f 4 8 .rw, .f 12 16 .rw, .f 28 1 .w1c]⟩,
  ⟨"EVT_LT_ARG", 0x01003004, 0x10, 8, 0x0, 1, 0x00000000, [.f 0 32 .rw]⟩,
  ⟨"EVT_LT_DELAY", 0x01003008, 0x10, 8, 0x0, 1, 0x00000000, [.f 0 32 .rw]⟩,
  ⟨"EVT_LT_TAG", 0x0100300C, 0x10, 8, 0x0, 1, 0x00000000, [.f 0 32 .rw]⟩,
  ⟨"EVT_PWF_ADDR", 0x01003100, 0x10, 16, 0x0, 1, 0x00000000, [.f 0 32 .ro]⟩,
  ⟨"EVT_PWF_STAMP", 0x01003104, 0x10, 16, 0x0, 1, 0x00000000, [.f 0 32 .ro]⟩,
  ⟨"EVT_PWF_INFO", 0x01003108, 0x10, 16, 0x0, 1, 0x00000000, [.f 0 3 .ro, .f 3 2 .ro]⟩,
  ⟨"EVT_PWF_STATUS", 0x01003200, 0x0, 1, 0x0, 1, 0x00000000, [.f 0 4 .ro, .f 16 16 .rc]⟩]

/-- The registers of region 0x011x_xxxx of the window, part 0. -/
def regTable11_0 : List RegRow := [
  ⟨"SAF_LOCK", 0x01100000, 0x0, 1, 0x0, 1, 0x00000003, [.f 0 1 .ro, .f 1 4 .ro, .f 5 1 .ro, .f 6 1 .ro, .f 7 1 .rc, .f 8 1 .rc, .f 16 16 .ro]⟩,
  ⟨"SAF_UNLOCK", 0x01100004, 0x0, 1, 0x0, 1, 0x00000000, [.f 0 16 .wo, .f 16 1 .wo, .f 17 4 .wo]⟩,
  ⟨"SAF_STO", 0x01100008, 0x0, 1, 0x0, 1, 0x0000F00F, [.f 0 4 .ro, .f 4 4 .ro, .f 8 4 .ro, .f 12 4 .ro]⟩,
  ⟨"SAF_SI_STATUS", 0x0110000C, 0x0, 1, 0x0, 1, 0x00000000, [.f 0 8 .ro, .f 8 8 .ro, .f 16 8 .ro, .f 24 1 .ro, .f 25 1 .ro]⟩,
  ⟨"SAF_SS1_T", 0x01100010, 0x4, 4, 0x0, 1, 0x000003E8, [.r 0 15 .rws 1 30000]⟩,
  ⟨"SAF_BT_CMD", 0x01100030, 0x0, 1, 0x0, 1, 0x00000000, [.f 0 4 .wo, .f 4 1 .wo, .f 5 1 .wo, .f 16 16 .wo]⟩,
  ⟨"SAF_BT_RESULT", 0x01100034, 0x0, 1, 0x0, 1, 0x00000000, [.f 0 2 .ro, .f 2 2 .ro, .f 4 4 .ro, .f 8 4 .ro, .f 12 20 .ro]⟩,
  ⟨"SAF_BT_CFG", 0x01100038, 0x0, 1, 0x0, 1, 0x0003E80A, [.f 0 8 .rws, .r 8 16 .rws 1 65535]⟩,
  ⟨"SAF_BT_I", 0x0110003C, 0x0, 1, 0x0, 1, 0x00000000, [.f 0 32 .rws]⟩,
  ⟨"SAF_BT_WIN", 0x01100040, 0x0, 1, 0x0, 1, 0x00000000, [.f 0 32 .rws]⟩,
  ⟨"SAF_PSET_HANDLE", 0x01100050, 0x0, 1, 0x0, 1, 0x00000000, [.f 0 32 .rw]⟩,
  ⟨"SAF_PSET_CMD", 0x01100054, 0x0, 1, 0x0, 1, 0x00000000, [.f 0 1 .wo, .f 1 1 .wo]⟩,
  ⟨"SAF_PSET_STATUS", 0x01100058, 0x0, 1, 0x0, 1, 0x00000000, [.f 0 3 .ro, .f 3 4 .ro, .f 16 16 .ro]⟩,
  ⟨"SAF_PSET_SEQ", 0x0110005C, 0x0, 1, 0x0, 1, 0x00000000, [.f 0 32 .ro]⟩,
  ⟨"SAF_PSET_CRC", 0x01100060, 0x0, 1, 0x0, 1, 0x00000000, [.f 0 32 .ro]⟩,
  ⟨"SAF_SI_CFG", 0x01100100, 0x4, 8, 0x0, 1, 0x00002000, [.r 0 2 .rws 0 2, .f 2 4 .rws, .f 6 1 .rws, .f 7 1 .rws, .f 8 5 .rws, .r 13 11 .rws 0 2000]⟩,
  ⟨"SAF_BRK_CFG", 0x01100200, 0x8, 16, 0x0, 1, 0x0A000014, [.f 0 1 .rws, .f 1 8 .rws, .r 9 14 .rws 0 8760, .f 23 1 .rws, .f 24 8 .rws]⟩,
  ⟨"SAF_BRK_STATUS", 0x01100204, 0x8, 16, 0x0, 1, 0x00000000, [.f 0 1 .ro, .f 1 1 .ro, .f 2 1 .ro, .f 3 2 .ro, .f 5 1 .ro, .f 6 1 .ro]⟩,
  ⟨"FXG_AX_CFG", 0x01110000, 0x40, 16, 0x0, 1, 0x0000001F, [.f 0 1 .rws, .f 1 1 .rws, .f 2 1 .rws, .f 3 1 .rws, .f 4 1 .rws, .f 5 1 .rws]⟩,
  ⟨"FXG_AX_I_PEAK", 0x01110004, 0x40, 16, 0x0, 1, 0x00000000, [.f 0 23 .rws]⟩,
  ⟨"FXG_AX_DUTY", 0x01110008, 0x40, 16, 0x0, 1, 0x00000000, [.r 0 9 .rws 0 256, .r 16 9 .rws 0 256]⟩,
  ⟨"FXG_AX_VMIN", 0x0111000C, 0x40, 16, 0x0, 1, 0x00000000, [.f 0 32 .rws]⟩,
  ⟨"FXG_AX_VMAX", 0x01110010, 0x40, 16, 0x0, 1, 0x00000000, [.f 0 32 .rws]⟩,
  ⟨"FXG_AX_PMIN_LO", 0x01110014, 0x40, 16, 0x0, 1, 0x00000000, [.f 0 32 .rws]⟩,
  ⟨"FXG_AX_PMIN_HI", 0x01110018, 0x40, 16, 0x0, 1, 0x00000000, [.f 0 32 .rws]⟩,
  ⟨"FXG_AX_PMAX_LO", 0x0111001C, 0x40, 16, 0x0, 1, 0x00000000, [.f 0 32 .rws]⟩,
  ⟨"FXG_AX_PMAX_HI", 0x01110020, 0x40, 16, 0x0, 1, 0x00000000, [.f 0 32 .rws]⟩,
  ⟨"FXG_AX_STATUS", 0x01110024, 0x40, 16, 0x0, 1, 0x00000000, [.f 0 1 .ro, .f 1 4 .ro, .f 16 16 .ro]⟩,
  ⟨"FXG_DL_WIN", 0x01110400, 0x10, 4, 0x0, 1, 0x00000000, [.f 0 16 .rws, .f 16 16 .rws]⟩,
  ⟨"FXG_DL_CHECK", 0x01110404, 0x10, 4, 0x0, 1, 0x00000000, [.f 0 16 .rws, .f 16 16 .rws]⟩,
  ⟨"FXG_DL_STATUS", 0x01110408, 0x10, 4, 0x0, 1, 0x00000000, [.f 0 1 .ro, .f 16 16 .ro]⟩]

/-- The registers of region 0x012x_xxxx of the window, part 0. -/
def regTable12_0 : List RegRow := [
  ⟨"MGT_STATUS", 0x01200000, 0x0, 1, 0x0, 1, 0x03200000, [.f 0 1 .ro, .f 1 1 .ro, .f 2 1 .ro, .f 3 1 .w1c, .f 4 1 .w1c, .f 5 1 .ro, .f 16 12 .ro]⟩,
  ⟨"MGT_CFG", 0x01200004, 0x0, 1, 0x0, 1, 0x00780069, [.f 0 8 .rw, .f 8 8 .rw, .f 16 8 .rw, .f 24 8 .rw]⟩,
  ⟨"MGT_OD_MB_CTL", 0x01201000, 0x200, 4, 0x0, 1, 0x00000000, [.f 0 1 .wo, .f 1 1 .ro, .f 2 1 .w1c]⟩,
  ⟨"MGT_OD_MB_DATA", 0x01201100, 0x200, 4, 0x4, 64, 0x00000000, [.f 0 32 .rw]⟩,
  ⟨"MGT_AX_BOUND", 0x01202000, 0x8, 16, 0x0, 1, 0x00000040, [.r 0 7 .rws 1 64, .f 8 6 .rws]⟩,
  ⟨"MGT_AX_F_MIN", 0x01202004, 0x8, 16, 0x0, 1, 0x00000000, [.f 0 24 .rws]⟩,
  ⟨"MGT_DL_BOUND", 0x01202100, 0x4, 4, 0x0, 1, 0x00000000, [.f 0 8 .rws, .f 8 8 .rws]⟩,
  ⟨"MGT_NF", 0x01203400, 0x4, 16, 0x0, 1, 0x00000000, [.f 0 32 .rw]⟩,
  ⟨"MGT_AX_TH_I_RATED", 0x01203000, 0x40, 16, 0x0, 1, 0x00000000, [.f 0 32 .rw]⟩,
  ⟨"MGT_AX_TH_V0", 0x01203004, 0x40, 16, 0x0, 1, 0x00000000, [.f 0 32 .rw]⟩,
  ⟨"MGT_AX_TH_R_ON", 0x01203008, 0x40, 16, 0x0, 1, 0x00000000, [.f 0 32 .rw]⟩,
  ⟨"MGT_AX_TH_E_SW", 0x0120300C, 0x40, 16, 0x0, 1, 0x00000000, [.f 0 32 .rw]⟩,
  ⟨"MGT_AX_TH_I_REF", 0x01203010, 0x40, 16, 0x0, 1, 0x00000000, [.f 0 32 .rw]⟩,
  ⟨"MGT_AX_TH_V_REF", 0x01203014, 0x40, 16, 0x0, 1, 0x00000000, [.f 0 32 .rw]⟩,
  ⟨"MGT_AX_TH_ZTH", 0x01203018, 0x40, 16, 0x0, 1, 0x00000000, [.f 0 32 .rw]⟩,
  ⟨"MGT_AX_TH_TAU", 0x0120301C, 0x40, 16, 0x0, 1, 0x00000000, [.f 0 32 .rw]⟩,
  ⟨"MGT_AX_TH_TAMB_SUB", 0x01203020, 0x40, 16, 0x0, 1, 0x00000000, [.f 0 32 .rw]⟩,
  ⟨"MGT_AX_TH_P_BASE", 0x01203024, 0x40, 16, 0x0, 1, 0x00000000, [.f 0 32 .rw]⟩,
  ⟨"MGT_AX_TH_TJ_PLAN", 0x01203028, 0x40, 16, 0x0, 1, 0x00000000, [.f 0 32 .rw]⟩,
  ⟨"MGT_AX_TH_LIFE_BUDGET", 0x0120302C, 0x40, 16, 0x0, 1, 0x00000000, [.f 0 32 .rw]⟩,
  ⟨"MGT_AX_TH_TJ", 0x01203030, 0x40, 16, 0x0, 1, 0x00000000, [.f 0 32 .ro]⟩,
  ⟨"MGT_AX_TH_TJ_PEAK_H", 0x01203034, 0x40, 16, 0x0, 1, 0x00000000, [.f 0 32 .ro]⟩,
  ⟨"MGT_AX_TH_LIFE_USED", 0x01203038, 0x40, 16, 0x0, 1, 0x00000000, [.f 0 32 .ro]⟩,
  ⟨"MGT_AX_TH_PLAN_STATE", 0x0120303C, 0x40, 16, 0x0, 1, 0x00000000, [.f 0 6 .ro, .f 6 6 .ro, .f 12 4 .ro, .f 16 1 .w1c, .f 17 1 .ro]⟩]

/-- The register descriptions that lie in the 1 MiB part of the window that holds offset `a`. -/
def regTable (a : Nat) : List RegRow :=
  match a / 0x100000 with
  | 0x0 => regTable00_0
  | 0x1 => regTable01_0
  | 0x2 => regTable02_0 ++ regTable02_1
  | 0x4 => regTable04_0 ++ regTable04_1
  | 0x5 => regTable05_0
  | 0x6 => regTable06_0
  | 0x8 => regTable08_0 ++ regTable08_1 ++ regTable08_2
  | 0xA => regTable0A_0
  | 0xB => regTable0B_0
  | 0xC => regTable0C_0
  | 0xD => regTable0D_0
  | 0xE => regTable0E_0
  | 0xF => regTable0F_0
  | 0x10 => regTable10_0
  | 0x11 => regTable11_0
  | 0x12 => regTable12_0
  | _ => []

/-- Does the row's register have an instance at offset `a`? -/
def RegRow.holds (r : RegRow) (a : Nat) : Bool :=
  let d := a - r.base
  let i := if r.s1 == 0 then 0 else min (d / r.s1) (r.n1 - 1)
  let e := d - i * r.s1
  let j := if r.s2 == 0 then 0 else min (e / r.s2) (r.n2 - 1)
  r.base ≤ a && e - j * r.s2 == 0

/-- The register description of offset `a`, if a chapter assigns that offset to a register (R573). -/
def regRow? (a : Nat) : Option RegRow := (regTable a).find? (·.holds a)

/-- The initial words of an axis's block of axis-state memory (*Library parameter block*, *Supervision words*). -/
def blockReset (o : Nat) : Word :=
  match o with
  | 0x064 => 0x7FFFFFFF
  | 0x200 => 0x23
  | 0x210 => 0x4000C8
  | 0x214 => 656
  | 0x218 => 65536
  | 0x288 => 1000
  | 0x28C => 8
  | 0x290 => 0x0CCCCCCD
  | 0x294 => 0x06666666
  | 0x29C => 1000
  | _ => 0

/-- What the register at offset `a` holds at reset; a word of a window memory holds 0, but for the initial words of the
axis-state blocks. [DESIGN CHOICE, unsafe, log 11; DEDUCED, unsafe, log 64] -/
def regReset (a : Nat) : Word :=
  match regRow? a with
  | some r => r.reset
  | none => if 0x680000 ≤ a && a < 0x6C0000 then blockReset (a % 0x4000) else 0

end Sys2Proof
end

