-- ==== Sys2Proof/Machine/Bits.lean ====
section
/-! DEFINITION. Bit fields of words, signed readings, clamps, and the sparse tables in which the state keeps whatever
is indexed by a number. -/

namespace Sys2Proof

/-- The value of the field of width `w` at bit `lo`. -/
def getBits (v : Word) (lo w : Nat) : Nat := v.toNat / 2 ^ lo % 2 ^ w

/-- The mask of the field of width `w` at bit `lo`. -/
def maskBits (lo w : Nat) : Word := BitVec.ofNat 32 (2 ^ w - 1) <<< lo

/-- The word with the field of width `w` at bit `lo` set to `x`, of which the low `w` bits are taken. -/
def putBits (v : Word) (lo w x : Nat) : Word :=
  (v &&& ~~~(maskBits lo w)) ||| ((BitVec.ofNat 32 (x % 2 ^ w)) <<< lo)

/-- A number of `w` bits read as two's complement. -/
def signed (w x : Nat) : Int := if x % 2 ^ w < 2 ^ (w - 1) then (x % 2 ^ w : Nat) else (x % 2 ^ w : Nat) - (2 ^ w : Nat)

/-- A word read as a signed number. -/
def Word.int (v : Word) : Int := signed 32 v.toNat

/-- The low `w` bits of an integer, in two's complement. -/
def unsigned (w : Nat) (x : Int) : Nat := (x % (2 ^ w : Nat)).toNat

/-- The word that holds an integer in two's complement, wrapping. -/
def Word.ofI (x : Int) : Word := BitVec.ofNat 32 (unsigned 32 x)

/-- `x` held within [lo, hi]. -/
def clampI (lo hi x : Int) : Int := if x < lo then lo else if hi < x then hi else x

/-- `x` held within [lo, hi]. -/
def clampN (lo hi x : Nat) : Nat := if x < lo then lo else if hi < x then hi else x

/-- `x` saturated to a signed number of `w` bits. -/
def satI (w : Nat) (x : Int) : Int := clampI (-(2 ^ (w - 1) : Nat)) ((2 ^ (w - 1) : Nat) - 1) x

/-- Division that truncates toward minus infinity, also for a negative divisor. -/
def floorDiv (a b : Int) : Int := Int.fdiv a b

/-- Division that truncates toward zero. -/
def truncDiv (a b : Int) : Int := Int.tdiv a b

/-- The absolute value as a natural number. -/
def absN (x : Int) : Nat := x.natAbs

/-- A field that some rule reads as 1 when it holds 0. -/
def atLeast1 (x : Nat) : Nat := if x == 0 then 1 else x

/-- A counter of `w` bits that saturates. -/
def satAdd (w x d : Nat) : Nat := min (x + d) (2 ^ w - 1)

/-- The bit that a truth value stands for. -/
def bit (b : Bool) : Nat := if b then 1 else 0

/-- Bit `i` of a number. -/
def testBit (x i : Nat) : Bool := x / 2 ^ i % 2 == 1

/-- A number with bit `i` set or cleared. -/
def setBit (x i : Nat) (b : Bool) : Nat :=
  if testBit x i == b then x else if b then x + 2 ^ i else x - 2 ^ i

/-- How many of the low `n` bits of `x` are set. -/
def popCount : Nat → Nat → Nat
  | 0, _ => 0
  | n + 1, x => x % 2 + popCount n (x / 2)

/-! ### Sparse tables

A table lists the entries that differ from what an unlisted key reads as, keys strictly rising: equal tables are equal
data. -/

/-- The entry of key `k`; an unlisted key reads as `d k`. -/
def tabGet {α : Type} (d : Nat → α) : List (Nat × α) → Nat → α
  | [], k => d k
  | (i, v) :: t, k => if i == k then v else tabGet d t k

/-- The table without key `k`. -/
def tabErase {α : Type} : List (Nat × α) → Nat → List (Nat × α)
  | [], _ => []
  | (i, v) :: t, k => if i == k then tabErase t k else (i, v) :: tabErase t k

/-- The table with `v` listed at key `k`. -/
def tabInsert {α : Type} : List (Nat × α) → Nat → α → List (Nat × α)
  | [], k, v => [(k, v)]
  | (i, x) :: t, k, v =>
    if i == k then (k, v) :: t else if k < i then (k, v) :: (i, x) :: t else (i, x) :: tabInsert t k v

/-- The table with `v` at key `k`, in the canonical form: an entry equal to what an unlisted key reads as is removed. -/
def tabSet {α : Type} [DecidableEq α] (d : Nat → α) (t : List (Nat × α)) (k : Nat) (v : α) : List (Nat × α) :=
  if v = d k then tabErase t k else tabInsert t k v

/-- The keys rise strictly from above `lo`, and no entry equals what an unlisted key reads as. -/
def tabWfFrom {α : Type} [DecidableEq α] (d : Nat → α) : Nat → List (Nat × α) → Bool
  | _, [] => true
  | lo, (i, v) :: t => decide (lo ≤ i) && decide (v ≠ d i) && tabWfFrom d (i + 1) t

/-- The canonical form of a table. -/
def tabWf {α : Type} [DecidableEq α] (d : Nat → α) (t : List (Nat × α)) : Bool := tabWfFrom d 0 t

/-! ### Lists as queues -/

/-- The list with its entry at index `i` replaced; unchanged when there is none. -/
def listSet {α : Type} : List α → Nat → α → List α
  | [], _, _ => []
  | _ :: t, 0, v => v :: t
  | x :: t, i + 1, v => x :: listSet t i v

/-- The last `n` entries of a list. -/
def lastN {α : Type} (n : Nat) (l : List α) : List α := l.drop (l.length - n)

/-- The sum of a list of integers. -/
def sumI (l : List Int) : Int := l.foldl (· + ·) 0

/-- The bytes of a little-endian number, `n` of them. -/
def bytesLE : Nat → Nat → List Byte
  | 0, _ => []
  | n + 1, x => BitVec.ofNat 8 x :: bytesLE n (x / 256)

/-- The number that a list of bytes spells, least significant byte first. -/
def ofBytesLE : List Byte → Nat
  | [] => 0
  | b :: t => b.toNat + 256 * ofBytesLE t

/-! ### Checksums -/

/-- One bit of a reflected CRC over a register of `w` bits. -/
def crcBitR (poly : Nat) (c : Nat) : Nat := if c % 2 == 1 then Nat.xor (c / 2) poly else c / 2

/-- `n` bits of a reflected CRC. -/
def crcBitsR (poly : Nat) : Nat → Nat → Nat
  | 0, c => c
  | n + 1, c => crcBitsR poly n (crcBitR poly c)

/-- CRC-32C of R357: reflected polynomial 0x82F6_3B78, initial value and final XOR 0xFFFF_FFFF. -/
def crc32cStep (c : Nat) (b : Byte) : Nat := crcBitsR 0x82F63B78 8 (Nat.xor c b.toNat)

/-- CRC-32C of R357 over a list of bytes, in order. -/
def crc32c (l : List Byte) : Word := BitVec.ofNat 32 (Nat.xor (l.foldl crc32cStep 0xFFFFFFFF) 0xFFFFFFFF)

end Sys2Proof
end

