-- ==== Sys2Proof/Machine/State.lean ====
section
/-! DEFINITION. The state of the device as plain data: the register window (every register and window memory of the
spec, as a sparse table over the reset values of Machine/Regs.lean), the in-package memory, the queue of waiting
commands, and for each block the state that its chapter names beside the registers. Sparse tables list only the
entries that differ from a block's reset record. -/

namespace Sys2Proof.Machine

/-- A sparse table by number. -/
abbrev Tab (α : Type) := List (Nat × α)

/-- Why the machine stops. Every fault that the spec describes is contained at a cell, cluster or region, and the device
goes on (R17 to R32); only undefined behaviour stops the model. [DESIGN CHOICE, safe, log 13] -/
inductive Fault where
  /-- Raised by an access of the register window that leaves in CLK_DIV dividers that break the frequency relations of
  R510, which the spec calls undefined behaviour. Safe: the model stops where the hardware may do anything. -/
  | clockRelation
  deriving DecidableEq, Repr

/-- Why a command has no meaning in the model. -/
inductive Refusal where
  /-- Raised by an arm of Dispatch.lean whose command has no meaning yet. Safe: the model stops. -/
  | notModelled (mnemonic : String)
  deriving DecidableEq, Repr

/-! ### Time base -/

/-- A step of the counter that waits for its tick (R56): a time to load, or an amount to add, in units of 2^-32 ns.
[DEDUCED, unsafe, log 32] -/
inductive CtrStep where
  | load (t : Nat)
  | add (d : Int)
  deriving DecidableEq, Repr

/-- A clock whose announces are received (R601): its latest announce, the elapsed tick of it, and whether the algorithm has
qualified it. -/
structure Foreign where
  a : Announce
  tick : Nat
  ok : Bool
  deriving DecidableEq, Repr

/-- The time base beside its registers: the counter with all 32 fraction bits (R38), the elapsed time that times the
durations of R600, in units of 4 ns (`ticks`) and a rest in units of 2^-16 ns (`tickRem`), the time shadows of R44, the servo of R54, the grandmaster selection of R601 to R65, the tick at
which the last step of the counter was asked for (R56), the timestamps of the last event messages by port and kind (R52), and the
slave port of an external port configuration (R49). [DESIGN CHOICE, unsafe, log 190] -/
structure TimeSt where
  ctr : Nat
  ticks : Nat
  shadows : Tab (Option Nat)
  integ : Int
  afterStep : Bool
  wakeAcquire : Bool
  runIn : Nat
  runOut : Nat
  outputs : List Int
  syncIval : Nat
  lastSync : Nat
  pendingStep : List CtrStep
  parent : Option Announce
  foreign : List Foreign
  pendingGm : Option Announce
  swOld : Nat
  swCause : Nat
  swStart : Nat
  swTick : Nat
  holdTick : Nat
  tickRem : Nat
  stepTick : Nat
  stamps : Tab Nat
  extSlave : Option (Fin 2)
  deriving DecidableEq, Repr

def TimeSt.reset : TimeSt :=
  ⟨0, 0, [], 0, false, false, 0, 0, [], 0, 0, [], none, [], none, 0, 0, 0, 0, 0, 0, 0, [], none⟩

/-! ### Launch queues -/

/-- A launch entry (R67): its launch time in units of 2^-16 ns, action code, target, argument, tag and repeat flag. -/
structure Launch where
  time : Nat
  tick : Nat
  code : Nat
  target : Nat
  arg : Word
  tag : Nat
  rep : Bool
  desc : Bool
  deriving DecidableEq, Repr

/-- An action that its target holds until its launch time (R73); `late` when R75 delivered it late; `tick` and `now` are
the tick of its delivery and the counter there, in units of 2^-16 ns. -/
structure Held where
  e : Launch
  late : Bool
  q : Nat
  tick : Nat
  now : Nat
  deriving DecidableEq, Repr

/-- A push that its queue refused by OVERFLOW or ORDER_ERR: the entry, and the two status bits before the refusal (R79). -/
structure Refused where
  launch : Launch
  overflow : Bool
  order : Bool
  deriving DecidableEq, Repr

/-- One launch queue: its entries, head first, the tick of its last delivery (R74), and the pushes that it refused in a tick
(R79). -/
structure QueueSt where
  entries : List Launch
  lastTick : Option Nat
  refused : List Refused
  deriving DecidableEq, Repr

def QueueSt.reset : QueueSt := ⟨[], none, []⟩

/-! ### Events -/

/-- An event that has fired and is not delivered yet: its payload, full time, the route in force at its tick (R489) and
the owner it goes to when its rule names one (R497: 0 to 3, or 4 for Camellia). -/
structure Detected where
  ev : Nat
  payload : Word
  full : Nat
  tick : Nat
  route : Word
  dest : Option Nat
  deriving DecidableEq, Repr

/-- A record in an owner's event queue (*Event record*), with the full time at which it was queued (R494), the full time of
its STAMP (R492), the route in force at its event and its owner. -/
structure EvRec where
  ev : Nat
  sev : BitVec 2
  summary : Bool
  notice : Bool
  stamp : Word
  payload : Word
  count : Nat
  full : Nat
  at_ : Nat
  route : Word
  owner : Nat
  deriving DecidableEq, Repr

/-- The event fabric beside its registers: events detected and not delivered, the owners' queues, the
tick of the last EV0014 of each requester (R485), and the tick of the last route write with the routes that the writes of
that tick replaced (R489). -/
structure EvtSt where
  detected : List Detected
  queues : Tab (List EvRec)
  rwsTick : Tab (Option Nat)
  routeTick : Nat
  routeOld : List (Nat × Word)
  deriving DecidableEq, Repr

def EvtSt.reset : EvtSt := ⟨[], [], [], 0, []⟩

/-! ### PWM -/

/-- What a write of AXn_PWM_CTL leaves for the next tick (R90): the unit starts; it becomes DISABLED; it becomes DISABLED and
a write of ARM = 1 follows, with START or without; or it becomes ARMED, and starts where START came with it. -/
inductive PwmAsk where
  | start
  | disable
  | rearm (start : Bool)
  | arm (start : Bool)
  deriving DecidableEq, Repr

/-- The shadows of a PWM unit: PERIOD, the compares, the override and MODE_SEL (R92). -/
structure Shadows where
  period : Nat
  cmp : List Nat
  ovr : Nat
  mode : Bool
  deriving DecidableEq, Repr

/-- A PWM unit beside its registers: the active copies of the shadowed registers (R92), the dead-time clamps in force
(R100), the command of each pair (R88), which switches have turned on and which wait for their dead time (R101), the
measurements of the running carrier period (R97 to R99), the prescaler counts (R96), the align sequencer (R104), the
phase error that the running carrier leaves and its correction, in units of 2^-16 ns (R80), the exact full times of the last
zero and update points, whether an update point has passed since the start, T_loop at the last one (R171), whether the
counter rises, the shadows as they stood before the first write of a tick (R93), the
tick of the last release of each compare (R178), the switches that a new mask entry turns off and its tick (R105), the
tick of the last align event (R104), and what the next tick brings after a write of ARM or START, with the tick that asked
for it (R90). -/
structure PwmSt where
  period : Nat
  cmp : List Nat
  ovr : Nat
  mode : Bool
  first : Bool
  holdBack : Bool
  dtMin : Nat
  dtMax : Nat
  want : List Bool
  on : List Bool
  wait : List Bool
  measured : List Bool
  noMeas : List Nat
  presc : List Nat
  alignLeft : Nat
  alignRun : Bool
  hall : Nat
  phi : Int
  lastZero : Nat
  lastUpdate : Nat
  updated : Bool
  loopT : Nat
  rise : Bool
  corr : Int
  shTick : Option Nat
  shOld : Shadows
  rel : List (Option Nat)
  late : Option (Nat × List Bool)
  alignTick : Nat
  ask : Option PwmAsk
  askTick : Nat
  deriving DecidableEq, Repr

def PwmSt.reset : PwmSt :=
  ⟨125000, [0, 0, 0], 0, false, false, false, 50, 500, [false, false, false],
   [false, false, false, false, false, false], [false, false, false, false, false, false],
   [false, false, false, false, false, false], [0, 0, 0, 0, 0, 0], [0, 0, 0, 0, 0], 0, false, 0, 0, 0, 0, false, 0,
   true, 0, none, ⟨125000, [0, 0, 0], 0, false⟩, [none, none, none], none, 0, none, 0⟩

/-- A brake chopper beside its registers: the on-time of the running window in elapsed ticks, the tick of the last turn
on or off, the tick up to which the on-time is counted, a change that waits for MIN_TIME (R111), what the life counters
have not taken yet, and the number of the running window of 10 ms (R112). -/
structure BchSt where
  acc : Nat
  since : Nat
  mark : Nat
  wait : Option Bool
  onHour : Nat
  windows : Nat
  win : Nat
  deriving DecidableEq, Repr

def BchSt.reset : BchSt := ⟨0, 0, 0, none, 0, 0, 0⟩

/-! ### Current, DC-link and telemetry -/

/-- An open centred window (R120): the sample instant, the centring offset δ in units of 2^-16 ns, and the OFS and GAIN
of both inputs in force at its first edge (R124), and the tick of its last edge. -/
structure CsWin where
  s : Nat
  delta : Int
  scale : List Word
  endTick : Nat
  deriving DecidableEq, Repr

/-- The current inputs of an axis beside their registers: the open window, whether a result has come and a saturation
event has been raised since enable, which inputs are stuck, and the latest values that OFS and GAIN had before a write,
with the time of the write. -/
structure CsSt where
  win : Option CsWin
  got : Bool
  satSeen : Bool
  stuckA : Bool
  stuckB : Bool
  hist : List (Nat × List Word)
  deriving DecidableEq, Repr

def CsSt.reset : CsSt := ⟨none, false, false, false, false, []⟩

/-- A DC-link input beside its registers: the open centred window (its sample instant, δ and the tick of its last
edge), and whether the input is latched invalid (R132). -/
structure DlSt where
  win : Option (Nat × Int × Nat)
  bad : Bool
  deriving DecidableEq, Repr

def DlSt.reset : DlSt := ⟨none, false⟩

/-- A telemetry link beside its registers (R136 to R138): the count of each bit offset, and the failing frames in a
row. -/
structure TlmSt where
  cnt : Tab Nat
  fails : Nat
  deriving DecidableEq, Repr

def TlmSt.reset : TlmSt := ⟨[], 0⟩

/-- The measurement blocks beside their registers, with the frequency that waits for each SDCLK pin (R117) and each
pin's distance from its grid at an elapsed tick (R116). -/
structure SenseSt where
  cs : Tab CsSt
  dl : Tab DlSt
  tlm : Tab TlmSt
  sdPend : Tab (Option Nat)
  sdErr : Tab (Int × Nat)
  hist : Tab (List (Nat × Int))
  deriving DecidableEq, Repr

def SenseSt.reset : SenseSt := ⟨[], [], [], [], [], []⟩

/-! ### Feedback -/

/-- A decoder's count and position offset (R145), and the part of the offset that its alignment to the serial decoder gave
(R159), the only part that Foxglove sees (R163). -/
structure Dec where
  c : Int
  o : Int
  a : Int
  deriving DecidableEq, Repr

/-- Edge timing of R161: last direction, the two edges with their counts and times in ns, the hold after a reversal, and
the velocity in counts per ns as a fraction. -/
structure EdgeT where
  dir : Int
  t0 : Nat
  c0 : Int
  t1 : Nat
  c1 : Int
  hold : Bool
  num : Int
  den : Nat
  deriving DecidableEq, Repr

def EdgeT.reset : EdgeT := ⟨0, 0, 0, 0, 0, false, 0, 1⟩

/-- A sample taken and not ready yet (R144): its instant S, the elapsed time there, the tick of its ready time, whether its
value has come and is good, the position without offset and its velocity, and what is in force at S: the offset, a load that
it takes (R148), the soft limits when the clamp applies (R146), whether no transfer could serve it (R158), and the registers
SC_OFS, SC_GP, SC_AMP and FAIL (R143). -/
structure FbSample where
  s : Nat
  e : Nat
  ready : Nat
  have_ : Bool
  ok : Bool
  raw : Int
  v : Int
  o : Int
  load : Option Int
  soft : Option (Int × Int)
  busy : Bool
  cfg : List Word
  deriving DecidableEq, Repr

/-- A serial transfer under way (R156): its sample instant and the elapsed time there, the tick at which its frame ends, the
incremental position of the same sample without its offset once it is known, that offset, the tolerance when the sample
is one that R159 compares, and FAIL and TM as they stood at the sample (R143). -/
structure SsiRun where
  s : Nat
  e : Nat
  done : Nat
  inc : Option Int
  o : Int
  check : Option Nat
  fail : Word
  tm : Nat
  deriving DecidableEq, Repr

/-- The extremes that R153 keeps over a signal period: conversions, start tick, the boundary that the period began at, a
failing sample seen, and the extremes of a, b, b1, a1 + b1 and a1 − b1 as pairs (max, min). -/
structure Adapt where
  n : Nat
  t0 : Nat
  edge : Option Int
  bad : Bool
  ex : List (Int × Int)
  deriving DecidableEq, Repr

def Adapt.reset : Adapt := ⟨0, 0, none, false, []⟩

/-- A feedback channel beside its registers: its decoders, edge timings and Hall sector, the filtered velocity, the
previous sample (raw position and elapsed time), the last good sample with its velocity, the consecutive failures, whether
they confirmed and the ride-through with its first tick and its length (R155), whether the channel has stopped with a fault (R164), a load
that waits and the armed index load (R148), the last index load's tick with the offset before it, the position without offset from which each offset counts its next
wrap (R147), the
samples under way, the comparator quadrant count (R152) and the absolute count last reconciled, the latest conversion or
sample (elapsed time, position, extrapolated) for R168, the adaptation, the serial transfer and the tick at which TM ends
(R156 to R159), the soft limits in force (R146), what SC_OFS, SC_GP, SC_AMP and FAIL held before their last writes (R143), and
the Hall commutation events still to be issued, one a tick, with the earliest tick of the next (R160). -/
structure FbSt where
  inc : Dec
  ssi : Dec
  hall : Dec
  abzE : EdgeT
  hallE : EdgeT
  sector : Option Nat
  vf : Int
  lastRaw : Int
  lastE : Option Nat
  vg : Int
  goodRaw : Int
  goodE : Nat
  fails : Nat
  conf : Bool
  riding : Bool
  rideTick : Nat
  ride : Nat
  stopped : Bool
  loadP : Option Int
  zArm : Bool
  zOld : Option (Nat × Int)
  wrapRef : List (Int × Int)
  samps : List FbSample
  cq : Option Int
  scAbs : Option Int
  conv : Option (Nat × Int × Bool)
  adapt : Adapt
  ssiRun : Option SsiRun
  ssiIdle : Option Nat
  ssiPrev : Option Nat
  ssiCnt : Nat
  ssiPos : Option Int
  softMin : Int
  softMax : Int
  cfgHist : List (Nat × List Word)
  comm : List Bool
  commTick : Nat
  deriving DecidableEq, Repr

def FbSt.reset : FbSt :=
  ⟨⟨0, 0, 0⟩, ⟨0, 0, 0⟩, ⟨0, 0, 0⟩, EdgeT.reset, EdgeT.reset, none, 0, 0, none, 0, 0, 0, 0, false, false, 0, 0, false, none,
   false, none, [], [], none, none, none, Adapt.reset, none, none, none, 0, none, -(2 ^ 63), 2 ^ 63 - 1, [], [], 0⟩

/-- A probe latch (R167): its time in units of 2^-16 ns and the elapsed time, falling or rising, the position, whether it is valid and
extrapolated. -/
structure PrbLatch where
  t : Nat
  e : Nat
  falling : Bool
  pos : Int
  valid : Bool
  extrap : Bool
  deriving DecidableEq, Repr

/-- A probe beside its registers: its FIFO and the latches whose bracketing values are still to come (R168). -/
structure PrbSt where
  fifo : List PrbLatch
  wait : List PrbLatch
  deriving DecidableEq, Repr

def PrbSt.reset : PrbSt := ⟨[], []⟩

/-! ### Aster engines -/

/-- A register of an engine: D of a bank, an accumulator, its low 64 bits, both guards, pointers, modulo lengths, loop
counters and loop addresses. -/
inductive EReg where
  | d (bank i : Nat)
  | acc (i : Nat)
  | accLow (i : Nat)
  | guards
  | p (i : Nat)
  | m (i : Nat)
  | lc (i : Nat)
  | la (i : Nat)
  deriving DecidableEq, Repr

/-- A result in flight (R196): the cycle at which it lands, its issue order, what it writes, the accumulator whose later
operations chain onto it (R197), the flags it sets with their values and the sticky flags it sets (R603). -/
structure Flight where
  land : Nat
  ord : Nat
  writes : List (EReg × Nat)
  chain : Option Nat
  mask : Nat
  flags : Nat
  sticky : Nat
  deriving DecidableEq, Repr

/-- A slot of a table (*Slot fields*). -/
structure SlotF where
  k : Nat
  start : Nat
  len : Nat
  axis : Nat
  tied : Bool
  div : Nat
  phase : Nat
  inputs : Nat
  entry : Nat
  deriving DecidableEq, Repr

/-- A slot table with the T_loop it was checked for and its N_base. -/
structure SlotTab where
  tLoop : Nat
  nBase : Nat
  slots : List SlotF
  deriving DecidableEq, Repr

/-- What holds an engine: nothing; a slot's program; a slot window after END; background code; its save routine; the wait
for the slot after WAIT; its restore routine. -/
inductive AeMode where
  | idle | slot | done | bg | save | yielded | restore
  deriving DecidableEq, Repr

/-- The latest sample of an axis as its engine sees it (R175, R180): its instant and the elapsed time there, whether it was placed well and its
update point in place, whether currents and position belong to it, and whether a tied slot has served it. -/
structure AxSamp where
  s : Nat
  e : Nat
  placed : Bool
  phased : Bool
  cur : Bool
  pos : Bool
  served : Bool
  deriving DecidableEq, Repr

/-- The core of an engine (*Engine registers*): D banks 0 and 1, accumulators of 72 bits, pointers, modulo lengths, loop
counters and addresses, STATUS without BANK, PC, the target of a taken branch while its delay bundle issues, the engine
cycle, whether the X slot of the current bundle has issued, and the results in flight. -/
structure AeCore where
  d0 : List Nat
  d1 : List Nat
  a : List Nat
  p : List Nat
  m : List Nat
  lc : List Nat
  la : List Nat
  status : Nat
  pc : Nat
  delay : Option Nat
  cyc : Nat
  xDone : Bool
  flights : List Flight
  deriving DecidableEq, Repr

def AeCore.reset : AeCore :=
  ⟨[0, 0, 0, 0, 0, 0, 0, 0, 0, 0, 0, 0, 0, 0, 0, 0], [0, 0, 0, 0, 0, 0, 0, 0, 0, 0, 0, 0, 0, 0, 0, 0], [0, 0],
   [0, 0, 0, 0, 0, 0, 0, 0], [0, 0, 0, 0, 0, 0, 0, 0], [0, 0], [0, 0], 0, 0, none, 0, false, []⟩

/-- A library program that a slot runs (R190): which one, the cycles from START to its END, and the first of the free values
that it takes. -/
structure LibRun where
  prog : AeProg
  used : Nat
  free : Nat
  deriving DecidableEq, Repr

/-- An engine beside its registers: its core, what holds it, the tables in force and pending (R182), the running slot
with the cycle of its start and of the base period, the slot cycles of this base period, the staged compares (axis,
phase, value) and axis-state words, the held bursts (R185), the words by their offset in axis-state memory, the input pages, the data memory, the saved background state
(R187), the checks of the samples and the base period (R173, R180), the axes held off since an overrun of their slot (R34),
the slots that ran in this base period, the instant of its start with its length (R171, R176), and the library program that
the slot runs. [DEDUCED, safe, log 151] -/
structure AeSt where
  core : AeCore
  mode : AeMode
  table : Option SlotTab
  pending : Option SlotTab
  slot : SlotF
  start : Nat
  base : Nat
  used : Nat
  cmp : List (Nat × Nat × Nat)
  stage : Tab Word
  bursts : List (List (Nat × Word))
  page : List Word
  dm : Tab Word
  savePc : Nat
  saveStatus : Nat
  statusAt : Option Nat
  fresh : Bool
  yieldDue : Bool
  samps : List (Option AxSamp)
  phaseBad : Bool
  periodBad : Bool
  overran : List Nat
  ran : List Nat
  baseT : Nat
  baseLen : Nat
  lib : Option LibRun
  deriving DecidableEq, Repr

def AeSt.reset : AeSt :=
  ⟨AeCore.reset, .idle, none, none, ⟨0, 0, 0, 0, false, 1, 0, 0, 0⟩, 0, 0, 0, [], [], [],
   [0, 0, 0, 0, 0, 0, 0, 0, 0, 0, 0, 0, 0, 0, 0, 0, 0, 0, 0, 0, 0, 0, 0, 0, 0, 0, 0, 0, 0, 0, 0, 0],
   [], 0, 0, none, true, false, [none, none], false, false, [], [], 0, 0, none⟩

/-! ### Loop supervision -/

/-- A running test-signal generator (R215 to R220): type, level, order, hold, sequences or sweeps still to run, amplitude,
frequencies, duration in ms, steps, settle and measure periods, the ticket and position of its start, the runs within the
present piece, the shift register, the phase in 2^-32 turn, and the step. -/
structure Gen where
  type : Nat
  level : Nat
  order : Nat
  hold : Nat
  rep : Nat
  amp : Int
  f0 : Nat
  f1 : Nat
  dur : Nat
  steps : Nat
  settle : Nat
  measure : Nat
  ticket : Nat
  pos : Int
  runs : Nat
  bits : Nat
  lfsr : Nat
  phase : Nat
  step : Nat
  deriving DecidableEq, Repr

/-- The words that the library keeps for itself on an axis: the settling runs of the observer (none before its first
run), the acceleration of its last step, the position validity it saw, the consecutive failing runs, the velocity
command and the run number of the outer slot with its step length, the generator, the current timestamp of the previous
supervision run, the running autotune stage, which stages have identified their plant, what Larkspur's scan has seen, and
what background code has derived: the OBS_BW and T_o of the observer's gains (R210), the POLE_PAIRS and SPEED_BASE of
WE_K. -/
structure SupSt where
  settle : Nat
  init : Bool
  amod : Int
  posOk : Bool
  fails : Nat
  vcmd : Int
  run : Nat
  div : Nat
  gen : Option Gen
  stamp : Word
  stage : Nat
  known : Nat
  seen : Bool
  mark : Bool
  gain : Option (Nat × Nat)
  weKey : Option (Nat × Nat)
  deriving DecidableEq, Repr

def SupSt.reset : SupSt := ⟨0, false, 0, false, 0, 0, 0, 1, none, 0, 0, 0, false, false, none, none⟩

/-! ### Larkspur -/

/-- A piece of a plan with constant jerk: its start time in units of 2^-16 ns, its duration, and position, velocity and
acceleration there in units of 2^-48 rev, 2^-32 rev/s and 2^-24 rev/s², with the jerk in units of 2^-8 rev/s³ (R227). -/
structure Seg where
  t : Int
  n : Nat
  p : Int
  v : Int
  a : Int
  j : Int
  deriving DecidableEq, Repr

/-- What a plan does. -/
inductive PlanKind where
  | hold | pos | vel | stop
  deriving DecidableEq, Repr

/-- Limits of a plan in internal units: the speed limit (signed target of a velocity move), AMAX, DMAX and JMAX. -/
structure Lims where
  v : Int
  a : Int
  d : Int
  j : Int
  deriving DecidableEq, Repr

/-- A plan fixed on network time (R226): its pieces, its end (time, position, velocity), the target, the limits it was
made with, the stretch factor it was made with, whether it ends with the outputs off (ramp-off stop), and, for a piece
that a later leg follows, the speeds still to be reached. -/
structure Plan where
  kind : PlanKind
  segs : List Seg
  t1 : Int
  p1 : Int
  v1 : Int
  target : Int
  lims : Lims
  s : Nat
  off : Bool
  deriving DecidableEq, Repr

/-- A commanded move (R228, R235, R236): its operation (1 absolute, 2 relative, 3 velocity), the target and the limits
staged with it, and the start time when START_AT is 1. -/
structure Move where
  op : Nat
  target : Int
  lims : Lims
  at_ : Option Nat
  deriving DecidableEq, Repr

/-- A command that waits for the channel's next evaluation instant. -/
inductive ChanCmd where
  | move (m : Move)
  | stop (quick : Bool)
  | limits (l : Lims)
  | group (g : Nat) (target : Int)
  | cfgStop
  | home (l : Lims)
  deriving DecidableEq, Repr

/-- The phase of a homing sequence (R249): not homing, the first search, the reversal after the first edge, the creep or
second search, the stop after the reference event, or the load at standstill, until the next sample. -/
inductive HomePhase where
  | none | search | turn | creep | stop | load
  deriving DecidableEq, Repr

/-- A Larkspur channel beside its registers: its plan (none while the reference follows the measured position), what
waits for the next evaluation instant, the queue, a timed move, the previous evaluation, on network time and on elapsed time
in units of 2^-16 ns, the elapsed tick since which it
has been at rest and since which STANDSTILL has been 1, the start of a stop ramp, the hard stop of R247, the homing
sequence (its phase, start, start position, event position, saved current limit, since when the hard-stop current has
flowed, the reference edge seen and the time of an edge whose latch is still to come), the gains that the hold replaced,
the level whose reaction runs its stop (R28: 1 cluster, 2 region), whether a limit's reaction is part of the running stop
(R248), whether the outputs go off when the group's path ends, and of the homing sequence the index edge after the probe,
the shift that the load makes and the RES_ACTION that it replaced (R250). -/
structure Chan where
  plan : Option Plan
  pend : List ChanCmd
  queue : List Move
  timed : Option Move
  prevEval : Option Nat
  prevE : Nat
  restSince : Option Nat
  stillSince : Option Nat
  stopTick : Option Nat
  hard : Bool
  home : HomePhase
  homeTick : Nat
  homeP0 : Int
  homeP : Int
  homeILim : Word
  homeISince : Option Nat
  homeEdge : Bool
  homeAt : Option Nat
  gains : Option (Word × Word × Word)
  holdBurst : Bool
  limPos : Bool
  limNeg : Bool
  evals : Nat
  starting : Bool
  byLevel : Nat
  limStop : Bool
  endOff : Bool
  homeIdx : Bool
  homeShift : Int
  homeRes : Nat
  deriving DecidableEq, Repr

def Chan.reset : Chan :=
  ⟨none, [], [], none, none, 0, none, none, none, false, .none, 0, 0, 0, 0, none, false, none, none, false, false, false,
   0, false, 0, false, false, false, 0, 0⟩

/-- An interpolation group (R237 to R239): the members with their starting positions and travels, leader first, the plan
of the leader, its start in path terms, a command that waits, and the members that have come to the path's end. -/
structure Grp where
  members : List (Nat × Int × Int)
  plan : Option Plan
  stopReq : Option Bool
  cmd : Option (Nat × Option Nat)
  ended : List Nat
  deriving DecidableEq, Repr

def Grp.reset : Grp := ⟨[], none, none, none, []⟩

/-- When a DC-link group's next staggered enable falls (R568): the instant of network time of its first, or the elapsed tick
of each following one. -/
structure Stag where
  first : Option Nat
  next : Option Nat
  deriving DecidableEq, Repr

def Stag.reset : Stag := ⟨none, none⟩

/-! ### Line shaft -/

/-- A held copy of a segment (R257, R259): T0 in units of 2^-16 ns, sequence number, master, priority, VALID in ns, and
the coefficients in the units of R257. -/
structure Copy where
  t0 : Nat
  seq : Nat
  member : Nat
  prio : Nat
  valid : Nat
  p0 : Int
  v0 : Int
  a0 : Int
  j0 : Int
  deriving DecidableEq, Repr

/-- A shaft beside its registers: the copies held, the segment in force, those in force before it, for how many preceding T0s each other master's
copies have been identical to those in use (R259), the T0s found to differ (R260), and what this device publishes: the
launch time with the segment (R262). -/
structure ShaftSt where
  held : List Copy
  cur : Option Copy
  past : List Copy
  same : Tab Nat
  diverged : List Nat
  pub : List (Nat × Copy)
  deriving DecidableEq, Repr

def ShaftSt.reset : ShaftSt := ⟨[], none, [], [], [], []⟩

/-- The old path of a follower during a blend (R269): the reference held at an engagement, or anchors and ratio before a
ratio change. -/
inductive OldPath where
  | held (p : Int)
  | ratio (xo mo : Int) (num : Int) (den : Nat)
  deriving DecidableEq, Repr

/-- A blend (R269): the master position at its start, the direction in which its distance counts, and the old path. -/
structure Blend where
  m0 : Int
  dir : Int
  old : OldPath
  deriving DecidableEq, Repr

/-- A follower beside its registers: the ratio in force, its blend, the phase in force in units of 2^-48 rev with the
elapsed time of the last evaluation (R271), a commanded engagement with its start time, a ratio change and a next table
that wait, the cam cycle of the last evaluation, the cam cycle and the output that the table in force counts from (R275), and
the registration correction: its value at the last cycle start, its step over the cycle and that cycle start (R279). -/
structure FolSt where
  num : Int
  den : Nat
  blend : Option Blend
  ph : Int
  lastT : Option Nat
  engage : Option (Option Nat)
  ratio : Bool
  next : Option Nat
  floor : Int
  nBase : Int
  yBase : Int
  corr : Int
  step : Int
  corrT : Nat
  deriving DecidableEq, Repr

def FolSt.reset : FolSt := ⟨1, 1, none, 0, none, none, false, none, 0, 0, 0, 0, 0, 0⟩

/-- A registration channel beside its registers: whether the open window has had its mark, the instant up to which the
master has been followed, the elapsed time, in units of 2^-16 ns, since which the master has been slow in the open window
(R278), the last openings and closings of the window, newest first, and whether the window before had its mark. -/
structure RegSt where
  marked : Bool
  upTo : Option Nat
  slow : Option Nat
  trans : List (Nat × Bool)
  wasMarked : Bool
  deriving DecidableEq, Repr

def RegSt.reset : RegSt := ⟨false, none, none, [], false⟩

/-- What a cam table's COMMIT copied beside the points (R273): N and LIFT. -/
structure CamSt where
  n : Nat
  lift : Int
  deriving DecidableEq, Repr

def CamSt.reset : CamSt := ⟨0, 0⟩

/-- A cam switch beside its registers: the cycles predicted, each with the segment used and its crossings (launch time,
on or off) (R280, R282). -/
structure CswSt where
  pred : List (Nat × Copy × List (Nat × Bool))
  deriving DecidableEq, Repr

def CswSt.reset : CswSt := ⟨[]⟩

/-- A member of the domain (R565, R566): when it was last heard, the address and round of its last JOIN, since when it
has been present, the round in which two senders used its number, and the roles it declared. -/
structure Member where
  heard : Option Nat
  src : Nat
  round : Nat
  since : Option Nat
  clash : Option Nat
  roles : Nat
  deriving DecidableEq, Repr

def Member.reset : Member := ⟨none, 0, 0, none, none, 0⟩

/-- The line-shaft unit beside its registers: shafts, followers, registration channels, cam switches, cam tables, members, the last
cycle start, the cycles for which JOIN is still sent after COMPLETE, and since when the device has been LOCKED. -/
structure LshSt where
  shafts : Tab ShaftSt
  fols : Tab FolSt
  regs : Tab RegSt
  csws : Tab CswSt
  cams : Tab CamSt
  members : Tab Member
  cycle : Option Nat
  joinLeft : Option Nat
  selfSince : Option Nat
  deriving DecidableEq, Repr

def LshSt.reset : LshSt := ⟨[], [], [], [], [], [], none, none, none⟩

/-! ### Auxiliary drives -/

/-- A chopper cycle of a coil with samples under way (R298): the tick of its drive-to-decay switch, the target there and
the peak sample. -/
structure ChopCycle where
  id : Nat
  target : Nat
  peak : Option Nat
  deriving DecidableEq, Repr

/-- A coil of a stepper channel (R296 to R300): whether it is energised, driven or in decay, whether blanking and the
shortest decay have ended, the polarity in use, what its comparator sees (0 at or below TH_LO, 1 between, 2 at or above
TH_HI), the cycles and valid pairs of the running block with the sum of their errors, the
cycles whose valley sample has not ended, and the tick at which the phase began with whether it has counted as open. A
cycle is named by the tick of its drive-to-decay switch and keeps the target there and its peak sample when it came. -/
structure Coil where
  on : Bool
  drive : Bool
  blanked : Bool
  off : Bool
  neg : Bool
  seen : Nat
  cycles : Nat
  pairs : Nat
  esum : Int
  open_ : List ChopCycle
  since : Nat
  opened : Bool
  deriving DecidableEq, Repr

def Coil.reset : Coil := ⟨false, false, false, false, false, 0, 0, 0, 0, [], 0, false⟩

/-- An auxiliary channel beside its registers. Stepper: the count s (R294), the microsteps still to be issued with the
number issued and to be issued in this spread, its start in elapsed time and its length in units of 2^-16 ns (R295), the
previous evaluation instant in elapsed time with the count there, the tick of the last microstep, the milliseconds of reduction (R299) and the coils.
BLDC: the ramp speed in units of 2^-32 rev/s and the sector phase in units of 2^-32 sector, the sectors run at V_HO, the
last two sector intervals in ticks, the tick of the last commutation, the last reading of the floating phase, whether the
sector has shown a crossing or has counted as missed, the missed sectors in a row, the integrator, the periods without a
current result, whether this period has one and whether it exceeded I_LIM, the tick of handover, the sector count, a
velocity move that Larkspur holds until handover (R309), the ticks at which the phase, the PWM period and the crossing of
the sector began, and the sector at the pins in the tick of a commutation (R302). Both: the last INTERVAL boundary (R293). BLDC: the comparator
level of this PWM period, until it is read (R303). -/
structure AuxSt where
  count : Int
  left : Int
  done : Nat
  todo : Nat
  te : Nat
  span : Nat
  prev : Option Nat
  atPrev : Int
  lastStep : Nat
  reduce : Option Nat
  coils : List Coil
  vr : Nat
  phase : Nat
  atHo : Nat
  ivals : List Nat
  comm : Nat
  cmp : Option Bool
  zc : Bool
  missed : Bool
  misses : Nat
  x : Nat
  starve : Nat
  got : Bool
  beyond : Bool
  loopTick : Nat
  sectors : Int
  hold : Option Move
  phTick : Nat
  perTick : Nat
  zcTick : Nat
  wasSec : Nat
  evalT : Option Nat
  read : Option Bool
  deriving DecidableEq, Repr

def AuxSt.reset : AuxSt :=
  ⟨0, 0, 0, 0, 0, 0, none, 0, 0, none, [Coil.reset, Coil.reset], 0, 0, 0, [], 0, none, false, false, 0, 0, 0, false, false,
   0, 0, none, 0, 0, 0, 0, none, none⟩

/-- A request: its channel, what for, the elapsed tick at which it is made, the last one at which it may start (R290), and
the chopper cycle of a peak or a valley. -/
structure AdcReq where
  ch : Nat
  use : AdcUse
  made : Nat
  limit : Option Nat
  cyc : Nat
  deriving DecidableEq, Repr

/-- A cluster ADC beside its registers: the requests that wait, in the order in which they were made, the conversion in
progress with the short timestamp of its start, the tick of that start and the tick of the last reference request. -/
structure AdcSt where
  wait : List AdcReq
  cur : Option (AdcReq × Word)
  began : Nat
  refTick : Nat
  deriving DecidableEq, Repr

def AdcSt.reset : AdcSt := ⟨[], none, 0, 0⟩

/-! ### Host interface -/

/-- A host-sourced setpoint (R327): position, velocity and acceleration in the formats of R12, EFFECTIVE as a full time in
nanoseconds and VALID_NS. -/
structure Setp where
  p : Int
  v : Int
  a : Int
  eff : Nat
  valid : Nat
  deriving DecidableEq, Repr

/-- The setpoints of a channel (R327): the one in force and the one pending. -/
structure SetpSt where
  inForce : Option Setp
  pending : Option Setp
  deriving DecidableEq, Repr

def SetpSt.reset : SetpSt := ⟨none, none⟩

/-- A submission ring beside its registers: the tail of the last poll, the index of the next descriptor to start, the
descriptors started and not complete, whether it is ignored until re-enabled (R319), whether it was disabled and
still completes what it fetched (R322), and the fetches left in this poll (R320). -/
structure SqSt where
  tail : Nat
  next : Nat
  running : Nat
  ignored : Bool
  closing : Bool
  left : Nat
  deriving DecidableEq, Repr

def SqSt.reset : SqSt := ⟨0, 0, 0, false, false, 0⟩

/-- An entry of a completion ring before its sequence number and stamp: type, status, ring, tag, position and result, and
whether its descriptor asked for an MSI-X message. -/
structure CplRec where
  type : Nat
  status : Nat
  ring : Nat
  tag : Nat
  pos : Nat
  result : List Nat
  irq : Bool
  deriving DecidableEq, Repr

/-- A completion ring, or the event ring, beside its registers: the host's head at the last poll, the full time in
nanoseconds that its last reference or heartbeat carries, the entry written last with its host address, the records that
wait for a free entry, the elapsed tick of the last MSI-X message with the vector of one that is due, the entries whose
read-backs are outstanding with the ticks at which these began, oldest first, and the heartbeats written. -/
structure CqSt where
  head : Nat
  ref : Option Nat
  last : Option (Nat × List Byte)
  wait : List CplRec
  sent : Option Nat
  due : Option Nat
  readbacks : List (List Byte × Nat)
  hbCount : Nat
  deriving DecidableEq, Repr

def CqSt.reset : CqSt := ⟨0, none, none, [], none, none, [], 0⟩

/-- The rings of an owner: submission rings 0 to 7; completion rings 0 to 7 and the event ring as 8; and the offsets of the
accesses that its function has logged through AER (R22), newest first; the last poll instant (R318), the tick of the
last heartbeats (R339), the tick at which its function-level reset began (R342), and the class
B grants that it has had in the round (R337). -/
structure HifSt where
  sqs : Tab SqSt
  cqs : Tab CqSt
  aer : List Nat
  pollT : Option Nat
  hbTick : Nat
  flrTick : Nat
  grants : Nat
  deriving DecidableEq, Repr

def HifSt.reset : HifSt := ⟨[], [], [], none, 0, 0, 0⟩

/-! ### Memory, pools and DMA -/

/-- A buffer of a pool (R349, R350): its generation and its holder, coded as POOL_LAST_INFO.OWNER. -/
structure BufSt where
  gen : Nat
  holder : Option Nat
  deriving DecidableEq, Repr

def BufSt.reset : BufSt := ⟨0, none⟩

/-- A running checksum (R357): kind, the CRC register or the ones' complement sum, and a byte that waits for its pair. -/
structure CsumSt where
  kind : Nat
  acc : Nat
  odd : Option Nat
  deriving DecidableEq, Repr

/-- A copy request (R360): owner, submission ring and index, COPY_OUT or COPY_IN, host address, buffer handle, offset,
length, checksum kind, append, and the descriptor's tag and flags. -/
structure CopyReq where
  od : Nat
  ring : Nat
  idx : Nat
  out : Bool
  host : Nat
  handle : Word
  off : Nat
  len : Nat
  csum : Nat
  append : Bool
  tag : Nat
  flags : Nat
  deriving DecidableEq, Repr

/-- A side of a transfer: its space, its address in that space and the handle of a buffer (R355). -/
structure Side where
  space : Nat
  addr : Nat
  handle : Word
  deriving DecidableEq, Repr

/-- The transfer of a DMA channel as its START took it: the sides, the bytes to move, the kind of checksum and whether it is
appended (R355 to R357). [DEDUCED, unsafe, log 176] -/
structure DmaRun where
  src : Side
  dst : Side
  count : Nat
  csum : Nat
  append : Bool
  deriving DecidableEq, Repr

/-- A copy on a copy channel: its request, the segments written, its running checksum, the key of its owner when it was taken,
and whether a function-level reset ends it after the segment in progress (R362). -/
structure CopyRun where
  req : CopyReq
  segs : Nat
  csum : CsumSt
  key : Nat
  abort : Bool
  deriving DecidableEq, Repr

/-- The memory region beside its registers: the SRAM, the key under which each 16-byte block of the in-package memory
was last written, the owners' keys and the device key with the next key number (R345), the poisoned 8-byte words of the
SRAM (even numbers) and of the in-package memory (odd), the buffers by index, the number of each class from which no
buffer has been handed out and the buffers freed since, oldest first (R350), the running checksums of the DMA channels,
the copies that wait and those that run, the owner that each copy channel served last (R361), the transfers of the DMA channels,
and the tick at which the patrol last took a word (R347). -/
structure MemSt where
  sram : List Host.Cell
  keys : Tab Nat
  owner : List Nat
  device : Nat
  nextKey : Nat
  poison : List Nat
  bufs : Tab BufSt
  fresh : List Nat
  freed : List (List Nat)
  run : Tab CsumSt
  waiting : List CopyReq
  copies : List (Option CopyRun)
  lastOwner : List Nat
  live : Tab (Option DmaRun)
  scrubbed : Tab (Option Nat)
  deriving DecidableEq, Repr

/-- At the end of power-on reset the device key and the owners' keys have been generated (R345); the memories hold
nothing that anybody has written. -/
def MemSt.reset : MemSt :=
  ⟨[], [], [1, 2, 3, 4], 5, 6, [], [], [0, 0, 0, 0], [[], [], [], []], [], [], [none, none, none, none], [3, 3, 3, 3], [], []⟩

/-! ### Capture -/

/-- A capture session beside its registers: the channels of a row, D and the effective counts fixed at arming (R369 to
R371), the rows stored since arming with their full times (newest first, in units of 2^-16 ns), the AXIS_SAMPLEs counted
since arming, the latch instants still to come with their stamps (R366), the last latch instant and its distance from the
one before (R368), the values of the previous row, the conditions of kinds 5 to 7 that were hit with the instants at which
the hits reached Lupin (R373; latch and hit instants in elapsed time, units of 2^-16 ns), the rows
lost since the last stored one, the numbers of the trigger row, the mask row and the first faulted row, the rows after
the trigger, and CSn_CFG, CSn_BUF_BASE and CSn_BUF_SIZE at arming. -/
structure CapSt where
  chans : List Nat
  depth : Nat
  post : Nat
  pre : Nat
  total : Nat
  times : List Nat
  samples : Nat
  latches : List (Nat × Nat)
  last : Option Nat
  gap : Nat
  prev : List Int
  hits : List (Nat × Nat)
  lost : Nat
  lossy : Bool
  trig : Option Nat
  mask : Option Nat
  fault : Option Nat
  after : Nat
  cfg : Word
  base : Nat
  size : Nat
  deriving DecidableEq, Repr

def CapSt.reset : CapSt := ⟨[], 0, 0, 0, 0, [], 0, [], none, 0, [], [], 0, false, none, none, none, 0, 0, 0, 0⟩

/-- A point of an envelope (R377): lower and upper bound. -/
structure EnvPoint where
  lo : Int
  hi : Int
  deriving DecidableEq, Repr

/-- The envelope of a channel (R377): its points, and of a load in progress the number of points and the handle. -/
structure EnvSt where
  points : List EnvPoint
  n : Nat
  handle : Word
  deriving DecidableEq, Repr

def EnvSt.reset : EnvSt := ⟨[], 0, 0⟩

/-! ### Ethernet -/

/-- A frame at an egress port: its bytes up to the FCS, its class, for a launched frame its slot and launch time in units of
2^-16 ns, for a PTP message in transit its ingress port and the elapsed time of its ingress (R50), the time for which a
preempted frame has already been sent, both in those units, and whether it ends with an inverted FCS (R388). -/
structure TxFrame where
  bytes : List Byte
  tc : Nat
  launch : Option (Nat × Nat)
  ingress : Option (Nat × Nat)
  sent : Nat
  bad : Bool
  deriving DecidableEq, Repr

/-- A port of the switch beside its registers (0 and 1 for ETH0 and ETH1, 2 for ETHI): its queues as one list in order of
arrival, the frame that is leaving, a preempted frame whose remainder is held, the launches delivered and not started
(R398), the hold of the MAC (R390), the entry of the oper list in force, its end and whether the cycle ends with it, the
BASE, CYCLE and CYCLE_EXT of the oper list in ns, CT in ns, the SAK words written, the installed keys by direction,
channel and association, the transmit association and the next packet number, the next packet number of each receive
association, a running STRANGER_HOLD with the strangers since the last event, the port fault, the writes to the transmit
area that wait for a frame to leave (R396), the tick at which the frame that is leaving started, the tick of the last
stranger event, the list that a CONFIG_CHANGE has checked, with its BASE, CYCLE and CYCLE_EXT (R391), whether the list waits
to resume after a step of the counter (R394), the strangers counted by reason, the 8 addresses of MSECn_ALLOW
(R405), and the word-alignment position of the link in units of 2^-16 ns (R52). [DESIGN CHOICE, unsafe, log 180] -/
structure EthSt where
  queue : List TxFrame
  cur : Option TxFrame
  held : Option TxFrame
  launches : List TxFrame
  macHold : Bool
  idx : Nat
  entryEnd : Nat
  wrap : Bool
  base : Nat
  cycle : Nat
  ext : Nat
  ct : Option Nat
  sak : List Word
  keys : Tab (List Word)
  txAn : Option Nat
  txPn : Nat
  rxPn : Tab Nat
  hold : Bool
  since : Nat
  fault : Bool
  area : List (Nat × Nat × Word)
  began : Nat
  holdTick : Nat
  next : List (Word × Word)
  nextBase : Nat
  nextCycle : Nat
  nextExt : Nat
  resync : Bool
  strangers : Tab Nat
  allow : List Nat
  align : Nat
  deriving DecidableEq, Repr

def EthSt.reset : EthSt :=
  ⟨[], none, none, [], false, 0, 0, false, 0, 0, 0, none, [0, 0, 0, 0, 0, 0, 0, 0], [], none, 0, [], false, 0, false, [],
   0, 0, [], 0, 0, 0, false, [], [0, 0, 0, 0, 0, 0, 0, 0], 0⟩

/-- An entry of the filtering database (R386): address, port, and the elapsed tick at which it was last learned. -/
structure FdbEntry where
  mac : Nat
  port : Nat
  tick : Nat
  deriving DecidableEq, Repr

/-! ### CAN -/

/-- What a controller has on the bus. -/
inductive CanSrc where
  /-- An event-driven buffer, with the RETRY in force when this attempt started (R415). -/
  | eb (b retry : Nat)
  | tt (b : Nat)
  | ref
  deriving DecidableEq, Repr

/-- A CAN controller beside its registers and its message RAM: what it has on the bus, whether another node's frame holds
the bus, the failed attempts of each event-driven buffer, the buffers that launches made pending with their launch times in
order of delivery (R78), the element writes that wait for a frame to end (R416), the start of the basic cycle in force in
ns, the next window, the use of the window in force, its start in elapsed time and the next window's start in units of
2^-16 ns, an exclusive buffer that waits for an idle bus (R419), the tick at which the lock of each queue was taken (R427),
and the tick of bus-off (R412). -/
structure CanSt where
  cur : Option CanSrc
  busy : Bool
  fails : Tab Nat
  order : List (Nat × Nat)
  writes : List (Nat × Word)
  cycleAt : Option Nat
  nextWin : Nat
  kind : Nat
  winAt : Nat
  winEnd : Nat
  wait : Option Nat
  lockTick : Tab Nat
  offTick : Nat
  deriving DecidableEq, Repr

def CanSt.reset : CanSt := ⟨none, false, [], [], [], none, 0, 0, 0, 0, none, [], 0⟩

/-! ### Field I/O -/

/-- The field die beside its registers: the inputs whose counter has reached an end since it started (R436, one bit per
channel), the outputs that are driven on (one bit per output), the tick at which each last changed (R441), the bridge loss
that holds the outputs off (R448), the channels in their cell safe state (R17, one bit per channel), the outputs whose
level, and those whose LAUNCH_OFF, register writes have set in their latest tick (R442), the tick at which each input's
counter last stood at an end or started (R435), and the tick of VF_LOW (R447). -/
structure FioSt where
  reached : Nat
  drive : Nat
  since : Tab Nat
  lost : Bool
  bad : Nat
  regTick : Nat
  regOut : Nat
  regClr : Nat
  endTick : Tab Nat
  lowTick : Nat
  deriving DecidableEq, Repr

def FioSt.reset : FioSt := ⟨0, 0, [], false, 0, 0, 0, 0, [], 0⟩

/-! ### Safety -/

/-- A record of a safety parameter set: offset, value and mask. -/
structure PsetRec where
  addr : Nat
  value : Word
  mask : Word
  deriving DecidableEq, Repr

/-- A safety parameter set (*Safety parameter set*): its SEQ, its CRC and its records. -/
structure Pset where
  seq : Nat
  crc : Word
  recs : List PsetRec
  deriving DecidableEq, Repr

/-- A running brake test (R469): the axis, the ledger ticket, whether BT_SETTLE has passed and the position recorded
then, the elapsed tick of the start, then of the end of BT_SETTLE, that from which the current has stayed at or above BT_I,
the peak current and the largest movement in units of 2^-16 rev. -/
structure BtRun where
  axis : Nat
  ticket : Nat
  settled : Bool
  p0 : Int
  start : Nat
  since : Option Nat
  peak : Nat
  moved : Nat
  deriving DecidableEq, Repr

/-- A brake beside its registers: the elapsed tick of the last change of its command, the dark test's switch (BRKH when
false) and whether one runs, the tick of its last dark test or release, and that of the last passed brake test. -/
structure BrkSt where
  since : Nat
  darkL : Bool
  dark : Bool
  darkTick : Nat
  lastPass : Nat
  deriving DecidableEq, Repr

def BrkSt.reset : BrkSt := ⟨0, false, false, 0, 0⟩

/-- Hollyhock and Foxglove beside their registers: the accepted levels of the safe inputs (one bit per pair and
channel), the tick since which each raw level (SInA, SInB, SRESET) has differed from the accepted one, the tick since which
the channels of a pair disagree, the global safe state, the groups whose SS1-t timer has expired, the tick at which each
timer started, the unlock that awaits its pulse and its tick, the bytes of a set that is being checked (none inside when
its handle failed), the set that awaits acknowledgement with its tick, the set in force and the one in the flash, whether
the reload after the release of the safety domain is over, the running brake test, the brakes, the groups whose readback
disagreed in the last cycle, the frames in which the DC-link sources differ, what the last cycle found wrong (Foxglove's
registers, the own copy of the set, the results of the channels), the latest tap of each axis's position, the tick of the
last safety cycle, the tick of SRESET's filtered rising edge and whether the last cycle found the falling edge of a valid
pulse (R456), and the tick of the last re-arm of each STO pin whose wave runs, STOg_EN0 at 2g and STOg_EN1 at 2g + 1
(R459). -/
structure SafSt where
  siA : Nat
  siB : Nat
  siSince : Tab (Option Nat)
  discSince : Tab (Option Nat)
  globalSafe : Bool
  ss1Expired : Nat
  ss1Start : List Nat
  unlock : Option (Option Nat)
  unlockTick : Nat
  psetRead : Option (Option (List Byte))
  psetWait : Option Pset
  psetTick : Nat
  psetForce : Option Pset
  psetFlash : Option Pset
  reloaded : Bool
  bt : Option BtRun
  brk : Tab BrkSt
  mismatch : Nat
  dlDiffer : Tab Nat
  fxgDiffers : Bool
  copyBad : Bool
  disagree : Bool
  posTap : Tab Int
  cycTick : Option Nat
  srRise : Nat
  srPulse : Bool
  waves : Tab (Option Nat)
  deriving DecidableEq, Repr

def SafSt.reset : SafSt :=
  ⟨0, 0, [], [], false, 0, [0, 0, 0, 0], none, 0, none, none, 0, none, none, false, none, [], 0, [], false, false, false, [],
   none, 0, false, []⟩

/-! ### Clocks, resets and power -/

/-- The power states of *Power states* (Idle shows no state of its own, R521). -/
inductive Power where
  | run | doze | dormant
  deriving DecidableEq, Repr

/-- Clock, reset and power control beside its registers: the power state and whether a wake is under way with its source,
the domains held in reset (numbered as *Release order*, always-on as 0) and those still to be released in their order,
whether EV0011 (R520) and EV0008 (R26) wait for the management domain, the elapsed tick of the last end of a reset; the
reference switch with its new reference, cause, start as full time and elapsed tick and the PLLs not yet ready on the new
reference, the better reference that waits; whether SYSPLL has been ready since the release of the clocks domain (R518),
whether Marigold is started, whether a missing-clock trip waits for it, whether SUPPLY_EN is driven high, the elapsed
tick of the watchdog's last kick and whether a chip-level fault requests its reset (R24); the trim frames counted (R508),
whether MEMPLL or NETPLL has failed and is not ready again, and whether ENG runs; the elapsed ticks at which the hold-off
of R503 began, the missing-clock trip fell (R511), MEMPLL failed, Snowdrop and Marigold were last trimmed (R506, R507), and
the last domain was released, none where the next release is due at once (R517). -/
structure ClkSt where
  power : Power
  waking : Bool
  wakeSrc : Nat
  down : List Nat
  releases : List Nat
  raise11 : Bool
  raise8 : Bool
  resetTick : Nat
  swNew : Nat
  swCause : Nat
  swStart : Nat
  swTick : Nat
  swWait : List Nat
  pendingRef : Option Nat
  sysSeen : Bool
  marigold : Bool
  tripped : Bool
  supplyEn : Bool
  kickTick : Nat
  wdogAsk : Bool
  trimCount : Nat
  memWait : Bool
  netDown : Bool
  engRuns : Bool
  holdTick : Nat
  tripTick : Nat
  memTick : Nat
  sdTick : Option Nat
  mgTick : Option Nat
  relTick : Option Nat
  deriving DecidableEq, Repr

/-- At the end of power-on reset the always-on domain is released and starts Marigold; the other nine wait (R517). -/
def ClkSt.reset : ClkSt :=
  ⟨.run, false, 0, [1, 2, 3, 4, 5, 6, 7, 8, 9], [1, 2, 3, 4, 5, 6, 7, 8, 9], true, false, 0, 3, 0, 0, 0, [], none, false,
   true, false, true, 0, false, 0, false, false, false, 0, 0, 0, none, none, some 0⟩

/-! ### Management -/

/-- A journal entry (*Journal entry, 64 bytes*): its number, full time, kind, source, severity and the fields of its
body in the order that the rule which journals it names them. -/
structure JEntry where
  seq : Nat
  full : Nat
  kind : Nat
  source : Nat
  sev : BitVec 2
  body : List Nat
  deriving DecidableEq, Repr

/-- An entry of the maintenance ledger (R555): activity, object, holder (coded as POOL_LAST_INFO.OWNER), ticket and the
elapsed tick of the grant. -/
structure LedgerEntry where
  activity : Nat
  object : Nat
  holder : Nat
  ticket : Nat
  since : Nat
  deriving DecidableEq, Repr

/-- A root-key slot of the OTP (R533): the hash of its key, its revocation bit and its debug bit. -/
structure RootKey where
  hash : Nat
  revoked : Bool
  debug : Bool
  deriving DecidableEq, Repr

/-- An open re-plan proposal (PLAN_LIST, R550). -/
structure Proposal where
  axis : Nat
  quantity : Nat
  inForce : Nat
  proposed : Nat
  time : Nat
  deriving DecidableEq, Repr

/-- A debug session (R541, R544). -/
structure DebugSession where
  permit : Nat
  notAfter : Nat
  deriving DecidableEq, Repr

/-- The drive-ageing model and the plan of one axis (R548 to R551): junction temperature in units of 2^-32 K, the last
confirmed turning point, the running extreme and its direction, the half-cycle count per bin, the consumed life in units
of 2^-32 of 10^-9, the energy in units of 2^-32 J, the peak of the running hour and the life at its start, the hours
without stress, and the planned values of IQ_CAP, GUARD and PERIOD, latest first and the integrator's last; none without a
step in force. -/
structure ThermalSt where
  tj : Int
  turn : Option Int
  ext : Int
  rising : Bool
  bins : Tab Nat
  life : Nat
  energy : Nat
  peak : Int
  lifeHour : Nat
  calm : Nat
  caps : List Nat
  guards : List Nat
  periods : List Nat
  deriving DecidableEq, Repr

def ThermalSt.reset : ThermalSt := ⟨0, none, 0, true, [], 0, 0, 0, 0, 0, [], [], []⟩

/-- The plan of a brake chopper (R550): the hours without stress, and the planned values of MAX_DUTY, latest first and
the integrator's last; none without a step in force. -/
structure ChopSt where
  calm : Nat
  duties : List Nat
  deriving DecidableEq, Repr

def ChopSt.reset : ChopSt := ⟨0, []⟩

/-- Camellia beside its registers: the journal in flash and the always-on log buffer (R529, R531), the next entry number,
whether the flash fails and whether log compaction runs (R531, R532); the OTP's root keys and rollback counter (R533); the image slots, the preferred one,
its trial flag and the elapsed tick of the running image's boot (R537); the signed policies in flash, in force and staged,
each with what its checks find (R535); the latest sensor values (R527) and which temperature sensors have warned (R528);
v_floor and the elapsed tick since which the slack has stayed above SLACK_HI (R545); the life counters in the always-on domain and their copy in flash (R553); the calendar in units of 2^-16 ns, the
elapsed tick of the last LOCKED, and whether its next set journals a step (R554); the ledger, its last ticket and the
deferred activation with its holder and mode (R555, R556); the open proposals (R550); the thermal models and the chopper
plans; the test access port's instruction, the number of the challenge in force, the debug session, the refusals in a
row, whether the refusal period runs, the reason of the last refusal and what the debug port's data register and the boundary-scan cells hold (R539 to R543); which processors are halted, MS0 to MS3 and Camellia, and their memories and registers as the debug port has
written them; how often the flash has been refreshed (R547); the records that wait in Camellia's intake with the elapsed tick at
which the running hour of the journal's rate began and the entries written in it (R530); the elapsed tick at which each
recurring duty last ran, the hour of the calendar that was last evaluated (R550) and the elapsed tick at which the refusal
period began. -/
structure MgmtSt where
  journal : List JEntry
  buffer : List JEntry
  nextSeq : Nat
  flashDown : Bool
  compacting : Bool
  keys : List RootKey
  rollback : Nat
  slotA : Option Image
  slotB : Option Image
  preferredB : Bool
  trialFlag : Bool
  bootTick : Nat
  policyFlash : Policy
  policyImage : Image
  policyStaged : Option (Policy × Image)
  temps : List Int
  volts : List Nat
  delays : List Int
  srams : List Nat
  warned : List Bool
  vFloor : Nat
  slackHiSince : Option Nat
  life : Tab Nat
  lifeFlash : Tab Nat
  calendar : Nat
  lockedTick : Nat
  calFirst : Bool
  ledger : List LedgerEntry
  lastTicket : Nat
  deferred : Option (Nat × Nat)
  proposals : List Proposal
  thermal : Tab ThermalSt
  chops : Tab ChopSt
  tapIr : Nat
  challengeNo : Nat
  session : Option DebugSession
  refusals : Nat
  refusing : Bool
  lastReason : Nat
  dbgData : Nat
  halted : List Bool
  coreMem : Tab (Option Word)
  coreReg : Tab (Option Word)
  bsr : Nat
  ecFlashCopies : Nat
  intake : List EvRec
  hourStart : Nat
  hourCount : Nat
  duties : Tab (Option Nat)
  replanHour : Nat
  refuseTick : Nat
  deriving DecidableEq, Repr

/-- The policy with which the model's device leaves power-on reset.
[DEDUCED, unsafe, log 93; DESIGN CHOICE, unsafe, log 119] -/
def Policy.reset : Policy :=
  ⟨[], [.operator, .maintainer, .safety, .observer], 1, 0, [], List.replicate 16 65535, [1, 1, 1, 1]⟩

/-- A device as it leaves its first power-on: only the entry of that reset (R520), in the log buffer; one root key that signs its only image, in slot A, and its
policy; every life counter 0 but POWER_CYCLES (R553). [DESIGN CHOICE, unsafe, log 119] -/
def MgmtSt.reset : MgmtSt where
  journal := []
  buffer := [⟨0, 0, 1, 7, Config.severity 11, [0]⟩]
  nextSeq := 1
  flashDown := false
  compacting := false
  keys := [⟨1, false, true⟩, ⟨2, false, false⟩, ⟨3, false, false⟩, ⟨4, false, false⟩]
  rollback := 0
  slotA := some ⟨1, true, true, 0, 1, 4194304, false⟩
  slotB := none
  preferredB := false
  trialFlag := false
  bootTick := 0
  policyFlash := Policy.reset
  policyImage := ⟨1, true, true, 0, 1, 65536, false⟩
  policyStaged := none
  temps := List.replicate 12 0
  volts := List.replicate 16 0
  delays := List.replicate 24 0
  srams := List.replicate 4 0
  warned := List.replicate 9 false
  vFloor := 720
  slackHiSince := none
  life := [(1, 1)]
  lifeFlash := []
  calendar := 0
  lockedTick := 0
  calFirst := false
  ledger := []
  lastTicket := 0
  deferred := none
  proposals := []
  thermal := []
  chops := []
  tapIr := 1
  challengeNo := 0
  session := none
  refusals := 0
  refusing := false
  lastReason := 0
  dbgData := 0
  halted := [false, false, false, false, false]
  coreMem := []
  coreReg := []
  bsr := 0
  ecFlashCopies := 0
  intake := []
  hourStart := 0
  hourCount := 0
  duties := []
  replanHour := 0
  refuseTick := 0

/-! ### The state -/

/-- Whatever the device sends to the outside, newest first: the model's own record of it. [DESIGN CHOICE, safe, log 9] -/
inductive Out where
  /-- The value a register read returned. -/
  | read (rq : Rq) (addr : Nat) (v : Word)
  /-- A PTP message left a port, over UDP or directly over IEEE 802.3, with its egress timestamp when it is an event
  message, and the timestamp of another event message that it carries. -/
  | ptp (port : Nat) (m : PtpMsg) (udp : Bool) (stamp carried : Nat)
  /-- A memory write to an owner's host memory. -/
  | host (od : Nat) (addr : Nat) (data : List Byte)
  /-- The answer to a configuration request of a function: completed with its Vendor ID, Device ID, Revision ID, class code,
  Subsystem Vendor ID and Subsystem ID (R313), or Configuration Request Retry Status. -/
  | config (od : Nat) (answered : Bool) (ids : List Nat)
  /-- A frame left an egress port, ended with an inverted FCS (R388): its bytes up to the FCS. -/
  | stomped (port : Nat) (bytes : List Byte)
  /-- A frame left an egress port: its bytes up to the FCS, and under MACsec its association, packet number and whether
  it is encrypted. -/
  | frame (port : Nat) (bytes : List Byte) (sec : Option (Nat × Nat × Bool))
  /-- A frame that a CAN controller sent completed on the bus. -/
  | can (c : Nat) (f : CanFrame)
  /-- An access on the MDIO bus began: OP, PHY, REG and DATA of ETH_MDIO. -/
  | mdio (word : Word)
  /-- An MSI-X message of a function. -/
  | msix (od : Nat) (vector : Nat)
  /-- A non-posted read of host memory: owner, address and bytes. -/
  | hostRead (od : Nat) (addr : Nat) (bytes : Nat)
  /-- What a data register of the test access port shifts out under an instruction. -/
  | jtag (ir data : Nat)
  /-- A read by the device's own processors or the debug port that an isolated region answered: the value returned, with a
  bus-error status (R22). -/
  | busError (rq : Rq) (addr : Nat) (v : Word)
  /-- A read by an owner's function that completed with Completer Abort status (R22). -/
  | completerAbort (od : Fin 4) (addr : Nat)
  deriving DecidableEq, Repr

/-- The state of the device. -/
structure State where
  pending : List Instr
  regs : Tab Word
  mem : List Host.Cell
  pol : Policy
  free : Nat
  out : List Out
  tb : TimeSt
  lqs : Tab QueueSt
  held : List Held
  evt : EvtSt
  pwm : Tab PwmSt
  bch : Tab BchSt
  mg : MgmtSt
  clk : ClkSt
  saf : SafSt
  sense : SenseSt
  snaps : Tab (List Word)
  fb : Tab FbSt
  prb : Tab PrbSt
  chans : Tab Chan
  grps : Tab Grp
  ae : Tab AeSt
  sup : Tab SupSt
  hif : Tab HifSt
  setp : Tab SetpSt
  wide : Tab (Option (Nat × Word))
  msix : Tab Word
  ipm : MemSt
  lsh : LshSt
  aux : Tab AuxSt
  adc : Tab AdcSt
  cap : Tab CapSt
  env : Tab EnvSt
  eth : Tab EthSt
  fdb : List FdbEntry
  can : Tab CanSt
  fio : FioSt
  stag : Tab Stag
  deriving DecidableEq, Repr

/-- The machine right after reset: the end of a power-on reset (R516, R517). Every register holds its reset value; the
device lock-out is set with cause 1 and STO asserted (the reset values of SAF_LOCK and SAF_STO).
[DESIGN CHOICE, unsafe, log 11 and 12] -/
def State.reset : State where
  pending := []
  regs := []
  mem := []
  pol := Policy.reset
  free := 0
  out := []
  tb := TimeSt.reset
  lqs := []
  held := []
  evt := EvtSt.reset
  pwm := []
  bch := []
  mg := MgmtSt.reset
  clk := ClkSt.reset
  saf := SafSt.reset
  sense := SenseSt.reset
  snaps := []
  fb := []
  prb := []
  chans := []
  grps := []
  ae := []
  sup := []
  hif := []
  setp := []
  wide := []
  msix := []
  ipm := MemSt.reset
  lsh := LshSt.reset
  aux := []
  adc := []
  cap := []
  env := []
  eth := []
  fdb := []
  can := []
  fio := FioSt.reset
  stag := []

end Sys2Proof.Machine
end

