-- ==== Sys2Proof/Machine/Ops.lean ====
section
/-! DEFINITION. The named operations over the state that every family uses: registers and their fields, requesters and
the policy, time, the events that fire, the journal, free values and outputs. -/

namespace Sys2Proof.Machine

/-! ### Registers -/

/-- The word at an offset of the register window. -/
def State.rd (s : State) (a : Nat) : Word := tabGet regReset s.regs a

/-- The state with a word of the register window written. -/
def State.wr (s : State) (a : Nat) (v : Word) : State := { s with regs := tabSet regReset s.regs a v }

/-- Every register whose offset does not satisfy `p` is at its reset value. -/
def State.keepRegs (s : State) (p : Nat → Bool) : State := { s with regs := s.regs.filter fun e => p e.1 }

/-- The value of a register field. -/
def State.g (s : State) (f : Fld) : Nat := getBits (s.rd f.addr) f.lo f.w

/-- The value of a register field read as two's complement. -/
def State.gi (s : State) (f : Fld) : Int := signed f.w (s.g f)

/-- Is a one-bit field 1 (a wider one not 0)? -/
def State.is (s : State) (f : Fld) : Bool := s.g f != 0

/-- The state with a register field set, to the low bits of `x`. -/
def State.p (s : State) (f : Fld) (x : Nat) : State := s.wr f.addr (putBits (s.rd f.addr) f.lo f.w x)

/-- The state with a register field set to a signed value, wrapping. -/
def State.pi (s : State) (f : Fld) (x : Int) : State := s.p f (unsigned f.w x)

/-- The state with a one-bit field set to 1. -/
def State.on (s : State) (f : Fld) : State := s.p f 1

/-- The state with a field set to 0. -/
def State.off (s : State) (f : Fld) : State := s.p f 0

/-- The state with a one-bit field set to the truth value. -/
def State.pb (s : State) (f : Fld) (b : Bool) : State := s.p f (bit b)

/-- The state with a saturating count field raised by `d`. -/
def State.count (s : State) (f : Fld) (d : Nat) : State := s.p f (satAdd f.w (s.g f) d)

/-- The state with a count field that wraps raised by one. -/
def State.wrapCount (s : State) (f : Fld) : State := s.p f (s.g f + 1)

/-- The signed 64-bit value of a pair of words, low word at `lo` and high word at `hi`. -/
def State.rd64 (s : State) (lo hi : Nat) : Int := signed 64 ((s.rd lo).toNat + 2 ^ 32 * (s.rd hi).toNat)

/-- The state with a pair of words set to the low 64 bits of `x`. -/
def State.wr64 (s : State) (lo hi : Nat) (x : Int) : State :=
  (s.wr lo (BitVec.ofNat 32 (unsigned 64 x))).wr hi (BitVec.ofNat 32 (unsigned 64 x / 2 ^ 32))

/-- `k` applied when `b` holds. -/
def State.when (s : State) (b : Bool) (k : State → State) : State := if b then k s else s

/-- A state change applied for each entry of a list, in order. -/
def State.each {α : Type} (s : State) (l : List α) (k : α → State → State) : State := l.foldl (fun t a => k a t) s

/-! ### Free values -/

/-- The next value that the spec leaves open, as a word. [DESIGN CHOICE, safe, log 10] -/
def State.freshWord (s : State) : Word := Config.freeWord s.free

/-- The next value that the spec leaves open, as a truth value. [DESIGN CHOICE, safe, log 10] -/
def State.freshBool (s : State) : Bool := Config.freeBool s.free

/-- The state after an open value has been taken. [DESIGN CHOICE, safe, log 10] -/
def State.took (s : State) : State := { s with free := s.free + 1 }

/-- The state after the device has sent something out. [DESIGN CHOICE, safe, log 9] -/
def State.emit (s : State) (o : Out) : State := { s with out := o :: s.out }

/-! ### Time -/

/-- Full time in units of 2^-16 ns (R38, R12). -/
def State.now (s : State) : Nat := s.tb.ctr / 2 ^ 16

/-- Total nanoseconds of full time. -/
def State.nowNs (s : State) : Nat := s.tb.ctr / 2 ^ 32

/-- The short timestamp of a full time (R45). -/
def shortOf (full : Nat) : Word := BitVec.ofNat 32 (full / 2 ^ 16)

/-- The live short timestamp (R45). -/
def State.short (s : State) : Word := shortOf s.now

/-- One second in units of 2^-16 ns. -/
def secUnits : Nat := 1000000000 * 65536

/-- Elapsed nanoseconds, each tick at its nominal 4 ns (R600). -/
def State.elapsed (s : State) : Nat := s.tb.ticks * 4

/-- The elapsed time at an instant of the running tick, in units of 2^-16 ns of 4 ns ticks: no step of the counter moves it
(R600). -/
def State.elapsedAt (s : State) (t : Nat) : Nat := ((s.tb.ticks * 262144 : Nat) + ((t : Int) - s.now)).toNat

/-! ### Requesters and the policy -/

/-- The number that names a requester's shadows. -/
def Rq.idx : Rq → Nat
  | .od n => n.val
  | .ms n => 4 + n.val
  | .camellia => 8
  | .dbg => 9

/-- A requester's initiator code, as POOL_LAST_INFO.OWNER codes it; no rule codes the debug port.
[DESIGN CHOICE, safe, log 25] -/
def Rq.code : Rq → Nat
  | .od n => n.val
  | .ms _ => 4
  | .camellia => 5
  | .dbg => Config.debugInitiator

/-- The initiator as which a requester acts. -/
def Rq.init : Rq → Init
  | .od n => .od n.val
  | .ms _ => .larkspur
  | .camellia => .camellia
  | .dbg => .none

/-- The initiator that the policy gives an object to; an object that it does not name belongs to OD0. -/
def Policy.entry (p : Policy) (o : Obj) : Init :=
  match p.holders.find? (fun e => decide (e.1 = o)) with
  | some e => e.2
  | none => .od 0

/-- Does the object belong to exactly one owner domain at any time (R3)? -/
def Obj.exclusive : Obj → Bool
  | .axis _ | .aux _ | .nax _ | .session _ | .can _ => true
  | _ => false

/-- The initiator that holds an object under a policy. An object of R3 belongs to an owner domain whatever the policy's
entry says: to OD0 when the entry names none. [DEDUCED, unsafe, log 133] -/
def Policy.holder (p : Policy) (o : Obj) : Init :=
  if o.exclusive then
    match p.entry o with
    | .od n => if n < 4 then .od n else .od 0
    | _ => .od 0
  else p.entry o

/-- The holder of an object under the policy in force. -/
def State.holder (s : State) (o : Obj) : Init := s.pol.holder o

/-- The owner domain of an object, when an owner domain holds it. -/
def State.ownerOf (s : State) (o : Obj) : Option Nat :=
  match s.holder o with
  | .od n => some n
  | _ => none

/-- The role of an owner (R315). -/
def State.role (s : State) (n : Nat) : Role := s.pol.roles.getD n .observer

/-- The owner that holds the given role, if any. -/
def State.roleOwner (s : State) (r : Role) : Option Nat :=
  (List.range 4).find? (fun n => decide (s.role n = r))

/-- The code of an initiator in LQn_CFG.OWNER (*LQ0_CFG*). -/
def Init.queueCode : Init → Nat
  | .od n => n
  | .larkspur => 4
  | .lineShaft => 5
  | .camellia => 6
  | _ => 7

/-- The code of an initiator in POOL_LAST_INFO.OWNER. -/
def Init.poolCode : Init → Nat
  | .od n => n
  | .larkspur => 4
  | .camellia => 5
  | .lupin => 6
  | _ => 7

/-! ### Events -/

/-- The first event number of axis `n` (*Event numbers*). -/
def evAxis (n : Nat) : Nat := 256 + 32 * n
/-- The first event number of launch queue `q`. -/
def evQueue (q : Nat) : Nat := 80 + 3 * q
/-- The first event number of Ethernet port `n`. -/
def evPort (n : Nat) : Nat := 128 + 16 * n
/-- The first event number of CAN controller `n`. -/
def evCan (n : Nat) : Nat := 192 + 16 * n
/-- The first event number of auxiliary channel `n`. -/
def evAux (n : Nat) : Nat := 768 + 8 * n
/-- The first event number of DC-link group `g`. -/
def evGroup (g : Nat) : Nat := 960 + 4 * g
/-- The event number of Larkspur channel `k`. -/
def evChan (k : Nat) : Nat := 1024 + k
/-- The first event number of shaft `h`. -/
def evShaft (h : Nat) : Nat := 1216 + 4 * h
/-- The first event number of owner `n`'s rings. -/
def evHost (n : Nat) : Nat := 1280 + 16 * n
/-- The first event number of capture session `c`. -/
def evSession (c : Nat) : Nat := 1408 + 4 * c

/-- The object whose owner an event's records go to (R486, R3); `none` for a source that no object names.
[DEDUCED, unsafe, log 115] -/
def evObj (k : Nat) : Option Obj :=
  if 80 ≤ k && k < 128 then some (.queue ((k - 80) / 3))
  else if 192 ≤ k && k < 256 then some (.can ((k - 192) / 16))
  else if 256 ≤ k && k < 768 then some (.axis ((k - 256) / 32))
  else if 768 ≤ k && k < 960 then some (.aux ((k - 768) / 8))
  else if 1024 ≤ k && k < 1040 then some (.axis (k - 1024))
  else if 1040 ≤ k && k < 1064 then some (.aux (k - 1040))
  else if 1064 ≤ k && k < 1192 then some (.nax (k - 1064))
  else if 1376 ≤ k && k < 1408 then some (.dma (k - 1376))
  else if 1408 ≤ k && k < 1424 then some (.session ((k - 1408) / 4))
  else if 1552 ≤ k && k < 1584 then some (.fieldOut (k - 1552))
  else if 1616 ≤ k && k < 1664 then some (.axis ((k - 1616) % 16))
  else none

/-- The owner whose event queue an event's records enter (R486): for owner events the owner itself, else the owner of
the source object, else the owner that the policy gives. [DEDUCED, unsafe, log 115] -/
def State.evOwner (s : State) (k : Nat) : Option Nat :=
  if 1280 ≤ k && k < 1344 then some ((k - 1280) / 16)
  else match evObj k with
    | some o => s.ownerOf o
    | none => s.ownerOf (.event k)

/-- The route of an event in this tick: that in force before any write of the tick (R489). -/
def State.routeNow (s : State) (k : Nat) : Word :=
  match s.evt.routeOld.find? (fun e => e.1 == k) with
  | some e => if s.evt.routeTick == s.tb.ticks then e.2 else s.rd (R.EVT_ROUTE k)
  | none => s.rd (R.EVT_ROUTE k)

/-- A detected event takes its place: behind those of earlier ticks and, within its tick, in ascending number (R491). -/
def placeEvent (l : List Detected) (d : Detected) : List Detected :=
  let before := fun (x : Detected) => x.tick != d.tick || decide (x.ev ≤ d.ev)
  l.takeWhile before ++ d :: l.dropWhile before

/-- An event fires: it waits, with its full time and the route in force (R489), for its delivery by EVENT_DETECTED.
[DESIGN CHOICE, safe, log 6] -/
def State.raiseTo (s : State) (k : Nat) (payload : Word) (dest : Option Nat) : State :=
  { s with evt := { s.evt with
    detected := placeEvent s.evt.detected ⟨k, payload, s.now, s.tb.ticks, s.routeNow k, dest⟩ } }

/-- An event fires with the given payload (R484, R486). -/
def State.raise (s : State) (k : Nat) (payload : Word) : State := s.raiseTo k payload none

/-- An event fires with the content of its source's status register as payload (R484). -/
def State.raiseSt (s : State) (k addr : Nat) : State := s.raise k (s.rd addr)

/-! ### The journal -/

/-- The regions of *Subsystems and their regions*, numbered as GLB_REGION_STATE.ISOLATED. -/
def regMotion : Nat := 0
def regTime : Nat := 1
def regHost : Nat := 2
def regMemory : Nat := 3
def regSafety : Nat := 4
def regMgmt : Nat := 5
def regField : Nat := 6

/-- Is a region isolated (R22)? -/
def State.isolated (s : State) (r : Nat) : Bool := testBit (s.g F.GLB_REGION_STATE_ISOLATED) r

/-- Do journal entries go to the always-on log buffer (R531, R532, R32, R543)? -/
def State.journalDiverted (s : State) : Bool :=
  s.mg.flashDown || s.isolated regMgmt || s.mg.compacting || s.mg.halted.getD 4 false ||
    s.clk.down.contains 3

/-- The journal of 128 sectors of 1,024 entries: a full one erases its oldest sector before the next entry (R530). -/
def journalAppend (j : List JEntry) (e : JEntry) : List JEntry :=
  (if 131072 ≤ j.length then lastN 130048 j else j) ++ [e]

/-- The count of the entries written in the running hour, which starts anew when the hour is over (R530). An hour is
900,000,000,000 ticks. -/
def MgmtSt.rolled (m : MgmtSt) (now : Nat) : MgmtSt :=
  if m.hourStart + 900000000000 ≤ now then { m with hourStart := now, hourCount := 0 } else m

/-- The always-on log buffer holds 64 entries; when it is full, the newest entry overwrites the oldest (R531). -/
def bufferAppend (b : List JEntry) (e : JEntry) : List JEntry := lastN 64 (b ++ [e])

/-- A journal entry is written (R529): to the flash, or to the always-on log buffer while the flash is diverted. -/
def State.journal (s : State) (kind source : Nat) (sev : BitVec 2) (body : List Nat) : State :=
  let e : JEntry := ⟨s.mg.nextSeq, s.now, kind, source, sev, body⟩
  if s.journalDiverted
  then { s with mg := { s.mg with buffer := bufferAppend s.mg.buffer e, nextSeq := s.mg.nextSeq + 1 } }
  else
    let m := s.mg.rolled s.tb.ticks
    { s with mg := { m with
      journal := journalAppend m.journal e, nextSeq := m.nextSeq + 1, hourCount := m.hourCount + 1 } }

/-- Is a sequencer core halted by the debug port, or a maintenance entry of activity 4 held? Then ARM, EN = 1 of the
auxiliary channels and OP 1 of the followers are refused (R543, R557). -/
def State.armHeld (s : State) : Bool :=
  ((s.mg.halted.take 4).any id) || s.mg.ledger.any fun e => e.activity == 4

/-- The sequencer core that serves a channel (R224). -/
def coreOf (k : Nat) : Nat := if k < 16 then 0 else if k < 40 then 1 else if k < 104 then 2 else 3

/-- Life counter `i`, in the order of *Life counters, 64-bit*, takes `d` more; it saturates (R553). -/
def State.addLife (s : State) (i d : Nat) : State :=
  let v := min (tabGet (fun _ => 0) s.mg.life i + d) (2 ^ 64 - 1)
  { s with mg := { s.mg with life := tabSet (fun _ => 0) s.mg.life i v } }

/-- The first numbers of the life counters with more than one instance. -/
def lifeThermal : Nat := 2
def lifeEnergy : Nat := 18
def lifeBrake : Nat := 34
def lifeSwitch : Nat := 50
def lifeEncoder : Nat := 82

/-! ### Tables of the blocks -/

def State.supOf (s : State) (m : Nat) : SupSt := tabGet (fun _ => SupSt.reset) s.sup m
def State.setSup (s : State) (m : Nat) (x : SupSt) : State :=
  { s with sup := tabSet (fun _ => SupSt.reset) s.sup m x }
def State.pwmOf (s : State) (n : Nat) : PwmSt := tabGet (fun _ => PwmSt.reset) s.pwm n
def State.setPwm (s : State) (n : Nat) (x : PwmSt) : State := { s with pwm := tabSet (fun _ => PwmSt.reset) s.pwm n x }
def State.fbOf (s : State) (n : Nat) : FbSt := tabGet (fun _ => FbSt.reset) s.fb n
def State.setFb (s : State) (n : Nat) (x : FbSt) : State := { s with fb := tabSet (fun _ => FbSt.reset) s.fb n x }
def State.bchOf (s : State) (g : Nat) : BchSt := tabGet (fun _ => BchSt.reset) s.bch g
def State.setBch (s : State) (g : Nat) (x : BchSt) : State := { s with bch := tabSet (fun _ => BchSt.reset) s.bch g x }
def State.aeOf (s : State) (n : Nat) : AeSt := tabGet (fun _ => AeSt.reset) s.ae n
def State.setAe (s : State) (n : Nat) (x : AeSt) : State := { s with ae := tabSet (fun _ => AeSt.reset) s.ae n x }
def State.lqOf (s : State) (q : Nat) : QueueSt := tabGet (fun _ => QueueSt.reset) s.lqs q

def State.ethOf (s : State) (p : Nat) : EthSt := tabGet (fun _ => EthSt.reset) s.eth p
def State.setEth (s : State) (p : Nat) (x : EthSt) : State := { s with eth := tabSet (fun _ => EthSt.reset) s.eth p x }

/-- A launch queue's entries change; LQn_STATUS.COUNT and LQn_HEAD_NS follow. -/
def State.setLq (s : State) (q : Nat) (x : QueueSt) : State :=
  (({ s with lqs := tabSet (fun _ => QueueSt.reset) s.lqs q x }).p (F.LQ_STATUS_COUNT q) x.entries.length).wr
    (R.LQ_HEAD_NS q) (match x.entries with
      | [] => 0
      | e :: _ => BitVec.ofNat 32 (e.time / 2 ^ 16 % 1000000000))

/-- A Larkspur channel beside its registers. -/
def State.chanOf (s : State) (k : Nat) : Chan := tabGet (fun _ => Chan.reset) s.chans k
def State.setChan (s : State) (k : Nat) (x : Chan) : State :=
  { s with chans := tabSet (fun _ => Chan.reset) s.chans k x }

/-- LSP_CHk_STATUS.STATE. -/
def State.chanState (s : State) (k : Nat) : Nat := s.g (F.LSP_CH_STATUS_STATE k)

/-! ### Access to the register window -/

/-- The region that an offset of the register window lies in (R15, R572); `none` for the chip level, which no region
fault isolates. -/
def regionOf (a : Nat) : Option Nat :=
  match a / 0x100000 with
  | 0x0 => if 0x200 ≤ a && a < 0x400 then some regMotion else none
  | 0x2 => some regTime
  | 0x3 => some regTime
  | 0x4 => some regMotion
  | 0x5 => some regMotion
  | 0x6 => some regMotion
  | 0x7 => some regMotion
  | 0x8 => some regMotion
  | 0x9 => some regMotion
  | 0xA => some regMemory
  | 0xB => some regHost
  | 0xC => some regMemory
  | 0xD => some regTime
  | 0xE => some regTime
  | 0xF => some regField
  | 0x11 => some regSafety
  | 0x12 => some regMgmt
  | _ => none

/-- Who may write an offset of the window, and whether the grant binds the sequencer cores and Camellia too (R577). -/
inductive Grant where
  /-- Nobody by direct write. -/
  | nobody
  /-- The holder of the object; a grant that filters the owners only (R3, R60). -/
  | owners (o : Obj)
  /-- The holder of the object, whoever asks (R69, R354, R396, R434, R189, R364, R486). -/
  | bound (o : Obj)
  /-- The owner of that number (its private registers), the cores and Camellia. -/
  | privateTo (n : Nat)
  /-- The owner that holds the safety role only (R478). -/
  | safetyRole
  /-- The owner that holds the maintainer role, the cores and Camellia. -/
  | maintainer
  /-- Camellia only. -/
  | camelliaOnly
  /-- The sequencer cores only (R192). -/
  | coresOnly
  deriving DecidableEq, Repr

/-- The object of an LSP or LSH record of channel `k` (R224). -/
def chanObj (k : Nat) : Obj := if k < 16 then .axis k else if k < 40 then .aux (k - 16) else .nax (k - 40)

/-- The grant of an offset of the register window, block by block as each chapter gives it. -/
def grantOf (a : Nat) : Grant :=
  match a / 0x100000 with
  | 0x0 => if 0x300 ≤ a && a < 0x400 then .bound (.probe ((a - 0x300) / 0x20)) else .owners .glb
  | 0x1 => if a == R.RST_WDOG then .camelliaOnly else .owners .clk
  | 0x2 => if a < 0x201000 then .owners .tb else .bound (.queue ((a - 0x201000) / 0x40))
  | 0x4 => .owners (.axis ((a - 0x400000) / 0x10000))
  | 0x5 => if a < 0x560000 then .owners (.aux ((a - 0x500000) / 0x4000)) else .owners .auxCl
  | 0x6 =>
    if a < 0x608000 then .bound (.engine ((a - 0x600000) / 0x1000))
    else if 0x680000 ≤ a && a < 0x6C0000 then .owners (.axis ((a - 0x680000) / 0x4000))
    else if 0x6C0000 ≤ a then .coresOnly
    else .nobody
  | 0x7 => .bound (.engine ((a - 0x700000) / 0x10000 % 8))
  | 0x8 =>
    if 0x801000 ≤ a && a < 0x806400 then .owners (chanObj ((a - 0x801000) / 0x80))
    else if a < 0x880000 then .owners .lsp
    else if 0x881000 ≤ a && a < 0x883A00 then .owners (chanObj ((a - 0x881000) / 0x40))
    else if a < 0x880100 then .owners .lsh
    else if a < 0x884000 then .owners .lshShaft
    else if a < 0x884800 then .owners .lshCam
    else if a < 0x885000 then .owners .lshReg
    else .owners .lshCsw
  | 0xA => if a < 0xA01000 then .bound (.session ((a - 0xA00000) / 0x100)) else .bound (.capChan ((a - 0xA01000) / 0x10))
  | 0xB => if a < 0xB04000 then .privateTo ((a - 0xB00000) / 0x1000) else .nobody
  | 0xC =>
    if a < 0xC00200 then .owners .mem
    else if a < 0xC80000 then .nobody
    else if a < 0xC80700 then .bound (.dma ((a - 0xC80000) / 0x40))
    else .nobody
  | 0xD =>
    let o := a % 0x1000
    if a < 0xD02000 && 0x400 ≤ o && o < 0x600 then .bound (.slot ((a - 0xD00000) / 0x1000) ((o - 0x400) / 0x10))
    else if 0xD20000 ≤ a && a < 0xD40000 then .nobody
    else .owners .eth
  | 0xE => .owners (.can (if a < 0xE80000 then (a - 0xE00000) / 0x1000 else (a - 0xE80000) / 0x8000))
  | 0xF =>
    if a < 0xF00100 then .owners .fio
    else
      let k := (a - 0xF00100) / 8
      if 32 ≤ k && k < 64 then .bound (.fieldOut (k - 32)) else .owners .fio
  | 0x10 =>
    if a < 0x1002000 then
      match evObj ((a - 0x1000000) / 4) with
      | some o => .bound o
      | none => .bound (.event ((a - 0x1000000) / 4))
    else if a < 0x1002080 then .privateTo ((a - 0x1002000) / 0x20)
    else if 0x1002800 ≤ a && a < 0x1002C00 then .privateTo ((a - 0x1002800) / 0x100)
    else .owners .evt
  | 0x11 =>
    if a == R.SAF_UNLOCK || a == R.SAF_BT_CMD || a == R.SAF_PSET_HANDLE || a == R.SAF_PSET_CMD then .safetyRole
    else .nobody
  | 0x12 =>
    if 0x1201000 ≤ a && a < 0x1201800 then .privateTo ((a - 0x1201000) / 0x200) else .maintainer
  | _ => .nobody

/-- May the requester change what the offset holds (R576, R577, R315)? An observer never may. -/
def State.may (s : State) (rq : Rq) (a : Nat) : Bool :=
  match grantOf a, rq with
  | .nobody, _ => false
  | .owners o, .od n => decide (s.role n.val ≠ .observer) && decide (s.holder o = .od n.val)
  | .owners _, _ => true
  | .bound o, .od n => decide (s.role n.val ≠ .observer) && decide (s.holder o = .od n.val)
  | .bound o, q => decide (s.holder o = q.init) && decide (q.init ≠ .none)
  | .privateTo k, .od n => decide (s.role n.val ≠ .observer) && n.val == k
  | .privateTo _, _ => true
  | .safetyRole, .od n => decide (s.role n.val = .safety)
  | .safetyRole, _ => false
  | .maintainer, .od n => decide (s.role n.val = .maintainer)
  | .maintainer, _ => true
  | .camelliaOnly, q => decide (q = .camellia)
  | .coresOnly, .ms _ => true
  | .coresOnly, _ => false

/-- Does the function-level reset of the writing owner run (R338, R342)? -/
def State.flrRuns (s : State) (rq : Rq) : Bool :=
  match rq with
  | .od n => s.is (F.HIF_OD_STATUS_FLR_BUSY n)
  | _ => false

/-- Does R338 or R22 drop a requester's write to the offset, and with which reason of EVT_PWFi_INFO? -/
def State.dropReason (s : State) (rq : Rq) (a : Nat) : Option Nat :=
  if s.flrRuns rq then some 3
  else match regionOf a with
    | some r => if s.isolated r then some 1 else if s.clk.power ≠ .run then some 2 else none
    | none => if s.clk.power = .dormant then some 2 else none

/-- A dropped posted write of an initiator enters the fault log (R497), and EV0013 is raised to an event queue: of the writing
owner, or of Camellia for an internal initiator. -/
def State.dropLog (s : State) (code dest a reason : Nat) : State :=
  let first := s.g F.EVT_PWF_STATUS_COUNT == 0 && s.rd (R.EVT_PWF_INFO (s.g F.EVT_PWF_STATUS_NEWEST)) == 0
  let i := if first then 0 else (s.g F.EVT_PWF_STATUS_NEWEST + 1) % 16
  let s := (s.wr (R.EVT_PWF_ADDR i) (BitVec.ofNat 32 a)).wr (R.EVT_PWF_STAMP i) s.short
  let s := (s.p (F.EVT_PWF_INFO_INITIATOR i) code).p (F.EVT_PWF_INFO_REASON i) reason
  let s := (s.p F.EVT_PWF_STATUS_NEWEST i).count F.EVT_PWF_STATUS_COUNT 1
  s.raiseTo 13 (s.rd R.EVT_PWF_STATUS) (some dest)

/-- A dropped posted write of a requester is logged. [DEDUCED, unsafe, log 19] -/
def State.logDropped (s : State) (rq : Rq) (a reason : Nat) : State :=
  s.dropLog rq.code (match rq with | .od n => n.val | _ => 4) a reason

/-- A transfer cut at the multiples of `m` bytes of its address: the offset and the length of each piece. -/
def cuts (m a len : Nat) : List (Nat × Nat) :=
  if len == 0 then []
  else (List.range ((a + len - 1) / m + 1 - a / m)).map fun i =>
    let lo := max a ((a / m + i) * m)
    (lo - a, min (a + len) ((a / m + i + 1) * m) - lo)

/-- A transfer to host memory as memory writes of at most 256 bytes each (R311). -/
def State.hostSend (s : State) (n a : Nat) (l : List Byte) : State :=
  s.each (cuts 256 a l.length) fun c s => s.emit (.host n (a + c.1) ((l.drop c.1).take c.2))

/-- The memory read requests, of at most 512 bytes each, of a transfer from host memory (R311). -/
def State.hostFetch (s : State) (n a len : Nat) : State :=
  s.each (cuts 512 a len) fun c s => s.emit (.hostRead n (a + c.1) c.2)

/-- Bytes that an engine outside the host region writes to host memory for an initiator: across the bridge of the host region,
which drops and logs them while that region is isolated (R22). [DEDUCED, unsafe, log 175] -/
def State.hostWrite (s : State) (code a : Nat) (l : List Byte) : State :=
  if s.isolated regHost then s.dropLog code (if code < 4 then code else 4) a 1 else s.hostSend code a l

/-- A write by a requester to an offset: without effect where the requester may not write (R11, R576), dropped and logged under
R338, and otherwise `k`. -/
def State.write (s : State) (rq : Rq) (a : Nat) (k : State → State) : State :=
  if !s.may rq a then s
  else match s.dropReason rq a with
    | some r => s.logDropped rq a r
    | none => k s

/-- Does a read of the offset complete with an error response (R22)? -/
def State.readErr (s : State) (a : Nat) : Bool :=
  match regionOf a with
  | some r => s.isolated r
  | none => false

/-- A read of an isolated region completes with an error response (R22): Completer Abort to an owner's function, which
logs it through AER; 0xFFFF_FFFF with a bus-error status to anybody else. [DESIGN CHOICE, safe, log 132] -/
def State.readAbort (s : State) (rq : Rq) (a : Nat) : State :=
  match rq with
  | .od n =>
    let h := tabGet (fun _ => HifSt.reset) s.hif n.val
    { s with hif := tabSet (fun _ => HifSt.reset) s.hif n.val { h with aer := a :: h.aer } }.emit (.completerAbort n a)
  | _ => s.emit (.busError rq a 0xFFFFFFFF)

/-- Does a direct write leave an RWS field without effect that it would change (R485)? -/
def State.rwsDiffers (s : State) (a : Nat) (v : Word) : Bool :=
  match regRow? a with
  | some r => r.fields.any fun f =>
      decide (f.acc = .rws) && getBits v f.lo f.w != getBits (s.rd a) f.lo f.w
  | none => false

/-- EV0014 for a direct write to an RWS field, at most once per 1 ms for each requester (R485). [DEDUCED, unsafe, log 18] -/
def State.rwsCheck (s : State) (rq : Rq) (a : Nat) (v : Word) : State :=
  let recent := match tabGet (fun _ => none) s.evt.rwsTick rq.idx with
    | some t => decide (s.tb.ticks < t + 250000)
    | none => false
  if s.rwsDiffers a v && !recent then
    let s := { s with evt := { s.evt with rwsTick := tabSet (fun _ => none) s.evt.rwsTick rq.idx (some s.tb.ticks) } }
    s.raiseTo 14 (BitVec.ofNat 32 a) (some (match rq with | .od n => n.val | _ => 4))
  else s

/-- A write of a register with RWS fields by a requester: as `State.write`, with the event of R485, which needs no grant.
[DEDUCED, unsafe, log 18] -/
def State.rwsWrite (s : State) (rq : Rq) (a : Nat) (v : Word) (k : State → State) : State :=
  match s.dropReason rq a with
  | some r => if s.may rq a then s.logDropped rq a r else s
  | none => if (s.rwsCheck rq a v).may rq a then k (s.rwsCheck rq a v) else s.rwsCheck rq a v

/-- Does a COMMIT check the register's value later (R599): AEn_SLOTk_CTL (R181) and LSH_CAMt_N (R274)? -/
def committed (a : Nat) : Bool :=
  (0x600000 ≤ a && a < 0x608000 && 0x100 ≤ a % 0x1000 && a % 0x1000 < 0x300 && a % 0x10 == R.AE_SLOT_CTL 0 0 % 0x10) ||
    (R.LSH_CAM_N 0 ≤ a && a ≤ R.LSH_CAM_N 63 && (a - R.LSH_CAM_N 0) % (R.LSH_CAM_N 1 - R.LSH_CAM_N 0) == 0)

/-- Does every field that the write would place lie in the range that R599 gives it (a direct write places nothing in an
RWS field, R10)? A value that a later COMMIT checks is stored (R181, R274). [DEDUCED, unsafe, log 17] -/
def inRange (a : Nat) (v : Word) : Bool :=
  match regRow? a with
  | some r => committed a ||  r.fields.all fun f =>
      if f.acc = .rw then f.min ≤ getBits v f.lo f.w && getBits v f.lo f.w ≤ f.max else true
  | none => true

/-- The word that a register holds after a write by the access codes of R10: RW fields take the value, W1C and W1S bits
written 1 are cleared and set, all others keep theirs. -/
def merged (a : Nat) (old v : Word) : Word :=
  match regRow? a with
  | some r => r.fields.foldl (fun w f =>
      let x := getBits v f.lo f.w
      match f.acc with
      | .rw => putBits w f.lo f.w x
      | .w1c => putBits w f.lo f.w (getBits w f.lo f.w - Nat.land x (getBits w f.lo f.w))
      | .w1s => putBits w f.lo f.w (Nat.lor x (getBits w f.lo f.w))
      | _ => w) old
  | none => old

/-- A register written by the access codes of R10. -/
def State.merge (s : State) (a : Nat) (v : Word) : State := s.wr a (merged a (s.rd a) v)

/-! ### Positions of the last ticks -/

/-- Before the position of channel `k` moves, what it was at the tick is noted: a probe's edge lies up to 15 ticks before its
filter has run (R167, R168). -/
def State.notePos (s : State) (k : Nat) (p : Int) : State :=
  let l := (tabGet (fun _ => []) s.sense.hist k).filter fun e => decide (s.tb.ticks ≤ e.1 + 16)
  { s with sense := { s.sense with hist := tabSet (fun _ => []) s.sense.hist k (l ++ [(s.tb.ticks, p)]) } }

/-- The position of channel `k` at the start of a tick of the last 16, when it is `p` now (R168). -/
def State.posAt (s : State) (k tick : Nat) (p : Int) : Int :=
  match (tabGet (fun _ => []) s.sense.hist k).find? fun e => decide (tick ≤ e.1) with
  | some e => e.2
  | none => p

/-! ### Snapshots -/

/-- The words that a requester's last read of a stamp register copied (R125, R166, R169), if it ever read it. -/
def State.snap (s : State) (rq : Rq) (a : Nat) : List Word := tabGet (fun _ => []) s.snaps (a * 16 + rq.idx)

/-- A read of a stamp register copies the registers that belong to it. -/
def State.fillSnap (s : State) (rq : Rq) (a : Nat) (regs : List Nat) : State :=
  { s with snaps := tabSet (fun _ => []) s.snaps (a * 16 + rq.idx) (regs.map s.rd) }

/-- A read that fills a snapshot and answers the stamp, or the error of an isolated region. -/
def State.stampRead (s : State) (rq : Rq) (a : Nat) (regs : List Nat) : State :=
  if s.readErr a then s.readAbort rq a else (s.fillSnap rq a regs).emit (.read rq a (s.rd a))

end Sys2Proof.Machine
end

