-- ==== Sys2Proof/Machine/CapOps.lean ====
section
/-! DEFINITION. What other blocks do to a capture session: latch instants (R366) and the triggers that come from outside a
row (R373). -/

namespace Sys2Proof.Machine

def State.capOf (s : State) (c : Nat) : CapSt := tabGet (fun _ => CapSt.reset) s.cap c
def State.setCap (s : State) (c : Nat) (x : CapSt) : State := { s with cap := tabSet (fun _ => CapSt.reset) s.cap c x }

/-- CSn_STATUS.STATE (*Session states*). -/
def State.capState (s : State) (c : Nat) : Nat := s.g (F.CS_STATUS_STATE c)

/-- Does a session record: PRE, POST or ROLL? -/
def State.capRuns (s : State) (c : Nat) : Bool := s.capState c == 1 || s.capState c == 2 || s.capState c == 5

/-- A latch instant of a session in elapsed time, with its stamp, in units of 2^-16 ns. -/
def State.capLatch (s : State) (c at_ stamp : Nat) : State :=
  s.setCap c { s.capOf c with latches := (s.capOf c).latches ++ [(at_, stamp)] }

/-- An AXIS_SAMPLE reaches an axis (R366, SRC 0): every DIV-th latches at S + T_loop ÷ 2. -/
def State.capSample (s : State) (n t loop : Nat) : State :=
  s.each (List.range 4) fun c s =>
    if !s.capRuns c || s.g (F.CS_CFG_SRC c) != 0 || s.g (F.CS_CFG_AXIS c) != n then s
    else
      let x := s.capOf c
      let s := s.setCap c { x with samples := x.samples + 1 }
      if x.samples % (s.g (F.CS_CFG_DIV c) + 1) == 0 then s.capLatch c (s.elapsedAt t + loop / 2) t else s

/-- An occurrence of a PWM source that its prescaler passes (R366, SRC 2). -/
def State.capPwm (s : State) (n i : Nat) : State :=
  s.each (List.range 4) fun c s =>
    if s.capRuns c && s.g (F.CS_CFG_SRC c) == 2 && s.g (F.CS_CFG_AXIS c) == n && s.g (F.CS_CFG_PWM_EVT c) == i
    then s.capLatch c (s.elapsedAt s.now) s.now else s

/-- The conditions of a session that satisfy a test hit the first row latched at or after an instant in elapsed time
(R373). -/
def State.capHit (s : State) (c at_ : Nat) (test : Nat → Bool) : State :=
  if !s.capRuns c then s
  else
    s.setCap c { s.capOf c with hits := (s.capOf c).hits ++ ((List.range 8).filter test).map fun i => (at_, i) }

/-- The conditions that hit a row latched at an instant, as a bitmap. -/
def CapSt.hitsAt (x : CapSt) (t : Nat) : Nat :=
  x.hits.foldl (fun h e => if e.1 ≤ t then setBit h e.2 true else h) 0

/-- An event routed to Lupin (R373, KIND 5). -/
def State.capEvent (s : State) (ev : Nat) : State :=
  s.each (List.range 4) fun c s =>
    s.capHit c (s.tb.ticks * 262144) fun i => s.g (F.CS_TRG_CFG_KIND c i) == 5 && s.g (F.CS_TRG_CFG_EVT c i) == ev

end Sys2Proof.Machine
end

