-- ==== Sys2Proof/Machine/Launch.lean ====
section
/-! DEFINITION. Phlox, the launch scheduler: pushing, cancelling and delivering launch entries (R67 to R84), and the
actions that the targets hold until their launch times. -/

namespace Sys2Proof.Machine

abbrev Res := Host.Outcome State Fault Refusal

/-! ### Action codes (R71) -/

def actAxisOff : Nat := 0x00
def actAuxOff : Nat := 0x01
def actFieldOff : Nat := 0x02
def actAxisSample : Nat := 0x10
def actDclinkSample : Nat := 0x11
def actAuxSample : Nat := 0x12
def actCaptureSample : Nat := 0x13
def actPwmPeriod : Nat := 0x20
def actCommutate : Nat := 0x21
def actFieldWrite : Nat := 0x22
def actEthLaunch : Nat := 0x30
def actCanLaunch : Nat := 0x31
def actSwEvent : Nat := 0x40
def actCaptureTrigger : Nat := 0x41

/-- How many targets an action code has (*Action codes*); `none` for a code that is not in the table. -/
def targetCount (code : Nat) : Option Nat :=
  if code == actAxisOff || code == actAxisSample || code == actPwmPeriod || code == actCommutate then some 16
  else if code == actAuxOff || code == actAuxSample then some 24
  else if code == actFieldOff || code == actFieldWrite then some 32
  else if code == actDclinkSample || code == actCaptureSample || code == actCanLaunch || code == actCaptureTrigger
    then some 4
  else if code == actEthLaunch then some 2
  else if code == actSwEvent then some 64
  else none

/-- Is the target open to a queue that the initiator holds (R602)? -/
def State.targetOpen (s : State) (h : Init) (code target : Nat) (arg : Word) : Bool :=
  let internal := decide (h = .larkspur) || decide (h = .lineShaft) || decide (h = .camellia)
  if code == actDclinkSample || code == actSwEvent then true
  else if code == actFieldOff || code == actFieldWrite then decide (s.holder (.fieldOut target) = h)
  else if code == actEthLaunch then decide (s.holder (.slot target (getBits arg 0 5)) = h)
  else if internal then true
  else if code == actAuxOff || code == actAuxSample then decide (s.holder (.aux target) = h)
  else if code == actCaptureSample || code == actCaptureTrigger then decide (s.holder (.session target) = h)
  else if code == actCanLaunch then decide (s.holder (.can target) = h)
  else decide (s.holder (.axis target) = h)

/-- An entry as it is staged, before its seconds are extended. -/
structure Staged where
  frac : Nat
  sec : Nat
  ns : Nat
  code : Nat
  rep : Bool
  target : Nat
  arg : Word
  tag : Nat
  deriving DecidableEq, Repr

/-- The staged entry in three words of the layout of LQn_ENT_TIME, LQn_ENT_NS and LQn_ENT_CTL. -/
def Staged.ofWords (time ns ctl arg : Word) (tag : Nat) : Staged :=
  ⟨getBits time 0 16, getBits time 16 16, ns.toNat, getBits ctl 0 8, getBits ctl 8 1 == 1, getBits ctl 16 16, arg, tag⟩

/-- The entry in a queue's staging registers. -/
def State.staged (s : State) (q : Nat) : Staged :=
  Staged.ofWords (s.rd (R.LQ_ENT_TIME q)) (s.rd (R.LQ_ENT_NS q)) (s.rd (R.LQ_ENT_CTL q)) (s.rd (R.LQ_ENT_ARG q))
    (s.g (F.LQ_ENT_TAG_TAG q))

/-- The full seconds that extend a 16-bit count, within −32,768 s to +32,767 s of the counter's seconds (R67).
[DEDUCED, unsafe, log 143] -/
def extendSec (cur sec16 : Nat) : Nat :=
  ((cur : Int) + signed 16 (unsigned 16 ((sec16 : Int) - cur))).toNat

/-- The launch time of a staged entry when pushed now (R67), in units of 2^-16 ns. -/
def State.stagedTime (s : State) (e : Staged) : Nat :=
  (extendSec (s.nowNs / 1000000000) e.sec * 1000000000 + e.ns) * 65536 + e.frac

/-- Why Phlox refuses a push (R68, R84). -/
inductive PushErr where
  | parity | code | target | overflow | order
  deriving DecidableEq, Repr

/-- The first check of R68 that the push fails, if any. -/
def State.pushErr (s : State) (q : Nat) (e : Staged) : Option PushErr :=
  let qs := s.lqOf q
  if s.is (F.LQ_STATUS_PARITY q) then some .parity
  else match targetCount e.code with
    | none => some .code
    | some n =>
      if 999999999 < e.ns then some .code
      else if e.rep && s.g (F.LQ_PERIOD_NS_NS q) == 0 && s.g (F.LQ_PERIOD_FRAC_FRAC q) == 0 then some .code
      else if n ≤ e.target || !s.targetOpen (s.holder (.queue q)) e.code e.target e.arg then some .target
      else if 64 ≤ qs.entries.length then some .overflow
      else match qs.entries.getLast? with
        | some l => if s.stagedTime e < l.time then some .order else none
        | none => none

/-- The status bit that a refused push sets; none for a refusal under R84. -/
def State.pushFlag (s : State) (q : Nat) : PushErr → State
  | .parity => s
  | .code => s.on (F.LQ_STATUS_CODE_ERR q)
  | .target => s.on (F.LQ_STATUS_TARGET_REFUSED q)
  | .overflow => s.on (F.LQ_STATUS_OVERFLOW q)
  | .order => s.on (F.LQ_STATUS_ORDER_ERR q)

/-- A push is refused: its status bit is set and a launch-refused event raised (R68). -/
def State.pushRefuse (s : State) (q : Nat) (err : PushErr) : State := (s.pushFlag q err).raiseSt (evQueue q) (R.LQ_STATUS q)

/-- A refused push that a cancel of the same tick, which comes first, may still let in (R79): it is kept for this tick, with the
status bits as they stood. -/
def State.noteRefused (s : State) (q : Nat) (l : Launch) (err : PushErr) : State :=
  if err = .overflow ∨ err = .order then
    let qs := s.lqOf q
    { s with lqs := tabSet (fun _ => QueueSt.reset) s.lqs q { qs with
      refused := qs.refused.filter (fun r => r.launch.tick == s.tb.ticks) ++
        [⟨l, s.is (F.LQ_STATUS_OVERFLOW q), s.is (F.LQ_STATUS_ORDER_ERR q)⟩] } }
  else s

/-- A push: the entry joins the tail of the queue, or the push is refused (R68); `desc` for a push by a descriptor. -/
def State.pushAs (s : State) (q : Nat) (e : Staged) (desc : Bool) : State :=
  let l : Launch := ⟨s.stagedTime e, s.tb.ticks, e.code, e.target, e.arg, e.tag, e.rep, desc⟩
  match s.pushErr q e with
  | some err => (s.noteRefused q l err).pushRefuse q err
  | none => s.setLq q { s.lqOf q with entries := (s.lqOf q).entries ++ [l] }

def State.push (s : State) (q : Nat) (e : Staged) : State := s.pushAs q e false

/-- An entry that a descriptor pushed in this tick joins the tail again behind a register push (R324).
[DEDUCED, unsafe, log 144] -/
def State.rejoin (s : State) (q : Nat) (l : Launch) : State :=
  let qs := s.lqOf q
  if 64 ≤ qs.entries.length then (s.noteRefused q l .overflow).pushRefuse q .overflow
  else if qs.entries.getLast?.any (fun x => decide (l.time < x.time)) then (s.noteRefused q l .order).pushRefuse q .order
  else s.setLq q { qs with entries := qs.entries ++ [l] }

/-- A register push (R68): it is applied before the descriptor pushes of the same tick (R324). [DEDUCED, unsafe, log 144] -/
def State.pushReg (s : State) (q : Nat) (e : Staged) : State :=
  let qs := s.lqOf q
  let same := fun (l : Launch) => l.desc && l.tick == s.tb.ticks
  if qs.entries.any same then
    let s := s.setLq q { qs with entries := qs.entries.filter fun l => !same l }
    (s.push q e).each (qs.entries.filter same) fun l s => s.rejoin q l
  else s.push q e

/-- Every undelivered entry of the queue is removed (R68, R70). -/
def State.flush (s : State) (q : Nat) : State := s.setLq q { s.lqOf q with entries := [] }

/-- Does an entry's tag match under the mask (R79)? -/
def tagMatch (tag mask : Nat) (e : Launch) : Bool := Nat.land (Nat.xor e.tag tag) mask == 0

/-- Is the entry removed by a cancel at tick `tick` (R79)? An entry pushed in that tick stays: the cancel is applied
first. -/
def cancelHit (tick tag mask : Nat) (e : Launch) : Bool := e.tick != tick && tagMatch tag mask e

/-- The refusal of a push in this tick is taken back: its status bits and its launch-refused event (R79). -/
def State.unrefuse (s : State) (q : Nat) (r : Refused) : State :=
  let s := (s.pb (F.LQ_STATUS_OVERFLOW q) r.overflow).pb (F.LQ_STATUS_ORDER_ERR q) r.order
  let mine := fun (d : Detected) => d.ev == evQueue q && d.tick == s.tb.ticks
  { s with evt := { s.evt with
    detected := s.evt.detected.takeWhile (fun d => !mine d) ++ (s.evt.detected.dropWhile fun d => !mine d).drop 1 } }

/-- The entries whose tag matches are removed and their number reported; the pushes that were refused in the same tick are judged
again behind the cancel (R79). -/
def State.cancel (s : State) (q tag mask : Nat) : State :=
  let qs := s.lqOf q
  let hit := qs.entries.filter (cancelHit s.tb.ticks tag mask)
  let again := qs.refused.filter fun r => r.launch.tick == s.tb.ticks
  let s := s.each again.reverse fun r s => s.unrefuse q r
  let s := (s.setLq q { qs with
    entries := qs.entries.filter (fun e => !cancelHit s.tb.ticks tag mask e), refused := [] }).p
    (F.LQ_CANCEL_CNT_COUNT q) hit.length
  s.each again fun r s => s.rejoin q r.launch

/-! ### Delivery -/

/-- 64 ns in units of 2^-16 ns (R73). -/
def launchLead : Nat := 64 * 65536

/-- The queue's repeat period in units of 2^-16 ns (R77). -/
def State.lqPeriod (s : State) (q : Nat) : Nat := s.g (F.LQ_PERIOD_NS_NS q) * 65536 + s.g (F.LQ_PERIOD_FRAC_FRAC q)

/-- A repeating entry that has left the head re-enters at the tail one period later, or is dropped with ORDER_ERR when
its time would be earlier than that of the tail (R77). [DEDUCED, unsafe, log 36] -/
def State.reenter (s : State) (q : Nat) (e : Launch) : State :=
  let qs := s.lqOf q
  let e' := { e with time := e.time + s.lqPeriod q }
  match qs.entries.getLast? with
  | some l =>
    if e'.time < l.time then s.on (F.LQ_STATUS_ORDER_ERR q)
    else s.setLq q { qs with entries := qs.entries ++ [e'] }
  | none => s.setLq q { qs with entries := [e'] }

/-- A late entry is counted, recorded in LQn_LAST_LATE and reported by a launch-late event (R75). -/
def State.markLate (s : State) (q : Nat) (e : Launch) (discarded : Bool) : State :=
  let s := ((s.on (F.LQ_STATUS_LATE q)).count (F.LQ_LATE_CNT_LATE q) 1)
  let s := s.when discarded fun s => (s.on (F.LQ_STATUS_DISCARDED q)).count (F.LQ_LATE_CNT_DISCARDED q) 1
  let s := (s.p (F.LQ_LAST_LATE_TAG q) e.tag).p (F.LQ_LAST_LATE_CODE q) e.code
  s.raiseSt (evQueue q + 1) (R.LQ_STATUS q)

/-- Does the head of another enabled queue, with the same launch time, come before queue `q` in the order of R78? -/
def State.outranked (s : State) (q : Nat) (e : Launch) : Bool :=
  (List.range 16).any fun p =>
    p != q && s.is (F.LQ_CFG_EN p) && (s.lqOf p).lastTick != some s.tb.ticks &&
      match (s.lqOf p).entries with
      | [] => false
      | h :: _ => h.time == e.time && (h.code / 16 < e.code / 16 || (h.code / 16 == e.code / 16 && p < q))

/-- The launches that an Ethernet port holds: delivered and not yet started (R398). -/
def State.portLaunches (s : State) (p : Nat) : Nat :=
  (s.held.filter fun h => h.e.code == actEthLaunch && h.e.target == p).length +
    (tabGet (fun _ => EthSt.reset) s.eth p).launches.length

/-- An entry reaches its target, which holds it; a port that holds 8 launches discards a further one (R398). -/
def State.handOver (s : State) (q : Nat) (e : Launch) (late : Bool) : State :=
  if e.code == actEthLaunch && decide (8 ≤ s.portLaunches e.target)
  then (s.on (F.ETH_STATUS_LAUNCH_OVF e.target)).raiseSt (evPort e.target + 1) (R.ETH_STATUS e.target)
  else { s with held := s.held ++ [⟨e, late, q, s.tb.ticks, s.now⟩] }

/-- LAUNCH_DELIVERY (R73 to R78): the head of an enabled queue whose launch time is at most 64 ns after the counter
goes to its target, at most one per tick, in the order of R78; Phlox delivers nothing while its region is isolated
(R22, R32), and servo axes then sample by their own update points.
[DESIGN CHOICE, safe, log 7; DESIGN CHOICE, unsafe, log 186] -/
def execLaunchDelivery (q : Fin 16) (s : State) : Res :=
  match (s.lqOf q).entries with
  | [] => .next s
  | e :: rest =>
    if s.isolated regTime || !s.is (F.LQ_CFG_EN q) || s.now + launchLead < e.time || (s.lqOf q).lastTick == some s.tb.ticks || s.outranked q e
    then .next s
    else
      let late := decide (e.time ≤ s.now)
      let discard := late && s.is (F.LQ_CFG_LATE_POLICY q) && e.code / 16 != 0
      let s := s.setLq q { s.lqOf q with entries := rest, lastTick := some s.tb.ticks }
      let s := s.when late fun s => s.markLate q e discard
      let s := s.when (!discard) fun s => s.handOver q e late
      .next (s.when e.rep fun s => s.reenter q e)

/-- LQ_PUSH (R68): the staged entry is pushed. -/
def execLqPush (rq : Rq) (q : Fin 16) (s : State) : Res :=
  .next (s.write rq (R.LQ_PUSH q) fun s => s.pushReg q (s.staged q))

/-- LQ_FLUSH (R68). -/
def execLqFlush (rq : Rq) (q : Fin 16) (s : State) : Res :=
  .next (s.write rq (R.LQ_PUSH q) fun s => s.flush q)

/-- A write of LQn_PUSH: a flush comes before a push in the same write (R68). -/
def wrLqPush (q : Nat) (v : Word) (s : State) : State :=
  (s.when (getBits v 1 1 == 1) fun s => s.flush q).when (getBits v 0 1 == 1) fun s => s.pushReg q (s.staged q)

/-- A write of LQn_CANCEL (R79). -/
def wrLqCancel (q : Nat) (v : Word) (s : State) : State := s.cancel q (getBits v 0 16) (getBits v 16 16)

/-- LQ_CANCEL (R79). -/
def execLqCancel (rq : Rq) (q : Fin 16) (v : Word) (s : State) : Res :=
  .next (s.write rq (R.LQ_CANCEL q) (wrLqCancel q v))

/-- QUEUE_PARITY_ERROR (R84): the queue discards its entries, sets PARITY and raises a launch-fault event. -/
def execQueueParityError (q : Fin 16) (s : State) : Res :=
  .next (((s.flush q).on (F.LQ_STATUS_PARITY q)).raiseSt (evQueue q + 2) (R.LQ_STATUS q))

/-! ### Actions at their targets -/

/-- The counter's increment at a tick in units of 2^-32 ns (R38): the sum of INT, FRAC and ADJ, kept in the field of 8
integer and 32 fraction bits. [DEDUCED, unsafe, log 134] -/
def State.increment (s : State) : Nat :=
  unsigned 40 ((s.g F.TB_INCR_INT_INT : Int) * 2 ^ 32 + s.g F.TB_INCR_FRAC_FRAC + s.gi F.TB_ADJ_ADJ)

/-- The counter's advance at one tick in its own units of 2^-16 ns. -/
def State.tickStep (s : State) : Nat := max 1 (s.increment / 65536)

/-- Does the action have high-resolution placement (R73)? -/
def highRes (code : Nat) : Bool := code == actPwmPeriod || code == actEthLaunch || code == actAxisSample

/-- The instant at which the target of a held action executes it: the launch time with high-resolution placement, for any
other target the first tick at or after it (R73), for a late action the tick after its delivery (R75). -/
def State.instant (s : State) (h : Held) : Nat :=
  if h.late then h.now + s.tickStep
  else if highRes h.e.code || s.now ≤ h.e.time then h.e.time
  else s.now - (s.now - h.e.time) / s.tickStep * s.tickStep

/-- The ticks from the execution of an action to its effect: 120 ns over the bridge to the field die (R442). -/
def reachTicks (code : Nat) : Nat := if code == actFieldWrite || code == actFieldOff then 30 else 0

/-- Is a held action due (R73, R75)? A target with high-resolution placement executes it within the tick that its launch
time falls in, any other at the first tick at or after it; a late action executes from the tick after its delivery on; an action for the field die reaches it 120 ns later (R442). -/
def State.due (s : State) (h : Held) : Bool :=
  if h.late then decide (h.tick + reachTicks h.e.code < s.tb.ticks)
  else if highRes h.e.code then decide (h.e.time < s.now + s.tickStep)
  else decide (h.e.time + reachTicks h.e.code * 262144 ≤ s.now)

/-- The place in the list of held actions of the one that executes next (R78): of those that are due, the first by the
instant of execution, then by the order of delivery, in which the list stands. [DESIGN CHOICE, safe, log 7] -/
def State.firstDue (s : State) : List Held → Option (Held × List Held)
  | [] => none
  | h :: t =>
    match s.firstDue t with
    | some (x, r) =>
      if s.due h && decide (s.instant h ≤ s.instant x) then some (h, t) else some (x, h :: r)
    | none => if s.due h then some (h, t) else none

/-- A target executes the action of that code that is next of all held actions (R78); where another action comes first,
or none is due, the event does not occur. [DESIGN CHOICE, safe, log 7] -/
def State.act (s : State) (code target : Nat) (k : Held → State → State) : State :=
  match s.firstDue s.held with
  | some (h, rest) => if h.e.code == code && h.e.target == target then k h { s with held := rest } else s
  | none => s

/-- SW_EVENT (R71): the software event is raised with its argument as payload (R484). -/
def execSwEvent (e : Fin 64) (s : State) : Res :=
  .next (s.act actSwEvent e fun h s => s.raise (1984 + e) h.e.arg)

/-- The step of the counter reaches the queues (R81): with STEP_SHIFT the launch times of undelivered entries move by
the step, in units of 2^-16 ns. -/
def State.shiftQueue (s : State) (d : Int) (q : Nat) : State :=
  if s.is (F.LQ_CFG_STEP_SHIFT q)
  then
    let qs := s.lqOf q
    s.setLq q { qs with entries := qs.entries.map fun e => { e with time := ((e.time : Int) + d).toNat } }
  else s

/-- R81 for every queue. -/
def State.shiftQueues (s : State) (d : Int) : State := s.each (List.range 16) fun q s => s.shiftQueue d q

end Sys2Proof.Machine
end

