-- ==== Sys2Proof/Machine/Events.lean ====
section
/-! DEFINITION. The event fabric: the delivery of an event to the targets its route enables (R486 to R488), the owners'
queues with merging and overflow (R491 to R495), and the routes. -/

namespace Sys2Proof.Machine

/-- One second in nanoseconds. -/
def oneSecNs : Nat := 1000000000

/-- An owner's event queue. -/
def State.evq (s : State) (n : Nat) : List EvRec := tabGet (fun _ => []) s.evt.queues n

/-- COAL_LEVEL, held at the nearer limit of 64 to 512. -/
def State.coalLevel (s : State) (n : Nat) : Nat := clampN 64 512 (s.g (F.EVT_OD_CFG_COAL_LEVEL n))

/-- An owner's event queue changes; LEVEL and MERGING follow. -/
def State.setEvq (s : State) (n : Nat) (l : List EvRec) : State :=
  let s := { s with evt := { s.evt with queues := tabSet (fun _ => []) s.evt.queues n l } }
  (s.p (F.EVT_OD_STATUS_LEVEL n) l.length).pb (F.EVT_OD_STATUS_MERGING n) (decide (s.coalLevel n ≤ l.length))

/-- The record of a detected event (*Event record*); a record of the safety path is a notice (R490). -/
def Detected.toRecord (d : Detected) (now owner : Nat) : EvRec :=
  ⟨d.ev, Config.severity d.ev, false, decide (1600 ≤ d.ev ∧ d.ev ≤ 1855), shortOf d.full, d.payload, 0, now, d.full, d.route, owner⟩

/-- A record merged into a summary entry, or one that turns an entry into a summary (R492). -/
def EvRec.merge (e : EvRec) (stamp : Word) : EvRec :=
  { e with summary := true, payload := stamp, count := if e.summary then min (e.count + 1) (2 ^ 32 - 1) else 2 }

/-- Is an entry's STAMP no more than 1.0 s before the arriving event: both as full times? -/
def within1s (old new : Nat) : Bool := decide (new / 65536 ≤ old / 65536 + oneSecNs)

/-- Does the latest entry of the number allow a merge (R492)? -/
def mergeable (l : List EvRec) (r : EvRec) : Bool :=
  match l.reverse.find? (fun e => e.ev == r.ev) with
  | some e => within1s e.at_ r.at_
  | none => false

/-- The queue with the record merged into the latest entry of its number; `l` is the queue, newest first. -/
def mergeNewest (r : EvRec) : List EvRec → List EvRec
  | [] => []
  | e :: t => if e.ev == r.ev then e.merge r.stamp :: t else e :: mergeNewest r t

/-- The overflow summary, EV0000, that a full queue ends with (R493). -/
def overflowRec (r : EvRec) : EvRec := ⟨0, Config.severity 0, true, false, r.stamp, r.stamp, 1, r.full, r.at_, r.route, r.owner⟩

/-- A full queue takes a record into the EV0000 summary that it ends with (R493). -/
def overflowInto (l : List EvRec) (r : EvRec) : List EvRec :=
  match l.getLast? with
  | some e =>
    if e.ev == 0 && e.summary then l.dropLast ++ [{ e with payload := r.stamp, count := min (e.count + 1) (2 ^ 32 - 1) }]
    else l ++ [overflowRec r]
  | none => l ++ [overflowRec r]

/-- A record that finds the queue full goes to the EV0000 summary in its last entry and marks the overflow map (R493). -/
def State.overflowEvent (s : State) (n : Nat) (r : EvRec) : State :=
  let l := s.evq n
  let s := s.wr (R.EVT_OD_OVF_MAP n (r.ev / 32)) (s.rd (R.EVT_OD_OVF_MAP n (r.ev / 32)) ||| (1 <<< (r.ev % 32)))
  (s.on (F.EVT_OD_STATUS_OVERFLOW n)).setEvq n (overflowInto l r)

/-- Is the owner's event ring enabled and unbroken (R495)? -/
def State.evRingUp (s : State) (n : Nat) : Bool :=
  s.is (F.HIF_OD_EVQ_CFG_EN n) && !s.is (F.HIF_OD_EVQ_STATUS_BROKEN n)

/-- A record arrives at an owner's event queue (R491 to R493, R495). -/
def State.queueEvent (s : State) (n : Nat) (r : EvRec) : State :=
  if !s.evRingUp n then s.count (F.EVT_OD_COUNT_LOST n) 1
  else
    let l := s.evq n
    if s.coalLevel n ≤ l.length && getBits r.route 15 1 == 0 && mergeable l r
    then (s.setEvq n (mergeNewest r l.reverse).reverse).count (F.EVT_OD_COUNT_COALESCED n) 1
    else if 511 ≤ l.length then s.overflowEvent n r
    else s.setEvq n (l ++ [r])

/-- The four words of an event record. -/
def EvRec.words (e : EvRec) : List Nat :=
  [e.ev + 65536 * e.owner + 2 ^ 24 * (e.sev.toNat + 4 * bit e.summary + 8 * bit e.notice), e.stamp.toNat, e.payload.toNat,
   e.count]

/-! ### Camellia's intake -/

/-- The journal entries that Camellia may write in an hour: 16 per second (R530). -/
def hourBudget : Nat := 57600

/-- A record is journalled (KIND 0). -/
def State.journalRec (s : State) (r : EvRec) : State := s.journal 0 7 r.sev r.words

/-- A routed record reaches Camellia's intake (R491 to R493, R530): it is written at once while the rate allows and none
waits; beyond the rate it is merged as in a queue that holds COAL_LEVEL records, or waits. [DEDUCED, unsafe, log 172] -/
def State.takeIn (s : State) (r : EvRec) : State :=
  let l := s.mg.intake
  if l.isEmpty && (s.journalDiverted || (s.mg.rolled s.tb.ticks).hourCount < hourBudget) then s.journalRec r
  else
    let l := if getBits r.route 15 1 == 0 && mergeable l r then (mergeNewest r l.reverse).reverse
      else if 511 ≤ l.length then overflowInto l r
      else l ++ [r]
    { s with mg := { s.mg with intake := l } }

/-- The records that wait in the intake are written as far as the rate allows (R530). [DEDUCED, unsafe, log 172] -/
def State.intakeDue (s : State) : State :=
  if s.mg.intake.isEmpty then s
  else
    let m := s.mg.rolled s.tb.ticks
    let k := if s.journalDiverted then m.intake.length else hourBudget - m.hourCount
    let s := { s with mg := { m with intake := m.intake.drop k } }
    s.each (m.intake.take k) fun r s => s.journalRec r

/-- Camellia writes its journal before the device sleeps (R523, R526): every record that waits goes into it. -/
def State.flushIntake (s : State) : State :=
  ({ s with mg := { s.mg with intake := [] } }).each s.mg.intake fun r s => s.journalRec r

/-- The staged entry of launch template `m` for an event at the full time `full` (R488). -/
def State.template (s : State) (m full : Nat) : Staged :=
  let t := full + (s.rd (R.EVT_LT_DELAY m)).toNat * 65536
  ⟨t % 65536, t / 65536 / oneSecNs % 65536, t / 65536 % oneSecNs, s.g (F.EVT_LT_CTL_CODE m), false,
   s.g (F.EVT_LT_CTL_TARGET m), s.rd (R.EVT_LT_ARG m), getBits (s.rd (R.EVT_LT_TAG m)) 0 16⟩

/-- The template's entry is pushed into its queue; a refused push sets LT_REFUSED (R488). -/
def State.templatePush (s : State) (m full : Nat) : State :=
  let q := s.g (F.EVT_LT_CTL_LQ m)
  let e := s.template m full
  let refused := (s.pushErr q e).isSome
  (s.push q e).when refused fun s => s.on (F.EVT_LT_CTL_LT_REFUSED m)

/-- A detected event reaches every target that its route enables (R486). -/
def State.deliver (s : State) (d : Detected) : State :=
  let owner := match d.dest with
    | some n => some n
    | none => s.evOwner d.ev
  let r := d.toRecord s.now (owner.getD 7)
  let s := match owner with
    | some n => if n < 4 && (getBits d.route 0 1 == 1 || d.dest.isSome) then s.queueEvent n r else s
    | none => s
  let s := s.when (getBits d.route 9 1 == 1 || d.dest == some 4) fun s => s.takeIn r
  let s := s.when (getBits d.route 10 1 == 1) fun s => s.capEvent d.ev
  s.when (getBits d.route 11 1 == 1) fun s => s.templatePush (getBits d.route 12 3) d.full

/-- EVENT_DETECTED (R486, R491): the event that fired first and is not delivered yet, of the events of one tick that with
the lowest number, reaches its targets once its tick is over. [DESIGN CHOICE, safe, log 6] -/
def execEventDetected (s : State) : Res :=
  match s.evt.detected with
  | [] => .next s
  | d :: t => if d.tick == s.tb.ticks then .next s else .next ({ s with evt := { s.evt with detected := t } }.deliver d)

/-- A write of a route stores bits [15:0]; VEC_SEL 3 is not one of the selections of R496 and is refused (R599). -/
def wrRoute (k : Nat) (v : Word) (s : State) : State :=
  if getBits v 1 2 == 3 then s
  else
    let old := if s.evt.routeTick == s.tb.ticks then s.evt.routeOld else []
    let s := { s with evt := { s.evt with routeTick := s.tb.ticks, routeOld := old ++ [(k, s.rd (R.EVT_ROUTE k))] } }
    s.wr (R.EVT_ROUTE k) (putBits (s.rd (R.EVT_ROUTE k)) 0 16 (getBits v 0 16))

/-- A write of EVT_ODn_CFG: COAL_LEVEL is held at the nearer limit, and MERGING follows. -/
def wrEvtCfg (n : Nat) (v : Word) (s : State) : State :=
  let s := s.p (F.EVT_OD_CFG_COAL_LEVEL n) (clampN 64 512 (getBits v 0 10))
  s.pb (F.EVT_OD_STATUS_MERGING n) (decide (s.coalLevel n ≤ (s.evq n).length))

/-- EVT_ROUTE_WRITE (R489): the event's owner writes its route. -/
def execEvtRouteWrite (rq : Rq) (k : Fin 2048) (v : Word) (s : State) : Res :=
  .next (s.write rq (R.EVT_ROUTE k) (wrRoute k v))

/-- What a read of a route shows: the stored bits, the safety path (R490), the severity and the owner.
[DEDUCED, unsafe, log 23] -/
def State.routeView (s : State) (k : Nat) : Word :=
  let v := s.rd (R.EVT_ROUTE k)
  putBits (putBits (putBits v 16 1 (bit (decide (1600 ≤ k ∧ k ≤ 1855)))) 17 2 (Config.severity k).toNat) 19 3
    ((s.evOwner k).getD 7)

end Sys2Proof.Machine
end

