-- ==== Sys2Proof/Machine/Pool.lean ====
section
/-! DEFINITION. The stores of the memory region (R343 to R347), the buffer pools and the checks of a handle (R348 to
R352), and the checksums of R357. -/

namespace Sys2Proof.Machine

/-! ### In-package memory -/

/-- The bytes of a MiB. -/
def mib : Nat := 1048576

/-- The size of the private area (*In-package memory areas*). -/
def privateSize : Nat := 64 * mib

/-- The byte address at which the pool area begins: the private area, then the capture area, then the pools. -/
def State.poolBase (s : State) : Nat := privateSize + s.g F.MEM_LAYOUT_CAP_AREA * 16 * mib

/-- The usable bytes of the in-package memory (R344). -/
def ipmSize : Nat := 896 * mib

/-- The 16 bytes stored in a block. -/
def State.block (s : State) (b : Nat) : List Byte := (List.range 16).map fun i => tabGet (fun _ => 0) s.mem (16 * b + i)

/-- A byte of the in-package memory as a key reads it (R344, R346).
[DESIGN CHOICE, unsafe, log 11; DESIGN CHOICE, safe, log 94] -/
def State.ipmRead (s : State) (key a : Nat) : Byte :=
  let w := tabGet (fun _ => 0) s.ipm.keys (a / 16)
  if w == key then tabGet (fun _ => 0) s.mem a else Config.wrongKeyByte a key w (s.block (a / 16))

/-- A block is taken over by a key: its bytes become what that key reads there. [DESIGN CHOICE, safe, log 94] -/
def State.rekey (s : State) (key b : Nat) : State :=
  if tabGet (fun _ => 0) s.ipm.keys b == key then s
  else
    let bytes := (List.range 16).map fun i => (16 * b + i, s.ipmRead key (16 * b + i))
    { s with mem := bytes.foldl (fun m x => tabSet (fun _ => 0) m x.1 x.2) s.mem,
             ipm := { s.ipm with keys := tabSet (fun _ => 0) s.ipm.keys b key } }

/-- A byte of the in-package memory is written under a key; a write clears the poison of its word (R347). -/
def State.ipmWrite (s : State) (key a : Nat) (x : Byte) : State :=
  let s := s.rekey key (a / 16)
  { s with mem := tabSet (fun _ => 0) s.mem a x, ipm := { s.ipm with poison := s.ipm.poison.filter (· != 2 * (a / 8) + 1) } }

/-- `n` bytes from an address, under a key. -/
def State.ipmBytes (s : State) (key a n : Nat) : List Byte := (List.range n).map fun i => s.ipmRead key (a + i)

/-- A list of bytes written from an address on, under a key. -/
def State.ipmPut (s : State) (key : Nat) : Nat → List Byte → State
  | _, [] => s
  | a, x :: t => (s.ipmWrite key a x).ipmPut key (a + 1) t

/-- The first poisoned word of the in-package memory among `n` bytes from an address, as a byte address (R347). -/
def State.ipmPoison (s : State) (a n : Nat) : Option Nat :=
  ((s.ipm.poison.filter fun p => p % 2 == 1 && a / 8 ≤ p / 2 && p / 2 ≤ (a + n - 1) / 8).map fun p => p / 2 * 8).min?

/-! ### SRAM -/

/-- A byte of the SRAM; what no transfer has written reads as zero. -/
def State.sramRead (s : State) (a : Nat) : Byte := tabGet (fun _ => 0) s.ipm.sram a

/-- A list of bytes written to the SRAM from an offset on. -/
def State.sramPut (s : State) : Nat → List Byte → State
  | _, [] => s
  | a, x :: t =>
    ({ s with ipm := { s.ipm with
      sram := tabSet (fun _ => 0) s.ipm.sram a x, poison := s.ipm.poison.filter (· != 2 * (a / 8)) } }).sramPut (a + 1) t

/-- The first poisoned SRAM word among `n` bytes. -/
def State.sramPoison (s : State) (a n : Nat) : Option Nat :=
  ((s.ipm.poison.filter fun p => p % 2 == 0 && a / 8 ≤ p / 2 && p / 2 ≤ (a + n - 1) / 8).map fun p => p / 2 * 8).min?

/-! ### Buffers -/

/-- The size of a buffer of a class (*Pool classes*). -/
def classSize (c : Nat) : Nat := 4096 * 16 ^ c

/-- The configured number of buffers of a class. -/
def State.classCount (s : State) (c : Nat) : Nat := s.g (F.POOL_C_CFG_COUNT c)

/-- The address at which the buffers of a class begin: the classes follow each other in the pool area. -/
def State.classBase (s : State) (c : Nat) : Nat :=
  (List.range c).foldl (fun a k => a + s.classCount k * classSize k) s.poolBase

/-- The fields of a handle (R349). -/
def handleClass (h : Word) : Nat := getBits h 22 2
def handleNum (h : Word) : Nat := getBits h 0 22
def handleGen (h : Word) : Nat := getBits h 24 8
def handleIdx (h : Word) : Nat := getBits h 0 24

def State.bufOf (s : State) (i : Nat) : BufSt := tabGet (fun _ => BufSt.reset) s.ipm.bufs i
def State.setBuf (s : State) (i : Nat) (x : BufSt) : State :=
  { s with ipm := { s.ipm with bufs := tabSet (fun _ => BufSt.reset) s.ipm.bufs i x } }

/-- The address of the buffer that a handle names. -/
def State.bufAddr (s : State) (h : Word) : Nat :=
  s.classBase (handleClass h) + handleNum h * classSize (handleClass h)

/-- The key that an initiator, coded as POOL_LAST_INFO.OWNER, writes and reads with (R345, R346): an owner's own, and the
device key for an internal initiator. -/
def State.keyOf (s : State) (code : Nat) : Nat := if code < 4 then s.ipm.owner.getD code 0 else s.ipm.device

/-- Completion status codes (*Completion status*). -/
def stOk : Nat := 0
def stBadOpcode : Nat := 1
def stBadClass : Nat := 2
def stNotOwner : Nat := 3
def stRole : Nat := 4
def stBadArg : Nat := 5
def stRefused : Nat := 6
def stBusError : Nat := 7
def stIsolated : Nat := 8
def stAborted : Nat := 9
def stLate : Nat := 10
def stDoubleFree : Nat := 11
def stStale : Nat := 12
def stNoBuffer : Nat := 13

/-- The first check of *Handle checks* that a use by an initiator fails, as the completion status. -/
def State.handleErr (s : State) (code : Nat) (free : Bool) (h : Word) : Option Nat :=
  let b := s.bufOf (handleIdx h)
  if s.classCount (handleClass h) ≤ handleNum h then some stBadArg
  else if handleGen h != b.gen || b.gen == 0 then some stStale
  else match b.holder with
    | none => some (if free then stDoubleFree else stNotOwner)
    | some x => if x == code then none else some stNotOwner

/-- A refused handle operation is recorded (R351), with the event or the journal entry that its check names. -/
def State.refuseHandle (s : State) (code : Nat) (h : Word) (st : Nat) : State :=
  let b := s.bufOf (handleIdx h)
  let holder := b.holder.getD 7
  let s := s.wr R.POOL_LAST_REFUSED h
  let s := ((s.p F.POOL_LAST_INFO_STATUS st).p F.POOL_LAST_INFO_OWNER code).p F.POOL_LAST_INFO_HOLDER holder
  let s := s.when (st == stStale || st == stDoubleFree || (st == stNotOwner && b.holder.isNone)) fun s =>
    s.raiseSt 1344 R.POOL_LAST_INFO
  s.when (st == stNotOwner && b.holder.isSome) fun s =>
    (s.raiseSt 1345 R.POOL_LAST_INFO).journal 9 code (Config.severity 1345) [h.toNat, code, holder]

/-- The number of buffers of a class that are held. -/
def State.classHeld (s : State) (c : Nat) : Nat :=
  (s.ipm.bufs.filter fun x => x.1 / 2 ^ 22 == c && x.2.holder.isSome && x.1 % 2 ^ 22 < s.classCount c).length

/-- The number of buffers of a class that an owner holds. -/
def State.classUse (s : State) (n c : Nat) : Nat :=
  (s.ipm.bufs.filter fun x => x.1 / 2 ^ 22 == c && decide (x.2.holder = some n)).length

/-- POOL_Cc_STATUS.FREE and POOL_ODn_USE follow the buffers. -/
def State.poolCounts (s : State) : State :=
  let s := s.each (List.range 4) fun c s =>
    s.p (F.POOL_C_STATUS_FREE c) (if s.is F.MEM_CTL_POOL_EN then s.classCount c - s.classHeld c else 0)
  s.each (List.range 4) fun n s =>
    let u := s.classUse n
    (((s.p (F.POOL_OD_USE01_CLASS_LO n) (u 0)).p (F.POOL_OD_USE01_CLASS_HI n) (u 1)).p
      (F.POOL_OD_USE23_CLASS_LO n) (u 2)).p (F.POOL_OD_USE23_CLASS_HI n) (u 3)

/-- An owner's quota of a class. -/
def State.quota (s : State) (n c : Nat) : Nat :=
  s.g (match c with
    | 0 => F.POOL_OD_QUOTA01_CLASS_LO n
    | 1 => F.POOL_OD_QUOTA01_CLASS_HI n
    | 2 => F.POOL_OD_QUOTA23_CLASS_LO n
    | _ => F.POOL_OD_QUOTA23_CLASS_HI n)

/-- The buffer of a class that has been free the longest (R350): one that has never been handed out, in ascending number,
else the one freed first. -/
def State.longestFree (s : State) (c : Nat) : Option Nat :=
  let n := s.ipm.fresh.getD c 0
  if !s.is F.MEM_CTL_POOL_EN then none
  else if n < s.classCount c then some n
  else ((s.ipm.freed.getD c []).filter (· < s.classCount c)).head?

/-- A buffer leaves the free ones of its class. -/
def State.takeFree (s : State) (c num : Nat) : State :=
  let n := s.ipm.fresh.getD c 0
  if n == num then { s with ipm := { s.ipm with fresh := listSet s.ipm.fresh c (n + 1) } }
  else { s with ipm := { s.ipm with freed := listSet s.ipm.freed c ((s.ipm.freed.getD c []).filter (· != num)) } }

/-- The next generation: 1, 2, … 255, 1 (R349). -/
def nextGen (g : Nat) : Nat := if g == 255 then 1 else g + 1

/-- POOL_ALLOC for an owner: the handle, or none when there is no buffer (R350). -/
def State.poolAlloc (s : State) (n c : Nat) : State × Option Word :=
  if s.quota n c ≤ s.classUse n c then (s, none)
  else match s.longestFree c with
    | none => (s, none)
    | some num =>
      let i := c * 2 ^ 22 + num
      let g := nextGen (s.bufOf i).gen
      (((s.takeFree c num).setBuf i ⟨g, some n⟩).poolCounts, some (BitVec.ofNat 32 (g * 2 ^ 24 + i)))

/-- A buffer becomes free again, behind every other free buffer of its class (R350). -/
def State.freeBuf (s : State) (i : Nat) : State :=
  let c := i / 2 ^ 22
  let s := s.setBuf i { s.bufOf i with holder := none }
  { s with ipm := { s.ipm with freed := listSet s.ipm.freed c (s.ipm.freed.getD c [] ++ [i % 2 ^ 22]) } }

/-- Does a DMA channel, a copy, a cam commit, an envelope load or an unload use the buffer (R351, R377, R381)? -/
def State.bufInUse (s : State) (i : Nat) : Bool :=
  let side := fun (x : Side) => x.space == 1 && handleIdx x.handle == i
  (List.range 28).any (fun n => match tabGet (fun _ => none) s.ipm.live n with
    | some r => side r.src || side r.dst
    | none => false) ||
  (s.ipm.waiting.any fun r => handleIdx r.handle == i) ||
  (s.ipm.copies.any fun c => match c with
    | some r => handleIdx r.req.handle == i
    | none => false) ||
  ((List.range 64).any fun t => s.g (F.LSH_CAM_STATUS_STATE t) == 1 && handleIdx (s.rd (R.LSH_CAM_HANDLE t)) == i) ||
  ((List.range 64).any fun k => s.g (F.CAP_STATUS_ENV_STATE k) == 1 && handleIdx (s.rd (R.CAP_ENV_HANDLE k)) == i) ||
  (List.range 4).any fun c => s.g (F.CS_STATUS_STATE c) == 4 && handleIdx (s.rd (R.CS_OUT_HANDLE c)) == i

/-- POOL_FREE for an owner: the completion status and the state after it (R351); REFUSED while the buffer is in use. -/
def State.poolFree (s : State) (n : Nat) (h : Word) : State × Nat :=
  match s.handleErr n true h with
  | some st => (s.refuseHandle n h st, st)
  | none =>
    if s.bufInUse (handleIdx h) then (s.refuseHandle n h stRefused, stRefused)
    else ((s.freeBuf (handleIdx h)).poolCounts, stOk)

/-- Every buffer of an owner is freed, without a change of generation, after the rotation of its key (R345, R353). -/
def State.rotateKey (s : State) (n : Nat) : State :=
  let s := { s with ipm := { s.ipm with owner := listSet s.ipm.owner n s.ipm.nextKey, nextKey := s.ipm.nextKey + 1 } }
  (s.each ((s.ipm.bufs.filter fun x => decide (x.2.holder = some n)).map (·.1)) fun i s => s.freeBuf i).poolCounts

/-! ### Checksums -/

/-- A checksum before its first byte. -/
def CsumSt.start (kind : Nat) : CsumSt := ⟨kind, if kind == 1 then 0xFFFFFFFF else 0, none⟩

/-- Ones' complement addition of 16 bits. -/
def onesAdd (a b : Nat) : Nat := (a + b) % 65536 + (a + b) / 65536

/-- A checksum takes a byte (R357). -/
def CsumSt.byte (c : CsumSt) (b : Byte) : CsumSt :=
  if c.kind == 1 then { c with acc := crc32cStep c.acc b }
  else if c.kind == 2 then match c.odd with
    | none => { c with odd := some b.toNat }
    | some h => { c with acc := onesAdd c.acc (256 * h + b.toNat), odd := none }
  else c

/-- A checksum takes a list of bytes in order. -/
def CsumSt.bytes (c : CsumSt) (l : List Byte) : CsumSt := l.foldl CsumSt.byte c

/-- The value of a checksum over the bytes taken (R357): an odd final byte counts as padded with 0. -/
def CsumSt.value (c : CsumSt) : Nat :=
  if c.kind == 1 then Nat.xor c.acc 0xFFFFFFFF
  else if c.kind == 2 then 65535 - (match c.odd with
    | none => c.acc
    | some h => onesAdd c.acc (256 * h))
  else 0

/-- The bytes that APPEND writes after the last byte (R357). -/
def CsumSt.tail (c : CsumSt) : List Byte :=
  if c.kind == 1 then bytesLE 4 c.value
  else if c.kind == 2 then (bytesLE 2 c.value).reverse
  else []

/-- How many bytes an appended checksum takes. -/
def csumLen (kind : Nat) (append : Bool) : Nat := if append then (if kind == 1 then 4 else if kind == 2 then 2 else 0) else 0

end Sys2Proof.Machine
end

