-- ==== Sys2Proof/Machine/Plan.lean ====
section
/-! DEFINITION. The arithmetic of Larkspur's profile unit: evaluating a plan, and planning a change of speed, a
positioning move and a stop (R226 to R230, R232, R242). Positions are in units of 2^-48 rev, velocities in 2^-32 rev/s,
accelerations in 2^-24 rev/s², jerks in 2^-8 rev/s³ and times in 2^-16 ns. -/

namespace Sys2Proof.Machine

/-- Internal units of time in one second. -/
def secU : Nat := 65536000000000

/-- A register's velocity, acceleration or position in internal units: 16 more fraction bits each. -/
def toInternal (x : Int) : Int := x * 65536

/-- An internal value in the format of R12, truncated toward minus infinity (R227). -/
def fromInternal (x : Int) : Int := floorDiv x 65536

/-- Position, velocity and acceleration at an instant of a piece (R226, R227). -/
def Seg.at_ (g : Seg) (t : Int) : Int × Int × Int :=
  let d := t - g.t
  let u : Int := secU
  (g.p + floorDiv (g.v * 2 ^ 16 * d * (6 * u ^ 2) + g.a * 2 ^ 24 * d ^ 2 * (3 * u) + g.j * 2 ^ 40 * d ^ 3) (6 * u ^ 3),
   g.v + floorDiv (g.a * 2 ^ 8 * d * (2 * u) + g.j * 2 ^ 24 * d ^ 2) (2 * u ^ 2),
   g.a + floorDiv (g.j * 2 ^ 16 * d) u)

/-- The piece that holds at an instant, if the plan's pieces have not ended. -/
def segAt (t : Int) : List Seg → Option Seg
  | [] => none
  | g :: r => if t < g.t + g.n then some g else segAt t r

/-- The reference of a plan at an instant: after its end it holds its final speed (R228, R230). -/
def Plan.at_ (q : Plan) (t : Int) : Int × Int × Int :=
  match segAt t q.segs with
  | some g => g.at_ t
  | none => (q.p1 + floorDiv (q.v1 * 2 ^ 16 * (t - q.t1)) secU, q.v1, 0)

/-- Has the plan ended at an instant? -/
def Plan.done (q : Plan) (t : Int) : Bool := decide (q.t1 ≤ t)

/-- The square root of a natural number, truncated: `n` bits of it are found from above. -/
def isqrt : Nat → Nat → Nat → Nat
  | 0, r, _ => r
  | n + 1, r, x => if (r + 2 ^ n) * (r + 2 ^ n) ≤ x then isqrt n (r + 2 ^ n) x else isqrt n r x

/-- The sign of an integer. -/
def sgn (x : Int) : Int := if x < 0 then -1 else if 0 < x then 1 else 0

/-- Pieces appended one after another from a state; the jerk and the duration of each are given. Zero durations leave no
piece. [DEDUCED, unsafe, log 78] -/
def chain : Int → Int → Int → Int → List (Int × Nat) → List Seg × (Int × Int × Int × Int)
  | t, p, v, a, [] => ([], (t, p, v, a))
  | t, p, v, a, (j, n) :: r =>
    if n == 0 then chain t p v a r
    else
      let g : Seg := ⟨t, n, p, v, a, j⟩
      let e := g.at_ (t + n)
      let rest := chain (t + n) e.1 e.2.1 e.2.2 r
      (g :: rest.1, rest.2)

/-- The change of speed from (v, a) to (v1, a1) under an acceleration limit and a jerk limit, time-optimal (R228, R230);
the second value is the end: time and position. An a1 other than 0 lies in the direction of the change. Without a jerk
limit the acceleration jumps to the limit. -/
def changeTo (t p v a v1 a1 lim j : Int) : List Seg × (Int × Int) :=
  if j == 0 then
    if v1 == v || lim ≤ 0 then ([], (t, p))
    else
      let n := (absN (v1 - v) * secU) / (lim.toNat * 256)
      let r := chain t p v (sgn (v1 - v) * lim) [(0, n)]
      (r.1, (r.2.1, r.2.2.1))
  else
    -- a²/(2J) in velocity units: a is 2^-24, J is 2^-8, so a²/J is in units of 2^-40
    let s := if a1 = 0 then sgn ((v1 - v) * 2 * j * 256 - a * (absN a : Int)) else sgn a1
    if s == 0 then
      let n := (absN a * secU) / (j.toNat * 65536)
      let r := chain t p v a [(-sgn a * j, n)]
      (r.1, (r.2.1, r.2.2.1))
    else
      let a0 := s * a
      let b := s * a1
      let dv := s * (v1 - v)
      let peak : Int := isqrt 64 0 (dv * j * 256 + (a0 * a0 + b * b) / 2).toNat
      let ap := max b (if lim < a0 then lim else min lim peak)
      let d1 := (absN (ap - a0) * secU) / (j.toNat * 65536)
      let d3 := ((ap - b).toNat * secU) / (j.toNat * 65536)
      -- twice the speed gained in the two jerk phases, in units of 2^-40 rev/s times J
      let num : Int := dv * 512 * j - (a0 + ap) * (absN (ap - a0) : Int) - (ap + b) * (ap - b)
      let th := if ap ≤ 0 then 0 else ((max num 0).toNat * secU) / (2 * ap.toNat * j.toNat * 65536)
      let r := chain t p v a [(s * j * sgn (ap - a0), d1), (0, th), (-s * j, d3)]
      (r.1, (r.2.1, r.2.2.1))

/-- The change of speed to rest (R230). -/
def change (t p v a v1 lim j : Int) : List Seg × (Int × Int) := changeTo t p v a v1 0 lim j

/-- A change of the direction of motion, under one limit up to v = 0 and another beyond (R228): at v = 0 the acceleration
is the largest that both sides allow, and where one side never reaches its limit the other's holds throughout. -/
def reversal (t p v a v1 d al j : Int) : List Seg × (Int × Int) :=
  let s := sgn v1
  let two := fun (ax : Int) =>
    let x := changeTo t p v a 0 (s * ax) d j
    let y := change x.2.1 x.2.2 0 (s * ax) v1 al j
    (x.1 ++ y.1, y.2)
  let fall : Int := 512 * j * absN v
  let rise : Int := 512 * j * absN v1
  if j == 0 then two 0
  else if d ≤ al then
    let ax : Int := min d (isqrt 64 0 (a * a + fall).toNat)
    if ax * ax ≤ rise then two ax else change t p v a v1 d j
  else
    let ax : Int := min al (isqrt 64 0 rise.toNat)
    if ax * ax ≤ a * a + fall ∧ (s * a ≤ ax ∨ a * a - ax * ax ≤ fall) then two ax else change t p v a v1 al j

/-- A change of speed with the limit that applies: DMAX, stretched, while the speed magnitude falls and AMAX while it
rises (R228, R242). Taking the acceleration to 0 changes the speed too: from what is then left, the speed falls or rises to
its end, or has changed its direction and comes back. -/
def speed (t p v a v1 : Int) (l : Lims) (s : Nat) : List Seg × (Int × Int) :=
  let d := floorDiv (l.d * s) 256
  let dir := sgn v1
  let gain := if l.j = 0 then sgn (v1 - v) else sgn ((v1 - v) * 512 * l.j - a * (absN a : Int))
  if v ≠ 0 && v1 ≠ 0 && sgn v ≠ dir then reversal t p v a v1 d l.a l.j
  else if v1 = 0 then change t p v a v1 d l.j
  else if l.j ≠ 0 && dir * (v * 512 * l.j + a * (absN a : Int)) < 0 then
    let r := chain t p v a [(dir * l.j, (absN a * secU) / (l.j.toNat * 65536))]
    let y := if sgn r.2.2.2.1 = dir then change r.2.1 r.2.2.1 r.2.2.2.1 r.2.2.2.2 v1 l.a l.j
      else reversal r.2.1 r.2.2.1 r.2.2.2.1 r.2.2.2.2 v1 d l.a l.j
    (r.1 ++ y.1, y.2)
  else if dir * gain < 0 then change t p v a v1 d l.j
  else change t p v a v1 l.a l.j

/-- The plan that holds a position. -/
def planHold (t p : Int) : Plan := ⟨.hold, [], t, p, 0, p, ⟨0, 0, 0, 0⟩, 256, false⟩

/-- The plan of a velocity move (R230). -/
def planVel (t p v a : Int) (l : Lims) (s : Nat) : Plan :=
  let x := speed t p v a l.v l s
  ⟨.vel, x.1, x.2.1, x.2.2, l.v, 0, l, s, false⟩

/-- The plan of a stop ramp with its deceleration and jerk (R240); without a deceleration the speed holds until STOP_TMO
ends the stop. [DEDUCED, unsafe, log 69] -/
def planStop (t p v a dec j : Int) (s : Nat) (off : Bool) : Plan :=
  if dec ≤ 0 then ⟨.stop, [⟨t, 2 ^ 80, p, v, 0, 0⟩], t + 2 ^ 80, p, 0, 0, ⟨0, 0, 0, 0⟩, s, off⟩
  else
    let x := change t p v a 0 (floorDiv (dec * s) 256) j
    ⟨.stop, x.1, x.2.1, x.2.2, 0, 0, ⟨0, dec, dec, j⟩, s, off⟩

/-- Speeding up to `vp` in the direction `d` and stopping again: the pieces, and the end. -/
def hump (t p v a d : Int) (vp : Nat) (l : Lims) (s : Nat) : List Seg × List Seg × (Int × Int) × (Int × Int) :=
  let x := speed t p v a (d * vp) l s
  let y := change x.2.1 x.2.2 (d * vp) 0 0 (floorDiv (l.d * s) 256) l.j
  (x.1, y.1, x.2, y.2)

/-- A number from `lo`, which passes the test, up to `hi`, which does not, whose successor does not pass it: `n` halvings of
the interval. [DEDUCED, unsafe, log 78] -/
def halve (ok : Nat → Bool) : Nat → Nat → Nat → Nat
  | 0, lo, _ => lo
  | n + 1, lo, hi => if ok ((lo + hi) / 2) then halve ok n ((lo + hi) / 2) hi else halve ok n lo ((lo + hi) / 2)

/-- The speed in the direction `d` once the acceleration has been taken to 0 (R230). -/
def restSpeed (v a d j : Int) : Nat :=
  (d * v + if j = 0 then 0 else floorDiv (d * a * (absN a : Int)) (512 * j)).toNat

/-- Pieces moved later by `n`. -/
def delaySegs (n : Int) (q : Int) (l : List Seg) : List Seg := l.map fun g => { g with t := g.t + n, p := g.p + q }

/-- A time that no run reaches, from an instant: the end of a plan that does not end by itself. -/
def never (t : Int) : Int := t + 2 ^ 80

/-- A positioning plan by way of the speed `vp`: a change to it, a cruise, and the stop at the target. -/
def planVia (t p v a d target : Int) (l : Lims) (s vp : Nat) : Plan :=
  let h := hump t p v a d vp l s
  let rem := d * (target - h.2.2.2.2)
  let n : Nat := if vp == 0 then 0 else (rem.toNat * secU) / (vp * 65536)
  let cruise : List Seg := if n == 0 then [] else [⟨h.2.2.1.1, n, h.2.2.1.2, d * vp, 0, 0⟩]
  let tail := delaySegs n (d * rem) h.2.1
  ⟨.pos, h.1 ++ cruise ++ tail, h.2.2.2.1 + n, target, 0, target, l, s, false⟩

/-- A stop after the acceleration has risen toward 0 for a time: the pieces, and the end. -/
def lateStop (t p v a d : Int) (l : Lims) (s n : Nat) : List Seg × (Int × Int) :=
  let r := chain t p v a [(d * l.j, n)]
  let x := change r.2.1 r.2.2.1 r.2.2.2.1 r.2.2.2.2 0 (floorDiv (l.d * s) 256) l.j
  (r.1 ++ x.1, x.2)

/-- A positioning plan from a state that can stop before its target in the direction `d`, which ends exactly there
(R228): by way of the largest speed up to VMAX from which the stop ends in time; a move that slows down, and could not
first take its acceleration to 0, eases its deceleration as long as it can; a move above VMAX slows down to VMAX or, where
that is too far, below it. A speed limit of 0 leaves the move at rest before its target.
[DEDUCED, unsafe, log 78 and 162] -/
def planToward (t p v a d target : Int) (l : Lims) (s : Nat) : Plan :=
  let vmax := absN l.v
  let ok := fun vp : Nat => decide (0 ≤ d * (target - (hump t p v a d vp l s).2.2.2.2))
  let base := restSpeed v a d l.j
  if vmax = 0 then
    let x := change t p v a 0 (floorDiv (l.d * s) 256) l.j
    if x.2.2 = target then ⟨.pos, x.1, x.2.1, target, 0, target, l, s, false⟩
    else ⟨.pos, x.1 ++ [⟨x.2.1, 2 ^ 80, x.2.2, 0, 0, 0⟩], never x.2.1, x.2.2, 0, target, l, s, false⟩
  else if ok vmax then planVia t p v a d target l s vmax
  else if vmax < base then planVia t p v a d target l s (halve ok 48 0 vmax)
  else if ok base then planVia t p v a d target l s (halve ok 48 base vmax)
  else
    let okStop := fun n : Nat => decide (0 ≤ d * (target - (lateStop t p v a d l s n).2.2))
    let n := halve okStop 64 0 ((absN a * secU) / (l.j.toNat * 65536))
    let x := lateStop t p v a d l s n
    ⟨.pos, x.1, x.2.1, target, 0, target, l, s, false⟩

/-- Where a stop under the move's deceleration ends: time and position (R228). -/
def stopEnd (t p v a : Int) (l : Lims) (s : Nat) : Int × Int := (change t p v a 0 (floorDiv (l.d * s) 256) l.j).2

/-- Can a move in this state still stop at its target (R232, R243)? -/
def canStop (t p v a target : Int) (l : Lims) (s : Nat) : Bool :=
  let d := if v ≠ 0 then sgn v else sgn a
  decide (0 ≤ d * (target - (stopEnd t p v a l s).2))

/-- The plan of a positioning move (R228): when the target lies inside the stopping distance or behind, the move stops
first and then returns. -/
def planPos (t p v a target : Int) (l : Lims) (s : Nat) : Plan :=
  if canStop t p v a target l s then
    let d := if v ≠ 0 then sgn v else if a ≠ 0 then sgn a else if target < p then -1 else 1
    planToward t p v a d target l s
  else
    let x := change t p v a 0 (floorDiv (l.d * s) 256) l.j
    let q := planToward x.2.1 x.2.2 0 0 (if target < x.2.2 then -1 else 1) target l s
    { q with segs := x.1 ++ q.segs }

/-- The stretch factor that a positioning move plans with (R243): the one asked for where the move can then still stop at its
target, else the nearest with which it can; a move that cannot stop there even unstretched passes its target anyway. -/
def fitStretch (t p v a target : Int) (l : Lims) (x : Nat) : Nat :=
  let ok := fun y => canStop t p v a target l y
  if ok x || !ok 256 then x else 256 - halve (fun z => ok (256 - z)) 9 0 (256 - x)

/-- The plan of a positioning move under a stretch factor (R228, R243). -/
def planFit (t p v a target : Int) (l : Lims) (x : Nat) : Plan :=
  planPos t p v a target l (fitStretch t p v a target l x)

/-- Does a positioning plan pass its target and return, from an instant on? -/
def Plan.returns (q : Plan) (t : Int) : Bool :=
  let r := q.at_ t
  let d := if r.2.1 ≠ 0 then sgn r.2.1 else sgn r.2.2
  q.segs.any fun g => decide (t < g.t) && decide (d * g.v < -65536)

/-- A positioning plan at an instant under new limits and the stretch factor `x` (R231, R232), and whether its deceleration
limits are kept against weaker new ones: a plan that would not pass its target never does because of the change.
[DEDUCED, unsafe, log 162] -/
def Plan.relimit (q : Plan) (t : Int) (l : Lims) (x : Nat) : Plan × Bool :=
  let r := q.at_ t
  if canStop t r.1 r.2.1 r.2.2 q.target l x || canStop t r.1 r.2.1 r.2.2 q.target l 256 || q.returns t
  then (planFit t r.1 r.2.1 r.2.2 q.target l x, false)
  else
    let k := { l with d := q.lims.d, j := q.lims.j }
    let weaker := decide (l.d * x < q.lims.d * q.s) || (decide (l.j ≠ 0) && (decide (q.lims.j = 0) || decide (l.j < q.lims.j)))
    (if canStop t r.1 r.2.1 r.2.2 q.target k q.s then planPos t r.1 r.2.1 r.2.2 q.target k q.s else { q with lims := k }, weaker)

/-- A plan whose positions move by a distance. -/
def Plan.shift (q : Plan) (d : Int) : Plan :=
  { q with segs := q.segs.map fun g => { g with p := g.p + d }, p1 := q.p1 + d, target := q.target + d }

/-- A plan at an instant under another stretch factor (R242, R243), and whether it keeps more of its deceleration than the
factor asks: a positioning move stretches as far as it can still stop at its target. [DEDUCED, unsafe, log 160] -/
def Plan.stretch (q : Plan) (t : Int) (x : Nat) : Plan × Bool :=
  let r := q.at_ t
  if q.s == x || q.done t then (q, false)
  else match q.kind with
    | .stop => (planStop t r.1 r.2.1 r.2.2 q.lims.d q.lims.j x q.off, false)
    | .vel =>
      if 0 ≤ r.2.1 * r.2.2 ∧ absN r.2.1 ≤ absN q.v1 then (q, false) else (planVel t r.1 r.2.1 r.2.2 q.lims x, false)
    | .pos =>
      let ok := fun y => canStop t r.1 r.2.1 r.2.2 q.target q.lims y
      if ok x then (planPos t r.1 r.2.1 r.2.2 q.target q.lims x, false)
      else
        let y := 256 - halve (fun z => ok (256 - z)) 9 (256 - q.s) (256 - x)
        (if x < q.s ∧ y < q.s ∧ ok y then planPos t r.1 r.2.1 r.2.2 q.target q.lims y else q, decide (r.2.1 * r.2.2 < 0))
    | .hold => (q, false)

end Sys2Proof.Machine
end

