-- ==== Sys2Proof/Machine/Trig.lean ====
section
/-! DEFINITION. Sine, cosine and arc tangent in integers, for the sin/cos decoder (R151). -/

namespace Sys2Proof

/-- π in units of 2^-60. -/
def piFix : Int := 3622009729038561421

/-- The terms of an alternating power series in fixed point: `t` is the term of power `k`, `xx` the square of x. -/
def alternating (xx : Int) : Nat → Nat → Int → Int
  | 0, _, _ => 0
  | n + 1, k, t => t + alternating xx n (k + 2) (-(t * xx / 2 ^ 60) / ((k + 1) * (k + 2) : Nat))

/-- sin x and cos x for x in units of 2^-60 rad, in units of 2^-60. -/
def sinFix (x : Int) : Int := alternating (x * x / 2 ^ 60) 14 1 x
def cosFix (x : Int) : Int := alternating (x * x / 2 ^ 60) 14 0 (2 ^ 60)

/-- The largest j below `r` + 2^`n` such that the angle j × 2π ÷ 65,536 is at most that of (x, y), in the first
quadrant. -/
def atanStep (x y : Int) : Nat → Nat → Nat
  | 0, r => r
  | n + 1, r =>
    let j := r + 2 ^ n
    let a := piFix * j / 32768
    if sinFix a * x ≤ cosFix a * y then atanStep x y n j else atanStep x y n r

/-- atan2 in units of 2^-16 of a turn, 0 to 65,535, truncated (R151). -/
def atan16 (y x : Int) : Nat :=
  if 0 < x && 0 ≤ y then atanStep x y 14 0
  else if x ≤ 0 && 0 < y then 16384 + atanStep y (-x) 14 0
  else if x < 0 && y ≤ 0 then 32768 + atanStep (-x) (-y) 14 0
  else if 0 ≤ x && y < 0 then 49152 + atanStep (-y) x 14 0
  else 0

end Sys2Proof
end

