-- ==== Sys2Proof/Machine/AuxOps.lean ====
section
/-! DEFINITION. The operations of the auxiliary channels that other blocks call: the cluster ADC's requests (R289,
R290), the coils of a stepper channel (R294 to R297), and the start, the coast and the held move of a BLDC channel (R305,
R308, R309). -/

namespace Sys2Proof.Machine

def State.auxOf (s : State) (c : Nat) : AuxSt := tabGet (fun _ => AuxSt.reset) s.aux c
def State.setAux (s : State) (c : Nat) (x : AuxSt) : State := { s with aux := tabSet (fun _ => AuxSt.reset) s.aux c x }
def State.adcOf (s : State) (cl : Nat) : AdcSt := tabGet (fun _ => AdcSt.reset) s.adc cl
def State.setAdc (s : State) (cl : Nat) (x : AdcSt) : State := { s with adc := tabSet (fun _ => AdcSt.reset) s.adc cl x }

/-- Does a channel run (STATE 2) in the given mode? -/
def State.auxRuns (s : State) (c mode : Nat) : Bool :=
  s.g (F.AUX_STATUS_STATE c) == 2 && s.g (F.AUX_CFG_MODE c) == mode

/-- Is a Larkspur channel that of an auxiliary channel in BLDC mode? -/
def State.isBldc (s : State) (k : Nat) : Bool := 16 ≤ k && k < 40 && s.g (F.AUX_CFG_MODE (k - 16)) == 2

/-! ### The cluster ADC -/

/-- The class of a request, and its place within the class on one channel (*ADC request classes*, R290, R292). -/
def AdcUse.rank : AdcUse → Nat
  | .sample _ => 0
  | .reference => 23
  | .current => 24
  | .peak coil => 48 + 2 * coil
  | .valley coil => 49 + 2 * coil

/-- The order in which requests are served: class, channel, coil; the reference comes behind class 1. -/
def AdcReq.rank (r : AdcReq) : Nat :=
  match r.use with
  | .sample _ => r.ch
  | .reference => 6
  | .current => 16 + r.ch
  | .peak coil => 32 + 4 * r.ch + 2 * coil
  | .valley coil => 33 + 4 * r.ch + 2 * coil

/-- The request that is served first. -/
def firstReq : List AdcReq → Option AdcReq
  | [] => none
  | r :: t => match firstReq t with
    | none => some r
    | some q => if r.rank ≤ q.rank then some r else some q

/-- May a request start at a tick: made, and not past its limit (R290)? -/
def AdcReq.startable (now : Nat) (r : AdcReq) : Bool :=
  r.made ≤ now && match r.limit with
    | some l => now ≤ l
    | none => true

/-- The request that an idle ADC takes (R290, R292): the reference once no class 1 request placed before it waits, else by
class, channel and coil. [DEDUCED, unsafe, log 174] -/
def nextReq (now : Nat) (l : List AdcReq) : Option AdcReq :=
  let l := l.filter (AdcReq.startable now)
  match l.find? fun r => r.rank ≤ 6 with
  | some r => if r.rank == 6 then some r else firstReq l
  | none => firstReq l

/-- A list without its first entry that equals `r`. -/
def dropReq (r : AdcReq) : List AdcReq → List AdcReq
  | [] => []
  | x :: t => if x = r then t else x :: dropReq r t

/-- The next pending request starts on an idle ADC (R290); the longest wait is kept. -/
def State.adcStart (s : State) (cl : Nat) : State :=
  let a := s.adcOf cl
  match a.cur, nextReq s.tb.ticks a.wait with
  | none, some r =>
    let w := min (s.tb.ticks - r.made) 65535
    let s := (s.setAdc cl { a with wait := dropReq r a.wait, cur := some (r, s.short), began := s.tb.ticks }).on (F.AUX_CL_ADC_STATUS_BUSY cl)
    s.p (F.AUX_CL_ADC_COUNT_MAX_WAIT cl) (max w (s.g (F.AUX_CL_ADC_COUNT_MAX_WAIT cl)))
  | _, _ => s

/-- A coil's state. -/
def State.coil (s : State) (c i : Nat) : Coil := (s.auxOf c).coils.getD i Coil.reset
def State.setCoil (s : State) (c i : Nat) (x : Coil) : State :=
  s.setAux c { s.auxOf c with coils := listSet (s.auxOf c).coils i x }

/-- The peak sample of a chopper cycle has come. -/
def Coil.notePeak (k : Coil) (id p : Nat) : Coil :=
  { k with open_ := k.open_.map fun y => if y.id == id then { y with peak := some p } else y }

/-- A chopper cycle of a coil ends (R298), its valley sample valid or not: with both samples valid a pair joins the block;
after 16 cycles the offset moves, or the block counts as skipped. While the cluster ADC is faulted the offset stays. -/
def State.cycleEnd (s : State) (c i id : Nat) (valley : Option Nat) : State :=
  let k := s.coil c i
  match k.open_.find? fun y => y.id == id with
  | none => s
  | some y =>
  let k := { k with open_ := k.open_.filter fun y => y.id != id }
  let (pairs, esum) := match y.peak, valley with
    | some p, some v => (k.pairs + 1, k.esum + ((y.target * 16 : Nat) : Int) - ((p + v) / 2 : Nat))
    | _, _ => (k.pairs, k.esum)
  if k.cycles + 1 < 16 then s.setCoil c i { k with cycles := k.cycles + 1, pairs := pairs, esum := esum }
  else
    let s := s.setCoil c i { k with cycles := 0, pairs := 0, esum := 0 }
    let f := if i == 0 then F.AUX_STP_OFS_OFS_A c else F.AUX_STP_OFS_OFS_B c
    if s.is (F.AUX_CL_ADC_STATUS_FAULT (c / 6)) then s
    else if 8 ≤ pairs then s.pi f (clampI (-32) 31 (s.gi f + truncDiv esum (pairs * 32)))
    else s.count (F.AUX_STP_COUNT_ADAPT_SKIPPED c) 1

/-- A request is discarded (R290): it counts in DROPPED and is invalid at its user. -/
def State.adcDrop (s : State) (cl : Nat) (r : AdcReq) : State :=
  let s := (s.setAdc cl { s.adcOf cl with wait := dropReq r (s.adcOf cl).wait }).count (F.AUX_CL_ADC_COUNT_DROPPED cl) 1
  let c := 6 * cl + r.ch
  match r.use with
  | .peak _ => s.count (F.AUX_STP_COUNT_DROPPED c) 1
  | .valley i => (s.count (F.AUX_STP_COUNT_DROPPED c) 1).cycleEnd c i r.cyc none
  | _ => s

/-- A request is made at a tick, with its start limit (R290): an AUX_SAMPLE replaces one of the channel that has not started;
a request whose limit has passed is discarded. -/
def State.adcAskAt (s : State) (c : Nat) (use : AdcUse) (made : Nat) (limit : Option Nat) (cyc : Nat) : State :=
  let cl := c / 6
  let same := fun (r : AdcReq) =>
    r.ch == c % 6 && r.use.rank == use.rank && (use.rank == 0 || r.limit.any (· < s.tb.ticks))
  let s := match (s.adcOf cl).wait.find? same with
    | some r => s.adcDrop cl r
    | none => s
  (s.setAdc cl { s.adcOf cl with wait := (s.adcOf cl).wait ++ [⟨c % 6, use, made, limit, cyc⟩] }).adcStart cl

/-- A class 1 request is made now (R290). -/
def State.adcAsk (s : State) (c : Nat) (use : AdcUse) : State := s.adcAskAt c use s.tb.ticks none 0

/-- The sample of a chopper cycle is asked for: it has to start within 500 ns (R290). -/
def State.adcAskCoil (s : State) (c : Nat) (use : AdcUse) (cyc : Nat) : State :=
  s.adcAskAt c use s.tb.ticks (some (s.tb.ticks + 125)) cyc

/-- Requests whose instant has come start on the idle ADCs (R290). -/
def State.adcDue (s : State) : State := s.each (s.adc.map (·.1)) fun cl s => s.adcStart cl

/-! ### Stepper coils -/

/-- C(j) = round(32,767 × cos(2πj ÷ 1,024)) (R294). -/
def coilTable (j : Nat) : Int :=
  let j := j % 1024
  let j := if 512 < j then 1024 - j else j
  floorDiv (2 * 32767 * cosFix (piFix * j / 512) + 2 ^ 60) (2 ^ 61)

/-- Microsteps per full step and per revolution (R294). -/
def State.micro (s : State) (c : Nat) : Nat := 2 ^ s.g (F.AUX_STP_CFG_MICRO c)
def State.stepsRev (s : State) (c : Nat) : Nat := s.g (F.AUX_STP_CFG_STEPS_REV c) * s.micro c

/-- The table index k of a count (R294). -/
def State.tableIndex (s : State) (c : Nat) (count : Int) : Nat :=
  unsigned 10 (floorDiv (count * 256) (s.micro c))

/-- C for a coil: coil B lags by 256 entries. -/
def State.coilSine (s : State) (c i : Nat) : Int := coilTable (s.g (F.AUX_STP_STATUS_INDEX c) + if i == 0 then 0 else 768)

/-- A coil's target after standstill reduction (R294, R299). -/
def State.coilTarget (s : State) (c i : Nat) : Nat :=
  (s.g (F.AUX_STP_CUR_I_RUN c) * absN (s.coilSine c i) / 32768) * s.g (F.AUX_STP_STATUS_FACTOR c) / 256

/-- The thresholds TH_HI and TH_LO of a coil (R297). -/
def State.thresholds (s : State) (c i : Nat) : Int × Int :=
  let ofs := if i == 0 then s.gi (F.AUX_STP_OFS_OFS_A c) else s.gi (F.AUX_STP_OFS_OFS_B c)
  let t : Int := s.coilTarget c i
  let h : Int := s.g (F.AUX_STP_CUR_HYST c)
  let lo := clampI 0 255 (t - h + ofs)
  (clampI 0 255 (t + h + ofs), if s.is (F.AUX_STP_CFG_DECAY c) then max 1 lo else lo)

/-- A coil begins a drive phase with the polarity of C (R296). -/
def State.coilDrive (s : State) (c i : Nat) : State :=
  s.setCoil c i { s.coil c i with
    on := true, drive := true, blanked := s.g (F.AUX_STP_CHOP_BLANK c) == 0, neg := decide (s.coilSine c i < 0),
    since := s.tb.ticks, opened := false }

/-- A coil begins a decay phase (R296). -/
def State.coilDecay (s : State) (c i : Nat) : State :=
  s.setCoil c i { s.coil c i with drive := false, off := s.g (F.AUX_STP_CHOP_TOFF_MIN c) == 0, since := s.tb.ticks }

/-- A coil whose target has become 0 is released, and one whose target is no longer 0 is driven (R296). -/
def State.coilRefresh (s : State) (c i : Nat) : State :=
  let k := s.coil c i
  if !s.auxRuns c 1 || s.coilTarget c i == 0 then
    s.setCoil c i { k with on := false, drive := false, blanked := false, off := false, neg := false, open_ := [] }
  else if k.on then s
  else s.coilDrive c i

/-- The position of a stepper follows its count (R294). -/
def State.stepPos (s : State) (c : Nat) : State :=
  let x := s.auxOf c
  let s := s.notePos (16 + c) (s.rd64 (R.AUX_POS_LO c) (R.AUX_POS_HI c))
  (s.wr64 (R.AUX_POS_LO c) (R.AUX_POS_HI c) (floorDiv (x.count * 2 ^ 32) (s.stepsRev c))).p
    (F.AUX_STP_STATUS_INDEX c) (s.tableIndex c x.count)

/-! ### BLDC -/

/-- The sign of an integer as a direction. -/
def dirOf (x : Int) : Int := if x < 0 then -1 else if 0 < x then 1 else 0

/-- The direction that a channel's start request asks for, 0 without a request (R305): that of the move that Larkspur
holds, of the velocity move in progress, or of the reference velocity. [DEDUCED, unsafe, log 91] -/
def State.bldcWant (s : State) (c : Nat) : Int :=
  let k := 16 + c
  if s.g (F.LSP_CH_CFG_SRC k) == 0 then
    match (s.auxOf c).hold with
    | some m => dirOf m.lims.v
    | none => match (s.chanOf k).plan with
      | some q => if q.kind = .vel ∧ s.chanState k == 2 then dirOf q.v1 else 0
      | none => 0
  else dirOf (s.rd (R.LSP_CH_VREF k)).int

/-- A velocity move in progress becomes a move that Larkspur holds until handover (R309): V_REF reads 0 and STATE is 2. -/
def State.holdPlan (s : State) (c : Nat) : State :=
  let k := 16 + c
  match (s.chanOf k).plan with
  | some q =>
    if s.g (F.LSP_CH_CFG_SRC k) == 0 && decide (q.kind = .vel) && s.chanState k == 2 && q.v1 != 0 then
      (s.setAux c { s.auxOf c with hold := some ⟨3, 0, { q.lims with v := q.v1 }, none⟩ }).setChan k
        { s.chanOf k with plan := none }
    else s
  | none => s

/-- The duty in force changes. -/
def State.setDuty (s : State) (c : Nat) (d : Int) : State := s.p (F.AUX_BL_DUTY_DUTY c) (clampI 0 65535 d).toNat

/-- A sector begins: no reading, no crossing and no miss yet. -/
def State.newSector (s : State) (c sector : Nat) : State :=
  (s.setAux c { s.auxOf c with
    comm := s.tb.ticks, wasSec := s.g (F.AUX_BL_STATUS_SECTOR c), cmp := none, zc := false, missed := false }).p
    (F.AUX_BL_STATUS_SECTOR c) sector

/-- The high-side on-time of a PWM period in ticks (R302). -/
def State.bldcOn (s : State) (c : Nat) : Nat := s.g (F.AUX_BL_DUTY_DUTY c) * s.g (F.AUX_BL_PWM_PERIOD c) / 65536

/-- Is the PWM input high (R302)? The counter counts from the start of the period and wraps at PERIOD. -/
def State.pwmHigh (s : State) (c : Nat) : Bool :=
  decide ((s.tb.ticks - (s.auxOf c).perTick) % atLeast1 (s.g (F.AUX_BL_PWM_PERIOD c)) < s.bldcOn c)

/-- A PWM period begins (R302): its bridge current is asked for at the centre of the on-time, to start by its end (R290);
a period without an on-time has no centre and no request. [DESIGN CHOICE, safe, log 165] -/
def State.bldcPeriod (s : State) (c : Nat) : State :=
  let s := s.setAux c { s.auxOf c with perTick := s.tb.ticks }
  let on := s.bldcOn c
  if on == 0 then s else s.adcAskAt c .current (s.tb.ticks + on / 2) (some (s.tb.ticks + on)) 0

/-- A start in a direction (R305, step 1): align. [DEDUCED, unsafe, log 91] -/
def State.bldcStart (s : State) (c : Nat) (dir : Int) : State :=
  let s := s.holdPlan c
  let s := s.setAux c { s.auxOf c with starve := 0, got := false, beyond := false, phTick := s.tb.ticks, read := none }
  let s := ((s.p (F.AUX_BL_STATUS_PHASE c) 1).pb (F.AUX_BL_STATUS_DIRN c) (decide (dir < 0))).p (F.AUX_BL_STATUS_ZC_RUN c) 0
  ((s.newSector c (s.g (F.AUX_BL_HO_ALIGN_SECTOR c))).setDuty c (256 * s.g (F.AUX_BL_START_ALIGN_DUTY c))).bldcPeriod c

/-- All enables are released for COAST_TIME (R305, R306, R308). -/
def State.bldcCoast (s : State) (c : Nat) : State :=
  let s := s.setAux c { s.auxOf c with phTick := s.tb.ticks }
  (((s.p (F.AUX_BL_STATUS_PHASE c) 4).setDuty c 0).off (F.AUX_BL_STATUS_I_LIMITED c)).wr (R.AUX_VEL c) 0

/-- A channel at rest starts on a standing request, and one that aligns or ramps without a request any more coasts. -/
def State.bldcCheck (s : State) (c : Nat) : State :=
  if !s.auxRuns c 2 then s
  else
    let ph := s.g (F.AUX_BL_STATUS_PHASE c)
    let w := s.bldcWant c
    if ph == 0 && w != 0 then s.bldcStart c w
    else if (ph == 1 || ph == 2) && w == 0 then s.bldcCoast c
    else s

/-- A move that Larkspur holds is stopped (R305). -/
def State.dropHeld (s : State) (c : Nat) : State :=
  if (s.auxOf c).hold.isNone then s else (s.setAux c { s.auxOf c with hold := none }).bldcCheck c

/-- A velocity move for a BLDC channel that is not in closed loop is held (R309); a VMAX of 0 ends the request. -/
def State.holdMove (s : State) (c : Nat) (m : Move) : State :=
  let k := 16 + c
  let s := s.setChan k { s.chanOf k with plan := none, stopTick := none }
  if m.lims.v = 0 then ((s.setAux c { s.auxOf c with hold := none }).p (F.LSP_CH_STATUS_STATE k) 0).bldcCheck c
  else
    (((s.setAux c { s.auxOf c with hold := some m }).off (F.LSP_CH_STATUS_AT_TARGET k)).p (F.LSP_CH_STATUS_STATE k) 2).bldcCheck
      c

/-- Does a velocity move for a channel have to wait for a handover? -/
def State.bldcWaits (s : State) (k : Nat) : Bool := s.isBldc k && s.g (F.AUX_BL_STATUS_PHASE (k - 16)) != 3

/-- The mode logic follows STATE (R287, R288): a channel that does not run releases its coils or its phases; one that
begins to run drives its coils, or starts on a standing request. -/
def State.auxMode (s : State) (c : Nat) : State :=
  let s := (s.coilRefresh c 0).coilRefresh c 1
  if s.auxRuns c 2 then s.bldcCheck c
  else if s.g (F.AUX_CFG_MODE c) == 2 then
    (((s.p (F.AUX_BL_STATUS_PHASE c) 0).setDuty c 0).off (F.AUX_BL_STATUS_I_LIMITED c)).wr (R.AUX_VEL c) 0
  else s

end Sys2Proof.Machine
end

