-- ==== Sys2Proof/Machine/SafetyOps.lean ====
section
/-! DEFINITION. The operations of the safety path that other blocks call: the axis cell safe state (R17, R108), what
decides whether an axis drives its pins (R106), the assertion of STO (R457, R460), Foxglove's trips (R473) and the
lock-outs (R475, R476). -/

namespace Sys2Proof.Machine

/-! ### Groups -/

/-- The DC-link group of an axis (R110). -/
def State.axGroup (s : State) (n : Nat) : Nat := s.g (F.AX_PWM_CFG_DL_GROUP n)

/-- The DC-link group of an auxiliary channel. -/
def State.auxGroup (s : State) (c : Nat) : Nat := s.g (F.AUX_CFG_DL_GROUP c)

/-- The servo axes of a group. -/
def State.groupAxes (s : State) (g : Nat) : List Nat := (List.range 16).filter fun n => s.axGroup n == g

/-- The auxiliary channels of a group. -/
def State.groupAux (s : State) (g : Nat) : List Nat := (List.range 24).filter fun c => s.auxGroup c == g

/-- The channels of a DC-link group: its servo axes and its auxiliary channels. -/
def State.groupChans (s : State) (g : Nat) : List Nat := s.groupAxes g ++ (s.groupAux g).map (· + 16)

/-- Is STO asserted for a group? -/
def State.sto (s : State) (g : Nat) : Bool := testBit (s.g F.SAF_STO_ASSERTED) g

/-- Is the device lock-out set? -/
def State.devLocked (s : State) : Bool := s.is F.SAF_LOCK_DEVICE

/-- Is the axis lock-out of an axis set? -/
def State.axLocked (s : State) (n : Nat) : Bool := testBit (s.g F.SAF_LOCK_AXIS) n

/-! ### Readiness -/

/-- Do the conditions of R561 hold? -/
def State.readyToMove (s : State) : Bool :=
  s.is F.GLB_READY_FW_VERIFIED && s.g F.LSP_STATUS_RUNNING == 15 && s.saf.reloaded && !s.clk.down.contains 8 &&
    !s.clk.down.contains 9 && s.clk.engRuns

/-- MOTION_READY is set once they hold, with READY_MS (R561). -/
def State.motionReady (s : State) : State :=
  if s.is F.GLB_READY_MOTION_READY || !s.readyToMove then s
  else (s.on F.GLB_READY_MOTION_READY).p F.GLB_READY_READY_MS (min ((s.tb.ticks - s.clk.resetTick) * 4 / 1000000) 65535)

/-! ### Brakes -/

def State.brkOf (s : State) (n : Nat) : BrkSt := tabGet (fun _ => BrkSt.reset) s.saf.brk n
def State.setBrk (s : State) (n : Nat) (x : BrkSt) : State :=
  { s with saf := { s.saf with brk := tabSet (fun _ => BrkSt.reset) s.saf.brk n x } }

/-- Both brake commands of an axis go high: the brake engages (R465); a dark test that runs gives no result (R467). -/
def State.engage (s : State) (n : Nat) : State :=
  if s.is (F.SAF_BRK_STATUS_RELEASED n)
  then (s.setBrk n { s.brkOf n with since := s.tb.ticks, dark := false }).off (F.SAF_BRK_STATUS_RELEASED n)
  else s

/-! ### The STO pins -/

/-- A group's waves stop: each pin is released and its pull-up holds it high (R459). -/
def State.wavesOff (s : State) (g : Nat) : State :=
  let off := fun t i => tabSet (fun _ => none) t i none
  { s with saf := { s.saf with waves := off (off s.saf.waves (2 * g)) (2 * g + 1) } }

/-- Does the wave of an STO pin run: re-armed less than two safety cycles ago (R459)? -/
def State.waveRuns (s : State) (i : Nat) : Bool :=
  match tabGet (fun _ => none) s.saf.waves i with
  | some t => decide (s.tb.ticks < t + 500000)
  | none => false

/-- The level of an STO pin (R459), `c` 0 for STOg_EN0 and 1 for STOg_EN1: a square wave of 40 µs, the two in antiphase,
while its wave runs, else static high. [DESIGN CHOICE, unsafe, log 171] -/
def State.stoPin (s : State) (g c : Nat) : Bool :=
  if s.waveRuns (2 * g + c) then (s.tb.ticks / 5000 + c) % 2 == 0 else true

/-- The level of a brake switch command (R450, R465, R467): AXn_BRKH_N, or AXn_BRKL_N for `low`, is low while the brake is
released, but for the switch that a dark test turns off. -/
def State.brakePin (s : State) (n : Nat) (low : Bool) : Bool :=
  !s.is (F.SAF_BRK_STATUS_RELEASED n) || ((s.brkOf n).dark && (s.brkOf n).darkL == low)

/-! ### Brake test end -/

/-- The end of a brake test (R469): SAF_BT_RESULT and the journal take it. RESULT 1 is a pass, 2 a fail, 3 aborted. -/
def State.btEnd (s : State) (b : BtRun) (result reason : Nat) : State :=
  let s := { s with saf := { s.saf with bt := none } }
  let s := (((s.p F.SAF_BT_RESULT_STATE 2).p F.SAF_BT_RESULT_RESULT result).p F.SAF_BT_RESULT_AXIS b.axis).p
    F.SAF_BT_RESULT_REASON reason
  let s := s.p F.SAF_BT_RESULT_MOVED (min b.moved (2 ^ 20 - 1))
  s.journal 8 7 (Config.severity 1648) [b.axis, result, b.peak, b.moved, s.now]

/-- The running brake test is aborted for the reason when it runs on an axis that the condition names (R469). -/
def State.btAbortIf (s : State) (cond : Nat → Bool) (reason : Nat) : State :=
  match s.saf.bt with
  | some b => if cond b.axis then s.btEnd b 3 reason else s
  | none => s

/-! ### What decides whether an axis drives its pins -/

/-- Does Foxglove hold the axis's outputs (R109, R473, R475, R32)? -/
def State.fxgHolds (s : State) (n : Nat) : Bool :=
  s.axLocked n || s.devLocked || s.isolated regMotion || s.saf.globalSafe

/-- Does a slot overrun of the axis's engine hold the axis until the engine's FAULT_CLR (R34)? [DEDUCED, safe, log 151] -/
def State.slotHolds (s : State) (n : Nat) : Bool := (s.aeOf (n / 2)).overran.contains n

/-- Does a fault or a hold make a write of OUT_EN = 1 without effect: the axis's own (R108), Foxglove's (R109), the
feedback's (R164) or a slot overrun's (R34)? [DEDUCED, unsafe, log 39] -/
def State.enableHeld (s : State) (n : Nat) : Bool :=
  s.is (F.AX_PWM_STATUS_FAULT n) || s.is (F.AX_PWM_STATUS_LAUNCH_OFF n) || s.fxgHolds n || s.slotHolds n ||
    s.is (F.AX_FB_STATUS_FAULT n)

/-- Does none of rows 1 to 4 of *Output precedence* act on the axis (R106)? -/
def State.rowsClear (s : State) (n : Nat) : Bool :=
  !s.sto (s.axGroup n) && !s.clk.tripped && !s.clk.down.contains 8 && !s.fxgHolds n && !s.slotHolds n &&
    !s.is (F.AX_PWM_STATUS_FAULT n) && !s.is (F.AX_PWM_STATUS_LAUNCH_OFF n) && s.g (F.AX_PWM_STATUS_STATE n) == 2 && s.is (F.AX_PWM_CTL_OUT_EN n) &&
    !(s.pwmOf n).first

/-- The axis's STO_GATED, FXG_OFF and OUT_ACTIVE follow their causes; while Foxglove holds the axis OUT_EN is clear, so that
its release needs a fresh enable (R109). When OUT_ACTIVE falls the brake engages (R465) and
a brake test on the axis is aborted (R469). -/
def State.refreshAxis (s : State) (n : Nat) : State :=
  let s := (s.pb (F.AX_PWM_STATUS_STO_GATED n) (s.sto (s.axGroup n))).pb (F.AX_PWM_STATUS_FXG_OFF n) (s.fxgHolds n)
  let s := s.when (s.fxgHolds n) fun s => s.off (F.AX_PWM_CTL_OUT_EN n)
  let act := s.rowsClear n
  let fell := s.is (F.AX_PWM_STATUS_OUT_ACTIVE n) && !act
  let s := s.pb (F.AX_PWM_STATUS_OUT_ACTIVE n) act
  let s := s.when (!act) fun s => s.engage n
  s.when fell fun s => s.btAbortIf (fun a => a == n) 2

/-- An auxiliary channel's STATE and STO_GATED follow EN, OUT_EN and its group (R287, *AUX0_STATUS*), and its mode logic
follows STATE. -/
def State.refreshAux (s : State) (c : Nat) : State :=
  let st := if !s.is (F.AUX_CFG_EN c) then 0 else if s.is (F.AUX_CTL_OUT_EN c) then 2 else 1
  ((s.p (F.AUX_STATUS_STATE c) st).pb (F.AUX_STATUS_STO_GATED c) (s.sto (s.auxGroup c))).auxMode c

/-! ### Brake choppers -/

/-- Does a condition of R113 hold the chopper output inactive? -/
def State.chopOff (s : State) (g : Nat) : Bool :=
  s.saf.globalSafe || s.isolated regMotion || s.clk.down.contains 8 || !s.is (F.GLB_BCH_CTL_EN g) ||
    !s.is (F.GLB_DL_STATUS_VALID g)

/-- The level of BCHg_N (R85, R86): low commands the chopper on; an inactive or released output is high. -/
def State.chopPin (s : State) (g : Nat) : Bool := !(s.is (F.GLB_BCH_STATUS_ON g) && !s.clk.down.contains 8)

/-- The on-time of the running window in elapsed ticks. -/
def State.chopAcc (s : State) (g : Nat) : Nat :=
  (s.bchOf g).acc + if s.is (F.GLB_BCH_STATUS_ON g) then s.tb.ticks - (s.bchOf g).mark else 0

/-- The chopper output changes (R111). -/
def State.setChop (s : State) (g : Nat) (v : Bool) : State :=
  if s.is (F.GLB_BCH_STATUS_ON g) == v then s.setBch g { s.bchOf g with wait := none }
  else
    let acc := s.chopAcc g
    (s.setBch g { s.bchOf g with acc := acc, since := s.tb.ticks, mark := s.tb.ticks, wait := none }).pb
      (F.GLB_BCH_STATUS_ON g) v

/-- The chopper output goes inactive when a condition of R113 holds. -/
def State.refreshChop (s : State) (g : Nat) : State := if s.chopOff g then s.setChop g false else s

/-- Every axis and every brake chopper follows its causes. -/
def State.refreshAxes (s : State) : State :=
  (s.each (List.range 16) fun n s => s.refreshAxis n).each (List.range 4) fun g s => s.refreshChop g

/-! ### Larkspur channels -/

/-- The word at an offset of an axis's block of axis-state memory. -/
def axisWord (n off : Nat) : Nat := 0x680000 + n * 0x4000 + off

/-- The offset of a register of an auxiliary channel (*Block layout*). -/
def auxWord (c off : Nat) : Nat := 0x500000 + 0x4000 * c + off

/-- The offset of a word of a port's transmit area (R396). -/
def areaWord (p off : Nat) : Nat := 0xD20000 + p * 0x10000 + off

/-- A channel event (R484): the reason and LSP_CHk_STATUS [23:0]. -/
def State.chanEvent (s : State) (k reason : Nat) : State :=
  s.raise (evChan k) (BitVec.ofNat 32 (reason + 256 * getBits (s.rd (R.LSP_CH_STATUS k)) 0 24))

/-- The axes that a slot is bound to. -/
def SlotF.axes (f : SlotF) (n : Nat) : List Nat :=
  match f.axis with
  | 0 => [2 * n]
  | 1 => [2 * n + 1]
  | 2 => [2 * n, 2 * n + 1]
  | _ => []

/-- A word written from outside the engine takes its place in an axis's block: the words that chapter 9 describes as
registers follow their access codes (R10), every other word is stored. [DEDUCED, unsafe, log 54] -/
def State.blockWord (s : State) (m o : Nat) (v : Word) : State :=
  if (regRow? (axisWord m o)).isSome then s.merge (axisWord m o) v else s.wr (axisWord m o) v

/-- A burst of up to 16 words, each with its offset in the block, to an axis's block of axis-state memory: held while a slot
bound to that axis runs (R185). -/
def State.writeBlock (s : State) (m : Nat) (words : List (Nat × Word)) : State :=
  let n := m / 2
  let e := s.aeOf n
  if e.mode = .slot ∧ (e.slot.axes n).contains m
  then s.setAe n { e with bursts := e.bursts ++ [words.map fun w => (m * 0x4000 + w.1, w.2)] }
  else s.each words fun w s => s.blockWord m w.1 w.2

/-- Homing ends without success (R251): HOME_FAIL, HOMED, HOME_REASON and the event; IQ_LIMIT is restored for types 9 and
10, and RES_ACTION when it fails at its load. -/
def State.homeFail (s : State) (k reason : Nat) : State :=
  let c := s.chanOf k
  if c.home = .none then s
  else
    let ty := s.g (F.LSP_CH_HOME_CFG_TYPE k)
    let s := s.setChan k { c with home := .none }
    let s := s.when (ty == 9 || ty == 10) fun s => s.writeBlock k [(0x3C, c.homeILim)]
    let s := s.when (decide (c.home = .load)) fun s =>
      s.writeBlock k [(0x200, putBits (s.rd (axisWord k 0x200)) 1 2 c.homeRes)]
    let s := ((s.on (F.LSP_CH_STATUS_HOME_FAIL k)).off (F.LSP_CH_STATUS_HOMED k)).p (F.LSP_CH_STATUS_HOME_REASON k) reason
    s.chanEvent k 2

/-- The queue of a channel is emptied; a move that a BLDC channel holds is stopped too (R305, R309). -/
def State.emptyQueue (s : State) (k : Nat) : State :=
  let s := (s.setChan k { s.chanOf k with queue := [], timed := none }).p (F.LSP_CH_STATUS_QLEVEL k) 0
  if 16 ≤ k && k < 40 then s.dropHeld (k - 16) else s

/-- A channel's STATE. The count of evaluations restarts where STATE 0 is entered (R192). -/
def State.setChanState (s : State) (k st : Nat) : State :=
  let s := if st == 0 && s.chanState k != 0 then s.setChan k { s.chanOf k with evals := 0 } else s
  s.p (F.LSP_CH_STATUS_STATE k) st

/-- The follower of a channel leaves its shaft when a stop replaces its reference (R248, R272). -/
def State.dropFollower (s : State) (k : Nat) : State :=
  if s.chanState k == 6 then (s.p (F.LSH_FOL_STATUS_STATE k) 0) else s

/-- A channel whose axis is in a cell fault (R253): STATE is 7, the queue is empty and the reference follows the measured
position; homing fails with reason 5 (R251). -/
def State.chanFault (s : State) (k : Nat) : State :=
  if s.chanState k == 7 then s
  else
    let s := ((s.homeFail k 5).dropFollower k).emptyQueue k
    let s := s.setChan k { s.chanOf k with plan := none, pend := [], stopTick := none, hard := false }
    (s.setChanState k 7).chanEvent k 6

/-- Is a channel pending for the staggered enable? -/
def State.enPending (s : State) (k : Nat) : Bool :=
  testBit ((s.rd R.LSP_EN_REQ0).toNat + 2 ^ 32 * (s.rd R.LSP_EN_REQ1).toNat) k

/-- Does a group have a pending channel? -/
def State.enRuns (s : State) (g : Nat) : Bool := (s.groupChans g).any s.enPending

/-- BUSY shows the groups with a pending channel. -/
def State.enBusy (s : State) : State :=
  s.p F.LSP_EN_STATUS_BUSY ((List.range 4).foldl (fun a g => a + (if s.enRuns g then 2 ^ g else 0)) 0)

/-- A channel becomes pending, or leaves the sequence. -/
def State.enSet (s : State) (k : Nat) (b : Bool) : State :=
  if k < 32 then s.wr R.LSP_EN_REQ0 (BitVec.ofNat 32 (setBit (s.rd R.LSP_EN_REQ0).toNat k b))
  else s.wr R.LSP_EN_REQ1 (BitVec.ofNat 32 (setBit (s.rd R.LSP_EN_REQ1).toNat (k - 32) b))

/-- A channel whose OUT_EN its owner sets leaves the staggered enable (R569). -/
def State.leaveStagger (s : State) (k : Nat) : State := if s.enPending k then (s.enSet k false).enBusy else s

/-- Every pending channel of a group is dropped when its STO is asserted or the device lock-out set (R569). -/
def State.dropPending (s : State) (g : Nat) : State :=
  if !s.enRuns g then s
  else ((s.each (s.groupChans g) fun k s => s.enSet k false).on F.LSP_EN_STATUS_CANCELLED).enBusy

/-! ### Cell safe states -/

/-- Does the reaction of the region or of the chip hold already (R28)? [DEDUCED, unsafe, log 28] -/
def State.contained (s : State) (r : Nat) : Bool := s.isolated r || s.saf.globalSafe

/-- The level whose reaction runs a channel's stop at present (R28): 1 a cluster's, 2 a region's, 0 none.
[DEDUCED, unsafe, log 131] -/
def State.stopLevel (s : State) (k : Nat) : Nat :=
  if s.chanState k == 3 || (s.chanState k == 5 && decide (ChanCmd.cfgStop ∈ (s.chanOf k).pend)) then (s.chanOf k).byLevel
  else 0

/-- Does the reaction of a higher level run on an axis or auxiliary channel, or hold its region (R28)? A cell fault then
changes nothing. -/
def State.higherRuns (s : State) (k : Nat) : Bool := s.contained regMotion || s.stopLevel k != 0

/-- The axis cell safe state (*Cell safe states*, R108): FAULT is set, OUT_EN cleared and the brake engaged. -/
def State.axisSafe (s : State) (n : Nat) : State :=
  ((((s.on (F.AX_PWM_STATUS_FAULT n)).off (F.AX_PWM_CTL_OUT_EN n)).engage n).refreshAxis n).chanFault n

/-- An axis cell fault (R17): the cell safe state, and the axis's cell-fault event unless FAULT was set before; the reaction of a
higher level goes on (R28). -/
def State.axisFault (s : State) (n : Nat) : State :=
  if s.higherRuns n then s
  else if s.is (F.AX_PWM_STATUS_FAULT n) then s.axisSafe n
  else let s := s.axisSafe n; s.raiseSt (evAxis n + 14) (R.AX_PWM_STATUS n)

/-- The auxiliary-channel cell safe state (*Cell safe states*, R288). -/
def State.auxSafe (s : State) (c : Nat) : State :=
  (((s.on (F.AUX_STATUS_FAULT c)).off (F.AUX_CTL_OUT_EN c)).refreshAux c).chanFault (16 + c)

/-- An auxiliary-channel cell fault, with its event unless FAULT was set before; the reaction of a higher level goes on
(R28). [DEDUCED, unsafe, log 90] -/
def State.auxFault (s : State) (c : Nat) : State :=
  if s.higherRuns (16 + c) then s
  else if s.is (F.AUX_STATUS_FAULT c) then s.auxSafe c
  else let s := s.auxSafe c; s.raiseSt (evAux c) (R.AUX_STATUS c)

/-! ### STO -/

/-- Does a pair with the function demand for the group? -/
def State.pairDemands (s : State) (func g : Nat) : Bool :=
  (List.range 8).any fun p => testBit (s.g F.SAF_SI_STATUS_DEMAND) p && s.g (F.SAF_SI_CFG_FUNC p) == func &&
    testBit (s.g (F.SAF_SI_CFG_GROUPS p)) g

/-- Does a cause of R457 hold for the group? -/
def State.stoCause (s : State) (g : Nat) : Bool :=
  s.pairDemands 1 g || testBit s.saf.ss1Expired g || s.devLocked || s.saf.globalSafe || s.isolated regMotion

/-- STO is asserted for a group (R460): both waves stop, OUT_EN of every axis and auxiliary channel of the group is cleared, its brakes
engage, a brake test on one of its axes is aborted, its pending enables are dropped (R569), and the event is raised. -/
def State.assertSto (s : State) (g : Nat) : State :=
  if s.sto g then s
  else
    let s := (s.p F.SAF_STO_ASSERTED (setBit (s.g F.SAF_STO_ASSERTED) g true)).wavesOff g
    let s := s.btAbortIf (fun a => s.axGroup a == g) 4
    let s := s.each (s.groupAxes g) fun n s => ((s.off (F.AX_PWM_CTL_OUT_EN n)).engage n).refreshAxis n
    let s := s.each (s.groupAux g) fun c s => (s.off (F.AUX_CTL_OUT_EN c)).refreshAux c
    (s.dropPending g).raiseSt (1680 + g) R.SAF_STO

/-- A group's DEMAND follows the causes of R457, and STO is asserted while one holds. -/
def State.evalGroup (s : State) (g : Nat) : State :=
  let c := s.stoCause g
  let s := s.p F.SAF_STO_DEMAND (setBit (s.g F.SAF_STO_DEMAND) g c)
  s.when c fun s => s.assertSto g

/-- R457 for every group. -/
def State.evalGroups (s : State) : State := s.each (List.range 4) fun g s => s.evalGroup g

/-! ### Lock-outs -/

/-- A new fault in a scope cancels an unlock that awaits its pulse (R477); `none` is the device.
[DEDUCED, unsafe, log 113] -/
def State.cancelUnlock (s : State) (scope : Option Nat) : State :=
  if s.saf.unlock = some scope
  then { s with saf := { s.saf with unlock := none } }.off F.SAF_LOCK_UNLOCK_WAIT else s

/-- The device lock-out is latched (R475, R476): the first cause is kept; STO is asserted for every group, every brake
engages and Foxglove holds every axis's outputs. -/
def State.lockDevice (s : State) (cause : Nat) : State :=
  let s := s.cancelUnlock none
  let s := if s.devLocked then s
    else
      let s := ((s.on F.SAF_LOCK_DEVICE).p F.SAF_LOCK_CAUSE cause).on F.SAF_LOCK_CAUSE_ACTIVE
      s.raiseSt 1600 R.SAF_LOCK
  let s := s.btAbortIf (fun _ => true) 4
  let s := s.each (List.range 16) fun n s => s.engage n
  s.evalGroups.refreshAxes

/-- An axis lock-out is latched (R468, R470, R473, R475): the first cause is kept, the outputs are held high and the brake
engages. [DEDUCED, unsafe, log 39] -/
def State.lockAxis (s : State) (n cause : Nat) : State :=
  let s := s.cancelUnlock (some n)
  let s := if s.is (F.FXG_AX_STATUS_HOLD n) then s
    else (s.on (F.FXG_AX_STATUS_HOLD n)).p (F.FXG_AX_STATUS_CAUSE n) cause
  let s := s.p F.SAF_LOCK_AXIS (setBit (s.g F.SAF_LOCK_AXIS) n true)
  let s := s.btAbortIf (fun a => a == n) 4
  (s.engage n).refreshAxis n

/-- A Foxglove trip (R473): outputs off, axis cell fault, axis lock-out with the first cause; a later trip of the same
axis counts only. -/
def State.trip (s : State) (n cause : Nat) : State :=
  let s := (s.count (F.FXG_AX_STATUS_TRIPS n) 1).cancelUnlock (some n)
  if s.is (F.FXG_AX_STATUS_HOLD n) then s
  else
    let s := (s.lockAxis n cause).axisFault n
    s.raiseSt (1616 + n) (R.FXG_AX_STATUS n)

/-- A DC-link trip trips every axis of the group (R472). -/
def State.tripGroup (s : State) (g cause : Nat) : State := s.each (s.groupAxes g) fun n s => s.trip n cause

/-- A brake fault (R468): the axis lock-out with cause 13, the brake engaged and its event. -/
def State.brakeFault (s : State) (n why : Nat) : State :=
  let s := (s.on (F.SAF_BRK_STATUS_FAULT n)).p (F.SAF_BRK_STATUS_FAULT_WHY n) why
  (s.lockAxis n 13).raiseSt (1632 + n) (R.SAF_BRK_STATUS n)

/-! ### Foxglove's checks -/

/-- Is Foxglove's duty check failed by an active compare (cause 4)? -/
def dutyOutside (lo hi period cmp : Nat) : Bool :=
  let d := 256 * min cmp period / period
  decide (d < lo) || decide (hi < d)

/-- The duty check at a shadow load, while OUT_ACTIVE (*Foxglove checks*, cause 4). -/
def State.checkDuty (s : State) (n : Nat) : State :=
  let x := s.pwmOf n
  if s.is (F.FXG_AX_CFG_DUTY_EN n) && s.is (F.AX_PWM_STATUS_OUT_ACTIVE n) &&
      x.cmp.any (dutyOutside (s.g (F.FXG_AX_DUTY_DUTY_MIN n)) (s.g (F.FXG_AX_DUTY_DUTY_MAX n)) x.period)
  then s.trip n 4 else s

/-- The magnitude of a fast result, saturating at 2^23 − 1 (R472). -/
def fastMag (q : Int) : Nat := min (absN q) (2 ^ 23 - 1)

/-- A current reaches the running brake test (R469): the largest magnitude of R472, and since when it has stayed at or
above BT_I. [DEDUCED, unsafe, log 112] -/
def State.btCurrent (s : State) (n m : Nat) : State :=
  match s.saf.bt with
  | some b =>
    if b.axis != n || !b.settled then s
    else
      let since := if s.g ⟨R.SAF_BT_I, 0, 24⟩ ≤ m then some (b.since.getD s.tb.ticks) else none
      { s with saf := { s.saf with bt := some { b with peak := max b.peak m, since := since } } }
  | none => s

/-- A position reaches the running brake test (R469, R470): the first one beyond BT_WIN fails it, and the axis lock-out is
latched with cause 14. -/
def State.btMove (s : State) (n : Nat) (p : Int) : State :=
  match s.saf.bt with
  | some b =>
    if b.axis != n || !b.settled then s
    else
      let d := absN (p - b.p0)
      let b := { b with moved := max b.moved (d / 65536) }
      if (s.rd R.SAF_BT_WIN).toNat * 65536 < d then (s.btEnd b 2 0).lockAxis n 14
      else { s with saf := { s.saf with bt := some b } }
  | none => s

/-- The check of one fast result (causes 1 and 2): `b` is the second modulator. -/
def State.checkFast (s : State) (n : Nat) (b : Bool) (q : Int) : State :=
  if s.is (F.FXG_AX_CFG_I_EN n) && s.g (F.FXG_AX_I_PEAK_I_PEAK n) < fastMag q then s.trip n (if b then 2 else 1) else s

/-- The check of a pair of fast results (cause 3), which also gives the brake test its current. -/
def State.checkFastPair (s : State) (n : Nat) (qa qb : Int) : State :=
  let q := if s.is (F.FXG_AX_CFG_POL_B n) then qa - qb else qa + qb
  let s := s.btCurrent n (max (fastMag q) (max (fastMag qa) (fastMag qb)))
  if s.is (F.FXG_AX_CFG_I_EN n) && s.g (F.FXG_AX_I_PEAK_I_PEAK n) < fastMag q then s.trip n 3 else s

/-- The check of an unfiltered velocity (cause 5). -/
def State.checkVel (s : State) (n : Nat) (v : Int) : State :=
  if s.is (F.FXG_AX_CFG_V_EN n) && s.is (F.AX_PWM_STATUS_OUT_ACTIVE n) &&
      (decide (v < (s.rd (R.FXG_AX_VMIN n)).int) || decide ((s.rd (R.FXG_AX_VMAX n)).int < v))
  then s.trip n 5 else s

/-- The check of an unclamped position (cause 6), which is also the tap of the brake test. [DEDUCED, unsafe, log 49] -/
def State.checkPos (s : State) (n : Nat) (p : Int) : State :=
  let s := s.btMove n p
  if s.is (F.FXG_AX_CFG_P_EN n) && s.is (F.AX_PWM_STATUS_OUT_ACTIVE n) &&
      (decide (p < s.rd64 (R.FXG_AX_PMIN_LO n) (R.FXG_AX_PMIN_HI n)) ||
        decide (s.rd64 (R.FXG_AX_PMAX_LO n) (R.FXG_AX_PMAX_HI n) < p))
  then s.trip n 6 else s

/-- The check of soft-limit saturation (cause 7). -/
def State.checkSat (s : State) (n : Nat) (sat : Bool) : State :=
  if s.is (F.FXG_AX_CFG_SAT_TRIP n) && s.is (F.AX_PWM_STATUS_OUT_ACTIVE n) && sat then s.trip n 7 else s

end Sys2Proof.Machine
end

