-- ==== Sys2Proof/Machine/LarkOps.lean ====
section
/-! DEFINITION. Larkspur's operations that other blocks call: the reference in force, the configured stops (R19, R240 to
R242) and the stretch of a DC-link group (R242). -/

namespace Sys2Proof.Machine

/-- The position of the latest sample of a channel, in the position format: AXn_FB_POS of a servo axis, AUXn_POS of an
auxiliary channel; a network axis has no local measurement. -/
def State.measured (s : State) (k : Nat) : Int :=
  if k < 16 then s.rd64 (R.AX_FB_POS_LO k) (R.AX_FB_POS_HI k)
  else if k < 40 then s.rd64 (R.AUX_POS_LO (k - 16)) (R.AUX_POS_HI (k - 16))
  else s.rd64 (R.LSP_CH_PREF_LO k) (R.LSP_CH_PREF_HI k)

/-- The measured velocity of a channel. -/
def State.measuredVel (s : State) (k : Nat) : Int :=
  if k < 16 then (s.rd (R.AX_FB_VEL k)).int
  else if k < 40 then (s.rd (R.AUX_VEL (k - 16))).int
  else (s.rd (R.LSP_CH_VREF k)).int

/-- The reference of the last evaluation, in internal units, carried on at its velocity to an instant; a step of the counter
moves neither (R256, R600). -/
def State.lastRef (s : State) (k : Nat) (t : Int) : Int × Int × Int :=
  let p := toInternal (s.rd64 (R.LSP_CH_PREF_LO k) (R.LSP_CH_PREF_HI k))
  let v := toInternal (s.rd (R.LSP_CH_VREF k)).int
  let a := toInternal (s.rd (R.LSP_CH_AREF k)).int
  match (s.chanOf k).prevEval with
  | some _ =>
    let d := t - s.now + (s.elapsedAt s.now : Int) - (s.chanOf k).prevE
    (p + floorDiv (v * 65536 * d) secU, v, a)
  | none => (p, v, a)

/-! ### Groups -/

/-- A group, and its replacement. -/
def State.grpOf (s : State) (g : Nat) : Grp := tabGet (fun _ => Grp.reset) s.grps g
def State.setGrp (s : State) (g : Nat) (x : Grp) : State := { s with grps := tabSet (fun _ => Grp.reset) s.grps g x }

/-- The leader among members with their travels: the largest travel, the lower number on a tie (R238). -/
def leaderOf : List (Nat × Int × Int) → Option (Nat × Int × Int)
  | [] => none
  | m :: t => match leaderOf t with
    | none => some m
    | some n => if absN n.2.2 ≤ absN m.2.2 then some m else some n

/-- A limit of the leader reduced by the members (R238): the leader's own value `l`, and each member's value with its
travel. A value 0 of a member that stands for no limit is left out with `skip`. -/
def reduceLim (skip : Bool) (dl : Nat) (l : Int) (ms : List (Int × Nat)) : Int :=
  ms.foldl (fun a m =>
    if m.2 == 0 || (skip && m.1 == 0) then a
    else
      let x := floorDiv (m.1 * dl) m.2
      if skip && a == 0 then x else min a x) l

/-- The reference of a member along the leader's path (R238): position, velocity and acceleration. -/
def Grp.memberRef (x : Grp) (k : Nat) (t : Int) : Option (Int × Int × Int) :=
  match x.members.find? (fun m => m.1 == k), leaderOf x.members, x.plan with
  | some m, some lead, some q =>
    let r := q.at_ t
    if lead.2.2 = 0 then some (m.2.1, 0, 0)
    else some (m.2.1 + floorDiv (m.2.2 * (r.1 - lead.2.1)) lead.2.2, floorDiv (m.2.2 * r.2.1) lead.2.2,
      floorDiv (m.2.2 * r.2.2) lead.2.2)
  | some m, _, _ => some (m.2.1, 0, 0)
  | _, _, _ => none

/-- The group that a channel moves in. -/
def State.inGroup (s : State) (k : Nat) : Option Nat :=
  if s.chanState k == 5 then (List.range 16).find? fun g =>
    (tabGet (fun _ => Grp.reset) s.grps g).members.any fun m => m.1 == k
  else none

/-- The reference state (p, v, a) of a channel at an instant, in internal units: that along its group's path, the plan's,
that of the last evaluation while another source gives the reference, or the measured position at rest. -/
def State.refAt (s : State) (k : Nat) (t : Int) : Int × Int × Int :=
  let path := match s.inGroup k with
    | some g => (s.grpOf g).memberRef k t
    | none => none
  match path, (s.chanOf k).plan with
  | some r, _ => r
  | none, some q => q.at_ t
  | none, none =>
    if s.g (F.LSP_CH_CFG_SRC k) != 0 && s.chanState k == 6 then s.lastRef k t
    else (toInternal (s.measured k), 0, 0)

/-- The DC-link group of a channel; a network axis has none. -/
def State.chanGroup (s : State) (k : Nat) : Option Nat :=
  if k < 16 then some (s.axGroup k) else if k < 40 then some (s.auxGroup (k - 16)) else none

def State.dlOf (s : State) (g : Nat) : DlSt := tabGet (fun _ => DlSt.reset) s.sense.dl g
def State.setDl (s : State) (g : Nat) (x : DlSt) : State :=
  { s with sense := { s.sense with dl := tabSet (fun _ => DlSt.reset) s.sense.dl g x } }

/-- Has the DC-link input of the channel's group been stuck, and not been made valid since (R132)? Every stop of the
channel is then an off stop (R243). [DEDUCED, unsafe, log 152] -/
def State.dlLost (s : State) (k : Nat) : Bool :=
  match s.chanGroup k with
  | some g => (s.dlOf g).bad
  | none => false

/-- The stretch factor in force of a channel, 256 where none applies (R242, R243). -/
def State.stretchOf (s : State) (k : Nat) : Nat :=
  match s.chanGroup k with
  | some g => s.g (F.LSP_DL_STATUS_S g)
  | none => 256

/-- The stretch factor of a group is recomputed from its latest free-running result (R242). -/
def State.restretch (s : State) (g : Nat) : State :=
  let u : Int := floorDiv (s.gi (F.GLB_DL_FREE_Q g)) 256
  let vc : Int := s.g (F.GLB_BCH_THR_V_CHOP g)
  let vd : Int := s.g (F.LSP_DL_DECEL_V_DECEL g)
  let m : Int := atLeast1 (s.g (F.LSP_DL_DECEL_S_MIN g))
  let x : Int := if vc ≤ vd || u ≤ vd then 256 else max m (256 - truncDiv ((u - vd) * (256 - m)) (vc - vd))
  s.p (F.LSP_DL_STATUS_S g) x.toNat

/-- The outputs of a channel go off and, on a servo axis, its brake engages. A network axis has no outputs here. -/
def State.outputsOff (s : State) (k : Nat) : State :=
  if k < 16 then ((s.off (F.AX_PWM_CTL_OUT_EN k)).engage k).refreshAxis k
  else if k < 40 then (s.off (F.AUX_CTL_OUT_EN (k - 16))).refreshAux (k - 16)
  else s

/-- The off stop (*Configured stop kinds*): outputs off at once; the reference then follows the measured position.
[DEDUCED, unsafe, log 73] -/
def State.offStop (s : State) (k : Nat) : State :=
  let s := ((s.outputsOff k).dropFollower k).emptyQueue k
  let s := s.homeFail k 6
  let s := s.setChan k { s.chanOf k with plan := none, pend := [], stopTick := none, hard := false }
  if s.chanState k == 7 then s else s.setChanState k 0

/-- A stop ramp with its deceleration, from an instant (R240); an off stop while the group's DC-link input is invalid
(R132). A running stop that a limit's reaction shares is kept when it decelerates no less (R248).
[DEDUCED, unsafe, log 77] -/
def State.rampFrom (s : State) (k : Nat) (t : Int) (dec : Int) (off : Bool) : State :=
  if s.dlLost k then s.offStop k else
  let r := s.refAt k t
  let j := (s.rd (R.LSP_CH_STOP_JERK k)).toNat
  let c := s.chanOf k
  let level := s.stopLevel k
  let lim := c.limStop && s.chanState k == 3
  let keep := match c.plan with
    | some q => if lim && decide (q.kind = .stop ∧ toInternal dec ≤ q.lims.d) then some { q with off := q.off || off } else none
    | none => none
  match keep with
  | some q => (s.emptyQueue k).setChan k { (s.emptyQueue k).chanOf k with plan := some q }
  | none =>
    let s := (s.dropFollower k).emptyQueue k
    (s.setChan k { s.chanOf k with
      plan := some (planStop t r.1 r.2.1 r.2.2 (toInternal dec) j (s.stretchOf k) off)
      stopTick := some s.tb.ticks, byLevel := level, limStop := lim }).setChanState k 3

/-- OP 4 and OP 5 as a ramp from an instant (R240): the stop ramp at STOP_DEC or QS_DEC that ends in a hold. -/
def State.opStop (s : State) (k : Nat) (t : Int) (quick : Bool) : State :=
  let dec := (s.rd (if quick then R.LSP_CH_QS_DEC k else R.LSP_CH_STOP_DEC k)).int
  s.rampFrom k t dec false

/-- The stop deceleration and jerk of a group under R238: the leader's, reduced by the members' own.
[DEDUCED, unsafe, log 76] -/
def State.groupStopDec (s : State) (ms : List (Nat × Int × Int)) (lead : Nat × Int × Int) (quick : Bool) : Int × Int :=
  let dl := absN lead.2.2
  let dec := fun k => toInternal (s.rd (if quick then R.LSP_CH_QS_DEC k else R.LSP_CH_STOP_DEC k)).int
  let jrk := fun k => ((s.rd (R.LSP_CH_STOP_JERK k)).toNat : Int)
  (reduceLim false dl (dec lead.1) (ms.map fun m => (dec m.1, absN m.2.2)),
   reduceLim true dl (jrk lead.1) (ms.map fun m => (jrk m.1, absN m.2.2)))

/-- The stretch factor of a group's path: the smallest of its members' (R242). [DEDUCED, unsafe, log 160] -/
def State.groupStretch (s : State) (x : Grp) : Nat := x.members.foldl (fun a m => min a (s.stretchOf m.1)) 256

/-- The members of a group that are on its path. -/
def State.onPath (s : State) (x : Grp) : List Nat := (x.members.map (·.1)).filter fun k => s.chanState k == 5

/-- A member of a group that stops before it has started (R239, R240): it rests, and a configured stop that turns the outputs
off has come to its end. -/
def State.neverStarted (s : State) (k : Nat) : State :=
  let off := (s.chanOf k).endOff
  let s := s.setChan k { s.chanOf k with endOff := false, pend := (s.chanOf k).pend.filter (· ≠ .cfgStop) }
  (s.setChanState k 0).when off fun s => s.outputsOff k

/-- The group stops along its path from an instant (R239), unless a stop with no smaller deceleration runs already; a
member whose DC-link input is invalid runs an off stop (R132). A group that has not started does not start.
[DEDUCED, unsafe, log 76] -/
def State.groupStop (s : State) (g : Nat) (t : Int) (quick : Bool) : State :=
  let x := s.grpOf g
  match leaderOf x.members, x.plan with
  | some lead, some q =>
    let r := q.at_ t
    let d := s.groupStopDec x.members lead quick
    if q.kind = .stop ∧ d.1 ≤ q.lims.d then s.setGrp g { x with stopReq := none }
    else
      let q := planStop t r.1 r.2.1 r.2.2 d.1 d.2 (s.groupStretch x) false
      let s := (s.setGrp g { x with plan := some q, stopReq := none }).p (F.LSP_GRP_STATUS_STATE g) 2
      s.each (s.onPath x) fun k s =>
        if s.dlLost k then s.offStop k else s.setChan k { s.chanOf k with stopTick := some s.tb.ticks }
  | _, _ =>
    let s := s.each (s.onPath x) fun k s => s.neverStarted k
    (s.setGrp g Grp.reset).p (F.LSP_GRP_STATUS_STATE g) 0

/-- A stop command for a group waits for the next evaluation instant of a member (R234, R239); a quick stop prevails.
[DEDUCED, unsafe, log 76] -/
def State.askGroupStop (s : State) (g : Nat) (quick : Bool) : State :=
  let x := s.grpOf g
  let old := match x.stopReq with
    | some q => q
    | none => false
  s.setGrp g { x with stopReq := some (quick || old) }

/-- The stop of a member stops its whole group along the path, from now (R239). -/
def State.pathStop (s : State) (k : Nat) (quick : Bool) : State :=
  match s.inGroup k with
  | some g => s.groupStop g s.now quick
  | none => s

/-- The configured stop of a channel, from now (R19, R240); a faulted channel keeps its state, and a ramp that already
runs to its end goes on. A ramp-hold stop of a BLDC channel acts as a ramp-off stop (R309). [DEDUCED, unsafe, log 77] -/
def State.configuredStop (s : State) (k : Nat) : State :=
  if s.chanState k == 7 then s
  else
    let kind := s.g (F.LSP_CH_CFG_STOP_KIND k)
    let s := s.homeFail k 6
    let s := s.setChan k { s.chanOf k with pend := [] }
    if kind == 0 || s.dlLost k then s.offStop k
    else if s.chanState k == 5 then
      (s.setChan k { s.chanOf k with pend := [.cfgStop], endOff := kind == 1 || s.isBldc k }).pathStop k false
    else s.rampFrom k s.now (s.rd (R.LSP_CH_STOP_DEC k)).int (kind == 1 || s.isBldc k)

/-- A stop of a channel as the reaction of a level (R28): a stop that the reaction of a higher level runs goes on.
[DEDUCED, unsafe, log 131] -/
def State.levelStop (s : State) (level k : Nat) (stop : State → State) : State :=
  if level < s.stopLevel k then s
  else let t := stop s; t.setChan k { t.chanOf k with byLevel := level }

/-- The load that ends homing has acted (R250): the observer re-initialises, RES_ACTION is restored, the plan's reference
shifts by the same amount, types 9 and 10 restore IQ_LIMIT, and HOMED is 1. [DEDUCED, unsafe, log 163] -/
def State.homeDone (s : State) (k : Nat) : State :=
  let c := s.chanOf k
  let ty := s.g (F.LSP_CH_HOME_CFG_TYPE k)
  let s := s.when (k < 16) fun s =>
    s.writeBlock k [(0x200, putBits (putBits (s.rd (axisWord k 0x200)) 1 2 c.homeRes) 7 1 1)]
  let s := s.when (ty == 9 || ty == 10) fun s => s.writeBlock k [(0x3C, c.homeILim)]
  let s := s.setChan k { c with home := .none, plan := c.plan.map fun q => q.shift (toInternal c.homeShift) }
  ((s.on (F.LSP_CH_STATUS_HOMED k)).p (F.LSP_CH_STATUS_HOME_REASON k) 0).setChanState k 0

/-- The quick stop of a stop request (R462). -/
def State.quickStop (s : State) (k : Nat) : State :=
  if s.chanState k == 7 then s
  else
    let s := s.homeFail k 6
    let s := s.setChan k { s.chanOf k with pend := [] }
    if s.chanState k == 5 && !s.dlLost k then s.pathStop k true else s.opStop k s.now true

end Sys2Proof.Machine
end

