-- ==== Sys2Proof/Machine/Pwm.lean ====
section
/-! DEFINITION. The power-stage PWM units: starting and aligning (R80, R90, R91), update points and shadow loads (R92 to
R94), events and prescalers (R95, R96), dead time (R97 to R101), swap, invert and the commutation mask (R102 to R105),
the pins (R106 to R109) and the brake choppers (R111 to R113). -/

namespace Sys2Proof.Machine

/-! ### Values of a unit -/

/-- Is a period within the range of R87 for the counting mode? -/
def periodOk (mode period : Nat) : Bool :=
  if mode == 0 then 31250 ≤ period && period ≤ 1000000 else 62500 ≤ period && period ≤ 2000000

def State.cntMode (s : State) (n : Nat) : Nat := s.g (F.AX_PWM_CFG_CNT_MODE n)
def State.pwmState (s : State) (n : Nat) : Nat := s.g (F.AX_PWM_STATUS_STATE n)
def State.running (s : State) (n : Nat) : Bool := s.pwmState n == 2

/-- T_pwm in units of 250 ps (R87), from the active period. -/
def State.tPwm (s : State) (n : Nat) : Nat := (if s.cntMode n == 0 then 2 else 1) * (s.pwmOf n).period

/-- T_loop in units of 250 ps (R92). -/
def State.tLoop (s : State) (n : Nat) : Nat :=
  if s.cntMode n == 0 && s.g (F.AX_PWM_CFG_LOAD n) == 2 then (s.pwmOf n).period else s.tPwm n

/-- The compare shadows U, V and W. -/
def State.cmpShadow (s : State) (n : Nat) : List Nat :=
  [s.g (F.AX_PWM_CMPA_CMP n), s.g (F.AX_PWM_CMPB_CMP n), s.g (F.AX_PWM_CMPC_CMP n)]

/-- The override shadow, as its register holds it. -/
def State.ovrShadow (s : State) (n : Nat) : Nat := getBits (s.rd (R.AX_PWM_OVR n)) 0 5

/-- The shadow registers as they stand. -/
def State.shadowRegs (s : State) (n : Nat) : Shadows :=
  ⟨s.g (F.AX_PWM_PERIOD_PERIOD n), s.cmpShadow n, s.ovrShadow n, s.is (F.AX_PWM_CTL_MODE_SEL n)⟩

/-- The shadows as a load of this tick takes them: a write of the same tick does not count yet (R93). -/
def State.shadows (s : State) (n : Nat) : Shadows :=
  let p := s.pwmOf n
  if p.shTick == some s.tb.ticks then p.shOld else s.shadowRegs n

/-- Before a write of a shadow: the first of a tick records what the shadows held (R93). -/
def State.noteShadow (s : State) (n : Nat) : State :=
  s.setPwm n { s.pwmOf n with shTick := some s.tb.ticks, shOld := s.shadows n }

/-- The phase whose compare phase `x` takes under SWAP (R102). -/
def swapOf (swap x : Nat) : Nat :=
  match swap, x with
  | 1, 1 => 2
  | 1, 2 => 1
  | 2, 0 => 1
  | 2, 1 => 0
  | 3, 0 => 2
  | 3, 2 => 0
  | _, x => x

/-- The compare that drives phase `x`: swap first, then invert, in normal mode (R102); the override is held in mask
mode. [DEDUCED, unsafe, log 37] -/
def effCmp (period : Nat) (cmp : List Nat) (ovr : Nat) (mask : Bool) (x : Nat) : Nat :=
  if mask then cmp.getD x 0
  else
    let c := cmp.getD (swapOf (ovr % 4) x) 0
    if testBit ovr (2 + x) then period - min c period else c

/-- The compare in force for phase `x`. -/
def PwmSt.eff (p : PwmSt) (x : Nat) : Nat := effCmp p.period p.cmp p.ovr p.mode x

/-- The high-side command of a compare just after a zero or period point (R88). -/
def cmdAt (mode period c : Nat) (z : Bool) : Bool :=
  if mode == 2 || !z then decide (period ≤ c) else decide (0 < c)

/-! ### The mask -/

/-- The effective LENGTH of a mask configuration (*AX0_PWM_MASK_CFG*). -/
def effLength (v : Nat) : Nat := clampN 1 8 v

/-- Does the Hall state hold all six switches off (R104)? -/
def State.hallOff (s : State) (n : Nat) : Bool :=
  s.g (F.AX_PWM_MASK_CFG_SRC n) == 1 && ((s.pwmOf n).hall == 0 || (s.pwmOf n).hall == 7)

/-- Which switches row 5 of *Output precedence* lets follow their commands: UH, UL, VH, VL, WH, WL. -/
def State.allowed (s : State) (n : Nat) : List Bool :=
  if !(s.pwmOf n).mode then [true, true, true, true, true, true]
  else if s.hallOff n then [false, false, false, false, false, false]
  else (List.range 6).map fun w => testBit (s.g (F.AX_PWM_MASK_MASK n (s.g (F.AX_PWM_STATUS_MASK_IDX n)))) w

/-- Is switch `w` commanded on by its pair's command (R88)? -/
def PwmSt.commanded (p : PwmSt) (w : Nat) : Bool :=
  if w % 2 == 0 then p.want.getD (w / 2) false else !p.want.getD (w / 2) false

/-- Is switch `w` on at its pins? A switch that a new mask entry turns off leaves them one tick after the event (R105). -/
def State.onAtPin (s : State) (n w : Nat) : Bool :=
  let p := s.pwmOf n
  p.on.getD w false || match p.late with
    | some l => l.1 == s.tb.ticks && l.2.getD w false
    | none => false

/-- The switches that a new mask entry turns off in this tick stay on at the pins until the next one (R105). -/
def State.lateOffs (s : State) (n : Nat) (new : List Bool) : State :=
  s.setPwm n { s.pwmOf n with
    late := some (s.tb.ticks, (List.range 6).map fun w => s.onAtPin n w && !new.getD w false) }

/-- The switches that may not be on turn off, and those that may be on again and are commanded wait for their dead time
(R105). [DEDUCED, unsafe, log 150] -/
def State.reallow (s : State) (n : Nat) (old : List Bool) : State :=
  let p := s.pwmOf n
  let new := s.allowed n
  let rise := fun w => new.getD w false && !old.getD w false && p.commanded w && !p.on.getD w false && s.running n
  s.setPwm n { p with
    on := (List.range 6).map fun w => p.on.getD w false && new.getD w false
    wait := (List.range 6).map fun w => (p.wait.getD w false && new.getD w false) || rise w }

/-- The command of phase `x` becomes `hi`: the outgoing switch turns off at once and the incoming one waits for its dead
time (R88, R97); nothing changes when the command is the same. -/
def PwmSt.setCmd (p : PwmSt) (allow : List Bool) (x : Nat) (hi : Bool) : PwmSt :=
  if p.want.getD x false == hi && (p.on.getD (2 * x) false || p.on.getD (2 * x + 1) false ||
      p.wait.getD (2 * x) false || p.wait.getD (2 * x + 1) false) then p
  else
    let inn := if hi then 2 * x else 2 * x + 1
    let out := if hi then 2 * x + 1 else 2 * x
    { p with want := listSet p.want x hi, on := listSet p.on out false,
             wait := listSet (listSet p.wait out false) inn (allow.getD inn false) }

/-- A command that only changes when it differs from the one in force, so that a switch that MIN_PULSE suppressed stays
off in its half-period (R101). -/
def PwmSt.toCmd (p : PwmSt) (allow : List Bool) (x : Nat) (hi : Bool) : PwmSt :=
  if p.want.getD x false == hi then p else p.setCmd allow x hi

/-- The commands after a zero or period point follow the compares in force (R88). -/
def State.cmdsAtPoint (s : State) (n : Nat) (zero : Bool) : State :=
  let al := s.allowed n
  s.setPwm n ((List.range 3).foldl (fun p x => p.toCmd al x (cmdAt (s.cntMode n) p.period (p.eff x) zero)) (s.pwmOf n))

/-! ### Events -/

/-- The prescaler field N − 1 of source `i`: zero, period, CMPA, CMPB, CMPC. -/
def evtN (v : Word) (i : Nat) : Nat := getBits v (4 * i) 4

/-- An occurrence of source `i` while RUNNING: its prescaler passes every Nth, the first after a restart included, and
when EN says so the passed ones reach the trigger lines, on which capture sessions sample (R366), and the event fabric (R95,
R96). -/
def State.occur (s : State) (n i : Nat) : State :=
  let p := s.pwmOf n
  let c := p.presc.getD i 0
  let s := s.setPwm n { p with presc := listSet p.presc i ((c + 1) % (evtN (s.rd (R.AX_PWM_EVT_CFG n)) i + 1)) }
  if c == 0 && testBit (s.g (F.AX_PWM_EVT_CFG_EN n)) i then (s.capPwm n i).raiseSt (evAxis n + i) (R.AX_PWM_STATUS n) else s

/-! ### Shadow loads -/

/-- HALL_INVALID is set while mask mode runs with SRC 1 and an invalid Hall state (R104). -/
def State.hallFlag (s : State) (n : Nat) : State :=
  s.when ((s.pwmOf n).mode && s.running n && s.hallOff n) fun s => s.on (F.AX_PWM_STATUS_HALL_INVALID n)

/-- Mask mode begins at START_IDX and starts the align sequencer, or ends, when the active MODE_SEL changes (R103,
R104). -/
def State.setMode (s : State) (n : Nat) (m : Bool) : State :=
  let p := s.pwmOf n
  if p.mode == m then s
  else
    let old := s.allowed n
    let s := s.setPwm n { p with
      mode := m, alignLeft := s.g (F.AX_PWM_ALIGN_COUNT n),
      alignRun := m && s.g (F.AX_PWM_ALIGN_INTERVAL n) != 0 && s.g (F.AX_PWM_MASK_CFG_SRC n) == 0
      alignTick := s.tb.ticks }
    let s := s.when m fun s => s.p (F.AX_PWM_STATUS_MASK_IDX n) (s.g (F.AX_PWM_MASK_CFG_START_IDX n))
    (s.hallFlag n).reallow n old

/-- The compare, override and mode shadows load. -/
def State.loadShadows (s : State) (n : Nat) : State :=
  let v := s.shadows n
  (s.setPwm n { s.pwmOf n with cmp := v.cmp, ovr := v.ovr }).setMode n v.mode

/-- A PERIOD loads at a zero point, or the unit keeps its previous one and sets PERIOD_RANGE (R94). -/
def State.loadPeriod (s : State) (n v : Nat) : State :=
  if periodOk (s.cntMode n) v then s.setPwm n { s.pwmOf n with period := v }
  else s.on (F.AX_PWM_STATUS_PERIOD_RANGE n)

/-- Is the point an update point of R92? -/
def State.isUpdate (s : State) (n : Nat) (zero : Bool) : Bool :=
  s.cntMode n != 0 ||
    match s.g (F.AX_PWM_CFG_LOAD n) with
    | 0 => zero
    | 1 => !zero
    | _ => true

/-- The loads of a zero or period point (R91 to R94). Through the first carrier period after a start with HARD = 0
nothing loads; HOLD suppresses every load, and every update point that passes under it counts. Once HOLD has been set
nothing loads, PERIOD included, before the first update point after it is cleared. -/
def State.pointLoads (s : State) (n : Nat) (zero : Bool) : State :=
  let p := s.pwmOf n
  let upd := s.isUpdate n zero
  if s.is (F.AX_PWM_SHADOW_HOLD n) then
    let s := s.setPwm n { p with holdBack := true }
    s.when upd fun s => s.count (F.AX_PWM_SHADOW_SKIPPED n) 1
  else
    let back := p.holdBack && !upd
    let s := s.setPwm n { p with holdBack := back }
    if p.first then s
    else
      let s := s.when (zero && !back) fun s => s.loadPeriod n (s.shadows n).period
      if upd then s.loadShadows n else s

/-- After a write of AXn_PWM_SHADOW: HOLD holds every shadow back until the first update point after it is cleared (R93). -/
def State.noteHold (s : State) (n : Nat) : State :=
  s.when (s.is (F.AX_PWM_SHADOW_HOLD n)) fun s => s.setPwm n { s.pwmOf n with holdBack := true }

/-! ### Dead time -/

/-- The fields of the dead times, by direction: U rise, U fall, V rise, V fall, W rise, W fall. -/
def dtField (n d : Nat) : Fld :=
  [F.AX_PWM_DT_U_DT_RISE n, F.AX_PWM_DT_U_DT_FALL n, F.AX_PWM_DT_V_DT_RISE n, F.AX_PWM_DT_V_DT_FALL n,
    F.AX_PWM_DT_W_DT_RISE n, F.AX_PWM_DT_W_DT_FALL n].getD d (F.AX_PWM_DT_U_DT_RISE n)

/-- The fields of the latest valid measurements, by direction. -/
def measField (n d : Nat) : Fld :=
  [F.AX_PWM_MEAS_U_DELAY_RISE n, F.AX_PWM_MEAS_U_DELAY_FALL n, F.AX_PWM_MEAS_V_DELAY_RISE n,
    F.AX_PWM_MEAS_V_DELAY_FALL n, F.AX_PWM_MEAS_W_DELAY_RISE n, F.AX_PWM_MEAS_W_DELAY_FALL n].getD d
      (F.AX_PWM_MEAS_U_DELAY_RISE n)

/-- The target of R98 in units of 4 ns: delay and guard rounded up to a whole step and clamped. -/
def dtTarget (delay guard lo hi : Nat) : Nat := clampN lo hi ((delay + 16 * guard + 15) / 16)

/-- One step of a dead time toward its target. -/
def stepTo (cur target : Nat) : Nat := if cur < target then cur + 1 else if target < cur then cur - 1 else cur

/-- One direction at a zero point (R98, R100, R99): the clamps in force apply, a valid measurement moves the dead time,
and the fallback bit clears when it leaves DT_MAX. -/
def State.adapt1 (s : State) (n d : Nat) : State :=
  let p := s.pwmOf n
  let cur := s.g (dtField n d)
  let meas := p.measured.getD d false
  let dt :=
    if !s.is (F.AX_PWM_CFG_ADAPT_EN n) then p.dtMax
    else if cur < p.dtMin || p.dtMax < cur then clampN p.dtMin p.dtMax cur
    else if meas
      then stepTo cur (dtTarget (s.g (measField n d)) (s.g (F.AX_PWM_DT_GUARD_GUARD n)) p.dtMin p.dtMax)
    else cur
  let s := s.setPwm n { p with
    measured := listSet p.measured d false
    noMeas := listSet p.noMeas d (if meas then 0 else min (p.noMeas.getD d 0 + 1) 8) }
  let s := s.p (dtField n d) dt
  if dt == p.dtMax then s
  else s.p (F.AX_PWM_STATUS_DT_FALLBACK n) (setBit (s.g (F.AX_PWM_STATUS_DT_FALLBACK n)) d false)

/-- The dead times at a zero point: an accepted AXn_PWM_DT_CFG takes effect (R100), then each direction adapts. -/
def State.adapt (s : State) (n : Nat) : State :=
  let s := s.setPwm n { s.pwmOf n with
    dtMin := s.g (F.AX_PWM_DT_CFG_DT_MIN n), dtMax := s.g (F.AX_PWM_DT_CFG_DT_MAX n) }
  s.each (List.range 6) fun d s => s.adapt1 n d

/-! ### Phase -/

/-- The correction of the carrier that begins now, and the phase error that it leaves (R80), in units of 2^-16 ns: at most
4 ns, until |φ| is at most 250 ps. [DEDUCED, unsafe, log 145 and 146] -/
def State.slew (s : State) (n : Nat) : State :=
  let p := s.pwmOf n
  if s.is (F.AX_PWM_STATUS_ALIGN_SLEW n) && 16384 < absN p.phi then
    let c := clampI (-262144) 262144 (-p.phi)
    s.setPwm n { p with corr := c, phi := p.phi + c }
  else (s.setPwm n { p with corr := 0 }).off (F.AX_PWM_STATUS_ALIGN_SLEW n)

/-- The exact full time of the unit's next zero point, or period point (R87, R89), in units of 2^-16 ns. -/
def State.pointTime (s : State) (n : Nat) (zero : Bool) : Nat :=
  let p := s.pwmOf n
  let t : Int := s.tPwm n * 16384 + p.corr
  ((p.lastZero : Int) + if zero then t else t / 2).toNat

/-- Does the counter of a running unit reach its zero point, or its period point, in this tick (R87)? In up and down modes
the two coincide. [DEDUCED, unsafe, log 146] -/
def State.pointDue (s : State) (n : Nat) (zero : Bool) : Bool :=
  s.running n && (if s.cntMode n == 0 then (s.pwmOf n).rise != zero else zero) &&
    decide (s.pointTime n zero < s.now + s.tickStep)

/-- φ in units of 2^-16 ns: the signed time from the launch time to the nearest of the zero points that lie whole carrier
periods `t`, in units of 250 ps, from `z` (R80). Of two equally near zero points it is the earlier one. [DESIGN CHOICE,
unsafe, log 191] [DESIGN CHOICE, unsafe, log 191] -/
def phaseError (launch z t : Nat) : Int :=
  let d := ((launch : Int) - z) % (t * 16384 : Nat)
  if 2 * d ≤ (t * 16384 : Nat) then -d else (t * 16384 : Nat) - d

/-- The reference axis and the other axis of an axis's engine (R171). -/
def State.refAxis (s : State) (e : Nat) : Nat := 2 * e + s.g (F.AE_SCHED_REF_AXIS e)

/-- The check of R173 at an update point of axis `n`: while both units of the pair run, the non-reference axis's update
points fall AEn_PHASE after the reference axis's, within 4 ns. -/
def State.checkPhase (s : State) (n : Nat) : State :=
  let e := n / 2
  let r := s.refAxis e
  if n != r && s.running (2 * e) && s.running (2 * e + 1) then
    let t : Nat := s.tLoop r * 16384
    let d := (((s.pwmOf n).lastUpdate : Int) - (s.pwmOf r).lastUpdate - s.g (F.AE_PHASE_OFS e) * 16384) % t
    let off := if 2 * d ≤ t then d else t - d
    let bad := decide (4 * 65536 < off)
    (s.setAe e { s.aeOf e with phaseBad := bad }).when bad fun s => s.on (F.AE_STATUS_PHASE_MISMATCH e)
  else s

/-- AEn_STATUS.RUNNING and REF_USED when a unit of the pair starts or stops (R172): base periods are counted on while the
reference unit runs, or the other unit after the reference unit has left RUNNING. -/
def State.refRun (s : State) (e : Nat) : State :=
  let r := s.refAxis e
  let o := 4 * e + 1 - r
  let go := s.is (F.AE_STATUS_RUNNING e)
  if s.running r then s.p (F.AE_STATUS_REF_USED e) (r % 2)
  else if go && s.running o then s.p (F.AE_STATUS_REF_USED e) (o % 2)
  else s.off (F.AE_STATUS_RUNNING e)

/-- A unit of a pair starts or stops: the check of R173 rests while not both run. -/
def State.refPair (s : State) (e : Nat) : State :=
  let s := s.refRun e
  if s.running (2 * e) && s.running (2 * e + 1) then s else s.setAe e { s.aeOf e with phaseBad := false }

/-! ### The points of the carrier -/

/-- An update point at the full time `z` (R92): the engine takes T_loop there (R171). -/
def State.noteUpdate (s : State) (n z : Nat) : State :=
  s.setPwm n { s.pwmOf n with lastUpdate := z, updated := true, loopT := s.tLoop n }

/-- The end of the first carrier period after a start with HARD = 0 (R91). -/
def State.endFirst (s : State) (n : Nat) (zero : Bool) : State :=
  if (s.pwmOf n).first && zero then s.setPwm n { s.pwmOf n with first := false } else s

/-- A zero or period point of a running unit; in up and down modes the two coincide (R87). -/
def State.point (s : State) (n : Nat) (zero : Bool) : State :=
  let updown := s.cntMode n == 0
  let z := s.pointTime n zero
  let s := s.endFirst n zero
  let s := (s.pointLoads n zero).cmdsAtPoint n zero
  let s := s.when zero fun s =>
    let s := (s.slew n).adapt n
    s.setPwm n { s.pwmOf n with lastZero := z }
  let s := s.setPwm n { s.pwmOf n with rise := zero }
  let s := s.when zero fun s => s.occur n 0
  let s := s.when (!zero || !updown) fun s => s.occur n 1
  let s := s.when (s.isUpdate n zero) fun s =>
    (s.noteUpdate n z).checkPhase n
  (s.refreshAxis n).checkDuty n

/-- PWM_UPDATE_POINT (R92 to R100): the counter of a running unit reaches its zero point, or its period point, in this
tick. -/
def execPwmUpdatePoint (n : Fin 16) (zero : Bool) (s : State) : Res :=
  if s.pointDue n zero then .next (s.point n zero) else .next s

/-- A point of this tick comes before a commutation event of the same tick (R105). -/
def State.settlePoint (s : State) (n : Nat) : State :=
  if s.pointDue n true then s.point n true else if s.pointDue n false then s.point n false else s

/-- Does a crossing in this direction count as an occurrence (R95)? -/
def State.edgeCounts (s : State) (n : Nat) (up : Bool) : Bool :=
  s.cntMode n != 0 ||
    match s.g (F.AX_PWM_EVT_CFG_CMP_EDGE n) with
    | 0 => up
    | 1 => !up
    | _ => true

/-- Which way the counter moves at a crossing: the operand in up-down mode, else the mode's own direction. -/
def State.counting (s : State) (n : Nat) (up : Bool) : Bool :=
  if s.cntMode n == 0 then up else s.cntMode n == 1

/-- PWM_COMPARE_CROSSING (R88, R95): the counter of a running unit passes the value, rising or falling. The phases whose
compare is that value change their commands, and the compare events pass their prescalers. -/
def execPwmCompareCrossing (n : Fin 16) (value : Nat) (up : Bool) (s : State) : Res :=
  let p := s.pwmOf n
  if !s.running n || value == 0 || p.period ≤ value then .next s
  else
    let al := s.allowed n
    let dir := s.counting n up
    let s := s.setPwm n ((List.range 3).foldl (fun q x => if p.eff x == value then q.toCmd al x (!dir) else q) p)
    .next (s.each (List.range 3) fun x s =>
      s.when (p.cmp.getD x 0 == value && s.edgeCounts n up) fun s => s.occur n (2 + x))

/-- The on-time, in units of 250 ps, of a phase's command that holds at counter position `pos` (R101): predicted from
the active period and compare `act` up to the next update point, and after it from the period `nper` that holds after the
next zero point and the compares that hold after the next period point (`top`) and after the next zero point (`low`). -/
def onTime (mode period nper pos : Nat) (up : Bool) (hi : Bool) (act top low : Nat) : Nat :=
  let act := min act period
  let top := min top period
  let low := min low nper
  if mode == 1 then
    if hi then if act < period then act - pos else period - pos + low
    else period - pos + (if low == 0 then nper else 0)
  else if mode == 2 then
    if hi then pos + (if low < nper then 0 else nper)
    else if 0 < act then pos - act else pos + (nper - low)
  else if up then
    if hi then if act < period then act - pos else period - pos + (if top < period then 0 else period)
    else period - pos + (period - top)
  else if hi then pos + low
  else if 0 < act then pos - act else pos + (if low == 0 then nper else 0)

/-- PWM_DEAD_TIME_END (R101): the deciding instant of a switch, with the counter's position and direction then. The
switch turns on unless its on-time would be shorter than MIN_PULSE. With HOLD set no shadow will load at the next update
point, and the prediction keeps the active values. [DEDUCED, unsafe, log 148] -/
def execPwmDeadTimeEnd (n : Fin 16) (w : Fin 6) (pos : Nat) (up : Bool) (s : State) : Res :=
  let p := s.pwmOf n
  if !s.running n || !p.wait.getD w false then .next s
  else
    let x := w / 2
    let load := s.g (F.AX_PWM_CFG_LOAD n)
    let v := if s.is (F.AX_PWM_SHADOW_HOLD n) then ⟨p.period, p.cmp, p.ovr, p.mode⟩ else s.shadowRegs n
    let nper := if periodOk (s.cntMode n) v.period then v.period else p.period
    let top := if load == 0 then p.eff x else effCmp p.period v.cmp v.ovr v.mode x
    let low := if s.cntMode n == 0 && load == 1 then effCmp nper p.cmp p.ovr p.mode x else effCmp nper v.cmp v.ovr v.mode x
    let t := onTime (s.cntMode n) p.period nper pos (s.counting n up) (w % 2 == 0) (p.eff x) top low
    let short := decide (t < 16 * s.g (F.AX_PWM_DT_GUARD_MIN_PULSE n))
    .next (s.setPwm n { p with wait := listSet p.wait w false, on := listSet p.on w (!short) })

/-- SWITCHING_NODE_TRANSITION (R97): the node of a phase rises or falls `delay` × 250 ps after the outgoing switch's
turn-off. It is a valid measurement while the incoming switch still waits. -/
def execSwitchingNodeTransition (n : Fin 16) (x : Fin 3) (rise : Bool) (delay : Nat) (s : State) : Res :=
  let p := s.pwmOf n
  let d := 2 * x + bit (!rise)
  if s.running n && p.wait.getD d false then
    .next ((s.setPwm n { p with measured := listSet p.measured d true }).p (measField n d) (min delay 65535))
  else .next s

/-- DEAD_TIME_FALLBACK (R99): after eight carrier periods without a valid measurement in a direction, its dead time
becomes DT_MAX, its bit is set and the event raised. -/
def execDeadTimeFallback (n : Fin 16) (d : Fin 6) (s : State) : Res :=
  let p := s.pwmOf n
  if s.running n && 8 ≤ p.noMeas.getD d 0 &&
      !testBit (s.g (F.AX_PWM_STATUS_DT_FALLBACK n)) d then
    let s := s.p (dtField n d) p.dtMax
    let s := s.p (F.AX_PWM_STATUS_DT_FALLBACK n) (setBit (s.g (F.AX_PWM_STATUS_DT_FALLBACK n)) d true)
    .next (s.raiseSt (evAxis n + 5) (R.AX_PWM_STATUS n))
  else .next s

/-! ### States of the unit -/

/-- An ARMED unit starts (R91): PERIOD loads, every dead time is DT_MAX, the prescalers restart, and with HARD the other
shadows load unless HOLD is set. `z` is the full time of the carrier's zero point and `period` the PERIOD that loads.
Every bit of DT_FALLBACK clears. [DEDUCED, unsafe, log 38 and 149; DESIGN CHOICE, unsafe, log 192] -/
def State.startUnit (s : State) (n : Nat) (hard : Bool) (z period : Nat) : State :=
  let hold := s.is (F.AX_PWM_SHADOW_HOLD n)
  let dmin := s.g (F.AX_PWM_DT_CFG_DT_MIN n)
  let dmax := s.g (F.AX_PWM_DT_CFG_DT_MAX n)
  let s := (s.p (F.AX_PWM_STATUS_STATE n) 2).off (F.AX_PWM_STATUS_ALIGN_SLEW n)
  let s := s.setPwm n { s.pwmOf n with
    first := !hard, holdBack := hold, dtMin := dmin, dtMax := dmax,
    want := [false, false, false], on := PwmSt.reset.on, wait := PwmSt.reset.wait, measured := PwmSt.reset.measured,
    noMeas := PwmSt.reset.noMeas, presc := PwmSt.reset.presc, phi := 0, corr := 0, rise := true,
    lastZero := z, updated := false, ask := none }
  let s := s.each (List.range 6) fun d s => s.p (dtField n d) dmax
  let s := s.p (F.AX_PWM_STATUS_DT_FALLBACK n) 0
  let s := s.loadPeriod n period
  let s := if s.isUpdate n true then s.noteUpdate n z
    else s.setPwm n { s.pwmOf n with lastUpdate := ((z : Int) - (s.tPwm n * 8192 : Nat)).toNat }
  let s := s.when (hard && !hold) fun s => s.loadShadows n
  let s := s.refPair (n / 2)
  let al := s.allowed n
  let s := s.setPwm n ((List.range 3).foldl (fun p x => p.setCmd al x (cmdAt (s.cntMode n) p.period (p.eff x) true))
    (s.pwmOf n))
  let s := s.occur n 0
  let s := s.when (s.cntMode n != 0) fun s => s.occur n 1
  ((s.hallFlag n).refreshAxis n).checkDuty n

/-- A unit becomes DISABLED (R90). [DEDUCED, unsafe, log 149] -/
def State.disableUnit (s : State) (n : Nat) : State :=
  let s := s.setPwm n { s.pwmOf n with
    first := false, on := PwmSt.reset.on, wait := PwmSt.reset.wait, alignRun := false, phi := 0, corr := 0, late := none,
    ask := none }
  ((((s.p (F.AX_PWM_STATUS_STATE n) 0).off (F.AX_PWM_CTL_ARM n)).off (F.AX_PWM_STATUS_ALIGN_SLEW n)).refPair
    (n / 2)).refreshAxis n

/-- FAULT_CLR (R108): FAULT and LAUNCH_OFF are cleared. -/
def State.pwmFaultClr (s : State) (n : Nat) : State :=
  ((s.off (F.AX_PWM_STATUS_FAULT n)).off (F.AX_PWM_STATUS_LAUNCH_OFF n)).refreshAxis n

/-- The fresh enable with which a feedback channel resumes after a fault (R164): its failures count anew.
[DEDUCED, unsafe, log 153] -/
def State.fbResume (s : State) (n : Nat) : State :=
  if (s.fbOf n).stopped
  then s.setFb n { s.fbOf n with stopped := false, fails := 0, conf := false, riding := false } else s

/-- OUT_EN is written (R108): a 1 is ignored while a fault or a hold is in force. [DEDUCED, unsafe, log 39 and 153] -/
def State.writeOutEn (s : State) (n : Nat) (v : Bool) : State :=
  if v && s.enableHeld n then s
  else ((s.pb (F.AX_PWM_CTL_OUT_EN n) v).when v fun s => (s.fbResume n).leaveStagger n).refreshAxis n

/-- May a unit be armed? PERIOD is in range (R90), the feedback channel is not lent (R165) and nothing holds arming (R543,
R557). -/
def State.armOk (s : State) (n : Nat) : Bool :=
  periodOk (s.cntMode n) (s.g (F.AX_PWM_PERIOD_PERIOD n)) && !s.is (F.AX_FB_STATUS_LENT n) && !s.armHeld

/-- What the next tick brings (R90). -/
def State.askPwm (s : State) (n : Nat) (a : Option PwmAsk) : State :=
  s.setPwm n { s.pwmOf n with ask := a, askTick := s.tb.ticks }

/-- A DISABLED unit becomes ARMED, and starts at the next tick when START comes with ARM (R90). -/
def State.armUnit (s : State) (n : Nat) (start : Bool) : State :=
  let s := (s.p (F.AX_PWM_STATUS_STATE n) 1).on (F.AX_PWM_CTL_ARM n)
  s.askPwm n (if start then some .start else none)

/-- The state a write of ARM and START leads to (R90): ARM = 1 arms a DISABLED unit; START, and ARM = 0, act at the next tick.
An ARM = 1 that follows an ARM = 0 within the tick is kept for that tick. [DEDUCED, unsafe, log 147] -/
def State.writeArm (s : State) (n : Nat) (arm start : Bool) : State :=
  let st := s.pwmState n
  let ask := (s.pwmOf n).ask
  let again := arm && (ask == some .disable || ask == some (.rearm false) || ask == some (.rearm true))
  let s := s.when (start && !again && (st == 2 || (st == 0 && !arm))) fun s => s.on (F.AX_PWM_STATUS_CFG_REFUSED n)
  let s := s.pb (F.AX_PWM_CTL_ARM n) arm
  match ask with
  | some .disable | some (.rearm _) => s.askPwm n (some (if arm then .rearm start else .disable))
  | some (.arm b) => if arm then s.askPwm n (some (.arm (b || start))) else s.askPwm n none
  | _ =>
    if st == 0 then if arm then s.armUnit n start else s
    else if !arm then s.askPwm n (some .disable)
    else if start && st == 1 then s.askPwm n (some .start)
    else s

/-- The tick after a write of ARM or START (R90): an ARMED unit starts with the shadows that this tick finds; a unit becomes
DISABLED, and an ARM = 1 that came before this tick is applied to it, giving ARMED at the following tick. -/
def State.takeAsk (s : State) (n : Nat) : State :=
  let p := s.pwmOf n
  if s.tb.ticks ≤ p.askTick then s
  else match p.ask with
    | none => s
    | some .start => if s.pwmState n == 1 then s.startUnit n false s.now (s.shadows n).period else s.askPwm n none
    | some .disable => s.disableUnit n
    | some (.rearm b) =>
      let s := s.disableUnit n
      if s.armOk n then (s.on (F.AX_PWM_CTL_ARM n)).askPwm n (some (.arm b)) else s.on (F.AX_PWM_STATUS_CFG_REFUSED n)
    | some (.arm b) => (s.armUnit n false).when b fun s => s.startUnit n false s.now (s.shadows n).period

/-- What the writes of ARM and START left for this tick. -/
def State.pwmDue (s : State) : State := s.each (List.range 16) fun n s => s.takeAsk n

/-- A write of AXn_PWM_CTL (R90, R108): refused as a whole when it would arm a unit whose PERIOD is out of
range, whose feedback channel is lent (R165), or while arming is held (R543, R557). The reset of the motion domain holds
the unit (R106). -/
def wrPwmCtl (n : Nat) (v : Word) (s : State) : State :=
  if s.clk.down.contains 8 then s else
  let arm := getBits v 0 1 == 1
  if s.pwmState n == 0 && arm && !s.armOk n then s.on (F.AX_PWM_STATUS_CFG_REFUSED n)
  else
    let s := (s.noteShadow n).p (F.AX_PWM_CTL_MODE_SEL n) (getBits v 3 1)
    let s := s.when (getBits v 4 1 == 1) fun s => s.pwmFaultClr n
    let s := s.writeOutEn n (getBits v 1 1 == 1)
    s.writeArm n arm (getBits v 2 1 == 1)

/-- A write of AXn_PWM_CTL that changes the bits of `mask` to those of `bits` and leaves ARM, OUT_EN and MODE_SEL as
they are. -/
def State.pwmCtlBits (s : State) (n : Nat) (mask bits : Word) : State :=
  wrPwmCtl n ((s.rd (R.AX_PWM_CTL n) &&& 0xB &&& ~~~mask) ||| bits) s

/-- PWM_ARM (R90). -/
def execPwmArm (rq : Rq) (n : Fin 16) (s : State) : Res :=
  .next (s.write rq (R.AX_PWM_CTL n) fun s => s.pwmCtlBits n 1 1)

/-- PWM_DISARM (R90). -/
def execPwmDisarm (rq : Rq) (n : Fin 16) (s : State) : Res :=
  .next (s.write rq (R.AX_PWM_CTL n) fun s => s.pwmCtlBits n 1 0)

/-- PWM_START (R90): the write leaves ARM as it is. -/
def execPwmStart (rq : Rq) (n : Fin 16) (s : State) : Res :=
  .next (s.write rq (R.AX_PWM_CTL n) fun s => s.pwmCtlBits n 4 4)

/-- OUT_EN (R108): a write of OUT_EN = 1. -/
def execOutEn (rq : Rq) (n : Fin 16) (s : State) : Res :=
  .next (s.write rq (R.AX_PWM_CTL n) fun s => s.pwmCtlBits n 2 2)

/-- PWM_FAULT_CLR (R108). -/
def execPwmFaultClr (rq : Rq) (n : Fin 16) (s : State) : Res :=
  .next (s.write rq (R.AX_PWM_CTL n) fun s => s.pwmCtlBits n 16 16)

/-- PWM_PERIOD at its target (R80, R76, R90, R91): it starts an ARMED unit, measures the phase of a RUNNING one, and is
ignored by a DISABLED one; with the time region isolated the carrier free-runs from its last alignment (R32). Bit 0 of
the argument is HARD. The phase is measured from the nearer of the last zero point and the next; the error that the
running carrier leaves takes its own correction in. -/
def State.actPeriod (s : State) (n : Nat) (h : Held) : State :=
  if s.isolated regTime then s else
  match s.pwmState n with
  | 1 => s.startUnit n (getBits h.e.arg 0 1 == 1) h.e.time (s.shadows n).period
  | 2 =>
    let p := s.pwmOf n
    let next := s.pointTime n true
    let far := absN ((h.e.time : Int) - p.lastZero) ≤ absN ((h.e.time : Int) - next)
    let phi := phaseError h.e.time (if far then p.lastZero else next) (s.tPwm n)
    let big := decide (16384 < absN phi)
    let s := s.pi (F.AX_PWM_PHASE_PHI n) (floorDiv phi 16384)
    let s := s.setPwm n { p with
      phi := if far && big then phi + p.corr else phi, corr := if far && !big then 0 else p.corr }
    s.pb (F.AX_PWM_STATUS_ALIGN_SLEW n) big
  | _ => s.on (F.AX_PWM_STATUS_PERIOD_IGNORED n)

/-- PWM_PERIOD (R80). -/
def execPwmPeriod (n : Fin 16) (s : State) : Res := .next (s.act actPwmPeriod n fun h s => s.actPeriod n h)

/-- AXIS_OFF (R72, R108): LAUNCH_OFF is set and OUT_EN cleared; the carrier keeps running. -/
def execAxisOff (n : Fin 16) (s : State) : Res :=
  .next (s.act actAxisOff n fun _ s =>
    ((s.on (F.AX_PWM_STATUS_LAUNCH_OFF n)).off (F.AX_PWM_CTL_OUT_EN n)).refreshAxis n)

/-! ### Commutation -/

/-- The mask index moves by one and the entry it names takes effect (R104, R105). [DEDUCED, unsafe, log 150] -/
def State.moveMask (s : State) (n : Nat) (down : Bool) : State :=
  let old := s.allowed n
  let len := effLength (s.g (F.AX_PWM_MASK_CFG_LENGTH n))
  let i := s.g (F.AX_PWM_STATUS_MASK_IDX n)
  let s := s.p (F.AX_PWM_STATUS_MASK_IDX n) (if down then (i + len - 1) % len else (i + 1) % len)
  (s.lateOffs n (s.allowed n)).reallow n old

/-- A commutation event from a source: ignored with COMM_IGNORED when the source is not selected, and without a flag
outside mask mode (R104). A shadow load of the same tick comes first (R105). -/
def State.commEvent (s : State) (n src : Nat) (down : Bool) : State :=
  let s := s.settlePoint n
  if s.g (F.AX_PWM_MASK_CFG_SRC n) != src then s.on (F.AX_PWM_STATUS_COMM_IGNORED n)
  else if (s.pwmOf n).mode then s.moveMask n down
  else s

/-- The direction that DIR gives. -/
def State.maskDown (s : State) (n : Nat) : Bool := s.is (F.AX_PWM_MASK_CFG_DIR n)

/-- COMMUTATE (R104, source 2). -/
def execCommutate (n : Fin 16) (s : State) : Res :=
  .next (s.act actCommutate n fun _ s => s.commEvent n 2 (s.maskDown n))

/-- ALIGN_EVENT (R104, source 0): INTERVAL µs after its last event the align sequencer issues the next; after COUNT events
it sets ALIGN_DONE and stops. -/
def execAlignEvent (n : Fin 16) (s : State) : Res :=
  let p := s.pwmOf n
  if s.running n && p.mode && p.alignRun && p.alignTick + s.g (F.AX_PWM_ALIGN_INTERVAL n) * 250 ≤ s.tb.ticks then
    let s := s.commEvent n 0 (s.maskDown n)
    let s := s.setPwm n { s.pwmOf n with alignTick := p.alignTick + s.g (F.AX_PWM_ALIGN_INTERVAL n) * 250 }
    if s.g (F.AX_PWM_ALIGN_COUNT n) == 0 then .next s
    else
      let last := p.alignLeft ≤ 1
      let s := s.setPwm n { s.pwmOf n with alignLeft := p.alignLeft - 1, alignRun := !last }
      .next (s.when last fun s => s.on (F.AX_PWM_STATUS_ALIGN_DONE n))
  else .next s

/-- The Hall state reaches the unit (R104): with SRC 1 in mask mode an invalid state holds the switches off. -/
def State.pwmHall (s : State) (n hall : Nat) : State :=
  let old := s.allowed n
  ((s.setPwm n { s.pwmOf n with hall := hall }).hallFlag n).reallow n old

/-! ### Configuration writes -/

/-- A write of a mask entry: it takes effect at once when the index names it (R103). -/
def wrPwmMask (n i : Nat) (v : Word) (s : State) : State :=
  let old := s.allowed n
  let s := s.p (F.AX_PWM_MASK_MASK n i) (getBits v 0 6)
  (s.lateOffs n (s.allowed n)).reallow n old

/-- PWM_MASK_WRITE (R103). -/
def execPwmMaskWrite (rq : Rq) (n : Fin 16) (i : Fin 8) (v : Word) (s : State) : Res :=
  .next (s.write rq (R.AX_PWM_MASK n i) (wrPwmMask n i v))

/-- A write of AXn_PWM_MASK_CFG (R103): refused with START_IDX at or above the effective LENGTH, and with the reserved
SRC (R599); a lowered LENGTH wraps the running index. -/
def wrPwmMaskCfg (n : Nat) (v : Word) (s : State) : State :=
  let len := effLength (getBits v 0 4)
  if len ≤ getBits v 4 3 || getBits v 8 2 == 3 then s.on (F.AX_PWM_STATUS_CFG_REFUSED n)
  else
    let old := s.allowed n
    let s := s.wr (R.AX_PWM_MASK_CFG n) (putBits 0 0 10 (getBits v 0 10))
    let i := s.g (F.AX_PWM_STATUS_MASK_IDX n)
    let s := (s.when ((s.pwmOf n).mode && len ≤ i) fun s => s.p (F.AX_PWM_STATUS_MASK_IDX n) (i % len)).hallFlag n
    (s.lateOffs n (s.allowed n)).reallow n old

/-- PWM_MASK_CFG_WRITE (R103). -/
def execPwmMaskCfgWrite (rq : Rq) (n : Fin 16) (v : Word) (s : State) : Res :=
  .next (s.write rq (R.AX_PWM_MASK_CFG n) (wrPwmMaskCfg n v))

/-- A write of AXn_PWM_ALIGN: in mask mode it restarts the sequencer, and an INTERVAL of 0 stops it (R104).
[DEDUCED, unsafe, log 40] -/
def wrPwmAlign (n : Nat) (v : Word) (s : State) : State :=
  let s := s.wr (R.AX_PWM_ALIGN n) (putBits 0 0 24 (getBits v 0 24))
  if (s.pwmOf n).mode then s.setPwm n { s.pwmOf n with
    alignLeft := getBits v 16 8
    alignRun := getBits v 0 16 != 0 && s.g (F.AX_PWM_MASK_CFG_SRC n) == 0
    alignTick := s.tb.ticks }
  else s

/-- PWM_ALIGN_WRITE (R104). -/
def execPwmAlignWrite (rq : Rq) (n : Fin 16) (v : Word) (s : State) : Res :=
  .next (s.write rq (R.AX_PWM_ALIGN n) (wrPwmAlign n v))

/-- A write of AXn_PWM_CFG (R110): reserved values are refused (R599); while the unit is ARMED or RUNNING a change of
CNT_MODE, DL_GROUP or ADAPT_EN is refused and LOAD takes its value. While ADAPT_EN is 0 every dead time is DT_MAX (R100). -/
def wrPwmCfg (n : Nat) (v : Word) (s : State) : State :=
  if getBits v 0 2 == 3 || getBits v 2 2 == 3 then s.on (F.AX_PWM_STATUS_CFG_REFUSED n)
  else
    let s := s.p (F.AX_PWM_CFG_LOAD n) (getBits v 2 2)
    let same := getBits v 0 2 == s.cntMode n && getBits v 4 2 == s.axGroup n &&
      getBits v 6 1 == s.g (F.AX_PWM_CFG_ADAPT_EN n)
    if same then s
    else if s.pwmState n != 0 then s.on (F.AX_PWM_STATUS_CFG_REFUSED n)
    else
      let s := ((s.p (F.AX_PWM_CFG_CNT_MODE n) (getBits v 0 2)).p (F.AX_PWM_CFG_DL_GROUP n) (getBits v 4 2)).p
        (F.AX_PWM_CFG_ADAPT_EN n) (getBits v 6 1)
      (s.when (getBits v 6 1 == 0) fun s => s.each (List.range 6) fun d s => s.p (dtField n d) (s.pwmOf n).dtMax).refreshAxis n

/-- PWM_CFG_WRITE (R110). -/
def execPwmCfgWrite (rq : Rq) (n : Fin 16) (v : Word) (s : State) : Res :=
  .next (s.write rq (R.AX_PWM_CFG n) (wrPwmCfg n v))

/-- A write of AXn_PWM_DT_CFG: refused with DT_MIN above DT_MAX, else in effect from the next zero point (R100). -/
def wrPwmDtCfg (n : Nat) (v : Word) (s : State) : State :=
  if getBits v 16 9 < getBits v 0 9 then s.on (F.AX_PWM_STATUS_CFG_REFUSED n)
  else (s.p (F.AX_PWM_DT_CFG_DT_MIN n) (getBits v 0 9)).p (F.AX_PWM_DT_CFG_DT_MAX n) (getBits v 16 9)

/-- PWM_DT_CFG_WRITE (R100). -/
def execPwmDtCfgWrite (rq : Rq) (n : Fin 16) (v : Word) (s : State) : Res :=
  .next (s.write rq (R.AX_PWM_DT_CFG n) (wrPwmDtCfg n v))

/-- A write of AXn_PWM_EVT_CFG: a prescaler whose N changes restarts (R96); the reserved CMP_EDGE is refused (R599). -/
def wrPwmEvtCfg (n : Nat) (v : Word) (s : State) : State :=
  if getBits v 20 2 == 3 then s.on (F.AX_PWM_STATUS_CFG_REFUSED n)
  else
    let old := s.rd (R.AX_PWM_EVT_CFG n)
    let s := s.wr (R.AX_PWM_EVT_CFG n) (putBits 0 0 27 (getBits v 0 27))
    let p := s.pwmOf n
    s.setPwm n { p with
      presc := (List.range 5).map fun i => if evtN old i == evtN v i then p.presc.getD i 0 else 0 }

/-- PWM_EVT_CFG_WRITE (R96). -/
def execPwmEvtCfgWrite (rq : Rq) (n : Fin 16) (v : Word) (s : State) : Res :=
  .next (s.write rq (R.AX_PWM_EVT_CFG n) (wrPwmEvtCfg n v))

/-! ### Pins -/

/-- The level of gate command pin `w` (R85, R86, R106): low commands the switch on; an inactive or released pin is
high. -/
def State.gatePin (s : State) (n w : Nat) : Bool :=
  !(s.is (F.AX_PWM_STATUS_OUT_ACTIVE n) && s.onAtPin n w)

/-! ### Brake choppers -/

/-- Has the running on or off interval lasted MIN_TIME (R111), in units of 250 ns, 62.5 ticks? -/
def State.chopFree (s : State) (g : Nat) : Bool :=
  125 * s.g (F.GLB_BCH_CTL_MIN_TIME g) ≤ 2 * (s.tb.ticks - (s.bchOf g).since)

/-- A change of the chopper that MIN_TIME holds back waits for its end (R111), also when a later result lies within the
hysteresis band; a result that asks for the present state ends the wait. [DESIGN CHOICE, unsafe, log 193] -/
def State.askChop (s : State) (g : Nat) (v : Bool) : State :=
  if s.is (F.GLB_BCH_STATUS_ON g) == v then s.setBch g { s.bchOf g with wait := none }
  else if s.chopFree g then s.setChop g v
  else s.setBch g { s.bchOf g with wait := some v }

/-- The chopper compares a DC-link result of its group, in sample bits [23:8] (R111, R112, R113). An invalid result makes
the output inactive. -/
def State.chopCompare (s : State) (g : Nat) (u : Int) : State :=
  if s.chopOff g then s.setChop g false
  else
    let on : Int := s.g (F.GLB_BCH_THR_V_CHOP g)
    let off := on - s.g (F.GLB_BCH_THR_V_HYST g)
    if on < u && !s.is (F.GLB_BCH_STATUS_LIMIT g) then s.askChop g true
    else if u < off then s.askChop g false
    else s

/-- BCH_MIN_TIME_END (R111): a change that waited for MIN_TIME takes effect once the interval has lasted that long.
[DESIGN CHOICE, safe, log 4] -/
def execBchMinTimeEnd (g : Fin 4) (s : State) : Res :=
  match (s.bchOf g).wait with
  | some v =>
    if !s.chopFree g then .next s
    else if v && (s.chopOff g || s.is (F.GLB_BCH_STATUS_LIMIT g)) then .next (s.setBch g { s.bchOf g with wait := none })
    else .next (s.setChop g v)
  | none => .next s

/-- The number of the 10 ms window that runs, in network time (R112). -/
def State.chopWindow (s : State) : Nat := s.nowNs / 10000000

/-- BCH_WINDOW_START (R112): the counter has entered another window of 10 ms: ON_TIME takes the on-time of the window that
ends, in µs, and LIMIT clears. -/
def execBchWindowStart (g : Fin 4) (s : State) : Res :=
  if (s.bchOf g).win == s.chopWindow then .next s else
  let acc := s.chopAcc g
  let s := s.p (F.GLB_BCH_STATUS_ON_TIME g) (min (acc * 4 / 1000) 65535)
  let b := s.bchOf g
  .next ((s.setBch g { b with
    acc := 0, mark := s.tb.ticks, win := s.chopWindow,
    onHour := b.onHour + acc, windows := b.windows + 1 }).off (F.GLB_BCH_STATUS_LIMIT g))

/-- Has the on-time of the running window reached MAX_DUTY ÷ 256 × 10 ms (R112), 2,500,000 ticks for the window? -/
def State.dutySpent (s : State) (g : Nat) : Bool :=
  s.g (F.GLB_BCH_CTL_MAX_DUTY g) * 2500000 ≤ 256 * s.chopAcc g

/-- BCH_DUTY_LIMIT (R112): the on-time of the window reaches MAX_DUTY; the chopper turns off for the rest of the window,
even within MIN_TIME, and the event is raised. -/
def execBchDutyLimit (g : Fin 4) (s : State) : Res :=
  if s.is (F.GLB_BCH_STATUS_ON g) && s.dutySpent g then
    let s := s.setChop g false
    let s := (s.on (F.GLB_BCH_STATUS_LIMIT g)).on (F.GLB_BCH_STATUS_LIMIT_SEEN g)
    .next (s.raiseSt (evGroup g + 1) (R.GLB_BCH_STATUS g))
  else .next s

end Sys2Proof.Machine
end

