-- ==== Sys2Proof/Machine/Sensing.lean ====
section
/-! DEFINITION. Current, DC-link and stage telemetry: the centred and the fast filters (R120 to R128), stuck inputs (R129,
R132), the DC-link channels (R130, R131), the modulator clocks (R116, R117) and the telemetry link (R133 to R141). -/

namespace Sys2Proof.Machine

def State.csOf (s : State) (n : Nat) : CsSt := tabGet (fun _ => CsSt.reset) s.sense.cs n
def State.setCs (s : State) (n : Nat) (x : CsSt) : State :=
  { s with sense := { s.sense with cs := tabSet (fun _ => CsSt.reset) s.sense.cs n x } }
def State.tlmOf (s : State) (n : Nat) : TlmSt := tabGet (fun _ => TlmSt.reset) s.sense.tlm n
def State.setTlm (s : State) (n : Nat) (x : TlmSt) : State :=
  { s with sense := { s.sense with tlm := tabSet (fun _ => TlmSt.reset) s.sense.tlm n x } }

/-! ### Modulator clocks -/

/-- The modulator period of an SDCLK pin in ns (R116). -/
def State.sdPeriod (s : State) (k : Nat) : Nat :=
  match s.g F.GLB_SDCLK_CFG_FREQ / 4 ^ k % 4 with
  | 0 => 100
  | 1 => 50
  | _ => 40

/-- Does the pin's clock run? -/
def State.sdRuns (s : State) (k : Nat) : Bool := testBit (s.g F.GLB_SDCLK_CFG_EN) k

/-- How far a pin's clock is off its grid, in units of 2^-16 ns: after a step it moves back by at most 250 ps in each
modulator period (R116). -/
def State.sdOff (s : State) (k : Nat) : Int :=
  let e := tabGet (fun _ => ((0 : Int), 0)) s.sense.sdErr k
  let back : Int := ((s.tb.ticks - e.2) * 4 / s.sdPeriod k * 16384 : Nat)
  if e.1 < 0 then min 0 (e.1 + back) else max 0 (e.1 - back)

/-- A step of the counter by `d` × 2^-16 ns leaves the clocks where they are, off the grid by the nearer distance
(R116), a pin whose output is off as well. [DESIGN CHOICE, unsafe, log 194] -/
def State.sdStep (s : State) (d : Int) : State :=
  s.each (List.range 4) fun k s =>
    let t : Int := (s.sdPeriod k * 65536 : Nat)
    let e := (s.sdOff k + d) % t
    let e := if 2 * e ≤ t then e else e - t
    { s with sense := { s.sense with
      sdErr := tabSet (fun _ => ((0 : Int), 0)) s.sense.sdErr k (if e = 0 then (0, 0) else (e, s.tb.ticks)) } }

/-- What a read of GLB_SDCLK_STATUS shows: the clocks on the pins, the pending frequencies and the realigning pins. -/
def State.sdStatus (s : State) : Word :=
  let pend := (List.range 4).foldl (fun x k =>
    x + (if (tabGet (fun _ => none) s.sense.sdPend k).isSome then 2 ^ (4 + k) else 0)) 0
  let re := (List.range 4).foldl (fun x k => x + (if s.sdOff k ≠ 0 then 2 ^ (8 + k) else 0)) 0
  BitVec.ofNat 32 (s.g F.GLB_SDCLK_CFG_EN + pend + re)

/-- Is any axis that the pin serves ARMED or RUNNING (R117)? -/
def State.sdBusy (s : State) (k : Nat) : Bool := (List.range 4).any fun i => s.pwmState (4 * k + i) != 0

/-- A pin's frequency is set. -/
def State.setFreq (s : State) (k f : Nat) : State :=
  let v := s.g F.GLB_SDCLK_CFG_FREQ
  let s := s.p F.GLB_SDCLK_CFG_FREQ (v - v / 4 ^ k % 4 * 4 ^ k + f * 4 ^ k)
  { s with sense := { s.sense with sdPend := tabSet (fun _ => none) s.sense.sdPend k none } }

/-- A parameter set gives a pin a frequency: another than the one in force waits while an axis that the pin serves is ARMED
or RUNNING (R117); the one in force ends the wait of an older one. -/
def State.askFreq (s : State) (k f : Nat) : State :=
  if s.g F.GLB_SDCLK_CFG_FREQ / 4 ^ k % 4 != f && s.sdBusy k then { s with sense := { s.sense with sdPend := tabSet (fun _ => none) s.sense.sdPend k (some f) } }
  else s.setFreq k f

/-- SDCLK_FREQ_APPLY (R117). -/
def execSdclkFreqApply (k : Fin 4) (s : State) : Res :=
  match tabGet (fun _ => none) s.sense.sdPend k with
  | some f => if s.sdBusy k then .next s else .next (s.setFreq k f)
  | none => .next s

/-! ### Filters -/

/-- A filter sum normalised to a signed 24-bit sample (R122): `full` is OSR³ or OSR². -/
def normalise (raw full : Nat) : Int :=
  if full == 0 then 0
  else min (floorDiv ((2 * (raw : Int) - full) * 2 ^ 23) full) (2 ^ 23 - 1)

/-- Does a sample lie at an end of its range? -/
def atEnd (q : Int) : Bool := decide (q = -(2 ^ 23)) || decide (q = 2 ^ 23 - 1)

/-- A sample scaled to per-unit current before saturation (R123). -/
def scaleRaw (q ofs gain : Int) : Int := floorDiv ((q - ofs) * gain) 65536

/-- δ of a centred window in units of 2^-16 ns (R120): the window starts at the modulator clock edge nearest to S − t_f,
and on a tie at the earlier one. `t` is the modulator period in ns, `off` the clock's distance from its grid. -/
def centring (s osr t : Nat) (off : Int) : Int :=
  let per : Int := t * 65536
  let start : Int := (s : Int) - (3 * osr * t * 32768 : Nat)
  let r := (start - off) % per
  if 2 * r ≤ per then -r else per - r

/-- The tick at which the window around a sample instant has its last edge (R120), `osr` modulator periods of `t` ns. -/
def State.windowEnd (s : State) (inst osr t : Nat) (d : Int) : Nat :=
  s.tb.ticks + ((inst : Int) + d + (3 * osr * t * 32768 : Nat) - s.now).toNat / s.tickStep

/-- OFS and GAIN of both inputs: OFS_A, OFS_B, GAIN_A, GAIN_B. -/
def State.csScale (s : State) (n : Nat) : List Word :=
  [s.rd (R.AX_CS_OFS_A n), s.rd (R.AX_CS_OFS_B n), s.rd (R.AX_CS_GAIN_A n), s.rd (R.AX_CS_GAIN_B n)]

/-- What OFS and GAIN held at a time, from the values noted at later writes. -/
def scaleAt (t : Nat) (now : List Word) : List (Nat × List Word) → List Word
  | [] => now
  | (w, old) :: r => if t < w then old else scaleAt t now r

/-- A write of OFS or GAIN: at any time; a window that has begun keeps the values of its first edge (R124). No window begins
more than half its longest length, 38,400 ns, before it opens, so older notes count no longer. -/
def wrCsScale (n a : Nat) (v : Word) (s : State) : State :=
  let c := s.csOf n
  let old := c.hist.filter fun e => decide (s.now ≤ e.1 + 40000 * 65536)
  (s.setCs n { c with hist := old ++ [(s.now, s.csScale n)] }).merge a v

/-- The noted times of OFS and GAIN writes move with a step of the counter (R56, R124). -/
def State.csStep (s : State) (d : Int) : State :=
  s.each (List.range 16) fun n s =>
    let c := s.csOf n
    if c.hist.isEmpty then s
    else s.setCs n { c with hist := c.hist.map fun (e : Nat × List Word) => (((e.1 : Int) + d).toNat, e.2) }

/-- The current part of an AXIS_SAMPLE with the sample instant S (R120, R121). With EN = 0 or the pin's clock off no window
opens and no flag is set. [DESIGN CHOICE, unsafe, log 196] -/
def State.openCurrent (s : State) (n inst : Nat) : State :=
  let c := s.csOf n
  let k := n / 4
  if c.win.isSome then s.on (F.AX_CS_STATUS_OVERLAP n)
  else if !s.is (F.AX_CS_CFG_EN n) || !s.sdRuns k then s
  else
    let osr := s.g (F.AX_CS_CFG_OSR n)
    let d := centring inst osr (s.sdPeriod k) (s.sdOff k)
    let start := ((inst : Int) + d - (3 * osr * s.sdPeriod k * 32768 : Nat)).toNat
    s.setCs n { c with win := some ⟨inst, d, scaleAt start (s.csScale n) c.hist, s.windowEnd inst osr (s.sdPeriod k) d⟩ }

/-- VALID is 1 after a result since enable while no input is stuck. -/
def State.csValid (s : State) (n : Nat) : State :=
  let c := s.csOf n
  s.pb (F.AX_CS_STATUS_VALID n) (c.got && !c.stuckA && !c.stuckB)

/-- SAT_A or SAT_B, and a current-saturation event once per enable (R122). -/
def State.csSat (s : State) (n : Nat) (a b : Bool) : State :=
  let s := (s.when a fun s => s.on (F.AX_CS_STATUS_SAT_A n)).when b fun s => s.on (F.AX_CS_STATUS_SAT_B n)
  if (a || b) && !(s.csOf n).satSeen
  then (s.setCs n { s.csOf n with satSeen := true }).raiseSt (evAxis n + 6) (R.AX_CS_STATUS n)
  else s

/-- The three phase currents from the two measured ones (R123): U, V, W. -/
def phases (pair : Nat) (ia ib ic : Int) : Int × Int × Int :=
  match pair with
  | 0 => (ia, ib, ic)
  | 1 => (ia, ic, ib)
  | _ => (ic, ia, ib)

/-- SINC3_RESULT (R122, R123): the open window of both inputs closes, at its last edge, with its filter sums. δ is shown
in whole units of 250 ps toward minus infinity, and OSR and MEAS_PAIR are those in force then.
[DESIGN CHOICE, unsafe, log 195 and 197] -/
def execSinc3Result (n : Fin 16) (rawA rawB : Nat) (s : State) : Res :=
  let c := s.csOf n
  match c.win with
  | none => .next s
  | some w =>
    if s.tb.ticks < w.endTick || !s.sdRuns (n / 4) then .next s else
    let osr := s.g (F.AX_CS_CFG_OSR n)
    let full := osr ^ 3
    let qa := normalise (min rawA full) full
    let qb := normalise (min rawB full) full
    let xa := scaleRaw qa (signed 24 (w.scale.getD 0 0).toNat) (w.scale.getD 2 0).int
    let xb := scaleRaw qb (signed 24 (w.scale.getD 1 0).toNat) (w.scale.getD 3 0).int
    let ia := satI 32 xa
    let ib := satI 32 xb
    let xc := -(ia + ib)
    let i := phases (s.g (F.AX_CS_CFG_MEAS_PAIR n)) ia ib (satI 32 xc)
    let isat := decide (ia ≠ xa) || decide (ib ≠ xb) || decide (satI 32 xc ≠ xc)
    let s := s.setCs n { c with win := none, got := true }
    let s := ((s.pi (F.AX_CS_RAW_A_Q n) qa).pi (F.AX_CS_RAW_B_Q n) qb)
    let s := ((s.wr (R.AX_CS_IU n) (Word.ofI i.1)).wr (R.AX_CS_IV n) (Word.ofI i.2.1)).wr (R.AX_CS_IW n) (Word.ofI i.2.2)
    let s := s.wr (R.AX_CS_STAMP n) (shortOf ((w.s : Int) + w.delta).toNat)
    let s := s.pi (F.AX_CS_STATUS_DELTA n) (floorDiv w.delta 16384)
    let s := s.when isat fun s => s.on (F.AX_CS_STATUS_ISAT n)
    .next ((s.csSat n (atEnd qa) (atEnd qb)).csValid n)

/-- A sum strictly between its ends shows a bit change within its window: the input is no longer stuck.
[DEDUCED, unsafe, log 50] -/
def State.csUnstick (s : State) (n : Nat) (a b : Bool) : State :=
  let c := s.csOf n
  (s.setCs n { c with stuckA := c.stuckA && !a, stuckB := c.stuckB && !b }).csValid n

/-- FAST_RESULT (R126, R127): the free-running windows of both inputs complete and Foxglove checks their results. -/
def execFastResult (n : Fin 16) (rawA rawB : Nat) (s : State) : Res :=
  if !s.is (F.AX_CS_CFG_EN n) || !s.sdRuns (n / 4) then .next s
  else
    let full := s.g (F.AX_CS_FAST_FAST_OSR n) ^ 2
    let qa := normalise (min rawA full) full
    let qb := normalise (min rawB full) full
    let s := (s.pi (F.AX_CS_FAST_A_Q2 n) qa).pi (F.AX_CS_FAST_B_Q2 n) qb
    let s := s.csUnstick n (decide (0 < rawA ∧ rawA < full)) (decide (0 < rawB ∧ rawB < full))
    .next (((s.checkFast n false qa).checkFast n true qb).checkFastPair n qa qb)

/-- CURRENT_INPUT_STUCK (R129): STUCK is set, VALID clears and the axis enters its cell fault. -/
def execCurrentInputStuck (n : Fin 16) (b : Bool) (s : State) : Res :=
  if !s.is (F.AX_CS_CFG_EN n) then .next s
  else
    let c := s.csOf n
    let s := s.setCs n { c with stuckA := c.stuckA || !b, stuckB := c.stuckB || b }
    let s := s.on (if b then F.AX_CS_STATUS_STUCK_B n else F.AX_CS_STATUS_STUCK_A n)
    .next ((s.csValid n).axisFault n)

/-- A write of AXn_CS_CFG (R124, R599). -/
def wrCsCfg (n : Nat) (v : Word) (s : State) : State :=
  let osr := getBits v 4 9
  let lim := getBits v 16 8
  if getBits v 1 2 == 3 || osr < 16 || 256 < osr || lim < 16 then s.on (F.AX_CS_STATUS_CFG_REFUSED n)
  else
    let s := s.p (F.AX_CS_CFG_STUCK_LIM n) lim
    let same := getBits v 0 1 == s.g (F.AX_CS_CFG_EN n) && getBits v 1 2 == s.g (F.AX_CS_CFG_MEAS_PAIR n) &&
      osr == s.g (F.AX_CS_CFG_OSR n)
    if same then s
    else if s.pwmState n != 0 then s.on (F.AX_CS_STATUS_CFG_REFUSED n)
    else
      let was := s.is (F.AX_CS_CFG_EN n)
      let en := getBits v 0 1 == 1
      let s := ((s.pb (F.AX_CS_CFG_EN n) en).p (F.AX_CS_CFG_MEAS_PAIR n) (getBits v 1 2)).p (F.AX_CS_CFG_OSR n) osr
      if was == en then s
      else (s.setCs n { CsSt.reset with hist := (s.csOf n).hist }).csValid n

/-- CS_CFG_WRITE (R124). -/
def execCsCfgWrite (rq : Rq) (n : Fin 16) (v : Word) (s : State) : Res :=
  .next (s.write rq (R.AX_CS_CFG n) (wrCsCfg n v))

/-- The registers that a read of AXn_CS_STAMP copies (R125). -/
def csSnapRegs (n : Nat) : List Nat :=
  [R.AX_CS_RAW_A n, R.AX_CS_RAW_B n, R.AX_CS_IU n, R.AX_CS_IV n, R.AX_CS_IW n]

/-- CS_STAMP_READ (R125). -/
def execCsStampRead (rq : Rq) (n : Fin 16) (s : State) : Res :=
  .next (s.stampRead rq (R.AX_CS_STAMP n) (csSnapRegs n))

/-- The telemetry value registers that a read of AXn_TLM_STAMP copies (R125). -/
def tlmSnapRegs (n : Nat) : List Nat :=
  [R.AX_TLM_TEMP_UV n, R.AX_TLM_TEMP_W n, R.AX_TLM_GD_VDC n, R.AX_TLM_AUX n]

/-- TLM_STAMP_READ (R125). -/
def execTlmStampRead (rq : Rq) (n : Fin 16) (s : State) : Res :=
  .next (s.stampRead rq (R.AX_TLM_STAMP n) (tlmSnapRegs n))

/-! ### DC-link channels -/

/-- Bits [23:8] of a DC-link sample, signed. -/
def dlUnits (q : Int) : Int := floorDiv q 256

/-- VDC of an axis's latest valid frame in sample units (R472). -/
def State.vdcUnits (s : State) (n : Nat) : Int :=
  floorDiv ((s.g (F.AX_TLM_GD_VDC_VDC n) : Int) * s.g (F.FXG_DL_CHECK_DL_SCALE (s.axGroup n))) 4096

/-- Is a servo axis of the group OUT_ACTIVE? -/
def State.groupActive (s : State) (g : Nat) : Bool :=
  (s.groupAxes g).any fun n => s.is (F.AX_PWM_STATUS_OUT_ACTIVE n)

/-- The DC-link sources of a group as an axis sees them: the free-running result while valid, and its telemetry while it
is not stale (R139, R472). [DEDUCED, unsafe, log 42] -/
def State.dlSources (s : State) (g n : Nat) : List Int :=
  (if s.is (F.GLB_DL_STATUS_VALID g) then [dlUnits (s.gi (F.GLB_DL_FREE_Q g))] else []) ++
  (if s.is (F.AX_TLM_STATUS_STALE n) then [] else [s.vdcUnits n])

/-- Foxglove's DC-link window over the sources of one axis (causes 10 and 11): the greater against MAX, the lesser
against MIN. [DEDUCED, unsafe, log 42] -/
def State.checkDlAxis (s : State) (g n : Nat) : State :=
  let l := s.dlSources g n
  let hi := signed 16 (s.g (F.FXG_DL_WIN_MAX g))
  let lo := signed 16 (s.g (F.FXG_DL_WIN_MIN g))
  if l.any fun u => decide (hi < u) then s.tripGroup g 10
  else if l.any fun u => decide (u < lo) then s.tripGroup g 11
  else s

/-- The window check at a datum, while any axis of the group is OUT_ACTIVE. -/
def State.checkDl (s : State) (g : Nat) (axes : List Nat) : State :=
  let act := s.groupActive g
  let s := s.pb (F.FXG_DL_STATUS_CHECKED g) act
  if act then s.each axes fun n s => s.checkDlAxis g n else s

/-- DCLINK_FREE_RESULT (R130): the result feeds the brake chopper, the stretch and Foxglove's window. -/
def execDclinkFreeResult (g : Fin 4) (raw : Nat) (s : State) : Res :=
  if !s.is (F.GLB_DL_CFG_EN g) || !s.sdRuns g then .next s
  else
    let full := s.g (F.GLB_DL_CFG_OSR g) ^ 3
    let q := normalise (min raw full) full
    let s := s.pi (F.GLB_DL_FREE_Q g) q
    let s := s.when (atEnd q) fun s => s.on (F.GLB_DL_STATUS_SAT g)
    let s := s.when (!(s.dlOf g).bad) fun s => s.on (F.GLB_DL_STATUS_VALID g)
    let s := s.pi (F.FXG_DL_STATUS_V g) (dlUnits q)
    let s := s.chopCompare g (dlUnits q)
    .next (s.checkDl g (s.groupAxes g))

/-- DCLINK_SAMPLE (R131): a centred window opens under the placement rule of R120: around the launch time, or the tick of
execution of a late launch (R75). With EN = 0 or the pin's clock off no window opens and no flag is set. [DESIGN CHOICE,
unsafe, log 196] [DESIGN CHOICE, unsafe, log 196] -/
def execDclinkSample (g : Fin 4) (s : State) : Res :=
  .next (s.act actDclinkSample g fun h s =>
    if (s.dlOf g).win.isSome then s.on (F.GLB_DL_STATUS_OVERLAP g)
    else if !s.is (F.GLB_DL_CFG_EN g) || !s.sdRuns g then s
    else
      let t := if h.late then s.instant h else h.e.time
      let d := centring t (s.g (F.GLB_DL_CFG_OSR g)) (s.sdPeriod g) (s.sdOff g)
      s.setDl g { s.dlOf g with win := some (t, d, s.windowEnd t (s.g (F.GLB_DL_CFG_OSR g)) (s.sdPeriod g) d) })

/-- DCLINK_SAMPLE_RESULT (R131): the centred window closes at its last edge. -/
def execDclinkSampleResult (g : Fin 4) (raw : Nat) (s : State) : Res :=
  match (s.dlOf g).win with
  | none => .next s
  | some w =>
    if s.tb.ticks < w.2.2 || !s.sdRuns g then .next s else
    let full := s.g (F.GLB_DL_CFG_OSR g) ^ 3
    let q := normalise (min raw full) full
    let s := (s.setDl g { s.dlOf g with win := none }).pi (F.GLB_DL_SAMPLE_Q g) q
    let s := s.when (atEnd q) fun s => s.on (F.GLB_DL_STATUS_SAT g)
    let s := s.when (!(s.dlOf g).bad) fun s => s.on (F.GLB_DL_STATUS_VALID g)
    .next (s.wr (R.GLB_DL_STAMP g) (shortOf ((w.1 : Int) + w.2.1).toNat))

/-- DCLINK_STUCK (R132): the result becomes invalid, the chopper inactive, and every axis and channel of the group runs
an off stop. [DEDUCED, unsafe, log 152] -/
def execDclinkStuck (g : Fin 4) (s : State) : Res :=
  if !s.is (F.GLB_DL_CFG_EN g) then .next s
  else
    let s := s.setDl g { s.dlOf g with bad := true }
    let s := ((s.on (F.GLB_DL_STATUS_STUCK g)).off (F.GLB_DL_STATUS_VALID g)).raiseSt (evGroup g) (R.GLB_DL_STATUS g)
    let s := s.refreshChop g
    .next (s.each (s.groupChans g) fun k s => s.offStop k)

/-- A write of GLB_DLg_CFG (R132, R599): OSR is RWS; EN = 0 and then EN = 1 while no axis of the group is ARMED or RUNNING
lets VALID return. The condition is judged at the write of EN = 1 alone. [DESIGN CHOICE, unsafe, log 198] -/
def wrDlCfg (g : Nat) (v : Word) (s : State) : State :=
  if getBits v 16 8 < 16 then s
  else
    let was := s.is (F.GLB_DL_CFG_EN g)
    let en := getBits v 0 1 == 1
    let s := ((s.pb (F.GLB_DL_CFG_EN g) en).p (F.GLB_DL_CFG_DLY g) (getBits v 10 5)).p (F.GLB_DL_CFG_STUCK_LIM g)
      (getBits v 16 8)
    if was == en then s
    else
      let idle := (s.groupAxes g).all fun n => s.pwmState n == 0
      let s := s.off (F.GLB_DL_STATUS_VALID g)
      (s.setDl g { s.dlOf g with win := none, bad := (s.dlOf g).bad && !(en && idle) }).refreshChop g

/-- DL_CFG_WRITE (R132, R485). -/
def execDlCfgWrite (rq : Rq) (g : Fin 4) (v : Word) (s : State) : Res :=
  .next (s.rwsWrite rq (R.GLB_DL_CFG g) v (wrDlCfg g v))

/-! ### Telemetry -/

/-- Bits `a` to `b` of a frame whose bit 0, the first on the line, is its most significant one (R134). -/
def frameBits (f a b : Nat) : Nat := f / 2 ^ (159 - b) % 2 ^ (b + 1 - a)

/-- One step of the CRC-8 of R135. -/
def crc8Step (c : Nat) (bit : Nat) : Nat :=
  let b := (bit + c / 128) % 2
  let c := c * 2 % 256
  if b == 1 then Nat.xor c 0x2F else c

/-- The CRC-8 over the first `n` bits of a frame, from bit `i` on. -/
def crc8Bits (f : Nat) : Nat → Nat → Nat → Nat
  | 0, _, c => c
  | n + 1, i, c => crc8Bits f n (i + 1) (crc8Step c (frameBits f i i))

/-- Is the frame's CRC valid? FMT other than 0x01 counts as a failure (R135). -/
def frameOk (f : Nat) : Bool :=
  Nat.xor (crc8Bits f 152 0 0xFF) 0xFF == frameBits f 152 159 && frameBits f 24 31 == 1

/-- A frame of the locked link with a valid CRC updates every telemetry register in one tick (R137), feeds Foxglove (R139,
causes 10 to 12) and may fault the axis (R140). [DEDUCED, unsafe, log 41] -/
def State.acceptFrame (s : State) (n f : Nat) : State :=
  let seq := frameBits f 16 23
  let gap := seq != (s.g (F.AX_TLM_STATUS_SEQ n) + 1) % 256
  let gd := frameBits f 80 95
  let s := (s.when gap fun s => s.on (F.AX_TLM_STATUS_SEQ_GAP n)).p (F.AX_TLM_STATUS_SEQ n) seq
  let s := (s.p (F.AX_TLM_TEMP_UV_TEMP_U n) (frameBits f 32 47)).p (F.AX_TLM_TEMP_UV_TEMP_V n) (frameBits f 48 63)
  let s := (s.p (F.AX_TLM_TEMP_W_TEMP_W n) (frameBits f 64 79)).p (F.AX_TLM_GD_VDC_GD n) gd
  let s := (s.p (F.AX_TLM_GD_VDC_VDC n) (frameBits f 96 111)).p (F.AX_TLM_AUX_AUX n) (frameBits f 112 143)
  let s := s.wr (R.AX_TLM_STAMP n) s.short
  let g := s.axGroup n
  let differ := decide (s.g (F.FXG_DL_CHECK_DL_AGREE g) < absN (s.gi (F.FXG_DL_STATUS_V g) - s.vdcUnits n)) &&
    s.is (F.GLB_DL_STATUS_VALID g)
  let run := if differ then tabGet (fun _ => 0) s.saf.dlDiffer n + 1 else 0
  let s := { s with saf := { s.saf with dlDiffer := tabSet (fun _ => 0) s.saf.dlDiffer n (min run 3) } }
  let s := s.checkDl g [n]
  let s := if 3 ≤ run then s.tripGroup g 12 else s
  if Nat.land gd (s.g (F.AX_TLM_CFG_GD_FAULT_MASK n)) != 0 then (s.on (F.AX_TLM_STATUS_GD_FAULT n)).axisFault n else s

/-- The link returns to SEARCH with every count 0 (R136, R138). -/
def State.tlmSearch (s : State) (n : Nat) : State :=
  ((s.setTlm n TlmSt.reset).p (F.AX_TLM_STATUS_STATE n) 1).on (F.AX_TLM_STATUS_STALE n)

/-- A candidate at a bit offset while the link searches (R136): the first offset whose count reaches 3 locks.
[DEDUCED, unsafe, log 41] -/
def State.searchFrame (s : State) (n offset f : Nat) : State :=
  let t := s.tlmOf n
  let c := if frameBits f 0 15 == 0xE35A && frameOk f then tabGet (fun _ => 0) t.cnt offset + 1 else 0
  let s := s.setTlm n { t with cnt := tabSet (fun _ => 0) t.cnt offset c }
  if c == 3 then
    let s := (s.setTlm n TlmSt.reset).p (F.AX_TLM_STATUS_OFFSET n) offset
    ((s.p (F.AX_TLM_STATUS_STATE n) 2).off (F.AX_TLM_STATUS_STALE n)).p (F.AX_TLM_STATUS_SEQ n) (frameBits f 16 23)
  else s

/-- A frame at the locked offset that fails its CRC (R137, R138). -/
def State.failFrame (s : State) (n : Nat) : State :=
  let t := s.tlmOf n
  let s := (s.on (F.AX_TLM_STATUS_CRC_ERR n)).count (F.AX_TLM_COUNT_CRC_FAIL n) 1
  if t.fails == 0 then s.setTlm n { t with fails := 1 }
  else
    let s := ((s.tlmSearch n).on (F.AX_TLM_STATUS_LOST n)).count (F.AX_TLM_COUNT_LOSS n) 1
    s.raiseSt (evAxis n + 7) (R.AX_TLM_STATUS n)

/-- TLM_FRAME (R136 to R140): the 160 bits that end now, which began at a bit offset. -/
def execTlmFrame (n : Fin 16) (offset : Fin 160) (f : Nat) (s : State) : Res :=
  match s.g (F.AX_TLM_STATUS_STATE n) with
  | 1 => .next (s.searchFrame n offset f)
  | 2 =>
    if s.g (F.AX_TLM_STATUS_OFFSET n) != offset then .next s
    else if frameOk f then .next ((s.setTlm n TlmSt.reset).acceptFrame n f)
    else .next (s.failFrame n)
  | _ => .next s

/-- A write of AXn_TLM_CFG (R141): EN starts the search or disables the link. -/
def wrTlmCfg (n : Nat) (v : Word) (s : State) : State :=
  let was := s.is (F.AX_TLM_CFG_EN n)
  let en := getBits v 0 1 == 1
  let s := (s.pb (F.AX_TLM_CFG_EN n) en).p (F.AX_TLM_CFG_GD_FAULT_MASK n) (getBits v 16 16)
  if was == en then s
  else if en then s.tlmSearch n
  else (s.tlmSearch n).p (F.AX_TLM_STATUS_STATE n) 0

/-- TLM_CFG_WRITE (R141). -/
def execTlmCfgWrite (rq : Rq) (n : Fin 16) (v : Word) (s : State) : Res :=
  .next (s.write rq (R.AX_TLM_CFG n) (wrTlmCfg n v))

end Sys2Proof.Machine
end

