-- ==== Sys2Proof/Machine/Feedback.lean ====
section
/-! DEFINITION. Position and speed feedback: the decoders and their counts (R142 to R160), velocity (R161, R162), the
sample (R144, R146, R147), failures and ride-through (R155), the second feedback (R165) and the probe FIFOs (R169). -/

namespace Sys2Proof.Machine

def State.prbOf (s : State) (k : Nat) : PrbSt := tabGet (fun _ => PrbSt.reset) s.prb k

/-! ### Counts and positions -/

def State.fbEn (s : State) (n : Nat) : Bool := s.is (F.AX_FB_CFG_EN n)
def State.incMode (s : State) (n : Nat) : Nat := s.g (F.AX_FB_CFG_INC_MODE n)
def State.primary (s : State) (n : Nat) : Nat := s.g (F.AX_FB_CFG_PRIMARY n)

/-- CPR of a decoder (R145): 0 incremental, 1 serial, 2 Hall. -/
def State.cpr (s : State) (n d : Nat) : Nat :=
  match d with
  | 0 => atLeast1 (s.g (F.AX_FB_LINES_LINES n)) * (if s.incMode n == 2 then 65536 else 4)
  | 1 => 2 ^ s.g (F.AX_FB_SSI_CFG_ST_BITS n)
  | _ => 6 * atLeast1 (s.g (F.AX_FB_HALL_CFG_POLE_PAIRS n))

/-- A count as a position without offset, in units of 2^-32 rev (R145). -/
def posOf (c : Int) (cpr : Nat) : Int := floorDiv (c * 2 ^ 32) cpr

/-- A decoder of a channel. -/
def FbSt.dec (f : FbSt) : Nat → Dec
  | 0 => f.inc
  | 1 => f.ssi
  | _ => f.hall

/-- A channel with a decoder replaced. -/
def FbSt.setDec (f : FbSt) (d : Nat) (x : Dec) : FbSt :=
  match d with
  | 0 => { f with inc := x }
  | 1 => { f with ssi := x }
  | _ => { f with hall := x }

/-- The position of a decoder without its offset. -/
def State.rawPos (s : State) (n d : Nat) : Int := posOf ((s.fbOf n).dec d).c (s.cpr n d)

/-- The sign that DIR gives every count change (R145). -/
def State.fbSign (s : State) (n : Nat) : Int := if s.is (F.AX_FB_CFG_DIR n) then -1 else 1

/-- Does the soft-limit clamp apply (R146, R147)? -/
def State.softOn (s : State) (n : Nat) : Bool := s.is (F.AX_FB_CFG_SOFT_EN n) && !s.is (F.AX_FB_CFG_WRAP n)

/-- The position as reported (R146). -/
def State.clampPos (s : State) (n : Nat) (p : Int) : Int :=
  if s.softOn n then clampI (s.fbOf n).softMin (s.fbOf n).softMax p else p

/-- The primary decoder's position now, as reported. -/
def State.posNow (s : State) (n : Nat) : Int :=
  s.clampPos n (s.rawPos n (s.primary n) + ((s.fbOf n).dec (s.primary n)).o)

/-! ### Failures -/

/-- The axis that has borrowed a channel (R165). -/
def State.borrower (s : State) (n : Nat) : Option Nat :=
  (List.range 16).find? fun m => s.g (F.AX_FB_CFG_SEC_SRC m) == 2 && s.g (F.AX_FB_CFG_SEC_CH m) == n &&
    s.is (F.AX_FB_STATUS_LENT n)

/-- A fault in the second feedback of an axis: it becomes invalid, with its event (R164). [DEDUCED, unsafe, log 51] -/
def State.secondLost (s : State) (m : Nat) : State :=
  (s.off (F.AX_FB_STATUS_POS2_VALID m)).raiseSt (evAxis m + 11) (R.AX_FB_STATUS m)

/-- Feedback lost (R155, R164): FAULT and its event, ENCODER_FAULTS (R553), Foxglove's cause 8 and the axis cell fault; the
channel stops. A lent channel is a second feedback: it faults no axis. [DEDUCED, unsafe, log 51] -/
def State.fbLost (s : State) (n : Nat) : State :=
  let s := (s.setFb n { s.fbOf n with riding := false, stopped := true }).on (F.AX_FB_STATUS_FAULT n)
  if s.is (F.AX_FB_STATUS_LENT n) then
    match s.borrower n with
    | some m => s.secondLost m
    | none => s
  else
    let s := (s.raiseSt (evAxis n + 10) (R.AX_FB_STATUS n)).addLife (lifeEncoder + n) 1
    (s.trip n 8).axisFault n

/-- A failing sample of the primary decoder (R155): extrapolation begins, and CONFIRM failures in a row start the
ride-through. A channel that has stopped counts none. `fail` is AXn_FB_FAIL as it stood at the sample (R143). -/
def State.fbFail (s : State) (n : Nat) (fail : Word) : State :=
  let f := s.fbOf n
  if f.stopped then s else
  let c := f.fails + 1
  let s := (s.setFb n { f with fails := min c 15 }).on (F.AX_FB_STATUS_EXTRAP n)
  if !f.conf && atLeast1 (getBits fail 0 4) ≤ c then
    let s := (s.on (F.AX_FB_STATUS_AMP_FAULT n)).raiseSt (evAxis n + 8) (R.AX_FB_STATUS n)
    let s := s.setFb n { s.fbOf n with conf := true, riding := true, rideTick := s.tb.ticks, ride := getBits fail 4 10 }
    if getBits fail 4 10 == 0 then s.fbLost n else s
  else s

/-- A good sample of the primary decoder (R155): failures that did not confirm count as a glitch, and a ride-through
ends. -/
def State.fbGood (s : State) (n : Nat) : State :=
  let f := s.fbOf n
  if (f.fails == 0 && !s.is (F.AX_FB_STATUS_EXTRAP n)) || f.stopped then s
  else
    let s := (s.setFb n { f with fails := 0, conf := false, riding := false }).off (F.AX_FB_STATUS_EXTRAP n)
    s.when (f.fails != 0 && !f.conf) fun s => s.count (F.AX_FB_COUNT_GLITCH n) 1

/-- The last good value of the primary decoder (R155): its position without offset and the elapsed time of it. -/
def State.goodAt (s : State) (n : Nat) (raw : Int) (e : Nat) : State :=
  s.setFb n { s.fbOf n with goodRaw := raw, goodE := e }

/-- RIDE_EXPIRY (R155): RIDE µs after the failures confirmed. -/
def execRideExpiry (n : Fin 16) (s : State) : Res :=
  let f := s.fbOf n
  if f.riding && f.rideTick + f.ride * 250 ≤ s.tb.ticks then .next (s.fbLost n) else .next s

/-- A fault of the incremental decoder that loses feedback at once when it is primary (*Feedback faults*). -/
def State.incFault (s : State) (n : Nat) : State := if s.primary n == 0 then s.fbLost n else s

/-! ### Edges and velocity -/

/-- The elapsed time in whole ticks of 4 ns, as ns: no step of the counter moves it (R600). -/
def State.tickNs (s : State) : Nat := s.tb.ticks * 4

/-- on_edge of R161. -/
def EdgeT.edge (e : EdgeT) (t : Nat) (c dir : Int) : EdgeT :=
  let e := if dir ≠ e.dir then { e with t0 := t, c0 := c, hold := true, dir := dir } else e
  { e with t1 := t, c1 := c }

/-- at_sample of R161: `tmo` is ZERO_TMO in ns. -/
def EdgeT.sample (e : EdgeT) (t tmo : Nat) : EdgeT :=
  if e.c1 ≠ e.c0 then
    { e with num := e.c1 - e.c0, den := max 1 (e.t1 - e.t0), t0 := e.t1, c0 := e.c1, hold := false }
  else if e.hold || tmo ≤ t - e.t1 then { e with num := 0, den := 1 }
  else if e.den < absN e.num * (t - e.t1) then { e with num := sgn e.num, den := t - e.t1 }
  else e

/-- A velocity in counts per ns in the format of R12, truncated and saturated (R162). -/
def EdgeT.vel (e : EdgeT) (cpr : Nat) : Int := satI 32 (floorDiv (e.num * 65536000000000) (e.den * cpr : Nat))

/-- The velocity of a position change between two samples (R162): positions in 2^-32 rev, elapsed times in 2^-16 ns. -/
def velBetween (p0 p1 : Int) (t0 t1 : Nat) : Int :=
  if t1 ≤ t0 then 0 else satI 32 (floorDiv ((p1 - p0) * secU) (65536 * (t1 - t0 : Nat)))

/-! ### Probe FIFOs -/

/-- The head registers and LEVEL of a probe follow its FIFO. -/
def State.setPrb (s : State) (k : Nat) (x : PrbSt) : State :=
  let s := ({ s with prb := tabSet (fun _ => PrbSt.reset) s.prb k x }).p (F.GLB_PRB_STATUS_LEVEL k) x.fifo.length
  match x.fifo with
  | [] => s
  | l :: _ =>
    let s := (s.wr (R.GLB_PRB_STAMP k) (shortOf l.t)).wr64 (R.GLB_PRB_POS_LO k) (R.GLB_PRB_POS_HI k) l.pos
    ((s.pb (F.GLB_PRB_FLAGS_EDGE k) l.falling).pb (F.GLB_PRB_FLAGS_POS_VALID k) l.valid).pb (F.GLB_PRB_FLAGS_EXTRAP k)
      l.extrap

/-- A latch enters a probe's FIFO, or is discarded when it is full (R169). -/
def State.prbPush (s : State) (k : Nat) (l : PrbLatch) : State :=
  let x := s.prbOf k
  if 4 ≤ x.fifo.length
  then (s.on (F.GLB_PRB_STATUS_OVERFLOW k)).raiseSt (984 + k) (R.GLB_PRB_STATUS k)
  else s.setPrb k { x with fifo := x.fifo ++ [l] }

/-- The servo axis that a probe is bound to (R167). -/
def State.prbAxis (s : State) (k : Nat) : Option Nat :=
  if s.is (F.GLB_PRB_CFG_AUX k) then none else some (s.g (F.GLB_PRB_CFG_AXIS k))

/-- The position of a latch between two bracketing values (R168). [DEDUCED, unsafe, log 47] -/
def interpolate (t0 : Nat) (p0 : Int) (t1 : Nat) (p1 : Int) (t : Nat) : Int :=
  if t1 ≤ t0 then p1 else p0 + floorDiv ((p1 - p0) * ((t : Int) - t0)) (t1 - t0 : Nat)

/-- A new conversion or sample of an axis at an elapsed time completes the latches that wait for it (R168), one that a homing
sequence takes its reference from among them. -/
def State.bracket (s : State) (n t : Nat) (p : Int) (ext : Bool) : State :=
  let f := s.fbOf n
  let s := s.setFb n { f with conv := some (t, p, ext) }
  s.each (List.range 8) fun k s =>
    let x := s.prbOf k
    if s.prbAxis k != some n || x.wait.isEmpty then s
    else
      let ready := x.wait.filter fun l => decide (l.e ≤ t)
      let s := s.setPrb k { x with wait := x.wait.filter fun l => decide (t < l.e) }
      s.each ready fun l s =>
        let pos := match f.conv with
          | some (t0, p0, _) => interpolate t0 p0 t p l.e
          | none => p
        let ext := match f.conv with
          | some (_, _, e0) => ext || e0
          | none => ext
        let c := s.chanOf n
        let s := if c.homeAt = some l.t ∧ s.g (F.LSP_CH_HOME_CFG_PROBE n) == k
          then s.setChan n { c with homeP := pos, homeAt := none } else s
        s.prbPush k { l with pos := pos, extrap := ext, valid := f.conv.isSome }

/-! ### Samples -/

/-- The length of a serial transfer in ticks up to the last bit read (R156, *Feedback ready times*): n + 1 clocks and the
cable delay. -/
def State.ssiTicks (s : State) (n : Nat) : Nat :=
  (s.g (F.AX_FB_SSI_CFG_START_BITS n) + s.g (F.AX_FB_SSI_CFG_DATA_BITS n) + s.g (F.AX_FB_SSI_CFG_STATUS_BITS n) +
    s.g (F.AX_FB_SSI_CFG_CRC_LEN n) + 1) * s.g (F.AX_FB_SSI_CLK_DIV n) + s.g (F.AX_FB_SSI_CLK_CABLE_DLY n)

/-- The ready time after S in ticks (*Feedback ready times*), by the primary decoder. -/
def State.readyTicks (s : State) (n : Nat) : Nat :=
  if s.primary n == 1 then s.ssiTicks n + 20 else if s.primary n == 0 && s.incMode n == 2 then 200 else 10

/-- REV_HOLD shows rev_hold of the primary decoder, of ABZ while that is the serial one (R161). -/
def State.showHold (s : State) (n : Nat) : State :=
  let f := s.fbOf n
  s.pb (F.AX_FB_STATUS_REV_HOLD n) (if s.primary n == 2 then f.hallE.hold else f.abzE.hold)

/-- SC_OFS, SC_GP, SC_AMP and FAIL of a channel: what a write after a sample does not change for it (R143). -/
def State.fbCfgWords (s : State) (n : Nat) : List Word :=
  [s.rd (R.AX_FB_SC_OFS n), s.rd (R.AX_FB_SC_GP n), s.rd (R.AX_FB_SC_AMP n), s.rd (R.AX_FB_FAIL n)]

/-- Before a write of one of them: what they held until now, noted for as long as a conversion takes. -/
def State.noteFb (s : State) (n : Nat) : State :=
  let f := s.fbOf n
  let now := s.tb.ticks * 262144
  s.setFb n { f with cfgHist := (f.cfgHist.filter fun e => decide (now ≤ e.1 + 250 * 262144)) ++ [(now, s.fbCfgWords n)] }

/-- The sample at the instant `t` of a channel (R144): ABZ and Hall take the count in force, the others wait for their
conversion or frame. A sample in the tick of an index load takes the position before it (R148); a written load takes effect
here; `ok` is false for a serial sample that no transfer serves (R158). -/
def State.makeSample (s : State) (n t : Nat) (ok : Bool) : FbSample :=
  let f := s.fbOf n
  let pr := s.primary n
  let o := match f.zOld with
    | some z => if z.1 == s.tb.ticks then z.2 else (f.dec pr).o
    | none => (f.dec pr).o
  let x : FbSample := ⟨t, s.elapsedAt t, s.tb.ticks + s.readyTicks n, false, false, 0, 0, o, f.loadP,
    if s.softOn n then some (f.softMin, f.softMax) else none, pr == 1 && !ok, s.fbCfgWords n⟩
  if pr == 0 && s.incMode n == 1 then { x with have_ := true, ok := true, raw := s.rawPos n 0, v := f.abzE.vel (s.cpr n 0) }
  else if pr == 2 then { x with have_ := true, ok := true, raw := s.rawPos n 2, v := f.hallE.vel (s.cpr n 2) }
  else { x with have_ := x.busy }

/-- A load of the primary decoder's offset at a sample of the elapsed time `e`, whose position without offset is `raw` (R148):
the later samples under way take it too. An index load made after that sample prevails from its tick on. The next wrap
counts from `raw` (R147). -/
def FbSt.loadTo (f : FbSt) (pr : Nat) (o raw : Int) (e : Nat) : FbSt :=
  let z := match f.zOld with
    | some z => if e / 262144 ≤ z.1 then some z.1 else none
    | none => none
  let upto := fun (x : FbSample) => match z with
    | some t => decide (x.e / 262144 ≤ t)
    | none => true
  let samps := f.samps.map fun x => if upto x then { x with o := o } else x
  if z.isSome then { f with samps := samps, zOld := f.zOld.map fun y => (y.1, o), wrapRef := (o, raw) :: f.wrapRef }
  else { (f.setDec pr { f.dec pr with o := o }) with samps := samps, wrapRef := [(o, raw)] }

/-- Has the channel a decoder that supplies its position (R142)? -/
def State.supplies (s : State) (n : Nat) : Bool :=
  match s.primary n with
  | 0 => s.incMode n != 0
  | 1 => s.is (F.AX_FB_CFG_SSI_EN n)
  | _ => s.is (F.AX_FB_CFG_HALL_EN n)

/-- The serial part of a sample (R156, R158, R159): a transfer starts, unless one or its TM time runs; a sample of the serial
primary that none serves counts as failing when its turn to be reported comes. Every EVERY-th sample after the first valid
frame compares, a sample that finds the decoder busy among the counted ones. -/
def State.startSsi (s : State) (n t : Nat) : State :=
  let f := s.fbOf n
  let every := s.g (F.AX_FB_SSI_CHECK_EVERY n)
  let c := if f.ssiPrev.isSome then f.ssiCnt + 1 else 0
  let hit := every != 0 && every ≤ c
  let f := { f with ssiCnt := if hit then 0 else c }
  if f.ssiRun.isSome || f.ssiIdle.isSome then
    let s := ((s.setFb n f).on (F.AX_FB_STATUS_SSI_BUSY n)).count (F.AX_FB_COUNT_SSI_FAIL n) 1
    s.when (s.primary n != 1 && s.g (F.AX_FB_CFG_SEC_SRC n) == 1) fun s => s.secondLost n
  else
    s.setFb n { f with
      ssiRun := some ⟨t, s.elapsedAt t, s.tb.ticks + s.ssiTicks n,
        if s.incMode n == 1 then some (s.rawPos n 0) else none, f.inc.o,
        if hit then some (s.g (F.AX_FB_SSI_CHECK_TOL n)) else none, s.rd (R.AX_FB_FAIL n),
        s.g (F.AX_FB_SSI_CLK_TM n)⟩ }

/-- The position part of an AXIS_SAMPLE at the instant `t` on a channel (R144, R150, R156, R158): ABZ and Hall take the
count in force and a written load sets their offset at once (R148), sin/cos acquires a pair and the serial decoder starts a
transfer. A channel that has stopped takes no sample, and a load waits (R164). -/
def State.takeSample (s : State) (n t : Nat) : State :=
  if !s.fbEn n then s
  else
    let f := s.fbOf n
    let ns := s.elapsedAt t / 65536
    let tmo := s.g (F.AX_FB_VCFG_ZERO_TMO n) * 10000
    let busy := f.ssiRun.isSome || f.ssiIdle.isSome
    let s := (s.setFb n { f with abzE := f.abzE.sample ns tmo, hallE := f.hallE.sample ns tmo }).showHold n
    let smp := s.makeSample n t (!busy)
    let s := s.when (s.supplies n && !f.stopped) fun s =>
      let s := s.setFb n { s.fbOf n with samps := (s.fbOf n).samps ++ [smp], loadP := none }
      match smp.load with
      | some p => if smp.ok then (s.notePos n (s.posNow n)).setFb n ((s.fbOf n).loadTo (s.primary n) (p - smp.raw) smp.raw smp.e) else s
      | none => s
    s.when (s.is (F.AX_FB_CFG_SSI_EN n)) fun s => s.startSsi n t

/-- The feedback part of an AXIS_SAMPLE (R144, R165): the axis's own channel unless it is lent, and the channel it has
borrowed. -/
def State.sampleFeedback (s : State) (n t : Nat) : State :=
  let s := if s.is (F.AX_FB_STATUS_LENT n) then s else s.takeSample n t
  if s.g (F.AX_FB_CFG_SEC_SRC n) == 2 then s.takeSample (s.g (F.AX_FB_CFG_SEC_CH n)) t else s

/-- The position without offset that an extrapolated sample reports at an elapsed time (R155). -/
def FbSt.extrapolate (f : FbSt) (e : Nat) : Int :=
  f.goodRaw + floorDiv (f.vg * 65536 * ((e : Int) - f.goodE)) secU

/-- How often the revolution word of a position has run through its range (R147). -/
def turnsOf (p : Int) : Int := floorDiv (p + 2 ^ 63) (2 ^ 64)

/-- Position, velocity and stamp of a sample are written (R144, R146, R147, R162), and Foxglove receives its data, to which no
written offset belongs (R163). [DEDUCED, unsafe, log 49 and 163] -/
def State.report (s : State) (n : Nat) (x : FbSample) (raw v : Int) : State :=
  let pr := s.primary n
  let s := match x.load with
    | some p => if pr == 2 || (pr == 0 && s.incMode n == 1) then s
      else (s.notePos n (s.posNow n)).setFb n ((s.fbOf n).loadTo pr (p - raw) raw x.e)
    | none => s
  let f := s.fbOf n
  let pos := match x.load with
    | some p => p
    | none => raw + x.o
  let vf := f.vf + floorDiv (v - f.vf) (2 ^ s.g (F.AX_FB_CFG_VEL_FILT n))
  let o := pos - raw
  let refs := f.wrapRef.dropWhile fun (e : Int × Int) => decide (e.1 ≠ o)
  let wrapped := s.is (F.AX_FB_CFG_WRAP n) && match refs with
    | (_, r) :: _ => decide (turnsOf (r + o) ≠ turnsOf pos)
    | [] => false
  let s := s.setFb n { f with vf := vf, lastRaw := raw, lastE := some x.e, wrapRef := (o, raw) :: (if refs.isEmpty then f.wrapRef else refs.drop 1) }
  let lim := x.soft.getD (pos, pos)
  let rep := clampI lim.1 lim.2 pos
  let lo := decide (pos < lim.1)
  let hi := decide (lim.2 < pos)
  let rise := (lo && !s.is (F.AX_FB_STATUS_SAT_MIN n)) || (hi && !s.is (F.AX_FB_STATUS_SAT_MAX n))
  let s := (s.pb (F.AX_FB_STATUS_SAT_MIN n) lo).pb (F.AX_FB_STATUS_SAT_MAX n) hi
  let s := s.when (lo || hi) fun s => s.on (F.AX_FB_STATUS_SAT_SEEN n)
  let s := s.wr64 (R.AX_FB_POS_LO n) (R.AX_FB_POS_HI n) rep
  let s := (s.wr (R.AX_FB_VEL n) (Word.ofI vf)).wr (R.AX_FB_STAMP n) (shortOf x.s)
  let s := s.when (x.load.isSome && decide ((s.chanOf n).home = .load)) fun s => s.homeDone n
  let s := s.on (F.AX_FB_STATUS_VALID n)
  let s := s.when wrapped fun s => (s.on (F.AX_FB_STATUS_WRAPPED n)).raiseSt (evAxis n + 9) (R.AX_FB_STATUS n)
  let s := s.when rise fun s => s.raiseSt (evAxis n + 19) (R.AX_FB_STATUS n)
  let tap := signed 64 (unsigned 64 (raw + (f.dec pr).a))
  let s := { s with saf := { s.saf with posTap := tabSet (fun _ => 0) s.saf.posTap n tap } }
  let s := ((s.checkPos n tap).checkVel n v).checkSat n (lo || hi)
  match s.borrower n with
  | some m => (s.wr64 (R.AX_FB_POS2_LO m) (R.AX_FB_POS2_HI m) rep).on (F.AX_FB_STATUS_POS2_VALID m)
  | none => s

/-- FB_SAMPLE_READY (R144, R155): at its ready time the first sample under way has its position and velocity written; a
failing one is extrapolated, and a serial one completes the latches that wait for it (R168). A channel that has stopped with a
fault reports none, and a load that the sample took waits again (R164). -/
def execFbSampleReady (n : Fin 16) (s : State) : Res :=
  let f := s.fbOf n
  match f.samps with
  | [] => .next s
  | x :: rest =>
    if !x.have_ || s.tb.ticks < x.ready then .next s
    else
      let s := s.setFb n { f with samps := rest }
      let s := s.when x.busy fun s => s.fbFail n (x.cfg.getD 3 0)
      let raw := if x.ok then x.raw else f.extrapolate x.e
      let s := s.when (s.primary n == 1) fun s => s.bracket n x.e (raw + x.o) (!x.ok)
      if (s.fbOf n).stopped then .next (s.setFb n { s.fbOf n with loadP := if f.loadP.isSome then f.loadP else x.load })
      else if x.ok then
        let s := s.setFb n { s.fbOf n with goodRaw := x.raw, goodE := x.e, vg := x.v }
        .next (s.report n x x.raw x.v)
      else .next (s.report n x raw f.vg)

/-! ### ABZ -/

/-- ENCODER_EDGE (R149): an edge moves the count up or down; both lines at once set QUAD_ERR. -/
def execEncoderEdge (n : Fin 16) (up both : Bool) (s : State) : Res :=
  if !s.fbEn n || s.incMode n != 1 then .next s
  else if both then .next ((s.on (F.AX_FB_STATUS_QUAD_ERR n)).incFault n)
  else
    let f := s.fbOf n
    let d : Int := if up then s.fbSign n else -s.fbSign n
    let c := f.inc.c + d
    let s := s.when (s.primary n == 0) fun s => s.notePos n (s.posNow n)
    .next ((s.setFb n { f with inc := { f.inc with c := c }, abzE := f.abzE.edge s.tickNs c d }).showHold n)

/-- ENCODER_LINE_LOSS (R149). -/
def execEncoderLineLoss (n : Fin 16) (s : State) : Res :=
  if !s.fbEn n || s.incMode n == 0 then .next s
  else .next ((s.on (F.AX_FB_STATUS_LINE_ERR n)).incFault n)

/-- INDEX_EDGE (R148): the edge latches position and stamp, and with ZMODE 2 armed it loads the position. A homing
sequence that waits for the index takes it (R249). [DEDUCED, unsafe, log 43] -/
def execIndexEdge (n : Fin 16) (s : State) : Res :=
  let z := s.g (F.AX_FB_CFG_ZMODE n)
  if !s.fbEn n || z == 0 then .next s
  else
    let pos := s.posNow n
    let s := (s.wr64 (R.AX_FB_ZLAT_LO n) (R.AX_FB_ZLAT_HI n) pos).wr (R.AX_FB_ZLAT_STAMP n) s.short
    let s := s.on (F.AX_FB_STATUS_Z_SEEN n)
    let f := s.fbOf n
    let pr := s.primary n
    let s := if z == 2 && f.zArm
      then (s.notePos n pos).setFb n { (f.setDec pr { f.dec pr with
        o := s.rd64 (R.AX_FB_LOAD_LO n) (R.AX_FB_LOAD_HI n) - s.rawPos n pr }) with
          zArm := false, zOld := some (s.tb.ticks, (f.dec pr).o),
          wrapRef := f.wrapRef ++ [(s.rd64 (R.AX_FB_LOAD_LO n) (R.AX_FB_LOAD_HI n) - s.rawPos n pr, s.rawPos n pr)] }
      else s
    let c := s.chanOf n
    let ty := s.g (F.LSP_CH_HOME_CFG_TYPE n)
    let first := ((ty == 1 || ty == 2) && decide (c.home = .search)) || ((ty == 5 || ty == 6) && decide (c.home = .creep))
    let after := (ty == 5 || ty == 6) && decide (c.home = .search) && c.homeEdge && !c.homeIdx
    let s := s.when (first && !c.homeEdge) fun s => s.setChan n { c with homeEdge := true, homeP := pos }
    .next (s.when after fun s => s.setChan n { c with homeIdx := true, homeP := pos })

/-! ### Sin/cos -/

/-- The corrected values a1 and b1 of a pair (R151), by the words SC_OFS and SC_GP. [DEDUCED, unsafe, log 47] -/
def scCorrect (ofs gp : Word) (a b : Int) : Int × Int :=
  let a1 := a - signed 16 (getBits ofs 0 16)
  let b0 := b - signed 16 (getBits ofs 16 16) - floorDiv (a1 * signed 16 (getBits gp 16 16)) 32768
  (a1, floorDiv (b0 * getBits gp 0 16) 16384)

/-- Extremes with one more value. -/
def widen (e : Int × Int) (x : Int) : Int × Int := (max e.1 x, min e.2 x)

/-- The extremes of a period with one more conversion (R153). -/
def Adapt.add (d : Adapt) (a b a1 b1 : Int) : Adapt :=
  let xs := [a, b, b1, a1 + b1, a1 - b1]
  { d with n := d.n + 1, ex := if d.ex.isEmpty then xs.map fun x => (x, x) else List.zipWith widen d.ex xs }

/-- Half peak-to-peak. -/
def halfSpan (e : Int × Int) : Int := truncDiv (e.1 - e.2) 2

/-- The corrections at the end of a signal period (R153). [DEDUCED, unsafe, log 48] -/
def State.scAdapt (s : State) (n : Nat) (d : Adapt) : State :=
  let e := fun i => d.ex.getD i (0, 0)
  let oa := s.gi (F.AX_FB_SC_OFS_OFS_A n)
  let ob := s.gi (F.AX_FB_SC_OFS_OFS_B n)
  let gb : Int := s.g (F.AX_FB_SC_GP_GAIN_B n)
  let ph := s.gi (F.AX_FB_SC_GP_PHASE n)
  let aa := halfSpan (e 0)
  let ab := halfSpan (e 2)
  let as := halfSpan (e 3)
  let ad := halfSpan (e 4)
  let s := s.pi (F.AX_FB_SC_OFS_OFS_A n) (oa + floorDiv (truncDiv ((e 0).1 + (e 0).2) 2 - oa) 16)
  let s := s.pi (F.AX_FB_SC_OFS_OFS_B n) (ob + floorDiv (truncDiv ((e 1).1 + (e 1).2) 2 - ob) 16)
  let s := s.when (ab ≠ 0) fun s => s.pi (F.AX_FB_SC_GP_GAIN_B n) (gb + floorDiv (truncDiv (gb * aa) ab - gb) 16)
  s.when (as * as + ad * ad ≠ 0) fun s =>
    s.pi (F.AX_FB_SC_GP_PHASE n) (ph + floorDiv (truncDiv ((as * as - ad * ad) * 32768) (as * as + ad * ad)) 16)

/-- A conversion enters the running signal period; where it crosses a boundary of periods, `cross` says which one the old
period is left by and which one the new begins at. A period that is left by another boundary than it began at is complete,
and when it qualifies and `en`, ADAPT_EN at the sample, is 1 the corrections move (R153). -/
def State.scPeriod (s : State) (n : Nat) (en : Bool) (cross : Option (Int × Int)) (a b a1 b1 : Int) (bad : Bool) : State :=
  let d := (s.fbOf n).adapt
  let whole := match cross, d.edge with
    | some x, some e => decide (x.1 ≠ e)
    | _, _ => false
  let ok := whole && en && 16 ≤ d.n && !d.bad && decide (s.tb.ticks - d.t0 ≤ 250000000)
  let s := s.when ok fun s => s.scAdapt n d
  let d := match cross with
    | some x => { Adapt.reset with t0 := s.tb.ticks, edge := some x.2 }
    | none => d
  let d := { (d.add a b a1 b1) with bad := d.bad || bad }
  s.setFb n { s.fbOf n with adapt := d }

/-- The boundaries of a move from one signal period to another: boundary `k` lies below period `k`. -/
def crossing (old new : Int) : Option (Int × Int) :=
  if old < new then some (old + 1, new) else if new < old then some (old, new + 1) else none

/-- The squared amplitude window of R154, by the word SC_AMP: −1 below, 1 above, 0 inside. -/
def scWindow (amp : Word) (m : Int) : Int :=
  let nom : Int := (getBits amp 0 14) ^ 2
  if 100 * m < nom * getBits amp 14 8 then -1
  else if nom * getBits amp 22 8 < 100 * m then 1 else 0

/-- The comparator count reconciled with the angle's quadrant (R152): `none` when they are two quadrants apart. -/
def reconcile (cq : Int) (quad : Nat) : Option Int :=
  match ((quad : Int) - cq) % 4 with
  | 0 => some cq
  | 1 => some (cq + 1)
  | 3 => some (cq - 1)
  | _ => none

/-- The sample that the conversion which completes now was acquired for: the first whose 0.8 µs have passed (R150). -/
def State.convSample (s : State) (n : Nat) : Option FbSample :=
  if s.primary n == 0 then (s.fbOf n).samps.find? fun x => !x.have_ && decide (x.ready ≤ s.tb.ticks) else none

/-- The elapsed time of the acquisition of a conversion that completes now: the instant of its sample, else 0.8 µs ago. -/
def State.convTime (s : State) (n : Nat) : Nat :=
  match s.convSample n with
  | some x => x.e
  | none => s.tb.ticks * 262144 - 800 * 65536

/-- The value of a sample of the primary decoder has come: its velocity is the change since the sample before it (R162). -/
def State.giveSample (s : State) (n inst : Nat) (ok : Bool) (raw : Int) : State :=
  let f := s.fbOf n
  let give := fun (l : Option (Int × Nat)) (x : FbSample) =>
    if x.s == inst && !x.have_ then
      let v := match l with
        | some p => velBetween p.1 raw p.2 x.e
        | none => 0
      { x with have_ := true, ok := ok, raw := raw, v := if ok then v else 0 }
    else x
  let before := (f.samps.takeWhile fun x => x.s != inst).reverse.find? fun x => x.ok
  let last := match before, f.lastE with
    | some y, _ => some (y.raw, y.e)
    | none, some e => some (f.lastRaw, e)
    | none, none => none
  s.setFb n { f with samps := f.samps.map (give last) }

/-- A conversion's outcome reaches the sample that asked for it, and the serial check of the same sample (R159), where a
failing one gives its extrapolated position (R155). -/
def State.fillSample (s : State) (n : Nat) (ok : Bool) (raw : Int) : State :=
  match s.convSample n with
  | some x =>
    let s := s.giveSample n x.s ok raw
    let f := s.fbOf n
    match f.ssiRun with
    | some r =>
      if r.s == x.s then s.setFb n { f with ssiRun := some { r with inc := some (if ok then raw else f.extrapolate x.e) } } else s
    | none => s
  | none => s

/-- The settings that apply to the conversion which completes now: those in force when its pair was acquired (R143). -/
def State.convCfg (s : State) (n : Nat) : List Word :=
  match s.convSample n with
  | some x => x.cfg
  | none => scaleAt (s.convTime n) (s.fbCfgWords n) (s.fbOf n).cfgHist

/-- SINCOS_CONVERSION (R150 to R155): the raw pair, in ADC counts, and the quadrants the comparators have counted since
the previous conversion. A conversion without a reconciled angle crosses a boundary of periods where the comparators did. -/
def execSincosConversion (n : Fin 16) (a b quads : Int) (s : State) : Res :=
  if !s.fbEn n || s.incMode n != 2 then .next s
  else
    let t := s.convTime n
    let s := (s.pi (F.AX_FB_SC_ADC_A n) a).pi (F.AX_FB_SC_ADC_B n) b
    let cfg := s.convCfg n
    let x := scCorrect (cfg.getD 0 0) (cfg.getD 1 0) a b
    let w := scWindow (cfg.getD 2 0) (x.1 ^ 2 + x.2 ^ 2)
    let en := getBits (cfg.getD 2 0) 30 1 == 1
    let theta := atan16 x.2 x.1
    let f := s.fbOf n
    let cq := match f.cq with
      | some c => c + quads
      | none => theta / 16384
    let passed := match f.cq with
      | some c => crossing (floorDiv c 4) (floorDiv (c + quads) 4)
      | none => none
    if w ≠ 0 then
      let s := s.on (if w < 0 then F.AX_FB_STATUS_AMP_LOW n else F.AX_FB_STATUS_AMP_HIGH n)
      let s := s.setFb n { f with cq := f.cq.map (· + quads) }
      let s := s.scPeriod n en passed a b x.1 x.2 true
      let s := s.when (s.primary n == 0) fun s => s.fbFail n (cfg.getD 3 0)
      let s := s.fillSample n false 0
      .next (s.when (s.primary n == 0) fun s => s.bracket n t ((s.fbOf n).extrapolate t + f.inc.o) true)
    else
      match reconcile cq (theta / 16384) with
      | none =>
        let s := (s.setFb n { f with cq := some cq }).on (F.AX_FB_STATUS_SYNC_ERR n)
        let s := s.scPeriod n en passed a b x.1 x.2 false
        .next ((s.fillSample n false 0).incFault n)
      | some c =>
        let per := floorDiv c 4
        let abs := per * 65536 + theta
        let cross := match f.cq with
          | some c0 => crossing (floorDiv c0 4) per
          | none => none
        let moved := match f.scAbs with
          | some a0 => abs - a0
          | none => abs
        let s := s.setFb n { f with cq := some c, scAbs := some abs, inc := { f.inc with c := f.inc.c + s.fbSign n * moved } }
        let s := s.scPeriod n en cross a b x.1 x.2 false
        let raw := s.rawPos n 0
        let s := s.fillSample n true raw
        .next (s.when (s.primary n == 0) fun s => ((s.fbGood n).goodAt n raw t).bracket n t (raw + f.inc.o) false)

/-! ### SSI -/

/-- Bits [hi−1:lo] of a number. -/
def slice (x lo hi : Nat) : Nat := x / 2 ^ lo % 2 ^ (hi - lo)

/-- Gray code of `n` bits decoded: each bit is the parity of the bits at and above it. -/
def grayDecode : Nat → Nat → Nat
  | 0, _ => 0
  | n + 1, x => Nat.xor x (grayDecode n (x / 2))

/-- The MSB-first LFSR of R157 over the low `n` bits of `x`. -/
def ssiLfsr (len poly : Nat) (x : Nat) : Nat → Nat → Nat
  | 0, r => r
  | n + 1, r =>
    let fb := (r / 2 ^ (len - 1) + x / 2 ^ n) % 2
    let r := r * 2 % 2 ^ len
    ssiLfsr len poly x n (if fb == 1 then Nat.xor r (poly % 2 ^ len) else r)

/-- A serial frame parsed under AXn_FB_SSI_CFG (R156, R157): the decoded data, whether a status bit of ERR_MASK is set
and whether the CRC fits. -/
def State.ssiParse (s : State) (n frame : Nat) : Nat × Bool × Bool :=
  let data := s.g (F.AX_FB_SSI_CFG_DATA_BITS n)
  let stat := s.g (F.AX_FB_SSI_CFG_STATUS_BITS n)
  let len := s.g (F.AX_FB_SSI_CFG_CRC_LEN n)
  let raw := slice frame (len + stat) (len + stat + data)
  let sbits := slice frame len (len + stat)
  let err := (List.range stat).any fun i =>
    testBit sbits (stat - 1 - i) && testBit (s.g (F.AX_FB_SSI_CFG_ERR_MASK n)) i
  let r := ssiLfsr len (s.g (F.AX_FB_SSI_CRC_POLY n)) (slice frame len (len + stat + data)) (data + stat)
    (s.g (F.AX_FB_SSI_CRC_INIT n) % 2 ^ len)
  let r := if s.is (F.AX_FB_SSI_CRC_CRC_INV n) then 2 ^ len - 1 - r else r
  (if s.is (F.AX_FB_SSI_CFG_GRAY n) then grayDecode data raw else raw, err, len == 0 || r == slice frame 0 len)

/-- A serial failure (R158): primary failures count under R155, the others only mark the result invalid. -/
def State.ssiFailure (s : State) (n : Nat) (r : SsiRun) : State :=
  let s := (s.on (F.AX_FB_STATUS_SSI_FAIL n)).count (F.AX_FB_COUNT_SSI_FAIL n) 1
  let s := s.setFb n { s.fbOf n with ssiPos := none }
  if s.primary n == 1 then (s.giveSample n r.s false 0).fbFail n r.fail
  else s.when (s.g (F.AX_FB_CFG_SEC_SRC n) == 1) fun s => s.secondLost n

/-- The count after a valid frame (R157): the first one sets it, each later one moves it by the signed difference.
[DEDUCED, unsafe, log 44] -/
def State.ssiCount (s : State) (n d : Nat) : Int :=
  let f := s.fbOf n
  let bits := s.g (F.AX_FB_SSI_CFG_DATA_BITS n)
  let st := s.g (F.AX_FB_SSI_CFG_ST_BITS n)
  match f.ssiPrev with
  | some p => f.ssi.c + s.fbSign n * signed bits (unsigned bits ((d : Int) - p))
  | none =>
    let mt := bits - st
    let turns : Int := if mt == 0 then 0 else signed mt (d / 2 ^ st)
    s.fbSign n * (turns * 2 ^ st + (d % 2 ^ st : Nat))

/-- The check of the serial against the incremental position of the same sample (R159): the first valid frame aligns the
incremental decoder, and the frame of every EVERY-th sample is compared. -/
def State.ssiCheck (s : State) (n : Nat) (first : Bool) (r : SsiRun) (pos : Int) : State :=
  let f := s.fbOf n
  if s.primary n != 0 || s.incMode n == 0 || s.g (F.AX_FB_CFG_SEC_SRC n) == 1 then s
  else match r.inc with
    | none => s
    | some i =>
      if first then
        let s := s.setFb n (f.loadTo 0 (pos - i) i r.e)
        s.setFb n { s.fbOf n with inc := { (s.fbOf n).inc with a := pos - i } }
      else match r.check with
        | some tol => if tol * 65536 < absN (pos - (i + r.o)) then (s.on (F.AX_FB_STATUS_CHECK_ERR n)).fbLost n else s
        | none => s

/-- SSI_TRANSFER_DONE (R156 to R159): at the end of the frame's time, the frame's bits, the last received least significant,
and the level of the data line at the first falling edge. -/
def execSsiTransferDone (n : Fin 16) (startHigh : Bool) (frame : Nat) (s : State) : Res :=
  let f := s.fbOf n
  match f.ssiRun with
  | none => .next s
  | some r =>
    if s.tb.ticks < r.done || !s.is (F.AX_FB_CFG_SSI_EN n) then .next s
    else
      let s := s.setFb n { f with ssiRun := none, ssiIdle := some (s.tb.ticks + r.tm * 250) }
      let x := s.ssiParse n frame
      if !startHigh || x.2.1 || !x.2.2 then .next (s.ssiFailure n r)
      else
        let first := f.ssiPrev.isNone
        let c := s.ssiCount n x.1
        let s := s.setFb n { s.fbOf n with ssi := { f.ssi with c := c }, ssiPrev := some x.1 }
        let s := (s.wr (R.AX_FB_SSI_RAW_LO n) (BitVec.ofNat 32 x.1)).wr (R.AX_FB_SSI_RAW_HI n)
          (BitVec.ofNat 32 (x.1 / 2 ^ 32))
        let raw := s.rawPos n 1
        let pos := raw + f.ssi.o
        let s := s.setFb n { s.fbOf n with ssiPos := some pos }
        let s := s.ssiCheck n first r pos
        let s := s.when (s.g (F.AX_FB_CFG_SEC_SRC n) == 1) fun s =>
          (s.wr64 (R.AX_FB_POS2_LO n) (R.AX_FB_POS2_HI n) pos).on (F.AX_FB_STATUS_POS2_VALID n)
        .next (s.when (s.primary n == 1) fun s =>
          ((s.giveSample n r.s true raw).fbGood n).goodAt n raw r.e)

/-- SSI_IDLE_END (R156): TM has passed since the last bit and the next transfer may start. -/
def execSsiIdleEnd (n : Fin 16) (s : State) : Res :=
  match (s.fbOf n).ssiIdle with
  | some t =>
    if t ≤ s.tb.ticks then .next (s.setFb n { s.fbOf n with ssiIdle := none }) else .next s
  | none => .next s

/-! ### Hall -/

/-- The sector of a Hall state (R160). -/
def hallSector : Nat → Option Nat
  | 1 => some 0
  | 3 => some 1
  | 2 => some 2
  | 6 => some 3
  | 4 => some 4
  | 5 => some 5
  | _ => none

/-- The sector after SHIFT and INV (R160). -/
def State.sectorOf (s : State) (n st : Nat) : Option Nat :=
  (hallSector st).map fun x =>
    let y := (x + s.g (F.AX_FB_HALL_CFG_SHIFT n)) % 6
    if s.is (F.AX_FB_HALL_CFG_INV n) then (6 - y) % 6 else y

/-- The next Hall commutation event: one tick after the last (R160). -/
def State.takeComm (s : State) (n : Nat) : State :=
  let f := s.fbOf n
  match f.comm with
  | [] => s
  | d :: l =>
    if s.tb.ticks < f.commTick then s
    else (s.setFb n { f with comm := l, commTick := s.tb.ticks + 1 }).commEvent n 1 d

/-- The Hall commutation events due in this tick. -/
def State.hallDue (s : State) : State := s.each (List.range 16) fun n s => s.takeComm n

/-- Hall commutation events: the first at once unless others still wait, the second one tick later (R160). -/
def State.issueComm (s : State) (n : Nat) (down : Bool) (k : Nat) : State :=
  let f := s.fbOf n
  if f.comm.isEmpty
  then (s.setFb n { f with comm := List.replicate (k - 1) down, commTick := s.tb.ticks + 1 }).commEvent n 1 down
  else s.setFb n { f with comm := f.comm ++ List.replicate k down }

/-- The Hall count moves by `k` sectors in a direction, with one commutation event for each (R160). -/
def State.hallMove (s : State) (n : Nat) (down : Bool) (k : Nat) : State :=
  let f := s.fbOf n
  let d : Int := if down then -s.fbSign n else s.fbSign n
  let c := f.hall.c + d * k
  let s := s.when (s.primary n == 2) fun s => s.notePos n (s.posNow n)
  let s := (s.setFb n { f with hall := { f.hall with c := c }, hallE := f.hallE.edge s.tickNs c d }).showHold n
  s.issueComm n down k

/-- HALL_TRANSITION (R160, R104): the filtered Hall state changes. -/
def execHallTransition (n : Fin 16) (st : Fin 8) (s : State) : Res :=
  if !s.fbEn n || !s.is (F.AX_FB_CFG_HALL_EN n) then .next s
  else
    let s := (s.p (F.AX_FB_STATUS_HALL_STATE n) st).pwmHall n st
    match s.sectorOf n st with
    | none => .next s
    | some y =>
      let f := s.fbOf n
      let s := s.setFb n { f with sector := some y }
      match f.sector with
      | none => .next s
      | some x =>
        match (y + 6 - x) % 6 with
        | 0 => .next s
        | 1 => .next (s.hallMove n false 1)
        | 5 => .next (s.hallMove n true 1)
        | 2 => .next (((s.hallMove n false 2).on (F.AX_FB_STATUS_HALL_SKIP n)).raiseSt (evAxis n + 18) (R.AX_FB_STATUS n))
        | 4 => .next (((s.hallMove n true 2).on (F.AX_FB_STATUS_HALL_SKIP n)).raiseSt (evAxis n + 18) (R.AX_FB_STATUS n))
        | _ =>
          let s := s.on (F.AX_FB_STATUS_HALL_AMBIG n)
          .next (if s.primary n == 2 then s.fbLost n else s)

/-! ### Commands and configuration -/

/-- A write of AXn_FB_CMD (R148, R164). A lent channel, whose unit cannot be enabled, resumes with FAULT_CLR.
[DEDUCED, unsafe, log 46 and 153] -/
def wrFbCmd (n : Nat) (v : Word) (s : State) : State :=
  let s := s.when (getBits v 0 1 == 1) fun s =>
    s.setFb n { s.fbOf n with loadP := some (s.rd64 (R.AX_FB_LOAD_LO n) (R.AX_FB_LOAD_HI n)) }
  let s := s.when (getBits v 1 1 == 1) fun s =>
    (s.off (F.AX_FB_STATUS_FAULT n)).when (s.is (F.AX_FB_STATUS_LENT n)) fun s => s.fbResume n
  s.when (getBits v 2 1 == 1) fun s => s.setFb n { s.fbOf n with zArm := true }

/-- FB_LOAD (R148). -/
def execFbLoad (rq : Rq) (n : Fin 16) (s : State) : Res := .next (s.write rq (R.AX_FB_CMD n) (wrFbCmd n 1))

/-- FB_FAULT_CLR (R164). -/
def execFbFaultClr (rq : Rq) (n : Fin 16) (s : State) : Res := .next (s.write rq (R.AX_FB_CMD n) (wrFbCmd n 2))

/-- Z_ARM (R148). -/
def execZArm (rq : Rq) (n : Fin 16) (s : State) : Res := .next (s.write rq (R.AX_FB_CMD n) (wrFbCmd n 4))

/-- A write of SOFT_MIN_HI or SOFT_MAX_HI (R146): both words apply, or the write is refused. -/
def wrSoftHi (n : Nat) (mx : Bool) (v : Word) (s : State) : State :=
  let f := s.fbOf n
  let lo := s.rd (if mx then R.AX_FB_SOFT_MAX_LO n else R.AX_FB_SOFT_MIN_LO n)
  let x := signed 64 (lo.toNat + 2 ^ 32 * v.toNat)
  let lo' := if mx then f.softMin else x
  let hi' := if mx then x else f.softMax
  if hi' ≤ lo' then s.on (F.AX_FB_STATUS_CFG_REFUSED n)
  else (s.setFb n { f with softMin := lo', softMax := hi' }).wr
    (if mx then R.AX_FB_SOFT_MAX_HI n else R.AX_FB_SOFT_MIN_HI n) v

/-- SOFT_LIMIT_WRITE (R146). -/
def execSoftLimitWrite (rq : Rq) (n : Fin 16) (mx : Bool) (v : Word) (s : State) : Res :=
  .next (s.write rq (if mx then R.AX_FB_SOFT_MAX_HI n else R.AX_FB_SOFT_MIN_HI n) (wrSoftHi n mx v))

/-- The registers that a read of AXn_FB_STAMP copies (R166). -/
def fbSnapRegs (n : Nat) : List Nat :=
  [R.AX_FB_POS_LO n, R.AX_FB_POS_HI n, R.AX_FB_VEL n, R.AX_FB_POS2_LO n, R.AX_FB_POS2_HI n]

/-- FB_STAMP_READ (R166). -/
def execFbStampRead (rq : Rq) (n : Fin 16) (s : State) : Res :=
  .next (s.stampRead rq (R.AX_FB_STAMP n) (fbSnapRegs n))

/-- Does R142, R165 or R599 refuse a value of AXn_FB_CFG? -/
def State.fbCfgBad (s : State) (n : Nat) (v : Word) : Bool :=
  let inc := getBits v 1 2
  let pr := getBits v 5 2
  let src := getBits v 18 2
  let ch := getBits v 20 4
  inc == 3 || pr == 3 || getBits v 16 2 == 3 || src == 3 ||
    (pr == 0 && inc == 0) || (pr == 1 && getBits v 3 1 == 0) || (pr == 2 && getBits v 4 1 == 0) ||
    (inc == 2 && 65535 < s.g (F.AX_FB_LINES_LINES n)) ||
    (src == 2 && (s.pwmState ch != 0 || s.is (F.AX_FB_STATUS_LENT ch) ||
      decide (s.holder (.axis ch) ≠ s.holder (.axis n))))

/-- A decoder starts anew (R145). [DEDUCED, unsafe, log 154] -/
def FbSt.restart (f : FbSt) (d : Nat) : FbSt :=
  match d with
  | 0 => { f with inc := ⟨0, 0, 0⟩, abzE := EdgeT.reset, cq := none, scAbs := none, adapt := Adapt.reset }
  | 1 => { f with ssi := ⟨0, 0, 0⟩, ssiRun := none, ssiIdle := none, ssiPrev := none, ssiCnt := 0, ssiPos := none }
  | _ => { f with hall := ⟨0, 0, 0⟩, hallE := EdgeT.reset, sector := none, comm := [] }

/-- What a channel forgets of its samples when a decoder starts anew: the samples under way, the last one and the last good
one, and the failures in a row. -/
def FbSt.forget (f : FbSt) (now : Nat) : FbSt :=
  { f with samps := [], lastE := none, lastRaw := 0, vf := 0, vg := 0, goodRaw := 0, goodE := now, fails := 0, conf := false,
           riding := false, conv := none, zOld := none }

/-- A write of AXn_FB_CFG (R142, R143, R145, R165). Where VALID clears, the observer sees its next rise (R211).
[DEDUCED, unsafe, log 154] -/
def wrFbCfg (n : Nat) (v : Word) (s : State) : State :=
  if s.pwmState n != 0 || s.fbCfgBad n v then s.on (F.AX_FB_STATUS_CFG_REFUSED n)
  else
    let old := s.rd (R.AX_FB_CFG n)
    let enabled := getBits v 0 1 == 1 && getBits old 0 1 == 0
    let diff := fun lo w => getBits v lo w != getBits old lo w
    let f := s.fbOf n
    let f := if enabled || diff 1 2 then f.restart 0 else f
    let f := if enabled || diff 3 1 then f.restart 1 else f
    let f := if enabled || diff 4 1 then f.restart 2 else f
    let anew := enabled || diff 1 2 || diff 3 1 || diff 4 1
    let f := if anew || diff 0 1 then f.forget (s.tb.ticks * 262144) else f
    let own := match getBits v 5 2 with
      | 0 => diff 1 2
      | 1 => diff 3 1
      | _ => diff 4 1
    let f := if enabled || diff 5 2 || own then { f with wrapRef := [] } else f
    let s := s.setFb n f
    let s := if getBits old 18 2 == 2 then s.off (F.AX_FB_STATUS_LENT (getBits old 20 4)) else s
    let s := s.when (diff 18 2 || diff 20 4) fun s => s.off (F.AX_FB_STATUS_POS2_VALID n)
    let s := s.wr (R.AX_FB_CFG n) (v &&& 0x00FF7FFF)
    let s := if getBits v 18 2 == 2 then s.on (F.AX_FB_STATUS_LENT (getBits v 20 4)) else s
    s.when anew fun s => (((s.off (F.AX_FB_STATUS_VALID n)).off (F.AX_FB_STATUS_EXTRAP n)).setSup n
      { s.supOf n with posOk := false })

/-- FB_CFG_WRITE (R142). -/
def execFbCfgWrite (rq : Rq) (n : Fin 16) (v : Word) (s : State) : Res :=
  .next (s.write rq (R.AX_FB_CFG n) (wrFbCfg n v))

/-- A write of a register that R143 freezes while the axis's unit is ARMED or RUNNING; `ok` says that R157 and R599
accept its value. -/
def wrFbFrozen (n a : Nat) (v : Word) (ok : Bool) (s : State) : State :=
  if s.pwmState n != 0 || !ok then s.on (F.AX_FB_STATUS_CFG_REFUSED n) else s.wr a v

/-- The serial formats that R157 and the register description accept. [DEDUCED, unsafe, log 45] -/
def ssiCfgOk (v : Word) : Bool :=
  let data := getBits v 0 6
  let st := getBits v 6 6
  8 ≤ data && data ≤ 48 && 1 ≤ st && st ≤ 32 && st ≤ data && data - st ≤ 32 && getBits v 15 3 ≤ 4 && getBits v 18 4 ≤ 8

/-- Writes of AXn_FB_LINES, _SSI_CFG, _SSI_CRC and _HALL_CFG (R143). -/
def wrFbLines (n : Nat) (v : Word) (s : State) : State :=
  wrFbFrozen n (R.AX_FB_LINES n) (v &&& 0x3FFFFFFF)
    (decide (getBits v 0 30 ≤ if s.incMode n == 2 then 65535 else 2 ^ 28)) s
def wrFbSsiCfg (n : Nat) (v : Word) (s : State) : State :=
  wrFbFrozen n (R.AX_FB_SSI_CFG n) (v &&& 0x0F7FFFFF) (ssiCfgOk v) s
def wrFbSsiCrc (n : Nat) (v : Word) (s : State) : State :=
  wrFbFrozen n (R.AX_FB_SSI_CRC n) (v &&& 0x0001FFFF) true s
def wrFbHallCfg (n : Nat) (v : Word) (s : State) : State :=
  wrFbFrozen n (R.AX_FB_HALL_CFG n) (v &&& 0x0000FFFF) (decide (getBits v 0 3 ≤ 5)) s

/-- PROBE_POP (R169): the head entry is removed. -/
def wrPrbPop (k : Nat) (v : Word) (s : State) : State :=
  if getBits v 0 1 == 1 then s.setPrb k { s.prbOf k with fifo := (s.prbOf k).fifo.drop 1 } else s

/-- PROBE_POP (R169). -/
def execProbePop (rq : Rq) (k : Fin 8) (s : State) : Res := .next (s.write rq (R.GLB_PRB_POP k) (wrPrbPop k 1))

/-- A write of GLB_PRBk_CFG (R170, R599): refused when it binds the probe to a channel of another owner. -/
def wrPrbCfg (k : Nat) (v : Word) (s : State) : State :=
  let aux := getBits v 13 1 == 1
  let ch := getBits v 14 5
  let bound := if aux then Obj.aux ch else Obj.axis (getBits v 4 4)
  if getBits v 2 2 == 3 || 24 ≤ ch || decide (s.holder bound ≠ s.holder (.probe k))
  then s.on (F.GLB_PRB_STATUS_CFG_REFUSED k)
  else s.wr (R.GLB_PRB_CFG k) (v &&& 0x0007FFFF)

/-- PROBE_CFG_WRITE (R170). -/
def execProbeCfgWrite (rq : Rq) (k : Fin 8) (v : Word) (s : State) : Res :=
  .next (s.write rq (R.GLB_PRB_CFG k) (wrPrbCfg k v))

end Sys2Proof.Machine
end

