-- ==== Sys2Proof/Machine/Engine.lean ====
section
/-! DEFINITION. The Aster control engines: landing of results (R196 to R198), base periods (R171 to R174), slot tables and
their commit checks (R176 to R182), slot-timing faults (R180), staged and held writes (R178, R185), running and stopping
(R183, R184) and background code across slots (R187, R188, R205, R206). -/

namespace Sys2Proof.Machine

/-! ### Results land -/

/-- Do two results reach one register (R198)? -/
def EReg.clash : EReg → EReg → Bool
  | .acc i, .accLow j => i == j
  | .accLow i, .acc j => i == j
  | .acc _, .guards => true
  | .guards, .acc _ => true
  | x, y => decide (x = y)

/-- A register of the core takes a value. -/
def AeCore.put (c : AeCore) (r : EReg) (v : Nat) : AeCore :=
  match r with
  | .d 0 i => { c with d0 := listSet c.d0 i (v % 2 ^ 32) }
  | .d _ i => { c with d1 := listSet c.d1 i (v % 2 ^ 32) }
  | .acc i => { c with a := listSet c.a i (v % 2 ^ 72) }
  | .accLow i => { c with a := listSet c.a i (c.a.getD i 0 / 2 ^ 64 * 2 ^ 64 + v % 2 ^ 64) }
  | .guards => { c with a := [c.a.getD 0 0 % 2 ^ 64 + v % 2 ^ 8 * 2 ^ 64, c.a.getD 1 0 % 2 ^ 64 + v / 2 ^ 32 % 2 ^ 8 * 2 ^ 64] }
  | .p i => { c with p := listSet c.p i (v % 2 ^ 32) }
  | .m i => { c with m := listSet c.m i (v % 2 ^ 32) }
  | .lc i => { c with lc := listSet c.lc i (v % 2 ^ 13) }
  | .la i => { c with la := listSet c.la i (v % 2 ^ 32) }

/-- The bits of `x` that `mask` names, with those of `y` elsewhere. -/
def mergeBits (mask x y : Nat) : Nat := Nat.lor (Nat.land mask x) (y - Nat.land mask y)

/-- One result lands; the registers written in this cycle and the sticky flags are gathered. -/
def landOne (st : AeCore × List EReg × Nat) (f : Flight) : AeCore × List EReg × Nat :=
  let hit := f.writes.any fun w => st.2.1.any fun r => r.clash w.1
  let c := f.writes.foldl (fun c w => c.put w.1 w.2) st.1
  ({ c with status := mergeBits f.mask f.flags c.status }, st.2.1 ++ f.writes.map (·.1),
    Nat.lor st.2.2 (Nat.lor f.sticky (if hit then 2 ^ 7 else 0)))

/-- A flight placed in a list by its issue order. -/
def insFlight (f : Flight) : List Flight → List Flight
  | [] => [f]
  | g :: t => if f.ord < g.ord then f :: g :: t else g :: insFlight f t

/-- The results that land at the core's cycle: the later-issued last, and the X slot last within a bundle (R198, R603). -/
def AeCore.land (c : AeCore) : AeCore :=
  let due := (c.flights.filter fun f => decide (f.land ≤ c.cyc)).foldl (fun l f => insFlight f l) []
  let r := due.foldl landOne (c, [], 0)
  { r.1 with status := Nat.lor r.1.status r.2.2, flights := c.flights.filter fun f => decide (c.cyc < f.land) }

/-- One engine cycle; the saved status is taken three cycles after the yield (R205). -/
def AeSt.tick (e : AeSt) : AeSt :=
  let c := { e.core with cyc := e.core.cyc + 1 }.land
  let e := { e with core := c }
  if e.statusAt = some c.cyc then { e with saveStatus := c.status, statusAt := none } else e

/-- `n` engine cycles. -/
def AeSt.ticks : Nat → AeSt → AeSt
  | 0, e => e
  | n + 1, e => AeSt.ticks n e.tick

/-- The engine idles up to a cycle: every result in flight lands within 6 cycles (R196). -/
def AeSt.idleTo (e : AeSt) (t : Nat) : AeSt :=
  let e := e.ticks (min 8 (t - e.core.cyc))
  { e with core := { e.core with cyc := max e.core.cyc t } }

/-! ### What holds the engine -/

/-- The engine changes hands; BG_ACTIVE says whether background code holds it. -/
def State.aeMode (s : State) (n : Nat) (m : AeMode) : State :=
  (s.setAe n { s.aeOf n with mode := m }).pb (F.AE_STATUS_BG_ACTIVE n)
    (decide (m = .bg) || decide (m = .save) || decide (m = .restore))

/-- The program counter is set, with no branch under way. -/
def AeSt.jump (e : AeSt) (pc : Nat) : AeSt :=
  { e with core := { e.core with pc := pc % 8192, delay := none, xDone := false } }

/-- Background code starts at BG_ENTRY (R187). [DEDUCED, unsafe, log 60] -/
def State.bgEntry (s : State) (n : Nat) : State :=
  (s.setAe n { (s.aeOf n).jump (s.g (F.AE_BG_VEC_ENTRY n)) with fresh := false, yieldDue := false }).aeMode n .bg

/-- Background code may run: RUN and BG_EN are 1 (R187). -/
def State.bgAllowed (s : State) (n : Nat) : Bool := s.is (F.AE_CTL_RUN n) && s.is (F.AE_CTL_BG_EN n)

/-- The yield (R187, R205): PC and status are saved and the SAVE vector's first bundle issues one cycle later. -/
def State.yieldNow (s : State) (n : Nat) : State :=
  let e := s.aeOf n
  let pc := e.core.pc
  let e := { (e.jump (s.g (F.AE_BG_VEC_SAVE n))) with savePc := pc, statusAt := some (e.core.cyc + 3), yieldDue := false }
  ((s.setAe n e.tick).p (F.AE_BG_STAT_PC n) pc).aeMode n .save

/-- Background code stops (R194): BG_EN is cleared and it next starts from BG_ENTRY. -/
def State.bgStop (s : State) (n : Nat) : State :=
  let s := s.off (F.AE_CTL_BG_EN n)
  let e := s.aeOf n
  let s := s.setAe n { e with fresh := true, yieldDue := false, statusAt := none, core := { e.core with delay := none } }
  s.aeMode n .idle

/-- The save routine has not completed at a slot start (R187): it is stopped and background code will restart.
[DEDUCED, unsafe, log 60] -/
def State.saveLate (s : State) (n : Nat) : State :=
  let s := (s.on (F.AE_STATUS_BG_SAVE_LATE n)).count (F.AE_BG_STAT_RESTARTS n) 1
  let s := s.setAe n { s.aeOf n with fresh := true, yieldDue := false }
  s.aeMode n .yielded

/-! ### Faults -/

/-- A cluster fault of axis pair `n` in its means of control (R20): both axes run the off stop. [DEDUCED, unsafe, log 61] -/
def State.pairFault (s : State) (n : Nat) : State :=
  let s := s.p F.GLB_REGION_STATE_CLUSTER_FAULT_SEEN (setBit (s.g F.GLB_REGION_STATE_CLUSTER_FAULT_SEEN) regMotion true)
  let s := s.raiseSt (evAxis (2 * n) + 15) (R.AE_STATUS n)
  s.each [2 * n, 2 * n + 1] fun k s => s.levelStop 1 k fun s => s.offStop k

/-- A cell of an axis pair has not confirmed its safe state (R26): the cluster takes the fault, and both axes run their
configured stops (R19); the engine is sound. -/
def State.pairEscalate (s : State) (n : Nat) : State :=
  let s := s.p F.GLB_REGION_STATE_CLUSTER_FAULT_SEEN (setBit (s.g F.GLB_REGION_STATE_CLUSTER_FAULT_SEEN) regMotion true)
  let s := s.raiseSt (evAxis (2 * n) + 15) (R.AE_STATUS n)
  s.each [2 * n, 2 * n + 1] fun k s => s.levelStop 1 k fun s => s.configuredStop k

/-- The axis whose page, block and compare window a slot's program gets (R193). -/
def SlotF.home (f : SlotF) (n : Nat) : Nat := if f.axis == 1 then 2 * n + 1 else 2 * n

/-- The reaction to an overrun of a slot (*Slot-timing faults*, R34). -/
def State.overrunFx (s : State) (n : Nat) (f : SlotF) : State :=
  let s := (s.on (F.AE_STATUS_OVERRUN n)).p (F.AE_STATUS_FAULT_SLOT n) f.k
  let s := s.count (F.AE_SLOT_STAT_OVERRUNS n f.k) 1
  match f.axes n with
  | [] => (s.raiseSt (evAxis (2 * n) + 12) (R.AE_STATUS n)).pairFault n
  | l => (s.setAe n { s.aeOf n with overran := l ++ (s.aeOf n).overran }).each l fun a s =>
    ((s.raiseSt (evAxis a + 12) (R.AE_STATUS n)).trip a 9).axisFault a

/-- The running slot overruns: its program stops and its staged writes are discarded (R180, R194). -/
def State.slotOverrun (s : State) (n : Nat) : State :=
  let e := s.aeOf n
  let s := s.setAe n { e with cmp := [], stage := [], lib := none, core := { e.core with delay := none, xDone := false } }
  (s.aeMode n .done).overrunFx n e.slot

/-- An illegal bundle at the engine's cycle (R194): nothing of the bundle takes effect. -/
def State.illegal (s : State) (n : Nat) : State :=
  let e := s.aeOf n
  let s := s.setAe n { e with core := { e.core with
    xDone := false, flights := e.core.flights.filter fun f => decide (f.ord < 2 * e.core.cyc) } }
  match e.mode with
  | .slot => s.slotOverrun n
  | .bg => (s.bgStop n).raiseSt (evAxis (2 * n) + 16) (R.AE_STATUS n)
  | .save => (s.bgStop n).raiseSt (evAxis (2 * n) + 16) (R.AE_STATUS n)
  | .restore => (s.bgStop n).raiseSt (evAxis (2 * n) + 16) (R.AE_STATUS n)
  | _ => s

/-! ### Staged and held writes -/

/-- The compare shadow of an axis's phase. -/
def cmpField (a x : Nat) : Fld :=
  match x with
  | 0 => F.AX_PWM_CMPA_CMP a
  | 1 => F.AX_PWM_CMPB_CMP a
  | _ => F.AX_PWM_CMPC_CMP a

/-- The held bursts are applied, in the order of their arrival (R185). [DEDUCED, unsafe, log 53] -/
def State.applyBursts (s : State) (n : Nat) : State :=
  let b := (s.aeOf n).bursts
  let s := s.setAe n { s.aeOf n with bursts := [] }
  s.each b fun l s => s.each l fun w s => s.blockWord (w.1 / 0x4000) (w.1 % 0x4000) w.2

/-- A release of a compare shadow is a write of its tick (R93), and wins over a host write of the same tick (R178). -/
def State.releaseCmp (s : State) (n x : Nat) : State :=
  let s := s.noteShadow n
  s.setPwm n { s.pwmOf n with rel := listSet (s.pwmOf n).rel x (some s.tb.ticks) }

/-- END releases the staged writes together (R178); held bursts follow (R185). [DEDUCED, unsafe, log 53] -/
def State.release (s : State) (n : Nat) : State :=
  let e := s.aeOf n
  let s := s.setAe n { e with cmp := [], stage := [] }
  let s := s.each e.cmp fun w s => (s.releaseCmp w.1 w.2.1).p (cmpField w.1 w.2.1) w.2.2
  let s := s.each e.stage fun w s => s.wr (axisWord 0 w.1) w.2
  s.applyBursts n

/-- The slot's program has executed END `used` cycles after START (R178, R179). -/
def State.slotEnd (s : State) (n used : Nat) : State :=
  let k := (s.aeOf n).slot.k
  let s := s.p (F.AE_SLOT_STAT_MAX_USED n k) (max (s.g (F.AE_SLOT_STAT_MAX_USED n k)) (min used 65535))
  let s := s.release n
  (s.setAe n { s.aeOf n with lib := none }).aeMode n .done

/-! ### Base periods -/

/-- `a` ÷ `b` rounded up. -/
def ceilDiv (a b : Nat) : Nat := (a + b - 1) / b

/-- The divider counts, and a T_loop that differs from the table's is flagged (R174, R180). [DEDUCED, unsafe, log 62] -/
def State.basePeriod (s : State) (n : Nat) (e : AeSt) (t : Nat) : State :=
  let bad := match e.table with
    | some tb => tb.tLoop != t
    | none => false
  let s := s.setAe n { e with periodBad := bad }
  let s := s.p (F.AE_PERIOD_CNT_COUNT n) ((s.g (F.AE_PERIOD_CNT_COUNT n) + 1) % 720720)
  s.when bad fun s => s.on (F.AE_STATUS_PERIOD_MISMATCH n)

/-- The engine cycles that have begun by the end of the running tick: 3.2 of 1.25 ns to a tick. -/
def State.cycNow (s : State) : Nat := (s.tb.ticks + 1) * 262144 / 81920

/-- The time of the next base-period start when unit `a` gives the update points, when it falls in this tick at the latest
(R171, R172): an update point, shifted back by AEn_PHASE for the unit that is not the reference one, plus AEn_BASE_OFS. One
start lies a whole T_loop after the one before it; before the first update point of the unit there is none.
[DEDUCED, unsafe, log 158] -/
def State.baseDue (s : State) (n a : Nat) : Option Nat :=
  let e := s.aeOf n
  let shift : Int := if a == s.refAxis n then 0 else s.g (F.AE_PHASE_OFS n)
  let u : Int := (s.pwmOf a).lastUpdate + (s.g (F.AE_BASE_OFS_OFS n) - shift) * 16384
  let t : Int := (s.pwmOf a).loopT * 16384
  let last : Int := (e.baseT + e.baseLen / 2 : Nat)
  let x := if !s.is (F.AE_STATUS_RUNNING n) || last < u then u else u + t * (floorDiv (last - u) t + 1)
  if (s.pwmOf a).updated && x < (s.now + s.tickStep : Nat) then some x.toNat else none

/-- BASE_PERIOD_START (R171, R172, R174, R182): the reference unit's update point plus AEn_BASE_OFS has come.
[DEDUCED, unsafe, log 63 and 158] -/
def execBasePeriodStart (n : Fin 8) (s : State) : Res :=
  let r := s.refAxis n
  let o := 4 * n.val + 1 - r
  let counting := s.is (F.AE_STATUS_RUNNING n)
  let use := if s.running r then some r else if counting && s.running o then some o else none
  match use.bind fun a => (s.baseDue n a).map fun x => (a, x) with
  | none => .next s
  | some (a, x) =>
    let t := (s.pwmOf a).loopT
    let e := s.aeOf n
    let e := { e with
      base := max e.core.cyc (ceilDiv (s.elapsedAt x) 81920), used := 0, ran := [], baseT := x, baseLen := t * 16384 }
    let s := (s.on (F.AE_STATUS_RUNNING n)).p (F.AE_STATUS_REF_USED n) (a % 2)
    match e.pending with
    | some p =>
      if p.tLoop == t then
        let s := s.setAe n { e with table := some p, pending := none, periodBad := false }
        let s := (s.wr (R.AE_COMMIT_STATUS n) 2).p (F.AE_PERIOD_CNT_COUNT n) 0
        .next ((s.p (F.AE_TABLE_INFO_T_LOOP n) t).p (F.AE_NBASE_CYCLES n) p.nBase)
      else .next (s.basePeriod n e t)
    | none => .next (s.basePeriod n e t)

/-! ### Commit -/

/-- T_loop in units of 250 ps from the most recently written PERIOD and configuration (*Commit checks*, reason 6). -/
def State.tWritten (s : State) (a : Nat) : Nat :=
  let p := s.g (F.AX_PWM_PERIOD_PERIOD a)
  if s.cntMode a == 0 && s.g (F.AX_PWM_CFG_LOAD a) != 2 then 2 * p else p

/-- A slot as its registers hold it. -/
def State.slotRegs (s : State) (n k : Nat) : SlotF :=
  ⟨k, s.g (F.AE_SLOT_TIME_START n k), s.g (F.AE_SLOT_CTL_LEN n k), s.g (F.AE_SLOT_CTL_AXIS n k),
   s.is (F.AE_SLOT_CTL_APPLY n k), s.g (F.AE_SLOT_CTL_DIV n k) + 1, s.g (F.AE_SLOT_CTL_PHASE n k),
   s.g (F.AE_SLOT_CTL_INPUTS n k), s.g (F.AE_SLOT_ENTRY_ENTRY n k)⟩

/-- The ready time of the primary decoder in ns (*Feedback ready times*). -/
def State.posReady (s : State) (a : Nat) : Nat :=
  match s.g (F.AX_FB_CFG_PRIMARY a) with
  | 0 => if s.g (F.AX_FB_CFG_INC_MODE a) == 2 then 800 else 40
  | 1 =>
    let bits := s.g (F.AX_FB_SSI_CFG_START_BITS a) + s.g (F.AX_FB_SSI_CFG_DATA_BITS a) +
      s.g (F.AX_FB_SSI_CFG_STATUS_BITS a) + s.g (F.AX_FB_SSI_CFG_CRC_LEN a)
    (bits + 1) * s.g (F.AX_FB_SSI_CLK_DIV a) * 4 + s.g (F.AX_FB_SSI_CLK_CABLE_DLY a) * 4 + 80
  | _ => 40

/-- r of *Commit checks* for one axis: the latest ready time of the inputs plus t_gmin, in engine cycles, rounded up. -/
def State.readyOf (s : State) (inputs a : Nat) : Nat :=
  let cur := ceilDiv (((3 * s.g (F.AX_CS_CFG_OSR a) + 1) * s.sdPeriod (a / 4) + 120) * 2) 5
  let pos := ceilDiv ((s.posReady a + 60) * 4) 5
  let set := ceilDiv ((1600 + 60) * 4) 5
  max (max (if testBit inputs 0 then cur else 48) (if testBit inputs 1 then pos else 48))
    (if testBit inputs 2 then set else 48)

/-- r for a slot: the latest of its bound axes. -/
def State.ready (s : State) (n : Nat) (f : SlotF) : Nat :=
  (f.axes n).foldl (fun r a => max r (s.readyOf f.inputs a)) 48

/-- The sample instants of an axis within the base period, in units of 125 ps after its start and modulo 2 × T_loop of
the reference. -/
def State.sampleAt (s : State) (n a t : Nat) : Int :=
  let ph : Int := if a == s.refAxis n then 0 else s.g (F.AE_PHASE_OFS n)
  ((t : Int) + 2 * (ph - s.g (F.AE_BASE_OFS_OFS n))) % (2 * t : Nat)

/-- The latest sample instant of an axis at or before a slot's start, in units of 125 ps, and the number of the update
interval that it lies in, counted from the base-period start. -/
def State.served (s : State) (n a t start : Nat) : Int × Int :=
  let s0 := s.sampleAt n a t
  let q := Int.fdiv ((start : Int) * 10 - s0) (2 * t : Nat)
  (s0 + q * (2 * t : Nat), q)

/-- Cycles, rounded up, of a number of 125 ps units; 0 for a number that is not positive. -/
def cyclesUp (x : Int) : Nat := if x ≤ 0 then 0 else ceilDiv x.toNat 10

/-- Do two slots run in a common base period, the second `d` periods after the first? -/
def meets (f g : SlotF) (d : Int) : Bool := decide (((f.phase : Int) + d - g.phase) % (Nat.gcd f.div g.div : Nat) = 0)

/-- The first failing check of a slot (R181): reason, other slot and shortfall. -/
def State.commitCheck (s : State) (n : Nat) (all : List SlotF) (f : SlotF) : Option (Nat × Nat × Nat) :=
  let ra := s.refAxis n
  let t := s.tWritten ra
  let nb := t / 5
  let h := t / 10
  let r := s.ready n f
  let one := f.tied && f.axis < 2
  let a := f.home n
  let sm := (s.served n a t f.start).1
  let late : Int := sm + (r : Int) * 10 - (f.start : Int) * 10
  let beyond : Int := ((f.start + f.len + 17 : Nat) : Int) * 10 - (sm + t)
  let clash := all.find? fun g => g.k != f.k && decide (f.start < g.start + g.len) && decide (g.start < f.start + f.len) &&
    !(g.div == f.div && g.phase != f.phase)
  if f.tied && h < r + f.len + 17 then some (1, 0, r + f.len + 17 - h)
  else if one && 0 < late then some (2, 0, cyclesUp late)
  else if one && 0 < beyond then some (3, 0, cyclesUp beyond)
  else if nb < f.start + f.len + 1 then some (4, 0, f.start + f.len + 1 - nb)
  else match clash with
    | some g => some (5, g.k, min (f.start + f.len) (g.start + g.len) - max f.start g.start)
    | none =>
      if s.tWritten (2 * n) != s.tWritten (2 * n + 1) ||
          !periodOk (s.cntMode (2 * n)) (s.g (F.AX_PWM_PERIOD_PERIOD (2 * n))) ||
          !periodOk (s.cntMode (2 * n + 1)) (s.g (F.AX_PWM_PERIOD_PERIOD (2 * n + 1))) then some (6, 0, 0)
      else if f.len < 16 || f.div ≤ f.phase || (f.tied && 2 ≤ f.axis) || (f.axis == 3 && f.inputs != 0) then some (7, 0, 0)
      else if (f.axes n).any fun b => decide (s.holder (.axis b) ≠ s.holder (.engine n)) then some (8, 0, 0)
      else if one && all.any fun g => g.k != f.k && g.tied && g.axis == f.axis &&
          meets f g ((s.served n a t f.start).2 - (s.served n a t g.start).2) then some (9, 0, 0)
      else none

/-- COMMIT (R181, R182). -/
def State.commit (s : State) (n : Nat) : State :=
  let all := ((List.range 32).filter fun k => s.is (F.AE_SLOT_CTL_EN n k)).map (s.slotRegs n)
  match all.findSome? fun f => (s.commitCheck n all f).map fun x => (f.k, x) with
  | some (k, reason, other, short) =>
    let s := (s.p (F.AE_COMMIT_STATUS_STATE n) 3).p (F.AE_COMMIT_STATUS_REASON n) reason
    let s := (s.p (F.AE_COMMIT_STATUS_SLOT n) k).p (F.AE_COMMIT_STATUS_OTHER n) other
    s.p (F.AE_COMMIT_STATUS_SHORTFALL n) (min short 65535)
  | none =>
    let t := s.tWritten (s.refAxis n)
    (s.setAe n { s.aeOf n with pending := some ⟨t, t / 5, all⟩ }).wr (R.AE_COMMIT_STATUS n) 1

/-- DISCARD_PENDING (R182). -/
def State.discardPending (s : State) (n : Nat) : State :=
  let e := s.aeOf n
  if e.pending.isSome
  then (s.setAe n { e with pending := none }).p (F.AE_COMMIT_STATUS_STATE n) (if e.table.isSome then 2 else 0)
  else s

/-! ### The control register -/

/-- RUN is written (R183). -/
def State.writeRun (s : State) (n : Nat) (v : Bool) : State :=
  let refused := if v then (s.aeOf n).table.isNone else s.pwmState (2 * n) != 0 || s.pwmState (2 * n + 1) != 0
  if refused then s.on (F.AE_STATUS_CTL_REFUSED n)
  else if v == s.is (F.AE_CTL_RUN n) then s
  else if v then
    let s := s.on (F.AE_CTL_RUN n)
    if s.bgAllowed n then s.bgEntry n else s
  else
    let s := s.off (F.AE_CTL_RUN n)
    let e := s.aeOf n
    let s := s.setAe n { e with
      cmp := [], stage := [], lib := none, fresh := true, yieldDue := false, statusAt := none,
      core := { e.core with delay := none, xDone := false } }
    (s.applyBursts n).aeMode n .idle

/-- BG_EN is written (R187): background code starts at BG_ENTRY, or stops. -/
def State.writeBgEn (s : State) (n : Nat) (v : Bool) : State :=
  if v == s.is (F.AE_CTL_BG_EN n) then s
  else
    let m := (s.aeOf n).mode
    let s := s.pb (F.AE_CTL_BG_EN n) v
    let s := s.setAe n { s.aeOf n with fresh := true, yieldDue := false }
    if v then if s.bgAllowed n && decide (m = .idle) then s.bgEntry n else s
    else if m = .slot ∨ m = .done then s
    else
      let e := s.aeOf n
      (s.setAe n { e with statusAt := none, core := { e.core with delay := none, xDone := false } }).aeMode n .idle

/-- FAULT_CLR (*AE0_CTL*): an overrun holds its axes no longer (R34). -/
def State.aeFaultClr (s : State) (n : Nat) : State :=
  let s := s.setAe n { s.aeOf n with overran := [] }
  (((s.off (F.AE_STATUS_OVERRUN n)).p (F.AE_STATUS_FAULT_SLOT n) 0).p (F.AE_STATUS_MISS_A n) 0).p (F.AE_STATUS_MISS_B n) 0

/-- A write of AEn_CTL. -/
def wrAeCtl (n : Nat) (v : Word) (s : State) : State :=
  let s := s.when (getBits v 4 1 == 1) fun s => s.discardPending n
  let s := s.when (getBits v 2 1 == 1) fun s => s.commit n
  let s := s.when (getBits v 3 1 == 1) fun s => s.aeFaultClr n
  let s := s.writeRun n (getBits v 0 1 == 1)
  s.writeBgEn n (getBits v 1 1 == 1)

/-- The word of AEn_CTL with some bits replaced and the write-only bits 0 elsewhere. -/
def State.ctlWord (s : State) (n lo : Nat) (b : Bool) : Word := putBits (s.rd (R.AE_CTL n) &&& 3) lo 1 (bit b)

/-- AE_COMMIT (R181). -/
def execAeCommit (rq : Rq) (n : Fin 8) (s : State) : Res :=
  .next (s.write rq (R.AE_CTL n) fun s => wrAeCtl n (s.ctlWord n 2 true) s)

/-- AE_DISCARD_PENDING (R182). -/
def execAeDiscardPending (rq : Rq) (n : Fin 8) (s : State) : Res :=
  .next (s.write rq (R.AE_CTL n) fun s => wrAeCtl n (s.ctlWord n 4 true) s)

/-- AE_RUN (R183). -/
def execAeRun (rq : Rq) (n : Fin 8) (v : Bool) (s : State) : Res :=
  .next (s.write rq (R.AE_CTL n) fun s => wrAeCtl n (s.ctlWord n 0 v) s)

/-- AE_BG_EN (R187). -/
def execAeBgEn (rq : Rq) (n : Fin 8) (v : Bool) (s : State) : Res :=
  .next (s.write rq (R.AE_CTL n) fun s => wrAeCtl n (s.ctlWord n 1 v) s)

/-- AE_FAULT_CLR (R180). -/
def execAeFaultClr (rq : Rq) (n : Fin 8) (s : State) : Res :=
  .next (s.write rq (R.AE_CTL n) fun s => wrAeCtl n (s.ctlWord n 3 true) s)

/-! ### Memories -/

/-- The host-side address of a program-memory word. -/
def pmAddr (n i : Nat) : Nat := 0x700000 + n * 0x10000 + 4 * i

/-- A write of a program-memory word (R184). -/
def wrPm (n i : Nat) (v : Word) (s : State) : State :=
  if s.is (F.AE_CTL_RUN n) then s.on (F.AE_STATUS_PM_WRITE_REFUSED n) else s.wr (pmAddr n i) v

/-- PROGRAM_MEMORY_WRITE (R184): word `i` of the window. -/
def execProgramMemoryWrite (rq : Rq) (n : Fin 8) (i : Fin 16384) (v : Word) (s : State) : Res :=
  .next (s.write rq (pmAddr n i) (wrPm n i v))

/-- May a requester write the word at an offset of an axis's block? The words that *Library supervision block* and the
host-readable results mark read only keep their value (R11), and TS_TICKET is Camellia's. [DEDUCED, unsafe, log 54] -/
def blockOpen (rq : Rq) (o : Nat) : Bool :=
  if o == 0x270 then decide (rq = .camellia)
  else !((0x100 ≤ o && o < 0x11C) || o == 0x204 || (0x220 ≤ o && o < 0x23C) || o == 0x260 || o == 0x264 || o == 0x274 ||
    o == 0x284 || o == 0x298 || (0x2A0 ≤ o && o < 0x2C8) || (0x300 ≤ o && o < 0x320) || (0x340 ≤ o && o < 0x360))

/-- A burst by a requester of words at offsets of an axis's block. -/
def State.hostBlock (s : State) (rq : Rq) (m : Nat) (words : List (Nat × Word)) : State :=
  s.writeBlock m (words.filter fun w => blockOpen rq w.1)

/-- AXIS_STATE_WRITE (R185): a burst from word `i` of the block; words beyond 16, or beyond the block's end, belong to
another burst. -/
def execAxisStateWrite (rq : Rq) (m : Fin 16) (i : Fin 4096) (b : List Word) (s : State) : Res :=
  let l := (b.take (min 16 (4096 - i.val))).zipIdx.map fun w => (4 * (i.val + w.2), w.1)
  .next (s.write rq (axisWord m (4 * i)) fun s => s.hostBlock rq m l)

/-- ENGINE_ECC_ERROR (R186): memory 0 is the program memory, 1 the data memory, 2 and 3 the blocks of the two axes. -/
def execEngineEccError (n : Fin 8) (mem : Fin 4) (fatal : Bool) (s : State) : Res :=
  if fatal then
    let s := s.on (F.AE_STATUS_ECC_FATAL n)
    if mem.val < 2 then .next (s.pairFault n) else .next (s.axisFault (2 * n + (mem.val - 2)))
  else .next ((s.on (F.AE_STATUS_ECC_CORR n)).count (F.AE_ECC_CORR n) 1)

/-! ### Slots -/

/-- The words of the input page of an axis as they stand (*Input page*), with the previous page where a group is not
named (R203). [DEDUCED, unsafe, log 59] -/
def State.latchPage (s : State) (a inputs : Nat) (old : List Word) : List Word :=
  let pick := fun (b : Bool) (i : Nat) (v : Word) => if b then v else old.getD i 0
  let c := testBit inputs 0
  let p := testBit inputs 1
  let r := testBit inputs 2
  let g := s.axGroup a
  let valid := bit (c && s.is (F.AX_CS_STATUS_VALID a)) + 2 * bit (p && s.is (F.AX_FB_STATUS_VALID a)) + 4 * bit r +
    8 * bit (c && s.is (F.GLB_DL_STATUS_VALID g))
  [pick c 0 (s.rd (R.AX_CS_IU a)), pick c 1 (s.rd (R.AX_CS_IV a)), pick c 2 (s.rd (R.AX_CS_IW a)),
   pick c 3 (s.rd (R.AX_CS_STAMP a)), pick p 4 (s.rd (R.AX_FB_POS_LO a)), pick p 5 (s.rd (R.AX_FB_POS_HI a)),
   pick p 6 (s.rd (R.AX_FB_VEL a)), pick p 7 (s.rd (R.AX_FB_STAMP a)),
   pick c 8 (Word.ofI (s.gi (F.GLB_DL_SAMPLE_Q g))), BitVec.ofNat 32 (s.pwmOf a).period, BitVec.ofNat 32 valid, 0,
   pick r 12 (s.rd (axisWord a 0x50)), pick r 13 (s.rd (axisWord a 0x54)), pick r 14 (s.rd (axisWord a 0x58)),
   pick r 15 (s.rd (axisWord a 0x5C))]

/-- The latched input pages of an engine at a slot start (R176). The page of an axis to which the slot is not bound keeps its
values with every validity bit 0 (R203). [DEDUCED, unsafe, log 155] -/
def State.latch (s : State) (n : Nat) (f : SlotF) : List Word :=
  let old := (s.aeOf n).page
  let one := fun (a : Nat) (o : List Word) => if (f.axes n).contains a then s.latchPage a f.inputs o else listSet o 10 0
  one (2 * n) (old.take 16) ++ one (2 * n + 1) (old.drop 16)

/-- The flag that names a missed sample's cause (R173, R175, R180). -/
def missFlag (n cause : Nat) : Fld :=
  match cause with
  | 0 => F.AE_STATUS_PERIOD_MISMATCH n
  | 1 => F.AE_STATUS_INPUT_LATE n
  | 2 => F.AE_STATUS_SAMPLE_MISPLACED n
  | _ => F.AE_STATUS_PHASE_MISMATCH n

/-- Is a sample older than the one that belongs to a slot which starts in this base period (R178, R180)? Sample instants lie
T_loop ÷ 2 after the update points of the axis (R175), and the slot serves the latest at or before its start. -/
def State.stale (s : State) (n : Nat) (f : SlotF) (x : AxSamp) : Bool :=
  let a := f.home n
  let t : Int := s.tLoop a * 16384
  let first : Int := (s.pwmOf a).lastUpdate + t / 2
  let start : Int := ((s.aeOf n).baseT + f.start * 81920 : Nat)
  let own := first + t * floorDiv (start - first) t
  decide ((x.e : Int) + t / 2 ≤ (s.tb.ticks * 262144 : Nat) + (own - s.now))

/-- Why a tied slot misses its sample, if it does (R180): the flag that is set. Currents belong to a sample whose windows
opened and have closed, the position to one that has been reported, and the setpoints are ready 1.6 µs after a sample that
Larkspur evaluated (R177). -/
def State.missed (s : State) (n : Nat) (f : SlotF) : Option Nat :=
  let e := s.aeOf n
  let a := f.home n
  if e.periodBad then some 0
  else match e.samps.getD (a % 2) none with
    | none => some 1
    | some x =>
      if x.served || s.stale n f x then some 1
      else if !x.placed then some 2
      else if !x.phased then some 3
      else if (testBit f.inputs 0 && !(x.cur && (s.csOf a).win.isNone)) ||
          (testBit f.inputs 1 && !(x.pos && !((s.fbOf a).samps.any fun y => y.s == x.s))) ||
          (testBit f.inputs 2 && !(x.pos && decide (x.e + 1600 * 65536 ≤ (e.base + f.start) * 81920)))
        then some 1
      else none

/-- The count of consecutive missed samples of an axis. -/
def missField (n a : Nat) : Fld := if a % 2 == 0 then F.AE_STATUS_MISS_A n else F.AE_STATUS_MISS_B n

/-- A missed sample (R180): skipped within MISS_LIMIT, an overrun of the slot beyond it. -/
def State.miss (s : State) (n : Nat) (f : SlotF) (cause : Nat) : State :=
  let s := s.on (missFlag n cause)
  let a := f.home n
  if s.g (missField n a) < s.g (F.AE_SCHED_MISS_LIMIT n) then s.p (missField n a) (s.g (missField n a) + 1)
  else s.overrunFx n f

/-- The sample of an axis has been served (R180). -/
def State.serve (s : State) (n a : Nat) : State :=
  let e := s.aeOf n
  let x := (e.samps.getD (a % 2) none).map fun x => { x with served := true }
  (s.setAe n { e with samps := listSet e.samps (a % 2) x }).p (missField n a) 0

/-- A slot's program begins (R176, R193): the inputs are latched, STATUS and the loops are cleared, the pointers are
loaded and the budget counts the window. -/
def State.beginSlot (s : State) (n : Nat) (f : SlotF) : State :=
  let e := s.aeOf n
  let page := s.latch n f
  let x := f.home n % 2
  let c := (e.jump f.entry).core
  let p := listSet (listSet (listSet c.p 0 (0x40000 + 0x40 * x)) 1 (0x80000 + 0x4000 * f.home n)) 2 (0x40100 + 0x10 * x)
  let m := listSet (listSet (listSet c.m 0 0) 1 0) 2 0
  let s := s.setAe n { e with
    core := { c with p := p, m := m, status := 0 }, page := page, used := e.used + f.len, cmp := [], stage := [], lib := none }
  let s := s.p (F.AE_BUDGET_CYCLES n) (max (s.g (F.AE_BUDGET_CYCLES n)) (min (s.aeOf n).used (2 ^ 20 - 1)))
  s.aeMode n .slot

/-- What happens at START (R176, R180, R187): the engine has idled up to it, a save routine that still runs is stopped;
then the slot begins, or is skipped. The second component says whether it has begun. -/
def State.slotStart (s : State) (n : Nat) (f : SlotF) : State × Bool :=
  let e := s.aeOf n
  let m := e.mode
  let t := e.base + f.start
  let skip := f.tied && !s.running (f.home n)
  let flag := if f.tied then s.missed n f else none
  let s := if m = .bg ∧ (skip || flag.isSome) then s
    else s.setAe n { e.idleTo t with slot := f, start := t }
  let s := s.setAe n { s.aeOf n with ran := f.k :: (s.aeOf n).ran }
  let s := if m = .save ∨ (m ≠ .idle ∧ m ≠ .yielded ∧ !skip ∧ flag.isNone) then s.saveLate n else s
  if skip then (s, false)
  else match flag with
    | some x => (s.miss n f x, false)
    | none => ((s.when f.tied fun s => s.serve n (f.home n)).beginSlot n f, true)

/-- Does the engine run slots (R172, R183)? -/
def State.runsSlots (s : State) (n : Nat) : Bool := s.is (F.AE_CTL_RUN n) && s.is (F.AE_STATUS_RUNNING n)

/-- The slot `k` of the table in force, when the engine runs slots, this base period is one of its own, it has not started
there yet and its engine cycle START is this tick's or was not passed (R176). -/
def State.dueSlot (s : State) (n k : Nat) : Option SlotF :=
  let e := s.aeOf n
  if !s.runsSlots n || e.mode = .slot || e.mode = .done || e.ran.contains k then none
  else match e.table with
    | none => none
    | some t => t.slots.find? fun f => f.k == k && s.g (F.AE_PERIOD_CNT_COUNT n) % f.div == f.phase &&
        decide (e.core.cyc ≤ e.base + f.start) && decide (e.base + f.start < max s.cycNow (e.core.cyc + 1))

/-- Has the window of the latest slot ended, START + L (R179)? -/
def State.windowOver (s : State) (n : Nat) : Bool :=
  let e := s.aeOf n
  decide (e.start + e.slot.len ≤ max s.cycNow e.core.cyc)

/-- Engine cycles from the end of the present slot window to the next slot start, if base periods are counted (R188). -/
def State.gap (s : State) (n : Nat) : Option Nat :=
  let e := s.aeOf n
  match e.table with
  | none => none
  | some t =>
    if !s.is (F.AE_STATUS_RUNNING n) then none
    else
      let fin := e.start - e.base + e.slot.len
      let cnt := s.g (F.AE_PERIOD_CNT_COUNT n)
      let l := (List.range 17).flatMap fun j =>
        (t.slots.filter fun f => (cnt + j) % 720720 % f.div == f.phase).map fun f => j * t.nBase + f.start
      (l.filter fun x => decide (fin ≤ x)).foldl (fun (m : Option Nat) x =>
        match m with
        | none => some (x - fin)
        | some y => some (min y (x - fin))) none

/-- The start of slot `k` that lies ahead in this base period or the next one, when the slot runs there (R176, R187). -/
def State.slotAhead (s : State) (n k : Nat) : Option Nat :=
  let e := s.aeOf n
  match e.table with
  | none => none
  | some t =>
    match t.slots.find? fun f => f.k == k with
    | none => none
    | some f =>
      let cnt := s.g (F.AE_PERIOD_CNT_COUNT n)
      if cnt % f.div == f.phase && !e.ran.contains k && decide (e.core.cyc ≤ e.base + f.start) then some (e.base + f.start)
      else if (cnt + 1) % 720720 % f.div == f.phase then some (e.base + t.nBase + f.start)
      else none

/-- BG_YIELD (R187, R188, R205): YIELD_LEAD cycles before the start of slot `k`, which finds background code running. A
yield inside a restore routine, or behind a taken branch whose delay bundle is still to issue, waits. Without slots to run
nothing interrupts background code (R172). -/
def execBgYield (n : Fin 8) (k : Fin 32) (s : State) : Res :=
  let e := s.aeOf n
  match s.slotAhead n k with
  | none => .next s
  | some start =>
    let at_ := max e.core.cyc (start - s.g (F.AE_SCHED_YIELD_LEAD n))
    if !s.runsSlots n || max s.cycNow (e.core.cyc + 1) ≤ at_ then .next s
    else if e.mode = .restore then .next (s.setAe n { e with yieldDue := true })
    else if e.mode = .bg then
      if e.core.delay.isSome || e.core.xDone then .next (s.setAe n { e with yieldDue := true })
      else .next ((s.setAe n (e.idleTo at_)).yieldNow n)
    else .next s

end Sys2Proof.Machine
end

