-- ==== Sys2Proof/Machine/EngineCore.lean ====
section
/-! DEFINITION. The instruction set of the Aster engines (R193 to R206, R603, R604). A bundle issues as two commands: its
X-slot operation, then its Y-slot operation, which ends the bundle; a Y-slot operation alone is a bundle whose X slot is a
nop. A command has an effect only when it is the operation of the legal bundle that stands at the engine's program counter
in its program memory (R194), and only for an engine that a program holds. -/

namespace Sys2Proof.Machine

/-! ### Reading -/

/-- The D bank in use (R193): bank 1 while a slot runs. -/
def AeSt.bank (e : AeSt) : Nat := if e.mode = .slot then 1 else 0

/-- Dn of the bank in use, as a number. -/
def AeSt.D (e : AeSt) (i : Nat) : Nat := if e.bank = 1 then e.core.d1.getD i 0 else e.core.d0.getD i 0

/-- Dn read as two's complement. -/
def AeSt.DI (e : AeSt) (i : Nat) : Int := signed 32 (e.D i)

/-- A flag of STATUS. -/
def AeSt.flag (e : AeSt) (i : Nat) : Bool := testBit e.core.status i

/-- STATUS with BANK (*Status bits*). -/
def AeSt.statusWord (e : AeSt) : Nat := e.core.status + 256 * e.bank

/-- Does a program hold the engine, so that a bundle may issue? -/
def AeSt.issuing (e : AeSt) : Bool :=
  match e.mode with
  | .slot => e.lib.isNone && decide (e.core.cyc < e.start + e.slot.len)
  | .bg => true
  | .save => true
  | .restore => true
  | _ => false

/-- The value onto which a chained operation accumulates (R197): that of the latest-issued MAC operation in flight for the
accumulator, else the accumulator itself. -/
def AeSt.chained (e : AeSt) (i : Nat) : Nat :=
  match e.core.flights.reverse.find? fun f => decide (f.chain = some i) with
  | some f => match f.writes with
    | (_, v) :: _ => v
    | [] => e.core.a.getD i 0
  | none => e.core.a.getD i 0

/-- DF as the next division step sees it: that of the latest-issued step in flight, else the flag (R197, R202).
[DEDUCED, unsafe, log 57] -/
def AeSt.df (e : AeSt) : Bool :=
  match e.core.flights.reverse.find? fun f => f.chain.isSome && testBit f.mask 5 with
  | some f => testBit f.flags 5
  | none => e.flag 5

/-! ### Results -/

/-- What an X-slot operation leads to: registers written, the accumulator it chains to, the flags it sets with their
values, and the sticky flags. -/
structure XRes where
  writes : List (EReg × Nat)
  chain : Option Nat
  mask : Nat
  flags : Nat
  sticky : Nat
  deriving DecidableEq, Repr

/-- Z and N of a result (R603). -/
def znOf (v : Nat) : Nat := (if v = 0 then 1 else 0) + (if 2 ^ 31 ≤ v then 2 else 0)

/-- An ALU result for rd with Z and N; `sat` sets the sticky S. -/
def AeSt.alu (e : AeSt) (rd v : Nat) (sat : Bool) : XRes := ⟨[(.d e.bank rd, v)], none, 3, znOf v, if sat then 16 else 0⟩

/-- Z, N, C and V of a result with a carry and an overflow. -/
def znCv (v : Nat) (c o : Bool) : Nat := znOf v + 4 * bit c + 8 * bit o

/-- A result in rd without flags but a sticky S. -/
def AeSt.plain (e : AeSt) (rd v : Nat) (sat : Bool) : XRes := ⟨[(.d e.bank rd, v)], none, 0, 0, if sat then 16 else 0⟩

/-- An accumulator result, modulo 2^72. -/
def toAcc (i : Nat) (v : Int) : XRes := ⟨[(.acc i, unsigned 72 v)], some i, 0, 0, 0⟩

/-- May the Y-slot operation stand in this place? No branch or loop in a branch delay bundle (R194); END in a slot, WAIT in
the save routine and RETB in the restore routine alone (R195). -/
def AeSt.placed (e : AeSt) : Instr → Bool
  | .jmp _ _ => e.core.delay.isNone
  | .brcc _ _ _ => e.core.delay.isNone
  | .loop _ _ _ _ => e.core.delay.isNone
  | .loopr _ _ _ _ => e.core.delay.isNone
  | .end_ _ => decide (e.mode = .slot)
  | .wait _ => decide (e.mode = .save)
  | .retb _ => decide (e.mode = .restore)
  | _ => true

/-- The operations of the X slot and of the Y slot of the bundle at the program counter (R194). -/
def State.slotX (s : State) (n : Fin 8) : Option Instr :=
  decodeX n (s.rd (pmAddr n (2 * ((s.aeOf n).core.pc % 8192)))).toNat
def State.slotY (s : State) (n : Fin 8) : Option Instr :=
  decodeY n (s.rd (pmAddr n (2 * ((s.aeOf n).core.pc % 8192) + 1))).toNat

/-- Does the program memory hold an illegal bundle at the program counter (R194, R195)? -/
def State.bundleIllegal (s : State) (n : Fin 8) : Bool :=
  match s.slotX n, s.slotY n with
  | some _, some y => !(s.aeOf n).placed y
  | _, _ => true

/-- The X-slot operation `i` issues, when it is the one of the legal bundle at the program counter (R194, R196); its result
lands `lat` cycles later. [DEDUCED, safe, log 159] -/
def State.issueX (s : State) (n : Fin 8) (i : Instr) (lat : Nat) (k : AeSt → XRes) : State :=
  let e := s.aeOf n
  if !e.issuing || e.core.xDone || s.bundleIllegal n || s.slotX n != some i then s
  else
    let r := k e
    let f : Flight := ⟨e.core.cyc + lat, 2 * e.core.cyc + 1, r.writes, r.chain, r.mask, r.flags, r.sticky⟩
    s.setAe n { e with core := { e.core with xDone := true, flights := e.core.flights ++ [f] } }

/-- The signed saturation of `x` to 32 bits as a word, and whether it acted. -/
def sat32 (x : Int) : Nat × Bool := (unsigned 32 (satI 32 x), decide (satI 32 x ≠ x))

/-! ### X-slot operations: the ALU -/

/-- X_NOP. -/
def execXNop (n : Fin 8) (s : State) : Res := .next (s.issueX n (.xNop n) 1 fun _ => ⟨[], none, 0, 0, 0⟩)

/-- ADD. -/
def execAdd (n : Fin 8) (rd ra rb : Fin 16) (s : State) : Res :=
  .next (s.issueX n (.add n rd ra rb) 1 fun e =>
    let v := (e.D ra + e.D rb) % 2 ^ 32
    { e.alu rd v false with
      mask := 15, flags := znCv v (decide (2 ^ 32 ≤ e.D ra + e.D rb)) (sat32 (e.DI ra + e.DI rb)).2 })

/-- SUB. -/
def execSub (n : Fin 8) (rd ra rb : Fin 16) (s : State) : Res :=
  .next (s.issueX n (.sub n rd ra rb) 1 fun e =>
    let v := unsigned 32 (e.DI ra - e.DI rb)
    { e.alu rd v false with mask := 15, flags := znCv v (decide (e.D rb ≤ e.D ra)) (sat32 (e.DI ra - e.DI rb)).2 })

/-- ADDS. -/
def execAdds (n : Fin 8) (rd ra rb : Fin 16) (s : State) : Res :=
  .next (s.issueX n (.adds n rd ra rb) 1 fun e => let r := sat32 (e.DI ra + e.DI rb); e.alu rd r.1 r.2)

/-- SUBS. -/
def execSubs (n : Fin 8) (rd ra rb : Fin 16) (s : State) : Res :=
  .next (s.issueX n (.subs n rd ra rb) 1 fun e => let r := sat32 (e.DI ra - e.DI rb); e.alu rd r.1 r.2)

/-- AND. -/
def execAnd (n : Fin 8) (rd ra rb : Fin 16) (s : State) : Res :=
  .next (s.issueX n (.and n rd ra rb) 1 fun e => e.alu rd (Nat.land (e.D ra) (e.D rb)) false)

/-- OR. -/
def execOr (n : Fin 8) (rd ra rb : Fin 16) (s : State) : Res :=
  .next (s.issueX n (.or n rd ra rb) 1 fun e => e.alu rd (Nat.lor (e.D ra) (e.D rb)) false)

/-- XOR. -/
def execXor (n : Fin 8) (rd ra rb : Fin 16) (s : State) : Res :=
  .next (s.issueX n (.xor n rd ra rb) 1 fun e => e.alu rd (Nat.xor (e.D ra) (e.D rb)) false)

/-- SHL by sh mod 32. -/
def execShl (n : Fin 8) (rd ra : Fin 16) (sh : Fin 64) (s : State) : Res :=
  .next (s.issueX n (.shl n rd ra sh) 1 fun e => e.alu rd (e.D ra * 2 ^ (sh.val % 32) % 2 ^ 32) false)

/-- SHR by sh mod 32. -/
def execShr (n : Fin 8) (rd ra : Fin 16) (sh : Fin 64) (s : State) : Res :=
  .next (s.issueX n (.shr n rd ra sh) 1 fun e => e.alu rd (e.D ra / 2 ^ (sh.val % 32)) false)

/-- SHRA by sh mod 32. -/
def execShra (n : Fin 8) (rd ra : Fin 16) (sh : Fin 64) (s : State) : Res :=
  .next (s.issueX n (.shra n rd ra sh) 1 fun e => e.alu rd (unsigned 32 (floorDiv (e.DI ra) (2 ^ (sh.val % 32)))) false)

/-- MIN, signed. -/
def execMin (n : Fin 8) (rd ra rb : Fin 16) (s : State) : Res :=
  .next (s.issueX n (.min n rd ra rb) 1 fun e => e.alu rd (if e.DI ra ≤ e.DI rb then e.D ra else e.D rb) false)

/-- MAX, signed. -/
def execMax (n : Fin 8) (rd ra rb : Fin 16) (s : State) : Res :=
  .next (s.issueX n (.max n rd ra rb) 1 fun e => e.alu rd (if e.DI ra ≤ e.DI rb then e.D rb else e.D ra) false)

/-- ABS, saturated. -/
def execAbs (n : Fin 8) (rd ra : Fin 16) (s : State) : Res :=
  .next (s.issueX n (.abs n rd ra) 1 fun e => let r := sat32 (absN (e.DI ra)); e.alu rd r.1 r.2)

/-- NEG, saturated. -/
def execNeg (n : Fin 8) (rd ra : Fin 16) (s : State) : Res :=
  .next (s.issueX n (.neg n rd ra) 1 fun e => let r := sat32 (-(e.DI ra)); e.alu rd r.1 r.2)

/-- MOVI. -/
def execMovi (n : Fin 8) (rd : Fin 16) (imm : BitVec 16) (s : State) : Res :=
  .next (s.issueX n (.movi n rd imm) 1 fun e => e.alu rd (unsigned 32 (signed 16 imm.toNat)) false)

/-- MOVHI. -/
def execMovhi (n : Fin 8) (rd : Fin 16) (imm : BitVec 16) (s : State) : Res :=
  .next (s.issueX n (.movhi n rd imm) 1 fun e => e.alu rd (imm.toNat * 2 ^ 16 + e.D rd % 2 ^ 16) false)

/-- CMP. -/
def execCmp (n : Fin 8) (ra rb : Fin 16) (s : State) : Res :=
  .next (s.issueX n (.cmp n ra rb) 1 fun e =>
    let v := unsigned 32 (e.DI ra - e.DI rb)
    ⟨[], none, 15, znCv v (decide (e.D rb ≤ e.D ra)) (sat32 (e.DI ra - e.DI rb)).2, 0⟩)

/-! ### X-slot operations: the multiply-accumulate unit -/

/-- MUL. -/
def execMul (n : Fin 8) (acc : Fin 2) (ra rb : Fin 16) (s : State) : Res :=
  .next (s.issueX n (.mul n acc ra rb) 3 fun e => toAcc acc (e.DI ra * e.DI rb))

/-- MAC. -/
def execMac (n : Fin 8) (acc : Fin 2) (ra rb : Fin 16) (s : State) : Res :=
  .next (s.issueX n (.mac n acc ra rb) 3 fun e => toAcc acc (e.chained acc + e.DI ra * e.DI rb))

/-- MSU. -/
def execMsu (n : Fin 8) (acc : Fin 2) (ra rb : Fin 16) (s : State) : Res :=
  .next (s.issueX n (.msu n acc ra rb) 3 fun e => toAcc acc (e.chained acc - e.DI ra * e.DI rb))

/-- MULLO. -/
def execMullo (n : Fin 8) (rd ra rb : Fin 16) (s : State) : Res :=
  .next (s.issueX n (.mullo n rd ra rb) 3 fun e => e.plain rd (e.D ra * e.D rb % 2 ^ 32) false)

/-- ALD. -/
def execAld (n : Fin 8) (acc : Fin 2) (ra : Fin 16) (sh : Fin 64) (s : State) : Res :=
  .next (s.issueX n (.ald n acc ra sh) 3 fun e => toAcc acc (e.DI ra * 2 ^ sh.val))

/-- AADD. -/
def execAadd (n : Fin 8) (acc : Fin 2) (ra : Fin 16) (sh : Fin 64) (s : State) : Res :=
  .next (s.issueX n (.aadd n acc ra sh) 3 fun e => toAcc acc (e.chained acc + e.DI ra * 2 ^ sh.val))

/-- ASUB. -/
def execAsub (n : Fin 8) (acc : Fin 2) (ra : Fin 16) (sh : Fin 64) (s : State) : Res :=
  .next (s.issueX n (.asub n acc ra sh) 3 fun e => toAcc acc (e.chained acc - e.DI ra * 2 ^ sh.val))

/-- AMOV. -/
def execAmov (n : Fin 8) (acc : Fin 2) (ra rb : Fin 16) (s : State) : Res :=
  .next (s.issueX n (.amov n acc ra rb) 3 fun e => toAcc acc (e.DI ra * 2 ^ 32 + e.D rb))

/-- EXT: sat32 of the accumulator shifted right (R201). -/
def execExt (n : Fin 8) (rd : Fin 16) (acc : Fin 2) (sh : Fin 64) (s : State) : Res :=
  .next (s.issueX n (.ext n rd acc sh) 3 fun e =>
    let r := sat32 (floorDiv (signed 72 (e.core.a.getD acc 0)) (2 ^ sh.val))
    e.plain rd r.1 r.2)

/-- EXTL. -/
def execExtl (n : Fin 8) (rd : Fin 16) (acc : Fin 2) (s : State) : Res :=
  .next (s.issueX n (.extl n rd acc) 3 fun e => e.plain rd (e.core.a.getD acc 0 % 2 ^ 32) false)

/-- One non-restoring step on a 72-bit accumulator with the divisor d and DF (R202): the accumulator, DF, and whether the
first step finds the dividend's high word not below d. -/
def divStep (first : Bool) (df : Bool) (a d : Nat) : Nat × Bool × Bool :=
  let df := if first then false else df
  let dv := first && decide (d ≤ a / 2 ^ 32 % 2 ^ 32)
  let r := signed 40 (a / 2 ^ 32)
  let q := a % 2 ^ 32
  let r := 2 * r + (q / 2 ^ 31 : Nat)
  let r := signed 40 (unsigned 40 (if df then r + d else r - d))
  let neg := decide (r < 0)
  (unsigned 40 r * 2 ^ 32 + q * 2 % 2 ^ 32 + bit (!neg), neg, dv)

/-- DIVS and DIVS.F. -/
def execDivs (n : Fin 8) (acc : Fin 2) (rb : Fin 16) (first : Bool) (s : State) : Res :=
  .next (s.issueX n (.divs n acc rb first) 3 fun e =>
    let r := divStep first e.df (e.chained acc) (e.D rb)
    ⟨[(.acc acc, r.1)], some acc.val, 32, if r.2.1 then 32 else 0, if r.2.2 then 64 else 0⟩)

/-- The angle of a Q0.32 turn, folded into [0, π/4] with its octant, in units of 2^-60 rad: sin of the angle in units of
2^-60. -/
def sinTurn (a : Nat) : Int :=
  let a : Nat := a % 2 ^ 32
  let h : Nat := a % 2 ^ 31
  let q : Nat := if h ≤ 2 ^ 30 then h else 2 ^ 31 - h
  let v := if q ≤ 2 ^ 29 then sinFix (piFix * q / 2 ^ 31) else cosFix (piFix * ((2 ^ 30 - q : Nat) : Int) / 2 ^ 31)
  if a < 2 ^ 31 then v else -v

/-- Sine or cosine as Q1.31 with an open error of at most 2^-29: the exact value truncated, moved by the open number `w`
where the bound and the format allow it. [PRESUMED, safe, log 58] -/
def trigQ31 (x60 : Int) (w : Nat) : Int :=
  let t := satI 32 (floorDiv x60 (2 ^ 29))
  let c := t + ((w % 9 : Nat) : Int) - 4
  if absN (c * 2 ^ 29 - x60) ≤ 2 ^ 31 ∧ satI 32 c = c then c else t

/-- TSIN. -/
def execTsin (n : Fin 8) (rd ra : Fin 16) (s : State) : Res :=
  .next ((s.issueX n (.tsin n rd ra) 3 fun e => e.plain rd (unsigned 32 (trigQ31 (sinTurn (e.D ra)) s.freshWord.toNat)) false).took)

/-- TCOS. -/
def execTcos (n : Fin 8) (rd ra : Fin 16) (s : State) : Res :=
  .next ((s.issueX n (.tcos n rd ra) 3 fun e =>
    e.plain rd (unsigned 32 (trigQ31 (sinTurn (e.D ra + 2 ^ 30)) s.freshWord.toNat)) false).took)

/-- Integer square root by bits: the largest r + j below r + 2^`n` whose square is at most x. -/
def rootStep (x : Nat) : Nat → Nat → Nat
  | 0, r => r
  | n + 1, r => if (r + 2 ^ n) * (r + 2 ^ n) ≤ x then rootStep x n (r + 2 ^ n) else rootStep x n r

/-- 1 ÷ √ra as Q8.24 with an open relative error of at most 2^-22: the exact value truncated, moved by the open number
where the bound allows it; and whether it saturates. [PRESUMED, safe, log 58] -/
def rsqQ24 (x : Int) (w : Nat) : Nat × Bool :=
  if x ≤ 2 ^ 17 then (0x7FFFFFFF, true)
  else
    let n := x.toNat
    let t := rootStep (2 ^ 79 / n) 33 0
    let b := t / 2 ^ 22 + 1
    let c := t - b + w % (2 * b + 1)
    let sq := (c * 2 ^ 22) ^ 2 * n
    if sq ≤ 2 ^ 79 * (2 ^ 22 + 1) ^ 2 ∧ 2 ^ 79 * (2 ^ 22 - 1) ^ 2 ≤ sq ∧ c < 2 ^ 31 then (c, false) else (t, false)

/-- RSQ. -/
def execRsq (n : Fin 8) (rd ra : Fin 16) (s : State) : Res :=
  .next ((s.issueX n (.rsq n rd ra) 3 fun e => let r := rsqQ24 (e.DI ra) s.freshWord.toNat; e.plain rd r.1 r.2).took)

/-! ### The end of a bundle -/

/-- Where the program goes after a bundle. -/
inductive Flow where
  /-- The next bundle, or the start of a loop. -/
  | next
  /-- A taken branch: one delay bundle, then the target (R199). -/
  | branch (t : Nat)
  /-- At once to the bundle (a loop with count 0, R200). -/
  | goto (t : Nat)
  deriving DecidableEq, Repr

/-- Is `pc` the end bundle of the active loop `l`? [DEDUCED, unsafe, log 56] -/
def AeCore.endOf (c : AeCore) (l : Nat) : Bool :=
  testBit c.status (9 + l) && decide (c.la.getD l 0 / 2 ^ 16 % 2 ^ 13 = c.pc)

/-- The end bundle of an active loop has issued (R200). [DEDUCED, unsafe, log 56] -/
def AeCore.loopBack (c : AeCore) (l : Nat) : AeCore :=
  if 1 < c.lc.getD l 0 then { c with lc := listSet c.lc l (c.lc.getD l 0 - 1), pc := c.la.getD l 0 % 2 ^ 13 }
  else { c with lc := listSet c.lc l 0, status := setBit c.status (9 + l) false, pc := (c.pc + 1) % 8192 }

/-- The program counter after a bundle (R199, R200). A branch that an end bundle holds is open: `free` decides whether the
loop or the branch prevails. -/
def AeCore.flow (c : AeCore) (w : Flow) (free : Bool) : AeCore :=
  let ended := c.endOf 1 || c.endOf 0
  let back := if c.endOf 1 then c.loopBack 1 else c.loopBack 0
  match c.delay with
  | some t => { c with pc := t, delay := none }
  | none =>
    match w with
    | .branch t => if ended && free then back else { c with pc := (c.pc + 1) % 8192, delay := some (t % 8192) }
    | .goto t => { c with pc := t % 8192 }
    | .next => if ended then back else { c with pc := (c.pc + 1) % 8192 }

/-- The bundle ends: the program counter moves and one engine cycle passes. [DEDUCED, safe, log 55] -/
def AeSt.close (e : AeSt) (w : Flow) (free : Bool) : AeSt :=
  { e with core := { (e.core.flow w free) with xDone := false } }.tick

/-- A yield that had to wait for a delay bundle is taken (R205). -/
def State.lateYield (s : State) (n : Nat) : State :=
  let e := s.aeOf n
  if e.yieldDue && decide (e.mode = .bg) && e.core.delay.isNone then s.yieldNow n else s

/-- What a Y-slot operation leads to: the engine, where the program goes, whether an access was refused, and the words,
by their offset in axis-state memory, that are written at once. -/
structure YRes where
  e : AeSt
  flow : Flow
  refused : Bool
  stores : List (Nat × Word)
  deriving DecidableEq, Repr

/-- Does the Y-slot operation `i` issue next: is it the one of the legal bundle at the program counter, and has the bundle's
X-slot operation issued, unless that is a nop? -/
def State.issuesY (s : State) (n : Fin 8) (i : Instr) : Bool :=
  let e := s.aeOf n
  e.issuing && !s.bundleIllegal n && s.slotY n == some i && (e.core.xDone || s.slotX n == some (.xNop n))

/-- The Y-slot operation `i` issues and ends its bundle; an access refused under R203 raises its event.
[DEDUCED, safe, log 159] -/
def State.issueY (s : State) (n : Fin 8) (i : Instr) (k : AeSt → YRes) : State :=
  let e := s.aeOf n
  if !s.issuesY n i then s
  else
    let r := k e
    let s1 := (s.setAe n (r.e.close r.flow s.freshBool)).took
    let s1 := s1.each r.stores fun w s => s.wr (axisWord 0 w.1) w.2
    let s1 := s1.when r.refused fun s => s.raiseSt (evAxis (2 * n) + 17) (R.AE_STATUS n)
    s1.lateYield n

/-- Is the Y-slot operation `i` at the program counter in a place where it is illegal (R194, R195)? -/
def State.misplaced (s : State) (n : Fin 8) (i : Instr) : Bool :=
  (s.aeOf n).issuing && s.slotY n == some i && !(s.aeOf n).placed i

/-- A Y-slot operation that only branches or loops: illegal in a branch delay bundle (R194). -/
def State.issueFlow (s : State) (n : Fin 8) (i : Instr) (k : AeSt → AeSt × Flow) : State :=
  if s.misplaced n i then s.illegal n
  else s.issueY n i fun e => let r := k e; ⟨r.1, r.2, false, []⟩

/-- A result of the Y slot is in flight for `lat` cycles. -/
def AeSt.fly (e : AeSt) (lat : Nat) (writes : List (EReg × Nat)) (mask flags sticky : Nat) : AeSt :=
  { e with core := { e.core with
    flights := e.core.flights ++ [⟨e.core.cyc + lat, 2 * e.core.cyc, writes, none, mask, flags, sticky⟩] } }

/-- Y_NOP. -/
def execYNop (n : Fin 8) (s : State) : Res := .next (s.issueY n (.yNop n) fun e => ⟨e, .next, false, []⟩)

/-! ### Data memory as the engine sees it -/

/-- The modulo pointer update (R604). -/
def modUpdate (p m : Nat) (off : Int) : Nat :=
  let m := m / 4 * 4
  if m = 0 then unsigned 32 ((p : Int) + 4 * off)
  else
    let b : Nat := p - p % m
    (b + ((((p : Int) + 4 * off - b) % (m : Nat)).toNat)) % 2 ^ 32

/-- The byte address of a memory operation, and the engine with the pointer update of mode 1 in flight. -/
def AeSt.address (e : AeSt) : EAddr → Nat × AeSt
  | .off p w => (unsigned 32 ((e.core.p.getD p 0 : Int) + 4 * signed 10 w.toNat), e)
  | .post p w =>
    let v := e.core.p.getD p 0
    (v, e.fly 1 [(.p p, modUpdate v (e.core.m.getD p 0) (signed 10 w.toNat))] 0 0 0)
  | .abs w => (4 * w.toNat, e)

/-- What an engine address is (*Engine data map*). -/
inductive EKind where
  | data | page | compare | ownBlock | otherState | unmapped
  deriving DecidableEq, Repr

/-- The kind of a word address for engine `n`. -/
def eKind (n a : Nat) : EKind :=
  if a < 0x20000 then .data
  else if 0x40000 ≤ a ∧ a < 0x40080 then .page
  else if (0x40100 ≤ a ∧ a < 0x4010C) ∨ (0x40110 ≤ a ∧ a < 0x4011C) then .compare
  else if 0x80000 ≤ a ∧ a < 0x100000 then
    if (a - 0x80000) / 0x8000 = n ∧ a < 0xC0000 then .ownBlock else .otherState
  else .unmapped

/-- The latency of a load from an address (R196). -/
def eLat (n a : Nat) : Nat := if eKind n a = .otherState then 6 else 2

/-- The word that a load reads (R203, R204); a compare window reads as an unmapped address. -/
def State.eLoad (s : State) (n : Nat) (e : AeSt) (a : Nat) : Word :=
  match eKind n a with
  | .data => tabGet (fun _ => 0) e.dm (a / 4)
  | .page => e.page.getD ((a - 0x40000) / 4) 0
  | .compare => 0
  | .ownBlock =>
    let w := a - 0x80000
    if e.mode = .slot then tabGet (fun k => s.rd (axisWord 0 k)) e.stage w else s.rd (axisWord 0 w)
  | .otherState => s.rd (axisWord 0 (a - 0x80000))
  | .unmapped => 0

/-- Is a load refused (R203)? -/
def loadRefused (n a : Nat) : Bool := decide (eKind n a = .unmapped) || decide (eKind n a = .compare)

/-- One word is stored: the engine after it, whether the store is refused, and a word written at once (R178, R203). -/
def AeSt.eStore (e : AeSt) (n a v : Nat) : AeSt × Bool × List (Nat × Word) :=
  match eKind n a with
  | .data => ({ e with dm := tabSet (fun _ => 0) e.dm (a / 4) (BitVec.ofNat 32 v) }, false, [])
  | .compare =>
    let ax := 2 * n + (a - 0x40100) / 16
    if e.mode = .slot ∧ e.slot.tied ∧ e.slot.home n = ax
    then ({ e with cmp := e.cmp ++ [(ax, (a - 0x40100) % 16 / 4, v)] }, false, [])
    else (e, true, [])
  | .ownBlock =>
    let w := a - 0x80000
    if e.mode = .slot then ({ e with stage := tabInsert e.stage w (BitVec.ofNat 32 v) }, false, [])
    else (e, false, [(w, BitVec.ofNat 32 v)])
  | _ => (e, true, [])

/-- The refused access of an operation makes AERR visible with the latency of a load from that address (R203). -/
def AeSt.aerr (e : AeSt) (n a : Nat) (refused : Bool) : AeSt := if refused then e.fly (eLat n a) [] 0 0 (2 ^ 11) else e

/-- Words stored at rising word addresses, one after the other. -/
def AeSt.eStores (e : AeSt) (n a : Nat) : List Nat → AeSt × Bool × List (Nat × Word)
  | [] => (e, false, [])
  | v :: t =>
    let r := e.eStore n a v
    let q := (r.1.aerr n a r.2.1).eStores n (a + 4) t
    (q.1, r.2.1 || q.2.1, r.2.2 ++ q.2.2)

/-- LD. -/
def execLd (n : Fin 8) (rd : Fin 16) (addr : EAddr) (s : State) : Res :=
  .next (s.issueY n (.ld n rd addr) fun e =>
    let (a, e1) := e.address addr
    let a := a / 4 * 4
    let bad := loadRefused n a
    ⟨(e1.fly (eLat n a) [(.d e.bank rd, (s.eLoad n e a).toNat)] 0 0 0).aerr n a bad, .next, bad, []⟩)

/-- ST. -/
def execSt (n : Fin 8) (rs : Fin 16) (addr : EAddr) (s : State) : Res :=
  .next (s.issueY n (.st n rs addr) fun e =>
    let (a, e1) := e.address addr
    let r := e1.eStores n (a / 4 * 4) [e.D rs]
    ⟨r.1, .next, r.2.1, r.2.2⟩)

/-- LDD: the pair in rd, rd + 1; an odd rd is illegal (R194). -/
def execLdd (n : Fin 8) (rd : Fin 16) (addr : EAddr) (s : State) : Res :=
  if rd.val % 2 = 1 && (s.aeOf n).issuing && s.bundleIllegal n then .next (s.illegal n)
  else .next (s.issueY n (.ldd n rd addr) fun e =>
    let (a, e1) := e.address addr
    let a := a / 8 * 8
    let b := e.bank
    let bad := loadRefused n a || loadRefused n (a + 4)
    let w := [(EReg.d b rd, (s.eLoad n e a).toNat), (EReg.d b (rd + 1), (s.eLoad n e (a + 4)).toNat)]
    ⟨(e1.fly (eLat n a) w 0 0 0).aerr n a bad, .next, bad, []⟩)

/-- STD: the pair from rs, rs + 1; an odd rs is illegal (R194). -/
def execStd (n : Fin 8) (rs : Fin 16) (addr : EAddr) (s : State) : Res :=
  if rs.val % 2 = 1 && (s.aeOf n).issuing && s.bundleIllegal n then .next (s.illegal n)
  else .next (s.issueY n (.std n rs addr) fun e =>
    let (a, e1) := e.address addr
    let r := e1.eStores n (a / 8 * 8) [e.D rs, e.D (rs + 1)]
    ⟨r.1, .next, r.2.1, r.2.2⟩)

/-- The two words of a special pair (*Y-slot operations*). -/
def AeSt.pairWords (e : AeSt) (i : Nat) : List Nat :=
  let c := e.core
  if i < 4 then [c.p.getD (2 * i) 0, c.p.getD (2 * i + 1) 0]
  else if i < 8 then [c.m.getD (2 * i - 8) 0, c.m.getD (2 * i - 7) 0]
  else if i = 8 then [c.lc.getD 0 0, c.lc.getD 1 0]
  else if i = 9 then [c.la.getD 0 0, c.la.getD 1 0]
  else if i = 12 then [c.a.getD 0 0 / 2 ^ 64, c.a.getD 1 0 / 2 ^ 64]
  else [c.a.getD (i - 10) 0 % 2 ^ 32, c.a.getD (i - 10) 0 / 2 ^ 32 % 2 ^ 32]

/-- The writes of a special pair from two words. -/
def pairWrites (i x y : Nat) : List (EReg × Nat) :=
  if i < 4 then [(.p (2 * i), x), (.p (2 * i + 1), y)]
  else if i < 8 then [(.m (2 * i - 8), x), (.m (2 * i - 7), y)]
  else if i = 8 then [(.lc 0, x), (.lc 1, y)]
  else if i = 9 then [(.la 0, x), (.la 1, y)]
  else if i = 12 then [(.guards, x % 2 ^ 8 + y % 2 ^ 8 * 2 ^ 32)]
  else [(.accLow (i - 10), x + y * 2 ^ 32)]

/-- LDS: a special pair from data memory, absolute mode. -/
def execLds (n : Fin 8) (pair : Fin 13) (w : BitVec 15) (s : State) : Res :=
  .next (s.issueY n (.lds n pair w) fun e =>
    let a := 4 * w.toNat / 8 * 8
    ⟨e.fly 2 (pairWrites pair (s.eLoad n e a).toNat (s.eLoad n e (a + 4)).toNat) 0 0 0, .next, false, []⟩)

/-- STS: a special pair to data memory, absolute mode. -/
def execSts (n : Fin 8) (pair : Fin 13) (w : BitVec 15) (s : State) : Res :=
  .next (s.issueY n (.sts n pair w) fun e =>
    let r := e.eStores n (4 * w.toNat / 8 * 8) (e.pairWords pair)
    ⟨r.1, .next, r.2.1, r.2.2⟩)

/-- The value of a special register. -/
def AeSt.spr (e : AeSt) (i : Nat) : Nat :=
  if i < 8 then e.core.p.getD i 0
  else if i < 16 then e.core.m.getD (i - 8) 0
  else if i < 18 then e.core.lc.getD (i - 16) 0
  else if i < 20 then e.core.la.getD (i - 18) 0
  else e.statusWord

/-- The bits of STATUS that mts changes: S, DF, DV, WCOL and AERR. -/
def mtsMask : Nat := 0x8F0

/-- MFS. -/
def execMfs (n : Fin 8) (rd : Fin 16) (spr : Fin 21) (s : State) : Res :=
  .next (s.issueY n (.mfs n rd spr) fun e => ⟨e.fly 1 [(.d e.bank rd, e.spr spr)] 0 0 0, .next, false, []⟩)

/-- MTS. -/
def execMts (n : Fin 8) (spr : Fin 21) (rs : Fin 16) (s : State) : Res :=
  .next (s.issueY n (.mts n spr rs) fun e =>
    let v := e.D rs
    let i := spr.val
    let e := if i < 8 then e.fly 1 [(.p i, v)] 0 0 0
      else if i < 16 then e.fly 1 [(.m (i - 8), v)] 0 0 0
      else if i < 18 then e.fly 1 [(.lc (i - 16), v)] 0 0 0
      else if i < 20 then e.fly 1 [(.la (i - 18), v)] 0 0 0
      else e.fly 1 [] mtsMask v 0
    ⟨e, .next, false, []⟩)

/-! ### Program flow -/

/-- JMP. -/
def execJmp (n : Fin 8) (t : BitVec 13) (s : State) : Res := .next (s.issueFlow n (.jmp n t) fun e => (e, .branch t.toNat))

/-- Does a branch condition hold? -/
def AeSt.cond (e : AeSt) (c : Nat) : Bool :=
  let z := e.flag 0
  let lt := e.flag 1 != e.flag 3
  match c with
  | 0 => z
  | 1 => !z
  | 2 => lt
  | 3 => !lt
  | 4 => z || lt
  | 5 => !(z || lt)
  | 6 => !e.flag 2
  | 7 => e.flag 2
  | 8 => e.flag 4
  | 9 => e.flag 6
  | _ => e.flag 5

/-- BRCC. -/
def execBrcc (n : Fin 8) (c : Fin 11) (t : BitVec 13) (s : State) : Res :=
  .next (s.issueFlow n (.brcc n c t) fun e => (e, if e.cond c then .branch t.toNat else .next))

/-- A loop begins: its counter, addresses and active flag are set at once (R199, R200). -/
def AeSt.startLoop (e : AeSt) (l count last : Nat) : AeSt :=
  let c := e.core
  { e with core := { c with
    lc := listSet c.lc l count, la := listSet c.la l ((c.pc + 1) % 8192 + last * 2 ^ 16)
    status := setBit c.status (9 + l) true } }

/-- LOOP: `count` is the number of runs less one. -/
def execLoop (n : Fin 8) (l : Fin 2) (count : Fin 4096) (last : BitVec 13) (s : State) : Res :=
  .next (s.issueFlow n (.loop n l count last) fun e => (e.startLoop l (count + 1) last.toNat, .next))

/-- LOOPR: a count of 0 skips the body; one above 8,191 is taken as 8,191 and sets S (R200). -/
def execLoopr (n : Fin 8) (l : Fin 2) (rs : Fin 16) (last : BitVec 13) (s : State) : Res :=
  .next (s.issueFlow n (.loopr n l rs last) fun e =>
    let v := e.D rs
    if v = 0 then (e, .goto (last.toNat + 1))
    else
      let e := e.startLoop l (min v 8191) last.toNat
      (if 8191 < v then { e with core := { e.core with status := Nat.lor e.core.status 16 } } else e, .next))

/-- END (R178, R195): legal only in a slot. -/
def execEnd (n : Fin 8) (s : State) : Res :=
  let e := s.aeOf n
  if s.misplaced n (.end_ n) then .next (s.illegal n)
  else if s.issuesY n (.end_ n) then
    let used := e.core.cyc - e.start
    .next ((s.setAe n (e.close .next false)).slotEnd n used)
  else .next s

/-- WAIT (R187, R195): legal only in the save routine. -/
def execWait (n : Fin 8) (s : State) : Res :=
  let e := s.aeOf n
  if s.misplaced n (.wait n) then .next (s.illegal n)
  else if s.issuesY n (.wait n) then .next ((s.setAe n (e.close .next false)).aeMode n .yielded)
  else .next s

/-- RETB (R188, R195, R206): legal only in the restore routine; background code resumes at the saved program counter with
the saved status, and a yield that fell due is taken at once. -/
def execRetb (n : Fin 8) (s : State) : Res :=
  let e := s.aeOf n
  if s.misplaced n (.retb n) then .next (s.illegal n)
  else if s.issuesY n (.retb n) then
    let e := (e.close .next false).jump e.savePc
    let e := { e with core := { e.core with status := e.saveStatus } }
    .next (((s.setAe n e).aeMode n .bg).lateYield n)
  else .next s

/-- ILLEGAL_BUNDLE (R194): the bundle of the program memory that issues is illegal. [DEDUCED, safe, log 159] -/
def execIllegalBundle (n : Fin 8) (s : State) : Res :=
  if (s.aeOf n).issuing && s.bundleIllegal n then .next (s.illegal n) else .next s

end Sys2Proof.Machine
end

