-- ==== Sys2Proof/Machine/Library.lean ====
section
/-! DEFINITION. The library programs of the Aster engines, run whole when their slot starts: the current loop (R190), the
velocity and position loops with the observer (R191, R209 to R211), and supervision with the residual check, the
test-signal generator and the autotune commands (R212 to R223); with the commands that host software, Larkspur and the
autotune service give beside them. -/

namespace Sys2Proof.Machine

/-! ### Words of the block -/


/-- A word of an axis's block, and the same read as a signed number. -/
def State.bw (s : State) (m o : Nat) : Word := s.rd (axisWord m o)
def State.bi (s : State) (m o : Nat) : Int := (s.bw m o).int

/-- A word of an axis's block takes a signed number, or a word. -/
def State.setBi (s : State) (m o : Nat) (x : Int) : State := s.wr (axisWord m o) (Word.ofI x)
def State.setBw (s : State) (m o : Nat) (v : Word) : State := s.wr (axisWord m o) v

/-- Bits of a word of the block are set to a value. -/
def State.setBf (s : State) (m o lo w x : Nat) : State := s.setBw m o (putBits (s.bw m o) lo w x)

/-- sat32 of `x` shifted right (R201). -/
def ext (x : Int) (sh : Nat) : Int := satI 32 (floorDiv x (2 ^ sh))

/-- A word of the latched input page of the slot's axis. -/
def State.pageWord (s : State) (m i : Nat) : Word := (s.aeOf (m / 2)).page.getD (16 * (m % 2) + i) 0

/-- The engine cycles that the programs whose length the spec does not give have used: an open number below LEN.
[DEDUCED, unsafe, log 52] -/
def State.openCycles (s : State) (len : Nat) : Nat := s.freshWord.toNat % atLeast1 len

/-! ### The current loop -/

/-- 1 ÷ √3 and √3 ÷ 2 as the listing holds them (*The library current-loop slot*). -/
def invSqrt3 : Int := 0x49E69D16
def halfSqrt3 : Int := 0x6ED9EBA1

/-- A chain of division steps that begins with divs.f (R202): the accumulator, whose low word is the quotient, DF, and the
sticky DV. -/
def divChain : Nat → Bool → Bool → Bool → Nat → Nat → Nat × Bool × Bool
  | 0, _, df, dv, a, _ => (a, df, dv)
  | n + 1, first, df, dv, a, d => let r := divStep first df a d; divChain n false r.2.1 (dv || r.2.2) r.1 d

/-- One compare value from a phase voltage with its offset (R190). -/
def cmpOf (v period : Int) : Int := ext (ext (v * invSqrt3 + 2 ^ 61) 31 * period + 2 ^ 30) 31

/-- Does a value leave 32 bits, so that a saturating operation sets S? -/
def leaves32 (x : Int) : Bool := decide (satI 32 x ≠ x)

/-- Does an ext of the accumulator value `x` by `sh` saturate? -/
def extS (x : Int) (sh : Nat) : Bool := leaves32 (floorDiv x (2 ^ sh))

/-- The registers that a slot shares with what runs after it hold open values: those that a library program without a
listing leaves, and those of a program that was cut off (R193). [DEDUCED, safe, log 156] -/
def State.openCore (s : State) (n : Nat) : State :=
  let e := s.aeOf n
  let c := e.core
  let w := fun k => (Config.freeWord (s.free + k)).toNat
  let few := fun l k => (List.range l).map fun i => w (k + i)
  { s.setAe n { e with core := { c with
      d1 := few 16 0, p := few 8 16, m := few 8 24
      a := [w 32 + 2 ^ 32 * (w 33) + 2 ^ 64 * (w 34 % 2 ^ 8), w 35 + 2 ^ 32 * (w 36) + 2 ^ 64 * (w 37 % 2 ^ 8)]
      lc := [w 38 % 2 ^ 13, w 39 % 2 ^ 13], la := [Nat.land (w 40) 0x1FFF1FFF, Nat.land (w 41) 0x1FFF1FFF]
      status := Nat.land (w 42) 0xEFF } } with free := s.free + 43 }

/-- Library background code writes WE_K, the private word at offset 0x180, when POLE_PAIRS or SPEED_BASE has changed (*The
library current-loop slot*); it runs while AEn_CTL.BG_EN is 1. The quotient by a SPEED_BASE of 0 is an open value.
[DEDUCED, unsafe, log 157] -/
def State.deriveWeK (s : State) (m : Nat) : State :=
  let key := ((s.bw m 0x1C).toNat, (s.bw m 0x2C).toNat)
  if s.is (F.AE_CTL_BG_EN (m / 2)) && decide ((s.supOf m).weKey ≠ some key) then
    let k := if s.bi m 0x2C = 0 then s.freshWord
      else BitVec.ofNat 32 (unsigned 32 (floorDiv ((s.bw m 0x1C).toNat * 2 ^ 47) (s.bi m 0x2C)))
    (s.took.setBw m 0x180 k).setSup m { s.supOf m with weKey := some key }
  else s

/-- The library current slot of axis `m` (R190, *The library current-loop slot*): the state after its writes, and the
cycle at which it executes END. Its shared registers hold what the listing leaves in them: bank 1, the accumulators and
STATUS. [DEDUCED, unsafe, log 52] -/
def State.currentRun (s : State) (m : Nat) (tied : Bool) : State × Nat :=
  let w := fun i => (s.pageWord m i).int
  let iu := w 0
  let iv := w 1
  let ibe := ext ((iu + 2 * iv) * invSqrt3) 31
  let theta := ((s.bw m 0x1C).toNat * (s.pageWord m 4).toNat + (s.bw m 0x20).toNat) % 2 ^ 32
  let cos := trigQ31 (sinTurn (theta + 2 ^ 30)) s.freshWord.toNat
  let s := s.took
  let sin := trigQ31 (sinTurn theta) s.freshWord.toNat
  let s := s.took
  let weK := s.bi m 0x180
  let we := ext (w 6 * weK) 16
  let id := ext (iu * cos + ibe * sin) 31
  let iq := ext (ibe * cos - iu * sin) 31
  let ed := satI 32 (s.bi m 0x00 - id)
  let eq := satI 32 (s.bi m 0x04 - iq)
  let xd := s.bi m 0x110
  let xq := s.bi m 0x114
  let dec := ext (we * ext (s.bi m 0x14 * iq) 24) 31
  let ff := ext (we * satI 32 (ext (s.bi m 0x10 * id) 24 + s.bi m 0x18)) 31
  let kp := s.bi m 0x08
  let ki := s.bi m 0x0C
  let vd := ext (xd * 2 ^ 24 + kp * ed - dec * 2 ^ 24) 24
  let vq := ext (xq * 2 ^ 24 + kp * eq + ff * 2 ^ 24) 24
  let vnom := s.bi m 0x28
  let vdc := max (w 8) (floorDiv vnom 64)
  let num := unsigned 72 (floorDiv vnom 256 * 2 ^ 32 + unsigned 32 (vnom * 2 ^ 24))
  let q := divChain 32 true false false num (unsigned 32 vdc)
  let k := signed 32 (q.1 % 2 ^ 32)
  let vd0 := vd
  let vq0 := vq
  let vd := ext (vd0 * k) 24
  let vq := ext (vq0 * k) 24
  let mag := ext (vd * vd + vq * vq) 31
  let lim := s.bi m 0x24
  let root := rsqQ24 mag s.freshWord.toNat
  let s := s.took
  let limited := !decide (mag ≤ ext (lim * lim) 31)
  let f := ext (lim * signed 32 root.1) 31
  let vd1 := vd
  let vq1 := vq
  let vd := if limited then ext (vd1 * f) 24 else vd1
  let vq := if limited then ext (vq1 * f) 24 else vq1
  let s := s.when (!limited) fun s =>
    (s.setBi m 0x110 (ext (xd * 2 ^ 24 + ki * ed) 24)).setBi m 0x114 (ext (xq * 2 ^ 24 + ki * eq) 24)
  let s := (((s.setBi m 0x100 id).setBi m 0x104 iq).setBi m 0x108 vd).setBi m 0x10C vq
  let s := s.setBf m 0x11C 0 1 (bit limited)
  let vu := ext (vd * cos - vq * sin) 31
  let be := ext (vd * sin + vq * cos) 31
  let vb := ext (be * halfSqrt3) 31
  let va := satI 32 (-(floorDiv vu 2))
  let vv := satI 32 (va + vb)
  let vw := satI 32 (va - vb)
  let hi := max (max vu vv) vw
  let lo := min (min vu vv) vw
  let off := satI 32 (-(floorDiv (satI 32 (hi + lo)) 2))
  let c := fun v => cmpOf (satI 32 (v + off)) (w 9)
  let du := fun v => (satI 32 (v + off)) * invSqrt3 + 2 ^ 61
  let lim2 := lim * lim
  let sat := extS ((iu + 2 * iv) * invSqrt3) 31 || extS (w 6 * weK) 16 || extS (iu * cos + ibe * sin) 31 ||
    extS (ibe * cos - iu * sin) 31 || leaves32 (s.bi m 0x00 - id) || leaves32 (s.bi m 0x04 - iq) ||
    extS (s.bi m 0x14 * iq) 24 || extS (we * ext (s.bi m 0x14 * iq) 24) 31 || extS (s.bi m 0x10 * id) 24 ||
    leaves32 (ext (s.bi m 0x10 * id) 24 + s.bi m 0x18) ||
    extS (we * satI 32 (ext (s.bi m 0x10 * id) 24 + s.bi m 0x18)) 31 ||
    extS (xd * 2 ^ 24 + kp * ed - dec * 2 ^ 24) 24 || extS (xq * 2 ^ 24 + kp * eq + ff * 2 ^ 24) 24 ||
    extS (vd0 * k) 24 || extS (vq0 * k) 24 || extS (vd1 * vd1 + vq1 * vq1) 31 || extS lim2 31 || root.2 ||
    (limited && (extS (lim * signed 32 root.1) 31 || extS (vd1 * f) 24 || extS (vq1 * f) 24)) ||
    (!limited && (extS (xd * 2 ^ 24 + ki * ed) 24 || extS (xq * 2 ^ 24 + ki * eq) 24)) ||
    extS (vd * cos - vq * sin) 31 || extS (vd * sin + vq * cos) 31 || extS (be * halfSqrt3) 31 ||
    leaves32 (-(floorDiv vu 2)) || leaves32 (va + vb) || leaves32 (va - vb) || leaves32 (hi + lo) ||
    leaves32 (-(floorDiv (satI 32 (hi + lo)) 2)) ||
    [vu, vv, vw].any fun v => leaves32 (v + off) || extS (du v) 31 || extS (ext (du v) 31 * w 9 + 2 ^ 30) 31
  let n := m / 2
  let e := s.aeOf n
  let lib := (s.bw m 0x11C).toNat
  let l2 := ext lim2 31
  let flags := znOf lib + 4 * bit (decide (unsigned 32 l2 ≤ unsigned 32 mag)) + 8 * bit (leaves32 (mag - l2)) +
    16 * bit sat + 32 * bit q.2.1 + 64 * bit q.2.2
  let core := { e.core with
    d1 := [c vw, ext (du vv) 31, ed, vq, ext (du vw) 31, w 9, eq, vd, invSqrt3, c vu, c vv, bit limited, cos, sin, 1,
      (lib : Int)].map (unsigned 32)
    a := [ext (du vv) 31 * w 9 + 2 ^ 30, ext (du vw) 31 * w 9 + 2 ^ 30].map (unsigned 72)
    status := flags + if tied then 0 else 2 ^ 11 }
  let s := s.setAe n { e with core := core }
  let s := if tied then
      s.setAe n { s.aeOf n with cmp := [(m, 0, unsigned 32 (c vu)), (m, 1, unsigned 32 (c vv)), (m, 2, unsigned 32 (c vw))] }
    else s.each [0, 1, 2] fun (_ : Nat) s => s.raiseSt (evAxis (2 * n) + 17) (R.AE_STATUS n)
  (s, if limited then 165 else 163)

/-! ### The observer and the outer loops -/

/-- ω_o T_o as a fraction (R210), clamped at 0.3, for a bandwidth in Hz and a step of `t` × 250 ps. -/
def omegaT (bw t : Nat) : Int × Int × Bool :=
  let n : Int := 2 * piFix * (bw * t : Nat)
  let d : Int := 2 ^ 60 * 4000000000
  if 3 * d < 10 * n then (3, 10, true) else (n, d, false)

/-- Library background code derives the correction gains when OBS_BW or T_o has changed (R210); it runs while AEn_CTL.BG_EN
is 1. [DEDUCED, unsafe, log 157] -/
def State.deriveGains (s : State) (m t : Nat) : State :=
  let key := (getBits (s.bw m 0x210) 0 16, t)
  if s.is (F.AE_CTL_BG_EN (m / 2)) && decide ((s.supOf m).gain ≠ some key) then
    (s.setBf m 0x204 1 1 (bit (omegaT key.1 t).2.2)).setSup m { s.supOf m with gain := some key }
  else s

/-- ω_o T_o of the gains in force as a fraction, and their T_o; all gains are 0 before the first derivation. -/
def SupSt.omega (x : SupSt) : Int × Int × Nat :=
  match x.gain with
  | some (bw, t) => let o := omegaT bw t; (o.1, o.2.1, t)
  | none => (0, 1, 1)

/-- The observer step of R209, or its re-initialisation (R211); `t` is T_o in units of 250 ps. [DEDUCED, unsafe, log 65] -/
def State.observe (s : State) (m t : Nat) : State :=
  let s := s.deriveGains m t
  let x := s.supOf m
  let p := signed 64 ((s.pageWord m 4).toNat + 2 ^ 32 * (s.pageWord m 5).toNat)
  let ok := testBit (s.pageWord m 10).toNat 1
  let again := getBits (s.bw m 0x200) 7 1 == 1 || (ok && !x.posOk)
  let po := s.rd64 (axisWord m 0x220) (axisWord m 0x224)
  let vo := s.bi m 0x228
  let d := s.bi m 0x22C
  let sec : Int := 4000000000
  let pp := po + floorDiv (vo * t * 65536) sec
  let e := satI 32 (floorDiv (p - pp) 65536)
  let am := satI 32 (floorDiv (s.bi m 0x208 * s.bi m 0x104) (2 ^ 31) - floorDiv (s.bi m 0x20C * vo) (2 ^ 32) - d)
  let (wn, wd, tg) := x.omega
  let tt : Int := atLeast1 tg
  let p1 := pp + floorDiv (3 * wn * e * 65536) wd
  let v1 := satI 32 (vo + floorDiv (am * t * 256) sec + floorDiv (3 * wn * wn * sec * e) (wd * wd * tt))
  let d1 := satI 32 (d - floorDiv (wn * wn * wn * sec * sec * e) (wd * wd * wd * tt * tt * 256))
  let settle := getBits (s.bw m 0x210) 16 16
  let put := fun (s : State) (p v d : Int) =>
    (((s.wr64 (axisWord m 0x220) (axisWord m 0x224) p).setBi m 0x228 v).setBi m 0x22C d).setBw m 0x230 (s.pageWord m 7)
  if again then
    let s := (put s p (s.pageWord m 6).int 0).setBf m 0x200 7 1 0
    (s.setBf m 0x204 0 1 0).setSup m { x with init := true, settle := 0, amod := 0, posOk := ok }
  else
    let s := put s p1 v1 d1
    let n := x.settle + 1
    (s.when (x.init && decide (settle ≤ n)) fun s => s.setBf m 0x204 0 1 1).setSup m { x with settle := n, amod := am, posOk := ok }

/-- The library outer slot of axis `m` with the divider `div` (R191, R209, R215); `t` is T_loop in units of 250 ps.
[DEDUCED, unsafe, log 52] -/
def State.outerRun (s : State) (m t div : Nat) : State :=
  let s := s.observe m (t * div)
  let x := s.supOf m
  let mode := (s.bw m 0x48).toNat
  let pd := (s.bw m 0x4C).toNat
  let err := decide (16 < div * pd)
  let s := s.setBf m 0x11C 2 1 (bit err)
  let out := s.bi m 0x264
  let lvl := match x.gen with
    | some g => some g.level
    | none => none
  let pos := s.rd64 (axisWord m 0x50) (axisWord m 0x54)
  let p := signed 64 ((s.pageWord m 4).toNat + 2 ^ 32 * (s.pageWord m 5).toNat)
  let pref := if testBit (s.pageWord m 10).toNat 2
    then signed 64 ((s.pageWord m 12).toNat + 2 ^ 32 * (s.pageWord m 13).toNat) else pos
  let vref := if testBit (s.pageWord m 10).toNat 2 then (s.pageWord m 14).int else s.bi m 0x58
  let aref := if testBit (s.pageWord m 10).toNat 2 then (s.pageWord m 15).int else s.bi m 0x5C
  let perr := satI 32 (floorDiv (pref - p) 65536) + (if lvl = some 3 then out else 0)
  let vcmd :=
    if mode == 2 then if !err && x.run % atLeast1 pd == 0 then ext (s.bi m 0x40 * satI 32 perr + s.bi m 0x44 * vref) 24 else x.vcmd
    else if mode == 1 then vref else x.vcmd
  let s := s.setSup m { x with run := x.run + 1, div := div, vcmd := vcmd }
  if mode == 0 then s
  else
    let e := satI 32 (vcmd + (if lvl = some 2 then out else 0) - s.bi m 0x228)
    let xv := s.bi m 0x118
    let iq := satI 32 (floorDiv (s.bi m 0x30 * e) (2 ^ 9) + xv + floorDiv (s.bi m 0x38 * aref) 2)
    let lim := min (s.bi m 0x3C) (s.bi m 0x64)
    let beyond := decide (lim < (absN iq : Int))
    let s := s.when (!beyond) fun s => s.setBi m 0x118 (satI 32 (xv + floorDiv (s.bi m 0x34 * e) (2 ^ 9)))
    let iq := if beyond then (if iq < 0 then -lim else lim) else iq
    let s := s.setBf m 0x11C 1 1 (bit beyond)
    let base := decide (lvl = some 0 ∨ lvl = some 1)
    if base then (s.setBi m 0x26C iq).setBw m 0x268 (s.bw m 0x60)
    else (s.setBi m 0x04 iq).setBw m 0x00 (s.bw m 0x60)

/-! ### The generator -/

/-- The taps of *PRBS taps*. -/
def prbsTaps : Nat → List Nat
  | 7 => [7, 6]
  | 8 => [8, 6, 5, 4]
  | 9 => [9, 5]
  | 10 => [10, 7]
  | 11 => [11, 9]
  | 12 => [12, 11, 10, 4]
  | 13 => [13, 12, 11, 8]
  | 14 => [14, 13, 12, 2]
  | _ => [15, 14]

/-- One shift of the sequence of order n: stage i is bit i − 1, and the last stage is the output.
[DEDUCED, unsafe, log 65] -/
def prbsShift (n x : Nat) : Nat :=
  let f := (prbsTaps n).foldl (fun a t => a + x / 2 ^ (t - 1) % 2) 0 % 2
  (2 * x + f) % 2 ^ n

/-- The largest x below r + 2^`n` whose `k`th power is at most `y`. -/
def powRoot (k y : Nat) : Nat → Nat → Nat
  | 0, r => r
  | n + 1, r => if (r + 2 ^ n) ^ k ≤ y then powRoot k y n (r + 2 ^ n) else powRoot k y n r

/-- The frequency of step k of a stepped sine (R216), in units of 2^-16 Hz, truncated. [DEDUCED, unsafe, log 65] -/
def stepFreq (f0 f1 steps k : Nat) : Nat :=
  let n := atLeast1 (steps - 1)
  powRoot n (f0 ^ (n - k) * f1 ^ k) 32 0

/-- The phase advance of one run at a frequency in 2^-16 Hz, in units of 2^-32 turn; `t` is T_loop in units of 250 ps. -/
def phaseStep (f t : Nat) : Nat := f * t * 65536 / 4000000000

/-- The base periods of `n` whole periods of a frequency, rounded up (R216). [DEDUCED, unsafe, log 65] -/
def periodRuns (f t n : Nat) : Nat := ceilDiv (n * 65536 * 4000000000) (atLeast1 (f * t))

/-- TS_AMP × sin φ. -/
def tone (amp : Int) (phase : Nat) (w : Nat) : Int := floorDiv (amp * trigQ31 (sinTurn phase) w) (2 ^ 31)

/-- One run of the generator (R216): the signal, whether a measurement runs and whether it begins, and the generator
afterwards. [DEDUCED, unsafe, log 65] -/
def Gen.run (g : Gen) (t w : Nat) : Int × Bool × Bool × Gen :=
  match g.type with
  | 0 =>
    let v := if g.lfsr / 2 ^ (g.order - 1) % 2 == 1 then g.amp else -g.amp
    if g.runs + 1 < g.hold then (v, false, false, { g with runs := g.runs + 1 })
    else
      let last := g.bits + 1 == 2 ^ g.order - 1
      (v, false, false, { g with
        runs := 0, lfsr := prbsShift g.order g.lfsr, bits := if last then 0 else g.bits + 1
        rep := if last then g.rep - 1 else g.rep })
  | 1 =>
    let n := ceilDiv (g.dur * 4000000) (atLeast1 t)
    let f := g.f0 + (g.f1 - g.f0) * (g.runs * t) / atLeast1 (g.dur * 4000000)
    let v := tone g.amp g.phase w
    if g.runs + 1 < n then
      (v, false, false, { g with runs := g.runs + 1, phase := (g.phase + phaseStep f t) % 2 ^ 32 })
    else (v, false, false, { g with runs := 0, phase := 0, rep := g.rep - 1 })
  | _ =>
    let f := stepFreq g.f0 g.f1 g.steps g.step
    let a := periodRuns f t g.settle
    let b := a + periodRuns f t g.measure
    let v := tone g.amp g.phase w
    let m := decide (a ≤ g.runs)
    let mark := g.runs == a
    if g.runs + 1 < b then (v, m, mark, { g with runs := g.runs + 1, phase := (g.phase + phaseStep f t) % 2 ^ 32 })
    else
      let last := g.step + 1 == g.steps
      (v, m, mark, { g with
        runs := 0, phase := 0, step := if last then 0 else g.step + 1, rep := if last then g.rep - 1 else g.rep })

/-- TS_STATUS or AT_STATUS takes STATE and REASON. -/
def State.setRun (s : State) (m o st reason : Nat) : State := (s.setBf m o 0 3 st).setBf m o 4 4 reason

/-- The generator ends: TS_OUT is 0 and TS_STATUS says why; an autotune stage that drove it fails unless it is done. -/
def State.genEnd (s : State) (m st reason : Nat) : State :=
  let x := s.supOf m
  let s := s.setSup m { x with gen := none }
  let s := ((s.setBi m 0x264 0).setRun m 0x260 st reason).setBf m 0x260 3 1 0
  if st == 3 && x.stage != 0 then (s.setRun m 0x284 3 7).setSup m { s.supOf m with stage := 0 } else s

/-- TS_MARK takes the stamp of S (R220). -/
def State.genMark (s : State) (m : Nat) : State :=
  (s.setBw m 0x274 (s.pageWord m 7)).setSup m { s.supOf m with mark := true }

/-- A run of the generator, with its signal and the references of levels 0 and 1 (R215, R216). Stage 1 of autotune goes on
with level 1 in the run after its last bit of level 0 (R221). -/
def State.genRun (s : State) (m t : Nat) : State :=
  match (s.supOf m).gen with
  | none => s
  | some g =>
    let g := if g.rep == 0 && (s.supOf m).stage == 1 && g.level == 0 then { g with level := 1, rep := 1 } else g
    if g.rep == 0 then s.genEnd m 2 0
    else
      let r := g.run t s.freshWord.toNat
      let s := (s.took.setSup m { s.supOf m with gen := some r.2.2.2 }).setBi m 0x264 r.1
      let s := (s.setBf m 0x260 3 1 (bit r.2.1)).setBf m 0x260 16 8 g.step
      let s := s.when r.2.2.1 fun s => s.genMark m
      if g.level == 0 then
        (s.setBi m 0x00 (satI 32 (s.bi m 0x268 + r.1))).setBw m 0x04 (s.bw m 0x26C)
      else if g.level == 1 then
        (s.setBi m 0x04 (satI 32 (s.bi m 0x26C + r.1))).setBw m 0x00 (s.bw m 0x268)
      else s

/-- The latched position of the slot's axis. -/
def State.pagePos (s : State) (m : Nat) : Int := signed 64 ((s.pageWord m 4).toNat + 2 ^ 32 * (s.pageWord m 5).toNat)

/-- Why a running generator aborts at this run, if it does (R219), other than a host abort. -/
def State.genAbort (s : State) (m : Nat) : Option Nat :=
  match (s.supOf m).gen with
  | none => none
  | some g =>
    let win := (s.bw m 0x258).toNat
    if getBits (s.bw m 0x204) 4 1 == 1 then some 7
    else if win != 0 && decide (win * 65536 < absN (s.pagePos m - g.pos)) then some 8
    else if (s.bw m 0x270).toNat != g.ticket then some 9
    else if s.pageWord m 3 = (s.supOf m).stamp then some 10
    else none

/-- Why a start is refused (R217), if it is; PRBS_ORDER, PRBS_HOLD and STEPS are checked whatever TYPE says.
[DEDUCED, unsafe, log 66] -/
def State.genRefusal (s : State) (m t : Nat) : Option Nat :=
  let x := s.supOf m
  let c := s.bw m 0x240
  let ty := getBits c 0 2
  let lvl := getBits c 2 2
  let mode := (s.bw m 0x48).toNat
  let f0 := (s.bw m 0x248).toNat
  let f1 := (s.bw m 0x24C).toNat
  let ord := getBits c 4 4
  let steps := getBits (s.bw m 0x254) 0 8
  if x.gen.isSome || x.stage != 0 then some 1
  else if getBits (s.bw m 0x25C) 16 16 != (s.bw m 0x270).toNat then some 2
  else if (lvl == 2 && !(mode == 1 || mode == 2)) || (lvl == 3 && mode != 2) then some 3
  else if (ty == 1 || ty == 2) && (f0 == 0 || decide (f1 < f0) || decide (65536 * 1000000000 < f1 * t)) then some 4
  else if ty == 3 || ord < 7 || getBits c 8 8 == 0 || steps < 2 then some 5
  else none

/-- The generator that the words of the block describe (R216). -/
def State.genOf (s : State) (m : Nat) : Gen :=
  let c := s.bw m 0x240
  let d := s.bw m 0x254
  ⟨getBits c 0 2, getBits c 2 2, getBits c 4 4, getBits c 8 8, atLeast1 (getBits c 16 8), s.bi m 0x244,
   (s.bw m 0x248).toNat, (s.bw m 0x24C).toNat, (s.bw m 0x250).toNat, getBits d 0 8, getBits d 8 8,
   atLeast1 (getBits d 16 8), (s.bw m 0x270).toNat, s.pagePos m, 0, 0, 2 ^ getBits c 4 4 - 1, 0, 0⟩

/-- A generator begins (R217, R220). -/
def State.genStart (s : State) (m : Nat) (g : Gen) : State :=
  ((s.setSup m { s.supOf m with gen := some g }).setRun m 0x260 1 0).genMark m

/-- A new TS_CMD is acted on (R217). -/
def State.tsCommand (s : State) (m t : Nat) : State :=
  let c := s.bw m 0x25C
  if getBits c 8 8 == getBits (s.bw m 0x260) 8 8 then s
  else
    let s := s.setBf m 0x260 8 8 (getBits c 8 8)
    match getBits c 0 3 with
    | 1 => match s.genRefusal m t with
      | some r => s.setRun m 0x260 4 r
      | none => s.genStart m (s.genOf m)
    | 2 => if (s.supOf m).gen.isSome then s.genEnd m 3 6 else s
    | _ => s

/-! ### Autotune -/

/-- The offsets of the eight gains in the order of the proposal words (*Supervision words*). -/
def gainWords : List Nat := [0x08, 0x0C, 0x30, 0x34, 0x38, 0x40, 0x44]

/-- The gains in force as eight words; OBS_BW is the low half of its word. -/
def State.gainsNow (s : State) (m : Nat) : List Word :=
  gainWords.map (s.bw m) ++ [BitVec.ofNat 32 (getBits (s.bw m 0x210) 0 16)]

/-- Eight words from an offset of the block. -/
def State.eight (s : State) (m o : Nat) : List Word := (List.range 8).map fun i => s.bw m (o + 4 * i)

/-- Eight words to an offset of the block. -/
def State.setEight (s : State) (m o : Nat) (l : List Word) : State :=
  s.each l.zipIdx fun w s => s.setBw m (o + 4 * w.2) w.1

/-- Eight words into the gains in force. -/
def State.setGains (s : State) (m : Nat) (l : List Word) : State :=
  let s := s.each (gainWords.zip l) fun w s => s.setBw m w.1 w.2
  s.setBf m 0x210 0 16 (l.getD 7 0).toNat

/-- The excitation of a stage (R221): amplitudes of stages 2 and 3 are the service's own, left open.
[DEDUCED, unsafe, log 66] -/
def State.stageGen (s : State) (m stage : Nat) : Gen :=
  let tk := (s.bw m 0x270).toNat
  match stage with
  | 1 => ⟨0, 0, 9, 1, 1, s.bi m 0x290, 0, 0, 0, 0, 0, 0, tk, s.pagePos m, 0, 0, 511, 0, 0⟩
  | 2 => ⟨0, 1, 11, 2, 1, s.freshWord.int, 0, 0, 0, 0, 0, 0, tk, s.pagePos m, 0, 0, 2047, 0, 0⟩
  | _ => ⟨1, 1, 0, 1, 1, s.freshWord.int, 5 * 65536, (s.bw m 0x29C).toNat * 65536, 4000, 0, 0, 0, tk, s.pagePos m, 0, 0, 0,
          0, 0⟩

/-- A stage command is acted on (R221). [DEDUCED, unsafe, log 66] -/
def State.stageStart (s : State) (m stage : Nat) : State :=
  let x := s.supOf m
  let mode := (s.bw m 0x48).toNat
  if x.gen.isSome || x.stage != 0 then s.setRun m 0x284 4 1
  else if getBits (s.bw m 0x280) 16 16 != (s.bw m 0x270).toNat then s.setRun m 0x284 3 7
  else if stage == 1 && decide (65536 ≤ absN (s.bi m 0x228) * 100) then s.setRun m 0x284 3 3
  else if stage == 2 && mode != 1 && mode != 2 then s.setRun m 0x284 3 5
  else if stage == 3 && mode != 1 && mode != 2 then (s.setRun m 0x284 3 s.freshWord.toNat).took
  else
    let g := s.stageGen m stage
    let s := ((s.took.setSup m { x with stage := stage }).setRun m 0x284 1 0).setBf m 0x284 16 8 stage
    s.genStart m g

/-- A new AT_CMD is acted on (R221, R223). -/
def State.atCommand (s : State) (m : Nat) : State :=
  let c := s.bw m 0x280
  if getBits c 8 8 == getBits (s.bw m 0x284) 8 8 then s
  else
    let x := s.supOf m
    let s := s.setBf m 0x284 8 8 (getBits c 8 8)
    match getBits c 0 3 with
    | 1 => s.stageStart m 1
    | 2 => s.stageStart m 2
    | 3 => s.stageStart m 3
    | 4 =>
      if x.gen.isSome then s.setRun m 0x284 4 1
      else if getBits c 16 16 != (s.bw m 0x298).toNat then s.setRun m 0x284 4 6
      else if getBits (s.bw m 0x284) 3 1 == 0 then s.setRun m 0x284 4 8
      else ((s.setEight m 0x340 (s.gainsNow m)).setGains m (s.eight m 0x300)).setRun m 0x284 2 0
    | 5 =>
      if x.gen.isSome then s.setRun m 0x284 4 1
      else
        let now := s.gainsNow m
        ((s.setGains m (s.eight m 0x340)).setEight m 0x340 now).setRun m 0x284 2 0
    | 6 => if x.stage == 0 then s
      else
        let s := s.when x.gen.isSome fun s => s.genEnd m 3 6
        (s.setSup m { s.supOf m with stage := 0 }).setRun m 0x284 3 7
    | _ => s

/-! ### Supervision -/

/-- The residual check of R212 and R213. -/
def State.residuals (s : State) (m : Nat) : State :=
  let x := s.supOf m
  let st := s.bw m 0x204
  if getBits (s.bw m 0x200) 0 1 == 0 || getBits st 0 1 == 0 || !testBit (s.pageWord m 10).toNat 1 then s
  else
    let dt := (s.pageWord m 7 - s.bw m 0x230).int
    let po := s.rd64 (axisWord m 0x220) (axisWord m 0x224)
    let vo := s.bi m 0x228
    let ns : Int := 1000000000
    let pred := po + floorDiv (vo * 65536 * dt) ns + floorDiv (x.amod * 2 ^ 24 * dt * dt) (2 * ns * ns)
    let rp := satI 32 (floorDiv (s.pagePos m - pred) 65536)
    let rv := satI 32 ((s.pageWord m 6).int - (vo + floorDiv (x.amod * 256 * dt) ns))
    let pOut := decide ((s.bw m 0x214).toNat < absN rp)
    let vOut := decide ((s.bw m 0x218).toNat < absN rv)
    let s := (s.setBi m 0x234 rp).setBi m 0x238 rv
    let s := (s.setBf m 0x204 2 1 (bit pOut)).setBf m 0x204 3 1 (bit vOut)
    let fails := if pOut || vOut then x.fails + 1 else 0
    let lim := atLeast1 (getBits (s.bw m 0x200) 3 4)
    (s.setSup m { x with fails := fails }).when (lim ≤ fails) fun s => s.setBf m 0x204 4 1 1

/-- FAULT_CLR of SUP_CTL is acted on and cleared; only a passing run resets the consecutive count (R213). -/
def State.supClear (s : State) (m : Nat) : State :=
  if getBits (s.bw m 0x200) 8 1 == 1 then (s.setBf m 0x204 4 1 0).setBf m 0x200 8 1 0 else s

/-- Does host software abort in this run: by a new TS_CMD of OP 2, or a new AT_CMD of OP 6 while a stage runs (R219)? -/
def State.hostAbort (s : State) (m : Nat) : Bool :=
  let fresh := fun (cmd ack op : Nat) =>
    getBits (s.bw m cmd) 8 8 != getBits (s.bw m ack) 8 8 && getBits (s.bw m cmd) 0 3 == op
  fresh 0x25C 0x260 2 || (fresh 0x280 0x284 6 && (s.supOf m).stage != 0)

/-- The library supervision slot of axis `m` (R212 to R223); `t` is T_loop in units of 250 ps. [DEDUCED, unsafe, log 52] -/
def State.superviseRun (s : State) (m t : Nat) : State :=
  let s := (s.supClear m).residuals m
  let s := match s.genAbort m with
    | some r =>
      if s.hostAbort m then s else s.genEnd m 3 r
    | none => s
  let s := ((s.tsCommand m t).atCommand m).genRun m t
  s.setSup m { s.supOf m with stamp := s.pageWord m 3 }

/-! ### SLOT_START -/

/-- The T_loop of the table in force, in units of 250 ps. -/
def State.tableLoop (s : State) (n : Nat) : Nat :=
  match (s.aeOf n).table with
  | some tb => tb.tLoop
  | none => 0

/-- What a library program does, from the inputs latched at its START: its writes reach the block when its END releases
them. -/
def State.libEffect (s : State) (n : Nat) (f : SlotF) (prog : AeProg) : State :=
  let m := f.home n
  let t := s.tableLoop n
  match prog with
  | .bundles => s
  | .current => (s.currentRun m f.tied).1
  | .outer => (s.outerRun m t f.div).openCore n
  | .supervision => (s.superviseRun m t).openCore n

/-- A library program begins (R190): when its END will come. -/
def State.libStart (s : State) (n : Nat) (f : SlotF) (prog : AeProg) : State :=
  let run := fun (used : Nat) => { s.aeOf n with lib := some ⟨prog, used, s.free⟩ }
  match prog with
  | .bundles => s
  | .current =>
    let s := s.deriveWeK (f.home n)
    let r := s.currentRun (f.home n) f.tied
    { s.setAe n { s.aeOf n with lib := some ⟨prog, r.2, s.free⟩ } with free := r.1.free }
  | _ => (s.setAe n (run (s.openCycles f.len))).took

/-- The END of a library program whose cycle has begun: its effect, and the release of what it has staged (R178, R185).
[DEDUCED, unsafe, log 52] -/
def State.libDue (s : State) (n : Nat) : State :=
  let e := s.aeOf n
  match e.lib with
  | none => s
  | some r =>
    if e.slot.len ≤ r.used || decide (max s.cycNow e.core.cyc ≤ e.start + r.used) then s
    else
      let s := s.setAe n (e.idleTo (e.start + r.used))
      let s1 := ({ s with free := r.free } : State).libEffect n e.slot r.prog
      ({ s1 with free := max s.free s1.free } : State).slotEnd n r.used

/-- The library programs whose END has come. -/
def State.libsDue (s : State) : State := s.each (List.range 8) fun n s => s.libDue n

/-- SLOT_START (R176): slot `k` of the table in force reaches its START. `prog` says what stands at its entry point: bundles
of the program memory, or a library program. [DEDUCED, unsafe, log 52; DEDUCED, safe, log 156] -/
def execSlotStart (n : Fin 8) (k : Fin 32) (prog : AeProg) (s : State) : Res :=
  let s := s.libDue n
  match s.dueSlot n k with
  | none => .next s
  | some f =>
    let (s, begun) := s.slotStart n f
    if begun then .next (s.libStart n f prog) else .next s

/-- SLOT_OVERRUN (R180): the running slot has not executed END by START + L. A library program that is cut off leaves open
values in the shared registers. -/
def execSlotOverrun (n : Fin 8) (s : State) : Res :=
  let s := s.libDue n
  let e := s.aeOf n
  if e.mode = .slot ∧ s.windowOver n then
    let s := s.setAe n (e.idleTo (e.start + e.slot.len))
    let s := s.when e.lib.isSome fun s => s.openCore n
    .next ((s.slotOverrun n).applyBursts n)
  else .next s

/-- The engine turns to its background code in a gap that is long enough: begins it, or resumes it through RESTORE (R188); else
it is idle. -/
def State.toBackground (s : State) (n : Fin 8) : State :=
  let long := match s.gap n with
    | some g => decide (s.g (F.AE_SCHED_YIELD_LEAD n) + s.g (F.AE_SCHED_RESUME_MIN n) ≤ g)
    | none => true
  if !s.bgAllowed n || !long then s.aeMode n .idle
  else if (s.aeOf n).fresh then s.bgEntry n
  else (s.setAe n ((s.aeOf n).jump (s.g (F.AE_BG_VEC2_RESTORE n)))).aeMode n .restore

/-- SLOT_WINDOW_END (R179, R185, R188): the window of the latest slot, run or skipped, ends; held bursts apply, and
background code goes on through RESTORE, or from BG_ENTRY, when the gap allows. -/
def execSlotWindowEnd (n : Fin 8) (s : State) : Res :=
  let s := s.libDue n
  let e := s.aeOf n
  if (e.mode = .done ∨ e.mode = .idle ∨ e.mode = .yielded) ∧ s.windowOver n
  then .next (((s.setAe n (e.idleTo (e.start + e.slot.len))).applyBursts n).toBackground n)
  else .next s

/-! ### Commands of host software, Larkspur and the service -/

/-- A host write of one word of an axis's block. -/
def State.hostWord (s : State) (rq : Rq) (m o : Nat) (v : Word) : State :=
  s.write rq (axisWord m o) fun s => s.hostBlock rq m [(o, v)]

/-- A command word: OP, SEQ and ARG (*TS_CMD and AT_CMD*). -/
def cmdWord (op : Nat) (seq : BitVec 8) (arg : BitVec 16) : Word :=
  BitVec.ofNat 32 (op + 256 * seq.toNat + 65536 * arg.toNat)

/-- TS_START (R217): the start is written; the next supervision run acts on it. -/
def execTsStart (rq : Rq) (m : Fin 16) (seq : BitVec 8) (ticket : BitVec 16) (s : State) : Res :=
  .next (s.hostWord rq m 0x25C (cmdWord 1 seq ticket))

/-- TS_ABORT (R219). -/
def execTsAbort (rq : Rq) (m : Fin 16) (seq : BitVec 8) (s : State) : Res :=
  .next (s.hostWord rq m 0x25C (cmdWord 2 seq 0))

/-- OBS_RESET (R211). -/
def execObsReset (rq : Rq) (m : Fin 16) (s : State) : Res :=
  .next (s.hostWord rq m 0x200 (putBits (s.bw m 0x200) 7 1 1))

/-- SUP_FAULT_CLR (R213). -/
def execSupFaultClr (rq : Rq) (m : Fin 16) (s : State) : Res :=
  .next (s.hostWord rq m 0x200 (putBits (s.bw m 0x200) 8 1 1))

/-- SUP_SCAN (R214, R220): Larkspur reads SUP_STATUS; RES_FAULT newly set raises a supervision event and the reaction
that RES_ACTION selects, and a new generator mark becomes its event. [DEDUCED, unsafe, log 68] -/
def execSupScan (m : Fin 16) (s : State) : Res :=
  let x := s.supOf m
  let fault := getBits (s.bw m 0x204) 4 1 == 1
  let s := s.setSup m { x with seen := fault, mark := false }
  let s := s.when x.mark fun s => s.raise (evAxis m + 13) (s.bw m 0x274)
  if fault && !x.seen then
    let s := s.chanEvent m 5
    match getBits (s.bw m 0x200) 1 2 with
    | 0 => .next s
    | 1 => .next (s.configuredStop m)
    | _ => .next ((s.on (F.AX_PWM_STATUS_LAUNCH_OFF m)).offStop m)
  else .next s

/-- AT_CURRENT_PLANT (R221). -/
def execAtCurrentPlant (rq : Rq) (m : Fin 16) (seq : BitVec 8) (ticket : BitVec 16) (s : State) : Res :=
  .next (s.hostWord rq m 0x280 (cmdWord 1 seq ticket))

/-- AT_MECHANICS (R221). -/
def execAtMechanics (rq : Rq) (m : Fin 16) (seq : BitVec 8) (ticket : BitVec 16) (s : State) : Res :=
  .next (s.hostWord rq m 0x280 (cmdWord 2 seq ticket))

/-- AT_RESONANCE (R221). -/
def execAtResonance (rq : Rq) (m : Fin 16) (seq : BitVec 8) (ticket : BitVec 16) (s : State) : Res :=
  .next (s.hostWord rq m 0x280 (cmdWord 3 seq ticket))

/-- AT_APPLY (R223): ARG is the number of the proposal. -/
def execAtApply (rq : Rq) (m : Fin 16) (seq : BitVec 8) (number : BitVec 16) (s : State) : Res :=
  .next (s.hostWord rq m 0x280 (cmdWord 4 seq number))

/-- AT_UNDO (R223). -/
def execAtUndo (rq : Rq) (m : Fin 16) (seq : BitVec 8) (s : State) : Res :=
  .next (s.hostWord rq m 0x280 (cmdWord 5 seq 0))

/-- AT_ABORT (R221). -/
def execAtAbort (rq : Rq) (m : Fin 16) (seq : BitVec 8) (s : State) : Res :=
  .next (s.hostWord rq m 0x280 (cmdWord 6 seq 0))

/-- min(AT_BW_I ÷ AT_RATIO, f_r ÷ 3) in Hz as a fraction (R222); `fr` is 0 without a resonance. -/
def loopFreq (bw ratio fr : Nat) : Int × Int :=
  if fr != 0 && decide (fr * ratio < 3 * bw) then ((fr : Int), 3) else ((bw : Int), (atLeast1 ratio : Int))

/-- The lowest identified resonance in Hz. -/
def State.lowRes (s : State) (m : Nat) : Nat := getBits (s.bw m 0x2BC) 0 16

/-- The proposal of R222 from the identified quantities that are available; a gain without its quantity keeps the word in
force. [DEDUCED, unsafe, log 67] -/
def State.proposal (s : State) (m : Nat) : List Word :=
  let x := s.supOf m
  let now := s.gainsNow m
  let t : Int := match (s.aeOf (m / 2)).table with
    | some tb => (tb.tLoop : Int)
    | none => 0
  let sec : Int := 4000000000
  let bw := (s.bw m 0x288).toNat
  let two : Int := 2 * piFix
  let q : Int := 2 ^ 60
  let w := loopFreq bw (s.bw m 0x28C).toNat (s.lowRes m)
  let fin := fun (x : Int) => Word.ofI (satI 32 x)
  let base := s.bi m 0x2C
  let cur := testBit x.known 0 && base ≠ 0
  let ka := s.bi m 0x2AC
  let mech := testBit x.known 1 && ka ≠ 0
  let kpi := if cur then fin (floorDiv (s.bi m 0x2A8 * bw * 65536) base) else now.getD 0 0
  let kii := if cur then fin (floorDiv (s.bi m 0x2A0 * two * bw * t) (q * sec)) else now.getD 1 0
  let kpvN : Int := two * w.1 * 2 ^ 32
  let kpvD : Int := q * w.2 * ka
  let kpv := if mech then fin (floorDiv kpvN kpvD) else now.getD 2 0
  let kiv := if mech then fin (floorDiv (kpvN * two * w.1 * t * x.div) (kpvD * q * w.2 * 4 * sec)) else now.getD 3 0
  let kffa := if mech then fin (floorDiv (2 ^ 32) ka) else now.getD 4 0
  let kpp := fin (floorDiv (two * w.1 * 2 ^ 24) (q * w.2 * 4))
  [kpi, kii, kpv, kiv, kffa, kpp, 0x1000000, fin (min 4000 (floorDiv (2 * w.1) w.2))]

/-- The identified words of a stage. [DEDUCED, unsafe, log 67] -/
def stageWords (stage : Nat) : List Nat :=
  match stage with
  | 1 => [0x2A0, 0x2A4, 0x2A8]
  | 2 => [0x2AC, 0x2B0, 0x2B4]
  | _ => [0x2BC, 0x2C0, 0x2C4]

/-- Two words of resonances, the lower frequency first; 0 stands for none and comes last (R221). -/
def resPair (a b : Word) : Word × Word :=
  let key := fun (w : Word) => if getBits w 0 16 == 0 then 65536 else getBits w 0 16
  if key b < key a then (b, a) else (a, b)

/-- The identified words of a stage in the order of their offsets: those of the resonances lowest first (R221). -/
def AtResult.ordered (r : AtResult) (stage : Nat) : List Word :=
  if stage != 3 then [r.w0, r.w1, r.w2]
  else
    let p := resPair r.w0 r.w1
    let q := resPair p.2 r.w2
    let o := resPair p.1 q.1
    [o.1, o.2, q.2]

/-- AT_STAGE_DONE (R221, R222): the running stage, whose excitation has ended, ends with what it has identified. Stage 2
fails when the axis has not run in both directions; a fit residual above AT_FIT_MIN keeps the results but makes no
proposal. -/
def execAtStageDone (m : Fin 16) (r : AtResult) (s : State) : Res :=
  let x := s.supOf m
  if x.stage == 0 || x.gen.isSome then .next s
  else
    let s := s.setSup m { s.supOf m with stage := 0 }
    if x.stage == 2 && !r.ok then .next (s.setRun m 0x284 3 5)
    else
      let s := (s.each ((stageWords x.stage).zip (r.ordered x.stage)) fun w s => s.setBw m w.1 w.2).setBw m 0x2B8 r.fit
      let s := s.setSup m { s.supOf m with known := Nat.lor x.known (2 ^ (x.stage - 1)) }
      if (s.bi m 0x294) < r.fit.int then .next (s.setRun m 0x284 3 4)
      else
        let s := (s.setEight m 0x300 (s.proposal m)).setBw m 0x298 (s.bw m 0x298 + 1)
        .next ((s.setRun m 0x284 2 0).setBf m 0x284 3 1 1)

end Sys2Proof.Machine
end

