-- ==== Sys2Proof/Machine/Profiles.lean ====
section
/-! DEFINITION. Larkspur: commands, moves, queues and timed starts (R224 to R236), interpolation groups (R237 to R239),
stops (R240 to R243), standstill and hold (R244, R245), limit switches (R246 to R248), homing (R249 to R251), faults
(R253) and the staggered enable (R568, R569). -/

namespace Sys2Proof.Machine

/-! ### What a channel's commands check -/

/-- The limits staged in a channel's registers, in internal units (*Profile limits of a channel*). -/
def State.stagedLims (s : State) (k : Nat) : Lims :=
  ⟨toInternal (s.rd (R.LSP_CH_VMAX k)).int, toInternal (s.rd (R.LSP_CH_AMAX k)).int,
   toInternal (s.rd (R.LSP_CH_DMAX k)).int, (s.rd (R.LSP_CH_JMAX k)).toNat⟩

/-- The staged target, in internal units. -/
def State.stagedTarget (s : State) (k : Nat) : Int :=
  toInternal (s.rd64 (R.LSP_CH_TARGET_LO k) (R.LSP_CH_TARGET_HI k))

/-- Is a move or a stop of the channel still to come or under way (R233, R235)? -/
def State.moving (s : State) (k : Nat) : Bool :=
  let c := s.chanOf k
  let waits := c.timed.isSome || c.pend.any fun x => match x with
    | .move _ => true
    | .home _ => true
    | _ => false
  let st := s.chanState k
  waits || st == 1 || st == 3 || (st == 2 && match c.plan with
    | some q => !q.done s.now
    | none => false)

/-- Where the moves commanded so far end: the position that a relative move counts from. -/
def State.lastEnd (s : State) (k : Nat) : Int :=
  let c := s.chanOf k
  let p0 := match c.plan with
    | some q => if q.done s.now then (s.refAt k s.now).1 else q.p1
    | none => (s.refAt k s.now).1
  let after := fun (p : Int) (m : Move) => if m.op == 1 then m.target else if m.op == 2 then p + m.target else p
  let l := (c.pend.filterMap fun x => match x with
    | .move m => some m
    | _ => none) ++ c.timed.toList ++ c.queue
  l.foldl after p0

/-- Does a target lie outside the soft limits of a servo axis that has them (R229)? -/
def State.softRefused (s : State) (k : Nat) (target : Int) : Bool :=
  decide (k < 16) && s.softOn k &&
    (decide (target < toInternal (s.fbOf k).softMin) || decide (toInternal (s.fbOf k).softMax < target))

/-- Is a limit switch selected and active (R246)? Field inputs FI0 to FI31, then FX0 to FX7, which are channels 56 to 63;
any other selection is none. -/
def State.limActive (s : State) (sel : Nat) : Bool :=
  if sel < 32 then !s.is (F.FIO_CH_STATUS_LEVEL sel)
  else if sel < 40 then !(s.g (F.FIO_CH_CFG_FX_MODE (sel + 24)) == 1 && s.is (F.FIO_CH_STATUS_LEVEL (sel + 24)))
  else false

/-- Is the input that CFG selects as the upper limit of an axis active? [DEDUCED, unsafe, log 71] -/
def State.limPos (s : State) (k : Nat) : Bool := s.limActive (s.g (F.LSP_CH_CFG_LIM_POS_SEL k))
/-- The same for the lower limit. [DEDUCED, unsafe, log 71] -/
def State.limNeg (s : State) (k : Nat) : Bool := s.limActive (s.g (F.LSP_CH_CFG_LIM_NEG_SEL k))

/-- Does a channel lead a group whose path it is on, so that OP 7 reaches the group's move (R239)? -/
def State.leads (s : State) (k : Nat) : Bool :=
  match s.inGroup k with
  | some g => match leaderOf (s.grpOf g).members with
    | some m => m.1 == k
    | none => false
  | none => false

/-- The direction in which a command would move the channel, 0 for none (R247): that of the search of a homing type, and
that of the new target velocity of a velocity move in progress. -/
def State.cmdDir (s : State) (k op : Nat) : Int :=
  let l := s.stagedLims k
  let ty := s.g (F.LSP_CH_HOME_CFG_TYPE k)
  match op with
  | 1 => s.stagedTarget k - s.lastEnd k
  | 2 => s.stagedTarget k
  | 3 => l.v
  | 6 => if ty == 0 || ty == 7 || ty == 8 || 11 ≤ ty then 0 else if ty % 2 == 1 then 1 else -1
  | 7 => match (s.chanOf k).plan with
    | some q => if q.kind = .vel then l.v else 0
    | none => 0
  | _ => 0

/-- Do the limit inputs refuse a command (R247, R248)? With both active every motion command except homing is refused.
[DEDUCED, unsafe, log 161] -/
def State.limBad (s : State) (k op : Nat) : Bool :=
  let both := s.limPos k && s.limNeg k
  let motion := op == 1 || op == 2 || op == 3
  let toward := (decide (0 < s.cmdDir k op) && s.limPos k) || (decide (s.cmdDir k op < 0) && s.limNeg k)
  if both then motion || (op == 7 && toward) else (motion || op == 6 || op == 7) && toward

/-- Would a command be refused (R225, R229, R233, R247, R248, R309)? `queued` is QUEUE. [DEDUCED, unsafe, log 70 and 161] -/
def State.cmdBad (s : State) (k op : Nat) (queued : Bool) : Bool :=
  let l := s.stagedLims k
  let st := s.chanState k
  let target := if op == 2 then s.lastEnd k + s.stagedTarget k else s.stagedTarget k
  10 ≤ op || ((op == 1 || op == 2 || op == 6) && s.isBldc k) ||
    (4 ≤ st && op != 4 && op != 5 && op != 9 && !(op == 7 && s.leads k)) ||
    ((op == 1 || op == 2 || op == 3 || op == 6 || op == 7) && (decide (l.a ≤ 0) || decide (l.d ≤ 0))) ||
    ((op == 1 || op == 2) && (decide (l.v = 0) || s.softRefused k target)) ||
    ((op == 1 || op == 2 || op == 3 || op == 6) && s.g (F.LSP_CH_CFG_SRC k) != 0) ||
    s.limBad k op ||
    ((op == 1 || op == 2) && !queued && (s.moving k || (s.chanState k == 2 && match (s.chanOf k).plan with
      | some q => !q.done s.now
      | none => false))) ||
    (op == 3 && !queued && st == 3 && (s.chanOf k).byLevel != 0) || (op == 6 && s.moving k)

/-- The full time that a short timestamp names, by the current time (R46), in units of 2^-16 ns. -/
def State.extendShort (s : State) (v : Word) : Nat :=
  let d := (v - BitVec.ofNat 32 s.nowNs).int
  ((s.nowNs : Int) + d).toNat * 65536

/-! ### The low-gain hold -/

/-- The gains that the hold replaces are written back in one burst (R245). -/
def State.unhold (s : State) (k : Nat) : State :=
  match (s.chanOf k).gains with
  | none => s
  | some (v, i, p) =>
    let s := s.setChan k { s.chanOf k with gains := none, holdBurst := true }
    (s.writeBlock k [(0x30, v), (0x34, i), (0x40, p)]).off (F.LSP_CH_STATUS_HOLD k)

/-- Does the burst that writes the gains back still wait, so that no move starts (R245)? -/
def State.holdWaits (s : State) (k : Nat) : Bool :=
  (s.chanOf k).holdBurst && k < 16 && !(s.aeOf (k / 2)).bursts.isEmpty

/-- HOLD_ENTRY (R245): once STANDSTILL has been 1 for HOLD_DELAY, the gains are saved and written multiplied by HOLD_SCALE,
truncated, in one burst. -/
def execHoldEntry (k : Fin 16) (s : State) : Res :=
  let c := s.chanOf k
  let long := match c.stillSince with
    | some t0 => decide (t0 + 250000 * s.g (F.LSP_CH_HOLD_CFG_HOLD_DELAY k) ≤ s.tb.ticks)
    | none => false
  if !long || s.is (F.LSP_CH_STATUS_HOLD k) || !s.is (F.LSP_CH_CFG_HOLD_EN k) || !s.is (F.LSP_CH_STATUS_STANDSTILL k) ||
      s.bw k 0x48 != 2 || s.bw k 0x270 != 0 then .next s
  else
    let f := fun o => Word.ofI (floorDiv (s.bi k o * s.g (F.LSP_CH_HOLD_CFG_HOLD_SCALE k)) 65536)
    let s1 := s.setChan k { c with gains := some (s.bw k 0x30, s.bw k 0x34, s.bw k 0x40) }
    .next ((s1.writeBlock k [(0x30, f 0x30), (0x34, f 0x34), (0x40, f 0x40)]).on
      (F.LSP_CH_STATUS_HOLD k))

/-! ### Commands -/

/-- QLEVEL follows the queue. -/
def State.setQueue (s : State) (k : Nat) (q : List Move) : State :=
  (s.setChan k { s.chanOf k with queue := q }).p (F.LSP_CH_STATUS_QLEVEL k) q.length

/-- A command that waits for the channel's next evaluation instant. -/
def State.pendCmd (s : State) (k : Nat) (x : ChanCmd) : State :=
  s.setChan k { s.chanOf k with pend := (s.chanOf k).pend ++ [x] }

/-- A stop command of a channel (R239, R240, R251). -/
def State.cmdStop (s : State) (k : Nat) (quick : Bool) : State :=
  match s.inGroup k with
  | some g => s.askGroupStop g quick
  | none => if s.chanState k == 7 then s else (s.emptyQueue k).pendCmd k (.stop quick)

/-- A write of LSP_CHk_CMD (R228 to R236, R249, R253). A velocity move for a BLDC channel at rest is its start request at
once (R305, R309). -/
def wrLspCmd (k : Nat) (v : Word) (s : State) : State :=
  let op := getBits v 0 4
  let queued := getBits v 4 1 == 1
  if op == 0 then s
  else
    let s := s.when ((op == 1 || op == 2 || op == 3) && s.limPos k && s.limNeg k) fun s =>
      (s.on (F.LSP_CH_STATUS_LIM_BOTH k)).chanEvent k 1
    if s.cmdBad k op queued then s.on (F.LSP_CH_STATUS_CMD_REFUSED k)
    else if op == 4 || op == 5 then s.cmdStop k (op == 5)
    else if op == 6 then (s.unhold k).pendCmd k (.home (s.stagedLims k))
    else if op == 7 then s.pendCmd k (.limits (s.stagedLims k))
    else if op == 8 then s.setQueue k []
    else if op == 9 then
      if s.chanState k != 7 then s
      else if (k < 16 && s.is (F.AX_PWM_STATUS_FAULT k)) || (16 ≤ k && k < 40 && s.is (F.AUX_STATUS_FAULT (k - 16)))
      then s.on (F.LSP_CH_STATUS_CMD_REFUSED k)
      else (s.setChan k { s.chanOf k with plan := some (planHold s.now (toInternal (s.measured k))) }).setChanState k 0
    else
      let at_ := if getBits v 5 1 == 1 then some (s.extendShort (s.rd (R.LSP_CH_START k))) else none
      let m : Move := ⟨op, s.stagedTarget k, s.stagedLims k, at_⟩
      let s := s.unhold k
      if queued && s.moving k then
        if 4 ≤ (s.chanOf k).queue.length then s.on (F.LSP_CH_STATUS_QUEUE_FULL k)
        else s.setQueue k ((s.chanOf k).queue ++ [{ m with at_ := none }])
      else if s.bldcWaits k && at_.isNone then s.holdMove (k - 16) m
      else s.pendCmd k (.move m)

/-- The command word of an operation. -/
def lspWord (op : Nat) (queued start : Bool) : Word := BitVec.ofNat 32 (op + 16 * bit queued + 32 * bit start)

/-- MOVE_ABSOLUTE (R228). -/
def execMoveAbsolute (rq : Rq) (k : Fin 168) (queued start : Bool) (s : State) : Res :=
  .next (s.write rq (R.LSP_CH_CMD k) (wrLspCmd k (lspWord 1 queued start)))

/-- MOVE_RELATIVE (R228). -/
def execMoveRelative (rq : Rq) (k : Fin 168) (queued start : Bool) (s : State) : Res :=
  .next (s.write rq (R.LSP_CH_CMD k) (wrLspCmd k (lspWord 2 queued start)))

/-- VELOCITY_MOVE (R230). -/
def execVelocityMove (rq : Rq) (k : Fin 168) (queued start : Bool) (s : State) : Res :=
  .next (s.write rq (R.LSP_CH_CMD k) (wrLspCmd k (lspWord 3 queued start)))

/-- STOP (R240). -/
def execStop (rq : Rq) (k : Fin 168) (s : State) : Res :=
  .next (s.write rq (R.LSP_CH_CMD k) (wrLspCmd k (lspWord 4 false false)))

/-- QUICK_STOP (R240). -/
def execQuickStop (rq : Rq) (k : Fin 168) (s : State) : Res :=
  .next (s.write rq (R.LSP_CH_CMD k) (wrLspCmd k (lspWord 5 false false)))

/-- HOME (R249). -/
def execHome (rq : Rq) (k : Fin 168) (s : State) : Res :=
  .next (s.write rq (R.LSP_CH_CMD k) (wrLspCmd k (lspWord 6 false false)))

/-- APPLY_LIMITS (R231). -/
def execApplyLimits (rq : Rq) (k : Fin 168) (s : State) : Res :=
  .next (s.write rq (R.LSP_CH_CMD k) (wrLspCmd k (lspWord 7 false false)))

/-- FLUSH_QUEUE (R235). -/
def execFlushQueue (rq : Rq) (k : Fin 168) (s : State) : Res :=
  .next (s.write rq (R.LSP_CH_CMD k) (wrLspCmd k (lspWord 8 false false)))

/-- CLEAR_FAULT (R253). -/
def execClearFault (rq : Rq) (k : Fin 168) (s : State) : Res :=
  .next (s.write rq (R.LSP_CH_CMD k) (wrLspCmd k (lspWord 9 false false)))

/-! ### Limit switches -/

/-- Is a channel a stepper's? -/
def State.isStepper (s : State) (k : Nat) : Bool := 16 ≤ k && k < 40 && s.g (F.AUX_CFG_MODE (k - 16)) == 1

/-- A stepper discards the microsteps it has still to issue (R247, R295). -/
def State.dropSteps (s : State) (k : Nat) : State :=
  if s.isStepper k then s.setAux (k - 16) { s.auxOf (k - 16) with left := 0 } else s

/-- A limit reaction (R247, R248): the queue is emptied; LIM_HARD stops at the next evaluation, else a quick stop ramp
runs unless a stop with a larger deceleration already does. -/
def State.limReact (s : State) (k : Nat) : State :=
  let s := s.chanEvent k 1
  match s.inGroup k with
  | some g => s.askGroupStop g true
  | none =>
    let s := s.emptyQueue k
    let s := s.setChan k { s.chanOf k with pend := (s.chanOf k).pend.filter fun x => match x with
      | .move _ => false
      | _ => true }
    if s.is (F.LSP_CH_CFG_LIM_HARD k) then (s.setChan k { s.chanOf k with hard := true }).dropSteps k
    else
      let qs := toInternal (s.rd (R.LSP_CH_QS_DEC k)).int
      match (s.chanOf k).plan with
      | some q =>
        let s := if decide (q.kind = .stop) && decide (qs ≤ q.lims.d) && s.chanState k == 3 then s
          else s.rampFrom k s.now (s.rd (R.LSP_CH_QS_DEC k)).int (decide (q.kind = .stop) && q.off)
        s.setChan k { s.chanOf k with limStop := true }
      | none =>
        let s := s.rampFrom k s.now (s.rd (R.LSP_CH_QS_DEC k)).int false
        s.setChan k { s.chanOf k with limStop := true }

/-- Homing fails for a reason, and the axis is brought to a quick stop (R251). -/
def State.homeAbort (s : State) (k reason : Nat) : State := (s.homeFail k reason).opStop k s.now true

/-- The limit inputs of a channel are looked at (R246 to R248, R251): a limit that the homing type does not use ends the
sequence, with the reaction of R247 when the reference moves toward it. [DEDUCED, unsafe, log 71] -/
def State.limCheck (s : State) (k : Nat) : State :=
  let pos := s.limPos k
  let neg := s.limNeg k
  let c := s.chanOf k
  let newP := pos && !c.limPos
  let newN := neg && !c.limNeg
  let s := s.setChan k { c with limPos := pos, limNeg := neg }
  let s := (s.pb (F.LSP_CH_STATUS_LIM_POS k) pos).pb (F.LSP_CH_STATUS_LIM_NEG k) neg
  let s := s.when (pos && neg && (newP || newN)) fun s => (s.on (F.LSP_CH_STATUS_LIM_BOTH k)).chanEvent k 1
  if !newP && !newN then s
  else
    let s := s.unhold k
    let ty := s.g (F.LSP_CH_HOME_CFG_TYPE k)
    if s.chanState k == 7 then s
    else if c.home ≠ .none ∧ s.chanState k == 4 then
      let v := (s.refAt k s.now).2.1
      if (newP && ty != 7 && decide (0 < v)) || (newN && ty != 8 && decide (v < 0)) then (s.homeFail k 4).limReact k
      else if (newP && ty != 7) || (newN && ty != 8) then s.homeAbort k 4 else s
    else
      let v := (s.refAt k s.now).2.1
      if (newP && decide (0 < v)) || (newN && decide (v < 0)) then s.limReact k else s

/-! ### Moves -/

/-- A move starts from the reference state at an evaluation instant (R228); a velocity move of a BLDC channel that is not
in closed loop is held until handover (R309). -/
def State.startMove (s : State) (k : Nat) (t : Nat) (m : Move) : State :=
  if s.bldcWaits k then s.holdMove (k - 16) m else
  let r := s.refAt k t
  let x := s.stretchOf k
  let target := if m.op == 2 then r.1 + m.target else m.target
  let q := if m.op == 3 then planVel t r.1 r.2.1 r.2.2 m.lims x else planFit t r.1 r.2.1 r.2.2 target m.lims x
  let s := (s.setChan k { s.chanOf k with plan := some q, stopTick := none }).off (F.LSP_CH_STATUS_AT_TARGET k)
  s.setChanState k (if m.op == 3 then 2 else 1)

/-- New limits for the velocity move that a BLDC channel holds until handover (R231, R309). -/
def State.heldLimits (s : State) (k : Nat) (l : Lims) : State :=
  if 16 ≤ k && k < 40 then
    let x := s.auxOf (k - 16)
    s.setAux (k - 16) { x with hold := x.hold.map fun m => { m with lims := l } }
  else s

/-- New limits for the move in progress (R231, R232). [DEDUCED, unsafe, log 162] -/
def State.newLimits (s : State) (k : Nat) (t : Nat) (l : Lims) : State :=
  match (s.chanOf k).plan with
  | none => s.heldLimits k l
  | some q =>
    let r := q.at_ t
    let x := s.stretchOf k
    match q.kind with
    | .pos =>
      if q.done t then s
      else
        let n := q.relimit t l x
        (s.setChan k { s.chanOf k with plan := some n.1 }).when n.2 fun s => s.on (F.LSP_CH_STATUS_DECEL_KEPT k)
    | .vel => (s.setChan k { s.chanOf k with plan := some (planVel t r.1 r.2.1 r.2.2 l x) }).setChanState k 2
    | _ => s

/-- A falling speed follows a changed stretch factor (R242, R243); on a group's path all members do. -/
def State.stretchPlan (s : State) (k : Nat) (t : Nat) : State :=
  match s.inGroup k with
  | some g =>
    let x := s.grpOf g
    match x.plan with
    | some q =>
      let r := q.stretch t (s.groupStretch x)
      (s.setGrp g { x with plan := some r.1 }).when r.2 fun s => s.on (F.LSP_CH_STATUS_DECEL_KEPT k)
    | none => s
  | none => match (s.chanOf k).plan with
    | some q =>
      let r := q.stretch t (s.stretchOf k)
      (s.setChan k { s.chanOf k with plan := some r.1 }).when r.2 fun s => s.on (F.LSP_CH_STATUS_DECEL_KEPT k)
    | none => s

/-- A plan that has ended (R228, R230, R240): the reference holds; a ramp-off stop turns the outputs off.
[DEDUCED, unsafe, log 73] -/
def State.finish (s : State) (k : Nat) (t : Nat) : State :=
  match (s.chanOf k).plan with
  | none => s
  | some q =>
    if !q.done t then s
    else
      let hold := fun (p : Int) (s : State) => s.setChan k { s.chanOf k with plan := some (planHold t p) }
      match q.kind with
      | .pos =>
        let s := hold q.target s
        if s.chanState k == 1 then (s.on (F.LSP_CH_STATUS_AT_TARGET k)).setChanState k 0 else s
      | .vel => if q.v1 = 0 ∧ s.chanState k == 2 then (hold q.p1 s).setChanState k 0 else s
      | .stop =>
        let s := hold q.p1 s
        let s := s.when q.off fun s => s.outputsOff k
        if s.chanState k == 3 then s.setChanState k 0 else s
      | .hold => s

/-! ### Homing -/

/-- The direction of a homing type: odd types search in +. -/
def homeDir (ty : Nat) : Int := if ty % 2 == 1 then 1 else -1

/-- Does the channel suit the type, and are its requirements met (*Homing sequences*)? -/
def State.homeMet (s : State) (k ty : Nat) : Bool :=
  let z := s.g (F.AX_FB_CFG_ZMODE k)
  let p := s.g (F.LSP_CH_HOME_CFG_PROBE k)
  let bound := s.is (F.GLB_PRB_CFG_ARM p) &&
    (if k < 16 then !s.is (F.GLB_PRB_CFG_AUX p) && s.g (F.GLB_PRB_CFG_AXIS p) == k
      else s.is (F.GLB_PRB_CFG_AUX p) && s.g (F.GLB_PRB_CFG_AUX_CH p) == k - 16)
  let mode := (s.bw k 0x48).toNat
  if 40 ≤ k then false
  else if 16 ≤ k && ty != 3 && ty != 4 && ty != 7 && ty != 8 then false
  else match ty with
    | 1 => z == 1 || z == 2
    | 2 => z == 1 || z == 2
    | 3 => bound
    | 4 => bound
    | 5 => bound && (z == 1 || z == 2)
    | 6 => bound && (z == 1 || z == 2)
    | 7 => s.g (F.LSP_CH_CFG_LIM_POS_SEL k) != 63
    | 8 => s.g (F.LSP_CH_CFG_LIM_NEG_SEL k) != 63
    | 9 => mode == 1 || mode == 2
    | 10 => mode == 1 || mode == 2
    | 11 => s.g (F.AX_FB_CFG_PRIMARY k) == 0 && s.is (F.AX_FB_CFG_SSI_EN k)
    | 12 => s.g (F.AX_FB_CFG_PRIMARY k) == 1 && s.is (F.AX_FB_CFG_SSI_EN k)
    | _ => false

/-- A velocity of the homing sequence from an evaluation instant: the homing register's magnitude in a direction. -/
def State.homeRun (s : State) (k t : Nat) (creep : Bool) (dir : Int) : State :=
  let v := toInternal (absN (s.rd (if creep then R.LSP_CH_HOME_CREEP k else R.LSP_CH_HOME_FAST k)).int)
  let r := s.refAt k t
  let q := planVel t r.1 r.2.1 r.2.2 { s.stagedLims k with v := dir * v } (s.stretchOf k)
  (s.setChan k { s.chanOf k with plan := some q, stopTick := none }).setChanState k 4

/-- A homing stop at QS_DEC, within STATE 4. -/
def State.homeStop (s : State) (k t : Nat) : State := (s.opStop k t true).setChanState k 4

/-- OP 6 at an evaluation instant (R249, R251). -/
def State.startHome (s : State) (k t : Nat) : State :=
  let ty := s.g (F.LSP_CH_HOME_CFG_TYPE k)
  let c := s.chanOf k
  let s := s.setChan k { c with
    home := .search, homeTick := s.tb.ticks, homeP0 := s.measured k, homeP := s.measured k, homeILim := s.bw k 0x3C,
    homeISince := none, homeEdge := false, homeAt := none, homeIdx := false }
  if !s.homeMet k ty then s.homeAbort k 3
  else if (ty == 11 || ty == 12) && (s.fbOf k).ssiPos.isNone then s.homeAbort k 7
  else
    let s := s.p (F.LSP_CH_STATUS_HOME_REASON k) 0
    if ty == 11 || ty == 12 then (s.setChan k { s.chanOf k with home := .stop }).setChanState k 4
    else
      let s := s.when (ty == 9 || ty == 10) fun s =>
        s.writeBlock k [(0x3C, s.rd (R.LSP_CH_HOME_ILIM k))]
      s.homeRun k t (ty ≤ 2 || ty == 9 || ty == 10) (homeDir ty)

/-- Has the hard-stop current of types 9 and 10 flowed for I_TIME with the axis at rest (R249)? The channel notes since
when it flows. -/
def State.hardStop (s : State) (k : Nat) : State × Bool :=
  let c := s.chanOf k
  let flows := decide ((s.rd (R.LSP_CH_HOME_I k)).int ≤ absN (s.bi k 0x104)) &&
    decide (absN (s.measuredVel k) ≤ s.g (F.LSP_CH_SS_CFG_SS_VEL k))
  if !flows then (s.setChan k { c with homeISince := none }, false)
  else match c.homeISince with
    | none => (s.setChan k { c with homeISince := some s.tb.ticks }, false)
    | some t0 => (s, decide (t0 + 250000 * s.g (F.LSP_CH_HOME_CFG_I_TIME k) ≤ s.tb.ticks))

/-- The homing sequence at an evaluation instant (*Homing sequences*, R251). -/
def State.homeEval (s : State) (k t : Nat) : State :=
  let c := s.chanOf k
  if c.home = .none then s
  else
    let ty := s.g (F.LSP_CH_HOME_CFG_TYPE k)
    let dir := homeDir ty
    let trav := (s.rd (R.LSP_CH_HOME_TRAVEL k)).toNat
    let far := trav != 0 && decide (trav * 65536 < absN (s.measured k - c.homeP0))
    let ended := match c.plan with
      | some q => q.done t
      | none => true
    let phase := fun (h : HomePhase) (s : State) => s.setChan k { s.chanOf k with home := h, homeEdge := false }
    if far then s.homeAbort k 2
    else match c.home with
      | .search =>
        if ty ≤ 2 then if c.homeEdge then (phase .stop s).homeStop k t else s
        else if ty ≤ 4 then if c.homeEdge then (phase .turn s).homeStop k t else s
        else if ty ≤ 6 then
          if c.homeIdx then (phase .stop s).homeStop k t
          else if c.homeEdge then (phase .creep s).homeRun k t true dir else s
        else if ty ≤ 8 then
          if (ty == 7 && s.limPos k) || (ty == 8 && s.limNeg k) then (phase .turn s).homeStop k t else s
        else
          let r := s.hardStop k
          if r.2 then (r.1.setChan k { r.1.chanOf k with home := .stop, homeP := s.measured k }).homeStop k t else r.1
      | .turn => if ended then (phase .creep s).homeRun k t true (-dir) else s
      | .creep =>
        if ty ≤ 6 then if c.homeEdge then (phase .stop s).homeStop k t else s
        else if (ty == 7 && !s.limPos k) || (ty == 8 && !s.limNeg k)
        then ((phase .stop s).setChan k { (phase .stop s).chanOf k with
          homeP := if c.homeEdge then c.homeP else s.measured k }).homeStop k t
        else s
      | _ => s

/-! ### Groups -/

/-- The members of a group (R237). -/
def State.groupMembers (s : State) (g : Nat) : List Nat :=
  (List.range 168).filter fun k => s.is (F.LSP_CH_CFG_GROUP_EN k) && s.g (F.LSP_CH_CFG_GROUP k) == g

/-- The leader's limits under R238, and whether a member reduced one. -/
def State.groupLims (s : State) (ms : List (Nat × Int × Int)) (lead : Nat × Int × Int) : Lims × Bool :=
  let own := s.stagedLims lead.1
  let dl := absN lead.2.2
  let f := fun (sel : Lims → Int) => ms.map fun m => (sel (s.stagedLims m.1), absN m.2.2)
  let l : Lims := ⟨reduceLim false dl (absN own.v) ((f (·.v)).map fun x => ((absN x.1 : Int), x.2)),
    reduceLim false dl own.a (f (·.a)), reduceLim false dl own.d (f (·.d)), reduceLim true dl own.j (f (·.j))⟩
  (l, decide (l ≠ { own with v := (absN own.v : Int) }))

/-- OP 1 or OP 2 of a group (R237, R238). -/
def State.groupMove (s : State) (g op : Nat) (at_ : Option Nat) : State :=
  let l := s.groupMembers g
  let ms := l.map fun k =>
    let p0 := (s.refAt k s.now).1
    (k, p0, if op == 2 then s.stagedTarget k else s.stagedTarget k - p0)
  let owners := l.map fun k => s.holder (chanObj k)
  let same := match owners with
    | [] => false
    | o :: t => t.all fun x => decide (x = o)
  let bad := l.any fun k => s.g (F.LSP_CH_CFG_SRC k) != 0 || s.chanState k != 0 || s.cmdBad k op false
  if !same || bad || 16 < l.length then s.on (F.LSP_GRP_STATUS_CMD_REFUSED g)
  else match leaderOf ms with
    | none => s
    | some lead =>
      let r := s.groupLims ms lead
      let s := s.when r.2 fun s => s.on (F.LSP_GRP_STATUS_GROUP_LIMITED g)
      let s := s.each l fun k s => ((s.unhold k).setChanState k 5).off (F.LSP_CH_STATUS_AT_TARGET k)
      let s := ((s.p (F.LSP_GRP_STATUS_LEADER g) lead.1).p (F.LSP_GRP_STATUS_MEMBERS g) l.length).p
        (F.LSP_GRP_STATUS_STATE g) 1
      s.setGrp g { members := ms, plan := none, stopReq := none, cmd := some (lead.1, at_), ended := [] }

/-- A write of LSP_GRPg_CMD (R237, R239). -/
def wrGrpCmd (g : Nat) (v : Word) (s : State) : State :=
  let op := getBits v 0 3
  let at_ := if getBits v 3 1 == 1 then some (s.extendShort (s.rd (R.LSP_GRP_START g))) else none
  if op == 0 then s
  else if op == 1 || op == 2 then s.groupMove g op at_
  else if op == 4 || op == 5 then
    if s.g (F.LSP_GRP_STATUS_STATE g) == 0 then s else s.askGroupStop g (op == 5)
  else s.on (F.LSP_GRP_STATUS_CMD_REFUSED g)

/-- The command word of a group operation. -/
def grpWord (op : Nat) (start : Bool) : Word := BitVec.ofNat 32 (op + 8 * bit start)

/-- May the requester command the group: does it hold every member's channel (R224, R237)? -/
def State.mayGroup (s : State) (rq : Rq) (g : Nat) : Bool := (s.groupMembers g).all fun k => s.may rq (R.LSP_CH_CMD k)

/-- GROUP_ABSOLUTE (R237). -/
def execGroupAbsolute (rq : Rq) (g : Fin 16) (start : Bool) (s : State) : Res :=
  .next (s.write rq (R.LSP_GRP_CMD g) (wrGrpCmd g (grpWord 1 start)))

/-- GROUP_RELATIVE (R237). -/
def execGroupRelative (rq : Rq) (g : Fin 16) (start : Bool) (s : State) : Res :=
  .next (s.write rq (R.LSP_GRP_CMD g) (wrGrpCmd g (grpWord 2 start)))

/-- GROUP_STOP (R239). -/
def execGroupStop (rq : Rq) (g : Fin 16) (s : State) : Res :=
  .next (s.write rq (R.LSP_GRP_CMD g) (wrGrpCmd g (grpWord 4 false)))

/-- GROUP_QUICK_STOP (R239). -/
def execGroupQuickStop (rq : Rq) (g : Fin 16) (s : State) : Res :=
  .next (s.write rq (R.LSP_GRP_CMD g) (wrGrpCmd g (grpWord 5 false)))

/-- What waits for a group at an evaluation instant of a member: a start whose instant has come, limits of the leader, a
stop, or a stop because a member has left the path (R236, R239). `dt` is the interval since the member's previous
evaluation. -/
def State.groupStep (s : State) (g k t dt : Nat) : State :=
  let x := s.grpOf g
  match leaderOf x.members with
  | none => s
  | some lead =>
    let gone := x.members.any fun m => s.chanState m.1 != 5 && !x.ended.contains m.1
    let s := s.when gone fun s => s.on (F.LSP_GRP_STATUS_PATH_BROKEN g)
    let stop := match x.stopReq with
      | some q => some q
      | none => if gone && s.g (F.LSP_GRP_STATUS_STATE g) == 1 then some false else none
    let waits := x.members.any fun m => s.holdWaits m.1
    let due := match x.cmd with
      | some (_, some a) => decide (2 * a ≤ 2 * t + dt)
      | _ => true
    let late := match x.cmd with
      | some (_, some a) => decide (2 * a + dt ≤ 2 * t)
      | _ => false
    match stop, x.plan with
    | some quick, _ => s.groupStop g t quick
    | none, some _ => s
    | none, none =>
      if !due || waits then s
      else
        let s := s.when late fun s => s.on (F.LSP_CH_STATUS_START_LATE k)
        let l := (s.groupLims x.members lead).1
        let q := planPos t lead.2.1 0 0 (lead.2.1 + lead.2.2) l (s.groupStretch x)
        let s := s.each (x.members.map (·.1)) fun m s => s.setChan m { s.chanOf m with stopTick := none }
        s.setGrp g { x with plan := some q, cmd := none }

/-- New limits for a group's move, written to the leader (R239). -/
def State.groupNewLimits (s : State) (g k t : Nat) : State :=
  let x := s.grpOf g
  match leaderOf x.members, x.plan with
  | some lead, some q =>
    if lead.1 != k || q.kind ≠ .pos || q.done t || x.stopReq.isSome then s
    else
      let n := s.groupLims x.members lead
      let r := q.relimit t n.1 (s.groupStretch x)
      let s := s.when r.2 fun s => s.on (F.LSP_CH_STATUS_DECEL_KEPT k)
      let s := s.when n.2 fun s => s.on (F.LSP_GRP_STATUS_GROUP_LIMITED g)
      s.setGrp g { x with plan := some r.1 }
  | _, _ => s

/-- A member whose group has come to its end leaves it (R239). -/
def State.groupDone (s : State) (g k t : Nat) : State :=
  let x := s.grpOf g
  match x.plan, x.members.find? (fun m => m.1 == k) with
  | some q, some m =>
    if !q.done t then s
    else
      let at_ := decide (q.kind = .pos)
      let p := if at_ then m.2.1 + m.2.2 else match x.memberRef k t with
        | some r => r.1
        | none => m.2.1
      let off := (s.chanOf k).endOff
      let s := s.setChan k { s.chanOf k with
        plan := some (planHold t p), pend := (s.chanOf k).pend.filter (· ≠ .cfgStop), endOff := false }
      let s := (s.when at_ fun s => s.on (F.LSP_CH_STATUS_AT_TARGET k)).setChanState k 0
      let s := s.when off fun s => s.outputsOff k
      if x.members.all fun m => s.chanState m.1 != 5
      then (s.setGrp g Grp.reset).p (F.LSP_GRP_STATUS_STATE g) 0
      else s.setGrp g { x with ended := k :: x.ended }
  | _, _ => s

/-! ### Evaluation -/

/-- The commands that wait for the evaluation instant take effect: a stop first, and then no OP 7 (R234). -/
def State.applyPend (s : State) (k t : Nat) : State :=
  let l := (s.chanOf k).pend
  let stop := l.foldl (fun a x => match x with
    | .stop q => some (q || (match a with
      | some b => b
      | none => false))
    | _ => a) (none : Option Bool)
  let s := s.setChan k { s.chanOf k with pend := l.filter (· = .cfgStop), holdBurst := false }
  match stop with
  | some quick =>
    let home := (s.chanOf k).home ≠ .none
    let s := s.homeFail k 6
    s.opStop k t (quick || home)
  | none => s.each l fun x s => match x with
    | .move m => match m.at_ with
      | some _ => s.setChan k { s.chanOf k with timed := some m }
      | none => s.startMove k t m
    | .limits l => match s.inGroup k with
      | some g => s.groupNewLimits g k t
      | none => s.newLimits k t l
    | .home _ => s.startHome k t
    | _ => s

/-- A timed move whose instant has come starts (R236). [DEDUCED, unsafe, log 74] -/
def State.applyTimed (s : State) (k t dt : Nat) : State :=
  match (s.chanOf k).timed with
  | none => s
  | some m => match m.at_ with
    | none => s
    | some a =>
      if 2 * t + dt < 2 * a then s
      else
        let s := s.when (2 * a + dt < 2 * t) fun s => s.on (F.LSP_CH_STATUS_START_LATE k)
        (s.setChan k { s.chanOf k with timed := none }).startMove k t m

/-- The next queued move starts at the first evaluation instant after the previous move has ended (R235). -/
def State.applyQueue (s : State) (k t : Nat) : State :=
  let c := s.chanOf k
  match c.queue with
  | [] => s
  | m :: rest =>
    let ended := match c.plan with
      | some q => q.done t && decide (q.kind ≠ .stop)
      | none => true
    let st := s.chanState k
    if c.timed.isNone && ended && (st == 0 || st == 1 || st == 2) then (s.setQueue k rest).startMove k t m else s

/-- The move that Larkspur held for a BLDC channel starts at the first evaluation instant after handover, with v₀ equal to
the channel's velocity (R309). -/
def State.applyHeld (s : State) (k t : Nat) : State :=
  if !s.isBldc k || s.bldcWaits k then s
  else match (s.auxOf (k - 16)).hold with
    | none => s
    | some m =>
      let q := planVel t (toInternal (s.measured k)) (toInternal (s.measuredVel k)) 0 m.lims (s.stretchOf k)
      ((s.setAux (k - 16) { s.auxOf (k - 16) with hold := none }).setChan k
        { s.chanOf k with plan := some q }).setChanState k 2

/-- LIM_HARD takes V_REF and A_REF to 0 (R247, R248); a stepper then holds where it stands. -/
def State.applyHard (s : State) (k t : Nat) : State :=
  let c := s.chanOf k
  if !c.hard then s
  else
    let off := match c.plan with
      | some q => decide (q.kind = .stop) && q.off
      | none => false
    let p := if s.isStepper k then toInternal (s.measured k) else (s.refAt k t).1
    let s := (s.dropFollower k).setChan k { c with hard := false, plan := some (planHold t p) }
    (s.when off fun s => s.outputsOff k).setChanState k 0

/-- The low-gain hold ends on a position error or a ticket (R245). -/
def State.checkHold (s : State) (k : Nat) (p : Int) : State :=
  if k < 16 && s.is (F.LSP_CH_STATUS_HOLD k) &&
      (s.bw k 0x270 != 0 || decide ((s.rd (R.LSP_CH_HOLD_WIN k)).toNat * 65536 < absN (s.measured k - p)))
  then s.unhold k else s

/-- STANDSTILL (R244). -/
def State.standstill (s : State) (k : Nat) : State :=
  let c := s.chanOf k
  let slow := decide (absN (s.measuredVel k) ≤ s.g (F.LSP_CH_SS_CFG_SS_VEL k))
  let rest := if slow then (match c.restSince with
    | some t0 => some t0
    | none => some s.tb.ticks) else none
  let still := s.rd (R.LSP_CH_VREF k) == 0 && s.rd (R.LSP_CH_AREF k) == 0 && match rest with
    | some t0 => decide (t0 + 250000 * s.g (F.LSP_CH_SS_CFG_SS_TIME k) ≤ s.tb.ticks)
    | none => false
  let since := if still then (match c.stillSince with
    | some t0 => some t0
    | none => some s.tb.ticks) else none
  (s.setChan k { c with restSince := rest, stillSince := since, stopTick := if still then none else c.stopTick }).pb
    (F.LSP_CH_STATUS_STANDSTILL k) still

/-- The offset of a word of a channel's part of the Larkspur exchange area (R192). -/
def exWord (k o : Nat) : Nat := 0x6C0000 + 0x400 * k + o

/-- The words of a reference record in the Larkspur exchange area, its ring head and the channel words (R192). -/
def State.exchange (s : State) (k t : Nat) : State :=
  if 16 ≤ k then s
  else
    let old := s.rd (exWord k 0x100)
    let i := (getBits old 0 3 + 1) % 8
    let n := (s.chanOf k).evals % 2 ^ 24
    let r := 32 * i
    let corr := if s.chanState k == 6 && s.g (F.LSP_CH_CFG_SRC k) == 1 then s.rd (R.LSH_FOL_REG_CORR k) else 0
    let s := s.wr (exWord k r) (shortOf t)
    let s := s.wr (exWord k (r + 4)) (BitVec.ofNat 32 (s.chanState k + 8 * s.g (F.LSP_CH_CFG_SRC k)))
    let s := (s.wr (exWord k (r + 8)) (s.rd (R.LSP_CH_PREF_LO k))).wr (exWord k (r + 12)) (s.rd (R.LSP_CH_PREF_HI k))
    let s := (s.wr (exWord k (r + 16)) (s.rd (R.LSP_CH_VREF k))).wr (exWord k (r + 20)) (s.rd (R.LSP_CH_AREF k))
    let s := (s.wr (exWord k (r + 24)) corr).wr (exWord k 0x100) (BitVec.ofNat 32 (i + 256 * n))
    let s := (s.wr (exWord k 0x200) (s.rd (R.LSP_CH_STATUS k))).wr (exWord k 0x204) (BitVec.ofNat 32 (s.stretchOf k))
    (s.wr (exWord k 0x208) (BitVec.ofNat 32 (s.g (F.LSH_FOL_STATUS_STATE k)))).wr (exWord k 0x20C) (s.rd (R.LSH_FOL_PH k))

/-- A reference in internal units is written (R226, R227): the registers of the channel, and for a servo axis P_REF, V_REF
and A_REF of its parameter block, in one burst (R185), and the exchange area. -/
def State.putRef (s : State) (k t : Nat) (r : Int × Int × Int) : State :=
  let p := fromInternal r.1
  let v := satI 32 (fromInternal r.2.1)
  let a := satI 32 (fromInternal r.2.2)
  let s := s.wr64 (R.LSP_CH_PREF_LO k) (R.LSP_CH_PREF_HI k) p
  let s := (s.wr (R.LSP_CH_VREF k) (Word.ofI v)).wr (R.LSP_CH_AREF k) (Word.ofI a)
  let s := s.when (k < 16) fun s =>
    s.writeBlock k [(0x50, Word.ofI p), (0x54, Word.ofI (floorDiv p (2 ^ 32))), (0x58, Word.ofI v), (0x5C, Word.ofI a)]
  let s := s.setChan k { s.chanOf k with evals := (s.chanOf k).evals + 1 }
  s.exchange k t

/-- Does the channel drive its outputs? A network axis has none here. -/
def State.drives (s : State) (k : Nat) : Bool :=
  if k < 16 then s.is (F.AX_PWM_STATUS_OUT_ACTIVE k)
  else if k < 40 then s.g (F.AUX_STATUS_STATE (k - 16)) == 2
  else true

/-- What an evaluation does before the reference is taken: stretch and limits, the held and pending commands, the group,
the plan's rest and the queue. -/
def State.evalMotion (s : State) (k t : Nat) : State :=
  let dt := match (s.chanOf k).prevEval with
    | some p => t - p
    | none => 0
  let s := match s.chanGroup k with
    | some g => s.restretch g
    | none => s
  let s := s.limCheck k
  let waits := s.holdWaits k
  let s := if waits || s.chanState k == 7 then s else ((s.applyHeld k t).applyPend k t).applyTimed k t dt
  let s := if s.chanState k == 7 then s else (s.applyHard k t).homeEval k t
  let s := match s.inGroup k with
    | some g => s.groupStep g k t dt
    | none => s
  let s := if (s.chanOf k).plan.isNone && s.chanState k == 0 && s.g (F.LSP_CH_CFG_SRC k) == 0 && s.drives k
    then s.setChan k { s.chanOf k with plan := some (planHold t (s.refAt k t).1) } else s
  if waits then s.stretchPlan k t else (s.stretchPlan k t).applyQueue k t

/-- The reference that an evaluation takes, with the state after it: the group's, the channel's own, or that of the source
that `follow` gives. -/
def State.pickRef (s : State) (k t : Nat) (follow : State → State × Option (Int × Int × Int)) :
    State × (Int × Int × Int) :=
  let own := s.g (F.LSP_CH_CFG_SRC k) == 0 || s.chanState k == 3 || s.chanState k == 7
  let grp := match s.inGroup k with
    | some g => (s.grpOf g).memberRef k t
    | none => none
  match grp with
  | some r => (s, r)
  | none =>
    if own then (s, s.refAt k t)
    else match (follow s).2 with
      | some r => ((follow s).1, r)
      | none => ((follow s).1, (follow s).1.refAt k t)

/-- What an evaluation does with the reference that it took. -/
def State.evalOut (s : State) (k t : Nat) (r : Int × Int × Int) : State :=
  let s := s.putRef k t r
  let s := s.setChan k { s.chanOf k with prevEval := some t, prevE := s.elapsedAt t }
  let falling := decide (r.2.1 * r.2.2 < 0)
  let s := s.pb (F.LSP_CH_STATUS_STRETCHED k) (decide (s.stretchOf k < 256) && falling)
  let s := s.finish k t
  let s := match s.inGroup k with
    | some g => s.groupDone g k t
    | none => s
  (s.checkHold k (fromInternal r.1)).standstill k

/-- An evaluation of a channel at the instant `t` (R226). `follow` gives the reference of a channel whose SRC is 1 or 2,
with the state after it, and none while it gives none. A channel whose core the debug port has halted keeps its
reference (R543). [DEDUCED, unsafe, log 72] -/
def State.evaluate (s : State) (k t : Nat) (follow : State → State × Option (Int × Int × Int)) : State :=
  if s.mg.halted.getD (coreOf k) false then s else
  let r := (s.evalMotion k t).pickRef k t follow
  r.1.evalOut k t r.2

/-! ### Other commands -/

/-- MEMBERS of the group that a channel was in and of the one that it is in now (R237). -/
def State.groupCount (s : State) (k old : Nat) : State :=
  let show_ := fun (g : Nat) (s : State) => s.p (F.LSP_GRP_STATUS_MEMBERS g) (min 16 (s.groupMembers g).length)
  show_ (s.g (F.LSP_CH_CFG_GROUP k)) (show_ old s)

/-- A write of LSP_CHk_CFG (R225, R599): a reserved value refuses the whole write; a change of SRC outside STATE 0 or 6 is
refused and the other fields apply. [DEDUCED, unsafe, log 75] -/
def wrLspCfg (k : Nat) (v : Word) (s : State) : State :=
  let g := s.g (F.LSP_CH_CFG_GROUP k)
  let sel := fun lo => let x := getBits v lo 6; 40 ≤ x && x ≤ 62
  if getBits v 0 2 == 3 || getBits v 10 2 == 3 || sel 16 || sel 22 then s.on (F.LSP_CH_STATUS_CMD_REFUSED k)
  else
    let old := s.g (F.LSP_CH_CFG_SRC k)
    let st := s.chanState k
    let change := getBits v 0 2 != old
    let v := (v &&& 0x1FFFFCFF)
    if change && st != 0 && st != 6 then
      (((s.wr (R.LSP_CH_CFG k) (putBits v 0 2 old)).on (F.LSP_CH_STATUS_CMD_REFUSED k)).limCheck k).groupCount k g
    else
      let p := (s.lastRef k s.now).1
      let s := (s.wr (R.LSP_CH_CFG k) v).when change fun s => s.off (F.LSH_FOL_STATUS_PH_MOVING k)
      let s := s.when (change && st == 6) fun s =>
        ((s.p (F.LSH_FOL_STATUS_STATE k) 0).setChan k { s.chanOf k with plan := some (planHold s.now p) }).setChanState k 0
      (s.limCheck k).groupCount k g

/-- LSP_CFG_WRITE (R225). -/
def execLspCfgWrite (rq : Rq) (k : Fin 168) (v : Word) (s : State) : Res :=
  .next (s.write rq (R.LSP_CH_CFG k) (wrLspCfg k v))

/-- STOP_TIMEOUT (R241): a stop ramp has not reached STANDSTILL within STOP_TMO of its start.
[DESIGN CHOICE, safe, log 4] -/
def execStopTimeout (k : Fin 168) (s : State) : Res :=
  let ended := match (s.chanOf k).stopTick with
    | some t0 => decide (t0 + 250000 * s.g (F.LSP_CH_TMO_STOP_TMO k) ≤ s.tb.ticks)
    | none => false
  if !ended || s.is (F.LSP_CH_STATUS_STANDSTILL k) then .next s
  else .next (((s.on (F.LSP_CH_STATUS_STOP_TMO k)).chanEvent k 3).offStop k)

/-- HOME_TIMEOUT (R251): HOME_TMO has passed since the start of the sequence. -/
def execHomeTimeout (k : Fin 168) (s : State) : Res :=
  let c := s.chanOf k
  if c.home = .none ∨ s.tb.ticks < c.homeTick + 25000000 * s.g (F.LSP_CH_TMO_HOME_TMO k) then .next s
  else .next (s.homeAbort k 1)

/-- PLAN_ECC_ERROR (R253): a cell fault of the channel's axis, which runs an off stop; a network axis has no cell here,
and its channel takes STATE 7. The reaction of a higher level goes on (R28). -/
def execPlanEccError (k : Fin 168) (s : State) : Res :=
  if s.higherRuns k then .next s else
  let s := (s.homeFail k 5).offStop k
  if k.val < 16 then .next (s.axisFault k)
  else if k.val < 40 then .next (s.auxFault (k.val - 16))
  else .next (s.chanFault k)

/-! ### The staggered enable -/

def State.stagOf (s : State) (g : Nat) : Stag := tabGet (fun _ => Stag.reset) s.stag g
def State.setStag (s : State) (g : Nat) (x : Stag) : State :=
  { s with stag := tabSet (fun _ => Stag.reset) s.stag g x }

/-- A millisecond of network time. -/
def msNet : Nat := 1000000 * 65536

/-- A channel becomes pending. The first write of a group with no sequence running falls at the next whole millisecond of
network time (R568). -/
def State.enJoin (s : State) (k : Nat) : State :=
  match s.chanGroup k with
  | some g =>
    let s := if s.enRuns g then s else s.setStag g ⟨some ((s.now / msNet + 1) * msNet), none⟩
    s.enSet k true
  | none => s

/-- Is a group's next enable due (R568)? -/
def State.stagDue (s : State) (g : Nat) : Bool :=
  match (s.stagOf g).next, (s.stagOf g).first with
  | some t, _ => decide (t ≤ s.tb.ticks)
  | none, some i => decide (i ≤ s.now)
  | none, none => false

/-- Is a group's enable blocked (R569)? -/
def State.enBlocked (s : State) (g : Nat) : Bool := s.sto g || s.devLocked

/-- The requester's own channels that a write of LSP_EN_REQ0 or LSP_EN_REQ1 asks for. -/
def State.enAsked (s : State) (rq : Rq) (hi : Bool) (v : Word) : List Nat :=
  (List.range 40).filter fun k => decide (hi = decide (32 ≤ k)) && testBit v.toNat (k % 32) && s.may rq (R.LSP_CH_CMD k)

/-- A write of LSP_EN_REQ0 or LSP_EN_REQ1 (R568, R569): the requester's own channels become pending, or are dropped at
once. -/
def wrEnReq (rq : Rq) (hi : Bool) (v : Word) (s : State) : State :=
  let s := s.each (s.enAsked rq hi v) fun k s =>
    let blocked := match s.chanGroup k with
      | some g => s.enBlocked g
      | none => false
    if blocked then s.on F.LSP_EN_STATUS_CANCELLED else s.enJoin k
  s.enBusy

/-- EN_REQ (R568). -/
def execEnReq (rq : Rq) (hi : Bool) (v : Word) (s : State) : Res :=
  let a := if hi then R.LSP_EN_REQ1 else R.LSP_EN_REQ0
  if (s.enAsked rq hi v).isEmpty then .next s
  else match s.dropReason rq a with
    | some r => .next (s.logDropped rq a r)
    | none => .next (wrEnReq rq hi v s)

/-- OUT_EN of an auxiliary channel is written (R288): a 1 is ignored while FAULT or LAUNCH_OFF is set. -/
def State.writeAuxOut (s : State) (c : Nat) (v : Bool) : State :=
  if v && (s.is (F.AUX_STATUS_FAULT c) || s.is (F.AUX_STATUS_LAUNCH_OFF c)) then s
  else ((s.pb (F.AUX_CTL_OUT_EN c) v).when v fun s => s.leaveStagger (16 + c)).refreshAux c

/-- The next pending channel of a list gets its OUT_EN; channels that R569 drops take no interval. -/
def State.enTurn (s : State) : List Nat → State
  | [] => s
  | k :: rest =>
    if !s.enPending k then s.enTurn rest
    else
      let s := s.enSet k false
      let set := if k < 16 then s.is (F.AX_PWM_CTL_OUT_EN k) else s.is (F.AUX_CTL_OUT_EN (k - 16))
      let bad := if k < 16 then !s.running k || s.is (F.AX_PWM_STATUS_FAULT k)
        else !s.is (F.AUX_CFG_EN (k - 16)) || s.is (F.AUX_STATUS_FAULT (k - 16))
      if set then s.enTurn rest
      else if bad then (s.on F.LSP_EN_STATUS_SKIPPED).enTurn rest
      else
        let s := if k < 16 then s.writeOutEn k true else s.writeAuxOut (k - 16) true
        s.p F.LSP_EN_STATUS_LAST k

/-- STAGGER_ENABLE (R568, R569): the first whole millisecond after a request, or STAGGER after the write before. -/
def execStaggerEnable (g : Fin 4) (s : State) : Res :=
  if !s.enRuns g || !s.stagDue g then .next s
  else if s.enBlocked g then .next (s.dropPending g)
  else
    let s := s.enTurn (s.groupChans g)
    .next (s.setStag g ⟨none, some (s.tb.ticks + atLeast1 (s.g F.LSP_EN_CFG_STAGGER) * 250000)⟩).enBusy

end Sys2Proof.Machine
end

