-- ==== Sys2Proof/Machine/TimeBase.lean ====
section
/-! DEFINITION. The time base: the counter and its tick (R38 to R46), the servo (R54 to R59), the selection and the
switching of grandmasters (R601, R61 to R65) and the messages it sends (R52, R53). -/

namespace Sys2Proof.Machine

/-! ### The counter -/

/-- The servo adjustment's clamp: ±8,589,934 units of 2^-32 ns (R40). -/
def adjMax : Int := 8589934

/-- The increment of one Snowdrop tick in Doze, in units of 2^-32 ns: 250,000,000 units of 2^-16 ns, corrected by the
Snowdrop trim in units of 0.01 % (R58). [DEDUCED, unsafe, log 35] -/
def State.dozeIncrement (s : State) : Int :=
  floorDiv (250000000 * 65536 * (10000 - s.gi F.CLK_TRIM_SD_TRIM)) 10000

/-- The increment of one tick of Marigold ÷ 2 in degraded operation while the tick comes from SYSPLL: 5 ns, corrected
by the Marigold trim in units of 0.01 % (R512). [DEDUCED, unsafe, log 35] -/
def State.marigoldIncrement (s : State) : Int := floorDiv (5 * 2 ^ 32 * (10000 - s.gi F.CLK_TRIM_MG_TRIM)) 10000

/-- The nominal length of a tick of the clock that drives the time base, in units of 2^-16 ns (R600): 4 ns, one Snowdrop
tick in Doze, 5 ns while Marigold gives the tick. -/
def State.tickLength (s : State) : Nat :=
  if s.clk.power ≠ .run then 250000000
  else if s.is F.CLK_STATUS_DEGRADED && !s.is F.TB_CTRL_TICK_SRC then 5 * 65536
  else 4 * 65536

/-- Is a PLL ready: 0 SYSPLL, 1 NETPLL, 2 MEMPLL (CLK_STATUS.PLL_READY)? -/
def State.pllReady (s : State) (i : Nat) : Bool := testBit (s.g F.CLK_STATUS_PLL_READY) i

/-- Does the time base have a tick clock (R41, R58, R512): Snowdrop in Doze, Marigold in degraded operation for SYSPLL, else
the output of the selected PLL? [DEDUCED, unsafe, log 135] -/
def State.tickRuns (s : State) : Bool :=
  s.clk.power ≠ .run || (s.is F.CLK_STATUS_DEGRADED && !s.is F.TB_CTRL_TICK_SRC) || s.pllReady (bit (s.is F.TB_CTRL_TICK_SRC))

/-- The calendar advances (R554), and OPERATING with each whole second outside Dormant (R553). -/
def State.advanceCalendar (s : State) (d : Nat) : State :=
  let c := s.mg.calendar + d
  let s' := { s with mg := { s.mg with calendar := c } }
  if s.clk.power ≠ .dormant && c / secUnits != s.mg.calendar / secUnits then s'.addLife 0 1 else s'

/-- One tick of the time base: the counter takes its increment (R38, R39, R58, R512) while it has a tick clock (R41), and time
elapses (R600). In Dormant only the calendar runs (R526). [DESIGN CHOICE, safe, log 2; DEDUCED, unsafe, log 35 and 135] -/
def State.tick (s : State) : State :=
  let d := s.tickLength
  let inc : Int :=
    if !s.tickRuns then 0
    else if s.clk.power ≠ .run then s.dozeIncrement
    else if s.is F.CLK_STATUS_DEGRADED && !s.is F.TB_CTRL_TICK_SRC then s.marigoldIncrement
    else s.increment
  let r := s.tb.tickRem + d
  let s := if s.clk.power = .dormant then s
    else { s with tb := { s.tb with
      ctr := ((s.tb.ctr : Int) + inc).toNat, ticks := s.tb.ticks + r / 262144, tickRem := r % 262144 } }
  s.advanceCalendar d

/-- TB_ADJ is written; ADJ_CLAMPED shows whether it sits at a limit (R40). -/
def State.setAdj (s : State) (x : Int) : State :=
  let y := clampI (-adjMax) adjMax x
  (s.pi F.TB_ADJ_ADJ y).pb F.TB_STATUS_ADJ_CLAMPED (decide (y = adjMax ∨ y = -adjMax))

/-! ### The servo -/

def servoFree : Nat := 0
def servoAcquire : Nat := 1
def servoLocked : Nat := 2
def servoHoldover : Nat := 3

/-- The servo state (*Servo states*). -/
def State.servo (s : State) : Nat := s.g F.TB_STATUS_SERVO_STATE

/-- The device's own bit of LSH_PRESENT, and the count (R565). -/
def State.setPresent (s : State) (m : Nat) (b : Bool) : State :=
  let s := s.p ⟨R.LSH_PRESENT (m / 32), m % 32, 1⟩ (bit b)
  s.p F.LSH_JOIN_STATUS_PRESENT
    ((List.range 8).foldl (fun a i => a + popCount 32 (s.rd (R.LSH_PRESENT i)).toNat) 0)

/-- The servo enters a state. While the device is LOCKED it counts itself present (R565); when it leaves LOCKED it stops
sending JOIN and clears COMPLETE (R567). The steps that a wake allows (R58) end with the ACQUIRE that it began. A calendar set after 60 s or more without LOCKED is to be journalled (R554). -/
def State.setServo (s : State) (x : Nat) : State :=
  let was := s.servo == servoLocked
  let is := x == servoLocked
  let s := s.when (was && !is) fun s =>
    let s := (s.off F.LSH_JOIN_STATUS_COMPLETE).off F.LSH_JOIN_STATUS_JOINING
    { s with lsh := { s.lsh with joinLeft := none, selfSince := none }, mg := { s.mg with lockedTick := s.tb.ticks } }.setPresent (s.g F.LSH_CFG_MEMBER) false
  let s := s.when (!was && is) fun s =>
    let gap := decide (s.mg.lockedTick + 15000000000 ≤ s.tb.ticks)
    { s with lsh := { s.lsh with selfSince := some s.tb.ticks }, mg := { s.mg with calFirst := s.mg.calFirst || gap } }.setPresent (s.g F.LSH_CFG_MEMBER) true
  let s := s.when (s.servo != x) fun s => { s with tb := { s.tb with wakeAcquire := false } }
  s.p F.TB_STATUS_SERVO_STATE x

/-- The servo enters ACQUIRE: its runs start anew, and so do the outputs that R57 averages. -/
def State.enterAcquire (s : State) : State :=
  let s := { s with tb := { s.tb with runIn := 0, runOut := 0, outputs := [] } }
  s.setServo servoAcquire

/-- In FREE, the servo enters ACQUIRE once SERVO_EN is 1 and a parent is selected (*Servo states*, R601). -/
def State.leaveFree (s : State) : State :=
  if s.servo == servoFree && s.is F.TB_CTRL_SERVO_EN && s.tb.parent.isSome && s.g F.TB_CTRL_PROTOCOL != 0
  then s.enterAcquire else s

/-- Is any servo axis or auxiliary channel enabled (R55, R570)? -/
def State.driveEnabled (s : State) : Bool :=
  (List.range 16).any (fun n => s.is (F.AX_PWM_CTL_OUT_EN n)) || (List.range 24).any (fun n => s.is (F.AUX_CFG_EN n))

/-- May the servo step (R55)? On the wake from Doze it may, unless STEP_MODE is 2 (R58). -/
def State.stepAllowed (s : State) : Bool :=
  let mode := s.g F.TB_CTRL_STEP_MODE
  if mode == 0 then true
  else if mode == 1 then (s.servo == servoAcquire && !s.driveEnabled) || s.tb.wakeAcquire
  else false

/-- `e` in units of 2^-16 ns as TB_OFFSET shows it: units of 2^-8 ns, saturating at ±(2^31 − 1). -/
def offsetView (e : Int) : Int := clampI (-(2 ^ 31 - 1)) (2 ^ 31 - 1) (floorDiv e 256)

/-- The arithmetic of on_sync (R54): the integrator in units of 2^-32 of one TB_ADJ unit, and the output. -/
def State.servoRun (s : State) (e : Int) : State :=
  let lim := adjMax * 2 ^ 32
  let i := clampI (-lim) lim (s.tb.integ + (s.g F.TB_SERVO_KI_KI : Int) * e)
  let a := clampI (-adjMax) adjMax (floorDiv ((s.g F.TB_SERVO_KP_KP : Int) * e + i) (2 ^ 32))
  ({ s with tb := { s.tb with integ := i, outputs := lastN 16 (s.tb.outputs ++ [a]) } }).setAdj a

/-- A duration since tick `t0` in whole milliseconds, saturating at 65,535. -/
def State.msSince (s : State) (t0 : Nat) : Nat := min ((s.tb.ticks - t0) * 4 / 1000000) 65535

/-- A grandmaster switch begins (R61): the new parent is selected and SWITCHING is set; the run of syncs within LOCK_WIN
counts syncs of the new parent. [DEDUCED, unsafe, log 31 and 141] -/
def State.beginGmSwitch (s : State) (a : Announce) (cause : Nat) : State :=
  let old := match s.tb.parent with
    | some p => p.gm
    | none => s.tb.swOld
  let s := { s with tb := { s.tb with
    swOld := old, swCause := cause, swStart := s.now, swTick := s.tb.ticks, parent := some a, pendingGm := none, runIn := 0 } }
  ((s.on F.TB_STATUS_SWITCHING).off F.TB_STATUS_BETTER_GM_PENDING).off F.TB_STATUS_HOLDOFF |>.leaveFree

/-- A grandmaster switch completes (R65, R62): the log registers and the journal take it, and the hold-off starts. -/
def State.completeGmSwitch (s : State) (timedOut : Bool) : State :=
  let new : Nat := match s.tb.parent with
    | some p => p.gm
    | none => 0
  let s := s.wr64 R.TB_GM_LOG_OLD_LO R.TB_GM_LOG_OLD_HI s.tb.swOld
  let s := s.wr64 R.TB_GM_LOG_NEW_LO R.TB_GM_LOG_NEW_HI new
  let s := ((s.p F.TB_GM_LOG_INFO_CAUSE s.tb.swCause).pb F.TB_GM_LOG_INFO_TIMED_OUT timedOut).p
    F.TB_GM_LOG_INFO_DURATION (s.msSince s.tb.swTick)
  let s := s.wr R.TB_GM_LOG_END s.short
  let s := s.journal 2 7 (Config.severity 66) [s.tb.swOld, new, (s.rd R.TB_GM_LOG_INFO).toNat, s.tb.swStart, s.now]
  let s := { s with tb := { s.tb with swOld := new, holdTick := s.tb.ticks } }
  ((s.off F.TB_STATUS_SWITCHING).on F.TB_STATUS_HOLDOFF).raiseSt 66 R.TB_STATUS

/-- The servo reaches LOCKED (R54, R43): a running switch completes (R65). -/
def State.enterLocked (s : State) : State :=
  let s := { s with tb := { s.tb with runOut := 0 } }
  let s := ((s.setServo servoLocked).on F.TB_STATUS_TIME_VALID).raiseSt 68 R.TB_STATUS
  s.when (s.is F.TB_STATUS_SWITCHING) fun s => s.completeGmSwitch false

/-- The runs of syncs inside LOCK_WIN and outside UNLOCK_WIN, and the state they lead to (*Servo states*). A servo that stayed
LOCKED over a switch is LOCKED to the new grandmaster with the sixteenth sync of it in a row within LOCK_WIN (R65).
[DEDUCED, unsafe, log 141] -/
def State.judgeSync (s : State) (e : Int) : State :=
  let inWin := decide (absN e ≤ s.g F.TB_LOCK_LOCK_WIN * 65536)
  let outWin := decide (s.g F.TB_LOCK_UNLOCK_WIN * 65536 < absN e)
  let s := { s with tb := { s.tb with
    runIn := if inWin then s.tb.runIn + 1 else 0, runOut := if outWin then s.tb.runOut + 1 else 0 } }
  if s.servo == servoAcquire && 16 ≤ s.tb.runIn then s.enterLocked
  else if s.servo == servoLocked && s.is F.TB_STATUS_SWITCHING && 16 ≤ s.tb.runIn then s.completeGmSwitch false
  else if s.servo == servoLocked && 4 ≤ s.tb.runOut then s.enterAcquire
  else s

/-- One run of the servo on a measured offset (R54): the first sync after a step is skipped; a step is decided, or the
servo moves TB_ADJ. [DEDUCED, unsafe, log 140] -/
def State.onSync (s : State) (e : Int) : State :=
  if s.tb.afterStep then { s with tb := { s.tb with afterStep := false } }
  else
    let s := s.judgeSync e
    if s.g F.TB_STEP_THR_THR * 65536 < absN e && s.stepAllowed
    then { s with tb := { s.tb with
      afterStep := true, stepTick := s.tb.ticks, pendingStep := s.tb.pendingStep ++ [CtrStep.add (e * 65536)] } }
    else s.servoRun e

/-- A timestamp in units of 2^-16 ns with 250 ps resolution (R52). -/
def stamp250 (t : Nat) : Nat := t / 16384 * 16384

/-- The timestamp of an event message that entered port `p` (R52, R53): the word-alignment position of the link is taken off, and
RX_LAT is subtracted. [DESIGN CHOICE, safe, log 33] -/
def State.ingressStamp (s : State) (p rx : Nat) : Int :=
  (stamp250 (rx - (s.ethOf p).align) : Int) - s.g (F.TB_PHYLAT_ETH_RX_LAT p) * 16384

/-- The offset from the master, master minus local, that a sync gives (*The servo*, R53): the master's time of sending with
the corrections that the message brings, the path delay and the port's delayAsymmetry, against the ingress timestamp.
[DESIGN CHOICE, safe, log 33] -/
def State.syncOffset (s : State) (p rx master : Nat) (delay : Int) : Int :=
  (master : Int) + delay + s.gi (F.TB_ASYM_ETH_ASYM p) * 256 - s.ingressStamp p rx

/-- The master's time of sending with its corrections (R49): one-step, or two-step with its follow-up. -/
def SyncTime.value : SyncTime → Nat
  | .oneStep o c => ((o : Int) + c).toNat
  | .twoStep c o d => ((o : Int) + c + d).toNat

/-- SYNC_RECEIVED (R54, R601): a sync with its port, its domain, its instant at the port's SerDes, the master's time of sending,
the path delay measured on the port, all in units of 2^-16 ns, and its interval. Only a sync of the selected port and clock, in
the domain of the instance that steers the counter, reaches the servo.
[DESIGN CHOICE, safe, log 33; DESIGN CHOICE, unsafe, log 190] -/
def execSyncReceived (port : Fin 2) (src : DomainClock) (rx : Nat) (master : SyncTime) (delay : Int) (ival : Nat)
    (s : State) : Res :=
  match s.tb.parent with
  | none => .next s
  | some p =>
    let e := s.syncOffset port rx master.value delay
    if src.domain != 0 || s.g F.TB_CTRL_PROTOCOL == 0 || p.gm != src.gm || p.port != port || s.clk.power ≠ .run then .next s
    else
      let s := { s with tb := { s.tb with syncIval := ival, lastSync := s.tb.ticks } }
      let s := s.pi F.TB_OFFSET_E (offsetView e)
      if !s.is F.TB_CTRL_SERVO_EN then .next s
      else
        let s := s.when (s.servo == servoFree || s.servo == servoHoldover) State.enterAcquire
        .next (s.onSync e)

/-- Have (SYNC_LOSS + 0.5) sync intervals passed since the last sync (R57)? Before the first sync of a newly selected parent, and
after a wake, the last sync and interval are those of the parent before, 0 at reset. [DESIGN CHOICE, unsafe, log 188] -/
def State.syncLost (s : State) : Bool :=
  decide ((2 * atLeast1 (s.g F.TB_HOLDOVER_SYNC_LOSS) + 1) * s.tb.syncIval ≤ 2 * (4 * (s.tb.ticks - s.tb.lastSync)))

/-- HOLDOVER_ENTRY (R57): syncs have stopped; TB_ADJ and the integrator take the mean of the last outputs. -/
def execHoldoverEntry (s : State) : Res :=
  if (s.servo == servoAcquire || s.servo == servoLocked) && s.syncLost then
    let n := s.tb.outputs.length
    let s := s.when (n != 0) fun s => s.setAdj (floorDiv (sumI s.tb.outputs) n)
    let s := { s with tb := { s.tb with integ := s.gi F.TB_ADJ_ADJ * 2 ^ 32 } }
    .next ((s.setServo servoHoldover).raiseSt 67 R.TB_STATUS)
  else .next s

/-- A write of SERVO_EN (R54): 1 starts the servo from TB_ADJ as it stands; 0 stops it and discards its outputs. -/
def wrServoEn (v : Bool) (s : State) : State :=
  if v then
    if s.is F.TB_CTRL_SERVO_EN then s
    else
      let s := s.on F.TB_CTRL_SERVO_EN
      { s with tb := { s.tb with integ := s.gi F.TB_ADJ_ADJ * 2 ^ 32 } }.leaveFree
  else
    let s := s.off F.TB_CTRL_SERVO_EN
    { s with tb := { s.tb with outputs := [] } }.setServo servoFree

/-- SERVO_EN (R54). -/
def execServoEn (rq : Rq) (v : Bool) (s : State) : Res := .next (s.write rq R.TB_CTRL (wrServoEn v))

/-- A write of TICK_SRC (R42): refused while the newly selected PLL is not ready. [DESIGN CHOICE, safe, log 5] -/
def wrTickSrc (v : Bool) (s : State) : State :=
  if v == s.is F.TB_CTRL_TICK_SRC then s
  else if s.pllReady (bit v) then s.pb F.TB_CTRL_TICK_SRC v
  else s.on F.TB_STATUS_TICK_SRC_REFUSED

/-- TICK_SRC_CHANGE (R42). -/
def execTickSrcChange (rq : Rq) (v : Bool) (s : State) : Res := .next (s.write rq R.TB_CTRL (wrTickSrc v))

/-- Would the value be a reserved value or combination of TB_CTRL (R50)? -/
def tbCtrlReserved (v : Word) : Bool :=
  let prot := getBits v 1 3
  let role := getBits v 4 2
  4 < prot || role == 3 || getBits v 7 2 == 3 || (role == 2 && (prot < 2 || 4 < prot)) ||
    (getBits v 10 1 == 1 && (prot < 2 || 4 < prot))

/-- A write of TB_CTRL (R50): refused as a whole, or every field takes its value by its own rule. A new PROTOCOL leaves the selected
parent and the recorded announces as they are. [DESIGN CHOICE, unsafe, log 187] -/
def wrTbCtrl (v : Word) (s : State) : State :=
  if tbCtrlReserved v then s.on F.TB_STATUS_CMD_REFUSED
  else
    let s := (((s.p F.TB_CTRL_PROTOCOL (getBits v 1 3)).p F.TB_CTRL_ROLE (getBits v 4 2)).p F.TB_CTRL_STEP_MODE
      (getBits v 7 2)).p F.TB_CTRL_GM_POLICY (getBits v 9 1)
    let s := s.p F.TB_CTRL_TRANSPORT (getBits v 10 1)
    wrTickSrc (getBits v 6 1 == 1) (wrServoEn (getBits v 0 1 == 1) s).leaveFree

/-- TB_CTRL_WRITE (R50). -/
def execTbCtrlWrite (rq : Rq) (v : Word) (s : State) : Res := .next (s.write rq R.TB_CTRL (wrTbCtrl v))

/-- A write of TB_ADJ (R59, R40): refused while SERVO_EN is 1. -/
def wrTbAdj (v : Word) (s : State) : State :=
  if s.is F.TB_CTRL_SERVO_EN then s.on F.TB_STATUS_CMD_REFUSED else s.setAdj (signed 32 v.toNat)

/-- TB_ADJ_WRITE (R59). -/
def execTbAdjWrite (rq : Rq) (v : Word) (s : State) : Res := .next (s.write rq R.TB_ADJ (wrTbAdj v))

/-- Does R59 refuse TB_CMD.SET and TB_CMD.STEP? -/
def State.setRefused (s : State) : Bool := s.is F.TB_CTRL_SERVO_EN && s.servo != servoFree

/-- TB_CMD.SET (R59, R43): the load waits for its tick, or is refused. -/
def cmdTbSet (s : State) : State :=
  if s.setRefused || 999999999 < (s.rd R.TB_SET_NS).toNat then s.on F.TB_STATUS_CMD_REFUSED
  else
    let sec := (s.rd R.TB_SET_SEC_LO).toNat + 2 ^ 32 * s.g F.TB_SET_SEC_HI_SEC
    let t := (sec * 1000000000 + (s.rd R.TB_SET_NS).toNat) * 2 ^ 32
    { s with tb := { s.tb with
      pendingStep := s.tb.pendingStep ++ [CtrStep.load t], stepTick := s.tb.ticks, afterStep := true } }.on F.TB_STATUS_TIME_VALID

/-- TB_SET (R59). -/
def execTbSet (rq : Rq) (s : State) : Res := .next (s.write rq R.TB_CMD cmdTbSet)

/-- TB_CMD.STEP (R59): the step waits for its tick, or is refused. -/
def cmdTbStep (s : State) : State :=
  if s.setRefused then s.on F.TB_STATUS_CMD_REFUSED
  else { s with tb := { s.tb with
    pendingStep := s.tb.pendingStep ++ [CtrStep.add (s.gi F.TB_STEP_OFS_OFS * 2 ^ 32)], stepTick := s.tb.ticks,
    afterStep := true } }

/-- TB_STEP (R59). -/
def execTbStep (rq : Rq) (s : State) : Res := .next (s.write rq R.TB_CMD cmdTbStep)

/-- The counter after one pending change. -/
def CtrStep.apply (k : CtrStep) (ctr : Nat) : Nat :=
  match k with
  | .load t => t
  | .add d => ((ctr : Int) + d).toNat

/-- The counter takes its pending changes, in the order in which they were asked for, as one step (R56), at a tick at which it
has taken its increment: STEPPED is set and a time-stepped event raised. The second value is the step in units of 2^-16 ns,
against the time that the counter would have held. [DEDUCED, unsafe, log 32] -/
def State.applyStep (s : State) : State × Int :=
  match s.tb.pendingStep with
  | [] => (s, 0)
  | l =>
    let new := l.foldl (fun c k => k.apply c) s.tb.ctr
    let d : Int := ((new / 65536 : Nat) : Int) - s.now
    let s := { s with tb := { s.tb with ctr := new, pendingStep := [] } }
    ((s.on F.TB_STATUS_STEPPED).raiseSt 64 R.TB_STATUS, d)

/-! ### Time shadows -/

/-- A requester's time shadow, if it has ever been filled (R44). -/
def State.timeShadow (s : State) (rq : Rq) : Option Nat := tabGet (fun _ => none) s.tb.shadows rq.idx

/-- What TB_NOW_FRAC, TB_NOW_NS, TB_NOW_SEC_LO and TB_NOW_SEC_HI show of a full time: parts 0 to 3. -/
def nowPart (full : Nat) : Nat → Word
  | 0 => BitVec.ofNat 32 (full % 65536)
  | 1 => BitVec.ofNat 32 (full / 65536 % 1000000000)
  | 2 => BitVec.ofNat 32 (full / 65536 / 1000000000)
  | _ => BitVec.ofNat 32 (full / 65536 / 1000000000 / 2 ^ 32 % 65536)

/-- A read of TB_NOW_FRAC fills the requester's time shadow (R44). -/
def State.fillTimeShadow (s : State) (rq : Rq) : State :=
  { s with tb := { s.tb with shadows := tabSet (fun _ => none) s.tb.shadows rq.idx (some s.now) } }

/-- A read of part 1 to 3 of full time: from the shadow, or live with TORN set (R44). -/
def State.readNow (s : State) (rq : Rq) (part : Nat) : Word × State :=
  match s.timeShadow rq with
  | some t => (nowPart t part, s)
  | none => (nowPart s.now part, s.on F.TB_STATUS_TORN)

/-- TB_TIME_SHADOW_FILL (R44). -/
def execTbTimeShadowFill (rq : Rq) (s : State) : Res :=
  if s.readErr R.TB_NOW_FRAC then .next (s.readAbort rq R.TB_NOW_FRAC)
  else .next ((s.fillTimeShadow rq).emit (.read rq R.TB_NOW_FRAC (nowPart s.now 0)))

/-- TB_SHADOW_READ (R44): part 0 is TB_NOW_NS, 1 TB_NOW_SEC_LO, 2 TB_NOW_SEC_HI. -/
def execTbShadowRead (rq : Rq) (part : Fin 3) (s : State) : Res :=
  let a := R.TB_NOW_NS + 4 * part
  if s.readErr a then .next (s.readAbort rq a)
  else
    let r := s.readNow rq (part + 1)
    .next (r.2.emit (.read rq a r.1))

/-! ### Grandmaster selection -/

/-- The data set of an announce in the order in which the best master clock algorithm compares. -/
def Announce.rank (a : Announce) : List Nat :=
  [a.priority1, a.clockClass, a.accuracy, a.variance, a.priority2, a.gm, a.stepsRemoved, a.port.val]

/-- Is the first list before the second in lexicographic order? -/
def lexLt : List Nat → List Nat → Bool
  | a :: x, b :: y => if a < b then true else if b < a then false else lexLt x y
  | [], _ :: _ => true
  | _, _ => false

/-- Is `a` a better grandmaster than `b`? -/
def Announce.better (a b : Announce) : Bool := lexLt a.rank b.rank

/-- This device's own data set (R51). [DESIGN CHOICE, safe, log 34] -/
def State.ownAnnounce (s : State) : Announce :=
  ⟨Config.clockIdentity.toNat, s.g F.TB_BMCA_PRIORITY1, s.g F.TB_BMCA_CLOCK_CLASS, s.g F.TB_BMCA_CLOCK_ACCURACY,
   Config.clockVariance.toNat, s.g F.TB_BMCA_PRIORITY2, 0, false, 0, false, false, 0, 0, 0⟩

/-- May the announce's clock become parent: does this device's own data set not come before it (R51)? With PRIORITY1 at
255 the device never becomes grandmaster. An external port configuration takes the place of the comparison (R49). -/
def State.eligible (s : State) (a : Announce) : Bool :=
  match s.tb.extSlave with
  | some q => a.port == q
  | none => s.g F.TB_BMCA_PRIORITY1 == 255 || a.better s.ownAnnounce

/-- The best of a list of announces, if any. -/
def bestOf : List Announce → Option Announce
  | [] => none
  | a :: t => match bestOf t with
    | some b => if b.better a then some b else some a
    | none => some a

/-- Does an announce qualify (R601): not one of this device, fewer than 255 steps away, and with an IEEE 1588 protocol the
second within four announce intervals? [PRESUMED, unsafe, log 136] -/
def State.qualifies (s : State) (a : Announce) : Bool :=
  a.gm != Config.clockIdentity.toNat && decide (a.stepsRemoved < 255) &&
    (s.g F.TB_CTRL_PROTOCOL == 1 || s.tb.foreign.any fun f =>
      f.a.gm == a.gm && f.a.port == a.port && (f.ok || decide (4 * (s.tb.ticks - f.tick) ≤ 4 * a.intervalNs)))

/-- The announce replaces an earlier one of the same clock through the same port. -/
def State.recordAnnounce (s : State) (a : Announce) : State :=
  let f : Foreign := ⟨a, s.tb.ticks, s.qualifies a⟩
  { s with tb := { s.tb with foreign := s.tb.foreign.filter (fun b => b.a.gm != a.gm || b.a.port != a.port) ++ [f] } }

/-- The best qualified clock that may become parent (R601, R51). -/
def State.bestClock (s : State) : Option Announce :=
  bestOf (((s.tb.foreign.filter fun f => f.ok).map fun f => f.a).filter s.eligible)

/-- The UTC fields follow an announce of the selected grandmaster (R48, R601). -/
def State.followUtc (s : State) (a : Announce) : State :=
  if s.is F.TB_UTC_FROM_ANNOUNCE && a.utcValid
  then (((s.p F.TB_UTC_OFFSET a.utcOffset).on F.TB_UTC_VALID).pb F.TB_UTC_LEAP61 a.leap61).pb F.TB_UTC_LEAP59 a.leap59
  else s

/-- A better grandmaster is recorded while it has to wait (R61). -/
def State.pendGm (s : State) (a : Announce) : State :=
  ({ s with tb := { s.tb with pendingGm := some a } }.on F.TB_STATUS_BETTER_GM_PENDING).raiseSt 65 R.TB_STATUS

/-- A pending better grandmaster that is none any more is forgotten (R62). -/
def State.unpendGm (s : State) : State :=
  { s with tb := { s.tb with pendingGm := none } }.off F.TB_STATUS_BETTER_GM_PENDING

/-- The algorithm runs on the qualified announces and this device's own data set (R601, R51, R61): it selects a first parent,
keeps the one it has, deselects one that this device's own set has come to precede, begins a switch to a better one, or
records the better one while a switch or hold-off runs or the host is to command it.
[DEDUCED, unsafe, log 31 and 137 and 138; PRESUMED, unsafe, log 136] -/
def State.runBmca (s : State) : State :=
  match s.tb.parent, s.bestClock with
  | none, none => s
  | none, some b => s.beginGmSwitch b (if s.tb.swOld == 0 then 2 else 1)
  | some p, none =>
    (({ s with tb := { s.tb with parent := none, swOld := p.gm } }.off F.TB_STATUS_SWITCHING).unpendGm)
  | some p, some b =>
    if p.gm == b.gm then { s with tb := { s.tb with parent := some b } }.when s.tb.pendingGm.isSome State.unpendGm
    else if s.is F.TB_STATUS_SWITCHING || s.is F.TB_STATUS_HOLDOFF || s.is F.TB_CTRL_GM_POLICY then
      match s.tb.pendingGm with
      | some q => if q.gm == b.gm then { s with tb := { s.tb with pendingGm := some b } } else s.pendGm b
      | none => s.pendGm b
    else s.beginGmSwitch b 2

/-- ANNOUNCE_RECEIVED (R601, R48): in the domain of the instance that steers the counter. The UTC fields follow every announce of
the selected grandmaster, through whichever port. [DESIGN CHOICE, unsafe, log 190] -/
def execAnnounceReceived (a : Announce) (s : State) : Res :=
  if a.domain != 0 || s.g F.TB_CTRL_PROTOCOL == 0 then .next s
  else
    let s := (s.recordAnnounce a).runBmca
    match s.tb.parent with
    | some p => if p.gm == a.gm then .next (s.followUtc a) else .next s
    | none => .next s

/-- ANNOUNCE_TIMEOUT (R601, R62, R63): a clock's announces through a port time out. A pending grandmaster of which no announce is
left is forgotten. A parent lost is deselected: the same clock through the other port takes its place where the algorithm selects
it; else a hold-off ends, and a switch begins to the best clock that still announces itself.
[DEDUCED, unsafe, log 138; DESIGN CHOICE, unsafe, log 187] -/
def execAnnounceTimeout (lost : PortClock) (s : State) : Res :=
  let port := lost.port
  let gm := lost.gm
  if s.g F.TB_CTRL_PROTOCOL == 0 then .next s
  else
    let s := { s with tb := { s.tb with foreign := s.tb.foreign.filter (fun b => b.a.gm != gm || b.a.port != port) } }
    let s := match s.tb.pendingGm with
      | some q =>
        if q.gm != gm || q.port != port then s
        else match s.tb.foreign.find? (fun (b : Foreign) => b.a.gm == gm) with
          | some b => { s with tb := { s.tb with pendingGm := some b.a } }
          | none => s.unpendGm
      | none => s
    match s.tb.parent with
    | none => .next s
    | some p =>
      if p.gm != gm || p.port != port then .next s
      else match s.bestClock with
        | some b =>
          if b.gm == gm then .next { s with tb := { s.tb with parent := some b } }
          else .next (({ s with tb := { s.tb with parent := none, swOld := p.gm } }.off F.TB_STATUS_HOLDOFF).beginGmSwitch b 1)
        | none =>
          .next (({ s with tb := { s.tb with parent := none, swOld := p.gm } }.off F.TB_STATUS_HOLDOFF).off F.TB_STATUS_SWITCHING)

/-- Elapsed ticks in 0.1 s (R600). -/
def tenthTicks : Nat := 25000000

/-- GM_SWITCH_TIMEOUT (R65): SWITCH_TMO has passed since the switch began. -/
def execGmSwitchTimeout (s : State) : Res :=
  .next (s.when (s.is F.TB_STATUS_SWITCHING && s.tb.swTick + s.g F.TB_GM_CTRL_SWITCH_TMO * tenthTicks ≤ s.tb.ticks) fun s =>
    s.completeGmSwitch true)

/-- GM_HOLDOFF_END (R62): HOLDOFF has passed since the last completed switch; a pending better grandmaster is taken at once,
or waits for TB_CMD.GM_SWITCH. -/
def execGmHoldoffEnd (s : State) : Res :=
  if !s.is F.TB_STATUS_HOLDOFF || s.tb.ticks < s.tb.holdTick + s.g F.TB_GM_CTRL_HOLDOFF * tenthTicks then .next s
  else
    let s := s.off F.TB_STATUS_HOLDOFF
    match s.tb.pendingGm with
    | some a => if s.is F.TB_CTRL_GM_POLICY then .next s else .next (s.beginGmSwitch a 2)
    | none => .next s

/-- A write of TB_GM_CTRL: HOLDOFF is held at the nearer of its limits; SWITCH_TMO 0 is reserved (R599). -/
def wrGmCtrl (v : Word) (s : State) : State :=
  if getBits v 16 8 == 0 then s.on F.TB_STATUS_CMD_REFUSED
  else (s.p F.TB_GM_CTRL_HOLDOFF (clampN 1 600 (getBits v 0 16))).p F.TB_GM_CTRL_SWITCH_TMO (getBits v 16 8)

/-- A write of TB_LOCK: an UNLOCK_WIN below LOCK_WIN is out of its range (R599). -/
def wrTbLock (v : Word) (s : State) : State :=
  if getBits v 16 16 < getBits v 0 16 then s.on F.TB_STATUS_CMD_REFUSED else s.wr R.TB_LOCK v

/-- A write of TB_BMCA (R51): the algorithm compares this device's new data set. -/
def wrTbBmca (v : Word) (s : State) : State :=
  let s := s.wr R.TB_BMCA v
  s.when (s.g F.TB_CTRL_PROTOCOL != 0) State.runBmca

/-- TB_CMD.GM_SWITCH (R64). -/
def cmdGmSwitch (s : State) : State :=
  match s.tb.pendingGm with
  | some a =>
    if s.is F.TB_STATUS_SWITCHING || s.is F.TB_STATUS_HOLDOFF then s.on F.TB_STATUS_CMD_REFUSED
    else s.beginGmSwitch a 3
  | none => s.on F.TB_STATUS_CMD_REFUSED

/-- GM_SWITCH (R64). -/
def execGmSwitch (rq : Rq) (s : State) : Res := .next (s.write rq R.TB_CMD cmdGmSwitch)

/-- A write of TB_CMD: the commands of the bits written 1, from bit 0 up. -/
def wrTbCmd (v : Word) (s : State) : State :=
  ((s.when (getBits v 0 1 == 1) cmdTbSet).when (getBits v 1 1 == 1) cmdTbStep).when (getBits v 2 1 == 1) cmdGmSwitch

/-- A write of TB_UTC (R48): OFFSET is the host's only while FROM_ANNOUNCE is 0, and then VALID and the leap flags
read 0. [DEDUCED, unsafe, log 139] -/
def wrTbUtc (v : Word) (s : State) : State :=
  let s := s.p F.TB_UTC_FROM_ANNOUNCE (getBits v 19 1)
  if s.is F.TB_UTC_FROM_ANNOUNCE then s
  else (((s.p F.TB_UTC_OFFSET (getBits v 0 16)).off F.TB_UTC_VALID).off F.TB_UTC_LEAP61).off F.TB_UTC_LEAP59

/-! ### Messages sent -/

/-- Is port `p` a master port (R49, R51)? Every port is while this device is grandmaster, which it never is with PRIORITY1
255; while it has a parent, a bridge or boundary clock is master on the ports that do not lead to it; an external port configuration
names the slave port. [DEDUCED, unsafe, log 142; DESIGN CHOICE, unsafe, log 190] -/
def State.masterPort (s : State) (p : Fin 2) : Bool :=
  match s.tb.extSlave, s.tb.parent with
  | some q, _ => s.g F.TB_CTRL_ROLE == 1 && p != q
  | none, none => s.g F.TB_BMCA_PRIORITY1 != 255
  | none, some a => s.g F.TB_CTRL_ROLE == 1 && a.port != p

/-- Does the time base send this message through port `p` in its role (R49, R52)? Sync, follow-up, announce and delay
response messages leave master ports; delay requests of the default profile leave the port that leads to the parent; the
peer-delay messages of the other protocols leave every port. [DEDUCED, unsafe, log 142] -/
def State.sendsPtp (s : State) (p : Fin 2) (m : PtpMsg) : Bool :=
  let prot := s.g F.TB_CTRL_PROTOCOL
  prot != 0 && match m with
    | .sync | .followUp | .announce => s.masterPort p
    | .delayReq => prot == 2 && match s.tb.parent with
      | some a => a.port == p
      | none => false
    | .delayResp => prot == 2 && s.masterPort p
    | .pdelayReq | .pdelayResp | .pdelayRespFollowUp => prot != 2

/-- Is it an event message, which is timestamped (R52)? -/
def PtpMsg.isEvent : PtpMsg → Bool
  | .sync | .delayReq | .pdelayReq | .pdelayResp => true
  | .followUp | .announce | .delayResp | .pdelayRespFollowUp => false

/-- An egress timestamp in units of 2^-16 ns with 250 ps resolution, to which TX_LAT is added (R52, R53). -/
def State.egressStamp (s : State) (p : Nat) : Nat := stamp250 s.now + s.g (F.TB_PHYLAT_ETH_TX_LAT p) * 16384

/-- The place of the last timestamp of an event message at a port: received or sent, by its PTP message type 0 to 3. -/
def stampKey (p : Nat) (sent : Bool) (type : Nat) : Nat := 8 * p + 4 * bit sent + type

/-- The last timestamp of that kind. -/
def State.ptpStamp (s : State) (k : Nat) : Nat := tabGet (fun _ => 0) s.tb.stamps k
def State.noteStamp (s : State) (k t : Nat) : State :=
  { s with tb := { s.tb with stamps := tabSet (fun _ => 0) s.tb.stamps k t } }

/-- The type of an event message in its header. -/
def PtpMsg.type : PtpMsg → Nat
  | .sync => 0
  | .delayReq => 1
  | .pdelayReq => 2
  | _ => 3

/-- The timestamp of another event message that a message carries (R52): a follow-up that of the sync or of the peer-delay
response before it, a response that of the request received. -/
def State.carriedStamp (s : State) (p : Nat) : PtpMsg → Nat
  | .followUp => s.ptpStamp (stampKey p true 0)
  | .delayResp => s.ptpStamp (stampKey p false 1)
  | .pdelayResp => s.ptpStamp (stampKey p false 2)
  | .pdelayRespFollowUp => s.ptpStamp (stampKey p true 3)
  | _ => 0

/-- PTP_TRANSMIT (R52, R53): the message leaves the port, over the transport of TB_CTRL.TRANSPORT (R50); an event message is
timestamped at egress. -/
def execPtpTransmit (p : Fin 2) (m : PtpMsg) (s : State) : Res :=
  if s.sendsPtp p m && s.is (F.ETH_STATUS_LINK p)
  then
    let t := if m.isEvent then s.egressStamp p else 0
    .next ((s.emit (.ptp p m (s.is F.TB_CTRL_TRANSPORT) t (s.carriedStamp p m))).when m.isEvent fun s =>
      s.noteStamp (stampKey p true m.type) t)
  else .next s

end Sys2Proof.Machine
end

