-- ==== Sys2Proof/Machine/Shaft.lean ====
section
/-! DEFINITION. The line-shaft unit, first part: segments and the master position (R254 to R261), crossings of positions
(R277, R281), cam tables (R273 to R275) and the chain of a follower (R267 to R272). -/

namespace Sys2Proof.Machine

/-! ### Cycles and segments -/

/-- T_cyc in nanoseconds (R254). -/
def State.tCyc (s : State) : Nat := 125000 * 2 ^ min 5 (s.g F.LSH_CFG_CYCLE)

/-- T_cyc in units of 2^-16 ns. -/
def State.cyc (s : State) : Nat := s.tCyc * 65536

/-- The latest cycle start at or before now (R255): every cycle divides one second. -/
def State.cycleStart (s : State) : Nat := s.now - s.now % s.cyc

def State.shaftOf (s : State) (h : Nat) : ShaftSt := tabGet (fun _ => ShaftSt.reset) s.lsh.shafts h
def State.setShaft (s : State) (h : Nat) (x : ShaftSt) : State :=
  { s with lsh := { s.lsh with shafts := tabSet (fun _ => ShaftSt.reset) s.lsh.shafts h x } }
def State.folOf (s : State) (k : Nat) : FolSt := tabGet (fun _ => FolSt.reset) s.lsh.fols k
def State.setFol (s : State) (k : Nat) (x : FolSt) : State :=
  { s with lsh := { s.lsh with fols := tabSet (fun _ => FolSt.reset) s.lsh.fols k x } }

/-- The polynomial of a segment (R257) as a piece of a plan, in the internal units of R227. -/
def Copy.seg (c : Copy) : Seg := ⟨c.t0, c.valid * 65536, c.p0 * 65536, c.v0, c.a0 * 256, c.j0⟩

/-- The end of a segment's validity. -/
def Copy.until (c : Copy) : Nat := c.t0 + c.valid * 65536

/-- Are two copies of a T0 identical in every field other than MEMBER and PRIORITY (R259, R260)? -/
def Copy.same (a b : Copy) : Bool := decide ({ a with member := 0, prio := 0 } = { b with member := 0, prio := 0 })

/-- The copy with the lowest PRIORITY value, the lower member number on a tie (R259). [DEDUCED, unsafe, log 80] -/
def bestCopy : List Copy → Option Copy
  | [] => none
  | c :: t => match bestCopy t with
    | none => some c
    | some b => if c.prio < b.prio || (c.prio == b.prio && c.member ≤ b.member) then some c else some b

/-- The copy that R259 selects for a T0, given the master in use. [DEDUCED, unsafe, log 79] -/
def ShaftSt.pick (x : ShaftSt) (used t0 : Nat) : Option Copy :=
  let l := x.held.filter (·.t0 == t0)
  match l.find? (·.member == used) with
  | none => bestCopy l
  | some m =>
    match bestCopy (l.filter fun c => c.prio < m.prio && 16 ≤ tabGet (fun _ => 0) x.same c.member) with
    | some b => some b
    | none => some m

/-- How many T0s in a row each other master's copies have been identical to those selected (R259).
[DEDUCED, unsafe, log 80] -/
def ShaftSt.runs (x : ShaftSt) (c : Copy) : Tab Nat :=
  (x.held.filter fun d => d.t0 == c.t0 && d.member != c.member).foldl (fun t d =>
    tabSet (fun _ => 0) t d.member (if d.same c then tabGet (fun _ => 0) x.same d.member + 1 else 0)) []

/-- The segment in force at an instant: the selected one with the greatest T0 at or before it, the earliest kept where
there is none (R261). -/
def ShaftSt.inForce (x : ShaftSt) (t : Nat) : Option Copy :=
  match x.cur with
  | none => none
  | some c => some (if c.t0 ≤ t then c else ((x.past.find? fun p => decide (p.t0 ≤ t)).orElse fun _ => x.past.getLast?).getD c)

/-- Master position, velocity and acceleration of a shaft at an instant, from the segment in force there (R261). -/
def State.master (s : State) (h t : Nat) : Option (Int × Int × Int) :=
  ((s.shaftOf h).inForce t).map fun c => c.seg.at_ t

/-- Evaluation beyond T0 + VALID goes on with STATE 2 (R261). [DEDUCED, unsafe, log 79] -/
def State.touchShaft (s : State) (h t : Nat) : State :=
  match (s.shaftOf h).cur with
  | some c => if s.g (F.LSH_SH_STATUS_STATE h) == 1 && c.until ≤ t then s.p (F.LSH_SH_STATUS_STATE h) 2 else s
  | none => s

/-- A segment comes into force (R259, R266). -/
def State.takeSegment (s : State) (h : Nat) (c : Copy) (missing : Nat) : State :=
  let x := s.shaftOf h
  let old := s.g (F.LSH_SH_STATUS_USED_MASTER h)
  let s := s.setShaft h { x with cur := some c, past := (x.cur.toList ++ x.past).take 4, same := x.runs c }
  let s := ((s.p (F.LSH_SH_STATUS_STATE h) 1).p (F.LSH_SH_STATUS_MISSING h) missing).wr (R.LSH_SH_SEQ h)
    (BitVec.ofNat 32 c.seq)
  let s := s.p F.LSH_STATUS_LOST (setBit (s.g F.LSH_STATUS_LOST) h false)
  if old == c.member then s
  else ((s.p (F.LSH_SH_STATUS_USED_MASTER h) c.member).on (F.LSH_SH_STATUS_SWITCHED h)).raiseSt (evShaft h + 3)
    (R.LSH_SH_STATUS h)

/-! ### Crossings -/

/-- The first instant in (lo, lo + 2^n] at which a condition that does not hold at `lo` holds, given that it stays true
from there on: `n` halvings. -/
def firstAfter (f : Nat → Bool) : Nat → Nat → Nat
  | 0, lo => lo + 1
  | n + 1, lo => if f (lo + 2 ^ n) then firstAfter f n lo else firstAfter f n (lo + 2 ^ n)

/-- The first instant in [lo, hi] at which a monotone condition holds; `hi` when it holds nowhere before. -/
def firstAt (f : Nat → Bool) (lo hi : Nat) : Nat :=
  if f lo then lo else min hi (firstAfter (fun t => decide (hi ≤ t) || f t) 45 lo)

/-- The instants within (lo, hi) at which the velocity of a piece changes its direction of change or its sign; between
them the position is monotone. -/
def turns (g : Seg) (lo hi : Nat) : List Nat :=
  let top : List Nat :=
    if g.j = 0 then []
    else
      let t := g.t + floorDiv (-(g.a) * secU) (g.j * 65536)
      if (lo : Int) < t ∧ t < hi then [t.toNat] else []
  let pts := lo :: top ++ [hi]
  let root := fun (a b : Nat) =>
    let neg := fun t => decide ((g.at_ t).2.1 < 0)
    if neg a == neg b then [] else [firstAt (fun t => neg t != neg a) a b]
  let roots := match pts with
    | [a, b] => root a b
    | [a, m, b] => root a m ++ [m] ++ root m b
    | _ => []
  roots.filter fun t => lo < t && t < hi

/-- The monotone pieces of [lo, hi). -/
def monotone (g : Seg) (lo hi : Nat) : List (Nat × Nat) :=
  let pts := lo :: turns g lo hi
  pts.zip (pts.drop 1 ++ [hi])

/-- The smallest integer not below a quotient. -/
def ceilI (a b : Int) : Int := -floorDiv (-a) b

/-- Crossings of `e + k·len` within a monotone piece [lo, hi), upward; and of `e − hyst + k·len` downward (R281), with
the direction. -/
def crossings (g : Seg) (e hyst len : Int) (lo hi : Nat) : List (Nat × Bool) :=
  let p0 := (g.at_ lo).1
  let p1 := (g.at_ hi).1
  if len ≤ 0 then []
  else if p0 ≤ p1 then
    let k0 := ceilI (p0 - e) len
    let n := (ceilI (p1 - e) len - k0).toNat
    (List.range n).map fun (i : Nat) => (firstAt (fun t => decide (e + (k0 + i) * len ≤ (g.at_ t).1)) lo hi, true)
  else
    let d := e - hyst
    let k0 := floorDiv (p0 - d) len
    let n := (k0 - floorDiv (p1 - d) len).toNat
    (List.range n).map fun (i : Nat) => (firstAt (fun t => decide ((g.at_ t).1 < d + (k0 - i) * len)) lo hi, false)

/-- The crossings of a position within [lo, hi), in order. -/
def crossAll (g : Seg) (e hyst len : Int) (lo hi : Nat) : List (Nat × Bool) :=
  (monotone g lo hi).flatMap fun x => crossings g e hyst len x.1 x.2

/-- Insertion by time. -/
def insTimed {α : Type} (x : Nat × α) : List (Nat × α) → List (Nat × α)
  | [] => [x]
  | y :: t => if x.1 ≤ y.1 then x :: y :: t else y :: insTimed x t

/-- A list in the order of its times. -/
def byTime {α : Type} (l : List (Nat × α)) : List (Nat × α) := l.foldr insTimed []

/-- Units of 2^-16 rev as an internal position. -/
def revs16 (x : Int) : Int := x * 2 ^ 32

/-! ### Cam tables -/

/-- Where a table's points lie in the private area (R273, R344): 65,536 points of four bytes each. -/
def camAddr (t : Nat) : Nat := t * 262144

/-- Point `i` of a table, signed, in units of 2^-16 rev. -/
def State.camPoint (s : State) (t i : Nat) : Int :=
  signed 32 (ofBytesLE (s.ipmBytes s.ipm.device (camAddr t + 4 * i) 4))

/-- What COMMIT copied of a table. -/
def State.camOf (s : State) (t : Nat) : CamSt := tabGet (fun _ => CamSt.reset) s.lsh.cams t
def State.setCam (s : State) (t : Nat) (x : CamSt) : State :=
  { s with lsh := { s.lsh with cams := tabSet (fun _ => CamSt.reset) s.lsh.cams t x } }

/-- The number of points of a committed table. -/
def State.camN (s : State) (t : Nat) : Nat := atLeast1 (s.camOf t).n

/-- LIFT of a committed table, signed, in units of 2^-16 rev. -/
def State.camLift (s : State) (t : Nat) : Int := (s.camOf t).lift

/-- N·z_i of R273, with the index taken around the cycle. -/
def State.camZ (s : State) (t : Nat) (i : Int) : Int :=
  let n := s.camN t
  let j := (i % (n : Int)).toNat
  n * s.camPoint t j - s.camLift t * j

/-- The root √3 − 2 of r² + 4r + 1, in units of 2^-128. -/
def splineRoot : Int := (isqrt 130 0 (3 * 2 ^ 256) : Int) - 2 * 2 ^ 128

/-- The powers of the root times a start, in units of 2^-128. [DEDUCED, unsafe, log 86] -/
def splinePowers : Nat → Int → List Int
  | 0, _ => []
  | n + 1, g => g :: splinePowers n (floorDiv (g * splineRoot) (2 ^ 128))

/-- The weights 1/(2√3)·r^k, k from 0 to 40, of the periodic solution of S_{i−1} + 4S_i + S_{i+1} = d_i: the terms beyond
lie below 2^-75 of the first. [DEDUCED, unsafe, log 86] -/
def splineKernel : List Int := splinePowers 41 (floorDiv (2 ^ 256) (2 * (splineRoot + 2 * 2 ^ 128)))

/-- The second derivative of the spline at point `i`, times the squared spacing and N, in units of 2^-48 rev (R273).
[DEDUCED, unsafe, log 86] -/
def State.camS (s : State) (t : Nat) (i : Int) : Int :=
  let d := fun (j : Int) => 6 * (s.camZ t (j + 1) - 2 * s.camZ t j + s.camZ t (j - 1))
  let term := fun (x : Nat × Int) => if x.1 == 0 then x.2 * d i else x.2 * (d (i + x.1) + d (i - x.1))
  floorDiv (sumI (((List.range 41).zip splineKernel).map term)) (2 ^ 96)

/-- cam(u), cam'(u) and cam''(u) of a table, u and the results in units of 2^-48 (R273): the cubic spline of z, plus
LIFT × u. -/
def State.cam (s : State) (t : Nat) (u : Int) : Int × Int × Int :=
  let n : Int := s.camN t
  let q : Int := 2 ^ 48
  let i := floorDiv (u * n) q
  let w := u * n - i * q
  let v := q - w
  let z0 := s.camZ t i
  let z1 := s.camZ t (i + 1)
  let s0 := s.camS t i
  let s1 := s.camS t (i + 1)
  let z := floorDiv ((v * z0 + w * z1) * 2 ^ 32 * 6 * q ^ 2 + (v ^ 3 - v * q ^ 2) * s0 + (w ^ 3 - w * q ^ 2) * s1)
    (6 * q ^ 3 * n)
  let z' := floorDiv ((z1 - z0) * 2 ^ 32 * 6 * q ^ 2 + (q ^ 2 - 3 * v ^ 2) * s0 + (3 * w ^ 2 - q ^ 2) * s1) (6 * q ^ 2)
  let z'' := floorDiv (n * (v * s0 + w * s1)) q
  let l := s.camLift t
  (z + floorDiv (revs16 l * u) q, z' + revs16 l, z'')

/-- How many engaged followers use a table (LSH_CAMt_STATUS.IN_USE). -/
def State.camUse (s : State) (t : Nat) : Nat :=
  ((List.range 168).filter fun k => s.g (F.LSH_FOL_STATUS_STATE k) != 0 && s.is (F.LSH_FOL_CFG_CAM_EN k) &&
    s.g (F.LSH_FOL_CFG_TABLE k) == t).length

/-! ### The chain of a follower -/

/-- The geared position x with its derivatives from the master's (R267). -/
def geared (xo mo num : Int) (den : Nat) (m : Int × Int × Int) : Int × Int × Int :=
  (xo + floorDiv ((m.1 - mo) * num) den, floorDiv (m.2.1 * num) den, floorDiv (m.2.2 * num) den)

/-- y with its derivatives from x: through the cam where it is in the chain (*Followers*). The cam cycle and the output
that the table in force counts from carry the LIFT of the tables before it (R275). -/
def State.camPath (s : State) (k : Nat) (f : FolSt) (x : Int × Int × Int) : Int × Int × Int :=
  if !s.is (F.LSH_FOL_CFG_CAM_EN k) then x
  else
    let t := s.g (F.LSH_FOL_CFG_TABLE k)
    let n := floorDiv x.1 (2 ^ 48)
    let c := s.cam t (x.1 - n * 2 ^ 48)
    (f.yBase + (n - f.nBase) * revs16 (s.camLift t) + c.1,
     floorDiv (x.2.1 * c.2.1) (2 ^ 48),
     floorDiv (x.2.2 * c.2.1) (2 ^ 48) + floorDiv (x.2.1 * x.2.1 * c.2.2) (2 ^ 88))

/-- The registration correction in force at an instant with its rate: it moves linearly within each cycle (R279). -/
def State.regCorr (s : State) (f : FolSt) (t : Nat) : Int × Int :=
  let n : Int := s.cyc
  let d := clampI 0 n ((t : Int) - f.corrT)
  (floorDiv (revs16 (f.corr * n + f.step * d)) n,
   if d < n then floorDiv (f.step * 2 ^ 16 * secU) n else 0)

/-- A blended path (R269): the distance of the blend and that run so far, with its speed and acceleration, all in units
of 2^-48 rev; then the old and the new path. -/
def blendPath (dist d vd ad : Int) (old new : Int × Int × Int) : Int × Int × Int :=
  let c := clampI 0 dist d
  let b := 3 * c ^ 2 * dist - 2 * c ^ 3
  let b1 := 6 * c * (dist - c)
  let b2 := 6 * dist - 12 * c
  let q := dist ^ 3
  let inside := decide (0 ≤ d) && decide (d < dist)
  let gp := new.1 - old.1
  let gv := new.2.1 - old.2.1
  let ga := new.2.2 - old.2.2
  let p := old.1 + floorDiv (b * gp) q
  let v := old.2.1 + floorDiv (b * gv) q + (if inside then floorDiv (b1 * vd * gp) (q * 2 ^ 16) else 0)
  let a := old.2.2 + floorDiv (b * ga) q +
    (if inside then floorDiv (b2 * vd * vd * gp) (q * 2 ^ 24) + floorDiv (2 * b1 * vd * gv) (q * 2 ^ 8) +
      floorDiv (b1 * ad * gp) (q * 2 ^ 24) else 0)
  (p, v, a)

/-- The follower's registers that hold anchors (R268, R270). -/
def State.anchors (s : State) (k : Nat) : Int × Int × Int :=
  (toInternal (s.rd64 (R.LSH_FOL_X_ORG_LO k) (R.LSH_FOL_X_ORG_HI k)),
   toInternal (s.rd64 (R.LSH_FOL_M_ORG_LO k) (R.LSH_FOL_M_ORG_HI k)),
   toInternal (s.rd64 (R.LSH_FOL_F_ORG_LO k) (R.LSH_FOL_F_ORG_HI k)))

/-- SYNC_DIST in units of 2^-48 rev; 0 is read as 1. -/
def State.syncDist (s : State) (k : Nat) : Int := revs16 (atLeast1 (s.rd (R.LSH_FOL_SYNC_DIST k)).toNat)

/-- The phase in force moves toward PHASE (R271): by at most PH_RATE times the time elapsed since the last evaluation. -/
def State.movePhase (s : State) (k t : Nat) : State × Int :=
  let f := s.folOf k
  let rate := absN (s.rd (R.LSH_FOL_PH_RATE k)).int
  let e := s.elapsedAt t
  let dt : Nat := match f.lastT with
    | some t0 => e - t0
    | none => 0
  let want := revs16 (s.rd (R.LSH_FOL_PHASE k)).int
  let most : Int := (rate * 2 ^ 32 * dt / secU : Nat)
  let ph := f.ph + clampI (-most) most (want - f.ph)
  let moving := decide (ph ≠ want) && rate != 0
  let v : Int := if moving then sgn (want - ph) * (rate * 65536) else 0
  let s := s.setFol k { f with ph := ph, lastT := some e }
  ((s.wr (R.LSH_FOL_PH k) (Word.ofI (floorDiv ph (2 ^ 32)))).pb (F.LSH_FOL_STATUS_PH_MOVING k) moving, v)

/-- A change of floor(x) brings the table that OP 4 selected into force (R275). -/
def State.camBoundary (s : State) (k : Nat) (x : Int) : State :=
  let f := s.folOf k
  let n := floorDiv x (2 ^ 48)
  if n = f.floor then s
  else match f.next with
    | none => s.setFol k { f with floor := n }
    | some next =>
      let edge := if f.floor < n then f.floor + 1 else f.floor
      let y := f.yBase + (edge - f.nBase) * revs16 (s.camLift (s.g (F.LSH_FOL_CFG_TABLE k)))
      let s := s.setFol k { f with floor := n, next := none, nBase := edge, yBase := y }
      (s.p (F.LSH_FOL_CFG_TABLE k) next).on (F.LSH_FOL_STATUS_CAM_SWITCHED k)

/-- The reference of an engaged follower at an instant (*Followers*, R267 to R271), with the state after it. -/
def State.followShaft (s : State) (k t : Nat) : State × Option (Int × Int × Int) :=
  let h := s.g (F.LSH_FOL_CFG_SHAFT k)
  match s.master h t with
  | none => (s, none)
  | some m =>
    let s := s.touchShaft h t
    let (s, vph) := s.movePhase k t
    let o := s.anchors k
    let x := geared o.1 o.2.1 (s.folOf k).num (s.folOf k).den m
    let s := s.camBoundary k x.1
    let f := s.folOf k
    let rc := s.regCorr f t
    let full := fun (y : Int × Int × Int) => (o.2.2 + y.1 + f.ph + rc.1, y.2.1 + vph + rc.2, y.2.2)
    let new := full (s.camPath k f x)
    let s := s.wr (R.LSH_FOL_REG_CORR k) (Word.ofI (floorDiv rc.1 (2 ^ 32)))
    match f.blend with
    | none => (s, some new)
    | some b =>
      let dist := s.syncDist k
      let d := (m.1 - b.m0) * b.dir
      let old := match b.old with
        | .held p => (p, 0, 0)
        | .ratio xo mo num den => full (s.camPath k f (geared xo mo num den m))
      if dist ≤ d then ((s.setFol k { f with blend := none }).p (F.LSH_FOL_STATUS_STATE k) 2, some new)
      else (s, some (blendPath dist d (m.2.1 * b.dir * 65536) (m.2.2 * b.dir * 2 ^ 24) old new))

end Sys2Proof.Machine
end

