-- ==== Sys2Proof/Machine/LineShaft.lean ====
section
/-! DEFINITION. The line-shaft unit, second part: reception, selection, loss and publication of segments (R258 to R266),
follower commands (R268, R270, R272, R275), cam commands (R273, R274), registration (R276 to R279), cam switches (R280 to
R282), faults (R283) and membership (R564 to R567). -/

namespace Sys2Proof.Machine

/-! ### Launches of the unit -/

/-- The entry for an action at a full time, in units of 2^-16 ns. -/
def stagedAt (t code target : Nat) (arg : Word) (tag : Nat) : Staged :=
  ⟨t % 65536, t / secUnits % 65536, t / 65536 % oneSecNs, code, false, target, arg, tag⟩

/-- The line-shaft unit pushes an entry into a queue that it holds; a push that R68 refuses is refused.
[DEDUCED, unsafe, log 164] -/
def State.shaftPush (s : State) (q : Nat) (e : Staged) : State :=
  if s.holder (.queue q) ≠ .lineShaft then s else s.push q e

/-- The unit's own queue (R262): the one that the policy gives it, the lowest-numbered of several.
[DEDUCED, unsafe, log 82] -/
def State.shaftQueue (s : State) : Option Nat :=
  (List.range 16).find? fun q => decide (s.holder (.queue q) = .lineShaft)

/-! ### Cam switches -/

def State.cswOf (s : State) (c : Nat) : CswSt := tabGet (fun _ => CswSt.reset) s.lsh.csws c
def State.setCsw (s : State) (c : Nat) (x : CswSt) : State :=
  { s with lsh := { s.lsh with csws := tabSet (fun _ => CswSt.reset) s.lsh.csws c x } }

/-- The tag of a switch's launches (R280). -/
def cswTag (c : Nat) (on : Bool) : Nat := 0x8000 + 32 * bit on + c

/-- The launch of an edge of a switch at a time; CAPTURE_TRIGGER acts at the on edge only (R280). -/
def State.cswLaunch (s : State) (c t : Nat) (on : Bool) : State :=
  let a := s.g (F.LSH_CSW_CFG_ACTION c)
  let tgt := s.g (F.LSH_CSW_CFG_TARGET c)
  let e := stagedAt t (if a == 0 then actFieldWrite else if a == 1 then actSwEvent else actCaptureTrigger) tgt
    (BitVec.ofNat 32 (bit on)) (cswTag c on)
  if a == 3 || (a == 2 && !on) then s else s.shaftPush (s.g (F.LSH_CSW_CFG_LQ c)) e

/-- The crossings of a switch's edges within a cycle: launch times, on or off (R280, R281). Downward, the position leaves
[ON, OFF) over its ON edge and enters it over its OFF edge. [DEDUCED, unsafe, log 83] -/
def State.cswEdges (s : State) (c : Nat) (g : Seg) (lo hi : Nat) : List (Nat × Bool) :=
  let len := revs16 (atLeast1 (s.rd (R.LSH_CSW_LEN c)).toNat)
  let hy := revs16 (s.rd (R.LSH_CSW_HYST c)).toNat
  let lead := s.g (F.LSH_CSW_LEAD_LEAD c) * 65536
  let on := (crossAll g (revs16 (s.rd (R.LSH_CSW_ON c)).toNat) hy len lo hi).map fun x => (x.1 - lead, x.2)
  let off := (crossAll g (revs16 (s.rd (R.LSH_CSW_OFF c)).toNat) hy len lo hi).map fun x => (x.1 - lead, !x.2)
  byTime (on ++ off)

/-- The segment that holds in a later cycle by what is held now (R261, R280): the copy that R259 would select there, else
the segment in force. -/
def State.forecast (s : State) (h t0 : Nat) : Option Copy :=
  let x := s.shaftOf h
  match x.pick (s.g (F.LSH_SH_STATUS_USED_MASTER h)) t0 with
  | some c => some c
  | none => x.cur

/-- The undelivered launches of a switch are cancelled by tag (R79, R282). [DEDUCED, unsafe, log 83] -/
def State.cswCancel (s : State) (c : Nat) : State :=
  let q := s.g (F.LSH_CSW_CFG_LQ c)
  if s.holder (.queue q) = .lineShaft then
    let s := s.cancel q (cswTag c false) 0xFFDF
    s.when (s.g (F.LQ_CANCEL_CNT_COUNT q) != 0) fun s => s.on (F.LSH_CSW_STATUS_CANCELLED c)
  else s

/-- Does the velocity along a segment change its sign between a cycle's start and an instant? -/
def signChange (g : Seg) (lo t : Nat) : Bool :=
  decide (sgn (g.at_ lo).2.1 * sgn (g.at_ t).2.1 < 0)

/-- Has a launch of a switch left its queue for its target? -/
def State.cswGone (s : State) (c : Nat) (e : Nat × Bool) : Bool :=
  decide (e.1 ≤ s.now + launchLead) && !((s.lqOf (s.g (F.LSH_CSW_CFG_LQ c))).entries.any fun x =>
    x.time == e.1 && x.tag == cswTag c e.2)

/-- A switch's predicted cycles are held against the segments that hold there now (R282): when one has changed, its
undelivered launches are cancelled and those of every cycle still to come are pushed anew, a time that has passed as well,
which Phlox finds late (R75). An edge that has acted does not act again. -/
def State.cswRecheck (s : State) (c : Nat) : State :=
  let h := s.g (F.LSH_CSW_CFG_SHAFT c)
  let lead := s.g (F.LSH_CSW_LEAD_LEAD c) * 65536
  let l := (s.cswOf c).pred.filter fun x => decide (s.now < x.1 + s.cyc)
  let now := l.map fun x => match s.forecast h x.1 with
    | some k =>
      if k.same x.2.1 then x
      else
        let gone := x.2.2.filter (s.cswGone c)
        (x.1, k, gone ++ (s.cswEdges c k.seg x.1 (x.1 + s.cyc)).drop gone.length)
    | none => x
  if now = l then s.setCsw c ⟨l⟩
  else
    let rev := (l.zip now).any fun x =>
      decide (x.1 ≠ x.2) && x.1.2.2.any fun e => signChange x.2.2.1.seg x.2.1 (e.1 + lead)
    let due := (l.zip now).flatMap fun x => x.2.2.2.drop (x.1.2.2.filter (s.cswGone c)).length
    let s := (s.cswCancel c).when rev fun s => s.on (F.LSH_CSW_STATUS_REVERSED c)
    (s.each due fun e s => s.cswLaunch c e.1 e.2).setCsw c ⟨now⟩

/-- The switches of a shaft are looked at again. -/
def State.repredict (s : State) (h : Nat) : State :=
  s.each ((List.range 32).filter fun c => s.is (F.LSH_CSW_CFG_EN c) && s.g (F.LSH_CSW_CFG_SHAFT c) == h) fun c s =>
    s.cswRecheck c

/-- The switches whose cycle [C + T, C + 2T) is predicted at the cycle start C (R280), with their launches in the order of
time, so that they fit into one queue. -/
def State.predict (s : State) (cyc : Nat) : State :=
  let t := s.cyc
  let l := (List.range 32).filterMap fun c =>
    if !s.is (F.LSH_CSW_CFG_EN c) then none
    else (s.forecast (s.g (F.LSH_CSW_CFG_SHAFT c)) (cyc + t)).map fun k =>
      (c, k, s.cswEdges c k.seg (cyc + t) (cyc + 2 * t))
  let s := s.each l fun x s => s.setCsw x.1 ⟨(s.cswOf x.1).pred ++ [(cyc + t, x.2.1, x.2.2)]⟩
  s.each (byTime (l.flatMap fun x => x.2.2.map fun e => (e.1, x.1, e.2))) fun e s => s.cswLaunch e.2.1 e.1 e.2.2

/-- The state of a switch at a cycle start: on over [ON, OFF) of the position; between e − HYST and e of an edge, where it
depends on the direction, the edge that acted last decides (R281). -/
def State.cswState (s : State) (c : Nat) (m : Int × Int × Int) : State :=
  let len : Int := atLeast1 (s.rd (R.LSH_CSW_LEN c)).toNat
  let on : Int := (s.rd (R.LSH_CSW_ON c)).toNat
  let off : Int := (s.rd (R.LSH_CSW_OFF c)).toNat
  let inside := fun (hy : Int) =>
    let x := (floorDiv m.1 (2 ^ 32) + hy) % len
    if on ≤ off then decide (on ≤ x) && decide (x < off) else decide (on ≤ x) || decide (x < off)
  let up := inside 0
  if up == inside (s.rd (R.LSH_CSW_HYST c)).toNat then s.pb (F.LSH_CSW_STATUS_STATE c) up else s

/-! ### Registration -/

def State.regOf (s : State) (r : Nat) : RegSt := tabGet (fun _ => RegSt.reset) s.lsh.regs r
def State.setReg (s : State) (r : Nat) (x : RegSt) : State :=
  { s with lsh := { s.lsh with regs := tabSet (fun _ => RegSt.reset) s.lsh.regs r x } }

/-- A result of a registration channel: RESULT, NEW and the event (R277, R279). [DEDUCED, unsafe, log 84] -/
def State.regResult (s : State) (r res : Nat) : State :=
  ((s.p (F.LSH_REG_STATUS_RESULT r) res).on (F.LSH_REG_STATUS_NEW r)).raiseSt (1248 + r) (R.LSH_REG_STATUS r)

/-- A window opens or closes at an instant. -/
def RegSt.note (x : RegSt) (t : Nat) (opens : Bool) : RegSt :=
  { x with
    marked := false, wasMarked := if opens then x.wasMarked else x.marked, slow := none
    trans := ((t, opens) :: x.trans).take 4 }

/-- Was the window open at an instant, when it is `now` at present? -/
def RegSt.openAt (x : RegSt) (now : Bool) (t : Nat) : Bool :=
  match x.trans.find? (fun e => decide (e.1 ≤ t)), x.trans.getLast? with
  | some e, _ => e.2
  | none, some e => !e.2
  | none, none => now

/-- A window closes at an instant with a result. [DEDUCED, unsafe, log 84] -/
def State.regClose (s : State) (r t res : Nat) : State :=
  if !s.is (F.LSH_REG_STATUS_OPEN r) then s
  else ((s.setReg r ((s.regOf r).note t false)).off (F.LSH_REG_STATUS_OPEN r)).regResult r res

/-- What the master's motion means for a window: it opens, closes at WIN_CLOSE, or the master reverses. -/
inductive RegMove where
  | open_ | close | back
  deriving DecidableEq, Repr

/-- One of these happens at an instant (R277, R278). -/
def State.regMove (s : State) (r t : Nat) : RegMove → State
  | .open_ =>
    if s.is (F.LSH_REG_STATUS_OPEN r) then s
    else (s.setReg r ((s.regOf r).note t true)).on (F.LSH_REG_STATUS_OPEN r)
  | .close =>
    if (s.regOf r).marked then (s.setReg r ((s.regOf r).note t false)).off (F.LSH_REG_STATUS_OPEN r)
    else s.regClose r t 2
  | .back => s.regClose r t 3

/-- The moves of a window within [lo, hi), in order. -/
def State.regMoves (s : State) (r : Nat) (g : Seg) (lo hi : Nat) : List (Nat × RegMove) :=
  let len := revs16 (atLeast1 (s.rd (R.LSH_REG_LEN r)).toNat)
  let up := fun a (k : RegMove) (x : Nat × Nat) =>
    ((crossings g (revs16 (s.rd a).toNat) 0 len x.1 x.2).filter (·.2)).map fun c => (c.1, k)
  (monotone g lo hi).flatMap fun x =>
    if (g.at_ x.2).1 < (g.at_ x.1).1 then [(x.1, .back)]
    else byTime (up (R.LSH_REG_WIN_CLOSE r) .close x ++ up (R.LSH_REG_WIN_OPEN r) .open_ x)

/-- A registration channel follows the master up to an instant (R277, R278). -/
def State.regAdvance (s : State) (r t : Nat) : State :=
  let before := match (s.regOf r).upTo with
    | some t0 => decide (t ≤ t0)
    | none => false
  match (s.shaftOf (s.g (F.LSH_REG_CFG_SHAFT r))).inForce t with
  | none => s.setReg r { s.regOf r with upTo := none }
  | some c =>
    if before then s else
    let s := match (s.regOf r).upTo with
      | some t0 => s.each (s.regMoves r c.seg t0 t) fun m s => s.regMove r m.1 m.2
      | none => s
    let v := fromInternal (c.seg.at_ t).2.1
    let slow := s.is (F.LSH_REG_STATUS_OPEN r) && decide (0 ≤ v) && decide (v < (s.rd (R.LSH_REG_VMIN r)).int)
    let x := s.regOf r
    let s := s.when (s.is (F.LSH_REG_STATUS_OPEN r) && decide (v < 0)) fun s => s.regClose r t 3
    s.setReg r { s.regOf r with
      upTo := some t, slow := if slow then (match x.slow with
        | some a => some a
        | none => some (s.elapsedAt t)) else none }

/-- The mark of a window (R279), the present one or the one before: error, correction and result.
[DEDUCED, unsafe, log 84] -/
def State.regMark (s : State) (r : Nat) (present : Bool) (p : Int) : State :=
  let len : Int := atLeast1 (s.rd (R.LSH_REG_LEN r)).toNat
  let m := floorDiv p (2 ^ 32) % len
  let k := s.g (F.LSH_REG_CFG_FOL r)
  let f := s.folOf k
  let e := (((s.rd (R.LSH_REG_EXP r)).toNat : Int) - m + floorDiv len 2) % len - floorDiv len 2
  let ef := truncDiv (e * f.num) f.den
  let c := floorDiv (ef * s.g (F.LSH_REG_GAIN_GAIN r)) 65536
  let x := s.regOf r
  let x := if present then { x with marked := true } else { x with wasMarked := true }
  let s := (s.setReg r x).wr (R.LSH_REG_ERR r) (Word.ofI ef)
  if (s.rd (R.LSH_REG_MAX r)).toNat < absN ef then s.regResult r 4
  else (s.when (s.is (F.LSH_REG_CFG_AUTO r)) fun s => s.wr (R.LSH_REG_PEND r) (Word.ofI c)).regResult r 1

/-- A counted edge of a probe with SHAFT = 1 (R276, R277). An edge at WIN_OPEN falls inside the window, one at WIN_CLOSE
outside; an edge that reaches the unit late is judged by the window of its own time. -/
def State.regEdge (s : State) (probe t : Nat) : State :=
  s.each ((List.range 16).filter fun r => s.is (F.LSH_REG_CFG_EN r) && s.g (F.LSH_REG_CFG_PROBE r) == probe) fun r s =>
    match s.master (s.g (F.LSH_REG_CFG_SHAFT r)) t with
    | none => s
    | some m =>
      let s := s.regAdvance r (t + 1)
      let s := s.wr64 (R.LSH_REG_MLAT_LO r) (R.LSH_REG_MLAT_HI r) (fromInternal m.1)
      let x := s.regOf r
      let now := s.is (F.LSH_REG_STATUS_OPEN r)
      let present := now && match x.trans.head? with
        | some e => decide (e.1 ≤ t)
        | none => true
      if !x.openAt now t || decide (m.2.1 < 0) then s
      else if (if present then x.marked else x.wasMarked) then s.count (F.LSH_REG_STATUS_EXTRA r) 1
      else s.regMark r present m.1

/-- The corrections at a cycle start (R279): those of the last cycle are complete, and each channel moves its follower by
at most STEP over the next. [DEDUCED, unsafe, log 84] -/
def State.regSteps (s : State) (cyc : Nat) : State :=
  let s := s.each (s.lsh.fols.map (·.1)) fun k s =>
    let f := s.folOf k
    let s := s.setFol k { f with corr := f.corr + f.step, step := 0, corrT := cyc }
    s.wr (R.LSH_FOL_REG_CORR k) (Word.ofI (f.corr + f.step))
  s.each ((List.range 16).filter fun r => s.rd (R.LSH_REG_PEND r) != 0) fun r s =>
    let k := s.g (F.LSH_REG_CFG_FOL r)
    let most : Int := (s.rd (R.LSH_REG_STEP r)).toNat
    let x := (s.rd (R.LSH_REG_PEND r)).int
    let d := clampI (-most) most x
    let f := s.folOf k
    (s.setFol k { f with step := f.step + d, corrT := cyc }).wr (R.LSH_REG_PEND r) (Word.ofI (x - d))

/-! ### Shaft lost -/

/-- Is the follower engaged on the shaft? -/
def State.engagedOn (s : State) (h k : Nat) : Bool :=
  s.g (F.LSH_FOL_STATUS_STATE k) != 0 && s.g (F.LSH_FOL_CFG_SHAFT k) == h

/-- A shaft is lost (R266): its followers run their configured stops, its predicted launches are cancelled and its
switches set off, its open windows close with RESULT 5. [DEDUCED, unsafe, log 83] -/
def State.shaftLost (s : State) (h : Nat) : State :=
  let s := (s.p (F.LSH_SH_STATUS_STATE h) 3).p F.LSH_STATUS_LOST (setBit (s.g F.LSH_STATUS_LOST) h true)
  let s := s.p F.LSH_STATUS_LOST_SEEN (setBit (s.g F.LSH_STATUS_LOST_SEEN) h true)
  let s := s.each ((List.range 168).filter (s.engagedOn h)) fun k s => s.configuredStop k
  let l := (List.range 32).filter fun c => s.g (F.LSH_CSW_CFG_SHAFT c) == h
  let s := s.each l fun c s => (s.cswCancel c).setCsw c ⟨[]⟩
  let s := s.each l fun c s =>
    if s.is (F.LSH_CSW_CFG_EN c) then (s.cswLaunch c s.now false).off (F.LSH_CSW_STATUS_STATE c) else s
  let s := s.each ((List.range 16).filter fun r => s.g (F.LSH_REG_CFG_SHAFT r) == h) fun r s => s.regClose r s.now 5
  (s.setShaft h { s.shaftOf h with cur := none, past := [], same := [] }).raiseSt (evShaft h) (R.LSH_SH_STATUS h)

/-- The counter has stepped while a follower was engaged (R256): every enabled shaft is lost. -/
def State.shaftsStepped (s : State) : State :=
  if (List.range 168).any fun k => s.g (F.LSH_FOL_STATUS_STATE k) != 0
  then (s.each ((List.range 8).filter fun h => s.is (F.LSH_SH_CFG_EN h)) fun h s => s.shaftLost h).on
    F.LSH_STATUS_STEP_LOST
  else s

/-! ### Segments -/

/-- A received SEGMENT as a copy; T0's seconds are extended at receipt (R67, R257). -/
def State.copyOf (s : State) (member : Nat) (m : SegMsg) : Copy :=
  ⟨(extendSec (s.nowNs / oneSecNs) m.sec.toNat * oneSecNs + m.ns.toNat) * 65536 + m.frac.toNat, m.seq.toNat, member,
   m.priority.toNat, m.valid.toNat, m.p0.toInt, m.v0.toInt, m.a0.toInt, m.j0.toInt⟩

/-- Marigold's trim takes a new measurement after 256 frames of its source (R508); the spec gives no count to compute it
from, so its value is open. [DESIGN CHOICE, safe, log 88] -/
def State.trimFrame (s : State) : State :=
  if s.clk.trimCount + 1 < 256 then { s with clk := { s.clk with trimCount := s.clk.trimCount + 1 } }
  else ({ s with clk := { s.clk with trimCount := 0 } }.p F.CLK_TRIM_MG_TRIM s.freshWord.toNat).took

/-- A held copy of another master for the same T0 differs (R260). -/
def State.checkDiverge (s : State) (h : Nat) (c : Copy) : State :=
  let x := s.shaftOf h
  if x.diverged.contains c.t0 || !(x.held.any fun d => d.t0 == c.t0 && d.member != c.member && !d.same c) then s
  else (((s.setShaft h { x with diverged := c.t0 :: x.diverged }).on (F.LSH_SH_STATUS_DIVERGE h)).count
    (F.LSH_SH_COUNT_DIVERGED h) 1).raiseSt (evShaft h + 2) (R.LSH_SH_STATUS h)

/-- Why a segment is dropped (R258). -/
def State.segBad (s : State) (domain : Nat) (c : Copy) : Bool :=
  domain != s.g F.LSH_DOMAIN_DOMAIN || c.t0 % s.cyc != 0 || c.valid < s.tCyc || s.now + 8 * s.cyc < c.t0

/-- A segment arrives, from the network or looped back (R258, R264). -/
def State.receiveSegment (s : State) (domain member : Nat) (m : SegMsg) : State :=
  let h := m.shaft.toNat
  let s := s.when (s.is F.CLK_STATUS_DEGRADED && s.g F.CLK_MG_TRIM_TRIM_SRC == 1 && s.g F.CLK_MG_TRIM_SHAFT == h)
    fun s => s.trimFrame
  if !s.is F.LSH_CFG_EN || 8 ≤ h || !s.is (F.LSH_SH_CFG_EN h) then s
  else
    let c := s.copyOf member m
    if s.segBad domain c then
      (s.count (F.LSH_SH_COUNT_DROPPED h) 1).raiseSt (evShaft h + 1) (R.LSH_SH_STATUS h)
    else
      let late := decide (c.t0 < s.now)
      let s := s.when late fun s => s.on (F.LSH_SH_STATUS_LATE_SEG h)
      if late && c.until ≤ s.now then s
      else
        let x := s.shaftOf h
        let s := s.setShaft h { x with held := x.held.filter (fun d => d.t0 != c.t0 || d.member != c.member) ++ [c] }
        let s := s.checkDiverge h c
        let newer := match x.cur with
          | some d => decide (d.t0 < c.t0)
          | none => true
        let s := match s.lsh.cycle with
          | some last => if c.t0 ≤ last && newer then s.takeSegment h c ((last - c.t0) / s.cyc) else s
          | none => s
        s.repredict h

/-- SEGMENT_RECEIVED (R258). -/
def execSegmentReceived (domain : BitVec 16) (member : BitVec 8) (m : SegMsg) (s : State) : Res :=
  .next (s.receiveSegment domain.toNat member.toNat m)

/-- A cycle start of one shaft (R259, R261, R266). [DEDUCED, unsafe, log 81] -/
def State.shaftCycle (s : State) (cyc h : Nat) : State :=
  let s := match (s.shaftOf h).pick (s.g (F.LSH_SH_STATUS_USED_MASTER h)) cyc with
    | some c => s.takeSegment h c 0
    | none =>
      let st := s.g (F.LSH_SH_STATUS_STATE h)
      if st == 0 || st == 3 then s
      else if clampN 1 8 (s.g F.LSH_CFG_HOLD_CYC) ≤ s.g (F.LSH_SH_STATUS_MISSING h) then s.shaftLost h
      else (s.p (F.LSH_SH_STATUS_MISSING h) (s.g (F.LSH_SH_STATUS_MISSING h) + 1)).touchShaft h cyc
  let x := s.shaftOf h
  let s := s.setShaft h { x with
    held := x.held.filter (fun c => decide (cyc < c.until)), diverged := x.diverged.filter fun t => decide (cyc < t + 8 * s.cyc),
    pub := x.pub.filter fun p => decide (cyc < p.1 + 4 * s.cyc) }
  match s.master h cyc with
  | some m => (s.wr64 (R.LSH_SH_POS_LO h) (R.LSH_SH_POS_HI h) (fromInternal m.1)).wr (R.LSH_SH_VEL h)
      (Word.ofI (satI 32 (fromInternal m.2.1)))
  | none => s

/-! ### Publication -/

/-- The coefficients of a segment over a cycle of `n` units from its start to its end (R263), when the plan changes its
jerk within it: A0 and J0 such that position and velocity agree at both ends. -/
def fitAJ (n : Nat) (a b : Int × Int × Int) : Int × Int :=
  let u : Int := secU
  -- the position and velocity still to be gained, in units of 2^-48 rev and 2^-32 rev/s
  let dp := b.1 - a.1 - floorDiv (a.2.1 * 65536 * n) u
  let dv := b.2.1 - a.2.1
  let t : Int := n
  (floorDiv ((6 * dp * u - 2 * t * dv * 65536) * u) (t ^ 2 * 2 ^ 32),
   floorDiv ((6 * t * dv * 65536 - 12 * dp * u) * u ^ 2) (t ^ 3 * 2 ^ 40))

/-- The segment of a shaft for a T0 from the plan of its source channel (R263), and whether a coefficient saturated.
[DEDUCED, unsafe, log 82] -/
def State.fit (s : State) (h k t0 : Nat) : Copy × Bool :=
  let n := s.cyc
  let a := s.refAt k t0
  let b := s.refAt k (t0 + n)
  let path := match s.inGroup k with
    | some g => s.grpOf g
    | none => Grp.reset
  let share : Int × Int := match path.members.find? (fun m => m.1 == k), leaderOf path.members with
    | some m, some lead => if lead.2.2 = 0 then (0, 1) else (m.2.2, lead.2.2)
    | _, _ => (1, 1)
  let piece := match path.plan.orElse fun _ => (s.chanOf k).plan with
    | some q => match segAt t0 q.segs with
      | some g => if (t0 : Int) + n ≤ g.t + g.n then some (floorDiv a.2.2 256, floorDiv (g.j * share.1) share.2) else none
      | none => some (0, 0)
    | none => some (0, 0)
  let aj := piece.getD (fitAJ n a b)
  let c : Copy := ⟨t0, t0 / n % 2 ^ 32, s.g F.LSH_CFG_MEMBER, s.g (F.LSH_SH_CFG_PRIORITY h),
    clampN 1 8 (s.g F.LSH_CFG_VALID_CYC) * s.tCyc, satI 64 (fromInternal a.1), satI 64 a.2.1, satI 32 aj.1, satI 32 aj.2⟩
  (c, decide (c.p0 ≠ fromInternal a.1) || decide (c.v0 ≠ a.2.1) || decide (c.a0 ≠ aj.1) || decide (c.j0 ≠ aj.2))

/-- The transmit slots that send the SEGMENT of a shaft and belong to the unit (R396). [DEDUCED, unsafe, log 82] -/
def State.segSlots (s : State) (h : Nat) : List (Nat × Nat) :=
  (List.range 64).filterMap fun i =>
    let p := i / 32
    let k := i % 32
    if s.g (F.ETH_SLOT_CFG_SRC p k) == 1 && s.g (F.ETH_SLOT_CFG_SEL p k) == h &&
      decide (s.holder (.slot p k) = .lineShaft) then some (p, k) else none

/-- Is the channel the source of a shaft that the device publishes? Its evaluation instants are then the cycle starts,
taken 4 cycles ahead, and it sends no setpoint frame (R262). [DEDUCED, unsafe, log 82] -/
def State.publishes (s : State) (k : Nat) : Bool :=
  s.is F.LSH_CFG_EN && s.g (F.LSP_CH_CFG_SRC k) == 0 && (List.range 8).any fun h =>
    (s.g (F.LSH_SH_CFG_ROLE h) == 1 || s.g (F.LSH_SH_CFG_ROLE h) == 2) && s.g (F.LSH_SH_CFG_SRC_CH h) == k

/-- A publishing shaft at the cycle start C (R262): its source channel is evaluated at T0 = C + 4 T_cyc and the ETH_LAUNCH
of its segment pushed. [DEDUCED, unsafe, log 82] -/
def State.publish (s : State) (cyc h : Nat) : State :=
  let role := s.g (F.LSH_SH_CFG_ROLE h)
  let k := s.g (F.LSH_SH_CFG_SRC_CH h)
  if (role != 1 && role != 2) || 168 ≤ k || s.g (F.LSP_CH_CFG_SRC k) != 0 then s
  else
    let t0 := cyc + 4 * s.cyc
    let s := s.evaluate k t0 fun s => (s, none)
    let c := s.fit h k t0
    let s := s.when c.2 fun s => s.on (F.LSH_SH_STATUS_FIT_LIMIT h)
    let t := cyc + s.g (F.LSH_SH_PUB_PUB_OFS h) * 65536
    let x := s.shaftOf h
    let s := s.setShaft h { x with pub := x.pub ++ [(t, c.1)] }
    match s.shaftQueue with
    | some q => s.each (s.segSlots h) fun p s => s.shaftPush q (stagedAt t actEthLaunch p.1 (BitVec.ofNat 32 p.2) 0)
    | none => s

/-! ### Lanyo frames -/

/-- The bytes of a big-endian number. -/
def bytesBE (n x : Nat) : List Byte := (bytesLE n x).reverse

/-- A Lanyo frame from its destination address to the end of its payload (R400), padded to `pad` payload bytes. -/
def State.lanyoFrame (s : State) (type : Nat) (payload : List Byte) (pad : Nat) : List Byte :=
  bytesLE 6 ((s.rd R.ETH_LANYO_MAC_LO).toNat + 2 ^ 32 * (s.rd R.ETH_LANYO_MAC_HI).toNat) ++
  bytesBE 6 Config.macAddress.toNat ++ bytesBE 2 0x8100 ++ bytesBE 2 (0xE000 + s.g F.ETH_LANYO_VID) ++
  bytesBE 2 (s.g F.ETH_LANYO_ETHERTYPE) ++ bytesBE 1 (0x10 + type) ++ bytesBE 1 (s.g F.LSH_CFG_MEMBER) ++
  bytesBE 2 (s.g F.LSH_DOMAIN_DOMAIN) ++ bytesBE 2 payload.length ++ bytesBE 2 0 ++ payload ++
  List.replicate (pad - payload.length) 0

/-- The ROLE of every shaft, two bits each. -/
def State.roleMap (s : State) : Nat := (List.range 8).foldl (fun a h => a + s.g (F.LSH_SH_CFG_ROLE h) * 4 ^ h) 0

/-- The shafts that the device publishes, one bit each. -/
def State.pubMap (s : State) : Nat :=
  (List.range 8).foldl (fun a h => a + (if s.g (F.LSH_SH_CFG_ROLE h) != 0 then 2 ^ h else 0)) 0

/-- The STATE of every shaft, two bits each. -/
def State.shaftMap (s : State) : Nat := (List.range 8).foldl (fun a h => a + s.g (F.LSH_SH_STATUS_STATE h) * 4 ^ h) 0

/-- The payload of a JOIN (*Other payloads*). -/
def State.joinPayload (s : State) : List Byte :=
  bytesBE 1 (s.g F.LSH_CFG_CYCLE) ++ bytesBE 1 s.pubMap ++ bytesBE 2 s.roleMap

/-- Bytes in a port's transmit area (R396), word by word. -/
def State.areaPut (s : State) (p : Nat) : Nat → List Byte → State
  | _, [] => s
  | o, b :: t => (s.p ⟨areaWord p (o / 4 * 4), 8 * (o % 4), 8⟩ b.toNat).areaPut p (o + 1) t

/-! ### Membership -/

def State.memberOf (s : State) (m : Nat) : Member := tabGet (fun _ => Member.reset) s.lsh.members m
def State.setMember (s : State) (m : Nat) (x : Member) : State :=
  { s with lsh := { s.lsh with members := tabSet (fun _ => Member.reset) s.lsh.members m x } }

/-- Is a member expected, or present? -/
def State.expected (s : State) (m : Nat) : Bool := testBit (s.rd (R.LSH_MEMBERS (m / 32))).toNat (m % 32)
def State.present (s : State) (m : Nat) : Bool := testBit (s.rd (R.LSH_PRESENT (m / 32))).toNat (m % 32)

/-- A member stops being present (R567). -/
def State.memberGone (s : State) (m : Nat) : State :=
  if !s.present m then s
  else
    let s := (s.setPresent m false).setMember m { s.memberOf m with since := none }
    if !s.expected m then s
    else
      let s := (s.off F.LSH_JOIN_STATUS_COMPLETE).on F.LSH_JOIN_STATUS_LOST_MEMBER
      { s with lsh := { s.lsh with joinLeft := none } }

/-- The round of three cycles that an instant lies in (R566). [DEDUCED, unsafe, log 87] -/
def State.joinRound (s : State) : Nat := s.now / s.cyc / 3

/-- The members, the device included, that declare ROLE 1 for a shaft. -/
def State.mastersOf (s : State) (h : Nat) : Nat :=
  ((s.lsh.members.filter fun x => x.2.since.isSome && x.2.roles / 4 ^ h % 4 == 1).length) +
    (if s.g (F.LSH_SH_CFG_ROLE h) == 1 then 1 else 0)

/-- A JOIN of the domain arrives (R564 to R567). -/
def State.receiveJoin (s : State) (src domain m : Nat) (j : JoinMsg) : State :=
  if !s.is F.LSH_CFG_EN || domain != s.g F.LSH_DOMAIN_DOMAIN then s
  else if j.cycle.toNat != s.g F.LSH_CFG_CYCLE then
    ((s.on F.LSH_JOIN_STATUS_CYCLE_MISMATCH).memberGone m)
  else
    let x := s.memberOf m
    let r := s.joinRound
    let self := m == s.g F.LSH_CFG_MEMBER
    let clash := (x.heard.isSome && x.round == r && x.src != src) ||
      (self && s.is F.LSH_JOIN_STATUS_JOINING && src != Config.macAddress.toNat)
    let x := { x with heard := some s.tb.ticks, src := src, round := r, roles := j.roles.toNat }
    if clash then (((s.on F.LSH_JOIN_STATUS_DUPLICATE).setMember m { x with clash := some r }).memberGone m)
    else
      let held := match x.clash with
        | some c => decide (r < c + 2)
        | none => false
      let s := s.setMember m { x with
        clash := if held then x.clash else none, since := if held then none else (match x.since with
          | some t => some t
          | none => some s.tb.ticks) }
      let s := if held || self then s else s.setPresent m true
      let s := s.when (!s.expected m) fun s => s.on F.LSH_JOIN_STATUS_UNEXPECTED
      (s.when ((List.range 8).any fun h => 2 ≤ s.mastersOf h) fun s => s.on F.LSH_JOIN_STATUS_ROLE_CONFLICT)

/-- JOIN_RECEIVED (R566). -/
def execJoinReceived (src : BitVec 48) (domain : BitVec 16) (member : BitVec 8) (j : JoinMsg) (s : State) : Res :=
  .next (s.receiveJoin src.toNat domain.toNat member.toNat j)

/-- A STATUS of a present member of the domain arrives (R565). -/
def State.receiveStatus (s : State) (domain m : Nat) : State :=
  if !s.is F.LSH_CFG_EN || domain != s.g F.LSH_DOMAIN_DOMAIN || !s.present m then s
  else s.setMember m { s.memberOf m with heard := some s.tb.ticks }

/-- STATUS_RECEIVED (R565). -/
def execStatusReceived (domain : BitVec 16) (member : BitVec 8) (s : State) : Res :=
  .next (s.receiveStatus domain.toNat member.toNat)

/-- MEMBER_TIMEOUT (R565, R567): a present member has been silent for 3 T_cyc + 2 ms. -/
def execMemberTimeout (m : Fin 256) (s : State) : Res :=
  match (s.memberOf m).heard with
  | some t => if s.elapsed < 4 * t + 3 * s.tCyc + 2000000 then .next s else .next (s.memberGone m)
  | none => .next s

/-- Has every expected member been present for GUARD (R565)? -/
def State.allPresent (s : State) : Bool :=
  (List.range 256).all fun m => !s.expected m ||
    (let since := if m == s.g F.LSH_CFG_MEMBER then s.lsh.selfSince else (s.memberOf m).since
     s.present m && match since with
      | some t => decide (t + s.g F.LSH_JOIN_CFG_GUARD * 25000000 ≤ s.tb.ticks)
      | none => false)

/-- MEMBERSHIP_COMPLETE (R565). [DEDUCED, unsafe, log 87] -/
def execMembershipComplete (s : State) : Res :=
  if s.is F.LSH_JOIN_STATUS_COMPLETE || !s.is F.LSH_CFG_EN || !s.is F.LSH_JOIN_CFG_EN || s.servo != servoLocked ||
      !s.allPresent then .next s
  else .next { ((s.on F.LSH_JOIN_STATUS_COMPLETE).wr R.LSH_JOIN_TIME s.short) with
    lsh := { s.lsh with joinLeft := some 9 } }

/-- The member's slot in a cycle (R564): one JOIN on each port with a link, through slot JSLOT of that port. -/
def State.joinCycle (s : State) (cyc : Nat) : State :=
  let m := s.g F.LSH_CFG_MEMBER
  let go := s.is F.LSH_JOIN_CFG_EN && s.servo == servoLocked && !(s.lsh.joinLeft == some 0)
  let s := s.pb F.LSH_JOIN_STATUS_JOINING go
  let left := match s.lsh.joinLeft with
    | some n => some (n - 1)
    | none => none
  let n := cyc / s.cyc
  let s := { s with lsh := { s.lsh with joinLeft := left } }
  if !go || n % 3 != m % 3 then s
  else
    let k := s.g F.LSH_JOIN_CFG_JSLOT
    let t := cyc + (8000 + m / 3 * 1000) * 65536
    s.each ((List.range 2).filter fun p => s.is (F.ETH_STATUS_LINK p) && decide (s.holder (.slot p k) = .lineShaft))
      fun p s => (s.areaPut p (s.g (F.ETH_SLOT_BUF_OFS p k)) (s.lanyoFrame 3 s.joinPayload 10)).shaftPush
        (s.g F.LSH_JOIN_CFG_LQ) (stagedAt t actEthLaunch p (BitVec.ofNat 32 k) 0)

/-! ### The cycle start -/

/-- LINE_SHAFT_CYCLE_START (R255 to R266, R277 to R282, R564): the cycle start at or before now, once. An isolated motion
region sends nothing (R22, R32). -/
def execLineShaftCycleStart (s : State) : Res :=
  let cyc := s.cycleStart
  if !s.is F.LSH_CFG_EN || s.isolated regMotion || s.lsh.cycle == some cyc then .next s
  else
    let s := { s with lsh := { s.lsh with cycle := some cyc } }
    let s := s.each (List.range 16) fun r s => if s.is (F.LSH_REG_CFG_EN r) then s.regAdvance r cyc else s
    let s := s.each ((List.range 8).filter fun h => s.is (F.LSH_SH_CFG_EN h) || s.g (F.LSH_SH_STATUS_STATE h) % 3 != 0)
      fun h s => s.shaftCycle cyc h
    let s := s.regSteps cyc
    let s := s.each (List.range 8) fun h s => s.publish cyc h
    let s := s.each ((List.range 32).filter fun c => s.is (F.LSH_CSW_CFG_EN c)) fun c s =>
      match s.master (s.g (F.LSH_CSW_CFG_SHAFT c)) cyc with
      | some m => (s.cswState c m).cswRecheck c
      | none => s
    .next ((s.predict cyc).joinCycle cyc)

/-- A write of LSH_CFG (R255, R599): a HOLD_CYC of 0 is read as 1, any other value outside a field's range is refused. -/
def wrLshCfg (v : Word) (s : State) : State :=
  let cyc := getBits v 0 3
  let valid := getBits v 8 4
  if 6 ≤ cyc || 9 ≤ getBits v 4 4 || valid == 0 || 9 ≤ valid || (cyc != s.g F.LSH_CFG_CYCLE && (List.range 8).any fun h => s.is (F.LSH_SH_CFG_EN h))
  then s.on F.LSH_STATUS_CFG_REFUSED
  else
    let old := s.g F.LSH_CFG_MEMBER
    let s := s.wr R.LSH_CFG (v &&& 0x00FF0FFF)
    if old != s.g F.LSH_CFG_MEMBER && s.servo == servoLocked
    then (s.setPresent old false).setPresent (s.g F.LSH_CFG_MEMBER) true else s

/-- LSH_CFG_WRITE (R255). -/
def execLshCfgWrite (rq : Rq) (v : Word) (s : State) : Res := .next (s.write rq R.LSH_CFG (wrLshCfg v))

/-- REG_WINDOW_TIMEOUT (R278): the master has been slow in the open window for TMO. [DESIGN CHOICE, safe, log 4] -/
def execRegWindowTimeout (r : Fin 16) (s : State) : Res :=
  match (s.regOf r).slow with
  | some t =>
    if s.elapsedAt s.now < t + s.g (F.LSH_REG_TMO_TMO r) * 1000000 * 65536 then .next s
    else .next (s.regClose r s.now 2)
  | none => .next s

/-! ### Followers -/

/-- Does R268 refuse an engagement, apart from the master's velocity at the start? [DEDUCED, unsafe, log 85] -/
def State.engageBad (s : State) (k : Nat) : Bool :=
  let h := s.g (F.LSH_FOL_CFG_SHAFT k)
  let st := s.g (F.LSH_SH_STATUS_STATE h)
  !s.is F.LSH_CFG_EN || !s.is F.TB_STATUS_TIME_VALID || s.armHeld || s.g (F.LSP_CH_CFG_SRC k) != 1 || s.chanState k != 0 ||
    s.rd (R.LSP_CH_VREF k) != 0 || s.rd (R.LSP_CH_AREF k) != 0 || (st != 1 && st != 2) ||
    (!s.is (F.LSH_FOL_CFG_BLEND k) && s.is (F.LSH_FOL_CFG_ABS k)) ||
    (s.is (F.LSH_FOL_CFG_CAM_EN k) && s.g (F.LSH_CAM_STATUS_STATE (s.g (F.LSH_FOL_CFG_TABLE k))) != 2) ||
    s.rd (R.LSH_FOL_DEN k) == 0

/-- A pair of anchor registers takes an internal position. -/
def State.putAnchor (s : State) (lo hi : Nat) (p : Int) : State := s.wr64 lo hi (fromInternal p)

/-- The follower engages at an evaluation instant (R268). -/
def State.engageAt (s : State) (k t : Nat) : State :=
  let h := s.g (F.LSH_FOL_CFG_SHAFT k)
  let blend := s.is (F.LSH_FOL_CFG_BLEND k)
  match s.master h t with
  | none => s.on (F.LSH_FOL_STATUS_CMD_REFUSED k)
  | some m =>
    if s.engageBad k || (!blend && decide (m.2.1 ≠ 0)) then s.on (F.LSH_FOL_STATUS_CMD_REFUSED k)
    else
      let p := toInternal (fromInternal (s.refAt k t).1)
      let f := { s.folOf k with
        num := (s.rd (R.LSH_FOL_NUM k)).int, den := (s.rd (R.LSH_FOL_DEN k)).toNat, nBase := 0, yBase := 0, ratio := false,
        next := none, lastT := some (s.elapsedAt t) }
      let s := if s.is (F.LSH_FOL_CFG_ABS k) then s
        else
          let y0 := (s.camPath k f (0, 0, 0)).1
          ((s.putAnchor (R.LSH_FOL_M_ORG_LO k) (R.LSH_FOL_M_ORG_HI k) m.1).putAnchor (R.LSH_FOL_X_ORG_LO k)
            (R.LSH_FOL_X_ORG_HI k) 0).putAnchor (R.LSH_FOL_F_ORG_LO k) (R.LSH_FOL_F_ORG_HI k)
            (p - y0 - f.ph - (s.regCorr f t).1)
      let o := s.anchors k
      let x := geared o.1 o.2.1 f.num f.den m
      let s := s.setFol k { f with
        floor := floorDiv x.1 (2 ^ 48),
        blend := if blend then some ⟨m.1, if m.2.1 < 0 then -1 else 1, .held p⟩ else none }
      let s := s.setChan k { s.chanOf k with plan := none }
      (s.p (F.LSH_FOL_STATUS_STATE k) (if blend then 1 else 2)).setChanState k 6

/-- A ratio change at an evaluation instant (R270): X_ORG and M_ORG become those of the change, and a blend runs. -/
def State.ratioAt (s : State) (k t : Nat) : State :=
  match s.master (s.g (F.LSH_FOL_CFG_SHAFT k)) t with
  | none => s
  | some m =>
    let f := s.folOf k
    let o := s.anchors k
    let x := geared o.1 o.2.1 f.num f.den m
    let s := (s.putAnchor (R.LSH_FOL_X_ORG_LO k) (R.LSH_FOL_X_ORG_HI k) x.1).putAnchor (R.LSH_FOL_M_ORG_LO k)
      (R.LSH_FOL_M_ORG_HI k) m.1
    (s.setFol k { f with
      num := (s.rd (R.LSH_FOL_NUM k)).int, den := (s.rd (R.LSH_FOL_DEN k)).toNat, ratio := false,
      blend := some ⟨m.1, if m.2.1 < 0 then -1 else 1, .ratio o.1 o.2.1 f.num f.den⟩ }).p (F.LSH_FOL_STATUS_STATE k) 3

/-- What waits for an evaluation instant of a follower (R268, R270), and then its reference. -/
def State.followAt (s : State) (k t : Nat) : State × Option (Int × Int × Int) :=
  let f := s.folOf k
  let dt := match (s.chanOf k).prevEval with
    | some p => t - p
    | none => 0
  let s := match f.engage with
    | none => s
    | some (some a) =>
      if 2 * t + dt < 2 * a then s
      else
        let s := s.when (2 * a + dt < 2 * t) fun s => s.on (F.LSP_CH_STATUS_START_LATE k)
        (s.setFol k { f with engage := none }).engageAt k t
    | some none => (s.setFol k { f with engage := none }).engageAt k t
  let s := if (s.folOf k).ratio && s.g (F.LSH_FOL_STATUS_STATE k) == 2 then s.ratioAt k t else s
  if s.g (F.LSH_FOL_STATUS_STATE k) == 0 then (s, none) else s.followShaft k t

/-- A write of LSH_FOLk_CMD (R268, R270, R272, R275). [DEDUCED, unsafe, log 85] -/
def wrFolCmd (k : Nat) (v : Word) (s : State) : State :=
  let f := s.folOf k
  let refuse := s.on (F.LSH_FOL_STATUS_CMD_REFUSED k)
  match getBits v 0 3 with
  | 0 => s
  | 1 =>
    if s.engageBad k then refuse
    else s.setFol k { f with
      engage := some (if getBits v 3 1 == 1 then some (s.extendShort (s.rd (R.LSP_CH_START k))) else none) }
  | 2 =>
    if s.g (F.LSH_FOL_STATUS_STATE k) != 2 || f.ratio || s.rd (R.LSH_FOL_DEN k) == 0 then refuse
    else s.setFol k { f with ratio := true }
  | 3 =>
    let s := s.setFol k { f with engage := none, ratio := false }
    if s.g (F.LSH_FOL_STATUS_STATE k) == 0 then s else s.configuredStop k
  | 4 =>
    let t := s.g (F.LSH_FOL_CFG_TABLE k)
    let n := s.g (F.LSH_FOL_CFG_NEXT k)
    if s.g (F.LSH_FOL_STATUS_STATE k) == 0 || !s.is (F.LSH_FOL_CFG_CAM_EN k) || s.g (F.LSH_CAM_STATUS_STATE n) != 2
    then refuse
    else if s.camPoint t 0 ≠ s.camPoint n 0 then refuse.on (F.LSH_FOL_STATUS_CAM_MISMATCH k)
    else s.setFol k { f with next := some n }
  | _ => refuse

/-- ENGAGE (R268). -/
def execEngage (rq : Rq) (k : Fin 168) (startAt : Bool) (s : State) : Res :=
  .next (s.write rq (R.LSH_FOL_CMD k) (wrFolCmd k (BitVec.ofNat 32 (1 + 8 * bit startAt))))

/-- APPLY_RATIO (R270). -/
def execApplyRatio (rq : Rq) (k : Fin 168) (s : State) : Res :=
  .next (s.write rq (R.LSH_FOL_CMD k) (wrFolCmd k 2))

/-- DISENGAGE (R272). -/
def execDisengage (rq : Rq) (k : Fin 168) (s : State) : Res :=
  .next (s.write rq (R.LSH_FOL_CMD k) (wrFolCmd k 3))

/-- NEXT_TABLE (R275). -/
def execNextTable (rq : Rq) (k : Fin 168) (s : State) : Res :=
  .next (s.write rq (R.LSH_FOL_CMD k) (wrFolCmd k 4))

/-- A write of LSH_FOLk_CFG: SHAFT, CAM_EN and TABLE change in STATE 0 only. -/
def wrFolCfg (k : Nat) (v : Word) (s : State) : State :=
  let v := v &&& 0x0003FFFF
  if s.g (F.LSH_FOL_STATUS_STATE k) == 0 then s.wr (R.LSH_FOL_CFG k) v
  else s.wr (R.LSH_FOL_CFG k) (putBits v 0 10 (getBits (s.rd (R.LSH_FOL_CFG k)) 0 10))

/-! ### Cam tables -/

/-- COMMIT is refused: STATE 3 with the reason (R274). -/
def State.camRefuse (s : State) (t err : Nat) : State := (s.p (F.LSH_CAM_STATUS_STATE t) 3).p (F.LSH_CAM_STATUS_ERR t) err

/-- CAM_COMMIT (R273, R274): the points go from the buffer into the private area, with N and LIFT. -/
def State.camLoad (s : State) (t : Nat) : State :=
  let code := (s.holder .lshCam).poolCode
  let hd := s.rd (R.LSH_CAM_HANDLE t)
  let n := s.g (F.LSH_CAM_N_N t)
  match s.handleErr code false hd with
  | some st => (s.refuseHandle code hd st).camRefuse t 1
  | none =>
    if n < 4 || 65536 < n || classSize (handleClass hd) < 4 * n then s.camRefuse t 2
    else if s.camUse t != 0 then s.camRefuse t 3
    else
      let a := s.bufAddr hd
      if (s.ipmPoison a (4 * n)).isSome then s.camRefuse t 4
      else
        let s := s.ipmPut s.ipm.device (camAddr t) (s.ipmBytes (s.keyOf code) a (4 * n))
        let s := s.setCam t ⟨n, (s.rd (R.LSH_CAM_LIFT t)).int⟩
        (s.p (F.LSH_CAM_STATUS_STATE t) 1).p (F.LSH_CAM_STATUS_ERR t) 0

/-- A write of LSH_CAMt_CMD (R273, R274). -/
def wrCamCmd (t : Nat) (v : Word) (s : State) : State :=
  let s := s.when (getBits v 1 1 == 1 && s.camUse t == 0) fun s =>
    (s.p (F.LSH_CAM_STATUS_STATE t) 0).p (F.LSH_CAM_STATUS_ERR t) 0
  s.when (getBits v 0 1 == 1) fun s => s.camLoad t

/-- CAM_COMMIT (R273). -/
def execCamCommit (rq : Rq) (t : Fin 64) (s : State) : Res := .next (s.write rq (R.LSH_CAM_CMD t) (wrCamCmd t 1))

/-- CAM_RELEASE (R274). -/
def execCamRelease (rq : Rq) (t : Fin 64) (s : State) : Res := .next (s.write rq (R.LSH_CAM_CMD t) (wrCamCmd t 2))

/-- CAM_COMPUTE_DONE (R273): the table is ready. -/
def execCamComputeDone (t : Fin 64) (s : State) : Res :=
  if s.g (F.LSH_CAM_STATUS_STATE t) == 1 then .next (s.p (F.LSH_CAM_STATUS_STATE t) 2) else .next s

/-! ### Faults -/

/-- A follower enters its cell fault with an off stop (R253, R283), unless the reaction of a higher level runs (R28). -/
def State.chanCellFault (s : State) (k : Nat) : State :=
  if s.higherRuns k then s
  else
    let s := s.offStop k
    if k < 16 then s.axisFault k else if k < 40 then s.auxFault (k - 16) else s.chanFault k

/-- LSH_STORAGE_ERROR (R283). -/
def execLshStorageError (store : ShaftStore) (s : State) : Res :=
  match store with
  | .cam t =>
    let l := (List.range 168).filter fun k => s.g (F.LSH_FOL_STATUS_STATE k) != 0 && s.is (F.LSH_FOL_CFG_CAM_EN k) &&
      s.g (F.LSH_FOL_CFG_TABLE k) == t.val
    .next ((s.camRefuse t 4).each l fun k s => s.chanCellFault k)
  | .follower k => .next (s.chanCellFault k)
  | .segment h => .next (s.shaftLost h)

end Sys2Proof.Machine
end

