-- ==== Sys2Proof/Machine/Host.lean ====
section
/-! DEFINITION. Peony, the host interface: rings and the doorbell page (R316 to R322), descriptors (R323 to R327),
host-sourced setpoints (R328), completion records, references and MSI-X (R329 to R334), the drain of the event ring (R333,
R491, R494 to R496), and broken rings (R339, R340). -/

namespace Sys2Proof.Machine

/-! ### Registers of the rings -/

def State.hifOf (s : State) (n : Nat) : HifSt := tabGet (fun _ => HifSt.reset) s.hif n
def State.setHif (s : State) (n : Nat) (x : HifSt) : State := { s with hif := tabSet (fun _ => HifSt.reset) s.hif n x }
def State.sqOf (s : State) (n k : Nat) : SqSt := tabGet (fun _ => SqSt.reset) (s.hifOf n).sqs k
def State.setSq (s : State) (n k : Nat) (x : SqSt) : State :=
  s.setHif n { s.hifOf n with sqs := tabSet (fun _ => SqSt.reset) (s.hifOf n).sqs k x }
def State.cqOf (s : State) (n k : Nat) : CqSt := tabGet (fun _ => CqSt.reset) (s.hifOf n).cqs k
def State.setCq (s : State) (n k : Nat) (x : CqSt) : State :=
  s.setHif n { s.hifOf n with cqs := tabSet (fun _ => CqSt.reset) (s.hifOf n).cqs k x }

/-- The configuration, status, sequence and base registers of completion ring `k`, or of the event ring for `k` = 8. -/
def cqCfg (n k : Nat) : Nat := if k == 8 then R.HIF_OD_EVQ_CFG n else R.HIF_OD_CQ_CFG n k
def cqStatus (n k : Nat) : Nat := if k == 8 then R.HIF_OD_EVQ_STATUS n else R.HIF_OD_CQ_STATUS n k
def cqSeq (n k : Nat) : Nat := if k == 8 then R.HIF_OD_EVQ_SEQ n else R.HIF_OD_CQ_SEQ n k
def cqBaseLo (n k : Nat) : Nat := if k == 8 then R.HIF_OD_EVQ_BASE_LO n else R.HIF_OD_CQ_BASE_LO n k
def cqBaseHi (n k : Nat) : Nat := if k == 8 then R.HIF_OD_EVQ_BASE_HI n else R.HIF_OD_CQ_BASE_HI n k

/-- A 64-bit host address in two registers. -/
def State.addr64 (s : State) (lo hi : Nat) : Nat := (s.rd lo).toNat + 2 ^ 32 * (s.rd hi).toNat

/-- The depth of a ring, from its configuration word (R316). -/
def ringDepth (v : Word) : Nat := 2 ^ clampN 4 16 (getBits v 0 5)

def State.cqDepth (s : State) (n k : Nat) : Nat := ringDepth (s.rd (cqCfg n k))
def State.cqEn (s : State) (n k : Nat) : Bool := getBits (s.rd (cqCfg n k)) 5 1 == 1
def State.cqTail (s : State) (n k : Nat) : Nat := getBits (s.rd (cqStatus n k)) 0 16
def State.cqBroken (s : State) (n k : Nat) : Bool := getBits (s.rd (cqStatus n k)) 17 1 == 1

/-- Is a ring enabled and unbroken? -/
def State.cqWorks (s : State) (n k : Nat) : Bool := s.cqEn n k && !s.cqBroken n k

/-- The entries of a page (R331, R333). -/
def State.pageLen (s : State) (n k : Nat) : Nat := min (if k == 8 then 256 else 128) (s.cqDepth n k)

/-- The free entries of a ring (R317). -/
def State.cqFree (s : State) (n k : Nat) : Nat :=
  let d := s.cqDepth n k
  d - 1 - (s.cqTail n k + d - (s.cqOf n k).head % d) % d

/-- FULL follows the free entries. -/
def State.cqFull (s : State) (n k : Nat) : State :=
  s.wr (cqStatus n k) (putBits (s.rd (cqStatus n k)) 20 1 (bit (s.cqFree n k == 0)))

/-! ### Entries -/

/-- The bytes of a list of words. -/
def wordBytes (l : List Nat) : List Byte := l.flatMap (bytesLE 4)

/-- An entry is written at the tail with one memory write (R329). -/
def State.putEntry (s : State) (n k : Nat) (data : List Byte) (counts : Bool) : State :=
  let tail := s.cqTail n k
  let a := s.addr64 (cqBaseLo n k) (cqBaseHi n k) + tail * data.length
  let s := s.emit (.host n a data)
  let s := s.wr (cqStatus n k) (putBits (s.rd (cqStatus n k)) 0 16 ((tail + 1) % s.cqDepth n k))
  let s := s.when counts fun s => s.wr (cqSeq n k) (s.rd (cqSeq n k) + 1)
  (s.setCq n k { s.cqOf n k with last := some (a, data) }).cqFull n k

/-- The eight words of a completion-ring entry (*Completion record*). -/
def State.cplWords (s : State) (n k : Nat) (r : CplRec) : List Nat :=
  [(s.rd (cqSeq n k)).toNat, s.short.toNat, r.type + 256 * r.status + 65536 * r.ring, r.tag, r.pos, r.result.getD 0 0,
   r.result.getD 1 0, r.result.getD 2 0]

/-- An entry that carries full time: a page reference or a heartbeat (R331, *Completion record*). -/
def State.refRec (s : State) (type tag : Nat) : CplRec :=
  let sec := s.nowNs / oneSecNs
  ⟨type, s.servo, 0, tag, s.now % 65536, [s.nowNs % oneSecNs, sec % 2 ^ 32, sec / 2 ^ 32 % 65536], false⟩

/-- The 16 bytes of a reference entry of the event ring for a full time (R333, R494). -/
def State.evRef (s : State) (n full : Nat) : List Byte :=
  let sec := full / secUnits
  wordBytes [0xFFFF + 65536 * (sec / 2 ^ 32 % 65536), sec % 2 ^ 32, full / 65536 % oneSecNs, (s.rd (cqSeq n 8)).toNat]

/-- A reference or heartbeat is written; it is what later stamps extend against (R332, R494). -/
def State.putRefEntry (s : State) (n k full : Nat) (heartbeat : Bool) : State :=
  let s := if k == 8 then s.putEntry n k (s.evRef n full) false
    else s.putEntry n k (wordBytes (s.cplWords n k (s.refRec (if heartbeat then 1 else 2)
      (if heartbeat then (s.cqOf n k).hbCount else 0)))) true
  let s := s.setCq n k { s.cqOf n k with ref := some (full / 65536) }
  s.when heartbeat fun s => s.setCq n k { s.cqOf n k with hbCount := ((s.cqOf n k).hbCount + 1) % 2 ^ 32 }

/-- Does an entry whose stamp is taken at a full time need a page reference, or another reference, first (R331)? -/
def State.pageDue (s : State) (n k : Nat) : Bool := s.cqTail n k % s.pageLen n k == 0
def State.refDue (s : State) (n k full : Nat) : Bool :=
  match (s.cqOf n k).ref with
  | some r => decide (full / 65536 < r) || decide (r + oneSecNs < full / 65536)
  | none => true

/-- The entries that come before an entry stamped at a full time. -/
def State.before (s : State) (n k full : Nat) : Nat :=
  if s.pageDue n k then 1
  else if s.refDue n k full then (if (s.cqTail n k + 1) % s.pageLen n k == 0 then 2 else 1)
  else 0

/-- These entries are written. -/
def State.putBefore (s : State) (n k full : Nat) : State :=
  if s.pageDue n k then s.putRefEntry n k full false
  else if s.refDue n k full then
    let s := s.putRefEntry n k full true
    if s.pageDue n k then s.putRefEntry n k full false else s
  else s

/-- The vector's message is sent, or is due at the end of the IRQ_HOLD interval (R334). -/
def State.signal (s : State) (n k vec : Nat) : State :=
  let c := s.cqOf n k
  let hold := getBits (s.rd (cqCfg n k)) 12 10 * 250
  let free := match c.sent with
    | some t => decide (t + hold ≤ s.tb.ticks)
    | none => true
  if free then (s.emit (.msix n vec)).setCq n k { c with sent := some s.tb.ticks, due := none }
  else s.setCq n k { c with due := some vec }

/-- The vector of a completion ring, and the default of the event ring. -/
def State.cqVector (s : State) (n k : Nat) : Nat := getBits (s.rd (cqCfg n k)) 6 6

/-- The records that wait go into the ring while it has free entries, with the references they need (R320, R331). -/
def State.flushCq (n k : Nat) : Nat → State → State
  | 0, s => s
  | f + 1, s =>
    match (s.cqOf n k).wait with
    | [] => s
    | r :: t =>
      if !s.cqWorks n k || s.isolated regHost then s
      else if s.cqFree n k < s.before n k s.now + 1 then s
      else
        let s := s.putBefore n k s.now
        let s := s.putEntry n k (wordBytes (s.cplWords n k r)) true
        let s := s.setCq n k { s.cqOf n k with wait := t }
        State.flushCq n k f (s.when r.irq fun s => s.signal n k (s.cqVector n k))

/-- A record for a completion ring: discarded and counted when the ring is broken (R340). -/
def State.putRecord (s : State) (n k : Nat) (r : CplRec) : State :=
  if !s.cqWorks n k then s.count (F.HIF_OD_LOST_CPL_COUNT n) 1
  else
    let s := s.setCq n k { s.cqOf n k with wait := (s.cqOf n k).wait ++ [r] }
    State.flushCq n k ((s.cqOf n k).wait.length) s

/-! ### Submission rings -/

def State.sqDepth (s : State) (n k : Nat) : Nat := ringDepth (s.rd (R.HIF_OD_SQ_CFG n k))
def State.sqCq (s : State) (n k : Nat) : Nat := s.g (F.HIF_OD_SQ_CFG_CQ n k)

/-- The descriptors fetched and not started. -/
def State.sqFetched (s : State) (n k : Nat) : Nat :=
  let d := s.sqDepth n k
  (s.g (F.HIF_OD_SQ_STATUS_HEAD n k) + d - (s.sqOf n k).next % d) % d

/-- A ring starts at head and tail 0, or rests (R322). -/
def State.sqInit (s : State) (n k : Nat) : State :=
  ((s.setSq n k SqSt.reset).wr (R.HIF_OD_SQ_STATUS n k) (s.rd (R.HIF_OD_SQ_STATUS n k) &&& 0x00020000)).pb
    (F.HIF_OD_SQ_STATUS_RUNNING n k) (s.is (F.HIF_OD_SQ_CFG_EN n k))

/-- A ring that was disabled stops running once every descriptor fetched has completed (R322); one that was enabled again
before that starts anew then. [DEDUCED, safe, log 166] -/
def State.sqClose (s : State) (n k : Nat) : State :=
  let x := s.sqOf n k
  if x.closing && x.running == 0 && s.sqFetched n k == 0 then s.sqInit n k else s

/-- The next fetched descriptor of a ring starts (R330): its index, unless none is fetched, a FENCE waits or the host region
is isolated (R22). -/
def State.sqStart (s : State) (n k : Nat) (fence : Bool) : Option (State × Nat) :=
  let x := s.sqOf n k
  if s.isolated regHost || !s.is (F.HIF_OD_SQ_STATUS_RUNNING n k) || s.sqFetched n k == 0 || (fence && x.running != 0) then none
  else some (s.setSq n k { x with next := (x.next + 1) % s.sqDepth n k, running := x.running + 1 }, x.next)

/-- A descriptor completes: its record, unless QUIET leaves it out (R323, R329). -/
def State.finishDesc (s : State) (n k idx tag flags status : Nat) (result : List Nat) : State :=
  let x := s.sqOf n k
  let s := s.setSq n k { x with running := x.running - 1 }
  let quiet := testBit flags 2 && status == stOk
  let s := if quiet then s
    else s.putRecord n (s.sqCq n k) ⟨0, status, k, tag, (idx + 1) % s.sqDepth n k + 65536 * idx, result, testBit flags 0⟩
  s.sqClose n k

/-! ### The checks of a descriptor -/

/-- A little-endian field of the payload; offsets count from the start of the descriptor. -/
def Desc.field (d : Desc) (off len : Nat) : Nat := ofBytesLE ((List.range len).map fun i => d.payload.getD (off - 16 + i) 0)

/-- Are the payload bytes from an offset on zero? -/
def Desc.zeroFrom (d : Desc) (off : Nat) : Bool := (d.payload.drop (off - 16)).all fun b => b == 0

/-- The classes that an opcode may have (*Opcodes*). -/
def opClass (op cls : Nat) : Bool := if op == 0 then cls ≤ 1 else if op < 0x40 then cls == 0 else cls == 1

/-- Does the owner's role permit the opcode (*Owner roles*)? `reads` marks a REG_BLOCK with DIR 0. -/
def roleMay (r : Role) (op cls : Nat) (reads : Bool) : Bool :=
  match r with
  | .maintainer => true
  | .operator => cls == 0 || op != 0x45
  | .safety => cls == 1 || op == 0
  | .observer => op == 0 || (cls == 1 && ((op == 0x40 && reads) || op == 0x42 || op == 0x43 || op == 0x44))

/-- The first check of *Descriptor header* that fails, and then the role check (R323, R315). [DEDUCED, unsafe, log 92] -/
def State.descErr (s : State) (n k op : Nat) (d : Desc) (owned argOk reads : Bool) : Option Nat :=
  let cls := d.cls.toNat
  if cls != s.g (F.HIF_OD_SQ_CFG_CLASS n k) || !opClass op cls then some stBadClass
  else if 8 ≤ d.flags.toNat then some stBadArg
  else if !owned then some stNotOwner
  else if d.reserved != 0 || !argOk then some stBadArg
  else if !roleMay (s.role n) op cls reads then some stRole
  else none

/-- A fetched descriptor starts, is checked and has its effect: `body` answers the completion status and the result, with
the state after it. -/
def State.descriptor (s : State) (n k op : Nat) (d : Desc) (owned argOk reads : Bool)
    (body : State → State × Nat × List Nat) : Res :=
  match s.sqStart n k (testBit d.flags.toNat 1) with
  | none => .next s
  | some (s, idx) =>
    match s.descErr n k op d owned argOk reads with
    | some st => .next (s.finishDesc n k idx d.tag.toNat d.flags.toNat st [])
    | none =>
      let r := body s
      .next (r.1.finishDesc n k idx d.tag.toNat d.flags.toNat r.2.1 r.2.2)

/-- NOP (R323). [DEDUCED, unsafe, log 92] -/
def execNop (n : Fin 4) (k : Fin 8) (d : Desc) (s : State) : Res :=
  s.descriptor n k 0 d (d.target == 0) (d.zeroFrom 16) false fun s => (s, stOk, [])

/-- BAD_OPCODE_DESCRIPTOR (R323): the first check fails. -/
def execBadOpcodeDescriptor (n : Fin 4) (k : Fin 8) (opcode : BitVec 8) (d : Desc) (s : State) : Res :=
  let op := opcode.toNat
  if op ≤ 4 || (0x40 ≤ op && op ≤ 0x45) then .next s
  else match s.sqStart n k (testBit d.flags.toNat 1) with
    | none => .next s
    | some (s, idx) => .next (s.finishDesc n k idx d.tag.toNat d.flags.toNat stBadOpcode [])

/-! ### Setpoints -/

def State.setpOf (s : State) (k : Nat) : SetpSt := tabGet (fun _ => SetpSt.reset) s.setp k
def State.setSetp (s : State) (k : Nat) (x : SetpSt) : State :=
  { s with setp := tabSet (fun _ => SetpSt.reset) s.setp k x }

/-- Does an owner hold a channel? -/
def State.ownsChan (s : State) (n k : Nat) : Bool := decide (k < 168) && decide (s.holder (chanObj k) = .od n)

/-- The setpoint of a descriptor (*Opcodes*): EFFECTIVE is extended at receipt (R327). -/
def State.setpoint (s : State) (d : Desc) : Setp :=
  ⟨signed 64 (d.field 16 8), signed 32 (d.field 24 4), signed 32 (d.field 28 4),
   s.extendShort (BitVec.ofNat 32 (d.field 32 4)) / 65536, d.field 36 4⟩

/-- SETPOINT (R327). -/
def execSetpoint (n : Fin 4) (k : Fin 8) (d : Desc) (s : State) : Res :=
  let c := d.target.toNat
  s.descriptor n k 1 d (s.ownsChan n c) (d.zeroFrom 40) false fun s =>
    let x := s.setpOf c
    let p := s.setpoint d
    let old := match x.inForce with
      | some f => decide (p.eff ≤ f.eff)
      | none => false
    if s.isolated regMotion then (s, stIsolated, [])
    else if s.g (F.LSP_CH_CFG_SRC c) != 2 then (s, stRefused, [])
    else if old || p.eff + p.valid < s.nowNs then (s, stLate, [])
    else (s.setSetp c { x with pending := some p }, stOk, [])

/-- The reference of a setpoint at an instant, in internal units (R328). -/
def Setp.at_ (p : Setp) (t : Nat) : Int × Int × Int :=
  (⟨p.eff * 65536, 0, p.p * 65536, p.v * 65536, p.a * 65536, 0⟩ : Seg).at_ t

/-- An evaluation instant brings a pending setpoint into force once it is effective (R328), whatever gives the reference. -/
def State.takeSetpoint (s : State) (k t : Nat) : State :=
  match (s.setpOf k).pending with
  | some p => if p.eff * 65536 ≤ t then s.setSetp k ⟨some p, none⟩ else s
  | none => s

/-- The reference of a host-sourced channel at an evaluation instant (R328): while a setpoint is in force, the channel follows; a channel that followed and has none, or one past its validity, runs its configured stop. -/
def State.followHost (s : State) (k t : Nat) : State × Option (Int × Int × Int) :=
  let x := s.setpOf k
  let st := s.chanState k
  match x.inForce with
  | some p =>
    if (p.eff + p.valid) * 65536 < t then
      let s := s.setSetp k { x with inForce := none }
      if st == 6 then ((s.chanEvent k 4).configuredStop k, none) else (s, none)
    else if st == 0 || st == 6 then (s.setChanState k 6, some (p.at_ t)) else (s, none)
  | none => if st == 6 then ((s.chanEvent k 4).configuredStop k, none) else (s, none)

/-- The reference of a channel whose SRC is 1 or 2 (R225). -/
def State.follow (k t : Nat) (s : State) : State × Option (Int × Int × Int) :=
  if s.g (F.LSP_CH_CFG_SRC k) == 1 then s.followAt k t
  else if s.g (F.LSP_CH_CFG_SRC k) == 2 then s.followHost k t
  else (s, none)

/-- An evaluation of a channel at one of the instants of R226. The source of a published shaft is evaluated at the cycle
starts instead (R262). The phase of a channel whose SRC is 1 moves at each of its instants, engaged or not (R271). -/
def State.evalChan (s : State) (k t : Nat) : State :=
  if s.publishes k then s
  else
    let s := s.when (s.g (F.LSP_CH_CFG_SRC k) == 2) fun s => s.takeSetpoint k t
    let s := s.evaluate k t (State.follow k t)
    if s.g (F.LSP_CH_CFG_SRC k) == 1 then (s.movePhase k t).1
    else s.when (s.folOf k).lastT.isSome fun s => s.setFol k { s.folOf k with lastT := none }

/-! ### Launches and axis commands -/

/-- The refusal bit of LQn_STATUS that a refused push sets (R68, R84). -/
def pushBit (q : Nat) : PushErr → Nat
  | .parity => 2 ^ (F.LQ_STATUS_PARITY q).lo
  | .code => 2 ^ (F.LQ_STATUS_CODE_ERR q).lo
  | .target => 2 ^ (F.LQ_STATUS_TARGET_REFUSED q).lo
  | .overflow => 2 ^ (F.LQ_STATUS_OVERFLOW q).lo
  | .order => 2 ^ (F.LQ_STATUS_ORDER_ERR q).lo

/-- Does an owner hold a queue? -/
def State.ownsQueue (s : State) (n q : Nat) : Bool := decide (q < 16) && decide (s.holder (.queue q) = .od n)

/-- LAUNCH_PUSH (R324). -/
def execLaunchPush (n : Fin 4) (k : Fin 8) (d : Desc) (s : State) : Res :=
  let q := d.target.toNat
  s.descriptor n k 2 d (s.ownsQueue n q) (d.field 16 4 == 0 && d.zeroFrom 38) false fun s =>
    let w := fun o => BitVec.ofNat 32 (d.field o 4)
    let e := Staged.ofWords (w 20) (w 24) (w 28) (w 32) (d.field 36 2)
    if s.isolated regTime then (s, stIsolated, [])
    else match s.pushErr q e with
      | some err => (s.pushAs q e true, stRefused, [pushBit q err])
      | none => (s.pushAs q e true, stOk, [])

/-- LAUNCH_CANCEL (R324). -/
def execLaunchCancel (n : Fin 4) (k : Fin 8) (d : Desc) (s : State) : Res :=
  let q := d.target.toNat
  s.descriptor n k 3 d (s.ownsQueue n q) (d.zeroFrom 20) false fun s =>
    if s.isolated regTime then (s, stIsolated, [])
    else
      let s := s.cancel q (d.field 16 2) (d.field 18 2)
      (s, stOk, [s.g (F.LQ_CANCEL_CNT_COUNT q)])

/-- The registers that AXIS_CMD stages (R325). -/
def State.stageAxis (s : State) (k : Nat) (d : Desc) : State :=
  let w := fun o => BitVec.ofNat 32 (d.field o 4)
  (((((((s.wr (R.LSP_CH_TARGET_LO k) (w 16)).wr (R.LSP_CH_TARGET_HI k) (w 20)).wr (R.LSP_CH_VMAX k) (w 24)).wr
    (R.LSP_CH_AMAX k) (w 28)).wr (R.LSP_CH_DMAX k) (w 32)).wr (R.LSP_CH_JMAX k) (w 36)).wr (R.LSP_CH_START k) (w 40))

/-- AXIS_CMD (R325): refused when Larkspur sets CMD_REFUSED or QUEUE_FULL for it. -/
def execAxisCmd (n : Fin 4) (k : Fin 8) (d : Desc) (s : State) : Res :=
  let c := d.target.toNat
  s.descriptor n k 4 d (s.ownsChan n c) (d.zeroFrom 48) false fun s =>
    if s.isolated regMotion then (s, stIsolated, [])
    else
      let s := s.stageAxis c d
      let r0 := s.g (F.LSP_CH_STATUS_CMD_REFUSED c)
      let f0 := s.g (F.LSP_CH_STATUS_QUEUE_FULL c)
      let s := wrLspCmd c (BitVec.ofNat 32 (d.field 44 4)) ((s.off (F.LSP_CH_STATUS_CMD_REFUSED c)).off
        (F.LSP_CH_STATUS_QUEUE_FULL c))
      let bad := s.is (F.LSP_CH_STATUS_CMD_REFUSED c) || s.is (F.LSP_CH_STATUS_QUEUE_FULL c)
      let s := (s.p (F.LSP_CH_STATUS_CMD_REFUSED c) (max r0 (s.g (F.LSP_CH_STATUS_CMD_REFUSED c)))).p
        (F.LSP_CH_STATUS_QUEUE_FULL c) (max f0 (s.g (F.LSP_CH_STATUS_QUEUE_FULL c)))
      (s, if bad then stRefused else stOk, [(s.rd (R.LSP_CH_STATUS c)).toNat])

/-! ### Pools -/

/-- POOL_ALLOC (R350). -/
def execPoolAlloc (n : Fin 4) (k : Fin 8) (d : Desc) (s : State) : Res :=
  let c := d.field 16 1
  s.descriptor n k 0x43 d (d.target == 0) (decide (c ≤ 3) && d.zeroFrom 17) false fun s =>
    if s.isolated regMemory then (s, stIsolated, [])
    else match s.poolAlloc n c with
      | (s, some h) => (s, stOk, [h.toNat])
      | (s, none) => (s, stNoBuffer, [])

/-- POOL_FREE (R351). -/
def execPoolFree (n : Fin 4) (k : Fin 8) (d : Desc) (s : State) : Res :=
  s.descriptor n k 0x44 d (d.target == 0) (d.zeroFrom 20) false fun s =>
    if s.isolated regMemory then (s, stIsolated, [])
    else
      let r := s.poolFree n (BitVec.ofNat 32 (d.field 16 4))
      (r.1, r.2, if r.2 == stRefused then [1] else [])

/-! ### Polling -/

/-- The entries that `m` more records need from a tail on, with the page references between them (R320). -/
def entriesFor (depth page : Nat) : Nat → Nat → Nat
  | 0, _ => 0
  | m + 1, tail =>
    if tail % page == 0 then 2 + entriesFor depth page m ((tail + 2) % depth)
    else 1 + entriesFor depth page m ((tail + 1) % depth)

/-- The records for which a completion ring has entries reserved: those of descriptors fetched or running, and those that
wait. -/
def State.reserved (s : State) (n c : Nat) : Nat :=
  (List.range 8).foldl (fun a k => if s.sqCq n k == c && s.is (F.HIF_OD_SQ_STATUS_RUNNING n k)
    then a + s.sqFetched n k + (s.sqOf n k).running else a) (s.cqOf n c).wait.length

/-- May one more descriptor be fetched into a completion ring (R320)? -/
def State.roomFor (s : State) (n c : Nat) : Bool :=
  s.cqWorks n c && entriesFor (s.cqDepth n c) (s.pageLen n c) (s.reserved n c + 1) (s.cqTail n c) ≤ s.cqFree n c

/-- Does a ring hold a descriptor that may be fetched, with entries of its completion ring for the record (R320)? -/
def State.fetchable (s : State) (n k : Nat) : Bool :=
  s.g (F.HIF_OD_SQ_STATUS_HEAD n k) != (s.sqOf n k).tail && s.roomFor n (s.sqCq n k)

/-- The descriptor at the head of a ring is requested from host memory. -/
def State.fetchOne (s : State) (n k : Nat) : State :=
  let h := s.g (F.HIF_OD_SQ_STATUS_HEAD n k)
  let s := s.hostFetch n (s.addr64 (R.HIF_OD_SQ_BASE_LO n k) (R.HIF_OD_SQ_BASE_HI n k) + 64 * h) 64
  s.p (F.HIF_OD_SQ_STATUS_HEAD n k) ((h + 1) % s.sqDepth n k)

/-- Up to `m` descriptors of a ring are fetched (R320). -/
def State.fetch (n k : Nat) : Nat → State → State
  | 0, s => s
  | m + 1, s => if s.fetchable n k then State.fetch n k m (s.fetchOne n k) else s

/-- A polled tail (R319): outside the ring's depth, or past the device's head, it makes the device ignore the ring. The
tail moves past the head when it would leave more entries than before without the host having had room for them. -/
def State.pollTail (s : State) (n k tail : Nat) : State :=
  let x := s.sqOf n k
  let d := s.sqDepth n k
  let h := s.g (F.HIF_OD_SQ_STATUS_HEAD n k)
  if !s.is (F.HIF_OD_SQ_CFG_EN n k) || x.ignored || x.closing then s
  else if d ≤ tail || (tail + d - h) % d < (x.tail + d - h) % d then
    ((s.setSq n k { x with ignored := true }).on (F.HIF_OD_SQ_STATUS_TAIL_ERR n k)).raiseSt (evHost n)
      (R.HIF_OD_SQ_STATUS n k)
  else s.setSq n k { x with tail := tail }

/-- The host's head of a ring; records that wait go out. -/
def State.pollHead (s : State) (n k head : Nat) : State :=
  if !s.cqEn n k then s
  else
    let s := (s.setCq n k { s.cqOf n k with head := head }).cqFull n k
    if k == 8 then s else State.flushCq n k (s.cqOf n k).wait.length s

/-- May a ring's descriptors be fetched? -/
def State.fetches (s : State) (n k : Nat) : Bool :=
  s.is (F.HIF_OD_SQ_CFG_EN n k) && !(s.sqOf n k).ignored && !(s.sqOf n k).closing && s.cqWorks n (s.sqCq n k)

/-- The tags that class B reads of an owner hold (R337): one for each descriptor requested that has not arrived.
[DESIGN CHOICE, unsafe, log 199] -/
def State.bTags (s : State) (n : Nat) : Nat :=
  (((List.range 8).filter fun k => s.g (F.HIF_OD_SQ_CFG_CLASS n k) == 1).map (s.sqFetched n)).sum

/-- The class B ring of an owner that is served next: the first with a descriptor to fetch and fetches left in its poll.
[DESIGN CHOICE, unsafe, log 199] -/
def State.bRing (s : State) (n : Nat) : Option Nat :=
  if !s.is (F.HIF_OD_CTL_EN n) || 16 ≤ s.bTags n then none
  else (List.range 8).find? fun k =>
    s.fetches n k && s.g (F.HIF_OD_SQ_CFG_CLASS n k) == 1 && 1 ≤ (s.sqOf n k).left && s.fetchable n k

/-- The class B grants of an owner in a round (R337): 1 to 8, from the policy. -/
def State.bWeight (s : State) (n : Nat) : Nat := s.pol.weights.getD n 1 % 16

/-- The owner and the ring that the weighted round robin serves next (R337), and whether a new round begins: the lowest owner
with class B work that has grants left in the round. [DESIGN CHOICE, unsafe, log 199] -/
def State.bNext (s : State) : Option (Nat × Nat × Bool) :=
  let l := (List.range 4).filterMap fun n => (s.bRing n).map fun k => (n, k)
  match l.find? (fun p => (s.hifOf p.1).grants < s.bWeight p.1), l with
  | some p, _ => some (p.1, p.2, false)
  | none, p :: _ => some (p.1, p.2, true)
  | none, [] => none

/-- A grant: one class B descriptor of the owner is fetched. -/
def State.bGrant (s : State) (n k : Nat) (fresh : Bool) : State :=
  let s := s.when fresh fun s => s.each (List.range 4) fun m s => s.setHif m { s.hifOf m with grants := 0 }
  let s := s.setHif n { s.hifOf n with grants := (s.hifOf n).grants + 1 }
  (s.setSq n k { s.sqOf n k with left := (s.sqOf n k).left - 1 }).fetchOne n k

/-- Class B descriptors are fetched under the arbitration of R337 while one of the 24 tags that are not reserved is free.
[DESIGN CHOICE, unsafe, log 199] -/
def State.bServe : Nat → State → State
  | 0, s => s
  | f + 1, s =>
    if 24 ≤ ((List.range 4).map s.bTags).sum then s
    else match s.bNext with
      | some (n, k, fresh) => State.bServe f (s.bGrant n k fresh)
      | none => s

/-- A word of the doorbell page at a byte offset: its bits [15:0] (R317). -/
def doorWord (page : List Word) (off : Nat) : Nat := (page.getD (off / 4) 0).toNat % 65536

/-- The latest poll instant of an owner (R318): OFS plus a whole multiple of PERIOD, counted from the start of each TAI
second, in units of 2^-16 ns. -/
def State.pollInstant (s : State) (n : Nat) : Nat :=
  let per := atLeast1 (s.g (F.HIF_OD_POLL_PERIOD n)) * 250 * 65536
  let ofs := s.g (F.HIF_OD_POLL_OFS n) * 250 * 65536
  let sec := s.now / secUnits * secUnits
  if sec + ofs ≤ s.now then sec + ofs + (s.now - sec - ofs) / per * per
  else sec - secUnits + ofs + (secUnits - 1 - ofs) / per * per

/-- DOORBELL_POLL (R317, R318, R320, R337): a poll instant, once. Bytes 0x000 to 0x0FF of the doorbell page are read:
its words from 0x000, from 0x040 and from 0x080 on; tails and heads are taken; class T rings are fetched in ring-number order, up to FETCH each, and then
class B rings under the arbitration of the owners. -/
def execDoorbellPoll (n : Fin 4) (tails heads rest : List Word) (s : State) : Res :=
  let page := tails ++ heads ++ rest
  let t := s.pollInstant n
  if !s.is (F.HIF_OD_CTL_EN n) || s.isolated regHost || (s.hifOf n).pollT == some t then .next s
  else
    let s := s.setHif n { s.hifOf n with pollT := some t }
    let s := s.hostFetch n (s.addr64 (R.HIF_OD_DB_LO n) (R.HIF_OD_DB_HI n)) 256
    let s := s.each (List.range 8) fun k s => s.pollHead n k (doorWord page (0x40 + 4 * k))
    let s := s.pollHead n 8 (doorWord page 0x80)
    let s := s.each (List.range 8) fun k s => s.pollTail n k (doorWord page (4 * k))
    let s := s.each (List.range 8) fun k s =>
      s.setSq n k { s.sqOf n k with left := atLeast1 (s.g (F.HIF_OD_SQ_CFG_FETCH n k)) }
    let s := s.each (List.range 8) fun k s =>
      if s.fetches n k && s.g (F.HIF_OD_SQ_CFG_CLASS n k) == 0
      then State.fetch n k (atLeast1 (s.g (F.HIF_OD_SQ_CFG_FETCH n k))) s else s
    .next (State.bServe 24 s)

/-! ### Configuration -/

/-- What the configuration space of a function reports (R313). -/
def State.configIds (s : State) (n : Nat) : List Nat :=
  [0x1F9C, 0x1624, 0xB0, 0x118000, 0x1F9C, s.pol.subsystemIds.getD n 1]

/-- CONFIG_REQUEST (R312, R313, R560): answered once the host region is released. -/
def execConfigRequest (n : Fin 4) (s : State) : Res :=
  let up := !(s.clk.down.contains 4) && !(s.clk.releases.contains 4)
  .next ((s.when up fun s => s.on F.GLB_READY_HOST_READY).emit (.config n up (if up then s.configIds n else [])))

/-- Poll instants before now are past (R318): only one that comes from now on is polled. -/
def State.pollFrom (s : State) (n : Nat) : State :=
  let t := s.pollInstant n
  s.when (decide (t < s.now)) fun s => s.setHif n { s.hifOf n with pollT := some t }

/-- A write of HIF_ODn_CTL (R318): poll instants and heartbeat periods count from the enable (R339). -/
def wrHifCtl (n : Nat) (v : Word) (s : State) : State :=
  let s := s.when (getBits v 0 1 == 1 && !s.is (F.HIF_OD_CTL_EN n)) fun s =>
    (s.setHif n { s.hifOf n with hbTick := s.tb.ticks }).pollFrom n
  s.wr (R.HIF_OD_CTL n) (v &&& 1)

/-- HIF_ENABLE (R318). -/
def execHifEnable (rq : Rq) (n : Fin 4) (v : Word) (s : State) : Res := .next (s.write rq (R.HIF_OD_CTL n) (wrHifCtl n v))

/-- The refusal of a write of an owner's HIF registers (R321, R599). -/
def State.hifRefuse (s : State) (n : Nat) : State := s.on (F.HIF_OD_STATUS_CFG_REFUSED n)

/-- A write of a submission ring's configuration (R321, R322): an enable starts the ring anew at head and tail 0; a disable
lets it complete what it has fetched. -/
def wrSqCfg (n k : Nat) (v : Word) (s : State) : State :=
  let old := s.rd (R.HIF_OD_SQ_CFG n k)
  let v := v &&& 0x0001FFFF
  let en := getBits v 5 1 == 1
  let was := getBits old 5 1 == 1
  let log := getBits v 0 5
  if log < 4 || 16 < log || 64 < getBits v 10 7 || (was && (v &&& 0x3DF) != (old &&& 0x3DF)) ||
      (en && !was && !s.cqEn n (getBits v 7 3))
  then s.hifRefuse n
  else
    let s := s.wr (R.HIF_OD_SQ_CFG n k) v
    if en && !was then (if (s.sqOf n k).closing then s else s.sqInit n k)
    else if was && !en then (s.setSq n k { s.sqOf n k with closing := true }).sqClose n k
    else s

/-- SQ_CFG_WRITE (R322). -/
def execSqCfgWrite (rq : Rq) (n : Fin 4) (k : Fin 8) (v : Word) (s : State) : Res :=
  .next (s.write rq (R.HIF_OD_SQ_CFG n k) (wrSqCfg n k v))

/-- A write of a completion ring's or the event ring's configuration (R321, R322): an enable starts the ring at index 0
with its sequence numbers at 0, and ends BROKEN. -/
def wrCqCfg (n k : Nat) (v : Word) (s : State) : State :=
  let old := s.rd (cqCfg n k)
  let v := v &&& 0x003FFFFF
  let en := getBits v 5 1 == 1
  let was := getBits old 5 1 == 1
  let log := getBits v 0 5
  let mapped := k < 8 && (List.range 8).any fun q => s.is (F.HIF_OD_SQ_CFG_EN n q) && s.sqCq n q == k
  if log < 4 || 16 < log || (was && getBits old 0 5 != log) || (was && !en && mapped) then s.hifRefuse n
  else
    let s := s.wr (cqCfg n k) v
    let clear := fun (s : State) =>
      let s := ((s.setCq n k CqSt.reset).wr (cqStatus n k) 0).wr (cqSeq n k) 0
      if k == 8 then s.off (F.HIF_OD_STATUS_EVQ_BROKEN n)
      else s.p (F.HIF_OD_STATUS_BROKEN n) (setBit (s.g (F.HIF_OD_STATUS_BROKEN n)) k false)
    if en && !was then (clear s).wr (cqStatus n k) 0x00010000
    else if was && !en then clear s
    else s

/-- CQ_CFG_WRITE (R321). -/
def execCqCfgWrite (rq : Rq) (n : Fin 4) (k : Fin 9) (v : Word) (s : State) : Res :=
  .next (s.write rq (cqCfg n k) (wrCqCfg n k v))

/-- A write of a ring's base: refused while the ring is enabled (R321), and where bits [11:0] of the low word are not 0 (R316,
R599). -/
def wrRingBase (n a : Nat) (en lo : Bool) (v : Word) (s : State) : State :=
  if en || (lo && v.toNat % 4096 != 0) then s.hifRefuse n else s.wr a v

/-- A write of HIF_ODn_DB_LO: refused where bits [11:0] are not 0 (R316, R599). -/
def wrDbLo (n : Nat) (v : Word) (s : State) : State :=
  if v.toNat % 4096 != 0 then s.hifRefuse n else s.wr (R.HIF_OD_DB_LO n) v

/-- A write of HIF_ODn_POLL (R318): PERIOD from 8 to 4,000 and OFS below it. -/
def wrHifPoll (n : Nat) (v : Word) (s : State) : State :=
  let p := getBits v 0 12
  if p < 8 || 4000 < p || p ≤ getBits v 12 12 then s.hifRefuse n
  else (s.wr (R.HIF_OD_POLL n) (v &&& 0x00FFFFFF)).pollFrom n

/-! ### The event ring -/

/-- The vector of an event's record (R496). -/
def State.evVector (s : State) (n : Nat) (route : Word) : Option Nat :=
  match getBits route 1 2 with
  | 1 => some (s.cqVector n 8)
  | 2 => some (getBits route 3 6)
  | _ => none

/-- EVENT_RING_DRAIN (R333, R491, R494, R496): the head of the owner's queue goes to its event ring behind the references
it needs, while the ring has free entries. -/
def execEventRingDrain (n : Fin 4) (s : State) : Res :=
  match s.evq n with
  | [] => .next s
  | e :: t =>
    if !s.cqWorks n 8 || s.isolated regHost || s.cqFree n 8 < s.before n 8 e.full + 1 then .next s
    else
      let s := (s.setEvq n t).putBefore n 8 e.full
      let s := s.putEntry n 8 (wordBytes e.words) true
      .next (match s.evVector n e.route with
        | some v => s.signal n 8 v
        | none => s)

/-! ### Heartbeats and broken rings -/

/-- The rings that carry heartbeats. -/
def State.hbRings (s : State) (n : Nat) : List Nat := (List.range 9).filter fun k => s.cqWorks n k

/-- The full time that a heartbeat of the event ring carries: that of the record which follows it, if one waits (R494). -/
def State.hbTime (s : State) (n k : Nat) : Nat :=
  if k == 8 then match s.evq n with
    | e :: _ => e.full
    | [] => s.now
  else s.now

/-- A heartbeat of one ring (R339): written where an entry is free beyond those reserved, and read back; else the last
entry is read back. -/
def State.beat (s : State) (n k : Nat) : State :=
  let full := s.hbTime n k
  let need := if k == 8 then 0 else entriesFor (s.cqDepth n k) (s.pageLen n k) (s.reserved n k) ((s.cqTail n k + 1) %
    s.cqDepth n k)
  let s := if s.pageDue n k then (if need + 2 ≤ s.cqFree n k then (s.putRefEntry n k full false).putRefEntry n k full true
      else s)
    else if need + 1 ≤ s.cqFree n k then s.putRefEntry n k full true else s
  match (s.cqOf n k).last with
  | some (a, data) =>
    (s.emit (.hostRead n a data.length)).setCq n k
      { s.cqOf n k with readbacks := (s.cqOf n k).readbacks ++ [(data, s.tb.ticks)] }
  | none => s

/-- HEARTBEAT (R339): HB_PERIOD has passed since the last ones. -/
def execHeartbeat (n : Fin 4) (s : State) : Res :=
  if !s.is (F.HIF_OD_CTL_EN n) || s.isolated regHost ||
      s.tb.ticks < (s.hifOf n).hbTick + 250000 * atLeast1 (s.g (F.HIF_OD_HB_HB_PERIOD n)) then .next s
  else .next ((s.setHif n { s.hifOf n with hbTick := s.tb.ticks }).each (s.hbRings n) fun k s => s.beat n k)

/-- A ring breaks (R340): it is not written any more; its waiting records are lost; a notice goes into every other working
completion ring; an event and a journal entry report it. -/
def State.breakRing (s : State) (n k why : Nat) : State :=
  let lost := (s.cqOf n k).wait.length
  let s := s.wr (cqStatus n k) (putBits (putBits (s.rd (cqStatus n k)) 17 1 1) 18 2 why)
  let s := if k == 8 then s.on (F.HIF_OD_STATUS_EVQ_BROKEN n)
    else s.p (F.HIF_OD_STATUS_BROKEN n) (setBit (s.g (F.HIF_OD_STATUS_BROKEN n)) k true)
  let s := s.setCq n k { s.cqOf n k with wait := [], readbacks := [], due := none }
  let s := s.count (F.HIF_OD_LOST_CPL_COUNT n) lost
  let s := s.each ((List.range 8).filter fun c => c != k && s.cqWorks n c) fun c s =>
    s.putRecord n c ⟨3, 0, k, 0, 0, [], false⟩
  let s := s.when (k != 8) fun s => s.raiseSt (evHost n + 1) (R.HIF_OD_STATUS n)
  let e : EvRec := ⟨evHost n + 1, Config.severity (evHost n + 1), false, false, s.short, s.rd (R.HIF_OD_STATUS n), 0, s.now, s.now,
    0, n⟩
  s.takeIn e

/-- HEARTBEAT_READBACK (R339): the oldest read-back completes; a mismatch or an error status breaks the ring.
[DEDUCED, safe, log 200] -/
def execHeartbeatReadback (n : Fin 4) (k : Fin 9) (error : Bool) (data : List Byte) (s : State) : Res :=
  match (s.cqOf n k).readbacks with
  | [] => .next s
  | (want, _) :: rest =>
    if error then .next (s.breakRing n k 3)
    else if data = want then .next (s.setCq n k { s.cqOf n k with readbacks := rest })
    else .next (s.breakRing n k 1)

/-- HEARTBEAT_TIMEOUT (R339): no completion has arrived within HB_TMO. [DEDUCED, safe, log 200] -/
def execHeartbeatTimeout (n : Fin 4) (k : Fin 9) (s : State) : Res :=
  match (s.cqOf n k).readbacks with
  | [] => .next s
  | (_, t) :: _ => if s.tb.ticks < t + 2500 * s.g (F.HIF_OD_HB_HB_TMO n) then .next s else .next (s.breakRing n k 2)

/-- Has the IRQ_HOLD interval that the last message began ended (R334)? -/
def State.holdOver (s : State) (n k : Nat) : Bool :=
  match (s.cqOf n k).sent with
  | some t => decide (t + getBits (s.rd (cqCfg n k)) 12 10 * 250 ≤ s.tb.ticks)
  | none => true

/-- IRQ_HOLD_END (R334): a record that was due to signal sends its message at the end of the interval. -/
def execIrqHoldEnd (n : Fin 4) (k : Fin 9) (s : State) : Res :=
  let c := s.cqOf n k
  match c.due with
  | none => .next s
  | some v => if !s.holdOver n k || s.isolated regHost then .next s else .next ((s.emit (.msix n v)).setCq n k { c with due := none, sent := some s.tb.ticks })

end Sys2Proof.Machine
end

