-- ==== Sys2Proof/Machine/MemDma.lean ====
section
/-! DEFINITION. The memory region's commands: pool counts and layout (R348), DMA channels (R354 to R359), copies between
host and buffers (R360 to R362), patrol scrub (R347) and the staging fault (R363). -/

namespace Sys2Proof.Machine

/-! ### Registers of the region -/

/-- A write is refused under R348, R356 or R360. -/
def State.memRefuse (s : State) : State := s.on F.MEM_STATUS_CFG_REFUSED

/-- Would the pools fit into the pool area with these counts (R348)? -/
def poolsFit (counts : List Nat) (cap : Nat) : Bool :=
  let total := (List.range 4).foldl (fun a c => a + counts.getD c 0 * classSize c) 0
  total ≤ (832 - cap * 16) * mib

/-- A write of a class count (R348). -/
def wrPoolCount (c : Nat) (v : Word) (s : State) : State :=
  let counts := listSet ((List.range 4).map s.classCount) c (getBits v 0 22)
  if s.is F.MEM_CTL_POOL_EN || !poolsFit counts (s.g F.MEM_LAYOUT_CAP_AREA) then s.memRefuse
  else s.p (F.POOL_C_CFG_COUNT c) (getBits v 0 22)

/-- POOL_COUNT_WRITE (R348). -/
def execPoolCountWrite (rq : Rq) (c : Fin 4) (v : Word) (s : State) : Res :=
  .next (s.write rq (R.POOL_C_CFG c) (wrPoolCount c v))

/-- A write of MEM_CTL. -/
def wrMemCtl (v : Word) (s : State) : State := (s.wr R.MEM_CTL (v &&& 3)).poolCounts

/-- A write of MEM_LAYOUT: CAP_AREA from 0 to 32, while POOL_EN is 0. -/
def wrMemLayout (v : Word) (s : State) : State :=
  if s.is F.MEM_CTL_POOL_EN || 32 < getBits v 0 6 then s.memRefuse else s.wr R.MEM_LAYOUT (v &&& 0x3F)

/-- Does a copy run or wait? -/
def State.copyBusy (s : State) : Bool := !s.ipm.waiting.isEmpty || s.ipm.copies.any Option.isSome

/-- A write of MEM_STAGE.SEG (R360). -/
def wrMemSeg (v : Word) (s : State) : State :=
  if s.copyBusy || 4 < getBits v 0 3 then s.memRefuse else s.p F.MEM_STAGE_SEG (getBits v 0 3)

/-- MEM_SEG_WRITE (R360). -/
def execMemSegWrite (rq : Rq) (v : Word) (s : State) : Res := .next (s.write rq R.MEM_STAGE (wrMemSeg v))

/-- Single-bit errors that reads of a store have corrected are counted (R347). -/
def State.eccFixed (s : State) (ipm : Bool) (k : Nat) : State :=
  if k == 0 then s
  else if ipm then (s.on F.MEM_STATUS_IPM_CORR).count F.MEM_ECC_CNT_IPM k
  else (s.on F.MEM_STATUS_SRAM_CORR).count F.MEM_ECC_CNT_SRAM k

/-- The 64-bit words of a store (R343, R344). -/
def storeWords (ipm : Bool) : Nat := if ipm then 896 * mib / 8 else 16 * mib / 8

/-- Does the patrol take a word now: once per MEM_SCRUB.PERIOD of 1 h = 900,000,000,000 ticks, or at any time in a scrub burst on
demand (R347)? [DEDUCED, unsafe, log 177] -/
def State.scrubDue (s : State) (k : Nat) : Bool :=
  s.mg.ledger.any (fun e => e.activity == 9) || match tabGet (fun _ => none) s.ipm.scrubbed k with
    | some t => decide (t + atLeast1 (s.g F.MEM_SCRUB_PERIOD) * 900000000000 ≤ s.tb.ticks)
    | none => true

/-- PATROL_SCRUB (R347): a word of a store is read and rewritten; a single-bit error is counted, an uncorrectable one poisons
the word. -/
def execPatrolScrub (ipm : Bool) (word : Nat) (corrected poisoned : Bool) (s : State) : Res :=
  let k := 2 * word + bit ipm
  if !s.is F.MEM_CTL_SCRUB_EN || storeWords ipm ≤ word || !s.scrubDue k then .next s
  else
    let s := { s with ipm := { s.ipm with scrubbed := tabSet (fun _ => none) s.ipm.scrubbed k (some s.tb.ticks) } }
    if poisoned then
      let l := s.ipm.poison
      .next ({ s with ipm := { s.ipm with poison := if l.contains k then l else k :: l } }.on F.MEM_STATUS_POISONED)
    else .next (s.eccFixed ipm (bit corrected))

/-! ### DMA channels -/

/-- The initiator of a DMA channel, coded as POOL_LAST_INFO.OWNER. -/
def State.dmaCode (s : State) (n : Nat) : Nat := (s.holder (.dma n)).poolCode

/-- A side of a transfer as the channel's registers give it (R355). -/
def State.dmaSide (s : State) (space lo hi : Nat) : Side :=
  if space == 0 then ⟨0, s.addr64 lo hi, 0⟩ else ⟨space, (s.rd lo).toNat, s.rd hi⟩

/-- The transfer that the registers of a channel describe. [DEDUCED, unsafe, log 176] -/
def State.dmaAsked (s : State) (n : Nat) : DmaRun :=
  ⟨s.dmaSide (s.g (F.DMA_CTL_SRC_SPACE n)) (R.DMA_SRC_LO n) (R.DMA_SRC_HI n),
   s.dmaSide (s.g (F.DMA_CTL_DST_SPACE n)) (R.DMA_DST_LO n) (R.DMA_DST_HI n),
   (s.rd (R.DMA_COUNT n)).toNat, s.g (F.DMA_CTL_CSUM n), s.is (F.DMA_CTL_APPEND n)⟩

/-- The transfer of a channel that runs or waits under R358, as its START took it. -/
def State.dmaLive (s : State) (n : Nat) : Option DmaRun := tabGet (fun _ => none) s.ipm.live n
def State.setLive (s : State) (n : Nat) (x : Option DmaRun) : State :=
  { s with ipm := { s.ipm with live := tabSet (fun _ => none) s.ipm.live n x } }

/-- The sides of a channel's transfer. -/
def State.dmaSrc (s : State) (n : Nat) : Side := ((s.dmaLive n).getD (s.dmaAsked n)).src
def State.dmaDst (s : State) (n : Nat) : Side := ((s.dmaLive n).getD (s.dmaAsked n)).dst

/-- The bytes that a transfer still has to move. -/
def State.dmaLeft (s : State) (n : Nat) : Nat := ((s.dmaLive n).getD (s.dmaAsked n)).count - (s.rd (R.DMA_DONE_BYTES n)).toNat

/-- A channel halts (R358): REASON, the failing address and direction, the running checksum and the event. -/
def State.dmaHaltAt (s : State) (n reason : Nat) (write : Bool) (addr : Nat) : State :=
  let c := tabGet (fun _ => CsumSt.start 0) s.ipm.run n
  let s := ((s.off (F.DMA_STATUS_BUSY n)).on (F.DMA_STATUS_HALTED n)).p (F.DMA_STATUS_REASON n) reason
  let s := (s.pb (F.DMA_STATUS_ERR_DIR n) write).wr64 (R.DMA_ERR_ADDR_LO n) (R.DMA_ERR_ADDR_HI n) addr
  (s.wr (R.DMA_CSUM n) (BitVec.ofNat 32 c.value)).raiseSt (1376 + n) (R.DMA_STATUS n)

/-- A channel halts for a reason that no request of its own gave (R19, R342, R359): which access counts as the failing one,
the spec leaves open. [DESIGN CHOICE, safe, log 128] -/
def State.dmaStop (s : State) (n reason : Nat) : State :=
  let lo := (Config.freeWord s.free).toNat
  let hi := (Config.freeWord (s.free + 1)).toNat
  s.took.took.dmaHaltAt n reason (Config.freeBool s.free) (lo + 2 ^ 32 * hi)

/-- Is a side usable (R356)? REASON 6 for a buffer's handle, 5 for its range or that of the SRAM's 16 MiB (R343); `len` counts the
bytes it must hold. [DESIGN CHOICE, safe, log 178] -/
def State.sideErr (s : State) (n : Nat) (x : Side) (len : Nat) : Option Nat :=
  if x.space == 2 then (if 16 * mib < x.addr + len then some 5 else none)
  else if x.space != 1 then none
  else match s.handleErr (s.dmaCode n) false x.handle with
    | some _ => some 6
    | none => if classSize (handleClass x.handle) < x.addr + len then some 5 else none

/-- A side that fails halts the channel; a refused handle is recorded (R351, R356). -/
def State.sideCheck (s : State) (n : Nat) (x : Side) (len : Nat) (write : Bool) : State :=
  match s.sideErr n x len with
  | none => s
  | some r =>
    let code := s.dmaCode n
    let s := s.when (r == 6) fun s => match s.handleErr code false x.handle with
      | some st => s.refuseHandle code x.handle st
      | none => s
    s.dmaHaltAt n r write x.addr

/-- A channel runs from its DONE_BYTES on, after the checks of its buffer sides (R356). -/
def State.dmaRun (s : State) (n : Nat) : State :=
  let r := (s.dmaLive n).getD (s.dmaAsked n)
  let s := ((s.on (F.DMA_STATUS_BUSY n)).off (F.DMA_STATUS_HALTED n)).p (F.DMA_STATUS_REASON n) 0
  let s := s.sideCheck n r.src r.count false
  if s.is (F.DMA_STATUS_BUSY n) then s.sideCheck n r.dst (r.count + csumLen r.csum r.append) true else s

/-- Is a START with these spaces refused, on a channel that is BUSY or not (R355, R356)? -/
def State.startBad (s : State) (n : Nat) (busy : Bool) (src dst : Nat) : Bool :=
  let bad := fun sp => sp == 3 || (decide (s.dmaCode n < 4) && sp == 2)
  busy || s.rd (R.DMA_COUNT n) == 0 || bad src || bad dst

/-- START (R356): the transfer that the registers describe begins; a START that is refused sets the flags. -/
def State.dmaStart (s : State) (n : Nat) : State :=
  if s.startBad n (s.is (F.DMA_STATUS_BUSY n)) (s.g (F.DMA_CTL_SRC_SPACE n)) (s.g (F.DMA_CTL_DST_SPACE n))
  then (s.on (F.DMA_STATUS_CFG_REFUSED n)).memRefuse
  else
    let c := CsumSt.start (s.g (F.DMA_CTL_CSUM n))
    let s := (s.setLive n (some (s.dmaAsked n)))
    let s := { s with ipm := { s.ipm with run := tabSet (fun _ => CsumSt.start 0) s.ipm.run n c } }
    (((s.off (F.DMA_STATUS_DONE n)).wr (R.DMA_CSUM n) 0).wr (R.DMA_DONE_BYTES n) 0).dmaRun n

/-- RESUME (R358): a halted transfer goes on from DONE_BYTES; a channel that halted without one has none to continue.
[DEDUCED, unsafe, log 176] -/
def State.dmaResume (s : State) (n : Nat) : State :=
  if s.is (F.DMA_STATUS_HALTED n) && (s.dmaLive n).isSome then s.dmaRun n else s

/-- ABORT (R358): the transfer ends with REASON 7. -/
def State.dmaAbort (s : State) (n : Nat) : State :=
  if s.is (F.DMA_STATUS_BUSY n) || s.is (F.DMA_STATUS_HALTED n)
  then (((s.off (F.DMA_STATUS_BUSY n)).off (F.DMA_STATUS_HALTED n)).p (F.DMA_STATUS_REASON n) 7).setLive n none else s

/-- A write of DMAn_CTL (R356, R358, R599): a refused START refuses the whole write; a reserved space without START is checked at
a later one. -/
def wrDmaCtl (n : Nat) (v : Word) (s : State) : State :=
  let busy := s.is (F.DMA_STATUS_BUSY n) && getBits v 2 1 == 0 ||
    (s.is (F.DMA_STATUS_HALTED n) && (s.dmaLive n).isSome && getBits v 1 1 == 1 && getBits v 2 1 == 0)
  if getBits v 7 2 == 3 || (getBits v 0 1 == 1 && s.startBad n busy (getBits v 3 2) (getBits v 5 2))
  then (s.on (F.DMA_STATUS_CFG_REFUSED n)).memRefuse
  else
    let s := s.wr (R.DMA_CTL n) (v &&& 0x7F8)
    let s := s.when (getBits v 2 1 == 1) fun s => s.dmaAbort n
    let s := s.when (getBits v 1 1 == 1) fun s => s.dmaResume n
    s.when (getBits v 0 1 == 1) fun s => s.dmaStart n

/-- DMA_START (R356). -/
def execDmaStart (rq : Rq) (n : Fin 28) (s : State) : Res :=
  .next (s.write rq (R.DMA_CTL n) fun s => wrDmaCtl n ((s.rd (R.DMA_CTL n) &&& 0x7F8) ||| 1) s)

/-- DMA_RESUME (R358). -/
def execDmaResume (rq : Rq) (n : Fin 28) (s : State) : Res :=
  .next (s.write rq (R.DMA_CTL n) fun s => wrDmaCtl n ((s.rd (R.DMA_CTL n) &&& 0x7F8) ||| 2) s)

/-- DMA_ABORT (R358). -/
def execDmaAbort (rq : Rq) (n : Fin 28) (s : State) : Res :=
  .next (s.write rq (R.DMA_CTL n) fun s => wrDmaCtl n ((s.rd (R.DMA_CTL n) &&& 0x7F8) ||| 4) s)

/-- The bytes that a source side gives from an offset on; `data` is what the host answers. -/
def State.sideBytes (s : State) (n : Nat) (x : Side) (off len : Nat) (data : List Byte) : List Byte :=
  if x.space == 0 then data
  else if x.space == 1 then s.ipmBytes (s.keyOf (s.dmaCode n)) (s.bufAddr x.handle + x.addr + off) len
  else (List.range len).map fun i => s.sramRead (x.addr + off + i)

/-- The first poisoned address that a source side would meet. -/
def State.sidePoison (s : State) (x : Side) (off len : Nat) : Option Nat :=
  if len == 0 then none
  else if x.space == 1 then
    let a := s.bufAddr x.handle
    (s.ipmPoison (a + x.addr + off) len).map fun p => p - a
  else if x.space == 2 then s.sramPoison (x.addr + off) len
  else none

/-- Bytes written at an offset of a destination side. -/
def State.sidePut (s : State) (n : Nat) (x : Side) (off : Nat) (l : List Byte) : State :=
  if l.isEmpty then s
  else if x.space == 0 then s.hostWrite (s.dmaCode n) (x.addr + off) l
  else if x.space == 1 then s.ipmPut (s.keyOf (s.dmaCode n)) (s.bufAddr x.handle + x.addr + off) l
  else s.sramPut (x.addr + off) l

/-- `len` bytes move from DONE_BYTES on; the running checksum takes them. Reading the source has corrected `fixed` words. -/
def State.dmaMove (s : State) (n len : Nat) (data : List Byte) (fixed : Nat) : State :=
  let s := s.eccFixed ((s.dmaSrc n).space == 1) (if (s.dmaSrc n).space == 0 then 0 else fixed)
  let off := (s.rd (R.DMA_DONE_BYTES n)).toNat
  let s := s.when ((s.dmaSrc n).space == 0) fun s => s.hostFetch (s.dmaCode n) ((s.dmaSrc n).addr + off) len
  let l := s.sideBytes n (s.dmaSrc n) off len data
  let c := (tabGet (fun _ => CsumSt.start 0) s.ipm.run n).bytes l
  let s := s.sidePut n (s.dmaDst n) off l
  { s with ipm := { s.ipm with run := tabSet (fun _ => CsumSt.start 0) s.ipm.run n c } }.wr (R.DMA_DONE_BYTES n)
    (BitVec.ofNat 32 (off + len))

/-- Does the data operand fit a move of `len` bytes? -/
def State.dataFits (s : State) (n len : Nat) (data : List Byte) : Bool :=
  if (s.dmaSrc n).space == 0 then data.length == len else true

/-- Does a transfer find the region of its source isolated: the memory region, or the host region for host memory (R22)? -/
def State.srcIsolated (s : State) (x : Side) : Bool := s.isolated regMemory || (x.space == 0 && s.isolated regHost)

/-- Does a transfer wait for the in-package memory, which is in self-refresh while MEMPLL is not ready (*Loss of a secondary
PLL*)? [DEDUCED, unsafe, log 203] -/
def State.dmaWaits (s : State) (n : Nat) : Bool :=
  s.clk.memWait && ((s.dmaSrc n).space == 1 || (s.dmaDst n).space == 1)

/-- DMA_DONE (R357): the rest of the transfer moves, the checksum is written and DONE is set; a poisoned source word halts
the channel instead, and so does an isolated region. [DEDUCED, unsafe, log 96] -/
def execDmaDone (n : Fin 28) (x : Moved) (s : State) : Res :=
  let len := s.dmaLeft n
  if !s.is (F.DMA_STATUS_BUSY n) || !s.dataFits n len x.data then .next s
  else if s.srcIsolated (s.dmaSrc n)
  then .next (s.dmaHaltAt n 4 false ((s.dmaSrc n).addr + (s.rd (R.DMA_DONE_BYTES n)).toNat))
  else if s.dmaWaits n then .next s
  else match s.sidePoison (s.dmaSrc n) (s.rd (R.DMA_DONE_BYTES n)).toNat len with
    | some a => .next (s.dmaHaltAt n 3 false a)
    | none =>
      let r := (s.dmaLive n).getD (s.dmaAsked n)
      let s := s.dmaMove n len x.data x.fixed
      let c := tabGet (fun _ => CsumSt.start 0) s.ipm.run n
      let s := (s.when r.append fun s => s.sidePut n r.dst r.count c.tail).setLive n none
      let s := ((s.wr (R.DMA_CSUM n) (BitVec.ofNat 32 c.value)).off (F.DMA_STATUS_BUSY n)).on (F.DMA_STATUS_DONE n)
      .next (s.when (s.is (F.DMA_CTL_IRQ n)) fun s => s.raiseSt (1376 + n) (R.DMA_STATUS n))

/-- DMA_HALT (R358, R359): after `moved` more bytes a request fails, with one of the reasons that come from outside the
channel's own checks; no byte of a poisoned word or of an isolated region has moved. [DEDUCED, unsafe, log 96] -/
def execDmaHalt (n : Fin 28) (reason : Fin 16) (write : Bool) (addr : BitVec 64) (moved : Nat) (x : Moved)
    (s : State) : Res :=
  if !s.is (F.DMA_STATUS_BUSY n) || s.dmaLeft n < moved || !s.dataFits n moved x.data || s.dmaWaits n ||
      !([1, 2, 3, 4, 8].contains reason.val) || s.srcIsolated (s.dmaSrc n) ||
      (s.sidePoison (s.dmaSrc n) (s.rd (R.DMA_DONE_BYTES n)).toNat moved).isSome then .next s
  else .next ((s.dmaMove n moved x.data x.fixed).dmaHaltAt n reason write addr.toNat)

/-! ### Copies -/

/-- The segment size (R360). -/
def State.segSize (s : State) : Nat := 65536 * 2 ^ min 4 (s.g F.MEM_STAGE_SEG)

/-- A copy completes (R362). -/
def State.copyDone (s : State) (r : CopyReq) (status bytes csum : Nat) : State :=
  s.finishDesc r.od r.ring r.idx r.tag r.flags status [bytes, csum]

/-- The owners after the one served last, in the order of R361. -/
def ownersAfter (n : Nat) : List Nat := [(n + 1) % 4, (n + 2) % 4, (n + 3) % 4, n]

/-- The waiting copy that a channel takes: the oldest of the first owner in turn (R361). [DEDUCED, unsafe, log 96] -/
def nextCopy (last : Nat) (l : List CopyReq) : Option CopyReq :=
  (ownersAfter last).findSome? fun o => l.find? fun r => r.od == o

/-- The check of a copy before its first segment (*Copy outcomes*). -/
def State.copyErr (s : State) (r : CopyReq) : Option Nat :=
  match s.handleErr r.od false r.handle with
  | some st => some st
  | none =>
    let extra := if r.out then 0 else csumLen r.csum r.append
    if classSize (handleClass r.handle) < r.off + r.len + extra then some stBadArg else none

/-- A free, sound copy channel: the halt of a cluster fault keeps no sound one from running copies (R363).
[DEDUCED, unsafe, log 129] -/
def State.freeCopy (s : State) : Option Nat :=
  (List.range 4).find? fun c => testBit (s.g F.MEM_STAGE_SOUND) c &&
    (!s.is (F.DMA_STATUS_HALTED (28 + c)) || s.g (F.DMA_STATUS_REASON (28 + c)) == 9) &&
    (s.ipm.copies.getD c none).isNone

/-- Free channels take waiting copies (R361); a copy that fails its check completes at once. With no staging buffer left,
every copy completes with REFUSED (R363). [DEDUCED, unsafe, log 96] -/
def State.takeCopies : Nat → State → State
  | 0, s => s
  | f + 1, s =>
    if s.g F.MEM_STAGE_SOUND == 0 then
      match s.ipm.waiting with
      | [] => s
      | r :: t => State.takeCopies f ({ s with ipm := { s.ipm with waiting := t } }.copyDone r stRefused 0 0)
    else match s.freeCopy with
      | none => s
      | some c =>
        match nextCopy (s.ipm.lastOwner.getD c 3) s.ipm.waiting with
        | none => s
        | some r =>
          let s := { s with ipm := { s.ipm with
            waiting := s.ipm.waiting.erase r, lastOwner := listSet s.ipm.lastOwner c r.od } }
          match s.copyErr r with
          | some st =>
            let s := s.when (s.handleErr r.od false r.handle).isSome fun s => s.refuseHandle r.od r.handle st
            State.takeCopies f (s.copyDone r st 0 0)
          | none =>
            State.takeCopies f { s with ipm := { s.ipm with
              copies := listSet s.ipm.copies c (some ⟨r, 0, CsumSt.start r.csum, s.keyOf r.od, false⟩) } }

/-- Waiting copies start where they can. -/
def State.runCopies (s : State) : State := State.takeCopies (s.ipm.waiting.length) s

/-- A COPY_IN or COPY_OUT descriptor: checked, and then waiting for a copy channel (R360, R361). -/
def State.copyDesc (s : State) (n k op : Nat) (d : Desc) : Res :=
  let len := d.field 32 4
  let argOk := decide (1 ≤ len) && decide (len ≤ 16 * mib) && decide (d.field 36 1 ≤ 2) && decide (d.field 37 1 ≤ 1) &&
    d.zeroFrom 38
  match s.sqStart n k (testBit d.flags.toNat 1) with
  | none => .next s
  | some (s, idx) =>
    match s.descErr n k op d (d.target == 0) argOk false with
    | some st => .next (s.finishDesc n k idx d.tag.toNat d.flags.toNat st [])
    | none =>
      if s.isolated regMemory then .next (s.finishDesc n k idx d.tag.toNat d.flags.toNat stIsolated [0, 0])
      else
        let r : CopyReq := ⟨n, k, idx, op == 0x42, d.field 16 8, BitVec.ofNat 32 (d.field 24 4), d.field 28 4, len,
          d.field 36 1, d.field 37 1 == 1, d.tag.toNat, d.flags.toNat⟩
        .next ({ s with ipm := { s.ipm with waiting := s.ipm.waiting ++ [r] } }.runCopies)

/-- COPY_IN (R360). -/
def execCopyIn (n : Fin 4) (k : Fin 8) (d : Desc) (s : State) : Res := s.copyDesc n k 0x41 d

/-- COPY_OUT (R360). -/
def execCopyOut (n : Fin 4) (k : Fin 8) (d : Desc) (s : State) : Res := s.copyDesc n k 0x42 d

/-- A copy channel's copy ends; the channel is free for the next. -/
def State.copyEnd (s : State) (c : Nat) (r : CopyRun) (status bytes : Nat) : State :=
  ({ s with ipm := { s.ipm with copies := listSet s.ipm.copies c none } }.copyDone r.req status bytes
    r.csum.value).runCopies

/-- Where the staging buffer of a copy channel lies in the SRAM (R343, R360). [DESIGN CHOICE, safe, log 179] -/
def stageBase (c : Nat) : Nat := 12 * mib + c * mib

/-- A segment of a copy moves (R360, R361, R362): from its source in full into the staging buffer of the channel, and then out
in full; the last one is followed by the checksum where it is asked for. An abort ends the copy after it. -/
def State.segmentMoved (s : State) (c : Nat) (x : CopyRun) (data : List Byte) (fixed : Nat) : State :=
  let r := x.req
  let done := x.segs * s.segSize
  let len := min s.segSize (r.len - done)
  let a := s.bufAddr r.handle + r.off + done
  let size := s.segSize
  let l := if r.out then s.ipmBytes x.key a len else data
  let s := s.when (!r.out) fun s => s.hostFetch r.od (r.host + done) len
  let s := (s.eccFixed true (if r.out then fixed else 0)).sramPut (stageBase c) l
  let s := if r.out then s.hostWrite r.od (r.host + done) l else s.ipmPut x.key a l
  let y := { x with segs := x.segs + 1, csum := x.csum.bytes l }
  if x.abort then s.copyEnd c y stAborted (y.segs * size)
  else if done + len < r.len then { s with ipm := { s.ipm with copies := listSet s.ipm.copies c (some y) } }
  else
    let tail := if r.append then y.csum.tail else []
    let s := if tail.isEmpty then s else if r.out then s.hostWrite r.od (r.host + r.len) tail
      else s.ipmPut x.key (a + len) tail
    s.copyEnd c y stOk r.len

/-- What a segment that has been read does (R360, R362): a copy out whose buffer holds an uncorrectable word is refused there, a
copy in that cannot reach the host ends with a bus error, and any other segment moves. -/
def State.segmentRead (s : State) (c : Nat) (x : CopyRun) (data : List Byte) (fixed : Nat) : State :=
  let r := x.req
  let done := x.segs * s.segSize
  let len := min s.segSize (r.len - done)
  if !r.out && data.length != len then s
  else if !r.out && s.isolated regHost then s.copyEnd c x stBusError done
  else if r.out && (s.ipmPoison (s.bufAddr r.handle + r.off + done) len).isSome then s.copyEnd c x stRefused done
  else s.segmentMoved c x data fixed

/-- COPY_SEGMENT_DONE (R360, R362): a segment has been read in full into the channel's staging buffer and then written out in
full, or has failed. [DEDUCED, unsafe, log 203] -/
def execCopySegmentDone (c : Fin 4) (res : SegEnd) (s : State) : Res :=
  match s.ipm.copies.getD c none with
  | none => .next s
  | some x =>
    let done := x.segs * s.segSize
    if s.isolated regMemory then .next (s.copyEnd c x stIsolated done)
    else match res with
      | .hostError => .next (s.copyEnd c x (if x.abort then stAborted else stBusError) done)
      | .dataError => .next (s.copyEnd c x stRefused done)
      | .done m => if s.clk.memWait then .next s else .next (s.segmentRead c x m.data m.fixed)

/-- Every copy in progress completes with a status (R362, R363). -/
def State.endCopies (s : State) (status : Nat) (which : CopyReq → Bool) : State :=
  s.each (List.range 4) fun c s =>
    match s.ipm.copies.getD c none with
    | some x =>
      if which x.req then { s with ipm := { s.ipm with copies := listSet s.ipm.copies c none } }.copyDone x.req status
        (x.segs * s.segSize) x.csum.value else s
    | none => s

/-- Every DMA channel that the condition names halts with a reason. [DEDUCED, unsafe, log 129] -/
def State.haltDmas (s : State) (reason : Nat) (which : Nat → Bool) : State :=
  s.each ((List.range 32).filter which) fun n s => s.dmaStop n reason

/-- The reaction of the DMA cluster (R363, R19): every copy in progress completes with REFUSED and every channel, copy channels
among them, running or not, halts with REASON 9. -/
def State.dmaClusterEscalate (s : State) : State :=
  let s := s.p F.GLB_REGION_STATE_CLUSTER_FAULT_SEEN (setBit (s.g F.GLB_REGION_STATE_CLUSTER_FAULT_SEEN) regMemory true)
  ((s.endCopies stRefused fun _ => true).haltDmas 9 fun _ => true).runCopies

/-- A fault of the DMA cluster's shared resource, a staging buffer (R363). -/
def State.dmaClusterFault (s : State) : State := (s.on F.MEM_STATUS_STAGE_FAULT).dmaClusterEscalate

/-- A fault of a copy channel, DMA28 to DMA31 (R17, R359): it halts with REASON 8 and takes no further copy; its copy ends
with REFUSED, and the other channels go on. [DEDUCED, unsafe, log 129] -/
def State.copyFault (s : State) (c : Nat) : State :=
  let s := s.dmaStop (28 + c) 8
  match s.ipm.copies.getD c none with
  | some x => s.copyEnd c x stRefused (x.segs * s.segSize)
  | none => s

/-- STAGING_FAULT (R363). -/
def execStagingFault (c : Fin 4) (s : State) : Res :=
  .next ((s.p F.MEM_STAGE_SOUND (setBit (s.g F.MEM_STAGE_SOUND) c false)).dmaClusterFault)

end Sys2Proof.Machine
end

