-- ==== Sys2Proof/Machine/AuxDrive.lean ====
section
/-! DEFINITION. Auxiliary drive channels: configuration and enable (R286 to R288), the cluster ADC (R289 to R292),
evaluation instants (R293), the stepper (R294 to R300) and the sensorless BLDC motor (R301 to R309). -/

namespace Sys2Proof.Machine

/-! ### Configuration and enable -/

/-- The registers of a channel that R286 guards, by their offset in its block: AUXn_CFG, the stepper block and the BLDC
block, their status registers among them. -/
def auxGuarded (off : Nat) : Bool :=
  off == 0 || (0x100 ≤ off && off ≤ 0x118 && off % 4 == 0) || (0x200 ≤ off && off ≤ 0x22C && off % 4 == 0)

/-- The derived state after a register of the channel has changed: STATE, coils and position. -/
def State.auxFollow (s : State) (c : Nat) : State :=
  let s := s.refreshAux c
  if s.g (F.AUX_CFG_MODE c) == 1 then (s.stepPos c).coilRefresh c 0 |>.coilRefresh c 1 else s

/-- A write of AUXn_CFG (R286, R543, R557, R599): while running only ADC_SEL is taken. -/
def wrAuxCfg (c : Nat) (v : Word) (s : State) : State :=
  let refuse := fun (s : State) => s.on (F.AUX_STATUS_CFG_REFUSED c)
  if !inRange (R.AUX_CFG c) v then refuse s
  else if s.g (F.AUX_STATUS_STATE c) == 2 then
    let s' := s.p (F.AUX_CFG_ADC_SEL c) (getBits v 16 2)
    if getBits v 0 16 == getBits (s.rd (R.AUX_CFG c)) 0 16 then s' else refuse s'
  else if getBits v 0 1 == 1 && s.armHeld then refuse s
  else (s.merge (R.AUX_CFG c) v).auxFollow c

/-- A write of a register of a mode block (R286, R599): V_HO must exceed V0; while running only AUXn_STP_CUR, AUXn_BL_SPD
and AUXn_BL_ILIM are taken. -/
def wrAuxMode (c off : Nat) (v : Word) (s : State) : State :=
  let a := auxWord c off
  let open_ := off == 0x104 || off == 0x218 || off == 0x21C
  if !inRange a v || (off == 0x208 && getBits v 16 16 ≤ getBits v 0 16) || (s.g (F.AUX_STATUS_STATE c) == 2 && !open_)
  then s.on (F.AUX_STATUS_CFG_REFUSED c)
  else (s.merge (auxWord c off) v).auxFollow c

/-- A write of a guarded register of a channel. -/
def wrAuxReg (c off : Nat) (v : Word) (s : State) : State := if off == 0 then wrAuxCfg c v s else wrAuxMode c off v s

/-- AUX_CFG_WRITE (R286). -/
def execAuxCfgWrite (rq : Rq) (c : Fin 24) (off : Nat) (v : Word) (s : State) : Res :=
  if auxGuarded off then .next (s.write rq (auxWord c off) (wrAuxReg c off v)) else .next s

/-- FAULT_CLR (R288): FAULT and LAUNCH_OFF clear. -/
def State.auxClear (s : State) (c : Nat) : State :=
  ((s.off (F.AUX_STATUS_FAULT c)).off (F.AUX_STATUS_LAUNCH_OFF c)).refreshAux c

/-- A write of AUXn_CTL (R288): FAULT_CLR first, then OUT_EN. -/
def wrAuxCtl (c : Nat) (v : Word) (s : State) : State :=
  (s.when (getBits v 1 1 == 1) fun s => s.auxClear c).writeAuxOut c (getBits v 0 1 == 1)

/-- AUX_OUT_EN (R288): a write of OUT_EN = 1. -/
def execAuxOutEn (rq : Rq) (c : Fin 24) (s : State) : Res := .next (s.write rq (R.AUX_CTL c) (wrAuxCtl c 1))

/-- AUX_FAULT_CLR (R288): a write of FAULT_CLR that leaves OUT_EN as it is. -/
def execAuxFaultClr (rq : Rq) (c : Fin 24) (s : State) : Res :=
  .next (s.write rq (R.AUX_CTL c) fun s => s.auxClear c)

/-- AUX_OFF (R72, R288): LAUNCH_OFF is set and OUT_EN cleared. -/
def execAuxOff (c : Fin 24) (s : State) : Res :=
  .next (s.act actAuxOff c fun _ s => ((s.on (F.AUX_STATUS_LAUNCH_OFF c)).off (F.AUX_CTL_OUT_EN c)).refreshAux c)

/-! ### Output pins -/

/-- The levels of the six outputs that the mode logic drives (*Auxiliary channel pins*, R296, R301, R302): the PWM input is high
while the counter is within the on-time. A commutation reaches the pins at the first tick after it. -/
def State.auxDrive (s : State) (c : Nat) : List Bool :=
  if s.g (F.AUX_CFG_MODE c) == 1 then
    let half := fun (i : Nat) =>
      let k := s.coil c i
      let fast := s.is (F.AUX_STP_CFG_DECAY c)
      if !k.on then (true, true, true)
      else if k.drive then (!k.neg, k.neg, false)
      else if fast then (k.neg, !k.neg, false)
      else (false, false, false)
    let a := half 0
    let b := half 1
    [a.1, a.2.1, b.1, b.2.1, a.2.2, b.2.2]
  else if s.g (F.AUX_CFG_MODE c) == 2 then
    let ph := s.g (F.AUX_BL_STATUS_PHASE c)
    let sec := if s.tb.ticks ≤ (s.auxOf c).comm then (s.auxOf c).wasSec else s.g (F.AUX_BL_STATUS_SECTOR c)
    let drives := ph == 1 || ph == 2 || ph == 3
    let hi := [0, 0, 1, 1, 2, 2].getD sec 0
    let lo := [1, 2, 2, 0, 0, 1].getD sec 0
    let input := fun (p : Nat) => drives && p == hi && s.pwmHigh c
    let off := fun (p : Nat) => !(drives && (p == hi || p == lo))
    [input 0, input 1, input 2, off 0, off 1, off 2]
  else [true, true, true, true, true, true]

/-- The levels of a channel's outputs (R287, *Auxiliary output precedence*). -/
def State.auxPins (s : State) (c : Nat) : List Bool :=
  if s.sto (s.auxGroup c) || s.clk.tripped || s.clk.down.contains 8 || s.is (F.AUX_STATUS_FAULT c) || s.is (F.AUX_STATUS_LAUNCH_OFF c) ||
      s.g (F.AUX_STATUS_STATE c) != 2
  then [true, true, true, true, true, true]
  else s.auxDrive c

/-! ### The cluster ADC -/

/-- A cluster ADC fault (R20, R292): with a channel in BLDC mode every channel of the cluster runs an off stop, else each
runs its configured stop. [DEDUCED, unsafe, log 130] -/
def State.auxClusterFault (s : State) (cl : Nat) : State :=
  let s := s.p F.GLB_REGION_STATE_CLUSTER_FAULT_SEEN (setBit (s.g F.GLB_REGION_STATE_CLUSTER_FAULT_SEEN) regMotion true)
  let s := s.raiseSt (976 + cl) (R.AUX_CL_ADC_STATUS cl)
  let l := (List.range 6).map (· + 6 * cl)
  let bldc := l.any fun c => s.g (F.AUX_CFG_MODE c) == 2
  s.each l fun c s => s.levelStop 1 (16 + c) fun s => if bldc then s.offStop (16 + c) else s.configuredStop (16 + c)

/-- A cell of an auxiliary cluster has not confirmed its safe state (R26): the cluster takes the fault, and each of its
channels runs its configured stop (R19); the ADC is sound. -/
def State.auxClusterEscalate (s : State) (cl : Nat) : State :=
  let s := s.p F.GLB_REGION_STATE_CLUSTER_FAULT_SEEN (setBit (s.g F.GLB_REGION_STATE_CLUSTER_FAULT_SEEN) regMotion true)
  s.each ((List.range 6).map (· + 6 * cl)) fun c s => s.levelStop 1 (16 + c) fun s => s.configuredStop (16 + c)

/-- The result of the reference conversion (R292): outside 2,048 ± 16 the cluster faults. -/
def State.adcReference (s : State) (cl code : Nat) : State :=
  let s := s.p (F.AUX_CL_ADC_STATUS_REF cl) code
  if (code < 2032 || 2064 < code) && !s.is (F.AUX_CL_ADC_STATUS_FAULT cl)
  then (s.on (F.AUX_CL_ADC_STATUS_FAULT cl)).auxClusterFault cl else s

/-- A bridge current result (R307): the limit and the trip. -/
def State.adcCurrent (s : State) (c code : Nat) : State :=
  if !s.auxRuns c 2 then s
  else
    let beyond := decide (s.g (F.AUX_BL_ILIM_I_LIM c) < code)
    let s := (s.setAux c { s.auxOf c with got := true, beyond := beyond }).pb (F.AUX_BL_STATUS_I_LIMITED c) beyond
    if s.g (F.AUX_BL_ILIM_I_TRIP c) < code then
      let s := s.on (F.AUX_BL_STATUS_I_TRIP c)
      (s.raiseSt (evAux c + 4) (R.AUX_BL_STATUS c)).auxFault c
    else s

/-- ADC_CONVERSION_DONE (R289 to R292, R298, R307): the conversion in progress ends, 250 ns after its start, with a code; its
result goes to its user, and the next pending request starts. -/
def execAdcConversionDone (cl : Fin 4) (code : BitVec 12) (s : State) : Res :=
  match (s.adcOf cl).cur with
  | none => .next s
  | some (r, stamp) =>
    if s.tb.ticks < (s.adcOf cl).began + 63 then .next s else
    let c := 6 * cl.val + r.ch
    let s := (s.setAdc cl { s.adcOf cl with cur := none }).off (F.AUX_CL_ADC_STATUS_BUSY cl)
    let s := match r.use with
      | .sample _ => (s.p (F.AUX_ADC_RES_RESULT c) code.toNat).wr (R.AUX_ADC_STAMP c) stamp
      | .reference => s.adcReference cl code.toNat
      | .current => s.adcCurrent c code.toNat
      | .peak i => s.setCoil c i ((s.coil c i).notePeak r.cyc code.toNat)
      | .valley i => s.cycleEnd c i r.cyc (some code.toNat)
    .next (s.adcStart cl)

/-- ADC_REQUEST_DISCARD (R290): a request of class 2 or 3 has not started by its limit. -/
def execAdcRequestDiscard (cl : Fin 4) (ch : Fin 6) (use : AdcUse) (s : State) : Res :=
  match use with
  | .sample _ => .next s
  | .reference => .next s
  | _ => match (s.adcOf cl).wait.find? fun r =>
      r.ch == ch.val && decide (r.use = use) && r.limit.any (· ≤ s.tb.ticks) with
    | some r => .next (s.adcDrop cl r)
    | none => .next s

/-- ADC_REFERENCE_CHECK (R292): 1 ms after the last one the cluster places its reference conversion; ADC_CONVERSION_DONE
checks the result. -/
def execAdcReferenceCheck (cl : Fin 4) (s : State) : Res :=
  if s.tb.ticks < (s.adcOf cl).refTick + 250000 then .next s
  else .next ((s.setAdc cl { s.adcOf cl with refTick := s.tb.ticks }).adcAsk (6 * cl) .reference)

/-! ### Evaluation instants -/

/-- The instant at which microstep j of a spread is due (R295), in elapsed units of 2^-16 ns: j × T_e ÷ Δs after t_e, or 200 ns
apart. [DEDUCED, unsafe, log 89] -/
def AuxSt.stepTime (x : AuxSt) (j : Nat) : Nat := x.te + j * x.span / atLeast1 x.todo

/-- The evaluation interval that follows an instant (R293, R295): with INTERVAL up to the next multiple or the end of the
second, else as long as the one that ended. -/
def State.evalInterval (s : State) (c t last : Nat) : Nat :=
  let i := s.g (F.AUX_CFG_INTERVAL c) * 1000 * 65536
  if s.g (F.AUX_CFG_EVAL_SRC c) == 1 then min i (secUnits - t % secUnits) else if last == 0 then i else last

/-- The step generator at an evaluation instant (R295). [DEDUCED, unsafe, log 89] -/
def State.stepGen (s : State) (c t : Nat) : State :=
  let x := s.auxOf c
  let e := s.elapsedAt t
  let rev := s.stepsRev c
  let last : Nat := match x.prev with
    | some p => e - p
    | none => 0
  let v : Int := if last == 0 then 0 else floorDiv ((x.count - x.atPrev) * 65536 * secUnits) (last * rev : Nat)
  let s := s.wr (R.AUX_VEL c) (Word.ofI (satI 32 v))
  let span := s.evalInterval c t last
  let goal := floorDiv (s.rd64 (R.LSP_CH_PREF_LO (16 + c)) (R.LSP_CH_PREF_HI (16 + c)) * rev) (2 ^ 32)
  let d := goal - x.count
  let gap := 200 * 65536
  let fits := decide (absN d * gap ≤ span)
  let n := if fits then absN d else span / gap
  let s := s.when (!fits) fun s => s.on (F.AUX_STP_STATUS_STEP_SAT c)
  s.setAux c { x with
    left := dirOf d * n, done := 0, todo := n, te := e, span := if fits then span else n * gap, prev := some e,
    atPrev := x.count }

/-- An evaluation instant of an auxiliary channel (R293): Larkspur evaluates it, and a stepper spreads its microsteps. -/
def State.auxEvaluate (s : State) (c t : Nat) : State :=
  let s := s.evalChan (16 + c) t
  if s.g (F.AUX_CFG_MODE c) == 1 then s.stepGen c t else s.bldcCheck c

/-- AUX_SAMPLE (R291, R293): the channel's input is asked for, and with EVAL_SRC 0 it is an evaluation instant. -/
def execAuxSample (c : Fin 24) (s : State) : Res :=
  .next (s.act actAuxSample c fun h s =>
    let s := s.adcAsk c (.sample (s.g (F.AUX_CFG_ADC_SEL c)))
    if s.g (F.AUX_CFG_EVAL_SRC c) == 0 then s.auxEvaluate c (s.instant h) else s)

/-- The latest whole multiple of a channel's INTERVAL counted from the start of the TAI second (R293). -/
def State.intervalStart (s : State) (c : Nat) : Nat :=
  let i := s.g (F.AUX_CFG_INTERVAL c) * 1000 * 65536
  let sec := s.now / secUnits * secUnits
  sec + (s.now - sec) / i * i

/-- AUX_EVAL_INTERVAL (R293): an INTERVAL boundary of a channel with EVAL_SRC 1, once. -/
def execAuxEvalInterval (c : Fin 24) (s : State) : Res :=
  let t := s.intervalStart c
  if s.g (F.AUX_CFG_EVAL_SRC c) == 1 && (s.auxOf c).evalT != some t
  then .next ((s.setAux c { s.auxOf c with evalT := some t }).auxEvaluate c t) else .next s

/-! ### Stepper -/

/-- MICROSTEP (R294, R295, R299): the next scheduled microstep that is due. -/
def execMicrostep (c : Fin 24) (s : State) : Res :=
  let x := s.auxOf c
  if s.g (F.AUX_CFG_MODE c) != 1 || x.left == 0 || (s.tb.ticks + 1) * 262144 < x.stepTime (x.done + 1) then .next s
  else
    let d := dirOf x.left
    let s := s.setAux c { x with
      left := x.left - d, done := x.done + 1, lastStep := s.tb.ticks, reduce := none,
      count := signed 64 (unsigned 64 (x.count + if s.is (F.AUX_STP_CFG_DIR c) then -d else d)) }
    let s := ((s.p (F.AUX_STP_STATUS_FACTOR c) 256).off (F.AUX_STP_STATUS_REDUCED c)).off (F.AUX_STP_STATUS_REDUCING c)
    .next (((s.stepPos c).coilRefresh c 0).coilRefresh c 1)

/-- A chopper cycle with ADAPT_EN asks for its peak (R298). -/
def State.askPeak (s : State) (c i : Nat) : State :=
  let k := s.coil c i
  (s.setCoil c i { k with open_ := k.open_ ++ [⟨s.tb.ticks, s.coilTarget c i, none⟩] }).adcAskCoil c (.peak i) s.tb.ticks

/-- The cycle that ends asks for its valley (R298). -/
def State.askValley (s : State) (c i : Nat) : State :=
  match (s.coil c i).open_.getLast? with
  | some y => s.adcAskCoil c (.valley i) y.id
  | none => s

/-- A coil follows its comparator (R296): drive ends at TH_HI once blanking has ended, decay at TH_LO once TOFF_MIN has;
with ADAPT_EN each switch asks for a sample (R298). -/
def State.coilChop (s : State) (c i : Nat) : State :=
  let k := s.coil c i
  let adapt := s.is (F.AUX_STP_CFG_ADAPT_EN c)
  if !k.on then s
  else if k.drive then
    if k.blanked && k.seen == 2 then (s.coilDecay c i).when adapt fun s => s.askPeak c i else s
  else if k.off && k.seen == 0 then (s.coilDrive c i).when adapt fun s => s.askValley c i
  else s

/-- CHOPPER_CROSSING (R296): what a coil's comparator sees changes. -/
def execChopperCrossing (c : Fin 24) (coil : Fin 2) (seen : Fin 3) (s : State) : Res :=
  .next ((s.setCoil c coil { s.coil c coil with seen := seen.val }).coilChop c coil)

/-- CHOPPER_BLANK_END (R296): BLANK × 4 ns have passed since the drive phase began. -/
def execChopperBlankEnd (c : Fin 24) (coil : Fin 2) (s : State) : Res :=
  if (s.coil c coil).drive && (s.coil c coil).since + s.g (F.AUX_STP_CHOP_BLANK c) ≤ s.tb.ticks then .next ((s.setCoil c coil { s.coil c coil with blanked := true }).coilChop c coil) else .next s

/-- DECAY_MIN_END (R296): TOFF_MIN × 100 ns have passed since the decay phase began. -/
def execDecayMinEnd (c : Fin 24) (coil : Fin 2) (s : State) : Res :=
  if (s.coil c coil).on && !(s.coil c coil).drive && (s.coil c coil).since + 25 * s.g (F.AUX_STP_CHOP_TOFF_MIN c) ≤ s.tb.ticks
  then .next ((s.setCoil c coil { s.coil c coil with off := true }).coilChop c coil) else .next s

/-- STANDSTILL_REDUCTION (R299): SS_DELAY has passed without a microstep, and then each further millisecond: the factor
falls from 256 to HOLD_FRAC over RAMP milliseconds. -/
def execStandstillReduction (c : Fin 24) (s : State) : Res :=
  let x := s.auxOf c
  let i := match x.reduce with
    | some n => n + 1
    | none => 0
  if s.g (F.AUX_CFG_MODE c) != 1 || s.is (F.AUX_STP_STATUS_REDUCED c) ||
      s.tb.ticks < x.lastStep + 250000 * (s.g (F.AUX_STP_SS_SS_DELAY c) + i) then .next s
  else
    let ramp := s.g (F.AUX_STP_SS_RAMP c)
    let low := s.g (F.AUX_STP_CUR_HOLD_FRAC c)
    let last := decide (ramp ≤ i)
    let f := if last then low else 256 - (256 - low) * i / ramp
    let s := (s.setAux c { x with reduce := some i }).p (F.AUX_STP_STATUS_FACTOR c) f
    let s := (s.pb (F.AUX_STP_STATUS_REDUCING c) (!last)).pb (F.AUX_STP_STATUS_REDUCED c) last
    .next ((s.coilRefresh c 0).coilRefresh c 1)

/-- OPEN_COIL (R300): a drive phase has lasted 1 ms without reaching TH_HI, once in the phase. [DEDUCED, unsafe, log 90] -/
def execOpenCoil (c : Fin 24) (coil : Fin 2) (s : State) : Res :=
  let k := s.coil c coil
  if k.on && k.drive && k.seen != 2 && !k.opened && k.since + 250000 ≤ s.tb.ticks then
    let s := s.setCoil c coil { k with opened := true }
    let s := s.on (if coil.val == 0 then F.AUX_STP_STATUS_OPEN_A c else F.AUX_STP_STATUS_OPEN_B c)
    .next (s.raiseSt (evAux c + 1) (R.AUX_STP_STATUS c))
  else .next s

/-! ### BLDC -/

/-- Pole pairs, and sectors in a revolution. -/
def State.sectorsRev (s : State) (c : Nat) : Nat := 6 * s.g (F.AUX_BL_HO_POLE_PAIRS c)

/-- BLDC_ALIGN_END (R305, step 2): ALIGN_TIME × 4 ms of align have passed, and the blind ramp starts at V0. -/
def execBldcAlignEnd (c : Fin 24) (s : State) : Res :=
  if !s.auxRuns c 2 || s.g (F.AUX_BL_STATUS_PHASE c) != 1 ||
      s.tb.ticks < (s.auxOf c).phTick + 1000000 * s.g (F.AUX_BL_START_ALIGN_TIME c) then .next s
  else
    let s := s.setAux c { s.auxOf c with
      vr := s.g (F.AUX_BL_RAMP_V_V0 c) * 2 ^ 28, phase := 0, atHo := 0, ivals := [], starve := 0, got := false }
    let s := (s.p (F.AUX_BL_STATUS_PHASE c) 2).p (F.AUX_BL_STATUS_ZC_RUN c) 0
    .next ((s.newSector c (s.g (F.AUX_BL_STATUS_SECTOR c))).setDuty c (256 * s.g (F.AUX_BL_START_RAMP_DUTY0 c)))

/-- The velocity of a sector interval in the direction of running (R304), in units of 2^-16 rev/s. -/
def State.sectorVel (s : State) (c : Nat) : Int :=
  let v := 250000000 * 65536 / (s.sectorsRev c * atLeast1 (s.rd (R.AUX_BL_T60 c)).toNat)
  if s.is (F.AUX_BL_STATUS_DIRN c) then -(v : Int) else v

/-- A commutation in the running direction (R301, R304): the next sector, the count and the position. -/
def State.commutate (s : State) (c : Nat) : State :=
  let rev := s.is (F.AUX_BL_STATUS_DIRN c)
  let sec := (s.g (F.AUX_BL_STATUS_SECTOR c) + if rev then 5 else 1) % 6
  let x := s.auxOf c
  let s := s.setAux c { x with sectors := x.sectors + if rev then -1 else 1 }
  let s := s.notePos (16 + c) (s.rd64 (R.AUX_POS_LO c) (R.AUX_POS_HI c))
  let s := s.wr64 (R.AUX_POS_LO c) (R.AUX_POS_HI c) (floorDiv ((s.auxOf c).sectors * 2 ^ 32) (s.sectorsRev c))
  s.newSector c sec

/-- A sector interval joins T_60, the mean of the last two (R303, R304). -/
def State.interval (s : State) (c : Nat) : State :=
  let x := s.auxOf c
  let l := lastN 2 (x.ivals ++ [s.tb.ticks - x.comm])
  let s := s.setAux c { x with ivals := l }
  match l with
  | [a, b] =>
    let s := s.wr (R.AUX_BL_T60 c) (BitVec.ofNat 32 ((a + b) / 2))
    s.wr (R.AUX_VEL c) (Word.ofI (satI 32 (s.sectorVel c)))
  | _ => s

/-- A restart is taken from the RETRY budget (R305, R306): with the budget used up, START_FAIL and the cell fault.
[DEDUCED, unsafe, log 91] -/
def State.useRestart (s : State) (c : Nat) : State :=
  let n := s.g (F.AUX_BL_STATUS_RESTARTS c) + 1
  let s := (s.p (F.AUX_BL_STATUS_RESTARTS c) (min n 15)).bldcCoast c
  if atLeast1 (s.g (F.AUX_BL_HO_RETRY c)) ≤ n then
    let s := s.on (F.AUX_BL_STATUS_START_FAIL c)
    (s.raiseSt (evAux c + 2) (R.AUX_BL_STATUS c)).auxFault c
  else s

/-- A sector of the ramp ends (R305, steps 2 to 4). -/
def State.rampSector (s : State) (c : Nat) : State :=
  let x := s.auxOf c
  let zr := if x.zc then min 15 (s.g (F.AUX_BL_STATUS_ZC_RUN c) + 1) else 0
  let s := ((s.p (F.AUX_BL_STATUS_ZC_RUN c) zr).setAux c { x with phase := x.phase - 2 ^ 32 }).interval c
  let s := s.commutate c
  if x.vr < s.g (F.AUX_BL_RAMP_V_V_HO c) * 2 ^ 28 then s
  else if atLeast1 (s.g (F.AUX_BL_HO_N_ZC c)) ≤ zr then
    let s := s.p (F.AUX_BL_STATUS_PHASE c) 3
    (s.setAux c { s.auxOf c with misses := 0, loopTick := s.tb.ticks, x := s.freshWord.toNat % 65536 }).took
  else
    let n := x.atHo + 1
    let s := s.setAux c { s.auxOf c with atHo := n }
    if 2 * s.sectorsRev c ≤ n then s.useRestart c else s

/-- BLDC_COMMUTATION (R301, R304, R305): in the ramp the sector phase has passed a whole sector; in closed loop the
commutation that follows the sector's crossing by T_60 × (128 − ADVANCE) ÷ 256. -/
def execBldcCommutation (c : Fin 24) (s : State) : Res :=
  let ph := s.g (F.AUX_BL_STATUS_PHASE c)
  if !s.auxRuns c 2 then .next s
  else if ph == 2 then if 2 ^ 32 ≤ (s.auxOf c).phase then .next (s.rampSector c) else .next s
  else if ph == 3 && (s.auxOf c).zc && (s.auxOf c).zcTick +
      (s.rd (R.AUX_BL_T60 c)).toNat * (128 - s.g (F.AUX_BL_ZC_ADVANCE c)) / 256 ≤ s.tb.ticks then
    let s := s.p (F.AUX_BL_STATUS_ZC_RUN c) (min 15 (s.g (F.AUX_BL_STATUS_ZC_RUN c) + 1))
    .next ((s.interval c).commutate c)
  else .next s

/-- A miss is counted; at LOSS_CNT in a row commutation is lost (R306). -/
def State.countMiss (s : State) (c : Nat) : State :=
  let n := (s.auxOf c).misses + 1
  let s := (s.setAux c { s.auxOf c with misses := n, missed := true }).p (F.AUX_BL_STATUS_ZC_RUN c) 0
  if atLeast1 (s.g (F.AUX_BL_ZC_LOSS_CNT c)) ≤ n then
    let s := (s.on (F.AUX_BL_STATUS_LOST c))
    ((s.raiseSt (evAux c + 3) (R.AUX_BL_STATUS c)).holdPlan c).useRestart c
  else s

/-- MISSED_SECTOR (R306): no crossing by 1.5 × T_60 after the commutation; the channel commutates with T_60 unchanged. A
sector that a wrong-direction crossing has counted already counts once. -/
def execMissedSector (c : Fin 24) (s : State) : Res :=
  if !s.auxRuns c 2 || s.g (F.AUX_BL_STATUS_PHASE c) != 3 || (s.auxOf c).zc ||
      2 * s.tb.ticks < 2 * (s.auxOf c).comm + 3 * (s.rd (R.AUX_BL_T60 c)).toNat then .next s
  else
    let s := if (s.auxOf c).missed then s else s.countMiss c
    .next (if s.g (F.AUX_BL_STATUS_PHASE c) == 3 then s.commutate c else s)

/-- Is the expected crossing of the sector in force rising (*Six-step sectors*, R301)? -/
def State.expectRise (s : State) (c : Nat) : Bool :=
  (s.g (F.AUX_BL_STATUS_SECTOR c) % 2 == 1) != s.is (F.AUX_BL_STATUS_DIRN c)

/-- The reading of the floating phase in a PWM period (R303), taken SETTLE after the period began, in the ramp and in closed
loop: a period whose on-time is shorter than SETTLE gives none. A change in the wrong direction counts as a missed sector of
closed loop, once in a sector (R306). [DESIGN CHOICE, safe, log 165] -/
def State.readPhase (s : State) (c : Nat) (above : Bool) : State :=
  let x := s.auxOf c
  let at_ := x.perTick + s.g (F.AUX_BL_ZC_SETTLE c)
  let ph := s.g (F.AUX_BL_STATUS_PHASE c)
  if !s.auxRuns c 2 || (ph != 2 && ph != 3) || s.bldcOn c < s.g (F.AUX_BL_ZC_SETTLE c) then s
  else
    let s := s.setAux c { x with cmp := some above }
    let blank := s.g (F.AUX_BL_ZC_BLANK c) * (s.rd (R.AUX_BL_T60 c)).toNat / 256
    if x.cmp ≠ some (!above) ∨ at_ < x.comm + blank then s
    else if above == s.expectRise c then s.setAux c { s.auxOf c with zc := true, zcTick := if x.zc then x.zcTick else at_, misses := 0 }
    else
      let s := s.on (F.AUX_BL_STATUS_WRONG_DIR c)
      if ph == 3 && !x.missed then s.countMiss c else s

/-- The reading of the PWM period in progress is due (R303): it acts at its instant, once. -/
def State.readDue (s : State) (c : Nat) : State :=
  match (s.auxOf c).read with
  | some above =>
    if s.tb.ticks < (s.auxOf c).perTick + s.g (F.AUX_BL_ZC_SETTLE c) then s
    else (s.setAux c { s.auxOf c with read := none }).readPhase c above
  | none => s

/-- The readings of every channel that are due. -/
def State.readsDue (s : State) : State := s.each (s.aux.map (·.1)) fun c s => s.readDue c

/-- The ramp of a PWM period (R305, step 2): speed, sector phase and duty; the duty in 1/256 is
truncated, and open while V_HO does not exceed V0. [DEDUCED, unsafe, log 91] -/
def State.rampStep (s : State) (c : Nat) : State :=
  let x := s.auxOf c
  let per := s.g (F.AUX_BL_PWM_PERIOD c)
  let v0 := s.g (F.AUX_BL_RAMP_V_V0 c) * 2 ^ 28
  let vh := s.g (F.AUX_BL_RAMP_V_V_HO c) * 2 ^ 28
  let v := min vh (x.vr + s.g (F.AUX_BL_RAMP_ACC_ACC c) * 2 ^ 24 * per / 250000000)
  let s := s.setAux c { x with vr := v, phase := x.phase + s.sectorsRev c * v * per / 250000000 }
  let d0 : Int := s.g (F.AUX_BL_START_RAMP_DUTY0 c)
  let d1 : Int := s.g (F.AUX_BL_START_RAMP_DUTY1 c)
  if vh ≤ v0 then (s.setDuty c (s.freshWord.toNat % 65536 : Nat)).took
  else s.setDuty c (256 * floorDiv (d0 * ((vh : Int) - v0) + (d1 - d0) * ((v : Int) - v0)) ((vh : Int) - v0))

/-- The speed loop of a PWM period (R307); speeds count in the running direction. -/
def State.speedLoop (s : State) (c : Nat) : State :=
  let dir : Int := if s.is (F.AUX_BL_STATUS_DIRN c) then -1 else 1
  let e := satI 32 (dir * ((s.rd (R.LSP_CH_VREF (16 + c))).int - (s.rd (R.AUX_VEL c)).int))
  let x : Int := (s.auxOf c).x
  let x := if s.is (F.AUX_BL_STATUS_I_LIMITED c) then x
    else clampI 0 65535 (x + floorDiv (s.g (F.AUX_BL_SPD_KI c) * e) 65536)
  (s.setAux c { s.auxOf c with x := x.toNat }).setDuty c (floorDiv (s.g (F.AUX_BL_SPD_KP c) * e) 65536 + x)

/-- Does R308 end the running: V_REF 0 or opposite, and the speed below V_HO ÷ 2? -/
def State.bldcEnds (s : State) (c : Nat) : Bool :=
  let dir : Int := if s.is (F.AUX_BL_STATUS_DIRN c) then -1 else 1
  decide (dir * (s.rd (R.LSP_CH_VREF (16 + c))).int ≤ 0) &&
    decide (dir * (s.rd (R.AUX_VEL c)).int < s.g (F.AUX_BL_RAMP_V_V_HO c) * 2048) && (s.auxOf c).hold.isNone

/-- The duty of the next period after a result above I_LIM (R307). -/
def State.limitDuty (s : State) (c : Nat) : State :=
  let d := s.g (F.AUX_BL_DUTY_DUTY c) - s.g (F.AUX_BL_DUTY_DUTY c) / 16
  (s.setAux c { s.auxOf c with x := d, beyond := false }).setDuty c d

/-- The periods without a current result in ramp or closed loop (R307): 8 in a row starve the channel. -/
def State.bldcStarve (s : State) (c : Nat) : State :=
  let ph := s.g (F.AUX_BL_STATUS_PHASE c)
  let n := if (s.auxOf c).got || (ph != 2 && ph != 3) then 0 else (s.auxOf c).starve + 1
  let s := s.setAux c { s.auxOf c with starve := n, got := false }
  if 8 ≤ n then (s.on (F.AUX_BL_STATUS_ADC_STARVED c)).auxFault c else s

/-- BLDC_PWM_PERIOD (R302, R303, R305, R307, R308): a PWM period ends and the next one begins, with the level that the
floating phase's comparator shows SETTLE after its start. [DESIGN CHOICE, safe, log 165] -/
def execBldcPwmPeriod (c : Fin 24) (above : Bool) (s : State) : Res :=
  let ph := s.g (F.AUX_BL_STATUS_PHASE c)
  if !s.auxRuns c 2 || (ph != 1 && ph != 2 && ph != 3) || s.tb.ticks < (s.auxOf c).perTick + s.g (F.AUX_BL_PWM_PERIOD c)
  then .next s
  else
    let s := s.bldcStarve c
    if !s.auxRuns c 2 || s.g (F.AUX_BL_STATUS_PHASE c) != ph then .next s
    else if ph == 3 && s.bldcEnds c then .next ((s.holdPlan c).bldcCoast c)
    else
      let s := if ph == 2 then s.rampStep c else s
      let s := if (s.auxOf c).beyond then s.limitDuty c else if ph == 3 then s.speedLoop c else s
      let s := s.bldcPeriod c
      .next ((s.setAux c { s.auxOf c with read := some above }).readDue c)

/-- BLDC_COAST_END (R305, R306, R308): COAST_TIME has passed; a standing request starts the channel again. -/
def execBldcCoastEnd (c : Fin 24) (s : State) : Res :=
  if !s.auxRuns c 2 || s.g (F.AUX_BL_STATUS_PHASE c) != 4 ||
      s.tb.ticks < (s.auxOf c).phTick + 250000 * s.g (F.AUX_BL_COAST_COAST_TIME c) then .next s
  else .next ((s.p (F.AUX_BL_STATUS_PHASE c) 0).bldcCheck c)

/-- BLDC_RETRY_REFILL (R306): ten seconds in closed loop. -/
def execBldcRetryRefill (c : Fin 24) (s : State) : Res :=
  if s.auxRuns c 2 && s.g (F.AUX_BL_STATUS_PHASE c) == 3 && (s.auxOf c).loopTick + 2500000000 ≤ s.tb.ticks
  then .next (s.p (F.AUX_BL_STATUS_RESTARTS c) 0) else .next s

end Sys2Proof.Machine
end

