-- ==== Sys2Proof/Machine/Samples.lean ====
section
/-! DEFINITION. The commands in which several blocks take part: AXIS_SAMPLE (R120, R144, R175, R226), probe edges (R167,
R168, R249, R277) and the load that ends homing (R250). -/

namespace Sys2Proof.Machine

/-! ### AXIS_SAMPLE -/

/-- Does a sample instant lie T_loop ÷ 2 after an update point of its axis, to within 4 ns (R175)? -/
def State.wellPlaced (s : State) (n t : Nat) : Bool :=
  let loop : Nat := s.tLoop n * 16384
  let d := ((t : Int) - (s.pwmOf n).lastUpdate - (loop / 2 : Nat)) % loop
  decide (d ≤ 4 * 65536) || decide ((loop : Int) - d ≤ 4 * 65536)

/-- An AXIS_SAMPLE reaches an axis that the slot table in force binds (R175, R180). -/
def State.placeSample (s : State) (n t : Nat) (cur pos : Bool) : State :=
  let e := n / 2
  let x := s.aeOf e
  let bound := match x.table with
    | some b => b.slots.any fun f => (f.axes e).contains n
    | none => false
  if !bound then s
  else
    let ok := s.wellPlaced n t
    let same := match x.samps.getD (n % 2) none with
      | some y => if y.s == t then some y else none
      | none => none
    let was := match same with
      | some y => (y.cur, y.pos, y.served)
      | none => (false, false, false)
    let y : AxSamp := ⟨t, s.elapsedAt t, ok, n == s.refAxis e || !x.phaseBad, cur || was.1, pos || was.2.1, was.2.2⟩
    (s.setAe e { x with samps := listSet x.samps (n % 2) (some y) }).when (!ok) fun s =>
      s.on (F.AE_STATUS_SAMPLE_MISPLACED e)

/-- A sample of an axis at the instant `t`: `cur` samples the currents, `pos` the position, and with `pos` Larkspur evaluates
the axis for the instant (R120, R144, R175, R226); capture sessions at loop rate count it (R366). Currents for which no window
opens do not belong to the sample (R121, R180). -/
def State.sampleAxis (s : State) (n t : Nat) (cur pos : Bool) : State :=
  let opens := cur && s.is (F.AX_CS_CFG_EN n) && s.sdRuns (n / 4) && (s.csOf n).win.isNone
  let s := (s.placeSample n t opens pos).capSample n t (s.tLoop n * 16384)
  let s := s.when cur fun s => s.openCurrent n t
  s.when pos fun s => (s.sampleFeedback n t).evalChan n t

/-- AXIS_SAMPLE: argument bit 0 samples the currents, bit 1 the position. -/
def execAxisSample (n : Fin 16) (s : State) : Res :=
  .next (s.act actAxisSample n fun h s =>
    s.sampleAxis n (s.instant h) (getBits h.e.arg 0 1 == 1) (getBits h.e.arg 1 1 == 1))

/-- While the time region is isolated Phlox launches nothing, yet every servo axis runs its configured stop (R32): a RUNNING
axis samples by itself T_loop ÷ 2 after each of its own update points, where R175 has its sample instants, and is evaluated
there. [DESIGN CHOICE, unsafe, log 186] -/
def State.soloSamples (s : State) : State :=
  if !s.isolated regTime then s
  else s.each (List.range 16) fun n s =>
    let t := (s.pwmOf n).lastUpdate + s.tLoop n * 8192
    if s.running n && (s.pwmOf n).updated && decide (s.now ≤ t) && decide (t < s.now + s.tickStep)
    then s.sampleAxis n t true true else s

/-! ### Probes -/

/-- Does the homing sequence of a channel wait for the edge of a probe (R249)? -/
def State.homeProbe (s : State) (k p : Nat) : Bool :=
  let c := s.chanOf k
  let ty := s.g (F.LSP_CH_HOME_CFG_TYPE k)
  s.g (F.LSP_CH_HOME_CFG_PROBE k) == p && !c.homeEdge &&
    (((ty == 3 || ty == 4) && (decide (c.home = .search) || decide (c.home = .creep))) ||
      ((ty == 5 || ty == 6) && decide (c.home = .search)))

/-- The position that a latch of a probe takes at once, the one at the start of the edge's tick, FILT ticks ago, and whether
it is valid; `none` while it waits for the second of its bracketing values (R168). -/
def State.latchPos (s : State) (p : Nat) : Option (Int × Bool) :=
  let tick := s.tb.ticks - s.g (F.GLB_PRB_CFG_FILT p)
  match s.prbAxis p with
  | none =>
    let k := 16 + s.g (F.GLB_PRB_CFG_AUX_CH p)
    some (s.posAt k tick (s.measured k), true)
  | some n =>
    if s.primary n == 2 || (s.primary n == 0 && s.incMode n != 2)
    then some (s.posAt n tick (s.posNow n), s.is (F.AX_FB_STATUS_VALID n))
    else none

/-- PROBE_EDGE (R167 to R169, R249, R277): a counted edge, whose filter has run, of a probe that is armed; the edge fell
`ns` ns into its tick. -/
def execProbeEdge (k : Fin 8) (falling : Bool) (ns : Fin 4) (s : State) : Res :=
  let s := s.pb (F.GLB_PRB_STATUS_INPUT k) (!falling)
  let edge := s.g (F.GLB_PRB_CFG_EDGE k)
  let counts := (edge == 0 && !falling) || (edge == 1 && falling) || edge == 2
  if !counts || !s.is (F.GLB_PRB_CFG_ARM k) then .next s
  else
    let back := 4 * s.g (F.GLB_PRB_CFG_FILT k)
    let t := (s.nowNs + ns - back) * 65536
    let e := s.elapsedAt t
    let s := if s.is (F.GLB_PRB_CFG_CONT k) then s else s.off (F.GLB_PRB_CFG_ARM k)
    let ch := match s.prbAxis k with
      | some n => n
      | none => 16 + s.g (F.GLB_PRB_CFG_AUX_CH k)
    let home := s.homeProbe ch k
    let ty := s.g (F.LSP_CH_HOME_CFG_TYPE ch)
    let s : State := match s.latchPos k with
      | some p =>
        let s := if home then s.setChan ch { s.chanOf ch with homeEdge := true, homeP := p.1 } else s
        s.prbPush k { t := t, e := e, falling := falling, pos := p.1, valid := p.2, extrap := false }
      | none =>
        let s := if home then s.setChan ch { s.chanOf ch with
            homeEdge := true, homeAt := if ty == 3 || ty == 4 then some t else none } else s
        let l : PrbLatch := { t := t, e := e, falling := falling, pos := 0, valid := false, extrap := false }
        s.setPrb k { s.prbOf k with wait := (s.prbOf k).wait ++ [l] }
    .next (s.when (s.is (F.GLB_PRB_CFG_SHAFT k)) fun s => s.regEdge k t)

/-! ### The load that ends homing -/

/-- The position that homing gives to the latest sample (R250). -/
def State.homeTarget (s : State) (k : Nat) : Int :=
  let ty := s.g (F.LSP_CH_HOME_CFG_TYPE k)
  let pos := s.rd64 (R.LSP_CH_HOME_POS_LO k) (R.LSP_CH_HOME_POS_HI k)
  if ty == 11 || ty == 12 then pos + (match (s.fbOf k).ssiPos with
    | some p => p
    | none => 0)
  else s.measured k + pos - (s.chanOf k).homeP

/-- The count of an auxiliary channel is set (R250). -/
def State.loadCount (s : State) (c : Nat) (p : Int) : State :=
  let x := s.auxOf c
  if s.g (F.AUX_CFG_MODE c) == 2
  then (s.setAux c { x with sectors := floorDiv (p * s.sectorsRev c) (2 ^ 32) }).wr64 (R.AUX_POS_LO c) (R.AUX_POS_HI c) p
  else (s.setAux c { x with count := floorDiv (p * s.stepsRev c) (2 ^ 32), left := 0 }).stepPos c

/-- HOME_LOAD (R249, R250): at STANDSTILL after the reference event the position is set. A servo axis loads it with its next
sample, with RES_ACTION 0 until then; an auxiliary channel sets its count at once. [DEDUCED, unsafe, log 163] -/
def execHomeLoad (k : Fin 40) (s : State) : Res :=
  let c := s.chanOf k
  if c.home ≠ .stop ∨ c.homeAt.isSome ∨ !s.is (F.LSP_CH_STATUS_STANDSTILL k) then .next s
  else
    let p := s.homeTarget k
    let ctl := s.rd (axisWord k 0x200)
    let s := s.setChan k { c with home := .load, homeShift := p - s.measured k, homeRes := getBits ctl 1 2 }
    if k.val < 16 then
      let s := s.writeBlock k [(0x200, putBits ctl 1 2 0)]
      .next (wrFbCmd k 1 (s.wr64 (R.AX_FB_LOAD_LO k) (R.AX_FB_LOAD_HI k) p))
    else .next ((s.loadCount (k - 16) p).homeDone k)

end Sys2Proof.Machine
end

