-- ==== Sys2Proof/Machine/Capture.lean ====
section
/-! DEFINITION. Lupin, the capture engine: bindings (R364, R365), sample instants and rows (R366 to R369), a capture (R370
to R376), mask tests (R377, R378), faults (R379) and the read-out (R381). -/

namespace Sys2Proof.Machine

/-! ### Bindings and configuration -/

/-- Is a session idle: IDLE or DONE (R365)? -/
def State.capIdle (s : State) (c : Nat) : Bool := s.capState c == 0 || s.capState c == 3

/-- The bound of INST and SEL of a source, and the owned object that INST names (*Capture sources*). -/
def capSource (src inst : Nat) : Option (Nat × Nat × Option Obj) :=
  match src with
  | 1 => some (16, 7, some (.axis inst))
  | 2 => some (16, 5, some (.axis inst))
  | 3 => some (16, 3, some (.axis inst))
  | 4 => some (16, 3, some (.axis inst))
  | 5 => some (16, 4096, some (.axis inst))
  | 6 => some (4, 2, none)
  | 7 => some (24, 4, some (.aux inst))
  | 8 => some (8, 3, none)
  | 9 => some (168, 4, some (chanObj inst))
  | 10 => some (1, 2, none)
  | _ => none

/-- Is a binding refused (R364)? -/
def State.bindBad (s : State) (k : Nat) (v : Word) : Bool :=
  let own := s.holder (.capChan k)
  match capSource (getBits v 3 4) (getBits v 7 8) with
  | none => true
  | some (insts, sels, obj) =>
    decide (insts ≤ getBits v 7 8) || decide (sels ≤ getBits v 15 12) ||
      decide (s.holder (.session (getBits v 1 2)) ≠ own) || match obj with
        | some o => decide (s.holder o ≠ own)
        | none => false

/-- The session that a channel is bound to. -/
def State.capSession (s : State) (k : Nat) : Nat := s.g (F.CAP_BIND_SESSION k)

/-- Is a channel in a session that is neither IDLE nor DONE? -/
def State.capBusy (s : State) (k : Nat) : Bool := s.is (F.CAP_BIND_EN k) && !s.capIdle (s.capSession k)

/-- A write of CAPk_BIND (R364, R365): a bad binding is refused whether EN is written 1 or 0. [DEDUCED, unsafe, log 97] -/
def wrCapBind (k : Nat) (v : Word) (s : State) : State :=
  let en := getBits v 0 1 == 1
  if s.capBusy k || s.bindBad k v || (en && !s.capIdle (getBits v 1 2))
  then s.on (F.CAP_STATUS_CFG_REFUSED k) else s.merge (R.CAP_BIND k) v

/-- CAP_BIND_WRITE (R364). -/
def execCapBindWrite (rq : Rq) (k : Fin 64) (v : Word) (s : State) : Res :=
  .next (s.write rq (R.CAP_BIND k) (wrCapBind k v))

/-- A write of a configuration or trigger register of a session (R365, R599). -/
def wrCapCfg (c a : Nat) (v : Word) (s : State) : State :=
  let size := a == R.CS_BUF_SIZE c && (getBits v 0 17 == 0 || 65536 < getBits v 0 17)
  if !s.capIdle c || !inRange a v || size then s.on (F.CS_STATUS_CFG_REFUSED c) else s.merge a v

/-- A write of CAPk_STATUS: FAULT clears only while the session is IDLE or DONE (R379). -/
def wrCapStatus (k : Nat) (v : Word) (s : State) : State :=
  s.merge (R.CAP_STATUS k) (if s.capBusy k then putBits v 5 1 0 else v)

/-! ### Envelopes -/

def State.envOf (s : State) (k : Nat) : EnvSt := tabGet (fun _ => EnvSt.reset) s.env k
def State.setEnv (s : State) (k : Nat) (x : EnvSt) : State := { s with env := tabSet (fun _ => EnvSt.reset) s.env k x }

/-- An envelope load fails (R377). -/
def State.envFail (s : State) (k err : Nat) : State := (s.p (F.CAP_STATUS_ENV_STATE k) 3).p (F.CAP_STATUS_ENV_ERR k) err

/-- COMMIT (R377): the handle and N are checked, and the load of that many points from that buffer begins. -/
def State.envCommit (s : State) (k : Nat) : State :=
  let code := (s.holder (.capChan k)).poolCode
  let h := s.rd (R.CAP_ENV_HANDLE k)
  let n := s.g (F.CAP_ENV_N k)
  match s.handleErr code false h with
  | some st => (s.refuseHandle code h st).envFail k 1
  | none =>
    if n < 2 || 4096 < n || classSize (handleClass h) < 8 * n then s.envFail k 2
    else ((s.setEnv k { s.envOf k with n := n, handle := h }).p (F.CAP_STATUS_ENV_STATE k) 1).p (F.CAP_STATUS_ENV_ERR k) 0

/-- A write of CAPk_ENV (R365, R377): refused while the session is busy, when a COMMIT fails with reason 3.
[DEDUCED, unsafe, log 97] -/
def wrCapEnv (k : Nat) (v : Word) (s : State) : State :=
  let commit := getBits v 26 1 == 1
  if s.capBusy k then
    (s.on (F.CAP_STATUS_CFG_REFUSED k)).when commit fun s => s.envFail k 3
  else (s.merge (R.CAP_ENV k) v).when commit fun s => s.envCommit k

/-- A write of CAPk_ENV_HANDLE (R365). -/
def wrCapHandle (k : Nat) (v : Word) (s : State) : State :=
  if s.capBusy k then s.on (F.CAP_STATUS_CFG_REFUSED k) else s.wr (R.CAP_ENV_HANDLE k) v

/-- ENV_COMMIT (R377): a write of CAPk_ENV that leaves its other fields and sets COMMIT. -/
def execEnvCommit (rq : Rq) (k : Fin 64) (s : State) : Res :=
  .next (s.write rq (R.CAP_ENV k) fun s => wrCapEnv k (putBits (s.rd (R.CAP_ENV k)) 26 1 1) s)

/-- The points of an envelope from the bytes of its buffer. -/
def envPoints : Nat → List Byte → List EnvPoint
  | 0, _ => []
  | n + 1, l => ⟨signed 32 (ofBytesLE (l.take 4)), signed 32 (ofBytesLE ((l.drop 4).take 4))⟩ :: envPoints n (l.drop 8)

/-- ENV_LOAD_DONE (R377): the load ends; `ok` is false for a storage error. A poisoned word of the buffer is one too. -/
def execEnvLoadDone (k : Fin 64) (ok : Bool) (s : State) : Res :=
  if s.g (F.CAP_STATUS_ENV_STATE k) != 1 then .next s
  else
    let n := (s.envOf k).n
    let a := s.bufAddr (s.envOf k).handle
    if !ok || (s.ipmPoison a (8 * n)).isSome then .next (s.envFail k 4)
    else
      let l := s.ipmBytes (s.keyOf (s.holder (.capChan k)).poolCode) a (8 * n)
      .next ((s.setEnv k { s.envOf k with points := envPoints n l }).p (F.CAP_STATUS_ENV_STATE k) 2)

/-! ### Arming -/

/-- The channels of a session, in ascending number (R369). -/
def State.capChans (s : State) (c : Nat) : List Nat :=
  (List.range 64).filter fun k => s.is (F.CAP_BIND_EN k) && s.capSession k == c

/-- The size of a row of n channels (R369). -/
def rowSize (n : Nat) : Nat := 8 + 4 * n

/-- First page and number of pages of a session's buffer. -/
def State.capPages (s : State) (c : Nat) : Nat × Nat := (s.g (F.CS_BUF_BASE_PAGES c), s.g (F.CS_BUF_SIZE_PAGES c))

/-- The byte address of the buffer of a session's capture in the in-package memory: that of CSn_BUF_BASE at the ARM. -/
def State.capBase (s : State) (c : Nat) : Nat := privateSize + 4096 * (s.capOf c).base

/-- The key of a session's buffer: its owner's (R346, R369). -/
def State.capKey (s : State) (c : Nat) : Nat := s.keyOf (s.holder (.session c)).poolCode

/-- D of a session with n channels (R369). -/
def State.capDepth (s : State) (c n : Nat) : Nat := (4096 * (s.capPages c).2 - 64) / rowSize n

/-- The reason for which ARM is refused, 0 for none (R370). -/
def State.armErr (s : State) (c : Nat) : Nat :=
  let l := s.capChans c
  let p := s.capPages c
  let overlaps := (List.range 4).any fun d => d != c && s.capState d != 0 &&
    decide (p.1 < (s.capOf d).base + (s.capOf d).size) && decide ((s.capOf d).base < p.1 + p.2)
  let badTrg := (List.range 8).any fun i =>
    let kind := s.g (F.CS_TRG_CFG_KIND c i)
    1 ≤ kind && kind ≤ 4 && !l.contains (s.g (F.CS_TRG_CFG_CH c i))
  let badMask := l.any fun k => s.is (F.CAP_ENV_MASK_EN k) && s.g (F.CAP_STATUS_ENV_STATE k) != 2
  if l.isEmpty then 1
  else if 4096 * s.g F.MEM_LAYOUT_CAP_AREA < p.1 + p.2 || overlaps then 2
  else if s.capDepth c l.length < 2 then 3
  else if badTrg || badMask then 4
  else 0

/-- ARM (R370, R371). -/
def State.capArm (s : State) (c : Nat) : State :=
  if !s.capIdle c then s
  else
    let e := s.armErr c
    let s := s.p (F.CS_STATUS_ARM_ERR c) e
    if e != 0 then s.on (F.CS_STATUS_CFG_REFUSED c)
    else
      let l := s.capChans c
      let d := s.capDepth c l.length
      let roll := s.is (F.CS_CFG_MODE c)
      let want := (s.rd (R.CS_POST c)).toNat
      let post := min want (d - 1)
      let s := s.setCap c { CapSt.reset with
        chans := l, depth := d, post := post, pre := min (s.rd (R.CS_PRE_MIN c)).toNat (d - 1 - post),
        cfg := s.rd (R.CS_CFG c), base := (s.capPages c).1, size := (s.capPages c).2 }
      let s := (s.wr (R.CS_DEPTH c) (BitVec.ofNat 32 d)).wr (R.CS_ROWS c) 0
      let s := (s.wr (R.CS_TRIG c) 0xF000).wr (R.CS_TRIG_STAMP c) 0
      let s := (s.pb (F.CS_STATUS_CLIPPED c) (!roll && decide (d - 1 < want))).off (F.CS_STATUS_MASK_STOP c)
      let s := (s.off (F.CS_STATUS_STOPPED c)).p (F.CS_STATUS_UNLOAD_ERR c) 0
      s.p (F.CS_STATUS_STATE c) (if roll then 5 else 1)

/-! ### The end of a capture -/

/-- The rows held by a session. -/
def CapSt.rows (x : CapSt) : Nat := min x.total x.depth

/-- The index of a row, counted from the oldest one held; none when it has been overwritten. -/
def CapSt.index (x : CapSt) (r : Option Nat) : Nat :=
  match r with
  | some n => if n + x.rows < x.total then 0xFFFFFFFF else n + x.rows - x.total
  | none => 0xFFFFFFFF

/-- The index of the first row with FAULTED among those held: every row from the first one on carries it (R379). -/
def CapSt.faultIndex (x : CapSt) : Nat :=
  match x.fault with
  | some n => n + x.rows - x.total
  | none => 0xFFFFFFFF

/-- The header of a capture (*Capture header*). -/
def State.capHeader (s : State) (c : Nat) : List Byte :=
  let x := s.capOf c
  let first := x.times.getD (x.rows - 1) 0 / 65536
  let bits := bit (s.is (F.CS_STATUS_CLIPPED c)) + 2 * bit (s.is (F.CS_STATUS_MASK_STOP c)) +
    4 * bit (s.is (F.CS_STATUS_STOPPED c)) + 8 * bit x.lossy + 16 * bit (getBits x.cfg 0 1 == 1)
  let prim := s.g (F.CS_TRIG_PRIMARY c)
  bytesLE 2 1 ++ bytesLE 1 c ++ bytesLE 1 x.chans.length ++ bytesLE 4 x.rows ++ bytesLE 4 (x.index x.trig) ++
    bytesLE 2 (s.g (F.CS_TRIG_HITS c)) ++ bytesLE 1 (if prim == 15 then 255 else prim) ++ bytesLE 1 bits ++
    bytesLE 2 (first / 1000000000 / 2 ^ 32) ++ bytesLE 2 0 ++ bytesLE 4 (first / 1000000000) ++
    bytesLE 4 (first % 1000000000) ++ bytesLE 4 (s.rd (R.CS_TRIG_STAMP c)).toNat ++ bytesLE 4 (rowSize x.chans.length) ++
    bytesLE 4 (x.index x.mask) ++ bytesLE 4 x.faultIndex ++
    bytesLE 8 (x.chans.foldl (fun a k => a + 2 ^ k) 0) ++ bytesLE 4 x.cfg.toNat ++ bytesLE 8 0

/-- Why an unload is refused, 0 for none (R381). -/
def State.unloadErr (s : State) (c : Nat) : Nat :=
  let h := s.rd (R.CS_OUT_HANDLE c)
  let x := s.capOf c
  if decide (s.holder (.dma (s.g (F.CS_CFG_DMA c))) ≠ .lupin) then 1
  else if (s.handleErr (s.holder (.session c)).poolCode false h).isSome ||
      classSize (handleClass h) < (s.rd (R.CS_OUT_OFS c)).toNat + 64 + x.rows * rowSize x.chans.length then 2
  else 0

/-- An unload begins or is refused (R381). -/
def State.capUnload (s : State) (c : Nat) : State :=
  if s.capState c != 3 then s
  else
    let e := s.unloadErr c
    let code := (s.holder (.session c)).poolCode
    let h := s.rd (R.CS_OUT_HANDLE c)
    let s := s.when (e == 2) fun s => match s.handleErr code false h with
      | some st => s.refuseHandle code h st
      | none => s
    (s.p (F.CS_STATUS_UNLOAD_ERR c) e).when (e == 0) fun s => s.p (F.CS_STATUS_STATE c) 4

/-- A session becomes DONE (R375, R376): the header is written, the event raised, and with AUTO_UNLOAD the unload
begins. [DEDUCED, unsafe, log 97] -/
def State.capDone (s : State) (c : Nat) : State :=
  let s := s.setCap c { s.capOf c with latches := [], hits := [] }
  let s := (s.ipmPut (s.capKey c) (s.capBase c) (s.capHeader c)).p (F.CS_STATUS_STATE c) 3
  (s.raiseSt (evSession c) (R.CS_STATUS c)).when (s.is (F.CS_CFG_AUTO_UNLOAD c)) fun s => s.capUnload c

/-- STOP (R375, R376): the capture ends with the last row latched. -/
def State.capStop (s : State) (c : Nat) : State :=
  if s.capRuns c then (s.on (F.CS_STATUS_STOPPED c)).capDone c else s

/-- FORCE (R373): every condition of KIND 7 hits the next row. -/
def State.capForce (s : State) (c : Nat) : State :=
  s.capHit c (s.tb.ticks * 262144) fun i => s.g (F.CS_TRG_CFG_KIND c i) == 7

/-- A write of CSn_CMD: STOP before UNLOAD, and ARM last. -/
def wrCapCmd (c : Nat) (v : Word) (s : State) : State :=
  let s := s.when (getBits v 2 1 == 1) fun s => s.capForce c
  let s := s.when (getBits v 1 1 == 1) fun s => s.capStop c
  let s := s.when (getBits v 3 1 == 1) fun s => s.capUnload c
  s.when (getBits v 0 1 == 1) fun s => s.capArm c

/-- CAPTURE_ARM (R370). -/
def execCaptureArm (rq : Rq) (c : Fin 4) (s : State) : Res := .next (s.write rq (R.CS_CMD c) (wrCapCmd c 1))

/-- CAPTURE_STOP (R375). -/
def execCaptureStop (rq : Rq) (c : Fin 4) (s : State) : Res := .next (s.write rq (R.CS_CMD c) (wrCapCmd c 2))

/-- CAPTURE_FORCE (R373). -/
def execCaptureForce (rq : Rq) (c : Fin 4) (s : State) : Res := .next (s.write rq (R.CS_CMD c) (wrCapCmd c 4))

/-- CAPTURE_UNLOAD (R381). -/
def execCaptureUnload (rq : Rq) (c : Fin 4) (s : State) : Res := .next (s.write rq (R.CS_CMD c) (wrCapCmd c 8))

/-- CAPTURE_SAMPLE (R366): a session with SRC 1 latches at the launch time. -/
def execCaptureSample (c : Fin 4) (s : State) : Res :=
  .next (s.act actCaptureSample c fun h s =>
    if s.capRuns c && s.g (F.CS_CFG_SRC c) == 1
    then s.capLatch c (s.elapsedAt (s.instant h)) (s.instant h) else s)

/-- CAPTURE_TRIGGER (R373, KIND 6). -/
def execCaptureTrigger (c : Fin 4) (s : State) : Res :=
  .next (s.act actCaptureTrigger c fun h s =>
    s.capHit c (s.elapsedAt (s.instant h)) fun i => s.g (F.CS_TRG_CFG_KIND c i) == 6)

/-! ### Rows -/

/-- The levels of field channels `a` to `a + n − 1`, the first in bit 0. -/
def State.levels (s : State) (a n : Nat) : Nat :=
  (List.range n).foldl (fun x i => x + 2 ^ i * s.g (F.FIO_CH_STATUS_LEVEL (a + i))) 0

/-- The word that a source gives (*Capture sources*) for a row with a stamp, narrower values sign-extended (R365); a
shaft without a segment gives no value, and its word is open. [DEDUCED, unsafe, log 167] -/
def State.capWord (s : State) (src i sel stamp : Nat) : Word :=
  let sx := fun (f : Fld) => Word.ofI (s.gi f)
  match src with
  | 1 => match sel with
    | 0 => sx (F.AX_CS_RAW_A_Q i)
    | 1 => sx (F.AX_CS_RAW_B_Q i)
    | 2 => s.rd (R.AX_CS_IU i)
    | 3 => s.rd (R.AX_CS_IV i)
    | 4 => s.rd (R.AX_CS_IW i)
    | 5 => sx (F.AX_CS_FAST_A_Q2 i)
    | _ => sx (F.AX_CS_FAST_B_Q2 i)
  | 2 => s.rd (match sel with
    | 0 => R.AX_FB_POS_LO i
    | 1 => R.AX_FB_POS_HI i
    | 2 => R.AX_FB_VEL i
    | 3 => R.AX_FB_POS2_LO i
    | _ => R.AX_FB_POS2_HI i)
  | 3 => Word.ofI (signed 24 ((s.pwmOf i).cmp.getD sel 0))
  | 4 => match sel with
    | 0 => s.rd (R.AX_TLM_TEMP_UV i)
    | 1 => sx (F.AX_TLM_TEMP_W_TEMP_W i)
    | _ => s.rd (R.AX_TLM_GD_VDC i)
  | 5 => s.rd (axisWord i (4 * sel))
  | 6 => if sel == 0 then sx (F.GLB_DL_FREE_Q i) else sx (F.GLB_DL_SAMPLE_Q i)
  | 7 => match sel with
    | 0 => sx (F.AUX_ADC_RES_RESULT i)
    | 1 => s.rd (R.AUX_POS_LO i)
    | 2 => s.rd (R.AUX_POS_HI i)
    | _ => s.rd (R.AUX_VEL i)
  | 8 => match s.master i stamp with
    | none => s.freshWord
    | some m =>
      let p := unsigned 64 (fromInternal m.1)
      if sel == 0 then BitVec.ofNat 32 p
      else if sel == 1 then BitVec.ofNat 32 (p / 2 ^ 32)
      else Word.ofI (satI 32 (fromInternal m.2.1))
  | 9 => s.rd (match sel with
    | 0 => R.LSP_CH_PREF_LO i
    | 1 => R.LSP_CH_PREF_HI i
    | 2 => R.LSP_CH_VREF i
    | _ => R.LSP_CH_AREF i)
  | 10 => if sel == 0 then BitVec.ofNat 32 (s.levels 0 32) else BitVec.ofNat 32 (s.levels 32 24 + 2 ^ 24 * s.levels 56 8)
  | _ => 0

/-- The values of a row, in the channels' order; a faulted channel gives 0 (R379). -/
def State.rowValues (s : State) (stamp : Nat) : List Nat → State × List Word
  | [] => (s, [])
  | k :: t =>
    let v := if s.is (F.CAP_STATUS_FAULT k) then 0
      else s.capWord (s.g (F.CAP_BIND_SRC k)) (s.g (F.CAP_BIND_INST k)) (s.g (F.CAP_BIND_SEL k)) stamp
    let r := State.rowValues s.took stamp t
    (r.1, v :: r.2)

/-- Does a condition of kind 1 to 4 hit a row (R373)? -/
def State.condHit (s : State) (c i : Nat) (chans : List Nat) (prev vals : List Int) : Bool :=
  let at_ := chans.idxOf (s.g (F.CS_TRG_CFG_CH c i))
  let level := (s.rd (R.CS_TRG_LEVEL c i)).int
  match vals[at_]? with
  | none => false
  | some v => match s.g (F.CS_TRG_CFG_KIND c i) with
    | 1 => decide (level < v)
    | 2 => decide (v < level)
    | 3 => match prev[at_]? with
      | some p => decide (p < level) && decide (level ≤ v)
      | none => false
    | 4 => match prev[at_]? with
      | some p => decide (level < p) && decide (v ≤ level)
      | none => false
    | _ => false

/-- The bounds of a channel's envelope for a row, if the row is tested (R378): `j` counts the rows from the trigger row,
none before it. -/
def State.envBounds (s : State) (k stamp : Nat) (j : Option Nat) : Option (Int × Int) :=
  let e := (s.envOf k).points
  let n := e.length
  if !s.is (F.CAP_ENV_MASK_EN k) then none
  else if !s.is (F.CAP_ENV_ALIGN k) then
    match j with
    | none => none
    | some j => (e[j / (s.g (F.CAP_ENV_STEP k) + 1)]?).map fun p => (p.lo, p.hi)
  else
    let h := s.g (F.CAP_ENV_SHAFT k)
    let st := s.g (F.LSH_SH_STATUS_STATE h)
    match s.master h stamp with
    | none => none
    | some m =>
      if st != 1 && st != 2 then none
      else
        let x := unsigned 48 m.1 * n
        let mix := fun (a b : Int) => a + floorDiv ((b - a) * (x % 2 ^ 48 : Nat)) (2 ^ 48)
        match e[x / 2 ^ 48]?, e[(x / 2 ^ 48 + 1) % n]? with
        | some a, some b => some (mix a.lo b.lo, mix a.hi b.hi)
        | _, _ => none

/-- The channels whose mask fails on a row (R378). -/
def State.maskFails (s : State) (stamp : Nat) (j : Option Nat) (chans : List Nat) (vals : List Int) : List Nat :=
  (chans.zip vals).filterMap fun x => match s.envBounds x.1 stamp j with
    | some b => if x.2 < b.1 ∨ b.2 < x.2 then some x.1 else none
    | none => none

/-- Mask failures set VIOLATED and raise the event (R378). -/
def State.violate (s : State) (c : Nat) (l : List Nat) : State :=
  let s := s.each l fun k s => s.on (F.CAP_STATUS_VIOLATED k)
  s.when (!l.isEmpty) fun s => s.raiseSt (evSession c + 2) (R.CS_STATUS c)

/-- The bytes per second of the running sessions, from their last two latch instants (R368). -/
def State.capLoad (s : State) : Nat :=
  (List.range 4).foldl (fun a c =>
    let x := s.capOf c
    a + if s.capRuns c && x.gap != 0 then rowSize x.chans.length * secUnits / x.gap else 0) 0

/-- The trigger point (R374). -/
def State.capTrigger (s : State) (c hits stamp : Nat) : State :=
  let low := ((List.range 9).find? fun i => testBit hits i).getD 15
  ((s.p (F.CS_TRIG_HITS c) hits).p (F.CS_TRIG_PRIMARY c) low).wr (R.CS_TRIG_STAMP c) (shortOf stamp)

/-- A row is stored (R369, *Capture row*). -/
def State.storeRow (s : State) (c stamp : Nat) (trig viol : Bool) (vals : List Word) : State :=
  let x := s.capOf c
  let faulted := x.chans.any fun k => s.is (F.CAP_STATUS_FAULT k)
  let flags := bit trig + 2 * bit viol + 4 * bit faulted + 8 * bit (x.lost != 0) + 65536 * min x.lost 65535
  let size := rowSize x.chans.length
  let bytes := bytesLE 4 (shortOf stamp).toNat ++ bytesLE 4 flags ++ vals.flatMap fun v => bytesLE 4 v.toNat
  let s := s.ipmPut (s.capKey c) (s.capBase c + 64 + x.total % x.depth * size) bytes
  let s := s.setCap c { x with
    total := x.total + 1, times := (stamp :: x.times).take x.depth, lost := 0, prev := vals.map Word.int,
    fault := if faulted && x.fault.isNone then some x.total else x.fault }
  s.wr (R.CS_ROWS c) (BitVec.ofNat 32 (min (x.total + 1) x.depth))

/-- A row of a session that waits for its trigger (R372 to R375). -/
def State.preRow (s : State) (c stamp : Nat) (hits0 : Nat) (vals : List Word) : State :=
  let x := s.capOf c
  let ints := vals.map Word.int
  let ok := decide (x.pre ≤ x.total)
  let free := if ok then s.maskFails stamp none x.chans ints else []
  let hit := ok && (hits0 != 0 || !free.isEmpty)
  let bad := if hit then s.maskFails stamp (some 0) x.chans ints else []
  let hits := hits0 + if bad.isEmpty then 0 else 256
  let s := s.storeRow c stamp hit (!bad.isEmpty) vals
  if !hit then s
  else
    let s := (s.capTrigger c hits stamp).violate c bad
    let s := s.setCap c { s.capOf c with
      trig := some x.total, after := 0, mask := if bad.isEmpty then none else some x.total }
    if !bad.isEmpty || x.post == 0 then s.capDone c else s.p (F.CS_STATUS_STATE c) 2

/-- The hits of a row, condition 8 among them (R373). -/
def hitCount (hits : Nat) : Nat := ((List.range 9).filter fun i => testBit hits i).length

/-- A row after the trigger row (R375): each hit counts. -/
def State.postRow (s : State) (c stamp : Nat) (hits0 : Nat) (vals : List Word) : State :=
  let x := s.capOf c
  let j := x.after + 1
  let bad := s.maskFails stamp (some j) x.chans (vals.map Word.int)
  let hits := hits0 + if bad.isEmpty then 0 else 256
  let s := (s.storeRow c stamp false (!bad.isEmpty) vals).count (F.CS_COUNT_EXTRA_TRIG c) (hitCount hits)
  let s := (s.setCap c { s.capOf c with after := j, mask := if bad.isEmpty then none else some x.total }).violate c bad
  if !bad.isEmpty then (s.on (F.CS_STATUS_MASK_STOP c)).capDone c
  else if x.post ≤ j then s.capDone c else s

/-- A row of roll mode (R376). [DEDUCED, unsafe, log 97] -/
def State.rollRow (s : State) (c stamp : Nat) (hits0 : Nat) (vals : List Word) : State :=
  let x := s.capOf c
  let ints := vals.map Word.int
  let first := hits0 != 0 || !(s.maskFails stamp none x.chans ints).isEmpty
  let j := match x.trig with
    | some n => some (x.total - n)
    | none => if first then some 0 else none
  let bad := s.maskFails stamp j x.chans ints
  let hits := hits0 + if bad.isEmpty then 0 else 256
  let s := (s.storeRow c stamp (hits != 0) (!bad.isEmpty) vals).violate c bad
  if hits == 0 then s
  else if x.trig.isSome then s.count (F.CS_COUNT_EXTRA_TRIG c) (hitCount hits)
  else (s.capTrigger c hits stamp).setCap c { s.capOf c with trig := some x.total }

/-- CAPTURE_ROW_LATCH (R366 to R378): the session's first latch instant that has come takes one row.
[DEDUCED, safe, log 98] -/
def execCaptureRowLatch (c : Fin 4) (s : State) : Res :=
  let x := s.capOf c
  match x.latches with
  | [] => .next s
  | (t, stamp) :: rest =>
    if !s.capRuns c || (s.tb.ticks + 1) * 262144 ≤ t then .next s
    else
      let s := s.setCap c { x with latches := rest }
      let near := match x.last with
        | some l => decide (t < l + 1000 * 65536)
        | none => false
      if near then .next (s.count (F.CS_COUNT_SKIPPED c) 1)
      else
        let s := s.setCap c { s.capOf c with last := some t, gap := match x.last with
          | some l => t - l
          | none => 0 }
        let beyond := 256000000 < s.capLoad
        let lose := beyond && s.freshBool
        let s := if beyond then s.took else s
        if lose then
          .next ((s.setCap c { s.capOf c with lost := (s.capOf c).lost + 1, lossy := true }).on (F.CS_STATUS_GAP c))
        else
          let r := s.rowValues stamp x.chans
          let s := r.1.setCap c { r.1.capOf c with hits := x.hits.filter fun e => t < e.1 }
          let hits := (List.range 8).foldl (fun h i =>
            if s.condHit c i x.chans x.prev (r.2.map Word.int) then setBit h i true else h) (x.hitsAt t)
          match s.capState c with
          | 1 => .next (s.preRow c stamp hits r.2)
          | 2 => .next (s.postRow c stamp hits r.2)
          | _ => .next (s.rollRow c stamp hits r.2)

/-! ### Read-out and faults -/

/-- The rows held by a session as bytes, oldest first. -/
def State.capBytes (s : State) (c : Nat) : List Byte :=
  let x := s.capOf c
  let size := rowSize x.chans.length
  let first := if x.total ≤ x.depth then 0 else x.total % x.depth
  (List.range x.rows).flatMap fun i =>
    s.ipmBytes (s.capKey c) (s.capBase c + 64 + (first + i) % x.depth * size) size

/-- UNLOAD_DONE (R381): the unload completes, or its DMA channel halts with a reason (R358). [DEDUCED, unsafe, log 203] -/
def execUnloadDone (c : Fin 4) (halt : Option (Fin 16 × BitVec 64)) (s : State) : Res :=
  if s.capState c != 4 || s.clk.memWait then .next s
  else
    let n := s.g (F.CS_CFG_DMA c)
    let x := s.capOf c
    let bad := s.ipmPoison (s.capBase c) (64 + x.rows * rowSize x.chans.length)
    let fail := match halt, bad with
      | some (r, a), _ => some (r.val, a.toNat)
      | none, some a => some (3, a)
      | none, none => none
    let s := s.p (F.CS_STATUS_STATE c) 3
    match fail with
    | some (r, a) => .next ((s.dmaHaltAt n r false a).p (F.CS_STATUS_UNLOAD_ERR c) 3)
    | none =>
      let l := s.ipmBytes (s.capKey c) (s.capBase c) 64 ++ s.capBytes c
      let s := s.ipmPut (s.capKey c) (s.bufAddr (s.rd (R.CS_OUT_HANDLE c)) + (s.rd (R.CS_OUT_OFS c)).toNat) l
      let s := (s.wr (R.CS_UNLOAD_CRC c) (crc32c l)).on (F.CS_STATUS_UNLOADED c)
      .next (s.raiseSt (evSession c + 1) (R.CS_STATUS c))

/-- A capture-channel cell fault (R17, R379). -/
def State.capFault (s : State) (k : Nat) : State :=
  if s.is (F.CAP_STATUS_FAULT k) then s
  else (s.on (F.CAP_STATUS_FAULT k)).raiseSt (evSession (s.capSession k) + 3) (R.CAP_STATUS k)

/-- CAPTURE_CHANNEL_FAULT (R379). -/
def execCaptureChannelFault (k : Fin 64) (s : State) : Res := .next (s.capFault k)

end Sys2Proof.Machine
end

