-- ==== Sys2Proof/Machine/Ether.lean ====
section
/-! DEFINITION. Plant Ethernet: ports and links (R383 to R385), reception and forwarding (R386 to R389), gate control lists
and preemption (R390 to R395), transmit slots (R396 to R401), MACsec and strangers (R402 to R405), faults (R406). -/

namespace Sys2Proof.Machine

/-- Nanoseconds in units of 2^-16 ns. -/
def nsU (n : Nat) : Nat := n * 65536

/-! ### Ports -/

/-- Does a port carry frames: link up, and no fault (R406)? ETHI has no link of its own. -/
def State.portUp (s : State) (p : Nat) : Bool := (p == 2 || s.is (F.ETH_STATUS_LINK p)) && !(s.ethOf p).fault

/-- The rate of a port in Mbit/s. [DESIGN CHOICE, safe, log 99] -/
def State.rate (s : State) (p : Nat) : Nat :=
  if p == 2 then atLeast1 Config.ethiRate else [100, 1000, 2500, 1000].getD (s.g (F.ETH_STATUS_RATE p)) 1000

/-- Does a port protect its frames (R402)? -/
def State.macsec (s : State) (p : Nat) : Bool := p < 2 && s.is (F.ETH_CFG_MACSEC_EN p)

/-- The bytes of a frame on the wire, destination address through FCS, with SecTAG and ICV where they apply. -/
def State.wireLen (s : State) (p : Nat) (f : TxFrame) : Nat :=
  f.bytes.length + 4 + if s.macsec p then (if s.is (F.MSEC_CFG_SCI_EXPLICIT p) then 32 else 24) else 0

/-- The time that bytes take at a port, preamble included, in units of 2^-16 ns. [DEDUCED, unsafe, log 102] -/
def State.wireTime (s : State) (p bytes : Nat) : Nat := nsU ((bytes + 8) * 8000) / s.rate p

/-! ### Gates and preemption -/

/-- Is the list of a port in force? -/
def State.operOn (s : State) (p : Nat) : Bool := s.is (F.TSN_STATUS_OPER_ACTIVE p)

/-- Does an entry of the oper list open the gate of a class? -/
def State.opens (s : State) (p i tc : Nat) : Bool := testBit (s.g (F.TSN_OPER_CTL_GATES p i)) tc

/-- Is the gate of a class open (R393)? -/
def State.gateOpen (s : State) (p tc : Nat) : Bool := !s.operOn p || s.opens p (s.ethOf p).idx tc

/-- The interval of an entry of the oper list within the cycle, in ns (R392): the last entry holds to the cycle's end, and
the list is cut there. -/
def State.entryTime (s : State) (p i : Nat) : Nat :=
  let start := (List.range i).foldl (fun a j => a + (s.rd (R.TSN_OPER_INTERVAL p j)).toNat) 0
  let left := (s.ethOf p).cycle - start
  if i + 1 < s.g (F.TSN_STATUS_OPER_LEN p) then min (s.rd (R.TSN_OPER_INTERVAL p i)).toNat left else left

/-- When the gate of a class next closes, walking the entries after the one in force; none if it never does. -/
def State.closes (s : State) (p tc : Nat) : Nat → Nat → Nat → Option Nat
  | 0, _, _ => none
  | n + 1, i, t =>
    let i := if i + 1 < s.g (F.TSN_STATUS_OPER_LEN p) then i + 1 else 0
    if s.entryTime p i != 0 && !s.opens p i tc then some t else s.closes p tc n i (t + nsU (s.entryTime p i))

/-- The longest window of a class, in ns, over a walk of entries; `run` is the window so far. -/
def State.windows (s : State) (p tc : Nat) : Nat → Nat → Nat → Nat → Nat
  | 0, _, _, best => best
  | n + 1, i, run, best =>
    let run := if s.opens p i tc then run + s.entryTime p i else 0
    s.windows p tc n (if i + 1 < s.g (F.TSN_STATUS_OPER_LEN p) then i + 1 else 0) run (max best run)

/-- Is preemption active (R395)? -/
def State.preempts (s : State) (p : Nat) : Bool :=
  s.is (F.TSN_PREEMPT_EN p) && (!s.is (F.TSN_PREEMPT_VERIFY_EN p) || (p < 2 && s.g (F.ETH_STATUS_VERIFY p) == 2))

/-- Is a class preemptable now? -/
def State.preemptable (s : State) (p tc : Nat) : Bool := s.preempts p && testBit (s.g (F.TSN_PREEMPT_PREEMPTABLE p)) tc

/-- The time for which a gate must stay open for a frame (R393): all of it, or one fragment of a preemptable one. -/
def State.needs (s : State) (p : Nat) (f : TxFrame) : Nat :=
  let len := s.wireLen p f
  s.wireTime p (if s.preemptable p f.tc then min len (64 * (1 + s.g (F.TSN_PREEMPT_ADD_FRAG p))) else len)

/-- When the gate of a class first closes on a list that starts at a time, in ns; none if no entry before the end of the cycle
closes it. -/
def listCloses (tc stop : Nat) : List (Word × Word) → Nat → Option Nat
  | [], _ => none
  | e :: l, t =>
    if stop ≤ t then none
    else if !testBit (getBits e.1 0 8) tc then some t else listCloses tc stop l (t + e.2.toNat)

/-- When the gate of a class next closes, on the list in force or on the one that takes over at CT (R391 to R393), in units of
2^-16 ns. -/
def State.gateCloses (s : State) (p tc : Nat) : Option Nat :=
  let x := s.ethOf p
  let old := if s.operOn p then s.closes p tc (s.g (F.TSN_STATUS_OPER_LEN p)) x.idx (nsU x.entryEnd) else none
  match x.ct with
  | none => old
  | some ct =>
    if old.any fun t => decide (t < nsU ct) then old else (listCloses tc (ct + x.nextCycle) x.next ct).map nsU

/-- Does a transmission of that length, in units of 2^-16 ns, complete before the gate of a class next closes (R393)? -/
def State.fitsFor (s : State) (p tc d : Nat) : Bool :=
  match s.gateCloses p tc with
  | some t => decide (s.now + d ≤ t)
  | none => true

/-- Does a frame complete before its gate closes (R393)? -/
def State.fits (s : State) (p : Nat) (f : TxFrame) : Bool := s.fitsFor p f.tc (s.needs p f)

/-- May the held remainder of a preempted frame resume: port, gate and MAC open, and its next fragment completes before the
gate closes (R393, R395)? -/
def State.resumable (s : State) (p : Nat) (f : TxFrame) : Bool :=
  s.portUp p && s.gateOpen p f.tc && !(s.ethOf p).macHold &&
    s.fitsFor p f.tc (min (s.needs p f) (s.wireTime p (s.wireLen p f) - f.sent))

/-- Does a frame's transmission time exceed every window of its class (R393)? A class that is always open has no end of its window. -/
def State.tooLong (s : State) (p : Nat) (f : TxFrame) : Bool :=
  let n := s.g (F.TSN_STATUS_OPER_LEN p)
  let always := (List.range n).all fun i => s.opens p i f.tc || s.entryTime p i == 0
  s.operOn p && !always && decide (nsU (s.windows p f.tc (2 * n) 0 0 0) < s.wireTime p (s.wireLen p f))

/-- May a frame of a class start on an idle port now: gate open, and no hold of the MAC against a preemptable one? -/
def State.startable (s : State) (p : Nat) (f : TxFrame) : Bool :=
  s.portUp p && s.gateOpen p f.tc && s.fits p f && !(s.preemptable p f.tc && (s.ethOf p).macHold)

/-! ### Sending -/

/-- Can the port protect a frame (R404)? -/
def State.canProtect (s : State) (p : Nat) : Bool :=
  !s.macsec p || ((s.ethOf p).txAn.isSome && (s.ethOf p).txPn < 0xFFFFFFFF)

/-- A dropped frame counts in DROP_FULL of its port; ETHI has no counters, and a frame dropped at its queue counts at the port
that received it. [DEDUCED, unsafe, log 102] -/
def State.countDrop (s : State) (p via : Nat) : State :=
  if p < 2 then s.count (F.ETH_COUNT_A_LO p) 1 else if via < 2 then s.count (F.ETH_COUNT_A_LO via) 1 else s

/-! #### The transparent clock -/

/-- Where the PTP message of a frame begins: after the tag, and behind the IPv4 and UDP headers (R49, R387); with it the place
of the UDP checksum. -/
def ptpAt (l : List Byte) : Option (Nat × Option Nat) :=
  let o := if ofBytesLE ((l.drop 12).take 2).reverse == 0x8100 then 16 else 12
  let t := ofBytesLE ((l.drop o).take 2).reverse
  if t == 0x88F7 then some (o + 2, none)
  else if t == 0x0800 then
    let ip := 4 * (ofBytesLE ((l.drop (o + 2)).take 1) % 16)
    some (o + 2 + ip + 8, some (o + 2 + ip + 6))
  else none

/-- The low nibble of a PTP message's first byte: 0 Sync, 1 Delay_Req, 2 Pdelay_Req, 3 Pdelay_Resp are the event
messages. -/
def ptpType (l : List Byte) (i : Nat) : Nat := ofBytesLE ((l.drop i).take 1) % 16

/-- A list with bytes replaced from an index on. -/
def patch (l : List Byte) (i : Nat) (b : List Byte) : List Byte := l.take i ++ b ++ l.drop (i + b.length)

/-- The ones' complement sum of a list of bytes as big-endian 16-bit words. -/
def onesSum : List Byte → Nat
  | a :: b :: t => a.toNat * 256 + b.toNat + onesSum t
  | [a] => a.toNat * 256
  | [] => 0

/-- A sum folded to 16 bits. -/
def fold16 (x : Nat) : Nat :=
  let y := x % 65536 + x / 65536
  y % 65536 + y / 65536

/-- The correction field of the message at an index grows by a time in units of 2^-16 ns, and a UDP checksum that is in use
follows. -/
def addCorrection (l : List Byte) (i : Nat) (sum : Option Nat) (d : Int) : List Byte :=
  let old := (l.drop (i + 8)).take 8
  let new := bytesBE 8 (unsigned 64 (signed 64 (ofBytesLE old.reverse) + d))
  let l := patch l (i + 8) new
  match sum with
  | none => l
  | some c =>
    let was := ofBytesLE ((l.drop c).take 2).reverse
    if was == 0 then l
    else patch l c (bytesBE 2 (65535 - fold16 (65535 - was + onesSum (old.map (~~~ ·)) + onesSum new)))

/-- Does the switch act as the one-step transparent clock for a frame's transport (R50)? [DEDUCED, unsafe, log 168] -/
def State.transparent (s : State) (bytes : List Byte) : Bool :=
  s.g F.TB_CTRL_ROLE == 2 && match ptpAt bytes with
    | some (i, udp) => udp.isSome == s.is F.TB_CTRL_TRANSPORT &&
        (s.g F.TB_CTRL_PROTOCOL == 2 || !([2, 3, 10].contains (ptpType bytes i)))
    | none => false

/-- A frame as it leaves port `p` now: an event message in transit is corrected by its residence time between the ingress and
egress timestamps, and by the asymmetry of the ingress link for a Sync or Pdelay_Resp, of the egress link for a request (R50,
R52, R53). [DEDUCED, unsafe, log 168] -/
def State.corrected (s : State) (p : Nat) (f : TxFrame) : TxFrame :=
  match f.ingress, ptpAt f.bytes with
  | some (q, e), some (i, sum) =>
    if ptpType f.bytes i ≤ 3 then
      let out := stamp250 (s.elapsedAt s.now) + s.g (F.TB_PHYLAT_ETH_TX_LAT p) * 16384
      let type := ptpType f.bytes i
      let asym : Int := if type == 0 || type == 3 then s.gi (F.TB_ASYM_ETH_ASYM q) * 256 else -(s.gi (F.TB_ASYM_ETH_ASYM p) * 256)
      { f with bytes := addCorrection f.bytes i sum ((out : Int) - s.ingressStamp q e + asym) }
    else f
  | _, _ => f

/-- A frame starts to leave: a launched one records its egress timestamp, external PHY latency included (R53), and how late it
is (R397). -/
def State.startFrame (s : State) (p : Nat) (f : TxFrame) : State :=
  if !s.canProtect p then s.countDrop p p
  else
    let s := s.setEth p { s.ethOf p with cur := some (s.corrected p f), began := s.tb.ticks }
    match f.launch with
    | none => s
    | some (k, t) =>
      let late := decide (t + nsU 4 ≤ s.now)
      let lat := s.g (F.TB_PHYLAT_ETH_TX_LAT p) * 16384
      let s := (s.wr (R.ETH_SLOT_STAMP p k) (shortOf ((if late then s.now else t) + lat))).pb (F.ETH_SLOT_STATUS_LATE p k) late
      s.p (F.ETH_SLOT_STATUS_DELAY p k) (min ((s.now - t) / nsU 4) 65535)

/-- The frame of a class that a port would send next. -/
def headOf (tc : Nat) (l : List TxFrame) : Option TxFrame := l.find? fun f => f.tc == tc

/-- The first frame of the classes listed, in their order, that may start on a port now. -/
def State.pickFrame (s : State) (p : Nat) (l : List Nat) : Option TxFrame :=
  l.findSome? fun tc => match headOf tc (s.ethOf p).queue with
    | some f => if s.startable p f then some f else none
    | none => none

/-- The classes from the highest. -/
def classesDown : List Nat := [7, 6, 5, 4, 3, 2, 1, 0]

/-- The frames that an idle port starts next, as many as it drops because it can no longer protect them (R404), and one more
(R386, R393, R395): a launch that may start goes first and starts on its own; then the highest class whose gate is open, express
classes before a held remainder and that before preemptable ones. -/
def State.kickN (p : Nat) : Nat → State → State
  | 0, s => s
  | n + 1, s =>
    let x := s.ethOf p
    if x.cur.isSome || x.launches.any (s.startable p) then s
    else
      let send := fun (s : State) (f : TxFrame) =>
        let s := s.setEth p { s.ethOf p with queue := (s.ethOf p).queue.erase f }
        if s.canProtect p then s.startFrame p f else State.kickN p n (s.countDrop p p)
      match s.pickFrame p (classesDown.filter fun tc => !s.preemptable p tc) with
      | some f => send s f
      | none => match x.held with
        | some f =>
          if !s.resumable p f then s
          else if s.canProtect p then s.setEth p { x with held := none, cur := some f, began := s.tb.ticks }
          else State.kickN p n ((s.setEth p { x with held := none }).countDrop p p)
        | none => match s.pickFrame p (classesDown.filter (s.preemptable p)) with
          | some f => send s f
          | none => s

/-- Frames too long for every window of their class are dropped and counted (R393), and an idle port starts its next frame. -/
def State.kick (s : State) (p : Nat) : State :=
  let x := s.ethOf p
  let long := x.queue.filter (s.tooLong p)
  let s := (s.count (F.TSN_COUNT_TOO_LONG p) long.length).setEth p { x with queue := x.queue.filter fun f => !s.tooLong p f }
  State.kickN p ((s.ethOf p).queue.length + 2) s

/-- A preemptable frame in progress is preempted and its remainder held (R395, R397). -/
def State.preempt (s : State) (p : Nat) : State :=
  let x := s.ethOf p
  match x.cur with
  | some f =>
    if s.preemptable p f.tc && x.held.isNone
    then s.setEth p { x with cur := none, held := some { f with sent := f.sent + (s.tb.ticks - x.began) * 262144 } } else s
  | none => s

/-- The bytes that wait in the queue of a class. -/
def EthSt.queued (x : EthSt) (tc : Nat) : Nat := (x.queue.filter (·.tc == tc)).foldl (fun a f => a + f.bytes.length) 0

/-- An express frame that may start preempts a preemptable one in progress (R395). -/
def State.urge (s : State) (p : Nat) : State :=
  if (s.pickFrame p (classesDown.filter fun tc => !s.preemptable p tc)).isSome then s.preempt p else s

/-- A frame that came in at port `via` joins its queue at an egress port, or is dropped when its share is full (R386); an express
frame that may start preempts a preemptable one. [DESIGN CHOICE, safe, log 100] -/
def State.enqueueFrame (s : State) (p via : Nat) (f : TxFrame) : State :=
  let tc := f.tc
  let bytes := f.bytes
  let x := s.ethOf p
  let all := x.queue.foldl (fun a f => a + f.bytes.length) 0
  if Config.queueShare p tc < x.queued tc + bytes.length || 131072 < all + bytes.length then s.countDrop p via
  else ((s.setEth p { x with queue := x.queue ++ [f] }).urge p).kick p

/-- Bytes of a class that came in at port `via` join an egress port's queue. -/
def State.enqueue (s : State) (p via tc : Nat) (bytes : List Byte) : State :=
  s.enqueueFrame p via ⟨bytes, tc, none, none, 0, false⟩

/-! ### The transmit area and MACsec -/

/-- Does a slot's range hold a byte of the transmit area (R396)? -/
def State.byteIn (s : State) (p k off : Nat) : Bool :=
  decide (s.g (F.ETH_SLOT_BUF_OFS p k) ≤ off) && decide (off < s.g (F.ETH_SLOT_BUF_OFS p k) + s.g (F.ETH_SLOT_BUF_LEN p k))

/-- Does a slot's range hold a byte of the word at an offset of the transmit area? -/
def State.inSlot (s : State) (p k off : Nat) : Bool := (List.range 4).any fun b => s.byteIn p k (off + b)

/-- Is a launched frame leaving, or held, whose slot's range holds the word at an offset (R396)? -/
def State.slotBusy (s : State) (p off : Nat) : Bool :=
  [(s.ethOf p).cur, (s.ethOf p).held].any fun f => match f with
    | some f => match f.launch with
      | some (k, _) => s.inSlot p k off
      | none => false
    | none => false

/-- A word with the bytes replaced that the bits of a mask name. -/
def maskBytes (old v : Word) (m : Nat) : Word :=
  (List.range 4).foldl (fun w b => if testBit m b then putBits w (8 * b) 8 (getBits v (8 * b) 8) else w) old

/-- Writes that waited for a slot's frame to leave are applied once it has (R396). -/
def State.flushArea (s : State) (p : Nat) : State :=
  let l := (s.ethOf p).area
  (s.setEth p { s.ethOf p with area := l.filter fun w => s.slotBusy p w.1 }).each
    (l.filter fun w => !s.slotBusy p w.1) fun w s => s.wr (areaWord p w.1) (maskBytes (s.rd (areaWord p w.1)) w.2.2 w.2.1)

/-- A list cut or filled with zeros to a length. -/
def fitBytes (n : Nat) (l : List Byte) : List Byte := (l ++ List.replicate n 0).take n

/-- A frame as it leaves a port, destination address up to the FCS: under MACsec with its SecTAG and ICV, and encrypted unless
its class is integrity-only (R402, R403). [PRESUMED, unsafe, log 181] -/
def State.wireBytes (s : State) (p : Nat) (f : TxFrame) : List Byte :=
  if !s.macsec p then f.bytes
  else
    let x := s.ethOf p
    let an := x.txAn.getD 0
    let enc := !testBit (s.g (F.MSEC_CFG_INTEG_ONLY p)) f.tc
    let sci := bytesBE 6 Config.macAddress.toNat ++ bytesBE 2 (p + 1)
    let explicit := s.is (F.MSEC_CFG_SCI_EXPLICIT p)
    let head := f.bytes.take 12
    let data := f.bytes.drop 12
    let tag := bytesBE 2 0x88E5 ++ bytesBE 1 (0x20 * bit explicit + 0x0C * bit enc + an) ++
      bytesBE 1 (if data.length < 48 then data.length else 0) ++ bytesBE 4 x.txPn ++ if explicit then sci else []
    let key := tabGet (fun _ => []) x.keys (32 + an)
    if enc then head ++ tag ++ fitBytes (data.length + 16) (Config.gcmAes256 key sci x.txPn (head ++ tag) data)
    else head ++ tag ++ data ++ fitBytes 16 (Config.gcmAes256 key sci x.txPn (head ++ tag ++ data) [])

/-- Has the frame that is leaving been on the wire for its length? A launched one left its preamble before its launch
time. -/
def State.sentAll (s : State) (p : Nat) (f : TxFrame) : Bool :=
  let len := s.wireLen p f
  let dur := if f.launch.isSome then nsU (len * 8000) / s.rate p else s.wireTime p len
  decide (dur < f.sent + (s.tb.ticks + 1 - (s.ethOf p).began) * 262144)

/-- Bytes of a frame as a big-endian number. -/
def beAt (l : List Byte) (i n : Nat) : Nat := ofBytesLE ((l.drop i).take n).reverse

/-- What the switch reads from a frame: its addresses, the PCP of its tag, its EtherType and what follows. -/
structure Parsed where
  dst : Nat
  src : Nat
  pcp : Option Nat
  etherType : Nat
  body : List Byte
  deriving DecidableEq, Repr

def parseFrame (l : List Byte) : Parsed :=
  if beAt l 12 2 == 0x8100 then ⟨beAt l 0 6, beAt l 6 6, some (beAt l 14 2 / 2 ^ 13), beAt l 16 2, l.drop 18⟩
  else ⟨beAt l 0 6, beAt l 6 6, none, beAt l 12 2, l.drop 14⟩

/-- The SEGMENT message in a payload (*SEGMENT payload*). -/
def segOf (l : List Byte) : SegMsg :=
  ⟨BitVec.ofNat 8 (beAt l 0 1), BitVec.ofNat 8 (beAt l 1 1), BitVec.ofNat 32 (beAt l 2 4), BitVec.ofNat 16 (beAt l 6 2),
   BitVec.ofNat 32 (beAt l 8 4), BitVec.ofNat 16 (beAt l 12 2), BitVec.ofNat 32 (beAt l 16 4), BitVec.ofNat 64 (beAt l 20 8),
   BitVec.ofNat 64 (beAt l 28 8), BitVec.ofNat 32 (beAt l 36 4), BitVec.ofNat 32 (beAt l 40 4)⟩

/-- A Lanyo frame that has left the switch at ETHI reaches the line-shaft unit (R401, *Other payloads*).
[DEDUCED, unsafe, log 182] -/
def State.toShaft (s : State) (bytes : List Byte) : State :=
  let f := parseFrame bytes
  let domain := beAt f.body 2 2
  let member := beAt f.body 1 1
  if f.etherType != s.g F.ETH_LANYO_ETHERTYPE then s
  else match beAt f.body 0 1 % 16 with
    | 1 => s.receiveSegment domain member (segOf (f.body.drop 8))
    | 2 => s.receiveStatus domain member
    | 3 => s.receiveJoin f.src domain member
        ⟨BitVec.ofNat 8 (beAt f.body 8 1), BitVec.ofNat 8 (beAt f.body 9 1), BitVec.ofNat 16 (beAt f.body 10 2)⟩
    | _ => s

/-- FRAME_TRANSMITTED (R386, R388, R396, R401 to R404): the frame that is leaving has left; its packet number advances, writes to
its slot's range are applied, a Lanyo frame at ETHI reaches the line-shaft unit, and the next frame starts. -/
def execFrameTransmitted (p : Fin 3) (s : State) : Res :=
  let x := s.ethOf p
  match x.cur with
  | none => .next s
  | some f =>
    if !s.sentAll p f then .next s else
    let sec := if s.macsec p
      then some (x.txAn.getD 0, x.txPn, !testBit (s.g (F.MSEC_CFG_INTEG_ONLY p)) f.tc) else none
    let out := if f.bad then .stomped p (s.wireBytes p f) else .frame p (s.wireBytes p f) sec
    let s := ((s.emit out).setEth p { x with cur := none }).flushArea p
    let s := s.when (p.val == 2) fun s => s.toShaft f.bytes
    let s := if s.macsec p then
      let s := s.setEth p { s.ethOf p with txPn := x.txPn + 1 }
      s.when (x.txPn == 0xC0000000) fun s => s.raiseSt (evPort p + 3) (R.ETH_STATUS p)
      else s
    .next (s.kick p)

/-! ### Configuration and links -/

/-- The verify procedure runs while the link is up with EN and VERIFY_EN (R395). -/
def State.verify (s : State) (p : Nat) : State :=
  if p < 2 then
    s.p (F.ETH_STATUS_VERIFY p)
      (if s.is (F.ETH_STATUS_LINK p) && s.is (F.TSN_PREEMPT_EN p) && s.is (F.TSN_PREEMPT_VERIFY_EN p) then 1 else 0)
  else s

/-- The link of a port goes down: the frame in progress is lost (R395), and writes that waited for it are applied (R396). -/
def State.linkDown (s : State) (p : Nat) : State :=
  if !s.is (F.ETH_STATUS_LINK p) then s
  else
    let s := (s.off (F.ETH_STATUS_LINK p)).verify p
    ((s.setEth p { s.ethOf p with cur := none, held := none }).flushArea p).raiseSt (evPort p) (R.ETH_STATUS p)

/-- A write of ETHn_CFG (R385, R599); a port taken out of service goes down. -/
def wrEthCfg (p : Nat) (v : Word) (s : State) : State :=
  let old := s.rd (R.ETH_CFG p)
  if !inRange (R.ETH_CFG p) v || (s.is (F.ETH_STATUS_LINK p) && getBits v 1 4 != getBits old 1 4)
  then s.on (F.ETH_STATUS_CFG_REFUSED p)
  else (s.merge (R.ETH_CFG p) v).when (getBits v 0 1 == 0) fun s => s.linkDown p

/-- ETH_CFG_WRITE (R385): a port taken out of service goes down. -/
def execEthCfgWrite (rq : Rq) (p : Fin 2) (v : Word) (s : State) : Res :=
  .next (s.write rq (R.ETH_CFG p) (wrEthCfg p v))

/-- Does the mode of a port have a rate (R383)? -/
def State.rateFits (s : State) (p rate : Nat) : Bool :=
  match s.g (F.ETH_CFG_MODE p) with
  | 0 => rate == 1
  | 1 => rate == 2
  | _ => if s.is (F.ETH_CFG_AN_EN p) then rate ≤ 1 else rate == 1 - s.g (F.ETH_CFG_SPEED p)

/-- ETH_LINK_CHANGE (R385, R395): the link of a port in service comes up at a rate, or goes down; at link-up the
word-alignment position is measured (R52). No link comes up while
NETPLL has failed (*Loss of a secondary PLL*). -/
def execEthLinkChange (p : Fin 2) (up : Bool) (link : LinkUp) (s : State) : Res :=
  if !up then .next (s.linkDown p)
  else if !s.is (F.ETH_CFG_EN p) || !s.rateFits p link.rate || s.is (F.ETH_STATUS_LINK p) || s.clk.netDown then .next s
  else
    let s := ((s.on (F.ETH_STATUS_LINK p)).p (F.ETH_STATUS_RATE p) link.rate).verify p
    let s := s.setEth p { s.ethOf p with align := link.align * 64 }
    .next ((s.kick p).raiseSt (evPort p) (R.ETH_STATUS p))

/-- PREEMPT_VERIFY_DONE (R395). -/
def execPreemptVerifyDone (p : Fin 2) (ok : Bool) (s : State) : Res :=
  if s.g (F.ETH_STATUS_VERIFY p) == 1 then .next (s.p (F.ETH_STATUS_VERIFY p) (if ok then 2 else 3)) else .next s

/-- A write of TSNp_PREEMPT (R395): the bits of TC5 to TC7 are refused. -/
def wrTsnPreempt (p : Nat) (v : Word) (s : State) : State :=
  if getBits v 5 3 != 0 then (if p < 2 then s.on (F.ETH_STATUS_CFG_REFUSED p) else s)
  else
    let old := s.rd (R.TSN_PREEMPT p)
    let s := s.merge (R.TSN_PREEMPT p) v
    s.when (getBits old 8 2 != getBits v 8 2) fun s => s.verify p

/-! ### Gate control lists -/

/-- BASE of the admin list in ns. -/
def State.adminBase (s : State) (p : Nat) : Nat :=
  ((s.rd (R.TSN_BASE_SEC_LO p)).toNat + 2 ^ 32 * getBits (s.rd (R.TSN_BASE_SEC_HI p)) 0 16) * 1000000000 +
    (s.rd (R.TSN_BASE_NS p)).toNat

/-- Is a CONFIG_CHANGE refused (R391, R394)? -/
def State.adminBad (s : State) (p : Nat) : Bool :=
  let n := s.g (F.TSN_CTL_LEN p)
  let cyc := (s.rd (R.TSN_CYCLE p)).toNat
  n == 0 || 256 < n || (List.range n).any (fun i => decide ((s.rd (R.TSN_ADMIN_INTERVAL p i)).toNat < 32)) ||
    cyc < 1000 || 1000000000 < cyc || !s.is F.TB_STATUS_TIME_VALID

/-- The first BASE + n × CYCLE at or after a time, in ns. -/
def cycleFrom (base cyc t : Nat) : Nat := if t ≤ base then base else base + (t - base + cyc - 1) / cyc * cyc

/-- CONFIG_CHANGE (R391): the list that was checked waits for CT. [DEDUCED, unsafe, log 102] -/
def State.configChange (s : State) (p : Nat) : State :=
  if s.adminBad p then s.on (F.TSN_STATUS_CONFIG_ERR p)
  else
    let ct := cycleFrom (s.adminBase p) (s.rd (R.TSN_CYCLE p)).toNat (s.nowNs + 10000)
    let l := (List.range (s.g (F.TSN_CTL_LEN p))).map fun i => (s.rd (R.TSN_ADMIN_CTL p i), s.rd (R.TSN_ADMIN_INTERVAL p i))
    (s.setEth p { s.ethOf p with
      ct := some ct, next := l, nextBase := s.adminBase p, nextCycle := (s.rd (R.TSN_CYCLE p)).toNat,
      nextExt := (s.rd (R.TSN_CYCLE_EXT p)).toNat }).on (F.TSN_STATUS_PENDING p)

/-- A write of TSNp_CTL (R391): CONFIG_CHANGE checks LEN. -/
def wrTsnCtl (p : Nat) (v : Word) (s : State) : State :=
  (s.p (F.TSN_CTL_LEN p) (getBits v 1 9)).when (getBits v 0 1 == 1) fun s => s.configChange p

/-- GATE_CONFIG_CHANGE (R391): a write of TSNp_CTL that leaves LEN and sets CONFIG_CHANGE. -/
def execGateConfigChange (rq : Rq) (p : Fin 3) (s : State) : Res :=
  .next (s.write rq (R.TSN_CTL p) fun s => wrTsnCtl p (putBits (s.rd (R.TSN_CTL p)) 0 1 1) s)

/-- An entry of the oper list comes into force at a time (R390): its gates and its MAC operation; after a step of the counter the
list has resumed (R394). -/
def State.enterEntry (s : State) (p i t : Nat) : State :=
  let s := s.when (s.ethOf p).resync fun s => s.on (F.TSN_STATUS_STEP_RESYNC p)
  let s := s.setEth p { s.ethOf p with idx := i, entryEnd := t + s.entryTime p i, wrap := false, resync := false }
  let s := match s.g (F.TSN_OPER_CTL_OP p i) with
    | 1 => (s.setEth p { s.ethOf p with macHold := true }).preempt p
    | 2 => s.setEth p { s.ethOf p with macHold := false }
    | _ => s
  (s.urge p).kick p

/-- GATE_LIST_TAKEOVER (R392): at CT the admin list becomes the oper list. -/
def execGateListTakeover (p : Fin 3) (s : State) : Res :=
  match (s.ethOf p).ct with
  | none => .next s
  | some ct =>
    if s.nowNs < ct then .next s
    else
      let x := s.ethOf p
      let n := x.next.length
      let s := s.each (List.range n) fun i s =>
        let w := x.next.getD i (0, 0)
        (s.wr (R.TSN_OPER_CTL p i) w.1).wr (R.TSN_OPER_INTERVAL p i) w.2
      let s := ((s.p (F.TSN_STATUS_OPER_LEN p) n).on (F.TSN_STATUS_OPER_ACTIVE p)).off (F.TSN_STATUS_PENDING p)
      let s := s.setEth p { s.ethOf p with
        ct := none, base := x.nextBase, cycle := x.nextCycle, ext := x.nextExt }
      .next (s.enterEntry p 0 ct)

/-- GATE_ENTRY_END (R390, R392): an interval has ended. The next entry applies; at the end of a cycle the next one starts,
unless CT falls within CYCLE_EXT after its start. -/
def execGateEntryEnd (p : Fin 3) (s : State) : Res :=
  let x := s.ethOf p
  if !s.operOn p || s.nowNs < x.entryEnd then .next s
  else if !x.wrap && x.idx + 1 < s.g (F.TSN_STATUS_OPER_LEN p) && s.entryTime p (x.idx + 1) != 0
  then .next (s.enterEntry p (x.idx + 1) x.entryEnd)
  else match x.ct with
    | some ct =>
      if ct ≤ x.entryEnd + x.ext then .next (s.setEth p { x with entryEnd := max ct x.entryEnd, wrap := true })
      else .next (s.enterEntry p 0 x.entryEnd)
    | none => .next (s.enterEntry p 0 x.entryEnd)

/-- The counter has stepped (R394): the cycle in progress ends at the first cycle start on the new counter, where the list
resumes. -/
def State.gateResync (s : State) (p : Nat) : State :=
  if !s.operOn p then s
  else
    let x := s.ethOf p
    s.setEth p { x with entryEnd := cycleFrom x.base (atLeast1 x.cycle) s.nowNs, wrap := true, resync := true }

/-! ### Transmit slots -/

/-- Bytes of a port's transmit area. -/
def State.areaBytes (s : State) (p off n : Nat) : List Byte :=
  (List.range n).map fun i =>
    let o := (off + i) % 65536
    BitVec.ofNat 8 (getBits (s.rd (areaWord p (o / 4 * 4))) (8 * (o % 4)) 8)

/-- The SEGMENT payload (*SEGMENT payload*). -/
def segPayload (h : Nat) (c : Copy) : List Byte :=
  let sec := c.t0 / secUnits
  bytesBE 1 h ++ bytesBE 1 c.prio ++ bytesBE 4 c.seq ++ bytesBE 2 sec ++ bytesBE 4 (c.t0 / 65536 % 1000000000) ++
    bytesBE 2 c.t0 ++ bytesBE 2 0 ++ bytesBE 4 c.valid ++ bytesBE 8 (unsigned 64 c.p0) ++ bytesBE 8 (unsigned 64 c.v0) ++
    bytesBE 4 (unsigned 32 c.a0) ++ bytesBE 4 (unsigned 32 c.j0)

/-- The SEGMENT message of a published segment, as looped back (R264). -/
def segMsg (h : Nat) (c : Copy) : SegMsg :=
  ⟨BitVec.ofNat 8 h, BitVec.ofNat 8 c.prio, BitVec.ofNat 32 c.seq, BitVec.ofNat 16 (c.t0 / secUnits),
   BitVec.ofNat 32 (c.t0 / 65536 % 1000000000), BitVec.ofNat 16 c.t0, BitVec.ofNat 32 c.valid,
   BitVec.ofNat 64 (unsigned 64 c.p0), BitVec.ofNat 64 (unsigned 64 c.v0), BitVec.ofNat 32 (unsigned 32 c.a0),
   BitVec.ofNat 32 (unsigned 32 c.j0)⟩

/-- The network axes of a SRC 2 slot; the source channel of a published shaft sends no setpoint frame (R262). -/
def State.slotAxes (s : State) (p k : Nat) : List Nat :=
  (List.range (min 16 (atLeast1 (s.g (F.ETH_SLOT_CFG_COUNT p k))))).map (· + s.g (F.ETH_SLOT_CFG_SEL p k)) |>.filter fun i =>
    i < 128 && !s.publishes (40 + i)

/-- A network-axis setpoint frame (R396, R399, R400, *Other payloads*): the addresses and the VLAN tag of the 18-byte template, and
in its last two bytes the EtherType of R400; padded to 74 + 20 × COUNT with SecTAG, ICV and FCS.
[DEDUCED, unsafe, log 183] -/
def State.setpointFrame (s : State) (p k t : Nat) : List Byte :=
  let l := s.slotAxes p k
  let axis := fun (i : Nat) =>
    let c := 40 + i
    bytesBE 1 i ++ bytesBE 1 (s.chanState c) ++ bytesBE 2 0 ++ bytesBE 4 (s.rd (R.LSP_CH_PREF_HI c)).toNat ++
      bytesBE 4 (s.rd (R.LSP_CH_PREF_LO c)).toNat ++ bytesBE 4 (s.rd (R.LSP_CH_VREF c)).toNat ++
      bytesBE 4 (s.rd (R.LSP_CH_AREF c)).toNat
  let body := bytesBE 2 (t / secUnits) ++ bytesBE 4 (t / 65536 % 1000000000) ++ bytesBE 2 t ++ bytesBE 1 l.length ++
    List.replicate 7 0 ++ l.flatMap axis
  s.areaBytes p (s.g (F.ETH_SLOT_BUF_OFS p k)) 16 ++ bytesBE 2 (s.g F.ETH_LANYO_ETHERTYPE) ++ bytesBE 1 0x14 ++
    bytesBE 1 (s.g F.LSH_CFG_MEMBER) ++ bytesBE 2 (s.g F.LSH_DOMAIN_DOMAIN) ++ bytesBE 2 body.length ++ bytesBE 2 0 ++ body ++
    List.replicate 4 0

/-- The frame of a slot for a launch (R396), with the state after the evaluations and the loop-back that go with it; none
when the line-shaft unit has named no segment for the launch, when no listed axis sends one, and for the frames of the motion
region while that is isolated (R32). -/
def State.slotFrame (s : State) (p k t : Nat) : State × Option (List Byte) :=
  match s.g (F.ETH_SLOT_CFG_SRC p k) with
  | 0 => (s, some (s.areaBytes p (s.g (F.ETH_SLOT_BUF_OFS p k)) (s.g (F.ETH_SLOT_BUF_LEN p k))))
  | 1 =>
    let h := s.g (F.ETH_SLOT_CFG_SEL p k)
    match (s.shaftOf h).pub.find? fun x => x.1 == t with
    | none => (s, none)
    | some x =>
      if s.isolated regMotion then (s, none) else
      (s.receiveSegment (s.g F.LSH_DOMAIN_DOMAIN) (s.g F.LSH_CFG_MEMBER) (segMsg h x.2),
       some (s.lanyoFrame 1 (segPayload h x.2) 74))
  | _ =>
    if s.isolated regMotion || (s.slotAxes p k).isEmpty then (s, none) else
    let s := s.each (s.slotAxes p k) fun i s => s.evalChan (40 + i) t
    (s, some (s.setpointFrame p k t))

/-- Can a launched frame start now (R397)? It preempts a preemptable frame, but not a launch of its own launch time (R78). -/
def State.launchReady (s : State) (p : Nat) (f : TxFrame) : Bool :=
  let x := s.ethOf p
  s.portUp p && s.gateOpen p f.tc && match x.cur with
    | none => true
    | some c => s.preemptable p c.tc && x.held.isNone && match c.launch, f.launch with
      | some (_, t), some (_, u) => t != u
      | _, _ => true

/-- ETH_LAUNCH (R396 to R399): the slot's frame leaves at its launch time, or waits among at most 8. -/
def execEthLaunch (p : Fin 2) (s : State) : Res :=
  .next (s.act actEthLaunch p fun h s =>
    let k := getBits h.e.arg 0 5
    let t := h.e.time
    if !s.is (F.ETH_STATUS_LINK p) then s.on (F.ETH_SLOT_STATUS_LINK_DOWN_DROP p k)
    else
      let r := s.slotFrame p k t
      let s := r.1
      match r.2 with
      | none => s
      | some b =>
        let f : TxFrame := ⟨b, s.g (F.ETH_SLOT_CFG_TC p k), some (k, t), none, 0, false⟩
        let x := s.ethOf p
        if s.launchReady p f && !x.launches.any (s.launchReady p) then (s.preempt p).startFrame p f
        else if 8 ≤ x.launches.length then (s.on (F.ETH_STATUS_LAUNCH_OVF p)).raiseSt (evPort p + 1) (R.ETH_STATUS p)
        else s.setEth p { x with launches := x.launches ++ [f] })

/-- LAUNCH_FRAME_START (R397): the first launch that waits and whose conditions all hold starts; it is late. -/
def execLaunchFrameStart (p : Fin 2) (s : State) : Res :=
  let x := s.ethOf p
  match x.launches.find? (s.launchReady p) with
  | none => .next s
  | some f =>
    let s := ((s.setEth p { x with launches := x.launches.erase f }).preempt p).startFrame p f
    match f.launch with
    | some (k, _) => .next (s.on (F.ETH_SLOT_STATUS_LATE p k))
    | none => .next s

/-- The slots of a requester whose range holds the word at an offset of the transmit area (R396). -/
def State.areaSlots (s : State) (rq : Rq) (p off : Nat) : List Nat :=
  (List.range 32).filter fun k => s.inSlot p k off && s.may rq (R.ETH_SLOT_CFG p k)

/-- A write of a word of the transmit area (R11, R396): only the initiator of a slot writes inside its range, byte by byte, and while that
slot's frame is leaving the write waits. -/
def wrArea (rq : Rq) (p off : Nat) (v : Word) (s : State) : State :=
  let off := off / 4 * 4
  if (s.areaSlots rq p off).isEmpty then s
  else
    let x := s.ethOf p
    let m := (List.range 4).foldl (fun a b => a + 2 ^ b * bit ((s.areaSlots rq p off).any fun k => s.byteIn p k (off + b))) 0
    if s.slotBusy p off then s.setEth p { x with area := x.area ++ [(off, m, v)] }
    else s.wr (areaWord p off) (maskBytes (s.rd (areaWord p off)) v m)

/-- TRANSMIT_AREA_WRITE (R396). -/
def execTransmitAreaWrite (rq : Rq) (p : Fin 2) (off : BitVec 16) (v : Word) (s : State) : Res :=
  let a := areaWord p (off.toNat / 4 * 4)
  if (s.areaSlots rq p (off.toNat / 4 * 4)).isEmpty then .next s
  else match s.dropReason rq a with
    | some r => .next (s.logDropped rq a r)
    | none => .next (wrArea rq p off.toNat v s)

/-- A write of ETHn_SLOTk_CFG or _BUF (R396, R599): SRC 3, and an OFS that is no multiple of 4, are refused. -/
def wrSlot (p a : Nat) (v : Word) (s : State) : State :=
  if !inRange a v || (a % 16 == 4 && getBits v 0 2 != 0) then s.on (F.ETH_STATUS_CFG_REFUSED p) else s.merge a v

/-- STATUS_SEND (*Lanyo messages*, R400): a STATUS frame joins the queue of TC5 at each external port that is up.
[DEDUCED, unsafe, log 185] -/
def execStatusSend (s : State) : Res :=
  if !s.is F.LSH_CFG_EN then .next s
  else
    let b := s.lanyoFrame 2 (bytesBE 1 s.servo ++ bytesBE 2 s.shaftMap ++ bytesBE 4 s.short.toNat) 10
    .next (s.each ((List.range 2).filter s.portUp) fun p s => s.enqueue p 2 5 b)

/-! ### Reception -/

/-- Does a frame carry UDP to a PTP port? -/
def Parsed.udpPtp (f : Parsed) : Bool :=
  let port := fun (x : Nat) => x == 319 || x == 320
  (f.etherType == 0x0800 && beAt f.body 9 1 == 17 && port (beAt f.body (4 * (beAt f.body 0 1 % 16) + 2) 2)) ||
    (f.etherType == 0x86DD && beAt f.body 6 1 == 17 && port (beAt f.body 42 2))

/-- How the switch handles a frame (*Classification*). -/
inductive RxKind where
  | segment | lanyo | ptp | other
  deriving DecidableEq, Repr

/-- The class of a frame and its handling (R387). [DESIGN CHOICE, safe, log 101] -/
def State.classify (s : State) (f : Parsed) : Nat × RxKind :=
  let type := beAt f.body 0 1 % 16
  if f.etherType == s.g F.ETH_LANYO_ETHERTYPE && (type == 1 || type == 4) then (7, .segment)
  else if f.etherType == s.g F.ETH_LANYO_ETHERTYPE && (type == 2 || type == 3) then (5, .lanyo)
  else if f.etherType == 0x88F7 || f.udpPtp then (6, .ptp)
  else match f.pcp with
    | some p => (getBits (s.rd R.ETH_TC_MAP) (3 * p) 3, .other)
    | none => (0, .other)

/-- The other external port. -/
def otherPort (p : Nat) : Nat := 1 - p

/-- Is the frame for this device's own address? -/
def Parsed.own (f : Parsed) : Bool := f.dst == Config.macAddress.toNat

/-- The external port to which the switch forwards a frame, if any (R386). -/
def State.forwardTo (s : State) (p : Nat) (f : Parsed) : Option Nat :=
  if f.own then none
  else if f.dst / 2 ^ 40 % 2 == 1 then some (otherPort p)
  else match s.fdb.find? fun e => e.mac == f.dst with
    | some e => if e.port == p then none else some e.port
    | none => some (otherPort p)

/-- The source address is learned (R386); a full database takes no new one. [DEDUCED, unsafe, log 102] -/
def State.learn (s : State) (p : Nat) (f : Parsed) : State :=
  let e : FdbEntry := ⟨f.src, p, s.tb.ticks⟩
  if f.src / 2 ^ 40 % 2 == 1 then s
  else if s.fdb.any fun x => x.mac == f.src then { s with fdb := s.fdb.map fun x => if x.mac == f.src then e else x }
  else if 1024 ≤ s.fdb.length then s
  else { s with fdb := s.fdb ++ [e] }

/-- Why a frame is a stranger, 0 for none (R405). [DESIGN CHOICE, unsafe, log 180] -/
def State.stranger (s : State) (p : Nat) (f : RxFrame) : Nat :=
  let x := s.ethOf p
  if s.macsec p then
    match f.sec with
    | none => 1
    | some t => match t.rxsc with
      | none => 2
      | some c =>
        let next := tabGet (fun _ => 0) x.rxPn (4 * c.val + t.an.val)
        if next == 0 then 2
        else if !t.icv then 3
        else if t.pn.toNat + s.g (F.MSEC_CFG_REPLAY_WIN p) < next then 4
        else 0
  else if s.is (F.MSEC_CFG_ALLOW_EN p) && !x.allow.contains (parseFrame f.bytes).src then 5
  else 0

/-- A stranger event carries the count since the previous one, and the latest reason (R405). [DEDUCED, unsafe, log 103] -/
def State.strangerEvent (s : State) (p : Nat) : State :=
  let x := s.ethOf p
  let w := BitVec.ofNat 32 (min x.since (2 ^ 24 - 1) + 2 ^ 24 * s.g (F.MSEC_STRANGER_REASON p))
  (s.setEth p { x with hold := true, since := 0, holdTick := s.tb.ticks }).raise (evPort p + 2) w

/-- A stranger is dropped, counted, by reason too, and recorded (R405). -/
def State.noteStranger (s : State) (p reason src : Nat) : State :=
  let s := (s.count (F.MSEC_STRANGER_COUNT p) 1).p (F.MSEC_STRANGER_REASON p) reason
  let s := (s.wr (R.MSEC_STRANGER_SRC_LO p) (BitVec.ofNat 32 src)).wr (R.MSEC_STRANGER_SRC_HI p)
    (BitVec.ofNat 32 (src / 2 ^ 32))
  let x := s.ethOf p
  let s := s.setEth p { x with
    since := x.since + 1, strangers := tabSet (fun _ => 0) x.strangers reason (tabGet (fun _ => 0) x.strangers reason + 1) }
  if (s.ethOf p).hold then s else s.strangerEvent p

/-- STRANGER_HOLD_END (R405): STRANGER_HOLD has passed since the last event. -/
def execStrangerHoldEnd (p : Fin 2) (s : State) : Res :=
  let x := s.ethOf p
  if !x.hold || s.tb.ticks < x.holdTick + 250000 * s.g (F.ETH_CFG_STRANGER_HOLD p) then .next s
  else if x.since == 0 then .next (s.setEth p { x with hold := false })
  else .next (s.strangerEvent p)

/-- Is a frame received at port `p` forwarded cut-through to `q`: its class in ETH_TC_MAP.CT, the egress port at the same or a
lower speed, and free for it (R388)? [DEDUCED, unsafe, log 184] -/
def State.cutsThrough (s : State) (p q : Nat) (f : TxFrame) : Bool :=
  let x := s.ethOf q
  testBit (s.g F.ETH_TC_MAP_CT) f.tc && decide (s.rate q ≤ s.rate p) && x.cur.isNone && x.held.isNone && x.queue.isEmpty &&
    x.launches.isEmpty && s.startable q f

/-- A frame received at port `p` with `wire` bytes as it leaves cut-through: it started once 64 bytes had arrived (R388).
[DEDUCED, unsafe, log 184] -/
def State.cutFrame (s : State) (p tc wire : Nat) (bytes : List Byte) (bad : Bool) : TxFrame :=
  ⟨bytes, tc, none, none, nsU ((wire - 64) * 8000) / s.rate p, bad⟩

/-- A frame goes on to an egress port: cut-through where R388 has it so, else stored and forwarded. -/
def State.relay (s : State) (p q tc wire : Nat) (bytes : List Byte) : State :=
  let f := s.cutFrame p tc wire bytes false
  if s.cutsThrough p q f then s.startFrame q f else s.enqueue q p tc bytes

/-- A frame that fails after it has begun to leave cut-through ends with an inverted FCS, and counts at both ports (R388). -/
def State.stomp (s : State) (p tc wire : Nat) (f : Parsed) (bytes : List Byte) : State :=
  match s.forwardTo p f with
  | some q =>
    let x := s.cutFrame p tc wire bytes true
    if 64 ≤ wire && s.cutsThrough p q x
    then ((s.startFrame q x).count (F.ETH_COUNT_A_HI p) 1).count (F.ETH_COUNT_A_HI q) 1 else s
  | none => s

/-- Is a Lanyo frame bad at ETHI (R401)? -/
def Parsed.lanyoBad (f : Parsed) : Bool :=
  beAt f.body 0 1 / 16 != 1 || f.body.length < 8 + beAt f.body 4 2 || beAt f.body 0 1 % 16 == 4

/-- A frame that has passed its checks is handed to ETHI and forwarded (R387, R389, R401); PTP event messages are
timestamped (R52), and PTP messages go on only through the transparent clock (R50). What ETHI's consumers do with it
are commands of their own. -/
def State.handle (s : State) (p wire : Nat) (f : Parsed) (bytes : List Byte) : State :=
  let c := s.classify f
  let fwd := fun (s : State) => match s.forwardTo p f with
    | some q => s.relay p q c.1 wire bytes
    | none => s
  match c.2 with
  | .ptp =>
    let s := match ptpAt bytes with
      | some (i, _) =>
        let type := ptpType bytes i
        s.when (decide (type ≤ 3)) fun s => s.noteStamp (stampKey p false type) (s.ingressStamp p s.now).toNat
      | none => s
    let s := s.enqueue 2 p c.1 bytes
    match s.forwardTo p f with
    | some q =>
      if s.transparent bytes then s.enqueueFrame q p ⟨bytes, c.1, none, some (p, s.elapsedAt s.now), 0, false⟩ else s
    | none => s
  | .other => if f.own then s.count (F.ETH_COUNT_B_LO p) 1 else fwd s
  | k =>
    let s := fwd s
    if k = .lanyo ∨ beAt f.body 2 2 = s.g F.LSH_DOMAIN_DOMAIN then
      if f.lanyoBad then s.count (F.ETH_COUNT_B_HI p) 1 else s.enqueue 2 p c.1 bytes
    else if f.own then s.count (F.ETH_COUNT_B_LO p) 1 else s

/-- FRAME_RECEIVED (R386 to R389, R401 to R405): a frame has been received at an external port.
[DEDUCED, unsafe, log 202] -/
def execFrameReceived (p : Fin 2) (f : RxFrame) (s : State) : Res :=
  let h := parseFrame f.bytes
  let tc := (s.classify h).1
  if !s.is (F.ETH_STATUS_LINK p) || !s.is (F.ETH_CFG_EN p) then .next s
  else if !f.good || f.wire < 64 || 2000 < f.wire then .next (s.stomp p tc f.wire h f.bytes)
  else
    let why := s.stranger p f
    if why != 0 then .next ((s.when (why == 3) fun s => s.stomp p tc f.wire h f.bytes).noteStranger p why h.src)
    else
      let x := s.ethOf p
      let s := match s.macsec p, f.sec with
        | true, some t => match t.rxsc with
          | some c =>
            let i := 4 * c.val + t.an.val
            s.setEth p { x with
              rxPn := tabSet (fun _ => 0) x.rxPn i (max (tabGet (fun _ => 0) x.rxPn i) (t.pn.toNat + 1)) }
          | none => s
        | _, _ => s
      let plain := match f.sec with
        | some t => !t.enc
        | none => false
      if s.macsec p && plain && !testBit (s.g (F.MSEC_CFG_INTEG_ONLY p)) tc then .next s
      else .next ((s.learn p h).handle p f.wire h f.bytes)

/-- FDB_AGEING (R386): an entry reaches the ageing time. [DESIGN CHOICE, safe, log 4] -/
def execFdbAgeing (mac : BitVec 48) (s : State) : Res :=
  let age := s.g F.ETH_SW_CFG_AGE
  if age == 0 then .next s
  else .next { s with fdb := s.fdb.filter fun e => e.mac != mac.toNat || decide (s.tb.ticks < e.tick + 250000000 * age) }

/-! ### Keys, MDIO and faults -/

/-- A write of MSECn_SAKi (R404). -/
def wrSak (p i : Nat) (v : Word) (s : State) : State :=
  s.setEth p { s.ethOf p with sak := listSet (s.ethOf p).sak i v }

/-- A write of MSECn_SA_CTL (R404): INSTALL takes the written key with packet number 1. -/
def wrSaCtl (p : Nat) (v : Word) (s : State) : State :=
  let s := s.merge (R.MSEC_SA_CTL p) v
  if getBits v 6 1 == 0 then s
  else
    let an := getBits v 0 2
    let c := getBits v 2 3
    let tx := getBits v 5 1 == 1
    let x := s.ethOf p
    let x := { x with keys := tabSet (fun _ => []) x.keys ((if tx then 32 else 4 * c) + an) x.sak }
    s.setEth p (if tx then { x with txAn := some an, txPn := 1 }
      else { x with rxPn := tabSet (fun _ => 0) x.rxPn (4 * c + an) 1 })

/-- SA_INSTALL (R404). -/
def execSaInstall (rq : Rq) (p : Fin 2) (an : Fin 4) (rxsc : Fin 8) (tx : Bool) (s : State) : Res :=
  .next (s.write rq (R.MSEC_SA_CTL p) (wrSaCtl p (BitVec.ofNat 32 (an + 4 * rxsc + 32 * bit tx + 64))))

/-- A write of ETH_SW_CFG (R383, R386): MDIO_GO starts the access in ETH_MDIO unless one runs. -/
def wrSwCfg (v : Word) (s : State) : State :=
  let s := s.p F.ETH_SW_CFG_AGE (getBits v 0 16)
  if getBits v 16 1 == 0 || s.is F.ETH_MDIO_BUSY then s else (s.on F.ETH_MDIO_BUSY).emit (.mdio (s.rd R.ETH_MDIO))

/-- MDIO_GO (R383): a write of ETH_SW_CFG that leaves AGE and sets MDIO_GO. -/
def execMdioGo (rq : Rq) (s : State) : Res :=
  .next (s.write rq R.ETH_SW_CFG fun s => wrSwCfg (putBits (s.rd R.ETH_SW_CFG) 16 1 1) s)

/-- MDIO_DONE (R383): the access completes; a read brings its result. -/
def execMdioDone (data : BitVec 16) (s : State) : Res :=
  if !s.is F.ETH_MDIO_BUSY then .next s
  else
    let op := s.g F.ETH_MDIO_OP
    .next ((s.off F.ETH_MDIO_BUSY).when (op == 1 || op == 3) fun s => s.p F.ETH_MDIO_DATA data.toNat)

/-- ETH_PORT_FAULT (R406): the port stops sending. ETHI has no status register; its event's payload is open.
[DESIGN CHOICE, safe, log 99] -/
def execEthPortFault (p : Fin 3) (s : State) : Res :=
  if (s.ethOf p).fault then .next s else
  let s := (s.setEth p { s.ethOf p with fault := true, cur := none, held := none }).flushArea p
  if p.val < 2 then .next ((s.on (F.ETH_STATUS_FAULT p)).raiseSt (evPort p + 4) (R.ETH_STATUS p))
  else .next ((s.raise (evPort p + 4) s.freshWord).took)

end Sys2Proof.Machine
end

