-- ==== Sys2Proof/Machine/Can.lean ====
section
/-! DEFINITION. The CAN FD controllers: bit timing and fault confinement (R409 to R412), event-driven frames (R413 to R417),
the schedule matrix (R418 to R422), reception (R423 to R428), loop-back and faults (R429 to R431). -/

namespace Sys2Proof.Machine

def State.canOf (s : State) (n : Nat) : CanSt := tabGet (fun _ => CanSt.reset) s.can n
def State.setCan (s : State) (n : Nat) (x : CanSt) : State := { s with can := tabSet (fun _ => CanSt.reset) s.can n x }

/-! ### Addresses in the message RAM -/

/-- The message-RAM area of a controller. -/
def canRam (n : Nat) : Nat := 0xE80000 + n * 0x8000

/-- The word at an offset of a controller's message RAM. -/
def canWord (n off : Nat) : Nat := canRam n + off

/-- Word `w` of element `i` of receive queue `q`. -/
def canRx (n q i w : Nat) : Nat := canRam n + q * 0x1400 + 80 * i + 4 * w

/-- Word `w` of the element of TT buffer `b`. -/
def canTt (n b w : Nat) : Nat := canRam n + 0x2800 + 76 * b + 4 * w

/-- Word `w` of the element of EB buffer `b`. -/
def canEb (n b w : Nat) : Nat := canRam n + 0x3B00 + 76 * b + 4 * w

/-- Word `w` of filter `f`. -/
def canFilter (n f w : Nat) : Nat := canRam n + 0x4480 + 8 * f + 4 * w

/-- The start offset of window `w` in ns (*Message-RAM area of one controller*). -/
def State.canOffset (s : State) (n w : Nat) : Nat := getBits (s.rd (canRam n + 0x4680 + 4 * w)) 0 24 * 125

/-- The matrix cell of window `w` in basic cycle `c`: its buffer and its kind. -/
def State.canCell (s : State) (n c w : Nat) : Nat × Nat :=
  let o := 32 * c + w
  let b := getBits (s.rd (canRam n + 0x4800 + o / 4 * 4)) (8 * (o % 4)) 8
  (b % 64, b / 64)

/-! ### Frames -/

/-- The data bytes that a DLC gives. -/
def dlcBytes (fdf : Bool) (dlc : Nat) : Nat :=
  if dlc ≤ 8 then dlc else if fdf then [12, 16, 20, 24, 32, 48, 64].getD (dlc - 9) 64 else 8

/-- The data bytes that a frame carries: none for a remote frame of classical CAN. -/
def CanFrame.len (f : CanFrame) : Nat := if f.rtr && !f.fdf then 0 else dlcBytes f.fdf f.dlc.toNat

/-- The frame in a transmit element whose first word is at `a` (*Transmit element, 76 bytes*). -/
def State.txFrame (s : State) (a : Nat) : CanFrame :=
  let w0 := s.rd a
  let w1 := s.rd (a + 4)
  let xtd := getBits w0 29 1 == 1
  let f : CanFrame := ⟨BitVec.ofNat 29 (getBits w0 0 (if xtd then 29 else 11)), xtd, getBits w0 30 1 == 1,
    getBits w0 31 1 == 1, BitVec.ofNat 4 (getBits w1 0 4), getBits w1 4 1 == 1, getBits w1 5 1 == 1, []⟩
  { f with data := (List.range f.len).map fun i => BitVec.ofNat 8 (getBits (s.rd (a + 8 + i / 4 * 4)) (8 * (i % 4)) 8) }

/-- The reference message (R420). -/
def State.refFrame (s : State) (n : Nat) : CanFrame :=
  ⟨BitVec.ofNat 29 (s.g (F.CAN_TT_CFG_REF_ID n)), false, false, false, 1, false, false,
   [BitVec.ofNat 8 (s.g (F.CAN_TT_STATUS_CYCLE_CNT n))]⟩

/-- CAN clock periods of a nominal bit. -/
def State.nomPeriods (s : State) (n : Nat) : Nat :=
  (s.g (F.CAN_ARBIT_N_QPRE n) + 1) * (3 + s.g (F.CAN_ARBIT_N_QBEFORE n) + s.g (F.CAN_ARBIT_N_QAFTER n))

/-- CAN clock periods of a data-phase bit. -/
def State.dataPeriods (s : State) (n : Nat) : Nat :=
  (s.g (F.CAN_DATABIT_D_QPRE n) + 1) * (3 + s.g (F.CAN_DATABIT_D_QBEFORE n) + s.g (F.CAN_DATABIT_D_QAFTER n))

/-- A CAN clock period, 12.5 ns, in units of 2^-16 ns. -/
def canClk : Nat := 819200

/-- A nominal bit time in units of 2^-16 ns. -/
def State.bitTime (s : State) (n : Nat) : Nat := s.nomPeriods n * canClk

/-- The longest duration of a frame in units of 2^-16 ns, with every possible stuff bit and intermission (R421); the parts
of a frame are those of ISO 11898-1. [PRESUMED, unsafe, log 106] -/
def State.longest (s : State) (n : Nat) (f : CanFrame) : Nat :=
  if !f.fdf then
    let b := (if f.xtd then 54 else 34) + 8 * f.len
    (b + (b - 1) / 4 + 13) * s.bitTime n
  else
    let arb := if f.xtd then 36 else 17
    let arbStuff := (arb - 1) / 4
    let stuff := (arb + 5 + 8 * f.len - 1) / 4
    let check := if f.len ≤ 16 then 27 else 32
    let dataBits := 5 + 8 * f.len + (stuff - arbStuff) + check
    (arb + arbStuff + 13) * s.bitTime n + dataBits * if f.brs then s.dataPeriods n * canClk else s.bitTime n

/-! ### Fault confinement -/

/-- May a controller use the bus: out of initialisation, no cell fault, not bus-off (R412, R431)? -/
def State.canLive (s : State) (n : Nat) : Bool :=
  !s.is (F.CAN_CTL_INIT n) && !s.is (F.CAN_STATUS_FAULT n) && s.g (F.CAN_STATUS_STATE n) != 3

/-- The receive error counter; from 128 on RP is set. -/
def State.recCount (s : State) (n : Nat) : Nat := s.g (F.CAN_ERRCNT_REC n) + 128 * s.g (F.CAN_ERRCNT_RP n)

/-- The receive error counter is set, held at 255. -/
def State.setRec (s : State) (n x : Nat) : State :=
  let x := min x 255
  (s.p (F.CAN_ERRCNT_REC n) (x % 128)).p (F.CAN_ERRCNT_RP n) (x / 128)

/-- The error state follows the counters (R412). -/
def State.canConfine (s : State) (n : Nat) : State :=
  if s.g (F.CAN_STATUS_STATE n) == 3 then s
  else s.p (F.CAN_STATUS_STATE n) (if 128 ≤ s.g (F.CAN_ERRCNT_TEC n) || 128 ≤ s.recCount n then 2 else 1)

/-- Bus-off: the controller stops transmitting (R412). The transmit error counter has passed what TEC holds. -/
def State.busOff (s : State) (n : Nat) : State :=
  let s := s.setCan n { s.canOf n with offTick := s.tb.ticks }
  let s := (s.p (F.CAN_ERRCNT_TEC n) s.freshWord.toNat).took
  ((s.p (F.CAN_STATUS_STATE n) 3).on (F.CAN_STATUS_BUS_OFF_SEEN n)).raiseSt (evCan n + 4) (R.CAN_STATUS n)

/-- LEC for an error. -/
def CanErrKind.lec : CanErrKind → Nat
  | .stuff => 1
  | .form => 2
  | .ack => 3
  | .bit1 => 4
  | .bit0 => 5
  | .crc => 6

/-- A transmit error is counted. [PRESUMED, unsafe, log 106] -/
def State.txError (s : State) (n : Nat) (e : CanErr) : State :=
  let s := s.p (F.CAN_ERRCNT_LEC n) e.kind.lec
  let t := s.g (F.CAN_ERRCNT_TEC n) + if e.special then 0 else 8
  if 255 < t then s.busOff n else (s.p (F.CAN_ERRCNT_TEC n) t).canConfine n

/-- A receive error is counted. [PRESUMED, unsafe, log 106] -/
def State.rxError (s : State) (n : Nat) (e : CanErr) : State :=
  let s := s.p (F.CAN_ERRCNT_LEC n) e.kind.lec
  (s.setRec n (s.recCount n + if e.special then 8 else 1)).canConfine n

/-- A frame is transmitted without error. -/
def State.txGood (s : State) (n : Nat) : State :=
  ((s.p (F.CAN_ERRCNT_TEC n) (s.g (F.CAN_ERRCNT_TEC n) - 1)).off (F.CAN_ERRCNT_LEC n)).canConfine n

/-- A frame is received without error; a counter above 127 returns to an open value from 119 to 127 (ISO 11898-1).
[PRESUMED, unsafe, log 106] -/
def State.rxGood (s : State) (n : Nat) : State :=
  let s := s.off (F.CAN_ERRCNT_LEC n)
  let s := if 128 ≤ s.recCount n then (s.setRec n (119 + s.freshWord.toNat % 9)).took else s.setRec n (s.recCount n - 1)
  s.canConfine n

/-! ### Starting frames -/

/-- Is an event-driven buffer pending? -/
def State.ebPending (s : State) (n b : Nat) : Bool := testBit (s.g (F.CAN_TXB_REQ_BUF n)) b

/-- An event-driven buffer stops being pending. -/
def State.ebClear (s : State) (n b : Nat) : State :=
  let x := s.canOf n
  (s.setCan n { x with fails := tabSet (fun _ => 0) x.fails b 0, order := x.order.filter (·.1 != b) }).wr (R.CAN_TXB_REQ n)
    (putBits (s.rd (R.CAN_TXB_REQ n)) b 1 0)

/-- An event-driven buffer is abandoned (R415, R430). -/
def State.ebAbandon (s : State) (n b : Nat) : State :=
  let s := s.ebClear n b
  (s.wr (R.CAN_TXB_ABANDON n) (putBits (s.rd (R.CAN_TXB_ABANDON n)) b 1 1)).raiseSt (evCan n + 1) (R.CAN_STATUS n)

/-- Does a transmit element ask for the FD format where it is not allowed (R430)? -/
def State.fdRefused (s : State) (n a : Nat) : Bool := getBits (s.rd (a + 4)) 5 1 == 1 && !s.is (F.CAN_CTL_FD_EN n)

/-- Buffers that become pending (R413, R430). -/
def State.ebRequest (s : State) (n bufs : Nat) : State :=
  s.each ((List.range 32).filter (testBit bufs)) fun b s =>
    if s.fdRefused n (canEb n b 0) then s.ebAbandon n b
    else s.wr (R.CAN_TXB_REQ n) (putBits (s.rd (R.CAN_TXB_REQ n)) b 1 1)

/-- A frame starts: its stamp, within one nominal bit time from now, goes into the last word of its element (R414, R417,
R419). [DESIGN CHOICE, unsafe, log 105] -/
def State.canStart (s : State) (n : Nat) (c : CanSrc) : State :=
  let s := s.setCan n { s.canOf n with cur := some c, wait := none }
  let stamp := shortOf (s.now + s.freshWord.toNat % s.bitTime n)
  let s := s.took
  match c with
  | .eb b _ => (s.setCan n { s.canOf n with order := (s.canOf n).order.filter (·.1 != b) }).wr (canEb n b 18) stamp
  | .tt b => s.wr (canTt n b 18) stamp
  | .ref => s

/-- Must a launched buffer wait for one of the same launch time that was delivered before it (R78)? -/
def CanSt.behind (x : CanSt) (b : Nat) : Bool :=
  match x.order.find? (·.1 == b) with
  | some e => match x.order.find? (·.2 == e.2) with
    | some first => first.1 != b
    | none => false
  | none => false

/-- May event frames start now, and this one (R421)? -/
def State.ebMay (s : State) (n b : Nat) : Bool :=
  let x := s.canOf n
  !x.behind b && (!s.is (F.CAN_TT_STATUS_RUNNING n) ||
    (x.kind == 2 && decide (s.now + s.longest n (s.txFrame (canEb n b 0)) ≤ x.winEnd)))

/-- The pending buffer that starts next: the lowest identifier, then the lower number (R413). [DEDUCED, unsafe, log 104] -/
def State.ebNext (s : State) (n : Nat) : Option Nat :=
  ((List.range 32).filter fun b => s.ebPending n b && s.ebMay n b).foldl (fun best b =>
    match best with
    | some a => if (s.txFrame (canEb n b 0)).id.toNat < (s.txFrame (canEb n a 0)).id.toNat then some b else best
    | none => some b) none

/-- Is the bus idle, as far as the controller sees? In internal loop-back it ignores the bus (R429). -/
def State.busIdle (s : State) (n : Nat) : Bool :=
  let x := s.canOf n
  x.cur.isNone && (!x.busy || s.g (F.CAN_CTL_LOOP n) == 1)

/-- The end of the tolerance of an exclusive window (R419), in elapsed time. -/
def State.txenEnd (s : State) (n : Nat) : Nat := (s.canOf n).winAt + (s.g (F.CAN_TT_CFG_TXEN n) + 1) * s.bitTime n

/-- On an idle bus the controller starts what may start: an exclusive frame within its tolerance, or an event-driven
frame (R413, R414, R419, R421). A pending FD frame that is not allowed is abandoned (R430). -/
def State.canKick (s : State) (n : Nat) : State :=
  if !s.canLive n || !s.busIdle n then s
  else
    let s := s.each ((List.range 32).filter fun b => s.ebPending n b && s.fdRefused n (canEb n b 0)) fun b s => s.ebAbandon n b
    match (s.canOf n).wait with
    | some b => if s.elapsedAt s.now ≤ s.txenEnd n then s.canStart n (.tt b) else s
    | none => match s.ebNext n with
      | some b => s.canStart n (.eb b (s.g (F.CAN_CTL_RETRY n)))
      | none => s

/-- What the controller sees of the bus is set, for a command that brings it. [DESIGN CHOICE, unsafe, log 105] -/
def State.canSees (s : State) (n : Nat) (idle : Bool) : State := s.setCan n { s.canOf n with busy := !idle }

/-- The frame on the bus has ended: held writes of its element are applied (R416). -/
def State.canEnd (s : State) (n : Nat) : State :=
  let x := s.canOf n
  (s.setCan n { x with cur := none, writes := [] }).each x.writes fun w s => s.wr (canWord n w.1) w.2

/-! ### Configuration -/

/-- Is leaving initialisation refused for an excessive bit rate (R409)? -/
def State.rateRefused (s : State) (n : Nat) : Bool :=
  decide (s.nomPeriods n < 80) || (s.is (F.CAN_CTL_FD_EN n) && decide (s.dataPeriods n < 10))

/-- A controller leaves initialisation (R409, R410). -/
def State.canExit (s : State) (n : Nat) : State :=
  if s.rateRefused n then s.on (F.CAN_STATUS_CFG_REFUSED n)
  else
    let s := (s.off (F.CAN_CTL_INIT n)).p (F.CAN_STATUS_STATE n) 1
    let s := s.when (s.is (F.CAN_ARBIT_TRIPLE n) && decide (s.nomPeriods n < 640)) fun s =>
      (s.on (F.CAN_STATUS_TRIPLE_IGNORED n)).raiseSt (evCan n) (R.CAN_STATUS n)
    s.canKick n

/-- A controller is in initialisation, off the bus; bus-off and FAULT end (R412, R431). -/
def State.canEnter (s : State) (n : Nat) : State :=
  let s := s.canEnd n
  let s := s.setCan n { s.canOf n with busy := false, wait := none }
  ((((s.on (F.CAN_CTL_INIT n)).off (F.CAN_STATUS_STATE n)).off (F.CAN_STATUS_FAULT n)).wr (R.CAN_ERRCNT n) 0)

/-- Do the window offsets of the matrix rise strictly? -/
def State.offsetsRise (s : State) (n : Nat) : Bool :=
  (List.range (s.g (F.CAN_TT_CFG_WIN_N n))).all fun w => decide (s.canOffset n w < s.canOffset n (w + 1))

/-- Is TT_EN = 1 refused (R418)? -/
def State.ttRefused (s : State) (n : Nat) : Bool :=
  let c := s.g (F.CAN_TT_CYCLE_CYCLE n)
  c < 100000 || 1000000000 < c || 1000000000 % (c * 2 ^ s.g (F.CAN_TT_CFG_LOG2_CYCLES n)) != 0 || !s.offsetsRise n ||
    decide (c ≤ s.canOffset n (s.g (F.CAN_TT_CFG_WIN_N n))) || !s.is F.TB_STATUS_TIME_VALID

/-- TT_EN is written (R418, R422). [DEDUCED, unsafe, log 107] -/
def State.ttWrite (s : State) (n : Nat) (on : Bool) : State :=
  if on == s.is (F.CAN_CTL_TT_EN n) then s
  else if !on then s.off (F.CAN_CTL_TT_EN n)
  else if s.ttRefused n then s.on (F.CAN_TT_STATUS_TT_ERR n)
  else
    let s := s.on (F.CAN_CTL_TT_EN n)
    if s.is (F.CAN_TT_STATUS_RUNNING n) then s
    else (s.setCan n { s.canOf n with cycleAt := none, nextWin := 0, kind := 0, wait := none }).on (F.CAN_TT_STATUS_RUNNING n)

/-- A write of CANn_CTL (R409, R412, R418, R422, R429). -/
def wrCanCtl (n : Nat) (v : Word) (s : State) : State :=
  if !inRange (R.CAN_CTL n) v then s.on (F.CAN_STATUS_CFG_REFUSED n)
  else
    let init := s.is (F.CAN_CTL_INIT n)
    let s := s.p (F.CAN_CTL_RETRY n) (getBits v 5 4)
    let s :=
      if init then ((s.p (F.CAN_CTL_FD_EN n) (getBits v 1 1)).p (F.CAN_CTL_LOOP n) (getBits v 2 2)).p
        (F.CAN_CTL_AUTO_RECOVER n) (getBits v 4 1)
      else s.when (getBits v 1 4 != getBits (s.rd (R.CAN_CTL n)) 1 4) fun s => s.on (F.CAN_STATUS_CFG_REFUSED n)
    let s := s.ttWrite n (getBits v 9 1 == 1)
    if getBits v 0 1 == 1 then (if init && !s.is (F.CAN_STATUS_FAULT n) then s else s.canEnter n)
    else if init then s.canExit n
    else s

/-- A write of CANn_ARBIT or CANn_DATABIT (R409). -/
def wrCanTiming (n a : Nat) (v : Word) (s : State) : State :=
  if s.is (F.CAN_CTL_INIT n) && inRange a v then s.merge a v else s.on (F.CAN_STATUS_CFG_REFUSED n)

/-- A write of RXQq_CFG: SIZE is writable while INIT is 1. [DEDUCED, unsafe, log 108] -/
def wrRxqCfg (n q : Nat) (v : Word) (s : State) : State :=
  let a := R.CAN_RXQ_CFG n q
  if s.is (F.CAN_CTL_INIT n) || getBits v 0 2 == getBits (s.rd a) 0 2 then s.merge a v
  else (s.merge a (putBits v 0 2 (getBits (s.rd a) 0 2))).on (F.CAN_STATUS_CFG_REFUSED n)

/-- A write of CANn_FLT_CFG or CANn_TT_CFG; reserved values are refused (R599). -/
def wrCanCfg (n a : Nat) (v : Word) (s : State) : State :=
  if inRange a v then s.merge a v else s.on (F.CAN_STATUS_CFG_REFUSED n)

/-- CAN_INIT_EXIT (R409, R410): a write of CANn_CTL that leaves the other fields and sets INIT = 0. -/
def execCanInitExit (rq : Rq) (c : Fin 4) (idle : Bool) (s : State) : Res :=
  .next (s.write rq (R.CAN_CTL c) fun s => wrCanCtl c (putBits (s.rd (R.CAN_CTL c)) 0 1 0) (s.canSees c idle))

/-- CAN_INIT_ENTER (R412, R431). -/
def execCanInitEnter (rq : Rq) (c : Fin 4) (s : State) : Res :=
  .next (s.write rq (R.CAN_CTL c) fun s => wrCanCtl c (putBits (s.rd (R.CAN_CTL c)) 0 1 1) s)

/-- TT_ENABLE (R418). -/
def execTtEnable (rq : Rq) (c : Fin 4) (s : State) : Res :=
  .next (s.write rq (R.CAN_CTL c) fun s => wrCanCtl c (putBits (s.rd (R.CAN_CTL c)) 9 1 1) s)

/-- TT_DISABLE (R422). -/
def execTtDisable (rq : Rq) (c : Fin 4) (s : State) : Res :=
  .next (s.write rq (R.CAN_CTL c) fun s => wrCanCtl c (putBits (s.rd (R.CAN_CTL c)) 9 1 0) s)

/-! ### Transmission -/

/-- A write of CANn_TXB_REQ (R413). -/
def wrTxbReq (n : Nat) (v : Word) (s : State) : State := (s.ebRequest n v.toNat).canKick n

/-- A write of CANn_TXB_CANCEL (R416). -/
def wrTxbCancel (n : Nat) (v : Word) (s : State) : State :=
  s.each ((List.range 32).filter fun b => testBit v.toNat b && s.ebPending n b) fun b s => s.ebClear n b

/-- TXB_REQ (R413, R430). -/
def execTxbReq (rq : Rq) (c : Fin 4) (bufs : Word) (idle : Bool) (s : State) : Res :=
  .next (s.write rq (R.CAN_TXB_REQ c) fun s => wrTxbReq c bufs (s.canSees c idle))

/-- TXB_CANCEL (R416). -/
def execTxbCancel (rq : Rq) (c : Fin 4) (bufs : Word) (s : State) : Res :=
  .next (s.write rq (R.CAN_TXB_CANCEL c) (wrTxbCancel c bufs))

/-- CAN_LAUNCH (R413, R414): the named buffer becomes pending, and its frame starts when the bus is idle and event frames
are allowed. -/
def execCanLaunch (c : Fin 4) (idle : Bool) (s : State) : Res :=
  .next (s.act actCanLaunch c fun h s =>
    let b := getBits h.e.arg 0 5
    let s := s.canSees c idle
    if s.ebPending c b then s.on (F.CAN_STATUS_LAUNCH_MERGED c)
    else
      let s := s.ebRequest c (2 ^ b)
      let s := s.when (s.ebPending c b) fun s =>
        s.setCan c { s.canOf c with order := (s.canOf c).order ++ [(b, s.instant h)] }
      s.canKick c)

/-- Reception of a frame, the filters first; written with the queues below. -/
def State.routeOf (s : State) (n : Nat) (f : CanFrame) : Nat × Nat :=
  let hit := (List.range 64).find? fun i =>
    let w := s.rd (canFilter n i 0)
    let kind := getBits w 29 2
    let bits := if f.xtd then 29 else 11
    getBits w 31 1 == 1 && (kind == 2 || kind == bit f.xtd) &&
      Nat.land (Nat.xor f.id.toNat (getBits w 0 29)) (getBits (s.rd (canFilter n i 1)) 0 29) % 2 ^ bits == 0
  match hit with
  | some i => (getBits (s.rd (canFilter n i 1)) 29 2, i)
  | none => (s.g (F.CAN_FLT_CFG_NOMATCH n), 127)

/-- The data bytes of an element of a queue (R424). -/
def State.rxBytes (s : State) (n q : Nat) : Nat := 8 * 2 ^ s.g (F.CAN_RXQ_CFG_SIZE n q)

/-- A frame is written into an element of a queue (*Receive element*, R426): data bytes of the element that the frame does
not give are open, words beyond the size in use read 0. [DEDUCED, unsafe, log 108] -/
def State.rxWrite (s : State) (n q i flt : Nat) (f : CanFrame) (sof : Word) : State :=
  let size := s.rxBytes n q
  let w0 := f.id.toNat + 2 ^ 29 * bit f.xtd + 2 ^ 30 * bit (f.rtr && !f.fdf) + 2 ^ 31 * bit f.esi
  let w2 := f.dlc.toNat + 16 * bit f.brs + 32 * bit f.fdf + 64 * flt + 2 ^ 31
  let s := ((s.wr (canRx n q i 0) (BitVec.ofNat 32 w0)).wr (canRx n q i 1) sof).wr (canRx n q i 2) (BitVec.ofNat 32 w2)
  let s := s.each (List.range (16 - size / 4)) fun j s => s.wr (canRx n q i (3 + size / 4 + j)) 0
  if f.rtr && !f.fdf then s
  else
    let have_ := f.data.take f.len
    let bytes := have_ ++ (List.range (size - have_.length)).map fun j => (Config.freeWord (s.free + j)).setWidth 8
    let s := { s with free := s.free + size }
    s.each (List.range (size / 4)) fun j s => s.wr (canRx n q i (3 + j)) (BitVec.ofNat 32 (ofBytesLE ((bytes.drop (4 * j)).take 4)))

/-- The locked element of a queue, if any. -/
def State.lockOf (s : State) (n q : Nat) : Option Nat :=
  if s.is (F.CAN_RXQ_STATUS_LOCKED n q) then some (s.g (F.CAN_RXQ_STATUS_LOCK_IDX n q)) else none

/-- A frame for a queue is stored, or dropped or put in the place of the oldest (R424, R425, R427).
[DEDUCED, unsafe, log 108] -/
def State.rxStore (s : State) (n q flt : Nat) (f : CanFrame) (sof : Word) : State :=
  let put := s.g (F.CAN_RXQ_STATUS_PUT n q)
  let level := s.g (F.CAN_RXQ_STATUS_LEVEL n q)
  if s.rxBytes n q < f.len then (s.count (F.CAN_COUNT_TOO_LONG n) 1).raiseSt (evCan n + 3) (R.CAN_STATUS n)
  else if s.lockOf n q == some put || (level == 64 && !s.is (F.CAN_RXQ_CFG_OVERWRITE n q))
  then s.count (F.CAN_COUNT_LOST n) 1
  else
    let s := if level == 64
      then (s.count (F.CAN_COUNT_LOST n) 1).p (F.CAN_RXQ_STATUS_GET n q) ((s.g (F.CAN_RXQ_STATUS_GET n q) + 1) % 64)
      else s.p (F.CAN_RXQ_STATUS_LEVEL n q) (level + 1)
    (s.rxWrite n q put flt f sof).p (F.CAN_RXQ_STATUS_PUT n q) ((put + 1) % 64)

/-- A received frame passes the filters (R423). -/
def State.canAccept (s : State) (n : Nat) (f : CanFrame) (sof : Word) : State :=
  let r := s.routeOf n f
  if r.1 < 2 then s.rxStore n r.1 r.2 f sof else s

/-- The frame that the controller has on the bus, and the element it came from. -/
def State.curFrame (s : State) (n : Nat) : CanSrc → CanFrame × Option Nat
  | .eb b _ => (s.txFrame (canEb n b 0), some (canEb n b 18))
  | .tt b => (s.txFrame (canTt n b 0), some (canTt n b 18))
  | .ref => (s.refFrame n, none)

/-- CAN_FRAME_SENT (R415, R416, R429): the frame on the bus has completed. In loop-back the controller receives it. -/
def execCanFrameSent (c : Fin 4) (s : State) : Res :=
  match (s.canOf c).cur with
  | none => .next s
  | some k =>
    let f := s.curFrame c k
    let loop := s.g (F.CAN_CTL_LOOP c)
    let sof := match f.2 with
      | some a => s.rd a
      | none => s.short
    let s := s.txGood c
    let s := match k with
      | .eb b _ => (s.ebClear c b).wr (R.CAN_TXB_DONE c) (putBits (s.rd (R.CAN_TXB_DONE c)) b 1 1)
      | _ => s
    let s := s.when (loop != 1) fun s => s.emit (.can c f.1)
    let s := s.when (loop != 0) fun s => s.canAccept c f.1 sof
    let s := s.canEnd c
    .next ((s.setCan c { s.canOf c with busy := false }).canKick c)

/-- CAN_TX_FAILURE (R412, R415): the frame on the bus has lost arbitration, when no error is given, or suffered a bus error.
An event-driven frame is sent again up to RETRY times; a missing acknowledgement in loop-back is no error (R429). -/
def execCanTxFailure (c : Fin 4) (err : Option CanErr) (s : State) : Res :=
  match (s.canOf c).cur with
  | none => .next s
  | some k =>
    let noAck : Bool := match err with
      | some e => decide (e.kind = .ack) && s.g (F.CAN_CTL_LOOP c) != 0
      | none => s.g (F.CAN_CTL_LOOP c) == 1
    if noAck then .next s
    else
      let s := match err with
        | some e => s.txError c e
        | none => s
      let s := match k with
        | .eb b retry =>
          let x := s.canOf c
          let n := tabGet (fun _ => 0) x.fails b + 1
          if !s.ebPending c b || retry < n then s.ebAbandon c b
          else s.setCan c { x with fails := tabSet (fun _ => 0) x.fails b n }
        | _ => s
      let s := s.canEnd c
      .next ((s.setCan c { s.canOf c with busy := err.isNone }).canKick c)

/-- BUS_OFF_RECOVERY (R412): an automatically recovering controller rejoins the bus, after no fewer bit times than 128
occurrences of 11 recessive bits take. -/
def execBusOffRecovery (c : Fin 4) (s : State) : Res :=
  if s.g (F.CAN_STATUS_STATE c) != 3 || !s.is (F.CAN_CTL_AUTO_RECOVER c) ||
      s.tb.ticks * 262144 < (s.canOf c).offTick * 262144 + 1408 * s.bitTime c then .next s
  else
    let s := ((s.p (F.CAN_STATUS_STATE c) 1).wr (R.CAN_ERRCNT c) 0)
    .next ((s.setCan c { s.canOf c with busy := false }).canKick c)

/-! ### The schedule matrix -/

/-- The start of the basic cycle that network time is in, in ns, and its cycle count (R418). -/
def State.canCycleNow (s : State) (n : Nat) : Nat × Nat :=
  let c := atLeast1 (s.g (F.CAN_TT_CYCLE_CYCLE n))
  let sec := s.nowNs / 1000000000 * 1000000000
  let k := (s.nowNs - sec) / c
  (sec + k * c, k % 2 ^ s.g (F.CAN_TT_CFG_LOG2_CYCLES n))

/-- An exclusive frame that waited is not sent in this basic cycle (R419). -/
def State.windowMiss (s : State) (n : Nat) : State :=
  if (s.canOf n).wait.isNone then s
  else ((s.setCan n { s.canOf n with wait := none }).count (F.CAN_TT_STATUS_MISSED n) 1).raiseSt (evCan n + 2)
    (R.CAN_STATUS n)

/-- CAN_BASIC_CYCLE (R418, R422): a basic cycle begins, or a matrix whose TT_EN is 0 stops. -/
def execCanBasicCycle (c : Fin 4) (s : State) : Res :=
  let now := s.canCycleNow c
  if !s.is (F.CAN_TT_STATUS_RUNNING c) || (s.canOf c).cycleAt == some now.1 then .next s
  else if !s.is (F.CAN_CTL_TT_EN c) then
    let s := s.windowMiss c
    let s := s.setCan c { s.canOf c with cycleAt := none }
    .next ((s.off (F.CAN_TT_STATUS_RUNNING c)).canKick c)
  else .next ((s.setCan c { s.canOf c with cycleAt := some now.1, nextWin := 0 }).p (F.CAN_TT_STATUS_CYCLE_CNT c) now.2)

/-- The start of the window after window `w` of the basic cycle that starts at `at` (R421), in units of 2^-16 ns. -/
def State.nextStart (s : State) (n start w : Nat) : Nat :=
  nsU (if w < s.g (F.CAN_TT_CFG_WIN_N n) then start + s.canOffset n (w + 1)
    else start + s.g (F.CAN_TT_CYCLE_CYCLE n) + s.canOffset n 0)

/-- What a window does as it starts, by its cell (R419 to R421, R430). [DEDUCED, unsafe, log 107] -/
def State.windowUse (s : State) (n buf kind : Nat) : State :=
  let idle := s.busIdle n
  if !s.canLive n then s
  else if kind == 1 then
    if s.fdRefused n (canTt n buf 0) then s.raiseSt (evCan n + 1) (R.CAN_STATUS n)
    else if idle then s.canStart n (.tt buf) else s.setCan n { s.canOf n with wait := some buf }
  else if kind == 3 then s.when (s.is (F.CAN_TT_CFG_REF_EN n) && idle) fun s => s.canStart n .ref
  else s.canKick n

/-- CAN_WINDOW_START (R419 to R421): the next window of the basic cycle starts; an exclusive frame that still waits for the
one before is missed. [DEDUCED, unsafe, log 107] -/
def execCanWindowStart (c : Fin 4) (idle : Bool) (s : State) : Res :=
  let x := s.canOf c
  match x.cycleAt with
  | none => .next s
  | some start =>
    let w := x.nextWin
    let t := start + s.canOffset c w
    if !s.is (F.CAN_TT_STATUS_RUNNING c) || s.g (F.CAN_TT_CFG_WIN_N c) < w || s.nowNs < t then .next s
    else
      let cell := s.canCell c (s.g (F.CAN_TT_STATUS_CYCLE_CNT c)) w
      let s := ((s.windowMiss c).canSees c idle).p (F.CAN_TT_STATUS_WINDOW c) w
      let s := s.setCan c { s.canOf c with
        nextWin := w + 1, kind := cell.2, winAt := s.elapsedAt (nsU t), winEnd := s.nextStart c start w, wait := none }
      .next (s.windowUse c cell.1 cell.2)

/-- EXCLUSIVE_WINDOW_MISSED (R419): the bus has not become idle within the tolerance. -/
def execExclusiveWindowMissed (c : Fin 4) (s : State) : Res :=
  let x := s.canOf c
  if x.wait.isNone || s.elapsedAt s.now < s.txenEnd c then .next s else .next (s.windowMiss c)

/-! ### Reception -/

/-- CAN_FRAME_RECEIVED (R423 to R426, R508): a frame of another node has ended on the bus, with its start-of-frame stamp and
the error that the controller detected in it, if any. A frame of the FD format is a form error where it is not allowed. -/
def execCanFrameReceived (c : Fin 4) (f : CanFrame) (sof : Word) (err : Option CanErr) (s : State) : Res :=
  if !s.canLive c || s.g (F.CAN_CTL_LOOP c) == 1 || (s.canOf c).cur.isSome then .next s
  else
    let err := if f.fdf && !s.is (F.CAN_CTL_FD_EN c) then some ⟨.form, false⟩ else err
    let s := match err with
      | some e => s.rxError c e
      | none =>
        let trims := s.is F.CLK_STATUS_DEGRADED && s.g F.CLK_MG_TRIM_TRIM_SRC == 2 &&
          s.g F.CLK_MG_TRIM_CAN == c.val && s.g F.CLK_MG_TRIM_TRIM_ID == f.id.toNat && !f.xtd
        ((s.rxGood c).when trims fun s => s.trimFrame).canAccept c f sof
    .next ((s.setCan c { s.canOf c with busy := false }).canKick c)

/-- The lock of a queue is released. -/
def State.unlockRx (s : State) (n q : Nat) : State := s.off (F.CAN_RXQ_STATUS_LOCKED n q)

/-- A read of word `w` of an element of a receive queue on the main path (R427). -/
def State.rxTouch (s : State) (n q i w : Nat) : State :=
  let last := if getBits (s.rd (canRx n q i 0)) 30 1 == 1 then 2 else 2 + s.rxBytes n q / 4
  if w == 0 then
    let x := s.canOf n
    ((s.setCan n { x with lockTick := tabSet (fun _ => 0) x.lockTick q s.tb.ticks }).on (F.CAN_RXQ_STATUS_LOCKED n q)).p
      (F.CAN_RXQ_STATUS_LOCK_IDX n q) i
  else if w == last && s.lockOf n q == some i then s.unlockRx n q
  else s

/-- A read of the message RAM on the main path: the word is returned, and a receive element's lock follows (R427). -/
def State.canRead (s : State) (rq : Rq) (n off : Nat) : State :=
  let a := canRam n + off / 4 * 4
  if s.readErr a then s.readAbort rq a
  else
    let s := s.emit (.read rq a (s.rd a))
    if off < 0x2800 then s.rxTouch n (off / 0x1400) (off % 0x1400 / 80) (off % 0x1400 % 80 / 4) else s

/-- RX_ELEMENT_LOCK (R427): a read of word 0 of an element. -/
def execRxElementLock (rq : Rq) (c : Fin 4) (q : Fin 2) (i : Fin 64) (s : State) : Res :=
  .next (s.canRead rq c (q.val * 0x1400 + 80 * i.val))

/-- RX_ELEMENT_RELEASE (R427): a read of the element's last data word, or of word 2 for a remote frame. -/
def execRxElementRelease (rq : Rq) (c : Fin 4) (q : Fin 2) (i : Fin 64) (s : State) : Res :=
  let w := if getBits (s.rd (canRx c q i 0)) 30 1 == 1 then 2 else 2 + s.rxBytes c q / 4
  .next (s.canRead rq c (q.val * 0x1400 + 80 * i.val + 4 * w))

/-- LOCK_TIMEOUT (R427): LOCK_TMO has passed since the lock was taken. [DESIGN CHOICE, safe, log 4] -/
def execLockTimeout (c : Fin 4) (q : Fin 2) (s : State) : Res :=
  let t := tabGet (fun _ => 0) (s.canOf c).lockTick q
  if !s.is (F.CAN_RXQ_STATUS_LOCKED c q) || s.tb.ticks < t + 2500 * atLeast1 (s.g (F.CAN_RXQ_CFG_LOCK_TMO c q)) then .next s
  else .next ((s.unlockRx c q).on (F.CAN_STATUS_LOCK_TMO_SEEN c))

/-- The NEW bit of an element is cleared (R427, R428). -/
def State.clearNew (s : State) (n q i : Nat) : State := s.wr (canRx n q i 2) (putBits (s.rd (canRx n q i 2)) 31 1 0)

/-- A write of RXQq_ACK (R427): up to LEVEL elements from GET are freed. -/
def wrRxqAck (n q : Nat) (v : Word) (s : State) : State :=
  let level := s.g (F.CAN_RXQ_STATUS_LEVEL n q)
  let k := min (getBits v 0 7) level
  let get := s.g (F.CAN_RXQ_STATUS_GET n q)
  let s := s.each (List.range k) fun j s =>
    let i := (get + j) % 64
    (s.clearNew n q i).when (s.lockOf n q == some i) fun s => s.unlockRx n q
  (s.p (F.CAN_RXQ_STATUS_GET n q) ((get + k) % 64)).p (F.CAN_RXQ_STATUS_LEVEL n q) (level - k)

/-- RXQ_ACK (R427). -/
def execRxqAck (rq : Rq) (c : Fin 4) (q : Fin 2) (n : Fin 128) (s : State) : Res :=
  .next (s.write rq (R.CAN_RXQ_ACK c q) (wrRxqAck c q (BitVec.ofNat 32 n.val)))

/-- Is an element of the message RAM the one whose frame is on the bus (R416)? -/
def CanSt.onBus (x : CanSt) (n a : Nat) : Bool :=
  match x.cur with
  | some (.eb b _) => decide (canEb n b 0 ≤ a) && decide (a < canEb n b 19)
  | some (.tt b) => decide (canTt n b 0 ≤ a) && decide (a < canTt n b 19)
  | _ => false

/-- A write of the message RAM (*Message-RAM area of one controller*, R416, R422, R428). -/
def wrCanRam (n off : Nat) (v : Word) (s : State) : State :=
  let off := off / 4 * 4
  let a := canWord n off
  if off < 0x2800 then s.when (off % 0x1400 % 80 == 8 && getBits v 31 1 == 1) fun s => s.wr a (putBits (s.rd a) 31 1 0)
  else if off < 0x4480 then
    let o := (if off < 0x3B00 then off - 0x2800 else off - 0x3B00) % 76
    let v := if o == 4 then BitVec.ofNat 32 (getBits v 0 6) else v
    let x := s.canOf n
    if o == 72 then s
    else if x.onBus n a then s.setCan n { x with writes := x.writes ++ [(off, v)] }
    else s.wr a v
  else if off < 0x4680 then s.wr a (if off % 8 == 4 then putBits v 31 1 0 else v)
  else if off < 0x4700 || (0x4800 ≤ off && off < 0x5000) then
    if s.is (F.CAN_TT_STATUS_RUNNING n) then s.on (F.CAN_TT_STATUS_TT_ERR n)
    else s.wr a (if off < 0x4700 then putBits v 24 8 0 else v)
  else s

/-- NEW_CLEAR (R428): a write of 0x8000_0000 to word 2 of a receive element. -/
def execNewClear (rq : Rq) (c : Fin 4) (q : Fin 2) (i : Fin 64) (s : State) : Res :=
  .next (s.write rq (canRx c q i 2) (wrCanRam c (q.val * 0x1400 + 80 * i.val + 8) 0x80000000))

/-! ### Faults -/

/-- A controller enters its cell safe state (R17, R431): transmitter recessive, its frame ended, the queues readable. -/
def State.canFault (s : State) (n : Nat) : State :=
  let s := s.canEnd n
  let s := s.setCan n { s.canOf n with wait := none }
  s.on (F.CAN_STATUS_FAULT n)

/-- A cell fault of a controller (R431), reported once. -/
def State.canCellFault (s : State) (n : Nat) : State :=
  if s.is (F.CAN_STATUS_FAULT n) then s else (s.canFault n).raiseSt (evCan n + 5) (R.CAN_STATUS n)

/-- CAN_CELL_FAULT (R431). -/
def execCanCellFault (c : Fin 4) (s : State) : Res :=
  .next (s.canCellFault c)

/-- A fault of the CAN cluster's shared resource (R19, R431): all four controllers enter their cell safe state. -/
def State.canClusterFault (s : State) : State :=
  let s := s.p F.GLB_REGION_STATE_CLUSTER_FAULT_SEEN (setBit (s.g F.GLB_REGION_STATE_CLUSTER_FAULT_SEEN) regTime true)
  s.each (List.range 4) fun n s => s.canCellFault n

/-- A write of a register of a controller. -/
def wrCanReg (n off : Nat) (v : Word) (s : State) : State :=
  let a := R.CAN_CTL n + off
  if off == 0 then wrCanCtl n v s
  else if off == 0x4 || off == 0x8 then wrCanTiming n a v s
  else if off == 0x14 || off == 0x30 then wrCanCfg n a v s
  else if off == 0x20 then wrTxbReq n v s
  else if off == 0x24 then wrTxbCancel n v s
  else if off == 0x40 || off == 0x50 then wrRxqCfg n ((off - 0x40) / 0x10) v s
  else if off == 0x48 || off == 0x58 then wrRxqAck n ((off - 0x48) / 0x10) v s
  else s.merge a v

end Sys2Proof.Machine
end

