-- ==== Sys2Proof/Machine/Field.lean ====
section
/-! DEFINITION. Field I/O: the input filters (R435 to R437), wire-break detection (R438), the outputs (R439 to R443), and the
field supply and bridge (R447, R448). Channel `k` of R432; output `j` is channel 32 + j. -/

namespace Sys2Proof.Machine

/-! ### Inputs -/

/-- Does a channel read an input (R432, R443)? -/
def State.fieldReads (s : State) (k : Nat) : Bool :=
  k < 32 || (64 ≤ k && k < 80) || (56 ≤ k && k < 64 && s.g (F.FIO_CH_CFG_FX_MODE k) == 1)

/-- Is a channel an output (R432, R443)? -/
def State.fieldDrives (s : State) (k : Nat) : Bool :=
  (32 ≤ k && k < 56) || (56 ≤ k && k < 64 && s.g (F.FIO_CH_CFG_FX_MODE k) == 2)

/-- The words that gather the inputs follow the status of channel `k`. -/
def State.gatherInput (s : State) (k : Nat) : State :=
  let level := s.g (F.FIO_CH_STATUS_LEVEL k)
  let valid := s.g (F.FIO_CH_STATUS_VALID k)
  let wb := s.g (F.FIO_CH_STATUS_WB k)
  if k < 32 then ((s.p ⟨R.FIO_FI_LEVEL, k, 1⟩ level).p ⟨R.FIO_FI_VALID, k, 1⟩ valid).p ⟨R.FIO_FI_WB, k, 1⟩ wb
  else if 64 ≤ k then (s.p ⟨R.FIO_BS_LEVEL, k - 64, 1⟩ level).p (F.SAF_BRK_STATUS_BS (k - 64)) level
  else
    let x := k - 56
    let level := if s.fieldReads k then level else 0
    ((s.p ⟨R.FIO_FX_IN, x, 1⟩ level).p ⟨R.FIO_FX_IN, 8 + x, 1⟩ valid).p ⟨R.FIO_FX_IN, 16 + x, 1⟩ wb

/-- Is an input valid (R436, R438, R443, R447, R17)? -/
def State.inputValid (s : State) (k : Nat) : Bool :=
  s.fieldReads k && testBit s.fio.reached k && !s.is (F.FIO_CH_STATUS_WB k) && !s.is F.FIO_STATUS_VF_LOW &&
    !testBit s.fio.bad k

/-- VALID of an input follows what it depends on. [DEDUCED, unsafe, log 109] -/
def State.judgeInput (s : State) (k : Nat) : State :=
  (s.pb (F.FIO_CH_STATUS_VALID k) (s.inputValid k)).gatherInput k

/-- The channels of Larkspur whose limits a field input is (R246, R437). -/
def State.limitUsers (s : State) (k : Nat) : List Nat :=
  let sel := if k < 32 then k else k - 24
  if 64 ≤ k then [] else (List.range 168).filter fun c =>
    s.g (F.LSP_CH_CFG_LIM_POS_SEL c) == sel || s.g (F.LSP_CH_CFG_LIM_NEG_SEL c) == sel

/-- The release of a limit is the reference event of types 7 and 8 while the axis creeps back (R249). -/
def State.limitRelease (s : State) (c : Nat) : State :=
  let x := s.chanOf c
  let ty := s.g (F.LSP_CH_HOME_CFG_TYPE c)
  let free := (ty == 7 && x.limPos && !s.limPos c) || (ty == 8 && x.limNeg && !s.limNeg c)
  s.when (free && decide (x.home = .creep)) fun s => s.setChan c { x with homeEdge := true, homeP := s.measured c }

/-- The filtered level of an input changes, and reaches Larkspur's limit logic (R437, R246, R249). -/
def State.setInput (s : State) (k : Nat) (level : Bool) : State :=
  let s := (s.pb (F.FIO_CH_STATUS_LEVEL k) level).count (F.FIO_CH_STATUS_CHANGES k) 1
  let s := s.gatherInput k
  let s := s.when (k < 64 && s.is (F.FIO_CH_CFG_EVT_EN k)) fun s =>
    s.raiseSt (1472 + if k < 32 then k else k - 24) (R.FIO_CH_STATUS k)
  s.each (s.limitUsers k) fun c s => (s.limitRelease c).limCheck c

/-- A dark test of a brake has ended by its own course: the next one tests the other switch (R467), and the end is a change
of command for R466. -/
def State.darkEnd (s : State) (n : Nat) : State :=
  let b := s.brkOf n
  if b.dark then s.setBrk n { b with dark := false, darkL := !b.darkL, darkTick := s.tb.ticks, since := s.tb.ticks } else s

/-- An input's filter starts again: counter and filtered output 0, invalid until an end is reached (R436). -/
def State.restartInput (s : State) (k : Nat) : State :=
  let s := { s with fio := { s.fio with
    reached := setBit s.fio.reached k false, endTick := tabSet (fun _ => 0) s.fio.endTick k s.tb.ticks } }
  let s := s.off (F.FIO_CH_STATUS_CNT k)
  let s := s.when (s.fieldReads k && s.is (F.FIO_CH_STATUS_LEVEL k)) fun s => s.setInput k false
  s.judgeInput k

/-- Has an input's counter had the ticks to reach an end (R435): MAX of them from the opposite end, the first of which may
come at once after a restart? [DEDUCED, safe, log 170] -/
def State.counted (s : State) (k : Nat) (level : Bool) : Bool :=
  level == s.is (F.FIO_CH_STATUS_LEVEL k) && (!level || testBit s.fio.reached k) || (tabGet (fun _ => 0) s.fio.endTick k +
    (atLeast1 (s.g (F.FIO_CH_CFG_MAX k)) - 1) * 250 * atLeast1 (s.g (F.FIO_CH_CFG_TICK k)) ≤ s.tb.ticks)

/-- FIELD_INPUT_CHANGE (R435 to R438, R467): the counter of an input reaches an end. A broken wire feeds 0, so its counter
reaches no upper end; a brake sense that reads low ends a dark test. [DEDUCED, unsafe, log 109] -/
def execFieldInputChange (k : Fin 80) (level : Bool) (s : State) : Res :=
  if !s.fieldReads k || (level && s.is (F.FIO_CH_STATUS_WB k)) || !s.counted k level then .next s
  else
    let s := { s with fio := { s.fio with
      reached := setBit s.fio.reached k true, endTick := tabSet (fun _ => 0) s.fio.endTick k s.tb.ticks } }
    let s := (s.p (F.FIO_CH_STATUS_CNT k) (if level then atLeast1 (s.g (F.FIO_CH_CFG_MAX k)) else 0)).judgeInput k
    if level == s.is (F.FIO_CH_STATUS_LEVEL k) then .next s
    else
      let s := s.setInput k level
      .next (s.when (64 ≤ k.val && !level) fun s => s.darkEnd (k.val - 64))

/-- WIRE_BREAK (R438). -/
def execWireBreak (k : Fin 64) (s : State) : Res :=
  if !s.fieldReads k || !s.is (F.FIO_CH_CFG_WB_EN k) || s.is (F.FIO_CH_STATUS_WB k) then .next s
  else
    let s := ((s.on (F.FIO_CH_STATUS_WB k)).on (F.FIO_CH_STATUS_WB_SEEN k)).judgeInput k
    .next (s.raiseSt (1512 + if k.val < 32 then k.val else k.val - 24) (R.FIO_CH_STATUS k))

/-- WIRE_WHOLE (R438). -/
def execWireWhole (k : Fin 64) (s : State) : Res :=
  if s.is (F.FIO_CH_STATUS_WB k) then .next ((s.off (F.FIO_CH_STATUS_WB k)).judgeInput k) else .next s

/-! ### Outputs -/

/-- Are all outputs held off (R439, first row)? -/
def State.fieldHeldOff (s : State) : Bool := s.saf.globalSafe || s.is F.FIO_STATUS_VF_LOW || s.fio.lost || s.clk.down.contains 9

/-- Is an output driven on (*Field output precedence*)? -/
def State.fieldOn (s : State) (j : Nat) : Bool :=
  s.fieldDrives (32 + j) && !s.fieldHeldOff && !testBit s.fio.bad (32 + j) && !testBit (s.rd R.FIO_OUT_FAULT).toNat j &&
    !testBit (s.rd R.FIO_OUT_LOFF).toNat j && testBit (s.rd R.FIO_OUT).toNat j

/-- The outputs follow what decides them: LEVEL shows the commanded level, and the read-back of an output that switches
follows it; SWITCHINGS counts each change (R553). -/
def State.fieldOuts (s : State) : State :=
  s.each (List.range 32) fun j s =>
    let s := s.when (s.fieldDrives (32 + j)) fun s =>
      s.p (F.FIO_CH_STATUS_LEVEL (32 + j)) (getBits (s.rd R.FIO_OUT) j 1)
    let d := s.fieldOn j
    if d == testBit s.fio.drive j then s
    else
      let s := s.addLife (lifeSwitch + j) 1
      { s with fio := { s.fio with drive := setBit s.fio.drive j d, since := tabSet (fun _ => 0) s.fio.since j s.tb.ticks } }.wr
        R.FIO_OUT_RB (putBits (s.rd R.FIO_OUT_RB) j 1 (bit d))

/-- FAULT and REASON of an output are set. -/
def State.setFieldFault (s : State) (j reason : Nat) : State :=
  ((s.pb (F.FIO_CH_STATUS_FAULT (32 + j)) (reason != 0)).p (F.FIO_CH_STATUS_REASON (32 + j)) reason).wr R.FIO_OUT_FAULT
    (putBits (s.rd R.FIO_OUT_FAULT) j 1 (bit (reason != 0)))

/-- LAUNCH_OFF of an output is set or cleared. -/
def State.setLaunchOff (s : State) (j : Nat) (on : Bool) : State :=
  (s.pb (F.FIO_CH_STATUS_LAUNCH_OFF (32 + j)) on).wr R.FIO_OUT_LOFF (putBits (s.rd R.FIO_OUT_LOFF) j 1 (bit on))

/-- The commanded levels change. -/
def State.setFieldOut (s : State) (v : Nat) : State := (s.wr R.FIO_OUT (BitVec.ofNat 32 v)).fieldOuts

/-- An output enters its fault (R17, R440, R441). -/
def State.fieldFault (s : State) (j reason : Nat) : State :=
  (s.setFieldFault j reason).fieldOuts.raiseSt (1552 + j) (R.FIO_CH_STATUS (32 + j))

/-- A field channel enters its cell safe state (R17): an output is switched off with FAULT set, an input is reported
invalid. [DEDUCED, unsafe, log 30] -/
def State.fieldCellFault (s : State) (k : Nat) : State :=
  if testBit s.fio.bad k then s else
  let s := { s with fio := { s.fio with bad := setBit s.fio.bad k true } }
  if s.fieldDrives k then ((s.on (F.FIO_CH_STATUS_FAULT k)).wr R.FIO_OUT_FAULT
    (putBits (s.rd R.FIO_OUT_FAULT) (k - 32) 1 1)).fieldOuts.raiseSt (1552 + (k - 32)) (R.FIO_CH_STATUS k)
  else s.judgeInput k

/-- The outputs that a requester may change, one bit each (R434). -/
def State.outMask (s : State) (rq : Rq) : Nat :=
  (List.range 32).foldl (fun a j => a + 2 ^ j * bit (s.may rq (R.FIO_CH_CFG (32 + j)))) 0

/-- A write that reaches the field die, or is dropped (R338, R22); a requester that may change no output has none. -/
def State.toField (s : State) (rq : Rq) (a : Nat) (k : State → State) : State :=
  if s.outMask rq == 0 then s
  else match s.dropReason rq a with
    | some r => s.logDropped rq a r
    | none => k s

/-- Register writes of this tick stand for these outputs against a Phlox action of the same tick (R442): the levels `out`,
and the cleared LAUNCH_OFF `clr`. -/
def State.regWrites (s : State) (out clr : Nat) : State :=
  let keep := fun x => if s.fio.regTick == s.tb.ticks then x else 0
  { s with fio := { s.fio with
    regTick := s.tb.ticks, regOut := Nat.lor (keep s.fio.regOut) out, regClr := Nat.lor (keep s.fio.regClr) clr } }

/-- Has a register write of this tick set an output's level, or cleared its LAUNCH_OFF? [DEDUCED, unsafe, log 169] -/
def State.regHeld (s : State) (mask j : Nat) : Bool := s.fio.regTick == s.tb.ticks && testBit mask j

/-- FIO_OUT, FIO_OUT_SET and FIO_OUT_CLR: one operation on the 32 bits, for the bits that the requester holds (R434, R442). -/
def wrFioOut (rq : Rq) (f : Nat → Nat → Nat) (v : Word) (s : State) : State :=
  let m := s.outMask rq
  let old := (s.rd R.FIO_OUT).toNat
  let sets := Nat.land m (0xFFFFFFFF - Nat.xor (f 0 v.toNat) (f 0xFFFFFFFF v.toNat))
  let s := s.regWrites sets 0
  s.setFieldOut ((old - Nat.land old m) + Nat.land (f old v.toNat) m)

/-- The level words that the three registers give. -/
def outSet (old v : Nat) : Nat := Nat.lor old v
def outClr (old v : Nat) : Nat := old - Nat.land old v
def outPut (_ v : Nat) : Nat := v

/-- FIO_OUT_FCLR (R440): FAULT and LAUNCH_OFF are cleared, but for a thermal fault of a driver that is still over its
limit. -/
def wrFioFclr (rq : Rq) (hot v : Word) (s : State) : State :=
  let m := Nat.land (s.outMask rq) v.toNat
  let s := s.regWrites 0 m
  (s.each ((List.range 32).filter (testBit m)) fun j s =>
    let stay := s.g (F.FIO_CH_STATUS_REASON (32 + j)) == 2 && testBit hot.toNat j
    let s := { s with fio := { s.fio with bad := setBit s.fio.bad (32 + j) false } }
    (s.setLaunchOff j false).when (!stay) fun s => s.setFieldFault j 0).fieldOuts

/-- FIO_OUT (R442). -/
def execFioOut (rq : Rq) (v : Word) (s : State) : Res := .next (s.toField rq R.FIO_OUT (wrFioOut rq outPut v))

/-- FIO_OUT_SET (R442). -/
def execFioOutSet (rq : Rq) (v : Word) (s : State) : Res := .next (s.toField rq R.FIO_OUT_SET (wrFioOut rq outSet v))

/-- FIO_OUT_CLR (R442). -/
def execFioOutClr (rq : Rq) (v : Word) (s : State) : Res := .next (s.toField rq R.FIO_OUT_CLR (wrFioOut rq outClr v))

/-- FIO_OUT_FCLR (R440). -/
def execFioOutFclr (rq : Rq) (v hot : Word) (s : State) : Res := .next (s.toField rq R.FIO_OUT_FCLR (wrFioFclr rq hot v))

/-- FIELD_OFF (R439, R442): a class 0 action reaches the field die, 120 ns after its execution, and sets LAUNCH_OFF; a
register write that the same tick applies comes after it. -/
def execFieldOff (j : Fin 32) (s : State) : Res :=
  .next (s.act actFieldOff j fun _ s =>
    if s.isolated regField || s.regHeld s.fio.regClr j then s else (s.setLaunchOff j true).fieldOuts)

/-- FIELD_WRITE (R439, R442): the commanded level is set, in the same way. -/
def execFieldWrite (j : Fin 32) (s : State) : Res :=
  .next (s.act actFieldWrite j fun h s =>
    if s.isolated regField || s.regHeld s.fio.regOut j then s else (s.wr R.FIO_OUT (putBits (s.rd R.FIO_OUT) j 1 (getBits h.e.arg 0 1))).fieldOuts)

/-- OUTPUT_OVERCURRENT (R440): the current limit has acted for 200 µs, or the driver is over its thermal limit. -/
def execOutputOvercurrent (j : Fin 32) (thermal : Bool) (s : State) : Res :=
  if s.fieldOn j && (thermal || tabGet (fun _ => 0) s.fio.since j + 50000 ≤ s.tb.ticks) then .next (s.fieldFault j (if thermal then 2 else 1)) else .next s

/-- READBACK_MISMATCH (R441): the read-back of an output has differed for RB_TIME, after RB_TIME since its last change.
[DEDUCED, unsafe, log 109] -/
def execReadbackMismatch (j : Fin 32) (s : State) : Res :=
  let rb := 2500 * atLeast1 (s.g (F.FIO_CH_CFG_WB_TIME (32 + j.val)))
  if !s.fieldDrives (32 + j) || s.is (F.FIO_CH_STATUS_FAULT (32 + j.val)) ||
      s.tb.ticks < tabGet (fun _ => 0) s.fio.since j + 2 * rb then .next s
  else
    let seen := !testBit s.fio.drive j
    .next ((s.wr R.FIO_OUT_RB (putBits (s.rd R.FIO_OUT_RB) j 1 (bit seen))).fieldFault j 3)

/-! ### Configuration -/

/-- A write of FIO_CHk_CFG (R434, R436, R443, R444, R599); it takes an input out of its cell safe state.
[DEDUCED, unsafe, log 30 and 109] -/
def wrFioCfg (k : Nat) (v : Word) (s : State) : State :=
  let a := R.FIO_CH_CFG k
  let old := s.rd a
  let v := if 64 ≤ k then putBits (putBits v 0 11 (getBits old 0 11)) 12 8 (getBits old 12 8) else v
  let fx := 56 ≤ k && k < 64
  let mode := fx && getBits v 28 2 != getBits old 28 2
  if !inRange a v || (mode && testBit (s.rd R.FIO_OUT).toNat (k - 32)) then s.on F.FIO_STATUS_CFG_REFUSED
  else
    let again := getBits v 0 10 != getBits old 0 10 || getBits v 12 8 != getBits old 12 8 || mode
    let s := s.when (mode && s.fieldReads k) fun s => s.restartInput k
    let s := s.merge a v
    let s := if s.fieldReads k then { s with fio := { s.fio with bad := setBit s.fio.bad k false } } else s
    let s := s.when (!s.is (F.FIO_CH_CFG_WB_EN k) || !s.fieldReads k) fun s => s.off (F.FIO_CH_STATUS_WB k)
    if 32 ≤ k && k < 56 then s
    else if again then
      let s := s.when (mode && !s.fieldReads k) fun s => s.off (F.FIO_CH_STATUS_LEVEL k)
      (s.restartInput k).fieldOuts
    else s.judgeInput k

/-- FIO_CH_CFG_WRITE (R436, R444). -/
def execFioChCfgWrite (rq : Rq) (k : Fin 80) (v : Word) (s : State) : Res :=
  .next (s.rwsWrite rq (R.FIO_CH_CFG k) v (wrFioCfg k v))

/-- FX_MODE_WRITE (R443): a write of FIO_CHk_CFG that leaves the other fields. -/
def execFxModeWrite (rq : Rq) (x : Fin 8) (mode : Fin 4) (s : State) : Res :=
  let a := R.FIO_CH_CFG (56 + x)
  .next (s.write rq a fun s => wrFioCfg (56 + x) (putBits (s.rd a) 28 2 mode) s)

/-! ### The field supply and the bridge -/

/-- VFIELD_LOW (R447). [DEDUCED, unsafe, log 109] -/
def execVfieldLow (s : State) : Res :=
  if s.is F.FIO_STATUS_VF_LOW then .next s
  else
    let s := { s with fio := { s.fio with lowTick := s.tb.ticks } }
    let s := ((s.on F.FIO_STATUS_VF_LOW).on F.FIO_STATUS_VF_LOW_SEEN).setFieldOut 0
    .next ((s.each (List.range 80) fun k s => if 32 ≤ k && k < 56 then s else s.judgeInput k).raiseSt 1584 R.FIO_STATUS)

/-- The filters of all inputs start again (R436). -/
def State.restartInputs (s : State) : State :=
  s.each ((List.range 80).filter fun k => k < 32 || 56 ≤ k) fun k s => s.restartInput k

/-- VFIELD_RECOVERED (R447): VFIELD has stayed above 17.0 V for 10 ms. -/
def execVfieldRecovered (s : State) : Res :=
  if s.is F.FIO_STATUS_VF_LOW && s.fio.lowTick + 2500000 ≤ s.tb.ticks then .next (s.off F.FIO_STATUS_VF_LOW).restartInputs.fieldOuts else .next s

/-- BRIDGE_HEARTBEAT_LOST (R448): the field die switches every output off until the field region is reset. -/
def execBridgeHeartbeatLost (s : State) : Res :=
  .next ({ s with fio := { s.fio with lost := true } }.off F.FIO_STATUS_BRIDGE_OK).fieldOuts

end Sys2Proof.Machine
end

