-- ==== Sys2Proof/Machine/Hollyhock.lean ====
section
/-! DEFINITION. Hollyhock: the safety cycle with safe inputs, STO, SS1-t and brakes (R449 to R468), the brake test (R469,
R470), the lock-outs and their deliberate reset (R476, R477), and the safety parameter sets (R479 to R481). -/

namespace Sys2Proof.Machine

/-- Ticks of the tick clock in a millisecond. -/
def msTicks : Nat := 250000

/-! ### Safe inputs -/

/-- The accepted level of an input follows its raw level once that has held for `hold` ticks (R453, R456). Input `i` is
SIiA for 0 to 7, SI(i−8)B for 8 to 15 and SRESET for 16; `acc` is the level accepted so far. [DEDUCED, unsafe, log 110] -/
def State.accept (s : State) (i hold : Nat) (raw acc : Bool) : State × Bool :=
  let put := fun (x : Option Nat) => { s with saf := { s.saf with siSince := tabSet (fun _ => none) s.saf.siSince i x } }
  if raw == acc then (put none, acc)
  else
    let t := (tabGet (fun _ => none) s.saf.siSince i).getD s.tb.ticks
    if t + hold ≤ s.tb.ticks then (put none, raw) else (put (some t), acc)

/-- Do safe inputs count as demands whatever they read (R455)? -/
def State.inputsDown (s : State) : Bool := s.is F.FIO_STATUS_VF_LOW || s.isolated regField

/-- A bit of a field is set or cleared. -/
def State.bitField (s : State) (f : Fld) (i : Nat) (b : Bool) : State := s.p f (setBit (s.g f) i b)

/-- A group's stop request (R462): Larkspur runs a quick stop on every servo axis and auxiliary channel of the group, and
the group's timer starts. -/
def State.ss1Begin (s : State) (g : Nat) : State :=
  if s.sto g || testBit (s.g F.SAF_STO_SS1_RUN) g then s
  else
    let s := s.each (s.groupChans g) fun k s => s.quickStop k
    let s := { s with saf := { s.saf with ss1Start := listSet s.saf.ss1Start g s.tb.ticks } }
    (s.bitField F.SAF_STO_SS1_RUN g true).raiseSt (1684 + g) R.SAF_STO

/-- The groups of a pair. -/
def State.pairGroups (s : State) (p : Nat) : List Nat := (List.range 4).filter (testBit (s.g (F.SAF_SI_CFG_GROUPS p)))

/-- A pair's demand begins or ends (R453, R458, R462). -/
def State.pairDemand (s : State) (p : Nat) (demand : Bool) : State :=
  let was := testBit (s.g F.SAF_SI_STATUS_DEMAND) p
  let s := s.bitField F.SAF_SI_STATUS_DEMAND p demand
  if demand && !was then
    let s := s.raiseSt (1664 + p) R.SAF_SI_STATUS
    s.when (s.g (F.SAF_SI_CFG_FUNC p) == 2) fun s => s.each (s.pairGroups p) fun g s => s.ss1Begin g
  else if was && !demand && !s.is (F.SAF_SI_CFG_RESTART p) then
    s.each (s.pairGroups p) fun g s => s.bitField F.SAF_STO_RESTART_WAIT g true
  else s

/-- A pair's disagreement begins, goes on or ends (R454, R455). -/
def State.pairDisc (s : State) (p : Nat) (differ : Bool) : State :=
  let t := tabGet (fun _ => none) s.saf.discSince p
  let x := if differ then some (t.getD s.tb.ticks) else none
  { s with saf := { s.saf with discSince := tabSet (fun _ => none) s.saf.discSince p x } }.bitField
    F.SAF_SI_STATUS_DISC_RUN p differ

/-- A pair in a safety cycle (R453 to R455); an unused one demands nothing. [DEDUCED, unsafe, log 110] -/
def State.pairCycle (s : State) (p : Nat) (a b : Bool) : State :=
  let hold := s.g (F.SAF_SI_CFG_FILT p) * (msTicks / 2)
  let ra := s.accept p hold a (testBit s.saf.siA p)
  let rb := ra.1.accept (8 + p) hold b (testBit ra.1.saf.siB p)
  let s := rb.1
  let s := { s with saf := { s.saf with siA := setBit s.saf.siA p ra.2, siB := setBit s.saf.siB p rb.2 } }
  let closedA := ra.2
  let closedB := rb.2 != s.is (F.SAF_SI_CFG_MODE p)
  let func := s.g (F.SAF_SI_CFG_FUNC p)
  if func != 1 && func != 2 then (s.pairDisc p false).bitField F.SAF_SI_STATUS_DEMAND p false
  else if s.inputsDown then (s.pairDisc p false).pairDemand p true
  else (s.pairDisc p (closedA != closedB)).pairDemand p (!(closedA && closedB))

/-- Is a filtered high of SRESET that began at a tick and ends now a valid pulse: from 50 ms to 5 s (R456)? -/
def validPulse (rise now : Nat) : Bool := decide (rise + 50 * msTicks ≤ now) && decide (now ≤ rise + 5000 * msTicks)

/-- SRESET in a safety cycle: filtered for 10 ms; the filtered falling edge ends a pulse, and a filtered low ends
SRESET_STUCK (R456). -/
def State.sresetCycle (s : State) (raw : Bool) : State :=
  let was := s.is F.SAF_SI_STATUS_SRESET
  let r := s.accept 16 (10 * msTicks) raw was
  let s := r.1.pb F.SAF_SI_STATUS_SRESET r.2
  let fell := was && !r.2
  let s := { s with saf := { s.saf with
    srRise := if r.2 && !was then s.tb.ticks else s.saf.srRise
    srPulse := fell && !s.is F.SAF_SI_STATUS_SRESET_STUCK && validPulse s.saf.srRise s.tb.ticks } }
  s.when (!r.2) fun s => s.off F.SAF_SI_STATUS_SRESET_STUCK

/-! ### Brakes -/

/-- May the brake of an axis be released (R464)? -/
def State.brakeWanted (s : State) (n : Nat) : Bool :=
  let testing := match s.saf.bt with
    | some b => b.axis == n
    | none => false
  s.is (F.SAF_BRK_CFG_EN n) && s.is (F.AX_PWM_STATUS_OUT_ACTIVE n) && !s.sto (s.axGroup n) && !s.devLocked &&
    !s.axLocked n && !testing && !s.is (F.SAF_BRK_STATUS_BT_BLOCKED n)

/-- A brake in a safety cycle: released, which BRAKE_OPS counts (R553), or engaged (R464, R465), and its sense input
checked once BS_OFF has passed since the last change (R466); with the field region isolated its readback is lost (R32), which is
a mismatch. [DEDUCED, unsafe, log 111] -/
def State.brakeCycle (s : State) (n : Nat) : State :=
  let s :=
    if !s.brakeWanted n then s.engage n
    else if s.is (F.SAF_BRK_STATUS_RELEASED n) then s
    else ((s.setBrk n { s.brkOf n with since := s.tb.ticks, darkTick := s.tb.ticks }).on
      (F.SAF_BRK_STATUS_RELEASED n)).addLife (lifeBrake + n) 1
  let b := s.brkOf n
  let rel := s.is (F.SAF_BRK_STATUS_RELEASED n)
  let settled := decide (b.since + atLeast1 (s.g (F.SAF_BRK_CFG_BS_OFF n)) * msTicks ≤ s.tb.ticks)
  if settled && !b.dark && !s.is (F.SAF_BRK_STATUS_FAULT n) && (s.isolated regField || s.is (F.SAF_BRK_STATUS_BS n) != rel)
  then s.brakeFault n (if rel then 2 else 3) else s

/-- DARK_TEST (R467): DT_PERIOD has passed, and one switch of a released brake goes off. [DESIGN CHOICE, safe, log 4] -/
def execDarkTest (n : Fin 16) (s : State) : Res :=
  let b := s.brkOf n
  if !s.is (F.SAF_BRK_STATUS_RELEASED n) || b.dark ||
      s.tb.ticks < b.darkTick + atLeast1 (s.g (F.SAF_BRK_CFG_DT_PERIOD n)) * 1000 * msTicks then .next s
  else
    let s := s.setBrk n { b with dark := true, darkTick := s.tb.ticks }
    .next (if s.is (F.SAF_BRK_STATUS_BS n) then s else s.darkEnd n)

/-- DARK_TEST_TIMEOUT (R467): 500 µs have passed and BSn still reads high. -/
def execDarkTestTimeout (n : Fin 16) (s : State) : Res :=
  let b := s.brkOf n
  if !b.dark || s.tb.ticks < b.darkTick + msTicks / 2 then .next s
  else .next ((s.setBrk n { b with dark := false, darkL := !b.darkL }).brakeFault n 1)

/-! ### STO -/

/-- A group's STO is released at the end of a cycle in which no cause holds and it awaits no restart (R457, R481).
[DEDUCED, unsafe, log 111] -/
def State.stoRelease (s : State) (g : Nat) : State :=
  if !s.sto g || s.stoCause g || testBit (s.g F.SAF_STO_RESTART_WAIT) g || !s.saf.reloaded then s
  else
    let s := s.bitField F.SAF_STO_ASSERTED g false
    let s := s.each (s.groupAxes g) fun n s => s.refreshAxis n
    s.each (s.groupAux g) fun c s => s.refreshAux c

/-- Each channel re-arms its own pin's wave of a released group in the safety cycle (R459); `miss` names the pins whose
channel fails to. -/
def State.rearm (s : State) (miss : Nat) (i : Nat) : State :=
  if s.sto (i / 2) || testBit miss i then s
  else { s with saf := { s.saf with waves := tabSet (fun _ => none) s.saf.waves i (some s.tb.ticks) } }

/-- An expired timer holds STO until no FUNC 2 pair of the group demands (R457, R463). -/
def State.ss1Clear (s : State) (g : Nat) : State :=
  if s.pairDemands 2 g then s
  else { s with saf := { s.saf with ss1Expired := setBit s.saf.ss1Expired g false } }

/-! ### Lock-outs -/

/-- Does the cause of the device lock-out still hold (R476, R563)? [DEDUCED, unsafe, log 111] -/
def State.causeActive (s : State) : Bool :=
  match s.g F.SAF_LOCK_CAUSE with
  | 1 => !s.saf.reloaded
  | 2 => s.saf.disagree
  | 3 => (List.range 8).any fun p => testBit (s.g F.SAF_SI_STATUS_DISC_FAULT) p && testBit (s.g F.SAF_SI_STATUS_DISC_RUN) p
  | 4 => s.saf.mismatch != 0
  | 5 => s.saf.psetForce.isNone || s.saf.copyBad
  | 6 => s.saf.fxgDiffers
  | 7 => s.isolated regField
  | 8 => s.isolated regSafety
  | _ => false

/-- The checks of a cycle that latch the device lock-out (R449, R461, R474, R481). -/
def State.lockChecks (s : State) (i : SafIn) : State :=
  let both := Nat.land s.saf.mismatch i.readback.toNat
  let s := { s with saf := { s.saf with
    mismatch := i.readback.toNat, disagree := i.disagree, copyBad := i.copyBad, fxgDiffers := i.fxgBad } }
  let s := s.when i.disagree fun s => s.lockDevice 2
  let s := s.when (both != 0) fun s => s.lockDevice 4
  let s := s.when i.copyBad fun s => s.lockDevice 5
  s.when i.fxgBad fun s => s.lockDevice 6

/-- Is a safety cycle due: the channels run (R511, R517, R523), and T_s = 1 ms has passed since the last one began (R449)?
[DEDUCED, unsafe, log 110] -/
def State.cycleDue (s : State) : Bool :=
  s.clk.power = .run && !s.clk.tripped && !s.clk.down.contains 1 && match s.saf.cycTick with
  | some t => decide (t + msTicks ≤ s.tb.ticks)
  | none => true

/-- SAFETY_CYCLE (R449): once per T_s, inputs, functions, outputs and the comparison of results. -/
def execSafetyCycle (i : SafIn) (s : State) : Res :=
  if !s.cycleDue then .next s else
  let s := { s with saf := { s.saf with cycTick := some s.tb.ticks } }
  let s := s.when (!s.isolated regField) fun s =>
    (s.p F.FIO_SAFE_LEVEL_SI ((List.range 8).foldl (fun a p =>
      a + 4 ^ p * (bit (testBit i.a.toNat p) + 2 * bit (testBit i.b.toNat p))) 0)).pb F.FIO_SAFE_LEVEL_SRESET i.sreset
  let s := s.each (List.range 8) fun p s => s.pairCycle p (testBit i.a.toNat p) (testBit i.b.toNat p)
  let s := (s.sresetCycle i.sreset).lockChecks i
  let s := s.each (List.range 4) fun g s => ((s.ss1Clear g).evalGroup g).stoRelease g
  let s := s.each (List.range 8) fun k s => s.rearm i.unarmed.toNat k
  let s := s.each (List.range 16) fun n s => s.brakeCycle n
  .next (s.pb F.SAF_LOCK_CAUSE_ACTIVE (s.devLocked && s.causeActive))

/-- DISCREPANCY_FAULT (R454): the channels of a pair have disagreed for longer than DISC. -/
def execDiscrepancyFault (p : Fin 8) (s : State) : Res :=
  match tabGet (fun _ => none) s.saf.discSince p with
  | none => .next s
  | some t =>
    if s.tb.ticks ≤ t + atLeast1 (s.g (F.SAF_SI_CFG_DISC p)) * msTicks || testBit (s.g F.SAF_SI_STATUS_DISC_FAULT) p
    then .next s
    else .next (((s.bitField F.SAF_SI_STATUS_DISC_FAULT p true).raiseSt (1672 + p) R.SAF_SI_STATUS).lockDevice 3)

/-- SS1_EXPIRY (R462, R463): the timer of a group expires and STO is asserted. [DEDUCED, unsafe, log 111] -/
def execSs1Expiry (g : Fin 4) (s : State) : Res :=
  if !testBit (s.g F.SAF_STO_SS1_RUN) g ||
      s.tb.ticks < s.saf.ss1Start.getD g 0 + s.g (F.SAF_SS1_T_T_SS1 g) * msTicks then .next s
  else
    let s := s.bitField F.SAF_STO_SS1_RUN g false
    let s := { s with saf := { s.saf with ss1Expired := setBit s.saf.ss1Expired g true } }
    .next (s.evalGroup g)

/-- CHANNEL_CLOCK_LOST (R451): the latches assert STO, engage every brake and record cause 9. -/
def execChannelClockLost (s : State) : Res := .next (s.lockDevice 9)

/-! ### The deliberate reset -/

/-- The device lock-out is cleared (R456, R458). -/
def State.unlockDevice (s : State) : State :=
  let s := ((s.off F.SAF_LOCK_DEVICE).off F.SAF_LOCK_CAUSE).off F.SAF_LOCK_CAUSE_ACTIVE
  ((s.off F.SAF_SI_STATUS_DISC_FAULT).p F.SAF_STO_RESTART_WAIT 15).evalGroups.refreshAxes

/-- An axis lock-out is cleared, and with it the brake fault that it latched (R456, R468). -/
def State.unlockAxis (s : State) (n : Nat) : State :=
  let s := (s.bitField F.SAF_LOCK_AXIS n false).p (F.FXG_AX_STATUS_HOLD n) 0
  let s := (s.off (F.FXG_AX_STATUS_CAUSE n)).off (F.SAF_BRK_STATUS_FAULT n)
  (s.off (F.SAF_BRK_STATUS_FAULT_WHY n)).refreshAxis n

/-! ### Safety parameter sets -/

/-- CRC-32 of R479. -/
def crc32 (l : List Byte) : Word :=
  BitVec.ofNat 32 (Nat.xor (l.foldl (fun c b => crcBitsR 0xEDB88320 8 (Nat.xor c b.toNat)) 0xFFFFFFFF) 0xFFFFFFFF)

/-- A little-endian number in a list of bytes. -/
def leAt (l : List Byte) (i n : Nat) : Nat := ofBytesLE ((l.drop i).take n)

/-- The set that bytes spell (*Safety parameter set*). -/
def psetOf (l : List Byte) : Pset :=
  ⟨leAt l 4 4, BitVec.ofNat 32 (leAt l 8 4), (List.range (leAt l 2 2)).map fun i =>
    ⟨leAt l (16 + 12 * i) 4, BitVec.ofNat 32 (leAt l (20 + 12 * i) 4), BitVec.ofNat 32 (leAt l (24 + 12 * i) 4)⟩⟩

/-- The RWS bits of a register, none where no register lies. -/
def rwsMask (a : Nat) : Nat :=
  match regRow? a with
  | some r => r.fields.foldl (fun m f => if f.acc = .rws then m + 2 ^ f.lo * (2 ^ f.w - 1) else m) 0
  | none => 0

/-- A register's word with the masked bits of a record in place. -/
def PsetRec.beyond (r : PsetRec) (w : Word) : Word := (w &&& ~~~r.mask) ||| (r.value &&& r.mask)

/-- The words that a set gives its registers, over those in force. -/
def State.psetWord (s : State) (l : List PsetRec) (a : Nat) : Word :=
  (l.filter (·.addr == a)).foldl (fun w r => r.beyond w) (s.rd a)

/-- Does a record leave every RWS field that it touches within its range (R480, R599)? -/
def State.recInRange (s : State) (r : PsetRec) : Bool :=
  let w := r.beyond (s.rd r.addr)
  match regRow? r.addr with
  | some x => x.fields.all fun f =>
      if f.acc = .rws ∧ getBits r.mask f.lo f.w ≠ 0
      then f.min ≤ getBits w f.lo f.w && getBits w f.lo f.w ≤ f.max else true
  | none => false

/-- Does a set leave every minimum at or below its maximum, and every SDCLK frequency legal (R480, R116)? -/
def State.psetOrdered (s : State) (l : List PsetRec) : Bool :=
  let w := s.psetWord l
  let pos := fun lo hi => signed 64 ((w lo).toNat + 2 ^ 32 * (w hi).toNat)
  ((List.range 16).all fun n =>
    decide ((w (R.FXG_AX_VMIN n)).int ≤ (w (R.FXG_AX_VMAX n)).int) &&
      decide (getBits (w (R.FXG_AX_DUTY n)) 0 9 ≤ getBits (w (R.FXG_AX_DUTY n)) 16 9) &&
      decide (pos (R.FXG_AX_PMIN_LO n) (R.FXG_AX_PMIN_HI n) ≤ pos (R.FXG_AX_PMAX_LO n) (R.FXG_AX_PMAX_HI n))) &&
    ((List.range 4).all fun g =>
      decide (signed 16 (getBits (w (R.FXG_DL_WIN g)) 0 16) ≤ signed 16 (getBits (w (R.FXG_DL_WIN g)) 16 16))) &&
    (List.range 4).all fun k => getBits (w R.GLB_SDCLK_CFG) (2 * k) 2 != 3

/-- Does no register appear twice? -/
def noTwice : List Nat → Bool
  | [] => true
  | a :: t => !t.contains a && noTwice t

/-- The checks of R480 after that of the handle, on the bytes of a set; 0 when it passes. -/
def State.psetReason (s : State) (l : List Byte) : Nat :=
  let n := leAt l 2 2
  let whole := l.take (16 + 12 * n)
  let p := psetOf l
  if l.length < 16 || leAt l 0 2 != 1 || n == 0 || 1024 < n || l.length < 16 + 12 * n then 2
  else if crc32 (whole.take 8 ++ [0, 0, 0, 0] ++ whole.drop 12) != p.crc then 3
  else if p.seq ≤ (s.rd R.SAF_PSET_SEQ).toNat then 4
  else if p.recs.any fun r => rwsMask r.addr == 0 || Nat.land r.mask.toNat (rwsMask r.addr) != r.mask.toNat then 5
  else if !p.recs.all s.recInRange || !s.psetOrdered p.recs then 6
  else if !noTwice (p.recs.map (·.addr)) then 7
  else 0

/-- The owner that holds the safety role, coded as POOL_LAST_INFO.OWNER. -/
def State.safetyOwner (s : State) : Nat := ((List.range 4).find? fun n => decide (s.role n = .safety)).getD 7

/-- STATE and REASON of SAF_PSET_STATUS. -/
def State.psetState (s : State) (state reason : Nat) : State :=
  (s.p F.SAF_PSET_STATUS_STATE state).p F.SAF_PSET_STATUS_REASON reason

/-- LOAD (R480): the bytes are read from the buffer, under the checks of its handle. [DEDUCED, unsafe, log 113] -/
def State.psetBegin (s : State) : State :=
  let od := s.safetyOwner
  let h := s.rd R.SAF_PSET_HANDLE
  let s := s.psetState 1 0
  match s.handleErr od false h with
  | some st => { s with saf := { s.saf with psetWait := none, psetRead := some none } }.refuseHandle od h st
  | none =>
    let n := min (classSize (handleClass h)) 12304
    let a := s.bufAddr h
    let l := if (s.ipmPoison a n).isSome then [] else s.ipmBytes (s.keyOf od) a n
    { s with saf := { s.saf with psetWait := none, psetRead := some (some l) } }.p F.SAF_PSET_STATUS_RECORDS (leAt l 2 2)

/-- A write of SAF_PSET_CMD (R480): DISCARD before LOAD. -/
def wrPsetCmd (v : Word) (s : State) : State :=
  let s := s.when (getBits v 1 1 == 1 && s.saf.psetWait.isSome) fun s =>
    { s with saf := { s.saf with psetWait := none } }.psetState 0 0
  s.when (getBits v 0 1 == 1) fun s => s.psetBegin

/-- PSET_LOAD (R480). -/
def execPsetLoad (rq : Rq) (s : State) : Res := .next (s.write rq R.SAF_PSET_CMD (wrPsetCmd 1))

/-- PSET_DISCARD (R480). -/
def execPsetDiscard (rq : Rq) (s : State) : Res := .next (s.write rq R.SAF_PSET_CMD (wrPsetCmd 2))

/-- PSET_CHECK_DONE (R480): both channels have checked the set. It awaits acknowledgement or is refused; different outcomes
latch the device lock-out. [DEDUCED, unsafe, log 113] -/
def execPsetCheckDone (agree : Bool) (s : State) : Res :=
  match s.saf.psetRead with
  | none => .next s
  | some r =>
    let s := { s with saf := { s.saf with psetRead := none } }
    let reason := match r with
      | some l => s.psetReason l
      | none => 1
    let s :=
      if !agree then ((s.psetState 3 s.freshWord.toNat).took).lockDevice 2
      else if reason != 0 then s.psetState 3 reason
      else { s with saf := { s.saf with psetWait := r.map psetOf, psetTick := s.tb.ticks } }.psetState 2 0
    .next (s.raiseSt 1601 R.SAF_PSET_STATUS)

/-- A waiting set that is not acknowledged within 60 s lapses (R480). -/
def State.psetLapse (s : State) : State :=
  if s.saf.psetWait.isNone || s.tb.ticks < s.saf.psetTick + 60000 * msTicks then s
  else { s with saf := { s.saf with psetWait := none } }.psetState 3 8

/-- PSET_LAPSE (R480): a waiting set is not acknowledged within 60 s. -/
def execPsetLapse (s : State) : Res := .next s.psetLapse

/-- A record takes effect (R481, R117, R436). -/
def State.psetRec (s : State) (r : PsetRec) : State :=
  let w := r.beyond (s.rd r.addr)
  if r.addr == R.GLB_SDCLK_CFG then s.each (List.range 4) fun k s => s.askFreq k (getBits w (2 * k) 2)
  else if R.FIO_BS_CFG 0 ≤ r.addr && r.addr < R.FIO_BS_CFG 16 then
    let k := 64 + (r.addr - R.FIO_BS_CFG 0) / 8
    let old := s.rd r.addr
    let s := s.wr r.addr w
    s.when (getBits old 0 10 != getBits w 0 10 || getBits old 12 8 != getBits w 12 8) fun s => s.restartInput k
  else s.wr r.addr w

/-- A set comes into force (R481). -/
def State.psetInForce (s : State) (p : Pset) : State :=
  let s := s.each p.recs fun r s => s.psetRec r
  let s := (s.wr R.SAF_PSET_SEQ (BitVec.ofNat 32 p.seq)).wr R.SAF_PSET_CRC p.crc
  { s with saf := { s.saf with psetForce := some p, copyBad := false, fxgDiffers := false } }

/-- The set that awaits acknowledgement takes effect and is stored to the flash (R456, R481). [DEDUCED, unsafe, log 113] -/
def State.psetApply (s : State) (p : Pset) : State :=
  let s := { s with saf := { s.saf with psetWait := none, psetFlash := some p } }
  ((s.psetInForce p).psetState 0 0).journal 11 7 (Config.severity 1601) [p.seq, p.crc.toNat]

/-- PSET_LOADED (R481, R563): Hollyhock has reloaded the set from the flash, which could be read or not; without a good
set the reset values stay in force with lock-out cause 5. -/
def execPsetLoaded (ok : Bool) (s : State) : Res :=
  if s.saf.reloaded then .next s
  else
    let s := { s with saf := { s.saf with reloaded := true } }
    match ok, s.saf.psetFlash with
    | true, some p => .next ((s.psetInForce p).on F.GLB_READY_PSET_LOADED).motionReady
    | _, _ => .next (s.lockDevice 5).motionReady

/-! ### SRESET -/

/-- An unlock that has awaited its pulse for 5 s lapses (R477). -/
def State.unlockLapse (s : State) : State :=
  if s.saf.unlock.isNone || s.tb.ticks < s.saf.unlockTick + 5000 * msTicks then s
  else ({ s with saf := { s.saf with unlock := none } }.off F.SAF_LOCK_UNLOCK_WAIT).on F.SAF_LOCK_UNLOCK_EXPIRED

/-- SRESET_PULSE (R456): the valid pulse whose filtered falling edge the last safety cycle found does exactly one of three,
in this order: a waiting set, an awaiting unlock, the restart of the groups without a cause. -/
def execSresetPulse (s : State) : Res :=
  if !s.saf.srPulse then .next s
  else
  let s := { s with saf := { s.saf with srPulse := false } }.psetLapse.unlockLapse
  match s.saf.psetWait, s.saf.unlock with
    | some p, _ => .next (s.psetApply p)
    | none, some scope =>
      let s := { s with saf := { s.saf with unlock := none } }.off F.SAF_LOCK_UNLOCK_WAIT
      match scope with
      | none => .next s.unlockDevice
      | some n => .next (s.unlockAxis n)
    | none, none => .next (s.each (List.range 4) fun g s =>
        if s.stoCause g then s else s.bitField F.SAF_STO_RESTART_WAIT g false)

/-- SRESET_STUCK (R456): the filtered high has lasted longer than 5 s. -/
def execSresetStuck (s : State) : Res :=
  if !s.is F.SAF_SI_STATUS_SRESET || s.tb.ticks ≤ s.saf.srRise + 5000 * msTicks then .next s
  else .next (s.on F.SAF_SI_STATUS_SRESET_STUCK)

/-- Does the cause of an axis lock-out still hold (R476, R477): lost feedback, a slot overrun not cleared, DC-link sources that
still differ, or a brake coil that reads powered? The other causes are those of one datum, or need OUT_ACTIVE.
[DEDUCED, unsafe, log 201] -/
def State.axCauseActive (s : State) (n : Nat) : Bool :=
  match s.g (F.FXG_AX_STATUS_CAUSE n) with
  | 8 => s.is (F.AX_FB_STATUS_FAULT n)
  | 9 => s.slotHolds n
  | 12 => (s.groupAxes (s.axGroup n)).any fun m => s.g (F.AX_TLM_STATUS_STATE m) == 2 && tabGet (fun _ => 0) s.saf.dlDiffer m == 3
  | 13 => s.is (F.SAF_BRK_STATUS_BS n)
  | _ => false

/-- Is an unlock refused (R477)? [DEDUCED, unsafe, log 201] -/
def State.unlockRefused (s : State) (v : Word) : Bool :=
  let n := getBits v 17 4
  let ready :=
    if getBits v 16 1 == 0 then s.devLocked && !s.causeActive
    else s.axLocked n && !s.axCauseActive n
  getBits v 0 16 != 0xC35A || !ready || s.saf.psetWait.isSome

/-- A write of SAF_UNLOCK (R477). -/
def wrSafUnlock (v : Word) (s : State) : State :=
  if s.unlockRefused v then s.on F.SAF_LOCK_UNLOCK_REFUSED
  else
    let scope := if getBits v 16 1 == 0 then none else some (getBits v 17 4)
    { s with saf := { s.saf with unlock := some scope, unlockTick := s.tb.ticks } }.on F.SAF_LOCK_UNLOCK_WAIT

/-- SAF_UNLOCK (R477). -/
def execSafUnlock (rq : Rq) (v : Word) (s : State) : Res := .next (s.write rq R.SAF_UNLOCK (wrSafUnlock v))

/-- UNLOCK_EXPIRY (R477): 5 s have passed without a pulse. -/
def execUnlockExpiry (s : State) : Res := .next s.unlockLapse

/-! ### The brake test -/

/-- Is the start of a brake test refused (R469)? -/
def State.btRefused (s : State) (n ticket : Nat) : Bool :=
  s.saf.bt.isSome || !s.is (F.AX_PWM_STATUS_OUT_ACTIVE n) ||
    !(s.mg.ledger.any fun e => e.activity == 1 && e.object == n && e.ticket == ticket)

/-- START of a brake test (R469). -/
def State.btBegin (s : State) (n ticket : Nat) : State :=
  if s.btRefused n ticket then
    let s := (s.p F.SAF_BT_RESULT_RESULT 3).p F.SAF_BT_RESULT_REASON 6
    s.when s.saf.bt.isNone fun s => (s.p F.SAF_BT_RESULT_STATE 2).p F.SAF_BT_RESULT_AXIS n
  else
    let s := (s.wr R.SAF_BT_RESULT 1).p F.SAF_BT_RESULT_AXIS n
    { s with saf := { s.saf with bt := some ⟨n, ticket, false, 0, s.tb.ticks, none, 0, 0⟩ } }.engage n

/-- A write of SAF_BT_CMD (R469): ABORT ends the running test, START starts one. [DEDUCED, unsafe, log 112] -/
def wrBtCmd (v : Word) (s : State) : State :=
  let s := s.when (getBits v 5 1 == 1) fun s => s.btAbortIf (fun _ => true) 5
  s.when (getBits v 4 1 == 1) fun s => s.btBegin (getBits v 0 4) (getBits v 16 16)

/-- BT_START (R469). -/
def execBtStart (rq : Rq) (n : Fin 16) (ticket : BitVec 16) (s : State) : Res :=
  .next (s.write rq R.SAF_BT_CMD (wrBtCmd (BitVec.ofNat 32 (n.val + 16 + 65536 * ticket.toNat))))

/-- BT_ABORT (R469). -/
def execBtAbort (rq : Rq) (s : State) : Res := .next (s.write rq R.SAF_BT_CMD (wrBtCmd 32))

/-- BT_SETTLE_END (R469): the start position is recorded. [DEDUCED, unsafe, log 112] -/
def execBtSettleEnd (s : State) : Res :=
  match s.saf.bt with
  | some b =>
    if b.settled || s.tb.ticks < b.start + s.g F.SAF_BT_CFG_BT_SETTLE * 10 * msTicks then .next s
    else .next { s with saf := { s.saf with
      bt := some { b with settled := true, start := s.tb.ticks, p0 := tabGet (fun _ => 0) s.saf.posTap b.axis } } }
  | none => .next s

/-- BT_PASS (R469, R470): the current has stayed at or above BT_I for BT_TIME. -/
def execBtPass (s : State) : Res :=
  match s.saf.bt with
  | some b => match b.since with
    | some t =>
      if s.tb.ticks < t + s.g F.SAF_BT_CFG_BT_TIME * msTicks then .next s
      else
        let s := s.btEnd b 1 0
        let s := s.setBrk b.axis { s.brkOf b.axis with lastPass := s.tb.ticks }
        .next ((s.off (F.SAF_BRK_STATUS_BT_DUE b.axis)).off (F.SAF_BRK_STATUS_BT_BLOCKED b.axis))
    | none => .next s
  | none => .next s

/-- BT_CURRENT_TIMEOUT (R469): BT_I is not reached within 5 s. -/
def execBtCurrentTimeout (s : State) : Res :=
  match s.saf.bt with
  | some b =>
    if !b.settled || s.g ⟨R.SAF_BT_I, 0, 24⟩ ≤ b.peak || s.tb.ticks < b.start + 5000 * msTicks then .next s
    else .next (s.btEnd b 3 3)
  | none => .next s

/-- Ticks in an hour. -/
def hourTicks : Nat := 3600000 * msTicks

/-- BT_DUE (R470). -/
def execBtDue (n : Fin 16) (s : State) : Res :=
  let h := s.g (F.SAF_BRK_CFG_BT_INTERVAL n)
  if h == 0 || s.is (F.SAF_BRK_STATUS_BT_DUE n) || s.tb.ticks < (s.brkOf n).lastPass + h * hourTicks then .next s
  else .next ((s.on (F.SAF_BRK_STATUS_BT_DUE n)).raiseSt (1648 + n) (R.SAF_BRK_STATUS n))

/-- BT_BLOCK (R470, R464): a test more than 24 h overdue blocks the release of its brake. -/
def execBtBlock (n : Fin 16) (s : State) : Res :=
  let h := s.g (F.SAF_BRK_CFG_BT_INTERVAL n)
  if h == 0 || !s.is (F.SAF_BRK_CFG_ENFORCE n) || s.tb.ticks ≤ (s.brkOf n).lastPass + (h + 24) * hourTicks then .next s
  else .next ((s.on (F.SAF_BRK_STATUS_BT_BLOCKED n)).engage n)

end Sys2Proof.Machine
end

