-- ==== Sys2Proof/Machine/Reset.lean ====
section
/-! DEFINITION. Resets (R516 to R520): what the reset of each domain clears and keeps, the release of the domains in their
order, and what ends with them. -/

namespace Sys2Proof.Machine

/-! ### Domains

Numbered as *Release order*: 0 always-on, 1 safety, 2 clocks, 3 management, 4 host, 5 memory, 6 fabrics, 7 network,
8 motion, 9 field. -/

/-- The domain whose reset returns a register to its reset value. -/
def domainOf (a : Nat) : Nat :=
  match a / 0x100000 with
  | 0x0 => if 0x200 ≤ a && a < 0x400 then 8 else 0
  | 0x1 => if a < 0x100400 then 2 else 0
  | 0x2 => 7
  | 0x3 => 7
  | 0x4 => 8
  | 0x5 => 8
  | 0x6 => 8
  | 0x7 => 8
  | 0x8 => 8
  | 0x9 => 8
  | 0xA => 5
  | 0xB => 4
  | 0xC => 5
  | 0xD => 7
  | 0xE => 7
  | 0xF => 9
  | 0x10 => 6
  | 0x11 => 1
  | 0x12 => 3
  | _ => 0

/-- The registers that keep their value in the reset of their domain: the trims (*Reset sources and reach*) and what holds
the lock-outs (R476). [DEDUCED, unsafe, log 118] -/
def keptReg (a : Nat) : Bool :=
  a == R.CLK_TRIM || a == R.SAF_LOCK || (R.FXG_AX_STATUS 0 ≤ a && a ≤ R.FXG_AX_STATUS 15 && a % 0x40 == 0x24)

/-- The registers of a domain return to their reset values. -/
def State.clearRegs (s : State) (d : Nat) : State :=
  s.keepRegs fun a => domainOf a != d || keptReg a

/-- The domain that a launch action's target lies in. -/
def actDomain (code : Nat) : Nat :=
  if code == actFieldOff || code == actFieldWrite then 9
  else if code == actCaptureSample || code == actCaptureTrigger then 5
  else if code == actEthLaunch || code == actCanLaunch then 7
  else if code == actSwEvent then 6
  else 8

/-- The region of a domain (R516), with none for those that are no region's. -/
def domainRegion (d : Nat) : Option Nat :=
  match d with
  | 1 => some regSafety
  | 3 => some regMgmt
  | 4 => some regHost
  | 5 => some regMemory
  | 7 => some regTime
  | 8 => some regMotion
  | 9 => some regField
  | _ => none

/-- New keys for the device and every owner: what the in-package memory holds can be read no more (R345, R346).
[DESIGN CHOICE, safe, log 94; DEDUCED, safe, log 95] -/
def MemSt.rekeyed (m : MemSt) : MemSt :=
  let k := m.nextKey
  { MemSt.reset with owner := [k, k + 1, k + 2, k + 3], device := k + 4, nextKey := k + 5 }

/-- The memories as a reset of their domain leaves them (R345, R346). -/
def State.clearMemories (s : State) : State := { s with mem := [], ipm := s.ipm.rekeyed }

/-- A debug session ends (R544): every halted core resumes, and the end is journalled. -/
def State.endSession (s : State) : State :=
  match s.mg.session with
  | none => s
  | some x =>
    let s := { s with mg := { s.mg with session := none, halted := [false, false, false, false, false] } }
    s.journal 9 7 (Config.severity 1870) [0, x.permit, 0]

/-- A trial image that has not been confirmed within CONFIRM_TMO of its boot is dropped at the next reset, and the other
slot becomes preferred again (R537); CONFIRM_TMO 0 is read as 10. -/
def State.trialTimeout (s : State) : State :=
  let c := s.g F.MGT_CFG_CONFIRM_TMO
  let limit := (if c == 0 then 10 else c) * 60000 * msTicks
  if s.mg.trialFlag && s.is F.MGT_STATUS_TRIAL && s.mg.bootTick + limit ≤ s.tb.ticks
  then { s with mg := { s.mg with trialFlag := false, preferredB := !s.mg.preferredB } } else s

/-- What a domain's blocks do as their reset begins: outputs go off, brakes engage and STO is asserted (R519). -/
def State.leaveDomain (s : State) (d : Nat) : State :=
  match d with
  | 1 => s.each (List.range 4) fun g s => s.assertSto g
  | 3 => s.endSession.trialTimeout
  | 7 => s.setServo servoFree
  | 8 =>
    let s := s.each (List.range 16) fun n s => (s.off (F.AX_PWM_CTL_OUT_EN n)).refreshAxis n
    s.each (List.range 24) fun c s => (s.off (F.AUX_CTL_OUT_EN c)).refreshAux c
  | 9 => s.setFieldOut 0
  | _ => s

/-- The flags of GLB_READY that fall with a domain. [DEDUCED, unsafe, log 118] -/
def State.unready (s : State) (d : Nat) : State :=
  let s := match d with
    | 1 => s.off F.GLB_READY_PSET_LOADED
    | 3 => s.off F.GLB_READY_FW_VERIFIED
    | 4 => s.off F.GLB_READY_HOST_READY
    | 5 => s.off F.GLB_READY_MEM_READY
    | _ => s
  s.when ([1, 2, 3, 8, 9].contains d) fun s => (s.off F.GLB_READY_MOTION_READY).p F.GLB_READY_READY_MS 0

/-- What a domain holds beside its registers returns to its state after reset, but for what is kept: the set in the flash,
an awaiting unlock, the times of the last passed brake tests, the OTP, the flash and the always-on memory.
[DEDUCED, safe, log 95; DEDUCED, unsafe, log 118] -/
def State.clearDomain (s : State) (d : Nat) : State :=
  match d with
  | 1 =>
    let brk := s.saf.brk.foldl (fun t e => tabSet (fun _ => BrkSt.reset) t e.1 { BrkSt.reset with lastPass := e.2.lastPass }) []
    { s with saf := { SafSt.reset with
      psetFlash := s.saf.psetFlash, unlock := s.saf.unlock, unlockTick := s.saf.unlockTick, brk := brk } }
  | 2 => { s with clk := { s.clk with
      swWait := [], pendingRef := none, sysSeen := false, marigold := true, tripped := false, trimCount := 0,
      memWait := false, netDown := false, engRuns := false, sdTick := none, mgTick := none } }
  | 3 => { s with mg := { s.mg with
      ledger := [], deferred := none, proposals := [], intake := [], thermal := [], chops := [], compacting := false,
      warned := List.replicate 9 false, slackHiSince := none, refusals := 0, refusing := false,
      lastReason := 0, coreMem := s.mg.coreMem.filter fun e => e.1 < 4 * 2 ^ 24,
      coreReg := s.mg.coreReg.filter fun e => e.1 < 4 * 2 ^ 24 } }
  | 4 => { s with hif := [], setp := [], wide := [], msix := [] }
  | 5 => { s.clearMemories with cap := [], env := [] }
  | 6 => ({ s with evt := EvtSt.reset, snaps := [] }.p F.GLB_REGION_STATE_REGION_FAULT 0).p
      F.GLB_REGION_STATE_CLUSTER_FAULT_SEEN 0
  | 7 => { s with
      tb := { TimeSt.reset with ctr := s.tb.ctr, ticks := s.tb.ticks, tickRem := s.tb.tickRem }, lqs := [], eth := [],
      fdb := [], can := [] }
  | 8 => { s with
      pwm := [], bch := [], sense := SenseSt.reset, fb := [], prb := [], chans := [], grps := [], stag := [], ae := [], sup := [],
      lsh := LshSt.reset, aux := [], adc := [],
      mg := { s.mg with coreMem := s.mg.coreMem.filter (fun e => 4 * 2 ^ 24 ≤ e.1),
                        coreReg := s.mg.coreReg.filter (fun e => 4 * 2 ^ 24 ≤ e.1) } }
  | 9 => { s with fio := FioSt.reset }
  | _ => s

/-- The reset of one domain (R516): its region's isolation ends (R23). -/
def State.resetDomain (s : State) (d : Nat) : State :=
  let trimmed := s.is F.CLK_STATUS_SD_TRIMMED
  let s := ((s.leaveDomain d).clearRegs d).clearDomain d
  let s := { s with held := s.held.filter fun h => actDomain h.e.code != d }
  let s := s.when (d == 2) fun s => s.pb F.CLK_STATUS_SD_TRIMMED trimmed
  let s := s.unready d
  match domainRegion d with
  | some r => s.p F.GLB_REGION_STATE_ISOLATED (setBit (s.g F.GLB_REGION_STATE_ISOLATED) r false)
  | none => s

/-- The domains of a list that are held in reset beside those that are already. -/
def joinDomains (a b : List Nat) : List Nat := (List.range 10).filter fun d => a.contains d || b.contains d

/-- Domains are reset and held in reset. -/
def State.holdDomains (s : State) (l : List Nat) : State :=
  let s := s.each l fun d s => s.resetDomain d
  let s := { s with clk := { s.clk with down := joinDomains s.clk.down l } }
  (s.refreshAxes.each (List.range 24) fun c s => s.refreshAux c).fieldOuts

/-- Domains are reset, to be released one after the other (R517). -/
def State.resetDomains (s : State) (l : List Nat) : State :=
  let s := s.holdDomains l
  { s with clk := { s.clk with releases := joinDomains s.clk.releases l, relTick := none } }

/-! ### Reset sources -/

/-- All domains but always-on. -/
def allButAlwaysOn : List Nat := [1, 2, 3, 4, 5, 6, 7, 8, 9]

/-- EV0011 for the latest reset (R520). -/
def State.resetEvent (s : State) : State := s.raiseSt 11 R.RST_CAUSE

/-- A reset's source enters RST_CAUSE and the journal (R520); FROM_DORMANT speaks of the last reset alone. -/
def State.noteReset (s : State) (src : Nat) : State :=
  let s := (s.p F.RST_CAUSE_SRC (setBit (s.g F.RST_CAUSE_SRC) src true)).p F.RST_CAUSE_LAST src
  (s.off F.PWR_STATUS_FROM_DORMANT).journal 1 7 (Config.severity 11) [src]

/-- The end of a reset (R520): its source is recorded and journalled, and EV0011 follows once the management domain is
released. -/
def State.endReset (s : State) (src : Nat) (l : List Nat) : State :=
  let s := s.resetDomains l
  let s := { s with clk := { s.clk with raise11 := l.contains 3, resetTick := s.tb.ticks, kickTick := s.tb.ticks } }
  (s.noteReset src).when (!l.contains 3) State.resetEvent

/-- A reset of every domain but always-on; the device runs again after it. -/
def State.resetAll (s : State) (src : Nat) : State :=
  let s := s.endReset src allButAlwaysOn
  { s with clk := { s.clk with power := .run, waking := false, wdogAsk := false } }

/-- A power-on reset (R516): nothing is kept but what the flash and the OTP hold; the life counters come back from the
flash and POWER_CYCLES rises (R553). -/
def State.powerOn (s : State) : State :=
  let m := s.trialTimeout.mg
  { State.reset with
    pending := s.pending, free := s.free, out := s.out, pol := m.policyFlash
    mg := { MgmtSt.reset with
      journal := m.journal, buffer := [⟨m.nextSeq, 0, 1, 7, Config.severity 11, [0]⟩], nextSeq := m.nextSeq + 1
      keys := m.keys, rollback := m.rollback, slotA := m.slotA, slotB := m.slotB, preferredB := m.preferredB
      trialFlag := m.trialFlag, policyFlash := m.policyFlash, policyImage := m.policyImage
      policyStaged := m.policyStaged, life := m.lifeFlash, lifeFlash := m.lifeFlash, challengeNo := m.challengeNo
      ecFlashCopies := m.ecFlashCopies }
    saf := { SafSt.reset with psetFlash := s.saf.psetFlash }
    ipm := s.ipm.rekeyed }.addLife 1 1

/-- POWER_ON_RESET (R516). -/
def execPowerOnReset (s : State) : Res := .next s.powerOn

/-- BROWN_OUT_RESET (R516, R526): a supply was low, or the device leaves Dormant once a wake has brought the supplies back;
what the in-package memory and the keys held is lost. -/
def execBrownOutReset (s : State) : Res :=
  if s.clk.power = .dormant then
    if !s.clk.waking then .next s
    else
      let s := { s with mg := { s.mg with calFirst := true } }.resetAll 1
      .next (s.on F.PWR_STATUS_FROM_DORMANT)
  else .next (s.resetAll 1)

/-- PIN_RESET (R516). -/
def execPinReset (s : State) : Res := .next (s.resetAll 2)

/-- WATCHDOG_RESET (R516): the watchdog has not been kicked within TIMEOUT, or a chip-level fault requests the reset. A
halted Camellia's watchdog is suspended (R543); it runs in Run only. -/
def execWatchdogReset (s : State) : Res :=
  let late := decide (s.clk.kickTick + s.g F.RST_WDOG_TIMEOUT * msTicks ≤ s.tb.ticks) && !s.mg.halted.getD 4 false &&
    s.clk.power = .run
  if s.clk.wdogAsk || late then .next (s.resetAll 3) else .next s

/-- A write of RST_WDOG (R516): TIMEOUT from 10 to 65,535 ms, else the write is refused (R599); KICK restarts the
watchdog. -/
def wrRstWdog (v : Word) (s : State) : State :=
  if getBits v 0 16 < 10 then s
  else
    let s := s.p F.RST_WDOG_TIMEOUT (getBits v 0 16)
    s.when (getBits v 16 1 == 1) fun s => { s with clk := { s.clk with kickTick := s.tb.ticks } }

/-- WATCHDOG_KICK (R516): a write of RST_WDOG with KICK 1 that leaves TIMEOUT. -/
def execWatchdogKick (rq : Rq) (s : State) : Res :=
  .next (s.write rq R.RST_WDOG (wrRstWdog (putBits (s.rd R.RST_WDOG) 16 1 1)))

/-- The domains of RST_CMD.SCOPE (*Reset sources and reach*); 5 to 7 are reserved. -/
def scopeDomains (scope : Nat) : Option (List Nat) :=
  match scope with
  | 0 => some [2, 3, 4, 5, 6, 7, 8, 9]
  | 1 => some [8]
  | 2 => some [7]
  | 3 => some [9]
  | 4 => some [3]
  | _ => none

/-- A write of RST_CMD (R516): any other KEY is ignored, and a reserved SCOPE refused (R599). -/
def wrRstCmd (v : Word) (s : State) : State :=
  if getBits v 0 16 != 0x3CA5 then s
  else match scopeDomains (getBits v 16 3) with
    | some l => s.endReset 6 l
    | none => s

/-- SOFTWARE_RESET (R516). -/
def execSoftwareReset (rq : Rq) (scope : Fin 8) (s : State) : Res :=
  .next (s.write rq R.RST_CMD (wrRstCmd (BitVec.ofNat 32 (0x3CA5 + 65536 * scope.val))))

/-- CAMELLIA_LOCKUP (R516): the management domain takes a processor lock-up reset, unless the debug port halts Camellia
(R543). -/
def execCamelliaLockup (s : State) : Res :=
  if s.mg.halted.getD 4 false then .next s
  else .next ((s.on F.RST_LOCKUP_CAMELLIA).endReset 7 [3])

/-- PCIE_FUNDAMENTAL_RESET (R516): PERST_N low resets the host domain. -/
def execPcieFundamentalReset (s : State) : Res := .next (s.endReset 8 [4])

/-! ### Releases -/

/-- The always-on log buffer is copied into the journal in SEQ order and emptied (R531). -/
def State.copyBuffer (s : State) : State :=
  { s with mg := { s.mg with journal := s.mg.buffer.foldl journalAppend s.mg.journal, buffer := [] } }

/-- The release of the clocks domain (R43): the counter loads from the calendar. -/
def State.loadCalendar (s : State) : State :=
  let s := { s with tb := { s.tb with ctr := s.mg.calendar / 65536 * 2 ^ 32 } }
  (s.setServo servoFree).off F.TB_STATUS_TIME_VALID

/-- The release of the management domain: a new challenge (R540), the log buffer (R531), EV0011 (R520), and after a
chip-level fault EV0008 with its journal entry (R26). -/
def State.releaseMgmt (s : State) : State :=
  let s := { s with mg := { s.mg with challengeNo := s.mg.challengeNo + 1 } }
  let s := s.when (!s.journalDiverted) State.copyBuffer
  let s := if s.clk.raise8
    then ({ s with clk := { s.clk with raise8 := false } }.journal 0 7 (Config.severity 8)
      [8, (s.rd R.GLB_CHIP_FAULT).toNat]).raiseSt 8 R.GLB_CHIP_FAULT
    else s
  if s.clk.raise11 then { s with clk := { s.clk with raise11 := false } }.resetEvent else s

/-- The release of the field domain: its filters start (R436), and the bridge runs (R448). -/
def State.releaseField (s : State) : State :=
  (({ s with fio := { s.fio with lost := false } }.on F.FIO_STATUS_BRIDGE_OK).restartInputs).fieldOuts

/-- The policy in force gives each owner its quota of each class (R350). -/
def State.applyQuotas (s : State) : State :=
  let q := fun n c => s.pol.quotas.getD (4 * n + c) 0
  s.each (List.range 4) fun n s =>
    (((s.p (F.POOL_OD_QUOTA01_CLASS_LO n) (q n 0)).p (F.POOL_OD_QUOTA01_CLASS_HI n) (q n 1)).p
      (F.POOL_OD_QUOTA23_CLASS_LO n) (q n 2)).p (F.POOL_OD_QUOTA23_CLASS_HI n) (q n 3)

/-- A domain is released (R517). The Larkspur cores run again after a release of the motion domain when their firmware has
been verified. -/
def State.releaseDomain (s : State) (d : Nat) : State :=
  let s := { s with clk := { s.clk with down := s.clk.down.filter fun x => x != d } }
  let s := match d with
    | 2 => s.loadCalendar
    | 3 => s.releaseMgmt
    | 5 => s.applyQuotas
    | 8 => (s.each (List.range 16) fun n s => s.refreshAxis n).when (s.is F.GLB_READY_FW_VERIFIED) fun s => s.p F.LSP_STATUS_RUNNING 15
    | 9 => s.releaseField
    | _ => s
  s.motionReady

/-- Does a domain stay in reset beyond its turn: motion in degraded operation (R512), network, motion and field in recovery
(R536)? [DEDUCED, unsafe, log 120] -/
def State.staysDown (s : State) (d : Nat) : Bool :=
  (d == 8 && s.is F.CLK_STATUS_DEGRADED) || ([7, 8, 9].contains d && s.is F.MGT_STATUS_RECOVERY)

/-- The least gap between two releases, 239.3 µs: 64 ticks of Snowdrop at its fastest (R517). [DEDUCED, unsafe, log 118] -/
def releaseGap : Nat := 59825

/-- Is the next release due (R517)? -/
def State.releaseDue (s : State) : Bool :=
  match s.clk.relTick with
  | some t => decide (t + releaseGap ≤ s.tb.ticks)
  | none => true

/-- DOMAIN_RELEASE (R517): the next domain of the running reset is released. -/
def execDomainRelease (s : State) : Res :=
  match s.clk.releases with
  | [] => .next s
  | d :: t =>
    if !s.releaseDue then .next s else
    let s := { s with clk := { s.clk with releases := t, relTick := some s.tb.ticks } }
    .next (if s.staysDown d then s else s.releaseDomain d)

/-- MEM_READY (R562): the in-package memory is initialised. -/
def execMemReady (s : State) : Res :=
  if s.clk.down.contains 5 then .next s else .next (s.on F.GLB_READY_MEM_READY)

end Sys2Proof.Machine
end

