-- ==== Sys2Proof/Machine/Clocks.lean ====
section
/-! DEFINITION. References, PLLs and domain clocks (R498 to R510), the loss of a clock (R511 to R515), the power states
(R521 to R526) and the lock-up of a sequencer core (R252, R516). -/

namespace Sys2Proof.Machine

/-! ### References -/

/-- Is a reference ready (CLK_STATUS.REF_READY)? -/
def State.refReady (s : State) (r : Nat) : Bool := testBit (s.g F.CLK_STATUS_REF_READY) r

/-- The place of a reference in the order of CLK_REF_CFG (R501); one that the order does not name comes after those, and
none at all last. -/
def State.refRank (s : State) (r : Nat) : Nat :=
  if 3 ≤ r then 4
  else if s.g F.CLK_REF_CFG_PRIO0 == r then 0
  else if s.g F.CLK_REF_CFG_PRIO1 == r then 1
  else if s.g F.CLK_REF_CFG_PRIO2 == r then 2
  else 3

/-- The best ready reference (R501), if any. -/
def State.bestRef (s : State) : Option Nat :=
  [s.g F.CLK_REF_CFG_PRIO0, s.g F.CLK_REF_CFG_PRIO1, s.g F.CLK_REF_CFG_PRIO2].find? fun r => r < 3 && s.refReady r

/-- The PLLs that move with a switch: SYSPLL, MEMPLL and, when NET_REF is 0, NETPLL (R501). -/
def State.movingPlls (s : State) : List Nat := if s.g F.CLK_REF_CFG_NET_REF == 0 then [0, 1, 2] else [0, 2]

/-- A switch begins (R501). -/
def State.beginRefSwitch (s : State) (new cause : Nat) : State :=
  let s := { s with clk := { s.clk with
    swNew := new, swCause := cause, swStart := s.now, swTick := s.tb.ticks, swWait := s.movingPlls, pendingRef := none } }
  ((s.on F.CLK_STATUS_SWITCHING).off F.CLK_STATUS_HOLDOFF).off F.CLK_STATUS_BETTER_PENDING

/-- A better reference waits (R502, R503). -/
def State.pendRef (s : State) (r : Option Nat) : State :=
  { s with clk := { s.clk with pendingRef := r } }.pb F.CLK_STATUS_BETTER_PENDING r.isSome

/-- What the ready references call for (R501 to R503): nothing but a note while a switch runs; a switch from a reference
that has lost its ready flag; else a switch to a better one, or a note while a hold-off runs or the host is to command it.
The first reference after a reset is taken at once. [DEDUCED, unsafe, log 116] -/
def State.refCheck (s : State) : State :=
  let use := s.g F.CLK_STATUS_REF_IN_USE
  let best := s.bestRef
  let betterThan := fun r => match best with
    | some b => if s.refRank b < s.refRank r then some b else none
    | none => none
  if s.is F.CLK_STATUS_SWITCHING then s.pendRef (betterThan s.clk.swNew)
  else if use < 3 && !s.refReady use then
    match best with
    | some b => s.beginRefSwitch b 1
    | none => s.pendRef none
  else match betterThan use with
    | none => s.pendRef none
    | some b =>
      if s.is F.CLK_STATUS_HOLDOFF || (s.is F.CLK_REF_CFG_POLICY && use < 3) then s.pendRef (some b)
      else s.beginRefSwitch b 2

/-- A switch completes (R505, R503): the log registers and the journal take it, and the hold-off starts.
[DEDUCED, unsafe, log 116] -/
def State.completeRefSwitch (s : State) (timedOut : Bool) : State :=
  let old := s.g F.CLK_STATUS_REF_IN_USE
  let s := (((s.p F.CLK_REF_LOG_OLD old).p F.CLK_REF_LOG_NEW s.clk.swNew).p F.CLK_REF_LOG_CAUSE s.clk.swCause).pb
    F.CLK_REF_LOG_TIMED_OUT timedOut
  let s := (s.p F.CLK_REF_LOG_DURATION (s.msSince s.clk.swTick)).wr R.CLK_REF_LOG_END s.short
  let s := s.journal 3 7 (Config.severity 9)
    [old, s.clk.swNew, s.clk.swCause, bit timedOut, s.msSince s.clk.swTick, s.clk.swStart, s.now]
  let s := (s.p F.CLK_STATUS_REF_IN_USE s.clk.swNew).off F.CLK_STATUS_SWITCHING
  { s with clk := { s.clk with swWait := [], holdTick := s.tb.ticks } }.on F.CLK_STATUS_HOLDOFF |>.refCheck

/-- REFERENCE_READY (R499, R502): the monitors run from the release of the clocks domain. -/
def execReferenceReady (r : Fin 3) (s : State) : Res :=
  if s.clk.down.contains 2 || s.refReady r then .next s
  else .next (s.bitField F.CLK_STATUS_REF_READY r true).refCheck

/-- REFERENCE_LOST (R499, R501, R503): the loss of the reference in use ends a hold-off. -/
def execReferenceLost (r : Fin 3) (s : State) : Res :=
  if !s.refReady r then .next s
  else
    let s := s.bitField F.CLK_STATUS_REF_READY r false
    .next (s.when (s.g F.CLK_STATUS_REF_IN_USE == r.val) fun s => s.off F.CLK_STATUS_HOLDOFF).refCheck

/-- REF_SWITCH_TIMEOUT (R501, R505): SWITCH_TMO has passed since the switch began. -/
def execRefSwitchTimeout (s : State) : Res :=
  if !s.is F.CLK_STATUS_SWITCHING ||
      s.tb.ticks < s.clk.swTick + atLeast1 (s.g F.CLK_REF_HOLDOFF_SWITCH_TMO) * msTicks then .next s
  else .next (s.completeRefSwitch true)

/-- REF_HOLDOFF_END (R503): HOLDOFF has passed since the switch completed. -/
def execRefHoldoffEnd (s : State) : Res :=
  if !s.is F.CLK_STATUS_HOLDOFF ||
      s.tb.ticks < s.clk.holdTick + clampN 1 600 (s.g F.CLK_REF_HOLDOFF_HOLDOFF) * 100 * msTicks then .next s
  else .next (s.off F.CLK_STATUS_HOLDOFF).refCheck

/-- CLK_CMD.REF_SWITCH (R504). -/
def cmdRefSwitch (s : State) : State :=
  match s.clk.pendingRef with
  | some b =>
    if s.is F.CLK_STATUS_SWITCHING || s.is F.CLK_STATUS_HOLDOFF || s.is F.CLK_STATUS_DEGRADED
    then s.on F.CLK_STATUS_CMD_REFUSED else s.beginRefSwitch b 3
  | none => s.on F.CLK_STATUS_CMD_REFUSED

/-- REF_SWITCH (R504). -/
def execRefSwitch (rq : Rq) (s : State) : Res := .next (s.write rq R.CLK_CMD cmdRefSwitch)

/-- A write of CLK_REF_CFG: NET_REF 3 is reserved and refused (R599); a new order may call for a switch (R501). -/
def wrClkRefCfg (v : Word) (s : State) : State :=
  if getBits v 9 2 == 3 then s.on F.CLK_STATUS_CMD_REFUSED else (s.merge R.CLK_REF_CFG v).refCheck

/-! ### PLLs and domain clocks -/

/-- Every domain moves to SYSPLL, ENG runs, and Marigold stops (R507, R518, R514, R525). -/
def State.toSyspll (s : State) : State :=
  let s := { s with clk := { s.clk with sysSeen := true, engRuns := true, marigold := false } }
  ((s.p F.CLK_DOM_SEL_SRC 0).off F.CLK_STATUS_MG_READY).motionReady

/-- The reference that a PLL locks to (*PLLs*): the selected one, that of a running switch, or NET_REF's for NETPLL. -/
def State.pllRef (s : State) (p : Nat) : Nat :=
  let net := s.g F.CLK_REF_CFG_NET_REF
  if p == 1 && net != 0 then net
  else if s.is F.CLK_STATUS_SWITCHING then s.clk.swNew else s.g F.CLK_STATUS_REF_IN_USE

/-- Can a PLL become ready (R500): the clocks domain is released, PLLs run (R523, R525), and its reference is ready?
[DEDUCED, unsafe, log 117] -/
def State.pllCanLock (s : State) (p : Nat) : Bool :=
  !s.clk.down.contains 2 && (s.clk.power = .run || (s.clk.power = .doze && s.clk.waking)) && s.refReady (s.pllRef p)

/-- PLL_READY (R500, R501, R505, R518): 0 SYSPLL, 1 NETPLL, 2 MEMPLL. -/
def execPllReady (p : Fin 3) (s : State) : Res :=
  if !s.pllCanLock p then .next s
  else
    let s := s.bitField F.CLK_STATUS_PLL_READY p true
    let s := { s with clk := { s.clk with
      netDown := s.clk.netDown && p.val != 1, memWait := s.clk.memWait && p.val != 2,
      swWait := s.clk.swWait.filter fun x => x != p.val } }
    let s := s.when (p.val == 0 && !s.clk.sysSeen) State.toSyspll
    .next (s.when (s.is F.CLK_STATUS_SWITCHING && s.clk.swWait.isEmpty) fun s => s.completeRefSwitch false)

/-- A write of CLK_DOM_SEL (R509): refused when a domain would move to a source that is not ready, or ENG to Marigold. -/
def wrClkDomSel (v : Word) (s : State) : State :=
  let new := getBits v 0 6
  let old := s.g F.CLK_DOM_SEL_SRC
  let bad := (List.range 6).any fun d =>
    testBit new d != testBit old d && (if testBit new d then d == 0 || !s.is F.CLK_STATUS_MG_READY else !s.pllReady 0)
  if bad then
    let s := s.on F.CLK_STATUS_SWITCH_REFUSED
    s.raiseSt 9 R.CLK_STATUS
  else s.p F.CLK_DOM_SEL_SRC new

/-- CLK_DOM_SEL_WRITE (R509). -/
def execClkDomSelWrite (rq : Rq) (v : Word) (s : State) : Res := .next (s.write rq R.CLK_DOM_SEL (wrClkDomSel v))

/-! ### Chip-level faults -/

/-- A chip-level fault (R24, R25): its cause is recorded, the global safe state forced, and the watchdog reset requested;
cause 6 takes its own reset. -/
def State.chipFault (s : State) (cause region : Nat) : State :=
  let s := ((s.p F.GLB_CHIP_FAULT_CAUSE cause).p F.GLB_CHIP_FAULT_REGION region).p F.GLB_CHIP_FAULT_TIME_HI
    (getBits s.short 8 24)
  let s := { s with saf := { s.saf with globalSafe := true },
                    clk := { s.clk with wdogAsk := s.clk.wdogAsk || cause != 6, raise8 := true } }
  let s := s.evalGroups.each (List.range 16) fun n s => s.engage n
  s.refreshAxes.fieldOuts

/-! ### Losing the main clock -/

/-- MISSING_CLOCK_TRIP (R511): the detector releases the output buffers, the latches assert STO, engage the brakes and
latch the device lock-out with cause 9; the time tick of SYSPLL is gone and Marigold starts. No trip occurs before SYSPLL
is first ready (R518), and a second one while Marigold starts changes nothing (R514). In degraded operation the restarted
SYSPLL can fail again: Marigold carries the device already. [DEDUCED, unsafe, log 204] -/
def execMissingClockTrip (s : State) : Res :=
  if !s.clk.sysSeen || s.clk.tripped || s.clk.power ≠ .run then .next s
  else if s.is F.CLK_STATUS_DEGRADED then
    if !s.pllReady 0 then .next s
    else .next (((s.bitField F.CLK_STATUS_PLL_READY 0 false).on F.CLK_STATUS_TRIP_SEEN).lockDevice 9).refreshAxes
  else
    let s := { s with clk := { s.clk with tripped := true, tripTick := s.tb.ticks, marigold := true, engRuns := false } }
    let s := (s.bitField F.CLK_STATUS_PLL_READY 0 false).on F.CLK_STATUS_TRIP_SEEN
    .next (s.lockDevice 9).refreshAxes

/-- Ticks in 50 µs, the time that Marigold has after a trip (R512, R513). -/
def marigoldTicks : Nat := 12500

/-- MARIGOLD_READY (R507, R512): Marigold, once started, is ready. Within 50 µs of a trip the device enters degraded
operation. [DESIGN CHOICE, unsafe, log 189] -/
def execMarigoldReady (s : State) : Res :=
  if !s.clk.marigold || (s.clk.tripped && s.clk.tripTick + marigoldTicks < s.tb.ticks) then .next s
  else
    let s := s.on F.CLK_STATUS_MG_READY
    if !s.clk.tripped then .next s
    else
      let s := { s with clk := { s.clk with tripped := false, trimCount := 0 }, fio := { s.fio with lost := true } }
      let s := ((s.off F.FIO_STATUS_BRIDGE_OK).p F.CLK_DOM_SEL_SRC 0x3E).on F.CLK_STATUS_DEGRADED
      let s := s.holdDomains [8]
      let s := s.when (!s.is F.TB_CTRL_TICK_SRC) fun s => s.setServo servoHoldover
      .next (s.raiseSt 10 R.CLK_STATUS)

/-- MARIGOLD_TIMEOUT (R513): Marigold is not ready within 50 µs of the trip, or fails while DEGRADED is 1; cause 6 is
recorded and the device takes a clock-failure reset. -/
def execMarigoldTimeout (s : State) : Res :=
  if (s.clk.tripped && s.clk.tripTick + marigoldTicks ≤ s.tb.ticks) || s.is F.CLK_STATUS_DEGRADED then .next ((s.chipFault 6 0).resetAll 4) else .next s

/-- CLK_CMD.RETURN (R514): the field domain is released 64 Snowdrop ticks after the motion domain. -/
def cmdReturn (s : State) : State :=
  if !s.is F.CLK_STATUS_DEGRADED || !s.pllReady 0 || s.is F.CLK_STATUS_SWITCHING then s.on F.CLK_STATUS_CMD_REFUSED
  else
    let s := (s.off F.CLK_STATUS_DEGRADED).toSyspll
    let s := (s.releaseDomain 8).resetDomains [9]
    { s with clk := { s.clk with relTick := some s.tb.ticks } }

/-- RETURN (R514). -/
def execReturn_ (rq : Rq) (s : State) : Res := .next (s.write rq R.CLK_CMD cmdReturn)

/-- A write of CLK_CMD: the commands of the bits written 1, from bit 0 up. -/
def wrClkCmd (v : Word) (s : State) : State :=
  (s.when (getBits v 0 1 == 1) cmdRefSwitch).when (getBits v 1 1 == 1) cmdReturn

/-- SNOWDROP_STOP (R515): the latches hold STO and the brakes, and the device takes a power-on reset. -/
def execSnowdropStop (s : State) : Res := .next (s.lockDevice 9).powerOn

/-- Have so many milliseconds passed since a tick, if any? -/
def State.passed (s : State) (t : Option Nat) (ms : Nat) : Bool :=
  match t with
  | some t => decide (t + ms * msTicks ≤ s.tb.ticks)
  | none => true

/-- SNOWDROP_TRIM (R506): while SYSPLL is ready Snowdrop is trimmed against it once every 1 s; the trim that results is
open. [DESIGN CHOICE, safe, log 88] -/
def execSnowdropTrim (s : State) : Res :=
  if !s.pllReady 0 || !s.passed s.clk.sdTick 1000 then .next s
  else
    let s := { s with clk := { s.clk with sdTick := some s.tb.ticks } }
    .next ((s.p F.CLK_TRIM_SD_TRIM s.freshWord.toNat).took.on F.CLK_STATUS_SD_TRIMMED)

/-- MARIGOLD_TRIM_BURST (R507): once every 60 s while Marigold is off; the trim that results is open.
[DESIGN CHOICE, safe, log 88] -/
def execMarigoldTrimBurst (s : State) : Res :=
  if !s.pllReady 0 || s.is F.CLK_STATUS_DEGRADED || s.clk.marigold || !s.passed s.clk.mgTick 60000 then .next s
  else
    let s := { s with clk := { s.clk with mgTick := some s.tb.ticks } }
    .next (s.p F.CLK_TRIM_MG_TRIM s.freshWord.toNat).took

/-- NETPLL_LOSS (R500, *Loss of a secondary PLL*): the ports go down, and the tick moves to SYSPLL. -/
def execNetpllLoss (s : State) : Res :=
  if !s.pllReady 1 then .next s
  else
    let s := { s with clk := { s.clk with netDown := true } }.bitField F.CLK_STATUS_PLL_READY 1 false
    let s := s.off F.TB_CTRL_TICK_SRC
    .next (s.each (List.range 2) fun p s => s.linkDown p)

/-- MEMPLL_LOSS (R500): the in-package memory enters self-refresh and accesses wait. -/
def execMempllLoss (s : State) : Res :=
  if !s.pllReady 2 then .next s
  else .next ({ s with clk := { s.clk with memWait := true, memTick := s.tb.ticks } }.bitField F.CLK_STATUS_PLL_READY 2 false)

/-! ### Power states -/

/-- Does any DMA channel move data, or any copy run or wait? -/
def State.dmaBusy (s : State) : Bool := (List.range 28).any (fun n => s.is (F.DMA_STATUS_BUSY n)) || s.copyBusy

/-- Is a drive live: a PWM unit not DISABLED, or an auxiliary channel with EN 1? -/
def State.driveLive (s : State) : Bool :=
  (List.range 16).any (fun n => s.g (F.AX_PWM_STATUS_STATE n) != 0) || (List.range 24).any fun c => s.is (F.AUX_CFG_EN c)

/-- The calendar in TAI seconds. -/
def State.calendarSec (s : State) : Nat := s.mg.calendar / secUnits

/-- PWR_WAKE_TIME. -/
def State.wakeTime (s : State) : Nat := (s.rd R.PWR_WAKE_TIME_LO).toNat + 2 ^ 32 * getBits (s.rd R.PWR_WAKE_TIME_HI) 0 16

/-- The first condition of R522 that refuses an entry, 0 when none does. -/
def State.sleepReason (s : State) : Nat :=
  if s.driveLive then 1
  else if (List.range 4).any (fun c => s.capRuns c || s.capState c == 4) || s.dmaBusy then 2
  else if !s.mg.ledger.isEmpty then 3
  else if (List.range 4).any (fun n => s.is (F.HIF_OD_CTL_EN n)) then 4
  else if s.is F.CLK_STATUS_SWITCHING || s.is F.CLK_STATUS_HOLDOFF || s.is F.CLK_STATUS_DEGRADED then 5
  else if testBit (s.g F.PWR_WAKE_CFG_EN) 4 && s.wakeTime ≤ s.calendarSec then 6
  else 0

/-- PLLs and Marigold stop. -/
def State.clocksOff (s : State) : State :=
  let s := { s with clk := { s.clk with engRuns := false, marigold := false, waking := false } }
  (s.p F.CLK_STATUS_PLL_READY 0).off F.CLK_STATUS_MG_READY

/-- PWR_CMD.DOZE (R522, R523). HOLDOVER entered so takes none of the actions that R57 gives its own entry.
[DEDUCED, unsafe, log 117; DESIGN CHOICE, unsafe, log 189] -/
def cmdDoze (s : State) : State :=
  let r := s.sleepReason
  if r != 0 || s.clk.power ≠ .run then (s.on F.PWR_STATUS_ENTRY_REFUSED).p F.PWR_STATUS_REASON r
  else
    let s := s.endSession.flushIntake
    let s := s.setServo servoHoldover
    let s := (s.lockDevice 9).clocksOff
    { s with clk := { s.clk with power := .doze } }.on F.HIF_LINK_L1

/-- PWR_CMD.DORMANT (R522, R526): the life counters go to the flash (R553), and SUPPLY_EN is driven low. -/
def cmdDormant (s : State) : State :=
  let r := s.sleepReason
  if r != 0 || s.clk.power ≠ .run then (s.on F.PWR_STATUS_ENTRY_REFUSED).p F.PWR_STATUS_REASON r
  else
    let s := (s.endSession.flushIntake.lockDevice 9).clocksOff
    { s with mg := { s.mg with lifeFlash := s.mg.life }, clk := { s.clk with power := .dormant, supplyEn := false } }

/-- DOZE (R523). -/
def execDoze (rq : Rq) (s : State) : Res := .next (s.write rq R.PWR_CMD cmdDoze)

/-- DORMANT (R526). -/
def execDormant (rq : Rq) (s : State) : Res := .next (s.write rq R.PWR_CMD cmdDormant)

/-- A write of PWR_CMD: DOZE before DORMANT. -/
def wrPwrCmd (v : Word) (s : State) : State :=
  if getBits v 0 1 == 1 then cmdDoze s else s.when (getBits v 1 1 == 1) cmdDormant

/-- The code of a wake source in PWR_STATUS.WAKE_SRC. -/
def WakeSrc.code : WakeSrc → Nat
  | .network => 1
  | .host => 2
  | .fieldInput _ => 3
  | .safeInput => 4
  | .timer => 5
  | .wakeN => 6

/-- Does a source wake the device from the state it is in (*Wake sources*)? -/
def State.wakes (s : State) (w : WakeSrc) : Bool :=
  let here := match s.clk.power with
    | .run => false
    | .doze => true
    | .dormant => w.code == 5 || w.code == 6
  let set := match w with
    | .fieldInput k => testBit (s.rd R.PWR_WAKE_FI).toNat k
    | .timer => decide (s.wakeTime ≤ s.calendarSec)
    | _ => true
  here && set && testBit (s.g F.PWR_WAKE_CFG_EN) (w.code - 1) && !s.clk.waking

/-- WAKE (R524 to R526): in Doze Marigold starts; in Dormant SUPPLY_EN is driven high, and a brown-out reset follows.
[DEDUCED, unsafe, log 117] -/
def execWake (w : WakeSrc) (s : State) : Res :=
  if !s.wakes w then .next s
  else
    let s := { s with clk := { s.clk with waking := true, wakeSrc := w.code, marigold := true, supplyEn := true } }
    .next (s.p F.PWR_STATUS_WAKE_SRC w.code)

/-- RUN_REACHED (R525, R58): a wake from Doze completes once SYSPLL is ready again; the servo enters ACQUIRE and may step
unless STEP_MODE is 2, and the watchdog starts again. [DEDUCED, unsafe, log 117] -/
def execRunReached (s : State) : Res :=
  if s.clk.power ≠ .doze || !s.clk.waking || !s.pllReady 0 then .next s
  else
    let s := { s with clk := { s.clk with power := .run, waking := false, kickTick := s.tb.ticks } }.toSyspll
    let s := s.enterAcquire
    let s := { s with tb := { s.tb with wakeAcquire := true } }
    .next ((s.off F.HIF_LINK_L1).raiseSt 12 R.PWR_STATUS)

/-! ### Lock-up of a sequencer core -/

/-- Is a word of a channel's record set back by the lock-up reset of its core (R516)? The status and the reference stay:
the channel runs its configured stop under the profile unit (R252). [DEDUCED, unsafe, log 118] -/
def recordReg (k a : Nat) : Bool :=
  R.LSP_CH_CFG k ≤ a && a < R.LSP_CH_CFG k + 0x80 && a != R.LSP_CH_STATUS k && a != R.LSP_CH_PREF_LO k &&
    a != R.LSP_CH_PREF_HI k && a != R.LSP_CH_VREF k && a != R.LSP_CH_AREF k

/-- The channels that a core serves (R252). -/
def coreChans (c : Nat) : List Nat := (List.range 168).filter fun k => coreOf k == c

/-- SEQUENCER_CORE_FAULT (R252, R516): FAULT, the configured stops of the core's channels, and the lock-up reset of the
core with its channel records; a halted core's watchdog is suspended (R543). [DEDUCED, unsafe, log 118] -/
def execSequencerCoreFault (c : Fin 4) (s : State) : Res :=
  if s.mg.halted.getD c false then .next s
  else
    let s := (s.bitField F.LSP_STATUS_FAULT c true).raiseSt (992 + c) R.LSP_STATUS
    let s := s.each (coreChans c) fun k s => s.configuredStop k
    let s := s.when (c.val == 0) fun s => s.each ((List.range 168).filter fun k => s.chanState k == 5) fun k s => s.configuredStop k
    let s := s.keepRegs fun a => !(coreChans c).any fun k => recordReg k a
    let s := s.bitField F.RST_LOCKUP_CORE c true
    .next (s.noteReset 7).resetEvent

end Sys2Proof.Machine
end

