-- ==== Sys2Proof/Machine/Containment.lean ====
section
/-! DEFINITION. Containment (R17 to R28): the reaction to a fault at each of the four levels, and its escalation to the
next. -/

namespace Sys2Proof.Machine

/-! ### Levels -/

/-- The region of a cell (*Subsystems and their regions*). -/
def Cell.region : Cell → Nat
  | .axis _ => regMotion
  | .aux _ => regMotion
  | .can _ => regTime
  | .dma _ => regMemory
  | .field _ => regField
  | .capture _ => regMemory

/-- The region of a cluster. -/
def Cluster.region : Cluster → Nat
  | .axisPair _ => regMotion
  | .aux _ => regMotion
  | .can => regTime
  | .dma => regMemory

/-- The cluster that a cell belongs to; field and capture channels belong to none. -/
def Cell.cluster : Cell → Option Cluster
  | .axis n => some (.axisPair ⟨n / 2, by omega⟩)
  | .aux n => some (.aux ⟨n / 6, by omega⟩)
  | .can _ => some .can
  | .dma _ => some .dma
  | .field _ => none
  | .capture _ => none

/-! ### Reactions -/

/-- The cell safe state of a cell (R17, R359, *Cell safe states*). -/
def State.cellReaction (s : State) (c : Cell) : State :=
  match c with
  | .axis n => s.axisFault n
  | .aux n => s.auxFault n
  | .can n => s.canCellFault n
  | .dma n =>
    if n.val < 28 then s.dmaStop n 8 else s.copyFault (n.val - 28)
  | .field k => s.fieldCellFault k
  | .capture k => s.capFault k

/-- The reaction to a fault of a cluster's shared resource (R19, R20). -/
def State.clusterReaction (s : State) (c : Cluster) : State :=
  match c with
  | .axisPair n => s.pairFault n
  | .aux n => (s.on (F.AUX_CL_ADC_STATUS_FAULT n)).auxClusterFault n
  | .can => s.canClusterFault
  | .dma => s.dmaClusterFault

/-- The reaction of a cluster to a cell that has not confirmed its safe state (R26, R19): the shared resource is sound. -/
def State.clusterEscalate (s : State) (c : Cluster) : State :=
  match c with
  | .axisPair n => s.pairEscalate n
  | .aux n => s.auxClusterEscalate n
  | .can => s.canClusterFault
  | .dma => s.dmaClusterEscalate

/-- The report of a cluster fault to the error collector of its region, which no fault of a fabric prevents (R26, R27). -/
def State.clusterReport (s : State) (c : Cluster) : State :=
  s.p F.GLB_REGION_STATE_CLUSTER_FAULT_SEEN (setBit (s.g F.GLB_REGION_STATE_CLUSTER_FAULT_SEEN) c.region true)

/-- Does the reaction of a higher level run on the cell's channel, or hold its region (R28)? [DEDUCED, unsafe, log 131] -/
def State.cellOutranked (s : State) (c : Cell) : Bool :=
  match c with
  | .axis n => s.higherRuns n
  | .aux n => s.higherRuns (16 + n)
  | .dma n => s.contained regMemory || (s.is (F.DMA_STATUS_HALTED n) && s.g (F.DMA_STATUS_REASON n) == 9)
  | _ => s.contained c.region

/-- The memory region is isolated: every copy, running or waiting, completes with ISOLATED (*Copy outcomes*). -/
def State.copiesIsolated (s : State) : State :=
  let s := s.endCopies stIsolated fun _ => true
  let w := s.ipm.waiting
  s.each w (fun r s => s.copyDone r stIsolated 0 0) |> fun s => { s with ipm := { s.ipm with waiting := [] } }

/-- The reactions elsewhere to an isolated region (R32); the memory and the safety region escalate to chip level instead
(R25), the latter with the device lock-out. -/
def State.regionReaction (s : State) (r : Nat) : State :=
  if r == regMotion then s.evalGroups.each (List.range 16) (fun n s => s.engage n) |>.refreshAxes
  else if r == regTime then
    let s := s.each (List.range 40) fun k s => s.levelStop 2 k fun s => s.configuredStop k
    s.each ((List.range 8).filter fun h => s.is (F.LSH_SH_CFG_EN h)) fun h s => s.shaftLost h
  else if r == regMemory then (s.copiesIsolated).chipFault 4 regMemory
  else if r == regSafety then (s.lockDevice 8).chipFault 5 regSafety
  else if r == regField then
    ({ s with fio := { s.fio with lost := true } }.off F.FIO_STATUS_BRIDGE_OK).fieldOuts.lockDevice 7
  else s

/-- A region fault: its report is recorded (R27); the region is isolated behind its bridge and the other regions react (R22,
R32), unless the global safe state, the reaction of the chip, holds already (R28). [DEDUCED, unsafe, log 28] -/
def State.regionFault (s : State) (r : Nat) : State :=
  let s := s.p F.GLB_REGION_STATE_REGION_FAULT (setBit (s.g F.GLB_REGION_STATE_REGION_FAULT) r true)
  if s.isolated r then s
  else if s.saf.globalSafe then
    if r == regMemory then s.chipFault 4 regMemory
    else if r == regSafety then (s.lockDevice 8).chipFault 5 regSafety
    else s
  else
    let s := s.p F.GLB_REGION_STATE_ISOLATED (setBit (s.g F.GLB_REGION_STATE_ISOLATED) r true)
    (s.raiseSt (1 + r) R.GLB_REGION_STATE).regionReaction r

/-! ### Commands -/

/-- CELL_FAULT (R17). [DEDUCED, unsafe, log 30] -/
def execCellFault (c : Cell) (s : State) : Res :=
  .next (if s.cellOutranked c then s else s.cellReaction c)

/-- CELL_SAFE_STATE_TIMEOUT (R26): the fault escalates to the cluster, or to the region where the cell has none. -/
def execCellSafeStateTimeout (c : Cell) (s : State) : Res :=
  if s.contained c.region then .next (match c.cluster with
    | some k => s.clusterReport k
    | none => s.regionFault c.region)
  else match c.cluster with
    | some k => .next (s.clusterEscalate k)
    | none => .next (s.regionFault c.region)

/-- CLUSTER_FAULT (R19, R20). -/
def execClusterFault (c : Cluster) (s : State) : Res :=
  .next (if s.contained c.region then s.clusterReport c else s.clusterReaction c)

/-- CLUSTER_FENCE_TIMEOUT (R26). -/
def execClusterFenceTimeout (c : Cluster) (s : State) : Res := .next (s.regionFault c.region)

/-- REGION_FAULT (R22, R32). -/
def execRegionFault (r : Fin 7) (s : State) : Res := .next (s.regionFault r)

/-- ISOLATION_CONFIRM_TIMEOUT (R26): chip-level cause 3. [DEDUCED, safe, log 29] -/
def execIsolationConfirmTimeout (r : Fin 7) (s : State) : Res := .next (s.chipFault 3 r)

/-- TOP_FABRIC_TIMEOUT (R25): chip-level cause 2. -/
def execTopFabricTimeout (s : State) : Res := .next (s.chipFault 2 0)

/-- CHIP_LEVEL_FAULT (R24, R25): the region is recorded for causes 3, 4 and 5; cause 6 takes its clock-failure reset.
[DEDUCED, safe, log 29] -/
def execChipLevelFault (cause : Fin 8) (r : Fin 7) (s : State) : Res :=
  if cause.val == 0 then .next s
  else if cause.val == 3 then .next (s.chipFault 3 r)
  else if cause.val == 4 then .next (s.chipFault 4 regMemory)
  else if cause.val == 5 then .next ((s.lockDevice 8).chipFault 5 regSafety)
  else if cause.val == 6 then .next ((s.chipFault 6 0).resetAll 4)
  else .next (s.chipFault cause 0)

/-- MEMPLL_TIMEOUT (R500, *Loss of a secondary PLL*): MEMPLL is not ready within 1 ms, and the memory region faults. -/
def execMempllTimeout (s : State) : Res :=
  if s.clk.memWait && s.clk.memTick + msTicks ≤ s.tb.ticks then .next ({ s with clk := { s.clk with memWait := false } }.regionFault regMemory) else .next s

end Sys2Proof.Machine
end

