-- ==== Sys2Proof/Machine/Camellia.lean ====
section
/-! DEFINITION. Camellia: boot and update (R533 to R538), the journal (R529 to R532), the maintenance ledger (R555 to R558),
the mailbox (R559), the sensors (R527, R528) and the calendar and life counters (R553, R554). -/

namespace Sys2Proof.Machine

/-- A management event; its source's status register is MGT_STATUS (R484). -/
def State.raiseMgt (s : State) (k : Nat) : State := s.raiseSt k R.MGT_STATUS

/-! ### Recurring duties -/

/-- Does Camellia run its services: in Run (R523), its region not isolated (R32, R552), its domain released, and not halted
(R543)? [DEDUCED, unsafe, log 123] -/
def State.camelliaRuns (s : State) : Bool :=
  s.clk.power = .run && !s.isolated regMgmt && !s.clk.down.contains 3 && !s.mg.halted.getD 4 false

/-- The recurring duties: sensors by their place in SENSOR_READ, and the others. -/
def dutyVcore : Nat := 100
def dutyTrim : Nat := 101
def dutyFlash : Nat := 102
def dutyOtp : Nat := 103
def dutyThermal : Nat := 104
def dutyLife : Nat := 105
def dutyCalendar : Nat := 106
def dutyMargin : Nat := 107

/-- A day in milliseconds. -/
def dayMs : Nat := 86400000

/-- Is a duty due: Camellia runs, and its interval in milliseconds has passed since it last ran, if it has?
[DEDUCED, unsafe, log 173] -/
def State.dutyDue (s : State) (k ms : Nat) : Bool :=
  s.camelliaRuns && s.passed (tabGet (fun _ => none) s.mg.duties k) ms

/-- A duty runs now. -/
def State.dutyRan (s : State) (k : Nat) : State :=
  { s with mg := { s.mg with duties := tabSet (fun _ => none) s.mg.duties k (some s.tb.ticks) } }

/-- A duty has its effect when it is due. -/
def State.duty (s : State) (k ms : Nat) (f : State → State) : State :=
  if s.dutyDue k ms then f (s.dutyRan k) else s

/-- The hour of the calendar. -/
def State.calendarHour (s : State) : Nat := s.mg.calendar / (3600 * secUnits)

/-! ### Images and boot -/

/-- The first check of *Image checks* that an image fails, of checks 1 to 4; 0 when it passes them. -/
def State.imageCheck (s : State) (x : Image) : Nat :=
  if !s.mg.keys.any (fun k => k.hash == x.keyHash && !k.revoked) then 1
  else if !x.sigOk then 2
  else if x.svn < s.mg.rollback then 3
  else if !x.hashesOk then 4
  else 0

/-- The image in slot A (0) or B (1). -/
def State.slot (s : State) (i : Nat) : Option Image := if i == 0 then s.mg.slotA else s.mg.slotB

/-- A signed policy staged for this reset replaces the one in force when it passes check 5 (R538). -/
def State.takeStaged (s : State) : State :=
  match s.mg.policyStaged with
  | none => s
  | some (p, x) =>
    let s := { s with mg := { s.mg with policyStaged := none } }
    if s.imageCheck x == 0 then { s with mg := { s.mg with policyFlash := p, policyImage := x } } else s

/-- The first check that a slot fails at boot; an empty slot fails the first. -/
def State.slotCheck (s : State) (i : Nat) : Nat :=
  match s.slot i with
  | none => 1
  | some x =>
    let c := s.imageCheck x
    if c != 0 then c else if s.imageCheck s.mg.policyImage != 0 then 5 else 0

/-- A failed check at boot is journalled with the slot and the check (R535). [DEDUCED, unsafe, log 120] -/
def State.slotFailed (s : State) (i : Nat) : State :=
  let c := s.slotCheck i
  if c == 0 then s else s.journal 9 7 (Config.severity 1858) [i, c]

/-- The loaded image runs (R535): its slot and trial state are shown, the policy is in force and the Larkspur cores run.
[DEDUCED, unsafe, log 120] -/
def State.loadImage (s : State) (i : Nat) (preferred : Bool) : State :=
  let s := (s.p F.MGT_STATUS_SLOT i).pb F.MGT_STATUS_TRIAL (preferred && s.mg.trialFlag)
  let s := { s with mg := { s.mg with bootTick := s.tb.ticks }, pol := s.mg.policyFlash }.applyQuotas
  let s := s.when (!preferred) fun s => s.raiseMgt 1858
  let s := s.on F.GLB_READY_FW_VERIFIED
  (s.when (!s.clk.down.contains 8) fun s => s.p F.LSP_STATUS_RUNNING 15).motionReady

/-- FW_VERIFIED (R535, R536): the boot program has checked the preferred slot, then the other, and loads the first image
that passes; when none does, the device is in recovery with network, motion and field held in reset.
[DEDUCED, unsafe, log 120] -/
def execFwVerified (s : State) : Res :=
  if s.clk.down.contains 3 || s.is F.GLB_READY_FW_VERIFIED || s.is F.MGT_STATUS_RECOVERY then .next s
  else
    let s := s.takeStaged
    let first := bit s.mg.preferredB
    let other := 1 - first
    if s.slotCheck first == 0 then .next (s.loadImage first true)
    else
      let s := s.slotFailed first
      if s.slotCheck other == 0 then .next (s.loadImage other false)
      else .next (((s.slotFailed other).on F.MGT_STATUS_RECOVERY).holdDomains [7, 8, 9])

/-! ### The maintenance ledger -/

/-- Is the motion region active (*Ledger activities*)? -/
def State.motionActive (s : State) : Bool :=
  s.driveLive || (List.range 168).any fun k => s.g (F.LSH_FOL_STATUS_STATE k) != 0

/-- Is an activity's object an axis? -/
def perAxis (a : Nat) : Bool := [1, 2, 3, 7, 8].contains a

/-- Does an activity on an object conflict with an entry (*Ledger activities*)? Activity 5 is deferred by the others.
[DEDUCED, unsafe, log 122] -/
def conflicts (a obj : Nat) (e : LedgerEntry) : Bool :=
  let same := e.object == obj
  match a with
  | 1 => ([2, 3, 7, 8].contains e.activity && same) || e.activity == 4
  | 2 => ([1, 3, 8].contains e.activity && same) || e.activity == 4
  | 3 => ([1, 2, 7, 8].contains e.activity && same) || e.activity == 4
  | 4 => [1, 2, 3, 7, 8, 9].contains e.activity
  | 5 => e.activity == 6
  | 6 => e.activity == 5
  | 7 => ([1, 3].contains e.activity && same) || e.activity == 4
  | 8 => ([1, 2, 3].contains e.activity && same) || e.activity == 4
  | 9 => e.activity == 4
  | _ => false

/-- The activities while one of which is held activity 5 is deferred. -/
def defers (a : Nat) : Bool := [1, 2, 3, 4, 7, 8].contains a

/-- What a request of the ledger meets (R555, R556). -/
inductive LedgerAnswer where
  | granted (ticket : Nat)
  | conflict (activity holder object : Nat)
  | deferred
  | busy
  deriving DecidableEq, Repr

/-- A change of the ledger is journalled (R558): activity, object, holder, ticket and what happened: 0 grant, 1 refusal,
2 end, 3 withdrawal, 4 deferral. -/
def State.ledgerLog (s : State) (a obj holder ticket what : Nat) : State :=
  s.journal 7 holder (Config.severity 1868) [a, obj, holder, ticket, what]

/-- The ticket after a ticket: 16 bits, skipping 0 (R555). -/
def nextTicket (t : Nat) : Nat := if t == 65535 then 1 else t + 1

/-- An entry is granted (R555). A granted autotune injection writes its ticket to TS_TICKET (R218); log compaction starts
(R532). -/
def State.ledgerGrant (s : State) (a obj holder : Nat) : State :=
  let t := nextTicket s.mg.lastTicket
  let s := { s with mg := { s.mg with
    lastTicket := t, ledger := s.mg.ledger ++ [LedgerEntry.mk a obj holder t s.tb.ticks],
    compacting := s.mg.compacting || a == 6 } }
  let s := s.when (a == 3) fun s => s.writeBlock obj [(0x270, BitVec.ofNat 32 t)]
  s.ledgerLog a obj holder t 0

/-- A request that conflicts is refused (R555). -/
def State.ledgerRefuse (s : State) (a obj holder : Nat) : State := (s.ledgerLog a obj holder 0 1).raiseMgt 1868

/-- A request against the entries held (R555, R556). `mode` is the activation that a deferred request of activity 5 runs,
3 for none. [DEDUCED, unsafe, log 122] -/
def State.ledgerTry (s : State) (a obj holder mode : Nat) : State × LedgerAnswer :=
  match s.mg.ledger.find? (conflicts a obj) with
  | some e => (s.ledgerRefuse a obj holder, .conflict e.activity e.holder e.object)
  | none =>
    if a == 4 && s.motionActive then (s.ledgerRefuse a obj holder, .conflict 0 0xFF 0)
    else if a == 5 && s.mg.ledger.any (fun e => defers e.activity) then
      let s := { s with mg := { s.mg with deferred := some (holder, mode) } }
      ((s.ledgerLog a obj holder 0 4).raiseMgt 1861, .deferred)
    else
      let s := s.ledgerGrant a obj holder
      (s, .granted s.mg.lastTicket)

/-- A request of an activity (R555, R556): while an activation is deferred, another is refused with BUSY and those that
defer it with CONFLICT. -/
def State.ledgerAsk (s : State) (a obj holder mode : Nat) : State × LedgerAnswer :=
  match s.mg.deferred with
  | some (h, _) =>
    if a == 5 then (s.ledgerLog a obj holder 0 1, .busy)
    else if defers a then (s.ledgerRefuse a obj holder, .conflict 5 h 0)
    else s.ledgerTry a obj holder mode
  | none => s.ledgerTry a obj holder mode

/-- Activation modes 0 and 1 mark the staged slot as preferred with its trial flag set (R537). -/
def State.markStaged (s : State) : State :=
  { s with mg := { s.mg with preferredB := !s.is F.MGT_STATUS_SLOT, trialFlag := true } }.raiseMgt 1860

/-- An activation runs (R537, R538): mode 1 takes a software reset with SCOPE 0; mode 2 reloads the Larkspur firmware and the
Aster library, and its entry stays until R558 ends it. [DEDUCED, unsafe, log 122] -/
def State.activate (s : State) (mode : Nat) : State :=
  if mode == 1 then (s.markStaged.journal 6 7 (Config.severity 1860) [1]).endReset 6 [2, 3, 4, 5, 6, 7, 8, 9]
  else if mode == 2 then
    (s.journal 6 7 (Config.severity 1860) [2]).raiseMgt 1860
  else s

/-- A deferred activation is granted once nothing defers it any more, and runs (R556). -/
def State.grantDeferred (s : State) : State :=
  match s.mg.deferred with
  | some (h, mode) =>
    if s.mg.ledger.any (fun e => defers e.activity || conflicts 5 0 e) then s
    else ({ s with mg := { s.mg with deferred := none } }.ledgerGrant 5 0 h).activate mode
  | none => s

/-- An entry ends (R558): the end of activity 1 aborts its brake test (R469), that of activity 3 writes 0 to TS_TICKET
(R218), that of activity 6 ends a compaction that has not finished. -/
def State.endEntry (s : State) (e : LedgerEntry) (what : Nat) : State :=
  let s := { s with mg := { s.mg with ledger := s.mg.ledger.filter fun x => x.ticket != e.ticket } }
  let s := s.ledgerLog e.activity e.object e.holder e.ticket what
  let s := s.when (e.activity == 1) fun s => s.btAbortIf (fun n => n == e.object) 1
  let s := s.when (e.activity == 3) fun s => s.writeBlock e.object [(0x270, 0)]
  let s := if e.activity == 6 && s.mg.compacting
    then { s with mg := { s.mg with compacting := false } }.copyBuffer else s
  s.grantDeferred

/-- The longest hold of an activity in seconds (*Ledger activities*). -/
def longestHold (a : Nat) : Nat :=
  match a with
  | 1 => 120
  | 2 => 300
  | 3 => 600
  | 4 => 60
  | 5 => 600
  | 6 => 300
  | 7 => 10
  | 8 => 60
  | _ => 600

/-- One second in ticks. -/
def secTicks : Nat := 1000 * msTicks

/-- LEDGER_WITHDRAW (R558): an entry has reached its longest hold. -/
def execLedgerWithdraw (ticket : BitVec 16) (s : State) : Res :=
  match s.mg.ledger.find? fun e => e.ticket == ticket.toNat with
  | some e =>
    if !s.camelliaRuns || s.tb.ticks < e.since + longestHold e.activity * secTicks then .next s
    else .next ((s.endEntry e 3).raiseMgt 1869)
  | none => .next s

/-! ### Messages -/

/-- The statuses of *Message header*. -/
def msOk : Nat := 0
def msBadType : Nat := 1
def msRole : Nat := 2
def msBadArg : Nat := 3
def msConflict : Nat := 4
def msDeferred : Nat := 5
def msAuth : Nat := 6
def msRollback : Nat := 7
def msBusy : Nat := 8
def msNotHeld : Nat := 9

/-- May a role send a message type (*Message types*)? None for a type that is not listed. -/
def msgRole (type : Nat) (r : Role) : Option Bool :=
  let maint := decide (r = .maintainer)
  let any := decide (r ≠ .observer)
  match type with
  | 0x01 => some any
  | 0x02 => some any
  | 0x03 => some any
  | 0x10 => some maint
  | 0x11 => some maint
  | 0x12 => some maint
  | 0x13 => some maint
  | 0x20 => some (maint || decide (r = .safety))
  | 0x21 => some any
  | 0x22 => some any
  | 0x30 => some maint
  | _ => none

/-- The whole items of a list that fit in a number of bytes, from an index on (R559). -/
def fitItems {α : Type} (l : List α) (first size room : Nat) : List α := (l.drop first).take (room / size)

/-- A reply that lists items: how many there are, how many it returns, four bytes of 0, and the items. -/
def listReply {α : Type} (l : List α) (first size room : Nat) (bytes : α → List Byte) : List Byte :=
  let r := fitItems l first size (room - 8)
  bytesLE 2 l.length ++ bytesLE 2 r.length ++ bytesLE 4 0 ++ r.flatMap bytes

/-- LEDGER_ACQUIRE (R555). -/
def State.msgAcquire (s : State) (n : Nat) (p : List Byte) : State × Nat × List Byte :=
  let a := leAt p 0 1
  let obj := leAt p 2 2
  if p.length < 4 || a == 0 || 9 < a || leAt p 1 1 != 0 || (perAxis a && 16 ≤ obj) then (s, msBadArg, [])
  else
    let obj := if perAxis a then obj else 0
    match s.ledgerAsk a obj n 3 with
    | (s, .granted t) => (s, msOk, bytesLE 2 t)
    | (s, .conflict act h o) => (s, msConflict, bytesLE 2 0 ++ bytesLE 1 act ++ bytesLE 1 h ++ bytesLE 2 o)
    | (s, .deferred) => (s, msDeferred, bytesLE 2 0)
    | (s, .busy) => (s, msBusy, bytesLE 2 0)

/-- LEDGER_RELEASE (R558). -/
def State.msgRelease (s : State) (n : Nat) (p : List Byte) : State × Nat × List Byte :=
  if p.length < 2 then (s, msBadArg, [])
  else match s.mg.ledger.find? fun e => e.ticket == leAt p 0 2 && e.holder == n with
    | some e => (s.endEntry e 2, msOk, [])
    | none => (s, msNotHeld, [])

/-- LEDGER_LIST (R555): activity, owner, object, ticket and seconds held of each entry. -/
def State.msgList (s : State) (p : List Byte) (room : Nat) : List Byte :=
  listReply s.mg.ledger (leAt p 0 2) 8 room fun e =>
    bytesLE 1 e.activity ++ bytesLE 1 e.holder ++ bytesLE 2 e.object ++ bytesLE 2 e.ticket ++
      bytesLE 2 (min ((s.tb.ticks - e.since) / secTicks) 65535)

/-- Does a message's buffer handle fail *Handle checks* as its sender, or its length exceed the buffer (R537, R559)? A
failure of the checks is recorded. -/
def State.msgHandle (s : State) (n : Nat) (h : Word) (len : Nat) : State × Bool :=
  match s.handleErr n false h with
  | some st => (s.refuseHandle n h st, false)
  | none => (s, decide (0 < len ∧ len ≤ classSize (handleClass h)))

/-- The slot that is not in use. -/
def State.otherSlot (s : State) : Nat := 1 - s.g F.MGT_STATUS_SLOT

/-- IMAGE_STAGE (R537): `x` is what Camellia finds in the image. -/
def State.msgStage (s : State) (n : Nat) (p : List Byte) (x : Image) : State × Nat × List Byte :=
  match s.msgHandle n (BitVec.ofNat 32 (leAt p 0 4)) (leAt p 4 4) with
  | (s, false) => (s, msBadArg, [])
  | (s, true) =>
    let c := s.imageCheck x
    if c == 3 then (s, msRollback, [])
    else if c != 0 then (s, msAuth, [])
    else
      let i := s.otherSlot
      let s := if i == 0 then { s with mg := { s.mg with slotA := some x } } else { s with mg := { s.mg with slotB := some x } }
      let s := (s.journal 6 n (Config.severity 1859) [i, x.version, x.svn]).raiseMgt 1859
      (s, msOk, bytesLE 4 i ++ bytesLE 4 x.version ++ bytesLE 1 x.svn)

/-- Is the motion region idle (R538)? -/
def State.motionIdle (s : State) : Bool :=
  !s.motionActive && !(List.range 8).any fun e => s.is (F.AE_CTL_RUN e)

/-- IMAGE_ACTIVATE (R537, R538). -/
def State.msgActivate (s : State) (n : Nat) (p : List Byte) : State × Nat × List Byte :=
  let mode := leAt p 0 1
  match s.slot s.otherSlot with
  | none => (s, msBadArg, [])
  | some x =>
    if p.length < 1 || 2 < mode || (mode == 2 && x.changesCore) then (s, msBadArg, [])
    else if mode == 2 && !s.motionIdle then (s, msBusy, [])
    else if mode == 0 then ((s.journal 6 n (Config.severity 1860) [0]).markStaged, msOk, [])
    else match s.ledgerAsk 5 0 n mode with
      | (s, .granted _) => (s.activate mode, msOk, [])
      | (s, .conflict a h o) => (s, msConflict, bytesLE 2 0 ++ bytesLE 1 a ++ bytesLE 1 h ++ bytesLE 2 o)
      | (s, .deferred) => (s, msDeferred, [])
      | (s, .busy) => (s, msBusy, [])

/-- IMAGE_CONFIRM (R537): the trial flag clears and the rollback counter rises to the image's SVN. -/
def State.msgConfirm (s : State) (n : Nat) : State × Nat × List Byte :=
  match s.is F.MGT_STATUS_TRIAL, s.slot (s.g F.MGT_STATUS_SLOT) with
  | true, some x =>
    let r := max s.mg.rollback x.svn
    let s := { s with mg := { s.mg with trialFlag := false, rollback := r } }.off F.MGT_STATUS_TRIAL
    (s.journal 6 n (Config.severity 1860) [r], msOk, bytesLE 1 r)
  | _, _ => (s, msBadArg, [])

/-- POLICY_STAGE (R538). -/
def State.msgPolicy (s : State) (n : Nat) (p : List Byte) (x : Image) (pol : Policy) : State × Nat × List Byte :=
  match s.msgHandle n (BitVec.ofNat 32 (leAt p 0 4)) (leAt p 4 4) with
  | (s, false) => (s, msBadArg, [])
  | (s, true) =>
    let s := { s with mg := { s.mg with policyStaged := some (pol, x) } }
    (s.journal 6 n (Config.severity 1859) [2, x.version, x.svn], msOk, [])

/-- The 64 bytes of a journal entry (*Journal entry, 64 bytes*); each field of a body takes four bytes. -/
def JEntry.bytes (e : JEntry) : List Byte :=
  let ns := e.full / 65536
  let head := bytesLE 8 e.seq ++ bytesLE 6 (ns / 1000000000) ++ bytesLE 2 0 ++ bytesLE 4 (ns % 1000000000) ++
    bytesLE 2 e.kind ++ bytesLE 1 e.source ++ bytesLE 1 e.sev.toNat ++ ((wordBytes e.body) ++ List.replicate 36 0).take 36
  head ++ bytesLE 4 (crc32c head).toNat

/-- JOURNAL_READ (R529): entries from a SEQ on are copied into a buffer. -/
def State.msgJournal (s : State) (n : Nat) (p : List Byte) : State × Nat × List Byte :=
  let count := leAt p 8 4
  let h := BitVec.ofNat 32 (leAt p 12 4)
  match s.msgHandle n h 1 with
  | (s, false) => (s, msBadArg, [])
  | (s, true) =>
    if p.length < 16 || count == 0 || 65536 < count then (s, msBadArg, [])
    else
      let l := (s.mg.journal.filter fun e => leAt p 0 8 ≤ e.seq).take (min count (classSize (handleClass h) / 64))
      let first := match l with
        | e :: _ => e.seq
        | [] => 0
      (s.ipmPut (s.keyOf n) (s.bufAddr h) (l.flatMap JEntry.bytes), msOk, bytesLE 8 first ++ bytesLE 4 l.length)

/-- LIFE_READ (R559): the counters from an index on. -/
def State.msgLife (s : State) (p : List Byte) (room : Nat) : State × Nat × List Byte :=
  if p.length < 2 || 97 < leAt p 0 2 then (s, msBadArg, [])
  else (s, msOk, listReply (List.range 98) (leAt p 0 2) 8 room fun i => bytesLE 8 (tabGet (fun _ => 0) s.mg.life i))

/-- SENSOR_READ (R527): two bytes per sensor, then the VCORE request and floor. -/
def State.msgSensors (s : State) : List Byte :=
  (s.mg.temps.map (unsigned 16)).flatMap (bytesLE 2) ++ s.mg.volts.flatMap (bytesLE 2) ++
    (s.mg.delays.map (unsigned 16)).flatMap (bytesLE 2) ++ s.mg.srams.flatMap (bytesLE 2) ++
    bytesLE 2 (s.g F.MGT_STATUS_VCORE) ++ bytesLE 2 s.mg.vFloor

/-- PLAN_LIST (R550): the open proposals. -/
def State.msgPlans (s : State) (p : List Byte) (room : Nat) : List Byte :=
  listReply s.mg.proposals (leAt p 0 2) 16 room fun x =>
    bytesLE 2 x.axis ++ bytesLE 2 x.quantity ++ bytesLE 4 x.inForce ++ bytesLE 4 x.proposed ++ bytesLE 4 x.time

/-- A message's effect, status and payload of its reply (*Message types*). -/
def State.msgBody (s : State) (n type : Nat) (p : List Byte) (room : Nat) (x : Image) (pol : Policy) :
    State × Nat × List Byte :=
  match type with
  | 0x01 => s.msgAcquire n p
  | 0x02 => s.msgRelease n p
  | 0x03 => (s, msOk, s.msgList p room)
  | 0x10 => s.msgStage n p x
  | 0x11 => s.msgActivate n p
  | 0x12 => s.msgConfirm n
  | 0x13 => s.msgPolicy n p x pol
  | 0x20 => s.msgJournal n p
  | 0x21 => s.msgLife p room
  | 0x22 => (s, msOk, s.msgSensors)
  | _ => (s, msOk, s.msgPlans p room)

/-- A message of an owner (R559, R536): the state after it and the bytes of its reply. In recovery Camellia takes no
message but IMAGE_STAGE and IMAGE_ACTIVATE. -/
def State.message (s : State) (n : Nat) (msg : List Byte) (room : Nat) (x : Image) (pol : Policy) : State × List Byte :=
  let type := leAt msg 0 2
  let p := (msg.drop 8).take (leAt msg 2 2)
  let r : State × Nat × List Byte :=
    match msgRole type (s.role n) with
    | none => (s, msBadType, [])
    | some false => (s, msRole, [])
    | some true =>
      if s.is F.MGT_STATUS_RECOVERY && type != 0x10 && type != 0x11 then (s, msBusy, [])
      else s.msgBody n type p (room - 8) x pol
  let l := r.2.2.take (room - 8)
  (r.1, bytesLE 2 type ++ bytesLE 2 l.length ++ bytesLE 2 (leAt msg 4 2) ++ bytesLE 1 r.2.1 ++ bytesLE 1 0 ++ l)

/-! ### The register mailbox -/

/-- The bytes of an owner's data window. -/
def State.window (s : State) (n : Nat) : List Byte :=
  (List.range 64).flatMap fun i => bytesLE 4 (s.rd (R.MGT_OD_MB_DATA n i)).toNat

/-- Bytes are written into the data window from its start. -/
def State.putWindow (s : State) (n : Nat) (l : List Byte) : State :=
  s.each (List.range ((l.length + 3) / 4)) fun i s =>
    s.wr (R.MGT_OD_MB_DATA n i) (BitVec.ofNat 32 (leAt l (4 * i) 4))

/-- What the placeholder of a message without an image finds. -/
def noImage : Image := ⟨0, false, false, 0, 0, 0, false⟩

/-- Camellia answers the message in an owner's window (R559). -/
def State.answer (s : State) (n : Nat) (x : Image) (pol : Policy) : State :=
  let r := s.message n (s.window n) 256 x pol
  ((r.1.putWindow n r.2).off (F.MGT_OD_MB_CTL_BUSY n)).on (F.MGT_OD_MB_CTL_DONE n)

/-- Does a message's type make Camellia read a signed object from a buffer? -/
def readsObject (type : Nat) : Bool := type == 0x10 || type == 0x13

/-- GO of an owner's register mailbox (R559): ignored while BUSY. A message that makes Camellia read an image or a policy
stays in progress until IMAGE_STAGE or POLICY_STAGE says what is found there, one that finds Camellia halted until it runs
again. [DEDUCED, safe, log 121] -/
def State.mailboxGo (s : State) (n : Nat) : State :=
  if s.is (F.MGT_OD_MB_CTL_BUSY n) then s
  else
    let s := (s.on (F.MGT_OD_MB_CTL_BUSY n)).off (F.MGT_OD_MB_CTL_DONE n)
    if readsObject (leAt (s.window n) 0 2) || !s.camelliaRuns then s else s.answer n noImage s.mg.policyFlash

/-- Camellia runs again and answers the messages that wait for it. -/
def State.serveMail (s : State) : State :=
  if !s.camelliaRuns then s
  else s.each ((List.range 4).filter fun n => s.is (F.MGT_OD_MB_CTL_BUSY n) && !readsObject (leAt (s.window n) 0 2)) fun n s =>
    s.answer n noImage s.mg.policyFlash

/-- A write of an owner's mailbox control: DONE is cleared by 1, and GO submits. -/
def wrMbCtl (n : Nat) (v : Word) (s : State) : State :=
  let s := s.when (getBits v 2 1 == 1) fun s => s.off (F.MGT_OD_MB_CTL_DONE n)
  s.when (getBits v 0 1 == 1) fun s => s.mailboxGo n

/-- An owner puts a message of a type into its window and writes GO. -/
def State.sendMessage (s : State) (n : Nat) (type seq : Nat) (p : List Byte) : State :=
  s.write (.od (Fin.ofNat 4 n)) (R.MGT_OD_MB_CTL n) fun s =>
    if s.is (F.MGT_OD_MB_CTL_BUSY n) then s
    else (s.putWindow n (bytesLE 2 type ++ bytesLE 2 p.length ++ bytesLE 2 seq ++ bytesLE 2 0 ++ p)).mailboxGo n

/-- A message in progress whose type is given completes with what Camellia found. [DEDUCED, safe, log 121] -/
def State.completeMessage (s : State) (n type : Nat) (x : Image) (pol : Policy) : State :=
  if s.camelliaRuns && s.is (F.MGT_OD_MB_CTL_BUSY n) && leAt (s.window n) 0 2 == type then s.answer n x pol else s

/-- LEDGER_ACQUIRE (R555). -/
def execLedgerAcquire (n : Fin 4) (seq : BitVec 16) (activity : Byte) (object : BitVec 16) (s : State) : Res :=
  .next (s.sendMessage n 0x01 seq.toNat (bytesLE 1 activity.toNat ++ bytesLE 1 0 ++ bytesLE 2 object.toNat))

/-- LEDGER_RELEASE (R558). -/
def execLedgerRelease (n : Fin 4) (seq ticket : BitVec 16) (s : State) : Res :=
  .next (s.sendMessage n 0x02 seq.toNat (bytesLE 2 ticket.toNat))

/-- LEDGER_LIST (R555). -/
def execLedgerList (n : Fin 4) (seq first : BitVec 16) (s : State) : Res :=
  .next (s.sendMessage n 0x03 seq.toNat (bytesLE 2 first.toNat))

/-- IMAGE_STAGE (R537): the image of the IMAGE_STAGE message in progress has been read and checked. -/
def execImageStage (n : Fin 4) (x : Image) (s : State) : Res := .next (s.completeMessage n 0x10 x s.mg.policyFlash)

/-- IMAGE_ACTIVATE (R537, R538). -/
def execImageActivate (n : Fin 4) (seq : BitVec 16) (mode : Byte) (s : State) : Res :=
  .next (s.sendMessage n 0x11 seq.toNat (bytesLE 1 mode.toNat))

/-- IMAGE_CONFIRM (R537). -/
def execImageConfirm (n : Fin 4) (seq : BitVec 16) (s : State) : Res := .next (s.sendMessage n 0x12 seq.toNat [])

/-- POLICY_STAGE (R538): the policy of the POLICY_STAGE message in progress has been read. -/
def execPolicyStage (n : Fin 4) (x : Image) (pol : Policy) (s : State) : Res := .next (s.completeMessage n 0x13 x pol)

/-- JOURNAL_READ (R529). -/
def execJournalRead (n : Fin 4) (seq : BitVec 16) (first : BitVec 64) (count handle : Word) (s : State) : Res :=
  .next (s.sendMessage n 0x20 seq.toNat (bytesLE 8 first.toNat ++ bytesLE 4 count.toNat ++ bytesLE 4 handle.toNat))

/-- LIFE_READ (R559). -/
def execLifeRead (n : Fin 4) (seq first : BitVec 16) (s : State) : Res :=
  .next (s.sendMessage n 0x21 seq.toNat (bytesLE 2 first.toNat))

/-- SENSOR_READ (R527). -/
def execSensorRead (n : Fin 4) (seq : BitVec 16) (s : State) : Res := .next (s.sendMessage n 0x22 seq.toNat [])

/-- PLAN_LIST (R550). -/
def execPlanList (n : Fin 4) (seq first : BitVec 16) (s : State) : Res :=
  .next (s.sendMessage n 0x30 seq.toNat (bytesLE 2 first.toNat))

/-- BAD_TYPE_MESSAGE (R559): a type that *Message types* lists is no such message. -/
def execBadTypeMessage (n : Fin 4) (seq type : BitVec 16) (s : State) : Res :=
  if (msgRole type.toNat .maintainer).isSome then .next s else .next (s.sendMessage n type.toNat seq.toNat [])

/-- MGT_MSG (R326, *Opcodes*): the message read from host memory goes to Camellia, and the reply is written back. While
Camellia is halted or in reset the descriptor waits. -/
def execMgtMsg (n : Fin 4) (k : Fin 8) (d : Desc) (msg : List Byte) (x : Image) (pol : Policy) (s : State) : Res :=
  let len := d.field 24 4
  if !s.isolated regMgmt && !s.camelliaRuns then .next s else
  s.descriptor n k 0x45 d (d.target == 0) (d.zeroFrom 36 && 8 ≤ len && len ≤ 4096) false fun s =>
    if s.isolated regMgmt then (s, stIsolated, [0])
    else if msg.length < len then (s.hostFetch n (d.field 16 8) len, stBusError, [0])
    else
      let r := (s.hostFetch n (d.field 16 8) len).message n (msg.take len) 4096 x pol
      (r.1.hostSend n (d.field 28 8) r.2, stOk, [r.2.length])

/-! ### The journal and the flash -/

/-- FLASH_FAULT (R531). -/
def execFlashFault (s : State) : Res :=
  .next (({ s with mg := { s.mg with flashDown := true } }.on F.MGT_STATUS_FLASH_FAULT).raiseMgt 1856)

/-- FLASH_RECOVERED (R531): the log buffer is copied in unless something else still diverts the journal. -/
def execFlashRecovered (s : State) : Res :=
  let s := { s with mg := { s.mg with flashDown := false } }
  .next (if s.journalDiverted then s else s.copyBuffer)

/-- LOG_COMPACTION (R532): entries of severity info older than 30 days are gone, and what has arrived meanwhile is copied
in. -/
def execLogCompaction (s : State) : Res :=
  if !s.mg.compacting then .next s
  else
    let keep := fun (e : JEntry) => e.sev != 0 || s.now < e.full + 30 * 86400 * secUnits
    let s := { s with mg := { s.mg with journal := s.mg.journal.filter keep, compacting := false } }
    .next (if s.journalDiverted then s else s.copyBuffer)

/-- FLASH_REFRESH (R547): every 2 years each area is rewritten one copy at a time; its contents stay, and the copy counters
rise. -/
def execFlashRefresh (s : State) : Res :=
  .next (s.duty dutyFlash (730 * dayMs) fun s => { s with mg := { s.mg with ecFlashCopies := s.mg.ecFlashCopies + 1 } })

/-- OTP_REFRESH (R547): every month weakly set bits are programmed again; what the OTP holds stays. -/
def execOtpRefresh (s : State) : Res := .next (s.duty dutyOtp (30 * dayMs) fun s => s)

/-! ### Sensors and VCORE -/

/-- A temperature reading (R527, R528): sensors 0 to 8 are on the logic die. -/
def State.tempRead (s : State) (i : Nat) (v : Int) : State :=
  let s := { s with mg := { s.mg with temps := listSet s.mg.temps i v } }
  let lim : Int := s.g F.MGT_CFG_TJ_WARN * 16
  if 9 ≤ i then s
  else if lim < v && !s.mg.warned.getD i false then { s with mg := { s.mg with warned := listSet s.mg.warned i true } }.raiseMgt 1872
  else if v ≤ lim - 80 then { s with mg := { s.mg with warned := listSet s.mg.warned i false } }
  else s

/-- SENSOR_SAMPLE (R527): temperatures and voltages every 10 ms, delay monitors every 10 s. -/
def execSensorSample (x : SensorRead) (s : State) : Res :=
  .next (match x with
  | .temperature i v => s.duty i 10 fun s => s.tempRead i (signed 16 v.toNat)
  | .voltage i v => s.duty (12 + i) 10 fun s => { s with mg := { s.mg with volts := listSet s.mg.volts i v.toNat } }
  | .delay i v => s.duty (28 + i) 10000 fun s =>
      { s with mg := { s.mg with delays := listSet s.mg.delays i (signed 16 v.toNat) } })

/-- The least of a list of integers, 0 of none. -/
def leastI : List Int → Int
  | [] => 0
  | [x] => x
  | x :: t => min x (leastI t)

/-- The VCORE request changes (R545); a transaction that fails three times keeps the last request. -/
def State.setVcore (s : State) (v : Nat) (ok : Bool) : State :=
  let old := s.g F.MGT_STATUS_VCORE
  if !ok then (s.on F.MGT_STATUS_AVS_FAULT).raiseMgt 1863
  else if v == old then s
  else ((s.p F.MGT_STATUS_VCORE v).journal 12 7 (Config.severity 1862) [old, v]).raiseMgt 1862

/-- VCORE_ADJUST (R545): every 10 s; `ok` is false when an AVSBus transaction of this run fails three times in a row. While
the management region is isolated or Camellia halted the request holds (R32, R543). -/
def execVcoreAdjust (ok : Bool) (s : State) : Res :=
  if !s.dutyDue dutyVcore 10000 then .next s
  else
    let s := s.dutyRan dutyVcore
    let x := leastI s.mg.delays
    let v := s.g F.MGT_STATUS_VCORE
    let lo : Int := if s.g F.MGT_CFG_SLACK_LO == 0 then 40 else s.g F.MGT_CFG_SLACK_LO
    let high := decide ((s.g F.MGT_CFG_SLACK_HI : Int) < x)
    let since := if high then some (s.mg.slackHiSince.getD s.tb.ticks) else none
    let hour := match since with
      | some t => decide (t + hourTicks ≤ s.tb.ticks)
      | none => false
    let s := { s with mg := { s.mg with slackHiSince := since } }
    let new := if x < lo && v < 880 then v + 5 else if hour && max 720 s.mg.vFloor + 5 ≤ v then v - 5 else v
    let s := s.setVcore new ok
    .next (s.when (x < lo && s.g F.MGT_STATUS_VCORE == 880) fun s => s.raiseMgt 1863)

/-- The margins of the SRAM test against its highest failing voltages (R546). -/
def State.marginTest (s : State) (failing : List Nat) : State :=
  let s := { s with mg := { s.mg with srams := failing } }.off F.MGT_STATUS_MARGIN_DUE
  let v : Int := s.g F.MGT_STATUS_VCORE
  if failing.any fun (f : Nat) => decide (v - f < 60) then
    let s := { s with mg := { s.mg with vFloor := min 880 (s.mg.vFloor + 5) } }
    (s.journal 12 7 (Config.severity 1864) (failing.map fun (f : Nat) => unsigned 32 (v - f))).raiseMgt 1864
  else s

/-- SRAM_MARGIN_TEST (R546): a test that falls due, every 30 days, or has waited runs under an entry of activity 4, held or
granted to Camellia for it, or sets MARGIN_DUE and waits. The operand holds the four engines' highest failing voltages in
mV. -/
def execSramMarginTest (failing : List (BitVec 16)) (s : State) : Res :=
  let f := (List.range 4).map fun i => (failing.getD i 0).toNat
  let entry := s.mg.ledger.any fun e => e.activity == 4
  if !s.camelliaRuns || !(entry || s.is F.MGT_STATUS_MARGIN_DUE || s.dutyDue dutyMargin (30 * dayMs)) then .next s
  else if entry then .next ((s.dutyRan dutyMargin).marginTest f)
  else match s.ledgerAsk 4 0 5 3 with
    | (s, .granted t) =>
      .next (((s.dutyRan dutyMargin).marginTest f).endEntry ⟨4, 0, 5, t, s.tb.ticks⟩ 2)
    | (s, _) => .next (s.on F.MGT_STATUS_MARGIN_DUE)

/-- TRIM_DRIFT_CHECK (R547): once a day, more than 1.0 % of Snowdrop or 0.5 % of Marigold. -/
def execTrimDriftCheck (s : State) : Res :=
  let sd := absN (s.gi F.CLK_TRIM_SD_TRIM - signed 10 Config.factoryTrimSnowdrop.toNat)
  let mgd := absN (s.gi F.CLK_TRIM_MG_TRIM - signed 10 Config.factoryTrimMarigold.toNat)
  .next (s.duty dutyTrim dayMs fun s => s.when (decide (100 < sd) || decide (50 < mgd)) fun s => s.raiseMgt 1865)

/-! ### Life counters and the calendar -/

/-- LIFE_COUNTER_SAVE (R553): every hour. -/
def execLifeCounterSave (s : State) : Res :=
  .next (s.duty dutyLife 3600000 fun s => { s with mg := { s.mg with lifeFlash := s.mg.life } })

/-- CALENDAR_SET (R554): while LOCKED the calendar follows full time once every 1 s; the first set after Dormant or after 60 s without
LOCKED is journalled, with EV1866 for a step. -/
def execCalendarSet (s : State) : Res :=
  let first := s.mg.calFirst
  if s.servo != servoLocked || !s.camelliaRuns || !(first || s.dutyDue dutyCalendar 1000) then .next s
  else
    let s := s.dutyRan dutyCalendar
    let old := s.mg.calendar
    let s := { s with mg := { s.mg with calendar := s.now, calFirst := false } }
    if !first then .next s
    else
      let d : Int := s.now - old
      let s := { s with mg := { s.mg with replanHour := s.calendarHour } }
      let s := s.journal 10 7 (Config.severity 1866)
        [old / secUnits, old % secUnits / 65536, s.now / secUnits, s.now % secUnits / 65536, unsigned 64 (floorDiv d 65536)]
      .next (s.when (d != 0) fun s => s.raiseMgt 1866)

end Sys2Proof.Machine
end

