-- ==== Sys2Proof/Machine/Ageing.lean ====
section
/-! DEFINITION. Ageing of the drives (R548, R549) and re-planning (R550 to R552), chapter 22. -/

namespace Sys2Proof.Machine

def State.thermalOf (s : State) (n : Nat) : ThermalSt := tabGet (fun _ => ThermalSt.reset) s.mg.thermal n
def State.setThermal (s : State) (n : Nat) (x : ThermalSt) : State :=
  { s with mg := { s.mg with thermal := tabSet (fun _ => ThermalSt.reset) s.mg.thermal n x } }
def State.chopPlan (s : State) (g : Nat) : ChopSt := tabGet (fun _ => ChopSt.reset) s.mg.chops g
def State.setChopPlan (s : State) (g : Nat) (x : ChopSt) : State :=
  { s with mg := { s.mg with chops := tabSet (fun _ => ChopSt.reset) s.mg.chops g x } }

/-! ### Junction temperature

Temperatures are in units of 2^-32 K, powers in units of 2^-32 W, currents and voltages in units of 2^-16. Each quotient
truncates toward minus infinity. -/

/-- A temperature of 1/16 °C units. -/
def sixteenths (x : Int) : Int := x * 2 ^ 28

/-- The case temperature t_c: the hottest phase of the telemetry while the link is locked, else TAMB_SUB (R548, R141). -/
def State.caseTemp (s : State) (n : Nat) : Int :=
  if s.g (F.AX_TLM_STATUS_STATE n) != 2 then sixteenths (s.gi (F.MGT_AX_TH_TAMB_SUB_TAMB_SUB n))
  else sixteenths (max (max (s.gi (F.AX_TLM_TEMP_UV_TEMP_U n)) (s.gi (F.AX_TLM_TEMP_UV_TEMP_V n)))
    (s.gi (F.AX_TLM_TEMP_W_TEMP_W n)))

/-- The phase peak current i. -/
def State.phaseCurrent (s : State) (n : Nat) : Nat :=
  let d := absN (s.rd (axisWord n 0x100)).int
  let q := absN (s.rd (axisWord n 0x104)).int
  s.g (F.MGT_AX_TH_I_RATED_I_RATED n) * isqrt 33 0 (d * d + q * q) / 2 ^ 31

/-- 2 i / pi, with 2 / pi in units of 2^-32. -/
def twoOverPi (i : Nat) : Nat := i * 2734261102 / 2 ^ 32

/-- The conduction loss p_c. -/
def State.conduction (s : State) (n : Nat) : Nat :=
  let i := s.phaseCurrent n
  3 * (s.g (F.MGT_AX_TH_V0_V0 n) * twoOverPi i + s.g (F.MGT_AX_TH_R_ON_R_ON n) * i * i / 131072000)

/-- The DC-link voltage v_dc; none where DL_SCALE is 0. -/
def State.linkVolts (s : State) (n : Nat) : Option Int :=
  if s.g (F.AX_TLM_STATUS_STATE n) == 2 then some (s.g (F.AX_TLM_GD_VDC_VDC n) * 4096)
  else
    let g := s.axGroup n
    let k := s.g (F.FXG_DL_CHECK_DL_SCALE g)
    if k == 0 then none else some (floorDiv (s.gi (F.GLB_DL_FREE_Q g) * 65536) k)

/-- The periods of 250 ps of a carrier period under the active PERIOD (R87). -/
def State.carrierUnits (s : State) (n : Nat) : Nat :=
  (if s.cntMode n == 0 then 2 else 1) * (s.pwmOf n).period

/-- The switching loss p_s; none where a divisor of the rule is 0. -/
def State.switching (s : State) (n : Nat) : Option Int :=
  let den := s.carrierUnits n * s.g (F.MGT_AX_TH_I_REF_I_REF n) * s.g (F.MGT_AX_TH_V_REF_V_REF n)
  match s.linkVolts n with
  | some v =>
    if den == 0 then none
    else some (floorDiv (12000 * s.g (F.MGT_AX_TH_E_SW_E_SW n) * twoOverPi (s.phaseCurrent n) * v * 65536) den)
  | none => none

/-- The rise of the junction over the case; none where the rule divides by 0. Only a RUNNING unit heats (R548). -/
def State.heatRise (s : State) (n : Nat) : Option Int :=
  if s.pwmState n != 2 then some 0
  else match s.switching n with
    | some p => some (floorDiv (s.g (F.MGT_AX_TH_ZTH_ZTH n) * (s.conduction n + p)) 65536)
    | none => none

/-- The next tj; none where the rule divides by 0. [DEDUCED, unsafe, log 123] -/
def State.nextTj (s : State) (n : Nat) : Option Int :=
  let tau := s.g (F.MGT_AX_TH_TAU_TAU n)
  let tj := (s.thermalOf n).tj
  match s.heatRise n with
  | some r => if tau == 0 then none else some (tj + floorDiv (s.caseTemp n + r - tj) tau)
  | none => none

/-- A half cycle of a swing (R549): it counts from 5 K on. [DEDUCED, unsafe, log 123] -/
def State.halfCycle (s : State) (n : Nat) (d : Nat) : State :=
  if d < 5 * 2 ^ 32 then s
  else
    let b := min (d / (5 * 2 ^ 32) - 1) 15
    let nf := s.g (F.MGT_NF_NF b)
    let x := s.thermalOf n
    let add := if nf == 0 then 0 else 10 ^ 9 * 2 ^ 32 / (2 * nf)
    let x := { x with bins := tabSet (fun _ => 0) x.bins b (tabGet (fun _ => 0) x.bins b + 1), life := x.life + add }
    ((s.setThermal n x).p (F.MGT_AX_TH_LIFE_USED_LIFE_USED n) (min (x.life / 2 ^ 32) (2 ^ 32 - 1))).addLife
      (lifeThermal + n) 1

/-- Thermal cycle counting (R549): a turning point is confirmed once tj has moved 2 K back from it. The first one begins
the first swing. -/
def State.countCycle (s : State) (n : Nat) : State :=
  let x := s.thermalOf n
  let back := if x.rising then x.ext - x.tj else x.tj - x.ext
  if back ≤ 0 then s.setThermal n { x with ext := x.tj }
  else if back < 2 * 2 ^ 32 then s
  else
    let s := s.setThermal n { x with turn := some x.ext, ext := x.tj, rising := !x.rising }
    match x.turn with
    | some t => s.halfCycle n (absN (x.ext - t))
    | none => s

/-- The energy of one step: p_base * (vd*id + vq*iq) * 1 ms, its magnitude (R548, *Life counters, 64-bit*). -/
def State.stepEnergy (s : State) (n : Nat) : Nat :=
  let w := fun (o : Nat) => (s.rd (axisWord n o)).int
  s.g (F.MGT_AX_TH_P_BASE_P_BASE n) * absN (w 0x108 * w 0x100 + w 0x10C * w 0x104) / (2 ^ 30 * 1000)

/-- Energy is counted in whole joules; the rest stays. -/
def State.addEnergy (s : State) (n e : Nat) : State :=
  let x := s.thermalOf n
  (s.setThermal n { x with energy := (x.energy + e) % 2 ^ 32 }).addLife (lifeEnergy + n) ((x.energy + e) / 2 ^ 32)

/-- One update of an axis (R548). A temperature for which the rule divides by 0 is an open value.
[DEDUCED, unsafe, log 123] -/
def State.thermalUpdate (s : State) (n : Nat) : State :=
  let open_ := (s.nextTj n).isNone
  let tj := (s.nextTj n).getD (sixteenths (signed 16 s.freshWord.toNat))
  let s := s.when open_ State.took
  let x := s.thermalOf n
  let s := (s.setThermal n { x with tj := tj, peak := max x.peak tj }).p (F.MGT_AX_TH_TJ_TJ n)
    (unsigned 32 (floorDiv tj (2 ^ 28)))
  let s := s.countCycle n
  s.when (s.pwmState n == 2) fun s => s.addEnergy n (s.stepEnergy n)

/-- THERMAL_MODEL_UPDATE (R548, R549): once every 1 ms. -/
def execThermalModelUpdate (s : State) : Res :=
  .next (s.duty dutyThermal 1 fun s => s.each (List.range 16) fun n s => s.thermalUpdate n)

/-! ### Re-planning -/

/-- The quantities of *Re-plan steps*, as a proposal names them. -/
def qCap : Nat := 0
def qGuard : Nat := 1
def qPeriod : Nat := 2
def qDuty : Nat := 3

/-- An applied step closes the open proposal of its quantity and is journalled as KIND 4 (R551). -/
def State.planStep (s : State) (ev axis quantity old new : Nat) : State :=
  let keep := fun (p : Proposal) => !(p.axis == axis && p.quantity == quantity)
  let s := { s with mg := { s.mg with proposals := s.mg.proposals.filter keep } }
  (s.journal 4 7 (Config.severity ev) [axis, quantity, old, new]).raiseMgt ev

/-- A step that would pass its bound becomes a proposal, journalled as KIND 5 (R550); a newer one of the quantity replaces
it. -/
def State.propose (s : State) (axis quantity old new : Nat) : State :=
  let keep := fun (p : Proposal) => !(p.axis == axis && p.quantity == quantity)
  let x : Proposal := ⟨axis, quantity, old, new, s.mg.calendar / secUnits % 2 ^ 32⟩
  let s := { s with mg := { s.mg with proposals := s.mg.proposals.filter keep ++ [x] } }
  s.journal 5 7 (Config.severity (1904 + axis % 16)) [quantity, old, new, axis]

/-- The step and axis of a proposal go to the maintainer's event ring (R550). -/
def State.proposeAxis (s : State) (n quantity old new : Nat) : State :=
  let s := s.propose n quantity old new
  s.raiseTo (1904 + n) (s.rd R.MGT_STATUS) (s.roleOwner .maintainer)

/-- The planned value in force at the head of a stack, else the present value. -/
def planned (l : List Nat) (now : Nat) : Nat := l.headD now

/-- The stack after a step from `old` to `new`. -/
def pushPlan (l : List Nat) (old new : Nat) : List Nat :=
  match l with
  | [] => [new, old]
  | _ => new :: l

/-- The stack after a relaxing step: the integrator's value alone is no step in force. -/
def popPlan (l : List Nat) : List Nat :=
  match l with
  | _ :: b :: c :: t => b :: c :: t
  | _ => []

/-- Steps in force. -/
def planSteps (l : List Nat) : Nat := l.length - 1

/-- Camellia writes IQ_CAP in one burst (R551). -/
def State.writeCap (s : State) (n v : Nat) : State :=
  s.write .camellia (axisWord n 0x064) fun s => s.writeBlock n [(0x064, BitVec.ofNat 32 v)]

def State.writeGuard (s : State) (n v : Nat) : State :=
  s.write .camellia (R.AX_PWM_DT_GUARD n) fun s => s.p (F.AX_PWM_DT_GUARD_GUARD n) v

def State.writePeriod (s : State) (n v : Nat) : State :=
  s.write .camellia (R.AX_PWM_PERIOD n) fun s => s.p (F.AX_PWM_PERIOD_PERIOD n) v

/-- IQ_CAP and IQ_LIMIT of an axis. -/
def State.iqCap (s : State) (n : Nat) : Nat := (s.rd (axisWord n 0x064)).toNat
def State.iqLimit (s : State) (n : Nat) : Nat := (s.rd (axisWord n 0x03C)).toNat

/-- The tightening step of the current cap (*Re-plan steps*). -/
def State.tightenCap (s : State) (n : Nat) : State :=
  let x := s.thermalOf n
  let l := s.iqLimit n
  let old := min (planned x.caps (s.iqCap n)) l
  let new := old - l / 64
  if new * 64 < s.g (F.MGT_AX_BOUND_CAP_MIN n) * l then s.proposeAxis n qCap old new
  else ((s.setThermal n { x with caps := pushPlan x.caps old new }).writeCap n new).planStep (1888 + n) n qCap old new

/-- The tightening step of the dead-time guard; GUARD_MAX 0 allows none. -/
def State.tightenGuard (s : State) (n : Nat) : State :=
  let x := s.thermalOf n
  let bound := s.g (F.MGT_AX_BOUND_GUARD_MAX n)
  let old := planned x.guards (s.g (F.AX_PWM_DT_GUARD_GUARD n))
  if bound == 0 then s
  else if bound < old + 1 then s.proposeAxis n qGuard old (old + 1)
  else ((s.setThermal n { x with guards := pushPlan x.guards old (old + 1) }).writeGuard n (old + 1)).planStep
    (1888 + n) n qGuard old (old + 1)

/-- The tightening step of the PWM frequency, only while the unit is DISABLED; PERIOD_MAX 0 allows none. -/
def State.tightenPeriod (s : State) (n : Nat) : State :=
  let x := s.thermalOf n
  let bound := s.g (F.MGT_AX_F_MIN_PERIOD_MAX n)
  let old := planned x.periods (s.g (F.AX_PWM_PERIOD_PERIOD n))
  let new := old * 9 / 8
  if bound == 0 || s.pwmState n != 0 then s
  else if bound < new then s.proposeAxis n qPeriod old new
  else (((s.setThermal n { x with periods := pushPlan x.periods old new }).writePeriod n new).on
    (F.MGT_AX_TH_PLAN_STATE_FREQ_CHANGED n)).planStep (1888 + n) n qPeriod old new

/-- The relaxing step of the current cap: IQ_LIMIT / 64 more, up to IQ_LIMIT. -/
def State.relaxCap (s : State) (n : Nat) : State :=
  let x := s.thermalOf n
  match x.caps with
  | [] => s
  | old :: _ =>
    let l := s.iqLimit n
    let new := min (old + l / 64) l
    let rest := match popPlan x.caps with
      | [] => []
      | _ :: t => new :: t
    ((s.setThermal n { x with caps := rest }).writeCap n new).planStep (1888 + n) n qCap old new

/-- The relaxing step of the dead-time guard. -/
def State.relaxGuard (s : State) (n : Nat) : State :=
  let x := s.thermalOf n
  match x.guards with
  | old :: new :: _ =>
    ((s.setThermal n { x with guards := popPlan x.guards }).writeGuard n new).planStep (1888 + n) n qGuard old new
  | _ => s

/-- The relaxing step of the PWM frequency, only while the unit is DISABLED. -/
def State.relaxPeriod (s : State) (n : Nat) : State :=
  let x := s.thermalOf n
  match x.periods with
  | old :: new :: _ =>
    if s.pwmState n != 0 then s
    else (((s.setThermal n { x with periods := popPlan x.periods }).writePeriod n new).on
      (F.MGT_AX_TH_PLAN_STATE_FREQ_CHANGED n)).planStep (1888 + n) n qPeriod old new
  | _ => s

/-- The planned values in force are written again at each evaluation (R551); PERIOD only while the unit is DISABLED. -/
def State.rewritePlan (s : State) (n : Nat) : State :=
  let x := s.thermalOf n
  let s := match x.caps with
    | v :: _ => s.when (s.iqCap n != v) fun s => s.writeCap n v
    | [] => s
  let s := match x.guards with
    | v :: _ => s.writeGuard n v
    | [] => s
  match x.periods with
  | v :: _ => s.when (s.pwmState n == 0 && s.g (F.AX_PWM_PERIOD_PERIOD n) != v) fun s =>
      (s.writePeriod n v).on (F.MGT_AX_TH_PLAN_STATE_FREQ_CHANGED n)
  | [] => s

/-- PLAN_STATE shows the steps in force and whether a proposal is open. -/
def State.showPlan (s : State) (n : Nat) : State :=
  let x := s.thermalOf n
  let s := (s.p (F.MGT_AX_TH_PLAN_STATE_CAP_STEPS n) (min (planSteps x.caps) 63)).p
    (F.MGT_AX_TH_PLAN_STATE_GUARD_STEPS n) (min (planSteps x.guards) 63)
  (s.p (F.MGT_AX_TH_PLAN_STATE_FREQ_STEPS n) (min (planSteps x.periods) 15)).pb
    (F.MGT_AX_TH_PLAN_STATE_PROPOSAL_OPEN n) (s.mg.proposals.any fun p => p.axis == n && p.quantity != qDuty)

/-- Was the axis stressed in the hour just past (R550)? -/
def State.stressed (s : State) (n : Nat) : Bool :=
  let x := s.thermalOf n
  decide (sixteenths (s.gi (F.MGT_AX_TH_TJ_PLAN_TJ_PLAN n)) < x.peak) ||
    decide (s.g (F.MGT_AX_TH_LIFE_BUDGET_LIFE_BUDGET n) * 2 ^ 32 < x.life - x.lifeHour)

/-- The evaluation of an axis (R550, R551). [DEDUCED, unsafe, log 123] -/
def State.replanAxis (s : State) (n : Nat) : State :=
  let hot := s.stressed n
  let x := s.thermalOf n
  let calm := if hot then 0 else x.calm + 1
  let s := s.p (F.MGT_AX_TH_TJ_PEAK_H_TJ_PEAK_H n) (unsigned 32 (floorDiv x.peak (2 ^ 28)))
  let s := s.setThermal n { x with calm := calm, peak := x.tj, lifeHour := x.life }
  let s := s.rewritePlan n
  let s := if hot then ((s.tightenCap n).tightenGuard n).tightenPeriod n
    else if 24 ≤ calm then ((s.relaxCap n).relaxGuard n).relaxPeriod n
    else s
  s.showPlan n

def State.writeDuty (s : State) (g v : Nat) : State :=
  s.write .camellia (R.GLB_BCH_CTL g) fun s => s.p (F.GLB_BCH_CTL_MAX_DUTY g) v

/-- The evaluation of a brake chopper (*Re-plan steps*): 10 ms are 2,500,000 ticks, BCH_PLAN counts 1/256 of them.
[DEDUCED, unsafe, log 123] -/
def State.replanChopper (s : State) (g : Nat) : State :=
  let b := s.bchOf g
  let hot := decide (s.g (F.MGT_DL_BOUND_BCH_PLAN g) * 2500000 * b.windows < b.onHour * 256)
  let s := s.setBch g { b with onHour := 0, windows := 0 }
  let x := s.chopPlan g
  let calm := if hot then 0 else x.calm + 1
  let bound := s.g (F.MGT_DL_BOUND_MAX_DUTY_MIN g)
  let old := planned x.duties (s.g (F.GLB_BCH_CTL_MAX_DUTY g))
  let s := s.setChopPlan g { x with calm := calm }
  let s := match x.duties with
    | v :: _ => s.writeDuty g v
    | [] => s
  if hot then
    if bound == 0 then s
    else if old < bound + 4 then s.propose g qDuty old (old - 4)
    else ((s.setChopPlan g ⟨calm, pushPlan x.duties old (old - 4)⟩).writeDuty g (old - 4)).planStep
      (1920 + g) g qDuty old (old - 4)
  else if 24 ≤ calm then
    match x.duties with
    | _ :: new :: _ =>
      ((s.setChopPlan g ⟨calm, popPlan x.duties⟩).writeDuty g new).planStep (1920 + g) g qDuty old new
    | _ => s
  else s

/-- REPLAN (R550 to R552): the evaluation of a whole hour of the calendar. [DEDUCED, unsafe, log 173] -/
def execReplan (s : State) : Res :=
  .next (s.when (s.camelliaRuns && s.calendarHour != s.mg.replanHour) fun s =>
    let s := { s with mg := { s.mg with replanHour := s.calendarHour } }
    (s.each (List.range 16) fun n s => s.replanAxis n).each (List.range 4) fun g s => s.replanChopper g)

end Sys2Proof.Machine
end

