-- ==== Sys2Proof/Machine/Debug.lean ====
section
/-! DEFINITION. The test access port and debug access (R539 to R544), chapter 22; DBG_ACCESS itself is in
Machine/Bus.lean. -/

namespace Sys2Proof.Machine

/-- The port's instruction register takes a code at Update-IR (R539). -/
def State.tap (s : State) (ir : Nat) : State := { s with mg := { s.mg with tapIr := ir } }

/-- The codes of *Test access port instructions*. -/
def tapCodes : List Nat := [0x00, 0x01, 0x02, 0x04, 0x05, 0x40, 0x41, 0x42, 0x43, 0x44, 0x45, 0x46, 0xFF]

/-- Is a permission of the debug session in force? -/
def State.permits (s : State) (k : Nat) : Bool :=
  match s.mg.session with
  | some x => testBit x.permit k
  | none => false

/-- The end of a debug session, after which a Camellia that was halted answers the messages that wait (R544, R559). -/
def State.endDebug (s : State) : State := s.endSession.serveMail

/-- TEST_LOGIC_RESET (R539, R544): IDCODE is selected; by TRST_N low the debug session ends too. -/
def execTestLogicReset (trst : Bool) (s : State) : Res := .next ((s.when trst State.endDebug).tap 0x01)

/-- EXTEST (R539): the boundary-scan cells drive their outputs; the observe-only balls keep the level that the device
gives them. -/
def execExtest (s : State) : Res := .next (s.tap 0x00)

/-- The 32-bit identification (R539). -/
def idcodeWord : Nat := 0xB * 2 ^ 28 + 0x1624 * 2 ^ 12 + Config.jep106.toNat * 2 + 1

/-- IDCODE (R539). -/
def execIdcode (s : State) : Res := .next ((s.tap 0x01).emit (.jtag 0x01 idcodeWord))

/-- SAMPLE_PRELOAD (R539): the cells are preloaded. -/
def execSamplePreload (cells : Nat) (s : State) : Res :=
  .next { (s.tap 0x02) with mg := { (s.tap 0x02).mg with bsr := cells } }

/-- CLAMP (R539). -/
def execClamp (s : State) : Res := .next (s.tap 0x04)

/-- HIGHZ (R539). -/
def execHighz (s : State) : Res := .next (s.tap 0x05)

/-- BYPASS (R539): its code, and every code that is not listed. -/
def execBypass (code : BitVec 8) (s : State) : Res :=
  if code != 0xFF && tapCodes.contains code.toNat then .next s else .next (s.tap 0xFF)

/-- DBG_CHAL (R540). -/
def execDbgChal (s : State) : Res :=
  .next ((s.tap 0x40).emit (.jtag 0x40 (Config.challenge s.mg.challengeNo).toNat))

/-! ### Certificates -/

/-- The root-key slot whose hash a certificate's key has and that may sign debug certificates. -/
def State.debugSlot (s : State) (h : Nat) : Option Nat :=
  s.mg.keys.findIdx? fun k => k.hash == h && !k.revoked && k.debug

/-- The first of *Debug certificate checks* that a certificate fails, 0 when it passes them. -/
def State.certCheck (s : State) (c : Cert) : Nat :=
  let t := s.mg.calendar / secUnits
  if s.mg.refusing then 8
  else if c.format != 0x0D01 || 16 ≤ c.permit.toNat then 1
  else if (s.debugSlot c.keyHash).isNone then 2
  else if !c.sigOk then 3
  else if c.identity != Config.deviceIdentity then 4
  else if c.challenge != Config.challenge s.mg.challengeNo then 5
  else if t < c.notBefore.toNat || c.notAfter.toNat < t || c.notBefore.toNat + 604800 < c.notAfter.toNat then 6
  else if testBit c.permit.toNat 1 && s.motionActive then 7
  else 0

/-- The slot that a certificate's attempt is journalled with; an open value where no slot has its key.
[DEDUCED, unsafe, log 124] -/
def State.certSlot (s : State) (c : Cert) : Nat := (s.debugSlot c.keyHash).getD s.freshWord.toNat

/-- A refused certificate (R541): its reason, the third refusal in a row, EV1871. A refusal of reason 8 counts for
nothing. [DEDUCED, unsafe, log 124] -/
def State.refuseCert (s : State) (r : Nat) : State :=
  let n := if r == 8 then s.mg.refusals else s.mg.refusals + 1
  let first := if s.mg.refusing then s.mg.refuseTick else s.tb.ticks
  { s with mg := { s.mg with
    lastReason := r, refusals := n, refusing := s.mg.refusing || decide (3 ≤ n), refuseTick := first } }.raiseMgt 1871

/-- DBG_CERT (R541): the certificate is checked, and a new challenge is drawn. [DEDUCED, unsafe, log 124] -/
def execDbgCert (c : Cert) (s : State) : Res :=
  let s := s.tap 0x41
  if !s.camelliaRuns then .next s
  else
    let r := s.certCheck c
    let slot := s.certSlot c
    let s := s.when (s.debugSlot c.keyHash).isNone State.took
    let s := s.journal 9 7 (Config.severity (if r == 0 then 1870 else 1871)) [slot, c.permit.toNat, r]
    let s := { s with mg := { s.mg with challengeNo := s.mg.challengeNo + 1 } }
    if r == 0 then
      .next ({ s with mg := { s.mg with
        session := some ⟨c.permit.toNat, c.notAfter.toNat⟩, refusals := 0 } }.raiseMgt 1870)
    else .next (s.refuseCert r)

/-- The word of DBG_STATUS (R542). -/
def State.debugStatus (s : State) : Nat :=
  match s.mg.session with
  | some x => 1 + 2 * (x.permit % 16) + 2 ^ 8 * (s.mg.lastReason % 16) +
      2 ^ 16 * min (x.notAfter - s.mg.calendar / secUnits) 65535
  | none => 2 ^ 8 * (s.mg.lastReason % 16)

/-- DBG_STATUS (R542). -/
def execDbgStatus (s : State) : Res := .next ((s.tap 0x42).emit (.jtag 0x42 s.debugStatus))

/-- DBG_LOCK (R544). -/
def execDbgLock (s : State) : Res := .next (s.endDebug.tap 0x43)

/-- DBG_RESET (R516, R539): the debug request reset, with permission 3. -/
def execDbgReset (s : State) : Res :=
  let s := s.tap 0x46
  .next (s.when (s.permits 3) fun s => s.endReset 5 [2, 3, 4, 5, 6, 7, 8, 9])

/-- DEBUG_SESSION_EXPIRY (R544). -/
def execDebugSessionExpiry (s : State) : Res :=
  match s.mg.session with
  | some x => .next (s.when (x.notAfter < s.mg.calendar / secUnits) State.endDebug)
  | none => .next s

/-- DEBUG_REFUSAL_PERIOD_END (R541): 60 s have passed. -/
def execDebugRefusalPeriodEnd (s : State) : Res :=
  .next (s.when (s.mg.refusing && s.passed (some s.mg.refuseTick) 60000) fun s => { s with mg := { s.mg with refusing := false, refusals := 0 } })

/-! ### The processors -/

/-- A DBG_CORE operation completes with DONE and DATA (R543). -/
def State.coreDone (s : State) (data : Word) : State :=
  let d := data.toNat + 2 ^ 62
  { s with mg := { s.mg with dbgData := d } }.emit (.jtag 0x45 d)

/-- An operation that completes with an open DATA. [DEDUCED, unsafe, log 124] -/
def State.coreOpen (s : State) : State := s.took.coreDone s.freshWord

/-- An operation on a core (R543): without permission 1 or 2 the instruction selects the bypass register; a target that the
session does not open completes with DATA 0xFFFF_FFFF and no effect. -/
def State.coreOp (s : State) (core : Nat) (k : State → State) : State :=
  let s := s.tap 0x45
  if !s.permits 1 && !s.permits 2 then s
  else if (core < 4 && s.permits 1) || (core == 4 && s.permits 2) then k s
  else s.coreDone 0xFFFFFFFF

def State.isHalted (s : State) (core : Nat) : Bool := s.mg.halted.getD core false
def State.setHalted (s : State) (core : Nat) (b : Bool) : State :=
  { s with mg := { s.mg with halted := listSet s.mg.halted core b } }

/-- A channel of a halted core: STATE 0, its reference frozen (R543). -/
def State.freezeChan (s : State) (k : Nat) : State :=
  (s.setChan k { s.chanOf k with plan := none }).setChanState k 0

/-- CORE_HALT (R543). -/
def execCoreHalt (core : Fin 8) (s : State) : Res :=
  .next (s.coreOp core fun s =>
    if core.val < 4 && s.motionActive then s.coreDone 0xFFFFFFFF
    else
      let s := s.setHalted core true
      ((if core.val < 4 then s.each (coreChans core) fun k s => s.freezeChan k else s)).coreOpen)

/-- What a running core holds in its registers and memory is no longer known. [DEDUCED, unsafe, log 124] -/
def State.coreRan (s : State) (core : Nat) : State :=
  let keep := fun (e : Nat × Option Word) => e.1 / 2 ^ 24 != core
  { s with mg := { s.mg with coreMem := s.mg.coreMem.filter keep, coreReg := s.mg.coreReg.filter keep } }

/-- CORE_RESUME (R543). -/
def execCoreResume (core : Fin 8) (s : State) : Res :=
  .next (s.coreOp core fun s => (s.when (s.isHalted core) fun s => ((s.setHalted core false).coreRan core).serveMail).coreOpen)

/-- CORE_SINGLE_STEP (R543). -/
def execCoreSingleStep (core : Fin 8) (s : State) : Res :=
  .next (s.coreOp core fun s => (s.when (s.isHalted core) fun s => s.coreRan core).coreOpen)

/-- The key of a core's register or memory address. -/
def coreKey (core a : Nat) : Nat := core * 2 ^ 24 + a

/-- A value that the debug port has written and the core has not run since, or an open value. -/
def State.coreRead (s : State) (v : Option Word) : State :=
  match v with
  | some w => s.coreDone w
  | none => s.coreOpen

/-- CORE_READ_REGISTER (R543). -/
def execCoreReadRegister (core : Fin 8) (reg : BitVec 24) (s : State) : Res :=
  .next (s.coreOp core fun s => s.coreRead (tabGet (fun _ => none) s.mg.coreReg (coreKey core reg.toNat)))

/-- CORE_WRITE_REGISTER (R543); what a write into a core that is not halted leaves there is open. -/
def execCoreWriteRegister (core : Fin 8) (reg : BitVec 24) (data : Word) (s : State) : Res :=
  .next (s.coreOp core fun s =>
    let v := if s.isHalted core then some data else none
    { s with mg := { s.mg with
      coreReg := tabSet (fun _ => none) s.mg.coreReg (coreKey core reg.toNat) v } }.coreOpen)

/-- CORE_READ_MEMORY (R543). -/
def execCoreReadMemory (core : Fin 8) (addr : BitVec 24) (s : State) : Res :=
  .next (s.coreOp core fun s => s.coreRead (tabGet (fun _ => none) s.mg.coreMem (coreKey core addr.toNat)))

/-- CORE_WRITE_MEMORY (R543): the words that overlap the word written are no longer known. -/
def execCoreWriteMemory (core : Fin 8) (addr : BitVec 24) (data : Word) (s : State) : Res :=
  .next (s.coreOp core fun s =>
    let a := coreKey core addr.toNat
    let v := if s.isHalted core then some data else none
    let m := s.mg.coreMem.filter fun e => e.1 + 4 ≤ a || a + 4 ≤ e.1
    { s with mg := { s.mg with coreMem := tabSet (fun _ => none) m a v } }.coreOpen)

end Sys2Proof.Machine
end

