-- ==== Sys2Proof/Machine/Crossing.lean ====
section
/-! DEFINITION. Steps that reach across the blocks: a step of the time base (R56), a function-level reset (R342) and a
change of the PCIe link (R311). -/

namespace Sys2Proof.Machine

/-! ### A step of the counter -/

/-- Running carriers do not jump (R81): their last points, and the base periods that follow them (R173), move with the
counter. [DEDUCED, unsafe, log 125] -/
def State.carriersStep (s : State) (d : Int) : State :=
  let s := s.each (List.range 8) fun n s => s.setAe n { s.aeOf n with baseT := ((s.aeOf n).baseT + d).toNat }
  s.each (List.range 16) fun n s =>
    let x := s.pwmOf n
    if s.pwmState n == 2
    then s.setPwm n { x with lastZero := ((x.lastZero : Int) + d).toNat, lastUpdate := ((x.lastUpdate : Int) + d).toNat }
    else s

/-- The waiting steps of the counter at one tick (R56), and what acts on them: queues (R81), carriers (R81), modulator clocks
(R116), noted OFS and GAIN writes (R124), the line shafts (R256) and the gate lists (R394). [DEDUCED, unsafe, log 125] -/
def State.takeSteps (s : State) : State :=
  if s.tb.pendingStep.isEmpty || !s.tickRuns || s.tb.ticks ≤ s.tb.stepTick then s
  else
    let r := s.applyStep
    let s := ((((r.1.shiftQueues r.2).carriersStep r.2).sdStep r.2).csStep r.2).shaftsStepped
    ((s.gateResync 0).gateResync 1).gateResync 2

/-- TIME_STEP (R56): the counter takes the steps that wait for this tick. -/
def execTimeStep (s : State) : Res := .next s.takeSteps

/-- A function-level reset has run for its 1 ms (R342): the owner's writes are taken again (R338).
[DESIGN CHOICE, unsafe, log 126] -/
def State.flrDue (s : State) : State :=
  s.each (List.range 4) fun n s =>
    s.when (s.is (F.HIF_OD_STATUS_FLR_BUSY n) &&
        decide ((tabGet (fun _ => HifSt.reset) s.hif n).flrTick + 250000 ≤ s.tb.ticks)) fun s =>
      s.off (F.HIF_OD_STATUS_FLR_BUSY n)

/-- A tick of the clock while no command waits: the counter takes its increment and then a step that waits for this tick (R56); the
PWM units take what a write of ARM or START left for it (R90), and a Hall commutation event that
waited for the tick (R160), library programs reach their END (R178), axes sample by themselves while the time region is
isolated (R32), the readings of BLDC channels act (R303), and the
ADC requests made for its instant start (R290). [DESIGN CHOICE, safe, log 2] -/
def State.clockTick (s : State) : State :=
  s.tick.takeSteps.pwmDue.hallDue.libsDue.soloSamples.readsDue.adcDue.intakeDue.flrDue

/-! ### Function-level reset -/

/-- Every register of a range of offsets is at its reset value. -/
def State.clearRange (s : State) (first len : Nat) : State :=
  s.keepRegs fun a => a < first || first + len ≤ a

/-- The numbers below `m` whose object an owner holds. -/
def State.owned (s : State) (n m : Nat) (obj : Nat → Obj) : List Nat :=
  (List.range m).filter fun i => decide (s.holder (obj i) = .od n)

/-- Copies of an owner end with ABORTED (R342, R362): those that run, after the segment in progress, and those that wait, with no
byte done. -/
def State.abortCopies (s : State) (n : Nat) : State :=
  let mark := fun (c : Option CopyRun) => c.map fun x => if x.req.od == n then { x with abort := true } else x
  let s : State := { s with ipm := { s.ipm with copies := s.ipm.copies.map mark } }
  let w := s.ipm.waiting.filter fun r => r.od == n
  let s := { s with ipm := { s.ipm with waiting := s.ipm.waiting.filter fun r => r.od != n } }
  (s.each w fun r s => s.copyDone r stAborted 0 0).runCopies

/-- A session stops and is IDLE, its registers and its owner's channels at their reset values (R380). -/
def State.sessionReset (s : State) (c : Nat) : State :=
  { s with cap := tabSet (fun _ => CapSt.reset) s.cap c CapSt.reset }.clearRange (R.CS_CFG c) 0x100

def State.capChanReset (s : State) (k : Nat) : State :=
  { s with env := tabSet (fun _ => EnvSt.reset) s.env k EnvSt.reset }.clearRange (R.CAP_BIND k) 0x10

/-- A controller stops transmitting after the frame in progress (R342): what waits is cancelled, and its matrix ends. -/
def State.canStops (s : State) (c : Nat) : State :=
  let s := (wrTxbCancel c 0xFFFFFFFF s).ttWrite c false
  s.setCan c { s.canOf c with wait := none }

/-- The owner's event queue is emptied and its routes are at their reset values (R495). -/
def State.eventsReset (s : State) (n : Nat) : State :=
  let l := (List.range 2048).filter fun k => decide (s.evOwner k = some n)
  let s := { s with evt := { s.evt with queues := tabSet (fun _ => []) s.evt.queues n [] } }
  s.keepRegs fun a => !(R.EVT_ROUTE 0 ≤ a && a < R.EVT_ROUTE 2048 && l.contains ((a - R.EVT_ROUTE 0) / 4))

/-- FUNCTION_LEVEL_RESET (R342, R70, R345, R353, R359, R362, R380, R477, R495, R558). [DESIGN CHOICE, unsafe, log 126] -/
def execFunctionLevelReset (n : Fin 4) (s : State) : Res :=
  if s.clk.down.contains 4 then .next s
  else
    let s := s.abortCopies n
    let s := s.each (s.owned n 16 .queue) fun q s => s.flush q
    let s := s.each (s.owned n 168 chanObj) fun k s => s.configuredStop k
    let s := s.each (s.owned n 4 .session) fun c s => s.sessionReset c
    let s := s.each (s.owned n 64 .capChan) fun k s => s.capChanReset k
    let s := s.each (s.owned n 4 .can) fun c s => s.canStops c
    let s := s.each (s.owned n 28 .dma) fun k s => (s.dmaStop k 7).setLive k none
    let s := s.rotateKey n
    let s := ({ s with hif := tabSet (fun _ => HifSt.reset) s.hif n { HifSt.reset with flrTick := s.tb.ticks } }.clearRange
      (R.HIF_OD_CTL n) 0x1000).on (F.HIF_OD_STATUS_FLR_BUSY n)
    let s := s.eventsReset n
    let s := if s.role n = .safety && s.saf.unlock.isSome
      then { s with saf := { s.saf with unlock := none } }.off F.SAF_LOCK_UNLOCK_WAIT else s
    .next (s.each (s.mg.ledger.filter fun e => e.holder == n.val) fun e s => s.endEntry e 2)

/-! ### The PCIe link -/

/-- The lanes of the link: 1, 2 or 4. -/
def lanes (w : Nat) : Nat := 2 ^ w

/-- Does a poll period below 100 µs keep the device from initiating ASPM L1 (R314)? [DEDUCED, unsafe, log 127] -/
def State.l1Held (s : State) : Bool := (List.range 4).any fun n => s.g (F.HIF_OD_POLL_PERIOD n) < 400

/-- PCIE_LINK_CHANGE (R311, R314): HIF_LINK shows the link; a link that is down has no lanes and is in no power state. The
device is what initiates ASPM L1: it does not enter it while a poll period is below 100 µs. [DEDUCED, unsafe, log 127] -/
def execPcieLinkChange (speed : Fin 4) (width : Fin 3) (l1 : Bool) (s : State) : Res :=
  let up := speed.val != 0
  .next (((s.p F.HIF_LINK_SPEED speed).p F.HIF_LINK_WIDTH (if up then lanes width else 0)).pb F.HIF_LINK_L1 (up && l1 && (s.is F.HIF_LINK_L1 || !s.l1Held)))

end Sys2Proof.Machine
end

