-- ==== Sys2Proof/Machine/Bus.lean ====
section
/-! DEFINITION. Accesses of the register window: what a write of any offset does (R10, R11, R485, R572 to R577, R599), what
a read returns and clears, the wide-read shadow and HIF_TORN (R341), REG_BLOCK (R326) and DBG_ACCESS (R542). The rows of
the opcode table that name one register's write use the same meanings as the offsets here. -/

namespace Sys2Proof.Machine

/-! ### Registers without a row of their own -/

/-- The refusal flag of the block that an offset lies in is set (R599), where the block has one.
[DEDUCED, unsafe, log 16] -/
def State.refuseAt (s : State) (a : Nat) : State :=
  match a / 0x100000 with
  | 0x0 => if 0x300 ≤ a && a < 0x400 then s.on (F.GLB_PRB_STATUS_CFG_REFUSED ((a - 0x300) / 0x20)) else s
  | 0x1 => if a < 0x100400 then s.on F.CLK_STATUS_CMD_REFUSED else s
  | 0x2 => if a < 0x201000 then s.on F.TB_STATUS_CMD_REFUSED else s
  | 0x4 =>
    let n := (a - 0x400000) / 0x10000
    let o := a % 0x10000
    if o < 0x100 then s.on (F.AX_PWM_STATUS_CFG_REFUSED n)
    else if o < 0x180 then s.on (F.AX_CS_STATUS_CFG_REFUSED n)
    else if o < 0x200 then s
    else s.on (F.AX_FB_STATUS_CFG_REFUSED n)
  | 0x5 => if a < 0x560000 then s.on (F.AUX_STATUS_CFG_REFUSED ((a - 0x500000) / 0x4000)) else s
  | 0x6 => if a < 0x608000 then s.on (F.AE_STATUS_CTL_REFUSED ((a - 0x600000) / 0x1000)) else s
  | 0x8 =>
    if 0x801000 ≤ a && a < 0x806400 then s.on (F.LSP_CH_STATUS_CMD_REFUSED ((a - 0x801000) / 0x80))
    else if 0x807000 ≤ a && a < 0x807100 then s.on (F.LSP_GRP_STATUS_CMD_REFUSED ((a - 0x807000) / 0x10))
    else if 0x881000 ≤ a && a < 0x883A00 then s.on (F.LSH_FOL_STATUS_CMD_REFUSED ((a - 0x881000) / 0x40))
    else if 0x880000 ≤ a then s.on F.LSH_STATUS_CFG_REFUSED
    else s
  | 0xA =>
    if a < 0xA01000 then s.on (F.CS_STATUS_CFG_REFUSED ((a - 0xA00000) / 0x100))
    else s.on (F.CAP_STATUS_CFG_REFUSED ((a - 0xA01000) / 0x10))
  | 0xB => if a < 0xB04000 then s.hifRefuse ((a - 0xB00000) / 0x1000) else s
  | 0xC => if a < 0xC80000 then s.memRefuse else s.on (F.DMA_STATUS_CFG_REFUSED ((a - 0xC80000) / 0x40))
  | 0xD =>
    if a < 0xD02000 then s.on (F.ETH_STATUS_CFG_REFUSED ((a - 0xD00000) / 0x1000))
    else if a < 0xD40000 then (s.on (F.ETH_STATUS_CFG_REFUSED 0)).on (F.ETH_STATUS_CFG_REFUSED 1)
    else if 0xD44000 ≤ a && a < 0xD46000 then s
    else if a < 0xD60000 then s.on (F.ETH_STATUS_CFG_REFUSED ((a - 0xD40000) / 0x2000 % 2))
    else s.on (F.ETH_STATUS_CFG_REFUSED ((a - 0xD60000) / 0x100 % 2))
  | 0xE => if a < 0xE80000 then s.on (F.CAN_STATUS_CFG_REFUSED ((a - 0xE00000) / 0x1000)) else s
  | 0xF => s.on F.FIO_STATUS_CFG_REFUSED
  | _ => s

/-- The conditions of a register's description that compare a value with other registers. [DEDUCED, unsafe, log 17] -/
def State.crossOk (s : State) (a : Nat) (v : Word) : Bool :=
  match a / 0x100000 with
  | 0x2 => a != R.TB_LOCK || decide (getBits v 0 16 ≤ getBits v 16 16)
  | 0x6 =>
    let n := (a - 0x600000) / 0x1000
    if a % 0x1000 == 0x8 then decide (getBits v 0 21 < s.tWritten (2 * n + s.g (F.AE_SCHED_REF_AXIS n)))
    else if a % 0x1000 == 0xC then decide (getBits v 0 21 < s.tWritten (2 * n + 1 - s.g (F.AE_SCHED_REF_AXIS n)))
    else true
  | 0x8 =>
    if 0x880100 ≤ a && a < 0x880300 then a % 0x40 != 0x1C || decide (getBits v 0 22 < s.tCyc)
    else if 0x884800 ≤ a && a < 0x884C00 then
      let len := (s.rd (R.LSH_REG_LEN ((a - 0x884800) / 0x40))).toNat
      match a % 0x40 with
      | 0x4 => decide (1 ≤ v.toNat)
      | 0x8 => decide (v.toNat < len)
      | 0xC => decide (v.toNat < len)
      | 0x10 => decide (v.toNat < len)
      | _ => true
    else if 0x885000 ≤ a && a < 0x885400 then
      match a % 0x20 with
      | 0x4 => decide (1 ≤ v.toNat)
      | 0x14 => decide (2 * getBits v 0 22 ≤ s.tCyc)
      | _ => true
    else true
  | 0x12 =>
    if 0x1203000 ≤ a && a < 0x1203400 && a % 0x40 == 0x1C then decide (1 ≤ v.toNat) && decide (v.toNat ≤ 65535) else true
  | _ => true

/-- A write of a register that needs no more than the access codes (R10) and the refusal of R599. -/
def wrPlain (a : Nat) (v : Word) (s : State) : State :=
  if inRange a v && s.crossOk a v then s.merge a v else s.refuseAt a

/-! ### What a write does, region by region -/

/-- Offsets below 0x10_0000: choppers, DC-link channels and probes. -/
def wrGlb (a : Nat) (v : Word) (s : State) : State :=
  if 0x200 ≤ a && a < 0x240 && a % 0x10 == 0 then
    let g := (a - 0x200) / 0x10
    (wrPlain a v s).refreshChop g
  else if 0x280 ≤ a && a < 0x300 && a % 0x20 == 0 then wrDlCfg ((a - 0x280) / 0x20) v s
  else if 0x300 ≤ a && a < 0x400 && a % 0x20 == 0 then wrPrbCfg ((a - 0x300) / 0x20) v s
  else if 0x300 ≤ a && a < 0x400 && a % 0x20 == 8 then wrPrbPop ((a - 0x300) / 0x20) v s
  else wrPlain a v s

/-- Clocks, resets and power. CLK_REF_HOLDOFF.HOLDOFF is held at its limits. -/
def wrClk (a : Nat) (v : Word) (s : State) : State :=
  if a == R.CLK_REF_CFG then wrClkRefCfg v s
  else if a == R.CLK_REF_HOLDOFF then wrPlain a (putBits v 0 10 (clampN 1 600 (getBits v 0 10))) s
  else if a == R.CLK_CMD then wrClkCmd v s
  else if a == R.CLK_DOM_SEL then wrClkDomSel v s
  else if a == R.RST_CMD then wrRstCmd v s
  else if a == R.RST_WDOG then wrRstWdog v s
  else if a == R.PWR_CMD then wrPwrCmd v s
  else wrPlain a v s

/-- The time base and the launch queues. -/
def wrTime (a : Nat) (v : Word) (s : State) : State :=
  if a == R.TB_CTRL then wrTbCtrl v s
  else if a == R.TB_ADJ then wrTbAdj v s
  else if a == R.TB_CMD then wrTbCmd v s
  else if a == R.TB_UTC then wrTbUtc v s
  else if a == R.TB_GM_CTRL then wrGmCtrl v s
  else if a == R.TB_LOCK then wrTbLock v s
  else if a == R.TB_BMCA then wrTbBmca v s
  else if 0x201000 ≤ a && a < 0x201400 && a % 0x40 == 0x24 then wrLqPush ((a - 0x201000) / 0x40) v s
  else if 0x201000 ≤ a && a < 0x201400 && a % 0x40 == 0x28 then wrLqCancel ((a - 0x201000) / 0x40) v s
  else wrPlain a v s

/-- A write of a compare shadow, by phase: in the tick of a slot's release of the same shadow the release wins (R178). -/
def wrPwmCmp (n x : Nat) (v : Word) (s : State) : State :=
  if (s.pwmOf n).rel.getD x none == some s.tb.ticks then s
  else if x == 0 then wrPlain (R.AX_PWM_CMPA n) v (s.noteShadow n)
  else if x == 1 then wrPlain (R.AX_PWM_CMPB n) v (s.noteShadow n)
  else wrPlain (R.AX_PWM_CMPC n) v (s.noteShadow n)

/-- The cells of an axis. -/
def wrAxis (a : Nat) (v : Word) (s : State) : State :=
  let n := (a - 0x400000) / 0x10000
  let o := a % 0x10000
  if 0x50 ≤ o && o < 0x70 then wrPwmMask n ((o - 0x50) / 4) v s
  else if 0xC ≤ o && o < 0x18 then wrPwmCmp n ((o - 0xC) / 4) v s
  else if 0x10C ≤ o && o < 0x11C then wrCsScale n a v s
  else match o with
    | 0x000 => wrPwmCtl n v s
    | 0x004 => wrPwmCfg n v s
    | 0x008 => wrPlain a v (s.noteShadow n)
    | 0x018 => (wrPlain a v s).noteHold n
    | 0x01C => wrPlain a v (s.noteShadow n)
    | 0x020 => wrPwmDtCfg n v s
    | 0x040 => wrPwmEvtCfg n v s
    | 0x070 => wrPwmMaskCfg n v s
    | 0x074 => wrPwmAlign n v s
    | 0x078 => (wrPlain a v s).hallFlag n
    | 0x100 => wrCsCfg n v s
    | 0x180 => wrTlmCfg n v s
    | 0x200 => wrFbCfg n v s
    | 0x204 => wrFbLines n v s
    | 0x208 => wrFbCmd n v s
    | 0x24C | 0x254 | 0x258 | 0x25C => wrPlain a v (s.noteFb n)
    | 0x22C => wrSoftHi n false v s
    | 0x234 => wrSoftHi n true v s
    | 0x260 => wrFbSsiCfg n v s
    | 0x268 => wrFbSsiCrc n v s
    | 0x278 => wrFbHallCfg n v s
    | _ => wrPlain a v s

/-- The auxiliary channels and clusters. -/
def wrAuxAt (a : Nat) (v : Word) (s : State) : State :=
  let c := (a - 0x500000) / 0x4000
  let o := (a - 0x500000) % 0x4000
  if 0x560000 ≤ a then wrPlain a v s
  else if o == 4 then wrAuxCtl c v s
  else if auxGuarded o then wrAuxReg c o v s
  else wrPlain a v s

/-- The byte offset in the data memory of an engine that an offset of its host window shows (AEn_DM_PAGE). -/
def State.dmIndex (s : State) (n a : Nat) : Nat := s.g (F.AE_DM_PAGE_PAGE n) * 16384 + a % 0x10000 / 4

/-- The engines, axis-state memory, the exchange area and the engines' memories. -/
def wrEngine (rq : Rq) (a : Nat) (v : Word) (s : State) : State :=
  if a < 0x608000 then
    if a % 0x1000 == 0 then wrAeCtl ((a - 0x600000) / 0x1000) v s else wrPlain a v s
  else if a < 0x680000 then s
  else if a < 0x6C0000 then s.hostBlock rq ((a - 0x680000) / 0x4000) [((a - 0x680000) % 0x4000, v)]
  else if a < 0x700000 then (if 0x6D0000 ≤ a && a < 0x6E0000 then s.wr a v else s)
  else
    let n := (a - 0x700000) / 0x10000 % 8
    if a < 0x780000 then wrPm n (a % 0x10000 / 4) v s
    else
      let e := s.aeOf n
      s.setAe n { e with dm := tabSet (fun _ => 0) e.dm (s.dmIndex n a) v }

/-- Larkspur and the line-shaft unit. -/
def wrMotion (a : Nat) (v : Word) (s : State) : State :=
  if 0x801000 ≤ a && a < 0x806400 then
    let k := (a - 0x801000) / 0x80
    match a % 0x80 with
    | 0x0 => wrLspCfg k v s
    | 0x4 => wrLspCmd k v s
    | _ => wrPlain a v s
  else if 0x807000 ≤ a && a < 0x807100 && a % 0x10 == 0 then wrGrpCmd ((a - 0x807000) / 0x10) v s
  else if a == R.LSH_CFG then wrLshCfg v s
  else if 0x881000 ≤ a && a < 0x883A00 then
    let k := (a - 0x881000) / 0x40
    match a % 0x40 with
    | 0x0 => wrFolCfg k v s
    | 0x4 => wrFolCmd k v s
    | _ => wrPlain a v s
  else if 0x884000 ≤ a && a < 0x884800 && a % 0x20 == 0xC then wrCamCmd ((a - 0x884000) / 0x20) v s
  else wrPlain a v s

/-- Lupin. -/
def wrLupin (a : Nat) (v : Word) (s : State) : State :=
  if a < 0xA00400 then
    let c := (a - 0xA00000) / 0x100
    let o := a % 0x100
    if o == 0x14 then wrCapCmd c v s
    else if o == 0x18 then wrPlain a v s
    else if o < 0x14 || o == 0x30 || o == 0x34 || (0x40 ≤ o && o < 0x60) then wrCapCfg c a v s
    else wrPlain a v s
  else if 0xA01000 ≤ a && a < 0xA01400 then
    let k := (a - 0xA01000) / 0x10
    match a % 0x10 with
    | 0x0 => wrCapBind k v s
    | 0x4 => wrCapEnv k v s
    | 0x8 => wrCapHandle k v s
    | _ => wrCapStatus k v s
  else wrPlain a v s

/-- The host interface. -/
def wrHif (a : Nat) (v : Word) (s : State) : State :=
  let n := (a - 0xB00000) / 0x1000
  let o := a % 0x1000
  let k := o % 0x100 / 0x20
  if 0xB04000 ≤ a then wrPlain a v s
  else if o == 0 then wrHifCtl n v s
  else if o == 8 then wrDbLo n v s
  else if o == 0x10 then wrHifPoll n v s
  else if 0x100 ≤ o && o < 0x200 then
    match o % 0x20 with
    | 0x0 => wrRingBase n a (s.is (F.HIF_OD_SQ_CFG_EN n k)) true v s
    | 0x4 => wrRingBase n a (s.is (F.HIF_OD_SQ_CFG_EN n k)) false v s
    | 0x8 => wrSqCfg n k v s
    | _ => wrPlain a v s
  else if 0x200 ≤ o && o < 0x320 then
    let k := if 0x300 ≤ o then 8 else k
    match o % 0x20 with
    | 0x0 => wrRingBase n a (s.cqEn n k) true v s
    | 0x4 => wrRingBase n a (s.cqEn n k) false v s
    | 0x8 => wrCqCfg n k v s
    | _ => wrPlain a v s
  else wrPlain a v s

/-- Memory, pools and DMA. -/
def wrMem (a : Nat) (v : Word) (s : State) : State :=
  if a == R.MEM_CTL then wrMemCtl v s
  else if a == R.MEM_LAYOUT then wrMemLayout v s
  else if a == R.MEM_STAGE then wrMemSeg v s
  else if 0xC00100 ≤ a && a < 0xC00140 && a % 0x10 == 0 then wrPoolCount ((a - 0xC00100) / 0x10) v s
  else if 0xC80000 ≤ a && a < 0xC80800 && a % 0x40 == 0x14 then wrDmaCtl ((a - 0xC80000) / 0x40) v s
  else wrPlain a v s

/-- The Ethernet ports and the switch. -/
def wrEther (a : Nat) (v : Word) (s : State) : State :=
  if a < 0xD02000 then
    let p := (a - 0xD00000) / 0x1000
    let o := a % 0x1000
    if o == 0 then wrEthCfg p v s
    else if 0x400 ≤ o && o < 0x600 && o % 0x10 < 8 then wrSlot p a v s
    else wrPlain a v s
  else if a == R.ETH_SW_CFG then wrSwCfg v s
  else if 0xD40000 ≤ a && a < 0xD46000 then
    let p := (a - 0xD40000) / 0x2000
    match a % 0x2000 with
    | 0x0 => wrTsnCtl p v s
    | 0x20 => wrTsnPreempt p v s
    | _ => wrPlain a v s
  else if 0xD60000 ≤ a && a < 0xD60200 then
    let p := (a - 0xD60000) / 0x100
    let o := a % 0x100
    if 0x10 ≤ o && o < 0x30 then wrSak p ((o - 0x10) / 4) v s
    else if o == 0x30 then wrSaCtl p v s
    else wrPlain a v s
  else wrPlain a v s

/-- The CAN controllers and their message RAM. -/
def wrCan (a : Nat) (v : Word) (s : State) : State :=
  if a < 0xE04000 then wrCanReg ((a - 0xE00000) / 0x1000) (a % 0x1000) v s
  else if 0xE80000 ≤ a && a < 0xEA0000 then wrCanRam ((a - 0xE80000) / 0x8000) (a % 0x8000) v s
  else s

/-- The field channels; the output words have their own filter (R434). -/
def wrField (a : Nat) (v : Word) (s : State) : State :=
  if 0xF00100 ≤ a && a < 0xF00380 && a % 8 == 0 then wrFioCfg ((a - 0xF00100) / 8) v s else wrPlain a v s

/-- Safety commands. -/
def wrSaf (a : Nat) (v : Word) (s : State) : State :=
  if a == R.SAF_UNLOCK then wrSafUnlock v s
  else if a == R.SAF_BT_CMD then wrBtCmd v s
  else if a == R.SAF_PSET_CMD then wrPsetCmd v s
  else wrPlain a v s

/-- What a write that may change an aligned offset does there. -/
def wrAny (rq : Rq) (a : Nat) (v : Word) (s : State) : State :=
  match a / 0x100000 with
  | 0x0 => wrGlb a v s
  | 0x1 => wrClk a v s
  | 0x2 => wrTime a v s
  | 0x3 => wrPlain a v s
  | 0x4 => wrAxis a v s
  | 0x5 => wrAuxAt a v s
  | 0x6 => wrEngine rq a v s
  | 0x7 => wrEngine rq a v s
  | 0x8 => wrMotion a v s
  | 0xA => wrLupin a v s
  | 0xB => wrHif a v s
  | 0xC => wrMem a v s
  | 0xD => wrEther a v s
  | 0xE => wrCan a v s
  | 0xF => wrField a v s
  | 0x10 =>
      if a < 0x1002000 then wrRoute ((a - 0x1000000) / 4) v s
      else if a < 0x1002080 && a % 0x20 == 0 then wrEvtCfg ((a - 0x1002000) / 0x20) v s
      else wrPlain a v s
  | 0x11 => wrSaf a v s
  | 0x12 => if 0x1201000 ≤ a && a < 0x1201800 && a % 0x200 == 0 then wrMbCtl ((a - 0x1201000) / 0x200) v s else wrPlain a v s
  | _ => s

/-! ### Writes -/

/-- The bit of HIF_TORN of a requester: owners, cores and Camellia; the debug port has none. -/
def tornBit (rq : Rq) : Option Nat := if rq.idx < 9 then some rq.idx else none

/-- A write of HIF_TORN clears the writer's own bit, where it writes a 1 (R341, R10). -/
def wrTorn (rq : Rq) (v : Word) (s : State) : State :=
  match tornBit rq with
  | some i => if getBits v i 1 == 1 then s.wr R.HIF_TORN (putBits (s.rd R.HIF_TORN) i 1 0) else s
  | none => s

/-- The key of a word of an owner's MSI-X table and pending bits. -/
def msixKey (n a : Nat) : Nat := n * 0x2000 + (a - 0x1FFE000)

/-- A write of the MSI-X table through BAR0 (R313): 64 entries of 16 bytes. [DESIGN CHOICE, unsafe, log 21] -/
def wrMsix (rq : Rq) (a : Nat) (v : Word) (s : State) : State :=
  match rq with
  | .od n => if a < 0x1FFE400 then { s with msix := tabSet (fun _ => 0) s.msix (msixKey n a) v } else s
  | _ => s

/-- May a requester write an offset, with the launch templates' own rule (R488): only the owner of the template's queue.
[DEDUCED, unsafe, log 22] -/
def State.mayWrite (s : State) (rq : Rq) (a : Nat) (v : Word) : Bool :=
  if 0x1003000 ≤ a && a < 0x1003080 then
    let m := (a - 0x1003000) / 0x10
    s.may rq (R.LQ_CFG (if a % 0x10 == 0 then getBits v 0 4 else s.g (F.EVT_LT_CTL_LQ m)))
  else s.may rq a

/-- Is a write of an offset by a requester more than one that filtering or an access code makes void (R338, R11)? -/
def State.mayAny (s : State) (rq : Rq) (a : Nat) (v : Word) : Bool :=
  if 0x1FFE000 ≤ a then (match rq with
    | .od _ => true
    | _ => false)
  else if a == R.HIF_TORN then (tornBit rq).isSome
  else if a == R.LSP_EN_REQ0 || a == R.LSP_EN_REQ1 then !(s.enAsked rq (a == R.LSP_EN_REQ1) v).isEmpty
  else if a == R.FIO_OUT || a == R.FIO_OUT_SET || a == R.FIO_OUT_CLR || a == R.FIO_OUT_FCLR then s.outMask rq != 0
  else if 0xD20000 ≤ a && a < 0xD40000 then !(s.areaSlots rq ((a - 0xD20000) / 0x10000) (a % 0x10000 / 4 * 4)).isEmpty
  else s.mayWrite rq a v

/-- A write of an aligned word of the register window by a requester (R7, R11, R338, R485).
[DEDUCED, safe, log 15; DESIGN CHOICE, safe, log 20 and 27] -/
def State.busWrite (s : State) (rq : Rq) (addr : Nat) (v : Word) : State :=
  let a := addr / 4 * 4
  if 0x2000000 ≤ a then s
  else match s.dropReason rq a with
    | some r => if s.mayAny rq a v then s.logDropped rq a r else s
    | none =>
      if 0x1FFE000 ≤ a then wrMsix rq a v s
      else if a == R.HIF_TORN then wrTorn rq v s
      else if a == R.LSP_EN_REQ0 then wrEnReq rq false v s
      else if a == R.LSP_EN_REQ1 then wrEnReq rq true v s
      else if a == R.FIO_OUT then wrFioOut rq outPut v s
      else if a == R.FIO_OUT_SET then wrFioOut rq outSet v s
      else if a == R.FIO_OUT_CLR then wrFioOut rq outClr v s
      else if a == R.FIO_OUT_FCLR then wrFioFclr rq s.freshWord v s.took
      else if 0xD20000 ≤ a && a < 0xD40000 then wrArea rq ((a - 0xD20000) / 0x10000) (a % 0x10000) v s
      else
        let s := s.rwsCheck rq a v
        if s.mayWrite rq a v then wrAny rq a v s else s

/-- Do the dividers of CLK_DIV hold the relations of R510: FAB at least ENG ÷ 2, PER at most FAB, CAN 80 MHz?
[DESIGN CHOICE, safe, log 13; DEDUCED, safe, log 14] -/
def divOk (v : Word) : Bool :=
  let e := getBits v 0 4
  let f := getBits v 4 4
  let p := getBits v 8 4
  e != 0 && f != 0 && p != 0 && decide (f ≤ 2 * e) && decide (f ≤ p) && getBits v 12 6 == 20

/-- What an access answers: dividers that it has left in breach of R510 are undefined behaviour.
[DESIGN CHOICE, safe, log 13] -/
def State.settled (old s : State) : Res :=
  if s.rd R.CLK_DIV != old.rd R.CLK_DIV && !divOk (s.rd R.CLK_DIV) then .fault .clockRelation else .next s

/-- REGISTER_WRITE (R599). -/
def execRegisterWrite (rq : Rq) (addr : Nat) (v : Word) (s : State) : Res := s.settled (s.busWrite rq addr v)

/-- HIF_TORN_WRITE (R341). -/
def execHifTornWrite (rq : Rq) (v : Word) (s : State) : Res := .next (s.busWrite rq R.HIF_TORN v)

/-! ### Reads -/

/-- The owner whose private registers hold an offset (R576). -/
def privateOwner (a : Nat) : Option Nat :=
  if 0xB00000 ≤ a && a < 0xB04000 then some ((a - 0xB00000) / 0x1000)
  else if 0xC00200 ≤ a && a < 0xC00240 then some ((a - 0xC00200) / 0x10)
  else if 0x1002000 ≤ a && a < 0x1002080 then some ((a - 0x1002000) / 0x20)
  else if 0x1002800 ≤ a && a < 0x1002C00 then some ((a - 0x1002800) / 0x100)
  else if 0x1201000 ≤ a && a < 0x1201800 then some ((a - 0x1201000) / 0x200)
  else none

/-- Is an offset hidden from a requester? -/
def hidden (rq : Rq) (a : Nat) : Bool :=
  match privateOwner a, rq with
  | some k, .od n => n.val != k
  | _, _ => false

/-- The code of a role in HIF_ODn_STATUS.ROLE. -/
def Role.code : Role → Nat
  | .operator => 0
  | .maintainer => 1
  | .safety => 2
  | .observer => 3

/-- The class B weights of HIF_CLASS_B_WEIGHT, four bits per owner, from the policy. -/
def State.weightWord (s : State) : Word :=
  BitVec.ofNat 32 ((List.range 4).foldl (fun a n => a + 16 ^ n * (s.pol.weights.getD n 1 % 16)) 0)

/-- What a register shows where other state gives some of its fields: owners, roles and weights from the policy, live time,
pins and counts. [DEDUCED, unsafe, log 23; DESIGN CHOICE, safe, log 24] -/
def State.view (s : State) (rq : Rq) (a : Nat) : Word :=
  let w := s.rd a
  match a / 0x100000 with
  | 0x0 => if a == R.GLB_SDCLK_STATUS then s.sdStatus else w
  | 0x2 =>
    if a == R.TB_SHORT then s.short
    else if 0x201000 ≤ a && a < 0x201400 && a % 0x40 == 0 then
      putBits w 4 3 (s.holder (.queue ((a - 0x201000) / 0x40))).queueCode
    else w
  | 0x7 =>
    if 0x780000 ≤ a then
      let n := (a - 0x780000) / 0x10000
      tabGet (fun _ => 0) (s.aeOf n).dm (s.dmIndex n a)
    else w
  | 0x8 =>
    if 0x884000 ≤ a && a < 0x884800 && a % 0x20 == 0x10 then putBits w 8 8 (s.camUse ((a - 0x884000) / 0x20)) else w
  | 0xB =>
    if a == R.HIF_TORN then
      match rq with
      | .od n => BitVec.ofNat 32 (2 ^ n.val * getBits w n.val 1)
      | _ => w
    else if a == R.HIF_CLASS_B_WEIGHT then s.weightWord
    else if a < 0xB04000 && a % 0x1000 == 4 then putBits w 0 2 (s.role ((a - 0xB00000) / 0x1000)).code
    else w
  | 0xC =>
    if 0xC80000 ≤ a && a < 0xC80800 && a % 0x40 == 0x18 then
      let n := (a - 0xC80000) / 0x40
      putBits w 9 3 (if n < 28 then (s.holder (.dma n)).poolCode else 7)
    else w
  | 0xD =>
    if a < 0xD02000 && 0x400 ≤ a % 0x1000 && a % 0x1000 < 0x600 && a % 0x10 == 0 then
      putBits w 17 3 (s.holder (.slot ((a - 0xD00000) / 0x1000) ((a % 0x1000 - 0x400) / 0x10))).queueCode
    else w
  | 0xF => if a == R.FIO_VFIELD then BitVec.ofNat 32 (s.freshWord.toNat % 4096)
    else if a == R.FIO_OUT_SET || a == R.FIO_OUT_CLR then s.rd R.FIO_OUT else w
  | 0x10 => if a < 0x1002000 then s.routeView ((a - 0x1000000) / 4) else w
  | 0x11 =>
    if 0x1100200 ≤ a && a < 0x1100280 && a % 8 == 4 then
      let n := (a - 0x1100200) / 8
      if (s.brkOf n).dark then putBits w 0 1 0 else w
    else w
  | _ => w

/-- The word with the fields of one access code 0. -/
def zeroFields (acc : Acc) (a : Nat) (w : Word) : Word :=
  match regRow? a with
  | some r => r.fields.foldl (fun w f => if f.acc = acc then putBits w f.lo f.w 0 else w) w
  | none => w

/-! ### Snapshots and the wide-read shadow -/

/-- The stamp register whose snapshot holds a register (R125, R166), with the registers of that snapshot. -/
def snapOf (a : Nat) : Option (Nat × List Nat) :=
  if 0x400000 ≤ a && a < 0x500000 then
    let n := (a - 0x400000) / 0x10000
    if (csSnapRegs n).contains a then some (R.AX_CS_STAMP n, csSnapRegs n)
    else if (tlmSnapRegs n).contains a then some (R.AX_TLM_STAMP n, tlmSnapRegs n)
    else if (fbSnapRegs n).contains a then some (R.AX_FB_STAMP n, fbSnapRegs n)
    else none
  else none

/-- The registers that a read of this register copies, when it is a stamp register. -/
def stampOf (a : Nat) : Option (List Nat) :=
  if 0x400000 ≤ a && a < 0x500000 then
    let n := (a - 0x400000) / 0x10000
    if a == R.AX_CS_STAMP n then some (csSnapRegs n)
    else if a == R.AX_TLM_STAMP n then some (tlmSnapRegs n)
    else if a == R.AX_FB_STAMP n then some (fbSnapRegs n)
    else none
  else none

/-- A register in the requester's snapshot, if the requester ever filled it. -/
def State.fromSnap (s : State) (rq : Rq) (a : Nat) : Option Word :=
  match snapOf a with
  | some (st, regs) =>
    let l := s.snap rq st
    if l.isEmpty then none else some (l.getD (regs.findIdx (· == a)) 0)
  | none => none

/-- A run of registers: base, stride and count, and a second stride and count. -/
def inRun (a base s1 n1 s2 n2 : Nat) : Bool :=
  base ≤ a && ((a - base) / s1 < n1) && ((a - base) % s1 % s2 == 0) && ((a - base) % s1 / s2 < n2)

/-- Is an offset the _LO word of a 64-bit value (R13, R341)? Full time has its own shadow (R44). -/
def wideLo (a : Nat) : Bool :=
  match a / 0x100000 with
  | 0x0 => inRun a 0x310 0x20 8 0x20 1
  | 0x1 => a == 0x100810
  | 0x2 => a == 0x200044 || a == 0x2000A0 || a == 0x2000A8
  | 0x4 =>
    let o := a % 0x10000
    o == 0x210 || o == 0x220 || o == 0x228 || o == 0x230 || o == 0x238 || o == 0x240 || o == 0x270
  | 0x5 => a < 0x560000 && a % 0x4000 == 0x10
  | 0x8 =>
    if 0x801000 ≤ a && a < 0x806400 then a % 0x80 == 0x08 || a % 0x80 == 0x34 || a % 0x80 == 0x50
    else if 0x880100 ≤ a && a < 0x880300 then a % 0x40 == 0x0C
    else if 0x881000 ≤ a && a < 0x883A00 then a % 0x40 == 0x14 || a % 0x40 == 0x1C || a % 0x40 == 0x24
    else inRun a 0x884830 0x40 16 0x40 1
  | 0xB => a < 0xB04000 && (a % 0x1000 == 8 || inRun (a % 0x1000) 0x100 0x20 8 0x20 1 ||
      inRun (a % 0x1000) 0x200 0x20 8 0x20 1 || a % 0x1000 == 0x300)
  | 0xC => 0xC80000 ≤ a && a < 0xC80800 && (a % 0x40 == 0 || a % 0x40 == 8 || a % 0x40 == 0x24)
  | 0xD => a == 0xD0800C || inRun a 0xD40008 0x2000 3 0x2000 1 || inRun a 0xD60038 0x100 2 0x100 1
  | 0x11 => inRun a 0x1110014 0x40 16 0x40 1 || inRun a 0x111001C 0x40 16 0x40 1
  | _ => false

/-- Is an offset the _HI word of a 64-bit value? -/
def wideHi (a : Nat) : Bool := 4 ≤ a && wideLo (a - 4)

/-- A read of a _LO word copies the high word and records the address (R341). -/
def State.fillWide (s : State) (rq : Rq) (a : Nat) : State :=
  { s with wide := tabSet (fun _ => none) s.wide rq.idx (some (a, s.view rq (a + 4))) }

/-- A read of a _HI word: the shadow where its _LO word is the recorded one, else the live word with the requester's TORN
bit set (R341). -/
def State.readHi (s : State) (rq : Rq) (a : Nat) : Word × State :=
  let torn := match tornBit rq with
    | some i => s.wr R.HIF_TORN (putBits (s.rd R.HIF_TORN) i 1 1)
    | none => s
  match tabGet (fun _ => none) s.wide rq.idx with
  | some (lo, v) => if lo + 4 == a then (v, s) else (s.view rq a, torn)
  | none => (s.view rq a, torn)

/-! ### Reads of any offset -/

/-- The word of a read without the shadows: the register's view, its write-only fields 0, and its RC fields cleared by the
read (R10). [DESIGN CHOICE, safe, log 24] -/
def State.plainRead (s : State) (rq : Rq) (a : Nat) : Word × State :=
  let w := zeroFields .wo a (s.view rq a)
  let s := if a == R.FIO_VFIELD then s.took else s
  let c := zeroFields .rc a (s.rd a)
  (w, if c == s.rd a then s else s.wr a c)

/-- A read of an aligned word in a region that is not isolated: what it returns, and the state after it. -/
def State.busRead (s : State) (rq : Rq) (a : Nat) : Word × State :=
  if hidden rq a then (0, s)
  else if a == R.TB_NOW_FRAC then (nowPart s.now 0, s.fillTimeShadow rq)
  else if a == R.TB_NOW_NS then s.readNow rq 1
  else if a == R.TB_NOW_SEC_LO then s.readNow rq 2
  else if a == R.TB_NOW_SEC_HI then s.readNow rq 3
  else if 0xE80000 ≤ a && a < 0xEA0000 then
    let n := (a - 0xE80000) / 0x8000
    let o := a % 0x8000
    (s.rd a, if o < 0x2800 then s.rxTouch n (o / 0x1400) (o % 0x1400 / 80) (o % 0x1400 % 80 / 4) else s)
  else if 0x1FFE000 ≤ a then
    match rq with
    | .od n => (tabGet (fun _ => 0) s.msix (msixKey n a), s)
    | _ => (0, s)
  else match stampOf a with
    | some regs => (s.rd a, s.fillSnap rq a regs)
    | none => match s.fromSnap rq a with
      | some v => (v, s)
      | none =>
        if wideLo a then ((s.plainRead rq a).1, (s.plainRead rq a).2.fillWide rq a)
        else if wideHi a then s.readHi rq a
        else s.plainRead rq a

/-- A read by a requester: answered, or completed with an error response in an isolated region (R22); an offset outside the
window is not in it. [DEDUCED, safe, log 15; DESIGN CHOICE, safe, log 20] -/
def State.answerRead (s : State) (rq : Rq) (addr : Nat) : State :=
  let a := addr / 4 * 4
  if 0x2000000 ≤ a then s
  else if s.readErr a then s.readAbort rq a
  else
    let r := s.busRead rq a
    r.2.emit (.read rq a r.1)

/-- REGISTER_READ (R10, R22). -/
def execRegisterRead (rq : Rq) (addr : Nat) (s : State) : Res := .next (s.answerRead rq addr)

/-- WIDE_READ_LO (R341): a read of a _LO word. -/
def execWideReadLo (rq : Rq) (addr : Nat) (s : State) : Res :=
  if wideLo addr then .next (s.answerRead rq addr) else .next s

/-- WIDE_READ_HI (R341): a read of a _HI word. -/
def execWideReadHi (rq : Rq) (addr : Nat) (s : State) : Res :=
  if wideHi addr then .next (s.answerRead rq addr) else .next s

/-! ### REG_BLOCK -/

/-- `count` registers from an offset, read in ascending order as the owner: the words, and the state; it stops at the first
isolated access. [DEDUCED, unsafe, log 26] -/
def State.blockRead (rq : Rq) : Nat → Nat → State → List Word × State
  | 0, _, s => ([], s)
  | k + 1, a, s =>
    if s.readErr a then ([], s.readAbort rq a)
    else
      let r := s.busRead rq a
      let rest := State.blockRead rq k (a + 4) r.2
      (r.1 :: rest.1, rest.2)

/-- Words written to registers from an offset in ascending order as the owner: how many, and the state; it stops at the
first access into an isolated region, which is dropped and logged (R22). [DEDUCED, unsafe, log 26] -/
def State.blockWrite (rq : Rq) : List Word → Nat → State → Nat × State
  | [], _, s => (0, s)
  | v :: l, a, s =>
    if s.readErr a then (0, s.busWrite rq a v)
    else
      let rest := State.blockWrite rq l (a + 4) (s.busWrite rq a v)
      (rest.1 + 1, rest.2)

/-- REG_BLOCK (R326): payload host address, first offset, COUNT and DIR. `data` is what the host memory holds for DIR 1.
[DEDUCED, unsafe, log 26] -/
def execRegBlock (n : Fin 4) (k : Fin 8) (d : Desc) (data : List Word) (s : State) : Res :=
  let count := d.field 28 2
  let first := d.field 24 4
  let toHost := d.field 30 1 == 0
  let argOk := d.field 16 8 % 4 == 0 && first % 4 == 0 && 1 ≤ count && count ≤ 4096 && d.field 30 1 ≤ 1 &&
    first + 4 * count ≤ 0x2000000 && d.zeroFrom 31
  let body := fun (s : State) =>
    if toHost then
      let r := State.blockRead (.od n) count first s
      (r.2.hostSend n (d.field 16 8) (wordBytes (r.1.map (·.toNat))),
        if r.1.length < count then stIsolated else stOk, [r.1.length])
    else if data.length < count then (s.hostFetch n (d.field 16 8) (4 * count), stBusError, [0])
    else
      let s := s.hostFetch n (d.field 16 8) (4 * count)
      let r := State.blockWrite (.od n) (data.take count) first s
      (r.2, if r.1 < count then stIsolated else stOk, [r.1])
  match s.descriptor n k 0x40 d (d.target == 0) argOk toHost body with
  | .next t => s.settled t
  | r => r

/-! ### DBG_ACCESS -/

/-- DBG_ACCESS (R542): with permission 0 one aligned access as a requester of its own; what Capture-DR then loads is sent
out: DATA with a read's result, and DONE. Without the permission the code selects the bypass register. -/
def execDbgAccess (write : Bool) (offset data : Word) (s : State) : Res :=
  if !s.permits 0 then .next (s.tap 0xFF)
  else
    let s := s.tap 0x44
    let a := offset.toNat / 4 * 4
    let done := fun (s : State) (v : Word) => s.emit (.jtag 0x44 (v.toNat + 2 ^ 65))
    if write then s.settled (done (s.busWrite .dbg a data) data)
    else if 0x2000000 ≤ a then .next (done s 0)
    else if s.readErr a then .next (done (s.readAbort .dbg a) 0xFFFFFFFF)
    else
      let r := s.busRead .dbg a
      .next (done r.2 r.1)

end Sys2Proof.Machine
end

