-- ==== Sys2Proof/Machine/Dispatch.lean ====
section
/-! DEFINITION. Which meaning each command has: one arm per row of the opcode table. -/

namespace Sys2Proof.Machine

/-- The effect of a command on everything but the queue. [DESIGN CHOICE, safe, log 3 and 8] -/
def exec (i : Instr) (s : State) : Host.Outcome State Fault Refusal :=
  match i with
  | .registerWrite rq addr value => Sys2Proof.Machine.execRegisterWrite rq addr value s
  | .cellFault cell => Sys2Proof.Machine.execCellFault cell s
  | .cellSafeStateTimeout cell => Sys2Proof.Machine.execCellSafeStateTimeout cell s
  | .clusterFault cl => Sys2Proof.Machine.execClusterFault cl s
  | .clusterFenceTimeout cl => Sys2Proof.Machine.execClusterFenceTimeout cl s
  | .regionFault r => Sys2Proof.Machine.execRegionFault r s
  | .isolationConfirmTimeout r => Sys2Proof.Machine.execIsolationConfirmTimeout r s
  | .topFabricTimeout => Sys2Proof.Machine.execTopFabricTimeout s
  | .chipLevelFault cause r => Sys2Proof.Machine.execChipLevelFault cause r s
  | .tbCtrlWrite rq value => Sys2Proof.Machine.execTbCtrlWrite rq value s
  | .servoEn rq on => Sys2Proof.Machine.execServoEn rq on s
  | .tickSrcChange rq net => Sys2Proof.Machine.execTickSrcChange rq net s
  | .tbTimeShadowFill rq => Sys2Proof.Machine.execTbTimeShadowFill rq s
  | .tbShadowRead rq part => Sys2Proof.Machine.execTbShadowRead rq part s
  | .announceReceived a => Sys2Proof.Machine.execAnnounceReceived a s
  | .announceTimeout lost => Sys2Proof.Machine.execAnnounceTimeout lost s
  | .syncReceived port src rx master delay intervalNs => Sys2Proof.Machine.execSyncReceived port src rx master delay intervalNs s
  | .gmSwitchTimeout => Sys2Proof.Machine.execGmSwitchTimeout s
  | .gmHoldoffEnd => Sys2Proof.Machine.execGmHoldoffEnd s
  | .holdoverEntry => Sys2Proof.Machine.execHoldoverEntry s
  | .timeStep => Sys2Proof.Machine.execTimeStep s
  | .tbSet rq => Sys2Proof.Machine.execTbSet rq s
  | .tbStep rq => Sys2Proof.Machine.execTbStep rq s
  | .gmSwitch rq => Sys2Proof.Machine.execGmSwitch rq s
  | .tbAdjWrite rq value => Sys2Proof.Machine.execTbAdjWrite rq value s
  | .lqPush rq q => Sys2Proof.Machine.execLqPush rq q s
  | .lqFlush rq q => Sys2Proof.Machine.execLqFlush rq q s
  | .lqCancel rq q value => Sys2Proof.Machine.execLqCancel rq q value s
  | .launchDelivery q => Sys2Proof.Machine.execLaunchDelivery q s
  | .queueParityError q => Sys2Proof.Machine.execQueueParityError q s
  | .axisOff n => Sys2Proof.Machine.execAxisOff n s
  | .auxOff n => Sys2Proof.Machine.execAuxOff n s
  | .fieldOff j => Sys2Proof.Machine.execFieldOff j s
  | .axisSample n => Sys2Proof.Machine.execAxisSample n s
  | .dclinkSample g => Sys2Proof.Machine.execDclinkSample g s
  | .auxSample n => Sys2Proof.Machine.execAuxSample n s
  | .captureSample c => Sys2Proof.Machine.execCaptureSample c s
  | .pwmPeriod n => Sys2Proof.Machine.execPwmPeriod n s
  | .commutate n => Sys2Proof.Machine.execCommutate n s
  | .fieldWrite j => Sys2Proof.Machine.execFieldWrite j s
  | .ethLaunch p => Sys2Proof.Machine.execEthLaunch p s
  | .canLaunch c idle => Sys2Proof.Machine.execCanLaunch c idle s
  | .swEvent e => Sys2Proof.Machine.execSwEvent e s
  | .captureTrigger c => Sys2Proof.Machine.execCaptureTrigger c s
  | .pwmArm rq n => Sys2Proof.Machine.execPwmArm rq n s
  | .pwmDisarm rq n => Sys2Proof.Machine.execPwmDisarm rq n s
  | .pwmStart rq n => Sys2Proof.Machine.execPwmStart rq n s
  | .outEn rq n => Sys2Proof.Machine.execOutEn rq n s
  | .pwmFaultClr rq n => Sys2Proof.Machine.execPwmFaultClr rq n s
  | .pwmUpdatePoint n zero => Sys2Proof.Machine.execPwmUpdatePoint n zero s
  | .pwmCompareCrossing n value up => Sys2Proof.Machine.execPwmCompareCrossing n value up s
  | .pwmDeadTimeEnd n sw pos up => Sys2Proof.Machine.execPwmDeadTimeEnd n sw pos up s
  | .switchingNodeTransition n phase rise delay => Sys2Proof.Machine.execSwitchingNodeTransition n phase rise delay s
  | .deadTimeFallback n dir => Sys2Proof.Machine.execDeadTimeFallback n dir s
  | .alignEvent n => Sys2Proof.Machine.execAlignEvent n s
  | .pwmMaskWrite rq n x_i value => Sys2Proof.Machine.execPwmMaskWrite rq n x_i value s
  | .pwmMaskCfgWrite rq n value => Sys2Proof.Machine.execPwmMaskCfgWrite rq n value s
  | .pwmAlignWrite rq n value => Sys2Proof.Machine.execPwmAlignWrite rq n value s
  | .pwmCfgWrite rq n value => Sys2Proof.Machine.execPwmCfgWrite rq n value s
  | .pwmDtCfgWrite rq n value => Sys2Proof.Machine.execPwmDtCfgWrite rq n value s
  | .pwmEvtCfgWrite rq n value => Sys2Proof.Machine.execPwmEvtCfgWrite rq n value s
  | .bchWindowStart g => Sys2Proof.Machine.execBchWindowStart g s
  | .bchDutyLimit g => Sys2Proof.Machine.execBchDutyLimit g s
  | .bchMinTimeEnd g => Sys2Proof.Machine.execBchMinTimeEnd g s
  | .sinc3Result n rawA rawB => Sys2Proof.Machine.execSinc3Result n rawA rawB s
  | .fastResult n rawA rawB => Sys2Proof.Machine.execFastResult n rawA rawB s
  | .currentInputStuck n b => Sys2Proof.Machine.execCurrentInputStuck n b s
  | .dclinkFreeResult g raw => Sys2Proof.Machine.execDclinkFreeResult g raw s
  | .dclinkSampleResult g raw => Sys2Proof.Machine.execDclinkSampleResult g raw s
  | .dclinkStuck g => Sys2Proof.Machine.execDclinkStuck g s
  | .dlCfgWrite rq g value => Sys2Proof.Machine.execDlCfgWrite rq g value s
  | .sdclkFreqApply k => Sys2Proof.Machine.execSdclkFreqApply k s
  | .csCfgWrite rq n value => Sys2Proof.Machine.execCsCfgWrite rq n value s
  | .csStampRead rq n => Sys2Proof.Machine.execCsStampRead rq n s
  | .tlmStampRead rq n => Sys2Proof.Machine.execTlmStampRead rq n s
  | .tlmFrame n offset frame => Sys2Proof.Machine.execTlmFrame n offset frame s
  | .tlmCfgWrite rq n value => Sys2Proof.Machine.execTlmCfgWrite rq n value s
  | .fbCfgWrite rq n value => Sys2Proof.Machine.execFbCfgWrite rq n value s
  | .fbSampleReady n => Sys2Proof.Machine.execFbSampleReady n s
  | .encoderEdge n up both => Sys2Proof.Machine.execEncoderEdge n up both s
  | .encoderLineLoss n => Sys2Proof.Machine.execEncoderLineLoss n s
  | .indexEdge n => Sys2Proof.Machine.execIndexEdge n s
  | .sincosConversion n a b quads => Sys2Proof.Machine.execSincosConversion n a b quads s
  | .rideExpiry n => Sys2Proof.Machine.execRideExpiry n s
  | .ssiTransferDone n startHigh frame => Sys2Proof.Machine.execSsiTransferDone n startHigh frame s
  | .ssiIdleEnd n => Sys2Proof.Machine.execSsiIdleEnd n s
  | .hallTransition n st => Sys2Proof.Machine.execHallTransition n st s
  | .fbLoad rq n => Sys2Proof.Machine.execFbLoad rq n s
  | .fbFaultClr rq n => Sys2Proof.Machine.execFbFaultClr rq n s
  | .zArm rq n => Sys2Proof.Machine.execZArm rq n s
  | .softLimitWrite rq n max value => Sys2Proof.Machine.execSoftLimitWrite rq n max value s
  | .fbStampRead rq n => Sys2Proof.Machine.execFbStampRead rq n s
  | .probeEdge k falling sub => Sys2Proof.Machine.execProbeEdge k falling sub s
  | .probePop rq k => Sys2Proof.Machine.execProbePop rq k s
  | .probeCfgWrite rq k value => Sys2Proof.Machine.execProbeCfgWrite rq k value s
  | .basePeriodStart n => Sys2Proof.Machine.execBasePeriodStart n s
  | .slotStart n k prog => Sys2Proof.Machine.execSlotStart n k prog s
  | .slotOverrun n => Sys2Proof.Machine.execSlotOverrun n s
  | .slotWindowEnd n => Sys2Proof.Machine.execSlotWindowEnd n s
  | .bgYield n k => Sys2Proof.Machine.execBgYield n k s
  | .aeCommit rq n => Sys2Proof.Machine.execAeCommit rq n s
  | .aeDiscardPending rq n => Sys2Proof.Machine.execAeDiscardPending rq n s
  | .aeRun rq n on => Sys2Proof.Machine.execAeRun rq n on s
  | .aeBgEn rq n on => Sys2Proof.Machine.execAeBgEn rq n on s
  | .aeFaultClr rq n => Sys2Proof.Machine.execAeFaultClr rq n s
  | .programMemoryWrite rq n x_i value => Sys2Proof.Machine.execProgramMemoryWrite rq n x_i value s
  | .axisStateWrite rq m x_i burst => Sys2Proof.Machine.execAxisStateWrite rq m x_i burst s
  | .engineEccError n mem fatal => Sys2Proof.Machine.execEngineEccError n mem fatal s
  | .xNop n => Sys2Proof.Machine.execXNop n s
  | .add n rd ra rb => Sys2Proof.Machine.execAdd n rd ra rb s
  | .sub n rd ra rb => Sys2Proof.Machine.execSub n rd ra rb s
  | .adds n rd ra rb => Sys2Proof.Machine.execAdds n rd ra rb s
  | .subs n rd ra rb => Sys2Proof.Machine.execSubs n rd ra rb s
  | .and n rd ra rb => Sys2Proof.Machine.execAnd n rd ra rb s
  | .or n rd ra rb => Sys2Proof.Machine.execOr n rd ra rb s
  | .xor n rd ra rb => Sys2Proof.Machine.execXor n rd ra rb s
  | .shl n rd ra sh => Sys2Proof.Machine.execShl n rd ra sh s
  | .shr n rd ra sh => Sys2Proof.Machine.execShr n rd ra sh s
  | .shra n rd ra sh => Sys2Proof.Machine.execShra n rd ra sh s
  | .min n rd ra rb => Sys2Proof.Machine.execMin n rd ra rb s
  | .max n rd ra rb => Sys2Proof.Machine.execMax n rd ra rb s
  | .abs n rd ra => Sys2Proof.Machine.execAbs n rd ra s
  | .neg n rd ra => Sys2Proof.Machine.execNeg n rd ra s
  | .movi n rd imm => Sys2Proof.Machine.execMovi n rd imm s
  | .movhi n rd imm => Sys2Proof.Machine.execMovhi n rd imm s
  | .cmp n ra rb => Sys2Proof.Machine.execCmp n ra rb s
  | .mul n acc ra rb => Sys2Proof.Machine.execMul n acc ra rb s
  | .mac n acc ra rb => Sys2Proof.Machine.execMac n acc ra rb s
  | .msu n acc ra rb => Sys2Proof.Machine.execMsu n acc ra rb s
  | .mullo n rd ra rb => Sys2Proof.Machine.execMullo n rd ra rb s
  | .ald n acc ra sh => Sys2Proof.Machine.execAld n acc ra sh s
  | .aadd n acc ra sh => Sys2Proof.Machine.execAadd n acc ra sh s
  | .asub n acc ra sh => Sys2Proof.Machine.execAsub n acc ra sh s
  | .amov n acc ra rb => Sys2Proof.Machine.execAmov n acc ra rb s
  | .ext n rd acc sh => Sys2Proof.Machine.execExt n rd acc sh s
  | .extl n rd acc => Sys2Proof.Machine.execExtl n rd acc s
  | .divs n acc rb first => Sys2Proof.Machine.execDivs n acc rb first s
  | .tsin n rd ra => Sys2Proof.Machine.execTsin n rd ra s
  | .tcos n rd ra => Sys2Proof.Machine.execTcos n rd ra s
  | .rsq n rd ra => Sys2Proof.Machine.execRsq n rd ra s
  | .yNop n => Sys2Proof.Machine.execYNop n s
  | .ld n rd addr => Sys2Proof.Machine.execLd n rd addr s
  | .st n rs addr => Sys2Proof.Machine.execSt n rs addr s
  | .ldd n rd addr => Sys2Proof.Machine.execLdd n rd addr s
  | .std n rs addr => Sys2Proof.Machine.execStd n rs addr s
  | .lds n pair word => Sys2Proof.Machine.execLds n pair word s
  | .sts n pair word => Sys2Proof.Machine.execSts n pair word s
  | .mfs n rd spr => Sys2Proof.Machine.execMfs n rd spr s
  | .mts n spr rs => Sys2Proof.Machine.execMts n spr rs s
  | .jmp n target => Sys2Proof.Machine.execJmp n target s
  | .brcc n cond target => Sys2Proof.Machine.execBrcc n cond target s
  | .loop n l count last => Sys2Proof.Machine.execLoop n l count last s
  | .loopr n l rs last => Sys2Proof.Machine.execLoopr n l rs last s
  | .end_ n => Sys2Proof.Machine.execEnd n s
  | .wait n => Sys2Proof.Machine.execWait n s
  | .retb n => Sys2Proof.Machine.execRetb n s
  | .illegalBundle n => Sys2Proof.Machine.execIllegalBundle n s
  | .tsStart rq m seq ticket => Sys2Proof.Machine.execTsStart rq m seq ticket s
  | .tsAbort rq m seq => Sys2Proof.Machine.execTsAbort rq m seq s
  | .obsReset rq m => Sys2Proof.Machine.execObsReset rq m s
  | .supFaultClr rq m => Sys2Proof.Machine.execSupFaultClr rq m s
  | .supScan m => Sys2Proof.Machine.execSupScan m s
  | .atCurrentPlant rq m seq ticket => Sys2Proof.Machine.execAtCurrentPlant rq m seq ticket s
  | .atMechanics rq m seq ticket => Sys2Proof.Machine.execAtMechanics rq m seq ticket s
  | .atResonance rq m seq ticket => Sys2Proof.Machine.execAtResonance rq m seq ticket s
  | .atApply rq m seq number => Sys2Proof.Machine.execAtApply rq m seq number s
  | .atUndo rq m seq => Sys2Proof.Machine.execAtUndo rq m seq s
  | .atAbort rq m seq => Sys2Proof.Machine.execAtAbort rq m seq s
  | .atStageDone m result => Sys2Proof.Machine.execAtStageDone m result s
  | .lspCfgWrite rq k value => Sys2Proof.Machine.execLspCfgWrite rq k value s
  | .moveAbsolute rq k queue startAt => Sys2Proof.Machine.execMoveAbsolute rq k queue startAt s
  | .moveRelative rq k queue startAt => Sys2Proof.Machine.execMoveRelative rq k queue startAt s
  | .velocityMove rq k queue startAt => Sys2Proof.Machine.execVelocityMove rq k queue startAt s
  | .stop rq k => Sys2Proof.Machine.execStop rq k s
  | .quickStop rq k => Sys2Proof.Machine.execQuickStop rq k s
  | .home rq k => Sys2Proof.Machine.execHome rq k s
  | .applyLimits rq k => Sys2Proof.Machine.execApplyLimits rq k s
  | .flushQueue rq k => Sys2Proof.Machine.execFlushQueue rq k s
  | .clearFault rq k => Sys2Proof.Machine.execClearFault rq k s
  | .holdEntry k => Sys2Proof.Machine.execHoldEntry k s
  | .stopTimeout k => Sys2Proof.Machine.execStopTimeout k s
  | .homeLoad k => Sys2Proof.Machine.execHomeLoad k s
  | .homeTimeout k => Sys2Proof.Machine.execHomeTimeout k s
  | .groupAbsolute rq g startAt => Sys2Proof.Machine.execGroupAbsolute rq g startAt s
  | .groupRelative rq g startAt => Sys2Proof.Machine.execGroupRelative rq g startAt s
  | .groupStop rq g => Sys2Proof.Machine.execGroupStop rq g s
  | .groupQuickStop rq g => Sys2Proof.Machine.execGroupQuickStop rq g s
  | .sequencerCoreFault c => Sys2Proof.Machine.execSequencerCoreFault c s
  | .planEccError k => Sys2Proof.Machine.execPlanEccError k s
  | .enReq rq hi value => Sys2Proof.Machine.execEnReq rq hi value s
  | .staggerEnable g => Sys2Proof.Machine.execStaggerEnable g s
  | .lshCfgWrite rq value => Sys2Proof.Machine.execLshCfgWrite rq value s
  | .segmentReceived domain member seg => Sys2Proof.Machine.execSegmentReceived domain member seg s
  | .lineShaftCycleStart => Sys2Proof.Machine.execLineShaftCycleStart s
  | .regWindowTimeout r => Sys2Proof.Machine.execRegWindowTimeout r s
  | .engage rq k startAt => Sys2Proof.Machine.execEngage rq k startAt s
  | .applyRatio rq k => Sys2Proof.Machine.execApplyRatio rq k s
  | .disengage rq k => Sys2Proof.Machine.execDisengage rq k s
  | .nextTable rq k => Sys2Proof.Machine.execNextTable rq k s
  | .camCommit rq t => Sys2Proof.Machine.execCamCommit rq t s
  | .camComputeDone t => Sys2Proof.Machine.execCamComputeDone t s
  | .camRelease rq t => Sys2Proof.Machine.execCamRelease rq t s
  | .lshStorageError store => Sys2Proof.Machine.execLshStorageError store s
  | .joinReceived src domain member join => Sys2Proof.Machine.execJoinReceived src domain member join s
  | .statusReceived domain member => Sys2Proof.Machine.execStatusReceived domain member s
  | .statusSend => Sys2Proof.Machine.execStatusSend s
  | .memberTimeout m => Sys2Proof.Machine.execMemberTimeout m s
  | .membershipComplete => Sys2Proof.Machine.execMembershipComplete s
  | .auxCfgWrite rq c offset value => Sys2Proof.Machine.execAuxCfgWrite rq c offset value s
  | .auxOutEn rq c => Sys2Proof.Machine.execAuxOutEn rq c s
  | .auxFaultClr rq c => Sys2Proof.Machine.execAuxFaultClr rq c s
  | .adcConversionDone cl code => Sys2Proof.Machine.execAdcConversionDone cl code s
  | .adcRequestDiscard cl ch use => Sys2Proof.Machine.execAdcRequestDiscard cl ch use s
  | .adcReferenceCheck cl => Sys2Proof.Machine.execAdcReferenceCheck cl s
  | .auxEvalInterval c => Sys2Proof.Machine.execAuxEvalInterval c s
  | .microstep c => Sys2Proof.Machine.execMicrostep c s
  | .chopperCrossing c coil seen => Sys2Proof.Machine.execChopperCrossing c coil seen s
  | .chopperBlankEnd c coil => Sys2Proof.Machine.execChopperBlankEnd c coil s
  | .decayMinEnd c coil => Sys2Proof.Machine.execDecayMinEnd c coil s
  | .standstillReduction c => Sys2Proof.Machine.execStandstillReduction c s
  | .openCoil c coil => Sys2Proof.Machine.execOpenCoil c coil s
  | .bldcAlignEnd c => Sys2Proof.Machine.execBldcAlignEnd c s
  | .bldcPwmPeriod c above => Sys2Proof.Machine.execBldcPwmPeriod c above s
  | .bldcCommutation c => Sys2Proof.Machine.execBldcCommutation c s
  | .missedSector c => Sys2Proof.Machine.execMissedSector c s
  | .bldcCoastEnd c => Sys2Proof.Machine.execBldcCoastEnd c s
  | .bldcRetryRefill c => Sys2Proof.Machine.execBldcRetryRefill c s
  | .configRequest n => Sys2Proof.Machine.execConfigRequest n s
  | .hifEnable rq n value => Sys2Proof.Machine.execHifEnable rq n value s
  | .sqCfgWrite rq n k value => Sys2Proof.Machine.execSqCfgWrite rq n k value s
  | .cqCfgWrite rq n k value => Sys2Proof.Machine.execCqCfgWrite rq n k value s
  | .doorbellPoll n tails heads rest => Sys2Proof.Machine.execDoorbellPoll n tails heads rest s
  | .nop n k d => Sys2Proof.Machine.execNop n k d s
  | .setpoint n k d => Sys2Proof.Machine.execSetpoint n k d s
  | .launchPush n k d => Sys2Proof.Machine.execLaunchPush n k d s
  | .launchCancel n k d => Sys2Proof.Machine.execLaunchCancel n k d s
  | .axisCmd n k d => Sys2Proof.Machine.execAxisCmd n k d s
  | .regBlock n k d data => Sys2Proof.Machine.execRegBlock n k d data s
  | .copyIn n k d => Sys2Proof.Machine.execCopyIn n k d s
  | .copyOut n k d => Sys2Proof.Machine.execCopyOut n k d s
  | .poolAlloc n k d => Sys2Proof.Machine.execPoolAlloc n k d s
  | .poolFree n k d => Sys2Proof.Machine.execPoolFree n k d s
  | .heartbeat n => Sys2Proof.Machine.execHeartbeat n s
  | .heartbeatReadback n k error data => Sys2Proof.Machine.execHeartbeatReadback n k error data s
  | .heartbeatTimeout n k => Sys2Proof.Machine.execHeartbeatTimeout n k s
  | .irqHoldEnd n k => Sys2Proof.Machine.execIrqHoldEnd n k s
  | .wideReadLo rq addr => Sys2Proof.Machine.execWideReadLo rq addr s
  | .wideReadHi rq addr => Sys2Proof.Machine.execWideReadHi rq addr s
  | .hifTornWrite rq value => Sys2Proof.Machine.execHifTornWrite rq value s
  | .functionLevelReset n => Sys2Proof.Machine.execFunctionLevelReset n s
  | .poolCountWrite rq c value => Sys2Proof.Machine.execPoolCountWrite rq c value s
  | .memSegWrite rq value => Sys2Proof.Machine.execMemSegWrite rq value s
  | .dmaStart rq n => Sys2Proof.Machine.execDmaStart rq n s
  | .dmaResume rq n => Sys2Proof.Machine.execDmaResume rq n s
  | .dmaAbort rq n => Sys2Proof.Machine.execDmaAbort rq n s
  | .dmaDone n x => Sys2Proof.Machine.execDmaDone n x s
  | .dmaHalt n reason write addr moved x => Sys2Proof.Machine.execDmaHalt n reason write addr moved x s
  | .copySegmentDone c res => Sys2Proof.Machine.execCopySegmentDone c res s
  | .patrolScrub ipm word corrected poisoned => Sys2Proof.Machine.execPatrolScrub ipm word corrected poisoned s
  | .stagingFault c => Sys2Proof.Machine.execStagingFault c s
  | .capBindWrite rq k value => Sys2Proof.Machine.execCapBindWrite rq k value s
  | .captureArm rq c => Sys2Proof.Machine.execCaptureArm rq c s
  | .captureStop rq c => Sys2Proof.Machine.execCaptureStop rq c s
  | .captureForce rq c => Sys2Proof.Machine.execCaptureForce rq c s
  | .captureUnload rq c => Sys2Proof.Machine.execCaptureUnload rq c s
  | .captureRowLatch c => Sys2Proof.Machine.execCaptureRowLatch c s
  | .envCommit rq k => Sys2Proof.Machine.execEnvCommit rq k s
  | .envLoadDone k ok => Sys2Proof.Machine.execEnvLoadDone k ok s
  | .unloadDone c halt => Sys2Proof.Machine.execUnloadDone c halt s
  | .captureChannelFault k => Sys2Proof.Machine.execCaptureChannelFault k s
  | .ethCfgWrite rq p value => Sys2Proof.Machine.execEthCfgWrite rq p value s
  | .ethLinkChange p up link => Sys2Proof.Machine.execEthLinkChange p up link s
  | .frameReceived p f => Sys2Proof.Machine.execFrameReceived p f s
  | .strangerHoldEnd p => Sys2Proof.Machine.execStrangerHoldEnd p s
  | .fdbAgeing mac => Sys2Proof.Machine.execFdbAgeing mac s
  | .frameTransmitted p => Sys2Proof.Machine.execFrameTransmitted p s
  | .gateConfigChange rq p => Sys2Proof.Machine.execGateConfigChange rq p s
  | .gateListTakeover p => Sys2Proof.Machine.execGateListTakeover p s
  | .gateEntryEnd p => Sys2Proof.Machine.execGateEntryEnd p s
  | .launchFrameStart p => Sys2Proof.Machine.execLaunchFrameStart p s
  | .preemptVerifyDone p ok => Sys2Proof.Machine.execPreemptVerifyDone p ok s
  | .saInstall rq p an rxsc transmit => Sys2Proof.Machine.execSaInstall rq p an rxsc transmit s
  | .transmitAreaWrite rq p offset value => Sys2Proof.Machine.execTransmitAreaWrite rq p offset value s
  | .mdioGo rq => Sys2Proof.Machine.execMdioGo rq s
  | .mdioDone data => Sys2Proof.Machine.execMdioDone data s
  | .ethPortFault p => Sys2Proof.Machine.execEthPortFault p s
  | .canInitExit rq c idle => Sys2Proof.Machine.execCanInitExit rq c idle s
  | .canInitEnter rq c => Sys2Proof.Machine.execCanInitEnter rq c s
  | .txbReq rq c bufs idle => Sys2Proof.Machine.execTxbReq rq c bufs idle s
  | .txbCancel rq c bufs => Sys2Proof.Machine.execTxbCancel rq c bufs s
  | .canFrameSent c => Sys2Proof.Machine.execCanFrameSent c s
  | .canTxFailure c err => Sys2Proof.Machine.execCanTxFailure c err s
  | .busOffRecovery c => Sys2Proof.Machine.execBusOffRecovery c s
  | .canFrameReceived c f sof err => Sys2Proof.Machine.execCanFrameReceived c f sof err s
  | .ttEnable rq c => Sys2Proof.Machine.execTtEnable rq c s
  | .ttDisable rq c => Sys2Proof.Machine.execTtDisable rq c s
  | .canBasicCycle c => Sys2Proof.Machine.execCanBasicCycle c s
  | .canWindowStart c idle => Sys2Proof.Machine.execCanWindowStart c idle s
  | .exclusiveWindowMissed c => Sys2Proof.Machine.execExclusiveWindowMissed c s
  | .rxElementLock rq c q x_i => Sys2Proof.Machine.execRxElementLock rq c q x_i s
  | .rxElementRelease rq c q x_i => Sys2Proof.Machine.execRxElementRelease rq c q x_i s
  | .lockTimeout c q => Sys2Proof.Machine.execLockTimeout c q s
  | .rxqAck rq c q n => Sys2Proof.Machine.execRxqAck rq c q n s
  | .newClear rq c q x_i => Sys2Proof.Machine.execNewClear rq c q x_i s
  | .canCellFault c => Sys2Proof.Machine.execCanCellFault c s
  | .fieldInputChange k level => Sys2Proof.Machine.execFieldInputChange k level s
  | .fioChCfgWrite rq k value => Sys2Proof.Machine.execFioChCfgWrite rq k value s
  | .wireBreak k => Sys2Proof.Machine.execWireBreak k s
  | .wireWhole k => Sys2Proof.Machine.execWireWhole k s
  | .fioOut rq levels => Sys2Proof.Machine.execFioOut rq levels s
  | .fioOutSet rq outputs => Sys2Proof.Machine.execFioOutSet rq outputs s
  | .fioOutClr rq outputs => Sys2Proof.Machine.execFioOutClr rq outputs s
  | .fioOutFclr rq outputs hot => Sys2Proof.Machine.execFioOutFclr rq outputs hot s
  | .outputOvercurrent j thermal => Sys2Proof.Machine.execOutputOvercurrent j thermal s
  | .readbackMismatch j => Sys2Proof.Machine.execReadbackMismatch j s
  | .fxModeWrite rq x mode => Sys2Proof.Machine.execFxModeWrite rq x mode s
  | .vfieldLow => Sys2Proof.Machine.execVfieldLow s
  | .vfieldRecovered => Sys2Proof.Machine.execVfieldRecovered s
  | .bridgeHeartbeatLost => Sys2Proof.Machine.execBridgeHeartbeatLost s
  | .safetyCycle x_i => Sys2Proof.Machine.execSafetyCycle x_i s
  | .discrepancyFault p => Sys2Proof.Machine.execDiscrepancyFault p s
  | .ss1Expiry g => Sys2Proof.Machine.execSs1Expiry g s
  | .sresetPulse => Sys2Proof.Machine.execSresetPulse s
  | .sresetStuck => Sys2Proof.Machine.execSresetStuck s
  | .channelClockLost => Sys2Proof.Machine.execChannelClockLost s
  | .darkTest n => Sys2Proof.Machine.execDarkTest n s
  | .darkTestTimeout n => Sys2Proof.Machine.execDarkTestTimeout n s
  | .btStart rq n ticket => Sys2Proof.Machine.execBtStart rq n ticket s
  | .btAbort rq => Sys2Proof.Machine.execBtAbort rq s
  | .btSettleEnd => Sys2Proof.Machine.execBtSettleEnd s
  | .btPass => Sys2Proof.Machine.execBtPass s
  | .btCurrentTimeout => Sys2Proof.Machine.execBtCurrentTimeout s
  | .btDue n => Sys2Proof.Machine.execBtDue n s
  | .btBlock n => Sys2Proof.Machine.execBtBlock n s
  | .safUnlock rq value => Sys2Proof.Machine.execSafUnlock rq value s
  | .unlockExpiry => Sys2Proof.Machine.execUnlockExpiry s
  | .psetLoad rq => Sys2Proof.Machine.execPsetLoad rq s
  | .psetCheckDone agree => Sys2Proof.Machine.execPsetCheckDone agree s
  | .psetDiscard rq => Sys2Proof.Machine.execPsetDiscard rq s
  | .psetLapse => Sys2Proof.Machine.execPsetLapse s
  | .eventDetected => Sys2Proof.Machine.execEventDetected s
  | .eventRingDrain n => Sys2Proof.Machine.execEventRingDrain n s
  | .evtRouteWrite rq k value => Sys2Proof.Machine.execEvtRouteWrite rq k value s
  | .referenceReady r => Sys2Proof.Machine.execReferenceReady r s
  | .referenceLost r => Sys2Proof.Machine.execReferenceLost r s
  | .pllReady p => Sys2Proof.Machine.execPllReady p s
  | .refSwitchTimeout => Sys2Proof.Machine.execRefSwitchTimeout s
  | .refHoldoffEnd => Sys2Proof.Machine.execRefHoldoffEnd s
  | .refSwitch rq => Sys2Proof.Machine.execRefSwitch rq s
  | .return_ rq => Sys2Proof.Machine.execReturn_ rq s
  | .clkDomSelWrite rq value => Sys2Proof.Machine.execClkDomSelWrite rq value s
  | .missingClockTrip => Sys2Proof.Machine.execMissingClockTrip s
  | .marigoldReady => Sys2Proof.Machine.execMarigoldReady s
  | .marigoldTimeout => Sys2Proof.Machine.execMarigoldTimeout s
  | .snowdropStop => Sys2Proof.Machine.execSnowdropStop s
  | .snowdropTrim => Sys2Proof.Machine.execSnowdropTrim s
  | .marigoldTrimBurst => Sys2Proof.Machine.execMarigoldTrimBurst s
  | .netpllLoss => Sys2Proof.Machine.execNetpllLoss s
  | .mempllLoss => Sys2Proof.Machine.execMempllLoss s
  | .mempllTimeout => Sys2Proof.Machine.execMempllTimeout s
  | .powerOnReset => Sys2Proof.Machine.execPowerOnReset s
  | .brownOutReset => Sys2Proof.Machine.execBrownOutReset s
  | .pinReset => Sys2Proof.Machine.execPinReset s
  | .watchdogReset => Sys2Proof.Machine.execWatchdogReset s
  | .watchdogKick rq => Sys2Proof.Machine.execWatchdogKick rq s
  | .softwareReset rq scope => Sys2Proof.Machine.execSoftwareReset rq scope s
  | .camelliaLockup => Sys2Proof.Machine.execCamelliaLockup s
  | .pcieFundamentalReset => Sys2Proof.Machine.execPcieFundamentalReset s
  | .domainRelease => Sys2Proof.Machine.execDomainRelease s
  | .doze rq => Sys2Proof.Machine.execDoze rq s
  | .dormant rq => Sys2Proof.Machine.execDormant rq s
  | .wake src => Sys2Proof.Machine.execWake src s
  | .runReached => Sys2Proof.Machine.execRunReached s
  | .sensorSample x => Sys2Proof.Machine.execSensorSample x s
  | .flashFault => Sys2Proof.Machine.execFlashFault s
  | .flashRecovered => Sys2Proof.Machine.execFlashRecovered s
  | .ledgerAcquire n seq activity object => Sys2Proof.Machine.execLedgerAcquire n seq activity object s
  | .ledgerRelease n seq ticket => Sys2Proof.Machine.execLedgerRelease n seq ticket s
  | .ledgerList n seq first => Sys2Proof.Machine.execLedgerList n seq first s
  | .ledgerWithdraw ticket => Sys2Proof.Machine.execLedgerWithdraw ticket s
  | .imageStage n found => Sys2Proof.Machine.execImageStage n found s
  | .imageActivate n seq mode => Sys2Proof.Machine.execImageActivate n seq mode s
  | .imageConfirm n seq => Sys2Proof.Machine.execImageConfirm n seq s
  | .policyStage n found policy => Sys2Proof.Machine.execPolicyStage n found policy s
  | .journalRead n seq first count handle => Sys2Proof.Machine.execJournalRead n seq first count handle s
  | .lifeRead n seq first => Sys2Proof.Machine.execLifeRead n seq first s
  | .sensorRead n seq => Sys2Proof.Machine.execSensorRead n seq s
  | .planList n seq first => Sys2Proof.Machine.execPlanList n seq first s
  | .vcoreAdjust avsOk => Sys2Proof.Machine.execVcoreAdjust avsOk s
  | .sramMarginTest failing => Sys2Proof.Machine.execSramMarginTest failing s
  | .trimDriftCheck => Sys2Proof.Machine.execTrimDriftCheck s
  | .flashRefresh => Sys2Proof.Machine.execFlashRefresh s
  | .otpRefresh => Sys2Proof.Machine.execOtpRefresh s
  | .thermalModelUpdate => Sys2Proof.Machine.execThermalModelUpdate s
  | .replan => Sys2Proof.Machine.execReplan s
  | .lifeCounterSave => Sys2Proof.Machine.execLifeCounterSave s
  | .calendarSet => Sys2Proof.Machine.execCalendarSet s
  | .testLogicReset trst => Sys2Proof.Machine.execTestLogicReset trst s
  | .extest => Sys2Proof.Machine.execExtest s
  | .idcode => Sys2Proof.Machine.execIdcode s
  | .samplePreload cells => Sys2Proof.Machine.execSamplePreload cells s
  | .clamp => Sys2Proof.Machine.execClamp s
  | .highz => Sys2Proof.Machine.execHighz s
  | .bypass code => Sys2Proof.Machine.execBypass code s
  | .dbgChal => Sys2Proof.Machine.execDbgChal s
  | .dbgCert c => Sys2Proof.Machine.execDbgCert c s
  | .dbgStatus => Sys2Proof.Machine.execDbgStatus s
  | .dbgLock => Sys2Proof.Machine.execDbgLock s
  | .dbgAccess write offset data => Sys2Proof.Machine.execDbgAccess write offset data s
  | .coreHalt core => Sys2Proof.Machine.execCoreHalt core s
  | .coreResume core => Sys2Proof.Machine.execCoreResume core s
  | .coreSingleStep core => Sys2Proof.Machine.execCoreSingleStep core s
  | .coreReadRegister core reg => Sys2Proof.Machine.execCoreReadRegister core reg s
  | .coreWriteRegister core reg data => Sys2Proof.Machine.execCoreWriteRegister core reg data s
  | .coreReadMemory core addr => Sys2Proof.Machine.execCoreReadMemory core addr s
  | .coreWriteMemory core addr data => Sys2Proof.Machine.execCoreWriteMemory core addr data s
  | .dbgReset => Sys2Proof.Machine.execDbgReset s
  | .debugSessionExpiry => Sys2Proof.Machine.execDebugSessionExpiry s
  | .debugRefusalPeriodEnd => Sys2Proof.Machine.execDebugRefusalPeriodEnd s
  | .registerRead rq addr => Sys2Proof.Machine.execRegisterRead rq addr s
  | .ptpTransmit port m => Sys2Proof.Machine.execPtpTransmit port m s
  | .pcieLinkChange speed width l1 => Sys2Proof.Machine.execPcieLinkChange speed width l1 s
  | .mgtMsg n k d msg found policy => Sys2Proof.Machine.execMgtMsg n k d msg found policy s
  | .badOpcodeDescriptor n k opcode d => Sys2Proof.Machine.execBadOpcodeDescriptor n k opcode d s
  | .badTypeMessage n seq type => Sys2Proof.Machine.execBadTypeMessage n seq type s
  | .fwVerified => Sys2Proof.Machine.execFwVerified s
  | .psetLoaded ok => Sys2Proof.Machine.execPsetLoaded ok s
  | .memReady => Sys2Proof.Machine.execMemReady s
  | .logCompaction => Sys2Proof.Machine.execLogCompaction s

end Sys2Proof.Machine
end

