-- ==== Sys2Proof/WellFormed.lean ====
section
/-! DEFINITION. Which commands the outside can send: the checks of their operands that their types do not make. A command
that fails one describes no access, frame or record of the device; every meaning is total on it all the same. -/

namespace Sys2Proof

open Machine

/-- Why a command is ill formed. -/
inductive WfErr where
  /-- A register access that is not aligned (R7). -/
  | unaligned
  /-- A register access outside the 32 MiB window (R572). -/
  | outsideWindow
  /-- An offset that is not in a channel's block, or not aligned. -/
  | blockOffset
  /-- A clock identity of more than 64 bits (R51). -/
  | identity
  /-- A field of an announce message beyond its width. -/
  | announce
  /-- A serial frame of more bits than its format has (R134, R157). -/
  | frameBits
  /-- A burst of no word, of more than 16, or beyond the end of the block (R185). -/
  | burst
  /-- A descriptor whose payload is not 48 bytes (*Descriptor header*). -/
  | payload
  /-- A doorbell page without the 64 words of bytes 0x000 to 0x0FF (R318). -/
  | doorbell
  /-- A read-back of another length than the entry's (R339). -/
  | readback
  /-- A CAN frame with an identifier or data length that its format does not have. -/
  | canFrame
  /-- An Ethernet frame without its header, or shorter on the wire than its bytes. -/
  | frame
  /-- A margin test that does not report the 4 groups of macros. -/
  | macros
  /-- A conversion for a coil that a channel does not have. -/
  | coil
  deriving DecidableEq, Repr

/-- The check of a register address. -/
def wfAddr (addr : Nat) : Option WfErr :=
  if addr % 4 != 0 then some .unaligned else if 0x2000000 ≤ addr then some .outsideWindow else none

/-- The check of an announce message. -/
def wfAnnounce (a : Announce) : Option WfErr :=
  if 2 ^ 64 ≤ a.gm then some .identity
  else if 256 ≤ a.priority1 || 256 ≤ a.clockClass || 256 ≤ a.accuracy || 65536 ≤ a.variance || 256 ≤ a.priority2 ||
    65536 ≤ a.stepsRemoved || 65536 ≤ a.utcOffset then some .announce
  else none

/-- The check of a descriptor. -/
def wfDesc (d : Desc) : Option WfErr := if d.payload.length != 48 then some .payload else none

/-- The check of a received CAN frame: a standard identifier has 11 bits, a classic frame at most 8 bytes. -/
def wfCan (f : CanFrame) : Option WfErr :=
  if (!f.xtd && 2048 ≤ f.id.toNat) || (!f.fdf && 8 < f.data.length) || 64 < f.data.length then some .canFrame else none

/-- The check of a conversion's purpose. -/
def wfUse : AdcUse → Option WfErr
  | .peak c => if 2 ≤ c then some .coil else none
  | .valley c => if 2 ≤ c then some .coil else none
  | .sample _ => none
  | .reference => none
  | .current => none

/-- The first check that a command fails. -/
def Instr.check : Instr → Option WfErr
  | .registerWrite _ addr _ => wfAddr addr
  | .announceReceived a => wfAnnounce a
  | .announceTimeout x => if 2 ^ 64 ≤ x.gm then some .identity else none
  | .syncReceived _ x _ _ _ _ => if 2 ^ 64 ≤ x.gm then some .identity else none
  | .tlmFrame _ _ frame => if 2 ^ 160 ≤ frame then some .frameBits else none
  | .ssiTransferDone _ _ frame => if 2 ^ 64 ≤ frame then some .frameBits else none
  | .axisStateWrite _ _ i burst => if burst.length == 0 || 16 < burst.length || 4096 < i.val + burst.length then some .burst else none
  | .auxCfgWrite _ _ offset _ => if offset % 4 != 0 || 0x4000 ≤ offset then some .blockOffset else none
  | .adcRequestDiscard _ _ use => wfUse use
  | .doorbellPoll _ t h r => if t.length != 16 || h.length != 16 || r.length != 32 then some .doorbell else none
  | .nop _ _ d => wfDesc d
  | .setpoint _ _ d => wfDesc d
  | .launchPush _ _ d => wfDesc d
  | .launchCancel _ _ d => wfDesc d
  | .axisCmd _ _ d => wfDesc d
  | .regBlock _ _ d _ => wfDesc d
  | .copyIn _ _ d => wfDesc d
  | .copyOut _ _ d => wfDesc d
  | .poolAlloc _ _ d => wfDesc d
  | .poolFree _ _ d => wfDesc d
  | .heartbeatReadback _ k error data => if !error && data.length != (if k.val == 8 then 16 else 32) then some .readback else none
  | .wideReadLo _ addr => wfAddr addr
  | .wideReadHi _ addr => wfAddr addr
  | .frameReceived _ f => if f.bytes.length < 14 || f.wire < f.bytes.length then some .frame else none
  | .canFrameReceived _ f _ _ => wfCan f
  | .sramMarginTest failing => if failing.length != 4 then some .macros else none
  | .registerRead _ addr => wfAddr addr
  | .mgtMsg _ _ d _ _ _ => wfDesc d
  | .badOpcodeDescriptor _ _ _ d => wfDesc d
  | .cellFault .. | .cellSafeStateTimeout .. | .clusterFault .. | .clusterFenceTimeout .. | .regionFault ..
  | .isolationConfirmTimeout .. | .topFabricTimeout .. | .chipLevelFault .. | .tbCtrlWrite .. | .servoEn ..
  | .tickSrcChange .. | .tbTimeShadowFill .. | .tbShadowRead .. | .gmSwitchTimeout .. | .gmHoldoffEnd ..
  | .holdoverEntry .. | .timeStep .. | .tbSet .. | .tbStep .. | .gmSwitch .. | .tbAdjWrite .. | .lqPush ..
  | .lqFlush .. | .lqCancel .. | .launchDelivery .. | .queueParityError .. | .axisOff .. | .auxOff ..
  | .fieldOff .. | .axisSample .. | .dclinkSample .. | .auxSample .. | .captureSample .. | .pwmPeriod ..
  | .commutate .. | .fieldWrite .. | .ethLaunch .. | .canLaunch .. | .swEvent .. | .captureTrigger .. | .pwmArm ..
  | .pwmDisarm .. | .pwmStart .. | .outEn .. | .pwmFaultClr .. | .pwmUpdatePoint .. | .pwmCompareCrossing ..
  | .pwmDeadTimeEnd .. | .switchingNodeTransition .. | .deadTimeFallback .. | .alignEvent .. | .pwmMaskWrite ..
  | .pwmMaskCfgWrite .. | .pwmAlignWrite .. | .pwmCfgWrite .. | .pwmDtCfgWrite .. | .pwmEvtCfgWrite ..
  | .bchWindowStart .. | .bchDutyLimit .. | .bchMinTimeEnd .. | .sinc3Result .. | .fastResult ..
  | .currentInputStuck .. | .dclinkFreeResult .. | .dclinkSampleResult .. | .dclinkStuck .. | .dlCfgWrite ..
  | .sdclkFreqApply .. | .csCfgWrite .. | .csStampRead .. | .tlmStampRead .. | .tlmCfgWrite .. | .fbCfgWrite ..
  | .fbSampleReady .. | .encoderEdge .. | .encoderLineLoss .. | .indexEdge .. | .sincosConversion ..
  | .rideExpiry .. | .ssiIdleEnd .. | .hallTransition .. | .fbLoad .. | .fbFaultClr .. | .zArm ..
  | .softLimitWrite .. | .fbStampRead .. | .probeEdge .. | .probePop .. | .probeCfgWrite .. | .basePeriodStart ..
  | .slotStart .. | .slotOverrun .. | .slotWindowEnd .. | .bgYield .. | .aeCommit .. | .aeDiscardPending ..
  | .aeRun .. | .aeBgEn .. | .aeFaultClr .. | .programMemoryWrite .. | .engineEccError .. | .xNop .. | .add ..
  | .sub .. | .adds .. | .subs .. | .and .. | .or .. | .xor .. | .shl .. | .shr .. | .shra .. | .min .. | .max ..
  | .abs .. | .neg .. | .movi .. | .movhi .. | .cmp .. | .mul .. | .mac .. | .msu .. | .mullo .. | .ald ..
  | .aadd .. | .asub .. | .amov .. | .ext .. | .extl .. | .divs .. | .tsin .. | .tcos .. | .rsq .. | .yNop ..
  | .ld .. | .st .. | .ldd .. | .std .. | .lds .. | .sts .. | .mfs .. | .mts .. | .jmp .. | .brcc .. | .loop ..
  | .loopr .. | .end_ .. | .wait .. | .retb .. | .illegalBundle .. | .tsStart .. | .tsAbort .. | .obsReset ..
  | .supFaultClr .. | .supScan .. | .atCurrentPlant .. | .atMechanics .. | .atResonance .. | .atApply ..
  | .atUndo .. | .atAbort .. | .atStageDone .. | .lspCfgWrite .. | .moveAbsolute .. | .moveRelative ..
  | .velocityMove .. | .stop .. | .quickStop .. | .home .. | .applyLimits .. | .flushQueue .. | .clearFault ..
  | .holdEntry .. | .stopTimeout .. | .homeLoad .. | .homeTimeout .. | .groupAbsolute .. | .groupRelative ..
  | .groupStop .. | .groupQuickStop .. | .sequencerCoreFault .. | .planEccError .. | .enReq .. | .staggerEnable ..
  | .lshCfgWrite .. | .segmentReceived .. | .lineShaftCycleStart .. | .regWindowTimeout .. | .engage ..
  | .applyRatio .. | .disengage .. | .nextTable .. | .camCommit .. | .camComputeDone .. | .camRelease ..
  | .lshStorageError .. | .joinReceived .. | .statusReceived .. | .statusSend .. | .memberTimeout ..
  | .membershipComplete .. | .auxOutEn .. | .auxFaultClr .. | .adcConversionDone .. | .adcReferenceCheck ..
  | .auxEvalInterval .. | .microstep .. | .chopperCrossing .. | .chopperBlankEnd .. | .decayMinEnd ..
  | .standstillReduction .. | .openCoil .. | .bldcAlignEnd .. | .bldcPwmPeriod .. | .bldcCommutation ..
  | .missedSector .. | .bldcCoastEnd .. | .bldcRetryRefill .. | .configRequest .. | .hifEnable .. | .sqCfgWrite ..
  | .cqCfgWrite .. | .heartbeat .. | .heartbeatTimeout .. | .irqHoldEnd .. | .hifTornWrite ..
  | .functionLevelReset .. | .poolCountWrite .. | .memSegWrite .. | .dmaStart .. | .dmaResume .. | .dmaAbort ..
  | .dmaDone .. | .dmaHalt .. | .copySegmentDone .. | .patrolScrub .. | .stagingFault .. | .capBindWrite ..
  | .captureArm .. | .captureStop .. | .captureForce .. | .captureUnload .. | .captureRowLatch .. | .envCommit ..
  | .envLoadDone .. | .unloadDone .. | .captureChannelFault .. | .ethCfgWrite .. | .ethLinkChange ..
  | .strangerHoldEnd .. | .fdbAgeing .. | .frameTransmitted .. | .gateConfigChange .. | .gateListTakeover ..
  | .gateEntryEnd .. | .launchFrameStart .. | .preemptVerifyDone .. | .saInstall .. | .transmitAreaWrite ..
  | .mdioGo .. | .mdioDone .. | .ethPortFault .. | .canInitExit .. | .canInitEnter .. | .txbReq .. | .txbCancel ..
  | .canFrameSent .. | .canTxFailure .. | .busOffRecovery .. | .ttEnable .. | .ttDisable .. | .canBasicCycle ..
  | .canWindowStart .. | .exclusiveWindowMissed .. | .rxElementLock .. | .rxElementRelease .. | .lockTimeout ..
  | .rxqAck .. | .newClear .. | .canCellFault .. | .fieldInputChange .. | .fioChCfgWrite .. | .wireBreak ..
  | .wireWhole .. | .fioOut .. | .fioOutSet .. | .fioOutClr .. | .fioOutFclr .. | .outputOvercurrent ..
  | .readbackMismatch .. | .fxModeWrite .. | .vfieldLow .. | .vfieldRecovered .. | .bridgeHeartbeatLost ..
  | .safetyCycle .. | .discrepancyFault .. | .ss1Expiry .. | .sresetPulse .. | .sresetStuck ..
  | .channelClockLost .. | .darkTest .. | .darkTestTimeout .. | .btStart .. | .btAbort .. | .btSettleEnd ..
  | .btPass .. | .btCurrentTimeout .. | .btDue .. | .btBlock .. | .safUnlock .. | .unlockExpiry .. | .psetLoad ..
  | .psetCheckDone .. | .psetDiscard .. | .psetLapse .. | .eventDetected .. | .eventRingDrain ..
  | .evtRouteWrite .. | .referenceReady .. | .referenceLost .. | .pllReady .. | .refSwitchTimeout ..
  | .refHoldoffEnd .. | .refSwitch .. | .return_ .. | .clkDomSelWrite .. | .missingClockTrip .. | .marigoldReady ..
  | .marigoldTimeout .. | .snowdropStop .. | .snowdropTrim .. | .marigoldTrimBurst .. | .netpllLoss ..
  | .mempllLoss .. | .mempllTimeout .. | .powerOnReset .. | .brownOutReset .. | .pinReset .. | .watchdogReset ..
  | .watchdogKick .. | .softwareReset .. | .camelliaLockup .. | .pcieFundamentalReset .. | .domainRelease ..
  | .doze .. | .dormant .. | .wake .. | .runReached .. | .sensorSample .. | .flashFault .. | .flashRecovered ..
  | .ledgerAcquire .. | .ledgerRelease .. | .ledgerList .. | .ledgerWithdraw .. | .imageStage ..
  | .imageActivate .. | .imageConfirm .. | .policyStage .. | .journalRead .. | .lifeRead .. | .sensorRead ..
  | .planList .. | .vcoreAdjust .. | .trimDriftCheck .. | .flashRefresh .. | .otpRefresh ..
  | .thermalModelUpdate .. | .replan .. | .lifeCounterSave .. | .calendarSet .. | .testLogicReset .. | .extest ..
  | .idcode .. | .samplePreload .. | .clamp .. | .highz .. | .bypass .. | .dbgChal .. | .dbgCert .. | .dbgStatus ..
  | .dbgLock .. | .dbgAccess .. | .coreHalt .. | .coreResume .. | .coreSingleStep .. | .coreReadRegister ..
  | .coreWriteRegister .. | .coreReadMemory .. | .coreWriteMemory .. | .dbgReset .. | .debugSessionExpiry ..
  | .debugRefusalPeriodEnd .. | .ptpTransmit .. | .pcieLinkChange .. | .badTypeMessage .. | .fwVerified ..
  | .psetLoaded .. | .memReady .. | .logCompaction .. => none

/-- A command that the outside can send. -/
def Instr.wellFormed (i : Instr) : Bool := i.check.isNone

end Sys2Proof
end

