-- ==== Sys2Proof/Machine/Step.lean ====
section
/-! DEFINITION. One step of the block: the command at the front of the queue has its effect; on an empty queue one tick of
the time base passes (R38). -/

namespace Sys2Proof.Machine

/-- One step. [DESIGN CHOICE, safe, log 2] -/
def step (s : State) : Host.Outcome State Fault Refusal :=
  match s.pending with
  | [] => .next s.clockTick
  | i :: rest => exec i { s with pending := rest }

/-- The state with the command that a word spells put at the front of the queue. [DESIGN CHOICE, safe, log 1] -/
def State.withFetchWord (s : State) (nbits w : Nat) : State :=
  match decodeTableWord nbits w with
  | some i => { s with pending := i :: s.pending }
  | none => s

end Sys2Proof.Machine
end

