-- ==== Sys2Proof/Safety.lean ====
section
/-! DEFINITION. What a well-kept state is, and the words in which the claims speak of a next state: the canonical forms of
the register window and of the memories, the discipline of the queue, and when a write reaches its register. -/

namespace Sys2Proof.Machine

/-- The canonical form of a memory: addresses strictly rising, and no entry equal to what an unlisted address reads as. -/
def Memory.wf (m : List Host.Cell) : Bool := tabWf (fun _ => (0 : Byte)) m

/-- The canonical form of the register window: offsets strictly rising, and no entry equal to the reset value of its
offset. -/
def Window.wf (t : List (Nat × Word)) : Bool := tabWf regReset t

/-- The invariant of the state: the register window, the in-package memory and the SRAM are in their canonical forms, so
that equal contents are equal data. -/
def State.canon (s : State) : Prop :=
  Window.wf s.regs = true ∧ Memory.wf s.mem = true ∧ Memory.wf s.ipm.sram = true

/-- The outcome is a next state, and one of which `P` holds. -/
def nextIs (r : Res) (P : State → Prop) : Prop := ∃ t, r = .next t ∧ P t

/-- Does a requester's write to an offset reach its register: it is not dropped (R338, R22), and the grant of the offset
lets the requester change it (R576, R577)? -/
abbrev State.reaches (s : State) (rq : Rq) (a : Nat) : Prop := s.dropReason rq a = none ∧ s.may rq a = true

/-- A state with one more tick of elapsed time. -/
def State.tickOn (s : State) : State := { s with tb := { s.tb with ticks := s.tb.ticks + 1 } }

/-- Two states in which every register of the window reads the same but those that `l` lists. -/
def sameRegsBut (l : List Nat) (s t : State) : Prop := ∀ a, a ∉ l → t.rd a = s.rd a

/-- Two states in which every byte of the in-package memory reads the same under every key, but those of `l`. -/
def sameBytesBut (l : Nat → Prop) (s t : State) : Prop := ∀ key a, ¬ l a → t.ipmRead key a = s.ipmRead key a

/-- A bit of a field after a write, by the field's access code (*Register access codes*): what it held before and the bit
that is written. -/
def codeBit (c : Acc) (old v : Bool) : Bool :=
  match c with
  | .rw => v
  | .w1c => old && !v
  | .w1s => old || v
  | .ro => old
  | .wo => old
  | .rc => old
  | .rws => old

/-! ### The rings -/

/-- The next descriptor of a submission ring starts, and it passes the checks of its header (R323). -/
abbrev State.startsDesc (s : State) (n k op : Nat) (d : Desc) (owned argOk : Bool) : Prop :=
  (s.sqStart n k (testBit d.flags.toNat 1)).isSome = true ∧ s.descErr n k op d owned argOk false = none

/-- The status that an output carries as the start of a message's reply to owner `n` at host address `a` (*Message header*):
the reply names the message's type and its sequence number. -/
def Out.replyStatus (n a type seq : Nat) : Out → Option Nat
  | .host m b l => if m = n ∧ b = a ∧ leAt l 0 2 = type ∧ leAt l 4 2 = seq then some (leAt l 6 1) else none
  | _ => none

/-! ### The engines -/

/-- An X-slot operation of engine `n` starts: its result `r` is in flight for `lat` cycles, the X slot of the bundle is
taken, and nothing else of the engine and no register changes. -/
abbrev startsX (s t : State) (n lat : Nat) (r : XRes) : Prop :=
  t.aeOf n = { s.aeOf n with core := { (s.aeOf n).core with
    xDone := true,
    flights := (s.aeOf n).core.flights ++ [⟨(s.aeOf n).core.cyc + lat, 2 * (s.aeOf n).core.cyc + 1, r.writes, r.chain, r.mask,
      r.flags, r.sticky⟩] } } ∧ t.regs = s.regs

/-- Engine `n` runs straight on: a program holds it, no branch and no loop end is due, no yield waits and no result is in
flight. -/
abbrev State.straight (s : State) (n : Nat) : Prop :=
  (s.aeOf n).issuing = true ∧ (s.aeOf n).core.delay = none ∧ (s.aeOf n).core.endOf 0 = false ∧
    (s.aeOf n).core.endOf 1 = false ∧ (s.aeOf n).yieldDue = false ∧ (s.aeOf n).statusAt = none ∧ (s.aeOf n).core.flights = []

/-- The core after one bundle: the next program counter, one cycle later. -/
abbrev AeCore.nextBundle (c : AeCore) : AeCore := { c with pc := (c.pc + 1) % 8192, cyc := c.cyc + 1, xDone := false }

end Sys2Proof.Machine
end

