-- ==== Sys2Proof/Frames.lean ====
section
/-! DEFINITION. The words in which the claims say what a command leaves alone: the parts of the state, the fields and
registers of the window, and for each command those that it may change. -/

namespace Sys2Proof.Machine

/-! ### Parts of the state -/

/-- The parts of the state, one for each field. -/
inductive Part where
  /-- The waiting commands. -/
  | pending
  /-- The register window. -/
  | regs
  /-- The in-package memory. -/
  | mem
  /-- The policy in force. -/
  | pol
  /-- The count of open values taken. -/
  | free
  /-- What the device sent. -/
  | out
  /-- The time base. -/
  | tb
  /-- The launch queues. -/
  | lqs
  /-- The actions due. -/
  | held
  /-- The events. -/
  | evt
  /-- The PWM units. -/
  | pwm
  /-- The brake choppers. -/
  | bch
  /-- Management and the debug port. -/
  | mg
  /-- Clocks and power. -/
  | clk
  /-- The safety subsystem. -/
  | saf
  /-- The current sensing. -/
  | sense
  /-- The snapshots of stamp reads. -/
  | snaps
  /-- The feedback channels. -/
  | fb
  /-- The probes. -/
  | prb
  /-- The Larkspur channels. -/
  | chans
  /-- The interpolation groups. -/
  | grps
  /-- The engines. -/
  | ae
  /-- The supervision. -/
  | sup
  /-- The host rings. -/
  | hif
  /-- The setpoint rings. -/
  | setp
  /-- The shadows of wide reads. -/
  | wide
  /-- The MSI-X tables. -/
  | msix
  /-- The memory keys, the pool, the SRAM and the copy engine. -/
  | ipm
  /-- The line shaft. -/
  | lsh
  /-- The auxiliary channels. -/
  | aux
  /-- The converters. -/
  | adc
  /-- The capture sessions. -/
  | cap
  /-- The envelopes. -/
  | env
  /-- The Ethernet ports. -/
  | eth
  /-- The filtering database. -/
  | fdb
  /-- The CAN controllers. -/
  | can
  /-- The field I/O. -/
  | fio
  /-- The staggered enables of the DC-link groups. -/
  | stag
  deriving DecidableEq, Repr

/-- Is a part of the state the same in both states? -/
def samePart (p : Part) (s t : State) : Prop :=
  match p with
  | .pending => t.pending = s.pending
  | .regs => t.regs = s.regs
  | .mem => t.mem = s.mem
  | .pol => t.pol = s.pol
  | .free => t.free = s.free
  | .out => t.out = s.out
  | .tb => t.tb = s.tb
  | .lqs => t.lqs = s.lqs
  | .held => t.held = s.held
  | .evt => t.evt = s.evt
  | .pwm => t.pwm = s.pwm
  | .bch => t.bch = s.bch
  | .mg => t.mg = s.mg
  | .clk => t.clk = s.clk
  | .saf => t.saf = s.saf
  | .sense => t.sense = s.sense
  | .snaps => t.snaps = s.snaps
  | .fb => t.fb = s.fb
  | .prb => t.prb = s.prb
  | .chans => t.chans = s.chans
  | .grps => t.grps = s.grps
  | .ae => t.ae = s.ae
  | .sup => t.sup = s.sup
  | .hif => t.hif = s.hif
  | .setp => t.setp = s.setp
  | .wide => t.wide = s.wide
  | .msix => t.msix = s.msix
  | .ipm => t.ipm = s.ipm
  | .lsh => t.lsh = s.lsh
  | .aux => t.aux = s.aux
  | .adc => t.adc = s.adc
  | .cap => t.cap = s.cap
  | .env => t.env = s.env
  | .eth => t.eth = s.eth
  | .fdb => t.fdb = s.fdb
  | .can => t.can = s.can
  | .fio => t.fio = s.fio
  | .stag => t.stag = s.stag

/-- Is every part of the state the same in both states but those that `l` lists? -/
def sameBut (l : List Part) (s t : State) : Prop := ∀ p : Part, p ∉ l → samePart p s t

/-- Every part of the state. -/
def Part.all : List Part :=
  [.pending, .regs, .mem, .pol, .free, .out, .tb, .lqs, .held, .evt, .pwm, .bch, .mg, .clk, .saf, .sense, .snaps,
   .fb, .prb, .chans, .grps, .ae, .sup, .hif, .setp, .wide, .msix, .ipm, .lsh, .aux, .adc, .cap, .env, .eth, .fdb,
   .can, .fio, .stag]

/-- Every part but those listed. -/
def Part.allBut (l : List Part) : List Part := Part.all.filter fun p => !l.contains p

/-- The parts of the state that a command may change; every other part it leaves as it was. -/
def mayChange (i : Instr) : List Part :=
  match i with
  | .registerWrite _ _ _ | .regBlock _ _ _ _ | .hifTornWrite _ _ | .functionLevelReset _ | .dbgAccess _ _ _
  | .coreResume _ =>
    Part.allBut [.pending, .pol]
  | .cellFault _ =>
    [.regs, .free, .out, .evt, .mg, .saf, .chans, .ae, .hif, .ipm, .aux, .adc, .can, .fio]
  | .cellSafeStateTimeout _ =>
    Part.allBut [.pending, .mem, .pol, .tb, .held, .pwm, .sense, .snaps, .fb, .prb, .sup, .setp, .wide, .msix, .cap, .env,
      .eth, .fdb, .stag]
  | .clusterFault _ =>
    [.regs, .free, .out, .evt, .mg, .saf, .chans, .grps, .ae, .hif, .ipm, .aux, .adc, .can]
  | .clusterFenceTimeout _ | .regionFault _ | .mempllTimeout =>
    [.regs, .out, .lqs, .evt, .bch, .mg, .clk, .saf, .chans, .grps, .ae, .hif, .ipm, .lsh, .aux, .adc, .fio]
  | .isolationConfirmTimeout _ | .topFabricTimeout =>
    [.regs, .evt, .bch, .mg, .clk, .saf, .chans, .aux, .adc, .fio]
  | .chipLevelFault _ _ | .return_ _ | .marigoldReady | .marigoldTimeout | .brownOutReset | .pinReset | .watchdogReset
  | .softwareReset _ _ | .camelliaLockup | .pcieFundamentalReset | .ledgerAcquire _ _ _ _ | .ledgerRelease _ _ _
  | .ledgerList _ _ _ | .ledgerWithdraw _ | .imageStage _ _ | .imageActivate _ _ _ | .imageConfirm _ _
  | .policyStage _ _ _ | .journalRead _ _ _ _ _ | .lifeRead _ _ _ | .sensorRead _ _ | .planList _ _ _
  | .sramMarginTest _ | .testLogicReset _ | .dbgLock | .dbgReset | .debugSessionExpiry | .badTypeMessage _ _ _ =>
    Part.allBut [.pending, .pol, .free, .out]
  | .tbCtrlWrite _ _ | .servoEn _ _ | .announceReceived _ | .syncReceived _ _ _ _ _ _ | .holdoverEntry | .gmSwitch _ =>
    [.regs, .tb, .evt, .mg, .lsh]
  | .tickSrcChange _ _ | .tbAdjWrite _ _ | .deadTimeFallback _ _ | .pwmDtCfgWrite _ _ _ | .probeCfgWrite _ _ _
  | .programMemoryWrite _ _ _ _ | .lshCfgWrite _ _ | .poolCountWrite _ _ _ | .memSegWrite _ _ | .capBindWrite _ _ _
  | .captureChannelFault _ | .rxqAck _ _ _ _ | .wireBreak _ | .btDue _ | .evtRouteWrite _ _ _ | .clkDomSelWrite _ _ =>
    [.regs, .evt]
  | .tbTimeShadowFill _ =>
    [.out, .tb, .hif]
  | .tbShadowRead _ _ | .nop _ _ _ | .heartbeat _ | .badOpcodeDescriptor _ _ _ _ =>
    [.regs, .out, .hif]
  | .announceTimeout _ | .gmHoldoffEnd =>
    [.regs, .tb, .mg, .lsh]
  | .gmSwitchTimeout =>
    [.regs, .tb, .evt, .mg]
  | .timeStep =>
    [.regs, .tb, .lqs, .evt, .pwm, .mg, .saf, .sense, .chans, .grps, .ae, .lsh, .aux, .adc, .eth]
  | .tbSet _ | .tbStep _ =>
    [.regs, .tb, .evt]
  | .lqPush _ _ | .lqFlush _ _ | .lqCancel _ _ _ | .queueParityError _ =>
    [.regs, .lqs, .evt]
  | .launchDelivery _ =>
    [.regs, .lqs, .held, .evt]
  | .axisOff _ =>
    [.regs, .held, .mg, .saf]
  | .auxOff _ =>
    [.regs, .held, .chans, .aux, .adc]
  | .fieldOff _ | .fieldWrite _ =>
    [.regs, .held, .mg, .fio]
  | .axisSample _ =>
    [.regs, .held, .evt, .mg, .saf, .sense, .fb, .chans, .grps, .ae, .setp, .lsh, .aux, .adc, .cap]
  | .dclinkSample _ =>
    [.regs, .held, .sense]
  | .auxSample _ =>
    [.regs, .held, .evt, .mg, .saf, .chans, .grps, .ae, .setp, .lsh, .aux, .adc]
  | .captureSample _ | .captureTrigger _ =>
    [.held, .cap]
  | .pwmPeriod _ | .commutate _ =>
    [.regs, .held, .evt, .pwm, .mg, .saf, .chans, .ae, .aux, .adc, .cap]
  | .ethLaunch _ =>
    [.regs, .free, .lqs, .held, .evt, .mg, .clk, .saf, .chans, .grps, .ae, .setp, .lsh, .aux, .adc, .eth]
  | .canLaunch _ _ =>
    [.regs, .free, .held, .evt, .can]
  | .swEvent _ =>
    [.held, .evt]
  | .pwmArm _ _ | .pwmDisarm _ _ | .pwmStart _ _ | .outEn _ _ | .pwmFaultClr _ _ =>
    [.regs, .evt, .pwm, .mg, .saf, .fb]
  | .pwmUpdatePoint _ _ | .alignEvent _ =>
    [.regs, .evt, .pwm, .mg, .saf, .chans, .ae, .aux, .adc, .cap]
  | .pwmCompareCrossing _ _ _ =>
    [.evt, .pwm, .cap]
  | .pwmDeadTimeEnd _ _ _ _ =>
    [.pwm]
  | .switchingNodeTransition _ _ _ _ =>
    [.regs, .pwm]
  | .pwmMaskWrite _ _ _ _ | .pwmMaskCfgWrite _ _ _ | .pwmAlignWrite _ _ _ | .pwmEvtCfgWrite _ _ _ =>
    [.regs, .evt, .pwm]
  | .pwmCfgWrite _ _ _ | .darkTestTimeout _ | .btStart _ _ _ | .btAbort _ | .psetLoad _ | .psetDiscard _ =>
    [.regs, .evt, .mg, .saf]
  | .bchWindowStart _ | .bchMinTimeEnd _ =>
    [.regs, .bch]
  | .bchDutyLimit _ =>
    [.regs, .evt, .bch]
  | .sinc3Result _ _ _ | .csCfgWrite _ _ _ | .tlmCfgWrite _ _ _ =>
    [.regs, .evt, .sense]
  | .fastResult _ _ _ | .currentInputStuck _ _ | .tlmFrame _ _ _ =>
    [.regs, .evt, .mg, .saf, .sense, .chans, .ae, .aux, .adc]
  | .dclinkFreeResult _ _ =>
    [.regs, .evt, .bch, .mg, .saf, .chans, .ae, .aux, .adc]
  | .dclinkSampleResult _ _ | .sdclkFreqApply _ =>
    [.regs, .sense]
  | .dclinkStuck _ =>
    [.regs, .evt, .bch, .mg, .saf, .sense, .chans, .ae, .aux, .adc]
  | .dlCfgWrite _ _ _ =>
    [.regs, .evt, .bch, .sense]
  | .csStampRead _ _ | .tlmStampRead _ _ | .fbStampRead _ _ =>
    [.out, .snaps, .hif]
  | .fbCfgWrite _ _ _ =>
    [.regs, .evt, .fb, .sup]
  | .fbSampleReady _ =>
    [.regs, .evt, .mg, .saf, .sense, .fb, .prb, .chans, .ae, .aux, .adc]
  | .encoderEdge _ _ _ =>
    [.regs, .evt, .mg, .saf, .sense, .fb, .chans, .ae, .aux, .adc]
  | .encoderLineLoss _ | .rideExpiry _ | .ssiTransferDone _ _ _ =>
    [.regs, .evt, .mg, .saf, .fb, .chans, .ae, .aux, .adc]
  | .indexEdge _ =>
    [.regs, .sense, .fb, .chans]
  | .sincosConversion _ _ _ _ =>
    [.regs, .evt, .mg, .saf, .fb, .prb, .chans, .ae, .aux, .adc]
  | .ssiIdleEnd _ =>
    [.fb]
  | .hallTransition _ _ =>
    [.regs, .evt, .pwm, .mg, .saf, .sense, .fb, .chans, .ae, .aux, .adc, .cap]
  | .fbLoad _ _ | .fbFaultClr _ _ | .zArm _ _ | .softLimitWrite _ _ _ _ =>
    [.regs, .evt, .fb]
  | .probeEdge _ _ _ =>
    [.regs, .evt, .prb, .chans, .lsh]
  | .probePop _ _ =>
    [.regs, .evt, .prb]
  | .basePeriodStart _ | .bgYield _ _ =>
    [.regs, .ae]
  | .slotStart _ _ _ | .slotOverrun _ =>
    [.regs, .free, .evt, .pwm, .mg, .saf, .chans, .ae, .sup, .aux, .adc]
  | .slotWindowEnd _ =>
    [.regs, .free, .evt, .pwm, .ae, .sup]
  | .aeCommit _ _ | .aeDiscardPending _ _ | .aeRun _ _ _ | .aeBgEn _ _ _ | .aeFaultClr _ _ | .axisStateWrite _ _ _ _
  | .tsStart _ _ _ _ | .tsAbort _ _ _ | .obsReset _ _ | .supFaultClr _ _ | .atCurrentPlant _ _ _ _
  | .atMechanics _ _ _ _ | .atResonance _ _ _ _ | .atApply _ _ _ _ | .atUndo _ _ _ | .atAbort _ _ _ =>
    [.regs, .evt, .ae]
  | .engineEccError _ _ _ | .wait _ | .retb _ | .illegalBundle _ | .stopTimeout _ | .homeTimeout _ | .planEccError _ =>
    [.regs, .evt, .mg, .saf, .chans, .ae, .aux, .adc]
  | .xNop _ | .add _ _ _ _ | .sub _ _ _ _ | .adds _ _ _ _ | .subs _ _ _ _ | .and _ _ _ _ | .or _ _ _ _ | .xor _ _ _ _
  | .shl _ _ _ _ | .shr _ _ _ _ | .shra _ _ _ _ | .min _ _ _ _ | .max _ _ _ _ | .abs _ _ _ | .neg _ _ _ | .movi _ _ _
  | .movhi _ _ _ | .cmp _ _ _ | .mul _ _ _ _ | .mac _ _ _ _ | .msu _ _ _ _ | .mullo _ _ _ _ | .ald _ _ _ _
  | .aadd _ _ _ _ | .asub _ _ _ _ | .amov _ _ _ _ | .ext _ _ _ _ | .extl _ _ _ | .divs _ _ _ _ =>
    [.ae]
  | .tsin _ _ _ | .tcos _ _ _ | .rsq _ _ _ =>
    [.free, .ae]
  | .yNop _ | .ld _ _ _ | .st _ _ _ | .lds _ _ _ | .sts _ _ _ | .mfs _ _ _ | .mts _ _ _ =>
    [.regs, .free, .evt, .ae]
  | .ldd _ _ _ | .std _ _ _ | .jmp _ _ | .brcc _ _ _ | .loop _ _ _ _ | .loopr _ _ _ _ =>
    [.regs, .free, .evt, .mg, .saf, .chans, .ae, .aux, .adc]
  | .end_ _ =>
    [.regs, .evt, .pwm, .mg, .saf, .chans, .ae, .aux, .adc]
  | .supScan _ =>
    [.regs, .evt, .mg, .saf, .chans, .grps, .ae, .sup, .aux, .adc]
  | .atStageDone _ _ =>
    [.regs, .sup]
  | .lspCfgWrite _ _ _ | .sequencerCoreFault _ | .adcConversionDone _ _ =>
    [.regs, .evt, .mg, .saf, .chans, .grps, .ae, .aux, .adc]
  | .moveAbsolute _ _ _ _ | .moveRelative _ _ _ _ | .velocityMove _ _ _ _ | .stop _ _ | .quickStop _ _ | .home _ _
  | .applyLimits _ _ | .flushQueue _ _ | .clearFault _ _ =>
    [.regs, .evt, .chans, .grps, .ae, .aux, .adc]
  | .holdEntry _ =>
    [.regs, .chans, .ae]
  | .homeLoad _ =>
    [.regs, .sense, .fb, .chans, .ae, .aux]
  | .groupAbsolute _ _ _ | .groupRelative _ _ _ | .groupStop _ _ | .groupQuickStop _ _ =>
    [.regs, .evt, .chans, .grps, .ae]
  | .enReq _ _ _ =>
    [.regs, .evt, .stag]
  | .staggerEnable _ =>
    [.regs, .mg, .saf, .fb, .chans, .aux, .adc, .stag]
  | .segmentReceived _ _ _ =>
    [.regs, .free, .lqs, .evt, .clk, .lsh]
  | .lineShaftCycleStart | .lshStorageError _ =>
    [.regs, .lqs, .evt, .mg, .saf, .chans, .grps, .ae, .lsh, .aux, .adc]
  | .regWindowTimeout _ =>
    [.regs, .evt, .lsh]
  | .engage _ _ _ | .applyRatio _ _ | .disengage _ _ | .nextTable _ _ =>
    [.regs, .evt, .mg, .saf, .chans, .grps, .ae, .lsh, .aux, .adc]
  | .camCommit _ _ | .camRelease _ _ =>
    [.regs, .mem, .evt, .mg, .ipm, .lsh]
  | .camComputeDone _ | .bldcRetryRefill _ | .preemptVerifyDone _ _ | .mdioDone _ | .lockTimeout _ _ | .wireWhole _
  | .sresetStuck | .pcieLinkChange _ _ _ | .memReady =>
    [.regs]
  | .joinReceived _ _ _ _ | .memberTimeout _ | .membershipComplete =>
    [.regs, .lsh]
  | .statusReceived _ _ =>
    [.lsh]
  | .statusSend | .gateListTakeover _ | .gateEntryEnd _ | .launchFrameStart _ =>
    [.regs, .eth]
  | .auxCfgWrite _ _ _ _ =>
    [.regs, .evt, .sense, .chans, .aux, .adc]
  | .auxOutEn _ _ | .auxFaultClr _ _ =>
    [.regs, .evt, .chans, .aux, .adc]
  | .adcRequestDiscard _ _ _ | .adcReferenceCheck _ | .chopperCrossing _ _ _ | .chopperBlankEnd _ _ | .decayMinEnd _ _ =>
    [.regs, .aux, .adc]
  | .auxEvalInterval _ =>
    [.regs, .evt, .mg, .saf, .chans, .grps, .ae, .setp, .lsh, .aux, .adc]
  | .microstep _ =>
    [.regs, .sense, .aux]
  | .standstillReduction _ | .bldcAlignEnd _ =>
    [.regs, .aux]
  | .openCoil _ _ =>
    [.regs, .evt, .aux]
  | .bldcPwmPeriod _ _ =>
    [.regs, .free, .evt, .chans, .ae, .aux, .adc]
  | .bldcCommutation _ =>
    [.regs, .free, .evt, .sense, .chans, .ae, .aux, .adc]
  | .missedSector _ =>
    [.regs, .evt, .sense, .chans, .ae, .aux, .adc]
  | .bldcCoastEnd _ =>
    [.regs, .chans, .aux, .adc]
  | .configRequest _ =>
    [.regs, .out]
  | .hifEnable _ _ _ | .sqCfgWrite _ _ _ _ | .cqCfgWrite _ _ _ _ =>
    [.regs, .evt, .hif]
  | .doorbellPoll _ _ _ _ | .eventRingDrain _ =>
    [.regs, .out, .evt, .hif]
  | .setpoint _ _ _ =>
    [.regs, .out, .hif, .setp]
  | .launchPush _ _ _ | .launchCancel _ _ _ =>
    [.regs, .out, .lqs, .evt, .hif]
  | .axisCmd _ _ _ =>
    [.regs, .out, .evt, .chans, .grps, .ae, .hif, .aux, .adc]
  | .copyIn _ _ _ | .copyOut _ _ _ | .poolFree _ _ _ =>
    [.regs, .out, .evt, .mg, .hif, .ipm]
  | .poolAlloc _ _ _ =>
    [.regs, .out, .hif, .ipm]
  | .heartbeatReadback _ _ _ _ | .heartbeatTimeout _ _ =>
    [.regs, .out, .evt, .mg, .hif]
  | .irqHoldEnd _ _ =>
    [.out, .hif]
  | .wideReadLo _ _ | .wideReadHi _ _ | .registerRead _ _ =>
    [.regs, .free, .out, .tb, .snaps, .hif, .wide, .can]
  | .dmaStart _ _ | .dmaResume _ _ | .dmaAbort _ _ =>
    [.regs, .evt, .mg, .ipm]
  | .dmaDone _ _ | .dmaHalt _ _ _ _ _ _ =>
    [.regs, .mem, .out, .evt, .ipm]
  | .copySegmentDone _ _ =>
    [.regs, .mem, .out, .evt, .mg, .hif, .ipm]
  | .patrolScrub _ _ _ _ =>
    [.regs, .ipm]
  | .stagingFault _ =>
    [.regs, .free, .out, .evt, .mg, .hif, .ipm]
  | .captureArm _ _ | .captureStop _ _ | .captureForce _ _ | .captureUnload _ _ =>
    [.regs, .mem, .evt, .mg, .ipm, .cap]
  | .captureRowLatch _ =>
    [.regs, .mem, .free, .evt, .mg, .ipm, .cap]
  | .envCommit _ _ =>
    [.regs, .evt, .mg, .env]
  | .envLoadDone _ _ =>
    [.regs, .env]
  | .unloadDone _ _ =>
    [.regs, .mem, .evt, .ipm]
  | .ethCfgWrite _ _ _ | .ethLinkChange _ _ _ | .gateConfigChange _ _ | .saInstall _ _ _ _ _
  | .transmitAreaWrite _ _ _ _ =>
    [.regs, .evt, .eth]
  | .frameReceived _ _ =>
    [.regs, .tb, .evt, .eth, .fdb]
  | .strangerHoldEnd _ =>
    [.evt, .eth]
  | .fdbAgeing _ =>
    [.fdb]
  | .frameTransmitted _ =>
    [.regs, .free, .out, .lqs, .evt, .clk, .lsh, .eth]
  | .mdioGo _ =>
    [.regs, .out, .evt]
  | .ethPortFault _ =>
    [.regs, .free, .evt, .eth]
  | .canInitExit _ _ _ | .canInitEnter _ _ | .txbReq _ _ _ _ | .canTxFailure _ _ | .busOffRecovery _ | .ttEnable _ _
  | .ttDisable _ _ | .canBasicCycle _ | .canWindowStart _ _ =>
    [.regs, .free, .evt, .can]
  | .txbCancel _ _ _ | .exclusiveWindowMissed _ | .newClear _ _ _ _ | .canCellFault _ =>
    [.regs, .evt, .can]
  | .canFrameSent _ =>
    [.regs, .free, .out, .evt, .can]
  | .canFrameReceived _ _ _ _ =>
    [.regs, .free, .evt, .clk, .can]
  | .rxElementLock _ _ _ _ | .rxElementRelease _ _ _ _ =>
    [.regs, .out, .hif, .can]
  | .fieldInputChange _ _ | .fioChCfgWrite _ _ _ | .fxModeWrite _ _ _ | .vfieldRecovered =>
    [.regs, .evt, .mg, .saf, .chans, .grps, .ae, .aux, .adc, .fio]
  | .fioOut _ _ | .fioOutSet _ _ | .fioOutClr _ _ | .fioOutFclr _ _ _ | .outputOvercurrent _ _ | .readbackMismatch _
  | .vfieldLow =>
    [.regs, .evt, .mg, .fio]
  | .bridgeHeartbeatLost =>
    [.regs, .mg, .fio]
  | .safetyCycle _ =>
    [.regs, .evt, .bch, .mg, .saf, .chans, .grps, .ae, .aux, .adc]
  | .discrepancyFault _ | .channelClockLost =>
    [.regs, .evt, .bch, .mg, .saf, .chans, .aux, .adc]
  | .ss1Expiry _ =>
    [.regs, .evt, .mg, .saf, .chans, .aux, .adc]
  | .sresetPulse | .psetLoaded _ =>
    [.regs, .evt, .bch, .mg, .saf, .sense, .chans, .grps, .ae, .aux, .adc, .fio]
  | .darkTest _ | .btSettleEnd =>
    [.saf]
  | .btPass | .btCurrentTimeout =>
    [.regs, .mg, .saf]
  | .btBlock _ | .unlockExpiry | .psetLapse =>
    [.regs, .saf]
  | .safUnlock _ _ =>
    [.regs, .evt, .saf]
  | .psetCheckDone _ =>
    [.regs, .free, .evt, .bch, .mg, .saf, .chans, .aux, .adc]
  | .eventDetected =>
    [.regs, .lqs, .evt, .mg, .cap]
  | .referenceReady _ | .referenceLost _ | .refHoldoffEnd | .mempllLoss | .wake _ =>
    [.regs, .clk]
  | .pllReady _ | .refSwitchTimeout =>
    [.regs, .mg, .clk]
  | .refSwitch _ | .watchdogKick _ =>
    [.regs, .evt, .clk]
  | .missingClockTrip | .dormant _ =>
    [.regs, .evt, .bch, .mg, .clk, .saf, .chans, .aux, .adc]
  | .snowdropStop | .powerOnReset | .fwVerified =>
    Part.allBut [.pending, .free, .out]
  | .snowdropTrim | .marigoldTrimBurst =>
    [.regs, .free, .clk]
  | .netpllLoss =>
    [.regs, .evt, .clk, .eth]
  | .domainRelease =>
    [.regs, .tb, .evt, .mg, .clk, .saf, .chans, .grps, .ae, .lsh, .aux, .adc, .fio]
  | .doze _ =>
    [.regs, .tb, .evt, .bch, .mg, .clk, .saf, .chans, .lsh, .aux, .adc]
  | .runReached =>
    [.regs, .tb, .evt, .mg, .clk, .lsh]
  | .sensorSample _ | .trimDriftCheck | .calendarSet =>
    [.evt, .mg]
  | .flashFault | .vcoreAdjust _ =>
    [.regs, .evt, .mg]
  | .flashRecovered | .flashRefresh | .otpRefresh | .lifeCounterSave | .extest | .samplePreload _ | .clamp | .highz
  | .bypass _ | .debugRefusalPeriodEnd | .logCompaction =>
    [.mg]
  | .thermalModelUpdate =>
    [.regs, .free, .mg]
  | .replan =>
    [.regs, .evt, .bch, .mg, .ae]
  | .idcode | .dbgChal | .dbgStatus =>
    [.out, .mg]
  | .dbgCert _ =>
    [.free, .evt, .mg]
  | .coreHalt _ =>
    [.regs, .free, .out, .mg, .chans]
  | .coreSingleStep _ | .coreReadRegister _ _ | .coreWriteRegister _ _ _ | .coreReadMemory _ _
  | .coreWriteMemory _ _ _ =>
    [.free, .out, .mg]
  | .ptpTransmit _ _ =>
    [.out, .tb]
  | .mgtMsg _ _ _ _ _ _ =>
    Part.allBut [.pending, .pol, .free]

/-! ### Fields and registers of the window -/

/-- Does bit `i` of the word at offset `a` belong to a field? -/
def inFld (f : Fld) (a i : Nat) : Prop := a = f.addr ∧ f.lo ≤ i ∧ i < f.lo + f.w

/-- The fields (f_), the registers (r_) and the areas (w_) that some command may write, each for every number of its
unit, and the whole window. -/
inductive Slot where
  | any | r_AE_COMMIT_STATUS | r_AUX_ADC_STAMP | r_AUX_BL_T60 | r_AUX_CFG | r_AUX_POS_HI | r_AUX_POS_LO | r_AUX_VEL
  | r_AX_CS_IU | r_AX_CS_IV | r_AX_CS_IW | r_AX_CS_STAMP | r_AX_FB_CFG | r_AX_FB_HALL_CFG | r_AX_FB_LINES
  | r_AX_FB_LOAD_HI | r_AX_FB_LOAD_LO | r_AX_FB_POS2_HI | r_AX_FB_POS2_LO | r_AX_FB_POS_HI | r_AX_FB_POS_LO
  | r_AX_FB_SOFT_MAX_HI | r_AX_FB_SOFT_MIN_HI | r_AX_FB_SSI_CFG | r_AX_FB_SSI_CRC | r_AX_FB_SSI_RAW_HI
  | r_AX_FB_SSI_RAW_LO | r_AX_FB_STAMP | r_AX_FB_VEL | r_AX_FB_ZLAT_HI | r_AX_FB_ZLAT_LO | r_AX_FB_ZLAT_STAMP
  | r_AX_PWM_ALIGN | r_AX_PWM_CMPA | r_AX_PWM_CMPB | r_AX_PWM_CMPC | r_AX_PWM_EVT_CFG | r_AX_PWM_MASK_CFG
  | r_AX_TLM_STAMP | r_CAN_ERRCNT | r_CAN_RXQ_CFG | r_CAN_TXB_ABANDON | r_CAN_TXB_DONE | r_CAN_TXB_REQ | r_CAP_BIND
  | r_CAP_ENV | r_CAP_ENV_HANDLE | r_CAP_STATUS | r_CLK_REF_CFG | r_CLK_REF_LOG_END | r_CS_DEPTH | r_CS_ROWS
  | r_CS_TRIG | r_CS_TRIG_STAMP | r_CS_UNLOAD_CRC | r_DMA_CSUM | r_DMA_CTL | r_DMA_DONE_BYTES | r_DMA_ERR_ADDR_HI
  | r_DMA_ERR_ADDR_LO | r_ETH_CFG | r_ETH_SLOT_STAMP | r_EVT_OD_OVF_MAP | r_EVT_PWF_ADDR | r_EVT_PWF_STAMP
  | r_EVT_ROUTE | r_FIO_BS_LEVEL | r_FIO_CH_CFG | r_FIO_FI_LEVEL | r_FIO_FI_VALID | r_FIO_FI_WB | r_FIO_FX_IN
  | r_FIO_OUT | r_FIO_OUT_FAULT | r_FIO_OUT_LOFF | r_FIO_OUT_RB | r_GLB_DL_STAMP | r_GLB_PRB_CFG | r_GLB_PRB_POS_HI
  | r_GLB_PRB_POS_LO | r_GLB_PRB_STAMP | r_HIF_OD_CTL | r_HIF_OD_DB_LO | r_HIF_OD_POLL | r_HIF_OD_SQ_CFG
  | r_HIF_OD_SQ_STATUS | r_HIF_TORN | r_LQ_HEAD_NS | r_LSH_CFG | r_LSH_FOL_CFG | r_LSH_FOL_F_ORG_HI
  | r_LSH_FOL_F_ORG_LO | r_LSH_FOL_M_ORG_HI | r_LSH_FOL_M_ORG_LO | r_LSH_FOL_PH | r_LSH_FOL_REG_CORR
  | r_LSH_FOL_X_ORG_HI | r_LSH_FOL_X_ORG_LO | r_LSH_JOIN_TIME | r_LSH_PRESENT | r_LSH_REG_ERR | r_LSH_REG_MLAT_HI
  | r_LSH_REG_MLAT_LO | r_LSH_REG_PEND | r_LSH_SH_POS_HI | r_LSH_SH_POS_LO | r_LSH_SH_SEQ | r_LSH_SH_VEL
  | r_LSP_CH_AMAX | r_LSP_CH_AREF | r_LSP_CH_CFG | r_LSP_CH_DMAX | r_LSP_CH_JMAX | r_LSP_CH_PREF_HI | r_LSP_CH_PREF_LO
  | r_LSP_CH_START | r_LSP_CH_TARGET_HI | r_LSP_CH_TARGET_LO | r_LSP_CH_VMAX | r_LSP_CH_VREF | r_LSP_EN_REQ0
  | r_LSP_EN_REQ1 | r_MEM_CTL | r_MEM_LAYOUT | r_MGT_OD_MB_DATA | r_MSEC_SA_CTL | r_MSEC_STRANGER_SRC_HI
  | r_MSEC_STRANGER_SRC_LO | r_POOL_LAST_REFUSED | r_SAF_BT_RESULT | r_SAF_PSET_CRC | r_SAF_PSET_SEQ | r_TB_BMCA
  | r_TB_GM_LOG_END | r_TB_GM_LOG_NEW_HI | r_TB_GM_LOG_NEW_LO | r_TB_GM_LOG_OLD_HI | r_TB_GM_LOG_OLD_LO | r_TB_LOCK
  | r_TSN_OPER_CTL | r_TSN_OPER_INTERVAL | r_TSN_PREEMPT | f_AE_BG_STAT_PC | f_AE_BG_STAT_RESTARTS
  | f_AE_BUDGET_CYCLES | f_AE_COMMIT_STATUS_OTHER | f_AE_COMMIT_STATUS_REASON | f_AE_COMMIT_STATUS_SHORTFALL
  | f_AE_COMMIT_STATUS_SLOT | f_AE_COMMIT_STATUS_STATE | f_AE_CTL_BG_EN | f_AE_CTL_RUN | f_AE_ECC_CORR
  | f_AE_NBASE_CYCLES | f_AE_PERIOD_CNT_COUNT | f_AE_SLOT_STAT_MAX_USED | f_AE_SLOT_STAT_OVERRUNS
  | f_AE_STATUS_BG_ACTIVE | f_AE_STATUS_BG_SAVE_LATE | f_AE_STATUS_CTL_REFUSED | f_AE_STATUS_ECC_CORR
  | f_AE_STATUS_ECC_FATAL | f_AE_STATUS_FAULT_SLOT | f_AE_STATUS_MISS_A | f_AE_STATUS_MISS_B | f_AE_STATUS_OVERRUN
  | f_AE_STATUS_PERIOD_MISMATCH | f_AE_STATUS_PHASE_MISMATCH | f_AE_STATUS_PM_WRITE_REFUSED | f_AE_STATUS_REF_USED
  | f_AE_STATUS_RUNNING | f_AE_STATUS_SAMPLE_MISPLACED | f_AE_TABLE_INFO_T_LOOP | f_AUX_ADC_RES_RESULT
  | f_AUX_BL_DUTY_DUTY | f_AUX_BL_STATUS_ADC_STARVED | f_AUX_BL_STATUS_DIRN | f_AUX_BL_STATUS_I_LIMITED
  | f_AUX_BL_STATUS_I_TRIP | f_AUX_BL_STATUS_LOST | f_AUX_BL_STATUS_PHASE | f_AUX_BL_STATUS_RESTARTS
  | f_AUX_BL_STATUS_SECTOR | f_AUX_BL_STATUS_START_FAIL | f_AUX_BL_STATUS_WRONG_DIR | f_AUX_BL_STATUS_ZC_RUN
  | f_AUX_CFG_ADC_SEL | f_AUX_CL_ADC_COUNT_DROPPED | f_AUX_CL_ADC_COUNT_MAX_WAIT | f_AUX_CL_ADC_STATUS_BUSY
  | f_AUX_CL_ADC_STATUS_FAULT | f_AUX_CL_ADC_STATUS_REF | f_AUX_CTL_OUT_EN | f_AUX_STATUS_CFG_REFUSED
  | f_AUX_STATUS_FAULT | f_AUX_STATUS_LAUNCH_OFF | f_AUX_STATUS_STATE | f_AUX_STATUS_STO_GATED
  | f_AUX_STP_COUNT_ADAPT_SKIPPED | f_AUX_STP_COUNT_DROPPED | f_AUX_STP_OFS_OFS_A | f_AUX_STP_OFS_OFS_B
  | f_AUX_STP_STATUS_FACTOR | f_AUX_STP_STATUS_INDEX | f_AUX_STP_STATUS_OPEN_A | f_AUX_STP_STATUS_OPEN_B
  | f_AUX_STP_STATUS_REDUCED | f_AUX_STP_STATUS_REDUCING | f_AUX_STP_STATUS_STEP_SAT | f_AX_CS_CFG_EN
  | f_AX_CS_CFG_MEAS_PAIR | f_AX_CS_CFG_OSR | f_AX_CS_CFG_STUCK_LIM | f_AX_CS_FAST_A_Q2 | f_AX_CS_FAST_B_Q2
  | f_AX_CS_RAW_A_Q | f_AX_CS_RAW_B_Q | f_AX_CS_STATUS_CFG_REFUSED | f_AX_CS_STATUS_DELTA | f_AX_CS_STATUS_ISAT
  | f_AX_CS_STATUS_OVERLAP | f_AX_CS_STATUS_SAT_A | f_AX_CS_STATUS_SAT_B | f_AX_CS_STATUS_STUCK_A
  | f_AX_CS_STATUS_STUCK_B | f_AX_CS_STATUS_VALID | f_AX_FB_COUNT_GLITCH | f_AX_FB_COUNT_SSI_FAIL | f_AX_FB_SC_ADC_A
  | f_AX_FB_SC_ADC_B | f_AX_FB_SC_GP_GAIN_B | f_AX_FB_SC_GP_PHASE | f_AX_FB_SC_OFS_OFS_A | f_AX_FB_SC_OFS_OFS_B
  | f_AX_FB_STATUS_AMP_FAULT | f_AX_FB_STATUS_AMP_HIGH | f_AX_FB_STATUS_AMP_LOW | f_AX_FB_STATUS_CFG_REFUSED
  | f_AX_FB_STATUS_CHECK_ERR | f_AX_FB_STATUS_EXTRAP | f_AX_FB_STATUS_FAULT | f_AX_FB_STATUS_HALL_AMBIG
  | f_AX_FB_STATUS_HALL_SKIP | f_AX_FB_STATUS_HALL_STATE | f_AX_FB_STATUS_LENT | f_AX_FB_STATUS_LINE_ERR
  | f_AX_FB_STATUS_POS2_VALID | f_AX_FB_STATUS_QUAD_ERR | f_AX_FB_STATUS_REV_HOLD | f_AX_FB_STATUS_SAT_MAX
  | f_AX_FB_STATUS_SAT_MIN | f_AX_FB_STATUS_SAT_SEEN | f_AX_FB_STATUS_SSI_BUSY | f_AX_FB_STATUS_SSI_FAIL
  | f_AX_FB_STATUS_SYNC_ERR | f_AX_FB_STATUS_VALID | f_AX_FB_STATUS_WRAPPED | f_AX_FB_STATUS_Z_SEEN
  | f_AX_PWM_CFG_ADAPT_EN | f_AX_PWM_CFG_CNT_MODE | f_AX_PWM_CFG_DL_GROUP | f_AX_PWM_CFG_LOAD | f_AX_PWM_CTL_ARM
  | f_AX_PWM_CTL_MODE_SEL | f_AX_PWM_CTL_OUT_EN | f_AX_PWM_DT_CFG_DT_MAX | f_AX_PWM_DT_CFG_DT_MIN
  | f_AX_PWM_DT_GUARD_GUARD | f_AX_PWM_MASK_MASK | f_AX_PWM_PERIOD_PERIOD | f_AX_PWM_PHASE_PHI
  | f_AX_PWM_SHADOW_SKIPPED | f_AX_PWM_STATUS_ALIGN_DONE | f_AX_PWM_STATUS_ALIGN_SLEW | f_AX_PWM_STATUS_CFG_REFUSED
  | f_AX_PWM_STATUS_COMM_IGNORED | f_AX_PWM_STATUS_DT_FALLBACK | f_AX_PWM_STATUS_FAULT | f_AX_PWM_STATUS_FXG_OFF
  | f_AX_PWM_STATUS_HALL_INVALID | f_AX_PWM_STATUS_LAUNCH_OFF | f_AX_PWM_STATUS_MASK_IDX | f_AX_PWM_STATUS_OUT_ACTIVE
  | f_AX_PWM_STATUS_PERIOD_IGNORED | f_AX_PWM_STATUS_PERIOD_RANGE | f_AX_PWM_STATUS_STATE | f_AX_PWM_STATUS_STO_GATED
  | f_AX_TLM_AUX_AUX | f_AX_TLM_CFG_EN | f_AX_TLM_CFG_GD_FAULT_MASK | f_AX_TLM_COUNT_CRC_FAIL | f_AX_TLM_COUNT_LOSS
  | f_AX_TLM_GD_VDC_GD | f_AX_TLM_GD_VDC_VDC | f_AX_TLM_STATUS_CRC_ERR | f_AX_TLM_STATUS_GD_FAULT
  | f_AX_TLM_STATUS_LOST | f_AX_TLM_STATUS_OFFSET | f_AX_TLM_STATUS_SEQ | f_AX_TLM_STATUS_SEQ_GAP
  | f_AX_TLM_STATUS_STALE | f_AX_TLM_STATUS_STATE | f_AX_TLM_TEMP_UV_TEMP_U | f_AX_TLM_TEMP_UV_TEMP_V
  | f_AX_TLM_TEMP_W_TEMP_W | f_CAN_COUNT_LOST | f_CAN_COUNT_TOO_LONG | f_CAN_CTL_AUTO_RECOVER | f_CAN_CTL_FD_EN
  | f_CAN_CTL_INIT | f_CAN_CTL_LOOP | f_CAN_CTL_RETRY | f_CAN_CTL_TT_EN | f_CAN_ERRCNT_LEC | f_CAN_ERRCNT_REC
  | f_CAN_ERRCNT_RP | f_CAN_ERRCNT_TEC | f_CAN_RXQ_STATUS_GET | f_CAN_RXQ_STATUS_LEVEL | f_CAN_RXQ_STATUS_LOCKED
  | f_CAN_RXQ_STATUS_LOCK_IDX | f_CAN_RXQ_STATUS_PUT | f_CAN_STATUS_BUS_OFF_SEEN | f_CAN_STATUS_CFG_REFUSED
  | f_CAN_STATUS_FAULT | f_CAN_STATUS_LAUNCH_MERGED | f_CAN_STATUS_LOCK_TMO_SEEN | f_CAN_STATUS_STATE
  | f_CAN_STATUS_TRIPLE_IGNORED | f_CAN_TT_STATUS_CYCLE_CNT | f_CAN_TT_STATUS_MISSED | f_CAN_TT_STATUS_RUNNING
  | f_CAN_TT_STATUS_TT_ERR | f_CAN_TT_STATUS_WINDOW | f_CAP_STATUS_CFG_REFUSED | f_CAP_STATUS_ENV_ERR
  | f_CAP_STATUS_ENV_STATE | f_CAP_STATUS_FAULT | f_CAP_STATUS_VIOLATED | f_CLK_DOM_SEL_SRC | f_CLK_REF_LOG_CAUSE
  | f_CLK_REF_LOG_DURATION | f_CLK_REF_LOG_NEW | f_CLK_REF_LOG_OLD | f_CLK_REF_LOG_TIMED_OUT
  | f_CLK_STATUS_BETTER_PENDING | f_CLK_STATUS_CMD_REFUSED | f_CLK_STATUS_DEGRADED | f_CLK_STATUS_HOLDOFF
  | f_CLK_STATUS_MG_READY | f_CLK_STATUS_PLL_READY | f_CLK_STATUS_REF_IN_USE | f_CLK_STATUS_REF_READY
  | f_CLK_STATUS_SD_TRIMMED | f_CLK_STATUS_SWITCHING | f_CLK_STATUS_SWITCH_REFUSED | f_CLK_STATUS_TRIP_SEEN
  | f_CLK_TRIM_MG_TRIM | f_CLK_TRIM_SD_TRIM | f_CS_COUNT_EXTRA_TRIG | f_CS_COUNT_SKIPPED | f_CS_STATUS_ARM_ERR
  | f_CS_STATUS_CFG_REFUSED | f_CS_STATUS_CLIPPED | f_CS_STATUS_GAP | f_CS_STATUS_MASK_STOP | f_CS_STATUS_STATE
  | f_CS_STATUS_STOPPED | f_CS_STATUS_UNLOADED | f_CS_STATUS_UNLOAD_ERR | f_CS_TRIG_HITS | f_CS_TRIG_PRIMARY
  | f_DMA_STATUS_BUSY | f_DMA_STATUS_CFG_REFUSED | f_DMA_STATUS_DONE | f_DMA_STATUS_ERR_DIR | f_DMA_STATUS_HALTED
  | f_DMA_STATUS_REASON | f_ETH_COUNT_A_HI | f_ETH_COUNT_A_LO | f_ETH_COUNT_B_HI | f_ETH_COUNT_B_LO | f_ETH_MDIO_BUSY
  | f_ETH_MDIO_DATA | f_ETH_SLOT_STATUS_DELAY | f_ETH_SLOT_STATUS_LATE | f_ETH_SLOT_STATUS_LINK_DOWN_DROP
  | f_ETH_STATUS_CFG_REFUSED | f_ETH_STATUS_FAULT | f_ETH_STATUS_LAUNCH_OVF | f_ETH_STATUS_LINK | f_ETH_STATUS_RATE
  | f_ETH_STATUS_VERIFY | f_ETH_SW_CFG_AGE | f_EVT_LT_CTL_LT_REFUSED | f_EVT_OD_CFG_COAL_LEVEL
  | f_EVT_OD_COUNT_COALESCED | f_EVT_OD_COUNT_LOST | f_EVT_OD_STATUS_LEVEL | f_EVT_OD_STATUS_MERGING
  | f_EVT_OD_STATUS_OVERFLOW | f_EVT_PWF_INFO_INITIATOR | f_EVT_PWF_INFO_REASON | f_EVT_PWF_STATUS_COUNT
  | f_EVT_PWF_STATUS_NEWEST | f_FIO_CH_STATUS_CHANGES | f_FIO_CH_STATUS_CNT | f_FIO_CH_STATUS_FAULT
  | f_FIO_CH_STATUS_LAUNCH_OFF | f_FIO_CH_STATUS_LEVEL | f_FIO_CH_STATUS_REASON | f_FIO_CH_STATUS_VALID
  | f_FIO_CH_STATUS_WB | f_FIO_CH_STATUS_WB_SEEN | f_FIO_SAFE_LEVEL_SI | f_FIO_SAFE_LEVEL_SRESET
  | f_FIO_STATUS_BRIDGE_OK | f_FIO_STATUS_CFG_REFUSED | f_FIO_STATUS_VF_LOW | f_FIO_STATUS_VF_LOW_SEEN
  | f_FXG_AX_STATUS_CAUSE | f_FXG_AX_STATUS_HOLD | f_FXG_AX_STATUS_TRIPS | f_FXG_DL_STATUS_CHECKED | f_FXG_DL_STATUS_V
  | f_GLB_BCH_CTL_MAX_DUTY | f_GLB_BCH_STATUS_LIMIT | f_GLB_BCH_STATUS_LIMIT_SEEN | f_GLB_BCH_STATUS_ON
  | f_GLB_BCH_STATUS_ON_TIME | f_GLB_CHIP_FAULT_CAUSE | f_GLB_CHIP_FAULT_REGION | f_GLB_CHIP_FAULT_TIME_HI
  | f_GLB_DL_CFG_DLY | f_GLB_DL_CFG_EN | f_GLB_DL_CFG_STUCK_LIM | f_GLB_DL_FREE_Q | f_GLB_DL_SAMPLE_Q
  | f_GLB_DL_STATUS_OVERLAP | f_GLB_DL_STATUS_SAT | f_GLB_DL_STATUS_STUCK | f_GLB_DL_STATUS_VALID | f_GLB_PRB_CFG_ARM
  | f_GLB_PRB_FLAGS_EDGE | f_GLB_PRB_FLAGS_EXTRAP | f_GLB_PRB_FLAGS_POS_VALID | f_GLB_PRB_STATUS_CFG_REFUSED
  | f_GLB_PRB_STATUS_INPUT | f_GLB_PRB_STATUS_LEVEL | f_GLB_PRB_STATUS_OVERFLOW | f_GLB_READY_FW_VERIFIED
  | f_GLB_READY_HOST_READY | f_GLB_READY_MEM_READY | f_GLB_READY_MOTION_READY | f_GLB_READY_PSET_LOADED
  | f_GLB_READY_READY_MS | f_GLB_REGION_STATE_CLUSTER_FAULT_SEEN | f_GLB_REGION_STATE_ISOLATED
  | f_GLB_REGION_STATE_REGION_FAULT | f_GLB_SDCLK_CFG_FREQ | f_HIF_LINK_L1 | f_HIF_LINK_SPEED | f_HIF_LINK_WIDTH
  | f_HIF_OD_LOST_CPL_COUNT | f_HIF_OD_SQ_STATUS_HEAD | f_HIF_OD_SQ_STATUS_RUNNING | f_HIF_OD_SQ_STATUS_TAIL_ERR
  | f_HIF_OD_STATUS_BROKEN | f_HIF_OD_STATUS_CFG_REFUSED | f_HIF_OD_STATUS_EVQ_BROKEN | f_HIF_OD_STATUS_FLR_BUSY
  | f_LQ_CANCEL_CNT_COUNT | f_LQ_LAST_LATE_CODE | f_LQ_LAST_LATE_TAG | f_LQ_LATE_CNT_DISCARDED | f_LQ_LATE_CNT_LATE
  | f_LQ_STATUS_CODE_ERR | f_LQ_STATUS_COUNT | f_LQ_STATUS_DISCARDED | f_LQ_STATUS_LATE | f_LQ_STATUS_ORDER_ERR
  | f_LQ_STATUS_OVERFLOW | f_LQ_STATUS_PARITY | f_LQ_STATUS_TARGET_REFUSED | f_LSH_CAM_STATUS_ERR
  | f_LSH_CAM_STATUS_STATE | f_LSH_CSW_STATUS_CANCELLED | f_LSH_CSW_STATUS_REVERSED | f_LSH_CSW_STATUS_STATE
  | f_LSH_FOL_CFG_TABLE | f_LSH_FOL_STATUS_CAM_MISMATCH | f_LSH_FOL_STATUS_CAM_SWITCHED | f_LSH_FOL_STATUS_CMD_REFUSED
  | f_LSH_FOL_STATUS_PH_MOVING | f_LSH_FOL_STATUS_STATE | f_LSH_JOIN_STATUS_COMPLETE
  | f_LSH_JOIN_STATUS_CYCLE_MISMATCH | f_LSH_JOIN_STATUS_DUPLICATE | f_LSH_JOIN_STATUS_JOINING
  | f_LSH_JOIN_STATUS_LOST_MEMBER | f_LSH_JOIN_STATUS_PRESENT | f_LSH_JOIN_STATUS_ROLE_CONFLICT
  | f_LSH_JOIN_STATUS_UNEXPECTED | f_LSH_REG_STATUS_EXTRA | f_LSH_REG_STATUS_NEW | f_LSH_REG_STATUS_OPEN
  | f_LSH_REG_STATUS_RESULT | f_LSH_SH_COUNT_DIVERGED | f_LSH_SH_COUNT_DROPPED | f_LSH_SH_STATUS_DIVERGE
  | f_LSH_SH_STATUS_FIT_LIMIT | f_LSH_SH_STATUS_LATE_SEG | f_LSH_SH_STATUS_MISSING | f_LSH_SH_STATUS_STATE
  | f_LSH_SH_STATUS_SWITCHED | f_LSH_SH_STATUS_USED_MASTER | f_LSH_STATUS_CFG_REFUSED | f_LSH_STATUS_LOST
  | f_LSH_STATUS_LOST_SEEN | f_LSH_STATUS_STEP_LOST | f_LSP_CH_STATUS_AT_TARGET | f_LSP_CH_STATUS_CMD_REFUSED
  | f_LSP_CH_STATUS_DECEL_KEPT | f_LSP_CH_STATUS_HOLD | f_LSP_CH_STATUS_HOMED | f_LSP_CH_STATUS_HOME_FAIL
  | f_LSP_CH_STATUS_HOME_REASON | f_LSP_CH_STATUS_LIM_BOTH | f_LSP_CH_STATUS_LIM_NEG | f_LSP_CH_STATUS_LIM_POS
  | f_LSP_CH_STATUS_QLEVEL | f_LSP_CH_STATUS_QUEUE_FULL | f_LSP_CH_STATUS_STANDSTILL | f_LSP_CH_STATUS_START_LATE
  | f_LSP_CH_STATUS_STATE | f_LSP_CH_STATUS_STOP_TMO | f_LSP_CH_STATUS_STRETCHED | f_LSP_DL_STATUS_S
  | f_LSP_EN_STATUS_BUSY | f_LSP_EN_STATUS_CANCELLED | f_LSP_EN_STATUS_LAST | f_LSP_EN_STATUS_SKIPPED
  | f_LSP_GRP_STATUS_CMD_REFUSED | f_LSP_GRP_STATUS_GROUP_LIMITED | f_LSP_GRP_STATUS_LEADER | f_LSP_GRP_STATUS_MEMBERS
  | f_LSP_GRP_STATUS_PATH_BROKEN | f_LSP_GRP_STATUS_STATE | f_LSP_STATUS_FAULT | f_LSP_STATUS_RUNNING
  | f_MEM_ECC_CNT_IPM | f_MEM_ECC_CNT_SRAM | f_MEM_STAGE_SEG | f_MEM_STAGE_SOUND | f_MEM_STATUS_CFG_REFUSED
  | f_MEM_STATUS_IPM_CORR | f_MEM_STATUS_POISONED | f_MEM_STATUS_SRAM_CORR | f_MEM_STATUS_STAGE_FAULT
  | f_MGT_AX_TH_LIFE_USED_LIFE_USED | f_MGT_AX_TH_PLAN_STATE_CAP_STEPS | f_MGT_AX_TH_PLAN_STATE_FREQ_CHANGED
  | f_MGT_AX_TH_PLAN_STATE_FREQ_STEPS | f_MGT_AX_TH_PLAN_STATE_GUARD_STEPS | f_MGT_AX_TH_PLAN_STATE_PROPOSAL_OPEN
  | f_MGT_AX_TH_TJ_PEAK_H_TJ_PEAK_H | f_MGT_AX_TH_TJ_TJ | f_MGT_OD_MB_CTL_BUSY | f_MGT_OD_MB_CTL_DONE
  | f_MGT_STATUS_AVS_FAULT | f_MGT_STATUS_FLASH_FAULT | f_MGT_STATUS_MARGIN_DUE | f_MGT_STATUS_RECOVERY
  | f_MGT_STATUS_SLOT | f_MGT_STATUS_TRIAL | f_MGT_STATUS_VCORE | f_MSEC_STRANGER_COUNT | f_MSEC_STRANGER_REASON
  | f_POOL_C_CFG_COUNT | f_POOL_C_STATUS_FREE | f_POOL_LAST_INFO_HOLDER | f_POOL_LAST_INFO_OWNER
  | f_POOL_LAST_INFO_STATUS | f_POOL_OD_QUOTA01_CLASS_HI | f_POOL_OD_QUOTA01_CLASS_LO | f_POOL_OD_QUOTA23_CLASS_HI
  | f_POOL_OD_QUOTA23_CLASS_LO | f_POOL_OD_USE01_CLASS_HI | f_POOL_OD_USE01_CLASS_LO | f_POOL_OD_USE23_CLASS_HI
  | f_POOL_OD_USE23_CLASS_LO | f_PWR_STATUS_ENTRY_REFUSED | f_PWR_STATUS_FROM_DORMANT | f_PWR_STATUS_REASON
  | f_PWR_STATUS_WAKE_SRC | f_RST_CAUSE_LAST | f_RST_CAUSE_SRC | f_RST_LOCKUP_CAMELLIA | f_RST_LOCKUP_CORE
  | f_RST_WDOG_TIMEOUT | f_SAF_BRK_STATUS_BS | f_SAF_BRK_STATUS_BT_BLOCKED | f_SAF_BRK_STATUS_BT_DUE
  | f_SAF_BRK_STATUS_FAULT | f_SAF_BRK_STATUS_FAULT_WHY | f_SAF_BRK_STATUS_RELEASED | f_SAF_BT_RESULT_AXIS
  | f_SAF_BT_RESULT_MOVED | f_SAF_BT_RESULT_REASON | f_SAF_BT_RESULT_RESULT | f_SAF_BT_RESULT_STATE | f_SAF_LOCK_AXIS
  | f_SAF_LOCK_CAUSE | f_SAF_LOCK_CAUSE_ACTIVE | f_SAF_LOCK_DEVICE | f_SAF_LOCK_UNLOCK_EXPIRED
  | f_SAF_LOCK_UNLOCK_REFUSED | f_SAF_LOCK_UNLOCK_WAIT | f_SAF_PSET_STATUS_REASON | f_SAF_PSET_STATUS_RECORDS
  | f_SAF_PSET_STATUS_STATE | f_SAF_SI_STATUS_DEMAND | f_SAF_SI_STATUS_DISC_FAULT | f_SAF_SI_STATUS_DISC_RUN
  | f_SAF_SI_STATUS_SRESET | f_SAF_SI_STATUS_SRESET_STUCK | f_SAF_STO_ASSERTED | f_SAF_STO_DEMAND
  | f_SAF_STO_RESTART_WAIT | f_SAF_STO_SS1_RUN | f_TB_ADJ_ADJ | f_TB_CTRL_GM_POLICY | f_TB_CTRL_PROTOCOL
  | f_TB_CTRL_ROLE | f_TB_CTRL_SERVO_EN | f_TB_CTRL_STEP_MODE | f_TB_CTRL_TICK_SRC | f_TB_CTRL_TRANSPORT
  | f_TB_GM_CTRL_HOLDOFF | f_TB_GM_CTRL_SWITCH_TMO | f_TB_GM_LOG_INFO_CAUSE | f_TB_GM_LOG_INFO_DURATION
  | f_TB_GM_LOG_INFO_TIMED_OUT | f_TB_OFFSET_E | f_TB_STATUS_ADJ_CLAMPED | f_TB_STATUS_BETTER_GM_PENDING
  | f_TB_STATUS_CMD_REFUSED | f_TB_STATUS_HOLDOFF | f_TB_STATUS_SERVO_STATE | f_TB_STATUS_STEPPED
  | f_TB_STATUS_SWITCHING | f_TB_STATUS_TICK_SRC_REFUSED | f_TB_STATUS_TIME_VALID | f_TB_STATUS_TORN
  | f_TB_UTC_FROM_ANNOUNCE | f_TB_UTC_LEAP59 | f_TB_UTC_LEAP61 | f_TB_UTC_OFFSET | f_TB_UTC_VALID
  | f_TSN_COUNT_TOO_LONG | f_TSN_CTL_LEN | f_TSN_STATUS_CONFIG_ERR | f_TSN_STATUS_OPER_ACTIVE | f_TSN_STATUS_OPER_LEN
  | f_TSN_STATUS_PENDING | f_TSN_STATUS_STEP_RESYNC | w_areaWord | w_auxWord | w_axisWord | w_canEb | w_canRx
  | w_canTt | w_canWord | w_cmpField | w_cqCfg | w_cqSeq | w_cqStatus | w_dtField | w_exWord | w_measField
  | w_missField | w_missFlag | w_pmAddr
  deriving DecidableEq

/-- Is bit `i` of the word at offset `a` one of a slot's? -/
def Slot.has (x : Slot) (a i : Nat) : Prop :=
  match x with
  | .any => True
  | .r_AE_COMMIT_STATUS => ∃ n : Nat, a = R.AE_COMMIT_STATUS n
  | .r_AUX_ADC_STAMP => ∃ n : Nat, a = R.AUX_ADC_STAMP n
  | .r_AUX_BL_T60 => ∃ n : Nat, a = R.AUX_BL_T60 n
  | .r_AUX_CFG => ∃ n : Nat, a = R.AUX_CFG n
  | .r_AUX_POS_HI => ∃ n : Nat, a = R.AUX_POS_HI n
  | .r_AUX_POS_LO => ∃ n : Nat, a = R.AUX_POS_LO n
  | .r_AUX_VEL => ∃ n : Nat, a = R.AUX_VEL n
  | .r_AX_CS_IU => ∃ n : Nat, a = R.AX_CS_IU n
  | .r_AX_CS_IV => ∃ n : Nat, a = R.AX_CS_IV n
  | .r_AX_CS_IW => ∃ n : Nat, a = R.AX_CS_IW n
  | .r_AX_CS_STAMP => ∃ n : Nat, a = R.AX_CS_STAMP n
  | .r_AX_FB_CFG => ∃ n : Nat, a = R.AX_FB_CFG n
  | .r_AX_FB_HALL_CFG => ∃ n : Nat, a = R.AX_FB_HALL_CFG n
  | .r_AX_FB_LINES => ∃ n : Nat, a = R.AX_FB_LINES n
  | .r_AX_FB_LOAD_HI => ∃ n : Nat, a = R.AX_FB_LOAD_HI n
  | .r_AX_FB_LOAD_LO => ∃ n : Nat, a = R.AX_FB_LOAD_LO n
  | .r_AX_FB_POS2_HI => ∃ n : Nat, a = R.AX_FB_POS2_HI n
  | .r_AX_FB_POS2_LO => ∃ n : Nat, a = R.AX_FB_POS2_LO n
  | .r_AX_FB_POS_HI => ∃ n : Nat, a = R.AX_FB_POS_HI n
  | .r_AX_FB_POS_LO => ∃ n : Nat, a = R.AX_FB_POS_LO n
  | .r_AX_FB_SOFT_MAX_HI => ∃ n : Nat, a = R.AX_FB_SOFT_MAX_HI n
  | .r_AX_FB_SOFT_MIN_HI => ∃ n : Nat, a = R.AX_FB_SOFT_MIN_HI n
  | .r_AX_FB_SSI_CFG => ∃ n : Nat, a = R.AX_FB_SSI_CFG n
  | .r_AX_FB_SSI_CRC => ∃ n : Nat, a = R.AX_FB_SSI_CRC n
  | .r_AX_FB_SSI_RAW_HI => ∃ n : Nat, a = R.AX_FB_SSI_RAW_HI n
  | .r_AX_FB_SSI_RAW_LO => ∃ n : Nat, a = R.AX_FB_SSI_RAW_LO n
  | .r_AX_FB_STAMP => ∃ n : Nat, a = R.AX_FB_STAMP n
  | .r_AX_FB_VEL => ∃ n : Nat, a = R.AX_FB_VEL n
  | .r_AX_FB_ZLAT_HI => ∃ n : Nat, a = R.AX_FB_ZLAT_HI n
  | .r_AX_FB_ZLAT_LO => ∃ n : Nat, a = R.AX_FB_ZLAT_LO n
  | .r_AX_FB_ZLAT_STAMP => ∃ n : Nat, a = R.AX_FB_ZLAT_STAMP n
  | .r_AX_PWM_ALIGN => ∃ n : Nat, a = R.AX_PWM_ALIGN n
  | .r_AX_PWM_CMPA => ∃ n : Nat, a = R.AX_PWM_CMPA n
  | .r_AX_PWM_CMPB => ∃ n : Nat, a = R.AX_PWM_CMPB n
  | .r_AX_PWM_CMPC => ∃ n : Nat, a = R.AX_PWM_CMPC n
  | .r_AX_PWM_EVT_CFG => ∃ n : Nat, a = R.AX_PWM_EVT_CFG n
  | .r_AX_PWM_MASK_CFG => ∃ n : Nat, a = R.AX_PWM_MASK_CFG n
  | .r_AX_TLM_STAMP => ∃ n : Nat, a = R.AX_TLM_STAMP n
  | .r_CAN_ERRCNT => ∃ n : Nat, a = R.CAN_ERRCNT n
  | .r_CAN_RXQ_CFG => ∃ n m : Nat, a = R.CAN_RXQ_CFG n m
  | .r_CAN_TXB_ABANDON => ∃ n : Nat, a = R.CAN_TXB_ABANDON n
  | .r_CAN_TXB_DONE => ∃ n : Nat, a = R.CAN_TXB_DONE n
  | .r_CAN_TXB_REQ => ∃ n : Nat, a = R.CAN_TXB_REQ n
  | .r_CAP_BIND => ∃ n : Nat, a = R.CAP_BIND n
  | .r_CAP_ENV => ∃ n : Nat, a = R.CAP_ENV n
  | .r_CAP_ENV_HANDLE => ∃ n : Nat, a = R.CAP_ENV_HANDLE n
  | .r_CAP_STATUS => ∃ n : Nat, a = R.CAP_STATUS n
  | .r_CLK_REF_CFG => a = R.CLK_REF_CFG
  | .r_CLK_REF_LOG_END => a = R.CLK_REF_LOG_END
  | .r_CS_DEPTH => ∃ n : Nat, a = R.CS_DEPTH n
  | .r_CS_ROWS => ∃ n : Nat, a = R.CS_ROWS n
  | .r_CS_TRIG => ∃ n : Nat, a = R.CS_TRIG n
  | .r_CS_TRIG_STAMP => ∃ n : Nat, a = R.CS_TRIG_STAMP n
  | .r_CS_UNLOAD_CRC => ∃ n : Nat, a = R.CS_UNLOAD_CRC n
  | .r_DMA_CSUM => ∃ n : Nat, a = R.DMA_CSUM n
  | .r_DMA_CTL => ∃ n : Nat, a = R.DMA_CTL n
  | .r_DMA_DONE_BYTES => ∃ n : Nat, a = R.DMA_DONE_BYTES n
  | .r_DMA_ERR_ADDR_HI => ∃ n : Nat, a = R.DMA_ERR_ADDR_HI n
  | .r_DMA_ERR_ADDR_LO => ∃ n : Nat, a = R.DMA_ERR_ADDR_LO n
  | .r_ETH_CFG => ∃ n : Nat, a = R.ETH_CFG n
  | .r_ETH_SLOT_STAMP => ∃ n m : Nat, a = R.ETH_SLOT_STAMP n m
  | .r_EVT_OD_OVF_MAP => ∃ n m : Nat, a = R.EVT_OD_OVF_MAP n m
  | .r_EVT_PWF_ADDR => ∃ n : Nat, a = R.EVT_PWF_ADDR n
  | .r_EVT_PWF_STAMP => ∃ n : Nat, a = R.EVT_PWF_STAMP n
  | .r_EVT_ROUTE => ∃ n : Nat, a = R.EVT_ROUTE n
  | .r_FIO_BS_LEVEL => a = R.FIO_BS_LEVEL
  | .r_FIO_CH_CFG => ∃ n : Nat, a = R.FIO_CH_CFG n
  | .r_FIO_FI_LEVEL => a = R.FIO_FI_LEVEL
  | .r_FIO_FI_VALID => a = R.FIO_FI_VALID
  | .r_FIO_FI_WB => a = R.FIO_FI_WB
  | .r_FIO_FX_IN => a = R.FIO_FX_IN
  | .r_FIO_OUT => a = R.FIO_OUT
  | .r_FIO_OUT_FAULT => a = R.FIO_OUT_FAULT
  | .r_FIO_OUT_LOFF => a = R.FIO_OUT_LOFF
  | .r_FIO_OUT_RB => a = R.FIO_OUT_RB
  | .r_GLB_DL_STAMP => ∃ n : Nat, a = R.GLB_DL_STAMP n
  | .r_GLB_PRB_CFG => ∃ n : Nat, a = R.GLB_PRB_CFG n
  | .r_GLB_PRB_POS_HI => ∃ n : Nat, a = R.GLB_PRB_POS_HI n
  | .r_GLB_PRB_POS_LO => ∃ n : Nat, a = R.GLB_PRB_POS_LO n
  | .r_GLB_PRB_STAMP => ∃ n : Nat, a = R.GLB_PRB_STAMP n
  | .r_HIF_OD_CTL => ∃ n : Nat, a = R.HIF_OD_CTL n
  | .r_HIF_OD_DB_LO => ∃ n : Nat, a = R.HIF_OD_DB_LO n
  | .r_HIF_OD_POLL => ∃ n : Nat, a = R.HIF_OD_POLL n
  | .r_HIF_OD_SQ_CFG => ∃ n m : Nat, a = R.HIF_OD_SQ_CFG n m
  | .r_HIF_OD_SQ_STATUS => ∃ n m : Nat, a = R.HIF_OD_SQ_STATUS n m
  | .r_HIF_TORN => a = R.HIF_TORN
  | .r_LQ_HEAD_NS => ∃ n : Nat, a = R.LQ_HEAD_NS n
  | .r_LSH_CFG => a = R.LSH_CFG
  | .r_LSH_FOL_CFG => ∃ n : Nat, a = R.LSH_FOL_CFG n
  | .r_LSH_FOL_F_ORG_HI => ∃ n : Nat, a = R.LSH_FOL_F_ORG_HI n
  | .r_LSH_FOL_F_ORG_LO => ∃ n : Nat, a = R.LSH_FOL_F_ORG_LO n
  | .r_LSH_FOL_M_ORG_HI => ∃ n : Nat, a = R.LSH_FOL_M_ORG_HI n
  | .r_LSH_FOL_M_ORG_LO => ∃ n : Nat, a = R.LSH_FOL_M_ORG_LO n
  | .r_LSH_FOL_PH => ∃ n : Nat, a = R.LSH_FOL_PH n
  | .r_LSH_FOL_REG_CORR => ∃ n : Nat, a = R.LSH_FOL_REG_CORR n
  | .r_LSH_FOL_X_ORG_HI => ∃ n : Nat, a = R.LSH_FOL_X_ORG_HI n
  | .r_LSH_FOL_X_ORG_LO => ∃ n : Nat, a = R.LSH_FOL_X_ORG_LO n
  | .r_LSH_JOIN_TIME => a = R.LSH_JOIN_TIME
  | .r_LSH_PRESENT => ∃ n : Nat, a = R.LSH_PRESENT n
  | .r_LSH_REG_ERR => ∃ n : Nat, a = R.LSH_REG_ERR n
  | .r_LSH_REG_MLAT_HI => ∃ n : Nat, a = R.LSH_REG_MLAT_HI n
  | .r_LSH_REG_MLAT_LO => ∃ n : Nat, a = R.LSH_REG_MLAT_LO n
  | .r_LSH_REG_PEND => ∃ n : Nat, a = R.LSH_REG_PEND n
  | .r_LSH_SH_POS_HI => ∃ n : Nat, a = R.LSH_SH_POS_HI n
  | .r_LSH_SH_POS_LO => ∃ n : Nat, a = R.LSH_SH_POS_LO n
  | .r_LSH_SH_SEQ => ∃ n : Nat, a = R.LSH_SH_SEQ n
  | .r_LSH_SH_VEL => ∃ n : Nat, a = R.LSH_SH_VEL n
  | .r_LSP_CH_AMAX => ∃ n : Nat, a = R.LSP_CH_AMAX n
  | .r_LSP_CH_AREF => ∃ n : Nat, a = R.LSP_CH_AREF n
  | .r_LSP_CH_CFG => ∃ n : Nat, a = R.LSP_CH_CFG n
  | .r_LSP_CH_DMAX => ∃ n : Nat, a = R.LSP_CH_DMAX n
  | .r_LSP_CH_JMAX => ∃ n : Nat, a = R.LSP_CH_JMAX n
  | .r_LSP_CH_PREF_HI => ∃ n : Nat, a = R.LSP_CH_PREF_HI n
  | .r_LSP_CH_PREF_LO => ∃ n : Nat, a = R.LSP_CH_PREF_LO n
  | .r_LSP_CH_START => ∃ n : Nat, a = R.LSP_CH_START n
  | .r_LSP_CH_TARGET_HI => ∃ n : Nat, a = R.LSP_CH_TARGET_HI n
  | .r_LSP_CH_TARGET_LO => ∃ n : Nat, a = R.LSP_CH_TARGET_LO n
  | .r_LSP_CH_VMAX => ∃ n : Nat, a = R.LSP_CH_VMAX n
  | .r_LSP_CH_VREF => ∃ n : Nat, a = R.LSP_CH_VREF n
  | .r_LSP_EN_REQ0 => a = R.LSP_EN_REQ0
  | .r_LSP_EN_REQ1 => a = R.LSP_EN_REQ1
  | .r_MEM_CTL => a = R.MEM_CTL
  | .r_MEM_LAYOUT => a = R.MEM_LAYOUT
  | .r_MGT_OD_MB_DATA => ∃ n m : Nat, a = R.MGT_OD_MB_DATA n m
  | .r_MSEC_SA_CTL => ∃ n : Nat, a = R.MSEC_SA_CTL n
  | .r_MSEC_STRANGER_SRC_HI => ∃ n : Nat, a = R.MSEC_STRANGER_SRC_HI n
  | .r_MSEC_STRANGER_SRC_LO => ∃ n : Nat, a = R.MSEC_STRANGER_SRC_LO n
  | .r_POOL_LAST_REFUSED => a = R.POOL_LAST_REFUSED
  | .r_SAF_BT_RESULT => a = R.SAF_BT_RESULT
  | .r_SAF_PSET_CRC => a = R.SAF_PSET_CRC
  | .r_SAF_PSET_SEQ => a = R.SAF_PSET_SEQ
  | .r_TB_BMCA => a = R.TB_BMCA
  | .r_TB_GM_LOG_END => a = R.TB_GM_LOG_END
  | .r_TB_GM_LOG_NEW_HI => a = R.TB_GM_LOG_NEW_HI
  | .r_TB_GM_LOG_NEW_LO => a = R.TB_GM_LOG_NEW_LO
  | .r_TB_GM_LOG_OLD_HI => a = R.TB_GM_LOG_OLD_HI
  | .r_TB_GM_LOG_OLD_LO => a = R.TB_GM_LOG_OLD_LO
  | .r_TB_LOCK => a = R.TB_LOCK
  | .r_TSN_OPER_CTL => ∃ n m : Nat, a = R.TSN_OPER_CTL n m
  | .r_TSN_OPER_INTERVAL => ∃ n m : Nat, a = R.TSN_OPER_INTERVAL n m
  | .r_TSN_PREEMPT => ∃ n : Nat, a = R.TSN_PREEMPT n
  | .f_AE_BG_STAT_PC => ∃ n : Nat, inFld (F.AE_BG_STAT_PC n) a i
  | .f_AE_BG_STAT_RESTARTS => ∃ n : Nat, inFld (F.AE_BG_STAT_RESTARTS n) a i
  | .f_AE_BUDGET_CYCLES => ∃ n : Nat, inFld (F.AE_BUDGET_CYCLES n) a i
  | .f_AE_COMMIT_STATUS_OTHER => ∃ n : Nat, inFld (F.AE_COMMIT_STATUS_OTHER n) a i
  | .f_AE_COMMIT_STATUS_REASON => ∃ n : Nat, inFld (F.AE_COMMIT_STATUS_REASON n) a i
  | .f_AE_COMMIT_STATUS_SHORTFALL => ∃ n : Nat, inFld (F.AE_COMMIT_STATUS_SHORTFALL n) a i
  | .f_AE_COMMIT_STATUS_SLOT => ∃ n : Nat, inFld (F.AE_COMMIT_STATUS_SLOT n) a i
  | .f_AE_COMMIT_STATUS_STATE => ∃ n : Nat, inFld (F.AE_COMMIT_STATUS_STATE n) a i
  | .f_AE_CTL_BG_EN => ∃ n : Nat, inFld (F.AE_CTL_BG_EN n) a i
  | .f_AE_CTL_RUN => ∃ n : Nat, inFld (F.AE_CTL_RUN n) a i
  | .f_AE_ECC_CORR => ∃ n : Nat, inFld (F.AE_ECC_CORR n) a i
  | .f_AE_NBASE_CYCLES => ∃ n : Nat, inFld (F.AE_NBASE_CYCLES n) a i
  | .f_AE_PERIOD_CNT_COUNT => ∃ n : Nat, inFld (F.AE_PERIOD_CNT_COUNT n) a i
  | .f_AE_SLOT_STAT_MAX_USED => ∃ n m : Nat, inFld (F.AE_SLOT_STAT_MAX_USED n m) a i
  | .f_AE_SLOT_STAT_OVERRUNS => ∃ n m : Nat, inFld (F.AE_SLOT_STAT_OVERRUNS n m) a i
  | .f_AE_STATUS_BG_ACTIVE => ∃ n : Nat, inFld (F.AE_STATUS_BG_ACTIVE n) a i
  | .f_AE_STATUS_BG_SAVE_LATE => ∃ n : Nat, inFld (F.AE_STATUS_BG_SAVE_LATE n) a i
  | .f_AE_STATUS_CTL_REFUSED => ∃ n : Nat, inFld (F.AE_STATUS_CTL_REFUSED n) a i
  | .f_AE_STATUS_ECC_CORR => ∃ n : Nat, inFld (F.AE_STATUS_ECC_CORR n) a i
  | .f_AE_STATUS_ECC_FATAL => ∃ n : Nat, inFld (F.AE_STATUS_ECC_FATAL n) a i
  | .f_AE_STATUS_FAULT_SLOT => ∃ n : Nat, inFld (F.AE_STATUS_FAULT_SLOT n) a i
  | .f_AE_STATUS_MISS_A => ∃ n : Nat, inFld (F.AE_STATUS_MISS_A n) a i
  | .f_AE_STATUS_MISS_B => ∃ n : Nat, inFld (F.AE_STATUS_MISS_B n) a i
  | .f_AE_STATUS_OVERRUN => ∃ n : Nat, inFld (F.AE_STATUS_OVERRUN n) a i
  | .f_AE_STATUS_PERIOD_MISMATCH => ∃ n : Nat, inFld (F.AE_STATUS_PERIOD_MISMATCH n) a i
  | .f_AE_STATUS_PHASE_MISMATCH => ∃ n : Nat, inFld (F.AE_STATUS_PHASE_MISMATCH n) a i
  | .f_AE_STATUS_PM_WRITE_REFUSED => ∃ n : Nat, inFld (F.AE_STATUS_PM_WRITE_REFUSED n) a i
  | .f_AE_STATUS_REF_USED => ∃ n : Nat, inFld (F.AE_STATUS_REF_USED n) a i
  | .f_AE_STATUS_RUNNING => ∃ n : Nat, inFld (F.AE_STATUS_RUNNING n) a i
  | .f_AE_STATUS_SAMPLE_MISPLACED => ∃ n : Nat, inFld (F.AE_STATUS_SAMPLE_MISPLACED n) a i
  | .f_AE_TABLE_INFO_T_LOOP => ∃ n : Nat, inFld (F.AE_TABLE_INFO_T_LOOP n) a i
  | .f_AUX_ADC_RES_RESULT => ∃ n : Nat, inFld (F.AUX_ADC_RES_RESULT n) a i
  | .f_AUX_BL_DUTY_DUTY => ∃ n : Nat, inFld (F.AUX_BL_DUTY_DUTY n) a i
  | .f_AUX_BL_STATUS_ADC_STARVED => ∃ n : Nat, inFld (F.AUX_BL_STATUS_ADC_STARVED n) a i
  | .f_AUX_BL_STATUS_DIRN => ∃ n : Nat, inFld (F.AUX_BL_STATUS_DIRN n) a i
  | .f_AUX_BL_STATUS_I_LIMITED => ∃ n : Nat, inFld (F.AUX_BL_STATUS_I_LIMITED n) a i
  | .f_AUX_BL_STATUS_I_TRIP => ∃ n : Nat, inFld (F.AUX_BL_STATUS_I_TRIP n) a i
  | .f_AUX_BL_STATUS_LOST => ∃ n : Nat, inFld (F.AUX_BL_STATUS_LOST n) a i
  | .f_AUX_BL_STATUS_PHASE => ∃ n : Nat, inFld (F.AUX_BL_STATUS_PHASE n) a i
  | .f_AUX_BL_STATUS_RESTARTS => ∃ n : Nat, inFld (F.AUX_BL_STATUS_RESTARTS n) a i
  | .f_AUX_BL_STATUS_SECTOR => ∃ n : Nat, inFld (F.AUX_BL_STATUS_SECTOR n) a i
  | .f_AUX_BL_STATUS_START_FAIL => ∃ n : Nat, inFld (F.AUX_BL_STATUS_START_FAIL n) a i
  | .f_AUX_BL_STATUS_WRONG_DIR => ∃ n : Nat, inFld (F.AUX_BL_STATUS_WRONG_DIR n) a i
  | .f_AUX_BL_STATUS_ZC_RUN => ∃ n : Nat, inFld (F.AUX_BL_STATUS_ZC_RUN n) a i
  | .f_AUX_CFG_ADC_SEL => ∃ n : Nat, inFld (F.AUX_CFG_ADC_SEL n) a i
  | .f_AUX_CL_ADC_COUNT_DROPPED => ∃ n : Nat, inFld (F.AUX_CL_ADC_COUNT_DROPPED n) a i
  | .f_AUX_CL_ADC_COUNT_MAX_WAIT => ∃ n : Nat, inFld (F.AUX_CL_ADC_COUNT_MAX_WAIT n) a i
  | .f_AUX_CL_ADC_STATUS_BUSY => ∃ n : Nat, inFld (F.AUX_CL_ADC_STATUS_BUSY n) a i
  | .f_AUX_CL_ADC_STATUS_FAULT => ∃ n : Nat, inFld (F.AUX_CL_ADC_STATUS_FAULT n) a i
  | .f_AUX_CL_ADC_STATUS_REF => ∃ n : Nat, inFld (F.AUX_CL_ADC_STATUS_REF n) a i
  | .f_AUX_CTL_OUT_EN => ∃ n : Nat, inFld (F.AUX_CTL_OUT_EN n) a i
  | .f_AUX_STATUS_CFG_REFUSED => ∃ n : Nat, inFld (F.AUX_STATUS_CFG_REFUSED n) a i
  | .f_AUX_STATUS_FAULT => ∃ n : Nat, inFld (F.AUX_STATUS_FAULT n) a i
  | .f_AUX_STATUS_LAUNCH_OFF => ∃ n : Nat, inFld (F.AUX_STATUS_LAUNCH_OFF n) a i
  | .f_AUX_STATUS_STATE => ∃ n : Nat, inFld (F.AUX_STATUS_STATE n) a i
  | .f_AUX_STATUS_STO_GATED => ∃ n : Nat, inFld (F.AUX_STATUS_STO_GATED n) a i
  | .f_AUX_STP_COUNT_ADAPT_SKIPPED => ∃ n : Nat, inFld (F.AUX_STP_COUNT_ADAPT_SKIPPED n) a i
  | .f_AUX_STP_COUNT_DROPPED => ∃ n : Nat, inFld (F.AUX_STP_COUNT_DROPPED n) a i
  | .f_AUX_STP_OFS_OFS_A => ∃ n : Nat, inFld (F.AUX_STP_OFS_OFS_A n) a i
  | .f_AUX_STP_OFS_OFS_B => ∃ n : Nat, inFld (F.AUX_STP_OFS_OFS_B n) a i
  | .f_AUX_STP_STATUS_FACTOR => ∃ n : Nat, inFld (F.AUX_STP_STATUS_FACTOR n) a i
  | .f_AUX_STP_STATUS_INDEX => ∃ n : Nat, inFld (F.AUX_STP_STATUS_INDEX n) a i
  | .f_AUX_STP_STATUS_OPEN_A => ∃ n : Nat, inFld (F.AUX_STP_STATUS_OPEN_A n) a i
  | .f_AUX_STP_STATUS_OPEN_B => ∃ n : Nat, inFld (F.AUX_STP_STATUS_OPEN_B n) a i
  | .f_AUX_STP_STATUS_REDUCED => ∃ n : Nat, inFld (F.AUX_STP_STATUS_REDUCED n) a i
  | .f_AUX_STP_STATUS_REDUCING => ∃ n : Nat, inFld (F.AUX_STP_STATUS_REDUCING n) a i
  | .f_AUX_STP_STATUS_STEP_SAT => ∃ n : Nat, inFld (F.AUX_STP_STATUS_STEP_SAT n) a i
  | .f_AX_CS_CFG_EN => ∃ n : Nat, inFld (F.AX_CS_CFG_EN n) a i
  | .f_AX_CS_CFG_MEAS_PAIR => ∃ n : Nat, inFld (F.AX_CS_CFG_MEAS_PAIR n) a i
  | .f_AX_CS_CFG_OSR => ∃ n : Nat, inFld (F.AX_CS_CFG_OSR n) a i
  | .f_AX_CS_CFG_STUCK_LIM => ∃ n : Nat, inFld (F.AX_CS_CFG_STUCK_LIM n) a i
  | .f_AX_CS_FAST_A_Q2 => ∃ n : Nat, inFld (F.AX_CS_FAST_A_Q2 n) a i
  | .f_AX_CS_FAST_B_Q2 => ∃ n : Nat, inFld (F.AX_CS_FAST_B_Q2 n) a i
  | .f_AX_CS_RAW_A_Q => ∃ n : Nat, inFld (F.AX_CS_RAW_A_Q n) a i
  | .f_AX_CS_RAW_B_Q => ∃ n : Nat, inFld (F.AX_CS_RAW_B_Q n) a i
  | .f_AX_CS_STATUS_CFG_REFUSED => ∃ n : Nat, inFld (F.AX_CS_STATUS_CFG_REFUSED n) a i
  | .f_AX_CS_STATUS_DELTA => ∃ n : Nat, inFld (F.AX_CS_STATUS_DELTA n) a i
  | .f_AX_CS_STATUS_ISAT => ∃ n : Nat, inFld (F.AX_CS_STATUS_ISAT n) a i
  | .f_AX_CS_STATUS_OVERLAP => ∃ n : Nat, inFld (F.AX_CS_STATUS_OVERLAP n) a i
  | .f_AX_CS_STATUS_SAT_A => ∃ n : Nat, inFld (F.AX_CS_STATUS_SAT_A n) a i
  | .f_AX_CS_STATUS_SAT_B => ∃ n : Nat, inFld (F.AX_CS_STATUS_SAT_B n) a i
  | .f_AX_CS_STATUS_STUCK_A => ∃ n : Nat, inFld (F.AX_CS_STATUS_STUCK_A n) a i
  | .f_AX_CS_STATUS_STUCK_B => ∃ n : Nat, inFld (F.AX_CS_STATUS_STUCK_B n) a i
  | .f_AX_CS_STATUS_VALID => ∃ n : Nat, inFld (F.AX_CS_STATUS_VALID n) a i
  | .f_AX_FB_COUNT_GLITCH => ∃ n : Nat, inFld (F.AX_FB_COUNT_GLITCH n) a i
  | .f_AX_FB_COUNT_SSI_FAIL => ∃ n : Nat, inFld (F.AX_FB_COUNT_SSI_FAIL n) a i
  | .f_AX_FB_SC_ADC_A => ∃ n : Nat, inFld (F.AX_FB_SC_ADC_A n) a i
  | .f_AX_FB_SC_ADC_B => ∃ n : Nat, inFld (F.AX_FB_SC_ADC_B n) a i
  | .f_AX_FB_SC_GP_GAIN_B => ∃ n : Nat, inFld (F.AX_FB_SC_GP_GAIN_B n) a i
  | .f_AX_FB_SC_GP_PHASE => ∃ n : Nat, inFld (F.AX_FB_SC_GP_PHASE n) a i
  | .f_AX_FB_SC_OFS_OFS_A => ∃ n : Nat, inFld (F.AX_FB_SC_OFS_OFS_A n) a i
  | .f_AX_FB_SC_OFS_OFS_B => ∃ n : Nat, inFld (F.AX_FB_SC_OFS_OFS_B n) a i
  | .f_AX_FB_STATUS_AMP_FAULT => ∃ n : Nat, inFld (F.AX_FB_STATUS_AMP_FAULT n) a i
  | .f_AX_FB_STATUS_AMP_HIGH => ∃ n : Nat, inFld (F.AX_FB_STATUS_AMP_HIGH n) a i
  | .f_AX_FB_STATUS_AMP_LOW => ∃ n : Nat, inFld (F.AX_FB_STATUS_AMP_LOW n) a i
  | .f_AX_FB_STATUS_CFG_REFUSED => ∃ n : Nat, inFld (F.AX_FB_STATUS_CFG_REFUSED n) a i
  | .f_AX_FB_STATUS_CHECK_ERR => ∃ n : Nat, inFld (F.AX_FB_STATUS_CHECK_ERR n) a i
  | .f_AX_FB_STATUS_EXTRAP => ∃ n : Nat, inFld (F.AX_FB_STATUS_EXTRAP n) a i
  | .f_AX_FB_STATUS_FAULT => ∃ n : Nat, inFld (F.AX_FB_STATUS_FAULT n) a i
  | .f_AX_FB_STATUS_HALL_AMBIG => ∃ n : Nat, inFld (F.AX_FB_STATUS_HALL_AMBIG n) a i
  | .f_AX_FB_STATUS_HALL_SKIP => ∃ n : Nat, inFld (F.AX_FB_STATUS_HALL_SKIP n) a i
  | .f_AX_FB_STATUS_HALL_STATE => ∃ n : Nat, inFld (F.AX_FB_STATUS_HALL_STATE n) a i
  | .f_AX_FB_STATUS_LENT => ∃ n : Nat, inFld (F.AX_FB_STATUS_LENT n) a i
  | .f_AX_FB_STATUS_LINE_ERR => ∃ n : Nat, inFld (F.AX_FB_STATUS_LINE_ERR n) a i
  | .f_AX_FB_STATUS_POS2_VALID => ∃ n : Nat, inFld (F.AX_FB_STATUS_POS2_VALID n) a i
  | .f_AX_FB_STATUS_QUAD_ERR => ∃ n : Nat, inFld (F.AX_FB_STATUS_QUAD_ERR n) a i
  | .f_AX_FB_STATUS_REV_HOLD => ∃ n : Nat, inFld (F.AX_FB_STATUS_REV_HOLD n) a i
  | .f_AX_FB_STATUS_SAT_MAX => ∃ n : Nat, inFld (F.AX_FB_STATUS_SAT_MAX n) a i
  | .f_AX_FB_STATUS_SAT_MIN => ∃ n : Nat, inFld (F.AX_FB_STATUS_SAT_MIN n) a i
  | .f_AX_FB_STATUS_SAT_SEEN => ∃ n : Nat, inFld (F.AX_FB_STATUS_SAT_SEEN n) a i
  | .f_AX_FB_STATUS_SSI_BUSY => ∃ n : Nat, inFld (F.AX_FB_STATUS_SSI_BUSY n) a i
  | .f_AX_FB_STATUS_SSI_FAIL => ∃ n : Nat, inFld (F.AX_FB_STATUS_SSI_FAIL n) a i
  | .f_AX_FB_STATUS_SYNC_ERR => ∃ n : Nat, inFld (F.AX_FB_STATUS_SYNC_ERR n) a i
  | .f_AX_FB_STATUS_VALID => ∃ n : Nat, inFld (F.AX_FB_STATUS_VALID n) a i
  | .f_AX_FB_STATUS_WRAPPED => ∃ n : Nat, inFld (F.AX_FB_STATUS_WRAPPED n) a i
  | .f_AX_FB_STATUS_Z_SEEN => ∃ n : Nat, inFld (F.AX_FB_STATUS_Z_SEEN n) a i
  | .f_AX_PWM_CFG_ADAPT_EN => ∃ n : Nat, inFld (F.AX_PWM_CFG_ADAPT_EN n) a i
  | .f_AX_PWM_CFG_CNT_MODE => ∃ n : Nat, inFld (F.AX_PWM_CFG_CNT_MODE n) a i
  | .f_AX_PWM_CFG_DL_GROUP => ∃ n : Nat, inFld (F.AX_PWM_CFG_DL_GROUP n) a i
  | .f_AX_PWM_CFG_LOAD => ∃ n : Nat, inFld (F.AX_PWM_CFG_LOAD n) a i
  | .f_AX_PWM_CTL_ARM => ∃ n : Nat, inFld (F.AX_PWM_CTL_ARM n) a i
  | .f_AX_PWM_CTL_MODE_SEL => ∃ n : Nat, inFld (F.AX_PWM_CTL_MODE_SEL n) a i
  | .f_AX_PWM_CTL_OUT_EN => ∃ n : Nat, inFld (F.AX_PWM_CTL_OUT_EN n) a i
  | .f_AX_PWM_DT_CFG_DT_MAX => ∃ n : Nat, inFld (F.AX_PWM_DT_CFG_DT_MAX n) a i
  | .f_AX_PWM_DT_CFG_DT_MIN => ∃ n : Nat, inFld (F.AX_PWM_DT_CFG_DT_MIN n) a i
  | .f_AX_PWM_DT_GUARD_GUARD => ∃ n : Nat, inFld (F.AX_PWM_DT_GUARD_GUARD n) a i
  | .f_AX_PWM_MASK_MASK => ∃ n m : Nat, inFld (F.AX_PWM_MASK_MASK n m) a i
  | .f_AX_PWM_PERIOD_PERIOD => ∃ n : Nat, inFld (F.AX_PWM_PERIOD_PERIOD n) a i
  | .f_AX_PWM_PHASE_PHI => ∃ n : Nat, inFld (F.AX_PWM_PHASE_PHI n) a i
  | .f_AX_PWM_SHADOW_SKIPPED => ∃ n : Nat, inFld (F.AX_PWM_SHADOW_SKIPPED n) a i
  | .f_AX_PWM_STATUS_ALIGN_DONE => ∃ n : Nat, inFld (F.AX_PWM_STATUS_ALIGN_DONE n) a i
  | .f_AX_PWM_STATUS_ALIGN_SLEW => ∃ n : Nat, inFld (F.AX_PWM_STATUS_ALIGN_SLEW n) a i
  | .f_AX_PWM_STATUS_CFG_REFUSED => ∃ n : Nat, inFld (F.AX_PWM_STATUS_CFG_REFUSED n) a i
  | .f_AX_PWM_STATUS_COMM_IGNORED => ∃ n : Nat, inFld (F.AX_PWM_STATUS_COMM_IGNORED n) a i
  | .f_AX_PWM_STATUS_DT_FALLBACK => ∃ n : Nat, inFld (F.AX_PWM_STATUS_DT_FALLBACK n) a i
  | .f_AX_PWM_STATUS_FAULT => ∃ n : Nat, inFld (F.AX_PWM_STATUS_FAULT n) a i
  | .f_AX_PWM_STATUS_FXG_OFF => ∃ n : Nat, inFld (F.AX_PWM_STATUS_FXG_OFF n) a i
  | .f_AX_PWM_STATUS_HALL_INVALID => ∃ n : Nat, inFld (F.AX_PWM_STATUS_HALL_INVALID n) a i
  | .f_AX_PWM_STATUS_LAUNCH_OFF => ∃ n : Nat, inFld (F.AX_PWM_STATUS_LAUNCH_OFF n) a i
  | .f_AX_PWM_STATUS_MASK_IDX => ∃ n : Nat, inFld (F.AX_PWM_STATUS_MASK_IDX n) a i
  | .f_AX_PWM_STATUS_OUT_ACTIVE => ∃ n : Nat, inFld (F.AX_PWM_STATUS_OUT_ACTIVE n) a i
  | .f_AX_PWM_STATUS_PERIOD_IGNORED => ∃ n : Nat, inFld (F.AX_PWM_STATUS_PERIOD_IGNORED n) a i
  | .f_AX_PWM_STATUS_PERIOD_RANGE => ∃ n : Nat, inFld (F.AX_PWM_STATUS_PERIOD_RANGE n) a i
  | .f_AX_PWM_STATUS_STATE => ∃ n : Nat, inFld (F.AX_PWM_STATUS_STATE n) a i
  | .f_AX_PWM_STATUS_STO_GATED => ∃ n : Nat, inFld (F.AX_PWM_STATUS_STO_GATED n) a i
  | .f_AX_TLM_AUX_AUX => ∃ n : Nat, inFld (F.AX_TLM_AUX_AUX n) a i
  | .f_AX_TLM_CFG_EN => ∃ n : Nat, inFld (F.AX_TLM_CFG_EN n) a i
  | .f_AX_TLM_CFG_GD_FAULT_MASK => ∃ n : Nat, inFld (F.AX_TLM_CFG_GD_FAULT_MASK n) a i
  | .f_AX_TLM_COUNT_CRC_FAIL => ∃ n : Nat, inFld (F.AX_TLM_COUNT_CRC_FAIL n) a i
  | .f_AX_TLM_COUNT_LOSS => ∃ n : Nat, inFld (F.AX_TLM_COUNT_LOSS n) a i
  | .f_AX_TLM_GD_VDC_GD => ∃ n : Nat, inFld (F.AX_TLM_GD_VDC_GD n) a i
  | .f_AX_TLM_GD_VDC_VDC => ∃ n : Nat, inFld (F.AX_TLM_GD_VDC_VDC n) a i
  | .f_AX_TLM_STATUS_CRC_ERR => ∃ n : Nat, inFld (F.AX_TLM_STATUS_CRC_ERR n) a i
  | .f_AX_TLM_STATUS_GD_FAULT => ∃ n : Nat, inFld (F.AX_TLM_STATUS_GD_FAULT n) a i
  | .f_AX_TLM_STATUS_LOST => ∃ n : Nat, inFld (F.AX_TLM_STATUS_LOST n) a i
  | .f_AX_TLM_STATUS_OFFSET => ∃ n : Nat, inFld (F.AX_TLM_STATUS_OFFSET n) a i
  | .f_AX_TLM_STATUS_SEQ => ∃ n : Nat, inFld (F.AX_TLM_STATUS_SEQ n) a i
  | .f_AX_TLM_STATUS_SEQ_GAP => ∃ n : Nat, inFld (F.AX_TLM_STATUS_SEQ_GAP n) a i
  | .f_AX_TLM_STATUS_STALE => ∃ n : Nat, inFld (F.AX_TLM_STATUS_STALE n) a i
  | .f_AX_TLM_STATUS_STATE => ∃ n : Nat, inFld (F.AX_TLM_STATUS_STATE n) a i
  | .f_AX_TLM_TEMP_UV_TEMP_U => ∃ n : Nat, inFld (F.AX_TLM_TEMP_UV_TEMP_U n) a i
  | .f_AX_TLM_TEMP_UV_TEMP_V => ∃ n : Nat, inFld (F.AX_TLM_TEMP_UV_TEMP_V n) a i
  | .f_AX_TLM_TEMP_W_TEMP_W => ∃ n : Nat, inFld (F.AX_TLM_TEMP_W_TEMP_W n) a i
  | .f_CAN_COUNT_LOST => ∃ n : Nat, inFld (F.CAN_COUNT_LOST n) a i
  | .f_CAN_COUNT_TOO_LONG => ∃ n : Nat, inFld (F.CAN_COUNT_TOO_LONG n) a i
  | .f_CAN_CTL_AUTO_RECOVER => ∃ n : Nat, inFld (F.CAN_CTL_AUTO_RECOVER n) a i
  | .f_CAN_CTL_FD_EN => ∃ n : Nat, inFld (F.CAN_CTL_FD_EN n) a i
  | .f_CAN_CTL_INIT => ∃ n : Nat, inFld (F.CAN_CTL_INIT n) a i
  | .f_CAN_CTL_LOOP => ∃ n : Nat, inFld (F.CAN_CTL_LOOP n) a i
  | .f_CAN_CTL_RETRY => ∃ n : Nat, inFld (F.CAN_CTL_RETRY n) a i
  | .f_CAN_CTL_TT_EN => ∃ n : Nat, inFld (F.CAN_CTL_TT_EN n) a i
  | .f_CAN_ERRCNT_LEC => ∃ n : Nat, inFld (F.CAN_ERRCNT_LEC n) a i
  | .f_CAN_ERRCNT_REC => ∃ n : Nat, inFld (F.CAN_ERRCNT_REC n) a i
  | .f_CAN_ERRCNT_RP => ∃ n : Nat, inFld (F.CAN_ERRCNT_RP n) a i
  | .f_CAN_ERRCNT_TEC => ∃ n : Nat, inFld (F.CAN_ERRCNT_TEC n) a i
  | .f_CAN_RXQ_STATUS_GET => ∃ n m : Nat, inFld (F.CAN_RXQ_STATUS_GET n m) a i
  | .f_CAN_RXQ_STATUS_LEVEL => ∃ n m : Nat, inFld (F.CAN_RXQ_STATUS_LEVEL n m) a i
  | .f_CAN_RXQ_STATUS_LOCKED => ∃ n m : Nat, inFld (F.CAN_RXQ_STATUS_LOCKED n m) a i
  | .f_CAN_RXQ_STATUS_LOCK_IDX => ∃ n m : Nat, inFld (F.CAN_RXQ_STATUS_LOCK_IDX n m) a i
  | .f_CAN_RXQ_STATUS_PUT => ∃ n m : Nat, inFld (F.CAN_RXQ_STATUS_PUT n m) a i
  | .f_CAN_STATUS_BUS_OFF_SEEN => ∃ n : Nat, inFld (F.CAN_STATUS_BUS_OFF_SEEN n) a i
  | .f_CAN_STATUS_CFG_REFUSED => ∃ n : Nat, inFld (F.CAN_STATUS_CFG_REFUSED n) a i
  | .f_CAN_STATUS_FAULT => ∃ n : Nat, inFld (F.CAN_STATUS_FAULT n) a i
  | .f_CAN_STATUS_LAUNCH_MERGED => ∃ n : Nat, inFld (F.CAN_STATUS_LAUNCH_MERGED n) a i
  | .f_CAN_STATUS_LOCK_TMO_SEEN => ∃ n : Nat, inFld (F.CAN_STATUS_LOCK_TMO_SEEN n) a i
  | .f_CAN_STATUS_STATE => ∃ n : Nat, inFld (F.CAN_STATUS_STATE n) a i
  | .f_CAN_STATUS_TRIPLE_IGNORED => ∃ n : Nat, inFld (F.CAN_STATUS_TRIPLE_IGNORED n) a i
  | .f_CAN_TT_STATUS_CYCLE_CNT => ∃ n : Nat, inFld (F.CAN_TT_STATUS_CYCLE_CNT n) a i
  | .f_CAN_TT_STATUS_MISSED => ∃ n : Nat, inFld (F.CAN_TT_STATUS_MISSED n) a i
  | .f_CAN_TT_STATUS_RUNNING => ∃ n : Nat, inFld (F.CAN_TT_STATUS_RUNNING n) a i
  | .f_CAN_TT_STATUS_TT_ERR => ∃ n : Nat, inFld (F.CAN_TT_STATUS_TT_ERR n) a i
  | .f_CAN_TT_STATUS_WINDOW => ∃ n : Nat, inFld (F.CAN_TT_STATUS_WINDOW n) a i
  | .f_CAP_STATUS_CFG_REFUSED => ∃ n : Nat, inFld (F.CAP_STATUS_CFG_REFUSED n) a i
  | .f_CAP_STATUS_ENV_ERR => ∃ n : Nat, inFld (F.CAP_STATUS_ENV_ERR n) a i
  | .f_CAP_STATUS_ENV_STATE => ∃ n : Nat, inFld (F.CAP_STATUS_ENV_STATE n) a i
  | .f_CAP_STATUS_FAULT => ∃ n : Nat, inFld (F.CAP_STATUS_FAULT n) a i
  | .f_CAP_STATUS_VIOLATED => ∃ n : Nat, inFld (F.CAP_STATUS_VIOLATED n) a i
  | .f_CLK_DOM_SEL_SRC => inFld F.CLK_DOM_SEL_SRC a i
  | .f_CLK_REF_LOG_CAUSE => inFld F.CLK_REF_LOG_CAUSE a i
  | .f_CLK_REF_LOG_DURATION => inFld F.CLK_REF_LOG_DURATION a i
  | .f_CLK_REF_LOG_NEW => inFld F.CLK_REF_LOG_NEW a i
  | .f_CLK_REF_LOG_OLD => inFld F.CLK_REF_LOG_OLD a i
  | .f_CLK_REF_LOG_TIMED_OUT => inFld F.CLK_REF_LOG_TIMED_OUT a i
  | .f_CLK_STATUS_BETTER_PENDING => inFld F.CLK_STATUS_BETTER_PENDING a i
  | .f_CLK_STATUS_CMD_REFUSED => inFld F.CLK_STATUS_CMD_REFUSED a i
  | .f_CLK_STATUS_DEGRADED => inFld F.CLK_STATUS_DEGRADED a i
  | .f_CLK_STATUS_HOLDOFF => inFld F.CLK_STATUS_HOLDOFF a i
  | .f_CLK_STATUS_MG_READY => inFld F.CLK_STATUS_MG_READY a i
  | .f_CLK_STATUS_PLL_READY => inFld F.CLK_STATUS_PLL_READY a i
  | .f_CLK_STATUS_REF_IN_USE => inFld F.CLK_STATUS_REF_IN_USE a i
  | .f_CLK_STATUS_REF_READY => inFld F.CLK_STATUS_REF_READY a i
  | .f_CLK_STATUS_SD_TRIMMED => inFld F.CLK_STATUS_SD_TRIMMED a i
  | .f_CLK_STATUS_SWITCHING => inFld F.CLK_STATUS_SWITCHING a i
  | .f_CLK_STATUS_SWITCH_REFUSED => inFld F.CLK_STATUS_SWITCH_REFUSED a i
  | .f_CLK_STATUS_TRIP_SEEN => inFld F.CLK_STATUS_TRIP_SEEN a i
  | .f_CLK_TRIM_MG_TRIM => inFld F.CLK_TRIM_MG_TRIM a i
  | .f_CLK_TRIM_SD_TRIM => inFld F.CLK_TRIM_SD_TRIM a i
  | .f_CS_COUNT_EXTRA_TRIG => ∃ n : Nat, inFld (F.CS_COUNT_EXTRA_TRIG n) a i
  | .f_CS_COUNT_SKIPPED => ∃ n : Nat, inFld (F.CS_COUNT_SKIPPED n) a i
  | .f_CS_STATUS_ARM_ERR => ∃ n : Nat, inFld (F.CS_STATUS_ARM_ERR n) a i
  | .f_CS_STATUS_CFG_REFUSED => ∃ n : Nat, inFld (F.CS_STATUS_CFG_REFUSED n) a i
  | .f_CS_STATUS_CLIPPED => ∃ n : Nat, inFld (F.CS_STATUS_CLIPPED n) a i
  | .f_CS_STATUS_GAP => ∃ n : Nat, inFld (F.CS_STATUS_GAP n) a i
  | .f_CS_STATUS_MASK_STOP => ∃ n : Nat, inFld (F.CS_STATUS_MASK_STOP n) a i
  | .f_CS_STATUS_STATE => ∃ n : Nat, inFld (F.CS_STATUS_STATE n) a i
  | .f_CS_STATUS_STOPPED => ∃ n : Nat, inFld (F.CS_STATUS_STOPPED n) a i
  | .f_CS_STATUS_UNLOADED => ∃ n : Nat, inFld (F.CS_STATUS_UNLOADED n) a i
  | .f_CS_STATUS_UNLOAD_ERR => ∃ n : Nat, inFld (F.CS_STATUS_UNLOAD_ERR n) a i
  | .f_CS_TRIG_HITS => ∃ n : Nat, inFld (F.CS_TRIG_HITS n) a i
  | .f_CS_TRIG_PRIMARY => ∃ n : Nat, inFld (F.CS_TRIG_PRIMARY n) a i
  | .f_DMA_STATUS_BUSY => ∃ n : Nat, inFld (F.DMA_STATUS_BUSY n) a i
  | .f_DMA_STATUS_CFG_REFUSED => ∃ n : Nat, inFld (F.DMA_STATUS_CFG_REFUSED n) a i
  | .f_DMA_STATUS_DONE => ∃ n : Nat, inFld (F.DMA_STATUS_DONE n) a i
  | .f_DMA_STATUS_ERR_DIR => ∃ n : Nat, inFld (F.DMA_STATUS_ERR_DIR n) a i
  | .f_DMA_STATUS_HALTED => ∃ n : Nat, inFld (F.DMA_STATUS_HALTED n) a i
  | .f_DMA_STATUS_REASON => ∃ n : Nat, inFld (F.DMA_STATUS_REASON n) a i
  | .f_ETH_COUNT_A_HI => ∃ n : Nat, inFld (F.ETH_COUNT_A_HI n) a i
  | .f_ETH_COUNT_A_LO => ∃ n : Nat, inFld (F.ETH_COUNT_A_LO n) a i
  | .f_ETH_COUNT_B_HI => ∃ n : Nat, inFld (F.ETH_COUNT_B_HI n) a i
  | .f_ETH_COUNT_B_LO => ∃ n : Nat, inFld (F.ETH_COUNT_B_LO n) a i
  | .f_ETH_MDIO_BUSY => inFld F.ETH_MDIO_BUSY a i
  | .f_ETH_MDIO_DATA => inFld F.ETH_MDIO_DATA a i
  | .f_ETH_SLOT_STATUS_DELAY => ∃ n m : Nat, inFld (F.ETH_SLOT_STATUS_DELAY n m) a i
  | .f_ETH_SLOT_STATUS_LATE => ∃ n m : Nat, inFld (F.ETH_SLOT_STATUS_LATE n m) a i
  | .f_ETH_SLOT_STATUS_LINK_DOWN_DROP => ∃ n m : Nat, inFld (F.ETH_SLOT_STATUS_LINK_DOWN_DROP n m) a i
  | .f_ETH_STATUS_CFG_REFUSED => ∃ n : Nat, inFld (F.ETH_STATUS_CFG_REFUSED n) a i
  | .f_ETH_STATUS_FAULT => ∃ n : Nat, inFld (F.ETH_STATUS_FAULT n) a i
  | .f_ETH_STATUS_LAUNCH_OVF => ∃ n : Nat, inFld (F.ETH_STATUS_LAUNCH_OVF n) a i
  | .f_ETH_STATUS_LINK => ∃ n : Nat, inFld (F.ETH_STATUS_LINK n) a i
  | .f_ETH_STATUS_RATE => ∃ n : Nat, inFld (F.ETH_STATUS_RATE n) a i
  | .f_ETH_STATUS_VERIFY => ∃ n : Nat, inFld (F.ETH_STATUS_VERIFY n) a i
  | .f_ETH_SW_CFG_AGE => inFld F.ETH_SW_CFG_AGE a i
  | .f_EVT_LT_CTL_LT_REFUSED => ∃ n : Nat, inFld (F.EVT_LT_CTL_LT_REFUSED n) a i
  | .f_EVT_OD_CFG_COAL_LEVEL => ∃ n : Nat, inFld (F.EVT_OD_CFG_COAL_LEVEL n) a i
  | .f_EVT_OD_COUNT_COALESCED => ∃ n : Nat, inFld (F.EVT_OD_COUNT_COALESCED n) a i
  | .f_EVT_OD_COUNT_LOST => ∃ n : Nat, inFld (F.EVT_OD_COUNT_LOST n) a i
  | .f_EVT_OD_STATUS_LEVEL => ∃ n : Nat, inFld (F.EVT_OD_STATUS_LEVEL n) a i
  | .f_EVT_OD_STATUS_MERGING => ∃ n : Nat, inFld (F.EVT_OD_STATUS_MERGING n) a i
  | .f_EVT_OD_STATUS_OVERFLOW => ∃ n : Nat, inFld (F.EVT_OD_STATUS_OVERFLOW n) a i
  | .f_EVT_PWF_INFO_INITIATOR => ∃ n : Nat, inFld (F.EVT_PWF_INFO_INITIATOR n) a i
  | .f_EVT_PWF_INFO_REASON => ∃ n : Nat, inFld (F.EVT_PWF_INFO_REASON n) a i
  | .f_EVT_PWF_STATUS_COUNT => inFld F.EVT_PWF_STATUS_COUNT a i
  | .f_EVT_PWF_STATUS_NEWEST => inFld F.EVT_PWF_STATUS_NEWEST a i
  | .f_FIO_CH_STATUS_CHANGES => ∃ n : Nat, inFld (F.FIO_CH_STATUS_CHANGES n) a i
  | .f_FIO_CH_STATUS_CNT => ∃ n : Nat, inFld (F.FIO_CH_STATUS_CNT n) a i
  | .f_FIO_CH_STATUS_FAULT => ∃ n : Nat, inFld (F.FIO_CH_STATUS_FAULT n) a i
  | .f_FIO_CH_STATUS_LAUNCH_OFF => ∃ n : Nat, inFld (F.FIO_CH_STATUS_LAUNCH_OFF n) a i
  | .f_FIO_CH_STATUS_LEVEL => ∃ n : Nat, inFld (F.FIO_CH_STATUS_LEVEL n) a i
  | .f_FIO_CH_STATUS_REASON => ∃ n : Nat, inFld (F.FIO_CH_STATUS_REASON n) a i
  | .f_FIO_CH_STATUS_VALID => ∃ n : Nat, inFld (F.FIO_CH_STATUS_VALID n) a i
  | .f_FIO_CH_STATUS_WB => ∃ n : Nat, inFld (F.FIO_CH_STATUS_WB n) a i
  | .f_FIO_CH_STATUS_WB_SEEN => ∃ n : Nat, inFld (F.FIO_CH_STATUS_WB_SEEN n) a i
  | .f_FIO_SAFE_LEVEL_SI => inFld F.FIO_SAFE_LEVEL_SI a i
  | .f_FIO_SAFE_LEVEL_SRESET => inFld F.FIO_SAFE_LEVEL_SRESET a i
  | .f_FIO_STATUS_BRIDGE_OK => inFld F.FIO_STATUS_BRIDGE_OK a i
  | .f_FIO_STATUS_CFG_REFUSED => inFld F.FIO_STATUS_CFG_REFUSED a i
  | .f_FIO_STATUS_VF_LOW => inFld F.FIO_STATUS_VF_LOW a i
  | .f_FIO_STATUS_VF_LOW_SEEN => inFld F.FIO_STATUS_VF_LOW_SEEN a i
  | .f_FXG_AX_STATUS_CAUSE => ∃ n : Nat, inFld (F.FXG_AX_STATUS_CAUSE n) a i
  | .f_FXG_AX_STATUS_HOLD => ∃ n : Nat, inFld (F.FXG_AX_STATUS_HOLD n) a i
  | .f_FXG_AX_STATUS_TRIPS => ∃ n : Nat, inFld (F.FXG_AX_STATUS_TRIPS n) a i
  | .f_FXG_DL_STATUS_CHECKED => ∃ n : Nat, inFld (F.FXG_DL_STATUS_CHECKED n) a i
  | .f_FXG_DL_STATUS_V => ∃ n : Nat, inFld (F.FXG_DL_STATUS_V n) a i
  | .f_GLB_BCH_CTL_MAX_DUTY => ∃ n : Nat, inFld (F.GLB_BCH_CTL_MAX_DUTY n) a i
  | .f_GLB_BCH_STATUS_LIMIT => ∃ n : Nat, inFld (F.GLB_BCH_STATUS_LIMIT n) a i
  | .f_GLB_BCH_STATUS_LIMIT_SEEN => ∃ n : Nat, inFld (F.GLB_BCH_STATUS_LIMIT_SEEN n) a i
  | .f_GLB_BCH_STATUS_ON => ∃ n : Nat, inFld (F.GLB_BCH_STATUS_ON n) a i
  | .f_GLB_BCH_STATUS_ON_TIME => ∃ n : Nat, inFld (F.GLB_BCH_STATUS_ON_TIME n) a i
  | .f_GLB_CHIP_FAULT_CAUSE => inFld F.GLB_CHIP_FAULT_CAUSE a i
  | .f_GLB_CHIP_FAULT_REGION => inFld F.GLB_CHIP_FAULT_REGION a i
  | .f_GLB_CHIP_FAULT_TIME_HI => inFld F.GLB_CHIP_FAULT_TIME_HI a i
  | .f_GLB_DL_CFG_DLY => ∃ n : Nat, inFld (F.GLB_DL_CFG_DLY n) a i
  | .f_GLB_DL_CFG_EN => ∃ n : Nat, inFld (F.GLB_DL_CFG_EN n) a i
  | .f_GLB_DL_CFG_STUCK_LIM => ∃ n : Nat, inFld (F.GLB_DL_CFG_STUCK_LIM n) a i
  | .f_GLB_DL_FREE_Q => ∃ n : Nat, inFld (F.GLB_DL_FREE_Q n) a i
  | .f_GLB_DL_SAMPLE_Q => ∃ n : Nat, inFld (F.GLB_DL_SAMPLE_Q n) a i
  | .f_GLB_DL_STATUS_OVERLAP => ∃ n : Nat, inFld (F.GLB_DL_STATUS_OVERLAP n) a i
  | .f_GLB_DL_STATUS_SAT => ∃ n : Nat, inFld (F.GLB_DL_STATUS_SAT n) a i
  | .f_GLB_DL_STATUS_STUCK => ∃ n : Nat, inFld (F.GLB_DL_STATUS_STUCK n) a i
  | .f_GLB_DL_STATUS_VALID => ∃ n : Nat, inFld (F.GLB_DL_STATUS_VALID n) a i
  | .f_GLB_PRB_CFG_ARM => ∃ n : Nat, inFld (F.GLB_PRB_CFG_ARM n) a i
  | .f_GLB_PRB_FLAGS_EDGE => ∃ n : Nat, inFld (F.GLB_PRB_FLAGS_EDGE n) a i
  | .f_GLB_PRB_FLAGS_EXTRAP => ∃ n : Nat, inFld (F.GLB_PRB_FLAGS_EXTRAP n) a i
  | .f_GLB_PRB_FLAGS_POS_VALID => ∃ n : Nat, inFld (F.GLB_PRB_FLAGS_POS_VALID n) a i
  | .f_GLB_PRB_STATUS_CFG_REFUSED => ∃ n : Nat, inFld (F.GLB_PRB_STATUS_CFG_REFUSED n) a i
  | .f_GLB_PRB_STATUS_INPUT => ∃ n : Nat, inFld (F.GLB_PRB_STATUS_INPUT n) a i
  | .f_GLB_PRB_STATUS_LEVEL => ∃ n : Nat, inFld (F.GLB_PRB_STATUS_LEVEL n) a i
  | .f_GLB_PRB_STATUS_OVERFLOW => ∃ n : Nat, inFld (F.GLB_PRB_STATUS_OVERFLOW n) a i
  | .f_GLB_READY_FW_VERIFIED => inFld F.GLB_READY_FW_VERIFIED a i
  | .f_GLB_READY_HOST_READY => inFld F.GLB_READY_HOST_READY a i
  | .f_GLB_READY_MEM_READY => inFld F.GLB_READY_MEM_READY a i
  | .f_GLB_READY_MOTION_READY => inFld F.GLB_READY_MOTION_READY a i
  | .f_GLB_READY_PSET_LOADED => inFld F.GLB_READY_PSET_LOADED a i
  | .f_GLB_READY_READY_MS => inFld F.GLB_READY_READY_MS a i
  | .f_GLB_REGION_STATE_CLUSTER_FAULT_SEEN => inFld F.GLB_REGION_STATE_CLUSTER_FAULT_SEEN a i
  | .f_GLB_REGION_STATE_ISOLATED => inFld F.GLB_REGION_STATE_ISOLATED a i
  | .f_GLB_REGION_STATE_REGION_FAULT => inFld F.GLB_REGION_STATE_REGION_FAULT a i
  | .f_GLB_SDCLK_CFG_FREQ => inFld F.GLB_SDCLK_CFG_FREQ a i
  | .f_HIF_LINK_L1 => inFld F.HIF_LINK_L1 a i
  | .f_HIF_LINK_SPEED => inFld F.HIF_LINK_SPEED a i
  | .f_HIF_LINK_WIDTH => inFld F.HIF_LINK_WIDTH a i
  | .f_HIF_OD_LOST_CPL_COUNT => ∃ n : Nat, inFld (F.HIF_OD_LOST_CPL_COUNT n) a i
  | .f_HIF_OD_SQ_STATUS_HEAD => ∃ n m : Nat, inFld (F.HIF_OD_SQ_STATUS_HEAD n m) a i
  | .f_HIF_OD_SQ_STATUS_RUNNING => ∃ n m : Nat, inFld (F.HIF_OD_SQ_STATUS_RUNNING n m) a i
  | .f_HIF_OD_SQ_STATUS_TAIL_ERR => ∃ n m : Nat, inFld (F.HIF_OD_SQ_STATUS_TAIL_ERR n m) a i
  | .f_HIF_OD_STATUS_BROKEN => ∃ n : Nat, inFld (F.HIF_OD_STATUS_BROKEN n) a i
  | .f_HIF_OD_STATUS_CFG_REFUSED => ∃ n : Nat, inFld (F.HIF_OD_STATUS_CFG_REFUSED n) a i
  | .f_HIF_OD_STATUS_EVQ_BROKEN => ∃ n : Nat, inFld (F.HIF_OD_STATUS_EVQ_BROKEN n) a i
  | .f_HIF_OD_STATUS_FLR_BUSY => ∃ n : Nat, inFld (F.HIF_OD_STATUS_FLR_BUSY n) a i
  | .f_LQ_CANCEL_CNT_COUNT => ∃ n : Nat, inFld (F.LQ_CANCEL_CNT_COUNT n) a i
  | .f_LQ_LAST_LATE_CODE => ∃ n : Nat, inFld (F.LQ_LAST_LATE_CODE n) a i
  | .f_LQ_LAST_LATE_TAG => ∃ n : Nat, inFld (F.LQ_LAST_LATE_TAG n) a i
  | .f_LQ_LATE_CNT_DISCARDED => ∃ n : Nat, inFld (F.LQ_LATE_CNT_DISCARDED n) a i
  | .f_LQ_LATE_CNT_LATE => ∃ n : Nat, inFld (F.LQ_LATE_CNT_LATE n) a i
  | .f_LQ_STATUS_CODE_ERR => ∃ n : Nat, inFld (F.LQ_STATUS_CODE_ERR n) a i
  | .f_LQ_STATUS_COUNT => ∃ n : Nat, inFld (F.LQ_STATUS_COUNT n) a i
  | .f_LQ_STATUS_DISCARDED => ∃ n : Nat, inFld (F.LQ_STATUS_DISCARDED n) a i
  | .f_LQ_STATUS_LATE => ∃ n : Nat, inFld (F.LQ_STATUS_LATE n) a i
  | .f_LQ_STATUS_ORDER_ERR => ∃ n : Nat, inFld (F.LQ_STATUS_ORDER_ERR n) a i
  | .f_LQ_STATUS_OVERFLOW => ∃ n : Nat, inFld (F.LQ_STATUS_OVERFLOW n) a i
  | .f_LQ_STATUS_PARITY => ∃ n : Nat, inFld (F.LQ_STATUS_PARITY n) a i
  | .f_LQ_STATUS_TARGET_REFUSED => ∃ n : Nat, inFld (F.LQ_STATUS_TARGET_REFUSED n) a i
  | .f_LSH_CAM_STATUS_ERR => ∃ n : Nat, inFld (F.LSH_CAM_STATUS_ERR n) a i
  | .f_LSH_CAM_STATUS_STATE => ∃ n : Nat, inFld (F.LSH_CAM_STATUS_STATE n) a i
  | .f_LSH_CSW_STATUS_CANCELLED => ∃ n : Nat, inFld (F.LSH_CSW_STATUS_CANCELLED n) a i
  | .f_LSH_CSW_STATUS_REVERSED => ∃ n : Nat, inFld (F.LSH_CSW_STATUS_REVERSED n) a i
  | .f_LSH_CSW_STATUS_STATE => ∃ n : Nat, inFld (F.LSH_CSW_STATUS_STATE n) a i
  | .f_LSH_FOL_CFG_TABLE => ∃ n : Nat, inFld (F.LSH_FOL_CFG_TABLE n) a i
  | .f_LSH_FOL_STATUS_CAM_MISMATCH => ∃ n : Nat, inFld (F.LSH_FOL_STATUS_CAM_MISMATCH n) a i
  | .f_LSH_FOL_STATUS_CAM_SWITCHED => ∃ n : Nat, inFld (F.LSH_FOL_STATUS_CAM_SWITCHED n) a i
  | .f_LSH_FOL_STATUS_CMD_REFUSED => ∃ n : Nat, inFld (F.LSH_FOL_STATUS_CMD_REFUSED n) a i
  | .f_LSH_FOL_STATUS_PH_MOVING => ∃ n : Nat, inFld (F.LSH_FOL_STATUS_PH_MOVING n) a i
  | .f_LSH_FOL_STATUS_STATE => ∃ n : Nat, inFld (F.LSH_FOL_STATUS_STATE n) a i
  | .f_LSH_JOIN_STATUS_COMPLETE => inFld F.LSH_JOIN_STATUS_COMPLETE a i
  | .f_LSH_JOIN_STATUS_CYCLE_MISMATCH => inFld F.LSH_JOIN_STATUS_CYCLE_MISMATCH a i
  | .f_LSH_JOIN_STATUS_DUPLICATE => inFld F.LSH_JOIN_STATUS_DUPLICATE a i
  | .f_LSH_JOIN_STATUS_JOINING => inFld F.LSH_JOIN_STATUS_JOINING a i
  | .f_LSH_JOIN_STATUS_LOST_MEMBER => inFld F.LSH_JOIN_STATUS_LOST_MEMBER a i
  | .f_LSH_JOIN_STATUS_PRESENT => inFld F.LSH_JOIN_STATUS_PRESENT a i
  | .f_LSH_JOIN_STATUS_ROLE_CONFLICT => inFld F.LSH_JOIN_STATUS_ROLE_CONFLICT a i
  | .f_LSH_JOIN_STATUS_UNEXPECTED => inFld F.LSH_JOIN_STATUS_UNEXPECTED a i
  | .f_LSH_REG_STATUS_EXTRA => ∃ n : Nat, inFld (F.LSH_REG_STATUS_EXTRA n) a i
  | .f_LSH_REG_STATUS_NEW => ∃ n : Nat, inFld (F.LSH_REG_STATUS_NEW n) a i
  | .f_LSH_REG_STATUS_OPEN => ∃ n : Nat, inFld (F.LSH_REG_STATUS_OPEN n) a i
  | .f_LSH_REG_STATUS_RESULT => ∃ n : Nat, inFld (F.LSH_REG_STATUS_RESULT n) a i
  | .f_LSH_SH_COUNT_DIVERGED => ∃ n : Nat, inFld (F.LSH_SH_COUNT_DIVERGED n) a i
  | .f_LSH_SH_COUNT_DROPPED => ∃ n : Nat, inFld (F.LSH_SH_COUNT_DROPPED n) a i
  | .f_LSH_SH_STATUS_DIVERGE => ∃ n : Nat, inFld (F.LSH_SH_STATUS_DIVERGE n) a i
  | .f_LSH_SH_STATUS_FIT_LIMIT => ∃ n : Nat, inFld (F.LSH_SH_STATUS_FIT_LIMIT n) a i
  | .f_LSH_SH_STATUS_LATE_SEG => ∃ n : Nat, inFld (F.LSH_SH_STATUS_LATE_SEG n) a i
  | .f_LSH_SH_STATUS_MISSING => ∃ n : Nat, inFld (F.LSH_SH_STATUS_MISSING n) a i
  | .f_LSH_SH_STATUS_STATE => ∃ n : Nat, inFld (F.LSH_SH_STATUS_STATE n) a i
  | .f_LSH_SH_STATUS_SWITCHED => ∃ n : Nat, inFld (F.LSH_SH_STATUS_SWITCHED n) a i
  | .f_LSH_SH_STATUS_USED_MASTER => ∃ n : Nat, inFld (F.LSH_SH_STATUS_USED_MASTER n) a i
  | .f_LSH_STATUS_CFG_REFUSED => inFld F.LSH_STATUS_CFG_REFUSED a i
  | .f_LSH_STATUS_LOST => inFld F.LSH_STATUS_LOST a i
  | .f_LSH_STATUS_LOST_SEEN => inFld F.LSH_STATUS_LOST_SEEN a i
  | .f_LSH_STATUS_STEP_LOST => inFld F.LSH_STATUS_STEP_LOST a i
  | .f_LSP_CH_STATUS_AT_TARGET => ∃ n : Nat, inFld (F.LSP_CH_STATUS_AT_TARGET n) a i
  | .f_LSP_CH_STATUS_CMD_REFUSED => ∃ n : Nat, inFld (F.LSP_CH_STATUS_CMD_REFUSED n) a i
  | .f_LSP_CH_STATUS_DECEL_KEPT => ∃ n : Nat, inFld (F.LSP_CH_STATUS_DECEL_KEPT n) a i
  | .f_LSP_CH_STATUS_HOLD => ∃ n : Nat, inFld (F.LSP_CH_STATUS_HOLD n) a i
  | .f_LSP_CH_STATUS_HOMED => ∃ n : Nat, inFld (F.LSP_CH_STATUS_HOMED n) a i
  | .f_LSP_CH_STATUS_HOME_FAIL => ∃ n : Nat, inFld (F.LSP_CH_STATUS_HOME_FAIL n) a i
  | .f_LSP_CH_STATUS_HOME_REASON => ∃ n : Nat, inFld (F.LSP_CH_STATUS_HOME_REASON n) a i
  | .f_LSP_CH_STATUS_LIM_BOTH => ∃ n : Nat, inFld (F.LSP_CH_STATUS_LIM_BOTH n) a i
  | .f_LSP_CH_STATUS_LIM_NEG => ∃ n : Nat, inFld (F.LSP_CH_STATUS_LIM_NEG n) a i
  | .f_LSP_CH_STATUS_LIM_POS => ∃ n : Nat, inFld (F.LSP_CH_STATUS_LIM_POS n) a i
  | .f_LSP_CH_STATUS_QLEVEL => ∃ n : Nat, inFld (F.LSP_CH_STATUS_QLEVEL n) a i
  | .f_LSP_CH_STATUS_QUEUE_FULL => ∃ n : Nat, inFld (F.LSP_CH_STATUS_QUEUE_FULL n) a i
  | .f_LSP_CH_STATUS_STANDSTILL => ∃ n : Nat, inFld (F.LSP_CH_STATUS_STANDSTILL n) a i
  | .f_LSP_CH_STATUS_START_LATE => ∃ n : Nat, inFld (F.LSP_CH_STATUS_START_LATE n) a i
  | .f_LSP_CH_STATUS_STATE => ∃ n : Nat, inFld (F.LSP_CH_STATUS_STATE n) a i
  | .f_LSP_CH_STATUS_STOP_TMO => ∃ n : Nat, inFld (F.LSP_CH_STATUS_STOP_TMO n) a i
  | .f_LSP_CH_STATUS_STRETCHED => ∃ n : Nat, inFld (F.LSP_CH_STATUS_STRETCHED n) a i
  | .f_LSP_DL_STATUS_S => ∃ n : Nat, inFld (F.LSP_DL_STATUS_S n) a i
  | .f_LSP_EN_STATUS_BUSY => inFld F.LSP_EN_STATUS_BUSY a i
  | .f_LSP_EN_STATUS_CANCELLED => inFld F.LSP_EN_STATUS_CANCELLED a i
  | .f_LSP_EN_STATUS_LAST => inFld F.LSP_EN_STATUS_LAST a i
  | .f_LSP_EN_STATUS_SKIPPED => inFld F.LSP_EN_STATUS_SKIPPED a i
  | .f_LSP_GRP_STATUS_CMD_REFUSED => ∃ n : Nat, inFld (F.LSP_GRP_STATUS_CMD_REFUSED n) a i
  | .f_LSP_GRP_STATUS_GROUP_LIMITED => ∃ n : Nat, inFld (F.LSP_GRP_STATUS_GROUP_LIMITED n) a i
  | .f_LSP_GRP_STATUS_LEADER => ∃ n : Nat, inFld (F.LSP_GRP_STATUS_LEADER n) a i
  | .f_LSP_GRP_STATUS_MEMBERS => ∃ n : Nat, inFld (F.LSP_GRP_STATUS_MEMBERS n) a i
  | .f_LSP_GRP_STATUS_PATH_BROKEN => ∃ n : Nat, inFld (F.LSP_GRP_STATUS_PATH_BROKEN n) a i
  | .f_LSP_GRP_STATUS_STATE => ∃ n : Nat, inFld (F.LSP_GRP_STATUS_STATE n) a i
  | .f_LSP_STATUS_FAULT => inFld F.LSP_STATUS_FAULT a i
  | .f_LSP_STATUS_RUNNING => inFld F.LSP_STATUS_RUNNING a i
  | .f_MEM_ECC_CNT_IPM => inFld F.MEM_ECC_CNT_IPM a i
  | .f_MEM_ECC_CNT_SRAM => inFld F.MEM_ECC_CNT_SRAM a i
  | .f_MEM_STAGE_SEG => inFld F.MEM_STAGE_SEG a i
  | .f_MEM_STAGE_SOUND => inFld F.MEM_STAGE_SOUND a i
  | .f_MEM_STATUS_CFG_REFUSED => inFld F.MEM_STATUS_CFG_REFUSED a i
  | .f_MEM_STATUS_IPM_CORR => inFld F.MEM_STATUS_IPM_CORR a i
  | .f_MEM_STATUS_POISONED => inFld F.MEM_STATUS_POISONED a i
  | .f_MEM_STATUS_SRAM_CORR => inFld F.MEM_STATUS_SRAM_CORR a i
  | .f_MEM_STATUS_STAGE_FAULT => inFld F.MEM_STATUS_STAGE_FAULT a i
  | .f_MGT_AX_TH_LIFE_USED_LIFE_USED => ∃ n : Nat, inFld (F.MGT_AX_TH_LIFE_USED_LIFE_USED n) a i
  | .f_MGT_AX_TH_PLAN_STATE_CAP_STEPS => ∃ n : Nat, inFld (F.MGT_AX_TH_PLAN_STATE_CAP_STEPS n) a i
  | .f_MGT_AX_TH_PLAN_STATE_FREQ_CHANGED => ∃ n : Nat, inFld (F.MGT_AX_TH_PLAN_STATE_FREQ_CHANGED n) a i
  | .f_MGT_AX_TH_PLAN_STATE_FREQ_STEPS => ∃ n : Nat, inFld (F.MGT_AX_TH_PLAN_STATE_FREQ_STEPS n) a i
  | .f_MGT_AX_TH_PLAN_STATE_GUARD_STEPS => ∃ n : Nat, inFld (F.MGT_AX_TH_PLAN_STATE_GUARD_STEPS n) a i
  | .f_MGT_AX_TH_PLAN_STATE_PROPOSAL_OPEN => ∃ n : Nat, inFld (F.MGT_AX_TH_PLAN_STATE_PROPOSAL_OPEN n) a i
  | .f_MGT_AX_TH_TJ_PEAK_H_TJ_PEAK_H => ∃ n : Nat, inFld (F.MGT_AX_TH_TJ_PEAK_H_TJ_PEAK_H n) a i
  | .f_MGT_AX_TH_TJ_TJ => ∃ n : Nat, inFld (F.MGT_AX_TH_TJ_TJ n) a i
  | .f_MGT_OD_MB_CTL_BUSY => ∃ n : Nat, inFld (F.MGT_OD_MB_CTL_BUSY n) a i
  | .f_MGT_OD_MB_CTL_DONE => ∃ n : Nat, inFld (F.MGT_OD_MB_CTL_DONE n) a i
  | .f_MGT_STATUS_AVS_FAULT => inFld F.MGT_STATUS_AVS_FAULT a i
  | .f_MGT_STATUS_FLASH_FAULT => inFld F.MGT_STATUS_FLASH_FAULT a i
  | .f_MGT_STATUS_MARGIN_DUE => inFld F.MGT_STATUS_MARGIN_DUE a i
  | .f_MGT_STATUS_RECOVERY => inFld F.MGT_STATUS_RECOVERY a i
  | .f_MGT_STATUS_SLOT => inFld F.MGT_STATUS_SLOT a i
  | .f_MGT_STATUS_TRIAL => inFld F.MGT_STATUS_TRIAL a i
  | .f_MGT_STATUS_VCORE => inFld F.MGT_STATUS_VCORE a i
  | .f_MSEC_STRANGER_COUNT => ∃ n : Nat, inFld (F.MSEC_STRANGER_COUNT n) a i
  | .f_MSEC_STRANGER_REASON => ∃ n : Nat, inFld (F.MSEC_STRANGER_REASON n) a i
  | .f_POOL_C_CFG_COUNT => ∃ n : Nat, inFld (F.POOL_C_CFG_COUNT n) a i
  | .f_POOL_C_STATUS_FREE => ∃ n : Nat, inFld (F.POOL_C_STATUS_FREE n) a i
  | .f_POOL_LAST_INFO_HOLDER => inFld F.POOL_LAST_INFO_HOLDER a i
  | .f_POOL_LAST_INFO_OWNER => inFld F.POOL_LAST_INFO_OWNER a i
  | .f_POOL_LAST_INFO_STATUS => inFld F.POOL_LAST_INFO_STATUS a i
  | .f_POOL_OD_QUOTA01_CLASS_HI => ∃ n : Nat, inFld (F.POOL_OD_QUOTA01_CLASS_HI n) a i
  | .f_POOL_OD_QUOTA01_CLASS_LO => ∃ n : Nat, inFld (F.POOL_OD_QUOTA01_CLASS_LO n) a i
  | .f_POOL_OD_QUOTA23_CLASS_HI => ∃ n : Nat, inFld (F.POOL_OD_QUOTA23_CLASS_HI n) a i
  | .f_POOL_OD_QUOTA23_CLASS_LO => ∃ n : Nat, inFld (F.POOL_OD_QUOTA23_CLASS_LO n) a i
  | .f_POOL_OD_USE01_CLASS_HI => ∃ n : Nat, inFld (F.POOL_OD_USE01_CLASS_HI n) a i
  | .f_POOL_OD_USE01_CLASS_LO => ∃ n : Nat, inFld (F.POOL_OD_USE01_CLASS_LO n) a i
  | .f_POOL_OD_USE23_CLASS_HI => ∃ n : Nat, inFld (F.POOL_OD_USE23_CLASS_HI n) a i
  | .f_POOL_OD_USE23_CLASS_LO => ∃ n : Nat, inFld (F.POOL_OD_USE23_CLASS_LO n) a i
  | .f_PWR_STATUS_ENTRY_REFUSED => inFld F.PWR_STATUS_ENTRY_REFUSED a i
  | .f_PWR_STATUS_FROM_DORMANT => inFld F.PWR_STATUS_FROM_DORMANT a i
  | .f_PWR_STATUS_REASON => inFld F.PWR_STATUS_REASON a i
  | .f_PWR_STATUS_WAKE_SRC => inFld F.PWR_STATUS_WAKE_SRC a i
  | .f_RST_CAUSE_LAST => inFld F.RST_CAUSE_LAST a i
  | .f_RST_CAUSE_SRC => inFld F.RST_CAUSE_SRC a i
  | .f_RST_LOCKUP_CAMELLIA => inFld F.RST_LOCKUP_CAMELLIA a i
  | .f_RST_LOCKUP_CORE => inFld F.RST_LOCKUP_CORE a i
  | .f_RST_WDOG_TIMEOUT => inFld F.RST_WDOG_TIMEOUT a i
  | .f_SAF_BRK_STATUS_BS => ∃ n : Nat, inFld (F.SAF_BRK_STATUS_BS n) a i
  | .f_SAF_BRK_STATUS_BT_BLOCKED => ∃ n : Nat, inFld (F.SAF_BRK_STATUS_BT_BLOCKED n) a i
  | .f_SAF_BRK_STATUS_BT_DUE => ∃ n : Nat, inFld (F.SAF_BRK_STATUS_BT_DUE n) a i
  | .f_SAF_BRK_STATUS_FAULT => ∃ n : Nat, inFld (F.SAF_BRK_STATUS_FAULT n) a i
  | .f_SAF_BRK_STATUS_FAULT_WHY => ∃ n : Nat, inFld (F.SAF_BRK_STATUS_FAULT_WHY n) a i
  | .f_SAF_BRK_STATUS_RELEASED => ∃ n : Nat, inFld (F.SAF_BRK_STATUS_RELEASED n) a i
  | .f_SAF_BT_RESULT_AXIS => inFld F.SAF_BT_RESULT_AXIS a i
  | .f_SAF_BT_RESULT_MOVED => inFld F.SAF_BT_RESULT_MOVED a i
  | .f_SAF_BT_RESULT_REASON => inFld F.SAF_BT_RESULT_REASON a i
  | .f_SAF_BT_RESULT_RESULT => inFld F.SAF_BT_RESULT_RESULT a i
  | .f_SAF_BT_RESULT_STATE => inFld F.SAF_BT_RESULT_STATE a i
  | .f_SAF_LOCK_AXIS => inFld F.SAF_LOCK_AXIS a i
  | .f_SAF_LOCK_CAUSE => inFld F.SAF_LOCK_CAUSE a i
  | .f_SAF_LOCK_CAUSE_ACTIVE => inFld F.SAF_LOCK_CAUSE_ACTIVE a i
  | .f_SAF_LOCK_DEVICE => inFld F.SAF_LOCK_DEVICE a i
  | .f_SAF_LOCK_UNLOCK_EXPIRED => inFld F.SAF_LOCK_UNLOCK_EXPIRED a i
  | .f_SAF_LOCK_UNLOCK_REFUSED => inFld F.SAF_LOCK_UNLOCK_REFUSED a i
  | .f_SAF_LOCK_UNLOCK_WAIT => inFld F.SAF_LOCK_UNLOCK_WAIT a i
  | .f_SAF_PSET_STATUS_REASON => inFld F.SAF_PSET_STATUS_REASON a i
  | .f_SAF_PSET_STATUS_RECORDS => inFld F.SAF_PSET_STATUS_RECORDS a i
  | .f_SAF_PSET_STATUS_STATE => inFld F.SAF_PSET_STATUS_STATE a i
  | .f_SAF_SI_STATUS_DEMAND => inFld F.SAF_SI_STATUS_DEMAND a i
  | .f_SAF_SI_STATUS_DISC_FAULT => inFld F.SAF_SI_STATUS_DISC_FAULT a i
  | .f_SAF_SI_STATUS_DISC_RUN => inFld F.SAF_SI_STATUS_DISC_RUN a i
  | .f_SAF_SI_STATUS_SRESET => inFld F.SAF_SI_STATUS_SRESET a i
  | .f_SAF_SI_STATUS_SRESET_STUCK => inFld F.SAF_SI_STATUS_SRESET_STUCK a i
  | .f_SAF_STO_ASSERTED => inFld F.SAF_STO_ASSERTED a i
  | .f_SAF_STO_DEMAND => inFld F.SAF_STO_DEMAND a i
  | .f_SAF_STO_RESTART_WAIT => inFld F.SAF_STO_RESTART_WAIT a i
  | .f_SAF_STO_SS1_RUN => inFld F.SAF_STO_SS1_RUN a i
  | .f_TB_ADJ_ADJ => inFld F.TB_ADJ_ADJ a i
  | .f_TB_CTRL_GM_POLICY => inFld F.TB_CTRL_GM_POLICY a i
  | .f_TB_CTRL_PROTOCOL => inFld F.TB_CTRL_PROTOCOL a i
  | .f_TB_CTRL_ROLE => inFld F.TB_CTRL_ROLE a i
  | .f_TB_CTRL_SERVO_EN => inFld F.TB_CTRL_SERVO_EN a i
  | .f_TB_CTRL_STEP_MODE => inFld F.TB_CTRL_STEP_MODE a i
  | .f_TB_CTRL_TICK_SRC => inFld F.TB_CTRL_TICK_SRC a i
  | .f_TB_CTRL_TRANSPORT => inFld F.TB_CTRL_TRANSPORT a i
  | .f_TB_GM_CTRL_HOLDOFF => inFld F.TB_GM_CTRL_HOLDOFF a i
  | .f_TB_GM_CTRL_SWITCH_TMO => inFld F.TB_GM_CTRL_SWITCH_TMO a i
  | .f_TB_GM_LOG_INFO_CAUSE => inFld F.TB_GM_LOG_INFO_CAUSE a i
  | .f_TB_GM_LOG_INFO_DURATION => inFld F.TB_GM_LOG_INFO_DURATION a i
  | .f_TB_GM_LOG_INFO_TIMED_OUT => inFld F.TB_GM_LOG_INFO_TIMED_OUT a i
  | .f_TB_OFFSET_E => inFld F.TB_OFFSET_E a i
  | .f_TB_STATUS_ADJ_CLAMPED => inFld F.TB_STATUS_ADJ_CLAMPED a i
  | .f_TB_STATUS_BETTER_GM_PENDING => inFld F.TB_STATUS_BETTER_GM_PENDING a i
  | .f_TB_STATUS_CMD_REFUSED => inFld F.TB_STATUS_CMD_REFUSED a i
  | .f_TB_STATUS_HOLDOFF => inFld F.TB_STATUS_HOLDOFF a i
  | .f_TB_STATUS_SERVO_STATE => inFld F.TB_STATUS_SERVO_STATE a i
  | .f_TB_STATUS_STEPPED => inFld F.TB_STATUS_STEPPED a i
  | .f_TB_STATUS_SWITCHING => inFld F.TB_STATUS_SWITCHING a i
  | .f_TB_STATUS_TICK_SRC_REFUSED => inFld F.TB_STATUS_TICK_SRC_REFUSED a i
  | .f_TB_STATUS_TIME_VALID => inFld F.TB_STATUS_TIME_VALID a i
  | .f_TB_STATUS_TORN => inFld F.TB_STATUS_TORN a i
  | .f_TB_UTC_FROM_ANNOUNCE => inFld F.TB_UTC_FROM_ANNOUNCE a i
  | .f_TB_UTC_LEAP59 => inFld F.TB_UTC_LEAP59 a i
  | .f_TB_UTC_LEAP61 => inFld F.TB_UTC_LEAP61 a i
  | .f_TB_UTC_OFFSET => inFld F.TB_UTC_OFFSET a i
  | .f_TB_UTC_VALID => inFld F.TB_UTC_VALID a i
  | .f_TSN_COUNT_TOO_LONG => ∃ n : Nat, inFld (F.TSN_COUNT_TOO_LONG n) a i
  | .f_TSN_CTL_LEN => ∃ n : Nat, inFld (F.TSN_CTL_LEN n) a i
  | .f_TSN_STATUS_CONFIG_ERR => ∃ n : Nat, inFld (F.TSN_STATUS_CONFIG_ERR n) a i
  | .f_TSN_STATUS_OPER_ACTIVE => ∃ n : Nat, inFld (F.TSN_STATUS_OPER_ACTIVE n) a i
  | .f_TSN_STATUS_OPER_LEN => ∃ n : Nat, inFld (F.TSN_STATUS_OPER_LEN n) a i
  | .f_TSN_STATUS_PENDING => ∃ n : Nat, inFld (F.TSN_STATUS_PENDING n) a i
  | .f_TSN_STATUS_STEP_RESYNC => ∃ n : Nat, inFld (F.TSN_STATUS_STEP_RESYNC n) a i
  | .w_areaWord => ∃ n m : Nat, a = areaWord n m
  | .w_auxWord => ∃ n m : Nat, a = auxWord n m
  | .w_axisWord => ∃ n m : Nat, a = axisWord n m
  | .w_canEb => ∃ n m k : Nat, a = canEb n m k
  | .w_canRx => ∃ n m k j : Nat, a = canRx n m k j
  | .w_canTt => ∃ n m k : Nat, a = canTt n m k
  | .w_canWord => ∃ n m : Nat, a = canWord n m
  | .w_cmpField => ∃ n m : Nat, inFld (cmpField n m) a i
  | .w_cqCfg => ∃ n m : Nat, a = cqCfg n m
  | .w_cqSeq => ∃ n m : Nat, a = cqSeq n m
  | .w_cqStatus => ∃ n m : Nat, a = cqStatus n m
  | .w_dtField => ∃ n m : Nat, inFld (dtField n m) a i
  | .w_exWord => ∃ n m : Nat, a = exWord n m
  | .w_measField => ∃ n m : Nat, inFld (measField n m) a i
  | .w_missField => ∃ n m : Nat, inFld (missField n m) a i
  | .w_missFlag => ∃ n m : Nat, inFld (missFlag n m) a i
  | .w_pmAddr => ∃ n m : Nat, a = pmAddr n m

/-- Every bit of the register window reads the same in both states but those of the slots listed. -/
def sameBitsBut (l : List Slot) (s t : State) : Prop :=
  ∀ a i : Nat, (∀ x ∈ l, ¬ x.has a i) → (t.rd a).getLsbD i = (s.rd a).getLsbD i

/-- The fields and registers that `State.outputsOff` may write. -/
def slotsOutputsOff : List Slot :=
  [.r_AUX_VEL, .f_AUX_BL_DUTY_DUTY, .f_AUX_BL_STATUS_DIRN, .f_AUX_BL_STATUS_I_LIMITED, .f_AUX_BL_STATUS_PHASE,
   .f_AUX_BL_STATUS_SECTOR, .f_AUX_BL_STATUS_ZC_RUN, .f_AUX_CL_ADC_COUNT_DROPPED, .f_AUX_CL_ADC_COUNT_MAX_WAIT,
   .f_AUX_CL_ADC_STATUS_BUSY, .f_AUX_CTL_OUT_EN, .f_AUX_STATUS_STATE, .f_AUX_STATUS_STO_GATED,
   .f_AUX_STP_COUNT_ADAPT_SKIPPED, .f_AUX_STP_COUNT_DROPPED, .f_AUX_STP_OFS_OFS_A, .f_AUX_STP_OFS_OFS_B,
   .f_AX_PWM_CTL_OUT_EN, .f_AX_PWM_STATUS_FXG_OFF, .f_AX_PWM_STATUS_OUT_ACTIVE, .f_AX_PWM_STATUS_STO_GATED,
   .f_SAF_BRK_STATUS_RELEASED, .f_SAF_BT_RESULT_AXIS, .f_SAF_BT_RESULT_MOVED, .f_SAF_BT_RESULT_REASON,
   .f_SAF_BT_RESULT_RESULT, .f_SAF_BT_RESULT_STATE]

/-- The fields and registers that `State.trip` may write. -/
def slotsTrip : List Slot :=
  [.r_AUX_VEL, .f_AUX_BL_DUTY_DUTY, .f_AUX_BL_STATUS_DIRN, .f_AUX_BL_STATUS_I_LIMITED, .f_AUX_BL_STATUS_PHASE,
   .f_AUX_BL_STATUS_SECTOR, .f_AUX_BL_STATUS_ZC_RUN, .f_AUX_CL_ADC_COUNT_DROPPED, .f_AUX_CL_ADC_COUNT_MAX_WAIT,
   .f_AUX_CL_ADC_STATUS_BUSY, .f_AUX_STP_COUNT_ADAPT_SKIPPED, .f_AUX_STP_COUNT_DROPPED, .f_AUX_STP_OFS_OFS_A,
   .f_AUX_STP_OFS_OFS_B, .f_AX_PWM_CTL_OUT_EN, .f_AX_PWM_STATUS_FAULT, .f_AX_PWM_STATUS_FXG_OFF,
   .f_AX_PWM_STATUS_OUT_ACTIVE, .f_AX_PWM_STATUS_STO_GATED, .f_FXG_AX_STATUS_CAUSE, .f_FXG_AX_STATUS_HOLD,
   .f_FXG_AX_STATUS_TRIPS, .f_LSH_FOL_STATUS_STATE, .f_LSP_CH_STATUS_HOMED, .f_LSP_CH_STATUS_HOME_FAIL,
   .f_LSP_CH_STATUS_HOME_REASON, .f_LSP_CH_STATUS_QLEVEL, .f_LSP_CH_STATUS_STATE, .f_SAF_BRK_STATUS_RELEASED,
   .f_SAF_BT_RESULT_AXIS, .f_SAF_BT_RESULT_MOVED, .f_SAF_BT_RESULT_REASON, .f_SAF_BT_RESULT_RESULT,
   .f_SAF_BT_RESULT_STATE, .f_SAF_LOCK_AXIS, .f_SAF_LOCK_UNLOCK_WAIT, .w_axisWord]

/-- The fields and registers that `State.dropLog` may write. -/
def slotsDropLog : List Slot :=
  [.r_EVT_PWF_ADDR, .r_EVT_PWF_STAMP, .f_EVT_PWF_INFO_INITIATOR, .f_EVT_PWF_INFO_REASON, .f_EVT_PWF_STATUS_COUNT,
   .f_EVT_PWF_STATUS_NEWEST]

/-- The fields and registers that `State.chanFault` may write. -/
def slotsChanFault : List Slot :=
  [.r_AUX_VEL, .f_AUX_BL_DUTY_DUTY, .f_AUX_BL_STATUS_DIRN, .f_AUX_BL_STATUS_I_LIMITED, .f_AUX_BL_STATUS_PHASE,
   .f_AUX_BL_STATUS_SECTOR, .f_AUX_BL_STATUS_ZC_RUN, .f_AUX_CL_ADC_COUNT_DROPPED, .f_AUX_CL_ADC_COUNT_MAX_WAIT,
   .f_AUX_CL_ADC_STATUS_BUSY, .f_AUX_STP_COUNT_ADAPT_SKIPPED, .f_AUX_STP_COUNT_DROPPED, .f_AUX_STP_OFS_OFS_A,
   .f_AUX_STP_OFS_OFS_B, .f_LSH_FOL_STATUS_STATE, .f_LSP_CH_STATUS_HOMED, .f_LSP_CH_STATUS_HOME_FAIL,
   .f_LSP_CH_STATUS_HOME_REASON, .f_LSP_CH_STATUS_QLEVEL, .f_LSP_CH_STATUS_STATE, .w_axisWord]

/-- The fields and registers that `State.bldcCheck` may write. -/
def slotsBldcCheck : List Slot :=
  [.r_AUX_VEL, .f_AUX_BL_DUTY_DUTY, .f_AUX_BL_STATUS_DIRN, .f_AUX_BL_STATUS_I_LIMITED, .f_AUX_BL_STATUS_PHASE,
   .f_AUX_BL_STATUS_SECTOR, .f_AUX_BL_STATUS_ZC_RUN, .f_AUX_CL_ADC_COUNT_DROPPED, .f_AUX_CL_ADC_COUNT_MAX_WAIT,
   .f_AUX_CL_ADC_STATUS_BUSY, .f_AUX_STP_COUNT_ADAPT_SKIPPED, .f_AUX_STP_COUNT_DROPPED, .f_AUX_STP_OFS_OFS_A,
   .f_AUX_STP_OFS_OFS_B]

/-- The fields and registers that `State.pushAs` may write. -/
def slotsPushAs : List Slot :=
  [.r_LQ_HEAD_NS, .f_LQ_STATUS_CODE_ERR, .f_LQ_STATUS_COUNT, .f_LQ_STATUS_ORDER_ERR, .f_LQ_STATUS_OVERFLOW,
   .f_LQ_STATUS_TARGET_REFUSED]

/-- The fields and registers that `State.takeCopies` may write. -/
def slotsTakeCopies : List Slot :=
  [.r_HIF_OD_SQ_STATUS, .r_POOL_LAST_REFUSED, .f_HIF_OD_LOST_CPL_COUNT, .f_HIF_OD_SQ_STATUS_RUNNING,
   .f_POOL_LAST_INFO_HOLDER, .f_POOL_LAST_INFO_OWNER, .f_POOL_LAST_INFO_STATUS, .w_cqSeq, .w_cqStatus]

/-- The fields and registers that `State.lockDevice` may write. -/
def slotsLockDevice : List Slot :=
  [.r_AUX_VEL, .r_LSP_EN_REQ0, .r_LSP_EN_REQ1, .f_AUX_BL_DUTY_DUTY, .f_AUX_BL_STATUS_DIRN,
   .f_AUX_BL_STATUS_I_LIMITED, .f_AUX_BL_STATUS_PHASE, .f_AUX_BL_STATUS_SECTOR, .f_AUX_BL_STATUS_ZC_RUN,
   .f_AUX_CL_ADC_COUNT_DROPPED, .f_AUX_CL_ADC_COUNT_MAX_WAIT, .f_AUX_CL_ADC_STATUS_BUSY, .f_AUX_CTL_OUT_EN,
   .f_AUX_STATUS_STATE, .f_AUX_STATUS_STO_GATED, .f_AUX_STP_COUNT_ADAPT_SKIPPED, .f_AUX_STP_COUNT_DROPPED,
   .f_AUX_STP_OFS_OFS_A, .f_AUX_STP_OFS_OFS_B, .f_AX_PWM_CTL_OUT_EN, .f_AX_PWM_STATUS_FXG_OFF,
   .f_AX_PWM_STATUS_OUT_ACTIVE, .f_AX_PWM_STATUS_STO_GATED, .f_GLB_BCH_STATUS_ON, .f_LSP_EN_STATUS_BUSY,
   .f_LSP_EN_STATUS_CANCELLED, .f_SAF_BRK_STATUS_RELEASED, .f_SAF_BT_RESULT_AXIS, .f_SAF_BT_RESULT_MOVED,
   .f_SAF_BT_RESULT_REASON, .f_SAF_BT_RESULT_RESULT, .f_SAF_BT_RESULT_STATE, .f_SAF_LOCK_CAUSE,
   .f_SAF_LOCK_CAUSE_ACTIVE, .f_SAF_LOCK_DEVICE, .f_SAF_LOCK_UNLOCK_WAIT, .f_SAF_STO_ASSERTED, .f_SAF_STO_DEMAND]

/-- The fields and registers that `State.setServo` may write. -/
def slotsSetServo : List Slot :=
  [.r_LSH_PRESENT, .f_LSH_JOIN_STATUS_COMPLETE, .f_LSH_JOIN_STATUS_JOINING, .f_LSH_JOIN_STATUS_PRESENT,
   .f_TB_STATUS_SERVO_STATE]

/-- The fields and registers that `State.refreshAxis` may write. -/
def slotsRefreshAxis : List Slot :=
  [.f_AX_PWM_CTL_OUT_EN, .f_AX_PWM_STATUS_FXG_OFF, .f_AX_PWM_STATUS_OUT_ACTIVE, .f_AX_PWM_STATUS_STO_GATED,
   .f_SAF_BRK_STATUS_RELEASED, .f_SAF_BT_RESULT_AXIS, .f_SAF_BT_RESULT_MOVED, .f_SAF_BT_RESULT_REASON,
   .f_SAF_BT_RESULT_RESULT, .f_SAF_BT_RESULT_STATE]

/-- The fields and registers that `State.dmaHaltAt` may write. -/
def slotsDmaHaltAt : List Slot :=
  [.r_DMA_CSUM, .r_DMA_ERR_ADDR_HI, .r_DMA_ERR_ADDR_LO, .f_DMA_STATUS_BUSY, .f_DMA_STATUS_ERR_DIR,
   .f_DMA_STATUS_HALTED, .f_DMA_STATUS_REASON]

/-- The fields and registers that `State.judgeInput` may write. -/
def slotsJudgeInput : List Slot :=
  [.r_FIO_BS_LEVEL, .r_FIO_FI_LEVEL, .r_FIO_FI_VALID, .r_FIO_FI_WB, .r_FIO_FX_IN, .f_FIO_CH_STATUS_VALID,
   .f_SAF_BRK_STATUS_BS]

/-- The fields and registers that `State.evalChan` may write. -/
def slotsEvalChan : List Slot :=
  [.r_AUX_VEL, .r_LSH_FOL_F_ORG_HI, .r_LSH_FOL_F_ORG_LO, .r_LSH_FOL_M_ORG_HI, .r_LSH_FOL_M_ORG_LO, .r_LSH_FOL_PH,
   .r_LSH_FOL_REG_CORR, .r_LSH_FOL_X_ORG_HI, .r_LSH_FOL_X_ORG_LO, .r_LSP_CH_AREF, .r_LSP_CH_PREF_HI,
   .r_LSP_CH_PREF_LO, .r_LSP_CH_VREF, .f_AUX_BL_DUTY_DUTY, .f_AUX_BL_STATUS_DIRN, .f_AUX_BL_STATUS_I_LIMITED,
   .f_AUX_BL_STATUS_PHASE, .f_AUX_BL_STATUS_SECTOR, .f_AUX_BL_STATUS_ZC_RUN, .f_AUX_CL_ADC_COUNT_DROPPED,
   .f_AUX_CL_ADC_COUNT_MAX_WAIT, .f_AUX_CL_ADC_STATUS_BUSY, .f_AUX_CTL_OUT_EN, .f_AUX_STATUS_STATE,
   .f_AUX_STATUS_STO_GATED, .f_AUX_STP_COUNT_ADAPT_SKIPPED, .f_AUX_STP_COUNT_DROPPED, .f_AUX_STP_OFS_OFS_A,
   .f_AUX_STP_OFS_OFS_B, .f_AX_PWM_CTL_OUT_EN, .f_AX_PWM_STATUS_FXG_OFF, .f_AX_PWM_STATUS_OUT_ACTIVE,
   .f_AX_PWM_STATUS_STO_GATED, .f_LSH_FOL_CFG_TABLE, .f_LSH_FOL_STATUS_CAM_SWITCHED, .f_LSH_FOL_STATUS_CMD_REFUSED,
   .f_LSH_FOL_STATUS_PH_MOVING, .f_LSH_FOL_STATUS_STATE, .f_LSH_SH_STATUS_STATE, .f_LSP_CH_STATUS_AT_TARGET,
   .f_LSP_CH_STATUS_DECEL_KEPT, .f_LSP_CH_STATUS_HOLD, .f_LSP_CH_STATUS_HOMED, .f_LSP_CH_STATUS_HOME_FAIL,
   .f_LSP_CH_STATUS_HOME_REASON, .f_LSP_CH_STATUS_LIM_BOTH, .f_LSP_CH_STATUS_LIM_NEG, .f_LSP_CH_STATUS_LIM_POS,
   .f_LSP_CH_STATUS_QLEVEL, .f_LSP_CH_STATUS_STANDSTILL, .f_LSP_CH_STATUS_START_LATE, .f_LSP_CH_STATUS_STATE,
   .f_LSP_CH_STATUS_STRETCHED, .f_LSP_DL_STATUS_S, .f_LSP_GRP_STATUS_GROUP_LIMITED, .f_LSP_GRP_STATUS_PATH_BROKEN,
   .f_LSP_GRP_STATUS_STATE, .f_SAF_BRK_STATUS_RELEASED, .f_SAF_BT_RESULT_AXIS, .f_SAF_BT_RESULT_MOVED,
   .f_SAF_BT_RESULT_REASON, .f_SAF_BT_RESULT_RESULT, .f_SAF_BT_RESULT_STATE, .w_axisWord, .w_exWord]

/-- The fields and registers that `State.receiveSegment` may write. -/
def slotsReceiveSegment : List Slot :=
  [.r_LQ_HEAD_NS, .r_LSH_SH_SEQ, .f_CLK_TRIM_MG_TRIM, .f_LQ_CANCEL_CNT_COUNT, .f_LQ_STATUS_CODE_ERR,
   .f_LQ_STATUS_COUNT, .f_LQ_STATUS_ORDER_ERR, .f_LQ_STATUS_OVERFLOW, .f_LQ_STATUS_TARGET_REFUSED,
   .f_LSH_CSW_STATUS_CANCELLED, .f_LSH_CSW_STATUS_REVERSED, .f_LSH_SH_COUNT_DIVERGED, .f_LSH_SH_COUNT_DROPPED,
   .f_LSH_SH_STATUS_DIVERGE, .f_LSH_SH_STATUS_LATE_SEG, .f_LSH_SH_STATUS_MISSING, .f_LSH_SH_STATUS_STATE,
   .f_LSH_SH_STATUS_SWITCHED, .f_LSH_SH_STATUS_USED_MASTER, .f_LSH_STATUS_LOST]

/-- The fields and registers that `State.kick` may write. -/
def slotsKick : List Slot :=
  [.r_ETH_SLOT_STAMP, .f_ETH_COUNT_A_LO, .f_ETH_SLOT_STATUS_DELAY, .f_ETH_SLOT_STATUS_LATE, .f_TSN_COUNT_TOO_LONG]

/-- The fields and registers that `State.setPrb` may write. -/
def slotsSetPrb : List Slot :=
  [.r_GLB_PRB_POS_HI, .r_GLB_PRB_POS_LO, .r_GLB_PRB_STAMP, .f_GLB_PRB_FLAGS_EDGE, .f_GLB_PRB_FLAGS_EXTRAP,
   .f_GLB_PRB_FLAGS_POS_VALID, .f_GLB_PRB_STATUS_LEVEL]

/-- The fields and registers that `State.finishDesc` may write. -/
def slotsFinishDesc : List Slot :=
  [.r_HIF_OD_SQ_STATUS, .f_HIF_OD_LOST_CPL_COUNT, .f_HIF_OD_SQ_STATUS_RUNNING, .w_cqSeq, .w_cqStatus]

/-- The fields and registers that `State.refuseHandle` may write. -/
def slotsRefuseHandle : List Slot :=
  [.r_POOL_LAST_REFUSED, .f_POOL_LAST_INFO_HOLDER, .f_POOL_LAST_INFO_OWNER, .f_POOL_LAST_INFO_STATUS]

/-- The fields and registers of the window that a command may write, each at any of its numbers; every other bit of the
window it leaves as it was. -/
def mayWrite (i : Instr) : List Slot :=
  match i with
  | .registerWrite _ _ _ | .chipLevelFault _ _ | .sequencerCoreFault _ | .regBlock _ _ _ _ | .wideReadLo _ _
  | .wideReadHi _ _ | .hifTornWrite _ _ | .functionLevelReset _ | .sresetPulse | .return_ _ | .marigoldReady
  | .marigoldTimeout | .snowdropStop | .powerOnReset | .brownOutReset | .pinReset | .watchdogReset
  | .softwareReset _ _ | .camelliaLockup | .pcieFundamentalReset | .ledgerAcquire _ _ _ _ | .ledgerRelease _ _ _
  | .ledgerList _ _ _ | .ledgerWithdraw _ | .imageStage _ _ | .imageActivate _ _ _ | .imageConfirm _ _
  | .policyStage _ _ _ | .journalRead _ _ _ _ _ | .lifeRead _ _ _ | .sensorRead _ _ | .planList _ _ _
  | .sramMarginTest _ | .testLogicReset _ | .dbgLock | .dbgAccess _ _ _ | .coreResume _ | .dbgReset
  | .debugSessionExpiry | .registerRead _ _ | .mgtMsg _ _ _ _ _ _ | .badTypeMessage _ _ _ | .fwVerified
  | .psetLoaded _ =>
    [.any]
  | .cellFault _ =>
    slotsOutputsOff ++ slotsChanFault ++ slotsTakeCopies ++ slotsDmaHaltAt ++ slotsJudgeInput ++ [.r_FIO_OUT_FAULT, .r_FIO_OUT_RB, .f_AUX_STATUS_FAULT, .f_AX_PWM_STATUS_FAULT, .f_CAN_STATUS_FAULT,
       .f_CAP_STATUS_FAULT, .f_FIO_CH_STATUS_FAULT, .f_FIO_CH_STATUS_LEVEL, .w_canWord]
  | .cellSafeStateTimeout _ =>
    slotsOutputsOff ++ slotsChanFault ++ slotsPushAs ++ slotsTakeCopies ++ slotsLockDevice ++ slotsDmaHaltAt ++ [.r_FIO_OUT_RB, .f_CAN_STATUS_FAULT, .f_FIO_CH_STATUS_LEVEL, .f_FIO_STATUS_BRIDGE_OK, .f_GLB_CHIP_FAULT_CAUSE,
       .f_GLB_CHIP_FAULT_REGION, .f_GLB_CHIP_FAULT_TIME_HI, .f_GLB_REGION_STATE_CLUSTER_FAULT_SEEN,
       .f_GLB_REGION_STATE_ISOLATED, .f_GLB_REGION_STATE_REGION_FAULT, .f_LQ_CANCEL_CNT_COUNT,
       .f_LSH_CSW_STATUS_CANCELLED, .f_LSH_CSW_STATUS_STATE, .f_LSH_REG_STATUS_NEW, .f_LSH_REG_STATUS_OPEN,
       .f_LSH_REG_STATUS_RESULT, .f_LSH_SH_STATUS_STATE, .f_LSH_STATUS_LOST, .f_LSH_STATUS_LOST_SEEN,
       .f_LSP_GRP_STATUS_STATE, .w_canWord]
  | .clusterFault _ =>
    slotsOutputsOff ++ slotsChanFault ++ slotsTakeCopies ++ slotsDmaHaltAt ++ [.f_AUX_CL_ADC_STATUS_FAULT, .f_CAN_STATUS_FAULT, .f_GLB_REGION_STATE_CLUSTER_FAULT_SEEN,
       .f_LSP_GRP_STATUS_STATE, .f_MEM_STATUS_STAGE_FAULT, .w_canWord]
  | .clusterFenceTimeout _ | .regionFault _ | .mempllTimeout =>
    slotsOutputsOff ++ slotsChanFault ++ slotsPushAs ++ slotsLockDevice ++ slotsFinishDesc ++ [.r_FIO_OUT_RB, .f_FIO_CH_STATUS_LEVEL, .f_FIO_STATUS_BRIDGE_OK, .f_GLB_CHIP_FAULT_CAUSE,
       .f_GLB_CHIP_FAULT_REGION, .f_GLB_CHIP_FAULT_TIME_HI, .f_GLB_REGION_STATE_ISOLATED,
       .f_GLB_REGION_STATE_REGION_FAULT, .f_LQ_CANCEL_CNT_COUNT, .f_LSH_CSW_STATUS_CANCELLED,
       .f_LSH_CSW_STATUS_STATE, .f_LSH_REG_STATUS_NEW, .f_LSH_REG_STATUS_OPEN, .f_LSH_REG_STATUS_RESULT,
       .f_LSH_SH_STATUS_STATE, .f_LSH_STATUS_LOST, .f_LSH_STATUS_LOST_SEEN, .f_LSP_GRP_STATUS_STATE]
  | .isolationConfirmTimeout _ | .topFabricTimeout =>
    slotsOutputsOff ++ [.r_FIO_OUT_RB, .r_LSP_EN_REQ0, .r_LSP_EN_REQ1, .f_FIO_CH_STATUS_LEVEL, .f_GLB_BCH_STATUS_ON,
       .f_GLB_CHIP_FAULT_CAUSE, .f_GLB_CHIP_FAULT_REGION, .f_GLB_CHIP_FAULT_TIME_HI, .f_LSP_EN_STATUS_BUSY,
       .f_LSP_EN_STATUS_CANCELLED, .f_SAF_STO_ASSERTED, .f_SAF_STO_DEMAND]
  | .tbCtrlWrite _ _ =>
    slotsDropLog ++ slotsSetServo ++ [.f_TB_CTRL_GM_POLICY, .f_TB_CTRL_PROTOCOL, .f_TB_CTRL_ROLE, .f_TB_CTRL_SERVO_EN, .f_TB_CTRL_STEP_MODE,
       .f_TB_CTRL_TICK_SRC, .f_TB_CTRL_TRANSPORT, .f_TB_STATUS_CMD_REFUSED, .f_TB_STATUS_TICK_SRC_REFUSED]
  | .servoEn _ _ =>
    slotsDropLog ++ slotsSetServo ++ [.f_TB_CTRL_SERVO_EN]
  | .tickSrcChange _ _ =>
    slotsDropLog ++ [.f_TB_CTRL_TICK_SRC, .f_TB_STATUS_TICK_SRC_REFUSED]
  | .tbTimeShadowFill _ | .captureSample _ | .swEvent _ | .captureTrigger _ | .pwmCompareCrossing _ _ _
  | .pwmDeadTimeEnd _ _ _ _ | .csStampRead _ _ | .tlmStampRead _ _ | .ssiIdleEnd _ | .fbStampRead _ _ | .xNop _
  | .add _ _ _ _ | .sub _ _ _ _ | .adds _ _ _ _ | .subs _ _ _ _ | .and _ _ _ _ | .or _ _ _ _ | .xor _ _ _ _
  | .shl _ _ _ _ | .shr _ _ _ _ | .shra _ _ _ _ | .min _ _ _ _ | .max _ _ _ _ | .abs _ _ _ | .neg _ _ _ | .movi _ _ _
  | .movhi _ _ _ | .cmp _ _ _ | .mul _ _ _ _ | .mac _ _ _ _ | .msu _ _ _ _ | .mullo _ _ _ _ | .ald _ _ _ _
  | .aadd _ _ _ _ | .asub _ _ _ _ | .amov _ _ _ _ | .ext _ _ _ _ | .extl _ _ _ | .divs _ _ _ _ | .tsin _ _ _
  | .tcos _ _ _ | .rsq _ _ _ | .statusReceived _ _ | .irqHoldEnd _ _ | .strangerHoldEnd _ | .fdbAgeing _ | .darkTest _
  | .btSettleEnd | .sensorSample _ | .flashRecovered | .trimDriftCheck | .flashRefresh | .otpRefresh
  | .lifeCounterSave | .calendarSet | .extest | .idcode | .samplePreload _ | .clamp | .highz | .bypass _ | .dbgChal
  | .dbgCert _ | .dbgStatus | .coreSingleStep _ | .coreReadRegister _ _ | .coreWriteRegister _ _ _
  | .coreReadMemory _ _ | .coreWriteMemory _ _ _ | .debugRefusalPeriodEnd | .ptpTransmit _ _ | .logCompaction =>
    []
  | .tbShadowRead _ _ =>
    [.f_TB_STATUS_TORN]
  | .announceReceived _ =>
    slotsSetServo ++ [.f_TB_STATUS_BETTER_GM_PENDING, .f_TB_STATUS_HOLDOFF, .f_TB_STATUS_SWITCHING, .f_TB_UTC_LEAP59,
       .f_TB_UTC_LEAP61, .f_TB_UTC_OFFSET, .f_TB_UTC_VALID]
  | .announceTimeout _ | .gmHoldoffEnd =>
    slotsSetServo ++ [.f_TB_STATUS_BETTER_GM_PENDING, .f_TB_STATUS_HOLDOFF, .f_TB_STATUS_SWITCHING]
  | .syncReceived _ _ _ _ _ _ =>
    slotsSetServo ++ [.r_TB_GM_LOG_END, .r_TB_GM_LOG_NEW_HI, .r_TB_GM_LOG_NEW_LO, .r_TB_GM_LOG_OLD_HI, .r_TB_GM_LOG_OLD_LO,
       .f_TB_ADJ_ADJ, .f_TB_GM_LOG_INFO_CAUSE, .f_TB_GM_LOG_INFO_DURATION, .f_TB_GM_LOG_INFO_TIMED_OUT,
       .f_TB_OFFSET_E, .f_TB_STATUS_ADJ_CLAMPED, .f_TB_STATUS_HOLDOFF, .f_TB_STATUS_SWITCHING,
       .f_TB_STATUS_TIME_VALID]
  | .gmSwitchTimeout =>
    [.r_TB_GM_LOG_END, .r_TB_GM_LOG_NEW_HI, .r_TB_GM_LOG_NEW_LO, .r_TB_GM_LOG_OLD_HI, .r_TB_GM_LOG_OLD_LO,
       .f_TB_GM_LOG_INFO_CAUSE, .f_TB_GM_LOG_INFO_DURATION, .f_TB_GM_LOG_INFO_TIMED_OUT, .f_TB_STATUS_HOLDOFF,
       .f_TB_STATUS_SWITCHING]
  | .holdoverEntry =>
    slotsSetServo ++ [.f_TB_ADJ_ADJ, .f_TB_STATUS_ADJ_CLAMPED]
  | .timeStep =>
    slotsOutputsOff ++ slotsChanFault ++ slotsPushAs ++ [.f_LQ_CANCEL_CNT_COUNT, .f_LSH_CSW_STATUS_CANCELLED, .f_LSH_CSW_STATUS_STATE, .f_LSH_REG_STATUS_NEW,
       .f_LSH_REG_STATUS_OPEN, .f_LSH_REG_STATUS_RESULT, .f_LSH_SH_STATUS_STATE, .f_LSH_STATUS_LOST,
       .f_LSH_STATUS_LOST_SEEN, .f_LSH_STATUS_STEP_LOST, .f_LSP_GRP_STATUS_STATE, .f_TB_STATUS_STEPPED]
  | .tbSet _ =>
    slotsDropLog ++ [.f_TB_STATUS_CMD_REFUSED, .f_TB_STATUS_TIME_VALID]
  | .tbStep _ =>
    slotsDropLog ++ [.f_TB_STATUS_CMD_REFUSED]
  | .gmSwitch _ =>
    slotsDropLog ++ slotsSetServo ++ [.f_TB_STATUS_BETTER_GM_PENDING, .f_TB_STATUS_CMD_REFUSED, .f_TB_STATUS_HOLDOFF, .f_TB_STATUS_SWITCHING]
  | .tbAdjWrite _ _ =>
    slotsDropLog ++ [.f_TB_ADJ_ADJ, .f_TB_STATUS_ADJ_CLAMPED, .f_TB_STATUS_CMD_REFUSED]
  | .lqPush _ _ =>
    slotsDropLog ++ slotsPushAs
  | .lqFlush _ _ =>
    slotsDropLog ++ [.r_LQ_HEAD_NS, .f_LQ_STATUS_COUNT]
  | .lqCancel _ _ _ =>
    slotsDropLog ++ slotsPushAs ++ [.f_LQ_CANCEL_CNT_COUNT]
  | .launchDelivery _ =>
    [.r_LQ_HEAD_NS, .f_ETH_STATUS_LAUNCH_OVF, .f_LQ_LAST_LATE_CODE, .f_LQ_LAST_LATE_TAG, .f_LQ_LATE_CNT_DISCARDED,
       .f_LQ_LATE_CNT_LATE, .f_LQ_STATUS_COUNT, .f_LQ_STATUS_DISCARDED, .f_LQ_STATUS_LATE, .f_LQ_STATUS_ORDER_ERR]
  | .queueParityError _ =>
    [.r_LQ_HEAD_NS, .f_LQ_STATUS_COUNT, .f_LQ_STATUS_PARITY]
  | .axisOff _ =>
    slotsRefreshAxis ++ [.f_AX_PWM_STATUS_LAUNCH_OFF]
  | .auxOff _ =>
    slotsBldcCheck ++ [.f_AUX_CTL_OUT_EN, .f_AUX_STATUS_LAUNCH_OFF, .f_AUX_STATUS_STATE, .f_AUX_STATUS_STO_GATED]
  | .fieldOff _ =>
    [.r_FIO_OUT_LOFF, .r_FIO_OUT_RB, .f_FIO_CH_STATUS_LAUNCH_OFF, .f_FIO_CH_STATUS_LEVEL]
  | .axisSample _ =>
    slotsOutputsOff ++ slotsChanFault ++ slotsEvalChan ++ [.f_AE_STATUS_SAMPLE_MISPLACED, .f_AX_CS_STATUS_OVERLAP, .f_AX_FB_COUNT_SSI_FAIL, .f_AX_FB_STATUS_POS2_VALID,
       .f_AX_FB_STATUS_REV_HOLD, .f_AX_FB_STATUS_SSI_BUSY]
  | .dclinkSample _ =>
    [.f_GLB_DL_STATUS_OVERLAP]
  | .auxSample _ | .auxEvalInterval _ =>
    slotsOutputsOff ++ slotsChanFault ++ slotsEvalChan ++ [.f_AUX_STP_STATUS_STEP_SAT]
  | .pwmPeriod _ =>
    slotsTrip ++ [.f_AE_STATUS_REF_USED, .f_AE_STATUS_RUNNING, .f_AX_PWM_PHASE_PHI, .f_AX_PWM_STATUS_ALIGN_SLEW,
       .f_AX_PWM_STATUS_DT_FALLBACK, .f_AX_PWM_STATUS_HALL_INVALID, .f_AX_PWM_STATUS_MASK_IDX,
       .f_AX_PWM_STATUS_PERIOD_IGNORED, .f_AX_PWM_STATUS_PERIOD_RANGE, .f_AX_PWM_STATUS_STATE, .w_dtField]
  | .commutate _ =>
    slotsTrip ++ [.f_AE_STATUS_PHASE_MISMATCH, .f_AX_PWM_SHADOW_SKIPPED, .f_AX_PWM_STATUS_ALIGN_SLEW,
       .f_AX_PWM_STATUS_COMM_IGNORED, .f_AX_PWM_STATUS_DT_FALLBACK, .f_AX_PWM_STATUS_HALL_INVALID,
       .f_AX_PWM_STATUS_MASK_IDX, .f_AX_PWM_STATUS_PERIOD_RANGE, .w_dtField]
  | .fieldWrite _ =>
    [.r_FIO_OUT, .r_FIO_OUT_RB, .f_FIO_CH_STATUS_LEVEL]
  | .ethLaunch _ =>
    slotsOutputsOff ++ slotsChanFault ++ slotsPushAs ++ slotsEvalChan ++ slotsReceiveSegment ++ [.r_ETH_SLOT_STAMP, .f_ETH_COUNT_A_LO, .f_ETH_SLOT_STATUS_DELAY, .f_ETH_SLOT_STATUS_LATE,
       .f_ETH_SLOT_STATUS_LINK_DOWN_DROP, .f_ETH_STATUS_LAUNCH_OVF]
  | .canLaunch _ _ =>
    [.r_CAN_TXB_ABANDON, .r_CAN_TXB_REQ, .f_CAN_STATUS_LAUNCH_MERGED, .w_canEb, .w_canTt]
  | .pwmArm _ _ | .pwmDisarm _ _ | .pwmStart _ _ | .outEn _ _ | .pwmFaultClr _ _ =>
    slotsDropLog ++ slotsRefreshAxis ++ [.r_LSP_EN_REQ0, .r_LSP_EN_REQ1, .f_AX_PWM_CTL_ARM, .f_AX_PWM_CTL_MODE_SEL, .f_AX_PWM_STATUS_CFG_REFUSED,
       .f_AX_PWM_STATUS_FAULT, .f_AX_PWM_STATUS_LAUNCH_OFF, .f_AX_PWM_STATUS_STATE, .f_LSP_EN_STATUS_BUSY]
  | .pwmUpdatePoint _ _ =>
    slotsTrip ++ [.f_AE_STATUS_PHASE_MISMATCH, .f_AX_PWM_SHADOW_SKIPPED, .f_AX_PWM_STATUS_ALIGN_SLEW,
       .f_AX_PWM_STATUS_DT_FALLBACK, .f_AX_PWM_STATUS_HALL_INVALID, .f_AX_PWM_STATUS_MASK_IDX,
       .f_AX_PWM_STATUS_PERIOD_RANGE, .w_dtField]
  | .switchingNodeTransition _ _ _ _ =>
    [.w_measField]
  | .deadTimeFallback _ _ =>
    [.f_AX_PWM_STATUS_DT_FALLBACK, .w_dtField]
  | .alignEvent _ =>
    slotsTrip ++ [.f_AE_STATUS_PHASE_MISMATCH, .f_AX_PWM_SHADOW_SKIPPED, .f_AX_PWM_STATUS_ALIGN_DONE,
       .f_AX_PWM_STATUS_ALIGN_SLEW, .f_AX_PWM_STATUS_COMM_IGNORED, .f_AX_PWM_STATUS_DT_FALLBACK,
       .f_AX_PWM_STATUS_HALL_INVALID, .f_AX_PWM_STATUS_MASK_IDX, .f_AX_PWM_STATUS_PERIOD_RANGE, .w_dtField]
  | .pwmMaskWrite _ _ _ _ =>
    slotsDropLog ++ [.f_AX_PWM_MASK_MASK]
  | .pwmMaskCfgWrite _ _ _ =>
    slotsDropLog ++ [.r_AX_PWM_MASK_CFG, .f_AX_PWM_STATUS_CFG_REFUSED, .f_AX_PWM_STATUS_HALL_INVALID, .f_AX_PWM_STATUS_MASK_IDX]
  | .pwmAlignWrite _ _ _ =>
    slotsDropLog ++ [.r_AX_PWM_ALIGN]
  | .pwmCfgWrite _ _ _ =>
    slotsDropLog ++ slotsRefreshAxis ++ [.f_AX_PWM_CFG_ADAPT_EN, .f_AX_PWM_CFG_CNT_MODE, .f_AX_PWM_CFG_DL_GROUP, .f_AX_PWM_CFG_LOAD,
       .f_AX_PWM_STATUS_CFG_REFUSED, .w_dtField]
  | .pwmDtCfgWrite _ _ _ =>
    slotsDropLog ++ [.f_AX_PWM_DT_CFG_DT_MAX, .f_AX_PWM_DT_CFG_DT_MIN, .f_AX_PWM_STATUS_CFG_REFUSED]
  | .pwmEvtCfgWrite _ _ _ =>
    slotsDropLog ++ [.r_AX_PWM_EVT_CFG, .f_AX_PWM_STATUS_CFG_REFUSED]
  | .bchWindowStart _ =>
    [.f_GLB_BCH_STATUS_LIMIT, .f_GLB_BCH_STATUS_ON_TIME]
  | .bchDutyLimit _ =>
    [.f_GLB_BCH_STATUS_LIMIT, .f_GLB_BCH_STATUS_LIMIT_SEEN, .f_GLB_BCH_STATUS_ON]
  | .bchMinTimeEnd _ =>
    [.f_GLB_BCH_STATUS_ON]
  | .sinc3Result _ _ _ =>
    [.r_AX_CS_IU, .r_AX_CS_IV, .r_AX_CS_IW, .r_AX_CS_STAMP, .f_AX_CS_RAW_A_Q, .f_AX_CS_RAW_B_Q,
       .f_AX_CS_STATUS_DELTA, .f_AX_CS_STATUS_ISAT, .f_AX_CS_STATUS_SAT_A, .f_AX_CS_STATUS_SAT_B,
       .f_AX_CS_STATUS_VALID]
  | .fastResult _ _ _ =>
    slotsTrip ++ [.f_AX_CS_FAST_A_Q2, .f_AX_CS_FAST_B_Q2, .f_AX_CS_STATUS_VALID]
  | .currentInputStuck _ _ =>
    slotsChanFault ++ slotsRefreshAxis ++ [.f_AX_CS_STATUS_STUCK_A, .f_AX_CS_STATUS_STUCK_B, .f_AX_CS_STATUS_VALID, .f_AX_PWM_STATUS_FAULT]
  | .dclinkFreeResult _ _ =>
    slotsTrip ++ [.f_FXG_DL_STATUS_CHECKED, .f_FXG_DL_STATUS_V, .f_GLB_BCH_STATUS_ON, .f_GLB_DL_FREE_Q, .f_GLB_DL_STATUS_SAT,
       .f_GLB_DL_STATUS_VALID]
  | .dclinkSampleResult _ _ =>
    [.r_GLB_DL_STAMP, .f_GLB_DL_SAMPLE_Q, .f_GLB_DL_STATUS_SAT, .f_GLB_DL_STATUS_VALID]
  | .dclinkStuck _ =>
    slotsOutputsOff ++ slotsChanFault ++ [.f_GLB_BCH_STATUS_ON, .f_GLB_DL_STATUS_STUCK, .f_GLB_DL_STATUS_VALID]
  | .dlCfgWrite _ _ _ =>
    slotsDropLog ++ [.f_GLB_BCH_STATUS_ON, .f_GLB_DL_CFG_DLY, .f_GLB_DL_CFG_EN, .f_GLB_DL_CFG_STUCK_LIM, .f_GLB_DL_STATUS_VALID]
  | .sdclkFreqApply _ =>
    [.f_GLB_SDCLK_CFG_FREQ]
  | .csCfgWrite _ _ _ =>
    slotsDropLog ++ [.f_AX_CS_CFG_EN, .f_AX_CS_CFG_MEAS_PAIR, .f_AX_CS_CFG_OSR, .f_AX_CS_CFG_STUCK_LIM,
       .f_AX_CS_STATUS_CFG_REFUSED, .f_AX_CS_STATUS_VALID]
  | .tlmFrame _ _ _ =>
    slotsTrip ++ [.r_AX_TLM_STAMP, .f_AX_TLM_AUX_AUX, .f_AX_TLM_COUNT_CRC_FAIL, .f_AX_TLM_COUNT_LOSS, .f_AX_TLM_GD_VDC_GD,
       .f_AX_TLM_GD_VDC_VDC, .f_AX_TLM_STATUS_CRC_ERR, .f_AX_TLM_STATUS_GD_FAULT, .f_AX_TLM_STATUS_LOST,
       .f_AX_TLM_STATUS_OFFSET, .f_AX_TLM_STATUS_SEQ, .f_AX_TLM_STATUS_SEQ_GAP, .f_AX_TLM_STATUS_STALE,
       .f_AX_TLM_STATUS_STATE, .f_AX_TLM_TEMP_UV_TEMP_U, .f_AX_TLM_TEMP_UV_TEMP_V, .f_AX_TLM_TEMP_W_TEMP_W,
       .f_FXG_DL_STATUS_CHECKED]
  | .tlmCfgWrite _ _ _ =>
    slotsDropLog ++ [.f_AX_TLM_CFG_EN, .f_AX_TLM_CFG_GD_FAULT_MASK, .f_AX_TLM_STATUS_STALE, .f_AX_TLM_STATUS_STATE]
  | .fbCfgWrite _ _ _ =>
    slotsDropLog ++ [.r_AX_FB_CFG, .f_AX_FB_STATUS_CFG_REFUSED, .f_AX_FB_STATUS_EXTRAP, .f_AX_FB_STATUS_LENT,
       .f_AX_FB_STATUS_POS2_VALID, .f_AX_FB_STATUS_VALID]
  | .fbSampleReady _ =>
    slotsTrip ++ slotsSetPrb ++ [.r_AX_FB_POS2_HI, .r_AX_FB_POS2_LO, .r_AX_FB_POS_HI, .r_AX_FB_POS_LO, .r_AX_FB_STAMP, .r_AX_FB_VEL,
       .f_AX_FB_STATUS_AMP_FAULT, .f_AX_FB_STATUS_EXTRAP, .f_AX_FB_STATUS_FAULT, .f_AX_FB_STATUS_POS2_VALID,
       .f_AX_FB_STATUS_SAT_MAX, .f_AX_FB_STATUS_SAT_MIN, .f_AX_FB_STATUS_SAT_SEEN, .f_AX_FB_STATUS_VALID,
       .f_AX_FB_STATUS_WRAPPED, .f_GLB_PRB_STATUS_OVERFLOW]
  | .encoderEdge _ _ _ =>
    slotsTrip ++ [.f_AX_FB_STATUS_FAULT, .f_AX_FB_STATUS_POS2_VALID, .f_AX_FB_STATUS_QUAD_ERR, .f_AX_FB_STATUS_REV_HOLD]
  | .encoderLineLoss _ =>
    slotsTrip ++ [.f_AX_FB_STATUS_FAULT, .f_AX_FB_STATUS_LINE_ERR, .f_AX_FB_STATUS_POS2_VALID]
  | .indexEdge _ =>
    [.r_AX_FB_ZLAT_HI, .r_AX_FB_ZLAT_LO, .r_AX_FB_ZLAT_STAMP, .f_AX_FB_STATUS_Z_SEEN]
  | .sincosConversion _ _ _ _ =>
    slotsTrip ++ slotsSetPrb ++ [.f_AX_FB_COUNT_GLITCH, .f_AX_FB_SC_ADC_A, .f_AX_FB_SC_ADC_B, .f_AX_FB_SC_GP_GAIN_B, .f_AX_FB_SC_GP_PHASE,
       .f_AX_FB_SC_OFS_OFS_A, .f_AX_FB_SC_OFS_OFS_B, .f_AX_FB_STATUS_AMP_FAULT, .f_AX_FB_STATUS_AMP_HIGH,
       .f_AX_FB_STATUS_AMP_LOW, .f_AX_FB_STATUS_EXTRAP, .f_AX_FB_STATUS_FAULT, .f_AX_FB_STATUS_POS2_VALID,
       .f_AX_FB_STATUS_SYNC_ERR, .f_GLB_PRB_STATUS_OVERFLOW]
  | .rideExpiry _ =>
    slotsTrip ++ [.f_AX_FB_STATUS_FAULT, .f_AX_FB_STATUS_POS2_VALID]
  | .ssiTransferDone _ _ _ =>
    slotsTrip ++ [.r_AX_FB_POS2_HI, .r_AX_FB_POS2_LO, .r_AX_FB_SSI_RAW_HI, .r_AX_FB_SSI_RAW_LO, .f_AX_FB_COUNT_GLITCH,
       .f_AX_FB_COUNT_SSI_FAIL, .f_AX_FB_STATUS_AMP_FAULT, .f_AX_FB_STATUS_CHECK_ERR, .f_AX_FB_STATUS_EXTRAP,
       .f_AX_FB_STATUS_FAULT, .f_AX_FB_STATUS_POS2_VALID, .f_AX_FB_STATUS_SSI_FAIL]
  | .hallTransition _ _ =>
    slotsTrip ++ [.f_AE_STATUS_PHASE_MISMATCH, .f_AX_FB_STATUS_FAULT, .f_AX_FB_STATUS_HALL_AMBIG, .f_AX_FB_STATUS_HALL_SKIP,
       .f_AX_FB_STATUS_HALL_STATE, .f_AX_FB_STATUS_POS2_VALID, .f_AX_FB_STATUS_REV_HOLD, .f_AX_PWM_SHADOW_SKIPPED,
       .f_AX_PWM_STATUS_ALIGN_SLEW, .f_AX_PWM_STATUS_COMM_IGNORED, .f_AX_PWM_STATUS_DT_FALLBACK,
       .f_AX_PWM_STATUS_HALL_INVALID, .f_AX_PWM_STATUS_MASK_IDX, .f_AX_PWM_STATUS_PERIOD_RANGE, .w_dtField]
  | .fbLoad _ _ | .fbFaultClr _ _ | .zArm _ _ =>
    slotsDropLog ++ [.f_AX_FB_STATUS_FAULT]
  | .softLimitWrite _ _ _ _ =>
    slotsDropLog ++ [.r_AX_FB_SOFT_MAX_HI, .r_AX_FB_SOFT_MIN_HI, .f_AX_FB_STATUS_CFG_REFUSED]
  | .probeEdge _ _ _ =>
    slotsSetPrb ++ [.r_LSH_REG_ERR, .r_LSH_REG_MLAT_HI, .r_LSH_REG_MLAT_LO, .r_LSH_REG_PEND, .f_GLB_PRB_CFG_ARM,
       .f_GLB_PRB_STATUS_INPUT, .f_GLB_PRB_STATUS_OVERFLOW, .f_LSH_REG_STATUS_EXTRA, .f_LSH_REG_STATUS_NEW,
       .f_LSH_REG_STATUS_OPEN, .f_LSH_REG_STATUS_RESULT]
  | .probePop _ _ =>
    slotsDropLog ++ slotsSetPrb
  | .probeCfgWrite _ _ _ =>
    slotsDropLog ++ [.r_GLB_PRB_CFG, .f_GLB_PRB_STATUS_CFG_REFUSED]
  | .basePeriodStart _ =>
    [.r_AE_COMMIT_STATUS, .f_AE_NBASE_CYCLES, .f_AE_PERIOD_CNT_COUNT, .f_AE_STATUS_PERIOD_MISMATCH,
       .f_AE_STATUS_REF_USED, .f_AE_STATUS_RUNNING, .f_AE_TABLE_INFO_T_LOOP]
  | .slotStart _ _ _ =>
    slotsOutputsOff ++ slotsTrip ++ [.f_AE_BG_STAT_RESTARTS, .f_AE_BUDGET_CYCLES, .f_AE_SLOT_STAT_MAX_USED, .f_AE_SLOT_STAT_OVERRUNS,
       .f_AE_STATUS_BG_ACTIVE, .f_AE_STATUS_BG_SAVE_LATE, .f_AE_STATUS_FAULT_SLOT, .f_AE_STATUS_OVERRUN,
       .f_GLB_REGION_STATE_CLUSTER_FAULT_SEEN, .w_cmpField, .w_missField, .w_missFlag]
  | .slotOverrun _ =>
    slotsOutputsOff ++ slotsTrip ++ [.f_AE_SLOT_STAT_MAX_USED, .f_AE_SLOT_STAT_OVERRUNS, .f_AE_STATUS_BG_ACTIVE, .f_AE_STATUS_FAULT_SLOT,
       .f_AE_STATUS_OVERRUN, .f_GLB_REGION_STATE_CLUSTER_FAULT_SEEN, .w_cmpField]
  | .slotWindowEnd _ =>
    [.f_AE_SLOT_STAT_MAX_USED, .f_AE_STATUS_BG_ACTIVE, .w_axisWord, .w_cmpField]
  | .bgYield _ _ =>
    [.f_AE_BG_STAT_PC, .f_AE_STATUS_BG_ACTIVE]
  | .aeCommit _ _ | .aeDiscardPending _ _ | .aeRun _ _ _ | .aeBgEn _ _ _ | .aeFaultClr _ _ =>
    slotsDropLog ++ [.r_AE_COMMIT_STATUS, .f_AE_COMMIT_STATUS_OTHER, .f_AE_COMMIT_STATUS_REASON, .f_AE_COMMIT_STATUS_SHORTFALL,
       .f_AE_COMMIT_STATUS_SLOT, .f_AE_COMMIT_STATUS_STATE, .f_AE_CTL_BG_EN, .f_AE_CTL_RUN, .f_AE_STATUS_BG_ACTIVE,
       .f_AE_STATUS_CTL_REFUSED, .f_AE_STATUS_FAULT_SLOT, .f_AE_STATUS_MISS_A, .f_AE_STATUS_MISS_B,
       .f_AE_STATUS_OVERRUN, .w_axisWord]
  | .programMemoryWrite _ _ _ _ =>
    slotsDropLog ++ [.f_AE_STATUS_PM_WRITE_REFUSED, .w_pmAddr]
  | .axisStateWrite _ _ _ _ | .tsStart _ _ _ _ | .tsAbort _ _ _ | .obsReset _ _ | .supFaultClr _ _
  | .atCurrentPlant _ _ _ _ | .atMechanics _ _ _ _ | .atResonance _ _ _ _ | .atApply _ _ _ _ | .atUndo _ _ _
  | .atAbort _ _ _ =>
    slotsDropLog ++ [.w_axisWord]
  | .engineEccError _ _ _ =>
    slotsOutputsOff ++ slotsChanFault ++ [.f_AE_ECC_CORR, .f_AE_STATUS_ECC_CORR, .f_AE_STATUS_ECC_FATAL, .f_AX_PWM_STATUS_FAULT,
       .f_GLB_REGION_STATE_CLUSTER_FAULT_SEEN]
  | .yNop _ | .ld _ _ _ | .st _ _ _ | .lds _ _ _ | .sts _ _ _ | .mfs _ _ _ | .mts _ _ _ =>
    [.f_AE_BG_STAT_PC, .f_AE_STATUS_BG_ACTIVE, .w_axisWord]
  | .ldd _ _ _ | .std _ _ _ | .jmp _ _ | .brcc _ _ _ | .loop _ _ _ _ | .loopr _ _ _ _ | .retb _ =>
    slotsOutputsOff ++ slotsTrip ++ [.f_AE_BG_STAT_PC, .f_AE_CTL_BG_EN, .f_AE_SLOT_STAT_OVERRUNS, .f_AE_STATUS_BG_ACTIVE, .f_AE_STATUS_FAULT_SLOT,
       .f_AE_STATUS_OVERRUN, .f_GLB_REGION_STATE_CLUSTER_FAULT_SEEN]
  | .end_ _ =>
    slotsOutputsOff ++ slotsTrip ++ [.f_AE_CTL_BG_EN, .f_AE_SLOT_STAT_MAX_USED, .f_AE_SLOT_STAT_OVERRUNS, .f_AE_STATUS_BG_ACTIVE,
       .f_AE_STATUS_FAULT_SLOT, .f_AE_STATUS_OVERRUN, .f_GLB_REGION_STATE_CLUSTER_FAULT_SEEN, .w_cmpField]
  | .wait _ | .illegalBundle _ =>
    slotsOutputsOff ++ slotsTrip ++ [.f_AE_CTL_BG_EN, .f_AE_SLOT_STAT_OVERRUNS, .f_AE_STATUS_BG_ACTIVE, .f_AE_STATUS_FAULT_SLOT,
       .f_AE_STATUS_OVERRUN, .f_GLB_REGION_STATE_CLUSTER_FAULT_SEEN]
  | .supScan _ =>
    slotsOutputsOff ++ slotsChanFault ++ [.f_AX_PWM_STATUS_LAUNCH_OFF, .f_LSP_GRP_STATUS_STATE]
  | .atStageDone _ _ =>
    [.w_axisWord]
  | .lspCfgWrite _ _ _ =>
    slotsOutputsOff ++ slotsDropLog ++ slotsChanFault ++ [.r_LSP_CH_CFG, .f_LSH_FOL_STATUS_PH_MOVING, .f_LSP_CH_STATUS_CMD_REFUSED, .f_LSP_CH_STATUS_HOLD,
       .f_LSP_CH_STATUS_LIM_BOTH, .f_LSP_CH_STATUS_LIM_NEG, .f_LSP_CH_STATUS_LIM_POS, .f_LSP_GRP_STATUS_MEMBERS]
  | .moveAbsolute _ _ _ _ | .moveRelative _ _ _ _ | .velocityMove _ _ _ _ | .stop _ _ | .quickStop _ _ | .home _ _
  | .applyLimits _ _ | .flushQueue _ _ | .clearFault _ _ =>
    slotsDropLog ++ slotsBldcCheck ++ [.f_LSP_CH_STATUS_AT_TARGET, .f_LSP_CH_STATUS_CMD_REFUSED, .f_LSP_CH_STATUS_HOLD, .f_LSP_CH_STATUS_LIM_BOTH,
       .f_LSP_CH_STATUS_QLEVEL, .f_LSP_CH_STATUS_QUEUE_FULL, .f_LSP_CH_STATUS_STATE, .w_axisWord]
  | .holdEntry _ =>
    [.f_LSP_CH_STATUS_HOLD, .w_axisWord]
  | .stopTimeout _ =>
    slotsOutputsOff ++ slotsChanFault ++ [.f_LSP_CH_STATUS_STOP_TMO]
  | .homeLoad _ =>
    [.r_AUX_POS_HI, .r_AUX_POS_LO, .r_AX_FB_LOAD_HI, .r_AX_FB_LOAD_LO, .f_AUX_STP_STATUS_INDEX,
       .f_AX_FB_STATUS_FAULT, .f_LSP_CH_STATUS_HOMED, .f_LSP_CH_STATUS_HOME_REASON, .f_LSP_CH_STATUS_STATE,
       .w_axisWord]
  | .homeTimeout _ =>
    slotsOutputsOff ++ slotsChanFault
  | .groupAbsolute _ _ _ | .groupRelative _ _ _ | .groupStop _ _ | .groupQuickStop _ _ =>
    slotsDropLog ++ [.f_LSP_CH_STATUS_AT_TARGET, .f_LSP_CH_STATUS_HOLD, .f_LSP_CH_STATUS_STATE, .f_LSP_GRP_STATUS_CMD_REFUSED,
       .f_LSP_GRP_STATUS_GROUP_LIMITED, .f_LSP_GRP_STATUS_LEADER, .f_LSP_GRP_STATUS_MEMBERS, .f_LSP_GRP_STATUS_STATE,
       .w_axisWord]
  | .planEccError _ =>
    slotsOutputsOff ++ slotsChanFault ++ [.f_AUX_STATUS_FAULT, .f_AX_PWM_STATUS_FAULT]
  | .enReq _ _ _ =>
    slotsDropLog ++ [.r_LSP_EN_REQ0, .r_LSP_EN_REQ1, .f_LSP_EN_STATUS_BUSY, .f_LSP_EN_STATUS_CANCELLED]
  | .staggerEnable _ =>
    slotsOutputsOff ++ [.r_LSP_EN_REQ0, .r_LSP_EN_REQ1, .f_LSP_EN_STATUS_BUSY, .f_LSP_EN_STATUS_CANCELLED, .f_LSP_EN_STATUS_LAST,
       .f_LSP_EN_STATUS_SKIPPED]
  | .lshCfgWrite _ _ =>
    slotsDropLog ++ [.r_LSH_CFG, .r_LSH_PRESENT, .f_LSH_JOIN_STATUS_PRESENT, .f_LSH_STATUS_CFG_REFUSED]
  | .segmentReceived _ _ _ =>
    slotsPushAs ++ slotsReceiveSegment
  | .lineShaftCycleStart =>
    slotsOutputsOff ++ slotsChanFault ++ slotsPushAs ++ [.r_LSH_FOL_REG_CORR, .r_LSH_REG_PEND, .r_LSH_SH_POS_HI, .r_LSH_SH_POS_LO, .r_LSH_SH_SEQ, .r_LSH_SH_VEL,
       .r_LSP_CH_AREF, .r_LSP_CH_PREF_HI, .r_LSP_CH_PREF_LO, .r_LSP_CH_VREF, .f_LQ_CANCEL_CNT_COUNT,
       .f_LSH_CSW_STATUS_CANCELLED, .f_LSH_CSW_STATUS_REVERSED, .f_LSH_CSW_STATUS_STATE, .f_LSH_JOIN_STATUS_JOINING,
       .f_LSH_REG_STATUS_NEW, .f_LSH_REG_STATUS_OPEN, .f_LSH_REG_STATUS_RESULT, .f_LSH_SH_STATUS_FIT_LIMIT,
       .f_LSH_SH_STATUS_MISSING, .f_LSH_SH_STATUS_STATE, .f_LSH_SH_STATUS_SWITCHED, .f_LSH_SH_STATUS_USED_MASTER,
       .f_LSH_STATUS_LOST, .f_LSH_STATUS_LOST_SEEN, .f_LSP_CH_STATUS_AT_TARGET, .f_LSP_CH_STATUS_DECEL_KEPT,
       .f_LSP_CH_STATUS_HOLD, .f_LSP_CH_STATUS_LIM_BOTH, .f_LSP_CH_STATUS_LIM_NEG, .f_LSP_CH_STATUS_LIM_POS,
       .f_LSP_CH_STATUS_STANDSTILL, .f_LSP_CH_STATUS_START_LATE, .f_LSP_CH_STATUS_STRETCHED, .f_LSP_DL_STATUS_S,
       .f_LSP_GRP_STATUS_GROUP_LIMITED, .f_LSP_GRP_STATUS_PATH_BROKEN, .f_LSP_GRP_STATUS_STATE, .w_areaWord,
       .w_exWord]
  | .regWindowTimeout _ =>
    [.f_LSH_REG_STATUS_NEW, .f_LSH_REG_STATUS_OPEN, .f_LSH_REG_STATUS_RESULT]
  | .engage _ _ _ | .applyRatio _ _ | .disengage _ _ | .nextTable _ _ =>
    slotsOutputsOff ++ slotsDropLog ++ slotsChanFault ++ [.f_LSH_FOL_STATUS_CAM_MISMATCH, .f_LSH_FOL_STATUS_CMD_REFUSED, .f_LSP_GRP_STATUS_STATE]
  | .camCommit _ _ | .camRelease _ _ =>
    slotsDropLog ++ slotsRefuseHandle ++ [.f_LSH_CAM_STATUS_ERR, .f_LSH_CAM_STATUS_STATE]
  | .camComputeDone _ =>
    [.f_LSH_CAM_STATUS_STATE]
  | .lshStorageError _ =>
    slotsOutputsOff ++ slotsChanFault ++ slotsPushAs ++ [.f_AUX_STATUS_FAULT, .f_AX_PWM_STATUS_FAULT, .f_LQ_CANCEL_CNT_COUNT, .f_LSH_CAM_STATUS_ERR,
       .f_LSH_CAM_STATUS_STATE, .f_LSH_CSW_STATUS_CANCELLED, .f_LSH_CSW_STATUS_STATE, .f_LSH_REG_STATUS_NEW,
       .f_LSH_REG_STATUS_OPEN, .f_LSH_REG_STATUS_RESULT, .f_LSH_SH_STATUS_STATE, .f_LSH_STATUS_LOST,
       .f_LSH_STATUS_LOST_SEEN, .f_LSP_GRP_STATUS_STATE]
  | .joinReceived _ _ _ _ =>
    [.r_LSH_PRESENT, .f_LSH_JOIN_STATUS_COMPLETE, .f_LSH_JOIN_STATUS_CYCLE_MISMATCH, .f_LSH_JOIN_STATUS_DUPLICATE,
       .f_LSH_JOIN_STATUS_LOST_MEMBER, .f_LSH_JOIN_STATUS_PRESENT, .f_LSH_JOIN_STATUS_ROLE_CONFLICT,
       .f_LSH_JOIN_STATUS_UNEXPECTED]
  | .statusSend =>
    slotsKick
  | .memberTimeout _ =>
    [.r_LSH_PRESENT, .f_LSH_JOIN_STATUS_COMPLETE, .f_LSH_JOIN_STATUS_LOST_MEMBER, .f_LSH_JOIN_STATUS_PRESENT]
  | .membershipComplete =>
    [.r_LSH_JOIN_TIME, .f_LSH_JOIN_STATUS_COMPLETE]
  | .auxCfgWrite _ _ _ _ =>
    slotsDropLog ++ slotsBldcCheck ++ [.r_AUX_CFG, .r_AUX_POS_HI, .r_AUX_POS_LO, .f_AUX_CFG_ADC_SEL, .f_AUX_STATUS_CFG_REFUSED, .f_AUX_STATUS_STATE,
       .f_AUX_STATUS_STO_GATED, .f_AUX_STP_STATUS_INDEX, .w_auxWord]
  | .auxOutEn _ _ =>
    slotsDropLog ++ slotsBldcCheck ++ [.r_LSP_EN_REQ0, .r_LSP_EN_REQ1, .f_AUX_CTL_OUT_EN, .f_AUX_STATUS_FAULT, .f_AUX_STATUS_LAUNCH_OFF,
       .f_AUX_STATUS_STATE, .f_AUX_STATUS_STO_GATED, .f_LSP_EN_STATUS_BUSY]
  | .auxFaultClr _ _ =>
    slotsDropLog ++ slotsBldcCheck ++ [.f_AUX_STATUS_FAULT, .f_AUX_STATUS_LAUNCH_OFF, .f_AUX_STATUS_STATE, .f_AUX_STATUS_STO_GATED]
  | .adcConversionDone _ _ =>
    slotsOutputsOff ++ slotsChanFault ++ [.r_AUX_ADC_STAMP, .f_AUX_ADC_RES_RESULT, .f_AUX_BL_STATUS_I_TRIP, .f_AUX_CL_ADC_STATUS_FAULT,
       .f_AUX_CL_ADC_STATUS_REF, .f_AUX_STATUS_FAULT, .f_GLB_REGION_STATE_CLUSTER_FAULT_SEEN, .f_LSP_GRP_STATUS_STATE]
  | .adcRequestDiscard _ _ _ =>
    [.f_AUX_CL_ADC_COUNT_DROPPED, .f_AUX_STP_COUNT_ADAPT_SKIPPED, .f_AUX_STP_COUNT_DROPPED, .f_AUX_STP_OFS_OFS_A,
       .f_AUX_STP_OFS_OFS_B]
  | .adcReferenceCheck _ | .chopperCrossing _ _ _ | .chopperBlankEnd _ _ | .decayMinEnd _ _ =>
    [.f_AUX_CL_ADC_COUNT_DROPPED, .f_AUX_CL_ADC_COUNT_MAX_WAIT, .f_AUX_CL_ADC_STATUS_BUSY,
       .f_AUX_STP_COUNT_ADAPT_SKIPPED, .f_AUX_STP_COUNT_DROPPED, .f_AUX_STP_OFS_OFS_A, .f_AUX_STP_OFS_OFS_B]
  | .microstep _ =>
    [.r_AUX_POS_HI, .r_AUX_POS_LO, .f_AUX_STP_STATUS_FACTOR, .f_AUX_STP_STATUS_INDEX, .f_AUX_STP_STATUS_REDUCED,
       .f_AUX_STP_STATUS_REDUCING]
  | .standstillReduction _ =>
    [.f_AUX_STP_STATUS_FACTOR, .f_AUX_STP_STATUS_REDUCED, .f_AUX_STP_STATUS_REDUCING]
  | .openCoil _ _ =>
    [.f_AUX_STP_STATUS_OPEN_A, .f_AUX_STP_STATUS_OPEN_B]
  | .bldcAlignEnd _ =>
    [.f_AUX_BL_DUTY_DUTY, .f_AUX_BL_STATUS_PHASE, .f_AUX_BL_STATUS_SECTOR, .f_AUX_BL_STATUS_ZC_RUN]
  | .bldcPwmPeriod _ _ =>
    slotsChanFault ++ [.f_AUX_BL_STATUS_ADC_STARVED, .f_AUX_BL_STATUS_LOST, .f_AUX_BL_STATUS_RESTARTS, .f_AUX_BL_STATUS_START_FAIL,
       .f_AUX_BL_STATUS_WRONG_DIR, .f_AUX_CTL_OUT_EN, .f_AUX_STATUS_FAULT, .f_AUX_STATUS_STATE,
       .f_AUX_STATUS_STO_GATED]
  | .bldcCommutation _ =>
    slotsChanFault ++ [.r_AUX_BL_T60, .r_AUX_POS_HI, .r_AUX_POS_LO, .f_AUX_BL_STATUS_RESTARTS, .f_AUX_BL_STATUS_START_FAIL,
       .f_AUX_CTL_OUT_EN, .f_AUX_STATUS_FAULT, .f_AUX_STATUS_STATE, .f_AUX_STATUS_STO_GATED]
  | .missedSector _ =>
    slotsChanFault ++ [.r_AUX_POS_HI, .r_AUX_POS_LO, .f_AUX_BL_STATUS_LOST, .f_AUX_BL_STATUS_RESTARTS, .f_AUX_BL_STATUS_START_FAIL,
       .f_AUX_CTL_OUT_EN, .f_AUX_STATUS_FAULT, .f_AUX_STATUS_STATE, .f_AUX_STATUS_STO_GATED]
  | .bldcCoastEnd _ =>
    slotsBldcCheck
  | .bldcRetryRefill _ =>
    [.f_AUX_BL_STATUS_RESTARTS]
  | .configRequest _ =>
    [.f_GLB_READY_HOST_READY]
  | .hifEnable _ _ _ =>
    slotsDropLog ++ [.r_HIF_OD_CTL]
  | .sqCfgWrite _ _ _ _ =>
    slotsDropLog ++ [.r_HIF_OD_SQ_CFG, .r_HIF_OD_SQ_STATUS, .f_HIF_OD_SQ_STATUS_RUNNING, .f_HIF_OD_STATUS_CFG_REFUSED]
  | .cqCfgWrite _ _ _ _ =>
    slotsDropLog ++ [.f_HIF_OD_STATUS_BROKEN, .f_HIF_OD_STATUS_CFG_REFUSED, .f_HIF_OD_STATUS_EVQ_BROKEN, .w_cqCfg, .w_cqSeq,
       .w_cqStatus]
  | .doorbellPoll _ _ _ _ =>
    [.f_HIF_OD_SQ_STATUS_HEAD, .f_HIF_OD_SQ_STATUS_TAIL_ERR, .w_cqSeq, .w_cqStatus]
  | .nop _ _ _ | .setpoint _ _ _ | .badOpcodeDescriptor _ _ _ _ =>
    slotsFinishDesc
  | .launchPush _ _ _ =>
    slotsPushAs ++ slotsFinishDesc
  | .launchCancel _ _ _ =>
    slotsPushAs ++ slotsFinishDesc ++ [.f_LQ_CANCEL_CNT_COUNT]
  | .axisCmd _ _ _ =>
    slotsBldcCheck ++ slotsFinishDesc ++ [.r_LSP_CH_AMAX, .r_LSP_CH_DMAX, .r_LSP_CH_JMAX, .r_LSP_CH_START, .r_LSP_CH_TARGET_HI, .r_LSP_CH_TARGET_LO,
       .r_LSP_CH_VMAX, .f_LSP_CH_STATUS_AT_TARGET, .f_LSP_CH_STATUS_CMD_REFUSED, .f_LSP_CH_STATUS_HOLD,
       .f_LSP_CH_STATUS_LIM_BOTH, .f_LSP_CH_STATUS_QLEVEL, .f_LSP_CH_STATUS_QUEUE_FULL, .f_LSP_CH_STATUS_STATE,
       .w_axisWord]
  | .copyIn _ _ _ | .copyOut _ _ _ =>
    slotsTakeCopies
  | .poolAlloc _ _ _ =>
    slotsFinishDesc ++ [.f_POOL_C_STATUS_FREE, .f_POOL_OD_USE01_CLASS_HI, .f_POOL_OD_USE01_CLASS_LO, .f_POOL_OD_USE23_CLASS_HI,
       .f_POOL_OD_USE23_CLASS_LO]
  | .poolFree _ _ _ =>
    slotsTakeCopies ++ [.f_POOL_C_STATUS_FREE, .f_POOL_OD_USE01_CLASS_HI, .f_POOL_OD_USE01_CLASS_LO, .f_POOL_OD_USE23_CLASS_HI,
       .f_POOL_OD_USE23_CLASS_LO]
  | .heartbeat _ =>
    [.w_cqSeq, .w_cqStatus]
  | .heartbeatReadback _ _ _ _ | .heartbeatTimeout _ _ =>
    [.f_HIF_OD_LOST_CPL_COUNT, .f_HIF_OD_STATUS_BROKEN, .f_HIF_OD_STATUS_EVQ_BROKEN, .w_cqSeq, .w_cqStatus]
  | .poolCountWrite _ _ _ =>
    slotsDropLog ++ [.f_MEM_STATUS_CFG_REFUSED, .f_POOL_C_CFG_COUNT]
  | .memSegWrite _ _ =>
    slotsDropLog ++ [.f_MEM_STAGE_SEG, .f_MEM_STATUS_CFG_REFUSED]
  | .dmaStart _ _ | .dmaResume _ _ | .dmaAbort _ _ =>
    slotsDropLog ++ slotsDmaHaltAt ++ slotsRefuseHandle ++ [.r_DMA_CTL, .r_DMA_DONE_BYTES, .f_DMA_STATUS_CFG_REFUSED, .f_DMA_STATUS_DONE, .f_MEM_STATUS_CFG_REFUSED]
  | .dmaDone _ _ =>
    slotsDropLog ++ slotsDmaHaltAt ++ [.r_DMA_DONE_BYTES, .f_DMA_STATUS_DONE, .f_MEM_ECC_CNT_IPM, .f_MEM_ECC_CNT_SRAM, .f_MEM_STATUS_IPM_CORR,
       .f_MEM_STATUS_SRAM_CORR]
  | .dmaHalt _ _ _ _ _ _ =>
    slotsDropLog ++ slotsDmaHaltAt ++ [.r_DMA_DONE_BYTES, .f_MEM_ECC_CNT_IPM, .f_MEM_ECC_CNT_SRAM, .f_MEM_STATUS_IPM_CORR, .f_MEM_STATUS_SRAM_CORR]
  | .copySegmentDone _ _ =>
    slotsDropLog ++ slotsTakeCopies ++ [.f_MEM_ECC_CNT_IPM, .f_MEM_ECC_CNT_SRAM, .f_MEM_STATUS_IPM_CORR, .f_MEM_STATUS_SRAM_CORR]
  | .patrolScrub _ _ _ _ =>
    [.f_MEM_ECC_CNT_IPM, .f_MEM_ECC_CNT_SRAM, .f_MEM_STATUS_IPM_CORR, .f_MEM_STATUS_POISONED,
       .f_MEM_STATUS_SRAM_CORR]
  | .stagingFault _ =>
    slotsTakeCopies ++ slotsDmaHaltAt ++ [.f_GLB_REGION_STATE_CLUSTER_FAULT_SEEN, .f_MEM_STAGE_SOUND, .f_MEM_STATUS_STAGE_FAULT]
  | .capBindWrite _ _ _ =>
    slotsDropLog ++ [.r_CAP_BIND, .f_CAP_STATUS_CFG_REFUSED]
  | .captureArm _ _ | .captureStop _ _ | .captureForce _ _ | .captureUnload _ _ =>
    slotsDropLog ++ slotsRefuseHandle ++ [.r_CS_DEPTH, .r_CS_ROWS, .r_CS_TRIG, .r_CS_TRIG_STAMP, .f_CS_STATUS_ARM_ERR, .f_CS_STATUS_CFG_REFUSED,
       .f_CS_STATUS_CLIPPED, .f_CS_STATUS_MASK_STOP, .f_CS_STATUS_STATE, .f_CS_STATUS_STOPPED,
       .f_CS_STATUS_UNLOAD_ERR]
  | .captureRowLatch _ =>
    slotsRefuseHandle ++ [.r_CS_ROWS, .r_CS_TRIG_STAMP, .f_CAP_STATUS_VIOLATED, .f_CS_COUNT_EXTRA_TRIG, .f_CS_COUNT_SKIPPED,
       .f_CS_STATUS_GAP, .f_CS_STATUS_MASK_STOP, .f_CS_STATUS_STATE, .f_CS_STATUS_UNLOAD_ERR, .f_CS_TRIG_HITS,
       .f_CS_TRIG_PRIMARY]
  | .envCommit _ _ =>
    slotsDropLog ++ slotsRefuseHandle ++ [.r_CAP_ENV, .f_CAP_STATUS_CFG_REFUSED, .f_CAP_STATUS_ENV_ERR, .f_CAP_STATUS_ENV_STATE]
  | .envLoadDone _ _ =>
    [.f_CAP_STATUS_ENV_ERR, .f_CAP_STATUS_ENV_STATE]
  | .unloadDone _ _ =>
    slotsDmaHaltAt ++ [.r_CS_UNLOAD_CRC, .f_CS_STATUS_STATE, .f_CS_STATUS_UNLOADED, .f_CS_STATUS_UNLOAD_ERR]
  | .captureChannelFault _ =>
    [.f_CAP_STATUS_FAULT]
  | .ethCfgWrite _ _ _ =>
    slotsDropLog ++ [.r_ETH_CFG, .f_ETH_STATUS_CFG_REFUSED, .f_ETH_STATUS_LINK, .f_ETH_STATUS_VERIFY, .w_areaWord]
  | .ethLinkChange _ _ _ =>
    slotsKick ++ [.f_ETH_STATUS_LINK, .f_ETH_STATUS_RATE, .f_ETH_STATUS_VERIFY, .w_areaWord]
  | .frameReceived _ _ =>
    slotsKick ++ [.r_MSEC_STRANGER_SRC_HI, .r_MSEC_STRANGER_SRC_LO, .f_ETH_COUNT_A_HI, .f_ETH_COUNT_B_HI, .f_ETH_COUNT_B_LO,
       .f_MSEC_STRANGER_COUNT, .f_MSEC_STRANGER_REASON]
  | .frameTransmitted _ =>
    slotsPushAs ++ slotsReceiveSegment ++ slotsKick ++ [.r_LSH_PRESENT, .f_LSH_JOIN_STATUS_COMPLETE, .f_LSH_JOIN_STATUS_CYCLE_MISMATCH, .f_LSH_JOIN_STATUS_DUPLICATE,
       .f_LSH_JOIN_STATUS_LOST_MEMBER, .f_LSH_JOIN_STATUS_PRESENT, .f_LSH_JOIN_STATUS_ROLE_CONFLICT,
       .f_LSH_JOIN_STATUS_UNEXPECTED, .w_areaWord]
  | .gateConfigChange _ _ =>
    slotsDropLog ++ [.f_TSN_CTL_LEN, .f_TSN_STATUS_CONFIG_ERR, .f_TSN_STATUS_PENDING]
  | .gateListTakeover _ =>
    slotsKick ++ [.r_TSN_OPER_CTL, .r_TSN_OPER_INTERVAL, .f_TSN_STATUS_OPER_ACTIVE, .f_TSN_STATUS_OPER_LEN,
       .f_TSN_STATUS_PENDING, .f_TSN_STATUS_STEP_RESYNC]
  | .gateEntryEnd _ =>
    slotsKick ++ [.f_TSN_STATUS_STEP_RESYNC]
  | .launchFrameStart _ =>
    [.r_ETH_SLOT_STAMP, .f_ETH_COUNT_A_LO, .f_ETH_SLOT_STATUS_DELAY, .f_ETH_SLOT_STATUS_LATE]
  | .preemptVerifyDone _ _ =>
    [.f_ETH_STATUS_VERIFY]
  | .saInstall _ _ _ _ _ =>
    slotsDropLog ++ [.r_MSEC_SA_CTL]
  | .transmitAreaWrite _ _ _ _ =>
    slotsDropLog ++ [.w_areaWord]
  | .mdioGo _ =>
    slotsDropLog ++ [.f_ETH_MDIO_BUSY, .f_ETH_SW_CFG_AGE]
  | .mdioDone _ =>
    [.f_ETH_MDIO_BUSY, .f_ETH_MDIO_DATA]
  | .ethPortFault _ =>
    [.f_ETH_STATUS_FAULT, .w_areaWord]
  | .canInitExit _ _ _ | .canInitEnter _ _ | .ttEnable _ _ | .ttDisable _ _ =>
    slotsDropLog ++ [.r_CAN_ERRCNT, .r_CAN_TXB_ABANDON, .r_CAN_TXB_REQ, .f_CAN_CTL_AUTO_RECOVER, .f_CAN_CTL_FD_EN, .f_CAN_CTL_INIT,
       .f_CAN_CTL_LOOP, .f_CAN_CTL_RETRY, .f_CAN_CTL_TT_EN, .f_CAN_STATUS_CFG_REFUSED, .f_CAN_STATUS_FAULT,
       .f_CAN_STATUS_STATE, .f_CAN_STATUS_TRIPLE_IGNORED, .f_CAN_TT_STATUS_RUNNING, .f_CAN_TT_STATUS_TT_ERR,
       .w_canEb, .w_canTt, .w_canWord]
  | .txbReq _ _ _ _ =>
    slotsDropLog ++ [.r_CAN_TXB_ABANDON, .r_CAN_TXB_REQ, .w_canEb, .w_canTt]
  | .txbCancel _ _ _ =>
    slotsDropLog ++ [.r_CAN_TXB_REQ]
  | .canFrameSent _ =>
    [.r_CAN_TXB_ABANDON, .r_CAN_TXB_DONE, .r_CAN_TXB_REQ, .f_CAN_COUNT_LOST, .f_CAN_COUNT_TOO_LONG,
       .f_CAN_ERRCNT_LEC, .f_CAN_ERRCNT_TEC, .f_CAN_RXQ_STATUS_GET, .f_CAN_RXQ_STATUS_LEVEL, .f_CAN_RXQ_STATUS_PUT,
       .f_CAN_STATUS_STATE, .w_canEb, .w_canRx, .w_canTt, .w_canWord]
  | .canTxFailure _ _ =>
    [.r_CAN_TXB_ABANDON, .r_CAN_TXB_REQ, .f_CAN_ERRCNT_LEC, .f_CAN_ERRCNT_TEC, .f_CAN_STATUS_BUS_OFF_SEEN,
       .f_CAN_STATUS_STATE, .w_canEb, .w_canTt, .w_canWord]
  | .busOffRecovery _ =>
    [.r_CAN_ERRCNT, .r_CAN_TXB_ABANDON, .r_CAN_TXB_REQ, .f_CAN_STATUS_STATE, .w_canEb, .w_canTt]
  | .canFrameReceived _ _ _ _ =>
    [.r_CAN_TXB_ABANDON, .r_CAN_TXB_REQ, .f_CAN_COUNT_LOST, .f_CAN_COUNT_TOO_LONG, .f_CAN_ERRCNT_LEC,
       .f_CAN_ERRCNT_REC, .f_CAN_ERRCNT_RP, .f_CAN_RXQ_STATUS_GET, .f_CAN_RXQ_STATUS_LEVEL, .f_CAN_RXQ_STATUS_PUT,
       .f_CAN_STATUS_STATE, .f_CLK_TRIM_MG_TRIM, .w_canEb, .w_canRx, .w_canTt]
  | .canBasicCycle _ =>
    [.r_CAN_TXB_ABANDON, .r_CAN_TXB_REQ, .f_CAN_TT_STATUS_CYCLE_CNT, .f_CAN_TT_STATUS_MISSED,
       .f_CAN_TT_STATUS_RUNNING, .w_canEb, .w_canTt]
  | .canWindowStart _ _ =>
    [.r_CAN_TXB_ABANDON, .r_CAN_TXB_REQ, .f_CAN_TT_STATUS_MISSED, .f_CAN_TT_STATUS_WINDOW, .w_canEb, .w_canTt]
  | .exclusiveWindowMissed _ =>
    [.f_CAN_TT_STATUS_MISSED]
  | .rxElementLock _ _ _ _ | .rxElementRelease _ _ _ _ =>
    [.f_CAN_RXQ_STATUS_LOCKED, .f_CAN_RXQ_STATUS_LOCK_IDX]
  | .lockTimeout _ _ =>
    [.f_CAN_RXQ_STATUS_LOCKED, .f_CAN_STATUS_LOCK_TMO_SEEN]
  | .rxqAck _ _ _ _ =>
    slotsDropLog ++ [.f_CAN_RXQ_STATUS_GET, .f_CAN_RXQ_STATUS_LEVEL, .f_CAN_RXQ_STATUS_LOCKED, .w_canRx]
  | .newClear _ _ _ _ =>
    slotsDropLog ++ [.f_CAN_TT_STATUS_TT_ERR, .w_canWord]
  | .canCellFault _ =>
    [.f_CAN_STATUS_FAULT, .w_canWord]
  | .fieldInputChange _ _ =>
    slotsOutputsOff ++ slotsChanFault ++ slotsJudgeInput ++ [.f_FIO_CH_STATUS_CHANGES, .f_FIO_CH_STATUS_CNT, .f_FIO_CH_STATUS_LEVEL, .f_LSP_CH_STATUS_HOLD,
       .f_LSP_CH_STATUS_LIM_BOTH, .f_LSP_CH_STATUS_LIM_NEG, .f_LSP_CH_STATUS_LIM_POS]
  | .fioChCfgWrite _ _ _ | .fxModeWrite _ _ _ =>
    slotsOutputsOff ++ slotsDropLog ++ slotsChanFault ++ slotsJudgeInput ++ [.r_FIO_CH_CFG, .r_FIO_OUT_RB, .f_FIO_CH_STATUS_CHANGES, .f_FIO_CH_STATUS_CNT, .f_FIO_CH_STATUS_LEVEL,
       .f_FIO_CH_STATUS_WB, .f_FIO_STATUS_CFG_REFUSED, .f_LSP_CH_STATUS_HOLD, .f_LSP_CH_STATUS_LIM_BOTH,
       .f_LSP_CH_STATUS_LIM_NEG, .f_LSP_CH_STATUS_LIM_POS]
  | .wireBreak _ =>
    slotsJudgeInput ++ [.f_FIO_CH_STATUS_WB, .f_FIO_CH_STATUS_WB_SEEN]
  | .wireWhole _ =>
    slotsJudgeInput ++ [.f_FIO_CH_STATUS_WB]
  | .fioOut _ _ | .fioOutSet _ _ | .fioOutClr _ _ =>
    slotsDropLog ++ [.r_FIO_OUT, .r_FIO_OUT_RB, .f_FIO_CH_STATUS_LEVEL]
  | .fioOutFclr _ _ _ =>
    slotsDropLog ++ [.r_FIO_OUT_FAULT, .r_FIO_OUT_LOFF, .r_FIO_OUT_RB, .f_FIO_CH_STATUS_FAULT, .f_FIO_CH_STATUS_LAUNCH_OFF,
       .f_FIO_CH_STATUS_LEVEL, .f_FIO_CH_STATUS_REASON]
  | .outputOvercurrent _ _ | .readbackMismatch _ =>
    [.r_FIO_OUT_FAULT, .r_FIO_OUT_RB, .f_FIO_CH_STATUS_FAULT, .f_FIO_CH_STATUS_LEVEL, .f_FIO_CH_STATUS_REASON]
  | .vfieldLow =>
    slotsJudgeInput ++ [.r_FIO_OUT, .r_FIO_OUT_RB, .f_FIO_CH_STATUS_LEVEL, .f_FIO_STATUS_VF_LOW, .f_FIO_STATUS_VF_LOW_SEEN]
  | .vfieldRecovered =>
    slotsOutputsOff ++ slotsChanFault ++ slotsJudgeInput ++ [.r_FIO_OUT_RB, .f_FIO_CH_STATUS_CHANGES, .f_FIO_CH_STATUS_CNT, .f_FIO_CH_STATUS_LEVEL, .f_FIO_STATUS_VF_LOW,
       .f_LSP_CH_STATUS_HOLD, .f_LSP_CH_STATUS_LIM_BOTH, .f_LSP_CH_STATUS_LIM_NEG, .f_LSP_CH_STATUS_LIM_POS]
  | .bridgeHeartbeatLost =>
    [.r_FIO_OUT_RB, .f_FIO_CH_STATUS_LEVEL, .f_FIO_STATUS_BRIDGE_OK]
  | .safetyCycle _ =>
    slotsOutputsOff ++ slotsChanFault ++ slotsLockDevice ++ [.f_FIO_SAFE_LEVEL_SI, .f_FIO_SAFE_LEVEL_SRESET, .f_FXG_AX_STATUS_CAUSE, .f_FXG_AX_STATUS_HOLD,
       .f_LSP_GRP_STATUS_STATE, .f_SAF_BRK_STATUS_FAULT, .f_SAF_BRK_STATUS_FAULT_WHY, .f_SAF_LOCK_AXIS,
       .f_SAF_SI_STATUS_DEMAND, .f_SAF_SI_STATUS_DISC_RUN, .f_SAF_SI_STATUS_SRESET, .f_SAF_SI_STATUS_SRESET_STUCK,
       .f_SAF_STO_RESTART_WAIT, .f_SAF_STO_SS1_RUN]
  | .discrepancyFault _ =>
    slotsOutputsOff ++ slotsLockDevice ++ [.f_SAF_SI_STATUS_DISC_FAULT]
  | .ss1Expiry _ =>
    slotsOutputsOff ++ [.r_LSP_EN_REQ0, .r_LSP_EN_REQ1, .f_LSP_EN_STATUS_BUSY, .f_LSP_EN_STATUS_CANCELLED, .f_SAF_STO_ASSERTED,
       .f_SAF_STO_DEMAND, .f_SAF_STO_SS1_RUN]
  | .sresetStuck =>
    [.f_SAF_SI_STATUS_SRESET_STUCK]
  | .channelClockLost =>
    slotsOutputsOff ++ slotsLockDevice
  | .darkTestTimeout _ =>
    slotsRefreshAxis ++ [.f_FXG_AX_STATUS_CAUSE, .f_FXG_AX_STATUS_HOLD, .f_SAF_BRK_STATUS_FAULT, .f_SAF_BRK_STATUS_FAULT_WHY,
       .f_SAF_LOCK_AXIS, .f_SAF_LOCK_UNLOCK_WAIT]
  | .btStart _ _ _ | .btAbort _ =>
    slotsDropLog ++ [.r_SAF_BT_RESULT, .f_SAF_BRK_STATUS_RELEASED, .f_SAF_BT_RESULT_AXIS, .f_SAF_BT_RESULT_MOVED,
       .f_SAF_BT_RESULT_REASON, .f_SAF_BT_RESULT_RESULT, .f_SAF_BT_RESULT_STATE]
  | .btPass =>
    [.f_SAF_BRK_STATUS_BT_BLOCKED, .f_SAF_BRK_STATUS_BT_DUE, .f_SAF_BT_RESULT_AXIS, .f_SAF_BT_RESULT_MOVED,
       .f_SAF_BT_RESULT_REASON, .f_SAF_BT_RESULT_RESULT, .f_SAF_BT_RESULT_STATE]
  | .btCurrentTimeout =>
    [.f_SAF_BT_RESULT_AXIS, .f_SAF_BT_RESULT_MOVED, .f_SAF_BT_RESULT_REASON, .f_SAF_BT_RESULT_RESULT,
       .f_SAF_BT_RESULT_STATE]
  | .btDue _ =>
    [.f_SAF_BRK_STATUS_BT_DUE]
  | .btBlock _ =>
    [.f_SAF_BRK_STATUS_BT_BLOCKED, .f_SAF_BRK_STATUS_RELEASED]
  | .safUnlock _ _ =>
    slotsDropLog ++ [.f_SAF_LOCK_UNLOCK_REFUSED, .f_SAF_LOCK_UNLOCK_WAIT]
  | .unlockExpiry =>
    [.f_SAF_LOCK_UNLOCK_EXPIRED, .f_SAF_LOCK_UNLOCK_WAIT]
  | .psetLoad _ | .psetDiscard _ =>
    slotsDropLog ++ slotsRefuseHandle ++ [.f_SAF_PSET_STATUS_REASON, .f_SAF_PSET_STATUS_RECORDS, .f_SAF_PSET_STATUS_STATE]
  | .psetCheckDone _ =>
    slotsOutputsOff ++ slotsLockDevice ++ [.f_SAF_PSET_STATUS_REASON, .f_SAF_PSET_STATUS_STATE]
  | .psetLapse =>
    [.f_SAF_PSET_STATUS_REASON, .f_SAF_PSET_STATUS_STATE]
  | .eventDetected =>
    slotsPushAs ++ [.r_EVT_OD_OVF_MAP, .f_EVT_LT_CTL_LT_REFUSED, .f_EVT_OD_COUNT_COALESCED, .f_EVT_OD_COUNT_LOST,
       .f_EVT_OD_STATUS_LEVEL, .f_EVT_OD_STATUS_MERGING, .f_EVT_OD_STATUS_OVERFLOW]
  | .eventRingDrain _ =>
    [.f_EVT_OD_STATUS_LEVEL, .f_EVT_OD_STATUS_MERGING, .w_cqSeq, .w_cqStatus]
  | .evtRouteWrite _ _ _ =>
    slotsDropLog ++ [.r_EVT_ROUTE]
  | .referenceReady _ | .referenceLost _ =>
    [.f_CLK_STATUS_BETTER_PENDING, .f_CLK_STATUS_HOLDOFF, .f_CLK_STATUS_REF_READY, .f_CLK_STATUS_SWITCHING]
  | .pllReady _ =>
    [.r_CLK_REF_LOG_END, .f_CLK_DOM_SEL_SRC, .f_CLK_REF_LOG_CAUSE, .f_CLK_REF_LOG_DURATION, .f_CLK_REF_LOG_NEW,
       .f_CLK_REF_LOG_OLD, .f_CLK_REF_LOG_TIMED_OUT, .f_CLK_STATUS_BETTER_PENDING, .f_CLK_STATUS_HOLDOFF,
       .f_CLK_STATUS_MG_READY, .f_CLK_STATUS_PLL_READY, .f_CLK_STATUS_REF_IN_USE, .f_CLK_STATUS_SWITCHING,
       .f_GLB_READY_MOTION_READY, .f_GLB_READY_READY_MS]
  | .refSwitchTimeout =>
    [.r_CLK_REF_LOG_END, .f_CLK_REF_LOG_CAUSE, .f_CLK_REF_LOG_DURATION, .f_CLK_REF_LOG_NEW, .f_CLK_REF_LOG_OLD,
       .f_CLK_REF_LOG_TIMED_OUT, .f_CLK_STATUS_BETTER_PENDING, .f_CLK_STATUS_HOLDOFF, .f_CLK_STATUS_REF_IN_USE,
       .f_CLK_STATUS_SWITCHING]
  | .refHoldoffEnd =>
    [.f_CLK_STATUS_BETTER_PENDING, .f_CLK_STATUS_HOLDOFF, .f_CLK_STATUS_SWITCHING]
  | .refSwitch _ =>
    slotsDropLog ++ [.f_CLK_STATUS_BETTER_PENDING, .f_CLK_STATUS_CMD_REFUSED, .f_CLK_STATUS_HOLDOFF, .f_CLK_STATUS_SWITCHING]
  | .clkDomSelWrite _ _ =>
    slotsDropLog ++ [.f_CLK_DOM_SEL_SRC, .f_CLK_STATUS_SWITCH_REFUSED]
  | .missingClockTrip =>
    slotsOutputsOff ++ slotsLockDevice ++ [.f_CLK_STATUS_PLL_READY, .f_CLK_STATUS_TRIP_SEEN]
  | .snowdropTrim =>
    [.f_CLK_STATUS_SD_TRIMMED, .f_CLK_TRIM_SD_TRIM]
  | .marigoldTrimBurst =>
    [.f_CLK_TRIM_MG_TRIM]
  | .netpllLoss =>
    [.f_CLK_STATUS_PLL_READY, .f_ETH_STATUS_LINK, .f_ETH_STATUS_VERIFY, .f_TB_CTRL_TICK_SRC, .w_areaWord]
  | .mempllLoss =>
    [.f_CLK_STATUS_PLL_READY]
  | .watchdogKick _ =>
    slotsDropLog ++ [.f_RST_WDOG_TIMEOUT]
  | .domainRelease =>
    slotsOutputsOff ++ slotsChanFault ++ slotsSetServo ++ slotsJudgeInput ++ [.r_FIO_OUT_RB, .f_FIO_CH_STATUS_CHANGES, .f_FIO_CH_STATUS_CNT, .f_FIO_CH_STATUS_LEVEL,
       .f_FIO_STATUS_BRIDGE_OK, .f_GLB_READY_MOTION_READY, .f_GLB_READY_READY_MS, .f_LSP_CH_STATUS_HOLD,
       .f_LSP_CH_STATUS_LIM_BOTH, .f_LSP_CH_STATUS_LIM_NEG, .f_LSP_CH_STATUS_LIM_POS, .f_LSP_STATUS_RUNNING,
       .f_POOL_OD_QUOTA01_CLASS_HI, .f_POOL_OD_QUOTA01_CLASS_LO, .f_POOL_OD_QUOTA23_CLASS_HI,
       .f_POOL_OD_QUOTA23_CLASS_LO, .f_TB_STATUS_TIME_VALID]
  | .doze _ =>
    slotsOutputsOff ++ slotsDropLog ++ slotsLockDevice ++ slotsSetServo ++ [.f_CLK_STATUS_MG_READY, .f_CLK_STATUS_PLL_READY, .f_HIF_LINK_L1, .f_PWR_STATUS_ENTRY_REFUSED,
       .f_PWR_STATUS_REASON]
  | .dormant _ =>
    slotsOutputsOff ++ slotsDropLog ++ slotsLockDevice ++ [.f_CLK_STATUS_MG_READY, .f_CLK_STATUS_PLL_READY, .f_PWR_STATUS_ENTRY_REFUSED, .f_PWR_STATUS_REASON]
  | .wake _ =>
    [.f_PWR_STATUS_WAKE_SRC]
  | .runReached =>
    slotsSetServo ++ [.f_CLK_DOM_SEL_SRC, .f_CLK_STATUS_MG_READY, .f_GLB_READY_MOTION_READY, .f_GLB_READY_READY_MS, .f_HIF_LINK_L1]
  | .flashFault =>
    [.f_MGT_STATUS_FLASH_FAULT]
  | .vcoreAdjust _ =>
    [.f_MGT_STATUS_AVS_FAULT, .f_MGT_STATUS_VCORE]
  | .thermalModelUpdate =>
    [.f_MGT_AX_TH_LIFE_USED_LIFE_USED, .f_MGT_AX_TH_TJ_TJ]
  | .replan =>
    slotsDropLog ++ [.f_AX_PWM_DT_GUARD_GUARD, .f_AX_PWM_PERIOD_PERIOD, .f_GLB_BCH_CTL_MAX_DUTY, .f_MGT_AX_TH_PLAN_STATE_CAP_STEPS,
       .f_MGT_AX_TH_PLAN_STATE_FREQ_CHANGED, .f_MGT_AX_TH_PLAN_STATE_FREQ_STEPS, .f_MGT_AX_TH_PLAN_STATE_GUARD_STEPS,
       .f_MGT_AX_TH_PLAN_STATE_PROPOSAL_OPEN, .f_MGT_AX_TH_TJ_PEAK_H_TJ_PEAK_H, .w_axisWord]
  | .coreHalt _ =>
    [.f_LSP_CH_STATUS_STATE]
  | .pcieLinkChange _ _ _ =>
    [.f_HIF_LINK_L1, .f_HIF_LINK_SPEED, .f_HIF_LINK_WIDTH]
  | .memReady =>
    [.f_GLB_READY_MEM_READY]

end Sys2Proof.Machine
end

