-- ==== Sys2Proof/Certificates/Slice0/Obligations.lean ====
section
/-! DEFINITION. The statements: what the commands of the block do and leave, from the numbered rules of the spec. Each clause
of a statement says under which conditions on the state and the operands a command answers a next state, and what that state
holds. -/

open Sys2Proof Sys2Proof.Machine

/-- Sections *The four levels* and *Containment*. A fault of a cell whose stop no higher level has taken over and whose
region is not contained: an axis or auxiliary cell has its FAULT set and its OUT_EN cleared, and the brake of an
axis is not released; a CAN controller and a capture channel have their FAULT set; a DMA or copy channel halts with
reason 8; a field channel is marked bad, and an output channel has its FAULT set. A safe state not confirmed in time
is reported as a cluster fault, and where the cell belongs to no cluster it isolates the region unless the global
safe state holds. A cluster fault is reported in CLUSTER_FAULT_SEEN in every state; where the region is not
contained and no higher level runs on the cells, both axes of a pair have their outputs off, the ADC of an auxiliary
cluster shows FAULT and with a sensorless BLDC channel in the cluster every channel of it has its output off, every
CAN controller shows FAULT, and every DMA and copy channel is halted with reason 9 and the staging fault set. A
fence not confirmed in time, and a region fault, isolate the region unless the global safe state holds, isolate no
other region, and are reported in REGION_FAULT; a fault of the memory or the safety region forces the global safe
state with cause 4 or 5, the latter with the device lock-out, one of the time region marks every enabled shaft as
lost, and one of the field region clears BRIDGE_OK and sets the device lock-out. -/
def Obligations.FaultsReachTheirLevel : Prop :=
  (∀ (s : State) (n : Fin 16), s.higherRuns n = false → ∃ t, exec (.cellFault (.axis n)) s = .next t ∧ t.is
      (F.AX_PWM_STATUS_FAULT n) = true ∧ t.is (F.AX_PWM_CTL_OUT_EN n) = false ∧ t.is (F.SAF_BRK_STATUS_RELEASED n) =
      false) ∧
  (∀ (s : State) (n : Fin 24), s.higherRuns (16 + n) = false → ∃ t, exec (.cellFault (.aux n)) s = .next t ∧ t.is
      (F.AUX_STATUS_FAULT n) = true ∧ t.is (F.AUX_CTL_OUT_EN n) = false) ∧
  (∀ (s : State) (n : Fin 4), s.contained regTime = false → ∃ t, exec (.cellFault (.can n)) s = .next t ∧ t.is
      (F.CAN_STATUS_FAULT n) = true) ∧
  (∀ (s : State) (n : Fin 32), s.contained regMemory = false → s.is (F.DMA_STATUS_HALTED n) = false ∨ s.g
      (F.DMA_STATUS_REASON n) ≠ 9 → ∃ t, exec (.cellFault (.dma n)) s = .next t ∧ t.is (F.DMA_STATUS_HALTED n) = true ∧
      t.g (F.DMA_STATUS_REASON n) = 8) ∧
  (∀ (s : State) (k : Fin 80), s.contained regField = false → ∃ t, exec (.cellFault (.field k)) s = .next t ∧ testBit
      t.fio.bad k = true ∧ (s.fieldDrives k = true → testBit s.fio.bad k = false → t.is (F.FIO_CH_STATUS_FAULT k) =
      true)) ∧
  (∀ (s : State) (k : Fin 64), s.contained regMemory = false → ∃ t, exec (.cellFault (.capture k)) s = .next t ∧ t.is
      (F.CAP_STATUS_FAULT k) = true) ∧
  (∀ (s : State) (c : Cell) (k : Cluster), c.cluster = some k → ∃ t, exec (.cellSafeStateTimeout c) s = .next t ∧
      testBit (t.g F.GLB_REGION_STATE_CLUSTER_FAULT_SEEN) c.region = true) ∧
  (∀ (s : State) (c : Cell), c.cluster = none → s.saf.globalSafe = false → ∃ t, exec (.cellSafeStateTimeout c) s = .next
      t ∧ t.isolated c.region = true ∧ testBit (t.g F.GLB_REGION_STATE_REGION_FAULT) c.region = true) ∧
  (∀ (s : State) (c : Cluster), ∃ t, exec (.clusterFault c) s = .next t ∧ testBit (t.g
      F.GLB_REGION_STATE_CLUSTER_FAULT_SEEN) c.region = true) ∧
  (∀ (s : State) (n : Fin 8) (k : Fin 16), k.val / 2 = n → s.contained regMotion = false → ∀ m : Fin 16, s.stopLevel m ≤
      1 → ∃ t, exec (.clusterFault (.axisPair n)) s = .next t ∧ t.is (F.AX_PWM_CTL_OUT_EN k) = false) ∧
  (∀ (s : State) (n : Fin 4) (k : Fin 24) (m : Fin 24), k.val / 6 = n → m.val / 6 = n → s.g (F.AUX_CFG_MODE m) = 2 →
      s.contained regMotion = false → ∀ m : Fin 24, s.stopLevel (16 + m) ≤ 1 → ∃ t, exec (.clusterFault (.aux n)) s =
      .next t ∧ t.is (F.AUX_CTL_OUT_EN k) = false ∧ t.is (F.AUX_CL_ADC_STATUS_FAULT n) = true) ∧
  (∀ (s : State) (n : Fin 4), s.contained regMotion = false → ∃ t, exec (.clusterFault (.aux n)) s = .next t ∧ t.is
      (F.AUX_CL_ADC_STATUS_FAULT n) = true) ∧
  (∀ (s : State), s.contained regTime = false → ∃ t, exec (.clusterFault .can) s = .next t ∧ (∀ n : Fin 4, t.is
      (F.CAN_STATUS_FAULT n) = true)) ∧
  (∀ (s : State), s.contained regMemory = false → ∃ t, exec (.clusterFault .dma) s = .next t ∧ (t.is
      F.MEM_STATUS_STAGE_FAULT = true ∧ ∀ n : Fin 32, t.is (F.DMA_STATUS_HALTED n) = true ∧ t.g (F.DMA_STATUS_REASON n)
      = 9)) ∧
  (∀ (s : State) (c : Cluster), ∃ t, exec (.clusterFenceTimeout c) s = .next t ∧ testBit (t.g
      F.GLB_REGION_STATE_REGION_FAULT) c.region = true) ∧
  (∀ (s : State) (c : Cluster), s.saf.globalSafe = false → ∃ t, exec (.clusterFenceTimeout c) s = .next t ∧ (t.isolated
      c.region = true ∧ ∀ k : Fin 7, k.val ≠ c.region → t.isolated k = s.isolated k)) ∧
  (∀ (s : State) (r : Fin 7), ∃ t, exec (.regionFault r) s = .next t ∧ testBit (t.g F.GLB_REGION_STATE_REGION_FAULT) r =
      true) ∧
  (∀ (s : State) (r : Fin 7), s.saf.globalSafe = false → ∃ t, exec (.regionFault r) s = .next t ∧ (t.isolated r = true ∧
      ∀ k : Fin 7, k.val ≠ r.val → t.isolated k = s.isolated k)) ∧
  (∀ (s : State) (r : Fin 7), r.val = regMemory → s.isolated r = false → ∃ t, exec (.regionFault r) s = .next t ∧
      t.saf.globalSafe = true ∧ t.g F.GLB_CHIP_FAULT_CAUSE = 4) ∧
  (∀ (s : State) (r : Fin 7), r.val = regSafety → s.isolated r = false → ∃ t, exec (.regionFault r) s = .next t ∧
      t.saf.globalSafe = true ∧ t.g F.GLB_CHIP_FAULT_CAUSE = 5 ∧ t.is F.SAF_LOCK_DEVICE = true) ∧
  (∀ (s : State) (r : Fin 7) (h : Fin 8), r.val = regTime → s.contained r = false → s.is (F.LSH_SH_CFG_EN h) = true → ∃
      t, exec (.regionFault r) s = .next t ∧ t.g (F.LSH_SH_STATUS_STATE h) = 3) ∧
  (∀ (s : State) (r : Fin 7), r.val = regField → s.contained r = false → ∃ t, exec (.regionFault r) s = .next t ∧ t.is
      F.FIO_STATUS_BRIDGE_OK = false ∧ t.is F.SAF_LOCK_DEVICE = true)

/-- An isolation not confirmed in time, a time-out of the top-level fabric and a chip-level fault of the causes 1 to 5
and 7 complete in every state: the cause, with the number of the region for the causes 3, 4 and 5, is in
GLB_CHIP_FAULT, the global safe state is forced, every field output is off, no brake is released and the watchdog
reset is requested; cause 5 sets the device lock-out. Cause 6 is recorded and takes the clock-failure reset: every
domain but the always-on one is held in reset. A memory PLL awaited for 1 ms with the memory region not isolated
isolates it and escalates to cause 4. -/
def Obligations.ChipLevelFaultsForceTheSafeState : Prop :=
  (∀ (s : State) (r : Fin 7), ∃ t, exec (.isolationConfirmTimeout r) s = .next t ∧ t.g F.GLB_CHIP_FAULT_CAUSE = 3 ∧
      t.saf.globalSafe = true ∧ t.clk.wdogAsk = true ∧ (∀ n : Fin 16, t.is (F.SAF_BRK_STATUS_RELEASED n) = false) ∧ (∀ j
      : Fin 32, t.fieldOn j = false) ∧ t.g F.GLB_CHIP_FAULT_REGION = r) ∧
  (∀ (s : State), ∃ t, exec .topFabricTimeout s = .next t ∧ t.g F.GLB_CHIP_FAULT_CAUSE = 2 ∧ t.saf.globalSafe = true ∧
      t.clk.wdogAsk = true ∧ (∀ n : Fin 16, t.is (F.SAF_BRK_STATUS_RELEASED n) = false) ∧ (∀ j : Fin 32, t.fieldOn j =
      false)) ∧
  (∀ (s : State) (cause : Fin 8) (r : Fin 7), cause.val ≠ 0 → cause.val ≠ 6 → ∃ t, exec (.chipLevelFault cause r) s =
      .next t ∧ t.g F.GLB_CHIP_FAULT_CAUSE = cause ∧ t.saf.globalSafe = true ∧ t.clk.wdogAsk = true ∧ (∀ n : Fin 16,
      t.is (F.SAF_BRK_STATUS_RELEASED n) = false) ∧ (∀ j : Fin 32, t.fieldOn j = false)) ∧
  (∀ (s : State) (cause : Fin 8) (r : Fin 7), 3 ≤ cause.val → cause.val ≤ 5 → ∃ t, exec (.chipLevelFault cause r) s =
      .next t ∧ (t.g F.GLB_CHIP_FAULT_REGION = if cause.val = 3 then r.val else if cause.val = 4 then regMemory else
      regSafety)) ∧
  (∀ (s : State) (r : Fin 7), ∃ t, exec (.chipLevelFault 5 r) s = .next t ∧ t.is F.SAF_LOCK_DEVICE = true) ∧
  (∀ (s : State) (r : Fin 7), ∃ t, exec (.chipLevelFault 6 r) s = .next t ∧ t.g F.GLB_CHIP_FAULT_CAUSE = 6 ∧ t.g
      F.RST_CAUSE_LAST = 4 ∧ testBit (t.g F.RST_CAUSE_SRC) 4 = true ∧ (∀ d : Fin 9, t.clk.down.contains (d.val + 1) =
      true)) ∧
  (∀ (s : State), s.clk.memWait = true → s.clk.memTick + 250000 ≤ s.tb.ticks → s.isolated regMemory = false → ∃ t, exec
      .mempllTimeout s = .next t ∧ t.clk.memWait = false ∧ t.g F.GLB_CHIP_FAULT_CAUSE = 4 ∧ t.saf.globalSafe = true ∧
      testBit (t.g F.GLB_REGION_STATE_REGION_FAULT) regMemory = true) ∧
  (∀ (s : State), s.clk.memWait = true → s.clk.memTick + 250000 ≤ s.tb.ticks → s.contained regMemory = false → ∃ t, exec
      .mempllTimeout s = .next t ∧ t.isolated regMemory = true)

/-- Each of these writes completes where it reaches its register and no rule refuses it. A write of TB_CTRL with no
reserved value gives SERVO_EN, PROTOCOL, ROLE, STEP_MODE, GM_POLICY and TRANSPORT the written values; SERVO_EN 0
brings the servo to FREE and empties its averaging window, SERVO_EN 1 sets the bit; TICK_SRC takes a tick whose PLL
is ready and nothing else changes; with the servo off TB_ADJ takes the value within ±8,589,934 and shows a clamped
one; SET, with nanoseconds in their range, and STEP join the steps that wait for their tick, and the counter does
not move yet; GM_SWITCH outside a switch and a hold-off makes the pending clock the parent and begins the switch. -/
def Obligations.TimeBaseWritesTakeEffect : Prop :=
  (∀ (s : State) (rq : Rq) (v : Word), s.reaches rq R.TB_CTRL → tbCtrlReserved v = false → ∃ t, exec (.tbCtrlWrite rq v)
      s = .next t ∧ t.g F.TB_CTRL_PROTOCOL = getBits v 1 3 ∧ t.g F.TB_CTRL_ROLE = getBits v 4 2 ∧ t.g
      F.TB_CTRL_STEP_MODE = getBits v 7 2 ∧ t.g F.TB_CTRL_GM_POLICY = getBits v 9 1 ∧ t.g F.TB_CTRL_TRANSPORT = getBits
      v 10 1 ∧ t.is F.TB_CTRL_SERVO_EN = (getBits v 0 1 == 1)) ∧
  (∀ (s : State) (rq : Rq), s.reaches rq R.TB_CTRL → ∃ t, exec (.servoEn rq false) s = .next t ∧ t.is F.TB_CTRL_SERVO_EN
      = false ∧ t.g F.TB_STATUS_SERVO_STATE = 0 ∧ t.tb.outputs = []) ∧
  (∀ (s : State) (rq : Rq), s.reaches rq R.TB_CTRL → ∃ t, exec (.servoEn rq true) s = .next t ∧ t.is F.TB_CTRL_SERVO_EN
      = true) ∧
  (∀ (s : State) (rq : Rq) (net : Bool), s.reaches rq R.TB_CTRL → s.pllReady (bit net) = true → ∃ t, exec
      (.tickSrcChange rq net) s = .next t ∧ t.is F.TB_CTRL_TICK_SRC = net ∧ sameRegsBut [R.TB_CTRL] s t ∧ sameBut
      [.regs] s t) ∧
  (∀ (s : State) (rq : Rq) (v : Word), s.reaches rq R.TB_ADJ → s.is F.TB_CTRL_SERVO_EN = false → ∃ t, exec (.tbAdjWrite
      rq v) s = .next t ∧ t.gi F.TB_ADJ_ADJ = clampI (-8589934) 8589934 v.int ∧ t.is F.TB_STATUS_ADJ_CLAMPED = decide
      (8589934 ≤ v.int ∨ v.int ≤ -8589934) ∧ sameRegsBut [R.TB_ADJ, R.TB_STATUS] s t) ∧
  (∀ (s : State) (rq : Rq), s.reaches rq R.TB_CMD → (s.is F.TB_CTRL_SERVO_EN && s.servo != 0) = false → (s.rd
      R.TB_SET_NS).toNat ≤ 999999999 → ∃ t, exec (.tbSet rq) s = .next t ∧ t.tb.pendingStep = s.tb.pendingStep ++
      [CtrStep.load ((((s.rd R.TB_SET_SEC_LO).toNat + 2 ^ 32 * s.g F.TB_SET_SEC_HI_SEC) * 1000000000 + (s.rd
      R.TB_SET_NS).toNat) * 2 ^ 32)] ∧ t.is F.TB_STATUS_TIME_VALID = true ∧ sameRegsBut [R.TB_STATUS] s t ∧ t.tb.ctr =
      s.tb.ctr) ∧
  (∀ (s : State) (rq : Rq), s.reaches rq R.TB_CMD → (s.is F.TB_CTRL_SERVO_EN && s.servo != 0) = false → ∃ t, exec
      (.tbStep rq) s = .next t ∧ t.tb.pendingStep = s.tb.pendingStep ++ [CtrStep.add (s.gi F.TB_STEP_OFS_OFS * 2 ^ 32)]
      ∧ t.regs = s.regs ∧ t.tb.ctr = s.tb.ctr) ∧
  (∀ (s : State) (rq : Rq) (a : Announce), s.reaches rq R.TB_CMD → s.tb.pendingGm = some a → s.is F.TB_STATUS_SWITCHING
      = false → s.is F.TB_STATUS_HOLDOFF = false → ∃ t, exec (.gmSwitch rq) s = .next t ∧ t.tb.parent = some a ∧
      t.tb.pendingGm = none ∧ t.tb.swCause = 3 ∧ t.is F.TB_STATUS_SWITCHING = true ∧ t.is F.TB_STATUS_BETTER_GM_PENDING
      = false)

/-- Each of these events completes under the conditions its clause gives. A read of TB_NOW_FRAC fills the requester's
time shadow; the other parts of full time come from the shadow, or live with TORN set; an announce in the domain of
the device's own time is recorded with its tick, and one of the selected grandmaster gives the UTC fields; when the
announces of a clock through a port time out they are forgotten, and a parent so lost is replaced by the best clock
left, or by none; a sync of the parent through its port shows its offset in TB_OFFSET and is recorded, and with the
servo off nothing else but the time base's record changes; with the servo on it starts the run of a servo in FREE or
HOLDOVER, gives the integrator and TB_ADJ their values by the servo's formula where no step is due, and with
STEP_MODE 0 asks for a step where the offset exceeds the threshold; syncs that stop for SYNC_LOSS intervals bring
HOLDOVER with the mean of the last outputs; the waiting steps are taken as one, in their order, and set STEPPED; a
switch that times out ends in the hold-off; at the end of the hold-off a pending grandmaster becomes the parent
unless the host is to command it; each message that a port sends leaves it with its egress timestamp where it is an
event message. What an announce and a sync carry is the model's choice (logs 33 and 190). -/
def Obligations.TimeBaseEventsTakeEffect : Prop :=
  (∀ (s : State) (rq : Rq), s.readErr R.TB_NOW_FRAC = false → ∃ t, exec (.tbTimeShadowFill rq) s = .next t ∧
      t.timeShadow rq = some s.now ∧ t.out = .read rq R.TB_NOW_FRAC (BitVec.ofNat 32 (s.now % 65536)) :: s.out ∧ t.regs
      = s.regs) ∧
  (∀ (s : State) (rq : Rq) (part : Fin 3) (full : Nat), s.readErr (R.TB_NOW_NS + 4 * part) = false → s.timeShadow rq =
      some full → exec (.tbShadowRead rq part) s = .next (s.emit (.read rq (R.TB_NOW_NS + 4 * part) (nowPart full (part
      + 1))))) ∧
  (∀ (s : State) (rq : Rq) (part : Fin 3), s.readErr (R.TB_NOW_NS + 4 * part) = false → s.timeShadow rq = none → exec
      (.tbShadowRead rq part) s = .next ((s.on F.TB_STATUS_TORN).emit (.read rq (R.TB_NOW_NS + 4 * part) (nowPart s.now
      (part + 1))))) ∧
  (∀ (s : State) (a : Announce), s.g F.TB_CTRL_PROTOCOL ≠ 0 → a.domain = 0 → ∃ t, exec (.announceReceived a) s = .next t
      ∧ ⟨a, s.tb.ticks, s.qualifies a⟩ ∈ t.tb.foreign) ∧
  (∀ (s : State) (a : Announce) (p : Announce), s.g F.TB_CTRL_PROTOCOL ≠ 0 → a.domain = 0 → (s.recordAnnounce
      a).runBmca.tb.parent = some p → p.gm = a.gm → s.is F.TB_UTC_FROM_ANNOUNCE = true → a.utcValid = true → ∃ t, exec
      (.announceReceived a) s = .next t ∧ t.is F.TB_UTC_VALID = true ∧ t.g F.TB_UTC_OFFSET = a.utcOffset % 65536 ∧ t.is
      F.TB_UTC_LEAP61 = a.leap61 ∧ t.is F.TB_UTC_LEAP59 = a.leap59) ∧
  (∀ (s : State) (port : Fin 2) (gm : Nat), s.g F.TB_CTRL_PROTOCOL ≠ 0 → ∃ t, exec (.announceTimeout ⟨port, gm⟩) s =
      .next t ∧ t.tb.foreign = s.tb.foreign.filter (fun b => b.a.gm != gm || b.a.port != port)) ∧
  (∀ (s : State) (port : Fin 2) (p : Announce), s.g F.TB_CTRL_PROTOCOL ≠ 0 → s.tb.parent = some p → p.port = port →
      s.tb.pendingGm = none → ∃ t, exec (.announceTimeout ⟨port, p.gm⟩) s = .next t ∧ t.tb.parent = State.bestClock
      { s with tb := { s.tb with foreign := s.tb.foreign.filter (fun b => b.a.gm != p.gm || b.a.port != port) } }) ∧
  (∀ (s : State) (p : Announce) (port : Fin 2) (rx : Nat) (master : SyncTime) (delay : Int) (ival : Nat), s.g
      F.TB_CTRL_PROTOCOL ≠ 0 → s.tb.parent = some p → p.port = port → s.clk.power = .run → ∃ t, exec (.syncReceived port
      ⟨0, p.gm⟩ rx master delay ival) s = .next t ∧ t.gi F.TB_OFFSET_E = clampI (-2147483647) 2147483647 (floorDiv
      (s.syncOffset port rx master.value delay) 256) ∧ t.tb.lastSync = s.tb.ticks ∧ t.tb.syncIval = ival) ∧
  (∀ (s : State) (p : Announce) (port : Fin 2) (rx : Nat) (master : SyncTime) (delay : Int) (ival : Nat), s.g
      F.TB_CTRL_PROTOCOL ≠ 0 → s.tb.parent = some p → p.port = port → s.clk.power = .run → s.is F.TB_CTRL_SERVO_EN =
      false → ∃ t, exec (.syncReceived port ⟨0, p.gm⟩ rx master delay ival) s = .next t ∧ sameRegsBut [R.TB_OFFSET] s t
      ∧ sameBut [.regs, .tb] s t ∧ t.tb.ctr = s.tb.ctr ∧ t.tb.integ = s.tb.integ) ∧
  (∀ (s : State) (p : Announce) (port : Fin 2) (rx : Nat) (master : SyncTime) (delay : Int) (ival : Nat), s.g
      F.TB_CTRL_PROTOCOL ≠ 0 → s.tb.parent = some p → p.port = port → s.clk.power = .run → s.is F.TB_CTRL_SERVO_EN =
      true → s.servo = 0 ∨ s.servo = 3 → ∃ t, exec (.syncReceived port ⟨0, p.gm⟩ rx master delay ival) s = .next t ∧
      t.servo = 1) ∧
  (∀ (s : State) (p : Announce) (port : Fin 2) (rx : Nat) (master : SyncTime) (delay : Int) (ival : Nat) (i : Int), s.g
      F.TB_CTRL_PROTOCOL ≠ 0 → s.tb.parent = some p → p.port = port → s.clk.power = .run → s.is F.TB_CTRL_SERVO_EN =
      true → s.tb.afterStep = false → absN (s.syncOffset port rx master.value delay) ≤ s.g F.TB_STEP_THR_THR * 65536 → i
      = clampI (-8589934 * 2 ^ 32) (8589934 * 2 ^ 32) (s.tb.integ + (s.g F.TB_SERVO_KI_KI : Int) * s.syncOffset port rx
      master.value delay) → ∃ t, exec (.syncReceived port ⟨0, p.gm⟩ rx master delay ival) s = .next t ∧ t.tb.integ = i ∧
      t.gi F.TB_ADJ_ADJ = clampI (-8589934) 8589934 (floorDiv ((s.g F.TB_SERVO_KP_KP : Int) * s.syncOffset port rx
      master.value delay + i) (2 ^ 32)) ∧ t.tb.pendingStep = s.tb.pendingStep) ∧
  (∀ (s : State) (p : Announce) (port : Fin 2) (rx : Nat) (master : SyncTime) (delay : Int) (ival : Nat), s.g
      F.TB_CTRL_PROTOCOL ≠ 0 → s.tb.parent = some p → p.port = port → s.clk.power = .run → s.is F.TB_CTRL_SERVO_EN =
      true → s.tb.afterStep = false → s.g F.TB_STEP_THR_THR * 65536 < absN (s.syncOffset port rx master.value delay) →
      s.g F.TB_CTRL_STEP_MODE = 0 → ∃ t, exec (.syncReceived port ⟨0, p.gm⟩ rx master delay ival) s = .next t ∧
      t.tb.pendingStep = s.tb.pendingStep ++ [.add ((s.syncOffset port rx master.value delay) * 65536)] ∧ t.tb.afterStep
      = true ∧ t.gi F.TB_ADJ_ADJ = s.gi F.TB_ADJ_ADJ) ∧
  (∀ (s : State), s.servo = 1 ∨ s.servo = 2 → s.syncLost = true → ∃ t, exec .holdoverEntry s = .next t ∧ t.servo = 3 ∧
      t.tb.integ = t.gi F.TB_ADJ_ADJ * 2 ^ 32 ∧ (s.tb.outputs ≠ [] → t.gi F.TB_ADJ_ADJ = clampI (-8589934) 8589934
      (floorDiv (sumI s.tb.outputs) s.tb.outputs.length))) ∧
  (∀ (s : State) (l : List CtrStep), s.tb.pendingStep = l → l ≠ [] → s.tickRuns = true → s.tb.stepTick < s.tb.ticks → ∃
      t, exec .timeStep s = .next t ∧ t.tb.ctr = l.foldl (fun c k => k.apply c) s.tb.ctr ∧ t.tb.pendingStep = [] ∧
      t.tb.ticks = s.tb.ticks ∧ t.is F.TB_STATUS_STEPPED = true) ∧
  (∀ (s : State), s.is F.TB_STATUS_SWITCHING = true → s.tb.swTick + s.g F.TB_GM_CTRL_SWITCH_TMO * 25000000 ≤ s.tb.ticks
      → ∃ t, exec .gmSwitchTimeout s = .next t ∧ t.is F.TB_STATUS_SWITCHING = false ∧ t.is F.TB_STATUS_HOLDOFF = true ∧
      t.is F.TB_GM_LOG_INFO_TIMED_OUT = true ∧ t.g F.TB_GM_LOG_INFO_CAUSE = s.tb.swCause % 4 ∧ t.tb.holdTick =
      s.tb.ticks ∧ t.tb.parent = s.tb.parent) ∧
  (∀ (s : State), s.is F.TB_STATUS_HOLDOFF = true → s.tb.holdTick + s.g F.TB_GM_CTRL_HOLDOFF * 25000000 ≤ s.tb.ticks →
      s.tb.pendingGm = none ∨ s.is F.TB_CTRL_GM_POLICY = true → ∃ t, exec .gmHoldoffEnd s = .next t ∧ t.is
      F.TB_STATUS_HOLDOFF = false ∧ sameRegsBut [R.TB_STATUS] s t ∧ sameBut [.regs] s t) ∧
  (∀ (s : State) (a : Announce), s.is F.TB_STATUS_HOLDOFF = true → s.tb.holdTick + s.g F.TB_GM_CTRL_HOLDOFF * 25000000 ≤
      s.tb.ticks → s.tb.pendingGm = some a → s.is F.TB_CTRL_GM_POLICY = false → ∃ t, exec .gmHoldoffEnd s = .next t ∧
      t.is F.TB_STATUS_HOLDOFF = false ∧ t.is F.TB_STATUS_SWITCHING = true ∧ t.tb.parent = some a ∧ t.tb.pendingGm =
      none) ∧
  (∀ (s : State) (p : Fin 2) (m : PtpMsg), s.sendsPtp p m = true → s.is (F.ETH_STATUS_LINK p) = true → ∃ t, exec
      (.ptpTransmit p m) s = .next t ∧ t.out = .ptp p m (s.is F.TB_CTRL_TRANSPORT) (if m.isEvent then s.now / 16384 *
      16384 + s.g (F.TB_PHYLAT_ETH_TX_LAT p) * 16384 else 0) (s.carriedStamp p m) :: s.out ∧ t.regs = s.regs ∧ sameBut
      [.out, .tb] s t ∧ t.tb.ctr = s.tb.ctr) ∧
  (∀ (s : State) (p : Fin 2), s.g F.TB_CTRL_PROTOCOL = 1 → s.is (F.ETH_STATUS_LINK p) = true → ∃ t, exec (.ptpTransmit p
      .pdelayResp) s = .next t ∧ t.ptpStamp (8 * p + 7) = s.now / 16384 * 16384 + s.g (F.TB_PHYLAT_ETH_TX_LAT p) *
      16384)

/-- Each of these commands completes under the conditions its clause gives. A push that no check of R68 refuses appends
the staged entry with its extended time, raises no event and shows in COUNT (with no descriptor push of the same
tick in the queue); a flush leaves no entry; a cancel, with no push of the same tick refused, removes the entries of
earlier ticks whose tag matches under the mask and reports their number; a parity error discards all entries, sets
PARITY and records one event. A delivery of the head of an enabled queue, at most 64 ns before its time and where no
port that holds 8 launches is its target, hands the entry to its target and takes it from the queue; a late one is
handed over as late, or is discarded under LATE_POLICY 1 unless it is an immediate action; a repeating one re-enters
at the tail one period later where no entry there is later still. -/
def Obligations.LaunchQueueCommandsTakeEffect : Prop :=
  (∀ (s : State) (rq : Rq) (q : Fin 16), s.reaches rq (R.LQ_PUSH q) → s.pushErr q (s.staged q) = none → (s.lqOf
      q).entries.any (fun l => l.desc && l.tick == s.tb.ticks) = false → ∃ t, exec (.lqPush rq q) s = .next t ∧ (t.lqOf
      q).entries = (s.lqOf q).entries ++ [⟨s.stagedTime (s.staged q), s.tb.ticks, getBits (s.rd (R.LQ_ENT_CTL q)) 0 8,
      getBits (s.rd (R.LQ_ENT_CTL q)) 16 16, s.rd (R.LQ_ENT_ARG q), s.g (F.LQ_ENT_TAG_TAG q), getBits (s.rd
      (R.LQ_ENT_CTL q)) 8 1 == 1, false⟩] ∧ t.g (F.LQ_STATUS_COUNT q) = (s.lqOf q).entries.length + 1 ∧ t.evt = s.evt) ∧
  (∀ (s : State) (rq : Rq) (q : Fin 16), s.reaches rq (R.LQ_PUSH q) → ∃ t, exec (.lqFlush rq q) s = .next t ∧ (t.lqOf
      q).entries = [] ∧ t.g (F.LQ_STATUS_COUNT q) = 0 ∧ t.rd (R.LQ_HEAD_NS q) = 0) ∧
  (∀ (s : State) (rq : Rq) (q : Fin 16) (v : Word), s.reaches rq (R.LQ_CANCEL q) → (s.lqOf q).entries.length ≤ 64 →
      (s.lqOf q).refused.any (fun r => r.launch.tick == s.tb.ticks) = false → ∃ t, exec (.lqCancel rq q v) s = .next t ∧
      (t.lqOf q).entries = (s.lqOf q).entries.filter (fun e => !(e.tick != s.tb.ticks && tagMatch (getBits v 0 16)
      (getBits v 16 16) e)) ∧ t.g (F.LQ_CANCEL_CNT_COUNT q) + (t.lqOf q).entries.length = (s.lqOf q).entries.length) ∧
  (∀ (s : State) (q : Fin 16) (e : Launch) (rest : List Launch), (s.lqOf q).entries = e :: rest → s.is (F.LQ_CFG_EN q) =
      true → (s.lqOf q).lastTick ≠ some s.tb.ticks → s.outranked q e = false → s.isolated regTime = false → s.now <
      e.time → e.time ≤ s.now + 64 * 65536 → e.rep = false → e.code ≠ 0x30 ∨ s.portLaunches e.target < 8 → ∃ t, exec
      (.launchDelivery q) s = .next t ∧ t.held = s.held ++ [⟨e, false, q, s.tb.ticks, s.now⟩] ∧ (t.lqOf q).entries =
      rest ∧ (t.lqOf q).lastTick = some s.tb.ticks) ∧
  (∀ (s : State) (q : Fin 16) (e : Launch) (rest : List Launch), (s.lqOf q).entries = e :: rest → s.is (F.LQ_CFG_EN q) =
      true → (s.lqOf q).lastTick ≠ some s.tb.ticks → s.outranked q e = false → s.isolated regTime = false → e.time ≤
      s.now → s.is (F.LQ_CFG_LATE_POLICY q) = false ∨ e.code < 16 → e.rep = false → e.code ≠ 0x30 ∨ s.portLaunches
      e.target < 8 → ∃ t, exec (.launchDelivery q) s = .next t ∧ t.held = s.held ++ [⟨e, true, q, s.tb.ticks, s.now⟩] ∧
      t.is (F.LQ_STATUS_LATE q) = true ∧ (t.lqOf q).entries = rest ∧ (t.lqOf q).lastTick = some s.tb.ticks) ∧
  (∀ (s : State) (q : Fin 16) (e : Launch) (rest : List Launch), (s.lqOf q).entries = e :: rest → s.is (F.LQ_CFG_EN q) =
      true → (s.lqOf q).lastTick ≠ some s.tb.ticks → s.outranked q e = false → s.isolated regTime = false → e.time ≤
      s.now → s.is (F.LQ_CFG_LATE_POLICY q) = true → 16 ≤ e.code → e.rep = false → ∃ t, exec (.launchDelivery q) s =
      .next t ∧ t.held = s.held ∧ t.is (F.LQ_STATUS_LATE q) = true ∧ t.is (F.LQ_STATUS_DISCARDED q) = true ∧ t.g
      (F.LQ_LAST_LATE_CODE q) = e.code % 256 ∧ (t.lqOf q).entries = rest ∧ (t.lqOf q).lastTick = some s.tb.ticks) ∧
  (∀ (s : State) (q : Fin 16) (e : Launch) (rest : List Launch), (s.lqOf q).entries = e :: rest → s.is (F.LQ_CFG_EN q) =
      true → (s.lqOf q).lastTick ≠ some s.tb.ticks → s.outranked q e = false → s.isolated regTime = false → s.now <
      e.time → e.time ≤ s.now + 64 * 65536 → e.rep = true → rest.all (fun l => decide (l.time ≤ e.time + s.lqPeriod q))
      = true → e.code ≠ 0x30 ∨ s.portLaunches e.target < 8 → ∃ t, exec (.launchDelivery q) s = .next t ∧ t.held = s.held
      ++ [⟨e, false, q, s.tb.ticks, s.now⟩] ∧ (t.lqOf q).entries = rest ++ [{ e with time := e.time + s.lqPeriod q }]) ∧
  (∀ (s : State) (q : Fin 16), ∃ t, exec (.queueParityError q) s = .next t ∧ (t.lqOf q).entries = [] ∧ t.is
      (F.LQ_STATUS_PARITY q) = true ∧ t.evt.detected.length = s.evt.detected.length + 1)

/-- Each of these commands is the execution of a launched action at its target and completes: where the action held that
is next of all (R78) has the code and the target, it leaves the list of actions held, and the others stay. -/
def Obligations.LaunchedActionsExecute : Prop :=
  (∀ (s : State) (n : Fin 16) (h : Held) (rest : List Held), s.firstDue s.held = some (h, rest) → h.e.code = 0x00 →
      h.e.target = n → ∃ t, exec (.axisOff n) s = .next t ∧ t.held = rest) ∧
  (∀ (s : State) (n : Fin 24) (h : Held) (rest : List Held), s.firstDue s.held = some (h, rest) → h.e.code = 0x01 →
      h.e.target = n → ∃ t, exec (.auxOff n) s = .next t ∧ t.held = rest) ∧
  (∀ (s : State) (j : Fin 32) (h : Held) (rest : List Held), s.firstDue s.held = some (h, rest) → h.e.code = 0x02 →
      h.e.target = j → ∃ t, exec (.fieldOff j) s = .next t ∧ t.held = rest) ∧
  (∀ (s : State) (n : Fin 16) (h : Held) (rest : List Held), s.firstDue s.held = some (h, rest) → h.e.code = 0x10 →
      h.e.target = n → ∃ t, exec (.axisSample n) s = .next t ∧ t.held = rest) ∧
  (∀ (s : State) (g : Fin 4) (h : Held) (rest : List Held), s.firstDue s.held = some (h, rest) → h.e.code = 0x11 →
      h.e.target = g → ∃ t, exec (.dclinkSample g) s = .next t ∧ t.held = rest) ∧
  (∀ (s : State) (n : Fin 24) (h : Held) (rest : List Held), s.firstDue s.held = some (h, rest) → h.e.code = 0x12 →
      h.e.target = n → ∃ t, exec (.auxSample n) s = .next t ∧ t.held = rest) ∧
  (∀ (s : State) (c : Fin 4) (h : Held) (rest : List Held), s.firstDue s.held = some (h, rest) → h.e.code = 0x13 →
      h.e.target = c → ∃ t, exec (.captureSample c) s = .next t ∧ t.held = rest) ∧
  (∀ (s : State) (n : Fin 16) (h : Held) (rest : List Held), s.firstDue s.held = some (h, rest) → h.e.code = 0x20 →
      h.e.target = n → ∃ t, exec (.pwmPeriod n) s = .next t ∧ t.held = rest) ∧
  (∀ (s : State) (n : Fin 16) (h : Held) (rest : List Held), s.firstDue s.held = some (h, rest) → h.e.code = 0x21 →
      h.e.target = n → ∃ t, exec (.commutate n) s = .next t ∧ t.held = rest) ∧
  (∀ (s : State) (j : Fin 32) (h : Held) (rest : List Held), s.firstDue s.held = some (h, rest) → h.e.code = 0x22 →
      h.e.target = j → ∃ t, exec (.fieldWrite j) s = .next t ∧ t.held = rest) ∧
  (∀ (s : State) (p : Fin 2) (h : Held) (rest : List Held), s.firstDue s.held = some (h, rest) → h.e.code = 0x30 →
      h.e.target = p → ∃ t, exec (.ethLaunch p) s = .next t ∧ t.held = rest) ∧
  (∀ (s : State) (c : Fin 4) (idle : Bool) (h : Held) (rest : List Held), s.firstDue s.held = some (h, rest) → h.e.code
      = 0x31 → h.e.target = c → ∃ t, exec (.canLaunch c idle) s = .next t ∧ t.held = rest) ∧
  (∀ (s : State) (e : Fin 64) (h : Held) (rest : List Held), s.firstDue s.held = some (h, rest) → h.e.code = 0x40 →
      h.e.target = e → ∃ t, exec (.swEvent e) s = .next t ∧ t.held = rest) ∧
  (∀ (s : State) (c : Fin 4) (h : Held) (rest : List Held), s.firstDue s.held = some (h, rest) → h.e.code = 0x41 →
      h.e.target = c → ∃ t, exec (.captureTrigger c) s = .next t ∧ t.held = rest)

/-- Each of these commands is the execution of a launched action at its target and completes where that action is the
held action that is next; its effect: a switch-off sets LAUNCH_OFF and clears OUT_EN of an axis or auxiliary
channel, and puts a field output off; an axis sample opens the window of the current inputs, or sets OVERLAP where
one is open, and takes a sample of the position; a DC-link sample opens its window or sets OVERLAP; an auxiliary
sample asks the cluster's ADC; a capture sample and a capture trigger are latched by a running session; a PWM period
starts an ARMED unit, shows its phase error in a RUNNING one, and is ignored by any other; a commutation moves the
mask where it is the source, or sets COMM_IGNORED; a field write gives its output bit the argument and changes no
other; an Ethernet launch starts the frame of its slot or lets it wait, or is dropped with the link down; a CAN
launch requests its buffer, or is merged; a software event is raised with its argument as payload and nothing else
changes. -/
def Obligations.LaunchedActionsHaveTheirEffect : Prop :=
  (∀ (s : State) (n : Fin 16) (h : Held) (rest : List Held), s.firstDue s.held = some (h, rest) → h.e.code = 0x00 →
      h.e.target = n → ∃ t, exec (.axisOff n) s = .next t ∧ t.is (F.AX_PWM_STATUS_LAUNCH_OFF n) = true ∧ t.is
      (F.AX_PWM_CTL_OUT_EN n) = false) ∧
  (∀ (s : State) (n : Fin 24) (h : Held) (rest : List Held), s.firstDue s.held = some (h, rest) → h.e.code = 0x01 →
      h.e.target = n → ∃ t, exec (.auxOff n) s = .next t ∧ t.is (F.AUX_STATUS_LAUNCH_OFF n) = true ∧ t.is
      (F.AUX_CTL_OUT_EN n) = false) ∧
  (∀ (s : State) (j : Fin 32) (h : Held) (rest : List Held), s.firstDue s.held = some (h, rest) → h.e.code = 0x02 →
      h.e.target = j → s.isolated regField = false → s.regHeld s.fio.regClr j = false → ∃ t, exec (.fieldOff j) s =
      .next t ∧ t.is (F.FIO_CH_STATUS_LAUNCH_OFF (32 + j)) = true ∧ t.fieldOn j = false) ∧
  (∀ (s : State) (n : Fin 16) (h : Held) (rest : List Held), s.firstDue s.held = some (h, rest) → h.e.code = 0x10 →
      h.e.target = n → getBits h.e.arg 0 1 = 1 → s.is (F.AX_CS_CFG_EN n) = true → s.sdRuns (n / 4) = true → (s.csOf
      n).win = none → ∃ t, exec (.axisSample n) s = .next t ∧ (t.csOf n).win.isSome = true) ∧
  (∀ (s : State) (n : Fin 16) (w : CsWin) (h : Held) (rest : List Held), s.firstDue s.held = some (h, rest) → h.e.code =
      0x10 → h.e.target = n → getBits h.e.arg 0 1 = 1 → (s.csOf n).win = some w → ∃ t, exec (.axisSample n) s = .next t
      ∧ t.is (F.AX_CS_STATUS_OVERLAP n) = true) ∧
  (∀ (s : State) (n : Fin 16) (h : Held) (rest : List Held), s.firstDue s.held = some (h, rest) → h.e.code = 0x10 →
      h.e.target = n → getBits h.e.arg 1 1 = 1 → s.fbEn n = true → s.is (F.AX_FB_STATUS_LENT n) = false → s.supplies n =
      true → (s.fbOf n).stopped = false → s.g (F.AX_FB_CFG_SEC_SRC n) = 2 → s.g (F.AX_FB_CFG_SEC_CH n) ≠ n.val → ∃ t,
      exec (.axisSample n) s = .next t ∧ (t.fbOf n).samps.length = (s.fbOf n).samps.length + 1) ∧
  (∀ (s : State) (g : Fin 4) (h : Held) (rest : List Held), s.firstDue s.held = some (h, rest) → h.e.code = 0x11 →
      h.e.target = g → s.is (F.GLB_DL_CFG_EN g) = true → s.sdRuns g = true → (s.dlOf g).win = none → ∃ t, exec
      (.dclinkSample g) s = .next t ∧ (t.dlOf g).win.isSome = true) ∧
  (∀ (s : State) (g : Fin 4) (h : Held) (rest : List Held), s.firstDue s.held = some (h, rest) → h.e.code = 0x11 →
      h.e.target = g → (s.dlOf g).win.isSome = true → ∃ t, exec (.dclinkSample g) s = .next t ∧ t.is
      (F.GLB_DL_STATUS_OVERLAP g) = true) ∧
  (∀ (s : State) (n : Fin 24) (h : Held) (rest : List Held), s.firstDue s.held = some (h, rest) → h.e.code = 0x12 →
      h.e.target = n → ∃ t, exec (.auxSample n) s = .next t ∧ ((t.adcOf (n / 6)).wait.any (fun r => r.ch == n.val % 6 &&
      r.use == .sample (s.g (F.AUX_CFG_ADC_SEL n))) = true ∨ (t.adcOf (n / 6)).cur.any (fun r => r.1.ch == n.val % 6 &&
      r.1.use == .sample (s.g (F.AUX_CFG_ADC_SEL n))) = true)) ∧
  (∀ (s : State) (c : Fin 4) (h : Held) (rest : List Held), s.firstDue s.held = some (h, rest) → h.e.code = 0x13 →
      h.e.target = c → s.capRuns c = true → s.g (F.CS_CFG_SRC c) = 1 → ∃ t, exec (.captureSample c) s = .next t ∧
      (t.capOf c).latches = (s.capOf c).latches ++ [(s.elapsedAt (s.instant h), s.instant h)]) ∧
  (∀ (s : State) (n : Fin 16) (h : Held) (rest : List Held), s.firstDue s.held = some (h, rest) → h.e.code = 0x20 →
      h.e.target = n → s.isolated regTime = false → s.pwmState n = 1 → ∃ t, exec (.pwmPeriod n) s = .next t ∧ t.pwmState
      n = 2 ∧ (t.pwmOf n).lastZero = h.e.time) ∧
  (∀ (s : State) (n : Fin 16) (h : Held) (rest : List Held), s.firstDue s.held = some (h, rest) → h.e.code = 0x20 →
      h.e.target = n → s.isolated regTime = false → s.pwmState n = 2 → ∃ t, exec (.pwmPeriod n) s = .next t ∧ t.pwmState
      n = 2 ∧ (t.gi (F.AX_PWM_PHASE_PHI n) = floorDiv (phaseError h.e.time (s.pwmOf n).lastZero (s.tPwm n)) 16384 ∨ t.gi
      (F.AX_PWM_PHASE_PHI n) = floorDiv (phaseError h.e.time (s.pointTime n true) (s.tPwm n)) 16384)) ∧
  (∀ (s : State) (n : Fin 16) (h : Held) (rest : List Held), s.firstDue s.held = some (h, rest) → h.e.code = 0x20 →
      h.e.target = n → s.isolated regTime = false → s.pwmState n ≠ 1 → s.pwmState n ≠ 2 → ∃ t, exec (.pwmPeriod n) s =
      .next t ∧ t.is (F.AX_PWM_STATUS_PERIOD_IGNORED n) = true ∧ t.pwmState n = s.pwmState n) ∧
  (∀ (s : State) (n : Fin 16) (h : Held) (rest : List Held), s.firstDue s.held = some (h, rest) → h.e.code = 0x21 →
      h.e.target = n → s.g (F.AX_PWM_MASK_CFG_SRC n) ≠ 2 → ∃ t, exec (.commutate n) s = .next t ∧ t.is
      (F.AX_PWM_STATUS_COMM_IGNORED n) = true) ∧
  (∀ (s : State) (n : Fin 16) (l : Nat) (h : Held) (rest : List Held), s.firstDue s.held = some (h, rest) → h.e.code =
      0x21 → h.e.target = n → s.g (F.AX_PWM_MASK_CFG_SRC n) = 2 → s.pwmState n ≠ 2 → (s.pwmOf n).mode = true →
      s.maskDown n = false → l = effLength (s.g (F.AX_PWM_MASK_CFG_LENGTH n)) → ∃ t, exec (.commutate n) s = .next t ∧
      t.g (F.AX_PWM_STATUS_MASK_IDX n) = (s.g (F.AX_PWM_STATUS_MASK_IDX n) + 1) % l) ∧
  (∀ (s : State) (j : Fin 32) (h : Held) (rest : List Held), s.firstDue s.held = some (h, rest) → h.e.code = 0x22 →
      h.e.target = j → s.isolated regField = false → s.regHeld s.fio.regOut j = false → ∃ t, exec (.fieldWrite j) s =
      .next t ∧ (getBits (t.rd R.FIO_OUT) j 1 = getBits h.e.arg 0 1 ∧ ∀ i : Fin 32, i ≠ j → getBits (t.rd R.FIO_OUT) i 1
      = getBits (s.rd R.FIO_OUT) i 1)) ∧
  (∀ (s : State) (p : Fin 2) (h : Held) (rest : List Held), s.firstDue s.held = some (h, rest) → h.e.code = 0x30 →
      h.e.target = p → s.is (F.ETH_STATUS_LINK p) = false → ∃ t, exec (.ethLaunch p) s = .next t ∧ t.is
      (F.ETH_SLOT_STATUS_LINK_DOWN_DROP p (getBits h.e.arg 0 5)) = true ∧ t.eth = s.eth) ∧
  (∀ (s : State) (p : Fin 2) (h : Held) (rest : List Held), s.firstDue s.held = some (h, rest) → h.e.code = 0x30 →
      h.e.target = p → s.is (F.ETH_STATUS_LINK p) = true → s.g (F.ETH_SLOT_CFG_SRC p (getBits h.e.arg 0 5)) = 0 →
      (s.ethOf p).launches.length < 8 → ∃ t, exec (.ethLaunch p) s = .next t ∧ ((t.ethOf p).cur.map (·.launch) = some
      (some (getBits h.e.arg 0 5, h.e.time)) ∨ (t.ethOf p).launches.any (fun f => f.launch == some (getBits h.e.arg 0 5,
      h.e.time)) = true ∨ s.canProtect p = false)) ∧
  (∀ (s : State) (p : Fin 2) (f : TxFrame) (h : Held) (rest : List Held), s.firstDue s.held = some (h, rest) → h.e.code
      = 0x30 → h.e.target = p → s.is (F.ETH_STATUS_LINK p) = true → s.g (F.ETH_SLOT_CFG_SRC p (getBits h.e.arg 0 5)) = 0
      → (s.ethOf p).launches.length = 8 → (s.ethOf p).cur = some f → s.preemptable p f.tc = false → ∃ t, exec
      (.ethLaunch p) s = .next t ∧ t.is (F.ETH_STATUS_LAUNCH_OVF p) = true ∧ (t.ethOf p).launches = (s.ethOf
      p).launches) ∧
  (∀ (s : State) (c : Fin 4) (idle : Bool) (h : Held) (rest : List Held), s.firstDue s.held = some (h, rest) → h.e.code
      = 0x31 → h.e.target = c → s.ebPending c (getBits h.e.arg 0 5) = true → ∃ t, exec (.canLaunch c idle) s = .next t ∧
      t.is (F.CAN_STATUS_LAUNCH_MERGED c) = true ∧ t.rd (R.CAN_TXB_REQ c) = s.rd (R.CAN_TXB_REQ c)) ∧
  (∀ (s : State) (c : Fin 4) (idle : Bool) (h : Held) (rest : List Held), s.firstDue s.held = some (h, rest) → h.e.code
      = 0x31 → h.e.target = c → s.ebPending c (getBits h.e.arg 0 5) = false → s.fdRefused c (canEb c (getBits h.e.arg 0
      5) 0) = false → ∃ t, exec (.canLaunch c idle) s = .next t ∧ t.ebPending c (getBits h.e.arg 0 5) = true) ∧
  (∀ (s : State) (e : Fin 64) (h : Held) (rest : List Held), s.firstDue s.held = some (h, rest) → h.e.code = 0x40 →
      h.e.target = e → exec (.swEvent e) s = .next ({ s with held := rest }.raise (1984 + e) h.e.arg)) ∧
  (∀ (s : State) (c : Fin 4) (i : Fin 8) (h : Held) (rest : List Held), s.firstDue s.held = some (h, rest) → h.e.code =
      0x41 → h.e.target = c → s.capRuns c = true → s.g (F.CS_TRG_CFG_KIND c i) = 6 → ∃ t, exec (.captureTrigger c) s =
      .next t ∧ (t.capOf c).hits.any (fun x => x.2 == i.val) = true)

/-- Each of these writes of a PWM unit's registers completes where it reaches its register under the conditions its
clause gives (for AXn_PWM_CTL the motion domain is out of reset). ARM with a PERIOD in range brings a DISABLED unit
to ARMED; with no earlier write of ARM or START still waiting for its tick, START brings an ARMED unit to RUNNING at
the next tick, with its first zero point then, and disarming clears ARM and brings ARMED or RUNNING to DISABLED at
the next tick with every switch off; OUT_EN is set where nothing holds the enable (FAULT, LAUNCH_OFF and the other
holds of R108, R109 and R34); FAULT_CLR clears FAULT and LAUNCH_OFF; the mask, mask configuration, align,
configuration, dead-time and event registers take the written fields where none is reserved or out of its range, a
configuration that changes CNT_MODE, DL_GROUP or ADAPT_EN only on a DISABLED unit, the dead-time write without
touching anything else of the unit. -/
def Obligations.PwmUnitCommandsTakeEffect : Prop :=
  (∀ (s : State) (rq : Rq) (n : Fin 16), s.reaches rq (R.AX_PWM_CTL n) → s.clk.down.contains 8 = false → s.pwmState n =
      0 → periodOk (s.cntMode n) (s.g (F.AX_PWM_PERIOD_PERIOD n)) = true → s.is (F.AX_FB_STATUS_LENT n) = false →
      s.armHeld = false → (s.pwmOf n).ask = none → ∃ t, exec (.pwmArm rq n) s = .next t ∧ t.pwmState n = 1 ∧ t.is
      (F.AX_PWM_CTL_ARM n) = true) ∧
  (∀ (s : State) (rq : Rq) (n : Fin 16), s.reaches rq (R.AX_PWM_CTL n) → s.clk.down.contains 8 = false → s.pwmState n ≠
      0 → (s.pwmOf n).ask = none → ∃ t, exec (.pwmDisarm rq n) s = .next t ∧ t.is (F.AX_PWM_CTL_ARM n) = false ∧
      (t.pwmOf n).ask = some .disable ∧ (t.tickOn.takeAsk n).pwmState n = 0 ∧ ((t.tickOn.takeAsk n).pwmOf n).on =
      PwmSt.reset.on) ∧
  (∀ (s : State) (rq : Rq) (n : Fin 16), s.reaches rq (R.AX_PWM_CTL n) → s.clk.down.contains 8 = false → s.pwmState n =
      1 → s.is (F.AX_PWM_CTL_ARM n) = true → (s.pwmOf n).ask = none → ∃ t, exec (.pwmStart rq n) s = .next t ∧ (t.pwmOf
      n).ask = some .start ∧ (t.tickOn.takeAsk n).pwmState n = 2 ∧ ((t.tickOn.takeAsk n).pwmOf n).lastZero = t.now ∧
      ((t.tickOn.takeAsk n).pwmOf n).first = true) ∧
  (∀ (s : State) (rq : Rq) (n : Fin 16), s.reaches rq (R.AX_PWM_CTL n) → s.clk.down.contains 8 = false → s.pwmState n ≠
      0 ∨ s.is (F.AX_PWM_CTL_ARM n) = false → s.enableHeld n = false → ∃ t, exec (.outEn rq n) s = .next t ∧ t.is
      (F.AX_PWM_CTL_OUT_EN n) = true) ∧
  (∀ (s : State) (rq : Rq) (n : Fin 16), s.reaches rq (R.AX_PWM_CTL n) → s.clk.down.contains 8 = false → s.pwmState n ≠
      0 ∨ s.is (F.AX_PWM_CTL_ARM n) = false → ∃ t, exec (.pwmFaultClr rq n) s = .next t ∧ t.is (F.AX_PWM_STATUS_FAULT n)
      = false ∧ t.is (F.AX_PWM_STATUS_LAUNCH_OFF n) = false) ∧
  (∀ (s : State) (rq : Rq) (n : Fin 16) (i : Fin 8) (v : Word), s.reaches rq (R.AX_PWM_MASK n i) → ∃ t, exec
      (.pwmMaskWrite rq n i v) s = .next t ∧ t.g (F.AX_PWM_MASK_MASK n i) = getBits v 0 6) ∧
  (∀ (s : State) (rq : Rq) (n : Fin 16) (v : Word), s.reaches rq (R.AX_PWM_MASK_CFG n) → getBits v 4 3 < effLength
      (getBits v 0 4) → getBits v 8 2 ≠ 3 → ∃ t, exec (.pwmMaskCfgWrite rq n v) s = .next t ∧ getBits (t.rd
      (R.AX_PWM_MASK_CFG n)) 0 10 = getBits v 0 10) ∧
  (∀ (s : State) (rq : Rq) (n : Fin 16) (v : Word), s.reaches rq (R.AX_PWM_ALIGN n) → ∃ t, exec (.pwmAlignWrite rq n v)
      s = .next t ∧ getBits (t.rd (R.AX_PWM_ALIGN n)) 0 24 = getBits v 0 24) ∧
  (∀ (s : State) (rq : Rq) (n : Fin 16) (v : Word), s.reaches rq (R.AX_PWM_CFG n) → getBits v 0 2 ≠ 3 → getBits v 2 2 ≠
      3 → s.pwmState n = 0 → ∃ t, exec (.pwmCfgWrite rq n v) s = .next t ∧ t.g (F.AX_PWM_CFG_LOAD n) = getBits v 2 2 ∧
      t.cntMode n = getBits v 0 2 ∧ t.axGroup n = getBits v 4 2 ∧ t.g (F.AX_PWM_CFG_ADAPT_EN n) = getBits v 6 1) ∧
  (∀ (s : State) (rq : Rq) (n : Fin 16) (v : Word), s.reaches rq (R.AX_PWM_CFG n) → getBits v 2 2 ≠ 3 → getBits v 0 2 =
      s.cntMode n → getBits v 4 2 = s.axGroup n → getBits v 6 1 = s.g (F.AX_PWM_CFG_ADAPT_EN n) → s.cntMode n ≠ 3 → ∃ t,
      exec (.pwmCfgWrite rq n v) s = .next t ∧ t.g (F.AX_PWM_CFG_LOAD n) = getBits v 2 2 ∧ t.is
      (F.AX_PWM_STATUS_CFG_REFUSED n) = s.is (F.AX_PWM_STATUS_CFG_REFUSED n) ∧ sameRegsBut [R.AX_PWM_CFG n] s t ∧ t.pwm
      = s.pwm) ∧
  (∀ (s : State) (rq : Rq) (n : Fin 16) (v : Word), s.reaches rq (R.AX_PWM_DT_CFG n) → getBits v 0 9 ≤ getBits v 16 9 →
      ∃ t, exec (.pwmDtCfgWrite rq n v) s = .next t ∧ t.g (F.AX_PWM_DT_CFG_DT_MIN n) = getBits v 0 9 ∧ t.g
      (F.AX_PWM_DT_CFG_DT_MAX n) = getBits v 16 9 ∧ sameRegsBut [R.AX_PWM_DT_CFG n] s t ∧ t.pwm = s.pwm) ∧
  (∀ (s : State) (rq : Rq) (n : Fin 16) (v : Word), s.reaches rq (R.AX_PWM_EVT_CFG n) → getBits v 20 2 ≠ 3 → ∃ t, exec
      (.pwmEvtCfgWrite rq n v) s = .next t ∧ getBits (t.rd (R.AX_PWM_EVT_CFG n)) 0 27 = getBits v 0 27)

/-- Each of these events of a PWM unit completes under the conditions its clause gives. A zero or period point turns the
counter's direction, and a zero point records its exact time; without HOLD a PERIOD in range loads at a zero point,
and the other shadows load at an update point, after the first carrier period of a soft start; a crossing of a
phase's compare turns its command; at the deciding instant a waiting switch turns on where MIN_PULSE is 0, and with
HOLD where its predicted on-time is at least MIN_PULSE, and no register changes; a valid node transition is
measured; after eight periods without one the dead time becomes DT_MAX, the bit is set and one event recorded; an
align event of source 0 moves the mask index by one, the last one sets ALIGN_DONE and stops the sequencer; a period
action starts an ARMED unit at the launch time; a commutation of source 2 in mask mode moves the mask index by one,
and with another source it only sets COMM_IGNORED. -/
def Obligations.PwmEventsTakeEffect : Prop :=
  (∀ (s : State) (n : Fin 16) (zero : Bool), s.pointDue n zero = true → ∃ t, exec (.pwmUpdatePoint n zero) s = .next t ∧
      (t.pwmOf n).rise = zero ∧ (t.pwmOf n).lastZero = (if zero then s.pointTime n true else (s.pwmOf n).lastZero)) ∧
  (∀ (s : State) (n : Fin 16), s.pointDue n true = true → s.is (F.AX_PWM_SHADOW_HOLD n) = false → (s.pwmOf n).holdBack =
      false → (s.pwmOf n).first = false → periodOk (s.cntMode n) (s.shadows n).period = true → ∃ t, exec
      (.pwmUpdatePoint n true) s = .next t ∧ (t.pwmOf n).period = (s.shadows n).period) ∧
  (∀ (s : State) (n : Fin 16) (zero : Bool), s.pointDue n zero = true → s.isUpdate n zero = true → s.is
      (F.AX_PWM_SHADOW_HOLD n) = false → (s.pwmOf n).first = false → ∃ t, exec (.pwmUpdatePoint n zero) s = .next t ∧
      (t.pwmOf n).cmp = (s.shadows n).cmp ∧ (t.pwmOf n).ovr = (s.shadows n).ovr ∧ (t.pwmOf n).mode = (s.shadows n).mode
      ∧ (t.pwmOf n).updated = true) ∧
  (∀ (s : State) (n : Fin 16) (value : Nat) (up : Bool) (x : Fin 3), s.running n = true → value ≠ 0 → value < (s.pwmOf
      n).period → (s.pwmOf n).eff x = value → (s.pwmOf n).want.length = 3 → ∃ t, exec (.pwmCompareCrossing n value up) s
      = .next t ∧ (t.pwmOf n).want.getD x false = !s.counting n up) ∧
  (∀ (s : State) (n : Fin 16) (w : Fin 6) (pos : Nat) (up : Bool), s.running n = true → (s.pwmOf n).wait.getD w false =
      true → s.g (F.AX_PWM_DT_GUARD_MIN_PULSE n) = 0 → (s.pwmOf n).on.length = 6 → ∃ t, exec (.pwmDeadTimeEnd n w pos
      up) s = .next t ∧ (t.pwmOf n).on.getD w false = true ∧ (t.pwmOf n).wait.getD w true = false ∧ t.regs = s.regs) ∧
  (∀ (s : State) (n : Fin 16) (w : Fin 6) (pos : Nat) (up : Bool), s.running n = true → (s.pwmOf n).wait.getD w false =
      true → s.is (F.AX_PWM_SHADOW_HOLD n) = true → (s.pwmOf n).on.length = 6 → ∃ t, exec (.pwmDeadTimeEnd n w pos up) s
      = .next t ∧ (t.pwmOf n).on.getD w false = decide (16 * s.g (F.AX_PWM_DT_GUARD_MIN_PULSE n) ≤ onTime (s.cntMode n)
      (s.pwmOf n).period (s.pwmOf n).period pos (s.counting n up) (w.val % 2 == 0) ((s.pwmOf n).eff (w / 2)) ((s.pwmOf
      n).eff (w / 2)) ((s.pwmOf n).eff (w / 2))) ∧ (t.pwmOf n).wait.getD w true = false ∧ t.regs = s.regs) ∧
  (∀ (s : State) (n : Fin 16) (x : Fin 3) (rise : Bool) (delay : Nat), s.running n = true → (s.pwmOf n).wait.getD (2 * x
      + bit (!rise)) false = true → (s.pwmOf n).measured.length = 6 → ∃ t, exec (.switchingNodeTransition n x rise
      delay) s = .next t ∧ t.g (measField n (2 * x + bit (!rise))) = min delay 65535 ∧ (t.pwmOf n).measured.getD (2 * x
      + bit (!rise)) false = true ∧ sameRegsBut [(measField n (2 * x + bit (!rise))).addr] s t) ∧
  (∀ (s : State) (n : Fin 16) (d : Fin 6), s.running n = true → 8 ≤ (s.pwmOf n).noMeas.getD d 0 → testBit (s.g
      (F.AX_PWM_STATUS_DT_FALLBACK n)) d = false → ∃ t, exec (.deadTimeFallback n d) s = .next t ∧ t.g (dtField n d) =
      (s.pwmOf n).dtMax % 512 ∧ testBit (t.g (F.AX_PWM_STATUS_DT_FALLBACK n)) d = true ∧ t.evt.detected.length =
      s.evt.detected.length + 1) ∧
  (∀ (s : State) (n : Fin 16), s.running n = true → (s.pwmOf n).mode = true → (s.pwmOf n).alignRun = true → s.g
      (F.AX_PWM_MASK_CFG_SRC n) = 0 → s.g (F.AX_PWM_ALIGN_COUNT n) ≠ 0 → (s.pwmOf n).alignLeft = 1 → (s.pwmOf
      n).alignTick + s.g (F.AX_PWM_ALIGN_INTERVAL n) * 250 ≤ s.tb.ticks → s.pointDue n true = false → s.pointDue n false
      = false → ∃ t, exec (.alignEvent n) s = .next t ∧ t.is (F.AX_PWM_STATUS_ALIGN_DONE n) = true ∧ (t.pwmOf
      n).alignRun = false) ∧
  (∀ (s : State) (n : Fin 16), s.running n = true → (s.pwmOf n).mode = true → (s.pwmOf n).alignRun = true → s.g
      (F.AX_PWM_MASK_CFG_SRC n) = 0 → s.g (F.AX_PWM_ALIGN_COUNT n) = 0 ∨ 1 < (s.pwmOf n).alignLeft → (s.pwmOf
      n).alignTick + s.g (F.AX_PWM_ALIGN_INTERVAL n) * 250 ≤ s.tb.ticks → s.maskDown n = false → s.pointDue n true =
      false → s.pointDue n false = false → ∃ t, exec (.alignEvent n) s = .next t ∧ t.g (F.AX_PWM_STATUS_MASK_IDX n) =
      (s.g (F.AX_PWM_STATUS_MASK_IDX n) + 1) % effLength (s.g (F.AX_PWM_MASK_CFG_LENGTH n)) ∧ (t.pwmOf n).alignRun =
      true ∧ (t.pwmOf n).alignTick = (s.pwmOf n).alignTick + s.g (F.AX_PWM_ALIGN_INTERVAL n) * 250) ∧
  (∀ (s : State) (n : Fin 16) (h : Held) (rest : List Held), s.firstDue s.held = some (h, rest) → h.e.code = 0x20 →
      h.e.target = n → s.isolated regTime = false → s.pwmState n = 1 → ∃ t, exec (.pwmPeriod n) s = .next t ∧ t.pwmState
      n = 2 ∧ (t.pwmOf n).lastZero = h.e.time) ∧
  (∀ (s : State) (n : Fin 16) (h : Held) (rest : List Held), s.firstDue s.held = some (h, rest) → h.e.code = 0x21 →
      h.e.target = n → s.pointDue n true = false → s.pointDue n false = false → s.g (F.AX_PWM_MASK_CFG_SRC n) ≠ 2 → exec
      (.commutate n) s = .next ({ s with held := rest }.on (F.AX_PWM_STATUS_COMM_IGNORED n))) ∧
  (∀ (s : State) (n : Fin 16) (h : Held) (rest : List Held), s.firstDue s.held = some (h, rest) → h.e.code = 0x21 →
      h.e.target = n → s.pointDue n true = false → s.pointDue n false = false → s.g (F.AX_PWM_MASK_CFG_SRC n) = 2 →
      (s.pwmOf n).mode = true → s.maskDown n = false → ∃ t, exec (.commutate n) s = .next t ∧ t.g
      (F.AX_PWM_STATUS_MASK_IDX n) = (s.g (F.AX_PWM_STATUS_MASK_IDX n) + 1) % effLength (s.g (F.AX_PWM_MASK_CFG_LENGTH
      n)) ∧ t.held = rest)

/-- R111, R112: the brake choppers; each event completes. A new window of 10 ms reports the on-time of the last one in
ON_TIME, in µs, and clears LIMIT; a spent duty turns a chopper that is on off, with LIMIT and LIMIT_SEEN set; a
change that waited for MIN_TIME takes effect once MIN_TIME has passed, to off in every case and to on where the
chopper is not held off and its LIMIT is clear. -/
def Obligations.BrakeChoppersFollowTheirRules : Prop :=
  (∀ (s : State) (g : Fin 4), (s.bchOf g).win ≠ s.chopWindow → ∃ t, exec (.bchWindowStart g) s = .next t ∧ t.g
      (F.GLB_BCH_STATUS_ON_TIME g) = min (s.chopAcc g * 4 / 1000) 65535 ∧ t.is (F.GLB_BCH_STATUS_LIMIT g) = false ∧
      (t.bchOf g).acc = 0 ∧ (t.bchOf g).win = s.chopWindow) ∧
  (∀ (s : State) (g : Fin 4), s.is (F.GLB_BCH_STATUS_ON g) = true → s.dutySpent g = true → ∃ t, exec (.bchDutyLimit g) s
      = .next t ∧ t.is (F.GLB_BCH_STATUS_ON g) = false ∧ t.is (F.GLB_BCH_STATUS_LIMIT g) = true ∧ t.is
      (F.GLB_BCH_STATUS_LIMIT_SEEN g) = true) ∧
  (∀ (s : State) (g : Fin 4), (s.bchOf g).wait = some false → s.chopFree g = true → ∃ t, exec (.bchMinTimeEnd g) s =
      .next t ∧ t.is (F.GLB_BCH_STATUS_ON g) = false ∧ (t.bchOf g).wait = none) ∧
  (∀ (s : State) (g : Fin 4) (v : Bool), (s.bchOf g).wait = some v → s.chopFree g = true → s.chopOff g = false → s.is
      (F.GLB_BCH_STATUS_LIMIT g) = false → ∃ t, exec (.bchMinTimeEnd g) s = .next t ∧ t.is (F.GLB_BCH_STATUS_ON g) = v ∧
      (t.bchOf g).wait = none)

/-- Each of these commands of an axis's current inputs completes under the conditions its clause gives. A Sinc3 result
at the end of its window, with the clock running, gives RAW_A and RAW_B the normalised results and the stamp the
window's centre, closes the window, makes VALID unless an input is stuck, and with MEAS_PAIR 0 gives the phase
currents from the scale in force at the window's first edge; a fast result fills both fast registers; a stuck input
clears VALID, shows in its bit and, where no reaction of a higher level holds the axis, puts it into its cell fault;
a configuration in range takes its fields while the unit is DISABLED, and STUCK_LIM at any time; a read of a current
or telemetry stamp copies the registers that belong to it for the requester and changes no register; a waiting
sampling frequency is applied when no axis of the pin is ARMED or RUNNING. -/
def Obligations.CurrentInputsTakeTheirResults : Prop :=
  (∀ (s : State) (n : Fin 16) (rawA : Nat) (rawB : Nat) (w : CsWin), (s.csOf n).win = some w → w.endTick ≤ s.tb.ticks →
      s.sdRuns (n.val / 4) = true → ∃ t, exec (.sinc3Result n rawA rawB) s = .next t ∧ t.gi (F.AX_CS_RAW_A_Q n) =
      normalise (min rawA (s.g (F.AX_CS_CFG_OSR n) ^ 3)) (s.g (F.AX_CS_CFG_OSR n) ^ 3) ∧ t.gi (F.AX_CS_RAW_B_Q n) =
      normalise (min rawB (s.g (F.AX_CS_CFG_OSR n) ^ 3)) (s.g (F.AX_CS_CFG_OSR n) ^ 3) ∧ t.rd (R.AX_CS_STAMP n) =
      shortOf ((w.s : Int) + w.delta).toNat ∧ (t.csOf n).win = none ∧ t.is (F.AX_CS_STATUS_VALID n) = (!(s.csOf
      n).stuckA && !(s.csOf n).stuckB)) ∧
  (∀ (s : State) (n : Fin 16) (rawA : Nat) (rawB : Nat) (oa : Word) (ob : Word) (ga : Word) (gb : Word) (w : CsWin) (ia
      : Int) (ib : Int), (s.csOf n).win = some w → w.endTick ≤ s.tb.ticks → s.sdRuns (n.val / 4) = true → w.scale = [oa,
      ob, ga, gb] → s.g (F.AX_CS_CFG_MEAS_PAIR n) = 0 → ia = satI 32 (scaleRaw (normalise (min rawA (s.g
      (F.AX_CS_CFG_OSR n) ^ 3)) (s.g (F.AX_CS_CFG_OSR n) ^ 3)) (signed 24 oa.toNat) ga.int) → ib = satI 32 (scaleRaw
      (normalise (min rawB (s.g (F.AX_CS_CFG_OSR n) ^ 3)) (s.g (F.AX_CS_CFG_OSR n) ^ 3)) (signed 24 ob.toNat) gb.int) →
      ∃ t, exec (.sinc3Result n rawA rawB) s = .next t ∧ (t.rd (R.AX_CS_IU n)).int = ia ∧ (t.rd (R.AX_CS_IV n)).int = ib
      ∧ (t.rd (R.AX_CS_IW n)).int = satI 32 (-(ia + ib))) ∧
  (∀ (s : State) (n : Fin 16) (rawA : Nat) (rawB : Nat), s.is (F.AX_CS_CFG_EN n) = true → s.sdRuns (n.val / 4) = true →
      ∃ t, exec (.fastResult n rawA rawB) s = .next t ∧ t.gi (F.AX_CS_FAST_A_Q2 n) = normalise (min rawA (s.g
      (F.AX_CS_FAST_FAST_OSR n) ^ 2)) (s.g (F.AX_CS_FAST_FAST_OSR n) ^ 2) ∧ t.gi (F.AX_CS_FAST_B_Q2 n) = normalise (min
      rawB (s.g (F.AX_CS_FAST_FAST_OSR n) ^ 2)) (s.g (F.AX_CS_FAST_FAST_OSR n) ^ 2)) ∧
  (∀ (s : State) (n : Fin 16) (b : Bool), s.is (F.AX_CS_CFG_EN n) = true → ∃ t, exec (.currentInputStuck n b) s = .next
      t ∧ t.is (F.AX_CS_STATUS_VALID n) = false ∧ t.is (if b then F.AX_CS_STATUS_STUCK_B n else F.AX_CS_STATUS_STUCK_A
      n) = true) ∧
  (∀ (s : State) (n : Fin 16) (b : Bool), s.is (F.AX_CS_CFG_EN n) = true → s.higherRuns n = false → ∃ t, exec
      (.currentInputStuck n b) s = .next t ∧ t.is (F.AX_PWM_STATUS_FAULT n) = true ∧ t.is (F.AX_PWM_CTL_OUT_EN n) =
      false) ∧
  (∀ (s : State) (rq : Rq) (n : Fin 16) (v : Word), s.reaches rq (R.AX_CS_CFG n) → getBits v 1 2 ≠ 3 → 16 ≤ getBits v 4
      9 → getBits v 4 9 ≤ 256 → 16 ≤ getBits v 16 8 → s.pwmState n = 0 → ∃ t, exec (.csCfgWrite rq n v) s = .next t ∧
      t.g (F.AX_CS_CFG_EN n) = getBits v 0 1 ∧ t.g (F.AX_CS_CFG_MEAS_PAIR n) = getBits v 1 2 ∧ t.g (F.AX_CS_CFG_OSR n) =
      getBits v 4 9 ∧ t.g (F.AX_CS_CFG_STUCK_LIM n) = getBits v 16 8) ∧
  (∀ (s : State) (rq : Rq) (n : Fin 16) (v : Word), s.reaches rq (R.AX_CS_CFG n) → getBits v 1 2 ≠ 3 → 16 ≤ getBits v 4
      9 → getBits v 4 9 ≤ 256 → 16 ≤ getBits v 16 8 → getBits v 0 1 = s.g (F.AX_CS_CFG_EN n) → getBits v 1 2 = s.g
      (F.AX_CS_CFG_MEAS_PAIR n) → getBits v 4 9 = s.g (F.AX_CS_CFG_OSR n) → ∃ t, exec (.csCfgWrite rq n v) s = .next t ∧
      t.g (F.AX_CS_CFG_STUCK_LIM n) = getBits v 16 8 ∧ sameRegsBut [R.AX_CS_CFG n] s t ∧ t.sense = s.sense) ∧
  (∀ (s : State) (rq : Rq) (n : Fin 16), s.readErr (R.AX_CS_STAMP n) = false → ∃ t, exec (.csStampRead rq n) s = .next t
      ∧ t.snap rq (R.AX_CS_STAMP n) = (csSnapRegs n).map s.rd ∧ t.out = .read rq (R.AX_CS_STAMP n) (s.rd (R.AX_CS_STAMP
      n)) :: s.out ∧ t.regs = s.regs) ∧
  (∀ (s : State) (rq : Rq) (n : Fin 16), s.readErr (R.AX_TLM_STAMP n) = false → ∃ t, exec (.tlmStampRead rq n) s = .next
      t ∧ t.snap rq (R.AX_TLM_STAMP n) = (tlmSnapRegs n).map s.rd ∧ t.out = .read rq (R.AX_TLM_STAMP n) (s.rd
      (R.AX_TLM_STAMP n)) :: s.out ∧ t.regs = s.regs) ∧
  (∀ (s : State) (k : Fin 4) (f : Fin 4), tabGet (fun _ => none) s.sense.sdPend k = some f.val → s.sdBusy k = false → ∃
      t, exec (.sdclkFreqApply k) s = .next t ∧ t.g F.GLB_SDCLK_CFG_FREQ / 4 ^ k.val % 4 = f ∧ tabGet (fun _ => none)
      t.sense.sdPend k = none ∧ sameRegsBut [R.GLB_SDCLK_CFG] s t)

/-- Each of these commands of a DC-link input completes under the conditions its clause gives. A free-running result
fills its register and makes VALID unless the input is latched invalid; a launched sample opens a window centred on
the launch time, or on the instant of a late launch, and changes no register; a sampled result at the end of its
window fills its register and the stamp and makes VALID; a stuck input shows, clears VALID and turns the chopper
off; a configuration takes EN, DLY and STUCK_LIM and keeps OSR. -/
def Obligations.DcLinkInputsTakeTheirResults : Prop :=
  (∀ (s : State) (g : Fin 4) (raw : Nat), s.is (F.GLB_DL_CFG_EN g) = true → s.sdRuns g = true → (s.dlOf g).bad = false →
      ∃ t, exec (.dclinkFreeResult g raw) s = .next t ∧ t.gi (F.GLB_DL_FREE_Q g) = normalise (min raw (s.g
      (F.GLB_DL_CFG_OSR g) ^ 3)) (s.g (F.GLB_DL_CFG_OSR g) ^ 3) ∧ t.is (F.GLB_DL_STATUS_VALID g) = true) ∧
  (∀ (s : State) (g : Fin 4) (h : Held) (rest : List Held) (i : Nat), s.firstDue s.held = some (h, rest) → h.e.code =
      0x11 → h.e.target = g → s.is (F.GLB_DL_CFG_EN g) = true → s.sdRuns g = true → (s.dlOf g).win = none → i = (if
      h.late then s.instant h else h.e.time) → ∃ t, exec (.dclinkSample g) s = .next t ∧ ((t.dlOf g).win.map fun w =>
      (w.1, w.2.1)) = some (i, centring i (s.g (F.GLB_DL_CFG_OSR g)) (s.sdPeriod g) (s.sdOff g)) ∧ t.regs = s.regs ∧
      t.held = rest) ∧
  (∀ (s : State) (g : Fin 4) (raw : Nat) (w : Nat × Int × Nat), (s.dlOf g).win = some w → w.2.2 ≤ s.tb.ticks → s.sdRuns
      g = true → (s.dlOf g).bad = false → ∃ t, exec (.dclinkSampleResult g raw) s = .next t ∧ t.gi (F.GLB_DL_SAMPLE_Q g)
      = normalise (min raw (s.g (F.GLB_DL_CFG_OSR g) ^ 3)) (s.g (F.GLB_DL_CFG_OSR g) ^ 3) ∧ t.is (F.GLB_DL_STATUS_VALID
      g) = true ∧ t.rd (R.GLB_DL_STAMP g) = shortOf ((w.1 : Int) + w.2.1).toNat ∧ (t.dlOf g).win = none) ∧
  (∀ (s : State) (g : Fin 4), s.is (F.GLB_DL_CFG_EN g) = true → ∃ t, exec (.dclinkStuck g) s = .next t ∧ t.is
      (F.GLB_DL_STATUS_STUCK g) = true ∧ t.is (F.GLB_DL_STATUS_VALID g) = false ∧ (t.dlOf g).bad = true ∧ t.is
      (F.GLB_BCH_STATUS_ON g) = false) ∧
  (∀ (s : State) (rq : Rq) (g : Fin 4) (v : Word), s.reaches rq (R.GLB_DL_CFG g) → 16 ≤ getBits v 16 8 → ∃ t, exec
      (.dlCfgWrite rq g v) s = .next t ∧ t.g (F.GLB_DL_CFG_EN g) = getBits v 0 1 ∧ t.g (F.GLB_DL_CFG_DLY g) = getBits v
      10 5 ∧ t.g (F.GLB_DL_CFG_STUCK_LIM g) = getBits v 16 8 ∧ t.g (F.GLB_DL_CFG_OSR g) = s.g (F.GLB_DL_CFG_OSR g))

/-- Each of these commands of a telemetry link completes under the conditions its clause gives. A third good frame in a
row at one bit offset locks the search there, and a bad one starts the count of its offset anew; in lock a good
frame fills the telemetry registers and the stamp, a first bad one is counted with CRC_ERR and the lock stays, a
second one loses the link, which searches again; EN starts the search, EN 0 disables the link, and a write that
keeps EN gives the fault mask alone. -/
def Obligations.TelemetryLinksFollowTheirFrames : Prop :=
  (∀ (s : State) (n : Fin 16) (offset : Fin 160) (f : Nat), s.g (F.AX_TLM_STATUS_STATE n) = 1 → frameBits f 0 15 =
      0xE35A → frameOk f = true → tabGet (fun _ => 0) (s.tlmOf n).cnt offset = 2 → ∃ t, exec (.tlmFrame n offset f) s =
      .next t ∧ t.g (F.AX_TLM_STATUS_STATE n) = 2 ∧ t.g (F.AX_TLM_STATUS_OFFSET n) = offset ∧ t.is
      (F.AX_TLM_STATUS_STALE n) = false ∧ t.g (F.AX_TLM_STATUS_SEQ n) = frameBits f 16 23) ∧
  (∀ (s : State) (n : Fin 16) (offset : Fin 160) (f : Nat), s.g (F.AX_TLM_STATUS_STATE n) = 2 → s.g
      (F.AX_TLM_STATUS_OFFSET n) = offset → frameOk f = true → ∃ t, exec (.tlmFrame n offset f) s = .next t ∧ t.g
      (F.AX_TLM_STATUS_SEQ n) = frameBits f 16 23 ∧ t.g (F.AX_TLM_TEMP_UV_TEMP_U n) = frameBits f 32 47 ∧ t.g
      (F.AX_TLM_TEMP_W_TEMP_W n) = frameBits f 64 79 ∧ t.rd (R.AX_TLM_STAMP n) = s.short ∧ t.tlmOf n = TlmSt.reset) ∧
  (∀ (s : State) (n : Fin 16) (offset : Fin 160) (f : Nat), s.g (F.AX_TLM_STATUS_STATE n) = 2 → s.g
      (F.AX_TLM_STATUS_OFFSET n) = offset → frameOk f = false → (s.tlmOf n).fails = 0 → ∃ t, exec (.tlmFrame n offset f)
      s = .next t ∧ t.is (F.AX_TLM_STATUS_CRC_ERR n) = true ∧ t.g (F.AX_TLM_STATUS_STATE n) = 2 ∧ (t.tlmOf n).fails = 1) ∧
  (∀ (s : State) (n : Fin 16) (offset : Fin 160) (f : Nat), s.g (F.AX_TLM_STATUS_STATE n) = 2 → s.g
      (F.AX_TLM_STATUS_OFFSET n) = offset → frameOk f = false → (s.tlmOf n).fails ≠ 0 → ∃ t, exec (.tlmFrame n offset f)
      s = .next t ∧ t.is (F.AX_TLM_STATUS_LOST n) = true ∧ t.g (F.AX_TLM_STATUS_STATE n) = 1 ∧ t.is
      (F.AX_TLM_STATUS_STALE n) = true ∧ t.tlmOf n = TlmSt.reset) ∧
  (∀ (s : State) (n : Fin 16) (offset : Fin 160) (f : Nat), s.g (F.AX_TLM_STATUS_STATE n) = 1 → frameBits f 0 15 ≠
      0xE35A ∨ frameOk f = false → ∃ t, exec (.tlmFrame n offset f) s = .next t ∧ tabGet (fun _ => 0) (t.tlmOf n).cnt
      offset = 0 ∧ t.g (F.AX_TLM_STATUS_STATE n) = 1) ∧
  (∀ (s : State) (rq : Rq) (n : Fin 16) (v : Word), s.reaches rq (R.AX_TLM_CFG n) → s.is (F.AX_TLM_CFG_EN n) = false →
      getBits v 0 1 = 1 → ∃ t, exec (.tlmCfgWrite rq n v) s = .next t ∧ t.is (F.AX_TLM_CFG_EN n) = true ∧ t.g
      (F.AX_TLM_CFG_GD_FAULT_MASK n) = getBits v 16 16 ∧ t.g (F.AX_TLM_STATUS_STATE n) = 1 ∧ t.is (F.AX_TLM_STATUS_STALE
      n) = true) ∧
  (∀ (s : State) (rq : Rq) (n : Fin 16) (v : Word), s.reaches rq (R.AX_TLM_CFG n) → s.is (F.AX_TLM_CFG_EN n) = true →
      getBits v 0 1 = 0 → ∃ t, exec (.tlmCfgWrite rq n v) s = .next t ∧ t.is (F.AX_TLM_CFG_EN n) = false ∧ t.g
      (F.AX_TLM_STATUS_STATE n) = 0) ∧
  (∀ (s : State) (rq : Rq) (n : Fin 16) (v : Word), s.reaches rq (R.AX_TLM_CFG n) → getBits v 0 1 = s.g (F.AX_TLM_CFG_EN
      n) → ∃ t, exec (.tlmCfgWrite rq n v) s = .next t ∧ t.g (F.AX_TLM_CFG_GD_FAULT_MASK n) = getBits v 16 16 ∧
      sameRegsBut [R.AX_TLM_CFG n] s t ∧ t.sense = s.sense)

/-- Each of these commands of a feedback channel or a probe completes under the conditions its clause gives. FB_LOAD
keeps the position to load and Z_ARM arms the index load, with no register changed; FAULT_CLR clears FAULT and
changes no other register, and nothing else on a channel that is not lent, while a lent one resumes; a soft limit
whose other side stays beyond it applies both words; a configuration that no rule refuses takes its fields while the
unit is DISABLED; a stamp read copies its registers for the requester; a probe's head entry leaves; a probe
configuration bound to an axis or auxiliary channel of the probe's owner is taken. -/
def Obligations.FeedbackCommandsTakeEffect : Prop :=
  (∀ (s : State) (rq : Rq) (n : Fin 16), s.reaches rq (R.AX_FB_CMD n) → ∃ t, exec (.fbLoad rq n) s = .next t ∧ (t.fbOf
      n).loadP = some (s.rd64 (R.AX_FB_LOAD_LO n) (R.AX_FB_LOAD_HI n)) ∧ t.regs = s.regs) ∧
  (∀ (s : State) (rq : Rq) (n : Fin 16), s.reaches rq (R.AX_FB_CMD n) → s.is (F.AX_FB_STATUS_LENT n) = false → ∃ t, exec
      (.fbFaultClr rq n) s = .next t ∧ t.is (F.AX_FB_STATUS_FAULT n) = false ∧ sameRegsBut [R.AX_FB_STATUS n] s t ∧
      sameBut [.regs] s t) ∧
  (∀ (s : State) (rq : Rq) (n : Fin 16), s.reaches rq (R.AX_FB_CMD n) → s.is (F.AX_FB_STATUS_LENT n) = true → ∃ t, exec
      (.fbFaultClr rq n) s = .next t ∧ t.is (F.AX_FB_STATUS_FAULT n) = false ∧ (t.fbOf n).stopped = false ∧ sameRegsBut
      [R.AX_FB_STATUS n] s t) ∧
  (∀ (s : State) (rq : Rq) (n : Fin 16), s.reaches rq (R.AX_FB_CMD n) → ∃ t, exec (.zArm rq n) s = .next t ∧ (t.fbOf
      n).zArm = true ∧ t.regs = s.regs) ∧
  (∀ (s : State) (rq : Rq) (n : Fin 16) (v : Word), s.reaches rq (R.AX_FB_SOFT_MAX_HI n) → (s.fbOf n).softMin < signed
      64 ((s.rd (R.AX_FB_SOFT_MAX_LO n)).toNat + 2 ^ 32 * v.toNat) → ∃ t, exec (.softLimitWrite rq n true v) s = .next t
      ∧ (t.fbOf n).softMax = signed 64 ((s.rd (R.AX_FB_SOFT_MAX_LO n)).toNat + 2 ^ 32 * v.toNat) ∧ (t.fbOf n).softMin =
      (s.fbOf n).softMin ∧ t.rd (R.AX_FB_SOFT_MAX_HI n) = v) ∧
  (∀ (s : State) (rq : Rq) (n : Fin 16) (v : Word), s.reaches rq (R.AX_FB_SOFT_MIN_HI n) → signed 64 ((s.rd
      (R.AX_FB_SOFT_MIN_LO n)).toNat + 2 ^ 32 * v.toNat) < (s.fbOf n).softMax → ∃ t, exec (.softLimitWrite rq n false v)
      s = .next t ∧ (t.fbOf n).softMin = signed 64 ((s.rd (R.AX_FB_SOFT_MIN_LO n)).toNat + 2 ^ 32 * v.toNat) ∧ (t.fbOf
      n).softMax = (s.fbOf n).softMax ∧ t.rd (R.AX_FB_SOFT_MIN_HI n) = v) ∧
  (∀ (s : State) (rq : Rq) (n : Fin 16) (v : Word), s.reaches rq (R.AX_FB_CFG n) → s.pwmState n = 0 → s.fbCfgBad n v =
      false → ∃ t, exec (.fbCfgWrite rq n v) s = .next t ∧ t.rd (R.AX_FB_CFG n) = v &&& 0x00FF7FFF) ∧
  (∀ (s : State) (rq : Rq) (n : Fin 16), s.readErr (R.AX_FB_STAMP n) = false → ∃ t, exec (.fbStampRead rq n) s = .next t
      ∧ t.snap rq (R.AX_FB_STAMP n) = (fbSnapRegs n).map s.rd ∧ t.out = .read rq (R.AX_FB_STAMP n) (s.rd (R.AX_FB_STAMP
      n)) :: s.out ∧ t.regs = s.regs) ∧
  (∀ (s : State) (rq : Rq) (k : Fin 8) (h : PrbLatch) (rest : List PrbLatch), s.reaches rq (R.GLB_PRB_POP k) → (s.prbOf
      k).fifo = h :: rest → ∃ t, exec (.probePop rq k) s = .next t ∧ (t.prbOf k).fifo = rest ∧ t.g
      (F.GLB_PRB_STATUS_LEVEL k) = rest.length % 8) ∧
  (∀ (s : State) (rq : Rq) (k : Fin 8) (v : Word), s.reaches rq (R.GLB_PRB_CFG k) → getBits v 2 2 ≠ 3 → getBits v 14 5 <
      24 → s.holder (if getBits v 13 1 = 1 then .aux (getBits v 14 5) else .axis (getBits v 4 4)) = s.holder (.probe k)
      → ∃ t, exec (.probeCfgWrite rq k v) s = .next t ∧ t.rd (R.GLB_PRB_CFG k) = v &&& 0x0007FFFF ∧ sameRegsBut
      [R.GLB_PRB_CFG k] s t ∧ sameBut [.regs] s t)

/-- Each of these events of a feedback channel completes under the conditions its clause gives. A line edge moves the
count by one in the channel's direction; an invalid edge and a lost line set their flags, and the invalid edge
leaves the count; an index edge latches position and stamp, and loads the position where that is armed; a sin/cos
pair shows in the ADC registers, one whose amplitude lies outside the window sets AMP_LOW or AMP_HIGH, one whose
angle fits the comparators moves the count by the angle it has gone through, and one that does not sets SYNC_ERR and
leaves the count; a ride-through that ends without a good sample sets FAULT and stops the channel; an SSI frame that
passes is stored and counted, a failing one sets SSI_FAIL, and either ends its transfer and begins the gap TM; the
gap TM ends; a Hall step of one or two sectors moves the count by so many, the latter with HALL_SKIP, one of three
sets HALL_AMBIG and leaves it, and an invalid or first state leaves it; a good sample is reported with its stamp,
position and filtered velocity at its ready time, a failing one by extrapolation, and a stopped channel reports
none. -/
def Obligations.FeedbackEventsTakeEffect : Prop :=
  (∀ (s : State) (n : Fin 16) (up : Bool), s.fbEn n = true → s.incMode n = 1 → ∃ t, exec (.encoderEdge n up false) s =
      .next t ∧ (t.fbOf n).inc.c = (s.fbOf n).inc.c + (if up then s.fbSign n else -s.fbSign n) ∧ sameRegsBut
      [R.AX_FB_STATUS n] s t) ∧
  (∀ (s : State) (n : Fin 16) (up : Bool), s.fbEn n = true → s.incMode n = 1 → ∃ t, exec (.encoderEdge n up true) s =
      .next t ∧ t.is (F.AX_FB_STATUS_QUAD_ERR n) = true ∧ (t.fbOf n).inc = (s.fbOf n).inc) ∧
  (∀ (s : State) (n : Fin 16), s.fbEn n = true → s.incMode n ≠ 0 → ∃ t, exec (.encoderLineLoss n) s = .next t ∧ t.is
      (F.AX_FB_STATUS_LINE_ERR n) = true) ∧
  (∀ (s : State) (n : Fin 16), s.fbEn n = true → s.g (F.AX_FB_CFG_ZMODE n) ≠ 0 → ∃ t, exec (.indexEdge n) s = .next t ∧
      t.rd (R.AX_FB_ZLAT_STAMP n) = s.short ∧ t.is (F.AX_FB_STATUS_Z_SEEN n) = true ∧ t.rd (R.AX_FB_ZLAT_LO n) =
      BitVec.ofNat 32 (unsigned 64 (s.posNow n)) ∧ t.rd (R.AX_FB_ZLAT_HI n) = BitVec.ofNat 32 (unsigned 64 (s.posNow n)
      / 2 ^ 32)) ∧
  (∀ (s : State) (n : Fin 16), s.fbEn n = true → s.g (F.AX_FB_CFG_ZMODE n) = 2 → (s.fbOf n).zArm = true → ∃ t, exec
      (.indexEdge n) s = .next t ∧ (t.fbOf n).zArm = false ∧ ((t.fbOf n).dec (s.primary n)).o = s.rd64 (R.AX_FB_LOAD_LO
      n) (R.AX_FB_LOAD_HI n) - s.rawPos n (s.primary n)) ∧
  (∀ (s : State) (n : Fin 16) (a : Int) (b : Int) (quads : Int) (x : Int × Int) (w : Int), s.fbEn n = true → s.incMode n
      = 2 → x = scCorrect ((s.convCfg n).getD 0 0) ((s.convCfg n).getD 1 0) a b → w = scWindow ((s.convCfg n).getD 2 0)
      (x.1 ^ 2 + x.2 ^ 2) → ∃ t, exec (.sincosConversion n a b quads) s = .next t ∧ (w < 0 → t.is
      (F.AX_FB_STATUS_AMP_LOW n) = true) ∧ (0 < w → t.is (F.AX_FB_STATUS_AMP_HIGH n) = true) ∧ t.gi (F.AX_FB_SC_ADC_A n)
      = signed 16 (unsigned 16 a) ∧ t.gi (F.AX_FB_SC_ADC_B n) = signed 16 (unsigned 16 b)) ∧
  (∀ (s : State) (n : Fin 16) (a : Int) (b : Int) (quads : Int) (x : Int × Int) (w : Int) (c0 : Int) (c : Int) (a0 :
      Int), s.fbEn n = true → s.incMode n = 2 → x = scCorrect ((s.convCfg n).getD 0 0) ((s.convCfg n).getD 1 0) a b → w
      = scWindow ((s.convCfg n).getD 2 0) (x.1 ^ 2 + x.2 ^ 2) → w = 0 → (s.fbOf n).cq = some c0 → (s.fbOf n).scAbs =
      some a0 → reconcile (c0 + quads) (atan16 x.2 x.1 / 16384) = some c → ∃ t, exec (.sincosConversion n a b quads) s =
      .next t ∧ (t.fbOf n).cq = some c ∧ (t.fbOf n).scAbs = some (floorDiv c 4 * 65536 + atan16 x.2 x.1) ∧ (t.fbOf
      n).inc.c = (s.fbOf n).inc.c + s.fbSign n * (floorDiv c 4 * 65536 + atan16 x.2 x.1 - a0)) ∧
  (∀ (s : State) (n : Fin 16) (a : Int) (b : Int) (quads : Int) (x : Int × Int) (w : Int) (c0 : Int), s.fbEn n = true →
      s.incMode n = 2 → x = scCorrect ((s.convCfg n).getD 0 0) ((s.convCfg n).getD 1 0) a b → w = scWindow ((s.convCfg
      n).getD 2 0) (x.1 ^ 2 + x.2 ^ 2) → w = 0 → (s.fbOf n).cq = some c0 → reconcile (c0 + quads) (atan16 x.2 x.1 /
      16384) = none → ∃ t, exec (.sincosConversion n a b quads) s = .next t ∧ t.is (F.AX_FB_STATUS_SYNC_ERR n) = true ∧
      (t.fbOf n).inc.c = (s.fbOf n).inc.c) ∧
  (∀ (s : State) (n : Fin 16), (s.fbOf n).riding = true → (s.fbOf n).rideTick + (s.fbOf n).ride * 250 ≤ s.tb.ticks → ∃
      t, exec (.rideExpiry n) s = .next t ∧ t.is (F.AX_FB_STATUS_FAULT n) = true ∧ (t.fbOf n).riding = false ∧ (t.fbOf
      n).stopped = true) ∧
  (∀ (s : State) (n : Fin 16) (frame : Nat) (r : SsiRun), (s.fbOf n).ssiRun = some r → r.done ≤ s.tb.ticks → s.is
      (F.AX_FB_CFG_SSI_EN n) = true → ∃ t, exec (.ssiTransferDone n false frame) s = .next t ∧ t.is
      (F.AX_FB_STATUS_SSI_FAIL n) = true ∧ (t.fbOf n).ssiRun = none ∧ (t.fbOf n).ssiIdle = some (s.tb.ticks + r.tm *
      250) ∧ (t.fbOf n).ssiPos = none) ∧
  (∀ (s : State) (n : Fin 16) (frame : Nat) (r : SsiRun), (s.fbOf n).ssiRun = some r → r.done ≤ s.tb.ticks → s.is
      (F.AX_FB_CFG_SSI_EN n) = true → (s.ssiParse n frame).2 ≠ (false, true) → ∃ t, exec (.ssiTransferDone n true frame)
      s = .next t ∧ t.is (F.AX_FB_STATUS_SSI_FAIL n) = true ∧ (t.fbOf n).ssiRun = none ∧ (t.fbOf n).ssi = (s.fbOf
      n).ssi) ∧
  (∀ (s : State) (n : Fin 16) (frame : Nat) (r : SsiRun), (s.fbOf n).ssiRun = some r → r.done ≤ s.tb.ticks → s.is
      (F.AX_FB_CFG_SSI_EN n) = true → (s.ssiParse n frame).2 = (false, true) → ∃ t, exec (.ssiTransferDone n true frame)
      s = .next t ∧ t.rd (R.AX_FB_SSI_RAW_LO n) = BitVec.ofNat 32 (s.ssiParse n frame).1 ∧ (t.fbOf n).ssiPrev = some
      (s.ssiParse n frame).1 ∧ (t.fbOf n).ssiRun = none ∧ (t.fbOf n).ssiIdle = some (s.tb.ticks + r.tm * 250) ∧ (t.fbOf
      n).ssi.c = s.ssiCount n (s.ssiParse n frame).1) ∧
  (∀ (s : State) (n : Fin 16) (t0 : Nat), (s.fbOf n).ssiIdle = some t0 → t0 ≤ s.tb.ticks → ∃ t, exec (.ssiIdleEnd n) s =
      .next t ∧ t.fbOf n = { s.fbOf n with ssiIdle := none } ∧ t.regs = s.regs) ∧
  (∀ (s : State) (n : Fin 16) (st : Fin 8) (x : Nat) (y : Nat), s.fbEn n = true → s.is (F.AX_FB_CFG_HALL_EN n) = true →
      (s.fbOf n).sector = some x → s.sectorOf n st = some y → (y + 6 - x) % 6 = 1 → ∃ t, exec (.hallTransition n st) s =
      .next t ∧ t.g (F.AX_FB_STATUS_HALL_STATE n) = st ∧ (t.fbOf n).sector = some y ∧ (t.fbOf n).hall.c = (s.fbOf
      n).hall.c + s.fbSign n) ∧
  (∀ (s : State) (n : Fin 16) (st : Fin 8) (x : Nat) (y : Nat), s.fbEn n = true → s.is (F.AX_FB_CFG_HALL_EN n) = true →
      (s.fbOf n).sector = some x → s.sectorOf n st = some y → (y + 6 - x) % 6 = 5 → ∃ t, exec (.hallTransition n st) s =
      .next t ∧ t.g (F.AX_FB_STATUS_HALL_STATE n) = st ∧ (t.fbOf n).sector = some y ∧ (t.fbOf n).hall.c = (s.fbOf
      n).hall.c + -s.fbSign n) ∧
  (∀ (s : State) (n : Fin 16) (st : Fin 8) (x : Nat) (y : Nat), s.fbEn n = true → s.is (F.AX_FB_CFG_HALL_EN n) = true →
      (s.fbOf n).sector = some x → s.sectorOf n st = some y → (y + 6 - x) % 6 = 2 → ∃ t, exec (.hallTransition n st) s =
      .next t ∧ t.g (F.AX_FB_STATUS_HALL_STATE n) = st ∧ (t.fbOf n).sector = some y ∧ (t.fbOf n).hall.c = (s.fbOf
      n).hall.c + s.fbSign n * 2 ∧ t.is (F.AX_FB_STATUS_HALL_SKIP n) = true) ∧
  (∀ (s : State) (n : Fin 16) (st : Fin 8) (x : Nat) (y : Nat), s.fbEn n = true → s.is (F.AX_FB_CFG_HALL_EN n) = true →
      (s.fbOf n).sector = some x → s.sectorOf n st = some y → (y + 6 - x) % 6 = 4 → ∃ t, exec (.hallTransition n st) s =
      .next t ∧ t.g (F.AX_FB_STATUS_HALL_STATE n) = st ∧ (t.fbOf n).sector = some y ∧ (t.fbOf n).hall.c = (s.fbOf
      n).hall.c + -s.fbSign n * 2 ∧ t.is (F.AX_FB_STATUS_HALL_SKIP n) = true) ∧
  (∀ (s : State) (n : Fin 16) (st : Fin 8) (x : Nat) (y : Nat), s.fbEn n = true → s.is (F.AX_FB_CFG_HALL_EN n) = true →
      (s.fbOf n).sector = some x → s.sectorOf n st = some y → (y + 6 - x) % 6 = 3 → ∃ t, exec (.hallTransition n st) s =
      .next t ∧ t.g (F.AX_FB_STATUS_HALL_STATE n) = st ∧ (t.fbOf n).sector = some y ∧ (t.fbOf n).hall = (s.fbOf n).hall
      ∧ t.is (F.AX_FB_STATUS_HALL_AMBIG n) = true) ∧
  (∀ (s : State) (n : Fin 16) (st : Fin 8), s.fbEn n = true → s.is (F.AX_FB_CFG_HALL_EN n) = true → s.sectorOf n st =
      none ∨ (s.fbOf n).sector = none → ∃ t, exec (.hallTransition n st) s = .next t ∧ t.g (F.AX_FB_STATUS_HALL_STATE n)
      = st ∧ (t.fbOf n).hall = (s.fbOf n).hall ∧ (t.fbOf n).sector = (s.sectorOf n st).orElse (fun _ => (s.fbOf
      n).sector)) ∧
  (∀ (s : State) (n : Fin 16) (x : FbSample) (rest : List FbSample), (s.fbOf n).samps = x :: rest → x.have_ = true →
      x.ready ≤ s.tb.ticks → (s.fbOf n).stopped = false → x.busy = false → x.ok = true → ∃ t, exec (.fbSampleReady n) s
      = .next t ∧ t.rd (R.AX_FB_STAMP n) = shortOf x.s ∧ t.is (F.AX_FB_STATUS_VALID n) = true ∧ (t.fbOf n).samps.length
      = rest.length ∧ (t.fbOf n).goodRaw = x.raw ∧ (t.fbOf n).goodE = x.e) ∧
  (∀ (s : State) (n : Fin 16) (x : FbSample) (rest : List FbSample), (s.fbOf n).samps = x :: rest → x.have_ = true →
      x.ready ≤ s.tb.ticks → (s.fbOf n).stopped = false → x.busy = false → x.ok = true → x.load = none → x.soft = none →
      ∃ t, exec (.fbSampleReady n) s = .next t ∧ t.rd (R.AX_FB_POS_LO n) = BitVec.ofNat 32 (unsigned 64 (x.raw + x.o)) ∧
      t.rd (R.AX_FB_POS_HI n) = BitVec.ofNat 32 (unsigned 64 (x.raw + x.o) / 2 ^ 32) ∧ (t.rd (R.AX_FB_VEL n)) = Word.ofI
      ((s.fbOf n).vf + floorDiv (x.v - (s.fbOf n).vf) (2 ^ s.g (F.AX_FB_CFG_VEL_FILT n)))) ∧
  (∀ (s : State) (n : Fin 16) (x : FbSample) (rest : List FbSample), (s.fbOf n).samps = x :: rest → x.have_ = true →
      x.ready ≤ s.tb.ticks → (s.fbOf n).stopped = false → x.busy = false → x.ok = false → x.load = none → x.soft = none
      → ∃ t, exec (.fbSampleReady n) s = .next t ∧ t.rd (R.AX_FB_STAMP n) = shortOf x.s ∧ t.rd (R.AX_FB_POS_LO n) =
      BitVec.ofNat 32 (unsigned 64 ((s.fbOf n).extrapolate x.e + x.o)) ∧ (t.fbOf n).goodE = (s.fbOf n).goodE) ∧
  (∀ (s : State) (n : Fin 16) (x : FbSample) (rest : List FbSample), (s.fbOf n).samps = x :: rest → x.have_ = true →
      x.ready ≤ s.tb.ticks → (s.fbOf n).stopped = true → s.primary n ≠ 1 → ∃ t, exec (.fbSampleReady n) s = .next t ∧
      (t.fbOf n).samps = rest ∧ t.regs = s.regs)

/-- Each of these writes of AEn_CTL or of an engine's memories completes where it reaches its register under the
conditions its clause gives. A commit whose enabled slots pass every check leaves them as the pending table, one
that fails shows STATE 3 with the reason and the slot and leaves both tables; a discard removes the pending table;
RUN with a table is set, and clears when both units are DISABLED; BG_EN takes its value; FAULT_CLR clears the fault
fields; a program word is written while RUN is 0, and while it is 1 only PM_WRITE_REFUSED is set; a word of an
axis's block takes its value at once when no slot runs on the engine, and a burst of two words waits for the end of
a running slot of the axis. -/
def Obligations.EngineControlTakesEffect : Prop :=
  (∀ (s : State) (rq : Rq) (n : Fin 8) (l : List SlotF), s.reaches rq (R.AE_CTL n) → l = ((List.range 32).filter fun k
      => s.is (F.AE_SLOT_CTL_EN n k)).map (s.slotRegs n) → l.findSome? (fun f => s.commitCheck n l f) = none → ∃ t, exec
      (.aeCommit rq n) s = .next t ∧ (t.aeOf n).pending = some ⟨s.tWritten (s.refAxis n), s.tWritten (s.refAxis n) / 5,
      l⟩ ∧ t.g (F.AE_COMMIT_STATUS_STATE n) = 1) ∧
  (∀ (s : State) (rq : Rq) (n : Fin 8) (l : List SlotF) (r : Nat × Nat × Nat × Nat), s.reaches rq (R.AE_CTL n) → l =
      ((List.range 32).filter fun k => s.is (F.AE_SLOT_CTL_EN n k)).map (s.slotRegs n) → l.findSome? (fun f =>
      (s.commitCheck n l f).map fun r => (f.k, r)) = some r → ∃ t, exec (.aeCommit rq n) s = .next t ∧ (t.aeOf
      n).pending = (s.aeOf n).pending ∧ (t.aeOf n).table = (s.aeOf n).table ∧ t.g (F.AE_COMMIT_STATUS_STATE n) = 3 ∧ t.g
      (F.AE_COMMIT_STATUS_REASON n) = r.2.1 % 2 ^ (F.AE_COMMIT_STATUS_REASON n).w ∧ t.g (F.AE_COMMIT_STATUS_SLOT n) =
      r.1 % 2 ^ (F.AE_COMMIT_STATUS_SLOT n).w) ∧
  (∀ (s : State) (rq : Rq) (n : Fin 8), s.reaches rq (R.AE_CTL n) → (s.aeOf n).pending.isSome = true → ∃ t, exec
      (.aeDiscardPending rq n) s = .next t ∧ (t.aeOf n).pending = none ∧ t.g (F.AE_COMMIT_STATUS_STATE n) = (if (s.aeOf
      n).table.isSome then 2 else 0)) ∧
  (∀ (s : State) (rq : Rq) (n : Fin 8), s.reaches rq (R.AE_CTL n) → (s.aeOf n).table.isSome = true → ∃ t, exec (.aeRun
      rq n true) s = .next t ∧ t.is (F.AE_CTL_RUN n) = true) ∧
  (∀ (s : State) (rq : Rq) (n : Fin 8), s.reaches rq (R.AE_CTL n) → s.is (F.AE_CTL_RUN n) = true → s.pwmState (2 * n) =
      0 → s.pwmState (2 * n + 1) = 0 → ∃ t, exec (.aeRun rq n false) s = .next t ∧ t.is (F.AE_CTL_RUN n) = false ∧
      (t.aeOf n).mode = .idle ∧ (t.aeOf n).cmp = [] ∧ (t.aeOf n).bursts = []) ∧
  (∀ (s : State) (rq : Rq) (n : Fin 8) (v : Bool), s.reaches rq (R.AE_CTL n) → ∃ t, exec (.aeBgEn rq n v) s = .next t ∧
      t.is (F.AE_CTL_BG_EN n) = v) ∧
  (∀ (s : State) (rq : Rq) (n : Fin 8), s.reaches rq (R.AE_CTL n) → ∃ t, exec (.aeFaultClr rq n) s = .next t ∧ t.is
      (F.AE_STATUS_OVERRUN n) = false ∧ t.g (F.AE_STATUS_FAULT_SLOT n) = 0 ∧ t.g (F.AE_STATUS_MISS_A n) = 0 ∧ t.g
      (F.AE_STATUS_MISS_B n) = 0) ∧
  (∀ (s : State) (rq : Rq) (n : Fin 8) (i : Fin 16384) (v : Word), s.reaches rq (pmAddr n i) → s.is (F.AE_CTL_RUN n) =
      false → ∃ t, exec (.programMemoryWrite rq n i v) s = .next t ∧ t.rd (pmAddr n i) = v ∧ sameRegsBut [pmAddr n i] s
      t ∧ sameBut [.regs] s t) ∧
  (∀ (s : State) (rq : Rq) (n : Fin 8) (i : Fin 16384) (v : Word), s.reaches rq (pmAddr n i) → s.is (F.AE_CTL_RUN n) =
      true → ∃ t, exec (.programMemoryWrite rq n i v) s = .next t ∧ t.is (F.AE_STATUS_PM_WRITE_REFUSED n) = true ∧
      sameRegsBut [R.AE_STATUS n] s t) ∧
  (∀ (s : State) (rq : Rq) (m : Fin 16) (i : Fin 4096) (v : Word), s.reaches rq (axisWord m (4 * i)) → blockOpen rq (4 *
      i) = true → regRow? (axisWord m (4 * i)) = none → (s.aeOf (m.val / 2)).mode ≠ .slot → ∃ t, exec (.axisStateWrite
      rq m i [v]) s = .next t ∧ t.rd (axisWord m (4 * i)) = v ∧ sameRegsBut [axisWord m (4 * i)] s t ∧ sameBut [.regs] s
      t) ∧
  (∀ (s : State) (rq : Rq) (m : Fin 16) (i : Fin 4096) (v : Word) (w : Word), s.reaches rq (axisWord m (4 * i)) → i.val
      < 4095 → blockOpen rq (4 * i) = true → blockOpen rq (4 * (i + 1)) = true → (s.aeOf (m.val / 2)).mode = .slot →
      ((s.aeOf (m.val / 2)).slot.axes (m.val / 2)).contains m.val = true → ∃ t, exec (.axisStateWrite rq m i [v, w]) s =
      .next t ∧ t.regs = s.regs ∧ (t.aeOf (m.val / 2)).bursts = (s.aeOf (m.val / 2)).bursts ++ [[(m.val * 0x4000 + 4 *
      i.val, v), (m.val * 0x4000 + 4 * (i.val + 1), w)]])

/-- Each of these events of a control engine completes under the conditions its clause gives. A base period of a running
reference unit that is due takes over a pending table whose period fits, and else is counted; an overrun slot ends
with OVERRUN and the slot's number; a window that ends leaves the engine idle without background code, and else
begins or resumes it; a yield that is due saves the background code, and one inside the restore routine waits with
no register changed; a corrected error of a memory is counted in its registers alone; a fatal one sets ECC_FATAL,
and is the fault of the axis whose state memory it lies in, where no reaction of a higher level holds it, or of the
pair, whose outputs go off. -/
def Obligations.EngineEventsTakeEffect : Prop :=
  (∀ (s : State) (n : Fin 8) (p : SlotTab) (x : Nat), s.running (s.refAxis n) = true → s.baseDue n (s.refAxis n) = some
      x → (s.aeOf n).pending = some p → p.tLoop = (s.pwmOf (s.refAxis n)).loopT → ∃ t, exec (.basePeriodStart n) s =
      .next t ∧ (t.aeOf n).table = some p ∧ (t.aeOf n).pending = none ∧ t.rd (R.AE_COMMIT_STATUS n) = 2 ∧ t.g
      (F.AE_PERIOD_CNT_COUNT n) = 0 ∧ t.is (F.AE_STATUS_RUNNING n) = true ∧ (t.aeOf n).baseT = x) ∧
  (∀ (s : State) (n : Fin 8) (x : Nat), s.running (s.refAxis n) = true → s.baseDue n (s.refAxis n) = some x → (s.aeOf
      n).pending.all (fun p => p.tLoop != (s.pwmOf (s.refAxis n)).loopT) = true → ∃ t, exec (.basePeriodStart n) s =
      .next t ∧ t.g (F.AE_PERIOD_CNT_COUNT n) = (s.g (F.AE_PERIOD_CNT_COUNT n) + 1) % 720720 ∧ t.is (F.AE_STATUS_RUNNING
      n) = true ∧ (t.aeOf n).table = (s.aeOf n).table ∧ (t.aeOf n).pending = (s.aeOf n).pending ∧ (t.aeOf n).baseT = x) ∧
  (∀ (s : State) (n : Fin 8), (s.aeOf n).mode = .slot → s.windowOver n = true → (s.aeOf n).lib.all (fun r => decide
      ((s.aeOf n).slot.len ≤ r.used)) = true → ∃ t, exec (.slotOverrun n) s = .next t ∧ t.is (F.AE_STATUS_OVERRUN n) =
      true ∧ t.g (F.AE_STATUS_FAULT_SLOT n) = (s.aeOf n).slot.k % 32 ∧ (t.aeOf n).mode = .done ∧ (t.aeOf n).bursts = []) ∧
  (∀ (s : State) (n : Fin 8), (s.aeOf n).lib = none → (s.aeOf n).mode = .done ∨ (s.aeOf n).mode = .idle ∨ (s.aeOf
      n).mode = .yielded → s.windowOver n = true → (s.aeOf n).bursts = [] → s.bgAllowed n = false → ∃ t, exec
      (.slotWindowEnd n) s = .next t ∧ (t.aeOf n).mode = .idle ∧ t.is (F.AE_STATUS_BG_ACTIVE n) = false) ∧
  (∀ (s : State) (n : Fin 8), (s.aeOf n).lib = none → (s.aeOf n).mode = .done ∨ (s.aeOf n).mode = .idle ∨ (s.aeOf
      n).mode = .yielded → s.windowOver n = true → (s.aeOf n).bursts = [] → s.bgAllowed n = true → s.gap n = none →
      (s.aeOf n).fresh = true → ∃ t, exec (.slotWindowEnd n) s = .next t ∧ (t.aeOf n).mode = .bg ∧ (t.aeOf n).core.pc =
      s.g (F.AE_BG_VEC_ENTRY n) ∧ t.is (F.AE_STATUS_BG_ACTIVE n) = true) ∧
  (∀ (s : State) (n : Fin 8), (s.aeOf n).lib = none → (s.aeOf n).mode = .done ∨ (s.aeOf n).mode = .idle ∨ (s.aeOf
      n).mode = .yielded → s.windowOver n = true → (s.aeOf n).bursts = [] → s.bgAllowed n = true → s.gap n = none →
      (s.aeOf n).fresh = false → ∃ t, exec (.slotWindowEnd n) s = .next t ∧ (t.aeOf n).mode = .restore ∧ (t.aeOf
      n).core.pc = s.g (F.AE_BG_VEC2_RESTORE n) ∧ t.is (F.AE_STATUS_BG_ACTIVE n) = true) ∧
  (∀ (s : State) (n : Fin 8) (k : Fin 32) (x : Nat), s.slotAhead n k = some x → s.runsSlots n = true → max (s.aeOf
      n).core.cyc (x - s.g (F.AE_SCHED_YIELD_LEAD n)) < max s.cycNow ((s.aeOf n).core.cyc + 1) → (s.aeOf n).mode = .bg →
      (s.aeOf n).core.delay = none → (s.aeOf n).core.xDone = false → ∃ t, exec (.bgYield n k) s = .next t ∧ (t.aeOf
      n).mode = .save ∧ t.is (F.AE_STATUS_BG_ACTIVE n) = true) ∧
  (∀ (s : State) (n : Fin 8) (k : Fin 32) (x : Nat), s.slotAhead n k = some x → s.runsSlots n = true → max (s.aeOf
      n).core.cyc (x - s.g (F.AE_SCHED_YIELD_LEAD n)) < max s.cycNow ((s.aeOf n).core.cyc + 1) → (s.aeOf n).mode =
      .restore → ∃ t, exec (.bgYield n k) s = .next t ∧ (t.aeOf n).yieldDue = true ∧ (t.aeOf n).mode = .restore ∧ t.regs
      = s.regs) ∧
  (∀ (s : State) (n : Fin 8) (mem : Fin 4), ∃ t, exec (.engineEccError n mem false) s = .next t ∧ t.is
      (F.AE_STATUS_ECC_CORR n) = true ∧ t.g (F.AE_ECC_CORR n) = satAdd (F.AE_ECC_CORR n).w (s.g (F.AE_ECC_CORR n)) 1 ∧
      sameRegsBut [R.AE_STATUS n, (F.AE_ECC_CORR n).addr] s t) ∧
  (∀ (s : State) (n : Fin 8) (mem : Fin 4), ∃ t, exec (.engineEccError n mem true) s = .next t ∧ t.is
      (F.AE_STATUS_ECC_FATAL n) = true) ∧
  (∀ (s : State) (n : Fin 8) (mem : Fin 4), 2 ≤ mem.val → s.higherRuns (2 * n + (mem.val - 2)) = false → ∃ t, exec
      (.engineEccError n mem true) s = .next t ∧ t.is (F.AX_PWM_STATUS_FAULT (2 * n + (mem.val - 2))) = true ∧ t.is
      (F.AX_PWM_CTL_OUT_EN (2 * n + (mem.val - 2))) = false) ∧
  (∀ (s : State) (n : Fin 8) (mem : Fin 4) (k : Fin 16), mem.val < 2 → k.val / 2 = n → ∀ m : Fin 16, s.stopLevel m ≤ 1 →
      ∃ t, exec (.engineEccError n mem true) s = .next t ∧ testBit (t.g F.GLB_REGION_STATE_CLUSTER_FAULT_SEEN) regMotion
      = true ∧ t.is (F.AX_PWM_CTL_OUT_EN k) = false)

/-- Each of these commands is an ALU operation that the legal bundle at the program counter holds in its X slot, where
that slot has not issued; it completes: the slot is taken, and its result, with the flags Z and N (and C and V for
ADD, SUB and CMP) and a sticky S where it saturated, is in flight for one cycle. -/
def Obligations.EngineAluOperationsStart : Prop :=
  (∀ (s : State) (n : Fin 8), (s.aeOf n).issuing = true → (s.aeOf n).core.xDone = false → s.bundleIllegal n = false →
      s.slotX n = some (.xNop n) → ∃ t, exec (.xNop n) s = .next t ∧ startsX s t n 1 ⟨[], none, 0, 0, 0⟩) ∧
  (∀ (s : State) (n : Fin 8) (rd : Fin 16) (ra : Fin 16) (rb : Fin 16), (s.aeOf n).issuing = true → (s.aeOf
      n).core.xDone = false → s.bundleIllegal n = false → s.slotX n = some (.add n rd ra rb) → ∃ t, exec (.add n rd ra
      rb) s = .next t ∧ (let e := s.aeOf n; startsX s t n 1 ⟨[(.d e.bank rd, (e.D ra + e.D rb) % 2 ^ 32)], none, 15,
      znCv ((e.D ra + e.D rb) % 2 ^ 32) (decide (2 ^ 32 ≤ e.D ra + e.D rb)) (decide (satI 32 (e.DI ra + e.DI rb) ≠ e.DI
      ra + e.DI rb)), 0⟩)) ∧
  (∀ (s : State) (n : Fin 8) (rd : Fin 16) (ra : Fin 16) (rb : Fin 16), (s.aeOf n).issuing = true → (s.aeOf
      n).core.xDone = false → s.bundleIllegal n = false → s.slotX n = some (.sub n rd ra rb) → ∃ t, exec (.sub n rd ra
      rb) s = .next t ∧ (let e := s.aeOf n; startsX s t n 1 ⟨[(.d e.bank rd, unsigned 32 (e.DI ra - e.DI rb))], none,
      15, znCv (unsigned 32 (e.DI ra - e.DI rb)) (decide (e.D rb ≤ e.D ra)) (decide (satI 32 (e.DI ra - e.DI rb) ≠ e.DI
      ra - e.DI rb)), 0⟩)) ∧
  (∀ (s : State) (n : Fin 8) (ra : Fin 16) (rb : Fin 16), (s.aeOf n).issuing = true → (s.aeOf n).core.xDone = false →
      s.bundleIllegal n = false → s.slotX n = some (.cmp n ra rb) → ∃ t, exec (.cmp n ra rb) s = .next t ∧
      (let e := s.aeOf n; startsX s t n 1 ⟨[], none, 15, znCv (unsigned 32 (e.DI ra - e.DI rb)) (decide (e.D rb ≤ e.D
      ra)) (decide (satI 32 (e.DI ra - e.DI rb) ≠ e.DI ra - e.DI rb)), 0⟩)) ∧
  (∀ (s : State) (n : Fin 8) (rd : Fin 16) (ra : Fin 16) (rb : Fin 16), (s.aeOf n).issuing = true → (s.aeOf
      n).core.xDone = false → s.bundleIllegal n = false → s.slotX n = some (.adds n rd ra rb) → ∃ t, exec (.adds n rd ra
      rb) s = .next t ∧ (let e := s.aeOf n; startsX s t n 1 ⟨[(.d e.bank rd, unsigned 32 (satI 32 (e.DI ra + e.DI
      rb)))], none, 3, znOf (unsigned 32 (satI 32 (e.DI ra + e.DI rb))), if satI 32 (e.DI ra + e.DI rb) ≠ e.DI ra + e.DI
      rb then 16 else 0⟩)) ∧
  (∀ (s : State) (n : Fin 8) (rd : Fin 16) (ra : Fin 16) (rb : Fin 16), (s.aeOf n).issuing = true → (s.aeOf
      n).core.xDone = false → s.bundleIllegal n = false → s.slotX n = some (.subs n rd ra rb) → ∃ t, exec (.subs n rd ra
      rb) s = .next t ∧ (let e := s.aeOf n; startsX s t n 1 ⟨[(.d e.bank rd, unsigned 32 (satI 32 (e.DI ra - e.DI
      rb)))], none, 3, znOf (unsigned 32 (satI 32 (e.DI ra - e.DI rb))), if satI 32 (e.DI ra - e.DI rb) ≠ e.DI ra - e.DI
      rb then 16 else 0⟩)) ∧
  (∀ (s : State) (n : Fin 8) (rd : Fin 16) (ra : Fin 16) (rb : Fin 16), (s.aeOf n).issuing = true → (s.aeOf
      n).core.xDone = false → s.bundleIllegal n = false → s.slotX n = some (.and n rd ra rb) → ∃ t, exec (.and n rd ra
      rb) s = .next t ∧ (let e := s.aeOf n; startsX s t n 1 ⟨[(.d e.bank rd, Nat.land (e.D ra) (e.D rb))], none, 3, znOf
      (Nat.land (e.D ra) (e.D rb)), 0⟩)) ∧
  (∀ (s : State) (n : Fin 8) (rd : Fin 16) (ra : Fin 16) (rb : Fin 16), (s.aeOf n).issuing = true → (s.aeOf
      n).core.xDone = false → s.bundleIllegal n = false → s.slotX n = some (.or n rd ra rb) → ∃ t, exec (.or n rd ra rb)
      s = .next t ∧ (let e := s.aeOf n; startsX s t n 1 ⟨[(.d e.bank rd, Nat.lor (e.D ra) (e.D rb))], none, 3, znOf
      (Nat.lor (e.D ra) (e.D rb)), 0⟩)) ∧
  (∀ (s : State) (n : Fin 8) (rd : Fin 16) (ra : Fin 16) (rb : Fin 16), (s.aeOf n).issuing = true → (s.aeOf
      n).core.xDone = false → s.bundleIllegal n = false → s.slotX n = some (.xor n rd ra rb) → ∃ t, exec (.xor n rd ra
      rb) s = .next t ∧ (let e := s.aeOf n; startsX s t n 1 ⟨[(.d e.bank rd, Nat.xor (e.D ra) (e.D rb))], none, 3, znOf
      (Nat.xor (e.D ra) (e.D rb)), 0⟩)) ∧
  (∀ (s : State) (n : Fin 8) (rd : Fin 16) (ra : Fin 16) (sh : Fin 64), (s.aeOf n).issuing = true → (s.aeOf
      n).core.xDone = false → s.bundleIllegal n = false → s.slotX n = some (.shl n rd ra sh) → ∃ t, exec (.shl n rd ra
      sh) s = .next t ∧ (let e := s.aeOf n; startsX s t n 1 ⟨[(.d e.bank rd, e.D ra * 2 ^ (sh.val % 32) % 2 ^ 32)],
      none, 3, znOf (e.D ra * 2 ^ (sh.val % 32) % 2 ^ 32), 0⟩)) ∧
  (∀ (s : State) (n : Fin 8) (rd : Fin 16) (ra : Fin 16) (sh : Fin 64), (s.aeOf n).issuing = true → (s.aeOf
      n).core.xDone = false → s.bundleIllegal n = false → s.slotX n = some (.shr n rd ra sh) → ∃ t, exec (.shr n rd ra
      sh) s = .next t ∧ (let e := s.aeOf n; startsX s t n 1 ⟨[(.d e.bank rd, e.D ra / 2 ^ (sh.val % 32))], none, 3, znOf
      (e.D ra / 2 ^ (sh.val % 32)), 0⟩)) ∧
  (∀ (s : State) (n : Fin 8) (rd : Fin 16) (ra : Fin 16) (sh : Fin 64), (s.aeOf n).issuing = true → (s.aeOf
      n).core.xDone = false → s.bundleIllegal n = false → s.slotX n = some (.shra n rd ra sh) → ∃ t, exec (.shra n rd ra
      sh) s = .next t ∧ (let e := s.aeOf n; startsX s t n 1 ⟨[(.d e.bank rd, unsigned 32 (floorDiv (e.DI ra) (2 ^
      (sh.val % 32))))], none, 3, znOf (unsigned 32 (floorDiv (e.DI ra) (2 ^ (sh.val % 32)))), 0⟩)) ∧
  (∀ (s : State) (n : Fin 8) (rd : Fin 16) (ra : Fin 16) (rb : Fin 16), (s.aeOf n).issuing = true → (s.aeOf
      n).core.xDone = false → s.bundleIllegal n = false → s.slotX n = some (.min n rd ra rb) → ∃ t, exec (.min n rd ra
      rb) s = .next t ∧ (let e := s.aeOf n; startsX s t n 1 ⟨[(.d e.bank rd, if e.DI ra ≤ e.DI rb then e.D ra else e.D
      rb)], none, 3, znOf (if e.DI ra ≤ e.DI rb then e.D ra else e.D rb), 0⟩)) ∧
  (∀ (s : State) (n : Fin 8) (rd : Fin 16) (ra : Fin 16) (rb : Fin 16), (s.aeOf n).issuing = true → (s.aeOf
      n).core.xDone = false → s.bundleIllegal n = false → s.slotX n = some (.max n rd ra rb) → ∃ t, exec (.max n rd ra
      rb) s = .next t ∧ (let e := s.aeOf n; startsX s t n 1 ⟨[(.d e.bank rd, if e.DI ra ≤ e.DI rb then e.D rb else e.D
      ra)], none, 3, znOf (if e.DI ra ≤ e.DI rb then e.D rb else e.D ra), 0⟩)) ∧
  (∀ (s : State) (n : Fin 8) (rd : Fin 16) (ra : Fin 16), (s.aeOf n).issuing = true → (s.aeOf n).core.xDone = false →
      s.bundleIllegal n = false → s.slotX n = some (.abs n rd ra) → ∃ t, exec (.abs n rd ra) s = .next t ∧
      (let e := s.aeOf n; startsX s t n 1 ⟨[(.d e.bank rd, unsigned 32 (satI 32 (absN (e.DI ra))))], none, 3, znOf
      (unsigned 32 (satI 32 (absN (e.DI ra)))), if satI 32 ((absN (e.DI ra) : Int)) ≠ (absN (e.DI ra) : Int) then 16
      else 0⟩)) ∧
  (∀ (s : State) (n : Fin 8) (rd : Fin 16) (ra : Fin 16), (s.aeOf n).issuing = true → (s.aeOf n).core.xDone = false →
      s.bundleIllegal n = false → s.slotX n = some (.neg n rd ra) → ∃ t, exec (.neg n rd ra) s = .next t ∧
      (let e := s.aeOf n; startsX s t n 1 ⟨[(.d e.bank rd, unsigned 32 (satI 32 (-(e.DI ra))))], none, 3, znOf (unsigned
      32 (satI 32 (-(e.DI ra)))), if satI 32 (-(e.DI ra)) ≠ -(e.DI ra) then 16 else 0⟩)) ∧
  (∀ (s : State) (n : Fin 8) (rd : Fin 16) (imm : BitVec 16), (s.aeOf n).issuing = true → (s.aeOf n).core.xDone = false
      → s.bundleIllegal n = false → s.slotX n = some (.movi n rd imm) → ∃ t, exec (.movi n rd imm) s = .next t ∧
      (let e := s.aeOf n; startsX s t n 1 ⟨[(.d e.bank rd, unsigned 32 imm.toInt)], none, 3, znOf (unsigned 32
      imm.toInt), 0⟩)) ∧
  (∀ (s : State) (n : Fin 8) (rd : Fin 16) (imm : BitVec 16), (s.aeOf n).issuing = true → (s.aeOf n).core.xDone = false
      → s.bundleIllegal n = false → s.slotX n = some (.movhi n rd imm) → ∃ t, exec (.movhi n rd imm) s = .next t ∧
      (let e := s.aeOf n; startsX s t n 1 ⟨[(.d e.bank rd, imm.toNat * 2 ^ 16 + e.D rd % 2 ^ 16)], none, 3, znOf
      (imm.toNat * 2 ^ 16 + e.D rd % 2 ^ 16), 0⟩))

/-- Each of these commands is an operation of the multiply-accumulate, division or function unit that the legal bundle
at the program counter holds in its X slot, where that slot has not issued; it completes: its result is in flight
for three cycles; an accumulating one works on the accumulator as the latest operation in flight for it will leave
it, modulo 2^72. TSIN, TCOS and RSQ deliver a value that is open within the stated error, and that of TSIN and TCOS
lies within it. -/
def Obligations.EngineAccumulatorOperationsStart : Prop :=
  (∀ (s : State) (n : Fin 8) (acc : Fin 2) (ra : Fin 16) (rb : Fin 16), (s.aeOf n).issuing = true → (s.aeOf
      n).core.xDone = false → s.bundleIllegal n = false → s.slotX n = some (.mul n acc ra rb) → ∃ t, exec (.mul n acc ra
      rb) s = .next t ∧ (let e := s.aeOf n; startsX s t n 3 ⟨[(.acc acc, unsigned 72 (e.DI ra * e.DI rb))], some
      acc.val, 0, 0, 0⟩)) ∧
  (∀ (s : State) (n : Fin 8) (acc : Fin 2) (ra : Fin 16) (rb : Fin 16), (s.aeOf n).issuing = true → (s.aeOf
      n).core.xDone = false → s.bundleIllegal n = false → s.slotX n = some (.mac n acc ra rb) → ∃ t, exec (.mac n acc ra
      rb) s = .next t ∧ (let e := s.aeOf n; startsX s t n 3 ⟨[(.acc acc, unsigned 72 (e.chained acc + e.DI ra * e.DI
      rb))], some acc.val, 0, 0, 0⟩)) ∧
  (∀ (s : State) (n : Fin 8) (acc : Fin 2) (ra : Fin 16) (rb : Fin 16), (s.aeOf n).issuing = true → (s.aeOf
      n).core.xDone = false → s.bundleIllegal n = false → s.slotX n = some (.msu n acc ra rb) → ∃ t, exec (.msu n acc ra
      rb) s = .next t ∧ (let e := s.aeOf n; startsX s t n 3 ⟨[(.acc acc, unsigned 72 (e.chained acc - e.DI ra * e.DI
      rb))], some acc.val, 0, 0, 0⟩)) ∧
  (∀ (s : State) (n : Fin 8) (rd : Fin 16) (ra : Fin 16) (rb : Fin 16), (s.aeOf n).issuing = true → (s.aeOf
      n).core.xDone = false → s.bundleIllegal n = false → s.slotX n = some (.mullo n rd ra rb) → ∃ t, exec (.mullo n rd
      ra rb) s = .next t ∧ (let e := s.aeOf n; startsX s t n 3 ⟨[(.d e.bank rd, e.D ra * e.D rb % 2 ^ 32)], none, 0, 0,
      0⟩)) ∧
  (∀ (s : State) (n : Fin 8) (acc : Fin 2) (ra : Fin 16) (sh : Fin 64), (s.aeOf n).issuing = true → (s.aeOf
      n).core.xDone = false → s.bundleIllegal n = false → s.slotX n = some (.ald n acc ra sh) → ∃ t, exec (.ald n acc ra
      sh) s = .next t ∧ (let e := s.aeOf n; startsX s t n 3 ⟨[(.acc acc, unsigned 72 (e.DI ra * 2 ^ sh.val))], some
      acc.val, 0, 0, 0⟩)) ∧
  (∀ (s : State) (n : Fin 8) (acc : Fin 2) (ra : Fin 16) (sh : Fin 64), (s.aeOf n).issuing = true → (s.aeOf
      n).core.xDone = false → s.bundleIllegal n = false → s.slotX n = some (.aadd n acc ra sh) → ∃ t, exec (.aadd n acc
      ra sh) s = .next t ∧ (let e := s.aeOf n; startsX s t n 3 ⟨[(.acc acc, unsigned 72 (e.chained acc + e.DI ra * 2 ^
      sh.val))], some acc.val, 0, 0, 0⟩)) ∧
  (∀ (s : State) (n : Fin 8) (acc : Fin 2) (ra : Fin 16) (sh : Fin 64), (s.aeOf n).issuing = true → (s.aeOf
      n).core.xDone = false → s.bundleIllegal n = false → s.slotX n = some (.asub n acc ra sh) → ∃ t, exec (.asub n acc
      ra sh) s = .next t ∧ (let e := s.aeOf n; startsX s t n 3 ⟨[(.acc acc, unsigned 72 (e.chained acc - e.DI ra * 2 ^
      sh.val))], some acc.val, 0, 0, 0⟩)) ∧
  (∀ (s : State) (n : Fin 8) (acc : Fin 2) (ra : Fin 16) (rb : Fin 16), (s.aeOf n).issuing = true → (s.aeOf
      n).core.xDone = false → s.bundleIllegal n = false → s.slotX n = some (.amov n acc ra rb) → ∃ t, exec (.amov n acc
      ra rb) s = .next t ∧ (let e := s.aeOf n; startsX s t n 3 ⟨[(.acc acc, unsigned 72 (e.DI ra * 2 ^ 32 + e.D rb))],
      some acc.val, 0, 0, 0⟩)) ∧
  (∀ (s : State) (n : Fin 8) (rd : Fin 16) (acc : Fin 2) (sh : Fin 64), (s.aeOf n).issuing = true → (s.aeOf
      n).core.xDone = false → s.bundleIllegal n = false → s.slotX n = some (.ext n rd acc sh) → ∃ t, exec (.ext n rd acc
      sh) s = .next t ∧ (let e := s.aeOf n; startsX s t n 3 ⟨[(.d e.bank rd, unsigned 32 (satI 32 (floorDiv (signed 72
      (e.core.a.getD acc 0)) (2 ^ sh.val))))], none, 0, 0, if satI 32 (floorDiv (signed 72 (e.core.a.getD acc 0)) (2 ^
      sh.val)) ≠ floorDiv (signed 72 (e.core.a.getD acc 0)) (2 ^ sh.val) then 16 else 0⟩)) ∧
  (∀ (s : State) (n : Fin 8) (rd : Fin 16) (acc : Fin 2), (s.aeOf n).issuing = true → (s.aeOf n).core.xDone = false →
      s.bundleIllegal n = false → s.slotX n = some (.extl n rd acc) → ∃ t, exec (.extl n rd acc) s = .next t ∧
      (let e := s.aeOf n; startsX s t n 3 ⟨[(.d e.bank rd, e.core.a.getD acc 0 % 2 ^ 32)], none, 0, 0, 0⟩)) ∧
  (∀ (s : State) (n : Fin 8) (acc : Fin 2) (rb : Fin 16) (first : Bool), (s.aeOf n).issuing = true → (s.aeOf
      n).core.xDone = false → s.bundleIllegal n = false → s.slotX n = some (.divs n acc rb first) → ∃ t, exec (.divs n
      acc rb first) s = .next t ∧ (let e := s.aeOf n; startsX s t n 3 ⟨[(.acc acc, (divStep first e.df (e.chained acc)
      (e.D rb)).1)], some acc.val, 32, if (divStep first e.df (e.chained acc) (e.D rb)).2.1 then 32 else 0, if (divStep
      first e.df (e.chained acc) (e.D rb)).2.2 then 64 else 0⟩)) ∧
  (∀ (s : State) (n : Fin 8) (rd : Fin 16) (ra : Fin 16), (s.aeOf n).issuing = true → (s.aeOf n).core.xDone = false →
      s.bundleIllegal n = false → s.slotX n = some (.tsin n rd ra) → ∃ t, exec (.tsin n rd ra) s = .next t ∧
      (let e := s.aeOf n; startsX s t n 3 ⟨[(.d e.bank rd, unsigned 32 (trigQ31 (sinTurn (e.D ra)) s.freshWord.toNat))],
      none, 0, 0, 0⟩)) ∧
  (∀ (s : State) (n : Fin 8) (rd : Fin 16) (ra : Fin 16), (s.aeOf n).issuing = true → (s.aeOf n).core.xDone = false →
      s.bundleIllegal n = false → s.slotX n = some (.tcos n rd ra) → ∃ t, exec (.tcos n rd ra) s = .next t ∧
      (let e := s.aeOf n; startsX s t n 3 ⟨[(.d e.bank rd, unsigned 32 (trigQ31 (sinTurn (e.D ra + 2 ^ 30))
      s.freshWord.toNat))], none, 0, 0, 0⟩)) ∧
  (∀ (s : State) (n : Fin 8) (rd : Fin 16) (ra : Fin 16), (s.aeOf n).issuing = true → (s.aeOf n).core.xDone = false →
      s.bundleIllegal n = false → s.slotX n = some (.rsq n rd ra) → ∃ t, exec (.rsq n rd ra) s = .next t ∧
      (let e := s.aeOf n; startsX s t n 3 ⟨[(.d e.bank rd, (rsqQ24 (e.DI ra) s.freshWord.toNat).1)], none, 0, 0, if
      (rsqQ24 (e.DI ra) s.freshWord.toNat).2 then 16 else 0⟩)) ∧
  (∀ (x : Int) (w : Nat), -(2 ^ 60) ≤ x → x ≤ 2 ^ 60 → absN (trigQ31 x w * 2 ^ 29 - x) ≤ 2 ^ 31)

/-- Each of these commands completes as the Y-slot operation of the bundle that issues next. First, on an engine that
runs straight on: it ends its bundle with no register of the window changed; a load from data memory at an absolute
address is in flight for two cycles and a store there has written its words; a special register is read, and a
pointer written, within one cycle; a pair moves as a pair. Then, whatever is in flight and wherever its address
points, as long as no yield waits: its effect is made and the bundle ends, the program counter moves and a cycle
passes. A load delivers the word that its address shows (0 where the address is unmapped), with the latency of that
address; a store to a place that takes none is refused with its event, and a refused access makes AERR visible.
Post-increment moves the pointer. An odd register in LDD or STD makes the bundle illegal, which stops the background
program. -/
def Obligations.EngineMemoryOperationsTakeEffect : Prop :=
  (∀ (s : State) (n : Fin 8), s.straight n → s.issuesY n (.yNop n) = true → ∃ t, exec (.yNop n) s = .next t ∧
      (let e := s.aeOf n; (t.aeOf n).core = e.core.nextBundle ∧ t.regs = s.regs)) ∧
  (∀ (s : State) (n : Fin 8) (rd : Fin 16) (w : BitVec 15), s.straight n → s.issuesY n (.ld n rd (.abs w)) = true → ∃ t,
      exec (.ld n rd (.abs w)) s = .next t ∧ (let e := s.aeOf n; (t.aeOf n).core =
      { e.core.nextBundle with flights := [⟨e.core.cyc + 2, 2 * e.core.cyc, [(.d e.bank rd, (tabGet (fun _ => 0) e.dm w.toNat).toNat)], none, 0, 0, 0⟩] }
      ∧ t.regs = s.regs)) ∧
  (∀ (s : State) (n : Fin 8) (rs : Fin 16) (w : BitVec 15), s.straight n → s.issuesY n (.st n rs (.abs w)) = true → ∃ t,
      exec (.st n rs (.abs w)) s = .next t ∧ (let e := s.aeOf n; (t.aeOf n).core = e.core.nextBundle ∧ (t.aeOf n).dm =
      tabSet (fun _ => 0) e.dm w.toNat (BitVec.ofNat 32 (e.D rs)) ∧ t.regs = s.regs)) ∧
  (∀ (s : State) (n : Fin 8) (rd : Fin 16) (p : Fin 8) (w : BitVec 10) (a : Nat), s.straight n → s.issuesY n (.ld n rd
      (.off p w)) = true → a = unsigned 32 ((((s.aeOf n).core.p.getD p 0 : Nat) : Int) + 4 * signed 10 w.toNat) → a <
      0x20000 → ∃ t, exec (.ld n rd (.off p w)) s = .next t ∧ (let e := s.aeOf n; (t.aeOf n).core.pc = (e.core.pc + 1) %
      8192 ∧ ⟨e.core.cyc + 2, 2 * e.core.cyc, [(.d e.bank rd, (tabGet (fun _ => 0) e.dm (a / 4)).toNat)], none, 0, 0, 0⟩
      ∈ (t.aeOf n).core.flights ∧ (t.aeOf n).core.p = e.core.p ∧ t.regs = s.regs)) ∧
  (∀ (s : State) (n : Fin 8) (rs : Fin 16) (p : Fin 8) (w : BitVec 10) (a : Nat), s.straight n → s.issuesY n (.st n rs
      (.off p w)) = true → a = unsigned 32 ((((s.aeOf n).core.p.getD p 0 : Nat) : Int) + 4 * signed 10 w.toNat) → a <
      0x20000 → ∃ t, exec (.st n rs (.off p w)) s = .next t ∧ (let e := s.aeOf n; (t.aeOf n).core.pc = (e.core.pc + 1) %
      8192 ∧ (t.aeOf n).dm = tabSet (fun _ => 0) e.dm (a / 4) (BitVec.ofNat 32 (e.D rs)) ∧ t.regs = s.regs)) ∧
  (∀ (s : State) (n : Fin 8) (rd : Fin 16) (p : Fin 8) (w : BitVec 10) (a : Nat), s.straight n → s.issuesY n (.ld n rd
      (.post p w)) = true → a = (s.aeOf n).core.p.getD p 0 → a < 0x20000 → ∃ t, exec (.ld n rd (.post p w)) s = .next t
      ∧ (let e := s.aeOf n; (t.aeOf n).core.pc = (e.core.pc + 1) % 8192 ∧ ⟨e.core.cyc + 2, 2 * e.core.cyc, [(.d e.bank
      rd, (tabGet (fun _ => 0) e.dm (a / 4)).toNat)], none, 0, 0, 0⟩ ∈ (t.aeOf n).core.flights ∧ (t.aeOf n).core.p.getD
      p 0 = modUpdate (e.core.p.getD p 0) (e.core.m.getD p 0) (signed 10 w.toNat) ∧ t.regs = s.regs)) ∧
  (∀ (s : State) (n : Fin 8) (rs : Fin 16) (p : Fin 8) (w : BitVec 10) (a : Nat), s.straight n → s.issuesY n (.st n rs
      (.post p w)) = true → a = (s.aeOf n).core.p.getD p 0 → a < 0x20000 → ∃ t, exec (.st n rs (.post p w)) s = .next t
      ∧ (let e := s.aeOf n; (t.aeOf n).core.pc = (e.core.pc + 1) % 8192 ∧ (t.aeOf n).dm = tabSet (fun _ => 0) e.dm (a /
      4) (BitVec.ofNat 32 (e.D rs)) ∧ (t.aeOf n).core.p.getD p 0 = modUpdate (e.core.p.getD p 0) (e.core.m.getD p 0)
      (signed 10 w.toNat) ∧ t.regs = s.regs)) ∧
  (∀ (s : State) (n : Fin 8) (rd : Fin 16) (w : BitVec 15), s.straight n → s.issuesY n (.ldd n rd (.abs w)) = true →
      rd.val % 2 = 0 → ∃ t, exec (.ldd n rd (.abs w)) s = .next t ∧ (let e := s.aeOf n; (t.aeOf n).core =
      { e.core.nextBundle with flights := [⟨e.core.cyc + 2, 2 * e.core.cyc, [(.d e.bank rd, (tabGet (fun _ => 0) e.dm (w.toNat / 2 * 2)).toNat), (.d e.bank (rd + 1), (tabGet (fun _ => 0) e.dm (w.toNat / 2 * 2 + 1)).toNat)], none, 0, 0, 0⟩] }
      ∧ t.regs = s.regs)) ∧
  (∀ (s : State) (n : Fin 8) (rs : Fin 16) (w : BitVec 15), s.straight n → s.issuesY n (.std n rs (.abs w)) = true →
      rs.val % 2 = 0 → ∃ t, exec (.std n rs (.abs w)) s = .next t ∧ (let e := s.aeOf n; (t.aeOf n).core =
      e.core.nextBundle ∧ tabGet (fun _ => 0) (t.aeOf n).dm (w.toNat / 2 * 2) = BitVec.ofNat 32 (e.D rs) ∧ tabGet (fun _
      => 0) (t.aeOf n).dm (w.toNat / 2 * 2 + 1) = BitVec.ofNat 32 (e.D (rs + 1)) ∧ t.regs = s.regs)) ∧
  (∀ (s : State) (n : Fin 8) (pair : Fin 13) (w : BitVec 15), s.straight n → s.issuesY n (.lds n pair w) = true → ∃ t,
      exec (.lds n pair w) s = .next t ∧ (let e := s.aeOf n; (t.aeOf n).core =
      { e.core.nextBundle with flights := [⟨e.core.cyc + 2, 2 * e.core.cyc, (pairWrites pair (tabGet (fun _ => 0) e.dm (w.toNat / 2 * 2)).toNat (tabGet (fun _ => 0) e.dm (w.toNat / 2 * 2 + 1)).toNat), none, 0, 0, 0⟩] }
      ∧ t.regs = s.regs)) ∧
  (∀ (s : State) (n : Fin 8) (pair : Fin 13) (w : BitVec 15), s.straight n → s.issuesY n (.sts n pair w) = true → ∃ t,
      exec (.sts n pair w) s = .next t ∧ (let e := s.aeOf n; (t.aeOf n).core = e.core.nextBundle ∧ tabGet (fun _ => 0)
      (t.aeOf n).dm (w.toNat / 2 * 2) = BitVec.ofNat 32 ((e.pairWords pair).getD 0 0) ∧ tabGet (fun _ => 0) (t.aeOf
      n).dm (w.toNat / 2 * 2 + 1) = BitVec.ofNat 32 ((e.pairWords pair).getD 1 0) ∧ t.regs = s.regs)) ∧
  (∀ (s : State) (n : Fin 8) (rd : Fin 16) (spr : Fin 21), s.straight n → s.issuesY n (.mfs n rd spr) = true → ∃ t, exec
      (.mfs n rd spr) s = .next t ∧ (let e := s.aeOf n; (t.aeOf n).core = (e.core.nextBundle).put (.d e.bank rd) (e.spr
      spr) ∧ t.regs = s.regs)) ∧
  (∀ (s : State) (n : Fin 8) (spr : Fin 21) (rs : Fin 16), s.straight n → s.issuesY n (.mts n spr rs) = true → spr.val <
      8 → ∃ t, exec (.mts n spr rs) s = .next t ∧ (let e := s.aeOf n; (t.aeOf n).core = (e.core.nextBundle).put (.p spr)
      (e.D rs) ∧ t.regs = s.regs)) ∧
  (∀ (s : State) (n : Fin 8) (spr : Fin 21) (rs : Fin 16), s.straight n → s.issuesY n (.mts n spr rs) = true → 8 ≤
      spr.val → spr.val < 16 → ∃ t, exec (.mts n spr rs) s = .next t ∧ (let e := s.aeOf n; (t.aeOf n).core =
      (e.core.nextBundle).put (.m (spr.val - 8)) (e.D rs) ∧ t.regs = s.regs)) ∧
  (∀ (s : State) (n : Fin 8) (spr : Fin 21) (rs : Fin 16), s.straight n → s.issuesY n (.mts n spr rs) = true → 16 ≤
      spr.val → spr.val < 18 → ∃ t, exec (.mts n spr rs) s = .next t ∧ (let e := s.aeOf n; (t.aeOf n).core =
      (e.core.nextBundle).put (.lc (spr.val - 16)) (e.D rs) ∧ t.regs = s.regs)) ∧
  (∀ (s : State) (n : Fin 8) (spr : Fin 21) (rs : Fin 16), s.straight n → s.issuesY n (.mts n spr rs) = true → 18 ≤
      spr.val → spr.val < 20 → ∃ t, exec (.mts n spr rs) s = .next t ∧ (let e := s.aeOf n; (t.aeOf n).core =
      (e.core.nextBundle).put (.la (spr.val - 18)) (e.D rs) ∧ t.regs = s.regs)) ∧
  (∀ (s : State) (n : Fin 8) (spr : Fin 21) (rs : Fin 16), s.straight n → s.issuesY n (.mts n spr rs) = true → spr.val =
      20 → ∃ t, exec (.mts n spr rs) s = .next t ∧ (let e := s.aeOf n; (t.aeOf n).core.status = Nat.lor (e.core.status -
      Nat.land e.core.status mtsMask) (Nat.land (e.D rs) mtsMask) ∧ t.regs = s.regs)) ∧
  (∀ (s : State) (n : Fin 8), s.issuesY n (.yNop n) = true → (s.aeOf n).yieldDue = false → ∃ t, exec (.yNop n) s = .next
      t ∧ (let e := s.aeOf n; t.aeOf n = (e).close .next s.freshBool ∧ t.regs = s.regs)) ∧
  (∀ (s : State) (n : Fin 8) (rd : Fin 16) (addr : EAddr), s.issuesY n (.ld n rd addr) = true → (s.aeOf n).yieldDue =
      false → ∃ t, exec (.ld n rd addr) s = .next t ∧ (let e := s.aeOf n; t.aeOf n = (((e.address addr).2.fly (eLat n
      ((e.address addr).1 / 4 * 4)) [(.d e.bank rd, (s.eLoad n e ((e.address addr).1 / 4 * 4)).toNat)] 0 0 0).aerr n
      ((e.address addr).1 / 4 * 4) (loadRefused n ((e.address addr).1 / 4 * 4))).close .next s.freshBool ∧ (loadRefused
      n ((e.address addr).1 / 4 * 4) = false → t.regs = s.regs))) ∧
  (∀ (s : State) (n : Fin 8) (rd : Fin 16) (addr : EAddr), s.issuesY n (.ld n rd addr) = true → (s.aeOf n).yieldDue =
      false → eKind n ((s.aeOf n).address addr).1 = .unmapped → ((s.aeOf n).address addr).1 % 4 = 0 → ∃ t, exec (.ld n
      rd addr) s = .next t ∧ (let e := s.aeOf n; t.aeOf n = (((e.address addr).2.fly (eLat n ((e.address addr).1 / 4 *
      4)) [(.d e.bank rd, 0)] 0 0 0).fly (eLat n ((e.address addr).1 / 4 * 4)) [] 0 0 (2 ^ 11)).close .next s.freshBool
      ∧ t.evt.detected.length = s.evt.detected.length + 1)) ∧
  (∀ (s : State) (n : Fin 8) (rs : Fin 16) (addr : EAddr), s.issuesY n (.st n rs addr) = true → (s.aeOf n).yieldDue =
      false → ∃ t, exec (.st n rs addr) s = .next t ∧ (let e := s.aeOf n; t.aeOf n = (((e.address addr).2.eStores n
      ((e.address addr).1 / 4 * 4) [e.D rs]).1).close .next s.freshBool)) ∧
  (∀ (s : State) (n : Fin 8) (rs : Fin 16) (addr : EAddr), s.issuesY n (.st n rs addr) = true → (s.aeOf n).yieldDue =
      false → eKind n (((s.aeOf n).address addr).1 / 4 * 4) = .page ∨ eKind n (((s.aeOf n).address addr).1 / 4 * 4) =
      .otherState ∨ eKind n (((s.aeOf n).address addr).1 / 4 * 4) = .unmapped → ∃ t, exec (.st n rs addr) s = .next t ∧
      (let e := s.aeOf n; t.aeOf n = (((e.address addr).2.fly (eLat n ((e.address addr).1 / 4 * 4)) [] 0 0 (2 ^
      11))).close .next s.freshBool ∧ t.evt.detected.length = s.evt.detected.length + 1)) ∧
  (∀ (s : State) (n : Fin 8) (rd : Fin 16) (addr : EAddr), s.issuesY n (.ldd n rd addr) = true → (s.aeOf n).yieldDue =
      false → rd.val % 2 = 0 → ∃ t, exec (.ldd n rd addr) s = .next t ∧ (let e := s.aeOf n; t.aeOf n = (((e.address
      addr).2.fly (eLat n ((e.address addr).1 / 8 * 8)) [(.d e.bank rd, (s.eLoad n e ((e.address addr).1 / 8 *
      8)).toNat), (.d e.bank (rd + 1), (s.eLoad n e (((e.address addr).1 / 8 * 8) + 4)).toNat)] 0 0 0).aerr n
      ((e.address addr).1 / 8 * 8) (loadRefused n ((e.address addr).1 / 8 * 8) || loadRefused n (((e.address addr).1 / 8
      * 8) + 4))).close .next s.freshBool)) ∧
  (∀ (s : State) (n : Fin 8) (rs : Fin 16) (addr : EAddr), s.issuesY n (.std n rs addr) = true → (s.aeOf n).yieldDue =
      false → rs.val % 2 = 0 → ∃ t, exec (.std n rs addr) s = .next t ∧ (let e := s.aeOf n; t.aeOf n = (((e.address
      addr).2.eStores n ((e.address addr).1 / 8 * 8) [e.D rs, e.D (rs + 1)]).1).close .next s.freshBool)) ∧
  (∀ (s : State) (n : Fin 8) (pair : Fin 13) (w : BitVec 15), s.issuesY n (.lds n pair w) = true → (s.aeOf n).yieldDue =
      false → ∃ t, exec (.lds n pair w) s = .next t ∧ (let e := s.aeOf n; t.aeOf n = (e.fly 2 (pairWrites pair (s.eLoad
      n e (4 * w.toNat / 8 * 8)).toNat (s.eLoad n e (4 * w.toNat / 8 * 8 + 4)).toNat) 0 0 0).close .next s.freshBool ∧
      t.regs = s.regs)) ∧
  (∀ (s : State) (n : Fin 8) (pair : Fin 13) (w : BitVec 15), s.issuesY n (.sts n pair w) = true → (s.aeOf n).yieldDue =
      false → ∃ t, exec (.sts n pair w) s = .next t ∧ (let e := s.aeOf n; t.aeOf n = ((e.eStores n (4 * w.toNat / 8 * 8)
      (e.pairWords pair)).1).close .next s.freshBool ∧ t.regs = s.regs)) ∧
  (∀ (s : State) (n : Fin 8) (rd : Fin 16) (spr : Fin 21), s.issuesY n (.mfs n rd spr) = true → (s.aeOf n).yieldDue =
      false → ∃ t, exec (.mfs n rd spr) s = .next t ∧ (let e := s.aeOf n; t.aeOf n = (e.fly 1 [(.d e.bank rd, e.spr
      spr)] 0 0 0).close .next s.freshBool ∧ t.regs = s.regs)) ∧
  (∀ (s : State) (n : Fin 8) (spr : Fin 21) (rs : Fin 16), s.issuesY n (.mts n spr rs) = true → (s.aeOf n).yieldDue =
      false → 0 ≤ spr.val → spr.val < 8 → ∃ t, exec (.mts n spr rs) s = .next t ∧ (let e := s.aeOf n; t.aeOf n = (e.fly
      1 [(.p spr, e.D rs)] 0 0 0).close .next s.freshBool ∧ t.regs = s.regs)) ∧
  (∀ (s : State) (n : Fin 8) (spr : Fin 21) (rs : Fin 16), s.issuesY n (.mts n spr rs) = true → (s.aeOf n).yieldDue =
      false → 8 ≤ spr.val → spr.val < 16 → ∃ t, exec (.mts n spr rs) s = .next t ∧ (let e := s.aeOf n; t.aeOf n = (e.fly
      1 [(.m (spr.val - 8), e.D rs)] 0 0 0).close .next s.freshBool ∧ t.regs = s.regs)) ∧
  (∀ (s : State) (n : Fin 8) (spr : Fin 21) (rs : Fin 16), s.issuesY n (.mts n spr rs) = true → (s.aeOf n).yieldDue =
      false → 16 ≤ spr.val → spr.val < 18 → ∃ t, exec (.mts n spr rs) s = .next t ∧ (let e := s.aeOf n; t.aeOf n =
      (e.fly 1 [(.lc (spr.val - 16), e.D rs)] 0 0 0).close .next s.freshBool ∧ t.regs = s.regs)) ∧
  (∀ (s : State) (n : Fin 8) (spr : Fin 21) (rs : Fin 16), s.issuesY n (.mts n spr rs) = true → (s.aeOf n).yieldDue =
      false → 18 ≤ spr.val → spr.val < 20 → ∃ t, exec (.mts n spr rs) s = .next t ∧ (let e := s.aeOf n; t.aeOf n =
      (e.fly 1 [(.la (spr.val - 18), e.D rs)] 0 0 0).close .next s.freshBool ∧ t.regs = s.regs)) ∧
  (∀ (s : State) (n : Fin 8) (spr : Fin 21) (rs : Fin 16), s.issuesY n (.mts n spr rs) = true → (s.aeOf n).yieldDue =
      false → spr.val = 20 → ∃ t, exec (.mts n spr rs) s = .next t ∧ (let e := s.aeOf n; t.aeOf n = (e.fly 1 [] mtsMask
      (e.D rs) 0).close .next s.freshBool ∧ t.regs = s.regs)) ∧
  (∀ (s : State) (n : Fin 8) (rd : Fin 16) (addr : EAddr), (s.aeOf n).mode = .bg → s.bundleIllegal n = true → rd.val % 2
      = 1 → ∃ t, exec (.ldd n rd addr) s = .next t ∧ (t.aeOf n).mode = .idle ∧ t.is (F.AE_CTL_BG_EN n) = false ∧
      t.evt.detected.length = s.evt.detected.length + 1) ∧
  (∀ (s : State) (n : Fin 8) (rd : Fin 16) (addr : EAddr), (s.aeOf n).mode = .bg → s.bundleIllegal n = true → rd.val % 2
      = 1 → ∃ t, exec (.std n rd addr) s = .next t ∧ (t.aeOf n).mode = .idle ∧ t.is (F.AE_CTL_BG_EN n) = false ∧
      t.evt.detected.length = s.evt.detected.length + 1)

/-- Each of these commands completes under the conditions its clause gives. A taken branch holds its target for the
delay bundle, an untaken one holds none; a loop starts with its count and end, and a count of 0 skips it; END closes
the slot of an engine, WAIT yields from the save routine, RETB resumes the background code at the saved program
counter; an illegal bundle of background code stops it, clears BG_EN and records one event. -/
def Obligations.EngineFlowOperationsTakeEffect : Prop :=
  (∀ (s : State) (n : Fin 8) (b : BitVec 13), s.straight n → s.issuesY n (.jmp n b) = true → ∃ t, exec (.jmp n b) s =
      .next t ∧ (let e := s.aeOf n; (t.aeOf n).core = { e.core.nextBundle with delay := some b.toNat } ∧ t.regs =
      s.regs)) ∧
  (∀ (s : State) (n : Fin 8) (c : Fin 11) (b : BitVec 13), s.straight n → s.issuesY n (.brcc n c b) = true → ∃ t, exec
      (.brcc n c b) s = .next t ∧ (let e := s.aeOf n; (t.aeOf n).core =
      { e.core.nextBundle with delay := if e.cond c then some b.toNat else none } ∧ t.regs = s.regs)) ∧
  (∀ (s : State) (n : Fin 8) (l : Fin 2) (count : Fin 4096) (last : BitVec 13), s.straight n → s.issuesY n (.loop n l
      count last) = true → last.toNat ≠ (s.aeOf n).core.pc → ∃ t, exec (.loop n l count last) s = .next t ∧
      (let e := s.aeOf n; (t.aeOf n).core =
      { e.core.nextBundle with lc := listSet e.core.lc l (count + 1), la := listSet e.core.la l ((e.core.pc + 1) % 8192 + last.toNat * 2 ^ 16), status := setBit e.core.status (9 + l) true }
      ∧ t.regs = s.regs)) ∧
  (∀ (s : State) (n : Fin 8) (l : Fin 2) (rs : Fin 16) (last : BitVec 13), s.straight n → s.issuesY n (.loopr n l rs
      last) = true → last.toNat ≠ (s.aeOf n).core.pc → 0 < (s.aeOf n).D rs → (s.aeOf n).D rs ≤ 8191 → ∃ t, exec (.loopr
      n l rs last) s = .next t ∧ (let e := s.aeOf n; (t.aeOf n).core =
      { e.core.nextBundle with lc := listSet e.core.lc l (e.D rs), la := listSet e.core.la l ((e.core.pc + 1) % 8192 + last.toNat * 2 ^ 16), status := setBit e.core.status (9 + l) true }
      ∧ t.regs = s.regs)) ∧
  (∀ (s : State) (n : Fin 8) (l : Fin 2) (rs : Fin 16) (last : BitVec 13), s.straight n → s.issuesY n (.loopr n l rs
      last) = true → (s.aeOf n).D rs = 0 → ∃ t, exec (.loopr n l rs last) s = .next t ∧ (let e := s.aeOf n; (t.aeOf
      n).core = { e.core.nextBundle with pc := (last.toNat + 1) % 8192 } ∧ t.regs = s.regs)) ∧
  (∀ (s : State) (n : Fin 8), s.issuesY n (.end_ n) = true → ∃ t, exec (.end_ n) s = .next t ∧ (t.aeOf n).mode = .done ∧
      (t.aeOf n).lib = none ∧ t.is (F.AE_STATUS_BG_ACTIVE n) = false ∧ t.g (F.AE_SLOT_STAT_MAX_USED n (s.aeOf n).slot.k)
      = max (s.g (F.AE_SLOT_STAT_MAX_USED n (s.aeOf n).slot.k)) (min ((s.aeOf n).core.cyc - (s.aeOf n).start) 65535)) ∧
  (∀ (s : State) (n : Fin 8), s.issuesY n (.wait n) = true → ∃ t, exec (.wait n) s = .next t ∧ (t.aeOf n).mode =
      .yielded ∧ t.is (F.AE_STATUS_BG_ACTIVE n) = false ∧ (t.aeOf n).savePc = (s.aeOf n).savePc) ∧
  (∀ (s : State) (n : Fin 8), s.issuesY n (.retb n) = true → (s.aeOf n).yieldDue = false → ∃ t, exec (.retb n) s = .next
      t ∧ (t.aeOf n).mode = .bg ∧ (t.aeOf n).core.pc = (s.aeOf n).savePc % 8192 ∧ t.is (F.AE_STATUS_BG_ACTIVE n) = true) ∧
  (∀ (s : State) (n : Fin 8), s.issuesY n (.retb n) = true → (s.aeOf n).yieldDue = true → ∃ t, exec (.retb n) s = .next
      t ∧ (t.aeOf n).mode = .save ∧ (t.aeOf n).savePc = (s.aeOf n).savePc % 8192 ∧ (t.aeOf n).yieldDue = false) ∧
  (∀ (s : State) (n : Fin 8) (b : BitVec 13), s.issuesY n (.jmp n b) = true → (s.aeOf n).yieldDue = false → ∃ t, exec
      (.jmp n b) s = .next t ∧ (let e := s.aeOf n; t.aeOf n = (e).close (.branch b.toNat) s.freshBool ∧ t.regs =
      s.regs)) ∧
  (∀ (s : State) (n : Fin 8) (c : Fin 11) (b : BitVec 13), s.issuesY n (.brcc n c b) = true → (s.aeOf n).yieldDue =
      false → ∃ t, exec (.brcc n c b) s = .next t ∧ (let e := s.aeOf n; t.aeOf n = (e).close (if e.cond c then .branch
      b.toNat else .next) s.freshBool ∧ t.regs = s.regs)) ∧
  (∀ (s : State) (n : Fin 8) (l : Fin 2) (count : Fin 4096) (last : BitVec 13), s.issuesY n (.loop n l count last) =
      true → (s.aeOf n).yieldDue = false → ∃ t, exec (.loop n l count last) s = .next t ∧ (let e := s.aeOf n; t.aeOf n =
      (e.startLoop l (count + 1) last.toNat).close .next s.freshBool ∧ t.regs = s.regs)) ∧
  (∀ (s : State) (n : Fin 8) (l : Fin 2) (rs : Fin 16) (last : BitVec 13), s.issuesY n (.loopr n l rs last) = true →
      (s.aeOf n).yieldDue = false → (s.aeOf n).D rs = 0 → ∃ t, exec (.loopr n l rs last) s = .next t ∧
      (let e := s.aeOf n; t.aeOf n = (e).close (.goto (last.toNat + 1)) s.freshBool ∧ t.regs = s.regs)) ∧
  (∀ (s : State) (n : Fin 8) (l : Fin 2) (rs : Fin 16) (last : BitVec 13), s.issuesY n (.loopr n l rs last) = true →
      (s.aeOf n).yieldDue = false → 0 < (s.aeOf n).D rs → (s.aeOf n).D rs ≤ 8191 → ∃ t, exec (.loopr n l rs last) s =
      .next t ∧ (let e := s.aeOf n; t.aeOf n = (e.startLoop l (e.D rs) last.toNat).close .next s.freshBool ∧ t.regs =
      s.regs)) ∧
  (∀ (s : State) (n : Fin 8) (l : Fin 2) (rs : Fin 16) (last : BitVec 13), s.straight n → s.issuesY n (.loopr n l rs
      last) = true → last.toNat ≠ (s.aeOf n).core.pc → 8191 < (s.aeOf n).D rs → ∃ t, exec (.loopr n l rs last) s = .next
      t ∧ (t.aeOf n).core.lc = listSet (s.aeOf n).core.lc l 8191 ∧ testBit (t.aeOf n).core.status 4 = true ∧ t.regs =
      s.regs) ∧
  (∀ (s : State) (n : Fin 8) (b : BitVec 13), (s.aeOf n).mode = .bg → s.slotY n = some (.jmp n b) → (s.aeOf
      n).core.delay.isSome = true → ∃ t, exec (.jmp n b) s = .next t ∧ (t.aeOf n).mode = .idle ∧ t.is (F.AE_CTL_BG_EN n)
      = false ∧ t.evt.detected.length = s.evt.detected.length + 1) ∧
  (∀ (s : State) (n : Fin 8) (c : Fin 11) (b : BitVec 13), (s.aeOf n).mode = .bg → s.slotY n = some (.brcc n c b) →
      (s.aeOf n).core.delay.isSome = true → ∃ t, exec (.brcc n c b) s = .next t ∧ (t.aeOf n).mode = .idle ∧ t.is
      (F.AE_CTL_BG_EN n) = false ∧ t.evt.detected.length = s.evt.detected.length + 1) ∧
  (∀ (s : State) (n : Fin 8) (l : Fin 2) (count : Fin 4096) (last : BitVec 13), (s.aeOf n).mode = .bg → s.slotY n = some
      (.loop n l count last) → (s.aeOf n).core.delay.isSome = true → ∃ t, exec (.loop n l count last) s = .next t ∧
      (t.aeOf n).mode = .idle ∧ t.is (F.AE_CTL_BG_EN n) = false ∧ t.evt.detected.length = s.evt.detected.length + 1) ∧
  (∀ (s : State) (n : Fin 8) (l : Fin 2) (rs : Fin 16) (last : BitVec 13), (s.aeOf n).mode = .bg → s.slotY n = some
      (.loopr n l rs last) → (s.aeOf n).core.delay.isSome = true → ∃ t, exec (.loopr n l rs last) s = .next t ∧ (t.aeOf
      n).mode = .idle ∧ t.is (F.AE_CTL_BG_EN n) = false ∧ t.evt.detected.length = s.evt.detected.length + 1) ∧
  (∀ (s : State) (n : Fin 8), (s.aeOf n).mode = .bg → s.slotY n = some (.end_ n) → ∃ t, exec (.end_ n) s = .next t ∧
      (t.aeOf n).mode = .idle ∧ t.is (F.AE_CTL_BG_EN n) = false ∧ t.evt.detected.length = s.evt.detected.length + 1) ∧
  (∀ (s : State) (n : Fin 8), (s.aeOf n).mode = .bg → s.slotY n = some (.wait n) → ∃ t, exec (.wait n) s = .next t ∧
      (t.aeOf n).mode = .idle ∧ t.is (F.AE_CTL_BG_EN n) = false ∧ t.evt.detected.length = s.evt.detected.length + 1) ∧
  (∀ (s : State) (n : Fin 8), (s.aeOf n).mode = .bg → s.slotY n = some (.retb n) → ∃ t, exec (.retb n) s = .next t ∧
      (t.aeOf n).mode = .idle ∧ t.is (F.AE_CTL_BG_EN n) = false ∧ t.evt.detected.length = s.evt.detected.length + 1) ∧
  (∀ (s : State) (n : Fin 8), (s.aeOf n).mode = .slot → (s.aeOf n).issuing = true → s.slotY n = some (.wait n) → ∃ t,
      exec (.wait n) s = .next t ∧ (t.aeOf n).mode = .done ∧ t.is (F.AE_STATUS_OVERRUN n) = true ∧ t.g
      (F.AE_STATUS_FAULT_SLOT n) = (s.aeOf n).slot.k % 32) ∧
  (∀ (s : State) (n : Fin 8), (s.aeOf n).mode = .slot → (s.aeOf n).issuing = true → s.slotY n = some (.retb n) → ∃ t,
      exec (.retb n) s = .next t ∧ (t.aeOf n).mode = .done ∧ t.is (F.AE_STATUS_OVERRUN n) = true ∧ t.g
      (F.AE_STATUS_FAULT_SLOT n) = (s.aeOf n).slot.k % 32) ∧
  (∀ (s : State) (n : Fin 8) (x : Nat), s.issuesY n (.yNop n) = true → (s.aeOf n).yieldDue = true → (s.aeOf n).mode =
      .bg → (s.aeOf n).core.delay = some x → ∃ t, exec (.yNop n) s = .next t ∧ (t.aeOf n).mode = .save ∧ (t.aeOf
      n).savePc = x ∧ (t.aeOf n).yieldDue = false) ∧
  (∀ (s : State) (n : Fin 8), (s.aeOf n).mode = .bg → (s.aeOf n).issuing = true → s.bundleIllegal n = true → ∃ t, exec
      (.illegalBundle n) s = .next t ∧ t.is (F.AE_CTL_BG_EN n) = false ∧ (t.aeOf n).mode = .idle ∧ t.evt.detected.length
      = s.evt.detected.length + 1) ∧
  (∀ (s : State) (n : Fin 8), (s.aeOf n).mode = .slot → (s.aeOf n).issuing = true → s.bundleIllegal n = true → ∃ t, exec
      (.illegalBundle n) s = .next t ∧ (t.aeOf n).mode = .done ∧ t.is (F.AE_STATUS_OVERRUN n) = true ∧ t.g
      (F.AE_STATUS_FAULT_SLOT n) = (s.aeOf n).slot.k % 32)

/-- A result lands when its latency has passed: results that are not due stay in flight and no register of the core
changes; an ALU result that is due is in its register with its zero flag. So an ADD or SUB and an empty Y slot
behind it complete and leave the sum or difference for the next bundle. -/
def Obligations.EngineResultsLandInTheirCycle : Prop :=
  (∀ e : AeSt, (∀ f ∈ e.core.flights, e.core.cyc + 1 < f.land) → e.statusAt = none → e.tick =
      { e with core := { e.core with cyc := e.core.cyc + 1 } }) ∧
  (∀ (e : AeSt) (o i v x : Nat), e.core.flights = [⟨e.core.cyc + 1, o, [(.d 0 i, v)], none, 15, x, 0⟩] → i <
      e.core.d0.length → e.tick.core.d0.getD i 0 = v % 2 ^ 32 ∧ e.tick.core.flights = [] ∧ testBit e.tick.core.status 0
      = testBit x 0) ∧
  (∀ (s : State) (n : Fin 8) (rd : Fin 16) (ra : Fin 16) (rb : Fin 16), s.straight n → s.bundleIllegal n = false →
      s.slotX n = some (.add n rd ra rb) → s.slotY n = some (.yNop n) → (s.aeOf n).core.xDone = false → (s.aeOf
      n).core.d0.length = 16 → (s.aeOf n).core.d1.length = 16 → (s.aeOf n).mode = .bg → ∃ t, exec (.add n rd ra rb) s =
      .next t ∧ (∃ u, exec (.yNop n) t = .next u ∧ (u.aeOf n).D rd = ((s.aeOf n).D ra + (s.aeOf n).D rb) % 2 ^ 32 ∧
      (u.aeOf n).flag 0 = decide (((s.aeOf n).D ra + (s.aeOf n).D rb) % 2 ^ 32 = 0))) ∧
  (∀ (s : State) (n : Fin 8) (rd : Fin 16) (ra : Fin 16) (rb : Fin 16), s.straight n → s.bundleIllegal n = false →
      s.slotX n = some (.sub n rd ra rb) → s.slotY n = some (.yNop n) → (s.aeOf n).core.xDone = false → (s.aeOf
      n).core.d0.length = 16 → (s.aeOf n).core.d1.length = 16 → (s.aeOf n).mode = .bg → ∃ t, exec (.sub n rd ra rb) s =
      .next t ∧ (∃ u, exec (.yNop n) t = .next u ∧ (u.aeOf n).D rd = unsigned 32 ((s.aeOf n).DI ra - (s.aeOf n).DI rb)))

/-- Each of these commands of the library programs, of supervision and tuning completes under the conditions its clause
gives. A start, an abort, an apply or an undo is written as a command word with its operation, sequence number and
argument, and no other register changes; the observer reset and the fault clear set their bits of the control word;
while a slot of the axis runs such a write waits as a burst. A slot that is due starts at its entry with STATUS 0,
and a library program with it; one tied to an axis that does not run is passed over, and one whose inputs are
missing is counted, with the overrun at the limit; a library program's END ends its slot. A scan takes the fault and
the mark, with the events of both, and reacts as FAULT_ACT says: not at all, with the configured stop or with off. A
tuning stage that ends delivers its words, and its proposal where its fit is within the bound, and fails with reason
4 beyond it; a second stage without a valid result fails with reason 5. -/
def Obligations.SupervisionCommandsTakeEffect : Prop :=
  (∀ (s : State) (rq : Rq) (m : Fin 16) (seq : BitVec 8) (ticket : BitVec 16), s.reaches rq (axisWord m 0x25C) →
      ¬((s.aeOf (m.val / 2)).mode = .slot ∧ ((s.aeOf (m.val / 2)).slot.axes (m.val / 2)).contains m.val = true) → ∃ t,
      exec (.tsStart rq m seq ticket) s = .next t ∧ getBits (t.bw m 0x25C) 0 3 = 1 ∧ getBits (t.bw m 0x25C) 8 8 =
      seq.toNat ∧ getBits (t.bw m 0x25C) 16 16 = ticket.toNat ∧ sameRegsBut [axisWord m 0x25C] s t) ∧
  (∀ (s : State) (rq : Rq) (m : Fin 16) (seq : BitVec 8) (ticket : BitVec 16), s.reaches rq (axisWord m 0x25C) → (s.aeOf
      (m.val / 2)).mode = .slot → ((s.aeOf (m.val / 2)).slot.axes (m.val / 2)).contains m.val = true → ∃ t, exec
      (.tsStart rq m seq ticket) s = .next t ∧ t.regs = s.regs ∧ (t.aeOf (m.val / 2)).bursts = (s.aeOf (m.val /
      2)).bursts ++ [[(m.val * 0x4000 + 0x25C, BitVec.ofNat 32 (1 + 256 * seq.toNat + 65536 * ticket.toNat))]]) ∧
  (∀ (s : State) (rq : Rq) (m : Fin 16) (seq : BitVec 8), s.reaches rq (axisWord m 0x25C) → ¬((s.aeOf (m.val / 2)).mode
      = .slot ∧ ((s.aeOf (m.val / 2)).slot.axes (m.val / 2)).contains m.val = true) → ∃ t, exec (.tsAbort rq m seq) s =
      .next t ∧ getBits (t.bw m 0x25C) 0 3 = 2 ∧ getBits (t.bw m 0x25C) 8 8 = seq.toNat ∧ getBits (t.bw m 0x25C) 16 16 =
      0 ∧ sameRegsBut [axisWord m 0x25C] s t) ∧
  (∀ (s : State) (rq : Rq) (m : Fin 16) (seq : BitVec 8), s.reaches rq (axisWord m 0x25C) → (s.aeOf (m.val / 2)).mode =
      .slot → ((s.aeOf (m.val / 2)).slot.axes (m.val / 2)).contains m.val = true → ∃ t, exec (.tsAbort rq m seq) s =
      .next t ∧ t.regs = s.regs ∧ (t.aeOf (m.val / 2)).bursts = (s.aeOf (m.val / 2)).bursts ++ [[(m.val * 0x4000 +
      0x25C, BitVec.ofNat 32 (2 + 256 * seq.toNat + 65536 * 0))]]) ∧
  (∀ (s : State) (rq : Rq) (m : Fin 16) (seq : BitVec 8) (ticket : BitVec 16), s.reaches rq (axisWord m 0x280) →
      ¬((s.aeOf (m.val / 2)).mode = .slot ∧ ((s.aeOf (m.val / 2)).slot.axes (m.val / 2)).contains m.val = true) → ∃ t,
      exec (.atCurrentPlant rq m seq ticket) s = .next t ∧ getBits (t.bw m 0x280) 0 3 = 1 ∧ getBits (t.bw m 0x280) 8 8 =
      seq.toNat ∧ getBits (t.bw m 0x280) 16 16 = ticket.toNat ∧ sameRegsBut [axisWord m 0x280] s t) ∧
  (∀ (s : State) (rq : Rq) (m : Fin 16) (seq : BitVec 8) (ticket : BitVec 16), s.reaches rq (axisWord m 0x280) → (s.aeOf
      (m.val / 2)).mode = .slot → ((s.aeOf (m.val / 2)).slot.axes (m.val / 2)).contains m.val = true → ∃ t, exec
      (.atCurrentPlant rq m seq ticket) s = .next t ∧ t.regs = s.regs ∧ (t.aeOf (m.val / 2)).bursts = (s.aeOf (m.val /
      2)).bursts ++ [[(m.val * 0x4000 + 0x280, BitVec.ofNat 32 (1 + 256 * seq.toNat + 65536 * ticket.toNat))]]) ∧
  (∀ (s : State) (rq : Rq) (m : Fin 16) (seq : BitVec 8) (ticket : BitVec 16), s.reaches rq (axisWord m 0x280) →
      ¬((s.aeOf (m.val / 2)).mode = .slot ∧ ((s.aeOf (m.val / 2)).slot.axes (m.val / 2)).contains m.val = true) → ∃ t,
      exec (.atMechanics rq m seq ticket) s = .next t ∧ getBits (t.bw m 0x280) 0 3 = 2 ∧ getBits (t.bw m 0x280) 8 8 =
      seq.toNat ∧ getBits (t.bw m 0x280) 16 16 = ticket.toNat ∧ sameRegsBut [axisWord m 0x280] s t) ∧
  (∀ (s : State) (rq : Rq) (m : Fin 16) (seq : BitVec 8) (ticket : BitVec 16), s.reaches rq (axisWord m 0x280) → (s.aeOf
      (m.val / 2)).mode = .slot → ((s.aeOf (m.val / 2)).slot.axes (m.val / 2)).contains m.val = true → ∃ t, exec
      (.atMechanics rq m seq ticket) s = .next t ∧ t.regs = s.regs ∧ (t.aeOf (m.val / 2)).bursts = (s.aeOf (m.val /
      2)).bursts ++ [[(m.val * 0x4000 + 0x280, BitVec.ofNat 32 (2 + 256 * seq.toNat + 65536 * ticket.toNat))]]) ∧
  (∀ (s : State) (rq : Rq) (m : Fin 16) (seq : BitVec 8) (ticket : BitVec 16), s.reaches rq (axisWord m 0x280) →
      ¬((s.aeOf (m.val / 2)).mode = .slot ∧ ((s.aeOf (m.val / 2)).slot.axes (m.val / 2)).contains m.val = true) → ∃ t,
      exec (.atResonance rq m seq ticket) s = .next t ∧ getBits (t.bw m 0x280) 0 3 = 3 ∧ getBits (t.bw m 0x280) 8 8 =
      seq.toNat ∧ getBits (t.bw m 0x280) 16 16 = ticket.toNat ∧ sameRegsBut [axisWord m 0x280] s t) ∧
  (∀ (s : State) (rq : Rq) (m : Fin 16) (seq : BitVec 8) (ticket : BitVec 16), s.reaches rq (axisWord m 0x280) → (s.aeOf
      (m.val / 2)).mode = .slot → ((s.aeOf (m.val / 2)).slot.axes (m.val / 2)).contains m.val = true → ∃ t, exec
      (.atResonance rq m seq ticket) s = .next t ∧ t.regs = s.regs ∧ (t.aeOf (m.val / 2)).bursts = (s.aeOf (m.val /
      2)).bursts ++ [[(m.val * 0x4000 + 0x280, BitVec.ofNat 32 (3 + 256 * seq.toNat + 65536 * ticket.toNat))]]) ∧
  (∀ (s : State) (rq : Rq) (m : Fin 16) (seq : BitVec 8) (number : BitVec 16), s.reaches rq (axisWord m 0x280) →
      ¬((s.aeOf (m.val / 2)).mode = .slot ∧ ((s.aeOf (m.val / 2)).slot.axes (m.val / 2)).contains m.val = true) → ∃ t,
      exec (.atApply rq m seq number) s = .next t ∧ getBits (t.bw m 0x280) 0 3 = 4 ∧ getBits (t.bw m 0x280) 8 8 =
      seq.toNat ∧ getBits (t.bw m 0x280) 16 16 = number.toNat ∧ sameRegsBut [axisWord m 0x280] s t) ∧
  (∀ (s : State) (rq : Rq) (m : Fin 16) (seq : BitVec 8) (number : BitVec 16), s.reaches rq (axisWord m 0x280) → (s.aeOf
      (m.val / 2)).mode = .slot → ((s.aeOf (m.val / 2)).slot.axes (m.val / 2)).contains m.val = true → ∃ t, exec
      (.atApply rq m seq number) s = .next t ∧ t.regs = s.regs ∧ (t.aeOf (m.val / 2)).bursts = (s.aeOf (m.val /
      2)).bursts ++ [[(m.val * 0x4000 + 0x280, BitVec.ofNat 32 (4 + 256 * seq.toNat + 65536 * number.toNat))]]) ∧
  (∀ (s : State) (rq : Rq) (m : Fin 16) (seq : BitVec 8), s.reaches rq (axisWord m 0x280) → ¬((s.aeOf (m.val / 2)).mode
      = .slot ∧ ((s.aeOf (m.val / 2)).slot.axes (m.val / 2)).contains m.val = true) → ∃ t, exec (.atUndo rq m seq) s =
      .next t ∧ getBits (t.bw m 0x280) 0 3 = 5 ∧ getBits (t.bw m 0x280) 8 8 = seq.toNat ∧ getBits (t.bw m 0x280) 16 16 =
      0 ∧ sameRegsBut [axisWord m 0x280] s t) ∧
  (∀ (s : State) (rq : Rq) (m : Fin 16) (seq : BitVec 8), s.reaches rq (axisWord m 0x280) → (s.aeOf (m.val / 2)).mode =
      .slot → ((s.aeOf (m.val / 2)).slot.axes (m.val / 2)).contains m.val = true → ∃ t, exec (.atUndo rq m seq) s =
      .next t ∧ t.regs = s.regs ∧ (t.aeOf (m.val / 2)).bursts = (s.aeOf (m.val / 2)).bursts ++ [[(m.val * 0x4000 +
      0x280, BitVec.ofNat 32 (5 + 256 * seq.toNat + 65536 * 0))]]) ∧
  (∀ (s : State) (rq : Rq) (m : Fin 16) (seq : BitVec 8), s.reaches rq (axisWord m 0x280) → ¬((s.aeOf (m.val / 2)).mode
      = .slot ∧ ((s.aeOf (m.val / 2)).slot.axes (m.val / 2)).contains m.val = true) → ∃ t, exec (.atAbort rq m seq) s =
      .next t ∧ getBits (t.bw m 0x280) 0 3 = 6 ∧ getBits (t.bw m 0x280) 8 8 = seq.toNat ∧ getBits (t.bw m 0x280) 16 16 =
      0 ∧ sameRegsBut [axisWord m 0x280] s t) ∧
  (∀ (s : State) (rq : Rq) (m : Fin 16) (seq : BitVec 8), s.reaches rq (axisWord m 0x280) → (s.aeOf (m.val / 2)).mode =
      .slot → ((s.aeOf (m.val / 2)).slot.axes (m.val / 2)).contains m.val = true → ∃ t, exec (.atAbort rq m seq) s =
      .next t ∧ t.regs = s.regs ∧ (t.aeOf (m.val / 2)).bursts = (s.aeOf (m.val / 2)).bursts ++ [[(m.val * 0x4000 +
      0x280, BitVec.ofNat 32 (6 + 256 * seq.toNat + 65536 * 0))]]) ∧
  (∀ (s : State) (rq : Rq) (m : Fin 16), s.reaches rq (axisWord m 0x200) → ¬((s.aeOf (m.val / 2)).mode = .slot ∧
      ((s.aeOf (m.val / 2)).slot.axes (m.val / 2)).contains m.val = true) → ∃ t, exec (.obsReset rq m) s = .next t ∧
      getBits (t.bw m 0x200) 7 1 = 1 ∧ getBits (t.bw m 0x200) 0 7 = getBits (s.bw m 0x200) 0 7) ∧
  (∀ (s : State) (rq : Rq) (m : Fin 16), s.reaches rq (axisWord m 0x200) → (s.aeOf (m.val / 2)).mode = .slot → ((s.aeOf
      (m.val / 2)).slot.axes (m.val / 2)).contains m.val = true → ∃ t, exec (.obsReset rq m) s = .next t ∧ t.regs =
      s.regs ∧ (t.aeOf (m.val / 2)).bursts = (s.aeOf (m.val / 2)).bursts ++ [[(m.val * 0x4000 + 0x200, putBits (s.bw m
      0x200) 7 1 1)]]) ∧
  (∀ (s : State) (rq : Rq) (m : Fin 16), s.reaches rq (axisWord m 0x200) → ¬((s.aeOf (m.val / 2)).mode = .slot ∧
      ((s.aeOf (m.val / 2)).slot.axes (m.val / 2)).contains m.val = true) → ∃ t, exec (.supFaultClr rq m) s = .next t ∧
      getBits (t.bw m 0x200) 8 1 = 1 ∧ getBits (t.bw m 0x200) 0 7 = getBits (s.bw m 0x200) 0 7) ∧
  (∀ (s : State) (rq : Rq) (m : Fin 16), s.reaches rq (axisWord m 0x200) → (s.aeOf (m.val / 2)).mode = .slot → ((s.aeOf
      (m.val / 2)).slot.axes (m.val / 2)).contains m.val = true → ∃ t, exec (.supFaultClr rq m) s = .next t ∧ t.regs =
      s.regs ∧ (t.aeOf (m.val / 2)).bursts = (s.aeOf (m.val / 2)).bursts ++ [[(m.val * 0x4000 + 0x200, putBits (s.bw m
      0x200) 8 1 1)]]) ∧
  (∀ (s : State) (n : Fin 8) (k : Fin 32) (f : SlotF), (s.aeOf n).lib = none → s.dueSlot n k = some f → f.tied = false →
      (s.aeOf n).mode = .idle ∨ (s.aeOf n).mode = .yielded → ∃ t, exec (.slotStart n k .bundles) s = .next t ∧ (t.aeOf
      n).mode = .slot ∧ (t.aeOf n).lib = none ∧ (t.aeOf n).slot = f ∧ (t.aeOf n).core.pc = f.entry % 8192 ∧ (t.aeOf
      n).core.status = 0) ∧
  (∀ (s : State) (n : Fin 8) (k : Fin 32) (f : SlotF), (s.aeOf n).lib = none → s.dueSlot n k = some f → f.tied = false →
      (s.aeOf n).mode = .save ∨ (s.aeOf n).mode = .restore ∨ (s.aeOf n).mode = .bg → ∃ t, exec (.slotStart n k .bundles)
      s = .next t ∧ (t.aeOf n).mode = .slot ∧ (t.aeOf n).slot = f ∧ (t.aeOf n).fresh = true ∧ t.is
      (F.AE_STATUS_BG_SAVE_LATE n) = true) ∧
  (∀ (s : State) (n : Fin 8) (k : Fin 32) (prog : AeProg) (f : SlotF), (s.aeOf n).lib = none → s.dueSlot n k = some f →
      f.tied = false → ∃ t, exec (.slotStart n k prog) s = .next t ∧ (t.aeOf n).mode = .slot ∧ (t.aeOf n).slot = f ∧
      (t.aeOf n).lib.map (fun r => r.prog) = (if prog = .bundles then none else some prog)) ∧
  (∀ (s : State) (n : Fin 8) (k : Fin 32) (prog : AeProg) (f : SlotF), (s.aeOf n).lib = none → s.dueSlot n k = some f →
      f.tied = true → s.running (f.home n) = true → s.missed n f = none → ∃ t, exec (.slotStart n k prog) s = .next t ∧
      (t.aeOf n).mode = .slot ∧ (t.aeOf n).slot = f ∧ (t.aeOf n).lib.map (fun r => r.prog) = (if prog = .bundles then
      none else some prog)) ∧
  (∀ (s : State) (n : Fin 8) (k : Fin 32) (prog : AeProg) (f : SlotF), (s.aeOf n).lib = none → s.dueSlot n k = some f →
      f.tied = true → s.running (f.home n) = false → ∃ t, exec (.slotStart n k prog) s = .next t ∧ (t.aeOf n).ran = f.k
      :: (s.aeOf n).ran ∧ (t.aeOf n).lib = none ∧ (t.aeOf n).mode ≠ .slot) ∧
  (∀ (s : State) (n : Fin 8) (k : Fin 32) (prog : AeProg) (f : SlotF) (x : Nat), (s.aeOf n).lib = none → s.dueSlot n k =
      some f → f.tied = true → s.running (f.home n) = true → s.missed n f = some x → s.g (missField n (f.home n)) < s.g
      (F.AE_SCHED_MISS_LIMIT n) → ∃ t, exec (.slotStart n k prog) s = .next t ∧ (t.aeOf n).ran = f.k :: (s.aeOf n).ran ∧
      (t.aeOf n).lib = none ∧ (t.aeOf n).mode ≠ .slot ∧ t.is (missFlag n x) = true ∧ t.g (missField n (f.home n)) = s.g
      (missField n (f.home n)) + 1) ∧
  (∀ (s : State) (n : Fin 8) (k : Fin 32) (prog : AeProg) (f : SlotF) (x : Nat), (s.aeOf n).lib = none → s.dueSlot n k =
      some f → f.tied = true → s.running (f.home n) = true → s.missed n f = some x → s.g (F.AE_SCHED_MISS_LIMIT n) ≤ s.g
      (missField n (f.home n)) → ∃ t, exec (.slotStart n k prog) s = .next t ∧ t.is (missFlag n x) = true ∧ t.is
      (F.AE_STATUS_OVERRUN n) = true ∧ t.g (F.AE_STATUS_FAULT_SLOT n) = f.k % 32) ∧
  (∀ (s : State) (n : Fin 8) (r : LibRun), (s.aeOf n).lib = some r → r.used < (s.aeOf n).slot.len → (s.aeOf n).start +
      r.used < max s.cycNow (s.aeOf n).core.cyc → ((s.libDue n).aeOf n).mode = .done ∧ ((s.libDue n).aeOf n).lib = none) ∧
  (∀ (s : State) (m : Fin 16), getBits (s.bw m 0x204) 4 1 = 0 → ∃ t, exec (.supScan m) s = .next t ∧ (t.supOf m).seen =
      false ∧ (t.supOf m).mark = false ∧ t.evt.detected.length = s.evt.detected.length + (if (s.supOf m).mark then 1
      else 0) ∧ t.regs = s.regs) ∧
  (∀ (s : State) (m : Fin 16), getBits (s.bw m 0x204) 4 1 = 1 → (s.supOf m).seen = true → ∃ t, exec (.supScan m) s =
      .next t ∧ (t.supOf m).seen = true ∧ (t.supOf m).mark = false ∧ t.evt.detected.length = s.evt.detected.length + (if
      (s.supOf m).mark then 1 else 0) ∧ t.regs = s.regs) ∧
  (∀ (s : State) (m : Fin 16), getBits (s.bw m 0x204) 4 1 = 1 → (s.supOf m).seen = false → getBits (s.bw m 0x200) 1 2 =
      0 → ∃ t, exec (.supScan m) s = .next t ∧ (t.supOf m).seen = true ∧ (t.supOf m).mark = false ∧ t.regs = s.regs ∧
      t.evt.detected.length = s.evt.detected.length + (if (s.supOf m).mark then 2 else 1)) ∧
  (∀ (s : State) (m : Fin 16) (u : State), getBits (s.bw m 0x204) 4 1 = 1 → (s.supOf m).seen = false → getBits (s.bw m
      0x200) 1 2 = 1 → (s.supOf m).mark = false → u = ((s.setSup m
      { s.supOf m with seen := true, mark := false }).chanEvent m 5).configuredStop m → ∃ t, exec (.supScan m) s = .next
      t ∧ t = u ∧ (t.supOf m).seen = true) ∧
  (∀ (s : State) (m : Fin 16), getBits (s.bw m 0x204) 4 1 = 1 → (s.supOf m).seen = false → 2 ≤ getBits (s.bw m 0x200) 1
      2 → s.higherRuns m = false → ∃ t, exec (.supScan m) s = .next t ∧ (t.supOf m).seen = true ∧ t.is
      (F.AX_PWM_STATUS_LAUNCH_OFF m) = true ∧ t.is (F.AX_PWM_CTL_OUT_EN m) = false) ∧
  (∀ (s : State) (m : Fin 16) (r : AtResult), (s.supOf m).stage = 2 → (s.supOf m).gen = none → r.ok = false → ∃ t, exec
      (.atStageDone m r) s = .next t ∧ (t.supOf m).stage = 0 ∧ getBits (t.bw m 0x284) 0 3 = 3 ∧ getBits (t.bw m 0x284) 4
      4 = 5) ∧
  (∀ (s : State) (m : Fin 16) (r : AtResult), (s.supOf m).stage = 1 → (s.supOf m).gen = none → r.fit.int ≤ s.bi m 0x294
      → ∃ t, exec (.atStageDone m r) s = .next t ∧ (t.supOf m).stage = 0 ∧ getBits (t.bw m 0x284) 0 3 = 2 ∧ getBits
      (t.bw m 0x284) 4 4 = 0 ∧ t.bw m 0x2A0 = r.w0 ∧ t.bw m 0x2A4 = r.w1 ∧ t.bw m 0x2A8 = r.w2 ∧ t.bw m 0x2B8 = r.fit ∧
      t.bw m 0x298 = s.bw m 0x298 + 1 ∧ (t.supOf m).known = Nat.lor (s.supOf m).known (2 ^ ((s.supOf m).stage - 1))) ∧
  (∀ (s : State) (m : Fin 16) (r : AtResult), (s.supOf m).stage = 1 → (s.supOf m).gen = none → s.bi m 0x294 < r.fit.int
      → ∃ t, exec (.atStageDone m r) s = .next t ∧ (t.supOf m).stage = 0 ∧ getBits (t.bw m 0x284) 0 3 = 3 ∧ getBits
      (t.bw m 0x284) 4 4 = 4 ∧ t.bw m 0x2A0 = r.w0 ∧ t.bw m 0x2A4 = r.w1 ∧ t.bw m 0x2A8 = r.w2 ∧ t.bw m 0x2B8 = r.fit ∧
      t.bw m 0x298 = s.bw m 0x298 ∧ (t.supOf m).known = Nat.lor (s.supOf m).known (2 ^ ((s.supOf m).stage - 1))) ∧
  (∀ (s : State) (m : Fin 16) (r : AtResult), (s.supOf m).stage = 2 → (s.supOf m).gen = none → r.ok = true → r.fit.int ≤
      s.bi m 0x294 → ∃ t, exec (.atStageDone m r) s = .next t ∧ (t.supOf m).stage = 0 ∧ getBits (t.bw m 0x284) 0 3 = 2 ∧
      getBits (t.bw m 0x284) 4 4 = 0 ∧ t.bw m 0x2AC = r.w0 ∧ t.bw m 0x2B0 = r.w1 ∧ t.bw m 0x2B4 = r.w2 ∧ t.bw m 0x2B8 =
      r.fit ∧ t.bw m 0x298 = s.bw m 0x298 + 1 ∧ (t.supOf m).known = Nat.lor (s.supOf m).known (2 ^ ((s.supOf m).stage -
      1))) ∧
  (∀ (s : State) (m : Fin 16) (r : AtResult), (s.supOf m).stage = 2 → (s.supOf m).gen = none → r.ok = true → s.bi m
      0x294 < r.fit.int → ∃ t, exec (.atStageDone m r) s = .next t ∧ (t.supOf m).stage = 0 ∧ getBits (t.bw m 0x284) 0 3
      = 3 ∧ getBits (t.bw m 0x284) 4 4 = 4 ∧ t.bw m 0x2AC = r.w0 ∧ t.bw m 0x2B0 = r.w1 ∧ t.bw m 0x2B4 = r.w2 ∧ t.bw m
      0x2B8 = r.fit ∧ t.bw m 0x298 = s.bw m 0x298 ∧ (t.supOf m).known = Nat.lor (s.supOf m).known (2 ^ ((s.supOf
      m).stage - 1))) ∧
  (∀ (s : State) (m : Fin 16) (r : AtResult), 2 < (s.supOf m).stage → (s.supOf m).gen = none → r.fit.int ≤ s.bi m 0x294
      → ∃ t, exec (.atStageDone m r) s = .next t ∧ (t.supOf m).stage = 0 ∧ getBits (t.bw m 0x284) 0 3 = 2 ∧ getBits
      (t.bw m 0x284) 4 4 = 0 ∧ t.bw m 0x2BC = (r.ordered 3).getD 0 0 ∧ t.bw m 0x2C0 = (r.ordered 3).getD 1 0 ∧ t.bw m
      0x2C4 = (r.ordered 3).getD 2 0 ∧ t.bw m 0x2B8 = r.fit ∧ t.bw m 0x298 = s.bw m 0x298 + 1 ∧ (t.supOf m).known =
      Nat.lor (s.supOf m).known (2 ^ ((s.supOf m).stage - 1))) ∧
  (∀ (s : State) (m : Fin 16) (r : AtResult), 2 < (s.supOf m).stage → (s.supOf m).gen = none → s.bi m 0x294 < r.fit.int
      → ∃ t, exec (.atStageDone m r) s = .next t ∧ (t.supOf m).stage = 0 ∧ getBits (t.bw m 0x284) 0 3 = 3 ∧ getBits
      (t.bw m 0x284) 4 4 = 4 ∧ t.bw m 0x2BC = (r.ordered 3).getD 0 0 ∧ t.bw m 0x2C0 = (r.ordered 3).getD 1 0 ∧ t.bw m
      0x2C4 = (r.ordered 3).getD 2 0 ∧ t.bw m 0x2B8 = r.fit ∧ t.bw m 0x298 = s.bw m 0x298 ∧ (t.supOf m).known = Nat.lor
      (s.supOf m).known (2 ^ ((s.supOf m).stage - 1)))

/-- Each of these commands of a channel completes where it reaches its register and no rule refuses it. A move, a
velocity move, a homing, the limits, and a stop or quick stop outside a group wait for the channel's next
evaluation, with the limits and the target staged at that moment, and a move or homing ends a hold; a queued move of
a moving channel joins the queue; a velocity move of a BLDC channel without handover is held there; a stop of a
member of a group is asked of the group; FLUSH_QUEUE empties the queue at once; CLEAR_FAULT brings a channel whose
unit shows no fault from STATE 7 to IDLE at its measured position; a configuration without reserved values takes its
fields, a new SRC alone in STATE 0 and in STATE 6, which it leaves, and is else refused for SRC. -/
def Obligations.ChannelCommandsTakeEffect : Prop :=
  (∀ (s : State) (rq : Rq) (k : Fin 168) (queued : Bool) (start : Bool), s.reaches rq (R.LSP_CH_CMD k) → (s.limPos k &&
      s.limNeg k) = false → (s.chanOf k).gains = none → s.cmdBad k 1 queued = false → (queued && s.moving k) = false →
      (s.bldcWaits k && !start) = false → ∃ t, exec (.moveAbsolute rq k queued start) s = .next t ∧ (t.chanOf k).pend =
      (s.chanOf k).pend ++ [.move ⟨1, s.stagedTarget k, s.stagedLims k, (if start then some (s.extendShort (s.rd
      (R.LSP_CH_START k))) else none)⟩] ∧ t.regs = s.regs) ∧
  (∀ (s : State) (rq : Rq) (k : Fin 168) (queued : Bool) (start : Bool), s.reaches rq (R.LSP_CH_CMD k) → (s.limPos k &&
      s.limNeg k) = false → (s.chanOf k).gains.isSome = true → s.cmdBad k 1 queued = false → (queued && s.moving k) =
      false → (s.bldcWaits k && !start) = false → ∃ t, exec (.moveAbsolute rq k queued start) s = .next t ∧ (t.chanOf
      k).pend = (s.chanOf k).pend ++ [.move ⟨1, s.stagedTarget k, s.stagedLims k, (if start then some (s.extendShort
      (s.rd (R.LSP_CH_START k))) else none)⟩] ∧ (t.chanOf k).gains = none ∧ t.is (F.LSP_CH_STATUS_HOLD k) = false) ∧
  (∀ (s : State) (rq : Rq) (k : Fin 168) (start : Bool), s.reaches rq (R.LSP_CH_CMD k) → (s.limPos k && s.limNeg k) =
      false → s.cmdBad k 1 true = false → s.moving k = true → (s.chanOf k).queue.length < 4 → ∃ t, exec (.moveAbsolute
      rq k true start) s = .next t ∧ (t.chanOf k).queue = (s.chanOf k).queue ++ [⟨1, s.stagedTarget k, s.stagedLims k,
      none⟩] ∧ t.g (F.LSP_CH_STATUS_QLEVEL k) = (s.chanOf k).queue.length + 1 ∧ (t.chanOf k).pend = (s.chanOf k).pend) ∧
  (∀ (s : State) (rq : Rq) (k : Fin 168) (queued : Bool) (start : Bool), s.reaches rq (R.LSP_CH_CMD k) → (s.limPos k &&
      s.limNeg k) = false → (s.chanOf k).gains = none → s.cmdBad k 2 queued = false → (queued && s.moving k) = false →
      (s.bldcWaits k && !start) = false → ∃ t, exec (.moveRelative rq k queued start) s = .next t ∧ (t.chanOf k).pend =
      (s.chanOf k).pend ++ [.move ⟨2, s.stagedTarget k, s.stagedLims k, (if start then some (s.extendShort (s.rd
      (R.LSP_CH_START k))) else none)⟩] ∧ t.regs = s.regs) ∧
  (∀ (s : State) (rq : Rq) (k : Fin 168) (queued : Bool) (start : Bool), s.reaches rq (R.LSP_CH_CMD k) → (s.limPos k &&
      s.limNeg k) = false → (s.chanOf k).gains.isSome = true → s.cmdBad k 2 queued = false → (queued && s.moving k) =
      false → (s.bldcWaits k && !start) = false → ∃ t, exec (.moveRelative rq k queued start) s = .next t ∧ (t.chanOf
      k).pend = (s.chanOf k).pend ++ [.move ⟨2, s.stagedTarget k, s.stagedLims k, (if start then some (s.extendShort
      (s.rd (R.LSP_CH_START k))) else none)⟩] ∧ (t.chanOf k).gains = none ∧ t.is (F.LSP_CH_STATUS_HOLD k) = false) ∧
  (∀ (s : State) (rq : Rq) (k : Fin 168) (start : Bool), s.reaches rq (R.LSP_CH_CMD k) → (s.limPos k && s.limNeg k) =
      false → s.cmdBad k 2 true = false → s.moving k = true → (s.chanOf k).queue.length < 4 → ∃ t, exec (.moveRelative
      rq k true start) s = .next t ∧ (t.chanOf k).queue = (s.chanOf k).queue ++ [⟨2, s.stagedTarget k, s.stagedLims k,
      none⟩] ∧ t.g (F.LSP_CH_STATUS_QLEVEL k) = (s.chanOf k).queue.length + 1 ∧ (t.chanOf k).pend = (s.chanOf k).pend) ∧
  (∀ (s : State) (rq : Rq) (k : Fin 168) (queued : Bool) (start : Bool), s.reaches rq (R.LSP_CH_CMD k) → (s.limPos k &&
      s.limNeg k) = false → (s.chanOf k).gains = none → s.cmdBad k 3 queued = false → (queued && s.moving k) = false →
      (s.bldcWaits k && !start) = false → ∃ t, exec (.velocityMove rq k queued start) s = .next t ∧ (t.chanOf k).pend =
      (s.chanOf k).pend ++ [.move ⟨3, s.stagedTarget k, s.stagedLims k, (if start then some (s.extendShort (s.rd
      (R.LSP_CH_START k))) else none)⟩] ∧ t.regs = s.regs) ∧
  (∀ (s : State) (rq : Rq) (k : Fin 168) (queued : Bool) (start : Bool), s.reaches rq (R.LSP_CH_CMD k) → (s.limPos k &&
      s.limNeg k) = false → (s.chanOf k).gains.isSome = true → s.cmdBad k 3 queued = false → (queued && s.moving k) =
      false → (s.bldcWaits k && !start) = false → ∃ t, exec (.velocityMove rq k queued start) s = .next t ∧ (t.chanOf
      k).pend = (s.chanOf k).pend ++ [.move ⟨3, s.stagedTarget k, s.stagedLims k, (if start then some (s.extendShort
      (s.rd (R.LSP_CH_START k))) else none)⟩] ∧ (t.chanOf k).gains = none ∧ t.is (F.LSP_CH_STATUS_HOLD k) = false) ∧
  (∀ (s : State) (rq : Rq) (k : Fin 168) (start : Bool), s.reaches rq (R.LSP_CH_CMD k) → (s.limPos k && s.limNeg k) =
      false → s.cmdBad k 3 true = false → s.moving k = true → (s.chanOf k).queue.length < 4 → ∃ t, exec (.velocityMove
      rq k true start) s = .next t ∧ (t.chanOf k).queue = (s.chanOf k).queue ++ [⟨3, s.stagedTarget k, s.stagedLims k,
      none⟩] ∧ t.g (F.LSP_CH_STATUS_QLEVEL k) = (s.chanOf k).queue.length + 1 ∧ (t.chanOf k).pend = (s.chanOf k).pend) ∧
  (∀ (s : State) (rq : Rq) (k : Fin 168) (queued : Bool), s.reaches rq (R.LSP_CH_CMD k) → (s.limPos k && s.limNeg k) =
      false → (s.chanOf k).gains = none → s.cmdBad k 3 queued = false → (queued && s.moving k) = false → s.bldcWaits k =
      true → (s.stagedLims k).v ≠ 0 → ∃ t, exec (.velocityMove rq k queued false) s = .next t ∧ (t.auxOf (k.val -
      16)).hold = some ⟨3, s.stagedTarget k, s.stagedLims k, none⟩ ∧ t.chanState k = 2 ∧ (t.chanOf k).plan = none) ∧
  (∀ (s : State) (rq : Rq) (k : Fin 168) (queued : Bool), s.reaches rq (R.LSP_CH_CMD k) → (s.limPos k && s.limNeg k) =
      false → (s.chanOf k).gains = none → s.cmdBad k 3 queued = false → (queued && s.moving k) = false → s.bldcWaits k =
      true → (s.stagedLims k).v = 0 → ∃ t, exec (.velocityMove rq k queued false) s = .next t ∧ (t.auxOf (k.val -
      16)).hold = none ∧ t.chanState k = 0 ∧ (t.chanOf k).plan = none) ∧
  (∀ (s : State) (rq : Rq) (k : Fin 168) (g : Nat), s.reaches rq (R.LSP_CH_CMD k) → s.inGroup k = some g → ∃ t, exec
      (.stop rq k) s = .next t ∧ (tabGet (fun _ => Grp.reset) t.grps g).stopReq.isSome = true ∧ t.regs = s.regs) ∧
  (∀ (s : State) (rq : Rq) (k : Fin 168) (g : Nat), s.reaches rq (R.LSP_CH_CMD k) → s.inGroup k = some g → ∃ t, exec
      (.quickStop rq k) s = .next t ∧ (tabGet (fun _ => Grp.reset) t.grps g).stopReq.isSome = true ∧ t.regs = s.regs ∧
      (tabGet (fun _ => Grp.reset) t.grps g).stopReq = some true) ∧
  (∀ (s : State) (rq : Rq) (k : Fin 168), s.reaches rq (R.LSP_CH_CMD k) → s.inGroup k = none → s.chanState k ≠ 7 → ∃ t,
      exec (.stop rq k) s = .next t ∧ (t.chanOf k).pend = (s.chanOf k).pend ++ [.stop false] ∧ (t.chanOf k).queue = []) ∧
  (∀ (s : State) (rq : Rq) (k : Fin 168), s.reaches rq (R.LSP_CH_CMD k) → s.inGroup k = none → s.chanState k ≠ 7 → ∃ t,
      exec (.quickStop rq k) s = .next t ∧ (t.chanOf k).pend = (s.chanOf k).pend ++ [.stop true] ∧ (t.chanOf k).queue =
      []) ∧
  (∀ (s : State) (rq : Rq) (k : Fin 168), s.reaches rq (R.LSP_CH_CMD k) → (s.chanOf k).gains.isSome = true → s.cmdBad k
      6 false = false → ∃ t, exec (.home rq k) s = .next t ∧ (t.chanOf k).pend = (s.chanOf k).pend ++ [.home
      (s.stagedLims k)] ∧ (t.chanOf k).gains = none ∧ t.is (F.LSP_CH_STATUS_HOLD k) = false) ∧
  (∀ (s : State) (rq : Rq) (k : Fin 168), s.reaches rq (R.LSP_CH_CMD k) → (s.chanOf k).gains = none → s.cmdBad k 6 false
      = false → ∃ t, exec (.home rq k) s = .next t ∧ (t.chanOf k).pend = (s.chanOf k).pend ++ [.home (s.stagedLims k)] ∧
      t.regs = s.regs) ∧
  (∀ (s : State) (rq : Rq) (k : Fin 168), s.reaches rq (R.LSP_CH_CMD k) → s.cmdBad k 7 false = false → ∃ t, exec
      (.applyLimits rq k) s = .next t ∧ (t.chanOf k).pend = (s.chanOf k).pend ++ [.limits (s.stagedLims k)] ∧ t.regs =
      s.regs) ∧
  (∀ (s : State) (rq : Rq) (k : Fin 168), s.reaches rq (R.LSP_CH_CMD k) → s.chanState k < 4 → ∃ t, exec (.flushQueue rq
      k) s = .next t ∧ (t.chanOf k).queue = [] ∧ t.g (F.LSP_CH_STATUS_QLEVEL k) = 0) ∧
  (∀ (s : State) (rq : Rq) (k : Fin 168), s.reaches rq (R.LSP_CH_CMD k) → s.chanState k = 7 → (decide (k.val < 16) &&
      s.is (F.AX_PWM_STATUS_FAULT k)) = false → (decide (16 ≤ k.val) && decide (k.val < 40) && s.is (F.AUX_STATUS_FAULT
      (k.val - 16))) = false → ∃ t, exec (.clearFault rq k) s = .next t ∧ t.chanState k = 0 ∧ (t.chanOf k).plan = some
      (planHold s.now (toInternal (s.measured k)))) ∧
  (∀ (s : State) (rq : Rq) (k : Fin 168) (v : Word), s.reaches rq (R.LSP_CH_CFG k) → getBits v 0 2 ≠ 3 → getBits v 10 2
      ≠ 3 → ¬(40 ≤ getBits v 16 6 ∧ getBits v 16 6 ≤ 62) → ¬(40 ≤ getBits v 22 6 ∧ getBits v 22 6 ≤ 62) → getBits v 0 2
      = s.g (F.LSP_CH_CFG_SRC k) ∨ s.chanState k = 0 → ∃ t, exec (.lspCfgWrite rq k v) s = .next t ∧ t.rd (R.LSP_CH_CFG
      k) = v &&& 0x1FFFFCFF) ∧
  (∀ (s : State) (rq : Rq) (k : Fin 168) (v : Word), s.reaches rq (R.LSP_CH_CFG k) → getBits v 0 2 ≠ 3 → getBits v 10 2
      ≠ 3 → ¬(40 ≤ getBits v 16 6 ∧ getBits v 16 6 ≤ 62) → ¬(40 ≤ getBits v 22 6 ∧ getBits v 22 6 ≤ 62) → getBits v 0 2
      ≠ s.g (F.LSP_CH_CFG_SRC k) → s.chanState k = 6 → ∃ t, exec (.lspCfgWrite rq k v) s = .next t ∧ t.rd (R.LSP_CH_CFG
      k) = v &&& 0x1FFFFCFF ∧ t.chanState k = 0) ∧
  (∀ (s : State) (rq : Rq) (k : Fin 168) (v : Word), s.reaches rq (R.LSP_CH_CFG k) → getBits v 0 2 ≠ 3 → getBits v 10 2
      ≠ 3 → ¬(40 ≤ getBits v 16 6 ∧ getBits v 16 6 ≤ 62) → ¬(40 ≤ getBits v 22 6 ∧ getBits v 22 6 ≤ 62) → getBits v 0 2
      ≠ s.g (F.LSP_CH_CFG_SRC k) → s.chanState k ≠ 0 → s.chanState k ≠ 6 → ∃ t, exec (.lspCfgWrite rq k v) s = .next t ∧
      t.rd (R.LSP_CH_CFG k) = putBits (v &&& 0x1FFFFCFF) 0 2 (s.g (F.LSP_CH_CFG_SRC k)) ∧ t.is
      (F.LSP_CH_STATUS_CMD_REFUSED k) = true)

/-- Each of these commands and events completes under the conditions its clause gives. A group move that no member
refuses brings every member to STATE 5 and waits for its start; a group stop of either kind is asked for; a stop
that has taken STOP_TMO sets STOP_TMO and rests; a homing that has taken HOME_TMO fails with reason 1; after
HOLD_DELAY at standstill a hold saves the gains and scales them, by a burst while a slot of the axis runs; a storage
error is the fault of a network channel, of an auxiliary channel or of an axis, where no reaction of a higher level
holds it; an enable request is pending, or cancelled where its group is blocked; at a due turn of its group a
blocked request is cancelled, the request of a running axis or enabled auxiliary channel enables its outputs, and
one of a unit that does not run or has a fault is skipped. -/
def Obligations.GroupsAndEventsOfLarkspurTakeEffect : Prop :=
  (∀ (s : State) (rq : Rq) (g : Fin 16) (start : Bool) (l : List Nat), s.reaches rq (R.LSP_GRP_CMD g) → l =
      s.groupMembers g → 0 < l.length → l.length ≤ 16 → l.all (fun k => decide (s.g (F.LSP_CH_CFG_SRC k) = 0 ∧
      s.chanState k = 0 ∧ s.cmdBad k 1 false = false ∧ s.holder (chanObj k) = s.holder (chanObj (l.headD 0)))) = true →
      ∃ t, exec (.groupAbsolute rq g start) s = .next t ∧ l.all (fun k => decide (t.chanState k = 5 ∧ t.is
      (F.LSP_CH_STATUS_AT_TARGET k) = false)) = true ∧ t.g (F.LSP_GRP_STATUS_MEMBERS g) = l.length ∧ t.g
      (F.LSP_GRP_STATUS_STATE g) = 1 ∧ (tabGet (fun _ => Grp.reset) t.grps g).members.map (fun m => m.1) = l) ∧
  (∀ (s : State) (rq : Rq) (g : Fin 16) (start : Bool) (k : Fin 168), s.reaches rq (R.LSP_GRP_CMD g) → s.groupMembers g
      = [k.val] → s.g (F.LSP_CH_CFG_SRC k) = 0 → s.chanState k = 0 → s.cmdBad k 1 false = false → ∃ t, exec
      (.groupAbsolute rq g start) s = .next t ∧ t.chanState k = 5 ∧ t.g (F.LSP_GRP_STATUS_LEADER g) = k ∧ t.g
      (F.LSP_GRP_STATUS_MEMBERS g) = 1 ∧ t.g (F.LSP_GRP_STATUS_STATE g) = 1) ∧
  (∀ (s : State) (rq : Rq) (g : Fin 16) (start : Bool) (l : List Nat), s.reaches rq (R.LSP_GRP_CMD g) → l =
      s.groupMembers g → 0 < l.length → l.length ≤ 16 → l.all (fun k => decide (s.g (F.LSP_CH_CFG_SRC k) = 0 ∧
      s.chanState k = 0 ∧ s.cmdBad k 2 false = false ∧ s.holder (chanObj k) = s.holder (chanObj (l.headD 0)))) = true →
      ∃ t, exec (.groupRelative rq g start) s = .next t ∧ l.all (fun k => decide (t.chanState k = 5 ∧ t.is
      (F.LSP_CH_STATUS_AT_TARGET k) = false)) = true ∧ t.g (F.LSP_GRP_STATUS_MEMBERS g) = l.length ∧ t.g
      (F.LSP_GRP_STATUS_STATE g) = 1 ∧ (tabGet (fun _ => Grp.reset) t.grps g).members.map (fun m => m.1) = l) ∧
  (∀ (s : State) (rq : Rq) (g : Fin 16) (start : Bool) (k : Fin 168), s.reaches rq (R.LSP_GRP_CMD g) → s.groupMembers g
      = [k.val] → s.g (F.LSP_CH_CFG_SRC k) = 0 → s.chanState k = 0 → s.cmdBad k 2 false = false → ∃ t, exec
      (.groupRelative rq g start) s = .next t ∧ t.chanState k = 5 ∧ t.g (F.LSP_GRP_STATUS_LEADER g) = k ∧ t.g
      (F.LSP_GRP_STATUS_MEMBERS g) = 1 ∧ t.g (F.LSP_GRP_STATUS_STATE g) = 1) ∧
  (∀ (s : State) (rq : Rq) (g : Fin 16), s.reaches rq (R.LSP_GRP_CMD g) → s.g (F.LSP_GRP_STATUS_STATE g) ≠ 0 → ∃ t, exec
      (.groupStop rq g) s = .next t ∧ (tabGet (fun _ => Grp.reset) t.grps g).stopReq.isSome = true ∧ t.regs = s.regs) ∧
  (∀ (s : State) (rq : Rq) (g : Fin 16), s.reaches rq (R.LSP_GRP_CMD g) → s.g (F.LSP_GRP_STATUS_STATE g) ≠ 0 → ∃ t, exec
      (.groupQuickStop rq g) s = .next t ∧ (tabGet (fun _ => Grp.reset) t.grps g).stopReq = some true ∧ t.regs = s.regs) ∧
  (∀ (s : State) (k : Fin 168) (t0 : Nat), (s.chanOf k).stopTick = some t0 → t0 + 250000 * s.g (F.LSP_CH_TMO_STOP_TMO k)
      ≤ s.tb.ticks → s.is (F.LSP_CH_STATUS_STANDSTILL k) = false → s.chanState k ≠ 7 → ∃ t, exec (.stopTimeout k) s =
      .next t ∧ t.is (F.LSP_CH_STATUS_STOP_TMO k) = true ∧ t.chanState k = 0 ∧ (t.chanOf k).plan = none ∧ (t.chanOf
      k).stopTick = none) ∧
  (∀ (s : State) (k : Fin 168), (s.chanOf k).home ≠ .none → (s.chanOf k).homeTick + 25000000 * s.g
      (F.LSP_CH_TMO_HOME_TMO k) ≤ s.tb.ticks → ∃ t, exec (.homeTimeout k) s = .next t ∧ t.is (F.LSP_CH_STATUS_HOME_FAIL
      k) = true ∧ t.g (F.LSP_CH_STATUS_HOME_REASON k) = 1 ∧ (t.chanOf k).home = .none) ∧
  (∀ (s : State) (k : Fin 16) (t0 : Nat), (s.chanOf k).stillSince = some t0 → t0 + 250000 * s.g
      (F.LSP_CH_HOLD_CFG_HOLD_DELAY k) ≤ s.tb.ticks → s.is (F.LSP_CH_STATUS_HOLD k) = false → s.is (F.LSP_CH_CFG_HOLD_EN
      k) = true → s.is (F.LSP_CH_STATUS_STANDSTILL k) = true → s.bw k 0x48 = 2 → s.bw k 0x270 = 0 → ¬((s.aeOf (k.val /
      2)).mode = .slot ∧ ((s.aeOf (k.val / 2)).slot.axes (k.val / 2)).contains k.val = true) → ∃ t, exec (.holdEntry k)
      s = .next t ∧ t.is (F.LSP_CH_STATUS_HOLD k) = true ∧ (t.chanOf k).gains = some (s.bw k 0x30, s.bw k 0x34, s.bw k
      0x40) ∧ t.bw k 0x34 = Word.ofI (floorDiv (s.bi k 0x34 * s.g (F.LSP_CH_HOLD_CFG_HOLD_SCALE k)) 65536)) ∧
  (∀ (s : State) (k : Fin 16) (t0 : Nat), (s.chanOf k).stillSince = some t0 → t0 + 250000 * s.g
      (F.LSP_CH_HOLD_CFG_HOLD_DELAY k) ≤ s.tb.ticks → s.is (F.LSP_CH_STATUS_HOLD k) = false → s.is (F.LSP_CH_CFG_HOLD_EN
      k) = true → s.is (F.LSP_CH_STATUS_STANDSTILL k) = true → s.bw k 0x48 = 2 → s.bw k 0x270 = 0 → (s.aeOf (k.val /
      2)).mode = .slot → ((s.aeOf (k.val / 2)).slot.axes (k.val / 2)).contains k.val = true → ∃ t, exec (.holdEntry k) s
      = .next t ∧ t.is (F.LSP_CH_STATUS_HOLD k) = true ∧ (t.chanOf k).gains = some (s.bw k 0x30, s.bw k 0x34, s.bw k
      0x40) ∧ (t.aeOf (k.val / 2)).bursts.length = (s.aeOf (k.val / 2)).bursts.length + 1) ∧
  (∀ (s : State) (k : Fin 168), 16 ≤ k.val → k.val < 40 → s.higherRuns k = false → ∃ t, exec (.planEccError k) s = .next
      t ∧ t.is (F.AUX_STATUS_FAULT (k.val - 16)) = true ∧ t.is (F.AUX_CTL_OUT_EN (k.val - 16)) = false) ∧
  (∀ (s : State) (k : Fin 168), 40 ≤ k.val → s.higherRuns k = false → ∃ t, exec (.planEccError k) s = .next t ∧
      t.chanState k = 7 ∧ (t.chanOf k).plan = none ∧ (t.chanOf k).pend = []) ∧
  (∀ (s : State) (k : Fin 168), k.val < 16 → s.higherRuns k = false → ∃ t, exec (.planEccError k) s = .next t ∧ t.is
      (F.AX_PWM_STATUS_FAULT k) = true ∧ t.is (F.AX_PWM_CTL_OUT_EN k) = false) ∧
  (∀ (s : State) (rq : Rq) (hi : Bool) (v : Word) (j : Fin 40) (g : Nat), s.dropReason rq (if hi then R.LSP_EN_REQ1 else
      R.LSP_EN_REQ0) = none → j.val ∈ s.enAsked rq hi v → s.chanGroup j = some g → s.enBlocked g = false → ∃ t, exec
      (.enReq rq hi v) s = .next t ∧ t.enPending j = true) ∧
  (∀ (s : State) (rq : Rq) (hi : Bool) (v : Word) (j : Fin 40) (g : Nat), s.dropReason rq (if hi then R.LSP_EN_REQ1 else
      R.LSP_EN_REQ0) = none → j.val ∈ s.enAsked rq hi v → s.chanGroup j = some g → s.enBlocked g = false → ∃ t, exec
      (.enReq rq hi v) s = .next t ∧ t.enPending j = true) ∧
  (∀ (s : State) (rq : Rq) (hi : Bool) (v : Word) (j : Fin 40) (g : Nat), s.dropReason rq (if hi then R.LSP_EN_REQ1 else
      R.LSP_EN_REQ0) = none → j.val ∈ s.enAsked rq hi v → s.chanGroup j = some g → s.enBlocked g = true → ∃ t, exec
      (.enReq rq hi v) s = .next t ∧ t.is F.LSP_EN_STATUS_CANCELLED = true ∧ t.enPending j = s.enPending j) ∧
  (∀ (s : State) (rq : Rq) (hi : Bool) (v : Word), s.dropReason rq (if hi then R.LSP_EN_REQ1 else R.LSP_EN_REQ0) = none
      → s.enAsked rq hi v = [] → ∃ t, exec (.enReq rq hi v) s = .next t ∧ t.regs = s.regs) ∧
  (∀ (s : State) (g : Fin 4) (k : Fin 40), s.enRuns g = true → s.stagDue g = true → s.chanGroup k = some g.val →
      s.enPending k = true → s.enBlocked g = true → ∃ t, exec (.staggerEnable g) s = .next t ∧ t.enPending k = false ∧
      t.is F.LSP_EN_STATUS_CANCELLED = true) ∧
  (∀ (s : State) (g : Fin 4) (k : Fin 16), s.enRuns g = true → s.stagDue g = true → s.chanGroup k = some g.val →
      s.enPending k = true → ∀ j : Fin 40, s.enPending j = true → j.val = k.val → s.enBlocked g = false → s.running k =
      true → s.enableHeld k = false → s.is (F.AX_PWM_CTL_OUT_EN k) = false → ∃ t, exec (.staggerEnable g) s = .next t ∧
      t.is (F.AX_PWM_CTL_OUT_EN k) = true ∧ t.enPending k = false ∧ t.g F.LSP_EN_STATUS_LAST = k) ∧
  (∀ (s : State) (g : Fin 4) (k : Fin 40), s.enRuns g = true → s.stagDue g = true → s.chanGroup k = some g.val →
      s.enPending k = true → 16 ≤ k.val → ∀ j : Fin 40, s.enPending j = true → j.val = k.val → s.enBlocked g = false →
      s.is (F.AUX_CFG_EN (k.val - 16)) = true → s.is (F.AUX_STATUS_FAULT (k.val - 16)) = false → s.is
      (F.AUX_STATUS_LAUNCH_OFF (k.val - 16)) = false → s.is (F.AUX_CTL_OUT_EN (k.val - 16)) = false → s.enableHeld k =
      false → ∃ t, exec (.staggerEnable g) s = .next t ∧ t.is (F.AUX_CTL_OUT_EN (k.val - 16)) = true ∧ t.enPending k =
      false ∧ t.g F.LSP_EN_STATUS_LAST = k) ∧
  (∀ (s : State) (g : Fin 4) (k : Fin 40), s.enRuns g = true → s.stagDue g = true → s.chanGroup k = some g.val →
      s.enPending k = true → ∀ j : Fin 40, s.enPending j = true → j.val = k.val → s.enBlocked g = false → (if k.val < 16
      then s.is (F.AX_PWM_CTL_OUT_EN k) else s.is (F.AUX_CTL_OUT_EN (k.val - 16))) = false → (if k.val < 16 then
      !s.running k || s.is (F.AX_PWM_STATUS_FAULT k) else !s.is (F.AUX_CFG_EN (k.val - 16)) || s.is (F.AUX_STATUS_FAULT
      (k.val - 16))) = true → ∃ t, exec (.staggerEnable g) s = .next t ∧ t.is F.LSP_EN_STATUS_SKIPPED = true ∧
      t.enPending k = false)

/-- Each of these commands and events of the line shaft completes under the conditions its clause gives. A bad segment
is dropped, counted and recorded as one event, a good one in time is kept, one that is late but still runs is kept
with LATE_SEG, and one that has ended only sets LATE_SEG. A join of the right cycle makes its member heard, and
present unless it is the own number or a clash is less than two rounds old; a second sender of one number in a
round, or of the own number while joining, sets DUPLICATE and its member is gone; one of another cycle sets
CYCLE_MISMATCH and its member is gone. A status message is heard. STATUS_SEND queues a frame of 60 bytes with servo,
shafts and stamp on each external port that is up. A silent member is gone, and sets LOST_MEMBER where it is
expected; membership is complete once all expected members are present in LOCKED; a configuration in range takes its
fields, CYCLE while no shaft is enabled, and in LOCKED a new member number moves the presence; a cycle starts; a
registration window left open too long with a slow master closes. -/
def Obligations.ShaftMembershipFollowsItsRules : Prop :=
  (∀ (s : State) (domain : BitVec 16) (member : BitVec 8) (m : SegMsg), (s.is F.CLK_STATUS_DEGRADED && s.g
      F.CLK_MG_TRIM_TRIM_SRC == 1 && s.g F.CLK_MG_TRIM_SHAFT == m.shaft.toNat) = false → s.is F.LSH_CFG_EN = true →
      m.shaft.toNat < 8 → s.is (F.LSH_SH_CFG_EN m.shaft.toNat) = true → s.segBad domain.toNat (s.copyOf member.toNat m)
      = true → ∃ t, exec (.segmentReceived domain member m) s = .next t ∧ t.g (F.LSH_SH_COUNT_DROPPED m.shaft.toNat) =
      satAdd (F.LSH_SH_COUNT_DROPPED m.shaft.toNat).w (s.g (F.LSH_SH_COUNT_DROPPED m.shaft.toNat)) 1 ∧ t.lsh = s.lsh ∧
      t.evt.detected.length = s.evt.detected.length + 1) ∧
  (∀ (s : State) (domain : BitVec 16) (member : BitVec 8) (m : SegMsg), (s.is F.CLK_STATUS_DEGRADED && s.g
      F.CLK_MG_TRIM_TRIM_SRC == 1 && s.g F.CLK_MG_TRIM_SHAFT == m.shaft.toNat) = false → s.is F.LSH_CFG_EN = true →
      m.shaft.toNat < 8 → s.is (F.LSH_SH_CFG_EN m.shaft.toNat) = true → s.segBad domain.toNat (s.copyOf member.toNat m)
      = false → s.now ≤ (s.copyOf member.toNat m).t0 → s.lsh.cycle.all (fun l => decide (l < (s.copyOf member.toNat
      m).t0)) = true → ∃ t, exec (.segmentReceived domain member m) s = .next t ∧ s.copyOf member.toNat m ∈ (t.shaftOf
      m.shaft.toNat).held) ∧
  (∀ (s : State) (domain : BitVec 16) (member : BitVec 8) (m : SegMsg), (s.is F.CLK_STATUS_DEGRADED && s.g
      F.CLK_MG_TRIM_TRIM_SRC == 1 && s.g F.CLK_MG_TRIM_SHAFT == m.shaft.toNat) = false → s.is F.LSH_CFG_EN = true →
      m.shaft.toNat < 8 → s.is (F.LSH_SH_CFG_EN m.shaft.toNat) = true → s.segBad domain.toNat (s.copyOf member.toNat m)
      = false → (s.copyOf member.toNat m).t0 < s.now → s.now < (s.copyOf member.toNat m).until → s.lsh.cycle = none → ∃
      t, exec (.segmentReceived domain member m) s = .next t ∧ s.copyOf member.toNat m ∈ (t.shaftOf m.shaft.toNat).held
      ∧ t.is (F.LSH_SH_STATUS_LATE_SEG m.shaft.toNat) = true) ∧
  (∀ (s : State) (domain : BitVec 16) (member : BitVec 8) (m : SegMsg), (s.is F.CLK_STATUS_DEGRADED && s.g
      F.CLK_MG_TRIM_TRIM_SRC == 1 && s.g F.CLK_MG_TRIM_SHAFT == m.shaft.toNat) = false → s.is F.LSH_CFG_EN = true →
      m.shaft.toNat < 8 → s.is (F.LSH_SH_CFG_EN m.shaft.toNat) = true → s.segBad domain.toNat (s.copyOf member.toNat m)
      = false → (s.copyOf member.toNat m).until ≤ s.now → (s.copyOf member.toNat m).t0 < s.now → ∃ t, exec
      (.segmentReceived domain member m) s = .next t ∧ t.is (F.LSH_SH_STATUS_LATE_SEG m.shaft.toNat) = true ∧ t.lsh =
      s.lsh ∧ sameRegsBut [R.LSH_SH_STATUS m.shaft.toNat] s t) ∧
  (∀ (s : State) (src : BitVec 48) (domain : BitVec 16) (member : BitVec 8) (j : JoinMsg), s.is F.LSH_CFG_EN = true →
      domain.toNat = s.g F.LSH_DOMAIN_DOMAIN → j.cycle.toNat = s.g F.LSH_CFG_CYCLE → member.toNat ≠ s.g F.LSH_CFG_MEMBER
      → ((s.memberOf member.toNat).heard.isSome && (s.memberOf member.toNat).round == s.joinRound && (s.memberOf
      member.toNat).src != src.toNat) = false → (s.memberOf member.toNat).clash.all (fun c => decide (c + 2 ≤
      s.joinRound)) = true → ∃ t, exec (.joinReceived src domain member j) s = .next t ∧ t.present member.toNat = true ∧
      (t.memberOf member.toNat).heard = some s.tb.ticks ∧ (t.memberOf member.toNat).src = src.toNat ∧ (t.memberOf
      member.toNat).since.isSome = true ∧ (s.expected member.toNat = false → t.is F.LSH_JOIN_STATUS_UNEXPECTED = true)) ∧
  (∀ (s : State) (src : BitVec 48) (domain : BitVec 16) (member : BitVec 8) (j : JoinMsg), s.is F.LSH_CFG_EN = true →
      domain.toNat = s.g F.LSH_DOMAIN_DOMAIN → j.cycle.toNat = s.g F.LSH_CFG_CYCLE → member.toNat = s.g F.LSH_CFG_MEMBER
      → s.is F.LSH_JOIN_STATUS_JOINING = false ∨ src.toNat = Config.macAddress.toNat → ((s.memberOf
      member.toNat).heard.isSome && (s.memberOf member.toNat).round == s.joinRound && (s.memberOf member.toNat).src !=
      src.toNat) = false → ∃ t, exec (.joinReceived src domain member j) s = .next t ∧ (t.memberOf member.toNat).heard =
      some s.tb.ticks ∧ (t.memberOf member.toNat).src = src.toNat ∧ t.present member.toNat = s.present member.toNat) ∧
  (∀ (s : State) (src : BitVec 48) (domain : BitVec 16) (member : BitVec 8) (j : JoinMsg), s.is F.LSH_CFG_EN = true →
      domain.toNat = s.g F.LSH_DOMAIN_DOMAIN → j.cycle.toNat = s.g F.LSH_CFG_CYCLE → member.toNat ≠ s.g F.LSH_CFG_MEMBER
      → ((s.memberOf member.toNat).heard.isSome && (s.memberOf member.toNat).round == s.joinRound && (s.memberOf
      member.toNat).src != src.toNat) = false → (s.memberOf member.toNat).clash.any (fun c => decide (s.joinRound < c +
      2)) = true → ∃ t, exec (.joinReceived src domain member j) s = .next t ∧ (t.memberOf member.toNat).heard = some
      s.tb.ticks ∧ (t.memberOf member.toNat).src = src.toNat ∧ (t.memberOf member.toNat).since = none ∧ t.present
      member.toNat = s.present member.toNat) ∧
  (∀ (s : State) (src : BitVec 48) (domain : BitVec 16) (member : BitVec 8) (j : JoinMsg), s.is F.LSH_CFG_EN = true →
      domain.toNat = s.g F.LSH_DOMAIN_DOMAIN → j.cycle.toNat = s.g F.LSH_CFG_CYCLE → ((s.memberOf
      member.toNat).heard.isSome && (s.memberOf member.toNat).round == s.joinRound && (s.memberOf member.toNat).src !=
      src.toNat) = true → ∃ t, exec (.joinReceived src domain member j) s = .next t ∧ t.is F.LSH_JOIN_STATUS_DUPLICATE =
      true ∧ t.present member.toNat = false ∧ (t.memberOf member.toNat).heard = some s.tb.ticks ∧ (t.memberOf
      member.toNat).src = src.toNat ∧ (t.memberOf member.toNat).clash = some s.joinRound) ∧
  (∀ (s : State) (src : BitVec 48) (domain : BitVec 16) (member : BitVec 8) (j : JoinMsg), s.is F.LSH_CFG_EN = true →
      domain.toNat = s.g F.LSH_DOMAIN_DOMAIN → j.cycle.toNat = s.g F.LSH_CFG_CYCLE → member.toNat = s.g F.LSH_CFG_MEMBER
      → s.is F.LSH_JOIN_STATUS_JOINING = true → src.toNat ≠ Config.macAddress.toNat → ∃ t, exec (.joinReceived src
      domain member j) s = .next t ∧ t.is F.LSH_JOIN_STATUS_DUPLICATE = true ∧ t.present member.toNat = false ∧
      (t.memberOf member.toNat).heard = some s.tb.ticks ∧ (t.memberOf member.toNat).src = src.toNat) ∧
  (∀ (s : State) (src : BitVec 48) (domain : BitVec 16) (member : BitVec 8) (j : JoinMsg), s.is F.LSH_CFG_EN = true →
      domain.toNat = s.g F.LSH_DOMAIN_DOMAIN → j.cycle.toNat ≠ s.g F.LSH_CFG_CYCLE → ∃ t, exec (.joinReceived src domain
      member j) s = .next t ∧ t.is F.LSH_JOIN_STATUS_CYCLE_MISMATCH = true ∧ t.present member.toNat = false) ∧
  (∀ (s : State) (domain : BitVec 16) (member : BitVec 8), s.is F.LSH_CFG_EN = true → domain.toNat = s.g
      F.LSH_DOMAIN_DOMAIN → s.present member.toNat = true → ∃ t, exec (.statusReceived domain member) s = .next t ∧
      (t.memberOf member.toNat).heard = some s.tb.ticks ∧ t.regs = s.regs) ∧
  (∀ (s : State) (p : Nat), s.is F.LSH_CFG_EN = true → p < 2 → s.portUp p = true → s.portUp (1 - p) = false → exec
      .statusSend s = .next (s.enqueue p 2 5 (s.lanyoFrame 2 (bytesBE 1 s.servo ++ bytesBE 2 s.shaftMap ++ bytesBE 4
      s.short.toNat) 10))) ∧
  (∀ (s : State), s.is F.LSH_CFG_EN = true → s.portUp 0 = true → s.portUp 1 = true → exec .statusSend s = .next
      ((s.enqueue 0 2 5 (s.lanyoFrame 2 (bytesBE 1 s.servo ++ bytesBE 2 s.shaftMap ++ bytesBE 4 s.short.toNat)
      10)).enqueue 1 2 5 (s.lanyoFrame 2 (bytesBE 1 s.servo ++ bytesBE 2 s.shaftMap ++ bytesBE 4 s.short.toNat) 10))) ∧
  (∀ (s : State), s.portUp 0 = false → s.portUp 1 = false → exec .statusSend s = .next s) ∧
  (∀ s : State, (s.lanyoFrame 2 (bytesBE 1 s.servo ++ bytesBE 2 s.shaftMap ++ bytesBE 4 s.short.toNat) 10).length = 60) ∧
  (∀ (s : State) (m : Fin 256) (h : Nat), (s.memberOf m).heard = some h → 4 * h + 3 * s.tCyc + 2000000 ≤ s.elapsed →
      s.present m = true → s.expected m = true → ∃ t, exec (.memberTimeout m) s = .next t ∧ t.present m = false ∧ t.is
      F.LSH_JOIN_STATUS_LOST_MEMBER = true ∧ t.is F.LSH_JOIN_STATUS_COMPLETE = false ∧ (t.memberOf m).since = none) ∧
  (∀ (s : State) (m : Fin 256) (h : Nat), (s.memberOf m).heard = some h → 4 * h + 3 * s.tCyc + 2000000 ≤ s.elapsed →
      s.present m = true → s.expected m = false → ∃ t, exec (.memberTimeout m) s = .next t ∧ t.present m = false ∧ t.is
      F.LSH_JOIN_STATUS_COMPLETE = s.is F.LSH_JOIN_STATUS_COMPLETE ∧ (t.memberOf m).since = none) ∧
  (∀ (s : State), s.is F.LSH_JOIN_STATUS_COMPLETE = false → s.is F.LSH_CFG_EN = true → s.is F.LSH_JOIN_CFG_EN = true →
      s.servo = servoLocked → s.allPresent = true → ∃ t, exec .membershipComplete s = .next t ∧ t.is
      F.LSH_JOIN_STATUS_COMPLETE = true ∧ t.rd R.LSH_JOIN_TIME = s.short ∧ t.lsh.joinLeft = some 9) ∧
  (∀ (s : State) (rq : Rq) (v : Word), s.reaches rq R.LSH_CFG → getBits v 0 3 < 6 → getBits v 4 4 < 9 → 1 ≤ getBits v 8
      4 → getBits v 8 4 ≤ 8 → getBits v 0 3 = s.g F.LSH_CFG_CYCLE ∨ ∀ h : Fin 8, s.is (F.LSH_SH_CFG_EN h) = false →
      getBits v 16 8 = s.g F.LSH_CFG_MEMBER ∨ s.servo ≠ servoLocked → ∃ t, exec (.lshCfgWrite rq v) s = .next t ∧ t.rd
      R.LSH_CFG = v &&& 0x00FF0FFF ∧ sameRegsBut [R.LSH_CFG] s t) ∧
  (∀ (s : State) (rq : Rq) (v : Word) (o : Nat), s.reaches rq R.LSH_CFG → getBits v 0 3 < 6 → getBits v 4 4 < 9 → 1 ≤
      getBits v 8 4 → getBits v 8 4 ≤ 8 → getBits v 0 3 = s.g F.LSH_CFG_CYCLE ∨ ∀ h : Fin 8, s.is (F.LSH_SH_CFG_EN h) =
      false → o = s.g F.LSH_CFG_MEMBER → getBits v 16 8 ≠ o → s.servo = servoLocked → ∃ t, exec (.lshCfgWrite rq v) s =
      .next t ∧ t.rd R.LSH_CFG = v &&& 0x00FF0FFF ∧ t.present (getBits v 16 8) = true ∧ t.present o = false) ∧
  (∀ (s : State), s.is F.LSH_CFG_EN = true → s.isolated regMotion = false → s.lsh.cycle ≠ some s.cycleStart → ∃ t, exec
      .lineShaftCycleStart s = .next t ∧ t.lsh.cycle = some s.cycleStart) ∧
  (∀ (s : State) (r : Fin 16) (q : Nat), (s.regOf r).slow = some q → q + s.g (F.LSH_REG_TMO_TMO r) * 1000000 * 65536 ≤
      s.elapsedAt s.now → s.is (F.LSH_REG_STATUS_OPEN r) = true → ∃ t, exec (.regWindowTimeout r) s = .next t ∧ t.is
      (F.LSH_REG_STATUS_OPEN r) = false ∧ (t.regOf r).slow = none ∧ (t.regOf r).marked = false)

/-- Each of these commands of followers and cam tables completes under the conditions its clause gives. An engagement
that no rule refuses waits with its start; a new ratio waits for the next cycle; DISENGAGE forgets both and stops a
follower that is engaged; the table of NEXT is to follow; a cam commit that passes its checks computes and changes
only its status, after which the table is READY; a release of a table in no use empties it; a storage error is the
cell fault of the channel whose follower it strikes, where no reaction of a higher level holds it, the loss of the
shaft whose segment it strikes, and ERR 4 of a cam table with the cell fault of the channels that follow it. -/
def Obligations.FollowersAndCamsTakeEffect : Prop :=
  (∀ (s : State) (rq : Rq) (k : Fin 168) (startAt : Bool), s.reaches rq (R.LSH_FOL_CMD k) → s.engageBad k = false → ∃ t,
      exec (.engage rq k startAt) s = .next t ∧ (t.folOf k).engage = some (if startAt then some (s.extendShort (s.rd
      (R.LSP_CH_START k))) else none) ∧ t.regs = s.regs) ∧
  (∀ (s : State) (rq : Rq) (k : Fin 168), s.reaches rq (R.LSH_FOL_CMD k) → s.g (F.LSH_FOL_STATUS_STATE k) = 2 → (s.folOf
      k).ratio = false → s.rd (R.LSH_FOL_DEN k) ≠ 0 → ∃ t, exec (.applyRatio rq k) s = .next t ∧ (t.folOf k).ratio =
      true ∧ t.regs = s.regs) ∧
  (∀ (s : State) (rq : Rq) (k : Fin 168), s.reaches rq (R.LSH_FOL_CMD k) → s.g (F.LSH_FOL_STATUS_STATE k) = 0 → ∃ t,
      exec (.disengage rq k) s = .next t ∧ (t.folOf k).engage = none ∧ (t.folOf k).ratio = false ∧ t.regs = s.regs) ∧
  (∀ (s : State) (rq : Rq) (k : Fin 168) (u : State), s.reaches rq (R.LSH_FOL_CMD k) → s.g (F.LSH_FOL_STATUS_STATE k) ≠
      0 → u = (s.setFol k { s.folOf k with engage := none, ratio := false }).configuredStop k → ∃ t, exec (.disengage rq
      k) s = .next t ∧ t = u ∧ (t.folOf k).engage = none ∧ (t.folOf k).ratio = false) ∧
  (∀ (s : State) (rq : Rq) (k : Fin 168), s.reaches rq (R.LSH_FOL_CMD k) → s.g (F.LSH_FOL_STATUS_STATE k) ≠ 0 → s.is
      (F.LSH_FOL_CFG_CAM_EN k) = true → s.g (F.LSH_CAM_STATUS_STATE (s.g (F.LSH_FOL_CFG_NEXT k))) = 2 → s.camPoint (s.g
      (F.LSH_FOL_CFG_TABLE k)) 0 = s.camPoint (s.g (F.LSH_FOL_CFG_NEXT k)) 0 → ∃ t, exec (.nextTable rq k) s = .next t ∧
      (t.folOf k).next = some (s.g (F.LSH_FOL_CFG_NEXT k)) ∧ t.regs = s.regs) ∧
  (∀ (s : State) (rq : Rq) (c : Fin 64), s.reaches rq (R.LSH_CAM_CMD c) → s.handleErr (s.holder .lshCam).poolCode false
      (s.rd (R.LSH_CAM_HANDLE c)) = none → 4 ≤ s.g (F.LSH_CAM_N_N c) → s.g (F.LSH_CAM_N_N c) ≤ 65536 → 4 * s.g
      (F.LSH_CAM_N_N c) ≤ classSize (handleClass (s.rd (R.LSH_CAM_HANDLE c))) → s.camUse c = 0 → s.ipmPoison (s.bufAddr
      (s.rd (R.LSH_CAM_HANDLE c))) (4 * s.g (F.LSH_CAM_N_N c)) = none → ∃ t, exec (.camCommit rq c) s = .next t ∧ t.g
      (F.LSH_CAM_STATUS_STATE c) = 1 ∧ t.g (F.LSH_CAM_STATUS_ERR c) = 0 ∧ sameRegsBut [R.LSH_CAM_STATUS c] s t) ∧
  (∀ (s : State) (c : Fin 64), s.g (F.LSH_CAM_STATUS_STATE c) = 1 → ∃ t, exec (.camComputeDone c) s = .next t ∧ t.g
      (F.LSH_CAM_STATUS_STATE c) = 2 ∧ sameRegsBut [R.LSH_CAM_STATUS c] s t ∧ sameBut [.regs] s t) ∧
  (∀ (s : State) (rq : Rq) (c : Fin 64), s.reaches rq (R.LSH_CAM_CMD c) → s.camUse c = 0 → ∃ t, exec (.camRelease rq c)
      s = .next t ∧ t.g (F.LSH_CAM_STATUS_STATE c) = 0 ∧ t.g (F.LSH_CAM_STATUS_ERR c) = 0 ∧ sameRegsBut
      [R.LSH_CAM_STATUS c] s t) ∧
  (∀ (s : State) (k : Fin 168), k.val < 16 → s.higherRuns k = false → ∃ t, exec (.lshStorageError (.follower k)) s =
      .next t ∧ t.is (F.AX_PWM_STATUS_FAULT k) = true ∧ t.is (F.AX_PWM_CTL_OUT_EN k) = false) ∧
  (∀ (s : State) (k : Fin 168), 16 ≤ k.val → k.val < 40 → s.higherRuns k = false → ∃ t, exec (.lshStorageError
      (.follower k)) s = .next t ∧ t.is (F.AUX_STATUS_FAULT (k.val - 16)) = true ∧ t.is (F.AUX_CTL_OUT_EN (k.val - 16))
      = false) ∧
  (∀ (s : State) (k : Fin 168), 40 ≤ k.val → s.higherRuns k = false → ∃ t, exec (.lshStorageError (.follower k)) s =
      .next t ∧ t.chanState k = 7 ∧ (t.chanOf k).plan = none) ∧
  (∀ (s : State) (c : Fin 64), ∃ t, exec (.lshStorageError (.cam c)) s = .next t ∧ t.g (F.LSH_CAM_STATUS_STATE c) = 3 ∧
      t.g (F.LSH_CAM_STATUS_ERR c) = 4) ∧
  (∀ (s : State) (c : Fin 64) (k : Fin 168), s.g (F.LSH_FOL_STATUS_STATE k) ≠ 0 → s.is (F.LSH_FOL_CFG_CAM_EN k) = true →
      s.g (F.LSH_FOL_CFG_TABLE k) = c.val → 40 ≤ k.val → s.higherRuns k = false → ∃ t, exec (.lshStorageError (.cam c))
      s = .next t ∧ t.chanState k = 7) ∧
  (∀ (s : State) (h : Fin 8), ∃ t, exec (.lshStorageError (.segment h)) s = .next t ∧ (t.shaftOf h).cur = none ∧ testBit
      (t.g F.LSH_STATUS_LOST_SEEN) h = true)

/-- Each of these commands of an auxiliary channel and of the ADC that six channels share completes under the conditions
its clause gives. A configuration of a channel at rest takes its fields, EN too unless an arming is held; in STATE 2
only ADC_SEL follows, and a write of other fields is refused; the further registers of the channel take a value in
range, in STATE 2 only the three that stay open, and else are refused. OUT_EN is set unless FAULT or LAUNCH_OFF
stands, and FAULT_CLR clears those two. A conversion that has run its time ends with BUSY clear: a sample writes its
result and stamp, a reference its code and outside 2032 to 2064 the ADC fault, a current limits and trips a running
BLDC channel, a peak and a valley join their chopping cycle. A current, peak or valley past its start limit is
discarded and counted, a sample or reference has no limit; the reference check is asked for every millisecond; a
sample launch asks for a sample, and evaluates the channel where EVAL_SRC is 0. -/
def Obligations.AuxChannelCommandsTakeEffect : Prop :=
  (∀ (s : State) (rq : Rq) (c : Fin 24) (v : Word), s.reaches rq (R.AUX_CFG c) → inRange (R.AUX_CFG c) v = true → s.g
      (F.AUX_STATUS_STATE c) ≠ 2 → getBits v 0 1 = 0 → ∃ t, exec (.auxCfgWrite rq c 0 v) s = .next t ∧ t.is
      (F.AUX_CFG_EN c) = false ∧ t.g (F.AUX_CFG_MODE c) = getBits v 1 2 ∧ t.g (F.AUX_CFG_EVAL_SRC c) = getBits v 5 1 ∧
      t.g (F.AUX_CFG_INTERVAL c) = getBits v 6 10 ∧ t.g (F.AUX_CFG_ADC_SEL c) = getBits v 16 2) ∧
  (∀ (s : State) (rq : Rq) (c : Fin 24) (v : Word), s.reaches rq (R.AUX_STP_CUR c) → inRange (R.AUX_STP_CUR c) v = true
      → ∃ t, exec (.auxCfgWrite rq c 0x104 v) s = .next t ∧ t.g (F.AUX_STP_CUR_I_RUN c) = getBits v 0 8 ∧ t.g
      (F.AUX_STP_CUR_HYST c) = getBits v 8 8 ∧ t.g (F.AUX_STP_CUR_HOLD_FRAC c) = getBits v 16 8) ∧
  (∀ (s : State) (rq : Rq) (c : Fin 24), s.reaches rq (R.AUX_CTL c) → s.is (F.AUX_STATUS_FAULT c) = false → s.is
      (F.AUX_STATUS_LAUNCH_OFF c) = false → ∃ t, exec (.auxOutEn rq c) s = .next t ∧ t.is (F.AUX_CTL_OUT_EN c) = true) ∧
  (∀ (s : State) (rq : Rq) (c : Fin 24), s.reaches rq (R.AUX_CTL c) → ∃ t, exec (.auxFaultClr rq c) s = .next t ∧ t.is
      (F.AUX_STATUS_FAULT c) = false ∧ t.is (F.AUX_STATUS_LAUNCH_OFF c) = false ∧ t.is (F.AUX_CTL_OUT_EN c) = s.is
      (F.AUX_CTL_OUT_EN c)) ∧
  (∀ (s : State) (cl : Fin 4) (code : BitVec 12) (i : Nat) (made : Nat) (began : Nat) (ref : Nat) (stamp : Word),
      s.adcOf cl = ⟨[], some (⟨0, .sample i, made, none, 0⟩, stamp), began, ref⟩ → began + 63 ≤ s.tb.ticks → ∃ t, exec
      (.adcConversionDone cl code) s = .next t ∧ t.g (F.AUX_ADC_RES_RESULT (6 * cl)) = code.toNat ∧ t.rd
      (R.AUX_ADC_STAMP (6 * cl)) = stamp ∧ t.is (F.AUX_CL_ADC_STATUS_BUSY cl) = false ∧ t.adcOf cl = ⟨[], none, began,
      ref⟩) ∧
  (∀ (s : State) (cl : Fin 4) (ch : Fin 6) (r : AdcReq) (l : Nat), (s.adcOf cl).wait.find? (fun r => r.ch == ch.val &&
      decide (r.use = .current)) = some r → r.limit = some l → l ≤ s.tb.ticks → ∃ t, exec (.adcRequestDiscard cl ch
      .current) s = .next t ∧ t.g (F.AUX_CL_ADC_COUNT_DROPPED cl) = satAdd (F.AUX_CL_ADC_COUNT_DROPPED cl).w (s.g
      (F.AUX_CL_ADC_COUNT_DROPPED cl)) 1 ∧ (t.adcOf cl).wait = dropReq r (s.adcOf cl).wait) ∧
  (∀ (s : State) (cl : Fin 4), (s.adcOf cl).wait = [] → (s.adcOf cl).cur = none → (s.adcOf cl).refTick + 250000 ≤
      s.tb.ticks → ∃ t, exec (.adcReferenceCheck cl) s = .next t ∧ (t.adcOf cl).cur = some (⟨0, .reference, s.tb.ticks,
      none, 0⟩, s.short) ∧ (t.adcOf cl).refTick = s.tb.ticks ∧ t.is (F.AUX_CL_ADC_STATUS_BUSY cl) = true) ∧
  (∀ (s : State) (c : Fin 24) (h : Held) (rest : List Held), s.firstDue s.held = some (h, rest) → h.e.code = 0x12 →
      h.e.target = c → s.g (F.AUX_CFG_EVAL_SRC c) = 1 → (s.adcOf (c.val / 6)).wait = [] → (s.adcOf (c.val / 6)).cur =
      none → ∃ t, exec (.auxSample c) s = .next t ∧ (t.adcOf (c.val / 6)).cur = some (⟨c.val % 6, .sample (s.g
      (F.AUX_CFG_ADC_SEL c)), s.tb.ticks, none, 0⟩, s.short) ∧ t.held = rest) ∧
  (∀ (s : State) (rq : Rq) (c : Fin 24) (v : Word), s.reaches rq (R.AUX_CFG c) → inRange (R.AUX_CFG c) v = true → s.g
      (F.AUX_STATUS_STATE c) ≠ 2 → getBits v 0 1 = 1 → s.armHeld = false → ∃ t, exec (.auxCfgWrite rq c 0 v) s = .next t
      ∧ t.is (F.AUX_CFG_EN c) = true ∧ t.g (F.AUX_CFG_MODE c) = getBits v 1 2 ∧ t.g (F.AUX_CFG_INTERVAL c) = getBits v 6
      10 ∧ t.g (F.AUX_CFG_ADC_SEL c) = getBits v 16 2) ∧
  (∀ (s : State) (rq : Rq) (c : Fin 24) (v : Word), s.reaches rq (R.AUX_CFG c) → inRange (R.AUX_CFG c) v = true → s.g
      (F.AUX_STATUS_STATE c) = 2 → ∃ t, exec (.auxCfgWrite rq c 0 v) s = .next t ∧ t.g (F.AUX_CFG_ADC_SEL c) = getBits v
      16 2 ∧ getBits (t.rd (R.AUX_CFG c)) 0 16 = getBits (s.rd (R.AUX_CFG c)) 0 16 ∧ (getBits v 0 16 ≠ getBits (s.rd
      (R.AUX_CFG c)) 0 16 → t.is (F.AUX_STATUS_CFG_REFUSED c) = true)) ∧
  (∀ (s : State) (rq : Rq) (c : Fin 24) (off : Nat) (v : Word) (u : State), s.reaches rq (auxWord c off) → auxGuarded
      off = true → off ≠ 0 → inRange (auxWord c off) v = true → off = 0x208 → getBits v 0 16 < getBits v 16 16 → s.g
      (F.AUX_STATUS_STATE c) ≠ 2 ∨ off = 0x104 ∨ off = 0x218 ∨ off = 0x21C → u = s.merge (auxWord c off) v → ∃ t, exec
      (.auxCfgWrite rq c off v) s = .next t ∧ t = u.auxFollow c ∧ (off ≠ 0x114 → t.rd (auxWord c off) = u.rd (auxWord c
      off))) ∧
  (∀ (s : State) (rq : Rq) (c : Fin 24) (off : Nat) (v : Word), s.reaches rq (auxWord c off) → auxGuarded off = true →
      off ≠ 0 → inRange (auxWord c off) v = false ∨ (off = 0x208 ∧ getBits v 16 16 ≤ getBits v 0 16) ∨ (s.g
      (F.AUX_STATUS_STATE c) = 2 ∧ off ≠ 0x104 ∧ off ≠ 0x218 ∧ off ≠ 0x21C) → ∃ t, exec (.auxCfgWrite rq c off v) s =
      .next t ∧ t.is (F.AUX_STATUS_CFG_REFUSED c) = true ∧ sameRegsBut [R.AUX_STATUS c] s t) ∧
  (∀ (s : State) (cl : Fin 4) (code : BitVec 12) (ch : Fin 6) (made : Nat) (cyc : Nat) (began : Nat) (ref : Nat) (stamp
      : Word) (i : Nat), s.adcOf cl = ⟨[], some (⟨ch.val, .sample i, made, none, cyc⟩, stamp), began, ref⟩ → began + 63
      ≤ s.tb.ticks → ∃ t, exec (.adcConversionDone cl code) s = .next t ∧ t.g (F.AUX_ADC_RES_RESULT (6 * cl.val +
      ch.val)) = code.toNat ∧ t.rd (R.AUX_ADC_STAMP (6 * cl.val + ch.val)) = stamp ∧ (t.adcOf cl).cur = none ∧ t.is
      (F.AUX_CL_ADC_STATUS_BUSY cl) = false) ∧
  (∀ (s : State) (cl : Fin 4) (code : BitVec 12) (ch : Fin 6) (made : Nat) (cyc : Nat) (began : Nat) (ref : Nat) (stamp
      : Word), s.adcOf cl = ⟨[], some (⟨ch.val, .reference, made, none, cyc⟩, stamp), began, ref⟩ → began + 63 ≤
      s.tb.ticks → 2032 ≤ code.toNat → code.toNat ≤ 2064 → ∃ t, exec (.adcConversionDone cl code) s = .next t ∧ t.g
      (F.AUX_CL_ADC_STATUS_REF cl) = code.toNat ∧ (t.adcOf cl).cur = none ∧ t.is (F.AUX_CL_ADC_STATUS_BUSY cl) = false) ∧
  (∀ (s : State) (cl : Fin 4) (code : BitVec 12) (ch : Fin 6) (made : Nat) (cyc : Nat) (began : Nat) (ref : Nat) (stamp
      : Word), s.adcOf cl = ⟨[], some (⟨ch.val, .reference, made, none, cyc⟩, stamp), began, ref⟩ → began + 63 ≤
      s.tb.ticks → code.toNat < 2032 ∨ 2064 < code.toNat → ∃ t, exec (.adcConversionDone cl code) s = .next t ∧ t.g
      (F.AUX_CL_ADC_STATUS_REF cl) = code.toNat ∧ t.is (F.AUX_CL_ADC_STATUS_FAULT cl) = true) ∧
  (∀ (s : State) (cl : Fin 4) (code : BitVec 12) (ch : Fin 6) (made : Nat) (cyc : Nat) (began : Nat) (ref : Nat) (stamp
      : Word), s.adcOf cl = ⟨[], some (⟨ch.val, .current, made, none, cyc⟩, stamp), began, ref⟩ → began + 63 ≤
      s.tb.ticks → s.auxRuns (6 * cl.val + ch.val) 2 = true → code.toNat ≤ s.g (F.AUX_BL_ILIM_I_TRIP (6 * cl.val +
      ch.val)) → ∃ t, exec (.adcConversionDone cl code) s = .next t ∧ (t.auxOf (6 * cl.val + ch.val)).got = true ∧
      (t.auxOf (6 * cl.val + ch.val)).beyond = decide (s.g (F.AUX_BL_ILIM_I_LIM (6 * cl.val + ch.val)) < code.toNat) ∧
      t.is (F.AUX_BL_STATUS_I_LIMITED (6 * cl.val + ch.val)) = decide (s.g (F.AUX_BL_ILIM_I_LIM (6 * cl.val + ch.val)) <
      code.toNat) ∧ (t.adcOf cl).cur = none ∧ t.is (F.AUX_CL_ADC_STATUS_BUSY cl) = false) ∧
  (∀ (s : State) (cl : Fin 4) (code : BitVec 12) (ch : Fin 6) (made : Nat) (cyc : Nat) (began : Nat) (ref : Nat) (stamp
      : Word), s.adcOf cl = ⟨[], some (⟨ch.val, .current, made, none, cyc⟩, stamp), began, ref⟩ → began + 63 ≤
      s.tb.ticks → s.auxRuns (6 * cl.val + ch.val) 2 = true → s.g (F.AUX_BL_ILIM_I_TRIP (6 * cl.val + ch.val)) <
      code.toNat → s.higherRuns (16 + (6 * cl.val + ch.val)) = false → ∃ t, exec (.adcConversionDone cl code) s = .next
      t ∧ t.is (F.AUX_BL_STATUS_I_TRIP (6 * cl.val + ch.val)) = true ∧ t.is (F.AUX_STATUS_FAULT (6 * cl.val + ch.val)) =
      true ∧ t.is (F.AUX_CTL_OUT_EN (6 * cl.val + ch.val)) = false) ∧
  (∀ (s : State) (cl : Fin 4) (code : BitVec 12) (ch : Fin 6) (made : Nat) (cyc : Nat) (began : Nat) (ref : Nat) (stamp
      : Word) (i : Fin 2), s.adcOf cl = ⟨[], some (⟨ch.val, .peak i, made, none, cyc⟩, stamp), began, ref⟩ → began + 63
      ≤ s.tb.ticks → (s.auxOf (6 * cl.val + ch.val)).coils.length = 2 → ∃ t, exec (.adcConversionDone cl code) s = .next
      t ∧ t.coil (6 * cl.val + ch.val) i = (s.coil (6 * cl.val + ch.val) i).notePeak cyc code.toNat ∧ (sameRegsBut
      [R.AUX_CL_ADC_STATUS cl] s t) ∧ (t.adcOf cl).cur = none ∧ t.is (F.AUX_CL_ADC_STATUS_BUSY cl) = false) ∧
  (∀ (s : State) (cl : Fin 4) (code : BitVec 12) (ch : Fin 6) (made : Nat) (cyc : Nat) (began : Nat) (ref : Nat) (stamp
      : Word) (i : Fin 2) (y : ChopCycle), s.adcOf cl = ⟨[], some (⟨ch.val, .valley i, made, none, cyc⟩, stamp), began,
      ref⟩ → began + 63 ≤ s.tb.ticks → (s.auxOf (6 * cl.val + ch.val)).coils.length = 2 → (s.coil (6 * cl.val + ch.val)
      i).open_.find? (fun y => y.id == cyc) = some y → (s.coil (6 * cl.val + ch.val) i).cycles + 1 < 16 → ∃ t, exec
      (.adcConversionDone cl code) s = .next t ∧ (t.coil (6 * cl.val + ch.val) i).cycles = (s.coil (6 * cl.val + ch.val)
      i).cycles + 1 ∧ (y.peak.isSome = true → (t.coil (6 * cl.val + ch.val) i).pairs = (s.coil (6 * cl.val + ch.val)
      i).pairs + 1) ∧ (t.adcOf cl).cur = none ∧ t.is (F.AUX_CL_ADC_STATUS_BUSY cl) = false) ∧
  (∀ (s : State) (cl : Fin 4) (ch : Fin 6) (i : Fin 2) (r : AdcReq), (s.adcOf cl).wait.find? (fun r => r.ch == ch.val &&
      decide (r.use = .peak i) && r.limit.any (· ≤ s.tb.ticks)) = some r → ∃ t, exec (.adcRequestDiscard cl ch (.peak
      i)) s = .next t ∧ t.g (F.AUX_CL_ADC_COUNT_DROPPED cl) = satAdd (F.AUX_CL_ADC_COUNT_DROPPED cl).w (s.g
      (F.AUX_CL_ADC_COUNT_DROPPED cl)) 1 ∧ (t.adcOf cl).wait = dropReq r (s.adcOf cl).wait) ∧
  (∀ (s : State) (cl : Fin 4) (ch : Fin 6) (i : Fin 2) (r : AdcReq), (s.adcOf cl).wait.find? (fun r => r.ch == ch.val &&
      decide (r.use = .valley i) && r.limit.any (· ≤ s.tb.ticks)) = some r → ∃ t, exec (.adcRequestDiscard cl ch
      (.valley i)) s = .next t ∧ t.g (F.AUX_CL_ADC_COUNT_DROPPED cl) = satAdd (F.AUX_CL_ADC_COUNT_DROPPED cl).w (s.g
      (F.AUX_CL_ADC_COUNT_DROPPED cl)) 1 ∧ (t.adcOf cl).wait = dropReq r (s.adcOf cl).wait) ∧
  (∀ (s : State) (cl : Fin 4) (ch : Fin 6) (i : Nat), ∃ t, exec (.adcRequestDiscard cl ch (.sample i)) s = .next t ∧ t =
      s) ∧
  (∀ (s : State) (cl : Fin 4) (ch : Fin 6), ∃ t, exec (.adcRequestDiscard cl ch .reference) s = .next t ∧ t = s) ∧
  (∀ (s : State) (cl : Fin 4) (r : AdcReq × Word), (s.adcOf cl).cur = some r → (s.adcOf cl).refTick + 250000 ≤
      s.tb.ticks → (s.adcOf cl).wait.all (fun r => decide (r.use ≠ .reference)) = true → ∃ t, exec (.adcReferenceCheck
      cl) s = .next t ∧ (t.adcOf cl).refTick = s.tb.ticks ∧ (t.adcOf cl).cur = some r ∧ ⟨0, .reference, s.tb.ticks,
      none, 0⟩ ∈ (t.adcOf cl).wait) ∧
  (∀ (s : State) (c : Fin 24) (h : Held) (rest : List Held) (r : AdcReq × Word), s.firstDue s.held = some (h, rest) →
      h.e.code = 0x12 → h.e.target = c → s.g (F.AUX_CFG_EVAL_SRC c) = 1 → (s.adcOf (c.val / 6)).cur = some r → ∃ t, exec
      (.auxSample c) s = .next t ∧ ⟨c.val % 6, .sample (s.g (F.AUX_CFG_ADC_SEL c)), s.tb.ticks, none, 0⟩ ∈ (t.adcOf
      (c.val / 6)).wait ∧ (t.adcOf (c.val / 6)).cur = some r ∧ t.held = rest) ∧
  (∀ (s : State) (c : Fin 24) (h : Held) (rest : List Held), s.firstDue s.held = some (h, rest) → h.e.code = 0x12 →
      h.e.target = c → s.g (F.AUX_CFG_EVAL_SRC c) = 0 → ∃ t, exec (.auxSample c) s = .next t ∧ t = State.auxEvaluate
      (({ s with held := rest } : State).adcAsk c (.sample (s.g (F.AUX_CFG_ADC_SEL c)))) c (s.instant h))

/-- Each of these events of a stepper completes under the conditions its clause gives. An interval boundary evaluates
the channel once; a microstep that is due, forward or back, brings the schedule one step on and ends a reduction; a
crossing of a coil shows what the comparator sees, and ends the drive above the target after blanking or the decay
below it after the minimum; the end of the blanking and of the minimum decay do the same for what was seen before;
at standstill the factor falls at once to HOLD_FRAC when RAMP is 0, and else step by step; a coil that has driven 1
ms below its target is open, with one event. -/
def Obligations.SteppersFollowTheirRules : Prop :=
  (∀ (s : State) (c : Fin 24), s.g (F.AUX_CFG_EVAL_SRC c) = 1 → (s.auxOf c).evalT ≠ some (s.intervalStart c) → exec
      (.auxEvalInterval c) s = .next ((s.setAux c { s.auxOf c with evalT := some (s.intervalStart c) }).auxEvaluate c
      (s.intervalStart c))) ∧
  (∀ (s : State) (c : Fin 24), s.g (F.AUX_CFG_MODE c) = 1 → 0 < (s.auxOf c).left → (s.auxOf c).stepTime ((s.auxOf
      c).done + 1) ≤ (s.tb.ticks + 1) * 262144 → ∃ t, exec (.microstep c) s = .next t ∧ (t.auxOf c).left = (s.auxOf
      c).left - 1 ∧ (t.auxOf c).done = (s.auxOf c).done + 1 ∧ (t.auxOf c).lastStep = s.tb.ticks ∧ t.g
      (F.AUX_STP_STATUS_FACTOR c) = 256 ∧ t.is (F.AUX_STP_STATUS_REDUCED c) = false) ∧
  (∀ (s : State) (c : Fin 24) (coil : Fin 2) (seen : Fin 3), (s.coil c coil).on = false → (s.auxOf c).coils.length = 2 →
      ∃ t, exec (.chopperCrossing c coil seen) s = .next t ∧ t.coil c coil = { s.coil c coil with seen := seen.val } ∧
      t.regs = s.regs) ∧
  (∀ (s : State) (c : Fin 24) (coil : Fin 2), (s.coil c coil).on = true → (s.coil c coil).drive = true → (s.coil c
      coil).seen ≠ 2 → (s.coil c coil).since + s.g (F.AUX_STP_CHOP_BLANK c) ≤ s.tb.ticks → (s.auxOf c).coils.length = 2
      → ∃ t, exec (.chopperBlankEnd c coil) s = .next t ∧ t.coil c coil = { s.coil c coil with blanked := true } ∧
      t.regs = s.regs) ∧
  (∀ (s : State) (c : Fin 24) (coil : Fin 2), (s.coil c coil).on = true → (s.coil c coil).drive = false → (s.coil c
      coil).seen ≠ 0 → (s.coil c coil).since + 25 * s.g (F.AUX_STP_CHOP_TOFF_MIN c) ≤ s.tb.ticks → (s.auxOf
      c).coils.length = 2 → ∃ t, exec (.decayMinEnd c coil) s = .next t ∧ t.coil c coil =
      { s.coil c coil with off := true } ∧ t.regs = s.regs) ∧
  (∀ (s : State) (c : Fin 24), s.g (F.AUX_CFG_MODE c) = 1 → s.is (F.AUX_STP_STATUS_REDUCED c) = false → (s.auxOf
      c).lastStep + 250000 * s.g (F.AUX_STP_SS_SS_DELAY c) ≤ s.tb.ticks → s.g (F.AUX_STP_SS_RAMP c) = 0 → ∃ t, exec
      (.standstillReduction c) s = .next t ∧ t.g (F.AUX_STP_STATUS_FACTOR c) = s.g (F.AUX_STP_CUR_HOLD_FRAC c) ∧ t.is
      (F.AUX_STP_STATUS_REDUCED c) = true ∧ t.is (F.AUX_STP_STATUS_REDUCING c) = false) ∧
  (∀ (s : State) (c : Fin 24) (coil : Fin 2), (s.coil c coil).on = true → (s.coil c coil).drive = true → (s.coil c
      coil).seen ≠ 2 → (s.coil c coil).opened = false → (s.coil c coil).since + 250000 ≤ s.tb.ticks → (s.auxOf
      c).coils.length = 2 → ∃ t, exec (.openCoil c coil) s = .next t ∧ t.is (if coil.val == 0 then
      F.AUX_STP_STATUS_OPEN_A c else F.AUX_STP_STATUS_OPEN_B c) = true ∧ t.evt.detected.length = s.evt.detected.length +
      1 ∧ (t.coil c coil).opened = true) ∧
  (∀ (s : State) (c : Fin 24), s.g (F.AUX_CFG_MODE c) = 1 → (s.auxOf c).left < 0 → (s.auxOf c).stepTime ((s.auxOf
      c).done + 1) ≤ (s.tb.ticks + 1) * 262144 → ∃ t, exec (.microstep c) s = .next t ∧ (t.auxOf c).left = (s.auxOf
      c).left + 1 ∧ (t.auxOf c).done = (s.auxOf c).done + 1 ∧ (t.auxOf c).lastStep = s.tb.ticks ∧ t.g
      (F.AUX_STP_STATUS_FACTOR c) = 256 ∧ t.is (F.AUX_STP_STATUS_REDUCED c) = false) ∧
  (∀ (s : State) (c : Fin 24) (coil : Fin 2) (seen : Fin 3), (s.coil c coil).on = true → (s.coil c coil).drive = true →
      (s.coil c coil).blanked = false ∨ seen ≠ 2 → (s.auxOf c).coils.length = 2 → ∃ t, exec (.chopperCrossing c coil
      seen) s = .next t ∧ t.coil c coil = { s.coil c coil with seen := seen.val } ∧ t.regs = s.regs) ∧
  (∀ (s : State) (c : Fin 24) (coil : Fin 2), (s.coil c coil).on = true → (s.coil c coil).drive = true → (s.coil c
      coil).blanked = true → (s.auxOf c).coils.length = 2 → ∃ t, exec (.chopperCrossing c coil 2) s = .next t ∧ (t.coil
      c coil).drive = false ∧ (t.coil c coil).on = true ∧ (t.coil c coil).since = s.tb.ticks ∧ (t.coil c coil).off =
      (s.g (F.AUX_STP_CHOP_TOFF_MIN c) == 0)) ∧
  (∀ (s : State) (c : Fin 24) (coil : Fin 2), (s.coil c coil).on = true → (s.coil c coil).drive = false → (s.coil c
      coil).off = true → (s.auxOf c).coils.length = 2 → ∃ t, exec (.chopperCrossing c coil 0) s = .next t ∧ (t.coil c
      coil).drive = true ∧ (t.coil c coil).on = true ∧ (t.coil c coil).since = s.tb.ticks ∧ (t.coil c coil).blanked =
      (s.g (F.AUX_STP_CHOP_BLANK c) == 0)) ∧
  (∀ (s : State) (c : Fin 24) (coil : Fin 2) (seen : Fin 3), (s.coil c coil).on = true → (s.coil c coil).drive = false →
      (s.coil c coil).off = false ∨ seen ≠ 0 → (s.auxOf c).coils.length = 2 → ∃ t, exec (.chopperCrossing c coil seen) s
      = .next t ∧ t.coil c coil = { s.coil c coil with seen := seen.val } ∧ t.regs = s.regs) ∧
  (∀ (s : State) (c : Fin 24) (coil : Fin 2), (s.coil c coil).on = true → (s.coil c coil).drive = true → (s.coil c
      coil).seen = 2 → (s.coil c coil).since + s.g (F.AUX_STP_CHOP_BLANK c) ≤ s.tb.ticks → (s.auxOf c).coils.length = 2
      → ∃ t, exec (.chopperBlankEnd c coil) s = .next t ∧ (t.coil c coil).drive = false ∧ (t.coil c coil).on = true ∧
      (t.coil c coil).since = s.tb.ticks ∧ (t.coil c coil).off = (s.g (F.AUX_STP_CHOP_TOFF_MIN c) == 0)) ∧
  (∀ (s : State) (c : Fin 24) (coil : Fin 2), (s.coil c coil).on = true → (s.coil c coil).drive = false → (s.coil c
      coil).seen = 0 → (s.coil c coil).since + 25 * s.g (F.AUX_STP_CHOP_TOFF_MIN c) ≤ s.tb.ticks → (s.auxOf
      c).coils.length = 2 → ∃ t, exec (.decayMinEnd c coil) s = .next t ∧ (t.coil c coil).drive = true ∧ (t.coil c
      coil).on = true ∧ (t.coil c coil).since = s.tb.ticks ∧ (t.coil c coil).blanked = (s.g (F.AUX_STP_CHOP_BLANK c) ==
      0)) ∧
  (∀ (s : State) (c : Fin 24) (i : Nat), s.g (F.AUX_CFG_MODE c) = 1 → s.is (F.AUX_STP_STATUS_REDUCED c) = false → i =
      (match (s.auxOf c).reduce with | some n => n + 1 | none => 0) → (s.auxOf c).lastStep + 250000 * (s.g
      (F.AUX_STP_SS_SS_DELAY c) + i) ≤ s.tb.ticks → i < s.g (F.AUX_STP_SS_RAMP c) → ∃ t, exec (.standstillReduction c) s
      = .next t ∧ t.g (F.AUX_STP_STATUS_FACTOR c) = (256 - (256 - s.g (F.AUX_STP_CUR_HOLD_FRAC c)) * i / s.g
      (F.AUX_STP_SS_RAMP c)) % 2 ^ (F.AUX_STP_STATUS_FACTOR c).w ∧ (t.auxOf c).reduce = some i ∧ t.is
      (F.AUX_STP_STATUS_REDUCING c) = true ∧ t.is (F.AUX_STP_STATUS_REDUCED c) = false)

/-- Each of these events of a running BLDC channel completes under the conditions its clause gives. The alignment ends
in the ramp at V0; a PWM period asks for a current in the middle of its on-time, in the ramp moves the speed on, in
closed loop waits for its reading, ends in coasting where the motion has ended, and after eight periods without a
current is the channel's fault; a ramp sector that is over, in closed loop the time after a crossing, and a sector
without one, which counts once, lead to the next sector, and too many misses set LOST and use a restart; the
coasting ends in IDLE, or in a new alignment where motion is asked for; ten seconds in closed loop clear the
restarts and change no other register. -/
def Obligations.BldcChannelsFollowTheirRules : Prop :=
  (∀ (s : State) (c : Fin 24), s.auxRuns c 2 = true → s.g (F.AUX_BL_STATUS_PHASE c) = 1 → (s.auxOf c).phTick + 1000000 *
      s.g (F.AUX_BL_START_ALIGN_TIME c) ≤ s.tb.ticks → ∃ t, exec (.bldcAlignEnd c) s = .next t ∧ t.g
      (F.AUX_BL_STATUS_PHASE c) = 2 ∧ t.g (F.AUX_BL_STATUS_ZC_RUN c) = 0 ∧ (t.auxOf c).vr = s.g (F.AUX_BL_RAMP_V_V0 c) *
      2 ^ 28 ∧ (t.auxOf c).phase = 0) ∧
  (∀ (s : State) (c : Fin 24) (above : Bool), s.auxRuns c 2 = true → s.g (F.AUX_BL_STATUS_PHASE c) = 1 → (s.auxOf
      c).perTick + s.g (F.AUX_BL_PWM_PERIOD c) ≤ s.tb.ticks → (s.auxOf c).beyond = false → 2 ≤ s.bldcOn c → (s.adcOf
      (c.val / 6)).wait = [] → (s.adcOf (c.val / 6)).cur = none → ∃ t, exec (.bldcPwmPeriod c above) s = .next t ∧
      (t.adcOf (c.val / 6)).wait = [⟨c.val % 6, .current, s.tb.ticks + s.bldcOn c / 2, some (s.tb.ticks + s.bldcOn c),
      0⟩] ∧ (t.auxOf c).starve = 0 ∧ (t.auxOf c).perTick = s.tb.ticks ∧ t.g (F.AUX_BL_STATUS_PHASE c) = 1) ∧
  (∀ (s : State) (c : Fin 24), s.auxRuns c 2 = true → s.g (F.AUX_BL_STATUS_PHASE c) = 3 → (s.auxOf c).zc = true →
      (s.auxOf c).zcTick + (s.rd (R.AUX_BL_T60 c)).toNat * (128 - s.g (F.AUX_BL_ZC_ADVANCE c)) / 256 ≤ s.tb.ticks → ∃ t,
      exec (.bldcCommutation c) s = .next t ∧ t.g (F.AUX_BL_STATUS_SECTOR c) = (s.g (F.AUX_BL_STATUS_SECTOR c) + if s.is
      (F.AUX_BL_STATUS_DIRN c) then 5 else 1) % 6 ∧ (t.auxOf c).comm = s.tb.ticks ∧ (t.auxOf c).zc = false ∧ t.g
      (F.AUX_BL_STATUS_ZC_RUN c) = min 15 (s.g (F.AUX_BL_STATUS_ZC_RUN c) + 1)) ∧
  (∀ (s : State) (c : Fin 24), s.auxRuns c 2 = true → s.g (F.AUX_BL_STATUS_PHASE c) = 3 → (s.auxOf c).zc = false → 2 *
      (s.auxOf c).comm + 3 * (s.rd (R.AUX_BL_T60 c)).toNat ≤ 2 * s.tb.ticks → (s.auxOf c).missed = true → ∃ t, exec
      (.missedSector c) s = .next t ∧ t.g (F.AUX_BL_STATUS_SECTOR c) = (s.g (F.AUX_BL_STATUS_SECTOR c) + if s.is
      (F.AUX_BL_STATUS_DIRN c) then 5 else 1) % 6 ∧ t.rd (R.AUX_BL_T60 c) = s.rd (R.AUX_BL_T60 c)) ∧
  (∀ (s : State) (c : Fin 24), s.auxRuns c 2 = true → s.g (F.AUX_BL_STATUS_PHASE c) = 3 → (s.auxOf c).zc = false → 2 *
      (s.auxOf c).comm + 3 * (s.rd (R.AUX_BL_T60 c)).toNat ≤ 2 * s.tb.ticks → (s.auxOf c).missed = false → (s.auxOf
      c).misses + 1 < atLeast1 (s.g (F.AUX_BL_ZC_LOSS_CNT c)) → ∃ t, exec (.missedSector c) s = .next t ∧ (t.auxOf
      c).misses = (s.auxOf c).misses + 1 ∧ t.g (F.AUX_BL_STATUS_ZC_RUN c) = 0 ∧ (t.auxOf c).comm = s.tb.ticks) ∧
  (∀ (s : State) (c : Fin 24), s.auxRuns c 2 = true → s.g (F.AUX_BL_STATUS_PHASE c) = 4 → s.bldcWant c = 0 → (s.auxOf
      c).phTick + 250000 * s.g (F.AUX_BL_COAST_COAST_TIME c) ≤ s.tb.ticks → ∃ t, exec (.bldcCoastEnd c) s = .next t ∧
      t.g (F.AUX_BL_STATUS_PHASE c) = 0) ∧
  (∀ (s : State) (c : Fin 24), s.auxRuns c 2 = true → s.g (F.AUX_BL_STATUS_PHASE c) = 3 → (s.auxOf c).loopTick +
      2500000000 ≤ s.tb.ticks → ∃ t, exec (.bldcRetryRefill c) s = .next t ∧ t.g (F.AUX_BL_STATUS_RESTARTS c) = 0 ∧
      sameRegsBut [R.AUX_BL_STATUS c] s t ∧ sameBut [.regs] s t) ∧
  (∀ (s : State) (c : Fin 24) (above : Bool), s.auxRuns c 2 = true → (s.auxOf c).perTick + s.g (F.AUX_BL_PWM_PERIOD c) ≤
      s.tb.ticks → (s.auxOf c).got = true ∨ (s.auxOf c).starve < 7 → s.g (F.AUX_BL_STATUS_PHASE c) = 1 → ∃ t, exec
      (.bldcPwmPeriod c above) s = .next t ∧ (t.auxOf c).perTick = s.tb.ticks ∧ (t.auxOf c).got = false ∧ (t.auxOf
      c).starve = 0 ∧ t.g (F.AUX_BL_STATUS_PHASE c) = 1) ∧
  (∀ (s : State) (c : Fin 24) (above : Bool), s.auxRuns c 2 = true → (s.auxOf c).perTick + s.g (F.AUX_BL_PWM_PERIOD c) ≤
      s.tb.ticks → (s.auxOf c).got = true ∨ (s.auxOf c).starve < 7 → s.g (F.AUX_BL_STATUS_PHASE c) = 2 → (s.auxOf
      c).beyond = false → ∃ t, exec (.bldcPwmPeriod c above) s = .next t ∧ (t.auxOf c).perTick = s.tb.ticks ∧ (t.auxOf
      c).got = false ∧ t.g (F.AUX_BL_STATUS_PHASE c) = 2 ∧ (t.auxOf c).vr = min (s.g (F.AUX_BL_RAMP_V_V_HO c) * 2 ^ 28)
      ((s.auxOf c).vr + s.g (F.AUX_BL_RAMP_ACC_ACC c) * 2 ^ 24 * s.g (F.AUX_BL_PWM_PERIOD c) / 250000000)) ∧
  (∀ (s : State) (c : Fin 24) (above : Bool), s.auxRuns c 2 = true → (s.auxOf c).perTick + s.g (F.AUX_BL_PWM_PERIOD c) ≤
      s.tb.ticks → (s.auxOf c).got = true ∨ (s.auxOf c).starve < 7 → s.g (F.AUX_BL_STATUS_PHASE c) = 3 → s.bldcEnds c =
      false → 0 < s.g (F.AUX_BL_ZC_SETTLE c) → ∃ t, exec (.bldcPwmPeriod c above) s = .next t ∧ (t.auxOf c).perTick =
      s.tb.ticks ∧ (t.auxOf c).got = false ∧ t.g (F.AUX_BL_STATUS_PHASE c) = 3 ∧ (t.auxOf c).read = some above) ∧
  (∀ (s : State) (c : Fin 24) (above : Bool), s.auxRuns c 2 = true → (s.auxOf c).perTick + s.g (F.AUX_BL_PWM_PERIOD c) ≤
      s.tb.ticks → (s.auxOf c).got = true ∨ (s.auxOf c).starve < 7 → s.g (F.AUX_BL_STATUS_PHASE c) = 3 → s.bldcEnds c =
      true → ∃ t, exec (.bldcPwmPeriod c above) s = .next t ∧ t.g (F.AUX_BL_STATUS_PHASE c) = 4 ∧ t.g
      (F.AUX_BL_DUTY_DUTY c) = 0 ∧ (t.auxOf c).phTick = s.tb.ticks) ∧
  (∀ (s : State) (c : Fin 24) (above : Bool), s.auxRuns c 2 = true → (s.auxOf c).perTick + s.g (F.AUX_BL_PWM_PERIOD c) ≤
      s.tb.ticks → s.g (F.AUX_BL_STATUS_PHASE c) = 2 ∨ s.g (F.AUX_BL_STATUS_PHASE c) = 3 → (s.auxOf c).got = false → 7 ≤
      (s.auxOf c).starve → s.higherRuns (16 + c.val) = false → ∃ t, exec (.bldcPwmPeriod c above) s = .next t ∧ t.is
      (F.AUX_BL_STATUS_ADC_STARVED c) = true ∧ t.is (F.AUX_STATUS_FAULT c) = true) ∧
  (∀ (s : State) (c : Fin 24), s.auxRuns c 2 = true → s.g (F.AUX_BL_STATUS_PHASE c) = 2 → 2 ^ 32 ≤ (s.auxOf c).phase → ∃
      t, exec (.bldcCommutation c) s = .next t ∧ t.g (F.AUX_BL_STATUS_SECTOR c) = (s.g (F.AUX_BL_STATUS_SECTOR c) + if
      s.is (F.AUX_BL_STATUS_DIRN c) then 5 else 1) % 6 ∧ (t.auxOf c).comm = s.tb.ticks ∧ (t.auxOf c).phase = (s.auxOf
      c).phase - 2 ^ 32) ∧
  (∀ (s : State) (c : Fin 24), s.auxRuns c 2 = true → s.g (F.AUX_BL_STATUS_PHASE c) = 3 → (s.auxOf c).zc = false → 2 *
      (s.auxOf c).comm + 3 * (s.rd (R.AUX_BL_T60 c)).toNat ≤ 2 * s.tb.ticks → (s.auxOf c).missed = false → atLeast1 (s.g
      (F.AUX_BL_ZC_LOSS_CNT c)) ≤ (s.auxOf c).misses + 1 → ∃ t, exec (.missedSector c) s = .next t ∧ t.is
      (F.AUX_BL_STATUS_LOST c) = true ∧ t.g (F.AUX_BL_STATUS_RESTARTS c) = min 15 (s.g (F.AUX_BL_STATUS_RESTARTS c) + 1)
      ∧ (t.auxOf c).misses = (s.auxOf c).misses + 1) ∧
  (∀ (s : State) (c : Fin 24), s.auxRuns c 2 = true → s.g (F.AUX_BL_STATUS_PHASE c) = 4 → s.bldcWant c ≠ 0 → (s.auxOf
      c).phTick + 250000 * s.g (F.AUX_BL_COAST_COAST_TIME c) ≤ s.tb.ticks → ∃ t, exec (.bldcCoastEnd c) s = .next t ∧
      t.g (F.AUX_BL_STATUS_PHASE c) = 1 ∧ t.is (F.AUX_BL_STATUS_DIRN c) = decide (s.bldcWant c < 0) ∧ (t.auxOf c).phTick
      = s.tb.ticks)

/-- Each of these descriptors, where it starts on its ring and passes its checks, completes under the conditions its
clause gives. NOP advances the ring and, asked for no completion, changes no register; a setpoint later than the one
in force waits for its time; a launch is pushed, or the entries of earlier ticks that match are cancelled; an axis
command stages its operands and has the effect of its command word on the channel; a buffer is handed out to the
owner or freed; a copy takes a free channel, and is queued behind those under way where there is none; an opcode
that no row has advances the ring, and where the completion ring does not work only counts a lost completion. -/
def Obligations.DescriptorsTakeEffect : Prop :=
  (∀ (s : State) (n : Fin 4) (k : Fin 8) (d : Desc), s.startsDesc n k 0 d (d.target == 0) (d.zeroFrom 16) → (s.sqOf n
      k).closing = false → ∃ t, exec (.nop n k d) s = .next t ∧ (t.sqOf n k).next = ((s.sqOf n k).next + 1) % s.sqDepth
      n k ∧ (t.sqOf n k).running = (s.sqOf n k).running ∧ t.lqs = s.lqs ∧ t.chans = s.chans ∧ t.ipm = s.ipm) ∧
  (∀ (s : State) (n : Fin 4) (k : Fin 8) (d : Desc), s.startsDesc n k 0 d (d.target == 0) (d.zeroFrom 16) → (s.sqOf n
      k).closing = false → testBit d.flags.toNat 2 = true → ∃ t, exec (.nop n k d) s = .next t ∧ (t.sqOf n k).next =
      ((s.sqOf n k).next + 1) % s.sqDepth n k ∧ (t.sqOf n k).running = (s.sqOf n k).running ∧ t.regs = s.regs ∧ t.out =
      s.out) ∧
  (∀ (s : State) (n : Fin 4) (k : Fin 8) (opcode : BitVec 8) (d : Desc), 4 < opcode.toNat → ¬(0x40 ≤ opcode.toNat ∧
      opcode.toNat ≤ 0x45) → (s.sqStart n k (testBit d.flags.toNat 1)).isSome = true → (s.sqOf n k).closing = false → ∃
      t, exec (.badOpcodeDescriptor n k opcode d) s = .next t ∧ (t.sqOf n k).next = ((s.sqOf n k).next + 1) % s.sqDepth
      n k ∧ (t.sqOf n k).running = (s.sqOf n k).running ∧ t.lqs = s.lqs ∧ t.chans = s.chans ∧ t.ipm = s.ipm) ∧
  (∀ (s : State) (n : Fin 4) (k : Fin 8) (opcode : BitVec 8) (d : Desc), 4 < opcode.toNat → ¬(0x40 ≤ opcode.toNat ∧
      opcode.toNat ≤ 0x45) → (s.sqStart n k (testBit d.flags.toNat 1)).isSome = true → (s.sqOf n k).closing = false →
      s.cqWorks n (s.sqCq n k) = false → ∃ t, exec (.badOpcodeDescriptor n k opcode d) s = .next t ∧ (t.sqOf n k).next =
      ((s.sqOf n k).next + 1) % s.sqDepth n k ∧ (t.sqOf n k).running = (s.sqOf n k).running ∧ sameRegsBut
      [(F.HIF_OD_LOST_CPL_COUNT n).addr] s t) ∧
  (∀ (s : State) (n : Fin 4) (k : Fin 8) (d : Desc), s.startsDesc n k 1 d (s.ownsChan n d.target.toNat) (d.zeroFrom 40)
      → s.isolated regMotion = false → s.g (F.LSP_CH_CFG_SRC d.target.toNat) = 2 → (s.setpOf d.target.toNat).inForce.all
      (fun f => decide (f.eff < (s.setpoint d).eff)) = true → s.nowNs ≤ (s.setpoint d).eff + (s.setpoint d).valid → ∃ t,
      exec (.setpoint n k d) s = .next t ∧ (t.setpOf d.target.toNat).pending = some (s.setpoint d) ∧ (t.setpOf
      d.target.toNat).inForce = (s.setpOf d.target.toNat).inForce) ∧
  (∀ (s : State) (n : Fin 4) (k : Fin 8) (d : Desc), s.startsDesc n k 2 d (s.ownsQueue n d.target.toNat) (d.field 16 4
      == 0 && d.zeroFrom 38) → s.isolated regTime = false → s.pushErr d.target.toNat (Staged.ofWords (BitVec.ofNat 32
      (d.field 20 4)) (BitVec.ofNat 32 (d.field 24 4)) (BitVec.ofNat 32 (d.field 28 4)) (BitVec.ofNat 32 (d.field 32 4))
      (d.field 36 2)) = none → ∃ t, exec (.launchPush n k d) s = .next t ∧ (t.lqOf d.target.toNat).entries.length =
      (s.lqOf d.target.toNat).entries.length + 1 ∧ t.evt = s.evt) ∧
  (∀ (s : State) (n : Fin 4) (k : Fin 8) (d : Desc), s.startsDesc n k 3 d (s.ownsQueue n d.target.toNat) (d.zeroFrom 20)
      → s.isolated regTime = false → ∃ t, exec (.launchCancel n k d) s = .next t ∧ (t.lqOf d.target.toNat).entries =
      (s.lqOf d.target.toNat).entries.filter (fun e => !(e.tick != s.tb.ticks && tagMatch (d.field 16 2) (d.field 18 2)
      e))) ∧
  (∀ (s : State) (n : Fin 4) (k : Fin 8) (d : Desc) (u : State), s.startsDesc n k 4 d (s.ownsChan n d.target.toNat)
      (d.zeroFrom 48) → s.isolated regMotion = false → u = wrLspCmd d.target.toNat (BitVec.ofNat 32 (d.field 44 4))
      (((s.stageAxis d.target.toNat d).off (F.LSP_CH_STATUS_CMD_REFUSED d.target.toNat)).off (F.LSP_CH_STATUS_QUEUE_FULL
      d.target.toNat)) → ∃ t, exec (.axisCmd n k d) s = .next t ∧ t.chans = u.chans ∧ t.chanState d.target.toNat =
      u.chanState d.target.toNat ∧ t.rd (R.LSP_CH_TARGET_LO d.target.toNat) = BitVec.ofNat 32 (d.field 16 4) ∧ t.rd
      (R.LSP_CH_TARGET_HI d.target.toNat) = BitVec.ofNat 32 (d.field 20 4) ∧ t.rd (R.LSP_CH_VMAX d.target.toNat) =
      BitVec.ofNat 32 (d.field 24 4) ∧ t.rd (R.LSP_CH_AMAX d.target.toNat) = BitVec.ofNat 32 (d.field 28 4) ∧ t.rd
      (R.LSP_CH_DMAX d.target.toNat) = BitVec.ofNat 32 (d.field 32 4) ∧ t.rd (R.LSP_CH_JMAX d.target.toNat) =
      BitVec.ofNat 32 (d.field 36 4) ∧ t.rd (R.LSP_CH_START d.target.toNat) = BitVec.ofNat 32 (d.field 40 4)) ∧
  (∀ (s : State) (n : Fin 4) (k : Fin 8) (d : Desc), s.startsDesc n k 4 d (s.ownsChan n d.target.toNat) (d.zeroFrom 48)
      → s.isolated regMotion = false → d.field 44 4 = 8 → s.chanState d.target.toNat < 4 → ∃ t, exec (.axisCmd n k d) s
      = .next t ∧ (t.chanOf d.target.toNat).queue = [] ∧ t.rd (R.LSP_CH_VMAX d.target.toNat) = BitVec.ofNat 32 (d.field
      24 4) ∧ t.rd (R.LSP_CH_TARGET_LO d.target.toNat) = BitVec.ofNat 32 (d.field 16 4)) ∧
  (∀ (s : State) (n : Fin 4) (k : Fin 8) (d : Desc) (i : Nat) (c : Nat), (s.sqStart n k (testBit d.flags.toNat 1)).map
      (·.2) = some i → s.descErr n k 0x41 d (d.target == 0) (decide (1 ≤ d.field 32 4) && decide (d.field 32 4 ≤ 16 *
      mib) && decide (d.field 36 1 ≤ 2) && decide (d.field 37 1 ≤ 1) && d.zeroFrom 38) false = none → s.isolated
      regMemory = false → s.freeCopy = some c → s.ipm.waiting = [] → s.handleErr n false (BitVec.ofNat 32 (d.field 24
      4)) = none → d.field 28 4 + d.field 32 4 ≤ classSize (handleClass (BitVec.ofNat 32 (d.field 24 4))) →
      s.ipm.copies.length = 4 → ∃ t, exec (.copyIn n k d) s = .next t ∧ t.ipm.waiting = [] ∧ (t.ipm.copies.getD c
      none).map (fun r => r.req) = some ⟨n, k, i, false, d.field 16 8, BitVec.ofNat 32 (d.field 24 4), d.field 28 4,
      d.field 32 4, d.field 36 1, d.field 37 1 == 1, d.tag.toNat, d.flags.toNat⟩) ∧
  (∀ (s : State) (n : Fin 4) (k : Fin 8) (d : Desc) (i : Nat) (c : Nat), (s.sqStart n k (testBit d.flags.toNat 1)).map
      (·.2) = some i → s.descErr n k 0x42 d (d.target == 0) (decide (1 ≤ d.field 32 4) && decide (d.field 32 4 ≤ 16 *
      mib) && decide (d.field 36 1 ≤ 2) && decide (d.field 37 1 ≤ 1) && d.zeroFrom 38) false = none → s.isolated
      regMemory = false → s.freeCopy = some c → s.ipm.waiting = [] → s.handleErr n false (BitVec.ofNat 32 (d.field 24
      4)) = none → d.field 28 4 + d.field 32 4 ≤ classSize (handleClass (BitVec.ofNat 32 (d.field 24 4))) →
      s.ipm.copies.length = 4 → ∃ t, exec (.copyOut n k d) s = .next t ∧ t.ipm.waiting = [] ∧ (t.ipm.copies.getD c
      none).map (fun r => r.req) = some ⟨n, k, i, true, d.field 16 8, BitVec.ofNat 32 (d.field 24 4), d.field 28 4,
      d.field 32 4, d.field 36 1, d.field 37 1 == 1, d.tag.toNat, d.flags.toNat⟩) ∧
  (∀ (s : State) (n : Fin 4) (k : Fin 8) (d : Desc) (num : Nat), s.startsDesc n k 0x43 d (d.target == 0) (decide
      (d.field 16 1 ≤ 3) && d.zeroFrom 17) → s.isolated regMemory = false → s.classUse n (d.field 16 1) < s.quota n
      (d.field 16 1) → s.longestFree (d.field 16 1) = some num → ∃ t, exec (.poolAlloc n k d) s = .next t ∧ t.bufOf
      (d.field 16 1 * 2 ^ 22 + num) = ⟨nextGen (s.bufOf (d.field 16 1 * 2 ^ 22 + num)).gen, some n⟩) ∧
  (∀ (s : State) (n : Fin 4) (k : Fin 8) (d : Desc) (h : Word), s.startsDesc n k 0x44 d (d.target == 0) (d.zeroFrom 20)
      → s.isolated regMemory = false → h = BitVec.ofNat 32 (d.field 16 4) → s.handleErr n true h = none → s.bufInUse
      (handleIdx h) = false → ∃ t, exec (.poolFree n k d) s = .next t ∧ t.bufOf (handleIdx h) = ⟨(s.bufOf (handleIdx
      h)).gen, none⟩) ∧
  (∀ (s : State) (n : Fin 4) (k : Fin 8) (d : Desc) (i : Nat), (s.sqStart n k (testBit d.flags.toNat 1)).map (·.2) =
      some i → s.descErr n k 0x41 d (d.target == 0) (decide (1 ≤ d.field 32 4) && decide (d.field 32 4 ≤ 16 * mib) &&
      decide (d.field 36 1 ≤ 2) && decide (d.field 37 1 ≤ 1) && d.zeroFrom 38) false = none → s.isolated regMemory =
      false → s.g F.MEM_STAGE_SOUND ≠ 0 → s.freeCopy = none → ∃ t, exec (.copyIn n k d) s = .next t ∧ t.ipm.waiting =
      s.ipm.waiting ++ [⟨n, k, i, false, d.field 16 8, BitVec.ofNat 32 (d.field 24 4), d.field 28 4, d.field 32 4,
      d.field 36 1, d.field 37 1 == 1, d.tag.toNat, d.flags.toNat⟩] ∧ t.regs = s.regs) ∧
  (∀ (s : State) (n : Fin 4) (k : Fin 8) (d : Desc) (i : Nat), (s.sqStart n k (testBit d.flags.toNat 1)).map (·.2) =
      some i → s.descErr n k 0x42 d (d.target == 0) (decide (1 ≤ d.field 32 4) && decide (d.field 32 4 ≤ 16 * mib) &&
      decide (d.field 36 1 ≤ 2) && decide (d.field 37 1 ≤ 1) && d.zeroFrom 38) false = none → s.isolated regMemory =
      false → s.g F.MEM_STAGE_SOUND ≠ 0 → s.freeCopy = none → ∃ t, exec (.copyOut n k d) s = .next t ∧ t.ipm.waiting =
      s.ipm.waiting ++ [⟨n, k, i, true, d.field 16 8, BitVec.ofNat 32 (d.field 24 4), d.field 28 4, d.field 32 4,
      d.field 36 1, d.field 37 1 == 1, d.tag.toNat, d.flags.toNat⟩] ∧ t.regs = s.regs)

/-- Each of these commands and events of the host rings completes under the conditions its clause gives. A configuration
request is answered according to the resets; enabling changes its register alone; a submission or completion ring is
enabled at head and tail 0, keeps the rest of its state where EN stays, and is disabled, a submission ring once what
it runs has ended; a poll reads the doorbell page, takes a head of every completion ring and a tail within the
ring's depth, and marks a ring whose tail lies outside; a heartbeat that is due is written with its read-back
outstanding, and is only read back where the ring is full; a read-back in error, with other data, or late breaks the
ring with reason 3, 1 or 2, and one that matches ends the oldest check; a message due leaves when its hold ends; the
head of the event queue goes to the event ring. -/
def Obligations.HostRingsFollowTheirRules : Prop :=
  (∀ (s : State) (n : Fin 4), ∃ t, exec (.configRequest n) s = .next t ∧ t.out = .config n (!(s.clk.down.contains 4) &&
      !(s.clk.releases.contains 4)) (if !(s.clk.down.contains 4) && !(s.clk.releases.contains 4) then s.configIds n else
      []) :: s.out ∧ sameRegsBut [F.GLB_READY_HOST_READY.addr] s t) ∧
  (∀ (s : State) (rq : Rq) (n : Fin 4) (v : Word), s.reaches rq (R.HIF_OD_CTL n) → ∃ t, exec (.hifEnable rq n v) s =
      .next t ∧ t.rd (R.HIF_OD_CTL n) = v &&& 1 ∧ sameRegsBut [R.HIF_OD_CTL n] s t ∧ sameBut [.regs, .hif] s t) ∧
  (∀ (s : State) (rq : Rq) (n : Fin 4) (k : Fin 8) (v : Word), s.reaches rq (R.HIF_OD_SQ_CFG n k) → 4 ≤ getBits v 0 5 →
      getBits v 0 5 ≤ 16 → getBits v 10 7 ≤ 64 → getBits v 5 1 = 1 → s.is (F.HIF_OD_SQ_CFG_EN n k) = false → s.cqEn n
      (getBits v 7 3) = true → ∃ t, exec (.sqCfgWrite rq n k v) s = .next t ∧ t.rd (R.HIF_OD_SQ_CFG n k) = v &&&
      0x0001FFFF ∧ t.is (F.HIF_OD_SQ_STATUS_RUNNING n k) = true ∧ t.g (F.HIF_OD_SQ_STATUS_HEAD n k) = 0 ∧ t.sqOf n k =
      SqSt.reset) ∧
  (∀ (s : State) (rq : Rq) (n : Fin 4) (k : Fin 8) (v : Word), s.reaches rq (R.HIF_OD_SQ_CFG n k) → 4 ≤ getBits v 0 5 →
      getBits v 0 5 ≤ 16 → getBits v 10 7 ≤ 64 → getBits v 5 1 = 0 → s.is (F.HIF_OD_SQ_CFG_EN n k) = false → ∃ t, exec
      (.sqCfgWrite rq n k v) s = .next t ∧ t.rd (R.HIF_OD_SQ_CFG n k) = v &&& 0x0001FFFF ∧ sameRegsBut [R.HIF_OD_SQ_CFG
      n k] s t) ∧
  (∀ (s : State) (rq : Rq) (n : Fin 4) (k : Fin 8) (v : Word), s.reaches rq (R.HIF_OD_SQ_CFG n k) → 4 ≤ getBits v 0 5 →
      getBits v 0 5 ≤ 16 → getBits v 10 7 ≤ 64 → getBits v 5 1 = 1 → s.is (F.HIF_OD_SQ_CFG_EN n k) = true → v &&& 0x3DF
      = s.rd (R.HIF_OD_SQ_CFG n k) &&& 0x3DF → ∃ t, exec (.sqCfgWrite rq n k v) s = .next t ∧ t.rd (R.HIF_OD_SQ_CFG n k)
      = v &&& 0x0001FFFF ∧ sameRegsBut [R.HIF_OD_SQ_CFG n k] s t) ∧
  (∀ (s : State) (rq : Rq) (n : Fin 4) (k : Fin 8) (v : Word), s.reaches rq (R.HIF_OD_SQ_CFG n k) → 4 ≤ getBits v 0 5 →
      getBits v 0 5 ≤ 16 → getBits v 10 7 ≤ 64 → getBits v 5 1 = 0 → s.is (F.HIF_OD_SQ_CFG_EN n k) = true → v &&& 0x3DF
      = s.rd (R.HIF_OD_SQ_CFG n k) &&& 0x3DF → ∃ t, exec (.sqCfgWrite rq n k v) s = .next t ∧ t.is (F.HIF_OD_SQ_CFG_EN n
      k) = false ∧ ((s.sqOf n k).running ≠ 0 → (t.sqOf n k).closing = true)) ∧
  (∀ (s : State) (rq : Rq) (n : Fin 4) (k : Fin 9) (v : Word), s.reaches rq (cqCfg n k) → 4 ≤ getBits v 0 5 → getBits v
      0 5 ≤ 16 → getBits v 5 1 = 1 → s.cqEn n k = false → ∃ t, exec (.cqCfgWrite rq n k v) s = .next t ∧ t.rd (cqCfg n
      k) = v &&& 0x003FFFFF ∧ t.rd (cqStatus n k) = 0x00010000 ∧ t.rd (cqSeq n k) = 0 ∧ t.cqOf n k = CqSt.reset) ∧
  (∀ (s : State) (rq : Rq) (n : Fin 4) (k : Fin 9) (v : Word), s.reaches rq (cqCfg n k) → 4 ≤ getBits v 0 5 → getBits v
      0 5 ≤ 16 → getBits v 5 1 = 0 → s.cqEn n k = false → ∃ t, exec (.cqCfgWrite rq n k v) s = .next t ∧ t.rd (cqCfg n
      k) = v &&& 0x003FFFFF ∧ sameRegsBut [cqCfg n k] s t) ∧
  (∀ (s : State) (rq : Rq) (n : Fin 4) (k : Fin 9) (v : Word), s.reaches rq (cqCfg n k) → 4 ≤ getBits v 0 5 → getBits v
      0 5 ≤ 16 → getBits v 5 1 = 1 → s.cqEn n k = true → getBits v 0 5 = getBits (s.rd (cqCfg n k)) 0 5 → ∃ t, exec
      (.cqCfgWrite rq n k v) s = .next t ∧ t.rd (cqCfg n k) = v &&& 0x003FFFFF ∧ sameRegsBut [cqCfg n k] s t) ∧
  (∀ (s : State) (rq : Rq) (n : Fin 4) (k : Fin 9) (v : Word), s.reaches rq (cqCfg n k) → 4 ≤ getBits v 0 5 → getBits v
      0 5 ≤ 16 → getBits v 5 1 = 0 → s.cqEn n k = true → getBits v 0 5 = getBits (s.rd (cqCfg n k)) 0 5 → ∀ q : Fin 8,
      s.is (F.HIF_OD_SQ_CFG_EN n q) = false → ∃ t, exec (.cqCfgWrite rq n k v) s = .next t ∧ t.rd (cqCfg n k) = v &&&
      0x003FFFFF ∧ t.rd (cqStatus n k) = 0 ∧ t.rd (cqSeq n k) = 0 ∧ t.cqOf n k = CqSt.reset) ∧
  (∀ (s : State) (n : Fin 4) (tails : List Word) (heads : List Word) (rest : List Word), s.is (F.HIF_OD_CTL_EN n) = true
      → s.isolated regHost = false → (s.hifOf n).pollT ≠ some (s.pollInstant n) → ∃ t, exec (.doorbellPoll n tails heads
      rest) s = .next t ∧ (t.hifOf n).pollT = some (s.pollInstant n) ∧ (cuts 512 (s.addr64 (R.HIF_OD_DB_LO n)
      (R.HIF_OD_DB_HI n)) 256).all (fun c => decide (.hostRead n (s.addr64 (R.HIF_OD_DB_LO n) (R.HIF_OD_DB_HI n) + c.1)
      c.2 ∈ t.out)) = true) ∧
  (∀ (s : State) (n : Fin 4) (tails : List Word) (heads : List Word) (rest : List Word) (k : Fin 8), s.is
      (F.HIF_OD_CTL_EN n) = true → s.isolated regHost = false → (s.hifOf n).pollT ≠ some (s.pollInstant n) → ∀ j : Fin
      9, s.cqEn n j = false → s.is (F.HIF_OD_SQ_CFG_EN n k) = true → (s.sqOf n k).ignored = false → (s.sqOf n k).closing
      = false → doorWord (tails ++ heads ++ rest) (4 * k) < s.sqDepth n k → ((s.sqOf n k).tail + s.sqDepth n k - s.g
      (F.HIF_OD_SQ_STATUS_HEAD n k)) % s.sqDepth n k ≤ (doorWord (tails ++ heads ++ rest) (4 * k) + s.sqDepth n k - s.g
      (F.HIF_OD_SQ_STATUS_HEAD n k)) % s.sqDepth n k → ∃ t, exec (.doorbellPoll n tails heads rest) s = .next t ∧
      (t.sqOf n k).tail = doorWord (tails ++ heads ++ rest) (4 * k) ∧ (t.sqOf n k).ignored = false) ∧
  (∀ (s : State) (n : Fin 4) (tails : List Word) (heads : List Word) (rest : List Word) (k : Fin 8), s.is
      (F.HIF_OD_CTL_EN n) = true → s.isolated regHost = false → (s.hifOf n).pollT ≠ some (s.pollInstant n) → ∀ j : Fin
      9, s.cqEn n j = false → s.is (F.HIF_OD_SQ_CFG_EN n k) = true → (s.sqOf n k).ignored = false → (s.sqOf n k).closing
      = false → s.sqDepth n k ≤ doorWord (tails ++ heads ++ rest) (4 * k) → ∃ t, exec (.doorbellPoll n tails heads rest)
      s = .next t ∧ (t.sqOf n k).ignored = true ∧ t.is (F.HIF_OD_SQ_STATUS_TAIL_ERR n k) = true) ∧
  (∀ (s : State) (n : Fin 4) (tails : List Word) (heads : List Word) (rest : List Word) (k : Fin 9), s.is
      (F.HIF_OD_CTL_EN n) = true → s.isolated regHost = false → (s.hifOf n).pollT ≠ some (s.pollInstant n) → s.cqEn n k
      = true → k.val < 8 → (s.cqOf n k).wait = [] → ∃ t, exec (.doorbellPoll n tails heads rest) s = .next t ∧ (t.cqOf n
      k).head = doorWord (tails ++ heads ++ rest) (if k.val = 8 then 0x80 else 0x40 + 4 * k)) ∧
  (∀ (s : State) (n : Fin 4), s.is (F.HIF_OD_CTL_EN n) = true → s.isolated regHost = false → (s.hifOf n).hbTick + 250000
      * atLeast1 (s.g (F.HIF_OD_HB_HB_PERIOD n)) ≤ s.tb.ticks → s.hbRings n = [] → exec (.heartbeat n) s = .next
      (s.setHif n { s.hifOf n with hbTick := s.tb.ticks })) ∧
  (∀ (s : State) (n : Fin 4) (k : Fin 9), s.is (F.HIF_OD_CTL_EN n) = true → s.isolated regHost = false → (s.hifOf
      n).hbTick + 250000 * atLeast1 (s.g (F.HIF_OD_HB_HB_PERIOD n)) ≤ s.tb.ticks → s.hbRings n = [k.val] → s.pageDue n k
      = false → (if k.val = 8 then 0 else entriesFor (s.cqDepth n k) (s.pageLen n k) (s.reserved n k) ((s.cqTail n k +
      1) % s.cqDepth n k)) + 1 ≤ s.cqFree n k → ∃ t, exec (.heartbeat n) s = .next t ∧ (t.cqOf n k).readbacks.length =
      (s.cqOf n k).readbacks.length + 1 ∧ s.out.length + 2 ≤ t.out.length) ∧
  (∀ (s : State) (n : Fin 4) (k : Fin 9) (l : Nat × List Byte), s.is (F.HIF_OD_CTL_EN n) = true → s.isolated regHost =
      false → (s.hifOf n).hbTick + 250000 * atLeast1 (s.g (F.HIF_OD_HB_HB_PERIOD n)) ≤ s.tb.ticks → s.hbRings n =
      [k.val] → s.cqFree n k = 0 → (s.cqOf n k).last = some l → ∃ t, exec (.heartbeat n) s = .next t ∧ (t.cqOf n
      k).readbacks = (s.cqOf n k).readbacks ++ [(l.2, s.tb.ticks)] ∧ t.out = .hostRead n l.1 l.2.length :: s.out) ∧
  (∀ (s : State) (n : Fin 4) (k : Fin 9) (data : List Byte) (w : List Byte × Nat) (rest : List (List Byte × Nat)),
      (s.cqOf n k).readbacks = w :: rest → data = w.1 → ∃ t, exec (.heartbeatReadback n k false data) s = .next t ∧
      (t.cqOf n k).readbacks = rest ∧ t.regs = s.regs) ∧
  (∀ (s : State) (n : Fin 4) (k : Fin 9) (data : List Byte), (s.cqOf n k).readbacks ≠ [] → ∃ t, exec (.heartbeatReadback
      n k true data) s = .next t ∧ getBits (t.rd (cqStatus n k)) 17 1 = 1 ∧ getBits (t.rd (cqStatus n k)) 18 2 = 3 ∧
      (t.cqOf n k).readbacks = []) ∧
  (∀ (s : State) (n : Fin 4) (k : Fin 9) (data : List Byte) (w : List Byte × Nat) (rest : List (List Byte × Nat)),
      (s.cqOf n k).readbacks = w :: rest → data ≠ w.1 → ∃ t, exec (.heartbeatReadback n k false data) s = .next t ∧
      getBits (t.rd (cqStatus n k)) 17 1 = 1 ∧ getBits (t.rd (cqStatus n k)) 18 2 = 1 ∧ (t.cqOf n k).readbacks = []) ∧
  (∀ (s : State) (n : Fin 4) (k : Fin 9) (w : List Byte × Nat) (rest : List (List Byte × Nat)), (s.cqOf n k).readbacks =
      w :: rest → w.2 + 2500 * s.g (F.HIF_OD_HB_HB_TMO n) ≤ s.tb.ticks → ∃ t, exec (.heartbeatTimeout n k) s = .next t ∧
      getBits (t.rd (cqStatus n k)) 17 1 = 1 ∧ getBits (t.rd (cqStatus n k)) 18 2 = 2 ∧ (t.cqOf n k).readbacks = []) ∧
  (∀ (s : State) (n : Fin 4) (k : Fin 9) (v : Nat), (s.cqOf n k).due = some v → s.holdOver n k = true → s.isolated
      regHost = false → ∃ t, exec (.irqHoldEnd n k) s = .next t ∧ t.out = .msix n v :: s.out ∧ t.cqOf n k =
      { s.cqOf n k with due := none, sent := some s.tb.ticks } ∧ t.regs = s.regs) ∧
  (∀ (s : State) (n : Fin 4) (e : EvRec) (rest : List EvRec), s.evq n = e :: rest → s.cqWorks n 8 = true → s.isolated
      regHost = false → s.before n 8 e.full + 1 ≤ s.cqFree n 8 → ∃ t, exec (.eventRingDrain n) s = .next t ∧ t.evq n =
      rest)

/-- Each of these commands of the memory region completes under the conditions its clause gives. A class count is taken
while the pools are off and fit; a staging segment size while no copy runs. A start that no rule refuses makes its
channel busy with nothing done, and halts it where a side fails its check; a resume goes on with the transfer that
halted, and an abort ends it with reason 7. DONE ends a transfer whatever its source, and halts it at a poisoned
word or an isolated region; a halt shows its reason, its direction and its address after the bytes that moved. A
copy's segments add up; the last one, one after an abort, an error and an isolated region end the copy. A corrected
error that the scrubber meets is counted, one beyond correction poisons its word, and a sound word is done for the
period; a staging fault takes its stage out of use and halts every channel with reason 9. -/
def Obligations.MemoryAndDmaTakeEffect : Prop :=
  (∀ (s : State) (rq : Rq) (c : Fin 4) (v : Word), s.reaches rq (R.POOL_C_CFG c) → s.is F.MEM_CTL_POOL_EN = false →
      poolsFit (listSet ((List.range 4).map s.classCount) c (getBits v 0 22)) (s.g F.MEM_LAYOUT_CAP_AREA) = true → ∃ t,
      exec (.poolCountWrite rq c v) s = .next t ∧ t.classCount c = getBits v 0 22 ∧ sameRegsBut [R.POOL_C_CFG c] s t ∧
      sameBut [.regs] s t) ∧
  (∀ (s : State) (rq : Rq) (v : Word), s.reaches rq R.MEM_STAGE → s.copyBusy = false → getBits v 0 3 ≤ 4 → ∃ t, exec
      (.memSegWrite rq v) s = .next t ∧ t.g F.MEM_STAGE_SEG = getBits v 0 3 ∧ sameRegsBut [R.MEM_STAGE] s t ∧ sameBut
      [.regs] s t) ∧
  (∀ (s : State) (rq : Rq) (n : Fin 28), s.reaches rq (R.DMA_CTL n) → getBits (s.rd (R.DMA_CTL n)) 7 2 ≠ 3 → s.startBad
      n (s.is (F.DMA_STATUS_BUSY n)) (getBits (s.rd (R.DMA_CTL n)) 3 2) (getBits (s.rd (R.DMA_CTL n)) 5 2) = false →
      s.sideErr n (s.dmaAsked n).src (s.dmaAsked n).count = none → s.sideErr n (s.dmaAsked n).dst ((s.dmaAsked n).count
      + csumLen (s.dmaAsked n).csum (s.dmaAsked n).append) = none → ∃ t, exec (.dmaStart rq n) s = .next t ∧ t.is
      (F.DMA_STATUS_BUSY n) = true ∧ t.is (F.DMA_STATUS_HALTED n) = false ∧ t.is (F.DMA_STATUS_DONE n) = false ∧ t.rd
      (R.DMA_DONE_BYTES n) = 0 ∧ t.rd (R.DMA_CSUM n) = 0 ∧ t.dmaLive n = some (s.dmaAsked n)) ∧
  (∀ (s : State) (rq : Rq) (n : Fin 28) (e : Nat), s.reaches rq (R.DMA_CTL n) → getBits (s.rd (R.DMA_CTL n)) 7 2 ≠ 3 →
      s.startBad n (s.is (F.DMA_STATUS_BUSY n)) (getBits (s.rd (R.DMA_CTL n)) 3 2) (getBits (s.rd (R.DMA_CTL n)) 5 2) =
      false → s.sideErr n (s.dmaAsked n).src (s.dmaAsked n).count = some e → e < 16 → ∃ t, exec (.dmaStart rq n) s =
      .next t ∧ t.is (F.DMA_STATUS_BUSY n) = false ∧ t.is (F.DMA_STATUS_HALTED n) = true ∧ t.g (F.DMA_STATUS_REASON n) =
      e ∧ t.is (F.DMA_STATUS_ERR_DIR n) = false) ∧
  (∀ (s : State) (rq : Rq) (n : Fin 28) (r : DmaRun), s.reaches rq (R.DMA_CTL n) → getBits (s.rd (R.DMA_CTL n)) 7 2 ≠ 3
      → s.is (F.DMA_STATUS_HALTED n) = true → s.dmaLive n = some r → s.sideErr n r.src r.count = none → s.sideErr n
      r.dst (r.count + csumLen r.csum r.append) = none → ∃ t, exec (.dmaResume rq n) s = .next t ∧ t.is
      (F.DMA_STATUS_BUSY n) = true ∧ t.is (F.DMA_STATUS_HALTED n) = false ∧ t.rd (R.DMA_DONE_BYTES n) = s.rd
      (R.DMA_DONE_BYTES n) ∧ t.dmaLive n = some r) ∧
  (∀ (s : State) (rq : Rq) (n : Fin 28), s.reaches rq (R.DMA_CTL n) → getBits (s.rd (R.DMA_CTL n)) 7 2 ≠ 3 → s.is
      (F.DMA_STATUS_BUSY n) = true ∨ s.is (F.DMA_STATUS_HALTED n) = true → ∃ t, exec (.dmaAbort rq n) s = .next t ∧ t.is
      (F.DMA_STATUS_BUSY n) = false ∧ t.is (F.DMA_STATUS_HALTED n) = false ∧ t.g (F.DMA_STATUS_REASON n) = 7 ∧ t.dmaLive
      n = none) ∧
  (∀ (s : State) (n : Fin 28) (data : List Byte) (fixed : Nat), s.is (F.DMA_STATUS_BUSY n) = true → s.dataFits n
      (s.dmaLeft n) data = true → s.srcIsolated (s.dmaSrc n) = false → s.dmaWaits n = false → s.sidePoison (s.dmaSrc n)
      (s.rd (R.DMA_DONE_BYTES n)).toNat (s.dmaLeft n) = none → (s.rd (R.DMA_DONE_BYTES n)).toNat ≤ ((s.dmaLive n).getD
      (s.dmaAsked n)).count → ((s.dmaLive n).getD (s.dmaAsked n)).count < 2 ^ 32 → ∃ t, exec (.dmaDone n ⟨data, fixed⟩)
      s = .next t ∧ t.is (F.DMA_STATUS_BUSY n) = false ∧ t.is (F.DMA_STATUS_DONE n) = true ∧ t.g (F.DMA_STATUS_REASON n)
      = s.g (F.DMA_STATUS_REASON n) ∧ (t.rd (R.DMA_DONE_BYTES n)).toNat = ((s.dmaLive n).getD (s.dmaAsked n)).count ∧
      t.dmaLive n = none) ∧
  (∀ (s : State) (n : Fin 28) (data : List Byte) (fixed : Nat), s.is (F.DMA_STATUS_BUSY n) = true → s.dataFits n
      (s.dmaLeft n) data = true → s.srcIsolated (s.dmaSrc n) = true → ∃ t, exec (.dmaDone n ⟨data, fixed⟩) s = .next t ∧
      t.is (F.DMA_STATUS_BUSY n) = false ∧ t.is (F.DMA_STATUS_HALTED n) = true ∧ t.g (F.DMA_STATUS_REASON n) = 4 ∧ t.rd
      (R.DMA_ERR_ADDR_LO n) = BitVec.ofNat 32 ((s.dmaSrc n).addr + (s.rd (R.DMA_DONE_BYTES n)).toNat) ∧ t.rd
      (R.DMA_DONE_BYTES n) = s.rd (R.DMA_DONE_BYTES n)) ∧
  (∀ (s : State) (n : Fin 28) (data : List Byte) (fixed : Nat) (a : Nat), s.is (F.DMA_STATUS_BUSY n) = true → s.dataFits
      n (s.dmaLeft n) data = true → s.srcIsolated (s.dmaSrc n) = false → s.dmaWaits n = false → s.sidePoison (s.dmaSrc
      n) (s.rd (R.DMA_DONE_BYTES n)).toNat (s.dmaLeft n) = some a → ∃ t, exec (.dmaDone n ⟨data, fixed⟩) s = .next t ∧
      t.is (F.DMA_STATUS_BUSY n) = false ∧ t.is (F.DMA_STATUS_HALTED n) = true ∧ t.g (F.DMA_STATUS_REASON n) = 3 ∧ t.is
      (F.DMA_STATUS_ERR_DIR n) = false ∧ t.rd (R.DMA_ERR_ADDR_LO n) = BitVec.ofNat 32 a) ∧
  (∀ (s : State) (n : Fin 28) (data : List Byte) (fixed : Nat), s.srcIsolated (s.dmaSrc n) = false → s.clk.memWait =
      true → (s.dmaSrc n).space = 1 ∨ (s.dmaDst n).space = 1 → exec (.dmaDone n ⟨data, fixed⟩) s = .next s) ∧
  (∀ (s : State) (n : Fin 28) (reason : Fin 16) (write : Bool) (addr : BitVec 64) (moved : Nat) (data : List Byte)
      (fixed : Nat), s.is (F.DMA_STATUS_BUSY n) = true → s.dmaWaits n = false → moved ≤ s.dmaLeft n → s.dataFits n moved
      data = true → [1, 2, 3, 4, 8].contains reason.val = true → s.srcIsolated (s.dmaSrc n) = false → s.sidePoison
      (s.dmaSrc n) (s.rd (R.DMA_DONE_BYTES n)).toNat moved = none → ∃ t, exec (.dmaHalt n reason write addr moved ⟨data,
      fixed⟩) s = .next t ∧ t.is (F.DMA_STATUS_BUSY n) = false ∧ t.is (F.DMA_STATUS_HALTED n) = true ∧ t.g
      (F.DMA_STATUS_REASON n) = reason ∧ t.is (F.DMA_STATUS_ERR_DIR n) = write ∧ t.rd (R.DMA_ERR_ADDR_LO n) =
      BitVec.ofNat 32 addr.toNat ∧ t.rd (R.DMA_DONE_BYTES n) = BitVec.ofNat 32 ((s.rd (R.DMA_DONE_BYTES n)).toNat +
      moved)) ∧
  (∀ (s : State) (c : Fin 4) (data : List Byte) (x : CopyRun) (fixed : Nat), s.ipm.copies[c.val]? = some (some x) →
      s.isolated regMemory = false → s.clk.memWait = false → x.req.out = false → data.length = min s.segSize (x.req.len
      - x.segs * s.segSize) → s.isolated regHost = false → x.abort = false → x.segs * s.segSize + data.length <
      x.req.len → ∃ t, exec (.copySegmentDone c (.done ⟨data, fixed⟩)) s = .next t ∧ t.ipm.copies[c.val]? = some (some
      { x with segs := x.segs + 1, csum := x.csum.bytes data }) ∧ t.regs = s.regs) ∧
  (∀ (s : State) (c : Fin 4) (data : List Byte) (x : CopyRun) (fixed : Nat), s.ipm.copies[c.val]? = some (some x) →
      s.isolated regMemory = false → s.clk.memWait = false → s.ipm.waiting = [] → x.req.out = false → data.length = min
      s.segSize (x.req.len - x.segs * s.segSize) → s.isolated regHost = false → x.abort = false → x.req.len ≤ x.segs *
      s.segSize + data.length → ∃ t, exec (.copySegmentDone c (.done ⟨data, fixed⟩)) s = .next t ∧ t.ipm.copies[c.val]?
      = some none ∧ t.ipm.waiting = []) ∧
  (∀ (s : State) (c : Fin 4) (data : List Byte) (x : CopyRun) (fixed : Nat), s.ipm.copies[c.val]? = some (some x) →
      s.isolated regMemory = false → s.clk.memWait = false → x.req.out = true → s.ipmPoison (s.bufAddr x.req.handle +
      x.req.off + x.segs * s.segSize) (min s.segSize (x.req.len - x.segs * s.segSize)) = none → x.abort = false → x.segs
      * s.segSize + min s.segSize (x.req.len - x.segs * s.segSize) < x.req.len → ∃ t, exec (.copySegmentDone c (.done
      ⟨data, fixed⟩)) s = .next t ∧ (t.ipm.copies[c.val]?).map (fun y => y.map (fun y => y.segs)) = some (some (x.segs +
      1)) ∧ ((t.ipm.copies[c.val]?).map (fun y => y.map (fun y => y.req)) = some (some x.req))) ∧
  (∀ (s : State) (c : Fin 4) (data : List Byte) (x : CopyRun) (fixed : Nat), s.ipm.copies[c.val]? = some (some x) →
      s.isolated regMemory = false → s.clk.memWait = false → s.ipm.waiting = [] → x.req.out = true → s.ipmPoison
      (s.bufAddr x.req.handle + x.req.off + x.segs * s.segSize) (min s.segSize (x.req.len - x.segs * s.segSize)) = none
      → x.abort = false → x.req.len ≤ x.segs * s.segSize + min s.segSize (x.req.len - x.segs * s.segSize) → ∃ t, exec
      (.copySegmentDone c (.done ⟨data, fixed⟩)) s = .next t ∧ t.ipm.copies[c.val]? = some none ∧ t.ipm.waiting = []) ∧
  (∀ (s : State) (c : Fin 4) (data : List Byte) (x : CopyRun) (fixed : Nat), s.ipm.copies[c.val]? = some (some x) →
      s.isolated regMemory = false → s.clk.memWait = false → s.ipm.waiting = [] → x.req.out = false → data.length = min
      s.segSize (x.req.len - x.segs * s.segSize) → s.isolated regHost = false → x.abort = true → ∃ t, exec
      (.copySegmentDone c (.done ⟨data, fixed⟩)) s = .next t ∧ t.ipm.copies[c.val]? = some none ∧ t.ipm.waiting = []) ∧
  (∀ (s : State) (c : Fin 4) (data : List Byte) (x : CopyRun) (fixed : Nat), s.ipm.copies[c.val]? = some (some x) →
      s.isolated regMemory = false → s.clk.memWait = true → exec (.copySegmentDone c (.done ⟨data, fixed⟩)) s = .next s) ∧
  (∀ (s : State) (c : Fin 4) (x : CopyRun), s.ipm.copies[c.val]? = some (some x) → s.isolated regMemory = false →
      s.ipm.waiting = [] → ∃ t, exec (.copySegmentDone c .hostError) s = .next t ∧ t.ipm.copies[c.val]? = some none ∧
      t.ipm.waiting = []) ∧
  (∀ (s : State) (c : Fin 4) (x : CopyRun), s.ipm.copies[c.val]? = some (some x) → s.isolated regMemory = false →
      s.ipm.waiting = [] → ∃ t, exec (.copySegmentDone c .dataError) s = .next t ∧ t.ipm.copies[c.val]? = some none ∧
      t.ipm.waiting = []) ∧
  (∀ (s : State) (c : Fin 4) (res : SegEnd) (x : CopyRun), s.ipm.copies[c.val]? = some (some x) → s.isolated regMemory =
      true → s.ipm.waiting = [] → ∃ t, exec (.copySegmentDone c res) s = .next t ∧ t.ipm.copies[c.val]? = some none ∧
      t.ipm.waiting = []) ∧
  (∀ (s : State) (word : Nat), s.is F.MEM_CTL_SCRUB_EN = true → word < storeWords true → s.scrubDue (2 * word + bit
      true) = true → ∃ t, exec (.patrolScrub true word true false) s = .next t ∧ t.is F.MEM_STATUS_IPM_CORR = true ∧ t.g
      F.MEM_ECC_CNT_IPM = satAdd F.MEM_ECC_CNT_IPM.w (s.g F.MEM_ECC_CNT_IPM) 1 ∧ t.ipm.poison = s.ipm.poison) ∧
  (∀ (s : State) (word : Nat), s.is F.MEM_CTL_SCRUB_EN = true → word < storeWords false → s.scrubDue (2 * word + bit
      false) = true → ∃ t, exec (.patrolScrub false word true false) s = .next t ∧ t.is F.MEM_STATUS_SRAM_CORR = true ∧
      t.g F.MEM_ECC_CNT_SRAM = satAdd F.MEM_ECC_CNT_SRAM.w (s.g F.MEM_ECC_CNT_SRAM) 1 ∧ t.ipm.poison = s.ipm.poison) ∧
  (∀ (s : State) (ipm : Bool) (word : Nat) (corrected : Bool), s.is F.MEM_CTL_SCRUB_EN = true → word < storeWords ipm →
      s.scrubDue (2 * word + bit ipm) = true → ∃ t, exec (.patrolScrub ipm word corrected true) s = .next t ∧ t.is
      F.MEM_STATUS_POISONED = true ∧ 2 * word + bit ipm ∈ t.ipm.poison) ∧
  (∀ (s : State) (ipm : Bool) (word : Nat), s.is F.MEM_CTL_SCRUB_EN = true → word < storeWords ipm → s.scrubDue (2 *
      word + bit ipm) = true → ∃ t, exec (.patrolScrub ipm word false false) s = .next t ∧ t.regs = s.regs ∧
      t.ipm.poison = s.ipm.poison ∧ t.scrubDue (2 * word + bit ipm) = s.mg.ledger.any (fun e => e.activity == 9)) ∧
  (∀ (s : State) (c : Fin 4), ∃ t, exec (.stagingFault c) s = .next t ∧ testBit (t.g F.MEM_STAGE_SOUND) c = false ∧ t.is
      F.MEM_STATUS_STAGE_FAULT = true) ∧
  (∀ (s : State) (c : Fin 4) (n : Fin 32), s.is (F.DMA_STATUS_HALTED n) = false → ∃ t, exec (.stagingFault c) s = .next
      t ∧ t.is (F.DMA_STATUS_BUSY n) = false ∧ t.is (F.DMA_STATUS_HALTED n) = true ∧ t.g (F.DMA_STATUS_REASON n) = 9 ∧
      testBit (t.g F.GLB_REGION_STATE_CLUSTER_FAULT_SEEN) regMemory = true)

/-- Each of these commands of capture completes under the conditions its clause gives. A binding that may change takes
its fields, with EN or without; arming a session at rest that has no arming error resets its counts and brings it to
PRE, or to ROLL; STOP ends a running session, which AUTO_UNLOAD unloads; UNLOAD of a finished one begins. A forced
or launched trigger hits each condition of its KIND, a launched sample latches a row at the action's instant, and
neither does more where the session does not take it. A row that is due is stored and counted, before the trigger,
with it, after it up to the last, and in a roll; one that follows too soon is counted as skipped, one beyond the
capacity may be lost with GAP. An envelope commit begins the load, whose end shows in ENV_STATE; the end of an
unload, and its error, show; a channel fault sets FAULT and records one event. -/
def Obligations.CaptureCommandsTakeEffect : Prop :=
  (∀ (s : State) (rq : Rq) (k : Fin 64) (v : Word), s.reaches rq (R.CAP_BIND k) → s.capBusy k = false → s.bindBad k v =
      false → getBits v 0 1 = 0 → ∃ t, exec (.capBindWrite rq k v) s = .next t ∧ t.is (F.CAP_BIND_EN k) = false ∧ t.g
      (F.CAP_BIND_SESSION k) = getBits v 1 2 ∧ t.g (F.CAP_BIND_SRC k) = getBits v 3 4 ∧ t.g (F.CAP_BIND_INST k) =
      getBits v 7 8 ∧ t.g (F.CAP_BIND_SEL k) = getBits v 15 12 ∧ sameRegsBut [R.CAP_BIND k] s t) ∧
  (∀ (s : State) (rq : Rq) (k : Fin 64) (v : Word), s.reaches rq (R.CAP_BIND k) → s.capBusy k = false → s.bindBad k v =
      false → getBits v 0 1 = 1 → s.capIdle (getBits v 1 2) = true → ∃ t, exec (.capBindWrite rq k v) s = .next t ∧ t.is
      (F.CAP_BIND_EN k) = true ∧ t.g (F.CAP_BIND_SESSION k) = getBits v 1 2 ∧ t.g (F.CAP_BIND_SRC k) = getBits v 3 4 ∧
      t.g (F.CAP_BIND_INST k) = getBits v 7 8 ∧ t.g (F.CAP_BIND_SEL k) = getBits v 15 12 ∧ sameRegsBut [R.CAP_BIND k] s
      t) ∧
  (∀ (s : State) (rq : Rq) (c : Fin 4), s.reaches rq (R.CS_CMD c) → s.capIdle c = true → s.armErr c = 0 → ∃ t, exec
      (.captureArm rq c) s = .next t ∧ t.capState c = (if s.is (F.CS_CFG_MODE c) then 5 else 1) ∧ t.rd (R.CS_ROWS c) = 0
      ∧ t.g (F.CS_STATUS_ARM_ERR c) = 0 ∧ (t.capOf c).total = 0 ∧ (t.capOf c).chans = s.capChans c) ∧
  (∀ (s : State) (rq : Rq) (c : Fin 4), s.reaches rq (R.CS_CMD c) → s.capRuns c = true → s.is (F.CS_CFG_AUTO_UNLOAD c) =
      false → ∃ t, exec (.captureStop rq c) s = .next t ∧ t.capState c = 3 ∧ s.evt.detected.length <
      t.evt.detected.length ∧ t.is (F.CS_STATUS_STOPPED c) = true ∧ (t.capOf c).latches = [] ∧ (t.capOf c).hits = []) ∧
  (∀ (s : State) (rq : Rq) (c : Fin 4), s.reaches rq (R.CS_CMD c) → s.capRuns c = true → s.is (F.CS_CFG_AUTO_UNLOAD c) =
      true → s.unloadErr c = 0 → ∃ t, exec (.captureStop rq c) s = .next t ∧ t.capState c = 4 ∧ t.is
      (F.CS_STATUS_STOPPED c) = true ∧ (t.capOf c).latches = [] ∧ (t.capOf c).hits = []) ∧
  (∀ (s : State) (rq : Rq) (c : Fin 4) (i : Fin 8), s.reaches rq (R.CS_CMD c) → s.capRuns c = true → s.g
      (F.CS_TRG_CFG_KIND c i) = 7 → ∃ t, exec (.captureForce rq c) s = .next t ∧ (s.tb.ticks * 262144, i.val) ∈ (t.capOf
      c).hits ∧ t.regs = s.regs) ∧
  (∀ (s : State) (rq : Rq) (c : Fin 4), s.reaches rq (R.CS_CMD c) → s.capState c = 3 → s.unloadErr c = 0 → ∃ t, exec
      (.captureUnload rq c) s = .next t ∧ t.capState c = 4 ∧ t.g (F.CS_STATUS_UNLOAD_ERR c) = 0) ∧
  (∀ (s : State) (c : Fin 4) (i : Fin 8) (h : Held) (rest : List Held), s.firstDue s.held = some (h, rest) → h.e.code =
      0x41 → h.e.target = c → s.capRuns c = true → s.g (F.CS_TRG_CFG_KIND c i) = 6 → ∃ t, exec (.captureTrigger c) s =
      .next t ∧ (s.elapsedAt (s.instant h), i.val) ∈ (t.capOf c).hits ∧ t.held = rest ∧ t.regs = s.regs) ∧
  (∀ (s : State) (c : Fin 4) (h : Held) (rest : List Held), s.firstDue s.held = some (h, rest) → h.e.code = 0x13 →
      h.e.target = c → s.capRuns c = true → s.g (F.CS_CFG_SRC c) = 1 → ∃ t, exec (.captureSample c) s = .next t ∧
      (t.capOf c).latches = (s.capOf c).latches ++ [(s.elapsedAt (s.instant h), s.instant h)] ∧ t.held = rest ∧ t.regs =
      s.regs) ∧
  (∀ (s : State) (c : Fin 4) (h : Held) (rest : List Held), s.firstDue s.held = some (h, rest) → h.e.code = 0x41 →
      h.e.target = c → s.capRuns c = false → ∃ t, exec (.captureTrigger c) s = .next t ∧ t = ({ s with held := rest } :
      State)) ∧
  (∀ (s : State) (c : Fin 4) (h : Held) (rest : List Held), s.firstDue s.held = some (h, rest) → h.e.code = 0x13 →
      h.e.target = c → (s.capRuns c && s.g (F.CS_CFG_SRC c) == 1) = false → ∃ t, exec (.captureSample c) s = .next t ∧ t
      = ({ s with held := rest } : State)) ∧
  (∀ (s : State) (c : Fin 4) (tm : Nat) (stamp : Nat) (rest : List (Nat × Nat)), (s.capOf c).latches = (tm, stamp) ::
      rest → s.capState c = 1 → tm < (s.tb.ticks + 1) * 262144 → (s.capOf c).last = none → s.capLoad ≤ 256000000 →
      (s.capOf c).total < (s.capOf c).pre → ∃ t, exec (.captureRowLatch c) s = .next t ∧ (t.capOf c).latches = rest ∧
      (t.capOf c).total = (s.capOf c).total + 1 ∧ (t.capOf c).last = some tm ∧ t.capState c = 1) ∧
  (∀ (s : State) (c : Fin 4) (tm : Nat) (stamp : Nat) (rest : List (Nat × Nat)), (s.capOf c).latches = (tm, stamp) ::
      rest → s.capRuns c = true → tm < (s.tb.ticks + 1) * 262144 → (s.capOf c).last.any (fun l => decide (tm < l + 1000
      * 65536)) = true → ∃ t, exec (.captureRowLatch c) s = .next t ∧ (t.capOf c).latches = rest ∧ t.g
      (F.CS_COUNT_SKIPPED c) = satAdd (F.CS_COUNT_SKIPPED c).w (s.g (F.CS_COUNT_SKIPPED c)) 1 ∧ (t.capOf c).total =
      (s.capOf c).total) ∧
  (∀ (s : State) (c : Fin 4) (tm : Nat) (stamp : Nat) (rest : List (Nat × Nat)), (s.capOf c).latches = (tm, stamp) ::
      rest → s.capRuns c = true → tm < (s.tb.ticks + 1) * 262144 → (s.capOf c).last.all (fun l => decide (l + 1000 *
      65536 ≤ tm)) = true → 256000000 < (s.setCap c
      { s.capOf c with latches := rest, last := some tm, gap := (match (s.capOf c).last with | some l => tm - l | none => 0) }).capLoad
      → ∃ t, exec (.captureRowLatch c) s = .next t ∧ (t.capOf c).total = (s.capOf c).total + (if s.freshBool then 0 else
      1) ∧ (s.freshBool = true → (t.capOf c).latches = rest ∧ (t.capOf c).lost = (s.capOf c).lost + 1 ∧ t.is
      (F.CS_STATUS_GAP c) = true)) ∧
  (∀ (s : State) (c : Fin 4) (tm : Nat) (stamp : Nat) (rest : List (Nat × Nat)), (s.capOf c).latches = (tm, stamp) ::
      rest → tm < (s.tb.ticks + 1) * 262144 → (s.capOf c).last.all (fun l => decide (l + 1000 * 65536 ≤ tm)) = true →
      (s.setCap c
      { s.capOf c with latches := rest, last := some tm, gap := (match (s.capOf c).last with | some l => tm - l | none => 0) }).capLoad
      ≤ 256000000 → s.capState c = 1 → (s.capOf c).pre ≤ (s.capOf c).total → (s.capOf c).hitsAt tm ≠ 0 → (s.maskFails
      stamp (some 0) (s.capOf c).chans ((s.rowValues stamp (s.capOf c).chans).2.map Word.int)) = [] → (s.capOf c).post ≠
      0 → ∃ t, exec (.captureRowLatch c) s = .next t ∧ (t.capOf c).latches = rest ∧ (t.capOf c).total = (s.capOf
      c).total + 1 ∧ (t.capOf c).trig = some (s.capOf c).total ∧ (t.capOf c).after = 0 ∧ t.capState c = 2) ∧
  (∀ (s : State) (c : Fin 4) (tm : Nat) (stamp : Nat) (rest : List (Nat × Nat)), (s.capOf c).latches = (tm, stamp) ::
      rest → tm < (s.tb.ticks + 1) * 262144 → (s.capOf c).last.all (fun l => decide (l + 1000 * 65536 ≤ tm)) = true →
      (s.setCap c
      { s.capOf c with latches := rest, last := some tm, gap := (match (s.capOf c).last with | some l => tm - l | none => 0) }).capLoad
      ≤ 256000000 → s.capState c = 2 → (s.maskFails stamp (some ((s.capOf c).after + 1)) (s.capOf c).chans ((s.rowValues
      stamp (s.capOf c).chans).2.map Word.int)) = [] → (s.capOf c).after + 1 < (s.capOf c).post → ∃ t, exec
      (.captureRowLatch c) s = .next t ∧ (t.capOf c).latches = rest ∧ (t.capOf c).total = (s.capOf c).total + 1 ∧
      (t.capOf c).after = (s.capOf c).after + 1 ∧ t.capState c = 2) ∧
  (∀ (s : State) (c : Fin 4) (tm : Nat) (stamp : Nat) (rest : List (Nat × Nat)), (s.capOf c).latches = (tm, stamp) ::
      rest → tm < (s.tb.ticks + 1) * 262144 → (s.capOf c).last.all (fun l => decide (l + 1000 * 65536 ≤ tm)) = true →
      (s.setCap c
      { s.capOf c with latches := rest, last := some tm, gap := (match (s.capOf c).last with | some l => tm - l | none => 0) }).capLoad
      ≤ 256000000 → s.capState c = 2 → (s.maskFails stamp (some ((s.capOf c).after + 1)) (s.capOf c).chans ((s.rowValues
      stamp (s.capOf c).chans).2.map Word.int)) = [] → (s.capOf c).post ≤ (s.capOf c).after + 1 → s.is
      (F.CS_CFG_AUTO_UNLOAD c) = false → ∃ t, exec (.captureRowLatch c) s = .next t ∧ (t.capOf c).latches = [] ∧
      (t.capOf c).total = (s.capOf c).total + 1 ∧ (t.capOf c).after = (s.capOf c).after + 1 ∧ t.capState c = 3) ∧
  (∀ (s : State) (c : Fin 4) (tm : Nat) (stamp : Nat) (rest : List (Nat × Nat)), (s.capOf c).latches = (tm, stamp) ::
      rest → tm < (s.tb.ticks + 1) * 262144 → (s.capOf c).last.all (fun l => decide (l + 1000 * 65536 ≤ tm)) = true →
      (s.setCap c
      { s.capOf c with latches := rest, last := some tm, gap := (match (s.capOf c).last with | some l => tm - l | none => 0) }).capLoad
      ≤ 256000000 → s.capState c = 5 → (s.capOf c).trig = none → (s.capOf c).hitsAt tm = 0 → ∀ i : Fin 8, s.condHit c i
      (s.capOf c).chans (s.capOf c).prev ((s.rowValues stamp (s.capOf c).chans).2.map Word.int) = false → (s.maskFails
      stamp none (s.capOf c).chans ((s.rowValues stamp (s.capOf c).chans).2.map Word.int)) = [] → ∃ t, exec
      (.captureRowLatch c) s = .next t ∧ (t.capOf c).latches = rest ∧ (t.capOf c).total = (s.capOf c).total + 1 ∧
      (t.capOf c).trig = none ∧ t.capState c = 5) ∧
  (∀ (s : State) (c : Fin 4) (tm : Nat) (stamp : Nat) (rest : List (Nat × Nat)), (s.capOf c).latches = (tm, stamp) ::
      rest → tm < (s.tb.ticks + 1) * 262144 → (s.capOf c).last.all (fun l => decide (l + 1000 * 65536 ≤ tm)) = true →
      (s.setCap c
      { s.capOf c with latches := rest, last := some tm, gap := (match (s.capOf c).last with | some l => tm - l | none => 0) }).capLoad
      ≤ 256000000 → s.capState c = 5 → (s.capOf c).trig = none → (s.capOf c).hitsAt tm ≠ 0 → ∃ t, exec (.captureRowLatch
      c) s = .next t ∧ (t.capOf c).latches = rest ∧ (t.capOf c).total = (s.capOf c).total + 1 ∧ (t.capOf c).trig = some
      (s.capOf c).total ∧ t.capState c = 5) ∧
  (∀ (s : State) (rq : Rq) (k : Fin 64), s.reaches rq (R.CAP_ENV k) → s.capBusy k = false → s.handleErr (s.holder
      (.capChan k)).poolCode false (s.rd (R.CAP_ENV_HANDLE k)) = none → 2 ≤ s.g (F.CAP_ENV_N k) → s.g (F.CAP_ENV_N k) ≤
      4096 → 8 * s.g (F.CAP_ENV_N k) ≤ classSize (handleClass (s.rd (R.CAP_ENV_HANDLE k))) → ∃ t, exec (.envCommit rq k)
      s = .next t ∧ t.g (F.CAP_STATUS_ENV_STATE k) = 1 ∧ t.g (F.CAP_STATUS_ENV_ERR k) = 0) ∧
  (∀ (s : State) (k : Fin 64), s.g (F.CAP_STATUS_ENV_STATE k) = 1 → s.ipmPoison (s.bufAddr (s.envOf k).handle) (8 *
      (s.envOf k).n) = none → ∃ t, exec (.envLoadDone k true) s = .next t ∧ t.g (F.CAP_STATUS_ENV_STATE k) = 2 ∧
      sameRegsBut [R.CAP_STATUS k] s t) ∧
  (∀ (s : State) (k : Fin 64), s.g (F.CAP_STATUS_ENV_STATE k) = 1 → ∃ t, exec (.envLoadDone k false) s = .next t ∧ t.g
      (F.CAP_STATUS_ENV_STATE k) = 3 ∧ t.g (F.CAP_STATUS_ENV_ERR k) = 4) ∧
  (∀ (s : State) (c : Fin 4), s.capState c = 4 → s.clk.memWait = false → s.ipmPoison (s.capBase c) (64 + (s.capOf
      c).rows * rowSize (s.capOf c).chans.length) = none → ∃ t, exec (.unloadDone c none) s = .next t ∧ t.capState c = 3
      ∧ t.is (F.CS_STATUS_UNLOADED c) = true) ∧
  (∀ (s : State) (c : Fin 4) (r : Fin 16) (a : BitVec 64), s.capState c = 4 → s.clk.memWait = false → ∃ t, exec
      (.unloadDone c (some (r, a))) s = .next t ∧ t.capState c = 3 ∧ t.g (F.CS_STATUS_UNLOAD_ERR c) = 3 ∧ t.is
      (F.DMA_STATUS_HALTED (s.g (F.CS_CFG_DMA c))) = true) ∧
  (∀ (s : State) (k : Fin 64), s.is (F.CAP_STATUS_FAULT k) = false → ∃ t, exec (.captureChannelFault k) s = .next t ∧
      t.is (F.CAP_STATUS_FAULT k) = true ∧ sameRegsBut [R.CAP_STATUS k] s t ∧ t.evt.detected.length =
      s.evt.detected.length + 1)

/-- Each of these commands and events of the plant ports completes under the conditions its clause gives. A
configuration write takes its fields while the link is down, and one that changes MODE, SPEED or AN_EN while it is
up is refused; a link goes down, and comes up at a rate of its mode with its alignment; a verification ends. A
received frame that is bad, too short or too long is stomped; the first stranger of a hold is counted, recorded and
reported and teaches the switch nothing, a further one is only counted, and one whose ICV fails is stomped too; the
hold ends after its time, with one event where strangers came in it; a good frame is learned and handled, and the
address of a new source is kept. An aged entry goes; a key is installed with packet number 1; MDIO starts and ends
an access; a port fault stops the port. -/
def Obligations.PlantEthernetPortsFollowTheirRules : Prop :=
  (∀ (s : State) (rq : Rq) (p : Fin 2) (v : Word), s.reaches rq (R.ETH_CFG p) → inRange (R.ETH_CFG p) v = true → s.is
      (F.ETH_STATUS_LINK p) = false → ∃ t, exec (.ethCfgWrite rq p v) s = .next t ∧ t.g (F.ETH_CFG_EN p) = getBits v 0 1
      ∧ t.g (F.ETH_CFG_MODE p) = getBits v 1 2 ∧ t.g (F.ETH_CFG_SPEED p) = getBits v 3 1 ∧ t.g (F.ETH_CFG_AN_EN p) =
      getBits v 4 1 ∧ t.g (F.ETH_CFG_MACSEC_EN p) = getBits v 5 1 ∧ sameRegsBut [R.ETH_CFG p] s t) ∧
  (∀ (s : State) (rq : Rq) (p : Fin 2) (v : Word), s.reaches rq (R.ETH_CFG p) → s.is (F.ETH_STATUS_LINK p) = true →
      getBits v 1 4 ≠ getBits (s.rd (R.ETH_CFG p)) 1 4 → ∃ t, exec (.ethCfgWrite rq p v) s = .next t ∧ t.is
      (F.ETH_STATUS_CFG_REFUSED p) = true ∧ sameRegsBut [R.ETH_STATUS p] s t ∧ sameBut [.regs] s t) ∧
  (∀ (s : State) (p : Fin 2) (rate : Fin 3) (align : Fin 65536), s.is (F.ETH_STATUS_LINK p) = true → ∃ t, exec
      (.ethLinkChange p false ⟨rate, align⟩) s = .next t ∧ t.is (F.ETH_STATUS_LINK p) = false ∧ (t.ethOf p).cur = none ∧
      (t.ethOf p).held = none ∧ t.evt.detected.length = s.evt.detected.length + 1) ∧
  (∀ (s : State) (p : Fin 2) (rate : Fin 3) (align : Fin 65536), s.is (F.ETH_CFG_EN p) = true → s.rateFits p rate = true
      → s.is (F.ETH_STATUS_LINK p) = false → s.clk.netDown = false → ∃ t, exec (.ethLinkChange p true ⟨rate, align⟩) s =
      .next t ∧ t.is (F.ETH_STATUS_LINK p) = true ∧ t.g (F.ETH_STATUS_RATE p) = rate.val ∧ (t.ethOf p).align = 64 *
      align.val ∧ t.evt.detected.length = s.evt.detected.length + 1) ∧
  (∀ (s : State) (p : Fin 2) (ok : Bool), s.g (F.ETH_STATUS_VERIFY p) = 1 → ∃ t, exec (.preemptVerifyDone p ok) s =
      .next t ∧ t.g (F.ETH_STATUS_VERIFY p) = (if ok then 2 else 3) ∧ sameRegsBut [R.ETH_STATUS p] s t ∧ sameBut [.regs]
      s t) ∧
  (∀ (s : State) (p : Fin 2) (f : RxFrame), s.is (F.ETH_STATUS_LINK p) = true → s.is (F.ETH_CFG_EN p) = true → f.good =
      true → 64 ≤ f.wire → f.wire ≤ 2000 → s.stranger p f ≠ 0 → s.stranger p f ≠ 3 → (s.ethOf p).hold = false → ∃ t,
      exec (.frameReceived p f) s = .next t ∧ t.g (F.MSEC_STRANGER_COUNT p) = satAdd (F.MSEC_STRANGER_COUNT p).w (s.g
      (F.MSEC_STRANGER_COUNT p)) 1 ∧ t.g (F.MSEC_STRANGER_REASON p) = s.stranger p f ∧ t.rd (R.MSEC_STRANGER_SRC_LO p) =
      BitVec.ofNat 32 (parseFrame f.bytes).src ∧ t.evt.detected.length = s.evt.detected.length + 1 ∧ (t.ethOf p).hold =
      true ∧ t.fdb = s.fdb ∧ t.lsh = s.lsh ∧ t.tb = s.tb) ∧
  (∀ (s : State) (p : Fin 2) (f : RxFrame), s.is (F.ETH_STATUS_LINK p) = true → s.is (F.ETH_CFG_EN p) = true → f.good =
      true → 64 ≤ f.wire → f.wire ≤ 2000 → s.stranger p f = 0 → s.macsec p = false → (parseFrame f.bytes).src / 2 ^ 40 %
      2 = 0 → s.fdb.any (fun x => x.mac == (parseFrame f.bytes).src) = false → s.fdb.length < 1024 → ∃ t, exec
      (.frameReceived p f) s = .next t ∧ t.fdb = s.fdb ++ [⟨(parseFrame f.bytes).src, p, s.tb.ticks⟩]) ∧
  (∀ (s : State) (p : Fin 2) (f : RxFrame), s.is (F.ETH_STATUS_LINK p) = true → s.is (F.ETH_CFG_EN p) = true → f.good =
      false ∨ f.wire < 64 ∨ 2000 < f.wire → exec (.frameReceived p f) s = .next (s.stomp p (s.classify (parseFrame
      f.bytes)).1 f.wire (parseFrame f.bytes) f.bytes)) ∧
  (∀ (s : State) (p : Fin 2) (f : RxFrame), s.is (F.ETH_STATUS_LINK p) = true → s.is (F.ETH_CFG_EN p) = true → f.good =
      true → 64 ≤ f.wire → f.wire ≤ 2000 → s.stranger p f ≠ 0 → s.stranger p f ≠ 3 → (s.ethOf p).hold = true → ∃ t, exec
      (.frameReceived p f) s = .next t ∧ t.g (F.MSEC_STRANGER_COUNT p) = satAdd (F.MSEC_STRANGER_COUNT p).w (s.g
      (F.MSEC_STRANGER_COUNT p)) 1 ∧ t.evt = s.evt ∧ t.fdb = s.fdb ∧ t.lsh = s.lsh ∧ t.tb = s.tb) ∧
  (∀ (s : State) (p : Fin 2) (f : RxFrame) (tc : Nat), s.is (F.ETH_STATUS_LINK p) = true → s.is (F.ETH_CFG_EN p) = true
      → f.good = true → 64 ≤ f.wire → f.wire ≤ 2000 → s.stranger p f = 3 → tc = (s.classify (parseFrame f.bytes)).1 →
      exec (.frameReceived p f) s = .next ((s.stomp p tc f.wire (parseFrame f.bytes) f.bytes).noteStranger p 3
      (parseFrame f.bytes).src)) ∧
  (∀ (s : State) (p : Fin 2) (f : RxFrame) (g : SecTag) (c : Fin 8) (u : State), s.is (F.ETH_STATUS_LINK p) = true →
      s.is (F.ETH_CFG_EN p) = true → f.good = true → 64 ≤ f.wire → f.wire ≤ 2000 → s.macsec p = true → s.stranger p f =
      0 → f.sec = some g → g.rxsc = some c → g.enc = true ∨ testBit (s.g (F.MSEC_CFG_INTEG_ONLY p)) (s.classify
      (parseFrame f.bytes)).1 = true → u = s.setEth p
      { s.ethOf p with rxPn := tabSet (fun _ => 0) (s.ethOf p).rxPn (4 * c.val + g.an.val) (max (tabGet (fun _ => 0) (s.ethOf p).rxPn (4 * c.val + g.an.val)) (g.pn.toNat + 1)) }
      → exec (.frameReceived p f) s = .next ((u.learn p (parseFrame f.bytes)).handle p f.wire (parseFrame f.bytes)
      f.bytes)) ∧
  (∀ (s : State) (p : Fin 2) (f : RxFrame) (g : SecTag) (c : Fin 8), s.is (F.ETH_STATUS_LINK p) = true → s.is
      (F.ETH_CFG_EN p) = true → f.good = true → 64 ≤ f.wire → f.wire ≤ 2000 → s.macsec p = true → s.stranger p f = 0 →
      f.sec = some g → g.rxsc = some c → g.enc = false → testBit (s.g (F.MSEC_CFG_INTEG_ONLY p)) (s.classify (parseFrame
      f.bytes)).1 = false → ∃ t, exec (.frameReceived p f) s = .next t ∧ tabGet (fun _ => 0) (t.ethOf p).rxPn (4 * c.val
      + g.an.val) = max (tabGet (fun _ => 0) (s.ethOf p).rxPn (4 * c.val + g.an.val)) (g.pn.toNat + 1) ∧ t.fdb = s.fdb ∧
      t.regs = s.regs ∧ t.out = s.out) ∧
  (∀ (s : State) (p : Fin 2) (f : RxFrame), s.is (F.ETH_STATUS_LINK p) = true → s.is (F.ETH_CFG_EN p) = true → f.good =
      true → 64 ≤ f.wire → f.wire ≤ 2000 → s.stranger p f = 0 → s.macsec p = false → exec (.frameReceived p f) s = .next
      ((s.learn p (parseFrame f.bytes)).handle p f.wire (parseFrame f.bytes) f.bytes)) ∧
  (∀ (s : State) (p : Fin 2), (s.ethOf p).hold = true → (s.ethOf p).holdTick + 250000 * s.g (F.ETH_CFG_STRANGER_HOLD p)
      ≤ s.tb.ticks → (s.ethOf p).since = 0 → ∃ t, exec (.strangerHoldEnd p) s = .next t ∧ t.ethOf p =
      { s.ethOf p with hold := false } ∧ sameBut [.eth] s t) ∧
  (∀ (s : State) (p : Fin 2), (s.ethOf p).hold = true → (s.ethOf p).holdTick + 250000 * s.g (F.ETH_CFG_STRANGER_HOLD p)
      ≤ s.tb.ticks → (s.ethOf p).since ≠ 0 → ∃ t, exec (.strangerHoldEnd p) s = .next t ∧ t.ethOf p =
      { s.ethOf p with since := 0, holdTick := s.tb.ticks } ∧ t.evt.detected.length = s.evt.detected.length + 1 ∧ t.regs
      = s.regs) ∧
  (∀ (s : State) (mac : BitVec 48), s.g F.ETH_SW_CFG_AGE ≠ 0 → ∃ t, exec (.fdbAgeing mac) s = .next t ∧ (∀ e ∈ s.fdb, e
      ∈ t.fdb ↔ (e.mac ≠ mac.toNat ∨ s.tb.ticks < e.tick + 250000000 * s.g F.ETH_SW_CFG_AGE)) ∧ sameBut [.fdb] s t) ∧
  (∀ (s : State) (rq : Rq) (p : Fin 2) (an : Fin 4) (rxsc : Fin 8), s.reaches rq (R.MSEC_SA_CTL p) → ∃ t, exec
      (.saInstall rq p an rxsc true) s = .next t ∧ (t.ethOf p).txAn = some an.val ∧ (t.ethOf p).txPn = 1 ∧ tabGet (fun _
      => []) (t.ethOf p).keys (32 + an) = (s.ethOf p).sak ∧ (t.ethOf p).rxPn = (s.ethOf p).rxPn) ∧
  (∀ (s : State) (rq : Rq) (p : Fin 2) (an : Fin 4) (rxsc : Fin 8), s.reaches rq (R.MSEC_SA_CTL p) → ∃ t, exec
      (.saInstall rq p an rxsc false) s = .next t ∧ tabGet (fun _ => 0) (t.ethOf p).rxPn (4 * rxsc + an) = 1 ∧ tabGet
      (fun _ => []) (t.ethOf p).keys (4 * rxsc + an) = (s.ethOf p).sak ∧ (t.ethOf p).txAn = (s.ethOf p).txAn ∧ (t.ethOf
      p).txPn = (s.ethOf p).txPn) ∧
  (∀ (s : State) (rq : Rq), s.reaches rq R.ETH_SW_CFG → s.is F.ETH_MDIO_BUSY = false → ∃ t, exec (.mdioGo rq) s = .next
      t ∧ t.is F.ETH_MDIO_BUSY = true ∧ t.out = .mdio (s.rd R.ETH_MDIO) :: s.out ∧ t.g F.ETH_SW_CFG_AGE = s.g
      F.ETH_SW_CFG_AGE) ∧
  (∀ (s : State) (data : BitVec 16), s.is F.ETH_MDIO_BUSY = true → ∃ t, exec (.mdioDone data) s = .next t ∧ t.is
      F.ETH_MDIO_BUSY = false ∧ t.g F.ETH_MDIO_DATA = (if s.g F.ETH_MDIO_OP = 1 ∨ s.g F.ETH_MDIO_OP = 3 then data.toNat
      else s.g F.ETH_MDIO_DATA) ∧ sameRegsBut [R.ETH_MDIO] s t) ∧
  (∀ (s : State) (p : Fin 3), (s.ethOf p).fault = false → ∃ t, exec (.ethPortFault p) s = .next t ∧ (t.ethOf p).fault =
      true ∧ (t.ethOf p).cur = none ∧ (t.ethOf p).held = none ∧ (t.ethOf p).queue = (s.ethOf p).queue ∧ (p.val < 2 →
      t.is (F.ETH_STATUS_FAULT p) = true) ∧ t.evt.detected.length = s.evt.detected.length + 1)

/-- Each of these commands and events of the gates and slots completes under the conditions its clause gives. A
CONFIG_CHANGE of a bad list is refused with nothing else changed, and another keeps the admin list and sets its
change time at or after the base, a whole number of cycles from it and at least 10 µs ahead; at that time the kept
list becomes the oper list; the entries follow one another, the last is followed by the first or waits for a change
time near. A frame that has left is put out as it is on the wire and, with MACsec, advances the packet number; the
first launch that waited and may start does so, late, and holds a frame that it preempts; the bytes of a word of the
transmit area that lie inside a slot of the writer are written, or wait while that slot's frame is on its way. -/
def Obligations.GatesAndSlotsFollowTheirRules : Prop :=
  (∀ (s : State) (rq : Rq) (p : Fin 3), s.reaches rq (R.TSN_CTL p) → s.adminBad p = true → ∃ t, exec (.gateConfigChange
      rq p) s = .next t ∧ t.is (F.TSN_STATUS_CONFIG_ERR p) = true ∧ sameRegsBut [R.TSN_CTL p, R.TSN_STATUS p] s t ∧
      sameBut [.regs] s t) ∧
  (∀ (s : State) (rq : Rq) (p : Fin 3) (ct : Nat), s.reaches rq (R.TSN_CTL p) → s.adminBad p = false → ct = cycleFrom
      (s.adminBase p) (s.rd (R.TSN_CYCLE p)).toNat (s.nowNs + 10000) → ∃ t, exec (.gateConfigChange rq p) s = .next t ∧
      t.is (F.TSN_STATUS_PENDING p) = true ∧ (t.ethOf p).ct = some ct ∧ (t.ethOf p).next = (List.range (s.g
      (F.TSN_CTL_LEN p))).map (fun i => (s.rd (R.TSN_ADMIN_CTL p i), s.rd (R.TSN_ADMIN_INTERVAL p i))) ∧ (t.ethOf
      p).cycle = (s.ethOf p).cycle ∧ s.adminBase p ≤ ct ∧ s.nowNs + 10000 ≤ ct ∧ (ct - s.adminBase p) % (s.rd
      (R.TSN_CYCLE p)).toNat = 0 ∧ sameRegsBut [R.TSN_CTL p, R.TSN_STATUS p] s t) ∧
  (∀ (s : State) (p : Fin 3) (ct : Nat), (s.ethOf p).ct = some ct → ct ≤ s.nowNs → (s.ethOf p).next.length ≤ 256 → ∃ t,
      exec (.gateListTakeover p) s = .next t ∧ (∀ i ∈ List.range (s.ethOf p).next.length, t.rd (R.TSN_OPER_CTL p i) =
      ((s.ethOf p).next.getD i (0, 0)).1 ∧ t.rd (R.TSN_OPER_INTERVAL p i) = ((s.ethOf p).next.getD i (0, 0)).2) ∧ t.g
      (F.TSN_STATUS_OPER_LEN p) = (s.ethOf p).next.length ∧ t.is (F.TSN_STATUS_OPER_ACTIVE p) = true ∧ t.is
      (F.TSN_STATUS_PENDING p) = false ∧ (t.ethOf p).ct = none ∧ (t.ethOf p).idx = 0 ∧ (t.ethOf p).cycle = (s.ethOf
      p).nextCycle ∧ (t.ethOf p).base = (s.ethOf p).nextBase) ∧
  (∀ (s : State) (p : Fin 3), s.operOn p = true → (s.ethOf p).entryEnd ≤ s.nowNs → (s.ethOf p).wrap = false → (s.ethOf
      p).idx + 1 < s.g (F.TSN_STATUS_OPER_LEN p) → s.entryTime p ((s.ethOf p).idx + 1) ≠ 0 → ∃ t, exec (.gateEntryEnd p)
      s = .next t ∧ (t.ethOf p).idx = (s.ethOf p).idx + 1 ∧ (t.ethOf p).entryEnd = (s.ethOf p).entryEnd + s.entryTime p
      ((s.ethOf p).idx + 1)) ∧
  (∀ (s : State) (p : Fin 3), s.operOn p = true → (s.ethOf p).entryEnd ≤ s.nowNs → (s.ethOf p).wrap = false → (s.ethOf
      p).idx + 1 = s.g (F.TSN_STATUS_OPER_LEN p) → (s.ethOf p).ct = none → ∃ t, exec (.gateEntryEnd p) s = .next t ∧
      (t.ethOf p).idx = 0 ∧ (t.ethOf p).entryEnd = (s.ethOf p).entryEnd + s.entryTime p 0) ∧
  (∀ (s : State) (p : Fin 3), s.operOn p = true → (s.ethOf p).entryEnd ≤ s.nowNs → (s.ethOf p).wrap = true ∨ s.g
      (F.TSN_STATUS_OPER_LEN p) ≤ (s.ethOf p).idx + 1 ∨ s.entryTime p ((s.ethOf p).idx + 1) = 0 → (s.ethOf p).ct.all
      (fun ct => decide ((s.ethOf p).entryEnd + (s.ethOf p).ext < ct)) = true → ∃ t, exec (.gateEntryEnd p) s = .next t
      ∧ (t.ethOf p).idx = 0 ∧ (t.ethOf p).entryEnd = (s.ethOf p).entryEnd + s.entryTime p 0) ∧
  (∀ (s : State) (p : Fin 3) (ct : Nat), s.operOn p = true → (s.ethOf p).entryEnd ≤ s.nowNs → (s.ethOf p).wrap = true ∨
      s.g (F.TSN_STATUS_OPER_LEN p) ≤ (s.ethOf p).idx + 1 ∨ s.entryTime p ((s.ethOf p).idx + 1) = 0 → (s.ethOf p).ct =
      some ct → ct ≤ (s.ethOf p).entryEnd + (s.ethOf p).ext → ∃ t, exec (.gateEntryEnd p) s = .next t ∧ t.ethOf p =
      { s.ethOf p with entryEnd := max ct (s.ethOf p).entryEnd, wrap := true } ∧ sameBut [.eth] s t) ∧
  (∀ (s : State) (p : Fin 3) (f : TxFrame), (s.ethOf p).cur = some f → s.sentAll p f = true → s.macsec p = false → ∃ t,
      exec (.frameTransmitted p) s = .next t ∧ (if f.bad then .stomped p (s.wireBytes p f) else .frame p (s.wireBytes p
      f) none) ∈ t.out ∧ (t.ethOf p).txPn = (s.ethOf p).txPn) ∧
  (∀ (s : State) (p : Fin 3) (f : TxFrame) (an : Nat), (s.ethOf p).cur = some f → s.sentAll p f = true → s.macsec p =
      true → (s.ethOf p).txAn = some an → ∃ t, exec (.frameTransmitted p) s = .next t ∧ (if f.bad then .stomped p
      (s.wireBytes p f) else .frame p (s.wireBytes p f) (some (an, (s.ethOf p).txPn, !testBit (s.g
      (F.MSEC_CFG_INTEG_ONLY p)) f.tc))) ∈ t.out ∧ (t.ethOf p).txPn = (s.ethOf p).txPn + 1) ∧
  (∀ (s : State) (p : Fin 2) (k : Fin 32) (time : Nat) (f : TxFrame), (s.ethOf p).launches.find? (s.launchReady p) =
      some f → (s.ethOf p).cur = none → s.canProtect p = true → f.launch = some (k.val, time) → ∃ t, exec
      (.launchFrameStart p) s = .next t ∧ (t.ethOf p).cur = some (s.corrected p f) ∧ (t.ethOf p).launches = (s.ethOf
      p).launches.erase f ∧ t.is (F.ETH_SLOT_STATUS_LATE p k) = true ∧ t.rd (R.ETH_SLOT_STAMP p k) = shortOf ((if time +
      nsU 4 ≤ s.now then s.now else time) + s.g (F.TB_PHYLAT_ETH_TX_LAT p) * 16384)) ∧
  (∀ (s : State) (p : Fin 2) (k : Fin 32) (time : Nat) (f : TxFrame), (s.ethOf p).launches.find? (s.launchReady p) =
      some f → (s.ethOf p).cur.isSome = true → s.canProtect p = true → f.launch = some (k.val, time) → ∃ t, exec
      (.launchFrameStart p) s = .next t ∧ (t.ethOf p).cur.map (fun g => g.bytes) = some (s.corrected p f).bytes ∧
      (t.ethOf p).held.isSome = true ∧ (t.ethOf p).launches = (s.ethOf p).launches.erase f ∧ t.is
      (F.ETH_SLOT_STATUS_LATE p k) = true ∧ t.rd (R.ETH_SLOT_STAMP p k) = shortOf ((if time + nsU 4 ≤ s.now then s.now
      else time) + s.g (F.TB_PHYLAT_ETH_TX_LAT p) * 16384)) ∧
  (∀ (s : State) (rq : Rq) (p : Fin 2) (off : BitVec 16) (v : Word) (m : Nat), (s.areaSlots rq p (off.toNat / 4 *
      4)).isEmpty = false → s.dropReason rq (areaWord p (off.toNat / 4 * 4)) = none → m = (List.range 4).foldl (fun a b
      => a + 2 ^ b * bit ((s.areaSlots rq p (off.toNat / 4 * 4)).any fun k => s.byteIn p k ((off.toNat / 4 * 4) + b))) 0
      → s.slotBusy p (off.toNat / 4 * 4) = false → exec (.transmitAreaWrite rq p off v) s = .next (s.wr (areaWord p
      (off.toNat / 4 * 4)) (maskBytes (s.rd (areaWord p (off.toNat / 4 * 4))) v m))) ∧
  (∀ (s : State) (rq : Rq) (p : Fin 2) (off : BitVec 16) (v : Word) (m : Nat), (s.areaSlots rq p (off.toNat / 4 *
      4)).isEmpty = false → s.dropReason rq (areaWord p (off.toNat / 4 * 4)) = none → m = (List.range 4).foldl (fun a b
      => a + 2 ^ b * bit ((s.areaSlots rq p (off.toNat / 4 * 4)).any fun k => s.byteIn p k ((off.toNat / 4 * 4) + b))) 0
      → s.slotBusy p (off.toNat / 4 * 4) = true → ∃ t, exec (.transmitAreaWrite rq p off v) s = .next t ∧ (t.ethOf
      p).area = (s.ethOf p).area ++ [((off.toNat / 4 * 4), m, v)] ∧ t.regs = s.regs) ∧
  (∀ (s : State) (rq : Rq) (p : Fin 2) (off : BitVec 16) (v : Word), (s.areaSlots rq p (off.toNat / 4 * 4)).isEmpty =
      true → exec (.transmitAreaWrite rq p off v) s = .next s)

/-- Each of these commands and events of the CAN controllers completes under the conditions its clause gives. Leaving
initialisation at a fitting bit rate makes the controller error-active, and is refused at an excessive one; entering
it ends bus-off and FAULT; requested buffers become pending, and the only one starts on an idle bus; cancelled ones
leave the requests; a sent frame, of a buffer, of the matrix or a reference, is put out unless LOOP is 1, clears
LEC, and its buffer is done; a failed attempt of a buffer with retries left is counted, the last one abandons its
buffer with one event, and one of the matrix ends; an attempt in error counts in TEC or goes bus-off; bus-off
recovery clears the counters; the matrix starts, is refused with a bad configuration, and its enable clears; a cell
fault sets FAULT with one event and, with no write held back, changes no other register. -/
def Obligations.CanControllersFollowTheirRules : Prop :=
  (∀ (s : State) (rq : Rq) (c : Fin 4) (idle : Bool), s.reaches rq (R.CAN_CTL c) → inRange (R.CAN_CTL c) (putBits (s.rd
      (R.CAN_CTL c)) 0 1 0) = true → s.is (F.CAN_CTL_INIT c) = true → s.rateRefused c = false → ∃ t, exec (.canInitExit
      rq c idle) s = .next t ∧ t.is (F.CAN_CTL_INIT c) = false ∧ t.g (F.CAN_STATUS_STATE c) = 1) ∧
  (∀ (s : State) (rq : Rq) (c : Fin 4) (idle : Bool), s.reaches rq (R.CAN_CTL c) → inRange (R.CAN_CTL c) (putBits (s.rd
      (R.CAN_CTL c)) 0 1 0) = true → s.is (F.CAN_CTL_INIT c) = true → s.rateRefused c = true → ∃ t, exec (.canInitExit
      rq c idle) s = .next t ∧ t.is (F.CAN_CTL_INIT c) = true ∧ t.is (F.CAN_STATUS_CFG_REFUSED c) = true ∧ t.g
      (F.CAN_STATUS_STATE c) = s.g (F.CAN_STATUS_STATE c)) ∧
  (∀ (s : State) (rq : Rq) (c : Fin 4), s.reaches rq (R.CAN_CTL c) → inRange (R.CAN_CTL c) (putBits (s.rd (R.CAN_CTL c))
      0 1 1) = true → s.is (F.CAN_CTL_INIT c) = false → ∃ t, exec (.canInitEnter rq c) s = .next t ∧ t.is
      (F.CAN_CTL_INIT c) = true ∧ t.g (F.CAN_STATUS_STATE c) = 0 ∧ t.is (F.CAN_STATUS_FAULT c) = false ∧ t.rd
      (R.CAN_ERRCNT c) = 0 ∧ (t.canOf c).cur = none) ∧
  (∀ (s : State) (rq : Rq) (c : Fin 4) (bufs : Word) (idle : Bool), s.reaches rq (R.CAN_TXB_REQ c) → s.canLive c = false
      → ∀ b : Fin 32, s.fdRefused c (canEb c b 0) = false → ∃ t, exec (.txbReq rq c bufs idle) s = .next t ∧ t.rd
      (R.CAN_TXB_REQ c) = s.rd (R.CAN_TXB_REQ c) ||| bufs ∧ sameRegsBut [R.CAN_TXB_REQ c] s t) ∧
  (∀ (s : State) (rq : Rq) (c : Fin 4) (b : Fin 32) (bufs : Word), s.reaches rq (R.CAN_TXB_REQ c) → bufs = BitVec.ofNat
      32 (2 ^ b.val) → s.canLive c = true → (s.canOf c).cur = none → (s.canOf c).wait = none → (s.canOf c).order = [] →
      s.rd (R.CAN_TXB_REQ c) = 0 → s.fdRefused c (canEb c b 0) = false → s.is (F.CAN_TT_STATUS_RUNNING c) = false → ∃ t,
      exec (.txbReq rq c bufs true) s = .next t ∧ (t.canOf c).cur = some (.eb b (s.g (F.CAN_CTL_RETRY c))) ∧ t.rd
      (R.CAN_TXB_REQ c) = bufs) ∧
  (∀ (s : State) (rq : Rq) (c : Fin 4) (bufs : Word) (idle : Bool), s.reaches rq (R.CAN_TXB_REQ c) → s.canLive c = true
      → ∀ b : Fin 32, s.fdRefused c (canEb c b 0) = false → ∃ t, exec (.txbReq rq c bufs idle) s = .next t ∧ t.rd
      (R.CAN_TXB_REQ c) = s.rd (R.CAN_TXB_REQ c) ||| bufs ∧ ((s.canOf c).cur.isSome = true ∨ idle = false → (t.canOf
      c).cur = (s.canOf c).cur)) ∧
  (∀ (s : State) (rq : Rq) (c : Fin 4) (bufs : Word), s.reaches rq (R.CAN_TXB_CANCEL c) → ∃ t, exec (.txbCancel rq c
      bufs) s = .next t ∧ t.rd (R.CAN_TXB_REQ c) = s.rd (R.CAN_TXB_REQ c) &&& ~~~bufs ∧ sameRegsBut [R.CAN_TXB_REQ c] s
      t) ∧
  (∀ (s : State) (c : Fin 4) (b : Fin 32) (retry : Nat), (s.canOf c).cur = some (.eb b retry) → (s.canOf c).writes = []
      → s.g (F.CAN_CTL_LOOP c) = 0 → ∃ t, exec (.canFrameSent c) s = .next t ∧ testBit (t.g (F.CAN_TXB_DONE_BUF c)) b =
      true ∧ testBit (t.g (F.CAN_TXB_REQ_BUF c)) b = false ∧ t.out = .can c (s.txFrame (canEb c b 0)) :: s.out) ∧
  (∀ (s : State) (c : Fin 4) (k : CanSrc), (s.canOf c).cur = some k → s.g (F.CAN_CTL_LOOP c) = 0 → ∃ t, exec
      (.canFrameSent c) s = .next t ∧ .can c (s.curFrame c k).1 ∈ t.out ∧ t.g (F.CAN_ERRCNT_LEC c) = 0 ∧ (t.canOf
      c).writes = []) ∧
  (∀ (s : State) (c : Fin 4) (k : CanSrc), (s.canOf c).cur = some k → s.g (F.CAN_CTL_LOOP c) = 1 → ∃ t, exec
      (.canFrameSent c) s = .next t ∧ t.out = s.out ∧ t.g (F.CAN_ERRCNT_LEC c) = 0 ∧ (t.canOf c).writes = []) ∧
  (∀ (s : State) (c : Fin 4) (k : CanSrc), (s.canOf c).cur = some k → s.g (F.CAN_CTL_LOOP c) = 2 → ∃ t, exec
      (.canFrameSent c) s = .next t ∧ .can c (s.curFrame c k).1 ∈ t.out ∧ t.g (F.CAN_ERRCNT_LEC c) = 0 ∧ (t.canOf
      c).writes = []) ∧
  (∀ (s : State) (c : Fin 4) (b : Nat), (s.canOf c).cur = some (.tt b) → (s.canOf c).writes = [] → s.g (F.CAN_CTL_LOOP
      c) ≠ 1 → ∃ t, exec (.canTxFailure c none) s = .next t ∧ (t.canOf c).cur = none ∧ t.regs = s.regs) ∧
  (∀ (s : State) (c : Fin 4) (e : CanErr) (k : CanSrc), (s.canOf c).cur = some k → (decide (e.kind = .ack) && s.g
      (F.CAN_CTL_LOOP c) != 0) = false → s.canLive c = false → s.g (F.CAN_ERRCNT_TEC c) + (if e.special then 0 else 8) ≤
      255 → (s.canOf c).writes = [] → ∃ t, exec (.canTxFailure c (some e)) s = .next t ∧ t.g (F.CAN_ERRCNT_LEC c) =
      e.kind.lec ∧ t.g (F.CAN_ERRCNT_TEC c) = s.g (F.CAN_ERRCNT_TEC c) + (if e.special then 0 else 8) ∧ (t.canOf c).cur
      = none) ∧
  (∀ (s : State) (c : Fin 4) (e : CanErr) (k : CanSrc), (s.canOf c).cur = some k → (decide (e.kind = .ack) && s.g
      (F.CAN_CTL_LOOP c) != 0) = false → 255 < s.g (F.CAN_ERRCNT_TEC c) + (if e.special then 0 else 8) → (s.canOf
      c).writes = [] → ∃ t, exec (.canTxFailure c (some e)) s = .next t ∧ t.g (F.CAN_STATUS_STATE c) = 3 ∧ (t.canOf
      c).cur = none) ∧
  (∀ (s : State) (c : Fin 4) (b : Fin 32) (retry : Nat), (s.canOf c).cur = some (.eb b retry) → (s.canOf c).writes = []
      → s.g (F.CAN_CTL_LOOP c) = 0 → s.ebPending c b = true → tabGet (fun _ => 0) (s.canOf c).fails b < retry → ∃ t,
      exec (.canTxFailure c none) s = .next t ∧ tabGet (fun _ => 0) (t.canOf c).fails b = tabGet (fun _ => 0) (s.canOf
      c).fails b + 1 ∧ (t.canOf c).cur = none ∧ t.regs = s.regs) ∧
  (∀ (s : State) (c : Fin 4) (b : Fin 32) (retry : Nat), (s.canOf c).cur = some (.eb b retry) → (s.canOf c).writes = []
      → s.g (F.CAN_CTL_LOOP c) = 0 → retry ≤ tabGet (fun _ => 0) (s.canOf c).fails b → ∃ t, exec (.canTxFailure c none)
      s = .next t ∧ testBit (t.g (F.CAN_TXB_ABANDON_BUF c)) b = true ∧ testBit (t.g (F.CAN_TXB_REQ_BUF c)) b = false ∧
      t.evt.detected.length = s.evt.detected.length + 1) ∧
  (∀ (s : State) (c : Fin 4), s.g (F.CAN_STATUS_STATE c) = 3 → s.is (F.CAN_CTL_AUTO_RECOVER c) = true → (s.canOf
      c).offTick * 262144 + 1408 * s.bitTime c ≤ s.tb.ticks * 262144 → ∃ t, exec (.busOffRecovery c) s = .next t ∧ t.g
      (F.CAN_STATUS_STATE c) = 1 ∧ t.rd (R.CAN_ERRCNT c) = 0) ∧
  (∀ (s : State) (rq : Rq) (c : Fin 4), s.reaches rq (R.CAN_CTL c) → inRange (R.CAN_CTL c) (putBits (s.rd (R.CAN_CTL c))
      9 1 1) = true → s.is (F.CAN_STATUS_FAULT c) = false → s.is (F.CAN_CTL_TT_EN c) = false → s.ttRefused c = false → ∃
      t, exec (.ttEnable rq c) s = .next t ∧ t.is (F.CAN_CTL_TT_EN c) = true ∧ t.is (F.CAN_TT_STATUS_RUNNING c) = true) ∧
  (∀ (s : State) (rq : Rq) (c : Fin 4), s.reaches rq (R.CAN_CTL c) → inRange (R.CAN_CTL c) (putBits (s.rd (R.CAN_CTL c))
      9 1 1) = true → s.is (F.CAN_STATUS_FAULT c) = false → s.is (F.CAN_CTL_TT_EN c) = false → s.ttRefused c = true → ∃
      t, exec (.ttEnable rq c) s = .next t ∧ t.is (F.CAN_CTL_TT_EN c) = false ∧ t.is (F.CAN_TT_STATUS_TT_ERR c) = true ∧
      t.is (F.CAN_TT_STATUS_RUNNING c) = s.is (F.CAN_TT_STATUS_RUNNING c)) ∧
  (∀ (s : State) (rq : Rq) (c : Fin 4), s.reaches rq (R.CAN_CTL c) → inRange (R.CAN_CTL c) (putBits (s.rd (R.CAN_CTL c))
      9 1 0) = true → s.is (F.CAN_STATUS_FAULT c) = false → ∃ t, exec (.ttDisable rq c) s = .next t ∧ t.is
      (F.CAN_CTL_TT_EN c) = false ∧ t.is (F.CAN_TT_STATUS_RUNNING c) = s.is (F.CAN_TT_STATUS_RUNNING c)) ∧
  (∀ (s : State) (c : Fin 4), s.is (F.CAN_STATUS_FAULT c) = false → ∃ t, exec (.canCellFault c) s = .next t ∧ t.is
      (F.CAN_STATUS_FAULT c) = true ∧ (t.canOf c).cur = none ∧ (t.canOf c).wait = none ∧ t.evt.detected.length =
      s.evt.detected.length + 1 ∧ ((s.canOf c).writes = [] → sameRegsBut [R.CAN_STATUS c] s t))

/-- Each of these commands and events of the schedule matrix and of reception completes under the conditions its clause
gives. A basic cycle begins with its count, or the matrix ends; a window starts in turn, and an exclusive one sends
its buffer on an idle bus; a missed one is counted with one event; a frame without error that a filter routes is
stored with its stamp, one that is rejected is not, one in error counts with its LEC, and so does an FD frame where
FD_EN is 0; a read of word 0 locks an element and one of its last word releases it; a lock that times out releases
itself; an acknowledgement frees elements and releases a lock; NEW is cleared. -/
def Obligations.CanMatrixAndReceptionFollowTheirRules : Prop :=
  (∀ (s : State) (c : Fin 4), s.is (F.CAN_TT_STATUS_RUNNING c) = true → (s.canOf c).cycleAt ≠ some (s.canCycleNow c).1 →
      s.is (F.CAN_CTL_TT_EN c) = true → ∃ t, exec (.canBasicCycle c) s = .next t ∧ (t.canOf c).cycleAt = some
      (s.canCycleNow c).1 ∧ (t.canOf c).nextWin = 0 ∧ t.g (F.CAN_TT_STATUS_CYCLE_CNT c) = (s.canCycleNow c).2 % 64 ∧
      sameRegsBut [R.CAN_TT_STATUS c] s t) ∧
  (∀ (s : State) (c : Fin 4), s.is (F.CAN_TT_STATUS_RUNNING c) = true → (s.canOf c).cycleAt ≠ some (s.canCycleNow c).1 →
      s.is (F.CAN_CTL_TT_EN c) = false → ∃ t, exec (.canBasicCycle c) s = .next t ∧ t.is (F.CAN_TT_STATUS_RUNNING c) =
      false ∧ (t.canOf c).cycleAt = none) ∧
  (∀ (s : State) (c : Fin 4) (idle : Bool) (start : Nat), s.is (F.CAN_TT_STATUS_RUNNING c) = true → (s.canOf c).cycleAt
      = some start → (s.canOf c).nextWin ≤ s.g (F.CAN_TT_CFG_WIN_N c) → start + s.canOffset c (s.canOf c).nextWin ≤
      s.nowNs → ∃ t, exec (.canWindowStart c idle) s = .next t ∧ (t.canOf c).nextWin = (s.canOf c).nextWin + 1 ∧ t.g
      (F.CAN_TT_STATUS_WINDOW c) = (s.canOf c).nextWin ∧ (t.canOf c).kind = (s.canCell c (s.g (F.CAN_TT_STATUS_CYCLE_CNT
      c)) (s.canOf c).nextWin).2) ∧
  (∀ (s : State) (c : Fin 4) (start : Nat) (buf : Nat), s.is (F.CAN_TT_STATUS_RUNNING c) = true → (s.canOf c).cycleAt =
      some start → (s.canOf c).nextWin ≤ s.g (F.CAN_TT_CFG_WIN_N c) → start + s.canOffset c (s.canOf c).nextWin ≤
      s.nowNs → s.canLive c = true → (s.canOf c).cur = none → s.canCell c (s.g (F.CAN_TT_STATUS_CYCLE_CNT c)) (s.canOf
      c).nextWin = (buf, 1) → s.fdRefused c (canTt c buf 0) = false → ∃ t, exec (.canWindowStart c true) s = .next t ∧
      (t.canOf c).cur = some (.tt buf) ∧ (t.canOf c).wait = none) ∧
  (∀ (s : State) (c : Fin 4) (b : Nat), (s.canOf c).wait = some b → s.txenEnd c ≤ s.elapsedAt s.now → ∃ t, exec
      (.exclusiveWindowMissed c) s = .next t ∧ t.canOf c = { s.canOf c with wait := none } ∧ t.g (F.CAN_TT_STATUS_MISSED
      c) = satAdd (F.CAN_TT_STATUS_MISSED c).w (s.g (F.CAN_TT_STATUS_MISSED c)) 1 ∧ t.evt.detected.length =
      s.evt.detected.length + 1) ∧
  (∀ (s : State) (c : Fin 4) (f : CanFrame) (sof : Word) (q : Fin 2) (flt : Nat), s.canLive c = true → s.g
      (F.CAN_CTL_LOOP c) = 0 → (s.canOf c).cur = none → f.fdf = false → s.is F.CLK_STATUS_DEGRADED = false → s.routeOf c
      f = (q.val, flt) → f.len ≤ s.rxBytes c q → s.lockOf c q = none → s.g (F.CAN_RXQ_STATUS_LEVEL c q) < 64 → ∃ t, exec
      (.canFrameReceived c f sof none) s = .next t ∧ t.g (F.CAN_RXQ_STATUS_LEVEL c q) = s.g (F.CAN_RXQ_STATUS_LEVEL c q)
      + 1 ∧ t.g (F.CAN_RXQ_STATUS_PUT c q) = (s.g (F.CAN_RXQ_STATUS_PUT c q) + 1) % 64 ∧ t.rd (canRx c q (s.g
      (F.CAN_RXQ_STATUS_PUT c q)) 1) = sof ∧ t.g (F.CAN_COUNT_LOST c) = s.g (F.CAN_COUNT_LOST c)) ∧
  (∀ (s : State) (c : Fin 4) (f : CanFrame) (sof : Word) (q : Fin 2) (flt : Nat), s.canLive c = true → s.g
      (F.CAN_CTL_LOOP c) = 0 → (s.canOf c).cur = none → (f.fdf && !s.is (F.CAN_CTL_FD_EN c)) = false → s.routeOf c f =
      (q.val, flt) → f.len ≤ s.rxBytes c q → s.lockOf c q = none → s.g (F.CAN_RXQ_STATUS_LEVEL c q) < 64 → ∃ t, exec
      (.canFrameReceived c f sof none) s = .next t ∧ t.g (F.CAN_RXQ_STATUS_LEVEL c q) = s.g (F.CAN_RXQ_STATUS_LEVEL c q)
      + 1 ∧ t.g (F.CAN_RXQ_STATUS_PUT c q) = (s.g (F.CAN_RXQ_STATUS_PUT c q) + 1) % 64 ∧ t.rd (canRx c q (s.g
      (F.CAN_RXQ_STATUS_PUT c q)) 1) = sof ∧ t.g (F.CAN_ERRCNT_LEC c) = 0) ∧
  (∀ (s : State) (c : Fin 4) (f : CanFrame) (sof : Word), s.canLive c = true → s.g (F.CAN_CTL_LOOP c) = 0 → (s.canOf
      c).cur = none → (f.fdf && !s.is (F.CAN_CTL_FD_EN c)) = false → 2 ≤ (s.routeOf c f).1 → s.is F.CLK_STATUS_DEGRADED
      = false → ∃ t, exec (.canFrameReceived c f sof none) s = .next t ∧ t.g (F.CAN_ERRCNT_LEC c) = 0 ∧ (∀ q : Fin 2,
      t.rd (R.CAN_RXQ_STATUS c q) = s.rd (R.CAN_RXQ_STATUS c q))) ∧
  (∀ (s : State) (c : Fin 4) (f : CanFrame) (sof : Word) (err : Option CanErr), s.canLive c = true → s.g (F.CAN_CTL_LOOP
      c) = 0 → (s.canOf c).cur = none → f.fdf = true → s.is (F.CAN_CTL_FD_EN c) = false → s.recCount c < 127 → ∃ t, exec
      (.canFrameReceived c f sof err) s = .next t ∧ t.recCount c = s.recCount c + 1 ∧ t.g (F.CAN_ERRCNT_LEC c) =
      CanErrKind.form.lec ∧ (∀ q : Fin 2, t.rd (R.CAN_RXQ_STATUS c q) = s.rd (R.CAN_RXQ_STATUS c q))) ∧
  (∀ (s : State) (c : Fin 4) (f : CanFrame) (sof : Word) (e : CanErr), s.canLive c = true → s.g (F.CAN_CTL_LOOP c) = 0 →
      (s.canOf c).cur = none → (f.fdf && !s.is (F.CAN_CTL_FD_EN c)) = false → ∃ t, exec (.canFrameReceived c f sof (some
      e)) s = .next t ∧ t.g (F.CAN_ERRCNT_LEC c) = e.kind.lec ∧ t.recCount c = min 255 (s.recCount c + if e.special then
      8 else 1) ∧ (∀ q : Fin 2, t.rd (R.CAN_RXQ_STATUS c q) = s.rd (R.CAN_RXQ_STATUS c q))) ∧
  (∀ (s : State) (c : Fin 4) (f : CanFrame) (sof : Word) (e : CanErr), s.canLive c = true → s.g (F.CAN_CTL_LOOP c) = 0 →
      (s.canOf c).cur = none → f.fdf = false → e.special = false → s.recCount c < 127 → ∃ t, exec (.canFrameReceived c f
      sof (some e)) s = .next t ∧ s.recCount c + 1 = t.recCount c ∧ t.g (F.CAN_ERRCNT_LEC c) = e.kind.lec) ∧
  (∀ (s : State) (rq : Rq) (c : Fin 4) (q : Fin 2) (i : Fin 64), s.readErr (canRx c q i 0) = false → ∃ t, exec
      (.rxElementLock rq c q i) s = .next t ∧ t.lockOf c q = some i.val ∧ t.out = .read rq (canRx c q i 0) (s.rd (canRx
      c q i 0)) :: s.out) ∧
  (∀ (s : State) (rq : Rq) (c : Fin 4) (q : Fin 2) (i : Fin 64) (w : Nat), w = (if getBits (s.rd (canRx c q i 0)) 30 1 =
      1 then 2 else 2 + s.rxBytes c q / 4) → s.readErr (canRx c q i w) = false → s.lockOf c q = some i.val → ∃ t, exec
      (.rxElementRelease rq c q i) s = .next t ∧ t.lockOf c q = none ∧ t.out = .read rq (canRx c q i w) (s.rd (canRx c q
      i w)) :: s.out) ∧
  (∀ (s : State) (c : Fin 4) (q : Fin 2), s.is (F.CAN_RXQ_STATUS_LOCKED c q) = true → tabGet (fun _ => 0) (s.canOf
      c).lockTick q + 2500 * atLeast1 (s.g (F.CAN_RXQ_CFG_LOCK_TMO c q)) ≤ s.tb.ticks → ∃ t, exec (.lockTimeout c q) s =
      .next t ∧ t.lockOf c q = none ∧ t.is (F.CAN_STATUS_LOCK_TMO_SEEN c) = true ∧ t.g (F.CAN_RXQ_STATUS_LEVEL c q) =
      s.g (F.CAN_RXQ_STATUS_LEVEL c q)) ∧
  (∀ (s : State) (rq : Rq) (c : Fin 4) (q : Fin 2) (n : Fin 128) (k : Nat), s.reaches rq (R.CAN_RXQ_ACK c q) → k = min
      n.val (s.g (F.CAN_RXQ_STATUS_LEVEL c q)) → ∃ t, exec (.rxqAck rq c q n) s = .next t ∧ (t.g (F.CAN_RXQ_STATUS_LEVEL
      c q) = s.g (F.CAN_RXQ_STATUS_LEVEL c q) - k ∧ t.g (F.CAN_RXQ_STATUS_GET c q) = (s.g (F.CAN_RXQ_STATUS_GET c q) +
      k) % 64 ∧ ∀ j ∈ List.range (min k 64), getBits (t.rd (canRx c q ((s.g (F.CAN_RXQ_STATUS_GET c q) + j) % 64) 2)) 31
      1 = 0 ∧ t.lockOf c q ≠ some ((s.g (F.CAN_RXQ_STATUS_GET c q) + j) % 64))) ∧
  (∀ (s : State) (rq : Rq) (c : Fin 4) (q : Fin 2) (i : Fin 64), s.reaches rq (canRx c q i 2) → ∃ t, exec (.newClear rq
      c q i) s = .next t ∧ t.rd (canRx c q i 2) = s.rd (canRx c q i 2) &&& 0x7FFFFFFF ∧ sameRegsBut [canRx c q i 2] s t)

/-- Each of these commands and events of the field outputs completes under the conditions its clause gives. FIO_OUT,
FIO_OUT_SET and FIO_OUT_CLR change exactly the bits of the channels that the requester may write; FIO_OUT_FCLR
clears FAULT and LAUNCH_OFF of the bits named where no over-temperature stands; a launched switch-off sets
LAUNCH_OFF; an overcurrent that has lasted or a thermal fault, and a read-back mismatch, set FAULT with their
reason. A channel whose bit is 0, or that the requester may not write, keeps FAULT and LAUNCH_OFF; an
over-temperature that still stands keeps FAULT; a launched switch-off does nothing while the field region is
isolated or after a register write of the same tick; an overcurrent or mismatch that cannot come as the state stands
leaves the state as it is. -/
def Obligations.FieldOutputCommandsTakeEffect : Prop :=
  (∀ (s : State) (rq : Rq) (v : Word), s.dropReason rq R.FIO_OUT = none → ∃ t, exec (.fioOut rq v) s = .next t ∧ (∀ j :
      Fin 32, getBits (t.rd R.FIO_OUT) j 1 = if s.may rq (R.FIO_CH_CFG (32 + j)) then getBits v j 1 else getBits (s.rd
      R.FIO_OUT) j 1)) ∧
  (∀ (s : State) (rq : Rq) (v : Word), s.dropReason rq R.FIO_OUT_SET = none → ∃ t, exec (.fioOutSet rq v) s = .next t ∧
      (∀ j : Fin 32, getBits (t.rd R.FIO_OUT) j 1 = if s.may rq (R.FIO_CH_CFG (32 + j)) then max (getBits v j 1)
      (getBits (s.rd R.FIO_OUT) j 1) else getBits (s.rd R.FIO_OUT) j 1)) ∧
  (∀ (s : State) (rq : Rq) (v : Word), s.dropReason rq R.FIO_OUT_CLR = none → ∃ t, exec (.fioOutClr rq v) s = .next t ∧
      (∀ j : Fin 32, getBits (t.rd R.FIO_OUT) j 1 = if s.may rq (R.FIO_CH_CFG (32 + j)) then getBits (s.rd R.FIO_OUT) j
      1 - getBits v j 1 else getBits (s.rd R.FIO_OUT) j 1)) ∧
  (∀ (s : State) (rq : Rq) (v : Word) (hot : Word) (j : Fin 32), s.dropReason rq R.FIO_OUT_FCLR = none → s.may rq
      (R.FIO_CH_CFG (32 + j)) = true → getBits v j 1 = 1 → s.g (F.FIO_CH_STATUS_REASON (32 + j)) ≠ 2 ∨ getBits hot j 1 =
      0 → ∃ t, exec (.fioOutFclr rq v hot) s = .next t ∧ t.is (F.FIO_CH_STATUS_LAUNCH_OFF (32 + j)) = false ∧ t.is
      (F.FIO_CH_STATUS_FAULT (32 + j)) = false ∧ getBits (t.rd R.FIO_OUT_LOFF) j 1 = 0 ∧ getBits (t.rd R.FIO_OUT_FAULT)
      j 1 = 0) ∧
  (∀ (s : State) (rq : Rq) (v : Word) (hot : Word) (j : Fin 32), s.dropReason rq R.FIO_OUT_FCLR = none → s.may rq
      (R.FIO_CH_CFG (32 + j)) = true → getBits v j 1 = 1 → s.g (F.FIO_CH_STATUS_REASON (32 + j)) = 2 → getBits hot j 1 =
      1 → ∃ t, exec (.fioOutFclr rq v hot) s = .next t ∧ t.is (F.FIO_CH_STATUS_LAUNCH_OFF (32 + j)) = false ∧ t.is
      (F.FIO_CH_STATUS_FAULT (32 + j)) = s.is (F.FIO_CH_STATUS_FAULT (32 + j))) ∧
  (∀ (s : State) (rq : Rq) (v : Word) (hot : Word) (j : Fin 32), s.may rq (R.FIO_CH_CFG (32 + j)) = false ∨ getBits v j
      1 = 0 → ∃ t, exec (.fioOutFclr rq v hot) s = .next t ∧ t.is (F.FIO_CH_STATUS_LAUNCH_OFF (32 + j)) = s.is
      (F.FIO_CH_STATUS_LAUNCH_OFF (32 + j)) ∧ t.is (F.FIO_CH_STATUS_FAULT (32 + j)) = s.is (F.FIO_CH_STATUS_FAULT (32 +
      j))) ∧
  (∀ (s : State) (j : Fin 32) (h : Held) (rest : List Held), s.firstDue s.held = some (h, rest) → h.e.code = 0x02 →
      h.e.target = j → s.isolated regField = true ∨ s.regHeld s.fio.regClr j = true → exec (.fieldOff j) s = .next
      { s with held := rest }) ∧
  (∀ (s : State) (j : Fin 32) (h : Held) (rest : List Held), s.firstDue s.held = some (h, rest) → h.e.code = 0x02 →
      h.e.target = j → s.isolated regField = false → s.regHeld s.fio.regClr j = false → ∃ t, exec (.fieldOff j) s =
      .next t ∧ t.is (F.FIO_CH_STATUS_LAUNCH_OFF (32 + j)) = true ∧ getBits (t.rd R.FIO_OUT_LOFF) j 1 = 1 ∧ t.fieldOn j
      = false) ∧
  (∀ (s : State) (j : Fin 32) (thermal : Bool), s.fieldOn j = true → thermal = true ∨ tabGet (fun _ => 0) s.fio.since j
      + 50000 ≤ s.tb.ticks → ∃ t, exec (.outputOvercurrent j thermal) s = .next t ∧ t.is (F.FIO_CH_STATUS_FAULT (32 +
      j)) = true ∧ t.g (F.FIO_CH_STATUS_REASON (32 + j)) = (if thermal then 2 else 1) ∧ getBits (t.rd R.FIO_OUT_FAULT) j
      1 = 1 ∧ t.fieldOn j = false) ∧
  (∀ (s : State) (j : Fin 32) (thermal : Bool), s.fieldOn j = false ∨ (thermal = false ∧ s.tb.ticks < tabGet (fun _ =>
      0) s.fio.since j + 50000) → exec (.outputOvercurrent j thermal) s = .next s) ∧
  (∀ (s : State) (j : Fin 32), s.fieldDrives (32 + j) = true → s.is (F.FIO_CH_STATUS_FAULT (32 + j.val)) = false →
      tabGet (fun _ => 0) s.fio.since j + 5000 * atLeast1 (s.g (F.FIO_CH_CFG_WB_TIME (32 + j.val))) ≤ s.tb.ticks → ∃ t,
      exec (.readbackMismatch j) s = .next t ∧ t.is (F.FIO_CH_STATUS_FAULT (32 + j)) = true ∧ t.g
      (F.FIO_CH_STATUS_REASON (32 + j)) = 3 ∧ getBits (t.rd R.FIO_OUT_FAULT) j 1 = 1) ∧
  (∀ (s : State) (j : Fin 32), s.fieldDrives (32 + j) = false ∨ s.is (F.FIO_CH_STATUS_FAULT (32 + j.val)) = true ∨
      s.tb.ticks < tabGet (fun _ => 0) s.fio.since j + 5000 * atLeast1 (s.g (F.FIO_CH_CFG_WB_TIME (32 + j.val))) → exec
      (.readbackMismatch j) s = .next s)

/-- Each of these events and commands of the field inputs and the field supply completes under the conditions its clause
gives. A change whose counter reached its end shows as LEVEL with its count; a broken wire shows in WB and WB_SEEN
with its event, and a whole one clears WB; a configuration that is in range takes its fields, a mode change of a
flexible channel its mode; VFIELD below its limit clears every output's command, and its recovery leaves them; a
lost heartbeat switches all outputs off. A configuration out of range, or a mode change of a flexible channel whose
output is commanded on, is refused with CFG_REFUSED; a brake sense keeps the fields that are fixed for it. An event
that cannot come as the state stands leaves the state as it is. -/
def Obligations.FieldInputEventsTakeEffect : Prop :=
  (∀ (s : State) (k : Fin 80) (level : Bool), s.fieldReads k = true → level = true → s.is (F.FIO_CH_STATUS_WB k) = false
      → s.counted k level = true → ∃ t, exec (.fieldInputChange k level) s = .next t ∧ t.is (F.FIO_CH_STATUS_LEVEL k) =
      level ∧ t.g (F.FIO_CH_STATUS_CNT k) = (if level then atLeast1 (s.g (F.FIO_CH_CFG_MAX k)) else 0)) ∧
  (∀ (s : State) (k : Fin 80) (level : Bool), s.fieldReads k = false ∨ (level = true ∧ s.is (F.FIO_CH_STATUS_WB k) =
      true) ∨ s.counted k level = false → exec (.fieldInputChange k level) s = .next s) ∧
  (∀ (s : State) (rq : Rq) (k : Fin 64) (v : Word), s.reaches rq (R.FIO_CH_CFG k) → inRange (R.FIO_CH_CFG k) v = true →
      k.val < 56 ∨ getBits v 28 2 = s.g (F.FIO_CH_CFG_FX_MODE k) ∨ getBits (s.rd R.FIO_OUT) (k.val - 32) 1 = 0 → ∃ t,
      exec (.fioChCfgWrite rq ⟨k, by omega⟩ v) s = .next t ∧ t.g (F.FIO_CH_CFG_TICK k) = getBits v 0 10 ∧ t.g
      (F.FIO_CH_CFG_EVT_EN k) = getBits v 10 1 ∧ t.g (F.FIO_CH_CFG_WB_EN k) = getBits v 11 1 ∧ t.g (F.FIO_CH_CFG_MAX k)
      = getBits v 12 8 ∧ t.g (F.FIO_CH_CFG_WB_TIME k) = getBits v 20 8) ∧
  (∀ (s : State) (rq : Rq) (k : Fin 80) (v : Word), s.reaches rq (R.FIO_CH_CFG k) → 64 ≤ k.val → inRange (R.FIO_CH_CFG
      k) (putBits (putBits v 0 11 (getBits (s.rd (R.FIO_CH_CFG k)) 0 11)) 12 8 (getBits (s.rd (R.FIO_CH_CFG k)) 12 8)) =
      true → ∃ t, exec (.fioChCfgWrite rq k v) s = .next t ∧ t.g (F.FIO_CH_CFG_TICK k) = s.g (F.FIO_CH_CFG_TICK k) ∧ t.g
      (F.FIO_CH_CFG_MAX k) = s.g (F.FIO_CH_CFG_MAX k) ∧ t.g (F.FIO_CH_CFG_EVT_EN k) = s.g (F.FIO_CH_CFG_EVT_EN k)) ∧
  (∀ (s : State) (rq : Rq) (k : Fin 64) (v : Word), s.reaches rq (R.FIO_CH_CFG k) → inRange (R.FIO_CH_CFG k) v = false ∨
      (56 ≤ k.val ∧ getBits v 28 2 ≠ s.g (F.FIO_CH_CFG_FX_MODE k) ∧ getBits (s.rd R.FIO_OUT) (k.val - 32) 1 = 1) → ∃ t,
      exec (.fioChCfgWrite rq ⟨k, by omega⟩ v) s = .next t ∧ t.is F.FIO_STATUS_CFG_REFUSED = true ∧ t.rd (R.FIO_CH_CFG
      k) = s.rd (R.FIO_CH_CFG k)) ∧
  (∀ (s : State) (rq : Rq) (x : Fin 8) (mode : Fin 4), s.reaches rq (R.FIO_CH_CFG (56 + x)) → mode.val = 3 ∨ (getBits
      (s.rd R.FIO_OUT) (24 + x) 1 = 1 ∧ mode.val ≠ s.g (F.FIO_CH_CFG_FX_MODE (56 + x))) → ∃ t, exec (.fxModeWrite rq x
      mode) s = .next t ∧ t.is F.FIO_STATUS_CFG_REFUSED = true ∧ t.rd (R.FIO_CH_CFG (56 + x)) = s.rd (R.FIO_CH_CFG (56 +
      x))) ∧
  (∀ (s : State) (rq : Rq) (x : Fin 8) (mode : Fin 4), s.reaches rq (R.FIO_CH_CFG (56 + x)) → mode.val < 3 → getBits
      (s.rd R.FIO_OUT) (24 + x) 1 = 0 → inRange (R.FIO_CH_CFG (56 + x)) (s.rd (R.FIO_CH_CFG (56 + x))) = true → ∃ t,
      exec (.fxModeWrite rq x mode) s = .next t ∧ t.g (F.FIO_CH_CFG_FX_MODE (56 + x)) = mode ∧ t.g (F.FIO_CH_CFG_TICK
      (56 + x)) = s.g (F.FIO_CH_CFG_TICK (56 + x))) ∧
  (∀ (s : State) (k : Fin 64), s.fieldReads k = true → s.is (F.FIO_CH_CFG_WB_EN k) = true → s.is (F.FIO_CH_STATUS_WB k)
      = false → ∃ t, exec (.wireBreak k) s = .next t ∧ t.is (F.FIO_CH_STATUS_WB k) = true ∧ t.is
      (F.FIO_CH_STATUS_WB_SEEN k) = true ∧ t.evt.detected.length = s.evt.detected.length + 1) ∧
  (∀ (s : State) (k : Fin 64), s.is (F.FIO_CH_STATUS_WB k) = true → ∃ t, exec (.wireWhole k) s = .next t ∧ t.is
      (F.FIO_CH_STATUS_WB k) = false ∧ t.is (F.FIO_CH_STATUS_WB_SEEN k) = s.is (F.FIO_CH_STATUS_WB_SEEN k)) ∧
  (∀ (s : State) (k : Fin 64), s.fieldReads k = false ∨ s.is (F.FIO_CH_CFG_WB_EN k) = false ∨ s.is (F.FIO_CH_STATUS_WB
      k) = true → exec (.wireBreak k) s = .next s) ∧
  (∀ (s : State) (k : Fin 64), s.is (F.FIO_CH_STATUS_WB k) = false → exec (.wireWhole k) s = .next s) ∧
  (∀ (s : State), s.is F.FIO_STATUS_VF_LOW = true → exec .vfieldLow s = .next s) ∧
  (∀ (s : State), s.is F.FIO_STATUS_VF_LOW = false ∨ s.tb.ticks < s.fio.lowTick + 2500000 → exec .vfieldRecovered s =
      .next s) ∧
  (∀ (s : State), s.is F.FIO_STATUS_VF_LOW = false → ∃ t, exec .vfieldLow s = .next t ∧ (t.is F.FIO_STATUS_VF_LOW = true
      ∧ t.is F.FIO_STATUS_VF_LOW_SEEN = true ∧ t.rd R.FIO_OUT = 0 ∧ ∀ j : Fin 32, t.fieldOn j = false)) ∧
  (∀ (s : State), s.is F.FIO_STATUS_VF_LOW = true → s.fio.lowTick + 2500000 ≤ s.tb.ticks → ∃ t, exec .vfieldRecovered s
      = .next t ∧ t.is F.FIO_STATUS_VF_LOW = false ∧ t.rd R.FIO_OUT = s.rd R.FIO_OUT) ∧
  (∀ (s : State), ∃ t, exec .bridgeHeartbeatLost s = .next t ∧ (t.fio.lost = true ∧ t.is F.FIO_STATUS_BRIDGE_OK = false
      ∧ ∀ j : Fin 32, t.fieldOn j = false))

/-- Each of these events completes under the conditions its clause gives. An edge of a probe that is not armed shows
only in INPUT, and so does one that its EDGE does not select; one that counts ends a single-shot arming and leaves a
continuous one, and its latch enters the FIFO, or waits there for the second of its bracketing samples; a home load
at standstill ends the homing of an auxiliary channel with HOMED, and hands an axis's feedback channel the position
to load at its next sample. A home load whose channel is not waiting at standstill leaves the state as it is. -/
def Obligations.ProbesAndHomingTakeEffect : Prop :=
  (∀ (s : State) (k : Fin 8) (falling : Bool) (ns : Fin 4), s.is (F.GLB_PRB_CFG_ARM k) = false → exec (.probeEdge k
      falling ns) s = .next (s.pb (F.GLB_PRB_STATUS_INPUT k) (!falling))) ∧
  (∀ (s : State) (k : Fin 8) (falling : Bool) (ns : Fin 4), s.g (F.GLB_PRB_CFG_EDGE k) = 3 ∨ (s.g (F.GLB_PRB_CFG_EDGE k)
      = 0 ∧ falling = true) ∨ (s.g (F.GLB_PRB_CFG_EDGE k) = 1 ∧ falling = false) → exec (.probeEdge k falling ns) s =
      .next (s.pb (F.GLB_PRB_STATUS_INPUT k) (!falling))) ∧
  (∀ (s : State) (k : Fin 8) (falling : Bool) (ns : Fin 4), s.is (F.GLB_PRB_CFG_ARM k) = true → s.g (F.GLB_PRB_CFG_EDGE
      k) = 0 → falling = false → ∃ t, exec (.probeEdge k falling ns) s = .next t ∧ t.is (F.GLB_PRB_CFG_ARM k) = s.is
      (F.GLB_PRB_CFG_CONT k) ∧ t.is (F.GLB_PRB_STATUS_INPUT k) = !falling) ∧
  (∀ (s : State) (k : Fin 8) (falling : Bool) (ns : Fin 4), s.is (F.GLB_PRB_CFG_ARM k) = true → s.g (F.GLB_PRB_CFG_EDGE
      k) = 1 → falling = true → ∃ t, exec (.probeEdge k falling ns) s = .next t ∧ t.is (F.GLB_PRB_CFG_ARM k) = s.is
      (F.GLB_PRB_CFG_CONT k) ∧ t.is (F.GLB_PRB_STATUS_INPUT k) = !falling) ∧
  (∀ (s : State) (k : Fin 8) (falling : Bool) (ns : Fin 4), s.is (F.GLB_PRB_CFG_ARM k) = true → s.g (F.GLB_PRB_CFG_EDGE
      k) = 2 → ∃ t, exec (.probeEdge k falling ns) s = .next t ∧ t.is (F.GLB_PRB_CFG_ARM k) = s.is (F.GLB_PRB_CFG_CONT
      k) ∧ t.is (F.GLB_PRB_STATUS_INPUT k) = !falling) ∧
  (∀ (s : State) (k : Fin 8) (falling : Bool) (ns : Fin 4), s.is (F.GLB_PRB_CFG_ARM k) = true → s.g (F.GLB_PRB_CFG_EDGE
      k) = 2 ∨ (s.g (F.GLB_PRB_CFG_EDGE k) = 0 ∧ falling = false) ∨ (s.g (F.GLB_PRB_CFG_EDGE k) = 1 ∧ falling = true) →
      s.is (F.GLB_PRB_CFG_SHAFT k) = false → (s.latchPos k).isSome = true ∧ (s.prbOf k).fifo.length < 4 → ∃ t, exec
      (.probeEdge k falling ns) s = .next t ∧ (t.prbOf k).fifo.length = (s.prbOf k).fifo.length + 1) ∧
  (∀ (s : State) (k : Fin 8) (falling : Bool) (ns : Fin 4), s.is (F.GLB_PRB_CFG_ARM k) = true → s.g (F.GLB_PRB_CFG_EDGE
      k) = 2 ∨ (s.g (F.GLB_PRB_CFG_EDGE k) = 0 ∧ falling = false) ∨ (s.g (F.GLB_PRB_CFG_EDGE k) = 1 ∧ falling = true) →
      s.is (F.GLB_PRB_CFG_SHAFT k) = false → s.latchPos k = none → ∃ t, exec (.probeEdge k falling ns) s = .next t ∧
      (t.prbOf k).wait.length = (s.prbOf k).wait.length + 1) ∧
  (∀ (s : State) (k : Fin 40), 16 ≤ k.val → (s.chanOf k).home = .stop → (s.chanOf k).homeAt = none → s.is
      (F.LSP_CH_STATUS_STANDSTILL k) = true → ∃ t, exec (.homeLoad k) s = .next t ∧ t.is (F.LSP_CH_STATUS_HOMED k) =
      true ∧ t.g (F.LSP_CH_STATUS_HOME_REASON k) = 0 ∧ t.chanState k = 0 ∧ (t.chanOf k).home = .none) ∧
  (∀ (s : State) (k : Fin 40) (m : Fin 16), k.val = m.val → (s.chanOf k).home = .stop → (s.chanOf k).homeAt = none →
      s.is (F.LSP_CH_STATUS_STANDSTILL k) = true → ∃ t, exec (.homeLoad k) s = .next t ∧ (t.chanOf k).home = .load ∧
      (t.chanOf k).homeShift = s.homeTarget k - s.measured k ∧ (t.fbOf m).loadP.isSome = true) ∧
  (∀ (s : State) (k : Fin 40), (s.chanOf k).home ≠ .stop ∨ (s.chanOf k).homeAt.isSome = true ∨ s.is
      (F.LSP_CH_STATUS_STANDSTILL k) = false → exec (.homeLoad k) s = .next s)

/-- Each of these commands and events of Hollyhock completes under the conditions its clause gives. After a safety cycle
that is due no brake is released unless its enable, the axis's output, the locks, the block and the STO group allow
it, and channels that differ latch the device lock-out with the mismatch; a pair that disagrees longer than DISC
latches it with cause 3; an expired SS1-t timer asserts STO; the loss of a channel clock is cause 9 with every
group's STO; a dark test begins when due and fails at 500 us; a brake test is refused or starts, records its
position, passes, times out or is aborted, and a test that is due is marked, an overdue one blocks the brake. -/
def Obligations.HollyhockInputsAndTimersFollowTheirRules : Prop :=
  (∀ (s : State) (i : SafIn), s.cycleDue = true → ∃ t, exec (.safetyCycle i) s = .next t ∧ (∀ n : Fin 16, t.is
      (F.SAF_BRK_STATUS_RELEASED n) = true → t.is (F.SAF_BRK_CFG_EN n) = true ∧ t.is (F.AX_PWM_STATUS_OUT_ACTIVE n) =
      true ∧ t.devLocked = false ∧ t.axLocked n = false ∧ t.is (F.SAF_BRK_STATUS_BT_BLOCKED n) = false ∧ t.sto
      (t.axGroup n) = false)) ∧
  (∀ (s : State) (i : SafIn), s.cycleDue = true → i.disagree = true → ∃ t, exec (.safetyCycle i) s = .next t ∧ t.is
      F.SAF_LOCK_DEVICE = true ∧ t.saf.disagree = true ∧ t.saf.mismatch = i.readback.toNat) ∧
  (∀ (s : State) (i : SafIn), s.cycleDue = false → exec (.safetyCycle i) s = .next s) ∧
  (∀ (s : State) (p : Fin 8) (d : Nat), tabGet (fun _ => none) s.saf.discSince p = some d → d + atLeast1 (s.g
      (F.SAF_SI_CFG_DISC p)) * 250000 < s.tb.ticks → testBit (s.g F.SAF_SI_STATUS_DISC_FAULT) p = false → s.is
      F.SAF_LOCK_DEVICE = false → ∃ t, exec (.discrepancyFault p) s = .next t ∧ testBit (t.g F.SAF_SI_STATUS_DISC_FAULT)
      p = true ∧ t.is F.SAF_LOCK_DEVICE = true ∧ t.g F.SAF_LOCK_CAUSE = 3) ∧
  (∀ (s : State) (g : Fin 4), testBit (s.g F.SAF_STO_SS1_RUN) g = true → s.saf.ss1Start.getD g 0 + s.g
      (F.SAF_SS1_T_T_SS1 g) * 250000 ≤ s.tb.ticks → ∃ t, exec (.ss1Expiry g) s = .next t ∧ testBit (t.g
      F.SAF_STO_SS1_RUN) g = false ∧ t.sto g = true ∧ testBit t.saf.ss1Expired g = true ∧ testBit (t.g F.SAF_STO_DEMAND)
      g = true) ∧
  (∀ (s : State), s.is F.SAF_LOCK_DEVICE = false → ∃ t, exec .channelClockLost s = .next t ∧ (t.is F.SAF_LOCK_DEVICE =
      true ∧ t.g F.SAF_LOCK_CAUSE = 9 ∧ (∀ g : Fin 4, t.sto g = true) ∧ ∀ n : Fin 16, t.is (F.SAF_BRK_STATUS_RELEASED n)
      = false)) ∧
  (∀ (s : State) (n : Fin 16), s.is (F.SAF_BRK_STATUS_RELEASED n) = true → (s.brkOf n).dark = false → (s.brkOf
      n).darkTick + atLeast1 (s.g (F.SAF_BRK_CFG_DT_PERIOD n)) * 1000 * 250000 ≤ s.tb.ticks → s.is (F.SAF_BRK_STATUS_BS
      n) = true → ∃ t, exec (.darkTest n) s = .next t ∧ t.brkOf n =
      { s.brkOf n with dark := true, darkTick := s.tb.ticks } ∧ t.regs = s.regs) ∧
  (∀ (s : State) (n : Fin 16), s.is (F.SAF_BRK_STATUS_RELEASED n) = true → (s.brkOf n).dark = false → (s.brkOf
      n).darkTick + atLeast1 (s.g (F.SAF_BRK_CFG_DT_PERIOD n)) * 1000 * 250000 ≤ s.tb.ticks → s.is (F.SAF_BRK_STATUS_BS
      n) = false → ∃ t, exec (.darkTest n) s = .next t ∧ t.brkOf n =
      { s.brkOf n with darkL := !(s.brkOf n).darkL, darkTick := s.tb.ticks, since := s.tb.ticks } ∧ t.regs = s.regs) ∧
  (∀ (s : State) (n : Fin 16), (s.brkOf n).dark = true → (s.brkOf n).darkTick + 125000 ≤ s.tb.ticks → ∃ t, exec
      (.darkTestTimeout n) s = .next t ∧ t.is (F.SAF_BRK_STATUS_FAULT n) = true ∧ t.g (F.SAF_BRK_STATUS_FAULT_WHY n) = 1
      ∧ t.axLocked n = true ∧ t.is (F.SAF_BRK_STATUS_RELEASED n) = false ∧ (t.brkOf n).darkL = !(s.brkOf n).darkL) ∧
  (∀ (s : State) (rq : Rq) (n : Fin 16) (ticket : BitVec 16), s.reaches rq R.SAF_BT_CMD → s.btRefused n ticket.toNat =
      true → s.saf.bt = none → ∃ t, exec (.btStart rq n ticket) s = .next t ∧ t.g F.SAF_BT_RESULT_RESULT = 3 ∧ t.g
      F.SAF_BT_RESULT_REASON = 6 ∧ t.saf.bt = none) ∧
  (∀ (s : State) (rq : Rq) (n : Fin 16) (ticket : BitVec 16), s.reaches rq R.SAF_BT_CMD → s.btRefused n ticket.toNat =
      false → ∃ t, exec (.btStart rq n ticket) s = .next t ∧ (t.saf.bt.map (fun b => (b.axis, b.ticket, b.settled))) =
      some (n.val, ticket.toNat, false) ∧ t.is (F.SAF_BRK_STATUS_RELEASED n) = false) ∧
  (∀ (s : State) (rq : Rq) (b : BtRun), s.reaches rq R.SAF_BT_CMD → s.saf.bt = some b → ∃ t, exec (.btAbort rq) s =
      .next t ∧ t.saf.bt = none ∧ t.g F.SAF_BT_RESULT_STATE = 2 ∧ t.g F.SAF_BT_RESULT_RESULT = 3 ∧ t.g
      F.SAF_BT_RESULT_REASON = 5) ∧
  (∀ (s : State) (b : BtRun), s.saf.bt = some b → b.settled = false → b.start + s.g F.SAF_BT_CFG_BT_SETTLE * 10 * 250000
      ≤ s.tb.ticks → ∃ t, exec .btSettleEnd s = .next t ∧ t.saf.bt = some
      { b with settled := true, start := s.tb.ticks, p0 := tabGet (fun _ => 0) s.saf.posTap b.axis } ∧ t.regs = s.regs) ∧
  (∀ (s : State) (b : BtRun) (since : Nat) (n : Fin 16), s.saf.bt = some b → b.since = some since → since + s.g
      F.SAF_BT_CFG_BT_TIME * 250000 ≤ s.tb.ticks → b.axis = n.val → ∃ t, exec .btPass s = .next t ∧ t.saf.bt = none ∧
      t.g F.SAF_BT_RESULT_RESULT = 1 ∧ (t.brkOf n).lastPass = s.tb.ticks ∧ t.is (F.SAF_BRK_STATUS_BT_BLOCKED n) = false
      ∧ t.is (F.SAF_BRK_STATUS_BT_DUE n) = false) ∧
  (∀ (s : State) (b : BtRun), s.saf.bt = some b → b.settled = true → b.peak < s.g ⟨R.SAF_BT_I, 0, 24⟩ → b.start + 5000 *
      250000 ≤ s.tb.ticks → ∃ t, exec .btCurrentTimeout s = .next t ∧ t.saf.bt = none ∧ t.g F.SAF_BT_RESULT_RESULT = 3 ∧
      t.g F.SAF_BT_RESULT_REASON = 3) ∧
  (∀ (s : State) (n : Fin 16), s.g (F.SAF_BRK_CFG_BT_INTERVAL n) ≠ 0 → s.is (F.SAF_BRK_STATUS_BT_DUE n) = false →
      (s.brkOf n).lastPass + s.g (F.SAF_BRK_CFG_BT_INTERVAL n) * 900000000000 ≤ s.tb.ticks → ∃ t, exec (.btDue n) s =
      .next t ∧ t.is (F.SAF_BRK_STATUS_BT_DUE n) = true ∧ t.evt.detected.length = s.evt.detected.length + 1 ∧
      sameRegsBut [R.SAF_BRK_STATUS n] s t) ∧
  (∀ (s : State) (n : Fin 16), s.g (F.SAF_BRK_CFG_BT_INTERVAL n) ≠ 0 → s.is (F.SAF_BRK_CFG_ENFORCE n) = true → (s.brkOf
      n).lastPass + (s.g (F.SAF_BRK_CFG_BT_INTERVAL n) + 24) * 900000000000 < s.tb.ticks → ∃ t, exec (.btBlock n) s =
      .next t ∧ t.is (F.SAF_BRK_STATUS_BT_BLOCKED n) = true ∧ t.is (F.SAF_BRK_STATUS_RELEASED n) = false)

/-- Each of these commands and events of Hollyhock's deliberate reset completes under the conditions its clause gives. A
pulse applies a waiting set first, else ends an awaiting unlock, else ends the restart wait of every group without a
cause, and without a pulse nothing happens; an SRESET that stays high for more than 5 s is stuck; an unlock is
refused or accepted, and lapses; a set is read or cannot be, is checked by both channels, discarded, lapses, or is
reloaded from the flash. -/
def Obligations.DeliberateResetFollowsItsRules : Prop :=
  (∀ (s : State), s.saf.srPulse = false → exec .sresetPulse s = .next s) ∧
  (∀ (s : State) (p : Pset), s.saf.srPulse = true → s.saf.psetWait = some p → s.tb.ticks < s.saf.psetTick + 60000 *
      250000 → s.tb.ticks < s.saf.unlockTick + 5000 * 250000 → ∀ r ∈ p.recs, R.SAF_STO ≠ r.addr ∧ R.SAF_LOCK ≠ r.addr →
      ∃ t, exec .sresetPulse s = .next t ∧ t.saf.psetWait = none ∧ t.saf.psetForce = some p ∧ t.saf.psetFlash = some p ∧
      t.saf.unlock = s.saf.unlock ∧ t.g F.SAF_LOCK_DEVICE = s.g F.SAF_LOCK_DEVICE ∧ t.rd R.SAF_PSET_SEQ = BitVec.ofNat
      32 p.seq ∧ t.rd R.SAF_PSET_CRC = p.crc) ∧
  (∀ (s : State), s.saf.srPulse = true → s.saf.psetWait = none → s.saf.unlock = some none → s.tb.ticks <
      s.saf.unlockTick + 5000 * 250000 → ∃ t, exec .sresetPulse s = .next t ∧ t.is F.SAF_LOCK_DEVICE = false ∧
      t.saf.unlock = none ∧ t.is F.SAF_LOCK_UNLOCK_WAIT = false ∧ t.g F.SAF_STO_RESTART_WAIT = 15) ∧
  (∀ (s : State) (n : Fin 16), s.saf.srPulse = true → s.saf.psetWait = none → s.saf.unlock = some (some n.val) →
      s.tb.ticks < s.saf.unlockTick + 5000 * 250000 → ∃ t, exec .sresetPulse s = .next t ∧ t.axLocked n = false ∧
      t.saf.unlock = none ∧ t.is (F.SAF_BRK_STATUS_FAULT n) = false ∧ t.g F.SAF_LOCK_DEVICE = s.g F.SAF_LOCK_DEVICE) ∧
  (∀ (s : State), s.saf.srPulse = true → s.saf.psetWait = none → s.saf.unlock = none → ∃ t, exec .sresetPulse s = .next
      t ∧ (∀ g : Fin 4, testBit (t.g F.SAF_STO_RESTART_WAIT) g = (testBit (s.g F.SAF_STO_RESTART_WAIT) g && s.stoCause
      g)) ∧ sameRegsBut [R.SAF_STO] s t) ∧
  (∀ (s : State), s.is F.SAF_SI_STATUS_SRESET = true → s.saf.srRise + 5000 * 250000 < s.tb.ticks → exec .sresetStuck s =
      .next (s.on F.SAF_SI_STATUS_SRESET_STUCK)) ∧
  (∀ (s : State) (rq : Rq) (v : Word), s.reaches rq R.SAF_UNLOCK → getBits v 0 16 ≠ 0xC35A ∨ s.saf.psetWait.isSome =
      true ∨ (getBits v 16 1 = 0 ∧ s.devLocked = false) ∨ (getBits v 16 1 = 1 ∧ s.axLocked (getBits v 17 4) = false) → ∃
      t, exec (.safUnlock rq v) s = .next t ∧ t.is F.SAF_LOCK_UNLOCK_REFUSED = true ∧ sameRegsBut [R.SAF_LOCK] s t ∧
      sameBut [.regs] s t) ∧
  (∀ (s : State) (rq : Rq) (v : Word), s.reaches rq R.SAF_UNLOCK → getBits v 0 16 = 0xC35A → s.saf.psetWait = none →
      getBits v 16 1 = 0 → s.devLocked = true → s.causeActive = false → ∃ t, exec (.safUnlock rq v) s = .next t ∧
      t.saf.unlock = some none ∧ t.saf.unlockTick = s.tb.ticks ∧ t.is F.SAF_LOCK_UNLOCK_WAIT = true ∧ t.is
      F.SAF_LOCK_DEVICE = true) ∧
  (∀ (s : State) (rq : Rq) (v : Word), s.reaches rq R.SAF_UNLOCK → getBits v 0 16 = 0xC35A → s.saf.psetWait = none →
      getBits v 16 1 = 1 → s.axLocked (getBits v 17 4) = true → s.axCauseActive (getBits v 17 4) = false → ∃ t, exec
      (.safUnlock rq v) s = .next t ∧ t.saf.unlock = some (some (getBits v 17 4)) ∧ t.saf.unlockTick = s.tb.ticks ∧ t.is
      F.SAF_LOCK_UNLOCK_WAIT = true ∧ t.axLocked (getBits v 17 4) = true) ∧
  (∀ (s : State) (rq : Rq) (v : Word), s.reaches rq R.SAF_UNLOCK → (getBits v 16 1 = 0 ∧ s.causeActive = true) ∨
      (getBits v 16 1 = 1 ∧ s.axCauseActive (getBits v 17 4) = true) → ∃ t, exec (.safUnlock rq v) s = .next t ∧ t.is
      F.SAF_LOCK_UNLOCK_REFUSED = true ∧ sameRegsBut [R.SAF_LOCK] s t ∧ sameBut [.regs] s t) ∧
  (∀ (s : State), s.saf.unlock.isSome = true → s.saf.unlockTick + 5000 * 250000 ≤ s.tb.ticks → ∃ t, exec .unlockExpiry s
      = .next t ∧ t.saf.unlock = none ∧ t.is F.SAF_LOCK_UNLOCK_WAIT = false ∧ t.is F.SAF_LOCK_UNLOCK_EXPIRED = true ∧
      sameRegsBut [R.SAF_LOCK] s t) ∧
  (∀ (s : State) (rq : Rq) (h : Word), s.reaches rq R.SAF_PSET_CMD → h = s.rd R.SAF_PSET_HANDLE → s.handleErr
      s.safetyOwner false h = none → s.ipmPoison (s.bufAddr h) (min (classSize (handleClass h)) 12304) = none → ∃ t,
      exec (.psetLoad rq) s = .next t ∧ t.saf.psetRead = some (some (s.ipmBytes (s.keyOf s.safetyOwner) (s.bufAddr h)
      (min (classSize (handleClass h)) 12304))) ∧ t.saf.psetWait = none ∧ t.g F.SAF_PSET_STATUS_STATE = 1) ∧
  (∀ (s : State) (rq : Rq) (st : Nat), s.reaches rq R.SAF_PSET_CMD → s.handleErr s.safetyOwner false (s.rd
      R.SAF_PSET_HANDLE) = some st → ∃ t, exec (.psetLoad rq) s = .next t ∧ t.saf.psetRead = some none ∧ t.saf.psetWait
      = none) ∧
  (∀ (s : State) (l : List Byte), s.saf.psetRead = some (some l) → s.psetReason l = 0 → ∃ t, exec (.psetCheckDone true)
      s = .next t ∧ t.saf.psetWait = some (psetOf l) ∧ t.saf.psetTick = s.tb.ticks ∧ t.g F.SAF_PSET_STATUS_STATE = 2 ∧
      t.saf.psetRead = none) ∧
  (∀ (s : State) (l : List Byte), s.saf.psetRead = some (some l) → s.psetReason l ≠ 0 → ∃ t, exec (.psetCheckDone true)
      s = .next t ∧ t.saf.psetWait = s.saf.psetWait ∧ t.g F.SAF_PSET_STATUS_STATE = 3 ∧ t.g F.SAF_PSET_STATUS_REASON =
      s.psetReason l ∧ t.saf.psetRead = none) ∧
  (∀ (s : State), s.saf.psetRead = some none → ∃ t, exec (.psetCheckDone true) s = .next t ∧ t.saf.psetWait =
      s.saf.psetWait ∧ t.g F.SAF_PSET_STATUS_STATE = 3 ∧ t.g F.SAF_PSET_STATUS_REASON = 1) ∧
  (∀ (s : State) (r : Option (List Byte)), s.saf.psetRead = some r → ∃ t, exec (.psetCheckDone false) s = .next t ∧ t.is
      F.SAF_LOCK_DEVICE = true ∧ t.saf.psetWait = s.saf.psetWait ∧ (s.is F.SAF_LOCK_DEVICE = false → t.g
      F.SAF_LOCK_CAUSE = 2)) ∧
  (∀ (s : State) (rq : Rq), s.reaches rq R.SAF_PSET_CMD → s.saf.psetWait.isSome = true → ∃ t, exec (.psetDiscard rq) s =
      .next t ∧ t.saf.psetWait = none ∧ t.g F.SAF_PSET_STATUS_STATE = 0 ∧ sameRegsBut [R.SAF_PSET_STATUS] s t) ∧
  (∀ (s : State), s.saf.psetWait.isSome = true → s.saf.psetTick + 60000 * 250000 ≤ s.tb.ticks → ∃ t, exec .psetLapse s =
      .next t ∧ t.saf.psetWait = none ∧ t.g F.SAF_PSET_STATUS_STATE = 3 ∧ t.g F.SAF_PSET_STATUS_REASON = 8 ∧ sameRegsBut
      [R.SAF_PSET_STATUS] s t) ∧
  (∀ (s : State) (p : Pset), s.saf.reloaded = false → s.saf.psetFlash = some p → ∃ t, exec (.psetLoaded true) s = .next
      t ∧ t.saf.reloaded = true ∧ t.saf.psetForce = some p ∧ t.is F.GLB_READY_PSET_LOADED = true ∧ t.rd R.SAF_PSET_SEQ =
      BitVec.ofNat 32 p.seq) ∧
  (∀ (s : State) (ok : Bool), s.saf.reloaded = false → s.saf.psetFlash = none ∨ ok = false → s.is F.SAF_LOCK_DEVICE =
      false → ∃ t, exec (.psetLoaded ok) s = .next t ∧ t.saf.reloaded = true ∧ t.is F.SAF_LOCK_DEVICE = true ∧ t.g
      F.SAF_LOCK_CAUSE = 5 ∧ t.saf.psetForce = s.saf.psetForce)

/-- Each of these completes under the conditions its clause gives. The event that fired first, its tick over, leaves the
list. With a route to the host, and none to Camellia, Dryad or Phlox, it joins the queue of its owner, or merges
there from the merge level on; with the owner's ring down it is lost and counted. With a route to Camellia alone it
joins a waiting intake; with one to Dryad alone it is the capture's trigger, with one to Phlox alone it pushes its
launch template. A write of a route stores bits 15 to 0 and leaves the rest, and a write of the value 3 to bits 2 to
1 changes nothing. -/
def Obligations.EventsAreDelivered : Prop :=
  (∀ (s : State) (d : Detected) (rest : List Detected), s.evt.detected = d :: rest → d.tick < s.tb.ticks → ∃ t, exec
      .eventDetected s = .next t ∧ t.evt.detected.take rest.length = rest) ∧
  (∀ (s : State) (d : Detected) (rest : List Detected), s.evt.detected = d :: rest → d.tick = s.tb.ticks → exec
      .eventDetected s = .next s) ∧
  (∀ (s : State) (d : Detected) (rest : List Detected) (n : Fin 4), s.evt.detected = d :: rest → d.tick < s.tb.ticks →
      getBits d.route 9 1 = 0 ∧ getBits d.route 10 1 = 0 ∧ getBits d.route 11 1 = 0 → d.dest = some n.val ∨ (d.dest =
      none ∧ s.evOwner d.ev = some n.val ∧ getBits d.route 0 1 = 1) → s.evRingUp n = true → (s.evq n).length <
      s.coalLevel n → ∃ t, exec .eventDetected s = .next t ∧ t.evt.detected = rest ∧ t.evq n = s.evq n ++ [d.toRecord
      s.now n]) ∧
  (∀ (s : State) (d : Detected) (rest : List Detected) (n : Fin 4), s.evt.detected = d :: rest → d.tick < s.tb.ticks →
      getBits d.route 9 1 = 0 ∧ getBits d.route 10 1 = 0 ∧ getBits d.route 11 1 = 0 → d.dest = some n.val ∨ (d.dest =
      none ∧ s.evOwner d.ev = some n.val ∧ getBits d.route 0 1 = 1) → s.evRingUp n = true → s.coalLevel n ≤ (s.evq
      n).length → getBits d.route 15 1 = 0 → mergeable (s.evq n) (d.toRecord s.now n) = true → ∃ t, exec .eventDetected
      s = .next t ∧ t.evt.detected = rest ∧ (t.evq n).length = (s.evq n).length ∧ t.g (F.EVT_OD_COUNT_COALESCED n) =
      satAdd (F.EVT_OD_COUNT_COALESCED n).w (s.g (F.EVT_OD_COUNT_COALESCED n)) 1) ∧
  (∀ (s : State) (d : Detected) (rest : List Detected) (n : Fin 4), s.evt.detected = d :: rest → d.tick < s.tb.ticks →
      getBits d.route 9 1 = 0 ∧ getBits d.route 10 1 = 0 ∧ getBits d.route 11 1 = 0 → d.dest = some n.val ∨ (d.dest =
      none ∧ s.evOwner d.ev = some n.val ∧ getBits d.route 0 1 = 1) → s.evRingUp n = true → s.coalLevel n ≤ (s.evq
      n).length → getBits d.route 15 1 = 1 ∨ mergeable (s.evq n) (d.toRecord s.now n) = false → (s.evq n).length < 511 →
      ∃ t, exec .eventDetected s = .next t ∧ t.evt.detected = rest ∧ t.evq n = s.evq n ++ [d.toRecord s.now n]) ∧
  (∀ (s : State) (d : Detected) (rest : List Detected) (n : Fin 4), s.evt.detected = d :: rest → d.tick < s.tb.ticks →
      getBits d.route 9 1 = 0 ∧ getBits d.route 10 1 = 0 ∧ getBits d.route 11 1 = 0 → d.dest = some n.val ∨ (d.dest =
      none ∧ s.evOwner d.ev = some n.val ∧ getBits d.route 0 1 = 1) → s.evRingUp n = false → ∃ t, exec .eventDetected s
      = .next t ∧ t.evt.detected = rest ∧ t.evq n = s.evq n ∧ t.g (F.EVT_OD_COUNT_LOST n) = satAdd (F.EVT_OD_COUNT_LOST
      n).w (s.g (F.EVT_OD_COUNT_LOST n)) 1) ∧
  (∀ (s : State) (d : Detected) (rest : List Detected), s.evt.detected = d :: rest → d.tick < s.tb.ticks → (getBits
      d.route 9 1 = 1 ∨ d.dest = some 4) ∧ getBits d.route 10 1 = 0 ∧ getBits d.route 11 1 = 0 → d.dest = some 4 ∨
      getBits d.route 0 1 = 0 → s.mg.intake ≠ [] ∧ s.mg.intake.length < 511 → getBits d.route 15 1 = 1 ∨ mergeable
      s.mg.intake (d.toRecord s.now 7) = false → ∃ t, exec .eventDetected s = .next t ∧ t.evt.detected = rest ∧
      t.mg.intake.length = s.mg.intake.length + 1 ∧ t.evt.queues = s.evt.queues) ∧
  (∀ (s : State) (d : Detected) (rest : List Detected), s.evt.detected = d :: rest → d.tick < s.tb.ticks → d.dest = none
      → getBits d.route 0 1 = 0 ∧ getBits d.route 9 1 = 0 ∧ getBits d.route 10 1 = 1 ∧ getBits d.route 11 1 = 0 → exec
      .eventDetected s = .next ({ s with evt := { s.evt with detected := rest } }.capEvent d.ev)) ∧
  (∀ (s : State) (d : Detected) (rest : List Detected), s.evt.detected = d :: rest → d.tick < s.tb.ticks → d.dest = none
      → getBits d.route 0 1 = 0 ∧ getBits d.route 9 1 = 0 ∧ getBits d.route 10 1 = 0 ∧ getBits d.route 11 1 = 1 → exec
      .eventDetected s = .next ({ s with evt := { s.evt with detected := rest } }.templatePush (getBits d.route 12 3)
      d.full)) ∧
  (∀ (s : State) (rq : Rq) (k : Fin 2048) (v : Word), s.reaches rq (R.EVT_ROUTE k) → getBits v 1 2 ≠ 3 → ∃ t, exec
      (.evtRouteWrite rq k v) s = .next t ∧ getBits (t.rd (R.EVT_ROUTE k)) 0 16 = getBits v 0 16 ∧ getBits (t.rd
      (R.EVT_ROUTE k)) 16 16 = getBits (s.rd (R.EVT_ROUTE k)) 16 16 ∧ sameRegsBut [R.EVT_ROUTE k] s t) ∧
  (∀ (s : State) (rq : Rq) (k : Fin 2048) (v : Word), s.reaches rq (R.EVT_ROUTE k) → getBits v 1 2 = 3 → exec
      (.evtRouteWrite rq k v) s = .next s)

/-- Each of these commands and events completes under the conditions its clause gives. Power-on returns every register
and keeps what the flash holds; every other source records itself in RST_CAUSE and holds its domains in reset until
their release; an unlisted scope resets nothing; the watchdog resets once asked; a kick restarts it; a release that
is due takes the next domain of the order; MEM_READY follows the memory. An event that cannot come as the state
stands leaves the state as it is. -/
def Obligations.ResetsFollowTheirRules : Prop :=
  (∀ (s : State), ∃ t, exec .powerOnReset s = .next t ∧ (∀ a, t.rd a = regReset a) ∧ t.saf =
      { SafSt.reset with psetFlash := s.saf.psetFlash } ∧ t.pol = s.mg.policyFlash ∧ t.mg.journal = s.mg.journal ∧
      t.mg.lifeFlash = s.mg.lifeFlash ∧ t.tb = State.reset.tb ∧ t.mem = [] ∧ t.ipm.sram = []) ∧
  (∀ (s : State), s.clk.power ≠ .dormant → ∃ t, exec .brownOutReset s = .next t ∧ t.g F.RST_CAUSE_LAST = 1 ∧ testBit
      (t.g F.RST_CAUSE_SRC) 1 = true ∧ (∀ d ∈ allButAlwaysOn, t.clk.down.contains d = true ∧ t.clk.releases.contains d =
      true) ∧ t.clk.power = .run ∧ t.is F.PWR_STATUS_FROM_DORMANT = false ∧ (∀ n : Fin 16, t.is
      (F.AX_PWM_STATUS_OUT_ACTIVE n) = false ∧ t.is (F.SAF_BRK_STATUS_RELEASED n) = false)) ∧
  (∀ (s : State), s.clk.power = .dormant → s.clk.waking = true → ∃ t, exec .brownOutReset s = .next t ∧ t.g
      F.RST_CAUSE_LAST = 1 ∧ testBit (t.g F.RST_CAUSE_SRC) 1 = true ∧ (∀ d ∈ allButAlwaysOn, t.clk.down.contains d =
      true ∧ t.clk.releases.contains d = true) ∧ t.clk.power = .run ∧ t.is F.PWR_STATUS_FROM_DORMANT = true ∧
      t.mg.calFirst = true) ∧
  (∀ (s : State), s.clk.power = .dormant → s.clk.waking = false → exec .brownOutReset s = .next s) ∧
  (∀ (s : State), ∃ t, exec .pinReset s = .next t ∧ t.g F.RST_CAUSE_LAST = 2 ∧ testBit (t.g F.RST_CAUSE_SRC) 2 = true ∧
      (∀ d ∈ allButAlwaysOn, t.clk.down.contains d = true ∧ t.clk.releases.contains d = true) ∧ t.clk.power = .run ∧
      t.pol = s.pol ∧ (∀ n : Fin 16, t.is (F.AX_PWM_STATUS_OUT_ACTIVE n) = false ∧ t.is (F.SAF_BRK_STATUS_RELEASED n) =
      false)) ∧
  (∀ (s : State), s.clk.wdogAsk = true → ∃ t, exec .watchdogReset s = .next t ∧ t.g F.RST_CAUSE_LAST = 3 ∧ testBit (t.g
      F.RST_CAUSE_SRC) 3 = true ∧ (∀ d ∈ allButAlwaysOn, t.clk.down.contains d = true ∧ t.clk.releases.contains d =
      true) ∧ t.clk.wdogAsk = false) ∧
  (∀ (s : State), s.clk.wdogAsk = false → s.tb.ticks < s.clk.kickTick + s.g F.RST_WDOG_TIMEOUT * 250000 → exec
      .watchdogReset s = .next s) ∧
  (∀ (s : State), s.clk.kickTick + s.g F.RST_WDOG_TIMEOUT * 250000 ≤ s.tb.ticks → s.mg.halted.getD 4 false = false →
      s.clk.power = .run → ∃ t, exec .watchdogReset s = .next t ∧ t.g F.RST_CAUSE_LAST = 3 ∧ testBit (t.g
      F.RST_CAUSE_SRC) 3 = true ∧ (∀ d ∈ allButAlwaysOn, t.clk.down.contains d = true ∧ t.clk.releases.contains d =
      true) ∧ (∀ n : Fin 16, t.is (F.AX_PWM_STATUS_OUT_ACTIVE n) = false ∧ t.is (F.SAF_BRK_STATUS_RELEASED n) = false)) ∧
  (∀ (s : State) (rq : Rq), s.reaches rq R.RST_WDOG → 10 ≤ s.g F.RST_WDOG_TIMEOUT → ∃ t, exec (.watchdogKick rq) s =
      .next t ∧ t.clk = { s.clk with kickTick := s.tb.ticks } ∧ sameRegsBut [] s t) ∧
  (∀ (s : State) (rq : Rq) (scope : Fin 8) (l : List Nat), s.reaches rq R.RST_CMD → scopeDomains scope = some l → ∃ t,
      exec (.softwareReset rq scope) s = .next t ∧ t.g F.RST_CAUSE_LAST = 6 ∧ testBit (t.g F.RST_CAUSE_SRC) 6 = true ∧
      (∀ d ∈ l, t.clk.down.contains d = true ∧ t.clk.releases.contains d = true) ∧ (∀ d ∈ t.clk.down, d ∈ l ∨ d ∈
      s.clk.down) ∧ t.pol = s.pol) ∧
  (∀ (s : State) (rq : Rq), s.reaches rq R.RST_CMD → ∃ t, exec (.softwareReset rq 1) s = .next t ∧ t.eth = s.eth ∧ t.can
      = s.can ∧ t.fdb = s.fdb ∧ t.ipm = s.ipm ∧ t.lqs = s.lqs ∧ t.hif = s.hif ∧ t.tb = s.tb ∧ t.pwm = [] ∧ t.ae = [] ∧
      t.chans = []) ∧
  (∀ (s : State) (rq : Rq) (scope : Fin 8), s.reaches rq R.RST_CMD → 4 < scope.val → exec (.softwareReset rq scope) s =
      .next s) ∧
  (∀ (s : State), s.mg.halted.getD 4 false = false → ∃ t, exec .camelliaLockup s = .next t ∧ t.is F.RST_LOCKUP_CAMELLIA
      = true ∧ t.g F.RST_CAUSE_LAST = 7 ∧ testBit (t.g F.RST_CAUSE_SRC) 7 = true ∧ t.clk.down.contains 3 = true ∧
      t.mg.ledger = []) ∧
  (∀ (s : State), s.mg.halted.getD 4 false = true → exec .camelliaLockup s = .next s) ∧
  (∀ (s : State), ∃ t, exec .pcieFundamentalReset s = .next t ∧ t.g F.RST_CAUSE_LAST = 8 ∧ testBit (t.g F.RST_CAUSE_SRC)
      8 = true ∧ t.clk.down.contains 4 = true ∧ t.hif = [] ∧ t.setp = [] ∧ t.msix = []) ∧
  (∀ (s : State) (d : Nat) (rest : List Nat), s.clk.releases = d :: rest → s.releaseDue = true → s.staysDown d = false →
      ∃ t, exec .domainRelease s = .next t ∧ t.clk.releases = rest ∧ t.clk.down.contains d = false) ∧
  (∀ (s : State) (d : Nat) (rest : List Nat), s.clk.releases = d :: rest → s.releaseDue = true → s.staysDown d = true →
      exec .domainRelease s = .next { s with clk := { s.clk with releases := rest, relTick := some s.tb.ticks } }) ∧
  (∀ (s : State), s.clk.down.contains 5 = false → exec .memReady s = .next (s.on F.GLB_READY_MEM_READY)) ∧
  (∀ (s : State), s.clk.down.contains 5 = true → exec .memReady s = .next s) ∧
  (∀ (s : State), s.clk.releases = [] ∨ s.releaseDue = false → exec .domainRelease s = .next s)

/-- Each of these commands and events of the clocks completes under the conditions its clause gives. A monitor's finding
shows in REF_READY; a better reference waits for the hold-off or begins a switch; losing the one in use ends the
hold-off; a switch that times out is logged; a command starts the waiting switch or is refused; a domain moves only
to a ready source; a missing clock trips the device once SYSPLL has been ready, and Marigold, the return or a reset
follow; the trims and the losses of NETPLL and MEMPLL take effect. -/
def Obligations.ClocksFollowTheirRules : Prop :=
  (∀ (s : State) (r : Fin 3), s.clk.down.contains 2 = false → s.refReady r = false → ∃ t, exec (.referenceReady r) s =
      .next t ∧ testBit (t.g F.CLK_STATUS_REF_READY) r = true) ∧
  (∀ (s : State) (r : Fin 3) (use : Nat), s.clk.down.contains 2 = false → s.refReady r = false → s.is
      F.CLK_STATUS_SWITCHING = false → s.g F.CLK_STATUS_REF_IN_USE = use → use < 3 → s.refReady use = true → s.g
      F.CLK_REF_CFG_PRIO0 = r.val → use ≠ r.val → s.is F.CLK_STATUS_HOLDOFF = true → ∃ t, exec (.referenceReady r) s =
      .next t ∧ t.is F.CLK_STATUS_SWITCHING = false ∧ t.clk.pendingRef = some r.val ∧ t.is F.CLK_STATUS_BETTER_PENDING =
      true ∧ t.g F.CLK_STATUS_REF_IN_USE = use) ∧
  (∀ (s : State) (r : Fin 3) (use : Nat), s.clk.down.contains 2 = false → s.refReady r = false → s.is
      F.CLK_STATUS_SWITCHING = false → s.g F.CLK_STATUS_REF_IN_USE = use → use < 3 → s.refReady use = true → s.g
      F.CLK_REF_CFG_PRIO0 = r.val → use ≠ r.val → s.is F.CLK_STATUS_HOLDOFF = false → s.is F.CLK_REF_CFG_POLICY = false
      → ∃ t, exec (.referenceReady r) s = .next t ∧ t.is F.CLK_STATUS_SWITCHING = true ∧ t.clk.swNew = r.val ∧
      t.clk.swCause = 2 ∧ t.clk.swWait = s.movingPlls ∧ t.g F.CLK_STATUS_REF_IN_USE = use) ∧
  (∀ (s : State) (r : Fin 3), s.refReady r = true → s.g F.CLK_STATUS_REF_IN_USE = r.val → s.is F.CLK_STATUS_SWITCHING =
      false → ∃ t, exec (.referenceLost r) s = .next t ∧ testBit (t.g F.CLK_STATUS_REF_READY) r = false ∧ t.is
      F.CLK_STATUS_HOLDOFF = false ∧ (t.is F.CLK_STATUS_SWITCHING = true → t.clk.swCause = 1)) ∧
  (∀ (s : State) (r : Fin 3), s.refReady r = true → ∃ t, exec (.referenceLost r) s = .next t ∧ testBit (t.g
      F.CLK_STATUS_REF_READY) r = false) ∧
  (∀ (s : State) (r : Fin 3), s.refReady r = false → exec (.referenceLost r) s = .next s) ∧
  (∀ (s : State) (r : Fin 3), s.clk.down.contains 2 = true ∨ s.refReady r = true → exec (.referenceReady r) s = .next s) ∧
  (∀ (s : State) (p : Fin 3), s.pllCanLock p = true → ∃ t, exec (.pllReady p) s = .next t ∧ testBit (t.g
      F.CLK_STATUS_PLL_READY) p = true) ∧
  (∀ (s : State), s.pllCanLock 0 = true → s.clk.sysSeen = false → s.is F.CLK_STATUS_SWITCHING = false → ∃ t, exec
      (.pllReady 0) s = .next t ∧ t.clk.sysSeen = true ∧ t.clk.engRuns = true ∧ t.clk.marigold = false ∧ t.g
      F.CLK_DOM_SEL_SRC = 0 ∧ t.is F.CLK_STATUS_MG_READY = false) ∧
  (∀ (s : State), s.is F.CLK_STATUS_SWITCHING = true → s.clk.swTick + atLeast1 (s.g F.CLK_REF_HOLDOFF_SWITCH_TMO) *
      250000 ≤ s.tb.ticks → ∃ t, exec .refSwitchTimeout s = .next t ∧ t.g F.CLK_STATUS_REF_IN_USE = s.clk.swNew % 4 ∧
      t.g F.CLK_REF_LOG_OLD = s.g F.CLK_STATUS_REF_IN_USE ∧ t.g F.CLK_REF_LOG_NEW = s.clk.swNew % 4 ∧ t.is
      F.CLK_REF_LOG_TIMED_OUT = true ∧ t.rd R.CLK_REF_LOG_END = s.short) ∧
  (∀ (s : State), s.is F.CLK_STATUS_HOLDOFF = true → s.clk.holdTick + clampN 1 600 (s.g F.CLK_REF_HOLDOFF_HOLDOFF) * 100
      * 250000 ≤ s.tb.ticks → ∃ t, exec .refHoldoffEnd s = .next t ∧ t.is F.CLK_STATUS_HOLDOFF = false) ∧
  (∀ (s : State) (rq : Rq) (b : Nat), s.reaches rq R.CLK_CMD → s.clk.pendingRef = some b → s.is F.CLK_STATUS_SWITCHING =
      false → s.is F.CLK_STATUS_HOLDOFF = false → s.is F.CLK_STATUS_DEGRADED = false → ∃ t, exec (.refSwitch rq) s =
      .next t ∧ t.is F.CLK_STATUS_SWITCHING = true ∧ t.clk.swNew = b ∧ t.clk.swCause = 3 ∧ t.clk.pendingRef = none) ∧
  (∀ (s : State) (rq : Rq), s.reaches rq R.CLK_CMD → s.clk.pendingRef = none → exec (.refSwitch rq) s = .next (s.on
      F.CLK_STATUS_CMD_REFUSED)) ∧
  (∀ (s : State) (rq : Rq), s.reaches rq R.CLK_CMD → s.is F.CLK_STATUS_SWITCHING = true ∨ s.is F.CLK_STATUS_HOLDOFF =
      true ∨ s.is F.CLK_STATUS_DEGRADED = true → exec (.refSwitch rq) s = .next (s.on F.CLK_STATUS_CMD_REFUSED)) ∧
  (∀ (s : State) (rq : Rq), s.reaches rq R.CLK_CMD → s.is F.CLK_STATUS_DEGRADED = true → s.pllReady 0 = true → s.is
      F.CLK_STATUS_SWITCHING = false → ∃ t, exec (.return_ rq) s = .next t ∧ t.is F.CLK_STATUS_DEGRADED = false ∧ t.g
      F.CLK_DOM_SEL_SRC = 0 ∧ t.clk.marigold = false ∧ t.clk.engRuns = true ∧ t.clk.down.contains 8 = false ∧
      t.clk.down.contains 9 = true ∧ t.clk.releases.contains 9 = true) ∧
  (∀ (s : State) (rq : Rq), s.reaches rq R.CLK_CMD → s.is F.CLK_STATUS_DEGRADED = false ∨ s.pllReady 0 = false ∨ s.is
      F.CLK_STATUS_SWITCHING = true → exec (.return_ rq) s = .next (s.on F.CLK_STATUS_CMD_REFUSED)) ∧
  (∀ (s : State) (rq : Rq) (v : Word), s.reaches rq R.CLK_DOM_SEL → testBit v.toNat 0 = testBit (s.g F.CLK_DOM_SEL_SRC)
      0 → s.is F.CLK_STATUS_MG_READY = true → s.pllReady 0 = true → ∃ t, exec (.clkDomSelWrite rq v) s = .next t ∧ t.g
      F.CLK_DOM_SEL_SRC = getBits v 0 6 ∧ sameRegsBut [R.CLK_DOM_SEL] s t) ∧
  (∀ (s : State) (rq : Rq) (v : Word) (d : Fin 6), s.reaches rq R.CLK_DOM_SEL → testBit v.toNat d = true → testBit (s.g
      F.CLK_DOM_SEL_SRC) d = false → d.val = 0 ∨ s.is F.CLK_STATUS_MG_READY = false → ∃ t, exec (.clkDomSelWrite rq v) s
      = .next t ∧ t.is F.CLK_STATUS_SWITCH_REFUSED = true ∧ t.g F.CLK_DOM_SEL_SRC = s.g F.CLK_DOM_SEL_SRC ∧
      t.evt.detected.length = s.evt.detected.length + 1) ∧
  (∀ (s : State) (rq : Rq) (v : Word) (d : Fin 6), s.reaches rq R.CLK_DOM_SEL → testBit v.toNat d = false → testBit (s.g
      F.CLK_DOM_SEL_SRC) d = true → s.pllReady 0 = false → ∃ t, exec (.clkDomSelWrite rq v) s = .next t ∧ t.is
      F.CLK_STATUS_SWITCH_REFUSED = true ∧ t.g F.CLK_DOM_SEL_SRC = s.g F.CLK_DOM_SEL_SRC ∧ t.evt.detected.length =
      s.evt.detected.length + 1) ∧
  (∀ (s : State), s.clk.sysSeen = true → s.clk.tripped = false → s.is F.CLK_STATUS_DEGRADED = false → s.clk.power = .run
      → ∃ t, exec .missingClockTrip s = .next t ∧ t.clk.tripped = true ∧ t.is F.CLK_STATUS_TRIP_SEEN = true ∧ t.is
      F.SAF_LOCK_DEVICE = true ∧ (∀ g : Fin 4, t.sto g = true) ∧ (∀ n : Fin 16, t.is (F.AX_PWM_STATUS_OUT_ACTIVE n) =
      false ∧ t.is (F.SAF_BRK_STATUS_RELEASED n) = false)) ∧
  (∀ (s : State), s.clk.sysSeen = false ∨ s.clk.tripped = true ∨ (s.is F.CLK_STATUS_DEGRADED = true ∧ s.pllReady 0 =
      false) ∨ s.clk.power ≠ .run → exec .missingClockTrip s = .next s) ∧
  (∀ (s : State), s.clk.sysSeen = true → s.clk.tripped = false → s.is F.CLK_STATUS_DEGRADED = true → s.pllReady 0 = true
      → s.clk.power = .run → ∃ t, exec .missingClockTrip s = .next t ∧ t.clk.tripped = false ∧ t.is
      F.CLK_STATUS_TRIP_SEEN = true ∧ t.pllReady 0 = false ∧ t.is F.SAF_LOCK_DEVICE = true ∧ (∀ g : Fin 4, t.sto g =
      true)) ∧
  (∀ (s : State), s.clk.marigold = true → s.clk.tripped = false → exec .marigoldReady s = .next (s.on
      F.CLK_STATUS_MG_READY)) ∧
  (∀ (s : State), s.clk.marigold = true → s.clk.tripped = true → s.tb.ticks ≤ s.clk.tripTick + marigoldTicks → ∃ t, exec
      .marigoldReady s = .next t ∧ t.clk.tripped = false ∧ t.is F.CLK_STATUS_DEGRADED = true ∧ t.g F.CLK_DOM_SEL_SRC =
      0x3E ∧ t.is F.CLK_STATUS_MG_READY = true ∧ t.is F.FIO_STATUS_BRIDGE_OK = false ∧ t.clk.down.contains 8 = true) ∧
  (∀ (s : State), s.clk.marigold = false ∨ (s.clk.tripped = true ∧ s.clk.tripTick + marigoldTicks < s.tb.ticks) → exec
      .marigoldReady s = .next s) ∧
  (∀ (s : State), (s.clk.tripped = true ∧ s.clk.tripTick + marigoldTicks ≤ s.tb.ticks) ∨ s.is F.CLK_STATUS_DEGRADED =
      true → ∃ t, exec .marigoldTimeout s = .next t ∧ t.g F.GLB_CHIP_FAULT_CAUSE = 6 ∧ t.g F.RST_CAUSE_LAST = 4 ∧
      testBit (t.g F.RST_CAUSE_SRC) 4 = true ∧ (∀ d ∈ allButAlwaysOn, t.clk.down.contains d = true ∧
      t.clk.releases.contains d = true)) ∧
  (∀ (s : State), ∃ t, exec .snowdropStop s = .next t ∧ (∀ a, t.rd a = regReset a) ∧ t.saf =
      { SafSt.reset with psetFlash := s.saf.psetFlash } ∧ t.mg.lifeFlash = s.mg.lifeFlash) ∧
  (∀ (s : State), s.pllReady 0 = true → s.passed s.clk.sdTick 1000 = true → ∃ t, exec .snowdropTrim s = .next t ∧ t.is
      F.CLK_STATUS_SD_TRIMMED = true ∧ t.free = s.free + 1 ∧ sameRegsBut [R.CLK_TRIM, R.CLK_STATUS] s t ∧ t.g
      F.CLK_TRIM_MG_TRIM = s.g F.CLK_TRIM_MG_TRIM) ∧
  (∀ (s : State), s.pllReady 0 = true → s.is F.CLK_STATUS_DEGRADED = false → s.clk.marigold = false → s.passed
      s.clk.mgTick 60000 = true → ∃ t, exec .marigoldTrimBurst s = .next t ∧ t.free = s.free + 1 ∧ sameRegsBut
      [R.CLK_TRIM] s t ∧ t.g F.CLK_TRIM_SD_TRIM = s.g F.CLK_TRIM_SD_TRIM) ∧
  (∀ (s : State), s.pllReady 0 = false ∨ s.passed s.clk.sdTick 1000 = false → exec .snowdropTrim s = .next s) ∧
  (∀ (s : State), s.pllReady 0 = false ∨ s.is F.CLK_STATUS_DEGRADED = true ∨ s.clk.marigold = true ∨ s.passed
      s.clk.mgTick 60000 = false → exec .marigoldTrimBurst s = .next s) ∧
  (∀ (s : State), s.pllReady 1 = true → ∃ t, exec .netpllLoss s = .next t ∧ t.clk.netDown = true ∧ t.is
      F.TB_CTRL_TICK_SRC = false ∧ t.is (F.ETH_STATUS_LINK 0) = false ∧ t.is (F.ETH_STATUS_LINK 1) = false ∧ t.pllReady
      1 = false) ∧
  (∀ (s : State), s.pllReady 2 = true → ∃ t, exec .mempllLoss s = .next t ∧ t.clk =
      { s.clk with memWait := true, memTick := s.tb.ticks } ∧ t.pllReady 2 = false ∧ sameRegsBut [R.CLK_STATUS] s t)

/-- Each of these commands and events completes under the conditions its clause gives. Doze and Dormant are refused with
the first reason or entered with the latches held; a source that is enabled wakes the device; Run is reached once
SYSPLL is ready; a core fault records a lock-up; a function-level reset returns the owner's host interface to reset,
with FLR_BUSY set, and empties its queue; the link shows its speed, its width and L1, which an owner's short polling
period keeps from beginning. -/
def Obligations.PowerStatesAndCrossingsFollowTheirRules : Prop :=
  (∀ (s : State) (rq : Rq), s.reaches rq R.PWR_CMD → s.sleepReason ≠ 0 ∨ s.clk.power ≠ .run → ∃ t, exec (.doze rq) s =
      .next t ∧ t.is F.PWR_STATUS_ENTRY_REFUSED = true ∧ t.g F.PWR_STATUS_REASON = s.sleepReason ∧ sameRegsBut
      [R.PWR_STATUS] s t ∧ t.clk = s.clk) ∧
  (∀ (s : State) (rq : Rq), s.reaches rq R.PWR_CMD → s.sleepReason ≠ 0 ∨ s.clk.power ≠ .run → ∃ t, exec (.dormant rq) s
      = .next t ∧ t.is F.PWR_STATUS_ENTRY_REFUSED = true ∧ t.g F.PWR_STATUS_REASON = s.sleepReason ∧ sameRegsBut
      [R.PWR_STATUS] s t ∧ t.clk = s.clk) ∧
  (∀ (s : State) (rq : Rq), s.reaches rq R.PWR_CMD → s.sleepReason = 0 → s.clk.power = .run → ∃ t, exec (.doze rq) s =
      .next t ∧ t.clk.power = .doze ∧ t.is F.SAF_LOCK_DEVICE = true ∧ (∀ g : Fin 4, t.sto g = true) ∧ t.g
      F.CLK_STATUS_PLL_READY = 0 ∧ t.is F.HIF_LINK_L1 = true ∧ t.mg.session = none) ∧
  (∀ (s : State) (rq : Rq), s.reaches rq R.PWR_CMD → s.sleepReason = 0 → s.clk.power = .run → ∃ t, exec (.dormant rq) s
      = .next t ∧ t.clk.power = .dormant ∧ t.clk.supplyEn = false ∧ t.is F.SAF_LOCK_DEVICE = true ∧ (∀ g : Fin 4, t.sto
      g = true) ∧ t.mg.lifeFlash = t.mg.life ∧ t.g F.CLK_STATUS_PLL_READY = 0) ∧
  (∀ (s : State) (w : WakeSrc), s.wakes w = true → ∃ t, exec (.wake w) s = .next t ∧ t.clk =
      { s.clk with waking := true, wakeSrc := w.code, marigold := true, supplyEn := true } ∧ t.g F.PWR_STATUS_WAKE_SRC =
      w.code ∧ sameRegsBut [R.PWR_STATUS] s t) ∧
  (∀ (s : State) (w : WakeSrc), s.wakes w = false → exec (.wake w) s = .next s) ∧
  (∀ (s : State), s.clk.power = .doze → s.clk.waking = true → s.pllReady 0 = true → ∃ t, exec .runReached s = .next t ∧
      t.clk.power = .run ∧ t.clk.waking = false ∧ t.is F.HIF_LINK_L1 = false ∧ t.g F.CLK_DOM_SEL_SRC = 0 ∧ t.clk.engRuns
      = true) ∧
  (∀ (s : State) (c : Fin 4), s.mg.halted.getD c false = false → ∃ t, exec (.sequencerCoreFault c) s = .next t ∧ testBit
      (t.g F.LSP_STATUS_FAULT) c = true ∧ testBit (t.g F.RST_LOCKUP_CORE) c = true ∧ t.g F.RST_CAUSE_LAST = 7 ∧
      t.mg.nextSeq = s.mg.nextSeq + 1) ∧
  (∀ (s : State) (n : Fin 4), s.clk.down.contains 4 = false → ∃ t, exec (.functionLevelReset n) s = .next t ∧ t.hifOf n
      = { HifSt.reset with flrTick := s.tb.ticks } ∧ t.is (F.HIF_OD_STATUS_FLR_BUSY n) = true ∧ t.evq n = [] ∧ (∀ a :
      Fin 1024, R.HIF_OD_CTL n + 4 * a.val = R.HIF_OD_STATUS n ∨ t.rd (R.HIF_OD_CTL n + 4 * a) = regReset (R.HIF_OD_CTL
      n + 4 * a)) ∧ (∀ m : Fin 4, m ≠ n → t.evq m = s.evq m)) ∧
  (∀ (s : State) (c : Fin 4), s.mg.halted.getD c false = true → exec (.sequencerCoreFault c) s = .next s) ∧
  (∀ (s : State) (n : Fin 4), s.clk.down.contains 4 = true → exec (.functionLevelReset n) s = .next s) ∧
  (∀ (s : State) (speed : Fin 4) (width : Fin 3) (l1 : Bool), ∃ t, exec (.pcieLinkChange speed width l1) s = .next t ∧
      t.g F.HIF_LINK_SPEED = speed.val ∧ t.g F.HIF_LINK_WIDTH = (if speed.val = 0 then 0 else lanes width.val) ∧ t.is
      F.HIF_LINK_L1 = (speed.val != 0 && l1 && (s.is F.HIF_LINK_L1 || !s.l1Held)) ∧ sameRegsBut [R.HIF_LINK] s t)

/-- Each of these commands and events of Camellia completes under the conditions its clause gives; a periodic duty runs
when it is due. The preferred image runs when it passes, and when none does the device is in recovery; a flash fault
diverts the journal until it ends; compaction keeps what is young or not info; a reading is kept; VCORE rises in
steps of 5 mV at low slack; a margin test below 60 mV raises the floor; the counters are saved; the calendar follows
full time while LOCKED. A duty that is not due, and an event that cannot come as the state stands, leaves the state
as it is. -/
def Obligations.CamelliaBootsAndKeepsItsRecords : Prop :=
  (∀ (s : State), s.clk.down.contains 3 = false → s.is F.GLB_READY_FW_VERIFIED = false → s.is F.MGT_STATUS_RECOVERY =
      false → s.mg.policyStaged = none → s.mg.preferredB = false → s.slotCheck 0 = 0 → ∃ t, exec .fwVerified s = .next t
      ∧ t.is F.GLB_READY_FW_VERIFIED = true ∧ t.g F.MGT_STATUS_SLOT = 0 ∧ t.is F.MGT_STATUS_TRIAL = s.mg.trialFlag ∧
      t.pol = s.mg.policyFlash ∧ t.is F.MGT_STATUS_RECOVERY = false) ∧
  (∀ (s : State), s.clk.down.contains 3 = false → s.is F.GLB_READY_FW_VERIFIED = false → s.is F.MGT_STATUS_RECOVERY =
      false → s.mg.policyStaged = none → s.mg.preferredB = true → s.slotCheck 1 ≠ 0 → s.slotCheck 0 = 0 → ∃ t, exec
      .fwVerified s = .next t ∧ t.is F.GLB_READY_FW_VERIFIED = true ∧ t.g F.MGT_STATUS_SLOT = 0 ∧ t.is
      F.MGT_STATUS_TRIAL = false ∧ t.mg.nextSeq = s.mg.nextSeq + 1) ∧
  (∀ (s : State), s.clk.down.contains 3 = false → s.is F.GLB_READY_FW_VERIFIED = false → s.is F.MGT_STATUS_RECOVERY =
      false → s.mg.policyStaged = none → s.slotCheck 0 ≠ 0 → s.slotCheck 1 ≠ 0 → ∃ t, exec .fwVerified s = .next t ∧
      (t.is F.GLB_READY_FW_VERIFIED = false ∧ t.is F.MGT_STATUS_RECOVERY = true ∧ ∀ d ∈ ([7, 8, 9] : List Nat),
      t.clk.down.contains d = true)) ∧
  (∀ (s : State), s.clk.down.contains 3 = false → s.is F.GLB_READY_FW_VERIFIED = false → s.is F.MGT_STATUS_RECOVERY =
      false → s.mg.policyStaged = none → s.mg.preferredB = false → s.slotCheck 0 ≠ 0 → s.slotCheck 1 = 0 → ∃ t, exec
      .fwVerified s = .next t ∧ t.is F.GLB_READY_FW_VERIFIED = true ∧ t.g F.MGT_STATUS_SLOT = 1 ∧ t.is
      F.MGT_STATUS_TRIAL = false ∧ t.mg.nextSeq = s.mg.nextSeq + 1) ∧
  (∀ (s : State), s.clk.down.contains 3 = false → s.is F.GLB_READY_FW_VERIFIED = false → s.is F.MGT_STATUS_RECOVERY =
      false → s.mg.policyStaged = none → s.mg.preferredB = true → s.slotCheck 1 = 0 → ∃ t, exec .fwVerified s = .next t
      ∧ t.is F.GLB_READY_FW_VERIFIED = true ∧ t.g F.MGT_STATUS_SLOT = 1 ∧ t.is F.MGT_STATUS_TRIAL = s.mg.trialFlag ∧
      t.pol = s.mg.policyFlash) ∧
  (∀ (s : State) (p : Policy) (x : Image), s.clk.down.contains 3 = false → s.is F.GLB_READY_FW_VERIFIED = false → s.is
      F.MGT_STATUS_RECOVERY = false → s.mg.policyStaged = some (p, x) → s.slotCheck 0 = 0 ∨ s.slotCheck 1 = 0 → ∃ t,
      exec .fwVerified s = .next t ∧ t.is F.GLB_READY_FW_VERIFIED = true ∧ t.mg.policyStaged = none ∧ t.pol = (if
      s.imageCheck x = 0 then p else s.mg.policyFlash)) ∧
  (∀ (s : State), s.clk.down.contains 3 = true ∨ s.is F.GLB_READY_FW_VERIFIED = true ∨ s.is F.MGT_STATUS_RECOVERY = true
      → exec .fwVerified s = .next s) ∧
  (∀ (s : State), ∃ t, exec .flashFault s = .next t ∧ t.mg.flashDown = true ∧ t.is F.MGT_STATUS_FLASH_FAULT = true ∧
      t.evt.detected.length = s.evt.detected.length + 1 ∧ sameRegsBut [R.MGT_STATUS] s t) ∧
  (∀ (s : State), State.journalDiverted { s with mg := { s.mg with flashDown := false } } = false → ∃ t, exec
      .flashRecovered s = .next t ∧ t.mg.flashDown = false ∧ t.mg.journal = s.mg.buffer.foldl journalAppend s.mg.journal
      ∧ t.mg.buffer = [] ∧ t.regs = s.regs) ∧
  (∀ (s : State), s.mg.compacting = true → State.journalDiverted { s with mg := { s.mg with compacting := false } } =
      true → ∃ t, exec .logCompaction s = .next t ∧ t.mg.compacting = false ∧ t.mg.buffer = s.mg.buffer ∧ (∀ e ∈
      s.mg.journal, e ∈ t.mg.journal ↔ (e.sev ≠ 0 ∨ s.now < e.full + 30 * 86400 * secUnits)) ∧ t.regs = s.regs) ∧
  (∀ (s : State), s.mg.compacting = false → exec .logCompaction s = .next s) ∧
  (∀ (s : State), State.journalDiverted { s with mg := { s.mg with flashDown := false } } = true → exec .flashRecovered
      s = .next { s with mg := { s.mg with flashDown := false } }) ∧
  (∀ (s : State), s.mg.compacting = true → State.journalDiverted { s with mg := { s.mg with compacting := false } } =
      false → s.mg.buffer = [] → ∃ t, exec .logCompaction s = .next t ∧ t.mg.compacting = false ∧ t.mg.buffer = [] ∧ (∀
      e ∈ s.mg.journal, e ∈ t.mg.journal ↔ (e.sev ≠ 0 ∨ s.now < e.full + 30 * 86400 * secUnits)) ∧ t.regs = s.regs) ∧
  (∀ (s : State), s.dutyDue dutyFlash (730 * 86400000) = true → ∃ t, exec .flashRefresh s = .next t ∧ t.mg.ecFlashCopies
      = s.mg.ecFlashCopies + 1 ∧ t.mg.journal = s.mg.journal ∧ t.mg.slotA = s.mg.slotA ∧ t.mg.slotB = s.mg.slotB ∧
      t.regs = s.regs) ∧
  (∀ (s : State), s.dutyDue dutyOtp (30 * 86400000) = true → ∃ t, exec .otpRefresh s = .next t ∧ t.mg =
      { s.mg with duties := t.mg.duties } ∧ tabGet (fun _ => none) t.mg.duties dutyOtp = some s.tb.ticks ∧ t.regs =
      s.regs) ∧
  (∀ (s : State), s.dutyDue dutyOtp (30 * 86400000) = false → exec .otpRefresh s = .next s) ∧
  (∀ (s : State), s.dutyDue dutyFlash (730 * 86400000) = false → exec .flashRefresh s = .next s) ∧
  (∀ (s : State), s.dutyDue dutyTrim (86400000) = false → exec .trimDriftCheck s = .next s) ∧
  (∀ (s : State), s.dutyDue dutyLife (3600000) = false → exec .lifeCounterSave s = .next s) ∧
  (∀ (s : State) (ok : Bool), s.dutyDue dutyVcore (10000) = false → exec (.vcoreAdjust ok) s = .next s) ∧
  (∀ (s : State) (i : Fin 12) (v : BitVec 16), s.dutyDue i 10 = true → ∃ t, exec (.sensorSample (.temperature i v)) s =
      .next t ∧ t.mg.temps = listSet s.mg.temps i (signed 16 v.toNat) ∧ t.regs = s.regs) ∧
  (∀ (s : State) (i : Fin 16) (v : BitVec 16), s.dutyDue (12 + i) 10 = true → ∃ t, exec (.sensorSample (.voltage i v)) s
      = .next t ∧ t.mg.volts = listSet s.mg.volts i v.toNat ∧ t.mg.temps = s.mg.temps ∧ t.mg.delays = s.mg.delays ∧
      t.regs = s.regs) ∧
  (∀ (s : State) (i : Fin 24) (v : BitVec 16), s.dutyDue (28 + i) 10000 = true → ∃ t, exec (.sensorSample (.delay i v))
      s = .next t ∧ t.mg.delays = listSet s.mg.delays i (signed 16 v.toNat) ∧ t.mg.temps = s.mg.temps ∧ t.mg.volts =
      s.mg.volts ∧ t.regs = s.regs) ∧
  (∀ (s : State) (i : Fin 12) (v : BitVec 16), s.dutyDue i 10 = false → exec (.sensorSample (.temperature i v)) s =
      .next s) ∧
  (∀ (s : State) (i : Fin 16) (v : BitVec 16), s.dutyDue (12 + i) 10 = false → exec (.sensorSample (.voltage i v)) s =
      .next s) ∧
  (∀ (s : State) (i : Fin 24) (v : BitVec 16), s.dutyDue (28 + i) 10000 = false → exec (.sensorSample (.delay i v)) s =
      .next s) ∧
  (∀ (s : State), s.dutyDue dutyVcore 10000 = true → leastI s.mg.delays < (if s.g F.MGT_CFG_SLACK_LO = 0 then 40 else
      (s.g F.MGT_CFG_SLACK_LO : Int)) → s.g F.MGT_STATUS_VCORE < 875 → ∃ t, exec (.vcoreAdjust true) s = .next t ∧ t.g
      F.MGT_STATUS_VCORE = s.g F.MGT_STATUS_VCORE + 5 ∧ t.mg.nextSeq = s.mg.nextSeq + 1 ∧ t.evt.detected.length =
      s.evt.detected.length + 1 ∧ sameRegsBut [R.MGT_STATUS] s t) ∧
  (∀ (s : State), s.dutyDue dutyVcore 10000 = true → (if s.g F.MGT_CFG_SLACK_LO = 0 then 40 else (s.g F.MGT_CFG_SLACK_LO
      : Int)) ≤ leastI s.mg.delays → leastI s.mg.delays ≤ s.g F.MGT_CFG_SLACK_HI → ∃ t, exec (.vcoreAdjust true) s =
      .next t ∧ t.g F.MGT_STATUS_VCORE = s.g F.MGT_STATUS_VCORE ∧ t.mg.slackHiSince = none ∧ t.regs = s.regs ∧ t.evt =
      s.evt) ∧
  (∀ (s : State), s.dutyDue dutyVcore 10000 = true → (if s.g F.MGT_CFG_SLACK_LO = 0 then 40 else (s.g F.MGT_CFG_SLACK_LO
      : Int)) ≤ leastI s.mg.delays → s.g F.MGT_CFG_SLACK_HI < leastI s.mg.delays → s.mg.slackHiSince = none → ∃ t, exec
      (.vcoreAdjust true) s = .next t ∧ t.g F.MGT_STATUS_VCORE = s.g F.MGT_STATUS_VCORE ∧ t.mg.slackHiSince = some
      s.tb.ticks ∧ t.regs = s.regs) ∧
  (∀ (s : State) (h : Nat), s.dutyDue dutyVcore 10000 = true → (if s.g F.MGT_CFG_SLACK_LO = 0 then 40 else (s.g
      F.MGT_CFG_SLACK_LO : Int)) ≤ leastI s.mg.delays → s.g F.MGT_CFG_SLACK_HI < leastI s.mg.delays → s.mg.slackHiSince
      = some h → h + 900000000000 ≤ s.tb.ticks → 725 ≤ s.g F.MGT_STATUS_VCORE → s.mg.vFloor + 5 ≤ s.g F.MGT_STATUS_VCORE
      → ∃ t, exec (.vcoreAdjust true) s = .next t ∧ t.g F.MGT_STATUS_VCORE = s.g F.MGT_STATUS_VCORE - 5 ∧ t.mg.nextSeq =
      s.mg.nextSeq + 1 ∧ t.evt.detected.length = s.evt.detected.length + 1) ∧
  (∀ (s : State), s.dutyDue dutyVcore 10000 = true → leastI s.mg.delays < (if s.g F.MGT_CFG_SLACK_LO = 0 then 40 else
      (s.g F.MGT_CFG_SLACK_LO : Int)) → s.g F.MGT_STATUS_VCORE = 880 → s.g F.MGT_CFG_SLACK_LO ≤ s.g F.MGT_CFG_SLACK_HI →
      ∃ t, exec (.vcoreAdjust true) s = .next t ∧ t.g F.MGT_STATUS_VCORE = 880 ∧ t.evt.detected.length =
      s.evt.detected.length + 1 ∧ t.regs = s.regs) ∧
  (∀ (s : State), s.dutyDue dutyVcore 10000 = true → ∃ t, exec (.vcoreAdjust false) s = .next t ∧ t.g F.MGT_STATUS_VCORE
      = s.g F.MGT_STATUS_VCORE ∧ t.is F.MGT_STATUS_AVS_FAULT = true) ∧
  (∀ (s : State) (failing : List (BitVec 16)), s.camelliaRuns = true → s.mg.ledger.any (fun e => e.activity == 4) = true
      → ((List.range 4).any fun i => decide ((s.g F.MGT_STATUS_VCORE : Int) - (failing.getD i 0).toNat < 60)) = true → ∃
      t, exec (.sramMarginTest failing) s = .next t ∧ t.mg.vFloor = min 880 (s.mg.vFloor + 5) ∧ t.mg.srams = (List.range
      4).map (fun i => (failing.getD i 0).toNat) ∧ t.is F.MGT_STATUS_MARGIN_DUE = false ∧ t.evt.detected.length =
      s.evt.detected.length + 1 ∧ t.mg.ledger = s.mg.ledger) ∧
  (∀ (s : State) (failing : List (BitVec 16)), s.camelliaRuns = true → s.is F.MGT_STATUS_MARGIN_DUE = true ∨ s.dutyDue
      dutyMargin (30 * 86400000) = true → s.mg.ledger.any (fun e => e.activity == 4) = false → s.motionActive = true →
      s.mg.deferred = none → ∃ t, exec (.sramMarginTest failing) s = .next t ∧ t.is F.MGT_STATUS_MARGIN_DUE = true ∧
      t.mg.vFloor = s.mg.vFloor ∧ t.mg.srams = s.mg.srams) ∧
  (∀ (s : State) (failing : List (BitVec 16)), s.camelliaRuns = true → s.mg.ledger.any (fun e => e.activity == 4) = true
      → ((List.range 4).any fun i => decide ((s.g F.MGT_STATUS_VCORE : Int) - (failing.getD i 0).toNat < 60)) = false →
      ∃ t, exec (.sramMarginTest failing) s = .next t ∧ t.mg.vFloor = s.mg.vFloor ∧ t.mg.srams = (List.range 4).map (fun
      i => (failing.getD i 0).toNat) ∧ t.is F.MGT_STATUS_MARGIN_DUE = false ∧ t.evt = s.evt) ∧
  (∀ (s : State) (failing : List (BitVec 16)), s.camelliaRuns = true → s.is F.MGT_STATUS_MARGIN_DUE = true ∨ s.dutyDue
      dutyMargin (30 * 86400000) = true → s.mg.ledger = [] → s.motionActive = false → s.mg.deferred = none → ∃ t, exec
      (.sramMarginTest failing) s = .next t ∧ t.mg.srams = (List.range 4).map (fun i => (failing.getD i 0).toNat) ∧ t.is
      F.MGT_STATUS_MARGIN_DUE = false ∧ t.mg.ledger = [] ∧ t.mg.lastTicket = nextTicket s.mg.lastTicket) ∧
  (∀ (s : State) (failing : List (BitVec 16)), s.camelliaRuns = false → exec (.sramMarginTest failing) s = .next s) ∧
  (∀ (s : State), s.dutyDue dutyTrim 86400000 = true → ∃ t, exec .trimDriftCheck s = .next t ∧ t.evt.detected.length =
      s.evt.detected.length + (if 100 < absN (s.gi F.CLK_TRIM_SD_TRIM - signed 10 Config.factoryTrimSnowdrop.toNat) ∨ 50
      < absN (s.gi F.CLK_TRIM_MG_TRIM - signed 10 Config.factoryTrimMarigold.toNat) then 1 else 0) ∧ t.regs = s.regs ∧
      t.mg = { s.mg with duties := t.mg.duties }) ∧
  (∀ (s : State), s.dutyDue dutyLife 3600000 = true → ∃ t, exec .lifeCounterSave s = .next t ∧ t.mg.lifeFlash =
      s.mg.life ∧ t.mg.life = s.mg.life ∧ t.regs = s.regs) ∧
  (∀ (s : State), s.servo = servoLocked → s.mg.calFirst = false → s.dutyDue dutyCalendar 1000 = true → ∃ t, exec
      .calendarSet s = .next t ∧ t.mg.calendar = s.now ∧ t.mg.journal = s.mg.journal ∧ t.regs = s.regs) ∧
  (∀ (s : State), s.servo = servoLocked → s.camelliaRuns = true → s.mg.calFirst = true → s.mg.calendar = s.now → ∃ t,
      exec .calendarSet s = .next t ∧ t.mg.calendar = s.now ∧ t.mg.calFirst = false ∧ t.mg.nextSeq = s.mg.nextSeq + 1 ∧
      t.evt.detected = s.evt.detected) ∧
  (∀ (s : State), s.servo = servoLocked → s.camelliaRuns = true → s.mg.calFirst = true → s.mg.calendar ≠ s.now → ∃ t,
      exec .calendarSet s = .next t ∧ t.mg.calendar = s.now ∧ t.mg.calFirst = false ∧ t.mg.nextSeq = s.mg.nextSeq + 1 ∧
      t.evt.detected.length = s.evt.detected.length + 1) ∧
  (∀ (s : State), s.servo ≠ servoLocked → exec .calendarSet s = .next s)

/-- Each of these messages and events completes under the conditions its clause gives; Camellia runs. A message is
answered in its window with its sequence number and a status. A request that meets no entry is granted the next
ticket, one that conflicts is refused; a release and a withdrawal end an entry; a staged image that passes goes to
the other slot, activation mode 0 marks it, and a confirmation ends its trial; a staged policy waits for the next
reset; a type that no row has is refused. A role that may not send a message, the recovery, an argument out of
range, a bad handle and a motion that is not idle are answered with their statuses and change nothing; a request of
activity 5 waits, deferred, for the entries that hold it; a message sent while BUSY is ignored, and one that finds
Camellia halted waits in its window. A message through a ring is answered in the host's memory with its type and
sequence number. -/
def Obligations.MessagesAreAnswered : Prop :=
  (∀ (s : State) (n : Fin 4) (seq : BitVec 16) (object : BitVec 16) (activity : Byte), s.reaches (.od n)
      (R.MGT_OD_MB_CTL n) → s.camelliaRuns = true → s.is (F.MGT_OD_MB_CTL_BUSY n) = false → s.is F.MGT_STATUS_RECOVERY =
      false → s.role n ≠ .observer → activity = 1 ∨ activity = 2 ∨ activity = 3 ∨ activity = 7 ∨ activity = 8 →
      object.toNat < 16 → s.mg.deferred = none → s.mg.ledger.find? (conflicts activity.toNat object.toNat) = none → ∃ t,
      exec (.ledgerAcquire n seq activity object) s = .next t ∧ t.mg.ledger = s.mg.ledger ++ [⟨activity.toNat,
      object.toNat, n, nextTicket s.mg.lastTicket, s.tb.ticks⟩] ∧ t.mg.lastTicket = nextTicket s.mg.lastTicket ∧ t.rd
      (R.MGT_OD_MB_DATA n 1) = BitVec.ofNat 32 (seq.toNat + 65536 * 0) ∧ t.is (F.MGT_OD_MB_CTL_DONE n) = true ∧ t.is
      (F.MGT_OD_MB_CTL_BUSY n) = false) ∧
  (∀ (s : State) (n : Fin 4) (seq : BitVec 16) (object : BitVec 16) (activity : Byte) (e : LedgerEntry), s.reaches (.od
      n) (R.MGT_OD_MB_CTL n) → s.camelliaRuns = true → s.is (F.MGT_OD_MB_CTL_BUSY n) = false → s.is
      F.MGT_STATUS_RECOVERY = false → s.role n ≠ .observer → activity = 1 ∨ activity = 2 ∨ activity = 3 ∨ activity = 7 ∨
      activity = 8 → object.toNat < 16 → s.mg.deferred = none → s.mg.ledger.find? (conflicts activity.toNat
      object.toNat) = some e → ∃ t, exec (.ledgerAcquire n seq activity object) s = .next t ∧ t.mg.ledger = s.mg.ledger
      ∧ t.mg.lastTicket = s.mg.lastTicket ∧ t.evt.detected.length = s.evt.detected.length + 1 ∧ t.rd (R.MGT_OD_MB_DATA n
      1) = BitVec.ofNat 32 (seq.toNat + 65536 * 4) ∧ t.is (F.MGT_OD_MB_CTL_DONE n) = true ∧ t.is (F.MGT_OD_MB_CTL_BUSY
      n) = false) ∧
  (∀ (s : State) (n : Fin 4) (seq : BitVec 16) (object : BitVec 16) (activity : Byte), s.reaches (.od n)
      (R.MGT_OD_MB_CTL n) → s.camelliaRuns = true → s.is (F.MGT_OD_MB_CTL_BUSY n) = false → s.is F.MGT_STATUS_RECOVERY =
      false → s.role n ≠ .observer → activity = 6 ∨ activity = 9 → s.mg.deferred = none → s.mg.ledger.find? (conflicts
      activity.toNat 0) = none → ∃ t, exec (.ledgerAcquire n seq activity object) s = .next t ∧ t.mg.ledger =
      s.mg.ledger ++ [⟨activity.toNat, 0, n, nextTicket s.mg.lastTicket, s.tb.ticks⟩] ∧ t.rd (R.MGT_OD_MB_DATA n 1) =
      BitVec.ofNat 32 (seq.toNat + 65536 * 0) ∧ t.is (F.MGT_OD_MB_CTL_DONE n) = true ∧ t.is (F.MGT_OD_MB_CTL_BUSY n) =
      false) ∧
  (∀ (s : State) (n : Fin 4) (seq : BitVec 16) (object : BitVec 16) (activity : Byte), s.reaches (.od n)
      (R.MGT_OD_MB_CTL n) → s.camelliaRuns = true → s.is (F.MGT_OD_MB_CTL_BUSY n) = false → s.is F.MGT_STATUS_RECOVERY =
      false → s.role n ≠ .observer → activity = 4 → s.mg.deferred = none → s.mg.ledger.find? (conflicts 4 0) = none →
      s.motionActive = false → ∃ t, exec (.ledgerAcquire n seq activity object) s = .next t ∧ t.mg.ledger = s.mg.ledger
      ++ [⟨4, 0, n, nextTicket s.mg.lastTicket, s.tb.ticks⟩] ∧ t.rd (R.MGT_OD_MB_DATA n 1) = BitVec.ofNat 32 (seq.toNat
      + 65536 * 0) ∧ t.is (F.MGT_OD_MB_CTL_DONE n) = true ∧ t.is (F.MGT_OD_MB_CTL_BUSY n) = false) ∧
  (∀ (s : State) (n : Fin 4) (seq : BitVec 16) (object : BitVec 16) (activity : Byte), s.reaches (.od n)
      (R.MGT_OD_MB_CTL n) → s.camelliaRuns = true → s.is (F.MGT_OD_MB_CTL_BUSY n) = false → s.is F.MGT_STATUS_RECOVERY =
      false → s.role n ≠ .observer → activity = 4 → s.mg.deferred = none → s.mg.ledger.find? (conflicts 4 0) = none →
      s.motionActive = true → ∃ t, exec (.ledgerAcquire n seq activity object) s = .next t ∧ t.mg.ledger = s.mg.ledger ∧
      t.rd (R.MGT_OD_MB_DATA n 1) = BitVec.ofNat 32 (seq.toNat + 65536 * 4) ∧ t.is (F.MGT_OD_MB_CTL_DONE n) = true ∧
      t.is (F.MGT_OD_MB_CTL_BUSY n) = false) ∧
  (∀ (s : State) (n : Fin 4) (seq : BitVec 16) (object : BitVec 16) (activity : Byte), s.reaches (.od n)
      (R.MGT_OD_MB_CTL n) → s.camelliaRuns = true → s.is (F.MGT_OD_MB_CTL_BUSY n) = false → s.is F.MGT_STATUS_RECOVERY =
      false → s.role n ≠ .observer → activity = 5 → s.mg.deferred = none → s.mg.ledger.find? (conflicts 5 0) = none →
      s.mg.ledger.any (fun e => defers e.activity) = false → ∃ t, exec (.ledgerAcquire n seq activity object) s = .next
      t ∧ t.mg.ledger = s.mg.ledger ++ [⟨5, 0, n, nextTicket s.mg.lastTicket, s.tb.ticks⟩] ∧ t.rd (R.MGT_OD_MB_DATA n 1)
      = BitVec.ofNat 32 (seq.toNat + 65536 * 0) ∧ t.is (F.MGT_OD_MB_CTL_DONE n) = true ∧ t.is (F.MGT_OD_MB_CTL_BUSY n) =
      false) ∧
  (∀ (s : State) (n : Fin 4) (seq : BitVec 16) (object : BitVec 16) (activity : Byte), s.reaches (.od n)
      (R.MGT_OD_MB_CTL n) → s.camelliaRuns = true → s.is (F.MGT_OD_MB_CTL_BUSY n) = false → s.is F.MGT_STATUS_RECOVERY =
      false → s.role n ≠ .observer → activity = 5 → s.mg.deferred = none → s.mg.ledger.find? (conflicts 5 0) = none →
      s.mg.ledger.any (fun e => defers e.activity) = true → ∃ t, exec (.ledgerAcquire n seq activity object) s = .next t
      ∧ t.mg.ledger = s.mg.ledger ∧ t.mg.deferred = some (n.val, 3) ∧ t.evt.detected.length = s.evt.detected.length + 1
      ∧ t.rd (R.MGT_OD_MB_DATA n 1) = BitVec.ofNat 32 (seq.toNat + 65536 * 5) ∧ t.is (F.MGT_OD_MB_CTL_DONE n) = true ∧
      t.is (F.MGT_OD_MB_CTL_BUSY n) = false) ∧
  (∀ (s : State) (n : Fin 4) (seq : BitVec 16) (object : BitVec 16) (activity : Byte), s.reaches (.od n)
      (R.MGT_OD_MB_CTL n) → s.camelliaRuns = true → s.is (F.MGT_OD_MB_CTL_BUSY n) = false → s.is F.MGT_STATUS_RECOVERY =
      false → s.role n ≠ .observer → activity = 5 → s.mg.deferred.isSome = true → ∃ t, exec (.ledgerAcquire n seq
      activity object) s = .next t ∧ t.mg.ledger = s.mg.ledger ∧ t.mg.deferred = s.mg.deferred ∧ t.mg.lastTicket =
      s.mg.lastTicket ∧ t.rd (R.MGT_OD_MB_DATA n 1) = BitVec.ofNat 32 (seq.toNat + 65536 * 8) ∧ t.is
      (F.MGT_OD_MB_CTL_DONE n) = true ∧ t.is (F.MGT_OD_MB_CTL_BUSY n) = false) ∧
  (∀ (s : State) (n : Fin 4) (seq : BitVec 16) (object : BitVec 16) (activity : Byte), s.reaches (.od n)
      (R.MGT_OD_MB_CTL n) → s.camelliaRuns = true → s.is (F.MGT_OD_MB_CTL_BUSY n) = false → s.is F.MGT_STATUS_RECOVERY =
      false → s.role n ≠ .observer → 1 ≤ activity.toNat ∧ activity.toNat ≤ 9 → activity.toNat = 4 ∨ (perAxis
      activity.toNat = true ∧ object.toNat < 16) → s.mg.deferred.isSome = true → ∃ t, exec (.ledgerAcquire n seq
      activity object) s = .next t ∧ t.mg.ledger = s.mg.ledger ∧ t.mg.lastTicket = s.mg.lastTicket ∧ t.rd
      (R.MGT_OD_MB_DATA n 1) = BitVec.ofNat 32 (seq.toNat + 65536 * 4) ∧ t.is (F.MGT_OD_MB_CTL_DONE n) = true ∧ t.is
      (F.MGT_OD_MB_CTL_BUSY n) = false) ∧
  (∀ (s : State) (n : Fin 4) (seq : BitVec 16) (object : BitVec 16) (activity : Byte) (e : LedgerEntry), s.reaches (.od
      n) (R.MGT_OD_MB_CTL n) → s.camelliaRuns = true → s.is (F.MGT_OD_MB_CTL_BUSY n) = false → s.is
      F.MGT_STATUS_RECOVERY = false → s.role n ≠ .observer → 1 ≤ activity.toNat ∧ activity.toNat ≤ 9 → perAxis
      activity.toNat = false ∨ object.toNat < 16 → s.mg.deferred = none → s.mg.ledger.find? (conflicts activity.toNat
      (if perAxis activity.toNat then object.toNat else 0)) = some e → ∃ t, exec (.ledgerAcquire n seq activity object)
      s = .next t ∧ t.mg.ledger = s.mg.ledger ∧ t.mg.lastTicket = s.mg.lastTicket ∧ t.rd (R.MGT_OD_MB_DATA n 1) =
      BitVec.ofNat 32 (seq.toNat + 65536 * 4) ∧ t.is (F.MGT_OD_MB_CTL_DONE n) = true ∧ t.is (F.MGT_OD_MB_CTL_BUSY n) =
      false) ∧
  (∀ (s : State) (n : Fin 4) (seq : BitVec 16) (object : BitVec 16) (activity : Byte), s.reaches (.od n)
      (R.MGT_OD_MB_CTL n) → s.camelliaRuns = true → s.is (F.MGT_OD_MB_CTL_BUSY n) = false → s.is F.MGT_STATUS_RECOVERY =
      false → s.role n ≠ .observer → activity.toNat = 0 ∨ 9 < activity.toNat ∨ (perAxis activity.toNat = true ∧ 16 ≤
      object.toNat) → ∃ t, exec (.ledgerAcquire n seq activity object) s = .next t ∧ t.mg = s.mg ∧ t.rd
      (R.MGT_OD_MB_DATA n 1) = BitVec.ofNat 32 (seq.toNat + 65536 * 3) ∧ t.is (F.MGT_OD_MB_CTL_DONE n) = true ∧ t.is
      (F.MGT_OD_MB_CTL_BUSY n) = false) ∧
  (∀ (s : State) (n : Fin 4) (seq : BitVec 16) (a1 : BitVec 16) (b1 : Byte), s.reaches (.od n) (R.MGT_OD_MB_CTL n) →
      s.camelliaRuns = true → s.is (F.MGT_OD_MB_CTL_BUSY n) = false → msgRole 0x01 (s.role n) = some true → s.is
      F.MGT_STATUS_RECOVERY = true → ∃ t, exec (.ledgerAcquire n seq b1 a1) s = .next t ∧ t.mg = s.mg ∧ t.rd
      (R.MGT_OD_MB_DATA n 1) = BitVec.ofNat 32 (seq.toNat + 65536 * 8) ∧ t.is (F.MGT_OD_MB_CTL_DONE n) = true ∧ t.is
      (F.MGT_OD_MB_CTL_BUSY n) = false) ∧
  (∀ (s : State) (n : Fin 4) (seq : BitVec 16) (a1 : BitVec 16) (b1 : Byte), s.reaches (.od n) (R.MGT_OD_MB_CTL n) →
      s.is (F.MGT_OD_MB_CTL_BUSY n) = false → s.camelliaRuns = false → ∃ t, exec (.ledgerAcquire n seq b1 a1) s = .next
      t ∧ t.is (F.MGT_OD_MB_CTL_BUSY n) = true ∧ t.is (F.MGT_OD_MB_CTL_DONE n) = false ∧ t.mg = s.mg ∧ leAt (t.window n)
      0 2 = 0x01) ∧
  (∀ (s : State) (n : Fin 4) (seq : BitVec 16) (a1 : BitVec 16) (b1 : Byte), s.is (F.MGT_OD_MB_CTL_BUSY n) = true →
      s.dropReason (.od n) (R.MGT_OD_MB_CTL n) = none → exec (.ledgerAcquire n seq b1 a1) s = .next s) ∧
  (∀ (s : State) (n : Fin 4) (seq : BitVec 16) (a1 : BitVec 16), s.reaches (.od n) (R.MGT_OD_MB_CTL n) → s.camelliaRuns
      = true → s.is (F.MGT_OD_MB_CTL_BUSY n) = false → msgRole 0x02 (s.role n) = some true → s.is F.MGT_STATUS_RECOVERY
      = true → ∃ t, exec (.ledgerRelease n seq a1) s = .next t ∧ t.mg = s.mg ∧ t.rd (R.MGT_OD_MB_DATA n 1) =
      BitVec.ofNat 32 (seq.toNat + 65536 * 8) ∧ t.is (F.MGT_OD_MB_CTL_DONE n) = true ∧ t.is (F.MGT_OD_MB_CTL_BUSY n) =
      false) ∧
  (∀ (s : State) (n : Fin 4) (seq : BitVec 16) (a1 : BitVec 16), s.reaches (.od n) (R.MGT_OD_MB_CTL n) → s.is
      (F.MGT_OD_MB_CTL_BUSY n) = false → s.camelliaRuns = false → ∃ t, exec (.ledgerRelease n seq a1) s = .next t ∧ t.is
      (F.MGT_OD_MB_CTL_BUSY n) = true ∧ t.is (F.MGT_OD_MB_CTL_DONE n) = false ∧ t.mg = s.mg ∧ leAt (t.window n) 0 2 =
      0x02) ∧
  (∀ (s : State) (n : Fin 4) (seq : BitVec 16) (a1 : BitVec 16), s.is (F.MGT_OD_MB_CTL_BUSY n) = true → s.dropReason
      (.od n) (R.MGT_OD_MB_CTL n) = none → exec (.ledgerRelease n seq a1) s = .next s) ∧
  (∀ (s : State) (n : Fin 4) (seq : BitVec 16) (a1 : BitVec 16), s.reaches (.od n) (R.MGT_OD_MB_CTL n) → s.camelliaRuns
      = true → s.is (F.MGT_OD_MB_CTL_BUSY n) = false → msgRole 0x03 (s.role n) = some true → s.is F.MGT_STATUS_RECOVERY
      = true → ∃ t, exec (.ledgerList n seq a1) s = .next t ∧ t.mg = s.mg ∧ t.rd (R.MGT_OD_MB_DATA n 1) = BitVec.ofNat
      32 (seq.toNat + 65536 * 8) ∧ t.is (F.MGT_OD_MB_CTL_DONE n) = true ∧ t.is (F.MGT_OD_MB_CTL_BUSY n) = false) ∧
  (∀ (s : State) (n : Fin 4) (seq : BitVec 16) (a1 : BitVec 16), s.reaches (.od n) (R.MGT_OD_MB_CTL n) → s.is
      (F.MGT_OD_MB_CTL_BUSY n) = false → s.camelliaRuns = false → ∃ t, exec (.ledgerList n seq a1) s = .next t ∧ t.is
      (F.MGT_OD_MB_CTL_BUSY n) = true ∧ t.is (F.MGT_OD_MB_CTL_DONE n) = false ∧ t.mg = s.mg ∧ leAt (t.window n) 0 2 =
      0x03) ∧
  (∀ (s : State) (n : Fin 4) (seq : BitVec 16) (a1 : BitVec 16), s.is (F.MGT_OD_MB_CTL_BUSY n) = true → s.dropReason
      (.od n) (R.MGT_OD_MB_CTL n) = none → exec (.ledgerList n seq a1) s = .next s) ∧
  (∀ (s : State) (n : Fin 4) (seq : BitVec 16) (b1 : Byte), s.reaches (.od n) (R.MGT_OD_MB_CTL n) → s.camelliaRuns =
      true → s.is (F.MGT_OD_MB_CTL_BUSY n) = false → msgRole 0x11 (s.role n) = some false → ∃ t, exec (.imageActivate n
      seq b1) s = .next t ∧ t.mg = s.mg ∧ t.rd (R.MGT_OD_MB_DATA n 1) = BitVec.ofNat 32 (seq.toNat + 65536 * 2) ∧ t.is
      (F.MGT_OD_MB_CTL_DONE n) = true ∧ t.is (F.MGT_OD_MB_CTL_BUSY n) = false) ∧
  (∀ (s : State) (n : Fin 4) (seq : BitVec 16) (b1 : Byte), s.reaches (.od n) (R.MGT_OD_MB_CTL n) → s.is
      (F.MGT_OD_MB_CTL_BUSY n) = false → s.camelliaRuns = false → ∃ t, exec (.imageActivate n seq b1) s = .next t ∧ t.is
      (F.MGT_OD_MB_CTL_BUSY n) = true ∧ t.is (F.MGT_OD_MB_CTL_DONE n) = false ∧ t.mg = s.mg ∧ leAt (t.window n) 0 2 =
      0x11) ∧
  (∀ (s : State) (n : Fin 4) (seq : BitVec 16) (b1 : Byte), s.is (F.MGT_OD_MB_CTL_BUSY n) = true → s.dropReason (.od n)
      (R.MGT_OD_MB_CTL n) = none → exec (.imageActivate n seq b1) s = .next s) ∧
  (∀ (s : State) (n : Fin 4) (seq : BitVec 16), s.reaches (.od n) (R.MGT_OD_MB_CTL n) → s.camelliaRuns = true → s.is
      (F.MGT_OD_MB_CTL_BUSY n) = false → msgRole 0x12 (s.role n) = some false → ∃ t, exec (.imageConfirm n seq) s =
      .next t ∧ t.mg = s.mg ∧ t.rd (R.MGT_OD_MB_DATA n 1) = BitVec.ofNat 32 (seq.toNat + 65536 * 2) ∧ t.is
      (F.MGT_OD_MB_CTL_DONE n) = true ∧ t.is (F.MGT_OD_MB_CTL_BUSY n) = false) ∧
  (∀ (s : State) (n : Fin 4) (seq : BitVec 16), s.reaches (.od n) (R.MGT_OD_MB_CTL n) → s.camelliaRuns = true → s.is
      (F.MGT_OD_MB_CTL_BUSY n) = false → msgRole 0x12 (s.role n) = some true → s.is F.MGT_STATUS_RECOVERY = true → ∃ t,
      exec (.imageConfirm n seq) s = .next t ∧ t.mg = s.mg ∧ t.rd (R.MGT_OD_MB_DATA n 1) = BitVec.ofNat 32 (seq.toNat +
      65536 * 8) ∧ t.is (F.MGT_OD_MB_CTL_DONE n) = true ∧ t.is (F.MGT_OD_MB_CTL_BUSY n) = false) ∧
  (∀ (s : State) (n : Fin 4) (seq : BitVec 16), s.reaches (.od n) (R.MGT_OD_MB_CTL n) → s.is (F.MGT_OD_MB_CTL_BUSY n) =
      false → s.camelliaRuns = false → ∃ t, exec (.imageConfirm n seq) s = .next t ∧ t.is (F.MGT_OD_MB_CTL_BUSY n) =
      true ∧ t.is (F.MGT_OD_MB_CTL_DONE n) = false ∧ t.mg = s.mg ∧ leAt (t.window n) 0 2 = 0x12) ∧
  (∀ (s : State) (n : Fin 4) (seq : BitVec 16), s.is (F.MGT_OD_MB_CTL_BUSY n) = true → s.dropReason (.od n)
      (R.MGT_OD_MB_CTL n) = none → exec (.imageConfirm n seq) s = .next s) ∧
  (∀ (s : State) (n : Fin 4) (seq : BitVec 16) (q1 : BitVec 64) (w1 : Word) (w2 : Word), s.reaches (.od n)
      (R.MGT_OD_MB_CTL n) → s.camelliaRuns = true → s.is (F.MGT_OD_MB_CTL_BUSY n) = false → msgRole 0x20 (s.role n) =
      some false → ∃ t, exec (.journalRead n seq q1 w1 w2) s = .next t ∧ t.mg = s.mg ∧ t.rd (R.MGT_OD_MB_DATA n 1) =
      BitVec.ofNat 32 (seq.toNat + 65536 * 2) ∧ t.is (F.MGT_OD_MB_CTL_DONE n) = true ∧ t.is (F.MGT_OD_MB_CTL_BUSY n) =
      false) ∧
  (∀ (s : State) (n : Fin 4) (seq : BitVec 16) (q1 : BitVec 64) (w1 : Word) (w2 : Word), s.reaches (.od n)
      (R.MGT_OD_MB_CTL n) → s.camelliaRuns = true → s.is (F.MGT_OD_MB_CTL_BUSY n) = false → msgRole 0x20 (s.role n) =
      some true → s.is F.MGT_STATUS_RECOVERY = true → ∃ t, exec (.journalRead n seq q1 w1 w2) s = .next t ∧ t.mg = s.mg
      ∧ t.rd (R.MGT_OD_MB_DATA n 1) = BitVec.ofNat 32 (seq.toNat + 65536 * 8) ∧ t.is (F.MGT_OD_MB_CTL_DONE n) = true ∧
      t.is (F.MGT_OD_MB_CTL_BUSY n) = false) ∧
  (∀ (s : State) (n : Fin 4) (seq : BitVec 16) (q1 : BitVec 64) (w1 : Word) (w2 : Word), s.reaches (.od n)
      (R.MGT_OD_MB_CTL n) → s.is (F.MGT_OD_MB_CTL_BUSY n) = false → s.camelliaRuns = false → ∃ t, exec (.journalRead n
      seq q1 w1 w2) s = .next t ∧ t.is (F.MGT_OD_MB_CTL_BUSY n) = true ∧ t.is (F.MGT_OD_MB_CTL_DONE n) = false ∧ t.mg =
      s.mg ∧ leAt (t.window n) 0 2 = 0x20) ∧
  (∀ (s : State) (n : Fin 4) (seq : BitVec 16) (q1 : BitVec 64) (w1 : Word) (w2 : Word), s.is (F.MGT_OD_MB_CTL_BUSY n) =
      true → s.dropReason (.od n) (R.MGT_OD_MB_CTL n) = none → exec (.journalRead n seq q1 w1 w2) s = .next s) ∧
  (∀ (s : State) (n : Fin 4) (seq : BitVec 16) (a1 : BitVec 16), s.reaches (.od n) (R.MGT_OD_MB_CTL n) → s.camelliaRuns
      = true → s.is (F.MGT_OD_MB_CTL_BUSY n) = false → msgRole 0x21 (s.role n) = some true → s.is F.MGT_STATUS_RECOVERY
      = true → ∃ t, exec (.lifeRead n seq a1) s = .next t ∧ t.mg = s.mg ∧ t.rd (R.MGT_OD_MB_DATA n 1) = BitVec.ofNat 32
      (seq.toNat + 65536 * 8) ∧ t.is (F.MGT_OD_MB_CTL_DONE n) = true ∧ t.is (F.MGT_OD_MB_CTL_BUSY n) = false) ∧
  (∀ (s : State) (n : Fin 4) (seq : BitVec 16) (a1 : BitVec 16), s.reaches (.od n) (R.MGT_OD_MB_CTL n) → s.is
      (F.MGT_OD_MB_CTL_BUSY n) = false → s.camelliaRuns = false → ∃ t, exec (.lifeRead n seq a1) s = .next t ∧ t.is
      (F.MGT_OD_MB_CTL_BUSY n) = true ∧ t.is (F.MGT_OD_MB_CTL_DONE n) = false ∧ t.mg = s.mg ∧ leAt (t.window n) 0 2 =
      0x21) ∧
  (∀ (s : State) (n : Fin 4) (seq : BitVec 16) (a1 : BitVec 16), s.is (F.MGT_OD_MB_CTL_BUSY n) = true → s.dropReason
      (.od n) (R.MGT_OD_MB_CTL n) = none → exec (.lifeRead n seq a1) s = .next s) ∧
  (∀ (s : State) (n : Fin 4) (seq : BitVec 16), s.reaches (.od n) (R.MGT_OD_MB_CTL n) → s.camelliaRuns = true → s.is
      (F.MGT_OD_MB_CTL_BUSY n) = false → msgRole 0x22 (s.role n) = some true → s.is F.MGT_STATUS_RECOVERY = true → ∃ t,
      exec (.sensorRead n seq) s = .next t ∧ t.mg = s.mg ∧ t.rd (R.MGT_OD_MB_DATA n 1) = BitVec.ofNat 32 (seq.toNat +
      65536 * 8) ∧ t.is (F.MGT_OD_MB_CTL_DONE n) = true ∧ t.is (F.MGT_OD_MB_CTL_BUSY n) = false) ∧
  (∀ (s : State) (n : Fin 4) (seq : BitVec 16), s.reaches (.od n) (R.MGT_OD_MB_CTL n) → s.is (F.MGT_OD_MB_CTL_BUSY n) =
      false → s.camelliaRuns = false → ∃ t, exec (.sensorRead n seq) s = .next t ∧ t.is (F.MGT_OD_MB_CTL_BUSY n) = true
      ∧ t.is (F.MGT_OD_MB_CTL_DONE n) = false ∧ t.mg = s.mg ∧ leAt (t.window n) 0 2 = 0x22) ∧
  (∀ (s : State) (n : Fin 4) (seq : BitVec 16), s.is (F.MGT_OD_MB_CTL_BUSY n) = true → s.dropReason (.od n)
      (R.MGT_OD_MB_CTL n) = none → exec (.sensorRead n seq) s = .next s) ∧
  (∀ (s : State) (n : Fin 4) (seq : BitVec 16) (a1 : BitVec 16), s.reaches (.od n) (R.MGT_OD_MB_CTL n) → s.camelliaRuns
      = true → s.is (F.MGT_OD_MB_CTL_BUSY n) = false → msgRole 0x30 (s.role n) = some false → ∃ t, exec (.planList n seq
      a1) s = .next t ∧ t.mg = s.mg ∧ t.rd (R.MGT_OD_MB_DATA n 1) = BitVec.ofNat 32 (seq.toNat + 65536 * 2) ∧ t.is
      (F.MGT_OD_MB_CTL_DONE n) = true ∧ t.is (F.MGT_OD_MB_CTL_BUSY n) = false) ∧
  (∀ (s : State) (n : Fin 4) (seq : BitVec 16) (a1 : BitVec 16), s.reaches (.od n) (R.MGT_OD_MB_CTL n) → s.camelliaRuns
      = true → s.is (F.MGT_OD_MB_CTL_BUSY n) = false → msgRole 0x30 (s.role n) = some true → s.is F.MGT_STATUS_RECOVERY
      = true → ∃ t, exec (.planList n seq a1) s = .next t ∧ t.mg = s.mg ∧ t.rd (R.MGT_OD_MB_DATA n 1) = BitVec.ofNat 32
      (seq.toNat + 65536 * 8) ∧ t.is (F.MGT_OD_MB_CTL_DONE n) = true ∧ t.is (F.MGT_OD_MB_CTL_BUSY n) = false) ∧
  (∀ (s : State) (n : Fin 4) (seq : BitVec 16) (a1 : BitVec 16), s.reaches (.od n) (R.MGT_OD_MB_CTL n) → s.is
      (F.MGT_OD_MB_CTL_BUSY n) = false → s.camelliaRuns = false → ∃ t, exec (.planList n seq a1) s = .next t ∧ t.is
      (F.MGT_OD_MB_CTL_BUSY n) = true ∧ t.is (F.MGT_OD_MB_CTL_DONE n) = false ∧ t.mg = s.mg ∧ leAt (t.window n) 0 2 =
      0x30) ∧
  (∀ (s : State) (n : Fin 4) (seq : BitVec 16) (a1 : BitVec 16), s.is (F.MGT_OD_MB_CTL_BUSY n) = true → s.dropReason
      (.od n) (R.MGT_OD_MB_CTL n) = none → exec (.planList n seq a1) s = .next s) ∧
  (∀ (s : State) (n : Fin 4) (seq : BitVec 16) (ticket : BitVec 16) (e : LedgerEntry), s.reaches (.od n)
      (R.MGT_OD_MB_CTL n) → s.camelliaRuns = true → s.is (F.MGT_OD_MB_CTL_BUSY n) = false → s.is F.MGT_STATUS_RECOVERY =
      false → s.role n ≠ .observer → s.mg.deferred = none → s.mg.ledger.find? (fun e => e.ticket == ticket.toNat &&
      e.holder == n.val) = some e → ∃ t, exec (.ledgerRelease n seq ticket) s = .next t ∧ t.mg.ledger =
      s.mg.ledger.filter (fun x => x.ticket != ticket.toNat) ∧ t.rd (R.MGT_OD_MB_DATA n 1) = BitVec.ofNat 32 (seq.toNat
      + 65536 * 0) ∧ t.is (F.MGT_OD_MB_CTL_DONE n) = true ∧ t.is (F.MGT_OD_MB_CTL_BUSY n) = false) ∧
  (∀ (s : State) (n : Fin 4) (seq : BitVec 16) (ticket : BitVec 16), s.reaches (.od n) (R.MGT_OD_MB_CTL n) →
      s.camelliaRuns = true → s.is (F.MGT_OD_MB_CTL_BUSY n) = false → s.is F.MGT_STATUS_RECOVERY = false → s.role n ≠
      .observer → s.mg.ledger.find? (fun e => e.ticket == ticket.toNat && e.holder == n.val) = none → ∃ t, exec
      (.ledgerRelease n seq ticket) s = .next t ∧ t.mg.ledger = s.mg.ledger ∧ t.rd (R.MGT_OD_MB_DATA n 1) = BitVec.ofNat
      32 (seq.toNat + 65536 * 9) ∧ t.is (F.MGT_OD_MB_CTL_DONE n) = true ∧ t.is (F.MGT_OD_MB_CTL_BUSY n) = false) ∧
  (∀ (s : State) (n : Fin 4) (seq : BitVec 16) (first : BitVec 16), s.reaches (.od n) (R.MGT_OD_MB_CTL n) →
      s.camelliaRuns = true → s.is (F.MGT_OD_MB_CTL_BUSY n) = false → s.is F.MGT_STATUS_RECOVERY = false → s.role n ≠
      .observer → ∃ t, exec (.ledgerList n seq first) s = .next t ∧ t.mg = s.mg ∧ t.rd (R.MGT_OD_MB_DATA n 1) =
      BitVec.ofNat 32 (seq.toNat + 65536 * 0) ∧ t.is (F.MGT_OD_MB_CTL_DONE n) = true ∧ t.is (F.MGT_OD_MB_CTL_BUSY n) =
      false) ∧
  (∀ (s : State) (ticket : BitVec 16) (e : LedgerEntry), s.mg.ledger.find? (fun e => e.ticket == ticket.toNat) = some e
      → s.camelliaRuns = true → e.since + longestHold e.activity * 250000000 ≤ s.tb.ticks → s.mg.deferred = none → ∃ t,
      exec (.ledgerWithdraw ticket) s = .next t ∧ t.mg.ledger = s.mg.ledger.filter (fun x => x.ticket != ticket.toNat)) ∧
  (∀ (s : State) (ticket : BitVec 16), s.camelliaRuns = false ∨ s.mg.ledger.find? (fun e => e.ticket == ticket.toNat) =
      none → exec (.ledgerWithdraw ticket) s = .next s) ∧
  (∀ (s : State) (n : Fin 4) (x : Image) (p : List Byte), s.camelliaRuns = true → s.is (F.MGT_OD_MB_CTL_BUSY n) = true →
      leAt (s.window n) 0 2 = 0x10 → p = ((s.window n).drop 8).take (leAt (s.window n) 2 2) → s.handleErr n false
      (BitVec.ofNat 32 (leAt p 0 4)) = none → 0 < leAt p 4 4 → leAt p 4 4 ≤ classSize (handleClass (BitVec.ofNat 32
      (leAt p 0 4))) → s.role n = .maintainer → s.imageCheck x = 0 → ∃ t, exec (.imageStage n x) s = .next t ∧ t.slot
      s.otherSlot = some x ∧ t.slot (s.g F.MGT_STATUS_SLOT) = s.slot (s.g F.MGT_STATUS_SLOT) ∧ t.is
      (F.MGT_OD_MB_CTL_DONE n) = true ∧ t.is (F.MGT_OD_MB_CTL_BUSY n) = false) ∧
  (∀ (s : State) (n : Fin 4) (x : Image) (p : List Byte), s.camelliaRuns = true → s.is (F.MGT_OD_MB_CTL_BUSY n) = true →
      leAt (s.window n) 0 2 = 0x10 → p = ((s.window n).drop 8).take (leAt (s.window n) 2 2) → s.handleErr n false
      (BitVec.ofNat 32 (leAt p 0 4)) = none → 0 < leAt p 4 4 → leAt p 4 4 ≤ classSize (handleClass (BitVec.ofNat 32
      (leAt p 0 4))) → s.role n = .maintainer → s.imageCheck x ≠ 0 → ∃ t, exec (.imageStage n x) s = .next t ∧
      t.mg.slotA = s.mg.slotA ∧ t.mg.slotB = s.mg.slotB ∧ t.is (F.MGT_OD_MB_CTL_DONE n) = true) ∧
  (∀ (s : State) (n : Fin 4) (x : Image) (p : List Byte) (pol : Policy), s.camelliaRuns = true → s.is
      (F.MGT_OD_MB_CTL_BUSY n) = true → leAt (s.window n) 0 2 = 0x13 → p = ((s.window n).drop 8).take (leAt (s.window n)
      2 2) → s.handleErr n false (BitVec.ofNat 32 (leAt p 0 4)) = none → 0 < leAt p 4 4 → leAt p 4 4 ≤ classSize
      (handleClass (BitVec.ofNat 32 (leAt p 0 4))) → s.role n = .maintainer → s.is F.MGT_STATUS_RECOVERY = false → ∃ t,
      exec (.policyStage n x pol) s = .next t ∧ t.mg.policyStaged = some (pol, x) ∧ t.pol = s.pol ∧ t.mg.policyFlash =
      s.mg.policyFlash) ∧
  (∀ (s : State) (n : Fin 4) (x : Image), s.camelliaRuns = false ∨ s.is (F.MGT_OD_MB_CTL_BUSY n) = false ∨ leAt
      (s.window n) 0 2 ≠ 0x10 → exec (.imageStage n x) s = .next s) ∧
  (∀ (s : State) (n : Fin 4) (x : Image), s.camelliaRuns = true → s.is (F.MGT_OD_MB_CTL_BUSY n) = true → leAt (s.window
      n) 0 2 = 0x10 → s.role n ≠ .maintainer → ∃ t, exec (.imageStage n x) s = .next t ∧ t.mg = s.mg ∧ t.is
      (F.MGT_OD_MB_CTL_DONE n) = true ∧ t.is (F.MGT_OD_MB_CTL_BUSY n) = false ∧ getBits (t.rd (R.MGT_OD_MB_DATA n 1)) 16
      8 = 2) ∧
  (∀ (s : State) (n : Fin 4) (x : Image) (p : List Byte) (st : Nat), s.camelliaRuns = true → s.is (F.MGT_OD_MB_CTL_BUSY
      n) = true → leAt (s.window n) 0 2 = 0x10 → s.role n = .maintainer → p = ((s.window n).drop 8).take (leAt (s.window
      n) 2 2) → s.handleErr n false (BitVec.ofNat 32 (leAt p 0 4)) = some st → ∃ t, exec (.imageStage n x) s = .next t ∧
      t.mg = s.mg ∧ t.is (F.MGT_OD_MB_CTL_DONE n) = true ∧ t.is (F.MGT_OD_MB_CTL_BUSY n) = false ∧ getBits (t.rd
      (R.MGT_OD_MB_DATA n 1)) 16 8 = 3) ∧
  (∀ (s : State) (n : Fin 4) (x : Image) (pol : Policy), s.camelliaRuns = false ∨ s.is (F.MGT_OD_MB_CTL_BUSY n) = false
      ∨ leAt (s.window n) 0 2 ≠ 0x13 → exec (.policyStage n x pol) s = .next s) ∧
  (∀ (s : State) (n : Fin 4) (x : Image) (pol : Policy), s.camelliaRuns = true → s.is (F.MGT_OD_MB_CTL_BUSY n) = true →
      leAt (s.window n) 0 2 = 0x13 → s.role n ≠ .maintainer → ∃ t, exec (.policyStage n x pol) s = .next t ∧ t.mg = s.mg
      ∧ t.is (F.MGT_OD_MB_CTL_DONE n) = true ∧ t.is (F.MGT_OD_MB_CTL_BUSY n) = false ∧ getBits (t.rd (R.MGT_OD_MB_DATA n
      1)) 16 8 = 2) ∧
  (∀ (s : State) (n : Fin 4) (x : Image) (pol : Policy), s.camelliaRuns = true → s.is (F.MGT_OD_MB_CTL_BUSY n) = true →
      leAt (s.window n) 0 2 = 0x13 → s.role n = .maintainer → s.is F.MGT_STATUS_RECOVERY = true → ∃ t, exec
      (.policyStage n x pol) s = .next t ∧ t.mg = s.mg ∧ t.is (F.MGT_OD_MB_CTL_DONE n) = true ∧ t.is
      (F.MGT_OD_MB_CTL_BUSY n) = false ∧ getBits (t.rd (R.MGT_OD_MB_DATA n 1)) 16 8 = 8) ∧
  (∀ (s : State) (n : Fin 4) (x : Image) (pol : Policy) (p : List Byte) (st : Nat), s.camelliaRuns = true → s.is
      (F.MGT_OD_MB_CTL_BUSY n) = true → leAt (s.window n) 0 2 = 0x13 → s.role n = .maintainer → s.is
      F.MGT_STATUS_RECOVERY = false → p = ((s.window n).drop 8).take (leAt (s.window n) 2 2) → s.handleErr n false
      (BitVec.ofNat 32 (leAt p 0 4)) = some st → ∃ t, exec (.policyStage n x pol) s = .next t ∧ t.mg = s.mg ∧ t.is
      (F.MGT_OD_MB_CTL_DONE n) = true ∧ t.is (F.MGT_OD_MB_CTL_BUSY n) = false ∧ getBits (t.rd (R.MGT_OD_MB_DATA n 1)) 16
      8 = 3) ∧
  (∀ (s : State) (n : Fin 4) (seq : BitVec 16) (x : Image), s.reaches (.od n) (R.MGT_OD_MB_CTL n) → s.camelliaRuns =
      true → s.is (F.MGT_OD_MB_CTL_BUSY n) = false → s.role n = .maintainer → s.slot s.otherSlot = some x → ∃ t, exec
      (.imageActivate n seq 0) s = .next t ∧ t.mg.preferredB = !s.is F.MGT_STATUS_SLOT ∧ t.mg.trialFlag = true ∧
      t.mg.ledger = s.mg.ledger ∧ t.rd (R.MGT_OD_MB_DATA n 1) = BitVec.ofNat 32 (seq.toNat + 65536 * 0) ∧ t.is
      (F.MGT_OD_MB_CTL_DONE n) = true ∧ t.is (F.MGT_OD_MB_CTL_BUSY n) = false) ∧
  (∀ (s : State) (n : Fin 4) (seq : BitVec 16) (x : Image), s.reaches (.od n) (R.MGT_OD_MB_CTL n) → s.camelliaRuns =
      true → s.is (F.MGT_OD_MB_CTL_BUSY n) = false → s.role n = .maintainer → s.is F.MGT_STATUS_RECOVERY = false → s.is
      F.MGT_STATUS_TRIAL = true → s.slot (s.g F.MGT_STATUS_SLOT) = some x → ∃ t, exec (.imageConfirm n seq) s = .next t
      ∧ t.mg.trialFlag = false ∧ t.mg.rollback = max s.mg.rollback x.svn ∧ t.is F.MGT_STATUS_TRIAL = false ∧ t.rd
      (R.MGT_OD_MB_DATA n 1) = BitVec.ofNat 32 (seq.toNat + 65536 * 0) ∧ t.is (F.MGT_OD_MB_CTL_DONE n) = true ∧ t.is
      (F.MGT_OD_MB_CTL_BUSY n) = false) ∧
  (∀ (s : State) (n : Fin 4) (seq : BitVec 16) (mode : Byte), s.reaches (.od n) (R.MGT_OD_MB_CTL n) → s.camelliaRuns =
      true → s.is (F.MGT_OD_MB_CTL_BUSY n) = false → s.role n = .maintainer → s.slot s.otherSlot = none ∨ 2 < mode.toNat
      → ∃ t, exec (.imageActivate n seq mode) s = .next t ∧ t.mg = s.mg ∧ t.rd (R.MGT_OD_MB_DATA n 1) = BitVec.ofNat 32
      (seq.toNat + 65536 * 3) ∧ t.is (F.MGT_OD_MB_CTL_DONE n) = true ∧ t.is (F.MGT_OD_MB_CTL_BUSY n) = false) ∧
  (∀ (s : State) (n : Fin 4) (seq : BitVec 16) (mode : Byte) (x : Image), s.reaches (.od n) (R.MGT_OD_MB_CTL n) →
      s.camelliaRuns = true → s.is (F.MGT_OD_MB_CTL_BUSY n) = false → s.role n = .maintainer → s.slot s.otherSlot = some
      x → mode.toNat = 2 → x.changesCore = true → ∃ t, exec (.imageActivate n seq mode) s = .next t ∧ t.mg = s.mg ∧ t.rd
      (R.MGT_OD_MB_DATA n 1) = BitVec.ofNat 32 (seq.toNat + 65536 * 3) ∧ t.is (F.MGT_OD_MB_CTL_DONE n) = true ∧ t.is
      (F.MGT_OD_MB_CTL_BUSY n) = false) ∧
  (∀ (s : State) (n : Fin 4) (seq : BitVec 16) (mode : Byte) (x : Image), s.reaches (.od n) (R.MGT_OD_MB_CTL n) →
      s.camelliaRuns = true → s.is (F.MGT_OD_MB_CTL_BUSY n) = false → s.role n = .maintainer → s.slot s.otherSlot = some
      x → mode.toNat = 2 → x.changesCore = false → s.motionIdle = false → ∃ t, exec (.imageActivate n seq mode) s =
      .next t ∧ t.mg = s.mg ∧ t.rd (R.MGT_OD_MB_DATA n 1) = BitVec.ofNat 32 (seq.toNat + 65536 * 8) ∧ t.is
      (F.MGT_OD_MB_CTL_DONE n) = true ∧ t.is (F.MGT_OD_MB_CTL_BUSY n) = false) ∧
  (∀ (s : State) (n : Fin 4) (seq : BitVec 16) (mode : Byte) (x : Image), s.reaches (.od n) (R.MGT_OD_MB_CTL n) →
      s.camelliaRuns = true → s.is (F.MGT_OD_MB_CTL_BUSY n) = false → s.role n = .maintainer → s.slot s.otherSlot = some
      x → mode.toNat = 2 → x.changesCore = false → s.motionIdle = true → s.mg.deferred = none → s.mg.ledger.find?
      (conflicts 5 0) = none → s.mg.ledger.any (fun e => defers e.activity) = false → ∃ t, exec (.imageActivate n seq
      mode) s = .next t ∧ t.mg.lastTicket = nextTicket s.mg.lastTicket ∧ t.mg.ledger = s.mg.ledger ++ [⟨5, 0, n,
      nextTicket s.mg.lastTicket, s.tb.ticks⟩] ∧ t.is F.GLB_READY_FW_VERIFIED = s.is F.GLB_READY_FW_VERIFIED ∧ t.rd
      (R.MGT_OD_MB_DATA n 1) = BitVec.ofNat 32 (seq.toNat + 65536 * 0) ∧ t.is (F.MGT_OD_MB_CTL_DONE n) = true ∧ t.is
      (F.MGT_OD_MB_CTL_BUSY n) = false) ∧
  (∀ (s : State) (n : Fin 4) (seq : BitVec 16) (mode : Byte) (x : Image), s.reaches (.od n) (R.MGT_OD_MB_CTL n) →
      s.camelliaRuns = true → s.is (F.MGT_OD_MB_CTL_BUSY n) = false → s.role n = .maintainer → s.slot s.otherSlot = some
      x → mode.toNat = 1 → s.mg.deferred = none → s.mg.ledger.find? (conflicts 5 0) = none → s.mg.ledger.any (fun e =>
      defers e.activity) = false → ∃ t, exec (.imageActivate n seq mode) s = .next t ∧ t.mg.preferredB = !s.is
      F.MGT_STATUS_SLOT ∧ t.mg.trialFlag = true ∧ t.g F.RST_CAUSE_LAST = 6 ∧ t.clk.down.contains 8 = true) ∧
  (∀ (s : State) (n : Fin 4) (seq : BitVec 16) (mode : Byte) (x : Image), s.reaches (.od n) (R.MGT_OD_MB_CTL n) →
      s.camelliaRuns = true → s.is (F.MGT_OD_MB_CTL_BUSY n) = false → s.role n = .maintainer → s.slot s.otherSlot = some
      x → mode.toNat = 1 ∨ (mode.toNat = 2 ∧ x.changesCore = false ∧ s.motionIdle = true) → s.mg.deferred = none →
      s.mg.ledger.find? (conflicts 5 0) = none → s.mg.ledger.any (fun e => defers e.activity) = true → ∃ t, exec
      (.imageActivate n seq mode) s = .next t ∧ t.mg.deferred = some (n.val, mode.toNat) ∧ t.mg.ledger = s.mg.ledger ∧
      t.rd (R.MGT_OD_MB_DATA n 1) = BitVec.ofNat 32 (seq.toNat + 65536 * 5) ∧ t.is (F.MGT_OD_MB_CTL_DONE n) = true ∧
      t.is (F.MGT_OD_MB_CTL_BUSY n) = false) ∧
  (∀ (s : State) (n : Fin 4) (seq : BitVec 16) (mode : Byte) (x : Image) (e : LedgerEntry), s.reaches (.od n)
      (R.MGT_OD_MB_CTL n) → s.camelliaRuns = true → s.is (F.MGT_OD_MB_CTL_BUSY n) = false → s.role n = .maintainer →
      s.slot s.otherSlot = some x → mode.toNat = 1 ∨ (mode.toNat = 2 ∧ x.changesCore = false ∧ s.motionIdle = true) →
      s.mg.deferred = none → s.mg.ledger.find? (conflicts 5 0) = some e → ∃ t, exec (.imageActivate n seq mode) s =
      .next t ∧ t.mg.ledger = s.mg.ledger ∧ t.mg.preferredB = s.mg.preferredB ∧ t.rd (R.MGT_OD_MB_DATA n 1) =
      BitVec.ofNat 32 (seq.toNat + 65536 * 4) ∧ t.is (F.MGT_OD_MB_CTL_DONE n) = true ∧ t.is (F.MGT_OD_MB_CTL_BUSY n) =
      false) ∧
  (∀ (s : State) (n : Fin 4) (seq : BitVec 16) (mode : Byte) (x : Image), s.reaches (.od n) (R.MGT_OD_MB_CTL n) →
      s.camelliaRuns = true → s.is (F.MGT_OD_MB_CTL_BUSY n) = false → s.role n = .maintainer → s.slot s.otherSlot = some
      x → mode.toNat = 1 ∨ (mode.toNat = 2 ∧ x.changesCore = false ∧ s.motionIdle = true) → s.mg.deferred.isSome = true
      → ∃ t, exec (.imageActivate n seq mode) s = .next t ∧ t.mg.ledger = s.mg.ledger ∧ t.mg.deferred = s.mg.deferred ∧
      t.mg.lastTicket = s.mg.lastTicket ∧ t.rd (R.MGT_OD_MB_DATA n 1) = BitVec.ofNat 32 (seq.toNat + 65536 * 8) ∧ t.is
      (F.MGT_OD_MB_CTL_DONE n) = true ∧ t.is (F.MGT_OD_MB_CTL_BUSY n) = false) ∧
  (∀ (s : State) (n : Fin 4) (seq : BitVec 16), s.reaches (.od n) (R.MGT_OD_MB_CTL n) → s.camelliaRuns = true → s.is
      (F.MGT_OD_MB_CTL_BUSY n) = false → s.role n = .maintainer → s.is F.MGT_STATUS_RECOVERY = false → s.is
      F.MGT_STATUS_TRIAL = false ∨ s.slot (s.g F.MGT_STATUS_SLOT) = none → ∃ t, exec (.imageConfirm n seq) s = .next t ∧
      t.mg = s.mg ∧ t.rd (R.MGT_OD_MB_DATA n 1) = BitVec.ofNat 32 (seq.toNat + 65536 * 3) ∧ t.is (F.MGT_OD_MB_CTL_DONE
      n) = true ∧ t.is (F.MGT_OD_MB_CTL_BUSY n) = false) ∧
  (∀ (s : State) (n : Fin 4) (seq : BitVec 16) (first : BitVec 64) (count : Word) (handle : Word), s.reaches (.od n)
      (R.MGT_OD_MB_CTL n) → s.camelliaRuns = true → s.is (F.MGT_OD_MB_CTL_BUSY n) = false → s.is F.MGT_STATUS_RECOVERY =
      false → s.role n = .maintainer ∨ s.role n = .safety → (s.handleErr n false handle).isSome = true → ∃ t, exec
      (.journalRead n seq first count handle) s = .next t ∧ t.mg = s.mg ∧ t.rd (R.MGT_OD_MB_DATA n 1) = BitVec.ofNat 32
      (seq.toNat + 65536 * 3) ∧ t.is (F.MGT_OD_MB_CTL_DONE n) = true ∧ t.is (F.MGT_OD_MB_CTL_BUSY n) = false) ∧
  (∀ (s : State) (n : Fin 4) (seq : BitVec 16) (first : BitVec 64) (count : Word) (handle : Word), s.reaches (.od n)
      (R.MGT_OD_MB_CTL n) → s.camelliaRuns = true → s.is (F.MGT_OD_MB_CTL_BUSY n) = false → s.is F.MGT_STATUS_RECOVERY =
      false → s.role n = .maintainer ∨ s.role n = .safety → s.handleErr n false handle = none → count.toNat = 0 ∨ 65536
      < count.toNat → ∃ t, exec (.journalRead n seq first count handle) s = .next t ∧ t.mg = s.mg ∧ t.rd
      (R.MGT_OD_MB_DATA n 1) = BitVec.ofNat 32 (seq.toNat + 65536 * 3) ∧ t.is (F.MGT_OD_MB_CTL_DONE n) = true ∧ t.is
      (F.MGT_OD_MB_CTL_BUSY n) = false) ∧
  (∀ (s : State) (n : Fin 4) (seq : BitVec 16) (first : BitVec 16), s.reaches (.od n) (R.MGT_OD_MB_CTL n) →
      s.camelliaRuns = true → s.is (F.MGT_OD_MB_CTL_BUSY n) = false → s.is F.MGT_STATUS_RECOVERY = false → s.role n ≠
      .observer → 97 < first.toNat → ∃ t, exec (.lifeRead n seq first) s = .next t ∧ t.mg = s.mg ∧ t.rd
      (R.MGT_OD_MB_DATA n 1) = BitVec.ofNat 32 (seq.toNat + 65536 * 3) ∧ t.is (F.MGT_OD_MB_CTL_DONE n) = true ∧ t.is
      (F.MGT_OD_MB_CTL_BUSY n) = false) ∧
  (∀ (s : State) (n : Fin 4) (seq : BitVec 16) (first : BitVec 64) (count : Word) (handle : Word), s.reaches (.od n)
      (R.MGT_OD_MB_CTL n) → s.camelliaRuns = true → s.is (F.MGT_OD_MB_CTL_BUSY n) = false → s.is F.MGT_STATUS_RECOVERY =
      false → s.role n = .maintainer ∨ s.role n = .safety → s.handleErr n false handle = none → 1 ≤ count.toNat →
      count.toNat ≤ 65536 → ∃ t, exec (.journalRead n seq first count handle) s = .next t ∧ t.mg = s.mg ∧ t.rd
      (R.MGT_OD_MB_DATA n 1) = BitVec.ofNat 32 (seq.toNat + 65536 * 0) ∧ t.is (F.MGT_OD_MB_CTL_DONE n) = true ∧ t.is
      (F.MGT_OD_MB_CTL_BUSY n) = false) ∧
  (∀ (s : State) (n : Fin 4) (seq : BitVec 16) (first : BitVec 16), s.reaches (.od n) (R.MGT_OD_MB_CTL n) →
      s.camelliaRuns = true → s.is (F.MGT_OD_MB_CTL_BUSY n) = false → s.is F.MGT_STATUS_RECOVERY = false → s.role n ≠
      .observer → first.toNat ≤ 97 → ∃ t, exec (.lifeRead n seq first) s = .next t ∧ t.mg = s.mg ∧ t.rd
      (R.MGT_OD_MB_DATA n 1) = BitVec.ofNat 32 (seq.toNat + 65536 * 0) ∧ t.is (F.MGT_OD_MB_CTL_DONE n) = true ∧ t.is
      (F.MGT_OD_MB_CTL_BUSY n) = false) ∧
  (∀ (s : State) (n : Fin 4) (seq : BitVec 16) (first : BitVec 16), s.reaches (.od n) (R.MGT_OD_MB_CTL n) →
      s.camelliaRuns = true → s.is (F.MGT_OD_MB_CTL_BUSY n) = false → s.is F.MGT_STATUS_RECOVERY = false → s.role n =
      .maintainer → ∃ t, exec (.planList n seq first) s = .next t ∧ t.mg = s.mg ∧ t.rd (R.MGT_OD_MB_DATA n 1) =
      BitVec.ofNat 32 (seq.toNat + 65536 * 0) ∧ t.is (F.MGT_OD_MB_CTL_DONE n) = true ∧ t.is (F.MGT_OD_MB_CTL_BUSY n) =
      false) ∧
  (∀ (s : State) (n : Fin 4) (seq : BitVec 16), s.reaches (.od n) (R.MGT_OD_MB_CTL n) → s.camelliaRuns = true → s.is
      (F.MGT_OD_MB_CTL_BUSY n) = false → s.is F.MGT_STATUS_RECOVERY = false → s.role n ≠ .observer → ∃ t, exec
      (.sensorRead n seq) s = .next t ∧ t.mg = s.mg ∧ t.rd (R.MGT_OD_MB_DATA n 1) = BitVec.ofNat 32 (seq.toNat + 65536 *
      0) ∧ t.is (F.MGT_OD_MB_CTL_DONE n) = true ∧ t.is (F.MGT_OD_MB_CTL_BUSY n) = false) ∧
  (∀ (s : State) (n : Fin 4) (seq : BitVec 16) (type : BitVec 16), s.reaches (.od n) (R.MGT_OD_MB_CTL n) →
      s.camelliaRuns = true → s.is (F.MGT_OD_MB_CTL_BUSY n) = false → msgRole type.toNat .maintainer = none → ∃ t, exec
      (.badTypeMessage n seq type) s = .next t ∧ t.mg = s.mg ∧ t.rd (R.MGT_OD_MB_DATA n 1) = BitVec.ofNat 32 (seq.toNat
      + 65536 * 1) ∧ t.is (F.MGT_OD_MB_CTL_DONE n) = true ∧ t.is (F.MGT_OD_MB_CTL_BUSY n) = false) ∧
  (∀ (s : State) (n : Fin 4) (k : Fin 8) (d : Desc) (msg : List Byte) (x : Image) (pol : Policy), s.startsDesc n k 0x45
      d (d.target == 0) (d.zeroFrom 36 && 8 ≤ d.field 24 4 && d.field 24 4 ≤ 4096) → s.camelliaRuns = true → d.field 24
      4 = 8 → msg.length = 8 → leAt msg 0 2 = 0x99 → ∃ t, exec (.mgtMsg n k d msg x pol) s = .next t ∧ t.mg = s.mg ∧
      .host n (d.field 28 8) (bytesLE 2 0x99 ++ bytesLE 2 0 ++ bytesLE 2 (leAt msg 4 2) ++ [1, 0]) ∈ t.out) ∧
  (∀ (s : State) (n : Fin 4) (k : Fin 8) (d : Desc) (msg : List Byte) (x : Image) (pol : Policy), s.startsDesc n k 0x45
      d (d.target == 0) (d.zeroFrom 36 && 8 ≤ d.field 24 4 && d.field 24 4 ≤ 4096) → s.camelliaRuns = true → d.field 24
      4 ≤ msg.length → ∃ t, exec (.mgtMsg n k d msg x pol) s = .next t ∧ (t.out.map (Out.replyStatus n (d.field 28 8)
      (leAt msg 0 2) (leAt msg 4 2))).any Option.isSome = true) ∧
  (∀ (s : State) (n : Fin 4) (k : Fin 8) (d : Desc) (msg : List Byte) (x : Image) (pol : Policy), s.startsDesc n k 0x45
      d (d.target == 0) (d.zeroFrom 36 && 8 ≤ d.field 24 4 && d.field 24 4 ≤ 4096) → s.camelliaRuns = true → d.field 24
      4 ≤ msg.length → msgRole (leAt msg 0 2) (s.role n) = none → ∃ t, exec (.mgtMsg n k d msg x pol) s = .next t ∧ t.mg
      = s.mg ∧ (t.out.map (Out.replyStatus n (d.field 28 8) (leAt msg 0 2) (leAt msg 4 2))).any (· == some 1) = true) ∧
  (∀ (s : State) (n : Fin 4) (k : Fin 8) (d : Desc) (msg : List Byte) (x : Image) (pol : Policy), s.startsDesc n k 0x45
      d (d.target == 0) (d.zeroFrom 36 && 8 ≤ d.field 24 4 && d.field 24 4 ≤ 4096) → s.camelliaRuns = true → d.field 24
      4 ≤ msg.length → msgRole (leAt msg 0 2) (s.role n) = some false → ∃ t, exec (.mgtMsg n k d msg x pol) s = .next t
      ∧ t.mg = s.mg ∧ (t.out.map (Out.replyStatus n (d.field 28 8) (leAt msg 0 2) (leAt msg 4 2))).any (· == some 2) =
      true) ∧
  (∀ (s : State) (n : Fin 4) (k : Fin 8) (d : Desc) (msg : List Byte) (x : Image) (pol : Policy), s.startsDesc n k 0x45
      d (d.target == 0) (d.zeroFrom 36 && 8 ≤ d.field 24 4 && d.field 24 4 ≤ 4096) → s.camelliaRuns = true → d.field 24
      4 ≤ msg.length → msgRole (leAt msg 0 2) (s.role n) = some true → s.is F.MGT_STATUS_RECOVERY = true → leAt msg 0 2
      ≠ 0x10 → leAt msg 0 2 ≠ 0x11 → ∃ t, exec (.mgtMsg n k d msg x pol) s = .next t ∧ t.mg = s.mg ∧ (t.out.map
      (Out.replyStatus n (d.field 28 8) (leAt msg 0 2) (leAt msg 4 2))).any (· == some 8) = true) ∧
  (∀ (s : State) (n : Fin 4) (k : Fin 8) (d : Desc) (msg : List Byte) (x : Image) (pol : Policy), s.startsDesc n k 0x45
      d (d.target == 0) (d.zeroFrom 36 && 8 ≤ d.field 24 4 && d.field 24 4 ≤ 4096) → s.isolated regMgmt = true ∨
      (s.camelliaRuns = true ∧ msg.length < d.field 24 4) → (s.sqOf n k).closing = false → ∃ t, exec (.mgtMsg n k d msg
      x pol) s = .next t ∧ t.mg = s.mg ∧ (t.sqOf n k).next = ((s.sqOf n k).next + 1) % s.sqDepth n k) ∧
  (∀ (s : State) (n : Fin 4) (k : Fin 8) (d : Desc) (msg : List Byte) (x : Image) (pol : Policy), s.isolated regMgmt =
      false → s.camelliaRuns = false → exec (.mgtMsg n k d msg x pol) s = .next s)

/-- Each of these completes under the conditions its clause gives. While Camellia runs its services, each update that is
due brings the junction temperature of every axis to the value of the rule, and the evaluation of a new hour takes
the peak and restarts the hour; while Camellia does not run, neither changes anything. -/
def Obligations.AgeingFollowsItsRules : Prop :=
  (∀ (s : State), s.camelliaRuns = false → exec .thermalModelUpdate s = .next s) ∧
  (∀ (s : State) (n : Fin 16) (x : Int), s.dutyDue dutyThermal 1 = true → s.nextTj n = some x → ∃ t, exec
      .thermalModelUpdate s = .next t ∧ (t.thermalOf n).tj = x ∧ (t.thermalOf n).peak = max (s.thermalOf n).peak x) ∧
  (∀ (s : State), s.camelliaRuns = false → exec .replan s = .next s) ∧
  (∀ (s : State) (n : Fin 16), s.camelliaRuns = true → s.calendarHour ≠ s.mg.replanHour → ∃ t, exec .replan s = .next t
      ∧ (t.thermalOf n).peak = (s.thermalOf n).tj ∧ (t.thermalOf n).lifeHour = (s.thermalOf n).life ∧ t.gi
      (F.MGT_AX_TH_TJ_PEAK_H_TJ_PEAK_H n) = signed 32 (unsigned 32 (floorDiv (s.thermalOf n).peak (2 ^ 28))))

/-- Each of these operations and events of the test access port completes under the conditions its clause gives. An
instruction is selected; IDCODE, the challenge and the status shift out; a certificate that passes opens a session
and draws a new challenge, the third refused one in a row starts a refusal period, which ends after 60 s; a session
ends by its lock or past notAfter; a halted core keeps what the port writes until it runs; an operation on a target
that the session does not open reads all ones, and one without any of the two permissions selects the bypass
register; what a core holds that the port has not written since it last ran is an open value; the end of a session
lets Camellia run again, which then answers the messages that wait. -/
def Obligations.TestAccessPortFollowsItsRules : Prop :=
  (∀ (s : State) (trst : Bool), ∃ t, exec (.testLogicReset trst) s = .next t ∧ t.mg.tapIr = 1 ∧ (trst = true →
      t.mg.session = none) ∧ (trst = false → t = s.tap 1)) ∧
  (∀ (s : State), ∀ n : Fin 4, s.is (F.MGT_OD_MB_CTL_BUSY n) = false → ∃ t, exec (.testLogicReset true) s = .next t ∧
      t.mg.tapIr = 1 ∧ t.mg.session = none ∧ t.regs = s.regs) ∧
  (∀ (s : State), ∃ t, exec .extest s = .next t ∧ t.mg.tapIr = 0 ∧ t.regs = s.regs) ∧
  (∀ (s : State), ∃ t, exec .clamp s = .next t ∧ t.mg.tapIr = 4 ∧ t.regs = s.regs) ∧
  (∀ (s : State), ∃ t, exec .highz s = .next t ∧ t.mg.tapIr = 5 ∧ t.regs = s.regs) ∧
  (∀ (s : State) (cells : Nat), ∃ t, exec (.samplePreload cells) s = .next t ∧ t.mg.tapIr = 2 ∧ t.mg.bsr = cells ∧
      t.regs = s.regs) ∧
  (∀ (s : State), ∃ t, exec .idcode s = .next t ∧ t.mg.tapIr = 1 ∧ t.out = .jtag 1 (0xB1624001 + 2 *
      Config.jep106.toNat) :: s.out ∧ t.regs = s.regs) ∧
  (∀ (s : State) (code : BitVec 8), code = 0xFF ∨ tapCodes.contains code.toNat = false → ∃ t, exec (.bypass code) s =
      .next t ∧ t.mg.tapIr = 0xFF ∧ t.regs = s.regs ∧ t.mg.session = s.mg.session) ∧
  (∀ (s : State), ∃ t, exec .dbgChal s = .next t ∧ t.mg.tapIr = 0x40 ∧ t.out = .jtag 0x40 (Config.challenge
      s.mg.challengeNo).toNat :: s.out) ∧
  (∀ (s : State), s.mg.session = none → ∃ t, exec .dbgStatus s = .next t ∧ t.mg.tapIr = 0x42 ∧ t.out = .jtag 0x42 (256 *
      (s.mg.lastReason % 16)) :: s.out ∧ t.regs = s.regs) ∧
  (∀ (s : State) (x : DebugSession), s.mg.session = some x → x.notAfter = s.mg.calendar / secUnits + 5 → ∃ t, exec
      .dbgStatus s = .next t ∧ t.mg.tapIr = 0x42 ∧ t.out = .jtag 0x42 (1 + 2 * (x.permit % 16) + 256 * (s.mg.lastReason
      % 16) + 65536 * 5) :: s.out) ∧
  (∀ (s : State) (c : Cert), s.camelliaRuns = true → s.certCheck c = 0 → ∃ t, exec (.dbgCert c) s = .next t ∧ t.mg.tapIr
      = 0x41 ∧ t.mg.session = some ⟨c.permit.toNat, c.notAfter.toNat⟩ ∧ t.mg.refusals = 0 ∧ t.mg.challengeNo =
      s.mg.challengeNo + 1 ∧ t.evt.detected.length = s.evt.detected.length + 1) ∧
  (∀ (s : State) (c : Cert), s.camelliaRuns = true → s.certCheck c ≠ 0 → s.certCheck c ≠ 8 → 2 ≤ s.mg.refusals → ∃ t,
      exec (.dbgCert c) s = .next t ∧ t.mg.session = s.mg.session ∧ t.mg.refusing = true ∧ t.mg.lastReason = s.certCheck
      c ∧ t.mg.challengeNo = s.mg.challengeNo + 1) ∧
  (∀ (s : State) (c : Cert), s.camelliaRuns = true → s.certCheck c ≠ 0 → s.certCheck c ≠ 8 → s.mg.refusals < 2 → ∃ t,
      exec (.dbgCert c) s = .next t ∧ t.mg.session = s.mg.session ∧ t.mg.refusing = s.mg.refusing ∧ t.mg.refusals =
      s.mg.refusals + 1 ∧ t.mg.lastReason = s.certCheck c ∧ t.mg.challengeNo = s.mg.challengeNo + 1) ∧
  (∀ (s : State) (c : Cert), s.camelliaRuns = true → s.certCheck c = 8 → s.mg.refusals < 3 ∨ s.mg.refusing = true → ∃ t,
      exec (.dbgCert c) s = .next t ∧ t.mg.session = s.mg.session ∧ t.mg.refusals = s.mg.refusals ∧ t.mg.refusing =
      s.mg.refusing ∧ t.mg.lastReason = 8 ∧ t.mg.challengeNo = s.mg.challengeNo + 1) ∧
  (∀ (s : State) (c : Cert), s.camelliaRuns = false → exec (.dbgCert c) s = .next (s.tap 0x41)) ∧
  (∀ (s : State) (code : BitVec 8), code ≠ 0xFF → tapCodes.contains code.toNat = true → exec (.bypass code) s = .next s) ∧
  (∀ (s : State), ∃ t, exec .dbgLock s = .next t ∧ t.mg.tapIr = 0x43 ∧ t.mg.session = none) ∧
  (∀ (s : State), ∀ n : Fin 4, s.is (F.MGT_OD_MB_CTL_BUSY n) = false → ∃ t, exec .dbgLock s = .next t ∧ t.mg.tapIr =
      0x43 ∧ t.mg.session = none ∧ t.regs = s.regs) ∧
  (∀ (s : State), s.permits 3 = true → ∃ t, exec .dbgReset s = .next t ∧ (t.mg.tapIr = 0x46 ∧ t.g F.RST_CAUSE_LAST = 5 ∧
      ∀ d ∈ ([2, 3, 4, 5, 6, 7, 8, 9] : List Nat), t.clk.down.contains d = true)) ∧
  (∀ (s : State), s.permits 3 = false → exec .dbgReset s = .next (s.tap 0x46)) ∧
  (∀ (s : State) (x : DebugSession), s.mg.session = some x → x.notAfter < s.mg.calendar / secUnits → ∃ t, exec
      .debugSessionExpiry s = .next t ∧ t.mg.session = none ∧ t.mg.halted = [false, false, false, false, false] ∧
      t.mg.nextSeq = s.mg.nextSeq + 1) ∧
  (∀ (s : State), s.mg.session = none ∨ s.mg.session.any (fun x => decide (s.mg.calendar / secUnits ≤ x.notAfter)) =
      true → exec .debugSessionExpiry s = .next s) ∧
  (∀ (s : State), s.mg.refusing = false ∨ s.tb.ticks < s.mg.refuseTick + 60 * 250000000 → exec .debugRefusalPeriodEnd s
      = .next s) ∧
  (∀ (s : State), s.mg.refusing = true → s.mg.refuseTick + 60 * 250000000 ≤ s.tb.ticks → exec .debugRefusalPeriodEnd s =
      .next { s with mg := { s.mg with refusing := false, refusals := 0 } }) ∧
  (∀ (s : State) (core : Fin 8), s.permits (if core.val = 4 then 2 else 1) = true → core.val ≤ 4 → s.motionActive =
      false ∨ core.val = 4 → s.mg.halted.length = 5 → ∃ t, exec (.coreHalt core) s = .next t ∧ t.isHalted core = true ∧
      t.mg.tapIr = 0x45 ∧ t.free = s.free + 1 ∧ (core.val < 4 → ∀ k ∈ coreChans core, t.chanState k = 0)) ∧
  (∀ (s : State) (core : Fin 8), s.permits (if core.val = 4 then 2 else 1) = true → core.val ≤ 4 → core.val < 4 →
      s.motionActive = true → ∃ t, exec (.coreHalt core) s = .next t ∧ t.mg.halted = s.mg.halted ∧ t.out = .jtag 0x45
      (0xFFFFFFFF + 2 ^ 62) :: s.out ∧ t.regs = s.regs) ∧
  (∀ (s : State) (core : Fin 8), s.permits (if core.val = 4 then 2 else 1) = true → core.val ≤ 4 → s.isHalted core =
      true → ∃ t, exec (.coreResume core) s = .next t ∧ t.isHalted core = false ∧ t.mg.tapIr = 0x45) ∧
  (∀ (s : State) (core : Fin 8), s.permits (if core.val = 4 then 2 else 1) = true → core.val ≤ 4 → s.isHalted core =
      true → ∀ n : Fin 4, s.is (F.MGT_OD_MB_CTL_BUSY n) = false → ∃ t, exec (.coreResume core) s = .next t ∧ t.isHalted
      core = false ∧ t.free = s.free + 1 ∧ t.regs = s.regs) ∧
  (∀ (s : State) (core : Fin 8), s.permits (if core.val = 4 then 2 else 1) = true → core.val ≤ 4 → s.isHalted core =
      false → ∃ t, exec (.coreResume core) s = .next t ∧ t.free = s.free + 1 ∧ t.regs = s.regs ∧ t.mg.halted =
      s.mg.halted) ∧
  (∀ (s : State) (core : Fin 8), s.permits (if core.val = 4 then 2 else 1) = true → core.val ≤ 4 → s.isHalted core =
      false → ∃ t, exec (.coreSingleStep core) s = .next t ∧ t.free = s.free + 1 ∧ t.regs = s.regs ∧ t.mg.halted =
      s.mg.halted ∧ t.mg.coreReg = s.mg.coreReg) ∧
  (∀ (s : State) (core : Fin 8), s.permits 1 = false → s.permits 2 = false → exec (.coreHalt core) s = .next (s.tap
      0x45)) ∧
  (∀ (s : State) (core : Fin 8), s.permits 1 = true ∨ s.permits 2 = true → (core.val < 4 ∧ s.permits 1 = false) ∨
      (core.val = 4 ∧ s.permits 2 = false) ∨ 4 < core.val → ∃ t, exec (.coreHalt core) s = .next t ∧ t.out = .jtag 0x45
      (0xFFFFFFFF + 2 ^ 62) :: s.out ∧ t.regs = s.regs ∧ t.mg.halted = s.mg.halted ∧ t.mg.coreReg = s.mg.coreReg ∧
      t.mg.coreMem = s.mg.coreMem) ∧
  (∀ (s : State) (core : Fin 8), s.permits 1 = false → s.permits 2 = false → exec (.coreResume core) s = .next (s.tap
      0x45)) ∧
  (∀ (s : State) (core : Fin 8), s.permits 1 = true ∨ s.permits 2 = true → (core.val < 4 ∧ s.permits 1 = false) ∨
      (core.val = 4 ∧ s.permits 2 = false) ∨ 4 < core.val → ∃ t, exec (.coreResume core) s = .next t ∧ t.out = .jtag
      0x45 (0xFFFFFFFF + 2 ^ 62) :: s.out ∧ t.regs = s.regs ∧ t.mg.halted = s.mg.halted ∧ t.mg.coreReg = s.mg.coreReg ∧
      t.mg.coreMem = s.mg.coreMem) ∧
  (∀ (s : State) (core : Fin 8), s.permits 1 = false → s.permits 2 = false → exec (.coreSingleStep core) s = .next
      (s.tap 0x45)) ∧
  (∀ (s : State) (core : Fin 8), s.permits 1 = true ∨ s.permits 2 = true → (core.val < 4 ∧ s.permits 1 = false) ∨
      (core.val = 4 ∧ s.permits 2 = false) ∨ 4 < core.val → ∃ t, exec (.coreSingleStep core) s = .next t ∧ t.out = .jtag
      0x45 (0xFFFFFFFF + 2 ^ 62) :: s.out ∧ t.regs = s.regs ∧ t.mg.halted = s.mg.halted ∧ t.mg.coreReg = s.mg.coreReg ∧
      t.mg.coreMem = s.mg.coreMem) ∧
  (∀ (s : State) (core : Fin 8) (a : BitVec 24), s.permits 1 = false → s.permits 2 = false → exec (.coreReadRegister
      core a) s = .next (s.tap 0x45)) ∧
  (∀ (s : State) (core : Fin 8) (a : BitVec 24), s.permits 1 = true ∨ s.permits 2 = true → (core.val < 4 ∧ s.permits 1 =
      false) ∨ (core.val = 4 ∧ s.permits 2 = false) ∨ 4 < core.val → ∃ t, exec (.coreReadRegister core a) s = .next t ∧
      t.out = .jtag 0x45 (0xFFFFFFFF + 2 ^ 62) :: s.out ∧ t.regs = s.regs ∧ t.mg.halted = s.mg.halted ∧ t.mg.coreReg =
      s.mg.coreReg ∧ t.mg.coreMem = s.mg.coreMem) ∧
  (∀ (s : State) (core : Fin 8) (a : BitVec 24) (data : Word), s.permits 1 = false → s.permits 2 = false → exec
      (.coreWriteRegister core a data) s = .next (s.tap 0x45)) ∧
  (∀ (s : State) (core : Fin 8) (a : BitVec 24) (data : Word), s.permits 1 = true ∨ s.permits 2 = true → (core.val < 4 ∧
      s.permits 1 = false) ∨ (core.val = 4 ∧ s.permits 2 = false) ∨ 4 < core.val → ∃ t, exec (.coreWriteRegister core a
      data) s = .next t ∧ t.out = .jtag 0x45 (0xFFFFFFFF + 2 ^ 62) :: s.out ∧ t.regs = s.regs ∧ t.mg.halted =
      s.mg.halted ∧ t.mg.coreReg = s.mg.coreReg ∧ t.mg.coreMem = s.mg.coreMem) ∧
  (∀ (s : State) (core : Fin 8) (a : BitVec 24), s.permits 1 = false → s.permits 2 = false → exec (.coreReadMemory core
      a) s = .next (s.tap 0x45)) ∧
  (∀ (s : State) (core : Fin 8) (a : BitVec 24), s.permits 1 = true ∨ s.permits 2 = true → (core.val < 4 ∧ s.permits 1 =
      false) ∨ (core.val = 4 ∧ s.permits 2 = false) ∨ 4 < core.val → ∃ t, exec (.coreReadMemory core a) s = .next t ∧
      t.out = .jtag 0x45 (0xFFFFFFFF + 2 ^ 62) :: s.out ∧ t.regs = s.regs ∧ t.mg.halted = s.mg.halted ∧ t.mg.coreReg =
      s.mg.coreReg ∧ t.mg.coreMem = s.mg.coreMem) ∧
  (∀ (s : State) (core : Fin 8) (a : BitVec 24) (data : Word), s.permits 1 = false → s.permits 2 = false → exec
      (.coreWriteMemory core a data) s = .next (s.tap 0x45)) ∧
  (∀ (s : State) (core : Fin 8) (a : BitVec 24) (data : Word), s.permits 1 = true ∨ s.permits 2 = true → (core.val < 4 ∧
      s.permits 1 = false) ∨ (core.val = 4 ∧ s.permits 2 = false) ∨ 4 < core.val → ∃ t, exec (.coreWriteMemory core a
      data) s = .next t ∧ t.out = .jtag 0x45 (0xFFFFFFFF + 2 ^ 62) :: s.out ∧ t.regs = s.regs ∧ t.mg.halted =
      s.mg.halted ∧ t.mg.coreReg = s.mg.coreReg ∧ t.mg.coreMem = s.mg.coreMem) ∧
  (∀ (s : State) (core : Fin 8), s.permits (if core.val = 4 then 2 else 1) = true → core.val ≤ 4 → s.isHalted core =
      true → ∃ t, exec (.coreSingleStep core) s = .next t ∧ (t.isHalted core = true ∧ t.free = s.free + 1 ∧ t.regs =
      s.regs ∧ ∀ e ∈ t.mg.coreReg, e.1 / 2 ^ 24 ≠ core.val)) ∧
  (∀ (s : State) (core : Fin 8) (a : BitVec 24) (data : Word), s.permits (if core.val = 4 then 2 else 1) = true →
      core.val ≤ 4 → s.isHalted core = true → ∃ t, exec (.coreWriteRegister core a data) s = .next t ∧ tabGet (fun _ =>
      none) t.mg.coreReg (coreKey core a.toNat) = some data ∧ t.regs = s.regs) ∧
  (∀ (s : State) (core : Fin 8) (a : BitVec 24) (data : Word), s.permits (if core.val = 4 then 2 else 1) = true →
      core.val ≤ 4 → tabGet (fun _ => none) s.mg.coreReg (coreKey core a.toNat) = some data → ∃ t, exec
      (.coreReadRegister core a) s = .next t ∧ t.out = .jtag 0x45 (data.toNat + 2 ^ 62) :: s.out ∧ t.regs = s.regs) ∧
  (∀ (s : State) (core : Fin 8) (a : BitVec 24) (data : Word), s.permits (if core.val = 4 then 2 else 1) = true →
      core.val ≤ 4 → s.isHalted core = true → ∃ t, exec (.coreWriteMemory core a data) s = .next t ∧ tabGet (fun _ =>
      none) t.mg.coreMem (coreKey core a.toNat) = some data ∧ t.regs = s.regs) ∧
  (∀ (s : State) (core : Fin 8) (a : BitVec 24) (data : Word), s.permits (if core.val = 4 then 2 else 1) = true →
      core.val ≤ 4 → tabGet (fun _ => none) s.mg.coreMem (coreKey core a.toNat) = some data → ∃ t, exec (.coreReadMemory
      core a) s = .next t ∧ t.out = .jtag 0x45 (data.toNat + 2 ^ 62) :: s.out ∧ t.regs = s.regs) ∧
  (∀ (s : State) (core : Fin 8) (a : BitVec 24) (data : Word), s.permits (if core.val = 4 then 2 else 1) = true →
      core.val ≤ 4 → s.isHalted core = false → ∃ t, exec (.coreWriteRegister core a data) s = .next t ∧ tabGet (fun _ =>
      none) t.mg.coreReg (coreKey core a.toNat) = none ∧ t.free = s.free + 1 ∧ t.regs = s.regs) ∧
  (∀ (s : State) (core : Fin 8) (a : BitVec 24), s.permits (if core.val = 4 then 2 else 1) = true → core.val ≤ 4 →
      tabGet (fun _ => none) s.mg.coreReg (coreKey core a.toNat) = none → ∃ t, exec (.coreReadRegister core a) s = .next
      t ∧ t.free = s.free + 1 ∧ t.out.length = s.out.length + 1 ∧ t.regs = s.regs ∧ t.mg.coreReg = s.mg.coreReg) ∧
  (∀ (s : State) (core : Fin 8) (a : BitVec 24) (data : Word), s.permits (if core.val = 4 then 2 else 1) = true →
      core.val ≤ 4 → s.isHalted core = false → ∃ t, exec (.coreWriteMemory core a data) s = .next t ∧ tabGet (fun _ =>
      none) t.mg.coreMem (coreKey core a.toNat) = none ∧ t.free = s.free + 1 ∧ t.regs = s.regs) ∧
  (∀ (s : State) (core : Fin 8) (a : BitVec 24), s.permits (if core.val = 4 then 2 else 1) = true → core.val ≤ 4 →
      tabGet (fun _ => none) s.mg.coreMem (coreKey core a.toNat) = none → ∃ t, exec (.coreReadMemory core a) s = .next t
      ∧ t.free = s.free + 1 ∧ t.out.length = s.out.length + 1 ∧ t.regs = s.regs ∧ t.mg.coreMem = s.mg.coreMem) ∧
  (∀ (s : State) (core : Fin 8) (a : BitVec 24), s.permits 1 = true → s.permits 2 = false → core.val = 4 → ∃ t, exec
      (.coreReadMemory core a) s = .next t ∧ t.out = .jtag 0x45 (0xFFFFFFFF + 2 ^ 62) :: s.out)

/-- What a write in the register window does. A write that a fault region drops is logged and does nothing else; one
that the requester may not make leaves every register; one outside the window does nothing; a register without rules
of its own takes a value in range under its access codes; HIF_TORN loses only the writer's own bit. Each of these
completes under the conditions its clause gives. Dividers that break R510 are undefined behaviour, on which the
model stops. -/
def Obligations.WindowWritesFollowTheirRules : Prop :=
  (∀ (s : State) (rq : Rq) (addr : Nat) (v : Word) (r : Nat), addr < 0x2000000 → s.dropReason rq (addr / 4 * 4) = some r
      → s.mayAny rq (addr / 4 * 4) v = true → exec (.registerWrite rq addr v) s = .next (s.logDropped rq (addr / 4 * 4)
      r)) ∧
  (∀ (s : State) (rq : Rq) (addr : Nat) (v : Word), addr < 0x1FFE000 → addr % 4 = 0 → s.dropReason rq addr = none →
      s.mayWrite rq addr v = false → ¬ (0xD20000 ≤ addr ∧ addr < 0xD40000) → [R.HIF_TORN, R.LSP_EN_REQ0, R.LSP_EN_REQ1,
      R.FIO_OUT, R.FIO_OUT_SET, R.FIO_OUT_CLR, R.FIO_OUT_FCLR].contains addr = false → ∃ t, exec (.registerWrite rq addr
      v) s = .next t ∧ t.regs = s.regs ∧ t.ipm = s.ipm ∧ t.mem = s.mem ∧ t.pol = s.pol) ∧
  (∀ (s : State) (rq : Rq) (addr : Nat) (v : Word), addr < 0x2000000 → (s.dropReason rq (addr / 4 * 4)).isSome = true →
      s.mayAny rq (addr / 4 * 4) v = false → exec (.registerWrite rq addr v) s = .next s) ∧
  (∀ (s : State) (rq : Rq) (addr : Nat) (v : Word), 0x2000000 ≤ addr → exec (.registerWrite rq addr v) s = .next s) ∧
  (∀ (s : State) (rq : Rq) (k : Fin 168) (addr : Nat) (v : Word), addr = R.LSP_CH_VMAX k ∨ addr = R.LSP_CH_AMAX k ∨ addr
      = R.LSP_CH_DMAX k ∨ addr = R.LSP_CH_JMAX k → s.reaches rq addr → inRange addr v = true → ∃ t, exec (.registerWrite
      rq addr v) s = .next t ∧ t.rd addr = v ∧ sameRegsBut [addr] s t ∧ sameBut [.regs] s t) ∧
  (∀ (s : State) (rq : Rq) (v : Word), s.reaches rq R.CLK_DIV → divOk v = true → ∃ t, exec (.registerWrite rq R.CLK_DIV
      v) s = .next t ∧ t.rd R.CLK_DIV = v &&& 0x3FFFF ∧ sameRegsBut [R.CLK_DIV] s t) ∧
  (∀ (s : State) (rq : Rq) (v : Word), s.reaches rq R.CLK_DIV → inRange R.CLK_DIV v = true → divOk v = false → s.rd
      R.CLK_DIV ≠ v &&& 0x3FFFF → exec (.registerWrite rq R.CLK_DIV v) s = .fault .clockRelation) ∧
  (∀ (s : State) (rq : Rq) (v : Word), s.dropReason rq R.HIF_TORN = none → tornBit rq = none → exec (.hifTornWrite rq v)
      s = .next s) ∧
  (∀ (s : State) (rq : Rq) (v : Word) (r : Nat), s.dropReason rq R.HIF_TORN = some r → (tornBit rq).isSome = true → exec
      (.hifTornWrite rq v) s = .next (s.logDropped rq R.HIF_TORN r)) ∧
  (∀ (s : State) (rq : Rq) (v : Word) (i : Nat), s.dropReason rq R.HIF_TORN = none → tornBit rq = some i → ∃ t, exec
      (.hifTornWrite rq v) s = .next t ∧ (∀ j : Fin 32, testBit (t.rd R.HIF_TORN).toNat j = (testBit (s.rd
      R.HIF_TORN).toNat j && !(j.val == i && testBit v.toNat i))) ∧ sameRegsBut [R.HIF_TORN] s t)

/-- What a read in the register window does; each clause says under which conditions it completes. A read into an
isolated region ends in a Completer Abort to an owner, which its function logs, and in all ones with a bus error to
anybody else; another owner's private register reads 0; a read shows the register, and clears an RC field; a read of
a _LO word fills the reader's shadow, from which the matching _HI word is answered, and any other _HI word shows the
live word and sets the reader's torn bit; a block goes to the host or into the registers; the debug port makes its
accesses with permission 0. -/
def Obligations.WindowReadsFollowTheirRules : Prop :=
  (∀ (s : State) (n : Fin 4) (addr : Nat), addr < 0x2000000 → addr % 4 = 0 → s.readErr addr = true → ∃ t, exec
      (.registerRead (.od n) addr) s = .next t ∧ t.out = .completerAbort n addr :: s.out ∧ (t.hifOf n).aer = addr ::
      (s.hifOf n).aer ∧ t.regs = s.regs) ∧
  (∀ (s : State) (rq : Rq) (addr : Nat), addr < 0x2000000 → addr % 4 = 0 → s.readErr addr = true → ∀ n : Fin 4, rq ≠ .od
      n → exec (.registerRead rq addr) s = .next (s.emit (.busError rq addr 0xFFFFFFFF))) ∧
  (∀ (s : State) (rq : Rq) (addr : Nat), addr < 0x2000000 → addr % 4 = 0 → s.readErr addr = false → hidden rq addr =
      true → exec (.registerRead rq addr) s = .next (s.emit (.read rq addr 0))) ∧
  (∀ (s : State) (rq : Rq) (addr : Nat), 0x2000000 ≤ addr → exec (.registerRead rq addr) s = .next s) ∧
  (∀ (s : State) (rq : Rq) (addr : Nat), addr < 0x2000000 → ∃ t, exec (.registerRead rq addr) s = .next t ∧ t.out.length
      = s.out.length + 1) ∧
  (∀ (s : State) (rq : Rq) (addr : Nat), addr % 4 = 0 → s.readErr addr = false → hidden rq addr = false → addr <
      0x100000 ∨ (0x200000 ≤ addr ∧ addr < 0xE80000) ∨ (0xEA0000 ≤ addr ∧ addr < 0x1FFE000) → stampOf addr = none →
      s.fromSnap rq addr = none → wideLo addr = false → wideHi addr = false → ∃ t, exec (.registerRead rq addr) s =
      .next t ∧ t.out = .read rq addr (zeroFields .wo addr (s.view rq addr)) :: s.out ∧ t.rd addr = zeroFields .rc addr
      (s.rd addr) ∧ sameRegsBut [addr] s t) ∧
  (∀ (s : State) (rq : Rq) (k : Fin 168), s.readErr (R.LSP_CH_VMAX k) = false → exec (.registerRead rq (R.LSP_CH_VMAX
      k)) s = .next (s.emit (.read rq (R.LSP_CH_VMAX k) (s.rd (R.LSP_CH_VMAX k))))) ∧
  (∀ (s : State) (rq : Rq) (q : Fin 16), s.readErr (R.LQ_LATE_CNT q) = false → ∃ t, exec (.registerRead rq
      (R.LQ_LATE_CNT q)) s = .next t ∧ t.out = .read rq (R.LQ_LATE_CNT q) (s.rd (R.LQ_LATE_CNT q)) :: s.out ∧ getBits
      (t.rd (R.LQ_LATE_CNT q)) 0 16 = 0 ∧ getBits (t.rd (R.LQ_LATE_CNT q)) 16 16 = 0 ∧ sameRegsBut [R.LQ_LATE_CNT q] s
      t) ∧
  (∀ (s : State) (rq : Rq) (k : Fin 168), s.readErr (R.LSP_CH_PREF_LO k) = false → ∃ t, exec (.wideReadLo rq
      (R.LSP_CH_PREF_LO k)) s = .next t ∧ t.out = .read rq (R.LSP_CH_PREF_LO k) (s.rd (R.LSP_CH_PREF_LO k)) :: s.out ∧
      tabGet (fun _ => none) t.wide rq.idx = some (R.LSP_CH_PREF_LO k, s.rd (R.LSP_CH_PREF_HI k)) ∧ t.regs = s.regs) ∧
  (∀ (s : State) (rq : Rq) (k : Fin 168) (v : Word), s.readErr (R.LSP_CH_PREF_HI k) = false → tabGet (fun _ => none)
      s.wide rq.idx = some (R.LSP_CH_PREF_LO k, v) → exec (.wideReadHi rq (R.LSP_CH_PREF_HI k)) s = .next (s.emit (.read
      rq (R.LSP_CH_PREF_HI k) v))) ∧
  (∀ (s : State) (rq : Rq) (k : Fin 168) (i : Nat), s.readErr (R.LSP_CH_PREF_HI k) = false → tabGet (fun _ => none)
      s.wide rq.idx = none → tornBit rq = some i → ∃ t, exec (.wideReadHi rq (R.LSP_CH_PREF_HI k)) s = .next t ∧ t.out =
      .read rq (R.LSP_CH_PREF_HI k) (s.rd (R.LSP_CH_PREF_HI k)) :: s.out ∧ testBit (t.rd R.HIF_TORN).toNat i = true ∧
      sameRegsBut [R.HIF_TORN] s t ∧ t.wide = s.wide) ∧
  (∀ (s : State) (rq : Rq) (addr : Nat), wideLo addr = true → ∃ t, exec (.wideReadLo rq addr) s = .next t ∧ t.out.length
      = s.out.length + 1) ∧
  (∀ (s : State) (rq : Rq) (addr : Nat), wideLo addr = false → exec (.wideReadLo rq addr) s = .next s) ∧
  (∀ (s : State) (n : Fin 4) (addr : Nat), wideLo addr = true → addr % 4 = 0 → s.readErr addr = true → ∃ t, exec
      (.wideReadLo (.od n) addr) s = .next t ∧ t.out = .completerAbort n addr :: s.out ∧ (t.hifOf n).aer = addr ::
      (s.hifOf n).aer ∧ t.regs = s.regs ∧ t.wide = s.wide) ∧
  (∀ (s : State) (rq : Rq) (addr : Nat), wideHi addr = true → ∃ t, exec (.wideReadHi rq addr) s = .next t ∧ t.out.length
      = s.out.length + 1) ∧
  (∀ (s : State) (rq : Rq) (addr : Nat), wideHi addr = false → exec (.wideReadHi rq addr) s = .next s) ∧
  (∀ (s : State) (n : Fin 4) (addr : Nat), wideHi addr = true → addr % 4 = 0 → s.readErr addr = true → ∃ t, exec
      (.wideReadHi (.od n) addr) s = .next t ∧ t.out = .completerAbort n addr :: s.out ∧ (t.hifOf n).aer = addr ::
      (s.hifOf n).aer ∧ t.regs = s.regs ∧ t.wide = s.wide) ∧
  (∀ (s : State) (rq : Rq) (k : Fin 168) (i : Nat) (b : Nat) (v : Word), s.readErr (R.LSP_CH_PREF_HI k) = false → tabGet
      (fun _ => none) s.wide rq.idx = some (b, v) → b ≠ R.LSP_CH_PREF_LO k → tornBit rq = some i → ∃ t, exec
      (.wideReadHi rq (R.LSP_CH_PREF_HI k)) s = .next t ∧ t.out = .read rq (R.LSP_CH_PREF_HI k) (s.rd (R.LSP_CH_PREF_HI
      k)) :: s.out ∧ testBit (t.rd R.HIF_TORN).toNat i = true ∧ sameRegsBut [R.HIF_TORN] s t ∧ t.wide = s.wide) ∧
  (∀ (s : State) (n : Fin 4) (k : Fin 8) (c : Fin 168) (d : Desc) (data : List Word), (s.sqStart n k (testBit
      d.flags.toNat 1)).isSome = true → s.descErr n k 0x40 d true true true = none → d.field 30 1 = 0 → d.field 16 8 % 4
      = 0 → d.zeroFrom 31 = true → d.field 28 2 = 1 → d.target = 0 → d.field 24 4 = R.LSP_CH_VMAX c → s.readErr
      (R.LSP_CH_VMAX c) = false → ∃ t, exec (.regBlock n k d data) s = .next t ∧ .host n (d.field 16 8) (wordBytes
      [(s.rd (R.LSP_CH_VMAX c)).toNat]) ∈ t.out ∧ t.rd (R.LSP_CH_VMAX c) = s.rd (R.LSP_CH_VMAX c)) ∧
  (∀ (s : State) (n : Fin 4) (k : Fin 8) (c : Fin 168) (d : Desc) (v : Word) (data : List Word), (s.sqStart n k (testBit
      d.flags.toNat 1)).isSome = true → s.descErr n k 0x40 d true true false = none → d.field 30 1 = 1 → data = [v] →
      s.reaches (.od n) (R.LSP_CH_VMAX c) → inRange (R.LSP_CH_VMAX c) v = true → d.field 16 8 % 4 = 0 → d.zeroFrom 31 =
      true → d.field 28 2 = 1 → d.target = 0 → d.field 24 4 = R.LSP_CH_VMAX c → s.readErr (R.LSP_CH_VMAX c) = false → ∃
      t, exec (.regBlock n k d data) s = .next t ∧ t.rd (R.LSP_CH_VMAX c) = v) ∧
  (∀ (s : State) (n : Fin 4) (k : Fin 8) (d : Desc) (data : List Word), (s.sqStart n k (testBit d.flags.toNat 1)).isSome
      = true → (s.sqOf n k).closing = false → d.field 30 1 = 0 → ∃ t, exec (.regBlock n k d data) s = .next t ∧ (t.sqOf
      n k).next = ((s.sqOf n k).next + 1) % s.sqDepth n k) ∧
  (∀ (s : State) (n : Fin 4) (k : Fin 8) (d : Desc) (data : List Word), (s.sqStart n k (testBit d.flags.toNat 1)).isSome
      = true → (s.sqOf n k).closing = false → d.field 30 1 ≠ 0 → data.length < d.field 28 2 → ∃ t, exec (.regBlock n k d
      data) s = .next t ∧ (t.sqOf n k).next = ((s.sqOf n k).next + 1) % s.sqDepth n k ∧ t.mem = s.mem ∧ t.chans =
      s.chans) ∧
  (∀ (s : State) (n : Fin 4) (k : Fin 8) (d : Desc) (data : List Word), (s.sqStart n k (testBit d.flags.toNat 1)).isSome
      = false → exec (.regBlock n k d data) s = .next s) ∧
  (∀ (s : State) (write : Bool) (offset : Word) (data : Word), s.permits 0 = false → exec (.dbgAccess write offset data)
      s = .next (s.tap 0xFF)) ∧
  (∀ (s : State) (c : Fin 168) (data : Word), s.permits 0 = true → s.readErr (R.LSP_CH_VMAX c) = false → ∃ t, exec
      (.dbgAccess false (BitVec.ofNat 32 (R.LSP_CH_VMAX c)) data) s = .next t ∧ t.out = .jtag 0x44 ((s.rd (R.LSP_CH_VMAX
      c)).toNat + 2 ^ 65) :: s.out ∧ t.regs = s.regs ∧ t.mg.tapIr = 0x44) ∧
  (∀ (s : State) (c : Fin 168) (data : Word), s.permits 0 = true → s.reaches .dbg (R.LSP_CH_VMAX c) → inRange
      (R.LSP_CH_VMAX c) data = true → ∃ t, exec (.dbgAccess true (BitVec.ofNat 32 (R.LSP_CH_VMAX c)) data) s = .next t ∧
      t.rd (R.LSP_CH_VMAX c) = data ∧ sameRegsBut [R.LSP_CH_VMAX c] s t ∧ t.out = .jtag 0x44 (data.toNat + 2 ^ 65) ::
      s.out) ∧
  (∀ (s : State) (offset : Word) (data : Word), s.permits 0 = true → 0x2000000 ≤ offset.toNat → ∃ t, exec (.dbgAccess
      false offset data) s = .next t ∧ t.out = .jtag 0x44 (2 ^ 65) :: s.out ∧ t.regs = s.regs ∧ t.mg.tapIr = 0x44) ∧
  (∀ (s : State) (offset : Word) (data : Word), s.permits 0 = true → offset.toNat < 0x2000000 → s.readErr (offset.toNat
      / 4 * 4) = true → ∃ t, exec (.dbgAccess false offset data) s = .next t ∧ t.out.head? = some (.jtag 0x44
      (0xFFFFFFFF + 2 ^ 65)) ∧ t.regs = s.regs ∧ t.mg.tapIr = 0x44) ∧
  (∀ (s : State) (offset : Word) (data : Word), s.permits 0 = true → ∃ t, exec (.dbgAccess false offset data) s = .next
      t ∧ t.mg.tapIr = 0x44 ∧ t.out.length ≠ s.out.length) ∧
  (∀ (s : State) (offset : Word) (data : Word), s.permits 0 = true → 0x2000000 ≤ offset.toNat → ∃ t, exec (.dbgAccess
      true offset data) s = .next t ∧ t.out = .jtag 0x44 (data.toNat + 2 ^ 65) :: s.out ∧ t.regs = s.regs ∧ t.mg.tapIr =
      0x44) ∧
  (∀ (s : State) (offset : Word) (data : Word) (r : Nat), s.permits 0 = true → offset.toNat < 0x2000000 → s.dropReason
      .dbg (offset.toNat / 4 * 4) = some r → s.mayAny .dbg (offset.toNat / 4 * 4) data = true → ∃ t, exec (.dbgAccess
      true offset data) s = .next t ∧ t.out = .jtag 0x44 (data.toNat + 2 ^ 65) :: s.out ∧ t.mg.tapIr = 0x44 ∧ t.chans =
      s.chans ∧ t.evt.detected.length = s.evt.detected.length + 1)

/-- R478: a write of SAF_UNLOCK, SAF_BT_CMD, SAF_PSET_HANDLE or SAF_PSET_CMD by anyone but the owner that holds the
safety role, and a write by any owner of any other SAF or FXG register, leaves every SAF and FXG register and what
Hollyhock holds beside them; the owner with the safety role may write the four. -/
def Obligations.SafetyCommandsNeedTheSafetyRole : Prop :=
  (∀ (s : State) (rq : Rq) (addr : Nat) (v : Word), [R.SAF_UNLOCK, R.SAF_BT_CMD, R.SAF_PSET_HANDLE,
      R.SAF_PSET_CMD].contains addr = true → ∀ n : Fin 4, rq = .od n → s.role n ≠ .safety → ∃ t, exec (.registerWrite rq
      addr v) s = .next t ∧ (∀ a, 0x1100000 ≤ a → a < 0x1200000 → t.rd a = s.rd a) ∧ t.saf = s.saf) ∧
  (∀ (s : State) (n : Fin 4) (addr : Nat) (v : Word), 0x1100000 ≤ addr → addr < 0x1200000 → addr % 4 = 0 →
      [R.SAF_UNLOCK, R.SAF_BT_CMD, R.SAF_PSET_HANDLE, R.SAF_PSET_CMD].contains addr = false → ∃ t, exec (.registerWrite
      (.od n) addr v) s = .next t ∧ (∀ a, 0x1100000 ≤ a → a < 0x1200000 → t.rd a = s.rd a) ∧ t.saf = s.saf) ∧
  (∀ (s : State) (n : Fin 4) (v : Word), s.dropReason (.od n) R.SAF_PSET_HANDLE = none → s.role n = .safety → ∃ t, exec
      (.registerWrite (.od n) R.SAF_PSET_HANDLE v) s = .next t ∧ t.rd R.SAF_PSET_HANDLE = v ∧ sameRegsBut
      [R.SAF_PSET_HANDLE] s t) ∧
  (∀ (s : State) (n : Fin 4) (addr : Nat), [R.SAF_UNLOCK, R.SAF_BT_CMD, R.SAF_PSET_HANDLE, R.SAF_PSET_CMD].contains addr
      = true → s.role n = .safety → s.may (.od n) addr = true)

/-- R64: a write of TB_CMD.GM_SWITCH while a switch or a hold-off runs, or with no better grandmaster pending, sets
CMD_REFUSED and does nothing else. -/
def Obligations.GrandmasterSwitchIsRefused : Prop :=
  (∀ (s : State) (rq : Rq), s.reaches rq R.TB_CMD → s.is F.TB_STATUS_SWITCHING = true ∨ s.is F.TB_STATUS_HOLDOFF = true
      ∨ s.tb.pendingGm = none → ∃ t, exec (.gmSwitch rq) s = .next t ∧ (t.is F.TB_STATUS_CMD_REFUSED = true ∧
      sameRegsBut [R.TB_STATUS] s t ∧ sameBut [.regs] s t ∧ ∀ i : Fin 32, i.val ≠ F.TB_STATUS_CMD_REFUSED.lo → testBit
      (t.rd R.TB_STATUS).toNat i = testBit (s.rd R.TB_STATUS).toNat i)) ∧
  (∀ (s : State) (rq : Rq), s.reaches rq R.TB_CMD → s.is F.TB_STATUS_SWITCHING = true ∨ s.is F.TB_STATUS_HOLDOFF = true
      ∨ s.tb.pendingGm = none → ∃ t, exec (.registerWrite rq R.TB_CMD 4) s = .next t ∧ (t.is F.TB_STATUS_CMD_REFUSED =
      true ∧ sameRegsBut [R.TB_STATUS] s t ∧ sameBut [.regs] s t ∧ ∀ i : Fin 32, i.val ≠ F.TB_STATUS_CMD_REFUSED.lo →
      testBit (t.rd R.TB_STATUS).toNat i = testBit (s.rd R.TB_STATUS).toNat i))

/-- R10: what a register holds after a write by the access codes. An RW field takes the value; a bit of a W1C field
written 1 is cleared, one of a W1S field is set, and the others stay; an RO, RC, RWS or WO field and every bit
outside the fields keep what they hold. -/
def Obligations.AccessCodesAreFollowed : Prop :=
  (∀ (a : Nat) (old v : Word) (r : RegRow) (f : FieldDesc) (i : Nat), regRow? a = some r → f ∈ r.fields → f.lo ≤ i → i <
      f.lo + f.w → testBit (merged a old v).toNat i = codeBit f.acc (testBit old.toNat i) (testBit v.toNat i)) ∧
  (∀ (a : Nat) (old v : Word) (i : Nat), (∀ r, regRow? a = some r → ∀ f ∈ r.fields, i < f.lo ∨ f.lo + f.w ≤ i) → testBit
      (merged a old v).toNat i = testBit old.toNat i)

/-- For every command and every state: where the command answers a next state, every part of the state that the table of
its row does not name is the same, the queue among them, and so is every bit of every register that its row does not
name. The tables name no part and no bit that the rules of the command's chapter do not let it reach. Every command
but the three that can write CLK_DIV (REGISTER_WRITE, REG_BLOCK, DBG_ACCESS) answers a next state in every state;
each of these three answers a next state or the fault clockRelation: REGISTER_WRITE only where the write changes
CLK_DIV to a value that R510 does not allow, REG_BLOCK and DBG_ACCESS only on a write. -/
def Obligations.EveryCommandKeepsItsFrame : Prop :=
  (∀ (c : Instr) (s t : State), exec c s = .next t → sameBut (mayChange c) s t ∧ sameBitsBut (mayWrite c) s t) ∧
  (∀ (c : Instr) (s : State), (∀ rq a v, c ≠ .registerWrite rq a v) → (∀ n k d data, c ≠ .regBlock n k d data) → (∀
      write a v, c ≠ .dbgAccess write a v) → ∃ t, exec c s = .next t) ∧
  (∀ (rq : Rq) (a : Nat) (v : Word) (s : State), (∃ t, exec (.registerWrite rq a v) s = .next t ∧ t = s.busWrite rq a v)
      ∨ (exec (.registerWrite rq a v) s = .fault .clockRelation ∧ (s.busWrite rq a v).rd R.CLK_DIV ≠ s.rd R.CLK_DIV ∧
      divOk ((s.busWrite rq a v).rd R.CLK_DIV) = false)) ∧
  (∀ (n : Fin 4) (k : Fin 8) (d : Desc) (data : List Word) (s : State), (∃ t, exec (.regBlock n k d data) s = .next t) ∨
      (exec (.regBlock n k d data) s = .fault .clockRelation ∧ d.field 30 1 ≠ 0)) ∧
  (∀ (write : Bool) (a v : Word) (s : State), (∃ t, exec (.dbgAccess write a v) s = .next t) ∨ (exec (.dbgAccess write a
      v) s = .fault .clockRelation ∧ write = true))

/-- From every state in its canonical form, whatever waits in its queue, a step that answers a next state leaves the
register window, the in-package memory and the SRAM in their canonical forms, so that equal contents are equal data,
and takes at most the command in front. -/
def Obligations.EveryStepKeepsTheCanonicalForms : Prop :=
  ∀ s t : State, s.canon → step s = .next t → t.canon ∧ t.pending = s.pending.tail

/-- After reset the canonical forms hold, no command waits, no register is off its reset value, the servo is FREE and
TIME_VALID 0, the device lock-out stands with cause 1, every group asserts STO and awaits restart, no output is
enabled or active and no brake released. -/
def Obligations.ResetIsWellKept : Prop :=
  (State.reset.canon ∧ State.reset.pending = []) ∧
  (∀ a, State.reset.rd a = regReset a) ∧
  (State.reset.servo = servoFree ∧ State.reset.is F.TB_STATUS_TIME_VALID = false ∧ State.reset.is F.SAF_LOCK_DEVICE =
      true ∧ State.reset.g F.SAF_LOCK_CAUSE = 1 ∧ State.reset.g F.SAF_STO_RESTART_WAIT = 15 ∧ State.reset.g
      F.SAF_STO_ASSERTED = 15) ∧
  (∀ n : Fin 16, State.reset.is (F.AX_PWM_CTL_OUT_EN n) = false ∧ State.reset.is (F.AX_PWM_STATUS_OUT_ACTIVE n) = false
      ∧ State.reset.is (F.SAF_BRK_STATUS_RELEASED n) = false)

/-- For every command and state: a step with the command in front of the queue is the command's effect on the state with
the rest of the queue. On an empty queue a step is one tick (R38) and the queue stays empty; with no step of the
counter, no command of a PWM unit, no commutation, no library slot, no auxiliary channel in use, no conversion, no
record and no function-level reset waiting, and the time region not isolated, it is the tick of the time base alone,
in which every register and the output stay. That the tick is what an idle step does is the model's choice (log 2).
-/
def Obligations.AStepRunsTheCommandInFront : Prop :=
  (∀ (c : Instr) (s : State) (rest : List Instr), step { s with pending := c :: rest } = exec c
      { s with pending := rest }) ∧
  (∀ s : State, s.pending = [] → step s = .next s.clockTick ∧ s.clockTick.pending = []) ∧
  (∀ s : State, s.tb.pendingStep = [] → (∀ n : Fin 16, (s.pwmOf n).ask = none ∧ (s.fbOf n).comm = []) → (∀ n : Fin 8,
      (s.aeOf n).lib = none) → s.isolated regTime = false → s.aux = [] → s.adc = [] → s.mg.intake = [] → (∀ n : Fin 4,
      s.is (F.HIF_OD_STATUS_FLR_BUSY n) = false) → s.clockTick = s.tick ∧ s.tick.regs = s.regs ∧ s.tick.out = s.out)
end

