-- ==== Sys2Proof/Laws/Bits.lean ====
section
/-! SUPPORT. The laws of bit fields: what a field reads after a field was set. -/

namespace Sys2Proof

theorem getBits_testBit (v : Word) (lo w i : Nat) :
    (getBits v lo w).testBit i = (decide (i < w) && v.getLsbD (lo + i)) := by
  simp [getBits, Nat.testBit_mod_two_pow, Nat.testBit_div_two_pow, BitVec.getLsbD, Nat.add_comm]

theorem maskBits_getLsbD (lo w i : Nat) :
    (maskBits lo w).getLsbD i = (decide (i < 32) && decide (lo ≤ i) && decide (i < lo + w)) := by
  simp only [maskBits, BitVec.getLsbD_shiftLeft, BitVec.getLsbD_ofNat, Nat.testBit_two_pow_sub_one]
  by_cases h1 : i < 32 <;> by_cases h2 : lo ≤ i <;> by_cases h3 : i < lo + w <;> simp [h1, h2, h3] <;> omega

theorem putBits_getLsbD (v : Word) (lo w x i : Nat) :
    (putBits v lo w x).getLsbD i =
      (decide (i < 32) && if lo ≤ i ∧ i < lo + w then x.testBit (i - lo) else v.getLsbD i) := by
  simp only [putBits, BitVec.getLsbD_or, BitVec.getLsbD_and, BitVec.getLsbD_not, maskBits_getLsbD,
    BitVec.getLsbD_shiftLeft, BitVec.getLsbD_ofNat, Nat.testBit_mod_two_pow]
  by_cases h1 : i < 32 <;> by_cases h2 : lo ≤ i <;> by_cases h3 : i < lo + w
  · have h4 : i - lo < w := by omega
    have h5 : ¬ i < lo := by omega
    have h6 : i - lo < 32 := by omega
    simp [h1, h2, h3, h4, h5, h6]
  · have h4 : ¬ i - lo < w := by omega
    simp [h1, h2, h3, h4]
  · have h5 : i < lo := by omega
    simp [h1, h2, h5]
  · have h5 : i < lo := by omega
    simp [h1, h2, h5]
  all_goals simp [h1]

/-- A field reads the low bits of the value it was set to. -/
theorem getBits_putBits_same (v : Word) {lo w : Nat} (x : Nat) (h : lo + w ≤ 32) :
    getBits (putBits v lo w x) lo w = x % 2 ^ w := by
  apply Nat.eq_of_testBit_eq
  intro i
  rw [getBits_testBit, putBits_getLsbD, Nat.testBit_mod_two_pow]
  by_cases hi : i < w
  · have h1 : lo + i < 32 := by omega
    simp [hi, h1]
  · simp [hi]

/-- A field whose bits lie apart from those of the field set keeps its value. -/
theorem getBits_putBits_apart (v : Word) {lo w lo' w' : Nat} (x : Nat) (h : lo' + w' ≤ lo ∨ lo + w ≤ lo') :
    getBits (putBits v lo w x) lo' w' = getBits v lo' w' := by
  apply Nat.eq_of_testBit_eq
  intro i
  rw [getBits_testBit, getBits_testBit, putBits_getLsbD]
  by_cases hi : i < w'
  · by_cases h1 : lo' + i < 32
    · have h2 : ¬ (lo ≤ lo' + i ∧ lo' + i < lo + w) := by omega
      rw [if_neg h2]
      simp [hi, h1]
    · have : v.getLsbD (lo' + i) = false := BitVec.getLsbD_of_ge v _ (by omega)
      simp [h1, this]
  · simp [hi]

theorem getBits_lt (v : Word) (lo w : Nat) : getBits v lo w < 2 ^ w := Nat.mod_lt _ (Nat.two_pow_pos w)

theorem getBits_all (v : Word) : getBits v 0 32 = v.toNat := by
  simp [getBits, Nat.mod_eq_of_lt v.isLt]

end Sys2Proof
end

