-- ==== Sys2Proof/Laws/State.lean ====
section
/-! SUPPORT. What each named update of Machine/Ops.lean leaves alone: one lemma for each field of the state and each update,
true by computation, so that no proof unfolds a record update. -/

namespace Sys2Proof.Machine


@[simp] theorem State.wr_pending {s : State} {a v} : (s.wr a v).pending = s.pending := rfl
@[simp] theorem State.wr_mem {s : State} {a v} : (s.wr a v).mem = s.mem := rfl
@[simp] theorem State.wr_pol {s : State} {a v} : (s.wr a v).pol = s.pol := rfl
@[simp] theorem State.wr_free {s : State} {a v} : (s.wr a v).free = s.free := rfl
@[simp] theorem State.wr_out {s : State} {a v} : (s.wr a v).out = s.out := rfl
@[simp] theorem State.wr_tb {s : State} {a v} : (s.wr a v).tb = s.tb := rfl
@[simp] theorem State.wr_lqs {s : State} {a v} : (s.wr a v).lqs = s.lqs := rfl
@[simp] theorem State.wr_held {s : State} {a v} : (s.wr a v).held = s.held := rfl
@[simp] theorem State.wr_evt {s : State} {a v} : (s.wr a v).evt = s.evt := rfl
@[simp] theorem State.wr_pwm {s : State} {a v} : (s.wr a v).pwm = s.pwm := rfl
@[simp] theorem State.wr_bch {s : State} {a v} : (s.wr a v).bch = s.bch := rfl
@[simp] theorem State.wr_mg {s : State} {a v} : (s.wr a v).mg = s.mg := rfl
@[simp] theorem State.wr_clk {s : State} {a v} : (s.wr a v).clk = s.clk := rfl
@[simp] theorem State.wr_saf {s : State} {a v} : (s.wr a v).saf = s.saf := rfl
@[simp] theorem State.wr_sense {s : State} {a v} : (s.wr a v).sense = s.sense := rfl
@[simp] theorem State.wr_snaps {s : State} {a v} : (s.wr a v).snaps = s.snaps := rfl
@[simp] theorem State.wr_fb {s : State} {a v} : (s.wr a v).fb = s.fb := rfl
@[simp] theorem State.wr_prb {s : State} {a v} : (s.wr a v).prb = s.prb := rfl
@[simp] theorem State.wr_chans {s : State} {a v} : (s.wr a v).chans = s.chans := rfl
@[simp] theorem State.wr_grps {s : State} {a v} : (s.wr a v).grps = s.grps := rfl
@[simp] theorem State.wr_ae {s : State} {a v} : (s.wr a v).ae = s.ae := rfl
@[simp] theorem State.wr_sup {s : State} {a v} : (s.wr a v).sup = s.sup := rfl
@[simp] theorem State.wr_hif {s : State} {a v} : (s.wr a v).hif = s.hif := rfl
@[simp] theorem State.wr_setp {s : State} {a v} : (s.wr a v).setp = s.setp := rfl
@[simp] theorem State.wr_wide {s : State} {a v} : (s.wr a v).wide = s.wide := rfl
@[simp] theorem State.wr_msix {s : State} {a v} : (s.wr a v).msix = s.msix := rfl
@[simp] theorem State.wr_ipm {s : State} {a v} : (s.wr a v).ipm = s.ipm := rfl
@[simp] theorem State.wr_lsh {s : State} {a v} : (s.wr a v).lsh = s.lsh := rfl
@[simp] theorem State.wr_aux {s : State} {a v} : (s.wr a v).aux = s.aux := rfl
@[simp] theorem State.wr_adc {s : State} {a v} : (s.wr a v).adc = s.adc := rfl
@[simp] theorem State.wr_cap {s : State} {a v} : (s.wr a v).cap = s.cap := rfl
@[simp] theorem State.wr_env {s : State} {a v} : (s.wr a v).env = s.env := rfl
@[simp] theorem State.wr_eth {s : State} {a v} : (s.wr a v).eth = s.eth := rfl
@[simp] theorem State.wr_fdb {s : State} {a v} : (s.wr a v).fdb = s.fdb := rfl
@[simp] theorem State.wr_can {s : State} {a v} : (s.wr a v).can = s.can := rfl
@[simp] theorem State.wr_fio {s : State} {a v} : (s.wr a v).fio = s.fio := rfl
@[simp] theorem State.wr_stag {s : State} {a v} : (s.wr a v).stag = s.stag := rfl

@[simp] theorem State.keepRegs_pending {s : State} {p} : (s.keepRegs p).pending = s.pending := rfl
@[simp] theorem State.keepRegs_mem {s : State} {p} : (s.keepRegs p).mem = s.mem := rfl
@[simp] theorem State.keepRegs_pol {s : State} {p} : (s.keepRegs p).pol = s.pol := rfl
@[simp] theorem State.keepRegs_free {s : State} {p} : (s.keepRegs p).free = s.free := rfl
@[simp] theorem State.keepRegs_out {s : State} {p} : (s.keepRegs p).out = s.out := rfl
@[simp] theorem State.keepRegs_tb {s : State} {p} : (s.keepRegs p).tb = s.tb := rfl
@[simp] theorem State.keepRegs_lqs {s : State} {p} : (s.keepRegs p).lqs = s.lqs := rfl
@[simp] theorem State.keepRegs_held {s : State} {p} : (s.keepRegs p).held = s.held := rfl
@[simp] theorem State.keepRegs_evt {s : State} {p} : (s.keepRegs p).evt = s.evt := rfl
@[simp] theorem State.keepRegs_pwm {s : State} {p} : (s.keepRegs p).pwm = s.pwm := rfl
@[simp] theorem State.keepRegs_bch {s : State} {p} : (s.keepRegs p).bch = s.bch := rfl
@[simp] theorem State.keepRegs_mg {s : State} {p} : (s.keepRegs p).mg = s.mg := rfl
@[simp] theorem State.keepRegs_clk {s : State} {p} : (s.keepRegs p).clk = s.clk := rfl
@[simp] theorem State.keepRegs_saf {s : State} {p} : (s.keepRegs p).saf = s.saf := rfl
@[simp] theorem State.keepRegs_sense {s : State} {p} : (s.keepRegs p).sense = s.sense := rfl
@[simp] theorem State.keepRegs_snaps {s : State} {p} : (s.keepRegs p).snaps = s.snaps := rfl
@[simp] theorem State.keepRegs_fb {s : State} {p} : (s.keepRegs p).fb = s.fb := rfl
@[simp] theorem State.keepRegs_prb {s : State} {p} : (s.keepRegs p).prb = s.prb := rfl
@[simp] theorem State.keepRegs_chans {s : State} {p} : (s.keepRegs p).chans = s.chans := rfl
@[simp] theorem State.keepRegs_grps {s : State} {p} : (s.keepRegs p).grps = s.grps := rfl
@[simp] theorem State.keepRegs_ae {s : State} {p} : (s.keepRegs p).ae = s.ae := rfl
@[simp] theorem State.keepRegs_sup {s : State} {p} : (s.keepRegs p).sup = s.sup := rfl
@[simp] theorem State.keepRegs_hif {s : State} {p} : (s.keepRegs p).hif = s.hif := rfl
@[simp] theorem State.keepRegs_setp {s : State} {p} : (s.keepRegs p).setp = s.setp := rfl
@[simp] theorem State.keepRegs_wide {s : State} {p} : (s.keepRegs p).wide = s.wide := rfl
@[simp] theorem State.keepRegs_msix {s : State} {p} : (s.keepRegs p).msix = s.msix := rfl
@[simp] theorem State.keepRegs_ipm {s : State} {p} : (s.keepRegs p).ipm = s.ipm := rfl
@[simp] theorem State.keepRegs_lsh {s : State} {p} : (s.keepRegs p).lsh = s.lsh := rfl
@[simp] theorem State.keepRegs_aux {s : State} {p} : (s.keepRegs p).aux = s.aux := rfl
@[simp] theorem State.keepRegs_adc {s : State} {p} : (s.keepRegs p).adc = s.adc := rfl
@[simp] theorem State.keepRegs_cap {s : State} {p} : (s.keepRegs p).cap = s.cap := rfl
@[simp] theorem State.keepRegs_env {s : State} {p} : (s.keepRegs p).env = s.env := rfl
@[simp] theorem State.keepRegs_eth {s : State} {p} : (s.keepRegs p).eth = s.eth := rfl
@[simp] theorem State.keepRegs_fdb {s : State} {p} : (s.keepRegs p).fdb = s.fdb := rfl
@[simp] theorem State.keepRegs_can {s : State} {p} : (s.keepRegs p).can = s.can := rfl
@[simp] theorem State.keepRegs_fio {s : State} {p} : (s.keepRegs p).fio = s.fio := rfl
@[simp] theorem State.keepRegs_stag {s : State} {p} : (s.keepRegs p).stag = s.stag := rfl

@[simp] theorem State.p_pending {s : State} {f x} : (s.p f x).pending = s.pending := rfl
@[simp] theorem State.p_mem {s : State} {f x} : (s.p f x).mem = s.mem := rfl
@[simp] theorem State.p_pol {s : State} {f x} : (s.p f x).pol = s.pol := rfl
@[simp] theorem State.p_free {s : State} {f x} : (s.p f x).free = s.free := rfl
@[simp] theorem State.p_out {s : State} {f x} : (s.p f x).out = s.out := rfl
@[simp] theorem State.p_tb {s : State} {f x} : (s.p f x).tb = s.tb := rfl
@[simp] theorem State.p_lqs {s : State} {f x} : (s.p f x).lqs = s.lqs := rfl
@[simp] theorem State.p_held {s : State} {f x} : (s.p f x).held = s.held := rfl
@[simp] theorem State.p_evt {s : State} {f x} : (s.p f x).evt = s.evt := rfl
@[simp] theorem State.p_pwm {s : State} {f x} : (s.p f x).pwm = s.pwm := rfl
@[simp] theorem State.p_bch {s : State} {f x} : (s.p f x).bch = s.bch := rfl
@[simp] theorem State.p_mg {s : State} {f x} : (s.p f x).mg = s.mg := rfl
@[simp] theorem State.p_clk {s : State} {f x} : (s.p f x).clk = s.clk := rfl
@[simp] theorem State.p_saf {s : State} {f x} : (s.p f x).saf = s.saf := rfl
@[simp] theorem State.p_sense {s : State} {f x} : (s.p f x).sense = s.sense := rfl
@[simp] theorem State.p_snaps {s : State} {f x} : (s.p f x).snaps = s.snaps := rfl
@[simp] theorem State.p_fb {s : State} {f x} : (s.p f x).fb = s.fb := rfl
@[simp] theorem State.p_prb {s : State} {f x} : (s.p f x).prb = s.prb := rfl
@[simp] theorem State.p_chans {s : State} {f x} : (s.p f x).chans = s.chans := rfl
@[simp] theorem State.p_grps {s : State} {f x} : (s.p f x).grps = s.grps := rfl
@[simp] theorem State.p_ae {s : State} {f x} : (s.p f x).ae = s.ae := rfl
@[simp] theorem State.p_sup {s : State} {f x} : (s.p f x).sup = s.sup := rfl
@[simp] theorem State.p_hif {s : State} {f x} : (s.p f x).hif = s.hif := rfl
@[simp] theorem State.p_setp {s : State} {f x} : (s.p f x).setp = s.setp := rfl
@[simp] theorem State.p_wide {s : State} {f x} : (s.p f x).wide = s.wide := rfl
@[simp] theorem State.p_msix {s : State} {f x} : (s.p f x).msix = s.msix := rfl
@[simp] theorem State.p_ipm {s : State} {f x} : (s.p f x).ipm = s.ipm := rfl
@[simp] theorem State.p_lsh {s : State} {f x} : (s.p f x).lsh = s.lsh := rfl
@[simp] theorem State.p_aux {s : State} {f x} : (s.p f x).aux = s.aux := rfl
@[simp] theorem State.p_adc {s : State} {f x} : (s.p f x).adc = s.adc := rfl
@[simp] theorem State.p_cap {s : State} {f x} : (s.p f x).cap = s.cap := rfl
@[simp] theorem State.p_env {s : State} {f x} : (s.p f x).env = s.env := rfl
@[simp] theorem State.p_eth {s : State} {f x} : (s.p f x).eth = s.eth := rfl
@[simp] theorem State.p_fdb {s : State} {f x} : (s.p f x).fdb = s.fdb := rfl
@[simp] theorem State.p_can {s : State} {f x} : (s.p f x).can = s.can := rfl
@[simp] theorem State.p_fio {s : State} {f x} : (s.p f x).fio = s.fio := rfl
@[simp] theorem State.p_stag {s : State} {f x} : (s.p f x).stag = s.stag := rfl

@[simp] theorem State.pi_pending {s : State} {f x} : (s.pi f x).pending = s.pending := rfl
@[simp] theorem State.pi_mem {s : State} {f x} : (s.pi f x).mem = s.mem := rfl
@[simp] theorem State.pi_pol {s : State} {f x} : (s.pi f x).pol = s.pol := rfl
@[simp] theorem State.pi_free {s : State} {f x} : (s.pi f x).free = s.free := rfl
@[simp] theorem State.pi_out {s : State} {f x} : (s.pi f x).out = s.out := rfl
@[simp] theorem State.pi_tb {s : State} {f x} : (s.pi f x).tb = s.tb := rfl
@[simp] theorem State.pi_lqs {s : State} {f x} : (s.pi f x).lqs = s.lqs := rfl
@[simp] theorem State.pi_held {s : State} {f x} : (s.pi f x).held = s.held := rfl
@[simp] theorem State.pi_evt {s : State} {f x} : (s.pi f x).evt = s.evt := rfl
@[simp] theorem State.pi_pwm {s : State} {f x} : (s.pi f x).pwm = s.pwm := rfl
@[simp] theorem State.pi_bch {s : State} {f x} : (s.pi f x).bch = s.bch := rfl
@[simp] theorem State.pi_mg {s : State} {f x} : (s.pi f x).mg = s.mg := rfl
@[simp] theorem State.pi_clk {s : State} {f x} : (s.pi f x).clk = s.clk := rfl
@[simp] theorem State.pi_saf {s : State} {f x} : (s.pi f x).saf = s.saf := rfl
@[simp] theorem State.pi_sense {s : State} {f x} : (s.pi f x).sense = s.sense := rfl
@[simp] theorem State.pi_snaps {s : State} {f x} : (s.pi f x).snaps = s.snaps := rfl
@[simp] theorem State.pi_fb {s : State} {f x} : (s.pi f x).fb = s.fb := rfl
@[simp] theorem State.pi_prb {s : State} {f x} : (s.pi f x).prb = s.prb := rfl
@[simp] theorem State.pi_chans {s : State} {f x} : (s.pi f x).chans = s.chans := rfl
@[simp] theorem State.pi_grps {s : State} {f x} : (s.pi f x).grps = s.grps := rfl
@[simp] theorem State.pi_ae {s : State} {f x} : (s.pi f x).ae = s.ae := rfl
@[simp] theorem State.pi_sup {s : State} {f x} : (s.pi f x).sup = s.sup := rfl
@[simp] theorem State.pi_hif {s : State} {f x} : (s.pi f x).hif = s.hif := rfl
@[simp] theorem State.pi_setp {s : State} {f x} : (s.pi f x).setp = s.setp := rfl
@[simp] theorem State.pi_wide {s : State} {f x} : (s.pi f x).wide = s.wide := rfl
@[simp] theorem State.pi_msix {s : State} {f x} : (s.pi f x).msix = s.msix := rfl
@[simp] theorem State.pi_ipm {s : State} {f x} : (s.pi f x).ipm = s.ipm := rfl
@[simp] theorem State.pi_lsh {s : State} {f x} : (s.pi f x).lsh = s.lsh := rfl
@[simp] theorem State.pi_aux {s : State} {f x} : (s.pi f x).aux = s.aux := rfl
@[simp] theorem State.pi_adc {s : State} {f x} : (s.pi f x).adc = s.adc := rfl
@[simp] theorem State.pi_cap {s : State} {f x} : (s.pi f x).cap = s.cap := rfl
@[simp] theorem State.pi_env {s : State} {f x} : (s.pi f x).env = s.env := rfl
@[simp] theorem State.pi_eth {s : State} {f x} : (s.pi f x).eth = s.eth := rfl
@[simp] theorem State.pi_fdb {s : State} {f x} : (s.pi f x).fdb = s.fdb := rfl
@[simp] theorem State.pi_can {s : State} {f x} : (s.pi f x).can = s.can := rfl
@[simp] theorem State.pi_fio {s : State} {f x} : (s.pi f x).fio = s.fio := rfl
@[simp] theorem State.pi_stag {s : State} {f x} : (s.pi f x).stag = s.stag := rfl

@[simp] theorem State.on_pending {s : State} {f} : (s.on f).pending = s.pending := rfl
@[simp] theorem State.on_mem {s : State} {f} : (s.on f).mem = s.mem := rfl
@[simp] theorem State.on_pol {s : State} {f} : (s.on f).pol = s.pol := rfl
@[simp] theorem State.on_free {s : State} {f} : (s.on f).free = s.free := rfl
@[simp] theorem State.on_out {s : State} {f} : (s.on f).out = s.out := rfl
@[simp] theorem State.on_tb {s : State} {f} : (s.on f).tb = s.tb := rfl
@[simp] theorem State.on_lqs {s : State} {f} : (s.on f).lqs = s.lqs := rfl
@[simp] theorem State.on_held {s : State} {f} : (s.on f).held = s.held := rfl
@[simp] theorem State.on_evt {s : State} {f} : (s.on f).evt = s.evt := rfl
@[simp] theorem State.on_pwm {s : State} {f} : (s.on f).pwm = s.pwm := rfl
@[simp] theorem State.on_bch {s : State} {f} : (s.on f).bch = s.bch := rfl
@[simp] theorem State.on_mg {s : State} {f} : (s.on f).mg = s.mg := rfl
@[simp] theorem State.on_clk {s : State} {f} : (s.on f).clk = s.clk := rfl
@[simp] theorem State.on_saf {s : State} {f} : (s.on f).saf = s.saf := rfl
@[simp] theorem State.on_sense {s : State} {f} : (s.on f).sense = s.sense := rfl
@[simp] theorem State.on_snaps {s : State} {f} : (s.on f).snaps = s.snaps := rfl
@[simp] theorem State.on_fb {s : State} {f} : (s.on f).fb = s.fb := rfl
@[simp] theorem State.on_prb {s : State} {f} : (s.on f).prb = s.prb := rfl
@[simp] theorem State.on_chans {s : State} {f} : (s.on f).chans = s.chans := rfl
@[simp] theorem State.on_grps {s : State} {f} : (s.on f).grps = s.grps := rfl
@[simp] theorem State.on_ae {s : State} {f} : (s.on f).ae = s.ae := rfl
@[simp] theorem State.on_sup {s : State} {f} : (s.on f).sup = s.sup := rfl
@[simp] theorem State.on_hif {s : State} {f} : (s.on f).hif = s.hif := rfl
@[simp] theorem State.on_setp {s : State} {f} : (s.on f).setp = s.setp := rfl
@[simp] theorem State.on_wide {s : State} {f} : (s.on f).wide = s.wide := rfl
@[simp] theorem State.on_msix {s : State} {f} : (s.on f).msix = s.msix := rfl
@[simp] theorem State.on_ipm {s : State} {f} : (s.on f).ipm = s.ipm := rfl
@[simp] theorem State.on_lsh {s : State} {f} : (s.on f).lsh = s.lsh := rfl
@[simp] theorem State.on_aux {s : State} {f} : (s.on f).aux = s.aux := rfl
@[simp] theorem State.on_adc {s : State} {f} : (s.on f).adc = s.adc := rfl
@[simp] theorem State.on_cap {s : State} {f} : (s.on f).cap = s.cap := rfl
@[simp] theorem State.on_env {s : State} {f} : (s.on f).env = s.env := rfl
@[simp] theorem State.on_eth {s : State} {f} : (s.on f).eth = s.eth := rfl
@[simp] theorem State.on_fdb {s : State} {f} : (s.on f).fdb = s.fdb := rfl
@[simp] theorem State.on_can {s : State} {f} : (s.on f).can = s.can := rfl
@[simp] theorem State.on_fio {s : State} {f} : (s.on f).fio = s.fio := rfl
@[simp] theorem State.on_stag {s : State} {f} : (s.on f).stag = s.stag := rfl

@[simp] theorem State.off_pending {s : State} {f} : (s.off f).pending = s.pending := rfl
@[simp] theorem State.off_mem {s : State} {f} : (s.off f).mem = s.mem := rfl
@[simp] theorem State.off_pol {s : State} {f} : (s.off f).pol = s.pol := rfl
@[simp] theorem State.off_free {s : State} {f} : (s.off f).free = s.free := rfl
@[simp] theorem State.off_out {s : State} {f} : (s.off f).out = s.out := rfl
@[simp] theorem State.off_tb {s : State} {f} : (s.off f).tb = s.tb := rfl
@[simp] theorem State.off_lqs {s : State} {f} : (s.off f).lqs = s.lqs := rfl
@[simp] theorem State.off_held {s : State} {f} : (s.off f).held = s.held := rfl
@[simp] theorem State.off_evt {s : State} {f} : (s.off f).evt = s.evt := rfl
@[simp] theorem State.off_pwm {s : State} {f} : (s.off f).pwm = s.pwm := rfl
@[simp] theorem State.off_bch {s : State} {f} : (s.off f).bch = s.bch := rfl
@[simp] theorem State.off_mg {s : State} {f} : (s.off f).mg = s.mg := rfl
@[simp] theorem State.off_clk {s : State} {f} : (s.off f).clk = s.clk := rfl
@[simp] theorem State.off_saf {s : State} {f} : (s.off f).saf = s.saf := rfl
@[simp] theorem State.off_sense {s : State} {f} : (s.off f).sense = s.sense := rfl
@[simp] theorem State.off_snaps {s : State} {f} : (s.off f).snaps = s.snaps := rfl
@[simp] theorem State.off_fb {s : State} {f} : (s.off f).fb = s.fb := rfl
@[simp] theorem State.off_prb {s : State} {f} : (s.off f).prb = s.prb := rfl
@[simp] theorem State.off_chans {s : State} {f} : (s.off f).chans = s.chans := rfl
@[simp] theorem State.off_grps {s : State} {f} : (s.off f).grps = s.grps := rfl
@[simp] theorem State.off_ae {s : State} {f} : (s.off f).ae = s.ae := rfl
@[simp] theorem State.off_sup {s : State} {f} : (s.off f).sup = s.sup := rfl
@[simp] theorem State.off_hif {s : State} {f} : (s.off f).hif = s.hif := rfl
@[simp] theorem State.off_setp {s : State} {f} : (s.off f).setp = s.setp := rfl
@[simp] theorem State.off_wide {s : State} {f} : (s.off f).wide = s.wide := rfl
@[simp] theorem State.off_msix {s : State} {f} : (s.off f).msix = s.msix := rfl
@[simp] theorem State.off_ipm {s : State} {f} : (s.off f).ipm = s.ipm := rfl
@[simp] theorem State.off_lsh {s : State} {f} : (s.off f).lsh = s.lsh := rfl
@[simp] theorem State.off_aux {s : State} {f} : (s.off f).aux = s.aux := rfl
@[simp] theorem State.off_adc {s : State} {f} : (s.off f).adc = s.adc := rfl
@[simp] theorem State.off_cap {s : State} {f} : (s.off f).cap = s.cap := rfl
@[simp] theorem State.off_env {s : State} {f} : (s.off f).env = s.env := rfl
@[simp] theorem State.off_eth {s : State} {f} : (s.off f).eth = s.eth := rfl
@[simp] theorem State.off_fdb {s : State} {f} : (s.off f).fdb = s.fdb := rfl
@[simp] theorem State.off_can {s : State} {f} : (s.off f).can = s.can := rfl
@[simp] theorem State.off_fio {s : State} {f} : (s.off f).fio = s.fio := rfl
@[simp] theorem State.off_stag {s : State} {f} : (s.off f).stag = s.stag := rfl

@[simp] theorem State.pb_pending {s : State} {f b} : (s.pb f b).pending = s.pending := rfl
@[simp] theorem State.pb_mem {s : State} {f b} : (s.pb f b).mem = s.mem := rfl
@[simp] theorem State.pb_pol {s : State} {f b} : (s.pb f b).pol = s.pol := rfl
@[simp] theorem State.pb_free {s : State} {f b} : (s.pb f b).free = s.free := rfl
@[simp] theorem State.pb_out {s : State} {f b} : (s.pb f b).out = s.out := rfl
@[simp] theorem State.pb_tb {s : State} {f b} : (s.pb f b).tb = s.tb := rfl
@[simp] theorem State.pb_lqs {s : State} {f b} : (s.pb f b).lqs = s.lqs := rfl
@[simp] theorem State.pb_held {s : State} {f b} : (s.pb f b).held = s.held := rfl
@[simp] theorem State.pb_evt {s : State} {f b} : (s.pb f b).evt = s.evt := rfl
@[simp] theorem State.pb_pwm {s : State} {f b} : (s.pb f b).pwm = s.pwm := rfl
@[simp] theorem State.pb_bch {s : State} {f b} : (s.pb f b).bch = s.bch := rfl
@[simp] theorem State.pb_mg {s : State} {f b} : (s.pb f b).mg = s.mg := rfl
@[simp] theorem State.pb_clk {s : State} {f b} : (s.pb f b).clk = s.clk := rfl
@[simp] theorem State.pb_saf {s : State} {f b} : (s.pb f b).saf = s.saf := rfl
@[simp] theorem State.pb_sense {s : State} {f b} : (s.pb f b).sense = s.sense := rfl
@[simp] theorem State.pb_snaps {s : State} {f b} : (s.pb f b).snaps = s.snaps := rfl
@[simp] theorem State.pb_fb {s : State} {f b} : (s.pb f b).fb = s.fb := rfl
@[simp] theorem State.pb_prb {s : State} {f b} : (s.pb f b).prb = s.prb := rfl
@[simp] theorem State.pb_chans {s : State} {f b} : (s.pb f b).chans = s.chans := rfl
@[simp] theorem State.pb_grps {s : State} {f b} : (s.pb f b).grps = s.grps := rfl
@[simp] theorem State.pb_ae {s : State} {f b} : (s.pb f b).ae = s.ae := rfl
@[simp] theorem State.pb_sup {s : State} {f b} : (s.pb f b).sup = s.sup := rfl
@[simp] theorem State.pb_hif {s : State} {f b} : (s.pb f b).hif = s.hif := rfl
@[simp] theorem State.pb_setp {s : State} {f b} : (s.pb f b).setp = s.setp := rfl
@[simp] theorem State.pb_wide {s : State} {f b} : (s.pb f b).wide = s.wide := rfl
@[simp] theorem State.pb_msix {s : State} {f b} : (s.pb f b).msix = s.msix := rfl
@[simp] theorem State.pb_ipm {s : State} {f b} : (s.pb f b).ipm = s.ipm := rfl
@[simp] theorem State.pb_lsh {s : State} {f b} : (s.pb f b).lsh = s.lsh := rfl
@[simp] theorem State.pb_aux {s : State} {f b} : (s.pb f b).aux = s.aux := rfl
@[simp] theorem State.pb_adc {s : State} {f b} : (s.pb f b).adc = s.adc := rfl
@[simp] theorem State.pb_cap {s : State} {f b} : (s.pb f b).cap = s.cap := rfl
@[simp] theorem State.pb_env {s : State} {f b} : (s.pb f b).env = s.env := rfl
@[simp] theorem State.pb_eth {s : State} {f b} : (s.pb f b).eth = s.eth := rfl
@[simp] theorem State.pb_fdb {s : State} {f b} : (s.pb f b).fdb = s.fdb := rfl
@[simp] theorem State.pb_can {s : State} {f b} : (s.pb f b).can = s.can := rfl
@[simp] theorem State.pb_fio {s : State} {f b} : (s.pb f b).fio = s.fio := rfl
@[simp] theorem State.pb_stag {s : State} {f b} : (s.pb f b).stag = s.stag := rfl

@[simp] theorem State.count_pending {s : State} {f d} : (s.count f d).pending = s.pending := rfl
@[simp] theorem State.count_mem {s : State} {f d} : (s.count f d).mem = s.mem := rfl
@[simp] theorem State.count_pol {s : State} {f d} : (s.count f d).pol = s.pol := rfl
@[simp] theorem State.count_free {s : State} {f d} : (s.count f d).free = s.free := rfl
@[simp] theorem State.count_out {s : State} {f d} : (s.count f d).out = s.out := rfl
@[simp] theorem State.count_tb {s : State} {f d} : (s.count f d).tb = s.tb := rfl
@[simp] theorem State.count_lqs {s : State} {f d} : (s.count f d).lqs = s.lqs := rfl
@[simp] theorem State.count_held {s : State} {f d} : (s.count f d).held = s.held := rfl
@[simp] theorem State.count_evt {s : State} {f d} : (s.count f d).evt = s.evt := rfl
@[simp] theorem State.count_pwm {s : State} {f d} : (s.count f d).pwm = s.pwm := rfl
@[simp] theorem State.count_bch {s : State} {f d} : (s.count f d).bch = s.bch := rfl
@[simp] theorem State.count_mg {s : State} {f d} : (s.count f d).mg = s.mg := rfl
@[simp] theorem State.count_clk {s : State} {f d} : (s.count f d).clk = s.clk := rfl
@[simp] theorem State.count_saf {s : State} {f d} : (s.count f d).saf = s.saf := rfl
@[simp] theorem State.count_sense {s : State} {f d} : (s.count f d).sense = s.sense := rfl
@[simp] theorem State.count_snaps {s : State} {f d} : (s.count f d).snaps = s.snaps := rfl
@[simp] theorem State.count_fb {s : State} {f d} : (s.count f d).fb = s.fb := rfl
@[simp] theorem State.count_prb {s : State} {f d} : (s.count f d).prb = s.prb := rfl
@[simp] theorem State.count_chans {s : State} {f d} : (s.count f d).chans = s.chans := rfl
@[simp] theorem State.count_grps {s : State} {f d} : (s.count f d).grps = s.grps := rfl
@[simp] theorem State.count_ae {s : State} {f d} : (s.count f d).ae = s.ae := rfl
@[simp] theorem State.count_sup {s : State} {f d} : (s.count f d).sup = s.sup := rfl
@[simp] theorem State.count_hif {s : State} {f d} : (s.count f d).hif = s.hif := rfl
@[simp] theorem State.count_setp {s : State} {f d} : (s.count f d).setp = s.setp := rfl
@[simp] theorem State.count_wide {s : State} {f d} : (s.count f d).wide = s.wide := rfl
@[simp] theorem State.count_msix {s : State} {f d} : (s.count f d).msix = s.msix := rfl
@[simp] theorem State.count_ipm {s : State} {f d} : (s.count f d).ipm = s.ipm := rfl
@[simp] theorem State.count_lsh {s : State} {f d} : (s.count f d).lsh = s.lsh := rfl
@[simp] theorem State.count_aux {s : State} {f d} : (s.count f d).aux = s.aux := rfl
@[simp] theorem State.count_adc {s : State} {f d} : (s.count f d).adc = s.adc := rfl
@[simp] theorem State.count_cap {s : State} {f d} : (s.count f d).cap = s.cap := rfl
@[simp] theorem State.count_env {s : State} {f d} : (s.count f d).env = s.env := rfl
@[simp] theorem State.count_eth {s : State} {f d} : (s.count f d).eth = s.eth := rfl
@[simp] theorem State.count_fdb {s : State} {f d} : (s.count f d).fdb = s.fdb := rfl
@[simp] theorem State.count_can {s : State} {f d} : (s.count f d).can = s.can := rfl
@[simp] theorem State.count_fio {s : State} {f d} : (s.count f d).fio = s.fio := rfl
@[simp] theorem State.count_stag {s : State} {f d} : (s.count f d).stag = s.stag := rfl

@[simp] theorem State.wrapCount_pending {s : State} {f} : (s.wrapCount f).pending = s.pending := rfl
@[simp] theorem State.wrapCount_mem {s : State} {f} : (s.wrapCount f).mem = s.mem := rfl
@[simp] theorem State.wrapCount_pol {s : State} {f} : (s.wrapCount f).pol = s.pol := rfl
@[simp] theorem State.wrapCount_free {s : State} {f} : (s.wrapCount f).free = s.free := rfl
@[simp] theorem State.wrapCount_out {s : State} {f} : (s.wrapCount f).out = s.out := rfl
@[simp] theorem State.wrapCount_tb {s : State} {f} : (s.wrapCount f).tb = s.tb := rfl
@[simp] theorem State.wrapCount_lqs {s : State} {f} : (s.wrapCount f).lqs = s.lqs := rfl
@[simp] theorem State.wrapCount_held {s : State} {f} : (s.wrapCount f).held = s.held := rfl
@[simp] theorem State.wrapCount_evt {s : State} {f} : (s.wrapCount f).evt = s.evt := rfl
@[simp] theorem State.wrapCount_pwm {s : State} {f} : (s.wrapCount f).pwm = s.pwm := rfl
@[simp] theorem State.wrapCount_bch {s : State} {f} : (s.wrapCount f).bch = s.bch := rfl
@[simp] theorem State.wrapCount_mg {s : State} {f} : (s.wrapCount f).mg = s.mg := rfl
@[simp] theorem State.wrapCount_clk {s : State} {f} : (s.wrapCount f).clk = s.clk := rfl
@[simp] theorem State.wrapCount_saf {s : State} {f} : (s.wrapCount f).saf = s.saf := rfl
@[simp] theorem State.wrapCount_sense {s : State} {f} : (s.wrapCount f).sense = s.sense := rfl
@[simp] theorem State.wrapCount_snaps {s : State} {f} : (s.wrapCount f).snaps = s.snaps := rfl
@[simp] theorem State.wrapCount_fb {s : State} {f} : (s.wrapCount f).fb = s.fb := rfl
@[simp] theorem State.wrapCount_prb {s : State} {f} : (s.wrapCount f).prb = s.prb := rfl
@[simp] theorem State.wrapCount_chans {s : State} {f} : (s.wrapCount f).chans = s.chans := rfl
@[simp] theorem State.wrapCount_grps {s : State} {f} : (s.wrapCount f).grps = s.grps := rfl
@[simp] theorem State.wrapCount_ae {s : State} {f} : (s.wrapCount f).ae = s.ae := rfl
@[simp] theorem State.wrapCount_sup {s : State} {f} : (s.wrapCount f).sup = s.sup := rfl
@[simp] theorem State.wrapCount_hif {s : State} {f} : (s.wrapCount f).hif = s.hif := rfl
@[simp] theorem State.wrapCount_setp {s : State} {f} : (s.wrapCount f).setp = s.setp := rfl
@[simp] theorem State.wrapCount_wide {s : State} {f} : (s.wrapCount f).wide = s.wide := rfl
@[simp] theorem State.wrapCount_msix {s : State} {f} : (s.wrapCount f).msix = s.msix := rfl
@[simp] theorem State.wrapCount_ipm {s : State} {f} : (s.wrapCount f).ipm = s.ipm := rfl
@[simp] theorem State.wrapCount_lsh {s : State} {f} : (s.wrapCount f).lsh = s.lsh := rfl
@[simp] theorem State.wrapCount_aux {s : State} {f} : (s.wrapCount f).aux = s.aux := rfl
@[simp] theorem State.wrapCount_adc {s : State} {f} : (s.wrapCount f).adc = s.adc := rfl
@[simp] theorem State.wrapCount_cap {s : State} {f} : (s.wrapCount f).cap = s.cap := rfl
@[simp] theorem State.wrapCount_env {s : State} {f} : (s.wrapCount f).env = s.env := rfl
@[simp] theorem State.wrapCount_eth {s : State} {f} : (s.wrapCount f).eth = s.eth := rfl
@[simp] theorem State.wrapCount_fdb {s : State} {f} : (s.wrapCount f).fdb = s.fdb := rfl
@[simp] theorem State.wrapCount_can {s : State} {f} : (s.wrapCount f).can = s.can := rfl
@[simp] theorem State.wrapCount_fio {s : State} {f} : (s.wrapCount f).fio = s.fio := rfl
@[simp] theorem State.wrapCount_stag {s : State} {f} : (s.wrapCount f).stag = s.stag := rfl

@[simp] theorem State.wr64_pending {s : State} {lo hi x} : (s.wr64 lo hi x).pending = s.pending := rfl
@[simp] theorem State.wr64_mem {s : State} {lo hi x} : (s.wr64 lo hi x).mem = s.mem := rfl
@[simp] theorem State.wr64_pol {s : State} {lo hi x} : (s.wr64 lo hi x).pol = s.pol := rfl
@[simp] theorem State.wr64_free {s : State} {lo hi x} : (s.wr64 lo hi x).free = s.free := rfl
@[simp] theorem State.wr64_out {s : State} {lo hi x} : (s.wr64 lo hi x).out = s.out := rfl
@[simp] theorem State.wr64_tb {s : State} {lo hi x} : (s.wr64 lo hi x).tb = s.tb := rfl
@[simp] theorem State.wr64_lqs {s : State} {lo hi x} : (s.wr64 lo hi x).lqs = s.lqs := rfl
@[simp] theorem State.wr64_held {s : State} {lo hi x} : (s.wr64 lo hi x).held = s.held := rfl
@[simp] theorem State.wr64_evt {s : State} {lo hi x} : (s.wr64 lo hi x).evt = s.evt := rfl
@[simp] theorem State.wr64_pwm {s : State} {lo hi x} : (s.wr64 lo hi x).pwm = s.pwm := rfl
@[simp] theorem State.wr64_bch {s : State} {lo hi x} : (s.wr64 lo hi x).bch = s.bch := rfl
@[simp] theorem State.wr64_mg {s : State} {lo hi x} : (s.wr64 lo hi x).mg = s.mg := rfl
@[simp] theorem State.wr64_clk {s : State} {lo hi x} : (s.wr64 lo hi x).clk = s.clk := rfl
@[simp] theorem State.wr64_saf {s : State} {lo hi x} : (s.wr64 lo hi x).saf = s.saf := rfl
@[simp] theorem State.wr64_sense {s : State} {lo hi x} : (s.wr64 lo hi x).sense = s.sense := rfl
@[simp] theorem State.wr64_snaps {s : State} {lo hi x} : (s.wr64 lo hi x).snaps = s.snaps := rfl
@[simp] theorem State.wr64_fb {s : State} {lo hi x} : (s.wr64 lo hi x).fb = s.fb := rfl
@[simp] theorem State.wr64_prb {s : State} {lo hi x} : (s.wr64 lo hi x).prb = s.prb := rfl
@[simp] theorem State.wr64_chans {s : State} {lo hi x} : (s.wr64 lo hi x).chans = s.chans := rfl
@[simp] theorem State.wr64_grps {s : State} {lo hi x} : (s.wr64 lo hi x).grps = s.grps := rfl
@[simp] theorem State.wr64_ae {s : State} {lo hi x} : (s.wr64 lo hi x).ae = s.ae := rfl
@[simp] theorem State.wr64_sup {s : State} {lo hi x} : (s.wr64 lo hi x).sup = s.sup := rfl
@[simp] theorem State.wr64_hif {s : State} {lo hi x} : (s.wr64 lo hi x).hif = s.hif := rfl
@[simp] theorem State.wr64_setp {s : State} {lo hi x} : (s.wr64 lo hi x).setp = s.setp := rfl
@[simp] theorem State.wr64_wide {s : State} {lo hi x} : (s.wr64 lo hi x).wide = s.wide := rfl
@[simp] theorem State.wr64_msix {s : State} {lo hi x} : (s.wr64 lo hi x).msix = s.msix := rfl
@[simp] theorem State.wr64_ipm {s : State} {lo hi x} : (s.wr64 lo hi x).ipm = s.ipm := rfl
@[simp] theorem State.wr64_lsh {s : State} {lo hi x} : (s.wr64 lo hi x).lsh = s.lsh := rfl
@[simp] theorem State.wr64_aux {s : State} {lo hi x} : (s.wr64 lo hi x).aux = s.aux := rfl
@[simp] theorem State.wr64_adc {s : State} {lo hi x} : (s.wr64 lo hi x).adc = s.adc := rfl
@[simp] theorem State.wr64_cap {s : State} {lo hi x} : (s.wr64 lo hi x).cap = s.cap := rfl
@[simp] theorem State.wr64_env {s : State} {lo hi x} : (s.wr64 lo hi x).env = s.env := rfl
@[simp] theorem State.wr64_eth {s : State} {lo hi x} : (s.wr64 lo hi x).eth = s.eth := rfl
@[simp] theorem State.wr64_fdb {s : State} {lo hi x} : (s.wr64 lo hi x).fdb = s.fdb := rfl
@[simp] theorem State.wr64_can {s : State} {lo hi x} : (s.wr64 lo hi x).can = s.can := rfl
@[simp] theorem State.wr64_fio {s : State} {lo hi x} : (s.wr64 lo hi x).fio = s.fio := rfl
@[simp] theorem State.wr64_stag {s : State} {lo hi x} : (s.wr64 lo hi x).stag = s.stag := rfl

@[simp] theorem State.merge_pending {s : State} {a v} : (s.merge a v).pending = s.pending := rfl
@[simp] theorem State.merge_mem {s : State} {a v} : (s.merge a v).mem = s.mem := rfl
@[simp] theorem State.merge_pol {s : State} {a v} : (s.merge a v).pol = s.pol := rfl
@[simp] theorem State.merge_free {s : State} {a v} : (s.merge a v).free = s.free := rfl
@[simp] theorem State.merge_out {s : State} {a v} : (s.merge a v).out = s.out := rfl
@[simp] theorem State.merge_tb {s : State} {a v} : (s.merge a v).tb = s.tb := rfl
@[simp] theorem State.merge_lqs {s : State} {a v} : (s.merge a v).lqs = s.lqs := rfl
@[simp] theorem State.merge_held {s : State} {a v} : (s.merge a v).held = s.held := rfl
@[simp] theorem State.merge_evt {s : State} {a v} : (s.merge a v).evt = s.evt := rfl
@[simp] theorem State.merge_pwm {s : State} {a v} : (s.merge a v).pwm = s.pwm := rfl
@[simp] theorem State.merge_bch {s : State} {a v} : (s.merge a v).bch = s.bch := rfl
@[simp] theorem State.merge_mg {s : State} {a v} : (s.merge a v).mg = s.mg := rfl
@[simp] theorem State.merge_clk {s : State} {a v} : (s.merge a v).clk = s.clk := rfl
@[simp] theorem State.merge_saf {s : State} {a v} : (s.merge a v).saf = s.saf := rfl
@[simp] theorem State.merge_sense {s : State} {a v} : (s.merge a v).sense = s.sense := rfl
@[simp] theorem State.merge_snaps {s : State} {a v} : (s.merge a v).snaps = s.snaps := rfl
@[simp] theorem State.merge_fb {s : State} {a v} : (s.merge a v).fb = s.fb := rfl
@[simp] theorem State.merge_prb {s : State} {a v} : (s.merge a v).prb = s.prb := rfl
@[simp] theorem State.merge_chans {s : State} {a v} : (s.merge a v).chans = s.chans := rfl
@[simp] theorem State.merge_grps {s : State} {a v} : (s.merge a v).grps = s.grps := rfl
@[simp] theorem State.merge_ae {s : State} {a v} : (s.merge a v).ae = s.ae := rfl
@[simp] theorem State.merge_sup {s : State} {a v} : (s.merge a v).sup = s.sup := rfl
@[simp] theorem State.merge_hif {s : State} {a v} : (s.merge a v).hif = s.hif := rfl
@[simp] theorem State.merge_setp {s : State} {a v} : (s.merge a v).setp = s.setp := rfl
@[simp] theorem State.merge_wide {s : State} {a v} : (s.merge a v).wide = s.wide := rfl
@[simp] theorem State.merge_msix {s : State} {a v} : (s.merge a v).msix = s.msix := rfl
@[simp] theorem State.merge_ipm {s : State} {a v} : (s.merge a v).ipm = s.ipm := rfl
@[simp] theorem State.merge_lsh {s : State} {a v} : (s.merge a v).lsh = s.lsh := rfl
@[simp] theorem State.merge_aux {s : State} {a v} : (s.merge a v).aux = s.aux := rfl
@[simp] theorem State.merge_adc {s : State} {a v} : (s.merge a v).adc = s.adc := rfl
@[simp] theorem State.merge_cap {s : State} {a v} : (s.merge a v).cap = s.cap := rfl
@[simp] theorem State.merge_env {s : State} {a v} : (s.merge a v).env = s.env := rfl
@[simp] theorem State.merge_eth {s : State} {a v} : (s.merge a v).eth = s.eth := rfl
@[simp] theorem State.merge_fdb {s : State} {a v} : (s.merge a v).fdb = s.fdb := rfl
@[simp] theorem State.merge_can {s : State} {a v} : (s.merge a v).can = s.can := rfl
@[simp] theorem State.merge_fio {s : State} {a v} : (s.merge a v).fio = s.fio := rfl
@[simp] theorem State.merge_stag {s : State} {a v} : (s.merge a v).stag = s.stag := rfl

@[simp] theorem State.took_pending {s : State} : (s.took).pending = s.pending := rfl
@[simp] theorem State.took_regs {s : State} : (s.took).regs = s.regs := rfl
@[simp] theorem State.took_mem {s : State} : (s.took).mem = s.mem := rfl
@[simp] theorem State.took_pol {s : State} : (s.took).pol = s.pol := rfl
@[simp] theorem State.took_out {s : State} : (s.took).out = s.out := rfl
@[simp] theorem State.took_tb {s : State} : (s.took).tb = s.tb := rfl
@[simp] theorem State.took_lqs {s : State} : (s.took).lqs = s.lqs := rfl
@[simp] theorem State.took_held {s : State} : (s.took).held = s.held := rfl
@[simp] theorem State.took_evt {s : State} : (s.took).evt = s.evt := rfl
@[simp] theorem State.took_pwm {s : State} : (s.took).pwm = s.pwm := rfl
@[simp] theorem State.took_bch {s : State} : (s.took).bch = s.bch := rfl
@[simp] theorem State.took_mg {s : State} : (s.took).mg = s.mg := rfl
@[simp] theorem State.took_clk {s : State} : (s.took).clk = s.clk := rfl
@[simp] theorem State.took_saf {s : State} : (s.took).saf = s.saf := rfl
@[simp] theorem State.took_sense {s : State} : (s.took).sense = s.sense := rfl
@[simp] theorem State.took_snaps {s : State} : (s.took).snaps = s.snaps := rfl
@[simp] theorem State.took_fb {s : State} : (s.took).fb = s.fb := rfl
@[simp] theorem State.took_prb {s : State} : (s.took).prb = s.prb := rfl
@[simp] theorem State.took_chans {s : State} : (s.took).chans = s.chans := rfl
@[simp] theorem State.took_grps {s : State} : (s.took).grps = s.grps := rfl
@[simp] theorem State.took_ae {s : State} : (s.took).ae = s.ae := rfl
@[simp] theorem State.took_sup {s : State} : (s.took).sup = s.sup := rfl
@[simp] theorem State.took_hif {s : State} : (s.took).hif = s.hif := rfl
@[simp] theorem State.took_setp {s : State} : (s.took).setp = s.setp := rfl
@[simp] theorem State.took_wide {s : State} : (s.took).wide = s.wide := rfl
@[simp] theorem State.took_msix {s : State} : (s.took).msix = s.msix := rfl
@[simp] theorem State.took_ipm {s : State} : (s.took).ipm = s.ipm := rfl
@[simp] theorem State.took_lsh {s : State} : (s.took).lsh = s.lsh := rfl
@[simp] theorem State.took_aux {s : State} : (s.took).aux = s.aux := rfl
@[simp] theorem State.took_adc {s : State} : (s.took).adc = s.adc := rfl
@[simp] theorem State.took_cap {s : State} : (s.took).cap = s.cap := rfl
@[simp] theorem State.took_env {s : State} : (s.took).env = s.env := rfl
@[simp] theorem State.took_eth {s : State} : (s.took).eth = s.eth := rfl
@[simp] theorem State.took_fdb {s : State} : (s.took).fdb = s.fdb := rfl
@[simp] theorem State.took_can {s : State} : (s.took).can = s.can := rfl
@[simp] theorem State.took_fio {s : State} : (s.took).fio = s.fio := rfl
@[simp] theorem State.took_stag {s : State} : (s.took).stag = s.stag := rfl

@[simp] theorem State.emit_pending {s : State} {o} : (s.emit o).pending = s.pending := rfl
@[simp] theorem State.emit_regs {s : State} {o} : (s.emit o).regs = s.regs := rfl
@[simp] theorem State.emit_mem {s : State} {o} : (s.emit o).mem = s.mem := rfl
@[simp] theorem State.emit_pol {s : State} {o} : (s.emit o).pol = s.pol := rfl
@[simp] theorem State.emit_free {s : State} {o} : (s.emit o).free = s.free := rfl
@[simp] theorem State.emit_tb {s : State} {o} : (s.emit o).tb = s.tb := rfl
@[simp] theorem State.emit_lqs {s : State} {o} : (s.emit o).lqs = s.lqs := rfl
@[simp] theorem State.emit_held {s : State} {o} : (s.emit o).held = s.held := rfl
@[simp] theorem State.emit_evt {s : State} {o} : (s.emit o).evt = s.evt := rfl
@[simp] theorem State.emit_pwm {s : State} {o} : (s.emit o).pwm = s.pwm := rfl
@[simp] theorem State.emit_bch {s : State} {o} : (s.emit o).bch = s.bch := rfl
@[simp] theorem State.emit_mg {s : State} {o} : (s.emit o).mg = s.mg := rfl
@[simp] theorem State.emit_clk {s : State} {o} : (s.emit o).clk = s.clk := rfl
@[simp] theorem State.emit_saf {s : State} {o} : (s.emit o).saf = s.saf := rfl
@[simp] theorem State.emit_sense {s : State} {o} : (s.emit o).sense = s.sense := rfl
@[simp] theorem State.emit_snaps {s : State} {o} : (s.emit o).snaps = s.snaps := rfl
@[simp] theorem State.emit_fb {s : State} {o} : (s.emit o).fb = s.fb := rfl
@[simp] theorem State.emit_prb {s : State} {o} : (s.emit o).prb = s.prb := rfl
@[simp] theorem State.emit_chans {s : State} {o} : (s.emit o).chans = s.chans := rfl
@[simp] theorem State.emit_grps {s : State} {o} : (s.emit o).grps = s.grps := rfl
@[simp] theorem State.emit_ae {s : State} {o} : (s.emit o).ae = s.ae := rfl
@[simp] theorem State.emit_sup {s : State} {o} : (s.emit o).sup = s.sup := rfl
@[simp] theorem State.emit_hif {s : State} {o} : (s.emit o).hif = s.hif := rfl
@[simp] theorem State.emit_setp {s : State} {o} : (s.emit o).setp = s.setp := rfl
@[simp] theorem State.emit_wide {s : State} {o} : (s.emit o).wide = s.wide := rfl
@[simp] theorem State.emit_msix {s : State} {o} : (s.emit o).msix = s.msix := rfl
@[simp] theorem State.emit_ipm {s : State} {o} : (s.emit o).ipm = s.ipm := rfl
@[simp] theorem State.emit_lsh {s : State} {o} : (s.emit o).lsh = s.lsh := rfl
@[simp] theorem State.emit_aux {s : State} {o} : (s.emit o).aux = s.aux := rfl
@[simp] theorem State.emit_adc {s : State} {o} : (s.emit o).adc = s.adc := rfl
@[simp] theorem State.emit_cap {s : State} {o} : (s.emit o).cap = s.cap := rfl
@[simp] theorem State.emit_env {s : State} {o} : (s.emit o).env = s.env := rfl
@[simp] theorem State.emit_eth {s : State} {o} : (s.emit o).eth = s.eth := rfl
@[simp] theorem State.emit_fdb {s : State} {o} : (s.emit o).fdb = s.fdb := rfl
@[simp] theorem State.emit_can {s : State} {o} : (s.emit o).can = s.can := rfl
@[simp] theorem State.emit_fio {s : State} {o} : (s.emit o).fio = s.fio := rfl
@[simp] theorem State.emit_stag {s : State} {o} : (s.emit o).stag = s.stag := rfl

@[simp] theorem State.raiseTo_pending {s : State} {k payload dst} : (s.raiseTo k payload dst).pending = s.pending := rfl
@[simp] theorem State.raiseTo_regs {s : State} {k payload dst} : (s.raiseTo k payload dst).regs = s.regs := rfl
@[simp] theorem State.raiseTo_mem {s : State} {k payload dst} : (s.raiseTo k payload dst).mem = s.mem := rfl
@[simp] theorem State.raiseTo_pol {s : State} {k payload dst} : (s.raiseTo k payload dst).pol = s.pol := rfl
@[simp] theorem State.raiseTo_free {s : State} {k payload dst} : (s.raiseTo k payload dst).free = s.free := rfl
@[simp] theorem State.raiseTo_out {s : State} {k payload dst} : (s.raiseTo k payload dst).out = s.out := rfl
@[simp] theorem State.raiseTo_tb {s : State} {k payload dst} : (s.raiseTo k payload dst).tb = s.tb := rfl
@[simp] theorem State.raiseTo_lqs {s : State} {k payload dst} : (s.raiseTo k payload dst).lqs = s.lqs := rfl
@[simp] theorem State.raiseTo_held {s : State} {k payload dst} : (s.raiseTo k payload dst).held = s.held := rfl
@[simp] theorem State.raiseTo_pwm {s : State} {k payload dst} : (s.raiseTo k payload dst).pwm = s.pwm := rfl
@[simp] theorem State.raiseTo_bch {s : State} {k payload dst} : (s.raiseTo k payload dst).bch = s.bch := rfl
@[simp] theorem State.raiseTo_mg {s : State} {k payload dst} : (s.raiseTo k payload dst).mg = s.mg := rfl
@[simp] theorem State.raiseTo_clk {s : State} {k payload dst} : (s.raiseTo k payload dst).clk = s.clk := rfl
@[simp] theorem State.raiseTo_saf {s : State} {k payload dst} : (s.raiseTo k payload dst).saf = s.saf := rfl
@[simp] theorem State.raiseTo_sense {s : State} {k payload dst} : (s.raiseTo k payload dst).sense = s.sense := rfl
@[simp] theorem State.raiseTo_snaps {s : State} {k payload dst} : (s.raiseTo k payload dst).snaps = s.snaps := rfl
@[simp] theorem State.raiseTo_fb {s : State} {k payload dst} : (s.raiseTo k payload dst).fb = s.fb := rfl
@[simp] theorem State.raiseTo_prb {s : State} {k payload dst} : (s.raiseTo k payload dst).prb = s.prb := rfl
@[simp] theorem State.raiseTo_chans {s : State} {k payload dst} : (s.raiseTo k payload dst).chans = s.chans := rfl
@[simp] theorem State.raiseTo_grps {s : State} {k payload dst} : (s.raiseTo k payload dst).grps = s.grps := rfl
@[simp] theorem State.raiseTo_ae {s : State} {k payload dst} : (s.raiseTo k payload dst).ae = s.ae := rfl
@[simp] theorem State.raiseTo_sup {s : State} {k payload dst} : (s.raiseTo k payload dst).sup = s.sup := rfl
@[simp] theorem State.raiseTo_hif {s : State} {k payload dst} : (s.raiseTo k payload dst).hif = s.hif := rfl
@[simp] theorem State.raiseTo_setp {s : State} {k payload dst} : (s.raiseTo k payload dst).setp = s.setp := rfl
@[simp] theorem State.raiseTo_wide {s : State} {k payload dst} : (s.raiseTo k payload dst).wide = s.wide := rfl
@[simp] theorem State.raiseTo_msix {s : State} {k payload dst} : (s.raiseTo k payload dst).msix = s.msix := rfl
@[simp] theorem State.raiseTo_ipm {s : State} {k payload dst} : (s.raiseTo k payload dst).ipm = s.ipm := rfl
@[simp] theorem State.raiseTo_lsh {s : State} {k payload dst} : (s.raiseTo k payload dst).lsh = s.lsh := rfl
@[simp] theorem State.raiseTo_aux {s : State} {k payload dst} : (s.raiseTo k payload dst).aux = s.aux := rfl
@[simp] theorem State.raiseTo_adc {s : State} {k payload dst} : (s.raiseTo k payload dst).adc = s.adc := rfl
@[simp] theorem State.raiseTo_cap {s : State} {k payload dst} : (s.raiseTo k payload dst).cap = s.cap := rfl
@[simp] theorem State.raiseTo_env {s : State} {k payload dst} : (s.raiseTo k payload dst).env = s.env := rfl
@[simp] theorem State.raiseTo_eth {s : State} {k payload dst} : (s.raiseTo k payload dst).eth = s.eth := rfl
@[simp] theorem State.raiseTo_fdb {s : State} {k payload dst} : (s.raiseTo k payload dst).fdb = s.fdb := rfl
@[simp] theorem State.raiseTo_can {s : State} {k payload dst} : (s.raiseTo k payload dst).can = s.can := rfl
@[simp] theorem State.raiseTo_fio {s : State} {k payload dst} : (s.raiseTo k payload dst).fio = s.fio := rfl
@[simp] theorem State.raiseTo_stag {s : State} {k payload dst} : (s.raiseTo k payload dst).stag = s.stag := rfl

@[simp] theorem State.raise_pending {s : State} {k payload} : (s.raise k payload).pending = s.pending := rfl
@[simp] theorem State.raise_regs {s : State} {k payload} : (s.raise k payload).regs = s.regs := rfl
@[simp] theorem State.raise_mem {s : State} {k payload} : (s.raise k payload).mem = s.mem := rfl
@[simp] theorem State.raise_pol {s : State} {k payload} : (s.raise k payload).pol = s.pol := rfl
@[simp] theorem State.raise_free {s : State} {k payload} : (s.raise k payload).free = s.free := rfl
@[simp] theorem State.raise_out {s : State} {k payload} : (s.raise k payload).out = s.out := rfl
@[simp] theorem State.raise_tb {s : State} {k payload} : (s.raise k payload).tb = s.tb := rfl
@[simp] theorem State.raise_lqs {s : State} {k payload} : (s.raise k payload).lqs = s.lqs := rfl
@[simp] theorem State.raise_held {s : State} {k payload} : (s.raise k payload).held = s.held := rfl
@[simp] theorem State.raise_pwm {s : State} {k payload} : (s.raise k payload).pwm = s.pwm := rfl
@[simp] theorem State.raise_bch {s : State} {k payload} : (s.raise k payload).bch = s.bch := rfl
@[simp] theorem State.raise_mg {s : State} {k payload} : (s.raise k payload).mg = s.mg := rfl
@[simp] theorem State.raise_clk {s : State} {k payload} : (s.raise k payload).clk = s.clk := rfl
@[simp] theorem State.raise_saf {s : State} {k payload} : (s.raise k payload).saf = s.saf := rfl
@[simp] theorem State.raise_sense {s : State} {k payload} : (s.raise k payload).sense = s.sense := rfl
@[simp] theorem State.raise_snaps {s : State} {k payload} : (s.raise k payload).snaps = s.snaps := rfl
@[simp] theorem State.raise_fb {s : State} {k payload} : (s.raise k payload).fb = s.fb := rfl
@[simp] theorem State.raise_prb {s : State} {k payload} : (s.raise k payload).prb = s.prb := rfl
@[simp] theorem State.raise_chans {s : State} {k payload} : (s.raise k payload).chans = s.chans := rfl
@[simp] theorem State.raise_grps {s : State} {k payload} : (s.raise k payload).grps = s.grps := rfl
@[simp] theorem State.raise_ae {s : State} {k payload} : (s.raise k payload).ae = s.ae := rfl
@[simp] theorem State.raise_sup {s : State} {k payload} : (s.raise k payload).sup = s.sup := rfl
@[simp] theorem State.raise_hif {s : State} {k payload} : (s.raise k payload).hif = s.hif := rfl
@[simp] theorem State.raise_setp {s : State} {k payload} : (s.raise k payload).setp = s.setp := rfl
@[simp] theorem State.raise_wide {s : State} {k payload} : (s.raise k payload).wide = s.wide := rfl
@[simp] theorem State.raise_msix {s : State} {k payload} : (s.raise k payload).msix = s.msix := rfl
@[simp] theorem State.raise_ipm {s : State} {k payload} : (s.raise k payload).ipm = s.ipm := rfl
@[simp] theorem State.raise_lsh {s : State} {k payload} : (s.raise k payload).lsh = s.lsh := rfl
@[simp] theorem State.raise_aux {s : State} {k payload} : (s.raise k payload).aux = s.aux := rfl
@[simp] theorem State.raise_adc {s : State} {k payload} : (s.raise k payload).adc = s.adc := rfl
@[simp] theorem State.raise_cap {s : State} {k payload} : (s.raise k payload).cap = s.cap := rfl
@[simp] theorem State.raise_env {s : State} {k payload} : (s.raise k payload).env = s.env := rfl
@[simp] theorem State.raise_eth {s : State} {k payload} : (s.raise k payload).eth = s.eth := rfl
@[simp] theorem State.raise_fdb {s : State} {k payload} : (s.raise k payload).fdb = s.fdb := rfl
@[simp] theorem State.raise_can {s : State} {k payload} : (s.raise k payload).can = s.can := rfl
@[simp] theorem State.raise_fio {s : State} {k payload} : (s.raise k payload).fio = s.fio := rfl
@[simp] theorem State.raise_stag {s : State} {k payload} : (s.raise k payload).stag = s.stag := rfl

@[simp] theorem State.raiseSt_pending {s : State} {k addr} : (s.raiseSt k addr).pending = s.pending := rfl
@[simp] theorem State.raiseSt_regs {s : State} {k addr} : (s.raiseSt k addr).regs = s.regs := rfl
@[simp] theorem State.raiseSt_mem {s : State} {k addr} : (s.raiseSt k addr).mem = s.mem := rfl
@[simp] theorem State.raiseSt_pol {s : State} {k addr} : (s.raiseSt k addr).pol = s.pol := rfl
@[simp] theorem State.raiseSt_free {s : State} {k addr} : (s.raiseSt k addr).free = s.free := rfl
@[simp] theorem State.raiseSt_out {s : State} {k addr} : (s.raiseSt k addr).out = s.out := rfl
@[simp] theorem State.raiseSt_tb {s : State} {k addr} : (s.raiseSt k addr).tb = s.tb := rfl
@[simp] theorem State.raiseSt_lqs {s : State} {k addr} : (s.raiseSt k addr).lqs = s.lqs := rfl
@[simp] theorem State.raiseSt_held {s : State} {k addr} : (s.raiseSt k addr).held = s.held := rfl
@[simp] theorem State.raiseSt_pwm {s : State} {k addr} : (s.raiseSt k addr).pwm = s.pwm := rfl
@[simp] theorem State.raiseSt_bch {s : State} {k addr} : (s.raiseSt k addr).bch = s.bch := rfl
@[simp] theorem State.raiseSt_mg {s : State} {k addr} : (s.raiseSt k addr).mg = s.mg := rfl
@[simp] theorem State.raiseSt_clk {s : State} {k addr} : (s.raiseSt k addr).clk = s.clk := rfl
@[simp] theorem State.raiseSt_saf {s : State} {k addr} : (s.raiseSt k addr).saf = s.saf := rfl
@[simp] theorem State.raiseSt_sense {s : State} {k addr} : (s.raiseSt k addr).sense = s.sense := rfl
@[simp] theorem State.raiseSt_snaps {s : State} {k addr} : (s.raiseSt k addr).snaps = s.snaps := rfl
@[simp] theorem State.raiseSt_fb {s : State} {k addr} : (s.raiseSt k addr).fb = s.fb := rfl
@[simp] theorem State.raiseSt_prb {s : State} {k addr} : (s.raiseSt k addr).prb = s.prb := rfl
@[simp] theorem State.raiseSt_chans {s : State} {k addr} : (s.raiseSt k addr).chans = s.chans := rfl
@[simp] theorem State.raiseSt_grps {s : State} {k addr} : (s.raiseSt k addr).grps = s.grps := rfl
@[simp] theorem State.raiseSt_ae {s : State} {k addr} : (s.raiseSt k addr).ae = s.ae := rfl
@[simp] theorem State.raiseSt_sup {s : State} {k addr} : (s.raiseSt k addr).sup = s.sup := rfl
@[simp] theorem State.raiseSt_hif {s : State} {k addr} : (s.raiseSt k addr).hif = s.hif := rfl
@[simp] theorem State.raiseSt_setp {s : State} {k addr} : (s.raiseSt k addr).setp = s.setp := rfl
@[simp] theorem State.raiseSt_wide {s : State} {k addr} : (s.raiseSt k addr).wide = s.wide := rfl
@[simp] theorem State.raiseSt_msix {s : State} {k addr} : (s.raiseSt k addr).msix = s.msix := rfl
@[simp] theorem State.raiseSt_ipm {s : State} {k addr} : (s.raiseSt k addr).ipm = s.ipm := rfl
@[simp] theorem State.raiseSt_lsh {s : State} {k addr} : (s.raiseSt k addr).lsh = s.lsh := rfl
@[simp] theorem State.raiseSt_aux {s : State} {k addr} : (s.raiseSt k addr).aux = s.aux := rfl
@[simp] theorem State.raiseSt_adc {s : State} {k addr} : (s.raiseSt k addr).adc = s.adc := rfl
@[simp] theorem State.raiseSt_cap {s : State} {k addr} : (s.raiseSt k addr).cap = s.cap := rfl
@[simp] theorem State.raiseSt_env {s : State} {k addr} : (s.raiseSt k addr).env = s.env := rfl
@[simp] theorem State.raiseSt_eth {s : State} {k addr} : (s.raiseSt k addr).eth = s.eth := rfl
@[simp] theorem State.raiseSt_fdb {s : State} {k addr} : (s.raiseSt k addr).fdb = s.fdb := rfl
@[simp] theorem State.raiseSt_can {s : State} {k addr} : (s.raiseSt k addr).can = s.can := rfl
@[simp] theorem State.raiseSt_fio {s : State} {k addr} : (s.raiseSt k addr).fio = s.fio := rfl
@[simp] theorem State.raiseSt_stag {s : State} {k addr} : (s.raiseSt k addr).stag = s.stag := rfl

@[simp] theorem State.addLife_pending {s : State} {i d} : (s.addLife i d).pending = s.pending := rfl
@[simp] theorem State.addLife_regs {s : State} {i d} : (s.addLife i d).regs = s.regs := rfl
@[simp] theorem State.addLife_mem {s : State} {i d} : (s.addLife i d).mem = s.mem := rfl
@[simp] theorem State.addLife_pol {s : State} {i d} : (s.addLife i d).pol = s.pol := rfl
@[simp] theorem State.addLife_free {s : State} {i d} : (s.addLife i d).free = s.free := rfl
@[simp] theorem State.addLife_out {s : State} {i d} : (s.addLife i d).out = s.out := rfl
@[simp] theorem State.addLife_tb {s : State} {i d} : (s.addLife i d).tb = s.tb := rfl
@[simp] theorem State.addLife_lqs {s : State} {i d} : (s.addLife i d).lqs = s.lqs := rfl
@[simp] theorem State.addLife_held {s : State} {i d} : (s.addLife i d).held = s.held := rfl
@[simp] theorem State.addLife_evt {s : State} {i d} : (s.addLife i d).evt = s.evt := rfl
@[simp] theorem State.addLife_pwm {s : State} {i d} : (s.addLife i d).pwm = s.pwm := rfl
@[simp] theorem State.addLife_bch {s : State} {i d} : (s.addLife i d).bch = s.bch := rfl
@[simp] theorem State.addLife_clk {s : State} {i d} : (s.addLife i d).clk = s.clk := rfl
@[simp] theorem State.addLife_saf {s : State} {i d} : (s.addLife i d).saf = s.saf := rfl
@[simp] theorem State.addLife_sense {s : State} {i d} : (s.addLife i d).sense = s.sense := rfl
@[simp] theorem State.addLife_snaps {s : State} {i d} : (s.addLife i d).snaps = s.snaps := rfl
@[simp] theorem State.addLife_fb {s : State} {i d} : (s.addLife i d).fb = s.fb := rfl
@[simp] theorem State.addLife_prb {s : State} {i d} : (s.addLife i d).prb = s.prb := rfl
@[simp] theorem State.addLife_chans {s : State} {i d} : (s.addLife i d).chans = s.chans := rfl
@[simp] theorem State.addLife_grps {s : State} {i d} : (s.addLife i d).grps = s.grps := rfl
@[simp] theorem State.addLife_ae {s : State} {i d} : (s.addLife i d).ae = s.ae := rfl
@[simp] theorem State.addLife_sup {s : State} {i d} : (s.addLife i d).sup = s.sup := rfl
@[simp] theorem State.addLife_hif {s : State} {i d} : (s.addLife i d).hif = s.hif := rfl
@[simp] theorem State.addLife_setp {s : State} {i d} : (s.addLife i d).setp = s.setp := rfl
@[simp] theorem State.addLife_wide {s : State} {i d} : (s.addLife i d).wide = s.wide := rfl
@[simp] theorem State.addLife_msix {s : State} {i d} : (s.addLife i d).msix = s.msix := rfl
@[simp] theorem State.addLife_ipm {s : State} {i d} : (s.addLife i d).ipm = s.ipm := rfl
@[simp] theorem State.addLife_lsh {s : State} {i d} : (s.addLife i d).lsh = s.lsh := rfl
@[simp] theorem State.addLife_aux {s : State} {i d} : (s.addLife i d).aux = s.aux := rfl
@[simp] theorem State.addLife_adc {s : State} {i d} : (s.addLife i d).adc = s.adc := rfl
@[simp] theorem State.addLife_cap {s : State} {i d} : (s.addLife i d).cap = s.cap := rfl
@[simp] theorem State.addLife_env {s : State} {i d} : (s.addLife i d).env = s.env := rfl
@[simp] theorem State.addLife_eth {s : State} {i d} : (s.addLife i d).eth = s.eth := rfl
@[simp] theorem State.addLife_fdb {s : State} {i d} : (s.addLife i d).fdb = s.fdb := rfl
@[simp] theorem State.addLife_can {s : State} {i d} : (s.addLife i d).can = s.can := rfl
@[simp] theorem State.addLife_fio {s : State} {i d} : (s.addLife i d).fio = s.fio := rfl
@[simp] theorem State.addLife_stag {s : State} {i d} : (s.addLife i d).stag = s.stag := rfl

@[simp] theorem State.setPwm_pending {s : State} {n x} : (s.setPwm n x).pending = s.pending := rfl
@[simp] theorem State.setPwm_regs {s : State} {n x} : (s.setPwm n x).regs = s.regs := rfl
@[simp] theorem State.setPwm_mem {s : State} {n x} : (s.setPwm n x).mem = s.mem := rfl
@[simp] theorem State.setPwm_pol {s : State} {n x} : (s.setPwm n x).pol = s.pol := rfl
@[simp] theorem State.setPwm_free {s : State} {n x} : (s.setPwm n x).free = s.free := rfl
@[simp] theorem State.setPwm_out {s : State} {n x} : (s.setPwm n x).out = s.out := rfl
@[simp] theorem State.setPwm_tb {s : State} {n x} : (s.setPwm n x).tb = s.tb := rfl
@[simp] theorem State.setPwm_lqs {s : State} {n x} : (s.setPwm n x).lqs = s.lqs := rfl
@[simp] theorem State.setPwm_held {s : State} {n x} : (s.setPwm n x).held = s.held := rfl
@[simp] theorem State.setPwm_evt {s : State} {n x} : (s.setPwm n x).evt = s.evt := rfl
@[simp] theorem State.setPwm_bch {s : State} {n x} : (s.setPwm n x).bch = s.bch := rfl
@[simp] theorem State.setPwm_mg {s : State} {n x} : (s.setPwm n x).mg = s.mg := rfl
@[simp] theorem State.setPwm_clk {s : State} {n x} : (s.setPwm n x).clk = s.clk := rfl
@[simp] theorem State.setPwm_saf {s : State} {n x} : (s.setPwm n x).saf = s.saf := rfl
@[simp] theorem State.setPwm_sense {s : State} {n x} : (s.setPwm n x).sense = s.sense := rfl
@[simp] theorem State.setPwm_snaps {s : State} {n x} : (s.setPwm n x).snaps = s.snaps := rfl
@[simp] theorem State.setPwm_fb {s : State} {n x} : (s.setPwm n x).fb = s.fb := rfl
@[simp] theorem State.setPwm_prb {s : State} {n x} : (s.setPwm n x).prb = s.prb := rfl
@[simp] theorem State.setPwm_chans {s : State} {n x} : (s.setPwm n x).chans = s.chans := rfl
@[simp] theorem State.setPwm_grps {s : State} {n x} : (s.setPwm n x).grps = s.grps := rfl
@[simp] theorem State.setPwm_ae {s : State} {n x} : (s.setPwm n x).ae = s.ae := rfl
@[simp] theorem State.setPwm_sup {s : State} {n x} : (s.setPwm n x).sup = s.sup := rfl
@[simp] theorem State.setPwm_hif {s : State} {n x} : (s.setPwm n x).hif = s.hif := rfl
@[simp] theorem State.setPwm_setp {s : State} {n x} : (s.setPwm n x).setp = s.setp := rfl
@[simp] theorem State.setPwm_wide {s : State} {n x} : (s.setPwm n x).wide = s.wide := rfl
@[simp] theorem State.setPwm_msix {s : State} {n x} : (s.setPwm n x).msix = s.msix := rfl
@[simp] theorem State.setPwm_ipm {s : State} {n x} : (s.setPwm n x).ipm = s.ipm := rfl
@[simp] theorem State.setPwm_lsh {s : State} {n x} : (s.setPwm n x).lsh = s.lsh := rfl
@[simp] theorem State.setPwm_aux {s : State} {n x} : (s.setPwm n x).aux = s.aux := rfl
@[simp] theorem State.setPwm_adc {s : State} {n x} : (s.setPwm n x).adc = s.adc := rfl
@[simp] theorem State.setPwm_cap {s : State} {n x} : (s.setPwm n x).cap = s.cap := rfl
@[simp] theorem State.setPwm_env {s : State} {n x} : (s.setPwm n x).env = s.env := rfl
@[simp] theorem State.setPwm_eth {s : State} {n x} : (s.setPwm n x).eth = s.eth := rfl
@[simp] theorem State.setPwm_fdb {s : State} {n x} : (s.setPwm n x).fdb = s.fdb := rfl
@[simp] theorem State.setPwm_can {s : State} {n x} : (s.setPwm n x).can = s.can := rfl
@[simp] theorem State.setPwm_fio {s : State} {n x} : (s.setPwm n x).fio = s.fio := rfl
@[simp] theorem State.setPwm_stag {s : State} {n x} : (s.setPwm n x).stag = s.stag := rfl

@[simp] theorem State.setBch_pending {s : State} {g x} : (s.setBch g x).pending = s.pending := rfl
@[simp] theorem State.setBch_regs {s : State} {g x} : (s.setBch g x).regs = s.regs := rfl
@[simp] theorem State.setBch_mem {s : State} {g x} : (s.setBch g x).mem = s.mem := rfl
@[simp] theorem State.setBch_pol {s : State} {g x} : (s.setBch g x).pol = s.pol := rfl
@[simp] theorem State.setBch_free {s : State} {g x} : (s.setBch g x).free = s.free := rfl
@[simp] theorem State.setBch_out {s : State} {g x} : (s.setBch g x).out = s.out := rfl
@[simp] theorem State.setBch_tb {s : State} {g x} : (s.setBch g x).tb = s.tb := rfl
@[simp] theorem State.setBch_lqs {s : State} {g x} : (s.setBch g x).lqs = s.lqs := rfl
@[simp] theorem State.setBch_held {s : State} {g x} : (s.setBch g x).held = s.held := rfl
@[simp] theorem State.setBch_evt {s : State} {g x} : (s.setBch g x).evt = s.evt := rfl
@[simp] theorem State.setBch_pwm {s : State} {g x} : (s.setBch g x).pwm = s.pwm := rfl
@[simp] theorem State.setBch_mg {s : State} {g x} : (s.setBch g x).mg = s.mg := rfl
@[simp] theorem State.setBch_clk {s : State} {g x} : (s.setBch g x).clk = s.clk := rfl
@[simp] theorem State.setBch_saf {s : State} {g x} : (s.setBch g x).saf = s.saf := rfl
@[simp] theorem State.setBch_sense {s : State} {g x} : (s.setBch g x).sense = s.sense := rfl
@[simp] theorem State.setBch_snaps {s : State} {g x} : (s.setBch g x).snaps = s.snaps := rfl
@[simp] theorem State.setBch_fb {s : State} {g x} : (s.setBch g x).fb = s.fb := rfl
@[simp] theorem State.setBch_prb {s : State} {g x} : (s.setBch g x).prb = s.prb := rfl
@[simp] theorem State.setBch_chans {s : State} {g x} : (s.setBch g x).chans = s.chans := rfl
@[simp] theorem State.setBch_grps {s : State} {g x} : (s.setBch g x).grps = s.grps := rfl
@[simp] theorem State.setBch_ae {s : State} {g x} : (s.setBch g x).ae = s.ae := rfl
@[simp] theorem State.setBch_sup {s : State} {g x} : (s.setBch g x).sup = s.sup := rfl
@[simp] theorem State.setBch_hif {s : State} {g x} : (s.setBch g x).hif = s.hif := rfl
@[simp] theorem State.setBch_setp {s : State} {g x} : (s.setBch g x).setp = s.setp := rfl
@[simp] theorem State.setBch_wide {s : State} {g x} : (s.setBch g x).wide = s.wide := rfl
@[simp] theorem State.setBch_msix {s : State} {g x} : (s.setBch g x).msix = s.msix := rfl
@[simp] theorem State.setBch_ipm {s : State} {g x} : (s.setBch g x).ipm = s.ipm := rfl
@[simp] theorem State.setBch_lsh {s : State} {g x} : (s.setBch g x).lsh = s.lsh := rfl
@[simp] theorem State.setBch_aux {s : State} {g x} : (s.setBch g x).aux = s.aux := rfl
@[simp] theorem State.setBch_adc {s : State} {g x} : (s.setBch g x).adc = s.adc := rfl
@[simp] theorem State.setBch_cap {s : State} {g x} : (s.setBch g x).cap = s.cap := rfl
@[simp] theorem State.setBch_env {s : State} {g x} : (s.setBch g x).env = s.env := rfl
@[simp] theorem State.setBch_eth {s : State} {g x} : (s.setBch g x).eth = s.eth := rfl
@[simp] theorem State.setBch_fdb {s : State} {g x} : (s.setBch g x).fdb = s.fdb := rfl
@[simp] theorem State.setBch_can {s : State} {g x} : (s.setBch g x).can = s.can := rfl
@[simp] theorem State.setBch_fio {s : State} {g x} : (s.setBch g x).fio = s.fio := rfl
@[simp] theorem State.setBch_stag {s : State} {g x} : (s.setBch g x).stag = s.stag := rfl

@[simp] theorem State.setAe_pending {s : State} {n x} : (s.setAe n x).pending = s.pending := rfl
@[simp] theorem State.setAe_regs {s : State} {n x} : (s.setAe n x).regs = s.regs := rfl
@[simp] theorem State.setAe_mem {s : State} {n x} : (s.setAe n x).mem = s.mem := rfl
@[simp] theorem State.setAe_pol {s : State} {n x} : (s.setAe n x).pol = s.pol := rfl
@[simp] theorem State.setAe_free {s : State} {n x} : (s.setAe n x).free = s.free := rfl
@[simp] theorem State.setAe_out {s : State} {n x} : (s.setAe n x).out = s.out := rfl
@[simp] theorem State.setAe_tb {s : State} {n x} : (s.setAe n x).tb = s.tb := rfl
@[simp] theorem State.setAe_lqs {s : State} {n x} : (s.setAe n x).lqs = s.lqs := rfl
@[simp] theorem State.setAe_held {s : State} {n x} : (s.setAe n x).held = s.held := rfl
@[simp] theorem State.setAe_evt {s : State} {n x} : (s.setAe n x).evt = s.evt := rfl
@[simp] theorem State.setAe_pwm {s : State} {n x} : (s.setAe n x).pwm = s.pwm := rfl
@[simp] theorem State.setAe_bch {s : State} {n x} : (s.setAe n x).bch = s.bch := rfl
@[simp] theorem State.setAe_mg {s : State} {n x} : (s.setAe n x).mg = s.mg := rfl
@[simp] theorem State.setAe_clk {s : State} {n x} : (s.setAe n x).clk = s.clk := rfl
@[simp] theorem State.setAe_saf {s : State} {n x} : (s.setAe n x).saf = s.saf := rfl
@[simp] theorem State.setAe_sense {s : State} {n x} : (s.setAe n x).sense = s.sense := rfl
@[simp] theorem State.setAe_snaps {s : State} {n x} : (s.setAe n x).snaps = s.snaps := rfl
@[simp] theorem State.setAe_fb {s : State} {n x} : (s.setAe n x).fb = s.fb := rfl
@[simp] theorem State.setAe_prb {s : State} {n x} : (s.setAe n x).prb = s.prb := rfl
@[simp] theorem State.setAe_chans {s : State} {n x} : (s.setAe n x).chans = s.chans := rfl
@[simp] theorem State.setAe_grps {s : State} {n x} : (s.setAe n x).grps = s.grps := rfl
@[simp] theorem State.setAe_sup {s : State} {n x} : (s.setAe n x).sup = s.sup := rfl
@[simp] theorem State.setAe_hif {s : State} {n x} : (s.setAe n x).hif = s.hif := rfl
@[simp] theorem State.setAe_setp {s : State} {n x} : (s.setAe n x).setp = s.setp := rfl
@[simp] theorem State.setAe_wide {s : State} {n x} : (s.setAe n x).wide = s.wide := rfl
@[simp] theorem State.setAe_msix {s : State} {n x} : (s.setAe n x).msix = s.msix := rfl
@[simp] theorem State.setAe_ipm {s : State} {n x} : (s.setAe n x).ipm = s.ipm := rfl
@[simp] theorem State.setAe_lsh {s : State} {n x} : (s.setAe n x).lsh = s.lsh := rfl
@[simp] theorem State.setAe_aux {s : State} {n x} : (s.setAe n x).aux = s.aux := rfl
@[simp] theorem State.setAe_adc {s : State} {n x} : (s.setAe n x).adc = s.adc := rfl
@[simp] theorem State.setAe_cap {s : State} {n x} : (s.setAe n x).cap = s.cap := rfl
@[simp] theorem State.setAe_env {s : State} {n x} : (s.setAe n x).env = s.env := rfl
@[simp] theorem State.setAe_eth {s : State} {n x} : (s.setAe n x).eth = s.eth := rfl
@[simp] theorem State.setAe_fdb {s : State} {n x} : (s.setAe n x).fdb = s.fdb := rfl
@[simp] theorem State.setAe_can {s : State} {n x} : (s.setAe n x).can = s.can := rfl
@[simp] theorem State.setAe_fio {s : State} {n x} : (s.setAe n x).fio = s.fio := rfl
@[simp] theorem State.setAe_stag {s : State} {n x} : (s.setAe n x).stag = s.stag := rfl

@[simp] theorem State.setChan_pending {s : State} {k x} : (s.setChan k x).pending = s.pending := rfl
@[simp] theorem State.setChan_regs {s : State} {k x} : (s.setChan k x).regs = s.regs := rfl
@[simp] theorem State.setChan_mem {s : State} {k x} : (s.setChan k x).mem = s.mem := rfl
@[simp] theorem State.setChan_pol {s : State} {k x} : (s.setChan k x).pol = s.pol := rfl
@[simp] theorem State.setChan_free {s : State} {k x} : (s.setChan k x).free = s.free := rfl
@[simp] theorem State.setChan_out {s : State} {k x} : (s.setChan k x).out = s.out := rfl
@[simp] theorem State.setChan_tb {s : State} {k x} : (s.setChan k x).tb = s.tb := rfl
@[simp] theorem State.setChan_lqs {s : State} {k x} : (s.setChan k x).lqs = s.lqs := rfl
@[simp] theorem State.setChan_held {s : State} {k x} : (s.setChan k x).held = s.held := rfl
@[simp] theorem State.setChan_evt {s : State} {k x} : (s.setChan k x).evt = s.evt := rfl
@[simp] theorem State.setChan_pwm {s : State} {k x} : (s.setChan k x).pwm = s.pwm := rfl
@[simp] theorem State.setChan_bch {s : State} {k x} : (s.setChan k x).bch = s.bch := rfl
@[simp] theorem State.setChan_mg {s : State} {k x} : (s.setChan k x).mg = s.mg := rfl
@[simp] theorem State.setChan_clk {s : State} {k x} : (s.setChan k x).clk = s.clk := rfl
@[simp] theorem State.setChan_saf {s : State} {k x} : (s.setChan k x).saf = s.saf := rfl
@[simp] theorem State.setChan_sense {s : State} {k x} : (s.setChan k x).sense = s.sense := rfl
@[simp] theorem State.setChan_snaps {s : State} {k x} : (s.setChan k x).snaps = s.snaps := rfl
@[simp] theorem State.setChan_fb {s : State} {k x} : (s.setChan k x).fb = s.fb := rfl
@[simp] theorem State.setChan_prb {s : State} {k x} : (s.setChan k x).prb = s.prb := rfl
@[simp] theorem State.setChan_grps {s : State} {k x} : (s.setChan k x).grps = s.grps := rfl
@[simp] theorem State.setChan_ae {s : State} {k x} : (s.setChan k x).ae = s.ae := rfl
@[simp] theorem State.setChan_sup {s : State} {k x} : (s.setChan k x).sup = s.sup := rfl
@[simp] theorem State.setChan_hif {s : State} {k x} : (s.setChan k x).hif = s.hif := rfl
@[simp] theorem State.setChan_setp {s : State} {k x} : (s.setChan k x).setp = s.setp := rfl
@[simp] theorem State.setChan_wide {s : State} {k x} : (s.setChan k x).wide = s.wide := rfl
@[simp] theorem State.setChan_msix {s : State} {k x} : (s.setChan k x).msix = s.msix := rfl
@[simp] theorem State.setChan_ipm {s : State} {k x} : (s.setChan k x).ipm = s.ipm := rfl
@[simp] theorem State.setChan_lsh {s : State} {k x} : (s.setChan k x).lsh = s.lsh := rfl
@[simp] theorem State.setChan_aux {s : State} {k x} : (s.setChan k x).aux = s.aux := rfl
@[simp] theorem State.setChan_adc {s : State} {k x} : (s.setChan k x).adc = s.adc := rfl
@[simp] theorem State.setChan_cap {s : State} {k x} : (s.setChan k x).cap = s.cap := rfl
@[simp] theorem State.setChan_env {s : State} {k x} : (s.setChan k x).env = s.env := rfl
@[simp] theorem State.setChan_eth {s : State} {k x} : (s.setChan k x).eth = s.eth := rfl
@[simp] theorem State.setChan_fdb {s : State} {k x} : (s.setChan k x).fdb = s.fdb := rfl
@[simp] theorem State.setChan_can {s : State} {k x} : (s.setChan k x).can = s.can := rfl
@[simp] theorem State.setChan_fio {s : State} {k x} : (s.setChan k x).fio = s.fio := rfl
@[simp] theorem State.setChan_stag {s : State} {k x} : (s.setChan k x).stag = s.stag := rfl

@[simp] theorem State.setLq_pending {s : State} {q x} : (s.setLq q x).pending = s.pending := rfl
@[simp] theorem State.setLq_mem {s : State} {q x} : (s.setLq q x).mem = s.mem := rfl
@[simp] theorem State.setLq_pol {s : State} {q x} : (s.setLq q x).pol = s.pol := rfl
@[simp] theorem State.setLq_free {s : State} {q x} : (s.setLq q x).free = s.free := rfl
@[simp] theorem State.setLq_out {s : State} {q x} : (s.setLq q x).out = s.out := rfl
@[simp] theorem State.setLq_tb {s : State} {q x} : (s.setLq q x).tb = s.tb := rfl
@[simp] theorem State.setLq_held {s : State} {q x} : (s.setLq q x).held = s.held := rfl
@[simp] theorem State.setLq_evt {s : State} {q x} : (s.setLq q x).evt = s.evt := rfl
@[simp] theorem State.setLq_pwm {s : State} {q x} : (s.setLq q x).pwm = s.pwm := rfl
@[simp] theorem State.setLq_bch {s : State} {q x} : (s.setLq q x).bch = s.bch := rfl
@[simp] theorem State.setLq_mg {s : State} {q x} : (s.setLq q x).mg = s.mg := rfl
@[simp] theorem State.setLq_clk {s : State} {q x} : (s.setLq q x).clk = s.clk := rfl
@[simp] theorem State.setLq_saf {s : State} {q x} : (s.setLq q x).saf = s.saf := rfl
@[simp] theorem State.setLq_sense {s : State} {q x} : (s.setLq q x).sense = s.sense := rfl
@[simp] theorem State.setLq_snaps {s : State} {q x} : (s.setLq q x).snaps = s.snaps := rfl
@[simp] theorem State.setLq_fb {s : State} {q x} : (s.setLq q x).fb = s.fb := rfl
@[simp] theorem State.setLq_prb {s : State} {q x} : (s.setLq q x).prb = s.prb := rfl
@[simp] theorem State.setLq_chans {s : State} {q x} : (s.setLq q x).chans = s.chans := rfl
@[simp] theorem State.setLq_grps {s : State} {q x} : (s.setLq q x).grps = s.grps := rfl
@[simp] theorem State.setLq_ae {s : State} {q x} : (s.setLq q x).ae = s.ae := rfl
@[simp] theorem State.setLq_sup {s : State} {q x} : (s.setLq q x).sup = s.sup := rfl
@[simp] theorem State.setLq_hif {s : State} {q x} : (s.setLq q x).hif = s.hif := rfl
@[simp] theorem State.setLq_setp {s : State} {q x} : (s.setLq q x).setp = s.setp := rfl
@[simp] theorem State.setLq_wide {s : State} {q x} : (s.setLq q x).wide = s.wide := rfl
@[simp] theorem State.setLq_msix {s : State} {q x} : (s.setLq q x).msix = s.msix := rfl
@[simp] theorem State.setLq_ipm {s : State} {q x} : (s.setLq q x).ipm = s.ipm := rfl
@[simp] theorem State.setLq_lsh {s : State} {q x} : (s.setLq q x).lsh = s.lsh := rfl
@[simp] theorem State.setLq_aux {s : State} {q x} : (s.setLq q x).aux = s.aux := rfl
@[simp] theorem State.setLq_adc {s : State} {q x} : (s.setLq q x).adc = s.adc := rfl
@[simp] theorem State.setLq_cap {s : State} {q x} : (s.setLq q x).cap = s.cap := rfl
@[simp] theorem State.setLq_env {s : State} {q x} : (s.setLq q x).env = s.env := rfl
@[simp] theorem State.setLq_eth {s : State} {q x} : (s.setLq q x).eth = s.eth := rfl
@[simp] theorem State.setLq_fdb {s : State} {q x} : (s.setLq q x).fdb = s.fdb := rfl
@[simp] theorem State.setLq_can {s : State} {q x} : (s.setLq q x).can = s.can := rfl
@[simp] theorem State.setLq_fio {s : State} {q x} : (s.setLq q x).fio = s.fio := rfl
@[simp] theorem State.setLq_stag {s : State} {q x} : (s.setLq q x).stag = s.stag := rfl

@[simp] theorem State.fillSnap_pending {s : State} {rq a l} : (s.fillSnap rq a l).pending = s.pending := rfl
@[simp] theorem State.fillSnap_regs {s : State} {rq a l} : (s.fillSnap rq a l).regs = s.regs := rfl
@[simp] theorem State.fillSnap_mem {s : State} {rq a l} : (s.fillSnap rq a l).mem = s.mem := rfl
@[simp] theorem State.fillSnap_pol {s : State} {rq a l} : (s.fillSnap rq a l).pol = s.pol := rfl
@[simp] theorem State.fillSnap_free {s : State} {rq a l} : (s.fillSnap rq a l).free = s.free := rfl
@[simp] theorem State.fillSnap_out {s : State} {rq a l} : (s.fillSnap rq a l).out = s.out := rfl
@[simp] theorem State.fillSnap_tb {s : State} {rq a l} : (s.fillSnap rq a l).tb = s.tb := rfl
@[simp] theorem State.fillSnap_lqs {s : State} {rq a l} : (s.fillSnap rq a l).lqs = s.lqs := rfl
@[simp] theorem State.fillSnap_held {s : State} {rq a l} : (s.fillSnap rq a l).held = s.held := rfl
@[simp] theorem State.fillSnap_evt {s : State} {rq a l} : (s.fillSnap rq a l).evt = s.evt := rfl
@[simp] theorem State.fillSnap_pwm {s : State} {rq a l} : (s.fillSnap rq a l).pwm = s.pwm := rfl
@[simp] theorem State.fillSnap_bch {s : State} {rq a l} : (s.fillSnap rq a l).bch = s.bch := rfl
@[simp] theorem State.fillSnap_mg {s : State} {rq a l} : (s.fillSnap rq a l).mg = s.mg := rfl
@[simp] theorem State.fillSnap_clk {s : State} {rq a l} : (s.fillSnap rq a l).clk = s.clk := rfl
@[simp] theorem State.fillSnap_saf {s : State} {rq a l} : (s.fillSnap rq a l).saf = s.saf := rfl
@[simp] theorem State.fillSnap_sense {s : State} {rq a l} : (s.fillSnap rq a l).sense = s.sense := rfl
@[simp] theorem State.fillSnap_fb {s : State} {rq a l} : (s.fillSnap rq a l).fb = s.fb := rfl
@[simp] theorem State.fillSnap_prb {s : State} {rq a l} : (s.fillSnap rq a l).prb = s.prb := rfl
@[simp] theorem State.fillSnap_chans {s : State} {rq a l} : (s.fillSnap rq a l).chans = s.chans := rfl
@[simp] theorem State.fillSnap_grps {s : State} {rq a l} : (s.fillSnap rq a l).grps = s.grps := rfl
@[simp] theorem State.fillSnap_ae {s : State} {rq a l} : (s.fillSnap rq a l).ae = s.ae := rfl
@[simp] theorem State.fillSnap_sup {s : State} {rq a l} : (s.fillSnap rq a l).sup = s.sup := rfl
@[simp] theorem State.fillSnap_hif {s : State} {rq a l} : (s.fillSnap rq a l).hif = s.hif := rfl
@[simp] theorem State.fillSnap_setp {s : State} {rq a l} : (s.fillSnap rq a l).setp = s.setp := rfl
@[simp] theorem State.fillSnap_wide {s : State} {rq a l} : (s.fillSnap rq a l).wide = s.wide := rfl
@[simp] theorem State.fillSnap_msix {s : State} {rq a l} : (s.fillSnap rq a l).msix = s.msix := rfl
@[simp] theorem State.fillSnap_ipm {s : State} {rq a l} : (s.fillSnap rq a l).ipm = s.ipm := rfl
@[simp] theorem State.fillSnap_lsh {s : State} {rq a l} : (s.fillSnap rq a l).lsh = s.lsh := rfl
@[simp] theorem State.fillSnap_aux {s : State} {rq a l} : (s.fillSnap rq a l).aux = s.aux := rfl
@[simp] theorem State.fillSnap_adc {s : State} {rq a l} : (s.fillSnap rq a l).adc = s.adc := rfl
@[simp] theorem State.fillSnap_cap {s : State} {rq a l} : (s.fillSnap rq a l).cap = s.cap := rfl
@[simp] theorem State.fillSnap_env {s : State} {rq a l} : (s.fillSnap rq a l).env = s.env := rfl
@[simp] theorem State.fillSnap_eth {s : State} {rq a l} : (s.fillSnap rq a l).eth = s.eth := rfl
@[simp] theorem State.fillSnap_fdb {s : State} {rq a l} : (s.fillSnap rq a l).fdb = s.fdb := rfl
@[simp] theorem State.fillSnap_can {s : State} {rq a l} : (s.fillSnap rq a l).can = s.can := rfl
@[simp] theorem State.fillSnap_fio {s : State} {rq a l} : (s.fillSnap rq a l).fio = s.fio := rfl
@[simp] theorem State.fillSnap_stag {s : State} {rq a l} : (s.fillSnap rq a l).stag = s.stag := rfl

theorem State.journal_keeps (s : State) (kind source : Nat) (sev : BitVec 2) (body : List Nat) :
    ∃ m : MgmtSt, s.journal kind source sev body = { s with mg := m } := by
  unfold State.journal
  dsimp only
  split
  · exact ⟨_, rfl⟩
  · exact ⟨_, rfl⟩

@[simp] theorem State.journal_pending {s : State} {kind source sev body} :
    (s.journal kind source sev body).pending = s.pending := by
  obtain ⟨m, h⟩ := State.journal_keeps s kind source sev body
  rw [h]
@[simp] theorem State.journal_regs {s : State} {kind source sev body} :
    (s.journal kind source sev body).regs = s.regs := by
  obtain ⟨m, h⟩ := State.journal_keeps s kind source sev body
  rw [h]
@[simp] theorem State.journal_mem {s : State} {kind source sev body} :
    (s.journal kind source sev body).mem = s.mem := by
  obtain ⟨m, h⟩ := State.journal_keeps s kind source sev body
  rw [h]
@[simp] theorem State.journal_pol {s : State} {kind source sev body} :
    (s.journal kind source sev body).pol = s.pol := by
  obtain ⟨m, h⟩ := State.journal_keeps s kind source sev body
  rw [h]
@[simp] theorem State.journal_free {s : State} {kind source sev body} :
    (s.journal kind source sev body).free = s.free := by
  obtain ⟨m, h⟩ := State.journal_keeps s kind source sev body
  rw [h]
@[simp] theorem State.journal_out {s : State} {kind source sev body} :
    (s.journal kind source sev body).out = s.out := by
  obtain ⟨m, h⟩ := State.journal_keeps s kind source sev body
  rw [h]
@[simp] theorem State.journal_tb {s : State} {kind source sev body} :
    (s.journal kind source sev body).tb = s.tb := by
  obtain ⟨m, h⟩ := State.journal_keeps s kind source sev body
  rw [h]
@[simp] theorem State.journal_lqs {s : State} {kind source sev body} :
    (s.journal kind source sev body).lqs = s.lqs := by
  obtain ⟨m, h⟩ := State.journal_keeps s kind source sev body
  rw [h]
@[simp] theorem State.journal_held {s : State} {kind source sev body} :
    (s.journal kind source sev body).held = s.held := by
  obtain ⟨m, h⟩ := State.journal_keeps s kind source sev body
  rw [h]
@[simp] theorem State.journal_evt {s : State} {kind source sev body} :
    (s.journal kind source sev body).evt = s.evt := by
  obtain ⟨m, h⟩ := State.journal_keeps s kind source sev body
  rw [h]
@[simp] theorem State.journal_pwm {s : State} {kind source sev body} :
    (s.journal kind source sev body).pwm = s.pwm := by
  obtain ⟨m, h⟩ := State.journal_keeps s kind source sev body
  rw [h]
@[simp] theorem State.journal_bch {s : State} {kind source sev body} :
    (s.journal kind source sev body).bch = s.bch := by
  obtain ⟨m, h⟩ := State.journal_keeps s kind source sev body
  rw [h]
@[simp] theorem State.journal_clk {s : State} {kind source sev body} :
    (s.journal kind source sev body).clk = s.clk := by
  obtain ⟨m, h⟩ := State.journal_keeps s kind source sev body
  rw [h]
@[simp] theorem State.journal_saf {s : State} {kind source sev body} :
    (s.journal kind source sev body).saf = s.saf := by
  obtain ⟨m, h⟩ := State.journal_keeps s kind source sev body
  rw [h]
@[simp] theorem State.journal_sense {s : State} {kind source sev body} :
    (s.journal kind source sev body).sense = s.sense := by
  obtain ⟨m, h⟩ := State.journal_keeps s kind source sev body
  rw [h]
@[simp] theorem State.journal_snaps {s : State} {kind source sev body} :
    (s.journal kind source sev body).snaps = s.snaps := by
  obtain ⟨m, h⟩ := State.journal_keeps s kind source sev body
  rw [h]
@[simp] theorem State.journal_fb {s : State} {kind source sev body} :
    (s.journal kind source sev body).fb = s.fb := by
  obtain ⟨m, h⟩ := State.journal_keeps s kind source sev body
  rw [h]
@[simp] theorem State.journal_prb {s : State} {kind source sev body} :
    (s.journal kind source sev body).prb = s.prb := by
  obtain ⟨m, h⟩ := State.journal_keeps s kind source sev body
  rw [h]
@[simp] theorem State.journal_chans {s : State} {kind source sev body} :
    (s.journal kind source sev body).chans = s.chans := by
  obtain ⟨m, h⟩ := State.journal_keeps s kind source sev body
  rw [h]
@[simp] theorem State.journal_grps {s : State} {kind source sev body} :
    (s.journal kind source sev body).grps = s.grps := by
  obtain ⟨m, h⟩ := State.journal_keeps s kind source sev body
  rw [h]
@[simp] theorem State.journal_ae {s : State} {kind source sev body} :
    (s.journal kind source sev body).ae = s.ae := by
  obtain ⟨m, h⟩ := State.journal_keeps s kind source sev body
  rw [h]
@[simp] theorem State.journal_sup {s : State} {kind source sev body} :
    (s.journal kind source sev body).sup = s.sup := by
  obtain ⟨m, h⟩ := State.journal_keeps s kind source sev body
  rw [h]
@[simp] theorem State.journal_hif {s : State} {kind source sev body} :
    (s.journal kind source sev body).hif = s.hif := by
  obtain ⟨m, h⟩ := State.journal_keeps s kind source sev body
  rw [h]
@[simp] theorem State.journal_setp {s : State} {kind source sev body} :
    (s.journal kind source sev body).setp = s.setp := by
  obtain ⟨m, h⟩ := State.journal_keeps s kind source sev body
  rw [h]
@[simp] theorem State.journal_wide {s : State} {kind source sev body} :
    (s.journal kind source sev body).wide = s.wide := by
  obtain ⟨m, h⟩ := State.journal_keeps s kind source sev body
  rw [h]
@[simp] theorem State.journal_msix {s : State} {kind source sev body} :
    (s.journal kind source sev body).msix = s.msix := by
  obtain ⟨m, h⟩ := State.journal_keeps s kind source sev body
  rw [h]
@[simp] theorem State.journal_ipm {s : State} {kind source sev body} :
    (s.journal kind source sev body).ipm = s.ipm := by
  obtain ⟨m, h⟩ := State.journal_keeps s kind source sev body
  rw [h]
@[simp] theorem State.journal_lsh {s : State} {kind source sev body} :
    (s.journal kind source sev body).lsh = s.lsh := by
  obtain ⟨m, h⟩ := State.journal_keeps s kind source sev body
  rw [h]
@[simp] theorem State.journal_aux {s : State} {kind source sev body} :
    (s.journal kind source sev body).aux = s.aux := by
  obtain ⟨m, h⟩ := State.journal_keeps s kind source sev body
  rw [h]
@[simp] theorem State.journal_adc {s : State} {kind source sev body} :
    (s.journal kind source sev body).adc = s.adc := by
  obtain ⟨m, h⟩ := State.journal_keeps s kind source sev body
  rw [h]
@[simp] theorem State.journal_cap {s : State} {kind source sev body} :
    (s.journal kind source sev body).cap = s.cap := by
  obtain ⟨m, h⟩ := State.journal_keeps s kind source sev body
  rw [h]
@[simp] theorem State.journal_env {s : State} {kind source sev body} :
    (s.journal kind source sev body).env = s.env := by
  obtain ⟨m, h⟩ := State.journal_keeps s kind source sev body
  rw [h]
@[simp] theorem State.journal_eth {s : State} {kind source sev body} :
    (s.journal kind source sev body).eth = s.eth := by
  obtain ⟨m, h⟩ := State.journal_keeps s kind source sev body
  rw [h]
@[simp] theorem State.journal_fdb {s : State} {kind source sev body} :
    (s.journal kind source sev body).fdb = s.fdb := by
  obtain ⟨m, h⟩ := State.journal_keeps s kind source sev body
  rw [h]
@[simp] theorem State.journal_can {s : State} {kind source sev body} :
    (s.journal kind source sev body).can = s.can := by
  obtain ⟨m, h⟩ := State.journal_keeps s kind source sev body
  rw [h]
@[simp] theorem State.journal_fio {s : State} {kind source sev body} :
    (s.journal kind source sev body).fio = s.fio := by
  obtain ⟨m, h⟩ := State.journal_keeps s kind source sev body
  rw [h]
@[simp] theorem State.journal_stag {s : State} {kind source sev body} :
    (s.journal kind source sev body).stag = s.stag := by
  obtain ⟨m, h⟩ := State.journal_keeps s kind source sev body
  rw [h]

end Sys2Proof.Machine
end

