-- ==== Sys2Proof/Laws/Table.lean ====
section
/-! SUPPORT. The laws of the sparse tables: what a read gives after a write, and that writes, erasures and filters keep the
canonical form. -/

namespace Sys2Proof

variable {α : Type} [DecidableEq α] {d : Nat → α}

theorem tabWfFrom_mono {lo hi : Nat} (h : lo ≤ hi) :
    ∀ t : List (Nat × α), tabWfFrom d hi t = true → tabWfFrom d lo t = true
  | [], _ => rfl
  | (i, v) :: t, w => by
    simp only [tabWfFrom, Bool.and_eq_true, decide_eq_true_eq] at w ⊢
    exact ⟨⟨by omega, w.1.2⟩, w.2⟩

omit [DecidableEq α] in
theorem tabGet_insert_same (t : List (Nat × α)) (k : Nat) (v : α) : tabGet d (tabInsert t k v) k = v := by
  induction t with
  | nil => simp [tabInsert, tabGet]
  | cons x t ih =>
    obtain ⟨i, y⟩ := x
    simp only [tabInsert]
    split
    · simp [tabGet]
    · split
      · simp [tabGet]
      · rename_i h _
        simp [tabGet, h, ih]

omit [DecidableEq α] in
theorem tabGet_insert_ne {j k : Nat} (h : j ≠ k) (t : List (Nat × α)) (v : α) :
    tabGet d (tabInsert t k v) j = tabGet d t j := by
  have hk : (k == j) = false := by simp; omega
  induction t with
  | nil => simp [tabInsert, tabGet, hk]
  | cons x t ih =>
    obtain ⟨i, y⟩ := x
    simp only [tabInsert]
    split
    · rename_i e
      have e : i = k := by simpa using e
      subst e
      simp [tabGet, hk]
    · split
      · simp [tabGet, hk]
      · simp only [tabGet, ih]

omit [DecidableEq α] in
theorem tabGet_erase_ne {j k : Nat} (h : j ≠ k) (t : List (Nat × α)) :
    tabGet d (tabErase t k) j = tabGet d t j := by
  induction t with
  | nil => rfl
  | cons x t ih =>
    obtain ⟨i, y⟩ := x
    simp only [tabErase]
    split
    · rename_i e
      have e : i = k := by simpa using e
      subst e
      have hk : (i == j) = false := by simp; omega
      simp [tabGet, hk, ih]
    · simp only [tabGet, ih]

omit [DecidableEq α] in
theorem tabGet_erase_same (t : List (Nat × α)) (k : Nat) : tabGet d (tabErase t k) k = d k := by
  induction t with
  | nil => rfl
  | cons x t ih =>
    obtain ⟨i, y⟩ := x
    simp only [tabErase]
    split
    · exact ih
    · rename_i e
      simp [tabGet, e, ih]

/-- A read of the key just written gives the value written. -/
theorem tabGet_set_same (t : List (Nat × α)) (k : Nat) (v : α) : tabGet d (tabSet d t k v) k = v := by
  simp only [tabSet]
  split
  · rename_i e
    rw [e]
    exact tabGet_erase_same t k
  · exact tabGet_insert_same t k v

/-- A write leaves every other key as it was. -/
theorem tabGet_set_ne {j k : Nat} (h : j ≠ k) (t : List (Nat × α)) (v : α) :
    tabGet d (tabSet d t k v) j = tabGet d t j := by
  simp only [tabSet]
  split
  · exact tabGet_erase_ne h t
  · exact tabGet_insert_ne h t v

theorem tabErase_wfFrom {lo : Nat} (t : List (Nat × α)) (k : Nat) (w : tabWfFrom d lo t = true) :
    tabWfFrom d lo (tabErase t k) = true := by
  induction t generalizing lo with
  | nil => rfl
  | cons x t ih =>
    obtain ⟨i, y⟩ := x
    simp only [tabWfFrom, Bool.and_eq_true, decide_eq_true_eq] at w
    simp only [tabErase]
    split
    · exact tabWfFrom_mono (by omega) _ (ih w.2)
    · simp only [tabWfFrom, Bool.and_eq_true, decide_eq_true_eq]
      exact ⟨w.1, ih w.2⟩

theorem tabInsert_wfFrom {lo k : Nat} {v : α} (hv : v ≠ d k) (h : lo ≤ k) (t : List (Nat × α))
    (w : tabWfFrom d lo t = true) : tabWfFrom d lo (tabInsert t k v) = true := by
  induction t generalizing lo with
  | nil => simp [tabInsert, tabWfFrom, hv, h]
  | cons x t ih =>
    obtain ⟨i, y⟩ := x
    simp only [tabWfFrom, Bool.and_eq_true, decide_eq_true_eq] at w
    simp only [tabInsert]
    split
    · rename_i e
      have e : i = k := by simpa using e
      subst e
      simp only [tabWfFrom, Bool.and_eq_true, decide_eq_true_eq]
      exact ⟨⟨h, hv⟩, w.2⟩
    · split
      · rename_i hlt
        simp only [tabWfFrom, Bool.and_eq_true, decide_eq_true_eq]
        exact ⟨⟨h, hv⟩, ⟨by omega, w.1.2⟩, w.2⟩
      · rename_i e hlt
        have e : i ≠ k := by simpa using e
        simp only [tabWfFrom, Bool.and_eq_true, decide_eq_true_eq]
        exact ⟨w.1, ih (by omega) w.2⟩

/-- A write keeps the canonical form. -/
theorem tabSet_wf (t : List (Nat × α)) (k : Nat) (v : α) (w : tabWf d t = true) : tabWf d (tabSet d t k v) = true := by
  simp only [tabSet]
  split
  · exact tabErase_wfFrom t k w
  · rename_i h
    exact tabInsert_wfFrom h (Nat.zero_le k) t w

/-- Dropping entries keeps the canonical form. -/
theorem tabFilter_wfFrom {lo : Nat} (p : Nat × α → Bool) (t : List (Nat × α)) (w : tabWfFrom d lo t = true) :
    tabWfFrom d lo (t.filter p) = true := by
  induction t generalizing lo with
  | nil => rfl
  | cons x t ih =>
    obtain ⟨i, y⟩ := x
    simp only [tabWfFrom, Bool.and_eq_true, decide_eq_true_eq] at w
    simp only [List.filter]
    split
    · simp only [tabWfFrom, Bool.and_eq_true, decide_eq_true_eq]
      exact ⟨w.1, ih w.2⟩
    · exact tabWfFrom_mono (by omega) _ (ih w.2)

/-- Dropping entries keeps the canonical form. -/
theorem tabFilter_wf (p : Nat × α → Bool) (t : List (Nat × α)) (w : tabWf d t = true) : tabWf d (t.filter p) = true :=
  tabFilter_wfFrom p t w

/-- A sequence of writes keeps the canonical form. -/
theorem tabFold_wf (l : List (Nat × α)) (t : List (Nat × α)) (w : tabWf d t = true) :
    tabWf d (l.foldl (fun m x => tabSet d m x.1 x.2) t) = true := by
  induction l generalizing t with
  | nil => exact w
  | cons x l ih => exact ih _ (tabSet_wf t x.1 x.2 w)

end Sys2Proof
end

