-- ==== Sys2Proof/Laws/Ops.lean ====
section
/-! SUPPORT. The laws of the shared operations of Machine/Ops.lean: what a register and a field read after each update, and
everything that a write by a requester can do. -/

namespace Sys2Proof.Machine

/-! ### Registers -/

@[simp] theorem State.rd_wr_same (s : State) (a : Nat) (v : Word) : (s.wr a v).rd a = v := tabGet_set_same _ _ _

theorem State.rd_wr_ne (s : State) {a b : Nat} (v : Word) (h : b ≠ a) : (s.wr a v).rd b = s.rd b := tabGet_set_ne h _ _

/-- Every register reads as before but the one written. -/
theorem State.rd_wr (s : State) (a b : Nat) (v : Word) : (s.wr a v).rd b = if b = a then v else s.rd b := by
  split
  · rename_i h
    rw [h, State.rd_wr_same]
  · rename_i h
    exact State.rd_wr_ne s v h

@[simp] theorem State.rd_p_same (s : State) (f : Fld) (x : Nat) :
    (s.p f x).rd f.addr = putBits (s.rd f.addr) f.lo f.w x := State.rd_wr_same _ _ _

theorem State.rd_p_ne (s : State) {f : Fld} {b : Nat} (x : Nat) (h : b ≠ f.addr) : (s.p f x).rd b = s.rd b :=
  State.rd_wr_ne s _ h

/-- A field reads the low bits of the value it was set to. -/
theorem State.g_p_same (s : State) {f : Fld} (x : Nat) (h : f.lo + f.w ≤ 32) : (s.p f x).g f = x % 2 ^ f.w := by
  unfold State.g
  rw [State.rd_p_same]
  exact getBits_putBits_same _ x h

/-- A field of another register, or one whose bits lie apart, reads as before. -/
theorem State.g_p_apart (s : State) {f f' : Fld} (x : Nat)
    (h : f'.addr ≠ f.addr ∨ f'.lo + f'.w ≤ f.lo ∨ f.lo + f.w ≤ f'.lo) : (s.p f x).g f' = s.g f' := by
  unfold State.g
  rcases h with h | h
  · rw [State.rd_p_ne s x h]
  · by_cases e : f'.addr = f.addr
    · rw [e, State.rd_p_same]
      exact getBits_putBits_apart _ x h
    · rw [State.rd_p_ne s x e]

theorem State.g_wr_same (s : State) (f : Fld) (v : Word) : (s.wr f.addr v).g f = getBits v f.lo f.w := by
  unfold State.g
  rw [State.rd_wr_same]

theorem State.g_wr_ne (s : State) {f : Fld} {a : Nat} (v : Word) (h : f.addr ≠ a) : (s.wr a v).g f = s.g f := by
  unfold State.g
  rw [State.rd_wr_ne s v h]

theorem State.on_eq (s : State) (f : Fld) : s.on f = s.p f 1 := rfl
theorem State.off_eq (s : State) (f : Fld) : s.off f = s.p f 0 := rfl
theorem State.pb_eq (s : State) (f : Fld) (b : Bool) : s.pb f b = s.p f (bit b) := rfl
theorem State.pi_eq (s : State) (f : Fld) (x : Int) : s.pi f x = s.p f (unsigned f.w x) := rfl
theorem State.count_eq (s : State) (f : Fld) (d : Nat) : s.count f d = s.p f (satAdd f.w (s.g f) d) := rfl
theorem State.is_eq (s : State) (f : Fld) : s.is f = (s.g f != 0) := rfl

/-- The state with registers at their reset values: those that `p` keeps read as before, the others as after a reset. -/
theorem State.rd_keepRegs (s : State) (p : Nat → Bool) (a : Nat) :
    (s.keepRegs p).rd a = if p a then s.rd a else regReset a := by
  unfold State.keepRegs State.rd
  dsimp only
  induction s.regs with
  | nil => simp [tabGet]
  | cons x t ih =>
    obtain ⟨i, v⟩ := x
    by_cases hi : i = a
    · subst hi
      by_cases hp : p i
      · simp [List.filter, hp, tabGet]
      · simp only [List.filter, hp]
        simp only [hp] at ih
        simpa using ih
    · have hb : (i == a) = false := by simpa using hi
      by_cases hp : p i
      · simp only [List.filter, hp, tabGet, hb]
        exact ih
      · simp only [List.filter, hp, tabGet, hb]
        exact ih

/-- The memories and the keys decide what a byte reads as. -/
theorem State.ipmRead_congr {s t : State} (hm : t.mem = s.mem) (hk : t.ipm = s.ipm) (key a : Nat) :
    t.ipmRead key a = s.ipmRead key a := by
  unfold State.ipmRead State.block
  rw [hm, hk]

@[simp] theorem State.rd_took {s : State} {b} : (s.took).rd b = s.rd b := rfl
@[simp] theorem State.g_took {s : State} {fld} : (s.took).g fld = s.g fld := rfl
@[simp] theorem State.rd_emit {s : State} {o} {b} : (s.emit o).rd b = s.rd b := rfl
@[simp] theorem State.g_emit {s : State} {o} {fld} : (s.emit o).g fld = s.g fld := rfl
@[simp] theorem State.rd_raiseTo {s : State} {k payload dst} {b} : (s.raiseTo k payload dst).rd b = s.rd b := rfl
@[simp] theorem State.g_raiseTo {s : State} {k payload dst} {fld} : (s.raiseTo k payload dst).g fld = s.g fld := rfl
@[simp] theorem State.rd_raise {s : State} {k payload} {b} : (s.raise k payload).rd b = s.rd b := rfl
@[simp] theorem State.g_raise {s : State} {k payload} {fld} : (s.raise k payload).g fld = s.g fld := rfl
@[simp] theorem State.rd_raiseSt {s : State} {k addr} {b} : (s.raiseSt k addr).rd b = s.rd b := rfl
@[simp] theorem State.g_raiseSt {s : State} {k addr} {fld} : (s.raiseSt k addr).g fld = s.g fld := rfl
@[simp] theorem State.rd_addLife {s : State} {i d} {b} : (s.addLife i d).rd b = s.rd b := rfl
@[simp] theorem State.g_addLife {s : State} {i d} {fld} : (s.addLife i d).g fld = s.g fld := rfl
@[simp] theorem State.rd_setPwm {s : State} {n x} {b} : (s.setPwm n x).rd b = s.rd b := rfl
@[simp] theorem State.g_setPwm {s : State} {n x} {fld} : (s.setPwm n x).g fld = s.g fld := rfl
@[simp] theorem State.rd_setBch {s : State} {g x} {b} : (s.setBch g x).rd b = s.rd b := rfl
@[simp] theorem State.g_setBch {s : State} {g x} {fld} : (s.setBch g x).g fld = s.g fld := rfl
@[simp] theorem State.rd_setAe {s : State} {n x} {b} : (s.setAe n x).rd b = s.rd b := rfl
@[simp] theorem State.g_setAe {s : State} {n x} {fld} : (s.setAe n x).g fld = s.g fld := rfl
@[simp] theorem State.rd_setChan {s : State} {k x} {b} : (s.setChan k x).rd b = s.rd b := rfl
@[simp] theorem State.g_setChan {s : State} {k x} {fld} : (s.setChan k x).g fld = s.g fld := rfl
@[simp] theorem State.rd_fillSnap {s : State} {rq a l} {b} : (s.fillSnap rq a l).rd b = s.rd b := rfl
@[simp] theorem State.g_fillSnap {s : State} {rq a l} {fld} : (s.fillSnap rq a l).g fld = s.g fld := rfl
@[simp] theorem State.rd_journal {s : State} {kind source sev body b} : (s.journal kind source sev body).rd b = s.rd b := by
  obtain ⟨m, h⟩ := State.journal_keeps s kind source sev body
  rw [h]
  rfl
@[simp] theorem State.g_journal {s : State} {kind source sev body fld} :
    (s.journal kind source sev body).g fld = s.g fld := by
  obtain ⟨m, h⟩ := State.journal_keeps s kind source sev body
  rw [h]
  rfl


/-! ### Writes by requesters -/

/-- A write that reaches its register has its effect. -/
theorem State.write_reaches {s : State} {rq : Rq} {a : Nat} (k : State → State) (h : s.reaches rq a) :
    s.write rq a k = k s := by
  simp [State.write, h.1, h.2]

/-- A write without the grant has no effect (R11). -/
theorem State.write_denied {s : State} {rq : Rq} {a : Nat} (k : State → State) (g : s.may rq a = false) :
    s.write rq a k = s := by
  simp [State.write, g]

/-- A dropped write that the grant lets through is logged (R338, R497). -/
theorem State.write_dropped {s : State} {rq : Rq} {a r : Nat} (k : State → State) (g : s.may rq a = true)
    (h : s.dropReason rq a = some r) : s.write rq a k = s.logDropped rq a r := by
  simp [State.write, g, h]

/-- Everything that a write by a requester can do. -/
theorem State.write_cases (s : State) (rq : Rq) (a : Nat) (k : State → State) :
    (s.reaches rq a ∧ s.write rq a k = k s) ∨
    (s.may rq a = false ∧ s.write rq a k = s) ∨
    (s.may rq a = true ∧ ∃ r, s.dropReason rq a = some r ∧ s.write rq a k = s.logDropped rq a r) := by
  cases hm : s.may rq a with
  | false => exact .inr (.inl ⟨rfl, State.write_denied k hm⟩)
  | true =>
    cases hd : s.dropReason rq a with
    | some r => exact .inr (.inr ⟨rfl, r, rfl, State.write_dropped k hm hd⟩)
    | none => exact .inl ⟨⟨hd, hm⟩, State.write_reaches k ⟨hd, hm⟩⟩

/-- A write of a register with RWS fields that reaches its register after the check of R485. -/
theorem State.rwsWrite_reaches {s : State} {rq : Rq} {a : Nat} {v : Word} (k : State → State)
    (h : s.dropReason rq a = none) (g : (s.rwsCheck rq a v).may rq a = true) :
    s.rwsWrite rq a v k = k (s.rwsCheck rq a v) := by
  simp [State.rwsWrite, h, g]

/-- What the event of R485 leaves alone: everything but the events. -/
theorem State.rwsCheck_keeps (s : State) (rq : Rq) (a : Nat) (v : Word) :
    ∃ e : EvtSt, s.rwsCheck rq a v = { s with evt := e } := by
  unfold State.rwsCheck
  dsimp only
  split <;> split <;> first | exact ⟨_, rfl⟩ | exact ⟨s.evt, rfl⟩

@[simp] theorem State.may_wr {s : State} {a v rq b} : (s.wr a v).may rq b = s.may rq b := rfl
@[simp] theorem State.may_p {s : State} {f x rq b} : (s.p f x).may rq b = s.may rq b := rfl
@[simp] theorem State.holder_wr {s : State} {a v o} : (s.wr a v).holder o = s.holder o := rfl
@[simp] theorem State.role_wr {s : State} {a v n} : (s.wr a v).role n = s.role n := rfl

/-! ### Repeated and guarded changes -/

@[simp] theorem State.when_true (s : State) (k : State → State) : s.when true k = k s := rfl
@[simp] theorem State.when_false (s : State) (k : State → State) : s.when false k = s := rfl
@[simp] theorem State.each_nil {α : Type} (s : State) (k : α → State → State) : s.each [] k = s := rfl
@[simp] theorem State.each_cons {α : Type} (s : State) (x : α) (l : List α) (k : α → State → State) :
    s.each (x :: l) k = (k x s).each l k := rfl

/-- What each change keeps, a guarded change and a sequence of changes keep. -/
theorem State.each_keeps {α β : Type} (p : State → β) (k : α → State → State) (h : ∀ x t, p (k x t) = p t) (l : List α)
    (s : State) : p (s.each l k) = p s := by
  unfold State.each
  induction l generalizing s with
  | nil => rfl
  | cons x l ih => exact (ih (k x s)).trans (h x s)

theorem State.when_keeps {β : Type} (p : State → β) (k : State → State) (h : ∀ t, p (k t) = p t) (b : Bool) (s : State) :
    p (s.when b k) = p s := by
  cases b
  · rfl
  · exact h s

end Sys2Proof.Machine
end

