-- ==== Sys2Proof/Laws/Slots.lean ====
section
/-! SUPPORT. The slots of the register window by number: a set of slots is a number with a bit for each, and one lemma for
each slot says that its bit lets a change of that field or register pass. -/

namespace Sys2Proof.Machine

/-- The number with the bit of every slot. -/
def allSlots : Nat := 0x7ffffffffffffffffffffffffffffffffffffffffffffffffffffffffffffffffffffffffffffffffffffffffffffffffffffffffffffffffffffffffffffffffffffffffffffffffffffffffffffffffffffffffff

/-- May every bit of the word at an offset change? -/
structure Wr (W a : Nat) : Prop where
  all : ∀ i, ∃ x : Slot, W.testBit x.ctorIdx = true ∧ x.has a i

/-- May every bit of a field change? -/
structure WrF (W : Nat) (f : Fld) : Prop where
  all : ∀ i, f.lo ≤ i → i < f.lo + f.w → ∃ x : Slot, W.testBit x.ctorIdx = true ∧ x.has f.addr i

theorem wrF_of_wr {W : Nat} {f : Fld} (h : Wr W f.addr) : WrF W f := ⟨fun i _ _ => h.all i⟩

theorem any_bit_all : allSlots.testBit 0 = true := rfl

theorem wr_any {W : Nat} (h : W.testBit 0 = true) (a : Nat) : Wr W a := ⟨fun _ => ⟨.any, h, trivial⟩⟩

theorem wrF_any {W : Nat} (h : W.testBit 0 = true) (f : Fld) : WrF W f := ⟨fun _ _ _ => ⟨.any, h, trivial⟩⟩

theorem ws_r_AE_COMMIT_STATUS {W : Nat} {n : Nat} (h : W.testBit 1 = true) : Wr W (R.AE_COMMIT_STATUS n) :=
  ⟨fun _ => ⟨.r_AE_COMMIT_STATUS, h, n, rfl⟩⟩
theorem ws_r_AUX_ADC_STAMP {W : Nat} {n : Nat} (h : W.testBit 2 = true) : Wr W (R.AUX_ADC_STAMP n) :=
  ⟨fun _ => ⟨.r_AUX_ADC_STAMP, h, n, rfl⟩⟩
theorem ws_r_AUX_BL_T60 {W : Nat} {n : Nat} (h : W.testBit 3 = true) : Wr W (R.AUX_BL_T60 n) :=
  ⟨fun _ => ⟨.r_AUX_BL_T60, h, n, rfl⟩⟩
theorem ws_r_AUX_CFG {W : Nat} {n : Nat} (h : W.testBit 4 = true) : Wr W (R.AUX_CFG n) :=
  ⟨fun _ => ⟨.r_AUX_CFG, h, n, rfl⟩⟩
theorem ws_r_AUX_POS_HI {W : Nat} {n : Nat} (h : W.testBit 5 = true) : Wr W (R.AUX_POS_HI n) :=
  ⟨fun _ => ⟨.r_AUX_POS_HI, h, n, rfl⟩⟩
theorem ws_r_AUX_POS_LO {W : Nat} {n : Nat} (h : W.testBit 6 = true) : Wr W (R.AUX_POS_LO n) :=
  ⟨fun _ => ⟨.r_AUX_POS_LO, h, n, rfl⟩⟩
theorem ws_r_AUX_VEL {W : Nat} {n : Nat} (h : W.testBit 7 = true) : Wr W (R.AUX_VEL n) :=
  ⟨fun _ => ⟨.r_AUX_VEL, h, n, rfl⟩⟩
theorem ws_r_AX_CS_IU {W : Nat} {n : Nat} (h : W.testBit 8 = true) : Wr W (R.AX_CS_IU n) :=
  ⟨fun _ => ⟨.r_AX_CS_IU, h, n, rfl⟩⟩
theorem ws_r_AX_CS_IV {W : Nat} {n : Nat} (h : W.testBit 9 = true) : Wr W (R.AX_CS_IV n) :=
  ⟨fun _ => ⟨.r_AX_CS_IV, h, n, rfl⟩⟩
theorem ws_r_AX_CS_IW {W : Nat} {n : Nat} (h : W.testBit 10 = true) : Wr W (R.AX_CS_IW n) :=
  ⟨fun _ => ⟨.r_AX_CS_IW, h, n, rfl⟩⟩
theorem ws_r_AX_CS_STAMP {W : Nat} {n : Nat} (h : W.testBit 11 = true) : Wr W (R.AX_CS_STAMP n) :=
  ⟨fun _ => ⟨.r_AX_CS_STAMP, h, n, rfl⟩⟩
theorem ws_r_AX_FB_CFG {W : Nat} {n : Nat} (h : W.testBit 12 = true) : Wr W (R.AX_FB_CFG n) :=
  ⟨fun _ => ⟨.r_AX_FB_CFG, h, n, rfl⟩⟩
theorem ws_r_AX_FB_HALL_CFG {W : Nat} {n : Nat} (h : W.testBit 13 = true) : Wr W (R.AX_FB_HALL_CFG n) :=
  ⟨fun _ => ⟨.r_AX_FB_HALL_CFG, h, n, rfl⟩⟩
theorem ws_r_AX_FB_LINES {W : Nat} {n : Nat} (h : W.testBit 14 = true) : Wr W (R.AX_FB_LINES n) :=
  ⟨fun _ => ⟨.r_AX_FB_LINES, h, n, rfl⟩⟩
theorem ws_r_AX_FB_LOAD_HI {W : Nat} {n : Nat} (h : W.testBit 15 = true) : Wr W (R.AX_FB_LOAD_HI n) :=
  ⟨fun _ => ⟨.r_AX_FB_LOAD_HI, h, n, rfl⟩⟩
theorem ws_r_AX_FB_LOAD_LO {W : Nat} {n : Nat} (h : W.testBit 16 = true) : Wr W (R.AX_FB_LOAD_LO n) :=
  ⟨fun _ => ⟨.r_AX_FB_LOAD_LO, h, n, rfl⟩⟩
theorem ws_r_AX_FB_POS2_HI {W : Nat} {n : Nat} (h : W.testBit 17 = true) : Wr W (R.AX_FB_POS2_HI n) :=
  ⟨fun _ => ⟨.r_AX_FB_POS2_HI, h, n, rfl⟩⟩
theorem ws_r_AX_FB_POS2_LO {W : Nat} {n : Nat} (h : W.testBit 18 = true) : Wr W (R.AX_FB_POS2_LO n) :=
  ⟨fun _ => ⟨.r_AX_FB_POS2_LO, h, n, rfl⟩⟩
theorem ws_r_AX_FB_POS_HI {W : Nat} {n : Nat} (h : W.testBit 19 = true) : Wr W (R.AX_FB_POS_HI n) :=
  ⟨fun _ => ⟨.r_AX_FB_POS_HI, h, n, rfl⟩⟩
theorem ws_r_AX_FB_POS_LO {W : Nat} {n : Nat} (h : W.testBit 20 = true) : Wr W (R.AX_FB_POS_LO n) :=
  ⟨fun _ => ⟨.r_AX_FB_POS_LO, h, n, rfl⟩⟩
theorem ws_r_AX_FB_SOFT_MAX_HI {W : Nat} {n : Nat} (h : W.testBit 21 = true) : Wr W (R.AX_FB_SOFT_MAX_HI n) :=
  ⟨fun _ => ⟨.r_AX_FB_SOFT_MAX_HI, h, n, rfl⟩⟩
theorem ws_r_AX_FB_SOFT_MIN_HI {W : Nat} {n : Nat} (h : W.testBit 22 = true) : Wr W (R.AX_FB_SOFT_MIN_HI n) :=
  ⟨fun _ => ⟨.r_AX_FB_SOFT_MIN_HI, h, n, rfl⟩⟩
theorem ws_r_AX_FB_SSI_CFG {W : Nat} {n : Nat} (h : W.testBit 23 = true) : Wr W (R.AX_FB_SSI_CFG n) :=
  ⟨fun _ => ⟨.r_AX_FB_SSI_CFG, h, n, rfl⟩⟩
theorem ws_r_AX_FB_SSI_CRC {W : Nat} {n : Nat} (h : W.testBit 24 = true) : Wr W (R.AX_FB_SSI_CRC n) :=
  ⟨fun _ => ⟨.r_AX_FB_SSI_CRC, h, n, rfl⟩⟩
theorem ws_r_AX_FB_SSI_RAW_HI {W : Nat} {n : Nat} (h : W.testBit 25 = true) : Wr W (R.AX_FB_SSI_RAW_HI n) :=
  ⟨fun _ => ⟨.r_AX_FB_SSI_RAW_HI, h, n, rfl⟩⟩
theorem ws_r_AX_FB_SSI_RAW_LO {W : Nat} {n : Nat} (h : W.testBit 26 = true) : Wr W (R.AX_FB_SSI_RAW_LO n) :=
  ⟨fun _ => ⟨.r_AX_FB_SSI_RAW_LO, h, n, rfl⟩⟩
theorem ws_r_AX_FB_STAMP {W : Nat} {n : Nat} (h : W.testBit 27 = true) : Wr W (R.AX_FB_STAMP n) :=
  ⟨fun _ => ⟨.r_AX_FB_STAMP, h, n, rfl⟩⟩
theorem ws_r_AX_FB_VEL {W : Nat} {n : Nat} (h : W.testBit 28 = true) : Wr W (R.AX_FB_VEL n) :=
  ⟨fun _ => ⟨.r_AX_FB_VEL, h, n, rfl⟩⟩
theorem ws_r_AX_FB_ZLAT_HI {W : Nat} {n : Nat} (h : W.testBit 29 = true) : Wr W (R.AX_FB_ZLAT_HI n) :=
  ⟨fun _ => ⟨.r_AX_FB_ZLAT_HI, h, n, rfl⟩⟩
theorem ws_r_AX_FB_ZLAT_LO {W : Nat} {n : Nat} (h : W.testBit 30 = true) : Wr W (R.AX_FB_ZLAT_LO n) :=
  ⟨fun _ => ⟨.r_AX_FB_ZLAT_LO, h, n, rfl⟩⟩
theorem ws_r_AX_FB_ZLAT_STAMP {W : Nat} {n : Nat} (h : W.testBit 31 = true) : Wr W (R.AX_FB_ZLAT_STAMP n) :=
  ⟨fun _ => ⟨.r_AX_FB_ZLAT_STAMP, h, n, rfl⟩⟩
theorem ws_r_AX_PWM_ALIGN {W : Nat} {n : Nat} (h : W.testBit 32 = true) : Wr W (R.AX_PWM_ALIGN n) :=
  ⟨fun _ => ⟨.r_AX_PWM_ALIGN, h, n, rfl⟩⟩
theorem ws_r_AX_PWM_CMPA {W : Nat} {n : Nat} (h : W.testBit 33 = true) : Wr W (R.AX_PWM_CMPA n) :=
  ⟨fun _ => ⟨.r_AX_PWM_CMPA, h, n, rfl⟩⟩
theorem ws_r_AX_PWM_CMPB {W : Nat} {n : Nat} (h : W.testBit 34 = true) : Wr W (R.AX_PWM_CMPB n) :=
  ⟨fun _ => ⟨.r_AX_PWM_CMPB, h, n, rfl⟩⟩
theorem ws_r_AX_PWM_CMPC {W : Nat} {n : Nat} (h : W.testBit 35 = true) : Wr W (R.AX_PWM_CMPC n) :=
  ⟨fun _ => ⟨.r_AX_PWM_CMPC, h, n, rfl⟩⟩
theorem ws_r_AX_PWM_EVT_CFG {W : Nat} {n : Nat} (h : W.testBit 36 = true) : Wr W (R.AX_PWM_EVT_CFG n) :=
  ⟨fun _ => ⟨.r_AX_PWM_EVT_CFG, h, n, rfl⟩⟩
theorem ws_r_AX_PWM_MASK_CFG {W : Nat} {n : Nat} (h : W.testBit 37 = true) : Wr W (R.AX_PWM_MASK_CFG n) :=
  ⟨fun _ => ⟨.r_AX_PWM_MASK_CFG, h, n, rfl⟩⟩
theorem ws_r_AX_TLM_STAMP {W : Nat} {n : Nat} (h : W.testBit 38 = true) : Wr W (R.AX_TLM_STAMP n) :=
  ⟨fun _ => ⟨.r_AX_TLM_STAMP, h, n, rfl⟩⟩
theorem ws_r_CAN_ERRCNT {W : Nat} {n : Nat} (h : W.testBit 39 = true) : Wr W (R.CAN_ERRCNT n) :=
  ⟨fun _ => ⟨.r_CAN_ERRCNT, h, n, rfl⟩⟩
theorem ws_r_CAN_RXQ_CFG {W : Nat} {n m : Nat} (h : W.testBit 40 = true) : Wr W (R.CAN_RXQ_CFG n m) :=
  ⟨fun _ => ⟨.r_CAN_RXQ_CFG, h, n, m, rfl⟩⟩
theorem ws_r_CAN_TXB_ABANDON {W : Nat} {n : Nat} (h : W.testBit 41 = true) : Wr W (R.CAN_TXB_ABANDON n) :=
  ⟨fun _ => ⟨.r_CAN_TXB_ABANDON, h, n, rfl⟩⟩
theorem ws_r_CAN_TXB_DONE {W : Nat} {n : Nat} (h : W.testBit 42 = true) : Wr W (R.CAN_TXB_DONE n) :=
  ⟨fun _ => ⟨.r_CAN_TXB_DONE, h, n, rfl⟩⟩
theorem ws_r_CAN_TXB_REQ {W : Nat} {n : Nat} (h : W.testBit 43 = true) : Wr W (R.CAN_TXB_REQ n) :=
  ⟨fun _ => ⟨.r_CAN_TXB_REQ, h, n, rfl⟩⟩
theorem ws_r_CAP_BIND {W : Nat} {n : Nat} (h : W.testBit 44 = true) : Wr W (R.CAP_BIND n) :=
  ⟨fun _ => ⟨.r_CAP_BIND, h, n, rfl⟩⟩
theorem ws_r_CAP_ENV {W : Nat} {n : Nat} (h : W.testBit 45 = true) : Wr W (R.CAP_ENV n) :=
  ⟨fun _ => ⟨.r_CAP_ENV, h, n, rfl⟩⟩
theorem ws_r_CAP_ENV_HANDLE {W : Nat} {n : Nat} (h : W.testBit 46 = true) : Wr W (R.CAP_ENV_HANDLE n) :=
  ⟨fun _ => ⟨.r_CAP_ENV_HANDLE, h, n, rfl⟩⟩
theorem ws_r_CAP_STATUS {W : Nat} {n : Nat} (h : W.testBit 47 = true) : Wr W (R.CAP_STATUS n) :=
  ⟨fun _ => ⟨.r_CAP_STATUS, h, n, rfl⟩⟩
theorem ws_r_CLK_REF_CFG {W : Nat} (h : W.testBit 48 = true) : Wr W R.CLK_REF_CFG :=
  ⟨fun _ => ⟨.r_CLK_REF_CFG, h, rfl⟩⟩
theorem ws_r_CLK_REF_LOG_END {W : Nat} (h : W.testBit 49 = true) : Wr W R.CLK_REF_LOG_END :=
  ⟨fun _ => ⟨.r_CLK_REF_LOG_END, h, rfl⟩⟩
theorem ws_r_CS_DEPTH {W : Nat} {n : Nat} (h : W.testBit 50 = true) : Wr W (R.CS_DEPTH n) :=
  ⟨fun _ => ⟨.r_CS_DEPTH, h, n, rfl⟩⟩
theorem ws_r_CS_ROWS {W : Nat} {n : Nat} (h : W.testBit 51 = true) : Wr W (R.CS_ROWS n) :=
  ⟨fun _ => ⟨.r_CS_ROWS, h, n, rfl⟩⟩
theorem ws_r_CS_TRIG {W : Nat} {n : Nat} (h : W.testBit 52 = true) : Wr W (R.CS_TRIG n) :=
  ⟨fun _ => ⟨.r_CS_TRIG, h, n, rfl⟩⟩
theorem ws_r_CS_TRIG_STAMP {W : Nat} {n : Nat} (h : W.testBit 53 = true) : Wr W (R.CS_TRIG_STAMP n) :=
  ⟨fun _ => ⟨.r_CS_TRIG_STAMP, h, n, rfl⟩⟩
theorem ws_r_CS_UNLOAD_CRC {W : Nat} {n : Nat} (h : W.testBit 54 = true) : Wr W (R.CS_UNLOAD_CRC n) :=
  ⟨fun _ => ⟨.r_CS_UNLOAD_CRC, h, n, rfl⟩⟩
theorem ws_r_DMA_CSUM {W : Nat} {n : Nat} (h : W.testBit 55 = true) : Wr W (R.DMA_CSUM n) :=
  ⟨fun _ => ⟨.r_DMA_CSUM, h, n, rfl⟩⟩
theorem ws_r_DMA_CTL {W : Nat} {n : Nat} (h : W.testBit 56 = true) : Wr W (R.DMA_CTL n) :=
  ⟨fun _ => ⟨.r_DMA_CTL, h, n, rfl⟩⟩
theorem ws_r_DMA_DONE_BYTES {W : Nat} {n : Nat} (h : W.testBit 57 = true) : Wr W (R.DMA_DONE_BYTES n) :=
  ⟨fun _ => ⟨.r_DMA_DONE_BYTES, h, n, rfl⟩⟩
theorem ws_r_DMA_ERR_ADDR_HI {W : Nat} {n : Nat} (h : W.testBit 58 = true) : Wr W (R.DMA_ERR_ADDR_HI n) :=
  ⟨fun _ => ⟨.r_DMA_ERR_ADDR_HI, h, n, rfl⟩⟩
theorem ws_r_DMA_ERR_ADDR_LO {W : Nat} {n : Nat} (h : W.testBit 59 = true) : Wr W (R.DMA_ERR_ADDR_LO n) :=
  ⟨fun _ => ⟨.r_DMA_ERR_ADDR_LO, h, n, rfl⟩⟩
theorem ws_r_ETH_CFG {W : Nat} {n : Nat} (h : W.testBit 60 = true) : Wr W (R.ETH_CFG n) :=
  ⟨fun _ => ⟨.r_ETH_CFG, h, n, rfl⟩⟩
theorem ws_r_ETH_SLOT_STAMP {W : Nat} {n m : Nat} (h : W.testBit 61 = true) : Wr W (R.ETH_SLOT_STAMP n m) :=
  ⟨fun _ => ⟨.r_ETH_SLOT_STAMP, h, n, m, rfl⟩⟩
theorem ws_r_EVT_OD_OVF_MAP {W : Nat} {n m : Nat} (h : W.testBit 62 = true) : Wr W (R.EVT_OD_OVF_MAP n m) :=
  ⟨fun _ => ⟨.r_EVT_OD_OVF_MAP, h, n, m, rfl⟩⟩
theorem ws_r_EVT_PWF_ADDR {W : Nat} {n : Nat} (h : W.testBit 63 = true) : Wr W (R.EVT_PWF_ADDR n) :=
  ⟨fun _ => ⟨.r_EVT_PWF_ADDR, h, n, rfl⟩⟩
theorem ws_r_EVT_PWF_STAMP {W : Nat} {n : Nat} (h : W.testBit 64 = true) : Wr W (R.EVT_PWF_STAMP n) :=
  ⟨fun _ => ⟨.r_EVT_PWF_STAMP, h, n, rfl⟩⟩
theorem ws_r_EVT_ROUTE {W : Nat} {n : Nat} (h : W.testBit 65 = true) : Wr W (R.EVT_ROUTE n) :=
  ⟨fun _ => ⟨.r_EVT_ROUTE, h, n, rfl⟩⟩
theorem ws_r_FIO_BS_LEVEL {W : Nat} (h : W.testBit 66 = true) : Wr W R.FIO_BS_LEVEL :=
  ⟨fun _ => ⟨.r_FIO_BS_LEVEL, h, rfl⟩⟩
theorem ws_r_FIO_CH_CFG {W : Nat} {n : Nat} (h : W.testBit 67 = true) : Wr W (R.FIO_CH_CFG n) :=
  ⟨fun _ => ⟨.r_FIO_CH_CFG, h, n, rfl⟩⟩
theorem ws_r_FIO_FI_LEVEL {W : Nat} (h : W.testBit 68 = true) : Wr W R.FIO_FI_LEVEL :=
  ⟨fun _ => ⟨.r_FIO_FI_LEVEL, h, rfl⟩⟩
theorem ws_r_FIO_FI_VALID {W : Nat} (h : W.testBit 69 = true) : Wr W R.FIO_FI_VALID :=
  ⟨fun _ => ⟨.r_FIO_FI_VALID, h, rfl⟩⟩
theorem ws_r_FIO_FI_WB {W : Nat} (h : W.testBit 70 = true) : Wr W R.FIO_FI_WB :=
  ⟨fun _ => ⟨.r_FIO_FI_WB, h, rfl⟩⟩
theorem ws_r_FIO_FX_IN {W : Nat} (h : W.testBit 71 = true) : Wr W R.FIO_FX_IN :=
  ⟨fun _ => ⟨.r_FIO_FX_IN, h, rfl⟩⟩
theorem ws_r_FIO_OUT {W : Nat} (h : W.testBit 72 = true) : Wr W R.FIO_OUT :=
  ⟨fun _ => ⟨.r_FIO_OUT, h, rfl⟩⟩
theorem ws_r_FIO_OUT_FAULT {W : Nat} (h : W.testBit 73 = true) : Wr W R.FIO_OUT_FAULT :=
  ⟨fun _ => ⟨.r_FIO_OUT_FAULT, h, rfl⟩⟩
theorem ws_r_FIO_OUT_LOFF {W : Nat} (h : W.testBit 74 = true) : Wr W R.FIO_OUT_LOFF :=
  ⟨fun _ => ⟨.r_FIO_OUT_LOFF, h, rfl⟩⟩
theorem ws_r_FIO_OUT_RB {W : Nat} (h : W.testBit 75 = true) : Wr W R.FIO_OUT_RB :=
  ⟨fun _ => ⟨.r_FIO_OUT_RB, h, rfl⟩⟩
theorem ws_r_GLB_DL_STAMP {W : Nat} {n : Nat} (h : W.testBit 76 = true) : Wr W (R.GLB_DL_STAMP n) :=
  ⟨fun _ => ⟨.r_GLB_DL_STAMP, h, n, rfl⟩⟩
theorem ws_r_GLB_PRB_CFG {W : Nat} {n : Nat} (h : W.testBit 77 = true) : Wr W (R.GLB_PRB_CFG n) :=
  ⟨fun _ => ⟨.r_GLB_PRB_CFG, h, n, rfl⟩⟩
theorem ws_r_GLB_PRB_POS_HI {W : Nat} {n : Nat} (h : W.testBit 78 = true) : Wr W (R.GLB_PRB_POS_HI n) :=
  ⟨fun _ => ⟨.r_GLB_PRB_POS_HI, h, n, rfl⟩⟩
theorem ws_r_GLB_PRB_POS_LO {W : Nat} {n : Nat} (h : W.testBit 79 = true) : Wr W (R.GLB_PRB_POS_LO n) :=
  ⟨fun _ => ⟨.r_GLB_PRB_POS_LO, h, n, rfl⟩⟩
theorem ws_r_GLB_PRB_STAMP {W : Nat} {n : Nat} (h : W.testBit 80 = true) : Wr W (R.GLB_PRB_STAMP n) :=
  ⟨fun _ => ⟨.r_GLB_PRB_STAMP, h, n, rfl⟩⟩
theorem ws_r_HIF_OD_CTL {W : Nat} {n : Nat} (h : W.testBit 81 = true) : Wr W (R.HIF_OD_CTL n) :=
  ⟨fun _ => ⟨.r_HIF_OD_CTL, h, n, rfl⟩⟩
theorem ws_r_HIF_OD_DB_LO {W : Nat} {n : Nat} (h : W.testBit 82 = true) : Wr W (R.HIF_OD_DB_LO n) :=
  ⟨fun _ => ⟨.r_HIF_OD_DB_LO, h, n, rfl⟩⟩
theorem ws_r_HIF_OD_POLL {W : Nat} {n : Nat} (h : W.testBit 83 = true) : Wr W (R.HIF_OD_POLL n) :=
  ⟨fun _ => ⟨.r_HIF_OD_POLL, h, n, rfl⟩⟩
theorem ws_r_HIF_OD_SQ_CFG {W : Nat} {n m : Nat} (h : W.testBit 84 = true) : Wr W (R.HIF_OD_SQ_CFG n m) :=
  ⟨fun _ => ⟨.r_HIF_OD_SQ_CFG, h, n, m, rfl⟩⟩
theorem ws_r_HIF_OD_SQ_STATUS {W : Nat} {n m : Nat} (h : W.testBit 85 = true) : Wr W (R.HIF_OD_SQ_STATUS n m) :=
  ⟨fun _ => ⟨.r_HIF_OD_SQ_STATUS, h, n, m, rfl⟩⟩
theorem ws_r_HIF_TORN {W : Nat} (h : W.testBit 86 = true) : Wr W R.HIF_TORN :=
  ⟨fun _ => ⟨.r_HIF_TORN, h, rfl⟩⟩
theorem ws_r_LQ_HEAD_NS {W : Nat} {n : Nat} (h : W.testBit 87 = true) : Wr W (R.LQ_HEAD_NS n) :=
  ⟨fun _ => ⟨.r_LQ_HEAD_NS, h, n, rfl⟩⟩
theorem ws_r_LSH_CFG {W : Nat} (h : W.testBit 88 = true) : Wr W R.LSH_CFG :=
  ⟨fun _ => ⟨.r_LSH_CFG, h, rfl⟩⟩
theorem ws_r_LSH_FOL_CFG {W : Nat} {n : Nat} (h : W.testBit 89 = true) : Wr W (R.LSH_FOL_CFG n) :=
  ⟨fun _ => ⟨.r_LSH_FOL_CFG, h, n, rfl⟩⟩
theorem ws_r_LSH_FOL_F_ORG_HI {W : Nat} {n : Nat} (h : W.testBit 90 = true) : Wr W (R.LSH_FOL_F_ORG_HI n) :=
  ⟨fun _ => ⟨.r_LSH_FOL_F_ORG_HI, h, n, rfl⟩⟩
theorem ws_r_LSH_FOL_F_ORG_LO {W : Nat} {n : Nat} (h : W.testBit 91 = true) : Wr W (R.LSH_FOL_F_ORG_LO n) :=
  ⟨fun _ => ⟨.r_LSH_FOL_F_ORG_LO, h, n, rfl⟩⟩
theorem ws_r_LSH_FOL_M_ORG_HI {W : Nat} {n : Nat} (h : W.testBit 92 = true) : Wr W (R.LSH_FOL_M_ORG_HI n) :=
  ⟨fun _ => ⟨.r_LSH_FOL_M_ORG_HI, h, n, rfl⟩⟩
theorem ws_r_LSH_FOL_M_ORG_LO {W : Nat} {n : Nat} (h : W.testBit 93 = true) : Wr W (R.LSH_FOL_M_ORG_LO n) :=
  ⟨fun _ => ⟨.r_LSH_FOL_M_ORG_LO, h, n, rfl⟩⟩
theorem ws_r_LSH_FOL_PH {W : Nat} {n : Nat} (h : W.testBit 94 = true) : Wr W (R.LSH_FOL_PH n) :=
  ⟨fun _ => ⟨.r_LSH_FOL_PH, h, n, rfl⟩⟩
theorem ws_r_LSH_FOL_REG_CORR {W : Nat} {n : Nat} (h : W.testBit 95 = true) : Wr W (R.LSH_FOL_REG_CORR n) :=
  ⟨fun _ => ⟨.r_LSH_FOL_REG_CORR, h, n, rfl⟩⟩
theorem ws_r_LSH_FOL_X_ORG_HI {W : Nat} {n : Nat} (h : W.testBit 96 = true) : Wr W (R.LSH_FOL_X_ORG_HI n) :=
  ⟨fun _ => ⟨.r_LSH_FOL_X_ORG_HI, h, n, rfl⟩⟩
theorem ws_r_LSH_FOL_X_ORG_LO {W : Nat} {n : Nat} (h : W.testBit 97 = true) : Wr W (R.LSH_FOL_X_ORG_LO n) :=
  ⟨fun _ => ⟨.r_LSH_FOL_X_ORG_LO, h, n, rfl⟩⟩
theorem ws_r_LSH_JOIN_TIME {W : Nat} (h : W.testBit 98 = true) : Wr W R.LSH_JOIN_TIME :=
  ⟨fun _ => ⟨.r_LSH_JOIN_TIME, h, rfl⟩⟩
theorem ws_r_LSH_PRESENT {W : Nat} {n : Nat} (h : W.testBit 99 = true) : Wr W (R.LSH_PRESENT n) :=
  ⟨fun _ => ⟨.r_LSH_PRESENT, h, n, rfl⟩⟩
theorem ws_r_LSH_REG_ERR {W : Nat} {n : Nat} (h : W.testBit 100 = true) : Wr W (R.LSH_REG_ERR n) :=
  ⟨fun _ => ⟨.r_LSH_REG_ERR, h, n, rfl⟩⟩
theorem ws_r_LSH_REG_MLAT_HI {W : Nat} {n : Nat} (h : W.testBit 101 = true) : Wr W (R.LSH_REG_MLAT_HI n) :=
  ⟨fun _ => ⟨.r_LSH_REG_MLAT_HI, h, n, rfl⟩⟩
theorem ws_r_LSH_REG_MLAT_LO {W : Nat} {n : Nat} (h : W.testBit 102 = true) : Wr W (R.LSH_REG_MLAT_LO n) :=
  ⟨fun _ => ⟨.r_LSH_REG_MLAT_LO, h, n, rfl⟩⟩
theorem ws_r_LSH_REG_PEND {W : Nat} {n : Nat} (h : W.testBit 103 = true) : Wr W (R.LSH_REG_PEND n) :=
  ⟨fun _ => ⟨.r_LSH_REG_PEND, h, n, rfl⟩⟩
theorem ws_r_LSH_SH_POS_HI {W : Nat} {n : Nat} (h : W.testBit 104 = true) : Wr W (R.LSH_SH_POS_HI n) :=
  ⟨fun _ => ⟨.r_LSH_SH_POS_HI, h, n, rfl⟩⟩
theorem ws_r_LSH_SH_POS_LO {W : Nat} {n : Nat} (h : W.testBit 105 = true) : Wr W (R.LSH_SH_POS_LO n) :=
  ⟨fun _ => ⟨.r_LSH_SH_POS_LO, h, n, rfl⟩⟩
theorem ws_r_LSH_SH_SEQ {W : Nat} {n : Nat} (h : W.testBit 106 = true) : Wr W (R.LSH_SH_SEQ n) :=
  ⟨fun _ => ⟨.r_LSH_SH_SEQ, h, n, rfl⟩⟩
theorem ws_r_LSH_SH_VEL {W : Nat} {n : Nat} (h : W.testBit 107 = true) : Wr W (R.LSH_SH_VEL n) :=
  ⟨fun _ => ⟨.r_LSH_SH_VEL, h, n, rfl⟩⟩
theorem ws_r_LSP_CH_AMAX {W : Nat} {n : Nat} (h : W.testBit 108 = true) : Wr W (R.LSP_CH_AMAX n) :=
  ⟨fun _ => ⟨.r_LSP_CH_AMAX, h, n, rfl⟩⟩
theorem ws_r_LSP_CH_AREF {W : Nat} {n : Nat} (h : W.testBit 109 = true) : Wr W (R.LSP_CH_AREF n) :=
  ⟨fun _ => ⟨.r_LSP_CH_AREF, h, n, rfl⟩⟩
theorem ws_r_LSP_CH_CFG {W : Nat} {n : Nat} (h : W.testBit 110 = true) : Wr W (R.LSP_CH_CFG n) :=
  ⟨fun _ => ⟨.r_LSP_CH_CFG, h, n, rfl⟩⟩
theorem ws_r_LSP_CH_DMAX {W : Nat} {n : Nat} (h : W.testBit 111 = true) : Wr W (R.LSP_CH_DMAX n) :=
  ⟨fun _ => ⟨.r_LSP_CH_DMAX, h, n, rfl⟩⟩
theorem ws_r_LSP_CH_JMAX {W : Nat} {n : Nat} (h : W.testBit 112 = true) : Wr W (R.LSP_CH_JMAX n) :=
  ⟨fun _ => ⟨.r_LSP_CH_JMAX, h, n, rfl⟩⟩
theorem ws_r_LSP_CH_PREF_HI {W : Nat} {n : Nat} (h : W.testBit 113 = true) : Wr W (R.LSP_CH_PREF_HI n) :=
  ⟨fun _ => ⟨.r_LSP_CH_PREF_HI, h, n, rfl⟩⟩
theorem ws_r_LSP_CH_PREF_LO {W : Nat} {n : Nat} (h : W.testBit 114 = true) : Wr W (R.LSP_CH_PREF_LO n) :=
  ⟨fun _ => ⟨.r_LSP_CH_PREF_LO, h, n, rfl⟩⟩
theorem ws_r_LSP_CH_START {W : Nat} {n : Nat} (h : W.testBit 115 = true) : Wr W (R.LSP_CH_START n) :=
  ⟨fun _ => ⟨.r_LSP_CH_START, h, n, rfl⟩⟩
theorem ws_r_LSP_CH_TARGET_HI {W : Nat} {n : Nat} (h : W.testBit 116 = true) : Wr W (R.LSP_CH_TARGET_HI n) :=
  ⟨fun _ => ⟨.r_LSP_CH_TARGET_HI, h, n, rfl⟩⟩
theorem ws_r_LSP_CH_TARGET_LO {W : Nat} {n : Nat} (h : W.testBit 117 = true) : Wr W (R.LSP_CH_TARGET_LO n) :=
  ⟨fun _ => ⟨.r_LSP_CH_TARGET_LO, h, n, rfl⟩⟩
theorem ws_r_LSP_CH_VMAX {W : Nat} {n : Nat} (h : W.testBit 118 = true) : Wr W (R.LSP_CH_VMAX n) :=
  ⟨fun _ => ⟨.r_LSP_CH_VMAX, h, n, rfl⟩⟩
theorem ws_r_LSP_CH_VREF {W : Nat} {n : Nat} (h : W.testBit 119 = true) : Wr W (R.LSP_CH_VREF n) :=
  ⟨fun _ => ⟨.r_LSP_CH_VREF, h, n, rfl⟩⟩
theorem ws_r_LSP_EN_REQ0 {W : Nat} (h : W.testBit 120 = true) : Wr W R.LSP_EN_REQ0 :=
  ⟨fun _ => ⟨.r_LSP_EN_REQ0, h, rfl⟩⟩
theorem ws_r_LSP_EN_REQ1 {W : Nat} (h : W.testBit 121 = true) : Wr W R.LSP_EN_REQ1 :=
  ⟨fun _ => ⟨.r_LSP_EN_REQ1, h, rfl⟩⟩
theorem ws_r_MEM_CTL {W : Nat} (h : W.testBit 122 = true) : Wr W R.MEM_CTL :=
  ⟨fun _ => ⟨.r_MEM_CTL, h, rfl⟩⟩
theorem ws_r_MEM_LAYOUT {W : Nat} (h : W.testBit 123 = true) : Wr W R.MEM_LAYOUT :=
  ⟨fun _ => ⟨.r_MEM_LAYOUT, h, rfl⟩⟩
theorem ws_r_MGT_OD_MB_DATA {W : Nat} {n m : Nat} (h : W.testBit 124 = true) : Wr W (R.MGT_OD_MB_DATA n m) :=
  ⟨fun _ => ⟨.r_MGT_OD_MB_DATA, h, n, m, rfl⟩⟩
theorem ws_r_MSEC_SA_CTL {W : Nat} {n : Nat} (h : W.testBit 125 = true) : Wr W (R.MSEC_SA_CTL n) :=
  ⟨fun _ => ⟨.r_MSEC_SA_CTL, h, n, rfl⟩⟩
theorem ws_r_MSEC_STRANGER_SRC_HI {W : Nat} {n : Nat} (h : W.testBit 126 = true) : Wr W (R.MSEC_STRANGER_SRC_HI n) :=
  ⟨fun _ => ⟨.r_MSEC_STRANGER_SRC_HI, h, n, rfl⟩⟩
theorem ws_r_MSEC_STRANGER_SRC_LO {W : Nat} {n : Nat} (h : W.testBit 127 = true) : Wr W (R.MSEC_STRANGER_SRC_LO n) :=
  ⟨fun _ => ⟨.r_MSEC_STRANGER_SRC_LO, h, n, rfl⟩⟩
theorem ws_r_POOL_LAST_REFUSED {W : Nat} (h : W.testBit 128 = true) : Wr W R.POOL_LAST_REFUSED :=
  ⟨fun _ => ⟨.r_POOL_LAST_REFUSED, h, rfl⟩⟩
theorem ws_r_SAF_BT_RESULT {W : Nat} (h : W.testBit 129 = true) : Wr W R.SAF_BT_RESULT :=
  ⟨fun _ => ⟨.r_SAF_BT_RESULT, h, rfl⟩⟩
theorem ws_r_SAF_PSET_CRC {W : Nat} (h : W.testBit 130 = true) : Wr W R.SAF_PSET_CRC :=
  ⟨fun _ => ⟨.r_SAF_PSET_CRC, h, rfl⟩⟩
theorem ws_r_SAF_PSET_SEQ {W : Nat} (h : W.testBit 131 = true) : Wr W R.SAF_PSET_SEQ :=
  ⟨fun _ => ⟨.r_SAF_PSET_SEQ, h, rfl⟩⟩
theorem ws_r_TB_BMCA {W : Nat} (h : W.testBit 132 = true) : Wr W R.TB_BMCA :=
  ⟨fun _ => ⟨.r_TB_BMCA, h, rfl⟩⟩
theorem ws_r_TB_GM_LOG_END {W : Nat} (h : W.testBit 133 = true) : Wr W R.TB_GM_LOG_END :=
  ⟨fun _ => ⟨.r_TB_GM_LOG_END, h, rfl⟩⟩
theorem ws_r_TB_GM_LOG_NEW_HI {W : Nat} (h : W.testBit 134 = true) : Wr W R.TB_GM_LOG_NEW_HI :=
  ⟨fun _ => ⟨.r_TB_GM_LOG_NEW_HI, h, rfl⟩⟩
theorem ws_r_TB_GM_LOG_NEW_LO {W : Nat} (h : W.testBit 135 = true) : Wr W R.TB_GM_LOG_NEW_LO :=
  ⟨fun _ => ⟨.r_TB_GM_LOG_NEW_LO, h, rfl⟩⟩
theorem ws_r_TB_GM_LOG_OLD_HI {W : Nat} (h : W.testBit 136 = true) : Wr W R.TB_GM_LOG_OLD_HI :=
  ⟨fun _ => ⟨.r_TB_GM_LOG_OLD_HI, h, rfl⟩⟩
theorem ws_r_TB_GM_LOG_OLD_LO {W : Nat} (h : W.testBit 137 = true) : Wr W R.TB_GM_LOG_OLD_LO :=
  ⟨fun _ => ⟨.r_TB_GM_LOG_OLD_LO, h, rfl⟩⟩
theorem ws_r_TB_LOCK {W : Nat} (h : W.testBit 138 = true) : Wr W R.TB_LOCK :=
  ⟨fun _ => ⟨.r_TB_LOCK, h, rfl⟩⟩
theorem ws_r_TSN_OPER_CTL {W : Nat} {n m : Nat} (h : W.testBit 139 = true) : Wr W (R.TSN_OPER_CTL n m) :=
  ⟨fun _ => ⟨.r_TSN_OPER_CTL, h, n, m, rfl⟩⟩
theorem ws_r_TSN_OPER_INTERVAL {W : Nat} {n m : Nat} (h : W.testBit 140 = true) : Wr W (R.TSN_OPER_INTERVAL n m) :=
  ⟨fun _ => ⟨.r_TSN_OPER_INTERVAL, h, n, m, rfl⟩⟩
theorem ws_r_TSN_PREEMPT {W : Nat} {n : Nat} (h : W.testBit 141 = true) : Wr W (R.TSN_PREEMPT n) :=
  ⟨fun _ => ⟨.r_TSN_PREEMPT, h, n, rfl⟩⟩
theorem ws_f_AE_BG_STAT_PC {W : Nat} {n : Nat} (h : W.testBit 142 = true) : WrF W (F.AE_BG_STAT_PC n) :=
  ⟨fun _ a b => ⟨.f_AE_BG_STAT_PC, h, n, rfl, a, b⟩⟩
theorem ws_f_AE_BG_STAT_RESTARTS {W : Nat} {n : Nat} (h : W.testBit 143 = true) : WrF W (F.AE_BG_STAT_RESTARTS n) :=
  ⟨fun _ a b => ⟨.f_AE_BG_STAT_RESTARTS, h, n, rfl, a, b⟩⟩
theorem ws_f_AE_BUDGET_CYCLES {W : Nat} {n : Nat} (h : W.testBit 144 = true) : WrF W (F.AE_BUDGET_CYCLES n) :=
  ⟨fun _ a b => ⟨.f_AE_BUDGET_CYCLES, h, n, rfl, a, b⟩⟩
theorem ws_f_AE_COMMIT_STATUS_OTHER {W : Nat} {n : Nat} (h : W.testBit 145 = true) : WrF W (F.AE_COMMIT_STATUS_OTHER n) :=
  ⟨fun _ a b => ⟨.f_AE_COMMIT_STATUS_OTHER, h, n, rfl, a, b⟩⟩
theorem ws_f_AE_COMMIT_STATUS_REASON {W : Nat} {n : Nat} (h : W.testBit 146 = true) : WrF W (F.AE_COMMIT_STATUS_REASON n) :=
  ⟨fun _ a b => ⟨.f_AE_COMMIT_STATUS_REASON, h, n, rfl, a, b⟩⟩
theorem ws_f_AE_COMMIT_STATUS_SHORTFALL {W : Nat} {n : Nat} (h : W.testBit 147 = true) : WrF W (F.AE_COMMIT_STATUS_SHORTFALL n) :=
  ⟨fun _ a b => ⟨.f_AE_COMMIT_STATUS_SHORTFALL, h, n, rfl, a, b⟩⟩
theorem ws_f_AE_COMMIT_STATUS_SLOT {W : Nat} {n : Nat} (h : W.testBit 148 = true) : WrF W (F.AE_COMMIT_STATUS_SLOT n) :=
  ⟨fun _ a b => ⟨.f_AE_COMMIT_STATUS_SLOT, h, n, rfl, a, b⟩⟩
theorem ws_f_AE_COMMIT_STATUS_STATE {W : Nat} {n : Nat} (h : W.testBit 149 = true) : WrF W (F.AE_COMMIT_STATUS_STATE n) :=
  ⟨fun _ a b => ⟨.f_AE_COMMIT_STATUS_STATE, h, n, rfl, a, b⟩⟩
theorem ws_f_AE_CTL_BG_EN {W : Nat} {n : Nat} (h : W.testBit 150 = true) : WrF W (F.AE_CTL_BG_EN n) :=
  ⟨fun _ a b => ⟨.f_AE_CTL_BG_EN, h, n, rfl, a, b⟩⟩
theorem ws_f_AE_CTL_RUN {W : Nat} {n : Nat} (h : W.testBit 151 = true) : WrF W (F.AE_CTL_RUN n) :=
  ⟨fun _ a b => ⟨.f_AE_CTL_RUN, h, n, rfl, a, b⟩⟩
theorem ws_f_AE_ECC_CORR {W : Nat} {n : Nat} (h : W.testBit 152 = true) : WrF W (F.AE_ECC_CORR n) :=
  ⟨fun _ a b => ⟨.f_AE_ECC_CORR, h, n, rfl, a, b⟩⟩
theorem ws_f_AE_NBASE_CYCLES {W : Nat} {n : Nat} (h : W.testBit 153 = true) : WrF W (F.AE_NBASE_CYCLES n) :=
  ⟨fun _ a b => ⟨.f_AE_NBASE_CYCLES, h, n, rfl, a, b⟩⟩
theorem ws_f_AE_PERIOD_CNT_COUNT {W : Nat} {n : Nat} (h : W.testBit 154 = true) : WrF W (F.AE_PERIOD_CNT_COUNT n) :=
  ⟨fun _ a b => ⟨.f_AE_PERIOD_CNT_COUNT, h, n, rfl, a, b⟩⟩
theorem ws_f_AE_SLOT_STAT_MAX_USED {W : Nat} {n m : Nat} (h : W.testBit 155 = true) : WrF W (F.AE_SLOT_STAT_MAX_USED n m) :=
  ⟨fun _ a b => ⟨.f_AE_SLOT_STAT_MAX_USED, h, n, m, rfl, a, b⟩⟩
theorem ws_f_AE_SLOT_STAT_OVERRUNS {W : Nat} {n m : Nat} (h : W.testBit 156 = true) : WrF W (F.AE_SLOT_STAT_OVERRUNS n m) :=
  ⟨fun _ a b => ⟨.f_AE_SLOT_STAT_OVERRUNS, h, n, m, rfl, a, b⟩⟩
theorem ws_f_AE_STATUS_BG_ACTIVE {W : Nat} {n : Nat} (h : W.testBit 157 = true) : WrF W (F.AE_STATUS_BG_ACTIVE n) :=
  ⟨fun _ a b => ⟨.f_AE_STATUS_BG_ACTIVE, h, n, rfl, a, b⟩⟩
theorem ws_f_AE_STATUS_BG_SAVE_LATE {W : Nat} {n : Nat} (h : W.testBit 158 = true) : WrF W (F.AE_STATUS_BG_SAVE_LATE n) :=
  ⟨fun _ a b => ⟨.f_AE_STATUS_BG_SAVE_LATE, h, n, rfl, a, b⟩⟩
theorem ws_f_AE_STATUS_CTL_REFUSED {W : Nat} {n : Nat} (h : W.testBit 159 = true) : WrF W (F.AE_STATUS_CTL_REFUSED n) :=
  ⟨fun _ a b => ⟨.f_AE_STATUS_CTL_REFUSED, h, n, rfl, a, b⟩⟩
theorem ws_f_AE_STATUS_ECC_CORR {W : Nat} {n : Nat} (h : W.testBit 160 = true) : WrF W (F.AE_STATUS_ECC_CORR n) :=
  ⟨fun _ a b => ⟨.f_AE_STATUS_ECC_CORR, h, n, rfl, a, b⟩⟩
theorem ws_f_AE_STATUS_ECC_FATAL {W : Nat} {n : Nat} (h : W.testBit 161 = true) : WrF W (F.AE_STATUS_ECC_FATAL n) :=
  ⟨fun _ a b => ⟨.f_AE_STATUS_ECC_FATAL, h, n, rfl, a, b⟩⟩
theorem ws_f_AE_STATUS_FAULT_SLOT {W : Nat} {n : Nat} (h : W.testBit 162 = true) : WrF W (F.AE_STATUS_FAULT_SLOT n) :=
  ⟨fun _ a b => ⟨.f_AE_STATUS_FAULT_SLOT, h, n, rfl, a, b⟩⟩
theorem ws_f_AE_STATUS_MISS_A {W : Nat} {n : Nat} (h : W.testBit 163 = true) : WrF W (F.AE_STATUS_MISS_A n) :=
  ⟨fun _ a b => ⟨.f_AE_STATUS_MISS_A, h, n, rfl, a, b⟩⟩
theorem ws_f_AE_STATUS_MISS_B {W : Nat} {n : Nat} (h : W.testBit 164 = true) : WrF W (F.AE_STATUS_MISS_B n) :=
  ⟨fun _ a b => ⟨.f_AE_STATUS_MISS_B, h, n, rfl, a, b⟩⟩
theorem ws_f_AE_STATUS_OVERRUN {W : Nat} {n : Nat} (h : W.testBit 165 = true) : WrF W (F.AE_STATUS_OVERRUN n) :=
  ⟨fun _ a b => ⟨.f_AE_STATUS_OVERRUN, h, n, rfl, a, b⟩⟩
theorem ws_f_AE_STATUS_PERIOD_MISMATCH {W : Nat} {n : Nat} (h : W.testBit 166 = true) : WrF W (F.AE_STATUS_PERIOD_MISMATCH n) :=
  ⟨fun _ a b => ⟨.f_AE_STATUS_PERIOD_MISMATCH, h, n, rfl, a, b⟩⟩
theorem ws_f_AE_STATUS_PHASE_MISMATCH {W : Nat} {n : Nat} (h : W.testBit 167 = true) : WrF W (F.AE_STATUS_PHASE_MISMATCH n) :=
  ⟨fun _ a b => ⟨.f_AE_STATUS_PHASE_MISMATCH, h, n, rfl, a, b⟩⟩
theorem ws_f_AE_STATUS_PM_WRITE_REFUSED {W : Nat} {n : Nat} (h : W.testBit 168 = true) : WrF W (F.AE_STATUS_PM_WRITE_REFUSED n) :=
  ⟨fun _ a b => ⟨.f_AE_STATUS_PM_WRITE_REFUSED, h, n, rfl, a, b⟩⟩
theorem ws_f_AE_STATUS_REF_USED {W : Nat} {n : Nat} (h : W.testBit 169 = true) : WrF W (F.AE_STATUS_REF_USED n) :=
  ⟨fun _ a b => ⟨.f_AE_STATUS_REF_USED, h, n, rfl, a, b⟩⟩
theorem ws_f_AE_STATUS_RUNNING {W : Nat} {n : Nat} (h : W.testBit 170 = true) : WrF W (F.AE_STATUS_RUNNING n) :=
  ⟨fun _ a b => ⟨.f_AE_STATUS_RUNNING, h, n, rfl, a, b⟩⟩
theorem ws_f_AE_STATUS_SAMPLE_MISPLACED {W : Nat} {n : Nat} (h : W.testBit 171 = true) : WrF W (F.AE_STATUS_SAMPLE_MISPLACED n) :=
  ⟨fun _ a b => ⟨.f_AE_STATUS_SAMPLE_MISPLACED, h, n, rfl, a, b⟩⟩
theorem ws_f_AE_TABLE_INFO_T_LOOP {W : Nat} {n : Nat} (h : W.testBit 172 = true) : WrF W (F.AE_TABLE_INFO_T_LOOP n) :=
  ⟨fun _ a b => ⟨.f_AE_TABLE_INFO_T_LOOP, h, n, rfl, a, b⟩⟩
theorem ws_f_AUX_ADC_RES_RESULT {W : Nat} {n : Nat} (h : W.testBit 173 = true) : WrF W (F.AUX_ADC_RES_RESULT n) :=
  ⟨fun _ a b => ⟨.f_AUX_ADC_RES_RESULT, h, n, rfl, a, b⟩⟩
theorem ws_f_AUX_BL_DUTY_DUTY {W : Nat} {n : Nat} (h : W.testBit 174 = true) : WrF W (F.AUX_BL_DUTY_DUTY n) :=
  ⟨fun _ a b => ⟨.f_AUX_BL_DUTY_DUTY, h, n, rfl, a, b⟩⟩
theorem ws_f_AUX_BL_STATUS_ADC_STARVED {W : Nat} {n : Nat} (h : W.testBit 175 = true) : WrF W (F.AUX_BL_STATUS_ADC_STARVED n) :=
  ⟨fun _ a b => ⟨.f_AUX_BL_STATUS_ADC_STARVED, h, n, rfl, a, b⟩⟩
theorem ws_f_AUX_BL_STATUS_DIRN {W : Nat} {n : Nat} (h : W.testBit 176 = true) : WrF W (F.AUX_BL_STATUS_DIRN n) :=
  ⟨fun _ a b => ⟨.f_AUX_BL_STATUS_DIRN, h, n, rfl, a, b⟩⟩
theorem ws_f_AUX_BL_STATUS_I_LIMITED {W : Nat} {n : Nat} (h : W.testBit 177 = true) : WrF W (F.AUX_BL_STATUS_I_LIMITED n) :=
  ⟨fun _ a b => ⟨.f_AUX_BL_STATUS_I_LIMITED, h, n, rfl, a, b⟩⟩
theorem ws_f_AUX_BL_STATUS_I_TRIP {W : Nat} {n : Nat} (h : W.testBit 178 = true) : WrF W (F.AUX_BL_STATUS_I_TRIP n) :=
  ⟨fun _ a b => ⟨.f_AUX_BL_STATUS_I_TRIP, h, n, rfl, a, b⟩⟩
theorem ws_f_AUX_BL_STATUS_LOST {W : Nat} {n : Nat} (h : W.testBit 179 = true) : WrF W (F.AUX_BL_STATUS_LOST n) :=
  ⟨fun _ a b => ⟨.f_AUX_BL_STATUS_LOST, h, n, rfl, a, b⟩⟩
theorem ws_f_AUX_BL_STATUS_PHASE {W : Nat} {n : Nat} (h : W.testBit 180 = true) : WrF W (F.AUX_BL_STATUS_PHASE n) :=
  ⟨fun _ a b => ⟨.f_AUX_BL_STATUS_PHASE, h, n, rfl, a, b⟩⟩
theorem ws_f_AUX_BL_STATUS_RESTARTS {W : Nat} {n : Nat} (h : W.testBit 181 = true) : WrF W (F.AUX_BL_STATUS_RESTARTS n) :=
  ⟨fun _ a b => ⟨.f_AUX_BL_STATUS_RESTARTS, h, n, rfl, a, b⟩⟩
theorem ws_f_AUX_BL_STATUS_SECTOR {W : Nat} {n : Nat} (h : W.testBit 182 = true) : WrF W (F.AUX_BL_STATUS_SECTOR n) :=
  ⟨fun _ a b => ⟨.f_AUX_BL_STATUS_SECTOR, h, n, rfl, a, b⟩⟩
theorem ws_f_AUX_BL_STATUS_START_FAIL {W : Nat} {n : Nat} (h : W.testBit 183 = true) : WrF W (F.AUX_BL_STATUS_START_FAIL n) :=
  ⟨fun _ a b => ⟨.f_AUX_BL_STATUS_START_FAIL, h, n, rfl, a, b⟩⟩
theorem ws_f_AUX_BL_STATUS_WRONG_DIR {W : Nat} {n : Nat} (h : W.testBit 184 = true) : WrF W (F.AUX_BL_STATUS_WRONG_DIR n) :=
  ⟨fun _ a b => ⟨.f_AUX_BL_STATUS_WRONG_DIR, h, n, rfl, a, b⟩⟩
theorem ws_f_AUX_BL_STATUS_ZC_RUN {W : Nat} {n : Nat} (h : W.testBit 185 = true) : WrF W (F.AUX_BL_STATUS_ZC_RUN n) :=
  ⟨fun _ a b => ⟨.f_AUX_BL_STATUS_ZC_RUN, h, n, rfl, a, b⟩⟩
theorem ws_f_AUX_CFG_ADC_SEL {W : Nat} {n : Nat} (h : W.testBit 186 = true) : WrF W (F.AUX_CFG_ADC_SEL n) :=
  ⟨fun _ a b => ⟨.f_AUX_CFG_ADC_SEL, h, n, rfl, a, b⟩⟩
theorem ws_f_AUX_CL_ADC_COUNT_DROPPED {W : Nat} {n : Nat} (h : W.testBit 187 = true) : WrF W (F.AUX_CL_ADC_COUNT_DROPPED n) :=
  ⟨fun _ a b => ⟨.f_AUX_CL_ADC_COUNT_DROPPED, h, n, rfl, a, b⟩⟩
theorem ws_f_AUX_CL_ADC_COUNT_MAX_WAIT {W : Nat} {n : Nat} (h : W.testBit 188 = true) : WrF W (F.AUX_CL_ADC_COUNT_MAX_WAIT n) :=
  ⟨fun _ a b => ⟨.f_AUX_CL_ADC_COUNT_MAX_WAIT, h, n, rfl, a, b⟩⟩
theorem ws_f_AUX_CL_ADC_STATUS_BUSY {W : Nat} {n : Nat} (h : W.testBit 189 = true) : WrF W (F.AUX_CL_ADC_STATUS_BUSY n) :=
  ⟨fun _ a b => ⟨.f_AUX_CL_ADC_STATUS_BUSY, h, n, rfl, a, b⟩⟩
theorem ws_f_AUX_CL_ADC_STATUS_FAULT {W : Nat} {n : Nat} (h : W.testBit 190 = true) : WrF W (F.AUX_CL_ADC_STATUS_FAULT n) :=
  ⟨fun _ a b => ⟨.f_AUX_CL_ADC_STATUS_FAULT, h, n, rfl, a, b⟩⟩
theorem ws_f_AUX_CL_ADC_STATUS_REF {W : Nat} {n : Nat} (h : W.testBit 191 = true) : WrF W (F.AUX_CL_ADC_STATUS_REF n) :=
  ⟨fun _ a b => ⟨.f_AUX_CL_ADC_STATUS_REF, h, n, rfl, a, b⟩⟩
theorem ws_f_AUX_CTL_OUT_EN {W : Nat} {n : Nat} (h : W.testBit 192 = true) : WrF W (F.AUX_CTL_OUT_EN n) :=
  ⟨fun _ a b => ⟨.f_AUX_CTL_OUT_EN, h, n, rfl, a, b⟩⟩
theorem ws_f_AUX_STATUS_CFG_REFUSED {W : Nat} {n : Nat} (h : W.testBit 193 = true) : WrF W (F.AUX_STATUS_CFG_REFUSED n) :=
  ⟨fun _ a b => ⟨.f_AUX_STATUS_CFG_REFUSED, h, n, rfl, a, b⟩⟩
theorem ws_f_AUX_STATUS_FAULT {W : Nat} {n : Nat} (h : W.testBit 194 = true) : WrF W (F.AUX_STATUS_FAULT n) :=
  ⟨fun _ a b => ⟨.f_AUX_STATUS_FAULT, h, n, rfl, a, b⟩⟩
theorem ws_f_AUX_STATUS_LAUNCH_OFF {W : Nat} {n : Nat} (h : W.testBit 195 = true) : WrF W (F.AUX_STATUS_LAUNCH_OFF n) :=
  ⟨fun _ a b => ⟨.f_AUX_STATUS_LAUNCH_OFF, h, n, rfl, a, b⟩⟩
theorem ws_f_AUX_STATUS_STATE {W : Nat} {n : Nat} (h : W.testBit 196 = true) : WrF W (F.AUX_STATUS_STATE n) :=
  ⟨fun _ a b => ⟨.f_AUX_STATUS_STATE, h, n, rfl, a, b⟩⟩
theorem ws_f_AUX_STATUS_STO_GATED {W : Nat} {n : Nat} (h : W.testBit 197 = true) : WrF W (F.AUX_STATUS_STO_GATED n) :=
  ⟨fun _ a b => ⟨.f_AUX_STATUS_STO_GATED, h, n, rfl, a, b⟩⟩
theorem ws_f_AUX_STP_COUNT_ADAPT_SKIPPED {W : Nat} {n : Nat} (h : W.testBit 198 = true) : WrF W (F.AUX_STP_COUNT_ADAPT_SKIPPED n) :=
  ⟨fun _ a b => ⟨.f_AUX_STP_COUNT_ADAPT_SKIPPED, h, n, rfl, a, b⟩⟩
theorem ws_f_AUX_STP_COUNT_DROPPED {W : Nat} {n : Nat} (h : W.testBit 199 = true) : WrF W (F.AUX_STP_COUNT_DROPPED n) :=
  ⟨fun _ a b => ⟨.f_AUX_STP_COUNT_DROPPED, h, n, rfl, a, b⟩⟩
theorem ws_f_AUX_STP_OFS_OFS_A {W : Nat} {n : Nat} (h : W.testBit 200 = true) : WrF W (F.AUX_STP_OFS_OFS_A n) :=
  ⟨fun _ a b => ⟨.f_AUX_STP_OFS_OFS_A, h, n, rfl, a, b⟩⟩
theorem ws_f_AUX_STP_OFS_OFS_B {W : Nat} {n : Nat} (h : W.testBit 201 = true) : WrF W (F.AUX_STP_OFS_OFS_B n) :=
  ⟨fun _ a b => ⟨.f_AUX_STP_OFS_OFS_B, h, n, rfl, a, b⟩⟩
theorem ws_f_AUX_STP_STATUS_FACTOR {W : Nat} {n : Nat} (h : W.testBit 202 = true) : WrF W (F.AUX_STP_STATUS_FACTOR n) :=
  ⟨fun _ a b => ⟨.f_AUX_STP_STATUS_FACTOR, h, n, rfl, a, b⟩⟩
theorem ws_f_AUX_STP_STATUS_INDEX {W : Nat} {n : Nat} (h : W.testBit 203 = true) : WrF W (F.AUX_STP_STATUS_INDEX n) :=
  ⟨fun _ a b => ⟨.f_AUX_STP_STATUS_INDEX, h, n, rfl, a, b⟩⟩
theorem ws_f_AUX_STP_STATUS_OPEN_A {W : Nat} {n : Nat} (h : W.testBit 204 = true) : WrF W (F.AUX_STP_STATUS_OPEN_A n) :=
  ⟨fun _ a b => ⟨.f_AUX_STP_STATUS_OPEN_A, h, n, rfl, a, b⟩⟩
theorem ws_f_AUX_STP_STATUS_OPEN_B {W : Nat} {n : Nat} (h : W.testBit 205 = true) : WrF W (F.AUX_STP_STATUS_OPEN_B n) :=
  ⟨fun _ a b => ⟨.f_AUX_STP_STATUS_OPEN_B, h, n, rfl, a, b⟩⟩
theorem ws_f_AUX_STP_STATUS_REDUCED {W : Nat} {n : Nat} (h : W.testBit 206 = true) : WrF W (F.AUX_STP_STATUS_REDUCED n) :=
  ⟨fun _ a b => ⟨.f_AUX_STP_STATUS_REDUCED, h, n, rfl, a, b⟩⟩
theorem ws_f_AUX_STP_STATUS_REDUCING {W : Nat} {n : Nat} (h : W.testBit 207 = true) : WrF W (F.AUX_STP_STATUS_REDUCING n) :=
  ⟨fun _ a b => ⟨.f_AUX_STP_STATUS_REDUCING, h, n, rfl, a, b⟩⟩
theorem ws_f_AUX_STP_STATUS_STEP_SAT {W : Nat} {n : Nat} (h : W.testBit 208 = true) : WrF W (F.AUX_STP_STATUS_STEP_SAT n) :=
  ⟨fun _ a b => ⟨.f_AUX_STP_STATUS_STEP_SAT, h, n, rfl, a, b⟩⟩
theorem ws_f_AX_CS_CFG_EN {W : Nat} {n : Nat} (h : W.testBit 209 = true) : WrF W (F.AX_CS_CFG_EN n) :=
  ⟨fun _ a b => ⟨.f_AX_CS_CFG_EN, h, n, rfl, a, b⟩⟩
theorem ws_f_AX_CS_CFG_MEAS_PAIR {W : Nat} {n : Nat} (h : W.testBit 210 = true) : WrF W (F.AX_CS_CFG_MEAS_PAIR n) :=
  ⟨fun _ a b => ⟨.f_AX_CS_CFG_MEAS_PAIR, h, n, rfl, a, b⟩⟩
theorem ws_f_AX_CS_CFG_OSR {W : Nat} {n : Nat} (h : W.testBit 211 = true) : WrF W (F.AX_CS_CFG_OSR n) :=
  ⟨fun _ a b => ⟨.f_AX_CS_CFG_OSR, h, n, rfl, a, b⟩⟩
theorem ws_f_AX_CS_CFG_STUCK_LIM {W : Nat} {n : Nat} (h : W.testBit 212 = true) : WrF W (F.AX_CS_CFG_STUCK_LIM n) :=
  ⟨fun _ a b => ⟨.f_AX_CS_CFG_STUCK_LIM, h, n, rfl, a, b⟩⟩
theorem ws_f_AX_CS_FAST_A_Q2 {W : Nat} {n : Nat} (h : W.testBit 213 = true) : WrF W (F.AX_CS_FAST_A_Q2 n) :=
  ⟨fun _ a b => ⟨.f_AX_CS_FAST_A_Q2, h, n, rfl, a, b⟩⟩
theorem ws_f_AX_CS_FAST_B_Q2 {W : Nat} {n : Nat} (h : W.testBit 214 = true) : WrF W (F.AX_CS_FAST_B_Q2 n) :=
  ⟨fun _ a b => ⟨.f_AX_CS_FAST_B_Q2, h, n, rfl, a, b⟩⟩
theorem ws_f_AX_CS_RAW_A_Q {W : Nat} {n : Nat} (h : W.testBit 215 = true) : WrF W (F.AX_CS_RAW_A_Q n) :=
  ⟨fun _ a b => ⟨.f_AX_CS_RAW_A_Q, h, n, rfl, a, b⟩⟩
theorem ws_f_AX_CS_RAW_B_Q {W : Nat} {n : Nat} (h : W.testBit 216 = true) : WrF W (F.AX_CS_RAW_B_Q n) :=
  ⟨fun _ a b => ⟨.f_AX_CS_RAW_B_Q, h, n, rfl, a, b⟩⟩
theorem ws_f_AX_CS_STATUS_CFG_REFUSED {W : Nat} {n : Nat} (h : W.testBit 217 = true) : WrF W (F.AX_CS_STATUS_CFG_REFUSED n) :=
  ⟨fun _ a b => ⟨.f_AX_CS_STATUS_CFG_REFUSED, h, n, rfl, a, b⟩⟩
theorem ws_f_AX_CS_STATUS_DELTA {W : Nat} {n : Nat} (h : W.testBit 218 = true) : WrF W (F.AX_CS_STATUS_DELTA n) :=
  ⟨fun _ a b => ⟨.f_AX_CS_STATUS_DELTA, h, n, rfl, a, b⟩⟩
theorem ws_f_AX_CS_STATUS_ISAT {W : Nat} {n : Nat} (h : W.testBit 219 = true) : WrF W (F.AX_CS_STATUS_ISAT n) :=
  ⟨fun _ a b => ⟨.f_AX_CS_STATUS_ISAT, h, n, rfl, a, b⟩⟩
theorem ws_f_AX_CS_STATUS_OVERLAP {W : Nat} {n : Nat} (h : W.testBit 220 = true) : WrF W (F.AX_CS_STATUS_OVERLAP n) :=
  ⟨fun _ a b => ⟨.f_AX_CS_STATUS_OVERLAP, h, n, rfl, a, b⟩⟩
theorem ws_f_AX_CS_STATUS_SAT_A {W : Nat} {n : Nat} (h : W.testBit 221 = true) : WrF W (F.AX_CS_STATUS_SAT_A n) :=
  ⟨fun _ a b => ⟨.f_AX_CS_STATUS_SAT_A, h, n, rfl, a, b⟩⟩
theorem ws_f_AX_CS_STATUS_SAT_B {W : Nat} {n : Nat} (h : W.testBit 222 = true) : WrF W (F.AX_CS_STATUS_SAT_B n) :=
  ⟨fun _ a b => ⟨.f_AX_CS_STATUS_SAT_B, h, n, rfl, a, b⟩⟩
theorem ws_f_AX_CS_STATUS_STUCK_A {W : Nat} {n : Nat} (h : W.testBit 223 = true) : WrF W (F.AX_CS_STATUS_STUCK_A n) :=
  ⟨fun _ a b => ⟨.f_AX_CS_STATUS_STUCK_A, h, n, rfl, a, b⟩⟩
theorem ws_f_AX_CS_STATUS_STUCK_B {W : Nat} {n : Nat} (h : W.testBit 224 = true) : WrF W (F.AX_CS_STATUS_STUCK_B n) :=
  ⟨fun _ a b => ⟨.f_AX_CS_STATUS_STUCK_B, h, n, rfl, a, b⟩⟩
theorem ws_f_AX_CS_STATUS_VALID {W : Nat} {n : Nat} (h : W.testBit 225 = true) : WrF W (F.AX_CS_STATUS_VALID n) :=
  ⟨fun _ a b => ⟨.f_AX_CS_STATUS_VALID, h, n, rfl, a, b⟩⟩
theorem ws_f_AX_FB_COUNT_GLITCH {W : Nat} {n : Nat} (h : W.testBit 226 = true) : WrF W (F.AX_FB_COUNT_GLITCH n) :=
  ⟨fun _ a b => ⟨.f_AX_FB_COUNT_GLITCH, h, n, rfl, a, b⟩⟩
theorem ws_f_AX_FB_COUNT_SSI_FAIL {W : Nat} {n : Nat} (h : W.testBit 227 = true) : WrF W (F.AX_FB_COUNT_SSI_FAIL n) :=
  ⟨fun _ a b => ⟨.f_AX_FB_COUNT_SSI_FAIL, h, n, rfl, a, b⟩⟩
theorem ws_f_AX_FB_SC_ADC_A {W : Nat} {n : Nat} (h : W.testBit 228 = true) : WrF W (F.AX_FB_SC_ADC_A n) :=
  ⟨fun _ a b => ⟨.f_AX_FB_SC_ADC_A, h, n, rfl, a, b⟩⟩
theorem ws_f_AX_FB_SC_ADC_B {W : Nat} {n : Nat} (h : W.testBit 229 = true) : WrF W (F.AX_FB_SC_ADC_B n) :=
  ⟨fun _ a b => ⟨.f_AX_FB_SC_ADC_B, h, n, rfl, a, b⟩⟩
theorem ws_f_AX_FB_SC_GP_GAIN_B {W : Nat} {n : Nat} (h : W.testBit 230 = true) : WrF W (F.AX_FB_SC_GP_GAIN_B n) :=
  ⟨fun _ a b => ⟨.f_AX_FB_SC_GP_GAIN_B, h, n, rfl, a, b⟩⟩
theorem ws_f_AX_FB_SC_GP_PHASE {W : Nat} {n : Nat} (h : W.testBit 231 = true) : WrF W (F.AX_FB_SC_GP_PHASE n) :=
  ⟨fun _ a b => ⟨.f_AX_FB_SC_GP_PHASE, h, n, rfl, a, b⟩⟩
theorem ws_f_AX_FB_SC_OFS_OFS_A {W : Nat} {n : Nat} (h : W.testBit 232 = true) : WrF W (F.AX_FB_SC_OFS_OFS_A n) :=
  ⟨fun _ a b => ⟨.f_AX_FB_SC_OFS_OFS_A, h, n, rfl, a, b⟩⟩
theorem ws_f_AX_FB_SC_OFS_OFS_B {W : Nat} {n : Nat} (h : W.testBit 233 = true) : WrF W (F.AX_FB_SC_OFS_OFS_B n) :=
  ⟨fun _ a b => ⟨.f_AX_FB_SC_OFS_OFS_B, h, n, rfl, a, b⟩⟩
theorem ws_f_AX_FB_STATUS_AMP_FAULT {W : Nat} {n : Nat} (h : W.testBit 234 = true) : WrF W (F.AX_FB_STATUS_AMP_FAULT n) :=
  ⟨fun _ a b => ⟨.f_AX_FB_STATUS_AMP_FAULT, h, n, rfl, a, b⟩⟩
theorem ws_f_AX_FB_STATUS_AMP_HIGH {W : Nat} {n : Nat} (h : W.testBit 235 = true) : WrF W (F.AX_FB_STATUS_AMP_HIGH n) :=
  ⟨fun _ a b => ⟨.f_AX_FB_STATUS_AMP_HIGH, h, n, rfl, a, b⟩⟩
theorem ws_f_AX_FB_STATUS_AMP_LOW {W : Nat} {n : Nat} (h : W.testBit 236 = true) : WrF W (F.AX_FB_STATUS_AMP_LOW n) :=
  ⟨fun _ a b => ⟨.f_AX_FB_STATUS_AMP_LOW, h, n, rfl, a, b⟩⟩
theorem ws_f_AX_FB_STATUS_CFG_REFUSED {W : Nat} {n : Nat} (h : W.testBit 237 = true) : WrF W (F.AX_FB_STATUS_CFG_REFUSED n) :=
  ⟨fun _ a b => ⟨.f_AX_FB_STATUS_CFG_REFUSED, h, n, rfl, a, b⟩⟩
theorem ws_f_AX_FB_STATUS_CHECK_ERR {W : Nat} {n : Nat} (h : W.testBit 238 = true) : WrF W (F.AX_FB_STATUS_CHECK_ERR n) :=
  ⟨fun _ a b => ⟨.f_AX_FB_STATUS_CHECK_ERR, h, n, rfl, a, b⟩⟩
theorem ws_f_AX_FB_STATUS_EXTRAP {W : Nat} {n : Nat} (h : W.testBit 239 = true) : WrF W (F.AX_FB_STATUS_EXTRAP n) :=
  ⟨fun _ a b => ⟨.f_AX_FB_STATUS_EXTRAP, h, n, rfl, a, b⟩⟩
theorem ws_f_AX_FB_STATUS_FAULT {W : Nat} {n : Nat} (h : W.testBit 240 = true) : WrF W (F.AX_FB_STATUS_FAULT n) :=
  ⟨fun _ a b => ⟨.f_AX_FB_STATUS_FAULT, h, n, rfl, a, b⟩⟩
theorem ws_f_AX_FB_STATUS_HALL_AMBIG {W : Nat} {n : Nat} (h : W.testBit 241 = true) : WrF W (F.AX_FB_STATUS_HALL_AMBIG n) :=
  ⟨fun _ a b => ⟨.f_AX_FB_STATUS_HALL_AMBIG, h, n, rfl, a, b⟩⟩
theorem ws_f_AX_FB_STATUS_HALL_SKIP {W : Nat} {n : Nat} (h : W.testBit 242 = true) : WrF W (F.AX_FB_STATUS_HALL_SKIP n) :=
  ⟨fun _ a b => ⟨.f_AX_FB_STATUS_HALL_SKIP, h, n, rfl, a, b⟩⟩
theorem ws_f_AX_FB_STATUS_HALL_STATE {W : Nat} {n : Nat} (h : W.testBit 243 = true) : WrF W (F.AX_FB_STATUS_HALL_STATE n) :=
  ⟨fun _ a b => ⟨.f_AX_FB_STATUS_HALL_STATE, h, n, rfl, a, b⟩⟩
theorem ws_f_AX_FB_STATUS_LENT {W : Nat} {n : Nat} (h : W.testBit 244 = true) : WrF W (F.AX_FB_STATUS_LENT n) :=
  ⟨fun _ a b => ⟨.f_AX_FB_STATUS_LENT, h, n, rfl, a, b⟩⟩
theorem ws_f_AX_FB_STATUS_LINE_ERR {W : Nat} {n : Nat} (h : W.testBit 245 = true) : WrF W (F.AX_FB_STATUS_LINE_ERR n) :=
  ⟨fun _ a b => ⟨.f_AX_FB_STATUS_LINE_ERR, h, n, rfl, a, b⟩⟩
theorem ws_f_AX_FB_STATUS_POS2_VALID {W : Nat} {n : Nat} (h : W.testBit 246 = true) : WrF W (F.AX_FB_STATUS_POS2_VALID n) :=
  ⟨fun _ a b => ⟨.f_AX_FB_STATUS_POS2_VALID, h, n, rfl, a, b⟩⟩
theorem ws_f_AX_FB_STATUS_QUAD_ERR {W : Nat} {n : Nat} (h : W.testBit 247 = true) : WrF W (F.AX_FB_STATUS_QUAD_ERR n) :=
  ⟨fun _ a b => ⟨.f_AX_FB_STATUS_QUAD_ERR, h, n, rfl, a, b⟩⟩
theorem ws_f_AX_FB_STATUS_REV_HOLD {W : Nat} {n : Nat} (h : W.testBit 248 = true) : WrF W (F.AX_FB_STATUS_REV_HOLD n) :=
  ⟨fun _ a b => ⟨.f_AX_FB_STATUS_REV_HOLD, h, n, rfl, a, b⟩⟩
theorem ws_f_AX_FB_STATUS_SAT_MAX {W : Nat} {n : Nat} (h : W.testBit 249 = true) : WrF W (F.AX_FB_STATUS_SAT_MAX n) :=
  ⟨fun _ a b => ⟨.f_AX_FB_STATUS_SAT_MAX, h, n, rfl, a, b⟩⟩
theorem ws_f_AX_FB_STATUS_SAT_MIN {W : Nat} {n : Nat} (h : W.testBit 250 = true) : WrF W (F.AX_FB_STATUS_SAT_MIN n) :=
  ⟨fun _ a b => ⟨.f_AX_FB_STATUS_SAT_MIN, h, n, rfl, a, b⟩⟩
theorem ws_f_AX_FB_STATUS_SAT_SEEN {W : Nat} {n : Nat} (h : W.testBit 251 = true) : WrF W (F.AX_FB_STATUS_SAT_SEEN n) :=
  ⟨fun _ a b => ⟨.f_AX_FB_STATUS_SAT_SEEN, h, n, rfl, a, b⟩⟩
theorem ws_f_AX_FB_STATUS_SSI_BUSY {W : Nat} {n : Nat} (h : W.testBit 252 = true) : WrF W (F.AX_FB_STATUS_SSI_BUSY n) :=
  ⟨fun _ a b => ⟨.f_AX_FB_STATUS_SSI_BUSY, h, n, rfl, a, b⟩⟩
theorem ws_f_AX_FB_STATUS_SSI_FAIL {W : Nat} {n : Nat} (h : W.testBit 253 = true) : WrF W (F.AX_FB_STATUS_SSI_FAIL n) :=
  ⟨fun _ a b => ⟨.f_AX_FB_STATUS_SSI_FAIL, h, n, rfl, a, b⟩⟩
theorem ws_f_AX_FB_STATUS_SYNC_ERR {W : Nat} {n : Nat} (h : W.testBit 254 = true) : WrF W (F.AX_FB_STATUS_SYNC_ERR n) :=
  ⟨fun _ a b => ⟨.f_AX_FB_STATUS_SYNC_ERR, h, n, rfl, a, b⟩⟩
theorem ws_f_AX_FB_STATUS_VALID {W : Nat} {n : Nat} (h : W.testBit 255 = true) : WrF W (F.AX_FB_STATUS_VALID n) :=
  ⟨fun _ a b => ⟨.f_AX_FB_STATUS_VALID, h, n, rfl, a, b⟩⟩
theorem ws_f_AX_FB_STATUS_WRAPPED {W : Nat} {n : Nat} (h : W.testBit 256 = true) : WrF W (F.AX_FB_STATUS_WRAPPED n) :=
  ⟨fun _ a b => ⟨.f_AX_FB_STATUS_WRAPPED, h, n, rfl, a, b⟩⟩
theorem ws_f_AX_FB_STATUS_Z_SEEN {W : Nat} {n : Nat} (h : W.testBit 257 = true) : WrF W (F.AX_FB_STATUS_Z_SEEN n) :=
  ⟨fun _ a b => ⟨.f_AX_FB_STATUS_Z_SEEN, h, n, rfl, a, b⟩⟩
theorem ws_f_AX_PWM_CFG_ADAPT_EN {W : Nat} {n : Nat} (h : W.testBit 258 = true) : WrF W (F.AX_PWM_CFG_ADAPT_EN n) :=
  ⟨fun _ a b => ⟨.f_AX_PWM_CFG_ADAPT_EN, h, n, rfl, a, b⟩⟩
theorem ws_f_AX_PWM_CFG_CNT_MODE {W : Nat} {n : Nat} (h : W.testBit 259 = true) : WrF W (F.AX_PWM_CFG_CNT_MODE n) :=
  ⟨fun _ a b => ⟨.f_AX_PWM_CFG_CNT_MODE, h, n, rfl, a, b⟩⟩
theorem ws_f_AX_PWM_CFG_DL_GROUP {W : Nat} {n : Nat} (h : W.testBit 260 = true) : WrF W (F.AX_PWM_CFG_DL_GROUP n) :=
  ⟨fun _ a b => ⟨.f_AX_PWM_CFG_DL_GROUP, h, n, rfl, a, b⟩⟩
theorem ws_f_AX_PWM_CFG_LOAD {W : Nat} {n : Nat} (h : W.testBit 261 = true) : WrF W (F.AX_PWM_CFG_LOAD n) :=
  ⟨fun _ a b => ⟨.f_AX_PWM_CFG_LOAD, h, n, rfl, a, b⟩⟩
theorem ws_f_AX_PWM_CTL_ARM {W : Nat} {n : Nat} (h : W.testBit 262 = true) : WrF W (F.AX_PWM_CTL_ARM n) :=
  ⟨fun _ a b => ⟨.f_AX_PWM_CTL_ARM, h, n, rfl, a, b⟩⟩
theorem ws_f_AX_PWM_CTL_MODE_SEL {W : Nat} {n : Nat} (h : W.testBit 263 = true) : WrF W (F.AX_PWM_CTL_MODE_SEL n) :=
  ⟨fun _ a b => ⟨.f_AX_PWM_CTL_MODE_SEL, h, n, rfl, a, b⟩⟩
theorem ws_f_AX_PWM_CTL_OUT_EN {W : Nat} {n : Nat} (h : W.testBit 264 = true) : WrF W (F.AX_PWM_CTL_OUT_EN n) :=
  ⟨fun _ a b => ⟨.f_AX_PWM_CTL_OUT_EN, h, n, rfl, a, b⟩⟩
theorem ws_f_AX_PWM_DT_CFG_DT_MAX {W : Nat} {n : Nat} (h : W.testBit 265 = true) : WrF W (F.AX_PWM_DT_CFG_DT_MAX n) :=
  ⟨fun _ a b => ⟨.f_AX_PWM_DT_CFG_DT_MAX, h, n, rfl, a, b⟩⟩
theorem ws_f_AX_PWM_DT_CFG_DT_MIN {W : Nat} {n : Nat} (h : W.testBit 266 = true) : WrF W (F.AX_PWM_DT_CFG_DT_MIN n) :=
  ⟨fun _ a b => ⟨.f_AX_PWM_DT_CFG_DT_MIN, h, n, rfl, a, b⟩⟩
theorem ws_f_AX_PWM_DT_GUARD_GUARD {W : Nat} {n : Nat} (h : W.testBit 267 = true) : WrF W (F.AX_PWM_DT_GUARD_GUARD n) :=
  ⟨fun _ a b => ⟨.f_AX_PWM_DT_GUARD_GUARD, h, n, rfl, a, b⟩⟩
theorem ws_f_AX_PWM_MASK_MASK {W : Nat} {n m : Nat} (h : W.testBit 268 = true) : WrF W (F.AX_PWM_MASK_MASK n m) :=
  ⟨fun _ a b => ⟨.f_AX_PWM_MASK_MASK, h, n, m, rfl, a, b⟩⟩
theorem ws_f_AX_PWM_PERIOD_PERIOD {W : Nat} {n : Nat} (h : W.testBit 269 = true) : WrF W (F.AX_PWM_PERIOD_PERIOD n) :=
  ⟨fun _ a b => ⟨.f_AX_PWM_PERIOD_PERIOD, h, n, rfl, a, b⟩⟩
theorem ws_f_AX_PWM_PHASE_PHI {W : Nat} {n : Nat} (h : W.testBit 270 = true) : WrF W (F.AX_PWM_PHASE_PHI n) :=
  ⟨fun _ a b => ⟨.f_AX_PWM_PHASE_PHI, h, n, rfl, a, b⟩⟩
theorem ws_f_AX_PWM_SHADOW_SKIPPED {W : Nat} {n : Nat} (h : W.testBit 271 = true) : WrF W (F.AX_PWM_SHADOW_SKIPPED n) :=
  ⟨fun _ a b => ⟨.f_AX_PWM_SHADOW_SKIPPED, h, n, rfl, a, b⟩⟩
theorem ws_f_AX_PWM_STATUS_ALIGN_DONE {W : Nat} {n : Nat} (h : W.testBit 272 = true) : WrF W (F.AX_PWM_STATUS_ALIGN_DONE n) :=
  ⟨fun _ a b => ⟨.f_AX_PWM_STATUS_ALIGN_DONE, h, n, rfl, a, b⟩⟩
theorem ws_f_AX_PWM_STATUS_ALIGN_SLEW {W : Nat} {n : Nat} (h : W.testBit 273 = true) : WrF W (F.AX_PWM_STATUS_ALIGN_SLEW n) :=
  ⟨fun _ a b => ⟨.f_AX_PWM_STATUS_ALIGN_SLEW, h, n, rfl, a, b⟩⟩
theorem ws_f_AX_PWM_STATUS_CFG_REFUSED {W : Nat} {n : Nat} (h : W.testBit 274 = true) : WrF W (F.AX_PWM_STATUS_CFG_REFUSED n) :=
  ⟨fun _ a b => ⟨.f_AX_PWM_STATUS_CFG_REFUSED, h, n, rfl, a, b⟩⟩
theorem ws_f_AX_PWM_STATUS_COMM_IGNORED {W : Nat} {n : Nat} (h : W.testBit 275 = true) : WrF W (F.AX_PWM_STATUS_COMM_IGNORED n) :=
  ⟨fun _ a b => ⟨.f_AX_PWM_STATUS_COMM_IGNORED, h, n, rfl, a, b⟩⟩
theorem ws_f_AX_PWM_STATUS_DT_FALLBACK {W : Nat} {n : Nat} (h : W.testBit 276 = true) : WrF W (F.AX_PWM_STATUS_DT_FALLBACK n) :=
  ⟨fun _ a b => ⟨.f_AX_PWM_STATUS_DT_FALLBACK, h, n, rfl, a, b⟩⟩
theorem ws_f_AX_PWM_STATUS_FAULT {W : Nat} {n : Nat} (h : W.testBit 277 = true) : WrF W (F.AX_PWM_STATUS_FAULT n) :=
  ⟨fun _ a b => ⟨.f_AX_PWM_STATUS_FAULT, h, n, rfl, a, b⟩⟩
theorem ws_f_AX_PWM_STATUS_FXG_OFF {W : Nat} {n : Nat} (h : W.testBit 278 = true) : WrF W (F.AX_PWM_STATUS_FXG_OFF n) :=
  ⟨fun _ a b => ⟨.f_AX_PWM_STATUS_FXG_OFF, h, n, rfl, a, b⟩⟩
theorem ws_f_AX_PWM_STATUS_HALL_INVALID {W : Nat} {n : Nat} (h : W.testBit 279 = true) : WrF W (F.AX_PWM_STATUS_HALL_INVALID n) :=
  ⟨fun _ a b => ⟨.f_AX_PWM_STATUS_HALL_INVALID, h, n, rfl, a, b⟩⟩
theorem ws_f_AX_PWM_STATUS_LAUNCH_OFF {W : Nat} {n : Nat} (h : W.testBit 280 = true) : WrF W (F.AX_PWM_STATUS_LAUNCH_OFF n) :=
  ⟨fun _ a b => ⟨.f_AX_PWM_STATUS_LAUNCH_OFF, h, n, rfl, a, b⟩⟩
theorem ws_f_AX_PWM_STATUS_MASK_IDX {W : Nat} {n : Nat} (h : W.testBit 281 = true) : WrF W (F.AX_PWM_STATUS_MASK_IDX n) :=
  ⟨fun _ a b => ⟨.f_AX_PWM_STATUS_MASK_IDX, h, n, rfl, a, b⟩⟩
theorem ws_f_AX_PWM_STATUS_OUT_ACTIVE {W : Nat} {n : Nat} (h : W.testBit 282 = true) : WrF W (F.AX_PWM_STATUS_OUT_ACTIVE n) :=
  ⟨fun _ a b => ⟨.f_AX_PWM_STATUS_OUT_ACTIVE, h, n, rfl, a, b⟩⟩
theorem ws_f_AX_PWM_STATUS_PERIOD_IGNORED {W : Nat} {n : Nat} (h : W.testBit 283 = true) : WrF W (F.AX_PWM_STATUS_PERIOD_IGNORED n) :=
  ⟨fun _ a b => ⟨.f_AX_PWM_STATUS_PERIOD_IGNORED, h, n, rfl, a, b⟩⟩
theorem ws_f_AX_PWM_STATUS_PERIOD_RANGE {W : Nat} {n : Nat} (h : W.testBit 284 = true) : WrF W (F.AX_PWM_STATUS_PERIOD_RANGE n) :=
  ⟨fun _ a b => ⟨.f_AX_PWM_STATUS_PERIOD_RANGE, h, n, rfl, a, b⟩⟩
theorem ws_f_AX_PWM_STATUS_STATE {W : Nat} {n : Nat} (h : W.testBit 285 = true) : WrF W (F.AX_PWM_STATUS_STATE n) :=
  ⟨fun _ a b => ⟨.f_AX_PWM_STATUS_STATE, h, n, rfl, a, b⟩⟩
theorem ws_f_AX_PWM_STATUS_STO_GATED {W : Nat} {n : Nat} (h : W.testBit 286 = true) : WrF W (F.AX_PWM_STATUS_STO_GATED n) :=
  ⟨fun _ a b => ⟨.f_AX_PWM_STATUS_STO_GATED, h, n, rfl, a, b⟩⟩
theorem ws_f_AX_TLM_AUX_AUX {W : Nat} {n : Nat} (h : W.testBit 287 = true) : WrF W (F.AX_TLM_AUX_AUX n) :=
  ⟨fun _ a b => ⟨.f_AX_TLM_AUX_AUX, h, n, rfl, a, b⟩⟩
theorem ws_f_AX_TLM_CFG_EN {W : Nat} {n : Nat} (h : W.testBit 288 = true) : WrF W (F.AX_TLM_CFG_EN n) :=
  ⟨fun _ a b => ⟨.f_AX_TLM_CFG_EN, h, n, rfl, a, b⟩⟩
theorem ws_f_AX_TLM_CFG_GD_FAULT_MASK {W : Nat} {n : Nat} (h : W.testBit 289 = true) : WrF W (F.AX_TLM_CFG_GD_FAULT_MASK n) :=
  ⟨fun _ a b => ⟨.f_AX_TLM_CFG_GD_FAULT_MASK, h, n, rfl, a, b⟩⟩
theorem ws_f_AX_TLM_COUNT_CRC_FAIL {W : Nat} {n : Nat} (h : W.testBit 290 = true) : WrF W (F.AX_TLM_COUNT_CRC_FAIL n) :=
  ⟨fun _ a b => ⟨.f_AX_TLM_COUNT_CRC_FAIL, h, n, rfl, a, b⟩⟩
theorem ws_f_AX_TLM_COUNT_LOSS {W : Nat} {n : Nat} (h : W.testBit 291 = true) : WrF W (F.AX_TLM_COUNT_LOSS n) :=
  ⟨fun _ a b => ⟨.f_AX_TLM_COUNT_LOSS, h, n, rfl, a, b⟩⟩
theorem ws_f_AX_TLM_GD_VDC_GD {W : Nat} {n : Nat} (h : W.testBit 292 = true) : WrF W (F.AX_TLM_GD_VDC_GD n) :=
  ⟨fun _ a b => ⟨.f_AX_TLM_GD_VDC_GD, h, n, rfl, a, b⟩⟩
theorem ws_f_AX_TLM_GD_VDC_VDC {W : Nat} {n : Nat} (h : W.testBit 293 = true) : WrF W (F.AX_TLM_GD_VDC_VDC n) :=
  ⟨fun _ a b => ⟨.f_AX_TLM_GD_VDC_VDC, h, n, rfl, a, b⟩⟩
theorem ws_f_AX_TLM_STATUS_CRC_ERR {W : Nat} {n : Nat} (h : W.testBit 294 = true) : WrF W (F.AX_TLM_STATUS_CRC_ERR n) :=
  ⟨fun _ a b => ⟨.f_AX_TLM_STATUS_CRC_ERR, h, n, rfl, a, b⟩⟩
theorem ws_f_AX_TLM_STATUS_GD_FAULT {W : Nat} {n : Nat} (h : W.testBit 295 = true) : WrF W (F.AX_TLM_STATUS_GD_FAULT n) :=
  ⟨fun _ a b => ⟨.f_AX_TLM_STATUS_GD_FAULT, h, n, rfl, a, b⟩⟩
theorem ws_f_AX_TLM_STATUS_LOST {W : Nat} {n : Nat} (h : W.testBit 296 = true) : WrF W (F.AX_TLM_STATUS_LOST n) :=
  ⟨fun _ a b => ⟨.f_AX_TLM_STATUS_LOST, h, n, rfl, a, b⟩⟩
theorem ws_f_AX_TLM_STATUS_OFFSET {W : Nat} {n : Nat} (h : W.testBit 297 = true) : WrF W (F.AX_TLM_STATUS_OFFSET n) :=
  ⟨fun _ a b => ⟨.f_AX_TLM_STATUS_OFFSET, h, n, rfl, a, b⟩⟩
theorem ws_f_AX_TLM_STATUS_SEQ {W : Nat} {n : Nat} (h : W.testBit 298 = true) : WrF W (F.AX_TLM_STATUS_SEQ n) :=
  ⟨fun _ a b => ⟨.f_AX_TLM_STATUS_SEQ, h, n, rfl, a, b⟩⟩
theorem ws_f_AX_TLM_STATUS_SEQ_GAP {W : Nat} {n : Nat} (h : W.testBit 299 = true) : WrF W (F.AX_TLM_STATUS_SEQ_GAP n) :=
  ⟨fun _ a b => ⟨.f_AX_TLM_STATUS_SEQ_GAP, h, n, rfl, a, b⟩⟩
theorem ws_f_AX_TLM_STATUS_STALE {W : Nat} {n : Nat} (h : W.testBit 300 = true) : WrF W (F.AX_TLM_STATUS_STALE n) :=
  ⟨fun _ a b => ⟨.f_AX_TLM_STATUS_STALE, h, n, rfl, a, b⟩⟩
theorem ws_f_AX_TLM_STATUS_STATE {W : Nat} {n : Nat} (h : W.testBit 301 = true) : WrF W (F.AX_TLM_STATUS_STATE n) :=
  ⟨fun _ a b => ⟨.f_AX_TLM_STATUS_STATE, h, n, rfl, a, b⟩⟩
theorem ws_f_AX_TLM_TEMP_UV_TEMP_U {W : Nat} {n : Nat} (h : W.testBit 302 = true) : WrF W (F.AX_TLM_TEMP_UV_TEMP_U n) :=
  ⟨fun _ a b => ⟨.f_AX_TLM_TEMP_UV_TEMP_U, h, n, rfl, a, b⟩⟩
theorem ws_f_AX_TLM_TEMP_UV_TEMP_V {W : Nat} {n : Nat} (h : W.testBit 303 = true) : WrF W (F.AX_TLM_TEMP_UV_TEMP_V n) :=
  ⟨fun _ a b => ⟨.f_AX_TLM_TEMP_UV_TEMP_V, h, n, rfl, a, b⟩⟩
theorem ws_f_AX_TLM_TEMP_W_TEMP_W {W : Nat} {n : Nat} (h : W.testBit 304 = true) : WrF W (F.AX_TLM_TEMP_W_TEMP_W n) :=
  ⟨fun _ a b => ⟨.f_AX_TLM_TEMP_W_TEMP_W, h, n, rfl, a, b⟩⟩
theorem ws_f_CAN_COUNT_LOST {W : Nat} {n : Nat} (h : W.testBit 305 = true) : WrF W (F.CAN_COUNT_LOST n) :=
  ⟨fun _ a b => ⟨.f_CAN_COUNT_LOST, h, n, rfl, a, b⟩⟩
theorem ws_f_CAN_COUNT_TOO_LONG {W : Nat} {n : Nat} (h : W.testBit 306 = true) : WrF W (F.CAN_COUNT_TOO_LONG n) :=
  ⟨fun _ a b => ⟨.f_CAN_COUNT_TOO_LONG, h, n, rfl, a, b⟩⟩
theorem ws_f_CAN_CTL_AUTO_RECOVER {W : Nat} {n : Nat} (h : W.testBit 307 = true) : WrF W (F.CAN_CTL_AUTO_RECOVER n) :=
  ⟨fun _ a b => ⟨.f_CAN_CTL_AUTO_RECOVER, h, n, rfl, a, b⟩⟩
theorem ws_f_CAN_CTL_FD_EN {W : Nat} {n : Nat} (h : W.testBit 308 = true) : WrF W (F.CAN_CTL_FD_EN n) :=
  ⟨fun _ a b => ⟨.f_CAN_CTL_FD_EN, h, n, rfl, a, b⟩⟩
theorem ws_f_CAN_CTL_INIT {W : Nat} {n : Nat} (h : W.testBit 309 = true) : WrF W (F.CAN_CTL_INIT n) :=
  ⟨fun _ a b => ⟨.f_CAN_CTL_INIT, h, n, rfl, a, b⟩⟩
theorem ws_f_CAN_CTL_LOOP {W : Nat} {n : Nat} (h : W.testBit 310 = true) : WrF W (F.CAN_CTL_LOOP n) :=
  ⟨fun _ a b => ⟨.f_CAN_CTL_LOOP, h, n, rfl, a, b⟩⟩
theorem ws_f_CAN_CTL_RETRY {W : Nat} {n : Nat} (h : W.testBit 311 = true) : WrF W (F.CAN_CTL_RETRY n) :=
  ⟨fun _ a b => ⟨.f_CAN_CTL_RETRY, h, n, rfl, a, b⟩⟩
theorem ws_f_CAN_CTL_TT_EN {W : Nat} {n : Nat} (h : W.testBit 312 = true) : WrF W (F.CAN_CTL_TT_EN n) :=
  ⟨fun _ a b => ⟨.f_CAN_CTL_TT_EN, h, n, rfl, a, b⟩⟩
theorem ws_f_CAN_ERRCNT_LEC {W : Nat} {n : Nat} (h : W.testBit 313 = true) : WrF W (F.CAN_ERRCNT_LEC n) :=
  ⟨fun _ a b => ⟨.f_CAN_ERRCNT_LEC, h, n, rfl, a, b⟩⟩
theorem ws_f_CAN_ERRCNT_REC {W : Nat} {n : Nat} (h : W.testBit 314 = true) : WrF W (F.CAN_ERRCNT_REC n) :=
  ⟨fun _ a b => ⟨.f_CAN_ERRCNT_REC, h, n, rfl, a, b⟩⟩
theorem ws_f_CAN_ERRCNT_RP {W : Nat} {n : Nat} (h : W.testBit 315 = true) : WrF W (F.CAN_ERRCNT_RP n) :=
  ⟨fun _ a b => ⟨.f_CAN_ERRCNT_RP, h, n, rfl, a, b⟩⟩
theorem ws_f_CAN_ERRCNT_TEC {W : Nat} {n : Nat} (h : W.testBit 316 = true) : WrF W (F.CAN_ERRCNT_TEC n) :=
  ⟨fun _ a b => ⟨.f_CAN_ERRCNT_TEC, h, n, rfl, a, b⟩⟩
theorem ws_f_CAN_RXQ_STATUS_GET {W : Nat} {n m : Nat} (h : W.testBit 317 = true) : WrF W (F.CAN_RXQ_STATUS_GET n m) :=
  ⟨fun _ a b => ⟨.f_CAN_RXQ_STATUS_GET, h, n, m, rfl, a, b⟩⟩
theorem ws_f_CAN_RXQ_STATUS_LEVEL {W : Nat} {n m : Nat} (h : W.testBit 318 = true) : WrF W (F.CAN_RXQ_STATUS_LEVEL n m) :=
  ⟨fun _ a b => ⟨.f_CAN_RXQ_STATUS_LEVEL, h, n, m, rfl, a, b⟩⟩
theorem ws_f_CAN_RXQ_STATUS_LOCKED {W : Nat} {n m : Nat} (h : W.testBit 319 = true) : WrF W (F.CAN_RXQ_STATUS_LOCKED n m) :=
  ⟨fun _ a b => ⟨.f_CAN_RXQ_STATUS_LOCKED, h, n, m, rfl, a, b⟩⟩
theorem ws_f_CAN_RXQ_STATUS_LOCK_IDX {W : Nat} {n m : Nat} (h : W.testBit 320 = true) : WrF W (F.CAN_RXQ_STATUS_LOCK_IDX n m) :=
  ⟨fun _ a b => ⟨.f_CAN_RXQ_STATUS_LOCK_IDX, h, n, m, rfl, a, b⟩⟩
theorem ws_f_CAN_RXQ_STATUS_PUT {W : Nat} {n m : Nat} (h : W.testBit 321 = true) : WrF W (F.CAN_RXQ_STATUS_PUT n m) :=
  ⟨fun _ a b => ⟨.f_CAN_RXQ_STATUS_PUT, h, n, m, rfl, a, b⟩⟩
theorem ws_f_CAN_STATUS_BUS_OFF_SEEN {W : Nat} {n : Nat} (h : W.testBit 322 = true) : WrF W (F.CAN_STATUS_BUS_OFF_SEEN n) :=
  ⟨fun _ a b => ⟨.f_CAN_STATUS_BUS_OFF_SEEN, h, n, rfl, a, b⟩⟩
theorem ws_f_CAN_STATUS_CFG_REFUSED {W : Nat} {n : Nat} (h : W.testBit 323 = true) : WrF W (F.CAN_STATUS_CFG_REFUSED n) :=
  ⟨fun _ a b => ⟨.f_CAN_STATUS_CFG_REFUSED, h, n, rfl, a, b⟩⟩
theorem ws_f_CAN_STATUS_FAULT {W : Nat} {n : Nat} (h : W.testBit 324 = true) : WrF W (F.CAN_STATUS_FAULT n) :=
  ⟨fun _ a b => ⟨.f_CAN_STATUS_FAULT, h, n, rfl, a, b⟩⟩
theorem ws_f_CAN_STATUS_LAUNCH_MERGED {W : Nat} {n : Nat} (h : W.testBit 325 = true) : WrF W (F.CAN_STATUS_LAUNCH_MERGED n) :=
  ⟨fun _ a b => ⟨.f_CAN_STATUS_LAUNCH_MERGED, h, n, rfl, a, b⟩⟩
theorem ws_f_CAN_STATUS_LOCK_TMO_SEEN {W : Nat} {n : Nat} (h : W.testBit 326 = true) : WrF W (F.CAN_STATUS_LOCK_TMO_SEEN n) :=
  ⟨fun _ a b => ⟨.f_CAN_STATUS_LOCK_TMO_SEEN, h, n, rfl, a, b⟩⟩
theorem ws_f_CAN_STATUS_STATE {W : Nat} {n : Nat} (h : W.testBit 327 = true) : WrF W (F.CAN_STATUS_STATE n) :=
  ⟨fun _ a b => ⟨.f_CAN_STATUS_STATE, h, n, rfl, a, b⟩⟩
theorem ws_f_CAN_STATUS_TRIPLE_IGNORED {W : Nat} {n : Nat} (h : W.testBit 328 = true) : WrF W (F.CAN_STATUS_TRIPLE_IGNORED n) :=
  ⟨fun _ a b => ⟨.f_CAN_STATUS_TRIPLE_IGNORED, h, n, rfl, a, b⟩⟩
theorem ws_f_CAN_TT_STATUS_CYCLE_CNT {W : Nat} {n : Nat} (h : W.testBit 329 = true) : WrF W (F.CAN_TT_STATUS_CYCLE_CNT n) :=
  ⟨fun _ a b => ⟨.f_CAN_TT_STATUS_CYCLE_CNT, h, n, rfl, a, b⟩⟩
theorem ws_f_CAN_TT_STATUS_MISSED {W : Nat} {n : Nat} (h : W.testBit 330 = true) : WrF W (F.CAN_TT_STATUS_MISSED n) :=
  ⟨fun _ a b => ⟨.f_CAN_TT_STATUS_MISSED, h, n, rfl, a, b⟩⟩
theorem ws_f_CAN_TT_STATUS_RUNNING {W : Nat} {n : Nat} (h : W.testBit 331 = true) : WrF W (F.CAN_TT_STATUS_RUNNING n) :=
  ⟨fun _ a b => ⟨.f_CAN_TT_STATUS_RUNNING, h, n, rfl, a, b⟩⟩
theorem ws_f_CAN_TT_STATUS_TT_ERR {W : Nat} {n : Nat} (h : W.testBit 332 = true) : WrF W (F.CAN_TT_STATUS_TT_ERR n) :=
  ⟨fun _ a b => ⟨.f_CAN_TT_STATUS_TT_ERR, h, n, rfl, a, b⟩⟩
theorem ws_f_CAN_TT_STATUS_WINDOW {W : Nat} {n : Nat} (h : W.testBit 333 = true) : WrF W (F.CAN_TT_STATUS_WINDOW n) :=
  ⟨fun _ a b => ⟨.f_CAN_TT_STATUS_WINDOW, h, n, rfl, a, b⟩⟩
theorem ws_f_CAP_STATUS_CFG_REFUSED {W : Nat} {n : Nat} (h : W.testBit 334 = true) : WrF W (F.CAP_STATUS_CFG_REFUSED n) :=
  ⟨fun _ a b => ⟨.f_CAP_STATUS_CFG_REFUSED, h, n, rfl, a, b⟩⟩
theorem ws_f_CAP_STATUS_ENV_ERR {W : Nat} {n : Nat} (h : W.testBit 335 = true) : WrF W (F.CAP_STATUS_ENV_ERR n) :=
  ⟨fun _ a b => ⟨.f_CAP_STATUS_ENV_ERR, h, n, rfl, a, b⟩⟩
theorem ws_f_CAP_STATUS_ENV_STATE {W : Nat} {n : Nat} (h : W.testBit 336 = true) : WrF W (F.CAP_STATUS_ENV_STATE n) :=
  ⟨fun _ a b => ⟨.f_CAP_STATUS_ENV_STATE, h, n, rfl, a, b⟩⟩
theorem ws_f_CAP_STATUS_FAULT {W : Nat} {n : Nat} (h : W.testBit 337 = true) : WrF W (F.CAP_STATUS_FAULT n) :=
  ⟨fun _ a b => ⟨.f_CAP_STATUS_FAULT, h, n, rfl, a, b⟩⟩
theorem ws_f_CAP_STATUS_VIOLATED {W : Nat} {n : Nat} (h : W.testBit 338 = true) : WrF W (F.CAP_STATUS_VIOLATED n) :=
  ⟨fun _ a b => ⟨.f_CAP_STATUS_VIOLATED, h, n, rfl, a, b⟩⟩
theorem ws_f_CLK_DOM_SEL_SRC {W : Nat} (h : W.testBit 339 = true) : WrF W F.CLK_DOM_SEL_SRC :=
  ⟨fun _ a b => ⟨.f_CLK_DOM_SEL_SRC, h, rfl, a, b⟩⟩
theorem ws_f_CLK_REF_LOG_CAUSE {W : Nat} (h : W.testBit 340 = true) : WrF W F.CLK_REF_LOG_CAUSE :=
  ⟨fun _ a b => ⟨.f_CLK_REF_LOG_CAUSE, h, rfl, a, b⟩⟩
theorem ws_f_CLK_REF_LOG_DURATION {W : Nat} (h : W.testBit 341 = true) : WrF W F.CLK_REF_LOG_DURATION :=
  ⟨fun _ a b => ⟨.f_CLK_REF_LOG_DURATION, h, rfl, a, b⟩⟩
theorem ws_f_CLK_REF_LOG_NEW {W : Nat} (h : W.testBit 342 = true) : WrF W F.CLK_REF_LOG_NEW :=
  ⟨fun _ a b => ⟨.f_CLK_REF_LOG_NEW, h, rfl, a, b⟩⟩
theorem ws_f_CLK_REF_LOG_OLD {W : Nat} (h : W.testBit 343 = true) : WrF W F.CLK_REF_LOG_OLD :=
  ⟨fun _ a b => ⟨.f_CLK_REF_LOG_OLD, h, rfl, a, b⟩⟩
theorem ws_f_CLK_REF_LOG_TIMED_OUT {W : Nat} (h : W.testBit 344 = true) : WrF W F.CLK_REF_LOG_TIMED_OUT :=
  ⟨fun _ a b => ⟨.f_CLK_REF_LOG_TIMED_OUT, h, rfl, a, b⟩⟩
theorem ws_f_CLK_STATUS_BETTER_PENDING {W : Nat} (h : W.testBit 345 = true) : WrF W F.CLK_STATUS_BETTER_PENDING :=
  ⟨fun _ a b => ⟨.f_CLK_STATUS_BETTER_PENDING, h, rfl, a, b⟩⟩
theorem ws_f_CLK_STATUS_CMD_REFUSED {W : Nat} (h : W.testBit 346 = true) : WrF W F.CLK_STATUS_CMD_REFUSED :=
  ⟨fun _ a b => ⟨.f_CLK_STATUS_CMD_REFUSED, h, rfl, a, b⟩⟩
theorem ws_f_CLK_STATUS_DEGRADED {W : Nat} (h : W.testBit 347 = true) : WrF W F.CLK_STATUS_DEGRADED :=
  ⟨fun _ a b => ⟨.f_CLK_STATUS_DEGRADED, h, rfl, a, b⟩⟩
theorem ws_f_CLK_STATUS_HOLDOFF {W : Nat} (h : W.testBit 348 = true) : WrF W F.CLK_STATUS_HOLDOFF :=
  ⟨fun _ a b => ⟨.f_CLK_STATUS_HOLDOFF, h, rfl, a, b⟩⟩
theorem ws_f_CLK_STATUS_MG_READY {W : Nat} (h : W.testBit 349 = true) : WrF W F.CLK_STATUS_MG_READY :=
  ⟨fun _ a b => ⟨.f_CLK_STATUS_MG_READY, h, rfl, a, b⟩⟩
theorem ws_f_CLK_STATUS_PLL_READY {W : Nat} (h : W.testBit 350 = true) : WrF W F.CLK_STATUS_PLL_READY :=
  ⟨fun _ a b => ⟨.f_CLK_STATUS_PLL_READY, h, rfl, a, b⟩⟩
theorem ws_f_CLK_STATUS_REF_IN_USE {W : Nat} (h : W.testBit 351 = true) : WrF W F.CLK_STATUS_REF_IN_USE :=
  ⟨fun _ a b => ⟨.f_CLK_STATUS_REF_IN_USE, h, rfl, a, b⟩⟩
theorem ws_f_CLK_STATUS_REF_READY {W : Nat} (h : W.testBit 352 = true) : WrF W F.CLK_STATUS_REF_READY :=
  ⟨fun _ a b => ⟨.f_CLK_STATUS_REF_READY, h, rfl, a, b⟩⟩
theorem ws_f_CLK_STATUS_SD_TRIMMED {W : Nat} (h : W.testBit 353 = true) : WrF W F.CLK_STATUS_SD_TRIMMED :=
  ⟨fun _ a b => ⟨.f_CLK_STATUS_SD_TRIMMED, h, rfl, a, b⟩⟩
theorem ws_f_CLK_STATUS_SWITCHING {W : Nat} (h : W.testBit 354 = true) : WrF W F.CLK_STATUS_SWITCHING :=
  ⟨fun _ a b => ⟨.f_CLK_STATUS_SWITCHING, h, rfl, a, b⟩⟩
theorem ws_f_CLK_STATUS_SWITCH_REFUSED {W : Nat} (h : W.testBit 355 = true) : WrF W F.CLK_STATUS_SWITCH_REFUSED :=
  ⟨fun _ a b => ⟨.f_CLK_STATUS_SWITCH_REFUSED, h, rfl, a, b⟩⟩
theorem ws_f_CLK_STATUS_TRIP_SEEN {W : Nat} (h : W.testBit 356 = true) : WrF W F.CLK_STATUS_TRIP_SEEN :=
  ⟨fun _ a b => ⟨.f_CLK_STATUS_TRIP_SEEN, h, rfl, a, b⟩⟩
theorem ws_f_CLK_TRIM_MG_TRIM {W : Nat} (h : W.testBit 357 = true) : WrF W F.CLK_TRIM_MG_TRIM :=
  ⟨fun _ a b => ⟨.f_CLK_TRIM_MG_TRIM, h, rfl, a, b⟩⟩
theorem ws_f_CLK_TRIM_SD_TRIM {W : Nat} (h : W.testBit 358 = true) : WrF W F.CLK_TRIM_SD_TRIM :=
  ⟨fun _ a b => ⟨.f_CLK_TRIM_SD_TRIM, h, rfl, a, b⟩⟩
theorem ws_f_CS_COUNT_EXTRA_TRIG {W : Nat} {n : Nat} (h : W.testBit 359 = true) : WrF W (F.CS_COUNT_EXTRA_TRIG n) :=
  ⟨fun _ a b => ⟨.f_CS_COUNT_EXTRA_TRIG, h, n, rfl, a, b⟩⟩
theorem ws_f_CS_COUNT_SKIPPED {W : Nat} {n : Nat} (h : W.testBit 360 = true) : WrF W (F.CS_COUNT_SKIPPED n) :=
  ⟨fun _ a b => ⟨.f_CS_COUNT_SKIPPED, h, n, rfl, a, b⟩⟩
theorem ws_f_CS_STATUS_ARM_ERR {W : Nat} {n : Nat} (h : W.testBit 361 = true) : WrF W (F.CS_STATUS_ARM_ERR n) :=
  ⟨fun _ a b => ⟨.f_CS_STATUS_ARM_ERR, h, n, rfl, a, b⟩⟩
theorem ws_f_CS_STATUS_CFG_REFUSED {W : Nat} {n : Nat} (h : W.testBit 362 = true) : WrF W (F.CS_STATUS_CFG_REFUSED n) :=
  ⟨fun _ a b => ⟨.f_CS_STATUS_CFG_REFUSED, h, n, rfl, a, b⟩⟩
theorem ws_f_CS_STATUS_CLIPPED {W : Nat} {n : Nat} (h : W.testBit 363 = true) : WrF W (F.CS_STATUS_CLIPPED n) :=
  ⟨fun _ a b => ⟨.f_CS_STATUS_CLIPPED, h, n, rfl, a, b⟩⟩
theorem ws_f_CS_STATUS_GAP {W : Nat} {n : Nat} (h : W.testBit 364 = true) : WrF W (F.CS_STATUS_GAP n) :=
  ⟨fun _ a b => ⟨.f_CS_STATUS_GAP, h, n, rfl, a, b⟩⟩
theorem ws_f_CS_STATUS_MASK_STOP {W : Nat} {n : Nat} (h : W.testBit 365 = true) : WrF W (F.CS_STATUS_MASK_STOP n) :=
  ⟨fun _ a b => ⟨.f_CS_STATUS_MASK_STOP, h, n, rfl, a, b⟩⟩
theorem ws_f_CS_STATUS_STATE {W : Nat} {n : Nat} (h : W.testBit 366 = true) : WrF W (F.CS_STATUS_STATE n) :=
  ⟨fun _ a b => ⟨.f_CS_STATUS_STATE, h, n, rfl, a, b⟩⟩
theorem ws_f_CS_STATUS_STOPPED {W : Nat} {n : Nat} (h : W.testBit 367 = true) : WrF W (F.CS_STATUS_STOPPED n) :=
  ⟨fun _ a b => ⟨.f_CS_STATUS_STOPPED, h, n, rfl, a, b⟩⟩
theorem ws_f_CS_STATUS_UNLOADED {W : Nat} {n : Nat} (h : W.testBit 368 = true) : WrF W (F.CS_STATUS_UNLOADED n) :=
  ⟨fun _ a b => ⟨.f_CS_STATUS_UNLOADED, h, n, rfl, a, b⟩⟩
theorem ws_f_CS_STATUS_UNLOAD_ERR {W : Nat} {n : Nat} (h : W.testBit 369 = true) : WrF W (F.CS_STATUS_UNLOAD_ERR n) :=
  ⟨fun _ a b => ⟨.f_CS_STATUS_UNLOAD_ERR, h, n, rfl, a, b⟩⟩
theorem ws_f_CS_TRIG_HITS {W : Nat} {n : Nat} (h : W.testBit 370 = true) : WrF W (F.CS_TRIG_HITS n) :=
  ⟨fun _ a b => ⟨.f_CS_TRIG_HITS, h, n, rfl, a, b⟩⟩
theorem ws_f_CS_TRIG_PRIMARY {W : Nat} {n : Nat} (h : W.testBit 371 = true) : WrF W (F.CS_TRIG_PRIMARY n) :=
  ⟨fun _ a b => ⟨.f_CS_TRIG_PRIMARY, h, n, rfl, a, b⟩⟩
theorem ws_f_DMA_STATUS_BUSY {W : Nat} {n : Nat} (h : W.testBit 372 = true) : WrF W (F.DMA_STATUS_BUSY n) :=
  ⟨fun _ a b => ⟨.f_DMA_STATUS_BUSY, h, n, rfl, a, b⟩⟩
theorem ws_f_DMA_STATUS_CFG_REFUSED {W : Nat} {n : Nat} (h : W.testBit 373 = true) : WrF W (F.DMA_STATUS_CFG_REFUSED n) :=
  ⟨fun _ a b => ⟨.f_DMA_STATUS_CFG_REFUSED, h, n, rfl, a, b⟩⟩
theorem ws_f_DMA_STATUS_DONE {W : Nat} {n : Nat} (h : W.testBit 374 = true) : WrF W (F.DMA_STATUS_DONE n) :=
  ⟨fun _ a b => ⟨.f_DMA_STATUS_DONE, h, n, rfl, a, b⟩⟩
theorem ws_f_DMA_STATUS_ERR_DIR {W : Nat} {n : Nat} (h : W.testBit 375 = true) : WrF W (F.DMA_STATUS_ERR_DIR n) :=
  ⟨fun _ a b => ⟨.f_DMA_STATUS_ERR_DIR, h, n, rfl, a, b⟩⟩
theorem ws_f_DMA_STATUS_HALTED {W : Nat} {n : Nat} (h : W.testBit 376 = true) : WrF W (F.DMA_STATUS_HALTED n) :=
  ⟨fun _ a b => ⟨.f_DMA_STATUS_HALTED, h, n, rfl, a, b⟩⟩
theorem ws_f_DMA_STATUS_REASON {W : Nat} {n : Nat} (h : W.testBit 377 = true) : WrF W (F.DMA_STATUS_REASON n) :=
  ⟨fun _ a b => ⟨.f_DMA_STATUS_REASON, h, n, rfl, a, b⟩⟩
theorem ws_f_ETH_COUNT_A_HI {W : Nat} {n : Nat} (h : W.testBit 378 = true) : WrF W (F.ETH_COUNT_A_HI n) :=
  ⟨fun _ a b => ⟨.f_ETH_COUNT_A_HI, h, n, rfl, a, b⟩⟩
theorem ws_f_ETH_COUNT_A_LO {W : Nat} {n : Nat} (h : W.testBit 379 = true) : WrF W (F.ETH_COUNT_A_LO n) :=
  ⟨fun _ a b => ⟨.f_ETH_COUNT_A_LO, h, n, rfl, a, b⟩⟩
theorem ws_f_ETH_COUNT_B_HI {W : Nat} {n : Nat} (h : W.testBit 380 = true) : WrF W (F.ETH_COUNT_B_HI n) :=
  ⟨fun _ a b => ⟨.f_ETH_COUNT_B_HI, h, n, rfl, a, b⟩⟩
theorem ws_f_ETH_COUNT_B_LO {W : Nat} {n : Nat} (h : W.testBit 381 = true) : WrF W (F.ETH_COUNT_B_LO n) :=
  ⟨fun _ a b => ⟨.f_ETH_COUNT_B_LO, h, n, rfl, a, b⟩⟩
theorem ws_f_ETH_MDIO_BUSY {W : Nat} (h : W.testBit 382 = true) : WrF W F.ETH_MDIO_BUSY :=
  ⟨fun _ a b => ⟨.f_ETH_MDIO_BUSY, h, rfl, a, b⟩⟩
theorem ws_f_ETH_MDIO_DATA {W : Nat} (h : W.testBit 383 = true) : WrF W F.ETH_MDIO_DATA :=
  ⟨fun _ a b => ⟨.f_ETH_MDIO_DATA, h, rfl, a, b⟩⟩
theorem ws_f_ETH_SLOT_STATUS_DELAY {W : Nat} {n m : Nat} (h : W.testBit 384 = true) : WrF W (F.ETH_SLOT_STATUS_DELAY n m) :=
  ⟨fun _ a b => ⟨.f_ETH_SLOT_STATUS_DELAY, h, n, m, rfl, a, b⟩⟩
theorem ws_f_ETH_SLOT_STATUS_LATE {W : Nat} {n m : Nat} (h : W.testBit 385 = true) : WrF W (F.ETH_SLOT_STATUS_LATE n m) :=
  ⟨fun _ a b => ⟨.f_ETH_SLOT_STATUS_LATE, h, n, m, rfl, a, b⟩⟩
theorem ws_f_ETH_SLOT_STATUS_LINK_DOWN_DROP {W : Nat} {n m : Nat} (h : W.testBit 386 = true) : WrF W (F.ETH_SLOT_STATUS_LINK_DOWN_DROP n m) :=
  ⟨fun _ a b => ⟨.f_ETH_SLOT_STATUS_LINK_DOWN_DROP, h, n, m, rfl, a, b⟩⟩
theorem ws_f_ETH_STATUS_CFG_REFUSED {W : Nat} {n : Nat} (h : W.testBit 387 = true) : WrF W (F.ETH_STATUS_CFG_REFUSED n) :=
  ⟨fun _ a b => ⟨.f_ETH_STATUS_CFG_REFUSED, h, n, rfl, a, b⟩⟩
theorem ws_f_ETH_STATUS_FAULT {W : Nat} {n : Nat} (h : W.testBit 388 = true) : WrF W (F.ETH_STATUS_FAULT n) :=
  ⟨fun _ a b => ⟨.f_ETH_STATUS_FAULT, h, n, rfl, a, b⟩⟩
theorem ws_f_ETH_STATUS_LAUNCH_OVF {W : Nat} {n : Nat} (h : W.testBit 389 = true) : WrF W (F.ETH_STATUS_LAUNCH_OVF n) :=
  ⟨fun _ a b => ⟨.f_ETH_STATUS_LAUNCH_OVF, h, n, rfl, a, b⟩⟩
theorem ws_f_ETH_STATUS_LINK {W : Nat} {n : Nat} (h : W.testBit 390 = true) : WrF W (F.ETH_STATUS_LINK n) :=
  ⟨fun _ a b => ⟨.f_ETH_STATUS_LINK, h, n, rfl, a, b⟩⟩
theorem ws_f_ETH_STATUS_RATE {W : Nat} {n : Nat} (h : W.testBit 391 = true) : WrF W (F.ETH_STATUS_RATE n) :=
  ⟨fun _ a b => ⟨.f_ETH_STATUS_RATE, h, n, rfl, a, b⟩⟩
theorem ws_f_ETH_STATUS_VERIFY {W : Nat} {n : Nat} (h : W.testBit 392 = true) : WrF W (F.ETH_STATUS_VERIFY n) :=
  ⟨fun _ a b => ⟨.f_ETH_STATUS_VERIFY, h, n, rfl, a, b⟩⟩
theorem ws_f_ETH_SW_CFG_AGE {W : Nat} (h : W.testBit 393 = true) : WrF W F.ETH_SW_CFG_AGE :=
  ⟨fun _ a b => ⟨.f_ETH_SW_CFG_AGE, h, rfl, a, b⟩⟩
theorem ws_f_EVT_LT_CTL_LT_REFUSED {W : Nat} {n : Nat} (h : W.testBit 394 = true) : WrF W (F.EVT_LT_CTL_LT_REFUSED n) :=
  ⟨fun _ a b => ⟨.f_EVT_LT_CTL_LT_REFUSED, h, n, rfl, a, b⟩⟩
theorem ws_f_EVT_OD_CFG_COAL_LEVEL {W : Nat} {n : Nat} (h : W.testBit 395 = true) : WrF W (F.EVT_OD_CFG_COAL_LEVEL n) :=
  ⟨fun _ a b => ⟨.f_EVT_OD_CFG_COAL_LEVEL, h, n, rfl, a, b⟩⟩
theorem ws_f_EVT_OD_COUNT_COALESCED {W : Nat} {n : Nat} (h : W.testBit 396 = true) : WrF W (F.EVT_OD_COUNT_COALESCED n) :=
  ⟨fun _ a b => ⟨.f_EVT_OD_COUNT_COALESCED, h, n, rfl, a, b⟩⟩
theorem ws_f_EVT_OD_COUNT_LOST {W : Nat} {n : Nat} (h : W.testBit 397 = true) : WrF W (F.EVT_OD_COUNT_LOST n) :=
  ⟨fun _ a b => ⟨.f_EVT_OD_COUNT_LOST, h, n, rfl, a, b⟩⟩
theorem ws_f_EVT_OD_STATUS_LEVEL {W : Nat} {n : Nat} (h : W.testBit 398 = true) : WrF W (F.EVT_OD_STATUS_LEVEL n) :=
  ⟨fun _ a b => ⟨.f_EVT_OD_STATUS_LEVEL, h, n, rfl, a, b⟩⟩
theorem ws_f_EVT_OD_STATUS_MERGING {W : Nat} {n : Nat} (h : W.testBit 399 = true) : WrF W (F.EVT_OD_STATUS_MERGING n) :=
  ⟨fun _ a b => ⟨.f_EVT_OD_STATUS_MERGING, h, n, rfl, a, b⟩⟩
theorem ws_f_EVT_OD_STATUS_OVERFLOW {W : Nat} {n : Nat} (h : W.testBit 400 = true) : WrF W (F.EVT_OD_STATUS_OVERFLOW n) :=
  ⟨fun _ a b => ⟨.f_EVT_OD_STATUS_OVERFLOW, h, n, rfl, a, b⟩⟩
theorem ws_f_EVT_PWF_INFO_INITIATOR {W : Nat} {n : Nat} (h : W.testBit 401 = true) : WrF W (F.EVT_PWF_INFO_INITIATOR n) :=
  ⟨fun _ a b => ⟨.f_EVT_PWF_INFO_INITIATOR, h, n, rfl, a, b⟩⟩
theorem ws_f_EVT_PWF_INFO_REASON {W : Nat} {n : Nat} (h : W.testBit 402 = true) : WrF W (F.EVT_PWF_INFO_REASON n) :=
  ⟨fun _ a b => ⟨.f_EVT_PWF_INFO_REASON, h, n, rfl, a, b⟩⟩
theorem ws_f_EVT_PWF_STATUS_COUNT {W : Nat} (h : W.testBit 403 = true) : WrF W F.EVT_PWF_STATUS_COUNT :=
  ⟨fun _ a b => ⟨.f_EVT_PWF_STATUS_COUNT, h, rfl, a, b⟩⟩
theorem ws_f_EVT_PWF_STATUS_NEWEST {W : Nat} (h : W.testBit 404 = true) : WrF W F.EVT_PWF_STATUS_NEWEST :=
  ⟨fun _ a b => ⟨.f_EVT_PWF_STATUS_NEWEST, h, rfl, a, b⟩⟩
theorem ws_f_FIO_CH_STATUS_CHANGES {W : Nat} {n : Nat} (h : W.testBit 405 = true) : WrF W (F.FIO_CH_STATUS_CHANGES n) :=
  ⟨fun _ a b => ⟨.f_FIO_CH_STATUS_CHANGES, h, n, rfl, a, b⟩⟩
theorem ws_f_FIO_CH_STATUS_CNT {W : Nat} {n : Nat} (h : W.testBit 406 = true) : WrF W (F.FIO_CH_STATUS_CNT n) :=
  ⟨fun _ a b => ⟨.f_FIO_CH_STATUS_CNT, h, n, rfl, a, b⟩⟩
theorem ws_f_FIO_CH_STATUS_FAULT {W : Nat} {n : Nat} (h : W.testBit 407 = true) : WrF W (F.FIO_CH_STATUS_FAULT n) :=
  ⟨fun _ a b => ⟨.f_FIO_CH_STATUS_FAULT, h, n, rfl, a, b⟩⟩
theorem ws_f_FIO_CH_STATUS_LAUNCH_OFF {W : Nat} {n : Nat} (h : W.testBit 408 = true) : WrF W (F.FIO_CH_STATUS_LAUNCH_OFF n) :=
  ⟨fun _ a b => ⟨.f_FIO_CH_STATUS_LAUNCH_OFF, h, n, rfl, a, b⟩⟩
theorem ws_f_FIO_CH_STATUS_LEVEL {W : Nat} {n : Nat} (h : W.testBit 409 = true) : WrF W (F.FIO_CH_STATUS_LEVEL n) :=
  ⟨fun _ a b => ⟨.f_FIO_CH_STATUS_LEVEL, h, n, rfl, a, b⟩⟩
theorem ws_f_FIO_CH_STATUS_REASON {W : Nat} {n : Nat} (h : W.testBit 410 = true) : WrF W (F.FIO_CH_STATUS_REASON n) :=
  ⟨fun _ a b => ⟨.f_FIO_CH_STATUS_REASON, h, n, rfl, a, b⟩⟩
theorem ws_f_FIO_CH_STATUS_VALID {W : Nat} {n : Nat} (h : W.testBit 411 = true) : WrF W (F.FIO_CH_STATUS_VALID n) :=
  ⟨fun _ a b => ⟨.f_FIO_CH_STATUS_VALID, h, n, rfl, a, b⟩⟩
theorem ws_f_FIO_CH_STATUS_WB {W : Nat} {n : Nat} (h : W.testBit 412 = true) : WrF W (F.FIO_CH_STATUS_WB n) :=
  ⟨fun _ a b => ⟨.f_FIO_CH_STATUS_WB, h, n, rfl, a, b⟩⟩
theorem ws_f_FIO_CH_STATUS_WB_SEEN {W : Nat} {n : Nat} (h : W.testBit 413 = true) : WrF W (F.FIO_CH_STATUS_WB_SEEN n) :=
  ⟨fun _ a b => ⟨.f_FIO_CH_STATUS_WB_SEEN, h, n, rfl, a, b⟩⟩
theorem ws_f_FIO_SAFE_LEVEL_SI {W : Nat} (h : W.testBit 414 = true) : WrF W F.FIO_SAFE_LEVEL_SI :=
  ⟨fun _ a b => ⟨.f_FIO_SAFE_LEVEL_SI, h, rfl, a, b⟩⟩
theorem ws_f_FIO_SAFE_LEVEL_SRESET {W : Nat} (h : W.testBit 415 = true) : WrF W F.FIO_SAFE_LEVEL_SRESET :=
  ⟨fun _ a b => ⟨.f_FIO_SAFE_LEVEL_SRESET, h, rfl, a, b⟩⟩
theorem ws_f_FIO_STATUS_BRIDGE_OK {W : Nat} (h : W.testBit 416 = true) : WrF W F.FIO_STATUS_BRIDGE_OK :=
  ⟨fun _ a b => ⟨.f_FIO_STATUS_BRIDGE_OK, h, rfl, a, b⟩⟩
theorem ws_f_FIO_STATUS_CFG_REFUSED {W : Nat} (h : W.testBit 417 = true) : WrF W F.FIO_STATUS_CFG_REFUSED :=
  ⟨fun _ a b => ⟨.f_FIO_STATUS_CFG_REFUSED, h, rfl, a, b⟩⟩
theorem ws_f_FIO_STATUS_VF_LOW {W : Nat} (h : W.testBit 418 = true) : WrF W F.FIO_STATUS_VF_LOW :=
  ⟨fun _ a b => ⟨.f_FIO_STATUS_VF_LOW, h, rfl, a, b⟩⟩
theorem ws_f_FIO_STATUS_VF_LOW_SEEN {W : Nat} (h : W.testBit 419 = true) : WrF W F.FIO_STATUS_VF_LOW_SEEN :=
  ⟨fun _ a b => ⟨.f_FIO_STATUS_VF_LOW_SEEN, h, rfl, a, b⟩⟩
theorem ws_f_FXG_AX_STATUS_CAUSE {W : Nat} {n : Nat} (h : W.testBit 420 = true) : WrF W (F.FXG_AX_STATUS_CAUSE n) :=
  ⟨fun _ a b => ⟨.f_FXG_AX_STATUS_CAUSE, h, n, rfl, a, b⟩⟩
theorem ws_f_FXG_AX_STATUS_HOLD {W : Nat} {n : Nat} (h : W.testBit 421 = true) : WrF W (F.FXG_AX_STATUS_HOLD n) :=
  ⟨fun _ a b => ⟨.f_FXG_AX_STATUS_HOLD, h, n, rfl, a, b⟩⟩
theorem ws_f_FXG_AX_STATUS_TRIPS {W : Nat} {n : Nat} (h : W.testBit 422 = true) : WrF W (F.FXG_AX_STATUS_TRIPS n) :=
  ⟨fun _ a b => ⟨.f_FXG_AX_STATUS_TRIPS, h, n, rfl, a, b⟩⟩
theorem ws_f_FXG_DL_STATUS_CHECKED {W : Nat} {n : Nat} (h : W.testBit 423 = true) : WrF W (F.FXG_DL_STATUS_CHECKED n) :=
  ⟨fun _ a b => ⟨.f_FXG_DL_STATUS_CHECKED, h, n, rfl, a, b⟩⟩
theorem ws_f_FXG_DL_STATUS_V {W : Nat} {n : Nat} (h : W.testBit 424 = true) : WrF W (F.FXG_DL_STATUS_V n) :=
  ⟨fun _ a b => ⟨.f_FXG_DL_STATUS_V, h, n, rfl, a, b⟩⟩
theorem ws_f_GLB_BCH_CTL_MAX_DUTY {W : Nat} {n : Nat} (h : W.testBit 425 = true) : WrF W (F.GLB_BCH_CTL_MAX_DUTY n) :=
  ⟨fun _ a b => ⟨.f_GLB_BCH_CTL_MAX_DUTY, h, n, rfl, a, b⟩⟩
theorem ws_f_GLB_BCH_STATUS_LIMIT {W : Nat} {n : Nat} (h : W.testBit 426 = true) : WrF W (F.GLB_BCH_STATUS_LIMIT n) :=
  ⟨fun _ a b => ⟨.f_GLB_BCH_STATUS_LIMIT, h, n, rfl, a, b⟩⟩
theorem ws_f_GLB_BCH_STATUS_LIMIT_SEEN {W : Nat} {n : Nat} (h : W.testBit 427 = true) : WrF W (F.GLB_BCH_STATUS_LIMIT_SEEN n) :=
  ⟨fun _ a b => ⟨.f_GLB_BCH_STATUS_LIMIT_SEEN, h, n, rfl, a, b⟩⟩
theorem ws_f_GLB_BCH_STATUS_ON {W : Nat} {n : Nat} (h : W.testBit 428 = true) : WrF W (F.GLB_BCH_STATUS_ON n) :=
  ⟨fun _ a b => ⟨.f_GLB_BCH_STATUS_ON, h, n, rfl, a, b⟩⟩
theorem ws_f_GLB_BCH_STATUS_ON_TIME {W : Nat} {n : Nat} (h : W.testBit 429 = true) : WrF W (F.GLB_BCH_STATUS_ON_TIME n) :=
  ⟨fun _ a b => ⟨.f_GLB_BCH_STATUS_ON_TIME, h, n, rfl, a, b⟩⟩
theorem ws_f_GLB_CHIP_FAULT_CAUSE {W : Nat} (h : W.testBit 430 = true) : WrF W F.GLB_CHIP_FAULT_CAUSE :=
  ⟨fun _ a b => ⟨.f_GLB_CHIP_FAULT_CAUSE, h, rfl, a, b⟩⟩
theorem ws_f_GLB_CHIP_FAULT_REGION {W : Nat} (h : W.testBit 431 = true) : WrF W F.GLB_CHIP_FAULT_REGION :=
  ⟨fun _ a b => ⟨.f_GLB_CHIP_FAULT_REGION, h, rfl, a, b⟩⟩
theorem ws_f_GLB_CHIP_FAULT_TIME_HI {W : Nat} (h : W.testBit 432 = true) : WrF W F.GLB_CHIP_FAULT_TIME_HI :=
  ⟨fun _ a b => ⟨.f_GLB_CHIP_FAULT_TIME_HI, h, rfl, a, b⟩⟩
theorem ws_f_GLB_DL_CFG_DLY {W : Nat} {n : Nat} (h : W.testBit 433 = true) : WrF W (F.GLB_DL_CFG_DLY n) :=
  ⟨fun _ a b => ⟨.f_GLB_DL_CFG_DLY, h, n, rfl, a, b⟩⟩
theorem ws_f_GLB_DL_CFG_EN {W : Nat} {n : Nat} (h : W.testBit 434 = true) : WrF W (F.GLB_DL_CFG_EN n) :=
  ⟨fun _ a b => ⟨.f_GLB_DL_CFG_EN, h, n, rfl, a, b⟩⟩
theorem ws_f_GLB_DL_CFG_STUCK_LIM {W : Nat} {n : Nat} (h : W.testBit 435 = true) : WrF W (F.GLB_DL_CFG_STUCK_LIM n) :=
  ⟨fun _ a b => ⟨.f_GLB_DL_CFG_STUCK_LIM, h, n, rfl, a, b⟩⟩
theorem ws_f_GLB_DL_FREE_Q {W : Nat} {n : Nat} (h : W.testBit 436 = true) : WrF W (F.GLB_DL_FREE_Q n) :=
  ⟨fun _ a b => ⟨.f_GLB_DL_FREE_Q, h, n, rfl, a, b⟩⟩
theorem ws_f_GLB_DL_SAMPLE_Q {W : Nat} {n : Nat} (h : W.testBit 437 = true) : WrF W (F.GLB_DL_SAMPLE_Q n) :=
  ⟨fun _ a b => ⟨.f_GLB_DL_SAMPLE_Q, h, n, rfl, a, b⟩⟩
theorem ws_f_GLB_DL_STATUS_OVERLAP {W : Nat} {n : Nat} (h : W.testBit 438 = true) : WrF W (F.GLB_DL_STATUS_OVERLAP n) :=
  ⟨fun _ a b => ⟨.f_GLB_DL_STATUS_OVERLAP, h, n, rfl, a, b⟩⟩
theorem ws_f_GLB_DL_STATUS_SAT {W : Nat} {n : Nat} (h : W.testBit 439 = true) : WrF W (F.GLB_DL_STATUS_SAT n) :=
  ⟨fun _ a b => ⟨.f_GLB_DL_STATUS_SAT, h, n, rfl, a, b⟩⟩
theorem ws_f_GLB_DL_STATUS_STUCK {W : Nat} {n : Nat} (h : W.testBit 440 = true) : WrF W (F.GLB_DL_STATUS_STUCK n) :=
  ⟨fun _ a b => ⟨.f_GLB_DL_STATUS_STUCK, h, n, rfl, a, b⟩⟩
theorem ws_f_GLB_DL_STATUS_VALID {W : Nat} {n : Nat} (h : W.testBit 441 = true) : WrF W (F.GLB_DL_STATUS_VALID n) :=
  ⟨fun _ a b => ⟨.f_GLB_DL_STATUS_VALID, h, n, rfl, a, b⟩⟩
theorem ws_f_GLB_PRB_CFG_ARM {W : Nat} {n : Nat} (h : W.testBit 442 = true) : WrF W (F.GLB_PRB_CFG_ARM n) :=
  ⟨fun _ a b => ⟨.f_GLB_PRB_CFG_ARM, h, n, rfl, a, b⟩⟩
theorem ws_f_GLB_PRB_FLAGS_EDGE {W : Nat} {n : Nat} (h : W.testBit 443 = true) : WrF W (F.GLB_PRB_FLAGS_EDGE n) :=
  ⟨fun _ a b => ⟨.f_GLB_PRB_FLAGS_EDGE, h, n, rfl, a, b⟩⟩
theorem ws_f_GLB_PRB_FLAGS_EXTRAP {W : Nat} {n : Nat} (h : W.testBit 444 = true) : WrF W (F.GLB_PRB_FLAGS_EXTRAP n) :=
  ⟨fun _ a b => ⟨.f_GLB_PRB_FLAGS_EXTRAP, h, n, rfl, a, b⟩⟩
theorem ws_f_GLB_PRB_FLAGS_POS_VALID {W : Nat} {n : Nat} (h : W.testBit 445 = true) : WrF W (F.GLB_PRB_FLAGS_POS_VALID n) :=
  ⟨fun _ a b => ⟨.f_GLB_PRB_FLAGS_POS_VALID, h, n, rfl, a, b⟩⟩
theorem ws_f_GLB_PRB_STATUS_CFG_REFUSED {W : Nat} {n : Nat} (h : W.testBit 446 = true) : WrF W (F.GLB_PRB_STATUS_CFG_REFUSED n) :=
  ⟨fun _ a b => ⟨.f_GLB_PRB_STATUS_CFG_REFUSED, h, n, rfl, a, b⟩⟩
theorem ws_f_GLB_PRB_STATUS_INPUT {W : Nat} {n : Nat} (h : W.testBit 447 = true) : WrF W (F.GLB_PRB_STATUS_INPUT n) :=
  ⟨fun _ a b => ⟨.f_GLB_PRB_STATUS_INPUT, h, n, rfl, a, b⟩⟩
theorem ws_f_GLB_PRB_STATUS_LEVEL {W : Nat} {n : Nat} (h : W.testBit 448 = true) : WrF W (F.GLB_PRB_STATUS_LEVEL n) :=
  ⟨fun _ a b => ⟨.f_GLB_PRB_STATUS_LEVEL, h, n, rfl, a, b⟩⟩
theorem ws_f_GLB_PRB_STATUS_OVERFLOW {W : Nat} {n : Nat} (h : W.testBit 449 = true) : WrF W (F.GLB_PRB_STATUS_OVERFLOW n) :=
  ⟨fun _ a b => ⟨.f_GLB_PRB_STATUS_OVERFLOW, h, n, rfl, a, b⟩⟩
theorem ws_f_GLB_READY_FW_VERIFIED {W : Nat} (h : W.testBit 450 = true) : WrF W F.GLB_READY_FW_VERIFIED :=
  ⟨fun _ a b => ⟨.f_GLB_READY_FW_VERIFIED, h, rfl, a, b⟩⟩
theorem ws_f_GLB_READY_HOST_READY {W : Nat} (h : W.testBit 451 = true) : WrF W F.GLB_READY_HOST_READY :=
  ⟨fun _ a b => ⟨.f_GLB_READY_HOST_READY, h, rfl, a, b⟩⟩
theorem ws_f_GLB_READY_MEM_READY {W : Nat} (h : W.testBit 452 = true) : WrF W F.GLB_READY_MEM_READY :=
  ⟨fun _ a b => ⟨.f_GLB_READY_MEM_READY, h, rfl, a, b⟩⟩
theorem ws_f_GLB_READY_MOTION_READY {W : Nat} (h : W.testBit 453 = true) : WrF W F.GLB_READY_MOTION_READY :=
  ⟨fun _ a b => ⟨.f_GLB_READY_MOTION_READY, h, rfl, a, b⟩⟩
theorem ws_f_GLB_READY_PSET_LOADED {W : Nat} (h : W.testBit 454 = true) : WrF W F.GLB_READY_PSET_LOADED :=
  ⟨fun _ a b => ⟨.f_GLB_READY_PSET_LOADED, h, rfl, a, b⟩⟩
theorem ws_f_GLB_READY_READY_MS {W : Nat} (h : W.testBit 455 = true) : WrF W F.GLB_READY_READY_MS :=
  ⟨fun _ a b => ⟨.f_GLB_READY_READY_MS, h, rfl, a, b⟩⟩
theorem ws_f_GLB_REGION_STATE_CLUSTER_FAULT_SEEN {W : Nat} (h : W.testBit 456 = true) : WrF W F.GLB_REGION_STATE_CLUSTER_FAULT_SEEN :=
  ⟨fun _ a b => ⟨.f_GLB_REGION_STATE_CLUSTER_FAULT_SEEN, h, rfl, a, b⟩⟩
theorem ws_f_GLB_REGION_STATE_ISOLATED {W : Nat} (h : W.testBit 457 = true) : WrF W F.GLB_REGION_STATE_ISOLATED :=
  ⟨fun _ a b => ⟨.f_GLB_REGION_STATE_ISOLATED, h, rfl, a, b⟩⟩
theorem ws_f_GLB_REGION_STATE_REGION_FAULT {W : Nat} (h : W.testBit 458 = true) : WrF W F.GLB_REGION_STATE_REGION_FAULT :=
  ⟨fun _ a b => ⟨.f_GLB_REGION_STATE_REGION_FAULT, h, rfl, a, b⟩⟩
theorem ws_f_GLB_SDCLK_CFG_FREQ {W : Nat} (h : W.testBit 459 = true) : WrF W F.GLB_SDCLK_CFG_FREQ :=
  ⟨fun _ a b => ⟨.f_GLB_SDCLK_CFG_FREQ, h, rfl, a, b⟩⟩
theorem ws_f_HIF_LINK_L1 {W : Nat} (h : W.testBit 460 = true) : WrF W F.HIF_LINK_L1 :=
  ⟨fun _ a b => ⟨.f_HIF_LINK_L1, h, rfl, a, b⟩⟩
theorem ws_f_HIF_LINK_SPEED {W : Nat} (h : W.testBit 461 = true) : WrF W F.HIF_LINK_SPEED :=
  ⟨fun _ a b => ⟨.f_HIF_LINK_SPEED, h, rfl, a, b⟩⟩
theorem ws_f_HIF_LINK_WIDTH {W : Nat} (h : W.testBit 462 = true) : WrF W F.HIF_LINK_WIDTH :=
  ⟨fun _ a b => ⟨.f_HIF_LINK_WIDTH, h, rfl, a, b⟩⟩
theorem ws_f_HIF_OD_LOST_CPL_COUNT {W : Nat} {n : Nat} (h : W.testBit 463 = true) : WrF W (F.HIF_OD_LOST_CPL_COUNT n) :=
  ⟨fun _ a b => ⟨.f_HIF_OD_LOST_CPL_COUNT, h, n, rfl, a, b⟩⟩
theorem ws_f_HIF_OD_SQ_STATUS_HEAD {W : Nat} {n m : Nat} (h : W.testBit 464 = true) : WrF W (F.HIF_OD_SQ_STATUS_HEAD n m) :=
  ⟨fun _ a b => ⟨.f_HIF_OD_SQ_STATUS_HEAD, h, n, m, rfl, a, b⟩⟩
theorem ws_f_HIF_OD_SQ_STATUS_RUNNING {W : Nat} {n m : Nat} (h : W.testBit 465 = true) : WrF W (F.HIF_OD_SQ_STATUS_RUNNING n m) :=
  ⟨fun _ a b => ⟨.f_HIF_OD_SQ_STATUS_RUNNING, h, n, m, rfl, a, b⟩⟩
theorem ws_f_HIF_OD_SQ_STATUS_TAIL_ERR {W : Nat} {n m : Nat} (h : W.testBit 466 = true) : WrF W (F.HIF_OD_SQ_STATUS_TAIL_ERR n m) :=
  ⟨fun _ a b => ⟨.f_HIF_OD_SQ_STATUS_TAIL_ERR, h, n, m, rfl, a, b⟩⟩
theorem ws_f_HIF_OD_STATUS_BROKEN {W : Nat} {n : Nat} (h : W.testBit 467 = true) : WrF W (F.HIF_OD_STATUS_BROKEN n) :=
  ⟨fun _ a b => ⟨.f_HIF_OD_STATUS_BROKEN, h, n, rfl, a, b⟩⟩
theorem ws_f_HIF_OD_STATUS_CFG_REFUSED {W : Nat} {n : Nat} (h : W.testBit 468 = true) : WrF W (F.HIF_OD_STATUS_CFG_REFUSED n) :=
  ⟨fun _ a b => ⟨.f_HIF_OD_STATUS_CFG_REFUSED, h, n, rfl, a, b⟩⟩
theorem ws_f_HIF_OD_STATUS_EVQ_BROKEN {W : Nat} {n : Nat} (h : W.testBit 469 = true) : WrF W (F.HIF_OD_STATUS_EVQ_BROKEN n) :=
  ⟨fun _ a b => ⟨.f_HIF_OD_STATUS_EVQ_BROKEN, h, n, rfl, a, b⟩⟩
theorem ws_f_HIF_OD_STATUS_FLR_BUSY {W : Nat} {n : Nat} (h : W.testBit 470 = true) : WrF W (F.HIF_OD_STATUS_FLR_BUSY n) :=
  ⟨fun _ a b => ⟨.f_HIF_OD_STATUS_FLR_BUSY, h, n, rfl, a, b⟩⟩
theorem ws_f_LQ_CANCEL_CNT_COUNT {W : Nat} {n : Nat} (h : W.testBit 471 = true) : WrF W (F.LQ_CANCEL_CNT_COUNT n) :=
  ⟨fun _ a b => ⟨.f_LQ_CANCEL_CNT_COUNT, h, n, rfl, a, b⟩⟩
theorem ws_f_LQ_LAST_LATE_CODE {W : Nat} {n : Nat} (h : W.testBit 472 = true) : WrF W (F.LQ_LAST_LATE_CODE n) :=
  ⟨fun _ a b => ⟨.f_LQ_LAST_LATE_CODE, h, n, rfl, a, b⟩⟩
theorem ws_f_LQ_LAST_LATE_TAG {W : Nat} {n : Nat} (h : W.testBit 473 = true) : WrF W (F.LQ_LAST_LATE_TAG n) :=
  ⟨fun _ a b => ⟨.f_LQ_LAST_LATE_TAG, h, n, rfl, a, b⟩⟩
theorem ws_f_LQ_LATE_CNT_DISCARDED {W : Nat} {n : Nat} (h : W.testBit 474 = true) : WrF W (F.LQ_LATE_CNT_DISCARDED n) :=
  ⟨fun _ a b => ⟨.f_LQ_LATE_CNT_DISCARDED, h, n, rfl, a, b⟩⟩
theorem ws_f_LQ_LATE_CNT_LATE {W : Nat} {n : Nat} (h : W.testBit 475 = true) : WrF W (F.LQ_LATE_CNT_LATE n) :=
  ⟨fun _ a b => ⟨.f_LQ_LATE_CNT_LATE, h, n, rfl, a, b⟩⟩
theorem ws_f_LQ_STATUS_CODE_ERR {W : Nat} {n : Nat} (h : W.testBit 476 = true) : WrF W (F.LQ_STATUS_CODE_ERR n) :=
  ⟨fun _ a b => ⟨.f_LQ_STATUS_CODE_ERR, h, n, rfl, a, b⟩⟩
theorem ws_f_LQ_STATUS_COUNT {W : Nat} {n : Nat} (h : W.testBit 477 = true) : WrF W (F.LQ_STATUS_COUNT n) :=
  ⟨fun _ a b => ⟨.f_LQ_STATUS_COUNT, h, n, rfl, a, b⟩⟩
theorem ws_f_LQ_STATUS_DISCARDED {W : Nat} {n : Nat} (h : W.testBit 478 = true) : WrF W (F.LQ_STATUS_DISCARDED n) :=
  ⟨fun _ a b => ⟨.f_LQ_STATUS_DISCARDED, h, n, rfl, a, b⟩⟩
theorem ws_f_LQ_STATUS_LATE {W : Nat} {n : Nat} (h : W.testBit 479 = true) : WrF W (F.LQ_STATUS_LATE n) :=
  ⟨fun _ a b => ⟨.f_LQ_STATUS_LATE, h, n, rfl, a, b⟩⟩
theorem ws_f_LQ_STATUS_ORDER_ERR {W : Nat} {n : Nat} (h : W.testBit 480 = true) : WrF W (F.LQ_STATUS_ORDER_ERR n) :=
  ⟨fun _ a b => ⟨.f_LQ_STATUS_ORDER_ERR, h, n, rfl, a, b⟩⟩
theorem ws_f_LQ_STATUS_OVERFLOW {W : Nat} {n : Nat} (h : W.testBit 481 = true) : WrF W (F.LQ_STATUS_OVERFLOW n) :=
  ⟨fun _ a b => ⟨.f_LQ_STATUS_OVERFLOW, h, n, rfl, a, b⟩⟩
theorem ws_f_LQ_STATUS_PARITY {W : Nat} {n : Nat} (h : W.testBit 482 = true) : WrF W (F.LQ_STATUS_PARITY n) :=
  ⟨fun _ a b => ⟨.f_LQ_STATUS_PARITY, h, n, rfl, a, b⟩⟩
theorem ws_f_LQ_STATUS_TARGET_REFUSED {W : Nat} {n : Nat} (h : W.testBit 483 = true) : WrF W (F.LQ_STATUS_TARGET_REFUSED n) :=
  ⟨fun _ a b => ⟨.f_LQ_STATUS_TARGET_REFUSED, h, n, rfl, a, b⟩⟩
theorem ws_f_LSH_CAM_STATUS_ERR {W : Nat} {n : Nat} (h : W.testBit 484 = true) : WrF W (F.LSH_CAM_STATUS_ERR n) :=
  ⟨fun _ a b => ⟨.f_LSH_CAM_STATUS_ERR, h, n, rfl, a, b⟩⟩
theorem ws_f_LSH_CAM_STATUS_STATE {W : Nat} {n : Nat} (h : W.testBit 485 = true) : WrF W (F.LSH_CAM_STATUS_STATE n) :=
  ⟨fun _ a b => ⟨.f_LSH_CAM_STATUS_STATE, h, n, rfl, a, b⟩⟩
theorem ws_f_LSH_CSW_STATUS_CANCELLED {W : Nat} {n : Nat} (h : W.testBit 486 = true) : WrF W (F.LSH_CSW_STATUS_CANCELLED n) :=
  ⟨fun _ a b => ⟨.f_LSH_CSW_STATUS_CANCELLED, h, n, rfl, a, b⟩⟩
theorem ws_f_LSH_CSW_STATUS_REVERSED {W : Nat} {n : Nat} (h : W.testBit 487 = true) : WrF W (F.LSH_CSW_STATUS_REVERSED n) :=
  ⟨fun _ a b => ⟨.f_LSH_CSW_STATUS_REVERSED, h, n, rfl, a, b⟩⟩
theorem ws_f_LSH_CSW_STATUS_STATE {W : Nat} {n : Nat} (h : W.testBit 488 = true) : WrF W (F.LSH_CSW_STATUS_STATE n) :=
  ⟨fun _ a b => ⟨.f_LSH_CSW_STATUS_STATE, h, n, rfl, a, b⟩⟩
theorem ws_f_LSH_FOL_CFG_TABLE {W : Nat} {n : Nat} (h : W.testBit 489 = true) : WrF W (F.LSH_FOL_CFG_TABLE n) :=
  ⟨fun _ a b => ⟨.f_LSH_FOL_CFG_TABLE, h, n, rfl, a, b⟩⟩
theorem ws_f_LSH_FOL_STATUS_CAM_MISMATCH {W : Nat} {n : Nat} (h : W.testBit 490 = true) : WrF W (F.LSH_FOL_STATUS_CAM_MISMATCH n) :=
  ⟨fun _ a b => ⟨.f_LSH_FOL_STATUS_CAM_MISMATCH, h, n, rfl, a, b⟩⟩
theorem ws_f_LSH_FOL_STATUS_CAM_SWITCHED {W : Nat} {n : Nat} (h : W.testBit 491 = true) : WrF W (F.LSH_FOL_STATUS_CAM_SWITCHED n) :=
  ⟨fun _ a b => ⟨.f_LSH_FOL_STATUS_CAM_SWITCHED, h, n, rfl, a, b⟩⟩
theorem ws_f_LSH_FOL_STATUS_CMD_REFUSED {W : Nat} {n : Nat} (h : W.testBit 492 = true) : WrF W (F.LSH_FOL_STATUS_CMD_REFUSED n) :=
  ⟨fun _ a b => ⟨.f_LSH_FOL_STATUS_CMD_REFUSED, h, n, rfl, a, b⟩⟩
theorem ws_f_LSH_FOL_STATUS_PH_MOVING {W : Nat} {n : Nat} (h : W.testBit 493 = true) : WrF W (F.LSH_FOL_STATUS_PH_MOVING n) :=
  ⟨fun _ a b => ⟨.f_LSH_FOL_STATUS_PH_MOVING, h, n, rfl, a, b⟩⟩
theorem ws_f_LSH_FOL_STATUS_STATE {W : Nat} {n : Nat} (h : W.testBit 494 = true) : WrF W (F.LSH_FOL_STATUS_STATE n) :=
  ⟨fun _ a b => ⟨.f_LSH_FOL_STATUS_STATE, h, n, rfl, a, b⟩⟩
theorem ws_f_LSH_JOIN_STATUS_COMPLETE {W : Nat} (h : W.testBit 495 = true) : WrF W F.LSH_JOIN_STATUS_COMPLETE :=
  ⟨fun _ a b => ⟨.f_LSH_JOIN_STATUS_COMPLETE, h, rfl, a, b⟩⟩
theorem ws_f_LSH_JOIN_STATUS_CYCLE_MISMATCH {W : Nat} (h : W.testBit 496 = true) : WrF W F.LSH_JOIN_STATUS_CYCLE_MISMATCH :=
  ⟨fun _ a b => ⟨.f_LSH_JOIN_STATUS_CYCLE_MISMATCH, h, rfl, a, b⟩⟩
theorem ws_f_LSH_JOIN_STATUS_DUPLICATE {W : Nat} (h : W.testBit 497 = true) : WrF W F.LSH_JOIN_STATUS_DUPLICATE :=
  ⟨fun _ a b => ⟨.f_LSH_JOIN_STATUS_DUPLICATE, h, rfl, a, b⟩⟩
theorem ws_f_LSH_JOIN_STATUS_JOINING {W : Nat} (h : W.testBit 498 = true) : WrF W F.LSH_JOIN_STATUS_JOINING :=
  ⟨fun _ a b => ⟨.f_LSH_JOIN_STATUS_JOINING, h, rfl, a, b⟩⟩
theorem ws_f_LSH_JOIN_STATUS_LOST_MEMBER {W : Nat} (h : W.testBit 499 = true) : WrF W F.LSH_JOIN_STATUS_LOST_MEMBER :=
  ⟨fun _ a b => ⟨.f_LSH_JOIN_STATUS_LOST_MEMBER, h, rfl, a, b⟩⟩
theorem ws_f_LSH_JOIN_STATUS_PRESENT {W : Nat} (h : W.testBit 500 = true) : WrF W F.LSH_JOIN_STATUS_PRESENT :=
  ⟨fun _ a b => ⟨.f_LSH_JOIN_STATUS_PRESENT, h, rfl, a, b⟩⟩
theorem ws_f_LSH_JOIN_STATUS_ROLE_CONFLICT {W : Nat} (h : W.testBit 501 = true) : WrF W F.LSH_JOIN_STATUS_ROLE_CONFLICT :=
  ⟨fun _ a b => ⟨.f_LSH_JOIN_STATUS_ROLE_CONFLICT, h, rfl, a, b⟩⟩
theorem ws_f_LSH_JOIN_STATUS_UNEXPECTED {W : Nat} (h : W.testBit 502 = true) : WrF W F.LSH_JOIN_STATUS_UNEXPECTED :=
  ⟨fun _ a b => ⟨.f_LSH_JOIN_STATUS_UNEXPECTED, h, rfl, a, b⟩⟩
theorem ws_f_LSH_REG_STATUS_EXTRA {W : Nat} {n : Nat} (h : W.testBit 503 = true) : WrF W (F.LSH_REG_STATUS_EXTRA n) :=
  ⟨fun _ a b => ⟨.f_LSH_REG_STATUS_EXTRA, h, n, rfl, a, b⟩⟩
theorem ws_f_LSH_REG_STATUS_NEW {W : Nat} {n : Nat} (h : W.testBit 504 = true) : WrF W (F.LSH_REG_STATUS_NEW n) :=
  ⟨fun _ a b => ⟨.f_LSH_REG_STATUS_NEW, h, n, rfl, a, b⟩⟩
theorem ws_f_LSH_REG_STATUS_OPEN {W : Nat} {n : Nat} (h : W.testBit 505 = true) : WrF W (F.LSH_REG_STATUS_OPEN n) :=
  ⟨fun _ a b => ⟨.f_LSH_REG_STATUS_OPEN, h, n, rfl, a, b⟩⟩
theorem ws_f_LSH_REG_STATUS_RESULT {W : Nat} {n : Nat} (h : W.testBit 506 = true) : WrF W (F.LSH_REG_STATUS_RESULT n) :=
  ⟨fun _ a b => ⟨.f_LSH_REG_STATUS_RESULT, h, n, rfl, a, b⟩⟩
theorem ws_f_LSH_SH_COUNT_DIVERGED {W : Nat} {n : Nat} (h : W.testBit 507 = true) : WrF W (F.LSH_SH_COUNT_DIVERGED n) :=
  ⟨fun _ a b => ⟨.f_LSH_SH_COUNT_DIVERGED, h, n, rfl, a, b⟩⟩
theorem ws_f_LSH_SH_COUNT_DROPPED {W : Nat} {n : Nat} (h : W.testBit 508 = true) : WrF W (F.LSH_SH_COUNT_DROPPED n) :=
  ⟨fun _ a b => ⟨.f_LSH_SH_COUNT_DROPPED, h, n, rfl, a, b⟩⟩
theorem ws_f_LSH_SH_STATUS_DIVERGE {W : Nat} {n : Nat} (h : W.testBit 509 = true) : WrF W (F.LSH_SH_STATUS_DIVERGE n) :=
  ⟨fun _ a b => ⟨.f_LSH_SH_STATUS_DIVERGE, h, n, rfl, a, b⟩⟩
theorem ws_f_LSH_SH_STATUS_FIT_LIMIT {W : Nat} {n : Nat} (h : W.testBit 510 = true) : WrF W (F.LSH_SH_STATUS_FIT_LIMIT n) :=
  ⟨fun _ a b => ⟨.f_LSH_SH_STATUS_FIT_LIMIT, h, n, rfl, a, b⟩⟩
theorem ws_f_LSH_SH_STATUS_LATE_SEG {W : Nat} {n : Nat} (h : W.testBit 511 = true) : WrF W (F.LSH_SH_STATUS_LATE_SEG n) :=
  ⟨fun _ a b => ⟨.f_LSH_SH_STATUS_LATE_SEG, h, n, rfl, a, b⟩⟩
theorem ws_f_LSH_SH_STATUS_MISSING {W : Nat} {n : Nat} (h : W.testBit 512 = true) : WrF W (F.LSH_SH_STATUS_MISSING n) :=
  ⟨fun _ a b => ⟨.f_LSH_SH_STATUS_MISSING, h, n, rfl, a, b⟩⟩
theorem ws_f_LSH_SH_STATUS_STATE {W : Nat} {n : Nat} (h : W.testBit 513 = true) : WrF W (F.LSH_SH_STATUS_STATE n) :=
  ⟨fun _ a b => ⟨.f_LSH_SH_STATUS_STATE, h, n, rfl, a, b⟩⟩
theorem ws_f_LSH_SH_STATUS_SWITCHED {W : Nat} {n : Nat} (h : W.testBit 514 = true) : WrF W (F.LSH_SH_STATUS_SWITCHED n) :=
  ⟨fun _ a b => ⟨.f_LSH_SH_STATUS_SWITCHED, h, n, rfl, a, b⟩⟩
theorem ws_f_LSH_SH_STATUS_USED_MASTER {W : Nat} {n : Nat} (h : W.testBit 515 = true) : WrF W (F.LSH_SH_STATUS_USED_MASTER n) :=
  ⟨fun _ a b => ⟨.f_LSH_SH_STATUS_USED_MASTER, h, n, rfl, a, b⟩⟩
theorem ws_f_LSH_STATUS_CFG_REFUSED {W : Nat} (h : W.testBit 516 = true) : WrF W F.LSH_STATUS_CFG_REFUSED :=
  ⟨fun _ a b => ⟨.f_LSH_STATUS_CFG_REFUSED, h, rfl, a, b⟩⟩
theorem ws_f_LSH_STATUS_LOST {W : Nat} (h : W.testBit 517 = true) : WrF W F.LSH_STATUS_LOST :=
  ⟨fun _ a b => ⟨.f_LSH_STATUS_LOST, h, rfl, a, b⟩⟩
theorem ws_f_LSH_STATUS_LOST_SEEN {W : Nat} (h : W.testBit 518 = true) : WrF W F.LSH_STATUS_LOST_SEEN :=
  ⟨fun _ a b => ⟨.f_LSH_STATUS_LOST_SEEN, h, rfl, a, b⟩⟩
theorem ws_f_LSH_STATUS_STEP_LOST {W : Nat} (h : W.testBit 519 = true) : WrF W F.LSH_STATUS_STEP_LOST :=
  ⟨fun _ a b => ⟨.f_LSH_STATUS_STEP_LOST, h, rfl, a, b⟩⟩
theorem ws_f_LSP_CH_STATUS_AT_TARGET {W : Nat} {n : Nat} (h : W.testBit 520 = true) : WrF W (F.LSP_CH_STATUS_AT_TARGET n) :=
  ⟨fun _ a b => ⟨.f_LSP_CH_STATUS_AT_TARGET, h, n, rfl, a, b⟩⟩
theorem ws_f_LSP_CH_STATUS_CMD_REFUSED {W : Nat} {n : Nat} (h : W.testBit 521 = true) : WrF W (F.LSP_CH_STATUS_CMD_REFUSED n) :=
  ⟨fun _ a b => ⟨.f_LSP_CH_STATUS_CMD_REFUSED, h, n, rfl, a, b⟩⟩
theorem ws_f_LSP_CH_STATUS_DECEL_KEPT {W : Nat} {n : Nat} (h : W.testBit 522 = true) : WrF W (F.LSP_CH_STATUS_DECEL_KEPT n) :=
  ⟨fun _ a b => ⟨.f_LSP_CH_STATUS_DECEL_KEPT, h, n, rfl, a, b⟩⟩
theorem ws_f_LSP_CH_STATUS_HOLD {W : Nat} {n : Nat} (h : W.testBit 523 = true) : WrF W (F.LSP_CH_STATUS_HOLD n) :=
  ⟨fun _ a b => ⟨.f_LSP_CH_STATUS_HOLD, h, n, rfl, a, b⟩⟩
theorem ws_f_LSP_CH_STATUS_HOMED {W : Nat} {n : Nat} (h : W.testBit 524 = true) : WrF W (F.LSP_CH_STATUS_HOMED n) :=
  ⟨fun _ a b => ⟨.f_LSP_CH_STATUS_HOMED, h, n, rfl, a, b⟩⟩
theorem ws_f_LSP_CH_STATUS_HOME_FAIL {W : Nat} {n : Nat} (h : W.testBit 525 = true) : WrF W (F.LSP_CH_STATUS_HOME_FAIL n) :=
  ⟨fun _ a b => ⟨.f_LSP_CH_STATUS_HOME_FAIL, h, n, rfl, a, b⟩⟩
theorem ws_f_LSP_CH_STATUS_HOME_REASON {W : Nat} {n : Nat} (h : W.testBit 526 = true) : WrF W (F.LSP_CH_STATUS_HOME_REASON n) :=
  ⟨fun _ a b => ⟨.f_LSP_CH_STATUS_HOME_REASON, h, n, rfl, a, b⟩⟩
theorem ws_f_LSP_CH_STATUS_LIM_BOTH {W : Nat} {n : Nat} (h : W.testBit 527 = true) : WrF W (F.LSP_CH_STATUS_LIM_BOTH n) :=
  ⟨fun _ a b => ⟨.f_LSP_CH_STATUS_LIM_BOTH, h, n, rfl, a, b⟩⟩
theorem ws_f_LSP_CH_STATUS_LIM_NEG {W : Nat} {n : Nat} (h : W.testBit 528 = true) : WrF W (F.LSP_CH_STATUS_LIM_NEG n) :=
  ⟨fun _ a b => ⟨.f_LSP_CH_STATUS_LIM_NEG, h, n, rfl, a, b⟩⟩
theorem ws_f_LSP_CH_STATUS_LIM_POS {W : Nat} {n : Nat} (h : W.testBit 529 = true) : WrF W (F.LSP_CH_STATUS_LIM_POS n) :=
  ⟨fun _ a b => ⟨.f_LSP_CH_STATUS_LIM_POS, h, n, rfl, a, b⟩⟩
theorem ws_f_LSP_CH_STATUS_QLEVEL {W : Nat} {n : Nat} (h : W.testBit 530 = true) : WrF W (F.LSP_CH_STATUS_QLEVEL n) :=
  ⟨fun _ a b => ⟨.f_LSP_CH_STATUS_QLEVEL, h, n, rfl, a, b⟩⟩
theorem ws_f_LSP_CH_STATUS_QUEUE_FULL {W : Nat} {n : Nat} (h : W.testBit 531 = true) : WrF W (F.LSP_CH_STATUS_QUEUE_FULL n) :=
  ⟨fun _ a b => ⟨.f_LSP_CH_STATUS_QUEUE_FULL, h, n, rfl, a, b⟩⟩
theorem ws_f_LSP_CH_STATUS_STANDSTILL {W : Nat} {n : Nat} (h : W.testBit 532 = true) : WrF W (F.LSP_CH_STATUS_STANDSTILL n) :=
  ⟨fun _ a b => ⟨.f_LSP_CH_STATUS_STANDSTILL, h, n, rfl, a, b⟩⟩
theorem ws_f_LSP_CH_STATUS_START_LATE {W : Nat} {n : Nat} (h : W.testBit 533 = true) : WrF W (F.LSP_CH_STATUS_START_LATE n) :=
  ⟨fun _ a b => ⟨.f_LSP_CH_STATUS_START_LATE, h, n, rfl, a, b⟩⟩
theorem ws_f_LSP_CH_STATUS_STATE {W : Nat} {n : Nat} (h : W.testBit 534 = true) : WrF W (F.LSP_CH_STATUS_STATE n) :=
  ⟨fun _ a b => ⟨.f_LSP_CH_STATUS_STATE, h, n, rfl, a, b⟩⟩
theorem ws_f_LSP_CH_STATUS_STOP_TMO {W : Nat} {n : Nat} (h : W.testBit 535 = true) : WrF W (F.LSP_CH_STATUS_STOP_TMO n) :=
  ⟨fun _ a b => ⟨.f_LSP_CH_STATUS_STOP_TMO, h, n, rfl, a, b⟩⟩
theorem ws_f_LSP_CH_STATUS_STRETCHED {W : Nat} {n : Nat} (h : W.testBit 536 = true) : WrF W (F.LSP_CH_STATUS_STRETCHED n) :=
  ⟨fun _ a b => ⟨.f_LSP_CH_STATUS_STRETCHED, h, n, rfl, a, b⟩⟩
theorem ws_f_LSP_DL_STATUS_S {W : Nat} {n : Nat} (h : W.testBit 537 = true) : WrF W (F.LSP_DL_STATUS_S n) :=
  ⟨fun _ a b => ⟨.f_LSP_DL_STATUS_S, h, n, rfl, a, b⟩⟩
theorem ws_f_LSP_EN_STATUS_BUSY {W : Nat} (h : W.testBit 538 = true) : WrF W F.LSP_EN_STATUS_BUSY :=
  ⟨fun _ a b => ⟨.f_LSP_EN_STATUS_BUSY, h, rfl, a, b⟩⟩
theorem ws_f_LSP_EN_STATUS_CANCELLED {W : Nat} (h : W.testBit 539 = true) : WrF W F.LSP_EN_STATUS_CANCELLED :=
  ⟨fun _ a b => ⟨.f_LSP_EN_STATUS_CANCELLED, h, rfl, a, b⟩⟩
theorem ws_f_LSP_EN_STATUS_LAST {W : Nat} (h : W.testBit 540 = true) : WrF W F.LSP_EN_STATUS_LAST :=
  ⟨fun _ a b => ⟨.f_LSP_EN_STATUS_LAST, h, rfl, a, b⟩⟩
theorem ws_f_LSP_EN_STATUS_SKIPPED {W : Nat} (h : W.testBit 541 = true) : WrF W F.LSP_EN_STATUS_SKIPPED :=
  ⟨fun _ a b => ⟨.f_LSP_EN_STATUS_SKIPPED, h, rfl, a, b⟩⟩
theorem ws_f_LSP_GRP_STATUS_CMD_REFUSED {W : Nat} {n : Nat} (h : W.testBit 542 = true) : WrF W (F.LSP_GRP_STATUS_CMD_REFUSED n) :=
  ⟨fun _ a b => ⟨.f_LSP_GRP_STATUS_CMD_REFUSED, h, n, rfl, a, b⟩⟩
theorem ws_f_LSP_GRP_STATUS_GROUP_LIMITED {W : Nat} {n : Nat} (h : W.testBit 543 = true) : WrF W (F.LSP_GRP_STATUS_GROUP_LIMITED n) :=
  ⟨fun _ a b => ⟨.f_LSP_GRP_STATUS_GROUP_LIMITED, h, n, rfl, a, b⟩⟩
theorem ws_f_LSP_GRP_STATUS_LEADER {W : Nat} {n : Nat} (h : W.testBit 544 = true) : WrF W (F.LSP_GRP_STATUS_LEADER n) :=
  ⟨fun _ a b => ⟨.f_LSP_GRP_STATUS_LEADER, h, n, rfl, a, b⟩⟩
theorem ws_f_LSP_GRP_STATUS_MEMBERS {W : Nat} {n : Nat} (h : W.testBit 545 = true) : WrF W (F.LSP_GRP_STATUS_MEMBERS n) :=
  ⟨fun _ a b => ⟨.f_LSP_GRP_STATUS_MEMBERS, h, n, rfl, a, b⟩⟩
theorem ws_f_LSP_GRP_STATUS_PATH_BROKEN {W : Nat} {n : Nat} (h : W.testBit 546 = true) : WrF W (F.LSP_GRP_STATUS_PATH_BROKEN n) :=
  ⟨fun _ a b => ⟨.f_LSP_GRP_STATUS_PATH_BROKEN, h, n, rfl, a, b⟩⟩
theorem ws_f_LSP_GRP_STATUS_STATE {W : Nat} {n : Nat} (h : W.testBit 547 = true) : WrF W (F.LSP_GRP_STATUS_STATE n) :=
  ⟨fun _ a b => ⟨.f_LSP_GRP_STATUS_STATE, h, n, rfl, a, b⟩⟩
theorem ws_f_LSP_STATUS_FAULT {W : Nat} (h : W.testBit 548 = true) : WrF W F.LSP_STATUS_FAULT :=
  ⟨fun _ a b => ⟨.f_LSP_STATUS_FAULT, h, rfl, a, b⟩⟩
theorem ws_f_LSP_STATUS_RUNNING {W : Nat} (h : W.testBit 549 = true) : WrF W F.LSP_STATUS_RUNNING :=
  ⟨fun _ a b => ⟨.f_LSP_STATUS_RUNNING, h, rfl, a, b⟩⟩
theorem ws_f_MEM_ECC_CNT_IPM {W : Nat} (h : W.testBit 550 = true) : WrF W F.MEM_ECC_CNT_IPM :=
  ⟨fun _ a b => ⟨.f_MEM_ECC_CNT_IPM, h, rfl, a, b⟩⟩
theorem ws_f_MEM_ECC_CNT_SRAM {W : Nat} (h : W.testBit 551 = true) : WrF W F.MEM_ECC_CNT_SRAM :=
  ⟨fun _ a b => ⟨.f_MEM_ECC_CNT_SRAM, h, rfl, a, b⟩⟩
theorem ws_f_MEM_STAGE_SEG {W : Nat} (h : W.testBit 552 = true) : WrF W F.MEM_STAGE_SEG :=
  ⟨fun _ a b => ⟨.f_MEM_STAGE_SEG, h, rfl, a, b⟩⟩
theorem ws_f_MEM_STAGE_SOUND {W : Nat} (h : W.testBit 553 = true) : WrF W F.MEM_STAGE_SOUND :=
  ⟨fun _ a b => ⟨.f_MEM_STAGE_SOUND, h, rfl, a, b⟩⟩
theorem ws_f_MEM_STATUS_CFG_REFUSED {W : Nat} (h : W.testBit 554 = true) : WrF W F.MEM_STATUS_CFG_REFUSED :=
  ⟨fun _ a b => ⟨.f_MEM_STATUS_CFG_REFUSED, h, rfl, a, b⟩⟩
theorem ws_f_MEM_STATUS_IPM_CORR {W : Nat} (h : W.testBit 555 = true) : WrF W F.MEM_STATUS_IPM_CORR :=
  ⟨fun _ a b => ⟨.f_MEM_STATUS_IPM_CORR, h, rfl, a, b⟩⟩
theorem ws_f_MEM_STATUS_POISONED {W : Nat} (h : W.testBit 556 = true) : WrF W F.MEM_STATUS_POISONED :=
  ⟨fun _ a b => ⟨.f_MEM_STATUS_POISONED, h, rfl, a, b⟩⟩
theorem ws_f_MEM_STATUS_SRAM_CORR {W : Nat} (h : W.testBit 557 = true) : WrF W F.MEM_STATUS_SRAM_CORR :=
  ⟨fun _ a b => ⟨.f_MEM_STATUS_SRAM_CORR, h, rfl, a, b⟩⟩
theorem ws_f_MEM_STATUS_STAGE_FAULT {W : Nat} (h : W.testBit 558 = true) : WrF W F.MEM_STATUS_STAGE_FAULT :=
  ⟨fun _ a b => ⟨.f_MEM_STATUS_STAGE_FAULT, h, rfl, a, b⟩⟩
theorem ws_f_MGT_AX_TH_LIFE_USED_LIFE_USED {W : Nat} {n : Nat} (h : W.testBit 559 = true) : WrF W (F.MGT_AX_TH_LIFE_USED_LIFE_USED n) :=
  ⟨fun _ a b => ⟨.f_MGT_AX_TH_LIFE_USED_LIFE_USED, h, n, rfl, a, b⟩⟩
theorem ws_f_MGT_AX_TH_PLAN_STATE_CAP_STEPS {W : Nat} {n : Nat} (h : W.testBit 560 = true) : WrF W (F.MGT_AX_TH_PLAN_STATE_CAP_STEPS n) :=
  ⟨fun _ a b => ⟨.f_MGT_AX_TH_PLAN_STATE_CAP_STEPS, h, n, rfl, a, b⟩⟩
theorem ws_f_MGT_AX_TH_PLAN_STATE_FREQ_CHANGED {W : Nat} {n : Nat} (h : W.testBit 561 = true) : WrF W (F.MGT_AX_TH_PLAN_STATE_FREQ_CHANGED n) :=
  ⟨fun _ a b => ⟨.f_MGT_AX_TH_PLAN_STATE_FREQ_CHANGED, h, n, rfl, a, b⟩⟩
theorem ws_f_MGT_AX_TH_PLAN_STATE_FREQ_STEPS {W : Nat} {n : Nat} (h : W.testBit 562 = true) : WrF W (F.MGT_AX_TH_PLAN_STATE_FREQ_STEPS n) :=
  ⟨fun _ a b => ⟨.f_MGT_AX_TH_PLAN_STATE_FREQ_STEPS, h, n, rfl, a, b⟩⟩
theorem ws_f_MGT_AX_TH_PLAN_STATE_GUARD_STEPS {W : Nat} {n : Nat} (h : W.testBit 563 = true) : WrF W (F.MGT_AX_TH_PLAN_STATE_GUARD_STEPS n) :=
  ⟨fun _ a b => ⟨.f_MGT_AX_TH_PLAN_STATE_GUARD_STEPS, h, n, rfl, a, b⟩⟩
theorem ws_f_MGT_AX_TH_PLAN_STATE_PROPOSAL_OPEN {W : Nat} {n : Nat} (h : W.testBit 564 = true) : WrF W (F.MGT_AX_TH_PLAN_STATE_PROPOSAL_OPEN n) :=
  ⟨fun _ a b => ⟨.f_MGT_AX_TH_PLAN_STATE_PROPOSAL_OPEN, h, n, rfl, a, b⟩⟩
theorem ws_f_MGT_AX_TH_TJ_PEAK_H_TJ_PEAK_H {W : Nat} {n : Nat} (h : W.testBit 565 = true) : WrF W (F.MGT_AX_TH_TJ_PEAK_H_TJ_PEAK_H n) :=
  ⟨fun _ a b => ⟨.f_MGT_AX_TH_TJ_PEAK_H_TJ_PEAK_H, h, n, rfl, a, b⟩⟩
theorem ws_f_MGT_AX_TH_TJ_TJ {W : Nat} {n : Nat} (h : W.testBit 566 = true) : WrF W (F.MGT_AX_TH_TJ_TJ n) :=
  ⟨fun _ a b => ⟨.f_MGT_AX_TH_TJ_TJ, h, n, rfl, a, b⟩⟩
theorem ws_f_MGT_OD_MB_CTL_BUSY {W : Nat} {n : Nat} (h : W.testBit 567 = true) : WrF W (F.MGT_OD_MB_CTL_BUSY n) :=
  ⟨fun _ a b => ⟨.f_MGT_OD_MB_CTL_BUSY, h, n, rfl, a, b⟩⟩
theorem ws_f_MGT_OD_MB_CTL_DONE {W : Nat} {n : Nat} (h : W.testBit 568 = true) : WrF W (F.MGT_OD_MB_CTL_DONE n) :=
  ⟨fun _ a b => ⟨.f_MGT_OD_MB_CTL_DONE, h, n, rfl, a, b⟩⟩
theorem ws_f_MGT_STATUS_AVS_FAULT {W : Nat} (h : W.testBit 569 = true) : WrF W F.MGT_STATUS_AVS_FAULT :=
  ⟨fun _ a b => ⟨.f_MGT_STATUS_AVS_FAULT, h, rfl, a, b⟩⟩
theorem ws_f_MGT_STATUS_FLASH_FAULT {W : Nat} (h : W.testBit 570 = true) : WrF W F.MGT_STATUS_FLASH_FAULT :=
  ⟨fun _ a b => ⟨.f_MGT_STATUS_FLASH_FAULT, h, rfl, a, b⟩⟩
theorem ws_f_MGT_STATUS_MARGIN_DUE {W : Nat} (h : W.testBit 571 = true) : WrF W F.MGT_STATUS_MARGIN_DUE :=
  ⟨fun _ a b => ⟨.f_MGT_STATUS_MARGIN_DUE, h, rfl, a, b⟩⟩
theorem ws_f_MGT_STATUS_RECOVERY {W : Nat} (h : W.testBit 572 = true) : WrF W F.MGT_STATUS_RECOVERY :=
  ⟨fun _ a b => ⟨.f_MGT_STATUS_RECOVERY, h, rfl, a, b⟩⟩
theorem ws_f_MGT_STATUS_SLOT {W : Nat} (h : W.testBit 573 = true) : WrF W F.MGT_STATUS_SLOT :=
  ⟨fun _ a b => ⟨.f_MGT_STATUS_SLOT, h, rfl, a, b⟩⟩
theorem ws_f_MGT_STATUS_TRIAL {W : Nat} (h : W.testBit 574 = true) : WrF W F.MGT_STATUS_TRIAL :=
  ⟨fun _ a b => ⟨.f_MGT_STATUS_TRIAL, h, rfl, a, b⟩⟩
theorem ws_f_MGT_STATUS_VCORE {W : Nat} (h : W.testBit 575 = true) : WrF W F.MGT_STATUS_VCORE :=
  ⟨fun _ a b => ⟨.f_MGT_STATUS_VCORE, h, rfl, a, b⟩⟩
theorem ws_f_MSEC_STRANGER_COUNT {W : Nat} {n : Nat} (h : W.testBit 576 = true) : WrF W (F.MSEC_STRANGER_COUNT n) :=
  ⟨fun _ a b => ⟨.f_MSEC_STRANGER_COUNT, h, n, rfl, a, b⟩⟩
theorem ws_f_MSEC_STRANGER_REASON {W : Nat} {n : Nat} (h : W.testBit 577 = true) : WrF W (F.MSEC_STRANGER_REASON n) :=
  ⟨fun _ a b => ⟨.f_MSEC_STRANGER_REASON, h, n, rfl, a, b⟩⟩
theorem ws_f_POOL_C_CFG_COUNT {W : Nat} {n : Nat} (h : W.testBit 578 = true) : WrF W (F.POOL_C_CFG_COUNT n) :=
  ⟨fun _ a b => ⟨.f_POOL_C_CFG_COUNT, h, n, rfl, a, b⟩⟩
theorem ws_f_POOL_C_STATUS_FREE {W : Nat} {n : Nat} (h : W.testBit 579 = true) : WrF W (F.POOL_C_STATUS_FREE n) :=
  ⟨fun _ a b => ⟨.f_POOL_C_STATUS_FREE, h, n, rfl, a, b⟩⟩
theorem ws_f_POOL_LAST_INFO_HOLDER {W : Nat} (h : W.testBit 580 = true) : WrF W F.POOL_LAST_INFO_HOLDER :=
  ⟨fun _ a b => ⟨.f_POOL_LAST_INFO_HOLDER, h, rfl, a, b⟩⟩
theorem ws_f_POOL_LAST_INFO_OWNER {W : Nat} (h : W.testBit 581 = true) : WrF W F.POOL_LAST_INFO_OWNER :=
  ⟨fun _ a b => ⟨.f_POOL_LAST_INFO_OWNER, h, rfl, a, b⟩⟩
theorem ws_f_POOL_LAST_INFO_STATUS {W : Nat} (h : W.testBit 582 = true) : WrF W F.POOL_LAST_INFO_STATUS :=
  ⟨fun _ a b => ⟨.f_POOL_LAST_INFO_STATUS, h, rfl, a, b⟩⟩
theorem ws_f_POOL_OD_QUOTA01_CLASS_HI {W : Nat} {n : Nat} (h : W.testBit 583 = true) : WrF W (F.POOL_OD_QUOTA01_CLASS_HI n) :=
  ⟨fun _ a b => ⟨.f_POOL_OD_QUOTA01_CLASS_HI, h, n, rfl, a, b⟩⟩
theorem ws_f_POOL_OD_QUOTA01_CLASS_LO {W : Nat} {n : Nat} (h : W.testBit 584 = true) : WrF W (F.POOL_OD_QUOTA01_CLASS_LO n) :=
  ⟨fun _ a b => ⟨.f_POOL_OD_QUOTA01_CLASS_LO, h, n, rfl, a, b⟩⟩
theorem ws_f_POOL_OD_QUOTA23_CLASS_HI {W : Nat} {n : Nat} (h : W.testBit 585 = true) : WrF W (F.POOL_OD_QUOTA23_CLASS_HI n) :=
  ⟨fun _ a b => ⟨.f_POOL_OD_QUOTA23_CLASS_HI, h, n, rfl, a, b⟩⟩
theorem ws_f_POOL_OD_QUOTA23_CLASS_LO {W : Nat} {n : Nat} (h : W.testBit 586 = true) : WrF W (F.POOL_OD_QUOTA23_CLASS_LO n) :=
  ⟨fun _ a b => ⟨.f_POOL_OD_QUOTA23_CLASS_LO, h, n, rfl, a, b⟩⟩
theorem ws_f_POOL_OD_USE01_CLASS_HI {W : Nat} {n : Nat} (h : W.testBit 587 = true) : WrF W (F.POOL_OD_USE01_CLASS_HI n) :=
  ⟨fun _ a b => ⟨.f_POOL_OD_USE01_CLASS_HI, h, n, rfl, a, b⟩⟩
theorem ws_f_POOL_OD_USE01_CLASS_LO {W : Nat} {n : Nat} (h : W.testBit 588 = true) : WrF W (F.POOL_OD_USE01_CLASS_LO n) :=
  ⟨fun _ a b => ⟨.f_POOL_OD_USE01_CLASS_LO, h, n, rfl, a, b⟩⟩
theorem ws_f_POOL_OD_USE23_CLASS_HI {W : Nat} {n : Nat} (h : W.testBit 589 = true) : WrF W (F.POOL_OD_USE23_CLASS_HI n) :=
  ⟨fun _ a b => ⟨.f_POOL_OD_USE23_CLASS_HI, h, n, rfl, a, b⟩⟩
theorem ws_f_POOL_OD_USE23_CLASS_LO {W : Nat} {n : Nat} (h : W.testBit 590 = true) : WrF W (F.POOL_OD_USE23_CLASS_LO n) :=
  ⟨fun _ a b => ⟨.f_POOL_OD_USE23_CLASS_LO, h, n, rfl, a, b⟩⟩
theorem ws_f_PWR_STATUS_ENTRY_REFUSED {W : Nat} (h : W.testBit 591 = true) : WrF W F.PWR_STATUS_ENTRY_REFUSED :=
  ⟨fun _ a b => ⟨.f_PWR_STATUS_ENTRY_REFUSED, h, rfl, a, b⟩⟩
theorem ws_f_PWR_STATUS_FROM_DORMANT {W : Nat} (h : W.testBit 592 = true) : WrF W F.PWR_STATUS_FROM_DORMANT :=
  ⟨fun _ a b => ⟨.f_PWR_STATUS_FROM_DORMANT, h, rfl, a, b⟩⟩
theorem ws_f_PWR_STATUS_REASON {W : Nat} (h : W.testBit 593 = true) : WrF W F.PWR_STATUS_REASON :=
  ⟨fun _ a b => ⟨.f_PWR_STATUS_REASON, h, rfl, a, b⟩⟩
theorem ws_f_PWR_STATUS_WAKE_SRC {W : Nat} (h : W.testBit 594 = true) : WrF W F.PWR_STATUS_WAKE_SRC :=
  ⟨fun _ a b => ⟨.f_PWR_STATUS_WAKE_SRC, h, rfl, a, b⟩⟩
theorem ws_f_RST_CAUSE_LAST {W : Nat} (h : W.testBit 595 = true) : WrF W F.RST_CAUSE_LAST :=
  ⟨fun _ a b => ⟨.f_RST_CAUSE_LAST, h, rfl, a, b⟩⟩
theorem ws_f_RST_CAUSE_SRC {W : Nat} (h : W.testBit 596 = true) : WrF W F.RST_CAUSE_SRC :=
  ⟨fun _ a b => ⟨.f_RST_CAUSE_SRC, h, rfl, a, b⟩⟩
theorem ws_f_RST_LOCKUP_CAMELLIA {W : Nat} (h : W.testBit 597 = true) : WrF W F.RST_LOCKUP_CAMELLIA :=
  ⟨fun _ a b => ⟨.f_RST_LOCKUP_CAMELLIA, h, rfl, a, b⟩⟩
theorem ws_f_RST_LOCKUP_CORE {W : Nat} (h : W.testBit 598 = true) : WrF W F.RST_LOCKUP_CORE :=
  ⟨fun _ a b => ⟨.f_RST_LOCKUP_CORE, h, rfl, a, b⟩⟩
theorem ws_f_RST_WDOG_TIMEOUT {W : Nat} (h : W.testBit 599 = true) : WrF W F.RST_WDOG_TIMEOUT :=
  ⟨fun _ a b => ⟨.f_RST_WDOG_TIMEOUT, h, rfl, a, b⟩⟩
theorem ws_f_SAF_BRK_STATUS_BS {W : Nat} {n : Nat} (h : W.testBit 600 = true) : WrF W (F.SAF_BRK_STATUS_BS n) :=
  ⟨fun _ a b => ⟨.f_SAF_BRK_STATUS_BS, h, n, rfl, a, b⟩⟩
theorem ws_f_SAF_BRK_STATUS_BT_BLOCKED {W : Nat} {n : Nat} (h : W.testBit 601 = true) : WrF W (F.SAF_BRK_STATUS_BT_BLOCKED n) :=
  ⟨fun _ a b => ⟨.f_SAF_BRK_STATUS_BT_BLOCKED, h, n, rfl, a, b⟩⟩
theorem ws_f_SAF_BRK_STATUS_BT_DUE {W : Nat} {n : Nat} (h : W.testBit 602 = true) : WrF W (F.SAF_BRK_STATUS_BT_DUE n) :=
  ⟨fun _ a b => ⟨.f_SAF_BRK_STATUS_BT_DUE, h, n, rfl, a, b⟩⟩
theorem ws_f_SAF_BRK_STATUS_FAULT {W : Nat} {n : Nat} (h : W.testBit 603 = true) : WrF W (F.SAF_BRK_STATUS_FAULT n) :=
  ⟨fun _ a b => ⟨.f_SAF_BRK_STATUS_FAULT, h, n, rfl, a, b⟩⟩
theorem ws_f_SAF_BRK_STATUS_FAULT_WHY {W : Nat} {n : Nat} (h : W.testBit 604 = true) : WrF W (F.SAF_BRK_STATUS_FAULT_WHY n) :=
  ⟨fun _ a b => ⟨.f_SAF_BRK_STATUS_FAULT_WHY, h, n, rfl, a, b⟩⟩
theorem ws_f_SAF_BRK_STATUS_RELEASED {W : Nat} {n : Nat} (h : W.testBit 605 = true) : WrF W (F.SAF_BRK_STATUS_RELEASED n) :=
  ⟨fun _ a b => ⟨.f_SAF_BRK_STATUS_RELEASED, h, n, rfl, a, b⟩⟩
theorem ws_f_SAF_BT_RESULT_AXIS {W : Nat} (h : W.testBit 606 = true) : WrF W F.SAF_BT_RESULT_AXIS :=
  ⟨fun _ a b => ⟨.f_SAF_BT_RESULT_AXIS, h, rfl, a, b⟩⟩
theorem ws_f_SAF_BT_RESULT_MOVED {W : Nat} (h : W.testBit 607 = true) : WrF W F.SAF_BT_RESULT_MOVED :=
  ⟨fun _ a b => ⟨.f_SAF_BT_RESULT_MOVED, h, rfl, a, b⟩⟩
theorem ws_f_SAF_BT_RESULT_REASON {W : Nat} (h : W.testBit 608 = true) : WrF W F.SAF_BT_RESULT_REASON :=
  ⟨fun _ a b => ⟨.f_SAF_BT_RESULT_REASON, h, rfl, a, b⟩⟩
theorem ws_f_SAF_BT_RESULT_RESULT {W : Nat} (h : W.testBit 609 = true) : WrF W F.SAF_BT_RESULT_RESULT :=
  ⟨fun _ a b => ⟨.f_SAF_BT_RESULT_RESULT, h, rfl, a, b⟩⟩
theorem ws_f_SAF_BT_RESULT_STATE {W : Nat} (h : W.testBit 610 = true) : WrF W F.SAF_BT_RESULT_STATE :=
  ⟨fun _ a b => ⟨.f_SAF_BT_RESULT_STATE, h, rfl, a, b⟩⟩
theorem ws_f_SAF_LOCK_AXIS {W : Nat} (h : W.testBit 611 = true) : WrF W F.SAF_LOCK_AXIS :=
  ⟨fun _ a b => ⟨.f_SAF_LOCK_AXIS, h, rfl, a, b⟩⟩
theorem ws_f_SAF_LOCK_CAUSE {W : Nat} (h : W.testBit 612 = true) : WrF W F.SAF_LOCK_CAUSE :=
  ⟨fun _ a b => ⟨.f_SAF_LOCK_CAUSE, h, rfl, a, b⟩⟩
theorem ws_f_SAF_LOCK_CAUSE_ACTIVE {W : Nat} (h : W.testBit 613 = true) : WrF W F.SAF_LOCK_CAUSE_ACTIVE :=
  ⟨fun _ a b => ⟨.f_SAF_LOCK_CAUSE_ACTIVE, h, rfl, a, b⟩⟩
theorem ws_f_SAF_LOCK_DEVICE {W : Nat} (h : W.testBit 614 = true) : WrF W F.SAF_LOCK_DEVICE :=
  ⟨fun _ a b => ⟨.f_SAF_LOCK_DEVICE, h, rfl, a, b⟩⟩
theorem ws_f_SAF_LOCK_UNLOCK_EXPIRED {W : Nat} (h : W.testBit 615 = true) : WrF W F.SAF_LOCK_UNLOCK_EXPIRED :=
  ⟨fun _ a b => ⟨.f_SAF_LOCK_UNLOCK_EXPIRED, h, rfl, a, b⟩⟩
theorem ws_f_SAF_LOCK_UNLOCK_REFUSED {W : Nat} (h : W.testBit 616 = true) : WrF W F.SAF_LOCK_UNLOCK_REFUSED :=
  ⟨fun _ a b => ⟨.f_SAF_LOCK_UNLOCK_REFUSED, h, rfl, a, b⟩⟩
theorem ws_f_SAF_LOCK_UNLOCK_WAIT {W : Nat} (h : W.testBit 617 = true) : WrF W F.SAF_LOCK_UNLOCK_WAIT :=
  ⟨fun _ a b => ⟨.f_SAF_LOCK_UNLOCK_WAIT, h, rfl, a, b⟩⟩
theorem ws_f_SAF_PSET_STATUS_REASON {W : Nat} (h : W.testBit 618 = true) : WrF W F.SAF_PSET_STATUS_REASON :=
  ⟨fun _ a b => ⟨.f_SAF_PSET_STATUS_REASON, h, rfl, a, b⟩⟩
theorem ws_f_SAF_PSET_STATUS_RECORDS {W : Nat} (h : W.testBit 619 = true) : WrF W F.SAF_PSET_STATUS_RECORDS :=
  ⟨fun _ a b => ⟨.f_SAF_PSET_STATUS_RECORDS, h, rfl, a, b⟩⟩
theorem ws_f_SAF_PSET_STATUS_STATE {W : Nat} (h : W.testBit 620 = true) : WrF W F.SAF_PSET_STATUS_STATE :=
  ⟨fun _ a b => ⟨.f_SAF_PSET_STATUS_STATE, h, rfl, a, b⟩⟩
theorem ws_f_SAF_SI_STATUS_DEMAND {W : Nat} (h : W.testBit 621 = true) : WrF W F.SAF_SI_STATUS_DEMAND :=
  ⟨fun _ a b => ⟨.f_SAF_SI_STATUS_DEMAND, h, rfl, a, b⟩⟩
theorem ws_f_SAF_SI_STATUS_DISC_FAULT {W : Nat} (h : W.testBit 622 = true) : WrF W F.SAF_SI_STATUS_DISC_FAULT :=
  ⟨fun _ a b => ⟨.f_SAF_SI_STATUS_DISC_FAULT, h, rfl, a, b⟩⟩
theorem ws_f_SAF_SI_STATUS_DISC_RUN {W : Nat} (h : W.testBit 623 = true) : WrF W F.SAF_SI_STATUS_DISC_RUN :=
  ⟨fun _ a b => ⟨.f_SAF_SI_STATUS_DISC_RUN, h, rfl, a, b⟩⟩
theorem ws_f_SAF_SI_STATUS_SRESET {W : Nat} (h : W.testBit 624 = true) : WrF W F.SAF_SI_STATUS_SRESET :=
  ⟨fun _ a b => ⟨.f_SAF_SI_STATUS_SRESET, h, rfl, a, b⟩⟩
theorem ws_f_SAF_SI_STATUS_SRESET_STUCK {W : Nat} (h : W.testBit 625 = true) : WrF W F.SAF_SI_STATUS_SRESET_STUCK :=
  ⟨fun _ a b => ⟨.f_SAF_SI_STATUS_SRESET_STUCK, h, rfl, a, b⟩⟩
theorem ws_f_SAF_STO_ASSERTED {W : Nat} (h : W.testBit 626 = true) : WrF W F.SAF_STO_ASSERTED :=
  ⟨fun _ a b => ⟨.f_SAF_STO_ASSERTED, h, rfl, a, b⟩⟩
theorem ws_f_SAF_STO_DEMAND {W : Nat} (h : W.testBit 627 = true) : WrF W F.SAF_STO_DEMAND :=
  ⟨fun _ a b => ⟨.f_SAF_STO_DEMAND, h, rfl, a, b⟩⟩
theorem ws_f_SAF_STO_RESTART_WAIT {W : Nat} (h : W.testBit 628 = true) : WrF W F.SAF_STO_RESTART_WAIT :=
  ⟨fun _ a b => ⟨.f_SAF_STO_RESTART_WAIT, h, rfl, a, b⟩⟩
theorem ws_f_SAF_STO_SS1_RUN {W : Nat} (h : W.testBit 629 = true) : WrF W F.SAF_STO_SS1_RUN :=
  ⟨fun _ a b => ⟨.f_SAF_STO_SS1_RUN, h, rfl, a, b⟩⟩
theorem ws_f_TB_ADJ_ADJ {W : Nat} (h : W.testBit 630 = true) : WrF W F.TB_ADJ_ADJ :=
  ⟨fun _ a b => ⟨.f_TB_ADJ_ADJ, h, rfl, a, b⟩⟩
theorem ws_f_TB_CTRL_GM_POLICY {W : Nat} (h : W.testBit 631 = true) : WrF W F.TB_CTRL_GM_POLICY :=
  ⟨fun _ a b => ⟨.f_TB_CTRL_GM_POLICY, h, rfl, a, b⟩⟩
theorem ws_f_TB_CTRL_PROTOCOL {W : Nat} (h : W.testBit 632 = true) : WrF W F.TB_CTRL_PROTOCOL :=
  ⟨fun _ a b => ⟨.f_TB_CTRL_PROTOCOL, h, rfl, a, b⟩⟩
theorem ws_f_TB_CTRL_ROLE {W : Nat} (h : W.testBit 633 = true) : WrF W F.TB_CTRL_ROLE :=
  ⟨fun _ a b => ⟨.f_TB_CTRL_ROLE, h, rfl, a, b⟩⟩
theorem ws_f_TB_CTRL_SERVO_EN {W : Nat} (h : W.testBit 634 = true) : WrF W F.TB_CTRL_SERVO_EN :=
  ⟨fun _ a b => ⟨.f_TB_CTRL_SERVO_EN, h, rfl, a, b⟩⟩
theorem ws_f_TB_CTRL_STEP_MODE {W : Nat} (h : W.testBit 635 = true) : WrF W F.TB_CTRL_STEP_MODE :=
  ⟨fun _ a b => ⟨.f_TB_CTRL_STEP_MODE, h, rfl, a, b⟩⟩
theorem ws_f_TB_CTRL_TICK_SRC {W : Nat} (h : W.testBit 636 = true) : WrF W F.TB_CTRL_TICK_SRC :=
  ⟨fun _ a b => ⟨.f_TB_CTRL_TICK_SRC, h, rfl, a, b⟩⟩
theorem ws_f_TB_CTRL_TRANSPORT {W : Nat} (h : W.testBit 637 = true) : WrF W F.TB_CTRL_TRANSPORT :=
  ⟨fun _ a b => ⟨.f_TB_CTRL_TRANSPORT, h, rfl, a, b⟩⟩
theorem ws_f_TB_GM_CTRL_HOLDOFF {W : Nat} (h : W.testBit 638 = true) : WrF W F.TB_GM_CTRL_HOLDOFF :=
  ⟨fun _ a b => ⟨.f_TB_GM_CTRL_HOLDOFF, h, rfl, a, b⟩⟩
theorem ws_f_TB_GM_CTRL_SWITCH_TMO {W : Nat} (h : W.testBit 639 = true) : WrF W F.TB_GM_CTRL_SWITCH_TMO :=
  ⟨fun _ a b => ⟨.f_TB_GM_CTRL_SWITCH_TMO, h, rfl, a, b⟩⟩
theorem ws_f_TB_GM_LOG_INFO_CAUSE {W : Nat} (h : W.testBit 640 = true) : WrF W F.TB_GM_LOG_INFO_CAUSE :=
  ⟨fun _ a b => ⟨.f_TB_GM_LOG_INFO_CAUSE, h, rfl, a, b⟩⟩
theorem ws_f_TB_GM_LOG_INFO_DURATION {W : Nat} (h : W.testBit 641 = true) : WrF W F.TB_GM_LOG_INFO_DURATION :=
  ⟨fun _ a b => ⟨.f_TB_GM_LOG_INFO_DURATION, h, rfl, a, b⟩⟩
theorem ws_f_TB_GM_LOG_INFO_TIMED_OUT {W : Nat} (h : W.testBit 642 = true) : WrF W F.TB_GM_LOG_INFO_TIMED_OUT :=
  ⟨fun _ a b => ⟨.f_TB_GM_LOG_INFO_TIMED_OUT, h, rfl, a, b⟩⟩
theorem ws_f_TB_OFFSET_E {W : Nat} (h : W.testBit 643 = true) : WrF W F.TB_OFFSET_E :=
  ⟨fun _ a b => ⟨.f_TB_OFFSET_E, h, rfl, a, b⟩⟩
theorem ws_f_TB_STATUS_ADJ_CLAMPED {W : Nat} (h : W.testBit 644 = true) : WrF W F.TB_STATUS_ADJ_CLAMPED :=
  ⟨fun _ a b => ⟨.f_TB_STATUS_ADJ_CLAMPED, h, rfl, a, b⟩⟩
theorem ws_f_TB_STATUS_BETTER_GM_PENDING {W : Nat} (h : W.testBit 645 = true) : WrF W F.TB_STATUS_BETTER_GM_PENDING :=
  ⟨fun _ a b => ⟨.f_TB_STATUS_BETTER_GM_PENDING, h, rfl, a, b⟩⟩
theorem ws_f_TB_STATUS_CMD_REFUSED {W : Nat} (h : W.testBit 646 = true) : WrF W F.TB_STATUS_CMD_REFUSED :=
  ⟨fun _ a b => ⟨.f_TB_STATUS_CMD_REFUSED, h, rfl, a, b⟩⟩
theorem ws_f_TB_STATUS_HOLDOFF {W : Nat} (h : W.testBit 647 = true) : WrF W F.TB_STATUS_HOLDOFF :=
  ⟨fun _ a b => ⟨.f_TB_STATUS_HOLDOFF, h, rfl, a, b⟩⟩
theorem ws_f_TB_STATUS_SERVO_STATE {W : Nat} (h : W.testBit 648 = true) : WrF W F.TB_STATUS_SERVO_STATE :=
  ⟨fun _ a b => ⟨.f_TB_STATUS_SERVO_STATE, h, rfl, a, b⟩⟩
theorem ws_f_TB_STATUS_STEPPED {W : Nat} (h : W.testBit 649 = true) : WrF W F.TB_STATUS_STEPPED :=
  ⟨fun _ a b => ⟨.f_TB_STATUS_STEPPED, h, rfl, a, b⟩⟩
theorem ws_f_TB_STATUS_SWITCHING {W : Nat} (h : W.testBit 650 = true) : WrF W F.TB_STATUS_SWITCHING :=
  ⟨fun _ a b => ⟨.f_TB_STATUS_SWITCHING, h, rfl, a, b⟩⟩
theorem ws_f_TB_STATUS_TICK_SRC_REFUSED {W : Nat} (h : W.testBit 651 = true) : WrF W F.TB_STATUS_TICK_SRC_REFUSED :=
  ⟨fun _ a b => ⟨.f_TB_STATUS_TICK_SRC_REFUSED, h, rfl, a, b⟩⟩
theorem ws_f_TB_STATUS_TIME_VALID {W : Nat} (h : W.testBit 652 = true) : WrF W F.TB_STATUS_TIME_VALID :=
  ⟨fun _ a b => ⟨.f_TB_STATUS_TIME_VALID, h, rfl, a, b⟩⟩
theorem ws_f_TB_STATUS_TORN {W : Nat} (h : W.testBit 653 = true) : WrF W F.TB_STATUS_TORN :=
  ⟨fun _ a b => ⟨.f_TB_STATUS_TORN, h, rfl, a, b⟩⟩
theorem ws_f_TB_UTC_FROM_ANNOUNCE {W : Nat} (h : W.testBit 654 = true) : WrF W F.TB_UTC_FROM_ANNOUNCE :=
  ⟨fun _ a b => ⟨.f_TB_UTC_FROM_ANNOUNCE, h, rfl, a, b⟩⟩
theorem ws_f_TB_UTC_LEAP59 {W : Nat} (h : W.testBit 655 = true) : WrF W F.TB_UTC_LEAP59 :=
  ⟨fun _ a b => ⟨.f_TB_UTC_LEAP59, h, rfl, a, b⟩⟩
theorem ws_f_TB_UTC_LEAP61 {W : Nat} (h : W.testBit 656 = true) : WrF W F.TB_UTC_LEAP61 :=
  ⟨fun _ a b => ⟨.f_TB_UTC_LEAP61, h, rfl, a, b⟩⟩
theorem ws_f_TB_UTC_OFFSET {W : Nat} (h : W.testBit 657 = true) : WrF W F.TB_UTC_OFFSET :=
  ⟨fun _ a b => ⟨.f_TB_UTC_OFFSET, h, rfl, a, b⟩⟩
theorem ws_f_TB_UTC_VALID {W : Nat} (h : W.testBit 658 = true) : WrF W F.TB_UTC_VALID :=
  ⟨fun _ a b => ⟨.f_TB_UTC_VALID, h, rfl, a, b⟩⟩
theorem ws_f_TSN_COUNT_TOO_LONG {W : Nat} {n : Nat} (h : W.testBit 659 = true) : WrF W (F.TSN_COUNT_TOO_LONG n) :=
  ⟨fun _ a b => ⟨.f_TSN_COUNT_TOO_LONG, h, n, rfl, a, b⟩⟩
theorem ws_f_TSN_CTL_LEN {W : Nat} {n : Nat} (h : W.testBit 660 = true) : WrF W (F.TSN_CTL_LEN n) :=
  ⟨fun _ a b => ⟨.f_TSN_CTL_LEN, h, n, rfl, a, b⟩⟩
theorem ws_f_TSN_STATUS_CONFIG_ERR {W : Nat} {n : Nat} (h : W.testBit 661 = true) : WrF W (F.TSN_STATUS_CONFIG_ERR n) :=
  ⟨fun _ a b => ⟨.f_TSN_STATUS_CONFIG_ERR, h, n, rfl, a, b⟩⟩
theorem ws_f_TSN_STATUS_OPER_ACTIVE {W : Nat} {n : Nat} (h : W.testBit 662 = true) : WrF W (F.TSN_STATUS_OPER_ACTIVE n) :=
  ⟨fun _ a b => ⟨.f_TSN_STATUS_OPER_ACTIVE, h, n, rfl, a, b⟩⟩
theorem ws_f_TSN_STATUS_OPER_LEN {W : Nat} {n : Nat} (h : W.testBit 663 = true) : WrF W (F.TSN_STATUS_OPER_LEN n) :=
  ⟨fun _ a b => ⟨.f_TSN_STATUS_OPER_LEN, h, n, rfl, a, b⟩⟩
theorem ws_f_TSN_STATUS_PENDING {W : Nat} {n : Nat} (h : W.testBit 664 = true) : WrF W (F.TSN_STATUS_PENDING n) :=
  ⟨fun _ a b => ⟨.f_TSN_STATUS_PENDING, h, n, rfl, a, b⟩⟩
theorem ws_f_TSN_STATUS_STEP_RESYNC {W : Nat} {n : Nat} (h : W.testBit 665 = true) : WrF W (F.TSN_STATUS_STEP_RESYNC n) :=
  ⟨fun _ a b => ⟨.f_TSN_STATUS_STEP_RESYNC, h, n, rfl, a, b⟩⟩
theorem ws_w_areaWord {W : Nat} {n m : Nat} (h : W.testBit 666 = true) : Wr W (areaWord n m) :=
  ⟨fun _ => ⟨.w_areaWord, h, n, m, rfl⟩⟩
theorem ws_w_auxWord {W : Nat} {n m : Nat} (h : W.testBit 667 = true) : Wr W (auxWord n m) :=
  ⟨fun _ => ⟨.w_auxWord, h, n, m, rfl⟩⟩
theorem ws_w_axisWord {W : Nat} {n m : Nat} (h : W.testBit 668 = true) : Wr W (axisWord n m) :=
  ⟨fun _ => ⟨.w_axisWord, h, n, m, rfl⟩⟩
theorem ws_w_canEb {W : Nat} {n m k : Nat} (h : W.testBit 669 = true) : Wr W (canEb n m k) :=
  ⟨fun _ => ⟨.w_canEb, h, n, m, k, rfl⟩⟩
theorem ws_w_canRx {W : Nat} {n m k j : Nat} (h : W.testBit 670 = true) : Wr W (canRx n m k j) :=
  ⟨fun _ => ⟨.w_canRx, h, n, m, k, j, rfl⟩⟩
theorem ws_w_canTt {W : Nat} {n m k : Nat} (h : W.testBit 671 = true) : Wr W (canTt n m k) :=
  ⟨fun _ => ⟨.w_canTt, h, n, m, k, rfl⟩⟩
theorem ws_w_canWord {W : Nat} {n m : Nat} (h : W.testBit 672 = true) : Wr W (canWord n m) :=
  ⟨fun _ => ⟨.w_canWord, h, n, m, rfl⟩⟩
theorem ws_w_cmpField {W : Nat} {n m : Nat} (h : W.testBit 673 = true) : WrF W (cmpField n m) :=
  ⟨fun _ a b => ⟨.w_cmpField, h, n, m, rfl, a, b⟩⟩
theorem ws_w_cqCfg {W : Nat} {n m : Nat} (h : W.testBit 674 = true) : Wr W (cqCfg n m) :=
  ⟨fun _ => ⟨.w_cqCfg, h, n, m, rfl⟩⟩
theorem ws_w_cqSeq {W : Nat} {n m : Nat} (h : W.testBit 675 = true) : Wr W (cqSeq n m) :=
  ⟨fun _ => ⟨.w_cqSeq, h, n, m, rfl⟩⟩
theorem ws_w_cqStatus {W : Nat} {n m : Nat} (h : W.testBit 676 = true) : Wr W (cqStatus n m) :=
  ⟨fun _ => ⟨.w_cqStatus, h, n, m, rfl⟩⟩
theorem ws_w_dtField {W : Nat} {n m : Nat} (h : W.testBit 677 = true) : WrF W (dtField n m) :=
  ⟨fun _ a b => ⟨.w_dtField, h, n, m, rfl, a, b⟩⟩
theorem ws_w_exWord {W : Nat} {n m : Nat} (h : W.testBit 678 = true) : Wr W (exWord n m) :=
  ⟨fun _ => ⟨.w_exWord, h, n, m, rfl⟩⟩
theorem ws_w_measField {W : Nat} {n m : Nat} (h : W.testBit 679 = true) : WrF W (measField n m) :=
  ⟨fun _ a b => ⟨.w_measField, h, n, m, rfl, a, b⟩⟩
theorem ws_w_missField {W : Nat} {n m : Nat} (h : W.testBit 680 = true) : WrF W (missField n m) :=
  ⟨fun _ a b => ⟨.w_missField, h, n, m, rfl, a, b⟩⟩
theorem ws_w_missFlag {W : Nat} {n m : Nat} (h : W.testBit 681 = true) : WrF W (missFlag n m) :=
  ⟨fun _ a b => ⟨.w_missFlag, h, n, m, rfl, a, b⟩⟩
theorem ws_w_pmAddr {W : Nat} {n m : Nat} (h : W.testBit 682 = true) : Wr W (pmAddr n m) :=
  ⟨fun _ => ⟨.w_pmAddr, h, n, m, rfl⟩⟩

end Sys2Proof.Machine
end

