-- ==== Sys2Proof/Laws/Keep.lean ====
section
/-! SUPPORT. The laws of `Ok`, from which every lemma of Laws/Keep*.lean is built. `Ok E W s t` says what the definitions
keep from `s` to `t`: the waiting commands, the canonical forms, every part of the state whose bit `E` does not have, every bit
of the register window that no slot of `W` covers, and, without bit 41 of `E`, the global safe state once forced. -/

namespace Sys2Proof.Machine

/-- The number of a part's bit. -/
def Part.idx (p : Part) : Nat :=
  match p with
  | .pending => 0
  | .regs => 1
  | .mem => 2
  | .pol => 3
  | .free => 4
  | .out => 5
  | .tb => 6
  | .lqs => 7
  | .held => 8
  | .evt => 9
  | .pwm => 10
  | .bch => 11
  | .mg => 12
  | .clk => 13
  | .saf => 14
  | .sense => 15
  | .snaps => 16
  | .fb => 17
  | .prb => 18
  | .chans => 19
  | .grps => 20
  | .ae => 21
  | .sup => 22
  | .hif => 23
  | .setp => 24
  | .wide => 25
  | .msix => 26
  | .ipm => 27
  | .lsh => 28
  | .aux => 29
  | .adc => 30
  | .cap => 31
  | .env => 32
  | .eth => 33
  | .fdb => 34
  | .can => 35
  | .fio => 36
  | .stag => 37

/-- Has the second number every bit of the first? -/
def sub (a b : Nat) : Bool := a &&& b == a

theorem sub_bit {a b i : Nat} (h : sub a b = true) (g : a.testBit i = true) : b.testBit i = true := by
  have h : a &&& b = a := by simpa [sub] using h
  rw [← h, Nat.testBit_and] at g
  exact (Bool.and_eq_true _ _ ▸ g).2

theorem any_bit {W : Nat} (h : sub allSlots W = true) : W.testBit 0 = true := sub_bit h any_bit_all

theorem sub_trans {a b c : Nat} (h : sub a b = true) (g : sub b c = true) : sub a c = true := by
  have h : a &&& b = a := by simpa [sub] using h
  have g : b &&& c = b := by simpa [sub] using g
  have : a &&& c = a := by rw [← h, Nat.and_assoc, g]
  simp [sub, this]

/-- What is kept from one state to a later one. -/
def Ok (E W : Nat) (s t : State) : Prop :=
  t.pending = s.pending ∧ (s.canon → t.canon) ∧ (∀ p : Part, E.testBit p.idx = false → samePart p s t) ∧
    (E.testBit 41 = false → s.saf.globalSafe = true → t.saf.globalSafe = true) ∧
    (∀ a i : Nat, (∀ x : Slot, W.testBit x.ctorIdx = true → ¬ x.has a i) → (t.rd a).getLsbD i = (s.rd a).getLsbD i)

/-- What is kept when the outcome is a next state. -/
def OkOut (E W : Nat) (s : State) (r : Res) : Prop :=
  match r with
  | .next t => Ok E W s t
  | .fault _ => True
  | .refused _ => True

theorem samePart_refl (p : Part) (s : State) : samePart p s s := by cases p <;> rfl

theorem samePart_trans {p : Part} {s t u : State} (h : samePart p s t) (g : samePart p t u) : samePart p s u := by
  cases p <;> exact Eq.trans g h

theorem Ok.refl (E W : Nat) (s : State) : Ok E W s s := ⟨rfl, id, fun p _ => samePart_refl p s, fun _ h => h, fun _ _ _ => rfl⟩

theorem Ok.trans {E W : Nat} {s t u : State} (h : Ok E W s t) (g : Ok E W t u) : Ok E W s u :=
  ⟨g.1.trans h.1, fun c => g.2.1 (h.2.1 c), fun p e => samePart_trans (h.2.2.1 p e) (g.2.2.1 p e),
    fun e c => g.2.2.2.1 e (h.2.2.2.1 e c), fun a i w => (g.2.2.2.2 a i w).trans (h.2.2.2.2 a i w)⟩

theorem okOut_next {E W : Nat} {s t : State} (h : Ok E W s t) : OkOut E W s (.next t) := h

theorem okOut_fault {E W : Nat} {s : State} {f : Fault} : OkOut E W s (.fault f) := trivial

theorem ok_ite {E W : Nat} {s0 s t : State} {c : Prop} [Decidable c] (h : c → Ok E W s0 s) (g : ¬ c → Ok E W s0 t) :
    Ok E W s0 (if c then s else t) := by
  split
  · exact h ‹_›
  · exact g ‹_›

theorem part_of {α : Type} {x y : α} {b : Bool} (h : x = y ∨ b = true) (g : b = false) : x = y := by
  rcases h with h | h
  · exact h
  · rw [g] at h
    exact absurd h (by decide)

/-- A record update that leaves the queue, the register window and the memories alone. -/
theorem ok_mk {E W : Nat} {s0 s : State} {pol' free' out' tb' lqs' held' evt' pwm' bch' mg' clk' saf' sense' snaps' fb' prb' chans' grps' ae' sup' hif' setp' wide' msix' ipm' lsh' aux' adc' cap' env' eth' fdb' can' fio' stag'}
    (hi : ipm'.sram = s.ipm.sram)
    (hs : saf'.globalSafe = s.saf.globalSafe ∨ saf'.globalSafe = true ∨ E.testBit 41 = true)
    (h_pol : pol' = s.pol ∨ E.testBit 3 = true)
    (h_free : free' = s.free ∨ E.testBit 4 = true)
    (h_out : out' = s.out ∨ E.testBit 5 = true)
    (h_tb : tb' = s.tb ∨ E.testBit 6 = true)
    (h_lqs : lqs' = s.lqs ∨ E.testBit 7 = true)
    (h_held : held' = s.held ∨ E.testBit 8 = true)
    (h_evt : evt' = s.evt ∨ E.testBit 9 = true)
    (h_pwm : pwm' = s.pwm ∨ E.testBit 10 = true)
    (h_bch : bch' = s.bch ∨ E.testBit 11 = true)
    (h_mg : mg' = s.mg ∨ E.testBit 12 = true)
    (h_clk : clk' = s.clk ∨ E.testBit 13 = true)
    (h_saf : saf' = s.saf ∨ E.testBit 14 = true)
    (h_sense : sense' = s.sense ∨ E.testBit 15 = true)
    (h_snaps : snaps' = s.snaps ∨ E.testBit 16 = true)
    (h_fb : fb' = s.fb ∨ E.testBit 17 = true)
    (h_prb : prb' = s.prb ∨ E.testBit 18 = true)
    (h_chans : chans' = s.chans ∨ E.testBit 19 = true)
    (h_grps : grps' = s.grps ∨ E.testBit 20 = true)
    (h_ae : ae' = s.ae ∨ E.testBit 21 = true)
    (h_sup : sup' = s.sup ∨ E.testBit 22 = true)
    (h_hif : hif' = s.hif ∨ E.testBit 23 = true)
    (h_setp : setp' = s.setp ∨ E.testBit 24 = true)
    (h_wide : wide' = s.wide ∨ E.testBit 25 = true)
    (h_msix : msix' = s.msix ∨ E.testBit 26 = true)
    (h_ipm : ipm' = s.ipm ∨ E.testBit 27 = true)
    (h_lsh : lsh' = s.lsh ∨ E.testBit 28 = true)
    (h_aux : aux' = s.aux ∨ E.testBit 29 = true)
    (h_adc : adc' = s.adc ∨ E.testBit 30 = true)
    (h_cap : cap' = s.cap ∨ E.testBit 31 = true)
    (h_env : env' = s.env ∨ E.testBit 32 = true)
    (h_eth : eth' = s.eth ∨ E.testBit 33 = true)
    (h_fdb : fdb' = s.fdb ∨ E.testBit 34 = true)
    (h_can : can' = s.can ∨ E.testBit 35 = true)
    (h_fio : fio' = s.fio ∨ E.testBit 36 = true)
    (h_stag : stag' = s.stag ∨ E.testBit 37 = true) (h : Ok E W s0 s) :
    Ok E W s0 (State.mk s.pending s.regs s.mem pol' free' out' tb' lqs' held' evt' pwm' bch' mg' clk' saf' sense' snaps' fb' prb' chans' grps' ae' sup' hif' setp' wide' msix' ipm' lsh' aux' adc' cap' env' eth' fdb' can' fio' stag') := by
  refine h.trans ⟨rfl, fun c => ?_, fun p hp => ?_, fun e c => ?_, fun _ _ _ => rfl⟩
  · simp only [State.canon, hi] at c ⊢
    exact c
  · cases p with
    | pending => exact rfl
    | regs => exact rfl
    | mem => exact rfl
    | pol => exact part_of h_pol hp
    | free => exact part_of h_free hp
    | out => exact part_of h_out hp
    | tb => exact part_of h_tb hp
    | lqs => exact part_of h_lqs hp
    | held => exact part_of h_held hp
    | evt => exact part_of h_evt hp
    | pwm => exact part_of h_pwm hp
    | bch => exact part_of h_bch hp
    | mg => exact part_of h_mg hp
    | clk => exact part_of h_clk hp
    | saf => exact part_of h_saf hp
    | sense => exact part_of h_sense hp
    | snaps => exact part_of h_snaps hp
    | fb => exact part_of h_fb hp
    | prb => exact part_of h_prb hp
    | chans => exact part_of h_chans hp
    | grps => exact part_of h_grps hp
    | ae => exact part_of h_ae hp
    | sup => exact part_of h_sup hp
    | hif => exact part_of h_hif hp
    | setp => exact part_of h_setp hp
    | wide => exact part_of h_wide hp
    | msix => exact part_of h_msix hp
    | ipm => exact part_of h_ipm hp
    | lsh => exact part_of h_lsh hp
    | aux => exact part_of h_aux hp
    | adc => exact part_of h_adc hp
    | cap => exact part_of h_cap hp
    | env => exact part_of h_env hp
    | eth => exact part_of h_eth hp
    | fdb => exact part_of h_fdb hp
    | can => exact part_of h_can hp
    | fio => exact part_of h_fio hp
    | stag => exact part_of h_stag hp
  · rcases hs with hs | hs | hs
    · exact hs.trans c
    · exact hs
    · rw [e] at hs
      exact absurd hs (by decide)

/-- A change of the register window that keeps its canonical form and every bit that no slot covers. -/
theorem ok_regs {E W : Nat} {s0 s : State} {r : List (Nat × Word)} (hE : sub 2 E = true) (h : Ok E W s0 s)
    (w : Window.wf s.regs = true → Window.wf r = true)
    (v : ∀ a i : Nat, (∀ x : Slot, W.testBit x.ctorIdx = true → ¬ x.has a i) →
      (tabGet regReset r a).getLsbD i = (s.rd a).getLsbD i) : Ok E W s0 { s with regs := r } := by
  refine h.trans ⟨rfl, fun c => ⟨w c.1, c.2⟩, fun p hp => ?_, fun _ c => c, v⟩
  cases p
  case regs => exact part_of (.inr (sub_bit hE rfl)) hp
  all_goals rfl

/-- A change of the in-package memory, and of what is kept with it but the SRAM, that keeps the canonical form. -/
theorem ok_mem {E W : Nat} {s0 s : State} {m : List Host.Cell} {x : MemSt} (hE : sub 134217732 E = true) (h : Ok E W s0 s)
    (w : Memory.wf s.mem = true → Memory.wf m = true)
    (v : Memory.wf s.ipm.sram = true → Memory.wf x.sram = true) : Ok E W s0 { s with mem := m, ipm := x } := by
  refine h.trans ⟨rfl, fun c => ⟨c.1, w c.2.1, v c.2.2⟩, fun p hp => ?_, fun _ c => c, fun _ _ _ => rfl⟩
  cases p
  case mem => exact part_of (.inr (sub_bit hE rfl)) hp
  case ipm => exact part_of (.inr (sub_bit hE rfl)) hp
  all_goals rfl

end Sys2Proof.Machine
end

