-- ==== Sys2Proof/Laws/Frames.lean ====
section
/-! SUPPORT. From what a definition keeps to the words of the claims: the parts and the bits that a command leaves alone, the
canonical forms, and the global safe state. -/

namespace Sys2Proof.Machine

theorem Part.mem_all (p : Part) : p ∈ Part.all := by cases p <;> decide

/-- The number with the bits of the listed parts. -/
def partMask (l : List Part) : Nat := l.foldl (fun m p => m ||| 2 ^ p.idx) 0

/-- The number with the bits of the listed slots. -/
def slotMask (l : List Slot) : Nat := l.foldl (fun m x => m ||| 1 <<< x.ctorIdx) 0

theorem Part.idx_inj {p q : Part} (h : p.idx = q.idx) : p = q := by
  cases p <;> cases q <;> first | rfl | exact absurd h (by decide)

theorem partMask_bit (l : List Part) (m : Nat) (p : Part) :
    (l.foldl (fun m q => m ||| 2 ^ q.idx) m).testBit p.idx = true → m.testBit p.idx = true ∨ p ∈ l := by
  induction l generalizing m with
  | nil => exact .inl
  | cons q l ih =>
    intro h
    rcases ih _ h with h | h
    · rw [Nat.testBit_or, Bool.or_eq_true] at h
      rcases h with h | h
      · exact .inl h
      · rw [Nat.testBit_two_pow] at h
        have : p = q := Part.idx_inj (of_decide_eq_true h).symm
        exact .inr (by rw [this]; exact List.mem_cons_self ..)
    · exact .inr (List.mem_cons_of_mem _ h)

theorem slotMask_bit (l : List Slot) (m : Nat) (x : Slot) :
    (l.foldl (fun m y => m ||| 1 <<< y.ctorIdx) m).testBit x.ctorIdx = true →
      m.testBit x.ctorIdx = true ∨ ∃ y ∈ l, y.ctorIdx = x.ctorIdx := by
  induction l generalizing m with
  | nil => exact .inl
  | cons q l ih =>
    intro h
    rcases ih _ h with h | ⟨y, hy, e⟩
    · rw [Nat.testBit_or, Bool.or_eq_true] at h
      rcases h with h | h
      · exact .inl h
      · rw [Nat.shiftLeft_eq, Nat.one_mul, Nat.testBit_two_pow] at h
        exact .inr ⟨q, List.mem_cons_self .., of_decide_eq_true h⟩
    · exact .inr ⟨y, List.mem_cons_of_mem _ hy, e⟩

/-- The parts that a mask does not have are the same. -/
theorem sameBut_of_ok {E W : Nat} {s t : State} {l : List Part} (h : Ok E W s t) (e : sub E (partMask l ||| 2 ^ 41) = true) :
    sameBut l s t := by
  intro p hp
  refine h.2.2.1 p ?_
  cases c : E.testBit p.idx with
  | false => rfl
  | true =>
    have d := sub_bit e c
    rw [Nat.testBit_or, Bool.or_eq_true] at d
    rcases d with d | d
    · rcases partMask_bit l 0 p d with d | d
      · simp at d
      · exact absurd d hp
    · rw [Nat.testBit_two_pow] at d
      cases p <;> exact absurd (of_decide_eq_true d) (by decide)

theorem Slot.ctorIdx_inj {x y : Slot} (h : x.ctorIdx = y.ctorIdx) : x = y := by
  rw [← Slot.ofNat_ctorIdx x, h, Slot.ofNat_ctorIdx y]

/-- The bits of the window that no slot of a mask covers are the same. -/
theorem sameBits_of_ok {E W : Nat} {s t : State} {l : List Slot} (h : Ok E W s t) (e : sub W (slotMask l) = true) :
    sameBitsBut l s t := by
  intro a i n
  refine h.2.2.2.2 a i fun x hx => ?_
  rcases slotMask_bit l 0 x (sub_bit e hx) with d | ⟨y, hy, d⟩
  · simp at d
  · rw [← Slot.ctorIdx_inj d]
    exact n y hy

/-- A list with the whole window says nothing about it. -/
theorem sameBits_any {s t : State} : sameBitsBut [.any] s t := fun _ _ n => absurd trivial (n .any (List.mem_singleton_self _))

/-- What is kept by an outcome that is a next state. -/
theorem ok_of_out {E W : Nat} {s t : State} {r : Res} (h : OkOut E W s r) (e : r = .next t) : Ok E W s t := by
  subst e
  exact h

end Sys2Proof.Machine
end

