-- ==== Sys2Proof/Laws/KeepOps.lean ====
section
/-! SUPPORT. What the definitions of Machine/Ops.lean keep: the queue, and the canonical forms of the register window and of
the memories; one lemma for each. -/

namespace Sys2Proof.Machine

theorem State.wr_ok {s0 : State} {E W : Nat} {s a v} (hE : sub 2 E = true) (hW : sub 0 W = true) (hw : Wr W a) (h : Ok E W s0 s) :
    Ok E W s0 (State.wr s a v) := by
  refine ok_regs hE h (fun w => tabSet_wf _ _ _ w) fun b i n => ?_
  by_cases e : b = a
  · subst e
    obtain ⟨x, hx, hy⟩ := hw.all i
    exact absurd hy (n x hx)
  · exact congrArg (fun v => v.getLsbD i) (State.rd_wr_ne s v e)

theorem State.merge_ok {s0 : State} {E W : Nat} {s a v} (hE : sub 2 E = true) (hW : sub 0 W = true) (hw0 : Wr W a) (h : Ok E W s0 s) :
    Ok E W s0 (State.merge s a v) := by
  unfold State.merge
  repeat' first
    | exact sub_trans rfl hE | exact sub_trans rfl hW | exact sub_bit hW rfl | with_reducible first | assumption | apply State.wr_ok
    | intro _
    | dsimp only
    | with_reducible apply ok_ite
    | split

theorem State.raiseTo_ok {s0 : State} {E W : Nat} {s k payload dest} (hE : sub 512 E = true) (hW : sub 0 W = true) (h : Ok E W s0 s) :
    Ok E W s0 (State.raiseTo s k payload dest) := by
  unfold State.raiseTo
  repeat' first
    | exact sub_trans rfl hE | exact sub_trans rfl hW | exact sub_bit hW rfl | with_reducible first | assumption
    | intro _
    | dsimp only
    | with_reducible apply ok_ite
    | ((with_reducible apply ok_mk) <;> first | exact Or.inr (sub_bit hE rfl) | exact Or.inr (Or.inr (sub_bit hE rfl)) | with_reducible first | exact Or.inl rfl | exact rfl | exact Or.inr (Or.inl rfl) | assumption | apply ok_ite)
    | split

theorem State.p_ok {s0 : State} {E W : Nat} {s f x} (hE : sub 2 E = true) (hW : sub 0 W = true) (hw : WrF W f) (h : Ok E W s0 s) :
    Ok E W s0 (State.p s f x) := by
  refine ok_regs hE h (fun w => tabSet_wf _ _ _ w) fun b i n => ?_
  by_cases e : b = f.addr
  · subst e
    have r : ((s.p f x).rd f.addr).getLsbD i = (s.rd f.addr).getLsbD i := by
      rw [State.rd_p_same, putBits_getLsbD]
      by_cases c : f.lo ≤ i ∧ i < f.lo + f.w
      · obtain ⟨y, hx, hy⟩ := hw.all i c.1 c.2
        exact absurd hy (n y hx)
      · rw [if_neg c]
        by_cases l : i < 32
        · simp [l]
        · simp [l]
          rw [BitVec.getLsbD_of_ge _ _ (by omega)]
    exact r
  · exact congrArg (fun v => v.getLsbD i) (State.rd_p_ne s x e)

theorem State.count_ok {s0 : State} {E W : Nat} {s f d} (hE : sub 2 E = true) (hW : sub 0 W = true) (hw : WrF W f) (h : Ok E W s0 s) :
    Ok E W s0 (State.count s f d) := by
  unfold State.count
  repeat' first
    | exact sub_trans rfl hE | exact sub_trans rfl hW | exact sub_bit hW rfl | with_reducible first | assumption | apply State.p_ok
    | intro _
    | dsimp only
    | with_reducible apply ok_ite
    | split

theorem State.dropLog_ok {s0 : State} {E W : Nat} {s code dest a reason} (hE : sub 514 E = true) (hW : sub 77467496342607257689677575160090356229891173784876705384919780696219428660505235838889360598404134943104765275292989128704 W = true) (h : Ok E W s0 s) :
    Ok E W s0 (State.dropLog s code dest a reason) := by
  unfold State.dropLog
  repeat' first
    | exact sub_trans rfl hE | exact sub_trans rfl hW | exact sub_bit hW rfl | with_reducible first | assumption | apply State.wr_ok | apply State.p_ok | apply State.count_ok | apply State.raiseTo_ok | apply ws_f_EVT_PWF_INFO_INITIATOR | apply ws_f_EVT_PWF_INFO_REASON | apply ws_f_EVT_PWF_STATUS_COUNT | apply ws_f_EVT_PWF_STATUS_NEWEST | apply ws_r_EVT_PWF_ADDR | apply ws_r_EVT_PWF_STAMP | apply wrF_of_wr
    | intro _
    | dsimp only
    | with_reducible apply ok_ite
    | split

theorem State.logDropped_ok {s0 : State} {E W : Nat} {s rq a reason} (hE : sub 514 E = true) (hW : sub 77467496342607257689677575160090356229891173784876705384919780696219428660505235838889360598404134943104765275292989128704 W = true) (h : Ok E W s0 s) :
    Ok E W s0 (State.logDropped s rq a reason) := by
  unfold State.logDropped
  repeat' first
    | exact sub_trans rfl hE | exact sub_trans rfl hW | exact sub_bit hW rfl | with_reducible first | assumption | apply State.dropLog_ok
    | intro _
    | dsimp only
    | with_reducible apply ok_ite
    | split

theorem State.write_ok {s0 : State} {E W : Nat} {s rq a k} (hE : sub 514 E = true) (hW : sub 77467496342607257689677575160090356229891173784876705384919780696219428660505235838889360598404134943104765275292989128704 W = true) (h : Ok E W s0 s) (hk : ∀ t, Ok E W s0 t → Ok E W s0 (k t)) :
    Ok E W s0 (State.write s rq a k) := by
  unfold State.write
  repeat' first
    | exact sub_trans rfl hE | exact sub_trans rfl hW | exact sub_bit hW rfl | with_reducible first | assumption | apply hk | apply State.logDropped_ok
    | intro _
    | dsimp only
    | with_reducible apply ok_ite
    | split

theorem State.each_ok {s0 : State} {E W : Nat} {α : Type} {l : List α} {k : α → State → State} {s} (hE : sub 0 E = true) (hW : sub 0 W = true)
    (h : Ok E W s0 s) (hk : ∀ x t, Ok E W s0 t → Ok E W s0 (k x t)) : Ok E W s0 (State.each s l k) := by
  unfold State.each
  induction l generalizing s with
  | nil => exact h
  | cons x l ih => exact ih (hk x s h)

theorem State.emit_ok {s0 : State} {E W : Nat} {s o} (hE : sub 32 E = true) (hW : sub 0 W = true) (h : Ok E W s0 s) :
    Ok E W s0 (State.emit s o) := by
  unfold State.emit
  repeat' first
    | exact sub_trans rfl hE | exact sub_trans rfl hW | exact sub_bit hW rfl | with_reducible first | assumption
    | intro _
    | dsimp only
    | with_reducible apply ok_ite
    | ((with_reducible apply ok_mk) <;> first | exact Or.inr (sub_bit hE rfl) | exact Or.inr (Or.inr (sub_bit hE rfl)) | with_reducible first | exact Or.inl rfl | exact rfl | exact Or.inr (Or.inl rfl) | assumption | apply ok_ite)
    | split

theorem State.hostFetch_ok {s0 : State} {E W : Nat} {s n a len} (hE : sub 32 E = true) (hW : sub 0 W = true) (h : Ok E W s0 s) :
    Ok E W s0 (State.hostFetch s n a len) := by
  unfold State.hostFetch
  repeat' first
    | exact sub_trans rfl hE | exact sub_trans rfl hW | exact sub_bit hW rfl | with_reducible first | assumption | apply State.each_ok | apply State.emit_ok
    | intro _
    | dsimp only
    | with_reducible apply ok_ite
    | split

theorem State.addLife_ok {s0 : State} {E W : Nat} {s i d} (hE : sub 4096 E = true) (hW : sub 0 W = true) (h : Ok E W s0 s) :
    Ok E W s0 (State.addLife s i d) := by
  unfold State.addLife
  repeat' first
    | exact sub_trans rfl hE | exact sub_trans rfl hW | exact sub_bit hW rfl | with_reducible first | assumption
    | intro _
    | dsimp only
    | with_reducible apply ok_ite
    | ((with_reducible apply ok_mk) <;> first | exact Or.inr (sub_bit hE rfl) | exact Or.inr (Or.inr (sub_bit hE rfl)) | with_reducible first | exact Or.inl rfl | exact rfl | exact Or.inr (Or.inl rfl) | assumption | apply ok_ite)
    | split

theorem State.notePos_ok {s0 : State} {E W : Nat} {s k p} (hE : sub 32768 E = true) (hW : sub 0 W = true) (h : Ok E W s0 s) :
    Ok E W s0 (State.notePos s k p) := by
  unfold State.notePos
  repeat' first
    | exact sub_trans rfl hE | exact sub_trans rfl hW | exact sub_bit hW rfl | with_reducible first | assumption
    | intro _
    | dsimp only
    | with_reducible apply ok_ite
    | ((with_reducible apply ok_mk) <;> first | exact Or.inr (sub_bit hE rfl) | exact Or.inr (Or.inr (sub_bit hE rfl)) | with_reducible first | exact Or.inl rfl | exact rfl | exact Or.inr (Or.inl rfl) | assumption | apply ok_ite)
    | split

theorem State.pi_ok {s0 : State} {E W : Nat} {s f x} (hE : sub 2 E = true) (hW : sub 0 W = true) (hw : WrF W f) (h : Ok E W s0 s) :
    Ok E W s0 (State.pi s f x) := by
  unfold State.pi
  repeat' first
    | exact sub_trans rfl hE | exact sub_trans rfl hW | exact sub_bit hW rfl | with_reducible first | assumption | apply State.p_ok
    | intro _
    | dsimp only
    | with_reducible apply ok_ite
    | split

theorem State.took_ok {s0 : State} {E W : Nat} {s} (hE : sub 16 E = true) (hW : sub 0 W = true) (h : Ok E W s0 s) :
    Ok E W s0 (State.took s) := by
  unfold State.took
  repeat' first
    | exact sub_trans rfl hE | exact sub_trans rfl hW | exact sub_bit hW rfl | with_reducible first | assumption
    | intro _
    | dsimp only
    | with_reducible apply ok_ite
    | ((with_reducible apply ok_mk) <;> first | exact Or.inr (sub_bit hE rfl) | exact Or.inr (Or.inr (sub_bit hE rfl)) | with_reducible first | exact Or.inl rfl | exact rfl | exact Or.inr (Or.inl rfl) | assumption | apply ok_ite)
    | split

theorem State.rwsCheck_ok {s0 : State} {E W : Nat} {s rq a v} (hE : sub 512 E = true) (hW : sub 0 W = true) (h : Ok E W s0 s) :
    Ok E W s0 (State.rwsCheck s rq a v) := by
  unfold State.rwsCheck
  repeat' first
    | exact sub_trans rfl hE | exact sub_trans rfl hW | exact sub_bit hW rfl | with_reducible first | assumption | apply State.raiseTo_ok
    | intro _
    | dsimp only
    | with_reducible apply ok_ite
    | ((with_reducible apply ok_mk) <;> first | exact Or.inr (sub_bit hE rfl) | exact Or.inr (Or.inr (sub_bit hE rfl)) | with_reducible first | exact Or.inl rfl | exact rfl | exact Or.inr (Or.inl rfl) | assumption | apply ok_ite | apply State.raiseTo_ok)
    | split

theorem State.rwsWrite_ok {s0 : State} {E W : Nat} {s rq a v k} (hE : sub 514 E = true) (hW : sub 77467496342607257689677575160090356229891173784876705384919780696219428660505235838889360598404134943104765275292989128704 W = true) (h : Ok E W s0 s) (hk : ∀ t, Ok E W s0 t → Ok E W s0 (k t)) :
    Ok E W s0 (State.rwsWrite s rq a v k) := by
  unfold State.rwsWrite
  repeat' first
    | exact sub_trans rfl hE | exact sub_trans rfl hW | exact sub_bit hW rfl | with_reducible first | assumption | apply hk | apply State.logDropped_ok | apply State.rwsCheck_ok
    | intro _
    | dsimp only
    | with_reducible apply ok_ite
    | split

theorem State.wrapCount_ok {s0 : State} {E W : Nat} {s f} (hE : sub 2 E = true) (hW : sub 0 W = true) (hw : WrF W f) (h : Ok E W s0 s) :
    Ok E W s0 (State.wrapCount s f) := by
  unfold State.wrapCount
  repeat' first
    | exact sub_trans rfl hE | exact sub_trans rfl hW | exact sub_bit hW rfl | with_reducible first | assumption | apply State.p_ok
    | intro _
    | dsimp only
    | with_reducible apply ok_ite
    | split

theorem State.setAe_ok {s0 : State} {E W : Nat} {s n x} (hE : sub 2097152 E = true) (hW : sub 0 W = true) (h : Ok E W s0 s) :
    Ok E W s0 (State.setAe s n x) := by
  unfold State.setAe
  repeat' first
    | exact sub_trans rfl hE | exact sub_trans rfl hW | exact sub_bit hW rfl | with_reducible first | assumption
    | intro _
    | dsimp only
    | with_reducible apply ok_ite
    | ((with_reducible apply ok_mk) <;> first | exact Or.inr (sub_bit hE rfl) | exact Or.inr (Or.inr (sub_bit hE rfl)) | with_reducible first | exact Or.inl rfl | exact rfl | exact Or.inr (Or.inl rfl) | assumption | apply ok_ite)
    | split

theorem State.keepRegs_ok {s0 : State} {E W : Nat} {s p} (hE : sub 2 E = true) (hW : sub allSlots W = true) (h : Ok E W s0 s) :
    Ok E W s0 (State.keepRegs s p) :=
  ok_regs hE h (fun w => tabFilter_wf _ _ w) fun _ _ n => absurd trivial (n .any (any_bit hW))

theorem State.hostSend_ok {s0 : State} {E W : Nat} {s n a l} (hE : sub 32 E = true) (hW : sub 0 W = true) (h : Ok E W s0 s) :
    Ok E W s0 (State.hostSend s n a l) := by
  unfold State.hostSend
  repeat' first
    | exact sub_trans rfl hE | exact sub_trans rfl hW | exact sub_bit hW rfl | with_reducible first | assumption | apply State.each_ok | apply State.emit_ok
    | intro _
    | dsimp only
    | with_reducible apply ok_ite
    | split

theorem State.hostWrite_ok {s0 : State} {E W : Nat} {s code a l} (hE : sub 546 E = true) (hW : sub 77467496342607257689677575160090356229891173784876705384919780696219428660505235838889360598404134943104765275292989128704 W = true) (h : Ok E W s0 s) :
    Ok E W s0 (State.hostWrite s code a l) := by
  unfold State.hostWrite
  repeat' first
    | exact sub_trans rfl hE | exact sub_trans rfl hW | exact sub_bit hW rfl | with_reducible first | assumption | apply State.dropLog_ok | apply State.hostSend_ok
    | intro _
    | dsimp only
    | with_reducible apply ok_ite
    | split

theorem State.pb_ok {s0 : State} {E W : Nat} {s f b} (hE : sub 2 E = true) (hW : sub 0 W = true) (hw : WrF W f) (h : Ok E W s0 s) :
    Ok E W s0 (State.pb s f b) := by
  unfold State.pb
  repeat' first
    | exact sub_trans rfl hE | exact sub_trans rfl hW | exact sub_bit hW rfl | with_reducible first | assumption | apply State.p_ok
    | intro _
    | dsimp only
    | with_reducible apply ok_ite
    | split

theorem State.setSup_ok {s0 : State} {E W : Nat} {s m x} (hE : sub 4194304 E = true) (hW : sub 0 W = true) (h : Ok E W s0 s) :
    Ok E W s0 (State.setSup s m x) := by
  unfold State.setSup
  repeat' first
    | exact sub_trans rfl hE | exact sub_trans rfl hW | exact sub_bit hW rfl | with_reducible first | assumption
    | intro _
    | dsimp only
    | with_reducible apply ok_ite
    | ((with_reducible apply ok_mk) <;> first | exact Or.inr (sub_bit hE rfl) | exact Or.inr (Or.inr (sub_bit hE rfl)) | with_reducible first | exact Or.inl rfl | exact rfl | exact Or.inr (Or.inl rfl) | assumption | apply ok_ite)
    | split

theorem State.fillSnap_ok {s0 : State} {E W : Nat} {s rq a regs} (hE : sub 65536 E = true) (hW : sub 0 W = true) (h : Ok E W s0 s) :
    Ok E W s0 (State.fillSnap s rq a regs) := by
  unfold State.fillSnap
  repeat' first
    | exact sub_trans rfl hE | exact sub_trans rfl hW | exact sub_bit hW rfl | with_reducible first | assumption
    | intro _
    | dsimp only
    | with_reducible apply ok_ite
    | ((with_reducible apply ok_mk) <;> first | exact Or.inr (sub_bit hE rfl) | exact Or.inr (Or.inr (sub_bit hE rfl)) | with_reducible first | exact Or.inl rfl | exact rfl | exact Or.inr (Or.inl rfl) | assumption | apply ok_ite)
    | split

theorem State.off_ok {s0 : State} {E W : Nat} {s f} (hE : sub 2 E = true) (hW : sub 0 W = true) (hw : WrF W f) (h : Ok E W s0 s) :
    Ok E W s0 (State.off s f) := by
  unfold State.off
  repeat' first
    | exact sub_trans rfl hE | exact sub_trans rfl hW | exact sub_bit hW rfl | with_reducible first | assumption | apply State.p_ok
    | intro _
    | dsimp only
    | with_reducible apply ok_ite
    | split

theorem State.readAbort_ok {s0 : State} {E W : Nat} {s rq a} (hE : sub 8388640 E = true) (hW : sub 0 W = true) (h : Ok E W s0 s) :
    Ok E W s0 (State.readAbort s rq a) := by
  unfold State.readAbort
  repeat' first
    | exact sub_trans rfl hE | exact sub_trans rfl hW | exact sub_bit hW rfl | with_reducible first | assumption | apply State.emit_ok
    | intro _
    | dsimp only
    | with_reducible apply ok_ite
    | ((with_reducible apply ok_mk) <;> first | exact Or.inr (sub_bit hE rfl) | exact Or.inr (Or.inr (sub_bit hE rfl)) | with_reducible first | exact Or.inl rfl | exact rfl | exact Or.inr (Or.inl rfl) | assumption | apply ok_ite | apply State.emit_ok)
    | split

theorem State.setPwm_ok {s0 : State} {E W : Nat} {s n x} (hE : sub 1024 E = true) (hW : sub 0 W = true) (h : Ok E W s0 s) :
    Ok E W s0 (State.setPwm s n x) := by
  unfold State.setPwm
  repeat' first
    | exact sub_trans rfl hE | exact sub_trans rfl hW | exact sub_bit hW rfl | with_reducible first | assumption
    | intro _
    | dsimp only
    | with_reducible apply ok_ite
    | ((with_reducible apply ok_mk) <;> first | exact Or.inr (sub_bit hE rfl) | exact Or.inr (Or.inr (sub_bit hE rfl)) | with_reducible first | exact Or.inl rfl | exact rfl | exact Or.inr (Or.inl rfl) | assumption | apply ok_ite)
    | split

theorem State.setBch_ok {s0 : State} {E W : Nat} {s g x} (hE : sub 2048 E = true) (hW : sub 0 W = true) (h : Ok E W s0 s) :
    Ok E W s0 (State.setBch s g x) := by
  unfold State.setBch
  repeat' first
    | exact sub_trans rfl hE | exact sub_trans rfl hW | exact sub_bit hW rfl | with_reducible first | assumption
    | intro _
    | dsimp only
    | with_reducible apply ok_ite
    | ((with_reducible apply ok_mk) <;> first | exact Or.inr (sub_bit hE rfl) | exact Or.inr (Or.inr (sub_bit hE rfl)) | with_reducible first | exact Or.inl rfl | exact rfl | exact Or.inr (Or.inl rfl) | assumption | apply ok_ite)
    | split

theorem State.setChan_ok {s0 : State} {E W : Nat} {s k x} (hE : sub 524288 E = true) (hW : sub 0 W = true) (h : Ok E W s0 s) :
    Ok E W s0 (State.setChan s k x) := by
  unfold State.setChan
  repeat' first
    | exact sub_trans rfl hE | exact sub_trans rfl hW | exact sub_bit hW rfl | with_reducible first | assumption
    | intro _
    | dsimp only
    | with_reducible apply ok_ite
    | ((with_reducible apply ok_mk) <;> first | exact Or.inr (sub_bit hE rfl) | exact Or.inr (Or.inr (sub_bit hE rfl)) | with_reducible first | exact Or.inl rfl | exact rfl | exact Or.inr (Or.inl rfl) | assumption | apply ok_ite)
    | split

theorem State.setLq_ok {s0 : State} {E W : Nat} {s q x} (hE : sub 130 E = true) (hW : sub 390218568789499028922699653724145788218574767833121393857394619953171467352470702515038262882936496394978366390175828016673501870583570025676800 W = true) (h : Ok E W s0 s) :
    Ok E W s0 (State.setLq s q x) := by
  unfold State.setLq
  repeat' first
    | exact sub_trans rfl hE | exact sub_trans rfl hW | exact sub_bit hW rfl | with_reducible first | assumption | apply State.wr_ok | apply State.p_ok | apply ws_f_LQ_STATUS_COUNT | apply ws_r_LQ_HEAD_NS | apply wrF_of_wr
    | intro _
    | dsimp only
    | with_reducible apply ok_ite
    | ((with_reducible apply ok_mk) <;> first | exact Or.inr (sub_bit hE rfl) | exact Or.inr (Or.inr (sub_bit hE rfl)) | with_reducible first | exact Or.inl rfl | exact rfl | exact Or.inr (Or.inl rfl) | assumption | apply ok_ite | apply State.wr_ok | apply State.p_ok | apply ws_f_LQ_STATUS_COUNT | apply ws_r_LQ_HEAD_NS | apply wrF_of_wr)
    | split

theorem State.when_ok {s0 : State} {E W : Nat} {s b k} (hE : sub 0 E = true) (hW : sub 0 W = true) (h : Ok E W s0 s) (hk : ∀ t, Ok E W s0 t → Ok E W s0 (k t)) :
    Ok E W s0 (State.when s b k) := by
  unfold State.when
  repeat' first
    | exact sub_trans rfl hE | exact sub_trans rfl hW | exact sub_bit hW rfl | with_reducible first | assumption | apply hk
    | intro _
    | dsimp only
    | with_reducible apply ok_ite
    | split

theorem State.raise_ok {s0 : State} {E W : Nat} {s k payload} (hE : sub 512 E = true) (hW : sub 0 W = true) (h : Ok E W s0 s) :
    Ok E W s0 (State.raise s k payload) := by
  unfold State.raise
  repeat' first
    | exact sub_trans rfl hE | exact sub_trans rfl hW | exact sub_bit hW rfl | with_reducible first | assumption | apply State.raiseTo_ok
    | intro _
    | dsimp only
    | with_reducible apply ok_ite
    | split

theorem State.setEth_ok {s0 : State} {E W : Nat} {s p x} (hE : sub 8589934592 E = true) (hW : sub 0 W = true) (h : Ok E W s0 s) :
    Ok E W s0 (State.setEth s p x) := by
  unfold State.setEth
  repeat' first
    | exact sub_trans rfl hE | exact sub_trans rfl hW | exact sub_bit hW rfl | with_reducible first | assumption
    | intro _
    | dsimp only
    | with_reducible apply ok_ite
    | ((with_reducible apply ok_mk) <;> first | exact Or.inr (sub_bit hE rfl) | exact Or.inr (Or.inr (sub_bit hE rfl)) | with_reducible first | exact Or.inl rfl | exact rfl | exact Or.inr (Or.inl rfl) | assumption | apply ok_ite)
    | split

theorem State.setFb_ok {s0 : State} {E W : Nat} {s n x} (hE : sub 131072 E = true) (hW : sub 0 W = true) (h : Ok E W s0 s) :
    Ok E W s0 (State.setFb s n x) := by
  unfold State.setFb
  repeat' first
    | exact sub_trans rfl hE | exact sub_trans rfl hW | exact sub_bit hW rfl | with_reducible first | assumption
    | intro _
    | dsimp only
    | with_reducible apply ok_ite
    | ((with_reducible apply ok_mk) <;> first | exact Or.inr (sub_bit hE rfl) | exact Or.inr (Or.inr (sub_bit hE rfl)) | with_reducible first | exact Or.inl rfl | exact rfl | exact Or.inr (Or.inl rfl) | assumption | apply ok_ite)
    | split

theorem State.raiseSt_ok {s0 : State} {E W : Nat} {s k addr} (hE : sub 512 E = true) (hW : sub 0 W = true) (h : Ok E W s0 s) :
    Ok E W s0 (State.raiseSt s k addr) := by
  unfold State.raiseSt
  repeat' first
    | exact sub_trans rfl hE | exact sub_trans rfl hW | exact sub_bit hW rfl | with_reducible first | assumption | apply State.raise_ok
    | intro _
    | dsimp only
    | with_reducible apply ok_ite
    | split

theorem State.wr64_ok {s0 : State} {E W : Nat} {s lo hi x} (hE : sub 2 E = true) (hW : sub 0 W = true) (hw0 : Wr W lo) (hw1 : Wr W hi) (h : Ok E W s0 s) :
    Ok E W s0 (State.wr64 s lo hi x) := by
  unfold State.wr64
  repeat' first
    | exact sub_trans rfl hE | exact sub_trans rfl hW | exact sub_bit hW rfl | with_reducible first | assumption | apply State.wr_ok
    | intro _
    | dsimp only
    | with_reducible apply ok_ite
    | split

theorem State.journal_ok {s0 : State} {E W : Nat} {s kind source sev body} (hE : sub 4096 E = true) (hW : sub 0 W = true) (h : Ok E W s0 s) :
    Ok E W s0 (State.journal s kind source sev body) := by
  unfold State.journal
  repeat' first
    | exact sub_trans rfl hE | exact sub_trans rfl hW | exact sub_bit hW rfl | with_reducible first | assumption
    | intro _
    | dsimp only
    | with_reducible apply ok_ite
    | ((with_reducible apply ok_mk) <;> first | exact Or.inr (sub_bit hE rfl) | exact Or.inr (Or.inr (sub_bit hE rfl)) | with_reducible first | exact Or.inl rfl | exact rfl | exact Or.inr (Or.inl rfl) | assumption | apply ok_ite)
    | split

theorem State.stampRead_ok {s0 : State} {E W : Nat} {s rq a regs} (hE : sub 8454176 E = true) (hW : sub 0 W = true) (h : Ok E W s0 s) :
    Ok E W s0 (State.stampRead s rq a regs) := by
  unfold State.stampRead
  repeat' first
    | exact sub_trans rfl hE | exact sub_trans rfl hW | exact sub_bit hW rfl | with_reducible first | assumption | apply State.readAbort_ok | apply State.emit_ok | apply State.fillSnap_ok
    | intro _
    | dsimp only
    | with_reducible apply ok_ite
    | split

theorem State.on_ok {s0 : State} {E W : Nat} {s f} (hE : sub 2 E = true) (hW : sub 0 W = true) (hw : WrF W f) (h : Ok E W s0 s) :
    Ok E W s0 (State.on s f) := by
  unfold State.on
  repeat' first
    | exact sub_trans rfl hE | exact sub_trans rfl hW | exact sub_bit hW rfl | with_reducible first | assumption | apply State.p_ok
    | intro _
    | dsimp only
    | with_reducible apply ok_ite
    | split

end Sys2Proof.Machine
end

