-- ==== Sys2Proof/Laws/KeepLaunch.lean ====
section
/-! SUPPORT. What the definitions of Machine/Launch.lean keep: the queue, and the canonical forms of the register window and of
the memories; one lemma for each. -/

namespace Sys2Proof.Machine

theorem State.pushFlag_ok {s0 : State} {E W : Nat} {s q x2} (hE : sub 2 E = true) (hW : sub 34534343337870664059658919354586902257343866953231243356379423865855674860693657172580886265139879930955585425530560765780893230952126656200835072 W = true) (h : Ok E W s0 s) :
    Ok E W s0 (State.pushFlag s q x2) := by
  unfold State.pushFlag
  repeat' first
    | exact sub_trans rfl hE | exact sub_trans rfl hW | exact sub_bit hW rfl | with_reducible first | assumption | apply State.on_ok | apply ws_f_LQ_STATUS_CODE_ERR | apply ws_f_LQ_STATUS_ORDER_ERR | apply ws_f_LQ_STATUS_OVERFLOW | apply ws_f_LQ_STATUS_TARGET_REFUSED
    | intro _
    | dsimp only
    | with_reducible apply ok_ite
    | split

theorem State.pushRefuse_ok {s0 : State} {E W : Nat} {s q err} (hE : sub 514 E = true) (hW : sub 34534343337870664059658919354586902257343866953231243356379423865855674860693657172580886265139879930955585425530560765780893230952126656200835072 W = true) (h : Ok E W s0 s) :
    Ok E W s0 (State.pushRefuse s q err) := by
  unfold State.pushRefuse
  repeat' first
    | exact sub_trans rfl hE | exact sub_trans rfl hW | exact sub_bit hW rfl | with_reducible first | assumption | apply State.raiseSt_ok | apply State.pushFlag_ok
    | intro _
    | dsimp only
    | with_reducible apply ok_ite
    | split

theorem State.handOver_ok {s0 : State} {E W : Nat} {s q e late} (hE : sub 770 E = true) (hW : sub 1260864198284623334792929283204595641762551656654894293374345388935863096687910739565256520156317300505812095689818112 W = true) (h : Ok E W s0 s) :
    Ok E W s0 (State.handOver s q e late) := by
  unfold State.handOver
  repeat' first
    | exact sub_trans rfl hE | exact sub_trans rfl hW | exact sub_bit hW rfl | with_reducible first | assumption | apply State.raiseSt_ok | apply State.on_ok | apply ws_f_ETH_STATUS_LAUNCH_OVF
    | intro _
    | dsimp only
    | with_reducible apply ok_ite
    | ((with_reducible apply ok_mk) <;> first | exact Or.inr (sub_bit hE rfl) | exact Or.inr (Or.inr (sub_bit hE rfl)) | with_reducible first | exact Or.inl rfl | exact rfl | exact Or.inr (Or.inl rfl) | assumption | apply ok_ite | apply State.raiseSt_ok | apply State.on_ok | apply ws_f_ETH_STATUS_LAUNCH_OVF)
    | split

theorem State.act_ok {s0 : State} {E W : Nat} {s code target k} (hE : sub 256 E = true) (hW : sub 0 W = true) (h : Ok E W s0 s) (hk : ∀ x t, Ok E W s0 t → Ok E W s0 (k x t)) :
    Ok E W s0 (State.act s code target k) := by
  unfold State.act
  repeat' first
    | exact sub_trans rfl hE | exact sub_trans rfl hW | exact sub_bit hW rfl | with_reducible first | assumption | apply hk
    | intro _
    | dsimp only
    | with_reducible apply ok_ite
    | ((with_reducible apply ok_mk) <;> first | exact Or.inr (sub_bit hE rfl) | exact Or.inr (Or.inr (sub_bit hE rfl)) | with_reducible first | exact Or.inl rfl | exact rfl | exact Or.inr (Or.inl rfl) | assumption | apply ok_ite)
    | split

theorem execSwEvent_ok {s0 : State} {E W : Nat} {e s} (hE : sub 768 E = true) (hW : sub 0 W = true) (h : Ok E W s0 s) :
    OkOut E W s0 (execSwEvent e s) := by
  unfold execSwEvent
  repeat' first
    | exact sub_trans rfl hE | exact sub_trans rfl hW | exact sub_bit hW rfl | with_reducible first | assumption | apply okOut_next | apply okOut_fault | apply State.act_ok | apply State.raise_ok
    | intro _
    | dsimp only
    | with_reducible apply ok_ite
    | split

theorem State.markLate_ok {s0 : State} {E W : Nat} {s q e discarded} (hE : sub 514 E = true) (hW : sub 2524226366857071843343713385028068067538905529420504016515021447822077929436294856894153763023995461055016307586449886481866136584424511946883072 W = true) (h : Ok E W s0 s) :
    Ok E W s0 (State.markLate s q e discarded) := by
  unfold State.markLate
  repeat' first
    | exact sub_trans rfl hE | exact sub_trans rfl hW | exact sub_bit hW rfl | with_reducible first | assumption | apply State.count_ok | apply State.on_ok | apply State.when_ok | apply State.p_ok | apply State.raiseSt_ok | apply ws_f_LQ_LAST_LATE_CODE | apply ws_f_LQ_LAST_LATE_TAG | apply ws_f_LQ_LATE_CNT_DISCARDED | apply ws_f_LQ_LATE_CNT_LATE | apply ws_f_LQ_STATUS_DISCARDED | apply ws_f_LQ_STATUS_LATE
    | intro _
    | dsimp only
    | with_reducible apply ok_ite
    | split

theorem State.noteRefused_ok {s0 : State} {E W : Nat} {s q l err} (hE : sub 128 E = true) (hW : sub 0 W = true) (h : Ok E W s0 s) :
    Ok E W s0 (State.noteRefused s q l err) := by
  unfold State.noteRefused
  repeat' first
    | exact sub_trans rfl hE | exact sub_trans rfl hW | exact sub_bit hW rfl | with_reducible first | assumption
    | intro _
    | dsimp only
    | with_reducible apply ok_ite
    | ((with_reducible apply ok_mk) <;> first | exact Or.inr (sub_bit hE rfl) | exact Or.inr (Or.inr (sub_bit hE rfl)) | with_reducible first | exact Or.inl rfl | exact rfl | exact Or.inr (Or.inl rfl) | assumption | apply ok_ite)
    | split

theorem State.pushAs_ok {s0 : State} {E W : Nat} {s q e desc} (hE : sub 642 E = true) (hW : sub 34924561906660163088581619008311048045562441721064364750236818485808846328046127875095924528022816427350563791920736593797566732822710226226511872 W = true) (h : Ok E W s0 s) :
    Ok E W s0 (State.pushAs s q e desc) := by
  unfold State.pushAs
  repeat' first
    | exact sub_trans rfl hE | exact sub_trans rfl hW | exact sub_bit hW rfl | with_reducible first | assumption | apply State.pushRefuse_ok | apply State.noteRefused_ok | apply State.setLq_ok
    | intro _
    | dsimp only
    | with_reducible apply ok_ite
    | split

theorem State.push_ok {s0 : State} {E W : Nat} {s q e} (hE : sub 642 E = true) (hW : sub 34924561906660163088581619008311048045562441721064364750236818485808846328046127875095924528022816427350563791920736593797566732822710226226511872 W = true) (h : Ok E W s0 s) :
    Ok E W s0 (State.push s q e) := by
  unfold State.push
  repeat' first
    | exact sub_trans rfl hE | exact sub_trans rfl hW | exact sub_bit hW rfl | with_reducible first | assumption | apply State.pushAs_ok
    | intro _
    | dsimp only
    | with_reducible apply ok_ite
    | split

theorem State.flush_ok {s0 : State} {E W : Nat} {s q} (hE : sub 130 E = true) (hW : sub 390218568789499028922699653724145788218574767833121393857394619953171467352470702515038262882936496394978366390175828016673501870583570025676800 W = true) (h : Ok E W s0 s) :
    Ok E W s0 (State.flush s q) := by
  unfold State.flush
  repeat' first
    | exact sub_trans rfl hE | exact sub_trans rfl hW | exact sub_bit hW rfl | with_reducible first | assumption | apply State.setLq_ok
    | intro _
    | dsimp only
    | with_reducible apply ok_ite
    | split

theorem execQueueParityError_ok {s0 : State} {E W : Nat} {q s} (hE : sub 642 E = true) (hW : sub 12877212770053467954449088572896811011212967338493005997294022458454658422631533182996262675136904381034286090875802319598465404587736711250837504 W = true) (h : Ok E W s0 s) :
    OkOut E W s0 (execQueueParityError q s) := by
  unfold execQueueParityError
  repeat' first
    | exact sub_trans rfl hE | exact sub_trans rfl hW | exact sub_bit hW rfl | with_reducible first | assumption | apply okOut_next | apply okOut_fault | apply State.raiseSt_ok | apply State.on_ok | apply State.flush_ok | apply ws_f_LQ_STATUS_PARITY
    | intro _
    | dsimp only
    | with_reducible apply ok_ite
    | split

theorem State.unrefuse_ok {s0 : State} {E W : Nat} {s q r} (hE : sub 514 E = true) (hW : sub 9365245650947976694144791689379498917245794427994913452577470878876115216459296860360918309190475913479480793364219868686343927037864855918870528 W = true) (h : Ok E W s0 s) :
    Ok E W s0 (State.unrefuse s q r) := by
  unfold State.unrefuse
  repeat' first
    | exact sub_trans rfl hE | exact sub_trans rfl hW | exact sub_bit hW rfl | with_reducible first | assumption | apply State.pb_ok | apply ws_f_LQ_STATUS_ORDER_ERR | apply ws_f_LQ_STATUS_OVERFLOW
    | intro _
    | dsimp only
    | with_reducible apply ok_ite
    | ((with_reducible apply ok_mk) <;> first | exact Or.inr (sub_bit hE rfl) | exact Or.inr (Or.inr (sub_bit hE rfl)) | with_reducible first | exact Or.inl rfl | exact rfl | exact Or.inr (Or.inl rfl) | assumption | apply ok_ite | apply State.pb_ok | apply ws_f_LQ_STATUS_ORDER_ERR | apply ws_f_LQ_STATUS_OVERFLOW)
    | split

theorem State.rejoin_ok {s0 : State} {E W : Nat} {s q l} (hE : sub 642 E = true) (hW : sub 34924561906660163088581619008311048045562441721064364750236818485808846328046127875095924528022816427350563791920736593797566732822710226226511872 W = true) (h : Ok E W s0 s) :
    Ok E W s0 (State.rejoin s q l) := by
  unfold State.rejoin
  repeat' first
    | exact sub_trans rfl hE | exact sub_trans rfl hW | exact sub_bit hW rfl | with_reducible first | assumption | apply State.pushRefuse_ok | apply State.noteRefused_ok | apply State.setLq_ok
    | intro _
    | dsimp only
    | with_reducible apply ok_ite
    | split

theorem State.cancel_ok {s0 : State} {E W : Nat} {s q tag mask} (hE : sub 642 E = true) (hW : sub 34930659071797499010908536190400487823503356951811757272015840276745614632223510229822722000880362310106735328895583091107909404650208836158750720 W = true) (h : Ok E W s0 s) :
    Ok E W s0 (State.cancel s q tag mask) := by
  unfold State.cancel
  repeat' first
    | exact sub_trans rfl hE | exact sub_trans rfl hW | exact sub_bit hW rfl | with_reducible first | assumption | apply State.each_ok | apply State.unrefuse_ok | apply State.p_ok | apply State.setLq_ok | apply State.rejoin_ok | apply ws_f_LQ_CANCEL_CNT_COUNT
    | intro _
    | dsimp only
    | with_reducible apply ok_ite
    | split

theorem wrLqCancel_ok {s0 : State} {E W : Nat} {q v s} (hE : sub 642 E = true) (hW : sub 34930659071797499010908536190400487823503356951811757272015840276745614632223510229822722000880362310106735328895583091107909404650208836158750720 W = true) (h : Ok E W s0 s) :
    Ok E W s0 (wrLqCancel q v s) := by
  unfold wrLqCancel
  repeat' first
    | exact sub_trans rfl hE | exact sub_trans rfl hW | exact sub_bit hW rfl | with_reducible first | assumption | apply State.cancel_ok
    | intro _
    | dsimp only
    | with_reducible apply ok_ite
    | split

theorem State.pushReg_ok {s0 : State} {E W : Nat} {s q e} (hE : sub 642 E = true) (hW : sub 34924561906660163088581619008311048045562441721064364750236818485808846328046127875095924528022816427350563791920736593797566732822710226226511872 W = true) (h : Ok E W s0 s) :
    Ok E W s0 (State.pushReg s q e) := by
  unfold State.pushReg
  repeat' first
    | exact sub_trans rfl hE | exact sub_trans rfl hW | exact sub_bit hW rfl | with_reducible first | assumption | apply State.setLq_ok | apply State.each_ok | apply State.push_ok | apply State.rejoin_ok
    | intro _
    | dsimp only
    | with_reducible apply ok_ite
    | split

theorem execLqPush_ok {s0 : State} {E W : Nat} {rq q s} (hE : sub 642 E = true) (hW : sub 34924561906660163088581696475807390652820131398639524840593048376982631204751512794876620747451476932586402681281334997932509837587985519215640576 W = true) (h : Ok E W s0 s) :
    OkOut E W s0 (execLqPush rq q s) := by
  unfold execLqPush
  repeat' first
    | exact sub_trans rfl hE | exact sub_trans rfl hW | exact sub_bit hW rfl | with_reducible first | assumption | apply okOut_next | apply okOut_fault | apply State.write_ok | apply State.pushReg_ok
    | intro _
    | dsimp only
    | with_reducible apply ok_ite
    | split

theorem State.shiftQueue_ok {s0 : State} {E W : Nat} {s d q} (hE : sub 130 E = true) (hW : sub 390218568789499028922699653724145788218574767833121393857394619953171467352470702515038262882936496394978366390175828016673501870583570025676800 W = true) (h : Ok E W s0 s) :
    Ok E W s0 (State.shiftQueue s d q) := by
  unfold State.shiftQueue
  repeat' first
    | exact sub_trans rfl hE | exact sub_trans rfl hW | exact sub_bit hW rfl | with_reducible first | assumption | apply State.setLq_ok
    | intro _
    | dsimp only
    | with_reducible apply ok_ite
    | split

theorem State.shiftQueues_ok {s0 : State} {E W : Nat} {s d} (hE : sub 130 E = true) (hW : sub 390218568789499028922699653724145788218574767833121393857394619953171467352470702515038262882936496394978366390175828016673501870583570025676800 W = true) (h : Ok E W s0 s) :
    Ok E W s0 (State.shiftQueues s d) := by
  unfold State.shiftQueues
  repeat' first
    | exact sub_trans rfl hE | exact sub_trans rfl hW | exact sub_bit hW rfl | with_reducible first | assumption | apply State.each_ok | apply State.shiftQueue_ok
    | intro _
    | dsimp only
    | with_reducible apply ok_ite
    | split

theorem State.reenter_ok {s0 : State} {E W : Nat} {s q e} (hE : sub 130 E = true) (hW : sub 3511967119105491260304296883517312093967172910498092544716551579578543206172236322635344365946428467554805297511582450912121477549871855331966976 W = true) (h : Ok E W s0 s) :
    Ok E W s0 (State.reenter s q e) := by
  unfold State.reenter
  repeat' first
    | exact sub_trans rfl hE | exact sub_trans rfl hW | exact sub_bit hW rfl | with_reducible first | assumption | apply State.on_ok | apply State.setLq_ok | apply ws_f_LQ_STATUS_ORDER_ERR
    | intro _
    | dsimp only
    | with_reducible apply ok_ite
    | split

theorem wrLqPush_ok {s0 : State} {E W : Nat} {q v s} (hE : sub 642 E = true) (hW : sub 34924561906660163088581619008311048045562441721064364750236818485808846328046127875095924528022816427350563791920736593797566732822710226226511872 W = true) (h : Ok E W s0 s) :
    Ok E W s0 (wrLqPush q v s) := by
  unfold wrLqPush
  repeat' first
    | exact sub_trans rfl hE | exact sub_trans rfl hW | exact sub_bit hW rfl | with_reducible first | assumption | apply State.when_ok | apply State.flush_ok | apply State.pushReg_ok
    | intro _
    | dsimp only
    | with_reducible apply ok_ite
    | split

theorem execLaunchDelivery_ok {s0 : State} {E W : Nat} {q s} (hE : sub 898 E = true) (hW : sub 6036193485962563103648010269806244359790701774711525844436168669163172792263425472903843517906287025297732344663288857550304914640108462968668160 W = true) (h : Ok E W s0 s) :
    OkOut E W s0 (execLaunchDelivery q s) := by
  unfold execLaunchDelivery
  repeat' first
    | exact sub_trans rfl hE | exact sub_trans rfl hW | exact sub_bit hW rfl | with_reducible first | assumption | apply okOut_next | apply okOut_fault | apply State.setLq_ok | apply State.when_ok | apply State.markLate_ok | apply State.handOver_ok | apply State.reenter_ok
    | intro _
    | dsimp only
    | with_reducible apply ok_ite
    | split

theorem execLqFlush_ok {s0 : State} {E W : Nat} {rq q s} (hE : sub 642 E = true) (hW : sub 390218568789499028922777121220488395476264445408281484213624511126956344057855622295734482311597001630817255750774232151616606635858863014805504 W = true) (h : Ok E W s0 s) :
    OkOut E W s0 (execLqFlush rq q s) := by
  unfold execLqFlush
  repeat' first
    | exact sub_trans rfl hE | exact sub_trans rfl hW | exact sub_bit hW rfl | with_reducible first | assumption | apply okOut_next | apply okOut_fault | apply State.write_ok | apply State.flush_ok
    | intro _
    | dsimp only
    | with_reducible apply ok_ite
    | split

theorem execLqCancel_ok {s0 : State} {E W : Nat} {rq q v s} (hE : sub 642 E = true) (hW : sub 34930659071797499010908613657896830430761046629386917362372070167919399508928895149603418220309022815342574218256181495242852509415484129147879424 W = true) (h : Ok E W s0 s) :
    OkOut E W s0 (execLqCancel rq q v s) := by
  unfold execLqCancel
  repeat' first
    | exact sub_trans rfl hE | exact sub_trans rfl hW | exact sub_bit hW rfl | with_reducible first | assumption | apply okOut_next | apply okOut_fault | apply State.write_ok | apply wrLqCancel_ok
    | intro _
    | dsimp only
    | with_reducible apply ok_ite
    | split

end Sys2Proof.Machine
end

