-- ==== Sys2Proof/Laws/KeepCapOps.lean ====
section
/-! SUPPORT. What the definitions of Machine/CapOps.lean keep: the queue, and the canonical forms of the register window and of
the memories; one lemma for each. -/

namespace Sys2Proof.Machine

theorem State.setCap_ok {s0 : State} {E W : Nat} {s c x} (hE : sub 2147483648 E = true) (hW : sub 0 W = true) (h : Ok E W s0 s) :
    Ok E W s0 (State.setCap s c x) := by
  unfold State.setCap
  repeat' first
    | exact sub_trans rfl hE | exact sub_trans rfl hW | exact sub_bit hW rfl | with_reducible first | assumption
    | intro _
    | dsimp only
    | with_reducible apply ok_ite
    | ((with_reducible apply ok_mk) <;> first | exact Or.inr (sub_bit hE rfl) | exact Or.inr (Or.inr (sub_bit hE rfl)) | with_reducible first | exact Or.inl rfl | exact rfl | exact Or.inr (Or.inl rfl) | assumption | apply ok_ite)
    | split

theorem State.capLatch_ok {s0 : State} {E W : Nat} {s c at_ stamp} (hE : sub 2147483648 E = true) (hW : sub 0 W = true) (h : Ok E W s0 s) :
    Ok E W s0 (State.capLatch s c at_ stamp) := by
  unfold State.capLatch
  repeat' first
    | exact sub_trans rfl hE | exact sub_trans rfl hW | exact sub_bit hW rfl | with_reducible first | assumption | apply State.setCap_ok
    | intro _
    | dsimp only
    | with_reducible apply ok_ite
    | split

theorem State.capSample_ok {s0 : State} {E W : Nat} {s n t loop} (hE : sub 2147483648 E = true) (hW : sub 0 W = true) (h : Ok E W s0 s) :
    Ok E W s0 (State.capSample s n t loop) := by
  unfold State.capSample
  repeat' first
    | exact sub_trans rfl hE | exact sub_trans rfl hW | exact sub_bit hW rfl | with_reducible first | assumption | apply State.each_ok | apply State.setCap_ok | apply State.capLatch_ok
    | intro _
    | dsimp only
    | with_reducible apply ok_ite
    | split

theorem State.capHit_ok {s0 : State} {E W : Nat} {s c at_ test} (hE : sub 2147483648 E = true) (hW : sub 0 W = true) (h : Ok E W s0 s) :
    Ok E W s0 (State.capHit s c at_ test) := by
  unfold State.capHit
  repeat' first
    | exact sub_trans rfl hE | exact sub_trans rfl hW | exact sub_bit hW rfl | with_reducible first | assumption | apply State.setCap_ok
    | intro _
    | dsimp only
    | with_reducible apply ok_ite
    | split

theorem State.capEvent_ok {s0 : State} {E W : Nat} {s ev} (hE : sub 2147483648 E = true) (hW : sub 0 W = true) (h : Ok E W s0 s) :
    Ok E W s0 (State.capEvent s ev) := by
  unfold State.capEvent
  repeat' first
    | exact sub_trans rfl hE | exact sub_trans rfl hW | exact sub_bit hW rfl | with_reducible first | assumption | apply State.each_ok | apply State.capHit_ok
    | intro _
    | dsimp only
    | with_reducible apply ok_ite
    | split

theorem State.capPwm_ok {s0 : State} {E W : Nat} {s n i} (hE : sub 2147483648 E = true) (hW : sub 0 W = true) (h : Ok E W s0 s) :
    Ok E W s0 (State.capPwm s n i) := by
  unfold State.capPwm
  repeat' first
    | exact sub_trans rfl hE | exact sub_trans rfl hW | exact sub_bit hW rfl | with_reducible first | assumption | apply State.each_ok | apply State.capLatch_ok
    | intro _
    | dsimp only
    | with_reducible apply ok_ite
    | split

end Sys2Proof.Machine
end

