-- ==== Sys2Proof/Laws/KeepAuxOps.lean ====
section
/-! SUPPORT. What the definitions of Machine/AuxOps.lean keep: the queue, and the canonical forms of the register window and of
the memories; one lemma for each. -/

namespace Sys2Proof.Machine

theorem State.setAux_ok {s0 : State} {E W : Nat} {s c x} (hE : sub 536870912 E = true) (hW : sub 0 W = true) (h : Ok E W s0 s) :
    Ok E W s0 (State.setAux s c x) := by
  unfold State.setAux
  repeat' first
    | exact sub_trans rfl hE | exact sub_trans rfl hW | exact sub_bit hW rfl | with_reducible first | assumption
    | intro _
    | dsimp only
    | with_reducible apply ok_ite
    | ((with_reducible apply ok_mk) <;> first | exact Or.inr (sub_bit hE rfl) | exact Or.inr (Or.inr (sub_bit hE rfl)) | with_reducible first | exact Or.inl rfl | exact rfl | exact Or.inr (Or.inl rfl) | assumption | apply ok_ite)
    | split

theorem State.setDuty_ok {s0 : State} {E W : Nat} {s c d} (hE : sub 2 E = true) (hW : sub 23945242826029513411849172299223580994042798784118784 W = true) (h : Ok E W s0 s) :
    Ok E W s0 (State.setDuty s c d) := by
  unfold State.setDuty
  repeat' first
    | exact sub_trans rfl hE | exact sub_trans rfl hW | exact sub_bit hW rfl | with_reducible first | assumption | apply State.p_ok | apply ws_f_AUX_BL_DUTY_DUTY
    | intro _
    | dsimp only
    | with_reducible apply ok_ite
    | split

theorem State.bldcCoast_ok {s0 : State} {E W : Nat} {s c} (hE : sub 536870914 E = true) (hW : sub 1748002726300154479064989577843321412565124311240671360 W = true) (h : Ok E W s0 s) :
    Ok E W s0 (State.bldcCoast s c) := by
  unfold State.bldcCoast
  repeat' first
    | exact sub_trans rfl hE | exact sub_trans rfl hW | exact sub_bit hW rfl | with_reducible first | assumption | apply State.setAux_ok | apply State.wr_ok | apply State.off_ok | apply State.setDuty_ok | apply State.p_ok | apply ws_f_AUX_BL_STATUS_I_LIMITED | apply ws_f_AUX_BL_STATUS_PHASE | apply ws_r_AUX_VEL | apply wrF_of_wr
    | intro _
    | dsimp only
    | with_reducible apply ok_ite
    | split

theorem State.setCoil_ok {s0 : State} {E W : Nat} {s c i x} (hE : sub 536870912 E = true) (hW : sub 0 W = true) (h : Ok E W s0 s) :
    Ok E W s0 (State.setCoil s c i x) := by
  unfold State.setCoil
  repeat' first
    | exact sub_trans rfl hE | exact sub_trans rfl hW | exact sub_bit hW rfl | with_reducible first | assumption | apply State.setAux_ok
    | intro _
    | dsimp only
    | with_reducible apply ok_ite
    | split

theorem State.coilDrive_ok {s0 : State} {E W : Nat} {s c i} (hE : sub 536870912 E = true) (hW : sub 0 W = true) (h : Ok E W s0 s) :
    Ok E W s0 (State.coilDrive s c i) := by
  unfold State.coilDrive
  repeat' first
    | exact sub_trans rfl hE | exact sub_trans rfl hW | exact sub_bit hW rfl | with_reducible first | assumption | apply State.setCoil_ok
    | intro _
    | dsimp only
    | with_reducible apply ok_ite
    | split

theorem State.holdPlan_ok {s0 : State} {E W : Nat} {s c} (hE : sub 537395200 E = true) (hW : sub 0 W = true) (h : Ok E W s0 s) :
    Ok E W s0 (State.holdPlan s c) := by
  unfold State.holdPlan
  repeat' first
    | exact sub_trans rfl hE | exact sub_trans rfl hW | exact sub_bit hW rfl | with_reducible first | assumption | apply State.setChan_ok | apply State.setAux_ok
    | intro _
    | dsimp only
    | with_reducible apply ok_ite
    | split

theorem State.setAdc_ok {s0 : State} {E W : Nat} {s cl x} (hE : sub 1073741824 E = true) (hW : sub 0 W = true) (h : Ok E W s0 s) :
    Ok E W s0 (State.setAdc s cl x) := by
  unfold State.setAdc
  repeat' first
    | exact sub_trans rfl hE | exact sub_trans rfl hW | exact sub_bit hW rfl | with_reducible first | assumption
    | intro _
    | dsimp only
    | with_reducible apply ok_ite
    | ((with_reducible apply ok_mk) <;> first | exact Or.inr (sub_bit hE rfl) | exact Or.inr (Or.inr (sub_bit hE rfl)) | with_reducible first | exact Or.inl rfl | exact rfl | exact Or.inr (Or.inl rfl) | assumption | apply ok_ite)
    | split

theorem State.cycleEnd_ok {s0 : State} {E W : Nat} {s c i id valley} (hE : sub 536870914 E = true) (hW : sub 5222548643841718395511376800108778458197159729794076714729472 W = true) (h : Ok E W s0 s) :
    Ok E W s0 (State.cycleEnd s c i id valley) := by
  unfold State.cycleEnd
  repeat' first
    | exact sub_trans rfl hE | exact sub_trans rfl hW | exact sub_bit hW rfl | with_reducible first | assumption | apply State.setCoil_ok | apply State.pi_ok | apply State.count_ok | apply ws_f_AUX_STP_COUNT_ADAPT_SKIPPED | apply ws_f_AUX_STP_OFS_OFS_A | apply ws_f_AUX_STP_OFS_OFS_B
    | intro _
    | dsimp only
    | with_reducible apply ok_ite
    | split

theorem State.adcDrop_ok {s0 : State} {E W : Nat} {s cl r} (hE : sub 1610612738 E = true) (hW : sub 6026213825400444367056227714698834999033764425293112633458688 W = true) (h : Ok E W s0 s) :
    Ok E W s0 (State.adcDrop s cl r) := by
  unfold State.adcDrop
  repeat' first
    | exact sub_trans rfl hE | exact sub_trans rfl hW | exact sub_bit hW rfl | with_reducible first | assumption | apply State.count_ok | apply State.setAdc_ok | apply State.cycleEnd_ok | apply ws_f_AUX_CL_ADC_COUNT_DROPPED | apply ws_f_AUX_STP_COUNT_DROPPED
    | intro _
    | dsimp only
    | with_reducible apply ok_ite
    | split

theorem State.adcStart_ok {s0 : State} {E W : Nat} {s cl} (hE : sub 1073741826 E = true) (hW : sub 1176956575385002643219210516851437453019191645837006471168 W = true) (h : Ok E W s0 s) :
    Ok E W s0 (State.adcStart s cl) := by
  unfold State.adcStart
  repeat' first
    | exact sub_trans rfl hE | exact sub_trans rfl hW | exact sub_bit hW rfl | with_reducible first | assumption | apply State.on_ok | apply State.setAdc_ok | apply State.p_ok | apply ws_f_AUX_CL_ADC_COUNT_MAX_WAIT | apply ws_f_AUX_CL_ADC_STATUS_BUSY
    | intro _
    | dsimp only
    | with_reducible apply ok_ite
    | split

theorem State.adcAskAt_ok {s0 : State} {E W : Nat} {s c use made limit cyc} (hE : sub 1610612738 E = true) (hW : sub 6027390781975829369699446925215686436486783616938949639929856 W = true) (h : Ok E W s0 s) :
    Ok E W s0 (State.adcAskAt s c use made limit cyc) := by
  unfold State.adcAskAt
  repeat' first
    | exact sub_trans rfl hE | exact sub_trans rfl hW | exact sub_bit hW rfl | with_reducible first | assumption | apply State.adcDrop_ok | apply State.adcStart_ok | apply State.setAdc_ok
    | intro _
    | dsimp only
    | with_reducible apply ok_ite
    | split

theorem State.bldcPeriod_ok {s0 : State} {E W : Nat} {s c} (hE : sub 1610612738 E = true) (hW : sub 6027390781975829369699446925215686436486783616938949639929856 W = true) (h : Ok E W s0 s) :
    Ok E W s0 (State.bldcPeriod s c) := by
  unfold State.bldcPeriod
  repeat' first
    | exact sub_trans rfl hE | exact sub_trans rfl hW | exact sub_bit hW rfl | with_reducible first | assumption | apply State.setAux_ok | apply State.adcAskAt_ok
    | intro _
    | dsimp only
    | with_reducible apply ok_ite
    | split

theorem State.newSector_ok {s0 : State} {E W : Nat} {s c sector} (hE : sub 536870914 E = true) (hW : sub 6129982163463555433433388108601236734474956488734408704 W = true) (h : Ok E W s0 s) :
    Ok E W s0 (State.newSector s c sector) := by
  unfold State.newSector
  repeat' first
    | exact sub_trans rfl hE | exact sub_trans rfl hW | exact sub_bit hW rfl | with_reducible first | assumption | apply State.p_ok | apply State.setAux_ok | apply ws_f_AUX_BL_STATUS_SECTOR
    | intro _
    | dsimp only
    | with_reducible apply ok_ite
    | split

theorem State.bldcStart_ok {s0 : State} {E W : Nat} {s c dir} (hE : sub 1611137026 E = true) (hW : sub 6027447604037055537734773243301552494044482480500464353804288 W = true) (h : Ok E W s0 s) :
    Ok E W s0 (State.bldcStart s c dir) := by
  unfold State.bldcStart
  repeat' first
    | exact sub_trans rfl hE | exact sub_trans rfl hW | exact sub_bit hW rfl | with_reducible first | assumption | apply State.holdPlan_ok | apply State.setAux_ok | apply State.p_ok | apply State.pb_ok | apply State.bldcPeriod_ok | apply State.setDuty_ok | apply State.newSector_ok | apply ws_f_AUX_BL_STATUS_DIRN | apply ws_f_AUX_BL_STATUS_PHASE | apply ws_f_AUX_BL_STATUS_ZC_RUN
    | intro _
    | dsimp only
    | with_reducible apply ok_ite
    | split

theorem State.bldcCheck_ok {s0 : State} {E W : Nat} {s c} (hE : sub 1611137026 E = true) (hW : sub 6027447795598998145970880538094930887833130432842854626754688 W = true) (h : Ok E W s0 s) :
    Ok E W s0 (State.bldcCheck s c) := by
  unfold State.bldcCheck
  repeat' first
    | exact sub_trans rfl hE | exact sub_trans rfl hW | exact sub_bit hW rfl | with_reducible first | assumption | apply State.bldcStart_ok | apply State.bldcCoast_ok
    | intro _
    | dsimp only
    | with_reducible apply ok_ite
    | split

theorem State.stepPos_ok {s0 : State} {E W : Nat} {s c} (hE : sub 32770 E = true) (hW : sub 12855504354071922204335696738729300820177623950262342682411104 W = true) (h : Ok E W s0 s) :
    Ok E W s0 (State.stepPos s c) := by
  unfold State.stepPos
  repeat' first
    | exact sub_trans rfl hE | exact sub_trans rfl hW | exact sub_bit hW rfl | with_reducible first | assumption | apply State.notePos_ok | apply State.p_ok | apply State.wr64_ok | apply ws_f_AUX_STP_STATUS_INDEX | apply ws_r_AUX_POS_HI | apply ws_r_AUX_POS_LO | apply wrF_of_wr
    | intro _
    | dsimp only
    | with_reducible apply ok_ite
    | split

theorem State.adcDue_ok {s0 : State} {E W : Nat} {s} (hE : sub 1073741826 E = true) (hW : sub 1176956575385002643219210516851437453019191645837006471168 W = true) (h : Ok E W s0 s) :
    Ok E W s0 (State.adcDue s) := by
  unfold State.adcDue
  repeat' first
    | exact sub_trans rfl hE | exact sub_trans rfl hW | exact sub_bit hW rfl | with_reducible first | assumption | apply State.each_ok | apply State.adcStart_ok
    | intro _
    | dsimp only
    | with_reducible apply ok_ite
    | split

theorem State.dropHeld_ok {s0 : State} {E W : Nat} {s c} (hE : sub 1611137026 E = true) (hW : sub 6027447795598998145970880538094930887833130432842854626754688 W = true) (h : Ok E W s0 s) :
    Ok E W s0 (State.dropHeld s c) := by
  unfold State.dropHeld
  repeat' first
    | exact sub_trans rfl hE | exact sub_trans rfl hW | exact sub_bit hW rfl | with_reducible first | assumption | apply State.bldcCheck_ok | apply State.setAux_ok
    | intro _
    | dsimp only
    | with_reducible apply ok_ite
    | split

theorem State.holdMove_ok {s0 : State} {E W : Nat} {s c m} (hE : sub 1611137026 E = true) (hW : sub 56239854830620020089989222296474313932479848696424029566464141889377562529985297207014069856118966447678947826673705075440002424782609492267643159617814732472448 W = true) (h : Ok E W s0 s) :
    Ok E W s0 (State.holdMove s c m) := by
  unfold State.holdMove
  repeat' first
    | exact sub_trans rfl hE | exact sub_trans rfl hW | exact sub_bit hW rfl | with_reducible first | assumption | apply State.setChan_ok | apply State.bldcCheck_ok | apply State.p_ok | apply State.setAux_ok | apply State.off_ok | apply ws_f_LSP_CH_STATUS_AT_TARGET | apply ws_f_LSP_CH_STATUS_STATE
    | intro _
    | dsimp only
    | with_reducible apply ok_ite
    | split

theorem State.coilDecay_ok {s0 : State} {E W : Nat} {s c i} (hE : sub 536870912 E = true) (hW : sub 0 W = true) (h : Ok E W s0 s) :
    Ok E W s0 (State.coilDecay s c i) := by
  unfold State.coilDecay
  repeat' first
    | exact sub_trans rfl hE | exact sub_trans rfl hW | exact sub_bit hW rfl | with_reducible first | assumption | apply State.setCoil_ok
    | intro _
    | dsimp only
    | with_reducible apply ok_ite
    | split

theorem State.coilRefresh_ok {s0 : State} {E W : Nat} {s c i} (hE : sub 536870912 E = true) (hW : sub 0 W = true) (h : Ok E W s0 s) :
    Ok E W s0 (State.coilRefresh s c i) := by
  unfold State.coilRefresh
  repeat' first
    | exact sub_trans rfl hE | exact sub_trans rfl hW | exact sub_bit hW rfl | with_reducible first | assumption | apply State.setCoil_ok | apply State.coilDrive_ok
    | intro _
    | dsimp only
    | with_reducible apply ok_ite
    | split

theorem State.adcAskCoil_ok {s0 : State} {E W : Nat} {s c use cyc} (hE : sub 1610612738 E = true) (hW : sub 6027390781975829369699446925215686436486783616938949639929856 W = true) (h : Ok E W s0 s) :
    Ok E W s0 (State.adcAskCoil s c use cyc) := by
  unfold State.adcAskCoil
  repeat' first
    | exact sub_trans rfl hE | exact sub_trans rfl hW | exact sub_bit hW rfl | with_reducible first | assumption | apply State.adcAskAt_ok
    | intro _
    | dsimp only
    | with_reducible apply ok_ite
    | split

theorem State.adcAsk_ok {s0 : State} {E W : Nat} {s c use} (hE : sub 1610612738 E = true) (hW : sub 6027390781975829369699446925215686436486783616938949639929856 W = true) (h : Ok E W s0 s) :
    Ok E W s0 (State.adcAsk s c use) := by
  unfold State.adcAsk
  repeat' first
    | exact sub_trans rfl hE | exact sub_trans rfl hW | exact sub_bit hW rfl | with_reducible first | assumption | apply State.adcAskAt_ok
    | intro _
    | dsimp only
    | with_reducible apply ok_ite
    | split

theorem State.auxMode_ok {s0 : State} {E W : Nat} {s c} (hE : sub 1611137026 E = true) (hW : sub 6027447795598998145970880538094930887833130432842854626754688 W = true) (h : Ok E W s0 s) :
    Ok E W s0 (State.auxMode s c) := by
  unfold State.auxMode
  repeat' first
    | exact sub_trans rfl hE | exact sub_trans rfl hW | exact sub_bit hW rfl | with_reducible first | assumption | apply State.coilRefresh_ok | apply State.bldcCheck_ok | apply State.wr_ok | apply State.off_ok | apply State.setDuty_ok | apply State.p_ok | apply ws_f_AUX_BL_STATUS_I_LIMITED | apply ws_f_AUX_BL_STATUS_PHASE | apply ws_r_AUX_VEL | apply wrF_of_wr
    | intro _
    | dsimp only
    | with_reducible apply ok_ite
    | split

end Sys2Proof.Machine
end

