-- ==== Sys2Proof/Laws/KeepSafetyOps.lean ====
section
/-! SUPPORT. What the definitions of Machine/SafetyOps.lean keep: the queue, and the canonical forms of the register window and of
the memories; one lemma for each. -/

namespace Sys2Proof.Machine

theorem State.blockWord_ok {s0 : State} {E W : Nat} {s m o v} (hE : sub 2 E = true) (hW : sub 1224720827664335609236962600350409901130557945655466490308353887654080091579137561403602952202220552420938147431280980285494456125931768646260680344573194358953094033321469230156313571586348749061881856 W = true) (h : Ok E W s0 s) :
    Ok E W s0 (State.blockWord s m o v) := by
  unfold State.blockWord
  repeat' first
    | exact sub_trans rfl hE | exact sub_trans rfl hW | exact sub_bit hW rfl | with_reducible first | assumption | apply State.merge_ok | apply State.wr_ok | apply ws_w_axisWord | apply wrF_of_wr
    | intro _
    | dsimp only
    | with_reducible apply ok_ite
    | split

theorem State.emptyQueue_ok {s0 : State} {E W : Nat} {s k} (hE : sub 1611137026 E = true) (hW : sub 3514776401986872174070733209129673327241950873673372369609965291102998109899599898686750536018664738175823507031436345285886995950785809465168335327905536016512 W = true) (h : Ok E W s0 s) :
    Ok E W s0 (State.emptyQueue s k) := by
  unfold State.emptyQueue
  repeat' first
    | exact sub_trans rfl hE | exact sub_trans rfl hW | exact sub_bit hW rfl | with_reducible first | assumption | apply State.p_ok | apply State.setChan_ok | apply State.dropHeld_ok | apply ws_f_LSP_CH_STATUS_QLEVEL
    | intro _
    | dsimp only
    | with_reducible apply ok_ite
    | split

theorem State.dropFollower_ok {s0 : State} {E W : Nat} {s k} (hE : sub 2 E = true) (hW : sub 51146728248377216718956089012931236753385031969422887335676427626502090568823039920051095192592252455482604439493126109519019633529459266458258243584 W = true) (h : Ok E W s0 s) :
    Ok E W s0 (State.dropFollower s k) := by
  unfold State.dropFollower
  repeat' first
    | exact sub_trans rfl hE | exact sub_trans rfl hW | exact sub_bit hW rfl | with_reducible first | assumption | apply State.p_ok | apply ws_f_LSH_FOL_STATUS_STATE
    | intro _
    | dsimp only
    | with_reducible apply ok_ite
    | split

theorem State.writeBlock_ok {s0 : State} {E W : Nat} {s m words} (hE : sub 2097154 E = true) (hW : sub 1224720827664335609236962600350409901130557945655466490308353887654080091579137561403602952202220552420938147431280980285494456125931768646260680344573194358953094033321469230156313571586348749061881856 W = true) (h : Ok E W s0 s) :
    Ok E W s0 (State.writeBlock s m words) := by
  unfold State.writeBlock
  repeat' first
    | exact sub_trans rfl hE | exact sub_trans rfl hW | exact sub_bit hW rfl | with_reducible first | assumption | apply State.setAe_ok | apply State.each_ok | apply State.blockWord_ok
    | intro _
    | dsimp only
    | with_reducible apply ok_ite
    | split

theorem State.chanEvent_ok {s0 : State} {E W : Nat} {s k reason} (hE : sub 512 E = true) (hW : sub 0 W = true) (h : Ok E W s0 s) :
    Ok E W s0 (State.chanEvent s k reason) := by
  unfold State.chanEvent
  repeat' first
    | exact sub_trans rfl hE | exact sub_trans rfl hW | exact sub_bit hW rfl | with_reducible first | assumption | apply State.raise_ok
    | intro _
    | dsimp only
    | with_reducible apply ok_ite
    | split

theorem State.homeFail_ok {s0 : State} {E W : Nat} {s k reason} (hE : sub 2621954 E = true) (hW : sub 1224720827664335609236962600350409901130558330084135457622497926640524840137157728491979760227323478510891861821699250554233374989271645687715759073166632281881144112152797214288367075731933051505082368 W = true) (h : Ok E W s0 s) :
    Ok E W s0 (State.homeFail s k reason) := by
  unfold State.homeFail
  repeat' first
    | exact sub_trans rfl hE | exact sub_trans rfl hW | exact sub_bit hW rfl | with_reducible first | assumption | apply State.setChan_ok | apply State.when_ok | apply State.writeBlock_ok | apply State.p_ok | apply State.off_ok | apply State.on_ok | apply State.chanEvent_ok | apply ws_f_LSP_CH_STATUS_HOMED | apply ws_f_LSP_CH_STATUS_HOME_FAIL | apply ws_f_LSP_CH_STATUS_HOME_REASON
    | intro _
    | dsimp only
    | with_reducible apply ok_ite
    | split

theorem State.setChanState_ok {s0 : State} {E W : Nat} {s k st} (hE : sub 524290 E = true) (hW : sub 56236422431789954785131731346074773235871213978773957913759444657647969758393598378988008576298635714374011382919011189040103325693678746112606439760814548189184 W = true) (h : Ok E W s0 s) :
    Ok E W s0 (State.setChanState s k st) := by
  unfold State.setChanState
  repeat' first
    | exact sub_trans rfl hE | exact sub_trans rfl hW | exact sub_bit hW rfl | with_reducible first | assumption | apply State.setChan_ok | apply State.p_ok | apply ws_f_LSP_CH_STATUS_STATE
    | intro _
    | dsimp only
    | with_reducible apply ok_ite
    | split

theorem State.chanFault_ok {s0 : State} {E W : Nat} {s k} (hE : sub 1613234690 E = true) (hW : sub 1224720827664335609236962600350409901130618081282969285596185377482296763539809854588068960942638817343727948465995170254601618571423883039263501500309038212019909595600551197863578379966288229847531648 W = true) (h : Ok E W s0 s) :
    Ok E W s0 (State.chanFault s k) := by
  unfold State.chanFault
  repeat' first
    | exact sub_trans rfl hE | exact sub_trans rfl hW | exact sub_bit hW rfl | with_reducible first | assumption | apply State.emptyQueue_ok | apply State.dropFollower_ok | apply State.homeFail_ok | apply State.setChan_ok | apply State.chanEvent_ok | apply State.setChanState_ok
    | intro _
    | dsimp only
    | with_reducible apply ok_ite
    | split

theorem State.setBrk_ok {s0 : State} {E W : Nat} {s n x} (hE : sub 16384 E = true) (hW : sub 0 W = true) (h : Ok E W s0 s) :
    Ok E W s0 (State.setBrk s n x) := by
  unfold State.setBrk
  repeat' first
    | exact sub_trans rfl hE | exact sub_trans rfl hW | exact sub_bit hW rfl | with_reducible first | assumption
    | intro _
    | dsimp only
    | with_reducible apply ok_ite
    | ((with_reducible apply ok_mk) <;> first | exact Or.inr (sub_bit hE rfl) | exact Or.inr (Or.inr (sub_bit hE rfl)) | with_reducible first | exact Or.inl rfl | exact rfl | exact Or.inr (Or.inl rfl) | assumption | apply ok_ite)
    | split

theorem State.engage_ok {s0 : State} {E W : Nat} {s n} (hE : sub 16386 E = true) (hW : sub 132784498204191774672397051638117156832398279431757980799861034550100889965213060684790625566307321417222332371561625253836644834413176809852379994691646837985957817708848304757932032 W = true) (h : Ok E W s0 s) :
    Ok E W s0 (State.engage s n) := by
  unfold State.engage
  repeat' first
    | exact sub_trans rfl hE | exact sub_trans rfl hW | exact sub_bit hW rfl | with_reducible first | assumption | apply State.off_ok | apply State.setBrk_ok | apply ws_f_SAF_BRK_STATUS_RELEASED
    | intro _
    | dsimp only
    | with_reducible apply ok_ite
    | split

theorem State.btEnd_ok {s0 : State} {E W : Nat} {s b result reason} (hE : sub 20482 E = true) (hW : sub 8232638888659890029688617201563263723608693324768994809591384142106255177843209762457018785111053927867784607036820765737871979733616962210847559670882103955129384697948594894991785984 W = true) (h : Ok E W s0 s) :
    Ok E W s0 (State.btEnd s b result reason) := by
  unfold State.btEnd
  repeat' first
    | exact sub_trans rfl hE | exact sub_trans rfl hW | exact sub_bit hW rfl | with_reducible first | assumption | apply State.p_ok | apply State.journal_ok | apply ws_f_SAF_BT_RESULT_AXIS | apply ws_f_SAF_BT_RESULT_MOVED | apply ws_f_SAF_BT_RESULT_REASON | apply ws_f_SAF_BT_RESULT_RESULT | apply ws_f_SAF_BT_RESULT_STATE
    | intro _
    | dsimp only
    | with_reducible apply ok_ite
    | ((with_reducible apply ok_mk) <;> first | exact Or.inr (sub_bit hE rfl) | exact Or.inr (Or.inr (sub_bit hE rfl)) | with_reducible first | exact Or.inl rfl | exact rfl | exact Or.inr (Or.inl rfl) | assumption | apply ok_ite | apply State.p_ok | apply State.journal_ok | apply ws_f_SAF_BT_RESULT_AXIS | apply ws_f_SAF_BT_RESULT_MOVED | apply ws_f_SAF_BT_RESULT_REASON | apply ws_f_SAF_BT_RESULT_RESULT | apply ws_f_SAF_BT_RESULT_STATE)
    | split

theorem State.btAbortIf_ok {s0 : State} {E W : Nat} {s cond reason} (hE : sub 20482 E = true) (hW : sub 8232638888659890029688617201563263723608693324768994809591384142106255177843209762457018785111053927867784607036820765737871979733616962210847559670882103955129384697948594894991785984 W = true) (h : Ok E W s0 s) :
    Ok E W s0 (State.btAbortIf s cond reason) := by
  unfold State.btAbortIf
  repeat' first
    | exact sub_trans rfl hE | exact sub_trans rfl hW | exact sub_bit hW rfl | with_reducible first | assumption | apply State.btEnd_ok
    | intro _
    | dsimp only
    | with_reducible apply ok_ite
    | split

theorem State.refreshAxis_ok {s0 : State} {E W : Nat} {s n} (hE : sub 20482 E = true) (hW : sub 8365423386864081804361014253201380880441091604200752790391245176656356067808422823141809410677361381872188476589236234191012199445357741469377142090170480213706408337380934216417542144 W = true) (h : Ok E W s0 s) :
    Ok E W s0 (State.refreshAxis s n) := by
  unfold State.refreshAxis
  repeat' first
    | exact sub_trans rfl hE | exact sub_trans rfl hW | exact sub_bit hW rfl | with_reducible first | assumption | apply State.pb_ok | apply State.when_ok | apply State.off_ok | apply State.engage_ok | apply State.btAbortIf_ok | apply ws_f_AX_PWM_CTL_OUT_EN | apply ws_f_AX_PWM_STATUS_FXG_OFF | apply ws_f_AX_PWM_STATUS_OUT_ACTIVE | apply ws_f_AX_PWM_STATUS_STO_GATED
    | intro _
    | dsimp only
    | with_reducible apply ok_ite
    | split

theorem State.axisSafe_ok {s0 : State} {E W : Nat} {s n} (hE : sub 1613255170 E = true) (hW : sub 1224720827664335617602385987214491705491632334484350166037276981683049553931055031244425028751061640485537359143356552369623706688876251095208439298606643011697906567288471568046537934710258096916136064 W = true) (h : Ok E W s0 s) :
    Ok E W s0 (State.axisSafe s n) := by
  unfold State.axisSafe
  repeat' first
    | exact sub_trans rfl hE | exact sub_trans rfl hW | exact sub_bit hW rfl | with_reducible first | assumption | apply State.chanFault_ok | apply State.refreshAxis_ok | apply State.engage_ok | apply State.off_ok | apply State.on_ok | apply ws_f_AX_PWM_CTL_OUT_EN | apply ws_f_AX_PWM_STATUS_FAULT
    | intro _
    | dsimp only
    | with_reducible apply ok_ite
    | split

theorem State.enBusy_ok {s0 : State} {E W : Nat} {s} (hE : sub 2 E = true) (hW : sub 899782758908639276562107701537196371773939423660383326620151114522367516134297574063808137220778171429984182126704179024641653211098859937801703036173032771026944 W = true) (h : Ok E W s0 s) :
    Ok E W s0 (State.enBusy s) := by
  unfold State.enBusy
  repeat' first
    | exact sub_trans rfl hE | exact sub_trans rfl hW | exact sub_bit hW rfl | with_reducible first | assumption | apply State.p_ok | apply ws_f_LSP_EN_STATUS_BUSY
    | intro _
    | dsimp only
    | with_reducible apply ok_ite
    | split

theorem State.enSet_ok {s0 : State} {E W : Nat} {s k b} (hE : sub 2 E = true) (hW : sub 3987683987354747618711421180841033728 W = true) (h : Ok E W s0 s) :
    Ok E W s0 (State.enSet s k b) := by
  unfold State.enSet
  repeat' first
    | exact sub_trans rfl hE | exact sub_trans rfl hW | exact sub_bit hW rfl | with_reducible first | assumption | apply State.wr_ok | apply ws_r_LSP_EN_REQ0 | apply ws_r_LSP_EN_REQ1 | apply wrF_of_wr
    | intro _
    | dsimp only
    | with_reducible apply ok_ite
    | split

theorem State.dropPending_ok {s0 : State} {E W : Nat} {s g} (hE : sub 2 E = true) (hW : sub 2699348276725917829686323104611589115321818270981149979860453343567102548402892722191424411662334514289952546380112537073924963620980567168152727819940279154114560 W = true) (h : Ok E W s0 s) :
    Ok E W s0 (State.dropPending s g) := by
  unfold State.dropPending
  repeat' first
    | exact sub_trans rfl hE | exact sub_trans rfl hW | exact sub_bit hW rfl | with_reducible first | assumption | apply State.enBusy_ok | apply State.on_ok | apply State.each_ok | apply State.enSet_ok | apply ws_f_LSP_EN_STATUS_CANCELLED
    | intro _
    | dsimp only
    | with_reducible apply ok_ite
    | split

theorem State.cancelUnlock_ok {s0 : State} {E W : Nat} {s scope} (hE : sub 16386 E = true) (hW : sub 543885304644369509058138323509727874385503352552480689356230797517213245297512696564902402319594788524942673393916417039714897241756372213155348458256985448390483221335442656288489603072 W = true) (h : Ok E W s0 s) :
    Ok E W s0 (State.cancelUnlock s scope) := by
  unfold State.cancelUnlock
  repeat' first
    | exact sub_trans rfl hE | exact sub_trans rfl hW | exact sub_bit hW rfl | with_reducible first | assumption | apply State.off_ok | apply ws_f_SAF_LOCK_UNLOCK_WAIT
    | intro _
    | dsimp only
    | with_reducible apply ok_ite
    | ((with_reducible apply ok_mk) <;> first | exact Or.inr (sub_bit hE rfl) | exact Or.inr (Or.inr (sub_bit hE rfl)) | with_reducible first | exact Or.inl rfl | exact rfl | exact Or.inr (Or.inl rfl) | assumption | apply ok_ite | apply State.off_ok | apply ws_f_SAF_LOCK_UNLOCK_WAIT)
    | split

theorem State.lockAxis_ok {s0 : State} {E W : Nat} {s n cause} (hE : sub 20482 E = true) (hW : sub 560748935916301864441532749067768753303217934040313952917821271960820552897878676407175918457053229914261356229908167054547786608966885064272777845025304547655498130819553369036257492992 W = true) (h : Ok E W s0 s) :
    Ok E W s0 (State.lockAxis s n cause) := by
  unfold State.lockAxis
  repeat' first
    | exact sub_trans rfl hE | exact sub_trans rfl hW | exact sub_bit hW rfl | with_reducible first | assumption | apply State.cancelUnlock_ok | apply State.p_ok | apply State.on_ok | apply State.btAbortIf_ok | apply State.refreshAxis_ok | apply State.engage_ok | apply ws_f_FXG_AX_STATUS_CAUSE | apply ws_f_FXG_AX_STATUS_HOLD | apply ws_f_SAF_LOCK_AXIS
    | intro _
    | dsimp only
    | with_reducible apply ok_ite
    | split

theorem State.btMove_ok {s0 : State} {E W : Nat} {s n p} (hE : sub 20482 E = true) (hW : sub 560748935916301864441532749067768753303217934040313952917821271960820552897878676407175918457053229914261356229908167054547786608966885064272777845025304547655498130819553369036257492992 W = true) (h : Ok E W s0 s) :
    Ok E W s0 (State.btMove s n p) := by
  unfold State.btMove
  repeat' first
    | exact sub_trans rfl hE | exact sub_trans rfl hW | exact sub_bit hW rfl | with_reducible first | assumption | apply State.lockAxis_ok | apply State.btEnd_ok
    | intro _
    | dsimp only
    | with_reducible apply ok_ite
    | ((with_reducible apply ok_mk) <;> first | exact Or.inr (sub_bit hE rfl) | exact Or.inr (Or.inr (sub_bit hE rfl)) | with_reducible first | exact Or.inl rfl | exact rfl | exact Or.inr (Or.inl rfl) | assumption | apply ok_ite | apply State.lockAxis_ok | apply State.btEnd_ok)
    | split

theorem State.axisFault_ok {s0 : State} {E W : Nat} {s n} (hE : sub 1613255170 E = true) (hW : sub 1224720827664335617602385987214491705491632334484350166037276981683049553931055031244425028751061640485537359143356552369623706688876251095208439298606643011697906567288471568046537934710258096916136064 W = true) (h : Ok E W s0 s) :
    Ok E W s0 (State.axisFault s n) := by
  unfold State.axisFault
  repeat' first
    | exact sub_trans rfl hE | exact sub_trans rfl hW | exact sub_bit hW rfl | with_reducible first | assumption | apply State.axisSafe_ok | apply State.raiseSt_ok
    | intro _
    | dsimp only
    | with_reducible apply ok_ite
    | split

theorem State.trip_ok {s0 : State} {E W : Nat} {s n cause} (hE : sub 1613255170 E = true) (hW : sub 1224720827664336169985898516652274342663367149051722588814119417796249681371912556401281291866543404926455326235773667084478243504566757313758713303749690905098509526266834236781194834700675619213017216 W = true) (h : Ok E W s0 s) :
    Ok E W s0 (State.trip s n cause) := by
  unfold State.trip
  repeat' first
    | exact sub_trans rfl hE | exact sub_trans rfl hW | exact sub_bit hW rfl | with_reducible first | assumption | apply State.cancelUnlock_ok | apply State.count_ok | apply State.axisFault_ok | apply State.lockAxis_ok | apply State.raiseSt_ok | apply ws_f_FXG_AX_STATUS_TRIPS
    | intro _
    | dsimp only
    | with_reducible apply ok_ite
    | split

theorem State.setChop_ok {s0 : State} {E W : Nat} {s g v} (hE : sub 2050 E = true) (hW : sub 693167423530203714894603546035770925859109268843954143792619895153655326951406405759993601526034894524347802740350892957243539456 W = true) (h : Ok E W s0 s) :
    Ok E W s0 (State.setChop s g v) := by
  unfold State.setChop
  repeat' first
    | exact sub_trans rfl hE | exact sub_trans rfl hW | exact sub_bit hW rfl | with_reducible first | assumption | apply State.setBch_ok | apply State.pb_ok | apply ws_f_GLB_BCH_STATUS_ON
    | intro _
    | dsimp only
    | with_reducible apply ok_ite
    | split

theorem State.refreshChop_ok {s0 : State} {E W : Nat} {s g} (hE : sub 2050 E = true) (hW : sub 693167423530203714894603546035770925859109268843954143792619895153655326951406405759993601526034894524347802740350892957243539456 W = true) (h : Ok E W s0 s) :
    Ok E W s0 (State.refreshChop s g) := by
  unfold State.refreshChop
  repeat' first
    | exact sub_trans rfl hE | exact sub_trans rfl hW | exact sub_bit hW rfl | with_reducible first | assumption | apply State.setChop_ok
    | intro _
    | dsimp only
    | with_reducible apply ok_ite
    | split

theorem State.checkSat_ok {s0 : State} {E W : Nat} {s n sat} (hE : sub 1613255170 E = true) (hW : sub 1224720827664336169985898516652274342663367149051722588814119417796249681371912556401281291866543404926455326235773667084478243504566757313758713303749690905098509526266834236781194834700675619213017216 W = true) (h : Ok E W s0 s) :
    Ok E W s0 (State.checkSat s n sat) := by
  unfold State.checkSat
  repeat' first
    | exact sub_trans rfl hE | exact sub_trans rfl hW | exact sub_bit hW rfl | with_reducible first | assumption | apply State.trip_ok
    | intro _
    | dsimp only
    | with_reducible apply ok_ite
    | split

theorem State.checkFast_ok {s0 : State} {E W : Nat} {s n b q} (hE : sub 1613255170 E = true) (hW : sub 1224720827664336169985898516652274342663367149051722588814119417796249681371912556401281291866543404926455326235773667084478243504566757313758713303749690905098509526266834236781194834700675619213017216 W = true) (h : Ok E W s0 s) :
    Ok E W s0 (State.checkFast s n b q) := by
  unfold State.checkFast
  repeat' first
    | exact sub_trans rfl hE | exact sub_trans rfl hW | exact sub_bit hW rfl | with_reducible first | assumption | apply State.trip_ok
    | intro _
    | dsimp only
    | with_reducible apply ok_ite
    | split

theorem State.wavesOff_ok {s0 : State} {E W : Nat} {s g} (hE : sub 16384 E = true) (hW : sub 0 W = true) (h : Ok E W s0 s) :
    Ok E W s0 (State.wavesOff s g) := by
  unfold State.wavesOff
  repeat' first
    | exact sub_trans rfl hE | exact sub_trans rfl hW | exact sub_bit hW rfl | with_reducible first | assumption
    | intro _
    | dsimp only
    | with_reducible apply ok_ite
    | ((with_reducible apply ok_mk) <;> first | exact Or.inr (sub_bit hE rfl) | exact Or.inr (Or.inr (sub_bit hE rfl)) | with_reducible first | exact Or.inl rfl | exact rfl | exact Or.inr (Or.inl rfl) | assumption | apply ok_ite)
    | split

theorem State.refreshAux_ok {s0 : State} {E W : Nat} {s c} (hE : sub 1611137026 E = true) (hW : sub 6328748678897558822634998430408898875806043494177128283373696 W = true) (h : Ok E W s0 s) :
    Ok E W s0 (State.refreshAux s c) := by
  unfold State.refreshAux
  repeat' first
    | exact sub_trans rfl hE | exact sub_trans rfl hW | exact sub_bit hW rfl | with_reducible first | assumption | apply State.auxMode_ok | apply State.pb_ok | apply State.p_ok | apply ws_f_AUX_STATUS_STATE | apply ws_f_AUX_STATUS_STO_GATED
    | intro _
    | dsimp only
    | with_reducible apply ok_ite
    | split

theorem State.assertSto_ok {s0 : State} {E W : Nat} {s g} (hE : sub 1611158018 E = true) (hW : sub 278477641401304052719571185350582149792175987284797418314769674895808108929544288924506515364145757489045243157586206422902732696266280091622490365093464560868814826106957690515794566316160 W = true) (h : Ok E W s0 s) :
    Ok E W s0 (State.assertSto s g) := by
  unfold State.assertSto
  repeat' first
    | exact sub_trans rfl hE | exact sub_trans rfl hW | exact sub_bit hW rfl | with_reducible first | assumption | apply State.wavesOff_ok | apply State.p_ok | apply State.btAbortIf_ok | apply State.each_ok | apply State.refreshAxis_ok | apply State.engage_ok | apply State.off_ok | apply State.refreshAux_ok | apply State.raiseSt_ok | apply State.dropPending_ok | apply ws_f_AUX_CTL_OUT_EN | apply ws_f_AX_PWM_CTL_OUT_EN | apply ws_f_SAF_STO_ASSERTED
    | intro _
    | dsimp only
    | with_reducible apply ok_ite
    | split

theorem State.evalGroup_ok {s0 : State} {E W : Nat} {s g} (hE : sub 1611158018 E = true) (hW : sub 835416193357138429995104828624543493162931420298537644215550011553434472114197290206966575339410820938586540712956617471570787471824805237893567186348617660020669644754450970555207919861888 W = true) (h : Ok E W s0 s) :
    Ok E W s0 (State.evalGroup s g) := by
  unfold State.evalGroup
  repeat' first
    | exact sub_trans rfl hE | exact sub_trans rfl hW | exact sub_bit hW rfl | with_reducible first | assumption | apply State.p_ok | apply State.when_ok | apply State.assertSto_ok | apply ws_f_SAF_STO_DEMAND
    | intro _
    | dsimp only
    | with_reducible apply ok_ite
    | split

theorem State.evalGroups_ok {s0 : State} {E W : Nat} {s} (hE : sub 1611158018 E = true) (hW : sub 835416193357138429995104828624543493162931420298537644215550011553434472114197290206966575339410820938586540712956617471570787471824805237893567186348617660020669644754450970555207919861888 W = true) (h : Ok E W s0 s) :
    Ok E W s0 (State.evalGroups s) := by
  unfold State.evalGroups
  repeat' first
    | exact sub_trans rfl hE | exact sub_trans rfl hW | exact sub_bit hW rfl | with_reducible first | assumption | apply State.each_ok | apply State.evalGroup_ok
    | intro _
    | dsimp only
    | with_reducible apply ok_ite
    | split

theorem State.leaveStagger_ok {s0 : State} {E W : Nat} {s k} (hE : sub 2 E = true) (hW : sub 899782758908639276562107701537196371773939423660383326620151114522367516134297574063808137220778171429984182126704179024641657198782847292549321747594213612060672 W = true) (h : Ok E W s0 s) :
    Ok E W s0 (State.leaveStagger s k) := by
  unfold State.leaveStagger
  repeat' first
    | exact sub_trans rfl hE | exact sub_trans rfl hW | exact sub_bit hW rfl | with_reducible first | assumption | apply State.enBusy_ok | apply State.enSet_ok
    | intro _
    | dsimp only
    | with_reducible apply ok_ite
    | split

theorem State.auxSafe_ok {s0 : State} {E W : Nat} {s c} (hE : sub 1613234690 E = true) (hW : sub 1224720827664335609236962600350409901130618081282969285596185377482296763539809854588068960942638817343727948465995170254601618571423883039263834186701013706100392892439981204183631804804844823676715136 W = true) (h : Ok E W s0 s) :
    Ok E W s0 (State.auxSafe s c) := by
  unfold State.auxSafe
  repeat' first
    | exact sub_trans rfl hE | exact sub_trans rfl hW | exact sub_bit hW rfl | with_reducible first | assumption | apply State.chanFault_ok | apply State.refreshAux_ok | apply State.off_ok | apply State.on_ok | apply ws_f_AUX_CTL_OUT_EN | apply ws_f_AUX_STATUS_FAULT
    | intro _
    | dsimp only
    | with_reducible apply ok_ite
    | split

theorem State.auxFault_ok {s0 : State} {E W : Nat} {s c} (hE : sub 1613234690 E = true) (hW : sub 1224720827664335609236962600350409901130618081282969285596185377482296763539809854588068960942638817343727948465995170254601618571423883039263834186701013706100392892439981204183631804804844823676715136 W = true) (h : Ok E W s0 s) :
    Ok E W s0 (State.auxFault s c) := by
  unfold State.auxFault
  repeat' first
    | exact sub_trans rfl hE | exact sub_trans rfl hW | exact sub_bit hW rfl | with_reducible first | assumption | apply State.auxSafe_ok | apply State.raiseSt_ok
    | intro _
    | dsimp only
    | with_reducible apply ok_ite
    | split

theorem State.btCurrent_ok {s0 : State} {E W : Nat} {s n m} (hE : sub 16384 E = true) (hW : sub 0 W = true) (h : Ok E W s0 s) :
    Ok E W s0 (State.btCurrent s n m) := by
  unfold State.btCurrent
  repeat' first
    | exact sub_trans rfl hE | exact sub_trans rfl hW | exact sub_bit hW rfl | with_reducible first | assumption
    | intro _
    | dsimp only
    | with_reducible apply ok_ite
    | ((with_reducible apply ok_mk) <;> first | exact Or.inr (sub_bit hE rfl) | exact Or.inr (Or.inr (sub_bit hE rfl)) | with_reducible first | exact Or.inl rfl | exact rfl | exact Or.inr (Or.inl rfl) | assumption | apply ok_ite)
    | split

theorem State.refreshAxes_ok {s0 : State} {E W : Nat} {s} (hE : sub 22530 E = true) (hW : sub 8365423386864081804361014253201380880441091604200752791084412600186559782703026369177580336536470650716142620381856129344667526396764147229370743616205374738054211077731827173661081600 W = true) (h : Ok E W s0 s) :
    Ok E W s0 (State.refreshAxes s) := by
  unfold State.refreshAxes
  repeat' first
    | exact sub_trans rfl hE | exact sub_trans rfl hW | exact sub_bit hW rfl | with_reducible first | assumption | apply State.each_ok | apply State.refreshAxis_ok | apply State.refreshChop_ok
    | intro _
    | dsimp only
    | with_reducible apply ok_ite
    | split

theorem State.lockDevice_ok {s0 : State} {E W : Nat} {s cause} (hE : sub 1611160066 E = true) (hW : sub 836079053572173755334269434706320974009838752509460980055703611005332105960618528409451085913163686196370158550299245724733093658165147222934110260883644395930419893983193892185516760105088 W = true) (h : Ok E W s0 s) :
    Ok E W s0 (State.lockDevice s cause) := by
  unfold State.lockDevice
  repeat' first
    | exact sub_trans rfl hE | exact sub_trans rfl hW | exact sub_bit hW rfl | with_reducible first | assumption | apply State.cancelUnlock_ok | apply State.on_ok | apply State.p_ok | apply State.raiseSt_ok | apply State.btAbortIf_ok | apply State.each_ok | apply State.engage_ok | apply State.refreshAxes_ok | apply State.evalGroups_ok | apply ws_f_SAF_LOCK_CAUSE | apply ws_f_SAF_LOCK_CAUSE_ACTIVE | apply ws_f_SAF_LOCK_DEVICE
    | intro _
    | dsimp only
    | with_reducible apply ok_ite
    | split

theorem State.checkDuty_ok {s0 : State} {E W : Nat} {s n} (hE : sub 1613255170 E = true) (hW : sub 1224720827664336169985898516652274342663367149051722588814119417796249681371912556401281291866543404926455326235773667084478243504566757313758713303749690905098509526266834236781194834700675619213017216 W = true) (h : Ok E W s0 s) :
    Ok E W s0 (State.checkDuty s n) := by
  unfold State.checkDuty
  repeat' first
    | exact sub_trans rfl hE | exact sub_trans rfl hW | exact sub_bit hW rfl | with_reducible first | assumption | apply State.trip_ok
    | intro _
    | dsimp only
    | with_reducible apply ok_ite
    | split

theorem State.brakeFault_ok {s0 : State} {E W : Nat} {s n why} (hE : sub 20994 E = true) (hW : sub 560848524289955008272537046856497341170842232749887771403421167736733128565352586202689511426227960405324272979186838273488164092592694946880167130021323282783987599182835005264825942016 W = true) (h : Ok E W s0 s) :
    Ok E W s0 (State.brakeFault s n why) := by
  unfold State.brakeFault
  repeat' first
    | exact sub_trans rfl hE | exact sub_trans rfl hW | exact sub_bit hW rfl | with_reducible first | assumption | apply State.p_ok | apply State.on_ok | apply State.raiseSt_ok | apply State.lockAxis_ok | apply ws_f_SAF_BRK_STATUS_FAULT | apply ws_f_SAF_BRK_STATUS_FAULT_WHY
    | intro _
    | dsimp only
    | with_reducible apply ok_ite
    | split

theorem State.motionReady_ok {s0 : State} {E W : Nat} {s} (hE : sub 2 E = true) (hW : sub 116294195887297102487891809262080725496582617709970889645038431868902286098143667732190568114202170489722003457002588469365536260578344960 W = true) (h : Ok E W s0 s) :
    Ok E W s0 (State.motionReady s) := by
  unfold State.motionReady
  repeat' first
    | exact sub_trans rfl hE | exact sub_trans rfl hW | exact sub_bit hW rfl | with_reducible first | assumption | apply State.p_ok | apply State.on_ok | apply ws_f_GLB_READY_MOTION_READY | apply ws_f_GLB_READY_READY_MS
    | intro _
    | dsimp only
    | with_reducible apply ok_ite
    | split

theorem State.checkVel_ok {s0 : State} {E W : Nat} {s n v} (hE : sub 1613255170 E = true) (hW : sub 1224720827664336169985898516652274342663367149051722588814119417796249681371912556401281291866543404926455326235773667084478243504566757313758713303749690905098509526266834236781194834700675619213017216 W = true) (h : Ok E W s0 s) :
    Ok E W s0 (State.checkVel s n v) := by
  unfold State.checkVel
  repeat' first
    | exact sub_trans rfl hE | exact sub_trans rfl hW | exact sub_bit hW rfl | with_reducible first | assumption | apply State.trip_ok
    | intro _
    | dsimp only
    | with_reducible apply ok_ite
    | split

theorem State.tripGroup_ok {s0 : State} {E W : Nat} {s g cause} (hE : sub 1613255170 E = true) (hW : sub 1224720827664336169985898516652274342663367149051722588814119417796249681371912556401281291866543404926455326235773667084478243504566757313758713303749690905098509526266834236781194834700675619213017216 W = true) (h : Ok E W s0 s) :
    Ok E W s0 (State.tripGroup s g cause) := by
  unfold State.tripGroup
  repeat' first
    | exact sub_trans rfl hE | exact sub_trans rfl hW | exact sub_bit hW rfl | with_reducible first | assumption | apply State.each_ok | apply State.trip_ok
    | intro _
    | dsimp only
    | with_reducible apply ok_ite
    | split

theorem State.checkPos_ok {s0 : State} {E W : Nat} {s n p} (hE : sub 1613255170 E = true) (hW : sub 1224720827664336169985898516652274342663367149051722588814119417796249681371912556401281291866543404926455326235773667084478243504566757313758713303749690905098509526266834236781194834700675619213017216 W = true) (h : Ok E W s0 s) :
    Ok E W s0 (State.checkPos s n p) := by
  unfold State.checkPos
  repeat' first
    | exact sub_trans rfl hE | exact sub_trans rfl hW | exact sub_bit hW rfl | with_reducible first | assumption | apply State.btMove_ok | apply State.trip_ok
    | intro _
    | dsimp only
    | with_reducible apply ok_ite
    | split

theorem State.checkFastPair_ok {s0 : State} {E W : Nat} {s n qa qb} (hE : sub 1613255170 E = true) (hW : sub 1224720827664336169985898516652274342663367149051722588814119417796249681371912556401281291866543404926455326235773667084478243504566757313758713303749690905098509526266834236781194834700675619213017216 W = true) (h : Ok E W s0 s) :
    Ok E W s0 (State.checkFastPair s n qa qb) := by
  unfold State.checkFastPair
  repeat' first
    | exact sub_trans rfl hE | exact sub_trans rfl hW | exact sub_bit hW rfl | with_reducible first | assumption | apply State.btCurrent_ok | apply State.trip_ok
    | intro _
    | dsimp only
    | with_reducible apply ok_ite
    | split

end Sys2Proof.Machine
end

