-- ==== Sys2Proof/Laws/KeepLarkOps.lean ====
section
/-! SUPPORT. What the definitions of Machine/LarkOps.lean keep: the queue, and the canonical forms of the register window and of
the memories; one lemma for each. -/

namespace Sys2Proof.Machine

theorem State.setGrp_ok {s0 : State} {E W : Nat} {s g x} (hE : sub 1048576 E = true) (hW : sub 0 W = true) (h : Ok E W s0 s) :
    Ok E W s0 (State.setGrp s g x) := by
  unfold State.setGrp
  repeat' first
    | exact sub_trans rfl hE | exact sub_trans rfl hW | exact sub_bit hW rfl | with_reducible first | assumption
    | intro _
    | dsimp only
    | with_reducible apply ok_ite
    | ((with_reducible apply ok_mk) <;> first | exact Or.inr (sub_bit hE rfl) | exact Or.inr (Or.inr (sub_bit hE rfl)) | with_reducible first | exact Or.inl rfl | exact rfl | exact Or.inr (Or.inl rfl) | assumption | apply ok_ite)
    | split

theorem State.outputsOff_ok {s0 : State} {E W : Nat} {s k} (hE : sub 1611157506 E = true) (hW : sub 8365423386864081804361014253201380880441091604200752790391245176656356067808422823141809410677361381872188476589236234191018534471138374414880540924390312320248630483230555808735428736 W = true) (h : Ok E W s0 s) :
    Ok E W s0 (State.outputsOff s k) := by
  unfold State.outputsOff
  repeat' first
    | exact sub_trans rfl hE | exact sub_trans rfl hW | exact sub_bit hW rfl | with_reducible first | assumption | apply State.refreshAxis_ok | apply State.engage_ok | apply State.off_ok | apply State.refreshAux_ok | apply ws_f_AUX_CTL_OUT_EN | apply ws_f_AX_PWM_CTL_OUT_EN
    | intro _
    | dsimp only
    | with_reducible apply ok_ite
    | split

theorem State.offStop_ok {s0 : State} {E W : Nat} {s k} (hE : sub 1613255170 E = true) (hW : sub 1224720827664335617602385987214491705491632334484350166037276981683049553931055031244425028751061640485537359143356552126790095160660117230276008523651813628754479639452768587224375732764001183956205696 W = true) (h : Ok E W s0 s) :
    Ok E W s0 (State.offStop s k) := by
  unfold State.offStop
  repeat' first
    | exact sub_trans rfl hE | exact sub_trans rfl hW | exact sub_bit hW rfl | with_reducible first | assumption | apply State.emptyQueue_ok | apply State.dropFollower_ok | apply State.outputsOff_ok | apply State.homeFail_ok | apply State.setChan_ok | apply State.setChanState_ok
    | intro _
    | dsimp only
    | with_reducible apply ok_ite
    | split

theorem State.rampFrom_ok {s0 : State} {E W : Nat} {s k t dec off} (hE : sub 1613255170 E = true) (hW : sub 1224720827664335617602385987214491705491632334484350166037276981683049553931055031244425028751061640485537359143356552126790095160660117230276008523651813628754479639452768587224375732764001183956205696 W = true) (h : Ok E W s0 s) :
    Ok E W s0 (State.rampFrom s k t dec off) := by
  unfold State.rampFrom
  repeat' first
    | exact sub_trans rfl hE | exact sub_trans rfl hW | exact sub_bit hW rfl | with_reducible first | assumption | apply State.offStop_ok | apply State.setChan_ok | apply State.emptyQueue_ok | apply State.dropFollower_ok | apply State.setChanState_ok
    | intro _
    | dsimp only
    | with_reducible apply ok_ite
    | split

theorem State.setDl_ok {s0 : State} {E W : Nat} {s g x} (hE : sub 32768 E = true) (hW : sub 0 W = true) (h : Ok E W s0 s) :
    Ok E W s0 (State.setDl s g x) := by
  unfold State.setDl
  repeat' first
    | exact sub_trans rfl hE | exact sub_trans rfl hW | exact sub_bit hW rfl | with_reducible first | assumption
    | intro _
    | dsimp only
    | with_reducible apply ok_ite
    | ((with_reducible apply ok_mk) <;> first | exact Or.inr (sub_bit hE rfl) | exact Or.inr (Or.inr (sub_bit hE rfl)) | with_reducible first | exact Or.inl rfl | exact rfl | exact Or.inr (Or.inl rfl) | assumption | apply ok_ite)
    | split

theorem State.restretch_ok {s0 : State} {E W : Nat} {s g} (hE : sub 2 E = true) (hW : sub 449891379454319638281053850768598185886969711830191663310075557261183758067148787031904068610389085714992091063352089512320826605549429968900851518086516385513472 W = true) (h : Ok E W s0 s) :
    Ok E W s0 (State.restretch s g) := by
  unfold State.restretch
  repeat' first
    | exact sub_trans rfl hE | exact sub_trans rfl hW | exact sub_bit hW rfl | with_reducible first | assumption | apply State.p_ok | apply ws_f_LSP_DL_STATUS_S
    | intro _
    | dsimp only
    | with_reducible apply ok_ite
    | split

theorem State.askGroupStop_ok {s0 : State} {E W : Nat} {s g quick} (hE : sub 1048576 E = true) (hW : sub 0 W = true) (h : Ok E W s0 s) :
    Ok E W s0 (State.askGroupStop s g quick) := by
  unfold State.askGroupStop
  repeat' first
    | exact sub_trans rfl hE | exact sub_trans rfl hW | exact sub_bit hW rfl | with_reducible first | assumption | apply State.setGrp_ok
    | intro _
    | dsimp only
    | with_reducible apply ok_ite
    | split

theorem State.neverStarted_ok {s0 : State} {E W : Nat} {s k} (hE : sub 1611157506 E = true) (hW : sub 8365423386864081804361070489623812670395876735932098865164481047870334841766336582586467058647119775470567464597812532826732908482521293426069581027716005998994743089670316623283617920 W = true) (h : Ok E W s0 s) :
    Ok E W s0 (State.neverStarted s k) := by
  unfold State.neverStarted
  repeat' first
    | exact sub_trans rfl hE | exact sub_trans rfl hW | exact sub_bit hW rfl | with_reducible first | assumption | apply State.setChan_ok | apply State.when_ok | apply State.setChanState_ok | apply State.outputsOff_ok
    | intro _
    | dsimp only
    | with_reducible apply ok_ite
    | split

theorem State.groupStop_ok {s0 : State} {E W : Nat} {s g t quick} (hE : sub 1614303746 E = true) (hW : sub 1224720827664335617602385987214491705952321107045573475637076124870094096279312016158541291980579011120989527404116910047459861417698541002427909772524353289371006083535384875378847687284593962722001024 W = true) (h : Ok E W s0 s) :
    Ok E W s0 (State.groupStop s g t quick) := by
  unfold State.groupStop
  repeat' first
    | exact sub_trans rfl hE | exact sub_trans rfl hW | exact sub_bit hW rfl | with_reducible first | assumption | apply State.setGrp_ok | apply State.p_ok | apply State.each_ok | apply State.offStop_ok | apply State.setChan_ok | apply State.neverStarted_ok | apply ws_f_LSP_GRP_STATUS_STATE
    | intro _
    | dsimp only
    | with_reducible apply ok_ite
    | split

theorem State.pathStop_ok {s0 : State} {E W : Nat} {s k quick} (hE : sub 1614303746 E = true) (hW : sub 1224720827664335617602385987214491705952321107045573475637076124870094096279312016158541291980579011120989527404116910047459861417698541002427909772524353289371006083535384875378847687284593962722001024 W = true) (h : Ok E W s0 s) :
    Ok E W s0 (State.pathStop s k quick) := by
  unfold State.pathStop
  repeat' first
    | exact sub_trans rfl hE | exact sub_trans rfl hW | exact sub_bit hW rfl | with_reducible first | assumption | apply State.groupStop_ok
    | intro _
    | dsimp only
    | with_reducible apply ok_ite
    | split

theorem State.opStop_ok {s0 : State} {E W : Nat} {s k t quick} (hE : sub 1613255170 E = true) (hW : sub 1224720827664335617602385987214491705491632334484350166037276981683049553931055031244425028751061640485537359143356552126790095160660117230276008523651813628754479639452768587224375732764001183956205696 W = true) (h : Ok E W s0 s) :
    Ok E W s0 (State.opStop s k t quick) := by
  unfold State.opStop
  repeat' first
    | exact sub_trans rfl hE | exact sub_trans rfl hW | exact sub_bit hW rfl | with_reducible first | assumption | apply State.rampFrom_ok
    | intro _
    | dsimp only
    | with_reducible apply ok_ite
    | split

theorem State.quickStop_ok {s0 : State} {E W : Nat} {s k} (hE : sub 1614303746 E = true) (hW : sub 1224720827664335617602385987214491705952321107045573475637076124870094096279312016158541291980579011120989527404116910047459861417698541002427909772524353289371006083535384875378847687284593962722001024 W = true) (h : Ok E W s0 s) :
    Ok E W s0 (State.quickStop s k) := by
  unfold State.quickStop
  repeat' first
    | exact sub_trans rfl hE | exact sub_trans rfl hW | exact sub_bit hW rfl | with_reducible first | assumption | apply State.homeFail_ok | apply State.setChan_ok | apply State.pathStop_ok | apply State.opStop_ok
    | intro _
    | dsimp only
    | with_reducible apply ok_ite
    | split

theorem State.homeDone_ok {s0 : State} {E W : Nat} {s k} (hE : sub 2621442 E = true) (hW : sub 1224720827664335609236962600350409901130614456669804685487527618661458129608102123394993731892350687644134162822766709790115529036893693740157253447808569029376455621526682897568178680987241208212357120 W = true) (h : Ok E W s0 s) :
    Ok E W s0 (State.homeDone s k) := by
  unfold State.homeDone
  repeat' first
    | exact sub_trans rfl hE | exact sub_trans rfl hW | exact sub_bit hW rfl | with_reducible first | assumption | apply State.when_ok | apply State.writeBlock_ok | apply State.setChan_ok | apply State.setChanState_ok | apply State.p_ok | apply State.on_ok | apply ws_f_LSP_CH_STATUS_HOMED | apply ws_f_LSP_CH_STATUS_HOME_REASON
    | intro _
    | dsimp only
    | with_reducible apply ok_ite
    | split

theorem State.configuredStop_ok {s0 : State} {E W : Nat} {s k} (hE : sub 1614303746 E = true) (hW : sub 1224720827664335617602385987214491705952321107045573475637076124870094096279312016158541291980579011120989527404116910047459861417698541002427909772524353289371006083535384875378847687284593962722001024 W = true) (h : Ok E W s0 s) :
    Ok E W s0 (State.configuredStop s k) := by
  unfold State.configuredStop
  repeat' first
    | exact sub_trans rfl hE | exact sub_trans rfl hW | exact sub_bit hW rfl | with_reducible first | assumption | apply State.homeFail_ok | apply State.setChan_ok | apply State.offStop_ok | apply State.pathStop_ok | apply State.rampFrom_ok
    | intro _
    | dsimp only
    | with_reducible apply ok_ite
    | split

theorem State.levelStop_ok {s0 : State} {E W : Nat} {s level k stop} (hE : sub 524288 E = true) (hW : sub 0 W = true) (h : Ok E W s0 s) (hk : ∀ t, Ok E W s0 t → Ok E W s0 (stop t)) :
    Ok E W s0 (State.levelStop s level k stop) := by
  unfold State.levelStop
  repeat' first
    | exact sub_trans rfl hE | exact sub_trans rfl hW | exact sub_bit hW rfl | with_reducible first | assumption | apply hk | apply State.setChan_ok
    | intro _
    | dsimp only
    | with_reducible apply ok_ite
    | split

end Sys2Proof.Machine
end

