-- ==== Sys2Proof/Laws/KeepPwm.lean ====
section
/-! SUPPORT. What the definitions of Machine/Pwm.lean keep: the queue, and the canonical forms of the register window and of
the memories; one lemma for each. -/

namespace Sys2Proof.Machine

theorem State.noteShadow_ok {s0 : State} {E W : Nat} {s n} (hE : sub 1024 E = true) (hW : sub 0 W = true) (h : Ok E W s0 s) :
    Ok E W s0 (State.noteShadow s n) := by
  unfold State.noteShadow
  repeat' first
    | exact sub_trans rfl hE | exact sub_trans rfl hW | exact sub_bit hW rfl | with_reducible first | assumption | apply State.setPwm_ok
    | intro _
    | dsimp only
    | with_reducible apply ok_ite
    | split

theorem State.pwmFaultClr_ok {s0 : State} {E W : Nat} {s n} (hE : sub 20482 E = true) (hW : sub 8365423386864081804361014253201380880441091604200752790391245176656356067808422823141809410677361384057690980343181438975406844621816511442084836023827441621995369293648255072277102592 W = true) (h : Ok E W s0 s) :
    Ok E W s0 (State.pwmFaultClr s n) := by
  unfold State.pwmFaultClr
  repeat' first
    | exact sub_trans rfl hE | exact sub_trans rfl hW | exact sub_bit hW rfl | with_reducible first | assumption | apply State.refreshAxis_ok | apply State.off_ok | apply ws_f_AX_PWM_STATUS_FAULT | apply ws_f_AX_PWM_STATUS_LAUNCH_OFF
    | intro _
    | dsimp only
    | with_reducible apply ok_ite
    | split

theorem State.fbResume_ok {s0 : State} {E W : Nat} {s n} (hE : sub 131072 E = true) (hW : sub 0 W = true) (h : Ok E W s0 s) :
    Ok E W s0 (State.fbResume s n) := by
  unfold State.fbResume
  repeat' first
    | exact sub_trans rfl hE | exact sub_trans rfl hW | exact sub_bit hW rfl | with_reducible first | assumption | apply State.setFb_ok
    | intro _
    | dsimp only
    | with_reducible apply ok_ite
    | split

theorem State.writeOutEn_ok {s0 : State} {E W : Nat} {s n v} (hE : sub 151554 E = true) (hW : sub 8365423386864081804361914035960289519717653711902289986763019116080016451135042974256331778193495679446252284726457012362442183627484445648401783747369263060998957659128528430029602816 W = true) (h : Ok E W s0 s) :
    Ok E W s0 (State.writeOutEn s n v) := by
  unfold State.writeOutEn
  repeat' first
    | exact sub_trans rfl hE | exact sub_trans rfl hW | exact sub_bit hW rfl | with_reducible first | assumption | apply State.refreshAxis_ok | apply State.when_ok | apply State.pb_ok | apply State.leaveStagger_ok | apply State.fbResume_ok | apply ws_f_AX_PWM_CTL_OUT_EN
    | intro _
    | dsimp only
    | with_reducible apply ok_ite
    | split

theorem State.askPwm_ok {s0 : State} {E W : Nat} {s n a} (hE : sub 1024 E = true) (hW : sub 0 W = true) (h : Ok E W s0 s) :
    Ok E W s0 (State.askPwm s n a) := by
  unfold State.askPwm
  repeat' first
    | exact sub_trans rfl hE | exact sub_trans rfl hW | exact sub_bit hW rfl | with_reducible first | assumption | apply State.setPwm_ok
    | intro _
    | dsimp only
    | with_reducible apply ok_ite
    | split

theorem State.armUnit_ok {s0 : State} {E W : Nat} {s n start} (hE : sub 1026 E = true) (hW : sub 62165411961917041457659288126895645568583121458947483281054095636930313633006968897536 W = true) (h : Ok E W s0 s) :
    Ok E W s0 (State.armUnit s n start) := by
  unfold State.armUnit
  repeat' first
    | exact sub_trans rfl hE | exact sub_trans rfl hW | exact sub_bit hW rfl | with_reducible first | assumption | apply State.on_ok | apply State.p_ok | apply State.askPwm_ok | apply ws_f_AX_PWM_CTL_ARM | apply ws_f_AX_PWM_STATUS_STATE
    | intro _
    | dsimp only
    | with_reducible apply ok_ite
    | split

theorem State.writeArm_ok {s0 : State} {E W : Nat} {s n arm start} (hE : sub 1026 E = true) (hW : sub 62195766163358068474392404719189763051499409065807672961073655205832484012463300280320 W = true) (h : Ok E W s0 s) :
    Ok E W s0 (State.writeArm s n arm start) := by
  unfold State.writeArm
  repeat' first
    | exact sub_trans rfl hE | exact sub_trans rfl hW | exact sub_bit hW rfl | with_reducible first | assumption | apply State.when_ok | apply State.on_ok | apply State.pb_ok | apply State.askPwm_ok | apply State.armUnit_ok | apply ws_f_AX_PWM_CTL_ARM | apply ws_f_AX_PWM_STATUS_CFG_REFUSED
    | intro _
    | dsimp only
    | with_reducible apply ok_ite
    | split

theorem wrPwmCtl_ok {s0 : State} {E W : Nat} {n v s} (hE : sub 152578 E = true) (hW : sub 8365423386864081804361914035960289519717653711902289986763019116080016451135042974256331778193495743827535773225893068012255765079787379172723762046736387535140175018632874629783355392 W = true) (h : Ok E W s0 s) :
    Ok E W s0 (wrPwmCtl n v s) := by
  unfold wrPwmCtl
  repeat' first
    | exact sub_trans rfl hE | exact sub_trans rfl hW | exact sub_bit hW rfl | with_reducible first | assumption | apply State.on_ok | apply State.p_ok | apply State.noteShadow_ok | apply State.when_ok | apply State.pwmFaultClr_ok | apply State.writeOutEn_ok | apply State.writeArm_ok | apply ws_f_AX_PWM_CTL_MODE_SEL | apply ws_f_AX_PWM_STATUS_CFG_REFUSED
    | intro _
    | dsimp only
    | with_reducible apply ok_ite
    | split

theorem State.pwmCtlBits_ok {s0 : State} {E W : Nat} {s n mask bits} (hE : sub 152578 E = true) (hW : sub 8365423386864081804361914035960289519717653711902289986763019116080016451135042974256331778193495743827535773225893068012255765079787379172723762046736387535140175018632874629783355392 W = true) (h : Ok E W s0 s) :
    Ok E W s0 (State.pwmCtlBits s n mask bits) := by
  unfold State.pwmCtlBits
  repeat' first
    | exact sub_trans rfl hE | exact sub_trans rfl hW | exact sub_bit hW rfl | with_reducible first | assumption | apply wrPwmCtl_ok
    | intro _
    | dsimp only
    | with_reducible apply ok_ite
    | split

theorem execPwmDisarm_ok {s0 : State} {E W : Nat} {rq n s} (hE : sub 153090 E = true) (hW : sub 8365423386864081804361914035960289519717653711902289986763019193547512793742300663933906938283851973718709558102598452932036461299216039677959600936096985939275118123398149922772484096 W = true) (h : Ok E W s0 s) :
    OkOut E W s0 (execPwmDisarm rq n s) := by
  unfold execPwmDisarm
  repeat' first
    | exact sub_trans rfl hE | exact sub_trans rfl hW | exact sub_bit hW rfl | with_reducible first | assumption | apply okOut_next | apply okOut_fault | apply State.write_ok | apply State.pwmCtlBits_ok
    | intro _
    | dsimp only
    | with_reducible apply ok_ite
    | split

theorem State.endFirst_ok {s0 : State} {E W : Nat} {s n zero} (hE : sub 1024 E = true) (hW : sub 0 W = true) (h : Ok E W s0 s) :
    Ok E W s0 (State.endFirst s n zero) := by
  unfold State.endFirst
  repeat' first
    | exact sub_trans rfl hE | exact sub_trans rfl hW | exact sub_bit hW rfl | with_reducible first | assumption | apply State.setPwm_ok
    | intro _
    | dsimp only
    | with_reducible apply ok_ite
    | split

theorem State.cmdsAtPoint_ok {s0 : State} {E W : Nat} {s n zero} (hE : sub 1024 E = true) (hW : sub 0 W = true) (h : Ok E W s0 s) :
    Ok E W s0 (State.cmdsAtPoint s n zero) := by
  unfold State.cmdsAtPoint
  repeat' first
    | exact sub_trans rfl hE | exact sub_trans rfl hW | exact sub_bit hW rfl | with_reducible first | assumption | apply State.setPwm_ok
    | intro _
    | dsimp only
    | with_reducible apply ok_ite
    | split

theorem State.loadPeriod_ok {s0 : State} {E W : Nat} {s n v} (hE : sub 1026 E = true) (hW : sub 31082702275611665134711390509176302506278509424834232340028998555822468563283335970816 W = true) (h : Ok E W s0 s) :
    Ok E W s0 (State.loadPeriod s n v) := by
  unfold State.loadPeriod
  repeat' first
    | exact sub_trans rfl hE | exact sub_trans rfl hW | exact sub_bit hW rfl | with_reducible first | assumption | apply State.setPwm_ok | apply State.on_ok | apply ws_f_AX_PWM_STATUS_PERIOD_RANGE
    | intro _
    | dsimp only
    | with_reducible apply ok_ite
    | split

theorem State.reallow_ok {s0 : State} {E W : Nat} {s n old} (hE : sub 1024 E = true) (hW : sub 0 W = true) (h : Ok E W s0 s) :
    Ok E W s0 (State.reallow s n old) := by
  unfold State.reallow
  repeat' first
    | exact sub_trans rfl hE | exact sub_trans rfl hW | exact sub_bit hW rfl | with_reducible first | assumption | apply State.setPwm_ok
    | intro _
    | dsimp only
    | with_reducible apply ok_ite
    | split

theorem State.hallFlag_ok {s0 : State} {E W : Nat} {s n} (hE : sub 2 E = true) (hW : sub 971334446112864535459730953411759453321203419526069760625906204869452142602604249088 W = true) (h : Ok E W s0 s) :
    Ok E W s0 (State.hallFlag s n) := by
  unfold State.hallFlag
  repeat' first
    | exact sub_trans rfl hE | exact sub_trans rfl hW | exact sub_bit hW rfl | with_reducible first | assumption | apply State.when_ok | apply State.on_ok | apply ws_f_AX_PWM_STATUS_HALL_INVALID
    | intro _
    | dsimp only
    | with_reducible apply ok_ite
    | split

theorem State.setMode_ok {s0 : State} {E W : Nat} {s n m} (hE : sub 1026 E = true) (hW : sub 4856672230564322677298654767058797266606017097630348803129531024347260713013021245440 W = true) (h : Ok E W s0 s) :
    Ok E W s0 (State.setMode s n m) := by
  unfold State.setMode
  repeat' first
    | exact sub_trans rfl hE | exact sub_trans rfl hW | exact sub_bit hW rfl | with_reducible first | assumption | apply State.setPwm_ok | apply State.when_ok | apply State.p_ok | apply State.reallow_ok | apply State.hallFlag_ok | apply ws_f_AX_PWM_STATUS_MASK_IDX
    | intro _
    | dsimp only
    | with_reducible apply ok_ite
    | split

theorem State.loadShadows_ok {s0 : State} {E W : Nat} {s n} (hE : sub 1026 E = true) (hW : sub 4856672230564322677298654767058797266606017097630348803129531024347260713013021245440 W = true) (h : Ok E W s0 s) :
    Ok E W s0 (State.loadShadows s n) := by
  unfold State.loadShadows
  repeat' first
    | exact sub_trans rfl hE | exact sub_trans rfl hW | exact sub_bit hW rfl | with_reducible first | assumption | apply State.setMode_ok | apply State.setPwm_ok
    | intro _
    | dsimp only
    | with_reducible apply ok_ite
    | split

theorem State.pointLoads_ok {s0 : State} {E W : Nat} {s n zero} (hE : sub 1026 E = true) (hW : sub 35943168781356116189101684850271864458249062473322104853160974526282500573728398639104 W = true) (h : Ok E W s0 s) :
    Ok E W s0 (State.pointLoads s n zero) := by
  unfold State.pointLoads
  repeat' first
    | exact sub_trans rfl hE | exact sub_trans rfl hW | exact sub_bit hW rfl | with_reducible first | assumption | apply State.setPwm_ok | apply State.when_ok | apply State.count_ok | apply State.loadPeriod_ok | apply State.loadShadows_ok | apply ws_f_AX_PWM_SHADOW_SKIPPED
    | intro _
    | dsimp only
    | with_reducible apply ok_ite
    | split

theorem State.adapt1_ok {s0 : State} {E W : Nat} {s n d} (hE : sub 1026 E = true) (hW : sub 627057063764139831929324851379409869378845668175598843037877190478889006888518431438644711527536922839520331484815861906294578342241173613817934705597945443449134572501350965918270824260892077345009041408 W = true) (h : Ok E W s0 s) :
    Ok E W s0 (State.adapt1 s n d) := by
  unfold State.adapt1
  repeat' first
    | exact sub_trans rfl hE | exact sub_trans rfl hW | exact sub_bit hW rfl | with_reducible first | assumption | apply State.setPwm_ok | apply State.p_ok | apply ws_f_AX_PWM_STATUS_DT_FALLBACK | apply ws_w_dtField | apply wrF_of_wr
    | intro _
    | dsimp only
    | with_reducible apply ok_ite
    | split

theorem State.adapt_ok {s0 : State} {E W : Nat} {s n} (hE : sub 1026 E = true) (hW : sub 627057063764139831929324851379409869378845668175598843037877190478889006888518431438644711527536922839520331484815861906294578342241173613817934705597945443449134572501350965918270824260892077345009041408 W = true) (h : Ok E W s0 s) :
    Ok E W s0 (State.adapt s n) := by
  unfold State.adapt
  repeat' first
    | exact sub_trans rfl hE | exact sub_trans rfl hW | exact sub_bit hW rfl | with_reducible first | assumption | apply State.setPwm_ok | apply State.each_ok | apply State.adapt1_ok
    | intro _
    | dsimp only
    | with_reducible apply ok_ite
    | split

theorem State.slew_ok {s0 : State} {E W : Nat} {s n} (hE : sub 1026 E = true) (hW : sub 15177100720513508366558296147058741458143803430094840009779784451085189728165691392 W = true) (h : Ok E W s0 s) :
    Ok E W s0 (State.slew s n) := by
  unfold State.slew
  repeat' first
    | exact sub_trans rfl hE | exact sub_trans rfl hW | exact sub_bit hW rfl | with_reducible first | assumption | apply State.setPwm_ok | apply State.off_ok | apply ws_f_AX_PWM_STATUS_ALIGN_SLEW
    | intro _
    | dsimp only
    | with_reducible apply ok_ite
    | split

theorem State.occur_ok {s0 : State} {E W : Nat} {s n i} (hE : sub 2147485184 E = true) (hW : sub 0 W = true) (h : Ok E W s0 s) :
    Ok E W s0 (State.occur s n i) := by
  unfold State.occur
  repeat' first
    | exact sub_trans rfl hE | exact sub_trans rfl hW | exact sub_bit hW rfl | with_reducible first | assumption | apply State.setPwm_ok | apply State.raiseSt_ok | apply State.capPwm_ok
    | intro _
    | dsimp only
    | with_reducible apply ok_ite
    | split

theorem State.checkPhase_ok {s0 : State} {E W : Nat} {s n} (hE : sub 2097154 E = true) (hW : sub 187072209578355573530071658587684226515959365500928 W = true) (h : Ok E W s0 s) :
    Ok E W s0 (State.checkPhase s n) := by
  unfold State.checkPhase
  repeat' first
    | exact sub_trans rfl hE | exact sub_trans rfl hW | exact sub_bit hW rfl | with_reducible first | assumption | apply State.when_ok | apply State.setAe_ok | apply State.on_ok | apply ws_f_AE_STATUS_PHASE_MISMATCH
    | intro _
    | dsimp only
    | with_reducible apply ok_ite
    | split

theorem State.noteUpdate_ok {s0 : State} {E W : Nat} {s n z} (hE : sub 1024 E = true) (hW : sub 0 W = true) (h : Ok E W s0 s) :
    Ok E W s0 (State.noteUpdate s n z) := by
  unfold State.noteUpdate
  repeat' first
    | exact sub_trans rfl hE | exact sub_trans rfl hW | exact sub_bit hW rfl | with_reducible first | assumption | apply State.setPwm_ok
    | intro _
    | dsimp only
    | with_reducible apply ok_ite
    | split

theorem State.point_ok {s0 : State} {E W : Nat} {s n zero} (hE : sub 3760739842 E = true) (hW : sub 628281784591804168099310749896062143721509035324650565626691309896685256569890343995045992819403466244446786811051635609337402467822370068599936565320618521133648937135391023397464917513405032380151890048 W = true) (h : Ok E W s0 s) :
    Ok E W s0 (State.point s n zero) := by
  unfold State.point
  repeat' first
    | exact sub_trans rfl hE | exact sub_trans rfl hW | exact sub_bit hW rfl | with_reducible first | assumption | apply State.endFirst_ok | apply State.cmdsAtPoint_ok | apply State.pointLoads_ok | apply State.when_ok | apply State.adapt_ok | apply State.slew_ok | apply State.setPwm_ok | apply State.occur_ok | apply State.checkPhase_ok | apply State.noteUpdate_ok | apply State.checkDuty_ok | apply State.refreshAxis_ok
    | intro _
    | dsimp only
    | with_reducible apply ok_ite
    | split

theorem State.settlePoint_ok {s0 : State} {E W : Nat} {s n} (hE : sub 3760739842 E = true) (hW : sub 628281784591804168099310749896062143721509035324650565626691309896685256569890343995045992819403466244446786811051635609337402467822370068599936565320618521133648937135391023397464917513405032380151890048 W = true) (h : Ok E W s0 s) :
    Ok E W s0 (State.settlePoint s n) := by
  unfold State.settlePoint
  repeat' first
    | exact sub_trans rfl hE | exact sub_trans rfl hW | exact sub_bit hW rfl | with_reducible first | assumption | apply State.point_ok
    | intro _
    | dsimp only
    | with_reducible apply ok_ite
    | split

theorem State.lateOffs_ok {s0 : State} {E W : Nat} {s n new} (hE : sub 1024 E = true) (hW : sub 0 W = true) (h : Ok E W s0 s) :
    Ok E W s0 (State.lateOffs s n new) := by
  unfold State.lateOffs
  repeat' first
    | exact sub_trans rfl hE | exact sub_trans rfl hW | exact sub_bit hW rfl | with_reducible first | assumption | apply State.setPwm_ok
    | intro _
    | dsimp only
    | with_reducible apply ok_ite
    | split

theorem State.moveMask_ok {s0 : State} {E W : Nat} {s n down} (hE : sub 1026 E = true) (hW : sub 3885337784451458141838923813647037813284813678104279042503624819477808570410416996352 W = true) (h : Ok E W s0 s) :
    Ok E W s0 (State.moveMask s n down) := by
  unfold State.moveMask
  repeat' first
    | exact sub_trans rfl hE | exact sub_trans rfl hW | exact sub_bit hW rfl | with_reducible first | assumption | apply State.p_ok | apply State.reallow_ok | apply State.lateOffs_ok | apply ws_f_AX_PWM_STATUS_MASK_IDX
    | intro _
    | dsimp only
    | with_reducible apply ok_ite
    | split

theorem State.commEvent_ok {s0 : State} {E W : Nat} {s n src down} (hE : sub 3760739842 E = true) (hW : sub 628281784591804168099310749896062143721509035324650565626691309896685256569890343995045992819403466244446786811051635609398110870704424102066169749908853486966224150855770383436584055317745791292814655616 W = true) (h : Ok E W s0 s) :
    Ok E W s0 (State.commEvent s n src down) := by
  unfold State.commEvent
  repeat' first
    | exact sub_trans rfl hE | exact sub_trans rfl hW | exact sub_bit hW rfl | with_reducible first | assumption | apply State.settlePoint_ok | apply State.on_ok | apply State.moveMask_ok | apply ws_f_AX_PWM_STATUS_COMM_IGNORED
    | intro _
    | dsimp only
    | with_reducible apply ok_ite
    | split

theorem wrPwmEvtCfg_ok {s0 : State} {E W : Nat} {n v s} (hE : sub 1026 E = true) (hW : sub 30354201441027016733116592294117482916287606860189680019559568902170379525050859520 W = true) (h : Ok E W s0 s) :
    Ok E W s0 (wrPwmEvtCfg n v s) := by
  unfold wrPwmEvtCfg
  repeat' first
    | exact sub_trans rfl hE | exact sub_trans rfl hW | exact sub_bit hW rfl | with_reducible first | assumption | apply State.on_ok | apply State.wr_ok | apply State.setPwm_ok | apply ws_f_AX_PWM_STATUS_CFG_REFUSED | apply ws_r_AX_PWM_EVT_CFG | apply wrF_of_wr
    | intro _
    | dsimp only
    | with_reducible apply ok_ite
    | split

theorem execPwmEvtCfgWrite_ok {s0 : State} {E W : Nat} {rq n v s} (hE : sub 1538 E = true) (hW : sub 77467496342607257689677575160090356229921527986317732401652897288513546143421523445749550278423694512006935654818039988224 W = true) (h : Ok E W s0 s) :
    OkOut E W s0 (execPwmEvtCfgWrite rq n v s) := by
  unfold execPwmEvtCfgWrite
  repeat' first
    | exact sub_trans rfl hE | exact sub_trans rfl hW | exact sub_bit hW rfl | with_reducible first | assumption | apply okOut_next | apply okOut_fault | apply State.write_ok | apply wrPwmEvtCfg_ok
    | intro _
    | dsimp only
    | with_reducible apply ok_ite
    | split

theorem State.noteHold_ok {s0 : State} {E W : Nat} {s n} (hE : sub 1024 E = true) (hW : sub 0 W = true) (h : Ok E W s0 s) :
    Ok E W s0 (State.noteHold s n) := by
  unfold State.noteHold
  repeat' first
    | exact sub_trans rfl hE | exact sub_trans rfl hW | exact sub_bit hW rfl | with_reducible first | assumption | apply State.when_ok | apply State.setPwm_ok
    | intro _
    | dsimp only
    | with_reducible apply ok_ite
    | split

theorem execCommutate_ok {s0 : State} {E W : Nat} {n s} (hE : sub 3760740098 E = true) (hW : sub 628281784591804168099310749896062143721509035324650565626691309896685256569890343995045992819403466244446786811051635609398110870704424102066169749908853486966224150855770383436584055317745791292814655616 W = true) (h : Ok E W s0 s) :
    OkOut E W s0 (execCommutate n s) := by
  unfold execCommutate
  repeat' first
    | exact sub_trans rfl hE | exact sub_trans rfl hW | exact sub_bit hW rfl | with_reducible first | assumption | apply okOut_next | apply okOut_fault | apply State.act_ok | apply State.commEvent_ok
    | intro _
    | dsimp only
    | with_reducible apply ok_ite
    | split

theorem State.askChop_ok {s0 : State} {E W : Nat} {s g v} (hE : sub 2050 E = true) (hW : sub 693167423530203714894603546035770925859109268843954143792619895153655326951406405759993601526034894524347802740350892957243539456 W = true) (h : Ok E W s0 s) :
    Ok E W s0 (State.askChop s g v) := by
  unfold State.askChop
  repeat' first
    | exact sub_trans rfl hE | exact sub_trans rfl hW | exact sub_bit hW rfl | with_reducible first | assumption | apply State.setBch_ok | apply State.setChop_ok
    | intro _
    | dsimp only
    | with_reducible apply ok_ite
    | split

theorem State.chopCompare_ok {s0 : State} {E W : Nat} {s g u} (hE : sub 2050 E = true) (hW : sub 693167423530203714894603546035770925859109268843954143792619895153655326951406405759993601526034894524347802740350892957243539456 W = true) (h : Ok E W s0 s) :
    Ok E W s0 (State.chopCompare s g u) := by
  unfold State.chopCompare
  repeat' first
    | exact sub_trans rfl hE | exact sub_trans rfl hW | exact sub_bit hW rfl | with_reducible first | assumption | apply State.setChop_ok | apply State.askChop_ok
    | intro _
    | dsimp only
    | with_reducible apply ok_ite
    | split

theorem wrPwmCfg_ok {s0 : State} {E W : Nat} {n v s} (hE : sub 20482 E = true) (hW : sub 627057063764139831937690274766273951183206682428800223918318282083089759678909676615301067595345345662662140895493223288075711162032683036781322542420051257444120090210032344507140893346802347980210831360 W = true) (h : Ok E W s0 s) :
    Ok E W s0 (wrPwmCfg n v s) := by
  unfold wrPwmCfg
  repeat' first
    | exact sub_trans rfl hE | exact sub_trans rfl hW | exact sub_bit hW rfl | with_reducible first | assumption | apply State.on_ok | apply State.p_ok | apply State.refreshAxis_ok | apply State.when_ok | apply State.each_ok | apply ws_f_AX_PWM_CFG_ADAPT_EN | apply ws_f_AX_PWM_CFG_CNT_MODE | apply ws_f_AX_PWM_CFG_DL_GROUP | apply ws_f_AX_PWM_CFG_LOAD | apply ws_f_AX_PWM_STATUS_CFG_REFUSED | apply ws_w_dtField | apply wrF_of_wr
    | intro _
    | dsimp only
    | with_reducible apply ok_ite
    | split

theorem execBchDutyLimit_ok {s0 : State} {E W : Nat} {g s} (hE : sub 2562 E = true) (hW : sub 1213042991177856501065556205562599120253441220476919751637084816518896822164961210079988802670561065417608654795614062675176194048 W = true) (h : Ok E W s0 s) :
    OkOut E W s0 (execBchDutyLimit g s) := by
  unfold execBchDutyLimit
  repeat' first
    | exact sub_trans rfl hE | exact sub_trans rfl hW | exact sub_bit hW rfl | with_reducible first | assumption | apply okOut_next | apply okOut_fault | apply State.setChop_ok | apply State.on_ok | apply State.raiseSt_ok | apply ws_f_GLB_BCH_STATUS_LIMIT | apply ws_f_GLB_BCH_STATUS_LIMIT_SEEN
    | intro _
    | dsimp only
    | with_reducible apply ok_ite
    | split

theorem execPwmCompareCrossing_ok {s0 : State} {E W : Nat} {n value up s} (hE : sub 2147485184 E = true) (hW : sub 0 W = true) (h : Ok E W s0 s) :
    OkOut E W s0 (execPwmCompareCrossing n value up s) := by
  unfold execPwmCompareCrossing
  repeat' first
    | exact sub_trans rfl hE | exact sub_trans rfl hW | exact sub_bit hW rfl | with_reducible first | assumption | apply okOut_next | apply okOut_fault | apply State.setPwm_ok | apply State.each_ok | apply State.when_ok | apply State.occur_ok
    | intro _
    | dsimp only
    | with_reducible apply ok_ite
    | split

theorem State.refRun_ok {s0 : State} {E W : Nat} {s e} (hE : sub 2 E = true) (hW : sub 2244866514940266882360859903052210718191512386011136 W = true) (h : Ok E W s0 s) :
    Ok E W s0 (State.refRun s e) := by
  unfold State.refRun
  repeat' first
    | exact sub_trans rfl hE | exact sub_trans rfl hW | exact sub_bit hW rfl | with_reducible first | assumption | apply State.p_ok | apply State.off_ok | apply ws_f_AE_STATUS_REF_USED | apply ws_f_AE_STATUS_RUNNING
    | intro _
    | dsimp only
    | with_reducible apply ok_ite
    | split

theorem State.refPair_ok {s0 : State} {E W : Nat} {s e} (hE : sub 2097154 E = true) (hW : sub 2244866514940266882360859903052210718191512386011136 W = true) (h : Ok E W s0 s) :
    Ok E W s0 (State.refPair s e) := by
  unfold State.refPair
  repeat' first
    | exact sub_trans rfl hE | exact sub_trans rfl hW | exact sub_bit hW rfl | with_reducible first | assumption | apply State.refRun_ok | apply State.setAe_ok
    | intro _
    | dsimp only
    | with_reducible apply ok_ite
    | split

theorem State.startUnit_ok {s0 : State} {E W : Nat} {s n hard z period} (hE : sub 3760739842 E = true) (hW : sub 628281784591804168099310749896062143721509035324650565626691309896685256569890343995045992819403466244446786811051635671499012743865571960931078009636460906120437197857640824241261547572062537067802919040 W = true) (h : Ok E W s0 s) :
    Ok E W s0 (State.startUnit s n hard z period) := by
  unfold State.startUnit
  repeat' first
    | exact sub_trans rfl hE | exact sub_trans rfl hW | exact sub_bit hW rfl | with_reducible first | assumption | apply State.off_ok | apply State.p_ok | apply State.setPwm_ok | apply State.each_ok | apply State.loadPeriod_ok | apply State.noteUpdate_ok | apply State.when_ok | apply State.loadShadows_ok | apply State.refPair_ok | apply State.occur_ok | apply State.checkDuty_ok | apply State.refreshAxis_ok | apply State.hallFlag_ok | apply ws_f_AX_PWM_STATUS_ALIGN_SLEW | apply ws_f_AX_PWM_STATUS_DT_FALLBACK | apply ws_f_AX_PWM_STATUS_STATE | apply ws_w_dtField | apply wrF_of_wr
    | intro _
    | dsimp only
    | with_reducible apply ok_ite
    | split

theorem State.actPeriod_ok {s0 : State} {E W : Nat} {s n hx} (hE : sub 3760739842 E = true) (hW : sub 628281784591804168099310749896062143721509035324650565626691309896685256569890343995045992819403466244446786811051635687042261019261468716832593051242994501941959885703518849256983298539682467425491615872 W = true) (h : Ok E W s0 s) :
    Ok E W s0 (State.actPeriod s n hx) := by
  unfold State.actPeriod
  repeat' first
    | exact sub_trans rfl hE | exact sub_trans rfl hW | exact sub_bit hW rfl | with_reducible first | assumption | apply State.startUnit_ok | apply State.pi_ok | apply State.setPwm_ok | apply State.pb_ok | apply State.on_ok | apply ws_f_AX_PWM_PHASE_PHI | apply ws_f_AX_PWM_STATUS_ALIGN_SLEW | apply ws_f_AX_PWM_STATUS_PERIOD_IGNORED
    | intro _
    | dsimp only
    | with_reducible apply ok_ite
    | split

theorem execPwmPeriod_ok {s0 : State} {E W : Nat} {n s} (hE : sub 3760740098 E = true) (hW : sub 628281784591804168099310749896062143721509035324650565626691309896685256569890343995045992819403466244446786811051635687042261019261468716832593051242994501941959885703518849256983298539682467425491615872 W = true) (h : Ok E W s0 s) :
    OkOut E W s0 (execPwmPeriod n s) := by
  unfold execPwmPeriod
  repeat' first
    | exact sub_trans rfl hE | exact sub_trans rfl hW | exact sub_bit hW rfl | with_reducible first | assumption | apply okOut_next | apply okOut_fault | apply State.act_ok | apply State.actPeriod_ok
    | intro _
    | dsimp only
    | with_reducible apply ok_ite
    | split

theorem execBchWindowStart_ok {s0 : State} {E W : Nat} {g s} (hE : sub 2050 E = true) (hW : sub 1559626702942958358512857978580484583182995854898896823533394764095724485640664412959985603433578512679782556165789509153797963776 W = true) (h : Ok E W s0 s) :
    OkOut E W s0 (execBchWindowStart g s) := by
  unfold execBchWindowStart
  repeat' first
    | exact sub_trans rfl hE | exact sub_trans rfl hW | exact sub_bit hW rfl | with_reducible first | assumption | apply okOut_next | apply okOut_fault | apply State.p_ok | apply State.off_ok | apply State.setBch_ok | apply ws_f_GLB_BCH_STATUS_LIMIT | apply ws_f_GLB_BCH_STATUS_ON_TIME
    | intro _
    | dsimp only
    | with_reducible apply ok_ite
    | split

theorem wrPwmDtCfg_ok {s0 : State} {E W : Nat} {n v s} (hE : sub 2 E = true) (hW : sub 30532058090095534409287197327090827542750229556636103925924175751206534023458324480 W = true) (h : Ok E W s0 s) :
    Ok E W s0 (wrPwmDtCfg n v s) := by
  unfold wrPwmDtCfg
  repeat' first
    | exact sub_trans rfl hE | exact sub_trans rfl hW | exact sub_bit hW rfl | with_reducible first | assumption | apply State.on_ok | apply State.p_ok | apply ws_f_AX_PWM_DT_CFG_DT_MAX | apply ws_f_AX_PWM_DT_CFG_DT_MIN | apply ws_f_AX_PWM_STATUS_CFG_REFUSED
    | intro _
    | dsimp only
    | with_reducible apply ok_ite
    | split

theorem execPwmDtCfgWrite_ok {s0 : State} {E W : Nat} {rq n v s} (hE : sub 514 E = true) (hW : sub 77467496342607257689677575160090356229921705842966800919329067893546519488047986068445996702330059118855971809316447453184 W = true) (h : Ok E W s0 s) :
    OkOut E W s0 (execPwmDtCfgWrite rq n v s) := by
  unfold execPwmDtCfgWrite
  repeat' first
    | exact sub_trans rfl hE | exact sub_trans rfl hW | exact sub_bit hW rfl | with_reducible first | assumption | apply okOut_next | apply okOut_fault | apply State.write_ok | apply wrPwmDtCfg_ok
    | intro _
    | dsimp only
    | with_reducible apply ok_ite
    | split

theorem wrPwmMaskCfg_ok {s0 : State} {E W : Nat} {n v s} (hE : sub 1026 E = true) (hW : sub 4887026432005349694031771359352914749522304704490538483149090593249431092606791581696 W = true) (h : Ok E W s0 s) :
    Ok E W s0 (wrPwmMaskCfg n v s) := by
  unfold wrPwmMaskCfg
  repeat' first
    | exact sub_trans rfl hE | exact sub_trans rfl hW | exact sub_bit hW rfl | with_reducible first | assumption | apply State.on_ok | apply State.wr_ok | apply State.hallFlag_ok | apply State.when_ok | apply State.p_ok | apply State.reallow_ok | apply State.lateOffs_ok | apply ws_f_AX_PWM_STATUS_CFG_REFUSED | apply ws_f_AX_PWM_STATUS_MASK_IDX | apply ws_r_AX_PWM_MASK_CFG | apply wrF_of_wr
    | intro _
    | dsimp only
    | with_reducible apply ok_ite
    | split

theorem execPwmMaskCfgWrite_ok {s0 : State} {E W : Nat} {rq n v s} (hE : sub 1538 E = true) (hW : sub 77467496342607257689677575160090356234778200216882055078951552055572343410027540543379899081553225536354196367899780710400 W = true) (h : Ok E W s0 s) :
    OkOut E W s0 (execPwmMaskCfgWrite rq n v s) := by
  unfold execPwmMaskCfgWrite
  repeat' first
    | exact sub_trans rfl hE | exact sub_trans rfl hW | exact sub_bit hW rfl | with_reducible first | assumption | apply okOut_next | apply okOut_fault | apply State.write_ok | apply wrPwmMaskCfg_ok
    | intro _
    | dsimp only
    | with_reducible apply ok_ite
    | split

theorem execOutEn_ok {s0 : State} {E W : Nat} {rq n s} (hE : sub 153090 E = true) (hW : sub 8365423386864081804361914035960289519717653711902289986763019193547512793742300663933906938283851973718709558102598452932036461299216039677959600936096985939275118123398149922772484096 W = true) (h : Ok E W s0 s) :
    OkOut E W s0 (execOutEn rq n s) := by
  unfold execOutEn
  repeat' first
    | exact sub_trans rfl hE | exact sub_trans rfl hW | exact sub_bit hW rfl | with_reducible first | assumption | apply okOut_next | apply okOut_fault | apply State.write_ok | apply State.pwmCtlBits_ok
    | intro _
    | dsimp only
    | with_reducible apply ok_ite
    | split

theorem execDeadTimeFallback_ok {s0 : State} {E W : Nat} {n d s} (hE : sub 514 E = true) (hW : sub 627057063764139831929324851379409869378845668175598843037877190478889006888518431438644711527536922839520331484815861906294578342241173613817934705597945443449134572501350965918270824260892077345009041408 W = true) (h : Ok E W s0 s) :
    OkOut E W s0 (execDeadTimeFallback n d s) := by
  unfold execDeadTimeFallback
  repeat' first
    | exact sub_trans rfl hE | exact sub_trans rfl hW | exact sub_bit hW rfl | with_reducible first | assumption | apply okOut_next | apply okOut_fault | apply State.p_ok | apply State.raiseSt_ok | apply ws_f_AX_PWM_STATUS_DT_FALLBACK | apply ws_w_dtField | apply wrF_of_wr
    | intro _
    | dsimp only
    | with_reducible apply ok_ite
    | split

theorem wrPwmMask_ok {s0 : State} {E W : Nat} {n i v s} (hE : sub 1026 E = true) (hW : sub 474284397516047136454946754595585670566993857190463750305618264096412179005177856 W = true) (h : Ok E W s0 s) :
    Ok E W s0 (wrPwmMask n i v s) := by
  unfold wrPwmMask
  repeat' first
    | exact sub_trans rfl hE | exact sub_trans rfl hW | exact sub_bit hW rfl | with_reducible first | assumption | apply State.p_ok | apply State.reallow_ok | apply State.lateOffs_ok | apply ws_f_AX_PWM_MASK_MASK
    | intro _
    | dsimp only
    | with_reducible apply ok_ite
    | split

theorem execPwmFaultClr_ok {s0 : State} {E W : Nat} {rq n s} (hE : sub 153090 E = true) (hW : sub 8365423386864081804361914035960289519717653711902289986763019193547512793742300663933906938283851973718709558102598452932036461299216039677959600936096985939275118123398149922772484096 W = true) (h : Ok E W s0 s) :
    OkOut E W s0 (execPwmFaultClr rq n s) := by
  unfold execPwmFaultClr
  repeat' first
    | exact sub_trans rfl hE | exact sub_trans rfl hW | exact sub_bit hW rfl | with_reducible first | assumption | apply okOut_next | apply okOut_fault | apply State.write_ok | apply State.pwmCtlBits_ok
    | intro _
    | dsimp only
    | with_reducible apply ok_ite
    | split

theorem execPwmUpdatePoint_ok {s0 : State} {E W : Nat} {n zero s} (hE : sub 3760739842 E = true) (hW : sub 628281784591804168099310749896062143721509035324650565626691309896685256569890343995045992819403466244446786811051635609337402467822370068599936565320618521133648937135391023397464917513405032380151890048 W = true) (h : Ok E W s0 s) :
    OkOut E W s0 (execPwmUpdatePoint n zero s) := by
  unfold execPwmUpdatePoint
  repeat' first
    | exact sub_trans rfl hE | exact sub_trans rfl hW | exact sub_bit hW rfl | with_reducible first | assumption | apply okOut_next | apply okOut_fault | apply State.point_ok
    | intro _
    | dsimp only
    | with_reducible apply ok_ite
    | split

theorem execAxisOff_ok {s0 : State} {E W : Nat} {n s} (hE : sub 20738 E = true) (hW : sub 8365423386864081804361014253201380880441091604200752790391245176656356067808422823141809410677361383814857368814965305110474106268876648111783981142310001465518818076285219421626040320 W = true) (h : Ok E W s0 s) :
    OkOut E W s0 (execAxisOff n s) := by
  unfold execAxisOff
  repeat' first
    | exact sub_trans rfl hE | exact sub_trans rfl hW | exact sub_bit hW rfl | with_reducible first | assumption | apply okOut_next | apply okOut_fault | apply State.act_ok | apply State.refreshAxis_ok | apply State.off_ok | apply State.on_ok | apply ws_f_AX_PWM_CTL_OUT_EN | apply ws_f_AX_PWM_STATUS_LAUNCH_OFF
    | intro _
    | dsimp only
    | with_reducible apply ok_ite
    | split

theorem State.disableUnit_ok {s0 : State} {E W : Nat} {s n} (hE : sub 2118658 E = true) (hW : sub 8365423386864081804361014253201380880441091604200752790391245176656356067808422823141809410677361444052777539226791200216858622488064296377157344734630962137484881929497948463938142208 W = true) (h : Ok E W s0 s) :
    Ok E W s0 (State.disableUnit s n) := by
  unfold State.disableUnit
  repeat' first
    | exact sub_trans rfl hE | exact sub_trans rfl hW | exact sub_bit hW rfl | with_reducible first | assumption | apply State.setPwm_ok | apply State.refreshAxis_ok | apply State.refPair_ok | apply State.off_ok | apply State.p_ok | apply ws_f_AX_PWM_CTL_ARM | apply ws_f_AX_PWM_STATUS_ALIGN_SLEW | apply ws_f_AX_PWM_STATUS_STATE
    | intro _
    | dsimp only
    | with_reducible apply ok_ite
    | split

theorem State.takeAsk_ok {s0 : State} {E W : Nat} {s n} (hE : sub 3760739842 E = true) (hW : sub 628281784591804168099310749896062143721509035324650565626691309896685256569890343995045992819403466244446786811051635671529374356000310165900701710473618945062827413996849105256919641759609422964431257728 W = true) (h : Ok E W s0 s) :
    Ok E W s0 (State.takeAsk s n) := by
  unfold State.takeAsk
  repeat' first
    | exact sub_trans rfl hE | exact sub_trans rfl hW | exact sub_bit hW rfl | with_reducible first | assumption | apply State.startUnit_ok | apply State.askPwm_ok | apply State.disableUnit_ok | apply State.on_ok | apply State.when_ok | apply State.armUnit_ok | apply ws_f_AX_PWM_CTL_ARM | apply ws_f_AX_PWM_STATUS_CFG_REFUSED
    | intro _
    | dsimp only
    | with_reducible apply ok_ite
    | split

theorem State.pwmDue_ok {s0 : State} {E W : Nat} {s} (hE : sub 3760739842 E = true) (hW : sub 628281784591804168099310749896062143721509035324650565626691309896685256569890343995045992819403466244446786811051635671529374356000310165900701710473618945062827413996849105256919641759609422964431257728 W = true) (h : Ok E W s0 s) :
    Ok E W s0 (State.pwmDue s) := by
  unfold State.pwmDue
  repeat' first
    | exact sub_trans rfl hE | exact sub_trans rfl hW | exact sub_bit hW rfl | with_reducible first | assumption | apply State.each_ok | apply State.takeAsk_ok
    | intro _
    | dsimp only
    | with_reducible apply ok_ite
    | split

theorem execPwmDeadTimeEnd_ok {s0 : State} {E W : Nat} {n w pos up s} (hE : sub 1024 E = true) (hW : sub 0 W = true) (h : Ok E W s0 s) :
    OkOut E W s0 (execPwmDeadTimeEnd n w pos up s) := by
  unfold execPwmDeadTimeEnd
  repeat' first
    | exact sub_trans rfl hE | exact sub_trans rfl hW | exact sub_bit hW rfl | with_reducible first | assumption | apply okOut_next | apply okOut_fault | apply State.setPwm_ok
    | intro _
    | dsimp only
    | with_reducible apply ok_ite
    | split

theorem execBchMinTimeEnd_ok {s0 : State} {E W : Nat} {g s} (hE : sub 2050 E = true) (hW : sub 693167423530203714894603546035770925859109268843954143792619895153655326951406405759993601526034894524347802740350892957243539456 W = true) (h : Ok E W s0 s) :
    OkOut E W s0 (execBchMinTimeEnd g s) := by
  unfold execBchMinTimeEnd
  repeat' first
    | exact sub_trans rfl hE | exact sub_trans rfl hW | exact sub_bit hW rfl | with_reducible first | assumption | apply okOut_next | apply okOut_fault | apply State.setBch_ok | apply State.setChop_ok
    | intro _
    | dsimp only
    | with_reducible apply ok_ite
    | split

theorem execPwmArm_ok {s0 : State} {E W : Nat} {rq n s} (hE : sub 153090 E = true) (hW : sub 8365423386864081804361914035960289519717653711902289986763019193547512793742300663933906938283851973718709558102598452932036461299216039677959600936096985939275118123398149922772484096 W = true) (h : Ok E W s0 s) :
    OkOut E W s0 (execPwmArm rq n s) := by
  unfold execPwmArm
  repeat' first
    | exact sub_trans rfl hE | exact sub_trans rfl hW | exact sub_bit hW rfl | with_reducible first | assumption | apply okOut_next | apply okOut_fault | apply State.write_ok | apply State.pwmCtlBits_ok
    | intro _
    | dsimp only
    | with_reducible apply ok_ite
    | split

theorem execSwitchingNodeTransition_ok {s0 : State} {E W : Nat} {n x rise delay s} (hE : sub 1026 E = true) (hW : sub 2508228255056559327717299405517639477515382672702395372151508761915556027554073725754578846110147691358081325939263447624692646145908262187541873345685902047135936580242368983360130194608842238078734041088 W = true) (h : Ok E W s0 s) :
    OkOut E W s0 (execSwitchingNodeTransition n x rise delay s) := by
  unfold execSwitchingNodeTransition
  repeat' first
    | exact sub_trans rfl hE | exact sub_trans rfl hW | exact sub_bit hW rfl | with_reducible first | assumption | apply okOut_next | apply okOut_fault | apply State.p_ok | apply State.setPwm_ok | apply ws_w_measField | apply wrF_of_wr
    | intro _
    | dsimp only
    | with_reducible apply ok_ite
    | split

theorem wrPwmAlign_ok {s0 : State} {E W : Nat} {n v s} (hE : sub 1026 E = true) (hW : sub 4294967296 W = true) (h : Ok E W s0 s) :
    Ok E W s0 (wrPwmAlign n v s) := by
  unfold wrPwmAlign
  repeat' first
    | exact sub_trans rfl hE | exact sub_trans rfl hW | exact sub_bit hW rfl | with_reducible first | assumption | apply State.wr_ok | apply State.setPwm_ok | apply ws_r_AX_PWM_ALIGN | apply wrF_of_wr
    | intro _
    | dsimp only
    | with_reducible apply ok_ite
    | split

theorem execAlignEvent_ok {s0 : State} {E W : Nat} {n s} (hE : sub 3760739842 E = true) (hW : sub 628281784591804168099310749896062143721509035324650565626691309896685256569890343995045992819403466244446786811051635609405699421064680856249448897982382857695296052570817803441473947543288386156897501312 W = true) (h : Ok E W s0 s) :
    OkOut E W s0 (execAlignEvent n s) := by
  unfold execAlignEvent
  repeat' first
    | exact sub_trans rfl hE | exact sub_trans rfl hW | exact sub_bit hW rfl | with_reducible first | assumption | apply okOut_next | apply okOut_fault | apply State.commEvent_ok | apply State.setPwm_ok | apply State.when_ok | apply State.on_ok | apply ws_f_AX_PWM_STATUS_ALIGN_DONE
    | intro _
    | dsimp only
    | with_reducible apply ok_ite
    | split

theorem State.pwmHall_ok {s0 : State} {E W : Nat} {s n hall} (hE : sub 1026 E = true) (hW : sub 971334446112864535459730953411759453321203419526069760625906204869452142602604249088 W = true) (h : Ok E W s0 s) :
    Ok E W s0 (State.pwmHall s n hall) := by
  unfold State.pwmHall
  repeat' first
    | exact sub_trans rfl hE | exact sub_trans rfl hW | exact sub_bit hW rfl | with_reducible first | assumption | apply State.reallow_ok | apply State.hallFlag_ok | apply State.setPwm_ok
    | intro _
    | dsimp only
    | with_reducible apply ok_ite
    | split

theorem execPwmAlignWrite_ok {s0 : State} {E W : Nat} {rq n v s} (hE : sub 1538 E = true) (hW : sub 77467496342607257689677575160090356229891173784876705384919780696219428660505235838889360598404134943104765275297284096000 W = true) (h : Ok E W s0 s) :
    OkOut E W s0 (execPwmAlignWrite rq n v s) := by
  unfold execPwmAlignWrite
  repeat' first
    | exact sub_trans rfl hE | exact sub_trans rfl hW | exact sub_bit hW rfl | with_reducible first | assumption | apply okOut_next | apply okOut_fault | apply State.write_ok | apply wrPwmAlign_ok
    | intro _
    | dsimp only
    | with_reducible apply ok_ite
    | split

theorem execPwmStart_ok {s0 : State} {E W : Nat} {rq n s} (hE : sub 153090 E = true) (hW : sub 8365423386864081804361914035960289519717653711902289986763019193547512793742300663933906938283851973718709558102598452932036461299216039677959600936096985939275118123398149922772484096 W = true) (h : Ok E W s0 s) :
    OkOut E W s0 (execPwmStart rq n s) := by
  unfold execPwmStart
  repeat' first
    | exact sub_trans rfl hE | exact sub_trans rfl hW | exact sub_bit hW rfl | with_reducible first | assumption | apply okOut_next | apply okOut_fault | apply State.write_ok | apply State.pwmCtlBits_ok
    | intro _
    | dsimp only
    | with_reducible apply ok_ite
    | split

theorem execPwmMaskWrite_ok {s0 : State} {E W : Nat} {rq n i v s} (hE : sub 1538 E = true) (hW : sub 77467496342607257689677575160090356229891648069274221432056235642974024246175802832746551062154440561368861687471994306560 W = true) (h : Ok E W s0 s) :
    OkOut E W s0 (execPwmMaskWrite rq n i v s) := by
  unfold execPwmMaskWrite
  repeat' first
    | exact sub_trans rfl hE | exact sub_trans rfl hW | exact sub_bit hW rfl | with_reducible first | assumption | apply okOut_next | apply okOut_fault | apply State.write_ok | apply wrPwmMask_ok
    | intro _
    | dsimp only
    | with_reducible apply ok_ite
    | split

theorem execPwmCfgWrite_ok {s0 : State} {E W : Nat} {rq n v s} (hE : sub 20994 E = true) (hW : sub 627057063764139831937690274766273951183206682428800223918318282083089759678909676692768563937952603352339716055583579517966884946909388421701103238639479917949355929099392942911275836451567623273199960064 W = true) (h : Ok E W s0 s) :
    OkOut E W s0 (execPwmCfgWrite rq n v s) := by
  unfold execPwmCfgWrite
  repeat' first
    | exact sub_trans rfl hE | exact sub_trans rfl hW | exact sub_bit hW rfl | with_reducible first | assumption | apply okOut_next | apply okOut_fault | apply State.write_ok | apply wrPwmCfg_ok
    | intro _
    | dsimp only
    | with_reducible apply ok_ite
    | split

end Sys2Proof.Machine
end

