-- ==== Sys2Proof/Laws/KeepSensing.lean ====
section
/-! SUPPORT. What the definitions of Machine/Sensing.lean keep: the queue, and the canonical forms of the register window and of
the memories; one lemma for each. -/

namespace Sys2Proof.Machine

theorem State.checkDlAxis_ok {s0 : State} {E W : Nat} {s g n} (hE : sub 1613255170 E = true) (hW : sub 1224720827664336169985898516652274342663367149051722588814119417796249681371912556401281291866543404926455326235773667084478243504566757313758713303749690905098509526266834236781194834700675619213017216 W = true) (h : Ok E W s0 s) :
    Ok E W s0 (State.checkDlAxis s g n) := by
  unfold State.checkDlAxis
  repeat' first
    | exact sub_trans rfl hE | exact sub_trans rfl hW | exact sub_bit hW rfl | with_reducible first | assumption | apply State.tripGroup_ok
    | intro _
    | dsimp only
    | with_reducible apply ok_ite
    | split

theorem State.checkDl_ok {s0 : State} {E W : Nat} {s g axes} (hE : sub 1613255170 E = true) (hW : sub 1224720827664336169985898516652274342663367149051722588814119417796249681393574038386600157956999765740073167668870831735851810498086129037310442270981141085098309573955424690667063670336641024126877824 W = true) (h : Ok E W s0 s) :
    Ok E W s0 (State.checkDl s g axes) := by
  unfold State.checkDl
  repeat' first
    | exact sub_trans rfl hE | exact sub_trans rfl hW | exact sub_bit hW rfl | with_reducible first | assumption | apply State.pb_ok | apply State.each_ok | apply State.checkDlAxis_ok | apply ws_f_FXG_DL_STATUS_CHECKED
    | intro _
    | dsimp only
    | with_reducible apply ok_ite
    | split

theorem execDclinkFreeResult_ok {s0 : State} {E W : Nat} {g raw s} (hE : sub 1613257218 E = true) (hW : sub 1224720827664336169985898516652274342663367149051722588814119417796256957615341798905633138791335224854717593605060216025246335616164300404380909118485304097933128457620427677324166804931944019388268672 W = true) (h : Ok E W s0 s) :
    OkOut E W s0 (execDclinkFreeResult g raw s) := by
  unfold execDclinkFreeResult
  repeat' first
    | exact sub_trans rfl hE | exact sub_trans rfl hW | exact sub_bit hW rfl | with_reducible first | assumption | apply okOut_next | apply okOut_fault | apply State.pi_ok | apply State.when_ok | apply State.on_ok | apply State.chopCompare_ok | apply State.checkDl_ok | apply ws_f_FXG_DL_STATUS_V | apply ws_f_GLB_DL_FREE_Q | apply ws_f_GLB_DL_STATUS_SAT | apply ws_f_GLB_DL_STATUS_VALID
    | intro _
    | dsimp only
    | with_reducible apply ok_ite
    | split

theorem State.setTlm_ok {s0 : State} {E W : Nat} {s n x} (hE : sub 32768 E = true) (hW : sub 0 W = true) (h : Ok E W s0 s) :
    Ok E W s0 (State.setTlm s n x) := by
  unfold State.setTlm
  repeat' first
    | exact sub_trans rfl hE | exact sub_trans rfl hW | exact sub_bit hW rfl | with_reducible first | assumption
    | intro _
    | dsimp only
    | with_reducible apply ok_ite
    | ((with_reducible apply ok_mk) <;> first | exact Or.inr (sub_bit hE rfl) | exact Or.inr (Or.inr (sub_bit hE rfl)) | with_reducible first | exact Or.inl rfl | exact rfl | exact Or.inr (Or.inl rfl) | assumption | apply ok_ite)
    | split

theorem State.tlmSearch_ok {s0 : State} {E W : Nat} {s n} (hE : sub 32770 E = true) (hW : sub 6111107929003458258805337065228134483154405180997808751908421348063143899290010118550192128 W = true) (h : Ok E W s0 s) :
    Ok E W s0 (State.tlmSearch s n) := by
  unfold State.tlmSearch
  repeat' first
    | exact sub_trans rfl hE | exact sub_trans rfl hW | exact sub_bit hW rfl | with_reducible first | assumption | apply State.on_ok | apply State.p_ok | apply State.setTlm_ok | apply ws_f_AX_TLM_STATUS_STALE | apply ws_f_AX_TLM_STATUS_STATE
    | intro _
    | dsimp only
    | with_reducible apply ok_ite
    | split

theorem State.failFrame_ok {s0 : State} {E W : Nat} {s n} (hE : sub 33282 E = true) (hW : sub 6276219243491507424000923971612879002067756623062528194098655388391672852298171199227166720 W = true) (h : Ok E W s0 s) :
    Ok E W s0 (State.failFrame s n) := by
  unfold State.failFrame
  repeat' first
    | exact sub_trans rfl hE | exact sub_trans rfl hW | exact sub_bit hW rfl | with_reducible first | assumption | apply State.count_ok | apply State.on_ok | apply State.setTlm_ok | apply State.tlmSearch_ok | apply State.raiseSt_ok | apply ws_f_AX_TLM_COUNT_CRC_FAIL | apply ws_f_AX_TLM_COUNT_LOSS | apply ws_f_AX_TLM_STATUS_CRC_ERR | apply ws_f_AX_TLM_STATUS_LOST
    | intro _
    | dsimp only
    | with_reducible apply ok_ite
    | split

theorem execDclinkSample_ok {s0 : State} {E W : Nat} {g s} (hE : sub 33026 E = true) (hW : sub 709803441694928604052074031140629428079727891296209043243642772637343054798240159498233447962659731992932150006119314388217384402944 W = true) (h : Ok E W s0 s) :
    OkOut E W s0 (execDclinkSample g s) := by
  unfold execDclinkSample
  repeat' first
    | exact sub_trans rfl hE | exact sub_trans rfl hW | exact sub_bit hW rfl | with_reducible first | assumption | apply okOut_next | apply okOut_fault | apply State.act_ok | apply State.on_ok | apply State.setDl_ok | apply ws_f_GLB_DL_STATUS_OVERLAP
    | intro _
    | dsimp only
    | with_reducible apply ok_ite
    | split

theorem State.acceptFrame_ok {s0 : State} {E W : Nat} {s n f} (hE : sub 1613255170 E = true) (hW : sub 1224720827664336169985898516652274342663367149051722588814119417796249681393574038386600157956999765740073167727523393606694612820644367545877978279488587913609708651872704501527168689755283742559043712 W = true) (h : Ok E W s0 s) :
    Ok E W s0 (State.acceptFrame s n f) := by
  unfold State.acceptFrame
  repeat' first
    | exact sub_trans rfl hE | exact sub_trans rfl hW | exact sub_bit hW rfl | with_reducible first | assumption | apply State.p_ok | apply State.when_ok | apply State.on_ok | apply State.wr_ok | apply State.checkDl_ok | apply State.tripGroup_ok | apply State.axisFault_ok | apply ws_f_AX_TLM_AUX_AUX | apply ws_f_AX_TLM_GD_VDC_GD | apply ws_f_AX_TLM_GD_VDC_VDC | apply ws_f_AX_TLM_STATUS_GD_FAULT | apply ws_f_AX_TLM_STATUS_SEQ | apply ws_f_AX_TLM_STATUS_SEQ_GAP | apply ws_f_AX_TLM_TEMP_UV_TEMP_U | apply ws_f_AX_TLM_TEMP_UV_TEMP_V | apply ws_f_AX_TLM_TEMP_W_TEMP_W | apply ws_r_AX_TLM_STAMP | apply wrF_of_wr
    | intro _
    | dsimp only
    | with_reducible apply ok_ite
    | ((with_reducible apply ok_mk) <;> first | exact Or.inr (sub_bit hE rfl) | exact Or.inr (Or.inr (sub_bit hE rfl)) | with_reducible first | exact Or.inl rfl | exact rfl | exact Or.inr (Or.inl rfl) | assumption | apply ok_ite | apply State.p_ok | apply State.when_ok | apply State.on_ok | apply State.wr_ok | apply State.checkDl_ok | apply State.tripGroup_ok | apply State.axisFault_ok | apply ws_f_AX_TLM_AUX_AUX | apply ws_f_AX_TLM_GD_VDC_GD | apply ws_f_AX_TLM_GD_VDC_VDC | apply ws_f_AX_TLM_STATUS_GD_FAULT | apply ws_f_AX_TLM_STATUS_SEQ | apply ws_f_AX_TLM_STATUS_SEQ_GAP | apply ws_f_AX_TLM_TEMP_UV_TEMP_U | apply ws_f_AX_TLM_TEMP_UV_TEMP_V | apply ws_f_AX_TLM_TEMP_W_TEMP_W | apply ws_r_AX_TLM_STAMP | apply wrF_of_wr)
    | split

theorem State.setCs_ok {s0 : State} {E W : Nat} {s n x} (hE : sub 32768 E = true) (hW : sub 0 W = true) (h : Ok E W s0 s) :
    Ok E W s0 (State.setCs s n x) := by
  unfold State.setCs
  repeat' first
    | exact sub_trans rfl hE | exact sub_trans rfl hW | exact sub_bit hW rfl | with_reducible first | assumption
    | intro _
    | dsimp only
    | with_reducible apply ok_ite
    | ((with_reducible apply ok_mk) <;> first | exact Or.inr (sub_bit hE rfl) | exact Or.inr (Or.inr (sub_bit hE rfl)) | with_reducible first | exact Or.inl rfl | exact rfl | exact Or.inr (Or.inl rfl) | assumption | apply ok_ite)
    | split

theorem wrCsScale_ok {s0 : State} {E W : Nat} {n a v s} (hE : sub 32770 E = true) (hW : sub allSlots W = true) (h : Ok E W s0 s) :
    Ok E W s0 (wrCsScale n a v s) := by
  unfold wrCsScale
  repeat' first
    | exact sub_trans rfl hE | exact sub_trans rfl hW | exact sub_bit hW rfl | with_reducible first | assumption | apply State.merge_ok | apply State.setCs_ok | apply wrF_of_wr | exact wr_any (any_bit hW) _ | exact wrF_any (any_bit hW) _
    | intro _
    | dsimp only
    | with_reducible apply ok_ite
    | split

theorem State.csValid_ok {s0 : State} {E W : Nat} {s n} (hE : sub 2 E = true) (hW : sub 53919893334301279589334030174039261347274288845081144962207220498432 W = true) (h : Ok E W s0 s) :
    Ok E W s0 (State.csValid s n) := by
  unfold State.csValid
  repeat' first
    | exact sub_trans rfl hE | exact sub_trans rfl hW | exact sub_bit hW rfl | with_reducible first | assumption | apply State.pb_ok | apply ws_f_AX_CS_STATUS_VALID
    | intro _
    | dsimp only
    | with_reducible apply ok_ite
    | split

theorem wrCsCfg_ok {s0 : State} {E W : Nat} {n v s} (hE : sub 32770 E = true) (hW : sub 54142859201818303008046028498275782340699449554874495033690957021184 W = true) (h : Ok E W s0 s) :
    Ok E W s0 (wrCsCfg n v s) := by
  unfold wrCsCfg
  repeat' first
    | exact sub_trans rfl hE | exact sub_trans rfl hW | exact sub_bit hW rfl | with_reducible first | assumption | apply State.on_ok | apply State.p_ok | apply State.pb_ok | apply State.csValid_ok | apply State.setCs_ok | apply ws_f_AX_CS_CFG_EN | apply ws_f_AX_CS_CFG_MEAS_PAIR | apply ws_f_AX_CS_CFG_OSR | apply ws_f_AX_CS_CFG_STUCK_LIM | apply ws_f_AX_CS_STATUS_CFG_REFUSED
    | intro _
    | dsimp only
    | with_reducible apply ok_ite
    | split

theorem State.searchFrame_ok {s0 : State} {E W : Nat} {s n offset f} (hE : sub 32770 E = true) (hW : sub 6874996420128890541156004198381651293548705828622534845896974016571036886701261383368966144 W = true) (h : Ok E W s0 s) :
    Ok E W s0 (State.searchFrame s n offset f) := by
  unfold State.searchFrame
  repeat' first
    | exact sub_trans rfl hE | exact sub_trans rfl hW | exact sub_bit hW rfl | with_reducible first | assumption | apply State.setTlm_ok | apply State.p_ok | apply State.off_ok | apply ws_f_AX_TLM_STATUS_OFFSET | apply ws_f_AX_TLM_STATUS_SEQ | apply ws_f_AX_TLM_STATUS_STALE | apply ws_f_AX_TLM_STATUS_STATE
    | intro _
    | dsimp only
    | with_reducible apply ok_ite
    | split

theorem execTlmFrame_ok {s0 : State} {E W : Nat} {n offset f s} (hE : sub 1613287938 E = true) (hW : sub 1224720827664336169985898516652274342663367149051722588814119417796249681393574038386600157956999765740073167734054242347227931005428847228542029551687778085880478877300877446088139204523872030059135104 W = true) (h : Ok E W s0 s) :
    OkOut E W s0 (execTlmFrame n offset f s) := by
  unfold execTlmFrame
  repeat' first
    | exact sub_trans rfl hE | exact sub_trans rfl hW | exact sub_bit hW rfl | with_reducible first | assumption | apply okOut_next | apply okOut_fault | apply State.searchFrame_ok | apply State.acceptFrame_ok | apply State.setTlm_ok | apply State.failFrame_ok
    | intro _
    | dsimp only
    | with_reducible apply ok_ite
    | split

theorem State.csUnstick_ok {s0 : State} {E W : Nat} {s n a b} (hE : sub 32770 E = true) (hW : sub 53919893334301279589334030174039261347274288845081144962207220498432 W = true) (h : Ok E W s0 s) :
    Ok E W s0 (State.csUnstick s n a b) := by
  unfold State.csUnstick
  repeat' first
    | exact sub_trans rfl hE | exact sub_trans rfl hW | exact sub_bit hW rfl | with_reducible first | assumption | apply State.csValid_ok | apply State.setCs_ok
    | intro _
    | dsimp only
    | with_reducible apply ok_ite
    | split

theorem execFastResult_ok {s0 : State} {E W : Nat} {n rawA rawB s} (hE : sub 1613287938 E = true) (hW : sub 1224720827664336169985898516652274342663367149051722588814119417796249681371912556401281291866543404926455326235773667084478243504566811273144156980738225250847943946904593630655700691051554546800132224 W = true) (h : Ok E W s0 s) :
    OkOut E W s0 (execFastResult n rawA rawB s) := by
  unfold execFastResult
  repeat' first
    | exact sub_trans rfl hE | exact sub_trans rfl hW | exact sub_bit hW rfl | with_reducible first | assumption | apply okOut_next | apply okOut_fault | apply State.pi_ok | apply State.csUnstick_ok | apply State.checkFastPair_ok | apply State.checkFast_ok | apply ws_f_AX_CS_FAST_A_Q2 | apply ws_f_AX_CS_FAST_B_Q2
    | intro _
    | dsimp only
    | with_reducible apply ok_ite
    | split

theorem execCsStampRead_ok {s0 : State} {E W : Nat} {rq n s} (hE : sub 8454176 E = true) (hW : sub 0 W = true) (h : Ok E W s0 s) :
    OkOut E W s0 (execCsStampRead rq n s) := by
  unfold execCsStampRead
  repeat' first
    | exact sub_trans rfl hE | exact sub_trans rfl hW | exact sub_bit hW rfl | with_reducible first | assumption | apply okOut_next | apply okOut_fault | apply State.stampRead_ok
    | intro _
    | dsimp only
    | with_reducible apply ok_ite
    | split

theorem State.csSat_ok {s0 : State} {E W : Nat} {s n a b} (hE : sub 33282 E = true) (hW : sub 10109980000181489923000130657632361502613929158452714680413853843456 W = true) (h : Ok E W s0 s) :
    Ok E W s0 (State.csSat s n a b) := by
  unfold State.csSat
  repeat' first
    | exact sub_trans rfl hE | exact sub_trans rfl hW | exact sub_bit hW rfl | with_reducible first | assumption | apply State.when_ok | apply State.on_ok | apply State.raiseSt_ok | apply State.setCs_ok | apply ws_f_AX_CS_STATUS_SAT_A | apply ws_f_AX_CS_STATUS_SAT_B
    | intro _
    | dsimp only
    | with_reducible apply ok_ite
    | split

theorem execSinc3Result_ok {s0 : State} {E W : Nat} {n rawA rawB s} (hE : sub 33282 E = true) (hW : sub 65451589272008291532756054205401173686193301791441272644554272542464 W = true) (h : Ok E W s0 s) :
    OkOut E W s0 (execSinc3Result n rawA rawB s) := by
  unfold execSinc3Result
  repeat' first
    | exact sub_trans rfl hE | exact sub_trans rfl hW | exact sub_bit hW rfl | with_reducible first | assumption | apply okOut_next | apply okOut_fault | apply State.setCs_ok | apply State.pi_ok | apply State.wr_ok | apply State.when_ok | apply State.on_ok | apply State.csValid_ok | apply State.csSat_ok | apply ws_f_AX_CS_RAW_A_Q | apply ws_f_AX_CS_RAW_B_Q | apply ws_f_AX_CS_STATUS_DELTA | apply ws_f_AX_CS_STATUS_ISAT | apply ws_r_AX_CS_IU | apply ws_r_AX_CS_IV | apply ws_r_AX_CS_IW | apply ws_r_AX_CS_STAMP | apply wrF_of_wr
    | intro _
    | dsimp only
    | with_reducible apply ok_ite
    | split

theorem wrDlCfg_ok {s0 : State} {E W : Nat} {g v s} (hE : sub 34818 E = true) (hW : sub 5834390203853724668267878046983083882956122715859562028302481657508316886949987717281866144044635707211435455665533466021118871601152 W = true) (h : Ok E W s0 s) :
    Ok E W s0 (wrDlCfg g v s) := by
  unfold wrDlCfg
  repeat' first
    | exact sub_trans rfl hE | exact sub_trans rfl hW | exact sub_bit hW rfl | with_reducible first | assumption | apply State.p_ok | apply State.pb_ok | apply State.off_ok | apply State.refreshChop_ok | apply State.setDl_ok | apply ws_f_GLB_DL_CFG_DLY | apply ws_f_GLB_DL_CFG_EN | apply ws_f_GLB_DL_CFG_STUCK_LIM | apply ws_f_GLB_DL_STATUS_VALID
    | intro _
    | dsimp only
    | with_reducible apply ok_ite
    | split

theorem execDlCfgWrite_ok {s0 : State} {E W : Nat} {rq g v s} (hE : sub 35330 E = true) (hW : sub 5834390203931192164610485304672761458116213072089453202087358362893236667646207145942371379883525067809839590608638231296411860729856 W = true) (h : Ok E W s0 s) :
    OkOut E W s0 (execDlCfgWrite rq g v s) := by
  unfold execDlCfgWrite
  repeat' first
    | exact sub_trans rfl hE | exact sub_trans rfl hW | exact sub_bit hW rfl | with_reducible first | assumption | apply okOut_next | apply okOut_fault | apply State.rwsWrite_ok | apply wrDlCfg_ok
    | intro _
    | dsimp only
    | with_reducible apply ok_ite
    | split

theorem execCsCfgWrite_ok {s0 : State} {E W : Nat} {rq n v s} (hE : sub 33282 E = true) (hW : sub 77467496342607257689677575160090356229891173784876705439062639898037731668551264337165142939103584497979260308983946149888 W = true) (h : Ok E W s0 s) :
    OkOut E W s0 (execCsCfgWrite rq n v s) := by
  unfold execCsCfgWrite
  repeat' first
    | exact sub_trans rfl hE | exact sub_trans rfl hW | exact sub_bit hW rfl | with_reducible first | assumption | apply okOut_next | apply okOut_fault | apply State.write_ok | apply wrCsCfg_ok
    | intro _
    | dsimp only
    | with_reducible apply ok_ite
    | split

theorem State.sdStep_ok {s0 : State} {E W : Nat} {s d} (hE : sub 32768 E = true) (hW : sub 0 W = true) (h : Ok E W s0 s) :
    Ok E W s0 (State.sdStep s d) := by
  unfold State.sdStep
  repeat' first
    | exact sub_trans rfl hE | exact sub_trans rfl hW | exact sub_bit hW rfl | with_reducible first | assumption | apply State.each_ok
    | intro _
    | dsimp only
    | with_reducible apply ok_ite
    | ((with_reducible apply ok_mk) <;> first | exact Or.inr (sub_bit hE rfl) | exact Or.inr (Or.inr (sub_bit hE rfl)) | with_reducible first | exact Or.inl rfl | exact rfl | exact Or.inr (Or.inl rfl) | assumption | apply ok_ite | apply State.each_ok)
    | split

theorem State.openCurrent_ok {s0 : State} {E W : Nat} {s n inst} (hE : sub 32770 E = true) (hW : sub 1684996666696914987166688442938726917102321526408785780068975640576 W = true) (h : Ok E W s0 s) :
    Ok E W s0 (State.openCurrent s n inst) := by
  unfold State.openCurrent
  repeat' first
    | exact sub_trans rfl hE | exact sub_trans rfl hW | exact sub_bit hW rfl | with_reducible first | assumption | apply State.on_ok | apply State.setCs_ok | apply ws_f_AX_CS_STATUS_OVERLAP
    | intro _
    | dsimp only
    | with_reducible apply ok_ite
    | split

theorem State.csStep_ok {s0 : State} {E W : Nat} {s d} (hE : sub 32768 E = true) (hW : sub 0 W = true) (h : Ok E W s0 s) :
    Ok E W s0 (State.csStep s d) := by
  unfold State.csStep
  repeat' first
    | exact sub_trans rfl hE | exact sub_trans rfl hW | exact sub_bit hW rfl | with_reducible first | assumption | apply State.each_ok | apply State.setCs_ok
    | intro _
    | dsimp only
    | with_reducible apply ok_ite
    | split

theorem execCurrentInputStuck_ok {s0 : State} {E W : Nat} {n b s} (hE : sub 1613287938 E = true) (hW : sub 1224720827664335617602385987214491705491632334484350166037276981683049553931055031244425028751061640485537359143356552369623706688876345455021774325845924346250711135995829298052016826713941959552008320 W = true) (h : Ok E W s0 s) :
    OkOut E W s0 (execCurrentInputStuck n b s) := by
  unfold execCurrentInputStuck
  repeat' first
    | exact sub_trans rfl hE | exact sub_trans rfl hW | exact sub_bit hW rfl | with_reducible first | assumption | apply okOut_next | apply okOut_fault | apply State.setCs_ok | apply State.on_ok | apply State.axisFault_ok | apply State.csValid_ok | apply ws_f_AX_CS_STATUS_STUCK_A | apply ws_f_AX_CS_STATUS_STUCK_B
    | intro _
    | dsimp only
    | with_reducible apply ok_ite
    | split

theorem State.setFreq_ok {s0 : State} {E W : Nat} {s k f} (hE : sub 32770 E = true) (hW : sub 1488565707357402911845015158554633286356257506687627387456491927921949262056238946972039271861787782268441644249633132407878864135402815488 W = true) (h : Ok E W s0 s) :
    Ok E W s0 (State.setFreq s k f) := by
  unfold State.setFreq
  repeat' first
    | exact sub_trans rfl hE | exact sub_trans rfl hW | exact sub_bit hW rfl | with_reducible first | assumption | apply State.p_ok | apply ws_f_GLB_SDCLK_CFG_FREQ
    | intro _
    | dsimp only
    | with_reducible apply ok_ite
    | ((with_reducible apply ok_mk) <;> first | exact Or.inr (sub_bit hE rfl) | exact Or.inr (Or.inr (sub_bit hE rfl)) | with_reducible first | exact Or.inl rfl | exact rfl | exact Or.inr (Or.inl rfl) | assumption | apply ok_ite | apply State.p_ok | apply ws_f_GLB_SDCLK_CFG_FREQ)
    | split

theorem State.askFreq_ok {s0 : State} {E W : Nat} {s k f} (hE : sub 32770 E = true) (hW : sub 1488565707357402911845015158554633286356257506687627387456491927921949262056238946972039271861787782268441644249633132407878864135402815488 W = true) (h : Ok E W s0 s) :
    Ok E W s0 (State.askFreq s k f) := by
  unfold State.askFreq
  repeat' first
    | exact sub_trans rfl hE | exact sub_trans rfl hW | exact sub_bit hW rfl | with_reducible first | assumption | apply State.setFreq_ok
    | intro _
    | dsimp only
    | with_reducible apply ok_ite
    | ((with_reducible apply ok_mk) <;> first | exact Or.inr (sub_bit hE rfl) | exact Or.inr (Or.inr (sub_bit hE rfl)) | with_reducible first | exact Or.inl rfl | exact rfl | exact Or.inr (Or.inl rfl) | assumption | apply ok_ite | apply State.setFreq_ok)
    | split

theorem wrTlmCfg_ok {s0 : State} {E W : Nat} {n v s} (hE : sub 32770 E = true) (hW : sub 6112599898712687618731803211972574945674706549450200795060742739993823377781047718676791296 W = true) (h : Ok E W s0 s) :
    Ok E W s0 (wrTlmCfg n v s) := by
  unfold wrTlmCfg
  repeat' first
    | exact sub_trans rfl hE | exact sub_trans rfl hW | exact sub_bit hW rfl | with_reducible first | assumption | apply State.p_ok | apply State.pb_ok | apply State.tlmSearch_ok | apply ws_f_AX_TLM_CFG_EN | apply ws_f_AX_TLM_CFG_GD_FAULT_MASK | apply ws_f_AX_TLM_STATUS_STATE
    | intro _
    | dsimp only
    | with_reducible apply ok_ite
    | split

theorem execDclinkStuck_ok {s0 : State} {E W : Nat} {g s} (hE : sub 1613289986 E = true) (hW : sub 1224720827664335617602385987214491705491632334484350166037276981683058072265522793917877368534038874074445241737161375479263162666551660500588914356972198190123633082271578297372251904887552749812580480 W = true) (h : Ok E W s0 s) :
    OkOut E W s0 (execDclinkStuck g s) := by
  unfold execDclinkStuck
  repeat' first
    | exact sub_trans rfl hE | exact sub_trans rfl hW | exact sub_bit hW rfl | with_reducible first | assumption | apply okOut_next | apply okOut_fault | apply State.setDl_ok | apply State.raiseSt_ok | apply State.off_ok | apply State.on_ok | apply State.refreshChop_ok | apply State.each_ok | apply State.offStop_ok | apply ws_f_GLB_DL_STATUS_STUCK | apply ws_f_GLB_DL_STATUS_VALID
    | intro _
    | dsimp only
    | with_reducible apply ok_ite
    | split

theorem execSdclkFreqApply_ok {s0 : State} {E W : Nat} {k s} (hE : sub 32770 E = true) (hW : sub 1488565707357402911845015158554633286356257506687627387456491927921949262056238946972039271861787782268441644249633132407878864135402815488 W = true) (h : Ok E W s0 s) :
    OkOut E W s0 (execSdclkFreqApply k s) := by
  unfold execSdclkFreqApply
  repeat' first
    | exact sub_trans rfl hE | exact sub_trans rfl hW | exact sub_bit hW rfl | with_reducible first | assumption | apply okOut_next | apply okOut_fault | apply State.setFreq_ok
    | intro _
    | dsimp only
    | with_reducible apply ok_ite
    | split

theorem execDclinkSampleResult_ok {s0 : State} {E W : Nat} {g raw s} (hE : sub 32770 E = true) (hW : sub 7452936137796750342546777326976608994837142858610194954058249112692102075381521674731451203607927185925787575139810664802196859650048 W = true) (h : Ok E W s0 s) :
    OkOut E W s0 (execDclinkSampleResult g raw s) := by
  unfold execDclinkSampleResult
  repeat' first
    | exact sub_trans rfl hE | exact sub_trans rfl hW | exact sub_bit hW rfl | with_reducible first | assumption | apply okOut_next | apply okOut_fault | apply State.pi_ok | apply State.setDl_ok | apply State.when_ok | apply State.on_ok | apply State.wr_ok | apply ws_f_GLB_DL_SAMPLE_Q | apply ws_f_GLB_DL_STATUS_SAT | apply ws_f_GLB_DL_STATUS_VALID | apply ws_r_GLB_DL_STAMP | apply wrF_of_wr
    | intro _
    | dsimp only
    | with_reducible apply ok_ite
    | split

theorem execTlmStampRead_ok {s0 : State} {E W : Nat} {rq n s} (hE : sub 8454176 E = true) (hW : sub 0 W = true) (h : Ok E W s0 s) :
    OkOut E W s0 (execTlmStampRead rq n s) := by
  unfold execTlmStampRead
  repeat' first
    | exact sub_trans rfl hE | exact sub_trans rfl hW | exact sub_bit hW rfl | with_reducible first | assumption | apply okOut_next | apply okOut_fault | apply State.stampRead_ok
    | intro _
    | dsimp only
    | with_reducible apply ok_ite
    | split

theorem execTlmCfgWrite_ok {s0 : State} {E W : Nat} {rq n v s} (hE : sub 33282 E = true) (hW : sub 77467496342607257689677575160096468829789886472495437188131753271165103367054686039684421341144128766482546323011665920000 W = true) (h : Ok E W s0 s) :
    OkOut E W s0 (execTlmCfgWrite rq n v s) := by
  unfold execTlmCfgWrite
  repeat' first
    | exact sub_trans rfl hE | exact sub_trans rfl hW | exact sub_bit hW rfl | with_reducible first | assumption | apply okOut_next | apply okOut_fault | apply State.write_ok | apply wrTlmCfg_ok
    | intro _
    | dsimp only
    | with_reducible apply ok_ite
    | split

end Sys2Proof.Machine
end

