-- ==== Sys2Proof/Laws/KeepFeedback.lean ====
section
/-! SUPPORT. What the definitions of Machine/Feedback.lean keep: the queue, and the canonical forms of the register window and of
the memories; one lemma for each. -/

namespace Sys2Proof.Machine

theorem State.secondLost_ok {s0 : State} {E W : Nat} {s m} (hE : sub 514 E = true) (hW : sub 113078212145816597093331040047546785012958969400039613319782796882727665664 W = true) (h : Ok E W s0 s) :
    Ok E W s0 (State.secondLost s m) := by
  unfold State.secondLost
  repeat' first
    | exact sub_trans rfl hE | exact sub_trans rfl hW | exact sub_bit hW rfl | with_reducible first | assumption | apply State.raiseSt_ok | apply State.off_ok | apply ws_f_AX_FB_STATUS_POS2_VALID
    | intro _
    | dsimp only
    | with_reducible apply ok_ite
    | split

theorem State.fbLost_ok {s0 : State} {E W : Nat} {s n} (hE : sub 1613386242 E = true) (hW : sub 1224720827664336169985898516652274342663367149051722588814119417796249681371912556401281291866543404926455326235773667084478243619411816524353694726664028453388213055053287533696427112605078703233302656 W = true) (h : Ok E W s0 s) :
    Ok E W s0 (State.fbLost s n) := by
  unfold State.fbLost
  repeat' first
    | exact sub_trans rfl hE | exact sub_trans rfl hW | exact sub_bit hW rfl | with_reducible first | assumption | apply State.on_ok | apply State.setFb_ok | apply State.secondLost_ok | apply State.addLife_ok | apply State.raiseSt_ok | apply State.axisFault_ok | apply State.trip_ok | apply ws_f_AX_FB_STATUS_FAULT
    | intro _
    | dsimp only
    | with_reducible apply ok_ite
    | split

theorem State.incFault_ok {s0 : State} {E W : Nat} {s n} (hE : sub 1613386242 E = true) (hW : sub 1224720827664336169985898516652274342663367149051722588814119417796249681371912556401281291866543404926455326235773667084478243619411816524353694726664028453388213055053287533696427112605078703233302656 W = true) (h : Ok E W s0 s) :
    Ok E W s0 (State.incFault s n) := by
  unfold State.incFault
  repeat' first
    | exact sub_trans rfl hE | exact sub_trans rfl hW | exact sub_bit hW rfl | with_reducible first | assumption | apply State.fbLost_ok
    | intro _
    | dsimp only
    | with_reducible apply ok_ite
    | split

theorem wrPrbCfg_ok {s0 : State} {E W : Nat} {k v s} (hE : sub 2 E = true) (hW : sub 181709681073901722637330951972001133588410340171829515070372549795159822028349480831547762678440891390190630401717660210835479053991936 W = true) (h : Ok E W s0 s) :
    Ok E W s0 (wrPrbCfg k v s) := by
  unfold wrPrbCfg
  repeat' first
    | exact sub_trans rfl hE | exact sub_trans rfl hW | exact sub_bit hW rfl | with_reducible first | assumption | apply State.on_ok | apply State.wr_ok | apply ws_f_GLB_PRB_STATUS_CFG_REFUSED | apply ws_r_GLB_PRB_CFG | apply wrF_of_wr
    | intro _
    | dsimp only
    | with_reducible apply ok_ite
    | split

theorem wrFbCmd_ok {s0 : State} {E W : Nat} {n v s} (hE : sub 131074 E = true) (hW : sub 1766847064778384329583297500742918515827483896875618958121606201292619776 W = true) (h : Ok E W s0 s) :
    Ok E W s0 (wrFbCmd n v s) := by
  unfold wrFbCmd
  repeat' first
    | exact sub_trans rfl hE | exact sub_trans rfl hW | exact sub_bit hW rfl | with_reducible first | assumption | apply State.when_ok | apply State.setFb_ok | apply State.off_ok | apply State.fbResume_ok | apply ws_f_AX_FB_STATUS_FAULT
    | intro _
    | dsimp only
    | with_reducible apply ok_ite
    | split

theorem execZArm_ok {s0 : State} {E W : Nat} {rq n s} (hE : sub 131586 E = true) (hW : sub 77467496342607257689677575160090356229891173784878472231984559080549011958005978757405188082301010562062886881494281748480 W = true) (h : Ok E W s0 s) :
    OkOut E W s0 (execZArm rq n s) := by
  unfold execZArm
  repeat' first
    | exact sub_trans rfl hE | exact sub_trans rfl hW | exact sub_bit hW rfl | with_reducible first | assumption | apply okOut_next | apply okOut_fault | apply State.write_ok | apply wrFbCmd_ok
    | intro _
    | dsimp only
    | with_reducible apply ok_ite
    | split

theorem wrFbFrozen_ok {s0 : State} {E W : Nat} {n a v ok s} (hE : sub 2 E = true) (hW : sub allSlots W = true) (h : Ok E W s0 s) :
    Ok E W s0 (wrFbFrozen n a v ok s) := by
  unfold wrFbFrozen
  repeat' first
    | exact sub_trans rfl hE | exact sub_trans rfl hW | exact sub_bit hW rfl | with_reducible first | assumption | apply State.on_ok | apply State.wr_ok | apply ws_f_AX_FB_STATUS_CFG_REFUSED | apply wrF_of_wr | exact wr_any (any_bit hW) _ | exact wrF_any (any_bit hW) _
    | intro _
    | dsimp only
    | with_reducible apply ok_ite
    | split

theorem wrFbSsiCfg_ok {s0 : State} {E W : Nat} {n v s} (hE : sub 2 E = true) (hW : sub allSlots W = true) (h : Ok E W s0 s) :
    Ok E W s0 (wrFbSsiCfg n v s) := by
  unfold wrFbSsiCfg
  repeat' first
    | exact sub_trans rfl hE | exact sub_trans rfl hW | exact sub_bit hW rfl | with_reducible first | assumption | apply wrFbFrozen_ok | apply ws_r_AX_FB_SSI_CFG | apply wrF_of_wr
    | intro _
    | dsimp only
    | with_reducible apply ok_ite
    | split

theorem execIndexEdge_ok {s0 : State} {E W : Nat} {n s} (hE : sub 688130 E = true) (hW : sub 231584178474632390847141970017375815706539969331281128078915168015830017376256 W = true) (h : Ok E W s0 s) :
    OkOut E W s0 (execIndexEdge n s) := by
  unfold execIndexEdge
  repeat' first
    | exact sub_trans rfl hE | exact sub_trans rfl hW | exact sub_bit hW rfl | with_reducible first | assumption | apply okOut_next | apply okOut_fault | apply State.wr_ok | apply State.wr64_ok | apply State.on_ok | apply State.setFb_ok | apply State.notePos_ok | apply State.when_ok | apply State.setChan_ok | apply ws_f_AX_FB_STATUS_Z_SEEN | apply ws_r_AX_FB_ZLAT_HI | apply ws_r_AX_FB_ZLAT_LO | apply ws_r_AX_FB_ZLAT_STAMP | apply wrF_of_wr
    | intro _
    | dsimp only
    | with_reducible apply ok_ite
    | split

theorem execProbeCfgWrite_ok {s0 : State} {E W : Nat} {rq k v s} (hE : sub 514 E = true) (hW : sub 181709681073979190133673559229690811163570430528059406244157426500544741809045700260208267914279780750789034536660764976110772043120640 W = true) (h : Ok E W s0 s) :
    OkOut E W s0 (execProbeCfgWrite rq k v s) := by
  unfold execProbeCfgWrite
  repeat' first
    | exact sub_trans rfl hE | exact sub_trans rfl hW | exact sub_bit hW rfl | with_reducible first | assumption | apply okOut_next | apply okOut_fault | apply State.write_ok | apply wrPrbCfg_ok
    | intro _
    | dsimp only
    | with_reducible apply ok_ite
    | split

theorem State.scAdapt_ok {s0 : State} {E W : Nat} {s n d} (hE : sub 2 E = true) (hW : sub 25881548800464614202880334483538845446691658645638949581859465839247360 W = true) (h : Ok E W s0 s) :
    Ok E W s0 (State.scAdapt s n d) := by
  unfold State.scAdapt
  repeat' first
    | exact sub_trans rfl hE | exact sub_trans rfl hW | exact sub_bit hW rfl | with_reducible first | assumption | apply State.pi_ok | apply State.when_ok | apply ws_f_AX_FB_SC_GP_GAIN_B | apply ws_f_AX_FB_SC_GP_PHASE | apply ws_f_AX_FB_SC_OFS_OFS_A | apply ws_f_AX_FB_SC_OFS_OFS_B
    | intro _
    | dsimp only
    | with_reducible apply ok_ite
    | split

theorem State.scPeriod_ok {s0 : State} {E W : Nat} {s n en cross a b a1 b1 bad} (hE : sub 131074 E = true) (hW : sub 25881548800464614202880334483538845446691658645638949581859465839247360 W = true) (h : Ok E W s0 s) :
    Ok E W s0 (State.scPeriod s n en cross a b a1 b1 bad) := by
  unfold State.scPeriod
  repeat' first
    | exact sub_trans rfl hE | exact sub_trans rfl hW | exact sub_bit hW rfl | with_reducible first | assumption | apply State.when_ok | apply State.scAdapt_ok | apply State.setFb_ok
    | intro _
    | dsimp only
    | with_reducible apply ok_ite
    | split

theorem State.fbFail_ok {s0 : State} {E W : Nat} {s n fail} (hE : sub 1613386242 E = true) (hW : sub 1224720827664336169985898516652274342663367149051722588814119417796249681371912556401281291866543404926455326235773667084478243620322847042130049146605416227208780414776833918022918137886531900774809728 W = true) (h : Ok E W s0 s) :
    Ok E W s0 (State.fbFail s n fail) := by
  unfold State.fbFail
  repeat' first
    | exact sub_trans rfl hE | exact sub_trans rfl hW | exact sub_bit hW rfl | with_reducible first | assumption | apply State.on_ok | apply State.setFb_ok | apply State.raiseSt_ok | apply State.fbLost_ok | apply ws_f_AX_FB_STATUS_AMP_FAULT | apply ws_f_AX_FB_STATUS_EXTRAP
    | intro _
    | dsimp only
    | with_reducible apply ok_ite
    | split

theorem State.setPrb_ok {s0 : State} {E W : Nat} {s k x} (hE : sub 262146 E = true) (hW : sub 885834695235270897856988390863505526243500408337668885968066180251404132388203719053795343057399345527179323209752524540820896790609920 W = true) (h : Ok E W s0 s) :
    Ok E W s0 (State.setPrb s k x) := by
  unfold State.setPrb
  repeat' first
    | exact sub_trans rfl hE | exact sub_trans rfl hW | exact sub_bit hW rfl | with_reducible first | assumption | apply State.p_ok | apply State.wr64_ok | apply State.wr_ok | apply State.pb_ok | apply ws_f_GLB_PRB_FLAGS_EDGE | apply ws_f_GLB_PRB_FLAGS_EXTRAP | apply ws_f_GLB_PRB_FLAGS_POS_VALID | apply ws_f_GLB_PRB_STATUS_LEVEL | apply ws_r_GLB_PRB_POS_HI | apply ws_r_GLB_PRB_POS_LO | apply ws_r_GLB_PRB_STAMP | apply wrF_of_wr
    | intro _
    | dsimp only
    | with_reducible apply ok_ite
    | ((with_reducible apply ok_mk) <;> first | exact Or.inr (sub_bit hE rfl) | exact Or.inr (Or.inr (sub_bit hE rfl)) | with_reducible first | exact Or.inl rfl | exact rfl | exact Or.inr (Or.inl rfl) | assumption | apply ok_ite | apply State.p_ok | apply State.wr64_ok | apply State.wr_ok | apply State.pb_ok | apply ws_f_GLB_PRB_FLAGS_EDGE | apply ws_f_GLB_PRB_FLAGS_EXTRAP | apply ws_f_GLB_PRB_FLAGS_POS_VALID | apply ws_f_GLB_PRB_STATUS_LEVEL | apply ws_r_GLB_PRB_POS_HI | apply ws_r_GLB_PRB_POS_LO | apply ws_r_GLB_PRB_STAMP | apply wrF_of_wr)
    | split

theorem State.prbPush_ok {s0 : State} {E W : Nat} {s k l} (hE : sub 262658 E = true) (hW : sub 2339512143826484678955636006639514594950783129712305006531046578612682708614999565706177444484926476648704366422284880407890100047839232 W = true) (h : Ok E W s0 s) :
    Ok E W s0 (State.prbPush s k l) := by
  unfold State.prbPush
  repeat' first
    | exact sub_trans rfl hE | exact sub_trans rfl hW | exact sub_bit hW rfl | with_reducible first | assumption | apply State.raiseSt_ok | apply State.on_ok | apply State.setPrb_ok | apply ws_f_GLB_PRB_STATUS_OVERFLOW
    | intro _
    | dsimp only
    | with_reducible apply ok_ite
    | split

theorem State.bracket_ok {s0 : State} {E W : Nat} {s n t p ext} (hE : sub 918018 E = true) (hW : sub 2339512143826484678955636006639514594950783129712305006531046578612682708614999565706177444484926476648704366422284880407890100047839232 W = true) (h : Ok E W s0 s) :
    Ok E W s0 (State.bracket s n t p ext) := by
  unfold State.bracket
  repeat' first
    | exact sub_trans rfl hE | exact sub_trans rfl hW | exact sub_bit hW rfl | with_reducible first | assumption | apply State.setFb_ok | apply State.each_ok | apply State.setPrb_ok | apply State.setChan_ok | apply State.prbPush_ok
    | intro _
    | dsimp only
    | with_reducible apply ok_ite
    | split

theorem State.report_ok {s0 : State} {E W : Nat} {s n x raw v} (hE : sub 1613419010 E = true) (hW : sub 1224720827664336169985898516652274342663367149051722588814119417796249681371912556401281291866543404926455326235773667084478423638158705599597882980096486647127035169905088499885213248696109804789039232 W = true) (h : Ok E W s0 s) :
    Ok E W s0 (State.report s n x raw v) := by
  unfold State.report
  repeat' first
    | exact sub_trans rfl hE | exact sub_trans rfl hW | exact sub_bit hW rfl | with_reducible first | assumption | apply State.setFb_ok | apply State.notePos_ok | apply State.pb_ok | apply State.when_ok | apply State.on_ok | apply State.wr64_ok | apply State.wr_ok | apply State.homeDone_ok | apply State.raiseSt_ok | apply State.checkSat_ok | apply State.checkVel_ok | apply State.checkPos_ok | apply ws_f_AX_FB_STATUS_POS2_VALID | apply ws_f_AX_FB_STATUS_SAT_MAX | apply ws_f_AX_FB_STATUS_SAT_MIN | apply ws_f_AX_FB_STATUS_SAT_SEEN | apply ws_f_AX_FB_STATUS_VALID | apply ws_f_AX_FB_STATUS_WRAPPED | apply ws_r_AX_FB_POS2_HI | apply ws_r_AX_FB_POS2_LO | apply ws_r_AX_FB_POS_HI | apply ws_r_AX_FB_POS_LO | apply ws_r_AX_FB_STAMP | apply ws_r_AX_FB_VEL | apply wrF_of_wr
    | intro _
    | dsimp only
    | with_reducible apply ok_ite
    | ((with_reducible apply ok_mk) <;> first | exact Or.inr (sub_bit hE rfl) | exact Or.inr (Or.inr (sub_bit hE rfl)) | with_reducible first | exact Or.inl rfl | exact rfl | exact Or.inr (Or.inl rfl) | assumption | apply ok_ite | apply State.setFb_ok | apply State.notePos_ok | apply State.pb_ok | apply State.when_ok | apply State.on_ok | apply State.wr64_ok | apply State.wr_ok | apply State.homeDone_ok | apply State.raiseSt_ok | apply State.checkSat_ok | apply State.checkVel_ok | apply State.checkPos_ok | apply ws_f_AX_FB_STATUS_POS2_VALID | apply ws_f_AX_FB_STATUS_SAT_MAX | apply ws_f_AX_FB_STATUS_SAT_MIN | apply ws_f_AX_FB_STATUS_SAT_SEEN | apply ws_f_AX_FB_STATUS_VALID | apply ws_f_AX_FB_STATUS_WRAPPED | apply ws_r_AX_FB_POS2_HI | apply ws_r_AX_FB_POS2_LO | apply ws_r_AX_FB_POS_HI | apply ws_r_AX_FB_POS_LO | apply ws_r_AX_FB_STAMP | apply ws_r_AX_FB_VEL | apply wrF_of_wr)
    | split

theorem execFbSampleReady_ok {s0 : State} {E W : Nat} {n s} (hE : sub 1613681154 E = true) (hW : sub 1224720827664336169985898516652274342663367149051722588814119417798589193515739041080236927873182919521406109365485972091009470219449265890767621295327349366175447522104823147509608112507059303671005312 W = true) (h : Ok E W s0 s) :
    OkOut E W s0 (execFbSampleReady n s) := by
  unfold execFbSampleReady
  repeat' first
    | exact sub_trans rfl hE | exact sub_trans rfl hW | exact sub_bit hW rfl | with_reducible first | assumption | apply okOut_next | apply okOut_fault | apply State.setFb_ok | apply State.when_ok | apply State.fbFail_ok | apply State.bracket_ok | apply State.report_ok
    | intro _
    | dsimp only
    | with_reducible apply ok_ite
    | split

theorem State.showHold_ok {s0 : State} {E W : Nat} {s n} (hE : sub 2 E = true) (hW : sub 452312848583266388373324160190187140051835877600158453279131187530910662656 W = true) (h : Ok E W s0 s) :
    Ok E W s0 (State.showHold s n) := by
  unfold State.showHold
  repeat' first
    | exact sub_trans rfl hE | exact sub_trans rfl hW | exact sub_bit hW rfl | with_reducible first | assumption | apply State.pb_ok | apply ws_f_AX_FB_STATUS_REV_HOLD
    | intro _
    | dsimp only
    | with_reducible apply ok_ite
    | split

theorem execEncoderEdge_ok {s0 : State} {E W : Nat} {n up both s} (hE : sub 1613419010 E = true) (hW : sub 1224720827664336169985898516652274342663367149051722588814119417796249681371912556401281291866543404926455326235773667084478244297881089399253277286650268738668923132807103933934107031301859999599296640 W = true) (h : Ok E W s0 s) :
    OkOut E W s0 (execEncoderEdge n up both s) := by
  unfold execEncoderEdge
  repeat' first
    | exact sub_trans rfl hE | exact sub_trans rfl hW | exact sub_bit hW rfl | with_reducible first | assumption | apply okOut_next | apply okOut_fault | apply State.incFault_ok | apply State.on_ok | apply State.when_ok | apply State.notePos_ok | apply State.showHold_ok | apply State.setFb_ok | apply ws_f_AX_FB_STATUS_QUAD_ERR
    | intro _
    | dsimp only
    | with_reducible apply ok_ite
    | split

theorem wrPrbPop_ok {s0 : State} {E W : Nat} {k v s} (hE : sub 262146 E = true) (hW : sub 885834695235270897856988390863505526243500408337668885968066180251404132388203719053795343057399345527179323209752524540820896790609920 W = true) (h : Ok E W s0 s) :
    Ok E W s0 (wrPrbPop k v s) := by
  unfold wrPrbPop
  repeat' first
    | exact sub_trans rfl hE | exact sub_trans rfl hW | exact sub_bit hW rfl | with_reducible first | assumption | apply State.setPrb_ok
    | intro _
    | dsimp only
    | with_reducible apply ok_ite
    | split

theorem State.issueComm_ok {s0 : State} {E W : Nat} {s n down k} (hE : sub 3760870914 E = true) (hW : sub 628281784591804168099310749896062143721509035324650565626691309896685256569890343995045992819403466244446786811051635609398110870704424102066169749908853486966224150855770383436584055317745791292814655616 W = true) (h : Ok E W s0 s) :
    Ok E W s0 (State.issueComm s n down k) := by
  unfold State.issueComm
  repeat' first
    | exact sub_trans rfl hE | exact sub_trans rfl hW | exact sub_bit hW rfl | with_reducible first | assumption | apply State.commEvent_ok | apply State.setFb_ok
    | intro _
    | dsimp only
    | with_reducible apply ok_ite
    | split

theorem State.hallMove_ok {s0 : State} {E W : Nat} {s n down k} (hE : sub 3760903682 E = true) (hW : sub 628281784591804168099310749896062143721509035324650565626691309896685256569890343995045992819403466244446786811051635609398110871156736950649436138282177647156411290907606261036742508596876978823725318272 W = true) (h : Ok E W s0 s) :
    Ok E W s0 (State.hallMove s n down k) := by
  unfold State.hallMove
  repeat' first
    | exact sub_trans rfl hE | exact sub_trans rfl hW | exact sub_bit hW rfl | with_reducible first | assumption | apply State.when_ok | apply State.notePos_ok | apply State.showHold_ok | apply State.setFb_ok | apply State.issueComm_ok
    | intro _
    | dsimp only
    | with_reducible apply ok_ite
    | split

theorem State.startSsi_ok {s0 : State} {E W : Nat} {s n t} (hE : sub 131586 E = true) (hW : sub 7350084005157652148271635960426661721999378400099730246110461646206180261888 W = true) (h : Ok E W s0 s) :
    Ok E W s0 (State.startSsi s n t) := by
  unfold State.startSsi
  repeat' first
    | exact sub_trans rfl hE | exact sub_trans rfl hW | exact sub_bit hW rfl | with_reducible first | assumption | apply State.count_ok | apply State.on_ok | apply State.setFb_ok | apply State.when_ok | apply State.secondLost_ok | apply ws_f_AX_FB_COUNT_SSI_FAIL | apply ws_f_AX_FB_STATUS_SSI_BUSY
    | intro _
    | dsimp only
    | with_reducible apply ok_ite
    | split

theorem State.takeSample_ok {s0 : State} {E W : Nat} {s n t} (hE : sub 164354 E = true) (hW : sub 7802396853740918536644960120616848862051214277699888699389592833737090924544 W = true) (h : Ok E W s0 s) :
    Ok E W s0 (State.takeSample s n t) := by
  unfold State.takeSample
  repeat' first
    | exact sub_trans rfl hE | exact sub_trans rfl hW | exact sub_bit hW rfl | with_reducible first | assumption | apply State.showHold_ok | apply State.setFb_ok | apply State.when_ok | apply State.notePos_ok | apply State.startSsi_ok
    | intro _
    | dsimp only
    | with_reducible apply ok_ite
    | split

theorem State.giveSample_ok {s0 : State} {E W : Nat} {s n inst ok raw} (hE : sub 131072 E = true) (hW : sub 0 W = true) (h : Ok E W s0 s) :
    Ok E W s0 (State.giveSample s n inst ok raw) := by
  unfold State.giveSample
  repeat' first
    | exact sub_trans rfl hE | exact sub_trans rfl hW | exact sub_bit hW rfl | with_reducible first | assumption | apply State.setFb_ok
    | intro _
    | dsimp only
    | with_reducible apply ok_ite
    | split

theorem State.fillSample_ok {s0 : State} {E W : Nat} {s n ok raw} (hE : sub 131072 E = true) (hW : sub 0 W = true) (h : Ok E W s0 s) :
    Ok E W s0 (State.fillSample s n ok raw) := by
  unfold State.fillSample
  repeat' first
    | exact sub_trans rfl hE | exact sub_trans rfl hW | exact sub_bit hW rfl | with_reducible first | assumption | apply State.giveSample_ok | apply State.setFb_ok
    | intro _
    | dsimp only
    | with_reducible apply ok_ite
    | split

theorem State.goodAt_ok {s0 : State} {E W : Nat} {s n raw e} (hE : sub 131072 E = true) (hW : sub 0 W = true) (h : Ok E W s0 s) :
    Ok E W s0 (State.goodAt s n raw e) := by
  unfold State.goodAt
  repeat' first
    | exact sub_trans rfl hE | exact sub_trans rfl hW | exact sub_bit hW rfl | with_reducible first | assumption | apply State.setFb_ok
    | intro _
    | dsimp only
    | with_reducible apply ok_ite
    | split

theorem State.fbGood_ok {s0 : State} {E W : Nat} {s n} (hE : sub 131074 E = true) (hW : sub 883531372175860767350827418431807336436436497015499641350727515087306752 W = true) (h : Ok E W s0 s) :
    Ok E W s0 (State.fbGood s n) := by
  unfold State.fbGood
  repeat' first
    | exact sub_trans rfl hE | exact sub_trans rfl hW | exact sub_bit hW rfl | with_reducible first | assumption | apply State.off_ok | apply State.setFb_ok | apply State.when_ok | apply State.count_ok | apply ws_f_AX_FB_COUNT_GLITCH | apply ws_f_AX_FB_STATUS_EXTRAP
    | intro _
    | dsimp only
    | with_reducible apply ok_ite
    | split

theorem execSincosConversion_ok {s0 : State} {E W : Nat} {n a b quads s} (hE : sub 1613648386 E = true) (hW : sub 1224720827664336169985898516652274342663367149051722588814119417798589193515739041080236927873182919521406109365485972091009319147150764458144034583428483003633382686022252100073913219365201414048448640 W = true) (h : Ok E W s0 s) :
    OkOut E W s0 (execSincosConversion n a b quads s) := by
  unfold execSincosConversion
  repeat' first
    | exact sub_trans rfl hE | exact sub_trans rfl hW | exact sub_bit hW rfl | with_reducible first | assumption | apply okOut_next | apply okOut_fault | apply State.pi_ok | apply State.on_ok | apply State.setFb_ok | apply State.scPeriod_ok | apply State.when_ok | apply State.fbFail_ok | apply State.fillSample_ok | apply State.bracket_ok | apply State.incFault_ok | apply State.goodAt_ok | apply State.fbGood_ok | apply ws_f_AX_FB_SC_ADC_A | apply ws_f_AX_FB_SC_ADC_B | apply ws_f_AX_FB_STATUS_AMP_HIGH | apply ws_f_AX_FB_STATUS_AMP_LOW | apply ws_f_AX_FB_STATUS_SYNC_ERR
    | intro _
    | dsimp only
    | with_reducible apply ok_ite
    | split

theorem State.ssiFailure_ok {s0 : State} {E W : Nat} {s n r} (hE : sub 1613386242 E = true) (hW : sub 1224720827664336169985898516652274342663367149051722588814119417796249681371912556401281291866543404926455326235773667084478258094334217386227814298096899649317958230570306220248803394664381718798008448 W = true) (h : Ok E W s0 s) :
    Ok E W s0 (State.ssiFailure s n r) := by
  unfold State.ssiFailure
  repeat' first
    | exact sub_trans rfl hE | exact sub_trans rfl hW | exact sub_bit hW rfl | with_reducible first | assumption | apply State.count_ok | apply State.on_ok | apply State.setFb_ok | apply State.fbFail_ok | apply State.giveSample_ok | apply State.when_ok | apply State.secondLost_ok | apply ws_f_AX_FB_COUNT_SSI_FAIL | apply ws_f_AX_FB_STATUS_SSI_FAIL
    | intro _
    | dsimp only
    | with_reducible apply ok_ite
    | split

theorem State.ssiCheck_ok {s0 : State} {E W : Nat} {s n first r pos} (hE : sub 1613386242 E = true) (hW : sub 1224720827664336169985898516652274342663367149051722588814119417796249681371912556401281291866543404926455326235773667084478243619853528290548290809059852828573942684010158507915331852135480253556457600 W = true) (h : Ok E W s0 s) :
    Ok E W s0 (State.ssiCheck s n first r pos) := by
  unfold State.ssiCheck
  repeat' first
    | exact sub_trans rfl hE | exact sub_trans rfl hW | exact sub_bit hW rfl | with_reducible first | assumption | apply State.setFb_ok | apply State.fbLost_ok | apply State.on_ok | apply ws_f_AX_FB_STATUS_CHECK_ERR
    | intro _
    | dsimp only
    | with_reducible apply ok_ite
    | split

theorem execSsiTransferDone_ok {s0 : State} {E W : Nat} {n startHigh frame s} (hE : sub 1613386242 E = true) (hW : sub 1224720827664336169985898516652274342663367149051722588814119417796249681371912556401281291866543404926455326235773667084478258094776036992209078983051902692564035938049871743045398296484707683663216768 W = true) (h : Ok E W s0 s) :
    OkOut E W s0 (execSsiTransferDone n startHigh frame s) := by
  unfold execSsiTransferDone
  repeat' first
    | exact sub_trans rfl hE | exact sub_trans rfl hW | exact sub_bit hW rfl | with_reducible first | assumption | apply okOut_next | apply okOut_fault | apply State.setFb_ok | apply State.ssiFailure_ok | apply State.wr_ok | apply State.ssiCheck_ok | apply State.when_ok | apply State.on_ok | apply State.wr64_ok | apply State.goodAt_ok | apply State.fbGood_ok | apply State.giveSample_ok | apply ws_f_AX_FB_STATUS_POS2_VALID | apply ws_r_AX_FB_POS2_HI | apply ws_r_AX_FB_POS2_LO | apply ws_r_AX_FB_SSI_RAW_HI | apply ws_r_AX_FB_SSI_RAW_LO | apply wrF_of_wr
    | intro _
    | dsimp only
    | with_reducible apply ok_ite
    | split

theorem execFbLoad_ok {s0 : State} {E W : Nat} {rq n s} (hE : sub 131586 E = true) (hW : sub 77467496342607257689677575160090356229891173784878472231984559080549011958005978757405188082301010562062886881494281748480 W = true) (h : Ok E W s0 s) :
    OkOut E W s0 (execFbLoad rq n s) := by
  unfold execFbLoad
  repeat' first
    | exact sub_trans rfl hE | exact sub_trans rfl hW | exact sub_bit hW rfl | with_reducible first | assumption | apply okOut_next | apply okOut_fault | apply State.write_ok | apply wrFbCmd_ok
    | intro _
    | dsimp only
    | with_reducible apply ok_ite
    | split

theorem execFbFaultClr_ok {s0 : State} {E W : Nat} {rq n s} (hE : sub 131586 E = true) (hW : sub 77467496342607257689677575160090356229891173784878472231984559080549011958005978757405188082301010562062886881494281748480 W = true) (h : Ok E W s0 s) :
    OkOut E W s0 (execFbFaultClr rq n s) := by
  unfold execFbFaultClr
  repeat' first
    | exact sub_trans rfl hE | exact sub_trans rfl hW | exact sub_bit hW rfl | with_reducible first | assumption | apply okOut_next | apply okOut_fault | apply State.write_ok | apply wrFbCmd_ok
    | intro _
    | dsimp only
    | with_reducible apply ok_ite
    | split

theorem execProbePop_ok {s0 : State} {E W : Nat} {rq k s} (hE : sub 262658 E = true) (hW : sub 885834695235348365353330998121195203818660498693898777141851056956789052168899938482455848293238234887777727344695629306096189779738624 W = true) (h : Ok E W s0 s) :
    OkOut E W s0 (execProbePop rq k s) := by
  unfold execProbePop
  repeat' first
    | exact sub_trans rfl hE | exact sub_trans rfl hW | exact sub_bit hW rfl | with_reducible first | assumption | apply okOut_next | apply okOut_fault | apply State.write_ok | apply wrPrbPop_ok
    | intro _
    | dsimp only
    | with_reducible apply ok_ite
    | split

theorem wrFbHallCfg_ok {s0 : State} {E W : Nat} {n v s} (hE : sub 2 E = true) (hW : sub allSlots W = true) (h : Ok E W s0 s) :
    Ok E W s0 (wrFbHallCfg n v s) := by
  unfold wrFbHallCfg
  repeat' first
    | exact sub_trans rfl hE | exact sub_trans rfl hW | exact sub_bit hW rfl | with_reducible first | assumption | apply wrFbFrozen_ok | apply ws_r_AX_FB_HALL_CFG | apply wrF_of_wr
    | intro _
    | dsimp only
    | with_reducible apply ok_ite
    | split

theorem State.takeComm_ok {s0 : State} {E W : Nat} {s n} (hE : sub 3760870914 E = true) (hW : sub 628281784591804168099310749896062143721509035324650565626691309896685256569890343995045992819403466244446786811051635609398110870704424102066169749908853486966224150855770383436584055317745791292814655616 W = true) (h : Ok E W s0 s) :
    Ok E W s0 (State.takeComm s n) := by
  unfold State.takeComm
  repeat' first
    | exact sub_trans rfl hE | exact sub_trans rfl hW | exact sub_bit hW rfl | with_reducible first | assumption | apply State.commEvent_ok | apply State.setFb_ok
    | intro _
    | dsimp only
    | with_reducible apply ok_ite
    | split

theorem State.hallDue_ok {s0 : State} {E W : Nat} {s} (hE : sub 3760870914 E = true) (hW : sub 628281784591804168099310749896062143721509035324650565626691309896685256569890343995045992819403466244446786811051635609398110870704424102066169749908853486966224150855770383436584055317745791292814655616 W = true) (h : Ok E W s0 s) :
    Ok E W s0 (State.hallDue s) := by
  unfold State.hallDue
  repeat' first
    | exact sub_trans rfl hE | exact sub_trans rfl hW | exact sub_bit hW rfl | with_reducible first | assumption | apply State.each_ok | apply State.takeComm_ok
    | intro _
    | dsimp only
    | with_reducible apply ok_ite
    | split

theorem wrFbCfg_ok {s0 : State} {E W : Nat} {n v s} (hE : sub 4325378 E = true) (hW : sub 58038496663255854948358145865341351731973583222005878798227346503935782293504 W = true) (h : Ok E W s0 s) :
    Ok E W s0 (wrFbCfg n v s) := by
  unfold wrFbCfg
  repeat' first
    | exact sub_trans rfl hE | exact sub_trans rfl hW | exact sub_bit hW rfl | with_reducible first | assumption | apply State.on_ok | apply State.setFb_ok | apply State.off_ok | apply State.when_ok | apply State.wr_ok | apply State.setSup_ok | apply ws_f_AX_FB_STATUS_CFG_REFUSED | apply ws_f_AX_FB_STATUS_EXTRAP | apply ws_f_AX_FB_STATUS_LENT | apply ws_f_AX_FB_STATUS_POS2_VALID | apply ws_f_AX_FB_STATUS_VALID | apply ws_r_AX_FB_CFG | apply wrF_of_wr
    | intro _
    | dsimp only
    | with_reducible apply ok_ite
    | split

theorem wrFbLines_ok {s0 : State} {E W : Nat} {n v s} (hE : sub 2 E = true) (hW : sub allSlots W = true) (h : Ok E W s0 s) :
    Ok E W s0 (wrFbLines n v s) := by
  unfold wrFbLines
  repeat' first
    | exact sub_trans rfl hE | exact sub_trans rfl hW | exact sub_bit hW rfl | with_reducible first | assumption | apply wrFbFrozen_ok | apply ws_r_AX_FB_LINES | apply wrF_of_wr
    | intro _
    | dsimp only
    | with_reducible apply ok_ite
    | split

theorem execFbCfgWrite_ok {s0 : State} {E W : Nat} {rq n v s} (hE : sub 4325890 E = true) (hW : sub 77467496342607257689677575160090356229891173842915202048175635644577574525846587570862943820410013741332111779228771422208 W = true) (h : Ok E W s0 s) :
    OkOut E W s0 (execFbCfgWrite rq n v s) := by
  unfold execFbCfgWrite
  repeat' first
    | exact sub_trans rfl hE | exact sub_trans rfl hW | exact sub_bit hW rfl | with_reducible first | assumption | apply okOut_next | apply okOut_fault | apply State.write_ok | apply wrFbCfg_ok
    | intro _
    | dsimp only
    | with_reducible apply ok_ite
    | split

theorem execHallTransition_ok {s0 : State} {E W : Nat} {n st s} (hE : sub 3760903682 E = true) (hW : sub 628281784591804168099310749896062143721509035324650565626691309896685256569890343995045992819403466244446786811051635609398110871296317868766928500319258149715101853657977488889916406288483868725842280576 W = true) (h : Ok E W s0 s) :
    OkOut E W s0 (execHallTransition n st s) := by
  unfold execHallTransition
  repeat' first
    | exact sub_trans rfl hE | exact sub_trans rfl hW | exact sub_bit hW rfl | with_reducible first | assumption | apply okOut_next | apply okOut_fault | apply State.pwmHall_ok | apply State.p_ok | apply State.setFb_ok | apply State.hallMove_ok | apply State.raiseSt_ok | apply State.on_ok | apply State.fbLost_ok | apply ws_f_AX_FB_STATUS_HALL_AMBIG | apply ws_f_AX_FB_STATUS_HALL_SKIP | apply ws_f_AX_FB_STATUS_HALL_STATE
    | intro _
    | dsimp only
    | with_reducible apply ok_ite
    | split

theorem wrSoftHi_ok {s0 : State} {E W : Nat} {n mx v s} (hE : sub 131074 E = true) (hW : sub 220855883097298041197912187592864814478435487109452369765200775167868928 W = true) (h : Ok E W s0 s) :
    Ok E W s0 (wrSoftHi n mx v s) := by
  unfold wrSoftHi
  repeat' first
    | exact sub_trans rfl hE | exact sub_trans rfl hW | exact sub_bit hW rfl | with_reducible first | assumption | apply State.on_ok | apply State.wr_ok | apply State.setFb_ok | apply ws_f_AX_FB_STATUS_CFG_REFUSED | apply ws_r_AX_FB_SOFT_MAX_HI | apply ws_r_AX_FB_SOFT_MIN_HI | apply wrF_of_wr
    | intro _
    | dsimp only
    | with_reducible apply ok_ite
    | split

theorem execSoftLimitWrite_ok {s0 : State} {E W : Nat} {rq n mx v s} (hE : sub 131586 E = true) (hW : sub 77467496342607257689677575160090356229891173784876926240802877994260626572692828703703839033891244395474530476068156997632 W = true) (h : Ok E W s0 s) :
    OkOut E W s0 (execSoftLimitWrite rq n mx v s) := by
  unfold execSoftLimitWrite
  repeat' first
    | exact sub_trans rfl hE | exact sub_trans rfl hW | exact sub_bit hW rfl | with_reducible first | assumption | apply okOut_next | apply okOut_fault | apply State.write_ok | apply wrSoftHi_ok
    | intro _
    | dsimp only
    | with_reducible apply ok_ite
    | split

theorem State.noteFb_ok {s0 : State} {E W : Nat} {s n} (hE : sub 131072 E = true) (hW : sub 0 W = true) (h : Ok E W s0 s) :
    Ok E W s0 (State.noteFb s n) := by
  unfold State.noteFb
  repeat' first
    | exact sub_trans rfl hE | exact sub_trans rfl hW | exact sub_bit hW rfl | with_reducible first | assumption | apply State.setFb_ok
    | intro _
    | dsimp only
    | with_reducible apply ok_ite
    | split

theorem execEncoderLineLoss_ok {s0 : State} {E W : Nat} {n s} (hE : sub 1613386242 E = true) (hW : sub 1224720827664336169985898516652274342663367149051722588814119417796249681371912556401281291866543404926455326235773667084478243675950922597261993273329548477161605561532772233716233772496477144597135488 W = true) (h : Ok E W s0 s) :
    OkOut E W s0 (execEncoderLineLoss n s) := by
  unfold execEncoderLineLoss
  repeat' first
    | exact sub_trans rfl hE | exact sub_trans rfl hW | exact sub_bit hW rfl | with_reducible first | assumption | apply okOut_next | apply okOut_fault | apply State.incFault_ok | apply State.on_ok | apply ws_f_AX_FB_STATUS_LINE_ERR
    | intro _
    | dsimp only
    | with_reducible apply ok_ite
    | split

theorem execSsiIdleEnd_ok {s0 : State} {E W : Nat} {n s} (hE : sub 131072 E = true) (hW : sub 0 W = true) (h : Ok E W s0 s) :
    OkOut E W s0 (execSsiIdleEnd n s) := by
  unfold execSsiIdleEnd
  repeat' first
    | exact sub_trans rfl hE | exact sub_trans rfl hW | exact sub_bit hW rfl | with_reducible first | assumption | apply okOut_next | apply okOut_fault | apply State.setFb_ok
    | intro _
    | dsimp only
    | with_reducible apply ok_ite
    | split

theorem wrFbSsiCrc_ok {s0 : State} {E W : Nat} {n v s} (hE : sub 2 E = true) (hW : sub allSlots W = true) (h : Ok E W s0 s) :
    Ok E W s0 (wrFbSsiCrc n v s) := by
  unfold wrFbSsiCrc
  repeat' first
    | exact sub_trans rfl hE | exact sub_trans rfl hW | exact sub_bit hW rfl | with_reducible first | assumption | apply wrFbFrozen_ok | apply ws_r_AX_FB_SSI_CRC | apply wrF_of_wr
    | intro _
    | dsimp only
    | with_reducible apply ok_ite
    | split

theorem execFbStampRead_ok {s0 : State} {E W : Nat} {rq n s} (hE : sub 8454176 E = true) (hW : sub 0 W = true) (h : Ok E W s0 s) :
    OkOut E W s0 (execFbStampRead rq n s) := by
  unfold execFbStampRead
  repeat' first
    | exact sub_trans rfl hE | exact sub_trans rfl hW | exact sub_bit hW rfl | with_reducible first | assumption | apply okOut_next | apply okOut_fault | apply State.stampRead_ok
    | intro _
    | dsimp only
    | with_reducible apply ok_ite
    | split

theorem execRideExpiry_ok {s0 : State} {E W : Nat} {n s} (hE : sub 1613386242 E = true) (hW : sub 1224720827664336169985898516652274342663367149051722588814119417796249681371912556401281291866543404926455326235773667084478243619411816524353694726664028453388213055053287533696427112605078703233302656 W = true) (h : Ok E W s0 s) :
    OkOut E W s0 (execRideExpiry n s) := by
  unfold execRideExpiry
  repeat' first
    | exact sub_trans rfl hE | exact sub_trans rfl hW | exact sub_bit hW rfl | with_reducible first | assumption | apply okOut_next | apply okOut_fault | apply State.fbLost_ok
    | intro _
    | dsimp only
    | with_reducible apply ok_ite
    | split

theorem State.sampleFeedback_ok {s0 : State} {E W : Nat} {s n t} (hE : sub 164354 E = true) (hW : sub 7802396853740918536644960120616848862051214277699888699389592833737090924544 W = true) (h : Ok E W s0 s) :
    Ok E W s0 (State.sampleFeedback s n t) := by
  unfold State.sampleFeedback
  repeat' first
    | exact sub_trans rfl hE | exact sub_trans rfl hW | exact sub_bit hW rfl | with_reducible first | assumption | apply State.takeSample_ok
    | intro _
    | dsimp only
    | with_reducible apply ok_ite
    | split

end Sys2Proof.Machine
end

