-- ==== Sys2Proof/Laws/KeepEvents.lean ====
section
/-! SUPPORT. What the definitions of Machine/Events.lean keep: the queue, and the canonical forms of the register window and of
the memories; one lemma for each. -/

namespace Sys2Proof.Machine

theorem wrEvtCfg_ok {s0 : State} {E W : Nat} {n v s} (hE : sub 2 E = true) (hW : sub 1371820247733670188254707060126600058237656202440524991191287783162219049196446884646999093930073222950323560110522105856 W = true) (h : Ok E W s0 s) :
    Ok E W s0 (wrEvtCfg n v s) := by
  unfold wrEvtCfg
  repeat' first
    | exact sub_trans rfl hE | exact sub_trans rfl hW | exact sub_bit hW rfl | with_reducible first | assumption | apply State.p_ok | apply State.pb_ok | apply ws_f_EVT_OD_CFG_COAL_LEVEL | apply ws_f_EVT_OD_STATUS_MERGING
    | intro _
    | dsimp only
    | with_reducible apply ok_ite
    | split

theorem State.setEvq_ok {s0 : State} {E W : Nat} {s n l} (hE : sub 514 E = true) (hW : sub 1936687408565181442241939379002258905747279344621917634622994517405485716512630895972234014960103373576927378979560620032 W = true) (h : Ok E W s0 s) :
    Ok E W s0 (State.setEvq s n l) := by
  unfold State.setEvq
  repeat' first
    | exact sub_trans rfl hE | exact sub_trans rfl hW | exact sub_bit hW rfl | with_reducible first | assumption | apply State.pb_ok | apply State.p_ok | apply ws_f_EVT_OD_STATUS_LEVEL | apply ws_f_EVT_OD_STATUS_MERGING
    | intro _
    | dsimp only
    | with_reducible apply ok_ite
    | ((with_reducible apply ok_mk) <;> first | exact Or.inr (sub_bit hE rfl) | exact Or.inr (Or.inr (sub_bit hE rfl)) | with_reducible first | exact Or.inl rfl | exact rfl | exact Or.inr (Or.inl rfl) | assumption | apply ok_ite | apply State.pb_ok | apply State.p_ok | apply ws_f_EVT_OD_STATUS_LEVEL | apply ws_f_EVT_OD_STATUS_MERGING)
    | split

theorem State.overflowEvent_ok {s0 : State} {E W : Nat} {s n r} (hE : sub 514 E = true) (hW : sub 4518937286652090031897858551005270780076985137451141147453653873946133338529472090601879368240241205017442236970735501312 W = true) (h : Ok E W s0 s) :
    Ok E W s0 (State.overflowEvent s n r) := by
  unfold State.overflowEvent
  repeat' first
    | exact sub_trans rfl hE | exact sub_trans rfl hW | exact sub_bit hW rfl | with_reducible first | assumption | apply State.wr_ok | apply State.setEvq_ok | apply State.on_ok | apply ws_f_EVT_OD_STATUS_OVERFLOW | apply ws_r_EVT_OD_OVF_MAP | apply wrF_of_wr
    | intro _
    | dsimp only
    | with_reducible apply ok_ite
    | split

theorem State.queueEvent_ok {s0 : State} {E W : Nat} {s n r} (hE : sub 514 E = true) (hW : sub 5003109138793385392458343395755835506513804973606620556109402503297504767657629814594937871980267048411674081715625656320 W = true) (h : Ok E W s0 s) :
    Ok E W s0 (State.queueEvent s n r) := by
  unfold State.queueEvent
  repeat' first
    | exact sub_trans rfl hE | exact sub_trans rfl hW | exact sub_bit hW rfl | with_reducible first | assumption | apply State.count_ok | apply State.setEvq_ok | apply State.overflowEvent_ok | apply ws_f_EVT_OD_COUNT_COALESCED | apply ws_f_EVT_OD_COUNT_LOST
    | intro _
    | dsimp only
    | with_reducible apply ok_ite
    | split

theorem State.journalRec_ok {s0 : State} {E W : Nat} {s r} (hE : sub 4096 E = true) (hW : sub 0 W = true) (h : Ok E W s0 s) :
    Ok E W s0 (State.journalRec s r) := by
  unfold State.journalRec
  repeat' first
    | exact sub_trans rfl hE | exact sub_trans rfl hW | exact sub_bit hW rfl | with_reducible first | assumption | apply State.journal_ok
    | intro _
    | dsimp only
    | with_reducible apply ok_ite
    | split

theorem State.takeIn_ok {s0 : State} {E W : Nat} {s r} (hE : sub 4096 E = true) (hW : sub 0 W = true) (h : Ok E W s0 s) :
    Ok E W s0 (State.takeIn s r) := by
  unfold State.takeIn
  repeat' first
    | exact sub_trans rfl hE | exact sub_trans rfl hW | exact sub_bit hW rfl | with_reducible first | assumption | apply State.journalRec_ok
    | intro _
    | dsimp only
    | with_reducible apply ok_ite
    | ((with_reducible apply ok_mk) <;> first | exact Or.inr (sub_bit hE rfl) | exact Or.inr (Or.inr (sub_bit hE rfl)) | with_reducible first | exact Or.inl rfl | exact rfl | exact Or.inr (Or.inl rfl) | assumption | apply ok_ite | apply State.journalRec_ok)
    | split

theorem wrRoute_ok {s0 : State} {E W : Nat} {k v s} (hE : sub 514 E = true) (hW : sub 36893488147419103232 W = true) (h : Ok E W s0 s) :
    Ok E W s0 (wrRoute k v s) := by
  unfold wrRoute
  repeat' first
    | exact sub_trans rfl hE | exact sub_trans rfl hW | exact sub_bit hW rfl | with_reducible first | assumption | apply State.wr_ok | apply ws_r_EVT_ROUTE | apply wrF_of_wr
    | intro _
    | dsimp only
    | with_reducible apply ok_ite
    | ((with_reducible apply ok_mk) <;> first | exact Or.inr (sub_bit hE rfl) | exact Or.inr (Or.inr (sub_bit hE rfl)) | with_reducible first | exact Or.inl rfl | exact rfl | exact Or.inr (Or.inl rfl) | assumption | apply ok_ite | apply State.wr_ok | apply ws_r_EVT_ROUTE | apply wrF_of_wr)
    | split

theorem State.templatePush_ok {s0 : State} {E W : Nat} {s m full} (hE : sub 642 E = true) (hW : sub 34924561906660163088581619048658702390670388434438101812783879022210499341002745263074976973970435521363707458008945238799720349008697288300691456 W = true) (h : Ok E W s0 s) :
    Ok E W s0 (State.templatePush s m full) := by
  unfold State.templatePush
  repeat' first
    | exact sub_trans rfl hE | exact sub_trans rfl hW | exact sub_bit hW rfl | with_reducible first | assumption | apply State.when_ok | apply State.push_ok | apply State.on_ok | apply ws_f_EVT_LT_CTL_LT_REFUSED
    | intro _
    | dsimp only
    | with_reducible apply ok_ite
    | split

theorem State.deliver_ok {s0 : State} {E W : Nat} {s d} (hE : sub 2147488386 E = true) (hW : sub 34924561906660163088581624051767841184055780892781497568619385536015472947623301372477480271475203178993522052946817219066768760682779003926347776 W = true) (h : Ok E W s0 s) :
    Ok E W s0 (State.deliver s d) := by
  unfold State.deliver
  repeat' first
    | exact sub_trans rfl hE | exact sub_trans rfl hW | exact sub_bit hW rfl | with_reducible first | assumption | apply State.queueEvent_ok | apply State.when_ok | apply State.takeIn_ok | apply State.capEvent_ok | apply State.templatePush_ok
    | intro _
    | dsimp only
    | with_reducible apply ok_ite
    | split

theorem execEvtRouteWrite_ok {s0 : State} {E W : Nat} {rq k v s} (hE : sub 514 E = true) (hW : sub 77467496342607257689677575160090356229891173784876705384919780696219428660505235838889360598404134943141658763440408231936 W = true) (h : Ok E W s0 s) :
    OkOut E W s0 (execEvtRouteWrite rq k v s) := by
  unfold execEvtRouteWrite
  repeat' first
    | exact sub_trans rfl hE | exact sub_trans rfl hW | exact sub_bit hW rfl | with_reducible first | assumption | apply okOut_next | apply okOut_fault | apply State.write_ok | apply wrRoute_ok
    | intro _
    | dsimp only
    | with_reducible apply ok_ite
    | split

theorem State.intakeDue_ok {s0 : State} {E W : Nat} {s} (hE : sub 4096 E = true) (hW : sub 0 W = true) (h : Ok E W s0 s) :
    Ok E W s0 (State.intakeDue s) := by
  unfold State.intakeDue
  repeat' first
    | exact sub_trans rfl hE | exact sub_trans rfl hW | exact sub_bit hW rfl | with_reducible first | assumption | apply State.each_ok | apply State.journalRec_ok
    | intro _
    | dsimp only
    | with_reducible apply ok_ite
    | ((with_reducible apply ok_mk) <;> first | exact Or.inr (sub_bit hE rfl) | exact Or.inr (Or.inr (sub_bit hE rfl)) | with_reducible first | exact Or.inl rfl | exact rfl | exact Or.inr (Or.inl rfl) | assumption | apply ok_ite | apply State.each_ok | apply State.journalRec_ok)
    | split

theorem execEventDetected_ok {s0 : State} {E W : Nat} {s} (hE : sub 2147488386 E = true) (hW : sub 34924561906660163088581624051767841184055780892781497568619385536015472947623301372477480271475203178993522052946817219066768760682779003926347776 W = true) (h : Ok E W s0 s) :
    OkOut E W s0 (execEventDetected s) := by
  unfold execEventDetected
  repeat' first
    | exact sub_trans rfl hE | exact sub_trans rfl hW | exact sub_bit hW rfl | with_reducible first | assumption | apply okOut_next | apply okOut_fault | apply State.deliver_ok
    | intro _
    | dsimp only
    | with_reducible apply ok_ite
    | ((with_reducible apply ok_mk) <;> first | exact Or.inr (sub_bit hE rfl) | exact Or.inr (Or.inr (sub_bit hE rfl)) | with_reducible first | exact Or.inl rfl | exact rfl | exact Or.inr (Or.inl rfl) | assumption | apply ok_ite | apply State.deliver_ok)
    | split

theorem State.flushIntake_ok {s0 : State} {E W : Nat} {s} (hE : sub 4096 E = true) (hW : sub 0 W = true) (h : Ok E W s0 s) :
    Ok E W s0 (State.flushIntake s) := by
  unfold State.flushIntake
  repeat' first
    | exact sub_trans rfl hE | exact sub_trans rfl hW | exact sub_bit hW rfl | with_reducible first | assumption | apply State.each_ok | apply State.journalRec_ok
    | intro _
    | dsimp only
    | with_reducible apply ok_ite
    | ((with_reducible apply ok_mk) <;> first | exact Or.inr (sub_bit hE rfl) | exact Or.inr (Or.inr (sub_bit hE rfl)) | with_reducible first | exact Or.inl rfl | exact rfl | exact Or.inr (Or.inl rfl) | assumption | apply ok_ite | apply State.each_ok | apply State.journalRec_ok)
    | split

end Sys2Proof.Machine
end

