-- ==== Sys2Proof/Laws/KeepTimeBase.lean ====
section
/-! SUPPORT. What the definitions of Machine/TimeBase.lean keep: the queue, and the canonical forms of the register window and of
the memories; one lemma for each. -/

namespace Sys2Proof.Machine

theorem State.noteStamp_ok {s0 : State} {E W : Nat} {s k t} (hE : sub 64 E = true) (hW : sub 0 W = true) (h : Ok E W s0 s) :
    Ok E W s0 (State.noteStamp s k t) := by
  unfold State.noteStamp
  repeat' first
    | exact sub_trans rfl hE | exact sub_trans rfl hW | exact sub_bit hW rfl | with_reducible first | assumption
    | intro _
    | dsimp only
    | with_reducible apply ok_ite
    | ((with_reducible apply ok_mk) <;> first | exact Or.inr (sub_bit hE rfl) | exact Or.inr (Or.inr (sub_bit hE rfl)) | with_reducible first | exact Or.inl rfl | exact rfl | exact Or.inr (Or.inl rfl) | assumption | apply ok_ite)
    | split

theorem execPtpTransmit_ok {s0 : State} {E W : Nat} {p m s} (hE : sub 96 E = true) (hW : sub 0 W = true) (h : Ok E W s0 s) :
    OkOut E W s0 (execPtpTransmit p m s) := by
  unfold execPtpTransmit
  repeat' first
    | exact sub_trans rfl hE | exact sub_trans rfl hW | exact sub_bit hW rfl | with_reducible first | assumption | apply okOut_next | apply okOut_fault | apply State.when_ok | apply State.emit_ok | apply State.noteStamp_ok
    | intro _
    | dsimp only
    | with_reducible apply ok_ite
    | split

theorem State.setPresent_ok {s0 : State} {E W : Nat} {s m b} (hE : sub 2 E = true) (hW : sub 3273390607896141870013189696827599152216642046043064789483291368096133796404674554883270092325904157150886684127560071009851081845999507754076879192064 W = true) (h : Ok E W s0 s) :
    Ok E W s0 (State.setPresent s m b) := by
  unfold State.setPresent
  repeat' first
    | exact sub_trans rfl hE | exact sub_trans rfl hW | exact sub_bit hW rfl | with_reducible first | assumption | apply State.p_ok | apply ws_f_LSH_JOIN_STATUS_PRESENT | apply ws_r_LSH_PRESENT | apply wrF_of_wr
    | intro _
    | dsimp only
    | with_reducible apply ok_ite
    | split

theorem State.setServo_ok {s0 : State} {E W : Nat} {s x} (hE : sub 268439618 E = true) (hW : sub 1167984798111281975972139931059274579172666502049663058595205055536613741865782824723086301189923839868799496624011594915025581852861917920117382647422450870628851617829663076750990343540658143232 W = true) (h : Ok E W s0 s) :
    Ok E W s0 (State.setServo s x) := by
  unfold State.setServo
  repeat' first
    | exact sub_trans rfl hE | exact sub_trans rfl hW | exact sub_bit hW rfl | with_reducible first | assumption | apply State.when_ok | apply State.off_ok | apply State.setPresent_ok | apply State.p_ok | apply ws_f_LSH_JOIN_STATUS_COMPLETE | apply ws_f_LSH_JOIN_STATUS_JOINING | apply ws_f_TB_STATUS_SERVO_STATE
    | intro _
    | dsimp only
    | with_reducible apply ok_ite
    | ((with_reducible apply ok_mk) <;> first | exact Or.inr (sub_bit hE rfl) | exact Or.inr (Or.inr (sub_bit hE rfl)) | with_reducible first | exact Or.inl rfl | exact rfl | exact Or.inr (Or.inl rfl) | assumption | apply ok_ite | apply State.when_ok | apply State.off_ok | apply State.setPresent_ok | apply State.p_ok | apply ws_f_LSH_JOIN_STATUS_COMPLETE | apply ws_f_LSH_JOIN_STATUS_JOINING | apply ws_f_TB_STATUS_SERVO_STATE)
    | split

theorem State.completeGmSwitch_ok {s0 : State} {E W : Nat} {s timedOut} (hE : sub 4674 E = true) (hW : sub 5287868675824124258405117891006637645551251839901080959541284128245259918794857090960352948316833452343446436795795918073088208772074132639974834469558046581744169813154502832813661761127879540736 W = true) (h : Ok E W s0 s) :
    Ok E W s0 (State.completeGmSwitch s timedOut) := by
  unfold State.completeGmSwitch
  repeat' first
    | exact sub_trans rfl hE | exact sub_trans rfl hW | exact sub_bit hW rfl | with_reducible first | assumption | apply State.wr64_ok | apply State.p_ok | apply State.pb_ok | apply State.wr_ok | apply State.journal_ok | apply State.raiseSt_ok | apply State.on_ok | apply State.off_ok | apply ws_f_TB_GM_LOG_INFO_CAUSE | apply ws_f_TB_GM_LOG_INFO_DURATION | apply ws_f_TB_GM_LOG_INFO_TIMED_OUT | apply ws_f_TB_STATUS_HOLDOFF | apply ws_f_TB_STATUS_SWITCHING | apply ws_r_TB_GM_LOG_END | apply ws_r_TB_GM_LOG_NEW_HI | apply ws_r_TB_GM_LOG_NEW_LO | apply ws_r_TB_GM_LOG_OLD_HI | apply ws_r_TB_GM_LOG_OLD_LO | apply wrF_of_wr
    | intro _
    | dsimp only
    | with_reducible apply ok_ite
    | ((with_reducible apply ok_mk) <;> first | exact Or.inr (sub_bit hE rfl) | exact Or.inr (Or.inr (sub_bit hE rfl)) | with_reducible first | exact Or.inl rfl | exact rfl | exact Or.inr (Or.inl rfl) | assumption | apply ok_ite | apply State.wr64_ok | apply State.p_ok | apply State.pb_ok | apply State.wr_ok | apply State.journal_ok | apply State.raiseSt_ok | apply State.on_ok | apply State.off_ok | apply ws_f_TB_GM_LOG_INFO_CAUSE | apply ws_f_TB_GM_LOG_INFO_DURATION | apply ws_f_TB_GM_LOG_INFO_TIMED_OUT | apply ws_f_TB_STATUS_HOLDOFF | apply ws_f_TB_STATUS_SWITCHING | apply ws_r_TB_GM_LOG_END | apply ws_r_TB_GM_LOG_NEW_HI | apply ws_r_TB_GM_LOG_NEW_LO | apply ws_r_TB_GM_LOG_OLD_HI | apply ws_r_TB_GM_LOG_OLD_LO | apply wrF_of_wr)
    | split

theorem State.enterLocked_ok {s0 : State} {E W : Nat} {s} (hE : sub 268440130 E = true) (hW : sub 25143610243715917849931496719014305491486582307640845493788861737097304745547382490811658124662710545705564833433250205332694725163689844600935117882562686767453191617163811145104104796110626750464 W = true) (h : Ok E W s0 s) :
    Ok E W s0 (State.enterLocked s) := by
  unfold State.enterLocked
  repeat' first
    | exact sub_trans rfl hE | exact sub_trans rfl hW | exact sub_bit hW rfl | with_reducible first | assumption | apply State.raiseSt_ok | apply State.on_ok | apply State.setServo_ok | apply State.when_ok | apply State.completeGmSwitch_ok | apply ws_f_TB_STATUS_TIME_VALID
    | intro _
    | dsimp only
    | with_reducible apply ok_ite
    | ((with_reducible apply ok_mk) <;> first | exact Or.inr (sub_bit hE rfl) | exact Or.inr (Or.inr (sub_bit hE rfl)) | with_reducible first | exact Or.inl rfl | exact rfl | exact Or.inr (Or.inl rfl) | assumption | apply ok_ite | apply State.raiseSt_ok | apply State.on_ok | apply State.setServo_ok | apply State.when_ok | apply State.completeGmSwitch_ok | apply ws_f_TB_STATUS_TIME_VALID)
    | split

theorem State.enterAcquire_ok {s0 : State} {E W : Nat} {s} (hE : sub 268439618 E = true) (hW : sub 1167984798111281975972139931059274579172666502049663058595205055536613741865782824723086301189923839868799496624011594915025581852861917920117382647422450870628851617829663076750990343540658143232 W = true) (h : Ok E W s0 s) :
    Ok E W s0 (State.enterAcquire s) := by
  unfold State.enterAcquire
  repeat' first
    | exact sub_trans rfl hE | exact sub_trans rfl hW | exact sub_bit hW rfl | with_reducible first | assumption | apply State.setServo_ok
    | intro _
    | dsimp only
    | with_reducible apply ok_ite
    | ((with_reducible apply ok_mk) <;> first | exact Or.inr (sub_bit hE rfl) | exact Or.inr (Or.inr (sub_bit hE rfl)) | with_reducible first | exact Or.inl rfl | exact rfl | exact Or.inr (Or.inl rfl) | assumption | apply ok_ite | apply State.setServo_ok)
    | split

theorem State.judgeSync_ok {s0 : State} {E W : Nat} {s e} (hE : sub 268440130 E = true) (hW : sub 25143610243715917849931496719014305491486582307640845493788861737097304745547382490811658124662710545705564833433250205332694725163689844600935117882562686767453191617163811145104104796110626750464 W = true) (h : Ok E W s0 s) :
    Ok E W s0 (State.judgeSync s e) := by
  unfold State.judgeSync
  repeat' first
    | exact sub_trans rfl hE | exact sub_trans rfl hW | exact sub_bit hW rfl | with_reducible first | assumption | apply State.enterLocked_ok | apply State.completeGmSwitch_ok | apply State.enterAcquire_ok
    | intro _
    | dsimp only
    | with_reducible apply ok_ite
    | ((with_reducible apply ok_mk) <;> first | exact Or.inr (sub_bit hE rfl) | exact Or.inr (Or.inr (sub_bit hE rfl)) | with_reducible first | exact Or.inl rfl | exact rfl | exact Or.inr (Or.inl rfl) | assumption | apply ok_ite | apply State.enterLocked_ok | apply State.completeGmSwitch_ok | apply State.enterAcquire_ok)
    | split

theorem cmdTbSet_ok {s0 : State} {E W : Nat} {s} (hE : sub 66 E = true) (hW : sub 18979752969308332109547273879713211911555830590154009311209440874460984695588097927864597295080265023079152007826152734412465011640921822072731071090044411023128297845338702192344756639745871708160 W = true) (h : Ok E W s0 s) :
    Ok E W s0 (cmdTbSet s) := by
  unfold cmdTbSet
  repeat' first
    | exact sub_trans rfl hE | exact sub_trans rfl hW | exact sub_bit hW rfl | with_reducible first | assumption | apply State.on_ok | apply ws_f_TB_STATUS_CMD_REFUSED | apply ws_f_TB_STATUS_TIME_VALID
    | intro _
    | dsimp only
    | with_reducible apply ok_ite
    | ((with_reducible apply ok_mk) <;> first | exact Or.inr (sub_bit hE rfl) | exact Or.inr (Or.inr (sub_bit hE rfl)) | with_reducible first | exact Or.inl rfl | exact rfl | exact Or.inr (Or.inl rfl) | assumption | apply ok_ite | apply State.on_ok | apply ws_f_TB_STATUS_CMD_REFUSED | apply ws_f_TB_STATUS_TIME_VALID)
    | split

theorem execTbSet_ok {s0 : State} {E W : Nat} {rq s} (hE : sub 578 E = true) (hW : sub 18979752969308332109547273879713211911555830590154009311209440874460984695665565424207204552769942598239242364056043908197341717025841602768950499750549646862017658443742837135449521915038860836864 W = true) (h : Ok E W s0 s) :
    OkOut E W s0 (execTbSet rq s) := by
  unfold execTbSet
  repeat' first
    | exact sub_trans rfl hE | exact sub_trans rfl hW | exact sub_bit hW rfl | with_reducible first | assumption | apply okOut_next | apply okOut_fault | apply State.write_ok | apply cmdTbSet_ok
    | intro _
    | dsimp only
    | with_reducible apply ok_ite
    | split

theorem wrTbUtc_ok {s0 : State} {E W : Nat} {v s} (hE : sub 2 E = true) (hW : sub 2317281839452783440328725623221600765078570331745572582980894196611113454525956079315899140519338203433171543601666893850728035882805470461064519694932191475069941103086276009206892133738819044245504 W = true) (h : Ok E W s0 s) :
    Ok E W s0 (wrTbUtc v s) := by
  unfold wrTbUtc
  repeat' first
    | exact sub_trans rfl hE | exact sub_trans rfl hW | exact sub_bit hW rfl | with_reducible first | assumption | apply State.p_ok | apply State.off_ok | apply ws_f_TB_UTC_FROM_ANNOUNCE | apply ws_f_TB_UTC_LEAP59 | apply ws_f_TB_UTC_LEAP61 | apply ws_f_TB_UTC_OFFSET | apply ws_f_TB_UTC_VALID
    | intro _
    | dsimp only
    | with_reducible apply ok_ite
    | split

theorem State.setAdj_ok {s0 : State} {E W : Nat} {s x} (hE : sub 2 E = true) (hW : sub 73003505390370770173276949960350852889038622159441068811074286529081663686244315408104864661557744516965873283557953480259408619980211476173212749730125468236825129628313419147566302382774026240 W = true) (h : Ok E W s0 s) :
    Ok E W s0 (State.setAdj s x) := by
  unfold State.setAdj
  repeat' first
    | exact sub_trans rfl hE | exact sub_trans rfl hW | exact sub_bit hW rfl | with_reducible first | assumption | apply State.pb_ok | apply State.pi_ok | apply ws_f_TB_ADJ_ADJ | apply ws_f_TB_STATUS_ADJ_CLAMPED
    | intro _
    | dsimp only
    | with_reducible apply ok_ite
    | split

theorem State.servoRun_ok {s0 : State} {E W : Nat} {s e} (hE : sub 66 E = true) (hW : sub 73003505390370770173276949960350852889038622159441068811074286529081663686244315408104864661557744516965873283557953480259408619980211476173212749730125468236825129628313419147566302382774026240 W = true) (h : Ok E W s0 s) :
    Ok E W s0 (State.servoRun s e) := by
  unfold State.servoRun
  repeat' first
    | exact sub_trans rfl hE | exact sub_trans rfl hW | exact sub_bit hW rfl | with_reducible first | assumption | apply State.setAdj_ok
    | intro _
    | dsimp only
    | with_reducible apply ok_ite
    | ((with_reducible apply ok_mk) <;> first | exact Or.inr (sub_bit hE rfl) | exact Or.inr (Or.inr (sub_bit hE rfl)) | with_reducible first | exact Or.inl rfl | exact rfl | exact Or.inr (Or.inl rfl) | assumption | apply ok_ite | apply State.setAdj_ok)
    | split

theorem State.onSync_ok {s0 : State} {E W : Nat} {s e} (hE : sub 268440130 E = true) (hW : sub 25216613749106288620104773668974656344375620929800286562599936023626386409233626806219762989324268290222530706716808158812954133783670056077108330632292812235690016746792124564251671098493400776704 W = true) (h : Ok E W s0 s) :
    Ok E W s0 (State.onSync s e) := by
  unfold State.onSync
  repeat' first
    | exact sub_trans rfl hE | exact sub_trans rfl hW | exact sub_bit hW rfl | with_reducible first | assumption | apply State.judgeSync_ok | apply State.servoRun_ok
    | intro _
    | dsimp only
    | with_reducible apply ok_ite
    | ((with_reducible apply ok_mk) <;> first | exact Or.inr (sub_bit hE rfl) | exact Or.inr (Or.inr (sub_bit hE rfl)) | with_reducible first | exact Or.inl rfl | exact rfl | exact Or.inr (Or.inl rfl) | assumption | apply ok_ite | apply State.judgeSync_ok | apply State.servoRun_ok)
    | split

theorem State.leaveFree_ok {s0 : State} {E W : Nat} {s} (hE : sub 268439618 E = true) (hW : sub 1167984798111281975972139931059274579172666502049663058595205055536613741865782824723086301189923839868799496624011594915025581852861917920117382647422450870628851617829663076750990343540658143232 W = true) (h : Ok E W s0 s) :
    Ok E W s0 (State.leaveFree s) := by
  unfold State.leaveFree
  repeat' first
    | exact sub_trans rfl hE | exact sub_trans rfl hW | exact sub_bit hW rfl | with_reducible first | assumption | apply State.enterAcquire_ok
    | intro _
    | dsimp only
    | with_reducible apply ok_ite
    | split

theorem State.beginGmSwitch_ok {s0 : State} {E W : Nat} {s a cause} (hE : sub 268439618 E = true) (hW : sub 6569914489375961114843287112208419507846249054631958016400968996729355539840856850346087069789691577206711991159147373170881008242970436510048533649973552469519213312272216777649113387160637014016 W = true) (h : Ok E W s0 s) :
    Ok E W s0 (State.beginGmSwitch s a cause) := by
  unfold State.beginGmSwitch
  repeat' first
    | exact sub_trans rfl hE | exact sub_trans rfl hW | exact sub_bit hW rfl | with_reducible first | assumption | apply State.leaveFree_ok | apply State.off_ok | apply State.on_ok | apply ws_f_TB_STATUS_BETTER_GM_PENDING | apply ws_f_TB_STATUS_HOLDOFF | apply ws_f_TB_STATUS_SWITCHING
    | intro _
    | dsimp only
    | with_reducible apply ok_ite
    | ((with_reducible apply ok_mk) <;> first | exact Or.inr (sub_bit hE rfl) | exact Or.inr (Or.inr (sub_bit hE rfl)) | with_reducible first | exact Or.inl rfl | exact rfl | exact Or.inr (Or.inl rfl) | assumption | apply ok_ite | apply State.leaveFree_ok | apply State.off_ok | apply State.on_ok | apply ws_f_TB_STATUS_BETTER_GM_PENDING | apply ws_f_TB_STATUS_HOLDOFF | apply ws_f_TB_STATUS_SWITCHING)
    | split

theorem execGmHoldoffEnd_ok {s0 : State} {E W : Nat} {s} (hE : sub 268439618 E = true) (hW : sub 6569914489375961114843287112208419507846249054631958016400968996729355539840856850346087069789691577206711991159147373170881008242970436510048533649973552469519213312272216777649113387160637014016 W = true) (h : Ok E W s0 s) :
    OkOut E W s0 (execGmHoldoffEnd s) := by
  unfold execGmHoldoffEnd
  repeat' first
    | exact sub_trans rfl hE | exact sub_trans rfl hW | exact sub_bit hW rfl | with_reducible first | assumption | apply okOut_next | apply okOut_fault | apply State.off_ok | apply State.beginGmSwitch_ok | apply ws_f_TB_STATUS_HOLDOFF
    | intro _
    | dsimp only
    | with_reducible apply ok_ite
    | split

theorem wrServoEn_ok {s0 : State} {E W : Nat} {v s} (hE : sub 268439618 E = true) (hW : sub 1168056086245932322772431199365613646224617958745088817344120355419705918040270460307250456077600673796921037910098682327639811363873189411336105345255571530225543055246449955890835388449911996416 W = true) (h : Ok E W s0 s) :
    Ok E W s0 (wrServoEn v s) := by
  unfold wrServoEn
  repeat' first
    | exact sub_trans rfl hE | exact sub_trans rfl hW | exact sub_bit hW rfl | with_reducible first | assumption | apply State.on_ok | apply State.leaveFree_ok | apply State.off_ok | apply State.setServo_ok | apply ws_f_TB_CTRL_SERVO_EN
    | intro _
    | dsimp only
    | with_reducible apply ok_ite
    | ((with_reducible apply ok_mk) <;> first | exact Or.inr (sub_bit hE rfl) | exact Or.inr (Or.inr (sub_bit hE rfl)) | with_reducible first | exact Or.inl rfl | exact rfl | exact Or.inr (Or.inl rfl) | assumption | apply ok_ite | apply State.on_ok | apply State.leaveFree_ok | apply State.off_ok | apply State.setServo_ok | apply ws_f_TB_CTRL_SERVO_EN)
    | split

theorem execServoEn_ok {s0 : State} {E W : Nat} {rq v s} (hE : sub 268440130 E = true) (hW : sub 1168056086245932322772431199365613646224617958745088817344120355419705918117737956649857713767278248957011394139989856112516516748792970107555534005760807369114903653650584898995600663742901125120 W = true) (h : Ok E W s0 s) :
    OkOut E W s0 (execServoEn rq v s) := by
  unfold execServoEn
  repeat' first
    | exact sub_trans rfl hE | exact sub_trans rfl hW | exact sub_bit hW rfl | with_reducible first | assumption | apply okOut_next | apply okOut_fault | apply State.write_ok | apply wrServoEn_ok
    | intro _
    | dsimp only
    | with_reducible apply ok_ite
    | split

theorem State.recordAnnounce_ok {s0 : State} {E W : Nat} {s a} (hE : sub 64 E = true) (hW : sub 0 W = true) (h : Ok E W s0 s) :
    Ok E W s0 (State.recordAnnounce s a) := by
  unfold State.recordAnnounce
  repeat' first
    | exact sub_trans rfl hE | exact sub_trans rfl hW | exact sub_bit hW rfl | with_reducible first | assumption
    | intro _
    | dsimp only
    | with_reducible apply ok_ite
    | ((with_reducible apply ok_mk) <;> first | exact Or.inr (sub_bit hE rfl) | exact Or.inr (Or.inr (sub_bit hE rfl)) | with_reducible first | exact Or.inl rfl | exact rfl | exact Or.inr (Or.inl rfl) | assumption | apply ok_ite)
    | split

theorem cmdGmSwitch_ok {s0 : State} {E W : Nat} {s} (hE : sub 268439618 E = true) (hW : sub 6861910688903781608836322094973238152639415679095865851958037317874909150542212203082465489714003346792545098971857415238765085345138464541936703974435774177567340971431273734454417335464419655680 W = true) (h : Ok E W s0 s) :
    Ok E W s0 (cmdGmSwitch s) := by
  unfold cmdGmSwitch
  repeat' first
    | exact sub_trans rfl hE | exact sub_trans rfl hW | exact sub_bit hW rfl | with_reducible first | assumption | apply State.on_ok | apply State.beginGmSwitch_ok | apply ws_f_TB_STATUS_CMD_REFUSED
    | intro _
    | dsimp only
    | with_reducible apply ok_ite
    | split

theorem execGmSwitch_ok {s0 : State} {E W : Nat} {rq s} (hE : sub 268440130 E = true) (hW : sub 6861910688903781608836322094973238152639415679095865851958037317874909150619679699425072747403680921952635455201748589023641790730058245238156132634941010016456701569835408677559182610757408784384 W = true) (h : Ok E W s0 s) :
    OkOut E W s0 (execGmSwitch rq s) := by
  unfold execGmSwitch
  repeat' first
    | exact sub_trans rfl hE | exact sub_trans rfl hW | exact sub_bit hW rfl | with_reducible first | assumption | apply okOut_next | apply okOut_fault | apply State.write_ok | apply cmdGmSwitch_ok
    | intro _
    | dsimp only
    | with_reducible apply ok_ite
    | split

theorem State.advanceCalendar_ok {s0 : State} {E W : Nat} {s d} (hE : sub 4096 E = true) (hW : sub 0 W = true) (h : Ok E W s0 s) :
    Ok E W s0 (State.advanceCalendar s d) := by
  unfold State.advanceCalendar
  repeat' first
    | exact sub_trans rfl hE | exact sub_trans rfl hW | exact sub_bit hW rfl | with_reducible first | assumption | apply State.addLife_ok
    | intro _
    | dsimp only
    | with_reducible apply ok_ite
    | ((with_reducible apply ok_mk) <;> first | exact Or.inr (sub_bit hE rfl) | exact Or.inr (Or.inr (sub_bit hE rfl)) | with_reducible first | exact Or.inl rfl | exact rfl | exact Or.inr (Or.inl rfl) | assumption | apply ok_ite | apply State.addLife_ok)
    | split

theorem State.tick_ok {s0 : State} {E W : Nat} {s} (hE : sub 4160 E = true) (hW : sub 0 W = true) (h : Ok E W s0 s) :
    Ok E W s0 (State.tick s) := by
  unfold State.tick
  repeat' first
    | exact sub_trans rfl hE | exact sub_trans rfl hW | exact sub_bit hW rfl | with_reducible first | assumption | apply State.advanceCalendar_ok
    | intro _
    | dsimp only
    | with_reducible apply ok_ite
    | ((with_reducible apply ok_mk) <;> first | exact Or.inr (sub_bit hE rfl) | exact Or.inr (Or.inr (sub_bit hE rfl)) | with_reducible first | exact Or.inl rfl | exact rfl | exact Or.inr (Or.inl rfl) | assumption | apply ok_ite | apply State.advanceCalendar_ok)
    | split

theorem State.followUtc_ok {s0 : State} {E W : Nat} {s a} (hE : sub 2 E = true) (hW : sub 2242530812373661393866508667633807192011519675882812177078284706397851730186409109015386265018714390419198268001613123081349712144650455284901148091869862717809620422341557428264734322973050687979520 W = true) (h : Ok E W s0 s) :
    Ok E W s0 (State.followUtc s a) := by
  unfold State.followUtc
  repeat' first
    | exact sub_trans rfl hE | exact sub_trans rfl hW | exact sub_bit hW rfl | with_reducible first | assumption | apply State.pb_ok | apply State.on_ok | apply State.p_ok | apply ws_f_TB_UTC_LEAP59 | apply ws_f_TB_UTC_LEAP61 | apply ws_f_TB_UTC_OFFSET | apply ws_f_TB_UTC_VALID
    | intro _
    | dsimp only
    | with_reducible apply ok_ite
    | split

theorem wrTickSrc_ok {s0 : State} {E W : Nat} {v s} (hE : sub 2 E = true) (hW : sub 9344163537428857194978284521699552901589137809626753772821847476190084247141321829900766057128683962459145615151069695822747385313421982985296341174123577295926850842756970134329106525358059945984 W = true) (h : Ok E W s0 s) :
    Ok E W s0 (wrTickSrc v s) := by
  unfold wrTickSrc
  repeat' first
    | exact sub_trans rfl hE | exact sub_trans rfl hW | exact sub_bit hW rfl | with_reducible first | assumption | apply State.pb_ok | apply State.on_ok | apply ws_f_TB_CTRL_TICK_SRC | apply ws_f_TB_STATUS_TICK_SRC_REFUSED
    | intro _
    | dsimp only
    | with_reducible apply ok_ite
    | split

theorem wrTbCtrl_ok {s0 : State} {E W : Nat} {v s} (hE : sub 268439618 E = true) (hW : sub 10804991081666932533196918246661422546796894484398505552117490038983971191780500679922180117534081974810221522360075495830451019711710777895524226182776557707314540939070034357671060725499890237440 W = true) (h : Ok E W s0 s) :
    Ok E W s0 (wrTbCtrl v s) := by
  unfold wrTbCtrl
  repeat' first
    | exact sub_trans rfl hE | exact sub_trans rfl hW | exact sub_bit hW rfl | with_reducible first | assumption | apply State.on_ok | apply State.p_ok | apply wrTickSrc_ok | apply State.leaveFree_ok | apply wrServoEn_ok | apply ws_f_TB_CTRL_GM_POLICY | apply ws_f_TB_CTRL_PROTOCOL | apply ws_f_TB_CTRL_ROLE | apply ws_f_TB_CTRL_STEP_MODE | apply ws_f_TB_CTRL_TRANSPORT | apply ws_f_TB_STATUS_CMD_REFUSED
    | intro _
    | dsimp only
    | with_reducible apply ok_ite
    | split

theorem cmdTbStep_ok {s0 : State} {E W : Nat} {s} (hE : sub 66 E = true) (hW : sub 291996199527820493993034982764818644793166624463907835557068321145553610701355352736378419924311769585833107812710042067884077102168028031888170324462221708048127659159056956805303948303782641664 W = true) (h : Ok E W s0 s) :
    Ok E W s0 (cmdTbStep s) := by
  unfold cmdTbStep
  repeat' first
    | exact sub_trans rfl hE | exact sub_trans rfl hW | exact sub_bit hW rfl | with_reducible first | assumption | apply State.on_ok | apply ws_f_TB_STATUS_CMD_REFUSED
    | intro _
    | dsimp only
    | with_reducible apply ok_ite
    | ((with_reducible apply ok_mk) <;> first | exact Or.inr (sub_bit hE rfl) | exact Or.inr (Or.inr (sub_bit hE rfl)) | with_reducible first | exact Or.inl rfl | exact rfl | exact Or.inr (Or.inl rfl) | assumption | apply ok_ite | apply State.on_ok | apply ws_f_TB_STATUS_CMD_REFUSED)
    | split

theorem State.applyStep_ok {s0 : State} {E W : Nat} {s} (hE : sub 578 E = true) (hW : sub 2335969596222563951944279862118549158345332995711262684456546569164428885610842821891027359394494156686664862501680336543072616817344224255105362595697773664385021273272455654442431586430261133312 W = true) (h : Ok E W s0 s) :
    Ok E W s0 (State.applyStep s).1 := by
  unfold State.applyStep
  repeat' first
    | exact sub_trans rfl hE | exact sub_trans rfl hW | exact sub_bit hW rfl | with_reducible first | assumption | apply State.raiseSt_ok | apply State.on_ok | apply ws_f_TB_STATUS_STEPPED
    | intro _
    | dsimp only
    | with_reducible apply ok_ite
    | ((with_reducible apply ok_mk) <;> first | exact Or.inr (sub_bit hE rfl) | exact Or.inr (Or.inr (sub_bit hE rfl)) | with_reducible first | exact Or.inl rfl | exact rfl | exact Or.inr (Or.inl rfl) | assumption | apply ok_ite | apply State.raiseSt_ok | apply State.on_ok | apply ws_f_TB_STATUS_STEPPED)
    | split

theorem State.applyStep_ok' {s0 t0 : State} {E W : Nat} {s y0} (hE : sub 578 E = true) (hW : sub 2335969596222563951944279862118549158345332995711262684456546569164428885610842821891027359394494156686664862501680336543072616817344224255105362595697773664385021273272455654442431586430261133312 W = true) (h : Ok E W s0 s) (e : State.applyStep s = (t0, y0)) :
    Ok E W s0 t0 := by
  have r := State.applyStep_ok (s0 := s0) (E := E) (W := W) (s := s) hE hW h
  rw [e] at r
  exact r

theorem State.fillTimeShadow_ok {s0 : State} {E W : Nat} {s rq} (hE : sub 64 E = true) (hW : sub 0 W = true) (h : Ok E W s0 s) :
    Ok E W s0 (State.fillTimeShadow s rq) := by
  unfold State.fillTimeShadow
  repeat' first
    | exact sub_trans rfl hE | exact sub_trans rfl hW | exact sub_bit hW rfl | with_reducible first | assumption
    | intro _
    | dsimp only
    | with_reducible apply ok_ite
    | ((with_reducible apply ok_mk) <;> first | exact Or.inr (sub_bit hE rfl) | exact Or.inr (Or.inr (sub_bit hE rfl)) | with_reducible first | exact Or.inl rfl | exact rfl | exact Or.inr (Or.inl rfl) | assumption | apply ok_ite)
    | split

theorem execTbTimeShadowFill_ok {s0 : State} {E W : Nat} {rq s} (hE : sub 8388704 E = true) (hW : sub 0 W = true) (h : Ok E W s0 s) :
    OkOut E W s0 (execTbTimeShadowFill rq s) := by
  unfold execTbTimeShadowFill
  repeat' first
    | exact sub_trans rfl hE | exact sub_trans rfl hW | exact sub_bit hW rfl | with_reducible first | assumption | apply okOut_next | apply okOut_fault | apply State.readAbort_ok | apply State.emit_ok | apply State.fillTimeShadow_ok
    | intro _
    | dsimp only
    | with_reducible apply ok_ite
    | split

theorem execTickSrcChange_ok {s0 : State} {E W : Nat} {rq v s} (hE : sub 514 E = true) (hW : sub 9344163537428857194978284521699552901589137809626753772821847476190084247218789326243373314818361537619235971380960869607624090698341763681515769834628813134816211441161105077433871800651049074688 W = true) (h : Ok E W s0 s) :
    OkOut E W s0 (execTickSrcChange rq v s) := by
  unfold execTickSrcChange
  repeat' first
    | exact sub_trans rfl hE | exact sub_trans rfl hW | exact sub_bit hW rfl | with_reducible first | assumption | apply okOut_next | apply okOut_fault | apply State.write_ok | apply wrTickSrc_ok
    | intro _
    | dsimp only
    | with_reducible apply ok_ite
    | split

theorem execTbCtrlWrite_ok {s0 : State} {E W : Nat} {rq v s} (hE : sub 268440130 E = true) (hW : sub 10804991081666932533196918246661422546796894484398505552117490038983971191857968176264787375223759549970311878589966669615327725096630558591743654843281793546203901537474169300775826000792879366144 W = true) (h : Ok E W s0 s) :
    OkOut E W s0 (execTbCtrlWrite rq v s) := by
  unfold execTbCtrlWrite
  repeat' first
    | exact sub_trans rfl hE | exact sub_trans rfl hW | exact sub_bit hW rfl | with_reducible first | assumption | apply okOut_next | apply okOut_fault | apply State.write_ok | apply wrTbCtrl_ok
    | intro _
    | dsimp only
    | with_reducible apply ok_ite
    | split

theorem wrTbLock_ok {s0 : State} {E W : Nat} {v s} (hE : sub 2 E = true) (hW : sub 291996199527820493993034982764818644793166624463907835557068321145553610701355352736378419924311769585833107812710042067884077102168028031888170324462222056497271386200043543300901958434431172608 W = true) (h : Ok E W s0 s) :
    Ok E W s0 (wrTbLock v s) := by
  unfold wrTbLock
  repeat' first
    | exact sub_trans rfl hE | exact sub_trans rfl hW | exact sub_bit hW rfl | with_reducible first | assumption | apply State.on_ok | apply State.wr_ok | apply ws_f_TB_STATUS_CMD_REFUSED | apply ws_r_TB_LOCK | apply wrF_of_wr
    | intro _
    | dsimp only
    | with_reducible apply ok_ite
    | split

theorem State.unpendGm_ok {s0 : State} {E W : Nat} {s} (hE : sub 66 E = true) (hW : sub 145998099763910246996517491382409322396583312231953917778534160572776805350677676368189209962155884792916553906355021033942038551084014015944085162231110854024063829579528478402651974151891320832 W = true) (h : Ok E W s0 s) :
    Ok E W s0 (State.unpendGm s) := by
  unfold State.unpendGm
  repeat' first
    | exact sub_trans rfl hE | exact sub_trans rfl hW | exact sub_bit hW rfl | with_reducible first | assumption | apply State.off_ok | apply ws_f_TB_STATUS_BETTER_GM_PENDING
    | intro _
    | dsimp only
    | with_reducible apply ok_ite
    | ((with_reducible apply ok_mk) <;> first | exact Or.inr (sub_bit hE rfl) | exact Or.inr (Or.inr (sub_bit hE rfl)) | with_reducible first | exact Or.inl rfl | exact rfl | exact Or.inr (Or.inl rfl) | assumption | apply ok_ite | apply State.off_ok | apply ws_f_TB_STATUS_BETTER_GM_PENDING)
    | split

theorem State.pendGm_ok {s0 : State} {E W : Nat} {s a} (hE : sub 578 E = true) (hW : sub 145998099763910246996517491382409322396583312231953917778534160572776805350677676368189209962155884792916553906355021033942038551084014015944085162231110854024063829579528478402651974151891320832 W = true) (h : Ok E W s0 s) :
    Ok E W s0 (State.pendGm s a) := by
  unfold State.pendGm
  repeat' first
    | exact sub_trans rfl hE | exact sub_trans rfl hW | exact sub_bit hW rfl | with_reducible first | assumption | apply State.raiseSt_ok | apply State.on_ok | apply ws_f_TB_STATUS_BETTER_GM_PENDING
    | intro _
    | dsimp only
    | with_reducible apply ok_ite
    | ((with_reducible apply ok_mk) <;> first | exact Or.inr (sub_bit hE rfl) | exact Or.inr (Or.inr (sub_bit hE rfl)) | with_reducible first | exact Or.inl rfl | exact rfl | exact Or.inr (Or.inl rfl) | assumption | apply ok_ite | apply State.raiseSt_ok | apply State.on_ok | apply ws_f_TB_STATUS_BETTER_GM_PENDING)
    | split

theorem State.runBmca_ok {s0 : State} {E W : Nat} {s} (hE : sub 268440130 E = true) (hW : sub 6569914489375961114843287112208419507846249054631958016400968996729355539840856850346087069789691577206711991159147373170881008242970436510048533649973552469519213312272216777649113387160637014016 W = true) (h : Ok E W s0 s) :
    Ok E W s0 (State.runBmca s) := by
  unfold State.runBmca
  repeat' first
    | exact sub_trans rfl hE | exact sub_trans rfl hW | exact sub_bit hW rfl | with_reducible first | assumption | apply State.beginGmSwitch_ok | apply State.unpendGm_ok | apply State.off_ok | apply State.when_ok | apply State.pendGm_ok | apply ws_f_TB_STATUS_SWITCHING
    | intro _
    | dsimp only
    | with_reducible apply ok_ite
    | ((with_reducible apply ok_mk) <;> first | exact Or.inr (sub_bit hE rfl) | exact Or.inr (Or.inr (sub_bit hE rfl)) | with_reducible first | exact Or.inl rfl | exact rfl | exact Or.inr (Or.inl rfl) | assumption | apply ok_ite | apply State.beginGmSwitch_ok | apply State.unpendGm_ok | apply State.off_ok | apply State.when_ok | apply State.pendGm_ok | apply ws_f_TB_STATUS_SWITCHING)
    | split

theorem wrTbBmca_ok {s0 : State} {E W : Nat} {v s} (hE : sub 268440130 E = true) (hW : sub 6569914489375961114843287112208419507846249054631958016400968996729355539840856850346087069789691577206711991159147373170881008242970436510048533649973552474963731183007232193063107106068928397312 W = true) (h : Ok E W s0 s) :
    Ok E W s0 (wrTbBmca v s) := by
  unfold wrTbBmca
  repeat' first
    | exact sub_trans rfl hE | exact sub_trans rfl hW | exact sub_bit hW rfl | with_reducible first | assumption | apply State.wr_ok | apply State.when_ok | apply State.runBmca_ok | apply ws_r_TB_BMCA | apply wrF_of_wr
    | intro _
    | dsimp only
    | with_reducible apply ok_ite
    | split

theorem wrTbAdj_ok {s0 : State} {E W : Nat} {v s} (hE : sub 2 E = true) (hW : sub 364999704918191264166311932725169497682205246623348904368142607674635274387599668144483284585869514102798981096267995548143485722148239508061383074192347176284952788787370375952870250686556667904 W = true) (h : Ok E W s0 s) :
    Ok E W s0 (wrTbAdj v s) := by
  unfold wrTbAdj
  repeat' first
    | exact sub_trans rfl hE | exact sub_trans rfl hW | exact sub_bit hW rfl | with_reducible first | assumption | apply State.on_ok | apply State.setAdj_ok | apply ws_f_TB_STATUS_CMD_REFUSED
    | intro _
    | dsimp only
    | with_reducible apply ok_ite
    | split

theorem execTbAdjWrite_ok {s0 : State} {E W : Nat} {rq v s} (hE : sub 514 E = true) (hW : sub 364999704918191264166311932725169497682205246623348904368142607674635274465067164487090542275547089262889337326159169333020191107068020204280811734697583015174313387191505319057635525979545796608 W = true) (h : Ok E W s0 s) :
    OkOut E W s0 (execTbAdjWrite rq v s) := by
  unfold execTbAdjWrite
  repeat' first
    | exact sub_trans rfl hE | exact sub_trans rfl hW | exact sub_bit hW rfl | with_reducible first | assumption | apply okOut_next | apply okOut_fault | apply State.write_ok | apply wrTbAdj_ok
    | intro _
    | dsimp only
    | with_reducible apply ok_ite
    | split

theorem execAnnounceReceived_ok {s0 : State} {E W : Nat} {a s} (hE : sub 268440130 E = true) (hW : sub 2249100726863037354981351954746015611519365924937444135094685675394581085726249965865732352088504081996404979992772270454520593152893425721411196625519836270279139635653829645042383436360211324993536 W = true) (h : Ok E W s0 s) :
    OkOut E W s0 (execAnnounceReceived a s) := by
  unfold execAnnounceReceived
  repeat' first
    | exact sub_trans rfl hE | exact sub_trans rfl hW | exact sub_bit hW rfl | with_reducible first | assumption | apply okOut_next | apply okOut_fault | apply State.runBmca_ok | apply State.recordAnnounce_ok | apply State.followUtc_ok
    | intro _
    | dsimp only
    | with_reducible apply ok_ite
    | split

theorem wrTbCmd_ok {s0 : State} {E W : Nat} {v s} (hE : sub 268439618 E = true) (hW : sub 25549667458684293224390560991921631419402079644785967327610409871190340235428954778210684364869956600285863998985300107583346019883892258582779604740017963492647511157610918969993870026906508722176 W = true) (h : Ok E W s0 s) :
    Ok E W s0 (wrTbCmd v s) := by
  unfold wrTbCmd
  repeat' first
    | exact sub_trans rfl hE | exact sub_trans rfl hW | exact sub_bit hW rfl | with_reducible first | assumption | apply State.when_ok | apply cmdTbSet_ok | apply cmdTbStep_ok | apply cmdGmSwitch_ok
    | intro _
    | dsimp only
    | with_reducible apply ok_ite
    | split

theorem wrGmCtrl_ok {s0 : State} {E W : Nat} {v s} (hE : sub 2 E = true) (hW : sub 295418029991037140407015861469093863286836545844344255505002715533978067076761860776257854532799798135667089544890237873367093630709059610386859820452013368689316655164827155517866103947967594496 W = true) (h : Ok E W s0 s) :
    Ok E W s0 (wrGmCtrl v s) := by
  unfold wrGmCtrl
  repeat' first
    | exact sub_trans rfl hE | exact sub_trans rfl hW | exact sub_bit hW rfl | with_reducible first | assumption | apply State.on_ok | apply State.p_ok | apply ws_f_TB_GM_CTRL_HOLDOFF | apply ws_f_TB_GM_CTRL_SWITCH_TMO | apply ws_f_TB_STATUS_CMD_REFUSED
    | intro _
    | dsimp only
    | with_reducible apply ok_ite
    | split

theorem execGmSwitchTimeout_ok {s0 : State} {E W : Nat} {s} (hE : sub 4674 E = true) (hW : sub 5287868675824124258405117891006637645551251839901080959541284128245259918794857090960352948316833452343446436795795918073088208772074132639974834469558046581744169813154502832813661761127879540736 W = true) (h : Ok E W s0 s) :
    OkOut E W s0 (execGmSwitchTimeout s) := by
  unfold execGmSwitchTimeout
  repeat' first
    | exact sub_trans rfl hE | exact sub_trans rfl hW | exact sub_bit hW rfl | with_reducible first | assumption | apply okOut_next | apply okOut_fault | apply State.when_ok | apply State.completeGmSwitch_ok
    | intro _
    | dsimp only
    | with_reducible apply ok_ite
    | split

theorem execHoldoverEntry_ok {s0 : State} {E W : Nat} {s} (hE : sub 268440130 E = true) (hW : sub 1240988303501652746145416881019625432061705124209104127406279342065695405552027140131191165851481584385765369907569548395284990472842129396290595397152576338865676747457976495898556645923432169472 W = true) (h : Ok E W s0 s) :
    OkOut E W s0 (execHoldoverEntry s) := by
  unfold execHoldoverEntry
  repeat' first
    | exact sub_trans rfl hE | exact sub_trans rfl hW | exact sub_bit hW rfl | with_reducible first | assumption | apply okOut_next | apply okOut_fault | apply State.when_ok | apply State.setAdj_ok | apply State.raiseSt_ok | apply State.setServo_ok
    | intro _
    | dsimp only
    | with_reducible apply ok_ite
    | ((with_reducible apply ok_mk) <;> first | exact Or.inr (sub_bit hE rfl) | exact Or.inr (Or.inr (sub_bit hE rfl)) | with_reducible first | exact Or.inl rfl | exact rfl | exact Or.inr (Or.inl rfl) | assumption | apply ok_ite | apply State.when_ok | apply State.setAdj_ok | apply State.raiseSt_ok | apply State.setServo_ok)
    | split

theorem execTbStep_ok {s0 : State} {E W : Nat} {rq s} (hE : sub 578 E = true) (hW : sub 291996199527820493993034982764818644793166624463907835557068321145553610778822849078985677613989344745923464042601215852760782487087808728107598984967457546937488257563191899910069223596771770368 W = true) (h : Ok E W s0 s) :
    OkOut E W s0 (execTbStep rq s) := by
  unfold execTbStep
  repeat' first
    | exact sub_trans rfl hE | exact sub_trans rfl hW | exact sub_bit hW rfl | with_reducible first | assumption | apply okOut_next | apply okOut_fault | apply State.write_ok | apply cmdTbStep_ok
    | intro _
    | dsimp only
    | with_reducible apply ok_ite
    | split

theorem State.readNow_ok {s0 : State} {E W : Nat} {s rq part} (hE : sub 2 E = true) (hW : sub 37375513539561023231108477793896786533525327931380202951304745106630862169773485150256437750311906506986637800026885384689161869077507588081685801531164378630160340372359290471078905382884178132992 W = true) (h : Ok E W s0 s) :
    Ok E W s0 (State.readNow s rq part).2 := by
  unfold State.readNow
  repeat' first
    | exact sub_trans rfl hE | exact sub_trans rfl hW | exact sub_bit hW rfl | with_reducible first | assumption | apply State.on_ok | apply ws_f_TB_STATUS_TORN
    | intro _
    | dsimp only
    | with_reducible apply ok_ite
    | split

theorem State.readNow_ok' {s0 t0 : State} {E W : Nat} {s rq part y0} (hE : sub 2 E = true) (hW : sub 37375513539561023231108477793896786533525327931380202951304745106630862169773485150256437750311906506986637800026885384689161869077507588081685801531164378630160340372359290471078905382884178132992 W = true) (h : Ok E W s0 s) (e : State.readNow s rq part = (y0, t0)) :
    Ok E W s0 t0 := by
  have r := State.readNow_ok (s0 := s0) (E := E) (W := W) (s := s) (rq := rq) (part := part) hE hW h
  rw [e] at r
  exact r

theorem execTbShadowRead_ok {s0 : State} {E W : Nat} {rq part s} (hE : sub 8388642 E = true) (hW : sub 37375513539561023231108477793896786533525327931380202951304745106630862169773485150256437750311906506986637800026885384689161869077507588081685801531164378630160340372359290471078905382884178132992 W = true) (h : Ok E W s0 s) :
    OkOut E W s0 (execTbShadowRead rq part s) := by
  unfold execTbShadowRead
  repeat' first
    | exact sub_trans rfl hE | exact sub_trans rfl hW | exact sub_bit hW rfl | with_reducible first | assumption | apply okOut_next | apply okOut_fault | apply State.readAbort_ok | apply State.readNow_ok | refine State.readNow_ok' ?_ ?_ ?_ (by assumption) | apply State.emit_ok
    | intro _
    | dsimp only
    | with_reducible apply ok_ite
    | split

theorem execAnnounceTimeout_ok {s0 : State} {E W : Nat} {lost s} (hE : sub 268439618 E = true) (hW : sub 6569914489375961114843287112208419507846249054631958016400968996729355539840856850346087069789691577206711991159147373170881008242970436510048533649973552469519213312272216777649113387160637014016 W = true) (h : Ok E W s0 s) :
    OkOut E W s0 (execAnnounceTimeout lost s) := by
  unfold execAnnounceTimeout
  repeat' first
    | exact sub_trans rfl hE | exact sub_trans rfl hW | exact sub_bit hW rfl | with_reducible first | assumption | apply okOut_next | apply okOut_fault | apply State.unpendGm_ok | apply State.beginGmSwitch_ok | apply State.off_ok | apply ws_f_TB_STATUS_HOLDOFF | apply ws_f_TB_STATUS_SWITCHING
    | intro _
    | dsimp only
    | with_reducible apply ok_ite
    | ((with_reducible apply ok_mk) <;> first | exact Or.inr (sub_bit hE rfl) | exact Or.inr (Or.inr (sub_bit hE rfl)) | with_reducible first | exact Or.inl rfl | exact rfl | exact Or.inr (Or.inl rfl) | assumption | apply ok_ite | apply State.unpendGm_ok | apply State.beginGmSwitch_ok | apply State.off_ok | apply ws_f_TB_STATUS_HOLDOFF | apply ws_f_TB_STATUS_SWITCHING)
    | split

theorem execSyncReceived_ok {s0 : State} {E W : Nat} {port src rx master delay ival s} (hE : sub 268440130 E = true) (hW : sub 25253113274047266181853903041820258674974766757858275042044569563769580610571296225311810291814807261420759845193396914071439643421441059581094351922850589949196032704187006683852334092031373606912 W = true) (h : Ok E W s0 s) :
    OkOut E W s0 (execSyncReceived port src rx master delay ival s) := by
  unfold execSyncReceived
  repeat' first
    | exact sub_trans rfl hE | exact sub_trans rfl hW | exact sub_bit hW rfl | with_reducible first | assumption | apply okOut_next | apply okOut_fault | apply State.pi_ok | apply State.when_ok | apply State.enterAcquire_ok | apply State.onSync_ok | apply ws_f_TB_OFFSET_E
    | intro _
    | dsimp only
    | with_reducible apply ok_ite
    | ((with_reducible apply ok_mk) <;> first | exact Or.inr (sub_bit hE rfl) | exact Or.inr (Or.inr (sub_bit hE rfl)) | with_reducible first | exact Or.inl rfl | exact rfl | exact Or.inr (Or.inl rfl) | assumption | apply ok_ite | apply State.pi_ok | apply State.when_ok | apply State.enterAcquire_ok | apply State.onSync_ok | apply ws_f_TB_OFFSET_E)
    | split

end Sys2Proof.Machine
end

