-- ==== Sys2Proof/Laws/KeepEngine.lean ====
section
/-! SUPPORT. What the definitions of Machine/Engine.lean keep: the queue, and the canonical forms of the register window and of
the memories; one lemma for each. -/

namespace Sys2Proof.Machine

theorem State.aeMode_ok {s0 : State} {E W : Nat} {s n m} (hE : sub 2097154 E = true) (hW : sub 182687704666362864775460604089535377456991567872 W = true) (h : Ok E W s0 s) :
    Ok E W s0 (State.aeMode s n m) := by
  unfold State.aeMode
  repeat' first
    | exact sub_trans rfl hE | exact sub_trans rfl hW | exact sub_bit hW rfl | with_reducible first | assumption | apply State.pb_ok | apply State.setAe_ok | apply ws_f_AE_STATUS_BG_ACTIVE
    | intro _
    | dsimp only
    | with_reducible apply ok_ite
    | split

theorem State.saveLate_ok {s0 : State} {E W : Nat} {s n} (hE : sub 2097154 E = true) (hW : sub 548074264371687859637952580127742456551727693824 W = true) (h : Ok E W s0 s) :
    Ok E W s0 (State.saveLate s n) := by
  unfold State.saveLate
  repeat' first
    | exact sub_trans rfl hE | exact sub_trans rfl hW | exact sub_bit hW rfl | with_reducible first | assumption | apply State.count_ok | apply State.on_ok | apply State.setAe_ok | apply State.aeMode_ok | apply ws_f_AE_BG_STAT_RESTARTS | apply ws_f_AE_STATUS_BG_SAVE_LATE
    | intro _
    | dsimp only
    | with_reducible apply ok_ite
    | split

theorem State.pairFault_ok {s0 : State} {E W : Nat} {s n} (hE : sub 1613255170 E = true) (hW : sub 1224720827664335617602385987214491705491632334484350166037276981869120267350730395225051923570390801280069547479309975558851586150903774987305876895156722611477952423007974118428517283748859200881557632 W = true) (h : Ok E W s0 s) :
    Ok E W s0 (State.pairFault s n) := by
  unfold State.pairFault
  repeat' first
    | exact sub_trans rfl hE | exact sub_trans rfl hW | exact sub_bit hW rfl | with_reducible first | assumption | apply State.p_ok | apply State.raiseSt_ok | apply State.each_ok | apply State.levelStop_ok | apply State.offStop_ok | apply ws_f_GLB_REGION_STATE_CLUSTER_FAULT_SEEN
    | intro _
    | dsimp only
    | with_reducible apply ok_ite
    | split

theorem State.overrunFx_ok {s0 : State} {E W : Nat} {s n f} (hE : sub 1613255170 E = true) (hW : sub 1224720827664336169985898516652274342663367149051722588814119417982320394791587920381908186685872565720987514571727090516539734494810415070788889253239686540582206509190264664024005232058708715896832128 W = true) (h : Ok E W s0 s) :
    Ok E W s0 (State.overrunFx s n f) := by
  unfold State.overrunFx
  repeat' first
    | exact sub_trans rfl hE | exact sub_trans rfl hW | exact sub_bit hW rfl | with_reducible first | assumption | apply State.p_ok | apply State.on_ok | apply State.count_ok | apply State.pairFault_ok | apply State.raiseSt_ok | apply State.each_ok | apply State.setAe_ok | apply State.axisFault_ok | apply State.trip_ok | apply ws_f_AE_SLOT_STAT_OVERRUNS | apply ws_f_AE_STATUS_FAULT_SLOT | apply ws_f_AE_STATUS_OVERRUN
    | intro _
    | dsimp only
    | with_reducible apply ok_ite
    | split

theorem State.miss_ok {s0 : State} {E W : Nat} {s n f cause} (hE : sub 1613255170 E = true) (hW : sub 15050594251167020302473782331622489139434959403363423955497866690911318485719233942447854984847572020714208943150152412838672416609944383540322028963368651969356201687963404164824805172885112137188301078656 W = true) (h : Ok E W s0 s) :
    Ok E W s0 (State.miss s n f cause) := by
  unfold State.miss
  repeat' first
    | exact sub_trans rfl hE | exact sub_trans rfl hW | exact sub_bit hW rfl | with_reducible first | assumption | apply State.on_ok | apply State.p_ok | apply State.overrunFx_ok | apply ws_w_missField | apply ws_w_missFlag | apply wrF_of_wr
    | intro _
    | dsimp only
    | with_reducible apply ok_ite
    | split

theorem State.beginSlot_ok {s0 : State} {E W : Nat} {s n f} (hE : sub 2097154 E = true) (hW : sub 182710005411561395398602139807808025818497548288 W = true) (h : Ok E W s0 s) :
    Ok E W s0 (State.beginSlot s n f) := by
  unfold State.beginSlot
  repeat' first
    | exact sub_trans rfl hE | exact sub_trans rfl hW | exact sub_bit hW rfl | with_reducible first | assumption | apply State.setAe_ok | apply State.p_ok | apply State.aeMode_ok | apply ws_f_AE_BUDGET_CYCLES
    | intro _
    | dsimp only
    | with_reducible apply ok_ite
    | split

theorem State.serve_ok {s0 : State} {E W : Nat} {s n a} (hE : sub 2097154 E = true) (hW : sub 5016456510113118655434598811035278955030765345404790744303017523831112055108147451509157692220295382716162651878526895249385292291816524375083746691371804094271873160484737966720260389217684476157468082176 W = true) (h : Ok E W s0 s) :
    Ok E W s0 (State.serve s n a) := by
  unfold State.serve
  repeat' first
    | exact sub_trans rfl hE | exact sub_trans rfl hW | exact sub_bit hW rfl | with_reducible first | assumption | apply State.p_ok | apply State.setAe_ok | apply ws_w_missField | apply wrF_of_wr
    | intro _
    | dsimp only
    | with_reducible apply ok_ite
    | split

theorem State.slotStart_ok {s0 : State} {E W : Nat} {s n f} (hE : sub 1613255170 E = true) (hW : sub 15050594251167020302473782331622489139434959403363423955497866690911318485719233942447854984847572020714208943150152412838672416609944383540322028963368651969904298253080290555085899288731127242101534752896 W = true) (h : Ok E W s0 s) :
    Ok E W s0 (State.slotStart s n f).1 := by
  unfold State.slotStart
  repeat' first
    | exact sub_trans rfl hE | exact sub_trans rfl hW | exact sub_bit hW rfl | with_reducible first | assumption | apply State.setAe_ok | apply State.saveLate_ok | apply State.miss_ok | apply State.beginSlot_ok | apply State.when_ok | apply State.serve_ok
    | intro _
    | dsimp only
    | with_reducible apply ok_ite
    | split

theorem State.slotStart_ok' {s0 t0 : State} {E W : Nat} {s n f y0} (hE : sub 1613255170 E = true) (hW : sub 15050594251167020302473782331622489139434959403363423955497866690911318485719233942447854984847572020714208943150152412838672416609944383540322028963368651969904298253080290555085899288731127242101534752896 W = true) (h : Ok E W s0 s) (e : State.slotStart s n f = (t0, y0)) :
    Ok E W s0 t0 := by
  have r := State.slotStart_ok (s0 := s0) (E := E) (W := W) (s := s) (n := n) (f := f) hE hW h
  rw [e] at r
  exact r

theorem State.discardPending_ok {s0 : State} {E W : Nat} {s n} (hE : sub 2097154 E = true) (hW : sub 713623846352979940529142984724747568191373312 W = true) (h : Ok E W s0 s) :
    Ok E W s0 (State.discardPending s n) := by
  unfold State.discardPending
  repeat' first
    | exact sub_trans rfl hE | exact sub_trans rfl hW | exact sub_bit hW rfl | with_reducible first | assumption | apply State.p_ok | apply State.setAe_ok | apply ws_f_AE_COMMIT_STATUS_STATE
    | intro _
    | dsimp only
    | with_reducible apply ok_ite
    | split

theorem execEngineEccError_ok {s0 : State} {E W : Nat} {n mem fatal s} (hE : sub 1613255170 E = true) (hW : sub 1224720827664335617602385987214491705491632334484350166037276981869120267350730395225051923570390801280069547479309975801685197679119908852238615248096590331992710068058008410192710527758934364861235328 W = true) (h : Ok E W s0 s) :
    OkOut E W s0 (execEngineEccError n mem fatal s) := by
  unfold execEngineEccError
  repeat' first
    | exact sub_trans rfl hE | exact sub_trans rfl hW | exact sub_bit hW rfl | with_reducible first | assumption | apply okOut_next | apply okOut_fault | apply State.on_ok | apply State.pairFault_ok | apply State.axisFault_ok | apply State.count_ok | apply ws_f_AE_ECC_CORR | apply ws_f_AE_STATUS_ECC_CORR | apply ws_f_AE_STATUS_ECC_FATAL
    | intro _
    | dsimp only
    | with_reducible apply ok_ite
    | split

theorem State.commit_ok {s0 : State} {E W : Nat} {s n} (hE : sub 2097154 E = true) (hW : sub 1382646202308898634775214532904198413370785794 W = true) (h : Ok E W s0 s) :
    Ok E W s0 (State.commit s n) := by
  unfold State.commit
  repeat' first
    | exact sub_trans rfl hE | exact sub_trans rfl hW | exact sub_bit hW rfl | with_reducible first | assumption | apply State.p_ok | apply State.wr_ok | apply State.setAe_ok | apply ws_f_AE_COMMIT_STATUS_OTHER | apply ws_f_AE_COMMIT_STATUS_REASON | apply ws_f_AE_COMMIT_STATUS_SHORTFALL | apply ws_f_AE_COMMIT_STATUS_SLOT | apply ws_f_AE_COMMIT_STATUS_STATE | apply ws_r_AE_COMMIT_STATUS | apply wrF_of_wr
    | intro _
    | dsimp only
    | with_reducible apply ok_ite
    | split

theorem State.aeFaultClr_ok {s0 : State} {E W : Nat} {s n} (hE : sub 2097154 E = true) (hW : sub 87690098239854175092221089962976981179355952578560 W = true) (h : Ok E W s0 s) :
    Ok E W s0 (State.aeFaultClr s n) := by
  unfold State.aeFaultClr
  repeat' first
    | exact sub_trans rfl hE | exact sub_trans rfl hW | exact sub_bit hW rfl | with_reducible first | assumption | apply State.setAe_ok | apply State.p_ok | apply State.off_ok | apply ws_f_AE_STATUS_FAULT_SLOT | apply ws_f_AE_STATUS_MISS_A | apply ws_f_AE_STATUS_MISS_B | apply ws_f_AE_STATUS_OVERRUN
    | intro _
    | dsimp only
    | with_reducible apply ok_ite
    | split

theorem State.bgEntry_ok {s0 : State} {E W : Nat} {s n} (hE : sub 2097154 E = true) (hW : sub 182687704666362864775460604089535377456991567872 W = true) (h : Ok E W s0 s) :
    Ok E W s0 (State.bgEntry s n) := by
  unfold State.bgEntry
  repeat' first
    | exact sub_trans rfl hE | exact sub_trans rfl hW | exact sub_bit hW rfl | with_reducible first | assumption | apply State.aeMode_ok | apply State.setAe_ok
    | intro _
    | dsimp only
    | with_reducible apply ok_ite
    | split

theorem State.applyBursts_ok {s0 : State} {E W : Nat} {s n} (hE : sub 2097154 E = true) (hW : sub 1224720827664335609236962600350409901130557945655466490308353887654080091579137561403602952202220552420938147431280980285494456125931768646260680344573194358953094033321469230156313571586348749061881856 W = true) (h : Ok E W s0 s) :
    Ok E W s0 (State.applyBursts s n) := by
  unfold State.applyBursts
  repeat' first
    | exact sub_trans rfl hE | exact sub_trans rfl hW | exact sub_bit hW rfl | with_reducible first | assumption | apply State.setAe_ok | apply State.each_ok | apply State.blockWord_ok
    | intro _
    | dsimp only
    | with_reducible apply ok_ite
    | split

theorem State.writeRun_ok {s0 : State} {E W : Nat} {s n v} (hE : sub 2097154 E = true) (hW : sub 1224720827664335609236962600350409901130557945655466490308353887654080091579137561403602952202220552420938147431280980285494456125931768646260680344573195275246112750547712869575905958162226306785214464 W = true) (h : Ok E W s0 s) :
    Ok E W s0 (State.writeRun s n v) := by
  unfold State.writeRun
  repeat' first
    | exact sub_trans rfl hE | exact sub_trans rfl hW | exact sub_bit hW rfl | with_reducible first | assumption | apply State.on_ok | apply State.bgEntry_ok | apply State.off_ok | apply State.setAe_ok | apply State.aeMode_ok | apply State.applyBursts_ok | apply ws_f_AE_CTL_RUN | apply ws_f_AE_STATUS_CTL_REFUSED
    | intro _
    | dsimp only
    | with_reducible apply ok_ite
    | split

theorem State.writeBgEn_ok {s0 : State} {E W : Nat} {s n v} (hE : sub 2097154 E = true) (hW : sub 184114952359068824656518890058984872593374314496 W = true) (h : Ok E W s0 s) :
    Ok E W s0 (State.writeBgEn s n v) := by
  unfold State.writeBgEn
  repeat' first
    | exact sub_trans rfl hE | exact sub_trans rfl hW | exact sub_bit hW rfl | with_reducible first | assumption | apply State.pb_ok | apply State.setAe_ok | apply State.bgEntry_ok | apply State.aeMode_ok | apply ws_f_AE_CTL_BG_EN
    | intro _
    | dsimp only
    | with_reducible apply ok_ite
    | split

theorem wrAeCtl_ok {s0 : State} {E W : Nat} {n v s} (hE : sub 2097154 E = true) (hW : sub 1224720827664335609236962600350409901130557945655466490308353887654080091579137561403602952202220552420938147431280980285494456125931768646260680344573282968154246499737663606499369437497099212491325442 W = true) (h : Ok E W s0 s) :
    Ok E W s0 (wrAeCtl n v s) := by
  unfold wrAeCtl
  repeat' first
    | exact sub_trans rfl hE | exact sub_trans rfl hW | exact sub_bit hW rfl | with_reducible first | assumption | apply State.when_ok | apply State.discardPending_ok | apply State.commit_ok | apply State.aeFaultClr_ok | apply State.writeRun_ok | apply State.writeBgEn_ok
    | intro _
    | dsimp only
    | with_reducible apply ok_ite
    | split

theorem execAeFaultClr_ok {s0 : State} {E W : Nat} {rq n s} (hE : sub 2097666 E = true) (hW : sub 1224720827664335609236962600350409901130557945655466490308353887654080091579137638871099294809478242098513307521637210176668241002637153566041376564001943473390085389098262010634312542262374505480454146 W = true) (h : Ok E W s0 s) :
    OkOut E W s0 (execAeFaultClr rq n s) := by
  unfold execAeFaultClr
  repeat' first
    | exact sub_trans rfl hE | exact sub_trans rfl hW | exact sub_bit hW rfl | with_reducible first | assumption | apply okOut_next | apply okOut_fault | apply State.write_ok | apply wrAeCtl_ok
    | intro _
    | dsimp only
    | with_reducible apply ok_ite
    | split

theorem State.pairEscalate_ok {s0 : State} {E W : Nat} {s n} (hE : sub 1614303746 E = true) (hW : sub 1224720827664335617602385987214491705952321107045573475637076125056164809698987380139168186799908171915521715740070333479521352407942198759457778144029262272094478867090590406582989238269451979647352960 W = true) (h : Ok E W s0 s) :
    Ok E W s0 (State.pairEscalate s n) := by
  unfold State.pairEscalate
  repeat' first
    | exact sub_trans rfl hE | exact sub_trans rfl hW | exact sub_bit hW rfl | with_reducible first | assumption | apply State.p_ok | apply State.raiseSt_ok | apply State.each_ok | apply State.levelStop_ok | apply State.configuredStop_ok | apply ws_f_GLB_REGION_STATE_CLUSTER_FAULT_SEEN
    | intro _
    | dsimp only
    | with_reducible apply ok_ite
    | split

theorem State.basePeriod_ok {s0 : State} {E W : Nat} {s n e t} (hE : sub 2097154 E = true) (hW : sub 93558940752261082123132761869353305180161806696448 W = true) (h : Ok E W s0 s) :
    Ok E W s0 (State.basePeriod s n e t) := by
  unfold State.basePeriod
  repeat' first
    | exact sub_trans rfl hE | exact sub_trans rfl hW | exact sub_bit hW rfl | with_reducible first | assumption | apply State.setAe_ok | apply State.p_ok | apply State.when_ok | apply State.on_ok | apply ws_f_AE_PERIOD_CNT_COUNT | apply ws_f_AE_STATUS_PERIOD_MISMATCH
    | intro _
    | dsimp only
    | with_reducible apply ok_ite
    | split

theorem State.releaseCmp_ok {s0 : State} {E W : Nat} {s n x} (hE : sub 1024 E = true) (hW : sub 0 W = true) (h : Ok E W s0 s) :
    Ok E W s0 (State.releaseCmp s n x) := by
  unfold State.releaseCmp
  repeat' first
    | exact sub_trans rfl hE | exact sub_trans rfl hW | exact sub_bit hW rfl | with_reducible first | assumption | apply State.noteShadow_ok | apply State.setPwm_ok
    | intro _
    | dsimp only
    | with_reducible apply ok_ite
    | split

theorem State.release_ok {s0 : State} {E W : Nat} {s n} (hE : sub 2098178 E = true) (hW : sub 40415787312923075104819765811563526737308412206630394180175678292584643022111539526318897422673278229890958865232272349421317052155748365326602451370915413845452103099608484595158347862349508719042101248 W = true) (h : Ok E W s0 s) :
    Ok E W s0 (State.release s n) := by
  unfold State.release
  repeat' first
    | exact sub_trans rfl hE | exact sub_trans rfl hW | exact sub_bit hW rfl | with_reducible first | assumption | apply State.setAe_ok | apply State.each_ok | apply State.p_ok | apply State.releaseCmp_ok | apply State.wr_ok | apply State.applyBursts_ok | apply ws_w_axisWord | apply ws_w_cmpField | apply wrF_of_wr
    | intro _
    | dsimp only
    | with_reducible apply ok_ite
    | split

theorem execAeBgEn_ok {s0 : State} {E W : Nat} {rq n v s} (hE : sub 2097666 E = true) (hW : sub 1224720827664335609236962600350409901130557945655466490308353887654080091579137638871099294809478242098513307521637210176668241002637153566041376564001943473390085389098262010634312542262374505480454146 W = true) (h : Ok E W s0 s) :
    OkOut E W s0 (execAeBgEn rq n v s) := by
  unfold execAeBgEn
  repeat' first
    | exact sub_trans rfl hE | exact sub_trans rfl hW | exact sub_bit hW rfl | with_reducible first | assumption | apply okOut_next | apply okOut_fault | apply State.write_ok | apply wrAeCtl_ok
    | intro _
    | dsimp only
    | with_reducible apply ok_ite
    | split

theorem execAeDiscardPending_ok {s0 : State} {E W : Nat} {rq n s} (hE : sub 2097666 E = true) (hW : sub 1224720827664335609236962600350409901130557945655466490308353887654080091579137638871099294809478242098513307521637210176668241002637153566041376564001943473390085389098262010634312542262374505480454146 W = true) (h : Ok E W s0 s) :
    OkOut E W s0 (execAeDiscardPending rq n s) := by
  unfold execAeDiscardPending
  repeat' first
    | exact sub_trans rfl hE | exact sub_trans rfl hW | exact sub_bit hW rfl | with_reducible first | assumption | apply okOut_next | apply okOut_fault | apply State.write_ok | apply wrAeCtl_ok
    | intro _
    | dsimp only
    | with_reducible apply ok_ite
    | split

theorem State.hostBlock_ok {s0 : State} {E W : Nat} {s rq m words} (hE : sub 2097154 E = true) (hW : sub 1224720827664335609236962600350409901130557945655466490308353887654080091579137561403602952202220552420938147431280980285494456125931768646260680344573194358953094033321469230156313571586348749061881856 W = true) (h : Ok E W s0 s) :
    Ok E W s0 (State.hostBlock s rq m words) := by
  unfold State.hostBlock
  repeat' first
    | exact sub_trans rfl hE | exact sub_trans rfl hW | exact sub_bit hW rfl | with_reducible first | assumption | apply State.writeBlock_ok
    | intro _
    | dsimp only
    | with_reducible apply ok_ite
    | split

theorem execAxisStateWrite_ok {s0 : State} {E W : Nat} {rq m i b s} (hE : sub 2097666 E = true) (hW : sub 1224720827664335609236962600350409901130557945655466490308353887654080091579137638871099294809478242098513307521637210176668241002637153566041376564001854864188932922682067634291256676351624042051010560 W = true) (h : Ok E W s0 s) :
    OkOut E W s0 (execAxisStateWrite rq m i b s) := by
  unfold execAxisStateWrite
  repeat' first
    | exact sub_trans rfl hE | exact sub_trans rfl hW | exact sub_bit hW rfl | with_reducible first | assumption | apply okOut_next | apply okOut_fault | apply State.write_ok | apply State.hostBlock_ok
    | intro _
    | dsimp only
    | with_reducible apply ok_ite
    | split

theorem State.yieldNow_ok {s0 : State} {E W : Nat} {s n} (hE : sub 2097154 E = true) (hW : sub 182693279852662497431245988019103539547368062976 W = true) (h : Ok E W s0 s) :
    Ok E W s0 (State.yieldNow s n) := by
  unfold State.yieldNow
  repeat' first
    | exact sub_trans rfl hE | exact sub_trans rfl hW | exact sub_bit hW rfl | with_reducible first | assumption | apply State.aeMode_ok | apply State.p_ok | apply State.setAe_ok | apply ws_f_AE_BG_STAT_PC
    | intro _
    | dsimp only
    | with_reducible apply ok_ite
    | split

theorem execBgYield_ok {s0 : State} {E W : Nat} {n k s} (hE : sub 2097154 E = true) (hW : sub 182693279852662497431245988019103539547368062976 W = true) (h : Ok E W s0 s) :
    OkOut E W s0 (execBgYield n k s) := by
  unfold execBgYield
  repeat' first
    | exact sub_trans rfl hE | exact sub_trans rfl hW | exact sub_bit hW rfl | with_reducible first | assumption | apply okOut_next | apply okOut_fault | apply State.setAe_ok | apply State.yieldNow_ok
    | intro _
    | dsimp only
    | with_reducible apply ok_ite
    | split

theorem execAeCommit_ok {s0 : State} {E W : Nat} {rq n s} (hE : sub 2097666 E = true) (hW : sub 1224720827664335609236962600350409901130557945655466490308353887654080091579137638871099294809478242098513307521637210176668241002637153566041376564001943473390085389098262010634312542262374505480454146 W = true) (h : Ok E W s0 s) :
    OkOut E W s0 (execAeCommit rq n s) := by
  unfold execAeCommit
  repeat' first
    | exact sub_trans rfl hE | exact sub_trans rfl hW | exact sub_bit hW rfl | with_reducible first | assumption | apply okOut_next | apply okOut_fault | apply State.write_ok | apply wrAeCtl_ok
    | intro _
    | dsimp only
    | with_reducible apply ok_ite
    | split

theorem State.slotOverrun_ok {s0 : State} {E W : Nat} {s n} (hE : sub 1613255170 E = true) (hW : sub 1224720827664336169985898516652274342663367149051722588814119417982320394791587920381908186685872565720987514571727090516539734494810415070788889253239686723269911175553129439484609321594086172888400000 W = true) (h : Ok E W s0 s) :
    Ok E W s0 (State.slotOverrun s n) := by
  unfold State.slotOverrun
  repeat' first
    | exact sub_trans rfl hE | exact sub_trans rfl hW | exact sub_bit hW rfl | with_reducible first | assumption | apply State.setAe_ok | apply State.overrunFx_ok | apply State.aeMode_ok
    | intro _
    | dsimp only
    | with_reducible apply ok_ite
    | split

theorem State.slotEnd_ok {s0 : State} {E W : Nat} {s n used} (hE : sub 2098178 E = true) (hW : sub 40415787312923075104819765811563526737308412206630394180175678292584643022111539526318897422673278229890958865232272349421317052155748365326602451370915414073811733932562065564484102974268730540281561088 W = true) (h : Ok E W s0 s) :
    Ok E W s0 (State.slotEnd s n used) := by
  unfold State.slotEnd
  repeat' first
    | exact sub_trans rfl hE | exact sub_trans rfl hW | exact sub_bit hW rfl | with_reducible first | assumption | apply State.p_ok | apply State.release_ok | apply State.aeMode_ok | apply State.setAe_ok | apply ws_f_AE_SLOT_STAT_MAX_USED
    | intro _
    | dsimp only
    | with_reducible apply ok_ite
    | split

theorem wrPm_ok {s0 : State} {E W : Nat} {n i v s} (hE : sub 2 E = true) (hW : sub 20065826040452474621738395244141115820123061381619162977212070095324448220432589806036630768881181530864650607514107580997541169167266097500334986765487216751231911798650098927024358732239190936548603330560 W = true) (h : Ok E W s0 s) :
    Ok E W s0 (wrPm n i v s) := by
  unfold wrPm
  repeat' first
    | exact sub_trans rfl hE | exact sub_trans rfl hW | exact sub_bit hW rfl | with_reducible first | assumption | apply State.on_ok | apply State.wr_ok | apply ws_f_AE_STATUS_PM_WRITE_REFUSED | apply ws_w_pmAddr | apply wrF_of_wr
    | intro _
    | dsimp only
    | with_reducible apply ok_ite
    | split

theorem execProgramMemoryWrite_ok {s0 : State} {E W : Nat} {rq n i v s} (hE : sub 514 E = true) (hW : sub 20065826040452474621738395244141115820123061381619162977212070095324448220432589806114098265223788788554328182674197937227432342952142802885254767461706645411737147637539459525428493675343956211841592459264 W = true) (h : Ok E W s0 s) :
    OkOut E W s0 (execProgramMemoryWrite rq n i v s) := by
  unfold execProgramMemoryWrite
  repeat' first
    | exact sub_trans rfl hE | exact sub_trans rfl hW | exact sub_bit hW rfl | with_reducible first | assumption | apply okOut_next | apply okOut_fault | apply State.write_ok | apply wrPm_ok
    | intro _
    | dsimp only
    | with_reducible apply ok_ite
    | split

theorem State.bgStop_ok {s0 : State} {E W : Nat} {s n} (hE : sub 2097154 E = true) (hW : sub 184114952359068824656518890058984872593374314496 W = true) (h : Ok E W s0 s) :
    Ok E W s0 (State.bgStop s n) := by
  unfold State.bgStop
  repeat' first
    | exact sub_trans rfl hE | exact sub_trans rfl hW | exact sub_bit hW rfl | with_reducible first | assumption | apply State.off_ok | apply State.setAe_ok | apply State.aeMode_ok | apply ws_f_AE_CTL_BG_EN
    | intro _
    | dsimp only
    | with_reducible apply ok_ite
    | split

theorem State.illegal_ok {s0 : State} {E W : Nat} {s n} (hE : sub 1613255170 E = true) (hW : sub 1224720827664336169985898516652274342663367149051722588814119417982320394791587920381908186685872565720987514571727090516539734494810415070788889253239686724697158868259089320542895291043581309271146624 W = true) (h : Ok E W s0 s) :
    Ok E W s0 (State.illegal s n) := by
  unfold State.illegal
  repeat' first
    | exact sub_trans rfl hE | exact sub_trans rfl hW | exact sub_bit hW rfl | with_reducible first | assumption | apply State.setAe_ok | apply State.slotOverrun_ok | apply State.raiseSt_ok | apply State.bgStop_ok
    | intro _
    | dsimp only
    | with_reducible apply ok_ite
    | split

theorem execAeRun_ok {s0 : State} {E W : Nat} {rq n v s} (hE : sub 2097666 E = true) (hW : sub 1224720827664335609236962600350409901130557945655466490308353887654080091579137638871099294809478242098513307521637210176668241002637153566041376564001943473390085389098262010634312542262374505480454146 W = true) (h : Ok E W s0 s) :
    OkOut E W s0 (execAeRun rq n v s) := by
  unfold execAeRun
  repeat' first
    | exact sub_trans rfl hE | exact sub_trans rfl hW | exact sub_bit hW rfl | with_reducible first | assumption | apply okOut_next | apply okOut_fault | apply State.write_ok | apply wrAeCtl_ok
    | intro _
    | dsimp only
    | with_reducible apply ok_ite
    | split

theorem execBasePeriodStart_ok {s0 : State} {E W : Nat} {n s} (hE : sub 2097154 E = true) (hW : sub 8324747580181447965125334206015214867843464950710274 W = true) (h : Ok E W s0 s) :
    OkOut E W s0 (execBasePeriodStart n s) := by
  unfold execBasePeriodStart
  repeat' first
    | exact sub_trans rfl hE | exact sub_trans rfl hW | exact sub_bit hW rfl | with_reducible first | assumption | apply okOut_next | apply okOut_fault | apply State.p_ok | apply State.on_ok | apply State.setAe_ok | apply State.wr_ok | apply State.basePeriod_ok | apply ws_f_AE_NBASE_CYCLES | apply ws_f_AE_PERIOD_CNT_COUNT | apply ws_f_AE_STATUS_REF_USED | apply ws_f_AE_STATUS_RUNNING | apply ws_f_AE_TABLE_INFO_T_LOOP | apply ws_r_AE_COMMIT_STATUS | apply wrF_of_wr
    | intro _
    | dsimp only
    | with_reducible apply ok_ite
    | split

end Sys2Proof.Machine
end

