-- ==== Sys2Proof/Laws/KeepEngineCore.lean ====
section
/-! SUPPORT. What the definitions of Machine/EngineCore.lean keep: the queue, and the canonical forms of the register window and of
the memories; one lemma for each. -/

namespace Sys2Proof.Machine

theorem State.issueX_ok {s0 : State} {E W : Nat} {s n i lat k} (hE : sub 2097152 E = true) (hW : sub 0 W = true) (h : Ok E W s0 s) :
    Ok E W s0 (State.issueX s n i lat k) := by
  unfold State.issueX
  repeat' first
    | exact sub_trans rfl hE | exact sub_trans rfl hW | exact sub_bit hW rfl | with_reducible first | assumption | apply State.setAe_ok
    | intro _
    | dsimp only
    | with_reducible apply ok_ite
    | split

theorem execMullo_ok {s0 : State} {E W : Nat} {n rd ra rb s} (hE : sub 2097152 E = true) (hW : sub 0 W = true) (h : Ok E W s0 s) :
    OkOut E W s0 (execMullo n rd ra rb s) := by
  unfold execMullo
  repeat' first
    | exact sub_trans rfl hE | exact sub_trans rfl hW | exact sub_bit hW rfl | with_reducible first | assumption | apply okOut_next | apply okOut_fault | apply State.issueX_ok
    | intro _
    | dsimp only
    | with_reducible apply ok_ite
    | split

theorem State.lateYield_ok {s0 : State} {E W : Nat} {s n} (hE : sub 2097154 E = true) (hW : sub 182693279852662497431245988019103539547368062976 W = true) (h : Ok E W s0 s) :
    Ok E W s0 (State.lateYield s n) := by
  unfold State.lateYield
  repeat' first
    | exact sub_trans rfl hE | exact sub_trans rfl hW | exact sub_bit hW rfl | with_reducible first | assumption | apply State.yieldNow_ok
    | intro _
    | dsimp only
    | with_reducible apply ok_ite
    | split

theorem State.issueY_ok {s0 : State} {E W : Nat} {s n i k} (hE : sub 2097682 E = true) (hW : sub 1224720827664335609236962600350409901130557945655466490308353887654080091579137561403602952202220552420938147431280980285494456125931768646260680344573194541646373885983966661402301590689888296429944832 W = true) (h : Ok E W s0 s) :
    Ok E W s0 (State.issueY s n i k) := by
  unfold State.issueY
  repeat' first
    | exact sub_trans rfl hE | exact sub_trans rfl hW | exact sub_bit hW rfl | with_reducible first | assumption | apply State.took_ok | apply State.setAe_ok | apply State.each_ok | apply State.wr_ok | apply State.when_ok | apply State.raiseSt_ok | apply State.lateYield_ok | apply ws_w_axisWord | apply wrF_of_wr
    | intro _
    | dsimp only
    | with_reducible apply ok_ite
    | split

theorem execStd_ok {s0 : State} {E W : Nat} {n rs addr s} (hE : sub 1613255186 E = true) (hW : sub 1224720827664336169985898516652274342663367149051722588814119417982320394791587920381908186685872565720987514571727090516539734494810415070788889253239686724702734054558721976328279220611743399647641728 W = true) (h : Ok E W s0 s) :
    OkOut E W s0 (execStd n rs addr s) := by
  unfold execStd
  repeat' first
    | exact sub_trans rfl hE | exact sub_trans rfl hW | exact sub_bit hW rfl | with_reducible first | assumption | apply okOut_next | apply okOut_fault | apply State.illegal_ok | apply State.issueY_ok
    | intro _
    | dsimp only
    | with_reducible apply ok_ite
    | split

theorem execExt_ok {s0 : State} {E W : Nat} {n rd acc sh s} (hE : sub 2097152 E = true) (hW : sub 0 W = true) (h : Ok E W s0 s) :
    OkOut E W s0 (execExt n rd acc sh s) := by
  unfold execExt
  repeat' first
    | exact sub_trans rfl hE | exact sub_trans rfl hW | exact sub_bit hW rfl | with_reducible first | assumption | apply okOut_next | apply okOut_fault | apply State.issueX_ok
    | intro _
    | dsimp only
    | with_reducible apply ok_ite
    | split

theorem execAadd_ok {s0 : State} {E W : Nat} {n acc ra sh s} (hE : sub 2097152 E = true) (hW : sub 0 W = true) (h : Ok E W s0 s) :
    OkOut E W s0 (execAadd n acc ra sh s) := by
  unfold execAadd
  repeat' first
    | exact sub_trans rfl hE | exact sub_trans rfl hW | exact sub_bit hW rfl | with_reducible first | assumption | apply okOut_next | apply okOut_fault | apply State.issueX_ok
    | intro _
    | dsimp only
    | with_reducible apply ok_ite
    | split

theorem execSub_ok {s0 : State} {E W : Nat} {n rd ra rb s} (hE : sub 2097152 E = true) (hW : sub 0 W = true) (h : Ok E W s0 s) :
    OkOut E W s0 (execSub n rd ra rb s) := by
  unfold execSub
  repeat' first
    | exact sub_trans rfl hE | exact sub_trans rfl hW | exact sub_bit hW rfl | with_reducible first | assumption | apply okOut_next | apply okOut_fault | apply State.issueX_ok
    | intro _
    | dsimp only
    | with_reducible apply ok_ite
    | split

theorem execSubs_ok {s0 : State} {E W : Nat} {n rd ra rb s} (hE : sub 2097152 E = true) (hW : sub 0 W = true) (h : Ok E W s0 s) :
    OkOut E W s0 (execSubs n rd ra rb s) := by
  unfold execSubs
  repeat' first
    | exact sub_trans rfl hE | exact sub_trans rfl hW | exact sub_bit hW rfl | with_reducible first | assumption | apply okOut_next | apply okOut_fault | apply State.issueX_ok
    | intro _
    | dsimp only
    | with_reducible apply ok_ite
    | split

theorem State.issueFlow_ok {s0 : State} {E W : Nat} {s n i k} (hE : sub 1613255186 E = true) (hW : sub 1224720827664336169985898516652274342663367149051722588814119417982320394791587920381908186685872565720987514571727090516539734494810415070788889253239686724702734054558721976328279220611743399647641728 W = true) (h : Ok E W s0 s) :
    Ok E W s0 (State.issueFlow s n i k) := by
  unfold State.issueFlow
  repeat' first
    | exact sub_trans rfl hE | exact sub_trans rfl hW | exact sub_bit hW rfl | with_reducible first | assumption | apply State.illegal_ok | apply State.issueY_ok
    | intro _
    | dsimp only
    | with_reducible apply ok_ite
    | split

theorem execLoopr_ok {s0 : State} {E W : Nat} {n l rs last s} (hE : sub 1613255186 E = true) (hW : sub 1224720827664336169985898516652274342663367149051722588814119417982320394791587920381908186685872565720987514571727090516539734494810415070788889253239686724702734054558721976328279220611743399647641728 W = true) (h : Ok E W s0 s) :
    OkOut E W s0 (execLoopr n l rs last s) := by
  unfold execLoopr
  repeat' first
    | exact sub_trans rfl hE | exact sub_trans rfl hW | exact sub_bit hW rfl | with_reducible first | assumption | apply okOut_next | apply okOut_fault | apply State.issueFlow_ok
    | intro _
    | dsimp only
    | with_reducible apply ok_ite
    | split

theorem execExtl_ok {s0 : State} {E W : Nat} {n rd acc s} (hE : sub 2097152 E = true) (hW : sub 0 W = true) (h : Ok E W s0 s) :
    OkOut E W s0 (execExtl n rd acc s) := by
  unfold execExtl
  repeat' first
    | exact sub_trans rfl hE | exact sub_trans rfl hW | exact sub_bit hW rfl | with_reducible first | assumption | apply okOut_next | apply okOut_fault | apply State.issueX_ok
    | intro _
    | dsimp only
    | with_reducible apply ok_ite
    | split

theorem execLdd_ok {s0 : State} {E W : Nat} {n rd addr s} (hE : sub 1613255186 E = true) (hW : sub 1224720827664336169985898516652274342663367149051722588814119417982320394791587920381908186685872565720987514571727090516539734494810415070788889253239686724702734054558721976328279220611743399647641728 W = true) (h : Ok E W s0 s) :
    OkOut E W s0 (execLdd n rd addr s) := by
  unfold execLdd
  repeat' first
    | exact sub_trans rfl hE | exact sub_trans rfl hW | exact sub_bit hW rfl | with_reducible first | assumption | apply okOut_next | apply okOut_fault | apply State.illegal_ok | apply State.issueY_ok
    | intro _
    | dsimp only
    | with_reducible apply ok_ite
    | split

theorem execTcos_ok {s0 : State} {E W : Nat} {n rd ra s} (hE : sub 2097168 E = true) (hW : sub 0 W = true) (h : Ok E W s0 s) :
    OkOut E W s0 (execTcos n rd ra s) := by
  unfold execTcos
  repeat' first
    | exact sub_trans rfl hE | exact sub_trans rfl hW | exact sub_bit hW rfl | with_reducible first | assumption | apply okOut_next | apply okOut_fault | apply State.took_ok | apply State.issueX_ok
    | intro _
    | dsimp only
    | with_reducible apply ok_ite
    | split

theorem execAld_ok {s0 : State} {E W : Nat} {n acc ra sh s} (hE : sub 2097152 E = true) (hW : sub 0 W = true) (h : Ok E W s0 s) :
    OkOut E W s0 (execAld n acc ra sh s) := by
  unfold execAld
  repeat' first
    | exact sub_trans rfl hE | exact sub_trans rfl hW | exact sub_bit hW rfl | with_reducible first | assumption | apply okOut_next | apply okOut_fault | apply State.issueX_ok
    | intro _
    | dsimp only
    | with_reducible apply ok_ite
    | split

theorem execMul_ok {s0 : State} {E W : Nat} {n acc ra rb s} (hE : sub 2097152 E = true) (hW : sub 0 W = true) (h : Ok E W s0 s) :
    OkOut E W s0 (execMul n acc ra rb s) := by
  unfold execMul
  repeat' first
    | exact sub_trans rfl hE | exact sub_trans rfl hW | exact sub_bit hW rfl | with_reducible first | assumption | apply okOut_next | apply okOut_fault | apply State.issueX_ok
    | intro _
    | dsimp only
    | with_reducible apply ok_ite
    | split

theorem execAnd_ok {s0 : State} {E W : Nat} {n rd ra rb s} (hE : sub 2097152 E = true) (hW : sub 0 W = true) (h : Ok E W s0 s) :
    OkOut E W s0 (execAnd n rd ra rb s) := by
  unfold execAnd
  repeat' first
    | exact sub_trans rfl hE | exact sub_trans rfl hW | exact sub_bit hW rfl | with_reducible first | assumption | apply okOut_next | apply okOut_fault | apply State.issueX_ok
    | intro _
    | dsimp only
    | with_reducible apply ok_ite
    | split

theorem execLoop_ok {s0 : State} {E W : Nat} {n l count last s} (hE : sub 1613255186 E = true) (hW : sub 1224720827664336169985898516652274342663367149051722588814119417982320394791587920381908186685872565720987514571727090516539734494810415070788889253239686724702734054558721976328279220611743399647641728 W = true) (h : Ok E W s0 s) :
    OkOut E W s0 (execLoop n l count last s) := by
  unfold execLoop
  repeat' first
    | exact sub_trans rfl hE | exact sub_trans rfl hW | exact sub_bit hW rfl | with_reducible first | assumption | apply okOut_next | apply okOut_fault | apply State.issueFlow_ok
    | intro _
    | dsimp only
    | with_reducible apply ok_ite
    | split

theorem execShr_ok {s0 : State} {E W : Nat} {n rd ra sh s} (hE : sub 2097152 E = true) (hW : sub 0 W = true) (h : Ok E W s0 s) :
    OkOut E W s0 (execShr n rd ra sh s) := by
  unfold execShr
  repeat' first
    | exact sub_trans rfl hE | exact sub_trans rfl hW | exact sub_bit hW rfl | with_reducible first | assumption | apply okOut_next | apply okOut_fault | apply State.issueX_ok
    | intro _
    | dsimp only
    | with_reducible apply ok_ite
    | split

theorem execXNop_ok {s0 : State} {E W : Nat} {n s} (hE : sub 2097152 E = true) (hW : sub 0 W = true) (h : Ok E W s0 s) :
    OkOut E W s0 (execXNop n s) := by
  unfold execXNop
  repeat' first
    | exact sub_trans rfl hE | exact sub_trans rfl hW | exact sub_bit hW rfl | with_reducible first | assumption | apply okOut_next | apply okOut_fault | apply State.issueX_ok
    | intro _
    | dsimp only
    | with_reducible apply ok_ite
    | split

theorem execCmp_ok {s0 : State} {E W : Nat} {n ra rb s} (hE : sub 2097152 E = true) (hW : sub 0 W = true) (h : Ok E W s0 s) :
    OkOut E W s0 (execCmp n ra rb s) := by
  unfold execCmp
  repeat' first
    | exact sub_trans rfl hE | exact sub_trans rfl hW | exact sub_bit hW rfl | with_reducible first | assumption | apply okOut_next | apply okOut_fault | apply State.issueX_ok
    | intro _
    | dsimp only
    | with_reducible apply ok_ite
    | split

theorem execRetb_ok {s0 : State} {E W : Nat} {n s} (hE : sub 1613255170 E = true) (hW : sub 1224720827664336169985898516652274342663367149051722588814119417982320394791587920381908186685872565720987514571727090516539734494810415070788889253239686724702734054558721976328279220611743399647641728 W = true) (h : Ok E W s0 s) :
    OkOut E W s0 (execRetb n s) := by
  unfold execRetb
  repeat' first
    | exact sub_trans rfl hE | exact sub_trans rfl hW | exact sub_bit hW rfl | with_reducible first | assumption | apply okOut_next | apply okOut_fault | apply State.illegal_ok | apply State.lateYield_ok | apply State.aeMode_ok | apply State.setAe_ok
    | intro _
    | dsimp only
    | with_reducible apply ok_ite
    | split

theorem execLds_ok {s0 : State} {E W : Nat} {n pair w s} (hE : sub 2097682 E = true) (hW : sub 1224720827664335609236962600350409901130557945655466490308353887654080091579137561403602952202220552420938147431280980285494456125931768646260680344573194541646373885983966661402301590689888296429944832 W = true) (h : Ok E W s0 s) :
    OkOut E W s0 (execLds n pair w s) := by
  unfold execLds
  repeat' first
    | exact sub_trans rfl hE | exact sub_trans rfl hW | exact sub_bit hW rfl | with_reducible first | assumption | apply okOut_next | apply okOut_fault | apply State.issueY_ok
    | intro _
    | dsimp only
    | with_reducible apply ok_ite
    | split

theorem execBrcc_ok {s0 : State} {E W : Nat} {n c t s} (hE : sub 1613255186 E = true) (hW : sub 1224720827664336169985898516652274342663367149051722588814119417982320394791587920381908186685872565720987514571727090516539734494810415070788889253239686724702734054558721976328279220611743399647641728 W = true) (h : Ok E W s0 s) :
    OkOut E W s0 (execBrcc n c t s) := by
  unfold execBrcc
  repeat' first
    | exact sub_trans rfl hE | exact sub_trans rfl hW | exact sub_bit hW rfl | with_reducible first | assumption | apply okOut_next | apply okOut_fault | apply State.issueFlow_ok
    | intro _
    | dsimp only
    | with_reducible apply ok_ite
    | split

theorem execAdds_ok {s0 : State} {E W : Nat} {n rd ra rb s} (hE : sub 2097152 E = true) (hW : sub 0 W = true) (h : Ok E W s0 s) :
    OkOut E W s0 (execAdds n rd ra rb s) := by
  unfold execAdds
  repeat' first
    | exact sub_trans rfl hE | exact sub_trans rfl hW | exact sub_bit hW rfl | with_reducible first | assumption | apply okOut_next | apply okOut_fault | apply State.issueX_ok
    | intro _
    | dsimp only
    | with_reducible apply ok_ite
    | split

theorem execShra_ok {s0 : State} {E W : Nat} {n rd ra sh s} (hE : sub 2097152 E = true) (hW : sub 0 W = true) (h : Ok E W s0 s) :
    OkOut E W s0 (execShra n rd ra sh s) := by
  unfold execShra
  repeat' first
    | exact sub_trans rfl hE | exact sub_trans rfl hW | exact sub_bit hW rfl | with_reducible first | assumption | apply okOut_next | apply okOut_fault | apply State.issueX_ok
    | intro _
    | dsimp only
    | with_reducible apply ok_ite
    | split

theorem execJmp_ok {s0 : State} {E W : Nat} {n t s} (hE : sub 1613255186 E = true) (hW : sub 1224720827664336169985898516652274342663367149051722588814119417982320394791587920381908186685872565720987514571727090516539734494810415070788889253239686724702734054558721976328279220611743399647641728 W = true) (h : Ok E W s0 s) :
    OkOut E W s0 (execJmp n t s) := by
  unfold execJmp
  repeat' first
    | exact sub_trans rfl hE | exact sub_trans rfl hW | exact sub_bit hW rfl | with_reducible first | assumption | apply okOut_next | apply okOut_fault | apply State.issueFlow_ok
    | intro _
    | dsimp only
    | with_reducible apply ok_ite
    | split

theorem execAmov_ok {s0 : State} {E W : Nat} {n acc ra rb s} (hE : sub 2097152 E = true) (hW : sub 0 W = true) (h : Ok E W s0 s) :
    OkOut E W s0 (execAmov n acc ra rb s) := by
  unfold execAmov
  repeat' first
    | exact sub_trans rfl hE | exact sub_trans rfl hW | exact sub_bit hW rfl | with_reducible first | assumption | apply okOut_next | apply okOut_fault | apply State.issueX_ok
    | intro _
    | dsimp only
    | with_reducible apply ok_ite
    | split

theorem execSts_ok {s0 : State} {E W : Nat} {n pair w s} (hE : sub 2097682 E = true) (hW : sub 1224720827664335609236962600350409901130557945655466490308353887654080091579137561403602952202220552420938147431280980285494456125931768646260680344573194541646373885983966661402301590689888296429944832 W = true) (h : Ok E W s0 s) :
    OkOut E W s0 (execSts n pair w s) := by
  unfold execSts
  repeat' first
    | exact sub_trans rfl hE | exact sub_trans rfl hW | exact sub_bit hW rfl | with_reducible first | assumption | apply okOut_next | apply okOut_fault | apply State.issueY_ok
    | intro _
    | dsimp only
    | with_reducible apply ok_ite
    | split

theorem execLd_ok {s0 : State} {E W : Nat} {n rd addr s} (hE : sub 2097682 E = true) (hW : sub 1224720827664335609236962600350409901130557945655466490308353887654080091579137561403602952202220552420938147431280980285494456125931768646260680344573194541646373885983966661402301590689888296429944832 W = true) (h : Ok E W s0 s) :
    OkOut E W s0 (execLd n rd addr s) := by
  unfold execLd
  repeat' first
    | exact sub_trans rfl hE | exact sub_trans rfl hW | exact sub_bit hW rfl | with_reducible first | assumption | apply okOut_next | apply okOut_fault | apply State.issueY_ok
    | intro _
    | dsimp only
    | with_reducible apply ok_ite
    | split

theorem execIllegalBundle_ok {s0 : State} {E W : Nat} {n s} (hE : sub 1613255170 E = true) (hW : sub 1224720827664336169985898516652274342663367149051722588814119417982320394791587920381908186685872565720987514571727090516539734494810415070788889253239686724697158868259089320542895291043581309271146624 W = true) (h : Ok E W s0 s) :
    OkOut E W s0 (execIllegalBundle n s) := by
  unfold execIllegalBundle
  repeat' first
    | exact sub_trans rfl hE | exact sub_trans rfl hW | exact sub_bit hW rfl | with_reducible first | assumption | apply okOut_next | apply okOut_fault | apply State.illegal_ok
    | intro _
    | dsimp only
    | with_reducible apply ok_ite
    | split

theorem execXor_ok {s0 : State} {E W : Nat} {n rd ra rb s} (hE : sub 2097152 E = true) (hW : sub 0 W = true) (h : Ok E W s0 s) :
    OkOut E W s0 (execXor n rd ra rb s) := by
  unfold execXor
  repeat' first
    | exact sub_trans rfl hE | exact sub_trans rfl hW | exact sub_bit hW rfl | with_reducible first | assumption | apply okOut_next | apply okOut_fault | apply State.issueX_ok
    | intro _
    | dsimp only
    | with_reducible apply ok_ite
    | split

theorem execYNop_ok {s0 : State} {E W : Nat} {n s} (hE : sub 2097682 E = true) (hW : sub 1224720827664335609236962600350409901130557945655466490308353887654080091579137561403602952202220552420938147431280980285494456125931768646260680344573194541646373885983966661402301590689888296429944832 W = true) (h : Ok E W s0 s) :
    OkOut E W s0 (execYNop n s) := by
  unfold execYNop
  repeat' first
    | exact sub_trans rfl hE | exact sub_trans rfl hW | exact sub_bit hW rfl | with_reducible first | assumption | apply okOut_next | apply okOut_fault | apply State.issueY_ok
    | intro _
    | dsimp only
    | with_reducible apply ok_ite
    | split

theorem execOr_ok {s0 : State} {E W : Nat} {n rd ra rb s} (hE : sub 2097152 E = true) (hW : sub 0 W = true) (h : Ok E W s0 s) :
    OkOut E W s0 (execOr n rd ra rb s) := by
  unfold execOr
  repeat' first
    | exact sub_trans rfl hE | exact sub_trans rfl hW | exact sub_bit hW rfl | with_reducible first | assumption | apply okOut_next | apply okOut_fault | apply State.issueX_ok
    | intro _
    | dsimp only
    | with_reducible apply ok_ite
    | split

theorem execShl_ok {s0 : State} {E W : Nat} {n rd ra sh s} (hE : sub 2097152 E = true) (hW : sub 0 W = true) (h : Ok E W s0 s) :
    OkOut E W s0 (execShl n rd ra sh s) := by
  unfold execShl
  repeat' first
    | exact sub_trans rfl hE | exact sub_trans rfl hW | exact sub_bit hW rfl | with_reducible first | assumption | apply okOut_next | apply okOut_fault | apply State.issueX_ok
    | intro _
    | dsimp only
    | with_reducible apply ok_ite
    | split

theorem execMts_ok {s0 : State} {E W : Nat} {n spr rs s} (hE : sub 2097682 E = true) (hW : sub 1224720827664335609236962600350409901130557945655466490308353887654080091579137561403602952202220552420938147431280980285494456125931768646260680344573194541646373885983966661402301590689888296429944832 W = true) (h : Ok E W s0 s) :
    OkOut E W s0 (execMts n spr rs s) := by
  unfold execMts
  repeat' first
    | exact sub_trans rfl hE | exact sub_trans rfl hW | exact sub_bit hW rfl | with_reducible first | assumption | apply okOut_next | apply okOut_fault | apply State.issueY_ok
    | intro _
    | dsimp only
    | with_reducible apply ok_ite
    | split

theorem execMfs_ok {s0 : State} {E W : Nat} {n rd spr s} (hE : sub 2097682 E = true) (hW : sub 1224720827664335609236962600350409901130557945655466490308353887654080091579137561403602952202220552420938147431280980285494456125931768646260680344573194541646373885983966661402301590689888296429944832 W = true) (h : Ok E W s0 s) :
    OkOut E W s0 (execMfs n rd spr s) := by
  unfold execMfs
  repeat' first
    | exact sub_trans rfl hE | exact sub_trans rfl hW | exact sub_bit hW rfl | with_reducible first | assumption | apply okOut_next | apply okOut_fault | apply State.issueY_ok
    | intro _
    | dsimp only
    | with_reducible apply ok_ite
    | split

theorem execMovi_ok {s0 : State} {E W : Nat} {n rd imm s} (hE : sub 2097152 E = true) (hW : sub 0 W = true) (h : Ok E W s0 s) :
    OkOut E W s0 (execMovi n rd imm s) := by
  unfold execMovi
  repeat' first
    | exact sub_trans rfl hE | exact sub_trans rfl hW | exact sub_bit hW rfl | with_reducible first | assumption | apply okOut_next | apply okOut_fault | apply State.issueX_ok
    | intro _
    | dsimp only
    | with_reducible apply ok_ite
    | split

theorem execWait_ok {s0 : State} {E W : Nat} {n s} (hE : sub 1613255170 E = true) (hW : sub 1224720827664336169985898516652274342663367149051722588814119417982320394791587920381908186685872565720987514571727090516539734494810415070788889253239686724697158868259089320542895291043581309271146624 W = true) (h : Ok E W s0 s) :
    OkOut E W s0 (execWait n s) := by
  unfold execWait
  repeat' first
    | exact sub_trans rfl hE | exact sub_trans rfl hW | exact sub_bit hW rfl | with_reducible first | assumption | apply okOut_next | apply okOut_fault | apply State.illegal_ok | apply State.aeMode_ok | apply State.setAe_ok
    | intro _
    | dsimp only
    | with_reducible apply ok_ite
    | split

theorem execRsq_ok {s0 : State} {E W : Nat} {n rd ra s} (hE : sub 2097168 E = true) (hW : sub 0 W = true) (h : Ok E W s0 s) :
    OkOut E W s0 (execRsq n rd ra s) := by
  unfold execRsq
  repeat' first
    | exact sub_trans rfl hE | exact sub_trans rfl hW | exact sub_bit hW rfl | with_reducible first | assumption | apply okOut_next | apply okOut_fault | apply State.took_ok | apply State.issueX_ok
    | intro _
    | dsimp only
    | with_reducible apply ok_ite
    | split

theorem execTsin_ok {s0 : State} {E W : Nat} {n rd ra s} (hE : sub 2097168 E = true) (hW : sub 0 W = true) (h : Ok E W s0 s) :
    OkOut E W s0 (execTsin n rd ra s) := by
  unfold execTsin
  repeat' first
    | exact sub_trans rfl hE | exact sub_trans rfl hW | exact sub_bit hW rfl | with_reducible first | assumption | apply okOut_next | apply okOut_fault | apply State.took_ok | apply State.issueX_ok
    | intro _
    | dsimp only
    | with_reducible apply ok_ite
    | split

theorem execDivs_ok {s0 : State} {E W : Nat} {n acc rb first s} (hE : sub 2097152 E = true) (hW : sub 0 W = true) (h : Ok E W s0 s) :
    OkOut E W s0 (execDivs n acc rb first s) := by
  unfold execDivs
  repeat' first
    | exact sub_trans rfl hE | exact sub_trans rfl hW | exact sub_bit hW rfl | with_reducible first | assumption | apply okOut_next | apply okOut_fault | apply State.issueX_ok
    | intro _
    | dsimp only
    | with_reducible apply ok_ite
    | split

theorem execMac_ok {s0 : State} {E W : Nat} {n acc ra rb s} (hE : sub 2097152 E = true) (hW : sub 0 W = true) (h : Ok E W s0 s) :
    OkOut E W s0 (execMac n acc ra rb s) := by
  unfold execMac
  repeat' first
    | exact sub_trans rfl hE | exact sub_trans rfl hW | exact sub_bit hW rfl | with_reducible first | assumption | apply okOut_next | apply okOut_fault | apply State.issueX_ok
    | intro _
    | dsimp only
    | with_reducible apply ok_ite
    | split

theorem execAsub_ok {s0 : State} {E W : Nat} {n acc ra sh s} (hE : sub 2097152 E = true) (hW : sub 0 W = true) (h : Ok E W s0 s) :
    OkOut E W s0 (execAsub n acc ra sh s) := by
  unfold execAsub
  repeat' first
    | exact sub_trans rfl hE | exact sub_trans rfl hW | exact sub_bit hW rfl | with_reducible first | assumption | apply okOut_next | apply okOut_fault | apply State.issueX_ok
    | intro _
    | dsimp only
    | with_reducible apply ok_ite
    | split

theorem execMin_ok {s0 : State} {E W : Nat} {n rd ra rb s} (hE : sub 2097152 E = true) (hW : sub 0 W = true) (h : Ok E W s0 s) :
    OkOut E W s0 (execMin n rd ra rb s) := by
  unfold execMin
  repeat' first
    | exact sub_trans rfl hE | exact sub_trans rfl hW | exact sub_bit hW rfl | with_reducible first | assumption | apply okOut_next | apply okOut_fault | apply State.issueX_ok
    | intro _
    | dsimp only
    | with_reducible apply ok_ite
    | split

theorem execMax_ok {s0 : State} {E W : Nat} {n rd ra rb s} (hE : sub 2097152 E = true) (hW : sub 0 W = true) (h : Ok E W s0 s) :
    OkOut E W s0 (execMax n rd ra rb s) := by
  unfold execMax
  repeat' first
    | exact sub_trans rfl hE | exact sub_trans rfl hW | exact sub_bit hW rfl | with_reducible first | assumption | apply okOut_next | apply okOut_fault | apply State.issueX_ok
    | intro _
    | dsimp only
    | with_reducible apply ok_ite
    | split

theorem execNeg_ok {s0 : State} {E W : Nat} {n rd ra s} (hE : sub 2097152 E = true) (hW : sub 0 W = true) (h : Ok E W s0 s) :
    OkOut E W s0 (execNeg n rd ra s) := by
  unfold execNeg
  repeat' first
    | exact sub_trans rfl hE | exact sub_trans rfl hW | exact sub_bit hW rfl | with_reducible first | assumption | apply okOut_next | apply okOut_fault | apply State.issueX_ok
    | intro _
    | dsimp only
    | with_reducible apply ok_ite
    | split

theorem execAbs_ok {s0 : State} {E W : Nat} {n rd ra s} (hE : sub 2097152 E = true) (hW : sub 0 W = true) (h : Ok E W s0 s) :
    OkOut E W s0 (execAbs n rd ra s) := by
  unfold execAbs
  repeat' first
    | exact sub_trans rfl hE | exact sub_trans rfl hW | exact sub_bit hW rfl | with_reducible first | assumption | apply okOut_next | apply okOut_fault | apply State.issueX_ok
    | intro _
    | dsimp only
    | with_reducible apply ok_ite
    | split

theorem execMovhi_ok {s0 : State} {E W : Nat} {n rd imm s} (hE : sub 2097152 E = true) (hW : sub 0 W = true) (h : Ok E W s0 s) :
    OkOut E W s0 (execMovhi n rd imm s) := by
  unfold execMovhi
  repeat' first
    | exact sub_trans rfl hE | exact sub_trans rfl hW | exact sub_bit hW rfl | with_reducible first | assumption | apply okOut_next | apply okOut_fault | apply State.issueX_ok
    | intro _
    | dsimp only
    | with_reducible apply ok_ite
    | split

theorem execMsu_ok {s0 : State} {E W : Nat} {n acc ra rb s} (hE : sub 2097152 E = true) (hW : sub 0 W = true) (h : Ok E W s0 s) :
    OkOut E W s0 (execMsu n acc ra rb s) := by
  unfold execMsu
  repeat' first
    | exact sub_trans rfl hE | exact sub_trans rfl hW | exact sub_bit hW rfl | with_reducible first | assumption | apply okOut_next | apply okOut_fault | apply State.issueX_ok
    | intro _
    | dsimp only
    | with_reducible apply ok_ite
    | split

theorem execAdd_ok {s0 : State} {E W : Nat} {n rd ra rb s} (hE : sub 2097152 E = true) (hW : sub 0 W = true) (h : Ok E W s0 s) :
    OkOut E W s0 (execAdd n rd ra rb s) := by
  unfold execAdd
  repeat' first
    | exact sub_trans rfl hE | exact sub_trans rfl hW | exact sub_bit hW rfl | with_reducible first | assumption | apply okOut_next | apply okOut_fault | apply State.issueX_ok
    | intro _
    | dsimp only
    | with_reducible apply ok_ite
    | split

theorem execSt_ok {s0 : State} {E W : Nat} {n rs addr s} (hE : sub 2097682 E = true) (hW : sub 1224720827664335609236962600350409901130557945655466490308353887654080091579137561403602952202220552420938147431280980285494456125931768646260680344573194541646373885983966661402301590689888296429944832 W = true) (h : Ok E W s0 s) :
    OkOut E W s0 (execSt n rs addr s) := by
  unfold execSt
  repeat' first
    | exact sub_trans rfl hE | exact sub_trans rfl hW | exact sub_bit hW rfl | with_reducible first | assumption | apply okOut_next | apply okOut_fault | apply State.issueY_ok
    | intro _
    | dsimp only
    | with_reducible apply ok_ite
    | split

theorem execEnd_ok {s0 : State} {E W : Nat} {n s} (hE : sub 1613256194 E = true) (hW : sub 40415787312923075665568701727865391178841221410026650278681443822912883325323989885297202657156930243191008232372718459652362330524627011751130660279581906256868094101136820879410080604190585643499257984 W = true) (h : Ok E W s0 s) :
    OkOut E W s0 (execEnd n s) := by
  unfold execEnd
  repeat' first
    | exact sub_trans rfl hE | exact sub_trans rfl hW | exact sub_bit hW rfl | with_reducible first | assumption | apply okOut_next | apply okOut_fault | apply State.illegal_ok | apply State.slotEnd_ok | apply State.setAe_ok
    | intro _
    | dsimp only
    | with_reducible apply ok_ite
    | split

end Sys2Proof.Machine
end

