-- ==== Sys2Proof/Laws/KeepLibrary.lean ====
section
/-! SUPPORT. What the definitions of Machine/Library.lean keep: the queue, and the canonical forms of the register window and of
the memories; one lemma for each. -/

namespace Sys2Proof.Machine

theorem State.setBi_ok {s0 : State} {E W : Nat} {s m o x} (hE : sub 2 E = true) (hW : sub 1224720827664335609236962600350409901130557945655466490308353887654080091579137561403602952202220552420938147431280980285494456125931768646260680344573194358953094033321469230156313571586348749061881856 W = true) (h : Ok E W s0 s) :
    Ok E W s0 (State.setBi s m o x) := by
  unfold State.setBi
  repeat' first
    | exact sub_trans rfl hE | exact sub_trans rfl hW | exact sub_bit hW rfl | with_reducible first | assumption | apply State.wr_ok | apply ws_w_axisWord | apply wrF_of_wr
    | intro _
    | dsimp only
    | with_reducible apply ok_ite
    | split

theorem State.setBw_ok {s0 : State} {E W : Nat} {s m o v} (hE : sub 2 E = true) (hW : sub 1224720827664335609236962600350409901130557945655466490308353887654080091579137561403602952202220552420938147431280980285494456125931768646260680344573194358953094033321469230156313571586348749061881856 W = true) (h : Ok E W s0 s) :
    Ok E W s0 (State.setBw s m o v) := by
  unfold State.setBw
  repeat' first
    | exact sub_trans rfl hE | exact sub_trans rfl hW | exact sub_bit hW rfl | with_reducible first | assumption | apply State.wr_ok | apply ws_w_axisWord | apply wrF_of_wr
    | intro _
    | dsimp only
    | with_reducible apply ok_ite
    | split

theorem State.setBf_ok {s0 : State} {E W : Nat} {s m o lo w x} (hE : sub 2 E = true) (hW : sub 1224720827664335609236962600350409901130557945655466490308353887654080091579137561403602952202220552420938147431280980285494456125931768646260680344573194358953094033321469230156313571586348749061881856 W = true) (h : Ok E W s0 s) :
    Ok E W s0 (State.setBf s m o lo w x) := by
  unfold State.setBf
  repeat' first
    | exact sub_trans rfl hE | exact sub_trans rfl hW | exact sub_bit hW rfl | with_reducible first | assumption | apply State.setBw_ok
    | intro _
    | dsimp only
    | with_reducible apply ok_ite
    | split

theorem State.currentRun_ok {s0 : State} {E W : Nat} {s m tied} (hE : sub 2097682 E = true) (hW : sub 1224720827664335609236962600350409901130557945655466490308353887654080091579137561403602952202220552420938147431280980285494456125931768646260680344573194358953094033321469230156313571586348749061881856 W = true) (h : Ok E W s0 s) :
    Ok E W s0 (State.currentRun s m tied).1 := by
  unfold State.currentRun
  repeat' first
    | exact sub_trans rfl hE | exact sub_trans rfl hW | exact sub_bit hW rfl | with_reducible first | assumption | apply State.took_ok | apply State.when_ok | apply State.setBi_ok | apply State.setBf_ok | apply State.setAe_ok | apply State.each_ok | apply State.raiseSt_ok
    | intro _
    | dsimp only
    | with_reducible apply ok_ite
    | split

theorem State.currentRun_ok' {s0 t0 : State} {E W : Nat} {s m tied y0} (hE : sub 2097682 E = true) (hW : sub 1224720827664335609236962600350409901130557945655466490308353887654080091579137561403602952202220552420938147431280980285494456125931768646260680344573194358953094033321469230156313571586348749061881856 W = true) (h : Ok E W s0 s) (e : State.currentRun s m tied = (t0, y0)) :
    Ok E W s0 t0 := by
  have r := State.currentRun_ok (s0 := s0) (E := E) (W := W) (s := s) (m := m) (tied := tied) hE hW h
  rw [e] at r
  exact r

theorem State.openCore_ok {s0 : State} {E W : Nat} {s n} (hE : sub 2097168 E = true) (hW : sub 0 W = true) (h : Ok E W s0 s) :
    Ok E W s0 (State.openCore s n) := by
  unfold State.openCore
  repeat' first
    | exact sub_trans rfl hE | exact sub_trans rfl hW | exact sub_bit hW rfl | with_reducible first | assumption | apply State.setAe_ok
    | intro _
    | dsimp only
    | with_reducible apply ok_ite
    | ((with_reducible apply ok_mk) <;> first | exact Or.inr (sub_bit hE rfl) | exact Or.inr (Or.inr (sub_bit hE rfl)) | with_reducible first | exact Or.inl rfl | exact rfl | exact Or.inr (Or.inl rfl) | assumption | apply ok_ite | apply State.setAe_ok)
    | split

theorem State.deriveGains_ok {s0 : State} {E W : Nat} {s m t} (hE : sub 4194306 E = true) (hW : sub 1224720827664335609236962600350409901130557945655466490308353887654080091579137561403602952202220552420938147431280980285494456125931768646260680344573194358953094033321469230156313571586348749061881856 W = true) (h : Ok E W s0 s) :
    Ok E W s0 (State.deriveGains s m t) := by
  unfold State.deriveGains
  repeat' first
    | exact sub_trans rfl hE | exact sub_trans rfl hW | exact sub_bit hW rfl | with_reducible first | assumption | apply State.setSup_ok | apply State.setBf_ok
    | intro _
    | dsimp only
    | with_reducible apply ok_ite
    | split

theorem State.observe_ok {s0 : State} {E W : Nat} {s m t} (hE : sub 4194306 E = true) (hW : sub 1224720827664335609236962600350409901130557945655466490308353887654080091579137561403602952202220552420938147431280980285494456125931768646260680344573194358953094033321469230156313571586348749061881856 W = true) (h : Ok E W s0 s) :
    Ok E W s0 (State.observe s m t) := by
  unfold State.observe
  repeat' first
    | exact sub_trans rfl hE | exact sub_trans rfl hW | exact sub_bit hW rfl | with_reducible first | assumption | apply State.deriveGains_ok | apply State.setBw_ok | apply State.setBi_ok | apply State.wr64_ok | apply State.setBf_ok | apply State.setSup_ok | apply State.when_ok | apply ws_w_axisWord | apply wrF_of_wr
    | intro _
    | dsimp only
    | with_reducible apply ok_ite
    | split

theorem State.outerRun_ok {s0 : State} {E W : Nat} {s m t div} (hE : sub 4194306 E = true) (hW : sub 1224720827664335609236962600350409901130557945655466490308353887654080091579137561403602952202220552420938147431280980285494456125931768646260680344573194358953094033321469230156313571586348749061881856 W = true) (h : Ok E W s0 s) :
    Ok E W s0 (State.outerRun s m t div) := by
  unfold State.outerRun
  repeat' first
    | exact sub_trans rfl hE | exact sub_trans rfl hW | exact sub_bit hW rfl | with_reducible first | assumption | apply State.observe_ok | apply State.setBf_ok | apply State.setSup_ok | apply State.when_ok | apply State.setBi_ok | apply State.setBw_ok
    | intro _
    | dsimp only
    | with_reducible apply ok_ite
    | split

theorem State.residuals_ok {s0 : State} {E W : Nat} {s m} (hE : sub 4194306 E = true) (hW : sub 1224720827664335609236962600350409901130557945655466490308353887654080091579137561403602952202220552420938147431280980285494456125931768646260680344573194358953094033321469230156313571586348749061881856 W = true) (h : Ok E W s0 s) :
    Ok E W s0 (State.residuals s m) := by
  unfold State.residuals
  repeat' first
    | exact sub_trans rfl hE | exact sub_trans rfl hW | exact sub_bit hW rfl | with_reducible first | assumption | apply State.setBi_ok | apply State.setBf_ok | apply State.when_ok | apply State.setSup_ok
    | intro _
    | dsimp only
    | with_reducible apply ok_ite
    | split

theorem State.supClear_ok {s0 : State} {E W : Nat} {s m} (hE : sub 2 E = true) (hW : sub 1224720827664335609236962600350409901130557945655466490308353887654080091579137561403602952202220552420938147431280980285494456125931768646260680344573194358953094033321469230156313571586348749061881856 W = true) (h : Ok E W s0 s) :
    Ok E W s0 (State.supClear s m) := by
  unfold State.supClear
  repeat' first
    | exact sub_trans rfl hE | exact sub_trans rfl hW | exact sub_bit hW rfl | with_reducible first | assumption | apply State.setBf_ok
    | intro _
    | dsimp only
    | with_reducible apply ok_ite
    | split

theorem State.setRun_ok {s0 : State} {E W : Nat} {s m o st reason} (hE : sub 2 E = true) (hW : sub 1224720827664335609236962600350409901130557945655466490308353887654080091579137561403602952202220552420938147431280980285494456125931768646260680344573194358953094033321469230156313571586348749061881856 W = true) (h : Ok E W s0 s) :
    Ok E W s0 (State.setRun s m o st reason) := by
  unfold State.setRun
  repeat' first
    | exact sub_trans rfl hE | exact sub_trans rfl hW | exact sub_bit hW rfl | with_reducible first | assumption | apply State.setBf_ok
    | intro _
    | dsimp only
    | with_reducible apply ok_ite
    | split

theorem State.genEnd_ok {s0 : State} {E W : Nat} {s m st reason} (hE : sub 4194306 E = true) (hW : sub 1224720827664335609236962600350409901130557945655466490308353887654080091579137561403602952202220552420938147431280980285494456125931768646260680344573194358953094033321469230156313571586348749061881856 W = true) (h : Ok E W s0 s) :
    Ok E W s0 (State.genEnd s m st reason) := by
  unfold State.genEnd
  repeat' first
    | exact sub_trans rfl hE | exact sub_trans rfl hW | exact sub_bit hW rfl | with_reducible first | assumption | apply State.setSup_ok | apply State.setBf_ok | apply State.setRun_ok | apply State.setBi_ok
    | intro _
    | dsimp only
    | with_reducible apply ok_ite
    | split

theorem State.genMark_ok {s0 : State} {E W : Nat} {s m} (hE : sub 4194306 E = true) (hW : sub 1224720827664335609236962600350409901130557945655466490308353887654080091579137561403602952202220552420938147431280980285494456125931768646260680344573194358953094033321469230156313571586348749061881856 W = true) (h : Ok E W s0 s) :
    Ok E W s0 (State.genMark s m) := by
  unfold State.genMark
  repeat' first
    | exact sub_trans rfl hE | exact sub_trans rfl hW | exact sub_bit hW rfl | with_reducible first | assumption | apply State.setSup_ok | apply State.setBw_ok
    | intro _
    | dsimp only
    | with_reducible apply ok_ite
    | split

theorem State.genRun_ok {s0 : State} {E W : Nat} {s m t} (hE : sub 4194322 E = true) (hW : sub 1224720827664335609236962600350409901130557945655466490308353887654080091579137561403602952202220552420938147431280980285494456125931768646260680344573194358953094033321469230156313571586348749061881856 W = true) (h : Ok E W s0 s) :
    Ok E W s0 (State.genRun s m t) := by
  unfold State.genRun
  repeat' first
    | exact sub_trans rfl hE | exact sub_trans rfl hW | exact sub_bit hW rfl | with_reducible first | assumption | apply State.genEnd_ok | apply State.setBi_ok | apply State.setSup_ok | apply State.took_ok | apply State.setBf_ok | apply State.when_ok | apply State.genMark_ok | apply State.setBw_ok
    | intro _
    | dsimp only
    | with_reducible apply ok_ite
    | split

theorem State.genStart_ok {s0 : State} {E W : Nat} {s m g} (hE : sub 4194306 E = true) (hW : sub 1224720827664335609236962600350409901130557945655466490308353887654080091579137561403602952202220552420938147431280980285494456125931768646260680344573194358953094033321469230156313571586348749061881856 W = true) (h : Ok E W s0 s) :
    Ok E W s0 (State.genStart s m g) := by
  unfold State.genStart
  repeat' first
    | exact sub_trans rfl hE | exact sub_trans rfl hW | exact sub_bit hW rfl | with_reducible first | assumption | apply State.genMark_ok | apply State.setRun_ok | apply State.setSup_ok
    | intro _
    | dsimp only
    | with_reducible apply ok_ite
    | split

theorem State.stageStart_ok {s0 : State} {E W : Nat} {s m stage} (hE : sub 4194322 E = true) (hW : sub 1224720827664335609236962600350409901130557945655466490308353887654080091579137561403602952202220552420938147431280980285494456125931768646260680344573194358953094033321469230156313571586348749061881856 W = true) (h : Ok E W s0 s) :
    Ok E W s0 (State.stageStart s m stage) := by
  unfold State.stageStart
  repeat' first
    | exact sub_trans rfl hE | exact sub_trans rfl hW | exact sub_bit hW rfl | with_reducible first | assumption | apply State.setRun_ok | apply State.took_ok | apply State.setBf_ok | apply State.setSup_ok | apply State.genStart_ok
    | intro _
    | dsimp only
    | with_reducible apply ok_ite
    | split

theorem State.setGains_ok {s0 : State} {E W : Nat} {s m l} (hE : sub 2 E = true) (hW : sub 1224720827664335609236962600350409901130557945655466490308353887654080091579137561403602952202220552420938147431280980285494456125931768646260680344573194358953094033321469230156313571586348749061881856 W = true) (h : Ok E W s0 s) :
    Ok E W s0 (State.setGains s m l) := by
  unfold State.setGains
  repeat' first
    | exact sub_trans rfl hE | exact sub_trans rfl hW | exact sub_bit hW rfl | with_reducible first | assumption | apply State.each_ok | apply State.setBw_ok | apply State.setBf_ok
    | intro _
    | dsimp only
    | with_reducible apply ok_ite
    | split

theorem State.setEight_ok {s0 : State} {E W : Nat} {s m o l} (hE : sub 2 E = true) (hW : sub 1224720827664335609236962600350409901130557945655466490308353887654080091579137561403602952202220552420938147431280980285494456125931768646260680344573194358953094033321469230156313571586348749061881856 W = true) (h : Ok E W s0 s) :
    Ok E W s0 (State.setEight s m o l) := by
  unfold State.setEight
  repeat' first
    | exact sub_trans rfl hE | exact sub_trans rfl hW | exact sub_bit hW rfl | with_reducible first | assumption | apply State.each_ok | apply State.setBw_ok
    | intro _
    | dsimp only
    | with_reducible apply ok_ite
    | split

theorem State.atCommand_ok {s0 : State} {E W : Nat} {s m} (hE : sub 4194322 E = true) (hW : sub 1224720827664335609236962600350409901130557945655466490308353887654080091579137561403602952202220552420938147431280980285494456125931768646260680344573194358953094033321469230156313571586348749061881856 W = true) (h : Ok E W s0 s) :
    Ok E W s0 (State.atCommand s m) := by
  unfold State.atCommand
  repeat' first
    | exact sub_trans rfl hE | exact sub_trans rfl hW | exact sub_bit hW rfl | with_reducible first | assumption | apply State.setBf_ok | apply State.stageStart_ok | apply State.setRun_ok | apply State.setGains_ok | apply State.setEight_ok | apply State.when_ok | apply State.genEnd_ok | apply State.setSup_ok
    | intro _
    | dsimp only
    | with_reducible apply ok_ite
    | split

theorem State.tsCommand_ok {s0 : State} {E W : Nat} {s m t} (hE : sub 4194306 E = true) (hW : sub 1224720827664335609236962600350409901130557945655466490308353887654080091579137561403602952202220552420938147431280980285494456125931768646260680344573194358953094033321469230156313571586348749061881856 W = true) (h : Ok E W s0 s) :
    Ok E W s0 (State.tsCommand s m t) := by
  unfold State.tsCommand
  repeat' first
    | exact sub_trans rfl hE | exact sub_trans rfl hW | exact sub_bit hW rfl | with_reducible first | assumption | apply State.setBf_ok | apply State.setRun_ok | apply State.genStart_ok | apply State.genEnd_ok
    | intro _
    | dsimp only
    | with_reducible apply ok_ite
    | split

theorem State.superviseRun_ok {s0 : State} {E W : Nat} {s m t} (hE : sub 4194322 E = true) (hW : sub 1224720827664335609236962600350409901130557945655466490308353887654080091579137561403602952202220552420938147431280980285494456125931768646260680344573194358953094033321469230156313571586348749061881856 W = true) (h : Ok E W s0 s) :
    Ok E W s0 (State.superviseRun s m t) := by
  unfold State.superviseRun
  repeat' first
    | exact sub_trans rfl hE | exact sub_trans rfl hW | exact sub_bit hW rfl | with_reducible first | assumption | apply State.residuals_ok | apply State.supClear_ok | apply State.genEnd_ok | apply State.genRun_ok | apply State.atCommand_ok | apply State.tsCommand_ok | apply State.setSup_ok
    | intro _
    | dsimp only
    | with_reducible apply ok_ite
    | split

theorem State.libEffect_ok {s0 : State} {E W : Nat} {s n f prog} (hE : sub 6291986 E = true) (hW : sub 1224720827664335609236962600350409901130557945655466490308353887654080091579137561403602952202220552420938147431280980285494456125931768646260680344573194358953094033321469230156313571586348749061881856 W = true) (h : Ok E W s0 s) :
    Ok E W s0 (State.libEffect s n f prog) := by
  unfold State.libEffect
  repeat' first
    | exact sub_trans rfl hE | exact sub_trans rfl hW | exact sub_bit hW rfl | with_reducible first | assumption | apply State.currentRun_ok | refine State.currentRun_ok' ?_ ?_ ?_ (by assumption) | apply State.openCore_ok | apply State.outerRun_ok | apply State.superviseRun_ok
    | intro _
    | dsimp only
    | with_reducible apply ok_ite
    | split

theorem State.libDue_ok {s0 : State} {E W : Nat} {s n} (hE : sub 6293010 E = true) (hW : sub 40415787312923075104819765811563526737308412206630394180175678292584643022111539526318897422673278229890958865232272349421317052155748365326602451370915414073811733932562065564484102974268730540281561088 W = true) (h : Ok E W s0 s) :
    Ok E W s0 (State.libDue s n) := by
  unfold State.libDue
  repeat' first
    | exact sub_trans rfl hE | exact sub_trans rfl hW | exact sub_bit hW rfl | with_reducible first | assumption | apply State.setAe_ok | apply State.libEffect_ok | apply State.slotEnd_ok
    | intro _
    | dsimp only
    | with_reducible apply ok_ite
    | ((with_reducible apply ok_mk) <;> first | exact Or.inr (sub_bit hE rfl) | exact Or.inr (Or.inr (sub_bit hE rfl)) | with_reducible first | exact Or.inl rfl | exact rfl | exact Or.inr (Or.inl rfl) | assumption | apply ok_ite | apply State.setAe_ok | apply State.libEffect_ok | apply State.slotEnd_ok)
    | split

theorem State.libsDue_ok {s0 : State} {E W : Nat} {s} (hE : sub 6293010 E = true) (hW : sub 40415787312923075104819765811563526737308412206630394180175678292584643022111539526318897422673278229890958865232272349421317052155748365326602451370915414073811733932562065564484102974268730540281561088 W = true) (h : Ok E W s0 s) :
    Ok E W s0 (State.libsDue s) := by
  unfold State.libsDue
  repeat' first
    | exact sub_trans rfl hE | exact sub_trans rfl hW | exact sub_bit hW rfl | with_reducible first | assumption | apply State.each_ok | apply State.libDue_ok
    | intro _
    | dsimp only
    | with_reducible apply ok_ite
    | split

theorem State.hostWord_ok {s0 : State} {E W : Nat} {s rq m o v} (hE : sub 2097666 E = true) (hW : sub 1224720827664335609236962600350409901130557945655466490308353887654080091579137638871099294809478242098513307521637210176668241002637153566041376564001854864188932922682067634291256676351624042051010560 W = true) (h : Ok E W s0 s) :
    Ok E W s0 (State.hostWord s rq m o v) := by
  unfold State.hostWord
  repeat' first
    | exact sub_trans rfl hE | exact sub_trans rfl hW | exact sub_bit hW rfl | with_reducible first | assumption | apply State.write_ok | apply State.hostBlock_ok
    | intro _
    | dsimp only
    | with_reducible apply ok_ite
    | split

theorem execSupFaultClr_ok {s0 : State} {E W : Nat} {rq m s} (hE : sub 2097666 E = true) (hW : sub 1224720827664335609236962600350409901130557945655466490308353887654080091579137638871099294809478242098513307521637210176668241002637153566041376564001854864188932922682067634291256676351624042051010560 W = true) (h : Ok E W s0 s) :
    OkOut E W s0 (execSupFaultClr rq m s) := by
  unfold execSupFaultClr
  repeat' first
    | exact sub_trans rfl hE | exact sub_trans rfl hW | exact sub_bit hW rfl | with_reducible first | assumption | apply okOut_next | apply okOut_fault | apply State.hostWord_ok
    | intro _
    | dsimp only
    | with_reducible apply ok_ite
    | split

theorem State.deriveWeK_ok {s0 : State} {E W : Nat} {s m} (hE : sub 4194322 E = true) (hW : sub 1224720827664335609236962600350409901130557945655466490308353887654080091579137561403602952202220552420938147431280980285494456125931768646260680344573194358953094033321469230156313571586348749061881856 W = true) (h : Ok E W s0 s) :
    Ok E W s0 (State.deriveWeK s m) := by
  unfold State.deriveWeK
  repeat' first
    | exact sub_trans rfl hE | exact sub_trans rfl hW | exact sub_bit hW rfl | with_reducible first | assumption | apply State.setSup_ok | apply State.setBw_ok | apply State.took_ok
    | intro _
    | dsimp only
    | with_reducible apply ok_ite
    | split

theorem State.libStart_ok {s0 : State} {E W : Nat} {s n f prog} (hE : sub 6291986 E = true) (hW : sub 1224720827664335609236962600350409901130557945655466490308353887654080091579137561403602952202220552420938147431280980285494456125931768646260680344573194358953094033321469230156313571586348749061881856 W = true) (h : Ok E W s0 s) :
    Ok E W s0 (State.libStart s n f prog) := by
  unfold State.libStart
  repeat' first
    | exact sub_trans rfl hE | exact sub_trans rfl hW | exact sub_bit hW rfl | with_reducible first | assumption | apply State.deriveWeK_ok | apply State.currentRun_ok | refine State.currentRun_ok' ?_ ?_ ?_ (by assumption) | apply State.setAe_ok | apply State.took_ok
    | intro _
    | dsimp only
    | with_reducible apply ok_ite
    | ((with_reducible apply ok_mk) <;> first | exact Or.inr (sub_bit hE rfl) | exact Or.inr (Or.inr (sub_bit hE rfl)) | with_reducible first | exact Or.inl rfl | exact rfl | exact Or.inr (Or.inl rfl) | assumption | apply ok_ite | apply State.deriveWeK_ok | apply State.currentRun_ok | refine State.currentRun_ok' ?_ ?_ ?_ (by assumption) | apply State.setAe_ok | apply State.took_ok)
    | split

theorem execAtAbort_ok {s0 : State} {E W : Nat} {rq m seq s} (hE : sub 2097666 E = true) (hW : sub 1224720827664335609236962600350409901130557945655466490308353887654080091579137638871099294809478242098513307521637210176668241002637153566041376564001854864188932922682067634291256676351624042051010560 W = true) (h : Ok E W s0 s) :
    OkOut E W s0 (execAtAbort rq m seq s) := by
  unfold execAtAbort
  repeat' first
    | exact sub_trans rfl hE | exact sub_trans rfl hW | exact sub_bit hW rfl | with_reducible first | assumption | apply okOut_next | apply okOut_fault | apply State.hostWord_ok
    | intro _
    | dsimp only
    | with_reducible apply ok_ite
    | split

theorem State.toBackground_ok {s0 : State} {E W : Nat} {s n} (hE : sub 2097154 E = true) (hW : sub 182687704666362864775460604089535377456991567872 W = true) (h : Ok E W s0 s) :
    Ok E W s0 (State.toBackground s n) := by
  unfold State.toBackground
  repeat' first
    | exact sub_trans rfl hE | exact sub_trans rfl hW | exact sub_bit hW rfl | with_reducible first | assumption | apply State.aeMode_ok | apply State.bgEntry_ok | apply State.setAe_ok
    | intro _
    | dsimp only
    | with_reducible apply ok_ite
    | split

theorem execSlotWindowEnd_ok {s0 : State} {E W : Nat} {n s} (hE : sub 6293010 E = true) (hW : sub 40415787312923075104819765811563526737308412206630394180175678292584643022111539526318897422673278229890958865232272349421317052155748365326602451370915414073811733932562065564484102974268730540281561088 W = true) (h : Ok E W s0 s) :
    OkOut E W s0 (execSlotWindowEnd n s) := by
  unfold execSlotWindowEnd
  repeat' first
    | exact sub_trans rfl hE | exact sub_trans rfl hW | exact sub_bit hW rfl | with_reducible first | assumption | apply okOut_next | apply okOut_fault | apply State.libDue_ok | apply State.toBackground_ok | apply State.applyBursts_ok | apply State.setAe_ok
    | intro _
    | dsimp only
    | with_reducible apply ok_ite
    | split

theorem execAtUndo_ok {s0 : State} {E W : Nat} {rq m seq s} (hE : sub 2097666 E = true) (hW : sub 1224720827664335609236962600350409901130557945655466490308353887654080091579137638871099294809478242098513307521637210176668241002637153566041376564001854864188932922682067634291256676351624042051010560 W = true) (h : Ok E W s0 s) :
    OkOut E W s0 (execAtUndo rq m seq s) := by
  unfold execAtUndo
  repeat' first
    | exact sub_trans rfl hE | exact sub_trans rfl hW | exact sub_bit hW rfl | with_reducible first | assumption | apply okOut_next | apply okOut_fault | apply State.hostWord_ok
    | intro _
    | dsimp only
    | with_reducible apply ok_ite
    | split

theorem execSupScan_ok {s0 : State} {E W : Nat} {m s} (hE : sub 1618498050 E = true) (hW : sub 1224720827664335617602385987214491705952321107045573475637076124870094096279312016158541291980579011120989527404116911990128753643427611921889816596043259931777845135674906127191257426188879167930499200 W = true) (h : Ok E W s0 s) :
    OkOut E W s0 (execSupScan m s) := by
  unfold execSupScan
  repeat' first
    | exact sub_trans rfl hE | exact sub_trans rfl hW | exact sub_bit hW rfl | with_reducible first | assumption | apply okOut_next | apply okOut_fault | apply State.setSup_ok | apply State.when_ok | apply State.raise_ok | apply State.chanEvent_ok | apply State.configuredStop_ok | apply State.offStop_ok | apply State.on_ok | apply ws_f_AX_PWM_STATUS_LAUNCH_OFF
    | intro _
    | dsimp only
    | with_reducible apply ok_ite
    | split

theorem execTsAbort_ok {s0 : State} {E W : Nat} {rq m seq s} (hE : sub 2097666 E = true) (hW : sub 1224720827664335609236962600350409901130557945655466490308353887654080091579137638871099294809478242098513307521637210176668241002637153566041376564001854864188932922682067634291256676351624042051010560 W = true) (h : Ok E W s0 s) :
    OkOut E W s0 (execTsAbort rq m seq s) := by
  unfold execTsAbort
  repeat' first
    | exact sub_trans rfl hE | exact sub_trans rfl hW | exact sub_bit hW rfl | with_reducible first | assumption | apply okOut_next | apply okOut_fault | apply State.hostWord_ok
    | intro _
    | dsimp only
    | with_reducible apply ok_ite
    | split

theorem execAtMechanics_ok {s0 : State} {E W : Nat} {rq m seq ticket s} (hE : sub 2097666 E = true) (hW : sub 1224720827664335609236962600350409901130557945655466490308353887654080091579137638871099294809478242098513307521637210176668241002637153566041376564001854864188932922682067634291256676351624042051010560 W = true) (h : Ok E W s0 s) :
    OkOut E W s0 (execAtMechanics rq m seq ticket s) := by
  unfold execAtMechanics
  repeat' first
    | exact sub_trans rfl hE | exact sub_trans rfl hW | exact sub_bit hW rfl | with_reducible first | assumption | apply okOut_next | apply okOut_fault | apply State.hostWord_ok
    | intro _
    | dsimp only
    | with_reducible apply ok_ite
    | split

theorem execSlotOverrun_ok {s0 : State} {E W : Nat} {n s} (hE : sub 1617450514 E = true) (hW : sub 40415787312923075665568701727865391178841221410026650278681443822912883325323989885297202657156930243191008232372718459652362330524627011751130660279581906255440846408430860998351794634741090507116511360 W = true) (h : Ok E W s0 s) :
    OkOut E W s0 (execSlotOverrun n s) := by
  unfold execSlotOverrun
  repeat' first
    | exact sub_trans rfl hE | exact sub_trans rfl hW | exact sub_bit hW rfl | with_reducible first | assumption | apply okOut_next | apply okOut_fault | apply State.libDue_ok | apply State.setAe_ok | apply State.when_ok | apply State.openCore_ok | apply State.applyBursts_ok | apply State.slotOverrun_ok
    | intro _
    | dsimp only
    | with_reducible apply ok_ite
    | split

theorem execTsStart_ok {s0 : State} {E W : Nat} {rq m seq ticket s} (hE : sub 2097666 E = true) (hW : sub 1224720827664335609236962600350409901130557945655466490308353887654080091579137638871099294809478242098513307521637210176668241002637153566041376564001854864188932922682067634291256676351624042051010560 W = true) (h : Ok E W s0 s) :
    OkOut E W s0 (execTsStart rq m seq ticket s) := by
  unfold execTsStart
  repeat' first
    | exact sub_trans rfl hE | exact sub_trans rfl hW | exact sub_bit hW rfl | with_reducible first | assumption | apply okOut_next | apply okOut_fault | apply State.hostWord_ok
    | intro _
    | dsimp only
    | with_reducible apply ok_ite
    | split

theorem execObsReset_ok {s0 : State} {E W : Nat} {rq m s} (hE : sub 2097666 E = true) (hW : sub 1224720827664335609236962600350409901130557945655466490308353887654080091579137638871099294809478242098513307521637210176668241002637153566041376564001854864188932922682067634291256676351624042051010560 W = true) (h : Ok E W s0 s) :
    OkOut E W s0 (execObsReset rq m s) := by
  unfold execObsReset
  repeat' first
    | exact sub_trans rfl hE | exact sub_trans rfl hW | exact sub_bit hW rfl | with_reducible first | assumption | apply okOut_next | apply okOut_fault | apply State.hostWord_ok
    | intro _
    | dsimp only
    | with_reducible apply ok_ite
    | split

theorem execAtCurrentPlant_ok {s0 : State} {E W : Nat} {rq m seq ticket s} (hE : sub 2097666 E = true) (hW : sub 1224720827664335609236962600350409901130557945655466490308353887654080091579137638871099294809478242098513307521637210176668241002637153566041376564001854864188932922682067634291256676351624042051010560 W = true) (h : Ok E W s0 s) :
    OkOut E W s0 (execAtCurrentPlant rq m seq ticket s) := by
  unfold execAtCurrentPlant
  repeat' first
    | exact sub_trans rfl hE | exact sub_trans rfl hW | exact sub_bit hW rfl | with_reducible first | assumption | apply okOut_next | apply okOut_fault | apply State.hostWord_ok
    | intro _
    | dsimp only
    | with_reducible apply ok_ite
    | split

theorem execAtResonance_ok {s0 : State} {E W : Nat} {rq m seq ticket s} (hE : sub 2097666 E = true) (hW : sub 1224720827664335609236962600350409901130557945655466490308353887654080091579137638871099294809478242098513307521637210176668241002637153566041376564001854864188932922682067634291256676351624042051010560 W = true) (h : Ok E W s0 s) :
    OkOut E W s0 (execAtResonance rq m seq ticket s) := by
  unfold execAtResonance
  repeat' first
    | exact sub_trans rfl hE | exact sub_trans rfl hW | exact sub_bit hW rfl | with_reducible first | assumption | apply okOut_next | apply okOut_fault | apply State.hostWord_ok
    | intro _
    | dsimp only
    | with_reducible apply ok_ite
    | split

theorem execAtApply_ok {s0 : State} {E W : Nat} {rq m seq number s} (hE : sub 2097666 E = true) (hW : sub 1224720827664335609236962600350409901130557945655466490308353887654080091579137638871099294809478242098513307521637210176668241002637153566041376564001854864188932922682067634291256676351624042051010560 W = true) (h : Ok E W s0 s) :
    OkOut E W s0 (execAtApply rq m seq number s) := by
  unfold execAtApply
  repeat' first
    | exact sub_trans rfl hE | exact sub_trans rfl hW | exact sub_bit hW rfl | with_reducible first | assumption | apply okOut_next | apply okOut_fault | apply State.hostWord_ok
    | intro _
    | dsimp only
    | with_reducible apply ok_ite
    | split

theorem execSlotStart_ok {s0 : State} {E W : Nat} {n k prog s} (hE : sub 1617450514 E = true) (hW : sub 15089785317652279041969365134833702256271137257624398883187734015316249048649766344412770279318043078391678963867953404207808239205974200137002370734394994189436469188313168286644766474044274246435762864256 W = true) (h : Ok E W s0 s) :
    OkOut E W s0 (execSlotStart n k prog s) := by
  unfold execSlotStart
  repeat' first
    | exact sub_trans rfl hE | exact sub_trans rfl hW | exact sub_bit hW rfl | with_reducible first | assumption | apply okOut_next | apply okOut_fault | apply State.libDue_ok | apply State.slotStart_ok | refine State.slotStart_ok' ?_ ?_ ?_ (by assumption) | apply State.libStart_ok
    | intro _
    | dsimp only
    | with_reducible apply ok_ite
    | split

theorem execAtStageDone_ok {s0 : State} {E W : Nat} {m r s} (hE : sub 4194306 E = true) (hW : sub 1224720827664335609236962600350409901130557945655466490308353887654080091579137561403602952202220552420938147431280980285494456125931768646260680344573194358953094033321469230156313571586348749061881856 W = true) (h : Ok E W s0 s) :
    OkOut E W s0 (execAtStageDone m r s) := by
  unfold execAtStageDone
  repeat' first
    | exact sub_trans rfl hE | exact sub_trans rfl hW | exact sub_bit hW rfl | with_reducible first | assumption | apply okOut_next | apply okOut_fault | apply State.setSup_ok | apply State.setRun_ok | apply State.setBw_ok | apply State.each_ok | apply State.setEight_ok | apply State.setBf_ok
    | intro _
    | dsimp only
    | with_reducible apply ok_ite
    | split

end Sys2Proof.Machine
end

