-- ==== Sys2Proof/Laws/KeepProfiles.lean ====
section
/-! SUPPORT. What the definitions of Machine/Profiles.lean keep: the queue, and the canonical forms of the register window and of
the memories; one lemma for each. -/

namespace Sys2Proof.Machine

theorem State.pendCmd_ok {s0 : State} {E W : Nat} {s k x} (hE : sub 524288 E = true) (hW : sub 0 W = true) (h : Ok E W s0 s) :
    Ok E W s0 (State.pendCmd s k x) := by
  unfold State.pendCmd
  repeat' first
    | exact sub_trans rfl hE | exact sub_trans rfl hW | exact sub_bit hW rfl | with_reducible first | assumption | apply State.setChan_ok
    | intro _
    | dsimp only
    | with_reducible apply ok_ite
    | split

theorem State.cmdStop_ok {s0 : State} {E W : Nat} {s k quick} (hE : sub 1612185602 E = true) (hW : sub 3514776401986872174070733209129673327241950873673372369609965291102998109899599898686750536018664738175823507031436345285886995950785809465168335327905536016512 W = true) (h : Ok E W s0 s) :
    Ok E W s0 (State.cmdStop s k quick) := by
  unfold State.cmdStop
  repeat' first
    | exact sub_trans rfl hE | exact sub_trans rfl hW | exact sub_bit hW rfl | with_reducible first | assumption | apply State.askGroupStop_ok | apply State.pendCmd_ok | apply State.emptyQueue_ok
    | intro _
    | dsimp only
    | with_reducible apply ok_ite
    | split

theorem State.unhold_ok {s0 : State} {E W : Nat} {s k} (hE : sub 2621442 E = true) (hW : sub 1224720827664335609236962600350409901130557973114657130830792747581683287904710430481344152775442189998791984173453713876118664616170331292078900253758439924876526181809421229022888821882461913522110464 W = true) (h : Ok E W s0 s) :
    Ok E W s0 (State.unhold s k) := by
  unfold State.unhold
  repeat' first
    | exact sub_trans rfl hE | exact sub_trans rfl hW | exact sub_bit hW rfl | with_reducible first | assumption | apply State.setChan_ok | apply State.off_ok | apply State.writeBlock_ok | apply ws_f_LSP_CH_STATUS_HOLD
    | intro _
    | dsimp only
    | with_reducible apply ok_ite
    | split

theorem State.setQueue_ok {s0 : State} {E W : Nat} {s k q} (hE : sub 524290 E = true) (hW : sub 3514776401986872174070733209129673327241950873673372369609965291102998109899599898686750536018664732148375711432438199315006457855854921632037902485050909261824 W = true) (h : Ok E W s0 s) :
    Ok E W s0 (State.setQueue s k q) := by
  unfold State.setQueue
  repeat' first
    | exact sub_trans rfl hE | exact sub_trans rfl hW | exact sub_bit hW rfl | with_reducible first | assumption | apply State.p_ok | apply State.setChan_ok | apply ws_f_LSP_CH_STATUS_QLEVEL
    | intro _
    | dsimp only
    | with_reducible apply ok_ite
    | split

theorem wrLspCmd_ok {s0 : State} {E W : Nat} {k v s} (hE : sub 1614283266 E = true) (hW : sub 1224720827664335609236962600350409901130625203510541619957036422827159091529183758695956106236969094676679517790620318820665126904011149247269097852979651390805683616536991384861900396061373803461083264 W = true) (h : Ok E W s0 s) :
    Ok E W s0 (wrLspCmd k v s) := by
  unfold wrLspCmd
  repeat' first
    | exact sub_trans rfl hE | exact sub_trans rfl hW | exact sub_bit hW rfl | with_reducible first | assumption | apply State.when_ok | apply State.chanEvent_ok | apply State.on_ok | apply State.cmdStop_ok | apply State.pendCmd_ok | apply State.unhold_ok | apply State.setQueue_ok | apply State.setChanState_ok | apply State.setChan_ok | apply State.holdMove_ok | apply ws_f_LSP_CH_STATUS_CMD_REFUSED | apply ws_f_LSP_CH_STATUS_LIM_BOTH | apply ws_f_LSP_CH_STATUS_QUEUE_FULL
    | intro _
    | dsimp only
    | with_reducible apply ok_ite
    | split

theorem execHome_ok {s0 : State} {E W : Nat} {rq k s} (hE : sub 1614283266 E = true) (hW : sub 1224720827664335609236962600350409901130625203510541619957036422827159091529183836163452448844226784354254677880976548711838911780716534167049794072408311896041522505897589788996843500826649096450211968 W = true) (h : Ok E W s0 s) :
    OkOut E W s0 (execHome rq k s) := by
  unfold execHome
  repeat' first
    | exact sub_trans rfl hE | exact sub_trans rfl hW | exact sub_bit hW rfl | with_reducible first | assumption | apply okOut_next | apply okOut_fault | apply State.write_ok | apply wrLspCmd_ok
    | intro _
    | dsimp only
    | with_reducible apply ok_ite
    | split

theorem State.groupMove_ok {s0 : State} {E W : Nat} {s g op at_} (hE : sub 3670018 E = true) (hW : sub 1224720827664335609236962600350409901807250847668784486825587728359951433792645356922648838423362292261501733868975474869309397876051635173868656713071057258336518518442451580854204017811357517440090112 W = true) (h : Ok E W s0 s) :
    Ok E W s0 (State.groupMove s g op at_) := by
  unfold State.groupMove
  repeat' first
    | exact sub_trans rfl hE | exact sub_trans rfl hW | exact sub_bit hW rfl | with_reducible first | assumption | apply State.on_ok | apply State.when_ok | apply State.each_ok | apply State.off_ok | apply State.setChanState_ok | apply State.unhold_ok | apply State.p_ok | apply State.setGrp_ok | apply ws_f_LSP_CH_STATUS_AT_TARGET | apply ws_f_LSP_GRP_STATUS_CMD_REFUSED | apply ws_f_LSP_GRP_STATUS_GROUP_LIMITED | apply ws_f_LSP_GRP_STATUS_LEADER | apply ws_f_LSP_GRP_STATUS_MEMBERS | apply ws_f_LSP_GRP_STATUS_STATE
    | intro _
    | dsimp only
    | with_reducible apply ok_ite
    | split

theorem wrGrpCmd_ok {s0 : State} {E W : Nat} {g v s} (hE : sub 3670018 E = true) (hW : sub 1224720827664335609236962600350409901807250847668784486825587728359951433792645356922648838423362292261501733868975474869309397876051635173868656713071057258336518518442451580854204017811357517440090112 W = true) (h : Ok E W s0 s) :
    Ok E W s0 (wrGrpCmd g v s) := by
  unfold wrGrpCmd
  repeat' first
    | exact sub_trans rfl hE | exact sub_trans rfl hW | exact sub_bit hW rfl | with_reducible first | assumption | apply State.groupMove_ok | apply State.askGroupStop_ok | apply State.on_ok | apply ws_f_LSP_GRP_STATUS_CMD_REFUSED
    | intro _
    | dsimp only
    | with_reducible apply ok_ite
    | split

theorem execGroupQuickStop_ok {s0 : State} {E W : Nat} {rq g s} (hE : sub 3670530 E = true) (hW : sub 1224720827664335609236962600350409901807250847668784486825587728359951433792645434390145181030619981939076893959331704760483182752757020093649352932499717763572357407803049984989147122576632810429218816 W = true) (h : Ok E W s0 s) :
    OkOut E W s0 (execGroupQuickStop rq g s) := by
  unfold execGroupQuickStop
  repeat' first
    | exact sub_trans rfl hE | exact sub_trans rfl hW | exact sub_bit hW rfl | with_reducible first | assumption | apply okOut_next | apply okOut_fault | apply State.write_ok | apply wrGrpCmd_ok
    | intro _
    | dsimp only
    | with_reducible apply ok_ite
    | split

theorem execApplyLimits_ok {s0 : State} {E W : Nat} {rq k s} (hE : sub 1614283266 E = true) (hW : sub 1224720827664335609236962600350409901130625203510541619957036422827159091529183836163452448844226784354254677880976548711838911780716534167049794072408311896041522505897589788996843500826649096450211968 W = true) (h : Ok E W s0 s) :
    OkOut E W s0 (execApplyLimits rq k s) := by
  unfold execApplyLimits
  repeat' first
    | exact sub_trans rfl hE | exact sub_trans rfl hW | exact sub_bit hW rfl | with_reducible first | assumption | apply okOut_next | apply okOut_fault | apply State.write_ok | apply wrLspCmd_ok
    | intro _
    | dsimp only
    | with_reducible apply ok_ite
    | split

theorem execQuickStop_ok {s0 : State} {E W : Nat} {rq k s} (hE : sub 1614283266 E = true) (hW : sub 1224720827664335609236962600350409901130625203510541619957036422827159091529183836163452448844226784354254677880976548711838911780716534167049794072408311896041522505897589788996843500826649096450211968 W = true) (h : Ok E W s0 s) :
    OkOut E W s0 (execQuickStop rq k s) := by
  unfold execQuickStop
  repeat' first
    | exact sub_trans rfl hE | exact sub_trans rfl hW | exact sub_bit hW rfl | with_reducible first | assumption | apply okOut_next | apply okOut_fault | apply State.write_ok | apply wrLspCmd_ok
    | intro _
    | dsimp only
    | with_reducible apply ok_ite
    | split

theorem execPlanEccError_ok {s0 : State} {E W : Nat} {k s} (hE : sub 1613255170 E = true) (hW : sub 1224720827664335617602385987214491705491632334484350166037276981683049553931055031244425028751061640485537359143356552369623706688876251095208771984998618505778389864127901574366591359548814690745319552 W = true) (h : Ok E W s0 s) :
    OkOut E W s0 (execPlanEccError k s) := by
  unfold execPlanEccError
  repeat' first
    | exact sub_trans rfl hE | exact sub_trans rfl hW | exact sub_bit hW rfl | with_reducible first | assumption | apply okOut_next | apply okOut_fault | apply State.offStop_ok | apply State.homeFail_ok | apply State.axisFault_ok | apply State.auxFault_ok | apply State.chanFault_ok
    | intro _
    | dsimp only
    | with_reducible apply ok_ite
    | split

theorem execMoveRelative_ok {s0 : State} {E W : Nat} {rq k queued start s} (hE : sub 1614283266 E = true) (hW : sub 1224720827664335609236962600350409901130625203510541619957036422827159091529183836163452448844226784354254677880976548711838911780716534167049794072408311896041522505897589788996843500826649096450211968 W = true) (h : Ok E W s0 s) :
    OkOut E W s0 (execMoveRelative rq k queued start s) := by
  unfold execMoveRelative
  repeat' first
    | exact sub_trans rfl hE | exact sub_trans rfl hW | exact sub_bit hW rfl | with_reducible first | assumption | apply okOut_next | apply okOut_fault | apply State.write_ok | apply wrLspCmd_ok
    | intro _
    | dsimp only
    | with_reducible apply ok_ite
    | split

theorem execMoveAbsolute_ok {s0 : State} {E W : Nat} {rq k queued start s} (hE : sub 1614283266 E = true) (hW : sub 1224720827664335609236962600350409901130625203510541619957036422827159091529183836163452448844226784354254677880976548711838911780716534167049794072408311896041522505897589788996843500826649096450211968 W = true) (h : Ok E W s0 s) :
    OkOut E W s0 (execMoveAbsolute rq k queued start s) := by
  unfold execMoveAbsolute
  repeat' first
    | exact sub_trans rfl hE | exact sub_trans rfl hW | exact sub_bit hW rfl | with_reducible first | assumption | apply okOut_next | apply okOut_fault | apply State.write_ok | apply wrLspCmd_ok
    | intro _
    | dsimp only
    | with_reducible apply ok_ite
    | split

theorem State.finish_ok {s0 : State} {E W : Nat} {s k t} (hE : sub 1611157506 E = true) (hW : sub 8365423386864081804361070493056211500461181593423049264705177656505052491837989287283698788239891367169395490659092353157460185971169449121810010046276999998853064995957330768841146496 W = true) (h : Ok E W s0 s) :
    Ok E W s0 (State.finish s k t) := by
  unfold State.finish
  repeat' first
    | exact sub_trans rfl hE | exact sub_trans rfl hW | exact sub_bit hW rfl | with_reducible first | assumption | apply State.setChan_ok | apply State.setChanState_ok | apply State.on_ok | apply State.when_ok | apply State.outputsOff_ok | apply ws_f_LSP_CH_STATUS_AT_TARGET
    | intro _
    | dsimp only
    | with_reducible apply ok_ite
    | split

theorem State.applyHard_ok {s0 : State} {E W : Nat} {s k t} (hE : sub 1611157506 E = true) (hW : sub 8365423386864081804361070489623812721542604984309315584120570060801571595151368552009354394323547401972658033420852452877828101074773748908674020520842115518014376619129583081541861504 W = true) (h : Ok E W s0 s) :
    Ok E W s0 (State.applyHard s k t) := by
  unfold State.applyHard
  repeat' first
    | exact sub_trans rfl hE | exact sub_trans rfl hW | exact sub_bit hW rfl | with_reducible first | assumption | apply State.setChan_ok | apply State.dropFollower_ok | apply State.setChanState_ok | apply State.when_ok | apply State.outputsOff_ok
    | intro _
    | dsimp only
    | with_reducible apply ok_ite
    | split

theorem execHoldEntry_ok {s0 : State} {E W : Nat} {k s} (hE : sub 2621442 E = true) (hW : sub 1224720827664335609236962600350409901130557973114657130830792747581683287904710430481344152775442189998791984173453713876118664616170331292078900253758439924876526181809421229022888821882461913522110464 W = true) (h : Ok E W s0 s) :
    OkOut E W s0 (execHoldEntry k s) := by
  unfold execHoldEntry
  repeat' first
    | exact sub_trans rfl hE | exact sub_trans rfl hW | exact sub_bit hW rfl | with_reducible first | assumption | apply okOut_next | apply okOut_fault | apply State.setChan_ok | apply State.on_ok | apply State.writeBlock_ok | apply ws_f_LSP_CH_STATUS_HOLD
    | intro _
    | dsimp only
    | with_reducible apply ok_ite
    | split

theorem State.startMove_ok {s0 : State} {E W : Nat} {s k t m} (hE : sub 1611137026 E = true) (hW : sub 56239854830620020089989222296474313932479848696424029566464141889377562529985297207014069856118966447678947826673705075440002424782609492267643159617814732472448 W = true) (h : Ok E W s0 s) :
    Ok E W s0 (State.startMove s k t m) := by
  unfold State.startMove
  repeat' first
    | exact sub_trans rfl hE | exact sub_trans rfl hW | exact sub_bit hW rfl | with_reducible first | assumption | apply State.holdMove_ok | apply State.off_ok | apply State.setChan_ok | apply State.setChanState_ok | apply ws_f_LSP_CH_STATUS_AT_TARGET
    | intro _
    | dsimp only
    | with_reducible apply ok_ite
    | split

theorem execGroupAbsolute_ok {s0 : State} {E W : Nat} {rq g start s} (hE : sub 3670530 E = true) (hW : sub 1224720827664335609236962600350409901807250847668784486825587728359951433792645434390145181030619981939076893959331704760483182752757020093649352932499717763572357407803049984989147122576632810429218816 W = true) (h : Ok E W s0 s) :
    OkOut E W s0 (execGroupAbsolute rq g start s) := by
  unfold execGroupAbsolute
  repeat' first
    | exact sub_trans rfl hE | exact sub_trans rfl hW | exact sub_bit hW rfl | with_reducible first | assumption | apply okOut_next | apply okOut_fault | apply State.write_ok | apply wrGrpCmd_ok
    | intro _
    | dsimp only
    | with_reducible apply ok_ite
    | split

theorem execGroupStop_ok {s0 : State} {E W : Nat} {rq g s} (hE : sub 3670530 E = true) (hW : sub 1224720827664335609236962600350409901807250847668784486825587728359951433792645434390145181030619981939076893959331704760483182752757020093649352932499717763572357407803049984989147122576632810429218816 W = true) (h : Ok E W s0 s) :
    OkOut E W s0 (execGroupStop rq g s) := by
  unfold execGroupStop
  repeat' first
    | exact sub_trans rfl hE | exact sub_trans rfl hW | exact sub_bit hW rfl | with_reducible first | assumption | apply okOut_next | apply okOut_fault | apply State.write_ok | apply wrGrpCmd_ok
    | intro _
    | dsimp only
    | with_reducible apply ok_ite
    | split

theorem State.groupCount_ok {s0 : State} {E W : Nat} {s k old} (hE : sub 2 E = true) (hW : sub 115172193140305827399949785796761135587064246228529065807379342658863042065190089480167441564259605943037975312218134915154131611020654072038617988630148194691448832 W = true) (h : Ok E W s0 s) :
    Ok E W s0 (State.groupCount s k old) := by
  unfold State.groupCount
  repeat' first
    | exact sub_trans rfl hE | exact sub_trans rfl hW | exact sub_bit hW rfl | with_reducible first | assumption | apply State.p_ok | apply ws_f_LSP_GRP_STATUS_MEMBERS
    | intro _
    | dsimp only
    | with_reducible apply ok_ite
    | split

theorem State.dropSteps_ok {s0 : State} {E W : Nat} {s k} (hE : sub 536870912 E = true) (hW : sub 0 W = true) (h : Ok E W s0 s) :
    Ok E W s0 (State.dropSteps s k) := by
  unfold State.dropSteps
  repeat' first
    | exact sub_trans rfl hE | exact sub_trans rfl hW | exact sub_bit hW rfl | with_reducible first | assumption | apply State.setAux_ok
    | intro _
    | dsimp only
    | with_reducible apply ok_ite
    | split

theorem State.limReact_ok {s0 : State} {E W : Nat} {s k} (hE : sub 1614303746 E = true) (hW : sub 1224720827664335617602385987214491705491632334484350166037276981683049553931055031244425028751061640485537359143356552126790095160660117230276008523651813628754479639452768587224375732764001183956205696 W = true) (h : Ok E W s0 s) :
    Ok E W s0 (State.limReact s k) := by
  unfold State.limReact
  repeat' first
    | exact sub_trans rfl hE | exact sub_trans rfl hW | exact sub_bit hW rfl | with_reducible first | assumption | apply State.chanEvent_ok | apply State.askGroupStop_ok | apply State.emptyQueue_ok | apply State.setChan_ok | apply State.dropSteps_ok | apply State.rampFrom_ok
    | intro _
    | dsimp only
    | with_reducible apply ok_ite
    | split

theorem State.homeAbort_ok {s0 : State} {E W : Nat} {s k reason} (hE : sub 1613255170 E = true) (hW : sub 1224720827664335617602385987214491705491632334484350166037276981683049553931055031244425028751061640485537359143356552126790095160660117230276008523651813628754479639452768587224375732764001183956205696 W = true) (h : Ok E W s0 s) :
    Ok E W s0 (State.homeAbort s k reason) := by
  unfold State.homeAbort
  repeat' first
    | exact sub_trans rfl hE | exact sub_trans rfl hW | exact sub_bit hW rfl | with_reducible first | assumption | apply State.opStop_ok | apply State.homeFail_ok
    | intro _
    | dsimp only
    | with_reducible apply ok_ite
    | split

theorem State.limCheck_ok {s0 : State} {E W : Nat} {s k} (hE : sub 1614303746 E = true) (hW : sub 1224720827664335617602385987214491705491635437372892545072868153502210738720789237029180693525106686783020911008875447867325654557617696207734858261584562578102312418591344459147379016224788767962038400 W = true) (h : Ok E W s0 s) :
    Ok E W s0 (State.limCheck s k) := by
  unfold State.limCheck
  repeat' first
    | exact sub_trans rfl hE | exact sub_trans rfl hW | exact sub_bit hW rfl | with_reducible first | assumption | apply State.setChan_ok | apply State.pb_ok | apply State.when_ok | apply State.chanEvent_ok | apply State.on_ok | apply State.unhold_ok | apply State.limReact_ok | apply State.homeFail_ok | apply State.homeAbort_ok | apply ws_f_LSP_CH_STATUS_LIM_BOTH | apply ws_f_LSP_CH_STATUS_LIM_NEG | apply ws_f_LSP_CH_STATUS_LIM_POS
    | intro _
    | dsimp only
    | with_reducible apply ok_ite
    | split

theorem wrLspCfg_ok {s0 : State} {E W : Nat} {k v s} (hE : sub 1614303746 E = true) (hW : sub 1224720827664335617602385987214491705606807637377996058176791778469481032867291206992763436168307423547791080097822533996194432655956902837774984847225236626039521813298339364627091289065731106979971200 W = true) (h : Ok E W s0 s) :
    Ok E W s0 (wrLspCfg k v s) := by
  unfold wrLspCfg
  repeat' first
    | exact sub_trans rfl hE | exact sub_trans rfl hW | exact sub_bit hW rfl | with_reducible first | assumption | apply State.on_ok | apply State.groupCount_ok | apply State.limCheck_ok | apply State.wr_ok | apply State.when_ok | apply State.off_ok | apply State.setChanState_ok | apply State.setChan_ok | apply State.p_ok | apply ws_f_LSH_FOL_STATUS_PH_MOVING | apply ws_f_LSH_FOL_STATUS_STATE | apply ws_f_LSP_CH_STATUS_CMD_REFUSED | apply ws_r_LSP_CH_CFG | apply wrF_of_wr
    | intro _
    | dsimp only
    | with_reducible apply ok_ite
    | split

theorem execLspCfgWrite_ok {s0 : State} {E W : Nat} {rq k v s} (hE : sub 1614303746 E = true) (hW : sub 1224720827664335617602385987214491705606807637377996058176791778469481032867291284460259778775565113225366240188178763887368217532662287757555681066653897131275360702658937768762034393831006399969099904 W = true) (h : Ok E W s0 s) :
    OkOut E W s0 (execLspCfgWrite rq k v s) := by
  unfold execLspCfgWrite
  repeat' first
    | exact sub_trans rfl hE | exact sub_trans rfl hW | exact sub_bit hW rfl | with_reducible first | assumption | apply okOut_next | apply okOut_fault | apply State.write_ok | apply wrLspCfg_ok
    | intro _
    | dsimp only
    | with_reducible apply ok_ite
    | split

theorem State.applyTimed_ok {s0 : State} {E W : Nat} {s k t dt} (hE : sub 1611137026 E = true) (hW : sub 84358066046514997482555087969511700550415455685811008523343864218201547409182096396508074144268284304865953518133210669960054087629448865323946379498222006567040 W = true) (h : Ok E W s0 s) :
    Ok E W s0 (State.applyTimed s k t dt) := by
  unfold State.applyTimed
  repeat' first
    | exact sub_trans rfl hE | exact sub_trans rfl hW | exact sub_bit hW rfl | with_reducible first | assumption | apply State.when_ok | apply State.on_ok | apply State.startMove_ok | apply State.setChan_ok | apply ws_f_LSP_CH_STATUS_START_LATE
    | intro _
    | dsimp only
    | with_reducible apply ok_ite
    | split

theorem State.groupNewLimits_ok {s0 : State} {E W : Nat} {s g k t} (hE : sub 1048578 E = true) (hW : sub 28793062014671777111206876412991882059552496096002866738455654453642678887383889165353964636184182808668603782647156511750248976999139517442942122305593630902976512 W = true) (h : Ok E W s0 s) :
    Ok E W s0 (State.groupNewLimits s g k t) := by
  unfold State.groupNewLimits
  repeat' first
    | exact sub_trans rfl hE | exact sub_trans rfl hW | exact sub_bit hW rfl | with_reducible first | assumption | apply State.when_ok | apply State.on_ok | apply State.setGrp_ok | apply ws_f_LSP_CH_STATUS_DECEL_KEPT | apply ws_f_LSP_GRP_STATUS_GROUP_LIMITED
    | intro _
    | dsimp only
    | with_reducible apply ok_ite
    | split

theorem State.heldLimits_ok {s0 : State} {E W : Nat} {s k l} (hE : sub 536870912 E = true) (hW : sub 0 W = true) (h : Ok E W s0 s) :
    Ok E W s0 (State.heldLimits s k l) := by
  unfold State.heldLimits
  repeat' first
    | exact sub_trans rfl hE | exact sub_trans rfl hW | exact sub_bit hW rfl | with_reducible first | assumption | apply State.setAux_ok
    | intro _
    | dsimp only
    | with_reducible apply ok_ite
    | split

theorem State.newLimits_ok {s0 : State} {E W : Nat} {s k t l} (hE : sub 537395202 E = true) (hW : sub 56250152027110216004561695147672936022305752849374244524578233584566340844760393691092253695579958623483965975541794150756177569669678179400231587817396778303488 W = true) (h : Ok E W s0 s) :
    Ok E W s0 (State.newLimits s k t l) := by
  unfold State.newLimits
  repeat' first
    | exact sub_trans rfl hE | exact sub_trans rfl hW | exact sub_bit hW rfl | with_reducible first | assumption | apply State.heldLimits_ok | apply State.when_ok | apply State.setChan_ok | apply State.on_ok | apply State.setChanState_ok | apply ws_f_LSP_CH_STATUS_DECEL_KEPT
    | intro _
    | dsimp only
    | with_reducible apply ok_ite
    | split

theorem State.homeRun_ok {s0 : State} {E W : Nat} {s k t creep dir} (hE : sub 524290 E = true) (hW : sub 56236422431789954785131731346074773235871213978773957913759444657647969758393598378988008576298635714374011382919011189040103325693678746112606439760814548189184 W = true) (h : Ok E W s0 s) :
    Ok E W s0 (State.homeRun s k t creep dir) := by
  unfold State.homeRun
  repeat' first
    | exact sub_trans rfl hE | exact sub_trans rfl hW | exact sub_bit hW rfl | with_reducible first | assumption | apply State.setChanState_ok | apply State.setChan_ok
    | intro _
    | dsimp only
    | with_reducible apply ok_ite
    | split

theorem State.startHome_ok {s0 : State} {E W : Nat} {s k t} (hE : sub 1613255170 E = true) (hW : sub 1224720827664335617602385987214491705491632334484350166037276981683049553931055031244425028751061640485537359143356552126790095160660117230276008523651813628754479639452768587224375732764001183956205696 W = true) (h : Ok E W s0 s) :
    Ok E W s0 (State.startHome s k t) := by
  unfold State.startHome
  repeat' first
    | exact sub_trans rfl hE | exact sub_trans rfl hW | exact sub_bit hW rfl | with_reducible first | assumption | apply State.setChan_ok | apply State.homeAbort_ok | apply State.p_ok | apply State.setChanState_ok | apply State.when_ok | apply State.writeBlock_ok | apply State.homeRun_ok | apply ws_f_LSP_CH_STATUS_HOME_REASON
    | intro _
    | dsimp only
    | with_reducible apply ok_ite
    | split

theorem State.applyPend_ok {s0 : State} {E W : Nat} {s k t} (hE : sub 1614303746 E = true) (hW : sub 1224720827664335617602385987214491705520425399931420773213788715586991835531304135975145545561169999636411767623512032990972085858124120369671889794947125836245157635012902104525639761356608960416710784 W = true) (h : Ok E W s0 s) :
    Ok E W s0 (State.applyPend s k t) := by
  unfold State.applyPend
  repeat' first
    | exact sub_trans rfl hE | exact sub_trans rfl hW | exact sub_bit hW rfl | with_reducible first | assumption | apply State.setChan_ok | apply State.homeFail_ok | apply State.opStop_ok | apply State.each_ok | apply State.startMove_ok | apply State.groupNewLimits_ok | apply State.newLimits_ok | apply State.startHome_ok
    | intro _
    | dsimp only
    | with_reducible apply ok_ite
    | split

theorem State.applyHeld_ok {s0 : State} {E W : Nat} {s k t} (hE : sub 537395202 E = true) (hW : sub 56236422431789954785131731346074773235871213978773957913759444657647969758393598378988008576298635714374011382919011189040103325693678746112606439760814548189184 W = true) (h : Ok E W s0 s) :
    Ok E W s0 (State.applyHeld s k t) := by
  unfold State.applyHeld
  repeat' first
    | exact sub_trans rfl hE | exact sub_trans rfl hW | exact sub_bit hW rfl | with_reducible first | assumption | apply State.setChanState_ok | apply State.setChan_ok | apply State.setAux_ok
    | intro _
    | dsimp only
    | with_reducible apply ok_ite
    | split

theorem State.homeStop_ok {s0 : State} {E W : Nat} {s k t} (hE : sub 1613255170 E = true) (hW : sub 1224720827664335617602385987214491705491632334484350166037276981683049553931055031244425028751061640485537359143356552126790095160660117230276008523651813628754479639452768587224375732764001183956205696 W = true) (h : Ok E W s0 s) :
    Ok E W s0 (State.homeStop s k t) := by
  unfold State.homeStop
  repeat' first
    | exact sub_trans rfl hE | exact sub_trans rfl hW | exact sub_bit hW rfl | with_reducible first | assumption | apply State.setChanState_ok | apply State.opStop_ok
    | intro _
    | dsimp only
    | with_reducible apply ok_ite
    | split

theorem State.hardStop_ok {s0 : State} {E W : Nat} {s k} (hE : sub 524288 E = true) (hW : sub 0 W = true) (h : Ok E W s0 s) :
    Ok E W s0 (State.hardStop s k).1 := by
  unfold State.hardStop
  repeat' first
    | exact sub_trans rfl hE | exact sub_trans rfl hW | exact sub_bit hW rfl | with_reducible first | assumption | apply State.setChan_ok
    | intro _
    | dsimp only
    | with_reducible apply ok_ite
    | split

theorem State.hardStop_ok' {s0 t0 : State} {E W : Nat} {s k y0} (hE : sub 524288 E = true) (hW : sub 0 W = true) (h : Ok E W s0 s) (e : State.hardStop s k = (t0, y0)) :
    Ok E W s0 t0 := by
  have r := State.hardStop_ok (s0 := s0) (E := E) (W := W) (s := s) (k := k) hE hW h
  rw [e] at r
  exact r

theorem State.homeEval_ok {s0 : State} {E W : Nat} {s k t} (hE : sub 1613255170 E = true) (hW : sub 1224720827664335617602385987214491705491632334484350166037276981683049553931055031244425028751061640485537359143356552126790095160660117230276008523651813628754479639452768587224375732764001183956205696 W = true) (h : Ok E W s0 s) :
    Ok E W s0 (State.homeEval s k t) := by
  unfold State.homeEval
  repeat' first
    | exact sub_trans rfl hE | exact sub_trans rfl hW | exact sub_bit hW rfl | with_reducible first | assumption | apply State.setChan_ok | apply State.homeAbort_ok | apply State.homeStop_ok | apply State.homeRun_ok | apply State.hardStop_ok | refine State.hardStop_ok' ?_ ?_ ?_ (by assumption)
    | intro _
    | dsimp only
    | with_reducible apply ok_ite
    | split

theorem State.groupStep_ok {s0 : State} {E W : Nat} {s g k t dt} (hE : sub 1614303746 E = true) (hW : sub 1224720827664335617602385987214491706182693611537401025414368262329289404840058444222588810574294576161044435519376285806984238550505902206361047402652082625273789357239539858829139967764770759378993280 W = true) (h : Ok E W s0 s) :
    Ok E W s0 (State.groupStep s g k t dt) := by
  unfold State.groupStep
  repeat' first
    | exact sub_trans rfl hE | exact sub_trans rfl hW | exact sub_bit hW rfl | with_reducible first | assumption | apply State.when_ok | apply State.on_ok | apply State.groupStop_ok | apply State.each_ok | apply State.setChan_ok | apply State.setGrp_ok | apply ws_f_LSP_CH_STATUS_START_LATE | apply ws_f_LSP_GRP_STATUS_PATH_BROKEN
    | intro _
    | dsimp only
    | with_reducible apply ok_ite
    | split

theorem State.stretchPlan_ok {s0 : State} {E W : Nat} {s k t} (hE : sub 1572866 E = true) (hW : sub 13729595320261219429963801598162786434538870600286610818788926918371086366795312104245119281322909109954592622782961716074243975999433287625148056582230114304 W = true) (h : Ok E W s0 s) :
    Ok E W s0 (State.stretchPlan s k t) := by
  unfold State.stretchPlan
  repeat' first
    | exact sub_trans rfl hE | exact sub_trans rfl hW | exact sub_bit hW rfl | with_reducible first | assumption | apply State.when_ok | apply State.setGrp_ok | apply State.on_ok | apply State.setChan_ok | apply ws_f_LSP_CH_STATUS_DECEL_KEPT
    | intro _
    | dsimp only
    | with_reducible apply ok_ite
    | split

theorem State.applyQueue_ok {s0 : State} {E W : Nat} {s k t} (hE : sub 1611137026 E = true) (hW : sub 59754631232606892264059955505603987259721799570097401936074107180480560639884897105700820392137631179827323538106143274755008882638464413899681062102865641734272 W = true) (h : Ok E W s0 s) :
    Ok E W s0 (State.applyQueue s k t) := by
  unfold State.applyQueue
  repeat' first
    | exact sub_trans rfl hE | exact sub_trans rfl hW | exact sub_bit hW rfl | with_reducible first | assumption | apply State.startMove_ok | apply State.setQueue_ok
    | intro _
    | dsimp only
    | with_reducible apply ok_ite
    | split

theorem State.evalMotion_ok {s0 : State} {E W : Nat} {s k t} (hE : sub 1614303746 E = true) (hW : sub 1224720827664335617602385987214491706211939671252468331264752221903161469415928724449895183821758057166663579623117811198733692713537873408930770502943495871624620958543798678022308131336252636230844544 W = true) (h : Ok E W s0 s) :
    Ok E W s0 (State.evalMotion s k t) := by
  unfold State.evalMotion
  repeat' first
    | exact sub_trans rfl hE | exact sub_trans rfl hW | exact sub_bit hW rfl | with_reducible first | assumption | apply State.restretch_ok | apply State.limCheck_ok | apply State.applyTimed_ok | apply State.applyPend_ok | apply State.applyHeld_ok | apply State.homeEval_ok | apply State.applyHard_ok | apply State.groupStep_ok | apply State.setChan_ok | apply State.stretchPlan_ok | apply State.applyQueue_ok
    | intro _
    | dsimp only
    | with_reducible apply ok_ite
    | split

theorem State.groupDone_ok {s0 : State} {E W : Nat} {s g k t} (hE : sub 1612206082 E = true) (hW : sub 8365423386864081804821759265617434810060980736610093807053434641419168755067506657919150956500651725090065256916130776929612087220041988782426536490359616287007536950477923547606941824 W = true) (h : Ok E W s0 s) :
    Ok E W s0 (State.groupDone s g k t) := by
  unfold State.groupDone
  repeat' first
    | exact sub_trans rfl hE | exact sub_trans rfl hW | exact sub_bit hW rfl | with_reducible first | assumption | apply State.setChan_ok | apply State.setChanState_ok | apply State.when_ok | apply State.on_ok | apply State.outputsOff_ok | apply State.p_ok | apply State.setGrp_ok | apply ws_f_LSP_CH_STATUS_AT_TARGET | apply ws_f_LSP_GRP_STATUS_STATE
    | intro _
    | dsimp only
    | with_reducible apply ok_ite
    | split

theorem State.checkHold_ok {s0 : State} {E W : Nat} {s k p} (hE : sub 2621442 E = true) (hW : sub 1224720827664335609236962600350409901130557973114657130830792747581683287904710430481344152775442189998791984173453713876118664616170331292078900253758439924876526181809421229022888821882461913522110464 W = true) (h : Ok E W s0 s) :
    Ok E W s0 (State.checkHold s k p) := by
  unfold State.checkHold
  repeat' first
    | exact sub_trans rfl hE | exact sub_trans rfl hW | exact sub_bit hW rfl | with_reducible first | assumption | apply State.unhold_ok
    | intro _
    | dsimp only
    | with_reducible apply ok_ite
    | split

theorem execGroupRelative_ok {s0 : State} {E W : Nat} {rq g start s} (hE : sub 3670530 E = true) (hW : sub 1224720827664335609236962600350409901807250847668784486825587728359951433792645434390145181030619981939076893959331704760483182752757020093649352932499717763572357407803049984989147122576632810429218816 W = true) (h : Ok E W s0 s) :
    OkOut E W s0 (execGroupRelative rq g start s) := by
  unfold execGroupRelative
  repeat' first
    | exact sub_trans rfl hE | exact sub_trans rfl hW | exact sub_bit hW rfl | with_reducible first | assumption | apply okOut_next | apply okOut_fault | apply State.write_ok | apply wrGrpCmd_ok
    | intro _
    | dsimp only
    | with_reducible apply ok_ite
    | split

theorem State.standstill_ok {s0 : State} {E W : Nat} {s k} (hE : sub 524290 E = true) (hW : sub 14059105607947488696282932836518693308967803494693489478439861164411992439598399594747002144074658928593502845729752797260025831423419686528151609940203637047296 W = true) (h : Ok E W s0 s) :
    Ok E W s0 (State.standstill s k) := by
  unfold State.standstill
  repeat' first
    | exact sub_trans rfl hE | exact sub_trans rfl hW | exact sub_bit hW rfl | with_reducible first | assumption | apply State.pb_ok | apply State.setChan_ok | apply ws_f_LSP_CH_STATUS_STANDSTILL
    | intro _
    | dsimp only
    | with_reducible apply ok_ite
    | split

theorem execClearFault_ok {s0 : State} {E W : Nat} {rq k s} (hE : sub 1614283266 E = true) (hW : sub 1224720827664335609236962600350409901130625203510541619957036422827159091529183836163452448844226784354254677880976548711838911780716534167049794072408311896041522505897589788996843500826649096450211968 W = true) (h : Ok E W s0 s) :
    OkOut E W s0 (execClearFault rq k s) := by
  unfold execClearFault
  repeat' first
    | exact sub_trans rfl hE | exact sub_trans rfl hW | exact sub_bit hW rfl | with_reducible first | assumption | apply okOut_next | apply okOut_fault | apply State.write_ok | apply wrLspCmd_ok
    | intro _
    | dsimp only
    | with_reducible apply ok_ite
    | split

theorem execHomeTimeout_ok {s0 : State} {E W : Nat} {k s} (hE : sub 1613255170 E = true) (hW : sub 1224720827664335617602385987214491705491632334484350166037276981683049553931055031244425028751061640485537359143356552126790095160660117230276008523651813628754479639452768587224375732764001183956205696 W = true) (h : Ok E W s0 s) :
    OkOut E W s0 (execHomeTimeout k s) := by
  unfold execHomeTimeout
  repeat' first
    | exact sub_trans rfl hE | exact sub_trans rfl hW | exact sub_bit hW rfl | with_reducible first | assumption | apply okOut_next | apply okOut_fault | apply State.homeAbort_ok
    | intro _
    | dsimp only
    | with_reducible apply ok_ite
    | split

theorem State.exchange_ok {s0 : State} {E W : Nat} {s k t} (hE : sub 2 E = true) (hW : sub 1254114127528279663858649702758819738757691336351197686075754380957778013777036862877289423055073845679040662969631723812346323072954131093770936672842951023567968290121184491680065097304421119039367020544 W = true) (h : Ok E W s0 s) :
    Ok E W s0 (State.exchange s k t) := by
  unfold State.exchange
  repeat' first
    | exact sub_trans rfl hE | exact sub_trans rfl hW | exact sub_bit hW rfl | with_reducible first | assumption | apply State.wr_ok | apply ws_w_exWord | apply wrF_of_wr
    | intro _
    | dsimp only
    | with_reducible apply ok_ite
    | split

theorem State.putRef_ok {s0 : State} {E W : Nat} {s k t r} (hE : sub 2621442 E = true) (hW : sub 1255338848355943999467886665359170148658821894296853152566062734845432093868616000438693026007276066231461601117063004792631817529080062862417197353187524217926921384155202377726372394631684120608585547776 W = true) (h : Ok E W s0 s) :
    Ok E W s0 (State.putRef s k t r) := by
  unfold State.putRef
  repeat' first
    | exact sub_trans rfl hE | exact sub_trans rfl hW | exact sub_bit hW rfl | with_reducible first | assumption | apply State.wr64_ok | apply State.wr_ok | apply State.when_ok | apply State.writeBlock_ok | apply State.setChan_ok | apply State.exchange_ok | apply ws_r_LSP_CH_AREF | apply ws_r_LSP_CH_PREF_HI | apply ws_r_LSP_CH_PREF_LO | apply ws_r_LSP_CH_VREF | apply wrF_of_wr
    | intro _
    | dsimp only
    | with_reducible apply ok_ite
    | split

theorem State.evalOut_ok {s0 : State} {E W : Nat} {s k t r} (hE : sub 1614303234 E = true) (hW : sub 1255338848355943999476252088746034230463643892594725113123953991251828011689781260401849345752237928004598400914177302424105617693522881471194413749865128858072824773233184144146917485409827140782482522240 W = true) (h : Ok E W s0 s) :
    Ok E W s0 (State.evalOut s k t r) := by
  unfold State.evalOut
  repeat' first
    | exact sub_trans rfl hE | exact sub_trans rfl hW | exact sub_bit hW rfl | with_reducible first | assumption | apply State.putRef_ok | apply State.setChan_ok | apply State.pb_ok | apply State.finish_ok | apply State.groupDone_ok | apply State.standstill_ok | apply State.checkHold_ok | apply ws_f_LSP_CH_STATUS_STRETCHED
    | intro _
    | dsimp only
    | with_reducible apply ok_ite
    | split

theorem State.pickRef_ok {s0 : State} {E W : Nat} {s k t follow} (hE : sub 0 E = true) (hW : sub 0 W = true) (h : Ok E W s0 s) (hk : ∀ t, Ok E W s0 t → Ok E W s0 (follow t).1) :
    Ok E W s0 (State.pickRef s k t follow).1 := by
  unfold State.pickRef
  repeat' first
    | exact sub_trans rfl hE | exact sub_trans rfl hW | exact sub_bit hW rfl | with_reducible first | assumption | apply hk
    | intro _
    | dsimp only
    | with_reducible apply ok_ite
    | split

theorem State.pickRef_ok' {s0 t0 : State} {E W : Nat} {s k t follow y0} (hE : sub 0 E = true) (hW : sub 0 W = true) (h : Ok E W s0 s) (hk : ∀ t, Ok E W s0 t → Ok E W s0 (follow t).1) (e : State.pickRef s k t follow = (t0, y0)) :
    Ok E W s0 t0 := by
  have r := State.pickRef_ok (s0 := s0) (E := E) (W := W) (s := s) (k := k) (t := t) (follow := follow) hE hW h hk
  rw [e] at r
  exact r

theorem State.evaluate_ok {s0 : State} {E W : Nat} {s k t follow} (hE : sub 1614303746 E = true) (hW : sub 1255338848355943999476252088746034230463903515027245489514326969989539396064239044054398728028216737213847121553126314796338167464704118236381653532894271925237146331519558905308909367768803007957584314496 W = true) (h : Ok E W s0 s) (hk : ∀ t, Ok E W s0 t → Ok E W s0 (follow t).1) :
    Ok E W s0 (State.evaluate s k t follow) := by
  unfold State.evaluate
  repeat' first
    | exact sub_trans rfl hE | exact sub_trans rfl hW | exact sub_bit hW rfl | with_reducible first | assumption | apply hk | apply State.pickRef_ok | refine State.pickRef_ok' ?_ ?_ ?_ (by assumption) | apply State.evalMotion_ok | apply State.evalOut_ok
    | intro _
    | dsimp only
    | with_reducible apply ok_ite
    | split

theorem State.setStag_ok {s0 : State} {E W : Nat} {s g x} (hE : sub 137438953472 E = true) (hW : sub 0 W = true) (h : Ok E W s0 s) :
    Ok E W s0 (State.setStag s g x) := by
  unfold State.setStag
  repeat' first
    | exact sub_trans rfl hE | exact sub_trans rfl hW | exact sub_bit hW rfl | with_reducible first | assumption
    | intro _
    | dsimp only
    | with_reducible apply ok_ite
    | ((with_reducible apply ok_mk) <;> first | exact Or.inr (sub_bit hE rfl) | exact Or.inr (Or.inr (sub_bit hE rfl)) | with_reducible first | exact Or.inl rfl | exact rfl | exact Or.inr (Or.inl rfl) | assumption | apply ok_ite)
    | split

theorem State.enJoin_ok {s0 : State} {E W : Nat} {s k} (hE : sub 137438953474 E = true) (hW : sub 3987683987354747618711421180841033728 W = true) (h : Ok E W s0 s) :
    Ok E W s0 (State.enJoin s k) := by
  unfold State.enJoin
  repeat' first
    | exact sub_trans rfl hE | exact sub_trans rfl hW | exact sub_bit hW rfl | with_reducible first | assumption | apply State.setStag_ok | apply State.enSet_ok
    | intro _
    | dsimp only
    | with_reducible apply ok_ite
    | split

theorem wrEnReq_ok {s0 : State} {E W : Nat} {rq hi v s} (hE : sub 137438953474 E = true) (hW : sub 2699348276725917829686323104611589115321818270981149979860453343567102548402892722191424411662334514289952546380112537073924963620980567168152727819940279154114560 W = true) (h : Ok E W s0 s) :
    Ok E W s0 (wrEnReq rq hi v s) := by
  unfold wrEnReq
  repeat' first
    | exact sub_trans rfl hE | exact sub_trans rfl hW | exact sub_bit hW rfl | with_reducible first | assumption | apply State.each_ok | apply State.on_ok | apply State.enJoin_ok | apply State.enBusy_ok | apply ws_f_LSP_EN_STATUS_CANCELLED
    | intro _
    | dsimp only
    | with_reducible apply ok_ite
    | split

theorem execEnReq_ok {s0 : State} {E W : Nat} {rq hi v s} (hE : sub 137438953986 E = true) (hW : sub 2699348276725917829686323104611589115321895738477492587118143021142262638759122613365209288367719434070648765808773042309763852981578971303095832585215572143243264 W = true) (h : Ok E W s0 s) :
    OkOut E W s0 (execEnReq rq hi v s) := by
  unfold execEnReq
  repeat' first
    | exact sub_trans rfl hE | exact sub_trans rfl hW | exact sub_bit hW rfl | with_reducible first | assumption | apply okOut_next | apply okOut_fault | apply State.logDropped_ok | apply wrEnReq_ok
    | intro _
    | dsimp only
    | with_reducible apply ok_ite
    | split

theorem State.writeAuxOut_ok {s0 : State} {E W : Nat} {s c v} (hE : sub 1611137026 E = true) (hW : sub 899782758908639276562107701537196371773939423660383326620151114522367516134297574063808137220778171436319207907337124528040491418614953834771467597215805929947264 W = true) (h : Ok E W s0 s) :
    Ok E W s0 (State.writeAuxOut s c v) := by
  unfold State.writeAuxOut
  repeat' first
    | exact sub_trans rfl hE | exact sub_trans rfl hW | exact sub_bit hW rfl | with_reducible first | assumption | apply State.refreshAux_ok | apply State.when_ok | apply State.pb_ok | apply State.leaveStagger_ok | apply ws_f_AUX_CTL_OUT_EN
    | intro _
    | dsimp only
    | with_reducible apply ok_ite
    | split

theorem execVelocityMove_ok {s0 : State} {E W : Nat} {rq k queued start s} (hE : sub 1614283266 E = true) (hW : sub 1224720827664335609236962600350409901130625203510541619957036422827159091529183836163452448844226784354254677880976548711838911780716534167049794072408311896041522505897589788996843500826649096450211968 W = true) (h : Ok E W s0 s) :
    OkOut E W s0 (execVelocityMove rq k queued start s) := by
  unfold execVelocityMove
  repeat' first
    | exact sub_trans rfl hE | exact sub_trans rfl hW | exact sub_bit hW rfl | with_reducible first | assumption | apply okOut_next | apply okOut_fault | apply State.write_ok | apply wrLspCmd_ok
    | intro _
    | dsimp only
    | with_reducible apply ok_ite
    | split

theorem execStop_ok {s0 : State} {E W : Nat} {rq k s} (hE : sub 1614283266 E = true) (hW : sub 1224720827664335609236962600350409901130625203510541619957036422827159091529183836163452448844226784354254677880976548711838911780716534167049794072408311896041522505897589788996843500826649096450211968 W = true) (h : Ok E W s0 s) :
    OkOut E W s0 (execStop rq k s) := by
  unfold execStop
  repeat' first
    | exact sub_trans rfl hE | exact sub_trans rfl hW | exact sub_bit hW rfl | with_reducible first | assumption | apply okOut_next | apply okOut_fault | apply State.write_ok | apply wrLspCmd_ok
    | intro _
    | dsimp only
    | with_reducible apply ok_ite
    | split

theorem State.enTurn_ok {s0 : State} {E W : Nat} {s x1} (hE : sub 1611288578 E = true) (hW : sub 8365423386864081804372711429067193191036399004320736343224306389163941051054484787630600188387107250335017982373106350419608328838785528742200882420122281486794800241412226415599812736 W = true) (h : Ok E W s0 s) :
    Ok E W s0 (State.enTurn s x1) := by
  induction x1 generalizing s with
  | nil =>
    unfold State.enTurn
    repeat' first
      | exact sub_trans rfl hE | exact sub_trans rfl hW | exact sub_bit hW rfl | with_reducible first | assumption | apply State.enSet_ok | apply State.on_ok | apply State.writeOutEn_ok | apply State.writeAuxOut_ok | apply State.p_ok | apply ws_f_LSP_EN_STATUS_LAST | apply ws_f_LSP_EN_STATUS_SKIPPED | apply ih
      | intro _
      | dsimp only
      | with_reducible apply ok_ite
      | split
  | cons x l ih =>
    unfold State.enTurn
    repeat' first
      | exact sub_trans rfl hE | exact sub_trans rfl hW | exact sub_bit hW rfl | with_reducible first | assumption | apply State.enSet_ok | apply State.on_ok | apply State.writeOutEn_ok | apply State.writeAuxOut_ok | apply State.p_ok | apply ws_f_LSP_EN_STATUS_LAST | apply ws_f_LSP_EN_STATUS_SKIPPED | apply ih
      | intro _
      | dsimp only
      | with_reducible apply ok_ite
      | split

theorem execStaggerEnable_ok {s0 : State} {E W : Nat} {g s} (hE : sub 139050242050 E = true) (hW : sub 8365423386864081804374510994585010469589523219723810735967854268011261817707725089859644923419375845483145598647547906762468297203038937100250165726544479206670403647484572481141866624 W = true) (h : Ok E W s0 s) :
    OkOut E W s0 (execStaggerEnable g s) := by
  unfold execStaggerEnable
  repeat' first
    | exact sub_trans rfl hE | exact sub_trans rfl hW | exact sub_bit hW rfl | with_reducible first | assumption | apply okOut_next | apply okOut_fault | apply State.dropPending_ok | apply State.enTurn_ok | apply State.enBusy_ok | apply State.setStag_ok
    | intro _
    | dsimp only
    | with_reducible apply ok_ite
    | split

theorem execStopTimeout_ok {s0 : State} {E W : Nat} {k s} (hE : sub 1613255170 E = true) (hW : sub 1224720827664335617602385987214491705491744807329213745946847245145741703477526773672382576666889159374852655082873339323548071177812714501704756546417651651132559846104155944716600945643522813052584064 W = true) (h : Ok E W s0 s) :
    OkOut E W s0 (execStopTimeout k s) := by
  unfold execStopTimeout
  repeat' first
    | exact sub_trans rfl hE | exact sub_trans rfl hW | exact sub_bit hW rfl | with_reducible first | assumption | apply okOut_next | apply okOut_fault | apply State.offStop_ok | apply State.chanEvent_ok | apply State.on_ok | apply ws_f_LSP_CH_STATUS_STOP_TMO
    | intro _
    | dsimp only
    | with_reducible apply ok_ite
    | split

theorem execFlushQueue_ok {s0 : State} {E W : Nat} {rq k s} (hE : sub 1614283266 E = true) (hW : sub 1224720827664335609236962600350409901130625203510541619957036422827159091529183836163452448844226784354254677880976548711838911780716534167049794072408311896041522505897589788996843500826649096450211968 W = true) (h : Ok E W s0 s) :
    OkOut E W s0 (execFlushQueue rq k s) := by
  unfold execFlushQueue
  repeat' first
    | exact sub_trans rfl hE | exact sub_trans rfl hW | exact sub_bit hW rfl | with_reducible first | assumption | apply okOut_next | apply okOut_fault | apply State.write_ok | apply wrLspCmd_ok
    | intro _
    | dsimp only
    | with_reducible apply ok_ite
    | split

end Sys2Proof.Machine
end

