-- ==== Sys2Proof/Laws/KeepPool.lean ====
section
/-! SUPPORT. What the definitions of Machine/Pool.lean keep: the queue, and the canonical forms of the register window and of
the memories; one lemma for each. -/

namespace Sys2Proof.Machine

theorem State.setBuf_ok {s0 : State} {E W : Nat} {s i x} (hE : sub 134217728 E = true) (hW : sub 0 W = true) (h : Ok E W s0 s) :
    Ok E W s0 (State.setBuf s i x) := by
  unfold State.setBuf
  repeat' first
    | exact sub_trans rfl hE | exact sub_trans rfl hW | exact sub_bit hW rfl | with_reducible first | assumption
    | intro _
    | dsimp only
    | with_reducible apply ok_ite
    | ((with_reducible apply ok_mk) <;> first | exact Or.inr (sub_bit hE rfl) | exact Or.inr (Or.inr (sub_bit hE rfl)) | with_reducible first | exact Or.inl rfl | exact rfl | exact Or.inr (Or.inl rfl) | assumption | apply ok_ite)
    | split

theorem State.freeBuf_ok {s0 : State} {E W : Nat} {s i} (hE : sub 134217728 E = true) (hW : sub 0 W = true) (h : Ok E W s0 s) :
    Ok E W s0 (State.freeBuf s i) := by
  unfold State.freeBuf
  repeat' first
    | exact sub_trans rfl hE | exact sub_trans rfl hW | exact sub_bit hW rfl | with_reducible first | assumption | apply State.setBuf_ok
    | intro _
    | dsimp only
    | with_reducible apply ok_ite
    | ((with_reducible apply ok_mk) <;> first | exact Or.inr (sub_bit hE rfl) | exact Or.inr (Or.inr (sub_bit hE rfl)) | with_reducible first | exact Or.inl rfl | exact rfl | exact Or.inr (Or.inl rfl) | assumption | apply ok_ite | apply State.setBuf_ok)
    | split

theorem State.takeFree_ok {s0 : State} {E W : Nat} {s c num} (hE : sub 134217728 E = true) (hW : sub 0 W = true) (h : Ok E W s0 s) :
    Ok E W s0 (State.takeFree s c num) := by
  unfold State.takeFree
  repeat' first
    | exact sub_trans rfl hE | exact sub_trans rfl hW | exact sub_bit hW rfl | with_reducible first | assumption
    | intro _
    | dsimp only
    | with_reducible apply ok_ite
    | ((with_reducible apply ok_mk) <;> first | exact Or.inr (sub_bit hE rfl) | exact Or.inr (Or.inr (sub_bit hE rfl)) | with_reducible first | exact Or.inl rfl | exact rfl | exact Or.inr (Or.inl rfl) | assumption | apply ok_ite)
    | split

theorem State.rekey_ok {s0 : State} {E W : Nat} {s key b} (hE : sub 134217732 E = true) (hW : sub 0 W = true) (h : Ok E W s0 s) :
    Ok E W s0 (State.rekey s key b) := by
  unfold State.rekey
  split
  · exact h
  · exact ok_mem hE h (fun w => tabFold_wf _ _ w) id

theorem State.ipmWrite_ok {s0 : State} {E W : Nat} {s key a x} (hE : sub 134217732 E = true) (hW : sub 0 W = true) (h : Ok E W s0 s) :
    Ok E W s0 (State.ipmWrite s key a x) :=
  ok_mem hE (State.rekey_ok hE hW h) (fun w => tabSet_wf _ _ _ w) id

theorem State.ipmPut_ok {s0 : State} {E W : Nat} {s key x2 x3} (hE : sub 134217732 E = true) (hW : sub 0 W = true) (h : Ok E W s0 s) :
    Ok E W s0 (State.ipmPut s key x2 x3) := by
  induction x3 generalizing s key x2 with
  | nil =>
    unfold State.ipmPut
    repeat' first
      | exact sub_trans rfl hE | exact sub_trans rfl hW | exact sub_bit hW rfl | with_reducible first | assumption | apply State.ipmWrite_ok | apply ih
      | intro _
      | dsimp only
      | with_reducible apply ok_ite
      | split
  | cons x l ih =>
    unfold State.ipmPut
    repeat' first
      | exact sub_trans rfl hE | exact sub_trans rfl hW | exact sub_bit hW rfl | with_reducible first | assumption | apply State.ipmWrite_ok | apply ih
      | intro _
      | dsimp only
      | with_reducible apply ok_ite
      | split

theorem State.refuseHandle_ok {s0 : State} {E W : Nat} {s code hx st} (hE : sub 4610 E = true) (hW : sub 27701004964987707814776282354200485283934711099335726070375062282404489211931569123075436918859221038834939199713807606007352883842356135856647536292350498270034565912422514688 W = true) (h : Ok E W s0 s) :
    Ok E W s0 (State.refuseHandle s code hx st) := by
  unfold State.refuseHandle
  repeat' first
    | exact sub_trans rfl hE | exact sub_trans rfl hW | exact sub_bit hW rfl | with_reducible first | assumption | apply State.wr_ok | apply State.p_ok | apply State.when_ok | apply State.raiseSt_ok | apply State.journal_ok | apply ws_f_POOL_LAST_INFO_HOLDER | apply ws_f_POOL_LAST_INFO_OWNER | apply ws_f_POOL_LAST_INFO_STATUS | apply ws_r_POOL_LAST_REFUSED | apply wrF_of_wr
    | intro _
    | dsimp only
    | with_reducible apply ok_ite
    | split

theorem State.poolCounts_ok {s0 : State} {E W : Nat} {s} (hE : sub 2 E = true) (hW : sub 7599968576465556122611121465891718855399516095182037416879329587622545933073511214409482371809876286440357247578623929619588744774177851179882758253970973263741492894585227051008 W = true) (h : Ok E W s0 s) :
    Ok E W s0 (State.poolCounts s) := by
  unfold State.poolCounts
  repeat' first
    | exact sub_trans rfl hE | exact sub_trans rfl hW | exact sub_bit hW rfl | with_reducible first | assumption | apply State.each_ok | apply State.p_ok | apply ws_f_POOL_C_STATUS_FREE | apply ws_f_POOL_OD_USE01_CLASS_HI | apply ws_f_POOL_OD_USE01_CLASS_LO | apply ws_f_POOL_OD_USE23_CLASS_HI | apply ws_f_POOL_OD_USE23_CLASS_LO
    | intro _
    | dsimp only
    | with_reducible apply ok_ite
    | split

theorem State.poolAlloc_ok {s0 : State} {E W : Nat} {s n c} (hE : sub 134217730 E = true) (hW : sub 7599968576465556122611121465891718855399516095182037416879329587622545933073511214409482371809876286440357247578623929619588744774177851179882758253970973263741492894585227051008 W = true) (h : Ok E W s0 s) :
    Ok E W s0 (State.poolAlloc s n c).1 := by
  unfold State.poolAlloc
  repeat' first
    | exact sub_trans rfl hE | exact sub_trans rfl hW | exact sub_bit hW rfl | with_reducible first | assumption | apply State.poolCounts_ok | apply State.setBuf_ok | apply State.takeFree_ok
    | intro _
    | dsimp only
    | with_reducible apply ok_ite
    | split

theorem State.poolAlloc_ok' {s0 t0 : State} {E W : Nat} {s n c y0} (hE : sub 134217730 E = true) (hW : sub 7599968576465556122611121465891718855399516095182037416879329587622545933073511214409482371809876286440357247578623929619588744774177851179882758253970973263741492894585227051008 W = true) (h : Ok E W s0 s) (e : State.poolAlloc s n c = (t0, y0)) :
    Ok E W s0 t0 := by
  have r := State.poolAlloc_ok (s0 := s0) (E := E) (W := W) (s := s) (n := n) (c := c) hE hW h
  rw [e] at r
  exact r

theorem State.rotateKey_ok {s0 : State} {E W : Nat} {s n} (hE : sub 134217730 E = true) (hW : sub 7599968576465556122611121465891718855399516095182037416879329587622545933073511214409482371809876286440357247578623929619588744774177851179882758253970973263741492894585227051008 W = true) (h : Ok E W s0 s) :
    Ok E W s0 (State.rotateKey s n) := by
  unfold State.rotateKey
  repeat' first
    | exact sub_trans rfl hE | exact sub_trans rfl hW | exact sub_bit hW rfl | with_reducible first | assumption | apply State.poolCounts_ok | apply State.each_ok | apply State.freeBuf_ok
    | intro _
    | dsimp only
    | with_reducible apply ok_ite
    | ((with_reducible apply ok_mk) <;> first | exact Or.inr (sub_bit hE rfl) | exact Or.inr (Or.inr (sub_bit hE rfl)) | with_reducible first | exact Or.inl rfl | exact rfl | exact Or.inr (Or.inl rfl) | assumption | apply ok_ite | apply State.poolCounts_ok | apply State.each_ok | apply State.freeBuf_ok)
    | split

theorem State.sramPut_ok {s0 : State} {E W : Nat} {s a l} (hE : sub 134217732 E = true) (hW : sub 0 W = true) (h : Ok E W s0 s) :
    Ok E W s0 (State.sramPut s a l) := by
  induction l generalizing s a with
  | nil => exact h
  | cons x l ih => exact ih (ok_mem hE h id fun w => tabSet_wf _ _ _ w)

theorem State.poolFree_ok {s0 : State} {E W : Nat} {s n hx} (hE : sub 134222338 E = true) (hW : sub 7627669581430543830425897748245919340683450806281373142949704649904950422285442783532557808728735507479192186778337737225596097658020207315739405790263323762011527460497649565696 W = true) (h : Ok E W s0 s) :
    Ok E W s0 (State.poolFree s n hx).1 := by
  unfold State.poolFree
  repeat' first
    | exact sub_trans rfl hE | exact sub_trans rfl hW | exact sub_bit hW rfl | with_reducible first | assumption | apply State.refuseHandle_ok | apply State.poolCounts_ok | apply State.freeBuf_ok
    | intro _
    | dsimp only
    | with_reducible apply ok_ite
    | split

theorem State.poolFree_ok' {s0 t0 : State} {E W : Nat} {s n hx y0} (hE : sub 134222338 E = true) (hW : sub 7627669581430543830425897748245919340683450806281373142949704649904950422285442783532557808728735507479192186778337737225596097658020207315739405790263323762011527460497649565696 W = true) (h : Ok E W s0 s) (e : State.poolFree s n hx = (t0, y0)) :
    Ok E W s0 t0 := by
  have r := State.poolFree_ok (s0 := s0) (E := E) (W := W) (s := s) (n := n) (hx := hx) hE hW h
  rw [e] at r
  exact r

end Sys2Proof.Machine
end

