-- ==== Sys2Proof/Laws/KeepShaft.lean ====
section
/-! SUPPORT. What the definitions of Machine/Shaft.lean keep: the queue, and the canonical forms of the register window and of
the memories; one lemma for each. -/

namespace Sys2Proof.Machine

theorem State.setShaft_ok {s0 : State} {E W : Nat} {s hx x} (hE : sub 268435456 E = true) (hW : sub 0 W = true) (h : Ok E W s0 s) :
    Ok E W s0 (State.setShaft s hx x) := by
  unfold State.setShaft
  repeat' first
    | exact sub_trans rfl hE | exact sub_trans rfl hW | exact sub_bit hW rfl | with_reducible first | assumption
    | intro _
    | dsimp only
    | with_reducible apply ok_ite
    | ((with_reducible apply ok_mk) <;> first | exact Or.inr (sub_bit hE rfl) | exact Or.inr (Or.inr (sub_bit hE rfl)) | with_reducible first | exact Or.inl rfl | exact rfl | exact Or.inr (Or.inl rfl) | assumption | apply ok_ite)
    | split

theorem State.touchShaft_ok {s0 : State} {E W : Nat} {s hx t} (hE : sub 2 E = true) (hW : sub 26815615859885194199148049996411692254958731641184786755447122887443528060147093953603748596333806855380063716372972101707507765623893139892867298012168192 W = true) (h : Ok E W s0 s) :
    Ok E W s0 (State.touchShaft s hx t) := by
  unfold State.touchShaft
  repeat' first
    | exact sub_trans rfl hE | exact sub_trans rfl hW | exact sub_bit hW rfl | with_reducible first | assumption | apply State.p_ok | apply ws_f_LSH_SH_STATUS_STATE
    | intro _
    | dsimp only
    | with_reducible apply ok_ite
    | split

theorem State.setFol_ok {s0 : State} {E W : Nat} {s k x} (hE : sub 268435456 E = true) (hW : sub 0 W = true) (h : Ok E W s0 s) :
    Ok E W s0 (State.setFol s k x) := by
  unfold State.setFol
  repeat' first
    | exact sub_trans rfl hE | exact sub_trans rfl hW | exact sub_bit hW rfl | with_reducible first | assumption
    | intro _
    | dsimp only
    | with_reducible apply ok_ite
    | ((with_reducible apply ok_mk) <;> first | exact Or.inr (sub_bit hE rfl) | exact Or.inr (Or.inr (sub_bit hE rfl)) | with_reducible first | exact Or.inl rfl | exact rfl | exact Or.inr (Or.inl rfl) | assumption | apply ok_ite)
    | split

theorem State.movePhase_ok {s0 : State} {E W : Nat} {s k t} (hE : sub 268435458 E = true) (hW : sub 25573364124188608359478044506465618376692515984711443667838213813251045284411519960025547596296126227741302219746563054779316857393295717627515109376 W = true) (h : Ok E W s0 s) :
    Ok E W s0 (State.movePhase s k t).1 := by
  unfold State.movePhase
  repeat' first
    | exact sub_trans rfl hE | exact sub_trans rfl hW | exact sub_bit hW rfl | with_reducible first | assumption | apply State.setFol_ok | apply State.pb_ok | apply State.wr_ok | apply ws_f_LSH_FOL_STATUS_PH_MOVING | apply ws_r_LSH_FOL_PH | apply wrF_of_wr
    | intro _
    | dsimp only
    | with_reducible apply ok_ite
    | split

theorem State.movePhase_ok' {s0 t0 : State} {E W : Nat} {s k t y0} (hE : sub 268435458 E = true) (hW : sub 25573364124188608359478044506465618376692515984711443667838213813251045284411519960025547596296126227741302219746563054779316857393295717627515109376 W = true) (h : Ok E W s0 s) (e : State.movePhase s k t = (t0, y0)) :
    Ok E W s0 t0 := by
  have r := State.movePhase_ok (s0 := s0) (E := E) (W := W) (s := s) (k := k) (t := t) hE hW h
  rw [e] at r
  exact r

theorem State.camBoundary_ok {s0 : State} {E W : Nat} {s k x} (hE : sub 268435458 E = true) (hW : sub 7991676288808940112336888908270505742716411245222326146199441816640951651378599987507983623842539446169156943670800954612346817738978010384102850560 W = true) (h : Ok E W s0 s) :
    Ok E W s0 (State.camBoundary s k x) := by
  unfold State.camBoundary
  repeat' first
    | exact sub_trans rfl hE | exact sub_trans rfl hW | exact sub_bit hW rfl | with_reducible first | assumption | apply State.setFol_ok | apply State.on_ok | apply State.p_ok | apply ws_f_LSH_FOL_CFG_TABLE | apply ws_f_LSH_FOL_STATUS_CAM_SWITCHED
    | intro _
    | dsimp only
    | with_reducible apply ok_ite
    | split

theorem State.followShaft_ok {s0 : State} {E W : Nat} {s k t} (hE : sub 268435458 E = true) (hW : sub 26815700571653855573913240767434119922319604435143986112104272601526784454234598566763616180960219586298193109436575012197626715921283058758030564660346880 W = true) (h : Ok E W s0 s) :
    Ok E W s0 (State.followShaft s k t).1 := by
  unfold State.followShaft
  repeat' first
    | exact sub_trans rfl hE | exact sub_trans rfl hW | exact sub_bit hW rfl | with_reducible first | assumption | apply State.touchShaft_ok | apply State.movePhase_ok | refine State.movePhase_ok' ?_ ?_ ?_ (by assumption) | apply State.camBoundary_ok | apply State.wr_ok | apply State.p_ok | apply State.setFol_ok | apply ws_f_LSH_FOL_STATUS_STATE | apply ws_r_LSH_FOL_REG_CORR | apply wrF_of_wr
    | intro _
    | dsimp only
    | with_reducible apply ok_ite
    | split

theorem State.followShaft_ok' {s0 t0 : State} {E W : Nat} {s k t y0} (hE : sub 268435458 E = true) (hW : sub 26815700571653855573913240767434119922319604435143986112104272601526784454234598566763616180960219586298193109436575012197626715921283058758030564660346880 W = true) (h : Ok E W s0 s) (e : State.followShaft s k t = (t0, y0)) :
    Ok E W s0 t0 := by
  have r := State.followShaft_ok (s0 := s0) (E := E) (W := W) (s := s) (k := k) (t := t) hE hW h
  rw [e] at r
  exact r

theorem State.setCam_ok {s0 : State} {E W : Nat} {s t x} (hE : sub 268435456 E = true) (hW : sub 0 W = true) (h : Ok E W s0 s) :
    Ok E W s0 (State.setCam s t x) := by
  unfold State.setCam
  repeat' first
    | exact sub_trans rfl hE | exact sub_trans rfl hW | exact sub_bit hW rfl | with_reducible first | assumption
    | intro _
    | dsimp only
    | with_reducible apply ok_ite
    | ((with_reducible apply ok_mk) <;> first | exact Or.inr (sub_bit hE rfl) | exact Or.inr (Or.inr (sub_bit hE rfl)) | with_reducible first | exact Or.inl rfl | exact rfl | exact Or.inr (Or.inl rfl) | assumption | apply ok_ite)
    | split

theorem State.takeSegment_ok {s0 : State} {E W : Nat} {s hx c missing} (hE : sub 268435970 E = true) (hW : sub 630166972707302063679979174915674767991530193567842488753007387854922909413456707909688092013844461101431497334764844390126513621799903394164077292291096576 W = true) (h : Ok E W s0 s) :
    Ok E W s0 (State.takeSegment s hx c missing) := by
  unfold State.takeSegment
  repeat' first
    | exact sub_trans rfl hE | exact sub_trans rfl hW | exact sub_bit hW rfl | with_reducible first | assumption | apply State.setShaft_ok | apply State.wr_ok | apply State.p_ok | apply State.raiseSt_ok | apply State.on_ok | apply ws_f_LSH_SH_STATUS_MISSING | apply ws_f_LSH_SH_STATUS_STATE | apply ws_f_LSH_SH_STATUS_SWITCHED | apply ws_f_LSH_SH_STATUS_USED_MASTER | apply ws_f_LSH_STATUS_LOST | apply ws_r_LSH_SH_SEQ | apply wrF_of_wr
    | intro _
    | dsimp only
    | with_reducible apply ok_ite
    | split

end Sys2Proof.Machine
end

