-- ==== Sys2Proof/Laws/KeepLineShaft.lean ====
section
/-! SUPPORT. What the definitions of Machine/LineShaft.lean keep: the queue, and the canonical forms of the register window and of
the memories; one lemma for each. -/

namespace Sys2Proof.Machine

theorem State.camRefuse_ok {s0 : State} {E W : Nat} {s t err} (hE : sub 2 E = true) (hW : sub 149843930415167627106316667030071982675932710847918615241239534062017843463348749765774692947047614615671692693827517898981502832605837694701928448 W = true) (h : Ok E W s0 s) :
    Ok E W s0 (State.camRefuse s t err) := by
  unfold State.camRefuse
  repeat' first
    | exact sub_trans rfl hE | exact sub_trans rfl hW | exact sub_bit hW rfl | with_reducible first | assumption | apply State.p_ok | apply ws_f_LSH_CAM_STATUS_ERR | apply ws_f_LSH_CAM_STATUS_STATE
    | intro _
    | dsimp only
    | with_reducible apply ok_ite
    | split

theorem State.camLoad_ok {s0 : State} {E W : Nat} {s t} (hE : sub 402657798 E = true) (hW : sub 27701004964987707814776282354350329214349878726442042737405134265080421922779487738316676452921238882298287949479582298954400498458027828550475054191332001102640403607124443136 W = true) (h : Ok E W s0 s) :
    Ok E W s0 (State.camLoad s t) := by
  unfold State.camLoad
  repeat' first
    | exact sub_trans rfl hE | exact sub_trans rfl hW | exact sub_bit hW rfl | with_reducible first | assumption | apply State.camRefuse_ok | apply State.refuseHandle_ok | apply State.ipmPut_ok | apply State.setCam_ok | apply State.p_ok | apply ws_f_LSH_CAM_STATUS_ERR | apply ws_f_LSH_CAM_STATUS_STATE
    | intro _
    | dsimp only
    | with_reducible apply ok_ite
    | split

theorem wrCamCmd_ok {s0 : State} {E W : Nat} {t v s} (hE : sub 402657798 E = true) (hW : sub 27701004964987707814776282354350329214349878726442042737405134265080421922779487738316676452921238882298287949479582298954400498458027828550475054191332001102640403607124443136 W = true) (h : Ok E W s0 s) :
    Ok E W s0 (wrCamCmd t v s) := by
  unfold wrCamCmd
  repeat' first
    | exact sub_trans rfl hE | exact sub_trans rfl hW | exact sub_bit hW rfl | with_reducible first | assumption | apply State.when_ok | apply State.p_ok | apply State.camLoad_ok | apply ws_f_LSH_CAM_STATUS_ERR | apply ws_f_LSH_CAM_STATUS_STATE
    | intro _
    | dsimp only
    | with_reducible apply ok_ite
    | split

theorem execCamCommit_ok {s0 : State} {E W : Nat} {rq t s} (hE : sub 402657798 E = true) (hW : sub 27701004964987707814776282354350329214349878726442042814872630607687679612457062898407032682812412667174993334399362995173829158963263667439835652595466944207405678900113571840 W = true) (h : Ok E W s0 s) :
    OkOut E W s0 (execCamCommit rq t s) := by
  unfold execCamCommit
  repeat' first
    | exact sub_trans rfl hE | exact sub_trans rfl hW | exact sub_bit hW rfl | with_reducible first | assumption | apply okOut_next | apply okOut_fault | apply State.write_ok | apply wrCamCmd_ok
    | intro _
    | dsimp only
    | with_reducible apply ok_ite
    | split

theorem wrFolCmd_ok {s0 : State} {E W : Nat} {k v s} (hE : sub 1882739202 E = true) (hW : sub 1224720827664335617602385987214491705952321107045573491620428702487974320953089832699552777413401501565641819803000543329363164174898516018395157457603245627684893425137294100072483165240614730927702144 W = true) (h : Ok E W s0 s) :
    Ok E W s0 (wrFolCmd k v s) := by
  unfold wrFolCmd
  repeat' first
    | exact sub_trans rfl hE | exact sub_trans rfl hW | exact sub_bit hW rfl | with_reducible first | assumption | apply State.on_ok | apply State.setFol_ok | apply State.configuredStop_ok | apply ws_f_LSH_FOL_STATUS_CAM_MISMATCH | apply ws_f_LSH_FOL_STATUS_CMD_REFUSED
    | intro _
    | dsimp only
    | with_reducible apply ok_ite
    | split

theorem execApplyRatio_ok {s0 : State} {E W : Nat} {rq k s} (hE : sub 1882739202 E = true) (hW : sub 1224720827664335617602385987214491705952321107045573491620428702487974320953089910167049120020659191243216979893356773220536949051603900938175853677031906132920732314497892504207426270005890023916830848 W = true) (h : Ok E W s0 s) :
    OkOut E W s0 (execApplyRatio rq k s) := by
  unfold execApplyRatio
  repeat' first
    | exact sub_trans rfl hE | exact sub_trans rfl hW | exact sub_bit hW rfl | with_reducible first | assumption | apply okOut_next | apply okOut_fault | apply State.write_ok | apply wrFolCmd_ok
    | intro _
    | dsimp only
    | with_reducible apply ok_ite
    | split

theorem State.regResult_ok {s0 : State} {E W : Nat} {s r res} (hE : sub 514 E = true) (hW : sub 261871248631691349601055175746207932177331363683445183158663309447690703712373964390661607386072332572070934730204805680737380523670831444266282207150080 W = true) (h : Ok E W s0 s) :
    Ok E W s0 (State.regResult s r res) := by
  unfold State.regResult
  repeat' first
    | exact sub_trans rfl hE | exact sub_trans rfl hW | exact sub_bit hW rfl | with_reducible first | assumption | apply State.raiseSt_ok | apply State.on_ok | apply State.p_ok | apply ws_f_LSH_REG_STATUS_NEW | apply ws_f_LSH_REG_STATUS_RESULT
    | intro _
    | dsimp only
    | with_reducible apply ok_ite
    | split

theorem State.setReg_ok {s0 : State} {E W : Nat} {s r x} (hE : sub 268435456 E = true) (hW : sub 0 W = true) (h : Ok E W s0 s) :
    Ok E W s0 (State.setReg s r x) := by
  unfold State.setReg
  repeat' first
    | exact sub_trans rfl hE | exact sub_trans rfl hW | exact sub_bit hW rfl | with_reducible first | assumption
    | intro _
    | dsimp only
    | with_reducible apply ok_ite
    | ((with_reducible apply ok_mk) <;> first | exact Or.inr (sub_bit hE rfl) | exact Or.inr (Or.inr (sub_bit hE rfl)) | with_reducible first | exact Or.inl rfl | exact rfl | exact Or.inr (Or.inl rfl) | assumption | apply ok_ite)
    | split

theorem State.regClose_ok {s0 : State} {E W : Nat} {s r t res} (hE : sub 268435970 E = true) (hW : sub 366619748084367889441477246044691105048263909156823256422128633226766985197323550146926250340501265600899308622286727953032332733139164021972795090010112 W = true) (h : Ok E W s0 s) :
    Ok E W s0 (State.regClose s r t res) := by
  unfold State.regClose
  repeat' first
    | exact sub_trans rfl hE | exact sub_trans rfl hW | exact sub_bit hW rfl | with_reducible first | assumption | apply State.regResult_ok | apply State.off_ok | apply State.setReg_ok | apply ws_f_LSH_REG_STATUS_OPEN
    | intro _
    | dsimp only
    | with_reducible apply ok_ite
    | split

theorem execRegWindowTimeout_ok {s0 : State} {E W : Nat} {r s} (hE : sub 268435970 E = true) (hW : sub 366619748084367889441477246044691105048263909156823256422128633226766985197323550146926250340501265600899308622286727953032332733139164021972795090010112 W = true) (h : Ok E W s0 s) :
    OkOut E W s0 (execRegWindowTimeout r s) := by
  unfold execRegWindowTimeout
  repeat' first
    | exact sub_trans rfl hE | exact sub_trans rfl hW | exact sub_bit hW rfl | with_reducible first | assumption | apply okOut_next | apply okOut_fault | apply State.regClose_ok
    | intro _
    | dsimp only
    | with_reducible apply ok_ite
    | split

theorem State.setCsw_ok {s0 : State} {E W : Nat} {s c x} (hE : sub 268435456 E = true) (hW : sub 0 W = true) (h : Ok E W s0 s) :
    Ok E W s0 (State.setCsw s c x) := by
  unfold State.setCsw
  repeat' first
    | exact sub_trans rfl hE | exact sub_trans rfl hW | exact sub_bit hW rfl | with_reducible first | assumption
    | intro _
    | dsimp only
    | with_reducible apply ok_ite
    | ((with_reducible apply ok_mk) <;> first | exact Or.inr (sub_bit hE rfl) | exact Or.inr (Or.inr (sub_bit hE rfl)) | with_reducible first | exact Or.inl rfl | exact rfl | exact Or.inr (Or.inl rfl) | assumption | apply ok_ite)
    | split

theorem State.cswCancel_ok {s0 : State} {E W : Nat} {s c} (hE : sub 642 E = true) (hW : sub 234722566292021001819330758897163131391413638082369910927001885692769405916688509917522312596943848464335658920665606956416579848124659095761321984 W = true) (h : Ok E W s0 s) :
    Ok E W s0 (State.cswCancel s c) := by
  unfold State.cswCancel
  repeat' first
    | exact sub_trans rfl hE | exact sub_trans rfl hW | exact sub_bit hW rfl | with_reducible first | assumption | apply State.cancel_ok | apply State.when_ok | apply State.on_ok | apply ws_f_LSH_CSW_STATUS_CANCELLED
    | intro _
    | dsimp only
    | with_reducible apply ok_ite
    | split

theorem State.shaftPush_ok {s0 : State} {E W : Nat} {s q e} (hE : sub 642 E = true) (hW : sub 34924561906660163088581619008311048045562441721064364750236818485808846328046127875095924528022816427350563791920736593797566732822710226226511872 W = true) (h : Ok E W s0 s) :
    Ok E W s0 (State.shaftPush s q e) := by
  unfold State.shaftPush
  repeat' first
    | exact sub_trans rfl hE | exact sub_trans rfl hW | exact sub_bit hW rfl | with_reducible first | assumption | apply State.push_ok
    | intro _
    | dsimp only
    | with_reducible apply ok_ite
    | split

theorem State.cswLaunch_ok {s0 : State} {E W : Nat} {s c t on} (hE : sub 642 E = true) (hW : sub 34924561906660163088581619008311048045562441721064364750236818485808846328046127875095924528022816427350563791920736593797566732822710226226511872 W = true) (h : Ok E W s0 s) :
    Ok E W s0 (State.cswLaunch s c t on) := by
  unfold State.cswLaunch
  repeat' first
    | exact sub_trans rfl hE | exact sub_trans rfl hW | exact sub_bit hW rfl | with_reducible first | assumption | apply State.shaftPush_ok
    | intro _
    | dsimp only
    | with_reducible apply ok_ite
    | split

theorem State.cswRecheck_ok {s0 : State} {E W : Nat} {s c} (hE : sub 268436098 E = true) (hW : sub 634306380732468007436175204310688418527234200343486218236973976524816988485618509292921493789070820772793506104205654687033920735073559614966464512 W = true) (h : Ok E W s0 s) :
    Ok E W s0 (State.cswRecheck s c) := by
  unfold State.cswRecheck
  repeat' first
    | exact sub_trans rfl hE | exact sub_trans rfl hW | exact sub_bit hW rfl | with_reducible first | assumption | apply State.setCsw_ok | apply State.when_ok | apply State.cswCancel_ok | apply State.on_ok | apply State.each_ok | apply State.cswLaunch_ok | apply ws_f_LSH_CSW_STATUS_REVERSED
    | intro _
    | dsimp only
    | with_reducible apply ok_ite
    | split

theorem execNextTable_ok {s0 : State} {E W : Nat} {rq k s} (hE : sub 1882739202 E = true) (hW : sub 1224720827664335617602385987214491705952321107045573491620428702487974320953089910167049120020659191243216979893356773220536949051603900938175853677031906132920732314497892504207426270005890023916830848 W = true) (h : Ok E W s0 s) :
    OkOut E W s0 (execNextTable rq k s) := by
  unfold execNextTable
  repeat' first
    | exact sub_trans rfl hE | exact sub_trans rfl hW | exact sub_bit hW rfl | with_reducible first | assumption | apply okOut_next | apply okOut_fault | apply State.write_ok | apply wrFolCmd_ok
    | intro _
    | dsimp only
    | with_reducible apply ok_ite
    | split

theorem execCamRelease_ok {s0 : State} {E W : Nat} {rq t s} (hE : sub 402657798 E = true) (hW : sub 27701004964987707814776282354350329214349878726442042814872630607687679612457062898407032682812412667174993334399362995173829158963263667439835652595466944207405678900113571840 W = true) (h : Ok E W s0 s) :
    OkOut E W s0 (execCamRelease rq t s) := by
  unfold execCamRelease
  repeat' first
    | exact sub_trans rfl hE | exact sub_trans rfl hW | exact sub_bit hW rfl | with_reducible first | assumption | apply okOut_next | apply okOut_fault | apply State.write_ok | apply wrCamCmd_ok
    | intro _
    | dsimp only
    | with_reducible apply ok_ite
    | split

theorem State.trimFrame_ok {s0 : State} {E W : Nat} {s} (hE : sub 8210 E = true) (hW : sub 293567822846729153486185074598667128421960318613539983838411371441526128139326055432962374798096087878991872 W = true) (h : Ok E W s0 s) :
    Ok E W s0 (State.trimFrame s) := by
  unfold State.trimFrame
  repeat' first
    | exact sub_trans rfl hE | exact sub_trans rfl hW | exact sub_bit hW rfl | with_reducible first | assumption | apply State.took_ok | apply State.p_ok | apply ws_f_CLK_TRIM_MG_TRIM
    | intro _
    | dsimp only
    | with_reducible apply ok_ite
    | ((with_reducible apply ok_mk) <;> first | exact Or.inr (sub_bit hE rfl) | exact Or.inr (Or.inr (sub_bit hE rfl)) | with_reducible first | exact Or.inl rfl | exact rfl | exact Or.inr (Or.inl rfl) | assumption | apply ok_ite | apply State.took_ok | apply State.p_ok | apply ws_f_CLK_TRIM_MG_TRIM)
    | split

theorem State.setMember_ok {s0 : State} {E W : Nat} {s m x} (hE : sub 268435456 E = true) (hW : sub 0 W = true) (h : Ok E W s0 s) :
    Ok E W s0 (State.setMember s m x) := by
  unfold State.setMember
  repeat' first
    | exact sub_trans rfl hE | exact sub_trans rfl hW | exact sub_bit hW rfl | with_reducible first | assumption
    | intro _
    | dsimp only
    | with_reducible apply ok_ite
    | ((with_reducible apply ok_mk) <;> first | exact Or.inr (sub_bit hE rfl) | exact Or.inr (Or.inr (sub_bit hE rfl)) | with_reducible first | exact Or.inl rfl | exact rfl | exact Or.inr (Or.inl rfl) | assumption | apply ok_ite)
    | split

theorem State.memberGone_ok {s0 : State} {E W : Nat} {s m} (hE : sub 268435458 E = true) (hW : sub 5012379368340967238457696723267261201831733133003442958896289907397204875744657912165007328874040740637295235070326358733497749386001122813657659473920 W = true) (h : Ok E W s0 s) :
    Ok E W s0 (State.memberGone s m) := by
  unfold State.memberGone
  repeat' first
    | exact sub_trans rfl hE | exact sub_trans rfl hW | exact sub_bit hW rfl | with_reducible first | assumption | apply State.setMember_ok | apply State.setPresent_ok | apply State.on_ok | apply State.off_ok | apply ws_f_LSH_JOIN_STATUS_COMPLETE | apply ws_f_LSH_JOIN_STATUS_LOST_MEMBER
    | intro _
    | dsimp only
    | with_reducible apply ok_ite
    | ((with_reducible apply ok_mk) <;> first | exact Or.inr (sub_bit hE rfl) | exact Or.inr (Or.inr (sub_bit hE rfl)) | with_reducible first | exact Or.inl rfl | exact rfl | exact Or.inr (Or.inl rfl) | assumption | apply ok_ite | apply State.setMember_ok | apply State.setPresent_ok | apply State.on_ok | apply State.off_ok | apply ws_f_LSH_JOIN_STATUS_COMPLETE | apply ws_f_LSH_JOIN_STATUS_LOST_MEMBER)
    | split

theorem State.receiveJoin_ok {s0 : State} {E W : Nat} {s src domain m j} (hE : sub 268435458 E = true) (hW : sub 25266483754698345059164307972388030956172205792894906343824155247492032740998581720505241025140572713008406593109604298103029524263666992331127923933184 W = true) (h : Ok E W s0 s) :
    Ok E W s0 (State.receiveJoin s src domain m j) := by
  unfold State.receiveJoin
  repeat' first
    | exact sub_trans rfl hE | exact sub_trans rfl hW | exact sub_bit hW rfl | with_reducible first | assumption | apply State.memberGone_ok | apply State.on_ok | apply State.setMember_ok | apply State.setPresent_ok | apply State.when_ok | apply ws_f_LSH_JOIN_STATUS_CYCLE_MISMATCH | apply ws_f_LSH_JOIN_STATUS_DUPLICATE | apply ws_f_LSH_JOIN_STATUS_ROLE_CONFLICT | apply ws_f_LSH_JOIN_STATUS_UNEXPECTED
    | intro _
    | dsimp only
    | with_reducible apply ok_ite
    | split

theorem State.putAnchor_ok {s0 : State} {E W : Nat} {s lo hi p} (hE : sub 2 E = true) (hW : sub 0 W = true) (hw0 : Wr W lo) (hw1 : Wr W hi) (h : Ok E W s0 s) :
    Ok E W s0 (State.putAnchor s lo hi p) := by
  unfold State.putAnchor
  repeat' first
    | exact sub_trans rfl hE | exact sub_trans rfl hW | exact sub_bit hW rfl | with_reducible first | assumption | apply State.wr64_ok
    | intro _
    | dsimp only
    | with_reducible apply ok_ite
    | split

theorem State.ratioAt_ok {s0 : State} {E W : Nat} {s k t} (hE : sub 268435458 E = true) (hW : sub 51146728248377216718956089012931236753385031969422887335676427626502090568823039920051095192592252455482604439493126109771559401543676842537679585280 W = true) (h : Ok E W s0 s) :
    Ok E W s0 (State.ratioAt s k t) := by
  unfold State.ratioAt
  repeat' first
    | exact sub_trans rfl hE | exact sub_trans rfl hW | exact sub_bit hW rfl | with_reducible first | assumption | apply State.putAnchor_ok | apply State.p_ok | apply State.setFol_ok | apply ws_f_LSH_FOL_STATUS_STATE | apply ws_r_LSH_FOL_M_ORG_HI | apply ws_r_LSH_FOL_M_ORG_LO | apply ws_r_LSH_FOL_X_ORG_HI | apply ws_r_LSH_FOL_X_ORG_LO | apply wrF_of_wr
    | intro _
    | dsimp only
    | with_reducible apply ok_ite
    | split

theorem State.regMove_ok {s0 : State} {E W : Nat} {s r t x3} (hE : sub 268435970 E = true) (hW : sub 366619748084367889441477246044691105048263909156823256422128633226766985197323550146926250340501265600899308622286727953032332733139164021972795090010112 W = true) (h : Ok E W s0 s) :
    Ok E W s0 (State.regMove s r t x3) := by
  unfold State.regMove
  repeat' first
    | exact sub_trans rfl hE | exact sub_trans rfl hW | exact sub_bit hW rfl | with_reducible first | assumption | apply State.on_ok | apply State.setReg_ok | apply State.off_ok | apply State.regClose_ok | apply ws_f_LSH_REG_STATUS_OPEN
    | intro _
    | dsimp only
    | with_reducible apply ok_ite
    | split

theorem State.regAdvance_ok {s0 : State} {E W : Nat} {s r t} (hE : sub 268435970 E = true) (hW : sub 366619748084367889441477246044691105048263909156823256422128633226766985197323550146926250340501265600899308622286727953032332733139164021972795090010112 W = true) (h : Ok E W s0 s) :
    Ok E W s0 (State.regAdvance s r t) := by
  unfold State.regAdvance
  repeat' first
    | exact sub_trans rfl hE | exact sub_trans rfl hW | exact sub_bit hW rfl | with_reducible first | assumption | apply State.setReg_ok | apply State.each_ok | apply State.regMove_ok | apply State.when_ok | apply State.regClose_ok
    | intro _
    | dsimp only
    | with_reducible apply ok_ite
    | split

theorem State.shaftLost_ok {s0 : State} {E W : Nat} {s hx} (hE : sub 1882739330 E = true) (hW : sub 1224720827664335617602385987214491705952321108359905273553425203690705036402549277480781111970845147998923203069022619336729359748977657141445621932946167781520279082902000141334012328079524494579859584 W = true) (h : Ok E W s0 s) :
    Ok E W s0 (State.shaftLost s hx) := by
  unfold State.shaftLost
  repeat' first
    | exact sub_trans rfl hE | exact sub_trans rfl hW | exact sub_bit hW rfl | with_reducible first | assumption | apply State.p_ok | apply State.each_ok | apply State.configuredStop_ok | apply State.setCsw_ok | apply State.cswCancel_ok | apply State.off_ok | apply State.cswLaunch_ok | apply State.regClose_ok | apply State.raiseSt_ok | apply State.setShaft_ok | apply ws_f_LSH_CSW_STATUS_STATE | apply ws_f_LSH_SH_STATUS_STATE | apply ws_f_LSH_STATUS_LOST | apply ws_f_LSH_STATUS_LOST_SEEN
    | intro _
    | dsimp only
    | with_reducible apply ok_ite
    | split

theorem State.shaftCycle_ok {s0 : State} {E W : Nat} {s cyc hx} (hE : sub 1882739330 E = true) (hW : sub 1224720827664335617602385987214491705952321108534206776642678965985167361379225277138012867638546261909329501837405551727685470447402023017615366492916581937944597744001104854033372512439521140428243072 W = true) (h : Ok E W s0 s) :
    Ok E W s0 (State.shaftCycle s cyc hx) := by
  unfold State.shaftCycle
  repeat' first
    | exact sub_trans rfl hE | exact sub_trans rfl hW | exact sub_bit hW rfl | with_reducible first | assumption | apply State.takeSegment_ok | apply State.shaftLost_ok | apply State.touchShaft_ok | apply State.p_ok | apply State.setShaft_ok | apply State.wr_ok | apply State.wr64_ok | apply ws_f_LSH_SH_STATUS_MISSING | apply ws_r_LSH_SH_POS_HI | apply ws_r_LSH_SH_POS_LO | apply ws_r_LSH_SH_VEL | apply wrF_of_wr
    | intro _
    | dsimp only
    | with_reducible apply ok_ite
    | split

theorem State.regSteps_ok {s0 : State} {E W : Nat} {s cyc} (hE : sub 268435458 E = true) (hW : sub 10180818883082967380770397618176 W = true) (h : Ok E W s0 s) :
    Ok E W s0 (State.regSteps s cyc) := by
  unfold State.regSteps
  repeat' first
    | exact sub_trans rfl hE | exact sub_trans rfl hW | exact sub_bit hW rfl | with_reducible first | assumption | apply State.each_ok | apply State.setFol_ok | apply State.wr_ok | apply ws_r_LSH_FOL_REG_CORR | apply ws_r_LSH_REG_PEND | apply wrF_of_wr
    | intro _
    | dsimp only
    | with_reducible apply ok_ite
    | split

theorem State.publish_ok {s0 : State} {E W : Nat} {s cyc hx} (hE : sub 1882739330 E = true) (hW : sub 1255338848355943999476252088746034230463903515027248841466344380200720949733577177134938908917717447753912616808237482055831494697776364832831291183279217249629043516824193080373409921144112326596062347392 W = true) (h : Ok E W s0 s) :
    Ok E W s0 (State.publish s cyc hx) := by
  unfold State.publish
  repeat' first
    | exact sub_trans rfl hE | exact sub_trans rfl hW | exact sub_bit hW rfl | with_reducible first | assumption | apply State.evaluate_ok | apply State.when_ok | apply State.on_ok | apply State.setShaft_ok | apply State.each_ok | apply State.shaftPush_ok | apply ws_f_LSH_SH_STATUS_FIT_LIMIT
    | intro _
    | dsimp only
    | with_reducible apply ok_ite
    | split

theorem State.cswState_ok {s0 : State} {E W : Nat} {s c m} (hE : sub 2 E = true) (hW : sub 799167628880894011233688890827050574271641124522232614619944181664095165137859998750798362384253944616915694367080095461234681773897801038410285056 W = true) (h : Ok E W s0 s) :
    Ok E W s0 (State.cswState s c m) := by
  unfold State.cswState
  repeat' first
    | exact sub_trans rfl hE | exact sub_trans rfl hW | exact sub_bit hW rfl | with_reducible first | assumption | apply State.pb_ok | apply ws_f_LSH_CSW_STATUS_STATE
    | intro _
    | dsimp only
    | with_reducible apply ok_ite
    | split

theorem State.areaPut_ok {s0 : State} {E W : Nat} {s p x2 x3} (hE : sub 2 E = true) (hW : sub 306180206916083902309240650087602475282639486413866622577088471913520022894784390350900738050555138105234536857820245071373614031482942161565170086143298589738273508330367307539078392896587187265470464 W = true) (h : Ok E W s0 s) :
    Ok E W s0 (State.areaPut s p x2 x3) := by
  induction x3 generalizing s p x2 with
  | nil =>
    unfold State.areaPut
    repeat' first
      | exact sub_trans rfl hE | exact sub_trans rfl hW | exact sub_bit hW rfl | with_reducible first | assumption | apply State.p_ok | apply ws_w_areaWord | apply wrF_of_wr | apply ih
      | intro _
      | dsimp only
      | with_reducible apply ok_ite
      | split
  | cons x l ih =>
    unfold State.areaPut
    repeat' first
      | exact sub_trans rfl hE | exact sub_trans rfl hW | exact sub_bit hW rfl | with_reducible first | assumption | apply State.p_ok | apply ws_w_areaWord | apply wrF_of_wr | apply ih
      | intro _
      | dsimp only
      | with_reducible apply ok_ite
      | split

theorem State.joinCycle_ok {s0 : State} {E W : Nat} {s cyc} (hE : sub 268436098 E = true) (hW : sub 306180206916083902309240650087602475282639486413867440959665007855647689280790216258999840256629090592496272430899087590631561528167790854184176090205402738759869190268856205650781597067560745623879680 W = true) (h : Ok E W s0 s) :
    Ok E W s0 (State.joinCycle s cyc) := by
  unfold State.joinCycle
  repeat' first
    | exact sub_trans rfl hE | exact sub_trans rfl hW | exact sub_bit hW rfl | with_reducible first | assumption | apply State.pb_ok | apply State.each_ok | apply State.shaftPush_ok | apply State.areaPut_ok | apply ws_f_LSH_JOIN_STATUS_JOINING
    | intro _
    | dsimp only
    | with_reducible apply ok_ite
    | ((with_reducible apply ok_mk) <;> first | exact Or.inr (sub_bit hE rfl) | exact Or.inr (Or.inr (sub_bit hE rfl)) | with_reducible first | exact Or.inl rfl | exact rfl | exact Or.inr (Or.inl rfl) | assumption | apply ok_ite | apply State.pb_ok | apply State.each_ok | apply State.shaftPush_ok | apply State.areaPut_ok | apply ws_f_LSH_JOIN_STATUS_JOINING)
    | split

theorem State.predict_ok {s0 : State} {E W : Nat} {s cyc} (hE : sub 268436098 E = true) (hW : sub 34924561906660163088581619008311048045562441721064364750236818485808846328046127875095924528022816427350563791920736593797566732822710226226511872 W = true) (h : Ok E W s0 s) :
    Ok E W s0 (State.predict s cyc) := by
  unfold State.predict
  repeat' first
    | exact sub_trans rfl hE | exact sub_trans rfl hW | exact sub_bit hW rfl | with_reducible first | assumption | apply State.each_ok | apply State.setCsw_ok | apply State.cswLaunch_ok
    | intro _
    | dsimp only
    | with_reducible apply ok_ite
    | split

theorem execLineShaftCycleStart_ok {s0 : State} {E W : Nat} {s} (hE : sub 1882739330 E = true) (hW : sub 1255645028562860083378561329396121832939186154515151342208639382740318797367397561819574283524676739774112440632911168238962781758247073849325870148225896220470133697274626241281556318070605675356542206080 W = true) (h : Ok E W s0 s) :
    OkOut E W s0 (execLineShaftCycleStart s) := by
  unfold execLineShaftCycleStart
  repeat' first
    | exact sub_trans rfl hE | exact sub_trans rfl hW | exact sub_bit hW rfl | with_reducible first | assumption | apply okOut_next | apply okOut_fault | apply State.each_ok | apply State.regAdvance_ok | apply State.shaftCycle_ok | apply State.regSteps_ok | apply State.publish_ok | apply State.cswRecheck_ok | apply State.cswState_ok | apply State.joinCycle_ok | apply State.predict_ok
    | intro _
    | dsimp only
    | with_reducible apply ok_ite
    | ((with_reducible apply ok_mk) <;> first | exact Or.inr (sub_bit hE rfl) | exact Or.inr (Or.inr (sub_bit hE rfl)) | with_reducible first | exact Or.inl rfl | exact rfl | exact Or.inr (Or.inl rfl) | assumption | apply ok_ite | apply State.each_ok | apply State.regAdvance_ok | apply State.shaftCycle_ok | apply State.regSteps_ok | apply State.publish_ok | apply State.cswRecheck_ok | apply State.cswState_ok | apply State.joinCycle_ok | apply State.predict_ok)
    | split

theorem State.engageAt_ok {s0 : State} {E W : Nat} {s k t} (hE : sub 268959746 E = true) (hW : sub 56236422431853888195442202866973468347137378024715689203721223266817565292926725992199037376198699583364751698488364444589469733330833774242650337560791489708032 W = true) (h : Ok E W s0 s) :
    Ok E W s0 (State.engageAt s k t) := by
  unfold State.engageAt
  repeat' first
    | exact sub_trans rfl hE | exact sub_trans rfl hW | exact sub_bit hW rfl | with_reducible first | assumption | apply State.on_ok | apply State.putAnchor_ok | apply State.setFol_ok | apply State.setChan_ok | apply State.setChanState_ok | apply State.p_ok | apply ws_f_LSH_FOL_STATUS_CMD_REFUSED | apply ws_f_LSH_FOL_STATUS_STATE | apply ws_r_LSH_FOL_F_ORG_HI | apply ws_r_LSH_FOL_F_ORG_LO | apply ws_r_LSH_FOL_M_ORG_HI | apply ws_r_LSH_FOL_M_ORG_LO | apply ws_r_LSH_FOL_X_ORG_HI | apply ws_r_LSH_FOL_X_ORG_LO | apply wrF_of_wr
    | intro _
    | dsimp only
    | with_reducible apply ok_ite
    | split

theorem State.regMark_ok {s0 : State} {E W : Nat} {s r present p} (hE : sub 268435970 E = true) (hW : sub 261871248631691349601055175746207932177331363683445183158663309447690703712373964390661607386072332572070934730204805680748789379072885508879752535998464 W = true) (h : Ok E W s0 s) :
    Ok E W s0 (State.regMark s r present p) := by
  unfold State.regMark
  repeat' first
    | exact sub_trans rfl hE | exact sub_trans rfl hW | exact sub_bit hW rfl | with_reducible first | assumption | apply State.wr_ok | apply State.setReg_ok | apply State.regResult_ok | apply State.when_ok | apply ws_r_LSH_REG_ERR | apply ws_r_LSH_REG_PEND | apply wrF_of_wr
    | intro _
    | dsimp only
    | with_reducible apply ok_ite
    | split

theorem State.regEdge_ok {s0 : State} {E W : Nat} {s probe t} (hE : sub 268435970 E = true) (hW : sub 392806872947537024401582763619311898265997045525167774737994964171536055568560946585992411079108498858106402095307208521125085544509670607421873858805760 W = true) (h : Ok E W s0 s) :
    Ok E W s0 (State.regEdge s probe t) := by
  unfold State.regEdge
  repeat' first
    | exact sub_trans rfl hE | exact sub_trans rfl hW | exact sub_bit hW rfl | with_reducible first | assumption | apply State.each_ok | apply State.regAdvance_ok | apply State.wr64_ok | apply State.count_ok | apply State.regMark_ok | apply ws_f_LSH_REG_STATUS_EXTRA | apply ws_r_LSH_REG_MLAT_HI | apply ws_r_LSH_REG_MLAT_LO | apply wrF_of_wr
    | intro _
    | dsimp only
    | with_reducible apply ok_ite
    | split

theorem execCamComputeDone_ok {s0 : State} {E W : Nat} {t s} (hE : sub 2 E = true) (hW : sub 99895953610111751404211111353381321783955140565279076827493022708011895642232499843849795298031743077114461795885011932654335221737225129801285632 W = true) (h : Ok E W s0 s) :
    OkOut E W s0 (execCamComputeDone t s) := by
  unfold execCamComputeDone
  repeat' first
    | exact sub_trans rfl hE | exact sub_trans rfl hW | exact sub_bit hW rfl | with_reducible first | assumption | apply okOut_next | apply okOut_fault | apply State.p_ok | apply ws_f_LSH_CAM_STATUS_STATE
    | intro _
    | dsimp only
    | with_reducible apply ok_ite
    | split

theorem State.checkDiverge_ok {s0 : State} {E W : Nat} {s hx c} (hE : sub 268435970 E = true) (hW : sub 2094969989053530796808441405969663457418650909467561465269306475581525629698991715125292859088578660576567477841638445445899044189366651554130257657200640 W = true) (h : Ok E W s0 s) :
    Ok E W s0 (State.checkDiverge s hx c) := by
  unfold State.checkDiverge
  repeat' first
    | exact sub_trans rfl hE | exact sub_trans rfl hW | exact sub_bit hW rfl | with_reducible first | assumption | apply State.raiseSt_ok | apply State.count_ok | apply State.on_ok | apply State.setShaft_ok | apply ws_f_LSH_SH_COUNT_DIVERGED | apply ws_f_LSH_SH_STATUS_DIVERGE
    | intro _
    | dsimp only
    | with_reducible apply ok_ite
    | split

theorem State.repredict_ok {s0 : State} {E W : Nat} {s hx} (hE : sub 268436098 E = true) (hW : sub 634306380732468007436175204310688418527234200343486218236973976524816988485618509292921493789070820772793506104205654687033920735073559614966464512 W = true) (h : Ok E W s0 s) :
    Ok E W s0 (State.repredict s hx) := by
  unfold State.repredict
  repeat' first
    | exact sub_trans rfl hE | exact sub_trans rfl hW | exact sub_bit hW rfl | with_reducible first | assumption | apply State.each_ok | apply State.cswRecheck_ok
    | intro _
    | dsimp only
    | with_reducible apply ok_ite
    | split

theorem State.receiveSegment_ok {s0 : State} {E W : Nat} {s domain member m} (hE : sub 268444306 E = true) (hW : sub 639803835291254686077766012819310424206344406278921039659579145033058088909487725413304908777186956712992939877071413471522629967537873101184732180359675904 W = true) (h : Ok E W s0 s) :
    Ok E W s0 (State.receiveSegment s domain member m) := by
  unfold State.receiveSegment
  repeat' first
    | exact sub_trans rfl hE | exact sub_trans rfl hW | exact sub_bit hW rfl | with_reducible first | assumption | apply State.when_ok | apply State.trimFrame_ok | apply State.raiseSt_ok | apply State.count_ok | apply State.on_ok | apply State.setShaft_ok | apply State.checkDiverge_ok | apply State.takeSegment_ok | apply State.repredict_ok | apply ws_f_LSH_SH_COUNT_DROPPED | apply ws_f_LSH_SH_STATUS_LATE_SEG
    | intro _
    | dsimp only
    | with_reducible apply ok_ite
    | split

theorem execSegmentReceived_ok {s0 : State} {E W : Nat} {domain member m s} (hE : sub 268444306 E = true) (hW : sub 639803835291254686077766012819310424206344406278921039659579145033058088909487725413304908777186956712992939877071413471522629967537873101184732180359675904 W = true) (h : Ok E W s0 s) :
    OkOut E W s0 (execSegmentReceived domain member m s) := by
  unfold execSegmentReceived
  repeat' first
    | exact sub_trans rfl hE | exact sub_trans rfl hW | exact sub_bit hW rfl | with_reducible first | assumption | apply okOut_next | apply okOut_fault | apply State.receiveSegment_ok
    | intro _
    | dsimp only
    | with_reducible apply ok_ite
    | split

theorem State.receiveStatus_ok {s0 : State} {E W : Nat} {s domain m} (hE : sub 268435456 E = true) (hW : sub 0 W = true) (h : Ok E W s0 s) :
    Ok E W s0 (State.receiveStatus s domain m) := by
  unfold State.receiveStatus
  repeat' first
    | exact sub_trans rfl hE | exact sub_trans rfl hW | exact sub_bit hW rfl | with_reducible first | assumption | apply State.setMember_ok
    | intro _
    | dsimp only
    | with_reducible apply ok_ite
    | split

theorem execStatusReceived_ok {s0 : State} {E W : Nat} {domain member s} (hE : sub 268435456 E = true) (hW : sub 0 W = true) (h : Ok E W s0 s) :
    OkOut E W s0 (execStatusReceived domain member s) := by
  unfold execStatusReceived
  repeat' first
    | exact sub_trans rfl hE | exact sub_trans rfl hW | exact sub_bit hW rfl | with_reducible first | assumption | apply okOut_next | apply okOut_fault | apply State.receiveStatus_ok
    | intro _
    | dsimp only
    | with_reducible apply ok_ite
    | split

theorem execEngage_ok {s0 : State} {E W : Nat} {rq k startAt s} (hE : sub 1882739202 E = true) (hW : sub 1224720827664335617602385987214491705952321107045573491620428702487974320953089910167049120020659191243216979893356773220536949051603900938175853677031906132920732314497892504207426270005890023916830848 W = true) (h : Ok E W s0 s) :
    OkOut E W s0 (execEngage rq k startAt s) := by
  unfold execEngage
  repeat' first
    | exact sub_trans rfl hE | exact sub_trans rfl hW | exact sub_bit hW rfl | with_reducible first | assumption | apply okOut_next | apply okOut_fault | apply State.write_ok | apply wrFolCmd_ok
    | intro _
    | dsimp only
    | with_reducible apply ok_ite
    | split

theorem State.chanCellFault_ok {s0 : State} {E W : Nat} {s k} (hE : sub 1613255170 E = true) (hW : sub 1224720827664335617602385987214491705491632334484350166037276981683049553931055031244425028751061640485537359143356552369623706688876251095208771984998618505778389864127901574366591359548814690745319552 W = true) (h : Ok E W s0 s) :
    Ok E W s0 (State.chanCellFault s k) := by
  unfold State.chanCellFault
  repeat' first
    | exact sub_trans rfl hE | exact sub_trans rfl hW | exact sub_bit hW rfl | with_reducible first | assumption | apply State.offStop_ok | apply State.axisFault_ok | apply State.auxFault_ok | apply State.chanFault_ok
    | intro _
    | dsimp only
    | with_reducible apply ok_ite
    | split

theorem execLshStorageError_ok {s0 : State} {E W : Nat} {store s} (hE : sub 1882739330 E = true) (hW : sub 1224720827664335617602385987214491705952321108359905273703269134105872663508865944510853094646777858846841818310262153641580814740542540772153078341340587274215882001404651027457730787470175696070901888 W = true) (h : Ok E W s0 s) :
    OkOut E W s0 (execLshStorageError store s) := by
  unfold execLshStorageError
  repeat' first
    | exact sub_trans rfl hE | exact sub_trans rfl hW | exact sub_bit hW rfl | with_reducible first | assumption | apply okOut_next | apply okOut_fault | apply State.each_ok | apply State.camRefuse_ok | apply State.chanCellFault_ok | apply State.shaftLost_ok
    | intro _
    | dsimp only
    | with_reducible apply ok_ite
    | split

theorem wrLshCfg_ok {s0 : State} {E W : Nat} {v s} (hE : sub 2 E = true) (hW : sub 214528200269689449735054413160990365638822069771524337108366466390916320614973156303384872040762780747197660617667904373731071976382476128472037529701318656 W = true) (h : Ok E W s0 s) :
    Ok E W s0 (wrLshCfg v s) := by
  unfold wrLshCfg
  repeat' first
    | exact sub_trans rfl hE | exact sub_trans rfl hW | exact sub_bit hW rfl | with_reducible first | assumption | apply State.on_ok | apply State.wr_ok | apply State.setPresent_ok | apply ws_f_LSH_STATUS_CFG_REFUSED | apply ws_r_LSH_CFG | apply wrF_of_wr
    | intro _
    | dsimp only
    | with_reducible apply ok_ite
    | split

theorem execMemberTimeout_ok {s0 : State} {E W : Nat} {m s} (hE : sub 268435458 E = true) (hW : sub 5012379368340967238457696723267261201831733133003442958896289907397204875744657912165007328874040740637295235070326358733497749386001122813657659473920 W = true) (h : Ok E W s0 s) :
    OkOut E W s0 (execMemberTimeout m s) := by
  unfold execMemberTimeout
  repeat' first
    | exact sub_trans rfl hE | exact sub_trans rfl hW | exact sub_bit hW rfl | with_reducible first | assumption | apply okOut_next | apply okOut_fault | apply State.memberGone_ok
    | intro _
    | dsimp only
    | with_reducible apply ok_ite
    | split

theorem execMembershipComplete_ok {s0 : State} {E W : Nat} {s} (hE : sub 268435458 E = true) (hW : sub 102293456496754433437912178025862473506770063938845774671352855253004181137646079840102190385184504910965208878986252219354951917115975883290692288512 W = true) (h : Ok E W s0 s) :
    OkOut E W s0 (execMembershipComplete s) := by
  unfold execMembershipComplete
  repeat' first
    | exact sub_trans rfl hE | exact sub_trans rfl hW | exact sub_bit hW rfl | with_reducible first | assumption | apply okOut_next | apply okOut_fault | apply State.wr_ok | apply State.on_ok | apply ws_f_LSH_JOIN_STATUS_COMPLETE | apply ws_r_LSH_JOIN_TIME | apply wrF_of_wr
    | intro _
    | dsimp only
    | with_reducible apply ok_ite
    | ((with_reducible apply ok_mk) <;> first | exact Or.inr (sub_bit hE rfl) | exact Or.inr (Or.inr (sub_bit hE rfl)) | with_reducible first | exact Or.inl rfl | exact rfl | exact Or.inr (Or.inl rfl) | assumption | apply ok_ite | apply State.wr_ok | apply State.on_ok | apply ws_f_LSH_JOIN_STATUS_COMPLETE | apply ws_r_LSH_JOIN_TIME | apply wrF_of_wr)
    | split

theorem execLshCfgWrite_ok {s0 : State} {E W : Nat} {rq v s} (hE : sub 514 E = true) (hW : sub 214528200269689449735054413160990443106318412378782026785941626481272550506146941180090256960543476966626321122903743263091670380517419233237312822690447360 W = true) (h : Ok E W s0 s) :
    OkOut E W s0 (execLshCfgWrite rq v s) := by
  unfold execLshCfgWrite
  repeat' first
    | exact sub_trans rfl hE | exact sub_trans rfl hW | exact sub_bit hW rfl | with_reducible first | assumption | apply okOut_next | apply okOut_fault | apply State.write_ok | apply wrLshCfg_ok
    | intro _
    | dsimp only
    | with_reducible apply ok_ite
    | split

theorem State.followAt_ok {s0 : State} {E W : Nat} {s k t} (hE : sub 268959746 E = true) (hW : sub 84354660463398290513615265236532666310179976096953718272617634812578475271281477325722785388044147305578751435685496871245040467694870048948482856205305165905920 W = true) (h : Ok E W s0 s) :
    Ok E W s0 (State.followAt s k t).1 := by
  unfold State.followAt
  repeat' first
    | exact sub_trans rfl hE | exact sub_trans rfl hW | exact sub_bit hW rfl | with_reducible first | assumption | apply State.when_ok | apply State.on_ok | apply State.engageAt_ok | apply State.setFol_ok | apply State.ratioAt_ok | apply State.followShaft_ok | refine State.followShaft_ok' ?_ ?_ ?_ (by assumption) | apply ws_f_LSP_CH_STATUS_START_LATE
    | intro _
    | dsimp only
    | with_reducible apply ok_ite
    | split

theorem State.followAt_ok' {s0 t0 : State} {E W : Nat} {s k t y0} (hE : sub 268959746 E = true) (hW : sub 84354660463398290513615265236532666310179976096953718272617634812578475271281477325722785388044147305578751435685496871245040467694870048948482856205305165905920 W = true) (h : Ok E W s0 s) (e : State.followAt s k t = (t0, y0)) :
    Ok E W s0 t0 := by
  have r := State.followAt_ok (s0 := s0) (E := E) (W := W) (s := s) (k := k) (t := t) hE hW h
  rw [e] at r
  exact r

theorem execJoinReceived_ok {s0 : State} {E W : Nat} {src domain member j s} (hE : sub 268435458 E = true) (hW : sub 25266483754698345059164307972388030956172205792894906343824155247492032740998581720505241025140572713008406593109604298103029524263666992331127923933184 W = true) (h : Ok E W s0 s) :
    OkOut E W s0 (execJoinReceived src domain member j s) := by
  unfold execJoinReceived
  repeat' first
    | exact sub_trans rfl hE | exact sub_trans rfl hW | exact sub_bit hW rfl | with_reducible first | assumption | apply okOut_next | apply okOut_fault | apply State.receiveJoin_ok
    | intro _
    | dsimp only
    | with_reducible apply ok_ite
    | split

theorem State.shaftsStepped_ok {s0 : State} {E W : Nat} {s} (hE : sub 1882739330 E = true) (hW : sub 1224720827664335617602385987214491705952321110076104688586077632436180236172897581798139937006671500347539067865408415186143372779617567306809260677270245629390493592182497141263173281223031567358623872 W = true) (h : Ok E W s0 s) :
    Ok E W s0 (State.shaftsStepped s) := by
  unfold State.shaftsStepped
  repeat' first
    | exact sub_trans rfl hE | exact sub_trans rfl hW | exact sub_bit hW rfl | with_reducible first | assumption | apply State.on_ok | apply State.each_ok | apply State.shaftLost_ok | apply ws_f_LSH_STATUS_STEP_LOST
    | intro _
    | dsimp only
    | with_reducible apply ok_ite
    | split

theorem execDisengage_ok {s0 : State} {E W : Nat} {rq k s} (hE : sub 1882739202 E = true) (hW : sub 1224720827664335617602385987214491705952321107045573491620428702487974320953089910167049120020659191243216979893356773220536949051603900938175853677031906132920732314497892504207426270005890023916830848 W = true) (h : Ok E W s0 s) :
    OkOut E W s0 (execDisengage rq k s) := by
  unfold execDisengage
  repeat' first
    | exact sub_trans rfl hE | exact sub_trans rfl hW | exact sub_bit hW rfl | with_reducible first | assumption | apply okOut_next | apply okOut_fault | apply State.write_ok | apply wrFolCmd_ok
    | intro _
    | dsimp only
    | with_reducible apply ok_ite
    | split

theorem wrFolCfg_ok {s0 : State} {E W : Nat} {k v s} (hE : sub 2 E = true) (hW : sub 618970019642690137449562112 W = true) (h : Ok E W s0 s) :
    Ok E W s0 (wrFolCfg k v s) := by
  unfold wrFolCfg
  repeat' first
    | exact sub_trans rfl hE | exact sub_trans rfl hW | exact sub_bit hW rfl | with_reducible first | assumption | apply State.wr_ok | apply ws_r_LSH_FOL_CFG | apply wrF_of_wr
    | intro _
    | dsimp only
    | with_reducible apply ok_ite
    | split

end Sys2Proof.Machine
end

