-- ==== Sys2Proof/Laws/KeepHost.lean ====
section
/-! SUPPORT. What the definitions of Machine/Host.lean keep: the queue, and the canonical forms of the register window and of
the memories; one lemma for each. -/

namespace Sys2Proof.Machine

theorem State.setSetp_ok {s0 : State} {E W : Nat} {s k x} (hE : sub 16777216 E = true) (hW : sub 0 W = true) (h : Ok E W s0 s) :
    Ok E W s0 (State.setSetp s k x) := by
  unfold State.setSetp
  repeat' first
    | exact sub_trans rfl hE | exact sub_trans rfl hW | exact sub_bit hW rfl | with_reducible first | assumption
    | intro _
    | dsimp only
    | with_reducible apply ok_ite
    | ((with_reducible apply ok_mk) <;> first | exact Or.inr (sub_bit hE rfl) | exact Or.inr (Or.inr (sub_bit hE rfl)) | with_reducible first | exact Or.inl rfl | exact rfl | exact Or.inr (Or.inl rfl) | assumption | apply ok_ite)
    | split

theorem State.setHif_ok {s0 : State} {E W : Nat} {s n x} (hE : sub 8388608 E = true) (hW : sub 0 W = true) (h : Ok E W s0 s) :
    Ok E W s0 (State.setHif s n x) := by
  unfold State.setHif
  repeat' first
    | exact sub_trans rfl hE | exact sub_trans rfl hW | exact sub_bit hW rfl | with_reducible first | assumption
    | intro _
    | dsimp only
    | with_reducible apply ok_ite
    | ((with_reducible apply ok_mk) <;> first | exact Or.inr (sub_bit hE rfl) | exact Or.inr (Or.inr (sub_bit hE rfl)) | with_reducible first | exact Or.inl rfl | exact rfl | exact Or.inr (Or.inl rfl) | assumption | apply ok_ite)
    | split

theorem State.setSq_ok {s0 : State} {E W : Nat} {s n k x} (hE : sub 8388608 E = true) (hW : sub 0 W = true) (h : Ok E W s0 s) :
    Ok E W s0 (State.setSq s n k x) := by
  unfold State.setSq
  repeat' first
    | exact sub_trans rfl hE | exact sub_trans rfl hW | exact sub_bit hW rfl | with_reducible first | assumption | apply State.setHif_ok
    | intro _
    | dsimp only
    | with_reducible apply ok_ite
    | split

theorem State.sqStart_ok {s0 : State} {E W : Nat} {s n k fence r} (hE : sub 8388608 E = true) (hW : sub 0 W = true) (h : Ok E W s0 s)
    (e : State.sqStart s n k fence = some r) : Ok E W s0 r.1 := by
  unfold State.sqStart at e
  dsimp only at e
  split at e
  · exact absurd e (by simp)
  · rw [← Option.some.inj e]
    exact State.setSq_ok (sub_trans rfl hE) (sub_trans rfl hW) h

theorem State.sqStart_ok' {s0 : State} {E W : Nat} {t0 s n k fence y0} (hE : sub 8388608 E = true) (hW : sub 0 W = true) (h : Ok E W s0 s)
    (e : State.sqStart s n k fence = some (t0, y0)) : Ok E W s0 t0 := State.sqStart_ok hE hW h e

theorem State.setCq_ok {s0 : State} {E W : Nat} {s n k x} (hE : sub 8388608 E = true) (hW : sub 0 W = true) (h : Ok E W s0 s) :
    Ok E W s0 (State.setCq s n k x) := by
  unfold State.setCq
  repeat' first
    | exact sub_trans rfl hE | exact sub_trans rfl hW | exact sub_bit hW rfl | with_reducible first | assumption | apply State.setHif_ok
    | intro _
    | dsimp only
    | with_reducible apply ok_ite
    | split

theorem State.cqFull_ok {s0 : State} {E W : Nat} {s n k} (hE : sub 2 E = true) (hW : sub 313528531882069915964662425689704934689422834087799421518938595239444503444259215719322355763768461419760165742407930953086580768238532773442734168210737755891992072530296122920016274326105279759841755136 W = true) (h : Ok E W s0 s) :
    Ok E W s0 (State.cqFull s n k) := by
  unfold State.cqFull
  repeat' first
    | exact sub_trans rfl hE | exact sub_trans rfl hW | exact sub_bit hW rfl | with_reducible first | assumption | apply State.wr_ok | apply ws_w_cqStatus | apply wrF_of_wr
    | intro _
    | dsimp only
    | with_reducible apply ok_ite
    | split

theorem State.putEntry_ok {s0 : State} {E W : Nat} {s n k data counts} (hE : sub 8388642 E = true) (hW : sub 470292797823104873946993638534557402034134251131699132278407892859166755166388823578983533645652692129640248613611896429629871152357799160164101252316106633837988108795444184380024411489157919639762632704 W = true) (h : Ok E W s0 s) :
    Ok E W s0 (State.putEntry s n k data counts) := by
  unfold State.putEntry
  repeat' first
    | exact sub_trans rfl hE | exact sub_trans rfl hW | exact sub_bit hW rfl | with_reducible first | assumption | apply State.emit_ok | apply State.wr_ok | apply State.when_ok | apply State.cqFull_ok | apply State.setCq_ok | apply ws_w_cqSeq | apply ws_w_cqStatus | apply wrF_of_wr
    | intro _
    | dsimp only
    | with_reducible apply ok_ite
    | split

theorem State.putRefEntry_ok {s0 : State} {E W : Nat} {s n k full heartbeat} (hE : sub 8388642 E = true) (hW : sub 470292797823104873946993638534557402034134251131699132278407892859166755166388823578983533645652692129640248613611896429629871152357799160164101252316106633837988108795444184380024411489157919639762632704 W = true) (h : Ok E W s0 s) :
    Ok E W s0 (State.putRefEntry s n k full heartbeat) := by
  unfold State.putRefEntry
  repeat' first
    | exact sub_trans rfl hE | exact sub_trans rfl hW | exact sub_bit hW rfl | with_reducible first | assumption | apply State.putEntry_ok | apply State.setCq_ok | apply State.when_ok
    | intro _
    | dsimp only
    | with_reducible apply ok_ite
    | split

theorem State.putBefore_ok {s0 : State} {E W : Nat} {s n k full} (hE : sub 8388642 E = true) (hW : sub 470292797823104873946993638534557402034134251131699132278407892859166755166388823578983533645652692129640248613611896429629871152357799160164101252316106633837988108795444184380024411489157919639762632704 W = true) (h : Ok E W s0 s) :
    Ok E W s0 (State.putBefore s n k full) := by
  unfold State.putBefore
  repeat' first
    | exact sub_trans rfl hE | exact sub_trans rfl hW | exact sub_bit hW rfl | with_reducible first | assumption | apply State.putRefEntry_ok
    | intro _
    | dsimp only
    | with_reducible apply ok_ite
    | split

theorem State.signal_ok {s0 : State} {E W : Nat} {s n k vec} (hE : sub 8388640 E = true) (hW : sub 0 W = true) (h : Ok E W s0 s) :
    Ok E W s0 (State.signal s n k vec) := by
  unfold State.signal
  repeat' first
    | exact sub_trans rfl hE | exact sub_trans rfl hW | exact sub_bit hW rfl | with_reducible first | assumption | apply State.setCq_ok | apply State.emit_ok
    | intro _
    | dsimp only
    | with_reducible apply ok_ite
    | split

theorem State.flushCq_ok {s0 : State} {E W : Nat} {n k x2 s} (hE : sub 8388642 E = true) (hW : sub 470292797823104873946993638534557402034134251131699132278407892859166755166388823578983533645652692129640248613611896429629871152357799160164101252316106633837988108795444184380024411489157919639762632704 W = true) (h : Ok E W s0 s) :
    Ok E W s0 (State.flushCq n k x2 s) := by
  induction x2 generalizing n k s with
  | zero =>
    unfold State.flushCq
    repeat' first
      | exact sub_trans rfl hE | exact sub_trans rfl hW | exact sub_bit hW rfl | with_reducible first | assumption | apply State.putBefore_ok | apply State.putEntry_ok | apply State.setCq_ok | apply State.when_ok | apply State.signal_ok | apply ih
      | intro _
      | dsimp only
      | with_reducible apply ok_ite
      | split
  | succ n ih =>
    unfold State.flushCq
    repeat' first
      | exact sub_trans rfl hE | exact sub_trans rfl hW | exact sub_bit hW rfl | with_reducible first | assumption | apply State.putBefore_ok | apply State.putEntry_ok | apply State.setCq_ok | apply State.when_ok | apply State.signal_ok | apply ih
      | intro _
      | dsimp only
      | with_reducible apply ok_ite
      | split

theorem State.putRecord_ok {s0 : State} {E W : Nat} {s n k r} (hE : sub 8388642 E = true) (hW : sub 470292797823104873946993638534557402034134251131699132278407892882983806484107270168503776182526824711340368720613934628933741999108987353063924403868734983626592625090510492374154530015219745806207680512 W = true) (h : Ok E W s0 s) :
    Ok E W s0 (State.putRecord s n k r) := by
  unfold State.putRecord
  repeat' first
    | exact sub_trans rfl hE | exact sub_trans rfl hW | exact sub_bit hW rfl | with_reducible first | assumption | apply State.count_ok | apply State.setCq_ok | apply State.flushCq_ok | apply ws_f_HIF_OD_LOST_CPL_COUNT
    | intro _
    | dsimp only
    | with_reducible apply ok_ite
    | split

theorem State.sqInit_ok {s0 : State} {E W : Nat} {s n k} (hE : sub 8388610 E = true) (hW : sub 95268205270873786358080970147496530326800480428008152797215483387004752771599292606210513399154418065180265231976559159730474972799370788864 W = true) (h : Ok E W s0 s) :
    Ok E W s0 (State.sqInit s n k) := by
  unfold State.sqInit
  repeat' first
    | exact sub_trans rfl hE | exact sub_trans rfl hW | exact sub_bit hW rfl | with_reducible first | assumption | apply State.pb_ok | apply State.wr_ok | apply State.setSq_ok | apply ws_f_HIF_OD_SQ_STATUS_RUNNING | apply ws_r_HIF_OD_SQ_STATUS | apply wrF_of_wr
    | intro _
    | dsimp only
    | with_reducible apply ok_ite
    | split

theorem State.sqClose_ok {s0 : State} {E W : Nat} {s n k} (hE : sub 8388610 E = true) (hW : sub 95268205270873786358080970147496530326800480428008152797215483387004752771599292606210513399154418065180265231976559159730474972799370788864 W = true) (h : Ok E W s0 s) :
    Ok E W s0 (State.sqClose s n k) := by
  unfold State.sqClose
  repeat' first
    | exact sub_trans rfl hE | exact sub_trans rfl hW | exact sub_bit hW rfl | with_reducible first | assumption | apply State.sqInit_ok
    | intro _
    | dsimp only
    | with_reducible apply ok_ite
    | split

theorem State.finishDesc_ok {s0 : State} {E W : Nat} {s n k idx tag flags status result} (hE : sub 8388642 E = true) (hW : sub 470292797823104873946993638534557402034134251131699132278407892978252011754981056526584746330023355038140849148622087426149225386113740124663217010079248382781010690270775724350713689745694718605578469376 W = true) (h : Ok E W s0 s) :
    Ok E W s0 (State.finishDesc s n k idx tag flags status result) := by
  unfold State.finishDesc
  repeat' first
    | exact sub_trans rfl hE | exact sub_trans rfl hW | exact sub_bit hW rfl | with_reducible first | assumption | apply State.setSq_ok | apply State.putRecord_ok | apply State.sqClose_ok
    | intro _
    | dsimp only
    | with_reducible apply ok_ite
    | split

theorem State.descriptor_ok {s0 : State} {E W : Nat} {s n k op d owned argOk reads body} (hE : sub 8388642 E = true) (hW : sub 470292797823104873946993638534557402034134251131699132278407892978252011754981056526584746330023355038140849148622087426149225386113740124663217010079248382781010690270775724350713689745694718605578469376 W = true) (h : Ok E W s0 s) (hk : ∀ t, Ok E W s0 t → Ok E W s0 (body t).1) :
    OkOut E W s0 (State.descriptor s n k op d owned argOk reads body) := by
  unfold State.descriptor
  repeat' first
    | exact sub_trans rfl hE | exact sub_trans rfl hW | exact sub_bit hW rfl | with_reducible first | assumption | apply hk | apply okOut_next | apply okOut_fault | apply State.sqStart_ok | refine State.sqStart_ok' ?_ ?_ ?_ (by assumption) | apply State.finishDesc_ok
    | intro _
    | dsimp only
    | with_reducible apply ok_ite
    | split

theorem execLaunchCancel_ok {s0 : State} {E W : Nat} {n k d s} (hE : sub 8389282 E = true) (hW : sub 470292797823104873946993638534557402034134251131699132278442823637323809253991965062775146817846858395092660905894103266425971000745963634893039732080128745091117425599671307441821599150344927441737220096 W = true) (h : Ok E W s0 s) :
    OkOut E W s0 (execLaunchCancel n k d s) := by
  unfold execLaunchCancel
  repeat' first
    | exact sub_trans rfl hE | exact sub_trans rfl hW | exact sub_bit hW rfl | with_reducible first | assumption | apply okOut_next | apply okOut_fault | apply State.descriptor_ok | apply State.cancel_ok
    | intro _
    | dsimp only
    | with_reducible apply ok_ite
    | split

theorem State.pollHead_ok {s0 : State} {E W : Nat} {s n k head} (hE : sub 8388642 E = true) (hW : sub 470292797823104873946993638534557402034134251131699132278407892859166755166388823578983533645652692129640248613611896429629871152357799160164101252316106633837988108795444184380024411489157919639762632704 W = true) (h : Ok E W s0 s) :
    Ok E W s0 (State.pollHead s n k head) := by
  unfold State.pollHead
  repeat' first
    | exact sub_trans rfl hE | exact sub_trans rfl hW | exact sub_bit hW rfl | with_reducible first | assumption | apply State.cqFull_ok | apply State.setCq_ok | apply State.flushCq_ok
    | intro _
    | dsimp only
    | with_reducible apply ok_ite
    | split

theorem State.pollFrom_ok {s0 : State} {E W : Nat} {s n} (hE : sub 8388608 E = true) (hW : sub 0 W = true) (h : Ok E W s0 s) :
    Ok E W s0 (State.pollFrom s n) := by
  unfold State.pollFrom
  repeat' first
    | exact sub_trans rfl hE | exact sub_trans rfl hW | exact sub_bit hW rfl | with_reducible first | assumption | apply State.when_ok | apply State.setHif_ok
    | intro _
    | dsimp only
    | with_reducible apply ok_ite
    | split

theorem wrHifCtl_ok {s0 : State} {E W : Nat} {n v s} (hE : sub 8388610 E = true) (hW : sub 2417851639229258349412352 W = true) (h : Ok E W s0 s) :
    Ok E W s0 (wrHifCtl n v s) := by
  unfold wrHifCtl
  repeat' first
    | exact sub_trans rfl hE | exact sub_trans rfl hW | exact sub_bit hW rfl | with_reducible first | assumption | apply State.when_ok | apply State.pollFrom_ok | apply State.setHif_ok | apply State.wr_ok | apply ws_r_HIF_OD_CTL | apply wrF_of_wr
    | intro _
    | dsimp only
    | with_reducible apply ok_ite
    | split

theorem State.breakRing_ok {s0 : State} {E W : Nat} {s n k why} (hE : sub 8393250 E = true) (hW : sub 470292797823104873946993638534557402034134251131699132278407894788347911901582997330123179132457431247349977280776990573243409739204042785049776528079002966714953928695815131904564012100165839121811505152 W = true) (h : Ok E W s0 s) :
    Ok E W s0 (State.breakRing s n k why) := by
  unfold State.breakRing
  repeat' first
    | exact sub_trans rfl hE | exact sub_trans rfl hW | exact sub_bit hW rfl | with_reducible first | assumption | apply State.wr_ok | apply State.on_ok | apply State.p_ok | apply State.setCq_ok | apply State.count_ok | apply State.each_ok | apply State.putRecord_ok | apply State.when_ok | apply State.raiseSt_ok | apply State.takeIn_ok | apply ws_f_HIF_OD_LOST_CPL_COUNT | apply ws_f_HIF_OD_STATUS_BROKEN | apply ws_f_HIF_OD_STATUS_EVQ_BROKEN | apply ws_w_cqStatus | apply wrF_of_wr
    | intro _
    | dsimp only
    | with_reducible apply ok_ite
    | split

theorem State.pollTail_ok {s0 : State} {E W : Nat} {s n k tail} (hE : sub 8389122 E = true) (hW : sub 190536410541747572716161940294993060653600960856016305594430966774009505543198585212421026798308836130360530463953040948208494609331560382464 W = true) (h : Ok E W s0 s) :
    Ok E W s0 (State.pollTail s n k tail) := by
  unfold State.pollTail
  repeat' first
    | exact sub_trans rfl hE | exact sub_trans rfl hW | exact sub_bit hW rfl | with_reducible first | assumption | apply State.raiseSt_ok | apply State.on_ok | apply State.setSq_ok | apply ws_f_HIF_OD_SQ_STATUS_TAIL_ERR
    | intro _
    | dsimp only
    | with_reducible apply ok_ite
    | split

theorem State.fetchOne_ok {s0 : State} {E W : Nat} {s n k} (hE : sub 34 E = true) (hW : sub 47634102635436893179040485073748265163400240214004076398607741693502376385799646303105256699577209032590132615988260237052123652332890095616 W = true) (h : Ok E W s0 s) :
    Ok E W s0 (State.fetchOne s n k) := by
  unfold State.fetchOne
  repeat' first
    | exact sub_trans rfl hE | exact sub_trans rfl hW | exact sub_bit hW rfl | with_reducible first | assumption | apply State.hostFetch_ok | apply State.p_ok | apply ws_f_HIF_OD_SQ_STATUS_HEAD
    | intro _
    | dsimp only
    | with_reducible apply ok_ite
    | split

theorem State.fetch_ok {s0 : State} {E W : Nat} {n k x2 s} (hE : sub 34 E = true) (hW : sub 47634102635436893179040485073748265163400240214004076398607741693502376385799646303105256699577209032590132615988260237052123652332890095616 W = true) (h : Ok E W s0 s) :
    Ok E W s0 (State.fetch n k x2 s) := by
  induction x2 generalizing n k s with
  | zero =>
    unfold State.fetch
    repeat' first
      | exact sub_trans rfl hE | exact sub_trans rfl hW | exact sub_bit hW rfl | with_reducible first | assumption | apply State.fetchOne_ok | apply ih
      | intro _
      | dsimp only
      | with_reducible apply ok_ite
      | split
  | succ n ih =>
    unfold State.fetch
    repeat' first
      | exact sub_trans rfl hE | exact sub_trans rfl hW | exact sub_bit hW rfl | with_reducible first | assumption | apply State.fetchOne_ok | apply ih
      | intro _
      | dsimp only
      | with_reducible apply ok_ite
      | split

theorem State.bGrant_ok {s0 : State} {E W : Nat} {s n k fresh} (hE : sub 8388642 E = true) (hW : sub 47634102635436893179040485073748265163400240214004076398607741693502376385799646303105256699577209032590132615988260237052123652332890095616 W = true) (h : Ok E W s0 s) :
    Ok E W s0 (State.bGrant s n k fresh) := by
  unfold State.bGrant
  repeat' first
    | exact sub_trans rfl hE | exact sub_trans rfl hW | exact sub_bit hW rfl | with_reducible first | assumption | apply State.when_ok | apply State.each_ok | apply State.setHif_ok | apply State.fetchOne_ok | apply State.setSq_ok
    | intro _
    | dsimp only
    | with_reducible apply ok_ite
    | split

theorem State.bServe_ok {s0 : State} {E W : Nat} {x0 s} (hE : sub 8388642 E = true) (hW : sub 47634102635436893179040485073748265163400240214004076398607741693502376385799646303105256699577209032590132615988260237052123652332890095616 W = true) (h : Ok E W s0 s) :
    Ok E W s0 (State.bServe x0 s) := by
  induction x0 generalizing s with
  | zero =>
    unfold State.bServe
    repeat' first
      | exact sub_trans rfl hE | exact sub_trans rfl hW | exact sub_bit hW rfl | with_reducible first | assumption | apply State.bGrant_ok | apply ih
      | intro _
      | dsimp only
      | with_reducible apply ok_ite
      | split
  | succ n ih =>
    unfold State.bServe
    repeat' first
      | exact sub_trans rfl hE | exact sub_trans rfl hW | exact sub_bit hW rfl | with_reducible first | assumption | apply State.bGrant_ok | apply ih
      | intro _
      | dsimp only
      | with_reducible apply ok_ite
      | split

theorem execDoorbellPoll_ok {s0 : State} {E W : Nat} {n tails heads rest s} (hE : sub 8389154 E = true) (hW : sub 470292797823104873946993638534557402034134251131699132278407893097337268343573289474185959014394017946641449683632278422668579619869681089162332767842390131724033271746107264321325596749776181304213110784 W = true) (h : Ok E W s0 s) :
    OkOut E W s0 (execDoorbellPoll n tails heads rest s) := by
  unfold execDoorbellPoll
  repeat' first
    | exact sub_trans rfl hE | exact sub_trans rfl hW | exact sub_bit hW rfl | with_reducible first | assumption | apply okOut_next | apply okOut_fault | apply State.setHif_ok | apply State.hostFetch_ok | apply State.each_ok | apply State.pollHead_ok | apply State.pollTail_ok | apply State.setSq_ok | apply State.fetch_ok | apply State.bServe_ok
    | intro _
    | dsimp only
    | with_reducible apply ok_ite
    | split

theorem State.stageAxis_ok {s0 : State} {E W : Nat} {s k d} (hE : sub 2 E = true) (hW : sub 631188586865639983593238460020817920 W = true) (h : Ok E W s0 s) :
    Ok E W s0 (State.stageAxis s k d) := by
  unfold State.stageAxis
  repeat' first
    | exact sub_trans rfl hE | exact sub_trans rfl hW | exact sub_bit hW rfl | with_reducible first | assumption | apply State.wr_ok | apply ws_r_LSP_CH_AMAX | apply ws_r_LSP_CH_DMAX | apply ws_r_LSP_CH_JMAX | apply ws_r_LSP_CH_START | apply ws_r_LSP_CH_TARGET_HI | apply ws_r_LSP_CH_TARGET_LO | apply ws_r_LSP_CH_VMAX | apply wrF_of_wr
    | intro _
    | dsimp only
    | with_reducible apply ok_ite
    | split

theorem execAxisCmd_ok {s0 : State} {E W : Nat} {n k d s} (hE : sub 1622671906 E = true) (hW : sub 471517518650769209556230601134907811935264876335209673898364929401079170846510240285280702436260324132817528666412707744969890513017751273910486107932228034171816373887943904322441230125349330869060370560 W = true) (h : Ok E W s0 s) :
    OkOut E W s0 (execAxisCmd n k d s) := by
  unfold execAxisCmd
  repeat' first
    | exact sub_trans rfl hE | exact sub_trans rfl hW | exact sub_bit hW rfl | with_reducible first | assumption | apply okOut_next | apply okOut_fault | apply State.descriptor_ok | apply State.stageAxis_ok | apply wrLspCmd_ok | apply State.off_ok | apply State.p_ok | apply ws_f_LSP_CH_STATUS_CMD_REFUSED | apply ws_f_LSP_CH_STATUS_QUEUE_FULL
    | intro _
    | dsimp only
    | with_reducible apply ok_ite
    | split

theorem execSetpoint_ok {s0 : State} {E W : Nat} {n k d s} (hE : sub 25165858 E = true) (hW : sub 470292797823104873946993638534557402034134251131699132278407892978252011754981056526584746330023355038140849148622087426149225386113740124663217010079248382781010690270775724350713689745694718605578469376 W = true) (h : Ok E W s0 s) :
    OkOut E W s0 (execSetpoint n k d s) := by
  unfold execSetpoint
  repeat' first
    | exact sub_trans rfl hE | exact sub_trans rfl hW | exact sub_bit hW rfl | with_reducible first | assumption | apply okOut_next | apply okOut_fault | apply State.descriptor_ok | apply State.setSetp_ok
    | intro _
    | dsimp only
    | with_reducible apply ok_ite
    | split

theorem execPoolFree_ok {s0 : State} {E W : Nat} {n k d s} (hE : sub 142610978 E = true) (hW : sub 470292797823104873946993646162226983464678081557596880524327233661702818036354199476289396234973777323583632681179896154884732865305926903000954235675346040801218006010181514614037451757222179103228035072 W = true) (h : Ok E W s0 s) :
    OkOut E W s0 (execPoolFree n k d s) := by
  unfold execPoolFree
  repeat' first
    | exact sub_trans rfl hE | exact sub_trans rfl hW | exact sub_bit hW rfl | with_reducible first | assumption | apply okOut_next | apply okOut_fault | apply State.descriptor_ok | apply State.poolFree_ok | refine State.poolFree_ok' ?_ ?_ ?_ (by assumption)
    | intro _
    | dsimp only
    | with_reducible apply ok_ite
    | split

theorem execEventRingDrain_ok {s0 : State} {E W : Nat} {n s} (hE : sub 8389154 E = true) (hW : sub 470292797823104873946993638534557402034134251131699132278407892859166755166388823580920221054217873571882187992614155335377150496979716794787095769721592350350619004767678199340127785066085298619323252736 W = true) (h : Ok E W s0 s) :
    OkOut E W s0 (execEventRingDrain n s) := by
  unfold execEventRingDrain
  repeat' first
    | exact sub_trans rfl hE | exact sub_trans rfl hW | exact sub_bit hW rfl | with_reducible first | assumption | apply okOut_next | apply okOut_fault | apply State.putBefore_ok | apply State.setEvq_ok | apply State.putEntry_ok | apply State.signal_ok
    | intro _
    | dsimp only
    | with_reducible apply ok_ite
    | split

theorem State.hifRefuse_ok {s0 : State} {E W : Nat} {s n} (hE : sub 2 E = true) (hW : sub 762145642166990290864647761179972242614403843424065222377723867096038022172794340849684107193235344521442121855812163792833978437326241529856 W = true) (h : Ok E W s0 s) :
    Ok E W s0 (State.hifRefuse s n) := by
  unfold State.hifRefuse
  repeat' first
    | exact sub_trans rfl hE | exact sub_trans rfl hW | exact sub_bit hW rfl | with_reducible first | assumption | apply State.on_ok | apply ws_f_HIF_OD_STATUS_CFG_REFUSED
    | intro _
    | dsimp only
    | with_reducible apply ok_ite
    | split

theorem wrHifPoll_ok {s0 : State} {E W : Nat} {n v s} (hE : sub 8388610 E = true) (hW : sub 762145642166990290864647761179972242614403843424065222377723867096038022172794340849684107193235344521442121855812173464240535354359639179264 W = true) (h : Ok E W s0 s) :
    Ok E W s0 (wrHifPoll n v s) := by
  unfold wrHifPoll
  repeat' first
    | exact sub_trans rfl hE | exact sub_trans rfl hW | exact sub_bit hW rfl | with_reducible first | assumption | apply State.hifRefuse_ok | apply State.pollFrom_ok | apply State.wr_ok | apply ws_r_HIF_OD_POLL | apply wrF_of_wr
    | intro _
    | dsimp only
    | with_reducible apply ok_ite
    | split

theorem execBadOpcodeDescriptor_ok {s0 : State} {E W : Nat} {n k opcode d s} (hE : sub 8388642 E = true) (hW : sub 470292797823104873946993638534557402034134251131699132278407892978252011754981056526584746330023355038140849148622087426149225386113740124663217010079248382781010690270775724350713689745694718605578469376 W = true) (h : Ok E W s0 s) :
    OkOut E W s0 (execBadOpcodeDescriptor n k opcode d s) := by
  unfold execBadOpcodeDescriptor
  repeat' first
    | exact sub_trans rfl hE | exact sub_trans rfl hW | exact sub_bit hW rfl | with_reducible first | assumption | apply okOut_next | apply okOut_fault | apply State.sqStart_ok | refine State.sqStart_ok' ?_ ?_ ?_ (by assumption) | apply State.finishDesc_ok
    | intro _
    | dsimp only
    | with_reducible apply ok_ite
    | split

theorem State.followHost_ok {s0 : State} {E W : Nat} {s k t} (hE : sub 1631080962 E = true) (hW : sub 1224720827664335617602385987214491705952321107045573475637076124870094096279312016158541291980579011120989527404116910047459861417698541002427909772524353289371006083535384875378847687284593962722001024 W = true) (h : Ok E W s0 s) :
    Ok E W s0 (State.followHost s k t).1 := by
  unfold State.followHost
  repeat' first
    | exact sub_trans rfl hE | exact sub_trans rfl hW | exact sub_bit hW rfl | with_reducible first | assumption | apply State.setSetp_ok | apply State.configuredStop_ok | apply State.chanEvent_ok | apply State.setChanState_ok
    | intro _
    | dsimp only
    | with_reducible apply ok_ite
    | split

theorem State.followHost_ok' {s0 t0 : State} {E W : Nat} {s k t y0} (hE : sub 1631080962 E = true) (hW : sub 1224720827664335617602385987214491705952321107045573475637076124870094096279312016158541291980579011120989527404116910047459861417698541002427909772524353289371006083535384875378847687284593962722001024 W = true) (h : Ok E W s0 s) (e : State.followHost s k t = (t0, y0)) :
    Ok E W s0 t0 := by
  have r := State.followHost_ok (s0 := s0) (E := E) (W := W) (s := s) (k := k) (t := t) hE hW h
  rw [e] at r
  exact r

theorem State.follow_ok {s0 : State} {E W : Nat} {k t s} (hE : sub 1899516418 E = true) (hW : sub 1224720827664335617602385987214491705952349225283605032826076360026767835216297311989422718355905899888257122233202171424316027371470366462923921920324664292448771527551276547662050034241771995081474176 W = true) (h : Ok E W s0 s) :
    Ok E W s0 (State.follow k t s).1 := by
  unfold State.follow
  repeat' first
    | exact sub_trans rfl hE | exact sub_trans rfl hW | exact sub_bit hW rfl | with_reducible first | assumption | apply State.followAt_ok | refine State.followAt_ok' ?_ ?_ ?_ (by assumption) | apply State.followHost_ok | refine State.followHost_ok' ?_ ?_ ?_ (by assumption)
    | intro _
    | dsimp only
    | with_reducible apply ok_ite
    | split

theorem State.follow_ok' {s0 t0 : State} {E W : Nat} {k t s y0} (hE : sub 1899516418 E = true) (hW : sub 1224720827664335617602385987214491705952349225283605032826076360026767835216297311989422718355905899888257122233202171424316027371470366462923921920324664292448771527551276547662050034241771995081474176 W = true) (h : Ok E W s0 s) (e : State.follow k t s = (t0, y0)) :
    Ok E W s0 t0 := by
  have r := State.follow_ok (s0 := s0) (E := E) (W := W) (k := k) (t := t) (s := s) hE hW h
  rw [e] at r
  exact r

theorem wrSqCfg_ok {s0 : State} {E W : Nat} {n k v s} (hE : sub 8388610 E = true) (hW : sub 857413847437864077222728731327468772941204323852073375174939350483042774944393633455894620592389762586622387087788742295377567244192407617536 W = true) (h : Ok E W s0 s) :
    Ok E W s0 (wrSqCfg n k v s) := by
  unfold wrSqCfg
  repeat' first
    | exact sub_trans rfl hE | exact sub_trans rfl hW | exact sub_bit hW rfl | with_reducible first | assumption | apply State.hifRefuse_ok | apply State.wr_ok | apply State.sqInit_ok | apply State.sqClose_ok | apply State.setSq_ok | apply ws_r_HIF_OD_SQ_CFG | apply wrF_of_wr
    | intro _
    | dsimp only
    | with_reducible apply ok_ite
    | split

theorem State.beat_ok {s0 : State} {E W : Nat} {s n k} (hE : sub 8388642 E = true) (hW : sub 470292797823104873946993638534557402034134251131699132278407892859166755166388823578983533645652692129640248613611896429629871152357799160164101252316106633837988108795444184380024411489157919639762632704 W = true) (h : Ok E W s0 s) :
    Ok E W s0 (State.beat s n k) := by
  unfold State.beat
  repeat' first
    | exact sub_trans rfl hE | exact sub_trans rfl hW | exact sub_bit hW rfl | with_reducible first | assumption | apply State.putRefEntry_ok | apply State.setCq_ok | apply State.emit_ok
    | intro _
    | dsimp only
    | with_reducible apply ok_ite
    | split

theorem State.takeSetpoint_ok {s0 : State} {E W : Nat} {s k t} (hE : sub 16777216 E = true) (hW : sub 0 W = true) (h : Ok E W s0 s) :
    Ok E W s0 (State.takeSetpoint s k t) := by
  unfold State.takeSetpoint
  repeat' first
    | exact sub_trans rfl hE | exact sub_trans rfl hW | exact sub_bit hW rfl | with_reducible first | assumption | apply State.setSetp_ok
    | intro _
    | dsimp only
    | with_reducible apply ok_ite
    | split

theorem execPoolAlloc_ok {s0 : State} {E W : Nat} {n k d s} (hE : sub 142606370 E = true) (hW : sub 470292797823104873946993646134525978499690373742820598170126748377768106937018473405914333952569288111652063558104459236025511826470987703287146629667993156958861870153533978321686953487187613190805520384 W = true) (h : Ok E W s0 s) :
    OkOut E W s0 (execPoolAlloc n k d s) := by
  unfold execPoolAlloc
  repeat' first
    | exact sub_trans rfl hE | exact sub_trans rfl hW | exact sub_bit hW rfl | with_reducible first | assumption | apply okOut_next | apply okOut_fault | apply State.descriptor_ok | apply State.poolAlloc_ok | refine State.poolAlloc_ok' ?_ ?_ ?_ (by assumption)
    | intro _
    | dsimp only
    | with_reducible apply ok_ite
    | split

theorem execHeartbeatReadback_ok {s0 : State} {E W : Nat} {n k error data s} (hE : sub 8393250 E = true) (hW : sub 470292797823104873946993638534557402034134251131699132278407894788347911901582997330123179132457431247349977280776990573243409739204042785049776528079002966714953928695815131904564012100165839121811505152 W = true) (h : Ok E W s0 s) :
    OkOut E W s0 (execHeartbeatReadback n k error data s) := by
  unfold execHeartbeatReadback
  repeat' first
    | exact sub_trans rfl hE | exact sub_trans rfl hW | exact sub_bit hW rfl | with_reducible first | assumption | apply okOut_next | apply okOut_fault | apply State.breakRing_ok | apply State.setCq_ok
    | intro _
    | dsimp only
    | with_reducible apply ok_ite
    | split

theorem wrCqCfg_ok {s0 : State} {E W : Nat} {n k v s} (hE : sub 8388610 E = true) (hW : sub 548674930793622352938159244956983635706489959653648987658142544336537628611919645535081286716497656634993742033442157489935051180550509958304977768263166249134691951975444710452601754989608770221568425984 W = true) (h : Ok E W s0 s) :
    Ok E W s0 (wrCqCfg n k v s) := by
  unfold wrCqCfg
  repeat' first
    | exact sub_trans rfl hE | exact sub_trans rfl hW | exact sub_bit hW rfl | with_reducible first | assumption | apply State.hifRefuse_ok | apply State.wr_ok | apply State.setCq_ok | apply State.off_ok | apply State.p_ok | apply ws_f_HIF_OD_STATUS_BROKEN | apply ws_f_HIF_OD_STATUS_EVQ_BROKEN | apply ws_w_cqCfg | apply ws_w_cqSeq | apply ws_w_cqStatus | apply wrF_of_wr
    | intro _
    | dsimp only
    | with_reducible apply ok_ite
    | split

theorem execCqCfgWrite_ok {s0 : State} {E W : Nat} {rq n k v s} (hE : sub 8389122 E = true) (hW : sub 548674930793622352938159244956983635706489959653648987658142544336537628611919645612548783059104914324671317193532513719826224965427215343224758464482594909639927790864805308856736698094374045514557554688 W = true) (h : Ok E W s0 s) :
    OkOut E W s0 (execCqCfgWrite rq n k v s) := by
  unfold execCqCfgWrite
  repeat' first
    | exact sub_trans rfl hE | exact sub_trans rfl hW | exact sub_bit hW rfl | with_reducible first | assumption | apply okOut_next | apply okOut_fault | apply State.write_ok | apply wrCqCfg_ok
    | intro _
    | dsimp only
    | with_reducible apply ok_ite
    | split

theorem execHifEnable_ok {s0 : State} {E W : Nat} {rq n v s} (hE : sub 8389122 E = true) (hW : sub 77467496342607257689677575160090356229891173784876705384919780696219428660505235838889360598404137360956404504551338541056 W = true) (h : Ok E W s0 s) :
    OkOut E W s0 (execHifEnable rq n v s) := by
  unfold execHifEnable
  repeat' first
    | exact sub_trans rfl hE | exact sub_trans rfl hW | exact sub_bit hW rfl | with_reducible first | assumption | apply okOut_next | apply okOut_fault | apply State.write_ok | apply wrHifCtl_ok
    | intro _
    | dsimp only
    | with_reducible apply ok_ite
    | split

theorem execConfigRequest_ok {s0 : State} {E W : Nat} {n s} (hE : sub 34 E = true) (hW : sub 5814709794364855124394590463104036274829130885498544482251921593445114304907183386609528405710108524486100172850129423468276813028917248 W = true) (h : Ok E W s0 s) :
    OkOut E W s0 (execConfigRequest n s) := by
  unfold execConfigRequest
  repeat' first
    | exact sub_trans rfl hE | exact sub_trans rfl hW | exact sub_bit hW rfl | with_reducible first | assumption | apply okOut_next | apply okOut_fault | apply State.emit_ok | apply State.when_ok | apply State.on_ok | apply ws_f_GLB_READY_HOST_READY
    | intro _
    | dsimp only
    | with_reducible apply ok_ite
    | split

theorem execNop_ok {s0 : State} {E W : Nat} {n k d s} (hE : sub 8388642 E = true) (hW : sub 470292797823104873946993638534557402034134251131699132278407892978252011754981056526584746330023355038140849148622087426149225386113740124663217010079248382781010690270775724350713689745694718605578469376 W = true) (h : Ok E W s0 s) :
    OkOut E W s0 (execNop n k d s) := by
  unfold execNop
  repeat' first
    | exact sub_trans rfl hE | exact sub_trans rfl hW | exact sub_bit hW rfl | with_reducible first | assumption | apply okOut_next | apply okOut_fault | apply State.descriptor_ok
    | intro _
    | dsimp only
    | with_reducible apply ok_ite
    | split

theorem execHeartbeat_ok {s0 : State} {E W : Nat} {n s} (hE : sub 8388642 E = true) (hW : sub 470292797823104873946993638534557402034134251131699132278407892859166755166388823578983533645652692129640248613611896429629871152357799160164101252316106633837988108795444184380024411489157919639762632704 W = true) (h : Ok E W s0 s) :
    OkOut E W s0 (execHeartbeat n s) := by
  unfold execHeartbeat
  repeat' first
    | exact sub_trans rfl hE | exact sub_trans rfl hW | exact sub_bit hW rfl | with_reducible first | assumption | apply okOut_next | apply okOut_fault | apply State.each_ok | apply State.setHif_ok | apply State.beat_ok
    | intro _
    | dsimp only
    | with_reducible apply ok_ite
    | split

theorem execLaunchPush_ok {s0 : State} {E W : Nat} {n k d s} (hE : sub 8389282 E = true) (hW : sub 470292797823104873946993638534557402034134251131699132278442817540158671918069638145593057378068917479861913513372324244635034232441786252538312934607271199208361254062696460944511256478517428831804981248 W = true) (h : Ok E W s0 s) :
    OkOut E W s0 (execLaunchPush n k d s) := by
  unfold execLaunchPush
  repeat' first
    | exact sub_trans rfl hE | exact sub_trans rfl hW | exact sub_bit hW rfl | with_reducible first | assumption | apply okOut_next | apply okOut_fault | apply State.descriptor_ok | apply State.pushAs_ok
    | intro _
    | dsimp only
    | with_reducible apply ok_ite
    | split

theorem execHeartbeatTimeout_ok {s0 : State} {E W : Nat} {n k s} (hE : sub 8393250 E = true) (hW : sub 470292797823104873946993638534557402034134251131699132278407894788347911901582997330123179132457431247349977280776990573243409739204042785049776528079002966714953928695815131904564012100165839121811505152 W = true) (h : Ok E W s0 s) :
    OkOut E W s0 (execHeartbeatTimeout n k s) := by
  unfold execHeartbeatTimeout
  repeat' first
    | exact sub_trans rfl hE | exact sub_trans rfl hW | exact sub_bit hW rfl | with_reducible first | assumption | apply okOut_next | apply okOut_fault | apply State.breakRing_ok
    | intro _
    | dsimp only
    | with_reducible apply ok_ite
    | split

theorem wrRingBase_ok {s0 : State} {E W : Nat} {n a en lo v s} (hE : sub 2 E = true) (hW : sub allSlots W = true) (h : Ok E W s0 s) :
    Ok E W s0 (wrRingBase n a en lo v s) := by
  unfold wrRingBase
  repeat' first
    | exact sub_trans rfl hE | exact sub_trans rfl hW | exact sub_bit hW rfl | with_reducible first | assumption | apply State.hifRefuse_ok | apply State.wr_ok | apply wrF_of_wr | exact wr_any (any_bit hW) _ | exact wrF_any (any_bit hW) _
    | intro _
    | dsimp only
    | with_reducible apply ok_ite
    | split

theorem execIrqHoldEnd_ok {s0 : State} {E W : Nat} {n k s} (hE : sub 8388640 E = true) (hW : sub 0 W = true) (h : Ok E W s0 s) :
    OkOut E W s0 (execIrqHoldEnd n k s) := by
  unfold execIrqHoldEnd
  repeat' first
    | exact sub_trans rfl hE | exact sub_trans rfl hW | exact sub_bit hW rfl | with_reducible first | assumption | apply okOut_next | apply okOut_fault | apply State.setCq_ok | apply State.emit_ok
    | intro _
    | dsimp only
    | with_reducible apply ok_ite
    | split

theorem wrDbLo_ok {s0 : State} {E W : Nat} {n v s} (hE : sub 2 E = true) (hW : sub 762145642166990290864647761179972242614403843424065222377723867096038022172794340849684107193235344521442121855812168628537256895842940354560 W = true) (h : Ok E W s0 s) :
    Ok E W s0 (wrDbLo n v s) := by
  unfold wrDbLo
  repeat' first
    | exact sub_trans rfl hE | exact sub_trans rfl hW | exact sub_bit hW rfl | with_reducible first | assumption | apply State.hifRefuse_ok | apply State.wr_ok | apply ws_r_HIF_OD_DB_LO | apply wrF_of_wr
    | intro _
    | dsimp only
    | with_reducible apply ok_ite
    | split

theorem execSqCfgWrite_ok {s0 : State} {E W : Nat} {rq n k v s} (hE : sub 8389122 E = true) (hW : sub 857413847437864077300196227670076030630881899012163731404830524267919480329313414152114049252894998425511747686192877238482332519485396746240 W = true) (h : Ok E W s0 s) :
    OkOut E W s0 (execSqCfgWrite rq n k v s) := by
  unfold execSqCfgWrite
  repeat' first
    | exact sub_trans rfl hE | exact sub_trans rfl hW | exact sub_bit hW rfl | with_reducible first | assumption | apply okOut_next | apply okOut_fault | apply State.write_ok | apply wrSqCfg_ok
    | intro _
    | dsimp only
    | with_reducible apply ok_ite
    | split

theorem State.evalChan_ok {s0 : State} {E W : Nat} {s k t} (hE : sub 1899516418 E = true) (hW : sub 1255338848355943999476252088746034230463903515027272305176538577658830396765789411414622620067613107222892060323970520860915834136653601912524292358036380776734629576911911950141819513812540305582669693056 W = true) (h : Ok E W s0 s) :
    Ok E W s0 (State.evalChan s k t) := by
  unfold State.evalChan
  repeat' first
    | exact sub_trans rfl hE | exact sub_trans rfl hW | exact sub_bit hW rfl | with_reducible first | assumption | apply State.when_ok | apply State.takeSetpoint_ok | apply State.evaluate_ok | apply State.follow_ok | refine State.follow_ok' ?_ ?_ ?_ (by assumption) | apply State.movePhase_ok | refine State.movePhase_ok' ?_ ?_ ?_ (by assumption) | apply State.setFol_ok
    | intro _
    | dsimp only
    | with_reducible apply ok_ite
    | split

end Sys2Proof.Machine
end

