-- ==== Sys2Proof/Laws/KeepMemDma.lean ====
section
/-! SUPPORT. What the definitions of Machine/MemDma.lean keep: the queue, and the canonical forms of the register window and of
the memories; one lemma for each. -/

namespace Sys2Proof.Machine

theorem State.dmaHaltAt_ok {s0 : State} {E W : Nat} {s n reason write addr} (hE : sub 514 E = true) (hW : sub 548318933885372391381812813893600094455455356058723256853772637705567905511557862512356732550889619354197396815872 W = true) (h : Ok E W s0 s) :
    Ok E W s0 (State.dmaHaltAt s n reason write addr) := by
  unfold State.dmaHaltAt
  repeat' first
    | exact sub_trans rfl hE | exact sub_trans rfl hW | exact sub_bit hW rfl | with_reducible first | assumption | apply State.p_ok | apply State.on_ok | apply State.off_ok | apply State.wr64_ok | apply State.pb_ok | apply State.raiseSt_ok | apply State.wr_ok | apply ws_f_DMA_STATUS_BUSY | apply ws_f_DMA_STATUS_ERR_DIR | apply ws_f_DMA_STATUS_HALTED | apply ws_f_DMA_STATUS_REASON | apply ws_r_DMA_CSUM | apply ws_r_DMA_ERR_ADDR_HI | apply ws_r_DMA_ERR_ADDR_LO | apply wrF_of_wr
    | intro _
    | dsimp only
    | with_reducible apply ok_ite
    | split

theorem State.sideCheck_ok {s0 : State} {E W : Nat} {s n x len write} (hE : sub 4610 E = true) (hW : sub 27701004964987707814776282354200485283934711099335726070375062830723423097303960504888250812459315494290295258437064459779990589410261647414510048649083049159653920109819330560 W = true) (h : Ok E W s0 s) :
    Ok E W s0 (State.sideCheck s n x len write) := by
  unfold State.sideCheck
  repeat' first
    | exact sub_trans rfl hE | exact sub_trans rfl hW | exact sub_bit hW rfl | with_reducible first | assumption | apply State.when_ok | apply State.refuseHandle_ok | apply State.dmaHaltAt_ok
    | intro _
    | dsimp only
    | with_reducible apply ok_ite
    | split

theorem State.dmaRun_ok {s0 : State} {E W : Nat} {s n} (hE : sub 4610 E = true) (hW : sub 27701004964987707814776282354200485283934711099335726070375062830723423097303960504888250812459315494290295258437064459779990589410261647414510048649083049159653920109819330560 W = true) (h : Ok E W s0 s) :
    Ok E W s0 (State.dmaRun s n) := by
  unfold State.dmaRun
  repeat' first
    | exact sub_trans rfl hE | exact sub_trans rfl hW | exact sub_bit hW rfl | with_reducible first | assumption | apply State.p_ok | apply State.off_ok | apply State.on_ok | apply State.sideCheck_ok | apply ws_f_DMA_STATUS_BUSY | apply ws_f_DMA_STATUS_HALTED | apply ws_f_DMA_STATUS_REASON
    | intro _
    | dsimp only
    | with_reducible apply ok_ite
    | split

theorem State.copyDone_ok {s0 : State} {E W : Nat} {s r status bytes csum} (hE : sub 8388642 E = true) (hW : sub 470292797823104873946993638534557402034134251131699132278407892978252011754981056526584746330023355038140849148622087426149225386113740124663217010079248382781010690270775724350713689745694718605578469376 W = true) (h : Ok E W s0 s) :
    Ok E W s0 (State.copyDone s r status bytes csum) := by
  unfold State.copyDone
  repeat' first
    | exact sub_trans rfl hE | exact sub_trans rfl hW | exact sub_bit hW rfl | with_reducible first | assumption | apply State.finishDesc_ok
    | intro _
    | dsimp only
    | with_reducible apply ok_ite
    | split

theorem State.takeCopies_ok {s0 : State} {E W : Nat} {x0 s} (hE : sub 142610978 E = true) (hW : sub 470292797823104873946993638562258406999121958946475414632608378262186722854316782596959808612427844250072418271697524345008446424948679324377024616086601266623366826127423260643064188015729284518000984064 W = true) (h : Ok E W s0 s) :
    Ok E W s0 (State.takeCopies x0 s) := by
  induction x0 generalizing s with
  | zero =>
    unfold State.takeCopies
    repeat' first
      | exact sub_trans rfl hE | exact sub_trans rfl hW | exact sub_bit hW rfl | with_reducible first | assumption | apply State.copyDone_ok | apply State.when_ok | apply State.refuseHandle_ok | apply ih
      | intro _
      | dsimp only
      | with_reducible apply ok_ite
      | ((with_reducible apply ok_mk) <;> first | exact Or.inr (sub_bit hE rfl) | exact Or.inr (Or.inr (sub_bit hE rfl)) | with_reducible first | exact Or.inl rfl | exact rfl | exact Or.inr (Or.inl rfl) | assumption | apply ok_ite | apply State.copyDone_ok | apply State.when_ok | apply State.refuseHandle_ok)
      | split
  | succ n ih =>
    unfold State.takeCopies
    repeat' first
      | exact sub_trans rfl hE | exact sub_trans rfl hW | exact sub_bit hW rfl | with_reducible first | assumption | apply State.copyDone_ok | apply State.when_ok | apply State.refuseHandle_ok | apply ih
      | intro _
      | dsimp only
      | with_reducible apply ok_ite
      | ((with_reducible apply ok_mk) <;> first | exact Or.inr (sub_bit hE rfl) | exact Or.inr (Or.inr (sub_bit hE rfl)) | with_reducible first | exact Or.inl rfl | exact rfl | exact Or.inr (Or.inl rfl) | assumption | apply ok_ite | apply State.copyDone_ok | apply State.when_ok | apply State.refuseHandle_ok)
      | split

theorem State.runCopies_ok {s0 : State} {E W : Nat} {s} (hE : sub 142610978 E = true) (hW : sub 470292797823104873946993638562258406999121958946475414632608378262186722854316782596959808612427844250072418271697524345008446424948679324377024616086601266623366826127423260643064188015729284518000984064 W = true) (h : Ok E W s0 s) :
    Ok E W s0 (State.runCopies s) := by
  unfold State.runCopies
  repeat' first
    | exact sub_trans rfl hE | exact sub_trans rfl hW | exact sub_bit hW rfl | with_reducible first | assumption | apply State.takeCopies_ok
    | intro _
    | dsimp only
    | with_reducible apply ok_ite
    | split

theorem State.copyDesc_ok {s0 : State} {E W : Nat} {s n k op d} (hE : sub 142610978 E = true) (hW : sub 470292797823104873946993638562258406999121958946475414632608378262186722854316782596959808612427844250072418271697524345008446424948679324377024616086601266623366826127423260643064188015729284518000984064 W = true) (h : Ok E W s0 s) :
    OkOut E W s0 (State.copyDesc s n k op d) := by
  unfold State.copyDesc
  repeat' first
    | exact sub_trans rfl hE | exact sub_trans rfl hW | exact sub_bit hW rfl | with_reducible first | assumption | apply okOut_next | apply okOut_fault | apply State.sqStart_ok | refine State.sqStart_ok' ?_ ?_ ?_ (by assumption) | apply State.finishDesc_ok | apply State.runCopies_ok
    | intro _
    | dsimp only
    | with_reducible apply ok_ite
    | ((with_reducible apply ok_mk) <;> first | exact Or.inr (sub_bit hE rfl) | exact Or.inr (Or.inr (sub_bit hE rfl)) | with_reducible first | exact Or.inl rfl | exact rfl | exact Or.inr (Or.inl rfl) | assumption | apply ok_ite | apply State.sqStart_ok | refine State.sqStart_ok' ?_ ?_ ?_ (by assumption) | apply State.finishDesc_ok | apply State.runCopies_ok)
    | split

theorem execCopyOut_ok {s0 : State} {E W : Nat} {n k d s} (hE : sub 142610978 E = true) (hW : sub 470292797823104873946993638562258406999121958946475414632608378262186722854316782596959808612427844250072418271697524345008446424948679324377024616086601266623366826127423260643064188015729284518000984064 W = true) (h : Ok E W s0 s) :
    OkOut E W s0 (execCopyOut n k d s) := by
  unfold execCopyOut
  repeat' first
    | exact sub_trans rfl hE | exact sub_trans rfl hW | exact sub_bit hW rfl | with_reducible first | assumption | apply okOut_next | apply okOut_fault | apply State.copyDesc_ok
    | intro _
    | dsimp only
    | with_reducible apply ok_ite
    | split

theorem State.memRefuse_ok {s0 : State} {E W : Nat} {s} (hE : sub 2 E = true) (hW : sub 58968162887836583628774290327941701420576894069006881693378223441337877537377325813845730080900918242835443359855685076558915384842574884883772410178635875682021801984 W = true) (h : Ok E W s0 s) :
    Ok E W s0 (State.memRefuse s) := by
  unfold State.memRefuse
  repeat' first
    | exact sub_trans rfl hE | exact sub_trans rfl hW | exact sub_bit hW rfl | with_reducible first | assumption | apply State.on_ok | apply ws_f_MEM_STATUS_CFG_REFUSED
    | intro _
    | dsimp only
    | with_reducible apply ok_ite
    | split

theorem State.setLive_ok {s0 : State} {E W : Nat} {s n x} (hE : sub 134217728 E = true) (hW : sub 0 W = true) (h : Ok E W s0 s) :
    Ok E W s0 (State.setLive s n x) := by
  unfold State.setLive
  repeat' first
    | exact sub_trans rfl hE | exact sub_trans rfl hW | exact sub_bit hW rfl | with_reducible first | assumption
    | intro _
    | dsimp only
    | with_reducible apply ok_ite
    | ((with_reducible apply ok_mk) <;> first | exact Or.inr (sub_bit hE rfl) | exact Or.inr (Or.inr (sub_bit hE rfl)) | with_reducible first | exact Or.inl rfl | exact rfl | exact Or.inr (Or.inl rfl) | assumption | apply ok_ite)
    | split

theorem State.dmaAbort_ok {s0 : State} {E W : Nat} {s n} (hE : sub 134217730 E = true) (hW : sub 471361890533039424170330313698007098742408990296095431330436127150400480176602373036938243771816617773321477423104 W = true) (h : Ok E W s0 s) :
    Ok E W s0 (State.dmaAbort s n) := by
  unfold State.dmaAbort
  repeat' first
    | exact sub_trans rfl hE | exact sub_trans rfl hW | exact sub_bit hW rfl | with_reducible first | assumption | apply State.setLive_ok | apply State.p_ok | apply State.off_ok | apply ws_f_DMA_STATUS_BUSY | apply ws_f_DMA_STATUS_HALTED | apply ws_f_DMA_STATUS_REASON
    | intro _
    | dsimp only
    | with_reducible apply ok_ite
    | split

theorem State.dmaResume_ok {s0 : State} {E W : Nat} {s n} (hE : sub 4610 E = true) (hW : sub 27701004964987707814776282354200485283934711099335726070375062830723423097303960504888250812459315494290295258437064459779990589410261647414510048649083049159653920109819330560 W = true) (h : Ok E W s0 s) :
    Ok E W s0 (State.dmaResume s n) := by
  unfold State.dmaResume
  repeat' first
    | exact sub_trans rfl hE | exact sub_trans rfl hW | exact sub_bit hW rfl | with_reducible first | assumption | apply State.dmaRun_ok
    | intro _
    | dsimp only
    | with_reducible apply ok_ite
    | split

theorem State.dmaStart_ok {s0 : State} {E W : Nat} {s n} (hE : sub 134222338 E = true) (hW : sub 27701005023955870702612865982974775611876412519912620139381944581819429052891563450877451772999792359975987823243376962138058582344746033473702040096722043642509556692750958592 W = true) (h : Ok E W s0 s) :
    Ok E W s0 (State.dmaStart s n) := by
  unfold State.dmaStart
  repeat' first
    | exact sub_trans rfl hE | exact sub_trans rfl hW | exact sub_bit hW rfl | with_reducible first | assumption | apply State.memRefuse_ok | apply State.on_ok | apply State.setLive_ok | apply State.dmaRun_ok | apply State.wr_ok | apply State.off_ok | apply ws_f_DMA_STATUS_CFG_REFUSED | apply ws_f_DMA_STATUS_DONE | apply ws_r_DMA_CSUM | apply ws_r_DMA_DONE_BYTES | apply wrF_of_wr
    | intro _
    | dsimp only
    | with_reducible apply ok_ite
    | ((with_reducible apply ok_mk) <;> first | exact Or.inr (sub_bit hE rfl) | exact Or.inr (Or.inr (sub_bit hE rfl)) | with_reducible first | exact Or.inl rfl | exact rfl | exact Or.inr (Or.inl rfl) | assumption | apply ok_ite | apply State.memRefuse_ok | apply State.on_ok | apply State.setLive_ok | apply State.dmaRun_ok | apply State.wr_ok | apply State.off_ok | apply ws_f_DMA_STATUS_CFG_REFUSED | apply ws_f_DMA_STATUS_DONE | apply ws_r_DMA_CSUM | apply ws_r_DMA_DONE_BYTES | apply wrF_of_wr)
    | split

theorem wrDmaCtl_ok {s0 : State} {E W : Nat} {n v s} (hE : sub 134222338 E = true) (hW : sub 27701005023955870702612865982974775611876412519912620139381944581819429052891563450877451772999792359975987823243376962138058582344746033473702040096722043642581614286788886528 W = true) (h : Ok E W s0 s) :
    Ok E W s0 (wrDmaCtl n v s) := by
  unfold wrDmaCtl
  repeat' first
    | exact sub_trans rfl hE | exact sub_trans rfl hW | exact sub_bit hW rfl | with_reducible first | assumption | apply State.memRefuse_ok | apply State.on_ok | apply State.wr_ok | apply State.when_ok | apply State.dmaAbort_ok | apply State.dmaResume_ok | apply State.dmaStart_ok | apply ws_f_DMA_STATUS_CFG_REFUSED | apply ws_r_DMA_CTL | apply wrF_of_wr
    | intro _
    | dsimp only
    | with_reducible apply ok_ite
    | split

theorem execDmaResume_ok {s0 : State} {E W : Nat} {rq n s} (hE : sub 134222338 E = true) (hW : sub 27701005023955870702612865982974775611876412519912620216849440924426686742569138610967808002890966144852693208163157658357487242849981872363062638500856986747346889579778015232 W = true) (h : Ok E W s0 s) :
    OkOut E W s0 (execDmaResume rq n s) := by
  unfold execDmaResume
  repeat' first
    | exact sub_trans rfl hE | exact sub_trans rfl hW | exact sub_bit hW rfl | with_reducible first | assumption | apply okOut_next | apply okOut_fault | apply State.write_ok | apply wrDmaCtl_ok
    | intro _
    | dsimp only
    | with_reducible apply ok_ite
    | split

theorem State.eccFixed_ok {s0 : State} {E W : Nat} {s ipm k} (hE : sub 2 E = true) (hW : sub 600738159419835195718138082715906083222127108328007607251290651308629627412031506728553375199178104598886079228529791717443950483083731639753431428694852983510597107712 W = true) (h : Ok E W s0 s) :
    Ok E W s0 (State.eccFixed s ipm k) := by
  unfold State.eccFixed
  repeat' first
    | exact sub_trans rfl hE | exact sub_trans rfl hW | exact sub_bit hW rfl | with_reducible first | assumption | apply State.count_ok | apply State.on_ok | apply ws_f_MEM_ECC_CNT_IPM | apply ws_f_MEM_ECC_CNT_SRAM | apply ws_f_MEM_STATUS_IPM_CORR | apply ws_f_MEM_STATUS_SRAM_CORR
    | intro _
    | dsimp only
    | with_reducible apply ok_ite
    | split

theorem State.sidePut_ok {s0 : State} {E W : Nat} {s n x off l} (hE : sub 134218278 E = true) (hW : sub 77467496342607257689677575160090356229891173784876705384919780696219428660505235838889360598404134943104765275292989128704 W = true) (h : Ok E W s0 s) :
    Ok E W s0 (State.sidePut s n x off l) := by
  unfold State.sidePut
  repeat' first
    | exact sub_trans rfl hE | exact sub_trans rfl hW | exact sub_bit hW rfl | with_reducible first | assumption | apply State.hostWrite_ok | apply State.ipmPut_ok | apply State.sramPut_ok
    | intro _
    | dsimp only
    | with_reducible apply ok_ite
    | split

theorem State.dmaMove_ok {s0 : State} {E W : Nat} {s n len data fixed} (hE : sub 134218278 E = true) (hW : sub 600738159419835195718138082715906083222127108405475103593897908998307202572121862958444548984054809983805859924749220377949186321973092238157566371799762373991662092288 W = true) (h : Ok E W s0 s) :
    Ok E W s0 (State.dmaMove s n len data fixed) := by
  unfold State.dmaMove
  repeat' first
    | exact sub_trans rfl hE | exact sub_trans rfl hW | exact sub_bit hW rfl | with_reducible first | assumption | apply State.eccFixed_ok | apply State.when_ok | apply State.hostFetch_ok | apply State.sidePut_ok | apply State.wr_ok | apply ws_r_DMA_DONE_BYTES | apply wrF_of_wr
    | intro _
    | dsimp only
    | with_reducible apply ok_ite
    | ((with_reducible apply ok_mk) <;> first | exact Or.inr (sub_bit hE rfl) | exact Or.inr (Or.inr (sub_bit hE rfl)) | with_reducible first | exact Or.inl rfl | exact rfl | exact Or.inr (Or.inl rfl) | assumption | apply ok_ite | apply State.eccFixed_ok | apply State.when_ok | apply State.hostFetch_ok | apply State.sidePut_ok | apply State.wr_ok | apply ws_r_DMA_DONE_BYTES | apply wrF_of_wr)
    | split

theorem execDmaDone_ok {s0 : State} {E W : Nat} {n x s} (hE : sub 134218278 E = true) (hW : sub 600738159419835195718138082715906083222127108405475104180695364559846077559675926949841141296033348923843029540190113361100804501008699488223543312225432158664281554944 W = true) (h : Ok E W s0 s) :
    OkOut E W s0 (execDmaDone n x s) := by
  unfold execDmaDone
  repeat' first
    | exact sub_trans rfl hE | exact sub_trans rfl hW | exact sub_bit hW rfl | with_reducible first | assumption | apply okOut_next | apply okOut_fault | apply State.dmaHaltAt_ok | apply State.dmaMove_ok | apply State.setLive_ok | apply State.when_ok | apply State.sidePut_ok | apply State.on_ok | apply State.off_ok | apply State.wr_ok | apply State.raiseSt_ok | apply ws_f_DMA_STATUS_BUSY | apply ws_f_DMA_STATUS_DONE | apply ws_r_DMA_CSUM | apply wrF_of_wr
    | intro _
    | dsimp only
    | with_reducible apply ok_ite
    | split

theorem execDmaStart_ok {s0 : State} {E W : Nat} {rq n s} (hE : sub 134222338 E = true) (hW : sub 27701005023955870702612865982974775611876412519912620216849440924426686742569138610967808002890966144852693208163157658357487242849981872363062638500856986747346889579778015232 W = true) (h : Ok E W s0 s) :
    OkOut E W s0 (execDmaStart rq n s) := by
  unfold execDmaStart
  repeat' first
    | exact sub_trans rfl hE | exact sub_trans rfl hW | exact sub_bit hW rfl | with_reducible first | assumption | apply okOut_next | apply okOut_fault | apply State.write_ok | apply wrDmaCtl_ok
    | intro _
    | dsimp only
    | with_reducible apply ok_ite
    | split

theorem State.copyEnd_ok {s0 : State} {E W : Nat} {s c r status bytes} (hE : sub 142610978 E = true) (hW : sub 470292797823104873946993638562258406999121958946475414632608378262186722854316782596959808612427844250072418271697524345008446424948679324377024616086601266623366826127423260643064188015729284518000984064 W = true) (h : Ok E W s0 s) :
    Ok E W s0 (State.copyEnd s c r status bytes) := by
  unfold State.copyEnd
  repeat' first
    | exact sub_trans rfl hE | exact sub_trans rfl hW | exact sub_bit hW rfl | with_reducible first | assumption | apply State.runCopies_ok | apply State.copyDone_ok
    | intro _
    | dsimp only
    | with_reducible apply ok_ite
    | ((with_reducible apply ok_mk) <;> first | exact Or.inr (sub_bit hE rfl) | exact Or.inr (Or.inr (sub_bit hE rfl)) | with_reducible first | exact Or.inl rfl | exact rfl | exact Or.inr (Or.inl rfl) | assumption | apply ok_ite | apply State.runCopies_ok | apply State.copyDone_ok)
    | split

theorem State.segmentMoved_ok {s0 : State} {E W : Nat} {s c x data fixed} (hE : sub 142610982 E = true) (hW : sub 470292797823104873946993638562258407599860118366310610350746460978092806076443891002434912206325753248379620843819387303452995409003489308182884540835821644572553148100515498800630559815347543321587220480 W = true) (h : Ok E W s0 s) :
    Ok E W s0 (State.segmentMoved s c x data fixed) := by
  unfold State.segmentMoved
  repeat' first
    | exact sub_trans rfl hE | exact sub_trans rfl hW | exact sub_bit hW rfl | with_reducible first | assumption | apply State.when_ok | apply State.hostFetch_ok | apply State.sramPut_ok | apply State.eccFixed_ok | apply State.hostWrite_ok | apply State.ipmPut_ok | apply State.copyEnd_ok
    | intro _
    | dsimp only
    | with_reducible apply ok_ite
    | ((with_reducible apply ok_mk) <;> first | exact Or.inr (sub_bit hE rfl) | exact Or.inr (Or.inr (sub_bit hE rfl)) | with_reducible first | exact Or.inl rfl | exact rfl | exact Or.inr (Or.inl rfl) | assumption | apply ok_ite | apply State.when_ok | apply State.hostFetch_ok | apply State.sramPut_ok | apply State.eccFixed_ok | apply State.hostWrite_ok | apply State.ipmPut_ok | apply State.copyEnd_ok)
    | split

theorem State.segmentRead_ok {s0 : State} {E W : Nat} {s c x data fixed} (hE : sub 142610982 E = true) (hW : sub 470292797823104873946993638562258407599860118366310610350746460978092806076443891002434912206325753248379620843819387303452995409003489308182884540835821644572553148100515498800630559815347543321587220480 W = true) (h : Ok E W s0 s) :
    Ok E W s0 (State.segmentRead s c x data fixed) := by
  unfold State.segmentRead
  repeat' first
    | exact sub_trans rfl hE | exact sub_trans rfl hW | exact sub_bit hW rfl | with_reducible first | assumption | apply State.copyEnd_ok | apply State.segmentMoved_ok
    | intro _
    | dsimp only
    | with_reducible apply ok_ite
    | split

theorem execCopySegmentDone_ok {s0 : State} {E W : Nat} {c res s} (hE : sub 142610982 E = true) (hW : sub 470292797823104873946993638562258407599860118366310610350746460978092806076443891002434912206325753248379620843819387303452995409003489308182884540835821644572553148100515498800630559815347543321587220480 W = true) (h : Ok E W s0 s) :
    OkOut E W s0 (execCopySegmentDone c res s) := by
  unfold execCopySegmentDone
  repeat' first
    | exact sub_trans rfl hE | exact sub_trans rfl hW | exact sub_bit hW rfl | with_reducible first | assumption | apply okOut_next | apply okOut_fault | apply State.copyEnd_ok | apply State.segmentRead_ok
    | intro _
    | dsimp only
    | with_reducible apply ok_ite
    | split

theorem wrPoolCount_ok {s0 : State} {E W : Nat} {c v s} (hE : sub 2 E = true) (hW : sub 989321664860581024078593712852879088082226816981741428663133917749812341764005006058591418090702260859308928539507917213090536696142389682445069504179982850302302770616598528 W = true) (h : Ok E W s0 s) :
    Ok E W s0 (wrPoolCount c v s) := by
  unfold wrPoolCount
  repeat' first
    | exact sub_trans rfl hE | exact sub_trans rfl hW | exact sub_bit hW rfl | with_reducible first | assumption | apply State.memRefuse_ok | apply State.p_ok | apply ws_f_POOL_C_CFG_COUNT
    | intro _
    | dsimp only
    | with_reducible apply ok_ite
    | split

theorem execPoolCountWrite_ok {s0 : State} {E W : Nat} {rq c v s} (hE : sub 514 E = true) (hW : sub 989321664860581024078593712852879088082226816981741506130630260357070031441580166148947647981876045736014313459288613432519197201378228571805667908314925955067578063605727232 W = true) (h : Ok E W s0 s) :
    OkOut E W s0 (execPoolCountWrite rq c v s) := by
  unfold execPoolCountWrite
  repeat' first
    | exact sub_trans rfl hE | exact sub_trans rfl hW | exact sub_bit hW rfl | with_reducible first | assumption | apply okOut_next | apply okOut_fault | apply State.write_ok | apply wrPoolCount_ok
    | intro _
    | dsimp only
    | with_reducible apply ok_ite
    | split

theorem State.endCopies_ok {s0 : State} {E W : Nat} {s status which} (hE : sub 142606370 E = true) (hW : sub 470292797823104873946993638534557402034134251131699132278407892978252011754981056526584746330023355038140849148622087426149225386113740124663217010079248382781010690270775724350713689745694718605578469376 W = true) (h : Ok E W s0 s) :
    Ok E W s0 (State.endCopies s status which) := by
  unfold State.endCopies
  repeat' first
    | exact sub_trans rfl hE | exact sub_trans rfl hW | exact sub_bit hW rfl | with_reducible first | assumption | apply State.each_ok | apply State.copyDone_ok
    | intro _
    | dsimp only
    | with_reducible apply ok_ite
    | ((with_reducible apply ok_mk) <;> first | exact Or.inr (sub_bit hE rfl) | exact Or.inr (Or.inr (sub_bit hE rfl)) | with_reducible first | exact Or.inl rfl | exact rfl | exact Or.inr (Or.inl rfl) | assumption | apply ok_ite | apply State.each_ok | apply State.copyDone_ok)
    | split

theorem wrMemSeg_ok {s0 : State} {E W : Nat} {v s} (hE : sub 2 E = true) (hW : sub 73710203609795729535967862909927126775721117586258602116722779301672346921721657267307162601126147803544304199819606345698644231053218606104715512723294844602527252480 W = true) (h : Ok E W s0 s) :
    Ok E W s0 (wrMemSeg v s) := by
  unfold wrMemSeg
  repeat' first
    | exact sub_trans rfl hE | exact sub_trans rfl hW | exact sub_bit hW rfl | with_reducible first | assumption | apply State.memRefuse_ok | apply State.p_ok | apply ws_f_MEM_STAGE_SEG
    | intro _
    | dsimp only
    | with_reducible apply ok_ite
    | split

theorem execMemSegWrite_ok {s0 : State} {E W : Nat} {rq v s} (hE : sub 514 E = true) (hW : sub 73710203609795729535967862909927126775721117663726098459330036991349922081812013497198336386002853188464084896039035006203880069942579204508850455828060119895516381184 W = true) (h : Ok E W s0 s) :
    OkOut E W s0 (execMemSegWrite rq v s) := by
  unfold execMemSegWrite
  repeat' first
    | exact sub_trans rfl hE | exact sub_trans rfl hW | exact sub_bit hW rfl | with_reducible first | assumption | apply okOut_next | apply okOut_fault | apply State.write_ok | apply wrMemSeg_ok
    | intro _
    | dsimp only
    | with_reducible apply ok_ite
    | split

theorem State.dmaStop_ok {s0 : State} {E W : Nat} {s n reason} (hE : sub 530 E = true) (hW : sub 548318933885372391381812813893600094455455356058723256853772637705567905511557862512356732550889619354197396815872 W = true) (h : Ok E W s0 s) :
    Ok E W s0 (State.dmaStop s n reason) := by
  unfold State.dmaStop
  repeat' first
    | exact sub_trans rfl hE | exact sub_trans rfl hW | exact sub_bit hW rfl | with_reducible first | assumption | apply State.dmaHaltAt_ok | apply State.took_ok
    | intro _
    | dsimp only
    | with_reducible apply ok_ite
    | split

theorem State.haltDmas_ok {s0 : State} {E W : Nat} {s reason which} (hE : sub 530 E = true) (hW : sub 548318933885372391381812813893600094455455356058723256853772637705567905511557862512356732550889619354197396815872 W = true) (h : Ok E W s0 s) :
    Ok E W s0 (State.haltDmas s reason which) := by
  unfold State.haltDmas
  repeat' first
    | exact sub_trans rfl hE | exact sub_trans rfl hW | exact sub_bit hW rfl | with_reducible first | assumption | apply State.each_ok | apply State.dmaStop_ok
    | intro _
    | dsimp only
    | with_reducible apply ok_ite
    | split

theorem State.dmaClusterEscalate_ok {s0 : State} {E W : Nat} {s} (hE : sub 142610994 E = true) (hW : sub 470292797823104873946993638562258406999121958946475414632608378262372793567736457960940436055566107296239341841846291662040602371394279040857311338230743881173995810468840978531000880456333496732323151872 W = true) (h : Ok E W s0 s) :
    Ok E W s0 (State.dmaClusterEscalate s) := by
  unfold State.dmaClusterEscalate
  repeat' first
    | exact sub_trans rfl hE | exact sub_trans rfl hW | exact sub_bit hW rfl | with_reducible first | assumption | apply State.p_ok | apply State.runCopies_ok | apply State.haltDmas_ok | apply State.endCopies_ok | apply ws_f_GLB_REGION_STATE_CLUSTER_FAULT_SEEN
    | intro _
    | dsimp only
    | with_reducible apply ok_ite
    | split

theorem State.dmaClusterFault_ok {s0 : State} {E W : Nat} {s} (hE : sub 142610994 E = true) (hW : sub 470292797823104873946993638562258407942612565151860752692997023509440016296966763065050543149617682357645382439883504683572283665808970926224405095921705106116641967950039136671359443314507507644671983616 W = true) (h : Ok E W s0 s) :
    Ok E W s0 (State.dmaClusterFault s) := by
  unfold State.dmaClusterFault
  repeat' first
    | exact sub_trans rfl hE | exact sub_trans rfl hW | exact sub_bit hW rfl | with_reducible first | assumption | apply State.dmaClusterEscalate_ok | apply State.on_ok | apply ws_f_MEM_STATUS_STAGE_FAULT
    | intro _
    | dsimp only
    | with_reducible apply ok_ite
    | split

theorem wrMemCtl_ok {s0 : State} {E W : Nat} {v s} (hE : sub 2 E = true) (hW : sub 7599968576465556122611121465891718855399516095182037416879329587622545933073511214409482371809876286440357247578623929619588744774177851179888075165954112927233108122826348429312 W = true) (h : Ok E W s0 s) :
    Ok E W s0 (wrMemCtl v s) := by
  unfold wrMemCtl
  repeat' first
    | exact sub_trans rfl hE | exact sub_trans rfl hW | exact sub_bit hW rfl | with_reducible first | assumption | apply State.poolCounts_ok | apply State.wr_ok | apply ws_r_MEM_CTL | apply wrF_of_wr
    | intro _
    | dsimp only
    | with_reducible apply ok_ite
    | split

theorem execDmaHalt_ok {s0 : State} {E W : Nat} {n reason write addr moved x s} (hE : sub 134218278 E = true) (hW : sub 600738159419835195718138082715906083222127108405475104142216842883679593953934676852044643439510166042529116778521858083517091833530954750514298922689381728189058908160 W = true) (h : Ok E W s0 s) :
    OkOut E W s0 (execDmaHalt n reason write addr moved x s) := by
  unfold execDmaHalt
  repeat' first
    | exact sub_trans rfl hE | exact sub_trans rfl hW | exact sub_bit hW rfl | with_reducible first | assumption | apply okOut_next | apply okOut_fault | apply State.dmaHaltAt_ok | apply State.dmaMove_ok
    | intro _
    | dsimp only
    | with_reducible apply ok_ite
    | split

theorem execStagingFault_ok {s0 : State} {E W : Nat} {c s} (hE : sub 142610994 E = true) (hW : sub 470292797823104873946993638562258407972096646595779044507384168673410867007255210099553983996306794078314321208572167590495148706259430047642126775849547644396099660371326579113245648403825445485682884608 W = true) (h : Ok E W s0 s) :
    OkOut E W s0 (execStagingFault c s) := by
  unfold execStagingFault
  repeat' first
    | exact sub_trans rfl hE | exact sub_trans rfl hW | exact sub_bit hW rfl | with_reducible first | assumption | apply okOut_next | apply okOut_fault | apply State.dmaClusterFault_ok | apply State.p_ok | apply ws_f_MEM_STAGE_SOUND
    | intro _
    | dsimp only
    | with_reducible apply ok_ite
    | split

theorem wrMemLayout_ok {s0 : State} {E W : Nat} {v s} (hE : sub 2 E = true) (hW : sub 58968162887836583628774290327941701420576894069006881693378223441337877537377325813845730080900918242835443359855685076558915384853208708850051737161866332164264558592 W = true) (h : Ok E W s0 s) :
    Ok E W s0 (wrMemLayout v s) := by
  unfold wrMemLayout
  repeat' first
    | exact sub_trans rfl hE | exact sub_trans rfl hW | exact sub_bit hW rfl | with_reducible first | assumption | apply State.memRefuse_ok | apply State.wr_ok | apply ws_r_MEM_LAYOUT | apply wrF_of_wr
    | intro _
    | dsimp only
    | with_reducible apply ok_ite
    | split

theorem execCopyIn_ok {s0 : State} {E W : Nat} {n k d s} (hE : sub 142610978 E = true) (hW : sub 470292797823104873946993638562258406999121958946475414632608378262186722854316782596959808612427844250072418271697524345008446424948679324377024616086601266623366826127423260643064188015729284518000984064 W = true) (h : Ok E W s0 s) :
    OkOut E W s0 (execCopyIn n k d s) := by
  unfold execCopyIn
  repeat' first
    | exact sub_trans rfl hE | exact sub_trans rfl hW | exact sub_bit hW rfl | with_reducible first | assumption | apply okOut_next | apply okOut_fault | apply State.copyDesc_ok
    | intro _
    | dsimp only
    | with_reducible apply ok_ite
    | split

theorem execPatrolScrub_ok {s0 : State} {E W : Nat} {ipm word corrected poisoned s} (hE : sub 134217730 E = true) (hW : sub 836610810971181530233235244027672888904434684604035134024803545073981137561540809983936295522781777570227852667952532023679612022454031179288521069409396486238684315648 W = true) (h : Ok E W s0 s) :
    OkOut E W s0 (execPatrolScrub ipm word corrected poisoned s) := by
  unfold execPatrolScrub
  repeat' first
    | exact sub_trans rfl hE | exact sub_trans rfl hW | exact sub_bit hW rfl | with_reducible first | assumption | apply okOut_next | apply okOut_fault | apply State.on_ok | apply State.eccFixed_ok | apply ws_f_MEM_STATUS_POISONED
    | intro _
    | dsimp only
    | with_reducible apply ok_ite
    | ((with_reducible apply ok_mk) <;> first | exact Or.inr (sub_bit hE rfl) | exact Or.inr (Or.inr (sub_bit hE rfl)) | with_reducible first | exact Or.inl rfl | exact rfl | exact Or.inr (Or.inl rfl) | assumption | apply ok_ite | apply State.on_ok | apply State.eccFixed_ok | apply ws_f_MEM_STATUS_POISONED)
    | split

theorem State.copyFault_ok {s0 : State} {E W : Nat} {s c} (hE : sub 142610994 E = true) (hW : sub 470292797823104873946993638562258406999121958946475414632608378262186722854316782596959809160746778135444809653510338238608540880404035383100281469859238972191272337685285772999796738905348638715397799936 W = true) (h : Ok E W s0 s) :
    Ok E W s0 (State.copyFault s c) := by
  unfold State.copyFault
  repeat' first
    | exact sub_trans rfl hE | exact sub_trans rfl hW | exact sub_bit hW rfl | with_reducible first | assumption | apply State.dmaStop_ok | apply State.copyEnd_ok
    | intro _
    | dsimp only
    | with_reducible apply ok_ite
    | split

theorem execDmaAbort_ok {s0 : State} {E W : Nat} {rq n s} (hE : sub 134222338 E = true) (hW : sub 27701005023955870702612865982974775611876412519912620216849440924426686742569138610967808002890966144852693208163157658357487242849981872363062638500856986747346889579778015232 W = true) (h : Ok E W s0 s) :
    OkOut E W s0 (execDmaAbort rq n s) := by
  unfold execDmaAbort
  repeat' first
    | exact sub_trans rfl hE | exact sub_trans rfl hW | exact sub_bit hW rfl | with_reducible first | assumption | apply okOut_next | apply okOut_fault | apply State.write_ok | apply wrDmaCtl_ok
    | intro _
    | dsimp only
    | with_reducible apply ok_ite
    | split

end Sys2Proof.Machine
end

