-- ==== Sys2Proof/Laws/KeepAuxDrive.lean ====
section
/-! SUPPORT. What the definitions of Machine/AuxDrive.lean keep: the queue, and the canonical forms of the register window and of
the memories; one lemma for each. -/

namespace Sys2Proof.Machine

theorem State.auxFollow_ok {s0 : State} {E W : Nat} {s c} (hE : sub 1611169794 E = true) (hW : sub 19184253032969481026970695169138199695983667444439470965784800 W = true) (h : Ok E W s0 s) :
    Ok E W s0 (State.auxFollow s c) := by
  unfold State.auxFollow
  repeat' first
    | exact sub_trans rfl hE | exact sub_trans rfl hW | exact sub_bit hW rfl | with_reducible first | assumption | apply State.refreshAux_ok | apply State.coilRefresh_ok | apply State.stepPos_ok
    | intro _
    | dsimp only
    | with_reducible apply ok_ite
    | split

theorem wrAuxMode_ok {s0 : State} {E W : Nat} {c off v s} (hE : sub 1611169794 E = true) (hW : sub 612360413832167804618481300175204950565278972827733245154176943827040045789568780701801476101110276210469073715640490142747228062965884323149536979523037433865045383408719230106972657948502773565751520 W = true) (h : Ok E W s0 s) :
    Ok E W s0 (wrAuxMode c off v s) := by
  unfold wrAuxMode
  repeat' first
    | exact sub_trans rfl hE | exact sub_trans rfl hW | exact sub_bit hW rfl | with_reducible first | assumption | apply State.on_ok | apply State.auxFollow_ok | apply State.merge_ok | apply ws_f_AUX_STATUS_CFG_REFUSED | apply ws_w_auxWord | apply wrF_of_wr
    | intro _
    | dsimp only
    | with_reducible apply ok_ite
    | split

theorem State.useRestart_ok {s0 : State} {E W : Nat} {s c} (hE : sub 1613234690 E = true) (hW : sub 1224720827664335609236962600350409901130618081282969285596185377482296763539809854588068960942638817343727948465995170254601618571423883039263834202025969114759281476023451475686723640992236045512736896 W = true) (h : Ok E W s0 s) :
    Ok E W s0 (State.useRestart s c) := by
  unfold State.useRestart
  repeat' first
    | exact sub_trans rfl hE | exact sub_trans rfl hW | exact sub_bit hW rfl | with_reducible first | assumption | apply State.bldcCoast_ok | apply State.p_ok | apply State.on_ok | apply State.auxFault_ok | apply State.raiseSt_ok | apply ws_f_AUX_BL_STATUS_RESTARTS | apply ws_f_AUX_BL_STATUS_START_FAIL
    | intro _
    | dsimp only
    | with_reducible apply ok_ite
    | split

theorem State.countMiss_ok {s0 : State} {E W : Nat} {s c} (hE : sub 1613234690 E = true) (hW : sub 1224720827664335609236962600350409901130618081282969285596185377482296763539809854588068960942638817343727948465995170254601618571423883039263834202792216885192225905202624989261878232801605606604537984 W = true) (h : Ok E W s0 s) :
    Ok E W s0 (State.countMiss s c) := by
  unfold State.countMiss
  repeat' first
    | exact sub_trans rfl hE | exact sub_trans rfl hW | exact sub_bit hW rfl | with_reducible first | assumption | apply State.p_ok | apply State.setAux_ok | apply State.on_ok | apply State.useRestart_ok | apply State.holdPlan_ok | apply State.raiseSt_ok | apply ws_f_AUX_BL_STATUS_LOST | apply ws_f_AUX_BL_STATUS_ZC_RUN
    | intro _
    | dsimp only
    | with_reducible apply ok_ite
    | split

theorem State.auxClusterFault_ok {s0 : State} {E W : Nat} {s cl} (hE : sub 1614303746 E = true) (hW : sub 1224720827664335617602385987214491705952321107045573475637076125056164809698987380139168186799908171915521715740070333479521352407942198759457778144029262272094478867090590406582989238269451979647352960 W = true) (h : Ok E W s0 s) :
    Ok E W s0 (State.auxClusterFault s cl) := by
  unfold State.auxClusterFault
  repeat' first
    | exact sub_trans rfl hE | exact sub_trans rfl hW | exact sub_bit hW rfl | with_reducible first | assumption | apply State.p_ok | apply State.raiseSt_ok | apply State.each_ok | apply State.levelStop_ok | apply State.offStop_ok | apply State.configuredStop_ok | apply ws_f_GLB_REGION_STATE_CLUSTER_FAULT_SEEN
    | intro _
    | dsimp only
    | with_reducible apply ok_ite
    | split

theorem State.auxClear_ok {s0 : State} {E W : Nat} {s c} (hE : sub 1611137026 E = true) (hW : sub 6404073899722198991801027903487390872799271759510696697528448 W = true) (h : Ok E W s0 s) :
    Ok E W s0 (State.auxClear s c) := by
  unfold State.auxClear
  repeat' first
    | exact sub_trans rfl hE | exact sub_trans rfl hW | exact sub_bit hW rfl | with_reducible first | assumption | apply State.refreshAux_ok | apply State.off_ok | apply ws_f_AUX_STATUS_FAULT | apply ws_f_AUX_STATUS_LAUNCH_OFF
    | intro _
    | dsimp only
    | with_reducible apply ok_ite
    | split

theorem State.commutate_ok {s0 : State} {E W : Nat} {s c} (hE : sub 536903682 E = true) (hW : sub 6129982163463555433433388108601236734474956488734408800 W = true) (h : Ok E W s0 s) :
    Ok E W s0 (State.commutate s c) := by
  unfold State.commutate
  repeat' first
    | exact sub_trans rfl hE | exact sub_trans rfl hW | exact sub_bit hW rfl | with_reducible first | assumption | apply State.setAux_ok | apply State.notePos_ok | apply State.wr64_ok | apply State.newSector_ok | apply ws_r_AUX_POS_HI | apply ws_r_AUX_POS_LO | apply wrF_of_wr
    | intro _
    | dsimp only
    | with_reducible apply ok_ite
    | split

theorem State.askPeak_ok {s0 : State} {E W : Nat} {s c i} (hE : sub 1610612738 E = true) (hW : sub 6027390781975829369699446925215686436486783616938949639929856 W = true) (h : Ok E W s0 s) :
    Ok E W s0 (State.askPeak s c i) := by
  unfold State.askPeak
  repeat' first
    | exact sub_trans rfl hE | exact sub_trans rfl hW | exact sub_bit hW rfl | with_reducible first | assumption | apply State.adcAskCoil_ok | apply State.setCoil_ok
    | intro _
    | dsimp only
    | with_reducible apply ok_ite
    | split

theorem State.askValley_ok {s0 : State} {E W : Nat} {s c i} (hE : sub 1610612738 E = true) (hW : sub 6027390781975829369699446925215686436486783616938949639929856 W = true) (h : Ok E W s0 s) :
    Ok E W s0 (State.askValley s c i) := by
  unfold State.askValley
  repeat' first
    | exact sub_trans rfl hE | exact sub_trans rfl hW | exact sub_bit hW rfl | with_reducible first | assumption | apply State.adcAskCoil_ok
    | intro _
    | dsimp only
    | with_reducible apply ok_ite
    | split

theorem State.coilChop_ok {s0 : State} {E W : Nat} {s c i} (hE : sub 1610612738 E = true) (hW : sub 6027390781975829369699446925215686436486783616938949639929856 W = true) (h : Ok E W s0 s) :
    Ok E W s0 (State.coilChop s c i) := by
  unfold State.coilChop
  repeat' first
    | exact sub_trans rfl hE | exact sub_trans rfl hW | exact sub_bit hW rfl | with_reducible first | assumption | apply State.when_ok | apply State.coilDecay_ok | apply State.askPeak_ok | apply State.coilDrive_ok | apply State.askValley_ok
    | intro _
    | dsimp only
    | with_reducible apply ok_ite
    | split

theorem execChopperCrossing_ok {s0 : State} {E W : Nat} {c coil seen s} (hE : sub 1610612738 E = true) (hW : sub 6027390781975829369699446925215686436486783616938949639929856 W = true) (h : Ok E W s0 s) :
    OkOut E W s0 (execChopperCrossing c coil seen s) := by
  unfold execChopperCrossing
  repeat' first
    | exact sub_trans rfl hE | exact sub_trans rfl hW | exact sub_bit hW rfl | with_reducible first | assumption | apply okOut_next | apply okOut_fault | apply State.coilChop_ok | apply State.setCoil_ok
    | intro _
    | dsimp only
    | with_reducible apply ok_ite
    | split

theorem execAdcReferenceCheck_ok {s0 : State} {E W : Nat} {cl s} (hE : sub 1610612738 E = true) (hW : sub 6027390781975829369699446925215686436486783616938949639929856 W = true) (h : Ok E W s0 s) :
    OkOut E W s0 (execAdcReferenceCheck cl s) := by
  unfold execAdcReferenceCheck
  repeat' first
    | exact sub_trans rfl hE | exact sub_trans rfl hW | exact sub_bit hW rfl | with_reducible first | assumption | apply okOut_next | apply okOut_fault | apply State.adcAsk_ok | apply State.setAdc_ok
    | intro _
    | dsimp only
    | with_reducible apply ok_ite
    | split

theorem State.readPhase_ok {s0 : State} {E W : Nat} {s c above} (hE : sub 1613234690 E = true) (hW : sub 1224720827664335609236962600350409901130618081282969285596185377482296763539809854588068960942638817343727948465995170254601618571423883039263834227312145539046447638936177423666825170701431561542172800 W = true) (h : Ok E W s0 s) :
    Ok E W s0 (State.readPhase s c above) := by
  unfold State.readPhase
  repeat' first
    | exact sub_trans rfl hE | exact sub_trans rfl hW | exact sub_bit hW rfl | with_reducible first | assumption | apply State.setAux_ok | apply State.on_ok | apply State.countMiss_ok | apply ws_f_AUX_BL_STATUS_WRONG_DIR
    | intro _
    | dsimp only
    | with_reducible apply ok_ite
    | split

theorem State.readDue_ok {s0 : State} {E W : Nat} {s c} (hE : sub 1613234690 E = true) (hW : sub 1224720827664335609236962600350409901130618081282969285596185377482296763539809854588068960942638817343727948465995170254601618571423883039263834227312145539046447638936177423666825170701431561542172800 W = true) (h : Ok E W s0 s) :
    Ok E W s0 (State.readDue s c) := by
  unfold State.readDue
  repeat' first
    | exact sub_trans rfl hE | exact sub_trans rfl hW | exact sub_bit hW rfl | with_reducible first | assumption | apply State.readPhase_ok | apply State.setAux_ok
    | intro _
    | dsimp only
    | with_reducible apply ok_ite
    | split

theorem State.readsDue_ok {s0 : State} {E W : Nat} {s} (hE : sub 1613234690 E = true) (hW : sub 1224720827664335609236962600350409901130618081282969285596185377482296763539809854588068960942638817343727948465995170254601618571423883039263834227312145539046447638936177423666825170701431561542172800 W = true) (h : Ok E W s0 s) :
    Ok E W s0 (State.readsDue s) := by
  unfold State.readsDue
  repeat' first
    | exact sub_trans rfl hE | exact sub_trans rfl hW | exact sub_bit hW rfl | with_reducible first | assumption | apply State.each_ok | apply State.readDue_ok
    | intro _
    | dsimp only
    | with_reducible apply ok_ite
    | split

theorem execMicrostep_ok {s0 : State} {E W : Nat} {c s} (hE : sub 536903682 E = true) (hW : sub 327815361028834016210560266837597170914529410731689738401480800 W = true) (h : Ok E W s0 s) :
    OkOut E W s0 (execMicrostep c s) := by
  unfold execMicrostep
  repeat' first
    | exact sub_trans rfl hE | exact sub_trans rfl hW | exact sub_bit hW rfl | with_reducible first | assumption | apply okOut_next | apply okOut_fault | apply State.setAux_ok | apply State.off_ok | apply State.p_ok | apply State.coilRefresh_ok | apply State.stepPos_ok | apply ws_f_AUX_STP_STATUS_FACTOR | apply ws_f_AUX_STP_STATUS_REDUCED | apply ws_f_AUX_STP_STATUS_REDUCING
    | intro _
    | dsimp only
    | with_reducible apply ok_ite
    | split

theorem execBldcAlignEnd_ok {s0 : State} {E W : Nat} {c s} (hE : sub 536870914 E = true) (hW : sub 56726280254863917272670689176860663374887390319577399296 W = true) (h : Ok E W s0 s) :
    OkOut E W s0 (execBldcAlignEnd c s) := by
  unfold execBldcAlignEnd
  repeat' first
    | exact sub_trans rfl hE | exact sub_trans rfl hW | exact sub_bit hW rfl | with_reducible first | assumption | apply okOut_next | apply okOut_fault | apply State.setAux_ok | apply State.p_ok | apply State.setDuty_ok | apply State.newSector_ok | apply ws_f_AUX_BL_STATUS_PHASE | apply ws_f_AUX_BL_STATUS_ZC_RUN
    | intro _
    | dsimp only
    | with_reducible apply ok_ite
    | split

theorem execBldcCoastEnd_ok {s0 : State} {E W : Nat} {c s} (hE : sub 1611137026 E = true) (hW : sub 6027447795598998145970880538094930887833130432842854626754688 W = true) (h : Ok E W s0 s) :
    OkOut E W s0 (execBldcCoastEnd c s) := by
  unfold execBldcCoastEnd
  repeat' first
    | exact sub_trans rfl hE | exact sub_trans rfl hW | exact sub_bit hW rfl | with_reducible first | assumption | apply okOut_next | apply okOut_fault | apply State.bldcCheck_ok | apply State.p_ok | apply ws_f_AUX_BL_STATUS_PHASE
    | intro _
    | dsimp only
    | with_reducible apply ok_ite
    | split

theorem State.stepGen_ok {s0 : State} {E W : Nat} {s c t} (hE : sub 536870914 E = true) (hW : sub 411376139330301510538742295639337626245683966408394965837152384 W = true) (h : Ok E W s0 s) :
    Ok E W s0 (State.stepGen s c t) := by
  unfold State.stepGen
  repeat' first
    | exact sub_trans rfl hE | exact sub_trans rfl hW | exact sub_bit hW rfl | with_reducible first | assumption | apply State.wr_ok | apply State.when_ok | apply State.on_ok | apply State.setAux_ok | apply ws_f_AUX_STP_STATUS_STEP_SAT | apply ws_r_AUX_VEL | apply wrF_of_wr
    | intro _
    | dsimp only
    | with_reducible apply ok_ite
    | split

theorem execAuxOff_ok {s0 : State} {E W : Nat} {c s} (hE : sub 1611137282 E = true) (hW : sub 6385242594516038949509520535217767873550964693177304593989760 W = true) (h : Ok E W s0 s) :
    OkOut E W s0 (execAuxOff c s) := by
  unfold execAuxOff
  repeat' first
    | exact sub_trans rfl hE | exact sub_trans rfl hW | exact sub_bit hW rfl | with_reducible first | assumption | apply okOut_next | apply okOut_fault | apply State.act_ok | apply State.refreshAux_ok | apply State.off_ok | apply State.on_ok | apply ws_f_AUX_CTL_OUT_EN | apply ws_f_AUX_STATUS_LAUNCH_OFF
    | intro _
    | dsimp only
    | with_reducible apply ok_ite
    | split

theorem execBldcRetryRefill_ok {s0 : State} {E W : Nat} {c s} (hE : sub 2 E = true) (hW : sub 3064991081731777716716694054300618367237478244367204352 W = true) (h : Ok E W s0 s) :
    OkOut E W s0 (execBldcRetryRefill c s) := by
  unfold execBldcRetryRefill
  repeat' first
    | exact sub_trans rfl hE | exact sub_trans rfl hW | exact sub_bit hW rfl | with_reducible first | assumption | apply okOut_next | apply okOut_fault | apply State.p_ok | apply ws_f_AUX_BL_STATUS_RESTARTS
    | intro _
    | dsimp only
    | with_reducible apply ok_ite
    | split

theorem execDecayMinEnd_ok {s0 : State} {E W : Nat} {c coil s} (hE : sub 1610612738 E = true) (hW : sub 6027390781975829369699446925215686436486783616938949639929856 W = true) (h : Ok E W s0 s) :
    OkOut E W s0 (execDecayMinEnd c coil s) := by
  unfold execDecayMinEnd
  repeat' first
    | exact sub_trans rfl hE | exact sub_trans rfl hW | exact sub_bit hW rfl | with_reducible first | assumption | apply okOut_next | apply okOut_fault | apply State.coilChop_ok | apply State.setCoil_ok
    | intro _
    | dsimp only
    | with_reducible apply ok_ite
    | split

theorem State.rampStep_ok {s0 : State} {E W : Nat} {s c} (hE : sub 536870930 E = true) (hW : sub 23945242826029513411849172299223580994042798784118784 W = true) (h : Ok E W s0 s) :
    Ok E W s0 (State.rampStep s c) := by
  unfold State.rampStep
  repeat' first
    | exact sub_trans rfl hE | exact sub_trans rfl hW | exact sub_bit hW rfl | with_reducible first | assumption | apply State.setAux_ok | apply State.took_ok | apply State.setDuty_ok
    | intro _
    | dsimp only
    | with_reducible apply ok_ite
    | split

theorem State.interval_ok {s0 : State} {E W : Nat} {s c} (hE : sub 536870914 E = true) (hW : sub 136 W = true) (h : Ok E W s0 s) :
    Ok E W s0 (State.interval s c) := by
  unfold State.interval
  repeat' first
    | exact sub_trans rfl hE | exact sub_trans rfl hW | exact sub_bit hW rfl | with_reducible first | assumption | apply State.setAux_ok | apply State.wr_ok | apply ws_r_AUX_BL_T60 | apply ws_r_AUX_VEL | apply wrF_of_wr
    | intro _
    | dsimp only
    | with_reducible apply ok_ite
    | split

theorem State.rampSector_ok {s0 : State} {E W : Nat} {s c} (hE : sub 1613267474 E = true) (hW : sub 1224720827664335609236962600350409901130618081282969285596185377482296763539809854588068960942638817343727948465995170254601618571423883039263834202025969114759281476023451475686723640992236045512737000 W = true) (h : Ok E W s0 s) :
    Ok E W s0 (State.rampSector s c) := by
  unfold State.rampSector
  repeat' first
    | exact sub_trans rfl hE | exact sub_trans rfl hW | exact sub_bit hW rfl | with_reducible first | assumption | apply State.interval_ok | apply State.setAux_ok | apply State.p_ok | apply State.commutate_ok | apply State.took_ok | apply State.useRestart_ok | apply ws_f_AUX_BL_STATUS_PHASE | apply ws_f_AUX_BL_STATUS_ZC_RUN
    | intro _
    | dsimp only
    | with_reducible apply ok_ite
    | split

theorem State.bldcStarve_ok {s0 : State} {E W : Nat} {s c} (hE : sub 1613234690 E = true) (hW : sub 1224720827664335609236962600350409901130618081282969285596185377482296763539809854588068960942638817343727948465995170254601618571423883039263834186748904191752451919263679548782078966792930421244952704 W = true) (h : Ok E W s0 s) :
    Ok E W s0 (State.bldcStarve s c) := by
  unfold State.bldcStarve
  repeat' first
    | exact sub_trans rfl hE | exact sub_trans rfl hW | exact sub_bit hW rfl | with_reducible first | assumption | apply State.setAux_ok | apply State.auxFault_ok | apply State.on_ok | apply ws_f_AUX_BL_STATUS_ADC_STARVED
    | intro _
    | dsimp only
    | with_reducible apply ok_ite
    | split

theorem State.limitDuty_ok {s0 : State} {E W : Nat} {s c} (hE : sub 536870914 E = true) (hW : sub 23945242826029513411849172299223580994042798784118784 W = true) (h : Ok E W s0 s) :
    Ok E W s0 (State.limitDuty s c) := by
  unfold State.limitDuty
  repeat' first
    | exact sub_trans rfl hE | exact sub_trans rfl hW | exact sub_bit hW rfl | with_reducible first | assumption | apply State.setDuty_ok | apply State.setAux_ok
    | intro _
    | dsimp only
    | with_reducible apply ok_ite
    | split

theorem State.speedLoop_ok {s0 : State} {E W : Nat} {s c} (hE : sub 536870914 E = true) (hW : sub 23945242826029513411849172299223580994042798784118784 W = true) (h : Ok E W s0 s) :
    Ok E W s0 (State.speedLoop s c) := by
  unfold State.speedLoop
  repeat' first
    | exact sub_trans rfl hE | exact sub_trans rfl hW | exact sub_bit hW rfl | with_reducible first | assumption | apply State.setDuty_ok | apply State.setAux_ok
    | intro _
    | dsimp only
    | with_reducible apply ok_ite
    | split

theorem execBldcPwmPeriod_ok {s0 : State} {E W : Nat} {c above s} (hE : sub 1613234706 E = true) (hW : sub 1224720827664335609236962600350409901130618081282969285596185377482296763539809854588068960942638817343727948465995170254601618571423883039263834227360036024698506665759875768265272332689517159110410368 W = true) (h : Ok E W s0 s) :
    OkOut E W s0 (execBldcPwmPeriod c above s) := by
  unfold execBldcPwmPeriod
  repeat' first
    | exact sub_trans rfl hE | exact sub_trans rfl hW | exact sub_bit hW rfl | with_reducible first | assumption | apply okOut_next | apply okOut_fault | apply State.bldcStarve_ok | apply State.bldcCoast_ok | apply State.holdPlan_ok | apply State.rampStep_ok | apply State.limitDuty_ok | apply State.speedLoop_ok | apply State.bldcPeriod_ok | apply State.readDue_ok | apply State.setAux_ok
    | intro _
    | dsimp only
    | with_reducible apply ok_ite
    | split

theorem execAdcRequestDiscard_ok {s0 : State} {E W : Nat} {cl ch use s} (hE : sub 1610612738 E = true) (hW : sub 6026213825400444367056227714698834999033764425293112633458688 W = true) (h : Ok E W s0 s) :
    OkOut E W s0 (execAdcRequestDiscard cl ch use s) := by
  unfold execAdcRequestDiscard
  repeat' first
    | exact sub_trans rfl hE | exact sub_trans rfl hW | exact sub_bit hW rfl | with_reducible first | assumption | apply okOut_next | apply okOut_fault | apply State.adcDrop_ok
    | intro _
    | dsimp only
    | with_reducible apply ok_ite
    | split

theorem execMissedSector_ok {s0 : State} {E W : Nat} {c s} (hE : sub 1613267458 E = true) (hW : sub 1224720827664335609236962600350409901130618081282969285596185377482296763539809854588068960942638817343727948465995170254601618571423883039263834202792216885192225905202624989261878232801605606604538080 W = true) (h : Ok E W s0 s) :
    OkOut E W s0 (execMissedSector c s) := by
  unfold execMissedSector
  repeat' first
    | exact sub_trans rfl hE | exact sub_trans rfl hW | exact sub_bit hW rfl | with_reducible first | assumption | apply okOut_next | apply okOut_fault | apply State.countMiss_ok | apply State.commutate_ok
    | intro _
    | dsimp only
    | with_reducible apply ok_ite
    | split

theorem execStandstillReduction_ok {s0 : State} {E W : Nat} {c s} (hE : sub 536870914 E = true) (hW : sub 314959856674762094006224570098867870094351786781427395719069696 W = true) (h : Ok E W s0 s) :
    OkOut E W s0 (execStandstillReduction c s) := by
  unfold execStandstillReduction
  repeat' first
    | exact sub_trans rfl hE | exact sub_trans rfl hW | exact sub_bit hW rfl | with_reducible first | assumption | apply okOut_next | apply okOut_fault | apply State.p_ok | apply State.setAux_ok | apply State.pb_ok | apply State.coilRefresh_ok | apply ws_f_AUX_STP_STATUS_FACTOR | apply ws_f_AUX_STP_STATUS_REDUCED | apply ws_f_AUX_STP_STATUS_REDUCING
    | intro _
    | dsimp only
    | with_reducible apply ok_ite
    | split

theorem State.adcCurrent_ok {s0 : State} {E W : Nat} {s c code} (hE : sub 1613234690 E = true) (hW : sub 1224720827664335609236962600350409901130618081282969285596185377482296763539809854588068960942638817343727948465995170254601618571423883039263834187084137591316865107029567960971209100709529604222615680 W = true) (h : Ok E W s0 s) :
    Ok E W s0 (State.adcCurrent s c code) := by
  unfold State.adcCurrent
  repeat' first
    | exact sub_trans rfl hE | exact sub_trans rfl hW | exact sub_bit hW rfl | with_reducible first | assumption | apply State.pb_ok | apply State.setAux_ok | apply State.on_ok | apply State.auxFault_ok | apply State.raiseSt_ok | apply ws_f_AUX_BL_STATUS_I_LIMITED | apply ws_f_AUX_BL_STATUS_I_TRIP
    | intro _
    | dsimp only
    | with_reducible apply ok_ite
    | split

theorem State.auxEvaluate_ok {s0 : State} {E W : Nat} {s c t} (hE : sub 1899516418 E = true) (hW : sub 1255338848355943999476252088746034230463903515027272305176538577658830396765789411414622620067613107222892060323970520860915834136653601912524703734175711078245168319207551287768065197778948700548506845312 W = true) (h : Ok E W s0 s) :
    Ok E W s0 (State.auxEvaluate s c t) := by
  unfold State.auxEvaluate
  repeat' first
    | exact sub_trans rfl hE | exact sub_trans rfl hW | exact sub_bit hW rfl | with_reducible first | assumption | apply State.evalChan_ok | apply State.stepGen_ok | apply State.bldcCheck_ok
    | intro _
    | dsimp only
    | with_reducible apply ok_ite
    | split

theorem wrAuxCfg_ok {s0 : State} {E W : Nat} {c v s} (hE : sub 1611169794 E = true) (hW : sub 19196905316154869805385301682194352648603623754632218785349872 W = true) (h : Ok E W s0 s) :
    Ok E W s0 (wrAuxCfg c v s) := by
  unfold wrAuxCfg
  repeat' first
    | exact sub_trans rfl hE | exact sub_trans rfl hW | exact sub_bit hW rfl | with_reducible first | assumption | apply State.on_ok | apply State.p_ok | apply State.auxFollow_ok | apply State.merge_ok | apply ws_f_AUX_CFG_ADC_SEL | apply ws_f_AUX_STATUS_CFG_REFUSED | apply ws_r_AUX_CFG | apply wrF_of_wr
    | intro _
    | dsimp only
    | with_reducible apply ok_ite
    | split

theorem wrAuxReg_ok {s0 : State} {E W : Nat} {c off v s} (hE : sub 1611169794 E = true) (hW : sub 612360413832167804618481300175204950565278972827733245154176943827040045789568780701801476101110276210469073715640490142747228062965884323149537077602752049281932318342928967726760409547806593316290800 W = true) (h : Ok E W s0 s) :
    Ok E W s0 (wrAuxReg c off v s) := by
  unfold wrAuxReg
  repeat' first
    | exact sub_trans rfl hE | exact sub_trans rfl hW | exact sub_bit hW rfl | with_reducible first | assumption | apply wrAuxCfg_ok | apply wrAuxMode_ok
    | intro _
    | dsimp only
    | with_reducible apply ok_ite
    | split

theorem execChopperBlankEnd_ok {s0 : State} {E W : Nat} {c coil s} (hE : sub 1610612738 E = true) (hW : sub 6027390781975829369699446925215686436486783616938949639929856 W = true) (h : Ok E W s0 s) :
    OkOut E W s0 (execChopperBlankEnd c coil s) := by
  unfold execChopperBlankEnd
  repeat' first
    | exact sub_trans rfl hE | exact sub_trans rfl hW | exact sub_bit hW rfl | with_reducible first | assumption | apply okOut_next | apply okOut_fault | apply State.coilChop_ok | apply State.setCoil_ok
    | intro _
    | dsimp only
    | with_reducible apply ok_ite
    | split

theorem wrAuxCtl_ok {s0 : State} {E W : Nat} {c v s} (hE : sub 1611137026 E = true) (hW : sub 899782758908639276562107701537196371773939423660383326620151114522367516134297574063808137220778171436394533128161764697206520891693445831764695862549374344102016 W = true) (h : Ok E W s0 s) :
    Ok E W s0 (wrAuxCtl c v s) := by
  unfold wrAuxCtl
  repeat' first
    | exact sub_trans rfl hE | exact sub_trans rfl hW | exact sub_bit hW rfl | with_reducible first | assumption | apply State.writeAuxOut_ok | apply State.when_ok | apply State.auxClear_ok
    | intro _
    | dsimp only
    | with_reducible apply ok_ite
    | split

theorem execAuxOutEn_ok {s0 : State} {E W : Nat} {rq c s} (hE : sub 1611137538 E = true) (hW : sub 899782758908639276562107701537196371774016891156725933877840792097527606490527465237593013926163091217090752556822269933045410252291849966707800627824667333230720 W = true) (h : Ok E W s0 s) :
    OkOut E W s0 (execAuxOutEn rq c s) := by
  unfold execAuxOutEn
  repeat' first
    | exact sub_trans rfl hE | exact sub_trans rfl hW | exact sub_bit hW rfl | with_reducible first | assumption | apply okOut_next | apply okOut_fault | apply State.write_ok | apply wrAuxCtl_ok
    | intro _
    | dsimp only
    | with_reducible apply ok_ite
    | split

theorem State.adcReference_ok {s0 : State} {E W : Nat} {s cl code} (hE : sub 1614303746 E = true) (hW : sub 1224720827664335617602385987214491705952321107045573475637076125056164809698987380139168186799908171915521715740070333479521352407942198759457782851855563812105051743932657812332801315036035327673237632 W = true) (h : Ok E W s0 s) :
    Ok E W s0 (State.adcReference s cl code) := by
  unfold State.adcReference
  repeat' first
    | exact sub_trans rfl hE | exact sub_trans rfl hW | exact sub_bit hW rfl | with_reducible first | assumption | apply State.p_ok | apply State.auxClusterFault_ok | apply State.on_ok | apply ws_f_AUX_CL_ADC_STATUS_FAULT | apply ws_f_AUX_CL_ADC_STATUS_REF
    | intro _
    | dsimp only
    | with_reducible apply ok_ite
    | split

theorem execAuxCfgWrite_ok {s0 : State} {E W : Nat} {rq c off v s} (hE : sub 1611170306 E = true) (hW : sub 612360413832167804618481300175204950565278972827733245154176943827040045789568858169297818708367965888044233805996720033921012939671269242930233297031412554517771207703527371861703514313081886305419504 W = true) (h : Ok E W s0 s) :
    OkOut E W s0 (execAuxCfgWrite rq c off v s) := by
  unfold execAuxCfgWrite
  repeat' first
    | exact sub_trans rfl hE | exact sub_trans rfl hW | exact sub_bit hW rfl | with_reducible first | assumption | apply okOut_next | apply okOut_fault | apply State.write_ok | apply wrAuxReg_ok
    | intro _
    | dsimp only
    | with_reducible apply ok_ite
    | split

theorem execBldcCommutation_ok {s0 : State} {E W : Nat} {c s} (hE : sub 1613267474 E = true) (hW : sub 1224720827664335609236962600350409901130618081282969285596185377482296763539809854588068960942638817343727948465995170254601618571423883039263834202025969114759281476023451475686723640992236045512737000 W = true) (h : Ok E W s0 s) :
    OkOut E W s0 (execBldcCommutation c s) := by
  unfold execBldcCommutation
  repeat' first
    | exact sub_trans rfl hE | exact sub_trans rfl hW | exact sub_bit hW rfl | with_reducible first | assumption | apply okOut_next | apply okOut_fault | apply State.rampSector_ok | apply State.p_ok | apply State.commutate_ok | apply State.interval_ok | apply ws_f_AUX_BL_STATUS_ZC_RUN
    | intro _
    | dsimp only
    | with_reducible apply ok_ite
    | split

theorem State.auxClusterEscalate_ok {s0 : State} {E W : Nat} {s cl} (hE : sub 1614303746 E = true) (hW : sub 1224720827664335617602385987214491705952321107045573475637076125056164809698987380139168186799908171915521715740070333479521352407942198759457778144029262272094478867090590406582989238269451979647352960 W = true) (h : Ok E W s0 s) :
    Ok E W s0 (State.auxClusterEscalate s cl) := by
  unfold State.auxClusterEscalate
  repeat' first
    | exact sub_trans rfl hE | exact sub_trans rfl hW | exact sub_bit hW rfl | with_reducible first | assumption | apply State.p_ok | apply State.each_ok | apply State.levelStop_ok | apply State.configuredStop_ok | apply ws_f_GLB_REGION_STATE_CLUSTER_FAULT_SEEN
    | intro _
    | dsimp only
    | with_reducible apply ok_ite
    | split

theorem execAuxFaultClr_ok {s0 : State} {E W : Nat} {rq c s} (hE : sub 1611137538 E = true) (hW : sub 77467496342607257689677575160090356229891173784876705384919787100293328382704227639917264085795007742376524785989686657152 W = true) (h : Ok E W s0 s) :
    OkOut E W s0 (execAuxFaultClr rq c s) := by
  unfold execAuxFaultClr
  repeat' first
    | exact sub_trans rfl hE | exact sub_trans rfl hW | exact sub_bit hW rfl | with_reducible first | assumption | apply okOut_next | apply okOut_fault | apply State.write_ok | apply State.auxClear_ok
    | intro _
    | dsimp only
    | with_reducible apply ok_ite
    | split

theorem execOpenCoil_ok {s0 : State} {E W : Nat} {c coil s} (hE : sub 536871426 E = true) (hW : sub 77133026124431533226014180432375804921065743701574056094466048 W = true) (h : Ok E W s0 s) :
    OkOut E W s0 (execOpenCoil c coil s) := by
  unfold execOpenCoil
  repeat' first
    | exact sub_trans rfl hE | exact sub_trans rfl hW | exact sub_bit hW rfl | with_reducible first | assumption | apply okOut_next | apply okOut_fault | apply State.setCoil_ok | apply State.on_ok | apply State.raiseSt_ok | apply ws_f_AUX_STP_STATUS_OPEN_A | apply ws_f_AUX_STP_STATUS_OPEN_B
    | intro _
    | dsimp only
    | with_reducible apply ok_ite
    | split

theorem execAuxEvalInterval_ok {s0 : State} {E W : Nat} {c s} (hE : sub 1899516418 E = true) (hW : sub 1255338848355943999476252088746034230463903515027272305176538577658830396765789411414622620067613107222892060323970520860915834136653601912524703734175711078245168319207551287768065197778948700548506845312 W = true) (h : Ok E W s0 s) :
    OkOut E W s0 (execAuxEvalInterval c s) := by
  unfold execAuxEvalInterval
  repeat' first
    | exact sub_trans rfl hE | exact sub_trans rfl hW | exact sub_bit hW rfl | with_reducible first | assumption | apply okOut_next | apply okOut_fault | apply State.auxEvaluate_ok | apply State.setAux_ok
    | intro _
    | dsimp only
    | with_reducible apply ok_ite
    | split

theorem execAdcConversionDone_ok {s0 : State} {E W : Nat} {cl code s} (hE : sub 1614303746 E = true) (hW : sub 1224720827664335617602385987214491705952321107045573475637076125056164809698987380139168186799908171915521715740070333479521352407942198759457807960657601865457594058385861985935654810859519363749249156 W = true) (h : Ok E W s0 s) :
    OkOut E W s0 (execAdcConversionDone cl code s) := by
  unfold execAdcConversionDone
  repeat' first
    | exact sub_trans rfl hE | exact sub_trans rfl hW | exact sub_bit hW rfl | with_reducible first | assumption | apply okOut_next | apply okOut_fault | apply State.off_ok | apply State.setAdc_ok | apply State.wr_ok | apply State.p_ok | apply State.adcReference_ok | apply State.adcCurrent_ok | apply State.setCoil_ok | apply State.cycleEnd_ok | apply State.adcStart_ok | apply ws_f_AUX_ADC_RES_RESULT | apply ws_f_AUX_CL_ADC_STATUS_BUSY | apply ws_r_AUX_ADC_STAMP | apply wrF_of_wr
    | intro _
    | dsimp only
    | with_reducible apply ok_ite
    | split

theorem execAuxSample_ok {s0 : State} {E W : Nat} {c s} (hE : sub 1899516674 E = true) (hW : sub 1255338848355943999476252088746034230463903515027272305176538577658830396765789411414622620067613107222892060323970520860915834136653601912524703734175711078245168319207551287768065197778948700548506845312 W = true) (h : Ok E W s0 s) :
    OkOut E W s0 (execAuxSample c s) := by
  unfold execAuxSample
  repeat' first
    | exact sub_trans rfl hE | exact sub_trans rfl hW | exact sub_bit hW rfl | with_reducible first | assumption | apply okOut_next | apply okOut_fault | apply State.act_ok | apply State.adcAsk_ok | apply State.auxEvaluate_ok
    | intro _
    | dsimp only
    | with_reducible apply ok_ite
    | split

end Sys2Proof.Machine
end

