-- ==== Sys2Proof/Laws/KeepSamples.lean ====
section
/-! SUPPORT. What the definitions of Machine/Samples.lean keep: the queue, and the canonical forms of the register window and of
the memories; one lemma for each. -/

namespace Sys2Proof.Machine

theorem State.placeSample_ok {s0 : State} {E W : Nat} {s n t cur pos} (hE : sub 2097154 E = true) (hW : sub 2993155353253689176481146537402947624255349848014848 W = true) (h : Ok E W s0 s) :
    Ok E W s0 (State.placeSample s n t cur pos) := by
  unfold State.placeSample
  repeat' first
    | exact sub_trans rfl hE | exact sub_trans rfl hW | exact sub_bit hW rfl | with_reducible first | assumption | apply State.when_ok | apply State.setAe_ok | apply State.on_ok | apply ws_f_AE_STATUS_SAMPLE_MISPLACED
    | intro _
    | dsimp only
    | with_reducible apply ok_ite
    | split

theorem State.sampleAxis_ok {s0 : State} {E W : Nat} {s n t cur pos} (hE : sub 4047163906 E = true) (hW : sub 1255338848355943999476252088746034230463903515027272305176538577658830396765789411414622620067613107222892060323970520860915834144455998767950207561378258877673520135591029626090567142558543174738584273024 W = true) (h : Ok E W s0 s) :
    Ok E W s0 (State.sampleAxis s n t cur pos) := by
  unfold State.sampleAxis
  repeat' first
    | exact sub_trans rfl hE | exact sub_trans rfl hW | exact sub_bit hW rfl | with_reducible first | assumption | apply State.capSample_ok | apply State.placeSample_ok | apply State.when_ok | apply State.openCurrent_ok | apply State.evalChan_ok | apply State.sampleFeedback_ok
    | intro _
    | dsimp only
    | with_reducible apply ok_ite
    | split

theorem State.soloSamples_ok {s0 : State} {E W : Nat} {s} (hE : sub 4047163906 E = true) (hW : sub 1255338848355943999476252088746034230463903515027272305176538577658830396765789411414622620067613107222892060323970520860915834144455998767950207561378258877673520135591029626090567142558543174738584273024 W = true) (h : Ok E W s0 s) :
    Ok E W s0 (State.soloSamples s) := by
  unfold State.soloSamples
  repeat' first
    | exact sub_trans rfl hE | exact sub_trans rfl hW | exact sub_bit hW rfl | with_reducible first | assumption | apply State.each_ok | apply State.sampleAxis_ok
    | intro _
    | dsimp only
    | with_reducible apply ok_ite
    | split

theorem execAxisSample_ok {s0 : State} {E W : Nat} {n s} (hE : sub 4047164162 E = true) (hW : sub 1255338848355943999476252088746034230463903515027272305176538577658830396765789411414622620067613107222892060323970520860915834144455998767950207561378258877673520135591029626090567142558543174738584273024 W = true) (h : Ok E W s0 s) :
    OkOut E W s0 (execAxisSample n s) := by
  unfold execAxisSample
  repeat' first
    | exact sub_trans rfl hE | exact sub_trans rfl hW | exact sub_bit hW rfl | with_reducible first | assumption | apply okOut_next | apply okOut_fault | apply State.act_ok | apply State.sampleAxis_ok
    | intro _
    | dsimp only
    | with_reducible apply ok_ite
    | split

theorem State.loadCount_ok {s0 : State} {E W : Nat} {s c p} (hE : sub 536903682 E = true) (hW : sub 12855504354071922204335696738729300820177623950262342682411104 W = true) (h : Ok E W s0 s) :
    Ok E W s0 (State.loadCount s c p) := by
  unfold State.loadCount
  repeat' first
    | exact sub_trans rfl hE | exact sub_trans rfl hW | exact sub_bit hW rfl | with_reducible first | assumption | apply State.wr64_ok | apply State.setAux_ok | apply State.stepPos_ok | apply ws_r_AUX_POS_HI | apply ws_r_AUX_POS_LO | apply wrF_of_wr
    | intro _
    | dsimp only
    | with_reducible apply ok_ite
    | split

theorem execHomeLoad_ok {s0 : State} {E W : Nat} {k s} (hE : sub 539656194 E = true) (hW : sub 1224720827664335609236962600350409901130614456669804685487527618661458129608102123394993731892350687644134162822766709790115529038660540804948493281745938452323709834092896095263975263059109752187486304 W = true) (h : Ok E W s0 s) :
    OkOut E W s0 (execHomeLoad k s) := by
  unfold execHomeLoad
  repeat' first
    | exact sub_trans rfl hE | exact sub_trans rfl hW | exact sub_bit hW rfl | with_reducible first | assumption | apply okOut_next | apply okOut_fault | apply State.setChan_ok | apply State.writeBlock_ok | apply wrFbCmd_ok | apply State.wr64_ok | apply State.homeDone_ok | apply State.loadCount_ok | apply ws_r_AX_FB_LOAD_HI | apply ws_r_AX_FB_LOAD_LO | apply wrF_of_wr
    | intro _
    | dsimp only
    | with_reducible apply ok_ite
    | split

theorem execProbeEdge_ok {s0 : State} {E W : Nat} {k falling ns s} (hE : sub 269222402 E = true) (hW : sub 392806872947537027115871124660718880161128140606934707714874420488239436932250909151192252627578868779351107104518023662097627170025549012290752871399424 W = true) (h : Ok E W s0 s) :
    OkOut E W s0 (execProbeEdge k falling ns s) := by
  unfold execProbeEdge
  repeat' first
    | exact sub_trans rfl hE | exact sub_trans rfl hW | exact sub_bit hW rfl | with_reducible first | assumption | apply okOut_next | apply okOut_fault | apply State.pb_ok | apply State.off_ok | apply State.setChan_ok | apply State.prbPush_ok | apply State.setPrb_ok | apply State.when_ok | apply State.regEdge_ok | apply ws_f_GLB_PRB_CFG_ARM | apply ws_f_GLB_PRB_STATUS_INPUT
    | intro _
    | dsimp only
    | with_reducible apply ok_ite
    | split

end Sys2Proof.Machine
end

