-- ==== Sys2Proof/Laws/KeepCapture.lean ====
section
/-! SUPPORT. What the definitions of Machine/Capture.lean keep: the queue, and the canonical forms of the register window and of
the memories; one lemma for each. -/

namespace Sys2Proof.Machine

theorem State.rowValues_ok {s0 : State} {E W : Nat} {s stamp x2} (hE : sub 16 E = true) (hW : sub 0 W = true) (h : Ok E W s0 s) :
    Ok E W s0 (State.rowValues s stamp x2).1 := by
  induction x2 generalizing s stamp with
  | nil =>
    unfold State.rowValues
    repeat' first
      | exact sub_trans rfl hE | exact sub_trans rfl hW | exact sub_bit hW rfl | with_reducible first | assumption | apply State.took_ok | apply ih
      | intro _
      | dsimp only
      | with_reducible apply ok_ite
      | split
  | cons x l ih =>
    unfold State.rowValues
    repeat' first
      | exact sub_trans rfl hE | exact sub_trans rfl hW | exact sub_bit hW rfl | with_reducible first | assumption | apply State.took_ok | apply ih
      | intro _
      | dsimp only
      | with_reducible apply ok_ite
      | split

theorem State.rowValues_ok' {s0 t0 : State} {E W : Nat} {s stamp x2 y0} (hE : sub 16 E = true) (hW : sub 0 W = true) (h : Ok E W s0 s) (e : State.rowValues s stamp x2 = (t0, y0)) :
    Ok E W s0 t0 := by
  have r := State.rowValues_ok (s0 := s0) (E := E) (W := W) (s := s) (stamp := stamp) (x2 := x2) hE hW h
  rw [e] at r
  exact r

theorem State.storeRow_ok {s0 : State} {E W : Nat} {s c stamp trig viol vals} (hE : sub 2281701382 E = true) (hW : sub 2251799813685248 W = true) (h : Ok E W s0 s) :
    Ok E W s0 (State.storeRow s c stamp trig viol vals) := by
  unfold State.storeRow
  repeat' first
    | exact sub_trans rfl hE | exact sub_trans rfl hW | exact sub_bit hW rfl | with_reducible first | assumption | apply State.ipmPut_ok | apply State.setCap_ok | apply State.wr_ok | apply ws_r_CS_ROWS | apply wrF_of_wr
    | intro _
    | dsimp only
    | with_reducible apply ok_ite
    | split

theorem State.violate_ok {s0 : State} {E W : Nat} {s c l} (hE : sub 514 E = true) (hW : sub 559936185544451052639360570142111069530411374308662383724997275240947967795040236345219373317901778944 W = true) (h : Ok E W s0 s) :
    Ok E W s0 (State.violate s c l) := by
  unfold State.violate
  repeat' first
    | exact sub_trans rfl hE | exact sub_trans rfl hW | exact sub_bit hW rfl | with_reducible first | assumption | apply State.each_ok | apply State.on_ok | apply State.when_ok | apply State.raiseSt_ok | apply ws_f_CAP_STATUS_VIOLATED
    | intro _
    | dsimp only
    | with_reducible apply ok_ite
    | split

theorem State.capTrigger_ok {s0 : State} {E W : Nat} {s c hits stamp} (hE : sub 2 E = true) (hW : sub 7214722814281215676076484393336843348098096790246358642812797864546946125152077138320483323038018462913358987264 W = true) (h : Ok E W s0 s) :
    Ok E W s0 (State.capTrigger s c hits stamp) := by
  unfold State.capTrigger
  repeat' first
    | exact sub_trans rfl hE | exact sub_trans rfl hW | exact sub_bit hW rfl | with_reducible first | assumption | apply State.wr_ok | apply State.p_ok | apply ws_f_CS_TRIG_HITS | apply ws_f_CS_TRIG_PRIMARY | apply ws_r_CS_TRIG_STAMP | apply wrF_of_wr
    | intro _
    | dsimp only
    | with_reducible apply ok_ite
    | split

theorem State.capUnload_ok {s0 : State} {E W : Nat} {s c} (hE : sub 4610 E = true) (hW : sub 27701004964987707814776282354200485283934711099335726070375062283757249739609297062339777742609879166603332347884999851534752483444908534322661999727441121339661338858817060864 W = true) (h : Ok E W s0 s) :
    Ok E W s0 (State.capUnload s c) := by
  unfold State.capUnload
  repeat' first
    | exact sub_trans rfl hE | exact sub_trans rfl hW | exact sub_bit hW rfl | with_reducible first | assumption | apply State.when_ok | apply State.refuseHandle_ok | apply State.p_ok | apply ws_f_CS_STATUS_STATE | apply ws_f_CS_STATUS_UNLOAD_ERR
    | intro _
    | dsimp only
    | with_reducible apply ok_ite
    | split

theorem State.capDone_ok {s0 : State} {E W : Nat} {s c} (hE : sub 2281705990 E = true) (hW : sub 27701004964987707814776282354200485283934711099335726070375062283757249739609297062339777742609879166603332347884999851534752483444908534322661999727441121339661338858817060864 W = true) (h : Ok E W s0 s) :
    Ok E W s0 (State.capDone s c) := by
  unfold State.capDone
  repeat' first
    | exact sub_trans rfl hE | exact sub_trans rfl hW | exact sub_bit hW rfl | with_reducible first | assumption | apply State.setCap_ok | apply State.p_ok | apply State.ipmPut_ok | apply State.when_ok | apply State.raiseSt_ok | apply State.capUnload_ok | apply ws_f_CS_STATUS_STATE
    | intro _
    | dsimp only
    | with_reducible apply ok_ite
    | split

theorem State.preRow_ok {s0 : State} {E W : Nat} {s c stamp hits0 vals} (hE : sub 2281705990 E = true) (hW : sub 27701004964987707814776282354200485283934711099335726070375062290971972554450448923960713188586083084843540207661769868656212731716851934715687105842964680722901426889891512320 W = true) (h : Ok E W s0 s) :
    Ok E W s0 (State.preRow s c stamp hits0 vals) := by
  unfold State.preRow
  repeat' first
    | exact sub_trans rfl hE | exact sub_trans rfl hW | exact sub_bit hW rfl | with_reducible first | assumption | apply State.storeRow_ok | apply State.violate_ok | apply State.capTrigger_ok | apply State.setCap_ok | apply State.capDone_ok | apply State.p_ok | apply ws_f_CS_STATUS_STATE
    | intro _
    | dsimp only
    | with_reducible apply ok_ite
    | split

theorem State.postRow_ok {s0 : State} {E W : Nat} {s c stamp hits0 vals} (hE : sub 2281705990 E = true) (hW : sub 27701004964987707814776282354200485283934711099335726070375062283833577374109382827790636914644893190135153100254931621641401823744702602879834741935051575132387946825070411776 W = true) (h : Ok E W s0 s) :
    Ok E W s0 (State.postRow s c stamp hits0 vals) := by
  unfold State.postRow
  repeat' first
    | exact sub_trans rfl hE | exact sub_trans rfl hW | exact sub_bit hW rfl | with_reducible first | assumption | apply State.count_ok | apply State.storeRow_ok | apply State.violate_ok | apply State.setCap_ok | apply State.capDone_ok | apply State.on_ok | apply ws_f_CS_COUNT_EXTRA_TRIG | apply ws_f_CS_STATUS_MASK_STOP
    | intro _
    | dsimp only
    | with_reducible apply ok_ite
    | split

theorem State.rollRow_ok {s0 : State} {E W : Nat} {s c stamp hits0 vals} (hE : sub 2281701894 E = true) (hW : sub 7215897086132538778234880186274598586753895701051224177056813893757709504905582410337255408882432472382590418944 W = true) (h : Ok E W s0 s) :
    Ok E W s0 (State.rollRow s c stamp hits0 vals) := by
  unfold State.rollRow
  repeat' first
    | exact sub_trans rfl hE | exact sub_trans rfl hW | exact sub_bit hW rfl | with_reducible first | assumption | apply State.violate_ok | apply State.storeRow_ok | apply State.count_ok | apply State.setCap_ok | apply State.capTrigger_ok | apply ws_f_CS_COUNT_EXTRA_TRIG
    | intro _
    | dsimp only
    | with_reducible apply ok_ite
    | split

theorem execCaptureRowLatch_ok {s0 : State} {E W : Nat} {c s} (hE : sub 2281706006 E = true) (hW : sub 27701004964987707814776282354200485283934711099335726070375062291088225412297753668741242478127155267698636493832731702256223634807696281458860223794417781142947477689972293632 W = true) (h : Ok E W s0 s) :
    OkOut E W s0 (execCaptureRowLatch c s) := by
  unfold execCaptureRowLatch
  repeat' first
    | exact sub_trans rfl hE | exact sub_trans rfl hW | exact sub_bit hW rfl | with_reducible first | assumption | apply okOut_next | apply okOut_fault | apply State.setCap_ok | apply State.count_ok | apply State.took_ok | apply State.on_ok | apply State.rowValues_ok | refine State.rowValues_ok' ?_ ?_ ?_ (by assumption) | apply State.preRow_ok | apply State.postRow_ok | apply State.rollRow_ok | apply ws_f_CS_COUNT_SKIPPED | apply ws_f_CS_STATUS_GAP
    | intro _
    | dsimp only
    | with_reducible apply ok_ite
    | split

theorem wrCapCfg_ok {s0 : State} {E W : Nat} {c a v s} (hE : sub 2 E = true) (hW : sub allSlots W = true) (h : Ok E W s0 s) :
    Ok E W s0 (wrCapCfg c a v s) := by
  unfold wrCapCfg
  repeat' first
    | exact sub_trans rfl hE | exact sub_trans rfl hW | exact sub_bit hW rfl | with_reducible first | assumption | apply State.on_ok | apply State.merge_ok | apply ws_f_CS_STATUS_CFG_REFUSED | apply wrF_of_wr | exact wr_any (any_bit hW) _ | exact wrF_any (any_bit hW) _
    | intro _
    | dsimp only
    | with_reducible apply ok_ite
    | split

theorem wrCapHandle_ok {s0 : State} {E W : Nat} {k v s} (hE : sub 2 E = true) (hW : sub 34996011596528190789960035633881941845650710894291398982812329702559247987190014771576281201113038848 W = true) (h : Ok E W s0 s) :
    Ok E W s0 (wrCapHandle k v s) := by
  unfold wrCapHandle
  repeat' first
    | exact sub_trans rfl hE | exact sub_trans rfl hW | exact sub_bit hW rfl | with_reducible first | assumption | apply State.on_ok | apply State.wr_ok | apply ws_f_CAP_STATUS_CFG_REFUSED | apply ws_r_CAP_ENV_HANDLE | apply wrF_of_wr
    | intro _
    | dsimp only
    | with_reducible apply ok_ite
    | split

theorem execCaptureTrigger_ok {s0 : State} {E W : Nat} {c s} (hE : sub 2147483904 E = true) (hW : sub 0 W = true) (h : Ok E W s0 s) :
    OkOut E W s0 (execCaptureTrigger c s) := by
  unfold execCaptureTrigger
  repeat' first
    | exact sub_trans rfl hE | exact sub_trans rfl hW | exact sub_bit hW rfl | with_reducible first | assumption | apply okOut_next | apply okOut_fault | apply State.act_ok | apply State.capHit_ok
    | intro _
    | dsimp only
    | with_reducible apply ok_ite
    | split

theorem State.capForce_ok {s0 : State} {E W : Nat} {s c} (hE : sub 2147483648 E = true) (hW : sub 0 W = true) (h : Ok E W s0 s) :
    Ok E W s0 (State.capForce s c) := by
  unfold State.capForce
  repeat' first
    | exact sub_trans rfl hE | exact sub_trans rfl hW | exact sub_bit hW rfl | with_reducible first | assumption | apply State.capHit_ok
    | intro _
    | dsimp only
    | with_reducible apply ok_ite
    | split

theorem State.setEnv_ok {s0 : State} {E W : Nat} {s k x} (hE : sub 4294967296 E = true) (hW : sub 0 W = true) (h : Ok E W s0 s) :
    Ok E W s0 (State.setEnv s k x) := by
  unfold State.setEnv
  repeat' first
    | exact sub_trans rfl hE | exact sub_trans rfl hW | exact sub_bit hW rfl | with_reducible first | assumption
    | intro _
    | dsimp only
    | with_reducible apply ok_ite
    | ((with_reducible apply ok_mk) <;> first | exact Or.inr (sub_bit hE rfl) | exact Or.inr (Or.inr (sub_bit hE rfl)) | with_reducible first | exact Or.inl rfl | exact rfl | exact Or.inr (Or.inl rfl) | assumption | apply ok_ite)
    | split

theorem wrCapBind_ok {s0 : State} {E W : Nat} {k v s} (hE : sub 2 E = true) (hW : sub 34996011596528190789960035633881941845650710894291398982812329702559247987190014771576228424554905600 W = true) (h : Ok E W s0 s) :
    Ok E W s0 (wrCapBind k v s) := by
  unfold wrCapBind
  repeat' first
    | exact sub_trans rfl hE | exact sub_trans rfl hW | exact sub_bit hW rfl | with_reducible first | assumption | apply State.on_ok | apply State.merge_ok | apply ws_f_CAP_STATUS_CFG_REFUSED | apply ws_r_CAP_BIND | apply wrF_of_wr
    | intro _
    | dsimp only
    | with_reducible apply ok_ite
    | split

theorem State.capFault_ok {s0 : State} {E W : Nat} {s k} (hE : sub 514 E = true) (hW : sub 279968092772225526319680285071055534765205687154331191862498637620473983897520118172609686658950889472 W = true) (h : Ok E W s0 s) :
    Ok E W s0 (State.capFault s k) := by
  unfold State.capFault
  repeat' first
    | exact sub_trans rfl hE | exact sub_trans rfl hW | exact sub_bit hW rfl | with_reducible first | assumption | apply State.raiseSt_ok | apply State.on_ok | apply ws_f_CAP_STATUS_FAULT
    | intro _
    | dsimp only
    | with_reducible apply ok_ite
    | split

theorem execCaptureChannelFault_ok {s0 : State} {E W : Nat} {k s} (hE : sub 514 E = true) (hW : sub 279968092772225526319680285071055534765205687154331191862498637620473983897520118172609686658950889472 W = true) (h : Ok E W s0 s) :
    OkOut E W s0 (execCaptureChannelFault k s) := by
  unfold execCaptureChannelFault
  repeat' first
    | exact sub_trans rfl hE | exact sub_trans rfl hW | exact sub_bit hW rfl | with_reducible first | assumption | apply okOut_next | apply okOut_fault | apply State.capFault_ok
    | intro _
    | dsimp only
    | with_reducible apply ok_ite
    | split

theorem State.envFail_ok {s0 : State} {E W : Nat} {s k err} (hE : sub 2 E = true) (hW : sub 209976069579169144739760213803291651073904265365748393896873978215355487923140088629457264994213167104 W = true) (h : Ok E W s0 s) :
    Ok E W s0 (State.envFail s k err) := by
  unfold State.envFail
  repeat' first
    | exact sub_trans rfl hE | exact sub_trans rfl hW | exact sub_bit hW rfl | with_reducible first | assumption | apply State.p_ok | apply ws_f_CAP_STATUS_ENV_ERR | apply ws_f_CAP_STATUS_ENV_STATE
    | intro _
    | dsimp only
    | with_reducible apply ok_ite
    | split

theorem State.envCommit_ok {s0 : State} {E W : Nat} {s k} (hE : sub 4294971906 E = true) (hW : sub 27701004964987707814776282354200485283934711099335726070375062282404489212141545192654606063598981252638230850787711871373101277739230114072003024215490586899491830906635681792 W = true) (h : Ok E W s0 s) :
    Ok E W s0 (State.envCommit s k) := by
  unfold State.envCommit
  repeat' first
    | exact sub_trans rfl hE | exact sub_trans rfl hW | exact sub_bit hW rfl | with_reducible first | assumption | apply State.envFail_ok | apply State.refuseHandle_ok | apply State.p_ok | apply State.setEnv_ok | apply ws_f_CAP_STATUS_ENV_ERR | apply ws_f_CAP_STATUS_ENV_STATE
    | intro _
    | dsimp only
    | with_reducible apply ok_ite
    | split

theorem wrCapEnv_ok {s0 : State} {E W : Nat} {k v s} (hE : sub 4294971906 E = true) (hW : sub 27701004964987707814776282354200485283934711099335726070375062282404489212176541204251134254388941288272112792633362582267392676722042443774562272202680601671068076923376631808 W = true) (h : Ok E W s0 s) :
    Ok E W s0 (wrCapEnv k v s) := by
  unfold wrCapEnv
  repeat' first
    | exact sub_trans rfl hE | exact sub_trans rfl hW | exact sub_bit hW rfl | with_reducible first | assumption | apply State.when_ok | apply State.on_ok | apply State.envFail_ok | apply State.merge_ok | apply State.envCommit_ok | apply ws_f_CAP_STATUS_CFG_REFUSED | apply ws_r_CAP_ENV | apply wrF_of_wr
    | intro _
    | dsimp only
    | with_reducible apply ok_ite
    | split

theorem execEnvLoadDone_ok {s0 : State} {E W : Nat} {k ok s} (hE : sub 4294967298 E = true) (hW : sub 209976069579169144739760213803291651073904265365748393896873978215355487923140088629457264994213167104 W = true) (h : Ok E W s0 s) :
    OkOut E W s0 (execEnvLoadDone k ok s) := by
  unfold execEnvLoadDone
  repeat' first
    | exact sub_trans rfl hE | exact sub_trans rfl hW | exact sub_bit hW rfl | with_reducible first | assumption | apply okOut_next | apply okOut_fault | apply State.envFail_ok | apply State.p_ok | apply State.setEnv_ok | apply ws_f_CAP_STATUS_ENV_STATE
    | intro _
    | dsimp only
    | with_reducible apply ok_ite
    | split

theorem State.capStop_ok {s0 : State} {E W : Nat} {s c} (hE : sub 2281705990 E = true) (hW : sub 27701004964987707814776282354200485283934711099335726070375062284057863190204347715509631258998914306107419714145264794985285727801031289537331880490794593132911732846904737792 W = true) (h : Ok E W s0 s) :
    Ok E W s0 (State.capStop s c) := by
  unfold State.capStop
  repeat' first
    | exact sub_trans rfl hE | exact sub_trans rfl hW | exact sub_bit hW rfl | with_reducible first | assumption | apply State.capDone_ok | apply State.on_ok | apply ws_f_CS_STATUS_STOPPED
    | intro _
    | dsimp only
    | with_reducible apply ok_ite
    | split

theorem State.capArm_ok {s0 : State} {E W : Nat} {s c} (hE : sub 2147483650 E = true) (hW : sub 1761406937080374920917110447592002770531761911681239903030468228649156768835956332597774248788593415772553871360 W = true) (h : Ok E W s0 s) :
    Ok E W s0 (State.capArm s c) := by
  unfold State.capArm
  repeat' first
    | exact sub_trans rfl hE | exact sub_trans rfl hW | exact sub_bit hW rfl | with_reducible first | assumption | apply State.p_ok | apply State.on_ok | apply State.setCap_ok | apply State.wr_ok | apply State.off_ok | apply State.pb_ok | apply ws_f_CS_STATUS_ARM_ERR | apply ws_f_CS_STATUS_CFG_REFUSED | apply ws_f_CS_STATUS_CLIPPED | apply ws_f_CS_STATUS_MASK_STOP | apply ws_f_CS_STATUS_STATE | apply ws_f_CS_STATUS_STOPPED | apply ws_f_CS_STATUS_UNLOAD_ERR | apply ws_r_CS_DEPTH | apply ws_r_CS_ROWS | apply ws_r_CS_TRIG | apply ws_r_CS_TRIG_STAMP | apply wrF_of_wr
    | intro _
    | dsimp only
    | with_reducible apply ok_ite
    | split

theorem wrCapCmd_ok {s0 : State} {E W : Nat} {c v s} (hE : sub 2281705990 E = true) (hW : sub 27701004964987707814776282354200485283934711099335726070375062284165896149011944043992547366451223809366701111395047509037821112491512904692603868890124747058627981684976386048 W = true) (h : Ok E W s0 s) :
    Ok E W s0 (wrCapCmd c v s) := by
  unfold wrCapCmd
  repeat' first
    | exact sub_trans rfl hE | exact sub_trans rfl hW | exact sub_bit hW rfl | with_reducible first | assumption | apply State.when_ok | apply State.capForce_ok | apply State.capStop_ok | apply State.capUnload_ok | apply State.capArm_ok
    | intro _
    | dsimp only
    | with_reducible apply ok_ite
    | split

theorem execCaptureUnload_ok {s0 : State} {E W : Nat} {rq c s} (hE : sub 2281705990 E = true) (hW : sub 27701004964987707814776282354200485283934711099335726147842558626773153838689519204082903596342397594243406496314828205257249772996748743581964467294259690163393256977965514752 W = true) (h : Ok E W s0 s) :
    OkOut E W s0 (execCaptureUnload rq c s) := by
  unfold execCaptureUnload
  repeat' first
    | exact sub_trans rfl hE | exact sub_trans rfl hW | exact sub_bit hW rfl | with_reducible first | assumption | apply okOut_next | apply okOut_fault | apply State.write_ok | apply wrCapCmd_ok
    | intro _
    | dsimp only
    | with_reducible apply ok_ite
    | split

theorem execUnloadDone_ok {s0 : State} {E W : Nat} {c halt s} (hE : sub 134218246 E = true) (hW : sub 550272921314240220627416861750128822862231923939414978986201103793882703420453216737318530117545764929518476197888 W = true) (h : Ok E W s0 s) :
    OkOut E W s0 (execUnloadDone c halt s) := by
  unfold execUnloadDone
  repeat' first
    | exact sub_trans rfl hE | exact sub_trans rfl hW | exact sub_bit hW rfl | with_reducible first | assumption | apply okOut_next | apply okOut_fault | apply State.p_ok | apply State.dmaHaltAt_ok | apply State.ipmPut_ok | apply State.on_ok | apply State.wr_ok | apply State.raiseSt_ok | apply ws_f_CS_STATUS_STATE | apply ws_f_CS_STATUS_UNLOADED | apply ws_f_CS_STATUS_UNLOAD_ERR | apply ws_r_CS_UNLOAD_CRC | apply wrF_of_wr
    | intro _
    | dsimp only
    | with_reducible apply ok_ite
    | split

theorem execCaptureArm_ok {s0 : State} {E W : Nat} {rq c s} (hE : sub 2281705990 E = true) (hW : sub 27701004964987707814776282354200485283934711099335726147842558626773153838689519204082903596342397594243406496314828205257249772996748743581964467294259690163393256977965514752 W = true) (h : Ok E W s0 s) :
    OkOut E W s0 (execCaptureArm rq c s) := by
  unfold execCaptureArm
  repeat' first
    | exact sub_trans rfl hE | exact sub_trans rfl hW | exact sub_bit hW rfl | with_reducible first | assumption | apply okOut_next | apply okOut_fault | apply State.write_ok | apply wrCapCmd_ok
    | intro _
    | dsimp only
    | with_reducible apply ok_ite
    | split

theorem execCaptureStop_ok {s0 : State} {E W : Nat} {rq c s} (hE : sub 2281705990 E = true) (hW : sub 27701004964987707814776282354200485283934711099335726147842558626773153838689519204082903596342397594243406496314828205257249772996748743581964467294259690163393256977965514752 W = true) (h : Ok E W s0 s) :
    OkOut E W s0 (execCaptureStop rq c s) := by
  unfold execCaptureStop
  repeat' first
    | exact sub_trans rfl hE | exact sub_trans rfl hW | exact sub_bit hW rfl | with_reducible first | assumption | apply okOut_next | apply okOut_fault | apply State.write_ok | apply wrCapCmd_ok
    | intro _
    | dsimp only
    | with_reducible apply ok_ite
    | split

theorem execCaptureSample_ok {s0 : State} {E W : Nat} {c s} (hE : sub 2147483904 E = true) (hW : sub 0 W = true) (h : Ok E W s0 s) :
    OkOut E W s0 (execCaptureSample c s) := by
  unfold execCaptureSample
  repeat' first
    | exact sub_trans rfl hE | exact sub_trans rfl hW | exact sub_bit hW rfl | with_reducible first | assumption | apply okOut_next | apply okOut_fault | apply State.act_ok | apply State.capLatch_ok
    | intro _
    | dsimp only
    | with_reducible apply ok_ite
    | split

theorem execCaptureForce_ok {s0 : State} {E W : Nat} {rq c s} (hE : sub 2281705990 E = true) (hW : sub 27701004964987707814776282354200485283934711099335726147842558626773153838689519204082903596342397594243406496314828205257249772996748743581964467294259690163393256977965514752 W = true) (h : Ok E W s0 s) :
    OkOut E W s0 (execCaptureForce rq c s) := by
  unfold execCaptureForce
  repeat' first
    | exact sub_trans rfl hE | exact sub_trans rfl hW | exact sub_bit hW rfl | with_reducible first | assumption | apply okOut_next | apply okOut_fault | apply State.write_ok | apply wrCapCmd_ok
    | intro _
    | dsimp only
    | with_reducible apply ok_ite
    | split

theorem execEnvCommit_ok {s0 : State} {E W : Nat} {rq k s} (hE : sub 4294971906 E = true) (hW : sub 27701004964987707814776282354200485283934711099335726147842558625011746901854116364341490484280115073148818177553143278486821337227278282663922870606815544775833352216365760512 W = true) (h : Ok E W s0 s) :
    OkOut E W s0 (execEnvCommit rq k s) := by
  unfold execEnvCommit
  repeat' first
    | exact sub_trans rfl hE | exact sub_trans rfl hW | exact sub_bit hW rfl | with_reducible first | assumption | apply okOut_next | apply okOut_fault | apply State.write_ok | apply wrCapEnv_ok
    | intro _
    | dsimp only
    | with_reducible apply ok_ite
    | split

theorem execCapBindWrite_ok {s0 : State} {E W : Nat} {rq k v s} (hE : sub 514 E = true) (hW : sub 77467496342607257689712571171686884420681133820510587326765431407113720059488048168591919846391324957876341503717544034304 W = true) (h : Ok E W s0 s) :
    OkOut E W s0 (execCapBindWrite rq k v s) := by
  unfold execCapBindWrite
  repeat' first
    | exact sub_trans rfl hE | exact sub_trans rfl hW | exact sub_bit hW rfl | with_reducible first | assumption | apply okOut_next | apply okOut_fault | apply State.write_ok | apply wrCapBind_ok
    | intro _
    | dsimp only
    | with_reducible apply ok_ite
    | split

theorem wrCapStatus_ok {s0 : State} {E W : Nat} {k v s} (hE : sub 2 E = true) (hW : sub 140737488355328 W = true) (h : Ok E W s0 s) :
    Ok E W s0 (wrCapStatus k v s) := by
  unfold wrCapStatus
  repeat' first
    | exact sub_trans rfl hE | exact sub_trans rfl hW | exact sub_bit hW rfl | with_reducible first | assumption | apply State.merge_ok | apply ws_r_CAP_STATUS | apply wrF_of_wr
    | intro _
    | dsimp only
    | with_reducible apply ok_ite
    | split

end Sys2Proof.Machine
end

