-- ==== Sys2Proof/Laws/KeepEther.lean ====
section
/-! SUPPORT. What the definitions of Machine/Ether.lean keep: the queue, and the canonical forms of the register window and of
the memories; one lemma for each. -/

namespace Sys2Proof.Machine

theorem State.configChange_ok {s0 : State} {E W : Nat} {s p} (hE : sub 8589934594 E = true) (hW : sub 86113183195148597524473932837138196173242355553899987599806132725677506439158109786190832576718632592097213491261943926323828946354577482940204086727802728363889424217915805245365798002165146418413568 W = true) (h : Ok E W s0 s) :
    Ok E W s0 (State.configChange s p) := by
  unfold State.configChange
  repeat' first
    | exact sub_trans rfl hE | exact sub_trans rfl hW | exact sub_bit hW rfl | with_reducible first | assumption | apply State.on_ok | apply State.setEth_ok | apply ws_f_TSN_STATUS_CONFIG_ERR | apply ws_f_TSN_STATUS_PENDING
    | intro _
    | dsimp only
    | with_reducible apply ok_ite
    | split

theorem State.countDrop_ok {s0 : State} {E W : Nat} {s p via} (hE : sub 2 E = true) (hW : sub 1231312693637327475383720003129487931408741852202045208373384168882678805359287831606695820465153613775207124697088 W = true) (h : Ok E W s0 s) :
    Ok E W s0 (State.countDrop s p via) := by
  unfold State.countDrop
  repeat' first
    | exact sub_trans rfl hE | exact sub_trans rfl hW | exact sub_bit hW rfl | with_reducible first | assumption | apply State.count_ok | apply ws_f_ETH_COUNT_A_LO
    | intro _
    | dsimp only
    | with_reducible apply ok_ite
    | split

theorem State.startFrame_ok {s0 : State} {E W : Nat} {s p f} (hE : sub 8589934594 E = true) (hW : sub 119437331282820765112220840303560329346647959663598385212218264381619844119850919665849494585119902842038100309311488 W = true) (h : Ok E W s0 s) :
    Ok E W s0 (State.startFrame s p f) := by
  unfold State.startFrame
  repeat' first
    | exact sub_trans rfl hE | exact sub_trans rfl hW | exact sub_bit hW rfl | with_reducible first | assumption | apply State.countDrop_ok | apply State.setEth_ok | apply State.pb_ok | apply State.wr_ok | apply State.p_ok | apply ws_f_ETH_SLOT_STATUS_DELAY | apply ws_f_ETH_SLOT_STATUS_LATE | apply ws_r_ETH_SLOT_STAMP | apply wrF_of_wr
    | intro _
    | dsimp only
    | with_reducible apply ok_ite
    | split

theorem State.kickN_ok {s0 : State} {E W : Nat} {p x1 s} (hE : sub 8589934594 E = true) (hW : sub 119437331282820765112220840303560329346647959663598385212218264381619844119850919665849494585119902842038100309311488 W = true) (h : Ok E W s0 s) :
    Ok E W s0 (State.kickN p x1 s) := by
  induction x1 generalizing p s with
  | zero =>
    unfold State.kickN
    repeat' first
      | exact sub_trans rfl hE | exact sub_trans rfl hW | exact sub_bit hW rfl | with_reducible first | assumption | apply State.setEth_ok | apply State.startFrame_ok | apply State.countDrop_ok | apply ih
      | intro _
      | dsimp only
      | with_reducible apply ok_ite
      | split
  | succ n ih =>
    unfold State.kickN
    repeat' first
      | exact sub_trans rfl hE | exact sub_trans rfl hW | exact sub_bit hW rfl | with_reducible first | assumption | apply State.setEth_ok | apply State.startFrame_ok | apply State.countDrop_ok | apply ih
      | intro _
      | dsimp only
      | with_reducible apply ok_ite
      | split

theorem State.kick_ok {s0 : State} {E W : Nat} {s p} (hE : sub 8589934594 E = true) (hW : sub 2392032866531905486790942578809394338145620987608332988883503686824375178865503049735849347302782781559365659505280993966754319284558870849446155679614364352181181449680489175268952786542687709822976 W = true) (h : Ok E W s0 s) :
    Ok E W s0 (State.kick s p) := by
  unfold State.kick
  repeat' first
    | exact sub_trans rfl hE | exact sub_trans rfl hW | exact sub_bit hW rfl | with_reducible first | assumption | apply State.setEth_ok | apply State.count_ok | apply State.kickN_ok | apply ws_f_TSN_COUNT_TOO_LONG
    | intro _
    | dsimp only
    | with_reducible apply ok_ite
    | split

theorem State.preempt_ok {s0 : State} {E W : Nat} {s p} (hE : sub 8589934592 E = true) (hW : sub 0 W = true) (h : Ok E W s0 s) :
    Ok E W s0 (State.preempt s p) := by
  unfold State.preempt
  repeat' first
    | exact sub_trans rfl hE | exact sub_trans rfl hW | exact sub_bit hW rfl | with_reducible first | assumption | apply State.setEth_ok
    | intro _
    | dsimp only
    | with_reducible apply ok_ite
    | split

theorem State.urge_ok {s0 : State} {E W : Nat} {s p} (hE : sub 8589934592 E = true) (hW : sub 0 W = true) (h : Ok E W s0 s) :
    Ok E W s0 (State.urge s p) := by
  unfold State.urge
  repeat' first
    | exact sub_trans rfl hE | exact sub_trans rfl hW | exact sub_bit hW rfl | with_reducible first | assumption | apply State.preempt_ok
    | intro _
    | dsimp only
    | with_reducible apply ok_ite
    | split

theorem State.enqueueFrame_ok {s0 : State} {E W : Nat} {s p via f} (hE : sub 8589934594 E = true) (hW : sub 2392032866531905486790942578809394338145620987608332988883503686824375178865503049735849347302782781559365659505280993966754319284558870849446155679614364352181181449680489175268952786542687709822976 W = true) (h : Ok E W s0 s) :
    Ok E W s0 (State.enqueueFrame s p via f) := by
  unfold State.enqueueFrame
  repeat' first
    | exact sub_trans rfl hE | exact sub_trans rfl hW | exact sub_bit hW rfl | with_reducible first | assumption | apply State.countDrop_ok | apply State.kick_ok | apply State.urge_ok | apply State.setEth_ok
    | intro _
    | dsimp only
    | with_reducible apply ok_ite
    | split

theorem State.enqueue_ok {s0 : State} {E W : Nat} {s p via tc bytes} (hE : sub 8589934594 E = true) (hW : sub 2392032866531905486790942578809394338145620987608332988883503686824375178865503049735849347302782781559365659505280993966754319284558870849446155679614364352181181449680489175268952786542687709822976 W = true) (h : Ok E W s0 s) :
    Ok E W s0 (State.enqueue s p via tc bytes) := by
  unfold State.enqueue
  repeat' first
    | exact sub_trans rfl hE | exact sub_trans rfl hW | exact sub_bit hW rfl | with_reducible first | assumption | apply State.enqueueFrame_ok
    | intro _
    | dsimp only
    | with_reducible apply ok_ite
    | split

theorem wrTsnCtl_ok {s0 : State} {E W : Nat} {p v s} (hE : sub 8589934594 E = true) (hW : sub 90897248928212408498055817994756984849533597529116653577573140099326256796889115885423656608758556624991503129665385255564041665596498454214659869323791768828549947785577794425663897891174321219436544 W = true) (h : Ok E W s0 s) :
    Ok E W s0 (wrTsnCtl p v s) := by
  unfold wrTsnCtl
  repeat' first
    | exact sub_trans rfl hE | exact sub_trans rfl hW | exact sub_bit hW rfl | with_reducible first | assumption | apply State.when_ok | apply State.p_ok | apply State.configChange_ok | apply ws_f_TSN_CTL_LEN
    | intro _
    | dsimp only
    | with_reducible apply ok_ite
    | split

theorem execGateConfigChange_ok {s0 : State} {E W : Nat} {rq p s} (hE : sub 8589935106 E = true) (hW : sub 90897248928212408498055817994756984849533597529116653577573140099326256796889193352919999216016246302566663220021615146737826542301883373995356088752452274064388837146176198560607002656449614208565248 W = true) (h : Ok E W s0 s) :
    OkOut E W s0 (execGateConfigChange rq p s) := by
  unfold execGateConfigChange
  repeat' first
    | exact sub_trans rfl hE | exact sub_trans rfl hW | exact sub_bit hW rfl | with_reducible first | assumption | apply okOut_next | apply okOut_fault | apply State.write_ok | apply wrTsnCtl_ok
    | intro _
    | dsimp only
    | with_reducible apply ok_ite
    | split

theorem State.toShaft_ok {s0 : State} {E W : Nat} {s bytes} (hE : sub 268444306 E = true) (hW : sub 639829101775009384422825177127282812237300578484713934565922969188305580942228723995025414018212097285705948283664523075820732997062136768177063308283609088 W = true) (h : Ok E W s0 s) :
    Ok E W s0 (State.toShaft s bytes) := by
  unfold State.toShaft
  repeat' first
    | exact sub_trans rfl hE | exact sub_trans rfl hW | exact sub_bit hW rfl | with_reducible first | assumption | apply State.receiveSegment_ok | apply State.receiveStatus_ok | apply State.receiveJoin_ok
    | intro _
    | dsimp only
    | with_reducible apply ok_ite
    | split

theorem State.stomp_ok {s0 : State} {E W : Nat} {s p tc wire f bytes} (hE : sub 8589934594 E = true) (hW : sub 120052987629639428849912700305125073312352330589699407816404956466061183522530563581652842495352479648925703871660032 W = true) (h : Ok E W s0 s) :
    Ok E W s0 (State.stomp s p tc wire f bytes) := by
  unfold State.stomp
  repeat' first
    | exact sub_trans rfl hE | exact sub_trans rfl hW | exact sub_bit hW rfl | with_reducible first | assumption | apply State.count_ok | apply State.startFrame_ok | apply ws_f_ETH_COUNT_A_HI
    | intro _
    | dsimp only
    | with_reducible apply ok_ite
    | split

theorem wrSaCtl_ok {s0 : State} {E W : Nat} {p v s} (hE : sub 8589934594 E = true) (hW : sub 42535295865117307932921825928971026432 W = true) (h : Ok E W s0 s) :
    Ok E W s0 (wrSaCtl p v s) := by
  unfold wrSaCtl
  repeat' first
    | exact sub_trans rfl hE | exact sub_trans rfl hW | exact sub_bit hW rfl | with_reducible first | assumption | apply State.merge_ok | apply State.setEth_ok | apply ws_r_MSEC_SA_CTL | apply wrF_of_wr
    | intro _
    | dsimp only
    | with_reducible apply ok_ite
    | split

theorem State.enterEntry_ok {s0 : State} {E W : Nat} {s p i t} (hE : sub 8589934594 E = true) (hW : sub 155482136324573856641411267622610631979465364194541644277427739643584386626257698225186218372580351834176634088415403529653561335026029951632031198751263659221317935614864142944808149234836281342558208 W = true) (h : Ok E W s0 s) :
    Ok E W s0 (State.enterEntry s p i t) := by
  unfold State.enterEntry
  repeat' first
    | exact sub_trans rfl hE | exact sub_trans rfl hW | exact sub_bit hW rfl | with_reducible first | assumption | apply State.when_ok | apply State.on_ok | apply State.setEth_ok | apply State.preempt_ok | apply State.kick_ok | apply State.urge_ok | apply ws_f_TSN_STATUS_STEP_RESYNC
    | intro _
    | dsimp only
    | with_reducible apply ok_ite
    | split

theorem State.verify_ok {s0 : State} {E W : Nat} {s p} (hE : sub 2 E = true) (hW : sub 10086913586276986678343434265636765134100413253239154346994763111486904773503285916522052161250538404046496765518544896 W = true) (h : Ok E W s0 s) :
    Ok E W s0 (State.verify s p) := by
  unfold State.verify
  repeat' first
    | exact sub_trans rfl hE | exact sub_trans rfl hW | exact sub_bit hW rfl | with_reducible first | assumption | apply State.p_ok | apply ws_f_ETH_STATUS_VERIFY
    | intro _
    | dsimp only
    | with_reducible apply ok_ite
    | split

theorem State.relay_ok {s0 : State} {E W : Nat} {s p q tc wire bytes} (hE : sub 8589934594 E = true) (hW : sub 2392032866531905486790942578809394338145620987608332988883503686824375178865503049735849347302782781559365659505280993966754319284558870849446155679614364352181181449680489175268952786542687709822976 W = true) (h : Ok E W s0 s) :
    Ok E W s0 (State.relay s p q tc wire bytes) := by
  unfold State.relay
  repeat' first
    | exact sub_trans rfl hE | exact sub_trans rfl hW | exact sub_bit hW rfl | with_reducible first | assumption | apply State.startFrame_ok | apply State.enqueue_ok
    | intro _
    | dsimp only
    | with_reducible apply ok_ite
    | split

theorem State.handle_ok {s0 : State} {E W : Nat} {s p wire f bytes} (hE : sub 8589934658 E = true) (hW : sub 2392032866531905486790942578809394338145620987608332988883503686824375178865503049743237223464606746411667979524057921555206770397771142099686460692910437184336908439320664098059874469193930458005504 W = true) (h : Ok E W s0 s) :
    Ok E W s0 (State.handle s p wire f bytes) := by
  unfold State.handle
  repeat' first
    | exact sub_trans rfl hE | exact sub_trans rfl hW | exact sub_bit hW rfl | with_reducible first | assumption | apply State.relay_ok | apply State.when_ok | apply State.noteStamp_ok | apply State.enqueue_ok | apply State.enqueueFrame_ok | apply State.count_ok | apply ws_f_ETH_COUNT_B_HI | apply ws_f_ETH_COUNT_B_LO
    | intro _
    | dsimp only
    | with_reducible apply ok_ite
    | split

theorem State.flushArea_ok {s0 : State} {E W : Nat} {s p} (hE : sub 8589934594 E = true) (hW : sub 306180206916083902309240650087602475282639486413866622577088471913520022894784390350900738050555138105234536857820245071373614031482942161565170086143298589738273508330367307539078392896587187265470464 W = true) (h : Ok E W s0 s) :
    Ok E W s0 (State.flushArea s p) := by
  unfold State.flushArea
  repeat' first
    | exact sub_trans rfl hE | exact sub_trans rfl hW | exact sub_bit hW rfl | with_reducible first | assumption | apply State.each_ok | apply State.setEth_ok | apply State.wr_ok | apply ws_w_areaWord | apply wrF_of_wr
    | intro _
    | dsimp only
    | with_reducible apply ok_ite
    | split

theorem State.slotFrame_ok {s0 : State} {E W : Nat} {s p k t} (hE : sub 1899524754 E = true) (hW : sub 1255338848355943999476252088746034230463903515027885293395969947150709014728612310146574005742250843475796192346116135421765174768113303072705145507893993652895328018281727072343733493773832170465017200768 W = true) (h : Ok E W s0 s) :
    Ok E W s0 (State.slotFrame s p k t).1 := by
  unfold State.slotFrame
  repeat' first
    | exact sub_trans rfl hE | exact sub_trans rfl hW | exact sub_bit hW rfl | with_reducible first | assumption | apply State.receiveSegment_ok | apply State.each_ok | apply State.evalChan_ok
    | intro _
    | dsimp only
    | with_reducible apply ok_ite
    | split

theorem State.slotFrame_ok' {s0 t0 : State} {E W : Nat} {s p k t y0} (hE : sub 1899524754 E = true) (hW : sub 1255338848355943999476252088746034230463903515027885293395969947150709014728612310146574005742250843475796192346116135421765174768113303072705145507893993652895328018281727072343733493773832170465017200768 W = true) (h : Ok E W s0 s) (e : State.slotFrame s p k t = (t0, y0)) :
    Ok E W s0 t0 := by
  have r := State.slotFrame_ok (s0 := s0) (E := E) (W := W) (s := s) (p := p) (k := k) (t := t) hE hW h
  rw [e] at r
  exact r

theorem execEthLaunch_ok {s0 : State} {E W : Nat} {p s} (hE : sub 10489459602 E = true) (hW : sub 1255338848355943999476252088746034230463903515027885293395969947150709014728612310146575543651805196497812946612400044152191504286686703427170403864720928118723221768783403835423494470639743247172977557632 W = true) (h : Ok E W s0 s) :
    OkOut E W s0 (execEthLaunch p s) := by
  unfold execEthLaunch
  repeat' first
    | exact sub_trans rfl hE | exact sub_trans rfl hW | exact sub_bit hW rfl | with_reducible first | assumption | apply okOut_next | apply okOut_fault | apply State.act_ok | apply State.on_ok | apply State.slotFrame_ok | refine State.slotFrame_ok' ?_ ?_ ?_ (by assumption) | apply State.startFrame_ok | apply State.preempt_ok | apply State.raiseSt_ok | apply State.setEth_ok | apply ws_f_ETH_SLOT_STATUS_LINK_DOWN_DROP | apply ws_f_ETH_STATUS_LAUNCH_OVF
    | intro _
    | dsimp only
    | with_reducible apply ok_ite
    | split

theorem State.strangerEvent_ok {s0 : State} {E W : Nat} {s p} (hE : sub 8589935104 E = true) (hW : sub 0 W = true) (h : Ok E W s0 s) :
    Ok E W s0 (State.strangerEvent s p) := by
  unfold State.strangerEvent
  repeat' first
    | exact sub_trans rfl hE | exact sub_trans rfl hW | exact sub_bit hW rfl | with_reducible first | assumption | apply State.raise_ok | apply State.setEth_ok
    | intro _
    | dsimp only
    | with_reducible apply ok_ite
    | split

theorem State.noteStranger_ok {s0 : State} {E W : Nat} {s p reason src} (hE : sub 8589935106 E = true) (hW : sub 741991204419313602181507563058941570105394047303635519742189168278691675319595601510949203183729134968793014278048418018054095102920253885114413656009527101280775890272256000 W = true) (h : Ok E W s0 s) :
    Ok E W s0 (State.noteStranger s p reason src) := by
  unfold State.noteStranger
  repeat' first
    | exact sub_trans rfl hE | exact sub_trans rfl hW | exact sub_bit hW rfl | with_reducible first | assumption | apply State.p_ok | apply State.count_ok | apply State.wr_ok | apply State.setEth_ok | apply State.strangerEvent_ok | apply ws_f_MSEC_STRANGER_COUNT | apply ws_f_MSEC_STRANGER_REASON | apply ws_r_MSEC_STRANGER_SRC_HI | apply ws_r_MSEC_STRANGER_SRC_LO | apply wrF_of_wr
    | intro _
    | dsimp only
    | with_reducible apply ok_ite
    | split

theorem State.gateResync_ok {s0 : State} {E W : Nat} {s p} (hE : sub 8589934592 E = true) (hW : sub 0 W = true) (h : Ok E W s0 s) :
    Ok E W s0 (State.gateResync s p) := by
  unfold State.gateResync
  repeat' first
    | exact sub_trans rfl hE | exact sub_trans rfl hW | exact sub_bit hW rfl | with_reducible first | assumption | apply State.setEth_ok
    | intro _
    | dsimp only
    | with_reducible apply ok_ite
    | split

theorem execFrameTransmitted_ok {s0 : State} {E W : Nat} {p s} (hE : sub 8858378930 E = true) (hW : sub 308572239782615807796031592666411869620785108041304057340981360023169575200932705637937165882571855452716871705631107007569092345792915050626713527528861237754977765600780793776484113860193183258902528 W = true) (h : Ok E W s0 s) :
    OkOut E W s0 (execFrameTransmitted p s) := by
  unfold execFrameTransmitted
  repeat' first
    | exact sub_trans rfl hE | exact sub_trans rfl hW | exact sub_bit hW rfl | with_reducible first | assumption | apply okOut_next | apply okOut_fault | apply State.flushArea_ok | apply State.setEth_ok | apply State.emit_ok | apply State.when_ok | apply State.toShaft_ok | apply State.raiseSt_ok | apply State.kick_ok
    | intro _
    | dsimp only
    | with_reducible apply ok_ite
    | split

theorem wrSak_ok {s0 : State} {E W : Nat} {p i v s} (hE : sub 8589934592 E = true) (hW : sub 0 W = true) (h : Ok E W s0 s) :
    Ok E W s0 (wrSak p i v s) := by
  unfold wrSak
  repeat' first
    | exact sub_trans rfl hE | exact sub_trans rfl hW | exact sub_bit hW rfl | with_reducible first | assumption | apply State.setEth_ok
    | intro _
    | dsimp only
    | with_reducible apply ok_ite
    | split

theorem execEthPortFault_ok {s0 : State} {E W : Nat} {p s} (hE : sub 8589935122 E = true) (hW : sub 306180206916083902309240650087602475282639486413866622577088471913520022894784390351531170149697449772631001499422542892254889859810389308252342780611230138082228878112995567617237043149493235110379520 W = true) (h : Ok E W s0 s) :
    OkOut E W s0 (execEthPortFault p s) := by
  unfold execEthPortFault
  repeat' first
    | exact sub_trans rfl hE | exact sub_trans rfl hW | exact sub_bit hW rfl | with_reducible first | assumption | apply okOut_next | apply okOut_fault | apply State.flushArea_ok | apply State.setEth_ok | apply State.raiseSt_ok | apply State.on_ok | apply State.took_ok | apply State.raise_ok | apply ws_f_ETH_STATUS_FAULT
    | intro _
    | dsimp only
    | with_reducible apply ok_ite
    | split

theorem wrArea_ok {s0 : State} {E W : Nat} {rq p off v s} (hE : sub 8589934594 E = true) (hW : sub 306180206916083902309240650087602475282639486413866622577088471913520022894784390350900738050555138105234536857820245071373614031482942161565170086143298589738273508330367307539078392896587187265470464 W = true) (h : Ok E W s0 s) :
    Ok E W s0 (wrArea rq p off v s) := by
  unfold wrArea
  repeat' first
    | exact sub_trans rfl hE | exact sub_trans rfl hW | exact sub_bit hW rfl | with_reducible first | assumption | apply State.setEth_ok | apply State.wr_ok | apply ws_w_areaWord | apply wrF_of_wr
    | intro _
    | dsimp only
    | with_reducible apply ok_ite
    | split

theorem execTransmitAreaWrite_ok {s0 : State} {E W : Nat} {rq p off v s} (hE : sub 8589935106 E = true) (hW : sub 306180206916083902309240650087602475282639486413866622577088471913520022894784467818397080657812827782809696948176474962547398908188327081345866305571959094974112397690965711674021497661862480254599168 W = true) (h : Ok E W s0 s) :
    OkOut E W s0 (execTransmitAreaWrite rq p off v s) := by
  unfold execTransmitAreaWrite
  repeat' first
    | exact sub_trans rfl hE | exact sub_trans rfl hW | exact sub_bit hW rfl | with_reducible first | assumption | apply okOut_next | apply okOut_fault | apply State.logDropped_ok | apply wrArea_ok
    | intro _
    | dsimp only
    | with_reducible apply ok_ite
    | split

theorem execLaunchFrameStart_ok {s0 : State} {E W : Nat} {p s} (hE : sub 8589934594 E = true) (hW : sub 119437331282820765112220840303560329346647959663598385212218264381619844119850919665849494585119902842038100309311488 W = true) (h : Ok E W s0 s) :
    OkOut E W s0 (execLaunchFrameStart p s) := by
  unfold execLaunchFrameStart
  repeat' first
    | exact sub_trans rfl hE | exact sub_trans rfl hW | exact sub_bit hW rfl | with_reducible first | assumption | apply okOut_next | apply okOut_fault | apply State.startFrame_ok | apply State.preempt_ok | apply State.setEth_ok | apply State.on_ok | apply ws_f_ETH_SLOT_STATUS_LATE
    | intro _
    | dsimp only
    | with_reducible apply ok_ite
    | split

theorem wrTsnPreempt_ok {s0 : State} {E W : Nat} {p v s} (hE : sub 2 E = true) (hW : sub 10402129635848142512041666586437914044541051167402877920338349458720870547678051194563182619182309693957030834629246976 W = true) (h : Ok E W s0 s) :
    Ok E W s0 (wrTsnPreempt p v s) := by
  unfold wrTsnPreempt
  repeat' first
    | exact sub_trans rfl hE | exact sub_trans rfl hW | exact sub_bit hW rfl | with_reducible first | assumption | apply State.on_ok | apply State.merge_ok | apply State.when_ok | apply State.verify_ok | apply ws_f_ETH_STATUS_CFG_REFUSED | apply ws_r_TSN_PREEMPT | apply wrF_of_wr
    | intro _
    | dsimp only
    | with_reducible apply ok_ite
    | split

theorem State.linkDown_ok {s0 : State} {E W : Nat} {s p} (hE : sub 8589935106 E = true) (hW : sub 306180206916083902309240650087602475282639486413866622577088471913520022894784390363509380033401371453163829689866201488999130598031885095308623975501929556617380903982932509102251397954708144163651584 W = true) (h : Ok E W s0 s) :
    Ok E W s0 (State.linkDown s p) := by
  unfold State.linkDown
  repeat' first
    | exact sub_trans rfl hE | exact sub_trans rfl hW | exact sub_bit hW rfl | with_reducible first | assumption | apply State.verify_ok | apply State.off_ok | apply State.raiseSt_ok | apply State.flushArea_ok | apply State.setEth_ok | apply ws_f_ETH_STATUS_LINK
    | intro _
    | dsimp only
    | with_reducible apply ok_ite
    | split

theorem execEthLinkChange_ok {s0 : State} {E W : Nat} {p up link s} (hE : sub 8589935106 E = true) (hW : sub 308572239782615807796031592666411869620785107401474955565971975600344398073649893418288686173842647573894912482189865050016091543936021139655451686924996307721205043693639078902789552764499214632747008 W = true) (h : Ok E W s0 s) :
    OkOut E W s0 (execEthLinkChange p up link s) := by
  unfold execEthLinkChange
  repeat' first
    | exact sub_trans rfl hE | exact sub_trans rfl hW | exact sub_bit hW rfl | with_reducible first | assumption | apply okOut_next | apply okOut_fault | apply State.linkDown_ok | apply State.verify_ok | apply State.p_ok | apply State.on_ok | apply State.setEth_ok | apply State.raiseSt_ok | apply State.kick_ok | apply ws_f_ETH_STATUS_LINK | apply ws_f_ETH_STATUS_RATE
    | intro _
    | dsimp only
    | with_reducible apply ok_ite
    | split

theorem execFdbAgeing_ok {s0 : State} {E W : Nat} {mac s} (hE : sub 17179869184 E = true) (hW : sub 0 W = true) (h : Ok E W s0 s) :
    OkOut E W s0 (execFdbAgeing mac s) := by
  unfold execFdbAgeing
  repeat' first
    | exact sub_trans rfl hE | exact sub_trans rfl hW | exact sub_bit hW rfl | with_reducible first | assumption | apply okOut_next | apply okOut_fault
    | intro _
    | dsimp only
    | with_reducible apply ok_ite
    | ((with_reducible apply ok_mk) <;> first | exact Or.inr (sub_bit hE rfl) | exact Or.inr (Or.inr (sub_bit hE rfl)) | with_reducible first | exact Or.inl rfl | exact rfl | exact Or.inr (Or.inl rfl) | assumption | apply ok_ite)
    | split

theorem wrSlot_ok {s0 : State} {E W : Nat} {p a v s} (hE : sub 2 E = true) (hW : sub allSlots W = true) (h : Ok E W s0 s) :
    Ok E W s0 (wrSlot p a v s) := by
  unfold wrSlot
  repeat' first
    | exact sub_trans rfl hE | exact sub_trans rfl hW | exact sub_bit hW rfl | with_reducible first | assumption | apply State.on_ok | apply State.merge_ok | apply ws_f_ETH_STATUS_CFG_REFUSED | apply wrF_of_wr | exact wr_any (any_bit hW) _ | exact wrF_any (any_bit hW) _
    | intro _
    | dsimp only
    | with_reducible apply ok_ite
    | split

theorem wrSwCfg_ok {s0 : State} {E W : Nat} {v s} (hE : sub 34 E = true) (hW : sub 20183677674103071976489938291298566171652096441295925055656513296324870977449446135696957889064798037003195188034666496 W = true) (h : Ok E W s0 s) :
    Ok E W s0 (wrSwCfg v s) := by
  unfold wrSwCfg
  repeat' first
    | exact sub_trans rfl hE | exact sub_trans rfl hW | exact sub_bit hW rfl | with_reducible first | assumption | apply State.p_ok | apply State.emit_ok | apply State.on_ok | apply ws_f_ETH_MDIO_BUSY | apply ws_f_ETH_SW_CFG_AGE
    | intro _
    | dsimp only
    | with_reducible apply ok_ite
    | split

theorem wrEthCfg_ok {s0 : State} {E W : Nat} {p v s} (hE : sub 8589935106 E = true) (hW : sub 306180206916083902309240650087602475282639486413866622577088471913520022894784390363824596082972527286862062010667350399439768512195608668652210322735895330789358588874246639141330724234082672692953088 W = true) (h : Ok E W s0 s) :
    Ok E W s0 (wrEthCfg p v s) := by
  unfold wrEthCfg
  repeat' first
    | exact sub_trans rfl hE | exact sub_trans rfl hW | exact sub_bit hW rfl | with_reducible first | assumption | apply State.on_ok | apply State.when_ok | apply State.merge_ok | apply State.linkDown_ok | apply ws_f_ETH_STATUS_CFG_REFUSED | apply ws_r_ETH_CFG | apply wrF_of_wr
    | intro _
    | dsimp only
    | with_reducible apply ok_ite
    | split

theorem execEthCfgWrite_ok {s0 : State} {E W : Nat} {rq p v s} (hE : sub 8589935106 E = true) (hW : sub 306180206916083902309240650087602475282639486413866622577088471913520022894784467831320938690230216964437222101023580290613553388900993588432906542164555836025197478234845043276273828999357965682081792 W = true) (h : Ok E W s0 s) :
    OkOut E W s0 (execEthCfgWrite rq p v s) := by
  unfold execEthCfgWrite
  repeat' first
    | exact sub_trans rfl hE | exact sub_trans rfl hW | exact sub_bit hW rfl | with_reducible first | assumption | apply okOut_next | apply okOut_fault | apply State.write_ok | apply wrEthCfg_ok
    | intro _
    | dsimp only
    | with_reducible apply ok_ite
    | split

theorem execSaInstall_ok {s0 : State} {E W : Nat} {rq p an rxsc tx s} (hE : sub 8589935106 E = true) (hW : sub 77467496342607257689677575160090356229891173784876705384919780696219428660505235838931895894269252251037687101221960155136 W = true) (h : Ok E W s0 s) :
    OkOut E W s0 (execSaInstall rq p an rxsc tx s) := by
  unfold execSaInstall
  repeat' first
    | exact sub_trans rfl hE | exact sub_trans rfl hW | exact sub_bit hW rfl | with_reducible first | assumption | apply okOut_next | apply okOut_fault | apply State.write_ok | apply wrSaCtl_ok
    | intro _
    | dsimp only
    | with_reducible apply ok_ite
    | split

theorem execGateEntryEnd_ok {s0 : State} {E W : Nat} {p s} (hE : sub 8589934594 E = true) (hW : sub 155482136324573856641411267622610631979465364194541644277427739643584386626257698225186218372580351834176634088415403529653561335026029951632031198751263659221317935614864142944808149234836281342558208 W = true) (h : Ok E W s0 s) :
    OkOut E W s0 (execGateEntryEnd p s) := by
  unfold execGateEntryEnd
  repeat' first
    | exact sub_trans rfl hE | exact sub_trans rfl hW | exact sub_bit hW rfl | with_reducible first | assumption | apply okOut_next | apply okOut_fault | apply State.enterEntry_ok | apply State.setEth_ok
    | intro _
    | dsimp only
    | with_reducible apply ok_ite
    | split

theorem execGateListTakeover_ok {s0 : State} {E W : Nat} {p s} (hE : sub 8589934594 E = true) (hW : sub 289435976850360563901704052035936714915620139500608291654903946105749396642725869003705291269698224755216743963711760748379517473799817147316793111438956792233903290371762085912673919715153959662387200 W = true) (h : Ok E W s0 s) :
    OkOut E W s0 (execGateListTakeover p s) := by
  unfold execGateListTakeover
  repeat' first
    | exact sub_trans rfl hE | exact sub_trans rfl hW | exact sub_bit hW rfl | with_reducible first | assumption | apply okOut_next | apply okOut_fault | apply State.each_ok | apply State.wr_ok | apply State.off_ok | apply State.on_ok | apply State.p_ok | apply State.setEth_ok | apply State.enterEntry_ok | apply ws_f_TSN_STATUS_OPER_ACTIVE | apply ws_f_TSN_STATUS_OPER_LEN | apply ws_f_TSN_STATUS_PENDING | apply ws_r_TSN_OPER_CTL | apply ws_r_TSN_OPER_INTERVAL | apply wrF_of_wr
    | intro _
    | dsimp only
    | with_reducible apply ok_ite
    | split

theorem State.learn_ok {s0 : State} {E W : Nat} {s p f} (hE : sub 17179869184 E = true) (hW : sub 0 W = true) (h : Ok E W s0 s) :
    Ok E W s0 (State.learn s p f) := by
  unfold State.learn
  repeat' first
    | exact sub_trans rfl hE | exact sub_trans rfl hW | exact sub_bit hW rfl | with_reducible first | assumption
    | intro _
    | dsimp only
    | with_reducible apply ok_ite
    | ((with_reducible apply ok_mk) <;> first | exact Or.inr (sub_bit hE rfl) | exact Or.inr (Or.inr (sub_bit hE rfl)) | with_reducible first | exact Or.inl rfl | exact rfl | exact Or.inr (Or.inl rfl) | assumption | apply ok_ite)
    | split

theorem execFrameReceived_ok {s0 : State} {E W : Nat} {p f s} (hE : sub 25769804354 E = true) (hW : sub 2392032866531905486790943320800598757459223169115896047825073792218422482501022791933021158503100729744961350474825849250046110116886442752291170831446879507270437469537668017819552556857424292610048 W = true) (h : Ok E W s0 s) :
    OkOut E W s0 (execFrameReceived p f s) := by
  unfold execFrameReceived
  repeat' first
    | exact sub_trans rfl hE | exact sub_trans rfl hW | exact sub_bit hW rfl | with_reducible first | assumption | apply okOut_next | apply okOut_fault | apply State.stomp_ok | apply State.noteStranger_ok | apply State.when_ok | apply State.setEth_ok | apply State.handle_ok | apply State.learn_ok
    | intro _
    | dsimp only
    | with_reducible apply ok_ite
    | split

theorem execMdioGo_ok {s0 : State} {E W : Nat} {rq s} (hE : sub 546 E = true) (hW : sub 77487680020281360761654065098381654796062825881318001309975437209515753531482685285025057556293199741141768470481023795200 W = true) (h : Ok E W s0 s) :
    OkOut E W s0 (execMdioGo rq s) := by
  unfold execMdioGo
  repeat' first
    | exact sub_trans rfl hE | exact sub_trans rfl hW | exact sub_bit hW rfl | with_reducible first | assumption | apply okOut_next | apply okOut_fault | apply State.write_ok | apply wrSwCfg_ok
    | intro _
    | dsimp only
    | with_reducible apply ok_ite
    | split

theorem execMdioDone_ok {s0 : State} {E W : Nat} {data s} (hE : sub 2 E = true) (hW : sub 29551504647295859409209280075107710353809804452849085000961220053184291328622907958560699691163686730604970992730112 W = true) (h : Ok E W s0 s) :
    OkOut E W s0 (execMdioDone data s) := by
  unfold execMdioDone
  repeat' first
    | exact sub_trans rfl hE | exact sub_trans rfl hW | exact sub_bit hW rfl | with_reducible first | assumption | apply okOut_next | apply okOut_fault | apply State.when_ok | apply State.off_ok | apply State.p_ok | apply ws_f_ETH_MDIO_BUSY | apply ws_f_ETH_MDIO_DATA
    | intro _
    | dsimp only
    | with_reducible apply ok_ite
    | split

theorem execStrangerHoldEnd_ok {s0 : State} {E W : Nat} {p s} (hE : sub 8589935104 E = true) (hW : sub 0 W = true) (h : Ok E W s0 s) :
    OkOut E W s0 (execStrangerHoldEnd p s) := by
  unfold execStrangerHoldEnd
  repeat' first
    | exact sub_trans rfl hE | exact sub_trans rfl hW | exact sub_bit hW rfl | with_reducible first | assumption | apply okOut_next | apply okOut_fault | apply State.setEth_ok | apply State.strangerEvent_ok
    | intro _
    | dsimp only
    | with_reducible apply ok_ite
    | split

theorem execStatusSend_ok {s0 : State} {E W : Nat} {s} (hE : sub 8589934594 E = true) (hW : sub 2392032866531905486790942578809394338145620987608332988883503686824375178865503049735849347302782781559365659505280993966754319284558870849446155679614364352181181449680489175268952786542687709822976 W = true) (h : Ok E W s0 s) :
    OkOut E W s0 (execStatusSend s) := by
  unfold execStatusSend
  repeat' first
    | exact sub_trans rfl hE | exact sub_trans rfl hW | exact sub_bit hW rfl | with_reducible first | assumption | apply okOut_next | apply okOut_fault | apply State.each_ok | apply State.enqueue_ok
    | intro _
    | dsimp only
    | with_reducible apply ok_ite
    | split

theorem execPreemptVerifyDone_ok {s0 : State} {E W : Nat} {p ok s} (hE : sub 2 E = true) (hW : sub 10086913586276986678343434265636765134100413253239154346994763111486904773503285916522052161250538404046496765518544896 W = true) (h : Ok E W s0 s) :
    OkOut E W s0 (execPreemptVerifyDone p ok s) := by
  unfold execPreemptVerifyDone
  repeat' first
    | exact sub_trans rfl hE | exact sub_trans rfl hW | exact sub_bit hW rfl | with_reducible first | assumption | apply okOut_next | apply okOut_fault | apply State.p_ok | apply ws_f_ETH_STATUS_VERIFY
    | intro _
    | dsimp only
    | with_reducible apply ok_ite
    | split

end Sys2Proof.Machine
end

