-- ==== Sys2Proof/Laws/KeepCan.lean ====
section
/-! SUPPORT. What the definitions of Machine/Can.lean keep: the queue, and the canonical forms of the register window and of
the memories; one lemma for each. -/

namespace Sys2Proof.Machine

theorem State.setCan_ok {s0 : State} {E W : Nat} {s n x} (hE : sub 34359738368 E = true) (hW : sub 0 W = true) (h : Ok E W s0 s) :
    Ok E W s0 (State.setCan s n x) := by
  unfold State.setCan
  repeat' first
    | exact sub_trans rfl hE | exact sub_trans rfl hW | exact sub_bit hW rfl | with_reducible first | assumption
    | intro _
    | dsimp only
    | with_reducible apply ok_ite
    | ((with_reducible apply ok_mk) <;> first | exact Or.inr (sub_bit hE rfl) | exact Or.inr (Or.inr (sub_bit hE rfl)) | with_reducible first | exact Or.inl rfl | exact rfl | exact Or.inr (Or.inl rfl) | assumption | apply ok_ite)
    | split

theorem State.windowMiss_ok {s0 : State} {E W : Nat} {s n} (hE : sub 34359738882 E = true) (hW : sub 2187250724783011924372502227117621365353169430893212436425770606409952999199375923223513177023053824 W = true) (h : Ok E W s0 s) :
    Ok E W s0 (State.windowMiss s n) := by
  unfold State.windowMiss
  repeat' first
    | exact sub_trans rfl hE | exact sub_trans rfl hW | exact sub_bit hW rfl | with_reducible first | assumption | apply State.raiseSt_ok | apply State.count_ok | apply State.setCan_ok | apply ws_f_CAN_TT_STATUS_MISSED
    | intro _
    | dsimp only
    | with_reducible apply ok_ite
    | split

theorem State.busOff_ok {s0 : State} {E W : Nat} {s n} (hE : sub 34359738898 E = true) (hW : sub 282083787931305187756292554071016476134719665983725456431131182333021892535905842637407430606061568 W = true) (h : Ok E W s0 s) :
    Ok E W s0 (State.busOff s n) := by
  unfold State.busOff
  repeat' first
    | exact sub_trans rfl hE | exact sub_trans rfl hW | exact sub_bit hW rfl | with_reducible first | assumption | apply State.setCan_ok | apply State.took_ok | apply State.p_ok | apply State.raiseSt_ok | apply State.on_ok | apply ws_f_CAN_ERRCNT_TEC | apply ws_f_CAN_STATUS_BUS_OFF_SEEN | apply ws_f_CAN_STATUS_STATE
    | intro _
    | dsimp only
    | with_reducible apply ok_ite
    | split

theorem State.canConfine_ok {s0 : State} {E W : Nat} {s n} (hE : sub 2 E = true) (hW : sub 273406340597876490546562778389702670669146178861651554553221325801244124899921990402939147127881728 W = true) (h : Ok E W s0 s) :
    Ok E W s0 (State.canConfine s n) := by
  unfold State.canConfine
  repeat' first
    | exact sub_trans rfl hE | exact sub_trans rfl hW | exact sub_bit hW rfl | with_reducible first | assumption | apply State.p_ok | apply ws_f_CAN_STATUS_STATE
    | intro _
    | dsimp only
    | with_reducible apply ok_ite
    | split

theorem State.txError_ok {s0 : State} {E W : Nat} {s n e} (hE : sub 34359738898 E = true) (hW : sub 282100475330023319866311265178095925760614999612806367780896393595583003627513503891704484997365760 W = true) (h : Ok E W s0 s) :
    Ok E W s0 (State.txError s n e) := by
  unfold State.txError
  repeat' first
    | exact sub_trans rfl hE | exact sub_trans rfl hW | exact sub_bit hW rfl | with_reducible first | assumption | apply State.p_ok | apply State.busOff_ok | apply State.canConfine_ok | apply ws_f_CAN_ERRCNT_LEC | apply ws_f_CAN_ERRCNT_TEC
    | intro _
    | dsimp only
    | with_reducible apply ok_ite
    | split

theorem State.ttWrite_ok {s0 : State} {E W : Nat} {s n on} (hE : sub 34359738370 E = true) (hW : sub 13123512692397430612290022718259267916931964252173815074229506244090998550742059369968227589333975040 W = true) (h : Ok E W s0 s) :
    Ok E W s0 (State.ttWrite s n on) := by
  unfold State.ttWrite
  repeat' first
    | exact sub_trans rfl hE | exact sub_trans rfl hW | exact sub_bit hW rfl | with_reducible first | assumption | apply State.off_ok | apply State.on_ok | apply State.setCan_ok | apply ws_f_CAN_CTL_TT_EN | apply ws_f_CAN_TT_STATUS_RUNNING | apply ws_f_CAN_TT_STATUS_TT_ERR
    | intro _
    | dsimp only
    | with_reducible apply ok_ite
    | split

theorem State.canEnd_ok {s0 : State} {E W : Nat} {s n} (hE : sub 34359738370 E = true) (hW : sub 19595533242629369747791401605606558418088927130487463844933662202465281465266200982457647235235528838735010358900495684567911298014908298340170885513171109743249504533143507682501017145381579984990109696 W = true) (h : Ok E W s0 s) :
    Ok E W s0 (State.canEnd s n) := by
  unfold State.canEnd
  repeat' first
    | exact sub_trans rfl hE | exact sub_trans rfl hW | exact sub_bit hW rfl | with_reducible first | assumption | apply State.each_ok | apply State.setCan_ok | apply State.wr_ok | apply ws_w_canWord | apply wrF_of_wr
    | intro _
    | dsimp only
    | with_reducible apply ok_ite
    | split

theorem State.canEnter_ok {s0 : State} {E W : Nat} {s n} (hE : sub 34359738370 E = true) (hW : sub 19595533242629369747791401605606558418088927130487463844933662202465281465266200982457647235235528838735317942076630715503033057310040906310275293422742285299081238850373817392456654863413280641164247040 W = true) (h : Ok E W s0 s) :
    Ok E W s0 (State.canEnter s n) := by
  unfold State.canEnter
  repeat' first
    | exact sub_trans rfl hE | exact sub_trans rfl hW | exact sub_bit hW rfl | with_reducible first | assumption | apply State.canEnd_ok | apply State.setCan_ok | apply State.wr_ok | apply State.off_ok | apply State.on_ok | apply ws_f_CAN_CTL_INIT | apply ws_f_CAN_STATUS_FAULT | apply ws_f_CAN_STATUS_STATE | apply ws_r_CAN_ERRCNT | apply wrF_of_wr
    | intro _
    | dsimp only
    | with_reducible apply ok_ite
    | split

theorem State.ebClear_ok {s0 : State} {E W : Nat} {s n b} (hE : sub 34359738370 E = true) (hW : sub 8796093022208 W = true) (h : Ok E W s0 s) :
    Ok E W s0 (State.ebClear s n b) := by
  unfold State.ebClear
  repeat' first
    | exact sub_trans rfl hE | exact sub_trans rfl hW | exact sub_bit hW rfl | with_reducible first | assumption | apply State.wr_ok | apply State.setCan_ok | apply ws_r_CAN_TXB_REQ | apply wrF_of_wr
    | intro _
    | dsimp only
    | with_reducible apply ok_ite
    | split

theorem State.ebAbandon_ok {s0 : State} {E W : Nat} {s n b} (hE : sub 34359738882 E = true) (hW : sub 10995116277760 W = true) (h : Ok E W s0 s) :
    Ok E W s0 (State.ebAbandon s n b) := by
  unfold State.ebAbandon
  repeat' first
    | exact sub_trans rfl hE | exact sub_trans rfl hW | exact sub_bit hW rfl | with_reducible first | assumption | apply State.ebClear_ok | apply State.raiseSt_ok | apply State.wr_ok | apply ws_r_CAN_TXB_ABANDON | apply wrF_of_wr
    | intro _
    | dsimp only
    | with_reducible apply ok_ite
    | split

theorem State.canStart_ok {s0 : State} {E W : Nat} {s n c} (hE : sub 34359738386 E = true) (hW : sub 12247208276643356092369626003504099011305579456554664903083538876540800915791375614036029522022205524209381474312809802854944561259317686462606803445731943589530940333214692301563135715863487490618818560 W = true) (h : Ok E W s0 s) :
    Ok E W s0 (State.canStart s n c) := by
  unfold State.canStart
  repeat' first
    | exact sub_trans rfl hE | exact sub_trans rfl hW | exact sub_bit hW rfl | with_reducible first | assumption | apply State.setCan_ok | apply State.took_ok | apply State.wr_ok | apply ws_w_canEb | apply ws_w_canTt | apply wrF_of_wr
    | intro _
    | dsimp only
    | with_reducible apply ok_ite
    | split

theorem State.canKick_ok {s0 : State} {E W : Nat} {s n} (hE : sub 34359738898 E = true) (hW : sub 12247208276643356092369626003504099011305579456554664903083538876540800915791375614036029522022205524209381474312809802854944561259317686462606803445731943589530940333214692301563135715863498485735096320 W = true) (h : Ok E W s0 s) :
    Ok E W s0 (State.canKick s n) := by
  unfold State.canKick
  repeat' first
    | exact sub_trans rfl hE | exact sub_trans rfl hW | exact sub_bit hW rfl | with_reducible first | assumption | apply State.each_ok | apply State.ebAbandon_ok | apply State.canStart_ok
    | intro _
    | dsimp only
    | with_reducible apply ok_ite
    | split

theorem State.canExit_ok {s0 : State} {E W : Nat} {s n} (hE : sub 34359738898 E = true) (hW : sub 12247208276643356092369626003504099011305579456554664903083538876540800915791375614036029522022205524210218782273853219490500285937580343357132682076847569032309540969184912503512372290300893189713690624 W = true) (h : Ok E W s0 s) :
    Ok E W s0 (State.canExit s n) := by
  unfold State.canExit
  repeat' first
    | exact sub_trans rfl hE | exact sub_trans rfl hW | exact sub_bit hW rfl | with_reducible first | assumption | apply State.on_ok | apply State.p_ok | apply State.off_ok | apply State.when_ok | apply State.raiseSt_ok | apply State.canKick_ok | apply ws_f_CAN_CTL_INIT | apply ws_f_CAN_STATUS_CFG_REFUSED | apply ws_f_CAN_STATUS_STATE | apply ws_f_CAN_STATUS_TRIPLE_IGNORED
    | intro _
    | dsimp only
    | with_reducible apply ok_ite
    | split

theorem wrCanCtl_ok {s0 : State} {E W : Nat} {n v s} (hE : sub 34359738898 E = true) (hW : sub 31842741519272725840161027609110657429394506587042128748017201079006082381057576596493676757257734362958386836699317403444003841161794921590880099708424968803583386610645967221109711036542725277005905920 W = true) (h : Ok E W s0 s) :
    Ok E W s0 (wrCanCtl n v s) := by
  unfold wrCanCtl
  repeat' first
    | exact sub_trans rfl hE | exact sub_trans rfl hW | exact sub_bit hW rfl | with_reducible first | assumption | apply State.on_ok | apply State.p_ok | apply State.when_ok | apply State.ttWrite_ok | apply State.canEnter_ok | apply State.canExit_ok | apply ws_f_CAN_CTL_AUTO_RECOVER | apply ws_f_CAN_CTL_FD_EN | apply ws_f_CAN_CTL_LOOP | apply ws_f_CAN_CTL_RETRY | apply ws_f_CAN_STATUS_CFG_REFUSED
    | intro _
    | dsimp only
    | with_reducible apply ok_ite
    | split

theorem wrCanTiming_ok {s0 : State} {E W : Nat} {n a v s} (hE : sub 2 E = true) (hW : sub allSlots W = true) (h : Ok E W s0 s) :
    Ok E W s0 (wrCanTiming n a v s) := by
  unfold wrCanTiming
  repeat' first
    | exact sub_trans rfl hE | exact sub_trans rfl hW | exact sub_bit hW rfl | with_reducible first | assumption | apply State.merge_ok | apply State.on_ok | apply ws_f_CAN_STATUS_CFG_REFUSED | apply wrF_of_wr | exact wr_any (any_bit hW) _ | exact wrF_any (any_bit hW) _
    | intro _
    | dsimp only
    | with_reducible apply ok_ite
    | split

theorem wrCanCfg_ok {s0 : State} {E W : Nat} {n a v s} (hE : sub 2 E = true) (hW : sub allSlots W = true) (h : Ok E W s0 s) :
    Ok E W s0 (wrCanCfg n a v s) := by
  unfold wrCanCfg
  repeat' first
    | exact sub_trans rfl hE | exact sub_trans rfl hW | exact sub_bit hW rfl | with_reducible first | assumption | apply State.merge_ok | apply State.on_ok | apply ws_f_CAN_STATUS_CFG_REFUSED | apply wrF_of_wr | exact wr_any (any_bit hW) _ | exact wrF_any (any_bit hW) _
    | intro _
    | dsimp only
    | with_reducible apply ok_ite
    | split

theorem State.ebRequest_ok {s0 : State} {E W : Nat} {s n bufs} (hE : sub 34359738882 E = true) (hW : sub 10995116277760 W = true) (h : Ok E W s0 s) :
    Ok E W s0 (State.ebRequest s n bufs) := by
  unfold State.ebRequest
  repeat' first
    | exact sub_trans rfl hE | exact sub_trans rfl hW | exact sub_bit hW rfl | with_reducible first | assumption | apply State.each_ok | apply State.ebAbandon_ok | apply State.wr_ok | apply ws_r_CAN_TXB_REQ | apply wrF_of_wr
    | intro _
    | dsimp only
    | with_reducible apply ok_ite
    | split

theorem wrTxbReq_ok {s0 : State} {E W : Nat} {n v s} (hE : sub 34359738898 E = true) (hW : sub 12247208276643356092369626003504099011305579456554664903083538876540800915791375614036029522022205524209381474312809802854944561259317686462606803445731943589530940333214692301563135715863498485735096320 W = true) (h : Ok E W s0 s) :
    Ok E W s0 (wrTxbReq n v s) := by
  unfold wrTxbReq
  repeat' first
    | exact sub_trans rfl hE | exact sub_trans rfl hW | exact sub_bit hW rfl | with_reducible first | assumption | apply State.canKick_ok | apply State.ebRequest_ok
    | intro _
    | dsimp only
    | with_reducible apply ok_ite
    | split

theorem wrTxbCancel_ok {s0 : State} {E W : Nat} {n v s} (hE : sub 34359738370 E = true) (hW : sub 8796093022208 W = true) (h : Ok E W s0 s) :
    Ok E W s0 (wrTxbCancel n v s) := by
  unfold wrTxbCancel
  repeat' first
    | exact sub_trans rfl hE | exact sub_trans rfl hW | exact sub_bit hW rfl | with_reducible first | assumption | apply State.each_ok | apply State.ebClear_ok
    | intro _
    | dsimp only
    | with_reducible apply ok_ite
    | split

theorem wrRxqCfg_ok {s0 : State} {E W : Nat} {n q v s} (hE : sub 2 E = true) (hW : sub 17087896287367280659160173649356416916821636178853222159576332862577757806245124400184796207120384 W = true) (h : Ok E W s0 s) :
    Ok E W s0 (wrRxqCfg n q v s) := by
  unfold wrRxqCfg
  repeat' first
    | exact sub_trans rfl hE | exact sub_trans rfl hW | exact sub_bit hW rfl | with_reducible first | assumption | apply State.merge_ok | apply State.on_ok | apply ws_f_CAN_STATUS_CFG_REFUSED | apply ws_r_CAN_RXQ_CFG | apply wrF_of_wr
    | intro _
    | dsimp only
    | with_reducible apply ok_ite
    | split

theorem State.clearNew_ok {s0 : State} {E W : Nat} {s n q i} (hE : sub 2 E = true) (hW : sub 4898883310657342436947850401401639604522231782621865961233415550616320366316550245614411808808882209683752589725123921141977824503727074585042721378292777435812376133285876920625254286345394996247527424 W = true) (h : Ok E W s0 s) :
    Ok E W s0 (State.clearNew s n q i) := by
  unfold State.clearNew
  repeat' first
    | exact sub_trans rfl hE | exact sub_trans rfl hW | exact sub_bit hW rfl | with_reducible first | assumption | apply State.wr_ok | apply ws_w_canRx | apply wrF_of_wr
    | intro _
    | dsimp only
    | with_reducible apply ok_ite
    | split

theorem State.unlockRx_ok {s0 : State} {E W : Nat} {s n q} (hE : sub 2 E = true) (hW : sub 1067993517960455041197510853084776057301352261178326384973520803911109862890320275011481043468288 W = true) (h : Ok E W s0 s) :
    Ok E W s0 (State.unlockRx s n q) := by
  unfold State.unlockRx
  repeat' first
    | exact sub_trans rfl hE | exact sub_trans rfl hW | exact sub_bit hW rfl | with_reducible first | assumption | apply State.off_ok | apply ws_f_CAN_RXQ_STATUS_LOCKED
    | intro _
    | dsimp only
    | with_reducible apply ok_ite
    | split

theorem wrRxqAck_ok {s0 : State} {E W : Nat} {n q v s} (hE : sub 2 E = true) (hW : sub 4898883310657342436947850401401639604522231782621865961233415550616320366316550245614411808808882209683754458713780351938299920147719972943142998744749839506986079794692721362885312346826665088073596928 W = true) (h : Ok E W s0 s) :
    Ok E W s0 (wrRxqAck n q v s) := by
  unfold wrRxqAck
  repeat' first
    | exact sub_trans rfl hE | exact sub_trans rfl hW | exact sub_bit hW rfl | with_reducible first | assumption | apply State.each_ok | apply State.when_ok | apply State.clearNew_ok | apply State.unlockRx_ok | apply State.p_ok | apply ws_f_CAN_RXQ_STATUS_GET | apply ws_f_CAN_RXQ_STATUS_LEVEL
    | intro _
    | dsimp only
    | with_reducible apply ok_ite
    | split

theorem wrCanReg_ok {s0 : State} {E W : Nat} {n off v s} (hE : sub 34359738898 E = true) (hW : sub allSlots W = true) (h : Ok E W s0 s) :
    Ok E W s0 (wrCanReg n off v s) := by
  unfold wrCanReg
  repeat' first
    | exact sub_trans rfl hE | exact sub_trans rfl hW | exact sub_bit hW rfl | with_reducible first | assumption | apply wrCanCtl_ok | apply wrCanTiming_ok | apply wrCanCfg_ok | apply wrTxbReq_ok | apply wrTxbCancel_ok | apply wrRxqCfg_ok | apply wrRxqAck_ok | apply State.merge_ok | apply wrF_of_wr | exact wr_any (any_bit hW) _ | exact wrF_any (any_bit hW) _
    | intro _
    | dsimp only
    | with_reducible apply ok_ite
    | split

theorem State.txGood_ok {s0 : State} {E W : Nat} {s n} (hE : sub 2 E = true) (hW : sub 273556527186339679536731178353417717302204181523379756701108227164294124724390941691612636649619456 W = true) (h : Ok E W s0 s) :
    Ok E W s0 (State.txGood s n) := by
  unfold State.txGood
  repeat' first
    | exact sub_trans rfl hE | exact sub_trans rfl hW | exact sub_bit hW rfl | with_reducible first | assumption | apply State.canConfine_ok | apply State.off_ok | apply State.p_ok | apply ws_f_CAN_ERRCNT_LEC | apply ws_f_CAN_ERRCNT_TEC
    | intro _
    | dsimp only
    | with_reducible apply ok_ite
    | split

theorem State.rxWrite_ok {s0 : State} {E W : Nat} {s n q i flt f sof} (hE : sub 18 E = true) (hW : sub 4898883310657342436947850401401639604522231782621865961233415550616320366316550245614411808808882209683752589725123921141977824503727074585042721378292777435812376133285876920625254286345394996247527424 W = true) (h : Ok E W s0 s) :
    Ok E W s0 (State.rxWrite s n q i flt f sof) := by
  unfold State.rxWrite
  repeat' first
    | exact sub_trans rfl hE | exact sub_trans rfl hW | exact sub_bit hW rfl | with_reducible first | assumption | apply State.wr_ok | apply State.each_ok | apply ws_w_canRx | apply wrF_of_wr
    | intro _
    | dsimp only
    | with_reducible apply ok_ite
    | ((with_reducible apply ok_mk) <;> first | exact Or.inr (sub_bit hE rfl) | exact Or.inr (Or.inr (sub_bit hE rfl)) | with_reducible first | exact Or.inl rfl | exact rfl | exact Or.inr (Or.inl rfl) | assumption | apply ok_ite | apply State.wr_ok | apply State.each_ok | apply ws_w_canRx | apply wrF_of_wr)
    | split

theorem State.rxStore_ok {s0 : State} {E W : Nat} {s n q flt f sof} (hE : sub 530 E = true) (hW : sub 4898883310657342436947850401401639604522231782621865961233415550616320366316550245614411808808882209683757662889889687031534176962050013358615206262474340278070880418173937830494588084932023324810149888 W = true) (h : Ok E W s0 s) :
    Ok E W s0 (State.rxStore s n q flt f sof) := by
  unfold State.rxStore
  repeat' first
    | exact sub_trans rfl hE | exact sub_trans rfl hW | exact sub_bit hW rfl | with_reducible first | assumption | apply State.raiseSt_ok | apply State.count_ok | apply State.p_ok | apply State.rxWrite_ok | apply ws_f_CAN_COUNT_LOST | apply ws_f_CAN_COUNT_TOO_LONG | apply ws_f_CAN_RXQ_STATUS_GET | apply ws_f_CAN_RXQ_STATUS_LEVEL | apply ws_f_CAN_RXQ_STATUS_PUT
    | intro _
    | dsimp only
    | with_reducible apply ok_ite
    | split

theorem State.canAccept_ok {s0 : State} {E W : Nat} {s n f sof} (hE : sub 530 E = true) (hW : sub 4898883310657342436947850401401639604522231782621865961233415550616320366316550245614411808808882209683757662889889687031534176962050013358615206262474340278070880418173937830494588084932023324810149888 W = true) (h : Ok E W s0 s) :
    Ok E W s0 (State.canAccept s n f sof) := by
  unfold State.canAccept
  repeat' first
    | exact sub_trans rfl hE | exact sub_trans rfl hW | exact sub_bit hW rfl | with_reducible first | assumption | apply State.rxStore_ok
    | intro _
    | dsimp only
    | with_reducible apply ok_ite
    | split

theorem execCanFrameSent_ok {s0 : State} {E W : Nat} {c s} (hE : sub 34359738930 E = true) (hW : sub 36741624829930068277108878010512297033916738369663994709250616629622402747374126842108088566066616572628423052630381514133926767414629415878695099402900773367552433511696431939283131887868718830231486464 W = true) (h : Ok E W s0 s) :
    OkOut E W s0 (execCanFrameSent c s) := by
  unfold execCanFrameSent
  repeat' first
    | exact sub_trans rfl hE | exact sub_trans rfl hW | exact sub_bit hW rfl | with_reducible first | assumption | apply okOut_next | apply okOut_fault | apply State.txGood_ok | apply State.wr_ok | apply State.ebClear_ok | apply State.when_ok | apply State.emit_ok | apply State.canAccept_ok | apply State.canEnd_ok | apply State.canKick_ok | apply State.setCan_ok | apply ws_r_CAN_TXB_DONE | apply wrF_of_wr
    | intro _
    | dsimp only
    | with_reducible apply ok_ite
    | split

theorem State.setRec_ok {s0 : State} {E W : Nat} {s n x} (hE : sub 2 E = true) (hW : sub 100124392308792660112266642476697755372001774485468098591267575366666549645967525782326347825152 W = true) (h : Ok E W s0 s) :
    Ok E W s0 (State.setRec s n x) := by
  unfold State.setRec
  repeat' first
    | exact sub_trans rfl hE | exact sub_trans rfl hW | exact sub_bit hW rfl | with_reducible first | assumption | apply State.p_ok | apply ws_f_CAN_ERRCNT_REC | apply ws_f_CAN_ERRCNT_RP
    | intro _
    | dsimp only
    | with_reducible apply ok_ite
    | split

theorem State.rxError_ok {s0 : State} {E W : Nat} {s n e} (hE : sub 2 E = true) (hW : sub 273523152388903415316693756139258818050413514265217934001577804639171902541175619183018527867011072 W = true) (h : Ok E W s0 s) :
    Ok E W s0 (State.rxError s n e) := by
  unfold State.rxError
  repeat' first
    | exact sub_trans rfl hE | exact sub_trans rfl hW | exact sub_bit hW rfl | with_reducible first | assumption | apply State.p_ok | apply State.canConfine_ok | apply State.setRec_ok | apply ws_f_CAN_ERRCNT_LEC
    | intro _
    | dsimp only
    | with_reducible apply ok_ite
    | split

theorem State.rxGood_ok {s0 : State} {E W : Nat} {s n} (hE : sub 18 E = true) (hW : sub 273523152388903415316693756139258818050413514265217934001577804639171902541175619183018527867011072 W = true) (h : Ok E W s0 s) :
    Ok E W s0 (State.rxGood s n) := by
  unfold State.rxGood
  repeat' first
    | exact sub_trans rfl hE | exact sub_trans rfl hW | exact sub_bit hW rfl | with_reducible first | assumption | apply State.off_ok | apply State.took_ok | apply State.setRec_ok | apply State.canConfine_ok | apply ws_f_CAN_ERRCNT_LEC
    | intro _
    | dsimp only
    | with_reducible apply ok_ite
    | split

theorem execCanFrameReceived_ok {s0 : State} {E W : Nat} {c f sof err s} (hE : sub 34359747090 E = true) (hW : sub 17146091587300698529317476404905738615827811239176530864316954427157121282107925859650441330831381301716259389508574578376394099105928918957885963206309913173044924684167128090031861794776636426291249152 W = true) (h : Ok E W s0 s) :
    OkOut E W s0 (execCanFrameReceived c f sof err s) := by
  unfold execCanFrameReceived
  repeat' first
    | exact sub_trans rfl hE | exact sub_trans rfl hW | exact sub_bit hW rfl | with_reducible first | assumption | apply okOut_next | apply okOut_fault | apply State.rxError_ok | apply State.canAccept_ok | apply State.when_ok | apply State.rxGood_ok | apply State.trimFrame_ok | apply State.canKick_ok | apply State.setCan_ok
    | intro _
    | dsimp only
    | with_reducible apply ok_ite
    | split

theorem execExclusiveWindowMissed_ok {s0 : State} {E W : Nat} {c s} (hE : sub 34359738882 E = true) (hW : sub 2187250724783011924372502227117621365353169430893212436425770606409952999199375923223513177023053824 W = true) (h : Ok E W s0 s) :
    OkOut E W s0 (execExclusiveWindowMissed c s) := by
  unfold execExclusiveWindowMissed
  repeat' first
    | exact sub_trans rfl hE | exact sub_trans rfl hW | exact sub_bit hW rfl | with_reducible first | assumption | apply okOut_next | apply okOut_fault | apply State.windowMiss_ok
    | intro _
    | dsimp only
    | with_reducible apply ok_ite
    | split

theorem execLockTimeout_ok {s0 : State} {E W : Nat} {c q s} (hE : sub 2 E = true) (hW : sub 137771163816898700314478900047936111391874441692004103661584183704533172312851315476481054607409152 W = true) (h : Ok E W s0 s) :
    OkOut E W s0 (execLockTimeout c q s) := by
  unfold execLockTimeout
  repeat' first
    | exact sub_trans rfl hE | exact sub_trans rfl hW | exact sub_bit hW rfl | with_reducible first | assumption | apply okOut_next | apply okOut_fault | apply State.on_ok | apply State.unlockRx_ok | apply ws_f_CAN_STATUS_LOCK_TMO_SEEN
    | intro _
    | dsimp only
    | with_reducible apply ok_ite
    | split

theorem wrCanRam_ok {s0 : State} {E W : Nat} {n off v s} (hE : sub 34359738370 E = true) (hW : sub 19595533242629369747791401605606558418088927130487463844933662202465281465266200982457647235235528838743759361799627732265401306923378783801583563236743959488952586958783319679298520838275632693082324992 W = true) (h : Ok E W s0 s) :
    Ok E W s0 (wrCanRam n off v s) := by
  unfold wrCanRam
  repeat' first
    | exact sub_trans rfl hE | exact sub_trans rfl hW | exact sub_bit hW rfl | with_reducible first | assumption | apply State.when_ok | apply State.wr_ok | apply State.setCan_ok | apply State.on_ok | apply ws_f_CAN_TT_STATUS_TT_ERR | apply ws_w_canWord | apply wrF_of_wr
    | intro _
    | dsimp only
    | with_reducible apply ok_ite
    | split

theorem execNewClear_ok {s0 : State} {E W : Nat} {rq c q i s} (hE : sub 34359738882 E = true) (hW : sub 19595533242629369747791401605606558418088927130487463844933662202465281465266201059925143577842786528421334521889983962156575091800084168721364259456172619994188425848143918083433463943040907986071453696 W = true) (h : Ok E W s0 s) :
    OkOut E W s0 (execNewClear rq c q i s) := by
  unfold execNewClear
  repeat' first
    | exact sub_trans rfl hE | exact sub_trans rfl hW | exact sub_bit hW rfl | with_reducible first | assumption | apply okOut_next | apply okOut_fault | apply State.write_ok | apply wrCanRam_ok
    | intro _
    | dsimp only
    | with_reducible apply ok_ite
    | split

theorem State.canFault_ok {s0 : State} {E W : Nat} {s n} (hE : sub 34359738370 E = true) (hW : sub 19595533242629369747791401605606558418088927130487463844933662202465281465266200982457647235235528838735044534693070419129229618362207011174004528785528816187568657198868663198113507394181947378381094912 W = true) (h : Ok E W s0 s) :
    Ok E W s0 (State.canFault s n) := by
  unfold State.canFault
  repeat' first
    | exact sub_trans rfl hE | exact sub_trans rfl hW | exact sub_bit hW rfl | with_reducible first | assumption | apply State.canEnd_ok | apply State.setCan_ok | apply State.on_ok | apply ws_f_CAN_STATUS_FAULT
    | intro _
    | dsimp only
    | with_reducible apply ok_ite
    | split

theorem State.canCellFault_ok {s0 : State} {E W : Nat} {s n} (hE : sub 34359738882 E = true) (hW : sub 19595533242629369747791401605606558418088927130487463844933662202465281465266200982457647235235528838735044534693070419129229618362207011174004528785528816187568657198868663198113507394181947378381094912 W = true) (h : Ok E W s0 s) :
    Ok E W s0 (State.canCellFault s n) := by
  unfold State.canCellFault
  repeat' first
    | exact sub_trans rfl hE | exact sub_trans rfl hW | exact sub_bit hW rfl | with_reducible first | assumption | apply State.raiseSt_ok | apply State.canFault_ok
    | intro _
    | dsimp only
    | with_reducible apply ok_ite
    | split

theorem execTxbCancel_ok {s0 : State} {E W : Nat} {rq c bufs s} (hE : sub 34359738882 E = true) (hW : sub 77467496342607257689677575160090356229891173784876705384919780696219428660505235838889360598404134943104765284089082150912 W = true) (h : Ok E W s0 s) :
    OkOut E W s0 (execTxbCancel rq c bufs s) := by
  unfold execTxbCancel
  repeat' first
    | exact sub_trans rfl hE | exact sub_trans rfl hW | exact sub_bit hW rfl | with_reducible first | assumption | apply okOut_next | apply okOut_fault | apply State.write_ok | apply wrTxbCancel_ok
    | intro _
    | dsimp only
    | with_reducible apply ok_ite
    | split

theorem State.canClusterFault_ok {s0 : State} {E W : Nat} {s} (hE : sub 34359738882 E = true) (hW : sub 19595533242629369747791401605606558418088927130487463844933662202651352178685876346438274130054857999529576723029023842561291109352450668931034397157033725170292129982423868729317648945166805395306446848 W = true) (h : Ok E W s0 s) :
    Ok E W s0 (State.canClusterFault s) := by
  unfold State.canClusterFault
  repeat' first
    | exact sub_trans rfl hE | exact sub_trans rfl hW | exact sub_bit hW rfl | with_reducible first | assumption | apply State.p_ok | apply State.each_ok | apply State.canCellFault_ok | apply ws_f_GLB_REGION_STATE_CLUSTER_FAULT_SEEN
    | intro _
    | dsimp only
    | with_reducible apply ok_ite
    | split

theorem execCanBasicCycle_ok {s0 : State} {E W : Nat} {c s} (hE : sub 34359738898 E = true) (hW : sub 12247208276643356092369626003504099011305579456554664903083538876540800915791375614036029522022205524217036851849550344590248319054229361241342896453858187117021137455649527798760951447145794605315784704 W = true) (h : Ok E W s0 s) :
    OkOut E W s0 (execCanBasicCycle c s) := by
  unfold execCanBasicCycle
  repeat' first
    | exact sub_trans rfl hE | exact sub_trans rfl hW | exact sub_bit hW rfl | with_reducible first | assumption | apply okOut_next | apply okOut_fault | apply State.windowMiss_ok | apply State.setCan_ok | apply State.canKick_ok | apply State.off_ok | apply State.p_ok | apply ws_f_CAN_TT_STATUS_CYCLE_CNT | apply ws_f_CAN_TT_STATUS_RUNNING
    | intro _
    | dsimp only
    | with_reducible apply ok_ite
    | split

theorem State.rxTouch_ok {s0 : State} {E W : Nat} {s n q i w} (hE : sub 34359738370 E = true) (hW : sub 3203980553881365123592532559254328171904056783534979154920562411733329588670960825034443130404864 W = true) (h : Ok E W s0 s) :
    Ok E W s0 (State.rxTouch s n q i w) := by
  unfold State.rxTouch
  repeat' first
    | exact sub_trans rfl hE | exact sub_trans rfl hW | exact sub_bit hW rfl | with_reducible first | assumption | apply State.p_ok | apply State.on_ok | apply State.setCan_ok | apply State.unlockRx_ok | apply ws_f_CAN_RXQ_STATUS_LOCKED | apply ws_f_CAN_RXQ_STATUS_LOCK_IDX
    | intro _
    | dsimp only
    | with_reducible apply ok_ite
    | split

theorem State.canRead_ok {s0 : State} {E W : Nat} {s rq n off} (hE : sub 34368127010 E = true) (hW : sub 3203980553881365123592532559254328171904056783534979154920562411733329588670960825034443130404864 W = true) (h : Ok E W s0 s) :
    Ok E W s0 (State.canRead s rq n off) := by
  unfold State.canRead
  repeat' first
    | exact sub_trans rfl hE | exact sub_trans rfl hW | exact sub_bit hW rfl | with_reducible first | assumption | apply State.readAbort_ok | apply State.emit_ok | apply State.rxTouch_ok
    | intro _
    | dsimp only
    | with_reducible apply ok_ite
    | split

theorem execTtEnable_ok {s0 : State} {E W : Nat} {rq c s} (hE : sub 34359738898 E = true) (hW : sub 31842741519272725840161027609110657429394506587042128748017201079006082381057576673961173099864992052635961996789673633335177626038500306510660795927853629308819225500006565625244654141308000569995034624 W = true) (h : Ok E W s0 s) :
    OkOut E W s0 (execTtEnable rq c s) := by
  unfold execTtEnable
  repeat' first
    | exact sub_trans rfl hE | exact sub_trans rfl hW | exact sub_bit hW rfl | with_reducible first | assumption | apply okOut_next | apply okOut_fault | apply State.write_ok | apply wrCanCtl_ok
    | intro _
    | dsimp only
    | with_reducible apply ok_ite
    | split

theorem State.canSees_ok {s0 : State} {E W : Nat} {s n idle} (hE : sub 34359738368 E = true) (hW : sub 0 W = true) (h : Ok E W s0 s) :
    Ok E W s0 (State.canSees s n idle) := by
  unfold State.canSees
  repeat' first
    | exact sub_trans rfl hE | exact sub_trans rfl hW | exact sub_bit hW rfl | with_reducible first | assumption | apply State.setCan_ok
    | intro _
    | dsimp only
    | with_reducible apply ok_ite
    | split

theorem execCanInitExit_ok {s0 : State} {E W : Nat} {rq c idle s} (hE : sub 34359738898 E = true) (hW : sub 31842741519272725840161027609110657429394506587042128748017201079006082381057576673961173099864992052635961996789673633335177626038500306510660795927853629308819225500006565625244654141308000569995034624 W = true) (h : Ok E W s0 s) :
    OkOut E W s0 (execCanInitExit rq c idle s) := by
  unfold execCanInitExit
  repeat' first
    | exact sub_trans rfl hE | exact sub_trans rfl hW | exact sub_bit hW rfl | with_reducible first | assumption | apply okOut_next | apply okOut_fault | apply State.write_ok | apply wrCanCtl_ok | apply State.canSees_ok
    | intro _
    | dsimp only
    | with_reducible apply ok_ite
    | split

theorem State.windowUse_ok {s0 : State} {E W : Nat} {s n buf kind} (hE : sub 34359738898 E = true) (hW : sub 12247208276643356092369626003504099011305579456554664903083538876540800915791375614036029522022205524209381474312809802854944561259317686462606803445731943589530940333214692301563135715863498485735096320 W = true) (h : Ok E W s0 s) :
    Ok E W s0 (State.windowUse s n buf kind) := by
  unfold State.windowUse
  repeat' first
    | exact sub_trans rfl hE | exact sub_trans rfl hW | exact sub_bit hW rfl | with_reducible first | assumption | apply State.raiseSt_ok | apply State.canStart_ok | apply State.setCan_ok | apply State.when_ok | apply State.canKick_ok
    | intro _
    | dsimp only
    | with_reducible apply ok_ite
    | split

theorem execCanWindowStart_ok {s0 : State} {E W : Nat} {c idle s} (hE : sub 34359738898 E = true) (hW : sub 12247208276643356092369626003504099011305579456554664903083538876540800915791375614036029522022205524229066730835856910174297081303376278750785328323770855517362875790904269294357519024875117078942580736 W = true) (h : Ok E W s0 s) :
    OkOut E W s0 (execCanWindowStart c idle s) := by
  unfold execCanWindowStart
  repeat' first
    | exact sub_trans rfl hE | exact sub_trans rfl hW | exact sub_bit hW rfl | with_reducible first | assumption | apply okOut_next | apply okOut_fault | apply State.p_ok | apply State.canSees_ok | apply State.windowMiss_ok | apply State.setCan_ok | apply State.windowUse_ok | apply ws_f_CAN_TT_STATUS_WINDOW
    | intro _
    | dsimp only
    | with_reducible apply ok_ite
    | split

theorem execRxElementLock_ok {s0 : State} {E W : Nat} {rq c q i s} (hE : sub 34368127010 E = true) (hW : sub 3203980553881365123592532559254328171904056783534979154920562411733329588670960825034443130404864 W = true) (h : Ok E W s0 s) :
    OkOut E W s0 (execRxElementLock rq c q i s) := by
  unfold execRxElementLock
  repeat' first
    | exact sub_trans rfl hE | exact sub_trans rfl hW | exact sub_bit hW rfl | with_reducible first | assumption | apply okOut_next | apply okOut_fault | apply State.canRead_ok
    | intro _
    | dsimp only
    | with_reducible apply ok_ite
    | split

theorem execCanCellFault_ok {s0 : State} {E W : Nat} {c s} (hE : sub 34359738882 E = true) (hW : sub 19595533242629369747791401605606558418088927130487463844933662202465281465266200982457647235235528838735044534693070419129229618362207011174004528785528816187568657198868663198113507394181947378381094912 W = true) (h : Ok E W s0 s) :
    OkOut E W s0 (execCanCellFault c s) := by
  unfold execCanCellFault
  repeat' first
    | exact sub_trans rfl hE | exact sub_trans rfl hW | exact sub_bit hW rfl | with_reducible first | assumption | apply okOut_next | apply okOut_fault | apply State.canCellFault_ok
    | intro _
    | dsimp only
    | with_reducible apply ok_ite
    | split

theorem execRxqAck_ok {s0 : State} {E W : Nat} {rq c q n s} (hE : sub 514 E = true) (hW : sub 4898883310657342436947850401401639604522231782621865961233415550616320366316550323081908151416139899361329618804136581829473705024425357862923694964178500012221918684053319767020255451591940381062725632 W = true) (h : Ok E W s0 s) :
    OkOut E W s0 (execRxqAck rq c q n s) := by
  unfold execRxqAck
  repeat' first
    | exact sub_trans rfl hE | exact sub_trans rfl hW | exact sub_bit hW rfl | with_reducible first | assumption | apply okOut_next | apply okOut_fault | apply State.write_ok | apply wrRxqAck_ok
    | intro _
    | dsimp only
    | with_reducible apply ok_ite
    | split

theorem execBusOffRecovery_ok {s0 : State} {E W : Nat} {c s} (hE : sub 34359738898 E = true) (hW : sub 12247208276643356092369626003504099011305579456554664903083538876540800915791375614036029522022205524209654880653407679345491124037707389133275949624593595144084161659015936426463057706266438182618791936 W = true) (h : Ok E W s0 s) :
    OkOut E W s0 (execBusOffRecovery c s) := by
  unfold execBusOffRecovery
  repeat' first
    | exact sub_trans rfl hE | exact sub_trans rfl hW | exact sub_bit hW rfl | with_reducible first | assumption | apply okOut_next | apply okOut_fault | apply State.wr_ok | apply State.p_ok | apply State.canKick_ok | apply State.setCan_ok | apply ws_f_CAN_STATUS_STATE | apply ws_r_CAN_ERRCNT | apply wrF_of_wr
    | intro _
    | dsimp only
    | with_reducible apply ok_ite
    | split

theorem execCanLaunch_ok {s0 : State} {E W : Nat} {c idle s} (hE : sub 34359739154 E = true) (hW : sub 12247208276643356092369626003504099011305579456554664903083538876540800915791375614036029522022205524209449825897959271977581201953915112130274089990447356478169245664665003332788116213464233272517066752 W = true) (h : Ok E W s0 s) :
    OkOut E W s0 (execCanLaunch c idle s) := by
  unfold execCanLaunch
  repeat' first
    | exact sub_trans rfl hE | exact sub_trans rfl hW | exact sub_bit hW rfl | with_reducible first | assumption | apply okOut_next | apply okOut_fault | apply State.act_ok | apply State.canSees_ok | apply State.on_ok | apply State.ebRequest_ok | apply State.when_ok | apply State.setCan_ok | apply State.canKick_ok | apply ws_f_CAN_STATUS_LAUNCH_MERGED
    | intro _
    | dsimp only
    | with_reducible apply ok_ite
    | split

theorem execRxElementRelease_ok {s0 : State} {E W : Nat} {rq c q i s} (hE : sub 34368127010 E = true) (hW : sub 3203980553881365123592532559254328171904056783534979154920562411733329588670960825034443130404864 W = true) (h : Ok E W s0 s) :
    OkOut E W s0 (execRxElementRelease rq c q i s) := by
  unfold execRxElementRelease
  repeat' first
    | exact sub_trans rfl hE | exact sub_trans rfl hW | exact sub_bit hW rfl | with_reducible first | assumption | apply okOut_next | apply okOut_fault | apply State.canRead_ok
    | intro _
    | dsimp only
    | with_reducible apply ok_ite
    | split

theorem execCanInitEnter_ok {s0 : State} {E W : Nat} {rq c s} (hE : sub 34359738898 E = true) (hW : sub 31842741519272725840161027609110657429394506587042128748017201079006082381057576673961173099864992052635961996789673633335177626038500306510660795927853629308819225500006565625244654141308000569995034624 W = true) (h : Ok E W s0 s) :
    OkOut E W s0 (execCanInitEnter rq c s) := by
  unfold execCanInitEnter
  repeat' first
    | exact sub_trans rfl hE | exact sub_trans rfl hW | exact sub_bit hW rfl | with_reducible first | assumption | apply okOut_next | apply okOut_fault | apply State.write_ok | apply wrCanCtl_ok
    | intro _
    | dsimp only
    | with_reducible apply ok_ite
    | split

theorem execTxbReq_ok {s0 : State} {E W : Nat} {rq c bufs idle s} (hE : sub 34359738898 E = true) (hW : sub 12247208276643356092369626003504099011305579456554664903083538876540800915791375691503525864629463213886956634403166032746118346136023071382387499665160604094766779222575290705698078820628773778724225024 W = true) (h : Ok E W s0 s) :
    OkOut E W s0 (execTxbReq rq c bufs idle s) := by
  unfold execTxbReq
  repeat' first
    | exact sub_trans rfl hE | exact sub_trans rfl hW | exact sub_bit hW rfl | with_reducible first | assumption | apply okOut_next | apply okOut_fault | apply State.write_ok | apply wrTxbReq_ok | apply State.canSees_ok
    | intro _
    | dsimp only
    | with_reducible apply ok_ite
    | split

theorem execTtDisable_ok {s0 : State} {E W : Nat} {rq c s} (hE : sub 34359738898 E = true) (hW : sub 31842741519272725840161027609110657429394506587042128748017201079006082381057576673961173099864992052635961996789673633335177626038500306510660795927853629308819225500006565625244654141308000569995034624 W = true) (h : Ok E W s0 s) :
    OkOut E W s0 (execTtDisable rq c s) := by
  unfold execTtDisable
  repeat' first
    | exact sub_trans rfl hE | exact sub_trans rfl hW | exact sub_bit hW rfl | with_reducible first | assumption | apply okOut_next | apply okOut_fault | apply State.write_ok | apply wrCanCtl_ok
    | intro _
    | dsimp only
    | with_reducible apply ok_ite
    | split

theorem execCanTxFailure_ok {s0 : State} {E W : Nat} {c err s} (hE : sub 34359738898 E = true) (hW : sub 31842741519272725840161027609110657429394506587042128748017201079006082381057576596493676757257734362944673933688635510742722170539404080728538303958515859700561341259953782987691666365136782955722571776 W = true) (h : Ok E W s0 s) :
    OkOut E W s0 (execCanTxFailure c err s) := by
  unfold execCanTxFailure
  repeat' first
    | exact sub_trans rfl hE | exact sub_trans rfl hW | exact sub_bit hW rfl | with_reducible first | assumption | apply okOut_next | apply okOut_fault | apply State.txError_ok | apply State.ebAbandon_ok | apply State.setCan_ok | apply State.canEnd_ok | apply State.canKick_ok
    | intro _
    | dsimp only
    | with_reducible apply ok_ite
    | split

end Sys2Proof.Machine
end

