-- ==== Sys2Proof/Laws/KeepField.lean ====
section
/-! SUPPORT. What the definitions of Machine/Field.lean keep: the queue, and the canonical forms of the register window and of
the memories; one lemma for each. -/

namespace Sys2Proof.Machine

theorem State.toField_ok {s0 : State} {E W : Nat} {s rq a k} (hE : sub 514 E = true) (hW : sub 77467496342607257689677575160090356229891173784876705384919780696219428660505235838889360598404134943104765275292989128704 W = true) (h : Ok E W s0 s) (hk : ∀ t, Ok E W s0 t → Ok E W s0 (k t)) :
    Ok E W s0 (State.toField s rq a k) := by
  unfold State.toField
  repeat' first
    | exact sub_trans rfl hE | exact sub_trans rfl hW | exact sub_bit hW rfl | with_reducible first | assumption | apply hk | apply State.logDropped_ok
    | intro _
    | dsimp only
    | with_reducible apply ok_ite
    | split

theorem State.regWrites_ok {s0 : State} {E W : Nat} {s out clr} (hE : sub 68719476736 E = true) (hW : sub 0 W = true) (h : Ok E W s0 s) :
    Ok E W s0 (State.regWrites s out clr) := by
  unfold State.regWrites
  repeat' first
    | exact sub_trans rfl hE | exact sub_trans rfl hW | exact sub_bit hW rfl | with_reducible first | assumption
    | intro _
    | dsimp only
    | with_reducible apply ok_ite
    | ((with_reducible apply ok_mk) <;> first | exact Or.inr (sub_bit hE rfl) | exact Or.inr (Or.inr (sub_bit hE rfl)) | with_reducible first | exact Or.inl rfl | exact rfl | exact Or.inr (Or.inl rfl) | assumption | apply ok_ite)
    | split

theorem State.fieldOuts_ok {s0 : State} {E W : Nat} {s} (hE : sub 68719480834 E = true) (hW : sub 1322111937580497197903830616065542079656809365928562438569297590548811582472622691650378420879430569732961355913003878318080 W = true) (h : Ok E W s0 s) :
    Ok E W s0 (State.fieldOuts s) := by
  unfold State.fieldOuts
  repeat' first
    | exact sub_trans rfl hE | exact sub_trans rfl hW | exact sub_bit hW rfl | with_reducible first | assumption | apply State.each_ok | apply State.when_ok | apply State.p_ok | apply State.addLife_ok | apply State.wr_ok | apply ws_f_FIO_CH_STATUS_LEVEL | apply ws_r_FIO_OUT_RB | apply wrF_of_wr
    | intro _
    | dsimp only
    | with_reducible apply ok_ite
    | ((with_reducible apply ok_mk) <;> first | exact Or.inr (sub_bit hE rfl) | exact Or.inr (Or.inr (sub_bit hE rfl)) | with_reducible first | exact Or.inl rfl | exact rfl | exact Or.inr (Or.inl rfl) | assumption | apply ok_ite | apply State.each_ok | apply State.when_ok | apply State.p_ok | apply State.addLife_ok | apply State.wr_ok | apply ws_f_FIO_CH_STATUS_LEVEL | apply ws_r_FIO_OUT_RB | apply wrF_of_wr)
    | split

theorem State.setFieldOut_ok {s0 : State} {E W : Nat} {s v} (hE : sub 68719480834 E = true) (hW : sub 1322111937580497197903830616065542079656809365928562438569297590548811582472622691650378420879430569737683722395873523531776 W = true) (h : Ok E W s0 s) :
    Ok E W s0 (State.setFieldOut s v) := by
  unfold State.setFieldOut
  repeat' first
    | exact sub_trans rfl hE | exact sub_trans rfl hW | exact sub_bit hW rfl | with_reducible first | assumption | apply State.fieldOuts_ok | apply State.wr_ok | apply ws_r_FIO_OUT | apply wrF_of_wr
    | intro _
    | dsimp only
    | with_reducible apply ok_ite
    | split

theorem wrFioOut_ok {s0 : State} {E W : Nat} {rq f v s} (hE : sub 68719480834 E = true) (hW : sub 1322111937580497197903830616065542079656809365928562438569297590548811582472622691650378420879430569737683722395873523531776 W = true) (h : Ok E W s0 s) :
    Ok E W s0 (wrFioOut rq f v s) := by
  unfold wrFioOut
  repeat' first
    | exact sub_trans rfl hE | exact sub_trans rfl hW | exact sub_bit hW rfl | with_reducible first | assumption | apply State.regWrites_ok | apply State.setFieldOut_ok
    | intro _
    | dsimp only
    | with_reducible apply ok_ite
    | split

theorem execFioOut_ok {s0 : State} {E W : Nat} {rq v s} (hE : sub 68719481346 E = true) (hW : sub 1399579433923104455593508191225632435886700539713439143954217371245031011133127927489267781477834704680788487671166512660480 W = true) (h : Ok E W s0 s) :
    OkOut E W s0 (execFioOut rq v s) := by
  unfold execFioOut
  repeat' first
    | exact sub_trans rfl hE | exact sub_trans rfl hW | exact sub_bit hW rfl | with_reducible first | assumption | apply okOut_next | apply okOut_fault | apply State.toField_ok | apply wrFioOut_ok
    | intro _
    | dsimp only
    | with_reducible apply ok_ite
    | split

theorem State.gatherInput_ok {s0 : State} {E W : Nat} {s k} (hE : sub 2 E = true) (hW : sub 4149515568880992958512407863691161151012446232242436899995657329690652811412908146399707048947103794288197886611300789182395151075411775307886874834113963687065682808955494654279680 W = true) (h : Ok E W s0 s) :
    Ok E W s0 (State.gatherInput s k) := by
  unfold State.gatherInput
  repeat' first
    | exact sub_trans rfl hE | exact sub_trans rfl hW | exact sub_bit hW rfl | with_reducible first | assumption | apply State.p_ok | apply ws_f_SAF_BRK_STATUS_BS | apply ws_r_FIO_BS_LEVEL | apply ws_r_FIO_FI_LEVEL | apply ws_r_FIO_FI_VALID | apply ws_r_FIO_FI_WB | apply ws_r_FIO_FX_IN | apply wrF_of_wr
    | intro _
    | dsimp only
    | with_reducible apply ok_ite
    | split

theorem State.limitRelease_ok {s0 : State} {E W : Nat} {s c} (hE : sub 524288 E = true) (hW : sub 0 W = true) (h : Ok E W s0 s) :
    Ok E W s0 (State.limitRelease s c) := by
  unfold State.limitRelease
  repeat' first
    | exact sub_trans rfl hE | exact sub_trans rfl hW | exact sub_bit hW rfl | with_reducible first | assumption | apply State.when_ok | apply State.setChan_ok
    | intro _
    | dsimp only
    | with_reducible apply ok_ite
    | split

theorem State.setInput_ok {s0 : State} {E W : Nat} {s k level} (hE : sub 1614303746 E = true) (hW : sub 1224720827664335617606535502783372698450147845236583706223880599734453175620786299102805025614792367749450187696282187021565151541819976875607211524966351515020077820497642817814745830359297437252714624 W = true) (h : Ok E W s0 s) :
    Ok E W s0 (State.setInput s k level) := by
  unfold State.setInput
  repeat' first
    | exact sub_trans rfl hE | exact sub_trans rfl hW | exact sub_bit hW rfl | with_reducible first | assumption | apply State.count_ok | apply State.pb_ok | apply State.gatherInput_ok | apply State.when_ok | apply State.raiseSt_ok | apply State.each_ok | apply State.limCheck_ok | apply State.limitRelease_ok | apply ws_f_FIO_CH_STATUS_CHANGES | apply ws_f_FIO_CH_STATUS_LEVEL
    | intro _
    | dsimp only
    | with_reducible apply ok_ite
    | split

theorem State.judgeInput_ok {s0 : State} {E W : Nat} {s k} (hE : sub 2 E = true) (hW : sub 4149515568880992958512407863691161151012446232242436900000945777440974800204523468863969217265731031751912136365577979544590397405302266074488388517631685965846412505155681520713728 W = true) (h : Ok E W s0 s) :
    Ok E W s0 (State.judgeInput s k) := by
  unfold State.judgeInput
  repeat' first
    | exact sub_trans rfl hE | exact sub_trans rfl hW | exact sub_bit hW rfl | with_reducible first | assumption | apply State.gatherInput_ok | apply State.pb_ok | apply ws_f_FIO_CH_STATUS_VALID
    | intro _
    | dsimp only
    | with_reducible apply ok_ite
    | split

theorem State.restartInput_ok {s0 : State} {E W : Nat} {s k} (hE : sub 70333780482 E = true) (hW : sub 1224720827664335617606535502783372698450147845236583706223880599734453175620791752814547545165733721050741458057360771360199606861879075228168225372744051083623135631483770468914738457858503879958724736 W = true) (h : Ok E W s0 s) :
    Ok E W s0 (State.restartInput s k) := by
  unfold State.restartInput
  repeat' first
    | exact sub_trans rfl hE | exact sub_trans rfl hW | exact sub_bit hW rfl | with_reducible first | assumption | apply State.off_ok | apply State.when_ok | apply State.setInput_ok | apply State.judgeInput_ok | apply ws_f_FIO_CH_STATUS_CNT
    | intro _
    | dsimp only
    | with_reducible apply ok_ite
    | ((with_reducible apply ok_mk) <;> first | exact Or.inr (sub_bit hE rfl) | exact Or.inr (Or.inr (sub_bit hE rfl)) | with_reducible first | exact Or.inl rfl | exact rfl | exact Or.inr (Or.inl rfl) | assumption | apply ok_ite | apply State.off_ok | apply State.when_ok | apply State.setInput_ok | apply State.judgeInput_ok | apply ws_f_FIO_CH_STATUS_CNT)
    | split

theorem State.restartInputs_ok {s0 : State} {E W : Nat} {s} (hE : sub 70333780482 E = true) (hW : sub 1224720827664335617606535502783372698450147845236583706223880599734453175620791752814547545165733721050741458057360771360199606861879075228168225372744051083623135631483770468914738457858503879958724736 W = true) (h : Ok E W s0 s) :
    Ok E W s0 (State.restartInputs s) := by
  unfold State.restartInputs
  repeat' first
    | exact sub_trans rfl hE | exact sub_trans rfl hW | exact sub_bit hW rfl | with_reducible first | assumption | apply State.each_ok | apply State.restartInput_ok
    | intro _
    | dsimp only
    | with_reducible apply ok_ite
    | split

theorem wrFioCfg_ok {s0 : State} {E W : Nat} {k v s} (hE : sub 70333780482 E = true) (hW : sub 1224720827664335617606535502783372698450147845236583706223880599734453175621140790366068796425980332333382761166390169032804747345661369792073111630516823474218835534595940139314304544313531759981494400 W = true) (h : Ok E W s0 s) :
    Ok E W s0 (wrFioCfg k v s) := by
  unfold wrFioCfg
  repeat' first
    | exact sub_trans rfl hE | exact sub_trans rfl hW | exact sub_bit hW rfl | with_reducible first | assumption | apply State.on_ok | apply State.when_ok | apply State.restartInput_ok | apply State.merge_ok | apply State.off_ok | apply State.fieldOuts_ok | apply State.judgeInput_ok | apply ws_f_FIO_CH_STATUS_LEVEL | apply ws_f_FIO_CH_STATUS_WB | apply ws_f_FIO_STATUS_CFG_REFUSED | apply ws_r_FIO_CH_CFG | apply wrF_of_wr
    | intro _
    | dsimp only
    | with_reducible apply ok_ite
    | ((with_reducible apply ok_mk) <;> first | exact Or.inr (sub_bit hE rfl) | exact Or.inr (Or.inr (sub_bit hE rfl)) | with_reducible first | exact Or.inl rfl | exact rfl | exact Or.inr (Or.inl rfl) | assumption | apply ok_ite | apply State.on_ok | apply State.when_ok | apply State.restartInput_ok | apply State.merge_ok | apply State.off_ok | apply State.fieldOuts_ok | apply State.judgeInput_ok | apply ws_f_FIO_CH_STATUS_LEVEL | apply ws_f_FIO_CH_STATUS_WB | apply ws_f_FIO_STATUS_CFG_REFUSED | apply ws_r_FIO_CH_CFG | apply wrF_of_wr)
    | split

theorem State.setFieldFault_ok {s0 : State} {E W : Nat} {s j reason} (hE : sub 2 E = true) (hW : sub 2974751859556118695283618886147469679227821073339265486780919578734826060563401056213351446978718781823605187078344402796544 W = true) (h : Ok E W s0 s) :
    Ok E W s0 (State.setFieldFault s j reason) := by
  unfold State.setFieldFault
  repeat' first
    | exact sub_trans rfl hE | exact sub_trans rfl hW | exact sub_bit hW rfl | with_reducible first | assumption | apply State.wr_ok | apply State.p_ok | apply State.pb_ok | apply ws_f_FIO_CH_STATUS_FAULT | apply ws_f_FIO_CH_STATUS_REASON | apply ws_r_FIO_OUT_FAULT | apply wrF_of_wr
    | intro _
    | dsimp only
    | with_reducible apply ok_ite
    | split

theorem State.fieldFault_ok {s0 : State} {E W : Nat} {s j reason} (hE : sub 68719481346 E = true) (hW : sub 4296863797136615893187449502213011758884630439267827925350217169283637643036023747863729867858149351556566542991348281114624 W = true) (h : Ok E W s0 s) :
    Ok E W s0 (State.fieldFault s j reason) := by
  unfold State.fieldFault
  repeat' first
    | exact sub_trans rfl hE | exact sub_trans rfl hW | exact sub_bit hW rfl | with_reducible first | assumption | apply State.raiseSt_ok | apply State.fieldOuts_ok | apply State.setFieldFault_ok
    | intro _
    | dsimp only
    | with_reducible apply ok_ite
    | split

theorem execOutputOvercurrent_ok {s0 : State} {E W : Nat} {j thermal s} (hE : sub 68719481346 E = true) (hW : sub 4296863797136615893187449502213011758884630439267827925350217169283637643036023747863729867858149351556566542991348281114624 W = true) (h : Ok E W s0 s) :
    OkOut E W s0 (execOutputOvercurrent j thermal s) := by
  unfold execOutputOvercurrent
  repeat' first
    | exact sub_trans rfl hE | exact sub_trans rfl hW | exact sub_bit hW rfl | with_reducible first | assumption | apply okOut_next | apply okOut_fault | apply State.fieldFault_ok
    | intro _
    | dsimp only
    | with_reducible apply ok_ite
    | split

theorem State.fieldCellFault_ok {s0 : State} {E W : Nat} {s k} (hE : sub 68719481346 E = true) (hW : sub 4149515568880992958512407863691161151012446232242436900002598417362950421701903257134051144865302043459322839413789601532776411883393044439051361543730974178012614200046936368611328 W = true) (h : Ok E W s0 s) :
    Ok E W s0 (State.fieldCellFault s k) := by
  unfold State.fieldCellFault
  repeat' first
    | exact sub_trans rfl hE | exact sub_trans rfl hW | exact sub_bit hW rfl | with_reducible first | assumption | apply State.raiseSt_ok | apply State.fieldOuts_ok | apply State.wr_ok | apply State.on_ok | apply State.judgeInput_ok | apply ws_f_FIO_CH_STATUS_FAULT | apply ws_r_FIO_OUT_FAULT | apply wrF_of_wr
    | intro _
    | dsimp only
    | with_reducible apply ok_ite
    | ((with_reducible apply ok_mk) <;> first | exact Or.inr (sub_bit hE rfl) | exact Or.inr (Or.inr (sub_bit hE rfl)) | with_reducible first | exact Or.inl rfl | exact rfl | exact Or.inr (Or.inl rfl) | assumption | apply ok_ite | apply State.raiseSt_ok | apply State.fieldOuts_ok | apply State.wr_ok | apply State.on_ok | apply State.judgeInput_ok | apply ws_f_FIO_CH_STATUS_FAULT | apply ws_r_FIO_OUT_FAULT | apply wrF_of_wr)
    | split

theorem execFioOutSet_ok {s0 : State} {E W : Nat} {rq v s} (hE : sub 68719481346 E = true) (hW : sub 1399579433923104455593508191225632435886700539713439143954217371245031011133127927489267781477834704680788487671166512660480 W = true) (h : Ok E W s0 s) :
    OkOut E W s0 (execFioOutSet rq v s) := by
  unfold execFioOutSet
  repeat' first
    | exact sub_trans rfl hE | exact sub_trans rfl hW | exact sub_bit hW rfl | with_reducible first | assumption | apply okOut_next | apply okOut_fault | apply State.toField_ok | apply wrFioOut_ok
    | intro _
    | dsimp only
    | with_reducible apply ok_ite
    | split

theorem execVfieldRecovered_ok {s0 : State} {E W : Nat} {s} (hE : sub 70333780482 E = true) (hW : sub 1224720827664335617606535502783372698450147845236583706223880599734453175621468674126588759731060482326167015602145057755555030830426555594529216902970033901748129382974038920598709637903990756023992448 W = true) (h : Ok E W s0 s) :
    OkOut E W s0 (execVfieldRecovered s) := by
  unfold execVfieldRecovered
  repeat' first
    | exact sub_trans rfl hE | exact sub_trans rfl hW | exact sub_bit hW rfl | with_reducible first | assumption | apply okOut_next | apply okOut_fault | apply State.fieldOuts_ok | apply State.restartInputs_ok | apply State.off_ok | apply ws_f_FIO_STATUS_VF_LOW
    | intro _
    | dsimp only
    | with_reducible apply ok_ite
    | split

theorem execReadbackMismatch_ok {s0 : State} {E W : Nat} {j s} (hE : sub 68719481346 E = true) (hW : sub 4296863797136615893187449502213011758884630439267827925350217169283637643036023747863729867858149351556566542991348281114624 W = true) (h : Ok E W s0 s) :
    OkOut E W s0 (execReadbackMismatch j s) := by
  unfold execReadbackMismatch
  repeat' first
    | exact sub_trans rfl hE | exact sub_trans rfl hW | exact sub_bit hW rfl | with_reducible first | assumption | apply okOut_next | apply okOut_fault | apply State.fieldFault_ok | apply State.wr_ok | apply ws_r_FIO_OUT_RB | apply wrF_of_wr
    | intro _
    | dsimp only
    | with_reducible apply ok_ite
    | split

theorem State.setLaunchOff_ok {s0 : State} {E W : Nat} {s j on} (hE : sub 2 E = true) (hW : sub 661055968790248598951915308032771039828404682964281219284648795274405791236311345825189210439715284866480677956501939159040 W = true) (h : Ok E W s0 s) :
    Ok E W s0 (State.setLaunchOff s j on) := by
  unfold State.setLaunchOff
  repeat' first
    | exact sub_trans rfl hE | exact sub_trans rfl hW | exact sub_bit hW rfl | with_reducible first | assumption | apply State.wr_ok | apply State.pb_ok | apply ws_f_FIO_CH_STATUS_LAUNCH_OFF | apply ws_r_FIO_OUT_LOFF | apply wrF_of_wr
    | intro _
    | dsimp only
    | with_reducible apply ok_ite
    | split

theorem execFxModeWrite_ok {s0 : State} {E W : Nat} {rq x mode s} (hE : sub 70333780482 E = true) (hW : sub 1224720827664335617606535502783372698450147845236583706223880599734453175621140867833565139033238022010957921256746398923978532222366754711853807849945483979454674423956538543449247649078807052970623104 W = true) (h : Ok E W s0 s) :
    OkOut E W s0 (execFxModeWrite rq x mode s) := by
  unfold execFxModeWrite
  repeat' first
    | exact sub_trans rfl hE | exact sub_trans rfl hW | exact sub_bit hW rfl | with_reducible first | assumption | apply okOut_next | apply okOut_fault | apply State.write_ok | apply wrFioCfg_ok
    | intro _
    | dsimp only
    | with_reducible apply ok_ite
    | split

theorem State.darkEnd_ok {s0 : State} {E W : Nat} {s n} (hE : sub 16384 E = true) (hW : sub 0 W = true) (h : Ok E W s0 s) :
    Ok E W s0 (State.darkEnd s n) := by
  unfold State.darkEnd
  repeat' first
    | exact sub_trans rfl hE | exact sub_trans rfl hW | exact sub_bit hW rfl | with_reducible first | assumption | apply State.setBrk_ok
    | intro _
    | dsimp only
    | with_reducible apply ok_ite
    | split

theorem execFieldInputChange_ok {s0 : State} {E W : Nat} {k level s} (hE : sub 70333780482 E = true) (hW : sub 1224720827664335617606535502783372698450147845236583706223880599734453175620791752814547545165733721050741458057360771360199606861879075228168225372744051083623135631483770468914738457858503879958724736 W = true) (h : Ok E W s0 s) :
    OkOut E W s0 (execFieldInputChange k level s) := by
  unfold execFieldInputChange
  repeat' first
    | exact sub_trans rfl hE | exact sub_trans rfl hW | exact sub_bit hW rfl | with_reducible first | assumption | apply okOut_next | apply okOut_fault | apply State.judgeInput_ok | apply State.p_ok | apply State.setInput_ok | apply State.when_ok | apply State.darkEnd_ok | apply ws_f_FIO_CH_STATUS_CNT
    | intro _
    | dsimp only
    | with_reducible apply ok_ite
    | ((with_reducible apply ok_mk) <;> first | exact Or.inr (sub_bit hE rfl) | exact Or.inr (Or.inr (sub_bit hE rfl)) | with_reducible first | exact Or.inl rfl | exact rfl | exact Or.inr (Or.inl rfl) | assumption | apply ok_ite | apply State.judgeInput_ok | apply State.p_ok | apply State.setInput_ok | apply State.when_ok | apply State.darkEnd_ok | apply ws_f_FIO_CH_STATUS_CNT)
    | split

theorem execWireWhole_ok {s0 : State} {E W : Nat} {k s} (hE : sub 2 E = true) (hW : sub 4149515568880992958512407863691161151012446232242436900011522672941618777787754113792493553902985506679340635874132360268980890065083247607691415884667130523407871897556055253581824 W = true) (h : Ok E W s0 s) :
    OkOut E W s0 (execWireWhole k s) := by
  unfold execWireWhole
  repeat' first
    | exact sub_trans rfl hE | exact sub_trans rfl hW | exact sub_bit hW rfl | with_reducible first | assumption | apply okOut_next | apply okOut_fault | apply State.judgeInput_ok | apply State.off_ok | apply ws_f_FIO_CH_STATUS_WB
    | intro _
    | dsimp only
    | with_reducible apply ok_ite
    | split

theorem execVfieldLow_ok {s0 : State} {E W : Nat} {s} (hE : sub 68719481346 E = true) (hW : sub 4149515568880992958512407863691161151012446232242436902033031825502198993382711125756707393698247027184112604446588376218113799665723343141120021409316471587384299568423311754919936 W = true) (h : Ok E W s0 s) :
    OkOut E W s0 (execVfieldLow s) := by
  unfold execVfieldLow
  repeat' first
    | exact sub_trans rfl hE | exact sub_trans rfl hW | exact sub_bit hW rfl | with_reducible first | assumption | apply okOut_next | apply okOut_fault | apply State.setFieldOut_ok | apply State.on_ok | apply State.raiseSt_ok | apply State.each_ok | apply State.judgeInput_ok | apply ws_f_FIO_STATUS_VF_LOW | apply ws_f_FIO_STATUS_VF_LOW_SEEN
    | intro _
    | dsimp only
    | with_reducible apply ok_ite
    | ((with_reducible apply ok_mk) <;> first | exact Or.inr (sub_bit hE rfl) | exact Or.inr (Or.inr (sub_bit hE rfl)) | with_reducible first | exact Or.inl rfl | exact rfl | exact Or.inr (Or.inl rfl) | assumption | apply ok_ite | apply State.setFieldOut_ok | apply State.on_ok | apply State.raiseSt_ok | apply State.each_ok | apply State.judgeInput_ok | apply ws_f_FIO_STATUS_VF_LOW | apply ws_f_FIO_STATUS_VF_LOW_SEEN)
    | split

theorem wrFioFclr_ok {s0 : State} {E W : Nat} {rq hot v s} (hE : sub 68719480834 E = true) (hW : sub 4957919765926864492139364810245782798713035122232109144634865964558043434272335093688919078297864636423047220947850220273664 W = true) (h : Ok E W s0 s) :
    Ok E W s0 (wrFioFclr rq hot v s) := by
  unfold wrFioFclr
  repeat' first
    | exact sub_trans rfl hE | exact sub_trans rfl hW | exact sub_bit hW rfl | with_reducible first | assumption | apply State.regWrites_ok | apply State.fieldOuts_ok | apply State.each_ok | apply State.when_ok | apply State.setLaunchOff_ok | apply State.setFieldFault_ok
    | intro _
    | dsimp only
    | with_reducible apply ok_ite
    | ((with_reducible apply ok_mk) <;> first | exact Or.inr (sub_bit hE rfl) | exact Or.inr (Or.inr (sub_bit hE rfl)) | with_reducible first | exact Or.inl rfl | exact rfl | exact Or.inr (Or.inl rfl) | assumption | apply ok_ite | apply State.regWrites_ok | apply State.fieldOuts_ok | apply State.each_ok | apply State.when_ok | apply State.setLaunchOff_ok | apply State.setFieldFault_ok)
    | split

theorem execFioChCfgWrite_ok {s0 : State} {E W : Nat} {rq k v s} (hE : sub 70333780482 E = true) (hW : sub 1224720827664335617606535502783372698450147845236583706223880599734453175621140867833565139033238022010957921256746398923978532222366754711853807849945483979454674423956538543449247649078807052970623104 W = true) (h : Ok E W s0 s) :
    OkOut E W s0 (execFioChCfgWrite rq k v s) := by
  unfold execFioChCfgWrite
  repeat' first
    | exact sub_trans rfl hE | exact sub_trans rfl hW | exact sub_bit hW rfl | with_reducible first | assumption | apply okOut_next | apply okOut_fault | apply State.rwsWrite_ok | apply wrFioCfg_ok
    | intro _
    | dsimp only
    | with_reducible apply ok_ite
    | split

theorem execFieldOff_ok {s0 : State} {E W : Nat} {j s} (hE : sub 68719481090 E = true) (hW : sub 1983167906370745796855745924098313119485214048892843657853946385823217373708934037475567631319145854599442033869505817477120 W = true) (h : Ok E W s0 s) :
    OkOut E W s0 (execFieldOff j s) := by
  unfold execFieldOff
  repeat' first
    | exact sub_trans rfl hE | exact sub_trans rfl hW | exact sub_bit hW rfl | with_reducible first | assumption | apply okOut_next | apply okOut_fault | apply State.act_ok | apply State.fieldOuts_ok | apply State.setLaunchOff_ok
    | intro _
    | dsimp only
    | with_reducible apply ok_ite
    | split

theorem execFioOutFclr_ok {s0 : State} {E W : Nat} {rq v hot s} (hE : sub 68719481346 E = true) (hW : sub 5035387262269471749829042385405873154942926296016985850019785745254262862932840329527808438896268771366151986223143209402368 W = true) (h : Ok E W s0 s) :
    OkOut E W s0 (execFioOutFclr rq v hot s) := by
  unfold execFioOutFclr
  repeat' first
    | exact sub_trans rfl hE | exact sub_trans rfl hW | exact sub_bit hW rfl | with_reducible first | assumption | apply okOut_next | apply okOut_fault | apply State.toField_ok | apply wrFioFclr_ok
    | intro _
    | dsimp only
    | with_reducible apply ok_ite
    | split

theorem execWireBreak_ok {s0 : State} {E W : Nat} {k s} (hE : sub 514 E = true) (hW : sub 4149515568880992958512407863691161151012446232242436900032676463942906732954215403649542227177494456534197634891241121717761875384645210674097470618738019638530790682356802719318016 W = true) (h : Ok E W s0 s) :
    OkOut E W s0 (execWireBreak k s) := by
  unfold execWireBreak
  repeat' first
    | exact sub_trans rfl hE | exact sub_trans rfl hW | exact sub_bit hW rfl | with_reducible first | assumption | apply okOut_next | apply okOut_fault | apply State.judgeInput_ok | apply State.on_ok | apply State.raiseSt_ok | apply ws_f_FIO_CH_STATUS_WB | apply ws_f_FIO_CH_STATUS_WB_SEEN
    | intro _
    | dsimp only
    | with_reducible apply ok_ite
    | split

theorem execFioOutClr_ok {s0 : State} {E W : Nat} {rq v s} (hE : sub 68719481346 E = true) (hW : sub 1399579433923104455593508191225632435886700539713439143954217371245031011133127927489267781477834704680788487671166512660480 W = true) (h : Ok E W s0 s) :
    OkOut E W s0 (execFioOutClr rq v s) := by
  unfold execFioOutClr
  repeat' first
    | exact sub_trans rfl hE | exact sub_trans rfl hW | exact sub_bit hW rfl | with_reducible first | assumption | apply okOut_next | apply okOut_fault | apply State.toField_ok | apply wrFioOut_ok
    | intro _
    | dsimp only
    | with_reducible apply ok_ite
    | split

theorem execFieldWrite_ok {s0 : State} {E W : Nat} {j s} (hE : sub 68719481090 E = true) (hW : sub 1322111937580497197903830616065542079656809365928562438569297590548811582472622691650378420879430569737683722395873523531776 W = true) (h : Ok E W s0 s) :
    OkOut E W s0 (execFieldWrite j s) := by
  unfold execFieldWrite
  repeat' first
    | exact sub_trans rfl hE | exact sub_trans rfl hW | exact sub_bit hW rfl | with_reducible first | assumption | apply okOut_next | apply okOut_fault | apply State.act_ok | apply State.fieldOuts_ok | apply State.wr_ok | apply ws_r_FIO_OUT | apply wrF_of_wr
    | intro _
    | dsimp only
    | with_reducible apply ok_ite
    | split

theorem execBridgeHeartbeatLost_ok {s0 : State} {E W : Nat} {s} (hE : sub 68719480834 E = true) (hW : sub 170552439947884138529594149472454928275728408204784554575439389180796694138968327222898816293446543490716311634318983604207616 W = true) (h : Ok E W s0 s) :
    OkOut E W s0 (execBridgeHeartbeatLost s) := by
  unfold execBridgeHeartbeatLost
  repeat' first
    | exact sub_trans rfl hE | exact sub_trans rfl hW | exact sub_bit hW rfl | with_reducible first | assumption | apply okOut_next | apply okOut_fault | apply State.fieldOuts_ok | apply State.off_ok | apply ws_f_FIO_STATUS_BRIDGE_OK
    | intro _
    | dsimp only
    | with_reducible apply ok_ite
    | ((with_reducible apply ok_mk) <;> first | exact Or.inr (sub_bit hE rfl) | exact Or.inr (Or.inr (sub_bit hE rfl)) | with_reducible first | exact Or.inl rfl | exact rfl | exact Or.inr (Or.inl rfl) | assumption | apply ok_ite | apply State.fieldOuts_ok | apply State.off_ok | apply ws_f_FIO_STATUS_BRIDGE_OK)
    | split

end Sys2Proof.Machine
end

