-- ==== Sys2Proof/Laws/KeepHollyhock.lean ====
section
/-! SUPPORT. What the definitions of Machine/Hollyhock.lean keep: the queue, and the canonical forms of the register window and of
the memories; one lemma for each. -/

namespace Sys2Proof.Machine

theorem State.psetRec_ok {s0 : State} {E W : Nat} {s r} (hE : sub 70333813250 E = true) (hW : sub allSlots W = true) (h : Ok E W s0 s) :
    Ok E W s0 (State.psetRec s r) := by
  unfold State.psetRec
  repeat' first
    | exact sub_trans rfl hE | exact sub_trans rfl hW | exact sub_bit hW rfl | with_reducible first | assumption | apply State.each_ok | apply State.askFreq_ok | apply State.wr_ok | apply State.when_ok | apply State.restartInput_ok | apply wrF_of_wr | exact wr_any (any_bit hW) _ | exact wrF_any (any_bit hW) _
    | intro _
    | dsimp only
    | with_reducible apply ok_ite
    | split

theorem State.psetInForce_ok {s0 : State} {E W : Nat} {s p} (hE : sub 70333813250 E = true) (hW : sub allSlots W = true) (h : Ok E W s0 s) :
    Ok E W s0 (State.psetInForce s p) := by
  unfold State.psetInForce
  repeat' first
    | exact sub_trans rfl hE | exact sub_trans rfl hW | exact sub_bit hW rfl | with_reducible first | assumption | apply State.each_ok | apply State.psetRec_ok | apply State.wr_ok | apply ws_r_SAF_PSET_CRC | apply ws_r_SAF_PSET_SEQ | apply wrF_of_wr
    | intro _
    | dsimp only
    | with_reducible apply ok_ite
    | ((with_reducible apply ok_mk) <;> first | exact Or.inr (sub_bit hE rfl) | exact Or.inr (Or.inr (sub_bit hE rfl)) | with_reducible first | exact Or.inl rfl | exact rfl | exact Or.inr (Or.inl rfl) | assumption | apply ok_ite | apply State.each_ok | apply State.psetRec_ok | apply State.wr_ok | apply ws_r_SAF_PSET_CRC | apply ws_r_SAF_PSET_SEQ | apply wrF_of_wr)
    | split

theorem State.bitField_ok {s0 : State} {E W : Nat} {s f i b} (hE : sub 2 E = true) (hW : sub 0 W = true) (hw : WrF W f) (h : Ok E W s0 s) :
    Ok E W s0 (State.bitField s f i b) := by
  unfold State.bitField
  repeat' first
    | exact sub_trans rfl hE | exact sub_trans rfl hW | exact sub_bit hW rfl | with_reducible first | assumption | apply State.p_ok
    | intro _
    | dsimp only
    | with_reducible apply ok_ite
    | split

theorem State.unlockAxis_ok {s0 : State} {E W : Nat} {s n} (hE : sub 20482 E = true) (hW : sub 16963219645585499214398723346769466785338880197407082047190370219519883267839889637787109106633171880381599585270421233773266850836322733724818671764337834393504377847392348976336338944 W = true) (h : Ok E W s0 s) :
    Ok E W s0 (State.unlockAxis s n) := by
  unfold State.unlockAxis
  repeat' first
    | exact sub_trans rfl hE | exact sub_trans rfl hW | exact sub_bit hW rfl | with_reducible first | assumption | apply State.p_ok | apply State.bitField_ok | apply State.off_ok | apply State.refreshAxis_ok | apply ws_f_FXG_AX_STATUS_CAUSE | apply ws_f_FXG_AX_STATUS_HOLD | apply ws_f_SAF_BRK_STATUS_FAULT | apply ws_f_SAF_BRK_STATUS_FAULT_WHY | apply ws_f_SAF_LOCK_AXIS
    | intro _
    | dsimp only
    | with_reducible apply ok_ite
    | split

theorem State.psetState_ok {s0 : State} {E W : Nat} {s state reason} (hE : sub 2 E = true) (hW : sub 5438853046443695090581383235097278743855033525524806893562307975172132452975126965649024023195947885249426733939164170397148972417563722131553484582569854483904832213354426562884896030720 W = true) (h : Ok E W s0 s) :
    Ok E W s0 (State.psetState s state reason) := by
  unfold State.psetState
  repeat' first
    | exact sub_trans rfl hE | exact sub_trans rfl hW | exact sub_bit hW rfl | with_reducible first | assumption | apply State.p_ok | apply ws_f_SAF_PSET_STATUS_REASON | apply ws_f_SAF_PSET_STATUS_STATE
    | intro _
    | dsimp only
    | with_reducible apply ok_ite
    | split

theorem State.psetLapse_ok {s0 : State} {E W : Nat} {s} (hE : sub 16386 E = true) (hW : sub 5438853046443695090581383235097278743855033525524806893562307975172132452975126965649024023195947885249426733939164170397148972417563722131553484582569854483904832213354426562884896030720 W = true) (h : Ok E W s0 s) :
    Ok E W s0 (State.psetLapse s) := by
  unfold State.psetLapse
  repeat' first
    | exact sub_trans rfl hE | exact sub_trans rfl hW | exact sub_bit hW rfl | with_reducible first | assumption | apply State.psetState_ok
    | intro _
    | dsimp only
    | with_reducible apply ok_ite
    | ((with_reducible apply ok_mk) <;> first | exact Or.inr (sub_bit hE rfl) | exact Or.inr (Or.inr (sub_bit hE rfl)) | with_reducible first | exact Or.inl rfl | exact rfl | exact Or.inr (Or.inl rfl) | assumption | apply ok_ite | apply State.psetState_ok)
    | split

theorem State.stoRelease_ok {s0 : State} {E W : Nat} {s g} (hE : sub 1611157506 E = true) (hW : sub 278477641401304052719571182651233873066258157598474313703180559573989837948394309064053171797043209086152520966161794760568218406307456609774566610404665150465039991538127515131051377688704 W = true) (h : Ok E W s0 s) :
    Ok E W s0 (State.stoRelease s g) := by
  unfold State.stoRelease
  repeat' first
    | exact sub_trans rfl hE | exact sub_trans rfl hW | exact sub_bit hW rfl | with_reducible first | assumption | apply State.bitField_ok | apply State.each_ok | apply State.refreshAxis_ok | apply State.refreshAux_ok | apply ws_f_SAF_STO_ASSERTED
    | intro _
    | dsimp only
    | with_reducible apply ok_ite
    | split

theorem execBtCurrentTimeout_ok {s0 : State} {E W : Nat} {s} (hE : sub 20482 E = true) (hW : sub 8232638888659890029688617201563263723608693324768994809591384142106255177843209762457018785111053927867784607036820765737871979733616962210847559670882103955129384697948594894991785984 W = true) (h : Ok E W s0 s) :
    OkOut E W s0 (execBtCurrentTimeout s) := by
  unfold execBtCurrentTimeout
  repeat' first
    | exact sub_trans rfl hE | exact sub_trans rfl hW | exact sub_bit hW rfl | with_reducible first | assumption | apply okOut_next | apply okOut_fault | apply State.btEnd_ok
    | intro _
    | dsimp only
    | with_reducible apply ok_ite
    | split

theorem execSresetStuck_ok {s0 : State} {E W : Nat} {s} (hE : sub 2 E = true) (hW : sub 139234637988958594318883410818490335842688858253435056475195084164406590796163250320615014993816265862385324388842602762167013693889631286567769205313788274787963704661873320009853338386432 W = true) (h : Ok E W s0 s) :
    OkOut E W s0 (execSresetStuck s) := by
  unfold execSresetStuck
  repeat' first
    | exact sub_trans rfl hE | exact sub_trans rfl hW | exact sub_bit hW rfl | with_reducible first | assumption | apply okOut_next | apply okOut_fault | apply State.on_ok | apply ws_f_SAF_SI_STATUS_SRESET_STUCK
    | intro _
    | dsimp only
    | with_reducible apply ok_ite
    | split

theorem State.pairDisc_ok {s0 : State} {E W : Nat} {s p differ} (hE : sub 16386 E = true) (hW : sub 34808659497239648579720852704622583960672214563358764118798771041101647699040812580153753748454066465596331097210650690541753423472407821641942301328447068696990926165468330002463334596608 W = true) (h : Ok E W s0 s) :
    Ok E W s0 (State.pairDisc s p differ) := by
  unfold State.pairDisc
  repeat' first
    | exact sub_trans rfl hE | exact sub_trans rfl hW | exact sub_bit hW rfl | with_reducible first | assumption | apply State.bitField_ok | apply ws_f_SAF_SI_STATUS_DISC_RUN
    | intro _
    | dsimp only
    | with_reducible apply ok_ite
    | ((with_reducible apply ok_mk) <;> first | exact Or.inr (sub_bit hE rfl) | exact Or.inr (Or.inr (sub_bit hE rfl)) | with_reducible first | exact Or.inl rfl | exact rfl | exact Or.inr (Or.inl rfl) | assumption | apply ok_ite | apply State.bitField_ok | apply ws_f_SAF_SI_STATUS_DISC_RUN)
    | split

theorem execChannelClockLost_ok {s0 : State} {E W : Nat} {s} (hE : sub 1611160066 E = true) (hW : sub 836079053572173755334269434706320974009838752509460980055703611005332105960618528409451085913163686196370158550299245724733093658165147222934110260883644395930419893983193892185516760105088 W = true) (h : Ok E W s0 s) :
    OkOut E W s0 (execChannelClockLost s) := by
  unfold execChannelClockLost
  repeat' first
    | exact sub_trans rfl hE | exact sub_trans rfl hW | exact sub_bit hW rfl | with_reducible first | assumption | apply okOut_next | apply okOut_fault | apply State.lockDevice_ok
    | intro _
    | dsimp only
    | with_reducible apply ok_ite
    | split

theorem State.rearm_ok {s0 : State} {E W : Nat} {s miss i} (hE : sub 16384 E = true) (hW : sub 0 W = true) (h : Ok E W s0 s) :
    Ok E W s0 (State.rearm s miss i) := by
  unfold State.rearm
  repeat' first
    | exact sub_trans rfl hE | exact sub_trans rfl hW | exact sub_bit hW rfl | with_reducible first | assumption
    | intro _
    | dsimp only
    | with_reducible apply ok_ite
    | ((with_reducible apply ok_mk) <;> first | exact Or.inr (sub_bit hE rfl) | exact Or.inr (Or.inr (sub_bit hE rfl)) | with_reducible first | exact Or.inl rfl | exact rfl | exact Or.inr (Or.inl rfl) | assumption | apply ok_ite)
    | split

theorem State.btBegin_ok {s0 : State} {E W : Nat} {s n ticket} (hE : sub 16386 E = true) (hW : sub 7834285394047314705671426046648912253111498486473720867191801038455952507947570580402646908412131963616117609922135889976362045230377431781290420367371897283048438171571264844254412800 W = true) (h : Ok E W s0 s) :
    Ok E W s0 (State.btBegin s n ticket) := by
  unfold State.btBegin
  repeat' first
    | exact sub_trans rfl hE | exact sub_trans rfl hW | exact sub_bit hW rfl | with_reducible first | assumption | apply State.p_ok | apply State.when_ok | apply State.wr_ok | apply State.engage_ok | apply ws_f_SAF_BT_RESULT_AXIS | apply ws_f_SAF_BT_RESULT_REASON | apply ws_f_SAF_BT_RESULT_RESULT | apply ws_f_SAF_BT_RESULT_STATE | apply ws_r_SAF_BT_RESULT | apply wrF_of_wr
    | intro _
    | dsimp only
    | with_reducible apply ok_ite
    | ((with_reducible apply ok_mk) <;> first | exact Or.inr (sub_bit hE rfl) | exact Or.inr (Or.inr (sub_bit hE rfl)) | with_reducible first | exact Or.inl rfl | exact rfl | exact Or.inr (Or.inl rfl) | assumption | apply ok_ite | apply State.p_ok | apply State.when_ok | apply State.wr_ok | apply State.engage_ok | apply ws_f_SAF_BT_RESULT_AXIS | apply ws_f_SAF_BT_RESULT_REASON | apply ws_f_SAF_BT_RESULT_RESULT | apply ws_f_SAF_BT_RESULT_STATE | apply ws_r_SAF_BT_RESULT | apply wrF_of_wr)
    | split

theorem wrBtCmd_ok {s0 : State} {E W : Nat} {v s} (hE : sub 20482 E = true) (hW : sub 8365423386864081804361014253201380880441091604200752790391245176656356067808422823141809410677361249285006939408382390991708624568030139020699940346138484634992269442406658063286140928 W = true) (h : Ok E W s0 s) :
    Ok E W s0 (wrBtCmd v s) := by
  unfold wrBtCmd
  repeat' first
    | exact sub_trans rfl hE | exact sub_trans rfl hW | exact sub_bit hW rfl | with_reducible first | assumption | apply State.when_ok | apply State.btAbortIf_ok | apply State.btBegin_ok
    | intro _
    | dsimp only
    | with_reducible apply ok_ite
    | split

theorem execBtAbort_ok {s0 : State} {E W : Nat} {rq s} (hE : sub 20994 E = true) (hW : sub 8365423386864081804361014253201380880441091604200752790391245254123852410415680512819384570767717479176180724285087775911489320787458799525935779235499083039127212547171933356275269632 W = true) (h : Ok E W s0 s) :
    OkOut E W s0 (execBtAbort rq s) := by
  unfold execBtAbort
  repeat' first
    | exact sub_trans rfl hE | exact sub_trans rfl hW | exact sub_bit hW rfl | with_reducible first | assumption | apply okOut_next | apply okOut_fault | apply State.write_ok | apply wrBtCmd_ok
    | intro _
    | dsimp only
    | with_reducible apply ok_ite
    | split

theorem State.lockChecks_ok {s0 : State} {E W : Nat} {s i} (hE : sub 1611160066 E = true) (hW : sub 836079053572173755334269434706320974009838752509460980055703611005332105960618528409451085913163686196370158550299245724733093658165147222934110260883644395930419893983193892185516760105088 W = true) (h : Ok E W s0 s) :
    Ok E W s0 (State.lockChecks s i) := by
  unfold State.lockChecks
  repeat' first
    | exact sub_trans rfl hE | exact sub_trans rfl hW | exact sub_bit hW rfl | with_reducible first | assumption | apply State.when_ok | apply State.lockDevice_ok
    | intro _
    | dsimp only
    | with_reducible apply ok_ite
    | ((with_reducible apply ok_mk) <;> first | exact Or.inr (sub_bit hE rfl) | exact Or.inr (Or.inr (sub_bit hE rfl)) | with_reducible first | exact Or.inl rfl | exact rfl | exact Or.inr (Or.inl rfl) | assumption | apply ok_ite | apply State.when_ok | apply State.lockDevice_ok)
    | split

theorem execPsetLapse_ok {s0 : State} {E W : Nat} {s} (hE : sub 16386 E = true) (hW : sub 5438853046443695090581383235097278743855033525524806893562307975172132452975126965649024023195947885249426733939164170397148972417563722131553484582569854483904832213354426562884896030720 W = true) (h : Ok E W s0 s) :
    OkOut E W s0 (execPsetLapse s) := by
  unfold execPsetLapse
  repeat' first
    | exact sub_trans rfl hE | exact sub_trans rfl hW | exact sub_bit hW rfl | with_reducible first | assumption | apply okOut_next | apply okOut_fault | apply State.psetLapse_ok
    | intro _
    | dsimp only
    | with_reducible apply ok_ite
    | split

theorem State.unlockLapse_ok {s0 : State} {E W : Nat} {s} (hE : sub 16386 E = true) (hW : sub 679856630805461886322672904387159842981879190690600861695288496896516556621890870706128002899493485656178341742395521299643621552195465266444185572821231810488104026669303320360612003840 W = true) (h : Ok E W s0 s) :
    Ok E W s0 (State.unlockLapse s) := by
  unfold State.unlockLapse
  repeat' first
    | exact sub_trans rfl hE | exact sub_trans rfl hW | exact sub_bit hW rfl | with_reducible first | assumption | apply State.on_ok | apply State.off_ok | apply ws_f_SAF_LOCK_UNLOCK_EXPIRED | apply ws_f_SAF_LOCK_UNLOCK_WAIT
    | intro _
    | dsimp only
    | with_reducible apply ok_ite
    | ((with_reducible apply ok_mk) <;> first | exact Or.inr (sub_bit hE rfl) | exact Or.inr (Or.inr (sub_bit hE rfl)) | with_reducible first | exact Or.inl rfl | exact rfl | exact Or.inr (Or.inl rfl) | assumption | apply ok_ite | apply State.on_ok | apply State.off_ok | apply ws_f_SAF_LOCK_UNLOCK_EXPIRED | apply ws_f_SAF_LOCK_UNLOCK_WAIT)
    | split

theorem State.psetApply_ok {s0 : State} {E W : Nat} {s p} (hE : sub 70333813250 E = true) (hW : sub allSlots W = true) (h : Ok E W s0 s) :
    Ok E W s0 (State.psetApply s p) := by
  unfold State.psetApply
  repeat' first
    | exact sub_trans rfl hE | exact sub_trans rfl hW | exact sub_bit hW rfl | with_reducible first | assumption | apply State.journal_ok | apply State.psetState_ok | apply State.psetInForce_ok
    | intro _
    | dsimp only
    | with_reducible apply ok_ite
    | ((with_reducible apply ok_mk) <;> first | exact Or.inr (sub_bit hE rfl) | exact Or.inr (Or.inr (sub_bit hE rfl)) | with_reducible first | exact Or.inl rfl | exact rfl | exact Or.inr (Or.inl rfl) | assumption | apply ok_ite | apply State.journal_ok | apply State.psetState_ok | apply State.psetInForce_ok)
    | split

theorem State.unlockDevice_ok {s0 : State} {E W : Nat} {s} (hE : sub 1611160066 E = true) (hW : sub 1966816601927817964666139009283045224857300222466068333227307439043618442934147424567883180335601251539725976536251476750300365023776645054084079705599917143134234511139579174609286644891776 W = true) (h : Ok E W s0 s) :
    Ok E W s0 (State.unlockDevice s) := by
  unfold State.unlockDevice
  repeat' first
    | exact sub_trans rfl hE | exact sub_trans rfl hW | exact sub_bit hW rfl | with_reducible first | assumption | apply State.off_ok | apply State.refreshAxes_ok | apply State.evalGroups_ok | apply State.p_ok | apply ws_f_SAF_LOCK_CAUSE | apply ws_f_SAF_LOCK_CAUSE_ACTIVE | apply ws_f_SAF_LOCK_DEVICE | apply ws_f_SAF_SI_STATUS_DISC_FAULT | apply ws_f_SAF_STO_RESTART_WAIT
    | intro _
    | dsimp only
    | with_reducible apply ok_ite
    | split

theorem execSresetPulse_ok {s0 : State} {E W : Nat} {s} (hE : sub 70333815298 E = true) (hW : sub allSlots W = true) (h : Ok E W s0 s) :
    OkOut E W s0 (execSresetPulse s) := by
  unfold execSresetPulse
  repeat' first
    | exact sub_trans rfl hE | exact sub_trans rfl hW | exact sub_bit hW rfl | with_reducible first | assumption | apply okOut_next | apply okOut_fault | apply State.unlockLapse_ok | apply State.psetLapse_ok | apply State.psetApply_ok | apply State.off_ok | apply State.unlockDevice_ok | apply State.unlockAxis_ok | apply State.each_ok | apply State.bitField_ok | apply ws_f_SAF_LOCK_UNLOCK_WAIT | apply ws_f_SAF_STO_RESTART_WAIT
    | intro _
    | dsimp only
    | with_reducible apply ok_ite
    | ((with_reducible apply ok_mk) <;> first | exact Or.inr (sub_bit hE rfl) | exact Or.inr (Or.inr (sub_bit hE rfl)) | with_reducible first | exact Or.inl rfl | exact rfl | exact Or.inr (Or.inl rfl) | assumption | apply ok_ite | apply State.unlockLapse_ok | apply State.psetLapse_ok | apply State.psetApply_ok | apply State.off_ok | apply State.unlockDevice_ok | apply State.unlockAxis_ok | apply State.each_ok | apply State.bitField_ok | apply ws_f_SAF_LOCK_UNLOCK_WAIT | apply ws_f_SAF_STO_RESTART_WAIT)
    | split

theorem wrSafUnlock_ok {s0 : State} {E W : Nat} {v s} (hE : sub 16386 E = true) (hW : sub 815827956966554263587207485264591811578255028828721034034346196275819867946269044847353603479392182787414010090874625559572345862634558319733022687385478172585724832003163984432734404608 W = true) (h : Ok E W s0 s) :
    Ok E W s0 (wrSafUnlock v s) := by
  unfold wrSafUnlock
  repeat' first
    | exact sub_trans rfl hE | exact sub_trans rfl hW | exact sub_bit hW rfl | with_reducible first | assumption | apply State.on_ok | apply ws_f_SAF_LOCK_UNLOCK_REFUSED | apply ws_f_SAF_LOCK_UNLOCK_WAIT
    | intro _
    | dsimp only
    | with_reducible apply ok_ite
    | ((with_reducible apply ok_mk) <;> first | exact Or.inr (sub_bit hE rfl) | exact Or.inr (Or.inr (sub_bit hE rfl)) | with_reducible first | exact Or.inl rfl | exact rfl | exact Or.inr (Or.inl rfl) | assumption | apply ok_ite | apply State.on_ok | apply ws_f_SAF_LOCK_UNLOCK_REFUSED | apply ws_f_SAF_LOCK_UNLOCK_WAIT)
    | split

theorem execSafUnlock_ok {s0 : State} {E W : Nat} {rq v s} (hE : sub 16898 E = true) (hW : sub 815827956966554263587207485264591811578255028828721034034346196353287364288876302537031178639482539017305183875751330944492126558853986980238258526274838770989859775107929259725723533312 W = true) (h : Ok E W s0 s) :
    OkOut E W s0 (execSafUnlock rq v s) := by
  unfold execSafUnlock
  repeat' first
    | exact sub_trans rfl hE | exact sub_trans rfl hW | exact sub_bit hW rfl | with_reducible first | assumption | apply okOut_next | apply okOut_fault | apply State.write_ok | apply wrSafUnlock_ok
    | intro _
    | dsimp only
    | with_reducible apply ok_ite
    | split

theorem State.psetBegin_ok {s0 : State} {E W : Nat} {s} (hE : sub 20994 E = true) (hW : sub 7614394265048874131778924236950966523751247421018664362086566891311360496447582241120565201597402476268056648553664777755722368990596563868017234551454443813759115596966231753951276957696 W = true) (h : Ok E W s0 s) :
    Ok E W s0 (State.psetBegin s) := by
  unfold State.psetBegin
  repeat' first
    | exact sub_trans rfl hE | exact sub_trans rfl hW | exact sub_bit hW rfl | with_reducible first | assumption | apply State.psetState_ok | apply State.refuseHandle_ok | apply State.p_ok | apply ws_f_SAF_PSET_STATUS_RECORDS
    | intro _
    | dsimp only
    | with_reducible apply ok_ite
    | ((with_reducible apply ok_mk) <;> first | exact Or.inr (sub_bit hE rfl) | exact Or.inr (Or.inr (sub_bit hE rfl)) | with_reducible first | exact Or.inl rfl | exact rfl | exact Or.inr (Or.inl rfl) | assumption | apply ok_ite | apply State.psetState_ok | apply State.refuseHandle_ok | apply State.p_ok | apply ws_f_SAF_PSET_STATUS_RECORDS)
    | split

theorem wrPsetCmd_ok {s0 : State} {E W : Nat} {v s} (hE : sub 20994 E = true) (hW : sub 7614394265048874131778924236950966523751247421018664362086566891311360496447582241120565201597402476268056648553664777755722368990596563868017234551454443813759115596966231753951276957696 W = true) (h : Ok E W s0 s) :
    Ok E W s0 (wrPsetCmd v s) := by
  unfold wrPsetCmd
  repeat' first
    | exact sub_trans rfl hE | exact sub_trans rfl hW | exact sub_bit hW rfl | with_reducible first | assumption | apply State.when_ok | apply State.psetState_ok | apply State.psetBegin_ok
    | intro _
    | dsimp only
    | with_reducible apply ok_ite
    | ((with_reducible apply ok_mk) <;> first | exact Or.inr (sub_bit hE rfl) | exact Or.inr (Or.inr (sub_bit hE rfl)) | with_reducible first | exact Or.inl rfl | exact rfl | exact Or.inr (Or.inl rfl) | assumption | apply ok_ite | apply State.when_ok | apply State.psetState_ok | apply State.psetBegin_ok)
    | split

theorem execPsetDiscard_ok {s0 : State} {E W : Nat} {rq s} (hE : sub 20994 E = true) (hW : sub 7614394265048874131778924236950966523751247421018664362086566891388827992790189498810242776757492832497947822338541483140642149686815992528522470390343804412163250540070997029244266086400 W = true) (h : Ok E W s0 s) :
    OkOut E W s0 (execPsetDiscard rq s) := by
  unfold execPsetDiscard
  repeat' first
    | exact sub_trans rfl hE | exact sub_trans rfl hW | exact sub_bit hW rfl | with_reducible first | assumption | apply okOut_next | apply okOut_fault | apply State.write_ok | apply wrPsetCmd_ok
    | intro _
    | dsimp only
    | with_reducible apply ok_ite
    | split

theorem execBtDue_ok {s0 : State} {E W : Nat} {n s} (hE : sub 514 E = true) (hW : sub 16598062275523971834049631454764644604049784928969747599982629318762611245651632585598828195788415177152791546445203156729580604301647101231547499336455854748244727213606038094741504 W = true) (h : Ok E W s0 s) :
    OkOut E W s0 (execBtDue n s) := by
  unfold execBtDue
  repeat' first
    | exact sub_trans rfl hE | exact sub_trans rfl hW | exact sub_bit hW rfl | with_reducible first | assumption | apply okOut_next | apply okOut_fault | apply State.raiseSt_ok | apply State.on_ok | apply ws_f_SAF_BRK_STATUS_BT_DUE
    | intro _
    | dsimp only
    | with_reducible apply ok_ite
    | split

theorem execDarkTestTimeout_ok {s0 : State} {E W : Nat} {n s} (hE : sub 20994 E = true) (hW : sub 560848524289955008272537046856497341170842232749887771403421167736733128565352586202689511426227960405324272979186838273488164092592694946880167130021323282783987599182835005264825942016 W = true) (h : Ok E W s0 s) :
    OkOut E W s0 (execDarkTestTimeout n s) := by
  unfold execDarkTestTimeout
  repeat' first
    | exact sub_trans rfl hE | exact sub_trans rfl hW | exact sub_bit hW rfl | with_reducible first | assumption | apply okOut_next | apply okOut_fault | apply State.brakeFault_ok | apply State.setBrk_ok
    | intro _
    | dsimp only
    | with_reducible apply ok_ite
    | split

theorem State.ss1Begin_ok {s0 : State} {E W : Nat} {s g} (hE : sub 1614303746 E = true) (hW : sub 1224720827666563371810209324723593840525416952419056497369131085773697217625942521611279903985708851360890587657915075237681343061893213221530143873109437596656026695931992294653437660404751616136183936 W = true) (h : Ok E W s0 s) :
    Ok E W s0 (State.ss1Begin s g) := by
  unfold State.ss1Begin
  repeat' first
    | exact sub_trans rfl hE | exact sub_trans rfl hW | exact sub_bit hW rfl | with_reducible first | assumption | apply State.each_ok | apply State.quickStop_ok | apply State.raiseSt_ok | apply State.bitField_ok | apply ws_f_SAF_STO_SS1_RUN
    | intro _
    | dsimp only
    | with_reducible apply ok_ite
    | ((with_reducible apply ok_mk) <;> first | exact Or.inr (sub_bit hE rfl) | exact Or.inr (Or.inr (sub_bit hE rfl)) | with_reducible first | exact Or.inl rfl | exact rfl | exact Or.inr (Or.inl rfl) | assumption | apply ok_ite | apply State.each_ok | apply State.quickStop_ok | apply State.raiseSt_ok | apply State.bitField_ok | apply ws_f_SAF_STO_SS1_RUN)
    | split

theorem execBtPass_ok {s0 : State} {E W : Nat} {s} (hE : sub 20482 E = true) (hW : sub 8257535982073175987439691648745410690514768002162449430991358086084399094711687211335417027404736550633513794356488570472966350640069432862694880919886787737251751788769003952133898240 W = true) (h : Ok E W s0 s) :
    OkOut E W s0 (execBtPass s) := by
  unfold execBtPass
  repeat' first
    | exact sub_trans rfl hE | exact sub_trans rfl hW | exact sub_bit hW rfl | with_reducible first | assumption | apply okOut_next | apply okOut_fault | apply State.btEnd_ok | apply State.setBrk_ok | apply State.off_ok | apply ws_f_SAF_BRK_STATUS_BT_BLOCKED | apply ws_f_SAF_BRK_STATUS_BT_DUE
    | intro _
    | dsimp only
    | with_reducible apply ok_ite
    | split

theorem State.pairDemand_ok {s0 : State} {E W : Nat} {s p demand} (hE : sub 1614303746 E = true) (hW : sub 1224720827667685951078995303390289838025141030751788176288799405916528477992018049749573970191418809919278231301430556915566386546663184769437129025357390235873869113897470252022274014047331058676924544 W = true) (h : Ok E W s0 s) :
    Ok E W s0 (State.pairDemand s p demand) := by
  unfold State.pairDemand
  repeat' first
    | exact sub_trans rfl hE | exact sub_trans rfl hW | exact sub_bit hW rfl | with_reducible first | assumption | apply State.bitField_ok | apply State.raiseSt_ok | apply State.when_ok | apply State.each_ok | apply State.ss1Begin_ok | apply ws_f_SAF_SI_STATUS_DEMAND | apply ws_f_SAF_STO_RESTART_WAIT
    | intro _
    | dsimp only
    | with_reducible apply ok_ite
    | split

theorem State.brakeCycle_ok {s0 : State} {E W : Nat} {s n} (hE : sub 20994 E = true) (hW : sub 560848524289955008272537046856497341170842232749887771403421167736733128565352586202689511426227960405324272979186838273488164092592694946880167130021323282783987599182835005264825942016 W = true) (h : Ok E W s0 s) :
    Ok E W s0 (State.brakeCycle s n) := by
  unfold State.brakeCycle
  repeat' first
    | exact sub_trans rfl hE | exact sub_trans rfl hW | exact sub_bit hW rfl | with_reducible first | assumption | apply State.engage_ok | apply State.addLife_ok | apply State.on_ok | apply State.setBrk_ok | apply State.brakeFault_ok | apply ws_f_SAF_BRK_STATUS_RELEASED
    | intro _
    | dsimp only
    | with_reducible apply ok_ite
    | split

theorem State.accept_ok {s0 : State} {E W : Nat} {s i hold raw acc} (hE : sub 16384 E = true) (hW : sub 0 W = true) (h : Ok E W s0 s) :
    Ok E W s0 (State.accept s i hold raw acc).1 := by
  unfold State.accept
  repeat' first
    | exact sub_trans rfl hE | exact sub_trans rfl hW | exact sub_bit hW rfl | with_reducible first | assumption
    | intro _
    | dsimp only
    | with_reducible apply ok_ite
    | ((with_reducible apply ok_mk) <;> first | exact Or.inr (sub_bit hE rfl) | exact Or.inr (Or.inr (sub_bit hE rfl)) | with_reducible first | exact Or.inl rfl | exact rfl | exact Or.inr (Or.inl rfl) | assumption | apply ok_ite)
    | split

theorem State.accept_ok' {s0 t0 : State} {E W : Nat} {s i hold raw acc y0} (hE : sub 16384 E = true) (hW : sub 0 W = true) (h : Ok E W s0 s) (e : State.accept s i hold raw acc = (t0, y0)) :
    Ok E W s0 t0 := by
  have r := State.accept_ok (s0 := s0) (E := E) (W := W) (s := s) (i := i) (hold := hold) (raw := raw) (acc := acc) hE hW h
  rw [e] at r
  exact r

theorem State.pairCycle_ok {s0 : State} {E W : Nat} {s p a b} (hE : sub 1614303746 E = true) (hW : sub 1224720827667720759738492543038869558877845653335748848503362764680647276763059151397273011003998963673026685367896153246663597197353726522860601433179032178175197560966167242948439482377333522011521152 W = true) (h : Ok E W s0 s) :
    Ok E W s0 (State.pairCycle s p a b) := by
  unfold State.pairCycle
  repeat' first
    | exact sub_trans rfl hE | exact sub_trans rfl hW | exact sub_bit hW rfl | with_reducible first | assumption | apply State.accept_ok | refine State.accept_ok' ?_ ?_ ?_ (by assumption) | apply State.bitField_ok | apply State.pairDisc_ok | apply State.pairDemand_ok | apply ws_f_SAF_SI_STATUS_DEMAND
    | intro _
    | dsimp only
    | with_reducible apply ok_ite
    | ((with_reducible apply ok_mk) <;> first | exact Or.inr (sub_bit hE rfl) | exact Or.inr (Or.inr (sub_bit hE rfl)) | with_reducible first | exact Or.inl rfl | exact rfl | exact Or.inr (Or.inl rfl) | assumption | apply ok_ite | apply State.accept_ok | refine State.accept_ok' ?_ ?_ ?_ (by assumption) | apply State.bitField_ok | apply State.pairDisc_ok | apply State.pairDemand_ok | apply ws_f_SAF_SI_STATUS_DEMAND)
    | split

theorem State.sresetCycle_ok {s0 : State} {E W : Nat} {s raw} (hE : sub 16386 E = true) (hW : sub 208851956983437891478325116227735503764033287380152584712792626246609886194244875480922522490724398793577986583263904143250520540834446929851653807970682412181945556992809980014780007579648 W = true) (h : Ok E W s0 s) :
    Ok E W s0 (State.sresetCycle s raw) := by
  unfold State.sresetCycle
  repeat' first
    | exact sub_trans rfl hE | exact sub_trans rfl hW | exact sub_bit hW rfl | with_reducible first | assumption | apply State.accept_ok | refine State.accept_ok' ?_ ?_ ?_ (by assumption) | apply State.pb_ok | apply State.when_ok | apply State.off_ok | apply ws_f_SAF_SI_STATUS_SRESET | apply ws_f_SAF_SI_STATUS_SRESET_STUCK
    | intro _
    | dsimp only
    | with_reducible apply ok_ite
    | ((with_reducible apply ok_mk) <;> first | exact Or.inr (sub_bit hE rfl) | exact Or.inr (Or.inr (sub_bit hE rfl)) | with_reducible first | exact Or.inl rfl | exact rfl | exact Or.inr (Or.inl rfl) | assumption | apply ok_ite | apply State.accept_ok | refine State.accept_ok' ?_ ?_ ?_ (by assumption) | apply State.pb_ok | apply State.when_ok | apply State.off_ok | apply ws_f_SAF_SI_STATUS_SRESET | apply ws_f_SAF_SI_STATUS_SRESET_STUCK)
    | split

theorem State.ss1Clear_ok {s0 : State} {E W : Nat} {s g} (hE : sub 16384 E = true) (hW : sub 0 W = true) (h : Ok E W s0 s) :
    Ok E W s0 (State.ss1Clear s g) := by
  unfold State.ss1Clear
  repeat' first
    | exact sub_trans rfl hE | exact sub_trans rfl hW | exact sub_bit hW rfl | with_reducible first | assumption
    | intro _
    | dsimp only
    | with_reducible apply ok_ite
    | ((with_reducible apply ok_mk) <;> first | exact Or.inr (sub_bit hE rfl) | exact Or.inr (Or.inr (sub_bit hE rfl)) | with_reducible first | exact Or.inl rfl | exact rfl | exact Or.inr (Or.inl rfl) | assumption | apply ok_ite)
    | split

theorem execSafetyCycle_ok {s0 : State} {E W : Nat} {i s} (hE : sub 1614305794 E = true) (hW : sub 1224720827668765690981421026543017759105474550180227744999949367250992239408317882342606734361932096524063150770982271728148934433273128096988403859075807561203476965955746802639492025739197254756991104 W = true) (h : Ok E W s0 s) :
    OkOut E W s0 (execSafetyCycle i s) := by
  unfold execSafetyCycle
  repeat' first
    | exact sub_trans rfl hE | exact sub_trans rfl hW | exact sub_bit hW rfl | with_reducible first | assumption | apply okOut_next | apply okOut_fault | apply State.when_ok | apply State.pb_ok | apply State.p_ok | apply State.each_ok | apply State.pairCycle_ok | apply State.lockChecks_ok | apply State.sresetCycle_ok | apply State.stoRelease_ok | apply State.evalGroup_ok | apply State.ss1Clear_ok | apply State.rearm_ok | apply State.brakeCycle_ok | apply ws_f_FIO_SAFE_LEVEL_SI | apply ws_f_FIO_SAFE_LEVEL_SRESET | apply ws_f_SAF_LOCK_CAUSE_ACTIVE
    | intro _
    | dsimp only
    | with_reducible apply ok_ite
    | ((with_reducible apply ok_mk) <;> first | exact Or.inr (sub_bit hE rfl) | exact Or.inr (Or.inr (sub_bit hE rfl)) | with_reducible first | exact Or.inl rfl | exact rfl | exact Or.inr (Or.inl rfl) | assumption | apply ok_ite | apply State.when_ok | apply State.pb_ok | apply State.p_ok | apply State.each_ok | apply State.pairCycle_ok | apply State.lockChecks_ok | apply State.sresetCycle_ok | apply State.stoRelease_ok | apply State.evalGroup_ok | apply State.ss1Clear_ok | apply State.rearm_ok | apply State.brakeCycle_ok | apply ws_f_FIO_SAFE_LEVEL_SI | apply ws_f_FIO_SAFE_LEVEL_SRESET | apply ws_f_SAF_LOCK_CAUSE_ACTIVE)
    | split

theorem execDiscrepancyFault_ok {s0 : State} {E W : Nat} {p s} (hE : sub 1611160066 E = true) (hW : sub 853483383320793579624129861058632265990174859791140362115102996525882929810138934699527962787390719429168324098904571070003970369901351133755081411547867930278915357065928057186748427403392 W = true) (h : Ok E W s0 s) :
    OkOut E W s0 (execDiscrepancyFault p s) := by
  unfold execDiscrepancyFault
  repeat' first
    | exact sub_trans rfl hE | exact sub_trans rfl hW | exact sub_bit hW rfl | with_reducible first | assumption | apply okOut_next | apply okOut_fault | apply State.lockDevice_ok | apply State.raiseSt_ok | apply State.bitField_ok | apply ws_f_SAF_SI_STATUS_DISC_FAULT
    | intro _
    | dsimp only
    | with_reducible apply ok_ite
    | split

theorem execDarkTest_ok {s0 : State} {E W : Nat} {n s} (hE : sub 16384 E = true) (hW : sub 0 W = true) (h : Ok E W s0 s) :
    OkOut E W s0 (execDarkTest n s) := by
  unfold execDarkTest
  repeat' first
    | exact sub_trans rfl hE | exact sub_trans rfl hW | exact sub_bit hW rfl | with_reducible first | assumption | apply okOut_next | apply okOut_fault | apply State.setBrk_ok | apply State.darkEnd_ok
    | intro _
    | dsimp only
    | with_reducible apply ok_ite
    | split

theorem execBtSettleEnd_ok {s0 : State} {E W : Nat} {s} (hE : sub 16384 E = true) (hW : sub 0 W = true) (h : Ok E W s0 s) :
    OkOut E W s0 (execBtSettleEnd s) := by
  unfold execBtSettleEnd
  repeat' first
    | exact sub_trans rfl hE | exact sub_trans rfl hW | exact sub_bit hW rfl | with_reducible first | assumption | apply okOut_next | apply okOut_fault
    | intro _
    | dsimp only
    | with_reducible apply ok_ite
    | ((with_reducible apply ok_mk) <;> first | exact Or.inr (sub_bit hE rfl) | exact Or.inr (Or.inr (sub_bit hE rfl)) | with_reducible first | exact Or.inl rfl | exact rfl | exact Or.inr (Or.inl rfl) | assumption | apply ok_ite)
    | split

theorem execUnlockExpiry_ok {s0 : State} {E W : Nat} {s} (hE : sub 16386 E = true) (hW : sub 679856630805461886322672904387159842981879190690600861695288496896516556621890870706128002899493485656178341742395521299643621552195465266444185572821231810488104026669303320360612003840 W = true) (h : Ok E W s0 s) :
    OkOut E W s0 (execUnlockExpiry s) := by
  unfold execUnlockExpiry
  repeat' first
    | exact sub_trans rfl hE | exact sub_trans rfl hW | exact sub_bit hW rfl | with_reducible first | assumption | apply okOut_next | apply okOut_fault | apply State.unlockLapse_ok
    | intro _
    | dsimp only
    | with_reducible apply ok_ite
    | split

theorem execPsetCheckDone_ok {s0 : State} {E W : Nat} {agree s} (hE : sub 1611160082 E = true) (hW : sub 841517906618617450424850817941418252753693786034985786949265918980504238413593655375100109936359634081619585284238409895130242630582710945065663745466214250414324726196548318748401656135808 W = true) (h : Ok E W s0 s) :
    OkOut E W s0 (execPsetCheckDone agree s) := by
  unfold execPsetCheckDone
  repeat' first
    | exact sub_trans rfl hE | exact sub_trans rfl hW | exact sub_bit hW rfl | with_reducible first | assumption | apply okOut_next | apply okOut_fault | apply State.lockDevice_ok | apply State.took_ok | apply State.psetState_ok | apply State.raiseSt_ok
    | intro _
    | dsimp only
    | with_reducible apply ok_ite
    | ((with_reducible apply ok_mk) <;> first | exact Or.inr (sub_bit hE rfl) | exact Or.inr (Or.inr (sub_bit hE rfl)) | with_reducible first | exact Or.inl rfl | exact rfl | exact Or.inr (Or.inl rfl) | assumption | apply ok_ite | apply State.lockDevice_ok | apply State.took_ok | apply State.psetState_ok | apply State.raiseSt_ok)
    | split

theorem execSs1Expiry_ok {s0 : State} {E W : Nat} {g s} (hE : sub 1611158018 E = true) (hW : sub 3063170401180475939097239401720388866645953152353498547818671358183939924852809295336806815240471074736751730934438261666243006574058905822977874471369230056628088919344424090712861334044800 W = true) (h : Ok E W s0 s) :
    OkOut E W s0 (execSs1Expiry g s) := by
  unfold execSs1Expiry
  repeat' first
    | exact sub_trans rfl hE | exact sub_trans rfl hW | exact sub_bit hW rfl | with_reducible first | assumption | apply okOut_next | apply okOut_fault | apply State.bitField_ok | apply State.evalGroup_ok | apply ws_f_SAF_STO_SS1_RUN
    | intro _
    | dsimp only
    | with_reducible apply ok_ite
    | ((with_reducible apply ok_mk) <;> first | exact Or.inr (sub_bit hE rfl) | exact Or.inr (Or.inr (sub_bit hE rfl)) | with_reducible first | exact Or.inl rfl | exact rfl | exact Or.inr (Or.inl rfl) | assumption | apply ok_ite | apply State.bitField_ok | apply State.evalGroup_ok | apply ws_f_SAF_STO_SS1_RUN)
    | split

theorem execPsetLoaded_ok {s0 : State} {E W : Nat} {ok s} (hE : sub 70333815298 E = true) (hW : sub allSlots W = true) (h : Ok E W s0 s) :
    OkOut E W s0 (execPsetLoaded ok s) := by
  unfold execPsetLoaded
  repeat' first
    | exact sub_trans rfl hE | exact sub_trans rfl hW | exact sub_bit hW rfl | with_reducible first | assumption | apply okOut_next | apply okOut_fault | apply State.motionReady_ok | apply State.on_ok | apply State.psetInForce_ok | apply State.lockDevice_ok | apply ws_f_GLB_READY_PSET_LOADED
    | intro _
    | dsimp only
    | with_reducible apply ok_ite
    | ((with_reducible apply ok_mk) <;> first | exact Or.inr (sub_bit hE rfl) | exact Or.inr (Or.inr (sub_bit hE rfl)) | with_reducible first | exact Or.inl rfl | exact rfl | exact Or.inr (Or.inl rfl) | assumption | apply ok_ite | apply State.motionReady_ok | apply State.on_ok | apply State.psetInForce_ok | apply State.lockDevice_ok | apply ws_f_GLB_READY_PSET_LOADED)
    | split

theorem execBtStart_ok {s0 : State} {E W : Nat} {rq n ticket s} (hE : sub 20994 E = true) (hW : sub 8365423386864081804361014253201380880441091604200752790391245254123852410415680512819384570767717479176180724285087775911489320787458799525935779235499083039127212547171933356275269632 W = true) (h : Ok E W s0 s) :
    OkOut E W s0 (execBtStart rq n ticket s) := by
  unfold execBtStart
  repeat' first
    | exact sub_trans rfl hE | exact sub_trans rfl hW | exact sub_bit hW rfl | with_reducible first | assumption | apply okOut_next | apply okOut_fault | apply State.write_ok | apply wrBtCmd_ok
    | intro _
    | dsimp only
    | with_reducible apply ok_ite
    | split

theorem execBtBlock_ok {s0 : State} {E W : Nat} {n s} (hE : sub 16386 E = true) (hW : sub 141083529341953760589421867365499479134423171896242854599852349209482195588038876977590039664201529005798728144784226832201435136564000360468153744359874765360080181315651323805302784 W = true) (h : Ok E W s0 s) :
    OkOut E W s0 (execBtBlock n s) := by
  unfold execBtBlock
  repeat' first
    | exact sub_trans rfl hE | exact sub_trans rfl hW | exact sub_bit hW rfl | with_reducible first | assumption | apply okOut_next | apply okOut_fault | apply State.engage_ok | apply State.on_ok | apply ws_f_SAF_BRK_STATUS_BT_BLOCKED
    | intro _
    | dsimp only
    | with_reducible apply ok_ite
    | split

theorem execPsetLoad_ok {s0 : State} {E W : Nat} {rq s} (hE : sub 20994 E = true) (hW : sub 7614394265048874131778924236950966523751247421018664362086566891388827992790189498810242776757492832497947822338541483140642149686815992528522470390343804412163250540070997029244266086400 W = true) (h : Ok E W s0 s) :
    OkOut E W s0 (execPsetLoad rq s) := by
  unfold execPsetLoad
  repeat' first
    | exact sub_trans rfl hE | exact sub_trans rfl hW | exact sub_bit hW rfl | with_reducible first | assumption | apply okOut_next | apply okOut_fault | apply State.write_ok | apply wrPsetCmd_ok
    | intro _
    | dsimp only
    | with_reducible apply ok_ite
    | split

end Sys2Proof.Machine
end

