-- ==== Sys2Proof/Laws/KeepReset.lean ====
section
/-! SUPPORT. What the definitions of Machine/Reset.lean keep: the queue, and the canonical forms of the register window and of
the memories; one lemma for each. -/

namespace Sys2Proof.Machine

theorem State.clearMemories_ok {s0 : State} {E W : Nat} {s} (hE : sub 134217732 E = true) (hW : sub 0 W = true) (h : Ok E W s0 s) :
    Ok E W s0 (State.clearMemories s) :=
  ok_mem hE h (fun _ => rfl) fun _ => rfl

theorem State.clearDomain_ok {s0 : State} {E W : Nat} {s d} (hE : sub 2473901162182 E = true) (hW : sub 930353567098376819903134474096645803972660941679767117160307454951218288785149341857524544913617363917776027656020707754924290084626759680 W = true) (h : Ok E W s0 s) :
    Ok E W s0 (State.clearDomain s d) := by
  unfold State.clearDomain
  repeat' first
    | exact sub_trans rfl hE | exact sub_trans rfl hW | exact sub_bit hW rfl | with_reducible first | assumption | apply State.clearMemories_ok | apply State.p_ok | apply ws_f_GLB_REGION_STATE_CLUSTER_FAULT_SEEN | apply ws_f_GLB_REGION_STATE_REGION_FAULT
    | intro _
    | dsimp only
    | with_reducible apply ok_ite
    | ((with_reducible apply ok_mk) <;> first | exact Or.inr (sub_bit hE rfl) | exact Or.inr (Or.inr (sub_bit hE rfl)) | with_reducible first | exact Or.inl rfl | exact rfl | exact Or.inr (Or.inl rfl) | assumption | apply ok_ite | apply State.clearMemories_ok | apply State.p_ok | apply ws_f_GLB_REGION_STATE_CLUSTER_FAULT_SEEN | apply ws_f_GLB_REGION_STATE_REGION_FAULT)
    | split

theorem execMemReady_ok {s0 : State} {E W : Nat} {s} (hE : sub 2 E = true) (hW : sub 11629419588729710248789180926208072549658261770997088964503843186890228609814366773219056811420217048972200345700258846936553626057834496 W = true) (h : Ok E W s0 s) :
    OkOut E W s0 (execMemReady s) := by
  unfold execMemReady
  repeat' first
    | exact sub_trans rfl hE | exact sub_trans rfl hW | exact sub_bit hW rfl | with_reducible first | assumption | apply okOut_next | apply okOut_fault | apply State.on_ok | apply ws_f_GLB_READY_MEM_READY
    | intro _
    | dsimp only
    | with_reducible apply ok_ite
    | split

theorem State.clearRegs_ok {s0 : State} {E W : Nat} {s d} (hE : sub 2 E = true) (hW : sub allSlots W = true) (h : Ok E W s0 s) :
    Ok E W s0 (State.clearRegs s d) := by
  unfold State.clearRegs
  repeat' first
    | exact sub_trans rfl hE | exact sub_trans rfl hW | exact sub_bit hW rfl | with_reducible first | assumption | apply State.keepRegs_ok
    | intro _
    | dsimp only
    | with_reducible apply ok_ite
    | split

theorem State.trialTimeout_ok {s0 : State} {E W : Nat} {s} (hE : sub 4096 E = true) (hW : sub 0 W = true) (h : Ok E W s0 s) :
    Ok E W s0 (State.trialTimeout s) := by
  unfold State.trialTimeout
  repeat' first
    | exact sub_trans rfl hE | exact sub_trans rfl hW | exact sub_bit hW rfl | with_reducible first | assumption
    | intro _
    | dsimp only
    | with_reducible apply ok_ite
    | ((with_reducible apply ok_mk) <;> first | exact Or.inr (sub_bit hE rfl) | exact Or.inr (Or.inr (sub_bit hE rfl)) | with_reducible first | exact Or.inl rfl | exact rfl | exact Or.inr (Or.inl rfl) | assumption | apply ok_ite)
    | split

theorem State.endSession_ok {s0 : State} {E W : Nat} {s} (hE : sub 4096 E = true) (hW : sub 0 W = true) (h : Ok E W s0 s) :
    Ok E W s0 (State.endSession s) := by
  unfold State.endSession
  repeat' first
    | exact sub_trans rfl hE | exact sub_trans rfl hW | exact sub_bit hW rfl | with_reducible first | assumption | apply State.journal_ok
    | intro _
    | dsimp only
    | with_reducible apply ok_ite
    | ((with_reducible apply ok_mk) <;> first | exact Or.inr (sub_bit hE rfl) | exact Or.inr (Or.inr (sub_bit hE rfl)) | with_reducible first | exact Or.inl rfl | exact rfl | exact Or.inr (Or.inl rfl) | assumption | apply ok_ite | apply State.journal_ok)
    | split

theorem State.leaveDomain_ok {s0 : State} {E W : Nat} {s d} (hE : sub 70599070274 E = true) (hW : sub 1167985076588923377276192650630459929754816294225650343392623370306288638996003691847872423600269820080099065326064118429794443324892204735209056742535507614471833366075058921392403255208747991168 W = true) (h : Ok E W s0 s) :
    Ok E W s0 (State.leaveDomain s d) := by
  unfold State.leaveDomain
  repeat' first
    | exact sub_trans rfl hE | exact sub_trans rfl hW | exact sub_bit hW rfl | with_reducible first | assumption | apply State.each_ok | apply State.assertSto_ok | apply State.trialTimeout_ok | apply State.endSession_ok | apply State.setServo_ok | apply State.refreshAxis_ok | apply State.off_ok | apply State.refreshAux_ok | apply State.setFieldOut_ok | apply ws_f_AUX_CTL_OUT_EN | apply ws_f_AX_PWM_CTL_OUT_EN
    | intro _
    | dsimp only
    | with_reducible apply ok_ite
    | split

theorem State.unready_ok {s0 : State} {E W : Nat} {s d} (hE : sub 2 E = true) (hW : sub 183163358522492936418429599587777142657117622893204151190935530193521100604576276678200144779868418521312155444779076839250719610410893312 W = true) (h : Ok E W s0 s) :
    Ok E W s0 (State.unready s d) := by
  unfold State.unready
  repeat' first
    | exact sub_trans rfl hE | exact sub_trans rfl hW | exact sub_bit hW rfl | with_reducible first | assumption | apply State.off_ok | apply State.when_ok | apply State.p_ok | apply ws_f_GLB_READY_FW_VERIFIED | apply ws_f_GLB_READY_HOST_READY | apply ws_f_GLB_READY_MEM_READY | apply ws_f_GLB_READY_MOTION_READY | apply ws_f_GLB_READY_PSET_LOADED | apply ws_f_GLB_READY_READY_MS
    | intro _
    | dsimp only
    | with_reducible apply ok_ite
    | split

theorem State.resetDomain_ok {s0 : State} {E W : Nat} {s d} (hE : sub 2473901162438 E = true) (hW : sub allSlots W = true) (h : Ok E W s0 s) :
    Ok E W s0 (State.resetDomain s d) := by
  unfold State.resetDomain
  repeat' first
    | exact sub_trans rfl hE | exact sub_trans rfl hW | exact sub_bit hW rfl | with_reducible first | assumption | apply State.clearDomain_ok | apply State.clearRegs_ok | apply State.leaveDomain_ok | apply State.when_ok | apply State.pb_ok | apply State.unready_ok | apply State.p_ok | apply ws_f_CLK_STATUS_SD_TRIMMED | apply ws_f_GLB_REGION_STATE_ISOLATED
    | intro _
    | dsimp only
    | with_reducible apply ok_ite
    | ((with_reducible apply ok_mk) <;> first | exact Or.inr (sub_bit hE rfl) | exact Or.inr (Or.inr (sub_bit hE rfl)) | with_reducible first | exact Or.inl rfl | exact rfl | exact Or.inr (Or.inl rfl) | assumption | apply ok_ite | apply State.clearDomain_ok | apply State.clearRegs_ok | apply State.leaveDomain_ok | apply State.when_ok | apply State.pb_ok | apply State.unready_ok | apply State.p_ok | apply ws_f_CLK_STATUS_SD_TRIMMED | apply ws_f_GLB_REGION_STATE_ISOLATED)
    | split

theorem State.holdDomains_ok {s0 : State} {E W : Nat} {s l} (hE : sub 2473901162438 E = true) (hW : sub allSlots W = true) (h : Ok E W s0 s) :
    Ok E W s0 (State.holdDomains s l) := by
  unfold State.holdDomains
  repeat' first
    | exact sub_trans rfl hE | exact sub_trans rfl hW | exact sub_bit hW rfl | with_reducible first | assumption | apply State.each_ok | apply State.resetDomain_ok | apply State.fieldOuts_ok | apply State.refreshAxes_ok | apply State.refreshAux_ok
    | intro _
    | dsimp only
    | with_reducible apply ok_ite
    | ((with_reducible apply ok_mk) <;> first | exact Or.inr (sub_bit hE rfl) | exact Or.inr (Or.inr (sub_bit hE rfl)) | with_reducible first | exact Or.inl rfl | exact rfl | exact Or.inr (Or.inl rfl) | assumption | apply ok_ite | apply State.each_ok | apply State.resetDomain_ok | apply State.fieldOuts_ok | apply State.refreshAxes_ok | apply State.refreshAux_ok)
    | split

theorem State.resetDomains_ok {s0 : State} {E W : Nat} {s l} (hE : sub 2473901162438 E = true) (hW : sub allSlots W = true) (h : Ok E W s0 s) :
    Ok E W s0 (State.resetDomains s l) := by
  unfold State.resetDomains
  repeat' first
    | exact sub_trans rfl hE | exact sub_trans rfl hW | exact sub_bit hW rfl | with_reducible first | assumption | apply State.holdDomains_ok
    | intro _
    | dsimp only
    | with_reducible apply ok_ite
    | ((with_reducible apply ok_mk) <;> first | exact Or.inr (sub_bit hE rfl) | exact Or.inr (Or.inr (sub_bit hE rfl)) | with_reducible first | exact Or.inl rfl | exact rfl | exact Or.inr (Or.inl rfl) | assumption | apply ok_ite | apply State.holdDomains_ok)
    | split

theorem State.noteReset_ok {s0 : State} {E W : Nat} {s src} (hE : sub 4098 E = true) (hW : sub 405226129773534468604727330438589956153559202367425478515200911102602813614541811171846391498740604910956824864384842693593276472208181182410827620518941766314568535488428664422400 W = true) (h : Ok E W s0 s) :
    Ok E W s0 (State.noteReset s src) := by
  unfold State.noteReset
  repeat' first
    | exact sub_trans rfl hE | exact sub_trans rfl hW | exact sub_bit hW rfl | with_reducible first | assumption | apply State.p_ok | apply State.journal_ok | apply State.off_ok | apply ws_f_PWR_STATUS_FROM_DORMANT | apply ws_f_RST_CAUSE_LAST | apply ws_f_RST_CAUSE_SRC
    | intro _
    | dsimp only
    | with_reducible apply ok_ite
    | split

theorem State.resetEvent_ok {s0 : State} {E W : Nat} {s} (hE : sub 512 E = true) (hW : sub 0 W = true) (h : Ok E W s0 s) :
    Ok E W s0 (State.resetEvent s) := by
  unfold State.resetEvent
  repeat' first
    | exact sub_trans rfl hE | exact sub_trans rfl hW | exact sub_bit hW rfl | with_reducible first | assumption | apply State.raiseSt_ok
    | intro _
    | dsimp only
    | with_reducible apply ok_ite
    | split

theorem State.endReset_ok {s0 : State} {E W : Nat} {s src l} (hE : sub 2473901162438 E = true) (hW : sub allSlots W = true) (h : Ok E W s0 s) :
    Ok E W s0 (State.endReset s src l) := by
  unfold State.endReset
  repeat' first
    | exact sub_trans rfl hE | exact sub_trans rfl hW | exact sub_bit hW rfl | with_reducible first | assumption | apply State.resetDomains_ok | apply State.when_ok | apply State.noteReset_ok | apply State.resetEvent_ok
    | intro _
    | dsimp only
    | with_reducible apply ok_ite
    | ((with_reducible apply ok_mk) <;> first | exact Or.inr (sub_bit hE rfl) | exact Or.inr (Or.inr (sub_bit hE rfl)) | with_reducible first | exact Or.inl rfl | exact rfl | exact Or.inr (Or.inl rfl) | assumption | apply ok_ite | apply State.resetDomains_ok | apply State.when_ok | apply State.noteReset_ok | apply State.resetEvent_ok)
    | split

theorem State.resetAll_ok {s0 : State} {E W : Nat} {s src} (hE : sub 2473901162438 E = true) (hW : sub allSlots W = true) (h : Ok E W s0 s) :
    Ok E W s0 (State.resetAll s src) := by
  unfold State.resetAll
  repeat' first
    | exact sub_trans rfl hE | exact sub_trans rfl hW | exact sub_bit hW rfl | with_reducible first | assumption | apply State.endReset_ok
    | intro _
    | dsimp only
    | with_reducible apply ok_ite
    | ((with_reducible apply ok_mk) <;> first | exact Or.inr (sub_bit hE rfl) | exact Or.inr (Or.inr (sub_bit hE rfl)) | with_reducible first | exact Or.inl rfl | exact rfl | exact Or.inr (Or.inl rfl) | assumption | apply ok_ite | apply State.endReset_ok)
    | split

theorem execBrownOutReset_ok {s0 : State} {E W : Nat} {s} (hE : sub 2473901162438 E = true) (hW : sub allSlots W = true) (h : Ok E W s0 s) :
    OkOut E W s0 (execBrownOutReset s) := by
  unfold execBrownOutReset
  repeat' first
    | exact sub_trans rfl hE | exact sub_trans rfl hW | exact sub_bit hW rfl | with_reducible first | assumption | apply okOut_next | apply okOut_fault | apply State.resetAll_ok | apply State.on_ok | apply ws_f_PWR_STATUS_FROM_DORMANT
    | intro _
    | dsimp only
    | with_reducible apply ok_ite
    | ((with_reducible apply ok_mk) <;> first | exact Or.inr (sub_bit hE rfl) | exact Or.inr (Or.inr (sub_bit hE rfl)) | with_reducible first | exact Or.inl rfl | exact rfl | exact Or.inr (Or.inl rfl) | assumption | apply ok_ite | apply State.resetAll_ok | apply State.on_ok | apply ws_f_PWR_STATUS_FROM_DORMANT)
    | split

theorem State.powerOn_ok {s0 : State} {E W : Nat} {s} (hE : sub 2473901162446 E = true) (hW : sub allSlots W = true) (h : Ok E W s0 s) :
    Ok E W s0 (State.powerOn s) := by
  unfold State.powerOn
  apply State.addLife_ok (sub_trans rfl hE) (sub_trans rfl hW)
  refine h.trans ⟨rfl, fun _ => ⟨rfl, rfl, rfl⟩, fun p hp => ?_, fun e _ => ?_,
    fun _ _ n => absurd trivial (n .any (any_bit hW))⟩
  · cases p
    case pending => rfl
    case free => rfl
    case out => rfl
    all_goals exact part_of (.inr (sub_bit hE rfl)) hp
  · exact absurd (sub_bit (i := 41) hE rfl) (by rw [e]; decide)

theorem State.loadCalendar_ok {s0 : State} {E W : Nat} {s} (hE : sub 268439618 E = true) (hW : sub 19855741567891793591526378828007667845935330467739764534247577608852044826752525399851305176345877093362118396637454287259606516391615711960960283413004640185709021804009308312290443034982747209728 W = true) (h : Ok E W s0 s) :
    Ok E W s0 (State.loadCalendar s) := by
  unfold State.loadCalendar
  repeat' first
    | exact sub_trans rfl hE | exact sub_trans rfl hW | exact sub_bit hW rfl | with_reducible first | assumption | apply State.off_ok | apply State.setServo_ok | apply ws_f_TB_STATUS_TIME_VALID
    | intro _
    | dsimp only
    | with_reducible apply ok_ite
    | ((with_reducible apply ok_mk) <;> first | exact Or.inr (sub_bit hE rfl) | exact Or.inr (Or.inr (sub_bit hE rfl)) | with_reducible first | exact Or.inl rfl | exact rfl | exact Or.inr (Or.inl rfl) | assumption | apply ok_ite | apply State.off_ok | apply State.setServo_ok | apply ws_f_TB_STATUS_TIME_VALID)
    | split

theorem execPinReset_ok {s0 : State} {E W : Nat} {s} (hE : sub 2473901162438 E = true) (hW : sub allSlots W = true) (h : Ok E W s0 s) :
    OkOut E W s0 (execPinReset s) := by
  unfold execPinReset
  repeat' first
    | exact sub_trans rfl hE | exact sub_trans rfl hW | exact sub_bit hW rfl | with_reducible first | assumption | apply okOut_next | apply okOut_fault | apply State.resetAll_ok
    | intro _
    | dsimp only
    | with_reducible apply ok_ite
    | split

theorem State.copyBuffer_ok {s0 : State} {E W : Nat} {s} (hE : sub 4096 E = true) (hW : sub 0 W = true) (h : Ok E W s0 s) :
    Ok E W s0 (State.copyBuffer s) := by
  unfold State.copyBuffer
  repeat' first
    | exact sub_trans rfl hE | exact sub_trans rfl hW | exact sub_bit hW rfl | with_reducible first | assumption
    | intro _
    | dsimp only
    | with_reducible apply ok_ite
    | ((with_reducible apply ok_mk) <;> first | exact Or.inr (sub_bit hE rfl) | exact Or.inr (Or.inr (sub_bit hE rfl)) | with_reducible first | exact Or.inl rfl | exact rfl | exact Or.inr (Or.inl rfl) | assumption | apply ok_ite)
    | split

theorem State.releaseMgmt_ok {s0 : State} {E W : Nat} {s} (hE : sub 12800 E = true) (hW : sub 0 W = true) (h : Ok E W s0 s) :
    Ok E W s0 (State.releaseMgmt s) := by
  unfold State.releaseMgmt
  repeat' first
    | exact sub_trans rfl hE | exact sub_trans rfl hW | exact sub_bit hW rfl | with_reducible first | assumption | apply State.when_ok | apply State.copyBuffer_ok | apply State.raiseSt_ok | apply State.journal_ok | apply State.resetEvent_ok
    | intro _
    | dsimp only
    | with_reducible apply ok_ite
    | ((with_reducible apply ok_mk) <;> first | exact Or.inr (sub_bit hE rfl) | exact Or.inr (Or.inr (sub_bit hE rfl)) | with_reducible first | exact Or.inl rfl | exact rfl | exact Or.inr (Or.inl rfl) | assumption | apply ok_ite | apply State.when_ok | apply State.copyBuffer_ok | apply State.raiseSt_ok | apply State.journal_ok | apply State.resetEvent_ok)
    | split

theorem State.applyQuotas_ok {s0 : State} {E W : Nat} {s} (hE : sub 2 E = true) (hW : sub 474874370828360705396164840357722604867452190274326732635001067698362672204541184967007490037586646380027529137950987531554620865868962323137688617795634882399885002525502341120 W = true) (h : Ok E W s0 s) :
    Ok E W s0 (State.applyQuotas s) := by
  unfold State.applyQuotas
  repeat' first
    | exact sub_trans rfl hE | exact sub_trans rfl hW | exact sub_bit hW rfl | with_reducible first | assumption | apply State.each_ok | apply State.p_ok | apply ws_f_POOL_OD_QUOTA01_CLASS_HI | apply ws_f_POOL_OD_QUOTA01_CLASS_LO | apply ws_f_POOL_OD_QUOTA23_CLASS_HI | apply ws_f_POOL_OD_QUOTA23_CLASS_LO
    | intro _
    | dsimp only
    | with_reducible apply ok_ite
    | split

theorem State.releaseField_ok {s0 : State} {E W : Nat} {s} (hE : sub 70333780482 E = true) (hW : sub 1224720827664335617606535502783372698450147845236583706223880599734453175620960983142557848807065411369597847443556842959038462854015945319758473255300546788154384069356337581835759587068772816846323840 W = true) (h : Ok E W s0 s) :
    Ok E W s0 (State.releaseField s) := by
  unfold State.releaseField
  repeat' first
    | exact sub_trans rfl hE | exact sub_trans rfl hW | exact sub_bit hW rfl | with_reducible first | assumption | apply State.fieldOuts_ok | apply State.restartInputs_ok | apply State.on_ok | apply ws_f_FIO_STATUS_BRIDGE_OK
    | intro _
    | dsimp only
    | with_reducible apply ok_ite
    | ((with_reducible apply ok_mk) <;> first | exact Or.inr (sub_bit hE rfl) | exact Or.inr (Or.inr (sub_bit hE rfl)) | with_reducible first | exact Or.inl rfl | exact rfl | exact Or.inr (Or.inl rfl) | assumption | apply ok_ite | apply State.fieldOuts_ok | apply State.restartInputs_ok | apply State.on_ok | apply ws_f_FIO_STATUS_BRIDGE_OK)
    | split

theorem State.releaseDomain_ok {s0 : State} {E W : Nat} {s d} (hE : sub 70602224194 E = true) (hW : sub 1224740683405903509400127504036571536321454266976785042110216287628724667272845412813382260655064169826267467322455839327689599385117456073209238497885552418425169182119227996399430564844717700737400960 W = true) (h : Ok E W s0 s) :
    Ok E W s0 (State.releaseDomain s d) := by
  unfold State.releaseDomain
  repeat' first
    | exact sub_trans rfl hE | exact sub_trans rfl hW | exact sub_bit hW rfl | with_reducible first | assumption | apply State.loadCalendar_ok | apply State.releaseMgmt_ok | apply State.applyQuotas_ok | apply State.when_ok | apply State.each_ok | apply State.refreshAxis_ok | apply State.p_ok | apply State.releaseField_ok | apply State.motionReady_ok | apply ws_f_LSP_STATUS_RUNNING
    | intro _
    | dsimp only
    | with_reducible apply ok_ite
    | ((with_reducible apply ok_mk) <;> first | exact Or.inr (sub_bit hE rfl) | exact Or.inr (Or.inr (sub_bit hE rfl)) | with_reducible first | exact Or.inl rfl | exact rfl | exact Or.inr (Or.inl rfl) | assumption | apply ok_ite | apply State.loadCalendar_ok | apply State.releaseMgmt_ok | apply State.applyQuotas_ok | apply State.when_ok | apply State.each_ok | apply State.refreshAxis_ok | apply State.p_ok | apply State.releaseField_ok | apply State.motionReady_ok | apply ws_f_LSP_STATUS_RUNNING)
    | split

theorem wrRstCmd_ok {s0 : State} {E W : Nat} {v s} (hE : sub 2473901162438 E = true) (hW : sub allSlots W = true) (h : Ok E W s0 s) :
    Ok E W s0 (wrRstCmd v s) := by
  unfold wrRstCmd
  repeat' first
    | exact sub_trans rfl hE | exact sub_trans rfl hW | exact sub_bit hW rfl | with_reducible first | assumption | apply State.endReset_ok
    | intro _
    | dsimp only
    | with_reducible apply ok_ite
    | split

theorem execSoftwareReset_ok {s0 : State} {E W : Nat} {rq scope s} (hE : sub 2473901162438 E = true) (hW : sub allSlots W = true) (h : Ok E W s0 s) :
    OkOut E W s0 (execSoftwareReset rq scope s) := by
  unfold execSoftwareReset
  repeat' first
    | exact sub_trans rfl hE | exact sub_trans rfl hW | exact sub_bit hW rfl | with_reducible first | assumption | apply okOut_next | apply okOut_fault | apply State.write_ok | apply wrRstCmd_ok
    | intro _
    | dsimp only
    | with_reducible apply ok_ite
    | split

theorem wrRstWdog_ok {s0 : State} {E W : Nat} {v s} (hE : sub 8194 E = true) (hW : sub 2074757784440496479256203931845580575506223116121218449997828664845326405706454073199853524473551897144098943305650394591197575537705887653943437417056981843530590901700754761842688 W = true) (h : Ok E W s0 s) :
    Ok E W s0 (wrRstWdog v s) := by
  unfold wrRstWdog
  repeat' first
    | exact sub_trans rfl hE | exact sub_trans rfl hW | exact sub_bit hW rfl | with_reducible first | assumption | apply State.p_ok | apply State.when_ok | apply ws_f_RST_WDOG_TIMEOUT
    | intro _
    | dsimp only
    | with_reducible apply ok_ite
    | ((with_reducible apply ok_mk) <;> first | exact Or.inr (sub_bit hE rfl) | exact Or.inr (Or.inr (sub_bit hE rfl)) | with_reducible first | exact Or.inl rfl | exact rfl | exact Or.inr (Or.inl rfl) | assumption | apply ok_ite | apply State.p_ok | apply State.when_ok | apply ws_f_RST_WDOG_TIMEOUT)
    | split

theorem execPcieFundamentalReset_ok {s0 : State} {E W : Nat} {s} (hE : sub 2473901162438 E = true) (hW : sub allSlots W = true) (h : Ok E W s0 s) :
    OkOut E W s0 (execPcieFundamentalReset s) := by
  unfold execPcieFundamentalReset
  repeat' first
    | exact sub_trans rfl hE | exact sub_trans rfl hW | exact sub_bit hW rfl | with_reducible first | assumption | apply okOut_next | apply okOut_fault | apply State.endReset_ok
    | intro _
    | dsimp only
    | with_reducible apply ok_ite
    | split

theorem execWatchdogKick_ok {s0 : State} {E W : Nat} {rq s} (hE : sub 8706 E = true) (hW : sub 2074757784440496479256203931845580575506223116121218449997906132341669012964143750775013614829781788317883820011035314371893794966366392889782326777655385978473695666976047750971392 W = true) (h : Ok E W s0 s) :
    OkOut E W s0 (execWatchdogKick rq s) := by
  unfold execWatchdogKick
  repeat' first
    | exact sub_trans rfl hE | exact sub_trans rfl hW | exact sub_bit hW rfl | with_reducible first | assumption | apply okOut_next | apply okOut_fault | apply State.write_ok | apply wrRstWdog_ok
    | intro _
    | dsimp only
    | with_reducible apply ok_ite
    | split

theorem execDomainRelease_ok {s0 : State} {E W : Nat} {s} (hE : sub 70602224194 E = true) (hW : sub 1224740683405903509400127504036571536321454266976785042110216287628724667272845412813382260655064169826267467322455839327689599385117456073209238497885552418425169182119227996399430564844717700737400960 W = true) (h : Ok E W s0 s) :
    OkOut E W s0 (execDomainRelease s) := by
  unfold execDomainRelease
  repeat' first
    | exact sub_trans rfl hE | exact sub_trans rfl hW | exact sub_bit hW rfl | with_reducible first | assumption | apply okOut_next | apply okOut_fault | apply State.releaseDomain_ok
    | intro _
    | dsimp only
    | with_reducible apply ok_ite
    | ((with_reducible apply ok_mk) <;> first | exact Or.inr (sub_bit hE rfl) | exact Or.inr (Or.inr (sub_bit hE rfl)) | with_reducible first | exact Or.inl rfl | exact rfl | exact Or.inr (Or.inl rfl) | assumption | apply ok_ite | apply State.releaseDomain_ok)
    | split

theorem execPowerOnReset_ok {s0 : State} {E W : Nat} {s} (hE : sub 2473901162446 E = true) (hW : sub allSlots W = true) (h : Ok E W s0 s) :
    OkOut E W s0 (execPowerOnReset s) := by
  unfold execPowerOnReset
  repeat' first
    | exact sub_trans rfl hE | exact sub_trans rfl hW | exact sub_bit hW rfl | with_reducible first | assumption | apply okOut_next | apply okOut_fault | apply State.powerOn_ok
    | intro _
    | dsimp only
    | with_reducible apply ok_ite
    | split

theorem execCamelliaLockup_ok {s0 : State} {E W : Nat} {s} (hE : sub 2473901162438 E = true) (hW : sub allSlots W = true) (h : Ok E W s0 s) :
    OkOut E W s0 (execCamelliaLockup s) := by
  unfold execCamelliaLockup
  repeat' first
    | exact sub_trans rfl hE | exact sub_trans rfl hW | exact sub_bit hW rfl | with_reducible first | assumption | apply okOut_next | apply okOut_fault | apply State.endReset_ok | apply State.on_ok | apply ws_f_RST_LOCKUP_CAMELLIA
    | intro _
    | dsimp only
    | with_reducible apply ok_ite
    | split

theorem execWatchdogReset_ok {s0 : State} {E W : Nat} {s} (hE : sub 2473901162438 E = true) (hW : sub allSlots W = true) (h : Ok E W s0 s) :
    OkOut E W s0 (execWatchdogReset s) := by
  unfold execWatchdogReset
  repeat' first
    | exact sub_trans rfl hE | exact sub_trans rfl hW | exact sub_bit hW rfl | with_reducible first | assumption | apply okOut_next | apply okOut_fault | apply State.resetAll_ok
    | intro _
    | dsimp only
    | with_reducible apply ok_ite
    | split

end Sys2Proof.Machine
end

