-- ==== Sys2Proof/Laws/KeepClocks.lean ====
section
/-! SUPPORT. What the definitions of Machine/Clocks.lean keep: the queue, and the canonical forms of the register window and of
the memories; one lemma for each. -/

namespace Sys2Proof.Machine

theorem State.toSyspll_ok {s0 : State} {E W : Nat} {s} (hE : sub 8194 E = true) (hW : sub 116294195887297102487891809262081873365762983834628800334207223196594823441461000490077204358616414433055983289487096169080837959225180160 W = true) (h : Ok E W s0 s) :
    Ok E W s0 (State.toSyspll s) := by
  unfold State.toSyspll
  repeat' first
    | exact sub_trans rfl hE | exact sub_trans rfl hW | exact sub_bit hW rfl | with_reducible first | assumption | apply State.motionReady_ok | apply State.off_ok | apply State.p_ok | apply ws_f_CLK_DOM_SEL_SRC | apply ws_f_CLK_STATUS_MG_READY
    | intro _
    | dsimp only
    | with_reducible apply ok_ite
    | ((with_reducible apply ok_mk) <;> first | exact Or.inr (sub_bit hE rfl) | exact Or.inr (Or.inr (sub_bit hE rfl)) | with_reducible first | exact Or.inl rfl | exact rfl | exact Or.inr (Or.inl rfl) | assumption | apply ok_ite | apply State.motionReady_ok | apply State.off_ok | apply State.p_ok | apply ws_f_CLK_DOM_SEL_SRC | apply ws_f_CLK_STATUS_MG_READY)
    | split

theorem execRunReached_ok {s0 : State} {E W : Nat} {s} (hE : sub 268448322 E = true) (hW : sub 1167984798111281975972139931059274579172666502049663058598298481147215844791960746849457649636002117866009380199258785994066075200415856814551538395504642849598790889618416437735828909770688954368 W = true) (h : Ok E W s0 s) :
    OkOut E W s0 (execRunReached s) := by
  unfold execRunReached
  repeat' first
    | exact sub_trans rfl hE | exact sub_trans rfl hW | exact sub_bit hW rfl | with_reducible first | assumption | apply okOut_next | apply okOut_fault | apply State.toSyspll_ok | apply State.enterAcquire_ok | apply State.raiseSt_ok | apply State.off_ok | apply ws_f_HIF_LINK_L1
    | intro _
    | dsimp only
    | with_reducible apply ok_ite
    | ((with_reducible apply ok_mk) <;> first | exact Or.inr (sub_bit hE rfl) | exact Or.inr (Or.inr (sub_bit hE rfl)) | with_reducible first | exact Or.inl rfl | exact rfl | exact Or.inr (Or.inl rfl) | assumption | apply ok_ite | apply State.toSyspll_ok | apply State.enterAcquire_ok | apply State.raiseSt_ok | apply State.off_ok | apply ws_f_HIF_LINK_L1)
    | split

theorem State.clocksOff_ok {s0 : State} {E W : Nat} {s} (hE : sub 8194 E = true) (hW : sub 3440247923985107267416231342953130411194847483752421685606383259080384314132727212105027829665188529831936 W = true) (h : Ok E W s0 s) :
    Ok E W s0 (State.clocksOff s) := by
  unfold State.clocksOff
  repeat' first
    | exact sub_trans rfl hE | exact sub_trans rfl hW | exact sub_bit hW rfl | with_reducible first | assumption | apply State.off_ok | apply State.p_ok | apply ws_f_CLK_STATUS_MG_READY | apply ws_f_CLK_STATUS_PLL_READY
    | intro _
    | dsimp only
    | with_reducible apply ok_ite
    | ((with_reducible apply ok_mk) <;> first | exact Or.inr (sub_bit hE rfl) | exact Or.inr (Or.inr (sub_bit hE rfl)) | with_reducible first | exact Or.inl rfl | exact rfl | exact Or.inr (Or.inl rfl) | assumption | apply ok_ite | apply State.off_ok | apply State.p_ok | apply ws_f_CLK_STATUS_MG_READY | apply ws_f_CLK_STATUS_PLL_READY)
    | split

theorem cmdDoze_ok {s0 : State} {E W : Nat} {s} (hE : sub 1879603778 E = true) (hW : sub 1167985634190335588668508242682156145966373555747411183415082479397487404541669925919005342108151309215607365059374963118928102743399807090958016952457664640277207021370212061245323471359620153472 W = true) (h : Ok E W s0 s) :
    Ok E W s0 (cmdDoze s) := by
  unfold cmdDoze
  repeat' first
    | exact sub_trans rfl hE | exact sub_trans rfl hW | exact sub_bit hW rfl | with_reducible first | assumption | apply State.p_ok | apply State.on_ok | apply State.flushIntake_ok | apply State.endSession_ok | apply State.setServo_ok | apply State.clocksOff_ok | apply State.lockDevice_ok | apply ws_f_HIF_LINK_L1 | apply ws_f_PWR_STATUS_ENTRY_REFUSED | apply ws_f_PWR_STATUS_REASON
    | intro _
    | dsimp only
    | with_reducible apply ok_ite
    | ((with_reducible apply ok_mk) <;> first | exact Or.inr (sub_bit hE rfl) | exact Or.inr (Or.inr (sub_bit hE rfl)) | with_reducible first | exact Or.inl rfl | exact rfl | exact Or.inr (Or.inl rfl) | assumption | apply ok_ite | apply State.p_ok | apply State.on_ok | apply State.flushIntake_ok | apply State.endSession_ok | apply State.setServo_ok | apply State.clocksOff_ok | apply State.lockDevice_ok | apply ws_f_HIF_LINK_L1 | apply ws_f_PWR_STATUS_ENTRY_REFUSED | apply ws_f_PWR_STATUS_REASON)
    | split

theorem execDoze_ok {s0 : State} {E W : Nat} {rq s} (hE : sub 1879603778 E = true) (hW : sub 1167985634190335588668508242682156145966373555747411183415082479397487404619137422261612599797828884375697721289266136903804808128319587787177445612962900479166567619774347004350088746652609282176 W = true) (h : Ok E W s0 s) :
    OkOut E W s0 (execDoze rq s) := by
  unfold execDoze
  repeat' first
    | exact sub_trans rfl hE | exact sub_trans rfl hW | exact sub_bit hW rfl | with_reducible first | assumption | apply okOut_next | apply okOut_fault | apply State.write_ok | apply cmdDoze_ok
    | intro _
    | dsimp only
    | with_reducible apply ok_ite
    | split

theorem cmdDormant_ok {s0 : State} {E W : Nat} {s} (hE : sub 1611168258 E = true) (hW : sub 836079053612696368311622881566793707053697748124816900292446158856852197070878809774345514954333432613660450384348058622366425411276896555761311638205111472115041282719678575399548156379264 W = true) (h : Ok E W s0 s) :
    Ok E W s0 (cmdDormant s) := by
  unfold cmdDormant
  repeat' first
    | exact sub_trans rfl hE | exact sub_trans rfl hW | exact sub_bit hW rfl | with_reducible first | assumption | apply State.p_ok | apply State.on_ok | apply State.clocksOff_ok | apply State.lockDevice_ok | apply State.flushIntake_ok | apply State.endSession_ok | apply ws_f_PWR_STATUS_ENTRY_REFUSED | apply ws_f_PWR_STATUS_REASON
    | intro _
    | dsimp only
    | with_reducible apply ok_ite
    | ((with_reducible apply ok_mk) <;> first | exact Or.inr (sub_bit hE rfl) | exact Or.inr (Or.inr (sub_bit hE rfl)) | with_reducible first | exact Or.inl rfl | exact rfl | exact Or.inr (Or.inl rfl) | assumption | apply ok_ite | apply State.p_ok | apply State.on_ok | apply State.clocksOff_ok | apply State.lockDevice_ok | apply State.flushIntake_ok | apply State.endSession_ok | apply ws_f_PWR_STATUS_ENTRY_REFUSED | apply ws_f_PWR_STATUS_REASON)
    | split

theorem execWake_ok {s0 : State} {E W : Nat} {w s} (hE : sub 8194 E = true) (hW : sub 64836180763765514976756372870174392984569472378788076562432145776416450178326689787495422639798496785753091978301574830974924235553308989185732419283030682610330965678148586307584 W = true) (h : Ok E W s0 s) :
    OkOut E W s0 (execWake w s) := by
  unfold execWake
  repeat' first
    | exact sub_trans rfl hE | exact sub_trans rfl hW | exact sub_bit hW rfl | with_reducible first | assumption | apply okOut_next | apply okOut_fault | apply State.p_ok | apply ws_f_PWR_STATUS_WAKE_SRC
    | intro _
    | dsimp only
    | with_reducible apply ok_ite
    | ((with_reducible apply ok_mk) <;> first | exact Or.inr (sub_bit hE rfl) | exact Or.inr (Or.inr (sub_bit hE rfl)) | with_reducible first | exact Or.inl rfl | exact rfl | exact Or.inr (Or.inl rfl) | assumption | apply ok_ite | apply State.p_ok | apply ws_f_PWR_STATUS_WAKE_SRC)
    | split

theorem execMissingClockTrip_ok {s0 : State} {E W : Nat} {s} (hE : sub 1611168258 E = true) (hW : sub 836079053572173755334269434706320974009838752509460980055703611005332105960618528558528495952518334451073516744934896876509817954103420265877384821033631341681932418534399844343686386155648 W = true) (h : Ok E W s0 s) :
    OkOut E W s0 (execMissingClockTrip s) := by
  unfold execMissingClockTrip
  repeat' first
    | exact sub_trans rfl hE | exact sub_trans rfl hW | exact sub_bit hW rfl | with_reducible first | assumption | apply okOut_next | apply okOut_fault | apply State.refreshAxes_ok | apply State.lockDevice_ok | apply State.on_ok | apply State.bitField_ok | apply ws_f_CLK_STATUS_PLL_READY | apply ws_f_CLK_STATUS_TRIP_SEEN
    | intro _
    | dsimp only
    | with_reducible apply ok_ite
    | ((with_reducible apply ok_mk) <;> first | exact Or.inr (sub_bit hE rfl) | exact Or.inr (Or.inr (sub_bit hE rfl)) | with_reducible first | exact Or.inl rfl | exact rfl | exact Or.inr (Or.inl rfl) | assumption | apply ok_ite | apply State.refreshAxes_ok | apply State.lockDevice_ok | apply State.on_ok | apply State.bitField_ok | apply ws_f_CLK_STATUS_PLL_READY | apply ws_f_CLK_STATUS_TRIP_SEEN)
    | split

theorem State.beginRefSwitch_ok {s0 : State} {E W : Nat} {s new cause} (hE : sub 8194 E = true) (hW : sub 37341024341588351798413677701637103004844073729896077045852618291268338076315643281389989567824233834217472 W = true) (h : Ok E W s0 s) :
    Ok E W s0 (State.beginRefSwitch s new cause) := by
  unfold State.beginRefSwitch
  repeat' first
    | exact sub_trans rfl hE | exact sub_trans rfl hW | exact sub_bit hW rfl | with_reducible first | assumption | apply State.off_ok | apply State.on_ok | apply ws_f_CLK_STATUS_BETTER_PENDING | apply ws_f_CLK_STATUS_HOLDOFF | apply ws_f_CLK_STATUS_SWITCHING
    | intro _
    | dsimp only
    | with_reducible apply ok_ite
    | ((with_reducible apply ok_mk) <;> first | exact Or.inr (sub_bit hE rfl) | exact Or.inr (Or.inr (sub_bit hE rfl)) | with_reducible first | exact Or.inl rfl | exact rfl | exact Or.inr (Or.inl rfl) | assumption | apply ok_ite | apply State.off_ok | apply State.on_ok | apply ws_f_CLK_STATUS_BETTER_PENDING | apply ws_f_CLK_STATUS_HOLDOFF | apply ws_f_CLK_STATUS_SWITCHING)
    | split

theorem cmdRefSwitch_ok {s0 : State} {E W : Nat} {s} (hE : sub 8194 E = true) (hW : sub 37484368005087731267889354007593483438643859041719094616086217593730020756071173581894365727393616689627136 W = true) (h : Ok E W s0 s) :
    Ok E W s0 (cmdRefSwitch s) := by
  unfold cmdRefSwitch
  repeat' first
    | exact sub_trans rfl hE | exact sub_trans rfl hW | exact sub_bit hW rfl | with_reducible first | assumption | apply State.on_ok | apply State.beginRefSwitch_ok | apply ws_f_CLK_STATUS_CMD_REFUSED
    | intro _
    | dsimp only
    | with_reducible apply ok_ite
    | split

theorem execRefSwitch_ok {s0 : State} {E W : Nat} {rq s} (hE : sub 8706 E = true) (hW : sub 77467496342607295174045580247821624119245181378360144028778822415314044746722829568910116669577716837470492668909678755840 W = true) (h : Ok E W s0 s) :
    OkOut E W s0 (execRefSwitch rq s) := by
  unfold execRefSwitch
  repeat' first
    | exact sub_trans rfl hE | exact sub_trans rfl hW | exact sub_bit hW rfl | with_reducible first | assumption | apply okOut_next | apply okOut_fault | apply State.write_ok | apply cmdRefSwitch_ok
    | intro _
    | dsimp only
    | with_reducible apply ok_ite
    | split

theorem wrClkDomSel_ok {s0 : State} {E W : Nat} {v s} (hE : sub 514 E = true) (hW : sub 73393075584053377273651547370807066327629140476133613284370292854932013930767103938713284138270657773305856 W = true) (h : Ok E W s0 s) :
    Ok E W s0 (wrClkDomSel v s) := by
  unfold wrClkDomSel
  repeat' first
    | exact sub_trans rfl hE | exact sub_trans rfl hW | exact sub_bit hW rfl | with_reducible first | assumption | apply State.on_ok | apply State.raiseSt_ok | apply State.p_ok | apply ws_f_CLK_DOM_SEL_SRC | apply ws_f_CLK_STATUS_SWITCH_REFUSED
    | intro _
    | dsimp only
    | with_reducible apply ok_ite
    | split

theorem execClkDomSelWrite_ok {s0 : State} {E W : Nat} {rq v s} (hE : sub 514 E = true) (hW : sub 77467496342607331082753159213467629881438544591943033014060256829832713030798090770903291365508073656388903545950762434560 W = true) (h : Ok E W s0 s) :
    OkOut E W s0 (execClkDomSelWrite rq v s) := by
  unfold execClkDomSelWrite
  repeat' first
    | exact sub_trans rfl hE | exact sub_trans rfl hW | exact sub_bit hW rfl | with_reducible first | assumption | apply okOut_next | apply okOut_fault | apply State.write_ok | apply wrClkDomSel_ok
    | intro _
    | dsimp only
    | with_reducible apply ok_ite
    | split

theorem cmdReturn_ok {s0 : State} {E W : Nat} {s} (hE : sub 2473901162438 E = true) (hW : sub allSlots W = true) (h : Ok E W s0 s) :
    Ok E W s0 (cmdReturn s) := by
  unfold cmdReturn
  repeat' first
    | exact sub_trans rfl hE | exact sub_trans rfl hW | exact sub_bit hW rfl | with_reducible first | assumption | apply State.on_ok | apply State.toSyspll_ok | apply State.off_ok | apply State.resetDomains_ok | apply State.releaseDomain_ok | apply ws_f_CLK_STATUS_CMD_REFUSED | apply ws_f_CLK_STATUS_DEGRADED
    | intro _
    | dsimp only
    | with_reducible apply ok_ite
    | ((with_reducible apply ok_mk) <;> first | exact Or.inr (sub_bit hE rfl) | exact Or.inr (Or.inr (sub_bit hE rfl)) | with_reducible first | exact Or.inl rfl | exact rfl | exact Or.inr (Or.inl rfl) | assumption | apply ok_ite | apply State.on_ok | apply State.toSyspll_ok | apply State.off_ok | apply State.resetDomains_ok | apply State.releaseDomain_ok | apply ws_f_CLK_STATUS_CMD_REFUSED | apply ws_f_CLK_STATUS_DEGRADED)
    | split

theorem execReturn__ok {s0 : State} {E W : Nat} {rq s} (hE : sub 2473901162438 E = true) (hW : sub allSlots W = true) (h : Ok E W s0 s) :
    OkOut E W s0 (execReturn_ rq s) := by
  unfold execReturn_
  repeat' first
    | exact sub_trans rfl hE | exact sub_trans rfl hW | exact sub_bit hW rfl | with_reducible first | assumption | apply okOut_next | apply okOut_fault | apply State.write_ok | apply cmdReturn_ok
    | intro _
    | dsimp only
    | with_reducible apply ok_ite
    | split

theorem execMarigoldTrimBurst_ok {s0 : State} {E W : Nat} {s} (hE : sub 8210 E = true) (hW : sub 293567822846729153486185074598667128421960318613539983838411371441526128139326055432962374798096087878991872 W = true) (h : Ok E W s0 s) :
    OkOut E W s0 (execMarigoldTrimBurst s) := by
  unfold execMarigoldTrimBurst
  repeat' first
    | exact sub_trans rfl hE | exact sub_trans rfl hW | exact sub_bit hW rfl | with_reducible first | assumption | apply okOut_next | apply okOut_fault | apply State.took_ok | apply State.p_ok | apply ws_f_CLK_TRIM_MG_TRIM
    | intro _
    | dsimp only
    | with_reducible apply ok_ite
    | ((with_reducible apply ok_mk) <;> first | exact Or.inr (sub_bit hE rfl) | exact Or.inr (Or.inr (sub_bit hE rfl)) | with_reducible first | exact Or.inl rfl | exact rfl | exact Or.inr (Or.inl rfl) | assumption | apply ok_ite | apply State.took_ok | apply State.p_ok | apply ws_f_CLK_TRIM_MG_TRIM)
    | split

theorem State.pendRef_ok {s0 : State} {E W : Nat} {s r} (hE : sub 8194 E = true) (hW : sub 71671831749689734737838152978190216899892655911508785116799651230841339877765150252188079784691427704832 W = true) (h : Ok E W s0 s) :
    Ok E W s0 (State.pendRef s r) := by
  unfold State.pendRef
  repeat' first
    | exact sub_trans rfl hE | exact sub_trans rfl hW | exact sub_bit hW rfl | with_reducible first | assumption | apply State.pb_ok | apply ws_f_CLK_STATUS_BETTER_PENDING
    | intro _
    | dsimp only
    | with_reducible apply ok_ite
    | ((with_reducible apply ok_mk) <;> first | exact Or.inr (sub_bit hE rfl) | exact Or.inr (Or.inr (sub_bit hE rfl)) | with_reducible first | exact Or.inl rfl | exact rfl | exact Or.inr (Or.inl rfl) | assumption | apply ok_ite | apply State.pb_ok | apply ws_f_CLK_STATUS_BETTER_PENDING)
    | split

theorem State.refCheck_ok {s0 : State} {E W : Nat} {s} (hE : sub 8194 E = true) (hW : sub 37341024341588351798413677701637103004844073729896077045852618291268338076315643281389989567824233834217472 W = true) (h : Ok E W s0 s) :
    Ok E W s0 (State.refCheck s) := by
  unfold State.refCheck
  repeat' first
    | exact sub_trans rfl hE | exact sub_trans rfl hW | exact sub_bit hW rfl | with_reducible first | assumption | apply State.pendRef_ok | apply State.beginRefSwitch_ok
    | intro _
    | dsimp only
    | with_reducible apply ok_ite
    | split

theorem wrClkRefCfg_ok {s0 : State} {E W : Nat} {v s} (hE : sub 8194 E = true) (hW : sub 37484368005087731267889354007593483438643859041719094616086217593730020756071173581894365727675091666337792 W = true) (h : Ok E W s0 s) :
    Ok E W s0 (wrClkRefCfg v s) := by
  unfold wrClkRefCfg
  repeat' first
    | exact sub_trans rfl hE | exact sub_trans rfl hW | exact sub_bit hW rfl | with_reducible first | assumption | apply State.on_ok | apply State.refCheck_ok | apply State.merge_ok | apply ws_f_CLK_STATUS_CMD_REFUSED | apply ws_r_CLK_REF_CFG | apply wrF_of_wr
    | intro _
    | dsimp only
    | with_reducible apply ok_ite
    | split

theorem wrPwrCmd_ok {s0 : State} {E W : Nat} {v s} (hE : sub 1879603778 E = true) (hW : sub 1167985634190335588668508242682156145966373555747411183415082479397487404541669925919005342108151309215607365059374963118928102743399807090958016952457664640277207021370212061245323471359620153472 W = true) (h : Ok E W s0 s) :
    Ok E W s0 (wrPwrCmd v s) := by
  unfold wrPwrCmd
  repeat' first
    | exact sub_trans rfl hE | exact sub_trans rfl hW | exact sub_bit hW rfl | with_reducible first | assumption | apply cmdDoze_ok | apply State.when_ok | apply cmdDormant_ok
    | intro _
    | dsimp only
    | with_reducible apply ok_ite
    | split

theorem State.completeRefSwitch_ok {s0 : State} {E W : Nat} {s timedOut} (hE : sub 12290 E = true) (hW : sub 41997453660576006752162600202938898659058974718646913428909695632172061376499197886836833876898854981337088 W = true) (h : Ok E W s0 s) :
    Ok E W s0 (State.completeRefSwitch s timedOut) := by
  unfold State.completeRefSwitch
  repeat' first
    | exact sub_trans rfl hE | exact sub_trans rfl hW | exact sub_bit hW rfl | with_reducible first | assumption | apply State.pb_ok | apply State.p_ok | apply State.wr_ok | apply State.journal_ok | apply State.off_ok | apply State.refCheck_ok | apply State.on_ok | apply ws_f_CLK_REF_LOG_CAUSE | apply ws_f_CLK_REF_LOG_DURATION | apply ws_f_CLK_REF_LOG_NEW | apply ws_f_CLK_REF_LOG_OLD | apply ws_f_CLK_REF_LOG_TIMED_OUT | apply ws_f_CLK_STATUS_HOLDOFF | apply ws_f_CLK_STATUS_REF_IN_USE | apply ws_f_CLK_STATUS_SWITCHING | apply ws_r_CLK_REF_LOG_END | apply wrF_of_wr
    | intro _
    | dsimp only
    | with_reducible apply ok_ite
    | ((with_reducible apply ok_mk) <;> first | exact Or.inr (sub_bit hE rfl) | exact Or.inr (Or.inr (sub_bit hE rfl)) | with_reducible first | exact Or.inl rfl | exact rfl | exact Or.inr (Or.inl rfl) | assumption | apply ok_ite | apply State.pb_ok | apply State.p_ok | apply State.wr_ok | apply State.journal_ok | apply State.off_ok | apply State.refCheck_ok | apply State.on_ok | apply ws_f_CLK_REF_LOG_CAUSE | apply ws_f_CLK_REF_LOG_DURATION | apply ws_f_CLK_REF_LOG_NEW | apply ws_f_CLK_REF_LOG_OLD | apply ws_f_CLK_REF_LOG_TIMED_OUT | apply ws_f_CLK_STATUS_HOLDOFF | apply ws_f_CLK_STATUS_REF_IN_USE | apply ws_f_CLK_STATUS_SWITCHING | apply ws_r_CLK_REF_LOG_END | apply wrF_of_wr)
    | split

theorem execRefSwitchTimeout_ok {s0 : State} {E W : Nat} {s} (hE : sub 12290 E = true) (hW : sub 41997453660576006752162600202938898659058974718646913428909695632172061376499197886836833876898854981337088 W = true) (h : Ok E W s0 s) :
    OkOut E W s0 (execRefSwitchTimeout s) := by
  unfold execRefSwitchTimeout
  repeat' first
    | exact sub_trans rfl hE | exact sub_trans rfl hW | exact sub_bit hW rfl | with_reducible first | assumption | apply okOut_next | apply okOut_fault | apply State.completeRefSwitch_ok
    | intro _
    | dsimp only
    | with_reducible apply ok_ite
    | split

theorem execMempllLoss_ok {s0 : State} {E W : Nat} {s} (hE : sub 8194 E = true) (hW : sub 2293498615990071511610820895302086940796564989168281123737588839386922876088484808070018553110125686554624 W = true) (h : Ok E W s0 s) :
    OkOut E W s0 (execMempllLoss s) := by
  unfold execMempllLoss
  repeat' first
    | exact sub_trans rfl hE | exact sub_trans rfl hW | exact sub_bit hW rfl | with_reducible first | assumption | apply okOut_next | apply okOut_fault | apply State.bitField_ok | apply ws_f_CLK_STATUS_PLL_READY
    | intro _
    | dsimp only
    | with_reducible apply ok_ite
    | ((with_reducible apply ok_mk) <;> first | exact Or.inr (sub_bit hE rfl) | exact Or.inr (Or.inr (sub_bit hE rfl)) | with_reducible first | exact Or.inl rfl | exact rfl | exact Or.inr (Or.inl rfl) | assumption | apply ok_ite | apply State.bitField_ok | apply ws_f_CLK_STATUS_PLL_READY)
    | split

theorem execNetpllLoss_ok {s0 : State} {E W : Nat} {s} (hE : sub 8589943298 E = true) (hW : sub 306180207201236440910627851252675700638907694219693404280123467574719555263489088314051716690023215659115532247542956658244083141890725705383757131516458477939406213624770661057837975887997906865618944 W = true) (h : Ok E W s0 s) :
    OkOut E W s0 (execNetpllLoss s) := by
  unfold execNetpllLoss
  repeat' first
    | exact sub_trans rfl hE | exact sub_trans rfl hW | exact sub_bit hW rfl | with_reducible first | assumption | apply okOut_next | apply okOut_fault | apply State.bitField_ok | apply State.off_ok | apply State.each_ok | apply State.linkDown_ok | apply ws_f_CLK_STATUS_PLL_READY | apply ws_f_TB_CTRL_TICK_SRC
    | intro _
    | dsimp only
    | with_reducible apply ok_ite
    | ((with_reducible apply ok_mk) <;> first | exact Or.inr (sub_bit hE rfl) | exact Or.inr (Or.inr (sub_bit hE rfl)) | with_reducible first | exact Or.inl rfl | exact rfl | exact Or.inr (Or.inl rfl) | assumption | apply ok_ite | apply State.bitField_ok | apply State.off_ok | apply State.each_ok | apply State.linkDown_ok | apply ws_f_CLK_STATUS_PLL_READY | apply ws_f_TB_CTRL_TICK_SRC)
    | split

theorem State.chipFault_ok {s0 : State} {E W : Nat} {s cause region} (hE : sub 70330644994 E = true) (hW : sub 835416193357138429995104828624543493162931420298537644215570113410038959959509730907705443312326277187039824749055165887099541066855207606133229692443251092841306300766882502363971860824192 W = true) (h : Ok E W s0 s) :
    Ok E W s0 (State.chipFault s cause region) := by
  unfold State.chipFault
  repeat' first
    | exact sub_trans rfl hE | exact sub_trans rfl hW | exact sub_bit hW rfl | with_reducible first | assumption | apply State.p_ok | apply State.each_ok | apply State.evalGroups_ok | apply State.engage_ok | apply State.fieldOuts_ok | apply State.refreshAxes_ok | apply ws_f_GLB_CHIP_FAULT_CAUSE | apply ws_f_GLB_CHIP_FAULT_REGION | apply ws_f_GLB_CHIP_FAULT_TIME_HI
    | intro _
    | dsimp only
    | with_reducible apply ok_ite
    | ((with_reducible apply ok_mk) <;> first | exact Or.inr (sub_bit hE rfl) | exact Or.inr (Or.inr (sub_bit hE rfl)) | with_reducible first | exact Or.inl rfl | exact rfl | exact Or.inr (Or.inl rfl) | assumption | apply ok_ite | apply State.p_ok | apply State.each_ok | apply State.evalGroups_ok | apply State.engage_ok | apply State.fieldOuts_ok | apply State.refreshAxes_ok | apply ws_f_GLB_CHIP_FAULT_CAUSE | apply ws_f_GLB_CHIP_FAULT_REGION | apply ws_f_GLB_CHIP_FAULT_TIME_HI)
    | split

theorem execMarigoldTimeout_ok {s0 : State} {E W : Nat} {s} (hE : sub 2473901162438 E = true) (hW : sub allSlots W = true) (h : Ok E W s0 s) :
    OkOut E W s0 (execMarigoldTimeout s) := by
  unfold execMarigoldTimeout
  repeat' first
    | exact sub_trans rfl hE | exact sub_trans rfl hW | exact sub_bit hW rfl | with_reducible first | assumption | apply okOut_next | apply okOut_fault | apply State.resetAll_ok | apply State.chipFault_ok
    | intro _
    | dsimp only
    | with_reducible apply ok_ite
    | split

theorem execMarigoldReady_ok {s0 : State} {E W : Nat} {s} (hE : sub 2473901162438 E = true) (hW : sub allSlots W = true) (h : Ok E W s0 s) :
    OkOut E W s0 (execMarigoldReady s) := by
  unfold execMarigoldReady
  repeat' first
    | exact sub_trans rfl hE | exact sub_trans rfl hW | exact sub_bit hW rfl | with_reducible first | assumption | apply okOut_next | apply okOut_fault | apply State.on_ok | apply State.p_ok | apply State.off_ok | apply State.holdDomains_ok | apply State.when_ok | apply State.setServo_ok | apply State.raiseSt_ok | apply ws_f_CLK_DOM_SEL_SRC | apply ws_f_CLK_STATUS_DEGRADED | apply ws_f_CLK_STATUS_MG_READY | apply ws_f_FIO_STATUS_BRIDGE_OK
    | intro _
    | dsimp only
    | with_reducible apply ok_ite
    | ((with_reducible apply ok_mk) <;> first | exact Or.inr (sub_bit hE rfl) | exact Or.inr (Or.inr (sub_bit hE rfl)) | with_reducible first | exact Or.inl rfl | exact rfl | exact Or.inr (Or.inl rfl) | assumption | apply ok_ite | apply State.on_ok | apply State.p_ok | apply State.off_ok | apply State.holdDomains_ok | apply State.when_ok | apply State.setServo_ok | apply State.raiseSt_ok | apply ws_f_CLK_DOM_SEL_SRC | apply ws_f_CLK_STATUS_DEGRADED | apply ws_f_CLK_STATUS_MG_READY | apply ws_f_FIO_STATUS_BRIDGE_OK)
    | split

theorem execDormant_ok {s0 : State} {E W : Nat} {rq s} (hE : sub 1611168258 E = true) (hW : sub 836079053612696368311622881566793707053697748124816900292446158856929664567221417032035192529493522969890341558132935327751345191973115984421816874044000832713445417662783340674841145507968 W = true) (h : Ok E W s0 s) :
    OkOut E W s0 (execDormant rq s) := by
  unfold execDormant
  repeat' first
    | exact sub_trans rfl hE | exact sub_trans rfl hW | exact sub_bit hW rfl | with_reducible first | assumption | apply okOut_next | apply okOut_fault | apply State.write_ok | apply cmdDormant_ok
    | intro _
    | dsimp only
    | with_reducible apply ok_ite
    | split

theorem wrClkCmd_ok {s0 : State} {E W : Nat} {v s} (hE : sub 2473901162438 E = true) (hW : sub allSlots W = true) (h : Ok E W s0 s) :
    Ok E W s0 (wrClkCmd v s) := by
  unfold wrClkCmd
  repeat' first
    | exact sub_trans rfl hE | exact sub_trans rfl hW | exact sub_bit hW rfl | with_reducible first | assumption | apply State.when_ok | apply cmdRefSwitch_ok | apply cmdReturn_ok
    | intro _
    | dsimp only
    | with_reducible apply ok_ite
    | split

theorem execSnowdropTrim_ok {s0 : State} {E W : Nat} {s} (hE : sub 8210 E = true) (hW : sub 605483634621378879065256716359750952370293157140426216666723453598147639287359989330484898021073181250420736 W = true) (h : Ok E W s0 s) :
    OkOut E W s0 (execSnowdropTrim s) := by
  unfold execSnowdropTrim
  repeat' first
    | exact sub_trans rfl hE | exact sub_trans rfl hW | exact sub_bit hW rfl | with_reducible first | assumption | apply okOut_next | apply okOut_fault | apply State.on_ok | apply State.took_ok | apply State.p_ok | apply ws_f_CLK_STATUS_SD_TRIMMED | apply ws_f_CLK_TRIM_SD_TRIM
    | intro _
    | dsimp only
    | with_reducible apply ok_ite
    | ((with_reducible apply ok_mk) <;> first | exact Or.inr (sub_bit hE rfl) | exact Or.inr (Or.inr (sub_bit hE rfl)) | with_reducible first | exact Or.inl rfl | exact rfl | exact Or.inr (Or.inl rfl) | assumption | apply ok_ite | apply State.on_ok | apply State.took_ok | apply State.p_ok | apply ws_f_CLK_STATUS_SD_TRIMMED | apply ws_f_CLK_TRIM_SD_TRIM)
    | split

theorem execPllReady_ok {s0 : State} {E W : Nat} {p s} (hE : sub 12290 E = true) (hW : sub 116294195887297102487891809262126164318039549912892573755305464182194678981168815684629851643087973417308570972182003021510846939893071872 W = true) (h : Ok E W s0 s) :
    OkOut E W s0 (execPllReady p s) := by
  unfold execPllReady
  repeat' first
    | exact sub_trans rfl hE | exact sub_trans rfl hW | exact sub_bit hW rfl | with_reducible first | assumption | apply okOut_next | apply okOut_fault | apply State.bitField_ok | apply State.when_ok | apply State.toSyspll_ok | apply State.completeRefSwitch_ok | apply ws_f_CLK_STATUS_PLL_READY
    | intro _
    | dsimp only
    | with_reducible apply ok_ite
    | ((with_reducible apply ok_mk) <;> first | exact Or.inr (sub_bit hE rfl) | exact Or.inr (Or.inr (sub_bit hE rfl)) | with_reducible first | exact Or.inl rfl | exact rfl | exact Or.inr (Or.inl rfl) | assumption | apply ok_ite | apply State.bitField_ok | apply State.when_ok | apply State.toSyspll_ok | apply State.completeRefSwitch_ok | apply ws_f_CLK_STATUS_PLL_READY)
    | split

theorem execSequencerCoreFault_ok {s0 : State} {E W : Nat} {c s} (hE : sub 1614303746 E = true) (hW : sub allSlots W = true) (h : Ok E W s0 s) :
    OkOut E W s0 (execSequencerCoreFault c s) := by
  unfold execSequencerCoreFault
  repeat' first
    | exact sub_trans rfl hE | exact sub_trans rfl hW | exact sub_bit hW rfl | with_reducible first | assumption | apply okOut_next | apply okOut_fault | apply State.raiseSt_ok | apply State.bitField_ok | apply State.each_ok | apply State.configuredStop_ok | apply State.when_ok | apply State.keepRegs_ok | apply State.resetEvent_ok | apply State.noteReset_ok | apply ws_f_LSP_STATUS_FAULT | apply ws_f_RST_LOCKUP_CORE
    | intro _
    | dsimp only
    | with_reducible apply ok_ite
    | split

theorem execSnowdropStop_ok {s0 : State} {E W : Nat} {s} (hE : sub 2473901162446 E = true) (hW : sub allSlots W = true) (h : Ok E W s0 s) :
    OkOut E W s0 (execSnowdropStop s) := by
  unfold execSnowdropStop
  repeat' first
    | exact sub_trans rfl hE | exact sub_trans rfl hW | exact sub_bit hW rfl | with_reducible first | assumption | apply okOut_next | apply okOut_fault | apply State.powerOn_ok | apply State.lockDevice_ok
    | intro _
    | dsimp only
    | with_reducible apply ok_ite
    | split

theorem execRefHoldoffEnd_ok {s0 : State} {E W : Nat} {s} (hE : sub 8194 E = true) (hW : sub 37341024341588351798413677701637103004844073729896077045852618291268338076315643281389989567824233834217472 W = true) (h : Ok E W s0 s) :
    OkOut E W s0 (execRefHoldoffEnd s) := by
  unfold execRefHoldoffEnd
  repeat' first
    | exact sub_trans rfl hE | exact sub_trans rfl hW | exact sub_bit hW rfl | with_reducible first | assumption | apply okOut_next | apply okOut_fault | apply State.refCheck_ok | apply State.off_ok | apply ws_f_CLK_STATUS_HOLDOFF
    | intro _
    | dsimp only
    | with_reducible apply ok_ite
    | split

theorem execReferenceLost_ok {s0 : State} {E W : Nat} {r s} (hE : sub 8194 E = true) (hW : sub 46515018805548637844856961282845450768030333686569201540802973648816029580669582513670063780264736580435968 W = true) (h : Ok E W s0 s) :
    OkOut E W s0 (execReferenceLost r s) := by
  unfold execReferenceLost
  repeat' first
    | exact sub_trans rfl hE | exact sub_trans rfl hW | exact sub_bit hW rfl | with_reducible first | assumption | apply okOut_next | apply okOut_fault | apply State.bitField_ok | apply State.refCheck_ok | apply State.when_ok | apply State.off_ok | apply ws_f_CLK_STATUS_HOLDOFF | apply ws_f_CLK_STATUS_REF_READY
    | intro _
    | dsimp only
    | with_reducible apply ok_ite
    | split

theorem execReferenceReady_ok {s0 : State} {E W : Nat} {r s} (hE : sub 8194 E = true) (hW : sub 46515018805548637844856961282845450768030333686569201540802973648816029580669582513670063780264736580435968 W = true) (h : Ok E W s0 s) :
    OkOut E W s0 (execReferenceReady r s) := by
  unfold execReferenceReady
  repeat' first
    | exact sub_trans rfl hE | exact sub_trans rfl hW | exact sub_bit hW rfl | with_reducible first | assumption | apply okOut_next | apply okOut_fault | apply State.refCheck_ok | apply State.bitField_ok | apply ws_f_CLK_STATUS_REF_READY
    | intro _
    | dsimp only
    | with_reducible apply ok_ite
    | split

end Sys2Proof.Machine
end

