-- ==== Sys2Proof/Laws/KeepContainment.lean ====
section
/-! SUPPORT. What the definitions of Machine/Containment.lean keep: the queue, and the canonical forms of the register window and of
the memories; one lemma for each. -/

namespace Sys2Proof.Machine

theorem State.copiesIsolated_ok {s0 : State} {E W : Nat} {s} (hE : sub 142606370 E = true) (hW : sub 470292797823104873946993638534557402034134251131699132278407892978252011754981056526584746330023355038140849148622087426149225386113740124663217010079248382781010690270775724350713689745694718605578469376 W = true) (h : Ok E W s0 s) :
    Ok E W s0 (State.copiesIsolated s) := by
  unfold State.copiesIsolated
  repeat' first
    | exact sub_trans rfl hE | exact sub_trans rfl hW | exact sub_bit hW rfl | with_reducible first | assumption | apply State.endCopies_ok | apply State.each_ok | apply State.copyDone_ok
    | intro _
    | dsimp only
    | with_reducible apply ok_ite
    | ((with_reducible apply ok_mk) <;> first | exact Or.inr (sub_bit hE rfl) | exact Or.inr (Or.inr (sub_bit hE rfl)) | with_reducible first | exact Or.inl rfl | exact rfl | exact Or.inr (Or.inl rfl) | assumption | apply ok_ite | apply State.endCopies_ok | apply State.each_ok | apply State.copyDone_ok)
    | split

theorem State.regionReaction_ok {s0 : State} {E W : Nat} {s r} (hE : sub 70744832674 E = true) (hW : sub 471517518650770045635284173308663146205160264307831666510272736038722019724012224370800783893901615697234934483683280289811237379267138784398832214021797439864955053618953835816922247825895194594606317696 W = true) (h : Ok E W s0 s) :
    Ok E W s0 (State.regionReaction s r) := by
  unfold State.regionReaction
  repeat' first
    | exact sub_trans rfl hE | exact sub_trans rfl hW | exact sub_bit hW rfl | with_reducible first | assumption | apply State.refreshAxes_ok | apply State.each_ok | apply State.evalGroups_ok | apply State.engage_ok | apply State.levelStop_ok | apply State.configuredStop_ok | apply State.shaftLost_ok | apply State.chipFault_ok | apply State.copiesIsolated_ok | apply State.lockDevice_ok | apply State.fieldOuts_ok | apply State.off_ok | apply ws_f_FIO_STATUS_BRIDGE_OK
    | intro _
    | dsimp only
    | with_reducible apply ok_ite
    | ((with_reducible apply ok_mk) <;> first | exact Or.inr (sub_bit hE rfl) | exact Or.inr (Or.inr (sub_bit hE rfl)) | with_reducible first | exact Or.inl rfl | exact rfl | exact Or.inr (Or.inl rfl) | assumption | apply ok_ite | apply State.refreshAxes_ok | apply State.each_ok | apply State.evalGroups_ok | apply State.engage_ok | apply State.levelStop_ok | apply State.configuredStop_ok | apply State.shaftLost_ok | apply State.chipFault_ok | apply State.copiesIsolated_ok | apply State.lockDevice_ok | apply State.fieldOuts_ok | apply State.off_ok | apply ws_f_FIO_STATUS_BRIDGE_OK)
    | split

theorem State.regionFault_ok {s0 : State} {E W : Nat} {s r} (hE : sub 70744832674 E = true) (hW : sub 471517518650770045635284173308663146205160264307831666510272736039838444004530276554684545262817590662002127613699000830403606325208600730941011424250826893761295890320285069004147097131804342696158429312 W = true) (h : Ok E W s0 s) :
    Ok E W s0 (State.regionFault s r) := by
  unfold State.regionFault
  repeat' first
    | exact sub_trans rfl hE | exact sub_trans rfl hW | exact sub_bit hW rfl | with_reducible first | assumption | apply State.p_ok | apply State.chipFault_ok | apply State.lockDevice_ok | apply State.regionReaction_ok | apply State.raiseSt_ok | apply ws_f_GLB_REGION_STATE_ISOLATED | apply ws_f_GLB_REGION_STATE_REGION_FAULT
    | intro _
    | dsimp only
    | with_reducible apply ok_ite
    | split

theorem execTopFabricTimeout_ok {s0 : State} {E W : Nat} {s} (hE : sub 70330644994 E = true) (hW : sub 835416193357138429995104828624543493162931420298537644215570113410038959959509730907705443312326277187039824749055165887099541066855207606133229692443251092841306300766882502363971860824192 W = true) (h : Ok E W s0 s) :
    OkOut E W s0 (execTopFabricTimeout s) := by
  unfold execTopFabricTimeout
  repeat' first
    | exact sub_trans rfl hE | exact sub_trans rfl hW | exact sub_bit hW rfl | with_reducible first | assumption | apply okOut_next | apply okOut_fault | apply State.chipFault_ok
    | intro _
    | dsimp only
    | with_reducible apply ok_ite
    | split

theorem State.clusterReport_ok {s0 : State} {E W : Nat} {s c} (hE : sub 2 E = true) (hW : sub 186070713419675363980626894819329160794532188335953423432061490990243657757029868371504908982723472783555205531204141550984858016925351936 W = true) (h : Ok E W s0 s) :
    Ok E W s0 (State.clusterReport s c) := by
  unfold State.clusterReport
  repeat' first
    | exact sub_trans rfl hE | exact sub_trans rfl hW | exact sub_bit hW rfl | with_reducible first | assumption | apply State.p_ok | apply ws_f_GLB_REGION_STATE_CLUSTER_FAULT_SEEN
    | intro _
    | dsimp only
    | with_reducible apply ok_ite
    | split

theorem State.clusterEscalate_ok {s0 : State} {E W : Nat} {s c} (hE : sub 36116648498 E = true) (hW : sub 491113051893398579312387426155079457123163207184008451953179116589708169129281970959556624582782215146095375903943478991217291851174184593033743776788797050650935473751245026604493235537800038073426247808 W = true) (h : Ok E W s0 s) :
    Ok E W s0 (State.clusterEscalate s c) := by
  unfold State.clusterEscalate
  repeat' first
    | exact sub_trans rfl hE | exact sub_trans rfl hW | exact sub_bit hW rfl | with_reducible first | assumption | apply State.pairEscalate_ok | apply State.auxClusterEscalate_ok | apply State.canClusterFault_ok | apply State.dmaClusterEscalate_ok
    | intro _
    | dsimp only
    | with_reducible apply ok_ite
    | split

theorem execCellSafeStateTimeout_ok {s0 : State} {E W : Nat} {c s} (hE : sub 105104571058 E = true) (hW : sub 491113051893399415383075574941970709588236899253095412709406883526424507282551878971497882223595871758835664841616275485424212928851346658309110281187851208341849667717218986382547795236625068201284206720 W = true) (h : Ok E W s0 s) :
    OkOut E W s0 (execCellSafeStateTimeout c s) := by
  unfold execCellSafeStateTimeout
  repeat' first
    | exact sub_trans rfl hE | exact sub_trans rfl hW | exact sub_bit hW rfl | with_reducible first | assumption | apply okOut_next | apply okOut_fault | apply State.clusterReport_ok | apply State.regionFault_ok | apply State.clusterEscalate_ok
    | intro _
    | dsimp only
    | with_reducible apply ok_ite
    | split

theorem State.clusterReaction_ok {s0 : State} {E W : Nat} {s c} (hE : sub 36116648498 E = true) (hW : sub 491113051893398579312387426155079458066653813389393790013567761836775391858512276063666731676833790207501416501980692012748973145588876478400837536049033709440251822191390540546768402421562910101783707776 W = true) (h : Ok E W s0 s) :
    Ok E W s0 (State.clusterReaction s c) := by
  unfold State.clusterReaction
  repeat' first
    | exact sub_trans rfl hE | exact sub_trans rfl hW | exact sub_bit hW rfl | with_reducible first | assumption | apply State.pairFault_ok | apply State.auxClusterFault_ok | apply State.on_ok | apply State.canClusterFault_ok | apply State.dmaClusterFault_ok | apply ws_f_AUX_CL_ADC_STATUS_FAULT
    | intro _
    | dsimp only
    | with_reducible apply ok_ite
    | split

theorem execClusterFault_ok {s0 : State} {E W : Nat} {c s} (hE : sub 36116648498 E = true) (hW : sub 491113051893398579312387426155079458066653813389393790013567761836775391858512276063666731676833790207501416501980692012748973145588876478400837536049033709440251822191390540546768402421562910101783707776 W = true) (h : Ok E W s0 s) :
    OkOut E W s0 (execClusterFault c s) := by
  unfold execClusterFault
  repeat' first
    | exact sub_trans rfl hE | exact sub_trans rfl hW | exact sub_bit hW rfl | with_reducible first | assumption | apply okOut_next | apply okOut_fault | apply State.clusterReport_ok | apply State.clusterReaction_ok
    | intro _
    | dsimp only
    | with_reducible apply ok_ite
    | split

theorem State.cellReaction_ok {s0 : State} {E W : Nat} {s c} (hE : sub 104835076658 E = true) (hW : sub 491113051893398579312391575670648338115661030819310919804730329892567296310414041209079244375155070518202493691263856038470533813365587969736233234195980991791557073730300052643974968445889134379843715200 W = true) (h : Ok E W s0 s) :
    Ok E W s0 (State.cellReaction s c) := by
  unfold State.cellReaction
  repeat' first
    | exact sub_trans rfl hE | exact sub_trans rfl hW | exact sub_bit hW rfl | with_reducible first | assumption | apply State.axisFault_ok | apply State.auxFault_ok | apply State.canCellFault_ok | apply State.dmaStop_ok | apply State.copyFault_ok | apply State.fieldCellFault_ok | apply State.capFault_ok
    | intro _
    | dsimp only
    | with_reducible apply ok_ite
    | split

theorem execCellFault_ok {s0 : State} {E W : Nat} {c s} (hE : sub 104835076658 E = true) (hW : sub 491113051893398579312391575670648338115661030819310919804730329892567296310414041209079244375155070518202493691263856038470533813365587969736233234195980991791557073730300052643974968445889134379843715200 W = true) (h : Ok E W s0 s) :
    OkOut E W s0 (execCellFault c s) := by
  unfold execCellFault
  repeat' first
    | exact sub_trans rfl hE | exact sub_trans rfl hW | exact sub_bit hW rfl | with_reducible first | assumption | apply okOut_next | apply okOut_fault | apply State.cellReaction_ok
    | intro _
    | dsimp only
    | with_reducible apply ok_ite
    | split

theorem execChipLevelFault_ok {s0 : State} {E W : Nat} {cause r s} (hE : sub 2473901162438 E = true) (hW : sub allSlots W = true) (h : Ok E W s0 s) :
    OkOut E W s0 (execChipLevelFault cause r s) := by
  unfold execChipLevelFault
  repeat' first
    | exact sub_trans rfl hE | exact sub_trans rfl hW | exact sub_bit hW rfl | with_reducible first | assumption | apply okOut_next | apply okOut_fault | apply State.chipFault_ok | apply State.lockDevice_ok | apply State.resetAll_ok
    | intro _
    | dsimp only
    | with_reducible apply ok_ite
    | split

theorem execIsolationConfirmTimeout_ok {s0 : State} {E W : Nat} {r s} (hE : sub 70330644994 E = true) (hW : sub 835416193357138429995104828624543493162931420298537644215570113410038959959509730907705443312326277187039824749055165887099541066855207606133229692443251092841306300766882502363971860824192 W = true) (h : Ok E W s0 s) :
    OkOut E W s0 (execIsolationConfirmTimeout r s) := by
  unfold execIsolationConfirmTimeout
  repeat' first
    | exact sub_trans rfl hE | exact sub_trans rfl hW | exact sub_bit hW rfl | with_reducible first | assumption | apply okOut_next | apply okOut_fault | apply State.chipFault_ok
    | intro _
    | dsimp only
    | with_reducible apply ok_ite
    | split

theorem execMempllTimeout_ok {s0 : State} {E W : Nat} {s} (hE : sub 70744832674 E = true) (hW : sub 471517518650770045635284173308663146205160264307831666510272736039838444004530276554684545262817590662002127613699000830403606325208600730941011424250826893761295890320285069004147097131804342696158429312 W = true) (h : Ok E W s0 s) :
    OkOut E W s0 (execMempllTimeout s) := by
  unfold execMempllTimeout
  repeat' first
    | exact sub_trans rfl hE | exact sub_trans rfl hW | exact sub_bit hW rfl | with_reducible first | assumption | apply okOut_next | apply okOut_fault | apply State.regionFault_ok
    | intro _
    | dsimp only
    | with_reducible apply ok_ite
    | ((with_reducible apply ok_mk) <;> first | exact Or.inr (sub_bit hE rfl) | exact Or.inr (Or.inr (sub_bit hE rfl)) | with_reducible first | exact Or.inl rfl | exact rfl | exact Or.inr (Or.inl rfl) | assumption | apply ok_ite | apply State.regionFault_ok)
    | split

theorem execClusterFenceTimeout_ok {s0 : State} {E W : Nat} {c s} (hE : sub 70744832674 E = true) (hW : sub 471517518650770045635284173308663146205160264307831666510272736039838444004530276554684545262817590662002127613699000830403606325208600730941011424250826893761295890320285069004147097131804342696158429312 W = true) (h : Ok E W s0 s) :
    OkOut E W s0 (execClusterFenceTimeout c s) := by
  unfold execClusterFenceTimeout
  repeat' first
    | exact sub_trans rfl hE | exact sub_trans rfl hW | exact sub_bit hW rfl | with_reducible first | assumption | apply okOut_next | apply okOut_fault | apply State.regionFault_ok
    | intro _
    | dsimp only
    | with_reducible apply ok_ite
    | split

theorem execRegionFault_ok {s0 : State} {E W : Nat} {r s} (hE : sub 70744832674 E = true) (hW : sub 471517518650770045635284173308663146205160264307831666510272736039838444004530276554684545262817590662002127613699000830403606325208600730941011424250826893761295890320285069004147097131804342696158429312 W = true) (h : Ok E W s0 s) :
    OkOut E W s0 (execRegionFault r s) := by
  unfold execRegionFault
  repeat' first
    | exact sub_trans rfl hE | exact sub_trans rfl hW | exact sub_bit hW rfl | with_reducible first | assumption | apply okOut_next | apply okOut_fault | apply State.regionFault_ok
    | intro _
    | dsimp only
    | with_reducible apply ok_ite
    | split

end Sys2Proof.Machine
end

