-- ==== Sys2Proof/Laws/KeepCamellia.lean ====
section
/-! SUPPORT. What the definitions of Machine/Camellia.lean keep: the queue, and the canonical forms of the register window and of
the memories; one lemma for each. -/

namespace Sys2Proof.Machine

theorem State.raiseMgt_ok {s0 : State} {E W : Nat} {s k} (hE : sub 512 E = true) (hW : sub 0 W = true) (h : Ok E W s0 s) :
    Ok E W s0 (State.raiseMgt s k) := by
  unfold State.raiseMgt
  repeat' first
    | exact sub_trans rfl hE | exact sub_trans rfl hW | exact sub_bit hW rfl | with_reducible first | assumption | apply State.raiseSt_ok
    | intro _
    | dsimp only
    | with_reducible apply ok_ite
    | split

theorem State.ledgerLog_ok {s0 : State} {E W : Nat} {s a obj holder ticket what} (hE : sub 4096 E = true) (hW : sub 0 W = true) (h : Ok E W s0 s) :
    Ok E W s0 (State.ledgerLog s a obj holder ticket what) := by
  unfold State.ledgerLog
  repeat' first
    | exact sub_trans rfl hE | exact sub_trans rfl hW | exact sub_bit hW rfl | with_reducible first | assumption | apply State.journal_ok
    | intro _
    | dsimp only
    | with_reducible apply ok_ite
    | split

theorem State.markStaged_ok {s0 : State} {E W : Nat} {s} (hE : sub 4608 E = true) (hW : sub 0 W = true) (h : Ok E W s0 s) :
    Ok E W s0 (State.markStaged s) := by
  unfold State.markStaged
  repeat' first
    | exact sub_trans rfl hE | exact sub_trans rfl hW | exact sub_bit hW rfl | with_reducible first | assumption | apply State.raiseMgt_ok
    | intro _
    | dsimp only
    | with_reducible apply ok_ite
    | ((with_reducible apply ok_mk) <;> first | exact Or.inr (sub_bit hE rfl) | exact Or.inr (Or.inr (sub_bit hE rfl)) | with_reducible first | exact Or.inl rfl | exact rfl | exact Or.inr (Or.inl rfl) | assumption | apply ok_ite | apply State.raiseMgt_ok)
    | split

theorem State.activate_ok {s0 : State} {E W : Nat} {s mode} (hE : sub 2473901162438 E = true) (hW : sub allSlots W = true) (h : Ok E W s0 s) :
    Ok E W s0 (State.activate s mode) := by
  unfold State.activate
  repeat' first
    | exact sub_trans rfl hE | exact sub_trans rfl hW | exact sub_bit hW rfl | with_reducible first | assumption | apply State.endReset_ok | apply State.journal_ok | apply State.markStaged_ok | apply State.raiseMgt_ok
    | intro _
    | dsimp only
    | with_reducible apply ok_ite
    | split

theorem State.ledgerGrant_ok {s0 : State} {E W : Nat} {s a obj holder} (hE : sub 2101250 E = true) (hW : sub 1224720827664335609236962600350409901130557945655466490308353887654080091579137561403602952202220552420938147431280980285494456125931768646260680344573194358953094033321469230156313571586348749061881856 W = true) (h : Ok E W s0 s) :
    Ok E W s0 (State.ledgerGrant s a obj holder) := by
  unfold State.ledgerGrant
  repeat' first
    | exact sub_trans rfl hE | exact sub_trans rfl hW | exact sub_bit hW rfl | with_reducible first | assumption | apply State.when_ok | apply State.writeBlock_ok | apply State.ledgerLog_ok
    | intro _
    | dsimp only
    | with_reducible apply ok_ite
    | ((with_reducible apply ok_mk) <;> first | exact Or.inr (sub_bit hE rfl) | exact Or.inr (Or.inr (sub_bit hE rfl)) | with_reducible first | exact Or.inl rfl | exact rfl | exact Or.inr (Or.inl rfl) | assumption | apply ok_ite | apply State.when_ok | apply State.writeBlock_ok | apply State.ledgerLog_ok)
    | split

theorem State.grantDeferred_ok {s0 : State} {E W : Nat} {s} (hE : sub 2473901162438 E = true) (hW : sub allSlots W = true) (h : Ok E W s0 s) :
    Ok E W s0 (State.grantDeferred s) := by
  unfold State.grantDeferred
  repeat' first
    | exact sub_trans rfl hE | exact sub_trans rfl hW | exact sub_bit hW rfl | with_reducible first | assumption | apply State.activate_ok | apply State.ledgerGrant_ok
    | intro _
    | dsimp only
    | with_reducible apply ok_ite
    | ((with_reducible apply ok_mk) <;> first | exact Or.inr (sub_bit hE rfl) | exact Or.inr (Or.inr (sub_bit hE rfl)) | with_reducible first | exact Or.inl rfl | exact rfl | exact Or.inr (Or.inl rfl) | assumption | apply ok_ite | apply State.activate_ok | apply State.ledgerGrant_ok)
    | split

theorem State.endEntry_ok {s0 : State} {E W : Nat} {s e what} (hE : sub 2473901162438 E = true) (hW : sub allSlots W = true) (h : Ok E W s0 s) :
    Ok E W s0 (State.endEntry s e what) := by
  unfold State.endEntry
  repeat' first
    | exact sub_trans rfl hE | exact sub_trans rfl hW | exact sub_bit hW rfl | with_reducible first | assumption | apply State.ledgerLog_ok | apply State.when_ok | apply State.btAbortIf_ok | apply State.writeBlock_ok | apply State.copyBuffer_ok | apply State.grantDeferred_ok
    | intro _
    | dsimp only
    | with_reducible apply ok_ite
    | ((with_reducible apply ok_mk) <;> first | exact Or.inr (sub_bit hE rfl) | exact Or.inr (Or.inr (sub_bit hE rfl)) | with_reducible first | exact Or.inl rfl | exact rfl | exact Or.inr (Or.inl rfl) | assumption | apply ok_ite | apply State.ledgerLog_ok | apply State.when_ok | apply State.btAbortIf_ok | apply State.writeBlock_ok | apply State.copyBuffer_ok | apply State.grantDeferred_ok)
    | split

theorem execLedgerWithdraw_ok {s0 : State} {E W : Nat} {ticket s} (hE : sub 2473901162438 E = true) (hW : sub allSlots W = true) (h : Ok E W s0 s) :
    OkOut E W s0 (execLedgerWithdraw ticket s) := by
  unfold execLedgerWithdraw
  repeat' first
    | exact sub_trans rfl hE | exact sub_trans rfl hW | exact sub_bit hW rfl | with_reducible first | assumption | apply okOut_next | apply okOut_fault | apply State.raiseMgt_ok | apply State.endEntry_ok
    | intro _
    | dsimp only
    | with_reducible apply ok_ite
    | split

theorem State.ledgerRefuse_ok {s0 : State} {E W : Nat} {s a obj holder} (hE : sub 4608 E = true) (hW : sub 0 W = true) (h : Ok E W s0 s) :
    Ok E W s0 (State.ledgerRefuse s a obj holder) := by
  unfold State.ledgerRefuse
  repeat' first
    | exact sub_trans rfl hE | exact sub_trans rfl hW | exact sub_bit hW rfl | with_reducible first | assumption | apply State.raiseMgt_ok | apply State.ledgerLog_ok
    | intro _
    | dsimp only
    | with_reducible apply ok_ite
    | split

theorem State.ledgerTry_ok {s0 : State} {E W : Nat} {s a obj holder mode} (hE : sub 2101762 E = true) (hW : sub 1224720827664335609236962600350409901130557945655466490308353887654080091579137561403602952202220552420938147431280980285494456125931768646260680344573194358953094033321469230156313571586348749061881856 W = true) (h : Ok E W s0 s) :
    Ok E W s0 (State.ledgerTry s a obj holder mode).1 := by
  unfold State.ledgerTry
  repeat' first
    | exact sub_trans rfl hE | exact sub_trans rfl hW | exact sub_bit hW rfl | with_reducible first | assumption | apply State.ledgerRefuse_ok | apply State.raiseMgt_ok | apply State.ledgerLog_ok | apply State.ledgerGrant_ok
    | intro _
    | dsimp only
    | with_reducible apply ok_ite
    | ((with_reducible apply ok_mk) <;> first | exact Or.inr (sub_bit hE rfl) | exact Or.inr (Or.inr (sub_bit hE rfl)) | with_reducible first | exact Or.inl rfl | exact rfl | exact Or.inr (Or.inl rfl) | assumption | apply ok_ite | apply State.ledgerRefuse_ok | apply State.raiseMgt_ok | apply State.ledgerLog_ok | apply State.ledgerGrant_ok)
    | split

theorem State.ledgerTry_ok' {s0 t0 : State} {E W : Nat} {s a obj holder mode y0} (hE : sub 2101762 E = true) (hW : sub 1224720827664335609236962600350409901130557945655466490308353887654080091579137561403602952202220552420938147431280980285494456125931768646260680344573194358953094033321469230156313571586348749061881856 W = true) (h : Ok E W s0 s) (e : State.ledgerTry s a obj holder mode = (t0, y0)) :
    Ok E W s0 t0 := by
  have r := State.ledgerTry_ok (s0 := s0) (E := E) (W := W) (s := s) (a := a) (obj := obj) (holder := holder) (mode := mode) hE hW h
  rw [e] at r
  exact r

theorem State.ledgerAsk_ok {s0 : State} {E W : Nat} {s a obj holder mode} (hE : sub 2101762 E = true) (hW : sub 1224720827664335609236962600350409901130557945655466490308353887654080091579137561403602952202220552420938147431280980285494456125931768646260680344573194358953094033321469230156313571586348749061881856 W = true) (h : Ok E W s0 s) :
    Ok E W s0 (State.ledgerAsk s a obj holder mode).1 := by
  unfold State.ledgerAsk
  repeat' first
    | exact sub_trans rfl hE | exact sub_trans rfl hW | exact sub_bit hW rfl | with_reducible first | assumption | apply State.ledgerLog_ok | apply State.ledgerRefuse_ok | apply State.ledgerTry_ok | refine State.ledgerTry_ok' ?_ ?_ ?_ (by assumption)
    | intro _
    | dsimp only
    | with_reducible apply ok_ite
    | split

theorem State.ledgerAsk_ok' {s0 t0 : State} {E W : Nat} {s a obj holder mode y0} (hE : sub 2101762 E = true) (hW : sub 1224720827664335609236962600350409901130557945655466490308353887654080091579137561403602952202220552420938147431280980285494456125931768646260680344573194358953094033321469230156313571586348749061881856 W = true) (h : Ok E W s0 s) (e : State.ledgerAsk s a obj holder mode = (t0, y0)) :
    Ok E W s0 t0 := by
  have r := State.ledgerAsk_ok (s0 := s0) (E := E) (W := W) (s := s) (a := a) (obj := obj) (holder := holder) (mode := mode) hE hW h
  rw [e] at r
  exact r

theorem State.msgAcquire_ok {s0 : State} {E W : Nat} {s n p} (hE : sub 2101762 E = true) (hW : sub 1224720827664335609236962600350409901130557945655466490308353887654080091579137561403602952202220552420938147431280980285494456125931768646260680344573194358953094033321469230156313571586348749061881856 W = true) (h : Ok E W s0 s) :
    Ok E W s0 (State.msgAcquire s n p).1 := by
  unfold State.msgAcquire
  repeat' first
    | exact sub_trans rfl hE | exact sub_trans rfl hW | exact sub_bit hW rfl | with_reducible first | assumption | apply State.ledgerAsk_ok | refine State.ledgerAsk_ok' ?_ ?_ ?_ (by assumption)
    | intro _
    | dsimp only
    | with_reducible apply ok_ite
    | split

theorem State.msgAcquire_ok' {s0 t0 : State} {E W : Nat} {s n p y0} (hE : sub 2101762 E = true) (hW : sub 1224720827664335609236962600350409901130557945655466490308353887654080091579137561403602952202220552420938147431280980285494456125931768646260680344573194358953094033321469230156313571586348749061881856 W = true) (h : Ok E W s0 s) (e : State.msgAcquire s n p = (t0, y0)) :
    Ok E W s0 t0 := by
  have r := State.msgAcquire_ok (s0 := s0) (E := E) (W := W) (s := s) (n := n) (p := p) hE hW h
  rw [e] at r
  exact r

theorem State.msgRelease_ok {s0 : State} {E W : Nat} {s n p} (hE : sub 2473901162438 E = true) (hW : sub allSlots W = true) (h : Ok E W s0 s) :
    Ok E W s0 (State.msgRelease s n p).1 := by
  unfold State.msgRelease
  repeat' first
    | exact sub_trans rfl hE | exact sub_trans rfl hW | exact sub_bit hW rfl | with_reducible first | assumption | apply State.endEntry_ok
    | intro _
    | dsimp only
    | with_reducible apply ok_ite
    | split

theorem State.msgRelease_ok' {s0 t0 : State} {E W : Nat} {s n p y0} (hE : sub 2473901162438 E = true) (hW : sub allSlots W = true) (h : Ok E W s0 s) (e : State.msgRelease s n p = (t0, y0)) :
    Ok E W s0 t0 := by
  have r := State.msgRelease_ok (s0 := s0) (E := E) (W := W) (s := s) (n := n) (p := p) hE hW h
  rw [e] at r
  exact r

theorem State.msgHandle_ok {s0 : State} {E W : Nat} {s n hx len} (hE : sub 4610 E = true) (hW : sub 27701004964987707814776282354200485283934711099335726070375062282404489211931569123075436918859221038834939199713807606007352883842356135856647536292350498270034565912422514688 W = true) (h : Ok E W s0 s) :
    Ok E W s0 (State.msgHandle s n hx len).1 := by
  unfold State.msgHandle
  repeat' first
    | exact sub_trans rfl hE | exact sub_trans rfl hW | exact sub_bit hW rfl | with_reducible first | assumption | apply State.refuseHandle_ok
    | intro _
    | dsimp only
    | with_reducible apply ok_ite
    | split

theorem State.msgHandle_ok' {s0 t0 : State} {E W : Nat} {s n hx len y0} (hE : sub 4610 E = true) (hW : sub 27701004964987707814776282354200485283934711099335726070375062282404489211931569123075436918859221038834939199713807606007352883842356135856647536292350498270034565912422514688 W = true) (h : Ok E W s0 s) (e : State.msgHandle s n hx len = (t0, y0)) :
    Ok E W s0 t0 := by
  have r := State.msgHandle_ok (s0 := s0) (E := E) (W := W) (s := s) (n := n) (hx := hx) (len := len) hE hW h
  rw [e] at r
  exact r

theorem State.msgStage_ok {s0 : State} {E W : Nat} {s n p x} (hE : sub 4610 E = true) (hW : sub 27701004964987707814776282354200485283934711099335726070375062282404489211931569123075436918859221038834939199713807606007352883842356135856647536292350498270034565912422514688 W = true) (h : Ok E W s0 s) :
    Ok E W s0 (State.msgStage s n p x).1 := by
  unfold State.msgStage
  repeat' first
    | exact sub_trans rfl hE | exact sub_trans rfl hW | exact sub_bit hW rfl | with_reducible first | assumption | apply State.msgHandle_ok | refine State.msgHandle_ok' ?_ ?_ ?_ (by assumption) | apply State.raiseMgt_ok | apply State.journal_ok
    | intro _
    | dsimp only
    | with_reducible apply ok_ite
    | ((with_reducible apply ok_mk) <;> first | exact Or.inr (sub_bit hE rfl) | exact Or.inr (Or.inr (sub_bit hE rfl)) | with_reducible first | exact Or.inl rfl | exact rfl | exact Or.inr (Or.inl rfl) | assumption | apply ok_ite | apply State.msgHandle_ok | refine State.msgHandle_ok' ?_ ?_ ?_ (by assumption) | apply State.raiseMgt_ok | apply State.journal_ok)
    | split

theorem State.msgStage_ok' {s0 t0 : State} {E W : Nat} {s n p x y0} (hE : sub 4610 E = true) (hW : sub 27701004964987707814776282354200485283934711099335726070375062282404489211931569123075436918859221038834939199713807606007352883842356135856647536292350498270034565912422514688 W = true) (h : Ok E W s0 s) (e : State.msgStage s n p x = (t0, y0)) :
    Ok E W s0 t0 := by
  have r := State.msgStage_ok (s0 := s0) (E := E) (W := W) (s := s) (n := n) (p := p) (x := x) hE hW h
  rw [e] at r
  exact r

theorem State.msgActivate_ok {s0 : State} {E W : Nat} {s n p} (hE : sub 2473901162438 E = true) (hW : sub allSlots W = true) (h : Ok E W s0 s) :
    Ok E W s0 (State.msgActivate s n p).1 := by
  unfold State.msgActivate
  repeat' first
    | exact sub_trans rfl hE | exact sub_trans rfl hW | exact sub_bit hW rfl | with_reducible first | assumption | apply State.markStaged_ok | apply State.journal_ok | apply State.ledgerAsk_ok | refine State.ledgerAsk_ok' ?_ ?_ ?_ (by assumption) | apply State.activate_ok
    | intro _
    | dsimp only
    | with_reducible apply ok_ite
    | split

theorem State.msgActivate_ok' {s0 t0 : State} {E W : Nat} {s n p y0} (hE : sub 2473901162438 E = true) (hW : sub allSlots W = true) (h : Ok E W s0 s) (e : State.msgActivate s n p = (t0, y0)) :
    Ok E W s0 t0 := by
  have r := State.msgActivate_ok (s0 := s0) (E := E) (W := W) (s := s) (n := n) (p := p) hE hW h
  rw [e] at r
  exact r

theorem State.msgConfirm_ok {s0 : State} {E W : Nat} {s n} (hE : sub 4098 E = true) (hW : sub 61832600368276133515125630254911797508782837275302959978515764023224306276632966792579100265310761247399417856504034834837841258576687802491886538775473291979151693037174784 W = true) (h : Ok E W s0 s) :
    Ok E W s0 (State.msgConfirm s n).1 := by
  unfold State.msgConfirm
  repeat' first
    | exact sub_trans rfl hE | exact sub_trans rfl hW | exact sub_bit hW rfl | with_reducible first | assumption | apply State.off_ok | apply State.journal_ok | apply ws_f_MGT_STATUS_TRIAL
    | intro _
    | dsimp only
    | with_reducible apply ok_ite
    | ((with_reducible apply ok_mk) <;> first | exact Or.inr (sub_bit hE rfl) | exact Or.inr (Or.inr (sub_bit hE rfl)) | with_reducible first | exact Or.inl rfl | exact rfl | exact Or.inr (Or.inl rfl) | assumption | apply ok_ite | apply State.off_ok | apply State.journal_ok | apply ws_f_MGT_STATUS_TRIAL)
    | split

theorem State.msgConfirm_ok' {s0 t0 : State} {E W : Nat} {s n y0} (hE : sub 4098 E = true) (hW : sub 61832600368276133515125630254911797508782837275302959978515764023224306276632966792579100265310761247399417856504034834837841258576687802491886538775473291979151693037174784 W = true) (h : Ok E W s0 s) (e : State.msgConfirm s n = (t0, y0)) :
    Ok E W s0 t0 := by
  have r := State.msgConfirm_ok (s0 := s0) (E := E) (W := W) (s := s) (n := n) hE hW h
  rw [e] at r
  exact r

theorem State.msgPolicy_ok {s0 : State} {E W : Nat} {s n p x pol} (hE : sub 4610 E = true) (hW : sub 27701004964987707814776282354200485283934711099335726070375062282404489211931569123075436918859221038834939199713807606007352883842356135856647536292350498270034565912422514688 W = true) (h : Ok E W s0 s) :
    Ok E W s0 (State.msgPolicy s n p x pol).1 := by
  unfold State.msgPolicy
  repeat' first
    | exact sub_trans rfl hE | exact sub_trans rfl hW | exact sub_bit hW rfl | with_reducible first | assumption | apply State.msgHandle_ok | refine State.msgHandle_ok' ?_ ?_ ?_ (by assumption) | apply State.journal_ok
    | intro _
    | dsimp only
    | with_reducible apply ok_ite
    | ((with_reducible apply ok_mk) <;> first | exact Or.inr (sub_bit hE rfl) | exact Or.inr (Or.inr (sub_bit hE rfl)) | with_reducible first | exact Or.inl rfl | exact rfl | exact Or.inr (Or.inl rfl) | assumption | apply ok_ite | apply State.msgHandle_ok | refine State.msgHandle_ok' ?_ ?_ ?_ (by assumption) | apply State.journal_ok)
    | split

theorem State.msgPolicy_ok' {s0 t0 : State} {E W : Nat} {s n p x pol y0} (hE : sub 4610 E = true) (hW : sub 27701004964987707814776282354200485283934711099335726070375062282404489211931569123075436918859221038834939199713807606007352883842356135856647536292350498270034565912422514688 W = true) (h : Ok E W s0 s) (e : State.msgPolicy s n p x pol = (t0, y0)) :
    Ok E W s0 t0 := by
  have r := State.msgPolicy_ok (s0 := s0) (E := E) (W := W) (s := s) (n := n) (p := p) (x := x) (pol := pol) hE hW h
  rw [e] at r
  exact r

theorem State.msgJournal_ok {s0 : State} {E W : Nat} {s n p} (hE : sub 134222342 E = true) (hW : sub 27701004964987707814776282354200485283934711099335726070375062282404489211931569123075436918859221038834939199713807606007352883842356135856647536292350498270034565912422514688 W = true) (h : Ok E W s0 s) :
    Ok E W s0 (State.msgJournal s n p).1 := by
  unfold State.msgJournal
  repeat' first
    | exact sub_trans rfl hE | exact sub_trans rfl hW | exact sub_bit hW rfl | with_reducible first | assumption | apply State.msgHandle_ok | refine State.msgHandle_ok' ?_ ?_ ?_ (by assumption) | apply State.ipmPut_ok
    | intro _
    | dsimp only
    | with_reducible apply ok_ite
    | split

theorem State.msgJournal_ok' {s0 t0 : State} {E W : Nat} {s n p y0} (hE : sub 134222342 E = true) (hW : sub 27701004964987707814776282354200485283934711099335726070375062282404489211931569123075436918859221038834939199713807606007352883842356135856647536292350498270034565912422514688 W = true) (h : Ok E W s0 s) (e : State.msgJournal s n p = (t0, y0)) :
    Ok E W s0 t0 := by
  have r := State.msgJournal_ok (s0 := s0) (E := E) (W := W) (s := s) (n := n) (p := p) hE hW h
  rw [e] at r
  exact r

theorem State.msgLife_ok {s0 : State} {E W : Nat} {s p room} (hE : sub 0 E = true) (hW : sub 0 W = true) (h : Ok E W s0 s) :
    Ok E W s0 (State.msgLife s p room).1 := by
  unfold State.msgLife
  repeat' first
    | exact sub_trans rfl hE | exact sub_trans rfl hW | exact sub_bit hW rfl | with_reducible first | assumption
    | intro _
    | dsimp only
    | with_reducible apply ok_ite
    | split

theorem State.msgLife_ok' {s0 t0 : State} {E W : Nat} {s p room y0} (hE : sub 0 E = true) (hW : sub 0 W = true) (h : Ok E W s0 s) (e : State.msgLife s p room = (t0, y0)) :
    Ok E W s0 t0 := by
  have r := State.msgLife_ok (s0 := s0) (E := E) (W := W) (s := s) (p := p) (room := room) hE hW h
  rw [e] at r
  exact r

theorem State.msgBody_ok {s0 : State} {E W : Nat} {s n type p room x pol} (hE : sub 2473901162438 E = true) (hW : sub allSlots W = true) (h : Ok E W s0 s) :
    Ok E W s0 (State.msgBody s n type p room x pol).1 := by
  unfold State.msgBody
  repeat' first
    | exact sub_trans rfl hE | exact sub_trans rfl hW | exact sub_bit hW rfl | with_reducible first | assumption | apply State.msgAcquire_ok | refine State.msgAcquire_ok' ?_ ?_ ?_ (by assumption) | apply State.msgRelease_ok | refine State.msgRelease_ok' ?_ ?_ ?_ (by assumption) | apply State.msgStage_ok | refine State.msgStage_ok' ?_ ?_ ?_ (by assumption) | apply State.msgActivate_ok | refine State.msgActivate_ok' ?_ ?_ ?_ (by assumption) | apply State.msgConfirm_ok | refine State.msgConfirm_ok' ?_ ?_ ?_ (by assumption) | apply State.msgPolicy_ok | refine State.msgPolicy_ok' ?_ ?_ ?_ (by assumption) | apply State.msgJournal_ok | refine State.msgJournal_ok' ?_ ?_ ?_ (by assumption) | apply State.msgLife_ok | refine State.msgLife_ok' ?_ ?_ ?_ (by assumption)
    | intro _
    | dsimp only
    | with_reducible apply ok_ite
    | split

theorem State.msgBody_ok' {s0 t0 : State} {E W : Nat} {s n type p room x pol y0} (hE : sub 2473901162438 E = true) (hW : sub allSlots W = true) (h : Ok E W s0 s) (e : State.msgBody s n type p room x pol = (t0, y0)) :
    Ok E W s0 t0 := by
  have r := State.msgBody_ok (s0 := s0) (E := E) (W := W) (s := s) (n := n) (type := type) (p := p) (room := room) (x := x) (pol := pol) hE hW h
  rw [e] at r
  exact r

theorem State.message_ok {s0 : State} {E W : Nat} {s n msg room x pol} (hE : sub 2473901162438 E = true) (hW : sub allSlots W = true) (h : Ok E W s0 s) :
    Ok E W s0 (State.message s n msg room x pol).1 := by
  unfold State.message
  repeat' first
    | exact sub_trans rfl hE | exact sub_trans rfl hW | exact sub_bit hW rfl | with_reducible first | assumption | apply State.msgBody_ok | refine State.msgBody_ok' ?_ ?_ ?_ (by assumption)
    | intro _
    | dsimp only
    | with_reducible apply ok_ite
    | split

theorem State.message_ok' {s0 t0 : State} {E W : Nat} {s n msg room x pol y0} (hE : sub 2473901162438 E = true) (hW : sub allSlots W = true) (h : Ok E W s0 s) (e : State.message s n msg room x pol = (t0, y0)) :
    Ok E W s0 t0 := by
  have r := State.message_ok (s0 := s0) (E := E) (W := W) (s := s) (n := n) (msg := msg) (room := room) (x := x) (pol := pol) hE hW h
  rw [e] at r
  exact r

theorem State.putWindow_ok {s0 : State} {E W : Nat} {s n l} (hE : sub 2 E = true) (hW : sub 21267647932558653966460912964485513216 W = true) (h : Ok E W s0 s) :
    Ok E W s0 (State.putWindow s n l) := by
  unfold State.putWindow
  repeat' first
    | exact sub_trans rfl hE | exact sub_trans rfl hW | exact sub_bit hW rfl | with_reducible first | assumption | apply State.each_ok | apply State.wr_ok | apply ws_r_MGT_OD_MB_DATA | apply wrF_of_wr
    | intro _
    | dsimp only
    | with_reducible apply ok_ite
    | split

theorem State.answer_ok {s0 : State} {E W : Nat} {s n x pol} (hE : sub 2473901162438 E = true) (hW : sub allSlots W = true) (h : Ok E W s0 s) :
    Ok E W s0 (State.answer s n x pol) := by
  unfold State.answer
  repeat' first
    | exact sub_trans rfl hE | exact sub_trans rfl hW | exact sub_bit hW rfl | with_reducible first | assumption | apply State.message_ok | refine State.message_ok' ?_ ?_ ?_ (by assumption) | apply State.on_ok | apply State.off_ok | apply State.putWindow_ok | apply ws_f_MGT_OD_MB_CTL_BUSY | apply ws_f_MGT_OD_MB_CTL_DONE
    | intro _
    | dsimp only
    | with_reducible apply ok_ite
    | split

theorem State.serveMail_ok {s0 : State} {E W : Nat} {s} (hE : sub 2473901162438 E = true) (hW : sub allSlots W = true) (h : Ok E W s0 s) :
    Ok E W s0 (State.serveMail s) := by
  unfold State.serveMail
  repeat' first
    | exact sub_trans rfl hE | exact sub_trans rfl hW | exact sub_bit hW rfl | with_reducible first | assumption | apply State.each_ok | apply State.answer_ok
    | intro _
    | dsimp only
    | with_reducible apply ok_ite
    | split

theorem execFlashRecovered_ok {s0 : State} {E W : Nat} {s} (hE : sub 4096 E = true) (hW : sub 0 W = true) (h : Ok E W s0 s) :
    OkOut E W s0 (execFlashRecovered s) := by
  unfold execFlashRecovered
  repeat' first
    | exact sub_trans rfl hE | exact sub_trans rfl hW | exact sub_bit hW rfl | with_reducible first | assumption | apply okOut_next | apply okOut_fault | apply State.copyBuffer_ok
    | intro _
    | dsimp only
    | with_reducible apply ok_ite
    | ((with_reducible apply ok_mk) <;> first | exact Or.inr (sub_bit hE rfl) | exact Or.inr (Or.inr (sub_bit hE rfl)) | with_reducible first | exact Or.inl rfl | exact rfl | exact Or.inr (Or.inl rfl) | assumption | apply ok_ite | apply State.copyBuffer_ok)
    | split

theorem State.dutyRan_ok {s0 : State} {E W : Nat} {s k} (hE : sub 4096 E = true) (hW : sub 0 W = true) (h : Ok E W s0 s) :
    Ok E W s0 (State.dutyRan s k) := by
  unfold State.dutyRan
  repeat' first
    | exact sub_trans rfl hE | exact sub_trans rfl hW | exact sub_bit hW rfl | with_reducible first | assumption
    | intro _
    | dsimp only
    | with_reducible apply ok_ite
    | ((with_reducible apply ok_mk) <;> first | exact Or.inr (sub_bit hE rfl) | exact Or.inr (Or.inr (sub_bit hE rfl)) | with_reducible first | exact Or.inl rfl | exact rfl | exact Or.inr (Or.inl rfl) | assumption | apply ok_ite)
    | split

theorem State.duty_ok {s0 : State} {E W : Nat} {s k ms f} (hE : sub 4096 E = true) (hW : sub 0 W = true) (h : Ok E W s0 s) (hk : ∀ t, Ok E W s0 t → Ok E W s0 (f t)) :
    Ok E W s0 (State.duty s k ms f) := by
  unfold State.duty
  repeat' first
    | exact sub_trans rfl hE | exact sub_trans rfl hW | exact sub_bit hW rfl | with_reducible first | assumption | apply hk | apply State.dutyRan_ok
    | intro _
    | dsimp only
    | with_reducible apply ok_ite
    | split

theorem execLifeCounterSave_ok {s0 : State} {E W : Nat} {s} (hE : sub 4096 E = true) (hW : sub 0 W = true) (h : Ok E W s0 s) :
    OkOut E W s0 (execLifeCounterSave s) := by
  unfold execLifeCounterSave
  repeat' first
    | exact sub_trans rfl hE | exact sub_trans rfl hW | exact sub_bit hW rfl | with_reducible first | assumption | apply okOut_next | apply okOut_fault | apply State.duty_ok
    | intro _
    | dsimp only
    | with_reducible apply ok_ite
    | ((with_reducible apply ok_mk) <;> first | exact Or.inr (sub_bit hE rfl) | exact Or.inr (Or.inr (sub_bit hE rfl)) | with_reducible first | exact Or.inl rfl | exact rfl | exact Or.inr (Or.inl rfl) | assumption | apply ok_ite | apply State.duty_ok)
    | split

theorem State.tempRead_ok {s0 : State} {E W : Nat} {s i v} (hE : sub 4608 E = true) (hW : sub 0 W = true) (h : Ok E W s0 s) :
    Ok E W s0 (State.tempRead s i v) := by
  unfold State.tempRead
  repeat' first
    | exact sub_trans rfl hE | exact sub_trans rfl hW | exact sub_bit hW rfl | with_reducible first | assumption | apply State.raiseMgt_ok
    | intro _
    | dsimp only
    | with_reducible apply ok_ite
    | ((with_reducible apply ok_mk) <;> first | exact Or.inr (sub_bit hE rfl) | exact Or.inr (Or.inr (sub_bit hE rfl)) | with_reducible first | exact Or.inl rfl | exact rfl | exact Or.inr (Or.inl rfl) | assumption | apply ok_ite | apply State.raiseMgt_ok)
    | split

theorem State.takeStaged_ok {s0 : State} {E W : Nat} {s} (hE : sub 4096 E = true) (hW : sub 0 W = true) (h : Ok E W s0 s) :
    Ok E W s0 (State.takeStaged s) := by
  unfold State.takeStaged
  repeat' first
    | exact sub_trans rfl hE | exact sub_trans rfl hW | exact sub_bit hW rfl | with_reducible first | assumption
    | intro _
    | dsimp only
    | with_reducible apply ok_ite
    | ((with_reducible apply ok_mk) <;> first | exact Or.inr (sub_bit hE rfl) | exact Or.inr (Or.inr (sub_bit hE rfl)) | with_reducible first | exact Or.inl rfl | exact rfl | exact Or.inr (Or.inl rfl) | assumption | apply ok_ite)
    | split

theorem State.loadImage_ok {s0 : State} {E W : Nat} {s i preferred} (hE : sub 4618 E = true) (hW : sub 474967119730755874686682422041504169136582744250417194544675395501809210890131940273392120281553455979592406803074948448227863118716350685369721966299843633337035775847214088192 W = true) (h : Ok E W s0 s) :
    Ok E W s0 (State.loadImage s i preferred) := by
  unfold State.loadImage
  repeat' first
    | exact sub_trans rfl hE | exact sub_trans rfl hW | exact sub_bit hW rfl | with_reducible first | assumption | apply State.pb_ok | apply State.p_ok | apply State.applyQuotas_ok | apply State.when_ok | apply State.raiseMgt_ok | apply State.on_ok | apply State.motionReady_ok | apply ws_f_GLB_READY_FW_VERIFIED | apply ws_f_LSP_STATUS_RUNNING | apply ws_f_MGT_STATUS_SLOT | apply ws_f_MGT_STATUS_TRIAL
    | intro _
    | dsimp only
    | with_reducible apply ok_ite
    | ((with_reducible apply ok_mk) <;> first | exact Or.inr (sub_bit hE rfl) | exact Or.inr (Or.inr (sub_bit hE rfl)) | with_reducible first | exact Or.inl rfl | exact rfl | exact Or.inr (Or.inl rfl) | assumption | apply ok_ite | apply State.pb_ok | apply State.p_ok | apply State.applyQuotas_ok | apply State.when_ok | apply State.raiseMgt_ok | apply State.on_ok | apply State.motionReady_ok | apply ws_f_GLB_READY_FW_VERIFIED | apply ws_f_LSP_STATUS_RUNNING | apply ws_f_MGT_STATUS_SLOT | apply ws_f_MGT_STATUS_TRIAL)
    | split

theorem State.slotFailed_ok {s0 : State} {E W : Nat} {s i} (hE : sub 4096 E = true) (hW : sub 0 W = true) (h : Ok E W s0 s) :
    Ok E W s0 (State.slotFailed s i) := by
  unfold State.slotFailed
  repeat' first
    | exact sub_trans rfl hE | exact sub_trans rfl hW | exact sub_bit hW rfl | with_reducible first | assumption | apply State.journal_ok
    | intro _
    | dsimp only
    | with_reducible apply ok_ite
    | split

theorem execFwVerified_ok {s0 : State} {E W : Nat} {s} (hE : sub 2473901162446 E = true) (hW : sub allSlots W = true) (h : Ok E W s0 s) :
    OkOut E W s0 (execFwVerified s) := by
  unfold execFwVerified
  repeat' first
    | exact sub_trans rfl hE | exact sub_trans rfl hW | exact sub_bit hW rfl | with_reducible first | assumption | apply okOut_next | apply okOut_fault | apply State.takeStaged_ok | apply State.loadImage_ok | apply State.slotFailed_ok | apply State.holdDomains_ok | apply State.on_ok | apply ws_f_MGT_STATUS_RECOVERY
    | intro _
    | dsimp only
    | with_reducible apply ok_ite
    | split

theorem State.completeMessage_ok {s0 : State} {E W : Nat} {s n type x pol} (hE : sub 2473901162438 E = true) (hW : sub allSlots W = true) (h : Ok E W s0 s) :
    Ok E W s0 (State.completeMessage s n type x pol) := by
  unfold State.completeMessage
  repeat' first
    | exact sub_trans rfl hE | exact sub_trans rfl hW | exact sub_bit hW rfl | with_reducible first | assumption | apply State.answer_ok
    | intro _
    | dsimp only
    | with_reducible apply ok_ite
    | split

theorem execPolicyStage_ok {s0 : State} {E W : Nat} {n x pol s} (hE : sub 2473901162438 E = true) (hW : sub allSlots W = true) (h : Ok E W s0 s) :
    OkOut E W s0 (execPolicyStage n x pol s) := by
  unfold execPolicyStage
  repeat' first
    | exact sub_trans rfl hE | exact sub_trans rfl hW | exact sub_bit hW rfl | with_reducible first | assumption | apply okOut_next | apply okOut_fault | apply State.completeMessage_ok
    | intro _
    | dsimp only
    | with_reducible apply ok_ite
    | split

theorem State.mailboxGo_ok {s0 : State} {E W : Nat} {s n} (hE : sub 2473901162438 E = true) (hW : sub allSlots W = true) (h : Ok E W s0 s) :
    Ok E W s0 (State.mailboxGo s n) := by
  unfold State.mailboxGo
  repeat' first
    | exact sub_trans rfl hE | exact sub_trans rfl hW | exact sub_bit hW rfl | with_reducible first | assumption | apply State.off_ok | apply State.on_ok | apply State.answer_ok | apply ws_f_MGT_OD_MB_CTL_BUSY | apply ws_f_MGT_OD_MB_CTL_DONE
    | intro _
    | dsimp only
    | with_reducible apply ok_ite
    | split

theorem State.sendMessage_ok {s0 : State} {E W : Nat} {s n type seq p} (hE : sub 2473901162438 E = true) (hW : sub allSlots W = true) (h : Ok E W s0 s) :
    Ok E W s0 (State.sendMessage s n type seq p) := by
  unfold State.sendMessage
  repeat' first
    | exact sub_trans rfl hE | exact sub_trans rfl hW | exact sub_bit hW rfl | with_reducible first | assumption | apply State.write_ok | apply State.mailboxGo_ok | apply State.putWindow_ok
    | intro _
    | dsimp only
    | with_reducible apply ok_ite
    | split

theorem execImageActivate_ok {s0 : State} {E W : Nat} {n seq mode s} (hE : sub 2473901162438 E = true) (hW : sub allSlots W = true) (h : Ok E W s0 s) :
    OkOut E W s0 (execImageActivate n seq mode s) := by
  unfold execImageActivate
  repeat' first
    | exact sub_trans rfl hE | exact sub_trans rfl hW | exact sub_bit hW rfl | with_reducible first | assumption | apply okOut_next | apply okOut_fault | apply State.sendMessage_ok
    | intro _
    | dsimp only
    | with_reducible apply ok_ite
    | split

theorem execPlanList_ok {s0 : State} {E W : Nat} {n seq first s} (hE : sub 2473901162438 E = true) (hW : sub allSlots W = true) (h : Ok E W s0 s) :
    OkOut E W s0 (execPlanList n seq first s) := by
  unfold execPlanList
  repeat' first
    | exact sub_trans rfl hE | exact sub_trans rfl hW | exact sub_bit hW rfl | with_reducible first | assumption | apply okOut_next | apply okOut_fault | apply State.sendMessage_ok
    | intro _
    | dsimp only
    | with_reducible apply ok_ite
    | split

theorem execLedgerAcquire_ok {s0 : State} {E W : Nat} {n seq activity object s} (hE : sub 2473901162438 E = true) (hW : sub allSlots W = true) (h : Ok E W s0 s) :
    OkOut E W s0 (execLedgerAcquire n seq activity object s) := by
  unfold execLedgerAcquire
  repeat' first
    | exact sub_trans rfl hE | exact sub_trans rfl hW | exact sub_bit hW rfl | with_reducible first | assumption | apply okOut_next | apply okOut_fault | apply State.sendMessage_ok
    | intro _
    | dsimp only
    | with_reducible apply ok_ite
    | split

theorem execTrimDriftCheck_ok {s0 : State} {E W : Nat} {s} (hE : sub 4608 E = true) (hW : sub 0 W = true) (h : Ok E W s0 s) :
    OkOut E W s0 (execTrimDriftCheck s) := by
  unfold execTrimDriftCheck
  repeat' first
    | exact sub_trans rfl hE | exact sub_trans rfl hW | exact sub_bit hW rfl | with_reducible first | assumption | apply okOut_next | apply okOut_fault | apply State.duty_ok | apply State.when_ok | apply State.raiseMgt_ok
    | intro _
    | dsimp only
    | with_reducible apply ok_ite
    | split

theorem execLogCompaction_ok {s0 : State} {E W : Nat} {s} (hE : sub 4096 E = true) (hW : sub 0 W = true) (h : Ok E W s0 s) :
    OkOut E W s0 (execLogCompaction s) := by
  unfold execLogCompaction
  repeat' first
    | exact sub_trans rfl hE | exact sub_trans rfl hW | exact sub_bit hW rfl | with_reducible first | assumption | apply okOut_next | apply okOut_fault | apply State.copyBuffer_ok
    | intro _
    | dsimp only
    | with_reducible apply ok_ite
    | ((with_reducible apply ok_mk) <;> first | exact Or.inr (sub_bit hE rfl) | exact Or.inr (Or.inr (sub_bit hE rfl)) | with_reducible first | exact Or.inl rfl | exact rfl | exact Or.inr (Or.inl rfl) | assumption | apply ok_ite | apply State.copyBuffer_ok)
    | split

theorem execImageConfirm_ok {s0 : State} {E W : Nat} {n seq s} (hE : sub 2473901162438 E = true) (hW : sub allSlots W = true) (h : Ok E W s0 s) :
    OkOut E W s0 (execImageConfirm n seq s) := by
  unfold execImageConfirm
  repeat' first
    | exact sub_trans rfl hE | exact sub_trans rfl hW | exact sub_bit hW rfl | with_reducible first | assumption | apply okOut_next | apply okOut_fault | apply State.sendMessage_ok
    | intro _
    | dsimp only
    | with_reducible apply ok_ite
    | split

theorem execBadTypeMessage_ok {s0 : State} {E W : Nat} {n seq type s} (hE : sub 2473901162438 E = true) (hW : sub allSlots W = true) (h : Ok E W s0 s) :
    OkOut E W s0 (execBadTypeMessage n seq type s) := by
  unfold execBadTypeMessage
  repeat' first
    | exact sub_trans rfl hE | exact sub_trans rfl hW | exact sub_bit hW rfl | with_reducible first | assumption | apply okOut_next | apply okOut_fault | apply State.sendMessage_ok
    | intro _
    | dsimp only
    | with_reducible apply ok_ite
    | split

theorem execFlashRefresh_ok {s0 : State} {E W : Nat} {s} (hE : sub 4096 E = true) (hW : sub 0 W = true) (h : Ok E W s0 s) :
    OkOut E W s0 (execFlashRefresh s) := by
  unfold execFlashRefresh
  repeat' first
    | exact sub_trans rfl hE | exact sub_trans rfl hW | exact sub_bit hW rfl | with_reducible first | assumption | apply okOut_next | apply okOut_fault | apply State.duty_ok
    | intro _
    | dsimp only
    | with_reducible apply ok_ite
    | ((with_reducible apply ok_mk) <;> first | exact Or.inr (sub_bit hE rfl) | exact Or.inr (Or.inr (sub_bit hE rfl)) | with_reducible first | exact Or.inl rfl | exact rfl | exact Or.inr (Or.inl rfl) | assumption | apply ok_ite | apply State.duty_ok)
    | split

theorem execSensorSample_ok {s0 : State} {E W : Nat} {x s} (hE : sub 4608 E = true) (hW : sub 0 W = true) (h : Ok E W s0 s) :
    OkOut E W s0 (execSensorSample x s) := by
  unfold execSensorSample
  repeat' first
    | exact sub_trans rfl hE | exact sub_trans rfl hW | exact sub_bit hW rfl | with_reducible first | assumption | apply okOut_next | apply okOut_fault | apply State.duty_ok | apply State.tempRead_ok
    | intro _
    | dsimp only
    | with_reducible apply ok_ite
    | ((with_reducible apply ok_mk) <;> first | exact Or.inr (sub_bit hE rfl) | exact Or.inr (Or.inr (sub_bit hE rfl)) | with_reducible first | exact Or.inl rfl | exact rfl | exact Or.inr (Or.inl rfl) | assumption | apply ok_ite | apply State.duty_ok | apply State.tempRead_ok)
    | split

theorem execFlashFault_ok {s0 : State} {E W : Nat} {s} (hE : sub 4610 E = true) (hW : sub 3864537523017258344695351890931987344298927329706434998657235251451519142289560424536193766581922577962463616031502177177365078661042987655742908673467080748696980814823424 W = true) (h : Ok E W s0 s) :
    OkOut E W s0 (execFlashFault s) := by
  unfold execFlashFault
  repeat' first
    | exact sub_trans rfl hE | exact sub_trans rfl hW | exact sub_bit hW rfl | with_reducible first | assumption | apply okOut_next | apply okOut_fault | apply State.raiseMgt_ok | apply State.on_ok | apply ws_f_MGT_STATUS_FLASH_FAULT
    | intro _
    | dsimp only
    | with_reducible apply ok_ite
    | ((with_reducible apply ok_mk) <;> first | exact Or.inr (sub_bit hE rfl) | exact Or.inr (Or.inr (sub_bit hE rfl)) | with_reducible first | exact Or.inl rfl | exact rfl | exact Or.inr (Or.inl rfl) | assumption | apply ok_ite | apply State.raiseMgt_ok | apply State.on_ok | apply ws_f_MGT_STATUS_FLASH_FAULT)
    | split

theorem execLedgerRelease_ok {s0 : State} {E W : Nat} {n seq ticket s} (hE : sub 2473901162438 E = true) (hW : sub allSlots W = true) (h : Ok E W s0 s) :
    OkOut E W s0 (execLedgerRelease n seq ticket s) := by
  unfold execLedgerRelease
  repeat' first
    | exact sub_trans rfl hE | exact sub_trans rfl hW | exact sub_bit hW rfl | with_reducible first | assumption | apply okOut_next | apply okOut_fault | apply State.sendMessage_ok
    | intro _
    | dsimp only
    | with_reducible apply ok_ite
    | split

theorem execMgtMsg_ok {s0 : State} {E W : Nat} {n k d msg x pol s} (hE : sub 2473901162470 E = true) (hW : sub allSlots W = true) (h : Ok E W s0 s) :
    OkOut E W s0 (execMgtMsg n k d msg x pol s) := by
  unfold execMgtMsg
  repeat' first
    | exact sub_trans rfl hE | exact sub_trans rfl hW | exact sub_bit hW rfl | with_reducible first | assumption | apply okOut_next | apply okOut_fault | apply State.descriptor_ok | apply State.hostFetch_ok | apply State.message_ok | refine State.message_ok' ?_ ?_ ?_ (by assumption) | apply State.hostSend_ok
    | intro _
    | dsimp only
    | with_reducible apply ok_ite
    | split

theorem State.setVcore_ok {s0 : State} {E W : Nat} {s v ok} (hE : sub 4610 E = true) (hW : sub 125597469498060896202598936455289588689715138215459137456360145672174372124410713797426297413912483783780067521023820758264365056483897098811644531887680124332651876481761280 W = true) (h : Ok E W s0 s) :
    Ok E W s0 (State.setVcore s v ok) := by
  unfold State.setVcore
  repeat' first
    | exact sub_trans rfl hE | exact sub_trans rfl hW | exact sub_bit hW rfl | with_reducible first | assumption | apply State.raiseMgt_ok | apply State.on_ok | apply State.journal_ok | apply State.p_ok | apply ws_f_MGT_STATUS_AVS_FAULT | apply ws_f_MGT_STATUS_VCORE
    | intro _
    | dsimp only
    | with_reducible apply ok_ite
    | split

theorem execVcoreAdjust_ok {s0 : State} {E W : Nat} {ok s} (hE : sub 4610 E = true) (hW : sub 125597469498060896202598936455289588689715138215459137456360145672174372124410713797426297413912483783780067521023820758264365056483897098811644531887680124332651876481761280 W = true) (h : Ok E W s0 s) :
    OkOut E W s0 (execVcoreAdjust ok s) := by
  unfold execVcoreAdjust
  repeat' first
    | exact sub_trans rfl hE | exact sub_trans rfl hW | exact sub_bit hW rfl | with_reducible first | assumption | apply okOut_next | apply okOut_fault | apply State.dutyRan_ok | apply State.setVcore_ok | apply State.when_ok | apply State.raiseMgt_ok
    | intro _
    | dsimp only
    | with_reducible apply ok_ite
    | ((with_reducible apply ok_mk) <;> first | exact Or.inr (sub_bit hE rfl) | exact Or.inr (Or.inr (sub_bit hE rfl)) | with_reducible first | exact Or.inl rfl | exact rfl | exact Or.inr (Or.inl rfl) | assumption | apply ok_ite | apply State.dutyRan_ok | apply State.setVcore_ok | apply State.when_ok | apply State.raiseMgt_ok)
    | split

theorem execJournalRead_ok {s0 : State} {E W : Nat} {n seq first count handle s} (hE : sub 2473901162438 E = true) (hW : sub allSlots W = true) (h : Ok E W s0 s) :
    OkOut E W s0 (execJournalRead n seq first count handle s) := by
  unfold execJournalRead
  repeat' first
    | exact sub_trans rfl hE | exact sub_trans rfl hW | exact sub_bit hW rfl | with_reducible first | assumption | apply okOut_next | apply okOut_fault | apply State.sendMessage_ok
    | intro _
    | dsimp only
    | with_reducible apply ok_ite
    | split

theorem State.marginTest_ok {s0 : State} {E W : Nat} {s failing} (hE : sub 4610 E = true) (hW : sub 7729075046034516689390703781863974688597854659412869997314470502903038284579120849072387533163845155924927232063004354354730157322085975311485817346934161497393961629646848 W = true) (h : Ok E W s0 s) :
    Ok E W s0 (State.marginTest s failing) := by
  unfold State.marginTest
  repeat' first
    | exact sub_trans rfl hE | exact sub_trans rfl hW | exact sub_bit hW rfl | with_reducible first | assumption | apply State.off_ok | apply State.raiseMgt_ok | apply State.journal_ok | apply ws_f_MGT_STATUS_MARGIN_DUE
    | intro _
    | dsimp only
    | with_reducible apply ok_ite
    | ((with_reducible apply ok_mk) <;> first | exact Or.inr (sub_bit hE rfl) | exact Or.inr (Or.inr (sub_bit hE rfl)) | with_reducible first | exact Or.inl rfl | exact rfl | exact Or.inr (Or.inl rfl) | assumption | apply ok_ite | apply State.off_ok | apply State.raiseMgt_ok | apply State.journal_ok | apply ws_f_MGT_STATUS_MARGIN_DUE)
    | split

theorem execSramMarginTest_ok {s0 : State} {E W : Nat} {failing s} (hE : sub 2473901162438 E = true) (hW : sub allSlots W = true) (h : Ok E W s0 s) :
    OkOut E W s0 (execSramMarginTest failing s) := by
  unfold execSramMarginTest
  repeat' first
    | exact sub_trans rfl hE | exact sub_trans rfl hW | exact sub_bit hW rfl | with_reducible first | assumption | apply okOut_next | apply okOut_fault | apply State.marginTest_ok | apply State.dutyRan_ok | apply State.ledgerAsk_ok | refine State.ledgerAsk_ok' ?_ ?_ ?_ (by assumption) | apply State.endEntry_ok | apply State.on_ok | apply ws_f_MGT_STATUS_MARGIN_DUE
    | intro _
    | dsimp only
    | with_reducible apply ok_ite
    | split

theorem execLedgerList_ok {s0 : State} {E W : Nat} {n seq first s} (hE : sub 2473901162438 E = true) (hW : sub allSlots W = true) (h : Ok E W s0 s) :
    OkOut E W s0 (execLedgerList n seq first s) := by
  unfold execLedgerList
  repeat' first
    | exact sub_trans rfl hE | exact sub_trans rfl hW | exact sub_bit hW rfl | with_reducible first | assumption | apply okOut_next | apply okOut_fault | apply State.sendMessage_ok
    | intro _
    | dsimp only
    | with_reducible apply ok_ite
    | split

theorem wrMbCtl_ok {s0 : State} {E W : Nat} {n v s} (hE : sub 2473901162438 E = true) (hW : sub allSlots W = true) (h : Ok E W s0 s) :
    Ok E W s0 (wrMbCtl n v s) := by
  unfold wrMbCtl
  repeat' first
    | exact sub_trans rfl hE | exact sub_trans rfl hW | exact sub_bit hW rfl | with_reducible first | assumption | apply State.when_ok | apply State.off_ok | apply State.mailboxGo_ok | apply ws_f_MGT_OD_MB_CTL_DONE
    | intro _
    | dsimp only
    | with_reducible apply ok_ite
    | split

theorem execCalendarSet_ok {s0 : State} {E W : Nat} {s} (hE : sub 4608 E = true) (hW : sub 0 W = true) (h : Ok E W s0 s) :
    OkOut E W s0 (execCalendarSet s) := by
  unfold execCalendarSet
  repeat' first
    | exact sub_trans rfl hE | exact sub_trans rfl hW | exact sub_bit hW rfl | with_reducible first | assumption | apply okOut_next | apply okOut_fault | apply State.dutyRan_ok | apply State.journal_ok | apply State.when_ok | apply State.raiseMgt_ok
    | intro _
    | dsimp only
    | with_reducible apply ok_ite
    | ((with_reducible apply ok_mk) <;> first | exact Or.inr (sub_bit hE rfl) | exact Or.inr (Or.inr (sub_bit hE rfl)) | with_reducible first | exact Or.inl rfl | exact rfl | exact Or.inr (Or.inl rfl) | assumption | apply ok_ite | apply State.dutyRan_ok | apply State.journal_ok | apply State.when_ok | apply State.raiseMgt_ok)
    | split

theorem execImageStage_ok {s0 : State} {E W : Nat} {n x s} (hE : sub 2473901162438 E = true) (hW : sub allSlots W = true) (h : Ok E W s0 s) :
    OkOut E W s0 (execImageStage n x s) := by
  unfold execImageStage
  repeat' first
    | exact sub_trans rfl hE | exact sub_trans rfl hW | exact sub_bit hW rfl | with_reducible first | assumption | apply okOut_next | apply okOut_fault | apply State.completeMessage_ok
    | intro _
    | dsimp only
    | with_reducible apply ok_ite
    | split

theorem execLifeRead_ok {s0 : State} {E W : Nat} {n seq first s} (hE : sub 2473901162438 E = true) (hW : sub allSlots W = true) (h : Ok E W s0 s) :
    OkOut E W s0 (execLifeRead n seq first s) := by
  unfold execLifeRead
  repeat' first
    | exact sub_trans rfl hE | exact sub_trans rfl hW | exact sub_bit hW rfl | with_reducible first | assumption | apply okOut_next | apply okOut_fault | apply State.sendMessage_ok
    | intro _
    | dsimp only
    | with_reducible apply ok_ite
    | split

theorem execSensorRead_ok {s0 : State} {E W : Nat} {n seq s} (hE : sub 2473901162438 E = true) (hW : sub allSlots W = true) (h : Ok E W s0 s) :
    OkOut E W s0 (execSensorRead n seq s) := by
  unfold execSensorRead
  repeat' first
    | exact sub_trans rfl hE | exact sub_trans rfl hW | exact sub_bit hW rfl | with_reducible first | assumption | apply okOut_next | apply okOut_fault | apply State.sendMessage_ok
    | intro _
    | dsimp only
    | with_reducible apply ok_ite
    | split

theorem execOtpRefresh_ok {s0 : State} {E W : Nat} {s} (hE : sub 4096 E = true) (hW : sub 0 W = true) (h : Ok E W s0 s) :
    OkOut E W s0 (execOtpRefresh s) := by
  unfold execOtpRefresh
  repeat' first
    | exact sub_trans rfl hE | exact sub_trans rfl hW | exact sub_bit hW rfl | with_reducible first | assumption | apply okOut_next | apply okOut_fault | apply State.duty_ok
    | intro _
    | dsimp only
    | with_reducible apply ok_ite
    | split

end Sys2Proof.Machine
end

