-- ==== Sys2Proof/Laws/KeepAgeing.lean ====
section
/-! SUPPORT. What the definitions of Machine/Ageing.lean keep: the queue, and the canonical forms of the register window and of
the memories; one lemma for each. -/

namespace Sys2Proof.Machine

theorem State.writeCap_ok {s0 : State} {E W : Nat} {s n v} (hE : sub 2097666 E = true) (hW : sub 1224720827664335609236962600350409901130557945655466490308353887654080091579137638871099294809478242098513307521637210176668241002637153566041376564001854864188932922682067634291256676351624042051010560 W = true) (h : Ok E W s0 s) :
    Ok E W s0 (State.writeCap s n v) := by
  unfold State.writeCap
  repeat' first
    | exact sub_trans rfl hE | exact sub_trans rfl hW | exact sub_bit hW rfl | with_reducible first | assumption | apply State.write_ok | apply State.writeBlock_ok
    | intro _
    | dsimp only
    | with_reducible apply ok_ite
    | split

theorem State.propose_ok {s0 : State} {E W : Nat} {s axis quantity old new} (hE : sub 4096 E = true) (hW : sub 0 W = true) (h : Ok E W s0 s) :
    Ok E W s0 (State.propose s axis quantity old new) := by
  unfold State.propose
  repeat' first
    | exact sub_trans rfl hE | exact sub_trans rfl hW | exact sub_bit hW rfl | with_reducible first | assumption | apply State.journal_ok
    | intro _
    | dsimp only
    | with_reducible apply ok_ite
    | ((with_reducible apply ok_mk) <;> first | exact Or.inr (sub_bit hE rfl) | exact Or.inr (Or.inr (sub_bit hE rfl)) | with_reducible first | exact Or.inl rfl | exact rfl | exact Or.inr (Or.inl rfl) | assumption | apply ok_ite | apply State.journal_ok)
    | split

theorem State.setThermal_ok {s0 : State} {E W : Nat} {s n x} (hE : sub 4096 E = true) (hW : sub 0 W = true) (h : Ok E W s0 s) :
    Ok E W s0 (State.setThermal s n x) := by
  unfold State.setThermal
  repeat' first
    | exact sub_trans rfl hE | exact sub_trans rfl hW | exact sub_bit hW rfl | with_reducible first | assumption
    | intro _
    | dsimp only
    | with_reducible apply ok_ite
    | ((with_reducible apply ok_mk) <;> first | exact Or.inr (sub_bit hE rfl) | exact Or.inr (Or.inr (sub_bit hE rfl)) | with_reducible first | exact Or.inl rfl | exact rfl | exact Or.inr (Or.inl rfl) | assumption | apply ok_ite)
    | split

theorem State.halfCycle_ok {s0 : State} {E W : Nat} {s n d} (hE : sub 4098 E = true) (hW : sub 1886981212410770676120777290494134445458460610208220214188103150122812081196074426043063362588829383770734187515381922449885292314962396316280717125716348021824697663488 W = true) (h : Ok E W s0 s) :
    Ok E W s0 (State.halfCycle s n d) := by
  unfold State.halfCycle
  repeat' first
    | exact sub_trans rfl hE | exact sub_trans rfl hW | exact sub_bit hW rfl | with_reducible first | assumption | apply State.addLife_ok | apply State.p_ok | apply State.setThermal_ok | apply ws_f_MGT_AX_TH_LIFE_USED_LIFE_USED
    | intro _
    | dsimp only
    | with_reducible apply ok_ite
    | split

theorem State.countCycle_ok {s0 : State} {E W : Nat} {s n} (hE : sub 4098 E = true) (hW : sub 1886981212410770676120777290494134445458460610208220214188103150122812081196074426043063362588829383770734187515381922449885292314962396316280717125716348021824697663488 W = true) (h : Ok E W s0 s) :
    Ok E W s0 (State.countCycle s n) := by
  unfold State.countCycle
  repeat' first
    | exact sub_trans rfl hE | exact sub_trans rfl hW | exact sub_bit hW rfl | with_reducible first | assumption | apply State.setThermal_ok | apply State.halfCycle_ok
    | intro _
    | dsimp only
    | with_reducible apply ok_ite
    | split

theorem State.addEnergy_ok {s0 : State} {E W : Nat} {s n e} (hE : sub 4096 E = true) (hW : sub 0 W = true) (h : Ok E W s0 s) :
    Ok E W s0 (State.addEnergy s n e) := by
  unfold State.addEnergy
  repeat' first
    | exact sub_trans rfl hE | exact sub_trans rfl hW | exact sub_bit hW rfl | with_reducible first | assumption | apply State.addLife_ok | apply State.setThermal_ok
    | intro _
    | dsimp only
    | with_reducible apply ok_ite
    | split

theorem State.thermalUpdate_ok {s0 : State} {E W : Nat} {s n} (hE : sub 4114 E = true) (hW : sub 243420576400989417219580270473743343464141418716860407630265306365842758474293600959555173773958990506424710189484267996035202708630149124800212509217408894815385998589952 W = true) (h : Ok E W s0 s) :
    Ok E W s0 (State.thermalUpdate s n) := by
  unfold State.thermalUpdate
  repeat' first
    | exact sub_trans rfl hE | exact sub_trans rfl hW | exact sub_bit hW rfl | with_reducible first | assumption | apply State.when_ok | apply State.took_ok | apply State.p_ok | apply State.setThermal_ok | apply State.countCycle_ok | apply State.addEnergy_ok | apply ws_f_MGT_AX_TH_TJ_TJ
    | intro _
    | dsimp only
    | with_reducible apply ok_ite
    | split

theorem State.showPlan_ok {s0 : State} {E W : Nat} {s n} (hE : sub 2 E = true) (hW : sub 109444910319824699215005082848659797836590715392076772422909982707123100709372316710497675030152104258702582875892151502093346954267818986344281593291548185265832464482304 W = true) (h : Ok E W s0 s) :
    Ok E W s0 (State.showPlan s n) := by
  unfold State.showPlan
  repeat' first
    | exact sub_trans rfl hE | exact sub_trans rfl hW | exact sub_bit hW rfl | with_reducible first | assumption | apply State.p_ok | apply State.pb_ok | apply ws_f_MGT_AX_TH_PLAN_STATE_CAP_STEPS | apply ws_f_MGT_AX_TH_PLAN_STATE_FREQ_STEPS | apply ws_f_MGT_AX_TH_PLAN_STATE_GUARD_STEPS | apply ws_f_MGT_AX_TH_PLAN_STATE_PROPOSAL_OPEN
    | intro _
    | dsimp only
    | with_reducible apply ok_ite
    | split

theorem State.writeGuard_ok {s0 : State} {E W : Nat} {s n v} (hE : sub 514 E = true) (hW : sub 77467496342607257689677575160090356229891410927075463408488008169596726453340519335817955830279287752236813481382491717632 W = true) (h : Ok E W s0 s) :
    Ok E W s0 (State.writeGuard s n v) := by
  unfold State.writeGuard
  repeat' first
    | exact sub_trans rfl hE | exact sub_trans rfl hW | exact sub_bit hW rfl | with_reducible first | assumption | apply State.write_ok | apply State.p_ok | apply ws_f_AX_PWM_DT_GUARD_GUARD
    | intro _
    | dsimp only
    | with_reducible apply ok_ite
    | split

theorem State.writePeriod_ok {s0 : State} {E W : Nat} {s n v} (hE : sub 514 E = true) (hW : sub 77467496342607257689677575160090356229892122353671737479192690589728619831846369826603741525904746179632958099650999484416 W = true) (h : Ok E W s0 s) :
    Ok E W s0 (State.writePeriod s n v) := by
  unfold State.writePeriod
  repeat' first
    | exact sub_trans rfl hE | exact sub_trans rfl hW | exact sub_bit hW rfl | with_reducible first | assumption | apply State.write_ok | apply State.p_ok | apply ws_f_AX_PWM_PERIOD_PERIOD
    | intro _
    | dsimp only
    | with_reducible apply ok_ite
    | split

theorem State.rewritePlan_ok {s0 : State} {E W : Nat} {s n} (hE : sub 2097666 E = true) (hW : sub 1224720827664335609236962600350417449055407588738170973417515864191861925421578471751956047222078733346838091819341382431304307313962354343928804978180618581775677415243492132923805201984741788354609152 W = true) (h : Ok E W s0 s) :
    Ok E W s0 (State.rewritePlan s n) := by
  unfold State.rewritePlan
  repeat' first
    | exact sub_trans rfl hE | exact sub_trans rfl hW | exact sub_bit hW rfl | with_reducible first | assumption | apply State.when_ok | apply State.writeCap_ok | apply State.writeGuard_ok | apply State.on_ok | apply State.writePeriod_ok | apply ws_f_MGT_AX_TH_PLAN_STATE_FREQ_CHANGED
    | intro _
    | dsimp only
    | with_reducible apply ok_ite
    | split

theorem State.proposeAxis_ok {s0 : State} {E W : Nat} {s n quantity old new} (hE : sub 4608 E = true) (hW : sub 0 W = true) (h : Ok E W s0 s) :
    Ok E W s0 (State.proposeAxis s n quantity old new) := by
  unfold State.proposeAxis
  repeat' first
    | exact sub_trans rfl hE | exact sub_trans rfl hW | exact sub_bit hW rfl | with_reducible first | assumption | apply State.propose_ok | apply State.raiseTo_ok
    | intro _
    | dsimp only
    | with_reducible apply ok_ite
    | split

theorem State.planStep_ok {s0 : State} {E W : Nat} {s ev axis quantity old new} (hE : sub 4608 E = true) (hW : sub 0 W = true) (h : Ok E W s0 s) :
    Ok E W s0 (State.planStep s ev axis quantity old new) := by
  unfold State.planStep
  repeat' first
    | exact sub_trans rfl hE | exact sub_trans rfl hW | exact sub_bit hW rfl | with_reducible first | assumption | apply State.raiseMgt_ok | apply State.journal_ok
    | intro _
    | dsimp only
    | with_reducible apply ok_ite
    | ((with_reducible apply ok_mk) <;> first | exact Or.inr (sub_bit hE rfl) | exact Or.inr (Or.inr (sub_bit hE rfl)) | with_reducible first | exact Or.inl rfl | exact rfl | exact Or.inr (Or.inl rfl) | assumption | apply ok_ite | apply State.raiseMgt_ok | apply State.journal_ok)
    | split

theorem State.tightenPeriod_ok {s0 : State} {E W : Nat} {s n} (hE : sub 4610 E = true) (hW : sub 7547924849643082704483109161976537781833842440910348353095019858180925899944388060402145572708989272562129440651256309631387539086453326791027614682498350186949790138368 W = true) (h : Ok E W s0 s) :
    Ok E W s0 (State.tightenPeriod s n) := by
  unfold State.tightenPeriod
  repeat' first
    | exact sub_trans rfl hE | exact sub_trans rfl hW | exact sub_bit hW rfl | with_reducible first | assumption | apply State.proposeAxis_ok | apply State.planStep_ok | apply State.on_ok | apply State.writePeriod_ok | apply State.setThermal_ok | apply ws_f_MGT_AX_TH_PLAN_STATE_FREQ_CHANGED
    | intro _
    | dsimp only
    | with_reducible apply ok_ite
    | split

theorem State.tightenGuard_ok {s0 : State} {E W : Nat} {s n} (hE : sub 4610 E = true) (hW : sub 77467496342607257689677575160090356229891410927075463408488008169596726453340519335817955830279287752236813481382491717632 W = true) (h : Ok E W s0 s) :
    Ok E W s0 (State.tightenGuard s n) := by
  unfold State.tightenGuard
  repeat' first
    | exact sub_trans rfl hE | exact sub_trans rfl hW | exact sub_bit hW rfl | with_reducible first | assumption | apply State.proposeAxis_ok | apply State.planStep_ok | apply State.writeGuard_ok | apply State.setThermal_ok
    | intro _
    | dsimp only
    | with_reducible apply ok_ite
    | split

theorem State.tightenCap_ok {s0 : State} {E W : Nat} {s n} (hE : sub 2101762 E = true) (hW : sub 1224720827664335609236962600350409901130557945655466490308353887654080091579137638871099294809478242098513307521637210176668241002637153566041376564001854864188932922682067634291256676351624042051010560 W = true) (h : Ok E W s0 s) :
    Ok E W s0 (State.tightenCap s n) := by
  unfold State.tightenCap
  repeat' first
    | exact sub_trans rfl hE | exact sub_trans rfl hW | exact sub_bit hW rfl | with_reducible first | assumption | apply State.proposeAxis_ok | apply State.planStep_ok | apply State.writeCap_ok | apply State.setThermal_ok
    | intro _
    | dsimp only
    | with_reducible apply ok_ite
    | split

theorem State.relaxPeriod_ok {s0 : State} {E W : Nat} {s n} (hE : sub 4610 E = true) (hW : sub 7547924849643082704483109161976537781833842440910348353095019858180925899944388060402145572708989272562129440651256309631387539086453326791027614682498350186949790138368 W = true) (h : Ok E W s0 s) :
    Ok E W s0 (State.relaxPeriod s n) := by
  unfold State.relaxPeriod
  repeat' first
    | exact sub_trans rfl hE | exact sub_trans rfl hW | exact sub_bit hW rfl | with_reducible first | assumption | apply State.planStep_ok | apply State.on_ok | apply State.writePeriod_ok | apply State.setThermal_ok | apply ws_f_MGT_AX_TH_PLAN_STATE_FREQ_CHANGED
    | intro _
    | dsimp only
    | with_reducible apply ok_ite
    | split

theorem State.relaxGuard_ok {s0 : State} {E W : Nat} {s n} (hE : sub 4610 E = true) (hW : sub 77467496342607257689677575160090356229891410927075463408488008169596726453340519335817955830279287752236813481382491717632 W = true) (h : Ok E W s0 s) :
    Ok E W s0 (State.relaxGuard s n) := by
  unfold State.relaxGuard
  repeat' first
    | exact sub_trans rfl hE | exact sub_trans rfl hW | exact sub_bit hW rfl | with_reducible first | assumption | apply State.planStep_ok | apply State.writeGuard_ok | apply State.setThermal_ok
    | intro _
    | dsimp only
    | with_reducible apply ok_ite
    | split

theorem State.relaxCap_ok {s0 : State} {E W : Nat} {s n} (hE : sub 2101762 E = true) (hW : sub 1224720827664335609236962600350409901130557945655466490308353887654080091579137638871099294809478242098513307521637210176668241002637153566041376564001854864188932922682067634291256676351624042051010560 W = true) (h : Ok E W s0 s) :
    Ok E W s0 (State.relaxCap s n) := by
  unfold State.relaxCap
  repeat' first
    | exact sub_trans rfl hE | exact sub_trans rfl hW | exact sub_bit hW rfl | with_reducible first | assumption | apply State.planStep_ok | apply State.writeCap_ok | apply State.setThermal_ok
    | intro _
    | dsimp only
    | with_reducible apply ok_ite
    | split

theorem State.replanAxis_ok {s0 : State} {E W : Nat} {s n} (hE : sub 2101762 E = true) (hW : sub 1224720827664335609236962600350647660763321702760657708246956148594207857616023874618086995806393716420744012899318636161540144498782383914805681572719504587438102827594078380413142596443404401469554688 W = true) (h : Ok E W s0 s) :
    Ok E W s0 (State.replanAxis s n) := by
  unfold State.replanAxis
  repeat' first
    | exact sub_trans rfl hE | exact sub_trans rfl hW | exact sub_bit hW rfl | with_reducible first | assumption | apply State.p_ok | apply State.setThermal_ok | apply State.rewritePlan_ok | apply State.tightenPeriod_ok | apply State.tightenGuard_ok | apply State.tightenCap_ok | apply State.relaxPeriod_ok | apply State.relaxGuard_ok | apply State.relaxCap_ok | apply State.showPlan_ok | apply ws_f_MGT_AX_TH_TJ_PEAK_H_TJ_PEAK_H
    | intro _
    | dsimp only
    | with_reducible apply ok_ite
    | split

theorem State.setChopPlan_ok {s0 : State} {E W : Nat} {s g x} (hE : sub 4096 E = true) (hW : sub 0 W = true) (h : Ok E W s0 s) :
    Ok E W s0 (State.setChopPlan s g x) := by
  unfold State.setChopPlan
  repeat' first
    | exact sub_trans rfl hE | exact sub_trans rfl hW | exact sub_bit hW rfl | with_reducible first | assumption
    | intro _
    | dsimp only
    | with_reducible apply ok_ite
    | ((with_reducible apply ok_mk) <;> first | exact Or.inr (sub_bit hE rfl) | exact Or.inr (Or.inr (sub_bit hE rfl)) | with_reducible first | exact Or.inl rfl | exact rfl | exact Or.inr (Or.inl rfl) | assumption | apply ok_ite)
    | split

theorem State.writeDuty_ok {s0 : State} {E W : Nat} {s g v} (hE : sub 514 E = true) (hW : sub 86646005408771806969083132932046525822744888496668052850782871813987612088354461225235039080114960219678418447309136912644571136 W = true) (h : Ok E W s0 s) :
    Ok E W s0 (State.writeDuty s g v) := by
  unfold State.writeDuty
  repeat' first
    | exact sub_trans rfl hE | exact sub_trans rfl hW | exact sub_bit hW rfl | with_reducible first | assumption | apply State.write_ok | apply State.p_ok | apply ws_f_GLB_BCH_CTL_MAX_DUTY
    | intro _
    | dsimp only
    | with_reducible apply ok_ite
    | split

theorem State.replanChopper_ok {s0 : State} {E W : Nat} {s g} (hE : sub 6658 E = true) (hW : sub 86646005408771806969083132932046525822744888496668052850782871813987612088354461225235039080114960219678418447309136912644571136 W = true) (h : Ok E W s0 s) :
    Ok E W s0 (State.replanChopper s g) := by
  unfold State.replanChopper
  repeat' first
    | exact sub_trans rfl hE | exact sub_trans rfl hW | exact sub_bit hW rfl | with_reducible first | assumption | apply State.setBch_ok | apply State.setChopPlan_ok | apply State.writeDuty_ok | apply State.propose_ok | apply State.planStep_ok
    | intro _
    | dsimp only
    | with_reducible apply ok_ite
    | split

theorem execReplan_ok {s0 : State} {E W : Nat} {s} (hE : sub 2103810 E = true) (hW : sub 1224720827664335609236962600350647660763321702760657708246956148594207857702669802559362460168219159675215378631707294767034412472859870809012597441645305307437303018348440195956617938987266021124997120 W = true) (h : Ok E W s0 s) :
    OkOut E W s0 (execReplan s) := by
  unfold execReplan
  repeat' first
    | exact sub_trans rfl hE | exact sub_trans rfl hW | exact sub_bit hW rfl | with_reducible first | assumption | apply okOut_next | apply okOut_fault | apply State.when_ok | apply State.each_ok | apply State.replanAxis_ok | apply State.replanChopper_ok
    | intro _
    | dsimp only
    | with_reducible apply ok_ite
    | ((with_reducible apply ok_mk) <;> first | exact Or.inr (sub_bit hE rfl) | exact Or.inr (Or.inr (sub_bit hE rfl)) | with_reducible first | exact Or.inl rfl | exact rfl | exact Or.inr (Or.inl rfl) | assumption | apply ok_ite | apply State.when_ok | apply State.each_ok | apply State.replanAxis_ok | apply State.replanChopper_ok)
    | split

theorem execThermalModelUpdate_ok {s0 : State} {E W : Nat} {s} (hE : sub 4114 E = true) (hW : sub 243420576400989417219580270473743343464141418716860407630265306365842758474293600959555173773958990506424710189484267996035202708630149124800212509217408894815385998589952 W = true) (h : Ok E W s0 s) :
    OkOut E W s0 (execThermalModelUpdate s) := by
  unfold execThermalModelUpdate
  repeat' first
    | exact sub_trans rfl hE | exact sub_trans rfl hW | exact sub_bit hW rfl | with_reducible first | assumption | apply okOut_next | apply okOut_fault | apply State.duty_ok | apply State.each_ok | apply State.thermalUpdate_ok
    | intro _
    | dsimp only
    | with_reducible apply ok_ite
    | split

end Sys2Proof.Machine
end

