-- ==== Sys2Proof/Laws/KeepDebug.lean ====
section
/-! SUPPORT. What the definitions of Machine/Debug.lean keep: the queue, and the canonical forms of the register window and of
the memories; one lemma for each. -/

namespace Sys2Proof.Machine

theorem State.tap_ok {s0 : State} {E W : Nat} {s ir} (hE : sub 4096 E = true) (hW : sub 0 W = true) (h : Ok E W s0 s) :
    Ok E W s0 (State.tap s ir) := by
  unfold State.tap
  repeat' first
    | exact sub_trans rfl hE | exact sub_trans rfl hW | exact sub_bit hW rfl | with_reducible first | assumption
    | intro _
    | dsimp only
    | with_reducible apply ok_ite
    | ((with_reducible apply ok_mk) <;> first | exact Or.inr (sub_bit hE rfl) | exact Or.inr (Or.inr (sub_bit hE rfl)) | with_reducible first | exact Or.inl rfl | exact rfl | exact Or.inr (Or.inl rfl) | assumption | apply ok_ite)
    | split

theorem execDbgChal_ok {s0 : State} {E W : Nat} {s} (hE : sub 4128 E = true) (hW : sub 0 W = true) (h : Ok E W s0 s) :
    OkOut E W s0 (execDbgChal s) := by
  unfold execDbgChal
  repeat' first
    | exact sub_trans rfl hE | exact sub_trans rfl hW | exact sub_bit hW rfl | with_reducible first | assumption | apply okOut_next | apply okOut_fault | apply State.emit_ok | apply State.tap_ok
    | intro _
    | dsimp only
    | with_reducible apply ok_ite
    | split

theorem execSamplePreload_ok {s0 : State} {E W : Nat} {cells s} (hE : sub 4096 E = true) (hW : sub 0 W = true) (h : Ok E W s0 s) :
    OkOut E W s0 (execSamplePreload cells s) := by
  unfold execSamplePreload
  repeat' first
    | exact sub_trans rfl hE | exact sub_trans rfl hW | exact sub_bit hW rfl | with_reducible first | assumption | apply okOut_next | apply okOut_fault | apply State.tap_ok
    | intro _
    | dsimp only
    | with_reducible apply ok_ite
    | ((with_reducible apply ok_mk) <;> first | exact Or.inr (sub_bit hE rfl) | exact Or.inr (Or.inr (sub_bit hE rfl)) | with_reducible first | exact Or.inl rfl | exact rfl | exact Or.inr (Or.inl rfl) | assumption | apply ok_ite | apply State.tap_ok)
    | split

theorem State.coreDone_ok {s0 : State} {E W : Nat} {s data} (hE : sub 4128 E = true) (hW : sub 0 W = true) (h : Ok E W s0 s) :
    Ok E W s0 (State.coreDone s data) := by
  unfold State.coreDone
  repeat' first
    | exact sub_trans rfl hE | exact sub_trans rfl hW | exact sub_bit hW rfl | with_reducible first | assumption | apply State.emit_ok
    | intro _
    | dsimp only
    | with_reducible apply ok_ite
    | ((with_reducible apply ok_mk) <;> first | exact Or.inr (sub_bit hE rfl) | exact Or.inr (Or.inr (sub_bit hE rfl)) | with_reducible first | exact Or.inl rfl | exact rfl | exact Or.inr (Or.inl rfl) | assumption | apply ok_ite | apply State.emit_ok)
    | split

theorem State.coreOp_ok {s0 : State} {E W : Nat} {s core k} (hE : sub 4128 E = true) (hW : sub 0 W = true) (h : Ok E W s0 s) (hk : ∀ t, Ok E W s0 t → Ok E W s0 (k t)) :
    Ok E W s0 (State.coreOp s core k) := by
  unfold State.coreOp
  repeat' first
    | exact sub_trans rfl hE | exact sub_trans rfl hW | exact sub_bit hW rfl | with_reducible first | assumption | apply hk | apply State.tap_ok | apply State.coreDone_ok
    | intro _
    | dsimp only
    | with_reducible apply ok_ite
    | split

theorem State.coreOpen_ok {s0 : State} {E W : Nat} {s} (hE : sub 4144 E = true) (hW : sub 0 W = true) (h : Ok E W s0 s) :
    Ok E W s0 (State.coreOpen s) := by
  unfold State.coreOpen
  repeat' first
    | exact sub_trans rfl hE | exact sub_trans rfl hW | exact sub_bit hW rfl | with_reducible first | assumption | apply State.coreDone_ok | apply State.took_ok
    | intro _
    | dsimp only
    | with_reducible apply ok_ite
    | split

theorem State.coreRan_ok {s0 : State} {E W : Nat} {s core} (hE : sub 4096 E = true) (hW : sub 0 W = true) (h : Ok E W s0 s) :
    Ok E W s0 (State.coreRan s core) := by
  unfold State.coreRan
  repeat' first
    | exact sub_trans rfl hE | exact sub_trans rfl hW | exact sub_bit hW rfl | with_reducible first | assumption
    | intro _
    | dsimp only
    | with_reducible apply ok_ite
    | ((with_reducible apply ok_mk) <;> first | exact Or.inr (sub_bit hE rfl) | exact Or.inr (Or.inr (sub_bit hE rfl)) | with_reducible first | exact Or.inl rfl | exact rfl | exact Or.inr (Or.inl rfl) | assumption | apply ok_ite)
    | split

theorem execCoreSingleStep_ok {s0 : State} {E W : Nat} {core s} (hE : sub 4144 E = true) (hW : sub 0 W = true) (h : Ok E W s0 s) :
    OkOut E W s0 (execCoreSingleStep core s) := by
  unfold execCoreSingleStep
  repeat' first
    | exact sub_trans rfl hE | exact sub_trans rfl hW | exact sub_bit hW rfl | with_reducible first | assumption | apply okOut_next | apply okOut_fault | apply State.coreOp_ok | apply State.coreOpen_ok | apply State.when_ok | apply State.coreRan_ok
    | intro _
    | dsimp only
    | with_reducible apply ok_ite
    | split

theorem execExtest_ok {s0 : State} {E W : Nat} {s} (hE : sub 4096 E = true) (hW : sub 0 W = true) (h : Ok E W s0 s) :
    OkOut E W s0 (execExtest s) := by
  unfold execExtest
  repeat' first
    | exact sub_trans rfl hE | exact sub_trans rfl hW | exact sub_bit hW rfl | with_reducible first | assumption | apply okOut_next | apply okOut_fault | apply State.tap_ok
    | intro _
    | dsimp only
    | with_reducible apply ok_ite
    | split

theorem State.freezeChan_ok {s0 : State} {E W : Nat} {s k} (hE : sub 524290 E = true) (hW : sub 56236422431789954785131731346074773235871213978773957913759444657647969758393598378988008576298635714374011382919011189040103325693678746112606439760814548189184 W = true) (h : Ok E W s0 s) :
    Ok E W s0 (State.freezeChan s k) := by
  unfold State.freezeChan
  repeat' first
    | exact sub_trans rfl hE | exact sub_trans rfl hW | exact sub_bit hW rfl | with_reducible first | assumption | apply State.setChanState_ok | apply State.setChan_ok
    | intro _
    | dsimp only
    | with_reducible apply ok_ite
    | split

theorem State.coreRead_ok {s0 : State} {E W : Nat} {s v} (hE : sub 4144 E = true) (hW : sub 0 W = true) (h : Ok E W s0 s) :
    Ok E W s0 (State.coreRead s v) := by
  unfold State.coreRead
  repeat' first
    | exact sub_trans rfl hE | exact sub_trans rfl hW | exact sub_bit hW rfl | with_reducible first | assumption | apply State.coreDone_ok | apply State.coreOpen_ok
    | intro _
    | dsimp only
    | with_reducible apply ok_ite
    | split

theorem State.refuseCert_ok {s0 : State} {E W : Nat} {s r} (hE : sub 4608 E = true) (hW : sub 0 W = true) (h : Ok E W s0 s) :
    Ok E W s0 (State.refuseCert s r) := by
  unfold State.refuseCert
  repeat' first
    | exact sub_trans rfl hE | exact sub_trans rfl hW | exact sub_bit hW rfl | with_reducible first | assumption | apply State.raiseMgt_ok
    | intro _
    | dsimp only
    | with_reducible apply ok_ite
    | ((with_reducible apply ok_mk) <;> first | exact Or.inr (sub_bit hE rfl) | exact Or.inr (Or.inr (sub_bit hE rfl)) | with_reducible first | exact Or.inl rfl | exact rfl | exact Or.inr (Or.inl rfl) | assumption | apply ok_ite | apply State.raiseMgt_ok)
    | split

theorem execDbgCert_ok {s0 : State} {E W : Nat} {c s} (hE : sub 4624 E = true) (hW : sub 0 W = true) (h : Ok E W s0 s) :
    OkOut E W s0 (execDbgCert c s) := by
  unfold execDbgCert
  repeat' first
    | exact sub_trans rfl hE | exact sub_trans rfl hW | exact sub_bit hW rfl | with_reducible first | assumption | apply okOut_next | apply okOut_fault | apply State.tap_ok | apply State.when_ok | apply State.took_ok | apply State.journal_ok | apply State.raiseMgt_ok | apply State.refuseCert_ok
    | intro _
    | dsimp only
    | with_reducible apply ok_ite
    | ((with_reducible apply ok_mk) <;> first | exact Or.inr (sub_bit hE rfl) | exact Or.inr (Or.inr (sub_bit hE rfl)) | with_reducible first | exact Or.inl rfl | exact rfl | exact Or.inr (Or.inl rfl) | assumption | apply ok_ite | apply State.tap_ok | apply State.when_ok | apply State.took_ok | apply State.journal_ok | apply State.raiseMgt_ok | apply State.refuseCert_ok)
    | split

theorem execCoreReadRegister_ok {s0 : State} {E W : Nat} {core reg s} (hE : sub 4144 E = true) (hW : sub 0 W = true) (h : Ok E W s0 s) :
    OkOut E W s0 (execCoreReadRegister core reg s) := by
  unfold execCoreReadRegister
  repeat' first
    | exact sub_trans rfl hE | exact sub_trans rfl hW | exact sub_bit hW rfl | with_reducible first | assumption | apply okOut_next | apply okOut_fault | apply State.coreOp_ok | apply State.coreRead_ok
    | intro _
    | dsimp only
    | with_reducible apply ok_ite
    | split

theorem State.endDebug_ok {s0 : State} {E W : Nat} {s} (hE : sub 2473901162438 E = true) (hW : sub allSlots W = true) (h : Ok E W s0 s) :
    Ok E W s0 (State.endDebug s) := by
  unfold State.endDebug
  repeat' first
    | exact sub_trans rfl hE | exact sub_trans rfl hW | exact sub_bit hW rfl | with_reducible first | assumption | apply State.serveMail_ok | apply State.endSession_ok
    | intro _
    | dsimp only
    | with_reducible apply ok_ite
    | split

theorem execIdcode_ok {s0 : State} {E W : Nat} {s} (hE : sub 4128 E = true) (hW : sub 0 W = true) (h : Ok E W s0 s) :
    OkOut E W s0 (execIdcode s) := by
  unfold execIdcode
  repeat' first
    | exact sub_trans rfl hE | exact sub_trans rfl hW | exact sub_bit hW rfl | with_reducible first | assumption | apply okOut_next | apply okOut_fault | apply State.emit_ok | apply State.tap_ok
    | intro _
    | dsimp only
    | with_reducible apply ok_ite
    | split

theorem execBypass_ok {s0 : State} {E W : Nat} {code s} (hE : sub 4096 E = true) (hW : sub 0 W = true) (h : Ok E W s0 s) :
    OkOut E W s0 (execBypass code s) := by
  unfold execBypass
  repeat' first
    | exact sub_trans rfl hE | exact sub_trans rfl hW | exact sub_bit hW rfl | with_reducible first | assumption | apply okOut_next | apply okOut_fault | apply State.tap_ok
    | intro _
    | dsimp only
    | with_reducible apply ok_ite
    | split

theorem State.setHalted_ok {s0 : State} {E W : Nat} {s core b} (hE : sub 4096 E = true) (hW : sub 0 W = true) (h : Ok E W s0 s) :
    Ok E W s0 (State.setHalted s core b) := by
  unfold State.setHalted
  repeat' first
    | exact sub_trans rfl hE | exact sub_trans rfl hW | exact sub_bit hW rfl | with_reducible first | assumption
    | intro _
    | dsimp only
    | with_reducible apply ok_ite
    | ((with_reducible apply ok_mk) <;> first | exact Or.inr (sub_bit hE rfl) | exact Or.inr (Or.inr (sub_bit hE rfl)) | with_reducible first | exact Or.inl rfl | exact rfl | exact Or.inr (Or.inl rfl) | assumption | apply ok_ite)
    | split

theorem execCoreHalt_ok {s0 : State} {E W : Nat} {core s} (hE : sub 528434 E = true) (hW : sub 56236422431789954785131731346074773235871213978773957913759444657647969758393598378988008576298635714374011382919011189040103325693678746112606439760814548189184 W = true) (h : Ok E W s0 s) :
    OkOut E W s0 (execCoreHalt core s) := by
  unfold execCoreHalt
  repeat' first
    | exact sub_trans rfl hE | exact sub_trans rfl hW | exact sub_bit hW rfl | with_reducible first | assumption | apply okOut_next | apply okOut_fault | apply State.coreOp_ok | apply State.coreDone_ok | apply State.setHalted_ok | apply State.coreOpen_ok | apply State.each_ok | apply State.freezeChan_ok
    | intro _
    | dsimp only
    | with_reducible apply ok_ite
    | split

theorem execClamp_ok {s0 : State} {E W : Nat} {s} (hE : sub 4096 E = true) (hW : sub 0 W = true) (h : Ok E W s0 s) :
    OkOut E W s0 (execClamp s) := by
  unfold execClamp
  repeat' first
    | exact sub_trans rfl hE | exact sub_trans rfl hW | exact sub_bit hW rfl | with_reducible first | assumption | apply okOut_next | apply okOut_fault | apply State.tap_ok
    | intro _
    | dsimp only
    | with_reducible apply ok_ite
    | split

theorem execCoreWriteRegister_ok {s0 : State} {E W : Nat} {core reg data s} (hE : sub 4144 E = true) (hW : sub 0 W = true) (h : Ok E W s0 s) :
    OkOut E W s0 (execCoreWriteRegister core reg data s) := by
  unfold execCoreWriteRegister
  repeat' first
    | exact sub_trans rfl hE | exact sub_trans rfl hW | exact sub_bit hW rfl | with_reducible first | assumption | apply okOut_next | apply okOut_fault | apply State.coreOp_ok | apply State.coreOpen_ok
    | intro _
    | dsimp only
    | with_reducible apply ok_ite
    | ((with_reducible apply ok_mk) <;> first | exact Or.inr (sub_bit hE rfl) | exact Or.inr (Or.inr (sub_bit hE rfl)) | with_reducible first | exact Or.inl rfl | exact rfl | exact Or.inr (Or.inl rfl) | assumption | apply ok_ite | apply State.coreOp_ok | apply State.coreOpen_ok)
    | split

theorem execHighz_ok {s0 : State} {E W : Nat} {s} (hE : sub 4096 E = true) (hW : sub 0 W = true) (h : Ok E W s0 s) :
    OkOut E W s0 (execHighz s) := by
  unfold execHighz
  repeat' first
    | exact sub_trans rfl hE | exact sub_trans rfl hW | exact sub_bit hW rfl | with_reducible first | assumption | apply okOut_next | apply okOut_fault | apply State.tap_ok
    | intro _
    | dsimp only
    | with_reducible apply ok_ite
    | split

theorem execCoreReadMemory_ok {s0 : State} {E W : Nat} {core addr s} (hE : sub 4144 E = true) (hW : sub 0 W = true) (h : Ok E W s0 s) :
    OkOut E W s0 (execCoreReadMemory core addr s) := by
  unfold execCoreReadMemory
  repeat' first
    | exact sub_trans rfl hE | exact sub_trans rfl hW | exact sub_bit hW rfl | with_reducible first | assumption | apply okOut_next | apply okOut_fault | apply State.coreOp_ok | apply State.coreRead_ok
    | intro _
    | dsimp only
    | with_reducible apply ok_ite
    | split

theorem execDbgLock_ok {s0 : State} {E W : Nat} {s} (hE : sub 2473901162438 E = true) (hW : sub allSlots W = true) (h : Ok E W s0 s) :
    OkOut E W s0 (execDbgLock s) := by
  unfold execDbgLock
  repeat' first
    | exact sub_trans rfl hE | exact sub_trans rfl hW | exact sub_bit hW rfl | with_reducible first | assumption | apply okOut_next | apply okOut_fault | apply State.tap_ok | apply State.endDebug_ok
    | intro _
    | dsimp only
    | with_reducible apply ok_ite
    | split

theorem execDebugSessionExpiry_ok {s0 : State} {E W : Nat} {s} (hE : sub 2473901162438 E = true) (hW : sub allSlots W = true) (h : Ok E W s0 s) :
    OkOut E W s0 (execDebugSessionExpiry s) := by
  unfold execDebugSessionExpiry
  repeat' first
    | exact sub_trans rfl hE | exact sub_trans rfl hW | exact sub_bit hW rfl | with_reducible first | assumption | apply okOut_next | apply okOut_fault | apply State.when_ok | apply State.endDebug_ok
    | intro _
    | dsimp only
    | with_reducible apply ok_ite
    | split

theorem execCoreResume_ok {s0 : State} {E W : Nat} {core s} (hE : sub 2473901162486 E = true) (hW : sub allSlots W = true) (h : Ok E W s0 s) :
    OkOut E W s0 (execCoreResume core s) := by
  unfold execCoreResume
  repeat' first
    | exact sub_trans rfl hE | exact sub_trans rfl hW | exact sub_bit hW rfl | with_reducible first | assumption | apply okOut_next | apply okOut_fault | apply State.coreOp_ok | apply State.coreOpen_ok | apply State.when_ok | apply State.serveMail_ok | apply State.coreRan_ok | apply State.setHalted_ok
    | intro _
    | dsimp only
    | with_reducible apply ok_ite
    | split

theorem execCoreWriteMemory_ok {s0 : State} {E W : Nat} {core addr data s} (hE : sub 4144 E = true) (hW : sub 0 W = true) (h : Ok E W s0 s) :
    OkOut E W s0 (execCoreWriteMemory core addr data s) := by
  unfold execCoreWriteMemory
  repeat' first
    | exact sub_trans rfl hE | exact sub_trans rfl hW | exact sub_bit hW rfl | with_reducible first | assumption | apply okOut_next | apply okOut_fault | apply State.coreOp_ok | apply State.coreOpen_ok
    | intro _
    | dsimp only
    | with_reducible apply ok_ite
    | ((with_reducible apply ok_mk) <;> first | exact Or.inr (sub_bit hE rfl) | exact Or.inr (Or.inr (sub_bit hE rfl)) | with_reducible first | exact Or.inl rfl | exact rfl | exact Or.inr (Or.inl rfl) | assumption | apply ok_ite | apply State.coreOp_ok | apply State.coreOpen_ok)
    | split

theorem execDbgStatus_ok {s0 : State} {E W : Nat} {s} (hE : sub 4128 E = true) (hW : sub 0 W = true) (h : Ok E W s0 s) :
    OkOut E W s0 (execDbgStatus s) := by
  unfold execDbgStatus
  repeat' first
    | exact sub_trans rfl hE | exact sub_trans rfl hW | exact sub_bit hW rfl | with_reducible first | assumption | apply okOut_next | apply okOut_fault | apply State.emit_ok | apply State.tap_ok
    | intro _
    | dsimp only
    | with_reducible apply ok_ite
    | split

theorem execTestLogicReset_ok {s0 : State} {E W : Nat} {trst s} (hE : sub 2473901162438 E = true) (hW : sub allSlots W = true) (h : Ok E W s0 s) :
    OkOut E W s0 (execTestLogicReset trst s) := by
  unfold execTestLogicReset
  repeat' first
    | exact sub_trans rfl hE | exact sub_trans rfl hW | exact sub_bit hW rfl | with_reducible first | assumption | apply okOut_next | apply okOut_fault | apply State.tap_ok | apply State.when_ok | apply State.endDebug_ok
    | intro _
    | dsimp only
    | with_reducible apply ok_ite
    | split

theorem execDbgReset_ok {s0 : State} {E W : Nat} {s} (hE : sub 2473901162438 E = true) (hW : sub allSlots W = true) (h : Ok E W s0 s) :
    OkOut E W s0 (execDbgReset s) := by
  unfold execDbgReset
  repeat' first
    | exact sub_trans rfl hE | exact sub_trans rfl hW | exact sub_bit hW rfl | with_reducible first | assumption | apply okOut_next | apply okOut_fault | apply State.tap_ok | apply State.when_ok | apply State.endReset_ok
    | intro _
    | dsimp only
    | with_reducible apply ok_ite
    | split

theorem execDebugRefusalPeriodEnd_ok {s0 : State} {E W : Nat} {s} (hE : sub 4096 E = true) (hW : sub 0 W = true) (h : Ok E W s0 s) :
    OkOut E W s0 (execDebugRefusalPeriodEnd s) := by
  unfold execDebugRefusalPeriodEnd
  repeat' first
    | exact sub_trans rfl hE | exact sub_trans rfl hW | exact sub_bit hW rfl | with_reducible first | assumption | apply okOut_next | apply okOut_fault | apply State.when_ok
    | intro _
    | dsimp only
    | with_reducible apply ok_ite
    | ((with_reducible apply ok_mk) <;> first | exact Or.inr (sub_bit hE rfl) | exact Or.inr (Or.inr (sub_bit hE rfl)) | with_reducible first | exact Or.inl rfl | exact rfl | exact Or.inr (Or.inl rfl) | assumption | apply ok_ite | apply State.when_ok)
    | split

end Sys2Proof.Machine
end

