-- ==== Sys2Proof/Laws/KeepCrossing.lean ====
section
/-! SUPPORT. What the definitions of Machine/Crossing.lean keep: the queue, and the canonical forms of the register window and of
the memories; one lemma for each. -/

namespace Sys2Proof.Machine

theorem State.flrDue_ok {s0 : State} {E W : Nat} {s} (hE : sub 2 E = true) (hW : sub 3048582568667961163458591044719888970457615373696260889510895468384152088691177363398736428772941378085768487423248655171335913749304966119424 W = true) (h : Ok E W s0 s) :
    Ok E W s0 (State.flrDue s) := by
  unfold State.flrDue
  repeat' first
    | exact sub_trans rfl hE | exact sub_trans rfl hW | exact sub_bit hW rfl | with_reducible first | assumption | apply State.each_ok | apply State.when_ok | apply State.off_ok | apply ws_f_HIF_OD_STATUS_FLR_BUSY
    | intro _
    | dsimp only
    | with_reducible apply ok_ite
    | split

theorem State.carriersStep_ok {s0 : State} {E W : Nat} {s d} (hE : sub 2098176 E = true) (hW : sub 0 W = true) (h : Ok E W s0 s) :
    Ok E W s0 (State.carriersStep s d) := by
  unfold State.carriersStep
  repeat' first
    | exact sub_trans rfl hE | exact sub_trans rfl hW | exact sub_bit hW rfl | with_reducible first | assumption | apply State.each_ok | apply State.setAe_ok | apply State.setPwm_ok
    | intro _
    | dsimp only
    | with_reducible apply ok_ite
    | split

theorem State.takeSteps_ok {s0 : State} {E W : Nat} {s} (hE : sub 10472707778 E = true) (hW : sub 1224723163633931840166337931494353824501479455409100399848762088982749400601783192640961828034030894841695754530270916866479915852234384651033515782632841327164157977203770413718827723654617997619757184 W = true) (h : Ok E W s0 s) :
    Ok E W s0 (State.takeSteps s) := by
  unfold State.takeSteps
  repeat' first
    | exact sub_trans rfl hE | exact sub_trans rfl hW | exact sub_bit hW rfl | with_reducible first | assumption | apply State.applyStep_ok | refine State.applyStep_ok' ?_ ?_ ?_ (by assumption) | apply State.shaftsStepped_ok | apply State.csStep_ok | apply State.sdStep_ok | apply State.carriersStep_ok | apply State.shiftQueues_ok | apply State.gateResync_ok
    | intro _
    | dsimp only
    | with_reducible apply ok_ite
    | split

theorem State.clockTick_ok {s0 : State} {E W : Nat} {s} (hE : sub 12641294034 E = true) (hW : sub 1921586980941312167676107207810374861434647930626750159635411738797259242634568325286157988853037807058903963294179391339173085024020668610088483323597728371681597256384927086454987374612535599987895042176 W = true) (h : Ok E W s0 s) :
    Ok E W s0 (State.clockTick s) := by
  unfold State.clockTick
  repeat' first
    | exact sub_trans rfl hE | exact sub_trans rfl hW | exact sub_bit hW rfl | with_reducible first | assumption | apply State.flrDue_ok | apply State.intakeDue_ok | apply State.adcDue_ok | apply State.readsDue_ok | apply State.soloSamples_ok | apply State.libsDue_ok | apply State.hallDue_ok | apply State.pwmDue_ok | apply State.takeSteps_ok | apply State.tick_ok
    | intro _
    | dsimp only
    | with_reducible apply ok_ite
    | split

theorem State.clearRange_ok {s0 : State} {E W : Nat} {s first len} (hE : sub 2 E = true) (hW : sub allSlots W = true) (h : Ok E W s0 s) :
    Ok E W s0 (State.clearRange s first len) := by
  unfold State.clearRange
  repeat' first
    | exact sub_trans rfl hE | exact sub_trans rfl hW | exact sub_bit hW rfl | with_reducible first | assumption | apply State.keepRegs_ok
    | intro _
    | dsimp only
    | with_reducible apply ok_ite
    | split

theorem State.capChanReset_ok {s0 : State} {E W : Nat} {s k} (hE : sub 4294967298 E = true) (hW : sub allSlots W = true) (h : Ok E W s0 s) :
    Ok E W s0 (State.capChanReset s k) := by
  unfold State.capChanReset
  repeat' first
    | exact sub_trans rfl hE | exact sub_trans rfl hW | exact sub_bit hW rfl | with_reducible first | assumption | apply State.clearRange_ok
    | intro _
    | dsimp only
    | with_reducible apply ok_ite
    | ((with_reducible apply ok_mk) <;> first | exact Or.inr (sub_bit hE rfl) | exact Or.inr (Or.inr (sub_bit hE rfl)) | with_reducible first | exact Or.inl rfl | exact rfl | exact Or.inr (Or.inl rfl) | assumption | apply ok_ite | apply State.clearRange_ok)
    | split

theorem State.abortCopies_ok {s0 : State} {E W : Nat} {s n} (hE : sub 142610978 E = true) (hW : sub 470292797823104873946993638562258406999121958946475414632608378262186722854316782596959808612427844250072418271697524345008446424948679324377024616086601266623366826127423260643064188015729284518000984064 W = true) (h : Ok E W s0 s) :
    Ok E W s0 (State.abortCopies s n) := by
  unfold State.abortCopies
  repeat' first
    | exact sub_trans rfl hE | exact sub_trans rfl hW | exact sub_bit hW rfl | with_reducible first | assumption | apply State.runCopies_ok | apply State.each_ok | apply State.copyDone_ok
    | intro _
    | dsimp only
    | with_reducible apply ok_ite
    | ((with_reducible apply ok_mk) <;> first | exact Or.inr (sub_bit hE rfl) | exact Or.inr (Or.inr (sub_bit hE rfl)) | with_reducible first | exact Or.inl rfl | exact rfl | exact Or.inr (Or.inl rfl) | assumption | apply ok_ite | apply State.runCopies_ok | apply State.each_ok | apply State.copyDone_ok)
    | split

theorem State.sessionReset_ok {s0 : State} {E W : Nat} {s c} (hE : sub 2147483650 E = true) (hW : sub allSlots W = true) (h : Ok E W s0 s) :
    Ok E W s0 (State.sessionReset s c) := by
  unfold State.sessionReset
  repeat' first
    | exact sub_trans rfl hE | exact sub_trans rfl hW | exact sub_bit hW rfl | with_reducible first | assumption | apply State.clearRange_ok
    | intro _
    | dsimp only
    | with_reducible apply ok_ite
    | ((with_reducible apply ok_mk) <;> first | exact Or.inr (sub_bit hE rfl) | exact Or.inr (Or.inr (sub_bit hE rfl)) | with_reducible first | exact Or.inl rfl | exact rfl | exact Or.inr (Or.inl rfl) | assumption | apply ok_ite | apply State.clearRange_ok)
    | split

theorem State.eventsReset_ok {s0 : State} {E W : Nat} {s n} (hE : sub 514 E = true) (hW : sub allSlots W = true) (h : Ok E W s0 s) :
    Ok E W s0 (State.eventsReset s n) := by
  unfold State.eventsReset
  repeat' first
    | exact sub_trans rfl hE | exact sub_trans rfl hW | exact sub_bit hW rfl | with_reducible first | assumption | apply State.keepRegs_ok
    | intro _
    | dsimp only
    | with_reducible apply ok_ite
    | ((with_reducible apply ok_mk) <;> first | exact Or.inr (sub_bit hE rfl) | exact Or.inr (Or.inr (sub_bit hE rfl)) | with_reducible first | exact Or.inl rfl | exact rfl | exact Or.inr (Or.inl rfl) | assumption | apply ok_ite | apply State.keepRegs_ok)
    | split

theorem State.canStops_ok {s0 : State} {E W : Nat} {s c} (hE : sub 34359738370 E = true) (hW : sub 13123512692397430612290022718259267916931964252173815074229506244090998550742059369968236385426997248 W = true) (h : Ok E W s0 s) :
    Ok E W s0 (State.canStops s c) := by
  unfold State.canStops
  repeat' first
    | exact sub_trans rfl hE | exact sub_trans rfl hW | exact sub_bit hW rfl | with_reducible first | assumption | apply State.ttWrite_ok | apply wrTxbCancel_ok | apply State.setCan_ok
    | intro _
    | dsimp only
    | with_reducible apply ok_ite
    | split

theorem execFunctionLevelReset_ok {s0 : State} {E W : Nat} {n s} (hE : sub 2473901162486 E = true) (hW : sub allSlots W = true) (h : Ok E W s0 s) :
    OkOut E W s0 (execFunctionLevelReset n s) := by
  unfold execFunctionLevelReset
  repeat' first
    | exact sub_trans rfl hE | exact sub_trans rfl hW | exact sub_bit hW rfl | with_reducible first | assumption | apply okOut_next | apply okOut_fault | apply State.abortCopies_ok | apply State.each_ok | apply State.flush_ok | apply State.configuredStop_ok | apply State.sessionReset_ok | apply State.capChanReset_ok | apply State.canStops_ok | apply State.setLive_ok | apply State.dmaStop_ok | apply State.rotateKey_ok | apply State.on_ok | apply State.clearRange_ok | apply State.eventsReset_ok | apply State.off_ok | apply State.endEntry_ok | apply ws_f_HIF_OD_STATUS_FLR_BUSY | apply ws_f_SAF_LOCK_UNLOCK_WAIT
    | intro _
    | dsimp only
    | with_reducible apply ok_ite
    | ((with_reducible apply ok_mk) <;> first | exact Or.inr (sub_bit hE rfl) | exact Or.inr (Or.inr (sub_bit hE rfl)) | with_reducible first | exact Or.inl rfl | exact rfl | exact Or.inr (Or.inl rfl) | assumption | apply ok_ite | apply State.abortCopies_ok | apply State.each_ok | apply State.flush_ok | apply State.configuredStop_ok | apply State.sessionReset_ok | apply State.capChanReset_ok | apply State.canStops_ok | apply State.setLive_ok | apply State.dmaStop_ok | apply State.rotateKey_ok | apply State.on_ok | apply State.clearRange_ok | apply State.eventsReset_ok | apply State.off_ok | apply State.endEntry_ok | apply ws_f_HIF_OD_STATUS_FLR_BUSY | apply ws_f_SAF_LOCK_UNLOCK_WAIT)
    | split

theorem execPcieLinkChange_ok {s0 : State} {E W : Nat} {speed width l1 s} (hE : sub 2 E = true) (hW : sub 20839919903003640765830212219764866008987605093626783424390886990907289668787345257608549806065028951758183019494863853710304097895639416832 W = true) (h : Ok E W s0 s) :
    OkOut E W s0 (execPcieLinkChange speed width l1 s) := by
  unfold execPcieLinkChange
  repeat' first
    | exact sub_trans rfl hE | exact sub_trans rfl hW | exact sub_bit hW rfl | with_reducible first | assumption | apply okOut_next | apply okOut_fault | apply State.pb_ok | apply State.p_ok | apply ws_f_HIF_LINK_L1 | apply ws_f_HIF_LINK_SPEED | apply ws_f_HIF_LINK_WIDTH
    | intro _
    | dsimp only
    | with_reducible apply ok_ite
    | split

theorem execTimeStep_ok {s0 : State} {E W : Nat} {s} (hE : sub 10472707778 E = true) (hW : sub 1224723163633931840166337931494353824501479455409100399848762088982749400601783192640961828034030894841695754530270916866479915852234384651033515782632841327164157977203770413718827723654617997619757184 W = true) (h : Ok E W s0 s) :
    OkOut E W s0 (execTimeStep s) := by
  unfold execTimeStep
  repeat' first
    | exact sub_trans rfl hE | exact sub_trans rfl hW | exact sub_bit hW rfl | with_reducible first | assumption | apply okOut_next | apply okOut_fault | apply State.takeSteps_ok
    | intro _
    | dsimp only
    | with_reducible apply ok_ite
    | split

end Sys2Proof.Machine
end

