-- ==== Sys2Proof/Laws/KeepBus.lean ====
section
/-! SUPPORT. What the definitions of Machine/Bus.lean keep: the queue, and the canonical forms of the register window and of
the memories; one lemma for each. -/

namespace Sys2Proof.Machine

theorem State.refuseAt_ok {s0 : State} {E W : Nat} {s a} (hE : sub 2 E = true) (hW : sub 291996199527820493993034982823801204212225068920903493701049830963542300036709449258106711783077623859825836206654889973424239343291450729995198829545992951896763867670151512620331917217749794816 W = true) (h : Ok E W s0 s) :
    Ok E W s0 (State.refuseAt s a) := by
  unfold State.refuseAt
  repeat' first
    | exact sub_trans rfl hE | exact sub_trans rfl hW | exact sub_bit hW rfl | with_reducible first | assumption | apply State.on_ok | apply State.hifRefuse_ok | apply State.memRefuse_ok | apply ws_f_AE_STATUS_CTL_REFUSED | apply ws_f_AUX_STATUS_CFG_REFUSED | apply ws_f_AX_CS_STATUS_CFG_REFUSED | apply ws_f_AX_FB_STATUS_CFG_REFUSED | apply ws_f_AX_PWM_STATUS_CFG_REFUSED | apply ws_f_CAN_STATUS_CFG_REFUSED | apply ws_f_CAP_STATUS_CFG_REFUSED | apply ws_f_CLK_STATUS_CMD_REFUSED | apply ws_f_CS_STATUS_CFG_REFUSED | apply ws_f_DMA_STATUS_CFG_REFUSED | apply ws_f_ETH_STATUS_CFG_REFUSED | apply ws_f_FIO_STATUS_CFG_REFUSED | apply ws_f_GLB_PRB_STATUS_CFG_REFUSED | apply ws_f_LSH_FOL_STATUS_CMD_REFUSED | apply ws_f_LSH_STATUS_CFG_REFUSED | apply ws_f_LSP_CH_STATUS_CMD_REFUSED | apply ws_f_LSP_GRP_STATUS_CMD_REFUSED | apply ws_f_TB_STATUS_CMD_REFUSED
    | intro _
    | dsimp only
    | with_reducible apply ok_ite
    | split

theorem wrPlain_ok {s0 : State} {E W : Nat} {a v s} (hE : sub 2 E = true) (hW : sub allSlots W = true) (h : Ok E W s0 s) :
    Ok E W s0 (wrPlain a v s) := by
  unfold wrPlain
  repeat' first
    | exact sub_trans rfl hE | exact sub_trans rfl hW | exact sub_bit hW rfl | with_reducible first | assumption | apply State.merge_ok | apply State.refuseAt_ok | apply wrF_of_wr | exact wr_any (any_bit hW) _ | exact wrF_any (any_bit hW) _
    | intro _
    | dsimp only
    | with_reducible apply ok_ite
    | split

theorem wrEther_ok {s0 : State} {E W : Nat} {a v s} (hE : sub 8589935138 E = true) (hW : sub allSlots W = true) (h : Ok E W s0 s) :
    Ok E W s0 (wrEther a v s) := by
  unfold wrEther
  repeat' first
    | exact sub_trans rfl hE | exact sub_trans rfl hW | exact sub_bit hW rfl | with_reducible first | assumption | apply wrEthCfg_ok | apply wrSlot_ok | apply wrPlain_ok | apply wrSwCfg_ok | apply wrTsnCtl_ok | apply wrTsnPreempt_ok | apply wrSak_ok | apply wrSaCtl_ok | apply wrF_of_wr | exact wr_any (any_bit hW) _ | exact wrF_any (any_bit hW) _
    | intro _
    | dsimp only
    | with_reducible apply ok_ite
    | split

theorem wrPwmCmp_ok {s0 : State} {E W : Nat} {n x v s} (hE : sub 1026 E = true) (hW : sub allSlots W = true) (h : Ok E W s0 s) :
    Ok E W s0 (wrPwmCmp n x v s) := by
  unfold wrPwmCmp
  repeat' first
    | exact sub_trans rfl hE | exact sub_trans rfl hW | exact sub_bit hW rfl | with_reducible first | assumption | apply wrPlain_ok | apply State.noteShadow_ok | apply ws_r_AX_PWM_CMPA | apply ws_r_AX_PWM_CMPB | apply ws_r_AX_PWM_CMPC | apply wrF_of_wr
    | intro _
    | dsimp only
    | with_reducible apply ok_ite
    | split

theorem State.settled_ok {s0 : State} {E W : Nat} {s t} (hE : sub 0 E = true) (hW : sub 0 W = true) (h : Ok E W s0 t) :
    OkOut E W s0 (State.settled s t) := by
  unfold State.settled
  split
  · exact okOut_fault
  · exact okOut_next h

theorem wrCan_ok {s0 : State} {E W : Nat} {a v s} (hE : sub 34359738898 E = true) (hW : sub allSlots W = true) (h : Ok E W s0 s) :
    Ok E W s0 (wrCan a v s) := by
  unfold wrCan
  repeat' first
    | exact sub_trans rfl hE | exact sub_trans rfl hW | exact sub_bit hW rfl | with_reducible first | assumption | apply wrCanReg_ok | apply wrCanRam_ok
    | intro _
    | dsimp only
    | with_reducible apply ok_ite
    | split

theorem State.plainRead_ok {s0 : State} {E W : Nat} {s rq a} (hE : sub 18 E = true) (hW : sub allSlots W = true) (h : Ok E W s0 s) :
    Ok E W s0 (State.plainRead s rq a).2 := by
  unfold State.plainRead
  repeat' first
    | exact sub_trans rfl hE | exact sub_trans rfl hW | exact sub_bit hW rfl | with_reducible first | assumption | apply State.took_ok | apply State.wr_ok | apply wrF_of_wr | exact wr_any (any_bit hW) _ | exact wrF_any (any_bit hW) _
    | intro _
    | dsimp only
    | with_reducible apply ok_ite
    | split

theorem State.plainRead_ok' {s0 t0 : State} {E W : Nat} {s rq a y0} (hE : sub 18 E = true) (hW : sub allSlots W = true) (h : Ok E W s0 s) (e : State.plainRead s rq a = (y0, t0)) :
    Ok E W s0 t0 := by
  have r := State.plainRead_ok (s0 := s0) (E := E) (W := W) (s := s) (rq := rq) (a := a) hE hW h
  rw [e] at r
  exact r

theorem State.fillWide_ok {s0 : State} {E W : Nat} {s rq a} (hE : sub 33554432 E = true) (hW : sub 0 W = true) (h : Ok E W s0 s) :
    Ok E W s0 (State.fillWide s rq a) := by
  unfold State.fillWide
  repeat' first
    | exact sub_trans rfl hE | exact sub_trans rfl hW | exact sub_bit hW rfl | with_reducible first | assumption
    | intro _
    | dsimp only
    | with_reducible apply ok_ite
    | ((with_reducible apply ok_mk) <;> first | exact Or.inr (sub_bit hE rfl) | exact Or.inr (Or.inr (sub_bit hE rfl)) | with_reducible first | exact Or.inl rfl | exact rfl | exact Or.inr (Or.inl rfl) | assumption | apply ok_ite)
    | split

theorem State.readHi_ok {s0 : State} {E W : Nat} {s rq a} (hE : sub 2 E = true) (hW : sub 77371252455336267181195264 W = true) (h : Ok E W s0 s) :
    Ok E W s0 (State.readHi s rq a).2 := by
  unfold State.readHi
  repeat' first
    | exact sub_trans rfl hE | exact sub_trans rfl hW | exact sub_bit hW rfl | with_reducible first | assumption | apply State.wr_ok | apply ws_r_HIF_TORN | apply wrF_of_wr
    | intro _
    | dsimp only
    | with_reducible apply ok_ite
    | split

theorem State.readHi_ok' {s0 t0 : State} {E W : Nat} {s rq a y0} (hE : sub 2 E = true) (hW : sub 77371252455336267181195264 W = true) (h : Ok E W s0 s) (e : State.readHi s rq a = (y0, t0)) :
    Ok E W s0 t0 := by
  have r := State.readHi_ok (s0 := s0) (E := E) (W := W) (s := s) (rq := rq) (a := a) hE hW h
  rw [e] at r
  exact r

theorem State.busRead_ok {s0 : State} {E W : Nat} {s rq a} (hE : sub 34393358418 E = true) (hW : sub allSlots W = true) (h : Ok E W s0 s) :
    Ok E W s0 (State.busRead s rq a).2 := by
  unfold State.busRead
  repeat' first
    | exact sub_trans rfl hE | exact sub_trans rfl hW | exact sub_bit hW rfl | with_reducible first | assumption | apply State.fillTimeShadow_ok | apply State.readNow_ok | refine State.readNow_ok' ?_ ?_ ?_ (by assumption) | apply State.rxTouch_ok | apply State.fillSnap_ok | apply State.plainRead_ok | refine State.plainRead_ok' ?_ ?_ ?_ (by assumption) | apply State.fillWide_ok | apply State.readHi_ok | refine State.readHi_ok' ?_ ?_ ?_ (by assumption) | apply wrF_of_wr | exact wr_any (any_bit hW) _ | exact wrF_any (any_bit hW) _
    | intro _
    | dsimp only
    | with_reducible apply ok_ite
    | split

theorem State.busRead_ok' {s0 t0 : State} {E W : Nat} {s rq a y0} (hE : sub 34393358418 E = true) (hW : sub allSlots W = true) (h : Ok E W s0 s) (e : State.busRead s rq a = (y0, t0)) :
    Ok E W s0 t0 := by
  have r := State.busRead_ok (s0 := s0) (E := E) (W := W) (s := s) (rq := rq) (a := a) hE hW h
  rw [e] at r
  exact r

theorem State.blockRead_ok {s0 : State} {E W : Nat} {rq x1 x2 s} (hE : sub 34401747058 E = true) (hW : sub allSlots W = true) (h : Ok E W s0 s) :
    Ok E W s0 (State.blockRead rq x1 x2 s).2 := by
  induction x1 generalizing rq x2 s with
  | zero =>
    unfold State.blockRead
    repeat' first
      | exact sub_trans rfl hE | exact sub_trans rfl hW | exact sub_bit hW rfl | with_reducible first | assumption | apply State.readAbort_ok | apply State.busRead_ok | refine State.busRead_ok' ?_ ?_ ?_ (by assumption) | apply wrF_of_wr | exact wr_any (any_bit hW) _ | exact wrF_any (any_bit hW) _ | apply ih
      | intro _
      | dsimp only
      | with_reducible apply ok_ite
      | split
  | succ n ih =>
    unfold State.blockRead
    repeat' first
      | exact sub_trans rfl hE | exact sub_trans rfl hW | exact sub_bit hW rfl | with_reducible first | assumption | apply State.readAbort_ok | apply State.busRead_ok | refine State.busRead_ok' ?_ ?_ ?_ (by assumption) | apply wrF_of_wr | exact wr_any (any_bit hW) _ | exact wrF_any (any_bit hW) _ | apply ih
      | intro _
      | dsimp only
      | with_reducible apply ok_ite
      | split

theorem State.blockRead_ok' {s0 t0 : State} {E W : Nat} {rq x1 x2 s y0} (hE : sub 34401747058 E = true) (hW : sub allSlots W = true) (h : Ok E W s0 s) (e : State.blockRead rq x1 x2 s = (y0, t0)) :
    Ok E W s0 t0 := by
  have r := State.blockRead_ok (s0 := s0) (E := E) (W := W) (rq := rq) (x1 := x1) (x2 := x2) (s := s) hE hW h
  rw [e] at r
  exact r

theorem wrAuxAt_ok {s0 : State} {E W : Nat} {a v s} (hE : sub 1611169794 E = true) (hW : sub allSlots W = true) (h : Ok E W s0 s) :
    Ok E W s0 (wrAuxAt a v s) := by
  unfold wrAuxAt
  repeat' first
    | exact sub_trans rfl hE | exact sub_trans rfl hW | exact sub_bit hW rfl | with_reducible first | assumption | apply wrPlain_ok | apply wrAuxCtl_ok | apply wrAuxReg_ok | apply wrF_of_wr | exact wr_any (any_bit hW) _ | exact wrF_any (any_bit hW) _
    | intro _
    | dsimp only
    | with_reducible apply ok_ite
    | split

theorem wrMem_ok {s0 : State} {E W : Nat} {a v s} (hE : sub 134222338 E = true) (hW : sub allSlots W = true) (h : Ok E W s0 s) :
    Ok E W s0 (wrMem a v s) := by
  unfold wrMem
  repeat' first
    | exact sub_trans rfl hE | exact sub_trans rfl hW | exact sub_bit hW rfl | with_reducible first | assumption | apply wrMemCtl_ok | apply wrMemLayout_ok | apply wrMemSeg_ok | apply wrPoolCount_ok | apply wrDmaCtl_ok | apply wrPlain_ok | apply wrF_of_wr | exact wr_any (any_bit hW) _ | exact wrF_any (any_bit hW) _
    | intro _
    | dsimp only
    | with_reducible apply ok_ite
    | split

theorem State.answerRead_ok {s0 : State} {E W : Nat} {s rq addr} (hE : sub 34401747058 E = true) (hW : sub allSlots W = true) (h : Ok E W s0 s) :
    Ok E W s0 (State.answerRead s rq addr) := by
  unfold State.answerRead
  repeat' first
    | exact sub_trans rfl hE | exact sub_trans rfl hW | exact sub_bit hW rfl | with_reducible first | assumption | apply State.readAbort_ok | apply State.busRead_ok | refine State.busRead_ok' ?_ ?_ ?_ (by assumption) | apply State.emit_ok | apply wrF_of_wr | exact wr_any (any_bit hW) _ | exact wrF_any (any_bit hW) _
    | intro _
    | dsimp only
    | with_reducible apply ok_ite
    | split

theorem execRegisterRead_ok {s0 : State} {E W : Nat} {rq addr s} (hE : sub 34401747058 E = true) (hW : sub allSlots W = true) (h : Ok E W s0 s) :
    OkOut E W s0 (execRegisterRead rq addr s) := by
  unfold execRegisterRead
  repeat' first
    | exact sub_trans rfl hE | exact sub_trans rfl hW | exact sub_bit hW rfl | with_reducible first | assumption | apply okOut_next | apply okOut_fault | apply State.answerRead_ok
    | intro _
    | dsimp only
    | with_reducible apply ok_ite
    | split

theorem wrMsix_ok {s0 : State} {E W : Nat} {rq a v s} (hE : sub 67108864 E = true) (hW : sub 0 W = true) (h : Ok E W s0 s) :
    Ok E W s0 (wrMsix rq a v s) := by
  unfold wrMsix
  repeat' first
    | exact sub_trans rfl hE | exact sub_trans rfl hW | exact sub_bit hW rfl | with_reducible first | assumption
    | intro _
    | dsimp only
    | with_reducible apply ok_ite
    | ((with_reducible apply ok_mk) <;> first | exact Or.inr (sub_bit hE rfl) | exact Or.inr (Or.inr (sub_bit hE rfl)) | with_reducible first | exact Or.inl rfl | exact rfl | exact Or.inr (Or.inl rfl) | assumption | apply ok_ite)
    | split

theorem wrTorn_ok {s0 : State} {E W : Nat} {rq v s} (hE : sub 2 E = true) (hW : sub 77371252455336267181195264 W = true) (h : Ok E W s0 s) :
    Ok E W s0 (wrTorn rq v s) := by
  unfold wrTorn
  repeat' first
    | exact sub_trans rfl hE | exact sub_trans rfl hW | exact sub_bit hW rfl | with_reducible first | assumption | apply State.wr_ok | apply ws_r_HIF_TORN | apply wrF_of_wr
    | intro _
    | dsimp only
    | with_reducible apply ok_ite
    | split

theorem wrGlb_ok {s0 : State} {E W : Nat} {a v s} (hE : sub 296962 E = true) (hW : sub allSlots W = true) (h : Ok E W s0 s) :
    Ok E W s0 (wrGlb a v s) := by
  unfold wrGlb
  repeat' first
    | exact sub_trans rfl hE | exact sub_trans rfl hW | exact sub_bit hW rfl | with_reducible first | assumption | apply State.refreshChop_ok | apply wrPlain_ok | apply wrDlCfg_ok | apply wrPrbCfg_ok | apply wrPrbPop_ok | apply wrF_of_wr | exact wr_any (any_bit hW) _ | exact wrF_any (any_bit hW) _
    | intro _
    | dsimp only
    | with_reducible apply ok_ite
    | split

theorem wrClk_ok {s0 : State} {E W : Nat} {a v s} (hE : sub 2473901162438 E = true) (hW : sub allSlots W = true) (h : Ok E W s0 s) :
    Ok E W s0 (wrClk a v s) := by
  unfold wrClk
  repeat' first
    | exact sub_trans rfl hE | exact sub_trans rfl hW | exact sub_bit hW rfl | with_reducible first | assumption | apply wrClkRefCfg_ok | apply wrPlain_ok | apply wrClkCmd_ok | apply wrClkDomSel_ok | apply wrRstCmd_ok | apply wrRstWdog_ok | apply wrPwrCmd_ok | apply wrF_of_wr | exact wr_any (any_bit hW) _ | exact wrF_any (any_bit hW) _
    | intro _
    | dsimp only
    | with_reducible apply ok_ite
    | split

theorem wrTime_ok {s0 : State} {E W : Nat} {a v s} (hE : sub 268440258 E = true) (hW : sub allSlots W = true) (h : Ok E W s0 s) :
    Ok E W s0 (wrTime a v s) := by
  unfold wrTime
  repeat' first
    | exact sub_trans rfl hE | exact sub_trans rfl hW | exact sub_bit hW rfl | with_reducible first | assumption | apply wrTbCtrl_ok | apply wrTbAdj_ok | apply wrTbCmd_ok | apply wrTbUtc_ok | apply wrGmCtrl_ok | apply wrTbLock_ok | apply wrTbBmca_ok | apply wrLqPush_ok | apply wrLqCancel_ok | apply wrPlain_ok | apply wrF_of_wr | exact wr_any (any_bit hW) _ | exact wrF_any (any_bit hW) _
    | intro _
    | dsimp only
    | with_reducible apply ok_ite
    | split

theorem wrAxis_ok {s0 : State} {E W : Nat} {a v s} (hE : sub 4379650 E = true) (hW : sub allSlots W = true) (h : Ok E W s0 s) :
    Ok E W s0 (wrAxis a v s) := by
  unfold wrAxis
  repeat' first
    | exact sub_trans rfl hE | exact sub_trans rfl hW | exact sub_bit hW rfl | with_reducible first | assumption | apply wrPwmMask_ok | apply wrPwmCmp_ok | apply wrCsScale_ok | apply wrPwmCtl_ok | apply wrPwmCfg_ok | apply wrPlain_ok | apply State.noteShadow_ok | apply State.noteHold_ok | apply wrPwmDtCfg_ok | apply wrPwmEvtCfg_ok | apply wrPwmMaskCfg_ok | apply wrPwmAlign_ok | apply State.hallFlag_ok | apply wrCsCfg_ok | apply wrTlmCfg_ok | apply wrFbCfg_ok | apply wrFbLines_ok | apply wrFbCmd_ok | apply State.noteFb_ok | apply wrSoftHi_ok | apply wrFbSsiCfg_ok | apply wrFbSsiCrc_ok | apply wrFbHallCfg_ok | apply wrF_of_wr | exact wr_any (any_bit hW) _ | exact wrF_any (any_bit hW) _
    | intro _
    | dsimp only
    | with_reducible apply ok_ite
    | split

theorem wrEngine_ok {s0 : State} {E W : Nat} {rq a v s} (hE : sub 2097154 E = true) (hW : sub allSlots W = true) (h : Ok E W s0 s) :
    Ok E W s0 (wrEngine rq a v s) := by
  unfold wrEngine
  repeat' first
    | exact sub_trans rfl hE | exact sub_trans rfl hW | exact sub_bit hW rfl | with_reducible first | assumption | apply wrAeCtl_ok | apply wrPlain_ok | apply State.hostBlock_ok | apply State.wr_ok | apply wrPm_ok | apply State.setAe_ok | apply wrF_of_wr | exact wr_any (any_bit hW) _ | exact wrF_any (any_bit hW) _
    | intro _
    | dsimp only
    | with_reducible apply ok_ite
    | split

theorem wrMotion_ok {s0 : State} {E W : Nat} {a v s} (hE : sub 2016956934 E = true) (hW : sub allSlots W = true) (h : Ok E W s0 s) :
    Ok E W s0 (wrMotion a v s) := by
  unfold wrMotion
  repeat' first
    | exact sub_trans rfl hE | exact sub_trans rfl hW | exact sub_bit hW rfl | with_reducible first | assumption | apply wrLspCfg_ok | apply wrLspCmd_ok | apply wrPlain_ok | apply wrGrpCmd_ok | apply wrLshCfg_ok | apply wrFolCfg_ok | apply wrFolCmd_ok | apply wrCamCmd_ok | apply wrF_of_wr | exact wr_any (any_bit hW) _ | exact wrF_any (any_bit hW) _
    | intro _
    | dsimp only
    | with_reducible apply ok_ite
    | split

theorem wrLupin_ok {s0 : State} {E W : Nat} {a v s} (hE : sub 6576673286 E = true) (hW : sub allSlots W = true) (h : Ok E W s0 s) :
    Ok E W s0 (wrLupin a v s) := by
  unfold wrLupin
  repeat' first
    | exact sub_trans rfl hE | exact sub_trans rfl hW | exact sub_bit hW rfl | with_reducible first | assumption | apply wrCapCmd_ok | apply wrPlain_ok | apply wrCapCfg_ok | apply wrCapBind_ok | apply wrCapEnv_ok | apply wrCapHandle_ok | apply wrCapStatus_ok | apply wrF_of_wr | exact wr_any (any_bit hW) _ | exact wrF_any (any_bit hW) _
    | intro _
    | dsimp only
    | with_reducible apply ok_ite
    | split

theorem wrHif_ok {s0 : State} {E W : Nat} {a v s} (hE : sub 8388610 E = true) (hW : sub allSlots W = true) (h : Ok E W s0 s) :
    Ok E W s0 (wrHif a v s) := by
  unfold wrHif
  repeat' first
    | exact sub_trans rfl hE | exact sub_trans rfl hW | exact sub_bit hW rfl | with_reducible first | assumption | apply wrPlain_ok | apply wrHifCtl_ok | apply wrDbLo_ok | apply wrHifPoll_ok | apply wrRingBase_ok | apply wrSqCfg_ok | apply wrCqCfg_ok | apply wrF_of_wr | exact wr_any (any_bit hW) _ | exact wrF_any (any_bit hW) _
    | intro _
    | dsimp only
    | with_reducible apply ok_ite
    | split

theorem wrField_ok {s0 : State} {E W : Nat} {a v s} (hE : sub 70333780482 E = true) (hW : sub allSlots W = true) (h : Ok E W s0 s) :
    Ok E W s0 (wrField a v s) := by
  unfold wrField
  repeat' first
    | exact sub_trans rfl hE | exact sub_trans rfl hW | exact sub_bit hW rfl | with_reducible first | assumption | apply wrFioCfg_ok | apply wrPlain_ok | apply wrF_of_wr | exact wr_any (any_bit hW) _ | exact wrF_any (any_bit hW) _
    | intro _
    | dsimp only
    | with_reducible apply ok_ite
    | split

theorem wrSaf_ok {s0 : State} {E W : Nat} {a v s} (hE : sub 20994 E = true) (hW : sub allSlots W = true) (h : Ok E W s0 s) :
    Ok E W s0 (wrSaf a v s) := by
  unfold wrSaf
  repeat' first
    | exact sub_trans rfl hE | exact sub_trans rfl hW | exact sub_bit hW rfl | with_reducible first | assumption | apply wrSafUnlock_ok | apply wrBtCmd_ok | apply wrPsetCmd_ok | apply wrPlain_ok | apply wrF_of_wr | exact wr_any (any_bit hW) _ | exact wrF_any (any_bit hW) _
    | intro _
    | dsimp only
    | with_reducible apply ok_ite
    | split

theorem wrAny_ok {s0 : State} {E W : Nat} {rq a v s} (hE : sub 2473901162486 E = true) (hW : sub allSlots W = true) (h : Ok E W s0 s) :
    Ok E W s0 (wrAny rq a v s) := by
  unfold wrAny
  repeat' first
    | exact sub_trans rfl hE | exact sub_trans rfl hW | exact sub_bit hW rfl | with_reducible first | assumption | apply wrGlb_ok | apply wrClk_ok | apply wrTime_ok | apply wrPlain_ok | apply wrAxis_ok | apply wrAuxAt_ok | apply wrEngine_ok | apply wrMotion_ok | apply wrLupin_ok | apply wrHif_ok | apply wrMem_ok | apply wrEther_ok | apply wrCan_ok | apply wrField_ok | apply wrRoute_ok | apply wrEvtCfg_ok | apply wrSaf_ok | apply wrMbCtl_ok | apply wrF_of_wr | exact wr_any (any_bit hW) _ | exact wrF_any (any_bit hW) _
    | intro _
    | dsimp only
    | with_reducible apply ok_ite
    | split

theorem State.busWrite_ok {s0 : State} {E W : Nat} {s rq addr v} (hE : sub 2473901162486 E = true) (hW : sub allSlots W = true) (h : Ok E W s0 s) :
    Ok E W s0 (State.busWrite s rq addr v) := by
  unfold State.busWrite
  repeat' first
    | exact sub_trans rfl hE | exact sub_trans rfl hW | exact sub_bit hW rfl | with_reducible first | assumption | apply State.logDropped_ok | apply wrMsix_ok | apply wrTorn_ok | apply wrEnReq_ok | apply wrFioOut_ok | apply wrFioFclr_ok | apply State.took_ok | apply wrArea_ok | apply State.rwsCheck_ok | apply wrAny_ok | apply wrF_of_wr | exact wr_any (any_bit hW) _ | exact wrF_any (any_bit hW) _
    | intro _
    | dsimp only
    | with_reducible apply ok_ite
    | split

theorem State.blockWrite_ok {s0 : State} {E W : Nat} {rq x1 x2 s} (hE : sub 2473901162486 E = true) (hW : sub allSlots W = true) (h : Ok E W s0 s) :
    Ok E W s0 (State.blockWrite rq x1 x2 s).2 := by
  induction x1 generalizing rq x2 s with
  | nil =>
    unfold State.blockWrite
    repeat' first
      | exact sub_trans rfl hE | exact sub_trans rfl hW | exact sub_bit hW rfl | with_reducible first | assumption | apply State.busWrite_ok | apply ih
      | intro _
      | dsimp only
      | with_reducible apply ok_ite
      | split
  | cons x l ih =>
    unfold State.blockWrite
    repeat' first
      | exact sub_trans rfl hE | exact sub_trans rfl hW | exact sub_bit hW rfl | with_reducible first | assumption | apply State.busWrite_ok | apply ih
      | intro _
      | dsimp only
      | with_reducible apply ok_ite
      | split

theorem State.blockWrite_ok' {s0 t0 : State} {E W : Nat} {rq x1 x2 s y0} (hE : sub 2473901162486 E = true) (hW : sub allSlots W = true) (h : Ok E W s0 s) (e : State.blockWrite rq x1 x2 s = (y0, t0)) :
    Ok E W s0 t0 := by
  have r := State.blockWrite_ok (s0 := s0) (E := E) (W := W) (rq := rq) (x1 := x1) (x2 := x2) (s := s) hE hW h
  rw [e] at r
  exact r

theorem execWideReadHi_ok {s0 : State} {E W : Nat} {rq addr s} (hE : sub 34401747058 E = true) (hW : sub allSlots W = true) (h : Ok E W s0 s) :
    OkOut E W s0 (execWideReadHi rq addr s) := by
  unfold execWideReadHi
  repeat' first
    | exact sub_trans rfl hE | exact sub_trans rfl hW | exact sub_bit hW rfl | with_reducible first | assumption | apply okOut_next | apply okOut_fault | apply State.answerRead_ok
    | intro _
    | dsimp only
    | with_reducible apply ok_ite
    | split

theorem execHifTornWrite_ok {s0 : State} {E W : Nat} {rq v s} (hE : sub 2473901162486 E = true) (hW : sub allSlots W = true) (h : Ok E W s0 s) :
    OkOut E W s0 (execHifTornWrite rq v s) := by
  unfold execHifTornWrite
  repeat' first
    | exact sub_trans rfl hE | exact sub_trans rfl hW | exact sub_bit hW rfl | with_reducible first | assumption | apply okOut_next | apply okOut_fault | apply State.busWrite_ok
    | intro _
    | dsimp only
    | with_reducible apply ok_ite
    | split

theorem execRegisterWrite_ok {s0 : State} {E W : Nat} {rq addr v s} (hE : sub 2473901162486 E = true) (hW : sub allSlots W = true) (h : Ok E W s0 s) :
    OkOut E W s0 (execRegisterWrite rq addr v s) := by
  unfold execRegisterWrite
  repeat' first
    | exact sub_trans rfl hE | exact sub_trans rfl hW | exact sub_bit hW rfl | with_reducible first | assumption | apply okOut_next | apply okOut_fault | apply State.settled_ok | apply State.busWrite_ok
    | intro _
    | dsimp only
    | with_reducible apply ok_ite
    | split

theorem execDbgAccess_ok {s0 : State} {E W : Nat} {write offset data s} (hE : sub 2473901162486 E = true) (hW : sub allSlots W = true) (h : Ok E W s0 s) :
    OkOut E W s0 (execDbgAccess write offset data s) := by
  unfold execDbgAccess
  repeat' first
    | exact sub_trans rfl hE | exact sub_trans rfl hW | exact sub_bit hW rfl | with_reducible first | assumption | apply okOut_next | apply okOut_fault | apply State.tap_ok | apply State.emit_ok | apply State.settled_ok | apply State.busWrite_ok | apply State.readAbort_ok | apply State.busRead_ok | refine State.busRead_ok' ?_ ?_ ?_ (by assumption) | apply wrF_of_wr | exact wr_any (any_bit hW) _ | exact wrF_any (any_bit hW) _
    | intro _
    | dsimp only
    | with_reducible apply ok_ite
    | split

theorem execRegBlock_ok {s0 : State} {E W : Nat} {n k d data s} (hE : sub 2473901162486 E = true) (hW : sub allSlots W = true) (h : Ok E W s0 s) :
    OkOut E W s0 (execRegBlock n k d data s) := by
  unfold execRegBlock
  dsimp only
  have g : ∀ r : Res, OkOut E W s0 r → OkOut E W s0 (match r with | .next t => s.settled t | r => r) := by
    intro r hr
    split
    · exact State.settled_ok (sub_trans rfl hE) (sub_trans rfl hW) hr
    · exact hr
  refine g _ (State.descriptor_ok (sub_trans rfl hE) (sub_trans rfl hW) h fun t ht => ?_)
  split
  · exact State.hostSend_ok (sub_trans rfl hE) (sub_trans rfl hW) (State.blockRead_ok (sub_trans rfl hE) (sub_trans rfl hW) ht)
  · split
    · exact State.hostFetch_ok (sub_trans rfl hE) (sub_trans rfl hW) ht
    · exact State.blockWrite_ok (sub_trans rfl hE) (sub_trans rfl hW) (State.hostFetch_ok (sub_trans rfl hE) (sub_trans rfl hW) ht)

theorem execWideReadLo_ok {s0 : State} {E W : Nat} {rq addr s} (hE : sub 34401747058 E = true) (hW : sub allSlots W = true) (h : Ok E W s0 s) :
    OkOut E W s0 (execWideReadLo rq addr s) := by
  unfold execWideReadLo
  repeat' first
    | exact sub_trans rfl hE | exact sub_trans rfl hW | exact sub_bit hW rfl | with_reducible first | assumption | apply okOut_next | apply okOut_fault | apply State.answerRead_ok
    | intro _
    | dsimp only
    | with_reducible apply ok_ite
    | split

end Sys2Proof.Machine
end

