-- ==== Sys2Proof/Laws/PerInstr.lean ====
section
/-! SUPPORT. Statements about every command, made per constructor. QueueFrame: the table of what a command may change never
names the queue. -/

namespace Sys2Proof.Laws.QueueFrame

open Machine

/-- The table of the parts that a command may change does not name the queue of waiting commands. -/
def Statement (i : Instr) : Prop := Part.pending ∉ mayChange i

/-- The form in which the table answers it. -/
theorem named {i : Instr} (h : decide (Part.pending ∈ mayChange i) = false) : Statement i := of_decide_eq_false h

theorem registerWrite (rq addr value) : Statement (.registerWrite rq addr value) := named rfl
theorem cellFault (cell) : Statement (.cellFault cell) := named rfl
theorem cellSafeStateTimeout (cell) : Statement (.cellSafeStateTimeout cell) := named rfl
theorem clusterFault (cl) : Statement (.clusterFault cl) := named rfl
theorem clusterFenceTimeout (cl) : Statement (.clusterFenceTimeout cl) := named rfl
theorem regionFault (r) : Statement (.regionFault r) := named rfl
theorem isolationConfirmTimeout (r) : Statement (.isolationConfirmTimeout r) := named rfl
theorem topFabricTimeout : Statement (.topFabricTimeout) := named rfl
theorem chipLevelFault (cause r) : Statement (.chipLevelFault cause r) := named rfl
theorem tbCtrlWrite (rq value) : Statement (.tbCtrlWrite rq value) := named rfl
theorem servoEn (rq on) : Statement (.servoEn rq on) := named rfl
theorem tickSrcChange (rq net) : Statement (.tickSrcChange rq net) := named rfl
theorem tbTimeShadowFill (rq) : Statement (.tbTimeShadowFill rq) := named rfl
theorem tbShadowRead (rq part) : Statement (.tbShadowRead rq part) := named rfl
theorem announceReceived (a) : Statement (.announceReceived a) := named rfl
theorem announceTimeout (lost) : Statement (.announceTimeout lost) := named rfl
theorem syncReceived (port src rx master delay intervalNs) : Statement (.syncReceived port src rx master delay intervalNs) := named rfl
theorem gmSwitchTimeout : Statement (.gmSwitchTimeout) := named rfl
theorem gmHoldoffEnd : Statement (.gmHoldoffEnd) := named rfl
theorem holdoverEntry : Statement (.holdoverEntry) := named rfl
theorem timeStep : Statement (.timeStep) := named rfl
theorem tbSet (rq) : Statement (.tbSet rq) := named rfl
theorem tbStep (rq) : Statement (.tbStep rq) := named rfl
theorem gmSwitch (rq) : Statement (.gmSwitch rq) := named rfl
theorem tbAdjWrite (rq value) : Statement (.tbAdjWrite rq value) := named rfl
theorem lqPush (rq q) : Statement (.lqPush rq q) := named rfl
theorem lqFlush (rq q) : Statement (.lqFlush rq q) := named rfl
theorem lqCancel (rq q value) : Statement (.lqCancel rq q value) := named rfl
theorem launchDelivery (q) : Statement (.launchDelivery q) := named rfl
theorem queueParityError (q) : Statement (.queueParityError q) := named rfl
theorem axisOff (n) : Statement (.axisOff n) := named rfl
theorem auxOff (n) : Statement (.auxOff n) := named rfl
theorem fieldOff (j) : Statement (.fieldOff j) := named rfl
theorem axisSample (n) : Statement (.axisSample n) := named rfl
theorem dclinkSample (g) : Statement (.dclinkSample g) := named rfl
theorem auxSample (n) : Statement (.auxSample n) := named rfl
theorem captureSample (c) : Statement (.captureSample c) := named rfl
theorem pwmPeriod (n) : Statement (.pwmPeriod n) := named rfl
theorem commutate (n) : Statement (.commutate n) := named rfl
theorem fieldWrite (j) : Statement (.fieldWrite j) := named rfl
theorem ethLaunch (p) : Statement (.ethLaunch p) := named rfl
theorem canLaunch (c idle) : Statement (.canLaunch c idle) := named rfl
theorem swEvent (e) : Statement (.swEvent e) := named rfl
theorem captureTrigger (c) : Statement (.captureTrigger c) := named rfl
theorem pwmArm (rq n) : Statement (.pwmArm rq n) := named rfl
theorem pwmDisarm (rq n) : Statement (.pwmDisarm rq n) := named rfl
theorem pwmStart (rq n) : Statement (.pwmStart rq n) := named rfl
theorem outEn (rq n) : Statement (.outEn rq n) := named rfl
theorem pwmFaultClr (rq n) : Statement (.pwmFaultClr rq n) := named rfl
theorem pwmUpdatePoint (n zero) : Statement (.pwmUpdatePoint n zero) := named rfl
theorem pwmCompareCrossing (n value up) : Statement (.pwmCompareCrossing n value up) := named rfl
theorem pwmDeadTimeEnd (n sw pos up) : Statement (.pwmDeadTimeEnd n sw pos up) := named rfl
theorem switchingNodeTransition (n phase rise delay) : Statement (.switchingNodeTransition n phase rise delay) := named rfl
theorem deadTimeFallback (n dir) : Statement (.deadTimeFallback n dir) := named rfl
theorem alignEvent (n) : Statement (.alignEvent n) := named rfl
theorem pwmMaskWrite (rq n x_i value) : Statement (.pwmMaskWrite rq n x_i value) := named rfl
theorem pwmMaskCfgWrite (rq n value) : Statement (.pwmMaskCfgWrite rq n value) := named rfl
theorem pwmAlignWrite (rq n value) : Statement (.pwmAlignWrite rq n value) := named rfl
theorem pwmCfgWrite (rq n value) : Statement (.pwmCfgWrite rq n value) := named rfl
theorem pwmDtCfgWrite (rq n value) : Statement (.pwmDtCfgWrite rq n value) := named rfl
theorem pwmEvtCfgWrite (rq n value) : Statement (.pwmEvtCfgWrite rq n value) := named rfl
theorem bchWindowStart (g) : Statement (.bchWindowStart g) := named rfl
theorem bchDutyLimit (g) : Statement (.bchDutyLimit g) := named rfl
theorem bchMinTimeEnd (g) : Statement (.bchMinTimeEnd g) := named rfl
theorem sinc3Result (n rawA rawB) : Statement (.sinc3Result n rawA rawB) := named rfl
theorem fastResult (n rawA rawB) : Statement (.fastResult n rawA rawB) := named rfl
theorem currentInputStuck (n b) : Statement (.currentInputStuck n b) := named rfl
theorem dclinkFreeResult (g raw) : Statement (.dclinkFreeResult g raw) := named rfl
theorem dclinkSampleResult (g raw) : Statement (.dclinkSampleResult g raw) := named rfl
theorem dclinkStuck (g) : Statement (.dclinkStuck g) := named rfl
theorem dlCfgWrite (rq g value) : Statement (.dlCfgWrite rq g value) := named rfl
theorem sdclkFreqApply (k) : Statement (.sdclkFreqApply k) := named rfl
theorem csCfgWrite (rq n value) : Statement (.csCfgWrite rq n value) := named rfl
theorem csStampRead (rq n) : Statement (.csStampRead rq n) := named rfl
theorem tlmStampRead (rq n) : Statement (.tlmStampRead rq n) := named rfl
theorem tlmFrame (n offset frame) : Statement (.tlmFrame n offset frame) := named rfl
theorem tlmCfgWrite (rq n value) : Statement (.tlmCfgWrite rq n value) := named rfl
theorem fbCfgWrite (rq n value) : Statement (.fbCfgWrite rq n value) := named rfl
theorem fbSampleReady (n) : Statement (.fbSampleReady n) := named rfl
theorem encoderEdge (n up both) : Statement (.encoderEdge n up both) := named rfl
theorem encoderLineLoss (n) : Statement (.encoderLineLoss n) := named rfl
theorem indexEdge (n) : Statement (.indexEdge n) := named rfl
theorem sincosConversion (n a b quads) : Statement (.sincosConversion n a b quads) := named rfl
theorem rideExpiry (n) : Statement (.rideExpiry n) := named rfl
theorem ssiTransferDone (n startHigh frame) : Statement (.ssiTransferDone n startHigh frame) := named rfl
theorem ssiIdleEnd (n) : Statement (.ssiIdleEnd n) := named rfl
theorem hallTransition (n st) : Statement (.hallTransition n st) := named rfl
theorem fbLoad (rq n) : Statement (.fbLoad rq n) := named rfl
theorem fbFaultClr (rq n) : Statement (.fbFaultClr rq n) := named rfl
theorem zArm (rq n) : Statement (.zArm rq n) := named rfl
theorem softLimitWrite (rq n max value) : Statement (.softLimitWrite rq n max value) := named rfl
theorem fbStampRead (rq n) : Statement (.fbStampRead rq n) := named rfl
theorem probeEdge (k falling sub) : Statement (.probeEdge k falling sub) := named rfl
theorem probePop (rq k) : Statement (.probePop rq k) := named rfl
theorem probeCfgWrite (rq k value) : Statement (.probeCfgWrite rq k value) := named rfl
theorem basePeriodStart (n) : Statement (.basePeriodStart n) := named rfl
theorem slotStart (n k prog) : Statement (.slotStart n k prog) := named rfl
theorem slotOverrun (n) : Statement (.slotOverrun n) := named rfl
theorem slotWindowEnd (n) : Statement (.slotWindowEnd n) := named rfl
theorem bgYield (n k) : Statement (.bgYield n k) := named rfl
theorem aeCommit (rq n) : Statement (.aeCommit rq n) := named rfl
theorem aeDiscardPending (rq n) : Statement (.aeDiscardPending rq n) := named rfl
theorem aeRun (rq n on) : Statement (.aeRun rq n on) := named rfl
theorem aeBgEn (rq n on) : Statement (.aeBgEn rq n on) := named rfl
theorem aeFaultClr (rq n) : Statement (.aeFaultClr rq n) := named rfl
theorem programMemoryWrite (rq n x_i value) : Statement (.programMemoryWrite rq n x_i value) := named rfl
theorem axisStateWrite (rq m x_i burst) : Statement (.axisStateWrite rq m x_i burst) := named rfl
theorem engineEccError (n mem fatal) : Statement (.engineEccError n mem fatal) := named rfl
theorem xNop (n) : Statement (.xNop n) := named rfl
theorem add (n rd ra rb) : Statement (.add n rd ra rb) := named rfl
theorem sub (n rd ra rb) : Statement (.sub n rd ra rb) := named rfl
theorem adds (n rd ra rb) : Statement (.adds n rd ra rb) := named rfl
theorem subs (n rd ra rb) : Statement (.subs n rd ra rb) := named rfl
theorem and (n rd ra rb) : Statement (.and n rd ra rb) := named rfl
theorem or (n rd ra rb) : Statement (.or n rd ra rb) := named rfl
theorem xor (n rd ra rb) : Statement (.xor n rd ra rb) := named rfl
theorem shl (n rd ra sh) : Statement (.shl n rd ra sh) := named rfl
theorem shr (n rd ra sh) : Statement (.shr n rd ra sh) := named rfl
theorem shra (n rd ra sh) : Statement (.shra n rd ra sh) := named rfl
theorem min (n rd ra rb) : Statement (.min n rd ra rb) := named rfl
theorem max (n rd ra rb) : Statement (.max n rd ra rb) := named rfl
theorem abs (n rd ra) : Statement (.abs n rd ra) := named rfl
theorem neg (n rd ra) : Statement (.neg n rd ra) := named rfl
theorem movi (n rd imm) : Statement (.movi n rd imm) := named rfl
theorem movhi (n rd imm) : Statement (.movhi n rd imm) := named rfl
theorem cmp (n ra rb) : Statement (.cmp n ra rb) := named rfl
theorem mul (n acc ra rb) : Statement (.mul n acc ra rb) := named rfl
theorem mac (n acc ra rb) : Statement (.mac n acc ra rb) := named rfl
theorem msu (n acc ra rb) : Statement (.msu n acc ra rb) := named rfl
theorem mullo (n rd ra rb) : Statement (.mullo n rd ra rb) := named rfl
theorem ald (n acc ra sh) : Statement (.ald n acc ra sh) := named rfl
theorem aadd (n acc ra sh) : Statement (.aadd n acc ra sh) := named rfl
theorem asub (n acc ra sh) : Statement (.asub n acc ra sh) := named rfl
theorem amov (n acc ra rb) : Statement (.amov n acc ra rb) := named rfl
theorem ext (n rd acc sh) : Statement (.ext n rd acc sh) := named rfl
theorem extl (n rd acc) : Statement (.extl n rd acc) := named rfl
theorem divs (n acc rb first) : Statement (.divs n acc rb first) := named rfl
theorem tsin (n rd ra) : Statement (.tsin n rd ra) := named rfl
theorem tcos (n rd ra) : Statement (.tcos n rd ra) := named rfl
theorem rsq (n rd ra) : Statement (.rsq n rd ra) := named rfl
theorem yNop (n) : Statement (.yNop n) := named rfl
theorem ld (n rd addr) : Statement (.ld n rd addr) := named rfl
theorem st (n rs addr) : Statement (.st n rs addr) := named rfl
theorem ldd (n rd addr) : Statement (.ldd n rd addr) := named rfl
theorem std (n rs addr) : Statement (.std n rs addr) := named rfl
theorem lds (n pair word) : Statement (.lds n pair word) := named rfl
theorem sts (n pair word) : Statement (.sts n pair word) := named rfl
theorem mfs (n rd spr) : Statement (.mfs n rd spr) := named rfl
theorem mts (n spr rs) : Statement (.mts n spr rs) := named rfl
theorem jmp (n target) : Statement (.jmp n target) := named rfl
theorem brcc (n cond target) : Statement (.brcc n cond target) := named rfl
theorem loop (n l count last) : Statement (.loop n l count last) := named rfl
theorem loopr (n l rs last) : Statement (.loopr n l rs last) := named rfl
theorem end_ (n) : Statement (.end_ n) := named rfl
theorem wait (n) : Statement (.wait n) := named rfl
theorem retb (n) : Statement (.retb n) := named rfl
theorem illegalBundle (n) : Statement (.illegalBundle n) := named rfl
theorem tsStart (rq m seq ticket) : Statement (.tsStart rq m seq ticket) := named rfl
theorem tsAbort (rq m seq) : Statement (.tsAbort rq m seq) := named rfl
theorem obsReset (rq m) : Statement (.obsReset rq m) := named rfl
theorem supFaultClr (rq m) : Statement (.supFaultClr rq m) := named rfl
theorem supScan (m) : Statement (.supScan m) := named rfl
theorem atCurrentPlant (rq m seq ticket) : Statement (.atCurrentPlant rq m seq ticket) := named rfl
theorem atMechanics (rq m seq ticket) : Statement (.atMechanics rq m seq ticket) := named rfl
theorem atResonance (rq m seq ticket) : Statement (.atResonance rq m seq ticket) := named rfl
theorem atApply (rq m seq number) : Statement (.atApply rq m seq number) := named rfl
theorem atUndo (rq m seq) : Statement (.atUndo rq m seq) := named rfl
theorem atAbort (rq m seq) : Statement (.atAbort rq m seq) := named rfl
theorem atStageDone (m result) : Statement (.atStageDone m result) := named rfl
theorem lspCfgWrite (rq k value) : Statement (.lspCfgWrite rq k value) := named rfl
theorem moveAbsolute (rq k queue startAt) : Statement (.moveAbsolute rq k queue startAt) := named rfl
theorem moveRelative (rq k queue startAt) : Statement (.moveRelative rq k queue startAt) := named rfl
theorem velocityMove (rq k queue startAt) : Statement (.velocityMove rq k queue startAt) := named rfl
theorem stop (rq k) : Statement (.stop rq k) := named rfl
theorem quickStop (rq k) : Statement (.quickStop rq k) := named rfl
theorem home (rq k) : Statement (.home rq k) := named rfl
theorem applyLimits (rq k) : Statement (.applyLimits rq k) := named rfl
theorem flushQueue (rq k) : Statement (.flushQueue rq k) := named rfl
theorem clearFault (rq k) : Statement (.clearFault rq k) := named rfl
theorem holdEntry (k) : Statement (.holdEntry k) := named rfl
theorem stopTimeout (k) : Statement (.stopTimeout k) := named rfl
theorem homeLoad (k) : Statement (.homeLoad k) := named rfl
theorem homeTimeout (k) : Statement (.homeTimeout k) := named rfl
theorem groupAbsolute (rq g startAt) : Statement (.groupAbsolute rq g startAt) := named rfl
theorem groupRelative (rq g startAt) : Statement (.groupRelative rq g startAt) := named rfl
theorem groupStop (rq g) : Statement (.groupStop rq g) := named rfl
theorem groupQuickStop (rq g) : Statement (.groupQuickStop rq g) := named rfl
theorem sequencerCoreFault (c) : Statement (.sequencerCoreFault c) := named rfl
theorem planEccError (k) : Statement (.planEccError k) := named rfl
theorem enReq (rq hi value) : Statement (.enReq rq hi value) := named rfl
theorem staggerEnable (g) : Statement (.staggerEnable g) := named rfl
theorem lshCfgWrite (rq value) : Statement (.lshCfgWrite rq value) := named rfl
theorem segmentReceived (domain member seg) : Statement (.segmentReceived domain member seg) := named rfl
theorem lineShaftCycleStart : Statement (.lineShaftCycleStart) := named rfl
theorem regWindowTimeout (r) : Statement (.regWindowTimeout r) := named rfl
theorem engage (rq k startAt) : Statement (.engage rq k startAt) := named rfl
theorem applyRatio (rq k) : Statement (.applyRatio rq k) := named rfl
theorem disengage (rq k) : Statement (.disengage rq k) := named rfl
theorem nextTable (rq k) : Statement (.nextTable rq k) := named rfl
theorem camCommit (rq t) : Statement (.camCommit rq t) := named rfl
theorem camComputeDone (t) : Statement (.camComputeDone t) := named rfl
theorem camRelease (rq t) : Statement (.camRelease rq t) := named rfl
theorem lshStorageError (store) : Statement (.lshStorageError store) := named rfl
theorem joinReceived (src domain member join) : Statement (.joinReceived src domain member join) := named rfl
theorem statusReceived (domain member) : Statement (.statusReceived domain member) := named rfl
theorem statusSend : Statement (.statusSend) := named rfl
theorem memberTimeout (m) : Statement (.memberTimeout m) := named rfl
theorem membershipComplete : Statement (.membershipComplete) := named rfl
theorem auxCfgWrite (rq c offset value) : Statement (.auxCfgWrite rq c offset value) := named rfl
theorem auxOutEn (rq c) : Statement (.auxOutEn rq c) := named rfl
theorem auxFaultClr (rq c) : Statement (.auxFaultClr rq c) := named rfl
theorem adcConversionDone (cl code) : Statement (.adcConversionDone cl code) := named rfl
theorem adcRequestDiscard (cl ch use) : Statement (.adcRequestDiscard cl ch use) := named rfl
theorem adcReferenceCheck (cl) : Statement (.adcReferenceCheck cl) := named rfl
theorem auxEvalInterval (c) : Statement (.auxEvalInterval c) := named rfl
theorem microstep (c) : Statement (.microstep c) := named rfl
theorem chopperCrossing (c coil seen) : Statement (.chopperCrossing c coil seen) := named rfl
theorem chopperBlankEnd (c coil) : Statement (.chopperBlankEnd c coil) := named rfl
theorem decayMinEnd (c coil) : Statement (.decayMinEnd c coil) := named rfl
theorem standstillReduction (c) : Statement (.standstillReduction c) := named rfl
theorem openCoil (c coil) : Statement (.openCoil c coil) := named rfl
theorem bldcAlignEnd (c) : Statement (.bldcAlignEnd c) := named rfl
theorem bldcPwmPeriod (c above) : Statement (.bldcPwmPeriod c above) := named rfl
theorem bldcCommutation (c) : Statement (.bldcCommutation c) := named rfl
theorem missedSector (c) : Statement (.missedSector c) := named rfl
theorem bldcCoastEnd (c) : Statement (.bldcCoastEnd c) := named rfl
theorem bldcRetryRefill (c) : Statement (.bldcRetryRefill c) := named rfl
theorem configRequest (n) : Statement (.configRequest n) := named rfl
theorem hifEnable (rq n value) : Statement (.hifEnable rq n value) := named rfl
theorem sqCfgWrite (rq n k value) : Statement (.sqCfgWrite rq n k value) := named rfl
theorem cqCfgWrite (rq n k value) : Statement (.cqCfgWrite rq n k value) := named rfl
theorem doorbellPoll (n tails heads rest) : Statement (.doorbellPoll n tails heads rest) := named rfl
theorem nop (n k d) : Statement (.nop n k d) := named rfl
theorem setpoint (n k d) : Statement (.setpoint n k d) := named rfl
theorem launchPush (n k d) : Statement (.launchPush n k d) := named rfl
theorem launchCancel (n k d) : Statement (.launchCancel n k d) := named rfl
theorem axisCmd (n k d) : Statement (.axisCmd n k d) := named rfl
theorem regBlock (n k d data) : Statement (.regBlock n k d data) := named rfl
theorem copyIn (n k d) : Statement (.copyIn n k d) := named rfl
theorem copyOut (n k d) : Statement (.copyOut n k d) := named rfl
theorem poolAlloc (n k d) : Statement (.poolAlloc n k d) := named rfl
theorem poolFree (n k d) : Statement (.poolFree n k d) := named rfl
theorem heartbeat (n) : Statement (.heartbeat n) := named rfl
theorem heartbeatReadback (n k error data) : Statement (.heartbeatReadback n k error data) := named rfl
theorem heartbeatTimeout (n k) : Statement (.heartbeatTimeout n k) := named rfl
theorem irqHoldEnd (n k) : Statement (.irqHoldEnd n k) := named rfl
theorem wideReadLo (rq addr) : Statement (.wideReadLo rq addr) := named rfl
theorem wideReadHi (rq addr) : Statement (.wideReadHi rq addr) := named rfl
theorem hifTornWrite (rq value) : Statement (.hifTornWrite rq value) := named rfl
theorem functionLevelReset (n) : Statement (.functionLevelReset n) := named rfl
theorem poolCountWrite (rq c value) : Statement (.poolCountWrite rq c value) := named rfl
theorem memSegWrite (rq value) : Statement (.memSegWrite rq value) := named rfl
theorem dmaStart (rq n) : Statement (.dmaStart rq n) := named rfl
theorem dmaResume (rq n) : Statement (.dmaResume rq n) := named rfl
theorem dmaAbort (rq n) : Statement (.dmaAbort rq n) := named rfl
theorem dmaDone (n x) : Statement (.dmaDone n x) := named rfl
theorem dmaHalt (n reason write addr moved x) : Statement (.dmaHalt n reason write addr moved x) := named rfl
theorem copySegmentDone (c res) : Statement (.copySegmentDone c res) := named rfl
theorem patrolScrub (ipm word corrected poisoned) : Statement (.patrolScrub ipm word corrected poisoned) := named rfl
theorem stagingFault (c) : Statement (.stagingFault c) := named rfl
theorem capBindWrite (rq k value) : Statement (.capBindWrite rq k value) := named rfl
theorem captureArm (rq c) : Statement (.captureArm rq c) := named rfl
theorem captureStop (rq c) : Statement (.captureStop rq c) := named rfl
theorem captureForce (rq c) : Statement (.captureForce rq c) := named rfl
theorem captureUnload (rq c) : Statement (.captureUnload rq c) := named rfl
theorem captureRowLatch (c) : Statement (.captureRowLatch c) := named rfl
theorem envCommit (rq k) : Statement (.envCommit rq k) := named rfl
theorem envLoadDone (k ok) : Statement (.envLoadDone k ok) := named rfl
theorem unloadDone (c halt) : Statement (.unloadDone c halt) := named rfl
theorem captureChannelFault (k) : Statement (.captureChannelFault k) := named rfl
theorem ethCfgWrite (rq p value) : Statement (.ethCfgWrite rq p value) := named rfl
theorem ethLinkChange (p up link) : Statement (.ethLinkChange p up link) := named rfl
theorem frameReceived (p f) : Statement (.frameReceived p f) := named rfl
theorem strangerHoldEnd (p) : Statement (.strangerHoldEnd p) := named rfl
theorem fdbAgeing (mac) : Statement (.fdbAgeing mac) := named rfl
theorem frameTransmitted (p) : Statement (.frameTransmitted p) := named rfl
theorem gateConfigChange (rq p) : Statement (.gateConfigChange rq p) := named rfl
theorem gateListTakeover (p) : Statement (.gateListTakeover p) := named rfl
theorem gateEntryEnd (p) : Statement (.gateEntryEnd p) := named rfl
theorem launchFrameStart (p) : Statement (.launchFrameStart p) := named rfl
theorem preemptVerifyDone (p ok) : Statement (.preemptVerifyDone p ok) := named rfl
theorem saInstall (rq p an rxsc transmit) : Statement (.saInstall rq p an rxsc transmit) := named rfl
theorem transmitAreaWrite (rq p offset value) : Statement (.transmitAreaWrite rq p offset value) := named rfl
theorem mdioGo (rq) : Statement (.mdioGo rq) := named rfl
theorem mdioDone (data) : Statement (.mdioDone data) := named rfl
theorem ethPortFault (p) : Statement (.ethPortFault p) := named rfl
theorem canInitExit (rq c idle) : Statement (.canInitExit rq c idle) := named rfl
theorem canInitEnter (rq c) : Statement (.canInitEnter rq c) := named rfl
theorem txbReq (rq c bufs idle) : Statement (.txbReq rq c bufs idle) := named rfl
theorem txbCancel (rq c bufs) : Statement (.txbCancel rq c bufs) := named rfl
theorem canFrameSent (c) : Statement (.canFrameSent c) := named rfl
theorem canTxFailure (c err) : Statement (.canTxFailure c err) := named rfl
theorem busOffRecovery (c) : Statement (.busOffRecovery c) := named rfl
theorem canFrameReceived (c f sof err) : Statement (.canFrameReceived c f sof err) := named rfl
theorem ttEnable (rq c) : Statement (.ttEnable rq c) := named rfl
theorem ttDisable (rq c) : Statement (.ttDisable rq c) := named rfl
theorem canBasicCycle (c) : Statement (.canBasicCycle c) := named rfl
theorem canWindowStart (c idle) : Statement (.canWindowStart c idle) := named rfl
theorem exclusiveWindowMissed (c) : Statement (.exclusiveWindowMissed c) := named rfl
theorem rxElementLock (rq c q x_i) : Statement (.rxElementLock rq c q x_i) := named rfl
theorem rxElementRelease (rq c q x_i) : Statement (.rxElementRelease rq c q x_i) := named rfl
theorem lockTimeout (c q) : Statement (.lockTimeout c q) := named rfl
theorem rxqAck (rq c q n) : Statement (.rxqAck rq c q n) := named rfl
theorem newClear (rq c q x_i) : Statement (.newClear rq c q x_i) := named rfl
theorem canCellFault (c) : Statement (.canCellFault c) := named rfl
theorem fieldInputChange (k level) : Statement (.fieldInputChange k level) := named rfl
theorem fioChCfgWrite (rq k value) : Statement (.fioChCfgWrite rq k value) := named rfl
theorem wireBreak (k) : Statement (.wireBreak k) := named rfl
theorem wireWhole (k) : Statement (.wireWhole k) := named rfl
theorem fioOut (rq levels) : Statement (.fioOut rq levels) := named rfl
theorem fioOutSet (rq outputs) : Statement (.fioOutSet rq outputs) := named rfl
theorem fioOutClr (rq outputs) : Statement (.fioOutClr rq outputs) := named rfl
theorem fioOutFclr (rq outputs hot) : Statement (.fioOutFclr rq outputs hot) := named rfl
theorem outputOvercurrent (j thermal) : Statement (.outputOvercurrent j thermal) := named rfl
theorem readbackMismatch (j) : Statement (.readbackMismatch j) := named rfl
theorem fxModeWrite (rq x mode) : Statement (.fxModeWrite rq x mode) := named rfl
theorem vfieldLow : Statement (.vfieldLow) := named rfl
theorem vfieldRecovered : Statement (.vfieldRecovered) := named rfl
theorem bridgeHeartbeatLost : Statement (.bridgeHeartbeatLost) := named rfl
theorem safetyCycle (x_i) : Statement (.safetyCycle x_i) := named rfl
theorem discrepancyFault (p) : Statement (.discrepancyFault p) := named rfl
theorem ss1Expiry (g) : Statement (.ss1Expiry g) := named rfl
theorem sresetPulse : Statement (.sresetPulse) := named rfl
theorem sresetStuck : Statement (.sresetStuck) := named rfl
theorem channelClockLost : Statement (.channelClockLost) := named rfl
theorem darkTest (n) : Statement (.darkTest n) := named rfl
theorem darkTestTimeout (n) : Statement (.darkTestTimeout n) := named rfl
theorem btStart (rq n ticket) : Statement (.btStart rq n ticket) := named rfl
theorem btAbort (rq) : Statement (.btAbort rq) := named rfl
theorem btSettleEnd : Statement (.btSettleEnd) := named rfl
theorem btPass : Statement (.btPass) := named rfl
theorem btCurrentTimeout : Statement (.btCurrentTimeout) := named rfl
theorem btDue (n) : Statement (.btDue n) := named rfl
theorem btBlock (n) : Statement (.btBlock n) := named rfl
theorem safUnlock (rq value) : Statement (.safUnlock rq value) := named rfl
theorem unlockExpiry : Statement (.unlockExpiry) := named rfl
theorem psetLoad (rq) : Statement (.psetLoad rq) := named rfl
theorem psetCheckDone (agree) : Statement (.psetCheckDone agree) := named rfl
theorem psetDiscard (rq) : Statement (.psetDiscard rq) := named rfl
theorem psetLapse : Statement (.psetLapse) := named rfl
theorem eventDetected : Statement (.eventDetected) := named rfl
theorem eventRingDrain (n) : Statement (.eventRingDrain n) := named rfl
theorem evtRouteWrite (rq k value) : Statement (.evtRouteWrite rq k value) := named rfl
theorem referenceReady (r) : Statement (.referenceReady r) := named rfl
theorem referenceLost (r) : Statement (.referenceLost r) := named rfl
theorem pllReady (p) : Statement (.pllReady p) := named rfl
theorem refSwitchTimeout : Statement (.refSwitchTimeout) := named rfl
theorem refHoldoffEnd : Statement (.refHoldoffEnd) := named rfl
theorem refSwitch (rq) : Statement (.refSwitch rq) := named rfl
theorem return_ (rq) : Statement (.return_ rq) := named rfl
theorem clkDomSelWrite (rq value) : Statement (.clkDomSelWrite rq value) := named rfl
theorem missingClockTrip : Statement (.missingClockTrip) := named rfl
theorem marigoldReady : Statement (.marigoldReady) := named rfl
theorem marigoldTimeout : Statement (.marigoldTimeout) := named rfl
theorem snowdropStop : Statement (.snowdropStop) := named rfl
theorem snowdropTrim : Statement (.snowdropTrim) := named rfl
theorem marigoldTrimBurst : Statement (.marigoldTrimBurst) := named rfl
theorem netpllLoss : Statement (.netpllLoss) := named rfl
theorem mempllLoss : Statement (.mempllLoss) := named rfl
theorem mempllTimeout : Statement (.mempllTimeout) := named rfl
theorem powerOnReset : Statement (.powerOnReset) := named rfl
theorem brownOutReset : Statement (.brownOutReset) := named rfl
theorem pinReset : Statement (.pinReset) := named rfl
theorem watchdogReset : Statement (.watchdogReset) := named rfl
theorem watchdogKick (rq) : Statement (.watchdogKick rq) := named rfl
theorem softwareReset (rq scope) : Statement (.softwareReset rq scope) := named rfl
theorem camelliaLockup : Statement (.camelliaLockup) := named rfl
theorem pcieFundamentalReset : Statement (.pcieFundamentalReset) := named rfl
theorem domainRelease : Statement (.domainRelease) := named rfl
theorem doze (rq) : Statement (.doze rq) := named rfl
theorem dormant (rq) : Statement (.dormant rq) := named rfl
theorem wake (src) : Statement (.wake src) := named rfl
theorem runReached : Statement (.runReached) := named rfl
theorem sensorSample (x) : Statement (.sensorSample x) := named rfl
theorem flashFault : Statement (.flashFault) := named rfl
theorem flashRecovered : Statement (.flashRecovered) := named rfl
theorem ledgerAcquire (n seq activity object) : Statement (.ledgerAcquire n seq activity object) := named rfl
theorem ledgerRelease (n seq ticket) : Statement (.ledgerRelease n seq ticket) := named rfl
theorem ledgerList (n seq first) : Statement (.ledgerList n seq first) := named rfl
theorem ledgerWithdraw (ticket) : Statement (.ledgerWithdraw ticket) := named rfl
theorem imageStage (n found) : Statement (.imageStage n found) := named rfl
theorem imageActivate (n seq mode) : Statement (.imageActivate n seq mode) := named rfl
theorem imageConfirm (n seq) : Statement (.imageConfirm n seq) := named rfl
theorem policyStage (n found policy) : Statement (.policyStage n found policy) := named rfl
theorem journalRead (n seq first count handle) : Statement (.journalRead n seq first count handle) := named rfl
theorem lifeRead (n seq first) : Statement (.lifeRead n seq first) := named rfl
theorem sensorRead (n seq) : Statement (.sensorRead n seq) := named rfl
theorem planList (n seq first) : Statement (.planList n seq first) := named rfl
theorem vcoreAdjust (avsOk) : Statement (.vcoreAdjust avsOk) := named rfl
theorem sramMarginTest (failing) : Statement (.sramMarginTest failing) := named rfl
theorem trimDriftCheck : Statement (.trimDriftCheck) := named rfl
theorem flashRefresh : Statement (.flashRefresh) := named rfl
theorem otpRefresh : Statement (.otpRefresh) := named rfl
theorem thermalModelUpdate : Statement (.thermalModelUpdate) := named rfl
theorem replan : Statement (.replan) := named rfl
theorem lifeCounterSave : Statement (.lifeCounterSave) := named rfl
theorem calendarSet : Statement (.calendarSet) := named rfl
theorem testLogicReset (trst) : Statement (.testLogicReset trst) := named rfl
theorem extest : Statement (.extest) := named rfl
theorem idcode : Statement (.idcode) := named rfl
theorem samplePreload (cells) : Statement (.samplePreload cells) := named rfl
theorem clamp : Statement (.clamp) := named rfl
theorem highz : Statement (.highz) := named rfl
theorem bypass (code) : Statement (.bypass code) := named rfl
theorem dbgChal : Statement (.dbgChal) := named rfl
theorem dbgCert (c) : Statement (.dbgCert c) := named rfl
theorem dbgStatus : Statement (.dbgStatus) := named rfl
theorem dbgLock : Statement (.dbgLock) := named rfl
theorem dbgAccess (write offset data) : Statement (.dbgAccess write offset data) := named rfl
theorem coreHalt (core) : Statement (.coreHalt core) := named rfl
theorem coreResume (core) : Statement (.coreResume core) := named rfl
theorem coreSingleStep (core) : Statement (.coreSingleStep core) := named rfl
theorem coreReadRegister (core reg) : Statement (.coreReadRegister core reg) := named rfl
theorem coreWriteRegister (core reg data) : Statement (.coreWriteRegister core reg data) := named rfl
theorem coreReadMemory (core addr) : Statement (.coreReadMemory core addr) := named rfl
theorem coreWriteMemory (core addr data) : Statement (.coreWriteMemory core addr data) := named rfl
theorem dbgReset : Statement (.dbgReset) := named rfl
theorem debugSessionExpiry : Statement (.debugSessionExpiry) := named rfl
theorem debugRefusalPeriodEnd : Statement (.debugRefusalPeriodEnd) := named rfl
theorem registerRead (rq addr) : Statement (.registerRead rq addr) := named rfl
theorem ptpTransmit (port m) : Statement (.ptpTransmit port m) := named rfl
theorem pcieLinkChange (speed width l1) : Statement (.pcieLinkChange speed width l1) := named rfl
theorem mgtMsg (n k d msg found policy) : Statement (.mgtMsg n k d msg found policy) := named rfl
theorem badOpcodeDescriptor (n k opcode d) : Statement (.badOpcodeDescriptor n k opcode d) := named rfl
theorem badTypeMessage (n seq type) : Statement (.badTypeMessage n seq type) := named rfl
theorem fwVerified : Statement (.fwVerified) := named rfl
theorem psetLoaded (ok) : Statement (.psetLoaded ok) := named rfl
theorem memReady : Statement (.memReady) := named rfl
theorem logCompaction : Statement (.logCompaction) := named rfl

end Sys2Proof.Laws.QueueFrame
end

