-- ==== Sys2Proof/Tests/Slice0.lean ====
section
/-! SUPPORT. Tests: the checks of WellFormed refuse an ill-formed command each, the figures that the spec works out are met,
and for every statement with hypotheses a state and operands that meet those of each of its clauses. -/

open Sys2Proof Sys2Proof.Machine

section Tests

set_option Elab.async false

/-! ### The checks of WellFormed, each with a command that it refuses -/

def descOf (payload : List Byte) : Desc := ⟨0, 0, 0, 0, 0, payload⟩

def announceOf (gm priority1 : Nat) : Announce := ⟨gm, priority1, 0, 0, 0, 0, 0, false, 0, false, false, 0, 1000000000, 0⟩

theorem test_wf_unaligned : (Instr.registerRead (.od 0) 2).check = some .unaligned := by decide
theorem test_wf_outsideWindow : (Instr.registerWrite (.od 0) 0x2000000 0).check = some .outsideWindow := by decide
theorem test_wf_blockOffset : (Instr.auxCfgWrite (.od 0) 0 0x4000 0).check = some .blockOffset := by decide
theorem test_wf_identity : (Instr.announceTimeout ⟨0, 2 ^ 64⟩).check = some .identity := by decide
theorem test_wf_announce : (Instr.announceReceived (announceOf 1 256)).check = some .announce := by decide
theorem test_wf_announce_good : (Instr.announceReceived (announceOf 1 255)).check = none := by decide
theorem test_wf_frameBits : (Instr.tlmFrame 0 0 (2 ^ 160)).check = some .frameBits := by decide
theorem test_wf_burst : (Instr.axisStateWrite (.od 0) 0 0 []).check = some .burst := by decide
theorem test_wf_payload : (Instr.nop 0 0 (descOf [])).check = some .payload := by decide
theorem test_wf_payload_good : (Instr.nop 0 0 (descOf (List.replicate 48 0))).wellFormed = true := by decide
theorem test_wf_doorbell : (Instr.doorbellPoll 0 [] [] []).check = some .doorbell := by decide
theorem test_wf_readback : (Instr.heartbeatReadback 0 8 false [1]).check = some .readback := by decide
theorem test_wf_canFrame :
    (Instr.canFrameReceived 0 ⟨2048, false, false, false, 0, false, false, []⟩ 0 none).check = some .canFrame := by decide
theorem test_wf_frame : (Instr.frameReceived 0 ⟨[1], 64, none, true⟩).check = some .frame := by decide
theorem test_wf_macros : (Instr.sramMarginTest [1, 2, 3]).check = some .macros := by decide
theorem test_wf_coil : (Instr.adcRequestDiscard 0 0 (.peak 2)).check = some .coil := by decide

/-! ### Figures that the spec works out -/

/-- The ASCII digits 1 to 9. -/
def digits : List Byte := [0x31, 0x32, 0x33, 0x34, 0x35, 0x36, 0x37, 0x38, 0x39]

/-- The check value of CRC-32C (*Checksums*). -/
theorem test_crc32c_check_value : crc32c digits = 0xE3069283 := by decide +kernel

/-- The check value of R479. -/
theorem test_crc32_check_value : crc32 digits = 0xCBF43926 := by decide +kernel

/-- A state whose counter shows a time in ns. -/
def atNs (ns : Nat) : State := { State.reset with tb := { State.reset.tb with ctr := ns * 2 ^ 32 } }

/-- *Extending two timestamps*: the first record lies 1.2 s after 90,000.25 s. -/
theorem test_extend_forward : (atNs 90000250000000).extendShort 410312320 = 90001450000000 * 65536 := by decide +kernel

/-- *Extending two timestamps*: the capture header lies 0.5 s before it. -/
theorem test_extend_back : (atNs 90000250000000).extendShort 3005279616 = 89999750000000 * 65536 := by decide +kernel

/-- The live short timestamp of R45 at 90,000.25 s, worked out in the same example. -/
theorem test_short_now : (atNs 90000250000000).short = 3505279616 := by decide +kernel

/-- A tick at the reset increment, SYSPLL ready, takes the counter 4 ns on (R38). -/
theorem test_tick : ((atNs 1000).p F.CLK_STATUS_PLL_READY 1).tick.nowNs = 1004 := by decide +kernel

/-- *Interleaving across three cabinets*: LQ2_CANCEL with TAG 0x0100 and MASK 0xFF00 removes period starts. -/
theorem test_cancel_tag : tagMatch 0x0100 0xFF00 ⟨0, 0, 0x20, 4, 0, 0x0104, true, false⟩ = true := by decide
theorem test_cancel_tag_keeps : tagMatch 0x0100 0xFF00 ⟨0, 0, 0x10, 4, 0, 0x0204, true, false⟩ = false := by decide

/-- A CAN controller at 1 Mbit/s: 80 periods of 12.5 ns to the bit. -/
def canAt1M : State :=
  ((State.reset.p (F.CAN_ARBIT_N_QPRE 0) 0).p (F.CAN_ARBIT_N_QBEFORE 0) 57).p (F.CAN_ARBIT_N_QAFTER 0) 20

/-- *A winder I/O bus*: an 8-byte classical frame lasts at most 135 bit times, or 135 us, at 1 Mbit/s. -/
theorem test_can_longest :
    canAt1M.longest 0 ⟨3, false, false, false, 8, false, false, List.replicate 8 0⟩ = 135000 * 65536 := by decide +kernel

/-- Data length codes above 8 of the FD format. -/
theorem test_dlc : (dlcBytes true 9, dlcBytes true 15, dlcBytes false 15) = (12, 64, 8) := by decide

/-- R391: the first BASE + n x CYCLE at or after a time. -/
theorem test_cycle_from : cycleFrom 1000 250 1600 = 1750 := by decide

/-- R555: tickets skip 0. -/
theorem test_next_ticket : (nextTicket 65535, nextTicket 7) = (1, 8) := by decide

/-- Generations of a buffer skip 0. -/
theorem test_next_gen : (nextGen 255, nextGen 1) = (1, 2) := by decide

/-- R51: PRIORITY1 is 255 after reset. -/
theorem test_priority1_reset : State.reset.g F.TB_BMCA_PRIORITY1 = 255 := by decide +kernel

/-- *Reset sources and reach*: SCOPE 2 names the network domain alone, 5 none. -/
theorem test_scope : (scopeDomains 2, scopeDomains 5) = (some [7], none) := by decide

/-- R510: the reset dividers meet the relations. -/
theorem test_dividers : divOk (State.reset.rd R.CLK_DIV) = true := by decide +kernel

/-- A counter field saturates. -/
theorem test_saturates : satAdd 8 254 3 = 255 := by decide

/-- The first check of a certificate that passes them all (*Debug certificate checks*). -/
theorem certCheck_passes (s : State) (c : Cert) (h1 : s.mg.refusing = false) (h2 : c.format = 0x0D01) (h3 : c.permit = 1)
    (h4 : (s.debugSlot c.keyHash).isNone = false) (h5 : c.sigOk = true) (h6 : c.identity = Config.deviceIdentity)
    (h7 : c.challenge = Config.challenge s.mg.challengeNo) (h8 : c.notBefore = 0) (h9 : c.notAfter = 100)
    (h10 : s.mg.calendar = 0) : s.certCheck c = 0 := by
  simp [State.certCheck, h1, h2, h3, h4, h5, h6, h7, h8, h9, h10, testBit]


/-- The address after an address is another one. -/
theorem next_address (m : BitVec 48) : (m + 1).toNat ≠ m.toNat := by
  have := m.isLt
  change (m.toNat + 1) % 2 ^ 48 ≠ m.toNat
  omega

/-- An announce message of another clock, whatever the device's own identity. -/
def otherClock : Announce := ⟨Config.clockIdentity.toNat + 1, 128, 6, 0x20, 0, 128, 0, true, 37, true, false, 1, 1000000000, 0⟩

theorem otherClock_other : (otherClock.gm != Config.clockIdentity.toNat) = true := by simp [otherClock]

/-- A state in which the time base takes what announce messages say of UTC. -/
def announced : State :=
  { ((State.reset.p F.TB_CTRL_PROTOCOL 1).on F.TB_UTC_FROM_ANNOUNCE).p F.TB_BMCA_PRIORITY1 255 with
    tb := { State.reset.tb with parent := none, foreign := [] } }

theorem announced_qualifies : announced.qualifies otherClock = true := by
  have h : (announced.g F.TB_CTRL_PROTOCOL == 1) = true := by decide +kernel
  simp only [State.qualifies, otherClock_other, h, Bool.true_and, Bool.true_or, Bool.and_true]
  decide +kernel

/-- Under gPTP one announce message of another clock makes it the parent (R51, R601). -/
theorem announced_parent : (announced.recordAnnounce otherClock).runBmca.tb.parent = some otherClock := by
  simp only [State.recordAnnounce, announced_qualifies]
  rfl

/-! ### Words of bundles, from *X-slot formats* and *Y-slot formats* -/

/-- add r3, r5, r7; movi r2, #0xFFFF; divs.f A1, r4. -/
theorem test_decodeX :
    decodeX 0 0x04D5C000 = some (.add 0 3 5 7) ∧ decodeX 0 0x3C80FFFF = some (.movi 0 2 0xFFFF) ∧
      decodeX 0 0xA8012080 = some (.divs 0 1 4 true) := ⟨rfl, rfl, rfl⟩

/-- R194: an abs whose rb is not 0 and a reserved op are illegal. -/
theorem test_decodeX_illegal : decodeX 0 0x34004000 = none ∧ decodeX 0 0x48000000 = none := ⟨rfl, rfl⟩

/-- ld r6, [P2 + 5]; jmp 0x123; loop lc1, #10, 0x40. -/
theorem test_decodeY :
    decodeY 0 0x05900005 = some (.ld 0 6 (.off 2 5)) ∧ decodeY 0 0x40000123 = some (.jmp 0 0x123) ∧
      decodeY 0 0x4A012040 = some (.loop 0 1 9 0x40) := ⟨rfl, rfl, rfl⟩

/-- R194: an odd register pair, the reserved mode and a reserved condition are illegal. -/
theorem test_decodeY_illegal :
    decodeY 0 0x0CC00000 = none ∧ decodeY 0 0x04060000 = none ∧ decodeY 0 0x46C00000 = none := ⟨rfl, rfl, rfl⟩

/-- The bundle that spells an X-slot operation, written from the tables of *X-slot formats* and *X-slot operations*. -/
def xForm (op rd ra rb a sh imm : Nat) : Word :=
  BitVec.ofNat 32 (op * 2 ^ 26 + rd * 2 ^ 22 + ra * 2 ^ 18 + rb * 2 ^ 14 + a * 2 ^ 13 + sh * 2 ^ 7 + imm)

def xWord : Instr → Word
  | .add _ d a b => xForm 1 d a b 0 0 0
  | .sub _ d a b => xForm 2 d a b 0 0 0
  | .adds _ d a b => xForm 3 d a b 0 0 0
  | .subs _ d a b => xForm 4 d a b 0 0 0
  | .and _ d a b => xForm 5 d a b 0 0 0
  | .or _ d a b => xForm 6 d a b 0 0 0
  | .xor _ d a b => xForm 7 d a b 0 0 0
  | .shl _ d a h => xForm 8 d a 0 0 h 0
  | .shr _ d a h => xForm 9 d a 0 0 h 0
  | .shra _ d a h => xForm 10 d a 0 0 h 0
  | .min _ d a b => xForm 11 d a b 0 0 0
  | .max _ d a b => xForm 12 d a b 0 0 0
  | .abs _ d a => xForm 13 d a 0 0 0 0
  | .neg _ d a => xForm 14 d a 0 0 0 0
  | .movi _ d i => xForm 15 d 0 0 0 0 i.toNat
  | .movhi _ d i => xForm 16 d 0 0 0 0 i.toNat
  | .cmp _ a b => xForm 17 0 a b 0 0 0
  | .mul _ c a b => xForm 32 0 a b c 0 0
  | .mac _ c a b => xForm 33 0 a b c 0 0
  | .msu _ c a b => xForm 34 0 a b c 0 0
  | .mullo _ d a b => xForm 35 d a b 0 0 0
  | .ald _ c a h => xForm 36 0 a 0 c h 0
  | .aadd _ c a h => xForm 37 0 a 0 c h 0
  | .asub _ c a h => xForm 38 0 a 0 c h 0
  | .amov _ c a b => xForm 39 0 a b c 0 0
  | .ext _ d c h => xForm 40 d 0 0 c h 0
  | .extl _ d c => xForm 41 d 0 0 c 0 0
  | .divs _ c b f => xForm 42 0 0 b c f.toNat 0
  | .tsin _ d a => xForm 43 d a 0 0 0 0
  | .tcos _ d a => xForm 44 d a 0 0 0 0
  | .rsq _ d a => xForm 45 d a 0 0 0 0
  | _ => 0

/-- The bundle's other half, from *Y-slot formats* and *Y-slot operations*. -/
def yAddr : EAddr → Nat
  | .off p w => p * 2 ^ 19 + w.toNat
  | .post p w => p * 2 ^ 19 + 2 ^ 17 + w.toNat
  | .abs w => 2 * 2 ^ 17 + w.toNat

def yForm (op r k low : Nat) : Word := BitVec.ofNat 32 (op * 2 ^ 26 + r * 2 ^ 22 + k * 2 ^ 17 + low)

def yWord : Instr → Word
  | .ld _ r a => yForm 1 r 0 (yAddr a)
  | .st _ r a => yForm 2 r 0 (yAddr a)
  | .ldd _ r a => yForm 3 r 0 (yAddr a)
  | .std _ r a => yForm 4 r 0 (yAddr a)
  | .lds _ p w => yForm 5 p 0 (yAddr (.abs w))
  | .sts _ p w => yForm 6 p 0 (yAddr (.abs w))
  | .mfs _ r k => yForm 7 r k 0
  | .mts _ k r => yForm 8 r k 0
  | .jmp _ t => yForm 16 0 0 t.toNat
  | .brcc _ c t => yForm 17 c 0 t.toNat
  | .loop _ l c t => BitVec.ofNat 32 (18 * 2 ^ 26 + l * 2 ^ 25 + c * 2 ^ 13 + t.toNat)
  | .loopr _ l r t => BitVec.ofNat 32 (19 * 2 ^ 26 + l * 2 ^ 25 + r * 2 ^ 21 + t.toNat)
  | .end_ _ => yForm 24 0 0 0
  | .wait _ => yForm 25 0 0 0
  | .retb _ => yForm 26 0 0 0
  | _ => 0

/-- The state with the bundle of `x` and `y` at the program counter of engine `n`. -/
def bundleAt (s : State) (n : Fin 8) (x y : Instr) : State :=
  (s.wr (pmAddr n (2 * ((s.aeOf n).core.pc % 8192))) (xWord x)).wr (pmAddr n (2 * ((s.aeOf n).core.pc % 8192) + 1)) (yWord y)

/-! ### What meets the hypotheses of the statements, clause by clause -/

theorem witness_FaultsReachTheirLevel :
    (∃ (s : State) (n : Fin 16), s.higherRuns n = false) ∧
    (∃ (s : State) (n : Fin 24), s.higherRuns (16 + n) = false) ∧
    (∃ (s : State) (_n : Fin 4), s.contained regTime = false) ∧
    (∃ (s : State) (n : Fin 32), s.contained regMemory = false ∧ (s.is (F.DMA_STATUS_HALTED n) = false ∨ s.g
      (F.DMA_STATUS_REASON n) ≠ 9)) ∧
    (∃ (s : State) (_k : Fin 80), s.contained regField = false) ∧
    (∃ (s : State) (_k : Fin 64), s.contained regMemory = false) ∧
    (∃ (_s : State) (c : Cell) (k : Cluster), c.cluster = some k) ∧
    (∃ (s : State) (c : Cell), c.cluster = none ∧ s.saf.globalSafe = false) ∧
    (∃ (s : State) (n : Fin 8) (k : Fin 16), k.val / 2 = n ∧ s.contained regMotion = false ∧ (∀ m : Fin 16, s.stopLevel m ≤
      1)) ∧
    (∃ (s : State) (n : Fin 4) (k : Fin 24) (m : Fin 24), k.val / 6 = n ∧ m.val / 6 = n ∧ s.g (F.AUX_CFG_MODE m) = 2 ∧
      s.contained regMotion = false ∧ (∀ m : Fin 24, s.stopLevel (16 + m) ≤ 1)) ∧
    (∃ (s : State) (_n : Fin 4), s.contained regMotion = false) ∧
    (∃ (s : State), s.contained regTime = false) ∧
    (∃ (s : State), s.contained regMemory = false) ∧
    (∃ (s : State) (_c : Cluster), s.saf.globalSafe = false) ∧
    (∃ (s : State) (_r : Fin 7), s.saf.globalSafe = false) ∧
    (∃ (s : State) (r : Fin 7), r.val = regMemory ∧ s.isolated r = false) ∧
    (∃ (s : State) (r : Fin 7), r.val = regSafety ∧ s.isolated r = false) ∧
    (∃ (s : State) (r : Fin 7) (h : Fin 8), r.val = regTime ∧ s.contained r = false ∧ s.is (F.LSH_SH_CFG_EN h) = true) ∧
    (∃ (s : State) (r : Fin 7), r.val = regField ∧ s.contained r = false) :=
  ⟨⟨(State.reset.on (F.AX_PWM_CTL_OUT_EN (0 : Fin 16))), (0), by decide +kernel⟩,
    ⟨(State.reset.on (F.AUX_CTL_OUT_EN (0 : Fin 24))), (0), by decide +kernel⟩,
    ⟨(State.reset), (0), by decide +kernel⟩,
    ⟨(State.reset), (0), by decide +kernel⟩,
    ⟨(State.reset), (0), by decide +kernel⟩,
    ⟨(State.reset), (0), by decide +kernel⟩,
    ⟨(State.reset), (.dma 3), (.dma), by decide +kernel⟩,
    ⟨(State.reset), (.capture 3), by decide +kernel⟩,
    ⟨(State.reset.on (F.AX_PWM_CTL_OUT_EN (3 : Fin 16))), (1), (3), by decide +kernel⟩,
    ⟨((State.reset.on (F.AUX_CTL_OUT_EN (7 : Fin 24))).p (F.AUX_CFG_MODE (8 : Fin 24)) 2), (1), (7), (8), by decide +kernel⟩,
    ⟨(State.reset), (0), by decide +kernel⟩,
    ⟨(State.reset), by decide +kernel⟩,
    ⟨(State.reset), by decide +kernel⟩,
    ⟨(State.reset), (.can), by decide +kernel⟩,
    ⟨(State.reset), (2), by decide +kernel⟩,
    ⟨(State.reset), (3), by decide +kernel⟩,
    ⟨(State.reset), (4), by decide +kernel⟩,
    ⟨(State.reset.on (F.LSH_SH_CFG_EN (2 : Fin 8))), (1), (2), by decide +kernel⟩,
    ⟨(State.reset), (6), by decide +kernel⟩⟩

theorem witness_ChipLevelFaultsForceTheSafeState :
    (∃ (_s : State) (cause : Fin 8) (_r : Fin 7), cause.val ≠ 0 ∧ cause.val ≠ 6) ∧
    (∃ (_s : State) (cause : Fin 8) (_r : Fin 7), 3 ≤ cause.val ∧ cause.val ≤ 5) ∧
    (∃ (s : State), s.clk.memWait = true ∧ s.clk.memTick + 250000 ≤ s.tb.ticks ∧ s.isolated regMemory = false) ∧
    (∃ (s : State), s.clk.memWait = true ∧ s.clk.memTick + 250000 ≤ s.tb.ticks ∧ s.contained regMemory = false) :=
  ⟨⟨(State.reset), (1), (0), by decide +kernel⟩,
    ⟨(State.reset), (4), (0), by decide +kernel⟩,
    ⟨({ State.reset with clk := { State.reset.clk with memWait := true, memTick := 0 }, tb := { State.reset.tb with ticks := State.reset.tb.ticks + 250000 } }),
    by decide +kernel⟩,
    ⟨({ State.reset with clk := { State.reset.clk with memWait := true, memTick := 0 }, tb := { State.reset.tb with ticks := State.reset.tb.ticks + 250000 } }),
    by decide +kernel⟩⟩

theorem witness_TimeBaseWritesTakeEffect :
    (∃ (s : State) (rq : Rq) (v : Word), s.reaches rq R.TB_CTRL ∧ tbCtrlReserved v = false) ∧
    (∃ (s : State) (rq : Rq), s.reaches rq R.TB_CTRL) ∧
    (∃ (s : State) (rq : Rq), s.reaches rq R.TB_CTRL) ∧
    (∃ (s : State) (rq : Rq) (net : Bool), s.reaches rq R.TB_CTRL ∧ s.pllReady (bit net) = true) ∧
    (∃ (s : State) (rq : Rq) (_v : Word), s.reaches rq R.TB_ADJ ∧ s.is F.TB_CTRL_SERVO_EN = false) ∧
    (∃ (s : State) (rq : Rq), s.reaches rq R.TB_CMD ∧ (s.is F.TB_CTRL_SERVO_EN && s.servo != 0) = false ∧ (s.rd
      R.TB_SET_NS).toNat ≤ 999999999) ∧
    (∃ (s : State) (rq : Rq), s.reaches rq R.TB_CMD ∧ (s.is F.TB_CTRL_SERVO_EN && s.servo != 0) = false) ∧
    (∃ (s : State) (rq : Rq) (a : Announce), s.reaches rq R.TB_CMD ∧ s.tb.pendingGm = some a ∧ s.is F.TB_STATUS_SWITCHING =
      false ∧ s.is F.TB_STATUS_HOLDOFF = false) :=
  ⟨⟨(State.reset), (.od 0), (0x224), by decide +kernel⟩,
    ⟨(State.reset.on F.TB_CTRL_SERVO_EN), (.od 0), by decide +kernel⟩,
    ⟨(State.reset.off F.TB_CTRL_SERVO_EN), (.od 0), by decide +kernel⟩,
    ⟨(State.reset.wr R.CLK_STATUS (~~~ (0 : Word))), (.od 0), (true), by decide +kernel⟩,
    ⟨(State.reset.off F.TB_CTRL_SERVO_EN), (.od 0), (8589934), by decide +kernel⟩,
    ⟨((State.reset.off F.TB_CTRL_SERVO_EN).wr R.TB_SET_NS 999999999), (.od 0), by decide +kernel⟩,
    ⟨((State.reset.off F.TB_CTRL_SERVO_EN)), (.od 0), by decide +kernel⟩,
    ⟨({ ((State.reset.off F.TB_STATUS_SWITCHING).off F.TB_STATUS_HOLDOFF) with tb := { State.reset.tb with pendingGm := some (⟨7, 128, 6, 0x20, 0, 128, 0, true, 37, true, false, 1, 1000000000, 0⟩ : Announce) } }),
    (.od 0), (⟨7, 128, 6, 0x20, 0, 128, 0, true, 37, true, false, 1, 1000000000, 0⟩), by decide +kernel⟩⟩

theorem witness_TimeBaseEventsTakeEffect :
    (∃ (s : State) (_rq : Rq), s.readErr R.TB_NOW_FRAC = false) ∧
    (∃ (s : State) (rq : Rq) (part : Fin 3) (full : Nat), s.readErr (R.TB_NOW_NS + 4 * part) = false ∧ s.timeShadow rq =
      some full) ∧
    (∃ (s : State) (rq : Rq) (part : Fin 3), s.readErr (R.TB_NOW_NS + 4 * part) = false ∧ s.timeShadow rq = none) ∧
    (∃ (s : State) (a : Announce), s.g F.TB_CTRL_PROTOCOL ≠ 0 ∧ a.domain = 0) ∧
    (∃ (s : State) (a : Announce) (p : Announce), s.g F.TB_CTRL_PROTOCOL ≠ 0 ∧ a.domain = 0 ∧ (s.recordAnnounce
      a).runBmca.tb.parent = some p ∧ p.gm = a.gm ∧ s.is F.TB_UTC_FROM_ANNOUNCE = true ∧ a.utcValid = true) ∧
    (∃ (s : State) (_port : Fin 2) (_gm : Nat), s.g F.TB_CTRL_PROTOCOL ≠ 0) ∧
    (∃ (s : State) (port : Fin 2) (p : Announce), s.g F.TB_CTRL_PROTOCOL ≠ 0 ∧ s.tb.parent = some p ∧ p.port = port ∧
      s.tb.pendingGm = none) ∧
    (∃ (s : State) (p : Announce) (port : Fin 2) (_rx : Nat) (_master : SyncTime) (_delay : Int) (_ival : Nat), s.g
      F.TB_CTRL_PROTOCOL ≠ 0 ∧ s.tb.parent = some p ∧ p.port = port ∧ s.clk.power = .run) ∧
    (∃ (s : State) (p : Announce) (port : Fin 2) (_rx : Nat) (_master : SyncTime) (_delay : Int) (_ival : Nat), s.g
      F.TB_CTRL_PROTOCOL ≠ 0 ∧ s.tb.parent = some p ∧ p.port = port ∧ s.clk.power = .run ∧ s.is F.TB_CTRL_SERVO_EN =
      false) ∧
    (∃ (s : State) (p : Announce) (port : Fin 2) (_rx : Nat) (_master : SyncTime) (_delay : Int) (_ival : Nat), s.g
      F.TB_CTRL_PROTOCOL ≠ 0 ∧ s.tb.parent = some p ∧ p.port = port ∧ s.clk.power = .run ∧ s.is F.TB_CTRL_SERVO_EN =
      true ∧ (s.servo = 0 ∨ s.servo = 3)) ∧
    (∃ (s : State) (p : Announce) (port : Fin 2) (rx : Nat) (master : SyncTime) (delay : Int) (_ival : Nat) (i : Int), s.g
      F.TB_CTRL_PROTOCOL ≠ 0 ∧ s.tb.parent = some p ∧ p.port = port ∧ s.clk.power = .run ∧ s.is F.TB_CTRL_SERVO_EN =
      true ∧ s.tb.afterStep = false ∧ absN (s.syncOffset port rx master.value delay) ≤ s.g F.TB_STEP_THR_THR * 65536 ∧ i
      = clampI (-8589934 * 2 ^ 32) (8589934 * 2 ^ 32) (s.tb.integ + (s.g F.TB_SERVO_KI_KI : Int) * s.syncOffset port rx
      master.value delay)) ∧
    (∃ (s : State) (p : Announce) (port : Fin 2) (rx : Nat) (master : SyncTime) (delay : Int) (_ival : Nat), s.g
      F.TB_CTRL_PROTOCOL ≠ 0 ∧ s.tb.parent = some p ∧ p.port = port ∧ s.clk.power = .run ∧ s.is F.TB_CTRL_SERVO_EN =
      true ∧ s.tb.afterStep = false ∧ s.g F.TB_STEP_THR_THR * 65536 < absN (s.syncOffset port rx master.value delay) ∧
      s.g F.TB_CTRL_STEP_MODE = 0) ∧
    (∃ (s : State), (s.servo = 1 ∨ s.servo = 2) ∧ s.syncLost = true) ∧
    (∃ (s : State) (l : List CtrStep), s.tb.pendingStep = l ∧ l ≠ [] ∧ s.tickRuns = true ∧ s.tb.stepTick < s.tb.ticks) ∧
    (∃ (s : State), s.is F.TB_STATUS_SWITCHING = true ∧ s.tb.swTick + s.g F.TB_GM_CTRL_SWITCH_TMO * 25000000 ≤ s.tb.ticks) ∧
    (∃ (s : State), s.is F.TB_STATUS_HOLDOFF = true ∧ s.tb.holdTick + s.g F.TB_GM_CTRL_HOLDOFF * 25000000 ≤ s.tb.ticks ∧
      (s.tb.pendingGm = none ∨ s.is F.TB_CTRL_GM_POLICY = true)) ∧
    (∃ (s : State) (a : Announce), s.is F.TB_STATUS_HOLDOFF = true ∧ s.tb.holdTick + s.g F.TB_GM_CTRL_HOLDOFF * 25000000 ≤
      s.tb.ticks ∧ s.tb.pendingGm = some a ∧ s.is F.TB_CTRL_GM_POLICY = false) ∧
    (∃ (s : State) (p : Fin 2) (m : PtpMsg), s.sendsPtp p m = true ∧ s.is (F.ETH_STATUS_LINK p) = true) ∧
    (∃ (s : State) (p : Fin 2), s.g F.TB_CTRL_PROTOCOL = 1 ∧ s.is (F.ETH_STATUS_LINK p) = true) :=
  ⟨⟨(State.reset), (.od 0), by decide +kernel⟩,
    ⟨(match execTbTimeShadowFill (.od 0 : Rq) State.reset with | .next t => t | _ => State.reset), (.od 0), (0),
    (State.reset.now), by decide +kernel⟩,
    ⟨(State.reset), (.od 0), (0), by decide +kernel⟩,
    ⟨(State.reset.p F.TB_CTRL_PROTOCOL 1), (⟨7, 128, 6, 0x20, 0, 128, 0, true, 37, true, false, 1, 1000000000, 0⟩),
    by decide +kernel⟩,
    ⟨({ ((State.reset.p F.TB_CTRL_PROTOCOL 1).on F.TB_UTC_FROM_ANNOUNCE).p F.TB_BMCA_PRIORITY1 255 with tb := { State.reset.tb with parent := none, foreign := [] } }),
    (⟨Config.clockIdentity.toNat + 1, 128, 6, 0x20, 0, 128, 0, true, 37, true, false, 1, 1000000000, 0⟩),
    (⟨Config.clockIdentity.toNat + 1, 128, 6, 0x20, 0, 128, 0, true, 37, true, false, 1, 1000000000, 0⟩),
    ⟨by decide +kernel, rfl, announced_parent, rfl, by decide +kernel, rfl⟩⟩,
    ⟨({ (State.reset.p F.TB_CTRL_PROTOCOL 1) with tb := { State.reset.tb with parent := none, foreign := [⟨⟨7, 128, 6, 0x20, 0, 128, 0, true, 37, true, false, 1, 1000000000, 0⟩, 0, true⟩] } }),
    (1), (7), by decide +kernel⟩,
    ⟨({ (State.reset.p F.TB_CTRL_PROTOCOL 1) with tb := { State.reset.tb with pendingGm := none, parent := some (⟨7, 128, 6, 0x20, 0, 128, 0, true, 37, true, false, 1, 1000000000, 0⟩ : Announce), foreign := [⟨⟨7, 128, 6, 0x20, 0, 128, 0, true, 37, true, false, 1, 1000000000, 0⟩, 0, true⟩, ⟨⟨9, 128, 6, 0x20, 0, 128, 0, true, 37, true, false, 0, 1000000000, 0⟩, 0, true⟩] } }),
    (1), (⟨7, 128, 6, 0x20, 0, 128, 0, true, 37, true, false, 1, 1000000000, 0⟩), by decide +kernel⟩,
    ⟨({ ((State.reset.p F.TB_CTRL_PROTOCOL 1)) with tb := { State.reset.tb with parent := some (⟨7, 128, 6, 0x20, 0, 128, 0, true, 37, true, false, 1, 1000000000, 0⟩ : Announce) }, clk := { State.reset.clk with power := .run } }),
    (⟨7, 128, 6, 0x20, 0, 128, 0, true, 37, true, false, 1, 1000000000, 0⟩), (1), (700), (.twoStep 3 1000 (-2)), (12),
    (1), by decide +kernel⟩,
    ⟨({ ((State.reset.p F.TB_CTRL_PROTOCOL 1).off F.TB_CTRL_SERVO_EN) with tb := { State.reset.tb with parent := some (⟨7, 128, 6, 0x20, 0, 128, 0, true, 37, true, false, 1, 1000000000, 0⟩ : Announce) }, clk := { State.reset.clk with power := .run } }),
    (⟨7, 128, 6, 0x20, 0, 128, 0, true, 37, true, false, 1, 1000000000, 0⟩), (1), (700), (.twoStep 3 1000 (-2)), (12),
    (1), by decide +kernel⟩,
    ⟨({ ((State.reset.p F.TB_CTRL_PROTOCOL 1).on F.TB_CTRL_SERVO_EN) with tb := { State.reset.tb with parent := some (⟨7, 128, 6, 0x20, 0, 128, 0, true, 37, true, false, 1, 1000000000, 0⟩ : Announce) }, clk := { State.reset.clk with power := .run } }),
    (⟨7, 128, 6, 0x20, 0, 128, 0, true, 37, true, false, 1, 1000000000, 0⟩), (1), (700), (.twoStep 3 1000 (-2)), (12),
    (1), by decide +kernel⟩,
    ⟨({ ((State.reset.p F.TB_CTRL_PROTOCOL 1).on F.TB_CTRL_SERVO_EN) with tb := { State.reset.tb with parent := some (⟨7, 128, 6, 0x20, 0, 128, 0, true, 37, true, false, 1, 1000000000, 0⟩ : Announce), afterStep := false }, clk := { State.reset.clk with power := .run } }),
    (⟨7, 128, 6, 0x20, 0, 128, 0, true, 37, true, false, 1, 1000000000, 0⟩), (1), (700), (.twoStep 3 1000 (-2)), (12),
    (1), (clampI (-8589934 * 2 ^ 32) (8589934 * 2 ^ 32) (State.reset.tb.integ + (State.reset.g F.TB_SERVO_KI_KI : Int) *
    State.reset.syncOffset (1 : Fin 2) (700 : Nat) (.twoStep 3 1000 (-2) : SyncTime).value (12 : Int))),
    by decide +kernel⟩,
    ⟨({ ((State.reset.p F.TB_CTRL_PROTOCOL 1).on F.TB_CTRL_SERVO_EN |>.p F.TB_CTRL_STEP_MODE 0 |>.p F.TB_STEP_THR_THR 0) with tb := { State.reset.tb with parent := some (⟨7, 128, 6, 0x20, 0, 128, 0, true, 37, true, false, 1, 1000000000, 0⟩ : Announce), afterStep := false }, clk := { State.reset.clk with power := .run } }),
    (⟨7, 128, 6, 0x20, 0, 128, 0, true, 37, true, false, 1, 1000000000, 0⟩), (1), (700), (.twoStep 3 1000 (-2)), (12),
    (1), by decide +kernel⟩,
    ⟨({ (State.reset.p F.TB_STATUS_SERVO_STATE 2).p F.TB_HOLDOVER_SYNC_LOSS 3 with tb := { State.reset.tb with lastSync := 0, syncIval := 4, ticks := State.reset.tb.ticks + 4 } }),
    by decide +kernel⟩,
    ⟨({ (State.reset.p F.CLK_STATUS_PLL_READY 7) with tb := { State.reset.tb with pendingStep := ([.load 900, .add (-5)] : List CtrStep), stepTick := 0, ticks := State.reset.tb.ticks + 1 } }),
    ([.load 900, .add (-5)]), by decide +kernel⟩,
    ⟨({ State.reset.on F.TB_STATUS_SWITCHING with tb := { State.reset.tb with swTick := 0, ticks := 2000000000 } }),
    by decide +kernel⟩,
    ⟨({ State.reset.on F.TB_STATUS_HOLDOFF with tb := { State.reset.tb with pendingGm := none, holdTick := 0, ticks := 20000000000 } }),
    by decide +kernel⟩,
    ⟨({ State.reset.on F.TB_STATUS_HOLDOFF |>.off F.TB_CTRL_GM_POLICY with tb := { State.reset.tb with pendingGm := some (⟨7, 128, 6, 0x20, 0, 128, 0, true, 37, true, false, 1, 1000000000, 0⟩ : Announce), holdTick := 0, ticks := 20000000000 } }),
    (⟨7, 128, 6, 0x20, 0, 128, 0, true, 37, true, false, 1, 1000000000, 0⟩), by decide +kernel⟩,
    ⟨((((State.reset.p F.TB_CTRL_PROTOCOL 1).p F.TB_BMCA_PRIORITY1 7).p F.TB_CTRL_ROLE 1).on (F.ETH_STATUS_LINK (0 : Fin
    2))), (0), (.sync), by decide +kernel⟩,
    ⟨((State.reset.p F.TB_CTRL_PROTOCOL 1).on (F.ETH_STATUS_LINK (0 : Fin 2))), (0), by decide +kernel⟩⟩

theorem witness_LaunchQueueCommandsTakeEffect :
    (∃ (s : State) (rq : Rq) (q : Fin 16), s.reaches rq (R.LQ_PUSH q) ∧ s.pushErr q (s.staged q) = none ∧ (s.lqOf
      q).entries.any (fun l => l.desc && l.tick == s.tb.ticks) = false) ∧
    (∃ (s : State) (rq : Rq) (q : Fin 16), s.reaches rq (R.LQ_PUSH q)) ∧
    (∃ (s : State) (rq : Rq) (q : Fin 16) (_v : Word), s.reaches rq (R.LQ_CANCEL q) ∧ (s.lqOf q).entries.length ≤ 64 ∧
      (s.lqOf q).refused.any (fun r => r.launch.tick == s.tb.ticks) = false) ∧
    (∃ (s : State) (q : Fin 16) (e : Launch) (rest : List Launch), (s.lqOf q).entries = e :: rest ∧ s.is (F.LQ_CFG_EN q) =
      true ∧ (s.lqOf q).lastTick ≠ some s.tb.ticks ∧ s.outranked q e = false ∧ s.isolated regTime = false ∧ s.now <
      e.time ∧ e.time ≤ s.now + 64 * 65536 ∧ e.rep = false ∧ (e.code ≠ 0x30 ∨ s.portLaunches e.target < 8)) ∧
    (∃ (s : State) (q : Fin 16) (e : Launch) (rest : List Launch), (s.lqOf q).entries = e :: rest ∧ s.is (F.LQ_CFG_EN q) =
      true ∧ (s.lqOf q).lastTick ≠ some s.tb.ticks ∧ s.outranked q e = false ∧ s.isolated regTime = false ∧ e.time ≤
      s.now ∧ (s.is (F.LQ_CFG_LATE_POLICY q) = false ∨ e.code < 16) ∧ e.rep = false ∧ (e.code ≠ 0x30 ∨ s.portLaunches
      e.target < 8)) ∧
    (∃ (s : State) (q : Fin 16) (e : Launch) (rest : List Launch), (s.lqOf q).entries = e :: rest ∧ s.is (F.LQ_CFG_EN q) =
      true ∧ (s.lqOf q).lastTick ≠ some s.tb.ticks ∧ s.outranked q e = false ∧ s.isolated regTime = false ∧ e.time ≤
      s.now ∧ s.is (F.LQ_CFG_LATE_POLICY q) = true ∧ 16 ≤ e.code ∧ e.rep = false) ∧
    (∃ (s : State) (q : Fin 16) (e : Launch) (rest : List Launch), (s.lqOf q).entries = e :: rest ∧ s.is (F.LQ_CFG_EN q) =
      true ∧ (s.lqOf q).lastTick ≠ some s.tb.ticks ∧ s.outranked q e = false ∧ s.isolated regTime = false ∧ s.now <
      e.time ∧ e.time ≤ s.now + 64 * 65536 ∧ e.rep = true ∧ rest.all (fun l => decide (l.time ≤ e.time + s.lqPeriod q))
      = true ∧ (e.code ≠ 0x30 ∨ s.portLaunches e.target < 8)) :=
  ⟨⟨(((State.reset.wr (R.LQ_ENT_CTL (0 : Fin 16)) 0x40).off (F.LQ_STATUS_PARITY (0 : Fin 16))).wr (R.LQ_ENT_NS (0 : Fin
    16)) 0), (.od 0), (0), by decide +kernel⟩,
    ⟨(State.reset), (.od 0), (0), by decide +kernel⟩,
    ⟨({ State.reset with tb := { State.reset.tb with ticks := 7 }, lqs := tabSet (fun _ => QueueSt.reset) State.reset.lqs (0 : Fin 16) { QueueSt.reset with entries := [⟨State.reset.now + 100, 0, 0x20, 0, 0, 0, false, false⟩] } }),
    (.od 0), (0), (0), by decide +kernel⟩,
    ⟨({ State.reset.on (F.LQ_CFG_EN (0 : Fin 16)) with lqs := tabSet (fun _ => QueueSt.reset) State.reset.lqs (0 : Fin 16) { QueueSt.reset with entries := (⟨State.reset.now + 100, 0, 0x20, 0, 0, 0, false, false⟩ : Launch) :: ([] : List Launch) } }),
    (0), (⟨State.reset.now + 100, 0, 0x20, 0, 0, 0, false, false⟩), ([]), by decide +kernel⟩,
    ⟨({ State.reset.on (F.LQ_CFG_EN (0 : Fin 16)) |>.off (F.LQ_CFG_LATE_POLICY (0 : Fin 16)) with lqs := tabSet (fun _ => QueueSt.reset) State.reset.lqs (0 : Fin 16) { QueueSt.reset with entries := (⟨State.reset.now, 0, 0x20, 0, 0, 0, false, false⟩ : Launch) :: ([] : List Launch) } }),
    (0), (⟨State.reset.now, 0, 0x20, 0, 0, 0, false, false⟩), ([]), by decide +kernel⟩,
    ⟨({ State.reset.on (F.LQ_CFG_EN (0 : Fin 16)) |>.on (F.LQ_CFG_LATE_POLICY (0 : Fin 16)) with lqs := tabSet (fun _ => QueueSt.reset) State.reset.lqs (0 : Fin 16) { QueueSt.reset with entries := (⟨State.reset.now, 0, 0x20, 0, 0, 0, false, false⟩ : Launch) :: ([] : List Launch) } }),
    (0), (⟨State.reset.now, 0, 0x20, 0, 0, 0, false, false⟩), ([]), by decide +kernel⟩,
    ⟨({ State.reset.on (F.LQ_CFG_EN (0 : Fin 16)) with lqs := tabSet (fun _ => QueueSt.reset) State.reset.lqs (0 : Fin 16) { QueueSt.reset with entries := (⟨State.reset.now + 100, 0, 0x20, 0, 0, 0, true, false⟩ : Launch) :: ([] : List Launch) } }),
    (0), (⟨State.reset.now + 100, 0, 0x20, 0, 0, 0, true, false⟩), ([]), by decide +kernel⟩⟩

theorem witness_LaunchedActionsExecute :
    (∃ (s : State) (n : Fin 16) (h : Held) (rest : List Held), s.firstDue s.held = some (h, rest) ∧ h.e.code = 0x00 ∧
      h.e.target = n) ∧
    (∃ (s : State) (n : Fin 24) (h : Held) (rest : List Held), s.firstDue s.held = some (h, rest) ∧ h.e.code = 0x01 ∧
      h.e.target = n) ∧
    (∃ (s : State) (j : Fin 32) (h : Held) (rest : List Held), s.firstDue s.held = some (h, rest) ∧ h.e.code = 0x02 ∧
      h.e.target = j) ∧
    (∃ (s : State) (n : Fin 16) (h : Held) (rest : List Held), s.firstDue s.held = some (h, rest) ∧ h.e.code = 0x10 ∧
      h.e.target = n) ∧
    (∃ (s : State) (g : Fin 4) (h : Held) (rest : List Held), s.firstDue s.held = some (h, rest) ∧ h.e.code = 0x11 ∧
      h.e.target = g) ∧
    (∃ (s : State) (n : Fin 24) (h : Held) (rest : List Held), s.firstDue s.held = some (h, rest) ∧ h.e.code = 0x12 ∧
      h.e.target = n) ∧
    (∃ (s : State) (c : Fin 4) (h : Held) (rest : List Held), s.firstDue s.held = some (h, rest) ∧ h.e.code = 0x13 ∧
      h.e.target = c) ∧
    (∃ (s : State) (n : Fin 16) (h : Held) (rest : List Held), s.firstDue s.held = some (h, rest) ∧ h.e.code = 0x20 ∧
      h.e.target = n) ∧
    (∃ (s : State) (n : Fin 16) (h : Held) (rest : List Held), s.firstDue s.held = some (h, rest) ∧ h.e.code = 0x21 ∧
      h.e.target = n) ∧
    (∃ (s : State) (j : Fin 32) (h : Held) (rest : List Held), s.firstDue s.held = some (h, rest) ∧ h.e.code = 0x22 ∧
      h.e.target = j) ∧
    (∃ (s : State) (p : Fin 2) (h : Held) (rest : List Held), s.firstDue s.held = some (h, rest) ∧ h.e.code = 0x30 ∧
      h.e.target = p) ∧
    (∃ (s : State) (c : Fin 4) (_idle : Bool) (h : Held) (rest : List Held), s.firstDue s.held = some (h, rest) ∧ h.e.code =
      0x31 ∧ h.e.target = c) ∧
    (∃ (s : State) (e : Fin 64) (h : Held) (rest : List Held), s.firstDue s.held = some (h, rest) ∧ h.e.code = 0x40 ∧
      h.e.target = e) ∧
    (∃ (s : State) (c : Fin 4) (h : Held) (rest : List Held), s.firstDue s.held = some (h, rest) ∧ h.e.code = 0x41 ∧
      h.e.target = c) :=
  ⟨⟨({ State.reset with held := [⟨⟨0, 0, 0x00, (0 : Fin 16), 1, 0, false, false⟩, true, 0, 0, 0⟩], tb := { State.reset.tb with ticks := 100 } }),
    (0), (⟨⟨0, 0, 0x00, (0 : Fin 16), 1, 0, false, false⟩, true, 0, 0, 0⟩), ([]), by decide +kernel⟩,
    ⟨({ State.reset with held := [⟨⟨0, 0, 0x01, (0 : Fin 24), 1, 0, false, false⟩, true, 0, 0, 0⟩], tb := { State.reset.tb with ticks := 100 } }),
    (0), (⟨⟨0, 0, 0x01, (0 : Fin 24), 1, 0, false, false⟩, true, 0, 0, 0⟩), ([]), by decide +kernel⟩,
    ⟨({ State.reset with held := [⟨⟨0, 0, 0x02, (0 : Fin 32), 1, 0, false, false⟩, true, 0, 0, 0⟩], tb := { State.reset.tb with ticks := 100 } }),
    (0), (⟨⟨0, 0, 0x02, (0 : Fin 32), 1, 0, false, false⟩, true, 0, 0, 0⟩), ([]), by decide +kernel⟩,
    ⟨({ State.reset with held := [⟨⟨0, 0, 0x10, (0 : Fin 16), 1, 0, false, false⟩, true, 0, 0, 0⟩], tb := { State.reset.tb with ticks := 100 } }),
    (0), (⟨⟨0, 0, 0x10, (0 : Fin 16), 1, 0, false, false⟩, true, 0, 0, 0⟩), ([]), by decide +kernel⟩,
    ⟨({ State.reset with held := [⟨⟨0, 0, 0x11, (0 : Fin 4), 1, 0, false, false⟩, true, 0, 0, 0⟩], tb := { State.reset.tb with ticks := 100 } }),
    (0), (⟨⟨0, 0, 0x11, (0 : Fin 4), 1, 0, false, false⟩, true, 0, 0, 0⟩), ([]), by decide +kernel⟩,
    ⟨({ State.reset with held := [⟨⟨0, 0, 0x12, (0 : Fin 24), 1, 0, false, false⟩, true, 0, 0, 0⟩], tb := { State.reset.tb with ticks := 100 } }),
    (0), (⟨⟨0, 0, 0x12, (0 : Fin 24), 1, 0, false, false⟩, true, 0, 0, 0⟩), ([]), by decide +kernel⟩,
    ⟨({ State.reset with held := [⟨⟨0, 0, 0x13, (0 : Fin 4), 1, 0, false, false⟩, true, 0, 0, 0⟩], tb := { State.reset.tb with ticks := 100 } }),
    (0), (⟨⟨0, 0, 0x13, (0 : Fin 4), 1, 0, false, false⟩, true, 0, 0, 0⟩), ([]), by decide +kernel⟩,
    ⟨({ State.reset with held := [⟨⟨0, 0, 0x20, (0 : Fin 16), 1, 0, false, false⟩, true, 0, 0, 0⟩], tb := { State.reset.tb with ticks := 100 } }),
    (0), (⟨⟨0, 0, 0x20, (0 : Fin 16), 1, 0, false, false⟩, true, 0, 0, 0⟩), ([]), by decide +kernel⟩,
    ⟨({ State.reset with held := [⟨⟨0, 0, 0x21, (0 : Fin 16), 1, 0, false, false⟩, true, 0, 0, 0⟩], tb := { State.reset.tb with ticks := 100 } }),
    (0), (⟨⟨0, 0, 0x21, (0 : Fin 16), 1, 0, false, false⟩, true, 0, 0, 0⟩), ([]), by decide +kernel⟩,
    ⟨({ State.reset with held := [⟨⟨0, 0, 0x22, (0 : Fin 32), 1, 0, false, false⟩, true, 0, 0, 0⟩], tb := { State.reset.tb with ticks := 100 } }),
    (0), (⟨⟨0, 0, 0x22, (0 : Fin 32), 1, 0, false, false⟩, true, 0, 0, 0⟩), ([]), by decide +kernel⟩,
    ⟨({ State.reset with held := [⟨⟨0, 0, 0x30, (0 : Fin 2), 1, 0, false, false⟩, true, 0, 0, 0⟩], tb := { State.reset.tb with ticks := 100 } }),
    (0), (⟨⟨0, 0, 0x30, (0 : Fin 2), 1, 0, false, false⟩, true, 0, 0, 0⟩), ([]), by decide +kernel⟩,
    ⟨({ State.reset with held := [⟨⟨0, 0, 0x31, (0 : Fin 4), 1, 0, false, false⟩, true, 0, 0, 0⟩], tb := { State.reset.tb with ticks := 100 } }),
    (0), (true), (⟨⟨0, 0, 0x31, (0 : Fin 4), 1, 0, false, false⟩, true, 0, 0, 0⟩), ([]), by decide +kernel⟩,
    ⟨({ State.reset with held := [⟨⟨0, 0, 0x40, (0 : Fin 64), 1, 0, false, false⟩, true, 0, 0, 0⟩], tb := { State.reset.tb with ticks := 100 } }),
    (0), (⟨⟨0, 0, 0x40, (0 : Fin 64), 1, 0, false, false⟩, true, 0, 0, 0⟩), ([]), by decide +kernel⟩,
    ⟨({ State.reset with held := [⟨⟨0, 0, 0x41, (0 : Fin 4), 1, 0, false, false⟩, true, 0, 0, 0⟩], tb := { State.reset.tb with ticks := 100 } }),
    (0), (⟨⟨0, 0, 0x41, (0 : Fin 4), 1, 0, false, false⟩, true, 0, 0, 0⟩), ([]), by decide +kernel⟩⟩

theorem witness_LaunchedActionsHaveTheirEffect :
    (∃ (s : State) (n : Fin 16) (h : Held) (rest : List Held), s.firstDue s.held = some (h, rest) ∧ h.e.code = 0x00 ∧
      h.e.target = n) ∧
    (∃ (s : State) (n : Fin 24) (h : Held) (rest : List Held), s.firstDue s.held = some (h, rest) ∧ h.e.code = 0x01 ∧
      h.e.target = n) ∧
    (∃ (s : State) (j : Fin 32) (h : Held) (rest : List Held), s.firstDue s.held = some (h, rest) ∧ h.e.code = 0x02 ∧
      h.e.target = j ∧ s.isolated regField = false ∧ s.regHeld s.fio.regClr j = false) ∧
    (∃ (s : State) (n : Fin 16) (h : Held) (rest : List Held), s.firstDue s.held = some (h, rest) ∧ h.e.code = 0x10 ∧
      h.e.target = n ∧ getBits h.e.arg 0 1 = 1 ∧ s.is (F.AX_CS_CFG_EN n) = true ∧ s.sdRuns (n / 4) = true ∧ (s.csOf
      n).win = none) ∧
    (∃ (s : State) (n : Fin 16) (w : CsWin) (h : Held) (rest : List Held), s.firstDue s.held = some (h, rest) ∧ h.e.code =
      0x10 ∧ h.e.target = n ∧ getBits h.e.arg 0 1 = 1 ∧ (s.csOf n).win = some w) ∧
    (∃ (s : State) (n : Fin 16) (h : Held) (rest : List Held), s.firstDue s.held = some (h, rest) ∧ h.e.code = 0x10 ∧
      h.e.target = n ∧ getBits h.e.arg 1 1 = 1 ∧ s.fbEn n = true ∧ s.is (F.AX_FB_STATUS_LENT n) = false ∧ s.supplies n =
      true ∧ (s.fbOf n).stopped = false ∧ (s.g (F.AX_FB_CFG_SEC_SRC n) = 2 → s.g (F.AX_FB_CFG_SEC_CH n) ≠ n.val)) ∧
    (∃ (s : State) (g : Fin 4) (h : Held) (rest : List Held), s.firstDue s.held = some (h, rest) ∧ h.e.code = 0x11 ∧
      h.e.target = g ∧ s.is (F.GLB_DL_CFG_EN g) = true ∧ s.sdRuns g = true ∧ (s.dlOf g).win = none) ∧
    (∃ (s : State) (g : Fin 4) (h : Held) (rest : List Held), s.firstDue s.held = some (h, rest) ∧ h.e.code = 0x11 ∧
      h.e.target = g ∧ (s.dlOf g).win.isSome = true) ∧
    (∃ (s : State) (n : Fin 24) (h : Held) (rest : List Held), s.firstDue s.held = some (h, rest) ∧ h.e.code = 0x12 ∧
      h.e.target = n) ∧
    (∃ (s : State) (c : Fin 4) (h : Held) (rest : List Held), s.firstDue s.held = some (h, rest) ∧ h.e.code = 0x13 ∧
      h.e.target = c ∧ s.capRuns c = true ∧ s.g (F.CS_CFG_SRC c) = 1) ∧
    (∃ (s : State) (n : Fin 16) (h : Held) (rest : List Held), s.firstDue s.held = some (h, rest) ∧ h.e.code = 0x20 ∧
      h.e.target = n ∧ s.isolated regTime = false ∧ s.pwmState n = 1) ∧
    (∃ (s : State) (n : Fin 16) (h : Held) (rest : List Held), s.firstDue s.held = some (h, rest) ∧ h.e.code = 0x20 ∧
      h.e.target = n ∧ s.isolated regTime = false ∧ s.pwmState n = 2) ∧
    (∃ (s : State) (n : Fin 16) (h : Held) (rest : List Held), s.firstDue s.held = some (h, rest) ∧ h.e.code = 0x20 ∧
      h.e.target = n ∧ s.isolated regTime = false ∧ s.pwmState n ≠ 1 ∧ s.pwmState n ≠ 2) ∧
    (∃ (s : State) (n : Fin 16) (h : Held) (rest : List Held), s.firstDue s.held = some (h, rest) ∧ h.e.code = 0x21 ∧
      h.e.target = n ∧ s.g (F.AX_PWM_MASK_CFG_SRC n) ≠ 2) ∧
    (∃ (s : State) (n : Fin 16) (l : Nat) (h : Held) (rest : List Held), s.firstDue s.held = some (h, rest) ∧ h.e.code =
      0x21 ∧ h.e.target = n ∧ s.g (F.AX_PWM_MASK_CFG_SRC n) = 2 ∧ s.pwmState n ≠ 2 ∧ (s.pwmOf n).mode = true ∧
      s.maskDown n = false ∧ l = effLength (s.g (F.AX_PWM_MASK_CFG_LENGTH n))) ∧
    (∃ (s : State) (j : Fin 32) (h : Held) (rest : List Held), s.firstDue s.held = some (h, rest) ∧ h.e.code = 0x22 ∧
      h.e.target = j ∧ s.isolated regField = false ∧ s.regHeld s.fio.regOut j = false) ∧
    (∃ (s : State) (p : Fin 2) (h : Held) (rest : List Held), s.firstDue s.held = some (h, rest) ∧ h.e.code = 0x30 ∧
      h.e.target = p ∧ s.is (F.ETH_STATUS_LINK p) = false) ∧
    (∃ (s : State) (p : Fin 2) (h : Held) (rest : List Held), s.firstDue s.held = some (h, rest) ∧ h.e.code = 0x30 ∧
      h.e.target = p ∧ s.is (F.ETH_STATUS_LINK p) = true ∧ s.g (F.ETH_SLOT_CFG_SRC p (getBits h.e.arg 0 5)) = 0 ∧
      (s.ethOf p).launches.length < 8) ∧
    (∃ (s : State) (p : Fin 2) (f : TxFrame) (h : Held) (rest : List Held), s.firstDue s.held = some (h, rest) ∧ h.e.code =
      0x30 ∧ h.e.target = p ∧ s.is (F.ETH_STATUS_LINK p) = true ∧ s.g (F.ETH_SLOT_CFG_SRC p (getBits h.e.arg 0 5)) = 0 ∧
      (s.ethOf p).launches.length = 8 ∧ (s.ethOf p).cur = some f ∧ s.preemptable p f.tc = false) ∧
    (∃ (s : State) (c : Fin 4) (_idle : Bool) (h : Held) (rest : List Held), s.firstDue s.held = some (h, rest) ∧ h.e.code =
      0x31 ∧ h.e.target = c ∧ s.ebPending c (getBits h.e.arg 0 5) = true) ∧
    (∃ (s : State) (c : Fin 4) (_idle : Bool) (h : Held) (rest : List Held), s.firstDue s.held = some (h, rest) ∧ h.e.code =
      0x31 ∧ h.e.target = c ∧ s.ebPending c (getBits h.e.arg 0 5) = false ∧ s.fdRefused c (canEb c (getBits h.e.arg 0 5)
      0) = false) ∧
    (∃ (s : State) (e : Fin 64) (h : Held) (rest : List Held), s.firstDue s.held = some (h, rest) ∧ h.e.code = 0x40 ∧
      h.e.target = e) ∧
    (∃ (s : State) (c : Fin 4) (i : Fin 8) (h : Held) (rest : List Held), s.firstDue s.held = some (h, rest) ∧ h.e.code =
      0x41 ∧ h.e.target = c ∧ s.capRuns c = true ∧ s.g (F.CS_TRG_CFG_KIND c i) = 6) :=
  ⟨⟨({ (State.reset.on (F.AX_PWM_CTL_OUT_EN (0 : Fin 16))) with held := [⟨⟨0, 0, 0x00, (0 : Fin 16), 1, 0, false, false⟩, true, 0, 0, 0⟩], tb := { State.reset.tb with ticks := 100 } }),
    (0), (⟨⟨0, 0, 0x00, (0 : Fin 16), 1, 0, false, false⟩, true, 0, 0, 0⟩), ([]), by decide +kernel⟩,
    ⟨({ (State.reset.on (F.AUX_CTL_OUT_EN (0 : Fin 24))) with held := [⟨⟨0, 0, 0x01, (0 : Fin 24), 1, 0, false, false⟩, true, 0, 0, 0⟩], tb := { State.reset.tb with ticks := 100 } }),
    (0), (⟨⟨0, 0, 0x01, (0 : Fin 24), 1, 0, false, false⟩, true, 0, 0, 0⟩), ([]), by decide +kernel⟩,
    ⟨({ (State.reset) with held := [⟨⟨0, 0, 0x02, (0 : Fin 32), 1, 0, false, false⟩, true, 0, 0, 0⟩], tb := { State.reset.tb with ticks := 100 } }),
    (0), (⟨⟨0, 0, 0x02, (0 : Fin 32), 1, 0, false, false⟩, true, 0, 0, 0⟩), ([]), by decide +kernel⟩,
    ⟨({ (State.reset.on (F.AX_CS_CFG_EN (0 : Fin 16)) |>.p F.GLB_SDCLK_CFG_EN 15) with held := [⟨⟨0, 0, 0x10, (0 : Fin 16), 1, 0, false, false⟩, true, 0, 0, 0⟩], tb := { State.reset.tb with ticks := 100 } }),
    (0), (⟨⟨0, 0, 0x10, (0 : Fin 16), 1, 0, false, false⟩, true, 0, 0, 0⟩), ([]), by decide +kernel⟩,
    ⟨({ ((State.reset.on (F.AX_CS_CFG_EN (0 : Fin 16))).setCs (0 : Fin 16) { State.reset.csOf (0 : Fin 16) with win := some (⟨0, 0, [], 0⟩ : CsWin) }) with held := [⟨⟨0, 0, 0x10, (0 : Fin 16), 1, 0, false, false⟩, true, 0, 0, 0⟩], tb := { State.reset.tb with ticks := 100 } }),
    (0), (⟨0, 0, [], 0⟩), (⟨⟨0, 0, 0x10, (0 : Fin 16), 1, 0, false, false⟩, true, 0, 0, 0⟩), ([]), by decide +kernel⟩,
    ⟨({ (((State.reset.on (F.AX_FB_CFG_EN (0 : Fin 16))).p (F.AX_FB_CFG_INC_MODE (0 : Fin 16)) 1).p (F.AX_FB_CFG_PRIMARY (0 : Fin 16)) 0) with held := [⟨⟨0, 0, 0x10, (0 : Fin 16), 2, 0, false, false⟩, true, 0, 0, 0⟩], tb := { State.reset.tb with ticks := 100 } }),
    (0), (⟨⟨0, 0, 0x10, (0 : Fin 16), 2, 0, false, false⟩, true, 0, 0, 0⟩), ([]), by decide +kernel⟩,
    ⟨({ (State.reset.on (F.GLB_DL_CFG_EN (0 : Fin 4)) |>.p F.GLB_SDCLK_CFG_EN 15) with held := [⟨⟨0, 0, 0x11, (0 : Fin 4), 1, 0, false, false⟩, true, 0, 0, 0⟩], tb := { State.reset.tb with ticks := 100 } }),
    (0), (⟨⟨0, 0, 0x11, (0 : Fin 4), 1, 0, false, false⟩, true, 0, 0, 0⟩), ([]), by decide +kernel⟩,
    ⟨({ ((State.reset.on (F.GLB_DL_CFG_EN (0 : Fin 4))).setDl (0 : Fin 4) { State.reset.dlOf (0 : Fin 4) with win := some (0, 0, 0) }) with held := [⟨⟨0, 0, 0x11, (0 : Fin 4), 1, 0, false, false⟩, true, 0, 0, 0⟩], tb := { State.reset.tb with ticks := 100 } }),
    (0), (⟨⟨0, 0, 0x11, (0 : Fin 4), 1, 0, false, false⟩, true, 0, 0, 0⟩), ([]), by decide +kernel⟩,
    ⟨({ (State.reset) with held := [⟨⟨0, 0, 0x12, (0 : Fin 24), 1, 0, false, false⟩, true, 0, 0, 0⟩], tb := { State.reset.tb with ticks := 100 } }),
    (0), (⟨⟨0, 0, 0x12, (0 : Fin 24), 1, 0, false, false⟩, true, 0, 0, 0⟩), ([]), by decide +kernel⟩,
    ⟨({ ((State.reset.p (F.CS_STATUS_STATE (0 : Fin 4)) 1).p (F.CS_CFG_SRC (0 : Fin 4)) 1) with held := [⟨⟨0, 0, 0x13, (0 : Fin 4), 1, 0, false, false⟩, true, 0, 0, 0⟩], tb := { State.reset.tb with ticks := 100 } }),
    (0), (⟨⟨0, 0, 0x13, (0 : Fin 4), 1, 0, false, false⟩, true, 0, 0, 0⟩), ([]), by decide +kernel⟩,
    ⟨({ (State.reset.p (F.AX_PWM_STATUS_STATE (0 : Fin 16)) 1) with held := [⟨⟨0, 0, 0x20, (0 : Fin 16), 1, 0, false, false⟩, true, 0, 0, 0⟩], tb := { State.reset.tb with ticks := 100 } }),
    (0), (⟨⟨0, 0, 0x20, (0 : Fin 16), 1, 0, false, false⟩, true, 0, 0, 0⟩), ([]), by decide +kernel⟩,
    ⟨({ (State.reset.p (F.AX_PWM_STATUS_STATE (0 : Fin 16)) 2) with held := [⟨⟨0, 0, 0x20, (0 : Fin 16), 1, 0, false, false⟩, true, 0, 0, 0⟩], tb := { State.reset.tb with ticks := 100 } }),
    (0), (⟨⟨0, 0, 0x20, (0 : Fin 16), 1, 0, false, false⟩, true, 0, 0, 0⟩), ([]), by decide +kernel⟩,
    ⟨({ (State.reset.p (F.AX_PWM_STATUS_STATE (0 : Fin 16)) 0) with held := [⟨⟨0, 0, 0x20, (0 : Fin 16), 1, 0, false, false⟩, true, 0, 0, 0⟩], tb := { State.reset.tb with ticks := 100 } }),
    (0), (⟨⟨0, 0, 0x20, (0 : Fin 16), 1, 0, false, false⟩, true, 0, 0, 0⟩), ([]), by decide +kernel⟩,
    ⟨({ (State.reset.p (F.AX_PWM_MASK_CFG_SRC (0 : Fin 16)) 0) with held := [⟨⟨0, 0, 0x21, (0 : Fin 16), 1, 0, false, false⟩, true, 0, 0, 0⟩], tb := { State.reset.tb with ticks := 100 } }),
    (0), (⟨⟨0, 0, 0x21, (0 : Fin 16), 1, 0, false, false⟩, true, 0, 0, 0⟩), ([]), by decide +kernel⟩,
    ⟨({ (((State.reset.p (F.AX_PWM_MASK_CFG_SRC (0 : Fin 16)) 2).p (F.AX_PWM_STATUS_STATE (0 : Fin 16)) 0).setPwm (0 : Fin 16) { State.reset.pwmOf (0 : Fin 16) with mode := true }) with held := [⟨⟨0, 0, 0x21, (0 : Fin 16), 1, 0, false, false⟩, true, 0, 0, 0⟩], tb := { State.reset.tb with ticks := 100 } }),
    (0), (effLength (State.reset.g (F.AX_PWM_MASK_CFG_LENGTH (0 : Fin 16)))), (⟨⟨0, 0, 0x21, (0 : Fin 16), 1, 0, false,
    false⟩, true, 0, 0, 0⟩), ([]), by decide +kernel⟩,
    ⟨({ (State.reset) with held := [⟨⟨0, 0, 0x22, (0 : Fin 32), 1, 0, false, false⟩, true, 0, 0, 0⟩], tb := { State.reset.tb with ticks := 100 } }),
    (0), (⟨⟨0, 0, 0x22, (0 : Fin 32), 1, 0, false, false⟩, true, 0, 0, 0⟩), ([]), by decide +kernel⟩,
    ⟨({ (State.reset) with held := [⟨⟨0, 0, 0x30, (0 : Fin 2), 1, 0, false, false⟩, true, 0, 0, 0⟩], tb := { State.reset.tb with ticks := 100 } }),
    (0), (⟨⟨0, 0, 0x30, (0 : Fin 2), 1, 0, false, false⟩, true, 0, 0, 0⟩), ([]), by decide +kernel⟩,
    ⟨({ (State.reset.on (F.ETH_STATUS_LINK (0 : Fin 2))) with held := [⟨⟨0, 0, 0x30, (0 : Fin 2), 1, 0, false, false⟩, true, 0, 0, 0⟩], tb := { State.reset.tb with ticks := 100 } }),
    (0), (⟨⟨0, 0, 0x30, (0 : Fin 2), 1, 0, false, false⟩, true, 0, 0, 0⟩), ([]), by decide +kernel⟩,
    ⟨({ ((State.reset.on (F.ETH_STATUS_LINK (0 : Fin 2))).setEth (0 : Fin 2) { State.reset.ethOf (0 : Fin 2) with cur := some (⟨[], 0, none, none, 0, false⟩ : TxFrame), launches := List.replicate 8 ⟨[], 0, some (0, 0), none, 0, false⟩ }) with held := [⟨⟨0, 0, 0x30, (0 : Fin 2), 1, 0, false, false⟩, true, 0, 0, 0⟩], tb := { State.reset.tb with ticks := 100 } }),
    (0), (⟨[], 0, none, none, 0, false⟩), (⟨⟨0, 0, 0x30, (0 : Fin 2), 1, 0, false, false⟩, true, 0, 0, 0⟩), ([]),
    by decide +kernel⟩,
    ⟨({ (State.reset.wr (R.CAN_TXB_REQ (0 : Fin 4)) 2) with held := [⟨⟨0, 0, 0x31, (0 : Fin 4), 1, 0, false, false⟩, true, 0, 0, 0⟩], tb := { State.reset.tb with ticks := 100 } }),
    (0), (true), (⟨⟨0, 0, 0x31, (0 : Fin 4), 1, 0, false, false⟩, true, 0, 0, 0⟩), ([]), by decide +kernel⟩,
    ⟨({ (State.reset) with held := [⟨⟨0, 0, 0x31, (0 : Fin 4), 1, 0, false, false⟩, true, 0, 0, 0⟩], tb := { State.reset.tb with ticks := 100 } }),
    (0), (true), (⟨⟨0, 0, 0x31, (0 : Fin 4), 1, 0, false, false⟩, true, 0, 0, 0⟩), ([]), by decide +kernel⟩,
    ⟨({ (State.reset) with held := [⟨⟨0, 0, 0x40, (0 : Fin 64), 1, 0, false, false⟩, true, 0, 0, 0⟩], tb := { State.reset.tb with ticks := 100 } }),
    (0), (⟨⟨0, 0, 0x40, (0 : Fin 64), 1, 0, false, false⟩, true, 0, 0, 0⟩), ([]), by decide +kernel⟩,
    ⟨({ ((State.reset.p (F.CS_STATUS_STATE (0 : Fin 4)) 1).p (F.CS_TRG_CFG_KIND (0 : Fin 4) (0 : Fin 8)) 6) with held := [⟨⟨0, 0, 0x41, (0 : Fin 4), 1, 0, false, false⟩, true, 0, 0, 0⟩], tb := { State.reset.tb with ticks := 100 } }),
    (0), (0), (⟨⟨0, 0, 0x41, (0 : Fin 4), 1, 0, false, false⟩, true, 0, 0, 0⟩), ([]), by decide +kernel⟩⟩

theorem witness_PwmUnitCommandsTakeEffect :
    (∃ (s : State) (rq : Rq) (n : Fin 16), s.reaches rq (R.AX_PWM_CTL n) ∧ s.clk.down.contains 8 = false ∧ s.pwmState n = 0
      ∧ periodOk (s.cntMode n) (s.g (F.AX_PWM_PERIOD_PERIOD n)) = true ∧ s.is (F.AX_FB_STATUS_LENT n) = false ∧
      s.armHeld = false ∧ (s.pwmOf n).ask = none) ∧
    (∃ (s : State) (rq : Rq) (n : Fin 16), s.reaches rq (R.AX_PWM_CTL n) ∧ s.clk.down.contains 8 = false ∧ s.pwmState n ≠ 0
      ∧ (s.pwmOf n).ask = none) ∧
    (∃ (s : State) (rq : Rq) (n : Fin 16), s.reaches rq (R.AX_PWM_CTL n) ∧ s.clk.down.contains 8 = false ∧ s.pwmState n = 1
      ∧ s.is (F.AX_PWM_CTL_ARM n) = true ∧ (s.pwmOf n).ask = none) ∧
    (∃ (s : State) (rq : Rq) (n : Fin 16), s.reaches rq (R.AX_PWM_CTL n) ∧ s.clk.down.contains 8 = false ∧ (s.pwmState n ≠
      0 ∨ s.is (F.AX_PWM_CTL_ARM n) = false) ∧ s.enableHeld n = false) ∧
    (∃ (s : State) (rq : Rq) (n : Fin 16), s.reaches rq (R.AX_PWM_CTL n) ∧ s.clk.down.contains 8 = false ∧ (s.pwmState n ≠
      0 ∨ s.is (F.AX_PWM_CTL_ARM n) = false)) ∧
    (∃ (s : State) (rq : Rq) (n : Fin 16) (i : Fin 8) (_v : Word), s.reaches rq (R.AX_PWM_MASK n i)) ∧
    (∃ (s : State) (rq : Rq) (n : Fin 16) (v : Word), s.reaches rq (R.AX_PWM_MASK_CFG n) ∧ getBits v 4 3 < effLength
      (getBits v 0 4) ∧ getBits v 8 2 ≠ 3) ∧
    (∃ (s : State) (rq : Rq) (n : Fin 16) (_v : Word), s.reaches rq (R.AX_PWM_ALIGN n)) ∧
    (∃ (s : State) (rq : Rq) (n : Fin 16) (v : Word), s.reaches rq (R.AX_PWM_CFG n) ∧ getBits v 0 2 ≠ 3 ∧ getBits v 2 2 ≠ 3
      ∧ s.pwmState n = 0) ∧
    (∃ (s : State) (rq : Rq) (n : Fin 16) (v : Word), s.reaches rq (R.AX_PWM_CFG n) ∧ getBits v 2 2 ≠ 3 ∧ getBits v 0 2 =
      s.cntMode n ∧ getBits v 4 2 = s.axGroup n ∧ getBits v 6 1 = s.g (F.AX_PWM_CFG_ADAPT_EN n) ∧ s.cntMode n ≠ 3) ∧
    (∃ (s : State) (rq : Rq) (n : Fin 16) (v : Word), s.reaches rq (R.AX_PWM_DT_CFG n) ∧ getBits v 0 9 ≤ getBits v 16 9) ∧
    (∃ (s : State) (rq : Rq) (n : Fin 16) (v : Word), s.reaches rq (R.AX_PWM_EVT_CFG n) ∧ getBits v 20 2 ≠ 3) :=
  ⟨⟨({ (((State.reset.off (F.AX_PWM_STATUS_STATE (0 : Fin 16))).off (F.AX_FB_STATUS_LENT (0 : Fin 16))).wr (R.AX_PWM_PERIOD (0 : Fin 16)) 100000) with clk := { State.reset.clk with down := [] } }),
    (.od 0), (0), by decide +kernel⟩,
    ⟨({ ((State.reset.p (F.AX_PWM_STATUS_STATE (0 : Fin 16)) 2).on (F.AX_PWM_CTL_ARM (0 : Fin 16))) with clk := { State.reset.clk with down := [] } }),
    (.od 0), (0), by decide +kernel⟩,
    ⟨({ ((State.reset.p (F.AX_PWM_STATUS_STATE (0 : Fin 16)) 1).on (F.AX_PWM_CTL_ARM (0 : Fin 16))) with clk := { State.reset.clk with down := [] } }),
    (.od 0), (0), by decide +kernel⟩,
    ⟨({ (((((State.reset.p (F.AX_PWM_STATUS_STATE (0 : Fin 16)) 1).on (F.AX_PWM_CTL_ARM (0 : Fin 16))).off (F.AX_PWM_STATUS_FAULT (0 : Fin 16))).off (F.AX_PWM_STATUS_LAUNCH_OFF (0 : Fin 16))).off F.SAF_LOCK_DEVICE) with clk := { State.reset.clk with down := [] } }),
    (.od 0), (0), by decide +kernel⟩,
    ⟨({ ((((State.reset.p (F.AX_PWM_STATUS_STATE (0 : Fin 16)) 1).on (F.AX_PWM_CTL_ARM (0 : Fin 16))).on (F.AX_PWM_STATUS_FAULT (0 : Fin 16))).on (F.AX_PWM_STATUS_LAUNCH_OFF (0 : Fin 16))) with clk := { State.reset.clk with down := [] } }),
    (.od 0), (0), by decide +kernel⟩,
    ⟨(State.reset), (.od 0), (0), (0), (5), by decide +kernel⟩,
    ⟨(State.reset), (.od 0), (0), (0x136), by decide +kernel⟩,
    ⟨(State.reset), (.od 0), (0), (5), by decide +kernel⟩,
    ⟨(State.reset.off (F.AX_PWM_STATUS_STATE (0 : Fin 16))), (.od 0), (0), (0x56), by decide +kernel⟩,
    ⟨(((State.reset.p (F.AX_PWM_STATUS_STATE (0 : Fin 16)) 2).p (F.AX_PWM_CFG_CNT_MODE (0 : Fin 16)) 1)), (.od 0), (0),
    (BitVec.ofNat 32 (1 + 8 + 16 * State.reset.axGroup (0 : Fin 16) + 64 * State.reset.g (F.AX_PWM_CFG_ADAPT_EN (0 : Fin
    16)))), by decide +kernel⟩,
    ⟨(State.reset), (.od 0), (0), (0x00100010), by decide +kernel⟩,
    ⟨(State.reset), (.od 0), (0), (0x07200000), by decide +kernel⟩⟩

theorem witness_PwmEventsTakeEffect :
    (∃ (s : State) (n : Fin 16) (zero : Bool), s.pointDue n zero = true) ∧
    (∃ (s : State) (n : Fin 16), s.pointDue n true = true ∧ s.is (F.AX_PWM_SHADOW_HOLD n) = false ∧ (s.pwmOf n).holdBack =
      false ∧ (s.pwmOf n).first = false ∧ periodOk (s.cntMode n) (s.shadows n).period = true) ∧
    (∃ (s : State) (n : Fin 16) (zero : Bool), s.pointDue n zero = true ∧ s.isUpdate n zero = true ∧ s.is
      (F.AX_PWM_SHADOW_HOLD n) = false ∧ (s.pwmOf n).first = false) ∧
    (∃ (s : State) (n : Fin 16) (value : Nat) (_up : Bool) (x : Fin 3), s.running n = true ∧ value ≠ 0 ∧ value < (s.pwmOf
      n).period ∧ (s.pwmOf n).eff x = value ∧ (s.pwmOf n).want.length = 3) ∧
    (∃ (s : State) (n : Fin 16) (w : Fin 6) (_pos : Nat) (_up : Bool), s.running n = true ∧ (s.pwmOf n).wait.getD w false =
      true ∧ s.g (F.AX_PWM_DT_GUARD_MIN_PULSE n) = 0 ∧ (s.pwmOf n).on.length = 6) ∧
    (∃ (s : State) (n : Fin 16) (w : Fin 6) (_pos : Nat) (_up : Bool), s.running n = true ∧ (s.pwmOf n).wait.getD w false =
      true ∧ s.is (F.AX_PWM_SHADOW_HOLD n) = true ∧ (s.pwmOf n).on.length = 6) ∧
    (∃ (s : State) (n : Fin 16) (x : Fin 3) (rise : Bool) (_delay : Nat), s.running n = true ∧ (s.pwmOf n).wait.getD (2 * x
      + bit (!rise)) false = true ∧ (s.pwmOf n).measured.length = 6) ∧
    (∃ (s : State) (n : Fin 16) (d : Fin 6), s.running n = true ∧ 8 ≤ (s.pwmOf n).noMeas.getD d 0 ∧ testBit (s.g
      (F.AX_PWM_STATUS_DT_FALLBACK n)) d = false) ∧
    (∃ (s : State) (n : Fin 16), s.running n = true ∧ (s.pwmOf n).mode = true ∧ (s.pwmOf n).alignRun = true ∧ s.g
      (F.AX_PWM_MASK_CFG_SRC n) = 0 ∧ s.g (F.AX_PWM_ALIGN_COUNT n) ≠ 0 ∧ (s.pwmOf n).alignLeft = 1 ∧ (s.pwmOf
      n).alignTick + s.g (F.AX_PWM_ALIGN_INTERVAL n) * 250 ≤ s.tb.ticks ∧ s.pointDue n true = false ∧ s.pointDue n false
      = false) ∧
    (∃ (s : State) (n : Fin 16), s.running n = true ∧ (s.pwmOf n).mode = true ∧ (s.pwmOf n).alignRun = true ∧ s.g
      (F.AX_PWM_MASK_CFG_SRC n) = 0 ∧ (s.g (F.AX_PWM_ALIGN_COUNT n) = 0 ∨ 1 < (s.pwmOf n).alignLeft) ∧ (s.pwmOf
      n).alignTick + s.g (F.AX_PWM_ALIGN_INTERVAL n) * 250 ≤ s.tb.ticks ∧ s.maskDown n = false ∧ s.pointDue n true =
      false ∧ s.pointDue n false = false) ∧
    (∃ (s : State) (n : Fin 16) (h : Held) (rest : List Held), s.firstDue s.held = some (h, rest) ∧ h.e.code = 0x20 ∧
      h.e.target = n ∧ s.isolated regTime = false ∧ s.pwmState n = 1) ∧
    (∃ (s : State) (n : Fin 16) (h : Held) (rest : List Held), s.firstDue s.held = some (h, rest) ∧ h.e.code = 0x21 ∧
      h.e.target = n ∧ s.pointDue n true = false ∧ s.pointDue n false = false ∧ s.g (F.AX_PWM_MASK_CFG_SRC n) ≠ 2) ∧
    (∃ (s : State) (n : Fin 16) (h : Held) (rest : List Held), s.firstDue s.held = some (h, rest) ∧ h.e.code = 0x21 ∧
      h.e.target = n ∧ s.pointDue n true = false ∧ s.pointDue n false = false ∧ s.g (F.AX_PWM_MASK_CFG_SRC n) = 2 ∧
      (s.pwmOf n).mode = true ∧ s.maskDown n = false) :=
  ⟨⟨((State.reset.p (F.AX_PWM_STATUS_STATE (0 : Fin 16)) 2).setPwm (0 : Fin 16)
    { PwmSt.reset with lastZero := 0, period := 0, rise := !(true : Bool) }), (0), (true), by decide +kernel⟩,
    ⟨(((State.reset.p (F.AX_PWM_STATUS_STATE (0 : Fin 16)) 2).wr (R.AX_PWM_PERIOD (0 : Fin 16)) 100000).setPwm (0 : Fin 16)
    { PwmSt.reset with lastZero := 0, period := 0, rise := false, first := false }), (0), by decide +kernel⟩,
    ⟨(((State.reset.p (F.AX_PWM_STATUS_STATE (0 : Fin 16)) 2).p (F.AX_PWM_CFG_LOAD (0 : Fin 16)) 2).setPwm (0 : Fin 16)
    { PwmSt.reset with lastZero := 0, period := 0, rise := !(true : Bool), first := false }), (0), (true),
    by decide +kernel⟩,
    ⟨((State.reset.p (F.AX_PWM_STATUS_STATE (0 : Fin 16)) 2).setPwm (0 : Fin 16)
    { PwmSt.reset with mode := false, ovr := 0, cmp := [(50000 : Nat), (50000 : Nat), (50000 : Nat)], period := 100000 }),
    (0), (50000), (true), (0), by decide +kernel⟩,
    ⟨(((State.reset.p (F.AX_PWM_STATUS_STATE (0 : Fin 16)) 2).off (F.AX_PWM_DT_GUARD_MIN_PULSE (0 : Fin 16))).setPwm (0 :
    Fin 16) { PwmSt.reset with wait := [true, true, true, true, true, true] }), (0), (0), (1), (true),
    by decide +kernel⟩,
    ⟨(((State.reset.p (F.AX_PWM_STATUS_STATE (0 : Fin 16)) 2).on (F.AX_PWM_SHADOW_HOLD (0 : Fin 16)) |>.p
    (F.AX_PWM_DT_GUARD_MIN_PULSE (0 : Fin 16)) 7).setPwm (0 : Fin 16)
    { PwmSt.reset with cmp := [900, 800, 700], period := 1000, wait := [true, true, true, true, true, true] }), (0),
    (0), (1), (true), by decide +kernel⟩,
    ⟨((State.reset.p (F.AX_PWM_STATUS_STATE (0 : Fin 16)) 2).setPwm (0 : Fin 16)
    { PwmSt.reset with wait := [true, true, true, true, true, true] }), (0), (0), (true), (1), by decide +kernel⟩,
    ⟨((((State.reset.p (F.AX_PWM_STATUS_STATE (0 : Fin 16)) 2).on (F.AX_PWM_CFG_ADAPT_EN (0 : Fin 16))).off
    (F.AX_PWM_STATUS_DT_FALLBACK (0 : Fin 16))).setPwm (0 : Fin 16) { PwmSt.reset with noMeas := [8, 8, 8, 8, 8, 8] }),
    (0), (0), by decide +kernel⟩,
    ⟨(((((State.reset.p (F.AX_PWM_STATUS_STATE (0 : Fin 16)) 2).off (F.AX_PWM_MASK_CFG_SRC (0 : Fin 16))).p
    (F.AX_PWM_ALIGN_COUNT (0 : Fin 16)) 3).p (F.AX_PWM_ALIGN_INTERVAL (0 : Fin 16)) 0).setPwm (0 : Fin 16)
    { PwmSt.reset with mode := true, alignRun := true, alignLeft := 1, alignTick := 0, lastZero := State.reset.now + 10000000000 }),
    (0), by decide +kernel⟩,
    ⟨(((((State.reset.p (F.AX_PWM_STATUS_STATE (0 : Fin 16)) 2).p (F.AX_PWM_MASK_CFG_SRC (0 : Fin 16)) 0).p
    (F.AX_PWM_ALIGN_COUNT (0 : Fin 16)) 3).p (F.AX_PWM_ALIGN_INTERVAL (0 : Fin 16)) 0).setPwm (0 : Fin 16)
    { PwmSt.reset with mode := true, alignRun := true, alignLeft := 3, alignTick := 0, lastZero := State.reset.now + 10000000000 }),
    (0), by decide +kernel⟩,
    ⟨({ (State.reset.p (F.AX_PWM_STATUS_STATE (0 : Fin 16)) 1) with held := [⟨⟨0, 0, 0x20, (0 : Fin 16), 1, 0, false, false⟩, true, 0, 0, 0⟩], tb := { State.reset.tb with ticks := 100 } }),
    (0), (⟨⟨0, 0, 0x20, (0 : Fin 16), 1, 0, false, false⟩, true, 0, 0, 0⟩), ([]), by decide +kernel⟩,
    ⟨({ ((State.reset.off (F.AX_PWM_MASK_CFG_SRC (0 : Fin 16))).off (F.AX_PWM_STATUS_STATE (0 : Fin 16))) with held := [⟨⟨0, 0, 0x21, (0 : Fin 16), 1, 0, false, false⟩, true, 0, 0, 0⟩], tb := { State.reset.tb with ticks := 100 } }),
    (0), (⟨⟨0, 0, 0x21, (0 : Fin 16), 1, 0, false, false⟩, true, 0, 0, 0⟩), ([]), by decide +kernel⟩,
    ⟨({ ((((State.reset.off (F.AX_PWM_STATUS_STATE (0 : Fin 16))).p (F.AX_PWM_MASK_CFG_SRC (0 : Fin 16)) 2).off (F.AX_PWM_MASK_CFG_DIR (0 : Fin 16))).setPwm (0 : Fin 16) { PwmSt.reset with mode := true }) with held := [⟨⟨0, 0, 0x21, (0 : Fin 16), 1, 0, false, false⟩, true, 0, 0, 0⟩], tb := { State.reset.tb with ticks := 100 } }),
    (0), (⟨⟨0, 0, 0x21, (0 : Fin 16), 1, 0, false, false⟩, true, 0, 0, 0⟩), ([]), by decide +kernel⟩⟩

theorem witness_BrakeChoppersFollowTheirRules :
    (∃ (s : State) (g : Fin 4), (s.bchOf g).win ≠ s.chopWindow) ∧
    (∃ (s : State) (g : Fin 4), s.is (F.GLB_BCH_STATUS_ON g) = true ∧ s.dutySpent g = true) ∧
    (∃ (s : State) (g : Fin 4), (s.bchOf g).wait = some false ∧ s.chopFree g = true) ∧
    (∃ (s : State) (g : Fin 4) (v : Bool), (s.bchOf g).wait = some v ∧ s.chopFree g = true ∧ s.chopOff g = false ∧ s.is
      (F.GLB_BCH_STATUS_LIMIT g) = false) :=
  ⟨⟨(State.reset.setBch (0 : Fin 4) { BchSt.reset with win := State.reset.chopWindow + 1 }), (0), by decide +kernel⟩,
    ⟨({ (State.reset.on (F.GLB_BCH_STATUS_ON (0 : Fin 4))).p (F.GLB_BCH_CTL_MAX_DUTY (0 : Fin 4)) 1 with tb := { State.reset.tb with ticks := 1000000000 } }),
    (0), by decide +kernel⟩,
    ⟨({ (State.reset.on (F.GLB_BCH_STATUS_ON (0 : Fin 4))).setBch (0 : Fin 4) { BchSt.reset with wait := some false } with tb := { State.reset.tb with ticks := 1000000000 } }),
    (0), by decide +kernel⟩,
    ⟨({ (((State.reset.on (F.GLB_DL_STATUS_VALID (0 : Fin 4))).off (F.GLB_BCH_STATUS_LIMIT (0 : Fin 4))).on (F.GLB_BCH_CTL_EN (0 : Fin 4))).setBch (0 : Fin 4) { BchSt.reset with wait := some (true : Bool) } with clk := { State.reset.clk with down := [] }, tb := { State.reset.tb with ticks := 1000000000 } }),
    (0), (true), by decide +kernel⟩⟩

theorem witness_CurrentInputsTakeTheirResults :
    (∃ (s : State) (n : Fin 16) (_rawA : Nat) (_rawB : Nat) (w : CsWin), (s.csOf n).win = some w ∧ w.endTick ≤ s.tb.ticks ∧
      s.sdRuns (n.val / 4) = true) ∧
    (∃ (s : State) (n : Fin 16) (rawA : Nat) (rawB : Nat) (oa : Word) (ob : Word) (ga : Word) (gb : Word) (w : CsWin) (ia :
      Int) (ib : Int), (s.csOf n).win = some w ∧ w.endTick ≤ s.tb.ticks ∧ s.sdRuns (n.val / 4) = true ∧ w.scale = [oa,
      ob, ga, gb] ∧ s.g (F.AX_CS_CFG_MEAS_PAIR n) = 0 ∧ ia = satI 32 (scaleRaw (normalise (min rawA (s.g
      (F.AX_CS_CFG_OSR n) ^ 3)) (s.g (F.AX_CS_CFG_OSR n) ^ 3)) (signed 24 oa.toNat) ga.int) ∧ ib = satI 32 (scaleRaw
      (normalise (min rawB (s.g (F.AX_CS_CFG_OSR n) ^ 3)) (s.g (F.AX_CS_CFG_OSR n) ^ 3)) (signed 24 ob.toNat) gb.int)) ∧
    (∃ (s : State) (n : Fin 16) (_rawA : Nat) (_rawB : Nat), s.is (F.AX_CS_CFG_EN n) = true ∧ s.sdRuns (n.val / 4) = true) ∧
    (∃ (s : State) (n : Fin 16) (_b : Bool), s.is (F.AX_CS_CFG_EN n) = true) ∧
    (∃ (s : State) (n : Fin 16) (_b : Bool), s.is (F.AX_CS_CFG_EN n) = true ∧ s.higherRuns n = false) ∧
    (∃ (s : State) (rq : Rq) (n : Fin 16) (v : Word), s.reaches rq (R.AX_CS_CFG n) ∧ getBits v 1 2 ≠ 3 ∧ 16 ≤ getBits v 4 9
      ∧ getBits v 4 9 ≤ 256 ∧ 16 ≤ getBits v 16 8 ∧ s.pwmState n = 0) ∧
    (∃ (s : State) (rq : Rq) (n : Fin 16) (v : Word), s.reaches rq (R.AX_CS_CFG n) ∧ getBits v 1 2 ≠ 3 ∧ 16 ≤ getBits v 4 9
      ∧ getBits v 4 9 ≤ 256 ∧ 16 ≤ getBits v 16 8 ∧ getBits v 0 1 = s.g (F.AX_CS_CFG_EN n) ∧ getBits v 1 2 = s.g
      (F.AX_CS_CFG_MEAS_PAIR n) ∧ getBits v 4 9 = s.g (F.AX_CS_CFG_OSR n)) ∧
    (∃ (s : State) (_rq : Rq) (n : Fin 16), s.readErr (R.AX_CS_STAMP n) = false) ∧
    (∃ (s : State) (_rq : Rq) (n : Fin 16), s.readErr (R.AX_TLM_STAMP n) = false) ∧
    (∃ (s : State) (k : Fin 4) (f : Fin 4), tabGet (fun _ => none) s.sense.sdPend k = some f.val ∧ s.sdBusy k = false) :=
  ⟨⟨((State.reset.p F.GLB_SDCLK_CFG_EN 15).setCs (0 : Fin 16)
    { CsSt.reset with win := some (⟨State.reset.now, 5, [0, 0, 0x10000, 0x10000], 0⟩ : CsWin) }), (0), (1), (1),
    (⟨State.reset.now, 5, [0, 0, 0x10000, 0x10000], 0⟩), by decide +kernel⟩,
    ⟨((State.reset.p F.GLB_SDCLK_CFG_EN 15 |>.p (F.AX_CS_CFG_MEAS_PAIR (0 : Fin 16)) 0).setCs (0 : Fin 16)
    { CsSt.reset with win := some (⟨State.reset.now, 5, [(3 : Word), (4 : Word), (0x10000 : Word), (0x20000 : Word)], 0⟩ : CsWin) }),
    (0), (1), (1), (3), (4), (0x10000), (0x20000), (⟨State.reset.now, 5, [(3 : Word), (4 : Word), (0x10000 : Word),
    (0x20000 : Word)], 0⟩), (satI 32 (scaleRaw (normalise (min (1 : Nat) (State.reset.g (F.AX_CS_CFG_OSR (0 : Fin 16)) ^
    3)) (State.reset.g (F.AX_CS_CFG_OSR (0 : Fin 16)) ^ 3)) (signed 24 (3 : Word).toNat) (0x10000 : Word).int)), (satI
    32 (scaleRaw (normalise (min (1 : Nat) (State.reset.g (F.AX_CS_CFG_OSR (0 : Fin 16)) ^ 3)) (State.reset.g
    (F.AX_CS_CFG_OSR (0 : Fin 16)) ^ 3)) (signed 24 (4 : Word).toNat) (0x20000 : Word).int)), by decide +kernel⟩,
    ⟨((State.reset.on (F.AX_CS_CFG_EN (0 : Fin 16))).p F.GLB_SDCLK_CFG_EN 15), (0), (1), (1), by decide +kernel⟩,
    ⟨(State.reset.on (F.AX_CS_CFG_EN (0 : Fin 16))), (0), (true), by decide +kernel⟩,
    ⟨(State.reset.on (F.AX_CS_CFG_EN (0 : Fin 16)) |>.on (F.AX_PWM_CTL_OUT_EN (0 : Fin 16))), (0), (true),
    by decide +kernel⟩,
    ⟨(State.reset.off (F.AX_PWM_STATUS_STATE (0 : Fin 16))), (.od 0), (0), (0x200203), by decide +kernel⟩,
    ⟨(State.reset.p (F.AX_PWM_STATUS_STATE (0 : Fin 16)) 2 |>.p (F.AX_CS_CFG_OSR (0 : Fin 16)) 32 |>.p
    (F.AX_CS_CFG_MEAS_PAIR (0 : Fin 16)) 1), (.od 0), (0), (BitVec.ofNat 32 (0x200202 + State.reset.g (F.AX_CS_CFG_EN (0
    : Fin 16)))), by decide +kernel⟩,
    ⟨(State.reset), (.od 0), (0), by decide +kernel⟩,
    ⟨(State.reset), (.od 0), (0), by decide +kernel⟩,
    ⟨({ State.reset with sense := { State.reset.sense with sdPend := tabSet (fun _ => none) State.reset.sense.sdPend (0 : Fin 4) (some (2 : Fin 4).val) } }),
    (0), (2), by decide +kernel⟩⟩

theorem witness_DcLinkInputsTakeTheirResults :
    (∃ (s : State) (g : Fin 4) (_raw : Nat), s.is (F.GLB_DL_CFG_EN g) = true ∧ s.sdRuns g = true ∧ (s.dlOf g).bad = false) ∧
    (∃ (s : State) (g : Fin 4) (h : Held) (rest : List Held) (i : Nat), s.firstDue s.held = some (h, rest) ∧ h.e.code =
      0x11 ∧ h.e.target = g ∧ s.is (F.GLB_DL_CFG_EN g) = true ∧ s.sdRuns g = true ∧ (s.dlOf g).win = none ∧ i = (if
      h.late then s.instant h else h.e.time)) ∧
    (∃ (s : State) (g : Fin 4) (_raw : Nat) (w : Nat × Int × Nat), (s.dlOf g).win = some w ∧ w.2.2 ≤ s.tb.ticks ∧ s.sdRuns g
      = true ∧ (s.dlOf g).bad = false) ∧
    (∃ (s : State) (g : Fin 4), s.is (F.GLB_DL_CFG_EN g) = true) ∧
    (∃ (s : State) (rq : Rq) (g : Fin 4) (v : Word), s.reaches rq (R.GLB_DL_CFG g) ∧ 16 ≤ getBits v 16 8) :=
  ⟨⟨((State.reset.on (F.GLB_DL_CFG_EN (0 : Fin 4))).p F.GLB_SDCLK_CFG_EN 15), (0), (1), by decide +kernel⟩,
    ⟨({ ((State.reset.on (F.GLB_DL_CFG_EN (0 : Fin 4))).p F.GLB_SDCLK_CFG_EN 15) with held := [⟨⟨0, 0, 0x11, (0 : Fin 4), 1, 0, false, false⟩, true, 0, 0, 0⟩], tb := { State.reset.tb with ticks := 100 } }),
    (0), (⟨⟨0, 0, 0x11, (0 : Fin 4), 1, 0, false, false⟩, true, 0, 0, 0⟩), ([]), (if (⟨⟨0, 0, 0x11, (0 : Fin 4), 1, 0,
    false, false⟩, true, 0, 0, 0⟩ : Held).late then State.reset.instant (⟨⟨0, 0, 0x11, (0 : Fin 4), 1, 0, false, false⟩,
    true, 0, 0, 0⟩ : Held) else (⟨⟨0, 0, 0x11, (0 : Fin 4), 1, 0, false, false⟩, true, 0, 0, 0⟩ : Held).e.time),
    by decide +kernel⟩,
    ⟨((State.reset.p F.GLB_SDCLK_CFG_EN 15).setDl (0 : Fin 4) ⟨some ((70000, 5, 0) : Nat × Int × Nat), false⟩), (0), (1),
    ((70000, 5, 0)), by decide +kernel⟩,
    ⟨(State.reset.on (F.GLB_DL_CFG_EN (0 : Fin 4))), (0), by decide +kernel⟩,
    ⟨(State.reset), (.od 0), (0), (0x401401), by decide +kernel⟩⟩

theorem witness_TelemetryLinksFollowTheirFrames :
    (∃ (s : State) (n : Fin 16) (offset : Fin 160) (f : Nat), s.g (F.AX_TLM_STATUS_STATE n) = 1 ∧ frameBits f 0 15 = 0xE35A
      ∧ frameOk f = true ∧ tabGet (fun _ => 0) (s.tlmOf n).cnt offset = 2) ∧
    (∃ (s : State) (n : Fin 16) (offset : Fin 160) (f : Nat), s.g (F.AX_TLM_STATUS_STATE n) = 2 ∧ s.g
      (F.AX_TLM_STATUS_OFFSET n) = offset ∧ frameOk f = true) ∧
    (∃ (s : State) (n : Fin 16) (offset : Fin 160) (f : Nat), s.g (F.AX_TLM_STATUS_STATE n) = 2 ∧ s.g
      (F.AX_TLM_STATUS_OFFSET n) = offset ∧ frameOk f = false ∧ (s.tlmOf n).fails = 0) ∧
    (∃ (s : State) (n : Fin 16) (offset : Fin 160) (f : Nat), s.g (F.AX_TLM_STATUS_STATE n) = 2 ∧ s.g
      (F.AX_TLM_STATUS_OFFSET n) = offset ∧ frameOk f = false ∧ (s.tlmOf n).fails ≠ 0) ∧
    (∃ (s : State) (n : Fin 16) (_offset : Fin 160) (f : Nat), s.g (F.AX_TLM_STATUS_STATE n) = 1 ∧ (frameBits f 0 15 ≠
      0xE35A ∨ frameOk f = false)) ∧
    (∃ (s : State) (rq : Rq) (n : Fin 16) (v : Word), s.reaches rq (R.AX_TLM_CFG n) ∧ s.is (F.AX_TLM_CFG_EN n) = false ∧
      getBits v 0 1 = 1) ∧
    (∃ (s : State) (rq : Rq) (n : Fin 16) (v : Word), s.reaches rq (R.AX_TLM_CFG n) ∧ s.is (F.AX_TLM_CFG_EN n) = true ∧
      getBits v 0 1 = 0) ∧
    (∃ (s : State) (rq : Rq) (n : Fin 16) (v : Word), s.reaches rq (R.AX_TLM_CFG n) ∧ getBits v 0 1 = s.g (F.AX_TLM_CFG_EN
      n)) :=
  ⟨⟨((State.reset.p (F.AX_TLM_STATUS_STATE (0 : Fin 16)) 1).setTlm (0 : Fin 16) ⟨tabSet (fun _ => 0) [] (0 : Fin 160) 2,
    0⟩), (0), (0), (1297948582193849054612795289385320002576390815803), by decide +kernel⟩,
    ⟨((State.reset.p (F.AX_TLM_STATUS_STATE (0 : Fin 16)) 2).p (F.AX_TLM_STATUS_OFFSET (0 : Fin 16)) (0 : Fin 160)), (0),
    (0), (1297948582193849054612795289385320002576390815803), by decide +kernel⟩,
    ⟨((State.reset.p (F.AX_TLM_STATUS_STATE (0 : Fin 16)) 2).p (F.AX_TLM_STATUS_OFFSET (0 : Fin 16)) (0 : Fin 160)), (0),
    (0), (0), by decide +kernel⟩,
    ⟨(((State.reset.p (F.AX_TLM_STATUS_STATE (0 : Fin 16)) 2).p (F.AX_TLM_STATUS_OFFSET (0 : Fin 16)) (0 : Fin 160)).setTlm
    (0 : Fin 16) { TlmSt.reset with fails := 1 }), (0), (0), (0), by decide +kernel⟩,
    ⟨((State.reset.p (F.AX_TLM_STATUS_STATE (0 : Fin 16)) 1).setTlm (0 : Fin 16) ⟨tabSet (fun _ => 0) [] (0 : Fin 160) 2,
    0⟩), (0), (0), (0), by decide +kernel⟩,
    ⟨(State.reset.off (F.AX_TLM_CFG_EN (0 : Fin 16))), (.od 0), (0), (5), by decide +kernel⟩,
    ⟨(State.reset.on (F.AX_TLM_CFG_EN (0 : Fin 16))), (.od 0), (0), (4), by decide +kernel⟩,
    ⟨(State.reset), (.od 0), (0), (BitVec.ofNat 32 (0x70000 + State.reset.g (F.AX_TLM_CFG_EN (0 : Fin 16)))),
    by decide +kernel⟩⟩

theorem witness_FeedbackCommandsTakeEffect :
    (∃ (s : State) (rq : Rq) (n : Fin 16), s.reaches rq (R.AX_FB_CMD n)) ∧
    (∃ (s : State) (rq : Rq) (n : Fin 16), s.reaches rq (R.AX_FB_CMD n) ∧ s.is (F.AX_FB_STATUS_LENT n) = false) ∧
    (∃ (s : State) (rq : Rq) (n : Fin 16), s.reaches rq (R.AX_FB_CMD n) ∧ s.is (F.AX_FB_STATUS_LENT n) = true) ∧
    (∃ (s : State) (rq : Rq) (n : Fin 16), s.reaches rq (R.AX_FB_CMD n)) ∧
    (∃ (s : State) (rq : Rq) (n : Fin 16) (v : Word), s.reaches rq (R.AX_FB_SOFT_MAX_HI n) ∧ (s.fbOf n).softMin < signed 64
      ((s.rd (R.AX_FB_SOFT_MAX_LO n)).toNat + 2 ^ 32 * v.toNat)) ∧
    (∃ (s : State) (rq : Rq) (n : Fin 16) (v : Word), s.reaches rq (R.AX_FB_SOFT_MIN_HI n) ∧ signed 64 ((s.rd
      (R.AX_FB_SOFT_MIN_LO n)).toNat + 2 ^ 32 * v.toNat) < (s.fbOf n).softMax) ∧
    (∃ (s : State) (rq : Rq) (n : Fin 16) (v : Word), s.reaches rq (R.AX_FB_CFG n) ∧ s.pwmState n = 0 ∧ s.fbCfgBad n v =
      false) ∧
    (∃ (s : State) (_rq : Rq) (n : Fin 16), s.readErr (R.AX_FB_STAMP n) = false) ∧
    (∃ (s : State) (rq : Rq) (k : Fin 8) (h : PrbLatch) (rest : List PrbLatch), s.reaches rq (R.GLB_PRB_POP k) ∧ (s.prbOf
      k).fifo = h :: rest) ∧
    (∃ (s : State) (rq : Rq) (k : Fin 8) (v : Word), s.reaches rq (R.GLB_PRB_CFG k) ∧ getBits v 2 2 ≠ 3 ∧ getBits v 14 5 <
      24 ∧ s.holder (if getBits v 13 1 = 1 then .aux (getBits v 14 5) else .axis (getBits v 4 4)) = s.holder (.probe k)) :=
  ⟨⟨(State.reset), (.od 0), (0), by decide +kernel⟩,
    ⟨(State.reset.on (F.AX_FB_STATUS_FAULT (0 : Fin 16))), (.od 0), (0), by decide +kernel⟩,
    ⟨((State.reset.on (F.AX_FB_STATUS_FAULT (0 : Fin 16)) |>.on (F.AX_FB_STATUS_LENT (0 : Fin 16))).setFb (0 : Fin 16)
    { FbSt.reset with stopped := true }), (.od 0), (0), by decide +kernel⟩,
    ⟨(State.reset), (.od 0), (0), by decide +kernel⟩,
    ⟨(State.reset), (.od 0), (0), (5), by decide +kernel⟩,
    ⟨(State.reset), (.od 0), (0), (5), by decide +kernel⟩,
    ⟨(State.reset.off (F.AX_PWM_STATUS_STATE (0 : Fin 16))), (.od 0), (0), (0x183), by decide +kernel⟩,
    ⟨(State.reset), (.od 0), (0), by decide +kernel⟩,
    ⟨(State.reset.setPrb (0 : Fin 8)
    { State.reset.prbOf (0 : Fin 8) with fifo := ({ t := 7, e := 7, falling := false, pos := 3, valid := true, extrap := false } : PrbLatch) :: ([] : List PrbLatch) }),
    (.od 0), (0), ({ t := 7, e := 7, falling := false, pos := 3, valid := true, extrap := false }), ([]),
    by decide +kernel⟩,
    ⟨(State.reset), (.od 0), (0), (0x101), by decide +kernel⟩⟩

theorem witness_FeedbackEventsTakeEffect :
    (∃ (s : State) (n : Fin 16) (_up : Bool), s.fbEn n = true ∧ s.incMode n = 1) ∧
    (∃ (s : State) (n : Fin 16) (_up : Bool), s.fbEn n = true ∧ s.incMode n = 1) ∧
    (∃ (s : State) (n : Fin 16), s.fbEn n = true ∧ s.incMode n ≠ 0) ∧
    (∃ (s : State) (n : Fin 16), s.fbEn n = true ∧ s.g (F.AX_FB_CFG_ZMODE n) ≠ 0) ∧
    (∃ (s : State) (n : Fin 16), s.fbEn n = true ∧ s.g (F.AX_FB_CFG_ZMODE n) = 2 ∧ (s.fbOf n).zArm = true) ∧
    (∃ (s : State) (n : Fin 16) (a : Int) (b : Int) (_quads : Int) (x : Int × Int) (w : Int), s.fbEn n = true ∧ s.incMode n
      = 2 ∧ x = scCorrect ((s.convCfg n).getD 0 0) ((s.convCfg n).getD 1 0) a b ∧ w = scWindow ((s.convCfg n).getD 2 0)
      (x.1 ^ 2 + x.2 ^ 2)) ∧
    (∃ (s : State) (n : Fin 16) (a : Int) (b : Int) (quads : Int) (x : Int × Int) (w : Int) (c0 : Int) (c : Int) (a0 :
      Int), s.fbEn n = true ∧ s.incMode n = 2 ∧ x = scCorrect ((s.convCfg n).getD 0 0) ((s.convCfg n).getD 1 0) a b ∧ w
      = scWindow ((s.convCfg n).getD 2 0) (x.1 ^ 2 + x.2 ^ 2) ∧ w = 0 ∧ (s.fbOf n).cq = some c0 ∧ (s.fbOf n).scAbs =
      some a0 ∧ reconcile (c0 + quads) (atan16 x.2 x.1 / 16384) = some c) ∧
    (∃ (s : State) (n : Fin 16) (a : Int) (b : Int) (quads : Int) (x : Int × Int) (w : Int) (c0 : Int), s.fbEn n = true ∧
      s.incMode n = 2 ∧ x = scCorrect ((s.convCfg n).getD 0 0) ((s.convCfg n).getD 1 0) a b ∧ w = scWindow ((s.convCfg
      n).getD 2 0) (x.1 ^ 2 + x.2 ^ 2) ∧ w = 0 ∧ (s.fbOf n).cq = some c0 ∧ reconcile (c0 + quads) (atan16 x.2 x.1 /
      16384) = none) ∧
    (∃ (s : State) (n : Fin 16), (s.fbOf n).riding = true ∧ (s.fbOf n).rideTick + (s.fbOf n).ride * 250 ≤ s.tb.ticks) ∧
    (∃ (s : State) (n : Fin 16) (_frame : Nat) (r : SsiRun), (s.fbOf n).ssiRun = some r ∧ r.done ≤ s.tb.ticks ∧ s.is
      (F.AX_FB_CFG_SSI_EN n) = true) ∧
    (∃ (s : State) (n : Fin 16) (frame : Nat) (r : SsiRun), (s.fbOf n).ssiRun = some r ∧ r.done ≤ s.tb.ticks ∧ s.is
      (F.AX_FB_CFG_SSI_EN n) = true ∧ (s.ssiParse n frame).2 ≠ (false, true)) ∧
    (∃ (s : State) (n : Fin 16) (frame : Nat) (r : SsiRun), (s.fbOf n).ssiRun = some r ∧ r.done ≤ s.tb.ticks ∧ s.is
      (F.AX_FB_CFG_SSI_EN n) = true ∧ (s.ssiParse n frame).2 = (false, true)) ∧
    (∃ (s : State) (n : Fin 16) (t0 : Nat), (s.fbOf n).ssiIdle = some t0 ∧ t0 ≤ s.tb.ticks) ∧
    (∃ (s : State) (n : Fin 16) (st : Fin 8) (x : Nat) (y : Nat), s.fbEn n = true ∧ s.is (F.AX_FB_CFG_HALL_EN n) = true ∧
      (s.fbOf n).sector = some x ∧ s.sectorOf n st = some y ∧ (y + 6 - x) % 6 = 1) ∧
    (∃ (s : State) (n : Fin 16) (st : Fin 8) (x : Nat) (y : Nat), s.fbEn n = true ∧ s.is (F.AX_FB_CFG_HALL_EN n) = true ∧
      (s.fbOf n).sector = some x ∧ s.sectorOf n st = some y ∧ (y + 6 - x) % 6 = 5) ∧
    (∃ (s : State) (n : Fin 16) (st : Fin 8) (x : Nat) (y : Nat), s.fbEn n = true ∧ s.is (F.AX_FB_CFG_HALL_EN n) = true ∧
      (s.fbOf n).sector = some x ∧ s.sectorOf n st = some y ∧ (y + 6 - x) % 6 = 2) ∧
    (∃ (s : State) (n : Fin 16) (st : Fin 8) (x : Nat) (y : Nat), s.fbEn n = true ∧ s.is (F.AX_FB_CFG_HALL_EN n) = true ∧
      (s.fbOf n).sector = some x ∧ s.sectorOf n st = some y ∧ (y + 6 - x) % 6 = 4) ∧
    (∃ (s : State) (n : Fin 16) (st : Fin 8) (x : Nat) (y : Nat), s.fbEn n = true ∧ s.is (F.AX_FB_CFG_HALL_EN n) = true ∧
      (s.fbOf n).sector = some x ∧ s.sectorOf n st = some y ∧ (y + 6 - x) % 6 = 3) ∧
    (∃ (s : State) (n : Fin 16) (st : Fin 8), s.fbEn n = true ∧ s.is (F.AX_FB_CFG_HALL_EN n) = true ∧ (s.sectorOf n st =
      none ∨ (s.fbOf n).sector = none)) ∧
    (∃ (s : State) (n : Fin 16) (x : FbSample) (rest : List FbSample), (s.fbOf n).samps = x :: rest ∧ x.have_ = true ∧
      x.ready ≤ s.tb.ticks ∧ (s.fbOf n).stopped = false ∧ x.busy = false ∧ x.ok = true) ∧
    (∃ (s : State) (n : Fin 16) (x : FbSample) (rest : List FbSample), (s.fbOf n).samps = x :: rest ∧ x.have_ = true ∧
      x.ready ≤ s.tb.ticks ∧ (s.fbOf n).stopped = false ∧ x.busy = false ∧ x.ok = true ∧ x.load = none ∧ x.soft = none) ∧
    (∃ (s : State) (n : Fin 16) (x : FbSample) (rest : List FbSample), (s.fbOf n).samps = x :: rest ∧ x.have_ = true ∧
      x.ready ≤ s.tb.ticks ∧ (s.fbOf n).stopped = false ∧ x.busy = false ∧ x.ok = false ∧ x.load = none ∧ x.soft = none) ∧
    (∃ (s : State) (n : Fin 16) (x : FbSample) (rest : List FbSample), (s.fbOf n).samps = x :: rest ∧ x.have_ = true ∧
      x.ready ≤ s.tb.ticks ∧ (s.fbOf n).stopped = true ∧ s.primary n ≠ 1) :=
  ⟨⟨((State.reset.on (F.AX_FB_CFG_EN (0 : Fin 16))).p (F.AX_FB_CFG_INC_MODE (0 : Fin 16)) 1), (0), (true),
    by decide +kernel⟩,
    ⟨((State.reset.on (F.AX_FB_CFG_EN (0 : Fin 16))).p (F.AX_FB_CFG_INC_MODE (0 : Fin 16)) 1), (0), (true),
    by decide +kernel⟩,
    ⟨((State.reset.on (F.AX_FB_CFG_EN (0 : Fin 16))).p (F.AX_FB_CFG_INC_MODE (0 : Fin 16)) 1), (0), by decide +kernel⟩,
    ⟨((State.reset.on (F.AX_FB_CFG_EN (0 : Fin 16))).p (F.AX_FB_CFG_ZMODE (0 : Fin 16)) 1), (0), by decide +kernel⟩,
    ⟨(((State.reset.on (F.AX_FB_CFG_EN (0 : Fin 16))).p (F.AX_FB_CFG_ZMODE (0 : Fin 16)) 2).setFb (0 : Fin 16)
    { FbSt.reset with zArm := true }), (0), by decide +kernel⟩,
    ⟨(((((((State.reset.on (F.AX_FB_CFG_EN (0 : Fin 16))).p (F.AX_FB_CFG_INC_MODE (0 : Fin 16)) 2).p (F.AX_FB_SC_AMP_AMP_NOM
    (0 : Fin 16)) 1000).p (F.AX_FB_SC_AMP_WIN_LO (0 : Fin 16)) 50).p (F.AX_FB_SC_AMP_WIN_HI (0 : Fin 16)) 200).wr
    (R.AX_FB_SC_GP (0 : Fin 16)) 16384).wr (R.AX_FB_SC_OFS (0 : Fin 16)) 0), (0), (0), (0), (1), ((0, 0)), (-1),
    by decide +kernel⟩,
    ⟨((((((((State.reset.on (F.AX_FB_CFG_EN (0 : Fin 16))).p (F.AX_FB_CFG_INC_MODE (0 : Fin 16)) 2).p
    (F.AX_FB_SC_AMP_AMP_NOM (0 : Fin 16)) 1000).p (F.AX_FB_SC_AMP_WIN_LO (0 : Fin 16)) 50).p (F.AX_FB_SC_AMP_WIN_HI (0 :
    Fin 16)) 200).wr (R.AX_FB_SC_GP (0 : Fin 16)) 16384).wr (R.AX_FB_SC_OFS (0 : Fin 16)) 0).setFb (0 : Fin 16)
    { FbSt.reset with cq := some 4, scAbs := some (65536 : Int) }), (0), (1000), (10), (0), ((1000, 10)), (0), (4), (4),
    (65536), by decide +kernel⟩,
    ⟨((((((((State.reset.on (F.AX_FB_CFG_EN (0 : Fin 16))).p (F.AX_FB_CFG_INC_MODE (0 : Fin 16)) 2).p
    (F.AX_FB_SC_AMP_AMP_NOM (0 : Fin 16)) 1000).p (F.AX_FB_SC_AMP_WIN_LO (0 : Fin 16)) 50).p (F.AX_FB_SC_AMP_WIN_HI (0 :
    Fin 16)) 200).wr (R.AX_FB_SC_GP (0 : Fin 16)) 16384).wr (R.AX_FB_SC_OFS (0 : Fin 16)) 0).setFb (0 : Fin 16)
    { FbSt.reset with cq := some 6 }), (0), (1000), (10), (0), ((1000, 10)), (0), (6), by decide +kernel⟩,
    ⟨({ State.reset.setFb (0 : Fin 16) { FbSt.reset with riding := true } with tb := { State.reset.tb with ticks := 1000000000 } }),
    (0), by decide +kernel⟩,
    ⟨((State.reset.on (F.AX_FB_CFG_SSI_EN (0 : Fin 16))).setFb (0 : Fin 16)
    { FbSt.reset with ssiRun := some (⟨0, 0, 0, none, 0, none, 0, 20⟩ : SsiRun) }), (0), (1), (⟨0, 0, 0, none, 0, none,
    0, 20⟩), by decide +kernel⟩,
    ⟨((((State.reset.on (F.AX_FB_CFG_SSI_EN (0 : Fin 16))).wr (R.AX_FB_SSI_CFG (0 : Fin 16)) 0x4000C).off
    (F.AX_FB_CFG_PRIMARY (0 : Fin 16))).setFb (0 : Fin 16)
    { FbSt.reset with ssiRun := some (⟨0, 0, 0, none, 0, none, 0, 20⟩ : SsiRun) } |>.wr (R.AX_FB_SSI_CRC (0 : Fin 16))
    0x103), (0), (101), (⟨0, 0, 0, none, 0, none, 0, 20⟩), by decide +kernel⟩,
    ⟨((((State.reset.on (F.AX_FB_CFG_SSI_EN (0 : Fin 16))).wr (R.AX_FB_SSI_CFG (0 : Fin 16)) 0xC).off (F.AX_FB_CFG_PRIMARY
    (0 : Fin 16))).setFb (0 : Fin 16) { FbSt.reset with ssiRun := some (⟨0, 0, 0, none, 0, none, 0, 20⟩ : SsiRun) }),
    (0), (100), (⟨0, 0, 0, none, 0, none, 0, 20⟩), by decide +kernel⟩,
    ⟨(State.reset.setFb (0 : Fin 16) { FbSt.reset with ssiIdle := some (State.reset.tb.ticks : Nat) }), (0),
    (State.reset.tb.ticks), by decide +kernel⟩,
    ⟨((((State.reset.on (F.AX_FB_CFG_EN (0 : Fin 16))).on (F.AX_FB_CFG_HALL_EN (0 : Fin 16))).wr (R.AX_FB_HALL_CFG (0 : Fin
    16)) 0).setFb (0 : Fin 16) { FbSt.reset with sector := some 0 }), (0), (3), (0), (1), by decide +kernel⟩,
    ⟨((((State.reset.on (F.AX_FB_CFG_EN (0 : Fin 16))).on (F.AX_FB_CFG_HALL_EN (0 : Fin 16))).wr (R.AX_FB_HALL_CFG (0 : Fin
    16)) 0).setFb (0 : Fin 16) { FbSt.reset with sector := some 0 }), (0), (5), (0), (5), by decide +kernel⟩,
    ⟨((((State.reset.on (F.AX_FB_CFG_EN (0 : Fin 16))).on (F.AX_FB_CFG_HALL_EN (0 : Fin 16))).wr (R.AX_FB_HALL_CFG (0 : Fin
    16)) 0).setFb (0 : Fin 16) { FbSt.reset with sector := some 0 }), (0), (2), (0), (2), by decide +kernel⟩,
    ⟨((((State.reset.on (F.AX_FB_CFG_EN (0 : Fin 16))).on (F.AX_FB_CFG_HALL_EN (0 : Fin 16))).wr (R.AX_FB_HALL_CFG (0 : Fin
    16)) 0).setFb (0 : Fin 16) { FbSt.reset with sector := some 0 }), (0), (4), (0), (4), by decide +kernel⟩,
    ⟨((((State.reset.on (F.AX_FB_CFG_EN (0 : Fin 16))).on (F.AX_FB_CFG_HALL_EN (0 : Fin 16))).wr (R.AX_FB_HALL_CFG (0 : Fin
    16)) 0).setFb (0 : Fin 16) { FbSt.reset with sector := some 0 }), (0), (6), (0), (3), by decide +kernel⟩,
    ⟨(((State.reset.on (F.AX_FB_CFG_EN (0 : Fin 16))).on (F.AX_FB_CFG_HALL_EN (0 : Fin 16)))), (0), (7), by decide +kernel⟩,
    ⟨(State.reset.setFb (0 : Fin 16)
    { FbSt.reset with samps := (⟨State.reset.now, 0, 0, true, true, 500, 7, 0, none, none, false, []⟩ : FbSample) :: ([] : List FbSample) }),
    (0), (⟨State.reset.now, 0, 0, true, true, 500, 7, 0, none, none, false, []⟩), ([]), by decide +kernel⟩,
    ⟨(State.reset.setFb (0 : Fin 16)
    { FbSt.reset with samps := (⟨State.reset.now, 0, 0, true, true, 500, 7, 0, none, none, false, []⟩ : FbSample) :: ([] : List FbSample) }),
    (0), (⟨State.reset.now, 0, 0, true, true, 500, 7, 0, none, none, false, []⟩), ([]), by decide +kernel⟩,
    ⟨(State.reset.setFb (0 : Fin 16)
    { FbSt.reset with samps := (⟨State.reset.now, 0, 0, true, false, 0, 0, 0, none, none, false, []⟩ : FbSample) :: ([] : List FbSample) }),
    (0), (⟨State.reset.now, 0, 0, true, false, 0, 0, 0, none, none, false, []⟩), ([]), by decide +kernel⟩,
    ⟨((State.reset.p (F.AX_FB_CFG_PRIMARY (0 : Fin 16)) 0).setFb (0 : Fin 16)
    { FbSt.reset with samps := (⟨State.reset.now, 0, 0, true, true, 500, 7, 0, none, none, false, []⟩ : FbSample) :: ([] : List FbSample), stopped := true }),
    (0), (⟨State.reset.now, 0, 0, true, true, 500, 7, 0, none, none, false, []⟩), ([]), by decide +kernel⟩⟩

theorem witness_EngineControlTakesEffect :
    (∃ (s : State) (rq : Rq) (n : Fin 8) (l : List SlotF), s.reaches rq (R.AE_CTL n) ∧ l = ((List.range 32).filter fun k =>
      s.is (F.AE_SLOT_CTL_EN n k)).map (s.slotRegs n) ∧ l.findSome? (fun f => s.commitCheck n l f) = none) ∧
    (∃ (s : State) (rq : Rq) (n : Fin 8) (l : List SlotF) (r : Nat × Nat × Nat × Nat), s.reaches rq (R.AE_CTL n) ∧ l =
      ((List.range 32).filter fun k => s.is (F.AE_SLOT_CTL_EN n k)).map (s.slotRegs n) ∧ l.findSome? (fun f =>
      (s.commitCheck n l f).map fun r => (f.k, r)) = some r) ∧
    (∃ (s : State) (rq : Rq) (n : Fin 8), s.reaches rq (R.AE_CTL n) ∧ (s.aeOf n).pending.isSome = true) ∧
    (∃ (s : State) (rq : Rq) (n : Fin 8), s.reaches rq (R.AE_CTL n) ∧ (s.aeOf n).table.isSome = true) ∧
    (∃ (s : State) (rq : Rq) (n : Fin 8), s.reaches rq (R.AE_CTL n) ∧ s.is (F.AE_CTL_RUN n) = true ∧ s.pwmState (2 * n) = 0
      ∧ s.pwmState (2 * n + 1) = 0) ∧
    (∃ (s : State) (rq : Rq) (n : Fin 8) (_v : Bool), s.reaches rq (R.AE_CTL n)) ∧
    (∃ (s : State) (rq : Rq) (n : Fin 8), s.reaches rq (R.AE_CTL n)) ∧
    (∃ (s : State) (rq : Rq) (n : Fin 8) (i : Fin 16384) (_v : Word), s.reaches rq (pmAddr n i) ∧ s.is (F.AE_CTL_RUN n) =
      false) ∧
    (∃ (s : State) (rq : Rq) (n : Fin 8) (i : Fin 16384) (_v : Word), s.reaches rq (pmAddr n i) ∧ s.is (F.AE_CTL_RUN n) =
      true) ∧
    (∃ (s : State) (rq : Rq) (m : Fin 16) (i : Fin 4096) (_v : Word), s.reaches rq (axisWord m (4 * i)) ∧ blockOpen rq (4 *
      i) = true ∧ regRow? (axisWord m (4 * i)) = none ∧ (s.aeOf (m.val / 2)).mode ≠ .slot) ∧
    (∃ (s : State) (rq : Rq) (m : Fin 16) (i : Fin 4096) (_v : Word) (_w : Word), s.reaches rq (axisWord m (4 * i)) ∧ i.val <
      4095 ∧ blockOpen rq (4 * i) = true ∧ blockOpen rq (4 * (i + 1)) = true ∧ (s.aeOf (m.val / 2)).mode = .slot ∧
      ((s.aeOf (m.val / 2)).slot.axes (m.val / 2)).contains m.val = true) :=
  ⟨⟨((State.reset.off (F.AE_SLOT_CTL_EN (0 : Fin 8) 0)).off (F.AE_SLOT_CTL_EN (0 : Fin 8) 1)), (.od 0), (0), ([]),
    by decide +kernel⟩,
    ⟨((State.reset.on (F.AE_SLOT_CTL_EN (0 : Fin 8) 3))), (.od 0), (0), ((((List.range 32).filter fun k => (State.reset.on
    (F.AE_SLOT_CTL_EN (0 : Fin 8) 3)).is (F.AE_SLOT_CTL_EN (0 : Fin 8) k)).map ((State.reset.on (F.AE_SLOT_CTL_EN (0 :
    Fin 8) 3)).slotRegs (0 : Fin 8)))), ((((((List.range 32).filter fun k => (State.reset.on (F.AE_SLOT_CTL_EN (0 : Fin
    8) 3)).is (F.AE_SLOT_CTL_EN (0 : Fin 8) k)).map ((State.reset.on (F.AE_SLOT_CTL_EN (0 : Fin 8) 3)).slotRegs (0 : Fin
    8))).findSome? (fun f => ((State.reset.on (F.AE_SLOT_CTL_EN (0 : Fin 8) 3)).commitCheck (0 : Fin 8) (((List.range
    32).filter fun k => (State.reset.on (F.AE_SLOT_CTL_EN (0 : Fin 8) 3)).is (F.AE_SLOT_CTL_EN (0 : Fin 8) k)).map
    ((State.reset.on (F.AE_SLOT_CTL_EN (0 : Fin 8) 3)).slotRegs (0 : Fin 8))) f).map fun r => (f.k, r))).getD
    (0,0,0,0))), by decide +kernel⟩,
    ⟨(State.reset.setAe (0 : Fin 8) { AeSt.reset with pending := some ⟨100, 20, []⟩ }), (.od 0), (0), by decide +kernel⟩,
    ⟨((State.reset.off (F.AE_CTL_RUN (0 : Fin 8))).setAe (0 : Fin 8) { AeSt.reset with table := some ⟨100, 20, []⟩ }), (.od
    0), (0), by decide +kernel⟩,
    ⟨((((State.reset.on (F.AE_CTL_RUN (0 : Fin 8))).off (F.AX_PWM_STATUS_STATE (2 * (0 : Fin 8)))).off
    (F.AX_PWM_STATUS_STATE (2 * (0 : Fin 8) + 1)))), (.od 0), (0), by decide +kernel⟩,
    ⟨(State.reset), (.od 0), (0), (true), by decide +kernel⟩,
    ⟨((State.reset.on (F.AE_STATUS_OVERRUN (0 : Fin 8))).p (F.AE_STATUS_FAULT_SLOT (0 : Fin 8)) 5), (.od 0), (0),
    by decide +kernel⟩,
    ⟨(State.reset.off (F.AE_CTL_RUN (0 : Fin 8))), (.od 0), (0), (0), (5), by decide +kernel⟩,
    ⟨(State.reset.on (F.AE_CTL_RUN (0 : Fin 8))), (.od 0), (0), (0), (5), by decide +kernel⟩,
    ⟨(State.reset), (.od 0), (0), (1000), (5), by decide +kernel⟩,
    ⟨(State.reset.setAe ((0 : Fin 16).val / 2)
    { AeSt.reset with mode := .slot, slot := ⟨3, 0, 100, 0, true, 1, (0 : Fin 16).val % 2, 0, 0⟩ }), (.od 0), (0),
    (1000), (5), (5), by decide +kernel⟩⟩

theorem witness_EngineEventsTakeEffect :
    (∃ (s : State) (n : Fin 8) (p : SlotTab) (x : Nat), s.running (s.refAxis n) = true ∧ s.baseDue n (s.refAxis n) = some x
      ∧ (s.aeOf n).pending = some p ∧ p.tLoop = (s.pwmOf (s.refAxis n)).loopT) ∧
    (∃ (s : State) (n : Fin 8) (x : Nat), s.running (s.refAxis n) = true ∧ s.baseDue n (s.refAxis n) = some x ∧ (s.aeOf
      n).pending.all (fun p => p.tLoop != (s.pwmOf (s.refAxis n)).loopT) = true) ∧
    (∃ (s : State) (n : Fin 8), (s.aeOf n).mode = .slot ∧ s.windowOver n = true ∧ (s.aeOf n).lib.all (fun r => decide
      ((s.aeOf n).slot.len ≤ r.used)) = true) ∧
    (∃ (s : State) (n : Fin 8), (s.aeOf n).lib = none ∧ ((s.aeOf n).mode = .done ∨ (s.aeOf n).mode = .idle ∨ (s.aeOf
      n).mode = .yielded) ∧ s.windowOver n = true ∧ (s.aeOf n).bursts = [] ∧ s.bgAllowed n = false) ∧
    (∃ (s : State) (n : Fin 8), (s.aeOf n).lib = none ∧ ((s.aeOf n).mode = .done ∨ (s.aeOf n).mode = .idle ∨ (s.aeOf
      n).mode = .yielded) ∧ s.windowOver n = true ∧ (s.aeOf n).bursts = [] ∧ s.bgAllowed n = true ∧ s.gap n = none ∧
      (s.aeOf n).fresh = true) ∧
    (∃ (s : State) (n : Fin 8), (s.aeOf n).lib = none ∧ ((s.aeOf n).mode = .done ∨ (s.aeOf n).mode = .idle ∨ (s.aeOf
      n).mode = .yielded) ∧ s.windowOver n = true ∧ (s.aeOf n).bursts = [] ∧ s.bgAllowed n = true ∧ s.gap n = none ∧
      (s.aeOf n).fresh = false) ∧
    (∃ (s : State) (n : Fin 8) (k : Fin 32) (x : Nat), s.slotAhead n k = some x ∧ s.runsSlots n = true ∧ max (s.aeOf
      n).core.cyc (x - s.g (F.AE_SCHED_YIELD_LEAD n)) < max s.cycNow ((s.aeOf n).core.cyc + 1) ∧ (s.aeOf n).mode = .bg ∧
      (s.aeOf n).core.delay = none ∧ (s.aeOf n).core.xDone = false) ∧
    (∃ (s : State) (n : Fin 8) (k : Fin 32) (x : Nat), s.slotAhead n k = some x ∧ s.runsSlots n = true ∧ max (s.aeOf
      n).core.cyc (x - s.g (F.AE_SCHED_YIELD_LEAD n)) < max s.cycNow ((s.aeOf n).core.cyc + 1) ∧ (s.aeOf n).mode =
      .restore) ∧
    (∃ (s : State) (n : Fin 8) (mem : Fin 4), 2 ≤ mem.val ∧ s.higherRuns (2 * n + (mem.val - 2)) = false) ∧
    (∃ (s : State) (n : Fin 8) (mem : Fin 4) (k : Fin 16), mem.val < 2 ∧ k.val / 2 = n ∧ (∀ m : Fin 16, s.stopLevel m ≤ 1)) :=
  ⟨⟨((((((State.reset.p (F.AX_PWM_STATUS_STATE (State.reset.refAxis (0 : Fin 8))) 2).off (F.AE_STATUS_RUNNING (0 : Fin
    8))).p (F.AE_BASE_OFS_OFS (0 : Fin 8)) 0)).setPwm (State.reset.refAxis (0 : Fin 8))
    { PwmSt.reset with updated := true, lastUpdate := 0, loopT := 100000 }).setAe (0 : Fin 8)
    { AeSt.reset with pending := some (⟨100000, 20, []⟩ : SlotTab) }), (0), (⟨100000, 20, []⟩), (0), by decide +kernel⟩,
    ⟨(((((State.reset.p (F.AX_PWM_STATUS_STATE (State.reset.refAxis (0 : Fin 8))) 2).off (F.AE_STATUS_RUNNING (0 : Fin
    8))).p (F.AE_BASE_OFS_OFS (0 : Fin 8)) 0)).setPwm (State.reset.refAxis (0 : Fin 8))
    { PwmSt.reset with updated := true, lastUpdate := 0, loopT := 100000 }), (0), (0), by decide +kernel⟩,
    ⟨({ State.reset.setAe (0 : Fin 8) { AeSt.reset with mode := .slot, slot := ⟨3, 0, 100, 0, true, 1, 0, 0, 0⟩ } with tb := { State.reset.tb with ticks := 1000000000 } }),
    (0), by decide +kernel⟩,
    ⟨((State.reset.off (F.AE_CTL_RUN (0 : Fin 8))).setAe (0 : Fin 8) { AeSt.reset with mode := .done }), (0),
    by decide +kernel⟩,
    ⟨((State.reset.on (F.AE_CTL_RUN (0 : Fin 8)) |>.on (F.AE_CTL_BG_EN (0 : Fin 8)) |>.off (F.AE_STATUS_RUNNING (0 : Fin
    8))).setAe (0 : Fin 8) { AeSt.reset with mode := .done, fresh := true }), (0), by decide +kernel⟩,
    ⟨((State.reset.on (F.AE_CTL_RUN (0 : Fin 8)) |>.on (F.AE_CTL_BG_EN (0 : Fin 8)) |>.off (F.AE_STATUS_RUNNING (0 : Fin
    8))).setAe (0 : Fin 8) { AeSt.reset with mode := .yielded, fresh := false }), (0), by decide +kernel⟩,
    ⟨({ (((((State.reset.on (F.AE_CTL_RUN (0 : Fin 8))).on (F.AE_STATUS_RUNNING (0 : Fin 8))).p (F.AX_PWM_STATUS_STATE (2 * (0 : Fin 8))) 2).p (F.AX_PWM_STATUS_STATE (2 * (0 : Fin 8) + 1)) 2).off (F.AE_STATUS_OVERRUN (0 : Fin 8))).setAe (0 : Fin 8) { AeSt.reset with mode := .bg, table := some ⟨100, 20, [⟨(0 : Fin 32).val, 5, 10, 0, true, 1, 0, 0, 0⟩]⟩ } with tb := { State.reset.tb with ticks := 1000 } }),
    (0), (0), (5), by decide +kernel⟩,
    ⟨({ (((((State.reset.on (F.AE_CTL_RUN (0 : Fin 8))).on (F.AE_STATUS_RUNNING (0 : Fin 8))).p (F.AX_PWM_STATUS_STATE (2 * (0 : Fin 8))) 2).p (F.AX_PWM_STATUS_STATE (2 * (0 : Fin 8) + 1)) 2).off (F.AE_STATUS_OVERRUN (0 : Fin 8))).setAe (0 : Fin 8) { AeSt.reset with mode := .restore, table := some ⟨100, 20, [⟨(0 : Fin 32).val, 5, 10, 0, true, 1, 0, 0, 0⟩]⟩ } with tb := { State.reset.tb with ticks := 1000 } }),
    (0), (0), (5), by decide +kernel⟩,
    ⟨(State.reset), (0), (2), by decide +kernel⟩,
    ⟨(State.reset.on (F.AX_PWM_CTL_OUT_EN (5 : Fin 16))), (2), (1), (5), by decide +kernel⟩⟩

theorem witness_EngineAluOperationsStart :
    (∃ (s : State) (n : Fin 8), (s.aeOf n).issuing = true ∧ (s.aeOf n).core.xDone = false ∧ s.bundleIllegal n = false ∧
      s.slotX n = some (.xNop n)) ∧
    (∃ (s : State) (n : Fin 8) (rd : Fin 16) (ra : Fin 16) (rb : Fin 16), (s.aeOf n).issuing = true ∧ (s.aeOf n).core.xDone
      = false ∧ s.bundleIllegal n = false ∧ s.slotX n = some (.add n rd ra rb)) ∧
    (∃ (s : State) (n : Fin 8) (rd : Fin 16) (ra : Fin 16) (rb : Fin 16), (s.aeOf n).issuing = true ∧ (s.aeOf n).core.xDone
      = false ∧ s.bundleIllegal n = false ∧ s.slotX n = some (.sub n rd ra rb)) ∧
    (∃ (s : State) (n : Fin 8) (ra : Fin 16) (rb : Fin 16), (s.aeOf n).issuing = true ∧ (s.aeOf n).core.xDone = false ∧
      s.bundleIllegal n = false ∧ s.slotX n = some (.cmp n ra rb)) ∧
    (∃ (s : State) (n : Fin 8) (rd : Fin 16) (ra : Fin 16) (rb : Fin 16), (s.aeOf n).issuing = true ∧ (s.aeOf n).core.xDone
      = false ∧ s.bundleIllegal n = false ∧ s.slotX n = some (.adds n rd ra rb)) ∧
    (∃ (s : State) (n : Fin 8) (rd : Fin 16) (ra : Fin 16) (rb : Fin 16), (s.aeOf n).issuing = true ∧ (s.aeOf n).core.xDone
      = false ∧ s.bundleIllegal n = false ∧ s.slotX n = some (.subs n rd ra rb)) ∧
    (∃ (s : State) (n : Fin 8) (rd : Fin 16) (ra : Fin 16) (rb : Fin 16), (s.aeOf n).issuing = true ∧ (s.aeOf n).core.xDone
      = false ∧ s.bundleIllegal n = false ∧ s.slotX n = some (.and n rd ra rb)) ∧
    (∃ (s : State) (n : Fin 8) (rd : Fin 16) (ra : Fin 16) (rb : Fin 16), (s.aeOf n).issuing = true ∧ (s.aeOf n).core.xDone
      = false ∧ s.bundleIllegal n = false ∧ s.slotX n = some (.or n rd ra rb)) ∧
    (∃ (s : State) (n : Fin 8) (rd : Fin 16) (ra : Fin 16) (rb : Fin 16), (s.aeOf n).issuing = true ∧ (s.aeOf n).core.xDone
      = false ∧ s.bundleIllegal n = false ∧ s.slotX n = some (.xor n rd ra rb)) ∧
    (∃ (s : State) (n : Fin 8) (rd : Fin 16) (ra : Fin 16) (sh : Fin 64), (s.aeOf n).issuing = true ∧ (s.aeOf n).core.xDone
      = false ∧ s.bundleIllegal n = false ∧ s.slotX n = some (.shl n rd ra sh)) ∧
    (∃ (s : State) (n : Fin 8) (rd : Fin 16) (ra : Fin 16) (sh : Fin 64), (s.aeOf n).issuing = true ∧ (s.aeOf n).core.xDone
      = false ∧ s.bundleIllegal n = false ∧ s.slotX n = some (.shr n rd ra sh)) ∧
    (∃ (s : State) (n : Fin 8) (rd : Fin 16) (ra : Fin 16) (sh : Fin 64), (s.aeOf n).issuing = true ∧ (s.aeOf n).core.xDone
      = false ∧ s.bundleIllegal n = false ∧ s.slotX n = some (.shra n rd ra sh)) ∧
    (∃ (s : State) (n : Fin 8) (rd : Fin 16) (ra : Fin 16) (rb : Fin 16), (s.aeOf n).issuing = true ∧ (s.aeOf n).core.xDone
      = false ∧ s.bundleIllegal n = false ∧ s.slotX n = some (.min n rd ra rb)) ∧
    (∃ (s : State) (n : Fin 8) (rd : Fin 16) (ra : Fin 16) (rb : Fin 16), (s.aeOf n).issuing = true ∧ (s.aeOf n).core.xDone
      = false ∧ s.bundleIllegal n = false ∧ s.slotX n = some (.max n rd ra rb)) ∧
    (∃ (s : State) (n : Fin 8) (rd : Fin 16) (ra : Fin 16), (s.aeOf n).issuing = true ∧ (s.aeOf n).core.xDone = false ∧
      s.bundleIllegal n = false ∧ s.slotX n = some (.abs n rd ra)) ∧
    (∃ (s : State) (n : Fin 8) (rd : Fin 16) (ra : Fin 16), (s.aeOf n).issuing = true ∧ (s.aeOf n).core.xDone = false ∧
      s.bundleIllegal n = false ∧ s.slotX n = some (.neg n rd ra)) ∧
    (∃ (s : State) (n : Fin 8) (rd : Fin 16) (imm : BitVec 16), (s.aeOf n).issuing = true ∧ (s.aeOf n).core.xDone = false ∧
      s.bundleIllegal n = false ∧ s.slotX n = some (.movi n rd imm)) ∧
    (∃ (s : State) (n : Fin 8) (rd : Fin 16) (imm : BitVec 16), (s.aeOf n).issuing = true ∧ (s.aeOf n).core.xDone = false ∧
      s.bundleIllegal n = false ∧ s.slotX n = some (.movhi n rd imm)) :=
  ⟨⟨(bundleAt (State.reset.setAe (0 : Fin 8)
    { AeSt.reset with mode := .bg, core := { AeCore.reset with d0 := [5, 0xFFFFFFFF, 0x80000000, 7, 9, 11, 13, 15, 1, 2, 3, 4, 5, 6, 7, 8] } })
    (0 : Fin 8) (.xNop (0 : Fin 8)) (.yNop (0 : Fin 8))), (0), by decide +kernel⟩,
    ⟨(bundleAt (State.reset.setAe (0 : Fin 8)
    { AeSt.reset with mode := .bg, core := { AeCore.reset with d0 := [5, 0xFFFFFFFF, 0x80000000, 7, 9, 11, 13, 15, 1, 2, 3, 4, 5, 6, 7, 8] } })
    (0 : Fin 8) (.add (0 : Fin 8) (0 : Fin 16) (0 : Fin 16) (0 : Fin 16)) (.yNop (0 : Fin 8))), (0), (0), (0), (0),
    by decide +kernel⟩,
    ⟨(bundleAt (State.reset.setAe (0 : Fin 8)
    { AeSt.reset with mode := .bg, core := { AeCore.reset with d0 := [5, 0xFFFFFFFF, 0x80000000, 7, 9, 11, 13, 15, 1, 2, 3, 4, 5, 6, 7, 8] } })
    (0 : Fin 8) (.sub (0 : Fin 8) (0 : Fin 16) (0 : Fin 16) (0 : Fin 16)) (.yNop (0 : Fin 8))), (0), (0), (0), (0),
    by decide +kernel⟩,
    ⟨(bundleAt (State.reset.setAe (0 : Fin 8)
    { AeSt.reset with mode := .bg, core := { AeCore.reset with d0 := [5, 0xFFFFFFFF, 0x80000000, 7, 9, 11, 13, 15, 1, 2, 3, 4, 5, 6, 7, 8] } })
    (0 : Fin 8) (.cmp (0 : Fin 8) (0 : Fin 16) (0 : Fin 16)) (.yNop (0 : Fin 8))), (0), (0), (0), by decide +kernel⟩,
    ⟨(bundleAt (State.reset.setAe (0 : Fin 8)
    { AeSt.reset with mode := .bg, core := { AeCore.reset with d0 := [5, 0xFFFFFFFF, 0x80000000, 7, 9, 11, 13, 15, 1, 2, 3, 4, 5, 6, 7, 8] } })
    (0 : Fin 8) (.adds (0 : Fin 8) (0 : Fin 16) (0 : Fin 16) (0 : Fin 16)) (.yNop (0 : Fin 8))), (0), (0), (0), (0),
    by decide +kernel⟩,
    ⟨(bundleAt (State.reset.setAe (0 : Fin 8)
    { AeSt.reset with mode := .bg, core := { AeCore.reset with d0 := [5, 0xFFFFFFFF, 0x80000000, 7, 9, 11, 13, 15, 1, 2, 3, 4, 5, 6, 7, 8] } })
    (0 : Fin 8) (.subs (0 : Fin 8) (0 : Fin 16) (0 : Fin 16) (0 : Fin 16)) (.yNop (0 : Fin 8))), (0), (0), (0), (0),
    by decide +kernel⟩,
    ⟨(bundleAt (State.reset.setAe (0 : Fin 8)
    { AeSt.reset with mode := .bg, core := { AeCore.reset with d0 := [5, 0xFFFFFFFF, 0x80000000, 7, 9, 11, 13, 15, 1, 2, 3, 4, 5, 6, 7, 8] } })
    (0 : Fin 8) (.and (0 : Fin 8) (0 : Fin 16) (0 : Fin 16) (0 : Fin 16)) (.yNop (0 : Fin 8))), (0), (0), (0), (0),
    by decide +kernel⟩,
    ⟨(bundleAt (State.reset.setAe (0 : Fin 8)
    { AeSt.reset with mode := .bg, core := { AeCore.reset with d0 := [5, 0xFFFFFFFF, 0x80000000, 7, 9, 11, 13, 15, 1, 2, 3, 4, 5, 6, 7, 8] } })
    (0 : Fin 8) (.or (0 : Fin 8) (0 : Fin 16) (0 : Fin 16) (0 : Fin 16)) (.yNop (0 : Fin 8))), (0), (0), (0), (0),
    by decide +kernel⟩,
    ⟨(bundleAt (State.reset.setAe (0 : Fin 8)
    { AeSt.reset with mode := .bg, core := { AeCore.reset with d0 := [5, 0xFFFFFFFF, 0x80000000, 7, 9, 11, 13, 15, 1, 2, 3, 4, 5, 6, 7, 8] } })
    (0 : Fin 8) (.xor (0 : Fin 8) (0 : Fin 16) (0 : Fin 16) (0 : Fin 16)) (.yNop (0 : Fin 8))), (0), (0), (0), (0),
    by decide +kernel⟩,
    ⟨(bundleAt (State.reset.setAe (0 : Fin 8)
    { AeSt.reset with mode := .bg, core := { AeCore.reset with d0 := [5, 0xFFFFFFFF, 0x80000000, 7, 9, 11, 13, 15, 1, 2, 3, 4, 5, 6, 7, 8] } })
    (0 : Fin 8) (.shl (0 : Fin 8) (0 : Fin 16) (0 : Fin 16) (0 : Fin 64)) (.yNop (0 : Fin 8))), (0), (0), (0), (0),
    by decide +kernel⟩,
    ⟨(bundleAt (State.reset.setAe (0 : Fin 8)
    { AeSt.reset with mode := .bg, core := { AeCore.reset with d0 := [5, 0xFFFFFFFF, 0x80000000, 7, 9, 11, 13, 15, 1, 2, 3, 4, 5, 6, 7, 8] } })
    (0 : Fin 8) (.shr (0 : Fin 8) (0 : Fin 16) (0 : Fin 16) (0 : Fin 64)) (.yNop (0 : Fin 8))), (0), (0), (0), (0),
    by decide +kernel⟩,
    ⟨(bundleAt (State.reset.setAe (0 : Fin 8)
    { AeSt.reset with mode := .bg, core := { AeCore.reset with d0 := [5, 0xFFFFFFFF, 0x80000000, 7, 9, 11, 13, 15, 1, 2, 3, 4, 5, 6, 7, 8] } })
    (0 : Fin 8) (.shra (0 : Fin 8) (0 : Fin 16) (0 : Fin 16) (0 : Fin 64)) (.yNop (0 : Fin 8))), (0), (0), (0), (0),
    by decide +kernel⟩,
    ⟨(bundleAt (State.reset.setAe (0 : Fin 8)
    { AeSt.reset with mode := .bg, core := { AeCore.reset with d0 := [5, 0xFFFFFFFF, 0x80000000, 7, 9, 11, 13, 15, 1, 2, 3, 4, 5, 6, 7, 8] } })
    (0 : Fin 8) (.min (0 : Fin 8) (0 : Fin 16) (0 : Fin 16) (0 : Fin 16)) (.yNop (0 : Fin 8))), (0), (0), (0), (0),
    by decide +kernel⟩,
    ⟨(bundleAt (State.reset.setAe (0 : Fin 8)
    { AeSt.reset with mode := .bg, core := { AeCore.reset with d0 := [5, 0xFFFFFFFF, 0x80000000, 7, 9, 11, 13, 15, 1, 2, 3, 4, 5, 6, 7, 8] } })
    (0 : Fin 8) (.max (0 : Fin 8) (0 : Fin 16) (0 : Fin 16) (0 : Fin 16)) (.yNop (0 : Fin 8))), (0), (0), (0), (0),
    by decide +kernel⟩,
    ⟨(bundleAt (State.reset.setAe (0 : Fin 8)
    { AeSt.reset with mode := .bg, core := { AeCore.reset with d0 := [5, 0xFFFFFFFF, 0x80000000, 7, 9, 11, 13, 15, 1, 2, 3, 4, 5, 6, 7, 8] } })
    (0 : Fin 8) (.abs (0 : Fin 8) (0 : Fin 16) (0 : Fin 16)) (.yNop (0 : Fin 8))), (0), (0), (0), by decide +kernel⟩,
    ⟨(bundleAt (State.reset.setAe (0 : Fin 8)
    { AeSt.reset with mode := .bg, core := { AeCore.reset with d0 := [5, 0xFFFFFFFF, 0x80000000, 7, 9, 11, 13, 15, 1, 2, 3, 4, 5, 6, 7, 8] } })
    (0 : Fin 8) (.neg (0 : Fin 8) (0 : Fin 16) (0 : Fin 16)) (.yNop (0 : Fin 8))), (0), (0), (0), by decide +kernel⟩,
    ⟨(bundleAt (State.reset.setAe (0 : Fin 8)
    { AeSt.reset with mode := .bg, core := { AeCore.reset with d0 := [5, 0xFFFFFFFF, 0x80000000, 7, 9, 11, 13, 15, 1, 2, 3, 4, 5, 6, 7, 8] } })
    (0 : Fin 8) (.movi (0 : Fin 8) (0 : Fin 16) (1 : BitVec 16)) (.yNop (0 : Fin 8))), (0), (0), (1), by decide +kernel⟩,
    ⟨(bundleAt (State.reset.setAe (0 : Fin 8)
    { AeSt.reset with mode := .bg, core := { AeCore.reset with d0 := [5, 0xFFFFFFFF, 0x80000000, 7, 9, 11, 13, 15, 1, 2, 3, 4, 5, 6, 7, 8] } })
    (0 : Fin 8) (.movhi (0 : Fin 8) (0 : Fin 16) (1 : BitVec 16)) (.yNop (0 : Fin 8))), (0), (0), (1),
    by decide +kernel⟩⟩

theorem witness_EngineAccumulatorOperationsStart :
    (∃ (s : State) (n : Fin 8) (acc : Fin 2) (ra : Fin 16) (rb : Fin 16), (s.aeOf n).issuing = true ∧ (s.aeOf n).core.xDone
      = false ∧ s.bundleIllegal n = false ∧ s.slotX n = some (.mul n acc ra rb)) ∧
    (∃ (s : State) (n : Fin 8) (acc : Fin 2) (ra : Fin 16) (rb : Fin 16), (s.aeOf n).issuing = true ∧ (s.aeOf n).core.xDone
      = false ∧ s.bundleIllegal n = false ∧ s.slotX n = some (.mac n acc ra rb)) ∧
    (∃ (s : State) (n : Fin 8) (acc : Fin 2) (ra : Fin 16) (rb : Fin 16), (s.aeOf n).issuing = true ∧ (s.aeOf n).core.xDone
      = false ∧ s.bundleIllegal n = false ∧ s.slotX n = some (.msu n acc ra rb)) ∧
    (∃ (s : State) (n : Fin 8) (rd : Fin 16) (ra : Fin 16) (rb : Fin 16), (s.aeOf n).issuing = true ∧ (s.aeOf n).core.xDone
      = false ∧ s.bundleIllegal n = false ∧ s.slotX n = some (.mullo n rd ra rb)) ∧
    (∃ (s : State) (n : Fin 8) (acc : Fin 2) (ra : Fin 16) (sh : Fin 64), (s.aeOf n).issuing = true ∧ (s.aeOf n).core.xDone
      = false ∧ s.bundleIllegal n = false ∧ s.slotX n = some (.ald n acc ra sh)) ∧
    (∃ (s : State) (n : Fin 8) (acc : Fin 2) (ra : Fin 16) (sh : Fin 64), (s.aeOf n).issuing = true ∧ (s.aeOf n).core.xDone
      = false ∧ s.bundleIllegal n = false ∧ s.slotX n = some (.aadd n acc ra sh)) ∧
    (∃ (s : State) (n : Fin 8) (acc : Fin 2) (ra : Fin 16) (sh : Fin 64), (s.aeOf n).issuing = true ∧ (s.aeOf n).core.xDone
      = false ∧ s.bundleIllegal n = false ∧ s.slotX n = some (.asub n acc ra sh)) ∧
    (∃ (s : State) (n : Fin 8) (acc : Fin 2) (ra : Fin 16) (rb : Fin 16), (s.aeOf n).issuing = true ∧ (s.aeOf n).core.xDone
      = false ∧ s.bundleIllegal n = false ∧ s.slotX n = some (.amov n acc ra rb)) ∧
    (∃ (s : State) (n : Fin 8) (rd : Fin 16) (acc : Fin 2) (sh : Fin 64), (s.aeOf n).issuing = true ∧ (s.aeOf n).core.xDone
      = false ∧ s.bundleIllegal n = false ∧ s.slotX n = some (.ext n rd acc sh)) ∧
    (∃ (s : State) (n : Fin 8) (rd : Fin 16) (acc : Fin 2), (s.aeOf n).issuing = true ∧ (s.aeOf n).core.xDone = false ∧
      s.bundleIllegal n = false ∧ s.slotX n = some (.extl n rd acc)) ∧
    (∃ (s : State) (n : Fin 8) (acc : Fin 2) (rb : Fin 16) (first : Bool), (s.aeOf n).issuing = true ∧ (s.aeOf
      n).core.xDone = false ∧ s.bundleIllegal n = false ∧ s.slotX n = some (.divs n acc rb first)) ∧
    (∃ (s : State) (n : Fin 8) (rd : Fin 16) (ra : Fin 16), (s.aeOf n).issuing = true ∧ (s.aeOf n).core.xDone = false ∧
      s.bundleIllegal n = false ∧ s.slotX n = some (.tsin n rd ra)) ∧
    (∃ (s : State) (n : Fin 8) (rd : Fin 16) (ra : Fin 16), (s.aeOf n).issuing = true ∧ (s.aeOf n).core.xDone = false ∧
      s.bundleIllegal n = false ∧ s.slotX n = some (.tcos n rd ra)) ∧
    (∃ (s : State) (n : Fin 8) (rd : Fin 16) (ra : Fin 16), (s.aeOf n).issuing = true ∧ (s.aeOf n).core.xDone = false ∧
      s.bundleIllegal n = false ∧ s.slotX n = some (.rsq n rd ra)) :=
  ⟨⟨(bundleAt (State.reset.setAe (0 : Fin 8)
    { AeSt.reset with mode := .bg, core := { AeCore.reset with d0 := [5, 0xFFFFFFFF, 0x80000000, 7, 9, 11, 13, 15, 1, 2, 3, 4, 5, 6, 7, 8] } })
    (0 : Fin 8) (.mul (0 : Fin 8) (0 : Fin 2) (0 : Fin 16) (0 : Fin 16)) (.yNop (0 : Fin 8))), (0), (0), (0), (0),
    by decide +kernel⟩,
    ⟨(bundleAt (State.reset.setAe (0 : Fin 8)
    { AeSt.reset with mode := .bg, core := { AeCore.reset with d0 := [5, 0xFFFFFFFF, 0x80000000, 7, 9, 11, 13, 15, 1, 2, 3, 4, 5, 6, 7, 8] } })
    (0 : Fin 8) (.mac (0 : Fin 8) (0 : Fin 2) (0 : Fin 16) (0 : Fin 16)) (.yNop (0 : Fin 8))), (0), (0), (0), (0),
    by decide +kernel⟩,
    ⟨(bundleAt (State.reset.setAe (0 : Fin 8)
    { AeSt.reset with mode := .bg, core := { AeCore.reset with d0 := [5, 0xFFFFFFFF, 0x80000000, 7, 9, 11, 13, 15, 1, 2, 3, 4, 5, 6, 7, 8] } })
    (0 : Fin 8) (.msu (0 : Fin 8) (0 : Fin 2) (0 : Fin 16) (0 : Fin 16)) (.yNop (0 : Fin 8))), (0), (0), (0), (0),
    by decide +kernel⟩,
    ⟨(bundleAt (State.reset.setAe (0 : Fin 8)
    { AeSt.reset with mode := .bg, core := { AeCore.reset with d0 := [5, 0xFFFFFFFF, 0x80000000, 7, 9, 11, 13, 15, 1, 2, 3, 4, 5, 6, 7, 8] } })
    (0 : Fin 8) (.mullo (0 : Fin 8) (0 : Fin 16) (0 : Fin 16) (0 : Fin 16)) (.yNop (0 : Fin 8))), (0), (0), (0), (0),
    by decide +kernel⟩,
    ⟨(bundleAt (State.reset.setAe (0 : Fin 8)
    { AeSt.reset with mode := .bg, core := { AeCore.reset with d0 := [5, 0xFFFFFFFF, 0x80000000, 7, 9, 11, 13, 15, 1, 2, 3, 4, 5, 6, 7, 8] } })
    (0 : Fin 8) (.ald (0 : Fin 8) (0 : Fin 2) (0 : Fin 16) (0 : Fin 64)) (.yNop (0 : Fin 8))), (0), (0), (0), (0),
    by decide +kernel⟩,
    ⟨(bundleAt (State.reset.setAe (0 : Fin 8)
    { AeSt.reset with mode := .bg, core := { AeCore.reset with d0 := [5, 0xFFFFFFFF, 0x80000000, 7, 9, 11, 13, 15, 1, 2, 3, 4, 5, 6, 7, 8] } })
    (0 : Fin 8) (.aadd (0 : Fin 8) (0 : Fin 2) (0 : Fin 16) (0 : Fin 64)) (.yNop (0 : Fin 8))), (0), (0), (0), (0),
    by decide +kernel⟩,
    ⟨(bundleAt (State.reset.setAe (0 : Fin 8)
    { AeSt.reset with mode := .bg, core := { AeCore.reset with d0 := [5, 0xFFFFFFFF, 0x80000000, 7, 9, 11, 13, 15, 1, 2, 3, 4, 5, 6, 7, 8] } })
    (0 : Fin 8) (.asub (0 : Fin 8) (0 : Fin 2) (0 : Fin 16) (0 : Fin 64)) (.yNop (0 : Fin 8))), (0), (0), (0), (0),
    by decide +kernel⟩,
    ⟨(bundleAt (State.reset.setAe (0 : Fin 8)
    { AeSt.reset with mode := .bg, core := { AeCore.reset with d0 := [5, 0xFFFFFFFF, 0x80000000, 7, 9, 11, 13, 15, 1, 2, 3, 4, 5, 6, 7, 8] } })
    (0 : Fin 8) (.amov (0 : Fin 8) (0 : Fin 2) (0 : Fin 16) (0 : Fin 16)) (.yNop (0 : Fin 8))), (0), (0), (0), (0),
    by decide +kernel⟩,
    ⟨(bundleAt (State.reset.setAe (0 : Fin 8)
    { AeSt.reset with mode := .bg, core := { AeCore.reset with d0 := [5, 0xFFFFFFFF, 0x80000000, 7, 9, 11, 13, 15, 1, 2, 3, 4, 5, 6, 7, 8] } })
    (0 : Fin 8) (.ext (0 : Fin 8) (0 : Fin 16) (0 : Fin 2) (0 : Fin 64)) (.yNop (0 : Fin 8))), (0), (0), (0), (0),
    by decide +kernel⟩,
    ⟨(bundleAt (State.reset.setAe (0 : Fin 8)
    { AeSt.reset with mode := .bg, core := { AeCore.reset with d0 := [5, 0xFFFFFFFF, 0x80000000, 7, 9, 11, 13, 15, 1, 2, 3, 4, 5, 6, 7, 8] } })
    (0 : Fin 8) (.extl (0 : Fin 8) (0 : Fin 16) (0 : Fin 2)) (.yNop (0 : Fin 8))), (0), (0), (0), by decide +kernel⟩,
    ⟨(bundleAt (State.reset.setAe (0 : Fin 8)
    { AeSt.reset with mode := .bg, core := { AeCore.reset with d0 := [5, 0xFFFFFFFF, 0x80000000, 7, 9, 11, 13, 15, 1, 2, 3, 4, 5, 6, 7, 8] } })
    (0 : Fin 8) (.divs (0 : Fin 8) (0 : Fin 2) (0 : Fin 16) (true : Bool)) (.yNop (0 : Fin 8))), (0), (0), (0), (true),
    by decide +kernel⟩,
    ⟨(bundleAt (State.reset.setAe (0 : Fin 8)
    { AeSt.reset with mode := .bg, core := { AeCore.reset with d0 := [5, 0xFFFFFFFF, 0x80000000, 7, 9, 11, 13, 15, 1, 2, 3, 4, 5, 6, 7, 8] } })
    (0 : Fin 8) (.tsin (0 : Fin 8) (0 : Fin 16) (0 : Fin 16)) (.yNop (0 : Fin 8))), (0), (0), (0), by decide +kernel⟩,
    ⟨(bundleAt (State.reset.setAe (0 : Fin 8)
    { AeSt.reset with mode := .bg, core := { AeCore.reset with d0 := [5, 0xFFFFFFFF, 0x80000000, 7, 9, 11, 13, 15, 1, 2, 3, 4, 5, 6, 7, 8] } })
    (0 : Fin 8) (.tcos (0 : Fin 8) (0 : Fin 16) (0 : Fin 16)) (.yNop (0 : Fin 8))), (0), (0), (0), by decide +kernel⟩,
    ⟨(bundleAt (State.reset.setAe (0 : Fin 8)
    { AeSt.reset with mode := .bg, core := { AeCore.reset with d0 := [5, 0xFFFFFFFF, 0x80000000, 7, 9, 11, 13, 15, 1, 2, 3, 4, 5, 6, 7, 8] } })
    (0 : Fin 8) (.rsq (0 : Fin 8) (0 : Fin 16) (0 : Fin 16)) (.yNop (0 : Fin 8))), (0), (0), (0), by decide +kernel⟩⟩

theorem witness_EngineMemoryOperationsTakeEffect :
    (∃ (s : State) (n : Fin 8), s.straight n ∧ s.issuesY n (.yNop n) = true) ∧
    (∃ (s : State) (n : Fin 8) (rd : Fin 16) (w : BitVec 15), s.straight n ∧ s.issuesY n (.ld n rd (.abs w)) = true) ∧
    (∃ (s : State) (n : Fin 8) (rs : Fin 16) (w : BitVec 15), s.straight n ∧ s.issuesY n (.st n rs (.abs w)) = true) ∧
    (∃ (s : State) (n : Fin 8) (rd : Fin 16) (p : Fin 8) (w : BitVec 10) (a : Nat), s.straight n ∧ s.issuesY n (.ld n rd
      (.off p w)) = true ∧ a = unsigned 32 ((((s.aeOf n).core.p.getD p 0 : Nat) : Int) + 4 * signed 10 w.toNat) ∧ a <
      0x20000) ∧
    (∃ (s : State) (n : Fin 8) (rs : Fin 16) (p : Fin 8) (w : BitVec 10) (a : Nat), s.straight n ∧ s.issuesY n (.st n rs
      (.off p w)) = true ∧ a = unsigned 32 ((((s.aeOf n).core.p.getD p 0 : Nat) : Int) + 4 * signed 10 w.toNat) ∧ a <
      0x20000) ∧
    (∃ (s : State) (n : Fin 8) (rd : Fin 16) (p : Fin 8) (w : BitVec 10) (a : Nat), s.straight n ∧ s.issuesY n (.ld n rd
      (.post p w)) = true ∧ a = (s.aeOf n).core.p.getD p 0 ∧ a < 0x20000) ∧
    (∃ (s : State) (n : Fin 8) (rs : Fin 16) (p : Fin 8) (w : BitVec 10) (a : Nat), s.straight n ∧ s.issuesY n (.st n rs
      (.post p w)) = true ∧ a = (s.aeOf n).core.p.getD p 0 ∧ a < 0x20000) ∧
    (∃ (s : State) (n : Fin 8) (rd : Fin 16) (w : BitVec 15), s.straight n ∧ s.issuesY n (.ldd n rd (.abs w)) = true ∧
      rd.val % 2 = 0) ∧
    (∃ (s : State) (n : Fin 8) (rs : Fin 16) (w : BitVec 15), s.straight n ∧ s.issuesY n (.std n rs (.abs w)) = true ∧
      rs.val % 2 = 0) ∧
    (∃ (s : State) (n : Fin 8) (pair : Fin 13) (w : BitVec 15), s.straight n ∧ s.issuesY n (.lds n pair w) = true) ∧
    (∃ (s : State) (n : Fin 8) (pair : Fin 13) (w : BitVec 15), s.straight n ∧ s.issuesY n (.sts n pair w) = true) ∧
    (∃ (s : State) (n : Fin 8) (rd : Fin 16) (spr : Fin 21), s.straight n ∧ s.issuesY n (.mfs n rd spr) = true) ∧
    (∃ (s : State) (n : Fin 8) (spr : Fin 21) (rs : Fin 16), s.straight n ∧ s.issuesY n (.mts n spr rs) = true ∧ spr.val <
      8) ∧
    (∃ (s : State) (n : Fin 8) (spr : Fin 21) (rs : Fin 16), s.straight n ∧ s.issuesY n (.mts n spr rs) = true ∧ 8 ≤
      spr.val ∧ spr.val < 16) ∧
    (∃ (s : State) (n : Fin 8) (spr : Fin 21) (rs : Fin 16), s.straight n ∧ s.issuesY n (.mts n spr rs) = true ∧ 16 ≤
      spr.val ∧ spr.val < 18) ∧
    (∃ (s : State) (n : Fin 8) (spr : Fin 21) (rs : Fin 16), s.straight n ∧ s.issuesY n (.mts n spr rs) = true ∧ 18 ≤
      spr.val ∧ spr.val < 20) ∧
    (∃ (s : State) (n : Fin 8) (spr : Fin 21) (rs : Fin 16), s.straight n ∧ s.issuesY n (.mts n spr rs) = true ∧ spr.val =
      20) ∧
    (∃ (s : State) (n : Fin 8), s.issuesY n (.yNop n) = true ∧ (s.aeOf n).yieldDue = false) ∧
    (∃ (s : State) (n : Fin 8) (rd : Fin 16) (addr : EAddr), s.issuesY n (.ld n rd addr) = true ∧ (s.aeOf n).yieldDue =
      false) ∧
    (∃ (s : State) (n : Fin 8) (rd : Fin 16) (addr : EAddr), s.issuesY n (.ld n rd addr) = true ∧ (s.aeOf n).yieldDue =
      false ∧ eKind n ((s.aeOf n).address addr).1 = .unmapped ∧ ((s.aeOf n).address addr).1 % 4 = 0) ∧
    (∃ (s : State) (n : Fin 8) (rs : Fin 16) (addr : EAddr), s.issuesY n (.st n rs addr) = true ∧ (s.aeOf n).yieldDue =
      false) ∧
    (∃ (s : State) (n : Fin 8) (rs : Fin 16) (addr : EAddr), s.issuesY n (.st n rs addr) = true ∧ (s.aeOf n).yieldDue =
      false ∧ (eKind n (((s.aeOf n).address addr).1 / 4 * 4) = .page ∨ eKind n (((s.aeOf n).address addr).1 / 4 * 4) =
      .otherState ∨ eKind n (((s.aeOf n).address addr).1 / 4 * 4) = .unmapped)) ∧
    (∃ (s : State) (n : Fin 8) (rd : Fin 16) (addr : EAddr), s.issuesY n (.ldd n rd addr) = true ∧ (s.aeOf n).yieldDue =
      false ∧ rd.val % 2 = 0) ∧
    (∃ (s : State) (n : Fin 8) (rs : Fin 16) (addr : EAddr), s.issuesY n (.std n rs addr) = true ∧ (s.aeOf n).yieldDue =
      false ∧ rs.val % 2 = 0) ∧
    (∃ (s : State) (n : Fin 8) (pair : Fin 13) (w : BitVec 15), s.issuesY n (.lds n pair w) = true ∧ (s.aeOf n).yieldDue =
      false) ∧
    (∃ (s : State) (n : Fin 8) (pair : Fin 13) (w : BitVec 15), s.issuesY n (.sts n pair w) = true ∧ (s.aeOf n).yieldDue =
      false) ∧
    (∃ (s : State) (n : Fin 8) (rd : Fin 16) (spr : Fin 21), s.issuesY n (.mfs n rd spr) = true ∧ (s.aeOf n).yieldDue =
      false) ∧
    (∃ (s : State) (n : Fin 8) (spr : Fin 21) (rs : Fin 16), s.issuesY n (.mts n spr rs) = true ∧ (s.aeOf n).yieldDue =
      false ∧ 0 ≤ spr.val ∧ spr.val < 8) ∧
    (∃ (s : State) (n : Fin 8) (spr : Fin 21) (rs : Fin 16), s.issuesY n (.mts n spr rs) = true ∧ (s.aeOf n).yieldDue =
      false ∧ 8 ≤ spr.val ∧ spr.val < 16) ∧
    (∃ (s : State) (n : Fin 8) (spr : Fin 21) (rs : Fin 16), s.issuesY n (.mts n spr rs) = true ∧ (s.aeOf n).yieldDue =
      false ∧ 16 ≤ spr.val ∧ spr.val < 18) ∧
    (∃ (s : State) (n : Fin 8) (spr : Fin 21) (rs : Fin 16), s.issuesY n (.mts n spr rs) = true ∧ (s.aeOf n).yieldDue =
      false ∧ 18 ≤ spr.val ∧ spr.val < 20) ∧
    (∃ (s : State) (n : Fin 8) (spr : Fin 21) (rs : Fin 16), s.issuesY n (.mts n spr rs) = true ∧ (s.aeOf n).yieldDue =
      false ∧ spr.val = 20) ∧
    (∃ (s : State) (n : Fin 8) (rd : Fin 16) (_addr : EAddr), (s.aeOf n).mode = .bg ∧ s.bundleIllegal n = true ∧ rd.val % 2
      = 1) ∧
    (∃ (s : State) (n : Fin 8) (rd : Fin 16) (_addr : EAddr), (s.aeOf n).mode = .bg ∧ s.bundleIllegal n = true ∧ rd.val % 2
      = 1) :=
  ⟨⟨(bundleAt (State.reset.setAe (0 : Fin 8)
    { AeSt.reset with mode := .bg, core := { AeCore.reset with d0 := [5, 0xFFFFFFFF, 0x80000000, 7, 9, 11, 13, 15, 1, 2, 3, 4, 5, 6, 7, 8], pc := 40, p := [16, 32, 0x40000, 0x40100, 0x80000, 0x90000, 0x1000000, 0xFFFFFFFC], m := [64, 0, 0, 0, 0, 0, 0, 0] } })
    (0 : Fin 8) (.xNop (0 : Fin 8)) (.yNop (0 : Fin 8))), (0), by decide +kernel⟩,
    ⟨(bundleAt (State.reset.setAe (0 : Fin 8)
    { AeSt.reset with mode := .bg, core := { AeCore.reset with d0 := [5, 0xFFFFFFFF, 0x80000000, 7, 9, 11, 13, 15, 1, 2, 3, 4, 5, 6, 7, 8], pc := 40, p := [16, 32, 0x40000, 0x40100, 0x80000, 0x90000, 0x1000000, 0xFFFFFFFC], m := [64, 0, 0, 0, 0, 0, 0, 0] } })
    (0 : Fin 8) (.xNop (0 : Fin 8)) (.ld (0 : Fin 8) (0 : Fin 16) (.abs (1 : BitVec 15)))), (0), (0), (1),
    by decide +kernel⟩,
    ⟨(bundleAt (State.reset.setAe (0 : Fin 8)
    { AeSt.reset with mode := .bg, core := { AeCore.reset with d0 := [5, 0xFFFFFFFF, 0x80000000, 7, 9, 11, 13, 15, 1, 2, 3, 4, 5, 6, 7, 8], pc := 40, p := [16, 32, 0x40000, 0x40100, 0x80000, 0x90000, 0x1000000, 0xFFFFFFFC], m := [64, 0, 0, 0, 0, 0, 0, 0] } })
    (0 : Fin 8) (.xNop (0 : Fin 8)) (.st (0 : Fin 8) (0 : Fin 16) (.abs (1 : BitVec 15)))), (0), (0), (1),
    by decide +kernel⟩,
    ⟨(bundleAt (State.reset.setAe (0 : Fin 8)
    { AeSt.reset with mode := .bg, core := { AeCore.reset with d0 := [5, 0xFFFFFFFF, 0x80000000, 7, 9, 11, 13, 15, 1, 2, 3, 4, 5, 6, 7, 8], pc := 40, p := [16, 32, 0x40000, 0x40100, 0x80000, 0x90000, 0x1000000, 0xFFFFFFFC], m := [64, 0, 0, 0, 0, 0, 0, 0] } })
    (0 : Fin 8) (.xNop (0 : Fin 8)) (.ld (0 : Fin 8) (0 : Fin 16) (.off (1 : Fin 8) (2 : BitVec 10)))), (0), (0), (1),
    (2), (40), by decide +kernel⟩,
    ⟨(bundleAt (State.reset.setAe (0 : Fin 8)
    { AeSt.reset with mode := .bg, core := { AeCore.reset with d0 := [5, 0xFFFFFFFF, 0x80000000, 7, 9, 11, 13, 15, 1, 2, 3, 4, 5, 6, 7, 8], pc := 40, p := [16, 32, 0x40000, 0x40100, 0x80000, 0x90000, 0x1000000, 0xFFFFFFFC], m := [64, 0, 0, 0, 0, 0, 0, 0] } })
    (0 : Fin 8) (.xNop (0 : Fin 8)) (.st (0 : Fin 8) (0 : Fin 16) (.off (1 : Fin 8) (2 : BitVec 10)))), (0), (0), (1),
    (2), (40), by decide +kernel⟩,
    ⟨(bundleAt (State.reset.setAe (0 : Fin 8)
    { AeSt.reset with mode := .bg, core := { AeCore.reset with d0 := [5, 0xFFFFFFFF, 0x80000000, 7, 9, 11, 13, 15, 1, 2, 3, 4, 5, 6, 7, 8], pc := 40, p := [16, 32, 0x40000, 0x40100, 0x80000, 0x90000, 0x1000000, 0xFFFFFFFC], m := [64, 0, 0, 0, 0, 0, 0, 0] } })
    (0 : Fin 8) (.xNop (0 : Fin 8)) (.ld (0 : Fin 8) (0 : Fin 16) (.post (1 : Fin 8) (2 : BitVec 10)))), (0), (0), (1),
    (2), (32), by decide +kernel⟩,
    ⟨(bundleAt (State.reset.setAe (0 : Fin 8)
    { AeSt.reset with mode := .bg, core := { AeCore.reset with d0 := [5, 0xFFFFFFFF, 0x80000000, 7, 9, 11, 13, 15, 1, 2, 3, 4, 5, 6, 7, 8], pc := 40, p := [16, 32, 0x40000, 0x40100, 0x80000, 0x90000, 0x1000000, 0xFFFFFFFC], m := [64, 0, 0, 0, 0, 0, 0, 0] } })
    (0 : Fin 8) (.xNop (0 : Fin 8)) (.st (0 : Fin 8) (0 : Fin 16) (.post (1 : Fin 8) (2 : BitVec 10)))), (0), (0), (1),
    (2), (32), by decide +kernel⟩,
    ⟨(bundleAt (State.reset.setAe (0 : Fin 8)
    { AeSt.reset with mode := .bg, core := { AeCore.reset with d0 := [5, 0xFFFFFFFF, 0x80000000, 7, 9, 11, 13, 15, 1, 2, 3, 4, 5, 6, 7, 8], pc := 40, p := [16, 32, 0x40000, 0x40100, 0x80000, 0x90000, 0x1000000, 0xFFFFFFFC], m := [64, 0, 0, 0, 0, 0, 0, 0] } })
    (0 : Fin 8) (.xNop (0 : Fin 8)) (.ldd (0 : Fin 8) (0 : Fin 16) (.abs (1 : BitVec 15)))), (0), (0), (1),
    by decide +kernel⟩,
    ⟨(bundleAt (State.reset.setAe (0 : Fin 8)
    { AeSt.reset with mode := .bg, core := { AeCore.reset with d0 := [5, 0xFFFFFFFF, 0x80000000, 7, 9, 11, 13, 15, 1, 2, 3, 4, 5, 6, 7, 8], pc := 40, p := [16, 32, 0x40000, 0x40100, 0x80000, 0x90000, 0x1000000, 0xFFFFFFFC], m := [64, 0, 0, 0, 0, 0, 0, 0] } })
    (0 : Fin 8) (.xNop (0 : Fin 8)) (.std (0 : Fin 8) (0 : Fin 16) (.abs (1 : BitVec 15)))), (0), (0), (1),
    by decide +kernel⟩,
    ⟨(bundleAt (State.reset.setAe (0 : Fin 8)
    { AeSt.reset with mode := .bg, core := { AeCore.reset with d0 := [5, 0xFFFFFFFF, 0x80000000, 7, 9, 11, 13, 15, 1, 2, 3, 4, 5, 6, 7, 8], pc := 40, p := [16, 32, 0x40000, 0x40100, 0x80000, 0x90000, 0x1000000, 0xFFFFFFFC], m := [64, 0, 0, 0, 0, 0, 0, 0] } })
    (0 : Fin 8) (.xNop (0 : Fin 8)) (.lds (0 : Fin 8) (0 : Fin 13) (1 : BitVec 15))), (0), (0), (1), by decide +kernel⟩,
    ⟨(bundleAt (State.reset.setAe (0 : Fin 8)
    { AeSt.reset with mode := .bg, core := { AeCore.reset with d0 := [5, 0xFFFFFFFF, 0x80000000, 7, 9, 11, 13, 15, 1, 2, 3, 4, 5, 6, 7, 8], pc := 40, p := [16, 32, 0x40000, 0x40100, 0x80000, 0x90000, 0x1000000, 0xFFFFFFFC], m := [64, 0, 0, 0, 0, 0, 0, 0] } })
    (0 : Fin 8) (.xNop (0 : Fin 8)) (.sts (0 : Fin 8) (0 : Fin 13) (1 : BitVec 15))), (0), (0), (1), by decide +kernel⟩,
    ⟨(bundleAt (State.reset.setAe (0 : Fin 8)
    { AeSt.reset with mode := .bg, core := { AeCore.reset with d0 := [5, 0xFFFFFFFF, 0x80000000, 7, 9, 11, 13, 15, 1, 2, 3, 4, 5, 6, 7, 8], pc := 40, p := [16, 32, 0x40000, 0x40100, 0x80000, 0x90000, 0x1000000, 0xFFFFFFFC], m := [64, 0, 0, 0, 0, 0, 0, 0] } })
    (0 : Fin 8) (.xNop (0 : Fin 8)) (.mfs (0 : Fin 8) (0 : Fin 16) (0 : Fin 21))), (0), (0), (0), by decide +kernel⟩,
    ⟨(bundleAt (State.reset.setAe (0 : Fin 8)
    { AeSt.reset with mode := .bg, core := { AeCore.reset with d0 := [5, 0xFFFFFFFF, 0x80000000, 7, 9, 11, 13, 15, 1, 2, 3, 4, 5, 6, 7, 8], pc := 40, p := [16, 32, 0x40000, 0x40100, 0x80000, 0x90000, 0x1000000, 0xFFFFFFFC], m := [64, 0, 0, 0, 0, 0, 0, 0] } })
    (0 : Fin 8) (.xNop (0 : Fin 8)) (.mts (0 : Fin 8) (0 : Fin 21) (0 : Fin 16))), (0), (0), (0), by decide +kernel⟩,
    ⟨(bundleAt (State.reset.setAe (0 : Fin 8)
    { AeSt.reset with mode := .bg, core := { AeCore.reset with d0 := [5, 0xFFFFFFFF, 0x80000000, 7, 9, 11, 13, 15, 1, 2, 3, 4, 5, 6, 7, 8], pc := 40, p := [16, 32, 0x40000, 0x40100, 0x80000, 0x90000, 0x1000000, 0xFFFFFFFC], m := [64, 0, 0, 0, 0, 0, 0, 0] } })
    (0 : Fin 8) (.xNop (0 : Fin 8)) (.mts (0 : Fin 8) (9 : Fin 21) (0 : Fin 16))), (0), (9), (0), by decide +kernel⟩,
    ⟨(bundleAt (State.reset.setAe (0 : Fin 8)
    { AeSt.reset with mode := .bg, core := { AeCore.reset with d0 := [5, 0xFFFFFFFF, 0x80000000, 7, 9, 11, 13, 15, 1, 2, 3, 4, 5, 6, 7, 8], pc := 40, p := [16, 32, 0x40000, 0x40100, 0x80000, 0x90000, 0x1000000, 0xFFFFFFFC], m := [64, 0, 0, 0, 0, 0, 0, 0] } })
    (0 : Fin 8) (.xNop (0 : Fin 8)) (.mts (0 : Fin 8) (17 : Fin 21) (0 : Fin 16))), (0), (17), (0), by decide +kernel⟩,
    ⟨(bundleAt (State.reset.setAe (0 : Fin 8)
    { AeSt.reset with mode := .bg, core := { AeCore.reset with d0 := [5, 0xFFFFFFFF, 0x80000000, 7, 9, 11, 13, 15, 1, 2, 3, 4, 5, 6, 7, 8], pc := 40, p := [16, 32, 0x40000, 0x40100, 0x80000, 0x90000, 0x1000000, 0xFFFFFFFC], m := [64, 0, 0, 0, 0, 0, 0, 0] } })
    (0 : Fin 8) (.xNop (0 : Fin 8)) (.mts (0 : Fin 8) (18 : Fin 21) (0 : Fin 16))), (0), (18), (0), by decide +kernel⟩,
    ⟨(bundleAt (State.reset.setAe (0 : Fin 8)
    { AeSt.reset with mode := .bg, core := { AeCore.reset with d0 := [5, 0xFFFFFFFF, 0x80000000, 7, 9, 11, 13, 15, 1, 2, 3, 4, 5, 6, 7, 8], pc := 40, p := [16, 32, 0x40000, 0x40100, 0x80000, 0x90000, 0x1000000, 0xFFFFFFFC], m := [64, 0, 0, 0, 0, 0, 0, 0] } })
    (0 : Fin 8) (.xNop (0 : Fin 8)) (.mts (0 : Fin 8) (20 : Fin 21) (0 : Fin 16))), (0), (20), (0), by decide +kernel⟩,
    ⟨(bundleAt (State.reset.setAe (0 : Fin 8)
    { AeSt.reset with mode := .slot, slot := ⟨3, 0, 100, 0, true, 1, 0, 0, 0⟩, core := { AeCore.reset with d1 := [5, 0xFFFFFFFF, 0x80000000, 7, 9, 11, 13, 15, 1, 2, 3, 4, 5, 6, 7, 8], pc := 40, p := [16, 32, 0x40000, 0x40100, 0x80000, 0x90000, 0x1000000, 0xFFFFFFFC], flights := [⟨1, 0, [(.d 0 3, 77)], none, 3, 1, 0⟩, ⟨4, 1, [(.acc 0, 88)], some 0, 0, 0, 0⟩] } })
    (0 : Fin 8) (.xNop (0 : Fin 8)) (.yNop (0 : Fin 8))), (0), by decide +kernel⟩,
    ⟨(bundleAt (State.reset.setAe (0 : Fin 8)
    { AeSt.reset with mode := .slot, slot := ⟨3, 0, 100, 0, true, 1, 0, 0, 0⟩, core := { AeCore.reset with d1 := [5, 0xFFFFFFFF, 0x80000000, 7, 9, 11, 13, 15, 1, 2, 3, 4, 5, 6, 7, 8], pc := 40, p := [16, 32, 0x40000, 0x40100, 0x80000, 0x90000, 0x1000000, 0xFFFFFFFC], flights := [⟨1, 0, [(.d 0 3, 77)], none, 3, 1, 0⟩, ⟨4, 1, [(.acc 0, 88)], some 0, 0, 0, 0⟩] } })
    (0 : Fin 8) (.xNop (0 : Fin 8)) (.ld (0 : Fin 8) (0 : Fin 16) (.off 4 3 : EAddr))), (0), (0), (.off 4 3),
    by decide +kernel⟩,
    ⟨(bundleAt (State.reset.setAe (0 : Fin 8)
    { AeSt.reset with mode := .slot, slot := ⟨3, 0, 100, 0, true, 1, 0, 0, 0⟩, core := { AeCore.reset with d1 := [5, 0xFFFFFFFF, 0x80000000, 7, 9, 11, 13, 15, 1, 2, 3, 4, 5, 6, 7, 8], pc := 40, p := [16, 32, 0x40000, 0x40100, 0x80000, 0x90000, 0x1000000, 0xFFFFFFFC], flights := [⟨1, 0, [(.d 0 3, 77)], none, 3, 1, 0⟩, ⟨4, 1, [(.acc 0, 88)], some 0, 0, 0, 0⟩] } })
    (0 : Fin 8) (.xNop (0 : Fin 8)) (.ld (0 : Fin 8) (0 : Fin 16) (.off 6 0 : EAddr))), (0), (0), (.off 6 0),
    by decide +kernel⟩,
    ⟨(bundleAt (State.reset.setAe (0 : Fin 8)
    { AeSt.reset with mode := .slot, slot := ⟨3, 0, 100, 0, true, 1, 0, 0, 0⟩, core := { AeCore.reset with d1 := [5, 0xFFFFFFFF, 0x80000000, 7, 9, 11, 13, 15, 1, 2, 3, 4, 5, 6, 7, 8], pc := 40, p := [16, 32, 0x40000, 0x40100, 0x80000, 0x90000, 0x1000000, 0xFFFFFFFC], flights := [⟨1, 0, [(.d 0 3, 77)], none, 3, 1, 0⟩, ⟨4, 1, [(.acc 0, 88)], some 0, 0, 0, 0⟩] } })
    (0 : Fin 8) (.xNop (0 : Fin 8)) (.st (0 : Fin 8) (0 : Fin 16) (.post 4 3 : EAddr))), (0), (0), (.post 4 3),
    by decide +kernel⟩,
    ⟨(bundleAt (State.reset.setAe (0 : Fin 8)
    { AeSt.reset with mode := .slot, slot := ⟨3, 0, 100, 0, true, 1, 0, 0, 0⟩, core := { AeCore.reset with d1 := [5, 0xFFFFFFFF, 0x80000000, 7, 9, 11, 13, 15, 1, 2, 3, 4, 5, 6, 7, 8], pc := 40, p := [16, 32, 0x40000, 0x40100, 0x80000, 0x90000, 0x1000000, 0xFFFFFFFC], flights := [⟨1, 0, [(.d 0 3, 77)], none, 3, 1, 0⟩, ⟨4, 1, [(.acc 0, 88)], some 0, 0, 0, 0⟩] } })
    (0 : Fin 8) (.xNop (0 : Fin 8)) (.st (0 : Fin 8) (0 : Fin 16) (.off 2 0 : EAddr))), (0), (0), (.off 2 0),
    by decide +kernel⟩,
    ⟨(bundleAt (State.reset.setAe (0 : Fin 8)
    { AeSt.reset with mode := .slot, slot := ⟨3, 0, 100, 0, true, 1, 0, 0, 0⟩, core := { AeCore.reset with d1 := [5, 0xFFFFFFFF, 0x80000000, 7, 9, 11, 13, 15, 1, 2, 3, 4, 5, 6, 7, 8], pc := 40, p := [16, 32, 0x40000, 0x40100, 0x80000, 0x90000, 0x1000000, 0xFFFFFFFC], flights := [⟨1, 0, [(.d 0 3, 77)], none, 3, 1, 0⟩, ⟨4, 1, [(.acc 0, 88)], some 0, 0, 0, 0⟩] } })
    (0 : Fin 8) (.xNop (0 : Fin 8)) (.ldd (0 : Fin 8) (4 : Fin 16) (.off 5 1 : EAddr))), (0), (4), (.off 5 1),
    by decide +kernel⟩,
    ⟨(bundleAt (State.reset.setAe (0 : Fin 8)
    { AeSt.reset with mode := .slot, slot := ⟨3, 0, 100, 0, true, 1, 0, 0, 0⟩, core := { AeCore.reset with d1 := [5, 0xFFFFFFFF, 0x80000000, 7, 9, 11, 13, 15, 1, 2, 3, 4, 5, 6, 7, 8], pc := 40, p := [16, 32, 0x40000, 0x40100, 0x80000, 0x90000, 0x1000000, 0xFFFFFFFC], flights := [⟨1, 0, [(.d 0 3, 77)], none, 3, 1, 0⟩, ⟨4, 1, [(.acc 0, 88)], some 0, 0, 0, 0⟩] } })
    (0 : Fin 8) (.xNop (0 : Fin 8)) (.std (0 : Fin 8) (4 : Fin 16) (.off 4 2 : EAddr))), (0), (4), (.off 4 2),
    by decide +kernel⟩,
    ⟨(bundleAt (State.reset.setAe (0 : Fin 8)
    { AeSt.reset with mode := .slot, slot := ⟨3, 0, 100, 0, true, 1, 0, 0, 0⟩, core := { AeCore.reset with d1 := [5, 0xFFFFFFFF, 0x80000000, 7, 9, 11, 13, 15, 1, 2, 3, 4, 5, 6, 7, 8], pc := 40, p := [16, 32, 0x40000, 0x40100, 0x80000, 0x90000, 0x1000000, 0xFFFFFFFC], flights := [⟨1, 0, [(.d 0 3, 77)], none, 3, 1, 0⟩, ⟨4, 1, [(.acc 0, 88)], some 0, 0, 0, 0⟩] } })
    (0 : Fin 8) (.xNop (0 : Fin 8)) (.lds (0 : Fin 8) (0 : Fin 13) (1 : BitVec 15))), (0), (0), (1), by decide +kernel⟩,
    ⟨(bundleAt (State.reset.setAe (0 : Fin 8)
    { AeSt.reset with mode := .slot, slot := ⟨3, 0, 100, 0, true, 1, 0, 0, 0⟩, core := { AeCore.reset with d1 := [5, 0xFFFFFFFF, 0x80000000, 7, 9, 11, 13, 15, 1, 2, 3, 4, 5, 6, 7, 8], pc := 40, p := [16, 32, 0x40000, 0x40100, 0x80000, 0x90000, 0x1000000, 0xFFFFFFFC], flights := [⟨1, 0, [(.d 0 3, 77)], none, 3, 1, 0⟩, ⟨4, 1, [(.acc 0, 88)], some 0, 0, 0, 0⟩] } })
    (0 : Fin 8) (.xNop (0 : Fin 8)) (.sts (0 : Fin 8) (0 : Fin 13) (1 : BitVec 15))), (0), (0), (1), by decide +kernel⟩,
    ⟨(bundleAt (State.reset.setAe (0 : Fin 8)
    { AeSt.reset with mode := .slot, slot := ⟨3, 0, 100, 0, true, 1, 0, 0, 0⟩, core := { AeCore.reset with d1 := [5, 0xFFFFFFFF, 0x80000000, 7, 9, 11, 13, 15, 1, 2, 3, 4, 5, 6, 7, 8], pc := 40, p := [16, 32, 0x40000, 0x40100, 0x80000, 0x90000, 0x1000000, 0xFFFFFFFC], flights := [⟨1, 0, [(.d 0 3, 77)], none, 3, 1, 0⟩, ⟨4, 1, [(.acc 0, 88)], some 0, 0, 0, 0⟩] } })
    (0 : Fin 8) (.xNop (0 : Fin 8)) (.mfs (0 : Fin 8) (0 : Fin 16) (0 : Fin 21))), (0), (0), (0), by decide +kernel⟩,
    ⟨(bundleAt (State.reset.setAe (0 : Fin 8)
    { AeSt.reset with mode := .slot, slot := ⟨3, 0, 100, 0, true, 1, 0, 0, 0⟩, core := { AeCore.reset with d1 := [5, 0xFFFFFFFF, 0x80000000, 7, 9, 11, 13, 15, 1, 2, 3, 4, 5, 6, 7, 8], pc := 40, p := [16, 32, 0x40000, 0x40100, 0x80000, 0x90000, 0x1000000, 0xFFFFFFFC], flights := [⟨1, 0, [(.d 0 3, 77)], none, 3, 1, 0⟩, ⟨4, 1, [(.acc 0, 88)], some 0, 0, 0, 0⟩] } })
    (0 : Fin 8) (.xNop (0 : Fin 8)) (.mts (0 : Fin 8) (0 : Fin 21) (0 : Fin 16))), (0), (0), (0), by decide +kernel⟩,
    ⟨(bundleAt (State.reset.setAe (0 : Fin 8)
    { AeSt.reset with mode := .slot, slot := ⟨3, 0, 100, 0, true, 1, 0, 0, 0⟩, core := { AeCore.reset with d1 := [5, 0xFFFFFFFF, 0x80000000, 7, 9, 11, 13, 15, 1, 2, 3, 4, 5, 6, 7, 8], pc := 40, p := [16, 32, 0x40000, 0x40100, 0x80000, 0x90000, 0x1000000, 0xFFFFFFFC], flights := [⟨1, 0, [(.d 0 3, 77)], none, 3, 1, 0⟩, ⟨4, 1, [(.acc 0, 88)], some 0, 0, 0, 0⟩] } })
    (0 : Fin 8) (.xNop (0 : Fin 8)) (.mts (0 : Fin 8) (8 : Fin 21) (0 : Fin 16))), (0), (8), (0), by decide +kernel⟩,
    ⟨(bundleAt (State.reset.setAe (0 : Fin 8)
    { AeSt.reset with mode := .slot, slot := ⟨3, 0, 100, 0, true, 1, 0, 0, 0⟩, core := { AeCore.reset with d1 := [5, 0xFFFFFFFF, 0x80000000, 7, 9, 11, 13, 15, 1, 2, 3, 4, 5, 6, 7, 8], pc := 40, p := [16, 32, 0x40000, 0x40100, 0x80000, 0x90000, 0x1000000, 0xFFFFFFFC], flights := [⟨1, 0, [(.d 0 3, 77)], none, 3, 1, 0⟩, ⟨4, 1, [(.acc 0, 88)], some 0, 0, 0, 0⟩] } })
    (0 : Fin 8) (.xNop (0 : Fin 8)) (.mts (0 : Fin 8) (16 : Fin 21) (0 : Fin 16))), (0), (16), (0), by decide +kernel⟩,
    ⟨(bundleAt (State.reset.setAe (0 : Fin 8)
    { AeSt.reset with mode := .slot, slot := ⟨3, 0, 100, 0, true, 1, 0, 0, 0⟩, core := { AeCore.reset with d1 := [5, 0xFFFFFFFF, 0x80000000, 7, 9, 11, 13, 15, 1, 2, 3, 4, 5, 6, 7, 8], pc := 40, p := [16, 32, 0x40000, 0x40100, 0x80000, 0x90000, 0x1000000, 0xFFFFFFFC], flights := [⟨1, 0, [(.d 0 3, 77)], none, 3, 1, 0⟩, ⟨4, 1, [(.acc 0, 88)], some 0, 0, 0, 0⟩] } })
    (0 : Fin 8) (.xNop (0 : Fin 8)) (.mts (0 : Fin 8) (18 : Fin 21) (0 : Fin 16))), (0), (18), (0), by decide +kernel⟩,
    ⟨(bundleAt (State.reset.setAe (0 : Fin 8)
    { AeSt.reset with mode := .slot, slot := ⟨3, 0, 100, 0, true, 1, 0, 0, 0⟩, core := { AeCore.reset with d1 := [5, 0xFFFFFFFF, 0x80000000, 7, 9, 11, 13, 15, 1, 2, 3, 4, 5, 6, 7, 8], pc := 40, p := [16, 32, 0x40000, 0x40100, 0x80000, 0x90000, 0x1000000, 0xFFFFFFFC], flights := [⟨1, 0, [(.d 0 3, 77)], none, 3, 1, 0⟩, ⟨4, 1, [(.acc 0, 88)], some 0, 0, 0, 0⟩] } })
    (0 : Fin 8) (.xNop (0 : Fin 8)) (.mts (0 : Fin 8) (20 : Fin 21) (0 : Fin 16))), (0), (20), (0), by decide +kernel⟩,
    ⟨(bundleAt (State.reset.setAe (0 : Fin 8)
    { AeSt.reset with mode := .bg, core := { AeCore.reset with d0 := [5, 0xFFFFFFFF, 0x80000000, 7, 9, 11, 13, 15, 1, 2, 3, 4, 5, 6, 7, 8], pc := 40, p := [16, 32, 0x40000, 0x40100, 0x80000, 0x90000, 0x1000000, 0xFFFFFFFC], m := [64, 0, 0, 0, 0, 0, 0, 0] } })
    (0 : Fin 8) (.xNop (0 : Fin 8)) (.ldd (0 : Fin 8) (5 : Fin 16) (.off 0 0 : EAddr))), (0), (5), (.off 0 0),
    by decide +kernel⟩,
    ⟨(bundleAt (State.reset.setAe (0 : Fin 8)
    { AeSt.reset with mode := .bg, core := { AeCore.reset with d0 := [5, 0xFFFFFFFF, 0x80000000, 7, 9, 11, 13, 15, 1, 2, 3, 4, 5, 6, 7, 8], pc := 40, p := [16, 32, 0x40000, 0x40100, 0x80000, 0x90000, 0x1000000, 0xFFFFFFFC], m := [64, 0, 0, 0, 0, 0, 0, 0] } })
    (0 : Fin 8) (.xNop (0 : Fin 8)) (.std (0 : Fin 8) (5 : Fin 16) (.off 0 0 : EAddr))), (0), (5), (.off 0 0),
    by decide +kernel⟩⟩

theorem witness_EngineFlowOperationsTakeEffect :
    (∃ (s : State) (n : Fin 8) (b : BitVec 13), s.straight n ∧ s.issuesY n (.jmp n b) = true) ∧
    (∃ (s : State) (n : Fin 8) (c : Fin 11) (b : BitVec 13), s.straight n ∧ s.issuesY n (.brcc n c b) = true) ∧
    (∃ (s : State) (n : Fin 8) (l : Fin 2) (count : Fin 4096) (last : BitVec 13), s.straight n ∧ s.issuesY n (.loop n l
      count last) = true ∧ last.toNat ≠ (s.aeOf n).core.pc) ∧
    (∃ (s : State) (n : Fin 8) (l : Fin 2) (rs : Fin 16) (last : BitVec 13), s.straight n ∧ s.issuesY n (.loopr n l rs
      last) = true ∧ last.toNat ≠ (s.aeOf n).core.pc ∧ 0 < (s.aeOf n).D rs ∧ (s.aeOf n).D rs ≤ 8191) ∧
    (∃ (s : State) (n : Fin 8) (l : Fin 2) (rs : Fin 16) (last : BitVec 13), s.straight n ∧ s.issuesY n (.loopr n l rs
      last) = true ∧ (s.aeOf n).D rs = 0) ∧
    (∃ (s : State) (n : Fin 8), s.issuesY n (.end_ n) = true) ∧
    (∃ (s : State) (n : Fin 8), s.issuesY n (.wait n) = true) ∧
    (∃ (s : State) (n : Fin 8), s.issuesY n (.retb n) = true ∧ (s.aeOf n).yieldDue = false) ∧
    (∃ (s : State) (n : Fin 8), s.issuesY n (.retb n) = true ∧ (s.aeOf n).yieldDue = true) ∧
    (∃ (s : State) (n : Fin 8) (b : BitVec 13), s.issuesY n (.jmp n b) = true ∧ (s.aeOf n).yieldDue = false) ∧
    (∃ (s : State) (n : Fin 8) (c : Fin 11) (b : BitVec 13), s.issuesY n (.brcc n c b) = true ∧ (s.aeOf n).yieldDue = false) ∧
    (∃ (s : State) (n : Fin 8) (l : Fin 2) (count : Fin 4096) (last : BitVec 13), s.issuesY n (.loop n l count last) = true
      ∧ (s.aeOf n).yieldDue = false) ∧
    (∃ (s : State) (n : Fin 8) (l : Fin 2) (rs : Fin 16) (last : BitVec 13), s.issuesY n (.loopr n l rs last) = true ∧
      (s.aeOf n).yieldDue = false ∧ (s.aeOf n).D rs = 0) ∧
    (∃ (s : State) (n : Fin 8) (l : Fin 2) (rs : Fin 16) (last : BitVec 13), s.issuesY n (.loopr n l rs last) = true ∧
      (s.aeOf n).yieldDue = false ∧ 0 < (s.aeOf n).D rs ∧ (s.aeOf n).D rs ≤ 8191) ∧
    (∃ (s : State) (n : Fin 8) (l : Fin 2) (rs : Fin 16) (last : BitVec 13), s.straight n ∧ s.issuesY n (.loopr n l rs
      last) = true ∧ last.toNat ≠ (s.aeOf n).core.pc ∧ 8191 < (s.aeOf n).D rs) ∧
    (∃ (s : State) (n : Fin 8) (b : BitVec 13), (s.aeOf n).mode = .bg ∧ s.slotY n = some (.jmp n b) ∧ (s.aeOf
      n).core.delay.isSome = true) ∧
    (∃ (s : State) (n : Fin 8) (c : Fin 11) (b : BitVec 13), (s.aeOf n).mode = .bg ∧ s.slotY n = some (.brcc n c b) ∧
      (s.aeOf n).core.delay.isSome = true) ∧
    (∃ (s : State) (n : Fin 8) (l : Fin 2) (count : Fin 4096) (last : BitVec 13), (s.aeOf n).mode = .bg ∧ s.slotY n = some
      (.loop n l count last) ∧ (s.aeOf n).core.delay.isSome = true) ∧
    (∃ (s : State) (n : Fin 8) (l : Fin 2) (rs : Fin 16) (last : BitVec 13), (s.aeOf n).mode = .bg ∧ s.slotY n = some
      (.loopr n l rs last) ∧ (s.aeOf n).core.delay.isSome = true) ∧
    (∃ (s : State) (n : Fin 8), (s.aeOf n).mode = .bg ∧ s.slotY n = some (.end_ n)) ∧
    (∃ (s : State) (n : Fin 8), (s.aeOf n).mode = .bg ∧ s.slotY n = some (.wait n)) ∧
    (∃ (s : State) (n : Fin 8), (s.aeOf n).mode = .bg ∧ s.slotY n = some (.retb n)) ∧
    (∃ (s : State) (n : Fin 8), (s.aeOf n).mode = .slot ∧ (s.aeOf n).issuing = true ∧ s.slotY n = some (.wait n)) ∧
    (∃ (s : State) (n : Fin 8), (s.aeOf n).mode = .slot ∧ (s.aeOf n).issuing = true ∧ s.slotY n = some (.retb n)) ∧
    (∃ (s : State) (n : Fin 8) (x : Nat), s.issuesY n (.yNop n) = true ∧ (s.aeOf n).yieldDue = true ∧ (s.aeOf n).mode = .bg
      ∧ (s.aeOf n).core.delay = some x) ∧
    (∃ (s : State) (n : Fin 8), (s.aeOf n).mode = .bg ∧ (s.aeOf n).issuing = true ∧ s.bundleIllegal n = true) ∧
    (∃ (s : State) (n : Fin 8), (s.aeOf n).mode = .slot ∧ (s.aeOf n).issuing = true ∧ s.bundleIllegal n = true) :=
  ⟨⟨(bundleAt (State.reset.setAe (0 : Fin 8)
    { AeSt.reset with mode := .bg, core := { AeCore.reset with d0 := [5, 0xFFFFFFFF, 0x80000000, 7, 9, 11, 13, 15, 1, 2, 3, 4, 5, 6, 7, 8], pc := 40, p := [16, 32, 0x40000, 0x40100, 0x80000, 0x90000, 0x1000000, 0xFFFFFFFC], m := [64, 0, 0, 0, 0, 0, 0, 0] } })
    (0 : Fin 8) (.xNop (0 : Fin 8)) (.jmp (0 : Fin 8) (1 : BitVec 13))), (0), (1), by decide +kernel⟩,
    ⟨(bundleAt (State.reset.setAe (0 : Fin 8)
    { AeSt.reset with mode := .bg, core := { AeCore.reset with d0 := [5, 0xFFFFFFFF, 0x80000000, 7, 9, 11, 13, 15, 1, 2, 3, 4, 5, 6, 7, 8], pc := 40, p := [16, 32, 0x40000, 0x40100, 0x80000, 0x90000, 0x1000000, 0xFFFFFFFC], m := [64, 0, 0, 0, 0, 0, 0, 0] } })
    (0 : Fin 8) (.xNop (0 : Fin 8)) (.brcc (0 : Fin 8) (0 : Fin 11) (1 : BitVec 13))), (0), (0), (1), by decide +kernel⟩,
    ⟨(bundleAt (State.reset.setAe (0 : Fin 8)
    { AeSt.reset with mode := .bg, core := { AeCore.reset with d0 := [5, 0xFFFFFFFF, 0x80000000, 7, 9, 11, 13, 15, 1, 2, 3, 4, 5, 6, 7, 8], pc := 40, p := [16, 32, 0x40000, 0x40100, 0x80000, 0x90000, 0x1000000, 0xFFFFFFFC], m := [64, 0, 0, 0, 0, 0, 0, 0] } })
    (0 : Fin 8) (.xNop (0 : Fin 8)) (.loop (0 : Fin 8) (0 : Fin 2) (0 : Fin 4096) (1 : BitVec 13))), (0), (0), (0), (1),
    by decide +kernel⟩,
    ⟨(bundleAt (State.reset.setAe (0 : Fin 8)
    { AeSt.reset with mode := .bg, core := { AeCore.reset with d0 := [5, 0xFFFFFFFF, 0x80000000, 7, 9, 11, 13, 15, 1, 2, 3, 4, 5, 6, 7, 8], pc := 40, p := [16, 32, 0x40000, 0x40100, 0x80000, 0x90000, 0x1000000, 0xFFFFFFFC], m := [64, 0, 0, 0, 0, 0, 0, 0] } })
    (0 : Fin 8) (.xNop (0 : Fin 8)) (.loopr (0 : Fin 8) (0 : Fin 2) (0 : Fin 16) (1 : BitVec 13))), (0), (0), (0), (1),
    by decide +kernel⟩,
    ⟨(bundleAt (State.reset.setAe (0 : Fin 8)
    { AeSt.reset with mode := .bg, core := { AeCore.reset with d0 := [0, 0xFFFFFFFF, 0x80000000, 7, 9, 11, 13, 15, 1, 2, 3, 4, 5, 6, 7, 8], pc := 40, p := [16, 32, 0x40000, 0x40100, 0x80000, 0x90000, 0x1000000, 0xFFFFFFFC], m := [64, 0, 0, 0, 0, 0, 0, 0] } })
    (0 : Fin 8) (.xNop (0 : Fin 8)) (.loopr (0 : Fin 8) (0 : Fin 2) (0 : Fin 16) (1 : BitVec 13))), (0), (0), (0), (1),
    by decide +kernel⟩,
    ⟨(bundleAt (State.reset.setAe (0 : Fin 8)
    { AeSt.reset with mode := .slot, slot := ⟨3, 0, 100, 0, true, 1, 0, 0, 0⟩, core := { AeCore.reset with d1 := [5, 0xFFFFFFFF, 0x80000000, 7, 9, 11, 13, 15, 1, 2, 3, 4, 5, 6, 7, 8], pc := 40, p := [16, 32, 0x40000, 0x40100, 0x80000, 0x90000, 0x1000000, 0xFFFFFFFC], flights := [⟨1, 0, [(.d 0 3, 77)], none, 3, 1, 0⟩, ⟨4, 1, [(.acc 0, 88)], some 0, 0, 0, 0⟩] } })
    (0 : Fin 8) (.xNop (0 : Fin 8)) (.end_ (0 : Fin 8))), (0), by decide +kernel⟩,
    ⟨(bundleAt (State.reset.setAe (0 : Fin 8) { AeSt.reset with mode := .save }) (0 : Fin 8) (.xNop (0 : Fin 8)) (.wait (0 :
    Fin 8))), (0), by decide +kernel⟩,
    ⟨(bundleAt (State.reset.setAe (0 : Fin 8) { AeSt.reset with mode := .restore, savePc := 77, saveStatus := 3 }) (0 : Fin
    8) (.xNop (0 : Fin 8)) (.retb (0 : Fin 8))), (0), by decide +kernel⟩,
    ⟨(bundleAt (State.reset.setAe (0 : Fin 8)
    { AeSt.reset with mode := .restore, savePc := 77, saveStatus := 3, yieldDue := true }) (0 : Fin 8) (.xNop (0 : Fin
    8)) (.retb (0 : Fin 8))), (0), by decide +kernel⟩,
    ⟨(bundleAt (State.reset.setAe (0 : Fin 8)
    { AeSt.reset with mode := .slot, slot := ⟨3, 0, 100, 0, true, 1, 0, 0, 0⟩, core := { AeCore.reset with d1 := [5, 0xFFFFFFFF, 0x80000000, 7, 9, 11, 13, 15, 1, 2, 3, 4, 5, 6, 7, 8], pc := 40, p := [16, 32, 0x40000, 0x40100, 0x80000, 0x90000, 0x1000000, 0xFFFFFFFC], flights := [⟨1, 0, [(.d 0 3, 77)], none, 3, 1, 0⟩, ⟨4, 1, [(.acc 0, 88)], some 0, 0, 0, 0⟩] } })
    (0 : Fin 8) (.xNop (0 : Fin 8)) (.jmp (0 : Fin 8) (1 : BitVec 13))), (0), (1), by decide +kernel⟩,
    ⟨(bundleAt (State.reset.setAe (0 : Fin 8)
    { AeSt.reset with mode := .slot, slot := ⟨3, 0, 100, 0, true, 1, 0, 0, 0⟩, core := { AeCore.reset with d1 := [5, 0xFFFFFFFF, 0x80000000, 7, 9, 11, 13, 15, 1, 2, 3, 4, 5, 6, 7, 8], pc := 40, p := [16, 32, 0x40000, 0x40100, 0x80000, 0x90000, 0x1000000, 0xFFFFFFFC], flights := [⟨1, 0, [(.d 0 3, 77)], none, 3, 1, 0⟩, ⟨4, 1, [(.acc 0, 88)], some 0, 0, 0, 0⟩] } })
    (0 : Fin 8) (.xNop (0 : Fin 8)) (.brcc (0 : Fin 8) (0 : Fin 11) (1 : BitVec 13))), (0), (0), (1), by decide +kernel⟩,
    ⟨(bundleAt (State.reset.setAe (0 : Fin 8)
    { AeSt.reset with mode := .slot, slot := ⟨3, 0, 100, 0, true, 1, 0, 0, 0⟩, core := { AeCore.reset with d1 := [5, 0xFFFFFFFF, 0x80000000, 7, 9, 11, 13, 15, 1, 2, 3, 4, 5, 6, 7, 8], pc := 40, p := [16, 32, 0x40000, 0x40100, 0x80000, 0x90000, 0x1000000, 0xFFFFFFFC], flights := [⟨1, 0, [(.d 0 3, 77)], none, 3, 1, 0⟩, ⟨4, 1, [(.acc 0, 88)], some 0, 0, 0, 0⟩] } })
    (0 : Fin 8) (.xNop (0 : Fin 8)) (.loop (0 : Fin 8) (0 : Fin 2) (0 : Fin 4096) (1 : BitVec 13))), (0), (0), (0), (1),
    by decide +kernel⟩,
    ⟨(bundleAt (State.reset.setAe (0 : Fin 8)
    { AeSt.reset with mode := .slot, slot := ⟨3, 0, 100, 0, true, 1, 0, 0, 0⟩, core := { AeCore.reset with d1 := [0, 0xFFFFFFFF, 0x80000000, 7, 9, 11, 13, 15, 1, 2, 3, 4, 5, 6, 7, 8], pc := 40, p := [16, 32, 0x40000, 0x40100, 0x80000, 0x90000, 0x1000000, 0xFFFFFFFC], flights := [⟨1, 0, [(.d 0 3, 77)], none, 3, 1, 0⟩, ⟨4, 1, [(.acc 0, 88)], some 0, 0, 0, 0⟩] } })
    (0 : Fin 8) (.xNop (0 : Fin 8)) (.loopr (0 : Fin 8) (0 : Fin 2) (0 : Fin 16) (1 : BitVec 13))), (0), (0), (0), (1),
    by decide +kernel⟩,
    ⟨(bundleAt (State.reset.setAe (0 : Fin 8)
    { AeSt.reset with mode := .slot, slot := ⟨3, 0, 100, 0, true, 1, 0, 0, 0⟩, core := { AeCore.reset with d1 := [5, 0xFFFFFFFF, 0x80000000, 7, 9, 11, 13, 15, 1, 2, 3, 4, 5, 6, 7, 8], pc := 40, p := [16, 32, 0x40000, 0x40100, 0x80000, 0x90000, 0x1000000, 0xFFFFFFFC], flights := [⟨1, 0, [(.d 0 3, 77)], none, 3, 1, 0⟩, ⟨4, 1, [(.acc 0, 88)], some 0, 0, 0, 0⟩] } })
    (0 : Fin 8) (.xNop (0 : Fin 8)) (.loopr (0 : Fin 8) (0 : Fin 2) (3 : Fin 16) (1 : BitVec 13))), (0), (0), (3), (1),
    by decide +kernel⟩,
    ⟨(bundleAt (State.reset.setAe (0 : Fin 8)
    { AeSt.reset with mode := .slot, slot := ⟨3, 0, 100, 0, true, 1, 0, 0, 0⟩, core := { AeCore.reset with d0 := [5, 0xFFFFFFFF, 0x80000000, 7, 9, 11, 13, 15, 1, 2, 3, 4, 5, 6, 7, 8], d1 := [5, 0xFFFFFFFF, 0x80000000, 7, 9, 11, 13, 15, 1, 2, 3, 4, 5, 6, 7, 8], pc := 40 } })
    (0 : Fin 8) (.xNop (0 : Fin 8)) (.loopr (0 : Fin 8) (0 : Fin 2) (1 : Fin 16) (1 : BitVec 13))), (0), (0), (1), (1),
    by decide +kernel⟩,
    ⟨(bundleAt (State.reset.setAe (0 : Fin 8)
    { AeSt.reset with mode := .bg, core := { AeCore.reset with d0 := [5, 0xFFFFFFFF, 0x80000000, 7, 9, 11, 13, 15, 1, 2, 3, 4, 5, 6, 7, 8], pc := 40, delay := some 3, p := [16, 32, 0x40000, 0x40100, 0x80000, 0x90000, 0x1000000, 0xFFFFFFFC], m := [64, 0, 0, 0, 0, 0, 0, 0] } })
    (0 : Fin 8) (.xNop (0 : Fin 8)) (.jmp (0 : Fin 8) (1 : BitVec 13))), (0), (1), by decide +kernel⟩,
    ⟨(bundleAt (State.reset.setAe (0 : Fin 8)
    { AeSt.reset with mode := .bg, core := { AeCore.reset with d0 := [5, 0xFFFFFFFF, 0x80000000, 7, 9, 11, 13, 15, 1, 2, 3, 4, 5, 6, 7, 8], pc := 40, delay := some 3, p := [16, 32, 0x40000, 0x40100, 0x80000, 0x90000, 0x1000000, 0xFFFFFFFC], m := [64, 0, 0, 0, 0, 0, 0, 0] } })
    (0 : Fin 8) (.xNop (0 : Fin 8)) (.brcc (0 : Fin 8) (0 : Fin 11) (1 : BitVec 13))), (0), (0), (1), by decide +kernel⟩,
    ⟨(bundleAt (State.reset.setAe (0 : Fin 8)
    { AeSt.reset with mode := .bg, core := { AeCore.reset with d0 := [5, 0xFFFFFFFF, 0x80000000, 7, 9, 11, 13, 15, 1, 2, 3, 4, 5, 6, 7, 8], pc := 40, delay := some 3, p := [16, 32, 0x40000, 0x40100, 0x80000, 0x90000, 0x1000000, 0xFFFFFFFC], m := [64, 0, 0, 0, 0, 0, 0, 0] } })
    (0 : Fin 8) (.xNop (0 : Fin 8)) (.loop (0 : Fin 8) (0 : Fin 2) (0 : Fin 4096) (1 : BitVec 13))), (0), (0), (0), (1),
    by decide +kernel⟩,
    ⟨(bundleAt (State.reset.setAe (0 : Fin 8)
    { AeSt.reset with mode := .bg, core := { AeCore.reset with d0 := [5, 0xFFFFFFFF, 0x80000000, 7, 9, 11, 13, 15, 1, 2, 3, 4, 5, 6, 7, 8], pc := 40, delay := some 3, p := [16, 32, 0x40000, 0x40100, 0x80000, 0x90000, 0x1000000, 0xFFFFFFFC], m := [64, 0, 0, 0, 0, 0, 0, 0] } })
    (0 : Fin 8) (.xNop (0 : Fin 8)) (.loopr (0 : Fin 8) (0 : Fin 2) (0 : Fin 16) (1 : BitVec 13))), (0), (0), (0), (1),
    by decide +kernel⟩,
    ⟨(bundleAt (State.reset.setAe (0 : Fin 8)
    { AeSt.reset with mode := .bg, core := { AeCore.reset with d0 := [5, 0xFFFFFFFF, 0x80000000, 7, 9, 11, 13, 15, 1, 2, 3, 4, 5, 6, 7, 8], pc := 40, p := [16, 32, 0x40000, 0x40100, 0x80000, 0x90000, 0x1000000, 0xFFFFFFFC], m := [64, 0, 0, 0, 0, 0, 0, 0] } })
    (0 : Fin 8) (.xNop (0 : Fin 8)) (.end_ (0 : Fin 8))), (0), by decide +kernel⟩,
    ⟨(bundleAt (State.reset.setAe (0 : Fin 8)
    { AeSt.reset with mode := .bg, core := { AeCore.reset with d0 := [5, 0xFFFFFFFF, 0x80000000, 7, 9, 11, 13, 15, 1, 2, 3, 4, 5, 6, 7, 8], pc := 40, p := [16, 32, 0x40000, 0x40100, 0x80000, 0x90000, 0x1000000, 0xFFFFFFFC], m := [64, 0, 0, 0, 0, 0, 0, 0] } })
    (0 : Fin 8) (.xNop (0 : Fin 8)) (.wait (0 : Fin 8))), (0), by decide +kernel⟩,
    ⟨(bundleAt (State.reset.setAe (0 : Fin 8)
    { AeSt.reset with mode := .bg, core := { AeCore.reset with d0 := [5, 0xFFFFFFFF, 0x80000000, 7, 9, 11, 13, 15, 1, 2, 3, 4, 5, 6, 7, 8], pc := 40, p := [16, 32, 0x40000, 0x40100, 0x80000, 0x90000, 0x1000000, 0xFFFFFFFC], m := [64, 0, 0, 0, 0, 0, 0, 0] } })
    (0 : Fin 8) (.xNop (0 : Fin 8)) (.retb (0 : Fin 8))), (0), by decide +kernel⟩,
    ⟨(bundleAt (State.reset.setAe (0 : Fin 8)
    { AeSt.reset with mode := .slot, slot := ⟨3, 0, 100, 0, true, 1, 0, 0, 0⟩, core := { AeCore.reset with d1 := [5, 0xFFFFFFFF, 0x80000000, 7, 9, 11, 13, 15, 1, 2, 3, 4, 5, 6, 7, 8], pc := 40, p := [16, 32, 0x40000, 0x40100, 0x80000, 0x90000, 0x1000000, 0xFFFFFFFC], flights := [⟨1, 0, [(.d 0 3, 77)], none, 3, 1, 0⟩, ⟨4, 1, [(.acc 0, 88)], some 0, 0, 0, 0⟩] } })
    (0 : Fin 8) (.xNop (0 : Fin 8)) (.wait (0 : Fin 8))), (0), by decide +kernel⟩,
    ⟨(bundleAt (State.reset.setAe (0 : Fin 8)
    { AeSt.reset with mode := .slot, slot := ⟨3, 0, 100, 0, true, 1, 0, 0, 0⟩, core := { AeCore.reset with d1 := [5, 0xFFFFFFFF, 0x80000000, 7, 9, 11, 13, 15, 1, 2, 3, 4, 5, 6, 7, 8], pc := 40, p := [16, 32, 0x40000, 0x40100, 0x80000, 0x90000, 0x1000000, 0xFFFFFFFC], flights := [⟨1, 0, [(.d 0 3, 77)], none, 3, 1, 0⟩, ⟨4, 1, [(.acc 0, 88)], some 0, 0, 0, 0⟩] } })
    (0 : Fin 8) (.xNop (0 : Fin 8)) (.retb (0 : Fin 8))), (0), by decide +kernel⟩,
    ⟨(bundleAt (State.reset.setAe (0 : Fin 8)
    { AeSt.reset with mode := .bg, yieldDue := true, core := { AeCore.reset with delay := some 5 } }) (0 : Fin 8) (.xNop
    (0 : Fin 8)) (.yNop (0 : Fin 8))), (0), (5), by decide +kernel⟩,
    ⟨(((State.reset.on (F.AE_CTL_BG_EN (0 : Fin 8))).wr (pmAddr (0 : Fin 8) 0) 0xFFFFFFFF).setAe (0 : Fin 8)
    { AeSt.reset with mode := .bg }), (0), by decide +kernel⟩,
    ⟨((State.reset.setAe (0 : Fin 8)
    { AeSt.reset with mode := .slot, slot := ⟨3, 0, 100, 0, true, 1, 0, 0, 0⟩, core := { AeCore.reset with d1 := [5, 0xFFFFFFFF, 0x80000000, 7, 9, 11, 13, 15, 1, 2, 3, 4, 5, 6, 7, 8], pc := 40, p := [16, 32, 0x40000, 0x40100, 0x80000, 0x90000, 0x1000000, 0xFFFFFFFC], flights := [⟨1, 0, [(.d 0 3, 77)], none, 3, 1, 0⟩, ⟨4, 1, [(.acc 0, 88)], some 0, 0, 0, 0⟩] } }).wr
    (pmAddr (0 : Fin 8) 80) 0xFFFFFFFF), (0), by decide +kernel⟩⟩

theorem witness_EngineResultsLandInTheirCycle :
    (∃ (s : State) (n : Fin 8) (rd : Fin 16) (ra : Fin 16) (rb : Fin 16), s.straight n ∧ s.bundleIllegal n = false ∧
      s.slotX n = some (.add n rd ra rb) ∧ s.slotY n = some (.yNop n) ∧ (s.aeOf n).core.xDone = false ∧ (s.aeOf
      n).core.d0.length = 16 ∧ (s.aeOf n).core.d1.length = 16 ∧ (s.aeOf n).mode = .bg) ∧
    (∃ (s : State) (n : Fin 8) (rd : Fin 16) (ra : Fin 16) (rb : Fin 16), s.straight n ∧ s.bundleIllegal n = false ∧
      s.slotX n = some (.sub n rd ra rb) ∧ s.slotY n = some (.yNop n) ∧ (s.aeOf n).core.xDone = false ∧ (s.aeOf
      n).core.d0.length = 16 ∧ (s.aeOf n).core.d1.length = 16 ∧ (s.aeOf n).mode = .bg) :=
  ⟨⟨(bundleAt (State.reset.setAe (0 : Fin 8)
    { AeSt.reset with mode := .bg, core := { AeCore.reset with d0 := [5, 0xFFFFFFFF, 0x80000000, 7, 9, 11, 13, 15, 1, 2, 3, 4, 5, 6, 7, 8], pc := 40, p := [16, 32, 0x40000, 0x40100, 0x80000, 0x90000, 0x1000000, 0xFFFFFFFC], m := [64, 0, 0, 0, 0, 0, 0, 0] } })
    (0 : Fin 8) (.add (0 : Fin 8) (0 : Fin 16) (0 : Fin 16) (0 : Fin 16)) (.yNop (0 : Fin 8))), (0), (0), (0), (0),
    by decide +kernel⟩,
    ⟨(bundleAt (State.reset.setAe (0 : Fin 8)
    { AeSt.reset with mode := .bg, core := { AeCore.reset with d0 := [5, 0xFFFFFFFF, 0x80000000, 7, 9, 11, 13, 15, 1, 2, 3, 4, 5, 6, 7, 8], pc := 40, p := [16, 32, 0x40000, 0x40100, 0x80000, 0x90000, 0x1000000, 0xFFFFFFFC], m := [64, 0, 0, 0, 0, 0, 0, 0] } })
    (0 : Fin 8) (.sub (0 : Fin 8) (0 : Fin 16) (0 : Fin 16) (0 : Fin 16)) (.yNop (0 : Fin 8))), (0), (0), (0), (0),
    by decide +kernel⟩⟩

theorem witness_SupervisionCommandsTakeEffect :
    (∃ (s : State) (rq : Rq) (m : Fin 16) (_seq : BitVec 8) (_ticket : BitVec 16), s.reaches rq (axisWord m 0x25C) ∧
      (¬((s.aeOf (m.val / 2)).mode = .slot ∧ ((s.aeOf (m.val / 2)).slot.axes (m.val / 2)).contains m.val = true))) ∧
    (∃ (s : State) (rq : Rq) (m : Fin 16) (_seq : BitVec 8) (_ticket : BitVec 16), s.reaches rq (axisWord m 0x25C) ∧ (s.aeOf
      (m.val / 2)).mode = .slot ∧ ((s.aeOf (m.val / 2)).slot.axes (m.val / 2)).contains m.val = true) ∧
    (∃ (s : State) (rq : Rq) (m : Fin 16) (_seq : BitVec 8), s.reaches rq (axisWord m 0x25C) ∧ (¬((s.aeOf (m.val / 2)).mode
      = .slot ∧ ((s.aeOf (m.val / 2)).slot.axes (m.val / 2)).contains m.val = true))) ∧
    (∃ (s : State) (rq : Rq) (m : Fin 16) (_seq : BitVec 8), s.reaches rq (axisWord m 0x25C) ∧ (s.aeOf (m.val / 2)).mode =
      .slot ∧ ((s.aeOf (m.val / 2)).slot.axes (m.val / 2)).contains m.val = true) ∧
    (∃ (s : State) (rq : Rq) (m : Fin 16) (_seq : BitVec 8) (_ticket : BitVec 16), s.reaches rq (axisWord m 0x280) ∧
      (¬((s.aeOf (m.val / 2)).mode = .slot ∧ ((s.aeOf (m.val / 2)).slot.axes (m.val / 2)).contains m.val = true))) ∧
    (∃ (s : State) (rq : Rq) (m : Fin 16) (_seq : BitVec 8) (_ticket : BitVec 16), s.reaches rq (axisWord m 0x280) ∧ (s.aeOf
      (m.val / 2)).mode = .slot ∧ ((s.aeOf (m.val / 2)).slot.axes (m.val / 2)).contains m.val = true) ∧
    (∃ (s : State) (rq : Rq) (m : Fin 16) (_seq : BitVec 8) (_ticket : BitVec 16), s.reaches rq (axisWord m 0x280) ∧
      (¬((s.aeOf (m.val / 2)).mode = .slot ∧ ((s.aeOf (m.val / 2)).slot.axes (m.val / 2)).contains m.val = true))) ∧
    (∃ (s : State) (rq : Rq) (m : Fin 16) (_seq : BitVec 8) (_ticket : BitVec 16), s.reaches rq (axisWord m 0x280) ∧ (s.aeOf
      (m.val / 2)).mode = .slot ∧ ((s.aeOf (m.val / 2)).slot.axes (m.val / 2)).contains m.val = true) ∧
    (∃ (s : State) (rq : Rq) (m : Fin 16) (_seq : BitVec 8) (_ticket : BitVec 16), s.reaches rq (axisWord m 0x280) ∧
      (¬((s.aeOf (m.val / 2)).mode = .slot ∧ ((s.aeOf (m.val / 2)).slot.axes (m.val / 2)).contains m.val = true))) ∧
    (∃ (s : State) (rq : Rq) (m : Fin 16) (_seq : BitVec 8) (_ticket : BitVec 16), s.reaches rq (axisWord m 0x280) ∧ (s.aeOf
      (m.val / 2)).mode = .slot ∧ ((s.aeOf (m.val / 2)).slot.axes (m.val / 2)).contains m.val = true) ∧
    (∃ (s : State) (rq : Rq) (m : Fin 16) (_seq : BitVec 8) (_number : BitVec 16), s.reaches rq (axisWord m 0x280) ∧
      (¬((s.aeOf (m.val / 2)).mode = .slot ∧ ((s.aeOf (m.val / 2)).slot.axes (m.val / 2)).contains m.val = true))) ∧
    (∃ (s : State) (rq : Rq) (m : Fin 16) (_seq : BitVec 8) (_number : BitVec 16), s.reaches rq (axisWord m 0x280) ∧ (s.aeOf
      (m.val / 2)).mode = .slot ∧ ((s.aeOf (m.val / 2)).slot.axes (m.val / 2)).contains m.val = true) ∧
    (∃ (s : State) (rq : Rq) (m : Fin 16) (_seq : BitVec 8), s.reaches rq (axisWord m 0x280) ∧ (¬((s.aeOf (m.val / 2)).mode
      = .slot ∧ ((s.aeOf (m.val / 2)).slot.axes (m.val / 2)).contains m.val = true))) ∧
    (∃ (s : State) (rq : Rq) (m : Fin 16) (_seq : BitVec 8), s.reaches rq (axisWord m 0x280) ∧ (s.aeOf (m.val / 2)).mode =
      .slot ∧ ((s.aeOf (m.val / 2)).slot.axes (m.val / 2)).contains m.val = true) ∧
    (∃ (s : State) (rq : Rq) (m : Fin 16) (_seq : BitVec 8), s.reaches rq (axisWord m 0x280) ∧ (¬((s.aeOf (m.val / 2)).mode
      = .slot ∧ ((s.aeOf (m.val / 2)).slot.axes (m.val / 2)).contains m.val = true))) ∧
    (∃ (s : State) (rq : Rq) (m : Fin 16) (_seq : BitVec 8), s.reaches rq (axisWord m 0x280) ∧ (s.aeOf (m.val / 2)).mode =
      .slot ∧ ((s.aeOf (m.val / 2)).slot.axes (m.val / 2)).contains m.val = true) ∧
    (∃ (s : State) (rq : Rq) (m : Fin 16), s.reaches rq (axisWord m 0x200) ∧ (¬((s.aeOf (m.val / 2)).mode = .slot ∧
      ((s.aeOf (m.val / 2)).slot.axes (m.val / 2)).contains m.val = true))) ∧
    (∃ (s : State) (rq : Rq) (m : Fin 16), s.reaches rq (axisWord m 0x200) ∧ (s.aeOf (m.val / 2)).mode = .slot ∧ ((s.aeOf
      (m.val / 2)).slot.axes (m.val / 2)).contains m.val = true) ∧
    (∃ (s : State) (rq : Rq) (m : Fin 16), s.reaches rq (axisWord m 0x200) ∧ (¬((s.aeOf (m.val / 2)).mode = .slot ∧
      ((s.aeOf (m.val / 2)).slot.axes (m.val / 2)).contains m.val = true))) ∧
    (∃ (s : State) (rq : Rq) (m : Fin 16), s.reaches rq (axisWord m 0x200) ∧ (s.aeOf (m.val / 2)).mode = .slot ∧ ((s.aeOf
      (m.val / 2)).slot.axes (m.val / 2)).contains m.val = true) ∧
    (∃ (s : State) (n : Fin 8) (k : Fin 32) (f : SlotF), (s.aeOf n).lib = none ∧ s.dueSlot n k = some f ∧ f.tied = false ∧
      ((s.aeOf n).mode = .idle ∨ (s.aeOf n).mode = .yielded)) ∧
    (∃ (s : State) (n : Fin 8) (k : Fin 32) (f : SlotF), (s.aeOf n).lib = none ∧ s.dueSlot n k = some f ∧ f.tied = false ∧
      ((s.aeOf n).mode = .save ∨ (s.aeOf n).mode = .restore ∨ (s.aeOf n).mode = .bg)) ∧
    (∃ (s : State) (n : Fin 8) (k : Fin 32) (_prog : AeProg) (f : SlotF), (s.aeOf n).lib = none ∧ s.dueSlot n k = some f ∧
      f.tied = false) ∧
    (∃ (s : State) (n : Fin 8) (k : Fin 32) (_prog : AeProg) (f : SlotF), (s.aeOf n).lib = none ∧ s.dueSlot n k = some f ∧
      f.tied = true ∧ s.running (f.home n) = true ∧ s.missed n f = none) ∧
    (∃ (s : State) (n : Fin 8) (k : Fin 32) (_prog : AeProg) (f : SlotF), (s.aeOf n).lib = none ∧ s.dueSlot n k = some f ∧
      f.tied = true ∧ s.running (f.home n) = false) ∧
    (∃ (s : State) (n : Fin 8) (k : Fin 32) (_prog : AeProg) (f : SlotF) (x : Nat), (s.aeOf n).lib = none ∧ s.dueSlot n k =
      some f ∧ f.tied = true ∧ s.running (f.home n) = true ∧ s.missed n f = some x ∧ s.g (missField n (f.home n)) < s.g
      (F.AE_SCHED_MISS_LIMIT n)) ∧
    (∃ (s : State) (n : Fin 8) (k : Fin 32) (_prog : AeProg) (f : SlotF) (x : Nat), (s.aeOf n).lib = none ∧ s.dueSlot n k =
      some f ∧ f.tied = true ∧ s.running (f.home n) = true ∧ s.missed n f = some x ∧ s.g (F.AE_SCHED_MISS_LIMIT n) ≤ s.g
      (missField n (f.home n))) ∧
    (∃ (s : State) (m : Fin 16), getBits (s.bw m 0x204) 4 1 = 0) ∧
    (∃ (s : State) (m : Fin 16), getBits (s.bw m 0x204) 4 1 = 1 ∧ (s.supOf m).seen = true) ∧
    (∃ (s : State) (m : Fin 16), getBits (s.bw m 0x204) 4 1 = 1 ∧ (s.supOf m).seen = false ∧ getBits (s.bw m 0x200) 1 2 = 0) ∧
    (∃ (s : State) (m : Fin 16) (u : State), getBits (s.bw m 0x204) 4 1 = 1 ∧ (s.supOf m).seen = false ∧ getBits (s.bw m
      0x200) 1 2 = 1 ∧ (s.supOf m).mark = false ∧ u = ((s.setSup m
      { s.supOf m with seen := true, mark := false }).chanEvent m 5).configuredStop m) ∧
    (∃ (s : State) (m : Fin 16), getBits (s.bw m 0x204) 4 1 = 1 ∧ (s.supOf m).seen = false ∧ 2 ≤ getBits (s.bw m 0x200) 1 2
      ∧ s.higherRuns m = false) ∧
    (∃ (s : State) (m : Fin 16) (r : AtResult), (s.supOf m).stage = 2 ∧ (s.supOf m).gen = none ∧ r.ok = false) ∧
    (∃ (s : State) (m : Fin 16) (r : AtResult), (s.supOf m).stage = 1 ∧ (s.supOf m).gen = none ∧ r.fit.int ≤ s.bi m 0x294) ∧
    (∃ (s : State) (m : Fin 16) (r : AtResult), (s.supOf m).stage = 1 ∧ (s.supOf m).gen = none ∧ s.bi m 0x294 < r.fit.int) ∧
    (∃ (s : State) (m : Fin 16) (r : AtResult), (s.supOf m).stage = 2 ∧ (s.supOf m).gen = none ∧ r.ok = true ∧ r.fit.int ≤
      s.bi m 0x294) ∧
    (∃ (s : State) (m : Fin 16) (r : AtResult), (s.supOf m).stage = 2 ∧ (s.supOf m).gen = none ∧ r.ok = true ∧ s.bi m 0x294
      < r.fit.int) ∧
    (∃ (s : State) (m : Fin 16) (r : AtResult), 2 < (s.supOf m).stage ∧ (s.supOf m).gen = none ∧ r.fit.int ≤ s.bi m 0x294) ∧
    (∃ (s : State) (m : Fin 16) (r : AtResult), 2 < (s.supOf m).stage ∧ (s.supOf m).gen = none ∧ s.bi m 0x294 < r.fit.int) :=
  ⟨⟨(State.reset), (.od 0), (0), (1), (1), by decide +kernel⟩,
    ⟨(State.reset.setAe ((0 : Fin 16).val / 2)
    { AeSt.reset with mode := .slot, slot := ⟨3, 0, 100, 0, true, 1, (0 : Fin 16).val % 2, 0, 0⟩ }), (.od 0), (0), (1),
    (1), by decide +kernel⟩,
    ⟨(State.reset), (.od 0), (0), (1), by decide +kernel⟩,
    ⟨(State.reset.setAe ((0 : Fin 16).val / 2)
    { AeSt.reset with mode := .slot, slot := ⟨3, 0, 100, 0, true, 1, (0 : Fin 16).val % 2, 0, 0⟩ }), (.od 0), (0), (1),
    by decide +kernel⟩,
    ⟨(State.reset), (.od 0), (0), (1), (1), by decide +kernel⟩,
    ⟨(State.reset.setAe ((0 : Fin 16).val / 2)
    { AeSt.reset with mode := .slot, slot := ⟨3, 0, 100, 0, true, 1, (0 : Fin 16).val % 2, 0, 0⟩ }), (.od 0), (0), (1),
    (1), by decide +kernel⟩,
    ⟨(State.reset), (.od 0), (0), (1), (1), by decide +kernel⟩,
    ⟨(State.reset.setAe ((0 : Fin 16).val / 2)
    { AeSt.reset with mode := .slot, slot := ⟨3, 0, 100, 0, true, 1, (0 : Fin 16).val % 2, 0, 0⟩ }), (.od 0), (0), (1),
    (1), by decide +kernel⟩,
    ⟨(State.reset), (.od 0), (0), (1), (1), by decide +kernel⟩,
    ⟨(State.reset.setAe ((0 : Fin 16).val / 2)
    { AeSt.reset with mode := .slot, slot := ⟨3, 0, 100, 0, true, 1, (0 : Fin 16).val % 2, 0, 0⟩ }), (.od 0), (0), (1),
    (1), by decide +kernel⟩,
    ⟨(State.reset), (.od 0), (0), (1), (1), by decide +kernel⟩,
    ⟨(State.reset.setAe ((0 : Fin 16).val / 2)
    { AeSt.reset with mode := .slot, slot := ⟨3, 0, 100, 0, true, 1, (0 : Fin 16).val % 2, 0, 0⟩ }), (.od 0), (0), (1),
    (1), by decide +kernel⟩,
    ⟨(State.reset), (.od 0), (0), (1), by decide +kernel⟩,
    ⟨(State.reset.setAe ((0 : Fin 16).val / 2)
    { AeSt.reset with mode := .slot, slot := ⟨3, 0, 100, 0, true, 1, (0 : Fin 16).val % 2, 0, 0⟩ }), (.od 0), (0), (1),
    by decide +kernel⟩,
    ⟨(State.reset), (.od 0), (0), (1), by decide +kernel⟩,
    ⟨(State.reset.setAe ((0 : Fin 16).val / 2)
    { AeSt.reset with mode := .slot, slot := ⟨3, 0, 100, 0, true, 1, (0 : Fin 16).val % 2, 0, 0⟩ }), (.od 0), (0), (1),
    by decide +kernel⟩,
    ⟨(State.reset), (.od 0), (0), by decide +kernel⟩,
    ⟨(State.reset.setAe ((0 : Fin 16).val / 2)
    { AeSt.reset with mode := .slot, slot := ⟨3, 0, 100, 0, true, 1, (0 : Fin 16).val % 2, 0, 0⟩ }), (.od 0), (0),
    by decide +kernel⟩,
    ⟨(State.reset), (.od 0), (0), by decide +kernel⟩,
    ⟨(State.reset.setAe ((0 : Fin 16).val / 2)
    { AeSt.reset with mode := .slot, slot := ⟨3, 0, 100, 0, true, 1, (0 : Fin 16).val % 2, 0, 0⟩ }), (.od 0), (0),
    by decide +kernel⟩,
    ⟨({ (((State.reset.on (F.AE_CTL_RUN (0 : Fin 8))).on (F.AE_STATUS_RUNNING (0 : Fin 8))).off (F.AE_PERIOD_CNT_COUNT (0 : Fin 8))).setAe (0 : Fin 8) { AeSt.reset with table := some ⟨1000, 100, [⟨(0 : Fin 32).val, 5, 10, 3, false, 1, 0, 0, 20⟩]⟩ } with tb := { State.reset.tb with ticks := 1000 } }),
    (0), (0), (⟨(0 : Fin 32).val, 5, 10, 3, false, 1, 0, 0, 20⟩), by decide +kernel⟩,
    ⟨({ (((State.reset.on (F.AE_CTL_RUN (0 : Fin 8))).on (F.AE_STATUS_RUNNING (0 : Fin 8))).off (F.AE_PERIOD_CNT_COUNT (0 : Fin 8))).setAe (0 : Fin 8) { AeSt.reset with mode := .save, table := some ⟨1000, 100, [⟨(0 : Fin 32).val, 5, 10, 3, false, 1, 0, 0, 20⟩]⟩ } with tb := { State.reset.tb with ticks := 1000 } }),
    (0), (0), (⟨(0 : Fin 32).val, 5, 10, 3, false, 1, 0, 0, 20⟩), by decide +kernel⟩,
    ⟨({ (((State.reset.on (F.AE_CTL_RUN (0 : Fin 8))).on (F.AE_STATUS_RUNNING (0 : Fin 8))).off (F.AE_PERIOD_CNT_COUNT (0 : Fin 8))).setAe (0 : Fin 8) { AeSt.reset with table := some ⟨1000, 100, [⟨(0 : Fin 32).val, 5, 10, 3, false, 1, 0, 0, 20⟩]⟩ } with tb := { State.reset.tb with ticks := 1000 } }),
    (0), (0), (.outer), (⟨(0 : Fin 32).val, 5, 10, 3, false, 1, 0, 0, 20⟩), by decide +kernel⟩,
    ⟨(({ (((State.reset.on (F.AE_CTL_RUN (0 : Fin 8))).on (F.AE_STATUS_RUNNING (0 : Fin 8))).off (F.AE_PERIOD_CNT_COUNT (0 : Fin 8))).setAe (0 : Fin 8) { AeSt.reset with samps := [none, some { s := 0, e := 0, cur := false, pos := false, placed := true, phased := true, served := false }], table := some ⟨1000, 100, [⟨(0 : Fin 32).val, 5, 10, 1, true, 1, 0, 0, 20⟩]⟩ } with tb := { State.reset.tb with ticks := 1000 } }).p
    (F.AX_PWM_STATUS_STATE (2 * (0 : Fin 8) + 1)) 2), (0), (0), (.current), (⟨(0 : Fin 32).val, 5, 10, 1, true, 1, 0, 0,
    20⟩), by decide +kernel⟩,
    ⟨(({ (((State.reset.on (F.AE_CTL_RUN (0 : Fin 8))).on (F.AE_STATUS_RUNNING (0 : Fin 8))).off (F.AE_PERIOD_CNT_COUNT (0 : Fin 8))).setAe (0 : Fin 8) { AeSt.reset with table := some ⟨1000, 100, [⟨(0 : Fin 32).val, 5, 10, 1, true, 1, 0, 0, 20⟩]⟩ } with tb := { State.reset.tb with ticks := 1000 } }).off
    (F.AX_PWM_STATUS_STATE (2 * (0 : Fin 8) + 1))), (0), (0), (.current), (⟨(0 : Fin 32).val, 5, 10, 1, true, 1, 0, 0,
    20⟩), by decide +kernel⟩,
    ⟨((({ (((State.reset.on (F.AE_CTL_RUN (0 : Fin 8))).on (F.AE_STATUS_RUNNING (0 : Fin 8))).off (F.AE_PERIOD_CNT_COUNT (0 : Fin 8))).setAe (0 : Fin 8) { AeSt.reset with table := some ⟨1000, 100, [⟨(0 : Fin 32).val, 5, 10, 1, true, 1, 0, 0, 20⟩]⟩ } with tb := { State.reset.tb with ticks := 1000 } }).p
    (F.AX_PWM_STATUS_STATE (2 * (0 : Fin 8) + 1)) 2).p (F.AE_SCHED_MISS_LIMIT (0 : Fin 8)) 1), (0), (0), (.current),
    (⟨(0 : Fin 32).val, 5, 10, 1, true, 1, 0, 0, 20⟩), (1), by decide +kernel⟩,
    ⟨((({ (((State.reset.on (F.AE_CTL_RUN (0 : Fin 8))).on (F.AE_STATUS_RUNNING (0 : Fin 8))).off (F.AE_PERIOD_CNT_COUNT (0 : Fin 8))).setAe (0 : Fin 8) { AeSt.reset with table := some ⟨1000, 100, [⟨(0 : Fin 32).val, 5, 10, 1, true, 1, 0, 0, 20⟩]⟩ } with tb := { State.reset.tb with ticks := 1000 } }).p
    (F.AX_PWM_STATUS_STATE (2 * (0 : Fin 8) + 1)) 2).p (F.AE_SCHED_MISS_LIMIT (0 : Fin 8)) 0), (0), (0), (.current),
    (⟨(0 : Fin 32).val, 5, 10, 1, true, 1, 0, 0, 20⟩), (1), by decide +kernel⟩,
    ⟨((State.reset.setSup (0 : Fin 16) { SupSt.reset with mark := true, seen := true }).setBw (0 : Fin 16) 0x204 0), (0),
    by decide +kernel⟩,
    ⟨((State.reset.setSup (0 : Fin 16) { SupSt.reset with mark := true, seen := true }).setBw (0 : Fin 16) 0x204 0x10), (0),
    by decide +kernel⟩,
    ⟨(((State.reset.setSup (0 : Fin 16) SupSt.reset).setBw (0 : Fin 16) 0x204 0x10).setBw (0 : Fin 16) 0x200 0), (0),
    by decide +kernel⟩,
    ⟨(((State.reset.setSup (0 : Fin 16) SupSt.reset).setBw (0 : Fin 16) 0x204 0x10).setBw (0 : Fin 16) 0x200 2), (0), (_),
    ⟨by decide +kernel, by decide +kernel, by decide +kernel, by decide +kernel, rfl⟩⟩,
    ⟨(((State.reset.setSup (0 : Fin 16) SupSt.reset).setBw (0 : Fin 16) 0x204 0x10).setBw (0 : Fin 16) 0x200 4), (0),
    by decide +kernel⟩,
    ⟨(State.reset.setSup (0 : Fin 16) { SupSt.reset with stage := 2 }), (0), (⟨false, 0, 0, 0, 0⟩), by decide +kernel⟩,
    ⟨((State.reset.setSup (0 : Fin 16) { SupSt.reset with stage := 1 }).setBw (0 : Fin 16) 0x294 1000), (0), (⟨true, 100, 7,
    8, 9⟩), by decide +kernel⟩,
    ⟨((State.reset.setSup (0 : Fin 16) { SupSt.reset with stage := 1 }).setBw (0 : Fin 16) 0x294 10), (0), (⟨true, 100, 7,
    8, 9⟩), by decide +kernel⟩,
    ⟨((State.reset.setSup (0 : Fin 16) { SupSt.reset with stage := 2 }).setBw (0 : Fin 16) 0x294 1000), (0), (⟨true, 100, 7,
    8, 9⟩), by decide +kernel⟩,
    ⟨((State.reset.setSup (0 : Fin 16) { SupSt.reset with stage := 2 }).setBw (0 : Fin 16) 0x294 10), (0), (⟨true, 100, 7,
    8, 9⟩), by decide +kernel⟩,
    ⟨((State.reset.setSup (0 : Fin 16) { SupSt.reset with stage := 3 }).setBw (0 : Fin 16) 0x294 1000), (0), (⟨true, 100, 7,
    8, 9⟩), by decide +kernel⟩,
    ⟨((State.reset.setSup (0 : Fin 16) { SupSt.reset with stage := 3 }).setBw (0 : Fin 16) 0x294 10), (0), (⟨true, 100, 7,
    8, 9⟩), by decide +kernel⟩⟩

theorem witness_ChannelCommandsTakeEffect :
    (∃ (s : State) (rq : Rq) (k : Fin 168) (queued : Bool) (start : Bool), s.reaches rq (R.LSP_CH_CMD k) ∧ (s.limPos k &&
      s.limNeg k) = false ∧ (s.chanOf k).gains = none ∧ s.cmdBad k 1 queued = false ∧ (queued && s.moving k) = false ∧
      (s.bldcWaits k && !start) = false) ∧
    (∃ (s : State) (rq : Rq) (k : Fin 168) (queued : Bool) (start : Bool), s.reaches rq (R.LSP_CH_CMD k) ∧ (s.limPos k &&
      s.limNeg k) = false ∧ (s.chanOf k).gains.isSome = true ∧ s.cmdBad k 1 queued = false ∧ (queued && s.moving k) =
      false ∧ (s.bldcWaits k && !start) = false) ∧
    (∃ (s : State) (rq : Rq) (k : Fin 168) (_start : Bool), s.reaches rq (R.LSP_CH_CMD k) ∧ (s.limPos k && s.limNeg k) =
      false ∧ s.cmdBad k 1 true = false ∧ s.moving k = true ∧ (s.chanOf k).queue.length < 4) ∧
    (∃ (s : State) (rq : Rq) (k : Fin 168) (queued : Bool) (start : Bool), s.reaches rq (R.LSP_CH_CMD k) ∧ (s.limPos k &&
      s.limNeg k) = false ∧ (s.chanOf k).gains = none ∧ s.cmdBad k 2 queued = false ∧ (queued && s.moving k) = false ∧
      (s.bldcWaits k && !start) = false) ∧
    (∃ (s : State) (rq : Rq) (k : Fin 168) (queued : Bool) (start : Bool), s.reaches rq (R.LSP_CH_CMD k) ∧ (s.limPos k &&
      s.limNeg k) = false ∧ (s.chanOf k).gains.isSome = true ∧ s.cmdBad k 2 queued = false ∧ (queued && s.moving k) =
      false ∧ (s.bldcWaits k && !start) = false) ∧
    (∃ (s : State) (rq : Rq) (k : Fin 168) (_start : Bool), s.reaches rq (R.LSP_CH_CMD k) ∧ (s.limPos k && s.limNeg k) =
      false ∧ s.cmdBad k 2 true = false ∧ s.moving k = true ∧ (s.chanOf k).queue.length < 4) ∧
    (∃ (s : State) (rq : Rq) (k : Fin 168) (queued : Bool) (start : Bool), s.reaches rq (R.LSP_CH_CMD k) ∧ (s.limPos k &&
      s.limNeg k) = false ∧ (s.chanOf k).gains = none ∧ s.cmdBad k 3 queued = false ∧ (queued && s.moving k) = false ∧
      (s.bldcWaits k && !start) = false) ∧
    (∃ (s : State) (rq : Rq) (k : Fin 168) (queued : Bool) (start : Bool), s.reaches rq (R.LSP_CH_CMD k) ∧ (s.limPos k &&
      s.limNeg k) = false ∧ (s.chanOf k).gains.isSome = true ∧ s.cmdBad k 3 queued = false ∧ (queued && s.moving k) =
      false ∧ (s.bldcWaits k && !start) = false) ∧
    (∃ (s : State) (rq : Rq) (k : Fin 168) (_start : Bool), s.reaches rq (R.LSP_CH_CMD k) ∧ (s.limPos k && s.limNeg k) =
      false ∧ s.cmdBad k 3 true = false ∧ s.moving k = true ∧ (s.chanOf k).queue.length < 4) ∧
    (∃ (s : State) (rq : Rq) (k : Fin 168) (queued : Bool), s.reaches rq (R.LSP_CH_CMD k) ∧ (s.limPos k && s.limNeg k) =
      false ∧ (s.chanOf k).gains = none ∧ s.cmdBad k 3 queued = false ∧ (queued && s.moving k) = false ∧ s.bldcWaits k =
      true ∧ (s.stagedLims k).v ≠ 0) ∧
    (∃ (s : State) (rq : Rq) (k : Fin 168) (queued : Bool), s.reaches rq (R.LSP_CH_CMD k) ∧ (s.limPos k && s.limNeg k) =
      false ∧ (s.chanOf k).gains = none ∧ s.cmdBad k 3 queued = false ∧ (queued && s.moving k) = false ∧ s.bldcWaits k =
      true ∧ (s.stagedLims k).v = 0) ∧
    (∃ (s : State) (rq : Rq) (k : Fin 168) (g : Nat), s.reaches rq (R.LSP_CH_CMD k) ∧ s.inGroup k = some g) ∧
    (∃ (s : State) (rq : Rq) (k : Fin 168) (g : Nat), s.reaches rq (R.LSP_CH_CMD k) ∧ s.inGroup k = some g) ∧
    (∃ (s : State) (rq : Rq) (k : Fin 168), s.reaches rq (R.LSP_CH_CMD k) ∧ s.inGroup k = none ∧ s.chanState k ≠ 7) ∧
    (∃ (s : State) (rq : Rq) (k : Fin 168), s.reaches rq (R.LSP_CH_CMD k) ∧ s.inGroup k = none ∧ s.chanState k ≠ 7) ∧
    (∃ (s : State) (rq : Rq) (k : Fin 168), s.reaches rq (R.LSP_CH_CMD k) ∧ (s.chanOf k).gains.isSome = true ∧ s.cmdBad k 6
      false = false) ∧
    (∃ (s : State) (rq : Rq) (k : Fin 168), s.reaches rq (R.LSP_CH_CMD k) ∧ (s.chanOf k).gains = none ∧ s.cmdBad k 6 false
      = false) ∧
    (∃ (s : State) (rq : Rq) (k : Fin 168), s.reaches rq (R.LSP_CH_CMD k) ∧ s.cmdBad k 7 false = false) ∧
    (∃ (s : State) (rq : Rq) (k : Fin 168), s.reaches rq (R.LSP_CH_CMD k) ∧ s.chanState k < 4) ∧
    (∃ (s : State) (rq : Rq) (k : Fin 168), s.reaches rq (R.LSP_CH_CMD k) ∧ s.chanState k = 7 ∧ (decide (k.val < 16) &&
      s.is (F.AX_PWM_STATUS_FAULT k)) = false ∧ (decide (16 ≤ k.val) && decide (k.val < 40) && s.is (F.AUX_STATUS_FAULT
      (k.val - 16))) = false) ∧
    (∃ (s : State) (rq : Rq) (k : Fin 168) (v : Word), s.reaches rq (R.LSP_CH_CFG k) ∧ getBits v 0 2 ≠ 3 ∧ getBits v 10 2 ≠
      3 ∧ (¬(40 ≤ getBits v 16 6 ∧ getBits v 16 6 ≤ 62)) ∧ (¬(40 ≤ getBits v 22 6 ∧ getBits v 22 6 ≤ 62)) ∧ (getBits v 0
      2 = s.g (F.LSP_CH_CFG_SRC k) ∨ s.chanState k = 0)) ∧
    (∃ (s : State) (rq : Rq) (k : Fin 168) (v : Word), s.reaches rq (R.LSP_CH_CFG k) ∧ getBits v 0 2 ≠ 3 ∧ getBits v 10 2 ≠
      3 ∧ (¬(40 ≤ getBits v 16 6 ∧ getBits v 16 6 ≤ 62)) ∧ (¬(40 ≤ getBits v 22 6 ∧ getBits v 22 6 ≤ 62)) ∧ getBits v 0
      2 ≠ s.g (F.LSP_CH_CFG_SRC k) ∧ s.chanState k = 6) ∧
    (∃ (s : State) (rq : Rq) (k : Fin 168) (v : Word), s.reaches rq (R.LSP_CH_CFG k) ∧ getBits v 0 2 ≠ 3 ∧ getBits v 10 2 ≠
      3 ∧ (¬(40 ≤ getBits v 16 6 ∧ getBits v 16 6 ≤ 62)) ∧ (¬(40 ≤ getBits v 22 6 ∧ getBits v 22 6 ≤ 62)) ∧ getBits v 0
      2 ≠ s.g (F.LSP_CH_CFG_SRC k) ∧ s.chanState k ≠ 0 ∧ s.chanState k ≠ 6) :=
  ⟨⟨((((((State.reset.wr (R.LSP_CH_CFG (0 : Fin 168)) (regReset (R.LSP_CH_CFG (0 : Fin 168)))).wr (R.LSP_CH_VMAX (0 : Fin
    168)) 1000).wr (R.LSP_CH_AMAX (0 : Fin 168)) 1000).wr (R.LSP_CH_DMAX (0 : Fin 168)) 1000).p (F.LSP_CH_STATUS_STATE
    (0 : Fin 168)) 0).wr (R.LSP_CH_PREF_HI (0 : Fin 168)) 0), (.od 0), (0), (false), (true), by decide +kernel⟩,
    ⟨(((((((State.reset.wr (R.LSP_CH_CFG (5 : Fin 168)) (regReset (R.LSP_CH_CFG (5 : Fin 168)))).wr (R.LSP_CH_VMAX (5 : Fin
    168)) 1000).wr (R.LSP_CH_AMAX (5 : Fin 168)) 1000).wr (R.LSP_CH_DMAX (5 : Fin 168)) 1000).p (F.LSP_CH_STATUS_STATE
    (5 : Fin 168)) 0).wr (R.LSP_CH_PREF_HI (5 : Fin 168)) 0).setChan (5 : Fin 168)
    { Chan.reset with gains := some (1, 2, 3) }), (.od 0), (5), (false), (true), by decide +kernel⟩,
    ⟨(((((((State.reset.wr (R.LSP_CH_CFG (0 : Fin 168)) (regReset (R.LSP_CH_CFG (0 : Fin 168)))).wr (R.LSP_CH_VMAX (0 : Fin
    168)) 1000).wr (R.LSP_CH_AMAX (0 : Fin 168)) 1000).wr (R.LSP_CH_DMAX (0 : Fin 168)) 1000).p (F.LSP_CH_STATUS_STATE
    (0 : Fin 168)) 0).wr (R.LSP_CH_PREF_HI (0 : Fin 168)) 0).p (F.LSP_CH_STATUS_STATE (0 : Fin 168)) 1), (.od 0), (0),
    (true), by decide +kernel⟩,
    ⟨((((((State.reset.wr (R.LSP_CH_CFG (0 : Fin 168)) (regReset (R.LSP_CH_CFG (0 : Fin 168)))).wr (R.LSP_CH_VMAX (0 : Fin
    168)) 1000).wr (R.LSP_CH_AMAX (0 : Fin 168)) 1000).wr (R.LSP_CH_DMAX (0 : Fin 168)) 1000).p (F.LSP_CH_STATUS_STATE
    (0 : Fin 168)) 0).wr (R.LSP_CH_PREF_HI (0 : Fin 168)) 0), (.od 0), (0), (false), (true), by decide +kernel⟩,
    ⟨(((((((State.reset.wr (R.LSP_CH_CFG (5 : Fin 168)) (regReset (R.LSP_CH_CFG (5 : Fin 168)))).wr (R.LSP_CH_VMAX (5 : Fin
    168)) 1000).wr (R.LSP_CH_AMAX (5 : Fin 168)) 1000).wr (R.LSP_CH_DMAX (5 : Fin 168)) 1000).p (F.LSP_CH_STATUS_STATE
    (5 : Fin 168)) 0).wr (R.LSP_CH_PREF_HI (5 : Fin 168)) 0).setChan (5 : Fin 168)
    { Chan.reset with gains := some (1, 2, 3) }), (.od 0), (5), (false), (true), by decide +kernel⟩,
    ⟨(((((((State.reset.wr (R.LSP_CH_CFG (0 : Fin 168)) (regReset (R.LSP_CH_CFG (0 : Fin 168)))).wr (R.LSP_CH_VMAX (0 : Fin
    168)) 1000).wr (R.LSP_CH_AMAX (0 : Fin 168)) 1000).wr (R.LSP_CH_DMAX (0 : Fin 168)) 1000).p (F.LSP_CH_STATUS_STATE
    (0 : Fin 168)) 0).wr (R.LSP_CH_PREF_HI (0 : Fin 168)) 0).p (F.LSP_CH_STATUS_STATE (0 : Fin 168)) 1), (.od 0), (0),
    (true), by decide +kernel⟩,
    ⟨((((((State.reset.wr (R.LSP_CH_CFG (0 : Fin 168)) (regReset (R.LSP_CH_CFG (0 : Fin 168)))).wr (R.LSP_CH_VMAX (0 : Fin
    168)) 1000).wr (R.LSP_CH_AMAX (0 : Fin 168)) 1000).wr (R.LSP_CH_DMAX (0 : Fin 168)) 1000).p (F.LSP_CH_STATUS_STATE
    (0 : Fin 168)) 0).wr (R.LSP_CH_PREF_HI (0 : Fin 168)) 0), (.od 0), (0), (false), (true), by decide +kernel⟩,
    ⟨(((((((State.reset.wr (R.LSP_CH_CFG (5 : Fin 168)) (regReset (R.LSP_CH_CFG (5 : Fin 168)))).wr (R.LSP_CH_VMAX (5 : Fin
    168)) 1000).wr (R.LSP_CH_AMAX (5 : Fin 168)) 1000).wr (R.LSP_CH_DMAX (5 : Fin 168)) 1000).p (F.LSP_CH_STATUS_STATE
    (5 : Fin 168)) 0).wr (R.LSP_CH_PREF_HI (5 : Fin 168)) 0).setChan (5 : Fin 168)
    { Chan.reset with gains := some (1, 2, 3) }), (.od 0), (5), (false), (true), by decide +kernel⟩,
    ⟨(((((((State.reset.wr (R.LSP_CH_CFG (0 : Fin 168)) (regReset (R.LSP_CH_CFG (0 : Fin 168)))).wr (R.LSP_CH_VMAX (0 : Fin
    168)) 1000).wr (R.LSP_CH_AMAX (0 : Fin 168)) 1000).wr (R.LSP_CH_DMAX (0 : Fin 168)) 1000).p (F.LSP_CH_STATUS_STATE
    (0 : Fin 168)) 0).wr (R.LSP_CH_PREF_HI (0 : Fin 168)) 0).p (F.LSP_CH_STATUS_STATE (0 : Fin 168)) 1), (.od 0), (0),
    (true), by decide +kernel⟩,
    ⟨(((((((((State.reset.wr (R.LSP_CH_CFG (20 : Fin 168)) (regReset (R.LSP_CH_CFG (20 : Fin 168)))).wr (R.LSP_CH_VMAX (20 :
    Fin 168)) 1000).wr (R.LSP_CH_AMAX (20 : Fin 168)) 1000).wr (R.LSP_CH_DMAX (20 : Fin 168)) 1000).p
    (F.LSP_CH_STATUS_STATE (20 : Fin 168)) 0).wr (R.LSP_CH_PREF_HI (20 : Fin 168)) 0).p (F.AUX_CFG_MODE ((20 : Fin
    168).val - 16)) 2).p (F.AUX_BL_STATUS_PHASE ((20 : Fin 168).val - 16)) 1).off (F.AUX_CFG_EN ((20 : Fin 168).val -
    16))), (.od 0), (20), (false), by decide +kernel⟩,
    ⟨(((((((((State.reset.wr (R.LSP_CH_CFG (20 : Fin 168)) (regReset (R.LSP_CH_CFG (20 : Fin 168)))).wr (R.LSP_CH_VMAX (20 :
    Fin 168)) 0).wr (R.LSP_CH_AMAX (20 : Fin 168)) 1000).wr (R.LSP_CH_DMAX (20 : Fin 168)) 1000).p
    (F.LSP_CH_STATUS_STATE (20 : Fin 168)) 0).wr (R.LSP_CH_PREF_HI (20 : Fin 168)) 0).p (F.AUX_CFG_MODE ((20 : Fin
    168).val - 16)) 2).p (F.AUX_BL_STATUS_PHASE ((20 : Fin 168).val - 16)) 1).off (F.AUX_CFG_EN ((20 : Fin 168).val -
    16))), (.od 0), (20), (false), by decide +kernel⟩,
    ⟨((State.reset.p (F.LSP_CH_STATUS_STATE (0 : Fin 168)) 5).setGrp 3
    { Grp.reset with members := [((0 : Fin 168).val, 0, 100)] }), (.od 0), (0), (3), by decide +kernel⟩,
    ⟨((State.reset.p (F.LSP_CH_STATUS_STATE (0 : Fin 168)) 5).setGrp 3
    { Grp.reset with members := [((0 : Fin 168).val, 0, 100)] }), (.od 0), (0), (3), by decide +kernel⟩,
    ⟨(State.reset.p (F.LSP_CH_STATUS_STATE (0 : Fin 168)) 1), (.od 0), (0), by decide +kernel⟩,
    ⟨(State.reset.p (F.LSP_CH_STATUS_STATE (0 : Fin 168)) 1), (.od 0), (0), by decide +kernel⟩,
    ⟨(((((((State.reset.wr (R.LSP_CH_CFG (5 : Fin 168)) (regReset (R.LSP_CH_CFG (5 : Fin 168)))).wr (R.LSP_CH_VMAX (5 : Fin
    168)) 1000).wr (R.LSP_CH_AMAX (5 : Fin 168)) 1000).wr (R.LSP_CH_DMAX (5 : Fin 168)) 1000).p (F.LSP_CH_STATUS_STATE
    (5 : Fin 168)) 0).wr (R.LSP_CH_PREF_HI (5 : Fin 168)) 0).setChan (5 : Fin 168)
    { Chan.reset with gains := some (1, 2, 3) }), (.od 0), (5), by decide +kernel⟩,
    ⟨((((((State.reset.wr (R.LSP_CH_CFG (0 : Fin 168)) (regReset (R.LSP_CH_CFG (0 : Fin 168)))).wr (R.LSP_CH_VMAX (0 : Fin
    168)) 1000).wr (R.LSP_CH_AMAX (0 : Fin 168)) 1000).wr (R.LSP_CH_DMAX (0 : Fin 168)) 1000).p (F.LSP_CH_STATUS_STATE
    (0 : Fin 168)) 0).wr (R.LSP_CH_PREF_HI (0 : Fin 168)) 0), (.od 0), (0), by decide +kernel⟩,
    ⟨((((((State.reset.wr (R.LSP_CH_CFG (0 : Fin 168)) (regReset (R.LSP_CH_CFG (0 : Fin 168)))).wr (R.LSP_CH_VMAX (0 : Fin
    168)) 1000).wr (R.LSP_CH_AMAX (0 : Fin 168)) 1000).wr (R.LSP_CH_DMAX (0 : Fin 168)) 1000).p (F.LSP_CH_STATUS_STATE
    (0 : Fin 168)) 0).wr (R.LSP_CH_PREF_HI (0 : Fin 168)) 0), (.od 0), (0), by decide +kernel⟩,
    ⟨((((((State.reset.wr (R.LSP_CH_CFG (0 : Fin 168)) (regReset (R.LSP_CH_CFG (0 : Fin 168)))).wr (R.LSP_CH_VMAX (0 : Fin
    168)) 1000).wr (R.LSP_CH_AMAX (0 : Fin 168)) 1000).wr (R.LSP_CH_DMAX (0 : Fin 168)) 1000).p (F.LSP_CH_STATUS_STATE
    (0 : Fin 168)) 0).wr (R.LSP_CH_PREF_HI (0 : Fin 168)) 0), (.od 0), (0), by decide +kernel⟩,
    ⟨(State.reset.p (F.LSP_CH_STATUS_STATE (50 : Fin 168)) 7), (.od 0), (50), by decide +kernel⟩,
    ⟨((State.reset.p (F.LSP_CH_CFG_SRC (0 : Fin 168)) 1).p (F.LSP_CH_STATUS_STATE (0 : Fin 168)) 0), (.od 0), (0),
    (0x0FFF0040), by decide +kernel⟩,
    ⟨((State.reset.p (F.LSP_CH_CFG_SRC (0 : Fin 168)) 1).p (F.LSP_CH_STATUS_STATE (0 : Fin 168)) 6), (.od 0), (0),
    (0x0FFF0040), by decide +kernel⟩,
    ⟨((State.reset.p (F.LSP_CH_CFG_SRC (0 : Fin 168)) 1).p (F.LSP_CH_STATUS_STATE (0 : Fin 168)) 1), (.od 0), (0),
    (0x0FFF0040), by decide +kernel⟩⟩

theorem witness_GroupsAndEventsOfLarkspurTakeEffect :
    (∃ (s : State) (rq : Rq) (g : Fin 16) (_start : Bool) (l : List Nat), s.reaches rq (R.LSP_GRP_CMD g) ∧ l =
      s.groupMembers g ∧ 0 < l.length ∧ l.length ≤ 16 ∧ (l.all (fun k => decide (s.g (F.LSP_CH_CFG_SRC k) = 0 ∧
      s.chanState k = 0 ∧ s.cmdBad k 1 false = false ∧ s.holder (chanObj k) = s.holder (chanObj (l.headD 0)))) = true)) ∧
    (∃ (s : State) (rq : Rq) (g : Fin 16) (_start : Bool) (k : Fin 168), s.reaches rq (R.LSP_GRP_CMD g) ∧ s.groupMembers g =
      [k.val] ∧ s.g (F.LSP_CH_CFG_SRC k) = 0 ∧ s.chanState k = 0 ∧ s.cmdBad k 1 false = false) ∧
    (∃ (s : State) (rq : Rq) (g : Fin 16) (_start : Bool) (l : List Nat), s.reaches rq (R.LSP_GRP_CMD g) ∧ l =
      s.groupMembers g ∧ 0 < l.length ∧ l.length ≤ 16 ∧ (l.all (fun k => decide (s.g (F.LSP_CH_CFG_SRC k) = 0 ∧
      s.chanState k = 0 ∧ s.cmdBad k 2 false = false ∧ s.holder (chanObj k) = s.holder (chanObj (l.headD 0)))) = true)) ∧
    (∃ (s : State) (rq : Rq) (g : Fin 16) (_start : Bool) (k : Fin 168), s.reaches rq (R.LSP_GRP_CMD g) ∧ s.groupMembers g =
      [k.val] ∧ s.g (F.LSP_CH_CFG_SRC k) = 0 ∧ s.chanState k = 0 ∧ s.cmdBad k 2 false = false) ∧
    (∃ (s : State) (rq : Rq) (g : Fin 16), s.reaches rq (R.LSP_GRP_CMD g) ∧ s.g (F.LSP_GRP_STATUS_STATE g) ≠ 0) ∧
    (∃ (s : State) (rq : Rq) (g : Fin 16), s.reaches rq (R.LSP_GRP_CMD g) ∧ s.g (F.LSP_GRP_STATUS_STATE g) ≠ 0) ∧
    (∃ (s : State) (k : Fin 168) (t0 : Nat), (s.chanOf k).stopTick = some t0 ∧ t0 + 250000 * s.g (F.LSP_CH_TMO_STOP_TMO k)
      ≤ s.tb.ticks ∧ s.is (F.LSP_CH_STATUS_STANDSTILL k) = false ∧ s.chanState k ≠ 7) ∧
    (∃ (s : State) (k : Fin 168), (s.chanOf k).home ≠ .none ∧ (s.chanOf k).homeTick + 25000000 * s.g (F.LSP_CH_TMO_HOME_TMO
      k) ≤ s.tb.ticks) ∧
    (∃ (s : State) (k : Fin 16) (t0 : Nat), (s.chanOf k).stillSince = some t0 ∧ t0 + 250000 * s.g
      (F.LSP_CH_HOLD_CFG_HOLD_DELAY k) ≤ s.tb.ticks ∧ s.is (F.LSP_CH_STATUS_HOLD k) = false ∧ s.is (F.LSP_CH_CFG_HOLD_EN
      k) = true ∧ s.is (F.LSP_CH_STATUS_STANDSTILL k) = true ∧ s.bw k 0x48 = 2 ∧ s.bw k 0x270 = 0 ∧ (¬((s.aeOf (k.val /
      2)).mode = .slot ∧ ((s.aeOf (k.val / 2)).slot.axes (k.val / 2)).contains k.val = true))) ∧
    (∃ (s : State) (k : Fin 16) (t0 : Nat), (s.chanOf k).stillSince = some t0 ∧ t0 + 250000 * s.g
      (F.LSP_CH_HOLD_CFG_HOLD_DELAY k) ≤ s.tb.ticks ∧ s.is (F.LSP_CH_STATUS_HOLD k) = false ∧ s.is (F.LSP_CH_CFG_HOLD_EN
      k) = true ∧ s.is (F.LSP_CH_STATUS_STANDSTILL k) = true ∧ s.bw k 0x48 = 2 ∧ s.bw k 0x270 = 0 ∧ (s.aeOf (k.val /
      2)).mode = .slot ∧ ((s.aeOf (k.val / 2)).slot.axes (k.val / 2)).contains k.val = true) ∧
    (∃ (s : State) (k : Fin 168), 16 ≤ k.val ∧ k.val < 40 ∧ s.higherRuns k = false) ∧
    (∃ (s : State) (k : Fin 168), 40 ≤ k.val ∧ s.higherRuns k = false) ∧
    (∃ (s : State) (k : Fin 168), k.val < 16 ∧ s.higherRuns k = false) ∧
    (∃ (s : State) (rq : Rq) (hi : Bool) (v : Word) (j : Fin 40) (g : Nat), s.dropReason rq (if hi then R.LSP_EN_REQ1 else
      R.LSP_EN_REQ0) = none ∧ j.val ∈ s.enAsked rq hi v ∧ s.chanGroup j = some g ∧ s.enBlocked g = false) ∧
    (∃ (s : State) (rq : Rq) (hi : Bool) (v : Word) (j : Fin 40) (g : Nat), s.dropReason rq (if hi then R.LSP_EN_REQ1 else
      R.LSP_EN_REQ0) = none ∧ j.val ∈ s.enAsked rq hi v ∧ s.chanGroup j = some g ∧ s.enBlocked g = false) ∧
    (∃ (s : State) (rq : Rq) (hi : Bool) (v : Word) (j : Fin 40) (g : Nat), s.dropReason rq (if hi then R.LSP_EN_REQ1 else
      R.LSP_EN_REQ0) = none ∧ j.val ∈ s.enAsked rq hi v ∧ s.chanGroup j = some g ∧ s.enBlocked g = true) ∧
    (∃ (s : State) (rq : Rq) (hi : Bool) (v : Word), s.dropReason rq (if hi then R.LSP_EN_REQ1 else R.LSP_EN_REQ0) = none ∧
      s.enAsked rq hi v = []) ∧
    (∃ (s : State) (g : Fin 4) (k : Fin 40), s.enRuns g = true ∧ s.stagDue g = true ∧ s.chanGroup k = some g.val ∧
      s.enPending k = true ∧ s.enBlocked g = true) ∧
    (∃ (s : State) (g : Fin 4) (k : Fin 16), s.enRuns g = true ∧ s.stagDue g = true ∧ s.chanGroup k = some g.val ∧
      s.enPending k = true ∧ (∀ j : Fin 40, s.enPending j = true → j.val = k.val) ∧ s.enBlocked g = false ∧ s.running k
      = true ∧ s.enableHeld k = false ∧ s.is (F.AX_PWM_CTL_OUT_EN k) = false) ∧
    (∃ (s : State) (g : Fin 4) (k : Fin 40), s.enRuns g = true ∧ s.stagDue g = true ∧ s.chanGroup k = some g.val ∧
      s.enPending k = true ∧ 16 ≤ k.val ∧ (∀ j : Fin 40, s.enPending j = true → j.val = k.val) ∧ s.enBlocked g = false ∧
      s.is (F.AUX_CFG_EN (k.val - 16)) = true ∧ s.is (F.AUX_STATUS_FAULT (k.val - 16)) = false ∧ s.is
      (F.AUX_STATUS_LAUNCH_OFF (k.val - 16)) = false ∧ s.is (F.AUX_CTL_OUT_EN (k.val - 16)) = false ∧ s.enableHeld k =
      false) ∧
    (∃ (s : State) (g : Fin 4) (k : Fin 40), s.enRuns g = true ∧ s.stagDue g = true ∧ s.chanGroup k = some g.val ∧
      s.enPending k = true ∧ (∀ j : Fin 40, s.enPending j = true → j.val = k.val) ∧ s.enBlocked g = false ∧ (if k.val <
      16 then s.is (F.AX_PWM_CTL_OUT_EN k) else s.is (F.AUX_CTL_OUT_EN (k.val - 16))) = false ∧ (if k.val < 16 then
      !s.running k || s.is (F.AX_PWM_STATUS_FAULT k) else !s.is (F.AUX_CFG_EN (k.val - 16)) || s.is (F.AUX_STATUS_FAULT
      (k.val - 16))) = true) :=
  ⟨⟨((((((((State.reset.wr (R.LSP_CH_CFG 0) (regReset (R.LSP_CH_CFG 0) ||| BitVec.ofNat 32 (64 + 4 * (0 : Fin
    16).val))).off (F.LSP_CH_CFG_GROUP_EN 1)).wr (R.LSP_CH_VMAX 0) 1000).wr (R.LSP_CH_AMAX 0) 1000).wr (R.LSP_CH_DMAX 0)
    1000).p (F.LSP_CH_STATUS_STATE 0) 0))), (.od 0), (0), (true), ([0]), by decide +kernel⟩,
    ⟨((((((((State.reset.wr (R.LSP_CH_CFG 0) (regReset (R.LSP_CH_CFG 0) ||| BitVec.ofNat 32 (64 + 4 * (0 : Fin
    16).val))).off (F.LSP_CH_CFG_GROUP_EN 1)).wr (R.LSP_CH_VMAX 0) 1000).wr (R.LSP_CH_AMAX 0) 1000).wr (R.LSP_CH_DMAX 0)
    1000).p (F.LSP_CH_STATUS_STATE 0) 0))), (.od 0), (0), (true), (0), by decide +kernel⟩,
    ⟨((((((((State.reset.wr (R.LSP_CH_CFG 0) (regReset (R.LSP_CH_CFG 0) ||| BitVec.ofNat 32 (64 + 4 * (0 : Fin
    16).val))).off (F.LSP_CH_CFG_GROUP_EN 1)).wr (R.LSP_CH_VMAX 0) 1000).wr (R.LSP_CH_AMAX 0) 1000).wr (R.LSP_CH_DMAX 0)
    1000).p (F.LSP_CH_STATUS_STATE 0) 0))), (.od 0), (0), (true), ([0]), by decide +kernel⟩,
    ⟨((((((((State.reset.wr (R.LSP_CH_CFG 0) (regReset (R.LSP_CH_CFG 0) ||| BitVec.ofNat 32 (64 + 4 * (0 : Fin
    16).val))).off (F.LSP_CH_CFG_GROUP_EN 1)).wr (R.LSP_CH_VMAX 0) 1000).wr (R.LSP_CH_AMAX 0) 1000).wr (R.LSP_CH_DMAX 0)
    1000).p (F.LSP_CH_STATUS_STATE 0) 0))), (.od 0), (0), (true), (0), by decide +kernel⟩,
    ⟨(State.reset.p (F.LSP_GRP_STATUS_STATE (0 : Fin 16)) 1), (.od 0), (0), by decide +kernel⟩,
    ⟨(State.reset.p (F.LSP_GRP_STATUS_STATE (0 : Fin 16)) 1), (.od 0), (0), by decide +kernel⟩,
    ⟨({ ((State.reset.off (F.LSP_CH_STATUS_STANDSTILL (0 : Fin 168))).p (F.LSP_CH_STATUS_STATE (0 : Fin 168)) 3).setChan (0 : Fin 168) { Chan.reset with stopTick := some 5 } with tb := { State.reset.tb with ticks := 250000 * 70000 } }),
    (0), (5), by decide +kernel⟩,
    ⟨({ State.reset.setChan (0 : Fin 168) { Chan.reset with home := .search } with tb := { State.reset.tb with ticks := 25000000 * 70000 } }),
    (0), by decide +kernel⟩,
    ⟨({ (((((State.reset.off (F.LSP_CH_STATUS_HOLD (0 : Fin 16))).on (F.LSP_CH_CFG_HOLD_EN (0 : Fin 16))).on (F.LSP_CH_STATUS_STANDSTILL (0 : Fin 16))).setBw (0 : Fin 16) 0x48 2).setBw (0 : Fin 16) 0x270 0).setChan (0 : Fin 16) { Chan.reset with stillSince := some 0 } with tb := { State.reset.tb with ticks := 250000 * 70000 } }),
    (0), (0), by decide +kernel⟩,
    ⟨({ (((((State.reset.off (F.LSP_CH_STATUS_HOLD (0 : Fin 16))).on (F.LSP_CH_CFG_HOLD_EN (0 : Fin 16))).on (F.LSP_CH_STATUS_STANDSTILL (0 : Fin 16))).setBw (0 : Fin 16) 0x48 2).setBw (0 : Fin 16) 0x270 0).setChan (0 : Fin 16) { Chan.reset with stillSince := some 0 } with ae := tabSet (fun _ => AeSt.reset) State.reset.ae ((0 : Fin 16).val / 2) { AeSt.reset with mode := .slot, slot := ⟨3, 0, 100, 0, true, 1, (0 : Fin 16).val % 2, 0, 0⟩ }, tb := { State.reset.tb with ticks := 250000 * 70000 } }),
    (0), (0), by decide +kernel⟩,
    ⟨(State.reset), (20), by decide +kernel⟩,
    ⟨(State.reset), (60), by decide +kernel⟩,
    ⟨(State.reset), (0), by decide +kernel⟩,
    ⟨(((State.reset.p (F.AX_PWM_CFG_DL_GROUP 3) 0).off F.SAF_STO_ASSERTED).off F.SAF_LOCK_DEVICE), (.od 0), (false), (0xFF),
    (3), (0), by decide +kernel⟩,
    ⟨(((State.reset.p (F.AUX_CFG_DL_GROUP 19) 0).off F.SAF_STO_ASSERTED).off F.SAF_LOCK_DEVICE), (.od 0), (true), (0xFF),
    (35), (0), by decide +kernel⟩,
    ⟨(((State.reset.p (F.AX_PWM_CFG_DL_GROUP 3) 0).off F.SAF_STO_ASSERTED).on F.SAF_LOCK_DEVICE), (.od 0), (false), (0xFF),
    (3), (0), by decide +kernel⟩,
    ⟨(State.reset), (.od 0), (true), (0), by decide +kernel⟩,
    ⟨(((((State.reset.p (F.AX_PWM_CFG_DL_GROUP 0) (0 : Fin 4)).wr R.LSP_EN_REQ0 1).on F.SAF_LOCK_DEVICE)).setStag (0 : Fin
    4) ⟨some 0, none⟩), (0), (0), by decide +kernel⟩,
    ⟨((((((((((((State.reset.p (F.AX_PWM_CFG_DL_GROUP 0) (0 : Fin 4)).wr R.LSP_EN_REQ0 1).wr R.LSP_EN_REQ1 0).off
    F.SAF_LOCK_DEVICE).off F.SAF_STO_ASSERTED).p (F.AX_PWM_STATUS_STATE 0) 2).off (F.AX_PWM_STATUS_FAULT 0)).off
    (F.AX_PWM_STATUS_LAUNCH_OFF 0)).off (F.AX_PWM_CTL_OUT_EN 0))).setStag (0 : Fin 4) ⟨none, some 0⟩)), (0), (0),
    by decide +kernel⟩,
    ⟨((((((((((((State.reset.p (F.AUX_CFG_DL_GROUP 4) (0 : Fin 4)).wr R.LSP_EN_REQ0 0x100000).wr R.LSP_EN_REQ1 0).off
    F.SAF_LOCK_DEVICE).off F.SAF_STO_ASSERTED).on (F.AUX_CFG_EN 4)).off (F.AUX_STATUS_FAULT 4)).off
    (F.AUX_STATUS_LAUNCH_OFF 4)).off (F.AUX_CTL_OUT_EN 4))).setStag (0 : Fin 4) ⟨none, some 0⟩)), (0), (20),
    by decide +kernel⟩,
    ⟨((((((((((State.reset.p (F.AUX_CFG_DL_GROUP 4) (0 : Fin 4)).wr R.LSP_EN_REQ0 0x100000).wr R.LSP_EN_REQ1 0).off
    F.SAF_LOCK_DEVICE).off F.SAF_STO_ASSERTED).off (F.AUX_CFG_EN 4)).off (F.AUX_CTL_OUT_EN 4))).setStag (0 : Fin 4)
    ⟨none, some 0⟩)), (0), (20), by decide +kernel⟩⟩

theorem witness_ShaftMembershipFollowsItsRules :
    (∃ (s : State) (domain : BitVec 16) (member : BitVec 8) (m : SegMsg), (s.is F.CLK_STATUS_DEGRADED && s.g
      F.CLK_MG_TRIM_TRIM_SRC == 1 && s.g F.CLK_MG_TRIM_SHAFT == m.shaft.toNat) = false ∧ s.is F.LSH_CFG_EN = true ∧
      m.shaft.toNat < 8 ∧ s.is (F.LSH_SH_CFG_EN m.shaft.toNat) = true ∧ s.segBad domain.toNat (s.copyOf member.toNat m)
      = true) ∧
    (∃ (s : State) (domain : BitVec 16) (member : BitVec 8) (m : SegMsg), (s.is F.CLK_STATUS_DEGRADED && s.g
      F.CLK_MG_TRIM_TRIM_SRC == 1 && s.g F.CLK_MG_TRIM_SHAFT == m.shaft.toNat) = false ∧ s.is F.LSH_CFG_EN = true ∧
      m.shaft.toNat < 8 ∧ s.is (F.LSH_SH_CFG_EN m.shaft.toNat) = true ∧ s.segBad domain.toNat (s.copyOf member.toNat m)
      = false ∧ s.now ≤ (s.copyOf member.toNat m).t0 ∧ s.lsh.cycle.all (fun l => decide (l < (s.copyOf member.toNat
      m).t0)) = true) ∧
    (∃ (s : State) (domain : BitVec 16) (member : BitVec 8) (m : SegMsg), (s.is F.CLK_STATUS_DEGRADED && s.g
      F.CLK_MG_TRIM_TRIM_SRC == 1 && s.g F.CLK_MG_TRIM_SHAFT == m.shaft.toNat) = false ∧ s.is F.LSH_CFG_EN = true ∧
      m.shaft.toNat < 8 ∧ s.is (F.LSH_SH_CFG_EN m.shaft.toNat) = true ∧ s.segBad domain.toNat (s.copyOf member.toNat m)
      = false ∧ (s.copyOf member.toNat m).t0 < s.now ∧ s.now < (s.copyOf member.toNat m).until ∧ s.lsh.cycle = none) ∧
    (∃ (s : State) (domain : BitVec 16) (member : BitVec 8) (m : SegMsg), (s.is F.CLK_STATUS_DEGRADED && s.g
      F.CLK_MG_TRIM_TRIM_SRC == 1 && s.g F.CLK_MG_TRIM_SHAFT == m.shaft.toNat) = false ∧ s.is F.LSH_CFG_EN = true ∧
      m.shaft.toNat < 8 ∧ s.is (F.LSH_SH_CFG_EN m.shaft.toNat) = true ∧ s.segBad domain.toNat (s.copyOf member.toNat m)
      = false ∧ (s.copyOf member.toNat m).until ≤ s.now ∧ (s.copyOf member.toNat m).t0 < s.now) ∧
    (∃ (s : State) (src : BitVec 48) (domain : BitVec 16) (member : BitVec 8) (j : JoinMsg), s.is F.LSH_CFG_EN = true ∧
      domain.toNat = s.g F.LSH_DOMAIN_DOMAIN ∧ j.cycle.toNat = s.g F.LSH_CFG_CYCLE ∧ member.toNat ≠ s.g F.LSH_CFG_MEMBER
      ∧ ((s.memberOf member.toNat).heard.isSome && (s.memberOf member.toNat).round == s.joinRound && (s.memberOf
      member.toNat).src != src.toNat) = false ∧ (s.memberOf member.toNat).clash.all (fun c => decide (c + 2 ≤
      s.joinRound)) = true) ∧
    (∃ (s : State) (src : BitVec 48) (domain : BitVec 16) (member : BitVec 8) (j : JoinMsg), s.is F.LSH_CFG_EN = true ∧
      domain.toNat = s.g F.LSH_DOMAIN_DOMAIN ∧ j.cycle.toNat = s.g F.LSH_CFG_CYCLE ∧ member.toNat = s.g F.LSH_CFG_MEMBER
      ∧ (s.is F.LSH_JOIN_STATUS_JOINING = false ∨ src.toNat = Config.macAddress.toNat) ∧ ((s.memberOf
      member.toNat).heard.isSome && (s.memberOf member.toNat).round == s.joinRound && (s.memberOf member.toNat).src !=
      src.toNat) = false) ∧
    (∃ (s : State) (src : BitVec 48) (domain : BitVec 16) (member : BitVec 8) (j : JoinMsg), s.is F.LSH_CFG_EN = true ∧
      domain.toNat = s.g F.LSH_DOMAIN_DOMAIN ∧ j.cycle.toNat = s.g F.LSH_CFG_CYCLE ∧ member.toNat ≠ s.g F.LSH_CFG_MEMBER
      ∧ ((s.memberOf member.toNat).heard.isSome && (s.memberOf member.toNat).round == s.joinRound && (s.memberOf
      member.toNat).src != src.toNat) = false ∧ (s.memberOf member.toNat).clash.any (fun c => decide (s.joinRound < c +
      2)) = true) ∧
    (∃ (s : State) (src : BitVec 48) (domain : BitVec 16) (member : BitVec 8) (j : JoinMsg), s.is F.LSH_CFG_EN = true ∧
      domain.toNat = s.g F.LSH_DOMAIN_DOMAIN ∧ j.cycle.toNat = s.g F.LSH_CFG_CYCLE ∧ ((s.memberOf
      member.toNat).heard.isSome && (s.memberOf member.toNat).round == s.joinRound && (s.memberOf member.toNat).src !=
      src.toNat) = true) ∧
    (∃ (s : State) (src : BitVec 48) (domain : BitVec 16) (member : BitVec 8) (j : JoinMsg), s.is F.LSH_CFG_EN = true ∧
      domain.toNat = s.g F.LSH_DOMAIN_DOMAIN ∧ j.cycle.toNat = s.g F.LSH_CFG_CYCLE ∧ member.toNat = s.g F.LSH_CFG_MEMBER
      ∧ s.is F.LSH_JOIN_STATUS_JOINING = true ∧ src.toNat ≠ Config.macAddress.toNat) ∧
    (∃ (s : State) (_src : BitVec 48) (domain : BitVec 16) (_member : BitVec 8) (j : JoinMsg), s.is F.LSH_CFG_EN = true ∧
      domain.toNat = s.g F.LSH_DOMAIN_DOMAIN ∧ j.cycle.toNat ≠ s.g F.LSH_CFG_CYCLE) ∧
    (∃ (s : State) (domain : BitVec 16) (member : BitVec 8), s.is F.LSH_CFG_EN = true ∧ domain.toNat = s.g
      F.LSH_DOMAIN_DOMAIN ∧ s.present member.toNat = true) ∧
    (∃ (s : State) (p : Nat), s.is F.LSH_CFG_EN = true ∧ p < 2 ∧ s.portUp p = true ∧ s.portUp (1 - p) = false) ∧
    (∃ (s : State), s.is F.LSH_CFG_EN = true ∧ s.portUp 0 = true ∧ s.portUp 1 = true) ∧
    (∃ (s : State), s.portUp 0 = false ∧ s.portUp 1 = false) ∧
    (∃ (s : State) (m : Fin 256) (h : Nat), (s.memberOf m).heard = some h ∧ 4 * h + 3 * s.tCyc + 2000000 ≤ s.elapsed ∧
      s.present m = true ∧ s.expected m = true) ∧
    (∃ (s : State) (m : Fin 256) (h : Nat), (s.memberOf m).heard = some h ∧ 4 * h + 3 * s.tCyc + 2000000 ≤ s.elapsed ∧
      s.present m = true ∧ s.expected m = false) ∧
    (∃ (s : State), s.is F.LSH_JOIN_STATUS_COMPLETE = false ∧ s.is F.LSH_CFG_EN = true ∧ s.is F.LSH_JOIN_CFG_EN = true ∧
      s.servo = servoLocked ∧ s.allPresent = true) ∧
    (∃ (s : State) (rq : Rq) (v : Word), s.reaches rq R.LSH_CFG ∧ getBits v 0 3 < 6 ∧ getBits v 4 4 < 9 ∧ 1 ≤ getBits v 8 4
      ∧ getBits v 8 4 ≤ 8 ∧ (getBits v 0 3 = s.g F.LSH_CFG_CYCLE ∨ ∀ h : Fin 8, s.is (F.LSH_SH_CFG_EN h) = false) ∧
      (getBits v 16 8 = s.g F.LSH_CFG_MEMBER ∨ s.servo ≠ servoLocked)) ∧
    (∃ (s : State) (rq : Rq) (v : Word) (o : Nat), s.reaches rq R.LSH_CFG ∧ getBits v 0 3 < 6 ∧ getBits v 4 4 < 9 ∧ 1 ≤
      getBits v 8 4 ∧ getBits v 8 4 ≤ 8 ∧ (getBits v 0 3 = s.g F.LSH_CFG_CYCLE ∨ ∀ h : Fin 8, s.is (F.LSH_SH_CFG_EN h) =
      false) ∧ o = s.g F.LSH_CFG_MEMBER ∧ getBits v 16 8 ≠ o ∧ s.servo = servoLocked) ∧
    (∃ (s : State), s.is F.LSH_CFG_EN = true ∧ s.isolated regMotion = false ∧ s.lsh.cycle ≠ some s.cycleStart) ∧
    (∃ (s : State) (r : Fin 16) (q : Nat), (s.regOf r).slow = some q ∧ q + s.g (F.LSH_REG_TMO_TMO r) * 1000000 * 65536 ≤
      s.elapsedAt s.now ∧ s.is (F.LSH_REG_STATUS_OPEN r) = true) :=
  ⟨⟨((((State.reset.on F.LSH_CFG_EN).on (F.LSH_SH_CFG_EN 0)).off F.CLK_STATUS_DEGRADED).p F.LSH_DOMAIN_DOMAIN 9), (1), (1),
    (⟨0, 1, 9, BitVec.ofNat 16 (State.reset.nowNs / 1000000000), BitVec.ofNat 32 (State.reset.nowNs % 1000000000 /
    State.reset.tCyc * State.reset.tCyc + State.reset.tCyc), 0, 4000000, 5, 0, 0, 0⟩), by decide +kernel⟩,
    ⟨((((State.reset.on F.LSH_CFG_EN).on (F.LSH_SH_CFG_EN 0)).off F.CLK_STATUS_DEGRADED).p F.LSH_DOMAIN_DOMAIN (1 : BitVec
    16).toNat), (1), (1), (⟨0, 1, 9, BitVec.ofNat 16 (State.reset.nowNs / 1000000000), BitVec.ofNat 32
    (State.reset.nowNs % 1000000000 / State.reset.tCyc * State.reset.tCyc + State.reset.tCyc), 0, 4000000, 5, 0, 0, 0⟩),
    by decide +kernel⟩,
    ⟨({ ((((State.reset.on F.LSH_CFG_EN).on (F.LSH_SH_CFG_EN 0)).off F.CLK_STATUS_DEGRADED).p F.LSH_DOMAIN_DOMAIN (1 : BitVec 16).toNat) with tb := { State.reset.tb with ctr := State.reset.tb.ctr + (State.reset.tCyc + 1000) * 2 ^ 32 } }),
    (1), (1), (⟨0, 1, 9, BitVec.ofNat 16 (State.reset.nowNs / 1000000000), BitVec.ofNat 32 (State.reset.nowNs %
    1000000000 / State.reset.tCyc * State.reset.tCyc + State.reset.tCyc), 0, 4000000, 5, 0, 0, 0⟩), by decide +kernel⟩,
    ⟨({ ((((State.reset.on F.LSH_CFG_EN).on (F.LSH_SH_CFG_EN 0)).off F.CLK_STATUS_DEGRADED).p F.LSH_DOMAIN_DOMAIN (1 : BitVec 16).toNat) with tb := { State.reset.tb with ctr := State.reset.tb.ctr + 100000000 * 2 ^ 32 } }),
    (1), (1), (⟨0, 1, 9, BitVec.ofNat 16 (State.reset.nowNs / 1000000000), BitVec.ofNat 32 (State.reset.nowNs %
    1000000000 / State.reset.tCyc * State.reset.tCyc + State.reset.tCyc), 0, 4000000, 5, 0, 0, 0⟩), by decide +kernel⟩,
    ⟨(((State.reset.on F.LSH_CFG_EN).p F.LSH_DOMAIN_DOMAIN (1 : BitVec 16).toNat).p F.LSH_CFG_MEMBER 9), (77), (1), (3),
    (⟨BitVec.ofNat 8 (State.reset.g F.LSH_CFG_CYCLE), 0, 0⟩), by decide +kernel⟩,
    ⟨((((State.reset.on F.LSH_CFG_EN).p F.LSH_DOMAIN_DOMAIN (1 : BitVec 16).toNat).p F.LSH_CFG_MEMBER 3).off
    F.LSH_JOIN_STATUS_JOINING), (77), (1), (3), (⟨BitVec.ofNat 8 (State.reset.g F.LSH_CFG_CYCLE), 0, 0⟩),
    by decide +kernel⟩,
    ⟨((((State.reset.on F.LSH_CFG_EN).p F.LSH_DOMAIN_DOMAIN (1 : BitVec 16).toNat).p F.LSH_CFG_MEMBER 9).setMember (3 :
    BitVec 8).toNat { Member.reset with clash := some State.reset.joinRound }), (77), (1), (3), (⟨BitVec.ofNat 8
    (State.reset.g F.LSH_CFG_CYCLE), 0, 0⟩), by decide +kernel⟩,
    ⟨((((State.reset.on F.LSH_CFG_EN).p F.LSH_DOMAIN_DOMAIN (1 : BitVec 16).toNat).setMember (3 : BitVec 8).toNat
    { Member.reset with heard := some 0, src := 5, round := State.reset.joinRound })), (77), (1), (3), (⟨BitVec.ofNat 8
    (State.reset.g F.LSH_CFG_CYCLE), 0, 0⟩), by decide +kernel⟩,
    ⟨((((State.reset.on F.LSH_CFG_EN).p F.LSH_DOMAIN_DOMAIN (1 : BitVec 16).toNat).p F.LSH_CFG_MEMBER 3).on
    F.LSH_JOIN_STATUS_JOINING), ((Config.macAddress + 1)), (1), (3), (⟨BitVec.ofNat 8 (State.reset.g F.LSH_CFG_CYCLE),
    0, 0⟩),
    ⟨by decide +kernel, by decide +kernel, by decide +kernel, by decide +kernel, by decide +kernel, next_address _⟩⟩,
    ⟨((State.reset.on F.LSH_CFG_EN).p F.LSH_DOMAIN_DOMAIN (1 : BitVec 16).toNat), (77), (1), (3), (⟨200, 0, 0⟩),
    by decide +kernel⟩,
    ⟨(((State.reset.on F.LSH_CFG_EN).p F.LSH_DOMAIN_DOMAIN (1 : BitVec 16).toNat).setPresent (1 : BitVec 8).toNat true),
    (1), (1), by decide +kernel⟩,
    ⟨(((State.reset.on F.LSH_CFG_EN).on (F.ETH_STATUS_LINK 1)).off (F.ETH_STATUS_LINK 0)), (1), by decide +kernel⟩,
    ⟨(((State.reset.on F.LSH_CFG_EN).on (F.ETH_STATUS_LINK 1)).on (F.ETH_STATUS_LINK 0)), by decide +kernel⟩,
    ⟨(((State.reset.on F.LSH_CFG_EN).off (F.ETH_STATUS_LINK 1)).off (F.ETH_STATUS_LINK 0)), by decide +kernel⟩,
    ⟨({ ((State.reset.setPresent (0 : Fin 256) true).p ⟨R.LSH_MEMBERS ((0 : Fin 256).val / 32), (0 : Fin 256).val % 32, 1⟩ 1).setMember (0 : Fin 256) { Member.reset with heard := some (7 : Nat) } with tb := { State.reset.tb with ticks := 100000000 } }),
    (0), (7), by decide +kernel⟩,
    ⟨({ ((State.reset.setPresent (0 : Fin 256) true).p ⟨R.LSH_MEMBERS ((0 : Fin 256).val / 32), (0 : Fin 256).val % 32, 1⟩ 0).setMember (0 : Fin 256) { Member.reset with heard := some (7 : Nat) } with tb := { State.reset.tb with ticks := 100000000 } }),
    (0), (7), by decide +kernel⟩,
    ⟨((((((State.reset.off F.LSH_JOIN_STATUS_COMPLETE).on F.LSH_CFG_EN).on F.LSH_JOIN_CFG_EN).p F.TB_STATUS_SERVO_STATE
    servoLocked).wr (R.LSH_MEMBERS 0) 0).wr (R.LSH_MEMBERS 1) 0), by decide +kernel⟩,
    ⟨((State.reset.p F.LSH_CFG_CYCLE (getBits (0x00050823 : Word) 0 3)).p F.TB_STATUS_SERVO_STATE 0), (.od 0), (0x00050823),
    by decide +kernel⟩,
    ⟨((State.reset.p F.LSH_CFG_CYCLE (getBits (0x00050823 : Word) 0 3)).p F.TB_STATUS_SERVO_STATE servoLocked), (.od 0),
    (0x00050823), (State.reset.g F.LSH_CFG_MEMBER), by decide +kernel⟩,
    ⟨(State.reset.on F.LSH_CFG_EN), by decide +kernel⟩,
    ⟨((((State.reset.on (F.LSH_REG_STATUS_OPEN (0 : Fin 16))).off (F.LSH_REG_TMO_TMO (0 : Fin 16))).setReg (0 : Fin 16)
    { RegSt.reset with slow := some 0 })), (0), (0), by decide +kernel⟩⟩

theorem witness_FollowersAndCamsTakeEffect :
    (∃ (s : State) (rq : Rq) (k : Fin 168) (_startAt : Bool), s.reaches rq (R.LSH_FOL_CMD k) ∧ s.engageBad k = false) ∧
    (∃ (s : State) (rq : Rq) (k : Fin 168), s.reaches rq (R.LSH_FOL_CMD k) ∧ s.g (F.LSH_FOL_STATUS_STATE k) = 2 ∧ (s.folOf
      k).ratio = false ∧ s.rd (R.LSH_FOL_DEN k) ≠ 0) ∧
    (∃ (s : State) (rq : Rq) (k : Fin 168), s.reaches rq (R.LSH_FOL_CMD k) ∧ s.g (F.LSH_FOL_STATUS_STATE k) = 0) ∧
    (∃ (s : State) (rq : Rq) (k : Fin 168) (u : State), s.reaches rq (R.LSH_FOL_CMD k) ∧ s.g (F.LSH_FOL_STATUS_STATE k) ≠ 0
      ∧ u = (s.setFol k { s.folOf k with engage := none, ratio := false }).configuredStop k) ∧
    (∃ (s : State) (rq : Rq) (k : Fin 168), s.reaches rq (R.LSH_FOL_CMD k) ∧ s.g (F.LSH_FOL_STATUS_STATE k) ≠ 0 ∧ s.is
      (F.LSH_FOL_CFG_CAM_EN k) = true ∧ s.g (F.LSH_CAM_STATUS_STATE (s.g (F.LSH_FOL_CFG_NEXT k))) = 2 ∧ s.camPoint (s.g
      (F.LSH_FOL_CFG_TABLE k)) 0 = s.camPoint (s.g (F.LSH_FOL_CFG_NEXT k)) 0) ∧
    (∃ (s : State) (rq : Rq) (c : Fin 64), s.reaches rq (R.LSH_CAM_CMD c) ∧ s.handleErr (s.holder .lshCam).poolCode false
      (s.rd (R.LSH_CAM_HANDLE c)) = none ∧ 4 ≤ s.g (F.LSH_CAM_N_N c) ∧ s.g (F.LSH_CAM_N_N c) ≤ 65536 ∧ 4 * s.g
      (F.LSH_CAM_N_N c) ≤ classSize (handleClass (s.rd (R.LSH_CAM_HANDLE c))) ∧ s.camUse c = 0 ∧ s.ipmPoison (s.bufAddr
      (s.rd (R.LSH_CAM_HANDLE c))) (4 * s.g (F.LSH_CAM_N_N c)) = none) ∧
    (∃ (s : State) (c : Fin 64), s.g (F.LSH_CAM_STATUS_STATE c) = 1) ∧
    (∃ (s : State) (rq : Rq) (c : Fin 64), s.reaches rq (R.LSH_CAM_CMD c) ∧ s.camUse c = 0) ∧
    (∃ (s : State) (k : Fin 168), k.val < 16 ∧ s.higherRuns k = false) ∧
    (∃ (s : State) (k : Fin 168), 16 ≤ k.val ∧ k.val < 40 ∧ s.higherRuns k = false) ∧
    (∃ (s : State) (k : Fin 168), 40 ≤ k.val ∧ s.higherRuns k = false) ∧
    (∃ (s : State) (c : Fin 64) (k : Fin 168), s.g (F.LSH_FOL_STATUS_STATE k) ≠ 0 ∧ s.is (F.LSH_FOL_CFG_CAM_EN k) = true ∧
      s.g (F.LSH_FOL_CFG_TABLE k) = c.val ∧ 40 ≤ k.val ∧ s.higherRuns k = false) :=
  ⟨⟨(((((((((((((State.reset.on F.LSH_CFG_EN).on F.TB_STATUS_TIME_VALID).p (F.LSP_CH_CFG_SRC (0 : Fin 168)) 1).p
    (F.LSP_CH_STATUS_STATE (0 : Fin 168)) 0).wr (R.LSP_CH_VREF (0 : Fin 168)) 0).wr (R.LSP_CH_AREF (0 : Fin 168)) 0).p
    (F.LSH_FOL_CFG_SHAFT (0 : Fin 168)) 0).p (F.LSH_SH_STATUS_STATE 0) 1).off (F.LSH_FOL_CFG_ABS (0 : Fin 168))).off
    (F.LSH_FOL_CFG_CAM_EN (0 : Fin 168))).wr (R.LSH_FOL_DEN (0 : Fin 168)) 3))), (.od 0), (0), (true),
    by decide +kernel⟩,
    ⟨((State.reset.p (F.LSH_FOL_STATUS_STATE (0 : Fin 168)) 2).wr (R.LSH_FOL_DEN (0 : Fin 168)) 3), (.od 0), (0),
    by decide +kernel⟩,
    ⟨((State.reset.p (F.LSH_FOL_STATUS_STATE (0 : Fin 168)) 0).setFol (0 : Fin 168)
    { FolSt.reset with engage := some none }), (.od 0), (0), by decide +kernel⟩,
    ⟨((State.reset.p (F.LSH_FOL_STATUS_STATE (0 : Fin 168)) 2).setFol (0 : Fin 168)
    { FolSt.reset with engage := some none }), (.od 0), (0), (_), ⟨by decide +kernel, by decide +kernel, rfl⟩⟩,
    ⟨({ ((((State.reset.p (F.LSH_FOL_STATUS_STATE (0 : Fin 168)) 2).on (F.LSH_FOL_CFG_CAM_EN (0 : Fin 168))).p (F.LSH_FOL_CFG_NEXT (0 : Fin 168)) 1).p (F.LSH_FOL_CFG_TABLE (0 : Fin 168)) 0).p (F.LSH_CAM_STATUS_STATE 1) 2 with ipm := { State.reset.ipm with device := 0 } }),
    (.od 0), (0), by decide +kernel⟩,
    ⟨((((((State.reset.wr (R.LSH_CAM_HANDLE (0 : Fin 64)) 0x01000000).p (F.LSH_CAM_N_N (0 : Fin 64)) 4).p
    (F.POOL_C_CFG_COUNT 0) 4).off (F.LSH_FOL_CFG_CAM_EN 0)).off (F.LSH_FOL_CFG_CAM_EN 1)).setBuf 0 ⟨1, some 0⟩), (.od
    0), (0), by decide +kernel⟩,
    ⟨(State.reset.p (F.LSH_CAM_STATUS_STATE (0 : Fin 64)) 1), (0), by decide +kernel⟩,
    ⟨(((State.reset.p (F.LSH_CAM_STATUS_STATE (0 : Fin 64)) 2).off (F.LSH_FOL_CFG_CAM_EN 0)).off (F.LSH_FOL_CFG_CAM_EN 1)),
    (.od 0), (0), by decide +kernel⟩,
    ⟨(State.reset), (0), by decide +kernel⟩,
    ⟨(State.reset), (20), by decide +kernel⟩,
    ⟨(State.reset), (60), by decide +kernel⟩,
    ⟨(((State.reset.p (F.LSH_FOL_STATUS_STATE (60 : Fin 168)) 2).on (F.LSH_FOL_CFG_CAM_EN (60 : Fin 168))).p
    (F.LSH_FOL_CFG_TABLE (60 : Fin 168)) (0 : Fin 64)), (0), (60), by decide +kernel⟩⟩

theorem witness_AuxChannelCommandsTakeEffect :
    (∃ (s : State) (rq : Rq) (c : Fin 24) (v : Word), s.reaches rq (R.AUX_CFG c) ∧ inRange (R.AUX_CFG c) v = true ∧ s.g
      (F.AUX_STATUS_STATE c) ≠ 2 ∧ getBits v 0 1 = 0) ∧
    (∃ (s : State) (rq : Rq) (c : Fin 24) (v : Word), s.reaches rq (R.AUX_STP_CUR c) ∧ inRange (R.AUX_STP_CUR c) v = true) ∧
    (∃ (s : State) (rq : Rq) (c : Fin 24), s.reaches rq (R.AUX_CTL c) ∧ s.is (F.AUX_STATUS_FAULT c) = false ∧ s.is
      (F.AUX_STATUS_LAUNCH_OFF c) = false) ∧
    (∃ (s : State) (rq : Rq) (c : Fin 24), s.reaches rq (R.AUX_CTL c)) ∧
    (∃ (s : State) (cl : Fin 4) (_code : BitVec 12) (i : Nat) (made : Nat) (began : Nat) (ref : Nat) (stamp : Word), s.adcOf
      cl = ⟨[], some (⟨0, .sample i, made, none, 0⟩, stamp), began, ref⟩ ∧ began + 63 ≤ s.tb.ticks) ∧
    (∃ (s : State) (cl : Fin 4) (ch : Fin 6) (r : AdcReq) (l : Nat), (s.adcOf cl).wait.find? (fun r => r.ch == ch.val &&
      decide (r.use = .current)) = some r ∧ r.limit = some l ∧ l ≤ s.tb.ticks) ∧
    (∃ (s : State) (cl : Fin 4), (s.adcOf cl).wait = [] ∧ (s.adcOf cl).cur = none ∧ (s.adcOf cl).refTick + 250000 ≤
      s.tb.ticks) ∧
    (∃ (s : State) (c : Fin 24) (h : Held) (rest : List Held), s.firstDue s.held = some (h, rest) ∧ h.e.code = 0x12 ∧
      h.e.target = c ∧ s.g (F.AUX_CFG_EVAL_SRC c) = 1 ∧ (s.adcOf (c.val / 6)).wait = [] ∧ (s.adcOf (c.val / 6)).cur =
      none) ∧
    (∃ (s : State) (rq : Rq) (c : Fin 24) (v : Word), s.reaches rq (R.AUX_CFG c) ∧ inRange (R.AUX_CFG c) v = true ∧ s.g
      (F.AUX_STATUS_STATE c) ≠ 2 ∧ getBits v 0 1 = 1 ∧ s.armHeld = false) ∧
    (∃ (s : State) (rq : Rq) (c : Fin 24) (v : Word), s.reaches rq (R.AUX_CFG c) ∧ inRange (R.AUX_CFG c) v = true ∧ s.g
      (F.AUX_STATUS_STATE c) = 2) ∧
    (∃ (s : State) (rq : Rq) (c : Fin 24) (off : Nat) (v : Word) (u : State), s.reaches rq (auxWord c off) ∧ auxGuarded off
      = true ∧ off ≠ 0 ∧ inRange (auxWord c off) v = true ∧ (off = 0x208 → getBits v 0 16 < getBits v 16 16) ∧ (s.g
      (F.AUX_STATUS_STATE c) ≠ 2 ∨ off = 0x104 ∨ off = 0x218 ∨ off = 0x21C) ∧ u = s.merge (auxWord c off) v) ∧
    (∃ (s : State) (rq : Rq) (c : Fin 24) (off : Nat) (v : Word), s.reaches rq (auxWord c off) ∧ auxGuarded off = true ∧
      off ≠ 0 ∧ (inRange (auxWord c off) v = false ∨ (off = 0x208 ∧ getBits v 16 16 ≤ getBits v 0 16) ∨ (s.g
      (F.AUX_STATUS_STATE c) = 2 ∧ off ≠ 0x104 ∧ off ≠ 0x218 ∧ off ≠ 0x21C))) ∧
    (∃ (s : State) (cl : Fin 4) (_code : BitVec 12) (ch : Fin 6) (made : Nat) (cyc : Nat) (began : Nat) (ref : Nat) (stamp :
      Word) (i : Nat), s.adcOf cl = ⟨[], some (⟨ch.val, .sample i, made, none, cyc⟩, stamp), began, ref⟩ ∧ began + 63 ≤
      s.tb.ticks) ∧
    (∃ (s : State) (cl : Fin 4) (code : BitVec 12) (ch : Fin 6) (made : Nat) (cyc : Nat) (began : Nat) (ref : Nat) (stamp :
      Word), s.adcOf cl = ⟨[], some (⟨ch.val, .reference, made, none, cyc⟩, stamp), began, ref⟩ ∧ began + 63 ≤
      s.tb.ticks ∧ 2032 ≤ code.toNat ∧ code.toNat ≤ 2064) ∧
    (∃ (s : State) (cl : Fin 4) (code : BitVec 12) (ch : Fin 6) (made : Nat) (cyc : Nat) (began : Nat) (ref : Nat) (stamp :
      Word), s.adcOf cl = ⟨[], some (⟨ch.val, .reference, made, none, cyc⟩, stamp), began, ref⟩ ∧ began + 63 ≤
      s.tb.ticks ∧ (code.toNat < 2032 ∨ 2064 < code.toNat)) ∧
    (∃ (s : State) (cl : Fin 4) (code : BitVec 12) (ch : Fin 6) (made : Nat) (cyc : Nat) (began : Nat) (ref : Nat) (stamp :
      Word), s.adcOf cl = ⟨[], some (⟨ch.val, .current, made, none, cyc⟩, stamp), began, ref⟩ ∧ began + 63 ≤ s.tb.ticks
      ∧ s.auxRuns (6 * cl.val + ch.val) 2 = true ∧ code.toNat ≤ s.g (F.AUX_BL_ILIM_I_TRIP (6 * cl.val + ch.val))) ∧
    (∃ (s : State) (cl : Fin 4) (code : BitVec 12) (ch : Fin 6) (made : Nat) (cyc : Nat) (began : Nat) (ref : Nat) (stamp :
      Word), s.adcOf cl = ⟨[], some (⟨ch.val, .current, made, none, cyc⟩, stamp), began, ref⟩ ∧ began + 63 ≤ s.tb.ticks
      ∧ s.auxRuns (6 * cl.val + ch.val) 2 = true ∧ s.g (F.AUX_BL_ILIM_I_TRIP (6 * cl.val + ch.val)) < code.toNat ∧
      s.higherRuns (16 + (6 * cl.val + ch.val)) = false) ∧
    (∃ (s : State) (cl : Fin 4) (_code : BitVec 12) (ch : Fin 6) (made : Nat) (cyc : Nat) (began : Nat) (ref : Nat) (stamp :
      Word) (i : Fin 2), s.adcOf cl = ⟨[], some (⟨ch.val, .peak i, made, none, cyc⟩, stamp), began, ref⟩ ∧ began + 63 ≤
      s.tb.ticks ∧ (s.auxOf (6 * cl.val + ch.val)).coils.length = 2) ∧
    (∃ (s : State) (cl : Fin 4) (_code : BitVec 12) (ch : Fin 6) (made : Nat) (cyc : Nat) (began : Nat) (ref : Nat) (stamp :
      Word) (i : Fin 2) (y : ChopCycle), s.adcOf cl = ⟨[], some (⟨ch.val, .valley i, made, none, cyc⟩, stamp), began,
      ref⟩ ∧ began + 63 ≤ s.tb.ticks ∧ (s.auxOf (6 * cl.val + ch.val)).coils.length = 2 ∧ (s.coil (6 * cl.val + ch.val)
      i).open_.find? (fun y => y.id == cyc) = some y ∧ (s.coil (6 * cl.val + ch.val) i).cycles + 1 < 16) ∧
    (∃ (s : State) (cl : Fin 4) (ch : Fin 6) (i : Fin 2) (r : AdcReq), (s.adcOf cl).wait.find? (fun r => r.ch == ch.val &&
      decide (r.use = .peak i) && r.limit.any (· ≤ s.tb.ticks)) = some r) ∧
    (∃ (s : State) (cl : Fin 4) (ch : Fin 6) (i : Fin 2) (r : AdcReq), (s.adcOf cl).wait.find? (fun r => r.ch == ch.val &&
      decide (r.use = .valley i) && r.limit.any (· ≤ s.tb.ticks)) = some r) ∧
    (∃ (s : State) (cl : Fin 4) (r : AdcReq × Word), (s.adcOf cl).cur = some r ∧ (s.adcOf cl).refTick + 250000 ≤ s.tb.ticks
      ∧ (s.adcOf cl).wait.all (fun r => decide (r.use ≠ .reference)) = true) ∧
    (∃ (s : State) (c : Fin 24) (h : Held) (rest : List Held) (r : AdcReq × Word), s.firstDue s.held = some (h, rest) ∧
      h.e.code = 0x12 ∧ h.e.target = c ∧ s.g (F.AUX_CFG_EVAL_SRC c) = 1 ∧ (s.adcOf (c.val / 6)).cur = some r) ∧
    (∃ (s : State) (c : Fin 24) (h : Held) (rest : List Held), s.firstDue s.held = some (h, rest) ∧ h.e.code = 0x12 ∧
      h.e.target = c ∧ s.g (F.AUX_CFG_EVAL_SRC c) = 0) :=
  ⟨⟨(State.reset.off (F.AUX_STATUS_STATE (0 : Fin 24))), (.od 0), (0), (0x1FA22), by decide +kernel⟩,
    ⟨(State.reset), (.od 0), (0), (0x00400100), by decide +kernel⟩,
    ⟨((State.reset.off (F.AUX_STATUS_FAULT (0 : Fin 24))).off (F.AUX_STATUS_LAUNCH_OFF (0 : Fin 24))), (.od 0), (0),
    by decide +kernel⟩,
    ⟨((State.reset.on (F.AUX_STATUS_FAULT (0 : Fin 24))).on (F.AUX_STATUS_LAUNCH_OFF (0 : Fin 24))), (.od 0), (0),
    by decide +kernel⟩,
    ⟨({ (State.reset.setAdc (0 : Fin 4) ⟨[], some (⟨0, .sample (1 : Nat), (1 : Nat), none, 0⟩, (5 : Word)), (0 : Nat), (1 : Nat)⟩) with tb := { State.reset.tb with ticks := 100000000000 + State.reset.tb.ticks } }),
    (0), (1), (1), (1), (0), (1), (5), by decide +kernel⟩,
    ⟨(State.reset.setAdc (0 : Fin 4) ⟨[⟨(0 : Fin 6), .current, 0, some 0, 0⟩], none, 0, 0⟩), (0), (0), (⟨(0 : Fin 6),
    .current, 0, some 0, 0⟩), (0), by decide +kernel⟩,
    ⟨({ (State.reset.setAdc (0 : Fin 4) AdcSt.reset) with tb := { State.reset.tb with ticks := 100000000000 + State.reset.tb.ticks } }),
    (0), by decide +kernel⟩,
    ⟨({ ((State.reset.on (F.AUX_CFG_EVAL_SRC (0 : Fin 24))).setAdc ((0 : Fin 24) / 6) AdcSt.reset) with held := [⟨⟨0, 0, 0x12, (0 : Fin 24), 1, 0, false, false⟩, true, 0, 0, 0⟩], tb := { State.reset.tb with ticks := 100 } }),
    (0), (⟨⟨0, 0, 0x12, (0 : Fin 24), 1, 0, false, false⟩, true, 0, 0, 0⟩), ([]), by decide +kernel⟩,
    ⟨(State.reset.off (F.AUX_STATUS_STATE (0 : Fin 24))), (.od 0), (0), (0xC83), by decide +kernel⟩,
    ⟨(State.reset.p (F.AUX_STATUS_STATE (0 : Fin 24)) 2), (.od 0), (0), (0x20C80), by decide +kernel⟩,
    ⟨(State.reset.p (F.AUX_STATUS_STATE (0 : Fin 24)) 0), (.od 0), (0), ([0x100, 0x104, 0x108, 0x10C, 0x110, 0x114, 0x118,
    0x200, 0x204, 0x208, 0x20C, 0x210, 0x214, 0x218, 0x21C, 0x220, 0x224, 0x228, 0x22C].getD ((0 : Fin 24).val % 19) 0),
    (0x00010001), ((State.reset.p (F.AUX_STATUS_STATE (0 : Fin 24)) 0).merge (auxWord (0 : Fin 24) ([0x100, 0x104,
    0x108, 0x10C, 0x110, 0x114, 0x118, 0x200, 0x204, 0x208, 0x20C, 0x210, 0x214, 0x218, 0x21C, 0x220, 0x224, 0x228,
    0x22C].getD ((0 : Fin 24).val % 19) 0 : Nat)) (0x00010001 : Word)),
    ⟨by decide +kernel, by decide +kernel, by decide +kernel, by decide +kernel, by decide +kernel, by decide +kernel, rfl⟩⟩,
    ⟨(State.reset.p (F.AUX_STATUS_STATE (0 : Fin 24)) 2), (.od 0), (0), (0x200), (5), by decide +kernel⟩,
    ⟨({ ((State.reset).setAdc (0 : Fin 4) ⟨[], some (⟨(0 : Fin 6).val, .sample 2, 7, none, 3⟩, 9), 7, 11⟩) with tb := { State.reset.tb with ticks := 100000000000 + State.reset.tb.ticks } }),
    (0), (1), (0), (7), (3), (7), (11), (9), (2), by decide +kernel⟩,
    ⟨({ ((State.reset).setAdc (0 : Fin 4) ⟨[], some (⟨(0 : Fin 6).val, .reference, 7, none, 3⟩, 9), 7, 11⟩) with tb := { State.reset.tb with ticks := 100000000000 + State.reset.tb.ticks } }),
    (0), (2050), (0), (7), (3), (7), (11), (9), by decide +kernel⟩,
    ⟨({ ((State.reset).setAdc (0 : Fin 4) ⟨[], some (⟨(0 : Fin 6).val, .reference, 7, none, 3⟩, 9), 7, 11⟩) with tb := { State.reset.tb with ticks := 100000000000 + State.reset.tb.ticks } }),
    (0), (50), (0), (7), (3), (7), (11), (9), by decide +kernel⟩,
    ⟨({ ((((State.reset.p (F.AUX_STATUS_STATE (6 * (0 : Fin 4).val + (0 : Fin 6).val)) 2).p (F.AUX_CFG_MODE (6 * (0 : Fin 4).val + (0 : Fin 6).val)) 2).p (F.AUX_BL_ILIM_I_TRIP (6 * (0 : Fin 4).val + (0 : Fin 6).val)) 4095).setAdc (0 : Fin 4) ⟨[], some (⟨(0 : Fin 6).val, .current, 7, none, 3⟩, 9), 7, 11⟩) with tb := { State.reset.tb with ticks := 100000000000 + State.reset.tb.ticks } }),
    (0), (1), (0), (7), (3), (7), (11), (9), by decide +kernel⟩,
    ⟨({ ((((State.reset.p (F.AUX_STATUS_STATE (6 * (0 : Fin 4).val + (0 : Fin 6).val)) 2).p (F.AUX_CFG_MODE (6 * (0 : Fin 4).val + (0 : Fin 6).val)) 2).p (F.AUX_BL_ILIM_I_TRIP (6 * (0 : Fin 4).val + (0 : Fin 6).val)) 10).setAdc (0 : Fin 4) ⟨[], some (⟨(0 : Fin 6).val, .current, 7, none, 3⟩, 9), 7, 11⟩) with tb := { State.reset.tb with ticks := 100000000000 + State.reset.tb.ticks } }),
    (0), (50), (0), (7), (3), (7), (11), (9), by decide +kernel⟩,
    ⟨({ ((State.reset).setAdc (0 : Fin 4) ⟨[], some (⟨(0 : Fin 6).val, .peak (0 : Fin 2), 7, none, 3⟩, 9), 7, 11⟩) with tb := { State.reset.tb with ticks := 100000000000 + State.reset.tb.ticks } }),
    (0), (1), (0), (7), (3), (7), (11), (9), (0), by decide +kernel⟩,
    ⟨({ ((State.reset.setAux (6 * (0 : Fin 4).val + (0 : Fin 6).val) { AuxSt.reset with coils := [{ Coil.reset with open_ := [⟨3, 5, some 7⟩] }, { Coil.reset with open_ := [⟨3, 5, some 7⟩] }] }).setAdc (0 : Fin 4) ⟨[], some (⟨(0 : Fin 6).val, .valley (0 : Fin 2), 7, none, 3⟩, 9), 7, 11⟩) with tb := { State.reset.tb with ticks := 100000000000 + State.reset.tb.ticks } }),
    (0), (1), (0), (7), (3), (7), (11), (9), (0), (⟨3, 5, some 7⟩), by decide +kernel⟩,
    ⟨({ (State.reset.setAdc (0 : Fin 4) ⟨[⟨(0 : Fin 6).val, .peak (1 : Fin 2), 5, some 6, 0⟩], none, 0, 0⟩) with tb := { State.reset.tb with ticks := 100000000000 + State.reset.tb.ticks } }),
    (0), (0), (1), (⟨(0 : Fin 6).val, .peak (1 : Fin 2), 5, some 6, 0⟩), by decide +kernel⟩,
    ⟨({ (State.reset.setAdc (0 : Fin 4) ⟨[⟨(0 : Fin 6).val, .valley (1 : Fin 2), 5, some 6, 0⟩], none, 0, 0⟩) with tb := { State.reset.tb with ticks := 100000000000 + State.reset.tb.ticks } }),
    (0), (0), (1), (⟨(0 : Fin 6).val, .valley (1 : Fin 2), 5, some 6, 0⟩), by decide +kernel⟩,
    ⟨({ (State.reset.setAdc (0 : Fin 4) ⟨[], some (⟨2, .current, 7, none, 3⟩, 9), 7, 11⟩) with tb := { State.reset.tb with ticks := 100000000000 + State.reset.tb.ticks } }),
    (0), ((⟨2, .current, 7, none, 3⟩, 9)), by decide +kernel⟩,
    ⟨({ ((State.reset.on (F.AUX_CFG_EVAL_SRC (0 : Fin 24))).setAdc ((0 : Fin 24) / 6) ⟨[], some (⟨2, .current, 7, none, 3⟩, 9), 7, 11⟩) with held := [⟨⟨0, 0, 0x12, (0 : Fin 24), 1, 0, false, false⟩, true, 0, 0, 0⟩], tb := { State.reset.tb with ticks := 100 } }),
    (0), (⟨⟨0, 0, 0x12, (0 : Fin 24), 1, 0, false, false⟩, true, 0, 0, 0⟩), ([]), ((⟨2, .current, 7, none, 3⟩, 9)),
    by decide +kernel⟩,
    ⟨({ ((State.reset.off (F.AUX_CFG_EVAL_SRC (0 : Fin 24))).setAdc ((0 : Fin 24) / 6) AdcSt.reset) with held := [⟨⟨0, 0, 0x12, (0 : Fin 24), 1, 0, false, false⟩, true, 0, 0, 0⟩], tb := { State.reset.tb with ticks := 100 } }),
    (0), (⟨⟨0, 0, 0x12, (0 : Fin 24), 1, 0, false, false⟩, true, 0, 0, 0⟩), ([]), by decide +kernel⟩⟩

theorem witness_SteppersFollowTheirRules :
    (∃ (s : State) (c : Fin 24), s.g (F.AUX_CFG_EVAL_SRC c) = 1 ∧ (s.auxOf c).evalT ≠ some (s.intervalStart c)) ∧
    (∃ (s : State) (c : Fin 24), s.g (F.AUX_CFG_MODE c) = 1 ∧ 0 < (s.auxOf c).left ∧ (s.auxOf c).stepTime ((s.auxOf c).done
      + 1) ≤ (s.tb.ticks + 1) * 262144) ∧
    (∃ (s : State) (c : Fin 24) (coil : Fin 2) (_seen : Fin 3), (s.coil c coil).on = false ∧ (s.auxOf c).coils.length = 2) ∧
    (∃ (s : State) (c : Fin 24) (coil : Fin 2), (s.coil c coil).on = true ∧ (s.coil c coil).drive = true ∧ (s.coil c
      coil).seen ≠ 2 ∧ (s.coil c coil).since + s.g (F.AUX_STP_CHOP_BLANK c) ≤ s.tb.ticks ∧ (s.auxOf c).coils.length = 2) ∧
    (∃ (s : State) (c : Fin 24) (coil : Fin 2), (s.coil c coil).on = true ∧ (s.coil c coil).drive = false ∧ (s.coil c
      coil).seen ≠ 0 ∧ (s.coil c coil).since + 25 * s.g (F.AUX_STP_CHOP_TOFF_MIN c) ≤ s.tb.ticks ∧ (s.auxOf
      c).coils.length = 2) ∧
    (∃ (s : State) (c : Fin 24), s.g (F.AUX_CFG_MODE c) = 1 ∧ s.is (F.AUX_STP_STATUS_REDUCED c) = false ∧ (s.auxOf
      c).lastStep + 250000 * s.g (F.AUX_STP_SS_SS_DELAY c) ≤ s.tb.ticks ∧ s.g (F.AUX_STP_SS_RAMP c) = 0) ∧
    (∃ (s : State) (c : Fin 24) (coil : Fin 2), (s.coil c coil).on = true ∧ (s.coil c coil).drive = true ∧ (s.coil c
      coil).seen ≠ 2 ∧ (s.coil c coil).opened = false ∧ (s.coil c coil).since + 250000 ≤ s.tb.ticks ∧ (s.auxOf
      c).coils.length = 2) ∧
    (∃ (s : State) (c : Fin 24), s.g (F.AUX_CFG_MODE c) = 1 ∧ (s.auxOf c).left < 0 ∧ (s.auxOf c).stepTime ((s.auxOf c).done
      + 1) ≤ (s.tb.ticks + 1) * 262144) ∧
    (∃ (s : State) (c : Fin 24) (coil : Fin 2) (seen : Fin 3), (s.coil c coil).on = true ∧ (s.coil c coil).drive = true ∧
      ((s.coil c coil).blanked = false ∨ seen ≠ 2) ∧ (s.auxOf c).coils.length = 2) ∧
    (∃ (s : State) (c : Fin 24) (coil : Fin 2), (s.coil c coil).on = true ∧ (s.coil c coil).drive = true ∧ (s.coil c
      coil).blanked = true ∧ (s.auxOf c).coils.length = 2) ∧
    (∃ (s : State) (c : Fin 24) (coil : Fin 2), (s.coil c coil).on = true ∧ (s.coil c coil).drive = false ∧ (s.coil c
      coil).off = true ∧ (s.auxOf c).coils.length = 2) ∧
    (∃ (s : State) (c : Fin 24) (coil : Fin 2) (seen : Fin 3), (s.coil c coil).on = true ∧ (s.coil c coil).drive = false ∧
      ((s.coil c coil).off = false ∨ seen ≠ 0) ∧ (s.auxOf c).coils.length = 2) ∧
    (∃ (s : State) (c : Fin 24) (coil : Fin 2), (s.coil c coil).on = true ∧ (s.coil c coil).drive = true ∧ (s.coil c
      coil).seen = 2 ∧ (s.coil c coil).since + s.g (F.AUX_STP_CHOP_BLANK c) ≤ s.tb.ticks ∧ (s.auxOf c).coils.length = 2) ∧
    (∃ (s : State) (c : Fin 24) (coil : Fin 2), (s.coil c coil).on = true ∧ (s.coil c coil).drive = false ∧ (s.coil c
      coil).seen = 0 ∧ (s.coil c coil).since + 25 * s.g (F.AUX_STP_CHOP_TOFF_MIN c) ≤ s.tb.ticks ∧ (s.auxOf
      c).coils.length = 2) ∧
    (∃ (s : State) (c : Fin 24) (i : Nat), s.g (F.AUX_CFG_MODE c) = 1 ∧ s.is (F.AUX_STP_STATUS_REDUCED c) = false ∧ i =
      (match (s.auxOf c).reduce with | some n => n + 1 | none => 0) ∧ (s.auxOf c).lastStep + 250000 * (s.g
      (F.AUX_STP_SS_SS_DELAY c) + i) ≤ s.tb.ticks ∧ i < s.g (F.AUX_STP_SS_RAMP c)) :=
  ⟨⟨(State.reset.on (F.AUX_CFG_EVAL_SRC (0 : Fin 24))), (0), by decide +kernel⟩,
    ⟨((State.reset.p (F.AUX_CFG_MODE (0 : Fin 24)) 1).setAux (0 : Fin 24)
    { AuxSt.reset with left := 3, todo := 3, te := 0, span := 10 }), (0), by decide +kernel⟩,
    ⟨(State.reset), (0), (0), (0), by decide +kernel⟩,
    ⟨({ ((State.reset).setAux (0 : Fin 24) { AuxSt.reset with coils := [{ Coil.reset with on := true, drive := true }, { Coil.reset with on := true, drive := true }] }) with tb := { State.reset.tb with ticks := 100000000000 + State.reset.tb.ticks } }),
    (0), (0), by decide +kernel⟩,
    ⟨({ ((State.reset).setAux (0 : Fin 24) { AuxSt.reset with coils := [{ Coil.reset with on := true, seen := 1 }, { Coil.reset with on := true, seen := 1 }] }) with tb := { State.reset.tb with ticks := 100000000000 + State.reset.tb.ticks } }),
    (0), (0), by decide +kernel⟩,
    ⟨((((State.reset.p (F.AUX_CFG_MODE (0 : Fin 24)) 1).off (F.AUX_STP_STATUS_REDUCED (0 : Fin 24))).off
    (F.AUX_STP_SS_SS_DELAY (0 : Fin 24))).off (F.AUX_STP_SS_RAMP (0 : Fin 24))), (0), by decide +kernel⟩,
    ⟨({ ((State.reset).setAux (0 : Fin 24) { AuxSt.reset with coils := [{ Coil.reset with on := true, drive := true }, { Coil.reset with on := true, drive := true }] }) with tb := { State.reset.tb with ticks := 100000000000 + State.reset.tb.ticks } }),
    (0), (0), by decide +kernel⟩,
    ⟨({ (State.reset.p (F.AUX_CFG_MODE (0 : Fin 24)) 1).setAux (0 : Fin 24) { AuxSt.reset with left := -3, todo := 3, te := 0, span := 1 } with tb := { State.reset.tb with ticks := 100 } }),
    (0), by decide +kernel⟩,
    ⟨((State.reset).setAux (0 : Fin 24)
    { AuxSt.reset with coils := [{ Coil.reset with on := true, drive := true }, { Coil.reset with on := true, drive := true }] }),
    (0), (0), (0), by decide +kernel⟩,
    ⟨((State.reset).setAux (0 : Fin 24)
    { AuxSt.reset with coils := [{ Coil.reset with on := true, drive := true, blanked := true }, { Coil.reset with on := true, drive := true, blanked := true }] }),
    (0), (0), by decide +kernel⟩,
    ⟨((State.reset).setAux (0 : Fin 24)
    { AuxSt.reset with coils := [{ Coil.reset with on := true, off := true }, { Coil.reset with on := true, off := true }] }),
    (0), (0), by decide +kernel⟩,
    ⟨((State.reset).setAux (0 : Fin 24)
    { AuxSt.reset with coils := [{ Coil.reset with on := true }, { Coil.reset with on := true }] }), (0), (0), (0),
    by decide +kernel⟩,
    ⟨({ ((State.reset).setAux (0 : Fin 24) { AuxSt.reset with coils := [{ Coil.reset with on := true, drive := true, seen := 2 }, { Coil.reset with on := true, drive := true, seen := 2 }] }) with tb := { State.reset.tb with ticks := 100000000000 + State.reset.tb.ticks } }),
    (0), (0), by decide +kernel⟩,
    ⟨({ ((State.reset).setAux (0 : Fin 24) { AuxSt.reset with coils := [{ Coil.reset with on := true, seen := 0 }, { Coil.reset with on := true, seen := 0 }] }) with tb := { State.reset.tb with ticks := 100000000000 + State.reset.tb.ticks } }),
    (0), (0), by decide +kernel⟩,
    ⟨({ ((((((State.reset.p (F.AUX_CFG_MODE (0 : Fin 24)) 1).off (F.AUX_STP_STATUS_REDUCED (0 : Fin 24))).off (F.AUX_STP_SS_SS_DELAY (0 : Fin 24))).p (F.AUX_STP_SS_RAMP (0 : Fin 24)) 5)).setAux (0 : Fin 24) { AuxSt.reset with reduce := some 1 }) with tb := { State.reset.tb with ticks := 100000000000 + State.reset.tb.ticks } }),
    (0), (2), by decide +kernel⟩⟩

theorem witness_BldcChannelsFollowTheirRules :
    (∃ (s : State) (c : Fin 24), s.auxRuns c 2 = true ∧ s.g (F.AUX_BL_STATUS_PHASE c) = 1 ∧ (s.auxOf c).phTick + 1000000 *
      s.g (F.AUX_BL_START_ALIGN_TIME c) ≤ s.tb.ticks) ∧
    (∃ (s : State) (c : Fin 24) (_above : Bool), s.auxRuns c 2 = true ∧ s.g (F.AUX_BL_STATUS_PHASE c) = 1 ∧ (s.auxOf
      c).perTick + s.g (F.AUX_BL_PWM_PERIOD c) ≤ s.tb.ticks ∧ (s.auxOf c).beyond = false ∧ 2 ≤ s.bldcOn c ∧ (s.adcOf
      (c.val / 6)).wait = [] ∧ (s.adcOf (c.val / 6)).cur = none) ∧
    (∃ (s : State) (c : Fin 24), s.auxRuns c 2 = true ∧ s.g (F.AUX_BL_STATUS_PHASE c) = 3 ∧ (s.auxOf c).zc = true ∧
      (s.auxOf c).zcTick + (s.rd (R.AUX_BL_T60 c)).toNat * (128 - s.g (F.AUX_BL_ZC_ADVANCE c)) / 256 ≤ s.tb.ticks) ∧
    (∃ (s : State) (c : Fin 24), s.auxRuns c 2 = true ∧ s.g (F.AUX_BL_STATUS_PHASE c) = 3 ∧ (s.auxOf c).zc = false ∧ 2 *
      (s.auxOf c).comm + 3 * (s.rd (R.AUX_BL_T60 c)).toNat ≤ 2 * s.tb.ticks ∧ (s.auxOf c).missed = true) ∧
    (∃ (s : State) (c : Fin 24), s.auxRuns c 2 = true ∧ s.g (F.AUX_BL_STATUS_PHASE c) = 3 ∧ (s.auxOf c).zc = false ∧ 2 *
      (s.auxOf c).comm + 3 * (s.rd (R.AUX_BL_T60 c)).toNat ≤ 2 * s.tb.ticks ∧ (s.auxOf c).missed = false ∧ (s.auxOf
      c).misses + 1 < atLeast1 (s.g (F.AUX_BL_ZC_LOSS_CNT c))) ∧
    (∃ (s : State) (c : Fin 24), s.auxRuns c 2 = true ∧ s.g (F.AUX_BL_STATUS_PHASE c) = 4 ∧ s.bldcWant c = 0 ∧ (s.auxOf
      c).phTick + 250000 * s.g (F.AUX_BL_COAST_COAST_TIME c) ≤ s.tb.ticks) ∧
    (∃ (s : State) (c : Fin 24), s.auxRuns c 2 = true ∧ s.g (F.AUX_BL_STATUS_PHASE c) = 3 ∧ (s.auxOf c).loopTick +
      2500000000 ≤ s.tb.ticks) ∧
    (∃ (s : State) (c : Fin 24) (_above : Bool), s.auxRuns c 2 = true ∧ (s.auxOf c).perTick + s.g (F.AUX_BL_PWM_PERIOD c) ≤
      s.tb.ticks ∧ ((s.auxOf c).got = true ∨ (s.auxOf c).starve < 7) ∧ s.g (F.AUX_BL_STATUS_PHASE c) = 1) ∧
    (∃ (s : State) (c : Fin 24) (_above : Bool), s.auxRuns c 2 = true ∧ (s.auxOf c).perTick + s.g (F.AUX_BL_PWM_PERIOD c) ≤
      s.tb.ticks ∧ ((s.auxOf c).got = true ∨ (s.auxOf c).starve < 7) ∧ s.g (F.AUX_BL_STATUS_PHASE c) = 2 ∧ (s.auxOf
      c).beyond = false) ∧
    (∃ (s : State) (c : Fin 24) (_above : Bool), s.auxRuns c 2 = true ∧ (s.auxOf c).perTick + s.g (F.AUX_BL_PWM_PERIOD c) ≤
      s.tb.ticks ∧ ((s.auxOf c).got = true ∨ (s.auxOf c).starve < 7) ∧ s.g (F.AUX_BL_STATUS_PHASE c) = 3 ∧ s.bldcEnds c
      = false ∧ 0 < s.g (F.AUX_BL_ZC_SETTLE c)) ∧
    (∃ (s : State) (c : Fin 24) (_above : Bool), s.auxRuns c 2 = true ∧ (s.auxOf c).perTick + s.g (F.AUX_BL_PWM_PERIOD c) ≤
      s.tb.ticks ∧ ((s.auxOf c).got = true ∨ (s.auxOf c).starve < 7) ∧ s.g (F.AUX_BL_STATUS_PHASE c) = 3 ∧ s.bldcEnds c
      = true) ∧
    (∃ (s : State) (c : Fin 24) (_above : Bool), s.auxRuns c 2 = true ∧ (s.auxOf c).perTick + s.g (F.AUX_BL_PWM_PERIOD c) ≤
      s.tb.ticks ∧ (s.g (F.AUX_BL_STATUS_PHASE c) = 2 ∨ s.g (F.AUX_BL_STATUS_PHASE c) = 3) ∧ (s.auxOf c).got = false ∧ 7
      ≤ (s.auxOf c).starve ∧ s.higherRuns (16 + c.val) = false) ∧
    (∃ (s : State) (c : Fin 24), s.auxRuns c 2 = true ∧ s.g (F.AUX_BL_STATUS_PHASE c) = 2 ∧ 2 ^ 32 ≤ (s.auxOf c).phase) ∧
    (∃ (s : State) (c : Fin 24), s.auxRuns c 2 = true ∧ s.g (F.AUX_BL_STATUS_PHASE c) = 3 ∧ (s.auxOf c).zc = false ∧ 2 *
      (s.auxOf c).comm + 3 * (s.rd (R.AUX_BL_T60 c)).toNat ≤ 2 * s.tb.ticks ∧ (s.auxOf c).missed = false ∧ atLeast1 (s.g
      (F.AUX_BL_ZC_LOSS_CNT c)) ≤ (s.auxOf c).misses + 1) ∧
    (∃ (s : State) (c : Fin 24), s.auxRuns c 2 = true ∧ s.g (F.AUX_BL_STATUS_PHASE c) = 4 ∧ s.bldcWant c ≠ 0 ∧ (s.auxOf
      c).phTick + 250000 * s.g (F.AUX_BL_COAST_COAST_TIME c) ≤ s.tb.ticks) :=
  ⟨⟨({ (((State.reset.p (F.AUX_STATUS_STATE (0 : Fin 24)) 2).p (F.AUX_CFG_MODE (0 : Fin 24)) 2).p (F.AUX_BL_STATUS_PHASE (0 : Fin 24)) 1) with tb := { State.reset.tb with ticks := 100000000000 + State.reset.tb.ticks } }),
    (0), by decide +kernel⟩,
    ⟨({ ((((State.reset.p (F.AUX_STATUS_STATE (0 : Fin 24)) 2).p (F.AUX_CFG_MODE (0 : Fin 24)) 2).p (F.AUX_BL_STATUS_PHASE (0 : Fin 24)) 1).p (F.AUX_BL_DUTY_DUTY (0 : Fin 24)) 65535) with tb := { State.reset.tb with ticks := 100000000000 + State.reset.tb.ticks } }),
    (0), (true), by decide +kernel⟩,
    ⟨({ ((((State.reset.p (F.AUX_STATUS_STATE (0 : Fin 24)) 2).p (F.AUX_CFG_MODE (0 : Fin 24)) 2).p (F.AUX_BL_STATUS_PHASE (0 : Fin 24)) 3).setAux (0 : Fin 24) { AuxSt.reset with zc := true }) with tb := { State.reset.tb with ticks := 100000000000 + State.reset.tb.ticks } }),
    (0), by decide +kernel⟩,
    ⟨({ ((((State.reset.p (F.AUX_STATUS_STATE (0 : Fin 24)) 2).p (F.AUX_CFG_MODE (0 : Fin 24)) 2).p (F.AUX_BL_STATUS_PHASE (0 : Fin 24)) 3).setAux (0 : Fin 24) { AuxSt.reset with missed := true }) with tb := { State.reset.tb with ticks := 100000000000 + State.reset.tb.ticks } }),
    (0), by decide +kernel⟩,
    ⟨({ ((((State.reset.p (F.AUX_STATUS_STATE (0 : Fin 24)) 2).p (F.AUX_CFG_MODE (0 : Fin 24)) 2).p (F.AUX_BL_STATUS_PHASE (0 : Fin 24)) 3).p (F.AUX_BL_ZC_LOSS_CNT (0 : Fin 24)) 5) with tb := { State.reset.tb with ticks := 100000000000 + State.reset.tb.ticks } }),
    (0), by decide +kernel⟩,
    ⟨({ ((((State.reset.p (F.AUX_STATUS_STATE (0 : Fin 24)) 2).p (F.AUX_CFG_MODE (0 : Fin 24)) 2).p (F.AUX_BL_STATUS_PHASE (0 : Fin 24)) 4)) with tb := { State.reset.tb with ticks := 100000000000 + State.reset.tb.ticks } }),
    (0), by decide +kernel⟩,
    ⟨({ ((((State.reset.p (F.AUX_STATUS_STATE (0 : Fin 24)) 2).p (F.AUX_CFG_MODE (0 : Fin 24)) 2).p (F.AUX_BL_STATUS_PHASE (0 : Fin 24)) 3).p (F.AUX_BL_STATUS_RESTARTS (0 : Fin 24)) 2) with tb := { State.reset.tb with ticks := 2500000000 + State.reset.tb.ticks } }),
    (0), by decide +kernel⟩,
    ⟨({ (((State.reset.p (F.AUX_STATUS_STATE (0 : Fin 24)) 2).p (F.AUX_CFG_MODE (0 : Fin 24)) 2).p (F.AUX_BL_STATUS_PHASE (0 : Fin 24)) 1) with tb := { State.reset.tb with ticks := 100000000000 + State.reset.tb.ticks } }),
    (0), (true), by decide +kernel⟩,
    ⟨({ (((State.reset.p (F.AUX_STATUS_STATE (0 : Fin 24)) 2).p (F.AUX_CFG_MODE (0 : Fin 24)) 2).p (F.AUX_BL_STATUS_PHASE (0 : Fin 24)) 2) with tb := { State.reset.tb with ticks := 100000000000 + State.reset.tb.ticks } }),
    (0), (true), by decide +kernel⟩,
    ⟨({ (((State.reset.p (F.AUX_STATUS_STATE (0 : Fin 24)) 2).p (F.AUX_CFG_MODE (0 : Fin 24)) 2).p (F.AUX_BL_STATUS_PHASE (0 : Fin 24)) 3 |>.p (F.AUX_BL_ZC_SETTLE (0 : Fin 24)) 5 |>.wr (R.LSP_CH_VREF (16 + (0 : Fin 24).val)) 100000 |>.off (F.AUX_BL_STATUS_DIRN (0 : Fin 24))) with tb := { State.reset.tb with ticks := 100000000000 + State.reset.tb.ticks } }),
    (0), (true), by decide +kernel⟩,
    ⟨({ (((State.reset.p (F.AUX_STATUS_STATE (0 : Fin 24)) 2).p (F.AUX_CFG_MODE (0 : Fin 24)) 2).p (F.AUX_BL_STATUS_PHASE (0 : Fin 24)) 3 |>.wr (R.LSP_CH_VREF (16 + (0 : Fin 24).val)) 0 |>.wr (R.AUX_VEL (0 : Fin 24)) 0 |>.p (F.AUX_BL_RAMP_V_V_HO (0 : Fin 24)) 5) with tb := { State.reset.tb with ticks := 100000000000 + State.reset.tb.ticks } }),
    (0), (true), by decide +kernel⟩,
    ⟨({ ((((State.reset.p (F.AUX_STATUS_STATE (0 : Fin 24)) 2).p (F.AUX_CFG_MODE (0 : Fin 24)) 2).p (F.AUX_BL_STATUS_PHASE (0 : Fin 24)) 3).setAux (0 : Fin 24) { AuxSt.reset with starve := 7 }) with tb := { State.reset.tb with ticks := 100000000000 + State.reset.tb.ticks } }),
    (0), (true), by decide +kernel⟩,
    ⟨({ ((((State.reset.p (F.AUX_STATUS_STATE (0 : Fin 24)) 2).p (F.AUX_CFG_MODE (0 : Fin 24)) 2).p (F.AUX_BL_STATUS_PHASE (0 : Fin 24)) 2).setAux (0 : Fin 24) { AuxSt.reset with phase := 2 ^ 32 + 5 }) with tb := { State.reset.tb with ticks := 100000000000 + State.reset.tb.ticks } }),
    (0), by decide +kernel⟩,
    ⟨({ ((((State.reset.p (F.AUX_STATUS_STATE (0 : Fin 24)) 2).p (F.AUX_CFG_MODE (0 : Fin 24)) 2).p (F.AUX_BL_STATUS_PHASE (0 : Fin 24)) 3).p (F.AUX_BL_ZC_LOSS_CNT (0 : Fin 24)) 0) with tb := { State.reset.tb with ticks := 100000000000 + State.reset.tb.ticks } }),
    (0), by decide +kernel⟩,
    ⟨({ (((((State.reset.p (F.AUX_STATUS_STATE (0 : Fin 24)) 2).p (F.AUX_CFG_MODE (0 : Fin 24)) 2).p (F.AUX_BL_STATUS_PHASE (0 : Fin 24)) 4)).setAux (0 : Fin 24) { AuxSt.reset with hold := some ⟨3, 0, ⟨100, 100, 100, 100⟩, none⟩ }) with tb := { State.reset.tb with ticks := 100000000000 + State.reset.tb.ticks } }),
    (0), by decide +kernel⟩⟩

theorem witness_DescriptorsTakeEffect :
    (∃ (s : State) (n : Fin 4) (k : Fin 8) (d : Desc), s.startsDesc n k 0 d (d.target == 0) (d.zeroFrom 16) ∧ (s.sqOf n
      k).closing = false) ∧
    (∃ (s : State) (n : Fin 4) (k : Fin 8) (d : Desc), s.startsDesc n k 0 d (d.target == 0) (d.zeroFrom 16) ∧ (s.sqOf n
      k).closing = false ∧ testBit d.flags.toNat 2 = true) ∧
    (∃ (s : State) (n : Fin 4) (k : Fin 8) (opcode : BitVec 8) (d : Desc), 4 < opcode.toNat ∧ (¬(0x40 ≤ opcode.toNat ∧
      opcode.toNat ≤ 0x45)) ∧ (s.sqStart n k (testBit d.flags.toNat 1)).isSome = true ∧ (s.sqOf n k).closing = false) ∧
    (∃ (s : State) (n : Fin 4) (k : Fin 8) (opcode : BitVec 8) (d : Desc), 4 < opcode.toNat ∧ (¬(0x40 ≤ opcode.toNat ∧
      opcode.toNat ≤ 0x45)) ∧ (s.sqStart n k (testBit d.flags.toNat 1)).isSome = true ∧ (s.sqOf n k).closing = false ∧
      s.cqWorks n (s.sqCq n k) = false) ∧
    (∃ (s : State) (n : Fin 4) (k : Fin 8) (d : Desc), s.startsDesc n k 1 d (s.ownsChan n d.target.toNat) (d.zeroFrom 40) ∧
      s.isolated regMotion = false ∧ s.g (F.LSP_CH_CFG_SRC d.target.toNat) = 2 ∧ (s.setpOf d.target.toNat).inForce.all
      (fun f => decide (f.eff < (s.setpoint d).eff)) = true ∧ s.nowNs ≤ (s.setpoint d).eff + (s.setpoint d).valid) ∧
    (∃ (s : State) (n : Fin 4) (k : Fin 8) (d : Desc), s.startsDesc n k 2 d (s.ownsQueue n d.target.toNat) (d.field 16 4 ==
      0 && d.zeroFrom 38) ∧ s.isolated regTime = false ∧ s.pushErr d.target.toNat (Staged.ofWords (BitVec.ofNat 32
      (d.field 20 4)) (BitVec.ofNat 32 (d.field 24 4)) (BitVec.ofNat 32 (d.field 28 4)) (BitVec.ofNat 32 (d.field 32 4))
      (d.field 36 2)) = none) ∧
    (∃ (s : State) (n : Fin 4) (k : Fin 8) (d : Desc), s.startsDesc n k 3 d (s.ownsQueue n d.target.toNat) (d.zeroFrom 20)
      ∧ s.isolated regTime = false) ∧
    (∃ (s : State) (n : Fin 4) (k : Fin 8) (d : Desc) (u : State), s.startsDesc n k 4 d (s.ownsChan n d.target.toNat)
      (d.zeroFrom 48) ∧ s.isolated regMotion = false ∧ u = wrLspCmd d.target.toNat (BitVec.ofNat 32 (d.field 44 4))
      (((s.stageAxis d.target.toNat d).off (F.LSP_CH_STATUS_CMD_REFUSED d.target.toNat)).off (F.LSP_CH_STATUS_QUEUE_FULL
      d.target.toNat))) ∧
    (∃ (s : State) (n : Fin 4) (k : Fin 8) (d : Desc), s.startsDesc n k 4 d (s.ownsChan n d.target.toNat) (d.zeroFrom 48) ∧
      s.isolated regMotion = false ∧ d.field 44 4 = 8 ∧ s.chanState d.target.toNat < 4) ∧
    (∃ (s : State) (n : Fin 4) (k : Fin 8) (d : Desc) (i : Nat) (c : Nat), (s.sqStart n k (testBit d.flags.toNat 1)).map
      (·.2) = some i ∧ s.descErr n k 0x41 d (d.target == 0) (decide (1 ≤ d.field 32 4) && decide (d.field 32 4 ≤ 16 *
      mib) && decide (d.field 36 1 ≤ 2) && decide (d.field 37 1 ≤ 1) && d.zeroFrom 38) false = none ∧ s.isolated
      regMemory = false ∧ s.freeCopy = some c ∧ s.ipm.waiting = [] ∧ s.handleErr n false (BitVec.ofNat 32 (d.field 24
      4)) = none ∧ d.field 28 4 + d.field 32 4 ≤ classSize (handleClass (BitVec.ofNat 32 (d.field 24 4))) ∧
      s.ipm.copies.length = 4) ∧
    (∃ (s : State) (n : Fin 4) (k : Fin 8) (d : Desc) (i : Nat) (c : Nat), (s.sqStart n k (testBit d.flags.toNat 1)).map
      (·.2) = some i ∧ s.descErr n k 0x42 d (d.target == 0) (decide (1 ≤ d.field 32 4) && decide (d.field 32 4 ≤ 16 *
      mib) && decide (d.field 36 1 ≤ 2) && decide (d.field 37 1 ≤ 1) && d.zeroFrom 38) false = none ∧ s.isolated
      regMemory = false ∧ s.freeCopy = some c ∧ s.ipm.waiting = [] ∧ s.handleErr n false (BitVec.ofNat 32 (d.field 24
      4)) = none ∧ d.field 28 4 + d.field 32 4 ≤ classSize (handleClass (BitVec.ofNat 32 (d.field 24 4))) ∧
      s.ipm.copies.length = 4) ∧
    (∃ (s : State) (n : Fin 4) (k : Fin 8) (d : Desc) (num : Nat), s.startsDesc n k 0x43 d (d.target == 0) (decide (d.field
      16 1 ≤ 3) && d.zeroFrom 17) ∧ s.isolated regMemory = false ∧ s.classUse n (d.field 16 1) < s.quota n (d.field 16
      1) ∧ s.longestFree (d.field 16 1) = some num) ∧
    (∃ (s : State) (n : Fin 4) (k : Fin 8) (d : Desc) (h : Word), s.startsDesc n k 0x44 d (d.target == 0) (d.zeroFrom 20) ∧
      s.isolated regMemory = false ∧ h = BitVec.ofNat 32 (d.field 16 4) ∧ s.handleErr n true h = none ∧ s.bufInUse
      (handleIdx h) = false) ∧
    (∃ (s : State) (n : Fin 4) (k : Fin 8) (d : Desc) (i : Nat), (s.sqStart n k (testBit d.flags.toNat 1)).map (·.2) = some
      i ∧ s.descErr n k 0x41 d (d.target == 0) (decide (1 ≤ d.field 32 4) && decide (d.field 32 4 ≤ 16 * mib) && decide
      (d.field 36 1 ≤ 2) && decide (d.field 37 1 ≤ 1) && d.zeroFrom 38) false = none ∧ s.isolated regMemory = false ∧
      s.g F.MEM_STAGE_SOUND ≠ 0 ∧ s.freeCopy = none) ∧
    (∃ (s : State) (n : Fin 4) (k : Fin 8) (d : Desc) (i : Nat), (s.sqStart n k (testBit d.flags.toNat 1)).map (·.2) = some
      i ∧ s.descErr n k 0x42 d (d.target == 0) (decide (1 ≤ d.field 32 4) && decide (d.field 32 4 ≤ 16 * mib) && decide
      (d.field 36 1 ≤ 2) && decide (d.field 37 1 ≤ 1) && d.zeroFrom 38) false = none ∧ s.isolated regMemory = false ∧
      s.g F.MEM_STAGE_SOUND ≠ 0 ∧ s.freeCopy = none) :=
  ⟨⟨(((((State.reset.wr (R.HIF_OD_SQ_CFG (0 : Fin 4) (0 : Fin 8)) 0x24).p (F.HIF_OD_SQ_CFG_CLASS (0 : Fin 4) (0 : Fin 8))
    0).on (F.HIF_OD_SQ_STATUS_RUNNING (0 : Fin 4) (0 : Fin 8))).p (F.HIF_OD_SQ_STATUS_HEAD (0 : Fin 4) (0 : Fin 8)) 1)),
    (0), (0), (⟨0, 0, 7, 0, 0, List.replicate 48 0⟩), by decide +kernel⟩,
    ⟨(((((State.reset.wr (R.HIF_OD_SQ_CFG (0 : Fin 4) (0 : Fin 8)) 0x24).p (F.HIF_OD_SQ_CFG_CLASS (0 : Fin 4) (0 : Fin 8))
    0).on (F.HIF_OD_SQ_STATUS_RUNNING (0 : Fin 4) (0 : Fin 8))).p (F.HIF_OD_SQ_STATUS_HEAD (0 : Fin 4) (0 : Fin 8)) 1)),
    (0), (0), (⟨0, 4, 7, 0, 0, List.replicate 48 0⟩), by decide +kernel⟩,
    ⟨(((((State.reset.wr (R.HIF_OD_SQ_CFG (0 : Fin 4) (0 : Fin 8)) 0x24).p (F.HIF_OD_SQ_CFG_CLASS (0 : Fin 4) (0 : Fin 8))
    0).on (F.HIF_OD_SQ_STATUS_RUNNING (0 : Fin 4) (0 : Fin 8))).p (F.HIF_OD_SQ_STATUS_HEAD (0 : Fin 4) (0 : Fin 8)) 1)),
    (0), (0), (0x50), (⟨0, 4, 7, 0, 0, List.replicate 48 0⟩), by decide +kernel⟩,
    ⟨((((((State.reset.wr (R.HIF_OD_SQ_CFG (0 : Fin 4) (0 : Fin 8)) 0x24).p (F.HIF_OD_SQ_CFG_CLASS (0 : Fin 4) (0 : Fin 8))
    0).on (F.HIF_OD_SQ_STATUS_RUNNING (0 : Fin 4) (0 : Fin 8))).p (F.HIF_OD_SQ_STATUS_HEAD (0 : Fin 4) (0 : Fin 8))
    1)).wr (R.HIF_OD_CQ_CFG (0 : Fin 4) 0) 4), (0), (0), (9), (⟨0, 4, 7, 0, 0, List.replicate 48 0⟩), by decide +kernel⟩,
    ⟨((((((State.reset.wr (R.HIF_OD_SQ_CFG (0 : Fin 4) (0 : Fin 8)) 0x24).p (F.HIF_OD_SQ_CFG_CLASS (0 : Fin 4) (0 : Fin 8))
    0).on (F.HIF_OD_SQ_STATUS_RUNNING (0 : Fin 4) (0 : Fin 8))).p (F.HIF_OD_SQ_STATUS_HEAD (0 : Fin 4) (0 : Fin 8))
    1)).p (F.LSP_CH_CFG_SRC 0) 2), (0), (0), (⟨0, 4, 7, 0, 0, List.replicate 16 0 ++ [BitVec.ofNat 8 State.reset.nowNs,
    BitVec.ofNat 8 (State.reset.nowNs / 256), BitVec.ofNat 8 (State.reset.nowNs / 65536), BitVec.ofNat 8
    (State.reset.nowNs / 16777216), 200, 1, 0, 0] ++ List.replicate 24 0⟩), by decide +kernel⟩,
    ⟨((((((State.reset.wr (R.HIF_OD_SQ_CFG (0 : Fin 4) (0 : Fin 8)) 0x24).p (F.HIF_OD_SQ_CFG_CLASS (0 : Fin 4) (0 : Fin 8))
    0).on (F.HIF_OD_SQ_STATUS_RUNNING (0 : Fin 4) (0 : Fin 8))).p (F.HIF_OD_SQ_STATUS_HEAD (0 : Fin 4) (0 : Fin 8))
    1)).off (F.LQ_STATUS_PARITY 0)), (0), (0), (⟨0, 4, 7, 0, 0, List.replicate 12 0 ++ [0x40, 0, 0, 0] ++ List.replicate
    32 0⟩), by decide +kernel⟩,
    ⟨({ (((((State.reset.wr (R.HIF_OD_SQ_CFG (0 : Fin 4) (0 : Fin 8)) 0x24).p (F.HIF_OD_SQ_CFG_CLASS (0 : Fin 4) (0 : Fin 8)) 0).on (F.HIF_OD_SQ_STATUS_RUNNING (0 : Fin 4) (0 : Fin 8))).p (F.HIF_OD_SQ_STATUS_HEAD (0 : Fin 4) (0 : Fin 8)) 1)) with lqs := tabSet (fun _ => QueueSt.reset) State.reset.lqs 0 { QueueSt.reset with entries := [⟨State.reset.now + 100, State.reset.tb.ticks + 5, 0x20, 0, 0, 0, false, false⟩, ⟨State.reset.now + 200, State.reset.tb.ticks + 5, 0x20, 0, 0, 3, false, false⟩] } }),
    (0), (0), (⟨0, 4, 7, 0, 0, [3, 0, 0xFF, 0xFF] ++ List.replicate 44 0⟩), by decide +kernel⟩,
    ⟨((((((State.reset.wr (R.HIF_OD_SQ_CFG (0 : Fin 4) (0 : Fin 8)) 0x24).p (F.HIF_OD_SQ_CFG_CLASS (0 : Fin 4) (0 : Fin 8))
    0).on (F.HIF_OD_SQ_STATUS_RUNNING (0 : Fin 4) (0 : Fin 8))).p (F.HIF_OD_SQ_STATUS_HEAD (0 : Fin 4) (0 : Fin 8))
    1)).p (F.LSP_CH_STATUS_STATE 0) 0), (0), (0), (⟨0, 4, 7, 0, 0, [5, 6, 7, 8, 0, 0, 0, 0, 9, 0, 0, 0, 7, 0, 0, 0, 7,
    0, 0, 0] ++ List.replicate 8 0 ++ [3, 0, 0, 0] ++ List.replicate 16 0⟩), (_),
    ⟨by decide +kernel, by decide +kernel, rfl⟩⟩,
    ⟨((((((State.reset.wr (R.HIF_OD_SQ_CFG (0 : Fin 4) (0 : Fin 8)) 0x24).p (F.HIF_OD_SQ_CFG_CLASS (0 : Fin 4) (0 : Fin 8))
    0).on (F.HIF_OD_SQ_STATUS_RUNNING (0 : Fin 4) (0 : Fin 8))).p (F.HIF_OD_SQ_STATUS_HEAD (0 : Fin 4) (0 : Fin 8))
    1)).p (F.LSP_CH_STATUS_STATE 0) 0), (0), (0), (⟨0, 4, 7, 0, 0, [5, 6, 7, 8, 0, 0, 0, 0, 9] ++ List.replicate 19 0 ++
    [8, 0, 0, 0] ++ List.replicate 16 0⟩), by decide +kernel⟩,
    ⟨((((((((State.reset.wr (R.HIF_OD_SQ_CFG (0 : Fin 4) (0 : Fin 8)) 0x24).p (F.HIF_OD_SQ_CFG_CLASS (0 : Fin 4) (0 : Fin
    8)) 1).on (F.HIF_OD_SQ_STATUS_RUNNING (0 : Fin 4) (0 : Fin 8))).p (F.HIF_OD_SQ_STATUS_HEAD (0 : Fin 4) (0 : Fin 8))
    1)).p F.MEM_STAGE_SOUND 1).p (F.POOL_C_CFG_COUNT 0) 4).setBuf 1 ⟨1, some (0 : Fin 4)⟩), (0), (0), (⟨1, 4, 7, 0, 0,
    [0, 0, 0, 0, 0, 0, 0, 0, 1, 0, 0, 1, 0, 0, 0, 0, 64, 0, 0, 0] ++ List.replicate 28 0⟩), (0), (0), by decide +kernel⟩,
    ⟨((((((((State.reset.wr (R.HIF_OD_SQ_CFG (0 : Fin 4) (0 : Fin 8)) 0x24).p (F.HIF_OD_SQ_CFG_CLASS (0 : Fin 4) (0 : Fin
    8)) 1).on (F.HIF_OD_SQ_STATUS_RUNNING (0 : Fin 4) (0 : Fin 8))).p (F.HIF_OD_SQ_STATUS_HEAD (0 : Fin 4) (0 : Fin 8))
    1)).p F.MEM_STAGE_SOUND 1).p (F.POOL_C_CFG_COUNT 0) 4).setBuf 1 ⟨1, some (0 : Fin 4)⟩), (0), (0), (⟨1, 4, 7, 0, 0,
    [0, 0, 0, 0, 0, 0, 0, 0, 1, 0, 0, 1, 0, 0, 0, 0, 64, 0, 0, 0] ++ List.replicate 28 0⟩), (0), (0), by decide +kernel⟩,
    ⟨((((((((State.reset.wr (R.HIF_OD_SQ_CFG (0 : Fin 4) (0 : Fin 8)) 0x24).p (F.HIF_OD_SQ_CFG_CLASS (0 : Fin 4) (0 : Fin
    8)) 1).on (F.HIF_OD_SQ_STATUS_RUNNING (0 : Fin 4) (0 : Fin 8))).p (F.HIF_OD_SQ_STATUS_HEAD (0 : Fin 4) (0 : Fin 8))
    1)).on F.MEM_CTL_POOL_EN).p (F.POOL_C_CFG_COUNT 0) 4).wr (R.POOL_OD_QUOTA01 (0 : Fin 4)) 5), (0), (0), (⟨1, 4, 7, 0,
    0, List.replicate 48 0⟩), (0), by decide +kernel⟩,
    ⟨(((((((State.reset.wr (R.HIF_OD_SQ_CFG (0 : Fin 4) (0 : Fin 8)) 0x24).p (F.HIF_OD_SQ_CFG_CLASS (0 : Fin 4) (0 : Fin 8))
    1).on (F.HIF_OD_SQ_STATUS_RUNNING (0 : Fin 4) (0 : Fin 8))).p (F.HIF_OD_SQ_STATUS_HEAD (0 : Fin 4) (0 : Fin 8))
    1)).p (F.POOL_C_CFG_COUNT 0) 4).setBuf 1 ⟨1, some (0 : Fin 4)⟩), (0), (0), (⟨1, 4, 7, 0, 0, [1, 0, 0, 1] ++
    List.replicate 44 0⟩), (0x01000001), by decide +kernel⟩,
    ⟨({ (((((State.reset.wr (R.HIF_OD_SQ_CFG (0 : Fin 4) (0 : Fin 8)) 0x24).p (F.HIF_OD_SQ_CFG_CLASS (0 : Fin 4) (0 : Fin 8)) 1).on (F.HIF_OD_SQ_STATUS_RUNNING (0 : Fin 4) (0 : Fin 8))).p (F.HIF_OD_SQ_STATUS_HEAD (0 : Fin 4) (0 : Fin 8)) 1)).p F.MEM_STAGE_SOUND 1 with ipm := { State.reset.ipm with copies := [some ⟨⟨0, 0, 0, false, 0, 0, 0, 9, 0, false, 0, 4⟩, 0, CsumSt.start 0, 0, false⟩] } }),
    (0), (0), (⟨1, 4, 7, 0, 0, List.replicate 16 0 ++ [64, 0, 0, 0] ++ List.replicate 28 0⟩), (0), by decide +kernel⟩,
    ⟨({ (((((State.reset.wr (R.HIF_OD_SQ_CFG (0 : Fin 4) (0 : Fin 8)) 0x24).p (F.HIF_OD_SQ_CFG_CLASS (0 : Fin 4) (0 : Fin 8)) 1).on (F.HIF_OD_SQ_STATUS_RUNNING (0 : Fin 4) (0 : Fin 8))).p (F.HIF_OD_SQ_STATUS_HEAD (0 : Fin 4) (0 : Fin 8)) 1)).p F.MEM_STAGE_SOUND 1 with ipm := { State.reset.ipm with copies := [some ⟨⟨0, 0, 0, false, 0, 0, 0, 9, 0, false, 0, 4⟩, 0, CsumSt.start 0, 0, false⟩] } }),
    (0), (0), (⟨1, 4, 7, 0, 0, List.replicate 16 0 ++ [64, 0, 0, 0] ++ List.replicate 28 0⟩), (0), by decide +kernel⟩⟩

theorem witness_HostRingsFollowTheirRules :
    (∃ (s : State) (rq : Rq) (n : Fin 4) (_v : Word), s.reaches rq (R.HIF_OD_CTL n)) ∧
    (∃ (s : State) (rq : Rq) (n : Fin 4) (k : Fin 8) (v : Word), s.reaches rq (R.HIF_OD_SQ_CFG n k) ∧ 4 ≤ getBits v 0 5 ∧
      getBits v 0 5 ≤ 16 ∧ getBits v 10 7 ≤ 64 ∧ getBits v 5 1 = 1 ∧ s.is (F.HIF_OD_SQ_CFG_EN n k) = false ∧ s.cqEn n
      (getBits v 7 3) = true) ∧
    (∃ (s : State) (rq : Rq) (n : Fin 4) (k : Fin 8) (v : Word), s.reaches rq (R.HIF_OD_SQ_CFG n k) ∧ 4 ≤ getBits v 0 5 ∧
      getBits v 0 5 ≤ 16 ∧ getBits v 10 7 ≤ 64 ∧ getBits v 5 1 = 0 ∧ s.is (F.HIF_OD_SQ_CFG_EN n k) = false) ∧
    (∃ (s : State) (rq : Rq) (n : Fin 4) (k : Fin 8) (v : Word), s.reaches rq (R.HIF_OD_SQ_CFG n k) ∧ 4 ≤ getBits v 0 5 ∧
      getBits v 0 5 ≤ 16 ∧ getBits v 10 7 ≤ 64 ∧ getBits v 5 1 = 1 ∧ s.is (F.HIF_OD_SQ_CFG_EN n k) = true ∧ v &&& 0x3DF
      = s.rd (R.HIF_OD_SQ_CFG n k) &&& 0x3DF) ∧
    (∃ (s : State) (rq : Rq) (n : Fin 4) (k : Fin 8) (v : Word), s.reaches rq (R.HIF_OD_SQ_CFG n k) ∧ 4 ≤ getBits v 0 5 ∧
      getBits v 0 5 ≤ 16 ∧ getBits v 10 7 ≤ 64 ∧ getBits v 5 1 = 0 ∧ s.is (F.HIF_OD_SQ_CFG_EN n k) = true ∧ v &&& 0x3DF
      = s.rd (R.HIF_OD_SQ_CFG n k) &&& 0x3DF) ∧
    (∃ (s : State) (rq : Rq) (n : Fin 4) (k : Fin 9) (v : Word), s.reaches rq (cqCfg n k) ∧ 4 ≤ getBits v 0 5 ∧ getBits v 0
      5 ≤ 16 ∧ getBits v 5 1 = 1 ∧ s.cqEn n k = false) ∧
    (∃ (s : State) (rq : Rq) (n : Fin 4) (k : Fin 9) (v : Word), s.reaches rq (cqCfg n k) ∧ 4 ≤ getBits v 0 5 ∧ getBits v 0
      5 ≤ 16 ∧ getBits v 5 1 = 0 ∧ s.cqEn n k = false) ∧
    (∃ (s : State) (rq : Rq) (n : Fin 4) (k : Fin 9) (v : Word), s.reaches rq (cqCfg n k) ∧ 4 ≤ getBits v 0 5 ∧ getBits v 0
      5 ≤ 16 ∧ getBits v 5 1 = 1 ∧ s.cqEn n k = true ∧ getBits v 0 5 = getBits (s.rd (cqCfg n k)) 0 5) ∧
    (∃ (s : State) (rq : Rq) (n : Fin 4) (k : Fin 9) (v : Word), s.reaches rq (cqCfg n k) ∧ 4 ≤ getBits v 0 5 ∧ getBits v 0
      5 ≤ 16 ∧ getBits v 5 1 = 0 ∧ s.cqEn n k = true ∧ getBits v 0 5 = getBits (s.rd (cqCfg n k)) 0 5 ∧ (∀ q : Fin 8,
      s.is (F.HIF_OD_SQ_CFG_EN n q) = false)) ∧
    (∃ (s : State) (n : Fin 4) (_tails : List Word) (_heads : List Word) (_rest : List Word), s.is (F.HIF_OD_CTL_EN n) = true
      ∧ s.isolated regHost = false ∧ (s.hifOf n).pollT ≠ some (s.pollInstant n)) ∧
    (∃ (s : State) (n : Fin 4) (tails : List Word) (heads : List Word) (rest : List Word) (k : Fin 8), s.is
      (F.HIF_OD_CTL_EN n) = true ∧ s.isolated regHost = false ∧ (s.hifOf n).pollT ≠ some (s.pollInstant n) ∧ (∀ j : Fin
      9, s.cqEn n j = false) ∧ s.is (F.HIF_OD_SQ_CFG_EN n k) = true ∧ (s.sqOf n k).ignored = false ∧ (s.sqOf n
      k).closing = false ∧ doorWord (tails ++ heads ++ rest) (4 * k) < s.sqDepth n k ∧ ((s.sqOf n k).tail + s.sqDepth n
      k - s.g (F.HIF_OD_SQ_STATUS_HEAD n k)) % s.sqDepth n k ≤ (doorWord (tails ++ heads ++ rest) (4 * k) + s.sqDepth n
      k - s.g (F.HIF_OD_SQ_STATUS_HEAD n k)) % s.sqDepth n k) ∧
    (∃ (s : State) (n : Fin 4) (tails : List Word) (heads : List Word) (rest : List Word) (k : Fin 8), s.is
      (F.HIF_OD_CTL_EN n) = true ∧ s.isolated regHost = false ∧ (s.hifOf n).pollT ≠ some (s.pollInstant n) ∧ (∀ j : Fin
      9, s.cqEn n j = false) ∧ s.is (F.HIF_OD_SQ_CFG_EN n k) = true ∧ (s.sqOf n k).ignored = false ∧ (s.sqOf n
      k).closing = false ∧ s.sqDepth n k ≤ doorWord (tails ++ heads ++ rest) (4 * k)) ∧
    (∃ (s : State) (n : Fin 4) (_tails : List Word) (_heads : List Word) (_rest : List Word) (k : Fin 9), s.is
      (F.HIF_OD_CTL_EN n) = true ∧ s.isolated regHost = false ∧ (s.hifOf n).pollT ≠ some (s.pollInstant n) ∧ s.cqEn n k
      = true ∧ (k.val < 8 → (s.cqOf n k).wait = [])) ∧
    (∃ (s : State) (n : Fin 4), s.is (F.HIF_OD_CTL_EN n) = true ∧ s.isolated regHost = false ∧ (s.hifOf n).hbTick + 250000
      * atLeast1 (s.g (F.HIF_OD_HB_HB_PERIOD n)) ≤ s.tb.ticks ∧ s.hbRings n = []) ∧
    (∃ (s : State) (n : Fin 4) (k : Fin 9), s.is (F.HIF_OD_CTL_EN n) = true ∧ s.isolated regHost = false ∧ (s.hifOf
      n).hbTick + 250000 * atLeast1 (s.g (F.HIF_OD_HB_HB_PERIOD n)) ≤ s.tb.ticks ∧ s.hbRings n = [k.val] ∧ s.pageDue n k
      = false ∧ (if k.val = 8 then 0 else entriesFor (s.cqDepth n k) (s.pageLen n k) (s.reserved n k) ((s.cqTail n k +
      1) % s.cqDepth n k)) + 1 ≤ s.cqFree n k) ∧
    (∃ (s : State) (n : Fin 4) (k : Fin 9) (l : Nat × List Byte), s.is (F.HIF_OD_CTL_EN n) = true ∧ s.isolated regHost =
      false ∧ (s.hifOf n).hbTick + 250000 * atLeast1 (s.g (F.HIF_OD_HB_HB_PERIOD n)) ≤ s.tb.ticks ∧ s.hbRings n =
      [k.val] ∧ s.cqFree n k = 0 ∧ (s.cqOf n k).last = some l) ∧
    (∃ (s : State) (n : Fin 4) (k : Fin 9) (data : List Byte) (w : List Byte × Nat) (rest : List (List Byte × Nat)),
      (s.cqOf n k).readbacks = w :: rest ∧ data = w.1) ∧
    (∃ (s : State) (n : Fin 4) (k : Fin 9) (_data : List Byte), (s.cqOf n k).readbacks ≠ []) ∧
    (∃ (s : State) (n : Fin 4) (k : Fin 9) (data : List Byte) (w : List Byte × Nat) (rest : List (List Byte × Nat)),
      (s.cqOf n k).readbacks = w :: rest ∧ data ≠ w.1) ∧
    (∃ (s : State) (n : Fin 4) (k : Fin 9) (w : List Byte × Nat) (rest : List (List Byte × Nat)), (s.cqOf n k).readbacks =
      w :: rest ∧ w.2 + 2500 * s.g (F.HIF_OD_HB_HB_TMO n) ≤ s.tb.ticks) ∧
    (∃ (s : State) (n : Fin 4) (k : Fin 9) (v : Nat), (s.cqOf n k).due = some v ∧ s.holdOver n k = true ∧ s.isolated
      regHost = false) ∧
    (∃ (s : State) (n : Fin 4) (e : EvRec) (rest : List EvRec), s.evq n = e :: rest ∧ s.cqWorks n 8 = true ∧ s.isolated
      regHost = false ∧ s.before n 8 e.full + 1 ≤ s.cqFree n 8) :=
  ⟨⟨(State.reset), (.od 0), (0), (5), by decide +kernel⟩,
    ⟨((State.reset.off (F.HIF_OD_SQ_CFG_EN (0 : Fin 4) (0 : Fin 8))).wr (R.HIF_OD_CQ_CFG (0 : Fin 4) (getBits (0x2024 :
    Word) 7 3)) 0x24), (.od 0), (0), (0), (0x2024), by decide +kernel⟩,
    ⟨(State.reset.off (F.HIF_OD_SQ_CFG_EN (0 : Fin 4) (0 : Fin 8))), (.od 0), (0), (0), (0x444), by decide +kernel⟩,
    ⟨(State.reset.wr (R.HIF_OD_SQ_CFG (0 : Fin 4) (0 : Fin 8)) 0x24), (.od 0), (0), (0), (0x424), by decide +kernel⟩,
    ⟨((State.reset.wr (R.HIF_OD_SQ_CFG (0 : Fin 4) (0 : Fin 8)) 0x24).setSq (0 : Fin 4) (0 : Fin 8)
    { SqSt.reset with running := 1 }), (.od 0), (0), (0), (0x04), by decide +kernel⟩,
    ⟨(State.reset.wr (cqCfg (0 : Fin 4) (0 : Fin 9)) 4), (.od 0), (0), (0), (0x24), by decide +kernel⟩,
    ⟨(State.reset.wr (cqCfg (0 : Fin 4) (0 : Fin 9)) 4), (.od 0), (0), (0), (0x44), by decide +kernel⟩,
    ⟨(State.reset.wr (cqCfg (0 : Fin 4) (0 : Fin 9)) 0x24), (.od 0), (0), (0), (0x64), by decide +kernel⟩,
    ⟨((State.reset.wr (cqCfg (0 : Fin 4) (0 : Fin 9)) 0x24).wr (R.HIF_OD_SQ_CFG (0 : Fin 4) 1) 4), (.od 0), (0), (0),
    (0x04), by decide +kernel⟩,
    ⟨((((((((State.reset.on (F.HIF_OD_CTL_EN (0 : Fin 4))).wr (R.HIF_OD_CQ_CFG (0 : Fin 4) 0) 4).wr (R.HIF_OD_CQ_CFG (0 :
    Fin 4) 1) 4).wr (R.HIF_OD_EVQ_CFG (0 : Fin 4)) 4).wr (R.HIF_OD_SQ_CFG (0 : Fin 4) 0) 0x24).wr (R.HIF_OD_SQ_CFG (0 :
    Fin 4) 1) 4).wr (R.HIF_OD_SQ_STATUS (0 : Fin 4) 0) 0x10000)), (0), (List.replicate 16 0), (List.replicate 16 0),
    (List.replicate 32 0), by decide +kernel⟩,
    ⟨((((((((State.reset.on (F.HIF_OD_CTL_EN (0 : Fin 4))).wr (R.HIF_OD_CQ_CFG (0 : Fin 4) 0) 4).wr (R.HIF_OD_CQ_CFG (0 :
    Fin 4) 1) 4).wr (R.HIF_OD_EVQ_CFG (0 : Fin 4)) 4).wr (R.HIF_OD_SQ_CFG (0 : Fin 4) 0) 0x24).wr (R.HIF_OD_SQ_CFG (0 :
    Fin 4) 1) 4).wr (R.HIF_OD_SQ_STATUS (0 : Fin 4) 0) 0x10000)), (0), (5 :: List.replicate 15 0), (List.replicate 16
    0), (List.replicate 32 0), (0), by decide +kernel⟩,
    ⟨((((((((State.reset.on (F.HIF_OD_CTL_EN (0 : Fin 4))).wr (R.HIF_OD_CQ_CFG (0 : Fin 4) 0) 4).wr (R.HIF_OD_CQ_CFG (0 :
    Fin 4) 1) 4).wr (R.HIF_OD_EVQ_CFG (0 : Fin 4)) 4).wr (R.HIF_OD_SQ_CFG (0 : Fin 4) 0) 0x24).wr (R.HIF_OD_SQ_CFG (0 :
    Fin 4) 1) 4).wr (R.HIF_OD_SQ_STATUS (0 : Fin 4) 0) 0x10000)), (0), (500 :: List.replicate 15 0), (List.replicate 16
    0), (List.replicate 32 0), (0), by decide +kernel⟩,
    ⟨(((((((((State.reset.on (F.HIF_OD_CTL_EN (0 : Fin 4))).wr (R.HIF_OD_CQ_CFG (0 : Fin 4) 0) 4).wr (R.HIF_OD_CQ_CFG (0 :
    Fin 4) 1) 4).wr (R.HIF_OD_EVQ_CFG (0 : Fin 4)) 4).wr (R.HIF_OD_SQ_CFG (0 : Fin 4) 0) 0x24).wr (R.HIF_OD_SQ_CFG (0 :
    Fin 4) 1) 4).wr (R.HIF_OD_SQ_STATUS (0 : Fin 4) 0) 0x10000)).wr (cqCfg (0 : Fin 4) (8 : Fin 9)) 0x24), (0),
    (List.replicate 16 0), ([3] ++ List.replicate 15 0), ([3] ++ List.replicate 31 0), (8), by decide +kernel⟩,
    ⟨({ (((State.reset.on (F.HIF_OD_CTL_EN (0 : Fin 4))).wr (R.HIF_OD_CQ_CFG (0 : Fin 4) 0) 4).wr (R.HIF_OD_CQ_CFG (0 : Fin 4) 1) 4).wr (R.HIF_OD_EVQ_CFG (0 : Fin 4)) 4 with tb := { State.reset.tb with ticks := 100000000000 } }),
    (0), by decide +kernel⟩,
    ⟨({ (((((State.reset.on (F.HIF_OD_CTL_EN (0 : Fin 4))).wr (R.HIF_OD_CQ_CFG (0 : Fin 4) 0) 0x24).wr (R.HIF_OD_CQ_CFG (0 : Fin 4) 1) 4).wr (R.HIF_OD_EVQ_CFG (0 : Fin 4)) 4).wr (R.HIF_OD_CQ_STATUS (0 : Fin 4) 0) 0x10003).setCq (0 : Fin 4) 0 CqSt.reset with tb := { State.reset.tb with ticks := 100000000000 } }),
    (0), (0), by decide +kernel⟩,
    ⟨({ (((((State.reset.on (F.HIF_OD_CTL_EN (0 : Fin 4))).wr (R.HIF_OD_CQ_CFG (0 : Fin 4) 0) 0x24).wr (R.HIF_OD_CQ_CFG (0 : Fin 4) 1) 4).wr (R.HIF_OD_EVQ_CFG (0 : Fin 4)) 4).wr (R.HIF_OD_CQ_STATUS (0 : Fin 4) 0) 0x10003).setCq (0 : Fin 4) 0 { CqSt.reset with head := 4, last := some (0x1000, [1, 2]) } with tb := { State.reset.tb with ticks := 100000000000 } }),
    (0), (0), ((0x1000, [1, 2])), by decide +kernel⟩,
    ⟨(State.reset.setCq (0 : Fin 4) (0 : Fin 9) { CqSt.reset with readbacks := [([1, 2], 5), ([7], 6)] }), (0), (0), ([1,
    2]), (([1, 2], 5)), ([([7], 6)]), by decide +kernel⟩,
    ⟨(((State.reset.wr (R.HIF_OD_CQ_CFG (0 : Fin 4) 0) 4).wr (R.HIF_OD_CQ_CFG (0 : Fin 4) 1) 4).setCq (0 : Fin 4) (0 : Fin
    9) { CqSt.reset with readbacks := [([1, 2], 5), ([7], 6)] }), (0), (0), ([1, 2]), by decide +kernel⟩,
    ⟨(((State.reset.wr (R.HIF_OD_CQ_CFG (0 : Fin 4) 0) 4).wr (R.HIF_OD_CQ_CFG (0 : Fin 4) 1) 4).setCq (0 : Fin 4) (0 : Fin
    9) { CqSt.reset with readbacks := [([1, 2], 5), ([7], 6)] }), (0), (0), ([9]), (([1, 2], 5)), ([([7], 6)]),
    by decide +kernel⟩,
    ⟨({ (((State.reset.wr (R.HIF_OD_CQ_CFG (0 : Fin 4) 0) 4).wr (R.HIF_OD_CQ_CFG (0 : Fin 4) 1) 4).setCq (0 : Fin 4) (0 : Fin 9) { CqSt.reset with readbacks := [([1, 2], 5), ([7], 6)] }) with tb := { State.reset.tb with ticks := 100000000000 } }),
    (0), (0), (([1, 2], 5)), ([([7], 6)]), by decide +kernel⟩,
    ⟨(State.reset.setCq (0 : Fin 4) (0 : Fin 9) { CqSt.reset with due := some (1 : Nat) }), (0), (0), (1),
    by decide +kernel⟩,
    ⟨({ ((State.reset.wr (R.HIF_OD_EVQ_CFG (0 : Fin 4)) 0x24).wr (R.HIF_OD_EVQ_STATUS (0 : Fin 4)) 0x10003) with evt := { State.reset.evt with queues := tabSet (fun _ => []) State.reset.evt.queues (0 : Fin 4) ((⟨5, 1, false, false, 0, 7, 0, State.reset.now, 0, 0, 0⟩ : EvRec) :: ([] : List EvRec)) } }),
    (0), (⟨5, 1, false, false, 0, 7, 0, State.reset.now, 0, 0, 0⟩), ([]), by decide +kernel⟩⟩

theorem witness_MemoryAndDmaTakeEffect :
    (∃ (s : State) (rq : Rq) (c : Fin 4) (v : Word), s.reaches rq (R.POOL_C_CFG c) ∧ s.is F.MEM_CTL_POOL_EN = false ∧
      poolsFit (listSet ((List.range 4).map s.classCount) c (getBits v 0 22)) (s.g F.MEM_LAYOUT_CAP_AREA) = true) ∧
    (∃ (s : State) (rq : Rq) (v : Word), s.reaches rq R.MEM_STAGE ∧ s.copyBusy = false ∧ getBits v 0 3 ≤ 4) ∧
    (∃ (s : State) (rq : Rq) (n : Fin 28), s.reaches rq (R.DMA_CTL n) ∧ getBits (s.rd (R.DMA_CTL n)) 7 2 ≠ 3 ∧ s.startBad n
      (s.is (F.DMA_STATUS_BUSY n)) (getBits (s.rd (R.DMA_CTL n)) 3 2) (getBits (s.rd (R.DMA_CTL n)) 5 2) = false ∧
      s.sideErr n (s.dmaAsked n).src (s.dmaAsked n).count = none ∧ s.sideErr n (s.dmaAsked n).dst ((s.dmaAsked n).count
      + csumLen (s.dmaAsked n).csum (s.dmaAsked n).append) = none) ∧
    (∃ (s : State) (rq : Rq) (n : Fin 28) (e : Nat), s.reaches rq (R.DMA_CTL n) ∧ getBits (s.rd (R.DMA_CTL n)) 7 2 ≠ 3 ∧
      s.startBad n (s.is (F.DMA_STATUS_BUSY n)) (getBits (s.rd (R.DMA_CTL n)) 3 2) (getBits (s.rd (R.DMA_CTL n)) 5 2) =
      false ∧ s.sideErr n (s.dmaAsked n).src (s.dmaAsked n).count = some e ∧ e < 16) ∧
    (∃ (s : State) (rq : Rq) (n : Fin 28) (r : DmaRun), s.reaches rq (R.DMA_CTL n) ∧ getBits (s.rd (R.DMA_CTL n)) 7 2 ≠ 3 ∧
      s.is (F.DMA_STATUS_HALTED n) = true ∧ s.dmaLive n = some r ∧ s.sideErr n r.src r.count = none ∧ s.sideErr n r.dst
      (r.count + csumLen r.csum r.append) = none) ∧
    (∃ (s : State) (rq : Rq) (n : Fin 28), s.reaches rq (R.DMA_CTL n) ∧ getBits (s.rd (R.DMA_CTL n)) 7 2 ≠ 3 ∧ (s.is
      (F.DMA_STATUS_BUSY n) = true ∨ s.is (F.DMA_STATUS_HALTED n) = true)) ∧
    (∃ (s : State) (n : Fin 28) (data : List Byte) (_fixed : Nat), s.is (F.DMA_STATUS_BUSY n) = true ∧ s.dataFits n
      (s.dmaLeft n) data = true ∧ s.srcIsolated (s.dmaSrc n) = false ∧ s.dmaWaits n = false ∧ s.sidePoison (s.dmaSrc n)
      (s.rd (R.DMA_DONE_BYTES n)).toNat (s.dmaLeft n) = none ∧ (s.rd (R.DMA_DONE_BYTES n)).toNat ≤ ((s.dmaLive n).getD
      (s.dmaAsked n)).count ∧ ((s.dmaLive n).getD (s.dmaAsked n)).count < 2 ^ 32) ∧
    (∃ (s : State) (n : Fin 28) (data : List Byte) (_fixed : Nat), s.is (F.DMA_STATUS_BUSY n) = true ∧ s.dataFits n
      (s.dmaLeft n) data = true ∧ s.srcIsolated (s.dmaSrc n) = true) ∧
    (∃ (s : State) (n : Fin 28) (data : List Byte) (_fixed : Nat) (a : Nat), s.is (F.DMA_STATUS_BUSY n) = true ∧ s.dataFits
      n (s.dmaLeft n) data = true ∧ s.srcIsolated (s.dmaSrc n) = false ∧ s.dmaWaits n = false ∧ s.sidePoison (s.dmaSrc
      n) (s.rd (R.DMA_DONE_BYTES n)).toNat (s.dmaLeft n) = some a) ∧
    (∃ (s : State) (n : Fin 28) (_data : List Byte) (_fixed : Nat), s.srcIsolated (s.dmaSrc n) = false ∧ s.clk.memWait = true
      ∧ ((s.dmaSrc n).space = 1 ∨ (s.dmaDst n).space = 1)) ∧
    (∃ (s : State) (n : Fin 28) (reason : Fin 16) (_write : Bool) (_addr : BitVec 64) (moved : Nat) (data : List Byte) (_fixed : Nat), s.is (F.DMA_STATUS_BUSY n) = true ∧ s.dmaWaits n = false ∧ moved ≤ s.dmaLeft n ∧ s.dataFits n moved data =
      true ∧ [1, 2, 3, 4, 8].contains reason.val = true ∧ s.srcIsolated (s.dmaSrc n) = false ∧ s.sidePoison (s.dmaSrc n)
      (s.rd (R.DMA_DONE_BYTES n)).toNat moved = none) ∧
    (∃ (s : State) (c : Fin 4) (data : List Byte) (x : CopyRun) (_fixed : Nat), s.ipm.copies[c.val]? = some (some x) ∧
      s.isolated regMemory = false ∧ s.clk.memWait = false ∧ x.req.out = false ∧ data.length = min s.segSize (x.req.len
      - x.segs * s.segSize) ∧ s.isolated regHost = false ∧ x.abort = false ∧ x.segs * s.segSize + data.length <
      x.req.len) ∧
    (∃ (s : State) (c : Fin 4) (data : List Byte) (x : CopyRun) (_fixed : Nat), s.ipm.copies[c.val]? = some (some x) ∧
      s.isolated regMemory = false ∧ s.clk.memWait = false ∧ s.ipm.waiting = [] ∧ x.req.out = false ∧ data.length = min
      s.segSize (x.req.len - x.segs * s.segSize) ∧ s.isolated regHost = false ∧ x.abort = false ∧ x.req.len ≤ x.segs *
      s.segSize + data.length) ∧
    (∃ (s : State) (c : Fin 4) (_data : List Byte) (x : CopyRun) (_fixed : Nat), s.ipm.copies[c.val]? = some (some x) ∧
      s.isolated regMemory = false ∧ s.clk.memWait = false ∧ x.req.out = true ∧ s.ipmPoison (s.bufAddr x.req.handle +
      x.req.off + x.segs * s.segSize) (min s.segSize (x.req.len - x.segs * s.segSize)) = none ∧ x.abort = false ∧ x.segs
      * s.segSize + min s.segSize (x.req.len - x.segs * s.segSize) < x.req.len) ∧
    (∃ (s : State) (c : Fin 4) (_data : List Byte) (x : CopyRun) (_fixed : Nat), s.ipm.copies[c.val]? = some (some x) ∧
      s.isolated regMemory = false ∧ s.clk.memWait = false ∧ s.ipm.waiting = [] ∧ x.req.out = true ∧ s.ipmPoison
      (s.bufAddr x.req.handle + x.req.off + x.segs * s.segSize) (min s.segSize (x.req.len - x.segs * s.segSize)) = none
      ∧ x.abort = false ∧ x.req.len ≤ x.segs * s.segSize + min s.segSize (x.req.len - x.segs * s.segSize)) ∧
    (∃ (s : State) (c : Fin 4) (data : List Byte) (x : CopyRun) (_fixed : Nat), s.ipm.copies[c.val]? = some (some x) ∧
      s.isolated regMemory = false ∧ s.clk.memWait = false ∧ s.ipm.waiting = [] ∧ x.req.out = false ∧ data.length = min
      s.segSize (x.req.len - x.segs * s.segSize) ∧ s.isolated regHost = false ∧ x.abort = true) ∧
    (∃ (s : State) (c : Fin 4) (_data : List Byte) (x : CopyRun) (_fixed : Nat), s.ipm.copies[c.val]? = some (some x) ∧
      s.isolated regMemory = false ∧ s.clk.memWait = true) ∧
    (∃ (s : State) (c : Fin 4) (x : CopyRun), s.ipm.copies[c.val]? = some (some x) ∧ s.isolated regMemory = false ∧
      s.ipm.waiting = []) ∧
    (∃ (s : State) (c : Fin 4) (x : CopyRun), s.ipm.copies[c.val]? = some (some x) ∧ s.isolated regMemory = false ∧
      s.ipm.waiting = []) ∧
    (∃ (s : State) (c : Fin 4) (_res : SegEnd) (x : CopyRun), s.ipm.copies[c.val]? = some (some x) ∧ s.isolated regMemory =
      true ∧ s.ipm.waiting = []) ∧
    (∃ (s : State) (word : Nat), s.is F.MEM_CTL_SCRUB_EN = true ∧ word < storeWords true ∧ s.scrubDue (2 * word + bit true)
      = true) ∧
    (∃ (s : State) (word : Nat), s.is F.MEM_CTL_SCRUB_EN = true ∧ word < storeWords false ∧ s.scrubDue (2 * word + bit
      false) = true) ∧
    (∃ (s : State) (ipm : Bool) (word : Nat) (_corrected : Bool), s.is F.MEM_CTL_SCRUB_EN = true ∧ word < storeWords ipm ∧
      s.scrubDue (2 * word + bit ipm) = true) ∧
    (∃ (s : State) (ipm : Bool) (word : Nat), s.is F.MEM_CTL_SCRUB_EN = true ∧ word < storeWords ipm ∧ s.scrubDue (2 * word
      + bit ipm) = true) ∧
    (∃ (s : State) (_c : Fin 4) (n : Fin 32), s.is (F.DMA_STATUS_HALTED n) = false) :=
  ⟨⟨((((State.reset.off F.MEM_CTL_POOL_EN).p (F.POOL_C_CFG_COUNT 0) 0).p (F.POOL_C_CFG_COUNT 1) 0).p F.MEM_LAYOUT_CAP_AREA
    2), (.od 0), (0), (5), by decide +kernel⟩,
    ⟨(State.reset), (.od 0), (3), by decide +kernel⟩,
    ⟨((((State.reset.wr (R.DMA_CTL (0 : Fin 28)) 0).off (F.DMA_STATUS_BUSY (0 : Fin 28))).wr (R.DMA_COUNT (0 : Fin 28))
    16)), (.od 0), (0), by decide +kernel⟩,
    ⟨((((State.reset.wr (R.DMA_CTL (0 : Fin 28)) 8).off (F.DMA_STATUS_BUSY (0 : Fin 28))).wr (R.DMA_COUNT (0 : Fin 28))
    16)), (.od 0), (0), (6), by decide +kernel⟩,
    ⟨(((((State.reset.wr (R.DMA_CTL (0 : Fin 28)) 0).on (F.DMA_STATUS_HALTED (0 : Fin 28))).wr (R.DMA_COUNT (0 : Fin 28))
    16).setLive (0 : Fin 28) (some ⟨⟨0, 64, 0⟩, ⟨0, 128, 0⟩, 16, 0, false⟩))), (.od 0), (0), (⟨⟨0, 64, 0⟩, ⟨0, 128, 0⟩,
    16, 0, false⟩), by decide +kernel⟩,
    ⟨(((State.reset.wr (R.DMA_CTL (0 : Fin 28)) 0).on (F.DMA_STATUS_BUSY (0 : Fin 28)))), (.od 0), (0), by decide +kernel⟩,
    ⟨((((State.reset.wr (R.DMA_CTL (0 : Fin 28)) 0).on (F.DMA_STATUS_BUSY (0 : Fin 28))).wr (R.DMA_COUNT (0 : Fin 28)) 2).wr
    (R.DMA_DONE_BYTES (0 : Fin 28)) 0), (0), ([1, 2]), (1), by decide +kernel⟩,
    ⟨(((((State.reset.wr (R.DMA_CTL (0 : Fin 28)) 0).on (F.DMA_STATUS_BUSY (0 : Fin 28))).wr (R.DMA_COUNT (0 : Fin 28))
    2).wr (R.DMA_DONE_BYTES (0 : Fin 28)) 0).p F.GLB_REGION_STATE_ISOLATED (2 ^ regMemory)), (0), ([1, 2]), (1),
    by decide +kernel⟩,
    ⟨({ (((((State.reset.wr (R.DMA_CTL (0 : Fin 28)) 0).on (F.DMA_STATUS_BUSY (0 : Fin 28))).wr (R.DMA_COUNT (0 : Fin 28)) 2).wr (R.DMA_DONE_BYTES (0 : Fin 28)) 0).setLive (0 : Fin 28) (some ⟨⟨2, 64, 0⟩, ⟨0, 128, 0⟩, 16, 0, false⟩)) with ipm := { State.reset.ipm with poison := [16], live := tabSet (fun _ => none) State.reset.ipm.live (0 : Fin 28) (some ⟨⟨2, 64, 0⟩, ⟨0, 128, 0⟩, 16, 0, false⟩) } }),
    (0), ([]), (1), (64), by decide +kernel⟩,
    ⟨({ (((State.reset.wr (R.DMA_CTL (0 : Fin 28)) 0).on (F.DMA_STATUS_BUSY (0 : Fin 28))).setLive (0 : Fin 28) (some ⟨⟨1, 64, 0⟩, ⟨0, 128, 0⟩, 16, 0, false⟩)) with clk := { State.reset.clk with memWait := true } }),
    (0), ([]), (1), by decide +kernel⟩,
    ⟨((((State.reset.wr (R.DMA_CTL (0 : Fin 28)) 0).on (F.DMA_STATUS_BUSY (0 : Fin 28))).wr (R.DMA_COUNT (0 : Fin 28)) 2).wr
    (R.DMA_DONE_BYTES (0 : Fin 28)) 0), (0), (2), (true), (1), (1), ([1]), (1), by decide +kernel⟩,
    ⟨({ State.reset.p F.MEM_STAGE_SEG 0 with ipm := { State.reset.ipm with waiting := [], copies := [some (⟨⟨0, 0, 0, false, 0, 0, 0, 100000, 0, false, 0, 4⟩, 0, CsumSt.start 0, 0, false⟩ : CopyRun), some (⟨⟨0, 0, 0, false, 0, 0, 0, 100000, 0, false, 0, 4⟩, 0, CsumSt.start 0, 0, false⟩ : CopyRun), some (⟨⟨0, 0, 0, false, 0, 0, 0, 100000, 0, false, 0, 4⟩, 0, CsumSt.start 0, 0, false⟩ : CopyRun), some (⟨⟨0, 0, 0, false, 0, 0, 0, 100000, 0, false, 0, 4⟩, 0, CsumSt.start 0, 0, false⟩ : CopyRun)] } }),
    (0), (List.replicate ((State.reset.p F.MEM_STAGE_SEG 0).segSize) 0), (⟨⟨0, 0, 0, false, 0, 0, 0, 100000, 0, false,
    0, 4⟩, 0, CsumSt.start 0, 0, false⟩), (1), by decide +kernel⟩,
    ⟨({ State.reset.p F.MEM_STAGE_SEG 0 with ipm := { State.reset.ipm with waiting := [], copies := [some (⟨⟨0, 0, 0, false, 0, 0, 0, 64, 0, false, 0, 4⟩, 0, CsumSt.start 0, 0, false⟩ : CopyRun), some (⟨⟨0, 0, 0, false, 0, 0, 0, 64, 0, false, 0, 4⟩, 0, CsumSt.start 0, 0, false⟩ : CopyRun), some (⟨⟨0, 0, 0, false, 0, 0, 0, 64, 0, false, 0, 4⟩, 0, CsumSt.start 0, 0, false⟩ : CopyRun), some (⟨⟨0, 0, 0, false, 0, 0, 0, 64, 0, false, 0, 4⟩, 0, CsumSt.start 0, 0, false⟩ : CopyRun)] } }),
    (0), (List.replicate 64 3), (⟨⟨0, 0, 0, false, 0, 0, 0, 64, 0, false, 0, 4⟩, 0, CsumSt.start 0, 0, false⟩), (1),
    by decide +kernel⟩,
    ⟨({ State.reset.p F.MEM_STAGE_SEG 0 with ipm := { State.reset.ipm with waiting := [], copies := [some (⟨⟨0, 0, 0, true, 0, 0, 0, 100000, 0, false, 0, 4⟩, 0, CsumSt.start 0, 0, false⟩ : CopyRun), some (⟨⟨0, 0, 0, true, 0, 0, 0, 100000, 0, false, 0, 4⟩, 0, CsumSt.start 0, 0, false⟩ : CopyRun), some (⟨⟨0, 0, 0, true, 0, 0, 0, 100000, 0, false, 0, 4⟩, 0, CsumSt.start 0, 0, false⟩ : CopyRun), some (⟨⟨0, 0, 0, true, 0, 0, 0, 100000, 0, false, 0, 4⟩, 0, CsumSt.start 0, 0, false⟩ : CopyRun)] } }),
    (0), ([]), (⟨⟨0, 0, 0, true, 0, 0, 0, 100000, 0, false, 0, 4⟩, 0, CsumSt.start 0, 0, false⟩), (1),
    by decide +kernel⟩,
    ⟨({ State.reset.p F.MEM_STAGE_SEG 0 with ipm := { State.reset.ipm with waiting := [], copies := [some (⟨⟨0, 0, 0, true, 0, 0, 0, 64, 0, false, 0, 4⟩, 0, CsumSt.start 0, 0, false⟩ : CopyRun), some (⟨⟨0, 0, 0, true, 0, 0, 0, 64, 0, false, 0, 4⟩, 0, CsumSt.start 0, 0, false⟩ : CopyRun), some (⟨⟨0, 0, 0, true, 0, 0, 0, 64, 0, false, 0, 4⟩, 0, CsumSt.start 0, 0, false⟩ : CopyRun), some (⟨⟨0, 0, 0, true, 0, 0, 0, 64, 0, false, 0, 4⟩, 0, CsumSt.start 0, 0, false⟩ : CopyRun)] } }),
    (0), ([]), (⟨⟨0, 0, 0, true, 0, 0, 0, 64, 0, false, 0, 4⟩, 0, CsumSt.start 0, 0, false⟩), (1), by decide +kernel⟩,
    ⟨({ State.reset.p F.MEM_STAGE_SEG 0 with ipm := { State.reset.ipm with waiting := [], copies := [some (⟨⟨0, 0, 0, false, 0, 0, 0, 64, 0, false, 0, 4⟩, 0, CsumSt.start 0, 0, true⟩ : CopyRun), some (⟨⟨0, 0, 0, false, 0, 0, 0, 64, 0, false, 0, 4⟩, 0, CsumSt.start 0, 0, true⟩ : CopyRun), some (⟨⟨0, 0, 0, false, 0, 0, 0, 64, 0, false, 0, 4⟩, 0, CsumSt.start 0, 0, true⟩ : CopyRun), some (⟨⟨0, 0, 0, false, 0, 0, 0, 64, 0, false, 0, 4⟩, 0, CsumSt.start 0, 0, true⟩ : CopyRun)] } }),
    (0), (List.replicate 64 3), (⟨⟨0, 0, 0, false, 0, 0, 0, 64, 0, false, 0, 4⟩, 0, CsumSt.start 0, 0, true⟩), (1),
    by decide +kernel⟩,
    ⟨({ ({ State.reset.p F.MEM_STAGE_SEG 0 with ipm := { State.reset.ipm with waiting := [], copies := [some (⟨⟨0, 0, 0, false, 0, 0, 0, 64, 0, false, 0, 4⟩, 0, CsumSt.start 0, 0, false⟩ : CopyRun), some (⟨⟨0, 0, 0, false, 0, 0, 0, 64, 0, false, 0, 4⟩, 0, CsumSt.start 0, 0, false⟩ : CopyRun), some (⟨⟨0, 0, 0, false, 0, 0, 0, 64, 0, false, 0, 4⟩, 0, CsumSt.start 0, 0, false⟩ : CopyRun), some (⟨⟨0, 0, 0, false, 0, 0, 0, 64, 0, false, 0, 4⟩, 0, CsumSt.start 0, 0, false⟩ : CopyRun)] } }) with clk := { State.reset.clk with memWait := true } }),
    (0), (List.replicate 64 3), (⟨⟨0, 0, 0, false, 0, 0, 0, 64, 0, false, 0, 4⟩, 0, CsumSt.start 0, 0, false⟩), (1),
    by decide +kernel⟩,
    ⟨({ State.reset.p F.MEM_STAGE_SEG 0 with ipm := { State.reset.ipm with waiting := [], copies := [some (⟨⟨0, 0, 0, false, 0, 0, 0, 64, 0, false, 0, 4⟩, 0, CsumSt.start 0, 0, false⟩ : CopyRun), some (⟨⟨0, 0, 0, false, 0, 0, 0, 64, 0, false, 0, 4⟩, 0, CsumSt.start 0, 0, false⟩ : CopyRun), some (⟨⟨0, 0, 0, false, 0, 0, 0, 64, 0, false, 0, 4⟩, 0, CsumSt.start 0, 0, false⟩ : CopyRun), some (⟨⟨0, 0, 0, false, 0, 0, 0, 64, 0, false, 0, 4⟩, 0, CsumSt.start 0, 0, false⟩ : CopyRun)] } }),
    (0), (⟨⟨0, 0, 0, false, 0, 0, 0, 64, 0, false, 0, 4⟩, 0, CsumSt.start 0, 0, false⟩), by decide +kernel⟩,
    ⟨({ State.reset.p F.MEM_STAGE_SEG 0 with ipm := { State.reset.ipm with waiting := [], copies := [some (⟨⟨0, 0, 0, false, 0, 0, 0, 64, 0, false, 0, 4⟩, 0, CsumSt.start 0, 0, false⟩ : CopyRun), some (⟨⟨0, 0, 0, false, 0, 0, 0, 64, 0, false, 0, 4⟩, 0, CsumSt.start 0, 0, false⟩ : CopyRun), some (⟨⟨0, 0, 0, false, 0, 0, 0, 64, 0, false, 0, 4⟩, 0, CsumSt.start 0, 0, false⟩ : CopyRun), some (⟨⟨0, 0, 0, false, 0, 0, 0, 64, 0, false, 0, 4⟩, 0, CsumSt.start 0, 0, false⟩ : CopyRun)] } }),
    (0), (⟨⟨0, 0, 0, false, 0, 0, 0, 64, 0, false, 0, 4⟩, 0, CsumSt.start 0, 0, false⟩), by decide +kernel⟩,
    ⟨(({ State.reset.p F.MEM_STAGE_SEG 0 with ipm := { State.reset.ipm with waiting := [], copies := [some (⟨⟨0, 0, 0, false, 0, 0, 0, 64, 0, false, 0, 4⟩, 0, CsumSt.start 0, 0, false⟩ : CopyRun), some (⟨⟨0, 0, 0, false, 0, 0, 0, 64, 0, false, 0, 4⟩, 0, CsumSt.start 0, 0, false⟩ : CopyRun), some (⟨⟨0, 0, 0, false, 0, 0, 0, 64, 0, false, 0, 4⟩, 0, CsumSt.start 0, 0, false⟩ : CopyRun), some (⟨⟨0, 0, 0, false, 0, 0, 0, 64, 0, false, 0, 4⟩, 0, CsumSt.start 0, 0, false⟩ : CopyRun)] } }).p
    F.GLB_REGION_STATE_ISOLATED (2 ^ regMemory)), (0), (.hostError), (⟨⟨0, 0, 0, false, 0, 0, 0, 64, 0, false, 0, 4⟩, 0,
    CsumSt.start 0, 0, false⟩), by decide +kernel⟩,
    ⟨({ State.reset.on F.MEM_CTL_SCRUB_EN with ipm := { State.reset.ipm with scrubbed := [] } }), (1), by decide +kernel⟩,
    ⟨({ State.reset.on F.MEM_CTL_SCRUB_EN with ipm := { State.reset.ipm with scrubbed := [] } }), (1), by decide +kernel⟩,
    ⟨({ State.reset.on F.MEM_CTL_SCRUB_EN with ipm := { State.reset.ipm with scrubbed := [] } }), (true), (1), (true),
    by decide +kernel⟩,
    ⟨({ State.reset.on F.MEM_CTL_SCRUB_EN with ipm := { State.reset.ipm with scrubbed := [] } }), (true), (1),
    by decide +kernel⟩,
    ⟨(State.reset.off (F.DMA_STATUS_HALTED (0 : Fin 32))), (0), (0), by decide +kernel⟩⟩

theorem witness_CaptureCommandsTakeEffect :
    (∃ (s : State) (rq : Rq) (k : Fin 64) (v : Word), s.reaches rq (R.CAP_BIND k) ∧ s.capBusy k = false ∧ s.bindBad k v =
      false ∧ getBits v 0 1 = 0) ∧
    (∃ (s : State) (rq : Rq) (k : Fin 64) (v : Word), s.reaches rq (R.CAP_BIND k) ∧ s.capBusy k = false ∧ s.bindBad k v =
      false ∧ getBits v 0 1 = 1 ∧ s.capIdle (getBits v 1 2) = true) ∧
    (∃ (s : State) (rq : Rq) (c : Fin 4), s.reaches rq (R.CS_CMD c) ∧ s.capIdle c = true ∧ s.armErr c = 0) ∧
    (∃ (s : State) (rq : Rq) (c : Fin 4), s.reaches rq (R.CS_CMD c) ∧ s.capRuns c = true ∧ s.is (F.CS_CFG_AUTO_UNLOAD c) =
      false) ∧
    (∃ (s : State) (rq : Rq) (c : Fin 4), s.reaches rq (R.CS_CMD c) ∧ s.capRuns c = true ∧ s.is (F.CS_CFG_AUTO_UNLOAD c) =
      true ∧ s.unloadErr c = 0) ∧
    (∃ (s : State) (rq : Rq) (c : Fin 4) (i : Fin 8), s.reaches rq (R.CS_CMD c) ∧ s.capRuns c = true ∧ s.g
      (F.CS_TRG_CFG_KIND c i) = 7) ∧
    (∃ (s : State) (rq : Rq) (c : Fin 4), s.reaches rq (R.CS_CMD c) ∧ s.capState c = 3 ∧ s.unloadErr c = 0) ∧
    (∃ (s : State) (c : Fin 4) (i : Fin 8) (h : Held) (rest : List Held), s.firstDue s.held = some (h, rest) ∧ h.e.code =
      0x41 ∧ h.e.target = c ∧ s.capRuns c = true ∧ s.g (F.CS_TRG_CFG_KIND c i) = 6) ∧
    (∃ (s : State) (c : Fin 4) (h : Held) (rest : List Held), s.firstDue s.held = some (h, rest) ∧ h.e.code = 0x13 ∧
      h.e.target = c ∧ s.capRuns c = true ∧ s.g (F.CS_CFG_SRC c) = 1) ∧
    (∃ (s : State) (c : Fin 4) (h : Held) (rest : List Held), s.firstDue s.held = some (h, rest) ∧ h.e.code = 0x41 ∧
      h.e.target = c ∧ s.capRuns c = false) ∧
    (∃ (s : State) (c : Fin 4) (h : Held) (rest : List Held), s.firstDue s.held = some (h, rest) ∧ h.e.code = 0x13 ∧
      h.e.target = c ∧ (s.capRuns c && s.g (F.CS_CFG_SRC c) == 1) = false) ∧
    (∃ (s : State) (c : Fin 4) (tm : Nat) (stamp : Nat) (rest : List (Nat × Nat)), (s.capOf c).latches = (tm, stamp) ::
      rest ∧ s.capState c = 1 ∧ tm < (s.tb.ticks + 1) * 262144 ∧ (s.capOf c).last = none ∧ s.capLoad ≤ 256000000 ∧
      (s.capOf c).total < (s.capOf c).pre) ∧
    (∃ (s : State) (c : Fin 4) (tm : Nat) (stamp : Nat) (rest : List (Nat × Nat)), (s.capOf c).latches = (tm, stamp) ::
      rest ∧ s.capRuns c = true ∧ tm < (s.tb.ticks + 1) * 262144 ∧ (s.capOf c).last.any (fun l => decide (tm < l + 1000
      * 65536)) = true) ∧
    (∃ (s : State) (c : Fin 4) (tm : Nat) (stamp : Nat) (rest : List (Nat × Nat)), (s.capOf c).latches = (tm, stamp) ::
      rest ∧ s.capRuns c = true ∧ tm < (s.tb.ticks + 1) * 262144 ∧ (s.capOf c).last.all (fun l => decide (l + 1000 *
      65536 ≤ tm)) = true ∧ 256000000 < (s.setCap c
      { s.capOf c with latches := rest, last := some tm, gap := (match (s.capOf c).last with | some l => tm - l | none => 0) }).capLoad) ∧
    (∃ (s : State) (c : Fin 4) (tm : Nat) (stamp : Nat) (rest : List (Nat × Nat)), (s.capOf c).latches = (tm, stamp) ::
      rest ∧ tm < (s.tb.ticks + 1) * 262144 ∧ (s.capOf c).last.all (fun l => decide (l + 1000 * 65536 ≤ tm)) = true ∧
      (s.setCap c
      { s.capOf c with latches := rest, last := some tm, gap := (match (s.capOf c).last with | some l => tm - l | none => 0) }).capLoad
      ≤ 256000000 ∧ s.capState c = 1 ∧ (s.capOf c).pre ≤ (s.capOf c).total ∧ (s.capOf c).hitsAt tm ≠ 0 ∧ (s.maskFails
      stamp (some 0) (s.capOf c).chans ((s.rowValues stamp (s.capOf c).chans).2.map Word.int)) = [] ∧ (s.capOf c).post ≠
      0) ∧
    (∃ (s : State) (c : Fin 4) (tm : Nat) (stamp : Nat) (rest : List (Nat × Nat)), (s.capOf c).latches = (tm, stamp) ::
      rest ∧ tm < (s.tb.ticks + 1) * 262144 ∧ (s.capOf c).last.all (fun l => decide (l + 1000 * 65536 ≤ tm)) = true ∧
      (s.setCap c
      { s.capOf c with latches := rest, last := some tm, gap := (match (s.capOf c).last with | some l => tm - l | none => 0) }).capLoad
      ≤ 256000000 ∧ s.capState c = 2 ∧ (s.maskFails stamp (some ((s.capOf c).after + 1)) (s.capOf c).chans ((s.rowValues
      stamp (s.capOf c).chans).2.map Word.int)) = [] ∧ (s.capOf c).after + 1 < (s.capOf c).post) ∧
    (∃ (s : State) (c : Fin 4) (tm : Nat) (stamp : Nat) (rest : List (Nat × Nat)), (s.capOf c).latches = (tm, stamp) ::
      rest ∧ tm < (s.tb.ticks + 1) * 262144 ∧ (s.capOf c).last.all (fun l => decide (l + 1000 * 65536 ≤ tm)) = true ∧
      (s.setCap c
      { s.capOf c with latches := rest, last := some tm, gap := (match (s.capOf c).last with | some l => tm - l | none => 0) }).capLoad
      ≤ 256000000 ∧ s.capState c = 2 ∧ (s.maskFails stamp (some ((s.capOf c).after + 1)) (s.capOf c).chans ((s.rowValues
      stamp (s.capOf c).chans).2.map Word.int)) = [] ∧ (s.capOf c).post ≤ (s.capOf c).after + 1 ∧ s.is
      (F.CS_CFG_AUTO_UNLOAD c) = false) ∧
    (∃ (s : State) (c : Fin 4) (tm : Nat) (stamp : Nat) (rest : List (Nat × Nat)), (s.capOf c).latches = (tm, stamp) ::
      rest ∧ tm < (s.tb.ticks + 1) * 262144 ∧ (s.capOf c).last.all (fun l => decide (l + 1000 * 65536 ≤ tm)) = true ∧
      (s.setCap c
      { s.capOf c with latches := rest, last := some tm, gap := (match (s.capOf c).last with | some l => tm - l | none => 0) }).capLoad
      ≤ 256000000 ∧ s.capState c = 5 ∧ (s.capOf c).trig = none ∧ (s.capOf c).hitsAt tm = 0 ∧ (∀ i : Fin 8, s.condHit c i
      (s.capOf c).chans (s.capOf c).prev ((s.rowValues stamp (s.capOf c).chans).2.map Word.int) = false) ∧ (s.maskFails
      stamp none (s.capOf c).chans ((s.rowValues stamp (s.capOf c).chans).2.map Word.int)) = []) ∧
    (∃ (s : State) (c : Fin 4) (tm : Nat) (stamp : Nat) (rest : List (Nat × Nat)), (s.capOf c).latches = (tm, stamp) ::
      rest ∧ tm < (s.tb.ticks + 1) * 262144 ∧ (s.capOf c).last.all (fun l => decide (l + 1000 * 65536 ≤ tm)) = true ∧
      (s.setCap c
      { s.capOf c with latches := rest, last := some tm, gap := (match (s.capOf c).last with | some l => tm - l | none => 0) }).capLoad
      ≤ 256000000 ∧ s.capState c = 5 ∧ (s.capOf c).trig = none ∧ (s.capOf c).hitsAt tm ≠ 0) ∧
    (∃ (s : State) (rq : Rq) (k : Fin 64), s.reaches rq (R.CAP_ENV k) ∧ s.capBusy k = false ∧ s.handleErr (s.holder
      (.capChan k)).poolCode false (s.rd (R.CAP_ENV_HANDLE k)) = none ∧ 2 ≤ s.g (F.CAP_ENV_N k) ∧ s.g (F.CAP_ENV_N k) ≤
      4096 ∧ 8 * s.g (F.CAP_ENV_N k) ≤ classSize (handleClass (s.rd (R.CAP_ENV_HANDLE k)))) ∧
    (∃ (s : State) (k : Fin 64), s.g (F.CAP_STATUS_ENV_STATE k) = 1 ∧ s.ipmPoison (s.bufAddr (s.envOf k).handle) (8 *
      (s.envOf k).n) = none) ∧
    (∃ (s : State) (k : Fin 64), s.g (F.CAP_STATUS_ENV_STATE k) = 1) ∧
    (∃ (s : State) (c : Fin 4), s.capState c = 4 ∧ s.clk.memWait = false ∧ s.ipmPoison (s.capBase c) (64 + (s.capOf c).rows
      * rowSize (s.capOf c).chans.length) = none) ∧
    (∃ (s : State) (c : Fin 4) (_r : Fin 16) (_a : BitVec 64), s.capState c = 4 ∧ s.clk.memWait = false) ∧
    (∃ (s : State) (k : Fin 64), s.is (F.CAP_STATUS_FAULT k) = false) :=
  ⟨⟨(State.reset.off (F.CAP_BIND_EN (0 : Fin 64))), (.od 0), (0), (0x30), by decide +kernel⟩,
    ⟨((State.reset.off (F.CAP_BIND_EN (0 : Fin 64))).p (F.CS_STATUS_STATE 0) 0), (.od 0), (0), (0x31), by decide +kernel⟩,
    ⟨(((((((State.reset.p (F.CS_STATUS_STATE (0 : Fin 4)) 0).wr (R.CAP_BIND 0) (BitVec.ofNat 32 (1 + 2 * (0 : Fin
    4).val))).off (F.CAP_ENV_MASK_EN 0)).wr (R.CS_TRG_CFG (0 : Fin 4) 0) 0).p F.MEM_LAYOUT_CAP_AREA 4).wr (R.CS_BUF_BASE
    (0 : Fin 4)) 0).wr (R.CS_BUF_SIZE (0 : Fin 4)) 4), (.od 0), (0), by decide +kernel⟩,
    ⟨((State.reset.p (F.CS_STATUS_STATE (0 : Fin 4)) 1).off (F.CS_CFG_AUTO_UNLOAD (0 : Fin 4))), (.od 0), (0),
    by decide +kernel⟩,
    ⟨({ ((State.reset.p (F.CS_STATUS_STATE (0 : Fin 4)) 1).on (F.CS_CFG_AUTO_UNLOAD (0 : Fin 4))).wr (R.CS_OUT_HANDLE (0 : Fin 4)) 0x01000000 with pol := { State.reset.pol with holders := [(.dma (State.reset.g (F.CS_CFG_DMA (0 : Fin 4))), .lupin)] } }.setBuf
    0 ⟨1, some 0⟩ |>.p (F.POOL_C_CFG_COUNT 0) 4 |>.wr (R.CS_OUT_OFS (0 : Fin 4)) 0), (.od 0), (0), by decide +kernel⟩,
    ⟨((State.reset.p (F.CS_STATUS_STATE (0 : Fin 4)) 1).p (F.CS_TRG_CFG_KIND (0 : Fin 4) (0 : Fin 8)) 7), (.od 0), (0), (0),
    by decide +kernel⟩,
    ⟨({ (State.reset.p (F.CS_STATUS_STATE (0 : Fin 4)) 3).wr (R.CS_OUT_HANDLE (0 : Fin 4)) 0x01000000 with pol := { State.reset.pol with holders := [(.dma (State.reset.g (F.CS_CFG_DMA (0 : Fin 4))), .lupin)] } }.setBuf
    0 ⟨1, some 0⟩ |>.p (F.POOL_C_CFG_COUNT 0) 4 |>.wr (R.CS_OUT_OFS (0 : Fin 4)) 0), (.od 0), (0), by decide +kernel⟩,
    ⟨({ ((State.reset.p (F.CS_STATUS_STATE (0 : Fin 4)) 1).p (F.CS_TRG_CFG_KIND (0 : Fin 4) (0 : Fin 8)) 6) with held := [⟨⟨0, 0, 0x41, (0 : Fin 4), 1, 0, false, false⟩, true, 0, 0, 0⟩], tb := { State.reset.tb with ticks := 100 } }),
    (0), (0), (⟨⟨0, 0, 0x41, (0 : Fin 4), 1, 0, false, false⟩, true, 0, 0, 0⟩), ([]), by decide +kernel⟩,
    ⟨({ ((State.reset.p (F.CS_STATUS_STATE (0 : Fin 4)) 1).p (F.CS_CFG_SRC (0 : Fin 4)) 1) with held := [⟨⟨0, 0, 0x13, (0 : Fin 4), 1, 0, false, false⟩, true, 0, 0, 0⟩], tb := { State.reset.tb with ticks := 100 } }),
    (0), (⟨⟨0, 0, 0x13, (0 : Fin 4), 1, 0, false, false⟩, true, 0, 0, 0⟩), ([]), by decide +kernel⟩,
    ⟨({ ((State.reset.p (F.CS_STATUS_STATE (0 : Fin 4)) 0)) with held := [⟨⟨0, 0, 0x41, (0 : Fin 4), 1, 0, false, false⟩, true, 0, 0, 0⟩], tb := { State.reset.tb with ticks := 100 } }),
    (0), (⟨⟨0, 0, 0x41, (0 : Fin 4), 1, 0, false, false⟩, true, 0, 0, 0⟩), ([]), by decide +kernel⟩,
    ⟨({ ((State.reset.p (F.CS_STATUS_STATE (0 : Fin 4)) 1).p (F.CS_CFG_SRC (0 : Fin 4)) 2) with held := [⟨⟨0, 0, 0x13, (0 : Fin 4), 1, 0, false, false⟩, true, 0, 0, 0⟩], tb := { State.reset.tb with ticks := 100 } }),
    (0), (⟨⟨0, 0, 0x13, (0 : Fin 4), 1, 0, false, false⟩, true, 0, 0, 0⟩), ([]), by decide +kernel⟩,
    ⟨(((((State.reset.p (F.CS_STATUS_STATE (0 : Fin 4)) 1).p (F.CS_STATUS_STATE (((0 : Fin 4).val + 1) % 4)) 0).p
    (F.CS_STATUS_STATE (((0 : Fin 4).val + 2) % 4)) 0).p (F.CS_STATUS_STATE (((0 : Fin 4).val + 3) % 4)) 0).setCap (0 :
    Fin 4)
    { CapSt.reset with latches := ((State.reset.tb.ticks * 262144 : Nat), (State.reset.now : Nat)) :: ([] : List (Nat × Nat)), pre := 5, depth := 10, chans := [0] }),
    (0), (State.reset.tb.ticks * 262144), (State.reset.now), ([]), by decide +kernel⟩,
    ⟨(((((((State.reset.p (F.CS_STATUS_STATE (0 : Fin 4)) 1).p (F.CS_STATUS_STATE (((0 : Fin 4).val + 1) % 4)) 0).p
    (F.CS_STATUS_STATE (((0 : Fin 4).val + 2) % 4)) 0).p (F.CS_STATUS_STATE (((0 : Fin 4).val + 3) % 4)) 0).wr
    (R.CS_TRG_CFG (0 : Fin 4) 0) 0).setCap (0 : Fin 4)
    { CapSt.reset with latches := ((State.reset.tb.ticks * 262144 : Nat), (State.reset.now : Nat)) :: ([] : List (Nat × Nat)), pre := 5, depth := 10, chans := [0], last := some (State.reset.tb.ticks * 262144 : Nat) })),
    (0), (State.reset.tb.ticks * 262144), (State.reset.now), ([]), by decide +kernel⟩,
    ⟨((((((((State.reset.p (F.CS_STATUS_STATE (0 : Fin 4)) 1).p (F.CS_STATUS_STATE (((0 : Fin 4).val + 1) % 4)) 0).p
    (F.CS_STATUS_STATE (((0 : Fin 4).val + 2) % 4)) 0).p (F.CS_STATUS_STATE (((0 : Fin 4).val + 3) % 4)) 0).wr
    (R.CS_TRG_CFG (0 : Fin 4) 0) 0).setCap (0 : Fin 4)
    { CapSt.reset with latches := ((State.reset.tb.ticks * 262144 : Nat), (State.reset.now : Nat)) :: ([] : List (Nat × Nat)), pre := 5, depth := 10, chans := [0] })).setCap
    (((0 : Fin 4).val + 1) % 4) { CapSt.reset with gap := 1, chans := [0] } |>.p (F.CS_STATUS_STATE (((0 : Fin 4).val +
    1) % 4)) 1), (0), (State.reset.tb.ticks * 262144), (State.reset.now), ([]), by decide +kernel⟩,
    ⟨(((((((State.reset.p (F.CS_STATUS_STATE (0 : Fin 4)) 1).p (F.CS_STATUS_STATE (((0 : Fin 4).val + 1) % 4)) 0).p
    (F.CS_STATUS_STATE (((0 : Fin 4).val + 2) % 4)) 0).p (F.CS_STATUS_STATE (((0 : Fin 4).val + 3) % 4)) 0).wr
    (R.CS_TRG_CFG (0 : Fin 4) 0) 0).setCap (0 : Fin 4)
    { CapSt.reset with latches := ((State.reset.tb.ticks * 262144 : Nat), (State.reset.now : Nat)) :: ([] : List (Nat × Nat)), pre := 5, depth := 10, chans := [0], total := 6, post := 3, hits := [((State.reset.tb.ticks * 262144 : Nat), 0)] })),
    (0), (State.reset.tb.ticks * 262144), (State.reset.now), ([]), by decide +kernel⟩,
    ⟨(((((((State.reset.p (F.CS_STATUS_STATE (0 : Fin 4)) 2).p (F.CS_STATUS_STATE (((0 : Fin 4).val + 1) % 4)) 0).p
    (F.CS_STATUS_STATE (((0 : Fin 4).val + 2) % 4)) 0).p (F.CS_STATUS_STATE (((0 : Fin 4).val + 3) % 4)) 0).wr
    (R.CS_TRG_CFG (0 : Fin 4) 0) 0).setCap (0 : Fin 4)
    { CapSt.reset with latches := ((State.reset.tb.ticks * 262144 : Nat), (State.reset.now : Nat)) :: ([] : List (Nat × Nat)), pre := 5, depth := 10, chans := [0], total := 6, post := 3 })),
    (0), (State.reset.tb.ticks * 262144), (State.reset.now), ([]), by decide +kernel⟩,
    ⟨((((((((State.reset.p (F.CS_STATUS_STATE (0 : Fin 4)) 2).p (F.CS_STATUS_STATE (((0 : Fin 4).val + 1) % 4)) 0).p
    (F.CS_STATUS_STATE (((0 : Fin 4).val + 2) % 4)) 0).p (F.CS_STATUS_STATE (((0 : Fin 4).val + 3) % 4)) 0).wr
    (R.CS_TRG_CFG (0 : Fin 4) 0) 0).setCap (0 : Fin 4)
    { CapSt.reset with latches := ((State.reset.tb.ticks * 262144 : Nat), (State.reset.now : Nat)) :: ([] : List (Nat × Nat)), pre := 5, depth := 10, chans := [0], total := 6, post := 1 })).off
    (F.CS_CFG_AUTO_UNLOAD (0 : Fin 4))), (0), (State.reset.tb.ticks * 262144), (State.reset.now), ([]),
    by decide +kernel⟩,
    ⟨(((((((State.reset.p (F.CS_STATUS_STATE (0 : Fin 4)) 5).p (F.CS_STATUS_STATE (((0 : Fin 4).val + 1) % 4)) 0).p
    (F.CS_STATUS_STATE (((0 : Fin 4).val + 2) % 4)) 0).p (F.CS_STATUS_STATE (((0 : Fin 4).val + 3) % 4)) 0).wr
    (R.CS_TRG_CFG (0 : Fin 4) 0) 0).setCap (0 : Fin 4)
    { CapSt.reset with latches := ((State.reset.tb.ticks * 262144 : Nat), (State.reset.now : Nat)) :: ([] : List (Nat × Nat)), pre := 5, depth := 10, chans := [0], total := 6 })),
    (0), (State.reset.tb.ticks * 262144), (State.reset.now), ([]), by decide +kernel⟩,
    ⟨(((((((State.reset.p (F.CS_STATUS_STATE (0 : Fin 4)) 5).p (F.CS_STATUS_STATE (((0 : Fin 4).val + 1) % 4)) 0).p
    (F.CS_STATUS_STATE (((0 : Fin 4).val + 2) % 4)) 0).p (F.CS_STATUS_STATE (((0 : Fin 4).val + 3) % 4)) 0).wr
    (R.CS_TRG_CFG (0 : Fin 4) 0) 0).setCap (0 : Fin 4)
    { CapSt.reset with latches := ((State.reset.tb.ticks * 262144 : Nat), (State.reset.now : Nat)) :: ([] : List (Nat × Nat)), pre := 5, depth := 10, chans := [0], total := 6, hits := [((State.reset.tb.ticks * 262144 : Nat), 0)] })),
    (0), (State.reset.tb.ticks * 262144), (State.reset.now), ([]), by decide +kernel⟩,
    ⟨(((((State.reset.off (F.CAP_BIND_EN (0 : Fin 64))).wr (R.CAP_ENV_HANDLE (0 : Fin 64)) 0x01000000).p (F.CAP_ENV_N (0 :
    Fin 64)) 16).p (F.POOL_C_CFG_COUNT 0) 4).setBuf 0 ⟨1, some 0⟩), (.od 0), (0), by decide +kernel⟩,
    ⟨((State.reset.p (F.CAP_STATUS_ENV_STATE (0 : Fin 64)) 1).p (F.CAP_ENV_N (0 : Fin 64)) 4), (0), by decide +kernel⟩,
    ⟨(State.reset.p (F.CAP_STATUS_ENV_STATE (0 : Fin 64)) 1), (0), by decide +kernel⟩,
    ⟨(State.reset.p (F.CS_STATUS_STATE (0 : Fin 4)) 4), (0), by decide +kernel⟩,
    ⟨(State.reset.p (F.CS_STATUS_STATE (0 : Fin 4)) 4), (0), (0), (1), by decide +kernel⟩,
    ⟨(State.reset.off (F.CAP_STATUS_FAULT (0 : Fin 64))), (0), by decide +kernel⟩⟩

theorem witness_PlantEthernetPortsFollowTheirRules :
    (∃ (s : State) (rq : Rq) (p : Fin 2) (v : Word), s.reaches rq (R.ETH_CFG p) ∧ inRange (R.ETH_CFG p) v = true ∧ s.is
      (F.ETH_STATUS_LINK p) = false) ∧
    (∃ (s : State) (rq : Rq) (p : Fin 2) (v : Word), s.reaches rq (R.ETH_CFG p) ∧ s.is (F.ETH_STATUS_LINK p) = true ∧
      getBits v 1 4 ≠ getBits (s.rd (R.ETH_CFG p)) 1 4) ∧
    (∃ (s : State) (p : Fin 2) (_rate : Fin 3) (_align : Fin 65536), s.is (F.ETH_STATUS_LINK p) = true) ∧
    (∃ (s : State) (p : Fin 2) (rate : Fin 3) (_align : Fin 65536), s.is (F.ETH_CFG_EN p) = true ∧ s.rateFits p rate = true
      ∧ s.is (F.ETH_STATUS_LINK p) = false ∧ s.clk.netDown = false) ∧
    (∃ (s : State) (p : Fin 2) (_ok : Bool), s.g (F.ETH_STATUS_VERIFY p) = 1) ∧
    (∃ (s : State) (p : Fin 2) (f : RxFrame), s.is (F.ETH_STATUS_LINK p) = true ∧ s.is (F.ETH_CFG_EN p) = true ∧ f.good =
      true ∧ 64 ≤ f.wire ∧ f.wire ≤ 2000 ∧ s.stranger p f ≠ 0 ∧ s.stranger p f ≠ 3 ∧ (s.ethOf p).hold = false) ∧
    (∃ (s : State) (p : Fin 2) (f : RxFrame), s.is (F.ETH_STATUS_LINK p) = true ∧ s.is (F.ETH_CFG_EN p) = true ∧ f.good =
      true ∧ 64 ≤ f.wire ∧ f.wire ≤ 2000 ∧ s.stranger p f = 0 ∧ s.macsec p = false ∧ (parseFrame f.bytes).src / 2 ^ 40 %
      2 = 0 ∧ s.fdb.any (fun x => x.mac == (parseFrame f.bytes).src) = false ∧ s.fdb.length < 1024) ∧
    (∃ (s : State) (p : Fin 2) (f : RxFrame), s.is (F.ETH_STATUS_LINK p) = true ∧ s.is (F.ETH_CFG_EN p) = true ∧ (f.good =
      false ∨ f.wire < 64 ∨ 2000 < f.wire)) ∧
    (∃ (s : State) (p : Fin 2) (f : RxFrame), s.is (F.ETH_STATUS_LINK p) = true ∧ s.is (F.ETH_CFG_EN p) = true ∧ f.good =
      true ∧ 64 ≤ f.wire ∧ f.wire ≤ 2000 ∧ s.stranger p f ≠ 0 ∧ s.stranger p f ≠ 3 ∧ (s.ethOf p).hold = true) ∧
    (∃ (s : State) (p : Fin 2) (f : RxFrame) (tc : Nat), s.is (F.ETH_STATUS_LINK p) = true ∧ s.is (F.ETH_CFG_EN p) = true ∧
      f.good = true ∧ 64 ≤ f.wire ∧ f.wire ≤ 2000 ∧ s.stranger p f = 3 ∧ tc = (s.classify (parseFrame f.bytes)).1) ∧
    (∃ (s : State) (p : Fin 2) (f : RxFrame) (g : SecTag) (c : Fin 8) (u : State), s.is (F.ETH_STATUS_LINK p) = true ∧ s.is
      (F.ETH_CFG_EN p) = true ∧ f.good = true ∧ 64 ≤ f.wire ∧ f.wire ≤ 2000 ∧ s.macsec p = true ∧ s.stranger p f = 0 ∧
      f.sec = some g ∧ g.rxsc = some c ∧ (g.enc = true ∨ testBit (s.g (F.MSEC_CFG_INTEG_ONLY p)) (s.classify (parseFrame
      f.bytes)).1 = true) ∧ u = s.setEth p
      { s.ethOf p with rxPn := tabSet (fun _ => 0) (s.ethOf p).rxPn (4 * c.val + g.an.val) (max (tabGet (fun _ => 0) (s.ethOf p).rxPn (4 * c.val + g.an.val)) (g.pn.toNat + 1)) }) ∧
    (∃ (s : State) (p : Fin 2) (f : RxFrame) (g : SecTag) (c : Fin 8), s.is (F.ETH_STATUS_LINK p) = true ∧ s.is
      (F.ETH_CFG_EN p) = true ∧ f.good = true ∧ 64 ≤ f.wire ∧ f.wire ≤ 2000 ∧ s.macsec p = true ∧ s.stranger p f = 0 ∧
      f.sec = some g ∧ g.rxsc = some c ∧ g.enc = false ∧ testBit (s.g (F.MSEC_CFG_INTEG_ONLY p)) (s.classify (parseFrame
      f.bytes)).1 = false) ∧
    (∃ (s : State) (p : Fin 2) (f : RxFrame), s.is (F.ETH_STATUS_LINK p) = true ∧ s.is (F.ETH_CFG_EN p) = true ∧ f.good =
      true ∧ 64 ≤ f.wire ∧ f.wire ≤ 2000 ∧ s.stranger p f = 0 ∧ s.macsec p = false) ∧
    (∃ (s : State) (p : Fin 2), (s.ethOf p).hold = true ∧ (s.ethOf p).holdTick + 250000 * s.g (F.ETH_CFG_STRANGER_HOLD p) ≤
      s.tb.ticks ∧ (s.ethOf p).since = 0) ∧
    (∃ (s : State) (p : Fin 2), (s.ethOf p).hold = true ∧ (s.ethOf p).holdTick + 250000 * s.g (F.ETH_CFG_STRANGER_HOLD p) ≤
      s.tb.ticks ∧ (s.ethOf p).since ≠ 0) ∧
    (∃ (s : State) (_mac : BitVec 48), s.g F.ETH_SW_CFG_AGE ≠ 0) ∧
    (∃ (s : State) (rq : Rq) (p : Fin 2) (_an : Fin 4) (_rxsc : Fin 8), s.reaches rq (R.MSEC_SA_CTL p)) ∧
    (∃ (s : State) (rq : Rq) (p : Fin 2) (_an : Fin 4) (_rxsc : Fin 8), s.reaches rq (R.MSEC_SA_CTL p)) ∧
    (∃ (s : State) (rq : Rq), s.reaches rq R.ETH_SW_CFG ∧ s.is F.ETH_MDIO_BUSY = false) ∧
    (∃ (s : State) (_data : BitVec 16), s.is F.ETH_MDIO_BUSY = true) ∧
    (∃ (s : State) (p : Fin 3), (s.ethOf p).fault = false) :=
  ⟨⟨(State.reset.off (F.ETH_STATUS_LINK (0 : Fin 2))), (.od 0), (0), (0x00000A31), by decide +kernel⟩,
    ⟨((State.reset.on (F.ETH_STATUS_LINK (0 : Fin 2))).p (F.ETH_CFG_MODE (0 : Fin 2)) 2), (.od 0), (0), (3),
    by decide +kernel⟩,
    ⟨(State.reset.on (F.ETH_STATUS_LINK (0 : Fin 2))), (0), (0), (0), by decide +kernel⟩,
    ⟨(((State.reset.on (F.ETH_CFG_EN (0 : Fin 2))).p (F.ETH_CFG_MODE (0 : Fin 2)) 1).off (F.ETH_STATUS_LINK (0 : Fin 2))),
    (0), (2), (0), by decide +kernel⟩,
    ⟨(State.reset.p (F.ETH_STATUS_VERIFY (0 : Fin 2)) 1), (0), (true), by decide +kernel⟩,
    ⟨((((State.reset.on (F.ETH_STATUS_LINK (0 : Fin 2))).on (F.ETH_CFG_EN (0 : Fin 2))).on (F.ETH_CFG_MACSEC_EN (0 : Fin
    2))).setEth (0 : Fin 2) EthSt.reset), (0), (⟨[0x12, 1, 2, 3, 4, 5, 0x10, 7, 8, 9, 10, 11, 8, 6] ++ List.replicate 46
    0, 64, none, true⟩), by decide +kernel⟩,
    ⟨({ (((State.reset.on (F.ETH_STATUS_LINK (0 : Fin 2))).on (F.ETH_CFG_EN (0 : Fin 2))).off (F.ETH_CFG_MACSEC_EN (0 : Fin 2))).off (F.MSEC_CFG_ALLOW_EN (0 : Fin 2)) with fdb := [] }),
    (0), (⟨[0x12, 1, 2, 3, 4, 5, 0x10, 7, 8, 9, 10, 11, 8, 6] ++ List.replicate 46 0, 64, none, true⟩),
    by decide +kernel⟩,
    ⟨((State.reset.on (F.ETH_STATUS_LINK (0 : Fin 2))).on (F.ETH_CFG_EN (0 : Fin 2))), (0), (⟨[0x12, 1, 2, 3, 4, 5, 0x10, 7,
    8, 9, 10, 11, 8, 6] ++ List.replicate 46 0, 64, none, false⟩), by decide +kernel⟩,
    ⟨((((State.reset.on (F.ETH_STATUS_LINK (0 : Fin 2))).on (F.ETH_CFG_EN (0 : Fin 2))).on (F.ETH_CFG_MACSEC_EN (0 : Fin
    2))).setEth (0 : Fin 2) { EthSt.reset with hold := true }), (0), (⟨[0x12, 1, 2, 3, 4, 5, 0x10, 7, 8, 9, 10, 11, 8,
    6] ++ List.replicate 46 0, 64, none, true⟩), by decide +kernel⟩,
    ⟨((((State.reset.on (F.ETH_STATUS_LINK (0 : Fin 2))).on (F.ETH_CFG_EN (0 : Fin 2))).on (F.ETH_CFG_MACSEC_EN (0 : Fin
    2))).setEth (0 : Fin 2) { EthSt.reset with rxPn := [(5, 2)] }), (0), (⟨[0x12, 1, 2, 3, 4, 5, 0x10, 7, 8, 9, 10, 11,
    8, 6] ++ List.replicate 46 0, 64, some ⟨some 1, 1, 5, true, false⟩, true⟩), ((State.reset.classify (parseFrame
    (⟨[0x12, 1, 2, 3, 4, 5, 0x10, 7, 8, 9, 10, 11, 8, 6] ++ List.replicate 46 0, 64, some ⟨some 1, 1, 5, true, false⟩,
    true⟩ : RxFrame).bytes)).1), by decide +kernel⟩,
    ⟨((((State.reset.on (F.ETH_STATUS_LINK (0 : Fin 2))).on (F.ETH_CFG_EN (0 : Fin 2))).on (F.ETH_CFG_MACSEC_EN (0 : Fin
    2))).setEth (0 : Fin 2) { EthSt.reset with rxPn := [(5, 2)] }), (0), (⟨[0x12, 1, 2, 3, 4, 5, 0x10, 7, 8, 9, 10, 11,
    8, 6] ++ List.replicate 46 0, 64, some ⟨some 1, 1, 5, true, true⟩, true⟩), (⟨some 1, 1, 5, true, true⟩), (1),
    (((((State.reset.on (F.ETH_STATUS_LINK (0 : Fin 2))).on (F.ETH_CFG_EN (0 : Fin 2))).on (F.ETH_CFG_MACSEC_EN (0 : Fin
    2))).setEth (0 : Fin 2) { EthSt.reset with rxPn := [(5, 2)] }).setEth (0 : Fin 2)
    { EthSt.reset with rxPn := [(5, 6)] }),
    ⟨by decide +kernel, by decide +kernel, by decide +kernel, by decide +kernel, by decide +kernel, by decide +kernel, by decide +kernel, rfl, rfl, by decide +kernel, rfl⟩⟩,
    ⟨(((((State.reset.on (F.ETH_STATUS_LINK (0 : Fin 2))).on (F.ETH_CFG_EN (0 : Fin 2))).on (F.ETH_CFG_MACSEC_EN (0 : Fin
    2))).setEth (0 : Fin 2) { EthSt.reset with rxPn := [(5, 2)] }).p (F.MSEC_CFG_INTEG_ONLY (0 : Fin 2)) 0), (0),
    (⟨[0x12, 1, 2, 3, 4, 5, 0x10, 7, 8, 9, 10, 11, 8, 6] ++ List.replicate 46 0, 64, some ⟨some 1, 1, 5, false, true⟩,
    true⟩), (⟨some 1, 1, 5, false, true⟩), (1), by decide +kernel⟩,
    ⟨((((State.reset.on (F.ETH_STATUS_LINK (0 : Fin 2))).on (F.ETH_CFG_EN (0 : Fin 2))).off (F.ETH_CFG_MACSEC_EN (0 : Fin
    2))).off (F.MSEC_CFG_ALLOW_EN (0 : Fin 2))), (0), (⟨[0x12, 1, 2, 3, 4, 5, 0x10, 7, 8, 9, 10, 11, 8, 6] ++
    List.replicate 46 0, 64, none, true⟩), by decide +kernel⟩,
    ⟨({ State.reset.setEth (0 : Fin 2) { EthSt.reset with hold := true } with tb := { State.reset.tb with ticks := 100000000000 } }),
    (0), by decide +kernel⟩,
    ⟨({ State.reset.setEth (0 : Fin 2) { EthSt.reset with hold := true, since := 4 } with tb := { State.reset.tb with ticks := 100000000000 } }),
    (0), by decide +kernel⟩,
    ⟨({ (State.reset.p F.ETH_SW_CFG_AGE 1) with fdb := [⟨7, 0, 0⟩, ⟨(1 : BitVec 48).toNat, 1, 0⟩], tb := { State.reset.tb with ticks := State.reset.tb.ticks % 500000000 } }),
    (1), by decide +kernel⟩,
    ⟨(State.reset), (.od 0), (0), (0), (0), by decide +kernel⟩,
    ⟨(State.reset), (.od 0), (0), (0), (0), by decide +kernel⟩,
    ⟨(State.reset.off F.ETH_MDIO_BUSY), (.od 0), by decide +kernel⟩,
    ⟨(State.reset.on F.ETH_MDIO_BUSY), (1), by decide +kernel⟩,
    ⟨(State.reset), (0), by decide +kernel⟩⟩

theorem witness_GatesAndSlotsFollowTheirRules :
    (∃ (s : State) (rq : Rq) (p : Fin 3), s.reaches rq (R.TSN_CTL p) ∧ s.adminBad p = true) ∧
    (∃ (s : State) (rq : Rq) (p : Fin 3) (ct : Nat), s.reaches rq (R.TSN_CTL p) ∧ s.adminBad p = false ∧ ct = cycleFrom
      (s.adminBase p) (s.rd (R.TSN_CYCLE p)).toNat (s.nowNs + 10000)) ∧
    (∃ (s : State) (p : Fin 3) (ct : Nat), (s.ethOf p).ct = some ct ∧ ct ≤ s.nowNs ∧ (s.ethOf p).next.length ≤ 256) ∧
    (∃ (s : State) (p : Fin 3), s.operOn p = true ∧ (s.ethOf p).entryEnd ≤ s.nowNs ∧ (s.ethOf p).wrap = false ∧ (s.ethOf
      p).idx + 1 < s.g (F.TSN_STATUS_OPER_LEN p) ∧ s.entryTime p ((s.ethOf p).idx + 1) ≠ 0) ∧
    (∃ (s : State) (p : Fin 3), s.operOn p = true ∧ (s.ethOf p).entryEnd ≤ s.nowNs ∧ (s.ethOf p).wrap = false ∧ (s.ethOf
      p).idx + 1 = s.g (F.TSN_STATUS_OPER_LEN p) ∧ (s.ethOf p).ct = none) ∧
    (∃ (s : State) (p : Fin 3), s.operOn p = true ∧ (s.ethOf p).entryEnd ≤ s.nowNs ∧ ((s.ethOf p).wrap = true ∨ s.g
      (F.TSN_STATUS_OPER_LEN p) ≤ (s.ethOf p).idx + 1 ∨ s.entryTime p ((s.ethOf p).idx + 1) = 0) ∧ (s.ethOf p).ct.all
      (fun ct => decide ((s.ethOf p).entryEnd + (s.ethOf p).ext < ct)) = true) ∧
    (∃ (s : State) (p : Fin 3) (ct : Nat), s.operOn p = true ∧ (s.ethOf p).entryEnd ≤ s.nowNs ∧ ((s.ethOf p).wrap = true ∨
      s.g (F.TSN_STATUS_OPER_LEN p) ≤ (s.ethOf p).idx + 1 ∨ s.entryTime p ((s.ethOf p).idx + 1) = 0) ∧ (s.ethOf p).ct =
      some ct ∧ ct ≤ (s.ethOf p).entryEnd + (s.ethOf p).ext) ∧
    (∃ (s : State) (p : Fin 3) (f : TxFrame), (s.ethOf p).cur = some f ∧ s.sentAll p f = true ∧ s.macsec p = false) ∧
    (∃ (s : State) (p : Fin 3) (f : TxFrame) (an : Nat), (s.ethOf p).cur = some f ∧ s.sentAll p f = true ∧ s.macsec p =
      true ∧ (s.ethOf p).txAn = some an) ∧
    (∃ (s : State) (p : Fin 2) (k : Fin 32) (time : Nat) (f : TxFrame), (s.ethOf p).launches.find? (s.launchReady p) = some
      f ∧ (s.ethOf p).cur = none ∧ s.canProtect p = true ∧ f.launch = some (k.val, time)) ∧
    (∃ (s : State) (p : Fin 2) (k : Fin 32) (time : Nat) (f : TxFrame), (s.ethOf p).launches.find? (s.launchReady p) = some
      f ∧ (s.ethOf p).cur.isSome = true ∧ s.canProtect p = true ∧ f.launch = some (k.val, time)) ∧
    (∃ (s : State) (rq : Rq) (p : Fin 2) (off : BitVec 16) (_v : Word) (m : Nat), (s.areaSlots rq p (off.toNat / 4 *
      4)).isEmpty = false ∧ s.dropReason rq (areaWord p (off.toNat / 4 * 4)) = none ∧ m = (List.range 4).foldl (fun a b
      => a + 2 ^ b * bit ((s.areaSlots rq p (off.toNat / 4 * 4)).any fun k => s.byteIn p k ((off.toNat / 4 * 4) + b))) 0
      ∧ s.slotBusy p (off.toNat / 4 * 4) = false) ∧
    (∃ (s : State) (rq : Rq) (p : Fin 2) (off : BitVec 16) (_v : Word) (m : Nat), (s.areaSlots rq p (off.toNat / 4 *
      4)).isEmpty = false ∧ s.dropReason rq (areaWord p (off.toNat / 4 * 4)) = none ∧ m = (List.range 4).foldl (fun a b
      => a + 2 ^ b * bit ((s.areaSlots rq p (off.toNat / 4 * 4)).any fun k => s.byteIn p k ((off.toNat / 4 * 4) + b))) 0
      ∧ s.slotBusy p (off.toNat / 4 * 4) = true) ∧
    (∃ (s : State) (rq : Rq) (p : Fin 2) (off : BitVec 16) (_v : Word), (s.areaSlots rq p (off.toNat / 4 * 4)).isEmpty =
      true) :=
  ⟨⟨(State.reset.p (F.TSN_CTL_LEN (0 : Fin 3)) 0), (.od 0), (0), by decide +kernel⟩,
    ⟨(((((State.reset.p (F.TSN_CTL_LEN (0 : Fin 3)) 1).wr (R.TSN_ADMIN_INTERVAL (0 : Fin 3) 0) 40).wr (R.TSN_CYCLE (0 : Fin
    3)) 4000).on F.TB_STATUS_TIME_VALID)), (.od 0), (0), (cycleFrom (State.reset.adminBase (0 : Fin 3)) 4000
    (State.reset.nowNs + 10000)), by decide +kernel⟩,
    ⟨(State.reset.setEth (0 : Fin 3)
    { EthSt.reset with ct := some (0 : Nat), next := [(3, 77), (5, 88)], nextCycle := 4000, nextBase := 8 }), (0), (0),
    by decide +kernel⟩,
    ⟨(((((State.reset.on (F.TSN_STATUS_OPER_ACTIVE (0 : Fin 3))).p (F.TSN_STATUS_OPER_LEN (0 : Fin 3)) 2).wr
    (R.TSN_OPER_INTERVAL (0 : Fin 3) 0) 40).wr (R.TSN_OPER_INTERVAL (0 : Fin 3) 1) 40).setEth (0 : Fin 3)
    { EthSt.reset with cycle := 100, idx := 0 }), (0), by decide +kernel⟩,
    ⟨(((((State.reset.on (F.TSN_STATUS_OPER_ACTIVE (0 : Fin 3))).p (F.TSN_STATUS_OPER_LEN (0 : Fin 3)) 2).wr
    (R.TSN_OPER_INTERVAL (0 : Fin 3) 0) 40).wr (R.TSN_OPER_INTERVAL (0 : Fin 3) 1) 40).setEth (0 : Fin 3)
    { EthSt.reset with cycle := 100, idx := 1 }), (0), by decide +kernel⟩,
    ⟨(((((State.reset.on (F.TSN_STATUS_OPER_ACTIVE (0 : Fin 3))).p (F.TSN_STATUS_OPER_LEN (0 : Fin 3)) 2).wr
    (R.TSN_OPER_INTERVAL (0 : Fin 3) 0) 40).wr (R.TSN_OPER_INTERVAL (0 : Fin 3) 1) 40).setEth (0 : Fin 3)
    { EthSt.reset with cycle := 100, idx := 1, ext := 3, ct := some 20 }), (0), by decide +kernel⟩,
    ⟨(((((State.reset.on (F.TSN_STATUS_OPER_ACTIVE (0 : Fin 3))).p (F.TSN_STATUS_OPER_LEN (0 : Fin 3)) 2).wr
    (R.TSN_OPER_INTERVAL (0 : Fin 3) 0) 40).wr (R.TSN_OPER_INTERVAL (0 : Fin 3) 1) 40).setEth (0 : Fin 3)
    { EthSt.reset with cycle := 100, idx := 1, ext := 30, ct := some 20 }), (0), (20), by decide +kernel⟩,
    ⟨({ ((State.reset.off (F.ETH_CFG_MACSEC_EN 0)).off (F.ETH_CFG_MACSEC_EN 1)).setEth (0 : Fin 3) { EthSt.reset with cur := some (⟨List.replicate 60 3, 2, none, none, 0, false⟩ : TxFrame) } with tb := { State.reset.tb with ticks := 100000000000 } }),
    (0), (⟨List.replicate 60 3, 2, none, none, 0, false⟩), by decide +kernel⟩,
    ⟨({ (State.reset.on (F.ETH_CFG_MACSEC_EN (0 : Fin 3))).setEth (0 : Fin 3) { EthSt.reset with cur := some (⟨List.replicate 60 3, 2, none, none, 0, false⟩ : TxFrame), txAn := some (1 : Nat), txPn := 9 } with tb := { State.reset.tb with ticks := 100000000000 } }),
    (0), (⟨List.replicate 60 3, 2, none, none, 0, false⟩), (1), by decide +kernel⟩,
    ⟨(((State.reset.on (F.ETH_STATUS_LINK (0 : Fin 2))).off (F.ETH_CFG_MACSEC_EN (0 : Fin 2))).setEth (0 : Fin 2)
    { EthSt.reset with launches := [(⟨List.replicate 60 3, 2, some ((0 : Fin 32).val, (5 : Nat)), none, 0, false⟩ : TxFrame)] }),
    (0), (0), (5), (⟨List.replicate 60 3, 2, some ((0 : Fin 32).val, (5 : Nat)), none, 0, false⟩), by decide +kernel⟩,
    ⟨(((((State.reset.on (F.ETH_STATUS_LINK (0 : Fin 2))).off (F.ETH_CFG_MACSEC_EN (0 : Fin 2))).setEth (0 : Fin 2)
    { EthSt.reset with launches := [(⟨List.replicate 60 3, 2, some ((0 : Fin 32).val, (5 : Nat)), none, 0, false⟩ : TxFrame)], cur := some ⟨List.replicate 300 3, 0, none, none, 0, false⟩ }).p
    (F.ETH_STATUS_VERIFY (0 : Fin 2)) 2).on (F.TSN_PREEMPT_EN (0 : Fin 2)) |>.p (F.TSN_PREEMPT_PREEMPTABLE (0 : Fin 2))
    255), (0), (0), (5), (⟨List.replicate 60 3, 2, some ((0 : Fin 32).val, (5 : Nat)), none, 0, false⟩),
    by decide +kernel⟩,
    ⟨((State.reset.wr (R.ETH_SLOT_BUF (0 : Fin 2) 0) 0x01000000).setEth (0 : Fin 2) EthSt.reset |>.p (F.ETH_SLOT_BUF_OFS (0
    : Fin 2) 0) 0 |>.p (F.ETH_SLOT_BUF_LEN (0 : Fin 2) 0) 1000), (.od 0), (0), (64), (5), (15), by decide +kernel⟩,
    ⟨((State.reset.wr (R.ETH_SLOT_BUF (0 : Fin 2) 0) 0x01000000).setEth (0 : Fin 2)
    { EthSt.reset with cur := some ⟨List.replicate 300 3, 0, some (0, 5), none, 0, false⟩ } |>.p (F.ETH_SLOT_BUF_OFS (0
    : Fin 2) 0) 0 |>.p (F.ETH_SLOT_BUF_LEN (0 : Fin 2) 0) 1000), (.od 0), (0), (64), (5), (15), by decide +kernel⟩,
    ⟨(State.reset), (.od 0), (0), (65000), (5), by decide +kernel⟩⟩

theorem witness_CanControllersFollowTheirRules :
    (∃ (s : State) (rq : Rq) (c : Fin 4) (_idle : Bool), s.reaches rq (R.CAN_CTL c) ∧ inRange (R.CAN_CTL c) (putBits (s.rd
      (R.CAN_CTL c)) 0 1 0) = true ∧ s.is (F.CAN_CTL_INIT c) = true ∧ s.rateRefused c = false) ∧
    (∃ (s : State) (rq : Rq) (c : Fin 4) (_idle : Bool), s.reaches rq (R.CAN_CTL c) ∧ inRange (R.CAN_CTL c) (putBits (s.rd
      (R.CAN_CTL c)) 0 1 0) = true ∧ s.is (F.CAN_CTL_INIT c) = true ∧ s.rateRefused c = true) ∧
    (∃ (s : State) (rq : Rq) (c : Fin 4), s.reaches rq (R.CAN_CTL c) ∧ inRange (R.CAN_CTL c) (putBits (s.rd (R.CAN_CTL c))
      0 1 1) = true ∧ s.is (F.CAN_CTL_INIT c) = false) ∧
    (∃ (s : State) (rq : Rq) (c : Fin 4) (_bufs : Word) (_idle : Bool), s.reaches rq (R.CAN_TXB_REQ c) ∧ s.canLive c = false
      ∧ (∀ b : Fin 32, s.fdRefused c (canEb c b 0) = false)) ∧
    (∃ (s : State) (rq : Rq) (c : Fin 4) (b : Fin 32) (bufs : Word), s.reaches rq (R.CAN_TXB_REQ c) ∧ bufs = BitVec.ofNat
      32 (2 ^ b.val) ∧ s.canLive c = true ∧ (s.canOf c).cur = none ∧ (s.canOf c).wait = none ∧ (s.canOf c).order = [] ∧
      s.rd (R.CAN_TXB_REQ c) = 0 ∧ s.fdRefused c (canEb c b 0) = false ∧ s.is (F.CAN_TT_STATUS_RUNNING c) = false) ∧
    (∃ (s : State) (rq : Rq) (c : Fin 4) (_bufs : Word) (_idle : Bool), s.reaches rq (R.CAN_TXB_REQ c) ∧ s.canLive c = true ∧
      (∀ b : Fin 32, s.fdRefused c (canEb c b 0) = false)) ∧
    (∃ (s : State) (rq : Rq) (c : Fin 4) (_bufs : Word), s.reaches rq (R.CAN_TXB_CANCEL c)) ∧
    (∃ (s : State) (c : Fin 4) (b : Fin 32) (retry : Nat), (s.canOf c).cur = some (.eb b retry) ∧ (s.canOf c).writes = [] ∧
      s.g (F.CAN_CTL_LOOP c) = 0) ∧
    (∃ (s : State) (c : Fin 4) (k : CanSrc), (s.canOf c).cur = some k ∧ s.g (F.CAN_CTL_LOOP c) = 0) ∧
    (∃ (s : State) (c : Fin 4) (k : CanSrc), (s.canOf c).cur = some k ∧ s.g (F.CAN_CTL_LOOP c) = 1) ∧
    (∃ (s : State) (c : Fin 4) (k : CanSrc), (s.canOf c).cur = some k ∧ s.g (F.CAN_CTL_LOOP c) = 2) ∧
    (∃ (s : State) (c : Fin 4) (b : Nat), (s.canOf c).cur = some (.tt b) ∧ (s.canOf c).writes = [] ∧ s.g (F.CAN_CTL_LOOP c)
      ≠ 1) ∧
    (∃ (s : State) (c : Fin 4) (e : CanErr) (k : CanSrc), (s.canOf c).cur = some k ∧ (decide (e.kind = .ack) && s.g
      (F.CAN_CTL_LOOP c) != 0) = false ∧ s.canLive c = false ∧ s.g (F.CAN_ERRCNT_TEC c) + (if e.special then 0 else 8) ≤
      255 ∧ (s.canOf c).writes = []) ∧
    (∃ (s : State) (c : Fin 4) (e : CanErr) (k : CanSrc), (s.canOf c).cur = some k ∧ (decide (e.kind = .ack) && s.g
      (F.CAN_CTL_LOOP c) != 0) = false ∧ 255 < s.g (F.CAN_ERRCNT_TEC c) + (if e.special then 0 else 8) ∧ (s.canOf
      c).writes = []) ∧
    (∃ (s : State) (c : Fin 4) (b : Fin 32) (retry : Nat), (s.canOf c).cur = some (.eb b retry) ∧ (s.canOf c).writes = [] ∧
      s.g (F.CAN_CTL_LOOP c) = 0 ∧ s.ebPending c b = true ∧ tabGet (fun _ => 0) (s.canOf c).fails b < retry) ∧
    (∃ (s : State) (c : Fin 4) (b : Fin 32) (retry : Nat), (s.canOf c).cur = some (.eb b retry) ∧ (s.canOf c).writes = [] ∧
      s.g (F.CAN_CTL_LOOP c) = 0 ∧ retry ≤ tabGet (fun _ => 0) (s.canOf c).fails b) ∧
    (∃ (s : State) (c : Fin 4), s.g (F.CAN_STATUS_STATE c) = 3 ∧ s.is (F.CAN_CTL_AUTO_RECOVER c) = true ∧ (s.canOf
      c).offTick * 262144 + 1408 * s.bitTime c ≤ s.tb.ticks * 262144) ∧
    (∃ (s : State) (rq : Rq) (c : Fin 4), s.reaches rq (R.CAN_CTL c) ∧ inRange (R.CAN_CTL c) (putBits (s.rd (R.CAN_CTL c))
      9 1 1) = true ∧ s.is (F.CAN_STATUS_FAULT c) = false ∧ s.is (F.CAN_CTL_TT_EN c) = false ∧ s.ttRefused c = false) ∧
    (∃ (s : State) (rq : Rq) (c : Fin 4), s.reaches rq (R.CAN_CTL c) ∧ inRange (R.CAN_CTL c) (putBits (s.rd (R.CAN_CTL c))
      9 1 1) = true ∧ s.is (F.CAN_STATUS_FAULT c) = false ∧ s.is (F.CAN_CTL_TT_EN c) = false ∧ s.ttRefused c = true) ∧
    (∃ (s : State) (rq : Rq) (c : Fin 4), s.reaches rq (R.CAN_CTL c) ∧ inRange (R.CAN_CTL c) (putBits (s.rd (R.CAN_CTL c))
      9 1 0) = true ∧ s.is (F.CAN_STATUS_FAULT c) = false) ∧
    (∃ (s : State) (c : Fin 4), s.is (F.CAN_STATUS_FAULT c) = false) :=
  ⟨⟨(((State.reset.wr (R.CAN_CTL (0 : Fin 4)) 1).p (F.CAN_ARBIT_N_QPRE (0 : Fin 4)) 1).p (F.CAN_ARBIT_N_QBEFORE (0 : Fin
    4)) 100), (.od 0), (0), (true), by decide +kernel⟩,
    ⟨((State.reset.wr (R.CAN_CTL (0 : Fin 4)) 1).wr (R.CAN_ARBIT (0 : Fin 4)) 0), (.od 0), (0), (true), by decide +kernel⟩,
    ⟨((State.reset.wr (R.CAN_CTL (0 : Fin 4)) 0).on (F.CAN_STATUS_FAULT (0 : Fin 4))), (.od 0), (0), by decide +kernel⟩,
    ⟨((State.reset.wr (R.CAN_CTL (0 : Fin 4)) 3)), (.od 0), (0), (5), (true), by decide +kernel⟩,
    ⟨((((((State.reset.wr (R.CAN_CTL (0 : Fin 4)) 2).off (F.CAN_STATUS_FAULT (0 : Fin 4))).p (F.CAN_STATUS_STATE (0 : Fin
    4)) 1).wr (R.CAN_TXB_REQ (0 : Fin 4)) 0).off (F.CAN_TT_STATUS_RUNNING (0 : Fin 4))).setCan (0 : Fin 4) CanSt.reset),
    (.od 0), (0), (0), (BitVec.ofNat 32 (2 ^ (0 : Fin 32).val)), by decide +kernel⟩,
    ⟨((((((State.reset.wr (R.CAN_CTL (0 : Fin 4)) 2).wr (R.CAN_TXB_REQ (0 : Fin 4)) 4).off (F.CAN_STATUS_FAULT (0 : Fin
    4))).p (F.CAN_STATUS_STATE (0 : Fin 4)) 1).setCan (0 : Fin 4) CanSt.reset)), (.od 0), (0), (0x101), (true),
    by decide +kernel⟩,
    ⟨(State.reset.wr (R.CAN_TXB_REQ (0 : Fin 4)) 0xFF0), (.od 0), (0), (5), by decide +kernel⟩,
    ⟨((((State.reset.p (F.CAN_CTL_LOOP (0 : Fin 4)) 0).wr (R.CAN_TXB_REQ (0 : Fin 4)) 0x1F).setCan (0 : Fin 4)
    { CanSt.reset with cur := some (.eb (0 : Fin 32) (1 : Nat)) })), (0), (0), (1), by decide +kernel⟩,
    ⟨(((State.reset.p (F.CAN_CTL_LOOP (0 : Fin 4)) 0).setCan (0 : Fin 4) { CanSt.reset with cur := some (.tt 2) })), (0),
    (.tt 2), by decide +kernel⟩,
    ⟨(((State.reset.p (F.CAN_CTL_LOOP (0 : Fin 4)) 1).setCan (0 : Fin 4) { CanSt.reset with cur := some (.tt 2) })), (0),
    (.tt 2), by decide +kernel⟩,
    ⟨(((State.reset.p (F.CAN_CTL_LOOP (0 : Fin 4)) 2).setCan (0 : Fin 4) { CanSt.reset with cur := some (.tt 2) })), (0),
    (.tt 2), by decide +kernel⟩,
    ⟨(((State.reset.p (F.CAN_CTL_LOOP (0 : Fin 4)) 0).setCan (0 : Fin 4) { CanSt.reset with cur := some (.tt (5 : Nat)) })),
    (0), (5), by decide +kernel⟩,
    ⟨((((State.reset.p (F.CAN_CTL_LOOP (0 : Fin 4)) 0).wr (R.CAN_TXB_REQ (0 : Fin 4)) 0x1F).wr (R.CAN_ERRCNT (0 : Fin 4))
    0).setCan (0 : Fin 4) { CanSt.reset with cur := some (.eb 2 3) } |>.wr (R.CAN_CTL (0 : Fin 4)) 0x3), (0), (⟨.bit0,
    false⟩), (.eb 2 3), by decide +kernel⟩,
    ⟨(((((State.reset.p (F.CAN_CTL_LOOP (0 : Fin 4)) 0).wr (R.CAN_TXB_REQ (0 : Fin 4)) 0x1F).wr (R.CAN_ERRCNT (0 : Fin 4))
    0).setCan (0 : Fin 4) { CanSt.reset with cur := some (.eb 2 3) } |>.wr (R.CAN_CTL (0 : Fin 4)) 0x3).p
    (F.CAN_ERRCNT_TEC (0 : Fin 4)) 250), (0), (⟨.bit0, false⟩), (.eb 2 3), by decide +kernel⟩,
    ⟨((((State.reset.p (F.CAN_CTL_LOOP (0 : Fin 4)) 0).wr (R.CAN_TXB_REQ (0 : Fin 4)) 0x1F).setCan (0 : Fin 4)
    { CanSt.reset with cur := some (.eb (0 : Fin 32) (3 : Nat)) })), (0), (0), (3), by decide +kernel⟩,
    ⟨((((State.reset.p (F.CAN_CTL_LOOP (0 : Fin 4)) 0).wr (R.CAN_TXB_REQ (0 : Fin 4)) 0x1F).setCan (0 : Fin 4)
    { CanSt.reset with cur := some (.eb (0 : Fin 32) (0 : Nat)) })), (0), (0), (0), by decide +kernel⟩,
    ⟨({ (State.reset.p (F.CAN_STATUS_STATE (0 : Fin 4)) 3).on (F.CAN_CTL_AUTO_RECOVER (0 : Fin 4)) with tb := { State.reset.tb with ticks := 10 ^ 15 } }),
    (0), by decide +kernel⟩,
    ⟨(((((((((State.reset.wr (R.CAN_CTL (0 : Fin 4)) 0).off (F.CAN_STATUS_FAULT (0 : Fin 4))).wr (R.CAN_TT_CYCLE (0 : Fin
    4)) 1000000).p (F.CAN_TT_CFG_LOG2_CYCLES (0 : Fin 4)) 0).p (F.CAN_TT_CFG_WIN_N (0 : Fin 4)) 1).wr (canRam (0 : Fin
    4) + 0x4680) 0).wr (canRam (0 : Fin 4) + 0x4684) 8).on F.TB_STATUS_TIME_VALID)), (.od 0), (0), by decide +kernel⟩,
    ⟨(((State.reset.wr (R.CAN_CTL (0 : Fin 4)) 0).off (F.CAN_STATUS_FAULT (0 : Fin 4))).wr (R.CAN_TT_CYCLE (0 : Fin 4))
    100), (.od 0), (0), by decide +kernel⟩,
    ⟨((State.reset.wr (R.CAN_CTL (0 : Fin 4)) 0x200).off (F.CAN_STATUS_FAULT (0 : Fin 4))), (.od 0), (0), by decide +kernel⟩,
    ⟨((State.reset.off (F.CAN_STATUS_FAULT (0 : Fin 4))).setCan (0 : Fin 4) CanSt.reset), (0), by decide +kernel⟩⟩

theorem witness_CanMatrixAndReceptionFollowTheirRules :
    (∃ (s : State) (c : Fin 4), s.is (F.CAN_TT_STATUS_RUNNING c) = true ∧ (s.canOf c).cycleAt ≠ some (s.canCycleNow c).1 ∧
      s.is (F.CAN_CTL_TT_EN c) = true) ∧
    (∃ (s : State) (c : Fin 4), s.is (F.CAN_TT_STATUS_RUNNING c) = true ∧ (s.canOf c).cycleAt ≠ some (s.canCycleNow c).1 ∧
      s.is (F.CAN_CTL_TT_EN c) = false) ∧
    (∃ (s : State) (c : Fin 4) (_idle : Bool) (start : Nat), s.is (F.CAN_TT_STATUS_RUNNING c) = true ∧ (s.canOf c).cycleAt =
      some start ∧ (s.canOf c).nextWin ≤ s.g (F.CAN_TT_CFG_WIN_N c) ∧ start + s.canOffset c (s.canOf c).nextWin ≤
      s.nowNs) ∧
    (∃ (s : State) (c : Fin 4) (start : Nat) (buf : Nat), s.is (F.CAN_TT_STATUS_RUNNING c) = true ∧ (s.canOf c).cycleAt =
      some start ∧ (s.canOf c).nextWin ≤ s.g (F.CAN_TT_CFG_WIN_N c) ∧ start + s.canOffset c (s.canOf c).nextWin ≤
      s.nowNs ∧ s.canLive c = true ∧ (s.canOf c).cur = none ∧ s.canCell c (s.g (F.CAN_TT_STATUS_CYCLE_CNT c)) (s.canOf
      c).nextWin = (buf, 1) ∧ s.fdRefused c (canTt c buf 0) = false) ∧
    (∃ (s : State) (c : Fin 4) (b : Nat), (s.canOf c).wait = some b ∧ s.txenEnd c ≤ s.elapsedAt s.now) ∧
    (∃ (s : State) (c : Fin 4) (f : CanFrame) (_sof : Word) (q : Fin 2) (flt : Nat), s.canLive c = true ∧ s.g
      (F.CAN_CTL_LOOP c) = 0 ∧ (s.canOf c).cur = none ∧ f.fdf = false ∧ s.is F.CLK_STATUS_DEGRADED = false ∧ s.routeOf c
      f = (q.val, flt) ∧ f.len ≤ s.rxBytes c q ∧ s.lockOf c q = none ∧ s.g (F.CAN_RXQ_STATUS_LEVEL c q) < 64) ∧
    (∃ (s : State) (c : Fin 4) (f : CanFrame) (_sof : Word) (q : Fin 2) (flt : Nat), s.canLive c = true ∧ s.g
      (F.CAN_CTL_LOOP c) = 0 ∧ (s.canOf c).cur = none ∧ (f.fdf && !s.is (F.CAN_CTL_FD_EN c)) = false ∧ s.routeOf c f =
      (q.val, flt) ∧ f.len ≤ s.rxBytes c q ∧ s.lockOf c q = none ∧ s.g (F.CAN_RXQ_STATUS_LEVEL c q) < 64) ∧
    (∃ (s : State) (c : Fin 4) (f : CanFrame) (_sof : Word), s.canLive c = true ∧ s.g (F.CAN_CTL_LOOP c) = 0 ∧ (s.canOf
      c).cur = none ∧ (f.fdf && !s.is (F.CAN_CTL_FD_EN c)) = false ∧ 2 ≤ (s.routeOf c f).1 ∧ s.is F.CLK_STATUS_DEGRADED
      = false) ∧
    (∃ (s : State) (c : Fin 4) (f : CanFrame) (_sof : Word) (_err : Option CanErr), s.canLive c = true ∧ s.g (F.CAN_CTL_LOOP
      c) = 0 ∧ (s.canOf c).cur = none ∧ f.fdf = true ∧ s.is (F.CAN_CTL_FD_EN c) = false ∧ s.recCount c < 127) ∧
    (∃ (s : State) (c : Fin 4) (f : CanFrame) (_sof : Word) (_e : CanErr), s.canLive c = true ∧ s.g (F.CAN_CTL_LOOP c) = 0 ∧
      (s.canOf c).cur = none ∧ (f.fdf && !s.is (F.CAN_CTL_FD_EN c)) = false) ∧
    (∃ (s : State) (c : Fin 4) (f : CanFrame) (_sof : Word) (e : CanErr), s.canLive c = true ∧ s.g (F.CAN_CTL_LOOP c) = 0 ∧
      (s.canOf c).cur = none ∧ f.fdf = false ∧ e.special = false ∧ s.recCount c < 127) ∧
    (∃ (s : State) (_rq : Rq) (c : Fin 4) (q : Fin 2) (i : Fin 64), s.readErr (canRx c q i 0) = false) ∧
    (∃ (s : State) (_rq : Rq) (c : Fin 4) (q : Fin 2) (i : Fin 64) (w : Nat), w = (if getBits (s.rd (canRx c q i 0)) 30 1 =
      1 then 2 else 2 + s.rxBytes c q / 4) ∧ s.readErr (canRx c q i w) = false ∧ s.lockOf c q = some i.val) ∧
    (∃ (s : State) (c : Fin 4) (q : Fin 2), s.is (F.CAN_RXQ_STATUS_LOCKED c q) = true ∧ tabGet (fun _ => 0) (s.canOf
      c).lockTick q + 2500 * atLeast1 (s.g (F.CAN_RXQ_CFG_LOCK_TMO c q)) ≤ s.tb.ticks) ∧
    (∃ (s : State) (rq : Rq) (c : Fin 4) (q : Fin 2) (n : Fin 128) (k : Nat), s.reaches rq (R.CAN_RXQ_ACK c q) ∧ k = min
      n.val (s.g (F.CAN_RXQ_STATUS_LEVEL c q))) ∧
    (∃ (s : State) (rq : Rq) (c : Fin 4) (q : Fin 2) (i : Fin 64), s.reaches rq (canRx c q i 2)) :=
  ⟨⟨(((State.reset.on (F.CAN_TT_STATUS_RUNNING (0 : Fin 4))).on (F.CAN_CTL_TT_EN (0 : Fin 4))).setCan (0 : Fin 4)
    CanSt.reset), (0), by decide +kernel⟩,
    ⟨(((State.reset.on (F.CAN_TT_STATUS_RUNNING (0 : Fin 4))).off (F.CAN_CTL_TT_EN (0 : Fin 4))).setCan (0 : Fin 4)
    CanSt.reset), (0), by decide +kernel⟩,
    ⟨((((State.reset.on (F.CAN_TT_STATUS_RUNNING (0 : Fin 4))).wr (canRam (0 : Fin 4) + 0x4680) 0).wr (canRam (0 : Fin 4) +
    0x4800) 0x45).p (F.CAN_TT_STATUS_CYCLE_CNT (0 : Fin 4)) 0 |>.setCan (0 : Fin 4)
    { CanSt.reset with cycleAt := some (0 : Nat) }), (0), (true), (0), by decide +kernel⟩,
    ⟨((((((State.reset.on (F.CAN_TT_STATUS_RUNNING (0 : Fin 4))).wr (canRam (0 : Fin 4) + 0x4680) 0).wr (canRam (0 : Fin 4)
    + 0x4800) 0x45).p (F.CAN_TT_STATUS_CYCLE_CNT (0 : Fin 4)) 0 |>.setCan (0 : Fin 4)
    { CanSt.reset with cycleAt := some (0 : Nat) }).wr (R.CAN_CTL (0 : Fin 4)) 2).off (F.CAN_STATUS_FAULT (0 : Fin 4))
    |>.p (F.CAN_STATUS_STATE (0 : Fin 4)) 1), (0), (0), (5), by decide +kernel⟩,
    ⟨({ State.reset.setCan (0 : Fin 4) { CanSt.reset with wait := some (1 : Nat) } with tb := { State.reset.tb with ticks := 10 ^ 15 } }),
    (0), (1), by decide +kernel⟩,
    ⟨(((((((((State.reset.wr (R.CAN_CTL (0 : Fin 4)) 2).off (F.CAN_STATUS_FAULT (0 : Fin 4))).p (F.CAN_STATUS_STATE (0 : Fin
    4)) 1).setCan (0 : Fin 4) CanSt.reset)).off F.CLK_STATUS_DEGRADED).wr (R.CAN_RXQ_STATUS (0 : Fin 4) (0 : Fin 2))
    0x0).p (F.CAN_FLT_CFG_NOMATCH (0 : Fin 4)) (0 : Fin 2).val).wr (canFilter (0 : Fin 4) 0 0) 0), (0), (⟨0x123, false,
    false, false, 2, false, false, [7, 8]⟩), (5), (0), (127), by decide +kernel⟩,
    ⟨(((((((((State.reset.wr (R.CAN_CTL (0 : Fin 4)) 2).off (F.CAN_STATUS_FAULT (0 : Fin 4))).p (F.CAN_STATUS_STATE (0 : Fin
    4)) 1).setCan (0 : Fin 4) CanSt.reset)).on (F.CAN_CTL_FD_EN (0 : Fin 4))).wr (R.CAN_RXQ_STATUS (0 : Fin 4) (0 : Fin
    2)) 0x0).p (F.CAN_FLT_CFG_NOMATCH (0 : Fin 4)) (0 : Fin 2).val).wr (canFilter (0 : Fin 4) 0 0) 0), (0), (⟨0x123,
    false, false, false, 2, false, true, [7, 8]⟩), (5), (0), (127), by decide +kernel⟩,
    ⟨((((((((State.reset.wr (R.CAN_CTL (0 : Fin 4)) 2).off (F.CAN_STATUS_FAULT (0 : Fin 4))).p (F.CAN_STATUS_STATE (0 : Fin
    4)) 1).setCan (0 : Fin 4) CanSt.reset)).off F.CLK_STATUS_DEGRADED).p (F.CAN_FLT_CFG_NOMATCH (0 : Fin 4)) 2).wr
    (canFilter (0 : Fin 4) 0 0) 0), (0), (⟨0x123, false, false, false, 2, false, false, [7, 8]⟩), (5),
    by decide +kernel⟩,
    ⟨(((((((State.reset.wr (R.CAN_CTL (0 : Fin 4)) 2).off (F.CAN_STATUS_FAULT (0 : Fin 4))).p (F.CAN_STATUS_STATE (0 : Fin
    4)) 1).setCan (0 : Fin 4) CanSt.reset)).off (F.CAN_CTL_FD_EN (0 : Fin 4))).wr (R.CAN_ERRCNT (0 : Fin 4)) 0), (0),
    (⟨0x123, false, false, false, 2, false, true, [7, 8]⟩), (5), (none), by decide +kernel⟩,
    ⟨((((((State.reset.wr (R.CAN_CTL (0 : Fin 4)) 2).off (F.CAN_STATUS_FAULT (0 : Fin 4))).p (F.CAN_STATUS_STATE (0 : Fin
    4)) 1).setCan (0 : Fin 4) CanSt.reset)).wr (R.CAN_ERRCNT (0 : Fin 4)) 0), (0), (⟨0x123, false, false, false, 2,
    false, false, [7, 8]⟩), (5), (⟨.crc, true⟩), by decide +kernel⟩,
    ⟨((((((State.reset.wr (R.CAN_CTL (0 : Fin 4)) 2).off (F.CAN_STATUS_FAULT (0 : Fin 4))).p (F.CAN_STATUS_STATE (0 : Fin
    4)) 1).setCan (0 : Fin 4) CanSt.reset)).wr (R.CAN_ERRCNT (0 : Fin 4)) 0), (0), (⟨0x123, false, false, false, 2,
    false, false, [7, 8]⟩), (5), (⟨.crc, false⟩), by decide +kernel⟩,
    ⟨(State.reset), (.od 0), (0), (0), (0), by decide +kernel⟩,
    ⟨((State.reset.wr (R.CAN_RXQ_STATUS (0 : Fin 4) (0 : Fin 2)) 0).p (F.CAN_RXQ_STATUS_LOCK_IDX (0 : Fin 4) (0 : Fin 2)) (0
    : Fin 64) |>.on (F.CAN_RXQ_STATUS_LOCKED (0 : Fin 4) (0 : Fin 2))), (.od 0), (0), (0), (0), (if getBits
    (State.reset.rd (canRx (0 : Fin 4) (0 : Fin 2) (0 : Fin 64) 0)) 30 1 = 1 then 2 else 2 + State.reset.rxBytes (0 :
    Fin 4) (0 : Fin 2) / 4), by decide +kernel⟩,
    ⟨({ (State.reset.on (F.CAN_RXQ_STATUS_LOCKED (0 : Fin 4) (0 : Fin 2))).setCan (0 : Fin 4) CanSt.reset with tb := { State.reset.tb with ticks := 2500 * 2 ^ 33 } }),
    (0), (0), by decide +kernel⟩,
    ⟨((((State.reset.p (F.CAN_RXQ_STATUS_LEVEL (0 : Fin 4) (0 : Fin 2)) 3).p (F.CAN_RXQ_STATUS_GET (0 : Fin 4) (0 : Fin 2))
    5).on (F.CAN_RXQ_STATUS_LOCKED (0 : Fin 4) (0 : Fin 2))).p (F.CAN_RXQ_STATUS_LOCK_IDX (0 : Fin 4) (0 : Fin 2)) 6),
    (.od 0), (0), (0), (2), (2), by decide +kernel⟩,
    ⟨(State.reset.wr (canRx (0 : Fin 4) (0 : Fin 2) (0 : Fin 64) 2) 0x80000012), (.od 0), (0), (0), (0), by decide +kernel⟩⟩

theorem witness_FieldOutputCommandsTakeEffect :
    (∃ (s : State) (rq : Rq) (_v : Word), s.dropReason rq R.FIO_OUT = none) ∧
    (∃ (s : State) (rq : Rq) (_v : Word), s.dropReason rq R.FIO_OUT_SET = none) ∧
    (∃ (s : State) (rq : Rq) (_v : Word), s.dropReason rq R.FIO_OUT_CLR = none) ∧
    (∃ (s : State) (rq : Rq) (v : Word) (hot : Word) (j : Fin 32), s.dropReason rq R.FIO_OUT_FCLR = none ∧ s.may rq
      (R.FIO_CH_CFG (32 + j)) = true ∧ getBits v j 1 = 1 ∧ (s.g (F.FIO_CH_STATUS_REASON (32 + j)) ≠ 2 ∨ getBits hot j 1
      = 0)) ∧
    (∃ (s : State) (rq : Rq) (v : Word) (hot : Word) (j : Fin 32), s.dropReason rq R.FIO_OUT_FCLR = none ∧ s.may rq
      (R.FIO_CH_CFG (32 + j)) = true ∧ getBits v j 1 = 1 ∧ s.g (F.FIO_CH_STATUS_REASON (32 + j)) = 2 ∧ getBits hot j 1 =
      1) ∧
    (∃ (s : State) (rq : Rq) (v : Word) (_hot : Word) (j : Fin 32), (s.may rq (R.FIO_CH_CFG (32 + j)) = false ∨ getBits v j
      1 = 0)) ∧
    (∃ (s : State) (j : Fin 32) (h : Held) (rest : List Held), s.firstDue s.held = some (h, rest) ∧ h.e.code = 0x02 ∧
      h.e.target = j ∧ (s.isolated regField = true ∨ s.regHeld s.fio.regClr j = true)) ∧
    (∃ (s : State) (j : Fin 32) (h : Held) (rest : List Held), s.firstDue s.held = some (h, rest) ∧ h.e.code = 0x02 ∧
      h.e.target = j ∧ s.isolated regField = false ∧ s.regHeld s.fio.regClr j = false) ∧
    (∃ (s : State) (j : Fin 32) (thermal : Bool), s.fieldOn j = true ∧ (thermal = true ∨ tabGet (fun _ => 0) s.fio.since j
      + 50000 ≤ s.tb.ticks)) ∧
    (∃ (s : State) (j : Fin 32) (thermal : Bool), (s.fieldOn j = false ∨ (thermal = false ∧ s.tb.ticks < tabGet (fun _ =>
      0) s.fio.since j + 50000))) ∧
    (∃ (s : State) (j : Fin 32), s.fieldDrives (32 + j) = true ∧ s.is (F.FIO_CH_STATUS_FAULT (32 + j.val)) = false ∧ tabGet
      (fun _ => 0) s.fio.since j + 5000 * atLeast1 (s.g (F.FIO_CH_CFG_WB_TIME (32 + j.val))) ≤ s.tb.ticks) ∧
    (∃ (s : State) (j : Fin 32), (s.fieldDrives (32 + j) = false ∨ s.is (F.FIO_CH_STATUS_FAULT (32 + j.val)) = true ∨
      s.tb.ticks < tabGet (fun _ => 0) s.fio.since j + 5000 * atLeast1 (s.g (F.FIO_CH_CFG_WB_TIME (32 + j.val))))) :=
  ⟨⟨(State.reset), (.od 0), (5), by decide +kernel⟩,
    ⟨(State.reset), (.od 0), (5), by decide +kernel⟩,
    ⟨(State.reset), (.od 0), (5), by decide +kernel⟩,
    ⟨(((State.reset.on (F.FIO_CH_STATUS_LAUNCH_OFF (32 + (0 : Fin 32)))).on (F.FIO_CH_STATUS_FAULT (32 + (0 : Fin 32)))).wr
    R.FIO_OUT_FAULT (~~~ (0 : Word))), (.od 0), (~~~ (0 : Word)), (0), (0), by decide +kernel⟩,
    ⟨(((State.reset.on (F.FIO_CH_STATUS_LAUNCH_OFF (32 + (0 : Fin 32)))).on (F.FIO_CH_STATUS_FAULT (32 + (0 : Fin 32)))).p
    (F.FIO_CH_STATUS_REASON (32 + (0 : Fin 32))) 2), (.od 0), (~~~ (0 : Word)), (~~~ (0 : Word)), (0),
    by decide +kernel⟩,
    ⟨((State.reset.on (F.FIO_CH_STATUS_LAUNCH_OFF (32 + (0 : Fin 32)))).on (F.FIO_CH_STATUS_FAULT (32 + (0 : Fin 32)))),
    (.od 0), (0), (5), (0), by decide +kernel⟩,
    ⟨({ (State.reset.p F.GLB_REGION_STATE_ISOLATED 64) with held := [⟨⟨0, 0, 0x02, (0 : Fin 32), 1, 0, false, false⟩, true, 0, 0, 0⟩], tb := { State.reset.tb with ticks := 100 } }),
    (0), (⟨⟨0, 0, 0x02, (0 : Fin 32), 1, 0, false, false⟩, true, 0, 0, 0⟩), ([]), by decide +kernel⟩,
    ⟨({ (State.reset) with held := [⟨⟨0, 0, 0x02, (0 : Fin 32), 1, 0, false, false⟩, true, 0, 0, 0⟩], tb := { State.reset.tb with ticks := 100 } }),
    (0), (⟨⟨0, 0, 0x02, (0 : Fin 32), 1, 0, false, false⟩, true, 0, 0, 0⟩), ([]), by decide +kernel⟩,
    ⟨({ ((((State.reset.on F.FIO_STATUS_BRIDGE_OK).off F.FIO_STATUS_VF_LOW).wr R.FIO_OUT (~~~ (0 : Word))).wr R.FIO_OUT_FAULT 0).wr R.FIO_OUT_LOFF 0 with clk := { State.reset.clk with down := [] }, tb := { State.reset.tb with ticks := 10 ^ 10 } }),
    (3), (true), by decide +kernel⟩,
    ⟨({ State.reset with saf := { State.reset.saf with globalSafe := true } }), (0), (true), by decide +kernel⟩,
    ⟨({ State.reset.off (F.FIO_CH_STATUS_FAULT (32 + (0 : Fin 32).val)) with tb := { State.reset.tb with ticks := 5000 * 256 } }),
    (0), by decide +kernel⟩,
    ⟨(State.reset.on (F.FIO_CH_STATUS_FAULT (32 + (0 : Fin 32).val))), (0), by decide +kernel⟩⟩

theorem witness_FieldInputEventsTakeEffect :
    (∃ (s : State) (k : Fin 80) (level : Bool), s.fieldReads k = true ∧ (level = true → s.is (F.FIO_CH_STATUS_WB k) =
      false) ∧ s.counted k level = true) ∧
    (∃ (s : State) (k : Fin 80) (level : Bool), (s.fieldReads k = false ∨ (level = true ∧ s.is (F.FIO_CH_STATUS_WB k) =
      true) ∨ s.counted k level = false)) ∧
    (∃ (s : State) (rq : Rq) (k : Fin 64) (v : Word), s.reaches rq (R.FIO_CH_CFG k) ∧ inRange (R.FIO_CH_CFG k) v = true ∧
      (k.val < 56 ∨ getBits v 28 2 = s.g (F.FIO_CH_CFG_FX_MODE k) ∨ getBits (s.rd R.FIO_OUT) (k.val - 32) 1 = 0)) ∧
    (∃ (s : State) (rq : Rq) (k : Fin 80) (v : Word), s.reaches rq (R.FIO_CH_CFG k) ∧ 64 ≤ k.val ∧ inRange (R.FIO_CH_CFG k)
      (putBits (putBits v 0 11 (getBits (s.rd (R.FIO_CH_CFG k)) 0 11)) 12 8 (getBits (s.rd (R.FIO_CH_CFG k)) 12 8)) =
      true) ∧
    (∃ (s : State) (rq : Rq) (k : Fin 64) (v : Word), s.reaches rq (R.FIO_CH_CFG k) ∧ (inRange (R.FIO_CH_CFG k) v = false ∨
      (56 ≤ k.val ∧ getBits v 28 2 ≠ s.g (F.FIO_CH_CFG_FX_MODE k) ∧ getBits (s.rd R.FIO_OUT) (k.val - 32) 1 = 1))) ∧
    (∃ (s : State) (rq : Rq) (x : Fin 8) (mode : Fin 4), s.reaches rq (R.FIO_CH_CFG (56 + x)) ∧ (mode.val = 3 ∨ (getBits
      (s.rd R.FIO_OUT) (24 + x) 1 = 1 ∧ mode.val ≠ s.g (F.FIO_CH_CFG_FX_MODE (56 + x))))) ∧
    (∃ (s : State) (rq : Rq) (x : Fin 8) (mode : Fin 4), s.reaches rq (R.FIO_CH_CFG (56 + x)) ∧ mode.val < 3 ∧ getBits
      (s.rd R.FIO_OUT) (24 + x) 1 = 0 ∧ inRange (R.FIO_CH_CFG (56 + x)) (s.rd (R.FIO_CH_CFG (56 + x))) = true) ∧
    (∃ (s : State) (k : Fin 64), s.fieldReads k = true ∧ s.is (F.FIO_CH_CFG_WB_EN k) = true ∧ s.is (F.FIO_CH_STATUS_WB k) =
      false) ∧
    (∃ (s : State) (k : Fin 64), s.is (F.FIO_CH_STATUS_WB k) = true) ∧
    (∃ (s : State) (k : Fin 64), (s.fieldReads k = false ∨ s.is (F.FIO_CH_CFG_WB_EN k) = false ∨ s.is (F.FIO_CH_STATUS_WB
      k) = true)) ∧
    (∃ (s : State) (k : Fin 64), s.is (F.FIO_CH_STATUS_WB k) = false) ∧
    (∃ (s : State), s.is F.FIO_STATUS_VF_LOW = true) ∧
    (∃ (s : State), (s.is F.FIO_STATUS_VF_LOW = false ∨ s.tb.ticks < s.fio.lowTick + 2500000)) ∧
    (∃ (s : State), s.is F.FIO_STATUS_VF_LOW = false) ∧
    (∃ (s : State), s.is F.FIO_STATUS_VF_LOW = true ∧ s.fio.lowTick + 2500000 ≤ s.tb.ticks) :=
  ⟨⟨({ State.reset with tb := { State.reset.tb with ticks := State.reset.tb.ticks + 10 ^ 10 } }), (3), (true),
    by decide +kernel⟩,
    ⟨(State.reset), (40), (true), by decide +kernel⟩,
    ⟨(State.reset), (.od 0), (0), (0x01203C14), by decide +kernel⟩,
    ⟨(State.reset), (.od 0), (70), (0), by decide +kernel⟩,
    ⟨(State.reset), (.od 0), (3), (0x3FFF_FFFF), by decide +kernel⟩,
    ⟨(State.reset), (.od 0), (0), (3), by decide +kernel⟩,
    ⟨(State.reset.wr R.FIO_OUT 0), (.od 0), (0), (2), by decide +kernel⟩,
    ⟨((State.reset.on (F.FIO_CH_CFG_WB_EN (0 : Fin 64))).off (F.FIO_CH_STATUS_WB (0 : Fin 64))), (0), by decide +kernel⟩,
    ⟨(State.reset.on (F.FIO_CH_STATUS_WB (0 : Fin 64))), (0), by decide +kernel⟩,
    ⟨(State.reset.off (F.FIO_CH_CFG_WB_EN (0 : Fin 64))), (0), by decide +kernel⟩,
    ⟨(State.reset.off (F.FIO_CH_STATUS_WB (0 : Fin 64))), (0), by decide +kernel⟩,
    ⟨(State.reset.on F.FIO_STATUS_VF_LOW), by decide +kernel⟩,
    ⟨(State.reset.off F.FIO_STATUS_VF_LOW), by decide +kernel⟩,
    ⟨(State.reset.off F.FIO_STATUS_VF_LOW), by decide +kernel⟩,
    ⟨({ State.reset.on F.FIO_STATUS_VF_LOW with tb := { State.reset.tb with ticks := 10 ^ 10 } }), by decide +kernel⟩⟩

theorem witness_ProbesAndHomingTakeEffect :
    (∃ (s : State) (k : Fin 8) (_falling : Bool) (_ns : Fin 4), s.is (F.GLB_PRB_CFG_ARM k) = false) ∧
    (∃ (s : State) (k : Fin 8) (falling : Bool) (_ns : Fin 4), (s.g (F.GLB_PRB_CFG_EDGE k) = 3 ∨ (s.g (F.GLB_PRB_CFG_EDGE k)
      = 0 ∧ falling = true) ∨ (s.g (F.GLB_PRB_CFG_EDGE k) = 1 ∧ falling = false))) ∧
    (∃ (s : State) (k : Fin 8) (falling : Bool) (_ns : Fin 4), s.is (F.GLB_PRB_CFG_ARM k) = true ∧ s.g (F.GLB_PRB_CFG_EDGE
      k) = 0 ∧ falling = false) ∧
    (∃ (s : State) (k : Fin 8) (falling : Bool) (_ns : Fin 4), s.is (F.GLB_PRB_CFG_ARM k) = true ∧ s.g (F.GLB_PRB_CFG_EDGE
      k) = 1 ∧ falling = true) ∧
    (∃ (s : State) (k : Fin 8) (_falling : Bool) (_ns : Fin 4), s.is (F.GLB_PRB_CFG_ARM k) = true ∧ s.g (F.GLB_PRB_CFG_EDGE
      k) = 2) ∧
    (∃ (s : State) (k : Fin 8) (falling : Bool) (_ns : Fin 4), s.is (F.GLB_PRB_CFG_ARM k) = true ∧ (s.g (F.GLB_PRB_CFG_EDGE
      k) = 2 ∨ (s.g (F.GLB_PRB_CFG_EDGE k) = 0 ∧ falling = false) ∨ (s.g (F.GLB_PRB_CFG_EDGE k) = 1 ∧ falling = true)) ∧
      s.is (F.GLB_PRB_CFG_SHAFT k) = false ∧ ((s.latchPos k).isSome = true ∧ (s.prbOf k).fifo.length < 4)) ∧
    (∃ (s : State) (k : Fin 8) (falling : Bool) (_ns : Fin 4), s.is (F.GLB_PRB_CFG_ARM k) = true ∧ (s.g (F.GLB_PRB_CFG_EDGE
      k) = 2 ∨ (s.g (F.GLB_PRB_CFG_EDGE k) = 0 ∧ falling = false) ∨ (s.g (F.GLB_PRB_CFG_EDGE k) = 1 ∧ falling = true)) ∧
      s.is (F.GLB_PRB_CFG_SHAFT k) = false ∧ s.latchPos k = none) ∧
    (∃ (s : State) (k : Fin 40), 16 ≤ k.val ∧ (s.chanOf k).home = .stop ∧ (s.chanOf k).homeAt = none ∧ s.is
      (F.LSP_CH_STATUS_STANDSTILL k) = true) ∧
    (∃ (s : State) (k : Fin 40) (m : Fin 16), k.val = m.val ∧ (s.chanOf k).home = .stop ∧ (s.chanOf k).homeAt = none ∧ s.is
      (F.LSP_CH_STATUS_STANDSTILL k) = true) ∧
    (∃ (s : State) (k : Fin 40), ((s.chanOf k).home ≠ .stop ∨ (s.chanOf k).homeAt.isSome = true ∨ s.is
      (F.LSP_CH_STATUS_STANDSTILL k) = false)) :=
  ⟨⟨(State.reset.off (F.GLB_PRB_CFG_ARM (0 : Fin 8))), (0), (true), (0), by decide +kernel⟩,
    ⟨(State.reset.p (F.GLB_PRB_CFG_EDGE (0 : Fin 8)) (if (true : Bool) then 0 else 1)), (0), (true), (0), by decide +kernel⟩,
    ⟨(((State.reset.on (F.GLB_PRB_CFG_ARM (0 : Fin 8))).p (F.GLB_PRB_CFG_EDGE (0 : Fin 8)) 0).pb (F.GLB_PRB_CFG_CONT (0 :
    Fin 8)) ((0 : Fin 4).val % 2 == 0)), (0), (false), (0), by decide +kernel⟩,
    ⟨(((State.reset.on (F.GLB_PRB_CFG_ARM (0 : Fin 8))).p (F.GLB_PRB_CFG_EDGE (0 : Fin 8)) 1).pb (F.GLB_PRB_CFG_CONT (0 :
    Fin 8)) ((0 : Fin 4).val % 2 == 0)), (0), (true), (0), by decide +kernel⟩,
    ⟨(((State.reset.on (F.GLB_PRB_CFG_ARM (0 : Fin 8))).p (F.GLB_PRB_CFG_EDGE (0 : Fin 8)) 2).pb (F.GLB_PRB_CFG_CONT (0 :
    Fin 8)) ((0 : Fin 4).val % 2 == 0)), (0), (false), (0), by decide +kernel⟩,
    ⟨(((State.reset.on (F.GLB_PRB_CFG_ARM (0 : Fin 8))).p (F.GLB_PRB_CFG_EDGE (0 : Fin 8)) (if (true : Bool) then 1 else
    0)).off (F.GLB_PRB_CFG_SHAFT (0 : Fin 8))), (0), (true), (0), by decide +kernel⟩,
    ⟨((fun (s : State) => ((s.on (F.GLB_PRB_CFG_ARM (0 : Fin 8))).p (F.GLB_PRB_CFG_EDGE (0 : Fin 8)) (if (true : Bool) then
    1 else 0)).off (F.GLB_PRB_CFG_SHAFT (0 : Fin 8)) |> fun s => (((s.off (F.GLB_PRB_CFG_AUX (0 : Fin 8))).p
    (F.GLB_PRB_CFG_AXIS (0 : Fin 8)) 0).p (F.AX_FB_CFG_INC_MODE 0) 2).p (F.AX_FB_CFG_PRIMARY 0) 0) State.reset), (0),
    (true), (0), by decide +kernel⟩,
    ⟨((State.reset.on (F.LSP_CH_STATUS_STANDSTILL (20 : Fin 40))).setChan (20 : Fin 40) { Chan.reset with home := .stop }),
    (20), by decide +kernel⟩,
    ⟨((State.reset.on (F.LSP_CH_STATUS_STANDSTILL (0 : Fin 40))).setChan (0 : Fin 40) { Chan.reset with home := .stop }),
    (0), (0), by decide +kernel⟩,
    ⟨(State.reset.off (F.LSP_CH_STATUS_STANDSTILL (0 : Fin 40))), (0), by decide +kernel⟩⟩

theorem witness_HollyhockInputsAndTimersFollowTheirRules :
    (∃ (s : State) (_i : SafIn), s.cycleDue = true) ∧
    (∃ (s : State) (i : SafIn), s.cycleDue = true ∧ i.disagree = true) ∧
    (∃ (s : State) (_i : SafIn), s.cycleDue = false) ∧
    (∃ (s : State) (p : Fin 8) (d : Nat), tabGet (fun _ => none) s.saf.discSince p = some d ∧ d + atLeast1 (s.g
      (F.SAF_SI_CFG_DISC p)) * 250000 < s.tb.ticks ∧ testBit (s.g F.SAF_SI_STATUS_DISC_FAULT) p = false ∧ s.is
      F.SAF_LOCK_DEVICE = false) ∧
    (∃ (s : State) (g : Fin 4), testBit (s.g F.SAF_STO_SS1_RUN) g = true ∧ s.saf.ss1Start.getD g 0 + s.g (F.SAF_SS1_T_T_SS1
      g) * 250000 ≤ s.tb.ticks) ∧
    (∃ (s : State), s.is F.SAF_LOCK_DEVICE = false) ∧
    (∃ (s : State) (n : Fin 16), s.is (F.SAF_BRK_STATUS_RELEASED n) = true ∧ (s.brkOf n).dark = false ∧ (s.brkOf
      n).darkTick + atLeast1 (s.g (F.SAF_BRK_CFG_DT_PERIOD n)) * 1000 * 250000 ≤ s.tb.ticks ∧ s.is (F.SAF_BRK_STATUS_BS
      n) = true) ∧
    (∃ (s : State) (n : Fin 16), s.is (F.SAF_BRK_STATUS_RELEASED n) = true ∧ (s.brkOf n).dark = false ∧ (s.brkOf
      n).darkTick + atLeast1 (s.g (F.SAF_BRK_CFG_DT_PERIOD n)) * 1000 * 250000 ≤ s.tb.ticks ∧ s.is (F.SAF_BRK_STATUS_BS
      n) = false) ∧
    (∃ (s : State) (n : Fin 16), (s.brkOf n).dark = true ∧ (s.brkOf n).darkTick + 125000 ≤ s.tb.ticks) ∧
    (∃ (s : State) (rq : Rq) (n : Fin 16) (ticket : BitVec 16), s.reaches rq R.SAF_BT_CMD ∧ s.btRefused n ticket.toNat =
      true ∧ s.saf.bt = none) ∧
    (∃ (s : State) (rq : Rq) (n : Fin 16) (ticket : BitVec 16), s.reaches rq R.SAF_BT_CMD ∧ s.btRefused n ticket.toNat =
      false) ∧
    (∃ (s : State) (rq : Rq) (b : BtRun), s.reaches rq R.SAF_BT_CMD ∧ s.saf.bt = some b) ∧
    (∃ (s : State) (b : BtRun), s.saf.bt = some b ∧ b.settled = false ∧ b.start + s.g F.SAF_BT_CFG_BT_SETTLE * 10 * 250000
      ≤ s.tb.ticks) ∧
    (∃ (s : State) (b : BtRun) (since : Nat) (n : Fin 16), s.saf.bt = some b ∧ b.since = some since ∧ since + s.g
      F.SAF_BT_CFG_BT_TIME * 250000 ≤ s.tb.ticks ∧ b.axis = n.val) ∧
    (∃ (s : State) (b : BtRun), s.saf.bt = some b ∧ b.settled = true ∧ b.peak < s.g ⟨R.SAF_BT_I, 0, 24⟩ ∧ b.start + 5000 *
      250000 ≤ s.tb.ticks) ∧
    (∃ (s : State) (n : Fin 16), s.g (F.SAF_BRK_CFG_BT_INTERVAL n) ≠ 0 ∧ s.is (F.SAF_BRK_STATUS_BT_DUE n) = false ∧
      (s.brkOf n).lastPass + s.g (F.SAF_BRK_CFG_BT_INTERVAL n) * 900000000000 ≤ s.tb.ticks) ∧
    (∃ (s : State) (n : Fin 16), s.g (F.SAF_BRK_CFG_BT_INTERVAL n) ≠ 0 ∧ s.is (F.SAF_BRK_CFG_ENFORCE n) = true ∧ (s.brkOf
      n).lastPass + (s.g (F.SAF_BRK_CFG_BT_INTERVAL n) + 24) * 900000000000 < s.tb.ticks) :=
  ⟨⟨({ State.reset with clk := { State.reset.clk with power := .run, tripped := false, down := [] }, saf := { State.reset.saf with cycTick := none } }),
    (⟨0xFF, 0xFF, false, 0, false, false, false, 0⟩), by decide +kernel⟩,
    ⟨({ State.reset with clk := { State.reset.clk with power := .run, tripped := false, down := [] }, saf := { State.reset.saf with cycTick := none } }),
    (⟨0xFF, 0xFF, false, 0, true, false, false, 0⟩), by decide +kernel⟩,
    ⟨({ State.reset with saf := { State.reset.saf with cycTick := some State.reset.tb.ticks } }), (⟨0xFF, 0xFF, false, 0,
    false, false, false, 0⟩), by decide +kernel⟩,
    ⟨({ (State.reset.off F.SAF_LOCK_DEVICE).p F.SAF_SI_STATUS_DISC_FAULT 0 with saf := { State.reset.saf with discSince := [((0 : Fin 8), some (3 : Nat))] }, tb := { State.reset.tb with ticks := 2 ^ 60 } }),
    (0), (3), by decide +kernel⟩,
    ⟨({ State.reset.p F.SAF_STO_SS1_RUN 15 with tb := { State.reset.tb with ticks := 2 ^ 60 }, saf := { State.reset.saf with ss1Start := [] } }),
    (0), by decide +kernel⟩,
    ⟨((State.reset.off F.SAF_LOCK_DEVICE)), by decide +kernel⟩,
    ⟨({ ((State.reset.on (F.SAF_BRK_STATUS_RELEASED (0 : Fin 16))).setBrk (0 : Fin 16) BrkSt.reset).on (F.SAF_BRK_STATUS_BS (0 : Fin 16)) with tb := { State.reset.tb with ticks := 2 ^ 60 } }),
    (0), by decide +kernel⟩,
    ⟨({ ((State.reset.on (F.SAF_BRK_STATUS_RELEASED (0 : Fin 16))).setBrk (0 : Fin 16) BrkSt.reset).off (F.SAF_BRK_STATUS_BS (0 : Fin 16)) with tb := { State.reset.tb with ticks := 2 ^ 60 } }),
    (0), by decide +kernel⟩,
    ⟨({ ((State.reset.on (F.SAF_BRK_STATUS_RELEASED (0 : Fin 16))).setBrk (0 : Fin 16) BrkSt.reset).setBrk (0 : Fin 16) { BrkSt.reset with dark := true } with tb := { State.reset.tb with ticks := 2 ^ 60 } }),
    (0), by decide +kernel⟩,
    ⟨({ State.reset with saf := { State.reset.saf with bt := none } }), (.od 2), (0), (1), by decide +kernel⟩,
    ⟨({ State.reset.on (F.AX_PWM_STATUS_OUT_ACTIVE (0 : Fin 16)) with saf := { State.reset.saf with bt := none }, mg := { State.reset.mg with ledger := [⟨1, (0 : Fin 16), 2, (1 : BitVec 16).toNat, 0⟩] } }),
    (.od 2), (0), (1), by decide +kernel⟩,
    ⟨({ State.reset with saf := { State.reset.saf with bt := some (⟨3, 7, false, 0, 0, none, 0, 0⟩ : BtRun) }, tb := { State.reset.tb with ticks := 2 ^ 60 } }),
    (.od 2), (⟨3, 7, false, 0, 0, none, 0, 0⟩), by decide +kernel⟩,
    ⟨({ State.reset with saf := { State.reset.saf with bt := some (⟨3, 7, false, 0, 0, none, 0, 0⟩ : BtRun) }, tb := { State.reset.tb with ticks := 2 ^ 60 } }),
    (⟨3, 7, false, 0, 0, none, 0, 0⟩), by decide +kernel⟩,
    ⟨({ State.reset with saf := { State.reset.saf with bt := some (⟨3, 7, true, 0, 0, some 4, 0, 0⟩ : BtRun) }, tb := { State.reset.tb with ticks := 2 ^ 60 } }),
    (⟨3, 7, true, 0, 0, some 4, 0, 0⟩), (4), (3), by decide +kernel⟩,
    ⟨({ State.reset.p ⟨R.SAF_BT_I, 0, 24⟩ 9 with saf := { State.reset.saf with bt := some (⟨3, 7, true, 0, 0, none, 0, 0⟩ : BtRun) }, tb := { State.reset.tb with ticks := 2 ^ 60 } }),
    (⟨3, 7, true, 0, 0, none, 0, 0⟩), by decide +kernel⟩,
    ⟨({ ((State.reset.p (F.SAF_BRK_CFG_BT_INTERVAL (0 : Fin 16)) 2).off (F.SAF_BRK_STATUS_BT_DUE (0 : Fin 16))).setBrk (0 : Fin 16) BrkSt.reset with tb := { State.reset.tb with ticks := 2 ^ 60 } }),
    (0), by decide +kernel⟩,
    ⟨({ ((State.reset.p (F.SAF_BRK_CFG_BT_INTERVAL (0 : Fin 16)) 2).on (F.SAF_BRK_CFG_ENFORCE (0 : Fin 16))).setBrk (0 : Fin 16) BrkSt.reset with tb := { State.reset.tb with ticks := 2 ^ 60 } }),
    (0), by decide +kernel⟩⟩

theorem witness_DeliberateResetFollowsItsRules :
    (∃ (s : State), s.saf.srPulse = false) ∧
    (∃ (s : State) (p : Pset), s.saf.srPulse = true ∧ s.saf.psetWait = some p ∧ s.tb.ticks < s.saf.psetTick + 60000 *
      250000 ∧ s.tb.ticks < s.saf.unlockTick + 5000 * 250000 ∧ (∀ r ∈ p.recs, R.SAF_STO ≠ r.addr ∧ R.SAF_LOCK ≠ r.addr)) ∧
    (∃ (s : State), s.saf.srPulse = true ∧ s.saf.psetWait = none ∧ s.saf.unlock = some none ∧ s.tb.ticks < s.saf.unlockTick
      + 5000 * 250000) ∧
    (∃ (s : State) (n : Fin 16), s.saf.srPulse = true ∧ s.saf.psetWait = none ∧ s.saf.unlock = some (some n.val) ∧
      s.tb.ticks < s.saf.unlockTick + 5000 * 250000) ∧
    (∃ (s : State), s.saf.srPulse = true ∧ s.saf.psetWait = none ∧ s.saf.unlock = none) ∧
    (∃ (s : State), s.is F.SAF_SI_STATUS_SRESET = true ∧ s.saf.srRise + 5000 * 250000 < s.tb.ticks) ∧
    (∃ (s : State) (rq : Rq) (v : Word), s.reaches rq R.SAF_UNLOCK ∧ (getBits v 0 16 ≠ 0xC35A ∨ s.saf.psetWait.isSome =
      true ∨ (getBits v 16 1 = 0 ∧ s.devLocked = false) ∨ (getBits v 16 1 = 1 ∧ s.axLocked (getBits v 17 4) = false))) ∧
    (∃ (s : State) (rq : Rq) (v : Word), s.reaches rq R.SAF_UNLOCK ∧ getBits v 0 16 = 0xC35A ∧ s.saf.psetWait = none ∧
      getBits v 16 1 = 0 ∧ s.devLocked = true ∧ s.causeActive = false) ∧
    (∃ (s : State) (rq : Rq) (v : Word), s.reaches rq R.SAF_UNLOCK ∧ getBits v 0 16 = 0xC35A ∧ s.saf.psetWait = none ∧
      getBits v 16 1 = 1 ∧ s.axLocked (getBits v 17 4) = true ∧ s.axCauseActive (getBits v 17 4) = false) ∧
    (∃ (s : State) (rq : Rq) (v : Word), s.reaches rq R.SAF_UNLOCK ∧ ((getBits v 16 1 = 0 ∧ s.causeActive = true) ∨
      (getBits v 16 1 = 1 ∧ s.axCauseActive (getBits v 17 4) = true))) ∧
    (∃ (s : State), s.saf.unlock.isSome = true ∧ s.saf.unlockTick + 5000 * 250000 ≤ s.tb.ticks) ∧
    (∃ (s : State) (rq : Rq) (h : Word), s.reaches rq R.SAF_PSET_CMD ∧ h = s.rd R.SAF_PSET_HANDLE ∧ s.handleErr
      s.safetyOwner false h = none ∧ s.ipmPoison (s.bufAddr h) (min (classSize (handleClass h)) 12304) = none) ∧
    (∃ (s : State) (rq : Rq) (st : Nat), s.reaches rq R.SAF_PSET_CMD ∧ s.handleErr s.safetyOwner false (s.rd
      R.SAF_PSET_HANDLE) = some st) ∧
    (∃ (s : State) (l : List Byte), s.saf.psetRead = some (some l) ∧ s.psetReason l = 0) ∧
    (∃ (s : State) (l : List Byte), s.saf.psetRead = some (some l) ∧ s.psetReason l ≠ 0) ∧
    (∃ (s : State), s.saf.psetRead = some none) ∧
    (∃ (s : State) (r : Option (List Byte)), s.saf.psetRead = some r) ∧
    (∃ (s : State) (rq : Rq), s.reaches rq R.SAF_PSET_CMD ∧ s.saf.psetWait.isSome = true) ∧
    (∃ (s : State), s.saf.psetWait.isSome = true ∧ s.saf.psetTick + 60000 * 250000 ≤ s.tb.ticks) ∧
    (∃ (s : State) (p : Pset), s.saf.reloaded = false ∧ s.saf.psetFlash = some p) ∧
    (∃ (s : State) (ok : Bool), s.saf.reloaded = false ∧ (s.saf.psetFlash = none ∨ ok = false) ∧ s.is F.SAF_LOCK_DEVICE =
      false) :=
  ⟨⟨({ State.reset with saf := { State.reset.saf with srPulse := false } }), by decide +kernel⟩,
    ⟨({ State.reset with saf := { State.reset.saf with srPulse := true, psetWait := some (⟨5, 77, []⟩ : Pset), psetTick := State.reset.tb.ticks, unlockTick := State.reset.tb.ticks } }),
    (⟨5, 77, []⟩), by decide +kernel⟩,
    ⟨({ State.reset.on F.SAF_LOCK_DEVICE with saf := { State.reset.saf with srPulse := true, psetWait := none, unlock := some none, unlockTick := State.reset.tb.ticks } }),
    by decide +kernel⟩,
    ⟨({ State.reset.p F.SAF_LOCK_AXIS 0xFFFF with saf := { State.reset.saf with srPulse := true, psetWait := none, unlock := some (some (0 : Fin 16).val), unlockTick := State.reset.tb.ticks } }),
    (0), by decide +kernel⟩,
    ⟨({ State.reset.p F.SAF_STO_RESTART_WAIT 15 with saf := { State.reset.saf with srPulse := true, psetWait := none, unlock := none } }),
    by decide +kernel⟩,
    ⟨({ State.reset.on F.SAF_SI_STATUS_SRESET with saf := { State.reset.saf with srRise := 0 }, tb := { State.reset.tb with ticks := 2 ^ 60 } }),
    by decide +kernel⟩,
    ⟨(State.reset), (.od 2), (0xC35B), by decide +kernel⟩,
    ⟨({ (State.reset.on F.SAF_LOCK_DEVICE).p F.SAF_LOCK_CAUSE 9 with saf := { State.reset.saf with psetWait := none } }),
    (.od 2), (0xC35A), by decide +kernel⟩,
    ⟨({ (State.reset.p F.SAF_LOCK_AXIS 0xFFFF).off (F.FXG_AX_STATUS_CAUSE 3) with saf := { State.reset.saf with psetWait := none } }),
    (.od 2), (0x7C35A), by decide +kernel⟩,
    ⟨((State.reset.p (F.FXG_AX_STATUS_CAUSE 3) 8).on (F.AX_FB_STATUS_FAULT 3)), (.od 2), (0x7C35A), by decide +kernel⟩,
    ⟨({ State.reset with saf := { State.reset.saf with unlock := some none, unlockTick := 0 }, tb := { State.reset.tb with ticks := 2 ^ 60 } }),
    by decide +kernel⟩,
    ⟨(((State.reset.wr R.SAF_PSET_HANDLE 0x01000000).p (F.POOL_C_CFG_COUNT 0) 4).setBuf 0 ⟨1, some 2⟩), (.od 2),
    (0x01000000), by decide +kernel⟩,
    ⟨((State.reset.wr R.SAF_PSET_HANDLE 0x01000000).p (F.POOL_C_CFG_COUNT 0) 0), (.od 2), (5), by decide +kernel⟩,
    ⟨({ State.reset.wr R.SAF_PSET_SEQ 3 with saf := { State.reset.saf with psetRead := some (some ([1, 0, 1, 0, 9, 0, 0, 0, 0x14, 0x48, 0xA4, 0x70, 0, 0, 0, 0, 0x10, 0, 0x11, 1, 5, 0, 0, 0, 0xFF, 0xFF, 0xFF, 0xFF] : List Byte)) } }),
    ([1, 0, 1, 0, 9, 0, 0, 0, 0x14, 0x48, 0xA4, 0x70, 0, 0, 0, 0, 0x10, 0, 0x11, 1, 5, 0, 0, 0, 0xFF, 0xFF, 0xFF,
    0xFF]), by decide +kernel⟩,
    ⟨({ State.reset with saf := { State.reset.saf with psetRead := some (some ([1, 0] : List Byte)) } }), ([1, 0]),
    by decide +kernel⟩,
    ⟨({ State.reset with saf := { State.reset.saf with psetRead := some (none) } }), by decide +kernel⟩,
    ⟨({ State.reset with saf := { State.reset.saf with psetRead := some ((none : Option (List Byte))) } }), (none),
    by decide +kernel⟩,
    ⟨({ State.reset with saf := { State.reset.saf with psetWait := some ⟨5, 77, []⟩ } }), (.od 2), by decide +kernel⟩,
    ⟨({ State.reset with saf := { State.reset.saf with psetWait := some ⟨5, 77, []⟩, psetTick := 0 }, tb := { State.reset.tb with ticks := 2 ^ 60 } }),
    by decide +kernel⟩,
    ⟨({ State.reset with saf := { State.reset.saf with reloaded := false, psetFlash := some (⟨5, 77, []⟩ : Pset) } }), (⟨5,
    77, []⟩), by decide +kernel⟩,
    ⟨({ State.reset.off F.SAF_LOCK_DEVICE with saf := { State.reset.saf with reloaded := false, psetFlash := none } }),
    (true), by decide +kernel⟩⟩

theorem witness_EventsAreDelivered :
    (∃ (s : State) (d : Detected) (rest : List Detected), s.evt.detected = d :: rest ∧ d.tick < s.tb.ticks) ∧
    (∃ (s : State) (d : Detected) (rest : List Detected), s.evt.detected = d :: rest ∧ d.tick = s.tb.ticks) ∧
    (∃ (s : State) (d : Detected) (rest : List Detected) (n : Fin 4), s.evt.detected = d :: rest ∧ d.tick < s.tb.ticks ∧
      (getBits d.route 9 1 = 0 ∧ getBits d.route 10 1 = 0 ∧ getBits d.route 11 1 = 0) ∧ (d.dest = some n.val ∨ (d.dest =
      none ∧ s.evOwner d.ev = some n.val ∧ getBits d.route 0 1 = 1)) ∧ s.evRingUp n = true ∧ (s.evq n).length <
      s.coalLevel n) ∧
    (∃ (s : State) (d : Detected) (rest : List Detected) (n : Fin 4), s.evt.detected = d :: rest ∧ d.tick < s.tb.ticks ∧
      (getBits d.route 9 1 = 0 ∧ getBits d.route 10 1 = 0 ∧ getBits d.route 11 1 = 0) ∧ (d.dest = some n.val ∨ (d.dest =
      none ∧ s.evOwner d.ev = some n.val ∧ getBits d.route 0 1 = 1)) ∧ s.evRingUp n = true ∧ s.coalLevel n ≤ (s.evq
      n).length ∧ getBits d.route 15 1 = 0 ∧ mergeable (s.evq n) (d.toRecord s.now n) = true) ∧
    (∃ (s : State) (d : Detected) (rest : List Detected) (n : Fin 4), s.evt.detected = d :: rest ∧ d.tick < s.tb.ticks ∧
      (getBits d.route 9 1 = 0 ∧ getBits d.route 10 1 = 0 ∧ getBits d.route 11 1 = 0) ∧ (d.dest = some n.val ∨ (d.dest =
      none ∧ s.evOwner d.ev = some n.val ∧ getBits d.route 0 1 = 1)) ∧ s.evRingUp n = true ∧ s.coalLevel n ≤ (s.evq
      n).length ∧ (getBits d.route 15 1 = 1 ∨ mergeable (s.evq n) (d.toRecord s.now n) = false) ∧ (s.evq n).length < 511) ∧
    (∃ (s : State) (d : Detected) (rest : List Detected) (n : Fin 4), s.evt.detected = d :: rest ∧ d.tick < s.tb.ticks ∧
      (getBits d.route 9 1 = 0 ∧ getBits d.route 10 1 = 0 ∧ getBits d.route 11 1 = 0) ∧ (d.dest = some n.val ∨ (d.dest =
      none ∧ s.evOwner d.ev = some n.val ∧ getBits d.route 0 1 = 1)) ∧ s.evRingUp n = false) ∧
    (∃ (s : State) (d : Detected) (rest : List Detected), s.evt.detected = d :: rest ∧ d.tick < s.tb.ticks ∧ ((getBits
      d.route 9 1 = 1 ∨ d.dest = some 4) ∧ getBits d.route 10 1 = 0 ∧ getBits d.route 11 1 = 0) ∧ (d.dest = some 4 ∨
      getBits d.route 0 1 = 0) ∧ (s.mg.intake ≠ [] ∧ s.mg.intake.length < 511) ∧ (getBits d.route 15 1 = 1 ∨ mergeable
      s.mg.intake (d.toRecord s.now 7) = false)) ∧
    (∃ (s : State) (d : Detected) (rest : List Detected), s.evt.detected = d :: rest ∧ d.tick < s.tb.ticks ∧ d.dest = none
      ∧ (getBits d.route 0 1 = 0 ∧ getBits d.route 9 1 = 0 ∧ getBits d.route 10 1 = 1 ∧ getBits d.route 11 1 = 0)) ∧
    (∃ (s : State) (d : Detected) (rest : List Detected), s.evt.detected = d :: rest ∧ d.tick < s.tb.ticks ∧ d.dest = none
      ∧ (getBits d.route 0 1 = 0 ∧ getBits d.route 9 1 = 0 ∧ getBits d.route 10 1 = 0 ∧ getBits d.route 11 1 = 1)) ∧
    (∃ (s : State) (rq : Rq) (k : Fin 2048) (v : Word), s.reaches rq (R.EVT_ROUTE k) ∧ getBits v 1 2 ≠ 3) ∧
    (∃ (s : State) (rq : Rq) (k : Fin 2048) (v : Word), s.reaches rq (R.EVT_ROUTE k) ∧ getBits v 1 2 = 3) :=
  ⟨⟨({ State.reset with evt := { State.reset.evt with detected := (⟨480, 0, 7, 0, 1, none⟩ : Detected) :: ([] : List Detected), queues := [] }, tb := { State.reset.tb with ticks := 9 } }),
    (⟨480, 0, 7, 0, 1, none⟩), ([]), by decide +kernel⟩,
    ⟨({ State.reset with evt := { State.reset.evt with detected := (⟨480, 0, 7, 9, 1, none⟩ : Detected) :: ([] : List Detected), queues := [] }, tb := { State.reset.tb with ticks := 9 } }),
    (⟨480, 0, 7, 9, 1, none⟩), ([]), by decide +kernel⟩,
    ⟨({ (State.reset.on (F.HIF_OD_EVQ_CFG_EN (0 : Fin 4))).off (F.HIF_OD_EVQ_STATUS_BROKEN (0 : Fin 4)) with evt := { State.reset.evt with detected := (⟨480, 0, 7, 0, 1, none⟩ : Detected) :: ([] : List Detected), queues := [] }, tb := { State.reset.tb with ticks := 9 } }),
    (⟨480, 0, 7, 0, 1, none⟩), ([]), (0), by decide +kernel⟩,
    ⟨((fun (s : State) =>
    { (s.on (F.HIF_OD_EVQ_CFG_EN (0 : Fin 4))).off (F.HIF_OD_EVQ_STATUS_BROKEN (0 : Fin 4)) with evt := { s.evt with detected := (⟨480, 0, 7, 0, 1, none⟩ : Detected) :: ([] : List Detected), queues := [] }, tb := { s.tb with ticks := 9 } }
    |> fun s =>
    { s with evt := { s.evt with queues := [((0 : Fin 4).val, List.replicate 520 ((⟨480, 0, 7, 0, 1, none⟩ : Detected).toRecord s.now (0 : Fin 4)))] } })
    State.reset), (⟨480, 0, 7, 0, 1, none⟩), ([]), (0), by decide +kernel⟩,
    ⟨((fun (s : State) =>
    { (s.on (F.HIF_OD_EVQ_CFG_EN (0 : Fin 4))).off (F.HIF_OD_EVQ_STATUS_BROKEN (0 : Fin 4)) with evt := { s.evt with detected := (⟨480, 0, 7, 0, 0x8001, none⟩ : Detected) :: ([] : List Detected), queues := [] }, tb := { s.tb with ticks := 9 } }
    |> fun s =>
    { s.p (F.EVT_OD_CFG_COAL_LEVEL (0 : Fin 4)) 64 with evt := { s.evt with queues := [((0 : Fin 4).val, List.replicate 70 ((⟨480, 0, 7, 0, 0x8001, none⟩ : Detected).toRecord s.now (0 : Fin 4)))] } })
    State.reset), (⟨480, 0, 7, 0, 0x8001, none⟩), ([]), (0), by decide +kernel⟩,
    ⟨({ State.reset with evt := { State.reset.evt with detected := (⟨480, 0, 7, 0, 1, none⟩ : Detected) :: ([] : List Detected), queues := [] }, tb := { State.reset.tb with ticks := 9 } }),
    (⟨480, 0, 7, 0, 1, none⟩), ([]), (0), by decide +kernel⟩,
    ⟨((fun (s : State) =>
    { s with evt := { s.evt with detected := (⟨480, 0, 7, 0, 0x8200, none⟩ : Detected) :: ([] : List Detected), queues := [] }, tb := { s.tb with ticks := 9 } }
    |> fun s => { s with mg := { s.mg with intake := [(⟨480, 0, 7, 0, 0x8200, none⟩ : Detected).toRecord 0 7] } })
    State.reset), (⟨480, 0, 7, 0, 0x8200, none⟩), ([]), by decide +kernel⟩,
    ⟨({ State.reset with evt := { State.reset.evt with detected := (⟨480, 0, 7, 0, 0x400, none⟩ : Detected) :: ([] : List Detected), queues := [] }, tb := { State.reset.tb with ticks := 9 } }),
    (⟨480, 0, 7, 0, 0x400, none⟩), ([]), by decide +kernel⟩,
    ⟨({ State.reset with evt := { State.reset.evt with detected := (⟨480, 0, 7, 0, 0x1800, none⟩ : Detected) :: ([] : List Detected), queues := [] }, tb := { State.reset.tb with ticks := 9 } }),
    (⟨480, 0, 7, 0, 0x1800, none⟩), ([]), by decide +kernel⟩,
    ⟨(State.reset), (.od 0), (480), (0x12345), by decide +kernel⟩,
    ⟨(State.reset), (.od 0), (480), (0x12347), by decide +kernel⟩⟩

theorem witness_ResetsFollowTheirRules :
    (∃ (s : State), s.clk.power ≠ .dormant) ∧
    (∃ (s : State), s.clk.power = .dormant ∧ s.clk.waking = true) ∧
    (∃ (s : State), s.clk.power = .dormant ∧ s.clk.waking = false) ∧
    (∃ (s : State), s.clk.wdogAsk = true) ∧
    (∃ (s : State), s.clk.wdogAsk = false ∧ s.tb.ticks < s.clk.kickTick + s.g F.RST_WDOG_TIMEOUT * 250000) ∧
    (∃ (s : State), s.clk.kickTick + s.g F.RST_WDOG_TIMEOUT * 250000 ≤ s.tb.ticks ∧ s.mg.halted.getD 4 false = false ∧
      s.clk.power = .run) ∧
    (∃ (s : State) (rq : Rq), s.reaches rq R.RST_WDOG ∧ 10 ≤ s.g F.RST_WDOG_TIMEOUT) ∧
    (∃ (s : State) (rq : Rq) (scope : Fin 8) (l : List Nat), s.reaches rq R.RST_CMD ∧ scopeDomains scope = some l) ∧
    (∃ (s : State) (rq : Rq), s.reaches rq R.RST_CMD) ∧
    (∃ (s : State) (rq : Rq) (scope : Fin 8), s.reaches rq R.RST_CMD ∧ 4 < scope.val) ∧
    (∃ (s : State), s.mg.halted.getD 4 false = false) ∧
    (∃ (s : State), s.mg.halted.getD 4 false = true) ∧
    (∃ (s : State) (d : Nat) (rest : List Nat), s.clk.releases = d :: rest ∧ s.releaseDue = true ∧ s.staysDown d = false) ∧
    (∃ (s : State) (d : Nat) (rest : List Nat), s.clk.releases = d :: rest ∧ s.releaseDue = true ∧ s.staysDown d = true) ∧
    (∃ (s : State), s.clk.down.contains 5 = false) ∧
    (∃ (s : State), s.clk.down.contains 5 = true) ∧
    (∃ (s : State), (s.clk.releases = [] ∨ s.releaseDue = false)) :=
  ⟨⟨({ State.reset with clk := { State.reset.clk with power := .run } }), by decide +kernel⟩,
    ⟨({ State.reset with clk := { State.reset.clk with power := .dormant, waking := true } }), by decide +kernel⟩,
    ⟨({ State.reset with clk := { State.reset.clk with power := .dormant, waking := false } }), by decide +kernel⟩,
    ⟨({ State.reset with clk := { State.reset.clk with wdogAsk := true } }), by decide +kernel⟩,
    ⟨({ State.reset.p F.RST_WDOG_TIMEOUT 10 with clk := { State.reset.clk with wdogAsk := false, kickTick := State.reset.tb.ticks } }),
    by decide +kernel⟩,
    ⟨({ State.reset.p F.RST_WDOG_TIMEOUT 10 with clk := { State.reset.clk with wdogAsk := false, kickTick := 0, power := .run }, tb := { State.reset.tb with ticks := 2 ^ 60 }, mg := { State.reset.mg with halted := [] } }),
    by decide +kernel⟩,
    ⟨(State.reset.p F.RST_WDOG_TIMEOUT 100), (.camellia), by decide +kernel⟩,
    ⟨(State.reset), (.od 0), (2), ([7]), by decide +kernel⟩,
    ⟨(State.reset), (.od 0), by decide +kernel⟩,
    ⟨(State.reset), (.od 0), (5), by decide +kernel⟩,
    ⟨({ State.reset with mg := { State.reset.mg with halted := [false, false, false, false, false] } }), by decide +kernel⟩,
    ⟨({ State.reset with mg := { State.reset.mg with halted := [false, false, false, false, true] } }), by decide +kernel⟩,
    ⟨({ State.reset with clk := { State.reset.clk with releases := (1 : Nat) :: ([2, 3] : List Nat), relTick := none } }),
    (1), ([2, 3]), by decide +kernel⟩,
    ⟨({ State.reset.on F.CLK_STATUS_DEGRADED with clk := { State.reset.clk with releases := (8 : Nat) :: ([] : List Nat), relTick := none } }),
    (8), ([]), by decide +kernel⟩,
    ⟨({ State.reset with clk := { State.reset.clk with down := [] } }), by decide +kernel⟩,
    ⟨({ State.reset with clk := { State.reset.clk with down := [5] } }), by decide +kernel⟩,
    ⟨({ State.reset with clk := { State.reset.clk with releases := [] } }), by decide +kernel⟩⟩

theorem witness_ClocksFollowTheirRules :
    (∃ (s : State) (r : Fin 3), s.clk.down.contains 2 = false ∧ s.refReady r = false) ∧
    (∃ (s : State) (r : Fin 3) (use : Nat), s.clk.down.contains 2 = false ∧ s.refReady r = false ∧ s.is
      F.CLK_STATUS_SWITCHING = false ∧ s.g F.CLK_STATUS_REF_IN_USE = use ∧ use < 3 ∧ s.refReady use = true ∧ s.g
      F.CLK_REF_CFG_PRIO0 = r.val ∧ use ≠ r.val ∧ s.is F.CLK_STATUS_HOLDOFF = true) ∧
    (∃ (s : State) (r : Fin 3) (use : Nat), s.clk.down.contains 2 = false ∧ s.refReady r = false ∧ s.is
      F.CLK_STATUS_SWITCHING = false ∧ s.g F.CLK_STATUS_REF_IN_USE = use ∧ use < 3 ∧ s.refReady use = true ∧ s.g
      F.CLK_REF_CFG_PRIO0 = r.val ∧ use ≠ r.val ∧ s.is F.CLK_STATUS_HOLDOFF = false ∧ s.is F.CLK_REF_CFG_POLICY = false) ∧
    (∃ (s : State) (r : Fin 3), s.refReady r = true ∧ s.g F.CLK_STATUS_REF_IN_USE = r.val ∧ s.is F.CLK_STATUS_SWITCHING =
      false) ∧
    (∃ (s : State) (r : Fin 3), s.refReady r = true) ∧
    (∃ (s : State) (r : Fin 3), s.refReady r = false) ∧
    (∃ (s : State) (r : Fin 3), (s.clk.down.contains 2 = true ∨ s.refReady r = true)) ∧
    (∃ (s : State) (p : Fin 3), s.pllCanLock p = true) ∧
    (∃ (s : State), s.pllCanLock 0 = true ∧ s.clk.sysSeen = false ∧ s.is F.CLK_STATUS_SWITCHING = false) ∧
    (∃ (s : State), s.is F.CLK_STATUS_SWITCHING = true ∧ s.clk.swTick + atLeast1 (s.g F.CLK_REF_HOLDOFF_SWITCH_TMO) *
      250000 ≤ s.tb.ticks) ∧
    (∃ (s : State), s.is F.CLK_STATUS_HOLDOFF = true ∧ s.clk.holdTick + clampN 1 600 (s.g F.CLK_REF_HOLDOFF_HOLDOFF) * 100
      * 250000 ≤ s.tb.ticks) ∧
    (∃ (s : State) (rq : Rq) (b : Nat), s.reaches rq R.CLK_CMD ∧ s.clk.pendingRef = some b ∧ s.is F.CLK_STATUS_SWITCHING =
      false ∧ s.is F.CLK_STATUS_HOLDOFF = false ∧ s.is F.CLK_STATUS_DEGRADED = false) ∧
    (∃ (s : State) (rq : Rq), s.reaches rq R.CLK_CMD ∧ s.clk.pendingRef = none) ∧
    (∃ (s : State) (rq : Rq), s.reaches rq R.CLK_CMD ∧ (s.is F.CLK_STATUS_SWITCHING = true ∨ s.is F.CLK_STATUS_HOLDOFF =
      true ∨ s.is F.CLK_STATUS_DEGRADED = true)) ∧
    (∃ (s : State) (rq : Rq), s.reaches rq R.CLK_CMD ∧ s.is F.CLK_STATUS_DEGRADED = true ∧ s.pllReady 0 = true ∧ s.is
      F.CLK_STATUS_SWITCHING = false) ∧
    (∃ (s : State) (rq : Rq), s.reaches rq R.CLK_CMD ∧ (s.is F.CLK_STATUS_DEGRADED = false ∨ s.pllReady 0 = false ∨ s.is
      F.CLK_STATUS_SWITCHING = true)) ∧
    (∃ (s : State) (rq : Rq) (v : Word), s.reaches rq R.CLK_DOM_SEL ∧ testBit v.toNat 0 = testBit (s.g F.CLK_DOM_SEL_SRC) 0
      ∧ s.is F.CLK_STATUS_MG_READY = true ∧ s.pllReady 0 = true) ∧
    (∃ (s : State) (rq : Rq) (v : Word) (d : Fin 6), s.reaches rq R.CLK_DOM_SEL ∧ testBit v.toNat d = true ∧ testBit (s.g
      F.CLK_DOM_SEL_SRC) d = false ∧ (d.val = 0 ∨ s.is F.CLK_STATUS_MG_READY = false)) ∧
    (∃ (s : State) (rq : Rq) (v : Word) (d : Fin 6), s.reaches rq R.CLK_DOM_SEL ∧ testBit v.toNat d = false ∧ testBit (s.g
      F.CLK_DOM_SEL_SRC) d = true ∧ s.pllReady 0 = false) ∧
    (∃ (s : State), s.clk.sysSeen = true ∧ s.clk.tripped = false ∧ s.is F.CLK_STATUS_DEGRADED = false ∧ s.clk.power = .run) ∧
    (∃ (s : State), (s.clk.sysSeen = false ∨ s.clk.tripped = true ∨ (s.is F.CLK_STATUS_DEGRADED = true ∧ s.pllReady 0 =
      false) ∨ s.clk.power ≠ .run)) ∧
    (∃ (s : State), s.clk.sysSeen = true ∧ s.clk.tripped = false ∧ s.is F.CLK_STATUS_DEGRADED = true ∧ s.pllReady 0 = true
      ∧ s.clk.power = .run) ∧
    (∃ (s : State), s.clk.marigold = true ∧ s.clk.tripped = false) ∧
    (∃ (s : State), s.clk.marigold = true ∧ s.clk.tripped = true ∧ s.tb.ticks ≤ s.clk.tripTick + marigoldTicks) ∧
    (∃ (s : State), (s.clk.marigold = false ∨ (s.clk.tripped = true ∧ s.clk.tripTick + marigoldTicks < s.tb.ticks))) ∧
    (∃ (s : State), ((s.clk.tripped = true ∧ s.clk.tripTick + marigoldTicks ≤ s.tb.ticks) ∨ s.is F.CLK_STATUS_DEGRADED =
      true)) ∧
    (∃ (s : State), s.pllReady 0 = true ∧ s.passed s.clk.sdTick 1000 = true) ∧
    (∃ (s : State), s.pllReady 0 = true ∧ s.is F.CLK_STATUS_DEGRADED = false ∧ s.clk.marigold = false ∧ s.passed
      s.clk.mgTick 60000 = true) ∧
    (∃ (s : State), (s.pllReady 0 = false ∨ s.passed s.clk.sdTick 1000 = false)) ∧
    (∃ (s : State), (s.pllReady 0 = false ∨ s.is F.CLK_STATUS_DEGRADED = true ∨ s.clk.marigold = true ∨ s.passed
      s.clk.mgTick 60000 = false)) ∧
    (∃ (s : State), s.pllReady 1 = true) ∧
    (∃ (s : State), s.pllReady 2 = true) :=
  ⟨⟨({ State.reset.p F.CLK_STATUS_REF_READY 0 with clk := { State.reset.clk with down := [] } }), (0), by decide +kernel⟩,
    ⟨({ (((((State.reset.p F.CLK_STATUS_REF_READY (2 ^ (1 : Nat))).off F.CLK_STATUS_SWITCHING).p F.CLK_STATUS_REF_IN_USE (1 : Nat)).p F.CLK_REF_CFG_PRIO0 (0 : Fin 3)).on F.CLK_STATUS_HOLDOFF) with clk := { State.reset.clk with down := [] } }),
    (0), (1), by decide +kernel⟩,
    ⟨({ ((((((State.reset.p F.CLK_STATUS_REF_READY (2 ^ (1 : Nat))).off F.CLK_STATUS_SWITCHING).p F.CLK_STATUS_REF_IN_USE (1 : Nat)).p F.CLK_REF_CFG_PRIO0 (0 : Fin 3)).off F.CLK_REF_CFG_POLICY).off F.CLK_STATUS_HOLDOFF) with clk := { State.reset.clk with down := [] } }),
    (0), (1), by decide +kernel⟩,
    ⟨(((State.reset.p F.CLK_STATUS_REF_READY 7).p F.CLK_STATUS_REF_IN_USE (0 : Fin 3)).off F.CLK_STATUS_SWITCHING), (0),
    by decide +kernel⟩,
    ⟨(State.reset.p F.CLK_STATUS_REF_READY 7), (0), by decide +kernel⟩,
    ⟨(State.reset.p F.CLK_STATUS_REF_READY 0), (0), by decide +kernel⟩,
    ⟨(State.reset.p F.CLK_STATUS_REF_READY 7), (0), by decide +kernel⟩,
    ⟨({ (State.reset.p F.CLK_STATUS_REF_READY 7).p F.CLK_STATUS_REF_IN_USE 0 with clk := { State.reset.clk with down := [], power := .run } }),
    (0), by decide +kernel⟩,
    ⟨({ ((State.reset.p F.CLK_STATUS_REF_READY 7).p F.CLK_STATUS_REF_IN_USE 0).off F.CLK_STATUS_SWITCHING with clk := { State.reset.clk with down := [], power := .run, sysSeen := false } }),
    by decide +kernel⟩,
    ⟨({ State.reset.on F.CLK_STATUS_SWITCHING with clk := { State.reset.clk with swTick := 0 }, tb := { State.reset.tb with ticks := 2 ^ 60 } }),
    by decide +kernel⟩,
    ⟨({ State.reset.on F.CLK_STATUS_HOLDOFF with clk := { State.reset.clk with holdTick := 0 }, tb := { State.reset.tb with ticks := 2 ^ 60 } }),
    by decide +kernel⟩,
    ⟨({ ((State.reset.off F.CLK_STATUS_SWITCHING).off F.CLK_STATUS_HOLDOFF).off F.CLK_STATUS_DEGRADED with clk := { State.reset.clk with pendingRef := some (2 : Nat) } }),
    (.od 0), (2), by decide +kernel⟩,
    ⟨({ State.reset with clk := { State.reset.clk with pendingRef := none } }), (.od 0), by decide +kernel⟩,
    ⟨({ State.reset.on F.CLK_STATUS_HOLDOFF with clk := { State.reset.clk with pendingRef := some 1 } }), (.od 0),
    by decide +kernel⟩,
    ⟨(((State.reset.on F.CLK_STATUS_DEGRADED).p F.CLK_STATUS_PLL_READY 1).off F.CLK_STATUS_SWITCHING), (.od 0),
    by decide +kernel⟩,
    ⟨(State.reset), (.od 0), by decide +kernel⟩,
    ⟨(((State.reset.on F.CLK_STATUS_MG_READY).p F.CLK_STATUS_PLL_READY 7).p F.CLK_DOM_SEL_SRC 0), (.od 0), (0x2A),
    by decide +kernel⟩,
    ⟨((State.reset.p F.CLK_DOM_SEL_SRC 0).off F.CLK_STATUS_MG_READY), (.od 0), (0x3F), (0), by decide +kernel⟩,
    ⟨((State.reset.p F.CLK_DOM_SEL_SRC 63).p F.CLK_STATUS_PLL_READY 0), (.od 0), (0), (0), by decide +kernel⟩,
    ⟨({ (State.reset.off F.CLK_STATUS_DEGRADED) with clk := { State.reset.clk with sysSeen := true, tripped := false, power := .run } }),
    by decide +kernel⟩,
    ⟨({ State.reset with clk := { State.reset.clk with sysSeen := false } }), by decide +kernel⟩,
    ⟨({ ((State.reset.on F.CLK_STATUS_DEGRADED).p F.CLK_STATUS_PLL_READY 1) with clk := { State.reset.clk with sysSeen := true, tripped := false, power := .run } }),
    by decide +kernel⟩,
    ⟨({ State.reset with clk := { State.reset.clk with marigold := true, tripped := false } }), by decide +kernel⟩,
    ⟨({ State.reset with clk := { State.reset.clk with marigold := true, tripped := true, tripTick := State.reset.tb.ticks } }),
    by decide +kernel⟩,
    ⟨({ State.reset with clk := { State.reset.clk with marigold := false } }), by decide +kernel⟩,
    ⟨(State.reset.on F.CLK_STATUS_DEGRADED), by decide +kernel⟩,
    ⟨(State.reset.p F.CLK_STATUS_PLL_READY 7), by decide +kernel⟩,
    ⟨({ (State.reset.p F.CLK_STATUS_PLL_READY 7).off F.CLK_STATUS_DEGRADED with clk := { State.reset.clk with marigold := false } }),
    by decide +kernel⟩,
    ⟨(State.reset.p F.CLK_STATUS_PLL_READY 0), by decide +kernel⟩,
    ⟨(State.reset.p F.CLK_STATUS_PLL_READY 0), by decide +kernel⟩,
    ⟨((State.reset.p F.CLK_STATUS_PLL_READY 7).on (F.ETH_STATUS_LINK 1)), by decide +kernel⟩,
    ⟨(State.reset.p F.CLK_STATUS_PLL_READY 7), by decide +kernel⟩⟩

theorem witness_PowerStatesAndCrossingsFollowTheirRules :
    (∃ (s : State) (rq : Rq), s.reaches rq R.PWR_CMD ∧ (s.sleepReason ≠ 0 ∨ s.clk.power ≠ .run)) ∧
    (∃ (s : State) (rq : Rq), s.reaches rq R.PWR_CMD ∧ (s.sleepReason ≠ 0 ∨ s.clk.power ≠ .run)) ∧
    (∃ (s : State) (rq : Rq), s.reaches rq R.PWR_CMD ∧ s.sleepReason = 0 ∧ s.clk.power = .run) ∧
    (∃ (s : State) (rq : Rq), s.reaches rq R.PWR_CMD ∧ s.sleepReason = 0 ∧ s.clk.power = .run) ∧
    (∃ (s : State) (w : WakeSrc), s.wakes w = true) ∧
    (∃ (s : State) (w : WakeSrc), s.wakes w = false) ∧
    (∃ (s : State), s.clk.power = .doze ∧ s.clk.waking = true ∧ s.pllReady 0 = true) ∧
    (∃ (s : State) (c : Fin 4), s.mg.halted.getD c false = false) ∧
    (∃ (s : State) (_n : Fin 4), s.clk.down.contains 4 = false) ∧
    (∃ (s : State) (c : Fin 4), s.mg.halted.getD c false = true) ∧
    (∃ (s : State) (_n : Fin 4), s.clk.down.contains 4 = true) :=
  ⟨⟨(State.reset.on (F.AUX_CFG_EN 0)), (.od 0), by decide +kernel⟩,
    ⟨(State.reset.on (F.AUX_CFG_EN 0)), (.od 0), by decide +kernel⟩,
    ⟨({ ((State.reset.off F.CLK_STATUS_SWITCHING).off F.CLK_STATUS_HOLDOFF).off F.CLK_STATUS_DEGRADED |>.off F.PWR_WAKE_CFG_EN with clk := { State.reset.clk with power := .run }, mg := { State.reset.mg with ledger := [] } }),
    (.od 0), by decide +kernel⟩,
    ⟨({ ((State.reset.off F.CLK_STATUS_SWITCHING).off F.CLK_STATUS_HOLDOFF).off F.CLK_STATUS_DEGRADED |>.off F.PWR_WAKE_CFG_EN with clk := { State.reset.clk with power := .run }, mg := { State.reset.mg with ledger := [] } }),
    (.od 0), by decide +kernel⟩,
    ⟨({ State.reset.p F.PWR_WAKE_CFG_EN 63 with clk := { State.reset.clk with power := .dormant, waking := false } }),
    (.wakeN), by decide +kernel⟩,
    ⟨({ State.reset with clk := { State.reset.clk with power := .dormant } }), (.host), by decide +kernel⟩,
    ⟨({ State.reset.p F.CLK_STATUS_PLL_READY 1 with clk := { State.reset.clk with power := .doze, waking := true } }),
    by decide +kernel⟩,
    ⟨({ State.reset with mg := { State.reset.mg with halted := [false, false, false, false, false] } }), (0),
    by decide +kernel⟩,
    ⟨({ State.reset.on (F.HIF_OD_CTL_EN (0 : Fin 4)) with clk := { State.reset.clk with down := [] } }), (0),
    by decide +kernel⟩,
    ⟨({ State.reset with mg := { State.reset.mg with halted := [true, true, true, true, false] } }), (0), by decide +kernel⟩,
    ⟨({ State.reset with clk := { State.reset.clk with down := [4] } }), (0), by decide +kernel⟩⟩

theorem witness_CamelliaBootsAndKeepsItsRecords :
    (∃ (s : State), s.clk.down.contains 3 = false ∧ s.is F.GLB_READY_FW_VERIFIED = false ∧ s.is F.MGT_STATUS_RECOVERY =
      false ∧ s.mg.policyStaged = none ∧ s.mg.preferredB = false ∧ s.slotCheck 0 = 0) ∧
    (∃ (s : State), s.clk.down.contains 3 = false ∧ s.is F.GLB_READY_FW_VERIFIED = false ∧ s.is F.MGT_STATUS_RECOVERY =
      false ∧ s.mg.policyStaged = none ∧ s.mg.preferredB = true ∧ s.slotCheck 1 ≠ 0 ∧ s.slotCheck 0 = 0) ∧
    (∃ (s : State), s.clk.down.contains 3 = false ∧ s.is F.GLB_READY_FW_VERIFIED = false ∧ s.is F.MGT_STATUS_RECOVERY =
      false ∧ s.mg.policyStaged = none ∧ s.slotCheck 0 ≠ 0 ∧ s.slotCheck 1 ≠ 0) ∧
    (∃ (s : State), s.clk.down.contains 3 = false ∧ s.is F.GLB_READY_FW_VERIFIED = false ∧ s.is F.MGT_STATUS_RECOVERY =
      false ∧ s.mg.policyStaged = none ∧ s.mg.preferredB = false ∧ s.slotCheck 0 ≠ 0 ∧ s.slotCheck 1 = 0) ∧
    (∃ (s : State), s.clk.down.contains 3 = false ∧ s.is F.GLB_READY_FW_VERIFIED = false ∧ s.is F.MGT_STATUS_RECOVERY =
      false ∧ s.mg.policyStaged = none ∧ s.mg.preferredB = true ∧ s.slotCheck 1 = 0) ∧
    (∃ (s : State) (p : Policy) (x : Image), s.clk.down.contains 3 = false ∧ s.is F.GLB_READY_FW_VERIFIED = false ∧ s.is
      F.MGT_STATUS_RECOVERY = false ∧ s.mg.policyStaged = some (p, x) ∧ (s.slotCheck 0 = 0 ∨ s.slotCheck 1 = 0)) ∧
    (∃ (s : State), (s.clk.down.contains 3 = true ∨ s.is F.GLB_READY_FW_VERIFIED = true ∨ s.is F.MGT_STATUS_RECOVERY =
      true)) ∧
    (∃ (s : State), State.journalDiverted { s with mg := { s.mg with flashDown := false } } = false) ∧
    (∃ (s : State), s.mg.compacting = true ∧ State.journalDiverted { s with mg := { s.mg with compacting := false } } =
      true) ∧
    (∃ (s : State), s.mg.compacting = false) ∧
    (∃ (s : State), State.journalDiverted { s with mg := { s.mg with flashDown := false } } = true) ∧
    (∃ (s : State), s.mg.compacting = true ∧ State.journalDiverted { s with mg := { s.mg with compacting := false } } =
      false ∧ s.mg.buffer = []) ∧
    (∃ (s : State), s.dutyDue dutyFlash (730 * 86400000) = true) ∧
    (∃ (s : State), s.dutyDue dutyOtp (30 * 86400000) = true) ∧
    (∃ (s : State), s.dutyDue dutyOtp (30 * 86400000) = false) ∧
    (∃ (s : State), s.dutyDue dutyFlash (730 * 86400000) = false) ∧
    (∃ (s : State), s.dutyDue dutyTrim (86400000) = false) ∧
    (∃ (s : State), s.dutyDue dutyLife (3600000) = false) ∧
    (∃ (s : State) (_ok : Bool), s.dutyDue dutyVcore (10000) = false) ∧
    (∃ (s : State) (i : Fin 12) (_v : BitVec 16), s.dutyDue i 10 = true) ∧
    (∃ (s : State) (i : Fin 16) (_v : BitVec 16), s.dutyDue (12 + i) 10 = true) ∧
    (∃ (s : State) (i : Fin 24) (_v : BitVec 16), s.dutyDue (28 + i) 10000 = true) ∧
    (∃ (s : State) (i : Fin 12) (_v : BitVec 16), s.dutyDue i 10 = false) ∧
    (∃ (s : State) (i : Fin 16) (_v : BitVec 16), s.dutyDue (12 + i) 10 = false) ∧
    (∃ (s : State) (i : Fin 24) (_v : BitVec 16), s.dutyDue (28 + i) 10000 = false) ∧
    (∃ (s : State), s.dutyDue dutyVcore 10000 = true ∧ leastI s.mg.delays < (if s.g F.MGT_CFG_SLACK_LO = 0 then 40 else
      (s.g F.MGT_CFG_SLACK_LO : Int)) ∧ s.g F.MGT_STATUS_VCORE < 875) ∧
    (∃ (s : State), s.dutyDue dutyVcore 10000 = true ∧ (if s.g F.MGT_CFG_SLACK_LO = 0 then 40 else (s.g F.MGT_CFG_SLACK_LO
      : Int)) ≤ leastI s.mg.delays ∧ leastI s.mg.delays ≤ s.g F.MGT_CFG_SLACK_HI) ∧
    (∃ (s : State), s.dutyDue dutyVcore 10000 = true ∧ (if s.g F.MGT_CFG_SLACK_LO = 0 then 40 else (s.g F.MGT_CFG_SLACK_LO
      : Int)) ≤ leastI s.mg.delays ∧ s.g F.MGT_CFG_SLACK_HI < leastI s.mg.delays ∧ s.mg.slackHiSince = none) ∧
    (∃ (s : State) (h : Nat), s.dutyDue dutyVcore 10000 = true ∧ (if s.g F.MGT_CFG_SLACK_LO = 0 then 40 else (s.g
      F.MGT_CFG_SLACK_LO : Int)) ≤ leastI s.mg.delays ∧ s.g F.MGT_CFG_SLACK_HI < leastI s.mg.delays ∧ s.mg.slackHiSince
      = some h ∧ h + 900000000000 ≤ s.tb.ticks ∧ 725 ≤ s.g F.MGT_STATUS_VCORE ∧ s.mg.vFloor + 5 ≤ s.g F.MGT_STATUS_VCORE) ∧
    (∃ (s : State), s.dutyDue dutyVcore 10000 = true ∧ leastI s.mg.delays < (if s.g F.MGT_CFG_SLACK_LO = 0 then 40 else
      (s.g F.MGT_CFG_SLACK_LO : Int)) ∧ s.g F.MGT_STATUS_VCORE = 880 ∧ s.g F.MGT_CFG_SLACK_LO ≤ s.g F.MGT_CFG_SLACK_HI) ∧
    (∃ (s : State), s.dutyDue dutyVcore 10000 = true) ∧
    (∃ (s : State) (failing : List (BitVec 16)), s.camelliaRuns = true ∧ s.mg.ledger.any (fun e => e.activity == 4) = true
      ∧ ((List.range 4).any fun i => decide ((s.g F.MGT_STATUS_VCORE : Int) - (failing.getD i 0).toNat < 60)) = true) ∧
    (∃ (s : State) (_failing : List (BitVec 16)), s.camelliaRuns = true ∧ (s.is F.MGT_STATUS_MARGIN_DUE = true ∨ s.dutyDue
      dutyMargin (30 * 86400000) = true) ∧ s.mg.ledger.any (fun e => e.activity == 4) = false ∧ s.motionActive = true ∧
      s.mg.deferred = none) ∧
    (∃ (s : State) (failing : List (BitVec 16)), s.camelliaRuns = true ∧ s.mg.ledger.any (fun e => e.activity == 4) = true
      ∧ ((List.range 4).any fun i => decide ((s.g F.MGT_STATUS_VCORE : Int) - (failing.getD i 0).toNat < 60)) = false) ∧
    (∃ (s : State) (_failing : List (BitVec 16)), s.camelliaRuns = true ∧ (s.is F.MGT_STATUS_MARGIN_DUE = true ∨ s.dutyDue
      dutyMargin (30 * 86400000) = true) ∧ s.mg.ledger = [] ∧ s.motionActive = false ∧ s.mg.deferred = none) ∧
    (∃ (s : State) (_failing : List (BitVec 16)), s.camelliaRuns = false) ∧
    (∃ (s : State), s.dutyDue dutyTrim 86400000 = true) ∧
    (∃ (s : State), s.dutyDue dutyLife 3600000 = true) ∧
    (∃ (s : State), s.servo = servoLocked ∧ s.mg.calFirst = false ∧ s.dutyDue dutyCalendar 1000 = true) ∧
    (∃ (s : State), s.servo = servoLocked ∧ s.camelliaRuns = true ∧ s.mg.calFirst = true ∧ s.mg.calendar = s.now) ∧
    (∃ (s : State), s.servo = servoLocked ∧ s.camelliaRuns = true ∧ s.mg.calFirst = true ∧ s.mg.calendar ≠ s.now) ∧
    (∃ (s : State), s.servo ≠ servoLocked) :=
  ⟨⟨({ (State.reset.off F.GLB_READY_FW_VERIFIED).off F.MGT_STATUS_RECOVERY with clk := { State.reset.clk with down := [] }, mg := { MgmtSt.reset with trialFlag := false } }),
    by decide +kernel⟩,
    ⟨({ (State.reset.off F.GLB_READY_FW_VERIFIED).off F.MGT_STATUS_RECOVERY with clk := { State.reset.clk with down := [] }, mg := { MgmtSt.reset with preferredB := true } }),
    by decide +kernel⟩,
    ⟨({ (State.reset.off F.GLB_READY_FW_VERIFIED).off F.MGT_STATUS_RECOVERY with clk := { State.reset.clk with down := [] }, mg := { MgmtSt.reset with slotA := none } }),
    by decide +kernel⟩,
    ⟨({ (State.reset.off F.GLB_READY_FW_VERIFIED).off F.MGT_STATUS_RECOVERY with clk := { State.reset.clk with down := [] }, mg := { MgmtSt.reset with slotA := none, slotB := MgmtSt.reset.slotA } }),
    by decide +kernel⟩,
    ⟨({ (State.reset.off F.GLB_READY_FW_VERIFIED).off F.MGT_STATUS_RECOVERY with clk := { State.reset.clk with down := [] }, mg := { MgmtSt.reset with preferredB := true, slotB := MgmtSt.reset.slotA } }),
    by decide +kernel⟩,
    ⟨({ (State.reset.off F.GLB_READY_FW_VERIFIED).off F.MGT_STATUS_RECOVERY with clk := { State.reset.clk with down := [] }, mg := { MgmtSt.reset with policyStaged := some (({ Policy.reset with version := 5 } : Policy), (⟨1, true, true, 3, 0, 7, false⟩ : Image)) } }),
    ({ Policy.reset with version := 5 }), (⟨1, true, true, 3, 0, 7, false⟩), by decide +kernel⟩,
    ⟨(State.reset.on F.MGT_STATUS_RECOVERY), by decide +kernel⟩,
    ⟨({ State.reset.p F.GLB_REGION_STATE_ISOLATED 0 with mg := { State.reset.mg with flashDown := true, compacting := false }, clk := { State.reset.clk with down := [] } }),
    by decide +kernel⟩,
    ⟨({ State.reset with mg := { State.reset.mg with compacting := true, flashDown := true } }), by decide +kernel⟩,
    ⟨({ State.reset with mg := { State.reset.mg with compacting := false } }), by decide +kernel⟩,
    ⟨({ State.reset with mg := { State.reset.mg with flashDown := true, compacting := true } }), by decide +kernel⟩,
    ⟨({ State.reset.p F.GLB_REGION_STATE_ISOLATED 0 with mg := { State.reset.mg with flashDown := false, compacting := true, buffer := [] }, clk := { State.reset.clk with down := [] } }),
    by decide +kernel⟩,
    ⟨({ State.reset.p F.GLB_REGION_STATE_ISOLATED 0 with clk := { State.reset.clk with power := .run, down := [] }, mg := MgmtSt.reset }),
    by decide +kernel⟩,
    ⟨({ State.reset.p F.GLB_REGION_STATE_ISOLATED 0 with clk := { State.reset.clk with power := .run, down := [] }, mg := MgmtSt.reset }),
    by decide +kernel⟩,
    ⟨({ State.reset with clk := { State.reset.clk with down := [3] } }), by decide +kernel⟩,
    ⟨({ State.reset with clk := { State.reset.clk with down := [3] } }), by decide +kernel⟩,
    ⟨({ State.reset with clk := { State.reset.clk with down := [3] } }), by decide +kernel⟩,
    ⟨({ State.reset with clk := { State.reset.clk with down := [3] } }), by decide +kernel⟩,
    ⟨({ State.reset with clk := { State.reset.clk with down := [3] } }), (true), by decide +kernel⟩,
    ⟨({ State.reset.p F.GLB_REGION_STATE_ISOLATED 0 with clk := { State.reset.clk with power := .run, down := [] }, mg := MgmtSt.reset }),
    (0), (1), by decide +kernel⟩,
    ⟨({ State.reset.p F.GLB_REGION_STATE_ISOLATED 0 with clk := { State.reset.clk with power := .run, down := [] }, mg := MgmtSt.reset }),
    (0), (1), by decide +kernel⟩,
    ⟨({ State.reset.p F.GLB_REGION_STATE_ISOLATED 0 with clk := { State.reset.clk with power := .run, down := [] }, mg := MgmtSt.reset }),
    (0), (1), by decide +kernel⟩,
    ⟨({ State.reset with clk := { State.reset.clk with down := [3] } }), (0), (1), by decide +kernel⟩,
    ⟨({ State.reset with clk := { State.reset.clk with down := [3] } }), (0), (1), by decide +kernel⟩,
    ⟨({ State.reset with clk := { State.reset.clk with down := [3] } }), (0), (1), by decide +kernel⟩,
    ⟨({ State.reset.p F.GLB_REGION_STATE_ISOLATED 0 |>.p F.MGT_STATUS_VCORE 800 |>.p F.MGT_CFG_SLACK_LO 40 with clk := { State.reset.clk with power := .run, down := [] }, mg := { MgmtSt.reset with delays := [3] } }),
    by decide +kernel⟩,
    ⟨({ (State.reset.p F.GLB_REGION_STATE_ISOLATED 0 |>.p F.MGT_STATUS_VCORE 800 |>.p F.MGT_CFG_SLACK_LO 40).p F.MGT_CFG_SLACK_HI 90 with clk := { State.reset.clk with power := .run, down := [] }, mg := { MgmtSt.reset with delays := [60] } }),
    by decide +kernel⟩,
    ⟨({ (State.reset.p F.GLB_REGION_STATE_ISOLATED 0 |>.p F.MGT_STATUS_VCORE 800 |>.p F.MGT_CFG_SLACK_LO 40).p F.MGT_CFG_SLACK_HI 90 with clk := { State.reset.clk with power := .run, down := [] }, mg := { MgmtSt.reset with delays := [99] } }),
    by decide +kernel⟩,
    ⟨({ (State.reset.p F.GLB_REGION_STATE_ISOLATED 0 |>.p F.MGT_STATUS_VCORE 800 |>.p F.MGT_CFG_SLACK_LO 40).p F.MGT_CFG_SLACK_HI 90 with clk := { State.reset.clk with power := .run, down := [] }, mg := { MgmtSt.reset with delays := [99], slackHiSince := some 0, vFloor := 700 }, tb := { State.reset.tb with ticks := 2 ^ 60 } }),
    (0), by decide +kernel⟩,
    ⟨({ ((State.reset.p F.GLB_REGION_STATE_ISOLATED 0 |>.p F.MGT_STATUS_VCORE 800 |>.p F.MGT_CFG_SLACK_LO 40).p F.MGT_STATUS_VCORE 880).p F.MGT_CFG_SLACK_HI 90 with clk := { State.reset.clk with power := .run, down := [] }, mg := { MgmtSt.reset with delays := [3] } }),
    by decide +kernel⟩,
    ⟨({ State.reset.p F.GLB_REGION_STATE_ISOLATED 0 |>.p F.MGT_STATUS_VCORE 800 |>.p F.MGT_CFG_SLACK_LO 40 with clk := { State.reset.clk with power := .run, down := [] }, mg := MgmtSt.reset }),
    by decide +kernel⟩,
    ⟨({ (State.reset.p F.MGT_STATUS_VCORE 800).p F.GLB_REGION_STATE_ISOLATED 0 with clk := { State.reset.clk with power := .run, down := [] }, mg := { MgmtSt.reset with ledger := [⟨4, 0, 5, 9, 0⟩] } }),
    ([790, 700, 700, 700]), by decide +kernel⟩,
    ⟨({ ((State.reset.on F.MGT_STATUS_MARGIN_DUE).on (F.AUX_CFG_EN 0)).p F.GLB_REGION_STATE_ISOLATED 0 with clk := { State.reset.clk with power := .run, down := [] }, mg := { MgmtSt.reset with ledger := [], deferred := none } }),
    ([790, 700, 700, 700]), by decide +kernel⟩,
    ⟨({ (State.reset.p F.MGT_STATUS_VCORE 800).p F.GLB_REGION_STATE_ISOLATED 0 with clk := { State.reset.clk with power := .run, down := [] }, mg := { MgmtSt.reset with ledger := [⟨4, 0, 5, 9, 0⟩] } }),
    ([600, 700, 700, 700]), by decide +kernel⟩,
    ⟨({ (State.reset.p F.MGT_STATUS_VCORE 800).p F.GLB_REGION_STATE_ISOLATED 0 with clk := { State.reset.clk with power := .run, down := [] }, mg := MgmtSt.reset }),
    ([600, 700, 700, 700]), by decide +kernel⟩,
    ⟨({ State.reset with clk := { State.reset.clk with down := [3] } }), ([600, 700, 700, 700]), by decide +kernel⟩,
    ⟨({ State.reset.p F.GLB_REGION_STATE_ISOLATED 0 with clk := { State.reset.clk with power := .run, down := [] }, mg := MgmtSt.reset }),
    by decide +kernel⟩,
    ⟨({ State.reset.p F.GLB_REGION_STATE_ISOLATED 0 with clk := { State.reset.clk with power := .run, down := [] }, mg := MgmtSt.reset }),
    by decide +kernel⟩,
    ⟨({ (State.reset.p F.TB_STATUS_SERVO_STATE servoLocked).p F.GLB_REGION_STATE_ISOLATED 0 with clk := { State.reset.clk with power := .run, down := [] }, mg := { MgmtSt.reset with calFirst := false } }),
    by decide +kernel⟩,
    ⟨({ (State.reset.p F.TB_STATUS_SERVO_STATE servoLocked).p F.GLB_REGION_STATE_ISOLATED 0 with clk := { State.reset.clk with power := .run, down := [] }, mg := { MgmtSt.reset with calFirst := true, calendar := State.reset.now } }),
    by decide +kernel⟩,
    ⟨({ (State.reset.p F.TB_STATUS_SERVO_STATE servoLocked).p F.GLB_REGION_STATE_ISOLATED 0 with clk := { State.reset.clk with power := .run, down := [] }, mg := { MgmtSt.reset with calFirst := true, calendar := State.reset.now + 3 } }),
    by decide +kernel⟩,
    ⟨(State.reset.p F.TB_STATUS_SERVO_STATE 0), by decide +kernel⟩⟩

theorem witness_MessagesAreAnswered :
    (∃ (s : State) (n : Fin 4) (_seq : BitVec 16) (object : BitVec 16) (activity : Byte), s.reaches (.od n) (R.MGT_OD_MB_CTL
      n) ∧ s.camelliaRuns = true ∧ s.is (F.MGT_OD_MB_CTL_BUSY n) = false ∧ s.is F.MGT_STATUS_RECOVERY = false ∧ s.role n
      ≠ .observer ∧ (activity = 1 ∨ activity = 2 ∨ activity = 3 ∨ activity = 7 ∨ activity = 8) ∧ object.toNat < 16 ∧
      s.mg.deferred = none ∧ s.mg.ledger.find? (conflicts activity.toNat object.toNat) = none) ∧
    (∃ (s : State) (n : Fin 4) (_seq : BitVec 16) (object : BitVec 16) (activity : Byte) (e : LedgerEntry), s.reaches (.od
      n) (R.MGT_OD_MB_CTL n) ∧ s.camelliaRuns = true ∧ s.is (F.MGT_OD_MB_CTL_BUSY n) = false ∧ s.is
      F.MGT_STATUS_RECOVERY = false ∧ s.role n ≠ .observer ∧ (activity = 1 ∨ activity = 2 ∨ activity = 3 ∨ activity = 7
      ∨ activity = 8) ∧ object.toNat < 16 ∧ s.mg.deferred = none ∧ s.mg.ledger.find? (conflicts activity.toNat
      object.toNat) = some e) ∧
    (∃ (s : State) (n : Fin 4) (_seq : BitVec 16) (_object : BitVec 16) (activity : Byte), s.reaches (.od n) (R.MGT_OD_MB_CTL
      n) ∧ s.camelliaRuns = true ∧ s.is (F.MGT_OD_MB_CTL_BUSY n) = false ∧ s.is F.MGT_STATUS_RECOVERY = false ∧ s.role n
      ≠ .observer ∧ (activity = 6 ∨ activity = 9) ∧ s.mg.deferred = none ∧ s.mg.ledger.find? (conflicts activity.toNat
      0) = none) ∧
    (∃ (s : State) (n : Fin 4) (_seq : BitVec 16) (_object : BitVec 16) (activity : Byte), s.reaches (.od n) (R.MGT_OD_MB_CTL
      n) ∧ s.camelliaRuns = true ∧ s.is (F.MGT_OD_MB_CTL_BUSY n) = false ∧ s.is F.MGT_STATUS_RECOVERY = false ∧ s.role n
      ≠ .observer ∧ activity = 4 ∧ s.mg.deferred = none ∧ s.mg.ledger.find? (conflicts 4 0) = none ∧ s.motionActive =
      false) ∧
    (∃ (s : State) (n : Fin 4) (_seq : BitVec 16) (_object : BitVec 16) (activity : Byte), s.reaches (.od n) (R.MGT_OD_MB_CTL
      n) ∧ s.camelliaRuns = true ∧ s.is (F.MGT_OD_MB_CTL_BUSY n) = false ∧ s.is F.MGT_STATUS_RECOVERY = false ∧ s.role n
      ≠ .observer ∧ activity = 4 ∧ s.mg.deferred = none ∧ s.mg.ledger.find? (conflicts 4 0) = none ∧ s.motionActive =
      true) ∧
    (∃ (s : State) (n : Fin 4) (_seq : BitVec 16) (_object : BitVec 16) (activity : Byte), s.reaches (.od n) (R.MGT_OD_MB_CTL
      n) ∧ s.camelliaRuns = true ∧ s.is (F.MGT_OD_MB_CTL_BUSY n) = false ∧ s.is F.MGT_STATUS_RECOVERY = false ∧ s.role n
      ≠ .observer ∧ activity = 5 ∧ s.mg.deferred = none ∧ s.mg.ledger.find? (conflicts 5 0) = none ∧ s.mg.ledger.any
      (fun e => defers e.activity) = false) ∧
    (∃ (s : State) (n : Fin 4) (_seq : BitVec 16) (_object : BitVec 16) (activity : Byte), s.reaches (.od n) (R.MGT_OD_MB_CTL
      n) ∧ s.camelliaRuns = true ∧ s.is (F.MGT_OD_MB_CTL_BUSY n) = false ∧ s.is F.MGT_STATUS_RECOVERY = false ∧ s.role n
      ≠ .observer ∧ activity = 5 ∧ s.mg.deferred = none ∧ s.mg.ledger.find? (conflicts 5 0) = none ∧ s.mg.ledger.any
      (fun e => defers e.activity) = true) ∧
    (∃ (s : State) (n : Fin 4) (_seq : BitVec 16) (_object : BitVec 16) (activity : Byte), s.reaches (.od n) (R.MGT_OD_MB_CTL
      n) ∧ s.camelliaRuns = true ∧ s.is (F.MGT_OD_MB_CTL_BUSY n) = false ∧ s.is F.MGT_STATUS_RECOVERY = false ∧ s.role n
      ≠ .observer ∧ activity = 5 ∧ s.mg.deferred.isSome = true) ∧
    (∃ (s : State) (n : Fin 4) (_seq : BitVec 16) (object : BitVec 16) (activity : Byte), s.reaches (.od n) (R.MGT_OD_MB_CTL
      n) ∧ s.camelliaRuns = true ∧ s.is (F.MGT_OD_MB_CTL_BUSY n) = false ∧ s.is F.MGT_STATUS_RECOVERY = false ∧ s.role n
      ≠ .observer ∧ (1 ≤ activity.toNat ∧ activity.toNat ≤ 9) ∧ (activity.toNat = 4 ∨ (perAxis activity.toNat = true ∧
      object.toNat < 16)) ∧ s.mg.deferred.isSome = true) ∧
    (∃ (s : State) (n : Fin 4) (_seq : BitVec 16) (object : BitVec 16) (activity : Byte) (e : LedgerEntry), s.reaches (.od
      n) (R.MGT_OD_MB_CTL n) ∧ s.camelliaRuns = true ∧ s.is (F.MGT_OD_MB_CTL_BUSY n) = false ∧ s.is
      F.MGT_STATUS_RECOVERY = false ∧ s.role n ≠ .observer ∧ (1 ≤ activity.toNat ∧ activity.toNat ≤ 9) ∧ (perAxis
      activity.toNat = false ∨ object.toNat < 16) ∧ s.mg.deferred = none ∧ s.mg.ledger.find? (conflicts activity.toNat
      (if perAxis activity.toNat then object.toNat else 0)) = some e) ∧
    (∃ (s : State) (n : Fin 4) (_seq : BitVec 16) (object : BitVec 16) (activity : Byte), s.reaches (.od n) (R.MGT_OD_MB_CTL
      n) ∧ s.camelliaRuns = true ∧ s.is (F.MGT_OD_MB_CTL_BUSY n) = false ∧ s.is F.MGT_STATUS_RECOVERY = false ∧ s.role n
      ≠ .observer ∧ (activity.toNat = 0 ∨ 9 < activity.toNat ∨ (perAxis activity.toNat = true ∧ 16 ≤ object.toNat))) ∧
    (∃ (s : State) (n : Fin 4) (_seq : BitVec 16) (_a1 : BitVec 16) (_b1 : Byte), s.reaches (.od n) (R.MGT_OD_MB_CTL n) ∧
      s.camelliaRuns = true ∧ s.is (F.MGT_OD_MB_CTL_BUSY n) = false ∧ msgRole 0x01 (s.role n) = some true ∧ s.is
      F.MGT_STATUS_RECOVERY = true) ∧
    (∃ (s : State) (n : Fin 4) (_seq : BitVec 16) (_a1 : BitVec 16) (_b1 : Byte), s.reaches (.od n) (R.MGT_OD_MB_CTL n) ∧ s.is
      (F.MGT_OD_MB_CTL_BUSY n) = false ∧ s.camelliaRuns = false) ∧
    (∃ (s : State) (n : Fin 4) (_seq : BitVec 16) (_a1 : BitVec 16) (_b1 : Byte), s.is (F.MGT_OD_MB_CTL_BUSY n) = true ∧
      s.dropReason (.od n) (R.MGT_OD_MB_CTL n) = none) ∧
    (∃ (s : State) (n : Fin 4) (_seq : BitVec 16) (_a1 : BitVec 16), s.reaches (.od n) (R.MGT_OD_MB_CTL n) ∧ s.camelliaRuns =
      true ∧ s.is (F.MGT_OD_MB_CTL_BUSY n) = false ∧ msgRole 0x02 (s.role n) = some true ∧ s.is F.MGT_STATUS_RECOVERY =
      true) ∧
    (∃ (s : State) (n : Fin 4) (_seq : BitVec 16) (_a1 : BitVec 16), s.reaches (.od n) (R.MGT_OD_MB_CTL n) ∧ s.is
      (F.MGT_OD_MB_CTL_BUSY n) = false ∧ s.camelliaRuns = false) ∧
    (∃ (s : State) (n : Fin 4) (_seq : BitVec 16) (_a1 : BitVec 16), s.is (F.MGT_OD_MB_CTL_BUSY n) = true ∧ s.dropReason (.od
      n) (R.MGT_OD_MB_CTL n) = none) ∧
    (∃ (s : State) (n : Fin 4) (_seq : BitVec 16) (_a1 : BitVec 16), s.reaches (.od n) (R.MGT_OD_MB_CTL n) ∧ s.camelliaRuns =
      true ∧ s.is (F.MGT_OD_MB_CTL_BUSY n) = false ∧ msgRole 0x03 (s.role n) = some true ∧ s.is F.MGT_STATUS_RECOVERY =
      true) ∧
    (∃ (s : State) (n : Fin 4) (_seq : BitVec 16) (_a1 : BitVec 16), s.reaches (.od n) (R.MGT_OD_MB_CTL n) ∧ s.is
      (F.MGT_OD_MB_CTL_BUSY n) = false ∧ s.camelliaRuns = false) ∧
    (∃ (s : State) (n : Fin 4) (_seq : BitVec 16) (_a1 : BitVec 16), s.is (F.MGT_OD_MB_CTL_BUSY n) = true ∧ s.dropReason (.od
      n) (R.MGT_OD_MB_CTL n) = none) ∧
    (∃ (s : State) (n : Fin 4) (_seq : BitVec 16) (_b1 : Byte), s.reaches (.od n) (R.MGT_OD_MB_CTL n) ∧ s.camelliaRuns = true
      ∧ s.is (F.MGT_OD_MB_CTL_BUSY n) = false ∧ msgRole 0x11 (s.role n) = some false) ∧
    (∃ (s : State) (n : Fin 4) (_seq : BitVec 16) (_b1 : Byte), s.reaches (.od n) (R.MGT_OD_MB_CTL n) ∧ s.is
      (F.MGT_OD_MB_CTL_BUSY n) = false ∧ s.camelliaRuns = false) ∧
    (∃ (s : State) (n : Fin 4) (_seq : BitVec 16) (_b1 : Byte), s.is (F.MGT_OD_MB_CTL_BUSY n) = true ∧ s.dropReason (.od n)
      (R.MGT_OD_MB_CTL n) = none) ∧
    (∃ (s : State) (n : Fin 4) (_seq : BitVec 16), s.reaches (.od n) (R.MGT_OD_MB_CTL n) ∧ s.camelliaRuns = true ∧ s.is
      (F.MGT_OD_MB_CTL_BUSY n) = false ∧ msgRole 0x12 (s.role n) = some false) ∧
    (∃ (s : State) (n : Fin 4) (_seq : BitVec 16), s.reaches (.od n) (R.MGT_OD_MB_CTL n) ∧ s.camelliaRuns = true ∧ s.is
      (F.MGT_OD_MB_CTL_BUSY n) = false ∧ msgRole 0x12 (s.role n) = some true ∧ s.is F.MGT_STATUS_RECOVERY = true) ∧
    (∃ (s : State) (n : Fin 4) (_seq : BitVec 16), s.reaches (.od n) (R.MGT_OD_MB_CTL n) ∧ s.is (F.MGT_OD_MB_CTL_BUSY n) =
      false ∧ s.camelliaRuns = false) ∧
    (∃ (s : State) (n : Fin 4) (_seq : BitVec 16), s.is (F.MGT_OD_MB_CTL_BUSY n) = true ∧ s.dropReason (.od n)
      (R.MGT_OD_MB_CTL n) = none) ∧
    (∃ (s : State) (n : Fin 4) (_seq : BitVec 16) (_q1 : BitVec 64) (_w1 : Word) (_w2 : Word), s.reaches (.od n)
      (R.MGT_OD_MB_CTL n) ∧ s.camelliaRuns = true ∧ s.is (F.MGT_OD_MB_CTL_BUSY n) = false ∧ msgRole 0x20 (s.role n) =
      some false) ∧
    (∃ (s : State) (n : Fin 4) (_seq : BitVec 16) (_q1 : BitVec 64) (_w1 : Word) (_w2 : Word), s.reaches (.od n)
      (R.MGT_OD_MB_CTL n) ∧ s.camelliaRuns = true ∧ s.is (F.MGT_OD_MB_CTL_BUSY n) = false ∧ msgRole 0x20 (s.role n) =
      some true ∧ s.is F.MGT_STATUS_RECOVERY = true) ∧
    (∃ (s : State) (n : Fin 4) (_seq : BitVec 16) (_q1 : BitVec 64) (_w1 : Word) (_w2 : Word), s.reaches (.od n)
      (R.MGT_OD_MB_CTL n) ∧ s.is (F.MGT_OD_MB_CTL_BUSY n) = false ∧ s.camelliaRuns = false) ∧
    (∃ (s : State) (n : Fin 4) (_seq : BitVec 16) (_q1 : BitVec 64) (_w1 : Word) (_w2 : Word), s.is (F.MGT_OD_MB_CTL_BUSY n) =
      true ∧ s.dropReason (.od n) (R.MGT_OD_MB_CTL n) = none) ∧
    (∃ (s : State) (n : Fin 4) (_seq : BitVec 16) (_a1 : BitVec 16), s.reaches (.od n) (R.MGT_OD_MB_CTL n) ∧ s.camelliaRuns =
      true ∧ s.is (F.MGT_OD_MB_CTL_BUSY n) = false ∧ msgRole 0x21 (s.role n) = some true ∧ s.is F.MGT_STATUS_RECOVERY =
      true) ∧
    (∃ (s : State) (n : Fin 4) (_seq : BitVec 16) (_a1 : BitVec 16), s.reaches (.od n) (R.MGT_OD_MB_CTL n) ∧ s.is
      (F.MGT_OD_MB_CTL_BUSY n) = false ∧ s.camelliaRuns = false) ∧
    (∃ (s : State) (n : Fin 4) (_seq : BitVec 16) (_a1 : BitVec 16), s.is (F.MGT_OD_MB_CTL_BUSY n) = true ∧ s.dropReason (.od
      n) (R.MGT_OD_MB_CTL n) = none) ∧
    (∃ (s : State) (n : Fin 4) (_seq : BitVec 16), s.reaches (.od n) (R.MGT_OD_MB_CTL n) ∧ s.camelliaRuns = true ∧ s.is
      (F.MGT_OD_MB_CTL_BUSY n) = false ∧ msgRole 0x22 (s.role n) = some true ∧ s.is F.MGT_STATUS_RECOVERY = true) ∧
    (∃ (s : State) (n : Fin 4) (_seq : BitVec 16), s.reaches (.od n) (R.MGT_OD_MB_CTL n) ∧ s.is (F.MGT_OD_MB_CTL_BUSY n) =
      false ∧ s.camelliaRuns = false) ∧
    (∃ (s : State) (n : Fin 4) (_seq : BitVec 16), s.is (F.MGT_OD_MB_CTL_BUSY n) = true ∧ s.dropReason (.od n)
      (R.MGT_OD_MB_CTL n) = none) ∧
    (∃ (s : State) (n : Fin 4) (_seq : BitVec 16) (_a1 : BitVec 16), s.reaches (.od n) (R.MGT_OD_MB_CTL n) ∧ s.camelliaRuns =
      true ∧ s.is (F.MGT_OD_MB_CTL_BUSY n) = false ∧ msgRole 0x30 (s.role n) = some false) ∧
    (∃ (s : State) (n : Fin 4) (_seq : BitVec 16) (_a1 : BitVec 16), s.reaches (.od n) (R.MGT_OD_MB_CTL n) ∧ s.camelliaRuns =
      true ∧ s.is (F.MGT_OD_MB_CTL_BUSY n) = false ∧ msgRole 0x30 (s.role n) = some true ∧ s.is F.MGT_STATUS_RECOVERY =
      true) ∧
    (∃ (s : State) (n : Fin 4) (_seq : BitVec 16) (_a1 : BitVec 16), s.reaches (.od n) (R.MGT_OD_MB_CTL n) ∧ s.is
      (F.MGT_OD_MB_CTL_BUSY n) = false ∧ s.camelliaRuns = false) ∧
    (∃ (s : State) (n : Fin 4) (_seq : BitVec 16) (_a1 : BitVec 16), s.is (F.MGT_OD_MB_CTL_BUSY n) = true ∧ s.dropReason (.od
      n) (R.MGT_OD_MB_CTL n) = none) ∧
    (∃ (s : State) (n : Fin 4) (_seq : BitVec 16) (ticket : BitVec 16) (e : LedgerEntry), s.reaches (.od n) (R.MGT_OD_MB_CTL
      n) ∧ s.camelliaRuns = true ∧ s.is (F.MGT_OD_MB_CTL_BUSY n) = false ∧ s.is F.MGT_STATUS_RECOVERY = false ∧ s.role n
      ≠ .observer ∧ s.mg.deferred = none ∧ s.mg.ledger.find? (fun e => e.ticket == ticket.toNat && e.holder == n.val) =
      some e) ∧
    (∃ (s : State) (n : Fin 4) (_seq : BitVec 16) (ticket : BitVec 16), s.reaches (.od n) (R.MGT_OD_MB_CTL n) ∧
      s.camelliaRuns = true ∧ s.is (F.MGT_OD_MB_CTL_BUSY n) = false ∧ s.is F.MGT_STATUS_RECOVERY = false ∧ s.role n ≠
      .observer ∧ s.mg.ledger.find? (fun e => e.ticket == ticket.toNat && e.holder == n.val) = none) ∧
    (∃ (s : State) (n : Fin 4) (_seq : BitVec 16) (_first : BitVec 16), s.reaches (.od n) (R.MGT_OD_MB_CTL n) ∧
      s.camelliaRuns = true ∧ s.is (F.MGT_OD_MB_CTL_BUSY n) = false ∧ s.is F.MGT_STATUS_RECOVERY = false ∧ s.role n ≠
      .observer) ∧
    (∃ (s : State) (ticket : BitVec 16) (e : LedgerEntry), s.mg.ledger.find? (fun e => e.ticket == ticket.toNat) = some e ∧
      s.camelliaRuns = true ∧ e.since + longestHold e.activity * 250000000 ≤ s.tb.ticks ∧ s.mg.deferred = none) ∧
    (∃ (s : State) (ticket : BitVec 16), (s.camelliaRuns = false ∨ s.mg.ledger.find? (fun e => e.ticket == ticket.toNat) =
      none)) ∧
    (∃ (s : State) (n : Fin 4) (x : Image) (p : List Byte), s.camelliaRuns = true ∧ s.is (F.MGT_OD_MB_CTL_BUSY n) = true ∧
      leAt (s.window n) 0 2 = 0x10 ∧ p = ((s.window n).drop 8).take (leAt (s.window n) 2 2) ∧ s.handleErr n false
      (BitVec.ofNat 32 (leAt p 0 4)) = none ∧ 0 < leAt p 4 4 ∧ leAt p 4 4 ≤ classSize (handleClass (BitVec.ofNat 32
      (leAt p 0 4))) ∧ s.role n = .maintainer ∧ s.imageCheck x = 0) ∧
    (∃ (s : State) (n : Fin 4) (x : Image) (p : List Byte), s.camelliaRuns = true ∧ s.is (F.MGT_OD_MB_CTL_BUSY n) = true ∧
      leAt (s.window n) 0 2 = 0x10 ∧ p = ((s.window n).drop 8).take (leAt (s.window n) 2 2) ∧ s.handleErr n false
      (BitVec.ofNat 32 (leAt p 0 4)) = none ∧ 0 < leAt p 4 4 ∧ leAt p 4 4 ≤ classSize (handleClass (BitVec.ofNat 32
      (leAt p 0 4))) ∧ s.role n = .maintainer ∧ s.imageCheck x ≠ 0) ∧
    (∃ (s : State) (n : Fin 4) (_x : Image) (p : List Byte) (_pol : Policy), s.camelliaRuns = true ∧ s.is
      (F.MGT_OD_MB_CTL_BUSY n) = true ∧ leAt (s.window n) 0 2 = 0x13 ∧ p = ((s.window n).drop 8).take (leAt (s.window n)
      2 2) ∧ s.handleErr n false (BitVec.ofNat 32 (leAt p 0 4)) = none ∧ 0 < leAt p 4 4 ∧ leAt p 4 4 ≤ classSize
      (handleClass (BitVec.ofNat 32 (leAt p 0 4))) ∧ s.role n = .maintainer ∧ s.is F.MGT_STATUS_RECOVERY = false) ∧
    (∃ (s : State) (n : Fin 4) (_x : Image), (s.camelliaRuns = false ∨ s.is (F.MGT_OD_MB_CTL_BUSY n) = false ∨ leAt
      (s.window n) 0 2 ≠ 0x10)) ∧
    (∃ (s : State) (n : Fin 4) (_x : Image), s.camelliaRuns = true ∧ s.is (F.MGT_OD_MB_CTL_BUSY n) = true ∧ leAt (s.window
      n) 0 2 = 0x10 ∧ s.role n ≠ .maintainer) ∧
    (∃ (s : State) (n : Fin 4) (_x : Image) (p : List Byte) (st : Nat), s.camelliaRuns = true ∧ s.is (F.MGT_OD_MB_CTL_BUSY
      n) = true ∧ leAt (s.window n) 0 2 = 0x10 ∧ s.role n = .maintainer ∧ p = ((s.window n).drop 8).take (leAt (s.window
      n) 2 2) ∧ s.handleErr n false (BitVec.ofNat 32 (leAt p 0 4)) = some st) ∧
    (∃ (s : State) (n : Fin 4) (_x : Image) (_pol : Policy), (s.camelliaRuns = false ∨ s.is (F.MGT_OD_MB_CTL_BUSY n) = false
      ∨ leAt (s.window n) 0 2 ≠ 0x13)) ∧
    (∃ (s : State) (n : Fin 4) (_x : Image) (_pol : Policy), s.camelliaRuns = true ∧ s.is (F.MGT_OD_MB_CTL_BUSY n) = true ∧
      leAt (s.window n) 0 2 = 0x13 ∧ s.role n ≠ .maintainer) ∧
    (∃ (s : State) (n : Fin 4) (_x : Image) (_pol : Policy), s.camelliaRuns = true ∧ s.is (F.MGT_OD_MB_CTL_BUSY n) = true ∧
      leAt (s.window n) 0 2 = 0x13 ∧ s.role n = .maintainer ∧ s.is F.MGT_STATUS_RECOVERY = true) ∧
    (∃ (s : State) (n : Fin 4) (_x : Image) (_pol : Policy) (p : List Byte) (st : Nat), s.camelliaRuns = true ∧ s.is
      (F.MGT_OD_MB_CTL_BUSY n) = true ∧ leAt (s.window n) 0 2 = 0x13 ∧ s.role n = .maintainer ∧ s.is
      F.MGT_STATUS_RECOVERY = false ∧ p = ((s.window n).drop 8).take (leAt (s.window n) 2 2) ∧ s.handleErr n false
      (BitVec.ofNat 32 (leAt p 0 4)) = some st) ∧
    (∃ (s : State) (n : Fin 4) (_seq : BitVec 16) (x : Image), s.reaches (.od n) (R.MGT_OD_MB_CTL n) ∧ s.camelliaRuns = true
      ∧ s.is (F.MGT_OD_MB_CTL_BUSY n) = false ∧ s.role n = .maintainer ∧ s.slot s.otherSlot = some x) ∧
    (∃ (s : State) (n : Fin 4) (_seq : BitVec 16) (x : Image), s.reaches (.od n) (R.MGT_OD_MB_CTL n) ∧ s.camelliaRuns = true
      ∧ s.is (F.MGT_OD_MB_CTL_BUSY n) = false ∧ s.role n = .maintainer ∧ s.is F.MGT_STATUS_RECOVERY = false ∧ s.is
      F.MGT_STATUS_TRIAL = true ∧ s.slot (s.g F.MGT_STATUS_SLOT) = some x) ∧
    (∃ (s : State) (n : Fin 4) (_seq : BitVec 16) (mode : Byte), s.reaches (.od n) (R.MGT_OD_MB_CTL n) ∧ s.camelliaRuns =
      true ∧ s.is (F.MGT_OD_MB_CTL_BUSY n) = false ∧ s.role n = .maintainer ∧ (s.slot s.otherSlot = none ∨ 2 <
      mode.toNat)) ∧
    (∃ (s : State) (n : Fin 4) (_seq : BitVec 16) (mode : Byte) (x : Image), s.reaches (.od n) (R.MGT_OD_MB_CTL n) ∧
      s.camelliaRuns = true ∧ s.is (F.MGT_OD_MB_CTL_BUSY n) = false ∧ s.role n = .maintainer ∧ s.slot s.otherSlot = some
      x ∧ mode.toNat = 2 ∧ x.changesCore = true) ∧
    (∃ (s : State) (n : Fin 4) (_seq : BitVec 16) (mode : Byte) (x : Image), s.reaches (.od n) (R.MGT_OD_MB_CTL n) ∧
      s.camelliaRuns = true ∧ s.is (F.MGT_OD_MB_CTL_BUSY n) = false ∧ s.role n = .maintainer ∧ s.slot s.otherSlot = some
      x ∧ mode.toNat = 2 ∧ x.changesCore = false ∧ s.motionIdle = false) ∧
    (∃ (s : State) (n : Fin 4) (_seq : BitVec 16) (mode : Byte) (x : Image), s.reaches (.od n) (R.MGT_OD_MB_CTL n) ∧
      s.camelliaRuns = true ∧ s.is (F.MGT_OD_MB_CTL_BUSY n) = false ∧ s.role n = .maintainer ∧ s.slot s.otherSlot = some
      x ∧ mode.toNat = 2 ∧ x.changesCore = false ∧ s.motionIdle = true ∧ s.mg.deferred = none ∧ s.mg.ledger.find?
      (conflicts 5 0) = none ∧ s.mg.ledger.any (fun e => defers e.activity) = false) ∧
    (∃ (s : State) (n : Fin 4) (_seq : BitVec 16) (mode : Byte) (x : Image), s.reaches (.od n) (R.MGT_OD_MB_CTL n) ∧
      s.camelliaRuns = true ∧ s.is (F.MGT_OD_MB_CTL_BUSY n) = false ∧ s.role n = .maintainer ∧ s.slot s.otherSlot = some
      x ∧ mode.toNat = 1 ∧ s.mg.deferred = none ∧ s.mg.ledger.find? (conflicts 5 0) = none ∧ s.mg.ledger.any (fun e =>
      defers e.activity) = false) ∧
    (∃ (s : State) (n : Fin 4) (_seq : BitVec 16) (mode : Byte) (x : Image), s.reaches (.od n) (R.MGT_OD_MB_CTL n) ∧
      s.camelliaRuns = true ∧ s.is (F.MGT_OD_MB_CTL_BUSY n) = false ∧ s.role n = .maintainer ∧ s.slot s.otherSlot = some
      x ∧ (mode.toNat = 1 ∨ (mode.toNat = 2 ∧ x.changesCore = false ∧ s.motionIdle = true)) ∧ s.mg.deferred = none ∧
      s.mg.ledger.find? (conflicts 5 0) = none ∧ s.mg.ledger.any (fun e => defers e.activity) = true) ∧
    (∃ (s : State) (n : Fin 4) (_seq : BitVec 16) (mode : Byte) (x : Image) (e : LedgerEntry), s.reaches (.od n)
      (R.MGT_OD_MB_CTL n) ∧ s.camelliaRuns = true ∧ s.is (F.MGT_OD_MB_CTL_BUSY n) = false ∧ s.role n = .maintainer ∧
      s.slot s.otherSlot = some x ∧ (mode.toNat = 1 ∨ (mode.toNat = 2 ∧ x.changesCore = false ∧ s.motionIdle = true)) ∧
      s.mg.deferred = none ∧ s.mg.ledger.find? (conflicts 5 0) = some e) ∧
    (∃ (s : State) (n : Fin 4) (_seq : BitVec 16) (mode : Byte) (x : Image), s.reaches (.od n) (R.MGT_OD_MB_CTL n) ∧
      s.camelliaRuns = true ∧ s.is (F.MGT_OD_MB_CTL_BUSY n) = false ∧ s.role n = .maintainer ∧ s.slot s.otherSlot = some
      x ∧ (mode.toNat = 1 ∨ (mode.toNat = 2 ∧ x.changesCore = false ∧ s.motionIdle = true)) ∧ s.mg.deferred.isSome =
      true) ∧
    (∃ (s : State) (n : Fin 4) (_seq : BitVec 16), s.reaches (.od n) (R.MGT_OD_MB_CTL n) ∧ s.camelliaRuns = true ∧ s.is
      (F.MGT_OD_MB_CTL_BUSY n) = false ∧ s.role n = .maintainer ∧ s.is F.MGT_STATUS_RECOVERY = false ∧ (s.is
      F.MGT_STATUS_TRIAL = false ∨ s.slot (s.g F.MGT_STATUS_SLOT) = none)) ∧
    (∃ (s : State) (n : Fin 4) (_seq : BitVec 16) (_first : BitVec 64) (_count : Word) (handle : Word), s.reaches (.od n)
      (R.MGT_OD_MB_CTL n) ∧ s.camelliaRuns = true ∧ s.is (F.MGT_OD_MB_CTL_BUSY n) = false ∧ s.is F.MGT_STATUS_RECOVERY =
      false ∧ (s.role n = .maintainer ∨ s.role n = .safety) ∧ (s.handleErr n false handle).isSome = true) ∧
    (∃ (s : State) (n : Fin 4) (_seq : BitVec 16) (_first : BitVec 64) (count : Word) (handle : Word), s.reaches (.od n)
      (R.MGT_OD_MB_CTL n) ∧ s.camelliaRuns = true ∧ s.is (F.MGT_OD_MB_CTL_BUSY n) = false ∧ s.is F.MGT_STATUS_RECOVERY =
      false ∧ (s.role n = .maintainer ∨ s.role n = .safety) ∧ s.handleErr n false handle = none ∧ (count.toNat = 0 ∨
      65536 < count.toNat)) ∧
    (∃ (s : State) (n : Fin 4) (_seq : BitVec 16) (first : BitVec 16), s.reaches (.od n) (R.MGT_OD_MB_CTL n) ∧
      s.camelliaRuns = true ∧ s.is (F.MGT_OD_MB_CTL_BUSY n) = false ∧ s.is F.MGT_STATUS_RECOVERY = false ∧ s.role n ≠
      .observer ∧ 97 < first.toNat) ∧
    (∃ (s : State) (n : Fin 4) (_seq : BitVec 16) (_first : BitVec 64) (count : Word) (handle : Word), s.reaches (.od n)
      (R.MGT_OD_MB_CTL n) ∧ s.camelliaRuns = true ∧ s.is (F.MGT_OD_MB_CTL_BUSY n) = false ∧ s.is F.MGT_STATUS_RECOVERY =
      false ∧ (s.role n = .maintainer ∨ s.role n = .safety) ∧ s.handleErr n false handle = none ∧ 1 ≤ count.toNat ∧
      count.toNat ≤ 65536) ∧
    (∃ (s : State) (n : Fin 4) (_seq : BitVec 16) (first : BitVec 16), s.reaches (.od n) (R.MGT_OD_MB_CTL n) ∧
      s.camelliaRuns = true ∧ s.is (F.MGT_OD_MB_CTL_BUSY n) = false ∧ s.is F.MGT_STATUS_RECOVERY = false ∧ s.role n ≠
      .observer ∧ first.toNat ≤ 97) ∧
    (∃ (s : State) (n : Fin 4) (_seq : BitVec 16) (_first : BitVec 16), s.reaches (.od n) (R.MGT_OD_MB_CTL n) ∧
      s.camelliaRuns = true ∧ s.is (F.MGT_OD_MB_CTL_BUSY n) = false ∧ s.is F.MGT_STATUS_RECOVERY = false ∧ s.role n =
      .maintainer) ∧
    (∃ (s : State) (n : Fin 4) (_seq : BitVec 16), s.reaches (.od n) (R.MGT_OD_MB_CTL n) ∧ s.camelliaRuns = true ∧ s.is
      (F.MGT_OD_MB_CTL_BUSY n) = false ∧ s.is F.MGT_STATUS_RECOVERY = false ∧ s.role n ≠ .observer) ∧
    (∃ (s : State) (n : Fin 4) (_seq : BitVec 16) (type : BitVec 16), s.reaches (.od n) (R.MGT_OD_MB_CTL n) ∧ s.camelliaRuns
      = true ∧ s.is (F.MGT_OD_MB_CTL_BUSY n) = false ∧ msgRole type.toNat .maintainer = none) ∧
    (∃ (s : State) (n : Fin 4) (k : Fin 8) (d : Desc) (msg : List Byte) (_x : Image) (_pol : Policy), s.startsDesc n k 0x45 d
      (d.target == 0) (d.zeroFrom 36 && 8 ≤ d.field 24 4 && d.field 24 4 ≤ 4096) ∧ s.camelliaRuns = true ∧ d.field 24 4
      = 8 ∧ msg.length = 8 ∧ leAt msg 0 2 = 0x99) ∧
    (∃ (s : State) (n : Fin 4) (k : Fin 8) (d : Desc) (msg : List Byte) (_x : Image) (_pol : Policy), s.startsDesc n k 0x45 d
      (d.target == 0) (d.zeroFrom 36 && 8 ≤ d.field 24 4 && d.field 24 4 ≤ 4096) ∧ s.camelliaRuns = true ∧ d.field 24 4
      ≤ msg.length) ∧
    (∃ (s : State) (n : Fin 4) (k : Fin 8) (d : Desc) (msg : List Byte) (_x : Image) (_pol : Policy), s.startsDesc n k 0x45 d
      (d.target == 0) (d.zeroFrom 36 && 8 ≤ d.field 24 4 && d.field 24 4 ≤ 4096) ∧ s.camelliaRuns = true ∧ d.field 24 4
      ≤ msg.length ∧ msgRole (leAt msg 0 2) (s.role n) = none) ∧
    (∃ (s : State) (n : Fin 4) (k : Fin 8) (d : Desc) (msg : List Byte) (_x : Image) (_pol : Policy), s.startsDesc n k 0x45 d
      (d.target == 0) (d.zeroFrom 36 && 8 ≤ d.field 24 4 && d.field 24 4 ≤ 4096) ∧ s.camelliaRuns = true ∧ d.field 24 4
      ≤ msg.length ∧ msgRole (leAt msg 0 2) (s.role n) = some false) ∧
    (∃ (s : State) (n : Fin 4) (k : Fin 8) (d : Desc) (msg : List Byte) (_x : Image) (_pol : Policy), s.startsDesc n k 0x45 d
      (d.target == 0) (d.zeroFrom 36 && 8 ≤ d.field 24 4 && d.field 24 4 ≤ 4096) ∧ s.camelliaRuns = true ∧ d.field 24 4
      ≤ msg.length ∧ msgRole (leAt msg 0 2) (s.role n) = some true ∧ s.is F.MGT_STATUS_RECOVERY = true ∧ leAt msg 0 2 ≠
      0x10 ∧ leAt msg 0 2 ≠ 0x11) ∧
    (∃ (s : State) (n : Fin 4) (k : Fin 8) (d : Desc) (msg : List Byte) (_x : Image) (_pol : Policy), s.startsDesc n k 0x45 d
      (d.target == 0) (d.zeroFrom 36 && 8 ≤ d.field 24 4 && d.field 24 4 ≤ 4096) ∧ (s.isolated regMgmt = true ∨
      (s.camelliaRuns = true ∧ msg.length < d.field 24 4)) ∧ (s.sqOf n k).closing = false) ∧
    (∃ (s : State) (_n : Fin 4) (_k : Fin 8) (_d : Desc) (_msg : List Byte) (_x : Image) (_pol : Policy), s.isolated regMgmt =
      false ∧ s.camelliaRuns = false) :=
  ⟨⟨({ ((State.reset.off (F.MGT_OD_MB_CTL_BUSY (1 : Fin 4))).off F.MGT_STATUS_RECOVERY).p F.GLB_REGION_STATE_ISOLATED 0 with clk := { State.reset.clk with power := .run, down := [] }, pol := Policy.reset, mg := { MgmtSt.reset with lastTicket := 9 } }),
    (1), (1), (5), (2), by decide +kernel⟩,
    ⟨({ ((State.reset.off (F.MGT_OD_MB_CTL_BUSY (1 : Fin 4))).off F.MGT_STATUS_RECOVERY).p F.GLB_REGION_STATE_ISOLATED 0 with clk := { State.reset.clk with power := .run, down := [] }, pol := Policy.reset, mg := { MgmtSt.reset with ledger := [⟨4, 0, 2, 7, 0⟩] } }),
    (1), (1), (5), (2), (⟨4, 0, 2, 7, 0⟩), by decide +kernel⟩,
    ⟨({ ((State.reset.off (F.MGT_OD_MB_CTL_BUSY (1 : Fin 4))).off F.MGT_STATUS_RECOVERY).p F.GLB_REGION_STATE_ISOLATED 0 with clk := { State.reset.clk with power := .run, down := [] }, pol := Policy.reset, mg := { MgmtSt.reset with lastTicket := 9 } }),
    (1), (1), (1), (6), by decide +kernel⟩,
    ⟨({ ((State.reset.off (F.MGT_OD_MB_CTL_BUSY (1 : Fin 4))).off F.MGT_STATUS_RECOVERY).p F.GLB_REGION_STATE_ISOLATED 0 with clk := { State.reset.clk with power := .run, down := [] }, pol := Policy.reset, mg := { MgmtSt.reset with lastTicket := 9 } }),
    (1), (1), (1), (4), by decide +kernel⟩,
    ⟨(({ ((State.reset.off (F.MGT_OD_MB_CTL_BUSY (1 : Fin 4))).off F.MGT_STATUS_RECOVERY).p F.GLB_REGION_STATE_ISOLATED 0 with clk := { State.reset.clk with power := .run, down := [] }, pol := Policy.reset, mg := { MgmtSt.reset with lastTicket := 9 } }
    : State).on (F.AUX_CFG_EN 0)), (1), (1), (1), (4), by decide +kernel⟩,
    ⟨({ ((State.reset.off (F.MGT_OD_MB_CTL_BUSY (1 : Fin 4))).off F.MGT_STATUS_RECOVERY).p F.GLB_REGION_STATE_ISOLATED 0 with clk := { State.reset.clk with power := .run, down := [] }, pol := Policy.reset, mg := { MgmtSt.reset with lastTicket := 9 } }),
    (1), (1), (1), (5), by decide +kernel⟩,
    ⟨({ ((State.reset.off (F.MGT_OD_MB_CTL_BUSY (1 : Fin 4))).off F.MGT_STATUS_RECOVERY).p F.GLB_REGION_STATE_ISOLATED 0 with clk := { State.reset.clk with power := .run, down := [] }, pol := Policy.reset, mg := { MgmtSt.reset with ledger := [⟨2, 0, 2, 7, 0⟩] } }),
    (1), (1), (1), (5), by decide +kernel⟩,
    ⟨({ ((State.reset.off (F.MGT_OD_MB_CTL_BUSY (1 : Fin 4))).off F.MGT_STATUS_RECOVERY).p F.GLB_REGION_STATE_ISOLATED 0 with clk := { State.reset.clk with power := .run, down := [] }, pol := Policy.reset, mg := { MgmtSt.reset with deferred := some (2, 3) } }),
    (1), (1), (1), (5), by decide +kernel⟩,
    ⟨({ ((State.reset.off (F.MGT_OD_MB_CTL_BUSY (1 : Fin 4))).off F.MGT_STATUS_RECOVERY).p F.GLB_REGION_STATE_ISOLATED 0 with clk := { State.reset.clk with power := .run, down := [] }, pol := Policy.reset, mg := { MgmtSt.reset with deferred := some (2, 3) } }),
    (1), (1), (5), (2), by decide +kernel⟩,
    ⟨({ ((State.reset.off (F.MGT_OD_MB_CTL_BUSY (1 : Fin 4))).off F.MGT_STATUS_RECOVERY).p F.GLB_REGION_STATE_ISOLATED 0 with clk := { State.reset.clk with power := .run, down := [] }, pol := Policy.reset, mg := { MgmtSt.reset with ledger := [⟨4, 0, 2, 7, 0⟩] } }),
    (1), (1), (1), (9), (⟨4, 0, 2, 7, 0⟩), by decide +kernel⟩,
    ⟨({ ((State.reset.off (F.MGT_OD_MB_CTL_BUSY (1 : Fin 4))).off F.MGT_STATUS_RECOVERY).p F.GLB_REGION_STATE_ISOLATED 0 with clk := { State.reset.clk with power := .run, down := [] }, pol := Policy.reset, mg := { MgmtSt.reset with ledger := [⟨4, 0, 2, 7, 0⟩] } }),
    (1), (1), (16), (2), by decide +kernel⟩,
    ⟨(({ ((State.reset.off (F.MGT_OD_MB_CTL_BUSY (1 : Fin 4))).off F.MGT_STATUS_RECOVERY).p F.GLB_REGION_STATE_ISOLATED 0 with clk := { State.reset.clk with power := .run, down := [] }, pol := Policy.reset, mg := { MgmtSt.reset with lastTicket := 9 } }).on
    F.MGT_STATUS_RECOVERY), (1), (1), (1), (1), by decide +kernel⟩,
    ⟨(({ ((State.reset.off (F.MGT_OD_MB_CTL_BUSY (1 : Fin 4))).off F.MGT_STATUS_RECOVERY).p F.GLB_REGION_STATE_ISOLATED 0 with clk := { State.reset.clk with power := .run, down := [] }, pol := Policy.reset, mg := { MgmtSt.reset with halted := [false, false, false, false, true] } })),
    (1), (1), (1), (1), by decide +kernel⟩,
    ⟨(State.reset.on (F.MGT_OD_MB_CTL_BUSY (1 : Fin 4))), (1), (1), (1), (1), by decide +kernel⟩,
    ⟨(({ ((State.reset.off (F.MGT_OD_MB_CTL_BUSY (1 : Fin 4))).off F.MGT_STATUS_RECOVERY).p F.GLB_REGION_STATE_ISOLATED 0 with clk := { State.reset.clk with power := .run, down := [] }, pol := Policy.reset, mg := { MgmtSt.reset with lastTicket := 9 } }).on
    F.MGT_STATUS_RECOVERY), (1), (1), (1), by decide +kernel⟩,
    ⟨(({ ((State.reset.off (F.MGT_OD_MB_CTL_BUSY (1 : Fin 4))).off F.MGT_STATUS_RECOVERY).p F.GLB_REGION_STATE_ISOLATED 0 with clk := { State.reset.clk with power := .run, down := [] }, pol := Policy.reset, mg := { MgmtSt.reset with halted := [false, false, false, false, true] } })),
    (1), (1), (1), by decide +kernel⟩,
    ⟨(State.reset.on (F.MGT_OD_MB_CTL_BUSY (1 : Fin 4))), (1), (1), (1), by decide +kernel⟩,
    ⟨(({ ((State.reset.off (F.MGT_OD_MB_CTL_BUSY (1 : Fin 4))).off F.MGT_STATUS_RECOVERY).p F.GLB_REGION_STATE_ISOLATED 0 with clk := { State.reset.clk with power := .run, down := [] }, pol := Policy.reset, mg := { MgmtSt.reset with lastTicket := 9 } }).on
    F.MGT_STATUS_RECOVERY), (1), (1), (1), by decide +kernel⟩,
    ⟨(({ ((State.reset.off (F.MGT_OD_MB_CTL_BUSY (1 : Fin 4))).off F.MGT_STATUS_RECOVERY).p F.GLB_REGION_STATE_ISOLATED 0 with clk := { State.reset.clk with power := .run, down := [] }, pol := Policy.reset, mg := { MgmtSt.reset with halted := [false, false, false, false, true] } })),
    (1), (1), (1), by decide +kernel⟩,
    ⟨(State.reset.on (F.MGT_OD_MB_CTL_BUSY (1 : Fin 4))), (1), (1), (1), by decide +kernel⟩,
    ⟨({ ((State.reset.off (F.MGT_OD_MB_CTL_BUSY (0 : Fin 4))).off F.MGT_STATUS_RECOVERY).p F.GLB_REGION_STATE_ISOLATED 0 with clk := { State.reset.clk with power := .run, down := [] }, pol := Policy.reset, mg := { MgmtSt.reset with lastTicket := 9 } }),
    (0), (1), (1), by decide +kernel⟩,
    ⟨(({ ((State.reset.off (F.MGT_OD_MB_CTL_BUSY (1 : Fin 4))).off F.MGT_STATUS_RECOVERY).p F.GLB_REGION_STATE_ISOLATED 0 with clk := { State.reset.clk with power := .run, down := [] }, pol := Policy.reset, mg := { MgmtSt.reset with halted := [false, false, false, false, true] } })),
    (1), (1), (1), by decide +kernel⟩,
    ⟨(State.reset.on (F.MGT_OD_MB_CTL_BUSY (1 : Fin 4))), (1), (1), (1), by decide +kernel⟩,
    ⟨({ ((State.reset.off (F.MGT_OD_MB_CTL_BUSY (0 : Fin 4))).off F.MGT_STATUS_RECOVERY).p F.GLB_REGION_STATE_ISOLATED 0 with clk := { State.reset.clk with power := .run, down := [] }, pol := Policy.reset, mg := { MgmtSt.reset with lastTicket := 9 } }),
    (0), (1), by decide +kernel⟩,
    ⟨(({ ((State.reset.off (F.MGT_OD_MB_CTL_BUSY (1 : Fin 4))).off F.MGT_STATUS_RECOVERY).p F.GLB_REGION_STATE_ISOLATED 0 with clk := { State.reset.clk with power := .run, down := [] }, pol := Policy.reset, mg := { MgmtSt.reset with lastTicket := 9 } }).on
    F.MGT_STATUS_RECOVERY), (1), (1), by decide +kernel⟩,
    ⟨(({ ((State.reset.off (F.MGT_OD_MB_CTL_BUSY (1 : Fin 4))).off F.MGT_STATUS_RECOVERY).p F.GLB_REGION_STATE_ISOLATED 0 with clk := { State.reset.clk with power := .run, down := [] }, pol := Policy.reset, mg := { MgmtSt.reset with halted := [false, false, false, false, true] } })),
    (1), (1), by decide +kernel⟩,
    ⟨(State.reset.on (F.MGT_OD_MB_CTL_BUSY (1 : Fin 4))), (1), (1), by decide +kernel⟩,
    ⟨({ ((State.reset.off (F.MGT_OD_MB_CTL_BUSY (0 : Fin 4))).off F.MGT_STATUS_RECOVERY).p F.GLB_REGION_STATE_ISOLATED 0 with clk := { State.reset.clk with power := .run, down := [] }, pol := Policy.reset, mg := { MgmtSt.reset with lastTicket := 9 } }),
    (0), (1), (1), (5), (5), by decide +kernel⟩,
    ⟨(({ ((State.reset.off (F.MGT_OD_MB_CTL_BUSY (1 : Fin 4))).off F.MGT_STATUS_RECOVERY).p F.GLB_REGION_STATE_ISOLATED 0 with clk := { State.reset.clk with power := .run, down := [] }, pol := Policy.reset, mg := { MgmtSt.reset with lastTicket := 9 } }).on
    F.MGT_STATUS_RECOVERY), (1), (1), (1), (5), (5), by decide +kernel⟩,
    ⟨(({ ((State.reset.off (F.MGT_OD_MB_CTL_BUSY (1 : Fin 4))).off F.MGT_STATUS_RECOVERY).p F.GLB_REGION_STATE_ISOLATED 0 with clk := { State.reset.clk with power := .run, down := [] }, pol := Policy.reset, mg := { MgmtSt.reset with halted := [false, false, false, false, true] } })),
    (1), (1), (1), (5), (5), by decide +kernel⟩,
    ⟨(State.reset.on (F.MGT_OD_MB_CTL_BUSY (1 : Fin 4))), (1), (1), (1), (5), (5), by decide +kernel⟩,
    ⟨(({ ((State.reset.off (F.MGT_OD_MB_CTL_BUSY (1 : Fin 4))).off F.MGT_STATUS_RECOVERY).p F.GLB_REGION_STATE_ISOLATED 0 with clk := { State.reset.clk with power := .run, down := [] }, pol := Policy.reset, mg := { MgmtSt.reset with lastTicket := 9 } }).on
    F.MGT_STATUS_RECOVERY), (1), (1), (1), by decide +kernel⟩,
    ⟨(({ ((State.reset.off (F.MGT_OD_MB_CTL_BUSY (1 : Fin 4))).off F.MGT_STATUS_RECOVERY).p F.GLB_REGION_STATE_ISOLATED 0 with clk := { State.reset.clk with power := .run, down := [] }, pol := Policy.reset, mg := { MgmtSt.reset with halted := [false, false, false, false, true] } })),
    (1), (1), (1), by decide +kernel⟩,
    ⟨(State.reset.on (F.MGT_OD_MB_CTL_BUSY (1 : Fin 4))), (1), (1), (1), by decide +kernel⟩,
    ⟨(({ ((State.reset.off (F.MGT_OD_MB_CTL_BUSY (1 : Fin 4))).off F.MGT_STATUS_RECOVERY).p F.GLB_REGION_STATE_ISOLATED 0 with clk := { State.reset.clk with power := .run, down := [] }, pol := Policy.reset, mg := { MgmtSt.reset with lastTicket := 9 } }).on
    F.MGT_STATUS_RECOVERY), (1), (1), by decide +kernel⟩,
    ⟨(({ ((State.reset.off (F.MGT_OD_MB_CTL_BUSY (1 : Fin 4))).off F.MGT_STATUS_RECOVERY).p F.GLB_REGION_STATE_ISOLATED 0 with clk := { State.reset.clk with power := .run, down := [] }, pol := Policy.reset, mg := { MgmtSt.reset with halted := [false, false, false, false, true] } })),
    (1), (1), by decide +kernel⟩,
    ⟨(State.reset.on (F.MGT_OD_MB_CTL_BUSY (1 : Fin 4))), (1), (1), by decide +kernel⟩,
    ⟨({ ((State.reset.off (F.MGT_OD_MB_CTL_BUSY (0 : Fin 4))).off F.MGT_STATUS_RECOVERY).p F.GLB_REGION_STATE_ISOLATED 0 with clk := { State.reset.clk with power := .run, down := [] }, pol := Policy.reset, mg := { MgmtSt.reset with lastTicket := 9 } }),
    (0), (1), (1), by decide +kernel⟩,
    ⟨(({ ((State.reset.off (F.MGT_OD_MB_CTL_BUSY (1 : Fin 4))).off F.MGT_STATUS_RECOVERY).p F.GLB_REGION_STATE_ISOLATED 0 with clk := { State.reset.clk with power := .run, down := [] }, pol := Policy.reset, mg := { MgmtSt.reset with lastTicket := 9 } }).on
    F.MGT_STATUS_RECOVERY), (1), (1), (1), by decide +kernel⟩,
    ⟨(({ ((State.reset.off (F.MGT_OD_MB_CTL_BUSY (1 : Fin 4))).off F.MGT_STATUS_RECOVERY).p F.GLB_REGION_STATE_ISOLATED 0 with clk := { State.reset.clk with power := .run, down := [] }, pol := Policy.reset, mg := { MgmtSt.reset with halted := [false, false, false, false, true] } })),
    (1), (1), (1), by decide +kernel⟩,
    ⟨(State.reset.on (F.MGT_OD_MB_CTL_BUSY (1 : Fin 4))), (1), (1), (1), by decide +kernel⟩,
    ⟨({ ((State.reset.off (F.MGT_OD_MB_CTL_BUSY (1 : Fin 4))).off F.MGT_STATUS_RECOVERY).p F.GLB_REGION_STATE_ISOLATED 0 with clk := { State.reset.clk with power := .run, down := [] }, pol := Policy.reset, mg := { MgmtSt.reset with ledger := [⟨2, 5, 1, 7, 0⟩] } }),
    (1), (1), (7), (⟨2, 5, 1, 7, 0⟩), by decide +kernel⟩,
    ⟨({ ((State.reset.off (F.MGT_OD_MB_CTL_BUSY (1 : Fin 4))).off F.MGT_STATUS_RECOVERY).p F.GLB_REGION_STATE_ISOLATED 0 with clk := { State.reset.clk with power := .run, down := [] }, pol := Policy.reset, mg := { MgmtSt.reset with ledger := [⟨2, 5, 0, 7, 0⟩] } }),
    (1), (1), (7), by decide +kernel⟩,
    ⟨({ ((State.reset.off (F.MGT_OD_MB_CTL_BUSY (1 : Fin 4))).off F.MGT_STATUS_RECOVERY).p F.GLB_REGION_STATE_ISOLATED 0 with clk := { State.reset.clk with power := .run, down := [] }, pol := Policy.reset, mg := { MgmtSt.reset with ledger := [⟨2, 5, 0, 7, 0⟩] } }),
    (1), (1), (1), by decide +kernel⟩,
    ⟨({ State.reset.p F.GLB_REGION_STATE_ISOLATED 0 with clk := { State.reset.clk with power := .run, down := [] }, mg := { MgmtSt.reset with ledger := [⟨2, 5, 1, 7, 0⟩], deferred := none }, tb := { State.reset.tb with ticks := 2 ^ 60 } }),
    (7), (⟨2, 5, 1, 7, 0⟩), by decide +kernel⟩,
    ⟨({ State.reset with mg := MgmtSt.reset }), (1), by decide +kernel⟩,
    ⟨({ ((((((State.reset.on (F.MGT_OD_MB_CTL_BUSY (1 : Fin 4))).off F.MGT_STATUS_RECOVERY).p (F.POOL_C_CFG_COUNT 0) 4).setBuf 0 ⟨1, some 1⟩).wr (R.MGT_OD_MB_DATA (1 : Fin 4) 0) 0x00080010).wr (R.MGT_OD_MB_DATA (1 : Fin 4) 1) 5).wr (R.MGT_OD_MB_DATA (1 : Fin 4) 2) 0x01000000 |>.wr (R.MGT_OD_MB_DATA (1 : Fin 4) 3) 64 |>.p F.GLB_REGION_STATE_ISOLATED 0 with clk := { State.reset.clk with power := .run, down := [] }, pol := Policy.reset, mg := MgmtSt.reset }),
    (1), (⟨1, true, true, 3, 0, 7, false⟩), ([0, 0, 0, 1, 64, 0, 0, 0]), by decide +kernel⟩,
    ⟨({ ((((((State.reset.on (F.MGT_OD_MB_CTL_BUSY (1 : Fin 4))).off F.MGT_STATUS_RECOVERY).p (F.POOL_C_CFG_COUNT 0) 4).setBuf 0 ⟨1, some 1⟩).wr (R.MGT_OD_MB_DATA (1 : Fin 4) 0) 0x00080010).wr (R.MGT_OD_MB_DATA (1 : Fin 4) 1) 5).wr (R.MGT_OD_MB_DATA (1 : Fin 4) 2) 0x01000000 |>.wr (R.MGT_OD_MB_DATA (1 : Fin 4) 3) 64 |>.p F.GLB_REGION_STATE_ISOLATED 0 with clk := { State.reset.clk with power := .run, down := [] }, pol := Policy.reset, mg := MgmtSt.reset }),
    (1), (⟨9, true, true, 3, 0, 7, false⟩), ([0, 0, 0, 1, 64, 0, 0, 0]), by decide +kernel⟩,
    ⟨({ ((((((State.reset.on (F.MGT_OD_MB_CTL_BUSY (1 : Fin 4))).off F.MGT_STATUS_RECOVERY).p (F.POOL_C_CFG_COUNT 0) 4).setBuf 0 ⟨1, some 1⟩).wr (R.MGT_OD_MB_DATA (1 : Fin 4) 0) 0x00080013).wr (R.MGT_OD_MB_DATA (1 : Fin 4) 1) 5).wr (R.MGT_OD_MB_DATA (1 : Fin 4) 2) 0x01000000 |>.wr (R.MGT_OD_MB_DATA (1 : Fin 4) 3) 64 |>.p F.GLB_REGION_STATE_ISOLATED 0 with clk := { State.reset.clk with power := .run, down := [] }, pol := Policy.reset, mg := MgmtSt.reset }),
    (1), (⟨1, true, true, 3, 0, 7, false⟩), ([0, 0, 0, 1, 64, 0, 0, 0]), (Policy.reset), by decide +kernel⟩,
    ⟨(State.reset.off (F.MGT_OD_MB_CTL_BUSY (1 : Fin 4))), (1), (⟨1, true, true, 3, 0, 7, false⟩), by decide +kernel⟩,
    ⟨({ ((((((State.reset.on (F.MGT_OD_MB_CTL_BUSY (3 : Fin 4))).off F.MGT_STATUS_RECOVERY).p (F.POOL_C_CFG_COUNT 0) 4).setBuf 0 ⟨1, some 1⟩).wr (R.MGT_OD_MB_DATA (3 : Fin 4) 0) 0x00080010).wr (R.MGT_OD_MB_DATA (3 : Fin 4) 1) 5).wr (R.MGT_OD_MB_DATA (3 : Fin 4) 2) 0x01000000 |>.wr (R.MGT_OD_MB_DATA (3 : Fin 4) 3) 64 |>.p F.GLB_REGION_STATE_ISOLATED 0 with clk := { State.reset.clk with power := .run, down := [] }, pol := Policy.reset, mg := MgmtSt.reset }),
    (3), (⟨1, true, true, 3, 0, 7, false⟩), by decide +kernel⟩,
    ⟨(({ ((((((State.reset.on (F.MGT_OD_MB_CTL_BUSY (1 : Fin 4))).off F.MGT_STATUS_RECOVERY).p (F.POOL_C_CFG_COUNT 0) 4).setBuf 0 ⟨1, some 1⟩).wr (R.MGT_OD_MB_DATA (1 : Fin 4) 0) 0x00080010).wr (R.MGT_OD_MB_DATA (1 : Fin 4) 1) 5).wr (R.MGT_OD_MB_DATA (1 : Fin 4) 2) 0x01000000 |>.wr (R.MGT_OD_MB_DATA (1 : Fin 4) 3) 64 |>.p F.GLB_REGION_STATE_ISOLATED 0 with clk := { State.reset.clk with power := .run, down := [] }, pol := Policy.reset, mg := MgmtSt.reset }).p
    (F.POOL_C_CFG_COUNT 0) 0), (1), (⟨1, true, true, 3, 0, 7, false⟩), ([0, 0, 0, 1, 64, 0, 0, 0]), (5),
    by decide +kernel⟩,
    ⟨(State.reset.off (F.MGT_OD_MB_CTL_BUSY (1 : Fin 4))), (1), (⟨1, true, true, 3, 0, 7, false⟩), (Policy.reset),
    by decide +kernel⟩,
    ⟨({ ((((((State.reset.on (F.MGT_OD_MB_CTL_BUSY (3 : Fin 4))).off F.MGT_STATUS_RECOVERY).p (F.POOL_C_CFG_COUNT 0) 4).setBuf 0 ⟨1, some 1⟩).wr (R.MGT_OD_MB_DATA (3 : Fin 4) 0) 0x00080013).wr (R.MGT_OD_MB_DATA (3 : Fin 4) 1) 5).wr (R.MGT_OD_MB_DATA (3 : Fin 4) 2) 0x01000000 |>.wr (R.MGT_OD_MB_DATA (3 : Fin 4) 3) 64 |>.p F.GLB_REGION_STATE_ISOLATED 0 with clk := { State.reset.clk with power := .run, down := [] }, pol := Policy.reset, mg := MgmtSt.reset }),
    (3), (⟨1, true, true, 3, 0, 7, false⟩), (Policy.reset), by decide +kernel⟩,
    ⟨(({ ((((((State.reset.on (F.MGT_OD_MB_CTL_BUSY (1 : Fin 4))).off F.MGT_STATUS_RECOVERY).p (F.POOL_C_CFG_COUNT 0) 4).setBuf 0 ⟨1, some 1⟩).wr (R.MGT_OD_MB_DATA (1 : Fin 4) 0) 0x00080013).wr (R.MGT_OD_MB_DATA (1 : Fin 4) 1) 5).wr (R.MGT_OD_MB_DATA (1 : Fin 4) 2) 0x01000000 |>.wr (R.MGT_OD_MB_DATA (1 : Fin 4) 3) 64 |>.p F.GLB_REGION_STATE_ISOLATED 0 with clk := { State.reset.clk with power := .run, down := [] }, pol := Policy.reset, mg := MgmtSt.reset }).on
    F.MGT_STATUS_RECOVERY), (1), (⟨1, true, true, 3, 0, 7, false⟩), (Policy.reset), by decide +kernel⟩,
    ⟨(({ ((((((State.reset.on (F.MGT_OD_MB_CTL_BUSY (1 : Fin 4))).off F.MGT_STATUS_RECOVERY).p (F.POOL_C_CFG_COUNT 0) 4).setBuf 0 ⟨1, some 1⟩).wr (R.MGT_OD_MB_DATA (1 : Fin 4) 0) 0x00080013).wr (R.MGT_OD_MB_DATA (1 : Fin 4) 1) 5).wr (R.MGT_OD_MB_DATA (1 : Fin 4) 2) 0x01000000 |>.wr (R.MGT_OD_MB_DATA (1 : Fin 4) 3) 64 |>.p F.GLB_REGION_STATE_ISOLATED 0 with clk := { State.reset.clk with power := .run, down := [] }, pol := Policy.reset, mg := MgmtSt.reset }).p
    (F.POOL_C_CFG_COUNT 0) 0), (1), (⟨1, true, true, 3, 0, 7, false⟩), (Policy.reset), ([0, 0, 0, 1, 64, 0, 0, 0]), (5),
    by decide +kernel⟩,
    ⟨({ ((State.reset.off (F.MGT_OD_MB_CTL_BUSY (1 : Fin 4))).off F.MGT_STATUS_RECOVERY).p F.GLB_REGION_STATE_ISOLATED 0 with clk := { State.reset.clk with power := .run, down := [] }, pol := Policy.reset, mg := { MgmtSt.reset with slotB := some ⟨1, true, true, 3, 0, 7, false⟩, slotA := some ⟨1, true, true, 3, 0, 7, false⟩ } }),
    (1), (1), (⟨1, true, true, 3, 0, 7, false⟩), by decide +kernel⟩,
    ⟨({ (((State.reset.on F.MGT_STATUS_TRIAL).off (F.MGT_OD_MB_CTL_BUSY (1 : Fin 4))).off F.MGT_STATUS_RECOVERY).p F.GLB_REGION_STATE_ISOLATED 0 with clk := { State.reset.clk with power := .run, down := [] }, pol := Policy.reset, mg := { MgmtSt.reset with slotB := some ⟨1, true, true, 3, 0, 7, false⟩, slotA := some ⟨1, true, true, 3, 0, 7, false⟩ } }),
    (1), (1), (⟨1, true, true, 3, 0, 7, false⟩), by decide +kernel⟩,
    ⟨({ ((State.reset.off (F.MGT_OD_MB_CTL_BUSY (1 : Fin 4))).off F.MGT_STATUS_RECOVERY).p F.GLB_REGION_STATE_ISOLATED 0 with clk := { State.reset.clk with power := .run, down := [] }, pol := Policy.reset, mg := { MgmtSt.reset with slotB := some ⟨1, true, true, 3, 0, 7, false⟩, slotA := some ⟨1, true, true, 3, 0, 7, false⟩, lastTicket := 9 } }),
    (1), (1), (3), by decide +kernel⟩,
    ⟨({ ((State.reset.off (F.MGT_OD_MB_CTL_BUSY (1 : Fin 4))).off F.MGT_STATUS_RECOVERY).p F.GLB_REGION_STATE_ISOLATED 0 with clk := { State.reset.clk with power := .run, down := [] }, pol := Policy.reset, mg := { MgmtSt.reset with slotB := some ⟨1, true, true, 3, 0, 7, true⟩, slotA := some ⟨1, true, true, 3, 0, 7, true⟩ } }),
    (1), (1), (2), (⟨1, true, true, 3, 0, 7, true⟩), by decide +kernel⟩,
    ⟨(({ ((State.reset.off (F.MGT_OD_MB_CTL_BUSY (1 : Fin 4))).off F.MGT_STATUS_RECOVERY).p F.GLB_REGION_STATE_ISOLATED 0 with clk := { State.reset.clk with power := .run, down := [] }, pol := Policy.reset, mg := { MgmtSt.reset with slotB := some ⟨1, true, true, 3, 0, 7, false⟩, slotA := some ⟨1, true, true, 3, 0, 7, false⟩, lastTicket := 9 } }
    : State).on (F.AUX_CFG_EN 0)), (1), (1), (2), (⟨1, true, true, 3, 0, 7, false⟩), by decide +kernel⟩,
    ⟨({ ((State.reset.off (F.MGT_OD_MB_CTL_BUSY (1 : Fin 4))).off F.MGT_STATUS_RECOVERY).p F.GLB_REGION_STATE_ISOLATED 0 with clk := { State.reset.clk with power := .run, down := [] }, pol := Policy.reset, mg := { MgmtSt.reset with slotB := some ⟨1, true, true, 3, 0, 7, false⟩, slotA := some ⟨1, true, true, 3, 0, 7, false⟩, lastTicket := 9 } }),
    (1), (1), (2), (⟨1, true, true, 3, 0, 7, false⟩), by decide +kernel⟩,
    ⟨({ ((State.reset.off (F.MGT_OD_MB_CTL_BUSY (1 : Fin 4))).off F.MGT_STATUS_RECOVERY).p F.GLB_REGION_STATE_ISOLATED 0 with clk := { State.reset.clk with power := .run, down := [] }, pol := Policy.reset, mg := { MgmtSt.reset with slotB := some ⟨1, true, true, 3, 0, 7, false⟩, slotA := some ⟨1, true, true, 3, 0, 7, false⟩, lastTicket := 9 } }),
    (1), (1), (1), (⟨1, true, true, 3, 0, 7, false⟩), by decide +kernel⟩,
    ⟨({ ((State.reset.off (F.MGT_OD_MB_CTL_BUSY (1 : Fin 4))).off F.MGT_STATUS_RECOVERY).p F.GLB_REGION_STATE_ISOLATED 0 with clk := { State.reset.clk with power := .run, down := [] }, pol := Policy.reset, mg := { MgmtSt.reset with slotB := some ⟨1, true, true, 3, 0, 7, false⟩, slotA := some ⟨1, true, true, 3, 0, 7, false⟩, ledger := [⟨2, 0, 2, 7, 0⟩] } }),
    (1), (1), (1), (⟨1, true, true, 3, 0, 7, false⟩), by decide +kernel⟩,
    ⟨({ ((State.reset.off (F.MGT_OD_MB_CTL_BUSY (1 : Fin 4))).off F.MGT_STATUS_RECOVERY).p F.GLB_REGION_STATE_ISOLATED 0 with clk := { State.reset.clk with power := .run, down := [] }, pol := Policy.reset, mg := { MgmtSt.reset with slotB := some ⟨1, true, true, 3, 0, 7, false⟩, slotA := some ⟨1, true, true, 3, 0, 7, false⟩, ledger := [⟨6, 0, 2, 7, 0⟩] } }),
    (1), (1), (1), (⟨1, true, true, 3, 0, 7, false⟩), (⟨6, 0, 2, 7, 0⟩), by decide +kernel⟩,
    ⟨({ ((State.reset.off (F.MGT_OD_MB_CTL_BUSY (1 : Fin 4))).off F.MGT_STATUS_RECOVERY).p F.GLB_REGION_STATE_ISOLATED 0 with clk := { State.reset.clk with power := .run, down := [] }, pol := Policy.reset, mg := { MgmtSt.reset with slotB := some ⟨1, true, true, 3, 0, 7, false⟩, slotA := some ⟨1, true, true, 3, 0, 7, false⟩, deferred := some (2, 3) } }),
    (1), (1), (1), (⟨1, true, true, 3, 0, 7, false⟩), by decide +kernel⟩,
    ⟨(({ ((State.reset.off (F.MGT_OD_MB_CTL_BUSY (1 : Fin 4))).off F.MGT_STATUS_RECOVERY).p F.GLB_REGION_STATE_ISOLATED 0 with clk := { State.reset.clk with power := .run, down := [] }, pol := Policy.reset, mg := { MgmtSt.reset with lastTicket := 9 } }).off
    F.MGT_STATUS_TRIAL), (1), (1), by decide +kernel⟩,
    ⟨(({ ((State.reset.off (F.MGT_OD_MB_CTL_BUSY (1 : Fin 4))).off F.MGT_STATUS_RECOVERY).p F.GLB_REGION_STATE_ISOLATED 0 with clk := { State.reset.clk with power := .run, down := [] }, pol := Policy.reset, mg := { MgmtSt.reset with lastTicket := 9 } }).p
    (F.POOL_C_CFG_COUNT 0) 0), (1), (1), (1), (3), (0), by decide +kernel⟩,
    ⟨({ ((State.reset.off (F.MGT_OD_MB_CTL_BUSY (1 : Fin 4))).off F.MGT_STATUS_RECOVERY).p F.GLB_REGION_STATE_ISOLATED 0 |>.p (F.POOL_C_CFG_COUNT 0) 4 |>.setBuf 0 ⟨1, some 1⟩ with clk := { State.reset.clk with power := .run, down := [] }, pol := Policy.reset, mg := { MgmtSt.reset with flashDown := false } }),
    (1), (1), (1), (0), (0x01000000), by decide +kernel⟩,
    ⟨({ ((State.reset.off (F.MGT_OD_MB_CTL_BUSY (1 : Fin 4))).off F.MGT_STATUS_RECOVERY).p F.GLB_REGION_STATE_ISOLATED 0 with clk := { State.reset.clk with power := .run, down := [] }, pol := Policy.reset, mg := { MgmtSt.reset with flashDown := false } }),
    (1), (1), (98), by decide +kernel⟩,
    ⟨({ ((State.reset.off (F.MGT_OD_MB_CTL_BUSY (1 : Fin 4))).off F.MGT_STATUS_RECOVERY).p F.GLB_REGION_STATE_ISOLATED 0 |>.p (F.POOL_C_CFG_COUNT 0) 4 |>.setBuf 0 ⟨1, some 1⟩ with clk := { State.reset.clk with power := .run, down := [] }, pol := Policy.reset, mg := { MgmtSt.reset with flashDown := false } }),
    (1), (1), (1), (3), (0x01000000), by decide +kernel⟩,
    ⟨({ ((State.reset.off (F.MGT_OD_MB_CTL_BUSY (1 : Fin 4))).off F.MGT_STATUS_RECOVERY).p F.GLB_REGION_STATE_ISOLATED 0 with clk := { State.reset.clk with power := .run, down := [] }, pol := Policy.reset, mg := { MgmtSt.reset with flashDown := false } }),
    (1), (1), (4), by decide +kernel⟩,
    ⟨({ ((State.reset.off (F.MGT_OD_MB_CTL_BUSY (1 : Fin 4))).off F.MGT_STATUS_RECOVERY).p F.GLB_REGION_STATE_ISOLATED 0 with clk := { State.reset.clk with power := .run, down := [] }, pol := Policy.reset, mg := { MgmtSt.reset with flashDown := false } }),
    (1), (1), (4), by decide +kernel⟩,
    ⟨({ ((State.reset.off (F.MGT_OD_MB_CTL_BUSY (1 : Fin 4))).off F.MGT_STATUS_RECOVERY).p F.GLB_REGION_STATE_ISOLATED 0 with clk := { State.reset.clk with power := .run, down := [] }, pol := Policy.reset, mg := { MgmtSt.reset with flashDown := false } }),
    (1), (1), by decide +kernel⟩,
    ⟨({ ((State.reset.off (F.MGT_OD_MB_CTL_BUSY (1 : Fin 4))).off F.MGT_STATUS_RECOVERY).p F.GLB_REGION_STATE_ISOLATED 0 with clk := { State.reset.clk with power := .run, down := [] }, pol := Policy.reset, mg := { MgmtSt.reset with flashDown := false } }),
    (1), (1), (0x99), by decide +kernel⟩,
    ⟨({ ((((State.reset.wr (R.HIF_OD_SQ_CFG (1 : Fin 4) (0 : Fin 8)) 0x24).p (F.HIF_OD_SQ_CFG_CLASS (1 : Fin 4) (0 : Fin 8)) 1).on (F.HIF_OD_SQ_STATUS_RUNNING (1 : Fin 4) (0 : Fin 8))).p (F.HIF_OD_SQ_STATUS_HEAD (1 : Fin 4) (0 : Fin 8)) 1).p F.GLB_REGION_STATE_ISOLATED 0 with clk := { State.reset.clk with power := .run, down := [] }, mg := MgmtSt.reset }),
    (1), (0), (⟨1, 4, 7, 0, 0, [0, 0, 0, 0, 0, 0, 0, 0, 8] ++ List.replicate 39 0⟩), ([0x99, 0, 0, 0, 5, 0, 0, 0]), (⟨1,
    true, true, 3, 0, 7, false⟩), (Policy.reset), by decide +kernel⟩,
    ⟨({ ((((State.reset.wr (R.HIF_OD_SQ_CFG (1 : Fin 4) (0 : Fin 8)) 0x24).p (F.HIF_OD_SQ_CFG_CLASS (1 : Fin 4) (0 : Fin 8)) 1).on (F.HIF_OD_SQ_STATUS_RUNNING (1 : Fin 4) (0 : Fin 8))).p (F.HIF_OD_SQ_STATUS_HEAD (1 : Fin 4) (0 : Fin 8)) 1).p F.GLB_REGION_STATE_ISOLATED 0 with clk := { State.reset.clk with power := .run, down := [] }, mg := MgmtSt.reset }),
    (1), (0), (⟨1, 4, 7, 0, 0, [0, 0, 0, 0, 0, 0, 0, 0, 8] ++ List.replicate 39 0⟩), ([0x22, 0, 0, 0, 5, 0, 0, 0]), (⟨1,
    true, true, 3, 0, 7, false⟩), (Policy.reset), by decide +kernel⟩,
    ⟨(({ ((((State.reset.wr (R.HIF_OD_SQ_CFG (1 : Fin 4) (0 : Fin 8)) 0x24).p (F.HIF_OD_SQ_CFG_CLASS (1 : Fin 4) (0 : Fin 8)) 1).on (F.HIF_OD_SQ_STATUS_RUNNING (1 : Fin 4) (0 : Fin 8))).p (F.HIF_OD_SQ_STATUS_HEAD (1 : Fin 4) (0 : Fin 8)) 1).p F.GLB_REGION_STATE_ISOLATED 0 with clk := { State.reset.clk with power := .run, down := [] }, mg := MgmtSt.reset })),
    (1), (0), (⟨1, 4, 7, 0, 0, [0, 0, 0, 0, 0, 0, 0, 0, 8] ++ List.replicate 39 0⟩), ([0x99, 0, 0, 0, 5, 0, 0, 0]), (⟨1,
    true, true, 3, 0, 7, false⟩), (Policy.reset), by decide +kernel⟩,
    ⟨(({ ((((State.reset.wr (R.HIF_OD_SQ_CFG (2 : Fin 4) (0 : Fin 8)) 0x24).p (F.HIF_OD_SQ_CFG_CLASS (2 : Fin 4) (0 : Fin 8)) 1).on (F.HIF_OD_SQ_STATUS_RUNNING (2 : Fin 4) (0 : Fin 8))).p (F.HIF_OD_SQ_STATUS_HEAD (2 : Fin 4) (0 : Fin 8)) 1).p F.GLB_REGION_STATE_ISOLATED 0 with clk := { State.reset.clk with power := .run, down := [] }, mg := MgmtSt.reset })),
    (2), (0), (⟨1, 4, 7, 0, 0, [0, 0, 0, 0, 0, 0, 0, 0, 8] ++ List.replicate 39 0⟩), ([0x11, 0, 0, 0, 5, 0, 0, 0]), (⟨1,
    true, true, 3, 0, 7, false⟩), (Policy.reset), by decide +kernel⟩,
    ⟨(({ ((((State.reset.wr (R.HIF_OD_SQ_CFG (1 : Fin 4) (0 : Fin 8)) 0x24).p (F.HIF_OD_SQ_CFG_CLASS (1 : Fin 4) (0 : Fin 8)) 1).on (F.HIF_OD_SQ_STATUS_RUNNING (1 : Fin 4) (0 : Fin 8))).p (F.HIF_OD_SQ_STATUS_HEAD (1 : Fin 4) (0 : Fin 8)) 1).p F.GLB_REGION_STATE_ISOLATED 0 with clk := { State.reset.clk with power := .run, down := [] }, mg := MgmtSt.reset })
    |>.on F.MGT_STATUS_RECOVERY), (1), (0), (⟨1, 4, 7, 0, 0, [0, 0, 0, 0, 0, 0, 0, 0, 8] ++ List.replicate 39 0⟩),
    ([0x01, 0, 0, 0, 5, 0, 0, 0]), (⟨1, true, true, 3, 0, 7, false⟩), (Policy.reset), by decide +kernel⟩,
    ⟨({ ((((State.reset.wr (R.HIF_OD_SQ_CFG (1 : Fin 4) (0 : Fin 8)) 0x24).p (F.HIF_OD_SQ_CFG_CLASS (1 : Fin 4) (0 : Fin 8)) 1).on (F.HIF_OD_SQ_STATUS_RUNNING (1 : Fin 4) (0 : Fin 8))).p (F.HIF_OD_SQ_STATUS_HEAD (1 : Fin 4) (0 : Fin 8)) 1).p F.GLB_REGION_STATE_ISOLATED 0 with clk := { State.reset.clk with power := .run, down := [] }, mg := MgmtSt.reset }),
    (1), (0), (⟨1, 4, 7, 0, 0, [0, 0, 0, 0, 0, 0, 0, 0, 8] ++ List.replicate 39 0⟩), ([]), (⟨1, true, true, 3, 0, 7,
    false⟩), (Policy.reset), by decide +kernel⟩,
    ⟨({ State.reset.p F.GLB_REGION_STATE_ISOLATED 0 with clk := { State.reset.clk with down := [3] } }), (1), (0), (⟨1, 4,
    7, 0, 0, [0, 0, 0, 0, 0, 0, 0, 0, 8] ++ List.replicate 39 0⟩), ([]), (⟨1, true, true, 3, 0, 7, false⟩),
    (Policy.reset), by decide +kernel⟩⟩

theorem witness_AgeingFollowsItsRules :
    (∃ (s : State), s.camelliaRuns = false) ∧
    (∃ (s : State) (n : Fin 16) (x : Int), s.dutyDue dutyThermal 1 = true ∧ s.nextTj n = some x) ∧
    (∃ (s : State), s.camelliaRuns = false) ∧
    (∃ (s : State) (_n : Fin 16), s.camelliaRuns = true ∧ s.calendarHour ≠ s.mg.replanHour) :=
  ⟨⟨(State.reset), by decide +kernel⟩,
    ⟨((({ State.reset.p F.GLB_REGION_STATE_ISOLATED 0 with clk := { State.reset.clk with power := .run, down := [] }, mg := { MgmtSt.reset with replanHour := State.reset.calendarHour + 1 } }).p
    (F.AX_PWM_STATUS_STATE (0 : Fin 16)) 0).p (F.MGT_AX_TH_TAU_TAU (0 : Fin 16)) 1 |>.p (F.AX_TLM_STATUS_STATE (0 : Fin
    16)) 0 |>.p (F.MGT_AX_TH_TAMB_SUB_TAMB_SUB (0 : Fin 16)) 0), (0), (0), by decide +kernel⟩,
    ⟨(State.reset), by decide +kernel⟩,
    ⟨({ State.reset.p F.GLB_REGION_STATE_ISOLATED 0 with clk := { State.reset.clk with power := .run, down := [] }, mg := { MgmtSt.reset with replanHour := State.reset.calendarHour + 1 } }),
    (0), by decide +kernel⟩⟩

theorem witness_TestAccessPortFollowsItsRules :
    (∃ (s : State), (∀ n : Fin 4, s.is (F.MGT_OD_MB_CTL_BUSY n) = false)) ∧
    (∃ (_s : State) (code : BitVec 8), (code = 0xFF ∨ tapCodes.contains code.toNat = false)) ∧
    (∃ (s : State), s.mg.session = none) ∧
    (∃ (s : State) (x : DebugSession), s.mg.session = some x ∧ x.notAfter = s.mg.calendar / secUnits + 5) ∧
    (∃ (s : State) (c : Cert), s.camelliaRuns = true ∧ s.certCheck c = 0) ∧
    (∃ (s : State) (c : Cert), s.camelliaRuns = true ∧ s.certCheck c ≠ 0 ∧ s.certCheck c ≠ 8 ∧ 2 ≤ s.mg.refusals) ∧
    (∃ (s : State) (c : Cert), s.camelliaRuns = true ∧ s.certCheck c ≠ 0 ∧ s.certCheck c ≠ 8 ∧ s.mg.refusals < 2) ∧
    (∃ (s : State) (c : Cert), s.camelliaRuns = true ∧ s.certCheck c = 8 ∧ (s.mg.refusals < 3 ∨ s.mg.refusing = true)) ∧
    (∃ (s : State) (_c : Cert), s.camelliaRuns = false) ∧
    (∃ (_s : State) (code : BitVec 8), code ≠ 0xFF ∧ tapCodes.contains code.toNat = true) ∧
    (∃ (s : State), (∀ n : Fin 4, s.is (F.MGT_OD_MB_CTL_BUSY n) = false)) ∧
    (∃ (s : State), s.permits 3 = true) ∧
    (∃ (s : State), s.permits 3 = false) ∧
    (∃ (s : State) (x : DebugSession), s.mg.session = some x ∧ x.notAfter < s.mg.calendar / secUnits) ∧
    (∃ (s : State), (s.mg.session = none ∨ s.mg.session.any (fun x => decide (s.mg.calendar / secUnits ≤ x.notAfter)) =
      true)) ∧
    (∃ (s : State), (s.mg.refusing = false ∨ s.tb.ticks < s.mg.refuseTick + 60 * 250000000)) ∧
    (∃ (s : State), s.mg.refusing = true ∧ s.mg.refuseTick + 60 * 250000000 ≤ s.tb.ticks) ∧
    (∃ (s : State) (core : Fin 8), s.permits (if core.val = 4 then 2 else 1) = true ∧ core.val ≤ 4 ∧ (s.motionActive =
      false ∨ core.val = 4) ∧ s.mg.halted.length = 5) ∧
    (∃ (s : State) (core : Fin 8), s.permits (if core.val = 4 then 2 else 1) = true ∧ core.val ≤ 4 ∧ core.val < 4 ∧
      s.motionActive = true) ∧
    (∃ (s : State) (core : Fin 8), s.permits (if core.val = 4 then 2 else 1) = true ∧ core.val ≤ 4 ∧ s.isHalted core = true) ∧
    (∃ (s : State) (core : Fin 8), s.permits (if core.val = 4 then 2 else 1) = true ∧ core.val ≤ 4 ∧ s.isHalted core = true
      ∧ (∀ n : Fin 4, s.is (F.MGT_OD_MB_CTL_BUSY n) = false)) ∧
    (∃ (s : State) (core : Fin 8), s.permits (if core.val = 4 then 2 else 1) = true ∧ core.val ≤ 4 ∧ s.isHalted core =
      false) ∧
    (∃ (s : State) (core : Fin 8), s.permits (if core.val = 4 then 2 else 1) = true ∧ core.val ≤ 4 ∧ s.isHalted core =
      false) ∧
    (∃ (s : State) (_core : Fin 8), s.permits 1 = false ∧ s.permits 2 = false) ∧
    (∃ (s : State) (core : Fin 8), (s.permits 1 = true ∨ s.permits 2 = true) ∧ ((core.val < 4 ∧ s.permits 1 = false) ∨
      (core.val = 4 ∧ s.permits 2 = false) ∨ 4 < core.val)) ∧
    (∃ (s : State) (_core : Fin 8), s.permits 1 = false ∧ s.permits 2 = false) ∧
    (∃ (s : State) (core : Fin 8), (s.permits 1 = true ∨ s.permits 2 = true) ∧ ((core.val < 4 ∧ s.permits 1 = false) ∨
      (core.val = 4 ∧ s.permits 2 = false) ∨ 4 < core.val)) ∧
    (∃ (s : State) (_core : Fin 8), s.permits 1 = false ∧ s.permits 2 = false) ∧
    (∃ (s : State) (core : Fin 8), (s.permits 1 = true ∨ s.permits 2 = true) ∧ ((core.val < 4 ∧ s.permits 1 = false) ∨
      (core.val = 4 ∧ s.permits 2 = false) ∨ 4 < core.val)) ∧
    (∃ (s : State) (_core : Fin 8) (_a : BitVec 24), s.permits 1 = false ∧ s.permits 2 = false) ∧
    (∃ (s : State) (core : Fin 8) (_a : BitVec 24), (s.permits 1 = true ∨ s.permits 2 = true) ∧ ((core.val < 4 ∧ s.permits 1
      = false) ∨ (core.val = 4 ∧ s.permits 2 = false) ∨ 4 < core.val)) ∧
    (∃ (s : State) (_core : Fin 8) (_a : BitVec 24) (_data : Word), s.permits 1 = false ∧ s.permits 2 = false) ∧
    (∃ (s : State) (core : Fin 8) (_a : BitVec 24) (_data : Word), (s.permits 1 = true ∨ s.permits 2 = true) ∧ ((core.val < 4
      ∧ s.permits 1 = false) ∨ (core.val = 4 ∧ s.permits 2 = false) ∨ 4 < core.val)) ∧
    (∃ (s : State) (_core : Fin 8) (_a : BitVec 24), s.permits 1 = false ∧ s.permits 2 = false) ∧
    (∃ (s : State) (core : Fin 8) (_a : BitVec 24), (s.permits 1 = true ∨ s.permits 2 = true) ∧ ((core.val < 4 ∧ s.permits 1
      = false) ∨ (core.val = 4 ∧ s.permits 2 = false) ∨ 4 < core.val)) ∧
    (∃ (s : State) (_core : Fin 8) (_a : BitVec 24) (_data : Word), s.permits 1 = false ∧ s.permits 2 = false) ∧
    (∃ (s : State) (core : Fin 8) (_a : BitVec 24) (_data : Word), (s.permits 1 = true ∨ s.permits 2 = true) ∧ ((core.val < 4
      ∧ s.permits 1 = false) ∨ (core.val = 4 ∧ s.permits 2 = false) ∨ 4 < core.val)) ∧
    (∃ (s : State) (core : Fin 8), s.permits (if core.val = 4 then 2 else 1) = true ∧ core.val ≤ 4 ∧ s.isHalted core = true) ∧
    (∃ (s : State) (core : Fin 8) (_a : BitVec 24) (_data : Word), s.permits (if core.val = 4 then 2 else 1) = true ∧
      core.val ≤ 4 ∧ s.isHalted core = true) ∧
    (∃ (s : State) (core : Fin 8) (a : BitVec 24) (data : Word), s.permits (if core.val = 4 then 2 else 1) = true ∧
      core.val ≤ 4 ∧ tabGet (fun _ => none) s.mg.coreReg (coreKey core a.toNat) = some data) ∧
    (∃ (s : State) (core : Fin 8) (_a : BitVec 24) (_data : Word), s.permits (if core.val = 4 then 2 else 1) = true ∧
      core.val ≤ 4 ∧ s.isHalted core = true) ∧
    (∃ (s : State) (core : Fin 8) (a : BitVec 24) (data : Word), s.permits (if core.val = 4 then 2 else 1) = true ∧
      core.val ≤ 4 ∧ tabGet (fun _ => none) s.mg.coreMem (coreKey core a.toNat) = some data) ∧
    (∃ (s : State) (core : Fin 8) (_a : BitVec 24) (_data : Word), s.permits (if core.val = 4 then 2 else 1) = true ∧
      core.val ≤ 4 ∧ s.isHalted core = false) ∧
    (∃ (s : State) (core : Fin 8) (a : BitVec 24), s.permits (if core.val = 4 then 2 else 1) = true ∧ core.val ≤ 4 ∧ tabGet
      (fun _ => none) s.mg.coreReg (coreKey core a.toNat) = none) ∧
    (∃ (s : State) (core : Fin 8) (_a : BitVec 24) (_data : Word), s.permits (if core.val = 4 then 2 else 1) = true ∧
      core.val ≤ 4 ∧ s.isHalted core = false) ∧
    (∃ (s : State) (core : Fin 8) (a : BitVec 24), s.permits (if core.val = 4 then 2 else 1) = true ∧ core.val ≤ 4 ∧ tabGet
      (fun _ => none) s.mg.coreMem (coreKey core a.toNat) = none) ∧
    (∃ (s : State) (core : Fin 8) (_a : BitVec 24), s.permits 1 = true ∧ s.permits 2 = false ∧ core.val = 4) :=
  ⟨⟨({ State.reset with mg := { State.reset.mg with session := some ⟨3, 9⟩ } }), by decide +kernel⟩,
    ⟨(State.reset), (0x99), by decide +kernel⟩,
    ⟨({ State.reset with mg := { State.reset.mg with session := none } }), by decide +kernel⟩,
    ⟨({ State.reset with mg := { State.reset.mg with session := some (⟨3, State.reset.mg.calendar / secUnits + 5⟩ : DebugSession) } }),
    (⟨3, State.reset.mg.calendar / secUnits + 5⟩), by decide +kernel⟩,
    ⟨({ State.reset.p F.GLB_REGION_STATE_ISOLATED 0 with clk := { State.reset.clk with down := [] }, mg := { MgmtSt.reset with challengeNo := State.reset.mg.challengeNo } }),
    (⟨0x0D01, 1, Config.deviceIdentity, Config.challenge State.reset.mg.challengeNo, 0, 100, 1, true⟩),
    ⟨by decide +kernel, certCheck_passes _ _ rfl rfl rfl (by decide +kernel) rfl rfl rfl rfl rfl rfl⟩⟩,
    ⟨({ ({ State.reset.p F.GLB_REGION_STATE_ISOLATED 0 with clk := { State.reset.clk with down := [] }, mg := { MgmtSt.reset with challengeNo := State.reset.mg.challengeNo } }) with mg := { ({ State.reset.p F.GLB_REGION_STATE_ISOLATED 0 with clk := { State.reset.clk with down := [] }, mg := { MgmtSt.reset with challengeNo := State.reset.mg.challengeNo } }).mg with refusals := 2 } }),
    (⟨0, 1, 0, 0, 0, 100, 1, true⟩), by decide +kernel⟩,
    ⟨({ State.reset.p F.GLB_REGION_STATE_ISOLATED 0 with clk := { State.reset.clk with down := [] }, mg := { MgmtSt.reset with challengeNo := State.reset.mg.challengeNo } }),
    (⟨0, 1, 0, 0, 0, 100, 1, true⟩), by decide +kernel⟩,
    ⟨({ ({ State.reset.p F.GLB_REGION_STATE_ISOLATED 0 with clk := { State.reset.clk with down := [] }, mg := { MgmtSt.reset with challengeNo := State.reset.mg.challengeNo } }) with mg := { ({ State.reset.p F.GLB_REGION_STATE_ISOLATED 0 with clk := { State.reset.clk with down := [] }, mg := { MgmtSt.reset with challengeNo := State.reset.mg.challengeNo } }).mg with refusing := true } }),
    (⟨0, 1, 0, 0, 0, 100, 1, true⟩), by decide +kernel⟩,
    ⟨({ State.reset with clk := { State.reset.clk with down := [3] } }), (⟨0, 1, 0, 0, 0, 100, 1, true⟩), by decide +kernel⟩,
    ⟨(State.reset), (0x40), by decide +kernel⟩,
    ⟨({ State.reset with mg := { State.reset.mg with session := some ⟨3, 9⟩ } }), by decide +kernel⟩,
    ⟨({ State.reset with mg := { State.reset.mg with session := some ⟨8, 9⟩ } }), by decide +kernel⟩,
    ⟨({ State.reset with mg := { State.reset.mg with session := none } }), by decide +kernel⟩,
    ⟨({ State.reset with mg := { State.reset.mg with session := some (⟨3, 9⟩ : DebugSession), calendar := 20 * secUnits } }),
    (⟨3, 9⟩), by decide +kernel⟩,
    ⟨({ State.reset with mg := { State.reset.mg with session := some ⟨3, 2 ^ 60⟩, calendar := 20 * secUnits } }),
    by decide +kernel⟩,
    ⟨({ State.reset with mg := { State.reset.mg with refusing := false } }), by decide +kernel⟩,
    ⟨({ State.reset with mg := { State.reset.mg with refusing := true, refuseTick := 0 }, tb := { State.reset.tb with ticks := 2 ^ 60 } }),
    by decide +kernel⟩,
    ⟨({ State.reset with mg := { State.reset.mg with session := some ⟨7, 9⟩, halted := [false, false, false, false, false] } }),
    (0), by decide +kernel⟩,
    ⟨({ State.reset.on (F.AUX_CFG_EN 0) with mg := { State.reset.mg with session := some ⟨7, 9⟩ } }), (0),
    by decide +kernel⟩,
    ⟨({ State.reset with mg := { State.reset.mg with session := some ⟨7, 9⟩, halted := [true, true, true, true, true] } }),
    (0), by decide +kernel⟩,
    ⟨({ State.reset with mg := { State.reset.mg with session := some ⟨7, 9⟩, halted := [true, true, true, true, true] } }),
    (0), by decide +kernel⟩,
    ⟨({ State.reset with mg := { State.reset.mg with session := some ⟨7, 9⟩, halted := [false, false, false, false, false] } }),
    (0), by decide +kernel⟩,
    ⟨({ State.reset with mg := { State.reset.mg with session := some ⟨7, 9⟩, halted := [false, false, false, false, false] } }),
    (0), by decide +kernel⟩,
    ⟨({ State.reset with mg := { State.reset.mg with session := none } }), (0), by decide +kernel⟩,
    ⟨({ State.reset with mg := { State.reset.mg with session := some ⟨2, 9⟩ } }), (4), by decide +kernel⟩,
    ⟨({ State.reset with mg := { State.reset.mg with session := none } }), (0), by decide +kernel⟩,
    ⟨({ State.reset with mg := { State.reset.mg with session := some ⟨2, 9⟩ } }), (4), by decide +kernel⟩,
    ⟨({ State.reset with mg := { State.reset.mg with session := none } }), (0), by decide +kernel⟩,
    ⟨({ State.reset with mg := { State.reset.mg with session := some ⟨2, 9⟩ } }), (4), by decide +kernel⟩,
    ⟨({ State.reset with mg := { State.reset.mg with session := none } }), (0), (1), by decide +kernel⟩,
    ⟨({ State.reset with mg := { State.reset.mg with session := some ⟨2, 9⟩ } }), (4), (1), by decide +kernel⟩,
    ⟨({ State.reset with mg := { State.reset.mg with session := none } }), (0), (1), (5), by decide +kernel⟩,
    ⟨({ State.reset with mg := { State.reset.mg with session := some ⟨2, 9⟩ } }), (4), (1), (5), by decide +kernel⟩,
    ⟨({ State.reset with mg := { State.reset.mg with session := none } }), (0), (1), by decide +kernel⟩,
    ⟨({ State.reset with mg := { State.reset.mg with session := some ⟨2, 9⟩ } }), (4), (1), by decide +kernel⟩,
    ⟨({ State.reset with mg := { State.reset.mg with session := none } }), (0), (1), (5), by decide +kernel⟩,
    ⟨({ State.reset with mg := { State.reset.mg with session := some ⟨2, 9⟩ } }), (4), (1), (5), by decide +kernel⟩,
    ⟨({ State.reset with mg := { State.reset.mg with session := some ⟨7, 9⟩, halted := [true, true, true, true, true], coreReg := [(5, some 1), (16777221, some 2)] } }),
    (0), by decide +kernel⟩,
    ⟨({ State.reset with mg := { State.reset.mg with session := some ⟨7, 9⟩, halted := [true, true, true, true, true] } }),
    (0), (1), (5), by decide +kernel⟩,
    ⟨({ State.reset with mg := { State.reset.mg with session := some ⟨7, 9⟩, coreReg := [(coreKey (0 : Fin 8) (1 : BitVec 24).toNat, some (5 : Word))] } }),
    (0), (1), (5), by decide +kernel⟩,
    ⟨({ State.reset with mg := { State.reset.mg with session := some ⟨7, 9⟩, halted := [true, true, true, true, true] } }),
    (0), (1), (5), by decide +kernel⟩,
    ⟨({ State.reset with mg := { State.reset.mg with session := some ⟨7, 9⟩, coreMem := [(coreKey (0 : Fin 8) (1 : BitVec 24).toNat, some (5 : Word))] } }),
    (0), (1), (5), by decide +kernel⟩,
    ⟨({ State.reset with mg := { State.reset.mg with session := some ⟨7, 9⟩, halted := [false, false, false, false, false] } }),
    (0), (1), (5), by decide +kernel⟩,
    ⟨({ State.reset with mg := { State.reset.mg with session := some ⟨7, 9⟩, halted := [true, true, true, true, true] } }),
    (0), (1), by decide +kernel⟩,
    ⟨({ State.reset with mg := { State.reset.mg with session := some ⟨7, 9⟩, halted := [false, false, false, false, false] } }),
    (0), (1), (5), by decide +kernel⟩,
    ⟨({ State.reset with mg := { State.reset.mg with session := some ⟨7, 9⟩, halted := [true, true, true, true, true] } }),
    (0), (1), by decide +kernel⟩,
    ⟨({ State.reset with mg := { State.reset.mg with session := some ⟨2, 9⟩ } }), (4), (1), by decide +kernel⟩⟩

theorem witness_WindowWritesFollowTheirRules :
    (∃ (s : State) (rq : Rq) (addr : Nat) (v : Word) (r : Nat), addr < 0x2000000 ∧ s.dropReason rq (addr / 4 * 4) = some r
      ∧ s.mayAny rq (addr / 4 * 4) v = true) ∧
    (∃ (s : State) (rq : Rq) (addr : Nat) (v : Word), addr < 0x1FFE000 ∧ addr % 4 = 0 ∧ s.dropReason rq addr = none ∧
      s.mayWrite rq addr v = false ∧ (¬ (0xD20000 ≤ addr ∧ addr < 0xD40000)) ∧ [R.HIF_TORN, R.LSP_EN_REQ0,
      R.LSP_EN_REQ1, R.FIO_OUT, R.FIO_OUT_SET, R.FIO_OUT_CLR, R.FIO_OUT_FCLR].contains addr = false) ∧
    (∃ (s : State) (rq : Rq) (addr : Nat) (v : Word), addr < 0x2000000 ∧ (s.dropReason rq (addr / 4 * 4)).isSome = true ∧
      s.mayAny rq (addr / 4 * 4) v = false) ∧
    (∃ (_s : State) (_rq : Rq) (addr : Nat) (_v : Word), 0x2000000 ≤ addr) ∧
    (∃ (s : State) (rq : Rq) (k : Fin 168) (addr : Nat) (v : Word), (addr = R.LSP_CH_VMAX k ∨ addr = R.LSP_CH_AMAX k ∨ addr
      = R.LSP_CH_DMAX k ∨ addr = R.LSP_CH_JMAX k) ∧ s.reaches rq addr ∧ inRange addr v = true) ∧
    (∃ (s : State) (rq : Rq) (v : Word), s.reaches rq R.CLK_DIV ∧ divOk v = true) ∧
    (∃ (s : State) (rq : Rq) (v : Word), s.reaches rq R.CLK_DIV ∧ inRange R.CLK_DIV v = true ∧ divOk v = false ∧ s.rd
      R.CLK_DIV ≠ v &&& 0x3FFFF) ∧
    (∃ (s : State) (rq : Rq) (_v : Word), s.dropReason rq R.HIF_TORN = none ∧ tornBit rq = none) ∧
    (∃ (s : State) (rq : Rq) (_v : Word) (r : Nat), s.dropReason rq R.HIF_TORN = some r ∧ (tornBit rq).isSome = true) ∧
    (∃ (s : State) (rq : Rq) (_v : Word) (i : Nat), s.dropReason rq R.HIF_TORN = none ∧ tornBit rq = some i) :=
  ⟨⟨({ State.reset.p F.GLB_REGION_STATE_ISOLATED 1 with clk := { State.reset.clk with power := .run } }), (.od 0),
    (R.LSP_CH_VMAX 3), (5), (1), by decide +kernel⟩,
    ⟨(State.reset), (.od 3), (R.LSP_CH_VMAX 3), (5), by decide +kernel⟩,
    ⟨({ State.reset.p F.GLB_REGION_STATE_ISOLATED 1 with clk := { State.reset.clk with power := .run } }), (.od 3),
    (R.LSP_CH_VMAX 3), (5), by decide +kernel⟩,
    ⟨(State.reset), (.od 0), (0x2000004), (5), by decide +kernel⟩,
    ⟨(State.reset), (.od 0), (0), (R.LSP_CH_VMAX (0 : Fin 168)), (0x1234), by decide +kernel⟩,
    ⟨(State.reset), (.od 0), (0x14842), by decide +kernel⟩,
    ⟨(State.reset), (.od 0), (0x13842), by decide +kernel⟩,
    ⟨(State.reset), (.dbg), (5), by decide +kernel⟩,
    ⟨({ State.reset.p F.GLB_REGION_STATE_ISOLATED 4 with clk := { State.reset.clk with power := .run } }), (.od 0), (5),
    (1), by decide +kernel⟩,
    ⟨(State.reset.wr R.HIF_TORN 0x1FF), (.od 0), (5), (0), by decide +kernel⟩⟩

theorem witness_WindowReadsFollowTheirRules :
    (∃ (s : State) (_n : Fin 4) (addr : Nat), addr < 0x2000000 ∧ addr % 4 = 0 ∧ s.readErr addr = true) ∧
    (∃ (s : State) (rq : Rq) (addr : Nat), addr < 0x2000000 ∧ addr % 4 = 0 ∧ s.readErr addr = true ∧ (∀ n : Fin 4, rq ≠ .od
      n)) ∧
    (∃ (s : State) (rq : Rq) (addr : Nat), addr < 0x2000000 ∧ addr % 4 = 0 ∧ s.readErr addr = false ∧ hidden rq addr = true) ∧
    (∃ (_s : State) (_rq : Rq) (addr : Nat), 0x2000000 ≤ addr) ∧
    (∃ (_s : State) (_rq : Rq) (addr : Nat), addr < 0x2000000) ∧
    (∃ (s : State) (rq : Rq) (addr : Nat), addr % 4 = 0 ∧ s.readErr addr = false ∧ hidden rq addr = false ∧ (addr <
      0x100000 ∨ (0x200000 ≤ addr ∧ addr < 0xE80000) ∨ (0xEA0000 ≤ addr ∧ addr < 0x1FFE000)) ∧ stampOf addr = none ∧
      s.fromSnap rq addr = none ∧ wideLo addr = false ∧ wideHi addr = false) ∧
    (∃ (s : State) (_rq : Rq) (k : Fin 168), s.readErr (R.LSP_CH_VMAX k) = false) ∧
    (∃ (s : State) (_rq : Rq) (q : Fin 16), s.readErr (R.LQ_LATE_CNT q) = false) ∧
    (∃ (s : State) (_rq : Rq) (k : Fin 168), s.readErr (R.LSP_CH_PREF_LO k) = false) ∧
    (∃ (s : State) (rq : Rq) (k : Fin 168) (v : Word), s.readErr (R.LSP_CH_PREF_HI k) = false ∧ tabGet (fun _ => none)
      s.wide rq.idx = some (R.LSP_CH_PREF_LO k, v)) ∧
    (∃ (s : State) (rq : Rq) (k : Fin 168) (i : Nat), s.readErr (R.LSP_CH_PREF_HI k) = false ∧ tabGet (fun _ => none)
      s.wide rq.idx = none ∧ tornBit rq = some i) ∧
    (∃ (_s : State) (_rq : Rq) (addr : Nat), wideLo addr = true) ∧
    (∃ (_s : State) (_rq : Rq) (addr : Nat), wideLo addr = false) ∧
    (∃ (s : State) (_n : Fin 4) (addr : Nat), wideLo addr = true ∧ addr % 4 = 0 ∧ s.readErr addr = true) ∧
    (∃ (_s : State) (_rq : Rq) (addr : Nat), wideHi addr = true) ∧
    (∃ (_s : State) (_rq : Rq) (addr : Nat), wideHi addr = false) ∧
    (∃ (s : State) (_n : Fin 4) (addr : Nat), wideHi addr = true ∧ addr % 4 = 0 ∧ s.readErr addr = true) ∧
    (∃ (s : State) (rq : Rq) (k : Fin 168) (i : Nat) (b : Nat) (v : Word), s.readErr (R.LSP_CH_PREF_HI k) = false ∧ tabGet
      (fun _ => none) s.wide rq.idx = some (b, v) ∧ b ≠ R.LSP_CH_PREF_LO k ∧ tornBit rq = some i) ∧
    (∃ (s : State) (n : Fin 4) (k : Fin 8) (c : Fin 168) (d : Desc) (_data : List Word), (s.sqStart n k (testBit
      d.flags.toNat 1)).isSome = true ∧ s.descErr n k 0x40 d true true true = none ∧ d.field 30 1 = 0 ∧ d.field 16 8 % 4
      = 0 ∧ d.zeroFrom 31 = true ∧ d.field 28 2 = 1 ∧ d.target = 0 ∧ d.field 24 4 = R.LSP_CH_VMAX c ∧ s.readErr
      (R.LSP_CH_VMAX c) = false) ∧
    (∃ (s : State) (n : Fin 4) (k : Fin 8) (c : Fin 168) (d : Desc) (v : Word) (data : List Word), (s.sqStart n k (testBit
      d.flags.toNat 1)).isSome = true ∧ s.descErr n k 0x40 d true true false = none ∧ d.field 30 1 = 1 ∧ data = [v] ∧
      s.reaches (.od n) (R.LSP_CH_VMAX c) ∧ inRange (R.LSP_CH_VMAX c) v = true ∧ d.field 16 8 % 4 = 0 ∧ d.zeroFrom 31 =
      true ∧ d.field 28 2 = 1 ∧ d.target = 0 ∧ d.field 24 4 = R.LSP_CH_VMAX c ∧ s.readErr (R.LSP_CH_VMAX c) = false) ∧
    (∃ (s : State) (n : Fin 4) (k : Fin 8) (d : Desc) (_data : List Word), (s.sqStart n k (testBit d.flags.toNat 1)).isSome
      = true ∧ (s.sqOf n k).closing = false ∧ d.field 30 1 = 0) ∧
    (∃ (s : State) (n : Fin 4) (k : Fin 8) (d : Desc) (data : List Word), (s.sqStart n k (testBit d.flags.toNat 1)).isSome
      = true ∧ (s.sqOf n k).closing = false ∧ d.field 30 1 ≠ 0 ∧ data.length < d.field 28 2) ∧
    (∃ (s : State) (n : Fin 4) (k : Fin 8) (d : Desc) (_data : List Word), (s.sqStart n k (testBit d.flags.toNat 1)).isSome
      = false) ∧
    (∃ (s : State) (_write : Bool) (_offset : Word) (_data : Word), s.permits 0 = false) ∧
    (∃ (s : State) (c : Fin 168) (_data : Word), s.permits 0 = true ∧ s.readErr (R.LSP_CH_VMAX c) = false) ∧
    (∃ (s : State) (c : Fin 168) (data : Word), s.permits 0 = true ∧ s.reaches .dbg (R.LSP_CH_VMAX c) ∧ inRange
      (R.LSP_CH_VMAX c) data = true) ∧
    (∃ (s : State) (offset : Word) (_data : Word), s.permits 0 = true ∧ 0x2000000 ≤ offset.toNat) ∧
    (∃ (s : State) (offset : Word) (_data : Word), s.permits 0 = true ∧ offset.toNat < 0x2000000 ∧ s.readErr (offset.toNat /
      4 * 4) = true) ∧
    (∃ (s : State) (_offset : Word) (_data : Word), s.permits 0 = true) ∧
    (∃ (s : State) (offset : Word) (_data : Word), s.permits 0 = true ∧ 0x2000000 ≤ offset.toNat) ∧
    (∃ (s : State) (offset : Word) (data : Word) (r : Nat), s.permits 0 = true ∧ offset.toNat < 0x2000000 ∧ s.dropReason
      .dbg (offset.toNat / 4 * 4) = some r ∧ s.mayAny .dbg (offset.toNat / 4 * 4) data = true) :=
  ⟨⟨(State.reset.p F.GLB_REGION_STATE_ISOLATED 1), (0), (R.LSP_CH_VMAX 3), by decide +kernel⟩,
    ⟨(State.reset.p F.GLB_REGION_STATE_ISOLATED 1), (.ms 1), (R.LSP_CH_VMAX 3), by decide +kernel⟩,
    ⟨(State.reset), (.od 0), (R.HIF_OD_CTL 2), by decide +kernel⟩,
    ⟨(State.reset), (.od 0), (0x2000004), by decide +kernel⟩,
    ⟨(State.reset), (.od 0), (1), by decide +kernel⟩,
    ⟨(State.reset), (.od 0), (R.LSP_CH_VMAX 3), by decide +kernel⟩,
    ⟨(State.reset), (.od 0), (0), by decide +kernel⟩,
    ⟨(State.reset.wr (R.LQ_LATE_CNT (0 : Fin 16)) 0x50007), (.od 0), (0), by decide +kernel⟩,
    ⟨(State.reset), (.od 0), (0), by decide +kernel⟩,
    ⟨({ State.reset with wide := tabSet (fun _ => none) State.reset.wide (.od 0 : Rq).idx (some (R.LSP_CH_PREF_LO (0 : Fin 168), (5 : Word))) }),
    (.od 0), (0), (5), by decide +kernel⟩,
    ⟨({ State.reset with wide := [] }), (.od 0), (0), (0), by decide +kernel⟩,
    ⟨(State.reset), (.od 0), (R.LSP_CH_PREF_LO 2), by decide +kernel⟩,
    ⟨(State.reset), (.od 0), (R.LSP_CH_VMAX 2), by decide +kernel⟩,
    ⟨(State.reset.p F.GLB_REGION_STATE_ISOLATED 1), (0), (R.LSP_CH_PREF_LO 2), by decide +kernel⟩,
    ⟨(State.reset), (.od 0), (R.LSP_CH_PREF_HI 2), by decide +kernel⟩,
    ⟨(State.reset), (.od 0), (R.LSP_CH_VMAX 2), by decide +kernel⟩,
    ⟨(State.reset.p F.GLB_REGION_STATE_ISOLATED 1), (0), (R.LSP_CH_PREF_HI 2), by decide +kernel⟩,
    ⟨({ State.reset with wide := tabSet (fun _ => none) State.reset.wide (.od 0 : Rq).idx (some ((0x100810 : Nat), (5 : Word))) }),
    (.od 0), (0), (0), (0x100810), (5), by decide +kernel⟩,
    ⟨(((((State.reset.wr (R.HIF_OD_SQ_CFG (0 : Fin 4) (0 : Fin 8)) 0x24).p (F.HIF_OD_SQ_CFG_CLASS (0 : Fin 4) (0 : Fin 8))
    1).on (F.HIF_OD_SQ_STATUS_RUNNING (0 : Fin 4) (0 : Fin 8))).p (F.HIF_OD_SQ_STATUS_HEAD (0 : Fin 4) (0 : Fin 8)) 1)),
    (0), (0), (0), (⟨1, 4, 7, 0, 0, [0, 0, 0, 0, 0, 0, 0, 0, BitVec.ofNat 8 (R.LSP_CH_VMAX (0 : Fin 168)), BitVec.ofNat
    8 (R.LSP_CH_VMAX (0 : Fin 168) / 256), BitVec.ofNat 8 (R.LSP_CH_VMAX (0 : Fin 168) / 65536), 0, 1, 0, 0] ++
    List.replicate 33 0⟩), ([]), by decide +kernel⟩,
    ⟨(((((State.reset.wr (R.HIF_OD_SQ_CFG (0 : Fin 4) (0 : Fin 8)) 0x24).p (F.HIF_OD_SQ_CFG_CLASS (0 : Fin 4) (0 : Fin 8))
    1).on (F.HIF_OD_SQ_STATUS_RUNNING (0 : Fin 4) (0 : Fin 8))).p (F.HIF_OD_SQ_STATUS_HEAD (0 : Fin 4) (0 : Fin 8)) 1)),
    (0), (0), (0), (⟨1, 4, 7, 0, 0, [0, 0, 0, 0, 0, 0, 0, 0, BitVec.ofNat 8 (R.LSP_CH_VMAX (0 : Fin 168)), BitVec.ofNat
    8 (R.LSP_CH_VMAX (0 : Fin 168) / 256), BitVec.ofNat 8 (R.LSP_CH_VMAX (0 : Fin 168) / 65536), 0, 1, 0, 1] ++
    List.replicate 33 0⟩), (0x1234), ([(0x1234 : Word)]), by decide +kernel⟩,
    ⟨(((((State.reset.wr (R.HIF_OD_SQ_CFG (0 : Fin 4) (0 : Fin 8)) 0x24).p (F.HIF_OD_SQ_CFG_CLASS (0 : Fin 4) (0 : Fin 8))
    1).on (F.HIF_OD_SQ_STATUS_RUNNING (0 : Fin 4) (0 : Fin 8))).p (F.HIF_OD_SQ_STATUS_HEAD (0 : Fin 4) (0 : Fin 8)) 1)),
    (0), (0), (⟨1, 4, 7, 0, 0, [0, 0, 0, 0, 0, 0, 0, 0, BitVec.ofNat 8 (0x800000), BitVec.ofNat 8 (0x800000 / 256),
    BitVec.ofNat 8 (0x800000 / 65536), 0, 3, 0, 0] ++ List.replicate 33 0⟩), ([]), by decide +kernel⟩,
    ⟨(((((State.reset.wr (R.HIF_OD_SQ_CFG (0 : Fin 4) (0 : Fin 8)) 0x24).p (F.HIF_OD_SQ_CFG_CLASS (0 : Fin 4) (0 : Fin 8))
    1).on (F.HIF_OD_SQ_STATUS_RUNNING (0 : Fin 4) (0 : Fin 8))).p (F.HIF_OD_SQ_STATUS_HEAD (0 : Fin 4) (0 : Fin 8)) 1)),
    (0), (0), (⟨1, 4, 7, 0, 0, [0, 0, 0, 0, 0, 0, 0, 0, BitVec.ofNat 8 (0x800000), BitVec.ofNat 8 (0x800000 / 256),
    BitVec.ofNat 8 (0x800000 / 65536), 0, 1, 0, 1] ++ List.replicate 33 0⟩), ([]), by decide +kernel⟩,
    ⟨(State.reset.wr (R.HIF_OD_SQ_CFG (0 : Fin 4) (0 : Fin 8)) 0), (0), (0), (⟨1, 4, 7, 0, 0, [0, 0, 0, 0, 0, 0, 0, 0,
    BitVec.ofNat 8 (0x800000), BitVec.ofNat 8 (0x800000 / 256), BitVec.ofNat 8 (0x800000 / 65536), 0, 1, 0, 1] ++
    List.replicate 33 0⟩), ([]), by decide +kernel⟩,
    ⟨({ State.reset with mg := { State.reset.mg with session := none } }), (true), (5), (5), by decide +kernel⟩,
    ⟨({ State.reset with mg := { State.reset.mg with session := some ⟨1, 9⟩ } }), (0), (5), by decide +kernel⟩,
    ⟨({ State.reset with mg := { State.reset.mg with session := some ⟨1, 9⟩ } }), (0), (0x1234), by decide +kernel⟩,
    ⟨({ State.reset with mg := { State.reset.mg with session := some ⟨1, 9⟩ } }), (0x2000000), (5), by decide +kernel⟩,
    ⟨({ State.reset.p F.GLB_REGION_STATE_ISOLATED 1 with mg := { State.reset.mg with session := some ⟨1, 9⟩ } }),
    (BitVec.ofNat 32 (R.LSP_CH_VMAX 3)), (5), by decide +kernel⟩,
    ⟨({ State.reset with mg := { State.reset.mg with session := some ⟨1, 9⟩ } }), (BitVec.ofNat 32 (R.LSP_CH_VMAX 3)), (5),
    by decide +kernel⟩,
    ⟨({ State.reset with mg := { State.reset.mg with session := some ⟨1, 9⟩ } }), (0x2000000), (5), by decide +kernel⟩,
    ⟨({ State.reset.p F.GLB_REGION_STATE_ISOLATED 1 with mg := { State.reset.mg with session := some ⟨1, 9⟩ }, clk := { State.reset.clk with power := .run } }),
    (BitVec.ofNat 32 (R.LSP_CH_VMAX 3)), (5), (1), by decide +kernel⟩⟩

theorem witness_SafetyCommandsNeedTheSafetyRole :
    (∃ (s : State) (rq : Rq) (addr : Nat) (_v : Word), [R.SAF_UNLOCK, R.SAF_BT_CMD, R.SAF_PSET_HANDLE,
      R.SAF_PSET_CMD].contains addr = true ∧ (∀ n : Fin 4, rq = .od n → s.role n ≠ .safety)) ∧
    (∃ (_s : State) (_n : Fin 4) (addr : Nat) (_v : Word), 0x1100000 ≤ addr ∧ addr < 0x1200000 ∧ addr % 4 = 0 ∧ [R.SAF_UNLOCK,
      R.SAF_BT_CMD, R.SAF_PSET_HANDLE, R.SAF_PSET_CMD].contains addr = false) ∧
    (∃ (s : State) (n : Fin 4) (_v : Word), s.dropReason (.od n) R.SAF_PSET_HANDLE = none ∧ s.role n = .safety) :=
  ⟨⟨(State.reset), (.od 0), (R.SAF_BT_CMD), (0x10), by decide +kernel⟩,
    ⟨(State.reset), (2), (R.SAF_LOCK), (0xFFFFFFFF), by decide +kernel⟩,
    ⟨(State.reset), (2), (5), by decide +kernel⟩⟩

theorem witness_GrandmasterSwitchIsRefused :
    (∃ (s : State) (rq : Rq), s.reaches rq R.TB_CMD ∧ (s.is F.TB_STATUS_SWITCHING = true ∨ s.is F.TB_STATUS_HOLDOFF = true
      ∨ s.tb.pendingGm = none)) ∧
    (∃ (s : State) (rq : Rq), s.reaches rq R.TB_CMD ∧ (s.is F.TB_STATUS_SWITCHING = true ∨ s.is F.TB_STATUS_HOLDOFF = true
      ∨ s.tb.pendingGm = none)) :=
  ⟨⟨(State.reset), (.od 0), by decide +kernel⟩,
    ⟨(State.reset), (.od 0), by decide +kernel⟩⟩

end Tests
end

section
/-! Every command keeps its frame: what the lemmas of Laws/Keep*.lean say of each meaning, read against the command's row of
`mayChange` and `mayWrite`. -/

namespace Sys2Proof.Machine

theorem sub_refl (a : Nat) : sub a a = true := by simp [sub]

/-- The mask of the slots that a row lists; a row that starts with the whole window covers every slot. -/
def rowMask : List Slot → Nat
  | .any :: _ => allSlots
  | l => slotMask l

/-- The mask of the parts that a row lists, with the bit that says nothing of the global safe state. -/
abbrev rowParts (l : List Part) : Nat := partMask l ||| 2 ^ 41

/-- The mask with the bit of every part, and that of the global safe state. -/
abbrev anyParts : Nat := 2 ^ 42 - 1

/-- The bits of the window that a row does not list are the same. -/
theorem sameBits_of_row {E : Nat} {s t : State} {l : List Slot} (h : Ok E (rowMask l) s t) : sameBitsBut l s t := by
  unfold rowMask at h
  split at h
  · exact fun _ _ n => absurd trivial (n .any List.mem_cons_self)
  · exact sameBits_of_ok h (sub_refl _)

/-- Every command keeps the queue, the canonical forms, the parts and the bits that its row does not list: for each, the lemma
of its meaning, whose masks its row holds. -/
theorem exec_ok (c : Instr) (s : State) : OkOut (rowParts (mayChange c)) (rowMask (mayWrite c)) s (exec c s) := by
  cases c <;> dsimp only [mayChange, mayWrite, exec]
  case registerWrite => exact execRegisterWrite_ok rfl rfl (Ok.refl _ _ s)
  case cellFault => exact execCellFault_ok rfl rfl (Ok.refl _ _ s)
  case cellSafeStateTimeout => exact execCellSafeStateTimeout_ok (by decide +kernel) (by decide +kernel) (Ok.refl _ _ s)
  case clusterFault => exact execClusterFault_ok rfl rfl (Ok.refl _ _ s)
  case clusterFenceTimeout => exact execClusterFenceTimeout_ok rfl rfl (Ok.refl _ _ s)
  case regionFault => exact execRegionFault_ok rfl rfl (Ok.refl _ _ s)
  case isolationConfirmTimeout => exact execIsolationConfirmTimeout_ok rfl rfl (Ok.refl _ _ s)
  case topFabricTimeout => exact execTopFabricTimeout_ok rfl rfl (Ok.refl _ _ s)
  case chipLevelFault => exact execChipLevelFault_ok rfl rfl (Ok.refl _ _ s)
  case tbCtrlWrite => exact execTbCtrlWrite_ok rfl rfl (Ok.refl _ _ s)
  case servoEn => exact execServoEn_ok rfl rfl (Ok.refl _ _ s)
  case tickSrcChange => exact execTickSrcChange_ok rfl rfl (Ok.refl _ _ s)
  case tbTimeShadowFill => exact execTbTimeShadowFill_ok rfl rfl (Ok.refl _ _ s)
  case tbShadowRead => exact execTbShadowRead_ok rfl rfl (Ok.refl _ _ s)
  case announceReceived => exact execAnnounceReceived_ok rfl rfl (Ok.refl _ _ s)
  case announceTimeout => exact execAnnounceTimeout_ok rfl rfl (Ok.refl _ _ s)
  case syncReceived => exact execSyncReceived_ok rfl rfl (Ok.refl _ _ s)
  case gmSwitchTimeout => exact execGmSwitchTimeout_ok rfl rfl (Ok.refl _ _ s)
  case gmHoldoffEnd => exact execGmHoldoffEnd_ok rfl rfl (Ok.refl _ _ s)
  case holdoverEntry => exact execHoldoverEntry_ok rfl rfl (Ok.refl _ _ s)
  case timeStep => exact execTimeStep_ok rfl rfl (Ok.refl _ _ s)
  case tbSet => exact execTbSet_ok rfl rfl (Ok.refl _ _ s)
  case tbStep => exact execTbStep_ok rfl rfl (Ok.refl _ _ s)
  case gmSwitch => exact execGmSwitch_ok rfl rfl (Ok.refl _ _ s)
  case tbAdjWrite => exact execTbAdjWrite_ok rfl rfl (Ok.refl _ _ s)
  case lqPush => exact execLqPush_ok rfl rfl (Ok.refl _ _ s)
  case lqFlush => exact execLqFlush_ok rfl rfl (Ok.refl _ _ s)
  case lqCancel => exact execLqCancel_ok rfl rfl (Ok.refl _ _ s)
  case launchDelivery => exact execLaunchDelivery_ok rfl rfl (Ok.refl _ _ s)
  case queueParityError => exact execQueueParityError_ok rfl rfl (Ok.refl _ _ s)
  case axisOff => exact execAxisOff_ok rfl rfl (Ok.refl _ _ s)
  case auxOff => exact execAuxOff_ok rfl rfl (Ok.refl _ _ s)
  case fieldOff => exact execFieldOff_ok rfl rfl (Ok.refl _ _ s)
  case axisSample => exact execAxisSample_ok rfl rfl (Ok.refl _ _ s)
  case dclinkSample => exact execDclinkSample_ok rfl rfl (Ok.refl _ _ s)
  case auxSample => exact execAuxSample_ok rfl rfl (Ok.refl _ _ s)
  case captureSample => exact execCaptureSample_ok rfl rfl (Ok.refl _ _ s)
  case pwmPeriod => exact execPwmPeriod_ok rfl rfl (Ok.refl _ _ s)
  case commutate => exact execCommutate_ok rfl rfl (Ok.refl _ _ s)
  case fieldWrite => exact execFieldWrite_ok rfl rfl (Ok.refl _ _ s)
  case ethLaunch => exact execEthLaunch_ok rfl (by decide +kernel) (Ok.refl _ _ s)
  case canLaunch => exact execCanLaunch_ok rfl rfl (Ok.refl _ _ s)
  case swEvent => exact execSwEvent_ok rfl rfl (Ok.refl _ _ s)
  case captureTrigger => exact execCaptureTrigger_ok rfl rfl (Ok.refl _ _ s)
  case pwmArm => exact execPwmArm_ok rfl rfl (Ok.refl _ _ s)
  case pwmDisarm => exact execPwmDisarm_ok rfl rfl (Ok.refl _ _ s)
  case pwmStart => exact execPwmStart_ok rfl rfl (Ok.refl _ _ s)
  case outEn => exact execOutEn_ok rfl rfl (Ok.refl _ _ s)
  case pwmFaultClr => exact execPwmFaultClr_ok rfl rfl (Ok.refl _ _ s)
  case pwmUpdatePoint => exact execPwmUpdatePoint_ok rfl rfl (Ok.refl _ _ s)
  case pwmCompareCrossing => exact execPwmCompareCrossing_ok rfl rfl (Ok.refl _ _ s)
  case pwmDeadTimeEnd => exact execPwmDeadTimeEnd_ok rfl rfl (Ok.refl _ _ s)
  case switchingNodeTransition => exact execSwitchingNodeTransition_ok rfl rfl (Ok.refl _ _ s)
  case deadTimeFallback => exact execDeadTimeFallback_ok rfl rfl (Ok.refl _ _ s)
  case alignEvent => exact execAlignEvent_ok rfl rfl (Ok.refl _ _ s)
  case pwmMaskWrite => exact execPwmMaskWrite_ok rfl rfl (Ok.refl _ _ s)
  case pwmMaskCfgWrite => exact execPwmMaskCfgWrite_ok rfl rfl (Ok.refl _ _ s)
  case pwmAlignWrite => exact execPwmAlignWrite_ok rfl rfl (Ok.refl _ _ s)
  case pwmCfgWrite => exact execPwmCfgWrite_ok rfl rfl (Ok.refl _ _ s)
  case pwmDtCfgWrite => exact execPwmDtCfgWrite_ok rfl rfl (Ok.refl _ _ s)
  case pwmEvtCfgWrite => exact execPwmEvtCfgWrite_ok rfl rfl (Ok.refl _ _ s)
  case bchWindowStart => exact execBchWindowStart_ok rfl rfl (Ok.refl _ _ s)
  case bchDutyLimit => exact execBchDutyLimit_ok rfl rfl (Ok.refl _ _ s)
  case bchMinTimeEnd => exact execBchMinTimeEnd_ok rfl rfl (Ok.refl _ _ s)
  case sinc3Result => exact execSinc3Result_ok rfl rfl (Ok.refl _ _ s)
  case fastResult => exact execFastResult_ok rfl rfl (Ok.refl _ _ s)
  case currentInputStuck => exact execCurrentInputStuck_ok rfl rfl (Ok.refl _ _ s)
  case dclinkFreeResult => exact execDclinkFreeResult_ok rfl rfl (Ok.refl _ _ s)
  case dclinkSampleResult => exact execDclinkSampleResult_ok rfl rfl (Ok.refl _ _ s)
  case dclinkStuck => exact execDclinkStuck_ok rfl rfl (Ok.refl _ _ s)
  case dlCfgWrite => exact execDlCfgWrite_ok rfl rfl (Ok.refl _ _ s)
  case sdclkFreqApply => exact execSdclkFreqApply_ok rfl rfl (Ok.refl _ _ s)
  case csCfgWrite => exact execCsCfgWrite_ok rfl rfl (Ok.refl _ _ s)
  case csStampRead => exact execCsStampRead_ok rfl rfl (Ok.refl _ _ s)
  case tlmStampRead => exact execTlmStampRead_ok rfl rfl (Ok.refl _ _ s)
  case tlmFrame => exact execTlmFrame_ok rfl rfl (Ok.refl _ _ s)
  case tlmCfgWrite => exact execTlmCfgWrite_ok rfl rfl (Ok.refl _ _ s)
  case fbCfgWrite => exact execFbCfgWrite_ok rfl rfl (Ok.refl _ _ s)
  case fbSampleReady => exact execFbSampleReady_ok rfl rfl (Ok.refl _ _ s)
  case encoderEdge => exact execEncoderEdge_ok rfl rfl (Ok.refl _ _ s)
  case encoderLineLoss => exact execEncoderLineLoss_ok rfl rfl (Ok.refl _ _ s)
  case indexEdge => exact execIndexEdge_ok rfl rfl (Ok.refl _ _ s)
  case sincosConversion => exact execSincosConversion_ok rfl rfl (Ok.refl _ _ s)
  case rideExpiry => exact execRideExpiry_ok rfl rfl (Ok.refl _ _ s)
  case ssiTransferDone => exact execSsiTransferDone_ok rfl rfl (Ok.refl _ _ s)
  case ssiIdleEnd => exact execSsiIdleEnd_ok rfl rfl (Ok.refl _ _ s)
  case hallTransition => exact execHallTransition_ok rfl rfl (Ok.refl _ _ s)
  case fbLoad => exact execFbLoad_ok rfl rfl (Ok.refl _ _ s)
  case fbFaultClr => exact execFbFaultClr_ok rfl rfl (Ok.refl _ _ s)
  case zArm => exact execZArm_ok rfl rfl (Ok.refl _ _ s)
  case softLimitWrite => exact execSoftLimitWrite_ok rfl rfl (Ok.refl _ _ s)
  case fbStampRead => exact execFbStampRead_ok rfl rfl (Ok.refl _ _ s)
  case probeEdge => exact execProbeEdge_ok rfl rfl (Ok.refl _ _ s)
  case probePop => exact execProbePop_ok rfl rfl (Ok.refl _ _ s)
  case probeCfgWrite => exact execProbeCfgWrite_ok rfl rfl (Ok.refl _ _ s)
  case basePeriodStart => exact execBasePeriodStart_ok rfl rfl (Ok.refl _ _ s)
  case slotStart => exact execSlotStart_ok rfl rfl (Ok.refl _ _ s)
  case slotOverrun => exact execSlotOverrun_ok rfl rfl (Ok.refl _ _ s)
  case slotWindowEnd => exact execSlotWindowEnd_ok rfl rfl (Ok.refl _ _ s)
  case bgYield => exact execBgYield_ok rfl rfl (Ok.refl _ _ s)
  case aeCommit => exact execAeCommit_ok rfl rfl (Ok.refl _ _ s)
  case aeDiscardPending => exact execAeDiscardPending_ok rfl rfl (Ok.refl _ _ s)
  case aeRun => exact execAeRun_ok rfl rfl (Ok.refl _ _ s)
  case aeBgEn => exact execAeBgEn_ok rfl rfl (Ok.refl _ _ s)
  case aeFaultClr => exact execAeFaultClr_ok rfl rfl (Ok.refl _ _ s)
  case programMemoryWrite => exact execProgramMemoryWrite_ok rfl rfl (Ok.refl _ _ s)
  case axisStateWrite => exact execAxisStateWrite_ok rfl rfl (Ok.refl _ _ s)
  case engineEccError => exact execEngineEccError_ok rfl rfl (Ok.refl _ _ s)
  case xNop => exact execXNop_ok rfl rfl (Ok.refl _ _ s)
  case add => exact execAdd_ok rfl rfl (Ok.refl _ _ s)
  case sub => exact execSub_ok rfl rfl (Ok.refl _ _ s)
  case adds => exact execAdds_ok rfl rfl (Ok.refl _ _ s)
  case subs => exact execSubs_ok rfl rfl (Ok.refl _ _ s)
  case and => exact execAnd_ok rfl rfl (Ok.refl _ _ s)
  case or => exact execOr_ok rfl rfl (Ok.refl _ _ s)
  case xor => exact execXor_ok rfl rfl (Ok.refl _ _ s)
  case shl => exact execShl_ok rfl rfl (Ok.refl _ _ s)
  case shr => exact execShr_ok rfl rfl (Ok.refl _ _ s)
  case shra => exact execShra_ok rfl rfl (Ok.refl _ _ s)
  case min => exact execMin_ok rfl rfl (Ok.refl _ _ s)
  case max => exact execMax_ok rfl rfl (Ok.refl _ _ s)
  case abs => exact execAbs_ok rfl rfl (Ok.refl _ _ s)
  case neg => exact execNeg_ok rfl rfl (Ok.refl _ _ s)
  case movi => exact execMovi_ok rfl rfl (Ok.refl _ _ s)
  case movhi => exact execMovhi_ok rfl rfl (Ok.refl _ _ s)
  case cmp => exact execCmp_ok rfl rfl (Ok.refl _ _ s)
  case mul => exact execMul_ok rfl rfl (Ok.refl _ _ s)
  case mac => exact execMac_ok rfl rfl (Ok.refl _ _ s)
  case msu => exact execMsu_ok rfl rfl (Ok.refl _ _ s)
  case mullo => exact execMullo_ok rfl rfl (Ok.refl _ _ s)
  case ald => exact execAld_ok rfl rfl (Ok.refl _ _ s)
  case aadd => exact execAadd_ok rfl rfl (Ok.refl _ _ s)
  case asub => exact execAsub_ok rfl rfl (Ok.refl _ _ s)
  case amov => exact execAmov_ok rfl rfl (Ok.refl _ _ s)
  case ext => exact execExt_ok rfl rfl (Ok.refl _ _ s)
  case extl => exact execExtl_ok rfl rfl (Ok.refl _ _ s)
  case divs => exact execDivs_ok rfl rfl (Ok.refl _ _ s)
  case tsin => exact execTsin_ok rfl rfl (Ok.refl _ _ s)
  case tcos => exact execTcos_ok rfl rfl (Ok.refl _ _ s)
  case rsq => exact execRsq_ok rfl rfl (Ok.refl _ _ s)
  case yNop => exact execYNop_ok rfl rfl (Ok.refl _ _ s)
  case ld => exact execLd_ok rfl rfl (Ok.refl _ _ s)
  case st => exact execSt_ok rfl rfl (Ok.refl _ _ s)
  case ldd => exact execLdd_ok rfl rfl (Ok.refl _ _ s)
  case std => exact execStd_ok rfl rfl (Ok.refl _ _ s)
  case lds => exact execLds_ok rfl rfl (Ok.refl _ _ s)
  case sts => exact execSts_ok rfl rfl (Ok.refl _ _ s)
  case mfs => exact execMfs_ok rfl rfl (Ok.refl _ _ s)
  case mts => exact execMts_ok rfl rfl (Ok.refl _ _ s)
  case jmp => exact execJmp_ok rfl rfl (Ok.refl _ _ s)
  case brcc => exact execBrcc_ok rfl rfl (Ok.refl _ _ s)
  case loop => exact execLoop_ok rfl rfl (Ok.refl _ _ s)
  case loopr => exact execLoopr_ok rfl rfl (Ok.refl _ _ s)
  case end_ => exact execEnd_ok rfl rfl (Ok.refl _ _ s)
  case wait => exact execWait_ok rfl rfl (Ok.refl _ _ s)
  case retb => exact execRetb_ok rfl rfl (Ok.refl _ _ s)
  case illegalBundle => exact execIllegalBundle_ok rfl rfl (Ok.refl _ _ s)
  case tsStart => exact execTsStart_ok rfl rfl (Ok.refl _ _ s)
  case tsAbort => exact execTsAbort_ok rfl rfl (Ok.refl _ _ s)
  case obsReset => exact execObsReset_ok rfl rfl (Ok.refl _ _ s)
  case supFaultClr => exact execSupFaultClr_ok rfl rfl (Ok.refl _ _ s)
  case supScan => exact execSupScan_ok rfl rfl (Ok.refl _ _ s)
  case atCurrentPlant => exact execAtCurrentPlant_ok rfl rfl (Ok.refl _ _ s)
  case atMechanics => exact execAtMechanics_ok rfl rfl (Ok.refl _ _ s)
  case atResonance => exact execAtResonance_ok rfl rfl (Ok.refl _ _ s)
  case atApply => exact execAtApply_ok rfl rfl (Ok.refl _ _ s)
  case atUndo => exact execAtUndo_ok rfl rfl (Ok.refl _ _ s)
  case atAbort => exact execAtAbort_ok rfl rfl (Ok.refl _ _ s)
  case atStageDone => exact execAtStageDone_ok rfl rfl (Ok.refl _ _ s)
  case lspCfgWrite => exact execLspCfgWrite_ok rfl rfl (Ok.refl _ _ s)
  case moveAbsolute => exact execMoveAbsolute_ok rfl rfl (Ok.refl _ _ s)
  case moveRelative => exact execMoveRelative_ok rfl rfl (Ok.refl _ _ s)
  case velocityMove => exact execVelocityMove_ok rfl rfl (Ok.refl _ _ s)
  case stop => exact execStop_ok rfl rfl (Ok.refl _ _ s)
  case quickStop => exact execQuickStop_ok rfl rfl (Ok.refl _ _ s)
  case home => exact execHome_ok rfl rfl (Ok.refl _ _ s)
  case applyLimits => exact execApplyLimits_ok rfl rfl (Ok.refl _ _ s)
  case flushQueue => exact execFlushQueue_ok rfl rfl (Ok.refl _ _ s)
  case clearFault => exact execClearFault_ok rfl rfl (Ok.refl _ _ s)
  case holdEntry => exact execHoldEntry_ok rfl rfl (Ok.refl _ _ s)
  case stopTimeout => exact execStopTimeout_ok rfl rfl (Ok.refl _ _ s)
  case homeLoad => exact execHomeLoad_ok rfl rfl (Ok.refl _ _ s)
  case homeTimeout => exact execHomeTimeout_ok rfl rfl (Ok.refl _ _ s)
  case groupAbsolute => exact execGroupAbsolute_ok rfl rfl (Ok.refl _ _ s)
  case groupRelative => exact execGroupRelative_ok rfl rfl (Ok.refl _ _ s)
  case groupStop => exact execGroupStop_ok rfl rfl (Ok.refl _ _ s)
  case groupQuickStop => exact execGroupQuickStop_ok rfl rfl (Ok.refl _ _ s)
  case sequencerCoreFault => exact execSequencerCoreFault_ok rfl rfl (Ok.refl _ _ s)
  case planEccError => exact execPlanEccError_ok rfl rfl (Ok.refl _ _ s)
  case enReq => exact execEnReq_ok rfl rfl (Ok.refl _ _ s)
  case staggerEnable => exact execStaggerEnable_ok rfl rfl (Ok.refl _ _ s)
  case lshCfgWrite => exact execLshCfgWrite_ok rfl rfl (Ok.refl _ _ s)
  case segmentReceived => exact execSegmentReceived_ok rfl rfl (Ok.refl _ _ s)
  case lineShaftCycleStart => exact execLineShaftCycleStart_ok rfl rfl (Ok.refl _ _ s)
  case regWindowTimeout => exact execRegWindowTimeout_ok rfl rfl (Ok.refl _ _ s)
  case engage => exact execEngage_ok rfl rfl (Ok.refl _ _ s)
  case applyRatio => exact execApplyRatio_ok rfl rfl (Ok.refl _ _ s)
  case disengage => exact execDisengage_ok rfl rfl (Ok.refl _ _ s)
  case nextTable => exact execNextTable_ok rfl rfl (Ok.refl _ _ s)
  case camCommit => exact execCamCommit_ok rfl rfl (Ok.refl _ _ s)
  case camComputeDone => exact execCamComputeDone_ok rfl rfl (Ok.refl _ _ s)
  case camRelease => exact execCamRelease_ok rfl rfl (Ok.refl _ _ s)
  case lshStorageError => exact execLshStorageError_ok rfl rfl (Ok.refl _ _ s)
  case joinReceived => exact execJoinReceived_ok rfl rfl (Ok.refl _ _ s)
  case statusReceived => exact execStatusReceived_ok rfl rfl (Ok.refl _ _ s)
  case statusSend => exact execStatusSend_ok rfl rfl (Ok.refl _ _ s)
  case memberTimeout => exact execMemberTimeout_ok rfl rfl (Ok.refl _ _ s)
  case membershipComplete => exact execMembershipComplete_ok rfl rfl (Ok.refl _ _ s)
  case auxCfgWrite => exact execAuxCfgWrite_ok rfl rfl (Ok.refl _ _ s)
  case auxOutEn => exact execAuxOutEn_ok rfl rfl (Ok.refl _ _ s)
  case auxFaultClr => exact execAuxFaultClr_ok rfl rfl (Ok.refl _ _ s)
  case adcConversionDone => exact execAdcConversionDone_ok rfl rfl (Ok.refl _ _ s)
  case adcRequestDiscard => exact execAdcRequestDiscard_ok rfl rfl (Ok.refl _ _ s)
  case adcReferenceCheck => exact execAdcReferenceCheck_ok rfl rfl (Ok.refl _ _ s)
  case auxEvalInterval => exact execAuxEvalInterval_ok rfl rfl (Ok.refl _ _ s)
  case microstep => exact execMicrostep_ok rfl rfl (Ok.refl _ _ s)
  case chopperCrossing => exact execChopperCrossing_ok rfl rfl (Ok.refl _ _ s)
  case chopperBlankEnd => exact execChopperBlankEnd_ok rfl rfl (Ok.refl _ _ s)
  case decayMinEnd => exact execDecayMinEnd_ok rfl rfl (Ok.refl _ _ s)
  case standstillReduction => exact execStandstillReduction_ok rfl rfl (Ok.refl _ _ s)
  case openCoil => exact execOpenCoil_ok rfl rfl (Ok.refl _ _ s)
  case bldcAlignEnd => exact execBldcAlignEnd_ok rfl rfl (Ok.refl _ _ s)
  case bldcPwmPeriod => exact execBldcPwmPeriod_ok rfl rfl (Ok.refl _ _ s)
  case bldcCommutation => exact execBldcCommutation_ok rfl rfl (Ok.refl _ _ s)
  case missedSector => exact execMissedSector_ok rfl rfl (Ok.refl _ _ s)
  case bldcCoastEnd => exact execBldcCoastEnd_ok rfl rfl (Ok.refl _ _ s)
  case bldcRetryRefill => exact execBldcRetryRefill_ok rfl rfl (Ok.refl _ _ s)
  case configRequest => exact execConfigRequest_ok rfl rfl (Ok.refl _ _ s)
  case hifEnable => exact execHifEnable_ok rfl rfl (Ok.refl _ _ s)
  case sqCfgWrite => exact execSqCfgWrite_ok rfl rfl (Ok.refl _ _ s)
  case cqCfgWrite => exact execCqCfgWrite_ok rfl rfl (Ok.refl _ _ s)
  case doorbellPoll => exact execDoorbellPoll_ok rfl rfl (Ok.refl _ _ s)
  case nop => exact execNop_ok rfl rfl (Ok.refl _ _ s)
  case setpoint => exact execSetpoint_ok rfl rfl (Ok.refl _ _ s)
  case launchPush => exact execLaunchPush_ok rfl rfl (Ok.refl _ _ s)
  case launchCancel => exact execLaunchCancel_ok rfl rfl (Ok.refl _ _ s)
  case axisCmd => exact execAxisCmd_ok rfl rfl (Ok.refl _ _ s)
  case regBlock => exact execRegBlock_ok rfl rfl (Ok.refl _ _ s)
  case copyIn => exact execCopyIn_ok rfl rfl (Ok.refl _ _ s)
  case copyOut => exact execCopyOut_ok rfl rfl (Ok.refl _ _ s)
  case poolAlloc => exact execPoolAlloc_ok rfl rfl (Ok.refl _ _ s)
  case poolFree => exact execPoolFree_ok rfl rfl (Ok.refl _ _ s)
  case heartbeat => exact execHeartbeat_ok rfl rfl (Ok.refl _ _ s)
  case heartbeatReadback => exact execHeartbeatReadback_ok rfl rfl (Ok.refl _ _ s)
  case heartbeatTimeout => exact execHeartbeatTimeout_ok rfl rfl (Ok.refl _ _ s)
  case irqHoldEnd => exact execIrqHoldEnd_ok rfl rfl (Ok.refl _ _ s)
  case wideReadLo => exact execWideReadLo_ok rfl rfl (Ok.refl _ _ s)
  case wideReadHi => exact execWideReadHi_ok rfl rfl (Ok.refl _ _ s)
  case hifTornWrite => exact execHifTornWrite_ok rfl rfl (Ok.refl _ _ s)
  case functionLevelReset => exact execFunctionLevelReset_ok rfl rfl (Ok.refl _ _ s)
  case poolCountWrite => exact execPoolCountWrite_ok rfl rfl (Ok.refl _ _ s)
  case memSegWrite => exact execMemSegWrite_ok rfl rfl (Ok.refl _ _ s)
  case dmaStart => exact execDmaStart_ok rfl rfl (Ok.refl _ _ s)
  case dmaResume => exact execDmaResume_ok rfl rfl (Ok.refl _ _ s)
  case dmaAbort => exact execDmaAbort_ok rfl rfl (Ok.refl _ _ s)
  case dmaDone => exact execDmaDone_ok rfl rfl (Ok.refl _ _ s)
  case dmaHalt => exact execDmaHalt_ok rfl rfl (Ok.refl _ _ s)
  case copySegmentDone => exact execCopySegmentDone_ok rfl rfl (Ok.refl _ _ s)
  case patrolScrub => exact execPatrolScrub_ok rfl rfl (Ok.refl _ _ s)
  case stagingFault => exact execStagingFault_ok rfl rfl (Ok.refl _ _ s)
  case capBindWrite => exact execCapBindWrite_ok rfl rfl (Ok.refl _ _ s)
  case captureArm => exact execCaptureArm_ok rfl rfl (Ok.refl _ _ s)
  case captureStop => exact execCaptureStop_ok rfl rfl (Ok.refl _ _ s)
  case captureForce => exact execCaptureForce_ok rfl rfl (Ok.refl _ _ s)
  case captureUnload => exact execCaptureUnload_ok rfl rfl (Ok.refl _ _ s)
  case captureRowLatch => exact execCaptureRowLatch_ok rfl rfl (Ok.refl _ _ s)
  case envCommit => exact execEnvCommit_ok rfl rfl (Ok.refl _ _ s)
  case envLoadDone => exact execEnvLoadDone_ok rfl rfl (Ok.refl _ _ s)
  case unloadDone => exact execUnloadDone_ok rfl rfl (Ok.refl _ _ s)
  case captureChannelFault => exact execCaptureChannelFault_ok rfl rfl (Ok.refl _ _ s)
  case ethCfgWrite => exact execEthCfgWrite_ok rfl rfl (Ok.refl _ _ s)
  case ethLinkChange => exact execEthLinkChange_ok rfl rfl (Ok.refl _ _ s)
  case frameReceived => exact execFrameReceived_ok rfl rfl (Ok.refl _ _ s)
  case strangerHoldEnd => exact execStrangerHoldEnd_ok rfl rfl (Ok.refl _ _ s)
  case fdbAgeing => exact execFdbAgeing_ok rfl rfl (Ok.refl _ _ s)
  case frameTransmitted => exact execFrameTransmitted_ok rfl rfl (Ok.refl _ _ s)
  case gateConfigChange => exact execGateConfigChange_ok rfl rfl (Ok.refl _ _ s)
  case gateListTakeover => exact execGateListTakeover_ok rfl rfl (Ok.refl _ _ s)
  case gateEntryEnd => exact execGateEntryEnd_ok rfl rfl (Ok.refl _ _ s)
  case launchFrameStart => exact execLaunchFrameStart_ok rfl rfl (Ok.refl _ _ s)
  case preemptVerifyDone => exact execPreemptVerifyDone_ok rfl rfl (Ok.refl _ _ s)
  case saInstall => exact execSaInstall_ok rfl rfl (Ok.refl _ _ s)
  case transmitAreaWrite => exact execTransmitAreaWrite_ok rfl rfl (Ok.refl _ _ s)
  case mdioGo => exact execMdioGo_ok rfl rfl (Ok.refl _ _ s)
  case mdioDone => exact execMdioDone_ok rfl rfl (Ok.refl _ _ s)
  case ethPortFault => exact execEthPortFault_ok rfl rfl (Ok.refl _ _ s)
  case canInitExit => exact execCanInitExit_ok rfl rfl (Ok.refl _ _ s)
  case canInitEnter => exact execCanInitEnter_ok rfl rfl (Ok.refl _ _ s)
  case txbReq => exact execTxbReq_ok rfl rfl (Ok.refl _ _ s)
  case txbCancel => exact execTxbCancel_ok rfl rfl (Ok.refl _ _ s)
  case canFrameSent => exact execCanFrameSent_ok rfl rfl (Ok.refl _ _ s)
  case canTxFailure => exact execCanTxFailure_ok rfl rfl (Ok.refl _ _ s)
  case busOffRecovery => exact execBusOffRecovery_ok rfl rfl (Ok.refl _ _ s)
  case canFrameReceived => exact execCanFrameReceived_ok rfl rfl (Ok.refl _ _ s)
  case ttEnable => exact execTtEnable_ok rfl rfl (Ok.refl _ _ s)
  case ttDisable => exact execTtDisable_ok rfl rfl (Ok.refl _ _ s)
  case canBasicCycle => exact execCanBasicCycle_ok rfl rfl (Ok.refl _ _ s)
  case canWindowStart => exact execCanWindowStart_ok rfl rfl (Ok.refl _ _ s)
  case exclusiveWindowMissed => exact execExclusiveWindowMissed_ok rfl rfl (Ok.refl _ _ s)
  case rxElementLock => exact execRxElementLock_ok rfl rfl (Ok.refl _ _ s)
  case rxElementRelease => exact execRxElementRelease_ok rfl rfl (Ok.refl _ _ s)
  case lockTimeout => exact execLockTimeout_ok rfl rfl (Ok.refl _ _ s)
  case rxqAck => exact execRxqAck_ok rfl rfl (Ok.refl _ _ s)
  case newClear => exact execNewClear_ok rfl rfl (Ok.refl _ _ s)
  case canCellFault => exact execCanCellFault_ok rfl rfl (Ok.refl _ _ s)
  case fieldInputChange => exact execFieldInputChange_ok rfl rfl (Ok.refl _ _ s)
  case fioChCfgWrite => exact execFioChCfgWrite_ok rfl rfl (Ok.refl _ _ s)
  case wireBreak => exact execWireBreak_ok rfl rfl (Ok.refl _ _ s)
  case wireWhole => exact execWireWhole_ok rfl rfl (Ok.refl _ _ s)
  case fioOut => exact execFioOut_ok rfl rfl (Ok.refl _ _ s)
  case fioOutSet => exact execFioOutSet_ok rfl rfl (Ok.refl _ _ s)
  case fioOutClr => exact execFioOutClr_ok rfl rfl (Ok.refl _ _ s)
  case fioOutFclr => exact execFioOutFclr_ok rfl rfl (Ok.refl _ _ s)
  case outputOvercurrent => exact execOutputOvercurrent_ok rfl rfl (Ok.refl _ _ s)
  case readbackMismatch => exact execReadbackMismatch_ok rfl rfl (Ok.refl _ _ s)
  case fxModeWrite => exact execFxModeWrite_ok rfl rfl (Ok.refl _ _ s)
  case vfieldLow => exact execVfieldLow_ok rfl rfl (Ok.refl _ _ s)
  case vfieldRecovered => exact execVfieldRecovered_ok rfl rfl (Ok.refl _ _ s)
  case bridgeHeartbeatLost => exact execBridgeHeartbeatLost_ok rfl rfl (Ok.refl _ _ s)
  case safetyCycle => exact execSafetyCycle_ok rfl rfl (Ok.refl _ _ s)
  case discrepancyFault => exact execDiscrepancyFault_ok rfl rfl (Ok.refl _ _ s)
  case ss1Expiry => exact execSs1Expiry_ok rfl rfl (Ok.refl _ _ s)
  case sresetPulse => exact execSresetPulse_ok rfl rfl (Ok.refl _ _ s)
  case sresetStuck => exact execSresetStuck_ok rfl rfl (Ok.refl _ _ s)
  case channelClockLost => exact execChannelClockLost_ok rfl rfl (Ok.refl _ _ s)
  case darkTest => exact execDarkTest_ok rfl rfl (Ok.refl _ _ s)
  case darkTestTimeout => exact execDarkTestTimeout_ok rfl rfl (Ok.refl _ _ s)
  case btStart => exact execBtStart_ok rfl rfl (Ok.refl _ _ s)
  case btAbort => exact execBtAbort_ok rfl rfl (Ok.refl _ _ s)
  case btSettleEnd => exact execBtSettleEnd_ok rfl rfl (Ok.refl _ _ s)
  case btPass => exact execBtPass_ok rfl rfl (Ok.refl _ _ s)
  case btCurrentTimeout => exact execBtCurrentTimeout_ok rfl rfl (Ok.refl _ _ s)
  case btDue => exact execBtDue_ok rfl rfl (Ok.refl _ _ s)
  case btBlock => exact execBtBlock_ok rfl rfl (Ok.refl _ _ s)
  case safUnlock => exact execSafUnlock_ok rfl rfl (Ok.refl _ _ s)
  case unlockExpiry => exact execUnlockExpiry_ok rfl rfl (Ok.refl _ _ s)
  case psetLoad => exact execPsetLoad_ok rfl rfl (Ok.refl _ _ s)
  case psetCheckDone => exact execPsetCheckDone_ok rfl rfl (Ok.refl _ _ s)
  case psetDiscard => exact execPsetDiscard_ok rfl rfl (Ok.refl _ _ s)
  case psetLapse => exact execPsetLapse_ok rfl rfl (Ok.refl _ _ s)
  case eventDetected => exact execEventDetected_ok rfl rfl (Ok.refl _ _ s)
  case eventRingDrain => exact execEventRingDrain_ok rfl rfl (Ok.refl _ _ s)
  case evtRouteWrite => exact execEvtRouteWrite_ok rfl rfl (Ok.refl _ _ s)
  case referenceReady => exact execReferenceReady_ok rfl rfl (Ok.refl _ _ s)
  case referenceLost => exact execReferenceLost_ok rfl rfl (Ok.refl _ _ s)
  case pllReady => exact execPllReady_ok rfl rfl (Ok.refl _ _ s)
  case refSwitchTimeout => exact execRefSwitchTimeout_ok rfl rfl (Ok.refl _ _ s)
  case refHoldoffEnd => exact execRefHoldoffEnd_ok rfl rfl (Ok.refl _ _ s)
  case refSwitch => exact execRefSwitch_ok rfl rfl (Ok.refl _ _ s)
  case return_ => exact execReturn__ok rfl rfl (Ok.refl _ _ s)
  case clkDomSelWrite => exact execClkDomSelWrite_ok rfl rfl (Ok.refl _ _ s)
  case missingClockTrip => exact execMissingClockTrip_ok rfl rfl (Ok.refl _ _ s)
  case marigoldReady => exact execMarigoldReady_ok rfl rfl (Ok.refl _ _ s)
  case marigoldTimeout => exact execMarigoldTimeout_ok rfl rfl (Ok.refl _ _ s)
  case snowdropStop => exact execSnowdropStop_ok rfl rfl (Ok.refl _ _ s)
  case snowdropTrim => exact execSnowdropTrim_ok rfl rfl (Ok.refl _ _ s)
  case marigoldTrimBurst => exact execMarigoldTrimBurst_ok rfl rfl (Ok.refl _ _ s)
  case netpllLoss => exact execNetpllLoss_ok rfl rfl (Ok.refl _ _ s)
  case mempllLoss => exact execMempllLoss_ok rfl rfl (Ok.refl _ _ s)
  case mempllTimeout => exact execMempllTimeout_ok rfl rfl (Ok.refl _ _ s)
  case powerOnReset => exact execPowerOnReset_ok rfl rfl (Ok.refl _ _ s)
  case brownOutReset => exact execBrownOutReset_ok rfl rfl (Ok.refl _ _ s)
  case pinReset => exact execPinReset_ok rfl rfl (Ok.refl _ _ s)
  case watchdogReset => exact execWatchdogReset_ok rfl rfl (Ok.refl _ _ s)
  case watchdogKick => exact execWatchdogKick_ok rfl rfl (Ok.refl _ _ s)
  case softwareReset => exact execSoftwareReset_ok rfl rfl (Ok.refl _ _ s)
  case camelliaLockup => exact execCamelliaLockup_ok rfl rfl (Ok.refl _ _ s)
  case pcieFundamentalReset => exact execPcieFundamentalReset_ok rfl rfl (Ok.refl _ _ s)
  case domainRelease => exact execDomainRelease_ok rfl rfl (Ok.refl _ _ s)
  case doze => exact execDoze_ok rfl rfl (Ok.refl _ _ s)
  case dormant => exact execDormant_ok rfl rfl (Ok.refl _ _ s)
  case wake => exact execWake_ok rfl rfl (Ok.refl _ _ s)
  case runReached => exact execRunReached_ok rfl rfl (Ok.refl _ _ s)
  case sensorSample => exact execSensorSample_ok rfl rfl (Ok.refl _ _ s)
  case flashFault => exact execFlashFault_ok rfl rfl (Ok.refl _ _ s)
  case flashRecovered => exact execFlashRecovered_ok rfl rfl (Ok.refl _ _ s)
  case ledgerAcquire => exact execLedgerAcquire_ok rfl rfl (Ok.refl _ _ s)
  case ledgerRelease => exact execLedgerRelease_ok rfl rfl (Ok.refl _ _ s)
  case ledgerList => exact execLedgerList_ok rfl rfl (Ok.refl _ _ s)
  case ledgerWithdraw => exact execLedgerWithdraw_ok rfl rfl (Ok.refl _ _ s)
  case imageStage => exact execImageStage_ok rfl rfl (Ok.refl _ _ s)
  case imageActivate => exact execImageActivate_ok rfl rfl (Ok.refl _ _ s)
  case imageConfirm => exact execImageConfirm_ok rfl rfl (Ok.refl _ _ s)
  case policyStage => exact execPolicyStage_ok rfl rfl (Ok.refl _ _ s)
  case journalRead => exact execJournalRead_ok rfl rfl (Ok.refl _ _ s)
  case lifeRead => exact execLifeRead_ok rfl rfl (Ok.refl _ _ s)
  case sensorRead => exact execSensorRead_ok rfl rfl (Ok.refl _ _ s)
  case planList => exact execPlanList_ok rfl rfl (Ok.refl _ _ s)
  case vcoreAdjust => exact execVcoreAdjust_ok rfl rfl (Ok.refl _ _ s)
  case sramMarginTest => exact execSramMarginTest_ok rfl rfl (Ok.refl _ _ s)
  case trimDriftCheck => exact execTrimDriftCheck_ok rfl rfl (Ok.refl _ _ s)
  case flashRefresh => exact execFlashRefresh_ok rfl rfl (Ok.refl _ _ s)
  case otpRefresh => exact execOtpRefresh_ok rfl rfl (Ok.refl _ _ s)
  case thermalModelUpdate => exact execThermalModelUpdate_ok rfl rfl (Ok.refl _ _ s)
  case replan => exact execReplan_ok rfl rfl (Ok.refl _ _ s)
  case lifeCounterSave => exact execLifeCounterSave_ok rfl rfl (Ok.refl _ _ s)
  case calendarSet => exact execCalendarSet_ok rfl rfl (Ok.refl _ _ s)
  case testLogicReset => exact execTestLogicReset_ok rfl rfl (Ok.refl _ _ s)
  case extest => exact execExtest_ok rfl rfl (Ok.refl _ _ s)
  case idcode => exact execIdcode_ok rfl rfl (Ok.refl _ _ s)
  case samplePreload => exact execSamplePreload_ok rfl rfl (Ok.refl _ _ s)
  case clamp => exact execClamp_ok rfl rfl (Ok.refl _ _ s)
  case highz => exact execHighz_ok rfl rfl (Ok.refl _ _ s)
  case bypass => exact execBypass_ok rfl rfl (Ok.refl _ _ s)
  case dbgChal => exact execDbgChal_ok rfl rfl (Ok.refl _ _ s)
  case dbgCert => exact execDbgCert_ok rfl rfl (Ok.refl _ _ s)
  case dbgStatus => exact execDbgStatus_ok rfl rfl (Ok.refl _ _ s)
  case dbgLock => exact execDbgLock_ok rfl rfl (Ok.refl _ _ s)
  case dbgAccess => exact execDbgAccess_ok rfl rfl (Ok.refl _ _ s)
  case coreHalt => exact execCoreHalt_ok rfl rfl (Ok.refl _ _ s)
  case coreResume => exact execCoreResume_ok rfl rfl (Ok.refl _ _ s)
  case coreSingleStep => exact execCoreSingleStep_ok rfl rfl (Ok.refl _ _ s)
  case coreReadRegister => exact execCoreReadRegister_ok rfl rfl (Ok.refl _ _ s)
  case coreWriteRegister => exact execCoreWriteRegister_ok rfl rfl (Ok.refl _ _ s)
  case coreReadMemory => exact execCoreReadMemory_ok rfl rfl (Ok.refl _ _ s)
  case coreWriteMemory => exact execCoreWriteMemory_ok rfl rfl (Ok.refl _ _ s)
  case dbgReset => exact execDbgReset_ok rfl rfl (Ok.refl _ _ s)
  case debugSessionExpiry => exact execDebugSessionExpiry_ok rfl rfl (Ok.refl _ _ s)
  case debugRefusalPeriodEnd => exact execDebugRefusalPeriodEnd_ok rfl rfl (Ok.refl _ _ s)
  case registerRead => exact execRegisterRead_ok rfl rfl (Ok.refl _ _ s)
  case ptpTransmit => exact execPtpTransmit_ok rfl rfl (Ok.refl _ _ s)
  case pcieLinkChange => exact execPcieLinkChange_ok rfl rfl (Ok.refl _ _ s)
  case mgtMsg => exact execMgtMsg_ok rfl rfl (Ok.refl _ _ s)
  case badOpcodeDescriptor => exact execBadOpcodeDescriptor_ok rfl rfl (Ok.refl _ _ s)
  case badTypeMessage => exact execBadTypeMessage_ok rfl rfl (Ok.refl _ _ s)
  case fwVerified => exact execFwVerified_ok rfl rfl (Ok.refl _ _ s)
  case psetLoaded => exact execPsetLoaded_ok rfl rfl (Ok.refl _ _ s)
  case memReady => exact execMemReady_ok rfl rfl (Ok.refl _ _ s)
  case logCompaction => exact execLogCompaction_ok rfl rfl (Ok.refl _ _ s)

/-- What a command that answers a next state keeps. -/
theorem exec_next_ok {c : Instr} {s t : State} (h : exec c s = .next t) :
    Ok (rowParts (mayChange c)) (rowMask (mayWrite c)) s t := ok_of_out (exec_ok c s) h

end Sys2Proof.Machine
end

section
/-! Which outcomes the commands answer: a next state, or, where a write can reach CLK_DIV, the fault of R510. -/

namespace Sys2Proof.Machine

/-- The outcome is a next state. -/
def Completes (r : Res) : Prop := ∃ t, r = .next t

theorem completes_next (t : State) : Completes (.next t) := ⟨t, rfl⟩

theorem State.descriptor_completes (s : State) (n k op : Nat) (d : Desc) (owned argOk reads : Bool)
    (body : State → State × Nat × List Nat) : Completes (s.descriptor n k op d owned argOk reads body) := by
  unfold State.descriptor
  split
  · exact completes_next _
  · split <;> exact completes_next _

theorem State.copyDesc_completes (s : State) (n k op : Nat) (d : Desc) : Completes (s.copyDesc n k op d) := by
  unfold State.copyDesc
  dsimp only
  split
  · exact completes_next _
  · split
    · exact completes_next _
    · split <;> exact completes_next _

/-- Every command but those that can write CLK_DIV completes: a meaning without branches answers a next state at once, and the
others, unfolded here, answer one on each of their branches. -/
theorem exec_completes (c : Instr) (s : State) (hw : ∀ rq a v, c ≠ .registerWrite rq a v)
    (hb : ∀ n k d data, c ≠ .regBlock n k d data) (ha : ∀ write a v, c ≠ .dbgAccess write a v) :
    Completes (exec c s) := by
  cases c
  case registerWrite => exact absurd rfl (hw _ _ _)
  case regBlock => exact absurd rfl (hb _ _ _ _)
  case dbgAccess => exact absurd rfl (ha _ _ _)
  all_goals dsimp only [exec]
  all_goals
    first
    | delta
        execLaunchDelivery execEventDetected execPwmUpdatePoint execPwmCompareCrossing execPwmDeadTimeEnd
        execSwitchingNodeTransition execDeadTimeFallback execAlignEvent execBchMinTimeEnd execBchWindowStart
        execBchDutyLimit execSdclkFreqApply execSinc3Result execFastResult execCurrentInputStuck execDclinkFreeResult
        execDclinkSampleResult execDclinkStuck execTlmFrame execRideExpiry execFbSampleReady execEncoderEdge
        execEncoderLineLoss execIndexEdge execSincosConversion execSsiTransferDone execSsiIdleEnd execHallTransition
        execBasePeriodStart execAxisStateWrite execEngineEccError execBgYield execLdd execStd execEnd execWait
        execRetb execIllegalBundle execSlotStart execSlotOverrun execSlotWindowEnd execSupScan execAtStageDone
        execHoldEntry execStopTimeout execHomeTimeout execPlanEccError execEnReq execStaggerEnable execSyncReceived
        execHoldoverEntry execTbTimeShadowFill execTbShadowRead execAnnounceReceived execAnnounceTimeout
        execGmHoldoffEnd execPtpTransmit execMemberTimeout execMembershipComplete execLineShaftCycleStart
        execRegWindowTimeout execCamComputeDone execLshStorageError execNop execBadOpcodeDescriptor execSetpoint
        execLaunchPush execLaunchCancel execAxisCmd execPoolAlloc execPoolFree execDoorbellPoll execConfigRequest
        execEventRingDrain execHeartbeat execHeartbeatReadback execHeartbeatTimeout execIrqHoldEnd execPatrolScrub
        execDmaDone execDmaHalt execCopyIn execCopyOut execCopySegmentDone execAuxCfgWrite execAdcConversionDone
        execAdcRequestDiscard execAdcReferenceCheck execAuxEvalInterval execMicrostep execChopperBlankEnd
        execDecayMinEnd execStandstillReduction execOpenCoil execBldcAlignEnd execBldcCommutation execMissedSector
        execBldcPwmPeriod execBldcCoastEnd execBldcRetryRefill execProbeEdge execHomeLoad execEnvLoadDone
        execCaptureRowLatch execUnloadDone execFrameTransmitted execEthLinkChange execPreemptVerifyDone
        execGateListTakeover execGateEntryEnd execLaunchFrameStart execTransmitAreaWrite execStatusSend
        execStrangerHoldEnd execFrameReceived execFdbAgeing execMdioDone execEthPortFault execCanFrameSent
        execCanTxFailure execBusOffRecovery execCanBasicCycle execCanWindowStart execExclusiveWindowMissed
        execCanFrameReceived execRxElementRelease execLockTimeout execFieldInputChange execWireBreak execWireWhole
        execOutputOvercurrent execReadbackMismatch execFxModeWrite execVfieldLow execVfieldRecovered execDarkTest
        execDarkTestTimeout execSafetyCycle execDiscrepancyFault execSs1Expiry execPsetCheckDone execPsetLoaded
        execSresetPulse execSresetStuck execBtSettleEnd execBtPass execBtCurrentTimeout execBtDue execBtBlock
        execBrownOutReset execWatchdogReset execCamelliaLockup execDomainRelease execMemReady execReferenceReady
        execReferenceLost execRefSwitchTimeout execRefHoldoffEnd execPllReady execMissingClockTrip execMarigoldReady
        execMarigoldTimeout execSnowdropTrim execMarigoldTrimBurst execNetpllLoss execMempllLoss execWake
        execRunReached execSequencerCoreFault execCellSafeStateTimeout execChipLevelFault execMempllTimeout
        execFwVerified execLedgerWithdraw execBadTypeMessage execMgtMsg execFlashRecovered execLogCompaction
        execVcoreAdjust execSramMarginTest execTrimDriftCheck execCalendarSet execBypass execDbgCert execDbgReset
        execDebugSessionExpiry execFunctionLevelReset execPcieLinkChange execWideReadLo execWideReadHi
    | exact completes_next _
  all_goals
    repeat' first
      | with_reducible exact completes_next _
      | with_reducible exact State.descriptor_completes _ _ _ _ _ _ _ _ _
      | with_reducible exact State.copyDesc_completes _ _ _ _ _
      | split
      | dsimp only

/-- An access that leaves the dividers as they were completes. -/
theorem State.settled_of_same {s t : State} (h : t.rd R.CLK_DIV = s.rd R.CLK_DIV) : s.settled t = .next t := by
  simp [State.settled, h]

/-- An access completes, or it left dividers that break R510. -/
theorem State.settled_cases (s t : State) :
    s.settled t = .next t ∨
      (s.settled t = .fault .clockRelation ∧ t.rd R.CLK_DIV ≠ s.rd R.CLK_DIV ∧ divOk (t.rd R.CLK_DIV) = false) := by
  unfold State.settled
  split
  · rename_i h
    simp only [Bool.and_eq_true, bne_iff_ne, Bool.not_eq_true'] at h
    exact .inr ⟨rfl, h⟩
  · exact .inl rfl

/-- An access that completes answers the state that it left. -/
theorem State.settled_next {s t u : State} (h : s.settled t = .next u) : u = t := by
  rcases s.settled_cases t with e | ⟨e, -⟩
  · rw [e] at h
    exact (Host.Outcome.next.inj h).symm
  · rw [e] at h
    cases h

/-- REGISTER_WRITE is the write of the window, checked against R510. -/
theorem exec_registerWrite (rq : Rq) (a : Nat) (v : Word) (s : State) :
    exec (.registerWrite rq a v) s = s.settled (s.busWrite rq a v) := rfl

end Sys2Proof.Machine
end

section
/-! A read of the window leaves CLK_DIV alone, and so does the descriptor of a REG_BLOCK that reads. -/

namespace Sys2Proof.Machine

/-- The fields and registers that a read of the window or the end of a descriptor may write, but for RC fields. -/
def slotsRead : List Slot :=
  slotsFinishDesc ++ [.r_HIF_TORN, .f_TB_STATUS_TORN, .f_CAN_RXQ_STATUS_LOCKED, .f_CAN_RXQ_STATUS_LOCK_IDX]

/-- None of them lies in CLK_DIV. -/
theorem slotsRead_offDividers (i : Nat) : ∀ x ∈ slotsRead, ¬ x.has R.CLK_DIV i := by
  simp only [slotsRead, slotsFinishDesc, List.cons_append, List.nil_append, List.forall_mem_cons]
  refine ⟨?_, ?_, ?_, ?_, ?_, ?_, ?_, ?_, ?_, by simp⟩
  · rintro ⟨n, k, e⟩
    exact Nat.ne_of_lt (by simp only [R.CLK_DIV, R.HIF_OD_SQ_STATUS]; omega) e
  · rintro ⟨n, e, -⟩
    exact Nat.ne_of_lt (by simp only [R.CLK_DIV, F.HIF_OD_LOST_CPL_COUNT, R.HIF_OD_LOST_CPL]; omega) e
  · rintro ⟨n, k, e, -⟩
    exact Nat.ne_of_lt (by simp only [R.CLK_DIV, F.HIF_OD_SQ_STATUS_RUNNING, R.HIF_OD_SQ_STATUS]; omega) e
  · rintro ⟨n, k, e⟩
    exact Nat.ne_of_lt (by simp only [R.CLK_DIV, cqSeq, R.HIF_OD_EVQ_SEQ, R.HIF_OD_CQ_SEQ]; split <;> omega) e
  · rintro ⟨n, k, e⟩
    exact Nat.ne_of_lt (by simp only [R.CLK_DIV, cqStatus, R.HIF_OD_EVQ_STATUS, R.HIF_OD_CQ_STATUS]; split <;> omega) e
  · exact Nat.ne_of_lt (by decide)
  · exact fun e => Nat.ne_of_lt (by decide) e.1
  · rintro ⟨n, q, e, -⟩
    exact Nat.ne_of_lt (by simp only [R.CLK_DIV, F.CAN_RXQ_STATUS_LOCKED, R.CAN_RXQ_STATUS]; omega) e
  · rintro ⟨n, q, e, -⟩
    exact Nat.ne_of_lt (by simp only [R.CLK_DIV, F.CAN_RXQ_STATUS_LOCK_IDX, R.CAN_RXQ_STATUS]; omega) e

/-- What writes only these slots leaves CLK_DIV as it was. -/
theorem clkDiv_of_ok {E : Nat} {s t : State} (h : Ok E (slotMask slotsRead) s t) : t.rd R.CLK_DIV = s.rd R.CLK_DIV :=
  BitVec.eq_of_getLsbD_eq fun i _ => sameBits_of_ok h (sub_refl _) _ i (slotsRead_offDividers i)

/-- CLK_DIV has no RC field: a read clears nothing in it. -/
theorem zeroFields_clkDiv (w : Word) : zeroFields .rc R.CLK_DIV w = w := rfl

theorem State.plainRead_clkDiv (s : State) (rq : Rq) (a : Nat) :
    (s.plainRead rq a).2.rd R.CLK_DIV = s.rd R.CLK_DIV := by
  have cleared : ∀ u : State, (if zeroFields .rc a (u.rd a) == u.rd a then u
      else u.wr a (zeroFields .rc a (u.rd a))).rd R.CLK_DIV = u.rd R.CLK_DIV := by
    intro u
    by_cases e : a = R.CLK_DIV
    · rw [e, zeroFields_clkDiv, BEq.rfl, if_pos rfl]
    · split
      · rfl
      · exact State.rd_wr_ne u _ (Ne.symm e)
  unfold State.plainRead
  dsimp only
  rw [cleared]
  split <;> rfl

theorem State.busRead_clkDiv (s : State) (rq : Rq) (a : Nat) : (s.busRead rq a).2.rd R.CLK_DIV = s.rd R.CLK_DIV := by
  have keep : ∀ {t : State}, Ok (anyParts) (slotMask slotsRead) s t → t.rd R.CLK_DIV = s.rd R.CLK_DIV := clkDiv_of_ok
  have self := Ok.refl (anyParts) (slotMask slotsRead) s
  unfold State.busRead
  dsimp only
  repeat' split
  · rfl
  · exact keep (State.fillTimeShadow_ok rfl rfl self)
  · exact keep (State.readNow_ok rfl rfl self)
  · exact keep (State.readNow_ok rfl rfl self)
  · exact keep (State.readNow_ok rfl rfl self)
  · exact keep (State.rxTouch_ok rfl rfl self)
  · rfl
  · rfl
  · rfl
  · rfl
  · rfl
  · exact State.plainRead_clkDiv s rq a
  · exact keep (State.readHi_ok rfl rfl self)
  · exact State.plainRead_clkDiv s rq a

theorem State.blockRead_clkDiv (rq : Rq) (k a : Nat) (s : State) :
    (State.blockRead rq k a s).2.rd R.CLK_DIV = s.rd R.CLK_DIV := by
  induction k generalizing a s with
  | zero => rfl
  | succ k ih =>
    unfold State.blockRead
    split
    · exact clkDiv_of_ok (E := anyParts) (State.readAbort_ok rfl rfl (Ok.refl _ _ s))
    · exact (ih _ _).trans (State.busRead_clkDiv s rq a)

/-- A descriptor whose effect leaves CLK_DIV alone leaves it alone: its start and its record write no slot of it. -/
theorem State.descriptor_clkDiv {s t : State} {n k op : Nat} {d : Desc} {owned argOk reads : Bool}
    {body : State → State × Nat × List Nat} (hb : ∀ u, (body u).1.rd R.CLK_DIV = u.rd R.CLK_DIV)
    (h : s.descriptor n k op d owned argOk reads body = .next t) : t.rd R.CLK_DIV = s.rd R.CLK_DIV := by
  have done : ∀ (u : State) (idx tag flags status : Nat) (l : List Nat),
      (u.finishDesc n k idx tag flags status l).rd R.CLK_DIV = u.rd R.CLK_DIV := fun u _ _ _ _ _ =>
    clkDiv_of_ok (E := anyParts) (State.finishDesc_ok rfl rfl (Ok.refl _ _ u))
  unfold State.descriptor at h
  split at h
  · rw [← Host.Outcome.next.inj h]
  · rename_i u idx e
    have start : u.rd R.CLK_DIV = s.rd R.CLK_DIV :=
      clkDiv_of_ok (E := anyParts) (State.sqStart_ok rfl rfl (Ok.refl _ _ s) e)
    split at h
    · rw [← Host.Outcome.next.inj h]
      exact (done ..).trans start
    · rw [← Host.Outcome.next.inj h]
      exact (done ..).trans ((hb u).trans start)

theorem State.hostSend_clkDiv (s : State) (n a : Nat) (l : List Byte) :
    (s.hostSend n a l).rd R.CLK_DIV = s.rd R.CLK_DIV :=
  clkDiv_of_ok (E := anyParts) (State.hostSend_ok rfl rfl (Ok.refl _ _ s))

/-- REG_BLOCK answers a next state, or the fault of R510 on a write. -/
theorem exec_regBlock_cases (n : Fin 4) (k : Fin 8) (d : Desc) (data : List Word) (s : State) :
    Completes (exec (.regBlock n k d data) s) ∨
      (exec (.regBlock n k d data) s = .fault .clockRelation ∧ d.field 30 1 ≠ 0) := by
  show Completes (execRegBlock n k d data s) ∨ (execRegBlock n k d data s = .fault .clockRelation ∧ d.field 30 1 ≠ 0)
  unfold execRegBlock
  dsimp only
  split
  · rename_i t h
    by_cases w : d.field 30 1 = 0
    · refine .inl ⟨t, State.settled_of_same (State.descriptor_clkDiv (fun u => ?_) h)⟩
      simp only [w, BEq.rfl, if_true]
      exact (State.hostSend_clkDiv ..).trans (State.blockRead_clkDiv ..)
    · rcases s.settled_cases t with e | ⟨e, -⟩
      · exact .inl ⟨t, e⟩
      · exact .inr ⟨e, w⟩
  · rename_i h
    obtain ⟨t, e⟩ := State.descriptor_completes s n k 0x40 d (d.target == 0) _ _ _
    exact absurd e (h t)

/-- DBG_ACCESS answers a next state, or the fault of R510 on a write. -/
theorem exec_dbgAccess_cases (write : Bool) (a v : Word) (s : State) :
    Completes (exec (.dbgAccess write a v) s) ∨
      (exec (.dbgAccess write a v) s = .fault .clockRelation ∧ write = true) := by
  show Completes (execDbgAccess write a v s) ∨ (execDbgAccess write a v s = .fault .clockRelation ∧ write = true)
  unfold execDbgAccess
  dsimp only
  split
  · exact .inl (completes_next _)
  split
  · rename_i w
    rcases State.settled_cases _ _ with e | ⟨e, -⟩
    · exact .inl ⟨_, e⟩
    · exact .inr ⟨e, w⟩
  split
  · exact .inl (completes_next _)
  split <;> exact .inl (completes_next _)

/-- Settles O57: the frame is `exec_next_ok` read against the command's rows, and the outcomes are `exec_completes`, the cases
of `State.settled` and those of the two commands that can write CLK_DIV on the way. -/
theorem everyCommandKeepsItsFrame : Obligations.EveryCommandKeepsItsFrame := by
  unfold Obligations.EveryCommandKeepsItsFrame
  refine ⟨fun c s t h => ?_, exec_completes, fun rq a v s => ?_, exec_regBlock_cases, exec_dbgAccess_cases⟩
  · exact ⟨sameBut_of_ok (exec_next_ok h) (sub_refl _), sameBits_of_row (exec_next_ok h)⟩
  · rw [exec_registerWrite]
    rcases s.settled_cases (s.busWrite rq a v) with e | e
    · exact .inl ⟨_, e, rfl⟩
    · exact .inr e

/-- Settles O58: the command in front keeps the queue behind it and the canonical forms (`exec_next_ok`), and so does a tick
of an idle device. -/
theorem everyStepKeepsTheCanonicalForms : Obligations.EveryStepKeepsTheCanonicalForms := by
  unfold Obligations.EveryStepKeepsTheCanonicalForms
  intro s t hs h
  unfold step at h
  split at h
  · rename_i hp
    obtain ⟨queue, canon, -⟩ := State.clockTick_ok (E := anyParts) (W := allSlots) rfl rfl (Ok.refl _ _ s)
    rw [← Host.Outcome.next.inj h]
    exact ⟨canon hs, by rw [queue, hp, List.tail_nil]⟩
  · rename_i c rest hp
    obtain ⟨queue, canon, -⟩ := exec_next_ok h
    exact ⟨canon hs, by rw [queue, hp, List.tail_cons]⟩

end Sys2Proof.Machine
end

section
/-! The access codes of R10: what one field of a register's row makes of the word, and what the row's fields make of it one after
the other, none reaching into the bits of another. -/

namespace Sys2Proof

open Machine

theorem testBit_toNat (v : Word) (i : Nat) : testBit v.toNat i = v.getLsbD i := by
  rw [testBit, BitVec.getLsbD, Nat.testBit_eq_decide_div_mod_eq, Bool.beq_eq_decide_eq]

/-- A number without the bits that another has. -/
theorem testBit_sub_land (x a i : Nat) : (a - Nat.land x a).testBit i = (a.testBit i && !x.testBit i) := by
  change (a - (x &&& a)).testBit i = _
  induction i generalizing x a with
  | zero =>
    have low : (x &&& a) % 2 = 1 ↔ x % 2 = 1 ∧ a % 2 = 1 := Nat.and_mod_two_eq_one
    have le : x &&& a ≤ a := Nat.and_le_right
    rw [Bool.eq_iff_iff]
    simp only [Nat.testBit_zero, Bool.and_eq_true, Bool.not_eq_true', decide_eq_true_eq, decide_eq_false_iff_not]
    omega
  | succ i ih =>
    have low : (x &&& a) % 2 = 1 ↔ x % 2 = 1 ∧ a % 2 = 1 := Nat.and_mod_two_eq_one
    have half : (a - (x &&& a)) / 2 = a / 2 - (x / 2 &&& a / 2) := by
      rw [← Nat.and_div_two]
      omega
    simpa only [Nat.testBit_add_one, half] using ih (x / 2) (a / 2)
/-- What the write of `v` makes of the word `w` in one field (R10). -/
def fieldMerged (v w : Word) (f : FieldDesc) : Word :=
  match f.acc with
  | .rw => putBits w f.lo f.w (getBits v f.lo f.w)
  | .w1c => putBits w f.lo f.w (getBits w f.lo f.w - Nat.land (getBits v f.lo f.w) (getBits w f.lo f.w))
  | .w1s => putBits w f.lo f.w (Nat.lor (getBits v f.lo f.w) (getBits w f.lo f.w))
  | _ => w

theorem merged_of_row {a : Nat} {r : RegRow} (h : regRow? a = some r) (old v : Word) :
    merged a old v = r.fields.foldl (fieldMerged v) old := by
  unfold merged
  rw [h]
  rfl

theorem merged_of_no_row {a : Nat} (h : regRow? a = none) (old v : Word) : merged a old v = old := by
  unfold merged
  rw [h]

/-- Does bit `i` lie in a field of a row? -/
abbrev FieldDesc.covers (f : FieldDesc) (i : Nat) : Prop := f.lo ≤ i ∧ i < f.lo + f.w

/-- A field leaves the bits outside it. -/
theorem fieldMerged_getLsbD_outside {f : FieldDesc} {i : Nat} (h : ¬ f.covers i) (v w : Word) :
    (fieldMerged v w f).getLsbD i = w.getLsbD i := by
  have put : ∀ x, (putBits w f.lo f.w x).getLsbD i = w.getLsbD i := by
    intro x
    rw [putBits_getLsbD, if_neg h]
    by_cases l : i < 32
    · simp [l]
    · simp [l, BitVec.getLsbD_of_ge w i (by omega)]
  unfold fieldMerged
  split
  · exact put _
  · exact put _
  · exact put _
  · rfl

/-- A field's own bits follow its access code. -/
theorem fieldMerged_getLsbD_inside {f : FieldDesc} {i : Nat} (h : f.covers i) (v w : Word) :
    (fieldMerged v w f).getLsbD i = codeBit f.acc (w.getLsbD i) (v.getLsbD i) := by
  have bitOf : ∀ u : Word, (getBits u f.lo f.w).testBit (i - f.lo) = u.getLsbD i := by
    intro u
    rw [getBits_testBit, Nat.add_sub_cancel' h.1]
    simp [Nat.sub_lt_left_of_lt_add h.1 h.2]
  have put : ∀ x, (putBits w f.lo f.w x).getLsbD i = (decide (i < 32) && x.testBit (i - f.lo)) := by
    intro x
    rw [putBits_getLsbD, if_pos h]
  have high : ∀ u : Word, (decide (i < 32) && u.getLsbD i) = u.getLsbD i := by
    intro u
    by_cases l : i < 32
    · simp [l]
    · simp [l, BitVec.getLsbD_of_ge u i (by omega)]
  unfold fieldMerged
  cases hc : f.acc with
  | rw => simp only [put, bitOf, high, codeBit]
  | w1c => simp only [put, testBit_sub_land, bitOf, codeBit, ← Bool.and_assoc, high]
  | w1s =>
    simp only [put, codeBit]
    rw [show ∀ x y, Nat.lor x y = x ||| y from fun _ _ => rfl, Nat.testBit_or, bitOf, bitOf, Bool.and_or_distrib_left,
      high, high, Bool.or_comm]
  | _ => rfl

/-- Fields that do not cover a bit leave it. -/
theorem foldl_fieldMerged_outside {l : List FieldDesc} {i : Nat} (h : ∀ f ∈ l, ¬ f.covers i) (v w : Word) :
    (l.foldl (fieldMerged v) w).getLsbD i = w.getLsbD i := by
  induction l generalizing w with
  | nil => rfl
  | cons f l ih =>
    rw [List.forall_mem_cons] at h
    exact (ih h.2 _).trans (fieldMerged_getLsbD_outside h.1 v w)

/-- Do two fields have no bit in common? -/
abbrev FieldDesc.apart (f g : FieldDesc) : Prop := f.lo + f.w ≤ g.lo ∨ g.lo + g.w ≤ f.lo

/-- Where no two fields share a bit, the field that covers a bit decides it alone. -/
theorem foldl_fieldMerged_inside {l : List FieldDesc} (hl : l.Pairwise FieldDesc.apart) {f : FieldDesc} (hf : f ∈ l) {i : Nat}
    (h : f.covers i) (v w : Word) :
    (l.foldl (fieldMerged v) w).getLsbD i = codeBit f.acc (w.getLsbD i) (v.getLsbD i) := by
  induction l generalizing w with
  | nil => cases hf
  | cons g l ih =>
    obtain ⟨head, tail⟩ := List.pairwise_cons.mp hl
    obtain ⟨lo, hi⟩ := h
    rcases List.mem_cons.mp hf with rfl | hm
    · rw [List.foldl_cons, foldl_fieldMerged_outside _ v _, fieldMerged_getLsbD_inside ⟨lo, hi⟩]
      rintro g hg ⟨glo, ghi⟩
      rcases head g hg with e | e <;> omega
    · rw [List.foldl_cons, ih tail hm, fieldMerged_getLsbD_outside]
      rintro ⟨glo, ghi⟩
      rcases head f hm with e | e <;> omega

/-- The table of an offset is that of the first offset of its 1 MiB part. -/
theorem regTable_block (a : Nat) : regTable a = regTable (a / 0x100000 * 0x100000) := by
  unfold regTable
  rw [Nat.mul_div_cancel _ (by decide)]

theorem regTable_beyond {a : Nat} (h : 19 ≤ a / 0x100000) : regTable a = [] := by
  unfold regTable
  split
  case h_17 => rfl
  all_goals omega

/-- In each row of the register table the fields lie apart. -/
theorem regTable_fields_apart (k : Fin 19) : ∀ r ∈ regTable (k * 0x100000), r.fields.Pairwise FieldDesc.apart := by
  revert k
  decide +kernel

theorem regRow_fields_apart {a : Nat} {r : RegRow} (h : regRow? a = some r) : r.fields.Pairwise FieldDesc.apart := by
  have mem : r ∈ regTable a := List.mem_of_find?_eq_some h
  by_cases k : a / 0x100000 < 19
  · rw [regTable_block] at mem
    exact regTable_fields_apart ⟨_, k⟩ r mem
  · rw [regTable_beyond (Nat.le_of_not_lt k)] at mem
    cases mem

/-- Settles O56: the fields of a row lie apart, so each decides its own bits by its access code, and the others stay. -/
theorem accessCodesAreFollowed : Obligations.AccessCodesAreFollowed := by
  unfold Obligations.AccessCodesAreFollowed
  simp only [testBit_toNat]
  refine ⟨fun a old v r f i hr hf lo hi => ?_, fun a old v i h => ?_⟩
  · rw [merged_of_row hr]
    exact foldl_fieldMerged_inside (regRow_fields_apart hr) hf ⟨lo, hi⟩ v old
  · cases hr : regRow? a with
    | none => rw [merged_of_no_row hr]
    | some r =>
      rw [merged_of_row hr]
      refine foldl_fieldMerged_outside (fun f hf c => ?_) v old
      rcases h r hr f hf with e | e <;> omega

end Sys2Proof
end

section
/-! A write of CLK_DIV where bits outside its fields are set. -/

namespace Sys2Proof.Machine

/-- The state after reset, but for CLK_DIV, whose bits 18 to 31, which lie in no field, are set. -/
def State.reservedDividers : State := State.reset.wr R.CLK_DIV 0xFFFC0000

/-- A write of the reset value 0x14842 reaches the fields only (R10): bits 18 to 31 stay. -/
theorem busWrite_reservedDividers :
    (State.reservedDividers.busWrite (.od 0) R.CLK_DIV 0x14842).rd R.CLK_DIV = 0xFFFD4842 := by decide +kernel

/-- Refutes O52: its clause on an allowed value of CLK_DIV says of every state that the word then holds the 18 written bits and
no other, but a write under the access codes keeps the bits outside the fields, and in `State.reservedDividers` they are set. -/
theorem not_windowWritesFollowTheirRules : ¬ Obligations.WindowWritesFollowTheirRules := by
  unfold Obligations.WindowWritesFollowTheirRules
  rintro ⟨-, -, -, -, -, allowed, -⟩
  obtain ⟨t, ht, hv, -⟩ := allowed State.reservedDividers (.od 0) 0x14842 (by decide +kernel) (by decide +kernel)
  rw [exec_registerWrite] at ht
  rw [State.settled_next ht, busWrite_reservedDividers] at hv
  exact absurd hv (by decide)

end Sys2Proof.Machine
end

section
/-! What a frame of Laws/Keep.lean says of a word, a field and a part, and what a repeated change establishes. -/

namespace Sys2Proof.Machine

/-- A word that no listed slot covers reads the same. -/
theorem State.rd_of_ok {E : Nat} {l : List Slot} {s t : State} {a : Nat} (h : Ok E (slotMask l) s t)
    (ha : ∀ x ∈ l, ∀ i, ¬ x.has a i) : t.rd a = s.rd a :=
  BitVec.eq_of_getLsbD_eq fun i _ => sameBits_of_ok h (sub_refl _) a i fun x hx => ha x hx i

/-- A field reads as its word does. -/
theorem State.g_of_rd {s t : State} {f : Fld} (h : t.rd f.addr = s.rd f.addr) : t.g f = s.g f := by
  rw [State.g, State.g, h]

/-- A one-bit field whose bit no listed slot covers reads the same. -/
theorem State.is_of_ok {E : Nat} {l : List Slot} {s t : State} {a lo : Nat} (h : Ok E (slotMask l) s t)
    (hf : ∀ x ∈ l, ¬ x.has a lo) : t.is ⟨a, lo, 1⟩ = s.is ⟨a, lo, 1⟩ := by
  have bit : (t.rd a).getLsbD lo = (s.rd a).getLsbD lo := sameBits_of_ok h (sub_refl _) a lo hf
  have value : t.g ⟨a, lo, 1⟩ = s.g ⟨a, lo, 1⟩ := by
    apply Nat.eq_of_testBit_eq
    intro i
    simp only [State.g, getBits_testBit]
    by_cases hi : i < 1
    · rw [Nat.lt_one_iff.mp hi, Nat.add_zero, bit]
    · simp [hi]
  rw [State.is_eq, State.is_eq, value]

/-- The clocks and domains are the same where the mask does not have their part. -/
theorem State.clk_of_ok {E W : Nat} {s t : State} (h : Ok E W s t) (e : E.testBit Part.clk.idx = false) : t.clk = s.clk :=
  h.2.2.1 .clk e

/-- The global safe state, once forced, stays. -/
theorem State.globalSafe_of_ok {E W : Nat} {s t : State} (h : Ok E W s t) (e : E.testBit 41 = false)
    (hs : s.saf.globalSafe = true) : t.saf.globalSafe = true :=
  h.2.2.2.1 e hs

/-- What each change of a sequence keeps, the sequence keeps. -/
theorem State.each_preserves {α : Type} {P : State → Prop} {k : α → State → State} {l : List α}
    (h : ∀ x ∈ l, ∀ t, P t → P (k x t)) {s : State} (hs : P s) : P (s.each l k) :=
  List.foldlRecOn l _ hs fun t ht x hx => h x hx t ht

/-- What a change of a sequence establishes and every change keeps, the sequence establishes. -/
theorem State.each_establishes {α : Type} {P : State → Prop} {k : α → State → State} {l : List α} {x : α} (hx : x ∈ l)
    (make : ∀ t, P (k x t)) (keep : ∀ y t, P t → P (k y t)) (s : State) : P (s.each l k) := by
  induction l generalizing s with
  | nil => cases hx
  | cons y l ih =>
    rw [State.each_cons]
    rcases List.mem_cons.mp hx with rfl | hx
    · exact State.each_preserves (fun y _ => keep y) (make s)
    · exact ih hx _

/-- A flag of another register, or one whose bits lie apart, reads as before. -/
theorem State.is_p_apart (s : State) {f f' : Fld} (x : Nat)
    (h : f'.addr ≠ f.addr ∨ f'.lo + f'.w ≤ f.lo ∨ f.lo + f.w ≤ f'.lo) : (s.p f x).is f' = s.is f' := by
  rw [State.is_eq, State.is_eq, State.g_p_apart s x h]

theorem testBit_eq (x i : Nat) : testBit x i = x.testBit i := by
  rw [testBit, Nat.testBit_eq_decide_div_mod_eq, Bool.beq_eq_decide_eq]

theorem testBit_setBit_same (x i : Nat) : testBit (setBit x i true) i = true := by
  unfold setBit
  cases h : testBit x i
  · rw [testBit_eq] at h ⊢
    simp [Nat.add_comm x, Nat.testBit_two_pow_add_eq, h]
  · simpa using h

/-- A bit of a field reads set after it was set. -/
theorem State.testBit_g_setBit (s : State) {f : Fld} {i : Nat} (hf : f.lo + f.w ≤ 32) (hi : i < f.w) (x : Nat) :
    testBit ((s.p f (setBit x i true)).g f) i = true := by
  rw [State.g_p_same s _ hf, testBit_eq, Nat.testBit_mod_two_pow, ← testBit_eq, testBit_setBit_same]
  simpa using hi

end Sys2Proof.Machine
end

section
/-! The slots that the reaction to a chip-level fault and the resets may write, and where they lie. -/

namespace Sys2Proof.Machine

/-- Fields of axes, auxiliary channels, field channels and brake choppers that the reaction to a chip-level fault may write once
the fault is recorded, and a lock-out of the device once it is latched. -/
def slotsUnitsSafe : List Slot :=
  [.f_AUX_BL_DUTY_DUTY, .f_AUX_BL_STATUS_DIRN, .f_AUX_BL_STATUS_I_LIMITED, .f_AUX_BL_STATUS_PHASE, .f_AUX_BL_STATUS_SECTOR,
    .f_AUX_BL_STATUS_ZC_RUN, .f_AUX_CL_ADC_COUNT_DROPPED, .f_AUX_CL_ADC_COUNT_MAX_WAIT, .f_AUX_CTL_OUT_EN,
    .f_AUX_STATUS_STATE, .f_AUX_STATUS_STO_GATED, .f_AUX_STP_COUNT_ADAPT_SKIPPED, .f_AUX_STP_COUNT_DROPPED,
    .f_AUX_STP_OFS_OFS_A, .f_AUX_STP_OFS_OFS_B, .f_AX_PWM_STATUS_FXG_OFF, .f_AX_PWM_STATUS_OUT_ACTIVE,
    .f_AX_PWM_STATUS_STO_GATED, .f_SAF_BRK_STATUS_RELEASED, .f_FIO_CH_STATUS_LEVEL, .f_GLB_BCH_STATUS_ON]

/-- Fields of single registers that they may write. -/
def slotsChipSafe : List Slot :=
  [.f_SAF_BT_RESULT_AXIS, .f_SAF_BT_RESULT_MOVED, .f_SAF_BT_RESULT_REASON, .f_SAF_BT_RESULT_RESULT, .f_SAF_BT_RESULT_STATE,
    .f_LSP_EN_STATUS_BUSY, .f_LSP_EN_STATUS_CANCELLED, .f_SAF_STO_ASSERTED, .f_SAF_STO_DEMAND]

/-- All that they may write. -/
def slotsForceSafe : List Slot :=
  slotsUnitsSafe ++ slotsChipSafe ++
    [.f_AUX_CL_ADC_STATUS_BUSY, .f_AX_PWM_CTL_OUT_EN, .r_AUX_VEL, .r_FIO_OUT_RB, .r_LSP_EN_REQ0, .r_LSP_EN_REQ1]

/-- An offset below an array of registers, or between its registers, is none of them. -/
theorem offset_ne_array {a b k n : Nat} (h : a < b ∨ a % k ≠ b % k) : a ≠ b + n * k := by
  rintro rfl
  rw [Nat.add_mul_mod_self_right] at h
  rcases h with h | h
  · omega
  · exact h rfl

/-- None of them lies in GLB_REGION_STATE or GLB_CHIP_FAULT. -/
theorem slotsForceSafe_above {a : Nat} (ha : a ≤ R.GLB_CHIP_FAULT) : ∀ x ∈ slotsForceSafe, ∀ i, ¬ x.has a i := by
  have below {b : Nat} (h : R.GLB_CHIP_FAULT < b) : a < b := Nat.lt_of_le_of_lt ha h
  have units : ∀ x ∈ slotsUnitsSafe, ∀ i, ¬ x.has a i := by
    simp only [slotsUnitsSafe, List.forall_mem_cons, List.not_mem_nil, false_imp_iff, implies_true, and_true]
    and_intros
    all_goals exact fun _ ⟨_, e, _⟩ => offset_ne_array (.inl (below (by decide))) e
  have chip : ∀ x ∈ slotsChipSafe, ∀ i, ¬ x.has a i := by
    simp only [slotsChipSafe, List.forall_mem_cons, List.not_mem_nil, false_imp_iff, implies_true, and_true]
    and_intros
    all_goals exact fun _ ⟨e, _⟩ => Nat.ne_of_lt (below (by decide)) e
  simp only [slotsForceSafe, List.forall_mem_append, List.forall_mem_cons, List.not_mem_nil, false_imp_iff, implies_true,
    and_true]
  refine ⟨⟨units, chip⟩, ?_, ?_, ?_, ?_, ?_, ?_⟩
  · exact fun _ ⟨_, e, _⟩ => offset_ne_array (.inl (below (by decide))) e
  · exact fun _ ⟨_, e, _⟩ => offset_ne_array (.inl (below (by decide))) e
  · exact fun _ ⟨_, e⟩ => offset_ne_array (.inl (below (by decide))) e
  · exact fun _ e => Nat.ne_of_lt (below (by decide)) e
  · exact fun _ e => Nat.ne_of_lt (below (by decide)) e
  · exact fun _ e => Nat.ne_of_lt (below (by decide)) e

/-- None of them is SAF_LOCK.DEVICE: numbers beyond the device's units bring the offsets of two fields to SAF_LOCK, but those
fields do not hold bit 0. -/
theorem slotsForceSafe_offDeviceLock : ∀ x ∈ slotsForceSafe, ¬ x.has R.SAF_LOCK 0 := by
  have units : ∀ x ∈ slotsUnitsSafe, ¬ x.has R.SAF_LOCK 0 := by
    simp only [slotsUnitsSafe, List.forall_mem_cons, List.not_mem_nil, false_imp_iff, implies_true, and_true]
    and_intros
    all_goals exact fun ⟨_, e, _⟩ => offset_ne_array (by decide) e
  have chip : ∀ x ∈ slotsChipSafe, ¬ x.has R.SAF_LOCK 0 := by
    simp only [slotsChipSafe, List.forall_mem_cons, List.not_mem_nil, false_imp_iff, implies_true, and_true]
    and_intros
    all_goals exact fun ⟨e, _⟩ => absurd e (by decide)
  simp only [slotsForceSafe, List.forall_mem_append, List.forall_mem_cons, List.not_mem_nil, false_imp_iff, implies_true,
    and_true]
  refine ⟨⟨units, chip⟩, ?_, ?_, ?_, ?_, ?_, ?_⟩
  · exact fun ⟨_, _, lo, _⟩ => Nat.not_succ_le_zero 0 lo
  · exact fun ⟨_, _, lo, _⟩ => Nat.not_succ_le_zero 0 lo
  · exact fun ⟨_, e⟩ => offset_ne_array (by decide) e
  · exact fun e : R.SAF_LOCK = R.FIO_OUT_RB => absurd e (by decide)
  · exact fun e : R.SAF_LOCK = R.LSP_EN_REQ0 => absurd e (by decide)
  · exact fun e : R.SAF_LOCK = R.LSP_EN_REQ1 => absurd e (by decide)

/-- What the completion of a copy may write lies outside GLB_REGION_STATE. -/
theorem slotsFinishDesc_offRegionState : ∀ x ∈ slotsFinishDesc, ∀ i, ¬ x.has R.GLB_REGION_STATE i := by
  simp only [slotsFinishDesc, List.forall_mem_cons, List.not_mem_nil, false_imp_iff, implies_true, and_true]
  refine ⟨?_, ?_, ?_, ?_, ?_⟩
  · rintro _ ⟨n, k, e⟩
    exact Nat.ne_of_lt (by simp only [R.GLB_REGION_STATE, R.HIF_OD_SQ_STATUS]; omega) e
  · rintro _ ⟨n, e, -⟩
    exact offset_ne_array (by decide) e
  · rintro _ ⟨n, k, e, -⟩
    exact Nat.ne_of_lt (by simp only [R.GLB_REGION_STATE, F.HIF_OD_SQ_STATUS_RUNNING, R.HIF_OD_SQ_STATUS]; omega) e
  · rintro _ ⟨n, k, e⟩
    exact Nat.ne_of_lt (by simp only [R.GLB_REGION_STATE, cqSeq, R.HIF_OD_EVQ_SEQ, R.HIF_OD_CQ_SEQ]; split <;> omega) e
  · rintro _ ⟨n, k, e⟩
    exact Nat.ne_of_lt
      (by simp only [R.GLB_REGION_STATE, cqStatus, R.HIF_OD_EVQ_STATUS, R.HIF_OD_CQ_STATUS]; split <;> omega) e

/-- Fields of single registers that the reset of a domain may write, beside the registers it brings to their reset values and the
isolation of its region. -/
def slotsResetChip : List Slot :=
  [.f_LSH_JOIN_STATUS_COMPLETE, .f_LSH_JOIN_STATUS_JOINING, .f_LSH_JOIN_STATUS_PRESENT, .f_TB_STATUS_SERVO_STATE,
    .f_CLK_STATUS_SD_TRIMMED, .f_GLB_REGION_STATE_CLUSTER_FAULT_SEEN, .f_GLB_REGION_STATE_REGION_FAULT,
    .f_GLB_READY_FW_VERIFIED, .f_GLB_READY_HOST_READY, .f_GLB_READY_MEM_READY, .f_GLB_READY_MOTION_READY,
    .f_GLB_READY_PSET_LOADED, .f_GLB_READY_READY_MS]

/-- All that it may write, beside the same. -/
def slotsReset : List Slot := slotsForceSafe ++ slotsResetChip ++ [.r_LSH_PRESENT, .r_FIO_OUT]

/-- None of them lies in GLB_CHIP_FAULT. -/
theorem slotsReset_offChipFault : ∀ x ∈ slotsReset, ∀ i, ¬ x.has R.GLB_CHIP_FAULT i := by
  have chip : ∀ x ∈ slotsResetChip, ∀ i, ¬ x.has R.GLB_CHIP_FAULT i := by
    simp only [slotsResetChip, List.forall_mem_cons, List.not_mem_nil, false_imp_iff, implies_true, and_true]
    and_intros
    all_goals exact fun _ ⟨e, _⟩ => absurd e (by decide)
  simp only [slotsReset, List.forall_mem_append, List.forall_mem_cons, List.not_mem_nil, false_imp_iff, implies_true,
    and_true]
  refine ⟨⟨slotsForceSafe_above (Nat.le_refl _), chip⟩, ?_, ?_⟩
  · exact fun _ ⟨_, e⟩ => offset_ne_array (by decide) e
  · exact fun _ (e : R.GLB_CHIP_FAULT = R.FIO_OUT) => absurd e (by decide)

end Sys2Proof.Machine
end

section
/-! A chip-level fault (R24, R25): its record, and the reaction that forces the global safe state. -/

namespace Sys2Proof.Machine

/-- GLB_CHIP_FAULT takes the cause, the region and the time. -/
def State.writeChipFault (s : State) (cause region : Nat) : State :=
  ((s.p F.GLB_CHIP_FAULT_CAUSE cause).p F.GLB_CHIP_FAULT_REGION region).p F.GLB_CHIP_FAULT_TIME_HI (getBits s.short 8 24)

/-- The record of a chip-level fault: its register, the global safe state, and the request of its reset. -/
def State.recordChipFault (s : State) (cause region : Nat) : State :=
  let s := s.writeChipFault cause region
  { s with saf := { s.saf with globalSafe := true },
           clk := { s.clk with wdogAsk := s.clk.wdogAsk || cause != 6, raise8 := true } }

/-- The reaction: STO, brakes, axes, choppers and field outputs follow the global safe state. -/
def State.forceSafe (s : State) : State :=
  (s.evalGroups.each (List.range 16) fun n s => s.engage n).refreshAxes.fieldOuts

theorem State.chipFault_eq (s : State) (cause region : Nat) :
    s.chipFault cause region = (s.recordChipFault cause region).forceSafe := rfl

/-- The frame of the reaction. -/
theorem State.forceSafe_ok (s : State) :
    Ok (partMask [.regs, .evt, .bch, .mg, .saf, .chans, .aux, .adc, .fio]) (slotMask slotsForceSafe) s s.forceSafe := by
  refine State.fieldOuts_ok rfl rfl (State.refreshAxes_ok rfl rfl (State.each_ok rfl rfl ?_ fun _ _ => ?_))
  · exact State.evalGroups_ok rfl rfl (Ok.refl _ _ s)
  · exact State.engage_ok rfl rfl

/-! ### Brakes -/

/-- No brake is released. -/
def State.brakesHold (s : State) : Prop := ∀ n : Fin 16, s.is (F.SAF_BRK_STATUS_RELEASED n) = false

theorem State.brakesHold_p {s : State} {f : Fld} (x : Nat) (hf : ∀ n : Fin 16, R.SAF_BRK_STATUS n ≠ f.addr)
    (h : s.brakesHold) : (s.p f x).brakesHold :=
  fun n => (State.is_p_apart s x (.inl (hf n))).trans (h n)

theorem State.brakesHold_when {s : State} {b : Bool} {k : State → State} (hk : s.brakesHold → (k s).brakesHold)
    (h : s.brakesHold) : (s.when b k).brakesHold := by
  cases b
  · exact h
  · exact hk h

/-- The brake that engages is released no more. -/
theorem State.engage_holds (s : State) (n : Nat) : (s.engage n).is (F.SAF_BRK_STATUS_RELEASED n) = false := by
  unfold State.engage
  split
  · rw [State.is_eq, State.off_eq, State.g_p_same _ _ (by decide : (0 : Nat) + 1 ≤ 32)]
    rfl
  · rename_i h
    exact Bool.eq_false_iff.mpr h

/-- Another brake, if it was not released, is not. -/
theorem State.engage_keeps_held (s : State) (m n : Nat) (h : s.is (F.SAF_BRK_STATUS_RELEASED n) = false) :
    (s.engage m).is (F.SAF_BRK_STATUS_RELEASED n) = false := by
  by_cases e : n = m
  · rw [e]
    exact s.engage_holds m
  · unfold State.engage
    split
    · rw [State.off_eq, State.is_p_apart]
      · exact h
      · exact .inl (by simp only [F.SAF_BRK_STATUS_RELEASED, R.SAF_BRK_STATUS]; omega)
    · exact h

theorem State.brakesHold_engage {s : State} (m : Nat) (h : s.brakesHold) : (s.engage m).brakesHold :=
  fun n => s.engage_keeps_held m n (h n)

/-- Once every axis's brake has engaged, none is released. -/
theorem State.brakesHold_engageAll (s : State) : (s.each (List.range 16) fun n s => s.engage n).brakesHold := fun n =>
  State.each_establishes (P := fun t => t.is (F.SAF_BRK_STATUS_RELEASED n) = false) (List.mem_range.mpr n.isLt)
    (fun t => t.engage_holds n) (fun m t => t.engage_keeps_held m n) s

/-- What a frame without SAF_BRKn_STATUS keeps. -/
theorem State.brakesHold_of_ok {E : Nat} {l : List Slot} {s t : State} (h : Ok E (slotMask l) s t)
    (hl : ∀ n : Fin 16, ∀ x ∈ l, ¬ x.has (R.SAF_BRK_STATUS n) 0) (hs : s.brakesHold) : t.brakesHold :=
  fun n => (State.is_of_ok h (hl n)).trans (hs n)

theorem State.brakesHold_btAbortIf {s : State} (cond : Nat → Bool) (reason : Nat) (h : s.brakesHold) :
    (s.btAbortIf cond reason).brakesHold := by
  refine State.brakesHold_of_ok (E := anyParts) (l := [.f_SAF_BT_RESULT_AXIS, .f_SAF_BT_RESULT_MOVED,
    .f_SAF_BT_RESULT_REASON, .f_SAF_BT_RESULT_RESULT, .f_SAF_BT_RESULT_STATE])
    (State.btAbortIf_ok rfl rfl (Ok.refl _ _ s)) (fun n => ?_) h
  have apart : R.SAF_BRK_STATUS n ≠ R.SAF_BT_RESULT := by simp only [R.SAF_BRK_STATUS, R.SAF_BT_RESULT]; omega
  simp only [List.forall_mem_cons, List.not_mem_nil, false_imp_iff, implies_true, and_true]
  and_intros
  all_goals exact fun ⟨e, _⟩ => apart e

theorem State.brakesHold_refreshChop {s : State} (g : Nat) (h : s.brakesHold) : (s.refreshChop g).brakesHold := by
  refine State.brakesHold_of_ok (E := anyParts) (l := [.f_GLB_BCH_STATUS_ON])
    (State.refreshChop_ok rfl rfl (Ok.refl _ _ s)) (fun n => ?_) h
  rw [List.forall_mem_singleton]
  rintro ⟨g, e, -⟩
  simp only [R.SAF_BRK_STATUS, F.GLB_BCH_STATUS_ON, R.GLB_BCH_STATUS] at e
  omega

theorem State.brakesHold_refreshAxis {s : State} (n : Nat) (h : s.brakesHold) : (s.refreshAxis n).brakesHold := by
  have ctl (m : Fin 16) : R.SAF_BRK_STATUS m ≠ R.AX_PWM_CTL n := by simp only [R.SAF_BRK_STATUS, R.AX_PWM_CTL]; omega
  have status (m : Fin 16) : R.SAF_BRK_STATUS m ≠ R.AX_PWM_STATUS n := by
    simp only [R.SAF_BRK_STATUS, R.AX_PWM_STATUS]
    omega
  unfold State.refreshAxis
  extract_lets gated held act fell shown engaged
  have hgated : gated.brakesHold := State.brakesHold_p _ status (State.brakesHold_p _ status h)
  have hheld : held.brakesHold := State.brakesHold_when (fun ht => State.brakesHold_p _ ctl ht) hgated
  have hshown : shown.brakesHold := State.brakesHold_p _ status hheld
  have hengaged : engaged.brakesHold := State.brakesHold_when (State.brakesHold_engage n) hshown
  exact State.brakesHold_when (State.brakesHold_btAbortIf _ _) hengaged

theorem State.brakesHold_refreshAxes {s : State} (h : s.brakesHold) : s.refreshAxes.brakesHold := by
  unfold State.refreshAxes
  refine State.each_preserves (P := State.brakesHold) (fun g _ _ => State.brakesHold_refreshChop g) ?_
  exact State.each_preserves (P := State.brakesHold) (fun n _ _ => State.brakesHold_refreshAxis n) h

/-- The status of the 32 field outputs lies below the registers of the brakes. -/
theorem State.brakesHold_fieldOuts {s : State} (h : s.brakesHold) : s.fieldOuts.brakesHold := by
  refine State.each_preserves (fun j hj t ht => ?_) h
  have level (n : Fin 16) : R.SAF_BRK_STATUS n ≠ R.FIO_CH_STATUS (32 + j) := by
    have := List.mem_range.mp hj
    simp only [R.SAF_BRK_STATUS, R.FIO_CH_STATUS]
    omega
  have readback (n : Fin 16) : R.SAF_BRK_STATUS n ≠ R.FIO_OUT_RB := by simp only [R.SAF_BRK_STATUS, R.FIO_OUT_RB]; omega
  extract_lets shown on switched
  have hshown : shown.brakesHold := State.brakesHold_when (State.brakesHold_p _ level) ht
  split
  · exact hshown
  · intro n
    rw [State.is_eq, State.g_wr_ne _ _ (readback n)]
    exact hshown n

end Sys2Proof.Machine
end

section
/-! What a chip-level fault records and forces (R24, R25). -/

namespace Sys2Proof.Machine

/-- The reaction leaves GLB_REGION_STATE and GLB_CHIP_FAULT alone. -/
theorem State.forceSafe_rd (s : State) {a : Nat} (ha : a ≤ R.GLB_CHIP_FAULT) : s.forceSafe.rd a = s.rd a :=
  State.rd_of_ok s.forceSafe_ok (slotsForceSafe_above ha)

theorem State.forceSafe_clk (s : State) : s.forceSafe.clk = s.clk := State.clk_of_ok s.forceSafe_ok rfl

theorem State.forceSafe_brakesHold (s : State) : s.forceSafe.brakesHold :=
  State.brakesHold_fieldOuts (State.brakesHold_refreshAxes (State.brakesHold_engageAll _))

theorem State.writeChipFault_cause (s : State) (cause region : Nat) :
    (s.writeChipFault cause region).g F.GLB_CHIP_FAULT_CAUSE = cause % 16 := by
  rw [State.writeChipFault, State.g_p_apart _ _ (by decide), State.g_p_apart _ _ (by decide),
    State.g_p_same _ _ (by decide)]
  rfl

theorem State.writeChipFault_region (s : State) (cause region : Nat) :
    (s.writeChipFault cause region).g F.GLB_CHIP_FAULT_REGION = region % 8 := by
  rw [State.writeChipFault, State.g_p_apart _ _ (by decide), State.g_p_same _ _ (by decide)]
  rfl

theorem State.writeChipFault_rd_ne (s : State) (cause region : Nat) {a : Nat} (h : a ≠ R.GLB_CHIP_FAULT) :
    (s.writeChipFault cause region).rd a = s.rd a := by
  rw [State.writeChipFault, State.rd_p_ne _ _ h, State.rd_p_ne _ _ h, State.rd_p_ne _ _ h]

/-- GLB_REGION_STATE and GLB_CHIP_FAULT read as recorded. -/
theorem State.chipFault_rd (s : State) (cause region : Nat) {a : Nat} (ha : a ≤ R.GLB_CHIP_FAULT) :
    (s.chipFault cause region).rd a = (s.writeChipFault cause region).rd a := by
  rw [State.chipFault_eq, State.forceSafe_rd _ ha]
  rfl

theorem State.chipFault_cause (s : State) (cause region : Nat) :
    (s.chipFault cause region).g F.GLB_CHIP_FAULT_CAUSE = cause % 16 :=
  (State.g_of_rd (s.chipFault_rd cause region (Nat.le_refl _))).trans (s.writeChipFault_cause cause region)

theorem State.chipFault_region (s : State) (cause region : Nat) :
    (s.chipFault cause region).g F.GLB_CHIP_FAULT_REGION = region % 8 :=
  (State.g_of_rd (s.chipFault_rd cause region (Nat.le_refl _))).trans (s.writeChipFault_region cause region)

/-- The fields of GLB_REGION_STATE are left alone. -/
theorem State.chipFault_regionState (s : State) (cause region : Nat) {f : Fld} (hf : f.addr = R.GLB_REGION_STATE) :
    (s.chipFault cause region).g f = s.g f := by
  apply State.g_of_rd
  rw [hf, State.chipFault_rd _ _ _ (by decide), State.writeChipFault_rd_ne _ _ _ (by decide)]

/-- Of the clocks and domains, only what asks for the reset changes. -/
theorem State.chipFault_clk (s : State) (cause region : Nat) :
    (s.chipFault cause region).clk = { s.clk with wdogAsk := s.clk.wdogAsk || cause != 6, raise8 := true } := by
  rw [State.chipFault_eq, State.forceSafe_clk]
  rfl

theorem State.chipFault_globalSafe (s : State) (cause region : Nat) :
    (s.chipFault cause region).saf.globalSafe = true := by
  rw [State.chipFault_eq]
  exact State.globalSafe_of_ok (State.forceSafe_ok _) rfl rfl

/-- The global safe state holds every field output off (R439). -/
theorem State.fieldOn_of_globalSafe {s : State} (h : s.saf.globalSafe = true) (j : Nat) : s.fieldOn j = false := by
  simp [State.fieldOn, State.fieldHeldOff, h]

/-- The device is in the global safe state with a cause recorded and the watchdog reset requested, no brake is released and no
field output driven on. -/
def State.SafeForced (t : State) (cause : Nat) : Prop :=
  t.g F.GLB_CHIP_FAULT_CAUSE = cause ∧ t.saf.globalSafe = true ∧ t.clk.wdogAsk = true ∧
    (∀ n : Fin 16, t.is (F.SAF_BRK_STATUS_RELEASED n) = false) ∧ ∀ j : Fin 32, t.fieldOn j = false

/-- Every cause but 6 requests the watchdog reset. -/
theorem State.chipFault_safeForced (s : State) {cause : Nat} (region : Nat) (hc : cause < 8) (h6 : cause ≠ 6) :
    (s.chipFault cause region).SafeForced cause := by
  refine ⟨?_, s.chipFault_globalSafe cause region, ?_, State.forceSafe_brakesHold _, fun j => ?_⟩
  · rw [State.chipFault_cause, Nat.mod_eq_of_lt (by omega)]
  · rw [State.chipFault_clk]
    simp [h6]
  · exact State.fieldOn_of_globalSafe (s.chipFault_globalSafe cause region) j

/-! ### The lock-out of the device with cause 5 -/

/-- The device lock-out is latched. -/
def State.latchDevice (s : State) (cause : Nat) : State :=
  let s := s.cancelUnlock none
  if s.devLocked then s
  else (((s.on F.SAF_LOCK_DEVICE).p F.SAF_LOCK_CAUSE cause).on F.SAF_LOCK_CAUSE_ACTIVE).raiseSt 1600 R.SAF_LOCK

/-- What follows the latch: STO, brakes and axes. -/
def State.lockReaction (s : State) : State :=
  ((s.btAbortIf (fun _ => true) 4).each (List.range 16) fun n s => s.engage n).evalGroups.refreshAxes

theorem State.lockDevice_eq (s : State) (cause : Nat) : s.lockDevice cause = (s.latchDevice cause).lockReaction := rfl

theorem State.lockReaction_ok (s : State) : Ok anyParts (slotMask slotsForceSafe) s s.lockReaction := by
  refine State.refreshAxes_ok rfl rfl (State.evalGroups_ok rfl rfl (State.each_ok rfl rfl ?_ fun _ _ => ?_))
  · exact State.btAbortIf_ok rfl rfl (Ok.refl _ _ s)
  · exact State.engage_ok rfl rfl

theorem State.latchDevice_devLocked (s : State) (cause : Nat) : (s.latchDevice cause).devLocked = true := by
  unfold State.latchDevice
  extract_lets cancelled
  split
  · assumption
  · rw [State.devLocked, State.is_eq, State.g_raiseSt, State.on_eq, State.g_p_apart _ _ (by decide),
      State.g_p_apart _ _ (by decide), State.on_eq, State.g_p_same _ _ (by decide)]
    rfl

theorem State.lockDevice_devLocked (s : State) (cause : Nat) : (s.lockDevice cause).devLocked = true := by
  rw [State.lockDevice_eq]
  exact (State.is_of_ok (State.lockReaction_ok _) slotsForceSafe_offDeviceLock).trans (s.latchDevice_devLocked cause)

theorem State.chipFault_devLocked {s : State} (cause region : Nat) (h : s.devLocked = true) :
    (s.chipFault cause region).devLocked = true := by
  have record : (s.recordChipFault cause region).devLocked = s.devLocked := by
    rw [State.devLocked, State.devLocked, State.is_eq, State.is_eq]
    exact congrArg (· != 0) (State.g_of_rd (s.writeChipFault_rd_ne cause region (by decide)))
  rw [State.chipFault_eq]
  exact (State.is_of_ok (State.forceSafe_ok _) slotsForceSafe_offDeviceLock).trans (record.trans h)

end Sys2Proof.Machine
end

section
/-! The reset of every domain but always-on (R516): it keeps GLB_CHIP_FAULT, records its source and holds the domains. -/

namespace Sys2Proof.Machine

/-- GLB_CHIP_FAULT lies in the always-on domain. -/
theorem State.clearRegs_chipFault (s : State) {d : Nat} (hd : d ≠ 0) :
    (s.clearRegs d).rd R.GLB_CHIP_FAULT = s.rd R.GLB_CHIP_FAULT := by
  rw [State.clearRegs, State.rd_keepRegs, if_pos]
  have : (0 != d) = true := bne_iff_ne.mpr hd.symm
  show ((0 != d) || keptReg R.GLB_CHIP_FAULT) = true
  rw [this, Bool.true_or]

/-- The reset of a domain other than always-on keeps it. -/
theorem State.resetDomain_chipFault (s : State) {d : Nat} (hd : d ≠ 0) :
    (s.resetDomain d).rd R.GLB_CHIP_FAULT = s.rd R.GLB_CHIP_FAULT := by
  have spared {t u : State} (h : Ok anyParts (slotMask slotsReset) t u) :
      u.rd R.GLB_CHIP_FAULT = t.rd R.GLB_CHIP_FAULT := State.rd_of_ok h slotsReset_offChipFault
  unfold State.resetDomain
  extract_lets trimmed cleared dropped shown fallen
  have hcleared : cleared.rd R.GLB_CHIP_FAULT = s.rd R.GLB_CHIP_FAULT := calc
    cleared.rd R.GLB_CHIP_FAULT = ((s.leaveDomain d).clearRegs d).rd R.GLB_CHIP_FAULT :=
      spared (State.clearDomain_ok rfl rfl (Ok.refl _ _ _))
    _ = (s.leaveDomain d).rd R.GLB_CHIP_FAULT := State.clearRegs_chipFault _ hd
    _ = s.rd R.GLB_CHIP_FAULT := spared (State.leaveDomain_ok rfl rfl (Ok.refl _ _ _))
  have hfallen : fallen.rd R.GLB_CHIP_FAULT = s.rd R.GLB_CHIP_FAULT := calc
    fallen.rd R.GLB_CHIP_FAULT = shown.rd R.GLB_CHIP_FAULT := spared (State.unready_ok rfl rfl (Ok.refl _ _ _))
    _ = dropped.rd R.GLB_CHIP_FAULT :=
      State.when_keeps (fun t => t.rd R.GLB_CHIP_FAULT) _ (fun t => State.rd_p_ne t _ (by decide)) _ _
    _ = s.rd R.GLB_CHIP_FAULT := hcleared
  split
  · exact (State.rd_p_ne _ _ (by decide)).trans hfallen
  · exact hfallen

/-- What the rest of the device does once domains are held. -/
def State.afterHold (s : State) : State :=
  (s.refreshAxes.each (List.range 24) fun c s => s.refreshAux c).fieldOuts

theorem State.afterHold_ok (s : State) :
    Ok (partMask [.regs, .bch, .mg, .saf, .chans, .aux, .adc, .fio]) (slotMask slotsForceSafe) s s.afterHold := by
  refine State.fieldOuts_ok rfl rfl (State.each_ok rfl rfl ?_ fun _ _ => ?_)
  · exact State.refreshAxes_ok rfl rfl (Ok.refl _ _ s)
  · exact State.refreshAux_ok rfl rfl

/-- Domains are reset, and enter those that are held. -/
def State.enterReset (s : State) (l : List Nat) : State :=
  let s := s.each l fun d s => s.resetDomain d
  { s with clk := { s.clk with down := joinDomains s.clk.down l } }

theorem State.holdDomains_eq (s : State) (l : List Nat) : s.holdDomains l = (s.enterReset l).afterHold := rfl

theorem State.holdDomains_chipFault (s : State) {l : List Nat} (hl : 0 ∉ l) :
    (s.holdDomains l).rd R.GLB_CHIP_FAULT = s.rd R.GLB_CHIP_FAULT := by
  rw [State.holdDomains_eq, State.rd_of_ok (State.afterHold_ok _) (slotsForceSafe_above (Nat.le_refl _))]
  exact State.each_preserves (P := fun t => t.rd R.GLB_CHIP_FAULT = s.rd R.GLB_CHIP_FAULT)
    (fun d hd t ht => (State.resetDomain_chipFault t fun e => hl (e ▸ hd)).trans ht) rfl

theorem State.holdDomains_down (s : State) {l : List Nat} {d : Nat} (hd : d ∈ l) (h : d < 10) :
    (s.holdDomains l).clk.down.contains d = true := by
  rw [State.holdDomains_eq, State.clk_of_ok (State.afterHold_ok _) rfl]
  simp [State.enterReset, joinDomains, hd, h]

/-! ### The source in RST_CAUSE, and the end of the reset (R520) -/

theorem State.noteReset_last (s : State) (src : Nat) : (s.noteReset src).g F.RST_CAUSE_LAST = src % 16 := by
  unfold State.noteReset
  rw [State.g_journal, State.off_eq, State.g_p_apart _ _ (by decide), State.g_p_same _ _ (by decide)]
  rfl

theorem State.noteReset_src (s : State) {src : Nat} (h : src < 9) :
    testBit ((s.noteReset src).g F.RST_CAUSE_SRC) src = true := by
  unfold State.noteReset
  rw [State.g_journal, State.off_eq, State.g_p_apart _ _ (by decide), State.g_p_apart _ _ (by decide)]
  exact State.testBit_g_setBit s (by decide) h _

theorem State.noteReset_chipFault (s : State) (src : Nat) :
    (s.noteReset src).rd R.GLB_CHIP_FAULT = s.rd R.GLB_CHIP_FAULT := by
  unfold State.noteReset
  rw [State.rd_journal, State.off_eq, State.rd_p_ne _ _ (by decide), State.rd_p_ne _ _ (by decide),
    State.rd_p_ne _ _ (by decide)]

theorem State.noteReset_clk (s : State) (src : Nat) : (s.noteReset src).clk = s.clk := by
  unfold State.noteReset
  simp

/-- The domains are to be released one after the other (R517). -/
def State.queueReleases (s : State) (l : List Nat) : State :=
  { s with clk := { s.clk with releases := joinDomains s.clk.releases l, relTick := none } }

theorem State.resetDomains_eq (s : State) (l : List Nat) : s.resetDomains l = (s.holdDomains l).queueReleases l := rfl

theorem State.queueReleases_rd (s : State) (l : List Nat) (a : Nat) : (s.queueReleases l).rd a = s.rd a := rfl

theorem State.queueReleases_down (s : State) (l : List Nat) : (s.queueReleases l).clk.down = s.clk.down := rfl

/-- The time of a reset is taken. -/
def State.stampReset (s : State) (l : List Nat) : State :=
  { s with clk := { s.clk with raise11 := l.contains 3, resetTick := s.tb.ticks, kickTick := s.tb.ticks } }

theorem State.stampReset_rd (s : State) (l : List Nat) (a : Nat) : (s.stampReset l).rd a = s.rd a := rfl

theorem State.stampReset_down (s : State) (l : List Nat) : (s.stampReset l).clk.down = s.clk.down := rfl

theorem State.endReset_eq (s : State) (src : Nat) (l : List Nat) : s.endReset src l =
    (((s.resetDomains l).stampReset l).noteReset src).when (!l.contains 3) State.resetEvent := rfl

/-- The registers at the end of a reset are those with its source noted, whether or not EV0011 waits. -/
theorem State.endReset_rd (s : State) (src : Nat) (l : List Nat) (a : Nat) :
    (s.endReset src l).rd a = (((s.resetDomains l).stampReset l).noteReset src).rd a := by
  rw [State.endReset_eq]
  exact State.when_keeps (fun t => t.rd a) State.resetEvent (fun _ => rfl) _ _

theorem State.endReset_down (s : State) (src : Nat) (l : List Nat) :
    (s.endReset src l).clk.down = (s.holdDomains l).clk.down := by
  rw [State.endReset_eq, State.when_keeps (fun t => t.clk) State.resetEvent (fun _ => rfl), State.noteReset_clk,
    State.stampReset_down, State.resetDomains_eq, State.queueReleases_down]

/-- The device runs again. -/
def State.runAgain (s : State) : State :=
  { s with clk := { s.clk with power := .run, waking := false, wdogAsk := false } }

theorem State.runAgain_rd (s : State) (a : Nat) : s.runAgain.rd a = s.rd a := rfl

theorem State.runAgain_down (s : State) : s.runAgain.clk.down = s.clk.down := rfl

theorem State.resetAll_eq (s : State) (src : Nat) : s.resetAll src = (s.endReset src allButAlwaysOn).runAgain := rfl

theorem State.resetAll_rd (s : State) (src a : Nat) : (s.resetAll src).rd a =
    (((s.resetDomains allButAlwaysOn).stampReset allButAlwaysOn).noteReset src).rd a := by
  rw [State.resetAll_eq, State.runAgain_rd, State.endReset_rd]

theorem State.resetAll_chipFault (s : State) (src : Nat) :
    (s.resetAll src).rd R.GLB_CHIP_FAULT = s.rd R.GLB_CHIP_FAULT := by
  rw [State.resetAll_rd, State.noteReset_chipFault, State.stampReset_rd, State.resetDomains_eq,
    State.queueReleases_rd, State.holdDomains_chipFault s (by decide)]

theorem State.resetAll_last (s : State) {src : Nat} (h : src < 16) : (s.resetAll src).g F.RST_CAUSE_LAST = src := by
  rw [State.g_of_rd (s.resetAll_rd src _), State.noteReset_last, Nat.mod_eq_of_lt h]

theorem State.resetAll_src (s : State) {src : Nat} (h : src < 9) :
    testBit ((s.resetAll src).g F.RST_CAUSE_SRC) src = true := by
  rw [State.g_of_rd (s.resetAll_rd src _), State.noteReset_src _ h]

theorem State.resetAll_down (s : State) (src : Nat) (d : Fin 9) :
    (s.resetAll src).clk.down.contains (d.val + 1) = true := by
  rw [State.resetAll_eq, State.runAgain_down, State.endReset_down,
    State.holdDomains_down s (by revert d; decide) (by omega)]

end Sys2Proof.Machine
end

section
/-! A fault of the memory region escalates to the chip (R25, R32), and the commands of chip-level faults. -/

namespace Sys2Proof.Machine

/-- The copies that end with the isolation of the memory region write completions, and no region's or domain's state. -/
theorem State.copiesIsolated_frame (s : State) :
    Ok (partMask [.regs, .out, .hif, .ipm]) (slotMask slotsFinishDesc) s s.copiesIsolated :=
  State.copiesIsolated_ok rfl rfl (Ok.refl _ _ s)

theorem State.copiesIsolated_regionState (s : State) :
    s.copiesIsolated.rd R.GLB_REGION_STATE = s.rd R.GLB_REGION_STATE :=
  State.rd_of_ok s.copiesIsolated_frame slotsFinishDesc_offRegionState

theorem State.copiesIsolated_clk (s : State) : s.copiesIsolated.clk = s.clk := State.clk_of_ok s.copiesIsolated_frame rfl

/-- A region fault is reported. -/
def State.reportRegion (s : State) (r : Nat) : State :=
  s.p F.GLB_REGION_STATE_REGION_FAULT (setBit (s.g F.GLB_REGION_STATE_REGION_FAULT) r true)

theorem State.reportRegion_isolated (s : State) (r k : Nat) : (s.reportRegion r).isolated k = s.isolated k := by
  rw [State.isolated, State.isolated, State.reportRegion, State.g_p_apart _ _ (by decide)]

/-- The memory region is isolated, and its copies complete. -/
def State.isolateMemory (s : State) : State :=
  ((s.p F.GLB_REGION_STATE_ISOLATED (setBit (s.g F.GLB_REGION_STATE_ISOLATED) regMemory true)).raiseSt (1 + regMemory)
    R.GLB_REGION_STATE).copiesIsolated

theorem State.isolateMemory_clk (s : State) : s.isolateMemory.clk = s.clk := by
  rw [State.isolateMemory, State.copiesIsolated_clk, State.raiseSt_clk, State.p_clk]

/-- The fields of GLB_REGION_STATE after it. -/
theorem State.isolateMemory_g (s : State) {f : Fld} (hf : f.addr = R.GLB_REGION_STATE) :
    s.isolateMemory.g f =
      (s.p F.GLB_REGION_STATE_ISOLATED (setBit (s.g F.GLB_REGION_STATE_ISOLATED) regMemory true)).g f := by
  apply State.g_of_rd
  rw [hf, State.isolateMemory, State.copiesIsolated_regionState, State.rd_raiseSt]

/-- The fault of the memory region, not isolated: outside the global safe state it is isolated, and always it escalates. -/
theorem State.regionFault_memory_eq {s : State} (h : s.isolated regMemory = false) :
    s.regionFault regMemory = (if s.saf.globalSafe = true then s.reportRegion regMemory
      else (s.reportRegion regMemory).isolateMemory).chipFault 4 regMemory := by
  have notIsolated : ¬ (s.reportRegion regMemory).isolated regMemory = true := by
    rw [State.reportRegion_isolated]
    exact Bool.eq_false_iff.mp h
  unfold State.regionFault
  rw [show s.p F.GLB_REGION_STATE_REGION_FAULT (setBit (s.g F.GLB_REGION_STATE_REGION_FAULT) regMemory true) =
    s.reportRegion regMemory from rfl]
  extract_lets isolated
  rw [if_neg notIsolated, show (s.reportRegion regMemory).saf = s.saf from rfl]
  split
  · rfl
  · rfl

/-- A fault of the memory region, not isolated, escalates from a state in which it is reported and, outside the global safe
state, isolated. -/
theorem State.regionFault_memory {s : State} (h : s.isolated regMemory = false) :
    ∃ u : State, s.regionFault regMemory = u.chipFault 4 regMemory ∧ u.clk = s.clk ∧
      testBit (u.g F.GLB_REGION_STATE_REGION_FAULT) regMemory = true ∧
      (s.saf.globalSafe = false → u.isolated regMemory = true) := by
  have reported : testBit ((s.reportRegion regMemory).g F.GLB_REGION_STATE_REGION_FAULT) regMemory = true :=
    State.testBit_g_setBit s (by decide) (by decide) _
  refine ⟨_, State.regionFault_memory_eq h, ?_⟩
  split
  · rename_i safe
    exact ⟨rfl, reported, fun e => absurd safe (Bool.eq_false_iff.mp e)⟩
  · refine ⟨State.isolateMemory_clk _, ?_, fun _ => ?_⟩
    · rw [State.isolateMemory_g _ rfl, State.g_p_apart _ _ (by decide)]
      exact reported
    · rw [State.isolated, State.isolateMemory_g _ rfl]
      exact State.testBit_g_setBit _ (by decide) (by decide) _

/-- The state in which the memory PLL is awaited no more. -/
def State.endMemWait (s : State) : State := { s with clk := { s.clk with memWait := false } }

/-- MEMPLL_TIMEOUT once the wait of 1 ms is over (R500). -/
theorem exec_mempllTimeout_due {s : State} (hw : s.clk.memWait = true) (ht : s.clk.memTick + 250000 ≤ s.tb.ticks) :
    exec .mempllTimeout s = .next (s.endMemWait.regionFault regMemory) := by
  show execMempllTimeout s = _
  unfold execMempllTimeout
  rw [if_pos]
  · rfl
  · exact Bool.and_eq_true_iff.mpr ⟨hw, decide_eq_true ht⟩

/-- CHIP_LEVEL_FAULT of a cause other than 0 and 6: the fault of that cause, after the device lock-out for cause 5. -/
theorem exec_chipLevelFault (s : State) {cause : Fin 8} (r : Fin 7) (h0 : cause.val ≠ 0) (h6 : cause.val ≠ 6) :
    exec (.chipLevelFault cause r) s = .next ((if cause.val = 5 then s.lockDevice 8 else s).chipFault cause
      (if cause.val = 3 then r else if cause.val = 4 then regMemory else if cause.val = 5 then regSafety else 0)) := by
  show execChipLevelFault cause r s = _
  unfold execChipLevelFault
  revert h0 h6
  match cause with
  | 0 => exact fun h0 => absurd rfl h0
  | 1 | 2 | 3 | 4 | 5 | 7 => exact fun _ _ => rfl
  | 6 => exact fun _ h6 => absurd rfl h6

/-- Settles O2: every command ends in `State.chipFault`, whose record and reaction are the lemmas above; cause 6 goes on with
the reset of the domains, which keeps the record, and MEMPLL_TIMEOUT comes to it by the fault of the memory region. -/
theorem chipLevelFaultsForceTheSafeState : Obligations.ChipLevelFaultsForceTheSafeState := by
  unfold Obligations.ChipLevelFaultsForceTheSafeState
  refine ⟨fun s r => ?_, fun s => ?_, fun s cause r h0 h6 => ?_, fun s cause r lo hi => ?_, fun s r => ?_, fun s r => ?_,
    fun s hw ht hi => ?_, fun s hw ht hc => ?_⟩
  · obtain ⟨cause, safe, reset, brakes, outputs⟩ := s.chipFault_safeForced (cause := 3) r (by decide) (by decide)
    refine ⟨_, rfl, cause, safe, reset, brakes, outputs, ?_⟩
    rw [State.chipFault_region, Nat.mod_eq_of_lt (by omega)]
  · exact ⟨_, rfl, s.chipFault_safeForced 0 (by decide) (by decide)⟩
  · exact ⟨_, exec_chipLevelFault s r h0 h6, State.chipFault_safeForced _ _ cause.isLt h6⟩
  · refine ⟨_, exec_chipLevelFault s r (by omega) (by omega), ?_⟩
    rw [State.chipFault_region]
    obtain h | h | h : cause.val = 3 ∨ cause.val = 4 ∨ cause.val = 5 := by omega
    · rw [if_pos h, if_pos h, Nat.mod_eq_of_lt (by omega)]
    · rw [h]
      rfl
    · rw [h]
      rfl
  · exact ⟨_, rfl, State.chipFault_devLocked 5 regSafety (s.lockDevice_devLocked 8)⟩
  · let u := s.chipFault 6 0
    exact ⟨_, rfl, (State.g_of_rd (u.resetAll_chipFault 4)).trans (s.chipFault_cause 6 0), u.resetAll_last (by decide),
      u.resetAll_src (by decide), u.resetAll_down 4⟩
  · obtain ⟨u, eq, clk, reported, -⟩ := State.regionFault_memory (s := s.endMemWait) hi
    refine ⟨_, exec_mempllTimeout_due hw ht, ?_⟩
    rw [eq, State.chipFault_clk, clk, State.chipFault_cause, State.chipFault_globalSafe, State.chipFault_regionState _ _ _ rfl]
    exact ⟨rfl, rfl, rfl, reported⟩
  · obtain ⟨hi, safe⟩ := Bool.or_eq_false_iff.mp hc
    obtain ⟨u, eq, -, -, isolated⟩ := State.regionFault_memory (s := s.endMemWait) hi
    refine ⟨_, exec_mempllTimeout_due hw ht, ?_⟩
    rw [eq, State.isolated, State.chipFault_regionState _ _ _ rfl]
    exact isolated safe

end Sys2Proof.Machine
end

section
/-! What one-bit fields and the tables of the units read after a change. -/

namespace Sys2Proof

/-- Is a field one bit of its word? -/
def Fld.oneBit (f : Fld) : Bool := f.w == 1 && decide (f.lo < 32)

/-- Have two fields of one register no bit in common? -/
def Fld.bitsApart (f g : Fld) : Bool := decide (g.lo + g.w ≤ f.lo) || decide (f.lo + f.w ≤ g.lo)

theorem Fld.apart_of_bitsApart {f g : Fld} (h : f.bitsApart g = true) :
    g.addr ≠ f.addr ∨ g.lo + g.w ≤ f.lo ∨ f.lo + f.w ≤ g.lo := by
  rw [Fld.bitsApart, Bool.or_eq_true, decide_eq_true_eq, decide_eq_true_eq] at h
  exact .inr h

theorem getBits_one (v : Word) (lo : Nat) : (getBits v lo 1 == 1) = v.getLsbD lo := by
  rw [getBits, BitVec.getLsbD, Nat.testBit_eq_decide_div_mod_eq, Nat.pow_one, Bool.beq_eq_decide_eq]

namespace Machine

/-- A one-bit field is its bit of the word. -/
theorem State.is_eq_bit (s : State) {f : Fld} (h : f.oneBit = true) : s.is f = (s.rd f.addr).getLsbD f.lo := by
  obtain ⟨w, -⟩ := Bool.and_eq_true_iff.mp h
  rw [State.is_eq, State.g, beq_iff_eq.mp w, ← getBits_one]
  have := getBits_lt (s.rd f.addr) f.lo 1
  obtain e | e : getBits (s.rd f.addr) f.lo 1 = 0 ∨ getBits (s.rd f.addr) f.lo 1 = 1 := by omega
  all_goals rw [e]; rfl

theorem State.is_p_same (s : State) {f : Fld} (h : f.oneBit = true) (x : Nat) : (s.p f x).is f = (x % 2 != 0) := by
  obtain ⟨w, lo⟩ := Bool.and_eq_true_iff.mp h
  have w := beq_iff_eq.mp w
  have lo := of_decide_eq_true lo
  rw [State.is_eq, State.g_p_same s x (by omega), w, Nat.pow_one]

theorem State.is_on_same (s : State) {f : Fld} (h : f.oneBit = true) : (s.on f).is f = true := s.is_p_same h 1

theorem State.is_off_same (s : State) {f : Fld} (h : f.oneBit = true) : (s.off f).is f = false := s.is_p_same h 0

theorem State.is_pb_same (s : State) {f : Fld} (h : f.oneBit = true) (b : Bool) : (s.pb f b).is f = b := by
  cases b
  · exact s.is_p_same h 0
  · exact s.is_p_same h 1

/-- Another field of the register reads as before. -/
theorem State.g_p_bitsApart (s : State) {f g : Fld} (h : f.bitsApart g = true) (x : Nat) : (s.p f x).g g = s.g g :=
  s.g_p_apart x (Fld.apart_of_bitsApart h)

theorem State.is_p_bitsApart (s : State) {f g : Fld} (h : f.bitsApart g = true) (x : Nat) : (s.p f x).is g = s.is g :=
  s.is_p_apart x (Fld.apart_of_bitsApart h)

@[simp] theorem State.pwmOf_setPwm (s : State) (n : Nat) (x : PwmSt) : (s.setPwm n x).pwmOf n = x := tabGet_set_same _ _ _

@[simp] theorem State.bchOf_setBch (s : State) (g : Nat) (x : BchSt) : (s.setBch g x).bchOf g = x := tabGet_set_same _ _ _

@[simp] theorem State.pwmOf_p (s : State) (f : Fld) (x n : Nat) : (s.p f x).pwmOf n = s.pwmOf n := rfl

@[simp] theorem State.bchOf_p (s : State) (f : Fld) (x g : Nat) : (s.p f x).bchOf g = s.bchOf g := rfl

@[simp] theorem State.is_raiseSt (s : State) (k a : Nat) (f : Fld) : (s.raiseSt k a).is f = s.is f := rfl

@[simp] theorem State.is_setBch (s : State) (g : Nat) (x : BchSt) (f : Fld) : (s.setBch g x).is f = s.is f := rfl

end Machine

end Sys2Proof
end

section
/-! The brake choppers (R111, R112). -/

namespace Sys2Proof.Machine

/-- The chopper output takes the level asked for (R111). -/
theorem State.setChop_on (s : State) (g : Nat) (v : Bool) : (s.setChop g v).is (F.GLB_BCH_STATUS_ON g) = v := by
  unfold State.setChop
  split
  · rename_i same
    exact beq_iff_eq.mp same
  · exact State.is_pb_same _ rfl v

/-- No change of the output waits once it has been set. -/
theorem State.setChop_wait (s : State) (g : Nat) (v : Bool) : ((s.setChop g v).bchOf g).wait = none := by
  unfold State.setChop
  split <;> simp [State.pb_eq]

/-- BCH_WINDOW_START in another window than the one counted. -/
theorem exec_bchWindowStart_new {s : State} {g : Fin 4} (h : (s.bchOf g).win ≠ s.chopWindow) :
    ∃ b : BchSt, b.acc = 0 ∧ b.win = s.chopWindow ∧ exec (.bchWindowStart g) s =
      .next (((s.p (F.GLB_BCH_STATUS_ON_TIME g) (min (s.chopAcc g * 4 / 1000) 65535)).setBch g b).off
        (F.GLB_BCH_STATUS_LIMIT g)) := by
  show ∃ b : BchSt, _ ∧ _ ∧ execBchWindowStart g s = _
  rw [execBchWindowStart, if_neg (by simpa using h)]
  exact ⟨_, rfl, rfl, rfl⟩

/-- BCH_DUTY_LIMIT on a chopper that is on with its duty spent. -/
theorem exec_bchDutyLimit_spent {s : State} {g : Fin 4} (on : s.is (F.GLB_BCH_STATUS_ON g) = true)
    (spent : s.dutySpent g = true) : exec (.bchDutyLimit g) s = .next ((((s.setChop g false).on
      (F.GLB_BCH_STATUS_LIMIT g)).on (F.GLB_BCH_STATUS_LIMIT_SEEN g)).raiseSt (evGroup g + 1) (R.GLB_BCH_STATUS g)) := by
  show execBchDutyLimit g s = _
  rw [execBchDutyLimit, if_pos (by rw [on, spent]; rfl)]

/-- BCH_MIN_TIME_END once MIN_TIME has passed: the change that waited takes effect where nothing holds the chopper off. -/
theorem exec_bchMinTimeEnd_free {s : State} {g : Fin 4} {v : Bool} (wait : (s.bchOf g).wait = some v)
    (free : s.chopFree g = true) (held : (v && (s.chopOff g || s.is (F.GLB_BCH_STATUS_LIMIT g))) = false) :
    exec (.bchMinTimeEnd g) s = .next (s.setChop g v) := by
  show execBchMinTimeEnd g s = _
  simp [execBchMinTimeEnd, wait, free, held]

/-- Settles O10: each event comes down to one update of the chopper's status, whose flags lie apart. -/
theorem brakeChoppersFollowTheirRules : Obligations.BrakeChoppersFollowTheirRules := by
  unfold Obligations.BrakeChoppersFollowTheirRules
  refine ⟨fun s g window => ?_, fun s g on spent => ?_, fun s g wait free => ?_, fun s g v wait free off limit => ?_⟩
  · obtain ⟨b, acc, win, run⟩ := exec_bchWindowStart_new window
    refine ⟨_, run, ?_, State.is_off_same _ rfl, ?_, ?_⟩
    · rw [State.off_eq, State.g_p_bitsApart _ rfl, State.g_setBch, State.g_p_same _ _ (by simp [F.GLB_BCH_STATUS_ON_TIME])]
      exact Nat.mod_eq_of_lt (Nat.lt_succ_of_le (Nat.min_le_right _ _))
    · rw [State.off_eq, State.bchOf_p, State.bchOf_setBch, acc]
    · rw [State.off_eq, State.bchOf_p, State.bchOf_setBch, win]
  · refine ⟨_, exec_bchDutyLimit_spent on spent, ?_, ?_, ?_⟩
    · rw [State.is_raiseSt, State.on_eq, State.is_p_bitsApart _ rfl, State.on_eq, State.is_p_bitsApart _ rfl,
        State.setChop_on]
    · rw [State.is_raiseSt, State.on_eq, State.is_p_bitsApart _ rfl, State.is_on_same _ rfl]
    · rw [State.is_raiseSt, State.is_on_same _ rfl]
  · exact ⟨_, exec_bchMinTimeEnd_free wait free rfl, s.setChop_on g false, s.setChop_wait g false⟩
  · exact ⟨_, exec_bchMinTimeEnd_free wait free (by simp [off, limit]), s.setChop_on g v, s.setChop_wait g v⟩

end Sys2Proof.Machine
end

section
/-! Which fields of a PWM unit the operations around it leave alone. -/

namespace Sys2Proof.Machine

/-- No slot of the list covers a bit of the field. -/
def spares (l : List Slot) (f : Fld) : Prop := ∀ x ∈ l, ∀ i, f.lo ≤ i → i < f.lo + f.w → ¬ x.has f.addr i

theorem spares_append {l m : List Slot} {f : Fld} (h : spares l f) (g : spares m f) : spares (l ++ m) f :=
  List.forall_mem_append.mpr ⟨h, g⟩

/-- A field that the listed slots spare reads the same. -/
theorem State.g_of_ok {E : Nat} {l : List Slot} {s t : State} {f : Fld} (h : Ok E (slotMask l) s t) (hf : spares l f) :
    t.g f = s.g f := by
  apply Nat.eq_of_testBit_eq
  intro i
  rw [State.g, State.g, getBits_testBit, getBits_testBit]
  by_cases hi : i < f.w
  · rw [sameBits_of_ok h (sub_refl _) f.addr (f.lo + i) fun x hx => hf x hx _ (by omega) (by omega)]
  · simp [hi]

theorem State.is_of_spares {E : Nat} {l : List Slot} {s t : State} {f : Fld} (h : Ok E (slotMask l) s t)
    (hf : spares l f) : t.is f = s.is f := by
  rw [State.is_eq, State.is_eq, State.g_of_ok h hf]

/-- The units beside their registers are the same where the mask does not have their part. -/
theorem State.pwmOf_of_ok {E W : Nat} {s t : State} (h : Ok E W s t) (e : E.testBit Part.pwm.idx = false) (n : Nat) :
    t.pwmOf n = s.pwmOf n := by
  have same : t.pwm = s.pwm := h.2.2.1 .pwm e
  rw [State.pwmOf, State.pwmOf, same]

/-- The safety path is the same where the mask does not have its part. -/
theorem State.saf_of_ok {E W : Nat} {s t : State} (h : Ok E W s t) (e : E.testBit Part.saf.idx = false) : t.saf = s.saf :=
  h.2.2.1 .saf e

/-- Fields of arrays above the PWM units that their starts, stops, trips and enables may write. -/
def slotsArraysAbovePwm : List Slot :=
  [.f_AUX_BL_DUTY_DUTY, .f_AUX_BL_STATUS_DIRN, .f_AUX_BL_STATUS_I_LIMITED, .f_AUX_BL_STATUS_PHASE,
    .f_AUX_BL_STATUS_SECTOR, .f_AUX_BL_STATUS_ZC_RUN, .f_AUX_CL_ADC_COUNT_DROPPED, .f_AUX_CL_ADC_COUNT_MAX_WAIT,
    .f_AUX_CL_ADC_STATUS_BUSY, .f_AUX_STP_COUNT_ADAPT_SKIPPED, .f_AUX_STP_COUNT_DROPPED, .f_AUX_STP_OFS_OFS_A,
    .f_AUX_STP_OFS_OFS_B, .f_AE_STATUS_REF_USED, .f_AE_STATUS_RUNNING, .f_FXG_AX_STATUS_CAUSE, .f_FXG_AX_STATUS_HOLD,
    .f_FXG_AX_STATUS_TRIPS, .f_LSH_FOL_STATUS_STATE, .f_LSP_CH_STATUS_HOMED, .f_LSP_CH_STATUS_HOME_FAIL,
    .f_LSP_CH_STATUS_HOME_REASON, .f_LSP_CH_STATUS_QLEVEL, .f_LSP_CH_STATUS_STATE, .f_SAF_BRK_STATUS_RELEASED]

/-- Fields of single registers above the PWM units that they may write. -/
def slotsSingleAbovePwm : List Slot :=
  [.f_LSP_EN_STATUS_BUSY, .f_SAF_BT_RESULT_AXIS, .f_SAF_BT_RESULT_MOVED, .f_SAF_BT_RESULT_REASON,
    .f_SAF_BT_RESULT_RESULT, .f_SAF_BT_RESULT_STATE, .f_SAF_LOCK_AXIS, .f_SAF_LOCK_UNLOCK_WAIT]

/-- All that they may write above the PWM units. -/
def slotsAbovePwm : List Slot :=
  slotsArraysAbovePwm ++ slotsSingleAbovePwm ++ [.r_AUX_VEL, .r_LSP_EN_REQ0, .r_LSP_EN_REQ1, .w_axisWord]

theorem spares_abovePwm {f : Fld} (h : f.addr < 0x500000) : spares slotsAbovePwm f := by
  have above {b : Nat} (k n : Nat) (hb : 0x500000 ≤ b) : f.addr ≠ b + n * k :=
    offset_ne_array (.inl (Nat.lt_of_lt_of_le h hb))
  have single {b : Nat} (hb : 0x500000 ≤ b) : f.addr ≠ b := Nat.ne_of_lt (Nat.lt_of_lt_of_le h hb)
  refine spares_append (spares_append ?_ ?_) ?_
  · simp only [spares, slotsArraysAbovePwm, List.forall_mem_cons, List.not_mem_nil, false_imp_iff, implies_true, and_true]
    and_intros
    all_goals exact fun _ _ _ ⟨n, e, _⟩ => above _ n (by decide) e
  · simp only [spares, slotsSingleAbovePwm, List.forall_mem_cons, List.not_mem_nil, false_imp_iff, implies_true, and_true]
    and_intros
    all_goals exact fun _ _ _ ⟨e, _⟩ => single (by decide) e
  · simp only [spares, List.forall_mem_cons, List.not_mem_nil, false_imp_iff, implies_true, and_true]
    refine ⟨?_, ?_, ?_, ?_⟩
    · exact fun _ _ _ ⟨n, e⟩ => above _ n (by decide) e
    · exact fun _ _ _ e => single (b := R.LSP_EN_REQ0) (by decide) e
    · exact fun _ _ _ e => single (b := R.LSP_EN_REQ1) (by decide) e
    · rintro _ - - ⟨n, m, e⟩
      simp only [axisWord] at e
      omega

theorem pwmCtl_below {n : Nat} (hn : n < 16) : R.AX_PWM_CTL n < 0x500000 := by
  simp only [R.AX_PWM_CTL]
  omega

theorem pwmStatus_below {n : Nat} (hn : n < 16) : R.AX_PWM_STATUS n < 0x500000 := by
  simp only [R.AX_PWM_STATUS]
  omega

theorem pwmStatus_ne_pwmCtl (n m : Nat) : R.AX_PWM_STATUS n ≠ R.AX_PWM_CTL m := by
  simp only [R.AX_PWM_STATUS, R.AX_PWM_CTL]
  omega

theorem pwmStatus_ne_pwmCfg (n m : Nat) : R.AX_PWM_STATUS n ≠ R.AX_PWM_CFG m := by
  simp only [R.AX_PWM_STATUS, R.AX_PWM_CFG]
  omega

/-- Fields that the refresh of an axis and its output enable may write. -/
def slotsDrive : List Slot :=
  slotsAbovePwm ++ [.f_AX_PWM_CTL_OUT_EN, .f_AX_PWM_STATUS_FXG_OFF, .f_AX_PWM_STATUS_OUT_ACTIVE, .f_AX_PWM_STATUS_STO_GATED]

/-- Fields that the start of a unit may write, but STATE and ALIGN_SLEW. -/
def slotsStart : List Slot :=
  slotsDrive ++ [.f_AX_PWM_STATUS_FAULT, .f_AX_PWM_STATUS_DT_FALLBACK, .f_AX_PWM_STATUS_HALL_INVALID,
    .f_AX_PWM_STATUS_PERIOD_RANGE, .w_dtField]

/-- The fields of a unit's control, state and configuration that follow only its own registers' writes. -/
def unitFields (n : Nat) : List Fld :=
  [F.AX_PWM_CTL_ARM n, F.AX_PWM_STATUS_STATE n, F.AX_PWM_CFG_CNT_MODE n, F.AX_PWM_CFG_LOAD n, F.AX_PWM_CFG_DL_GROUP n,
    F.AX_PWM_CFG_ADAPT_EN n]

/-- The flags that hold a unit's output enable. -/
def faultFields (n : Nat) : List Fld := [F.AX_PWM_STATUS_FAULT n, F.AX_PWM_STATUS_LAUNCH_OFF n]

/-- Two fields of arrays with one member for each unit, those of unit 0 at `b` and `c`: have they no bit in common,
whichever the units? -/
def unitsApart (f g : Fld) (b c : Nat) : Bool := b % 0x10000 != c % 0x10000 || f.bitsApart g

theorem not_inFld_of_unitsApart {f g : Fld} {b c n m i : Nat} (hf : f.addr = b + n * 0x10000)
    (hg : g.addr = c + m * 0x10000) (h : unitsApart f g b c = true) (lo : f.lo ≤ i) (hi : i < f.lo + f.w) :
    ¬ inFld g f.addr i := by
  rintro ⟨e, lo', hi'⟩
  rw [unitsApart, Bool.or_eq_true, bne_iff_ne, Fld.bitsApart, Bool.or_eq_true, decide_eq_true_eq, decide_eq_true_eq] at h
  omega

/-- The dead times of a unit are the six fields of three registers. -/
theorem dtField_mem (n d : Nat) : dtField n d ∈ [F.AX_PWM_DT_U_DT_RISE n, F.AX_PWM_DT_U_DT_FALL n,
    F.AX_PWM_DT_V_DT_RISE n, F.AX_PWM_DT_V_DT_FALL n, F.AX_PWM_DT_W_DT_RISE n, F.AX_PWM_DT_W_DT_FALL n] := by
  unfold dtField
  rw [List.getD_eq_getElem?_getD]
  cases h : ([F.AX_PWM_DT_U_DT_RISE n, F.AX_PWM_DT_U_DT_FALL n, F.AX_PWM_DT_V_DT_RISE n, F.AX_PWM_DT_V_DT_FALL n,
    F.AX_PWM_DT_W_DT_RISE n, F.AX_PWM_DT_W_DT_FALL n])[d]? with
  | none => exact List.mem_cons_self
  | some f => exact List.mem_of_getElem? h

theorem slotsDrive_spares {n : Nat} (hn : n < 16) : ∀ f ∈ unitFields n ++ faultFields n, spares slotsDrive f := by
  intro f hf
  simp only [unitFields, faultFields, List.cons_append, List.nil_append, List.mem_cons, List.not_mem_nil, or_false] at hf
  refine spares_append (spares_abovePwm ?_) ?_
  · rcases hf with rfl | rfl | rfl | rfl | rfl | rfl | rfl | rfl
    all_goals exact Nat.lt_of_le_of_lt (Nat.add_le_add_left (Nat.mul_le_mul_right _ (Nat.le_of_lt_succ hn)) _) (by decide)
  · simp only [spares, List.forall_mem_cons, List.not_mem_nil, false_imp_iff, implies_true, and_true]
    rcases hf with rfl | rfl | rfl | rfl | rfl | rfl | rfl | rfl
    all_goals
      and_intros
      all_goals exact fun _ lo hi ⟨_, h⟩ => not_inFld_of_unitsApart rfl rfl rfl lo hi h

theorem slotsStart_spares {n : Nat} (hn : n < 16) : ∀ f ∈ unitFields n, spares slotsStart f := by
  intro f hf
  refine spares_append (slotsDrive_spares hn f (List.mem_append_left _ hf)) ?_
  simp only [unitFields, List.mem_cons, List.not_mem_nil, or_false] at hf
  simp only [spares, List.forall_mem_cons, List.not_mem_nil, false_imp_iff, implies_true, and_true]
  rcases hf with rfl | rfl | rfl | rfl | rfl | rfl
  all_goals
    refine ⟨?_, ?_, ?_, ?_, fun _ lo hi ⟨m, d, h⟩ => ?_⟩
    iterate 4 exact fun _ lo hi ⟨_, h⟩ => not_inFld_of_unitsApart rfl rfl rfl lo hi h
    have := dtField_mem m d
    simp only [List.mem_cons, List.not_mem_nil, or_false] at this
    rcases this with e | e | e | e | e | e
    all_goals
      rw [e] at h
      exact not_inFld_of_unitsApart rfl rfl rfl lo hi h

end Sys2Proof.Machine
end

section
/-! What holds a unit's output enable, and what its refresh keeps (R106 to R109). -/

namespace Sys2Proof.Machine

/-- Foxglove's hold is decided by the lock-outs, the isolated regions and the global safe state (R109). -/
theorem State.fxgHolds_congr {s t : State} (lock : t.rd R.SAF_LOCK = s.rd R.SAF_LOCK)
    (region : t.rd R.GLB_REGION_STATE = s.rd R.GLB_REGION_STATE) (safe : t.saf.globalSafe = s.saf.globalSafe) (n : Nat) :
    t.fxgHolds n = s.fxgHolds n := by
  rw [State.fxgHolds, State.fxgHolds, State.axLocked, State.axLocked, State.devLocked, State.devLocked, State.isolated,
    State.isolated, State.is_eq, State.is_eq, State.g_of_rd (f := F.SAF_LOCK_AXIS) lock,
    State.g_of_rd (f := F.SAF_LOCK_DEVICE) lock, State.g_of_rd (f := F.GLB_REGION_STATE_ISOLATED) region, safe]

/-- A write to a unit's own registers does not change Foxglove's hold. -/
theorem State.fxgHolds_p (s : State) {f : Fld} (x n : Nat) (lo : 0x400000 ≤ f.addr) (hi : f.addr < 0x1100000) :
    (s.p f x).fxgHolds n = s.fxgHolds n := by
  refine State.fxgHolds_congr (s.rd_p_ne x ?_) (s.rd_p_ne x ?_) rfl n
  · simp only [R.SAF_LOCK]
    omega
  · simp only [R.GLB_REGION_STATE]
    omega

/-- What holds the enable lies outside AXn_PWM_CTL. -/
theorem State.enableHeld_congr {s t : State} {n : Nat} (hn : n < 16) (rd : ∀ a, a ≠ R.AX_PWM_CTL n → t.rd a = s.rd a)
    (safe : t.saf.globalSafe = s.saf.globalSafe) (ae : t.ae = s.ae) : t.enableHeld n = s.enableHeld n := by
  have fault := State.g_of_rd (f := F.AX_PWM_STATUS_FAULT n)
    (rd _ (pwmStatus_ne_pwmCtl n n))
  have launchOff := State.g_of_rd (f := F.AX_PWM_STATUS_LAUNCH_OFF n)
    (rd _ (pwmStatus_ne_pwmCtl n n))
  have feedback := State.g_of_rd (f := F.AX_FB_STATUS_FAULT n)
    (rd (R.AX_FB_STATUS n) (by simp only [R.AX_FB_STATUS, R.AX_PWM_CTL]; omega))
  have foxglove : t.fxgHolds n = s.fxgHolds n := by
    refine State.fxgHolds_congr (rd _ ?_) (rd _ ?_) safe n
    · simp only [R.SAF_LOCK, R.AX_PWM_CTL]
      omega
    · simp only [R.GLB_REGION_STATE, R.AX_PWM_CTL]
      omega
  rw [State.enableHeld, State.enableHeld, State.is_eq, State.is_eq, State.is_eq, State.is_eq, State.is_eq, State.is_eq,
    State.slotHolds, State.slotHolds, State.aeOf, State.aeOf, fault, launchOff, feedback, foxglove, ae]

/-- The refresh of an axis. -/
theorem State.refreshAxis_frame (s : State) (n : Nat) :
    Ok (partMask [.regs, .mg, .saf]) (slotMask slotsDrive) s (s.refreshAxis n) :=
  State.refreshAxis_ok rfl rfl (Ok.refl _ _ s)

/-- An axis that Foxglove does not hold keeps its output enable. -/
theorem State.refreshAxis_outEn {s : State} {n : Nat} (hn : n < 16) (free : s.fxgHolds n = false)
    (on : s.is (F.AX_PWM_CTL_OUT_EN n) = true) : (s.refreshAxis n).is (F.AX_PWM_CTL_OUT_EN n) = true := by
  have status : R.AX_PWM_CTL n ≠ R.AX_PWM_STATUS n := (pwmStatus_ne_pwmCtl n n).symm
  have place : 0x400000 ≤ R.AX_PWM_STATUS n ∧ R.AX_PWM_STATUS n < 0x1100000 := by simp only [R.AX_PWM_STATUS]; omega
  unfold State.refreshAxis
  extract_lets gated held act fell shown engaged
  have gatedFree : gated.fxgHolds n = false := by
    simp only [gated, State.pb_eq]
    rw [State.fxgHolds_p _ _ _ place.1 place.2, State.fxgHolds_p _ _ _ place.1 place.2, free]
  have heldEq : held = gated := by
    simp only [held, gatedFree, State.when_false]
  have shownOn : shown.is (F.AX_PWM_CTL_OUT_EN n) = true := by
    simp only [shown, heldEq, gated, State.pb_eq]
    rw [State.is_p_apart _ _ (.inl status), State.is_p_apart _ _ (.inl status), State.is_p_apart _ _ (.inl status), on]
  have rest : Ok anyParts (slotMask slotsAbovePwm) shown
      (engaged.when fell fun s => s.btAbortIf (fun a => a == n) 2) :=
    State.when_ok rfl rfl (State.when_ok rfl rfl (Ok.refl _ _ _) fun _ => State.engage_ok rfl rfl)
      fun _ => State.btAbortIf_ok rfl rfl
  rw [State.is_of_spares rest (spares_abovePwm (pwmCtl_below hn)), shownOn]

/-- A channel whose output enable is set resumes its feedback and leaves the staggered enable (R164, R569). -/
def State.resumeAxis (s : State) (n : Nat) : State := (s.fbResume n).leaveStagger n

theorem State.resumeAxis_frame (s : State) (n : Nat) : Ok (partMask [.regs, .fb])
    (slotMask [.r_LSP_EN_REQ0, .r_LSP_EN_REQ1, .f_LSP_EN_STATUS_BUSY]) s (s.resumeAxis n) :=
  State.leaveStagger_ok rfl rfl (State.fbResume_ok rfl rfl (Ok.refl _ _ _))

/-- It leaves all registers outside Larkspur's alone. -/
theorem State.resumeAxis_rd (s : State) (n : Nat) {a : Nat} (h : a < 0x800000 ∨ 0x880000 ≤ a) :
    (s.resumeAxis n).rd a = s.rd a := by
  refine State.rd_of_ok (s.resumeAxis_frame n) ?_
  have apart {b : Nat} (hb : 0x800000 ≤ b ∧ b < 0x880000) : a ≠ b := by omega
  simp only [List.forall_mem_cons, List.not_mem_nil, false_imp_iff, implies_true, and_true]
  refine ⟨?_, ?_, ?_⟩
  · exact fun _ e => apart (b := R.LSP_EN_REQ0) (by decide) e
  · exact fun _ e => apart (b := R.LSP_EN_REQ1) (by decide) e
  · exact fun _ ⟨e, _⟩ => apart (b := R.LSP_EN_STATUS) (by decide) e

theorem State.resumeAxis_fxgHolds (s : State) (n m : Nat) : (s.resumeAxis n).fxgHolds m = s.fxgHolds m := by
  have saf := State.saf_of_ok (s.resumeAxis_frame n) rfl
  exact State.fxgHolds_congr (s.resumeAxis_rd n (.inr (by decide))) (s.resumeAxis_rd n (.inl (by decide)))
    (congrArg _ saf) m

/-- OUT_EN is written while nothing holds it (R108). -/
theorem State.writeOutEn_set {s : State} {n : Nat} (hn : n < 16) (free : s.enableHeld n = false) :
    (s.writeOutEn n true).is (F.AX_PWM_CTL_OUT_EN n) = true := by
  have ctl : 0x400000 ≤ R.AX_PWM_CTL n ∧ R.AX_PWM_CTL n < 0x800000 := by simp only [R.AX_PWM_CTL]; omega
  have foxglove : s.fxgHolds n = false := by
    simp only [State.enableHeld, Bool.or_eq_false_iff] at free
    obtain ⟨⟨⟨-, foxglove⟩, -⟩, -⟩ := free
    exact foxglove
  have eq : s.writeOutEn n true = ((s.pb (F.AX_PWM_CTL_OUT_EN n) true).resumeAxis n).refreshAxis n := by
    simp [State.writeOutEn, free, State.resumeAxis]
  rw [eq]
  refine State.refreshAxis_outEn hn ?_ ?_
  · rw [State.resumeAxis_fxgHolds, State.pb_eq, State.fxgHolds_p _ _ _ ctl.1 (Nat.lt_trans ctl.2 (by decide)), foxglove]
  · rw [State.is_eq, State.g_of_rd (State.resumeAxis_rd _ n (.inl ctl.2)), ← State.is_eq]
    exact State.is_pb_same _ rfl true

/-- A write of OUT_EN. -/
theorem State.writeOutEn_frame (s : State) (n : Nat) (v : Bool) :
    Ok (partMask [.regs, .mg, .saf, .fb]) (slotMask slotsDrive) s (s.writeOutEn n v) :=
  State.writeOutEn_ok rfl rfl (Ok.refl _ _ s)

/-- FAULT_CLR clears both flags (R108). -/
theorem State.pwmFaultClr_cleared (s : State) {n : Nat} (hn : n < 16) :
    ∀ f ∈ faultFields n, (s.pwmFaultClr n).is f = false := by
  intro f hf
  rw [State.pwmFaultClr, State.is_of_spares (State.refreshAxis_frame _ n)
    (slotsDrive_spares hn f (List.mem_append_right _ hf))]
  simp only [faultFields, List.mem_cons, List.not_mem_nil, or_false] at hf
  rcases hf with rfl | rfl
  · rw [State.off_eq, State.is_p_bitsApart _ rfl, State.is_off_same _ rfl]
  · exact State.is_off_same _ rfl

end Sys2Proof.Machine
end

section
/-! A write of AXn_PWM_CTL (R90, R108): what comes before its ARM and START, and what these lead to. -/

namespace Sys2Proof.Machine

/-- The word that a command writes to AXn_PWM_CTL. -/
def State.pwmCtlWord (s : State) (n : Nat) (mask bits : Word) : Word :=
  (s.rd (R.AX_PWM_CTL n) &&& 0xB &&& ~~~mask) ||| bits

theorem State.pwmCtlWord_bit (s : State) (n : Nat) (mask bits : Word) {i : Nat} (hi : i < 32) :
    (s.pwmCtlWord n mask bits).getLsbD i =
      ((s.rd (R.AX_PWM_CTL n)).getLsbD i && (0xB : Word).getLsbD i && !mask.getLsbD i || bits.getLsbD i) := by
  simp [State.pwmCtlWord, hi]

theorem State.pwmCtlWord_set {bits : Word} {i : Nat} (s : State) (n : Nat) (mask : Word) (h : bits.getLsbD i = true) :
    (s.pwmCtlWord n mask bits).getLsbD i = true := by
  rw [State.pwmCtlWord_bit s n mask bits (BitVec.lt_of_getLsbD h), h, Bool.or_true]

theorem State.pwmCtlWord_clear {mask bits : Word} {i : Nat} (s : State) (n : Nat) (hi : i < 32)
    (h : bits.getLsbD i = false) (hm : ((0xB : Word).getLsbD i && !mask.getLsbD i) = false) :
    (s.pwmCtlWord n mask bits).getLsbD i = false := by
  rw [State.pwmCtlWord_bit s n mask bits hi, h, Bool.and_assoc, hm, Bool.and_false, Bool.or_false]

theorem State.pwmCtlWord_keep {mask bits : Word} {i : Nat} (s : State) (n : Nat) (hi : i < 32)
    (h : bits.getLsbD i = false) (hm : ((0xB : Word).getLsbD i && !mask.getLsbD i) = true) :
    (s.pwmCtlWord n mask bits).getLsbD i = (s.rd (R.AX_PWM_CTL n)).getLsbD i := by
  rw [State.pwmCtlWord_bit s n mask bits hi, h, Bool.and_assoc, hm, Bool.and_true, Bool.or_false]

/-- What a write of AXn_PWM_CTL does before its ARM and START. -/
def State.beforeArm (s : State) (n : Nat) (v : Word) : State :=
  (((s.noteShadow n).p (F.AX_PWM_CTL_MODE_SEL n) (getBits v 3 1)).when (v.getLsbD 4) fun s => s.pwmFaultClr n).writeOutEn n
    (v.getLsbD 1)

/-- A write that arms no unit, or one that may be armed, is accepted. -/
theorem State.pwmCtlBits_accepted {s : State} {n : Nat} {mask bits : Word} (up : s.clk.down.contains 8 = false)
    (ok : s.pwmState n ≠ 0 ∨ (s.pwmCtlWord n mask bits).getLsbD 0 = false ∨ s.armOk n = true) :
    s.pwmCtlBits n mask bits = (s.beforeArm n (s.pwmCtlWord n mask bits)).writeArm n
      ((s.pwmCtlWord n mask bits).getLsbD 0) ((s.pwmCtlWord n mask bits).getLsbD 2) := by
  rw [State.pwmCtlBits, ← State.pwmCtlWord, wrPwmCtl, if_neg (Bool.eq_false_iff.mp up)]
  simp only [getBits_one]
  rw [if_neg]
  · rfl
  · simp only [Bool.and_eq_true, Bool.not_eq_true', beq_iff_eq, not_and, Bool.not_eq_false]
    rintro ⟨st, arm⟩
    exact (ok.resolve_left fun h => h st).resolve_left (Bool.not_eq_false _ ▸ arm)

/-- The shadows' note leaves the registers and what the next tick brings alone. -/
theorem State.noteShadow_ask (s : State) (n : Nat) : ((s.noteShadow n).pwmOf n).ask = (s.pwmOf n).ask := by
  simp [State.noteShadow]

/-- Fields that a write of AXn_PWM_CTL may write before its ARM and START. -/
def slotsBeforeArm : List Slot :=
  slotsDrive ++ [.f_AX_PWM_CTL_MODE_SEL, .f_AX_PWM_STATUS_FAULT, .f_AX_PWM_STATUS_LAUNCH_OFF]

theorem slotsBeforeArm_spares_state {n : Nat} (hn : n < 16) : spares slotsBeforeArm (F.AX_PWM_STATUS_STATE n) := by
  refine spares_append (slotsDrive_spares hn _ (by simp [unitFields])) ?_
  simp only [spares, List.forall_mem_cons, List.not_mem_nil, false_imp_iff, implies_true, and_true]
  and_intros
  all_goals exact fun _ lo hi ⟨_, h⟩ => not_inFld_of_unitsApart rfl rfl rfl lo hi h

/-- Beside the note, only registers of the enable, feedback and safety parts change. -/
theorem State.beforeArm_frame (s : State) (n : Nat) (v : Word) : Ok (partMask [.regs, .mg, .saf, .fb])
    (slotMask slotsBeforeArm) (s.noteShadow n) (s.beforeArm n v) := by
  refine State.writeOutEn_ok rfl rfl (State.when_ok rfl rfl ?_ fun _ => State.pwmFaultClr_ok rfl rfl)
  exact State.p_ok rfl rfl (ws_f_AX_PWM_CTL_MODE_SEL rfl) (Ok.refl _ _ _)

theorem State.beforeArm_ask (s : State) (n : Nat) (v : Word) : ((s.beforeArm n v).pwmOf n).ask = (s.pwmOf n).ask := by
  rw [State.pwmOf_of_ok (s.beforeArm_frame n v) rfl, State.noteShadow_ask]

theorem State.beforeArm_state (s : State) {n : Nat} (hn : n < 16) (v : Word) :
    (s.beforeArm n v).pwmState n = s.pwmState n := by
  rw [State.pwmState, State.g_of_ok (s.beforeArm_frame n v) (slotsBeforeArm_spares_state hn), State.noteShadow,
    State.g_setPwm, State.pwmState]

/-- OUT_EN = 1 takes effect where nothing holds the enable. -/
theorem State.beforeArm_outEn {s : State} {n : Nat} {v : Word} (hn : n < 16) (free : s.enableHeld n = false)
    (outEn : v.getLsbD 1 = true) (keep : v.getLsbD 4 = false) :
    (s.beforeArm n v).is (F.AX_PWM_CTL_OUT_EN n) = true := by
  rw [State.beforeArm, outEn, keep]
  refine State.writeOutEn_set hn ?_
  rw [State.when_false, ← free]
  exact State.enableHeld_congr hn (fun a ha => State.rd_p_ne (s.noteShadow n) _ ha) rfl rfl

/-- FAULT_CLR takes effect. -/
theorem State.beforeArm_faultClr {s : State} {n : Nat} {v : Word} (hn : n < 16) (clear : v.getLsbD 4 = true) :
    ∀ f ∈ faultFields n, (s.beforeArm n v).is f = false := by
  intro f hf
  rw [State.beforeArm, clear, State.is_of_spares (State.writeOutEn_frame _ n _)
    (slotsDrive_spares hn f (List.mem_append_right _ hf))]
  exact State.pwmFaultClr_cleared _ hn f hf

/-- ARM and START leave OUT_EN, FAULT and LAUNCH_OFF alone. -/
theorem State.writeArm_keeps (s : State) (n : Nat) (arm start : Bool) :
    ∀ f ∈ F.AX_PWM_CTL_OUT_EN n :: faultFields n, (s.writeArm n arm start).is f = s.is f := by
  intro f hf
  refine State.is_of_spares (E := anyParts)
    (l := [.f_AX_PWM_CTL_ARM, .f_AX_PWM_STATUS_STATE, .f_AX_PWM_STATUS_CFG_REFUSED])
    (State.writeArm_ok rfl rfl (Ok.refl _ _ s)) ?_
  simp only [faultFields, List.mem_cons, List.not_mem_nil, or_false] at hf
  simp only [spares, List.forall_mem_cons, List.not_mem_nil, false_imp_iff, implies_true, and_true]
  rcases hf with rfl | rfl | rfl
  all_goals
    and_intros
    all_goals exact fun _ lo hi ⟨_, h⟩ => not_inFld_of_unitsApart rfl rfl rfl lo hi h

end Sys2Proof.Machine
end

section
/-! The start and the stop of a PWM unit (R90, R91), at the tick after the write that asks for them. -/

namespace Sys2Proof.Machine

@[simp] theorem State.pwmOf_askPwm (s : State) (n : Nat) (a : Option PwmAsk) :
    (s.askPwm n a).pwmOf n = { s.pwmOf n with ask := a, askTick := s.tb.ticks } := State.pwmOf_setPwm _ _ _

@[simp] theorem State.is_askPwm (s : State) (n : Nat) (a : Option PwmAsk) (f : Fld) : (s.askPwm n a).is f = s.is f := rfl

@[simp] theorem State.pwmState_askPwm (s : State) (n : Nat) (a : Option PwmAsk) (m : Nat) :
    (s.askPwm n a).pwmState m = s.pwmState m := rfl

/-- The next tick takes what a write left for it. -/
theorem State.takeAsk_disable (s : State) (n : Nat) :
    (s.askPwm n (some .disable)).tickOn.takeAsk n = (s.askPwm n (some .disable)).tickOn.disableUnit n := by
  have ask : (s.askPwm n (some .disable)).tickOn.pwmOf n = _ := s.pwmOf_askPwm n (some .disable)
  have later : ¬ (s.askPwm n (some .disable)).tickOn.tb.ticks ≤ s.tb.ticks := Nat.not_succ_le_self _
  rw [State.takeAsk]
  simp only [ask, later, if_false]

theorem State.takeAsk_start {s : State} {n : Nat} (armed : s.pwmState n = 1) :
    (s.askPwm n (some .start)).tickOn.takeAsk n = (s.askPwm n (some .start)).tickOn.startUnit n false
      (s.askPwm n (some .start)).now ((s.askPwm n (some .start)).tickOn.shadows n).period := by
  have ask : (s.askPwm n (some .start)).tickOn.pwmOf n = _ := s.pwmOf_askPwm n (some .start)
  have later : ¬ (s.askPwm n (some .start)).tickOn.tb.ticks ≤ s.tb.ticks := Nat.not_succ_le_self _
  have armed : (s.askPwm n (some .start)).tickOn.pwmState n = 1 := armed
  rw [State.takeAsk]
  simp only [ask, later, if_false, armed, BEq.rfl, if_true]
  rfl

/-- The engine's count of a pair writes the engine's registers only. -/
theorem State.refPair_frame (s : State) (e : Nat) : Ok (partMask [.regs, .ae]) (slotMask slotsAbovePwm) s (s.refPair e) :=
  State.refPair_ok rfl rfl (Ok.refl _ _ s)

/-- A unit that stops is DISABLED with every switch off (R90). -/
theorem State.disableUnit_off (s : State) {n : Nat} (hn : n < 16) :
    (s.disableUnit n).pwmState n = 0 ∧ ((s.disableUnit n).pwmOf n).on = PwmSt.reset.on := by
  have state : F.AX_PWM_STATUS_STATE n ∈ unitFields n ++ faultFields n := by simp [unitFields]
  unfold State.disableUnit
  extract_lets off
  constructor
  · rw [State.pwmState, State.g_of_ok (State.refreshAxis_frame _ n) (slotsDrive_spares hn _ state),
      State.g_of_ok (State.refPair_frame _ _) (spares_abovePwm (pwmStatus_below hn)), State.off_eq,
      State.g_p_bitsApart _ rfl, State.off_eq, State.g_p_apart _ _ (.inl (pwmStatus_ne_pwmCtl n n)),
      State.g_p_same _ _ (by simp [F.AX_PWM_STATUS_STATE]), Nat.zero_mod]
  · rw [State.pwmOf_of_ok (State.refreshAxis_frame _ n) rfl, State.pwmOf_of_ok (State.refPair_frame _ _) rfl, State.off_eq,
      State.off_eq, State.pwmOf_p, State.pwmOf_p, State.pwmOf_p, State.pwmOf_setPwm]

/-! ### The start -/

/-- The unit is RUNNING in its first carrier period, whose zero point is at `z`. -/
structure State.StartedAt (s : State) (n z : Nat) : Prop where
  state : s.pwmState n = 2
  zero : (s.pwmOf n).lastZero = z
  first : (s.pwmOf n).first = true

/-- What writes neither STATE nor the units beside their registers keeps it. -/
theorem State.startedAt_of_ok {E : Nat} {s t : State} {n z : Nat} (hn : n < 16) (h : Ok E (slotMask slotsStart) s t)
    (e : E.testBit Part.pwm.idx = false) (hs : s.StartedAt n z) : t.StartedAt n z := by
  obtain ⟨state, zero, first⟩ := hs
  have unit := State.pwmOf_of_ok h e n
  refine ⟨?_, by rw [unit, zero], by rw [unit, first]⟩
  rw [State.pwmState, State.g_of_ok h (slotsStart_spares hn _ (by simp [unitFields]))]
  exact state

theorem State.startedAt_setPwm {s : State} {n z : Nat} {x : PwmSt} (state : s.pwmState n = 2) (zero : x.lastZero = z)
    (first : x.first = true) : (s.setPwm n x).StartedAt n z :=
  ⟨state, by rw [State.pwmOf_setPwm, zero], by rw [State.pwmOf_setPwm, first]⟩

/-- The command of a phase is no part of it. -/
theorem PwmSt.setCmd_keeps (p : PwmSt) (allow : List Bool) (x : Nat) (hi : Bool) :
    (p.setCmd allow x hi).lastZero = p.lastZero ∧ (p.setCmd allow x hi).first = p.first := by
  unfold PwmSt.setCmd
  split
  · exact ⟨rfl, rfl⟩
  · exact ⟨rfl, rfl⟩

theorem PwmSt.setCmds_keeps (l : List Nat) (allow : List Bool) (hi : PwmSt → Nat → Bool) (p : PwmSt) :
    (l.foldl (fun p x => p.setCmd allow x (hi p x)) p).lastZero = p.lastZero ∧
      (l.foldl (fun p x => p.setCmd allow x (hi p x)) p).first = p.first := by
  induction l generalizing p with
  | nil => exact ⟨rfl, rfl⟩
  | cons x l ih =>
    obtain ⟨zero, first⟩ := p.setCmd_keeps allow x (hi p x)
    exact ⟨(ih _).1.trans zero, (ih _).2.trans first⟩

theorem State.startedAt_setCmds {s : State} {n z : Nat} (l : List Nat) (allow : List Bool) (hi : PwmSt → Nat → Bool)
    (h : s.StartedAt n z) :
    (s.setPwm n (l.foldl (fun p x => p.setCmd allow x (hi p x)) (s.pwmOf n))).StartedAt n z := by
  obtain ⟨zero, first⟩ := PwmSt.setCmds_keeps l allow hi (s.pwmOf n)
  exact State.startedAt_setPwm h.state (zero.trans h.zero) (first.trans h.first)

theorem State.startedAt_loadPeriod {s : State} {n z : Nat} (hn : n < 16) (v : Nat) (h : s.StartedAt n z) :
    (s.loadPeriod n v).StartedAt n z := by
  unfold State.loadPeriod
  split
  · exact State.startedAt_setPwm h.state h.zero h.first
  · exact State.startedAt_of_ok (E := partMask [.regs]) hn
      (State.on_ok rfl rfl (ws_f_AX_PWM_STATUS_PERIOD_RANGE rfl) (Ok.refl _ _ s)) rfl h

theorem State.startedAt_occur {s : State} {n z : Nat} (hn : n < 16) (i : Nat) (h : s.StartedAt n z) :
    (s.occur n i).StartedAt n z := by
  unfold State.occur
  extract_lets p c counted
  have hc : counted.StartedAt n z := State.startedAt_setPwm h.state h.zero h.first
  split
  · exact State.startedAt_of_ok (E := partMask [.evt, .cap]) hn
      (State.raiseSt_ok rfl rfl (State.capPwm_ok rfl rfl (Ok.refl _ _ _))) rfl hc
  · exact hc

theorem State.startedAt_when {s : State} {n z : Nat} {b : Bool} {k : State → State}
    (hk : s.StartedAt n z → (k s).StartedAt n z) (h : s.StartedAt n z) : (s.when b k).StartedAt n z := by
  cases b
  · exact h
  · exact hk h

/-- A start without HARD (R91): RUNNING, with the first zero point at `z`. -/
theorem State.startUnit_startedAt (s : State) {n : Nat} (hn : n < 16) (z period : Nat) :
    (s.startUnit n false z period).StartedAt n z := by
  unfold State.startUnit
  extract_lets hold dmin dmax running idle begun timed cleared loaded unit noted kept paired al commanded zeroed pointed
  have hrun : running.pwmState n = 2 := by
    simp only [running, State.off_eq]
    rw [State.pwmState, State.g_p_bitsApart _ rfl, State.g_p_same _ _ (by simp [F.AX_PWM_STATUS_STATE])]
    rfl
  have hbegun : begun.StartedAt n z := State.startedAt_setPwm hrun rfl rfl
  have hcleared : cleared.StartedAt n z := by
    refine State.startedAt_of_ok (E := partMask [.regs]) hn ?_ rfl hbegun
    refine State.p_ok rfl rfl (ws_f_AX_PWM_STATUS_DT_FALLBACK rfl) (State.each_ok rfl rfl (Ok.refl _ _ _) fun _ _ h => ?_)
    exact State.p_ok rfl rfl (ws_w_dtField rfl) h
  have hloaded : loaded.StartedAt n z := State.startedAt_loadPeriod hn _ hcleared
  have hnoted : noted.StartedAt n z := by
    unfold noted
    split
    · exact State.startedAt_setPwm hloaded.state hloaded.zero hloaded.first
    · exact State.startedAt_setPwm hloaded.state hloaded.zero hloaded.first
  have hpaired : paired.StartedAt n z :=
    State.startedAt_of_ok (E := partMask [.regs, .ae]) hn (State.refPair_ok rfl rfl (Ok.refl _ _ _)) rfl hnoted
  have hcommanded : commanded.StartedAt n z :=
    State.startedAt_setCmds _ al (fun p x => cmdAt (paired.cntMode n) p.period (p.eff x) true) hpaired
  have hzeroed : zeroed.StartedAt n z := State.startedAt_occur hn 0 hcommanded
  have hpointed : pointed.StartedAt n z := State.startedAt_when (State.startedAt_occur hn 1) hzeroed
  refine State.startedAt_of_ok (E := partMask [.regs, .evt, .mg, .saf, .chans, .ae, .aux, .adc]) hn ?_ rfl hpointed
  exact State.checkDuty_ok rfl rfl (State.refreshAxis_ok rfl rfl (State.hallFlag_ok rfl rfl (Ok.refl _ _ _)))

end Sys2Proof.Machine
end

section
/-! The commands on AXn_PWM_CTL (R90, R108): each is the change before ARM and START, and then one step of the unit. -/

namespace Sys2Proof.Machine

/-- A command that is a write of one register completes with the write's effect where it reaches the register. -/
theorem next_write_reaches {s : State} {rq : Rq} {a : Nat} {k : State → State} (h : s.reaches rq a) :
    (.next (s.write rq a k) : Res) = .next (k s) := by
  rw [State.write_reaches k h]

/-! ### ARM and START without an earlier write that waits -/

theorem State.writeArm_arm {s : State} {n : Nat} (state : s.pwmState n = 0) (ask : (s.pwmOf n).ask = none) :
    s.writeArm n true false = (s.on (F.AX_PWM_CTL_ARM n)).armUnit n false := by
  simp [State.writeArm, state, ask, State.pb_eq, State.on_eq, bit]

theorem State.writeArm_disarm {s : State} {n : Nat} (state : s.pwmState n ≠ 0) (ask : (s.pwmOf n).ask = none) :
    s.writeArm n false false = (s.off (F.AX_PWM_CTL_ARM n)).askPwm n (some .disable) := by
  simp [State.writeArm, state, ask, State.pb_eq, State.off_eq, bit]

theorem State.writeArm_start {s : State} {n : Nat} (state : s.pwmState n = 1) (ask : (s.pwmOf n).ask = none) :
    s.writeArm n true true = (s.on (F.AX_PWM_CTL_ARM n)).askPwm n (some .start) := by
  simp [State.writeArm, state, ask, State.pb_eq, State.on_eq, bit]

theorem State.armUnit_armed (s : State) (n : Nat) (start : Bool) :
    (s.armUnit n start).pwmState n = 1 ∧ (s.armUnit n start).is (F.AX_PWM_CTL_ARM n) = true := by
  have eq : s.armUnit n start = ((s.p (F.AX_PWM_STATUS_STATE n) 1).on (F.AX_PWM_CTL_ARM n)).askPwm n
    (if start then some .start else none) := rfl
  rw [eq]
  constructor
  · rw [State.pwmState_askPwm, State.pwmState, State.on_eq, State.g_p_apart _ _ (.inl (pwmStatus_ne_pwmCtl n n)),
      State.g_p_same _ _ (by simp [F.AX_PWM_STATUS_STATE])]
    rfl
  · rw [State.is_askPwm, State.is_on_same _ rfl]

/-! ### The commands -/

/-- PWM_ARM (R90). -/
theorem State.pwmArm_armed {s : State} {n : Nat} (hn : n < 16) (up : s.clk.down.contains 8 = false)
    (state : s.pwmState n = 0) (ok : s.armOk n = true) (ask : (s.pwmOf n).ask = none) :
    (s.pwmCtlBits n 1 1).pwmState n = 1 ∧ (s.pwmCtlBits n 1 1).is (F.AX_PWM_CTL_ARM n) = true := by
  rw [State.pwmCtlBits_accepted up (.inr (.inr ok)), s.pwmCtlWord_set n 1 (i := 0) rfl,
    s.pwmCtlWord_clear n (i := 2) (by decide) rfl rfl,
    State.writeArm_arm ((s.beforeArm_state hn _).trans state) ((s.beforeArm_ask n _).trans ask)]
  exact State.armUnit_armed _ n false

/-- PWM_DISARM (R90) leaves the stop to the next tick. -/
theorem State.pwmDisarm_asks {s : State} {n : Nat} (hn : n < 16) (up : s.clk.down.contains 8 = false)
    (state : s.pwmState n ≠ 0) (ask : (s.pwmOf n).ask = none) :
    ∃ t : State, s.pwmCtlBits n 1 0 = (t.off (F.AX_PWM_CTL_ARM n)).askPwm n (some .disable) := by
  refine ⟨s.beforeArm n (s.pwmCtlWord n 1 0), ?_⟩
  rw [State.pwmCtlBits_accepted up (.inl state), s.pwmCtlWord_clear n (i := 0) (by decide) rfl rfl,
    s.pwmCtlWord_clear n (i := 2) (by decide) rfl rfl,
    State.writeArm_disarm (fun h => state ((s.beforeArm_state hn _).symm.trans h)) ((s.beforeArm_ask n _).trans ask)]

/-- PWM_START (R90) leaves the start of an ARMED unit to the next tick. -/
theorem State.pwmStart_asks {s : State} {n : Nat} (hn : n < 16) (up : s.clk.down.contains 8 = false)
    (state : s.pwmState n = 1) (armed : s.is (F.AX_PWM_CTL_ARM n) = true) (ask : (s.pwmOf n).ask = none) :
    ∃ t : State, t.pwmState n = 1 ∧ s.pwmCtlBits n 4 4 = t.askPwm n (some .start) := by
  have arm : (s.pwmCtlWord n 4 4).getLsbD 0 = true :=
    (s.pwmCtlWord_keep n (by decide) rfl rfl).trans ((s.is_eq_bit (f := F.AX_PWM_CTL_ARM n) rfl).symm.trans armed)
  have before := (s.beforeArm_state hn (s.pwmCtlWord n 4 4)).trans state
  refine ⟨(s.beforeArm n (s.pwmCtlWord n 4 4)).on (F.AX_PWM_CTL_ARM n), ?_, ?_⟩
  · rw [State.pwmState, State.on_eq, State.g_p_apart]
    · exact before
    · exact .inl (pwmStatus_ne_pwmCtl n n)
  · rw [State.pwmCtlBits_accepted up (.inl (by omega)), arm, s.pwmCtlWord_set n 4 (i := 2) rfl,
      State.writeArm_start before ((s.beforeArm_ask n _).trans ask)]

/-- A write that keeps ARM is accepted but for a DISABLED unit whose ARM is 1. -/
theorem State.pwmCtlWord_keepsArm {s : State} {n : Nat} {mask bits : Word} (hb : bits.getLsbD 0 = false)
    (hm : ((0xB : Word).getLsbD 0 && !mask.getLsbD 0) = true)
    (h : s.pwmState n ≠ 0 ∨ s.is (F.AX_PWM_CTL_ARM n) = false) :
    s.pwmState n ≠ 0 ∨ (s.pwmCtlWord n mask bits).getLsbD 0 = false ∨ s.armOk n = true :=
  h.imp id fun off => .inl <|
    (s.pwmCtlWord_keep n (by decide) hb hm).trans ((s.is_eq_bit (f := F.AX_PWM_CTL_ARM n) rfl).symm.trans off)

/-- OUT_EN = 1 takes effect where nothing holds the enable (R108). -/
theorem State.outEn_set {s : State} {n : Nat} (hn : n < 16) (up : s.clk.down.contains 8 = false)
    (h : s.pwmState n ≠ 0 ∨ s.is (F.AX_PWM_CTL_ARM n) = false) (free : s.enableHeld n = false) :
    (s.pwmCtlBits n 2 2).is (F.AX_PWM_CTL_OUT_EN n) = true := by
  rw [State.pwmCtlBits_accepted up (State.pwmCtlWord_keepsArm rfl rfl h), State.writeArm_keeps _ _ _ _ _ List.mem_cons_self]
  exact State.beforeArm_outEn hn free (s.pwmCtlWord_set n 2 rfl) (s.pwmCtlWord_clear n (by decide) rfl rfl)

/-- FAULT_CLR clears FAULT and LAUNCH_OFF (R108). -/
theorem State.faultClr_cleared {s : State} {n : Nat} (hn : n < 16) (up : s.clk.down.contains 8 = false)
    (h : s.pwmState n ≠ 0 ∨ s.is (F.AX_PWM_CTL_ARM n) = false) :
    ∀ f ∈ faultFields n, (s.pwmCtlBits n 16 16).is f = false := by
  intro f hf
  rw [State.pwmCtlBits_accepted up (State.pwmCtlWord_keepsArm rfl rfl h),
    State.writeArm_keeps _ _ _ _ _ (List.mem_cons_of_mem _ hf)]
  exact State.beforeArm_faultClr hn (s.pwmCtlWord_set n 16 rfl) f hf

end Sys2Proof.Machine
end

section
/-! The writes of a unit's mask, configuration, dead-time and event registers (R96, R100, R103, R104, R110). -/

namespace Sys2Proof.Machine

/-- A field set to the written bits reads them. -/
theorem State.g_p_getBits (s : State) {f : Fld} (h : f.lo + f.w ≤ 32) (v : Word) (lo : Nat) :
    (s.p f (getBits v lo f.w)).g f = getBits v lo f.w := by
  rw [State.g_p_same s _ h, Nat.mod_eq_of_lt (getBits_lt v lo f.w)]

/-- The low bits of a register that takes the low written bits. -/
theorem getBits_putBits_low (v : Word) {w : Nat} (h : w ≤ 32) :
    getBits (putBits 0 0 w (getBits v 0 w)) 0 w = getBits v 0 w := by
  rw [getBits_putBits_same 0 _ (by omega), Nat.mod_eq_of_lt (getBits_lt v 0 w)]

theorem wrPwmMask_mask (s : State) (n i : Nat) (v : Word) :
    (wrPwmMask n i v s).g (F.AX_PWM_MASK_MASK n i) = getBits v 0 6 :=
  s.g_p_getBits (f := F.AX_PWM_MASK_MASK n i) (by simp [F.AX_PWM_MASK_MASK]) v 0

theorem wrPwmAlign_align (s : State) (n : Nat) (v : Word) :
    getBits ((wrPwmAlign n v s).rd (R.AX_PWM_ALIGN n)) 0 24 = getBits v 0 24 := by
  have rd : (wrPwmAlign n v s).rd (R.AX_PWM_ALIGN n) = putBits 0 0 24 (getBits v 0 24) := by
    unfold wrPwmAlign
    extract_lets written unit
    split
    · exact State.rd_wr_same _ _ _
    · exact State.rd_wr_same _ _ _
  rw [rd, getBits_putBits_low v (by decide)]

/-- A write of the mask configuration with START_IDX below LENGTH and no reserved SRC (R103). -/
theorem wrPwmMaskCfg_accepted (s : State) (n : Nat) {v : Word} (start : getBits v 4 3 < effLength (getBits v 0 4))
    (src : getBits v 8 2 ≠ 3) : getBits ((wrPwmMaskCfg n v s).rd (R.AX_PWM_MASK_CFG n)) 0 10 = getBits v 0 10 := by
  have apart : R.AX_PWM_MASK_CFG n ≠ R.AX_PWM_STATUS n := by simp only [R.AX_PWM_MASK_CFG, R.AX_PWM_STATUS]; omega
  have rd : (wrPwmMaskCfg n v s).rd (R.AX_PWM_MASK_CFG n) = putBits 0 0 10 (getBits v 0 10) := by
    have index (t : State) (x : Nat) : (t.p (F.AX_PWM_STATUS_MASK_IDX n) x).rd (R.AX_PWM_MASK_CFG n) =
      t.rd (R.AX_PWM_MASK_CFG n) := State.rd_p_ne t x apart
    have hall (t : State) : (t.hallFlag n).rd (R.AX_PWM_MASK_CFG n) = t.rd (R.AX_PWM_MASK_CFG n) :=
      State.when_keeps (fun t => t.rd (R.AX_PWM_MASK_CFG n)) _ (fun t => State.rd_p_ne t _ apart) _ _
    unfold wrPwmMaskCfg
    extract_lets len old written idx shown
    rw [if_neg (by simp [len, src, start])]
    calc shown.rd (R.AX_PWM_MASK_CFG n)
      _ = _ := hall _
      _ = written.rd (R.AX_PWM_MASK_CFG n) :=
        State.when_keeps (fun t => t.rd (R.AX_PWM_MASK_CFG n)) _ (fun t => index t _) _ _
      _ = putBits 0 0 10 (getBits v 0 10) := State.rd_wr_same _ _ _
  rw [rd, getBits_putBits_low v (by decide)]

/-- A write of the event configuration without a reserved CMP_EDGE (R96). -/
theorem wrPwmEvtCfg_accepted (s : State) (n : Nat) {v : Word} (edge : getBits v 20 2 ≠ 3) :
    getBits ((wrPwmEvtCfg n v s).rd (R.AX_PWM_EVT_CFG n)) 0 27 = getBits v 0 27 := by
  have rd : (wrPwmEvtCfg n v s).rd (R.AX_PWM_EVT_CFG n) = putBits 0 0 27 (getBits v 0 27) := by
    unfold wrPwmEvtCfg
    rw [if_neg (by simpa using edge)]
    exact State.rd_wr_same _ _ _
  rw [rd, getBits_putBits_low v (by decide)]

/-- A write of the dead-time configuration with DT_MIN at most DT_MAX (R100). -/
theorem wrPwmDtCfg_accepted (s : State) (n : Nat) {v : Word} (h : getBits v 0 9 ≤ getBits v 16 9) :
    wrPwmDtCfg n v s =
      (s.p (F.AX_PWM_DT_CFG_DT_MIN n) (getBits v 0 9)).p (F.AX_PWM_DT_CFG_DT_MAX n) (getBits v 16 9) :=
  if_neg (Nat.not_lt.mpr h)

/-- A write of the configuration that changes LOAD only (R110). -/
theorem wrPwmCfg_loadOnly {s : State} {n : Nat} {v : Word} (load : getBits v 2 2 ≠ 3)
    (mode : getBits v 0 2 = s.cntMode n) (group : getBits v 4 2 = s.axGroup n)
    (adapt : getBits v 6 1 = s.g (F.AX_PWM_CFG_ADAPT_EN n)) (legal : s.cntMode n ≠ 3) :
    wrPwmCfg n v s = s.p (F.AX_PWM_CFG_LOAD n) (getBits v 2 2) := by
  unfold wrPwmCfg
  extract_lets loaded same
  have same : same = true := by
    simp only [same, loaded, State.cntMode, State.axGroup, Bool.and_eq_true, beq_iff_eq]
    rw [State.g_p_bitsApart _ rfl, State.g_p_bitsApart _ rfl, State.g_p_bitsApart _ rfl]
    exact ⟨⟨mode, group⟩, adapt⟩
  rw [if_neg (by simp [load, mode, legal]), if_pos same]

/-- The configuration of a unit reads the written bits. -/
def State.cfgTaken (s : State) (n : Nat) (v : Word) : Prop :=
  s.g (F.AX_PWM_CFG_LOAD n) = getBits v 2 2 ∧ s.cntMode n = getBits v 0 2 ∧ s.axGroup n = getBits v 4 2 ∧
    s.g (F.AX_PWM_CFG_ADAPT_EN n) = getBits v 6 1

theorem State.cfgTaken_of_ok {E : Nat} {s t : State} {n : Nat} {v : Word} (hn : n < 16) (h : Ok E (slotMask slotsStart) s t)
    (hs : s.cfgTaken n v) : t.cfgTaken n v := by
  have keep {f : Fld} (hf : f ∈ unitFields n) : t.g f = s.g f := State.g_of_ok h (slotsStart_spares hn f hf)
  rw [State.cfgTaken, State.cntMode, State.axGroup, keep (by simp [unitFields]), keep (by simp [unitFields]),
    keep (by simp [unitFields]), keep (by simp [unitFields])]
  exact hs

/-- A write of the configuration without reserved values, of a DISABLED unit (R110). -/
theorem wrPwmCfg_taken {s : State} {n : Nat} {v : Word} (hn : n < 16) (mode : getBits v 0 2 ≠ 3)
    (load : getBits v 2 2 ≠ 3) (state : s.pwmState n = 0) : (wrPwmCfg n v s).cfgTaken n v := by
  unfold wrPwmCfg
  extract_lets loaded same written
  have hload : loaded.g (F.AX_PWM_CFG_LOAD n) = getBits v 2 2 :=
    s.g_p_getBits (f := F.AX_PWM_CFG_LOAD n) (by simp [F.AX_PWM_CFG_LOAD]) v 2
  have hstate : loaded.pwmState n = 0 := (State.g_p_apart s _ (.inl (pwmStatus_ne_pwmCfg n n))).trans state
  rw [if_neg (by simp [mode, load])]
  split
  · rename_i h
    simp only [same, Bool.and_eq_true, beq_iff_eq] at h
    obtain ⟨⟨hmode, hgroup⟩, hadapt⟩ := h
    exact ⟨hload, hmode.symm, hgroup.symm, hadapt.symm⟩
  · rw [if_neg (by simp [hstate])]
    have hwritten : written.cfgTaken n v := by
      refine ⟨?_, ?_, ?_, ?_⟩
      · simp only [written]
        rw [State.g_p_bitsApart _ rfl, State.g_p_bitsApart _ rfl, State.g_p_bitsApart _ rfl, hload]
      · simp only [written, State.cntMode]
        rw [State.g_p_bitsApart _ rfl, State.g_p_bitsApart _ rfl]
        exact State.g_p_getBits _ (f := F.AX_PWM_CFG_CNT_MODE n) (by simp [F.AX_PWM_CFG_CNT_MODE]) v 0
      · simp only [written, State.axGroup]
        rw [State.g_p_bitsApart _ rfl]
        exact State.g_p_getBits _ (f := F.AX_PWM_CFG_DL_GROUP n) (by simp [F.AX_PWM_CFG_DL_GROUP]) v 4
      · exact State.g_p_getBits _ (f := F.AX_PWM_CFG_ADAPT_EN n) (by simp [F.AX_PWM_CFG_ADAPT_EN]) v 6
    refine State.cfgTaken_of_ok (E := partMask [.regs, .mg, .saf]) hn ?_ hwritten
    refine State.refreshAxis_ok rfl rfl (State.when_ok rfl rfl (Ok.refl _ _ _) fun _ h => State.each_ok rfl rfl h ?_)
    exact fun _ _ h => State.p_ok rfl rfl (ws_w_dtField rfl) h

/-- A field written leaves the other registers alone. -/
theorem State.sameRegsBut_p (s : State) (f : Fld) (x : Nat) : sameRegsBut [f.addr] s (s.p f x) :=
  fun _ h => s.rd_p_ne x (List.ne_of_not_mem_cons h)

/-- Settles O8: the commands on AXn_PWM_CTL are `State.beforeArm`, which keeps STATE and what waits, and one step of ARM and
START; their effect at the next tick is `State.disableUnit_off` and `State.startUnit_startedAt`. The configuration writes
each come down to the fields they set. -/
theorem pwmUnitCommandsTakeEffect : Obligations.PwmUnitCommandsTakeEffect := by
  unfold Obligations.PwmUnitCommandsTakeEffect
  refine ⟨fun s rq n h up state period lent held ask => ?_, fun s rq n h up state ask => ?_,
    fun s rq n h up state armed ask => ?_, fun s rq n h up keeps free => ?_, fun s rq n h up keeps => ?_,
    fun s rq n i v h => ?_, fun s rq n v h start src => ?_, fun s rq n v h => ?_, fun s rq n v h mode load state => ?_,
    fun s rq n v h load mode group adapt legal => ?_, fun s rq n v h le => ?_, fun s rq n v h edge => ?_⟩
  · have ok : s.armOk n = true := by simp [State.armOk, period, lent, held]
    exact ⟨_, next_write_reaches h, State.pwmArm_armed n.isLt up state ok ask⟩
  · obtain ⟨t, eq⟩ := State.pwmDisarm_asks n.isLt up state ask
    refine ⟨_, (next_write_reaches h).trans (congrArg Host.Outcome.next eq), ?_, ?_, ?_⟩
    · rw [State.is_askPwm, State.is_off_same _ rfl]
    · rw [State.pwmOf_askPwm]
    · rw [State.takeAsk_disable]
      exact State.disableUnit_off _ n.isLt
  · obtain ⟨t, before, eq⟩ := State.pwmStart_asks n.isLt up state armed ask
    refine ⟨_, (next_write_reaches h).trans (congrArg Host.Outcome.next eq), ?_, ?_⟩
    · rw [State.pwmOf_askPwm]
    · rw [State.takeAsk_start before]
      obtain ⟨state, zero, first⟩ := State.startUnit_startedAt (t.askPwm n (some .start)).tickOn n.isLt
        (t.askPwm n (some .start)).now ((t.askPwm n (some .start)).tickOn.shadows n).period
      exact ⟨state, zero, first⟩
  · exact ⟨_, next_write_reaches h, State.outEn_set n.isLt up keeps free⟩
  · have cleared := State.faultClr_cleared n.isLt up keeps
    exact ⟨_, next_write_reaches h, cleared _ (by simp [faultFields]), cleared _ (by simp [faultFields])⟩
  · exact ⟨_, next_write_reaches h, wrPwmMask_mask s n i v⟩
  · exact ⟨_, next_write_reaches h, wrPwmMaskCfg_accepted s n start src⟩
  · exact ⟨_, next_write_reaches h, wrPwmAlign_align s n v⟩
  · exact ⟨_, next_write_reaches h, wrPwmCfg_taken n.isLt mode load state⟩
  · have eq := wrPwmCfg_loadOnly load mode group adapt legal
    refine ⟨_, (next_write_reaches h).trans (congrArg Host.Outcome.next eq), ?_, ?_,
      s.sameRegsBut_p (F.AX_PWM_CFG_LOAD n) _, State.p_pwm⟩
    · exact s.g_p_getBits (f := F.AX_PWM_CFG_LOAD n) (by simp [F.AX_PWM_CFG_LOAD]) v 2
    · exact State.is_p_apart s _ (.inl (pwmStatus_ne_pwmCfg n n))
  · refine ⟨_, (next_write_reaches h).trans (congrArg Host.Outcome.next (wrPwmDtCfg_accepted s n le)), ?_, ?_, ?_, ?_⟩
    · rw [State.g_p_bitsApart _ rfl]
      exact s.g_p_getBits (f := F.AX_PWM_DT_CFG_DT_MIN n) (by simp [F.AX_PWM_DT_CFG_DT_MIN]) v 0
    · exact State.g_p_getBits _ (f := F.AX_PWM_DT_CFG_DT_MAX n) (by simp [F.AX_PWM_DT_CFG_DT_MAX]) v 16
    · exact fun a ha => (State.sameRegsBut_p _ (F.AX_PWM_DT_CFG_DT_MAX n) _ a ha).trans
        (State.sameRegsBut_p s (F.AX_PWM_DT_CFG_DT_MIN n) _ a ha)
    · rw [State.p_pwm, State.p_pwm]
  · exact ⟨_, next_write_reaches h, wrPwmEvtCfg_accepted s n edge⟩

end Sys2Proof.Machine
end

section
/-! What the tables of the feedback channels, the probes and the Larkspur channels read after a change. -/

namespace Sys2Proof.Machine

@[simp] theorem State.fbOf_setFb (s : State) (n : Nat) (x : FbSt) : (s.setFb n x).fbOf n = x := tabGet_set_same _ _ _

@[simp] theorem State.fbOf_wr (s : State) (a : Nat) (v : Word) (n : Nat) : (s.wr a v).fbOf n = s.fbOf n := rfl

@[simp] theorem State.rd_setSup (s : State) (m : Nat) (x : SupSt) (a : Nat) : (s.setSup m x).rd a = s.rd a := rfl

@[simp] theorem State.chanOf_setChan (s : State) (k : Nat) (x : Chan) : (s.setChan k x).chanOf k = x :=
  tabGet_set_same _ _ _

@[simp] theorem State.chanOf_p (s : State) (f : Fld) (x k : Nat) : (s.p f x).chanOf k = s.chanOf k := rfl

/-- Registers that read the same leave every register the same. -/
theorem sameRegsBut_of_regs {s t : State} (l : List Nat) (h : t.regs = s.regs) : sameRegsBut l s t := fun a _ => by
  rw [State.rd, State.rd, h]

theorem sameRegsBut_trans {l : List Nat} {s t u : State} (h : sameRegsBut l s t) (g : sameRegsBut l t u) :
    sameRegsBut l s u := fun a ha => (g a ha).trans (h a ha)

theorem State.sameRegsBut_wr (s : State) (a : Nat) (v : Word) : sameRegsBut [a] s (s.wr a v) :=
  fun _ h => s.rd_wr_ne v (List.ne_of_not_mem_cons h)

/-- A write of a register changes the register window only. -/
theorem State.sameBut_wr (s : State) (a : Nat) (v : Word) : sameBut [.regs] s (s.wr a v) := by
  intro p hp
  cases p
  case regs => exact absurd (List.mem_singleton_self _) hp
  all_goals rfl

/-! ### The FIFO of a probe -/

/-- The FIFO and what waits take the new value; the head registers and LEVEL only show them. -/
theorem State.setPrb_prb (s : State) (k : Nat) (x : PrbSt) :
    (s.setPrb k x).prb = tabSet (fun _ => PrbSt.reset) s.prb k x := by
  unfold State.setPrb
  extract_lets shown
  split
  · rfl
  · rfl

@[simp] theorem State.prbOf_setPrb (s : State) (k : Nat) (x : PrbSt) : (s.setPrb k x).prbOf k = x := by
  rw [State.prbOf, State.setPrb_prb]
  exact tabGet_set_same _ _ _

/-- LEVEL shows the number of entries. -/
theorem State.setPrb_level (s : State) (k : Nat) (x : PrbSt) :
    (s.setPrb k x).g (F.GLB_PRB_STATUS_LEVEL k) = x.fifo.length % 8 := by
  unfold State.setPrb
  extract_lets shown
  have level : shown.g (F.GLB_PRB_STATUS_LEVEL k) = x.fifo.length % 8 :=
    State.g_p_same _ _ (by simp [F.GLB_PRB_STATUS_LEVEL])
  have flags : R.GLB_PRB_STATUS k ≠ R.GLB_PRB_FLAGS k := by simp only [R.GLB_PRB_STATUS, R.GLB_PRB_FLAGS]; omega
  split
  · exact level
  · simp only [State.pb_eq]
    rw [State.g_p_apart _ _ (.inl flags), State.g_p_apart _ _ (.inl flags), State.g_p_apart _ _ (.inl flags), State.wr64,
      State.g_wr_ne, State.g_wr_ne, State.g_wr_ne, level]
    all_goals
      simp only [F.GLB_PRB_STATUS_LEVEL, R.GLB_PRB_STATUS, R.GLB_PRB_STAMP, R.GLB_PRB_POS_LO, R.GLB_PRB_POS_HI]
      omega

/-- A latch enters a FIFO that has room (R169). -/
theorem State.prbPush_fifo {s : State} {k : Nat} (l : PrbLatch) (room : (s.prbOf k).fifo.length < 4) :
    ((s.prbPush k l).prbOf k).fifo = (s.prbOf k).fifo ++ [l] := by
  rw [State.prbPush, if_neg (Nat.not_le.mpr room), State.prbOf_setPrb]

end Sys2Proof.Machine
end

section
/-! The commands of a feedback channel and the configuration of a probe (R142, R146, R148, R164, R166, R169, R170). -/

namespace Sys2Proof.Machine

/-- A command that is a write of one register completes with what the write makes of the state. -/
theorem next_write_eq {s t : State} {rq : Rq} {a : Nat} {k : State → State} (h : s.reaches rq a) (eq : k s = t) :
    (.next (s.write rq a k) : Res) = .next t := by
  rw [next_write_reaches h, eq]

/-! ### AXn_FB_CMD -/

theorem wrFbCmd_load (s : State) (n : Nat) : wrFbCmd n 1 s =
    s.setFb n { s.fbOf n with loadP := some (s.rd64 (R.AX_FB_LOAD_LO n) (R.AX_FB_LOAD_HI n)) } := rfl

theorem wrFbCmd_faultClr (s : State) (n : Nat) : wrFbCmd n 2 s =
    (s.off (F.AX_FB_STATUS_FAULT n)).when (s.is (F.AX_FB_STATUS_LENT n)) fun s => s.fbResume n := rfl

theorem wrFbCmd_zArm (s : State) (n : Nat) : wrFbCmd n 4 s = s.setFb n { s.fbOf n with zArm := true } := rfl

/-- A channel that resumes has not stopped (R164). -/
theorem State.fbResume_stopped (s : State) (n : Nat) : ((s.fbResume n).fbOf n).stopped = false := by
  unfold State.fbResume
  split
  · rw [State.fbOf_setFb]
  · rename_i h
    exact Bool.eq_false_iff.mpr h

theorem State.fbResume_regs (s : State) (n : Nat) : (s.fbResume n).regs = s.regs := by
  unfold State.fbResume
  split
  · rfl
  · rfl

theorem State.fbResume_is (s : State) (n : Nat) (f : Fld) : (s.fbResume n).is f = s.is f := by
  rw [State.is_eq, State.is_eq, State.g, State.g, State.rd, State.rd, State.fbResume_regs]

/-! ### Soft limits -/

theorem wrSoftHi_max {s : State} {n : Nat} {v : Word}
    (h : (s.fbOf n).softMin < signed 64 ((s.rd (R.AX_FB_SOFT_MAX_LO n)).toNat + 2 ^ 32 * v.toNat)) :
    wrSoftHi n true v s = (s.setFb n { s.fbOf n with
      softMax := signed 64 ((s.rd (R.AX_FB_SOFT_MAX_LO n)).toNat + 2 ^ 32 * v.toNat) }).wr (R.AX_FB_SOFT_MAX_HI n) v :=
  if_neg (Int.not_le.mpr h)

theorem wrSoftHi_min {s : State} {n : Nat} {v : Word}
    (h : signed 64 ((s.rd (R.AX_FB_SOFT_MIN_LO n)).toNat + 2 ^ 32 * v.toNat) < (s.fbOf n).softMax) :
    wrSoftHi n false v s = (s.setFb n { s.fbOf n with
      softMin := signed 64 ((s.rd (R.AX_FB_SOFT_MIN_LO n)).toNat + 2 ^ 32 * v.toNat) }).wr (R.AX_FB_SOFT_MIN_HI n) v :=
  if_neg (Int.not_le.mpr h)

/-! ### Configurations -/

theorem fbCfg_ne_fbStatus (n m : Nat) : R.AX_FB_CFG n ≠ R.AX_FB_STATUS m := by
  simp only [R.AX_FB_CFG, R.AX_FB_STATUS]
  omega

/-- A configuration that no rule refuses takes its fields (R142): all that follows the write is in AXn_FB_STATUS. -/
theorem wrFbCfg_taken {s : State} {n : Nat} {v : Word} (state : s.pwmState n = 0) (ok : s.fbCfgBad n v = false) :
    (wrFbCfg n v s).rd (R.AX_FB_CFG n) = v &&& 0x00FF7FFF := by
  have status (t : State) {f : Fld} {m : Nat} (x : Nat) (hf : f.addr = R.AX_FB_STATUS m) :
      (t.p f x).rd (R.AX_FB_CFG n) = t.rd (R.AX_FB_CFG n) := State.rd_p_ne t x (hf ▸ fbCfg_ne_fbStatus n m)
  unfold wrFbCfg
  rw [if_neg (by simp [state, ok])]
  extract_lets old enabled diff f f0 f1 f2 anew f3 own f4 changed freed second written lent
  have hwritten : written.rd (R.AX_FB_CFG n) = v &&& 0x00FF7FFF := State.rd_wr_same _ _ _
  have hlent : lent.rd (R.AX_FB_CFG n) = v &&& 0x00FF7FFF := by
    unfold lent
    split
    · rw [State.on_eq, status _ _ rfl, hwritten]
    · exact hwritten
  rw [State.when_keeps (fun t => t.rd (R.AX_FB_CFG n)) _ fun t => ?_, hlent]
  rw [State.rd_setSup, State.off_eq, status _ _ rfl, State.off_eq, status _ _ rfl]

/-- A configuration of a probe bound to a channel of the probe's owner is taken (R170). -/
theorem wrPrbCfg_accepted {s : State} {k : Nat} {v : Word} (edge : getBits v 2 2 ≠ 3) (ch : getBits v 14 5 < 24)
    (own : s.holder (if getBits v 13 1 = 1 then .aux (getBits v 14 5) else .axis (getBits v 4 4)) = s.holder (.probe k)) :
    wrPrbCfg k v s = s.wr (R.GLB_PRB_CFG k) (v &&& 0x0007FFFF) := by
  unfold wrPrbCfg
  exact if_neg (by simp [edge, ch, own])

/-- The head entry of a probe leaves (R169). -/
theorem wrPrbPop_pop (s : State) (k : Nat) :
    wrPrbPop k 1 s = s.setPrb k { s.prbOf k with fifo := (s.prbOf k).fifo.drop 1 } := rfl

/-- A read of a stamp register outside an isolated region. -/
theorem State.stampRead_answers {s : State} {a : Nat} (rq : Rq) (regs : List Nat) (h : s.readErr a = false) :
    s.stampRead rq a regs = (s.fillSnap rq a regs).emit (.read rq a (s.rd a)) :=
  if_neg (Bool.eq_false_iff.mp h)

theorem State.snap_fillSnap (s : State) (rq : Rq) (a : Nat) (l : List Nat) :
    (s.fillSnap rq a l).snap rq a = l.map s.rd := tabGet_set_same _ _ _

/-- Settles O14: each command is one write that reaches its register, and its effect is the lemma above on that write. -/
theorem feedbackCommandsTakeEffect : Obligations.FeedbackCommandsTakeEffect := by
  unfold Obligations.FeedbackCommandsTakeEffect
  refine ⟨fun s rq n h => ?_, fun s rq n h lent => ?_, fun s rq n h lent => ?_, fun s rq n h => ?_,
    fun s rq n v h lim => ?_, fun s rq n v h lim => ?_, fun s rq n v h state ok => ?_, fun s rq n err => ?_,
    fun s rq k x rest h fifo => ?_, fun s rq k v h edge ch own => ?_⟩
  · exact ⟨_, next_write_eq h (wrFbCmd_load s n), by rw [State.fbOf_setFb], rfl⟩
  · have eq : wrFbCmd n 2 s = s.off (F.AX_FB_STATUS_FAULT n) := by rw [wrFbCmd_faultClr, lent, State.when_false]
    exact ⟨_, next_write_eq h eq, s.is_off_same rfl,
      s.sameRegsBut_p (F.AX_FB_STATUS_FAULT n) 0, s.sameBut_wr _ _⟩
  · have eq : wrFbCmd n 2 s = (s.off (F.AX_FB_STATUS_FAULT n)).fbResume n := by
      rw [wrFbCmd_faultClr, lent, State.when_true]
    refine ⟨_, next_write_eq h eq, ?_, State.fbResume_stopped _ n, ?_⟩
    · rw [State.fbResume_is, State.is_off_same _ rfl]
    · exact sameRegsBut_trans (s.sameRegsBut_p (F.AX_FB_STATUS_FAULT n) 0)
        (sameRegsBut_of_regs _ (State.fbResume_regs _ n))
  · exact ⟨_, next_write_eq h (wrFbCmd_zArm s n), by rw [State.fbOf_setFb], rfl⟩
  · refine ⟨_, next_write_eq h (wrSoftHi_max lim), ?_, ?_, State.rd_wr_same _ _ _⟩
    · rw [State.fbOf_wr, State.fbOf_setFb]
    · rw [State.fbOf_wr, State.fbOf_setFb]
  · refine ⟨_, next_write_eq h (wrSoftHi_min lim), ?_, ?_, State.rd_wr_same _ _ _⟩
    · rw [State.fbOf_wr, State.fbOf_setFb]
    · rw [State.fbOf_wr, State.fbOf_setFb]
  · exact ⟨_, next_write_reaches h, wrFbCfg_taken state ok⟩
  · exact ⟨_, congrArg Host.Outcome.next (State.stampRead_answers rq (fbSnapRegs n) err),
      State.snap_fillSnap s rq (R.AX_FB_STAMP n) (fbSnapRegs n), rfl, rfl⟩
  · refine ⟨_, next_write_eq h (wrPrbPop_pop s k), ?_, ?_⟩
    · rw [State.prbOf_setPrb, fifo, List.drop_one, List.tail_cons]
    · rw [State.setPrb_level, fifo, List.drop_one, List.tail_cons]
  · exact ⟨_, next_write_eq h (wrPrbCfg_accepted edge ch own),
      State.rd_wr_same _ _ _, s.sameRegsBut_wr _ _, s.sameBut_wr _ _⟩

end Sys2Proof.Machine
end

section
/-! The refutation of O15: a conversion outside the range of AXn_FB_SC_ADC. -/

namespace Sys2Proof.Machine

/-- The state after reset, but for channel 0, which is enabled with a sin/cos encoder. -/
def State.sincosChannel : State := (State.reset.on (F.AX_FB_CFG_EN 0)).p (F.AX_FB_CFG_INC_MODE 0) 2

/-- AXn_FB_SC_ADC.A has 14 bits: 8192 reads as −8192. -/
theorem sincosConversion_beyondRange : (match exec (.sincosConversion 0 8192 0 0) State.sincosChannel with
    | .next t => t.gi (F.AX_FB_SC_ADC_A 0)
    | _ => 0) = -8192 := by decide +kernel

/-- Refutes O15: its clause on the ADC registers says of every pair, in the converter's range or not, that A reads as a signed
value of 16 bits, but the field holds 14 bits, and in `State.sincosChannel` a conversion of 8192 reads as −8192. -/
theorem not_feedbackEventsTakeEffect : ¬ Obligations.FeedbackEventsTakeEffect := by
  unfold Obligations.FeedbackEventsTakeEffect
  rintro ⟨-, -, -, -, -, shown, -⟩
  obtain ⟨t, ht, -, -, ha, -⟩ := shown State.sincosChannel 0 8192 0 0 _ _ (by decide +kernel) (by decide +kernel) rfl rfl
  have beyond := sincosConversion_beyondRange
  rw [ht] at beyond
  exact absurd (ha.symm.trans beyond) (by decide)

end Sys2Proof.Machine
end

section
/-! What a probe's edge latches depends on no probe's registers but CFG (R167, R168). -/

namespace Sys2Proof.Machine

/-- The registers of an array that begins above those of the probes lie above them. -/
theorem above_probes {b k n : Nat} (h : 0x400 ≤ b) : 0x400 ≤ b + n * k := Nat.le_add_right_of_le h

section
variable {s t : State} (rd : ∀ a, 0x400 ≤ a → t.rd a = s.rd a)
include rd

/-- A field above the registers of the probes. -/
theorem State.g_above {f : Fld} (h : 0x400 ≤ f.addr) : t.g f = s.g f := State.g_of_rd (rd _ h)

theorem State.is_above {f : Fld} (h : 0x400 ≤ f.addr) : t.is f = s.is f := by
  rw [State.is_eq, State.is_eq, State.g_above rd h]

theorem State.primary_above (n : Nat) : t.primary n = s.primary n := State.g_above rd (above_probes (by decide))

theorem State.incMode_above (n : Nat) : t.incMode n = s.incMode n := State.g_above rd (above_probes (by decide))

theorem State.softOn_above (n : Nat) : t.softOn n = s.softOn n := by
  rw [State.softOn, State.softOn, State.is_above rd (f := F.AX_FB_CFG_SOFT_EN n) (above_probes (by decide)),
    State.is_above rd (f := F.AX_FB_CFG_WRAP n) (above_probes (by decide))]

theorem State.cpr_above (n d : Nat) : t.cpr n d = s.cpr n d := by
  unfold State.cpr
  rw [State.incMode_above rd, State.g_above rd (f := F.AX_FB_LINES_LINES n) (above_probes (by decide)),
    State.g_above rd (f := F.AX_FB_SSI_CFG_ST_BITS n) (above_probes (by decide)),
    State.g_above rd (f := F.AX_FB_HALL_CFG_POLE_PAIRS n) (above_probes (by decide))]

/-- The position of a servo axis now. -/
theorem State.posNow_above (fb : t.fb = s.fb) (n : Nat) : t.posNow n = s.posNow n := by
  have channel : t.fbOf n = s.fbOf n := by rw [State.fbOf, State.fbOf, fb]
  rw [State.posNow, State.posNow, State.clampPos, State.clampPos, State.rawPos, State.rawPos, State.softOn_above rd,
    State.primary_above rd, State.cpr_above rd, channel]

/-- The measured position of a channel. -/
theorem State.measured_above (k : Nat) : t.measured k = s.measured k := by
  have pair {lo hi : Nat} (hlo : 0x400 ≤ lo) (hhi : 0x400 ≤ hi) : t.rd64 lo hi = s.rd64 lo hi := by
    rw [State.rd64, State.rd64, rd lo hlo, rd hi hhi]
  unfold State.measured
  split
  · exact pair (above_probes (by decide)) (above_probes (by decide))
  split
  · exact pair (above_probes (by decide)) (above_probes (by decide))
  · exact pair (above_probes (by decide)) (above_probes (by decide))

end

/-- The fields of a probe's configuration that say what a latch takes, and when. -/
def latchFields (p : Nat) : List Fld :=
  [F.GLB_PRB_CFG_FILT p, F.GLB_PRB_CFG_AUX p, F.GLB_PRB_CFG_AXIS p, F.GLB_PRB_CFG_AUX_CH p]

/-- The position that a latch takes at once. -/
theorem State.latchPos_congr {s t : State} {p : Nat} (rd : ∀ a, 0x400 ≤ a → t.rd a = s.rd a)
    (cfg : ∀ f ∈ latchFields p, t.g f = s.g f) (rest : sameBut [.regs] s t) : t.latchPos p = s.latchPos p := by
  have tb : t.tb = s.tb := rest .tb (by decide)
  have fb : t.fb = s.fb := rest .fb (by decide)
  have sense : t.sense = s.sense := rest .sense (by decide)
  have filt := cfg (F.GLB_PRB_CFG_FILT p) (by simp [latchFields])
  have aux := cfg (F.GLB_PRB_CFG_AUX p) (by simp [latchFields])
  have axis := cfg (F.GLB_PRB_CFG_AXIS p) (by simp [latchFields])
  have auxCh := cfg (F.GLB_PRB_CFG_AUX_CH p) (by simp [latchFields])
  have bound : t.prbAxis p = s.prbAxis p := by rw [State.prbAxis, State.prbAxis, State.is_eq, State.is_eq, aux, axis]
  have valid (n : Nat) : t.is (F.AX_FB_STATUS_VALID n) = s.is (F.AX_FB_STATUS_VALID n) :=
    State.is_above rd (above_probes (by decide))
  have at_ (k tick : Nat) (x : Int) : t.posAt k tick x = s.posAt k tick x := by rw [State.posAt, State.posAt, sense]
  simp only [State.latchPos, bound, filt, auxCh, tb, at_, valid, State.measured_above rd, State.posNow_above rd fb,
    State.primary_above rd, State.incMode_above rd]

end Sys2Proof.Machine
end

section
/-! An edge of a probe (R167 to R169): its level shows in INPUT; one that counts ends a single-shot arming and is latched. -/

namespace Sys2Proof.Machine

/-- Does EDGE select the edge? -/
def edgeCounts (edge : Nat) (falling : Bool) : Bool := (edge == 0 && !falling) || (edge == 1 && falling) || edge == 2

theorem edgeCounts_selected {edge : Nat} {falling : Bool}
    (h : edge = 2 ∨ (edge = 0 ∧ falling = false) ∨ (edge = 1 ∧ falling = true)) : edgeCounts edge falling = true := by
  rcases h with rfl | ⟨rfl, rfl⟩ | ⟨rfl, rfl⟩
  all_goals rfl

theorem edgeCounts_other {edge : Nat} {falling : Bool}
    (h : edge = 3 ∨ (edge = 0 ∧ falling = true) ∨ (edge = 1 ∧ falling = false)) : edgeCounts edge falling = false := by
  rcases h with rfl | ⟨rfl, rfl⟩ | ⟨rfl, rfl⟩
  all_goals rfl

/-- The level after the edge shows in INPUT. -/
def State.showEdge (s : State) (k : Nat) (falling : Bool) : State := s.pb (F.GLB_PRB_STATUS_INPUT k) (!falling)

/-- An edge that counts ends a single-shot arming. -/
def State.takeEdge (s : State) (k : Nat) (falling : Bool) : State :=
  if (s.showEdge k falling).is (F.GLB_PRB_CFG_CONT k) then s.showEdge k falling
  else (s.showEdge k falling).off (F.GLB_PRB_CFG_ARM k)

/-- The channel that a probe is bound to (R167). -/
def State.prbChan (s : State) (k : Nat) : Nat :=
  match s.prbAxis k with
  | some n => n
  | none => 16 + s.g (F.GLB_PRB_CFG_AUX_CH k)

/-- A homing sequence that waits for the probe takes its edge (R249), with what `c` makes of the channel. -/
def State.homeEdge (s : State) (k : Nat) (c : Chan → Chan) : State :=
  if s.homeProbe (s.prbChan k) k then s.setChan (s.prbChan k) (c (s.chanOf (s.prbChan k))) else s

/-- The latch of an edge at the full time `t` and the elapsed time `e`. -/
def State.latchEdge (s : State) (k : Nat) (falling : Bool) (t e : Nat) : State :=
  let ty := s.g (F.LSP_CH_HOME_CFG_TYPE (s.prbChan k))
  match s.latchPos k with
  | some p => (s.homeEdge k fun c => { c with homeEdge := true, homeP := p.1 }).prbPush k
      { t := t, e := e, falling := falling, pos := p.1, valid := p.2, extrap := false }
  | none =>
    let s := s.homeEdge k fun c => { c with homeEdge := true, homeAt := if ty == 3 || ty == 4 then some t else none }
    s.setPrb k { s.prbOf k with
      wait := (s.prbOf k).wait ++ [{ t := t, e := e, falling := falling, pos := 0, valid := false, extrap := false }] }

/-- The fields of a probe's configuration are not those of its status. -/
theorem prbCfg_ne_prbStatus (k m : Nat) : R.GLB_PRB_CFG k ≠ R.GLB_PRB_STATUS m := by
  simp only [R.GLB_PRB_CFG, R.GLB_PRB_STATUS]
  omega

theorem State.showEdge_g (s : State) (k : Nat) (falling : Bool) {f : Fld} (h : f.addr = R.GLB_PRB_CFG k) :
    (s.showEdge k falling).g f = s.g f := s.g_p_apart _ (.inl (h ▸ prbCfg_ne_prbStatus k k))

theorem State.showEdge_is (s : State) (k : Nat) (falling : Bool) {f : Fld} (h : f.addr = R.GLB_PRB_CFG k) :
    (s.showEdge k falling).is f = s.is f := by
  rw [State.is_eq, State.is_eq, State.showEdge_g s k falling h]

/-- PROBE_EDGE of an edge that does not count, or of a probe that is not armed. -/
theorem exec_probeEdge_ignored {s : State} {k : Fin 8} {falling : Bool} (ns : Fin 4)
    (h : edgeCounts (s.g (F.GLB_PRB_CFG_EDGE k)) falling = false ∨ s.is (F.GLB_PRB_CFG_ARM k) = false) :
    exec (.probeEdge k falling ns) s = .next (s.showEdge k falling) := by
  have edge := s.showEdge_g k falling (f := F.GLB_PRB_CFG_EDGE k) rfl
  have arm := s.showEdge_is k falling (f := F.GLB_PRB_CFG_ARM k) rfl
  refine if_pos (c := (!edgeCounts ((s.showEdge k falling).g (F.GLB_PRB_CFG_EDGE k)) falling ||
    !(s.showEdge k falling).is (F.GLB_PRB_CFG_ARM k)) = true) ?_
  rw [edge, arm]
  rcases h with h | h
  · rw [h]
    rfl
  · rw [h, Bool.not_false, Bool.or_true]

/-- PROBE_EDGE of an edge that counts: it is latched, and the registration channels of the probe judge it. -/
theorem exec_probeEdge_counted {s : State} {k : Fin 8} {falling : Bool} (ns : Fin 4)
    (counts : edgeCounts (s.g (F.GLB_PRB_CFG_EDGE k)) falling = true) (armed : s.is (F.GLB_PRB_CFG_ARM k) = true) :
    ∃ t e : Nat, exec (.probeEdge k falling ns) s = .next (((s.takeEdge k falling).latchEdge k falling t e).when
      (((s.takeEdge k falling).latchEdge k falling t e).is (F.GLB_PRB_CFG_SHAFT k)) fun s => s.regEdge k t) := by
  have edge := s.showEdge_g k falling (f := F.GLB_PRB_CFG_EDGE k) rfl
  have arm := s.showEdge_is k falling (f := F.GLB_PRB_CFG_ARM k) rfl
  refine ⟨_, _, if_neg (c := (!edgeCounts ((s.showEdge k falling).g (F.GLB_PRB_CFG_EDGE k)) falling ||
    !(s.showEdge k falling).is (F.GLB_PRB_CFG_ARM k)) = true) ?_⟩
  rw [edge, arm, counts, armed]
  decide

/-! ### What the edge leaves alone -/

/-- The edge writes two fields of the probe, below the registers of every other unit. -/
theorem State.takeEdge_above (s : State) {k : Nat} (hk : k < 8) (falling : Bool) (a : Nat) (h : 0x400 ≤ a) :
    (s.takeEdge k falling).rd a = s.rd a := by
  have status : a ≠ R.GLB_PRB_STATUS k := by simp only [R.GLB_PRB_STATUS]; omega
  have cfg : a ≠ R.GLB_PRB_CFG k := by simp only [R.GLB_PRB_CFG]; omega
  unfold State.takeEdge
  split
  · exact State.rd_p_ne s _ status
  · exact (State.rd_p_ne _ _ cfg).trans (State.rd_p_ne s _ status)

/-- Of the probe's configuration it leaves all but ARM. -/
theorem State.takeEdge_cfg (s : State) (k : Nat) (falling : Bool) {f : Fld} (h : f.addr = R.GLB_PRB_CFG k)
    (apart : (F.GLB_PRB_CFG_ARM k).bitsApart f = true) : (s.takeEdge k falling).g f = s.g f := by
  unfold State.takeEdge
  split
  · exact s.showEdge_g k falling h
  · exact (State.g_p_bitsApart _ apart 0).trans (s.showEdge_g k falling h)

theorem State.takeEdge_rest (s : State) (k : Nat) (falling : Bool) : sameBut [.regs] s (s.takeEdge k falling) := by
  unfold State.takeEdge
  split
  · exact s.sameBut_wr _ _
  · exact fun p hp => samePart_trans (s.sameBut_wr _ _ p hp) (State.sameBut_wr _ _ _ p hp)

theorem State.takeEdge_prbOf (s : State) (k : Nat) (falling : Bool) (m : Nat) :
    (s.takeEdge k falling).prbOf m = s.prbOf m := by
  have prb : (s.takeEdge k falling).prb = s.prb := s.takeEdge_rest k falling .prb (by decide)
  rw [State.prbOf, State.prbOf, prb]

theorem State.takeEdge_latchPos (s : State) {k : Nat} (hk : k < 8) (falling : Bool) :
    (s.takeEdge k falling).latchPos k = s.latchPos k := by
  refine State.latchPos_congr (s.takeEdge_above hk falling) (fun f hf => ?_) (s.takeEdge_rest k falling)
  simp only [latchFields, List.mem_cons, List.not_mem_nil, or_false] at hf
  rcases hf with rfl | rfl | rfl | rfl
  all_goals exact s.takeEdge_cfg k falling rfl rfl

/-- A single-shot arming ends, a continuous one stays. -/
theorem State.takeEdge_arm {s : State} {k : Nat} (falling : Bool) (armed : s.is (F.GLB_PRB_CFG_ARM k) = true) :
    (s.takeEdge k falling).is (F.GLB_PRB_CFG_ARM k) = s.is (F.GLB_PRB_CFG_CONT k) := by
  have cont := s.showEdge_is k falling (f := F.GLB_PRB_CFG_CONT k) rfl
  unfold State.takeEdge
  split
  · rename_i h
    rw [s.showEdge_is k falling rfl, armed, ← cont, h]
  · rename_i h
    rw [State.is_off_same _ rfl, ← cont, Bool.eq_false_iff.mpr h]

theorem State.takeEdge_input (s : State) (k : Nat) (falling : Bool) :
    (s.takeEdge k falling).is (F.GLB_PRB_STATUS_INPUT k) = !falling := by
  have shown : (s.showEdge k falling).is (F.GLB_PRB_STATUS_INPUT k) = !falling := s.is_pb_same rfl _
  unfold State.takeEdge
  split
  · exact shown
  · exact (State.is_p_apart _ _ (.inl (prbCfg_ne_prbStatus k k).symm)).trans shown

/-! ### What the latch leaves alone -/

/-- Fields and registers that a latch may write, and those of the registration channels that an edge may write. -/
def slotsLatch : List Slot :=
  slotsSetPrb ++ [.f_GLB_PRB_STATUS_OVERFLOW, .r_LSH_REG_ERR, .r_LSH_REG_MLAT_HI, .r_LSH_REG_MLAT_LO, .r_LSH_REG_PEND,
    .f_LSH_REG_STATUS_EXTRA, .f_LSH_REG_STATUS_NEW, .f_LSH_REG_STATUS_OPEN, .f_LSH_REG_STATUS_RESULT]

theorem State.homeEdge_frame (s : State) (k : Nat) (c : Chan → Chan) :
    Ok (partMask [.regs, .evt, .prb, .chans, .lsh]) (slotMask slotsLatch) s (s.homeEdge k c) := by
  unfold State.homeEdge
  split
  · exact State.setChan_ok rfl rfl (Ok.refl _ _ s)
  · exact Ok.refl _ _ s

theorem State.homeEdge_prb (s : State) (k : Nat) (c : Chan → Chan) : (s.homeEdge k c).prb = s.prb := by
  unfold State.homeEdge
  split
  · rfl
  · rfl

theorem State.latchEdge_frame (s : State) (k : Nat) (falling : Bool) (t e : Nat) :
    Ok (partMask [.regs, .evt, .prb, .chans, .lsh]) (slotMask slotsLatch) s (s.latchEdge k falling t e) := by
  unfold State.latchEdge
  dsimp only
  split
  · exact State.prbPush_ok rfl rfl (s.homeEdge_frame k _)
  · exact State.setPrb_ok rfl rfl (s.homeEdge_frame k _)

/-- They leave the probe's own configuration and its INPUT alone. -/
theorem slotsLatch_spares {k : Nat} (hk : k < 8) :
    ∀ f ∈ [F.GLB_PRB_CFG_ARM k, F.GLB_PRB_CFG_SHAFT k, F.GLB_PRB_STATUS_INPUT k], spares slotsLatch f := by
  intro f hf
  have low : f.addr < 0x400 := by
    simp only [List.mem_cons, List.not_mem_nil, or_false] at hf
    rcases hf with rfl | rfl | rfl
    all_goals
      simp only [F.GLB_PRB_CFG_ARM, F.GLB_PRB_CFG_SHAFT, F.GLB_PRB_STATUS_INPUT, R.GLB_PRB_CFG, R.GLB_PRB_STATUS]
      omega
  have shafts {b c n : Nat} (hb : 0x400 ≤ b) : f.addr ≠ b + n * c := offset_ne_array (.inl (Nat.lt_of_lt_of_le low hb))
  have place : f.addr % 0x20 = 0 ∨ f.addr % 0x20 = 4 ∧ f.lo = 5 := by
    simp only [List.mem_cons, List.not_mem_nil, or_false] at hf
    rcases hf with rfl | rfl | rfl
    · exact .inl (Nat.add_mul_mod_self_right _ _ _)
    · exact .inl (Nat.add_mul_mod_self_right _ _ _)
    · exact .inr ⟨Nat.add_mul_mod_self_right _ _ _, rfl⟩
  have heads {b m : Nat} (hb : 4 < b % 0x20) : f.addr ≠ b + m * 0x20 := offset_ne_array (.inr (by omega))
  have status {g : Fld} {m i : Nat} (ha : g.addr = R.GLB_PRB_STATUS m) (hg : g.lo + g.w ≤ 5) (lo : f.lo ≤ i) :
      ¬ inFld g f.addr i := by
    rintro ⟨e, -, hi⟩
    rw [ha, R.GLB_PRB_STATUS] at e
    omega
  refine spares_append ?_ ?_
  · simp only [spares, slotsSetPrb, List.forall_mem_cons, List.not_mem_nil, false_imp_iff, implies_true, and_true]
    refine ⟨?_, ?_, ?_, ?_, ?_, ?_, fun _ lo _ ⟨_, h⟩ => status rfl (by simp [F.GLB_PRB_STATUS_LEVEL]) lo h⟩
    iterate 3 exact fun _ _ _ ⟨_, e⟩ => heads (by decide) e
    iterate 3 exact fun _ _ _ ⟨_, e, _⟩ => heads (by decide) e
  · simp only [spares, List.forall_mem_cons, List.not_mem_nil, false_imp_iff, implies_true, and_true]
    refine ⟨fun _ lo _ ⟨_, h⟩ => status rfl (by simp [F.GLB_PRB_STATUS_OVERFLOW]) lo h, ?_, ?_, ?_, ?_, ?_, ?_, ?_, ?_⟩
    iterate 4 exact fun _ _ _ ⟨_, e⟩ => shafts (by decide) e
    iterate 4 exact fun _ _ _ ⟨_, e, _⟩ => shafts (by decide) e

/-! ### What the latch enters -/

theorem State.latchEdge_now {s : State} {k : Nat} (falling : Bool) (t e : Nat) (now : (s.latchPos k).isSome = true)
    (room : (s.prbOf k).fifo.length < 4) :
    ((s.latchEdge k falling t e).prbOf k).fifo.length = (s.prbOf k).fifo.length + 1 := by
  obtain ⟨p, hp⟩ := Option.isSome_iff_exists.mp now
  have prb (c : Chan → Chan) : (s.homeEdge k c).prbOf k = s.prbOf k := by rw [State.prbOf, State.prbOf, State.homeEdge_prb]
  simp only [State.latchEdge, hp]
  rw [State.prbPush_fifo _ (by rwa [prb]), prb, List.length_append, List.length_singleton]

theorem State.latchEdge_waits {s : State} {k : Nat} (falling : Bool) (t e : Nat) (later : s.latchPos k = none) :
    ((s.latchEdge k falling t e).prbOf k).wait.length = (s.prbOf k).wait.length + 1 := by
  have prb (c : Chan → Chan) : (s.homeEdge k c).prbOf k = s.prbOf k := by rw [State.prbOf, State.prbOf, State.homeEdge_prb]
  simp only [State.latchEdge, later]
  rw [State.prbOf_setPrb, prb, List.length_append, List.length_singleton]

/-! ### The edge that counts -/

/-- A counted edge shows in INPUT, and ends a single-shot arming. -/
theorem exec_probeEdge_armed {s : State} {k : Fin 8} {falling : Bool} (ns : Fin 4)
    (counts : edgeCounts (s.g (F.GLB_PRB_CFG_EDGE k)) falling = true) (armed : s.is (F.GLB_PRB_CFG_ARM k) = true) :
    ∃ t, exec (.probeEdge k falling ns) s = .next t ∧ t.is (F.GLB_PRB_CFG_ARM k) = s.is (F.GLB_PRB_CFG_CONT k) ∧
      t.is (F.GLB_PRB_STATUS_INPUT k) = !falling := by
  obtain ⟨t, e, run⟩ := exec_probeEdge_counted ns counts armed
  have frame := State.when_ok (E := partMask [.regs, .evt, .prb, .chans, .lsh]) (W := slotMask slotsLatch)
    (b := ((s.takeEdge k falling).latchEdge k falling t e).is (F.GLB_PRB_CFG_SHAFT k)) (k := fun s => s.regEdge k t) rfl rfl
    ((s.takeEdge k falling).latchEdge_frame k falling t e) fun _ => State.regEdge_ok rfl rfl
  refine ⟨_, run, ?_, ?_⟩
  · rw [State.is_of_spares frame (slotsLatch_spares k.isLt _ (by simp)), State.takeEdge_arm falling armed]
  · rw [State.is_of_spares frame (slotsLatch_spares k.isLt _ (by simp)), State.takeEdge_input]

/-- A counted edge of a probe without SHAFT is latched, and nothing follows. -/
theorem exec_probeEdge_latched {s : State} {k : Fin 8} {falling : Bool} (ns : Fin 4)
    (counts : edgeCounts (s.g (F.GLB_PRB_CFG_EDGE k)) falling = true) (armed : s.is (F.GLB_PRB_CFG_ARM k) = true)
    (shaft : s.is (F.GLB_PRB_CFG_SHAFT k) = false) :
    ∃ t e : Nat, exec (.probeEdge k falling ns) s = .next ((s.takeEdge k falling).latchEdge k falling t e) := by
  obtain ⟨t, e, run⟩ := exec_probeEdge_counted ns counts armed
  refine ⟨t, e, run.trans ?_⟩
  rw [State.is_of_spares (State.latchEdge_frame _ k falling t e) (slotsLatch_spares k.isLt _ (by simp)), State.is_eq,
    State.takeEdge_cfg s k falling rfl rfl, ← State.is_eq, shaft, State.when_false]

end Sys2Proof.Machine
end

section
/-! The load that ends homing (R249, R250). -/

namespace Sys2Proof.Machine

/-- The change of STATE keeps the other fields of the register. -/
theorem State.setChanState_g (s : State) (k st : Nat) {f : Fld} (h : (F.LSP_CH_STATUS_STATE k).bitsApart f = true) :
    (s.setChanState k st).g f = s.g f := by
  unfold State.setChanState
  extract_lets c counted
  refine (State.g_p_bitsApart _ h st).trans ?_
  unfold counted
  split
  · rfl
  · rfl

theorem State.setChanState_state (s : State) (k : Nat) {st : Nat} (h : st < 8) : (s.setChanState k st).chanState k = st := by
  refine (State.g_p_same _ _ (by simp [F.LSP_CH_STATUS_STATE])).trans ?_
  exact Nat.mod_eq_of_lt h

theorem State.setChanState_home (s : State) (k st : Nat) : ((s.setChanState k st).chanOf k).home = (s.chanOf k).home := by
  unfold State.setChanState
  extract_lets c counted
  rw [State.chanOf_p]
  unfold counted
  split
  · rw [State.chanOf_setChan]
  · rfl

/-- Homing has ended with HOMED and no reason, and the channel rests (R250). -/
theorem State.homeDone_homed (s : State) (k : Nat) : (s.homeDone k).is (F.LSP_CH_STATUS_HOMED k) = true ∧
    (s.homeDone k).g (F.LSP_CH_STATUS_HOME_REASON k) = 0 ∧ (s.homeDone k).chanState k = 0 ∧
      ((s.homeDone k).chanOf k).home = .none := by
  unfold State.homeDone
  extract_lets c ty restored limited ended
  refine ⟨?_, ?_, State.setChanState_state _ k (by decide), ?_⟩
  · rw [State.is_eq, State.setChanState_g _ _ _ rfl, State.g_p_bitsApart _ rfl]
    exact State.is_on_same _ rfl
  · rw [State.setChanState_g _ _ _ rfl, State.g_p_same _ _ (by simp [F.LSP_CH_STATUS_HOME_REASON]), Nat.zero_mod]
  · rw [State.setChanState_home, State.chanOf_p, State.on_eq, State.chanOf_p, State.chanOf_setChan]

/-- The homing sequence goes on to its load. -/
def State.beginLoad (s : State) (k : Nat) : State :=
  s.setChan k { s.chanOf k with
    home := .load, homeShift := s.homeTarget k - s.measured k, homeRes := getBits (s.rd (axisWord k 0x200)) 1 2 }

/-- A burst to an axis's block leaves the channels alone. -/
theorem State.writeBlock_chans (s : State) (m : Nat) (words : List (Nat × Word)) :
    (s.writeBlock m words).chans = s.chans := by
  have frame : Ok (partMask [.regs, .ae]) allSlots s (s.writeBlock m words) := State.writeBlock_ok rfl rfl (Ok.refl _ _ s)
  exact frame.2.2.1 .chans rfl

/-- The axis's feedback channel is handed the position to load, with RES_ACTION 0 until it has. -/
def State.handLoad (s : State) (k : Nat) (p : Int) (ctl : Word) : State :=
  wrFbCmd k 1 ((s.writeBlock k [(0x200, putBits ctl 1 2 0)]).wr64 (R.AX_FB_LOAD_LO k) (R.AX_FB_LOAD_HI k) p)

theorem State.handLoad_chanOf (s : State) (k : Nat) (p : Int) (ctl : Word) : (s.handLoad k p ctl).chanOf k = s.chanOf k := by
  have chans : (s.handLoad k p ctl).chans = s.chans := s.writeBlock_chans k [(0x200, putBits ctl 1 2 0)]
  rw [State.chanOf, State.chanOf, chans]

theorem State.handLoad_loadP (s : State) (k : Nat) (p : Int) (ctl : Word) :
    ((s.handLoad k p ctl).fbOf k).loadP.isSome = true := by
  rw [State.handLoad, wrFbCmd_load, State.fbOf_setFb]
  rfl

/-- HOME_LOAD of a channel that waits at standstill. -/
theorem exec_homeLoad_ready {s : State} {k : Fin 40} (stop : (s.chanOf k).home = .stop) (edge : (s.chanOf k).homeAt = none)
    (rest : s.is (F.LSP_CH_STATUS_STANDSTILL k) = true) :
    exec (.homeLoad k) s = .next (if k.val < 16 then
      (s.beginLoad k).handLoad k (s.homeTarget k) (s.rd (axisWord k 0x200))
      else ((s.beginLoad k).loadCount (k - 16) (s.homeTarget k)).homeDone k) := by
  refine (if_neg (by simp [stop, edge, rest])).trans ?_
  dsimp only
  split
  · rfl
  · rfl

/-- HOME_LOAD of a channel that does not. -/
theorem exec_homeLoad_waits {s : State} {k : Fin 40} (h : (s.chanOf k).home ≠ .stop ∨ (s.chanOf k).homeAt.isSome = true ∨
    s.is (F.LSP_CH_STATUS_STANDSTILL k) = false) : exec (.homeLoad k) s = .next s :=
  if_pos (by simpa using h)

/-- Settles O41: an edge is `State.showEdge` alone or `State.takeEdge` and its latch, which spares the probe's configuration;
a home load ends in `State.homeDone`, or hands the position to load to the axis's channel. -/
theorem probesAndHomingTakeEffect : Obligations.ProbesAndHomingTakeEffect := by
  unfold Obligations.ProbesAndHomingTakeEffect
  refine ⟨fun s k falling ns arm => ?_, fun s k falling ns other => ?_, fun s k falling ns arm edge up => ?_,
    fun s k falling ns arm edge down => ?_, fun s k falling ns arm edge => ?_, fun s k falling ns arm edge shaft now => ?_,
    fun s k falling ns arm edge shaft later => ?_, fun s k aux stop edge rest => ?_, fun s k m axis stop edge rest => ?_,
    fun s k h => exec_homeLoad_waits h⟩
  · exact exec_probeEdge_ignored ns (.inr arm)
  · exact exec_probeEdge_ignored ns (.inl (edgeCounts_other other))
  · exact exec_probeEdge_armed ns (edgeCounts_selected (.inr (.inl ⟨edge, up⟩))) arm
  · exact exec_probeEdge_armed ns (edgeCounts_selected (.inr (.inr ⟨edge, down⟩))) arm
  · exact exec_probeEdge_armed ns (edgeCounts_selected (.inl edge)) arm
  · obtain ⟨pos, room⟩ := now
    obtain ⟨t, e, run⟩ := exec_probeEdge_latched ns (edgeCounts_selected edge) arm shaft
    refine ⟨_, run, ?_⟩
    rw [State.latchEdge_now falling t e (by rwa [s.takeEdge_latchPos k.isLt]) (by rwa [s.takeEdge_prbOf]), s.takeEdge_prbOf]
  · obtain ⟨t, e, run⟩ := exec_probeEdge_latched ns (edgeCounts_selected edge) arm shaft
    refine ⟨_, run, ?_⟩
    rw [State.latchEdge_waits falling t e ((s.takeEdge_latchPos k.isLt falling).trans later), s.takeEdge_prbOf]
  · refine ⟨_, exec_homeLoad_ready stop edge rest, ?_⟩
    rw [if_neg (Nat.not_lt.mpr aux)]
    exact State.homeDone_homed _ k
  · refine ⟨_, exec_homeLoad_ready stop edge rest, ?_⟩
    rw [if_pos (axis ▸ m.isLt), State.handLoad_chanOf, State.beginLoad, State.chanOf_setChan, ← axis]
    exact ⟨rfl, rfl, State.handLoad_loadP _ k _ _⟩

end Sys2Proof.Machine
end

section
/-! The control register of an engine (R180 to R183, R187): what AEn_CTL's write-only bits do, and RUN and BG_EN. -/

namespace Sys2Proof.Machine

@[simp] theorem State.aeOf_setAe (s : State) (n : Nat) (x : AeSt) : (s.setAe n x).aeOf n = x := tabGet_set_same _ _ _

@[simp] theorem State.aeOf_wr (s : State) (a : Nat) (v : Word) (n : Nat) : (s.wr a v).aeOf n = s.aeOf n := rfl

@[simp] theorem State.aeOf_p (s : State) (f : Fld) (x n : Nat) : (s.p f x).aeOf n = s.aeOf n := rfl

theorem aeCtl_ne_aeStatus (n : Nat) : R.AE_CTL n ≠ R.AE_STATUS n := by
  simp only [R.AE_CTL, R.AE_STATUS]
  omega

theorem aeCommitStatus_ne_aeStatus (n : Nat) : R.AE_COMMIT_STATUS n ≠ R.AE_STATUS n := by
  simp only [R.AE_COMMIT_STATUS, R.AE_STATUS]
  omega

theorem aeCtl_ne_aeCommitStatus (n : Nat) : R.AE_CTL n ≠ R.AE_COMMIT_STATUS n := by
  simp only [R.AE_CTL, R.AE_COMMIT_STATUS]
  omega

/-! ### The engine's mode -/

theorem State.aeMode_aeOf (s : State) (n : Nat) (m : AeMode) : (s.aeMode n m).aeOf n = { s.aeOf n with mode := m } := by
  rw [State.aeMode, State.pb_eq, State.aeOf_p, State.aeOf_setAe]

theorem State.aeMode_rd (s : State) (n : Nat) (m : AeMode) {a : Nat} (h : a ≠ R.AE_STATUS n) :
    (s.aeMode n m).rd a = s.rd a := by
  rw [State.aeMode, State.pb_eq, State.rd_p_ne _ _ h, State.rd_setAe]

theorem State.bgEntry_rd (s : State) (n : Nat) {a : Nat} (h : a ≠ R.AE_STATUS n) : (s.bgEntry n).rd a = s.rd a := by
  rw [State.bgEntry, State.aeMode_rd _ _ _ h, State.rd_setAe]

/-! ### The held bursts (R185) lie above the engines' registers -/

theorem State.blockWord_ae (s : State) (m o : Nat) (v : Word) : (s.blockWord m o v).ae = s.ae := by
  unfold State.blockWord
  split
  · rfl
  · rfl

theorem State.blockWord_rd (s : State) (m o : Nat) (v : Word) {a : Nat} (h : a < 0x680000) :
    (s.blockWord m o v).rd a = s.rd a := by
  have apart : a ≠ axisWord m o := by
    unfold axisWord
    omega
  unfold State.blockWord
  split
  · exact State.rd_wr_ne _ _ apart
  · exact State.rd_wr_ne _ _ apart

theorem State.applyBursts_keeps {β : Type} (p : State → β) (h : ∀ t m o v, p (State.blockWord t m o v) = p t) (s : State)
    (n : Nat) : p (s.applyBursts n) = p (s.setAe n { s.aeOf n with bursts := [] }) :=
  State.each_keeps p _ (fun _ _ => State.each_keeps p _ (fun _ t => h t _ _ _) _ _) _ _

theorem State.applyBursts_aeOf (s : State) (n : Nat) : (s.applyBursts n).aeOf n = { s.aeOf n with bursts := [] } := by
  have ae := State.applyBursts_keeps State.ae State.blockWord_ae s n
  rw [State.aeOf, ae]
  exact s.aeOf_setAe n _

theorem State.applyBursts_rd (s : State) (n : Nat) {a : Nat} (h : a < 0x680000) : (s.applyBursts n).rd a = s.rd a :=
  State.applyBursts_keeps (fun t => t.rd a) (fun t m o v => t.blockWord_rd m o v h) s n

/-! ### RUN and BG_EN -/

/-- RUN written with its value changes nothing, or sets CTL_REFUSED. -/
theorem State.writeRun_same (s : State) (n : Nat) :
    s.writeRun n (s.is (F.AE_CTL_RUN n)) = s ∨ s.writeRun n (s.is (F.AE_CTL_RUN n)) = s.on (F.AE_STATUS_CTL_REFUSED n) := by
  unfold State.writeRun
  extract_lets refused
  split
  · exact .inr rfl
  · exact .inl (if_pos (beq_self_eq_true _))

theorem State.writeBgEn_same (s : State) (n : Nat) : s.writeBgEn n (s.is (F.AE_CTL_BG_EN n)) = s :=
  if_pos (beq_self_eq_true _)

/-- RUN is set where there is a table (R183). -/
theorem State.writeRun_run {s : State} {n : Nat} (table : (s.aeOf n).table.isSome = true) :
    (s.writeRun n true).is (F.AE_CTL_RUN n) = true ∧
      (s.writeRun n true).is (F.AE_CTL_BG_EN n) = s.is (F.AE_CTL_BG_EN n) := by
  have present : (s.aeOf n).table.isNone = false := by rw [← Option.not_isSome, table]; rfl
  have set : (s.on (F.AE_CTL_RUN n)).is (F.AE_CTL_RUN n) = true ∧
      (s.on (F.AE_CTL_RUN n)).is (F.AE_CTL_BG_EN n) = s.is (F.AE_CTL_BG_EN n) :=
    ⟨s.is_on_same rfl, s.is_p_bitsApart rfl 1⟩
  simp only [State.writeRun, present, if_true, Bool.false_eq_true, if_false]
  split
  · rename_i run
    exact ⟨(beq_iff_eq.mp run).symm, rfl⟩
  · split
    · have ctl := (s.on (F.AE_CTL_RUN n)).bgEntry_rd n (aeCtl_ne_aeStatus n)
      rw [State.is_eq, State.is_eq (f := F.AE_CTL_BG_EN n), State.g_of_rd (f := F.AE_CTL_RUN n) ctl,
        State.g_of_rd (f := F.AE_CTL_BG_EN n) ctl]
      exact set
    · exact set

/-- The engine without a program: nothing of it is staged, and background code starts anew. -/
def AeSt.halted (e : AeSt) : AeSt :=
  { e with
    cmp := [], stage := [], lib := none, fresh := true, yieldDue := false, statusAt := none,
    core := { e.core with delay := none, xDone := false } }

/-- RUN is cleared: the program stops, the held bursts apply, and nothing holds the engine. -/
def State.stopProgram (s : State) (n : Nat) : State :=
  (((s.off (F.AE_CTL_RUN n)).setAe n (s.aeOf n).halted).applyBursts n).aeMode n .idle

/-- RUN is cleared while both units are DISABLED (R183). -/
theorem State.writeRun_stop {s : State} {n : Nat} (run : s.is (F.AE_CTL_RUN n) = true) (a : s.pwmState (2 * n) = 0)
    (b : s.pwmState (2 * n + 1) = 0) : s.writeRun n false = s.stopProgram n := by
  simp only [State.writeRun, a, b, run]
  rfl

theorem State.stopProgram_aeOf (s : State) (n : Nat) :
    (s.stopProgram n).aeOf n = { (s.aeOf n).halted with bursts := [], mode := .idle } := by
  rw [State.stopProgram, State.aeMode_aeOf, State.applyBursts_aeOf, State.aeOf_setAe]

/-- Of AEn_CTL only RUN changes. -/
theorem State.stopProgram_is (s : State) {n : Nat} (hn : n < 8) {f : Fld} (hf : f.addr = R.AE_CTL n) :
    (s.stopProgram n).is f = (s.off (F.AE_CTL_RUN n)).is f := by
  have below : R.AE_CTL n < 0x680000 := by
    simp only [R.AE_CTL]
    omega
  have ctl : (s.stopProgram n).rd (R.AE_CTL n) = (s.off (F.AE_CTL_RUN n)).rd (R.AE_CTL n) := by
    rw [State.stopProgram, State.aeMode_rd _ _ _ (aeCtl_ne_aeStatus n), State.applyBursts_rd _ _ below, State.rd_setAe]
  rw [State.is_eq, State.is_eq, State.g_of_rd (hf ▸ ctl)]

/-- BG_EN takes its value (R187). -/
theorem State.writeBgEn_is (s : State) (n : Nat) (v : Bool) : (s.writeBgEn n v).is (F.AE_CTL_BG_EN n) = v := by
  unfold State.writeBgEn
  split
  · rename_i same
    exact (beq_iff_eq.mp same).symm
  · extract_lets m set engine t e
    have own : t.is (F.AE_CTL_BG_EN n) = v := s.is_pb_same rfl v
    have ctl {u : State} (rd : u.rd (R.AE_CTL n) = t.rd (R.AE_CTL n)) : u.is (F.AE_CTL_BG_EN n) = v := by
      rw [← own, State.is_eq, State.is_eq, State.g_of_rd (f := F.AE_CTL_BG_EN n) rd]
    split
    · split
      · exact ctl (t.bgEntry_rd n (aeCtl_ne_aeStatus n))
      · exact own
    · split
      · exact own
      · exact ctl (State.aeMode_rd _ _ _ (aeCtl_ne_aeStatus n))

/-! ### The write of AEn_CTL -/

/-- The bits of the word that a command writes: its own bit, and RUN and BG_EN as they stand. -/
theorem State.ctlWord_bit (s : State) (n lo : Nat) (b : Bool) {i : Nat} (hi : i < 32) :
    (getBits (s.ctlWord n lo b) i 1 == 1) = if i = lo then b else (s.rd (R.AE_CTL n)).getLsbD i && decide (i < 2) := by
  have three : (3 : Word).getLsbD i = decide (i < 2) := by
    rw [← Nat.testBit_two_pow_sub_one]
    rfl
  rw [getBits_one, State.ctlWord, putBits_getLsbD, BitVec.getLsbD_and, three]
  by_cases own : i = lo
  · subst own
    cases b <;> simp [bit, hi]
  · have apart : ¬ (lo ≤ i ∧ i < lo + 1) := by omega
    rw [if_neg apart, if_neg own, decide_eq_true hi, Bool.true_and]

theorem State.ctlWord_run (s : State) (n : Nat) {lo : Nat} (b : Bool) (h : 0 ≠ lo) :
    (getBits (s.ctlWord n lo b) 0 1 == 1) = s.is (F.AE_CTL_RUN n) := by
  rw [s.ctlWord_bit n lo b (by decide), if_neg h, s.is_eq_bit rfl]
  exact Bool.and_true _

theorem State.ctlWord_bgEn (s : State) (n : Nat) {lo : Nat} (b : Bool) (h : 1 ≠ lo) :
    (getBits (s.ctlWord n lo b) 1 1 == 1) = s.is (F.AE_CTL_BG_EN n) := by
  rw [s.ctlWord_bit n lo b (by decide), if_neg h, s.is_eq_bit rfl]
  exact Bool.and_true _

/-- What the write-only bits of AEn_CTL do: DISCARD_PENDING, COMMIT and FAULT_CLR. -/
def State.ctlActions (s : State) (n : Nat) (v : Word) : State :=
  ((s.when (getBits v 4 1 == 1) fun s => s.discardPending n).when (getBits v 2 1 == 1) fun s => s.commit n).when
    (getBits v 3 1 == 1) fun s => s.aeFaultClr n

theorem wrAeCtl_eq (n : Nat) (v : Word) (s : State) : wrAeCtl n v s =
    ((s.ctlActions n v).writeRun n (getBits v 0 1 == 1)).writeBgEn n (getBits v 1 1 == 1) := rfl

theorem State.ctlActions_commit (s : State) (n : Nat) : s.ctlActions n (s.ctlWord n 2 true) = s.commit n := by
  simp [State.ctlActions, State.ctlWord_bit]

theorem State.ctlActions_faultClr (s : State) (n : Nat) : s.ctlActions n (s.ctlWord n 3 true) = s.aeFaultClr n := by
  simp [State.ctlActions, State.ctlWord_bit]

theorem State.ctlActions_discard (s : State) (n : Nat) : s.ctlActions n (s.ctlWord n 4 true) = s.discardPending n := by
  simp [State.ctlActions, State.ctlWord_bit]

theorem State.ctlActions_none (s : State) (n : Nat) {lo : Nat} (b : Bool) (h : lo < 2) :
    s.ctlActions n (s.ctlWord n lo b) = s := by
  have other {i : Nat} (hi : 2 ≤ i ∧ i < 5) : (getBits (s.ctlWord n lo b) i 1 == 1) = false := by
    rw [s.ctlWord_bit n lo b (by omega), if_neg (by omega), decide_eq_false (by omega), Bool.and_false]
  simp [State.ctlActions, other]

/-- CTL_REFUSED alone stands between the write of a write-only bit and what that bit does: RUN and BG_EN are written with
their values. -/
theorem wrAeCtl_action {s t : State} {n lo : Nat} (h : 2 ≤ lo) (act : s.ctlActions n (s.ctlWord n lo true) = t)
    (ctl : t.rd (R.AE_CTL n) = s.rd (R.AE_CTL n)) :
    (wrAeCtl n (s.ctlWord n lo true) s).ae = t.ae ∧ ∀ f : Fld,
      (f.addr ≠ R.AE_STATUS n ∨ f.lo + f.w ≤ 12 ∨ 13 ≤ f.lo) → (wrAeCtl n (s.ctlWord n lo true) s).g f = t.g f := by
  have run : s.is (F.AE_CTL_RUN n) = t.is (F.AE_CTL_RUN n) := by
    rw [State.is_eq, State.is_eq, State.g_of_rd (f := F.AE_CTL_RUN n) ctl]
  have bg : s.is (F.AE_CTL_BG_EN n) = t.is (F.AE_CTL_BG_EN n) := by
    rw [State.is_eq, State.is_eq, State.g_of_rd (f := F.AE_CTL_BG_EN n) ctl]
  have bgOn : (t.on (F.AE_STATUS_CTL_REFUSED n)).is (F.AE_CTL_BG_EN n) = t.is (F.AE_CTL_BG_EN n) :=
    State.is_p_apart t 1 (.inl (aeCtl_ne_aeStatus n))
  rw [wrAeCtl_eq, act, s.ctlWord_run n true (by omega), s.ctlWord_bgEn n true (by omega), run, bg]
  obtain same | refused := t.writeRun_same n
  · rw [same, State.writeBgEn_same]
    exact ⟨rfl, fun _ _ => rfl⟩
  · rw [refused, ← bgOn, State.writeBgEn_same]
    exact ⟨rfl, fun _ apart => State.g_p_apart t 1 apart⟩

end Sys2Proof.Machine
end

section
/-! The commands on AEn_CTL (R180 to R183, R187) and the writes of an engine's memories (R184, R185). -/

namespace Sys2Proof.Machine

/-! ### COMMIT -/

/-- The slots that a commit checks: those that are enabled. -/
def State.enabledSlots (s : State) (n : Nat) : List SlotF :=
  ((List.range 32).filter fun k => s.is (F.AE_SLOT_CTL_EN n k)).map (s.slotRegs n)

/-- The enabled slots become the pending table, and STATE is 1 (R182). -/
def State.offerTable (s : State) (n : Nat) : State :=
  (s.setAe n { s.aeOf n with
    pending := some ⟨s.tWritten (s.refAxis n), s.tWritten (s.refAxis n) / 5, s.enabledSlots n⟩ }).wr (R.AE_COMMIT_STATUS n) 1

theorem State.offerTable_pending (s : State) (n : Nat) : ((s.offerTable n).aeOf n).pending =
    some ⟨s.tWritten (s.refAxis n), s.tWritten (s.refAxis n) / 5, s.enabledSlots n⟩ := by
  rw [State.offerTable, State.aeOf_wr, State.aeOf_setAe]

theorem State.offerTable_state (s : State) (n : Nat) : (s.offerTable n).g (F.AE_COMMIT_STATUS_STATE n) = 1 := by
  refine (State.g_wr_same _ (F.AE_COMMIT_STATUS_STATE n) 1).trans ?_
  simp [getBits, F.AE_COMMIT_STATUS_STATE]

/-- Enabled slots that pass every check become the pending table (R181, R182). -/
theorem State.commit_passes {s : State} {n : Nat}
    (pass : (s.enabledSlots n).findSome? (fun f => s.commitCheck n (s.enabledSlots n) f) = none) :
    s.commit n = s.offerTable n := by
  have all : (s.enabledSlots n).findSome? (fun f => (s.commitCheck n (s.enabledSlots n) f).map fun x => (f.k, x)) = none := by
    rw [List.findSome?_eq_none_iff] at pass ⊢
    exact fun f hf => by rw [pass f hf, Option.map_none]
  unfold State.commit
  extract_lets enabled t
  rw [show enabled = s.enabledSlots n from rfl, all]
  rfl

/-- A commit that fails shows STATE 3, the reason, the slot, the other slot and the shortfall (R181). -/
def State.showFailure (s : State) (n : Nat) (r : Nat × Nat × Nat × Nat) : State :=
  ((((s.p (F.AE_COMMIT_STATUS_STATE n) 3).p (F.AE_COMMIT_STATUS_REASON n) r.2.1).p (F.AE_COMMIT_STATUS_SLOT n) r.1).p
    (F.AE_COMMIT_STATUS_OTHER n) r.2.2.1).p (F.AE_COMMIT_STATUS_SHORTFALL n) (min r.2.2.2 65535)

theorem State.commit_fails {s : State} {n : Nat} {r : Nat × Nat × Nat × Nat}
    (fail : (s.enabledSlots n).findSome? (fun f => (s.commitCheck n (s.enabledSlots n) f).map fun r => (f.k, r)) = some r) :
    s.commit n = s.showFailure n r := by
  unfold State.commit
  extract_lets enabled t
  rw [show enabled = s.enabledSlots n from rfl, fail]
  rfl

theorem State.showFailure_rd (s : State) (n : Nat) (r : Nat × Nat × Nat × Nat) {a : Nat} (h : a ≠ R.AE_COMMIT_STATUS n) :
    (s.showFailure n r).rd a = s.rd a := by
  have other (t : State) {f : Fld} (x : Nat) (hf : f.addr = R.AE_COMMIT_STATUS n) : (t.p f x).rd a = t.rd a :=
    State.rd_p_ne t x (hf ▸ h)
  rw [State.showFailure, other _ _ rfl, other _ _ rfl, other _ _ rfl, other _ _ rfl, other _ _ rfl]

/-- The fields of AEn_COMMIT_STATUS lie apart. -/
theorem State.showFailure_fields (s : State) (n : Nat) (r : Nat × Nat × Nat × Nat) :
    (s.showFailure n r).g (F.AE_COMMIT_STATUS_STATE n) = 3 ∧
      (s.showFailure n r).g (F.AE_COMMIT_STATUS_REASON n) = r.2.1 % 2 ^ (F.AE_COMMIT_STATUS_REASON n).w ∧
      (s.showFailure n r).g (F.AE_COMMIT_STATUS_SLOT n) = r.1 % 2 ^ (F.AE_COMMIT_STATUS_SLOT n).w := by
  unfold State.showFailure
  refine ⟨?_, ?_, ?_⟩
  · iterate 4 rw [State.g_p_bitsApart _ rfl]
    exact s.g_p_same (f := F.AE_COMMIT_STATUS_STATE n) 3 (by simp [F.AE_COMMIT_STATUS_STATE])
  · iterate 3 rw [State.g_p_bitsApart _ rfl]
    exact State.g_p_same _ _ (by simp [F.AE_COMMIT_STATUS_REASON])
  · iterate 2 rw [State.g_p_bitsApart _ rfl]
    exact State.g_p_same _ _ (by simp [F.AE_COMMIT_STATUS_SLOT])

/-! ### DISCARD_PENDING and FAULT_CLR -/

theorem State.discardPending_some {s : State} {n : Nat} (h : (s.aeOf n).pending.isSome = true) :
    s.discardPending n = (s.setAe n { s.aeOf n with pending := none }).p (F.AE_COMMIT_STATUS_STATE n)
      (if (s.aeOf n).table.isSome then 2 else 0) := if_pos h

/-- The fault fields clear (R180). -/
theorem State.aeFaultClr_fields (s : State) (n : Nat) :
    (s.aeFaultClr n).g (F.AE_STATUS_OVERRUN n) = 0 ∧ (s.aeFaultClr n).g (F.AE_STATUS_FAULT_SLOT n) = 0 ∧
      (s.aeFaultClr n).g (F.AE_STATUS_MISS_A n) = 0 ∧ (s.aeFaultClr n).g (F.AE_STATUS_MISS_B n) = 0 := by
  unfold State.aeFaultClr
  refine ⟨?_, ?_, ?_, ?_⟩
  · iterate 3 rw [State.g_p_bitsApart _ rfl]
    exact State.g_p_same _ _ (by simp [F.AE_STATUS_OVERRUN])
  · iterate 2 rw [State.g_p_bitsApart _ rfl]
    exact State.g_p_same _ _ (by simp [F.AE_STATUS_FAULT_SLOT])
  · rw [State.g_p_bitsApart _ rfl]
    exact State.g_p_same _ _ (by simp [F.AE_STATUS_MISS_A])
  · exact State.g_p_same _ _ (by simp [F.AE_STATUS_MISS_B])

theorem State.aeFaultClr_rd (s : State) (n : Nat) {a : Nat} (h : a ≠ R.AE_STATUS n) : (s.aeFaultClr n).rd a = s.rd a := by
  have other (t : State) {f : Fld} (x : Nat) (hf : f.addr = R.AE_STATUS n) : (t.p f x).rd a = t.rd a :=
    State.rd_p_ne t x (hf ▸ h)
  rw [State.aeFaultClr, other _ _ rfl, other _ _ rfl, other _ _ rfl, State.off_eq, other _ _ rfl, State.rd_setAe]

/-! ### RUN and BG_EN -/

theorem wrAeCtl_run {s : State} {n : Nat} (table : (s.aeOf n).table.isSome = true) :
    (wrAeCtl n (s.ctlWord n 0 true) s).is (F.AE_CTL_RUN n) = true := by
  obtain ⟨run, bg⟩ := State.writeRun_run table
  rw [wrAeCtl_eq, s.ctlActions_none n true (by decide), s.ctlWord_bit n 0 true (by decide), if_pos rfl,
    s.ctlWord_bgEn n true (by decide), ← bg, State.writeBgEn_same, run]

theorem wrAeCtl_stop {s : State} {n : Nat} (hn : n < 8) (run : s.is (F.AE_CTL_RUN n) = true)
    (a : s.pwmState (2 * n) = 0) (b : s.pwmState (2 * n + 1) = 0) :
    wrAeCtl n (s.ctlWord n 0 false) s = s.stopProgram n := by
  have bg : s.is (F.AE_CTL_BG_EN n) = (s.stopProgram n).is (F.AE_CTL_BG_EN n) := by
    rw [s.stopProgram_is hn rfl]
    exact (s.is_p_bitsApart rfl 0).symm
  rw [wrAeCtl_eq, s.ctlActions_none n false (by decide), s.ctlWord_bit n 0 false (by decide), if_pos rfl,
    State.writeRun_stop run a b, s.ctlWord_bgEn n false (by decide), bg, State.writeBgEn_same]

theorem wrAeCtl_bgEn (s : State) (n : Nat) (v : Bool) :
    (wrAeCtl n (s.ctlWord n 1 v) s).is (F.AE_CTL_BG_EN n) = v := by
  rw [wrAeCtl_eq, State.writeBgEn_is, s.ctlWord_bit n 1 v (by decide), if_pos rfl]

/-! ### The words of an axis's block (R185) -/

/-- A burst of words open to the requester is held while a slot bound to the axis runs. -/
theorem State.hostBlock_held {s : State} {rq : Rq} {m : Nat} {words : List (Nat × Word)}
    (opened : ∀ w ∈ words, blockOpen rq w.1 = true) (mode : (s.aeOf (m / 2)).mode = .slot)
    (bound : ((s.aeOf (m / 2)).slot.axes (m / 2)).contains m = true) : s.hostBlock rq m words =
      s.setAe (m / 2) { s.aeOf (m / 2) with
        bursts := (s.aeOf (m / 2)).bursts ++ [words.map fun w => (m * 0x4000 + w.1, w.2)] } := by
  rw [State.hostBlock, List.filter_eq_self.mpr opened]
  exact if_pos ⟨mode, bound⟩

/-- A word that is open to the requester and no register is stored at once while no slot runs. -/
theorem State.hostBlock_stored {s : State} {rq : Rq} {m o : Nat} (v : Word) (opened : blockOpen rq o = true)
    (plain : regRow? (axisWord m o) = none) (mode : (s.aeOf (m / 2)).mode ≠ .slot) :
    s.hostBlock rq m [(o, v)] = s.wr (axisWord m o) v := by
  rw [State.hostBlock, List.filter_eq_self.mpr (by simpa using opened)]
  refine (if_neg fun h => mode h.1).trans ?_
  rw [State.each_cons, State.each_nil, State.blockWord, plain]
  rfl

/-- Settles O16: a command on AEn_CTL is `State.ctlActions`, one step of RUN and one of BG_EN, of which those that it does not
name write what stands there; the writes of the memories are one word, or one burst that is held. -/
theorem engineControlTakesEffect : Obligations.EngineControlTakesEffect := by
  unfold Obligations.EngineControlTakesEffect
  refine ⟨fun s rq n l h slots pass => ?_, fun s rq n l r h slots fail => ?_, fun s rq n h pending => ?_,
    fun s rq n h table => ?_, fun s rq n h run a b => ?_, fun s rq n v h => ?_, fun s rq n h => ?_,
    fun s rq n i v h run => ?_, fun s rq n i v h run => ?_, fun s rq m i v h opened plain mode => ?_,
    fun s rq m i v w h last opened opened' mode bound => ?_⟩
  · subst slots
    obtain ⟨ae, fields⟩ := wrAeCtl_action (by decide) ((s.ctlActions_commit n).trans (State.commit_passes pass))
      ((State.rd_wr_ne _ _ (aeCtl_ne_aeCommitStatus n)).trans State.rd_setAe)
    have engine : (wrAeCtl n (s.ctlWord n 2 true) s).aeOf n = (s.offerTable n).aeOf n := by
      rw [State.aeOf, ae, State.aeOf]
    exact ⟨_, next_write_reaches h, by rw [engine, State.offerTable_pending]; rfl,
      (fields _ (.inl (aeCommitStatus_ne_aeStatus n))).trans (s.offerTable_state n)⟩
  · subst slots
    obtain ⟨ae, fields⟩ := wrAeCtl_action (by decide) ((s.ctlActions_commit n).trans (State.commit_fails fail))
      (s.showFailure_rd n r (aeCtl_ne_aeCommitStatus n))
    have kept : (wrAeCtl n (s.ctlWord n 2 true) s).aeOf n = s.aeOf n := by
      rw [State.aeOf, ae]
      rfl
    obtain ⟨state, reason, slot⟩ := s.showFailure_fields n r
    have apart := aeCommitStatus_ne_aeStatus n
    exact ⟨_, next_write_reaches h, by rw [kept], by rw [kept], (fields _ (.inl apart)).trans state,
      (fields _ (.inl apart)).trans reason, (fields _ (.inl apart)).trans slot⟩
  · obtain ⟨ae, fields⟩ := wrAeCtl_action (by decide) ((s.ctlActions_discard n).trans (State.discardPending_some pending))
      ((State.rd_p_ne _ _ (aeCtl_ne_aeCommitStatus n)).trans State.rd_setAe)
    refine ⟨_, next_write_reaches h, ?_, ?_⟩
    · rw [State.aeOf, ae]
      exact congrArg AeSt.pending (s.aeOf_setAe n _)
    · rw [fields _ (.inl (aeCommitStatus_ne_aeStatus n)), State.g_p_same _ _ (by simp [F.AE_COMMIT_STATUS_STATE])]
      split
      · rfl
      · rfl
  · exact ⟨_, next_write_reaches h, wrAeCtl_run table⟩
  · have off : (s.stopProgram n).is (F.AE_CTL_RUN n) = false := (s.stopProgram_is n.isLt rfl).trans (s.is_off_same rfl)
    have engine := s.stopProgram_aeOf n
    exact ⟨_, next_write_eq h (wrAeCtl_stop n.isLt run a b), off, by rw [engine], by rw [engine]; rfl, by rw [engine]⟩
  · exact ⟨_, next_write_reaches h, wrAeCtl_bgEn s n v⟩
  · obtain ⟨-, fields⟩ := wrAeCtl_action (by decide) (s.ctlActions_faultClr n) (s.aeFaultClr_rd n (aeCtl_ne_aeStatus n))
    obtain ⟨overrun, slot, missA, missB⟩ := s.aeFaultClr_fields n
    refine ⟨_, next_write_reaches h, ?_, ?_, ?_, ?_⟩
    · rw [State.is_eq, fields _ (.inr (.inl (by simp [F.AE_STATUS_OVERRUN]))), overrun]
      rfl
    · rw [fields _ (.inr (.inr (by simp [F.AE_STATUS_FAULT_SLOT]))), slot]
    · rw [fields _ (.inr (.inr (by simp [F.AE_STATUS_MISS_A]))), missA]
    · rw [fields _ (.inr (.inr (by simp [F.AE_STATUS_MISS_B]))), missB]
  · have eq : wrPm n i v s = s.wr (pmAddr n i) v := if_neg (Bool.eq_false_iff.mp run)
    exact ⟨_, next_write_eq h eq, State.rd_wr_same _ _ _, s.sameRegsBut_wr _ _, s.sameBut_wr _ _⟩
  · have eq : wrPm n i v s = s.on (F.AE_STATUS_PM_WRITE_REFUSED n) := if_pos run
    exact ⟨_, next_write_eq h eq, s.is_on_same rfl, s.sameRegsBut_p (F.AE_STATUS_PM_WRITE_REFUSED n) 1⟩
  · have burst : ([v].take (min 16 (4096 - i.val))).zipIdx.map (fun w => (4 * (i.val + w.2), w.1)) = [(4 * i.val, v)] := by
      rw [List.take_of_length_le (by simp; omega)]
      rfl
    have eq := State.hostBlock_stored v opened plain mode
    refine ⟨_, next_write_eq h ((congrArg (s.hostBlock rq m) burst).trans eq), State.rd_wr_same _ _ _,
      s.sameRegsBut_wr _ _, s.sameBut_wr _ _⟩
  · have burst : ([v, w].take (min 16 (4096 - i.val))).zipIdx.map (fun w => (4 * (i.val + w.2), w.1)) =
        [(4 * i.val, v), (4 * (i.val + 1), w)] := by
      rw [List.take_of_length_le (by simp; omega)]
      rfl
    have eq := State.hostBlock_held (words := [(4 * i.val, v), (4 * (i.val + 1), w)])
      (by simpa using ⟨opened, opened'⟩) mode bound
    refine ⟨_, next_write_eq h ((congrArg (s.hostBlock rq m) burst).trans eq), rfl, ?_⟩
    rw [State.aeOf_setAe]
    rfl

end Sys2Proof.Machine
end

section
/-! The refutation of O21: a slot whose number lies beyond the table. -/

namespace Sys2Proof.Machine

/-- AEn_SLOTk_STAT of the slot number 32,752, which no table has, would lie on a word of axis-state memory. -/
theorem aeSlotStat_eq_axisWord : R.AE_SLOT_STAT 0 0x7FF0 = axisWord 0 0xC := by decide

/-- The state after reset, but for engine 0: its program stands at END in a slot of the number 32,752 and has staged a 5 for
the word at offset 0xC of its axis. -/
def State.endOfStraySlot : State :=
  (State.reset.setAe 0 { AeSt.reset with
    mode := .slot, slot := { AeSt.reset.slot with k := 0x7FF0, len := 16 }, stage := [(0xC, 5)] }).wr (pmAddr 0 1) 0x60000000

/-- END takes no cycle here, but the staged word is released over the longest use of the slot. -/
theorem endOfStraySlot_maxUsed : (match exec (.end_ 0) State.endOfStraySlot with
    | .next t => t.g (F.AE_SLOT_STAT_MAX_USED 0 0x7FF0)
    | _ => 0) = 5 := by decide +kernel

/-- Refutes O21: its clause on END says of every state that MAX_USED of the running slot shows the longest use after the
release, but a slot's number is any number in the state, and in `State.endOfStraySlot` it is one whose AEn_SLOTk_STAT is a
word of axis-state memory, which the slot has staged: the release (R178) stores 5 over a longest use of 0 cycles. -/
theorem not_engineFlowOperationsTakeEffect : ¬ Obligations.EngineFlowOperationsTakeEffect := by
  unfold Obligations.EngineFlowOperationsTakeEffect
  rintro ⟨-, -, -, -, -, ended, -⟩
  obtain ⟨t, ht, -, -, -, used⟩ := ended State.endOfStraySlot 0 (by decide +kernel)
  have released := endOfStraySlot_maxUsed
  rw [ht] at released
  have cycles : max (State.endOfStraySlot.g (F.AE_SLOT_STAT_MAX_USED 0 0x7FF0))
      (min ((State.endOfStraySlot.aeOf 0).core.cyc - (State.endOfStraySlot.aeOf 0).start) 65535) = 0 := by decide +kernel
  exact absurd (released.symm.trans (used.trans cycles)) (by decide)

end Sys2Proof.Machine
end

section
/-! The refutation of O23: an autotune stage beyond the third. -/

namespace Sys2Proof.Machine

/-- The state after reset, but for axis 0, whose autotune runs a stage of the number 4. -/
def State.strayStage : State := State.reset.setSup 0 { SupSt.reset with stage := 4 }

/-- What the stage has identified: resonances at 200 and at 100 Hz, with a fit beyond every bound. -/
def strayResult : AtResult := ⟨true, 0x7FFFFFFF, 200, 100, 0⟩

/-- The resonances of a stage that is not stage 3 are delivered as they come. -/
theorem strayStage_firstResonance : (match exec (.atStageDone 0 strayResult) State.strayStage with
    | .next t => t.bw 0 0x2BC
    | _ => 0) = 200 := by decide +kernel

/-- Refutes O23: its clauses on the stages above 2 say of each of them that the resonances are delivered lowest first, but only
stage 3 orders them (R221), the number of a stage is any number in the state, and in `State.strayStage` it is 4: a resonance
at 200 Hz is delivered ahead of one at 100 Hz. -/
theorem not_supervisionCommandsTakeEffect : ¬ Obligations.SupervisionCommandsTakeEffect := by
  unfold Obligations.SupervisionCommandsTakeEffect
  intro beyond
  iterate 39 obtain ⟨-, beyond⟩ := beyond
  obtain ⟨t, ht, -, -, -, first, -⟩ := beyond State.strayStage 0 strayResult (by decide +kernel) rfl (by decide +kernel)
  have delivered := strayStage_firstResonance
  rw [ht] at delivered
  exact absurd (delivered.symm.trans first) (by decide)

end Sys2Proof.Machine
end

section
/-! The start of an X-slot operation (R193, R196): every command of the X slot is `State.issueX` with the result that it leads
to. The arms of the ALU operations stand here. -/

namespace Sys2Proof.Machine

/-- The operation of a legal bundle whose X slot has not issued starts. -/
theorem State.issueX_starts {s : State} {n : Fin 8} {i : Instr} {lat : Nat} {k : AeSt → XRes}
    (run : (s.aeOf n).issuing = true) (free : (s.aeOf n).core.xDone = false) (legal : s.bundleIllegal n = false)
    (here : s.slotX n = some i) : startsX s (s.issueX n i lat k) n lat (k (s.aeOf n)) := by
  simp only [State.issueX, run, free, legal, here, bne_self_eq_false, Bool.not_true, Bool.or_self, Bool.false_eq_true,
    if_false]
  exact ⟨s.aeOf_setAe n _, rfl⟩

/-- A command of the X slot completes with its operation started. -/
theorem next_issueX {s : State} {n : Fin 8} {i : Instr} {lat : Nat} {k : AeSt → XRes} {r : XRes}
    (run : (s.aeOf n).issuing = true) (free : (s.aeOf n).core.xDone = false) (legal : s.bundleIllegal n = false)
    (here : s.slotX n = some i) (result : k (s.aeOf n) = r) :
    ∃ t, (.next (s.issueX n i lat k) : Res) = .next t ∧ startsX s t n lat r :=
  ⟨_, rfl, result ▸ State.issueX_starts run free legal here⟩

/-- A command of the X slot that takes an open value completes with its operation started. -/
theorem next_issueX_took {s : State} {n : Fin 8} {i : Instr} {lat : Nat} {k : AeSt → XRes} {r : XRes}
    (run : (s.aeOf n).issuing = true) (free : (s.aeOf n).core.xDone = false) (legal : s.bundleIllegal n = false)
    (here : s.slotX n = some i) (result : k (s.aeOf n) = r) :
    ∃ t, (.next (s.issueX n i lat k).took : Res) = .next t ∧ startsX s t n lat r :=
  ⟨_, rfl, result ▸ State.issueX_starts run free legal here⟩

/-! ### The sticky S of a saturating result -/

theorem sat32_sticky (x : Int) : (if (sat32 x).2 = true then 16 else 0) = if satI 32 x ≠ x then 16 else 0 := by
  simp only [sat32, decide_eq_true_eq]

theorem AeSt.alu_sat32 (e : AeSt) (rd : Nat) (x : Int) : e.alu rd (sat32 x).1 (sat32 x).2 =
    ⟨[(.d e.bank rd, unsigned 32 (satI 32 x))], none, 3, znOf (unsigned 32 (satI 32 x)), if satI 32 x ≠ x then 16 else 0⟩ := by
  rw [AeSt.alu, sat32_sticky]
  rfl

theorem AeSt.plain_sat32 (e : AeSt) (rd : Nat) (x : Int) : e.plain rd (sat32 x).1 (sat32 x).2 =
    ⟨[(.d e.bank rd, unsigned 32 (satI 32 x))], none, 0, 0, if satI 32 x ≠ x then 16 else 0⟩ := by
  rw [AeSt.plain, sat32_sticky]
  rfl

/-- The immediate of MOVI, read as two's complement. -/
theorem signed_toNat (v : BitVec 16) : signed 16 v.toNat = v.toInt := by
  unfold signed
  rw [Nat.mod_eq_of_lt v.isLt, BitVec.toInt_eq_toNat_cond]
  have := v.isLt
  split <;> split <;> omega

/-! ### The ALU -/

/-- Settles O18: a command of the ALU is `State.issueX` with a latency of one cycle and the result that its clause writes
out. -/
theorem engineAluOperationsStart : Obligations.EngineAluOperationsStart := by
  unfold Obligations.EngineAluOperationsStart
  exact ⟨fun _ _ run free legal here => next_issueX run free legal here rfl,
    fun _ _ _ _ _ run free legal here => next_issueX run free legal here rfl,
    fun _ _ _ _ _ run free legal here => next_issueX run free legal here rfl,
    fun _ _ _ _ run free legal here => next_issueX run free legal here rfl,
    fun _ _ _ _ _ run free legal here => next_issueX run free legal here (AeSt.alu_sat32 _ _ _),
    fun _ _ _ _ _ run free legal here => next_issueX run free legal here (AeSt.alu_sat32 _ _ _),
    fun _ _ _ _ _ run free legal here => next_issueX run free legal here rfl,
    fun _ _ _ _ _ run free legal here => next_issueX run free legal here rfl,
    fun _ _ _ _ _ run free legal here => next_issueX run free legal here rfl,
    fun _ _ _ _ _ run free legal here => next_issueX run free legal here rfl,
    fun _ _ _ _ _ run free legal here => next_issueX run free legal here rfl,
    fun _ _ _ _ _ run free legal here => next_issueX run free legal here rfl,
    fun _ _ _ _ _ run free legal here => next_issueX run free legal here rfl,
    fun _ _ _ _ _ run free legal here => next_issueX run free legal here rfl,
    fun _ _ _ _ run free legal here => next_issueX run free legal here (AeSt.alu_sat32 _ _ _),
    fun _ _ _ _ run free legal here => next_issueX run free legal here (AeSt.alu_sat32 _ _ _),
    fun _ _ _ imm run free legal here => next_issueX run free legal here (by rw [← signed_toNat imm]; rfl),
    fun _ _ _ _ run free legal here => next_issueX run free legal here rfl⟩

end Sys2Proof.Machine
end

section
/-! The multiply-accumulate, division and function operations of the X slot (R196, R197, R201, R202). -/

namespace Sys2Proof.Machine

/-- A sine or cosine lies within 2^-29 of the exact value: the moved value by its own condition, the truncated one because
truncation and the format each move it by less. -/
theorem trigQ31_error {x : Int} (w : Nat) (low : -(2 ^ 60) ≤ x) (high : x ≤ 2 ^ 60) :
    absN (trigQ31 x w * 2 ^ 29 - x) ≤ 2 ^ 31 := by
  unfold trigQ31
  extract_lets t c
  split
  case isTrue moved => exact moved.1
  case isFalse =>
    have truncated : t = satI 32 (x / 2 ^ 29) := congrArg (satI 32) (Int.fdiv_eq_ediv_of_nonneg x (by decide))
    rw [truncated, absN, satI, clampI]
    split
    · omega
    · split
      · omega
      · omega

/-- Settles O19: a command of these units is `State.issueX` with a latency of three cycles and the result that its clause
writes out; those of the function unit take the open value of their result. -/
theorem engineAccumulatorOperationsStart : Obligations.EngineAccumulatorOperationsStart := by
  unfold Obligations.EngineAccumulatorOperationsStart
  exact ⟨fun _ _ _ _ _ run free legal here => next_issueX run free legal here rfl,
    fun _ _ _ _ _ run free legal here => next_issueX run free legal here rfl,
    fun _ _ _ _ _ run free legal here => next_issueX run free legal here rfl,
    fun _ _ _ _ _ run free legal here => next_issueX run free legal here rfl,
    fun _ _ _ _ _ run free legal here => next_issueX run free legal here rfl,
    fun _ _ _ _ _ run free legal here => next_issueX run free legal here rfl,
    fun _ _ _ _ _ run free legal here => next_issueX run free legal here rfl,
    fun _ _ _ _ _ run free legal here => next_issueX run free legal here rfl,
    fun _ _ _ _ _ run free legal here => next_issueX run free legal here (AeSt.plain_sat32 _ _ _),
    fun _ _ _ _ run free legal here => next_issueX run free legal here rfl,
    fun _ _ _ _ _ run free legal here => next_issueX run free legal here rfl,
    fun _ _ _ _ run free legal here => next_issueX_took run free legal here rfl,
    fun _ _ _ _ run free legal here => next_issueX_took run free legal here rfl,
    fun _ _ _ _ run free legal here => next_issueX_took run free legal here rfl,
    fun _ w low high => trigQ31_error w low high⟩

end Sys2Proof.Machine
end

section
/-! The refutation of O20: a post-increment on an engine whose table of pointers is too short. -/

namespace Sys2Proof.Machine

/-- The state after reset, but for engine 0: its background code stands at `ld d0, [P0]` with a post-increment by one word,
and its list of pointers is empty. -/
def State.loadWithoutPointers : State :=
  (State.reset.setAe 0 { AeSt.reset with mode := .bg, core := { AeCore.reset with p := [] } }).wr (pmAddr 0 1) 0x04020001

/-- Without a pointer the update of the post-increment is lost. -/
theorem loadWithoutPointers_p : (match exec (.ld 0 0 (.post 0 1)) State.loadWithoutPointers with
    | .next t => (t.aeOf 0).core.p.getD 0 0
    | _ => 1) = 0 := by decide +kernel

/-- Refutes O20: its clauses on post-increment say of every state that the pointer of the operation reads its update one
cycle later, but the list of the eight pointers has any length in the state, and in `State.loadWithoutPointers` it is empty:
P0 reads 0 after an increment by 4. -/
theorem not_engineMemoryOperationsTakeEffect : ¬ Obligations.EngineMemoryOperationsTakeEffect := by
  unfold Obligations.EngineMemoryOperationsTakeEffect
  rintro ⟨-, -, -, -, -, postIncrement, -⟩
  obtain ⟨t, ht, -, -, moved, -⟩ :=
    postIncrement State.loadWithoutPointers 0 0 0 1 0 (by decide +kernel) (by decide +kernel) rfl (by decide)
  have stays := loadWithoutPointers_p
  rw [ht] at stays
  have update : modUpdate ((State.loadWithoutPointers.aeOf 0).core.p.getD 0 0)
      ((State.loadWithoutPointers.aeOf 0).core.m.getD 0 0) (signed 10 (1 : BitVec 10).toNat) = 4 := by decide +kernel
  exact absurd (stays.symm.trans (moved.trans update)) (by decide)

end Sys2Proof.Machine
end

section
/-! The end of a bundle and the landing of results (R193, R196, R199, R200). -/

namespace Sys2Proof.Machine

/-! ### Results land -/

/-- Results that are not due stay in flight. -/
theorem AeCore.land_none {c : AeCore} (later : ∀ f ∈ c.flights, c.cyc < f.land) : c.land = c := by
  have due : c.flights.filter (fun f => decide (f.land ≤ c.cyc)) = [] :=
    List.filter_eq_nil_iff.mpr fun f hf => by simpa using later f hf
  have stay : c.flights.filter (fun f => decide (c.cyc < f.land)) = c.flights :=
    List.filter_eq_self.mpr fun f hf => by simpa using later f hf
  have status : Nat.lor c.status 0 = c.status := Nat.or_zero _
  simp only [AeCore.land, due, stay, List.foldl_nil, status]

/-- A result for bank 0 that is due and alone lands with its flags. -/
theorem AeCore.land_alu {c : AeCore} {o i v x : Nat} (alone : c.flights = [⟨c.cyc, o, [(.d 0 i, v)], none, 15, x, 0⟩]) :
    c.land = { c with d0 := listSet c.d0 i (v % 2 ^ 32), status := mergeBits 15 x c.status, flights := [] } := by
  simp [AeCore.land, alone, insFlight, landOne, AeCore.put]

theorem mergeBits_testBit (mask x y i : Nat) :
    (mergeBits mask x y).testBit i = (mask.testBit i && x.testBit i || y.testBit i && !mask.testBit i) := by
  refine (Nat.testBit_or (Nat.land mask x) (y - Nat.land mask y) i).trans ?_
  rw [testBit_sub_land]
  exact congrArg (· || _) (Nat.testBit_and mask x i)

theorem listSet_getD {α : Type} {l : List α} {i : Nat} (h : i < l.length) (v d : α) : (listSet l i v).getD i d = v := by
  induction l generalizing i with
  | nil => exact absurd h (Nat.not_lt_zero i)
  | cons y l ih =>
    cases i with
    | zero => rfl
    | succ i => exact ih (Nat.lt_of_succ_lt_succ h)

/-! ### One engine cycle -/

/-- Besides its core a cycle changes at most the status that a yield saves (R205). -/
theorem AeSt.tick_keeps {β : Type} (p : AeSt → β) (h : ∀ e x, p { e with saveStatus := x, statusAt := none } = p e)
    (e : AeSt) : p e.tick = p { e with core := AeCore.land { e.core with cyc := e.core.cyc + 1 } } := by
  unfold AeSt.tick
  extract_lets c
  split
  · exact h _ _
  · rfl

theorem AeSt.tick_core (e : AeSt) : e.tick.core = AeCore.land { e.core with cyc := e.core.cyc + 1 } :=
  AeSt.tick_keeps AeSt.core (fun _ _ => rfl) e

theorem AeSt.tick_mode (e : AeSt) : e.tick.mode = e.mode := AeSt.tick_keeps AeSt.mode (fun _ _ => rfl) e

theorem AeSt.tick_yieldDue (e : AeSt) : e.tick.yieldDue = e.yieldDue :=
  AeSt.tick_keeps AeSt.yieldDue (fun _ _ => rfl) e

/-- A cycle in which no result is due and no saved status is taken counts only itself. -/
theorem AeSt.tick_quiet {e : AeSt} (later : ∀ f ∈ e.core.flights, e.core.cyc + 1 < f.land) (saved : e.statusAt = none) :
    e.tick = { e with core := { e.core with cyc := e.core.cyc + 1 } } := by
  have core : AeCore.land { e.core with cyc := e.core.cyc + 1 } = { e.core with cyc := e.core.cyc + 1 } :=
    AeCore.land_none later
  unfold AeSt.tick
  rw [core]
  exact if_neg (by simp [saved])

/-- An ALU result that is due and alone is in its register of bank 0, with its flags. -/
theorem AeSt.tick_alu {e : AeSt} {o i v x : Nat}
    (alone : e.core.flights = [⟨e.core.cyc + 1, o, [(.d 0 i, v)], none, 15, x, 0⟩]) (there : i < e.core.d0.length) :
    e.tick.core.d0.getD i 0 = v % 2 ^ 32 ∧ e.tick.core.flights = [] ∧ testBit e.tick.core.status 0 = testBit x 0 := by
  rw [e.tick_core, AeCore.land_alu (c := { e.core with cyc := e.core.cyc + 1 }) alone]
  refine ⟨listSet_getD there _ _, rfl, ?_⟩
  rw [testBit_eq, testBit_eq, mergeBits_testBit]
  simp

/-! ### The end of a bundle -/

/-- The engine at the next bundle, before a cycle has passed. -/
def AeSt.onward (e : AeSt) : AeSt := { e with core := { e.core with pc := (e.core.pc + 1) % 8192, xDone := false } }

/-- Where no branch and no loop end is due, the next bundle follows. -/
theorem AeCore.flow_next {c : AeCore} (delay : c.delay = none) (outer : c.endOf 0 = false) (inner : c.endOf 1 = false)
    (free : Bool) : c.flow .next free = { c with pc := (c.pc + 1) % 8192 } := by
  simp [AeCore.flow, delay, outer, inner]

theorem AeSt.close_next {e : AeSt} (delay : e.core.delay = none) (outer : e.core.endOf 0 = false)
    (inner : e.core.endOf 1 = false) (free : Bool) : e.close .next free = e.onward.tick := by
  rw [AeSt.close, AeCore.flow_next delay outer inner]
  rfl

theorem AeSt.bank_of_bg {e : AeSt} (bg : e.mode = .bg) : e.bank = 0 := if_neg (by simp [bg])

theorem AeSt.D_of_bg {e : AeSt} (bg : e.mode = .bg) (i : Nat) : e.D i = e.core.d0.getD i 0 := by
  simp [AeSt.D, AeSt.bank_of_bg bg]

/-- Background code finds the ALU result of a bundle, with its zero flag, as the bundle has ended. -/
theorem AeSt.close_alu {e : AeSt} {o i v x : Nat} (bg : e.mode = .bg) (delay : e.core.delay = none)
    (outer : e.core.endOf 0 = false) (inner : e.core.endOf 1 = false)
    (alone : e.core.flights = [⟨e.core.cyc + 1, o, [(.d 0 i, v)], none, 15, x, 0⟩]) (there : i < e.core.d0.length)
    (free : Bool) :
    (e.close .next free).D i = v % 2 ^ 32 ∧ (e.close .next free).flag 0 = testBit x 0 := by
  rw [AeSt.close_next delay outer inner]
  obtain ⟨value, -, zero⟩ := AeSt.tick_alu (e := e.onward) alone there
  exact ⟨(AeSt.D_of_bg (e.onward.tick_mode.trans bg) i).trans value, zero⟩

theorem State.lateYield_none {s : State} {n : Nat} (yield : (s.aeOf n).yieldDue = false) : s.lateYield n = s := by
  simp [State.lateYield, yield]

@[simp] theorem State.aeOf_took (s : State) (n : Nat) : s.took.aeOf n = s.aeOf n := rfl

/-- An empty Y slot ends its bundle. -/
theorem exec_yNop {s : State} {n : Fin 8} (issues : s.issuesY n (.yNop n) = true) (yield : (s.aeOf n).yieldDue = false) :
    exec (.yNop n) s = .next (s.setAe n ((s.aeOf n).close .next s.freshBool)).took := by
  have late : (s.setAe n ((s.aeOf n).close .next s.freshBool)).took.lateYield n =
      (s.setAe n ((s.aeOf n).close .next s.freshBool)).took :=
    State.lateYield_none ((congrArg AeSt.yieldDue (s.aeOf_setAe n _)).trans ((AeSt.tick_yieldDue _).trans yield))
  change Host.Outcome.next (s.issueY n (.yNop n) fun e => ⟨e, .next, false, []⟩) = _
  unfold State.issueY
  rw [issues]
  exact congrArg Host.Outcome.next late

/-! ### The Y slot behind the X slot -/

/-- Behind an X-slot operation that has started the Y slot of its bundle issues. -/
theorem issuesY_of_startsX {s t : State} {n : Fin 8} {lat : Nat} {r : XRes} {y : Instr} (start : startsX s t n lat r)
    (run : (s.aeOf n).issuing = true) (legal : s.bundleIllegal n = false) (here : s.slotY n = some y) :
    t.issuesY n y = true := by
  obtain ⟨engine, regs⟩ := start
  have rd (a : Nat) : t.rd a = s.rd a := by rw [State.rd, State.rd, regs]
  have x : t.slotX n = s.slotX n := by rw [State.slotX, State.slotX, rd, engine]
  have same : t.slotY n = s.slotY n := by rw [State.slotY, State.slotY, rd, engine]
  have bundle : t.bundleIllegal n = false := by
    rw [← legal, State.bundleIllegal, State.bundleIllegal, x, same, engine]
    rfl
  have holds : (t.aeOf n).issuing = true := by
    rw [engine]
    exact run
  have taken : (t.aeOf n).core.xDone = true := by rw [engine]
  simp [State.issuesY, holds, bundle, same, here, taken]

/-- A bundle of background code with an ALU operation and an empty Y slot leaves the result for the next bundle. -/
theorem aluBundle_lands {s t : State} {n : Fin 8} {rd v x : Nat} (straight : s.straight n)
    (legal : s.bundleIllegal n = false) (empty : s.slotY n = some (.yNop n)) (there : rd < (s.aeOf n).core.d0.length)
    (bg : (s.aeOf n).mode = .bg) (start : startsX s t n 1 ⟨[(.d (s.aeOf n).bank rd, v)], none, 15, x, 0⟩) :
    ∃ u, exec (.yNop n) t = .next u ∧ (u.aeOf n).D rd = v % 2 ^ 32 ∧ (u.aeOf n).flag 0 = testBit x 0 := by
  obtain ⟨run, delay, outer, inner, yield, -, flights⟩ := straight
  have issues := issuesY_of_startsX start run legal empty
  obtain ⟨engine, -⟩ := start
  rw [flights, AeSt.bank_of_bg bg] at engine
  refine ⟨_, exec_yNop issues (by rw [engine]; exact yield), ?_⟩
  rw [State.aeOf_took, State.aeOf_setAe, engine]
  refine AeSt.close_alu (o := 2 * (s.aeOf n).core.cyc + 1) ?_ ?_ ?_ ?_ ?_ ?_ _
  · exact bg
  · exact delay
  · exact outer
  · exact inner
  · rfl
  · exact there

/-! ### The zero flag and the range of a result -/

theorem znCv_zero (v : Nat) (c o : Bool) : testBit (znCv v c o) 0 = decide (v = 0) := by
  rw [testBit, Bool.beq_eq_decide_eq, Nat.pow_zero, Nat.div_one]
  refine decide_eq_decide.mpr ?_
  unfold znCv znOf
  split
  · split
    · omega
    · omega
  · split
    · omega
    · omega

theorem unsigned_mod (w : Nat) (x : Int) : unsigned w x % 2 ^ w = unsigned w x := by
  have pos : (0 : Int) < (2 ^ w : Nat) := Int.natCast_pos.mpr (Nat.two_pow_pos w)
  refine Nat.mod_eq_of_lt ?_
  unfold unsigned
  exact (Int.toNat_lt (Int.emod_nonneg x (Int.ne_of_gt pos))).mpr (Int.emod_lt_of_pos x pos)

/-- Settles O22: what lands in a cycle is what is due there, and an ALU result falls due as its bundle ends. -/
theorem engineResultsLandInTheirCycle : Obligations.EngineResultsLandInTheirCycle := by
  unfold Obligations.EngineResultsLandInTheirCycle
  obtain ⟨-, add, sub, -⟩ := engineAluOperationsStart
  refine ⟨fun e => AeSt.tick_quiet, fun e o i v x => AeSt.tick_alu,
    fun s n rd ra rb straight legal hereX hereY free d0 _ bg => ?_,
    fun s n rd ra rb straight legal hereX hereY free d0 _ bg => ?_⟩
  · obtain ⟨t, ht, start⟩ := add s n rd ra rb straight.1 free legal hereX
    obtain ⟨u, hu, value, zero⟩ := aluBundle_lands straight legal hereY (Nat.lt_of_lt_of_eq rd.isLt d0.symm) bg start
    exact ⟨t, ht, u, hu, value.trans (Nat.mod_mod _ _), zero.trans (znCv_zero _ _ _)⟩
  · obtain ⟨t, ht, start⟩ := sub s n rd ra rb straight.1 free legal hereX
    obtain ⟨u, hu, value, -⟩ := aluBundle_lands straight legal hereY (Nat.lt_of_lt_of_eq rd.isLt d0.symm) bg start
    exact ⟨t, ht, u, hu, value.trans (unsigned_mod _ _)⟩

end Sys2Proof.Machine
end

section
/-! What the stops and the cell fault of one channel write (R19, R28, R253): its own registers and part of the state. -/

namespace Sys2Proof.Machine

/-! ### The registers and parts of one channel -/

/-- The offsets that a stop or the cell fault of channel `k` may write: those of the PWM units, of the auxiliary channels and of
the safety region, two words of the axis's block, and the status registers of the channel and of its follower. -/
def chanWrites (k a : Nat) : Prop :=
  (0x400000 ≤ a ∧ a < 0x600000) ∨ 0x1100000 ≤ a ∨ a = axisWord k 0x3C ∨ a = axisWord k 0x200 ∨
    a = R.LSP_CH_STATUS k ∨ a = R.LSH_FOL_STATUS k

theorem chanWrites_units {k a : Nat} (lo : 0x400000 ≤ a) (hi : a < 0x600000) : chanWrites k a := .inl ⟨lo, hi⟩

theorem chanWrites_safety {k a : Nat} (h : 0x1100000 ≤ a) : chanWrites k a := .inr (.inl h)

theorem chanWrites_chStatus (k : Nat) : chanWrites k (R.LSP_CH_STATUS k) := .inr (.inr (.inr (.inr (.inl rfl))))

theorem chanWrites_folStatus (k : Nat) : chanWrites k (R.LSH_FOL_STATUS k) := .inr (.inr (.inr (.inr (.inr rfl))))

/-- From `s` to `t` at most the registers of channel `k` and the channel itself change, and the global safe state stays. -/
structure chanLocal (k : Nat) (s t : State) : Prop where
  rd : ∀ a, ¬ chanWrites k a → t.rd a = s.rd a
  chan : ∀ j, j ≠ k → t.chanOf j = s.chanOf j
  safe : t.saf.globalSafe = s.saf.globalSafe

namespace chanLocal

variable {k : Nat} {s t u : State}

theorem refl (k : Nat) (s : State) : chanLocal k s s := ⟨fun _ _ => rfl, fun _ _ => rfl, rfl⟩

theorem trans (h : chanLocal k s t) (g : chanLocal k t u) : chanLocal k s u :=
  ⟨fun a w => (g.rd a w).trans (h.rd a w), fun j n => (g.chan j n).trans (h.chan j n), g.safe.trans h.safe⟩

/-- A change outside the registers, the channels and the safety path. -/
theorem of_parts (regs : t.regs = s.regs) (chans : t.chans = s.chans) (safe : t.saf.globalSafe = s.saf.globalSafe) :
    chanLocal k s t :=
  ⟨fun a _ => by rw [State.rd, State.rd, regs], fun j _ => by rw [State.chanOf, State.chanOf, chans], safe⟩

theorem wr (h : chanLocal k s t) {a : Nat} (v : Word) (w : chanWrites k a) : chanLocal k s (t.wr a v) :=
  h.trans ⟨fun _ n => State.rd_wr_ne _ _ fun e => n (e ▸ w), fun _ _ => rfl, rfl⟩

theorem p (h : chanLocal k s t) {f : Fld} (x : Nat) (w : chanWrites k f.addr) : chanLocal k s (t.p f x) := h.wr _ w

theorem setChan (h : chanLocal k s t) (x : Chan) : chanLocal k s (t.setChan k x) :=
  h.trans ⟨fun _ _ => rfl, fun _ n => tabGet_set_ne n _ _, rfl⟩

theorem setAux (h : chanLocal k s t) (c : Nat) (x : AuxSt) : chanLocal k s (t.setAux c x) := h.trans (of_parts rfl rfl rfl)

theorem setAdc (h : chanLocal k s t) (cl : Nat) (x : AdcSt) : chanLocal k s (t.setAdc cl x) :=
  h.trans (of_parts rfl rfl rfl)

theorem when {f : State → State} (h : chanLocal k s t) (hf : ∀ u, chanLocal k u (f u)) (b : Bool) :
    chanLocal k s (t.when b f) := by
  cases b
  · exact h
  · exact h.trans (hf t)

end chanLocal

/-! ### An auxiliary channel -/

section
variable {c : Nat} (hc : c < 24)
include hc

/-- The registers of an auxiliary channel lie among those that a stop may write, and so do those of its cluster's ADC. -/
theorem chanWrites_aux {b : Nat} (lo : 0x500000 ≤ b) (hi : b < 0x504000) (k : Nat) : chanWrites k (b + c * 0x4000) :=
  chanWrites_units (by omega) (by omega)

theorem chanWrites_adc {b : Nat} (lo : 0x560000 ≤ b) (hi : b < 0x560100) (k : Nat) : chanWrites k (b + c / 6 * 0x100) :=
  chanWrites_units (by omega) (by omega)

theorem State.adcStart_local (s : State) (k : Nat) : chanLocal k s (s.adcStart (c / 6)) := by
  unfold State.adcStart
  dsimp only
  split
  · refine chanLocal.p (chanLocal.p (chanLocal.setAdc (.refl k s) _ _) _ ?_) _ ?_
    · exact chanWrites_adc hc (by decide) (by decide) k
    · exact chanWrites_adc hc (by decide) (by decide) k
  · exact .refl k s

end

/-- Only a bridge current has the rank of one. -/
theorem AdcUse.eq_current_of_rank {use : AdcUse} (h : use.rank = AdcUse.current.rank) : use = .current := by
  cases use with
  | current => rfl
  | sample => exact absurd (show (0 : Nat) = 24 from h) (by decide)
  | reference => exact absurd (show (23 : Nat) = 24 from h) (by decide)
  | peak coil =>
    have : 48 + 2 * coil = 24 := h
    omega
  | valley coil =>
    have : 49 + 2 * coil = 24 := h
    omega

/-- The request of a bridge current (R290): one that it discards asked for a bridge current too. -/
theorem State.adcAskAt_local {c : Nat} (hc : c < 24) (s : State) (made : Nat) (limit : Option Nat) (cyc k : Nat) :
    chanLocal k s (s.adcAskAt c .current made limit cyc) := by
  unfold State.adcAskAt
  extract_lets cl same dropped
  have hdropped : chanLocal k s dropped := by
    unfold dropped
    split
    · rename_i r found
      have rank := List.find?_some found
      simp only [same, Bool.and_eq_true, beq_iff_eq] at rank
      obtain ⟨⟨-, rank⟩, -⟩ := rank
      unfold State.adcDrop
      rw [AdcUse.eq_current_of_rank rank]
      exact chanLocal.p (chanLocal.setAdc (.refl k s) _ _) _ (chanWrites_adc hc (by decide) (by decide) k)
    · exact .refl k s
  exact (hdropped.setAdc _ _).trans (State.adcStart_local hc _ k)

section
variable {c : Nat} (hc : c < 24)
include hc

theorem State.bldcPeriod_local (s : State) (k : Nat) : chanLocal k s (s.bldcPeriod c) := by
  unfold State.bldcPeriod
  extract_lets x begun on
  have hbegun : chanLocal k s begun := (chanLocal.refl k s).setAux _ _
  split
  · exact hbegun
  · exact hbegun.trans (State.adcAskAt_local hc _ _ _ _ k)

omit hc in
theorem State.holdPlan_local (s : State) (c : Nat) : chanLocal (16 + c) s (s.holdPlan c) := by
  unfold State.holdPlan
  dsimp only
  split
  · split
    · exact ((chanLocal.refl _ s).setAux _ _).setChan _
    · exact .refl _ s
  · exact .refl _ s

theorem State.bldcStart_local (s : State) (dir : Int) : chanLocal (16 + c) s (s.bldcStart c dir) := by
  refine chanLocal.trans ?_ (State.bldcPeriod_local hc _ _)
  refine (((((((s.holdPlan_local c).setAux _ _).p _ ?_).p _ ?_).p _ ?_).setAux _ _).p _ ?_).p _ ?_
  all_goals exact chanWrites_aux hc (by decide) (by decide) _

theorem State.bldcCoast_local (s : State) (k : Nat) : chanLocal k s (s.bldcCoast c) := by
  refine (((((chanLocal.refl k s).setAux _ _).p _ ?_).p _ ?_).p _ ?_).wr _ ?_
  all_goals exact chanWrites_aux hc (by decide) (by decide) k

theorem State.bldcCheck_local (s : State) : chanLocal (16 + c) s (s.bldcCheck c) := by
  unfold State.bldcCheck
  dsimp only
  split
  · exact .refl _ s
  split
  · exact State.bldcStart_local hc s _
  split
  · exact State.bldcCoast_local hc s _
  · exact .refl _ s

theorem State.dropHeld_local (s : State) : chanLocal (16 + c) s (s.dropHeld c) := by
  unfold State.dropHeld
  split
  · exact .refl _ s
  · exact chanLocal.trans ((chanLocal.refl _ s).setAux _ _) (State.bldcCheck_local hc _)

omit hc in
theorem State.coilRefresh_local (s : State) (c i k : Nat) : chanLocal k s (s.coilRefresh c i) := by
  unfold State.coilRefresh
  dsimp only
  split
  · exact (chanLocal.refl k s).setAux _ _
  split
  · exact .refl k s
  · exact (chanLocal.refl k s).setAux _ _

theorem State.auxMode_local (s : State) : chanLocal (16 + c) s (s.auxMode c) := by
  unfold State.auxMode
  extract_lets coils
  have hcoils : chanLocal (16 + c) s coils := (s.coilRefresh_local c 0 _).trans (State.coilRefresh_local _ c 1 _)
  split
  · exact hcoils.trans (State.bldcCheck_local hc _)
  split
  · refine (((hcoils.p _ ?_).p _ ?_).p _ ?_).wr _ ?_
    all_goals exact chanWrites_aux hc (by decide) (by decide) _
  · exact hcoils

theorem State.refreshAux_local (s : State) : chanLocal (16 + c) s (s.refreshAux c) := by
  refine (((chanLocal.refl _ s).p _ ?_).p _ ?_).trans (State.auxMode_local hc _)
  all_goals exact chanWrites_aux hc (by decide) (by decide) _

end

/-! ### A servo axis -/

theorem chanWrites_pwm {n : Nat} (hn : n < 16) {b : Nat} (lo : 0x400000 ≤ b) (hi : b < 0x410000) (k : Nat) :
    chanWrites k (b + n * 0x10000) :=
  chanWrites_units (by omega) (by omega)

theorem State.engage_local (s : State) (n k : Nat) : chanLocal k s (s.engage n) := by
  unfold State.engage
  split
  · have safety (x : BrkSt) : chanLocal k s (s.setBrk n x) := .of_parts rfl rfl rfl
    refine (safety _).p _ (chanWrites_safety ?_)
    simp only [F.SAF_BRK_STATUS_RELEASED, R.SAF_BRK_STATUS]
    omega
  · exact .refl k s

theorem State.btAbortIf_local (s : State) (cond : Nat → Bool) (reason k : Nat) :
    chanLocal k s (s.btAbortIf cond reason) := by
  unfold State.btAbortIf
  split
  · split
    · unfold State.btEnd
      extract_lets x ended noted moved
      have hended : chanLocal k s ended := .of_parts rfl rfl rfl
      obtain ⟨m, h⟩ := State.journal_keeps moved 8 7 (Config.severity 1648) _
      rw [h]
      refine chanLocal.trans ?_ (.of_parts (s := moved) rfl rfl rfl)
      refine ((((hended.p _ ?_).p _ ?_).p _ ?_).p _ ?_).p _ ?_
      all_goals exact chanWrites_safety (by decide)
    · exact .refl k s
  · exact .refl k s

theorem State.refreshAxis_local {n : Nat} (hn : n < 16) (s : State) (k : Nat) : chanLocal k s (s.refreshAxis n) := by
  have pwm {b : Nat} (lo : 0x400000 ≤ b) (hi : b < 0x410000) := chanWrites_pwm hn lo hi k
  unfold State.refreshAxis
  extract_lets gated held act fell shown engaged
  have hgated : chanLocal k s gated := by
    refine ((chanLocal.refl k s).p _ ?_).p _ ?_
    all_goals exact pwm (by decide) (by decide)
  have hheld : chanLocal k s held := hgated.when (fun u => (chanLocal.refl k u).p _ (pwm (by decide) (by decide))) _
  have hshown : chanLocal k s shown := hheld.p _ (pwm (by decide) (by decide))
  exact (hshown.when (fun u => u.engage_local n k) _).when (fun u => u.btAbortIf_local _ _ k) _

/-! ### Any channel -/

theorem State.blockWord_local (s : State) {k o : Nat} (v : Word) (h : o = 0x3C ∨ o = 0x200) :
    chanLocal k s (s.blockWord k o v) := by
  have w : chanWrites k (axisWord k o) := by
    rcases h with rfl | rfl
    · exact .inr (.inr (.inl rfl))
    · exact .inr (.inr (.inr (.inl rfl)))
  unfold State.blockWord
  split
  · exact (chanLocal.refl k s).wr _ w
  · exact (chanLocal.refl k s).wr _ w

theorem State.writeBlock_local (s : State) {k o : Nat} (v : Word) (h : o = 0x3C ∨ o = 0x200) :
    chanLocal k s (s.writeBlock k [(o, v)]) := by
  unfold State.writeBlock
  dsimp only
  split
  · exact .of_parts rfl rfl rfl
  · exact s.blockWord_local v h

theorem State.chanEvent_local (s : State) (j reason k : Nat) : chanLocal k s (s.chanEvent j reason) := .of_parts rfl rfl rfl

theorem State.homeFail_local (s : State) (k reason : Nat) : chanLocal k s (s.homeFail k reason) := by
  unfold State.homeFail
  extract_lets c ty ended limited restored failed
  split
  · exact .refl k s
  · have hended : chanLocal k s ended := (chanLocal.refl k s).setChan _
    have hlimited : chanLocal k s limited := hended.when (fun u => u.writeBlock_local _ (.inl rfl)) _
    have hrestored : chanLocal k s restored := hlimited.when (fun u => u.writeBlock_local _ (.inr rfl)) _
    refine chanLocal.trans ?_ (State.chanEvent_local failed k 2 k)
    refine ((hrestored.p _ ?_).p _ ?_).p _ ?_
    all_goals exact chanWrites_chStatus k

theorem State.dropFollower_local (s : State) (k : Nat) : chanLocal k s (s.dropFollower k) := by
  unfold State.dropFollower
  split
  · exact (chanLocal.refl k s).p _ (chanWrites_folStatus k)
  · exact .refl k s

theorem State.emptyQueue_local (s : State) (k : Nat) : chanLocal k s (s.emptyQueue k) := by
  unfold State.emptyQueue
  extract_lets x emptied
  have hemptied : chanLocal k s emptied := ((chanLocal.refl k s).setChan _).p _ (chanWrites_chStatus k)
  split
  · rename_i h
    obtain ⟨lo, hi⟩ := Bool.and_eq_true_iff.mp h
    obtain ⟨c, rfl⟩ := Nat.exists_eq_add_of_le (of_decide_eq_true lo)
    have hi := of_decide_eq_true hi
    rw [Nat.add_sub_cancel_left]
    exact hemptied.trans (State.dropHeld_local (by omega) _)
  · exact hemptied

theorem State.setChanState_local (s : State) (k st : Nat) : chanLocal k s (s.setChanState k st) := by
  unfold State.setChanState
  extract_lets x counted
  have hcounted : chanLocal k s counted := by
    unfold counted
    split
    · exact (chanLocal.refl k s).setChan _
    · exact .refl k s
  exact hcounted.p _ (chanWrites_chStatus k)

theorem State.outputsOff_local (s : State) (k : Nat) : chanLocal k s (s.outputsOff k) := by
  unfold State.outputsOff
  split
  · rename_i hk
    refine chanLocal.trans ?_ (State.refreshAxis_local hk _ k)
    refine chanLocal.trans ((chanLocal.refl k s).p _ ?_) (State.engage_local _ k k)
    exact chanWrites_pwm hk (by decide) (by decide) k
  split
  · obtain ⟨c, rfl⟩ := Nat.exists_eq_add_of_le (Nat.le_of_not_lt ‹¬ k < 16›)
    rw [Nat.add_sub_cancel_left]
    have hc : c < 24 := by omega
    exact ((chanLocal.refl _ s).p _ (chanWrites_aux hc (by decide) (by decide) _)).trans (State.refreshAux_local hc _)
  · exact .refl k s

theorem State.offStop_local (s : State) (k : Nat) : chanLocal k s (s.offStop k) := by
  unfold State.offStop
  extract_lets dropped failed x stopped
  have hdropped : chanLocal k s dropped :=
    ((s.outputsOff_local k).trans (State.dropFollower_local _ k)).trans (State.emptyQueue_local _ k)
  have hstopped : chanLocal k s stopped := (hdropped.trans (State.homeFail_local _ k 6)).setChan _
  split
  · exact hstopped
  · exact hstopped.trans (State.setChanState_local _ k 0)

theorem State.chanFault_local (s : State) (k : Nat) : chanLocal k s (s.chanFault k) := by
  unfold State.chanFault
  split
  · exact .refl k s
  · extract_lets dropped x stopped
    have hdropped : chanLocal k s dropped :=
      ((s.homeFail_local k 5).trans (State.dropFollower_local _ k)).trans (State.emptyQueue_local _ k)
    exact ((hdropped.setChan _).trans (State.setChanState_local _ k 7)).trans (State.chanEvent_local _ k 6 k)

end Sys2Proof.Machine
end

section
/-! The cell fault of a channel (R17, R28, R253, R283): an off stop, and then the cell safe state. -/

namespace Sys2Proof.Machine

/-! ### The reaction of a higher level -/

theorem not_chanWrites_region (k : Nat) : ¬ chanWrites k R.GLB_REGION_STATE := by
  simp only [chanWrites, axisWord, R.GLB_REGION_STATE, R.LSP_CH_STATUS, R.LSH_FOL_STATUS]
  omega

/-- What holds the region of a channel stays. -/
theorem chanLocal.contained {k : Nat} {s t : State} (h : chanLocal k s t) (r : Nat) : t.contained r = s.contained r := by
  have region : t.g F.GLB_REGION_STATE_ISOLATED = s.g F.GLB_REGION_STATE_ISOLATED :=
    State.g_of_rd (h.rd _ (not_chanWrites_region k))
  rw [State.contained, State.contained, State.isolated, State.isolated, region, h.safe]

theorem State.higherRuns_eq_false {s : State} {k : Nat} :
    s.higherRuns k = false ↔ s.contained regMotion = false ∧ s.stopLevel k = 0 := by
  rw [State.higherRuns, Bool.or_eq_false_iff, bne_eq_false_iff_eq]

/-- No stop runs in STATE 0 and in STATE 7. -/
theorem State.stopLevel_of_rest {s : State} {k : Nat} (h : s.chanState k = 7 ∨ s.chanState k = 0) : s.stopLevel k = 0 := by
  rcases h with h | h
  · rw [State.stopLevel, h]
    rfl
  · rw [State.stopLevel, h]
    rfl

/-- The level that runs a channel's stop is decided by its STATE and its data. -/
theorem State.stopLevel_congr {s t : State} {k : Nat} (state : t.chanState k = s.chanState k)
    (chan : t.chanOf k = s.chanOf k) : t.stopLevel k = s.stopLevel k := by
  rw [State.stopLevel, State.stopLevel, state, chan]

/-! ### The off stop -/

theorem State.setChanState_plan (s : State) (k st : Nat) : ((s.setChanState k st).chanOf k).plan = (s.chanOf k).plan := by
  unfold State.setChanState
  extract_lets c counted
  rw [State.chanOf_p]
  unfold counted
  split
  · rw [State.chanOf_setChan]
  · rfl

theorem State.offStop_rest (s : State) (k : Nat) : (s.offStop k).chanState k = 7 ∨ (s.offStop k).chanState k = 0 := by
  unfold State.offStop
  extract_lets dropped failed x stopped
  split
  · rename_i h
    exact .inl (beq_iff_eq.mp h)
  · exact .inr (State.setChanState_state _ k (by decide))

theorem State.offStop_plan (s : State) (k : Nat) : ((s.offStop k).chanOf k).plan = none := by
  unfold State.offStop
  extract_lets dropped failed x stopped
  have plan : (stopped.chanOf k).plan = none := by rw [State.chanOf_setChan]
  split
  · exact plan
  · rw [State.setChanState_plan, plan]

theorem State.offStop_higherRuns {s : State} {k : Nat} (h : s.higherRuns k = false) : (s.offStop k).higherRuns k = false := by
  obtain ⟨free, -⟩ := State.higherRuns_eq_false.mp h
  exact State.higherRuns_eq_false.mpr
    ⟨((s.offStop_local k).contained _).trans free, State.stopLevel_of_rest (s.offStop_rest k)⟩

/-! ### The fault of the channel -/

theorem State.chanFault_state (s : State) (k : Nat) : (s.chanFault k).chanState k = 7 := by
  unfold State.chanFault
  split
  · rename_i h
    exact beq_iff_eq.mp h
  · exact State.setChanState_state _ k (by decide)

theorem State.chanFault_plan {s : State} {k : Nat} (h : (s.chanOf k).plan = none) :
    ((s.chanFault k).chanOf k).plan = none := by
  unfold State.chanFault
  split
  · exact h
  · extract_lets dropped x stopped
    have plan : (stopped.chanOf k).plan = none := by rw [State.chanOf_setChan]
    exact (State.setChanState_plan _ k 7).trans plan

/-! ### A servo axis -/

/-- A clear output enable stays clear when the axis follows its causes. -/
theorem State.refreshAxis_outEn_clear {s : State} {n : Nat} (hn : n < 16) (off : s.is (F.AX_PWM_CTL_OUT_EN n) = false) :
    (s.refreshAxis n).is (F.AX_PWM_CTL_OUT_EN n) = false := by
  have status : R.AX_PWM_CTL n ≠ R.AX_PWM_STATUS n := (pwmStatus_ne_pwmCtl n n).symm
  unfold State.refreshAxis
  extract_lets gated held act fell shown engaged
  have gatedOff : gated.is (F.AX_PWM_CTL_OUT_EN n) = false :=
    (State.is_p_apart _ _ (.inl status)).trans ((State.is_p_apart _ _ (.inl status)).trans off)
  have heldOff : held.is (F.AX_PWM_CTL_OUT_EN n) = false := by
    unfold held
    cases gated.fxgHolds n
    · exact gatedOff
    · exact State.is_off_same _ rfl
  have shownOff : shown.is (F.AX_PWM_CTL_OUT_EN n) = false := (State.is_p_apart _ _ (.inl status)).trans heldOff
  have rest : Ok anyParts (slotMask slotsAbovePwm) shown
      (engaged.when fell fun s => s.btAbortIf (fun a => a == n) 2) :=
    State.when_ok rfl rfl (State.when_ok rfl rfl (Ok.refl _ _ _) fun _ => State.engage_ok rfl rfl)
      fun _ => State.btAbortIf_ok rfl rfl
  rw [State.is_of_spares rest (spares_abovePwm (pwmCtl_below hn)), shownOff]

/-- The cell safe state of an axis (R108). -/
theorem State.axisSafe_flags (s : State) {n : Nat} (hn : n < 16) :
    (s.axisSafe n).is (F.AX_PWM_STATUS_FAULT n) = true ∧ (s.axisSafe n).is (F.AX_PWM_CTL_OUT_EN n) = false := by
  have enableBelow := spares_abovePwm (f := F.AX_PWM_CTL_OUT_EN n) (pwmCtl_below hn)
  unfold State.axisSafe
  constructor
  · have frame : Ok anyParts (slotMask slotsDrive) ((s.on (F.AX_PWM_STATUS_FAULT n)).off (F.AX_PWM_CTL_OUT_EN n))
        (((((s.on (F.AX_PWM_STATUS_FAULT n)).off (F.AX_PWM_CTL_OUT_EN n)).engage n).refreshAxis n).chanFault n) :=
      State.chanFault_ok rfl rfl (State.refreshAxis_ok rfl rfl (State.engage_ok rfl rfl (Ok.refl _ _ _)))
    rw [State.is_of_spares frame (slotsDrive_spares hn _ (List.mem_append_right _ List.mem_cons_self)), State.off_eq,
      State.is_p_apart _ _ (.inl (pwmStatus_ne_pwmCtl n n))]
    exact State.is_on_same _ rfl
  · have fault (t : State) : Ok anyParts (slotMask slotsAbovePwm) t (t.chanFault n) :=
      State.chanFault_ok rfl rfl (Ok.refl _ _ t)
    have brake (t : State) : Ok anyParts (slotMask slotsAbovePwm) t (t.engage n) :=
      State.engage_ok rfl rfl (Ok.refl _ _ t)
    rw [State.is_of_spares (fault _) enableBelow]
    refine State.refreshAxis_outEn_clear hn ?_
    rw [State.is_of_spares (brake _) enableBelow]
    exact State.is_off_same _ rfl

/-- The cell fault of an axis that no higher level holds: the cell safe state, perhaps with an event. -/
theorem State.axisFault_flags {s : State} {n : Nat} (hn : n < 16) (free : s.higherRuns n = false) :
    (s.axisFault n).is (F.AX_PWM_STATUS_FAULT n) = true ∧ (s.axisFault n).is (F.AX_PWM_CTL_OUT_EN n) = false := by
  rw [State.axisFault, if_neg (Bool.eq_false_iff.mp free)]
  split
  · exact s.axisSafe_flags hn
  · rw [State.is_raiseSt, State.is_raiseSt]
    exact s.axisSafe_flags hn

/-! ### An auxiliary channel -/

/-- The flags that the cell safe state of an auxiliary channel sets and clears. -/
def auxFlags (c : Nat) : List Fld := [F.AUX_STATUS_FAULT c, F.AUX_CTL_OUT_EN c]

/-- What the refresh and the fault of an auxiliary channel may write. -/
def slotsAuxDrive : List Slot := slotsAbovePwm ++ [.f_AUX_STATUS_STATE, .f_AUX_STATUS_STO_GATED]

theorem slotsAuxDrive_spares {c : Nat} (hc : c < 24) : ∀ f ∈ auxFlags c, spares slotsAuxDrive f := by
  intro f hf
  have place : f = F.AUX_STATUS_FAULT c ∨ f = F.AUX_CTL_OUT_EN c := by
    simpa only [auxFlags, List.mem_cons, List.not_mem_nil, or_false] using hf
  have below : f.addr < 0x560000 := by
    rcases place with rfl | rfl
    · simp only [F.AUX_STATUS_FAULT, R.AUX_STATUS]
      omega
    · simp only [F.AUX_CTL_OUT_EN, R.AUX_CTL]
      omega
  have offset : f.addr % 0x4000 = 8 ∨ f.addr % 0x4000 = 4 := by
    rcases place with rfl | rfl
    · exact .inl (Nat.add_mul_mod_self_right _ _ _)
    · exact .inr (Nat.add_mul_mod_self_right _ _ _)
  have above {b : Nat} (k n : Nat) (hb : 0x560000 ≤ b) : f.addr ≠ b + n * k :=
    offset_ne_array (.inl (Nat.lt_of_lt_of_le below hb))
  have single {b : Nat} (hb : 0x560000 ≤ b) : f.addr ≠ b := Nat.ne_of_lt (Nat.lt_of_lt_of_le below hb)
  have other {b n : Nat} (hb : b % 0x4000 ≠ 8 ∧ b % 0x4000 ≠ 4) : f.addr ≠ b + n * 0x4000 :=
    offset_ne_array (.inr (by omega))
  have arrays : spares slotsArraysAbovePwm f := by
    simp only [spares, slotsArraysAbovePwm, List.forall_mem_cons, List.not_mem_nil, false_imp_iff, implies_true, and_true]
    refine ⟨?_, ?_, ?_, ?_, ?_, ?_, ?_, ?_, ?_, ?_, ?_, ?_, ?_, ?_, ?_, ?_, ?_, ?_, ?_, ?_, ?_, ?_, ?_, ?_, ?_⟩
    iterate 6 exact fun _ _ _ ⟨_, e, _⟩ => other (by decide) e
    iterate 3 exact fun _ _ _ ⟨n, e, _⟩ => above _ n (by decide) e
    iterate 4 exact fun _ _ _ ⟨_, e, _⟩ => other (by decide) e
    all_goals exact fun _ _ _ ⟨n, e, _⟩ => above _ n (by decide) e
  have singles : spares slotsSingleAbovePwm f := by
    simp only [spares, slotsSingleAbovePwm, List.forall_mem_cons, List.not_mem_nil, false_imp_iff, implies_true, and_true]
    and_intros
    all_goals exact fun _ _ _ ⟨e, _⟩ => single (by decide) e
  have words : spares [.r_AUX_VEL, .r_LSP_EN_REQ0, .r_LSP_EN_REQ1, .w_axisWord] f := by
    simp only [spares, List.forall_mem_cons, List.not_mem_nil, false_imp_iff, implies_true, and_true]
    refine ⟨?_, ?_, ?_, ?_⟩
    · exact fun _ _ _ ⟨_, e⟩ => other (by decide) e
    · exact fun _ _ _ e => single (b := R.LSP_EN_REQ0) (by decide) e
    · exact fun _ _ _ e => single (b := R.LSP_EN_REQ1) (by decide) e
    · rintro _ - - ⟨n, m, e⟩
      simp only [axisWord] at e
      omega
  have own : spares [.f_AUX_STATUS_STATE, .f_AUX_STATUS_STO_GATED] f := by
    simp only [spares, List.forall_mem_cons, List.not_mem_nil, false_imp_iff, implies_true, and_true]
    refine ⟨?_, ?_⟩
    · rintro i lo hi ⟨n, e, lo', hi'⟩
      rcases place with rfl | rfl
      · simp only [F.AUX_STATUS_FAULT, F.AUX_STATUS_STATE] at lo hi'
        omega
      · simp only [F.AUX_CTL_OUT_EN, R.AUX_CTL, F.AUX_STATUS_STATE, R.AUX_STATUS] at e
        omega
    · rintro i lo hi ⟨n, e, lo', hi'⟩
      rcases place with rfl | rfl
      · simp only [F.AUX_STATUS_FAULT, F.AUX_STATUS_STO_GATED] at hi lo'
        omega
      · simp only [F.AUX_CTL_OUT_EN, R.AUX_CTL, F.AUX_STATUS_STO_GATED, R.AUX_STATUS] at e
        omega
  exact spares_append (spares_append (spares_append arrays singles) words) own

/-- The cell safe state of an auxiliary channel (R288). -/
theorem State.auxSafe_flags (s : State) {c : Nat} (hc : c < 24) :
    (s.auxSafe c).is (F.AUX_STATUS_FAULT c) = true ∧ (s.auxSafe c).is (F.AUX_CTL_OUT_EN c) = false := by
  have apart : R.AUX_STATUS c ≠ R.AUX_CTL c := by
    simp only [R.AUX_STATUS, R.AUX_CTL]
    omega
  have frame : Ok anyParts (slotMask slotsAuxDrive) ((s.on (F.AUX_STATUS_FAULT c)).off (F.AUX_CTL_OUT_EN c))
      (s.auxSafe c) :=
    State.chanFault_ok rfl rfl (State.refreshAux_ok rfl rfl (Ok.refl _ _ _))
  constructor
  · rw [State.is_of_spares frame (slotsAuxDrive_spares hc _ List.mem_cons_self), State.off_eq,
      State.is_p_apart _ _ (.inl apart)]
    exact State.is_on_same _ rfl
  · rw [State.is_of_spares frame (slotsAuxDrive_spares hc _ (List.mem_cons_of_mem _ List.mem_cons_self))]
    exact State.is_off_same _ rfl

/-- The cell fault of an auxiliary channel that no higher level holds: the cell safe state, perhaps with an event. -/
theorem State.auxFault_flags {s : State} {c : Nat} (hc : c < 24) (free : s.higherRuns (16 + c) = false) :
    (s.auxFault c).is (F.AUX_STATUS_FAULT c) = true ∧ (s.auxFault c).is (F.AUX_CTL_OUT_EN c) = false := by
  rw [State.auxFault, if_neg (Bool.eq_false_iff.mp free)]
  split
  · exact s.auxSafe_flags hc
  · rw [State.is_raiseSt, State.is_raiseSt]
    exact s.auxSafe_flags hc

/-! ### The cell fault of a follower -/

theorem State.raiseSt_local (s : State) (j a k : Nat) : chanLocal k s (s.raiseSt j a) := .of_parts rfl rfl rfl

theorem State.axisFault_local {n : Nat} (hn : n < 16) (s : State) : chanLocal n s (s.axisFault n) := by
  have safe : chanLocal n s (s.axisSafe n) := by
    refine chanLocal.trans ?_ (State.chanFault_local _ n)
    refine chanLocal.trans ?_ (State.refreshAxis_local hn _ n)
    refine chanLocal.trans (((chanLocal.refl n s).p _ ?_).p _ ?_) (State.engage_local _ n n)
    all_goals exact chanWrites_pwm hn (by decide) (by decide) n
  unfold State.axisFault
  split
  · exact .refl n s
  split
  · exact safe
  · exact safe.trans (State.raiseSt_local _ _ _ n)

theorem State.auxFault_local {c : Nat} (hc : c < 24) (s : State) : chanLocal (16 + c) s (s.auxFault c) := by
  have safe : chanLocal (16 + c) s (s.auxSafe c) := by
    refine chanLocal.trans ?_ (State.chanFault_local _ _)
    refine chanLocal.trans (((chanLocal.refl _ s).p _ ?_).p _ ?_) (State.refreshAux_local hc _)
    all_goals exact chanWrites_aux hc (by decide) (by decide) _
  unfold State.auxFault
  split
  · exact .refl _ s
  split
  · exact safe
  · exact safe.trans (State.raiseSt_local _ _ _ _)

theorem State.chanCellFault_local (s : State) (k : Nat) : chanLocal k s (s.chanCellFault k) := by
  unfold State.chanCellFault
  extract_lets stopped
  split
  · exact .refl k s
  have hstopped : chanLocal k s stopped := s.offStop_local k
  split
  · exact hstopped.trans (State.axisFault_local ‹_› _)
  split
  · obtain ⟨c, rfl⟩ := Nat.exists_eq_add_of_le (Nat.le_of_not_lt ‹¬ k < 16›)
    rw [Nat.add_sub_cancel_left]
    exact hstopped.trans (State.auxFault_local (by omega) _)
  · exact hstopped.trans (State.chanFault_local _ k)

/-- A servo axis. -/
theorem State.chanCellFault_axis {s : State} {k : Nat} (hk : k < 16) (free : s.higherRuns k = false) :
    s.chanCellFault k = (s.offStop k).axisFault k :=
  (if_neg (Bool.eq_false_iff.mp free)).trans (if_pos hk)

/-- An auxiliary channel. -/
theorem State.chanCellFault_aux {s : State} {c : Nat} (hc : c < 24) (free : s.higherRuns (16 + c) = false) :
    s.chanCellFault (16 + c) = (s.offStop (16 + c)).auxFault c := by
  have axis : ¬ 16 + c < 16 := Nat.not_lt_of_le (Nat.le_add_right 16 c)
  have aux : 16 + c < 40 := Nat.add_lt_add_left hc 16
  rw [State.chanCellFault, if_neg (Bool.eq_false_iff.mp free), if_neg axis, if_pos aux, Nat.add_sub_cancel_left]

/-- A network axis. -/
theorem State.chanCellFault_network {s : State} {k : Nat} (hk : 40 ≤ k) (free : s.higherRuns k = false) :
    s.chanCellFault k = (s.offStop k).chanFault k := by
  have axis : ¬ k < 16 := by omega
  have aux : ¬ k < 40 := by omega
  rw [State.chanCellFault, if_neg (Bool.eq_false_iff.mp free), if_neg axis, if_neg aux]

end Sys2Proof.Machine
end

section
/-! A lost shaft (R266, R283): what its followers' stops, its switches and its windows leave of LSH_STATUS. -/

namespace Sys2Proof.Machine

/-! ### The configured stops of the followers -/

theorem not_chanWrites_lshStatus (k : Nat) : ¬ chanWrites k R.LSH_STATUS := by
  simp only [chanWrites, axisWord, R.LSH_STATUS, R.LSP_CH_STATUS, R.LSH_FOL_STATUS]
  omega

theorem chanLocal.lshStatus {k : Nat} {s t : State} (h : chanLocal k s t) : t.rd R.LSH_STATUS = s.rd R.LSH_STATUS :=
  h.rd _ (not_chanWrites_lshStatus k)

theorem State.rampFrom_local (s : State) (k : Nat) (t dec : Int) (off : Bool) : chanLocal k s (s.rampFrom k t dec off) := by
  unfold State.rampFrom
  extract_lets r j c level lim keep
  split
  · exact s.offStop_local k
  clear_value keep
  cases keep with
  | some q => exact (s.emptyQueue_local k).setChan _
  | none =>
    refine chanLocal.trans (chanLocal.setChan ?_ _) (State.setChanState_local _ k 3)
    exact (s.dropFollower_local k).trans (State.emptyQueue_local _ k)

theorem State.neverStarted_local (s : State) (k : Nat) : chanLocal k s (s.neverStarted k) :=
  (((chanLocal.refl k s).setChan _).trans (State.setChanState_local _ k 0)).when (fun u => u.outputsOff_local k) _

theorem State.groupStop_lshStatus (s : State) (g : Nat) (t : Int) (quick : Bool) :
    (s.groupStop g t quick).rd R.LSH_STATUS = s.rd R.LSH_STATUS := by
  have status : R.LSH_STATUS ≠ R.LSP_GRP_STATUS g := by
    simp only [R.LSH_STATUS, R.LSP_GRP_STATUS]
    omega
  unfold State.groupStop
  extract_lets x
  split
  · extract_lets r d q stopped
    split
    · rfl
    · refine (State.each_keeps (fun u => u.rd R.LSH_STATUS) _ (fun k u => ?_) _ _).trans (State.rd_p_ne _ _ status)
      dsimp only
      split
      · exact (u.offStop_local k).lshStatus
      · rfl
  · refine (State.rd_p_ne _ _ status).trans ?_
    exact State.each_keeps (fun u => u.rd R.LSH_STATUS) _ (fun k u => (u.neverStarted_local k).lshStatus) _ s

theorem State.pathStop_lshStatus (s : State) (k : Nat) (quick : Bool) :
    (s.pathStop k quick).rd R.LSH_STATUS = s.rd R.LSH_STATUS := by
  unfold State.pathStop
  split
  · exact s.groupStop_lshStatus _ _ quick
  · rfl

theorem State.configuredStop_lshStatus (s : State) (k : Nat) : (s.configuredStop k).rd R.LSH_STATUS = s.rd R.LSH_STATUS := by
  unfold State.configuredStop
  extract_lets kind failed x begun
  split
  · rfl
  have hbegun : begun.rd R.LSH_STATUS = s.rd R.LSH_STATUS := ((s.homeFail_local k 6).setChan _).lshStatus
  split
  · exact (State.offStop_local _ k).lshStatus.trans hbegun
  split
  · exact (State.pathStop_lshStatus _ k false).trans hbegun
  · exact (State.rampFrom_local _ k _ _ _).lshStatus.trans hbegun

/-! ### The switches and the windows -/

/-- What the launches of the switches and the ends of the windows may write. -/
def slotsSwitches : List Slot :=
  [.r_LQ_HEAD_NS, .f_LQ_CANCEL_CNT_COUNT, .f_LQ_STATUS_CODE_ERR, .f_LQ_STATUS_COUNT, .f_LQ_STATUS_ORDER_ERR,
    .f_LQ_STATUS_OVERFLOW, .f_LQ_STATUS_TARGET_REFUSED, .f_LSH_CSW_STATUS_CANCELLED, .f_LSH_CSW_STATUS_STATE,
    .f_LSH_REG_STATUS_NEW, .f_LSH_REG_STATUS_OPEN, .f_LSH_REG_STATUS_RESULT]

theorem slotsSwitches_offLshStatus : ∀ x ∈ slotsSwitches, ∀ i, ¬ x.has R.LSH_STATUS i := by
  simp only [slotsSwitches, List.forall_mem_cons, List.not_mem_nil, false_imp_iff, implies_true, and_true]
  refine ⟨fun _ ⟨_, e⟩ => offset_ne_array (by decide) e, ?_⟩
  and_intros
  all_goals exact fun _ ⟨_, e, _⟩ => offset_ne_array (by decide) e

/-- The loss of a shaft is shown in its STATE, in LOST and in LOST_SEEN. -/
def State.showLost (s : State) (h : Nat) : State :=
  let s := (s.p (F.LSH_SH_STATUS_STATE h) 3).p F.LSH_STATUS_LOST (setBit (s.g F.LSH_STATUS_LOST) h true)
  s.p F.LSH_STATUS_LOST_SEEN (setBit (s.g F.LSH_STATUS_LOST_SEEN) h true)

/-- The followers of a lost shaft run their configured stops. -/
def State.stopFollowers (s : State) (h : Nat) : State :=
  s.each ((List.range 168).filter (s.engagedOn h)) fun k s => s.configuredStop k

/-- The predicted launches of a lost shaft's switches are cancelled, its switches set off and its windows closed. -/
def State.endSwitches (s : State) (h : Nat) : State :=
  let l := (List.range 32).filter fun c => s.g (F.LSH_CSW_CFG_SHAFT c) == h
  let s := s.each l fun c s => (s.cswCancel c).setCsw c ⟨[]⟩
  let s := s.each l fun c s =>
    if s.is (F.LSH_CSW_CFG_EN c) then (s.cswLaunch c s.now false).off (F.LSH_CSW_STATUS_STATE c) else s
  s.each ((List.range 16).filter fun r => s.g (F.LSH_REG_CFG_SHAFT r) == h) fun r s => s.regClose r s.now 5

theorem State.shaftLost_eq (s : State) (h : Nat) : s.shaftLost h =
    let t := ((s.showLost h).stopFollowers h).endSwitches h
    (t.setShaft h { t.shaftOf h with cur := none, past := [], same := [] }).raiseSt (evShaft h) (R.LSH_SH_STATUS h) := rfl

theorem State.stopFollowers_lshStatus (s : State) (h : Nat) :
    (s.stopFollowers h).rd R.LSH_STATUS = s.rd R.LSH_STATUS :=
  State.each_keeps (fun t => t.rd R.LSH_STATUS) _ (fun k t => t.configuredStop_lshStatus k) _ s

theorem State.endSwitches_lshStatus (s : State) (h : Nat) : (s.endSwitches h).rd R.LSH_STATUS = s.rd R.LSH_STATUS := by
  have frame : Ok anyParts (slotMask slotsSwitches) s (s.endSwitches h) := by
    refine State.each_ok rfl rfl (State.each_ok rfl rfl (State.each_ok rfl rfl (Ok.refl _ _ s) ?_) ?_) ?_
    · exact fun c t ht => State.setCsw_ok rfl rfl (State.cswCancel_ok rfl rfl ht)
    · intro c t ht
      split
      · exact State.off_ok rfl rfl (ws_f_LSH_CSW_STATUS_STATE rfl) (State.cswLaunch_ok rfl rfl ht)
      · exact ht
    · exact fun r t ht => State.regClose_ok rfl rfl ht
  exact State.rd_of_ok frame slotsSwitches_offLshStatus

theorem State.shaftLost_seen (s : State) {h : Nat} (hh : h < 8) :
    testBit ((s.shaftLost h).g F.LSH_STATUS_LOST_SEEN) h = true := by
  have seen : (s.shaftLost h).rd R.LSH_STATUS = (s.showLost h).rd R.LSH_STATUS := by
    rw [State.shaftLost_eq]
    exact (State.endSwitches_lshStatus _ h).trans (State.stopFollowers_lshStatus _ h)
  rw [State.g_of_rd (f := F.LSH_STATUS_LOST_SEEN) seen]
  exact State.testBit_g_setBit _ (by decide) hh _

@[simp] theorem State.shaftOf_setShaft (s : State) (h : Nat) (x : ShaftSt) : (s.setShaft h x).shaftOf h = x :=
  tabGet_set_same _ _ _

theorem State.shaftOf_raiseSt (s : State) (j a h : Nat) : (s.raiseSt j a).shaftOf h = s.shaftOf h := rfl

theorem State.shaftLost_cur (s : State) (h : Nat) : ((s.shaftLost h).shaftOf h).cur = none := by
  rw [State.shaftLost_eq]
  dsimp only
  rw [State.shaftOf_raiseSt, State.shaftOf_setShaft]

end Sys2Proof.Machine
end

section
/-! Followers and cam tables (R268 to R275, R283): each command is one write whose effect is the lemma above on that write. -/

namespace Sys2Proof.Machine

/-! ### LSH_FOLk_CMD -/

@[simp] theorem State.folOf_setFol (s : State) (k : Nat) (x : FolSt) : (s.setFol k x).folOf k = x := tabGet_set_same _ _ _

/-- The start that an engagement waits with (R268): START, or the next evaluation instant. -/
def State.engageStart (s : State) (k : Nat) (startAt : Bool) : Option Nat :=
  if startAt then some (s.extendShort (s.rd (R.LSP_CH_START k))) else none

theorem wrFolCmd_engage {s : State} {k : Nat} (startAt : Bool) (good : s.engageBad k = false) :
    wrFolCmd k (BitVec.ofNat 32 (1 + 8 * bit startAt)) s =
      s.setFol k { s.folOf k with engage := some (s.engageStart k startAt) } := by
  cases startAt
  · exact if_neg (Bool.eq_false_iff.mp good)
  · exact if_neg (Bool.eq_false_iff.mp good)

theorem wrFolCmd_applyRatio {s : State} {k : Nat} (engaged : s.g (F.LSH_FOL_STATUS_STATE k) = 2)
    (fresh : (s.folOf k).ratio = false) (den : s.rd (R.LSH_FOL_DEN k) ≠ 0) :
    wrFolCmd k 2 s = s.setFol k { s.folOf k with ratio := true } :=
  if_neg (by rw [engaged, fresh, beq_eq_false_iff_ne.mpr den]; decide)

/-- The follower forgets what waits for its next evaluation instant (R272). -/
def State.forgetWaiting (s : State) (k : Nat) : State := s.setFol k { s.folOf k with engage := none, ratio := false }

theorem wrFolCmd_disengage (s : State) (k : Nat) : wrFolCmd k 3 s =
    if s.g (F.LSH_FOL_STATUS_STATE k) == 0 then s.forgetWaiting k else (s.forgetWaiting k).configuredStop k := rfl

/-- A configured stop leaves what waits in the follower alone. -/
theorem State.configuredStop_folOf (s : State) (k j : Nat) : (s.configuredStop k).folOf j = s.folOf j := by
  have frame : Ok (partMask (Part.allBut [.lsh])) allSlots s (s.configuredStop k) :=
    State.configuredStop_ok rfl rfl (Ok.refl _ _ s)
  have lsh : (s.configuredStop k).lsh = s.lsh := frame.2.2.1 .lsh rfl
  rw [State.folOf, State.folOf, lsh]

theorem wrFolCmd_nextTable {s : State} {k : Nat} (engaged : s.g (F.LSH_FOL_STATUS_STATE k) ≠ 0)
    (cam : s.is (F.LSH_FOL_CFG_CAM_EN k) = true)
    (ready : s.g (F.LSH_CAM_STATUS_STATE (s.g (F.LSH_FOL_CFG_NEXT k))) = 2)
    (same : s.camPoint (s.g (F.LSH_FOL_CFG_TABLE k)) 0 = s.camPoint (s.g (F.LSH_FOL_CFG_NEXT k)) 0) :
    wrFolCmd k 4 s = s.setFol k { s.folOf k with next := some (s.g (F.LSH_FOL_CFG_NEXT k)) } :=
  (if_neg (by rw [beq_eq_false_iff_ne.mpr engaged, cam, ready]; decide)).trans (if_neg (not_not_intro same))

/-! ### LSH_CAMt_STATUS -/

/-- A table shows a state and an error (R274). -/
def State.showCam (s : State) (t st err : Nat) : State :=
  (s.p (F.LSH_CAM_STATUS_STATE t) st).p (F.LSH_CAM_STATUS_ERR t) err

theorem State.showCam_state (s : State) (t : Nat) {st : Nat} (h : st < 4) (err : Nat) :
    (s.showCam t st err).g (F.LSH_CAM_STATUS_STATE t) = st := by
  rw [State.showCam, State.g_p_bitsApart _ rfl, State.g_p_same _ _ (by decide : (0 : Nat) + 2 ≤ 32)]
  exact Nat.mod_eq_of_lt h

theorem State.showCam_err (s : State) (t st : Nat) {err : Nat} (h : err < 8) :
    (s.showCam t st err).g (F.LSH_CAM_STATUS_ERR t) = err := by
  rw [State.showCam, State.g_p_same _ _ (by decide : (2 : Nat) + 3 ≤ 32)]
  exact Nat.mod_eq_of_lt h

theorem State.showCam_rest (s : State) (t st err : Nat) : sameRegsBut [R.LSH_CAM_STATUS t] s (s.showCam t st err) :=
  sameRegsBut_trans (s.sameRegsBut_wr _ _) (State.sameRegsBut_wr _ _ _)

/-! ### LSH_CAMt_CMD -/

theorem wrCamCmd_commit (s : State) (t : Nat) : wrCamCmd t 1 s = s.camLoad t := rfl

theorem wrCamCmd_release {s : State} {t : Nat} (unused : s.camUse t = 0) : wrCamCmd t 2 s = s.showCam t 0 0 :=
  if_pos (by rw [unused]; rfl)

/-- The points of a table are stored with N and LIFT (R273). -/
def State.storeCam (s : State) (t : Nat) : State :=
  let n := s.g (F.LSH_CAM_N_N t)
  let s := s.ipmPut s.ipm.device (camAddr t)
    (s.ipmBytes (s.keyOf (s.holder .lshCam).poolCode) (s.bufAddr (s.rd (R.LSH_CAM_HANDLE t))) (4 * n))
  s.setCam t ⟨n, (s.rd (R.LSH_CAM_LIFT t)).int⟩

theorem State.ipmPut_regs (s : State) (key a : Nat) (l : List Byte) : (s.ipmPut key a l).regs = s.regs := by
  have frame : Ok (partMask [.mem, .ipm]) 0 s (s.ipmPut key a l) := State.ipmPut_ok rfl rfl (Ok.refl _ _ s)
  exact frame.2.2.1 .regs rfl

theorem State.storeCam_regs (s : State) (t : Nat) : (s.storeCam t).regs = s.regs := s.ipmPut_regs _ _ _

/-- A commit that passes its checks stores the table and computes (R273, R274). -/
theorem State.camLoad_passes {s : State} {t : Nat}
    (handle : s.handleErr (s.holder .lshCam).poolCode false (s.rd (R.LSH_CAM_HANDLE t)) = none)
    (least : 4 ≤ s.g (F.LSH_CAM_N_N t)) (most : s.g (F.LSH_CAM_N_N t) ≤ 65536)
    (fits : 4 * s.g (F.LSH_CAM_N_N t) ≤ classSize (handleClass (s.rd (R.LSH_CAM_HANDLE t)))) (unused : s.camUse t = 0)
    (sound : s.ipmPoison (s.bufAddr (s.rd (R.LSH_CAM_HANDLE t))) (4 * s.g (F.LSH_CAM_N_N t)) = none) :
    s.camLoad t = (s.storeCam t).showCam t 1 0 := by
  have size : (decide (s.g (F.LSH_CAM_N_N t) < 4) || decide (65536 < s.g (F.LSH_CAM_N_N t)) ||
      decide (classSize (handleClass (s.rd (R.LSH_CAM_HANDLE t))) < 4 * s.g (F.LSH_CAM_N_N t))) = false := by
    simp only [Bool.or_eq_false_iff, decide_eq_false_iff_not]
    omega
  unfold State.camLoad
  dsimp only
  rw [handle]
  dsimp only
  rw [if_neg (Bool.eq_false_iff.mp size), if_neg (by rw [unused]; decide), if_neg (by rw [sound]; decide)]
  rfl

/-! ### Storage errors -/

/-- What every change keeps, and one of them establishes while a condition that all keep holds, a sequence establishes. -/
theorem State.each_establishes_while {α : Type} {P Q : State → Prop} {k : α → State → State} {l : List α} {x : α}
    (hx : x ∈ l) (stay : ∀ y t, Q t → Q (k y t)) (make : ∀ t, Q t → P (k x t)) (keep : ∀ y t, P t → P (k y t)) {s : State}
    (hs : Q s) : P (s.each l k) := by
  obtain ⟨before, after, rfl⟩ := List.append_of_mem hx
  have cut : s.each (before ++ x :: after) k = (k x (s.each before k)).each after k := by
    simp only [State.each, List.foldl_append, List.foldl_cons]
  rw [cut]
  exact State.each_preserves (fun y _ => keep y) (make _ (State.each_preserves (fun y _ => stay y) hs))

theorem not_chanWrites_camStatus {k c : Nat} (hk : k < 168) (hc : c < 64) : ¬ chanWrites k (R.LSH_CAM_STATUS c) := by
  simp only [chanWrites, axisWord, R.LSH_CAM_STATUS, R.LSP_CH_STATUS, R.LSH_FOL_STATUS]
  omega

theorem not_chanWrites_otherStatus {j k : Nat} (hk : k < 168) (h : k ≠ j) : ¬ chanWrites j (R.LSP_CH_STATUS k) := by
  simp only [chanWrites, axisWord, R.LSP_CH_STATUS, R.LSH_FOL_STATUS]
  omega

/-- The cell fault of another channel leaves a channel's STATE alone. -/
theorem State.chanCellFault_otherState (s : State) {j k : Nat} (hk : k < 168) (h : k ≠ j) :
    (s.chanCellFault j).chanState k = s.chanState k :=
  State.g_of_rd ((s.chanCellFault_local j).rd _ (not_chanWrites_otherStatus hk h))

/-- A network axis in its cell fault stays there. -/
theorem State.chanCellFault_keeps_fault {s : State} {k : Nat} (h : 40 ≤ k) (hk : k < 168) (j : Nat)
    (fault : s.chanState k = 7) : (s.chanCellFault j).chanState k = 7 := by
  by_cases e : k = j
  · subst e
    cases free : s.higherRuns k
    · rw [State.chanCellFault_network h free]
      exact State.chanFault_state _ k
    · rw [State.chanCellFault, if_pos free, fault]
  · rw [s.chanCellFault_otherState hk e, fault]

/-- A cell fault starts no reaction of a higher level on a network axis. -/
theorem State.chanCellFault_keeps_free {s : State} {k : Nat} (h : 40 ≤ k) (hk : k < 168) (j : Nat)
    (free : s.higherRuns k = false) : (s.chanCellFault j).higherRuns k = false := by
  obtain ⟨region, level⟩ := State.higherRuns_eq_false.mp free
  refine State.higherRuns_eq_false.mpr ⟨((s.chanCellFault_local j).contained _).trans region, ?_⟩
  by_cases e : k = j
  · subst e
    rw [State.chanCellFault_network h free]
    exact State.stopLevel_of_rest (.inl (State.chanFault_state _ k))
  · rw [State.stopLevel_congr (s.chanCellFault_otherState hk e) ((s.chanCellFault_local j).chan k e), level]

/-- The followers whose cam is a table. -/
def State.camFollowers (s : State) (c : Nat) : List Nat :=
  (List.range 168).filter fun k => s.g (F.LSH_FOL_STATUS_STATE k) != 0 && s.is (F.LSH_FOL_CFG_CAM_EN k) &&
    s.g (F.LSH_FOL_CFG_TABLE k) == c

/-- A table shows a storage error, and its followers enter their cell fault. -/
def State.failCam (s : State) (c : Nat) : State :=
  (s.showCam c 3 4).each (s.camFollowers c) fun k s => s.chanCellFault k

theorem exec_lshStorageError_cam (s : State) (c : Fin 64) : exec (.lshStorageError (.cam c)) s = .next (s.failCam c) := rfl

/-- The cell faults leave the status of the table alone. -/
theorem State.failCam_status (s : State) {c : Nat} (hc : c < 64) :
    (s.failCam c).rd (R.LSH_CAM_STATUS c) = (s.showCam c 3 4).rd (R.LSH_CAM_STATUS c) :=
  State.each_preserves (P := fun t => t.rd (R.LSH_CAM_STATUS c) = (s.showCam c 3 4).rd (R.LSH_CAM_STATUS c))
    (fun k hk t ht => ((t.chanCellFault_local k).rd _
      (not_chanWrites_camStatus (List.mem_range.mp (List.mem_filter.mp hk).1) hc)).trans ht) rfl

/-- The status of a table does not decide whether a higher level holds a channel. -/
theorem State.showCam_higherRuns (s : State) {k : Nat} (hk : k < 168) (c st err : Nat) :
    (s.showCam c st err).higherRuns k = s.higherRuns k := by
  have rd {a : Nat} (h : a < 0x884010) : (s.showCam c st err).rd a = s.rd a :=
    s.showCam_rest c st err a (by simp only [List.mem_singleton, R.LSH_CAM_STATUS]; omega)
  have state : (s.showCam c st err).chanState k = s.chanState k :=
    State.g_of_rd (rd (by simp only [F.LSP_CH_STATUS_STATE, R.LSP_CH_STATUS]; omega))
  have region : (s.showCam c st err).g F.GLB_REGION_STATE_ISOLATED = s.g F.GLB_REGION_STATE_ISOLATED :=
    State.g_of_rd (rd (by decide))
  rw [State.higherRuns, State.higherRuns, State.stopLevel_congr state rfl, State.contained, State.contained,
    State.isolated, State.isolated, region]
  rfl

/-- A network axis that follows the table enters its cell fault. -/
theorem State.failCam_follower {s : State} {c k : Nat} (follows : k ∈ s.camFollowers c) (h : 40 ≤ k) (hk : k < 168)
    (free : s.higherRuns k = false) : (s.failCam c).chanState k = 7 := by
  refine State.each_establishes_while (P := fun t => t.chanState k = 7) (Q := fun t => t.higherRuns k = false) follows ?_ ?_ ?_
    ((s.showCam_higherRuns hk c 3 4).trans free)
  · exact fun j t => State.chanCellFault_keeps_free h hk j
  · intro t ht
    rw [State.chanCellFault_network h ht]
    exact State.chanFault_state _ k
  · exact fun j t => State.chanCellFault_keeps_fault h hk j

/-- Settles O27: a command of a follower or of a table is a write that reaches its register, and a storage error is
`State.chanCellFault`, `State.shaftLost` or `State.failCam`. -/
theorem followersAndCamsTakeEffect : Obligations.FollowersAndCamsTakeEffect := by
  unfold Obligations.FollowersAndCamsTakeEffect
  refine ⟨fun s rq k startAt h good => ?_, fun s rq k h engaged fresh den => ?_, fun s rq k h idle => ?_,
    fun s rq k u h engaged hu => ?_, fun s rq k h engaged cam ready same => ?_,
    fun s rq c h handle least most fits unused sound => ?_, fun s c computes => ?_, fun s rq c h unused => ?_,
    fun s k hk free => ?_, fun s k lo hi free => ?_, fun s k hk free => ?_, fun s c => ?_,
    fun s c k engaged cam table hk free => ?_, fun s h => ?_⟩
  · refine ⟨_, next_write_eq h (wrFolCmd_engage startAt good), ?_, rfl⟩
    rw [State.folOf_setFol]
    rfl
  · refine ⟨_, next_write_eq h (wrFolCmd_applyRatio engaged fresh den), ?_, rfl⟩
    rw [State.folOf_setFol]
  · refine ⟨s.forgetWaiting k, next_write_eq h ((wrFolCmd_disengage s k).trans (if_pos (beq_iff_eq.mpr idle))), ?_, ?_, rfl⟩
    · rw [State.forgetWaiting, State.folOf_setFol]
    · rw [State.forgetWaiting, State.folOf_setFol]
  · refine ⟨u, next_write_eq h ?_, rfl, ?_, ?_⟩
    · exact ((wrFolCmd_disengage s k).trans (if_neg (fun e => engaged (beq_iff_eq.mp e)))).trans hu.symm
    · rw [hu, State.configuredStop_folOf, State.folOf_setFol]
    · rw [hu, State.configuredStop_folOf, State.folOf_setFol]
  · refine ⟨_, next_write_eq h (wrFolCmd_nextTable engaged cam ready same), ?_, rfl⟩
    rw [State.folOf_setFol]
  · refine ⟨_, next_write_eq h ((wrCamCmd_commit s c).trans (State.camLoad_passes handle least most fits unused sound)),
      State.showCam_state _ c (by decide) 0, State.showCam_err _ c 1 (by decide), ?_⟩
    exact sameRegsBut_trans (sameRegsBut_of_regs _ (s.storeCam_regs c)) (State.showCam_rest _ c 1 0)
  · refine ⟨_, if_pos (beq_iff_eq.mpr computes), ?_, s.sameRegsBut_wr _ _, s.sameBut_wr _ _⟩
    exact s.g_p_same 2 (by decide : (0 : Nat) + 2 ≤ 32)
  · exact ⟨_, next_write_eq h (wrCamCmd_release unused), s.showCam_state c (by decide) 0, s.showCam_err c 0 (by decide),
      s.showCam_rest c 0 0⟩
  · refine ⟨s.chanCellFault k, rfl, ?_⟩
    rw [State.chanCellFault_axis hk free]
    exact State.axisFault_flags hk (State.offStop_higherRuns free)
  · obtain ⟨k, hk⟩ := k
    obtain ⟨c, rfl⟩ := Nat.exists_eq_add_of_le lo
    have hc : c < 24 := by
      simp only at hi
      omega
    refine ⟨s.chanCellFault (16 + c), rfl, ?_⟩
    rw [State.chanCellFault_aux hc free]
    simp only [Nat.add_sub_cancel_left]
    exact State.auxFault_flags hc (State.offStop_higherRuns free)
  · refine ⟨s.chanCellFault k, rfl, ?_⟩
    rw [State.chanCellFault_network hk free]
    exact ⟨State.chanFault_state _ k, State.chanFault_plan (s.offStop_plan k)⟩
  · refine ⟨_, exec_lshStorageError_cam s c, ?_, ?_⟩
    · exact (State.g_of_rd (s.failCam_status c.isLt)).trans (s.showCam_state c (by decide) 4)
    · exact (State.g_of_rd (s.failCam_status c.isLt)).trans (s.showCam_err c 3 (by decide))
  · refine ⟨_, exec_lshStorageError_cam s c, State.failCam_follower ?_ hk k.isLt free⟩
    exact List.mem_filter.mpr ⟨List.mem_range.mpr k.isLt, by rw [bne_iff_ne.mpr engaged, cam, table, BEq.rfl]; rfl⟩
  · exact ⟨s.shaftLost h, rfl, s.shaftLost_cur h, s.shaftLost_seen h.isLt⟩

end Sys2Proof.Machine
end
